-- ==== Sys2Proof/Word.lean ====
section
/-! DEFINITION. The word types of the hub and their plainest arithmetic. -/
namespace Sys2Proof

/-- A register or a word of a structure (spec/00_scope.md "Names": registers are 32 bits wide). -/
abbrev Word := BitVec 32

/-- One byte. -/
abbrev Byte := BitVec 8

/-- A word from its value. -/
abbrev Word.ofNat (n : Nat) : Word := BitVec.ofNat 32 n

/-- A sparse table: keys with their entries, in the order the operations of Machine/Operands.lean keep.
A key that is not listed holds the table's default entry. -/
structure Tbl (α : Type) where
  cells : List (Nat × α) := []
deriving DecidableEq, Repr

end Sys2Proof
end

