-- ==== Sys2Proof/Syntax.lean ====
section
/-! DEFINITION. The commands the hub takes: one constructor per row of spec/opcode_table.json. The operands carry what
comes from outside the hub (a register's written word, a frame's bytes, a measured value); a constructor's rule is in its docstring.
The commands with operands stand first, each group in the table's order. -/
namespace Sys2Proof

/-- The commands (spec/opcode_table.json). -/
inductive Instr where
  /-- R8. A BAR0 write to a register that has no row of its own sets, clears or is discarded according to its access type and checks. -/
  | registerWrite (bar2 : Bool) (ofs : Nat) (n : Nat) (v : Word) (w : Word)
  /-- R10. A write of CLR to a block's PREFIX_ERRSTS sets CODE, COUNT and WORD to zero. -/
  | errstsClr (ofs : Nat) (v : Word)
  /-- R500. A received TIME REQ flit is answered with a RESP carrying t2 and t3 within 2 µs, whatever the epoch. -/
  | timeReq (p : Nat) (pl : List Nat) (lat : Nat)
  /-- R35. A usable TIME RESP yields offset and path delay, and the servo steps or slews CT and updates its lock state. -/
  | timeResp (p : Nat) (pl : List Nat)
  /-- R44. A SYNC input edge is captured in CT, offered to the event matrix and timers, and accepted or rejected by discipline. -/
  | syncEdgeInput (fall : Bool)
  /-- R45. A write of TIM_SYNCUTCHI sets the UTC of the next edge and clears TIM_SYNCREJ. -/
  | syncutcWrite (v : Word)
  /-- R52. Writing EN of TIM_TUxCTL starts the unit at once or arms it to start at TUxSTART. -/
  | timerEnable (x : Nat) (v : Word)
  /-- R52. CT reaching TUxSTART starts a unit armed with STARTCT. -/
  | timerStartAtCt (x : Nat)
  /-- R50. A write of TUxCNTHI loads the counter while EN is clear, or is discarded with NOT_IN_STATE. -/
  | timerCounterWrite (x : Nat) (v : Word)
  /-- R53. A write of TUxCMPyHI takes the compare value and arms the channel. -/
  | compareArm (x : Nat) (y : Nat) (v : Word)
  /-- R53. An armed compare channel matching counter or CT sets MATCH, produces its event, applies PINACT and disarms or reloads. -/
  | compareMatch (x : Nat) (y : Nat)
  /-- R55. A selected edge of a capture source records counter and CT in the four-entry queue, overwriting the oldest when full. -/
  | captureEntry (x : Nat) (fall : Bool)
  /-- R55. A read of TUxCAPyCNTLO holds the head entry until it is popped. -/
  | captureHeadHold (x : Nat) (y : Nat)
  /-- R55. A read of TUxCAPyCTHI returns and pops the head entry. -/
  | capturePop (x : Nat) (y : Nat)
  /-- R63. Writing CLR of TUxCAPyCTL empties the capture queue and clears LOST. -/
  | captureClr (x : Nat) (y : Nat) (v : Word)
  /-- R78. Writing EN of CRS_BxCFG checks the fit and starts the bus cycle grid with FRESH beacons. -/
  | busEnable (b : Nat) (v : Word)
  /-- R78. At each grid instant the hub sends the bus beacon with CTREF, sample-at, correction and probation entries. -/
  | beaconTransmit (b : Nat)
  /-- R76. A DATA frame in a slot, probation position or sub-slot is checked, attributed by ADDR, measured for drift and its sections passed on. -/
  | dataFrameReceived (b : Nat) (arr : Int) (gs : List Nat)
  /-- R68. An uplink frame of reserved or downlink type is dropped and counted in CRS_BxUNKTYPE. -/
  | unknownFrame (b : Nat) (arr : Int) (gs : List Nat)
  /-- R112. A valid JOIN in the join slot is checked and starts an admission or a refusal, de-admitting a same-bus duplicate. -/
  | joinFrameReceived (b : Nat) (arr : Int) (gs : List Nat)
  /-- R120. An immediate reply in the downlink window is checked against the command it answers and completes it. -/
  | immediateReplyReceived (b : Nat) (r : Int) (gs : List Nat)
  /-- R89. Four cycles without a valid frame from an admitted node set its SILENT. -/
  | nodeSilent (b : Nat) (a : Nat)
  /-- R102. Four cycles without a valid frame from any admitted node set LINEFAULT and raise the bus-fault source. -/
  | linefault (b : Nat)
  /-- R87. After 64 consecutive clean cycles the hub drops the node's PROB entry. -/
  | probationEnd (b : Nat) (a : Nat)
  /-- R132. 256 cycles without a valid frame in RUN de-admit the node, record it and remove its slot by layout change. -/
  | nodeDeadmitSilence (b : Nat) (a : Nat)
  /-- R121. No reply by the deadline resends the node command once with the same SEQ, and a second miss completes it with TIMEOUT. -/
  | nodeCommandTimeout (b : Nat) (a : Nat)
  /-- R113. At a cycle, the hub advances one admission step: ASSIGN, RANGE, provisional LAYOUT, READ_NDB, full LAYOUT or completion. -/
  | admissionStep (b : Nat)
  /-- R124. The hub computes a new slot layout and sends LAYOUT to every node that holds an address. -/
  | layoutChange (b : Nat)
  /-- R124. At cycle EFFECTIVE, after COMMITCNT COMMITs, the new layout is used. -/
  | layoutEffective (b : Nat)
  /-- R139. Writing GO of CRS_BxDROP sends DROP to the address and removes its slot. -/
  | nodeDrop (b : Nat) (a : Nat)
  /-- R103. A write of CRS_BxCLR zeroes the bus counters or the node counters. -/
  | busCounterClr (b : Nat) (v : Word)
  /-- R139. A write of CRS_BxADMCLR zeroes the admission, refusal and de-admission counters. -/
  | admissionCounterClr (b : Nat) (v : Word)
  /-- R146. A guard window crossing with trip action on an ON channel turns the output off, sets trip latches and records the cause. -/
  | windowTrip (c : Nat) (volt : Bool) (v : Int)
  /-- R679. E first exceeding ELIM on an ON channel at a CKAON edge trips the channel. -/
  | integratorTrip (c : Nat)
  /-- R151. Writing ON of GRD_CxCTL turns an armed, locked OFF channel on, or is refused with ENERGY_REFUSED. -/
  | channelOn (c : Nat)
  /-- R150. Writing OFF of GRD_CxCTL moves ON to OFF and RETRYWAIT to TRIPPED. -/
  | channelOff (c : Nat)
  /-- R151. Writing REARM of GRD_CxCTL moves a TRIPPED channel to OFF after TOFF, or is refused with NOT_IN_STATE. -/
  | rearm (c : Nat)
  /-- R150. TOFF elapsing after a trip sets TOFFDONE and turns a RETRYWAIT channel on again. -/
  | toffExpiry (c : Nat)
  /-- R150. 60 s in ON without a trip clears RETRIES. -/
  | retriesReset (c : Nat)
  /-- R154. Writing GRD_TRIPCLR clears trip pin latches unless a selecting channel is TRIPPED or RETRYWAIT. -/
  | tripClear (v : Word)
  /-- R147. A write of GRD_CxCLR zeroes TRIPCNT and CAUSE. -/
  | guardCounterClr (c : Nat) (v : Word)
  /-- R169. A write of AFE_LxCFG changes mode and routes under checks and clears the set point on a mode change. -/
  | loopModeWrite (x : Nat) (v : Word)
  /-- R175. 100 µs at drive limit and below tolerance put the loop in compliance with flags, event, count and record. -/
  | complianceEntry (x : Nat)
  /-- R175. 100 µs within tolerance clear COMPLIANCE and set COMPDN. -/
  | complianceExit (x : Nat)
  /-- R175. A write of AFE_LxCLR zeroes AFE_LxCOMPCNT. -/
  | loopCounterClr (x : Nat) (v : Word)
  /-- R181. A comparator change of a window monitor sets its flags and, on its EVEDGE sense, produces a time-stamped event and records wheel-speed edges. -/
  | monitorEdge (m : Nat) (v : Int)
  /-- R183. Writing GO of WIN_SCCTL starts a self-check of one monitor, or is discarded. -/
  | selfCheckGo (v : Word)
  /-- R183. A self-check ends within 2 µs, sets DONE and PASS, and empties the monitor's edge history. -/
  | selfCheckDone (hi : Bool) (lo : Bool) (hs : Bool) (ls : Bool)
  /-- R185. STILL milliseconds without an edge empty a monitor's edge history. -/
  | wheelStandstill (m : Nat)
  /-- R195. Writing WR of SER_TPLIDX checks and stores a transfer template. -/
  | templateCommit (n : Nat)
  /-- R195. Writing RD of SER_TPLIDX loads a template into SER_TPLD0–SER_TPLD7. -/
  | templateRead (n : Nat)
  /-- R198. A master port starts a queue entry at its instant or when free, asserting its select. -/
  | serialEntryStart (x : Nat)
  /-- R199. A finished serial entry is checked, retried once on failure, and delivers its words or lasting faults. -/
  | serialEntryDone (x : Nat) (ws : List Word)
  /-- R201. A complete slave word is queued as a time-stamped sample of SER_PxSLVEP. -/
  | slaveWordReceived (x : Nat) (v : Word)
  /-- R202. CS0 negated mid-word delivers the partial word with PARTIAL. -/
  | slaveSelectNegated (x : Nat) (n : Nat) (back : Nat) (v : Word)
  /-- R198. A write of SER_PxCLR zeroes the port's four counters. -/
  | serialCounterClr (x : Nat) (v : Word)
  /-- R205. A read through MEM_AP is served from the prefetch buffer or fetches the flash line. -/
  | memApRead (k : Nat) (b : List Nat) (b2 : List Nat)
  /-- R207. A write through MEM_AP is gathered in the page buffer, programming the old page when it falls in another. -/
  | memApWrite (k : Nat) (v : Word)
  /-- R207. Writing MEM_FLUSH programs the page buffer now. -/
  | memFlush (v : Word)
  /-- R207. Every POLLINT microseconds the port reads flash status until BUSYBIT reads 0, then verifies. -/
  | statusPoll (st : Nat) (b : List Nat)
  /-- R208. A write of MEM_RAWCMD sends one raw flash command after any pending page program, or is discarded with BUSY. -/
  | rawCommand (v : Word) (rx : Nat)
  /-- R211. A received CAN frame is time-stamped and dispatched to the CAN map, a receive buffer or the FIFO. -/
  | canFrameReceived (x : Nat) (w : Word) (data : List Nat) (lat : Nat)
  /-- R217. A transmission ends sent or in error; an error is retried once and a second is a lasting fault. -/
  | canTxDone (x : Nat) (error : Bool) (exempt : Bool) (lat : Nat)
  /-- R217. A frame not sent within TXTO completes with TIMEOUT. -/
  | canTxTimeout (x : Nat) (y : Nat)
  /-- R218. A port going bus-off completes pending sends with LINK_DOWN and raises the CAN source. -/
  | canBusOff (x : Nat)
  /-- R218. After 128 occurrences of 11 recessive bits a bus-off port recovers. -/
  | canRecovered (x : Nat)
  /-- R218. Writing RECOVER of CAN_PxCTL starts bus-off recovery of a port without AUTOREC. -/
  | canRecover (x : Nat) (v : Word)
  /-- R215. Writing CAN_PxFIFOPOP pops the receive FIFO head. -/
  | canFifoPop (x : Nat) (v : Word)
  /-- R219. A dominant level held for WAKEFILT while STB is asserted produces a CAN wake event and wake source. -/
  | canWake (x : Nat)
  /-- R217. A write of CAN_PxCLR zeroes the port's six counters. -/
  | canCounterClr (x : Nat) (v : Word)
  /-- R237. 8 µs before a bus cycle the hub builds the beacon's SA list and allocates the cycle's transactions. -/
  | commitPoint (b : Nat)
  /-- R240. 2 µs before a SERIAL instant the hub places the run on the port queue, holding it when full. -/
  | serialPlacement (e : Nat)
  /-- R240. A serial entry not started within SERLATE is abandoned with lasting faults of TIMEOUT. -/
  | serlateExpiry (x : Nat)
  /-- R241. At a WHEEL instant the hub reads the monitor's edge history as a sample. -/
  | wheelInstant (e : Nat)
  /-- R250. At the end of the next cycle's spare region every undelivered poll of a COURSE instant is a lasting fault. -/
  | courseDeadline (b : Nat)
  /-- R260. No completion within REMTMO resends a remote command with the same tag, and a second timeout completes it with TIMEOUT. -/
  | remoteCommandTimeout (tag : Nat)
  /-- R265. A write of PSC_CLR zeroes PSC_TAGHWM and the scheduler counters. -/
  | pscCounterClr (v : Word)
  /-- R272. Writing WR of EPT_IDX checks and commits an endpoint record. -/
  | recordCommit (e : Nat)
  /-- R272. Writing RD of EPT_IDX loads an endpoint record into EPT_D0–EPT_D7. -/
  | recordRead (e : Nat)
  /-- R273. Writing REL of EPT_IDX returns a record or a node's reservation to FREE, or is refused. -/
  | recordRelease (e : Nat)
  /-- R295. Writing GO of EPT_LDCTL starts a table image load from the memory port or TABLES. -/
  | tableLoadGo (src : Nat)
  /-- R294. A load ends with the staged bank READY or EMPTY, LDREASON set and the TABLE source raised. -/
  | tableLoadDone (ok : Bool) (b : List Nat)
  /-- R295. A table store ends, returning to READY and raising the TABLE source. -/
  | tableStoreDone (ok : Bool)
  /-- R296. Writing GO of EPT_SWCTL checks attachments and arms a bank switch at SWCT or at once. -/
  | switchArm (now : Bool)
  /-- R304. A write of EPT_CLR zeroes the endpoint counters. -/
  | eptCounterClr (v : Word)
  /-- R335. Writing WR of MSH_CHIDX checks and commits a mash channel, starting it when EN is set. -/
  | channelCommit (c : Nat)
  /-- R335. Writing RD of MSH_CHIDX loads staging and status registers from a channel. -/
  | channelRead (c : Nat)
  /-- R343. Writing CLRSTS of MSH_CHIDX clears a channel's overflow, late and restart status. -/
  | channelClrsts (c : Nat)
  /-- R317. Writing WR of MSH_CSIDX checks and defines a coefficient set. -/
  | setCommit (n : Nat)
  /-- R317. Writing RD of MSH_CSIDX loads a coefficient set into MSH_CSD0–MSH_CSD67. -/
  | setRead (n : Nat)
  /-- R317. Writing REL of MSH_CSIDX undefines a coefficient set not in use. -/
  | setRelease (n : Nat)
  /-- R309. A mash engine processes one channel input or marker through its stages, emitting an output or filling, restarting or syncing. -/
  | mashInput (x : Nat) (l : Nat) (bit : Bool)
  /-- R312. Writing FREEZE of MSH_CHCTL freezes a DCB stage at the next input. -/
  | chctlFreeze (c : Nat) (k : Nat)
  /-- R312. Writing THAW of MSH_CHCTL thaws a DCB stage at the next input. -/
  | chctlThaw (c : Nat) (k : Nat)
  /-- R319. Writing SWITCH of MSH_CHCTL starts a cross-fade at the next input. -/
  | chctlSwitch (c : Nat) (k : Nat) (xf : Nat) (n : Nat)
  /-- R343. A write of MSH_CLR zeroes the mash counters. -/
  | mashCounterClr (v : Word)
  /-- R351. Writing WR of RCG_MTCTL validates and stores a machine table. -/
  | machineCommit (n : Nat)
  /-- R372. Writing RD of RCG_MTCTL loads a table into RCG_MTBUF and RCG_MTINFO. -/
  | machineRead (n : Nat)
  /-- R372. Writing REL of RCG_MTCTL undefines a table no instance uses. -/
  | machineRelease (n : Nat)
  /-- R357. A DWELL or STALE condition becoming true triggers a step of the instance. -/
  | rcgTimeTrigger (n : Nat)
  /-- R371. A write of RCG_CLR zeroes the recognizer counters. -/
  | rcgCounterClr (v : Word)
  /-- R387. CT reaching EXPIRES ends a lease and places lease-ended records. -/
  | leaseExpiry (idx : Nat)
  /-- R387. The grantee's home acknowledging the closed casks completes a lease end with records to both tenants. -/
  | leaseEndAck (idx : Nat)
  /-- R393. Writing WR of TEN_WINIDX checks and commits a tenant memory window. -/
  | windowCommit (t : Nat) (k : Nat)
  /-- R401. Writing RD of TEN_WINIDX loads a window into the staging registers. -/
  | windowRead (t : Nat) (k : Nat)
  /-- R401. Writing CLR of TEN_WINIDX removes a window unless in use. -/
  | windowClr (t : Nat) (k : Nat)
  /-- R401. A write of TEN_CLR zeroes the tenancy counters. -/
  | tenCounterClr (v : Word)
  /-- R408. A CMDTAIL doorbell write posts descriptors to the command ring. -/
  | cmdtail (t : Nat) (v : Word)
  /-- R408. A CPLHEAD doorbell write consumes completions and updates the completion source level. -/
  | cplhead (t : Nat) (v : Word)
  /-- R408. An EVTHEAD doorbell write consumes event records. -/
  | evthead (t : Nat) (v : Word)
  /-- R415. Writing RESUMECMD of CTL resumes a HALTED command ring. -/
  | resumecmd (t : Nat) (v : Word)
  /-- R415. Writing RESUMECPL of CTL resumes a HALTED completion ring and writes held completions. -/
  | resumecpl (t : Nat) (v : Word)
  /-- R415. Writing RESUMEEVT of CTL resumes a HALTED event ring and writes held records. -/
  | resumeevt (t : Nat) (v : Word)
  /-- R408. Writing CLRDBERR of CTL clears DBERR. -/
  | clrdberr (t : Nat) (v : Word)
  /-- R408. A POSTr doorbell write posts buffers to cask ring r. -/
  | post (t : Nat) (r : Nat) (v : Word)
  /-- R408. An ACKr doorbell write consumes cask ring write-backs. -/
  | ack (t : Nat) (r : Nat) (v : Word)
  /-- R418. The home fetches the next descriptor, runs the shared checks and issues it locally or over the bond. -/
  | commandFetch (t : Nat)
  /-- R419. A finished command's completion is written to the completion ring in ring order. -/
  | completionWrite (t : Nat)
  /-- R414. The confirming read of a DMA write completes, retrying once or halting the ring on failure. -/
  | dmaWriteConfirmed (t : Nat) (what : Nat) (ok : Bool)
  /-- R414. A DMA read of a descriptor, argument block or posted entry completes, retrying once or halting on failure. -/
  | dmaReadDone (t : Nat) (what : Nat) (slot : Nat) (ok : Bool) (b : List Nat)
  /-- R429. AGE passing since a cask's first record closes it. -/
  | caskAgeExpiry (uid : Nat) (ring : Nat)
  /-- R431. The home places a closed cask in the next posted buffer with the next CASKSEQ and writes back its entry. -/
  | caskPlacement (t : Nat) (r : Nat)
  /-- R439. A queued event record is written to the tenant's event ring once OP-4 allows. -/
  | eventRecordWrite (t : Nat)
  /-- R442. Writing WR of RNG_IDX sets up and starts a command, completion or event ring. -/
  | ringSetup (t : Nat) (k : Nat)
  /-- R441. Writing RD of RNG_IDX loads a ring's base, order, state and pointers. -/
  | ringSetupRead (t : Nat) (k : Nat)
  /-- R442. Writing STOP of RNG_IDX stops a ring, the command ring via STOPPING. -/
  | ringSetupStop (t : Nat) (k : Nat)
  /-- R441. A write of RNG_CLR zeroes the ring counters. -/
  | rngCounterClr (v : Word)
  /-- R573. PE_PERST_N, hot reset, link-down or loss of PE_REFCLK act as a function-level reset. -/
  | hostLinkReset (kind : Nat)
  /-- R478. Setting EN of BND_PxCFG starts training of the bond port. -/
  | portEnable (p : Nat) (v : Word)
  /-- R478. A training step reaches its ready condition and the next step begins. -/
  | trainingStepDone (p : Nat) (mask : Nat)
  /-- R478. A training step past its limit restarts training and counts BND_PxTRAINFAIL. -/
  | trainingTimeout (p : Nat)
  /-- R474. A lane fault fails over a PROTECTED port or degrades a BONDED port, resending unacknowledged flits. -/
  | laneFault (p : Nat) (lane : Nat)
  /-- R475. A faulted lane that has retrained becomes standby or rejoins at the next alignment codeword. -/
  | laneRetrained (p : Nat) (lane : Nat)
  /-- R479. Loss of alignment for 1 µs or a lasting fault takes the port down to HOLD and starts RETRY_HOLD. -/
  | linkDown (p : Nat)
  /-- R483. A sequenced flit is accepted at NEXTRX, reassembled into its message or forwarded, or discarded. -/
  | flitReceived (p : Nat) (bs : List Nat) (first : Bool) (nsym : Nat)
  /-- R484. A received STATUS or IDLE flit acknowledges flits and returns credits. -/
  | status (p : Nat) (pl : List Nat)
  /-- R485. A received NAK starts a replay from the named SEQ. -/
  | nak (p : Nat) (pl : List Nat)
  /-- R485. NEXTRX unmoved for 4 µs with flits unacknowledged starts a replay from the oldest. -/
  | replayTimeout (p : Nat)
  /-- R484. Every 1 µs with flits unacknowledged the receiver sends a STATUS. -/
  | statusTimer (p : Nat)
  /-- R489. A received HELLO completes the handshake, makes the session ACTIVE or ends a held one. -/
  | hello (p : Nat) (pl : List Nat)
  /-- R489. Every 10 µs during session control the hub sends HELLO. -/
  | helloTimer (p : Nat)
  /-- R490. A received RESUME resumes a held session and resends from the peer's NEXTRX, or is answered with HELLO. -/
  | resume (p : Nat) (pl : List Nat)
  /-- R524. A received CLOSE ends the session without hold and marks the port DORMANT. -/
  | close (p : Nat) (pl : List Nat)
  /-- R523. SPLIT_HOLD elapsing on a held tree link counts a split and starts a round. -/
  | splitHoldExpiry (p : Nat)
  /-- R523. RETRY_HOLD elapsing discards the held session and, for a DORMANT port, starts a round. -/
  | retryHoldExpiry (p : Nat)
  /-- R521. A CONFIG request unanswered within REMTMO is resent once, and a second failure is recorded. -/
  | configTimeout (tag : Nat)
  /-- R529. Writing GO of ROL_RSCTL sends a remote register access, or is refused. -/
  | remoteSetupGo (wr : Bool)
  /-- R514. A write of ROL_DIRIDX loads a directory entry into ROL_DIRD0–ROL_DIRD7. -/
  | directoryEntryLoad (p : Nat)
  /-- R543. A read of a target's CLAIM takes its selected source and pushes its priority. -/
  | claim (k : Nat)
  /-- R545. A write of EOI pops the top source of the target's stack, or is refused. -/
  | eoi (k : Nat) (v : Word)
  /-- R547. Writing WR of ICU_SRCIDX commits a source's configuration. -/
  | sourceCommit (n : Nat)
  /-- R547. Writing RD of ICU_SRCIDX loads a source's configuration and status. -/
  | sourceRead (n : Nat)
  /-- R536. Writing 1 to ICU_HUBLAT clears hub latches and lowers their levels. -/
  | hubLatchClear (hi : Bool) (v : Word)
  /-- R536. A write of ICU_HUBSET sets the SOFT latch. -/
  | hubset (v : Word)
  /-- R548. Writing SET of ICU_FORCE in TEST forces a source level to 1. -/
  | forceSet (n : Nat)
  /-- R548. Writing CLR of ICU_FORCE removes a force. -/
  | forceClr (n : Nat)
  /-- R542. A write of ICU_CFG changes MODE or GDIS, clearing GDIS announcing every selected source. -/
  | icuConfigWrite (v : Word)
  /-- R542. Clearing an MSI-X mask sends the pending message. -/
  | msixUnmask (k : Nat)
  /-- R548. A write of ICU_CLR zeroes the interrupt counters. -/
  | icuCounterClr (v : Word)
  /-- R551. A write of EVM_SWPULSE produces SOFT events. -/
  | swpulse (v : Word)
  /-- R559. A read of EVM_QqHEAD or EVM_QqCTLO holds the head entry. -/
  | eventQueueHold (q : Nat) (lo : Bool)
  /-- R559. A read of EVM_QqCTHI pops the head entry. -/
  | eventQueuePop (q : Nat)
  /-- R561. Writing FLUSH of EVM_QqCTL empties the queue and clears LOST. -/
  | queueFlush (q : Nat)
  /-- R557. A write of EVM_CHcCFG or a producer row sets the channel, locking guard channels once LOCK is set. -/
  | channelConfigWrite (c : Nat) (w : Nat) (v : Word)
  /-- R564. A write of EVM_CLR zeroes the channel counters. -/
  | evmCounterClr (v : Word)
  /-- R571. PORST_N low or VAON below threshold resets the hub and starts the boot stages. -/
  | powerOnReset (vaon : Bool)
  /-- R581. A block giving no acknowledge within CLKTO completes the access or descriptor with CLOCK_STOPPED. -/
  | accessTimeout (desc : Bool) (ofs : Nat)
  /-- R583. A write of CLK_CLR zeroes the clock counters. -/
  | clkCounterClr (v : Word)
  /-- R584. A write of RST_CLR zeroes the reset counters. -/
  | rstCounterClr (v : Word)
  /-- R591. The host link reaching L2, or LINKTO passing, commits the entry: CLOSE, CT handover, clamps, retention and PMIC_EN low. -/
  | entryCommit (l2 : Bool)
  /-- R595. An enabled wake source records PWR_WAKESRC and starts a wake, or aborts an entry. -/
  | wakeSource (bits : Nat)
  /-- R600. A shed trigger asserting raises the stage and takes each stage's shedding actions. -/
  | shedRise (mv : Nat) (tj : Int)
  /-- R601. DWELL with the stage's trigger clear lowers the stage by one and undoes its actions. -/
  | shedFall (mv : Nat) (tj : Int)
  /-- R603. PFAIL_N falling or VAON below VTHR5 stops production and runs the final commit. -/
  | powerFail (why : Nat) (mv : Nat)
  /-- R466. PFAIL_N rising before power-on reset leaves stage 5 by retention and resumes delivery with POWERLOSS GAPs. -/
  | powerRestore (mv : Nat) (tj : Int)
  /-- R624. Tj reaching 150 °C defers, ends or abandons the program in progress and runs the final commit. -/
  | thermalShutdown (tj : Int)
  /-- R624. Tj at or below 130 °C for 1 s leaves thermal shutdown as R466 states. -/
  | thermalRecover (tj : Int)
  /-- R606. A write of PWR_CLR zeroes the power counters. -/
  | pwrCounterClr (v : Word)
  /-- R614. A program and verify of the store end, retrying once or retiring the block on failure. -/
  | nvmProgramDone (ok : Bool)
  /-- R620. Every 24 hours of powered time the store scans and refreshes aged or marginal blocks. -/
  | refreshScan (margin : List Word)
  /-- R621. A write of NVS_LIFEIDX loads a life counter into NVS_LIFEDATA. -/
  | lifeCounterLoad (n : Nat)
  /-- R628. A write of NVS_CLR zeroes the store counters. -/
  | nvsCounterClr (v : Word)
  /-- R630. A boot stage reaching its condition advances BOOT_STS.STAGE to the next stage. -/
  | bootStageDone (ra : Bool) (rb : Bool) (rg : Bool)
  /-- R636. A PCIe configuration request is answered with retry status before HOSTREADY and normally after. -/
  | configRequest (wr : Bool) (ofs : Nat) (v : Word)
  /-- R633. A firmware update ends DONE or FAILED with REASON and raises the TABLE source. -/
  | updateDone (rd : Bool) (st : Bool) (b : List Nat)
  /-- R638. A guard image store or erase ends, clearing BUSY and raising the TABLE source. -/
  | guardImageDone (ok : Bool)
  /-- R90. The end of a node's slot, probation position or spare sub-slot without a valid frame makes that frame lost, counting MISS or RETRYFAIL and marking it for a grant. -/
  | slotEnd (b : Nat) (a : Nat) (sub : Bool)
  /-- R90. At S_G the hub sends the GRANT frame that opens spare sub-slots for nodes whose scheduled frames were lost in that cycle. -/
  | grant (b : Nat)
  /-- R218. A bit, stuff, form, CRC or acknowledgement error detected while a port receives updates its error counters under ISO 11898-1 and may move it to error-passive. -/
  | canBusError (x : Nat) (eight : Bool)
  /-- R624. Tj reaching 155 °C while a program is deferred in thermal shutdown abandons the program at once, counts it in NVS_ABANDON and starts the final commit. -/
  | thermalProgramAbandon (tj : Int)
  /-- R650. EXTEST, CLAMP or HIGHZ becoming the TAP instruction holds the core in reset. -/
  | tapIsolate (ir : Nat) (cells : List Bool)
  /-- R650. The TAP leaving EXTEST, CLAMP or HIGHZ completes a core reset with cause TAP. -/
  | tapRelease (ir : Nat)
  /-- R31. A read of TIM_CTLO captures all 64 bits of CT at one CKFAB edge for the following TIM_CTHI read. -/
  | ctCaptureRead
  /-- R34. Once every INTERVAL the hub sends a time-sync request on its upstream port and takes t1. -/
  | timeExchangeStart
  /-- R500. A RESP not arriving within 10 µs of t1 makes the exchange unusable and counts it in BND_PxTIMEBAD. -/
  | timeRespTimeout
  /-- R37. HOLDCNT intervals without a usable exchange put the hub in HOLDOVER with the frozen mean increment. -/
  | holdcntExpiry
  /-- R45. No SYNC edge by the expected CT plus 1 µs rejects the edge, counts it and advances the expectation. -/
  | syncEdgeTimeout
  /-- R46. DISC_HOLD without an accepted edge clears UTC_VALID. -/
  | discHoldExpiry
  /-- R48. In OUTPUT mode SYNC is driven high at each CT multiple of PERIOD. -/
  | syncOutputPulse
  /-- R48. After WIDTH microseconds the SYNC output pulse ends. -/
  | syncPulseEnd
  /-- R156. Writing 1 to GRD_LOCK.LOCK fixes the guard configuration and locks guard event channels until power-on reset. -/
  | guardLock
  /-- R172. The LOOP_SET descriptor checks and stores a loop set point. -/
  | loopSet
  /-- R207. 100 µs without a write to the page starts programming of the page buffer. -/
  | pageBufferTimeout
  /-- R207. BUSYBIT still set after PROGTO is a lasting fault, and waiting reads return zero with TIMEOUT. -/
  | progtoExpiry
  /-- R216. The CAN_SEND descriptor queues data on a transmit message buffer, or is refused. -/
  | canSend
  /-- R230. The SCHED_CREATE descriptor checks and accepts a schedule entry and returns its handle. -/
  | schedCreate
  /-- R232. The SCHED_DESTROY descriptor ends an entry and returns its cost. -/
  | schedDestroy
  /-- R264. The SCHED_QUERY descriptor writes the entry status block and clears LATEPEND. -/
  | schedQuery
  /-- R244. The SCHED_TRIGGER descriptor triggers a BURST entry or group at the CT of execution. -/
  | schedTrigger
  /-- R280. The decoder turns a queued raw value into a sample by format and curve and fans it out to channels, recognizers and streams. -/
  | decode
  /-- R294. The TABLE_LOAD descriptor loads a table image from host memory into the staged bank. -/
  | tableLoad
  /-- R295. Writing STORE of EPT_LDCTL writes the staged image to TABLES. -/
  | tableStore
  /-- R304. Writing DISCARD of EPT_LDCTL moves READY to EMPTY. -/
  | tableDiscard
  /-- R299. Writing CANCEL of EPT_SWCTL returns a PENDING switch to READY. -/
  | switchCancel
  /-- R296. CT reaching SWCT makes the armed switch take effect. -/
  | switchEffect
  /-- R297. When old transactions drain or RETIREHOLD passes the old bank retires, DONE is set and the TABLE source raised. -/
  | bankRetire
  /-- R312. The MASH_FREEZE descriptor freezes a channel's DCB stage from its effective CT. -/
  | mashFreeze
  /-- R312. The MASH_THAW descriptor thaws a channel's DCB stage from its effective CT. -/
  | mashThaw
  /-- R319. The MASH_SWITCH descriptor starts a cross-fade of a FIR stage to a new set. -/
  | mashSwitch
  /-- R329. Writing NOW of MSH_SYNCCTL syncs decimators at the CT of the write. -/
  | syncNow
  /-- R329. Writing ARM of MSH_SYNCCTL arms a sync at MSH_SYNCCT. -/
  | syncArm
  /-- R344. Writing DISARM of MSH_SYNCCTL drops the armed sync. -/
  | syncDisarm
  /-- R328. CT reaching the armed sync instant realigns the DEC grids of SYNCEN channels. -/
  | armedSync
  /-- R329. Each CT multiple of MSH_SYNCPER syncs the decimators. -/
  | periodicSync
  /-- R353. The RCG_CREATE descriptor checks and starts a recognizer instance with its output endpoint. -/
  | rcgCreate
  /-- R355. The RCG_DESTROY descriptor ends an instance and frees its output record. -/
  | rcgDestroy
  /-- R355. The RCG_RESET descriptor returns an instance to INIT. -/
  | rcgReset
  /-- R355. The RCG_SETPAR descriptor replaces an instance's parameters. -/
  | rcgSetpar
  /-- R356. The RCG_QUERY descriptor writes the instance block and clears its sticky bits. -/
  | rcgQuery
  /-- R358. An instance takes a queued trigger, evaluates transitions, runs actions and emits its output sample. -/
  | recognizerStep
  /-- R377. The TEN_CREATE descriptor checks and distributes a new tenant in two phases. -/
  | tenCreate
  /-- R378. The TEN_CHANGE descriptor changes a tenant's quotas or ceiling across the combination. -/
  | tenChange
  /-- R398. The TEN_DESTROY descriptor resets a tenant, removes its bindings and frees its context everywhere. -/
  | tenDestroy
  /-- R397. The TEN_RESET descriptor closes a tenant's streams, entries, instances and leases and stops its rings. -/
  | tenReset
  /-- R382. The BIND descriptor checks and distributes a binding entry, changing ownership and revoking leases. -/
  | bind
  /-- R385. The LEASE_GRANT descriptor checks and grants a lease at the holding hub. -/
  | leaseGrant
  /-- R387. The LEASE_REVOKE descriptor ends a lease, closing covered streams and casks. -/
  | leaseRevoke
  /-- R394. The SET_KEY descriptor stores a tenant's sealing key in KEYS. -/
  | setKey
  /-- R421. The NOP descriptor completes OK, acting as a barrier with FENCE. -/
  | nop
  /-- R421. The TIME descriptor returns CT, state and UTC offset at the executing hub. -/
  | time
  /-- R422. The STREAM_OPEN descriptor checks access and quotas and opens a stream. -/
  | streamOpen
  /-- R424. The STREAM_CLOSE descriptor stops a stream and closes its cask before completing. -/
  | streamClose
  /-- R425. The MARK descriptor places a MARK record in a stream and flushes its cask. -/
  | mark
  /-- R426. The RING_START descriptor starts a cask ring. -/
  | ringStart
  /-- R457. The RING_STOP descriptor closes open casks, places them and returns posted buffers as VOID. -/
  | ringStop
  /-- R456. The RING_RESUME descriptor resumes a HALTED cask ring, voiding the failed slot and placing held casks. -/
  | ringResume
  /-- R429. The RING_FLUSH descriptor closes the ring's open casks with FLUSH. -/
  | ringFlush
  /-- R421. The RING_QUERY descriptor writes the cask ring's status block. -/
  | ringQuery
  /-- R421. The EP_QUERY descriptor returns an endpoint record. -/
  | epQuery
  /-- R421. The NODE_CMD descriptor issues READ_PARAM, WRITE_PARAM, SELFTEST or RESET to a node. -/
  | nodeCmd
  /-- R421. The SER_XFER descriptor runs a serial template with the tenant's own outgoing data. -/
  | serXfer
  /-- R329. The SYNC_AT descriptor sends a sync-at-CT to the hubs named in MASK. -/
  | syncAt
  /-- R440. A PCIe function-level reset stops the resetting host's rings, abandons its commands and clears its windows and interrupt state. -/
  | functionLevelReset
  /-- R494. A received CMD message is executed at the target, or answered from storage for a repeated tag. -/
  | cmd
  /-- R495. A received CMD_DATA message loads image bytes for a remote TABLE_LOAD. -/
  | cmdData
  /-- R494. A received CPL message completes the home's remote command. -/
  | cpl
  /-- R492. A received REJECT makes the sender re-resolve and resend once or hold the item. -/
  | reject
  /-- R518. The one resend after EPOCH_STALE goes when the sender holds a new enough epoch or after 5 ms. -/
  | staleResend
  /-- R496. A received CASK_DATA message adds records to the cask the home is gathering. -/
  | caskData
  /-- R497. A received CASK_CLOSE is accepted or discarded by producer cask number and answered with CASKACK. -/
  | caskClose
  /-- R459. A received CASKACK lets the producer forget the accepted cask. -/
  | caskack
  /-- R497. A received EVENT message queues a forwarded event record at the home. -/
  | event
  /-- R498. A received SIGNAL SYNC_AT arms a decimator sync at the carried CT. -/
  | syncAtMessage
  /-- R498. A received GROUP_TRIGGER starts the group's members on this hub from T. -/
  | groupTrigger
  /-- R507. Writing REELECT of ROL_CTL starts a round. -/
  | reelect
  /-- R507. The host link coming up at a ranked ISOLATED or acting-led hub starts a round. -/
  | hostLinkUp
  /-- R510. A received OFFER joins a round or adopts a better candidate, sending ATTACH, DETACH and OFFERs. -/
  | offer
  /-- R510. A received ATTACH records a child, or starts a new round after the REPORT. -/
  | attach
  /-- R510. A received DETACH removes a child. -/
  | detach
  /-- R510. A received REPORT records a child's subtree entries. -/
  | report
  /-- R510. SETTLE after the last change with all REPORTs held sends the REPORT, or at the leader decides roles and positions. -/
  | settleExpiry
  /-- R513. A received DIRECTORY is adopted with its epoch, COMBID, routes and role, and passed to children. -/
  | directory
  /-- R510. A received DIRACK completes the round at the leader or is passed to the parent. -/
  | dirack
  /-- R521. Within 1 ms after a round the keystone sends STATE and GENSET to quarantined hubs. -/
  | stateTransferStart
  /-- R522. A received PREPARE holds a tenancy item unapplied and answers PREPARED. -/
  | prepare
  /-- R377. A received PREPARED lets the keystone commit or withdraw the distributed item. -/
  | prepared
  /-- R522. A received COMMIT applies the prepared item and sets GEN. -/
  | configCommit
  /-- R522. A received WITHDRAW drops the prepared item. -/
  | withdraw
  /-- R529. A received REGACCESS performs a BAR0 access as tenant 0 and answers REGRESULT. -/
  | regaccess
  /-- R529. A received REGRESULT fills ROL_RSSTS and ROL_RSDATA and clears BUSY. -/
  | regresult
  /-- R521. A received STATE message delivers tenant definitions or bindings to a quarantined hub. -/
  | state
  /-- R521. A received GENSET reconciles contexts and bindings, sets GEN, answers GENACK and leaves quarantine. -/
  | genset
  /-- R521. A received GENACK clears QUAR in the keystone's directory. -/
  | genack
  /-- R522. A received ACK answers a COMMIT, WITHDRAW or STATE. -/
  | configAck
  /-- R534. Writing CLR of ROL_CTL zeroes the role counters. -/
  | rolCounterClr
  /-- R539. TIME passing since a coalescing window opened makes the source ELIGIBLE. -/
  | coalesceTimeout
  /-- R553. An event from a producer is carried, merged, and delivered by each enabled channel to its consumer. -/
  | eventDelivery
  /-- R569. No XIN edge for 200 ns switches CKAON to ROSC, trips active guard channels and holds the core in warm reset. -/
  | xinFailure
  /-- R569. XIN valid for 1,024 cycles switches CKAON back and completes the warm reset. -/
  | xinRecovered
  /-- R570. The root PLL losing lock for 100 ns takes a warm reset with cause ROOTLOCK. -/
  | rootPllUnlock
  /-- R568. Root PLL lock sets ROOTLOCK and releases the dividers at one CKAON edge. -/
  | rootPllLocked
  /-- R575. Writing WARM of RST_CTL requests a warm reset 10 µs later. -/
  | warm
  /-- R575. Writing CORE of RST_CTL requests a core reset 10 µs later. -/
  | core
  /-- R575. Writing HKRST of RST_CTL restarts the housekeeping cores. -/
  | hkrst
  /-- R575. A warm or core reset begins: READY clears, SAFE outputs apply and bond ports send CLOSE. -/
  | resetStart
  /-- R575. At t0 + 2 µs the core domain is held in reset and, for warm reset, CKFAB stops. -/
  | coreHold
  /-- R575. The housekeeping cores report ready and READY is set. -/
  | housekeepingReady
  /-- R574. An unrefreshed watchdog restarts the housekeeping cores, or takes a core reset within 10 s of the last expiry. -/
  | watchdogExpiry
  /-- R607. Writing REQ ABORT of PWR_CTL aborts an entry before its commit point. -/
  | abort
  /-- R593. Writing REQ DOZE of PWR_CTL gates DMA, ring and interrupt clocks and offers L1. -/
  | doze
  /-- R591. Writing REQ WATCH of PWR_CTL starts entry to WATCH. -/
  | watch
  /-- R591. Writing REQ HIBERNATE of PWR_CTL starts entry to HIBERNATE. -/
  | hibernate
  /-- R591. Writing REQ OFF of PWR_CTL starts entry to OFF. -/
  | off
  /-- R590. AUTOT seconds of hostless ISOLATED role request WATCH. -/
  | autotExpiry
  /-- R591. Nothing deliverable remaining, or DRAINTO passing, ends the drain of an entry. -/
  | drained
  /-- R595. CT reaching PWR_WAKEAT is a timed wake source. -/
  | wakeat
  /-- R596. PMIC_PG high during a wake or boot enables the root PLL. -/
  | pmicPgRise
  /-- R596. SRAM leaving retention restores retention registers, opens clamps, releases clocks and loads CT. -/
  | memrdy
  /-- R596. The housekeeping cores ready after a wake hand back the watch engine, train bond ports and raise the WAKE source. -/
  | wakeComplete
  /-- R597. PMIC_PG not high by the limit fails the wake and returns the hub to its state. -/
  | wakePgTimeout
  /-- R597. 100 ms after a failed wake the hub tries again while the source is latched. -/
  | wakeRetry
  /-- R598. Each 1 s watch cycle the watch engine runs its buses, schedule, decoding and instances. -/
  | watchCycle
  /-- R618. Writing APPEND of NVS_JCTL queues an APPEND journal record, or refuses it. -/
  | append
  /-- R629. Writing RD of NVS_JCTL loads the journal record of NVS_JSEQ. -/
  | journalRead
  /-- R617. The housekeeping cores write a queued journal record in two phases within the budget. -/
  | journalWrite
  /-- R615. A block erase ends and the block becomes SPARE_ERASED. -/
  | nvmEraseDone
  /-- R621. Every hour of powered time a CHECKPOINT life record is written. -/
  | lifeCheckpoint
  /-- R630. A boot stage exceeding its limit stops the boot and acts as the stage states, such as a PMIC_PG retry. -/
  | bootStageTimeout
  /-- R633. Writing GO of BOOT_UPCTL starts a firmware image update into the idle slot. -/
  | updateGo
  /-- R638. Writing STORE of BOOT_GCTL writes the guard image from the live registers. -/
  | guardImageStore
  /-- R638. Writing ERASE of BOOT_GCTL erases the guard image slot. -/
  | guardImageErase
  /-- R472. REMTMO after a revocation or stream close whose cask cannot become valid (ring HALTED or STOPPED, or no posted buffer), R388 applies as if the home were unreachable and the command completes. -/
  | caskValidTimeout
  /-- R662. VAFE falling below its minimum clamps every LPx_DRV, stops the loop modulators and makes the guard's loop voltage windows read zero. -/
  | vafeLoss
  /-- R662. VAFE returning within its operating range lets the loop drives act again and the modulators deliver bits once more. -/
  | vafeReturn
deriving DecidableEq, Repr

end Sys2Proof
end

