-- ==== Sys2Proof/Decode.lean ====
section
/-! DEFINITION. Words of the opcode table: the table gives no row bits, so no word spells a command. -/
namespace Sys2Proof

/-- The command a word of the opcode table spells. No row of the table has bits (its `fields` are empty), so every word spells none. -/
def decodeTableWord (_nbits _w : Nat) : Option Instr := none

end Sys2Proof
end

