-- ==== Sys2Proof/Machine/Operands.lean ====
section
/-! DEFINITION. Operand forms: bit fields of words, little-endian bytes, signed fields, CRC-32, and the
operations of the sparse tables the state is made of. -/
namespace Sys2Proof

/-- Bits hi:lo of a natural number (spec/00_scope.md "Bits, bytes and memory structures"). -/
def nbits (n hi lo : Nat) : Nat := n / 2 ^ lo % 2 ^ (hi + 1 - lo)

/-- `n` with bits hi:lo replaced by `v`, taken modulo the field's size. -/
def nput (n hi lo v : Nat) : Nat :=
  n - nbits n hi lo * 2 ^ lo + v % 2 ^ (hi + 1 - lo) * 2 ^ lo

/-- Bits hi:lo of a word. -/
def wbits (w : Word) (hi lo : Nat) : Nat := nbits w.toNat hi lo

/-- `w` with bits hi:lo replaced by `v`. -/
def wput (w : Word) (hi lo v : Nat) : Word := Word.ofNat (nput w.toNat hi lo v)

/-- Bit i of a natural number. -/
def nbit (n i : Nat) : Bool := n / 2 ^ i % 2 == 1

/-- Bit i of a word. -/
def wbit (w : Word) (i : Nat) : Bool := nbit w.toNat i

/-- The value of a bit. -/
def b2n (b : Bool) : Nat := if b then 1 else 0

/-- `v`, an n-bit value, read as two's complement. -/
def signed (n v : Nat) : Int := if v % 2 ^ n < 2 ^ (n - 1) then (v % 2 ^ n : Nat) else (v % 2 ^ n : Nat) - (2 ^ n : Nat)

/-- An integer as n bits of two's complement. -/
def unsigned (n : Nat) (v : Int) : Nat := (v % (2 ^ n : Nat)).toNat

/-- `v` limited to lo..hi. -/
def clampInt (lo hi v : Int) : Int := if v < lo then lo else if hi < v then hi else v

/-- The lower word of a 64-bit value. -/
def lo32 (n : Nat) : Nat := n % 2 ^ 32

/-- The upper word of a 64-bit value. -/
def hi32 (n : Nat) : Nat := n / 2 ^ 32 % 2 ^ 32

/-- Two words as one 64-bit value. -/
def join32 (lo hi : Nat) : Nat := lo + 2 ^ 32 * hi

/-- The value of bytes in little-endian order (R5). -/
def le : List Nat → Nat
  | [] => 0
  | b :: bs => b % 256 + 256 * le bs

/-- `n` bytes of a value in little-endian order (R5). -/
def toLe : Nat → Nat → List Nat
  | 0, _ => []
  | n + 1, v => v % 256 :: toLe n (v / 256)

/-- Bytes off..off+n-1 of a structure, as one little-endian value; a byte past the end reads 0. -/
def leAt (bs : List Nat) (off n : Nat) : Nat := le ((bs.drop off).take n)

/-- One step of the reflected CRC-32 register over one bit. -/
def crcBit (c : Nat) : Nat := if c % 2 == 1 then Nat.xor (c / 2) 0xEDB88320 else c / 2

/-- The CRC-32 register after one byte. -/
def crcByte (c b : Nat) : Nat :=
  crcBit (crcBit (crcBit (crcBit (crcBit (crcBit (crcBit (crcBit (Nat.xor c (b % 256)))))))))

/-- CRC-32 of R67 over bytes: reflected polynomial 0x04C1_1DB7, all-ones start, inverted end. -/
def crc32 (bs : List Nat) : Nat := Nat.xor (bs.foldl crcByte 0xFFFFFFFF) 0xFFFFFFFF

/-- The entry of a table at a key. -/
def Tbl.getL {α : Type} (d : Nat → α) (k : Nat) : List (Nat × α) → α
  | [] => d k
  | (j, x) :: t => if j = k then x else Tbl.getL d k t

/-- The entry of a table at a key; `d` gives the default entries. -/
def Tbl.get {α : Type} (t : Tbl α) (d : Nat → α) (k : Nat) : α := Tbl.getL d k t.cells

/-- The cells without key k. -/
def Tbl.eraseL {α : Type} (k : Nat) : List (Nat × α) → List (Nat × α)
  | [] => []
  | (j, x) :: t => if j = k then Tbl.eraseL k t else (j, x) :: Tbl.eraseL k t

/-- The cells with entry v at key k, in rising order of keys. -/
def Tbl.putL {α : Type} (k : Nat) (v : α) : List (Nat × α) → List (Nat × α)
  | [] => [(k, v)]
  | (j, x) :: t => if k < j then (k, v) :: (j, x) :: t else if k = j then (k, v) :: t else (j, x) :: Tbl.putL k v t

/-- Sets an entry; an entry equal to the default is not listed, so equal tables are equal data. -/
def Tbl.set {α : Type} [DecidableEq α] (t : Tbl α) (d : Nat → α) (k : Nat) (v : α) : Tbl α :=
  if v = d k then ⟨Tbl.eraseL k t.cells⟩ else ⟨Tbl.putL k v t.cells⟩

/-- Keys strictly rising from a bound on. -/
def Tbl.sortedFrom {α : Type} : Nat → List (Nat × α) → Bool
  | _, [] => true
  | n, (j, _) :: t => decide (n ≤ j) && Tbl.sortedFrom (j + 1) t

/-- The canonical form: keys strictly rising, no default entry listed. -/
def Tbl.wf {α : Type} [DecidableEq α] (t : Tbl α) (d : Nat → α) : Bool :=
  Tbl.sortedFrom 0 t.cells && t.cells.all fun c => decide (c.2 ≠ d c.1)

/-- The keys a table lists. -/
def Tbl.keys {α : Type} (t : Tbl α) : List Nat := t.cells.map Prod.fst

/-- The list with entry i changed by f. -/
def modAt {α : Type} (f : α → α) : Nat → List α → List α
  | _, [] => []
  | 0, x :: t => f x :: t
  | n + 1, x :: t => x :: modAt f n t

end Sys2Proof
end

