-- ==== Sys2Proof/Machine/Code.lean ====
section
/-! DEFINITION. The line code of a bond lane (spec/15_bond_links.md R476): 256b/257b blocks, the RS(544,514) code over 10-bit symbols, and
PAM4 levels with Gray coding. What the rule names without giving it (the field and the generator of the code, the header bit of a block
of data, the order of bits in a byte and in a symbol) is taken as in 802.3: notes/assumptions/209.md. -/
namespace Sys2Proof.Machine

/-- The n low bits of a number, bit 0 first. -/
def lowBits : Nat → Nat → List Bool
  | 0, _ => []
  | n + 1, v => (v % 2 == 1) :: lowBits n (v / 2)

/-- The number a list of bits spells, bit 0 first. -/
def ofBits (l : List Bool) : Nat := l.foldr (fun b v => b2n b + 2 * v) 0

/-- A list in runs of n elements, n not 0; `k` bounds their number. -/
def runsOf {α : Type} (n : Nat) : Nat → List α → List (List α)
  | 0, _ => []
  | k + 1, l => if l.isEmpty then [] else l.take n :: runsOf n k (l.drop n)

/-! The field of 1,024 elements. -/

/-- Multiplication by the root of x^10 + x^3 + 1. -/
def gfTwice (a : Nat) : Nat := if a < 512 then 2 * a else Nat.xor (2 * a) 0x409

/-- The product of two field elements. -/
def gfMul (a b : Nat) : Nat := (lowBits 10 b).foldr (fun bit r => Nat.xor (gfTwice r) (if bit then a else 0)) 0

/-- The sum of two polynomials, coefficient by coefficient. -/
def gfAdd (p q : List Nat) : List Nat := List.zipWith Nat.xor p q

/-- The generator of the code without its leading 1, highest power first: the product of (x + 2^i) for i = 0 to n - 1. -/
def rsGen : Nat → Nat → List Nat
  | 0, _ => []
  | n + 1, root =>
    let g := rsGen n (gfTwice root)
    gfAdd (g ++ [0]) ((1 :: g).map (gfMul root))

/-- One message symbol enters the division by a generator. -/
def rsStep (g r : List Nat) (m : Nat) : List Nat :=
  gfAdd (r.drop 1 ++ [0]) (g.map (gfMul (Nat.xor m (r.headD 0))))

/-- The 30 check symbols of a message of 514 (R476). -/
def rsCheck (msg : List Nat) : List Nat := msg.foldl (rsStep (rsGen 30 1)) (List.replicate 30 0)

/-! Blocks, symbols and levels. -/

/-- The bits of bytes in the order of sending. -/
def byteBits (bs : List Nat) : List Bool := (bs.map (lowBits 8)).flatten

/-- A block of 32 bytes as 257 bits. -/
def block257 (bs : List Nat) : List Bool := true :: byteBits bs

/-- The 514 message symbols of 10 flits (R476 step 2). -/
def codeMsg (flits : List (List Nat)) : List Nat :=
  (runsOf 10 514 ((runsOf 32 20 flits.flatten).map block257).flatten).map ofBits

/-- The Gray level of a pair of bits, the first one being the most significant. -/
def pamLevel (a b : Bool) : Nat := 2 * b2n a + b2n (a != b)

/-- The PAM4 levels of a run of bits. -/
def pamLevels : List Bool → List Nat
  | a :: b :: t => pamLevel a b :: pamLevels t
  | _ => []

/-- The 2,720 levels of the codeword of 10 flits of 64 bytes, in the order of sending. -/
def codeword (flits : List (List Nat)) : List Nat :=
  let m := codeMsg flits
  pamLevels ((m ++ rsCheck m).map (lowBits 10)).flatten

end Sys2Proof.Machine
end

