-- ==== Sys2Proof/Config.lean ====
section
/-! DEFINITION. What the spec leaves open: values no proof can see. -/
namespace Sys2Proof

/-- FREE VALUE (notes/assumptions/3.md). A value the spec leaves open, drawn by count from State.free. -/
opaque Config.freeValue : Nat → Nat

end Sys2Proof
end

