-- ==== Sys2Proof/Machine/Flags.lean ====
section
/-! DEFINITION. The shared status codes (R13), hub sources (R536), event producers (R551) and sample flags, by name. -/
namespace Sys2Proof.Machine

/-! Status codes (spec/00_scope.md R13). -/

abbrev OK : Nat := 0x00
abbrev ILLEGAL_OPCODE : Nat := 0x01
abbrev RESERVED_NONZERO : Nat := 0x02
abbrev BAD_HANDLE : Nat := 0x03
abbrev NOT_OWNER : Nat := 0x04
abbrev NO_LEASE : Nat := 0x05
abbrev QUOTA_EXCEEDED : Nat := 0x06
abbrev OUT_OF_RANGE : Nat := 0x07
abbrev TABLE_INVALID : Nat := 0x08
abbrev ENERGY_REFUSED : Nat := 0x09
abbrev BUSY : Nat := 0x0A
abbrev EPOCH_STALE : Nat := 0x0B
abbrev LINK_DOWN : Nat := 0x0C
abbrev HOME_UNREACHABLE : Nat := 0x0D
abbrev TIMEOUT : Nat := 0x0E
abbrev CLOCK_STOPPED : Nat := 0x0F
abbrev FENCED : Nat := 0x10
abbrev ROLE_FORBIDDEN : Nat := 0x11
abbrev QUARANTINED : Nat := 0x12
abbrev LASTING_FAULT : Nat := 0x13
abbrev SHED : Nat := 0x14
abbrev LOCKED : Nat := 0x15
abbrev WINDOW_VIOLATION : Nat := 0x16
abbrev NVM_WORN : Nat := 0x17
abbrev NOT_IN_STATE : Nat := 0x18

/-! Bits of the sample flag word (spec/09_endpoints_formats_and_curves.md R278). -/

abbrev fVALID : Nat := 0
abbrev fRETRIED : Nat := 1
abbrev fCLIPPED : Nat := 2
abbrev fCURVE_EXTRAP : Nat := 3
abbrev fCOMPLIANCE : Nat := 4
abbrev fDRIFT : Nat := 5
abbrev fWATCH : Nat := 6
abbrev fHOLDOVER : Nat := 7
abbrev fDELAY_CORRECTED : Nat := 8
abbrev fPARTIAL : Nat := 9
abbrev fBURST : Nat := 10

/-- `w` with bit b set. -/
def flagSet (w b : Nat) : Nat := nput w b b 1

/-- `w` with bit b set when `c` holds. -/
def flagIf (w b : Nat) (c : Bool) : Nat := if c then flagSet w b else w

/-! Event record sources and GAP reasons (spec/13_rings_doorbells_and_casks.md R435, R438). -/

abbrev evHUB : Nat := 1
abbrev evNODE : Nat := 2
abbrev evGUARD : Nat := 3
abbrev evLOOP : Nat := 4
abbrev evENTRY : Nat := 5
abbrev evRCG : Nat := 6
abbrev evLEASE : Nat := 7
abbrev evRING : Nat := 8

abbrev gapMISSED : Nat := 1
abbrev gapSUPPRESSED : Nat := 2
abbrev gapINTERRUPTED : Nat := 3
abbrev gapDISCARDED : Nat := 4
abbrev gapPOWERLOSS : Nat := 5
abbrev gapMETERED : Nat := 6
abbrev gapSTRAGGLED : Nat := 7
abbrev gapQUARANTINED : Nat := 8

abbrev clSIZE : Nat := 1
abbrev clAGE : Nat := 2
abbrev clALERT : Nat := 3
abbrev clFLUSH : Nat := 4
abbrev clSTOP : Nat := 5
abbrev clSHED : Nat := 6

/-! Hub sources (spec/17_interrupt_controller.md R536). -/

abbrev srcCTSTEP : Nat := 32
abbrev srcCTLOCK : Nat := 33
abbrev srcSYNCREJ : Nat := 34
abbrev srcBUSFAULT : Nat := 35
abbrev srcGUARDTRIP : Nat := 36
abbrev srcTABLE : Nat := 37
abbrev srcMASH : Nat := 38
abbrev srcMEM : Nat := 39
abbrev srcCAN : Nat := 40
abbrev srcROLE : Nat := 41
abbrev srcERRSTS : Nat := 42
abbrev srcSHED : Nat := 43
abbrev srcNVM : Nat := 44
abbrev srcBONDDOWN : Nat := 45
abbrev srcWAKE : Nat := 46
abbrev srcSOFT : Nat := 47

/-! CT states (R32). -/

abbrev ctUNSET : Nat := 0
abbrev ctACQUIRING : Nat := 1
abbrev ctLOCKED : Nat := 2
abbrev ctHOLDOVER : Nat := 3
abbrev ctREFERENCE : Nat := 4

/-! Roles (R16). -/

abbrev roleISOLATED : Nat := 0
abbrev roleKEYSTONE : Nat := 1
abbrev roleMEMBER : Nat := 2
abbrev roleACTING : Nat := 3

end Sys2Proof.Machine
end

