-- ==== Sys2Proof/Machine/Regs.lean ====
section
/-! DEFINITION. The BAR0 register map: every register of the block chapters of spec/ with the bits, access type, reset
value and value checks of its fields, and the named fields the meanings use (spec/00_scope.md R8-R10, spec/24_address_map.md R653).
A row's value checks are those its field table states for one field alone; checks across fields are in the meanings. -/
namespace Sys2Proof.Machine

/-- Access types of R8. -/
inductive Acc where
  | ro | rw | w1c | wo | rwl
deriving DecidableEq, Repr

/-- What a value outside lo..hi of a field records: RESERVED_NONZERO (a reserved encoding, R9) or OUT_OF_RANGE. -/
inductive Chk where
  | any
  | reserved (lo hi : Nat)
  | range (lo hi : Nat)
deriving DecidableEq, Repr

/-- One field of a register. -/
structure Fd where
  hi : Nat
  lo : Nat
  acc : Acc
  rst : Nat
  chk : Chk
deriving DecidableEq, Repr

/-- A register, or an array of registers: element (i, j) lies at off + s1*i + s2*j; `err` is its block's ERRSTS. -/
structure Reg where
  off : Nat
  err : Nat
  s1 : Nat
  c1 : Nat
  s2 : Nat
  c2 : Nat
  fds : List Fd
deriving DecidableEq, Repr

/-- The BAR0 offset of element (i, j). -/
def Reg.at (r : Reg) (i j : Nat) : Nat := r.off + r.s1 * i + r.s2 * j

/-- A named field: the BAR0 offset of its register and its bits. -/
structure Fld where
  off : Nat
  hi : Nat
  lo : Nat
deriving DecidableEq, Repr

/-- The clock domains of R577. -/
inductive Dom where
  | ckSys | ckFab | ckFld | ckAon
deriving DecidableEq, Repr

/-- A block of the address map (R653). -/
structure Blk where
  base : Nat
  last : Nat
  err : Nat
  dom : Dom
  regs : List Reg
deriving DecidableEq, Repr

/-! TIM (spec chapter 02). -/

/-- TIM_ERRSTS (R10). -/
abbrev TIM_ERRSTS : Nat := 0x2805C

/-- TIM_CTLO. -/
def rTIM_CTLO : Reg :=
  ⟨0x28000, 0x2805C, 0x0, 1, 0x0, 1, [⟨31, 0, .ro, 0, .any⟩]⟩

/-- TIM_CTLO.V. -/
abbrev TIM_CTLO : Fld := ⟨0x28000, 31, 0⟩

/-- TIM_CTHI. -/
def rTIM_CTHI : Reg :=
  ⟨0x28004, 0x2805C, 0x0, 1, 0x0, 1, [⟨31, 0, .ro, 0, .any⟩]⟩

/-- TIM_CTHI.V. -/
abbrev TIM_CTHI : Fld := ⟨0x28004, 31, 0⟩

/-- TIM_CTINCLO. -/
def rTIM_CTINCLO : Reg :=
  ⟨0x28008, 0x2805C, 0x0, 1, 0x0, 1, [⟨31, 0, .ro, 3579139413, .any⟩]⟩

/-- TIM_CTINCLO.V. -/
abbrev TIM_CTINCLO : Fld := ⟨0x28008, 31, 0⟩

/-- TIM_CTINCHI. -/
def rTIM_CTINCHI : Reg :=
  ⟨0x2800C, 0x2805C, 0x0, 1, 0x0, 1, [⟨31, 0, .ro, 0, .any⟩]⟩

/-- TIM_CTINCHI.V. -/
abbrev TIM_CTINCHI : Fld := ⟨0x2800C, 31, 0⟩

/-- TIM_CTSTS. -/
def rTIM_CTSTS : Reg :=
  ⟨0x28010, 0x2805C, 0x0, 1, 0x0, 1, [⟨11, 11, .w1c, 0, .any⟩, ⟨10, 10, .ro, 0, .any⟩, ⟨9, 9, .ro, 0, .any⟩, ⟨8, 8, .ro, 0, .any⟩, ⟨7, 7, .w1c, 0, .any⟩, ⟨6, 6, .ro, 0, .any⟩, ⟨5, 4, .ro, 0, .any⟩, ⟨3, 3, .ro, 0, .any⟩, ⟨2, 0, .ro, 0, .any⟩]⟩

/-- TIM_CTSTS.STEPPED. -/
abbrev TIM_CTSTS_STEPPED : Fld := ⟨0x28010, 11, 11⟩

/-- TIM_CTSTS.SNAPSHOT. -/
abbrev TIM_CTSTS_SNAPSHOT : Fld := ⟨0x28010, 10, 10⟩

/-- TIM_CTSTS.UTC_VALID. -/
abbrev TIM_CTSTS_UTC_VALID : Fld := ⟨0x28010, 9, 9⟩

/-- TIM_CTSTS.DISCIPLINED. -/
abbrev TIM_CTSTS_DISCIPLINED : Fld := ⟨0x28010, 8, 8⟩

/-- TIM_CTSTS.RANGE. -/
abbrev TIM_CTSTS_RANGE : Fld := ⟨0x28010, 7, 7⟩

/-- TIM_CTSTS.UPVALID. -/
abbrev TIM_CTSTS_UPVALID : Fld := ⟨0x28010, 6, 6⟩

/-- TIM_CTSTS.UPPORT. -/
abbrev TIM_CTSTS_UPPORT : Fld := ⟨0x28010, 5, 4⟩

/-- TIM_CTSTS.TRACKING. -/
abbrev TIM_CTSTS_TRACKING : Fld := ⟨0x28010, 3, 3⟩

/-- TIM_CTSTS.STATE. -/
abbrev TIM_CTSTS_STATE : Fld := ⟨0x28010, 2, 0⟩

/-- TIM_CTOFS. -/
def rTIM_CTOFS : Reg :=
  ⟨0x28014, 0x2805C, 0x0, 1, 0x0, 1, [⟨31, 0, .ro, 0, .any⟩]⟩

/-- TIM_CTOFS.V. -/
abbrev TIM_CTOFS : Fld := ⟨0x28014, 31, 0⟩

/-- TIM_SVCFG. -/
def rTIM_SVCFG : Reg :=
  ⟨0x28018, 0x2805C, 0x0, 1, 0x0, 1, [⟨25, 18, .rw, 50, .range 1 255⟩, ⟨17, 8, .rw, 10, .range 1 1000⟩, ⟨7, 4, .rw, 8, .range 2 15⟩, ⟨3, 0, .rw, 3, .reserved 0 7⟩]⟩

/-- TIM_SVCFG.LOCKTHR. -/
abbrev TIM_SVCFG_LOCKTHR : Fld := ⟨0x28018, 25, 18⟩

/-- TIM_SVCFG.STEPLIM. -/
abbrev TIM_SVCFG_STEPLIM : Fld := ⟨0x28018, 17, 8⟩

/-- TIM_SVCFG.HOLDCNT. -/
abbrev TIM_SVCFG_HOLDCNT : Fld := ⟨0x28018, 7, 4⟩

/-- TIM_SVCFG.INTERVAL. -/
abbrev TIM_SVCFG_INTERVAL : Fld := ⟨0x28018, 3, 0⟩

/-- TIM_STEPCNT. -/
def rTIM_STEPCNT : Reg :=
  ⟨0x2801C, 0x2805C, 0x0, 1, 0x0, 1, [⟨31, 0, .ro, 0, .any⟩]⟩

/-- TIM_STEPCNT.V. -/
abbrev TIM_STEPCNT : Fld := ⟨0x2801C, 31, 0⟩

/-- TIM_LASTSTEPLO. -/
def rTIM_LASTSTEPLO : Reg :=
  ⟨0x28020, 0x2805C, 0x0, 1, 0x0, 1, [⟨31, 0, .ro, 0, .any⟩]⟩

/-- TIM_LASTSTEPLO.V. -/
abbrev TIM_LASTSTEPLO : Fld := ⟨0x28020, 31, 0⟩

/-- TIM_LASTSTEPHI. -/
def rTIM_LASTSTEPHI : Reg :=
  ⟨0x28024, 0x2805C, 0x0, 1, 0x0, 1, [⟨31, 0, .ro, 0, .any⟩]⟩

/-- TIM_LASTSTEPHI.V. -/
abbrev TIM_LASTSTEPHI : Fld := ⟨0x28024, 31, 0⟩

/-- TIM_AONCNTLO. -/
def rTIM_AONCNTLO : Reg :=
  ⟨0x28028, 0x2805C, 0x0, 1, 0x0, 1, [⟨31, 0, .ro, 0, .any⟩]⟩

/-- TIM_AONCNTLO.V. -/
abbrev TIM_AONCNTLO : Fld := ⟨0x28028, 31, 0⟩

/-- TIM_AONCNTHI. -/
def rTIM_AONCNTHI : Reg :=
  ⟨0x2802C, 0x2805C, 0x0, 1, 0x0, 1, [⟨31, 0, .ro, 0, .any⟩]⟩

/-- TIM_AONCNTHI.V. -/
abbrev TIM_AONCNTHI : Fld := ⟨0x2802C, 31, 0⟩

/-- TIM_SYNCCFG. -/
def rTIM_SYNCCFG : Reg :=
  ⟨0x28030, 0x2805C, 0x0, 1, 0x0, 1, [⟨27, 16, .rw, 60, .range 1 3600⟩, ⟨15, 8, .rw, 100, .range 1 255⟩, ⟨7, 4, .rw, 0, .reserved 0 3⟩, ⟨3, 3, .rw, 0, .any⟩, ⟨2, 2, .rw, 0, .any⟩, ⟨1, 0, .rw, 0, .reserved 0 1⟩]⟩

/-- TIM_SYNCCFG.DISC_HOLD. -/
abbrev TIM_SYNCCFG_DISC_HOLD : Fld := ⟨0x28030, 27, 16⟩

/-- TIM_SYNCCFG.WIDTH. -/
abbrev TIM_SYNCCFG_WIDTH : Fld := ⟨0x28030, 15, 8⟩

/-- TIM_SYNCCFG.PERIOD. -/
abbrev TIM_SYNCCFG_PERIOD : Fld := ⟨0x28030, 7, 4⟩

/-- TIM_SYNCCFG.DISC_EN. -/
abbrev TIM_SYNCCFG_DISC_EN : Fld := ⟨0x28030, 3, 3⟩

/-- TIM_SYNCCFG.EDGE. -/
abbrev TIM_SYNCCFG_EDGE : Fld := ⟨0x28030, 2, 2⟩

/-- TIM_SYNCCFG.MODE. -/
abbrev TIM_SYNCCFG_MODE : Fld := ⟨0x28030, 1, 0⟩

/-- TIM_SYNCREJ. -/
def rTIM_SYNCREJ : Reg :=
  ⟨0x28034, 0x2805C, 0x0, 1, 0x0, 1, [⟨31, 0, .ro, 0, .any⟩]⟩

/-- TIM_SYNCREJ.V. -/
abbrev TIM_SYNCREJ : Fld := ⟨0x28034, 31, 0⟩

/-- TIM_SYNCUTCLO. -/
def rTIM_SYNCUTCLO : Reg :=
  ⟨0x28038, 0x2805C, 0x0, 1, 0x0, 1, [⟨31, 0, .rw, 0, .any⟩]⟩

/-- TIM_SYNCUTCLO.V. -/
abbrev TIM_SYNCUTCLO : Fld := ⟨0x28038, 31, 0⟩

/-- TIM_SYNCUTCHI. -/
def rTIM_SYNCUTCHI : Reg :=
  ⟨0x2803C, 0x2805C, 0x0, 1, 0x0, 1, [⟨31, 0, .rw, 0, .any⟩]⟩

/-- TIM_SYNCUTCHI.V. -/
abbrev TIM_SYNCUTCHI : Fld := ⟨0x2803C, 31, 0⟩

/-- TIM_UTCOFSLO. -/
def rTIM_UTCOFSLO : Reg :=
  ⟨0x28040, 0x2805C, 0x0, 1, 0x0, 1, [⟨31, 0, .ro, 0, .any⟩]⟩

/-- TIM_UTCOFSLO.V. -/
abbrev TIM_UTCOFSLO : Fld := ⟨0x28040, 31, 0⟩

/-- TIM_UTCOFSHI. -/
def rTIM_UTCOFSHI : Reg :=
  ⟨0x28044, 0x2805C, 0x0, 1, 0x0, 1, [⟨31, 0, .ro, 0, .any⟩]⟩

/-- TIM_UTCOFSHI.V. -/
abbrev TIM_UTCOFSHI : Fld := ⟨0x28044, 31, 0⟩

/-- TIM_BDASYM. -/
def rTIM_BDASYM : Reg :=
  ⟨0x28048, 0x2805C, 0x4, 4, 0x0, 1, [⟨15, 0, .rw, 0, .any⟩]⟩

/-- TIM_BDASYM.V. -/
abbrev TIM_BDASYM (x : Nat) : Fld := ⟨0x28048 + 0x4 * x, 15, 0⟩

/-- TIM_TUCTL. -/
def rTIM_TUCTL : Reg :=
  ⟨0x28100, 0x2805C, 0x100, 16, 0x0, 1, [⟨15, 14, .rw, 0, .reserved 0 1⟩, ⟨13, 13, .rw, 0, .any⟩, ⟨12, 11, .rw, 0, .reserved 0 2⟩, ⟨10, 4, .rw, 0, .any⟩, ⟨3, 1, .rw, 0, .reserved 0 6⟩, ⟨0, 0, .rw, 0, .any⟩]⟩

/-- TIM_TUCTL.IOMODE. -/
abbrev TIM_TUCTL_IOMODE (x : Nat) : Fld := ⟨0x28100 + 0x100 * x, 15, 14⟩

/-- TIM_TUCTL.STARTCT. -/
abbrev TIM_TUCTL_STARTCT (x : Nat) : Fld := ⟨0x28100 + 0x100 * x, 13, 13⟩

/-- TIM_TUCTL.EDGE. -/
abbrev TIM_TUCTL_EDGE (x : Nat) : Fld := ⟨0x28100 + 0x100 * x, 12, 11⟩

/-- TIM_TUCTL.SRCSEL. -/
abbrev TIM_TUCTL_SRCSEL (x : Nat) : Fld := ⟨0x28100 + 0x100 * x, 10, 4⟩

/-- TIM_TUCTL.SRC. -/
abbrev TIM_TUCTL_SRC (x : Nat) : Fld := ⟨0x28100 + 0x100 * x, 3, 1⟩

/-- TIM_TUCTL.EN. -/
abbrev TIM_TUCTL_EN (x : Nat) : Fld := ⟨0x28100 + 0x100 * x, 0, 0⟩

/-- TIM_TUPSC. -/
def rTIM_TUPSC : Reg :=
  ⟨0x28104, 0x2805C, 0x100, 16, 0x0, 1, [⟨31, 16, .rw, 0, .any⟩, ⟨15, 0, .rw, 0, .any⟩]⟩

/-- TIM_TUPSC.INTM1. -/
abbrev TIM_TUPSC_INTM1 (x : Nat) : Fld := ⟨0x28104 + 0x100 * x, 31, 16⟩

/-- TIM_TUPSC.FRAC. -/
abbrev TIM_TUPSC_FRAC (x : Nat) : Fld := ⟨0x28104 + 0x100 * x, 15, 0⟩

/-- TIM_TUCNTLO. -/
def rTIM_TUCNTLO : Reg :=
  ⟨0x28108, 0x2805C, 0x100, 16, 0x0, 1, [⟨31, 0, .rw, 0, .any⟩]⟩

/-- TIM_TUCNTLO.V. -/
abbrev TIM_TUCNTLO (x : Nat) : Fld := ⟨0x28108 + 0x100 * x, 31, 0⟩

/-- TIM_TUCNTHI. -/
def rTIM_TUCNTHI : Reg :=
  ⟨0x2810C, 0x2805C, 0x100, 16, 0x0, 1, [⟨15, 0, .rw, 0, .any⟩]⟩

/-- TIM_TUCNTHI.V. -/
abbrev TIM_TUCNTHI (x : Nat) : Fld := ⟨0x2810C + 0x100 * x, 15, 0⟩

/-- TIM_TUSTARTLO. -/
def rTIM_TUSTARTLO : Reg :=
  ⟨0x28110, 0x2805C, 0x100, 16, 0x0, 1, [⟨31, 0, .rw, 0, .any⟩]⟩

/-- TIM_TUSTARTLO.V. -/
abbrev TIM_TUSTARTLO (x : Nat) : Fld := ⟨0x28110 + 0x100 * x, 31, 0⟩

/-- TIM_TUSTARTHI. -/
def rTIM_TUSTARTHI : Reg :=
  ⟨0x28114, 0x2805C, 0x100, 16, 0x0, 1, [⟨31, 0, .rw, 0, .any⟩]⟩

/-- TIM_TUSTARTHI.V. -/
abbrev TIM_TUSTARTHI (x : Nat) : Fld := ⟨0x28114 + 0x100 * x, 31, 0⟩

/-- TIM_TUSTS. -/
def rTIM_TUSTS : Reg :=
  ⟨0x28118, 0x2805C, 0x100, 16, 0x0, 1, [⟨11, 11, .ro, 0, .any⟩, ⟨10, 10, .w1c, 0, .any⟩, ⟨9, 8, .ro, 0, .any⟩, ⟨7, 4, .w1c, 0, .any⟩, ⟨3, 0, .w1c, 0, .any⟩]⟩

/-- TIM_TUSTS.RUNNING. -/
abbrev TIM_TUSTS_RUNNING (x : Nat) : Fld := ⟨0x28118 + 0x100 * x, 11, 11⟩

/-- TIM_TUSTS.STARTLATE. -/
abbrev TIM_TUSTS_STARTLATE (x : Nat) : Fld := ⟨0x28118 + 0x100 * x, 10, 10⟩

/-- TIM_TUSTS.CAPNE. -/
abbrev TIM_TUSTS_CAPNE (x : Nat) : Fld := ⟨0x28118 + 0x100 * x, 9, 8⟩

/-- TIM_TUSTS.LATE. -/
abbrev TIM_TUSTS_LATE (x : Nat) : Fld := ⟨0x28118 + 0x100 * x, 7, 4⟩

/-- TIM_TUSTS.MATCH. -/
abbrev TIM_TUSTS_MATCH (x : Nat) : Fld := ⟨0x28118 + 0x100 * x, 3, 0⟩

/-- TIM_TUCMPCTL. -/
def rTIM_TUCMPCTL : Reg :=
  ⟨0x28120, 0x2805C, 0x100, 16, 0x10, 4, [⟨5, 5, .rw, 0, .any⟩, ⟨4, 2, .rw, 0, .reserved 0 3⟩, ⟨1, 1, .rw, 0, .any⟩, ⟨0, 0, .rw, 0, .any⟩]⟩

/-- TIM_TUCMPCTL.IRQ. -/
abbrev TIM_TUCMPCTL_IRQ (x : Nat) (y : Nat) : Fld := ⟨0x28120 + 0x100 * x + 0x10 * y, 5, 5⟩

/-- TIM_TUCMPCTL.PINACT. -/
abbrev TIM_TUCMPCTL_PINACT (x : Nat) (y : Nat) : Fld := ⟨0x28120 + 0x100 * x + 0x10 * y, 4, 2⟩

/-- TIM_TUCMPCTL.BASE. -/
abbrev TIM_TUCMPCTL_BASE (x : Nat) (y : Nat) : Fld := ⟨0x28120 + 0x100 * x + 0x10 * y, 1, 1⟩

/-- TIM_TUCMPCTL.ARM. -/
abbrev TIM_TUCMPCTL_ARM (x : Nat) (y : Nat) : Fld := ⟨0x28120 + 0x100 * x + 0x10 * y, 0, 0⟩

/-- TIM_TUCMPPER. -/
def rTIM_TUCMPPER : Reg :=
  ⟨0x28124, 0x2805C, 0x100, 16, 0x10, 4, [⟨31, 0, .rw, 0, .any⟩]⟩

/-- TIM_TUCMPPER.V. -/
abbrev TIM_TUCMPPER (x : Nat) (y : Nat) : Fld := ⟨0x28124 + 0x100 * x + 0x10 * y, 31, 0⟩

/-- TIM_TUCMPLO. -/
def rTIM_TUCMPLO : Reg :=
  ⟨0x28128, 0x2805C, 0x100, 16, 0x10, 4, [⟨31, 0, .rw, 0, .any⟩]⟩

/-- TIM_TUCMPLO.V. -/
abbrev TIM_TUCMPLO (x : Nat) (y : Nat) : Fld := ⟨0x28128 + 0x100 * x + 0x10 * y, 31, 0⟩

/-- TIM_TUCMPHI. -/
def rTIM_TUCMPHI : Reg :=
  ⟨0x2812C, 0x2805C, 0x100, 16, 0x10, 4, [⟨31, 0, .rw, 0, .any⟩]⟩

/-- TIM_TUCMPHI.V. -/
abbrev TIM_TUCMPHI (x : Nat) (y : Nat) : Fld := ⟨0x2812C + 0x100 * x + 0x10 * y, 31, 0⟩

/-- TIM_TUCAPCTL. -/
def rTIM_TUCAPCTL : Reg :=
  ⟨0x28160, 0x2805C, 0x100, 16, 0x20, 2, [⟨24, 24, .wo, 0, .any⟩, ⟨23, 16, .ro, 0, .any⟩, ⟨15, 13, .ro, 0, .any⟩, ⟨12, 12, .rw, 0, .any⟩, ⟨11, 10, .rw, 0, .reserved 0 2⟩, ⟨9, 3, .rw, 0, .any⟩, ⟨2, 1, .rw, 0, .any⟩, ⟨0, 0, .rw, 0, .any⟩]⟩

/-- TIM_TUCAPCTL.CLR. -/
abbrev TIM_TUCAPCTL_CLR (x : Nat) (y : Nat) : Fld := ⟨0x28160 + 0x100 * x + 0x20 * y, 24, 24⟩

/-- TIM_TUCAPCTL.LOST. -/
abbrev TIM_TUCAPCTL_LOST (x : Nat) (y : Nat) : Fld := ⟨0x28160 + 0x100 * x + 0x20 * y, 23, 16⟩

/-- TIM_TUCAPCTL.DEPTH. -/
abbrev TIM_TUCAPCTL_DEPTH (x : Nat) (y : Nat) : Fld := ⟨0x28160 + 0x100 * x + 0x20 * y, 15, 13⟩

/-- TIM_TUCAPCTL.IRQ. -/
abbrev TIM_TUCAPCTL_IRQ (x : Nat) (y : Nat) : Fld := ⟨0x28160 + 0x100 * x + 0x20 * y, 12, 12⟩

/-- TIM_TUCAPCTL.EDGE. -/
abbrev TIM_TUCAPCTL_EDGE (x : Nat) (y : Nat) : Fld := ⟨0x28160 + 0x100 * x + 0x20 * y, 11, 10⟩

/-- TIM_TUCAPCTL.SEL. -/
abbrev TIM_TUCAPCTL_SEL (x : Nat) (y : Nat) : Fld := ⟨0x28160 + 0x100 * x + 0x20 * y, 9, 3⟩

/-- TIM_TUCAPCTL.SRC. -/
abbrev TIM_TUCAPCTL_SRC (x : Nat) (y : Nat) : Fld := ⟨0x28160 + 0x100 * x + 0x20 * y, 2, 1⟩

/-- TIM_TUCAPCTL.EN. -/
abbrev TIM_TUCAPCTL_EN (x : Nat) (y : Nat) : Fld := ⟨0x28160 + 0x100 * x + 0x20 * y, 0, 0⟩

/-- TIM_TUCAPCNTLO. -/
def rTIM_TUCAPCNTLO : Reg :=
  ⟨0x28164, 0x2805C, 0x100, 16, 0x20, 2, [⟨31, 0, .ro, 0, .any⟩]⟩

/-- TIM_TUCAPCNTLO.V. -/
abbrev TIM_TUCAPCNTLO (x : Nat) (y : Nat) : Fld := ⟨0x28164 + 0x100 * x + 0x20 * y, 31, 0⟩

/-- TIM_TUCAPCNTHI. -/
def rTIM_TUCAPCNTHI : Reg :=
  ⟨0x28168, 0x2805C, 0x100, 16, 0x20, 2, [⟨15, 0, .ro, 0, .any⟩]⟩

/-- TIM_TUCAPCNTHI.V. -/
abbrev TIM_TUCAPCNTHI (x : Nat) (y : Nat) : Fld := ⟨0x28168 + 0x100 * x + 0x20 * y, 15, 0⟩

/-- TIM_TUCAPCTLO. -/
def rTIM_TUCAPCTLO : Reg :=
  ⟨0x2816C, 0x2805C, 0x100, 16, 0x20, 2, [⟨31, 0, .ro, 0, .any⟩]⟩

/-- TIM_TUCAPCTLO.V. -/
abbrev TIM_TUCAPCTLO (x : Nat) (y : Nat) : Fld := ⟨0x2816C + 0x100 * x + 0x20 * y, 31, 0⟩

/-- TIM_TUCAPCTHI. -/
def rTIM_TUCAPCTHI : Reg :=
  ⟨0x28170, 0x2805C, 0x100, 16, 0x20, 2, [⟨31, 0, .ro, 0, .any⟩]⟩

/-- TIM_TUCAPCTHI.V. -/
abbrev TIM_TUCAPCTHI (x : Nat) (y : Nat) : Fld := ⟨0x28170 + 0x100 * x + 0x20 * y, 31, 0⟩

/-- The registers of TIM. -/
def regsTIM : List Reg :=
  [rTIM_CTLO, rTIM_CTHI, rTIM_CTINCLO, rTIM_CTINCHI, rTIM_CTSTS, rTIM_CTOFS, rTIM_SVCFG, rTIM_STEPCNT, rTIM_LASTSTEPLO, rTIM_LASTSTEPHI, rTIM_AONCNTLO, rTIM_AONCNTHI, rTIM_SYNCCFG, rTIM_SYNCREJ, rTIM_SYNCUTCLO, rTIM_SYNCUTCHI, rTIM_UTCOFSLO, rTIM_UTCOFSHI, rTIM_BDASYM, rTIM_TUCTL] ++
  [rTIM_TUPSC, rTIM_TUCNTLO, rTIM_TUCNTHI, rTIM_TUSTARTLO, rTIM_TUSTARTHI, rTIM_TUSTS, rTIM_TUCMPCTL, rTIM_TUCMPPER, rTIM_TUCMPLO, rTIM_TUCMPHI, rTIM_TUCAPCTL, rTIM_TUCAPCNTLO, rTIM_TUCAPCNTHI, rTIM_TUCAPCTLO, rTIM_TUCAPCTHI]

/-! CRS (spec chapter 03, 04). -/

/-- CRS_ERRSTS (R10). -/
abbrev CRS_ERRSTS : Nat := 0x00000

/-- CRS_BCFG. -/
def rCRS_BCFG : Reg :=
  ⟨0x01000, 0x00000, 0x80, 64, 0x0, 1, [⟨23, 16, .rw, 16, .range 13 64⟩, ⟨15, 13, .rw, 1, .reserved 0 4⟩, ⟨12, 10, .rw, 2, .reserved 0 4⟩, ⟨9, 4, .rw, 16, .range 8 63⟩, ⟨3, 3, .rw, 1, .any⟩, ⟨2, 2, .rw, 0, .any⟩, ⟨0, 0, .rw, 0, .any⟩]⟩

/-- CRS_BCFG.DLWIN. -/
abbrev CRS_BCFG_DLWIN (x : Nat) : Fld := ⟨0x01000 + 0x80 * x, 23, 16⟩

/-- CRS_BCFG.SPARECNT. -/
abbrev CRS_BCFG_SPARECNT (x : Nat) : Fld := ⟨0x01000 + 0x80 * x, 15, 13⟩

/-- CRS_BCFG.PROBCNT. -/
abbrev CRS_BCFG_PROBCNT (x : Nat) : Fld := ⟨0x01000 + 0x80 * x, 12, 10⟩

/-- CRS_BCFG.GUARD. -/
abbrev CRS_BCFG_GUARD (x : Nat) : Fld := ⟨0x01000 + 0x80 * x, 9, 4⟩

/-- CRS_BCFG.JOINEN. -/
abbrev CRS_BCFG_JOINEN (x : Nat) : Fld := ⟨0x01000 + 0x80 * x, 3, 3⟩

/-- CRS_BCFG.WATCHEN. -/
abbrev CRS_BCFG_WATCHEN (x : Nat) : Fld := ⟨0x01000 + 0x80 * x, 2, 2⟩

/-- CRS_BCFG.EN. -/
abbrev CRS_BCFG_EN (x : Nat) : Fld := ⟨0x01000 + 0x80 * x, 0, 0⟩

/-- CRS_BCYCLEN. -/
def rCRS_BCYCLEN : Reg :=
  ⟨0x01004, 0x00000, 0x80, 64, 0x0, 1, [⟨19, 0, .rw, 250, .range 50 1000000⟩]⟩

/-- CRS_BCYCLEN.LEN. -/
abbrev CRS_BCYCLEN_LEN (x : Nat) : Fld := ⟨0x01004 + 0x80 * x, 19, 0⟩

/-- CRS_BPHASE. -/
def rCRS_BPHASE : Reg :=
  ⟨0x01008, 0x00000, 0x80, 64, 0x0, 1, [⟨19, 0, .rw, 0, .any⟩]⟩

/-- CRS_BPHASE.OFS. -/
abbrev CRS_BPHASE_OFS (x : Nat) : Fld := ⟨0x01008 + 0x80 * x, 19, 0⟩

/-- CRS_BSLOTCFG. -/
def rCRS_BSLOTCFG : Reg :=
  ⟨0x0100C, 0x00000, 0x80, 64, 0x0, 1, [⟨27, 16, .rw, 256, .range 32 4095⟩, ⟨11, 0, .rw, 256, .range 32 4095⟩]⟩

/-- CRS_BSLOTCFG.PROBLEN. -/
abbrev CRS_BSLOTCFG_PROBLEN (x : Nat) : Fld := ⟨0x0100C + 0x80 * x, 27, 16⟩

/-- CRS_BSLOTCFG.SPARELEN. -/
abbrev CRS_BSLOTCFG_SPARELEN (x : Nat) : Fld := ⟨0x0100C + 0x80 * x, 11, 0⟩

/-- CRS_BSTS. -/
def rCRS_BSTS : Reg :=
  ⟨0x01010, 0x00000, 0x80, 64, 0x0, 1, [⟨6, 6, .ro, 0, .any⟩, ⟨5, 5, .ro, 0, .any⟩, ⟨4, 4, .ro, 0, .any⟩, ⟨3, 3, .ro, 1, .any⟩, ⟨2, 2, .w1c, 0, .any⟩, ⟨1, 1, .ro, 0, .any⟩]⟩

/-- CRS_BSTS.HOLD. -/
abbrev CRS_BSTS_HOLD (x : Nat) : Fld := ⟨0x01010 + 0x80 * x, 6, 6⟩

/-- CRS_BSTS.WATCHRATE. -/
abbrev CRS_BSTS_WATCHRATE (x : Nat) : Fld := ⟨0x01010 + 0x80 * x, 5, 5⟩

/-- CRS_BSTS.LAYOUTPEND. -/
abbrev CRS_BSTS_LAYOUTPEND (x : Nat) : Fld := ⟨0x01010 + 0x80 * x, 4, 4⟩

/-- CRS_BSTS.SEGOFF. -/
abbrev CRS_BSTS_SEGOFF (x : Nat) : Fld := ⟨0x01010 + 0x80 * x, 3, 3⟩

/-- CRS_BSTS.LINEFAULT. -/
abbrev CRS_BSTS_LINEFAULT (x : Nat) : Fld := ⟨0x01010 + 0x80 * x, 2, 2⟩

/-- CRS_BSTS.RUNNING. -/
abbrev CRS_BSTS_RUNNING (x : Nat) : Fld := ⟨0x01010 + 0x80 * x, 1, 1⟩

/-- CRS_BCYCNO. -/
def rCRS_BCYCNO : Reg :=
  ⟨0x01014, 0x00000, 0x80, 64, 0x0, 1, [⟨31, 0, .ro, 0, .any⟩]⟩

/-- CRS_BCYCNO.V. -/
abbrev CRS_BCYCNO (x : Nat) : Fld := ⟨0x01014 + 0x80 * x, 31, 0⟩

/-- CRS_BCLR. -/
def rCRS_BCLR : Reg :=
  ⟨0x01018, 0x00000, 0x80, 64, 0x0, 1, [⟨1, 1, .wo, 0, .any⟩, ⟨0, 0, .wo, 0, .any⟩]⟩

/-- CRS_BCLR.NODES. -/
abbrev CRS_BCLR_NODES (x : Nat) : Fld := ⟨0x01018 + 0x80 * x, 1, 1⟩

/-- CRS_BCLR.BUS. -/
abbrev CRS_BCLR_BUS (x : Nat) : Fld := ⟨0x01018 + 0x80 * x, 0, 0⟩

/-- CRS_BBEACONS. -/
def rCRS_BBEACONS : Reg :=
  ⟨0x0101C, 0x00000, 0x80, 64, 0x0, 1, [⟨31, 0, .ro, 0, .any⟩]⟩

/-- CRS_BBEACONS.V. -/
abbrev CRS_BBEACONS (x : Nat) : Fld := ⟨0x0101C + 0x80 * x, 31, 0⟩

/-- CRS_BFRAMES. -/
def rCRS_BFRAMES : Reg :=
  ⟨0x01020, 0x00000, 0x80, 64, 0x0, 1, [⟨31, 0, .ro, 0, .any⟩]⟩

/-- CRS_BFRAMES.V. -/
abbrev CRS_BFRAMES (x : Nat) : Fld := ⟨0x01020 + 0x80 * x, 31, 0⟩

/-- CRS_BCRCERR. -/
def rCRS_BCRCERR : Reg :=
  ⟨0x01024, 0x00000, 0x80, 64, 0x0, 1, [⟨31, 0, .ro, 0, .any⟩]⟩

/-- CRS_BCRCERR.V. -/
abbrev CRS_BCRCERR (x : Nat) : Fld := ⟨0x01024 + 0x80 * x, 31, 0⟩

/-- CRS_BCODEERR. -/
def rCRS_BCODEERR : Reg :=
  ⟨0x01028, 0x00000, 0x80, 64, 0x0, 1, [⟨31, 0, .ro, 0, .any⟩]⟩

/-- CRS_BCODEERR.V. -/
abbrev CRS_BCODEERR (x : Nat) : Fld := ⟨0x01028 + 0x80 * x, 31, 0⟩

/-- CRS_BUNKTYPE. -/
def rCRS_BUNKTYPE : Reg :=
  ⟨0x0102C, 0x00000, 0x80, 64, 0x0, 1, [⟨31, 0, .ro, 0, .any⟩]⟩

/-- CRS_BUNKTYPE.V. -/
abbrev CRS_BUNKTYPE (x : Nat) : Fld := ⟨0x0102C + 0x80 * x, 31, 0⟩

/-- CRS_BFMTERR. -/
def rCRS_BFMTERR : Reg :=
  ⟨0x01030, 0x00000, 0x80, 64, 0x0, 1, [⟨31, 0, .ro, 0, .any⟩]⟩

/-- CRS_BFMTERR.V. -/
abbrev CRS_BFMTERR (x : Nat) : Fld := ⟨0x01030 + 0x80 * x, 31, 0⟩

/-- CRS_BJOINCOLL. -/
def rCRS_BJOINCOLL : Reg :=
  ⟨0x01034, 0x00000, 0x80, 64, 0x0, 1, [⟨31, 0, .ro, 0, .any⟩]⟩

/-- CRS_BJOINCOLL.V. -/
abbrev CRS_BJOINCOLL (x : Nat) : Fld := ⟨0x01034 + 0x80 * x, 31, 0⟩

/-- CRS_BRETRYOK. -/
def rCRS_BRETRYOK : Reg :=
  ⟨0x01038, 0x00000, 0x80, 64, 0x0, 1, [⟨31, 0, .ro, 0, .any⟩]⟩

/-- CRS_BRETRYOK.V. -/
abbrev CRS_BRETRYOK (x : Nat) : Fld := ⟨0x01038 + 0x80 * x, 31, 0⟩

/-- CRS_BRETRYFAIL. -/
def rCRS_BRETRYFAIL : Reg :=
  ⟨0x0103C, 0x00000, 0x80, 64, 0x0, 1, [⟨31, 0, .ro, 0, .any⟩]⟩

/-- CRS_BRETRYFAIL.V. -/
abbrev CRS_BRETRYFAIL (x : Nat) : Fld := ⟨0x0103C + 0x80 * x, 31, 0⟩

/-- CRS_BSPAREFULL. -/
def rCRS_BSPAREFULL : Reg :=
  ⟨0x01040, 0x00000, 0x80, 64, 0x0, 1, [⟨31, 0, .ro, 0, .any⟩]⟩

/-- CRS_BSPAREFULL.V. -/
abbrev CRS_BSPAREFULL (x : Nat) : Fld := ⟨0x01040 + 0x80 * x, 31, 0⟩

/-- CRS_BSTEPSKIP. -/
def rCRS_BSTEPSKIP : Reg :=
  ⟨0x01044, 0x00000, 0x80, 64, 0x0, 1, [⟨31, 0, .ro, 0, .any⟩]⟩

/-- CRS_BSTEPSKIP.V. -/
abbrev CRS_BSTEPSKIP (x : Nat) : Fld := ⟨0x01044 + 0x80 * x, 31, 0⟩

/-- CRS_BADMCFG. -/
def rCRS_BADMCFG : Reg :=
  ⟨0x01048, 0x00000, 0x80, 64, 0x0, 1, [⟨23, 16, .rw, 16, .range 1 255⟩, ⟨11, 8, .rw, 4, .range 4 15⟩, ⟨7, 0, .rw, 3, .any⟩]⟩

/-- CRS_BADMCFG.HOLDOFF. -/
abbrev CRS_BADMCFG_HOLDOFF (x : Nat) : Fld := ⟨0x01048 + 0x80 * x, 23, 16⟩

/-- CRS_BADMCFG.COMMITCNT. -/
abbrev CRS_BADMCFG_COMMITCNT (x : Nat) : Fld := ⟨0x01048 + 0x80 * x, 11, 8⟩

/-- CRS_BADMCFG.BACKOFF. -/
abbrev CRS_BADMCFG_BACKOFF (x : Nat) : Fld := ⟨0x01048 + 0x80 * x, 7, 0⟩

/-- CRS_BADMSTS. -/
def rCRS_BADMSTS : Reg :=
  ⟨0x0104C, 0x00000, 0x80, 64, 0x0, 1, [⟨23, 16, .ro, 0, .any⟩, ⟨10, 8, .ro, 0, .any⟩, ⟨4, 0, .ro, 0, .any⟩]⟩

/-- CRS_BADMSTS.LASTREASON. -/
abbrev CRS_BADMSTS_LASTREASON (x : Nat) : Fld := ⟨0x0104C + 0x80 * x, 23, 16⟩

/-- CRS_BADMSTS.STEP. -/
abbrev CRS_BADMSTS_STEP (x : Nat) : Fld := ⟨0x0104C + 0x80 * x, 10, 8⟩

/-- CRS_BADMSTS.ADDR. -/
abbrev CRS_BADMSTS_ADDR (x : Nat) : Fld := ⟨0x0104C + 0x80 * x, 4, 0⟩

/-- CRS_BDROP. -/
def rCRS_BDROP : Reg :=
  ⟨0x01050, 0x00000, 0x80, 64, 0x0, 1, [⟨8, 8, .wo, 0, .any⟩, ⟨4, 0, .wo, 0, .any⟩]⟩

/-- CRS_BDROP.GO. -/
abbrev CRS_BDROP_GO (x : Nat) : Fld := ⟨0x01050 + 0x80 * x, 8, 8⟩

/-- CRS_BDROP.ADDR. -/
abbrev CRS_BDROP_ADDR (x : Nat) : Fld := ⟨0x01050 + 0x80 * x, 4, 0⟩

/-- CRS_BADMITS. -/
def rCRS_BADMITS : Reg :=
  ⟨0x01054, 0x00000, 0x80, 64, 0x0, 1, [⟨31, 0, .ro, 0, .any⟩]⟩

/-- CRS_BADMITS.V. -/
abbrev CRS_BADMITS (x : Nat) : Fld := ⟨0x01054 + 0x80 * x, 31, 0⟩

/-- CRS_BREFUSED. -/
def rCRS_BREFUSED : Reg :=
  ⟨0x01058, 0x00000, 0x80, 64, 0x0, 1, [⟨31, 0, .ro, 0, .any⟩]⟩

/-- CRS_BREFUSED.V. -/
abbrev CRS_BREFUSED (x : Nat) : Fld := ⟨0x01058 + 0x80 * x, 31, 0⟩

/-- CRS_BDEADMIT. -/
def rCRS_BDEADMIT : Reg :=
  ⟨0x0105C, 0x00000, 0x80, 64, 0x0, 1, [⟨31, 0, .ro, 0, .any⟩]⟩

/-- CRS_BDEADMIT.V. -/
abbrev CRS_BDEADMIT (x : Nat) : Fld := ⟨0x0105C + 0x80 * x, 31, 0⟩

/-- CRS_BREFIDLO. -/
def rCRS_BREFIDLO : Reg :=
  ⟨0x01060, 0x00000, 0x80, 64, 0x0, 1, [⟨31, 0, .ro, 0, .any⟩]⟩

/-- CRS_BREFIDLO.V. -/
abbrev CRS_BREFIDLO (x : Nat) : Fld := ⟨0x01060 + 0x80 * x, 31, 0⟩

/-- CRS_BREFIDHI. -/
def rCRS_BREFIDHI : Reg :=
  ⟨0x01064, 0x00000, 0x80, 64, 0x0, 1, [⟨31, 0, .ro, 0, .any⟩]⟩

/-- CRS_BREFIDHI.V. -/
abbrev CRS_BREFIDHI (x : Nat) : Fld := ⟨0x01064 + 0x80 * x, 31, 0⟩

/-- CRS_BADMCLR. -/
def rCRS_BADMCLR : Reg :=
  ⟨0x01068, 0x00000, 0x80, 64, 0x0, 1, [⟨0, 0, .wo, 0, .any⟩]⟩

/-- CRS_BADMCLR.CLR. -/
abbrev CRS_BADMCLR_CLR (x : Nat) : Fld := ⟨0x01068 + 0x80 * x, 0, 0⟩

/-- CRS_NSTS. -/
def rCRS_NSTS : Reg :=
  ⟨0x04000, 0x00000, 0x400, 64, 0x20, 32, [⟨31, 20, .ro, 0, .any⟩, ⟨19, 13, .ro, 0, .any⟩, ⟨11, 10, .ro, 0, .any⟩, ⟨9, 9, .ro, 0, .any⟩, ⟨8, 8, .ro, 0, .any⟩, ⟨7, 7, .ro, 0, .any⟩, ⟨6, 6, .ro, 0, .any⟩]⟩

/-- CRS_NSTS.LASTDEV. -/
abbrev CRS_NSTS_LASTDEV (x : Nat) (y : Nat) : Fld := ⟨0x04000 + 0x400 * x + 0x20 * y, 31, 20⟩

/-- CRS_NSTS.CLEAN. -/
abbrev CRS_NSTS_CLEAN (x : Nat) (y : Nat) : Fld := ⟨0x04000 + 0x400 * x + 0x20 * y, 19, 13⟩

/-- CRS_NSTS.PROBPOS. -/
abbrev CRS_NSTS_PROBPOS (x : Nat) (y : Nat) : Fld := ⟨0x04000 + 0x400 * x + 0x20 * y, 11, 10⟩

/-- CRS_NSTS.INPLACE. -/
abbrev CRS_NSTS_INPLACE (x : Nat) (y : Nat) : Fld := ⟨0x04000 + 0x400 * x + 0x20 * y, 9, 9⟩

/-- CRS_NSTS.PROBATION. -/
abbrev CRS_NSTS_PROBATION (x : Nat) (y : Nat) : Fld := ⟨0x04000 + 0x400 * x + 0x20 * y, 8, 8⟩

/-- CRS_NSTS.SILENT. -/
abbrev CRS_NSTS_SILENT (x : Nat) (y : Nat) : Fld := ⟨0x04000 + 0x400 * x + 0x20 * y, 7, 7⟩

/-- CRS_NSTS.ADMITTED. -/
abbrev CRS_NSTS_ADMITTED (x : Nat) (y : Nat) : Fld := ⟨0x04000 + 0x400 * x + 0x20 * y, 6, 6⟩

/-- CRS_NDELAY. -/
def rCRS_NDELAY : Reg :=
  ⟨0x04004, 0x00000, 0x400, 64, 0x20, 32, [⟨9, 0, .ro, 0, .any⟩]⟩

/-- CRS_NDELAY.V. -/
abbrev CRS_NDELAY (x : Nat) (y : Nat) : Fld := ⟨0x04004 + 0x400 * x + 0x20 * y, 9, 0⟩

/-- CRS_NSLOTLEN. -/
def rCRS_NSLOTLEN : Reg :=
  ⟨0x04008, 0x00000, 0x400, 64, 0x20, 32, [⟨15, 0, .ro, 0, .any⟩]⟩

/-- CRS_NSLOTLEN.V. -/
abbrev CRS_NSLOTLEN (x : Nat) (y : Nat) : Fld := ⟨0x04008 + 0x400 * x + 0x20 * y, 15, 0⟩

/-- CRS_NSLOTST. -/
def rCRS_NSLOTST : Reg :=
  ⟨0x0400C, 0x00000, 0x400, 64, 0x20, 32, [⟨26, 0, .ro, 0, .any⟩]⟩

/-- CRS_NSLOTST.V. -/
abbrev CRS_NSLOTST (x : Nat) (y : Nat) : Fld := ⟨0x0400C + 0x400 * x + 0x20 * y, 26, 0⟩

/-- CRS_NDRIFTCNT. -/
def rCRS_NDRIFTCNT : Reg :=
  ⟨0x04010, 0x00000, 0x400, 64, 0x20, 32, [⟨31, 0, .ro, 0, .any⟩]⟩

/-- CRS_NDRIFTCNT.V. -/
abbrev CRS_NDRIFTCNT (x : Nat) (y : Nat) : Fld := ⟨0x04010 + 0x400 * x + 0x20 * y, 31, 0⟩

/-- CRS_NSLOTERR. -/
def rCRS_NSLOTERR : Reg :=
  ⟨0x04014, 0x00000, 0x400, 64, 0x20, 32, [⟨31, 0, .ro, 0, .any⟩]⟩

/-- CRS_NSLOTERR.V. -/
abbrev CRS_NSLOTERR (x : Nat) (y : Nat) : Fld := ⟨0x04014 + 0x400 * x + 0x20 * y, 31, 0⟩

/-- CRS_NMISS. -/
def rCRS_NMISS : Reg :=
  ⟨0x04018, 0x00000, 0x400, 64, 0x20, 32, [⟨31, 0, .ro, 0, .any⟩]⟩

/-- CRS_NMISS.V. -/
abbrev CRS_NMISS (x : Nat) (y : Nat) : Fld := ⟨0x04018 + 0x400 * x + 0x20 * y, 31, 0⟩

/-- CRS_NPROBCNT. -/
def rCRS_NPROBCNT : Reg :=
  ⟨0x0401C, 0x00000, 0x400, 64, 0x20, 32, [⟨31, 0, .ro, 0, .any⟩]⟩

/-- CRS_NPROBCNT.V. -/
abbrev CRS_NPROBCNT (x : Nat) (y : Nat) : Fld := ⟨0x0401C + 0x400 * x + 0x20 * y, 31, 0⟩

/-- CRS_NIDLO. -/
def rCRS_NIDLO : Reg :=
  ⟨0x14000, 0x00000, 0x200, 64, 0x10, 32, [⟨31, 0, .ro, 0, .any⟩]⟩

/-- CRS_NIDLO.V. -/
abbrev CRS_NIDLO (x : Nat) (y : Nat) : Fld := ⟨0x14000 + 0x200 * x + 0x10 * y, 31, 0⟩

/-- CRS_NIDHI. -/
def rCRS_NIDHI : Reg :=
  ⟨0x14004, 0x00000, 0x200, 64, 0x10, 32, [⟨31, 0, .ro, 0, .any⟩]⟩

/-- CRS_NIDHI.V. -/
abbrev CRS_NIDHI (x : Nat) (y : Nat) : Fld := ⟨0x14004 + 0x200 * x + 0x10 * y, 31, 0⟩

/-- CRS_NCAPS. -/
def rCRS_NCAPS : Reg :=
  ⟨0x14008, 0x00000, 0x200, 64, 0x10, 32, [⟨27, 16, .ro, 0, .any⟩, ⟨9, 9, .ro, 0, .any⟩, ⟨8, 8, .ro, 0, .any⟩, ⟨7, 0, .ro, 0, .any⟩]⟩

/-- CRS_NCAPS.NDBLEN. -/
abbrev CRS_NCAPS_NDBLEN (x : Nat) (y : Nat) : Fld := ⟨0x14008 + 0x200 * x + 0x10 * y, 27, 16⟩

/-- CRS_NCAPS.GRIST. -/
abbrev CRS_NCAPS_GRIST (x : Nat) (y : Nat) : Fld := ⟨0x14008 + 0x200 * x + 0x10 * y, 9, 9⟩

/-- CRS_NCAPS.WATCHOK. -/
abbrev CRS_NCAPS_WATCHOK (x : Nat) (y : Nat) : Fld := ⟨0x14008 + 0x200 * x + 0x10 * y, 8, 8⟩

/-- CRS_NCAPS.SPEC. -/
abbrev CRS_NCAPS_SPEC (x : Nat) (y : Nat) : Fld := ⟨0x14008 + 0x200 * x + 0x10 * y, 7, 0⟩

/-- CRS_NNSTAT. -/
def rCRS_NNSTAT : Reg :=
  ⟨0x1400C, 0x00000, 0x200, 64, 0x10, 32, [⟨15, 0, .ro, 0, .any⟩]⟩

/-- CRS_NNSTAT.V. -/
abbrev CRS_NNSTAT (x : Nat) (y : Nat) : Fld := ⟨0x1400C + 0x200 * x + 0x10 * y, 15, 0⟩

/-- The registers of CRS. -/
def regsCRS : List Reg :=
  [rCRS_BCFG, rCRS_BCYCLEN, rCRS_BPHASE, rCRS_BSLOTCFG, rCRS_BSTS, rCRS_BCYCNO, rCRS_BCLR, rCRS_BBEACONS, rCRS_BFRAMES, rCRS_BCRCERR, rCRS_BCODEERR, rCRS_BUNKTYPE, rCRS_BFMTERR, rCRS_BJOINCOLL, rCRS_BRETRYOK, rCRS_BRETRYFAIL, rCRS_BSPAREFULL, rCRS_BSTEPSKIP, rCRS_BADMCFG, rCRS_BADMSTS] ++
  [rCRS_BDROP, rCRS_BADMITS, rCRS_BREFUSED, rCRS_BDEADMIT, rCRS_BREFIDLO, rCRS_BREFIDHI, rCRS_BADMCLR, rCRS_NSTS, rCRS_NDELAY, rCRS_NSLOTLEN, rCRS_NSLOTST, rCRS_NDRIFTCNT, rCRS_NSLOTERR, rCRS_NMISS, rCRS_NPROBCNT, rCRS_NIDLO, rCRS_NIDHI, rCRS_NCAPS, rCRS_NNSTAT]

/-! GRD (spec chapter 05). -/

/-- GRD_ERRSTS (R10). -/
abbrev GRD_ERRSTS : Nat := 0x2A000

/-- GRD_LOCK. -/
def rGRD_LOCK : Reg :=
  ⟨0x2A004, 0x2A000, 0x0, 1, 0x0, 1, [⟨0, 0, .rwl, 0, .any⟩]⟩

/-- GRD_LOCK.LOCK. -/
abbrev GRD_LOCK_LOCK : Fld := ⟨0x2A004, 0, 0⟩

/-- GRD_GSTS. -/
def rGRD_GSTS : Reg :=
  ⟨0x2A008, 0x2A000, 0x0, 1, 0x0, 1, [⟨2, 2, .ro, 0, .any⟩, ⟨1, 1, .ro, 0, .any⟩, ⟨0, 0, .ro, 0, .any⟩]⟩

/-- GRD_GSTS.ANYON. -/
abbrev GRD_GSTS_ANYON : Fld := ⟨0x2A008, 2, 2⟩

/-- GRD_GSTS.ANYTRIP. -/
abbrev GRD_GSTS_ANYTRIP : Fld := ⟨0x2A008, 1, 1⟩

/-- GRD_GSTS.LOCKED. -/
abbrev GRD_GSTS_LOCKED : Fld := ⟨0x2A008, 0, 0⟩

/-- GRD_TRIPCFG. -/
def rGRD_TRIPCFG : Reg :=
  ⟨0x2A010, 0x2A000, 0x0, 1, 0x0, 1, [⟨15, 8, .rwl, 0, .any⟩, ⟨7, 0, .rwl, 255, .any⟩]⟩

/-- GRD_TRIPCFG.POL. -/
abbrev GRD_TRIPCFG_POL : Fld := ⟨0x2A010, 15, 8⟩

/-- GRD_TRIPCFG.POLICY. -/
abbrev GRD_TRIPCFG_POLICY : Fld := ⟨0x2A010, 7, 0⟩

/-- GRD_TRIPSTS. -/
def rGRD_TRIPSTS : Reg :=
  ⟨0x2A014, 0x2A000, 0x0, 1, 0x0, 1, [⟨7, 0, .ro, 255, .any⟩]⟩

/-- GRD_TRIPSTS.LATCH. -/
abbrev GRD_TRIPSTS_LATCH : Fld := ⟨0x2A014, 7, 0⟩

/-- GRD_TRIPCLR. -/
def rGRD_TRIPCLR : Reg :=
  ⟨0x2A018, 0x2A000, 0x0, 1, 0x0, 1, [⟨7, 0, .wo, 0, .any⟩]⟩

/-- GRD_TRIPCLR.CLR. -/
abbrev GRD_TRIPCLR_CLR : Fld := ⟨0x2A018, 7, 0⟩

/-- GRD_CCFG. -/
def rGRD_CCFG : Reg :=
  ⟨0x2A100, 0x2A000, 0x80, 32, 0x0, 1, [⟨23, 16, .rwl, 0, .any⟩, ⟨13, 12, .rwl, 0, .any⟩, ⟨11, 11, .rwl, 0, .any⟩, ⟨10, 10, .rwl, 0, .any⟩, ⟨9, 9, .rwl, 0, .any⟩, ⟨8, 6, .rwl, 0, .reserved 0 6⟩, ⟨5, 3, .rwl, 0, .reserved 0 6⟩, ⟨0, 0, .rwl, 0, .any⟩]⟩

/-- GRD_CCFG.TRIPMAP. -/
abbrev GRD_CCFG_TRIPMAP (x : Nat) : Fld := ⟨0x2A100 + 0x80 * x, 23, 16⟩

/-- GRD_CCFG.AUTORETRY. -/
abbrev GRD_CCFG_AUTORETRY (x : Nat) : Fld := ⟨0x2A100 + 0x80 * x, 13, 12⟩

/-- GRD_CCFG.POLICY. -/
abbrev GRD_CCFG_POLICY (x : Nat) : Fld := ⟨0x2A100 + 0x80 * x, 11, 11⟩

/-- GRD_CCFG.VLOACT. -/
abbrev GRD_CCFG_VLOACT (x : Nat) : Fld := ⟨0x2A100 + 0x80 * x, 10, 10⟩

/-- GRD_CCFG.ILOACT. -/
abbrev GRD_CCFG_ILOACT (x : Nat) : Fld := ⟨0x2A100 + 0x80 * x, 9, 9⟩

/-- GRD_CCFG.VHYST. -/
abbrev GRD_CCFG_VHYST (x : Nat) : Fld := ⟨0x2A100 + 0x80 * x, 8, 6⟩

/-- GRD_CCFG.IHYST. -/
abbrev GRD_CCFG_IHYST (x : Nat) : Fld := ⟨0x2A100 + 0x80 * x, 5, 3⟩

/-- GRD_CCFG.ARM. -/
abbrev GRD_CCFG_ARM (x : Nat) : Fld := ⟨0x2A100 + 0x80 * x, 0, 0⟩

/-- GRD_CILIM. -/
def rGRD_CILIM : Reg :=
  ⟨0x2A104, 0x2A000, 0x80, 32, 0x0, 1, [⟨25, 16, .rwl, 1023, .any⟩, ⟨9, 0, .rwl, 0, .any⟩]⟩

/-- GRD_CILIM.IHI. -/
abbrev GRD_CILIM_IHI (x : Nat) : Fld := ⟨0x2A104 + 0x80 * x, 25, 16⟩

/-- GRD_CILIM.ILO. -/
abbrev GRD_CILIM_ILO (x : Nat) : Fld := ⟨0x2A104 + 0x80 * x, 9, 0⟩

/-- GRD_CVLIM. -/
def rGRD_CVLIM : Reg :=
  ⟨0x2A108, 0x2A000, 0x80, 32, 0x0, 1, [⟨25, 16, .rwl, 1023, .any⟩, ⟨9, 0, .rwl, 0, .any⟩]⟩

/-- GRD_CVLIM.VHI. -/
abbrev GRD_CVLIM_VHI (x : Nat) : Fld := ⟨0x2A108 + 0x80 * x, 25, 16⟩

/-- GRD_CVLIM.VLO. -/
abbrev GRD_CVLIM_VLO (x : Nat) : Fld := ⟨0x2A108 + 0x80 * x, 9, 0⟩

/-- GRD_CIFS. -/
def rGRD_CIFS : Reg :=
  ⟨0x2A10C, 0x2A000, 0x80, 32, 0x0, 1, [⟨23, 0, .rwl, 0, .range 1 10000000⟩]⟩

/-- GRD_CIFS.IFS. -/
abbrev GRD_CIFS_IFS (x : Nat) : Fld := ⟨0x2A10C + 0x80 * x, 23, 0⟩

/-- GRD_CVFS. -/
def rGRD_CVFS : Reg :=
  ⟨0x2A110, 0x2A000, 0x80, 32, 0x0, 1, [⟨15, 0, .rwl, 0, .range 100 60000⟩]⟩

/-- GRD_CVFS.VFS. -/
abbrev GRD_CVFS_VFS (x : Nat) : Fld := ⟨0x2A110 + 0x80 * x, 15, 0⟩

/-- GRD_CELIM. -/
def rGRD_CELIM : Reg :=
  ⟨0x2A114, 0x2A000, 0x80, 32, 0x0, 1, [⟨23, 0, .rwl, 0, .range 1000 10000000⟩]⟩

/-- GRD_CELIM.ELIM. -/
abbrev GRD_CELIM_ELIM (x : Nat) : Fld := ⟨0x2A114 + 0x80 * x, 23, 0⟩

/-- GRD_CEWIN. -/
def rGRD_CEWIN : Reg :=
  ⟨0x2A118, 0x2A000, 0x80, 32, 0x0, 1, [⟨17, 0, .rwl, 0, .range 25 250000⟩]⟩

/-- GRD_CEWIN.EWIN. -/
abbrev GRD_CEWIN_EWIN (x : Nat) : Fld := ⟨0x2A118 + 0x80 * x, 17, 0⟩

/-- GRD_CTOFF. -/
def rGRD_CTOFF : Reg :=
  ⟨0x2A11C, 0x2A000, 0x80, 32, 0x0, 1, [⟨13, 0, .rwl, 1000, .range 1 10000⟩]⟩

/-- GRD_CTOFF.TOFF. -/
abbrev GRD_CTOFF_TOFF (x : Nat) : Fld := ⟨0x2A11C + 0x80 * x, 13, 0⟩

/-- GRD_CBUDGET. -/
def rGRD_CBUDGET : Reg :=
  ⟨0x2A120, 0x2A000, 0x80, 32, 0x0, 1, [⟨15, 0, .rwl, 0, .range 0 10000⟩]⟩

/-- GRD_CBUDGET.BUDGET. -/
abbrev GRD_CBUDGET_BUDGET (x : Nat) : Fld := ⟨0x2A120 + 0x80 * x, 15, 0⟩

/-- GRD_CCTL. -/
def rGRD_CCTL : Reg :=
  ⟨0x2A124, 0x2A000, 0x80, 32, 0x0, 1, [⟨2, 2, .wo, 0, .any⟩, ⟨1, 1, .wo, 0, .any⟩, ⟨0, 0, .wo, 0, .any⟩]⟩

/-- GRD_CCTL.REARM. -/
abbrev GRD_CCTL_REARM (x : Nat) : Fld := ⟨0x2A124 + 0x80 * x, 2, 2⟩

/-- GRD_CCTL.OFF. -/
abbrev GRD_CCTL_OFF (x : Nat) : Fld := ⟨0x2A124 + 0x80 * x, 1, 1⟩

/-- GRD_CCTL.ON. -/
abbrev GRD_CCTL_ON (x : Nat) : Fld := ⟨0x2A124 + 0x80 * x, 0, 0⟩

/-- GRD_CSTS. -/
def rGRD_CSTS : Reg :=
  ⟨0x2A128, 0x2A000, 0x80, 32, 0x0, 1, [⟨13, 12, .ro, 0, .any⟩, ⟨11, 11, .ro, 0, .any⟩, ⟨10, 5, .ro, 0, .any⟩, ⟨4, 4, .ro, 1, .any⟩, ⟨2, 0, .ro, 0, .any⟩]⟩

/-- GRD_CSTS.RETRIES. -/
abbrev GRD_CSTS_RETRIES (x : Nat) : Fld := ⟨0x2A128 + 0x80 * x, 13, 12⟩

/-- GRD_CSTS.SELFCHK. -/
abbrev GRD_CSTS_SELFCHK (x : Nat) : Fld := ⟨0x2A128 + 0x80 * x, 11, 11⟩

/-- GRD_CSTS.CAUSE. -/
abbrev GRD_CSTS_CAUSE (x : Nat) : Fld := ⟨0x2A128 + 0x80 * x, 10, 5⟩

/-- GRD_CSTS.TOFFDONE. -/
abbrev GRD_CSTS_TOFFDONE (x : Nat) : Fld := ⟨0x2A128 + 0x80 * x, 4, 4⟩

/-- GRD_CSTS.STATE. -/
abbrev GRD_CSTS_STATE (x : Nat) : Fld := ⟨0x2A128 + 0x80 * x, 2, 0⟩

/-- GRD_CMEAS. -/
def rGRD_CMEAS : Reg :=
  ⟨0x2A12C, 0x2A000, 0x80, 32, 0x0, 1, [⟨27, 16, .ro, 0, .any⟩, ⟨11, 0, .ro, 0, .any⟩]⟩

/-- GRD_CMEAS.V. -/
abbrev GRD_CMEAS (x : Nat) : Fld := ⟨0x2A12C + 0x80 * x, 27, 16⟩

/-- GRD_CMEAS.I. -/
abbrev GRD_CMEAS_I (x : Nat) : Fld := ⟨0x2A12C + 0x80 * x, 11, 0⟩

/-- GRD_CENERGY. -/
def rGRD_CENERGY : Reg :=
  ⟨0x2A130, 0x2A000, 0x80, 32, 0x0, 1, [⟨23, 0, .ro, 0, .any⟩]⟩

/-- GRD_CENERGY.E. -/
abbrev GRD_CENERGY_E (x : Nat) : Fld := ⟨0x2A130 + 0x80 * x, 23, 0⟩

/-- GRD_CTRIPCNT. -/
def rGRD_CTRIPCNT : Reg :=
  ⟨0x2A134, 0x2A000, 0x80, 32, 0x0, 1, [⟨31, 0, .ro, 0, .any⟩]⟩

/-- GRD_CTRIPCNT.V. -/
abbrev GRD_CTRIPCNT (x : Nat) : Fld := ⟨0x2A134 + 0x80 * x, 31, 0⟩

/-- GRD_CTRIPCTLO. -/
def rGRD_CTRIPCTLO : Reg :=
  ⟨0x2A138, 0x2A000, 0x80, 32, 0x0, 1, [⟨31, 0, .ro, 0, .any⟩]⟩

/-- GRD_CTRIPCTLO.V. -/
abbrev GRD_CTRIPCTLO (x : Nat) : Fld := ⟨0x2A138 + 0x80 * x, 31, 0⟩

/-- GRD_CTRIPCTHI. -/
def rGRD_CTRIPCTHI : Reg :=
  ⟨0x2A13C, 0x2A000, 0x80, 32, 0x0, 1, [⟨31, 0, .ro, 0, .any⟩]⟩

/-- GRD_CTRIPCTHI.V. -/
abbrev GRD_CTRIPCTHI (x : Nat) : Fld := ⟨0x2A13C + 0x80 * x, 31, 0⟩

/-- GRD_CCLR. -/
def rGRD_CCLR : Reg :=
  ⟨0x2A140, 0x2A000, 0x80, 32, 0x0, 1, [⟨0, 0, .wo, 0, .any⟩]⟩

/-- GRD_CCLR.CLR. -/
abbrev GRD_CCLR_CLR (x : Nat) : Fld := ⟨0x2A140 + 0x80 * x, 0, 0⟩

/-- The registers of GRD. -/
def regsGRD : List Reg :=
  [rGRD_LOCK, rGRD_GSTS, rGRD_TRIPCFG, rGRD_TRIPSTS, rGRD_TRIPCLR, rGRD_CCFG, rGRD_CILIM, rGRD_CVLIM, rGRD_CIFS, rGRD_CVFS, rGRD_CELIM, rGRD_CEWIN, rGRD_CTOFF, rGRD_CBUDGET, rGRD_CCTL, rGRD_CSTS, rGRD_CMEAS, rGRD_CENERGY, rGRD_CTRIPCNT, rGRD_CTRIPCTLO] ++
  [rGRD_CTRIPCTHI, rGRD_CCLR]

/-! AFE (spec chapter 06). -/

/-- AFE_ERRSTS (R10). -/
abbrev AFE_ERRSTS : Nat := 0x32000

/-- AFE_LCFG. -/
def rAFE_LCFG : Reg :=
  ⟨0x32100, 0x32000, 0x20, 16, 0x0, 1, [⟨31, 31, .rw, 0, .any⟩, ⟨30, 18, .rw, 0, .any⟩, ⟨17, 17, .rw, 0, .any⟩, ⟨16, 4, .rw, 0, .any⟩, ⟨2, 0, .rw, 0, .reserved 0 3⟩]⟩

/-- AFE_LCFG.VMEN. -/
abbrev AFE_LCFG_VMEN (x : Nat) : Fld := ⟨0x32100 + 0x20 * x, 31, 31⟩

/-- AFE_LCFG.VMCH. -/
abbrev AFE_LCFG_VMCH (x : Nat) : Fld := ⟨0x32100 + 0x20 * x, 30, 18⟩

/-- AFE_LCFG.IMEN. -/
abbrev AFE_LCFG_IMEN (x : Nat) : Fld := ⟨0x32100 + 0x20 * x, 17, 17⟩

/-- AFE_LCFG.IMCH. -/
abbrev AFE_LCFG_IMCH (x : Nat) : Fld := ⟨0x32100 + 0x20 * x, 16, 4⟩

/-- AFE_LCFG.MODE. -/
abbrev AFE_LCFG_MODE (x : Nat) : Fld := ⟨0x32100 + 0x20 * x, 2, 0⟩

/-- AFE_LCOMP. -/
def rAFE_LCOMP : Reg :=
  ⟨0x32104, 0x32000, 0x20, 16, 0x0, 1, [⟨31, 16, .rw, 0, .range 0 60000⟩, ⟨15, 0, .rw, 0, .range 0 10000⟩]⟩

/-- AFE_LCOMP.VCOMP. -/
abbrev AFE_LCOMP_VCOMP (x : Nat) : Fld := ⟨0x32104 + 0x20 * x, 31, 16⟩

/-- AFE_LCOMP.RLOAD. -/
abbrev AFE_LCOMP_RLOAD (x : Nat) : Fld := ⟨0x32104 + 0x20 * x, 15, 0⟩

/-- AFE_LSET. -/
def rAFE_LSET : Reg :=
  ⟨0x32108, 0x32000, 0x20, 16, 0x0, 1, [⟨15, 0, .ro, 0, .any⟩]⟩

/-- AFE_LSET.SET. -/
abbrev AFE_LSET_SET (x : Nat) : Fld := ⟨0x32108 + 0x20 * x, 15, 0⟩

/-- AFE_LSTS. -/
def rAFE_LSTS : Reg :=
  ⟨0x3210C, 0x32000, 0x20, 16, 0x0, 1, [⟨5, 5, .ro, 0, .any⟩, ⟨4, 4, .ro, 0, .any⟩, ⟨3, 3, .ro, 0, .any⟩, ⟨2, 2, .ro, 0, .any⟩]⟩

/-- AFE_LSTS.SATURATED. -/
abbrev AFE_LSTS_SATURATED (x : Nat) : Fld := ⟨0x3210C + 0x20 * x, 5, 5⟩

/-- AFE_LSTS.COMPLIANCE. -/
abbrev AFE_LSTS_COMPLIANCE (x : Nat) : Fld := ⟨0x3210C + 0x20 * x, 4, 4⟩

/-- AFE_LSTS.SETTLED. -/
abbrev AFE_LSTS_SETTLED (x : Nat) : Fld := ⟨0x3210C + 0x20 * x, 3, 3⟩

/-- AFE_LSTS.DRVON. -/
abbrev AFE_LSTS_DRVON (x : Nat) : Fld := ⟨0x3210C + 0x20 * x, 2, 2⟩

/-- AFE_LCOMPCNT. -/
def rAFE_LCOMPCNT : Reg :=
  ⟨0x32110, 0x32000, 0x20, 16, 0x0, 1, [⟨31, 0, .ro, 0, .any⟩]⟩

/-- AFE_LCOMPCNT.V. -/
abbrev AFE_LCOMPCNT (x : Nat) : Fld := ⟨0x32110 + 0x20 * x, 31, 0⟩

/-- AFE_LCLR. -/
def rAFE_LCLR : Reg :=
  ⟨0x32114, 0x32000, 0x20, 16, 0x0, 1, [⟨0, 0, .wo, 0, .any⟩]⟩

/-- AFE_LCLR.CLR. -/
abbrev AFE_LCLR_CLR (x : Nat) : Fld := ⟨0x32114 + 0x20 * x, 0, 0⟩

/-- The registers of AFE. -/
def regsAFE : List Reg :=
  [rAFE_LCFG, rAFE_LCOMP, rAFE_LSET, rAFE_LSTS, rAFE_LCOMPCNT, rAFE_LCLR]

/-! WIN (spec chapter 06). -/

/-- WIN_ERRSTS (R10). -/
abbrev WIN_ERRSTS : Nat := 0x30000

/-- WIN_SCCTL. -/
def rWIN_SCCTL : Reg :=
  ⟨0x30010, 0x30000, 0x0, 1, 0x0, 1, [⟨15, 15, .wo, 0, .any⟩, ⟨9, 8, .wo, 0, .reserved 0 2⟩, ⟨6, 0, .wo, 0, .range 0 99⟩]⟩

/-- WIN_SCCTL.GO. -/
abbrev WIN_SCCTL_GO : Fld := ⟨0x30010, 15, 15⟩

/-- WIN_SCCTL.KIND. -/
abbrev WIN_SCCTL_KIND : Fld := ⟨0x30010, 9, 8⟩

/-- WIN_SCCTL.MON. -/
abbrev WIN_SCCTL_MON : Fld := ⟨0x30010, 6, 0⟩

/-- WIN_SCSTS. -/
def rWIN_SCSTS : Reg :=
  ⟨0x30014, 0x30000, 0x0, 1, 0x0, 1, [⟨17, 16, .ro, 0, .any⟩, ⟨14, 8, .ro, 0, .any⟩, ⟨2, 2, .ro, 0, .any⟩, ⟨1, 1, .ro, 0, .any⟩, ⟨0, 0, .ro, 0, .any⟩]⟩

/-- WIN_SCSTS.KIND. -/
abbrev WIN_SCSTS_KIND : Fld := ⟨0x30014, 17, 16⟩

/-- WIN_SCSTS.MON. -/
abbrev WIN_SCSTS_MON : Fld := ⟨0x30014, 14, 8⟩

/-- WIN_SCSTS.BUSY. -/
abbrev WIN_SCSTS_BUSY : Fld := ⟨0x30014, 2, 2⟩

/-- WIN_SCSTS.DONE. -/
abbrev WIN_SCSTS_DONE : Fld := ⟨0x30014, 1, 1⟩

/-- WIN_SCSTS.PASS. -/
abbrev WIN_SCSTS_PASS : Fld := ⟨0x30014, 0, 0⟩

/-- WIN_MCFG. -/
def rWIN_MCFG : Reg :=
  ⟨0x30100, 0x30000, 0x20, 100, 0x0, 1, [⟨15, 15, .rw, 0, .any⟩, ⟨14, 14, .rw, 0, .any⟩, ⟨13, 12, .rw, 0, .reserved 0 2⟩, ⟨11, 10, .rw, 0, .reserved 0 2⟩, ⟨9, 7, .rw, 0, .reserved 0 6⟩]⟩

/-- WIN_MCFG.WAKEEN. -/
abbrev WIN_MCFG_WAKEEN (x : Nat) : Fld := ⟨0x30100 + 0x20 * x, 15, 15⟩

/-- WIN_MCFG.SPDEN. -/
abbrev WIN_MCFG_SPDEN (x : Nat) : Fld := ⟨0x30100 + 0x20 * x, 14, 14⟩

/-- WIN_MCFG.EVEDGE. -/
abbrev WIN_MCFG_EVEDGE (x : Nat) : Fld := ⟨0x30100 + 0x20 * x, 13, 12⟩

/-- WIN_MCFG.OUTSEL. -/
abbrev WIN_MCFG_OUTSEL (x : Nat) : Fld := ⟨0x30100 + 0x20 * x, 11, 10⟩

/-- WIN_MCFG.HYST. -/
abbrev WIN_MCFG_HYST (x : Nat) : Fld := ⟨0x30100 + 0x20 * x, 9, 7⟩

/-- WIN_MTHR. -/
def rWIN_MTHR : Reg :=
  ⟨0x30104, 0x30000, 0x20, 100, 0x0, 1, [⟨25, 16, .rw, 1023, .any⟩, ⟨9, 0, .rw, 0, .any⟩]⟩

/-- WIN_MTHR.HI. -/
abbrev WIN_MTHR_HI (x : Nat) : Fld := ⟨0x30104 + 0x20 * x, 25, 16⟩

/-- WIN_MTHR.LO. -/
abbrev WIN_MTHR_LO (x : Nat) : Fld := ⟨0x30104 + 0x20 * x, 9, 0⟩

/-- WIN_MSTS. -/
def rWIN_MSTS : Reg :=
  ⟨0x30108, 0x30000, 0x20, 100, 0x0, 1, [⟨9, 9, .w1c, 0, .any⟩, ⟨8, 8, .w1c, 0, .any⟩, ⟨7, 7, .ro, 0, .any⟩, ⟨6, 6, .ro, 0, .any⟩, ⟨5, 5, .ro, 0, .any⟩, ⟨4, 4, .ro, 0, .any⟩, ⟨3, 3, .w1c, 0, .any⟩, ⟨2, 2, .w1c, 0, .any⟩, ⟨1, 1, .w1c, 0, .any⟩, ⟨0, 0, .w1c, 0, .any⟩]⟩

/-- WIN_MSTS.COMPDN. -/
abbrev WIN_MSTS_COMPDN (x : Nat) : Fld := ⟨0x30108 + 0x20 * x, 9, 9⟩

/-- WIN_MSTS.COMPUP. -/
abbrev WIN_MSTS_COMPUP (x : Nat) : Fld := ⟨0x30108 + 0x20 * x, 8, 8⟩

/-- WIN_MSTS.COMPLIANCE. -/
abbrev WIN_MSTS_COMPLIANCE (x : Nat) : Fld := ⟨0x30108 + 0x20 * x, 7, 7⟩

/-- WIN_MSTS.LVL. -/
abbrev WIN_MSTS_LVL (x : Nat) : Fld := ⟨0x30108 + 0x20 * x, 6, 6⟩

/-- WIN_MSTS.LOCMP. -/
abbrev WIN_MSTS_LOCMP (x : Nat) : Fld := ⟨0x30108 + 0x20 * x, 5, 5⟩

/-- WIN_MSTS.HICMP. -/
abbrev WIN_MSTS_HICMP (x : Nat) : Fld := ⟨0x30108 + 0x20 * x, 4, 4⟩

/-- WIN_MSTS.LOUP. -/
abbrev WIN_MSTS_LOUP (x : Nat) : Fld := ⟨0x30108 + 0x20 * x, 3, 3⟩

/-- WIN_MSTS.LODN. -/
abbrev WIN_MSTS_LODN (x : Nat) : Fld := ⟨0x30108 + 0x20 * x, 2, 2⟩

/-- WIN_MSTS.HIDN. -/
abbrev WIN_MSTS_HIDN (x : Nat) : Fld := ⟨0x30108 + 0x20 * x, 1, 1⟩

/-- WIN_MSTS.HIUP. -/
abbrev WIN_MSTS_HIUP (x : Nat) : Fld := ⟨0x30108 + 0x20 * x, 0, 0⟩

/-- WIN_MLASTCTLO. -/
def rWIN_MLASTCTLO : Reg :=
  ⟨0x3010C, 0x30000, 0x20, 100, 0x0, 1, [⟨31, 0, .ro, 0, .any⟩]⟩

/-- WIN_MLASTCTLO.V. -/
abbrev WIN_MLASTCTLO (x : Nat) : Fld := ⟨0x3010C + 0x20 * x, 31, 0⟩

/-- WIN_MLASTCTHI. -/
def rWIN_MLASTCTHI : Reg :=
  ⟨0x30110, 0x30000, 0x20, 100, 0x0, 1, [⟨31, 0, .ro, 0, .any⟩]⟩

/-- WIN_MLASTCTHI.V. -/
abbrev WIN_MLASTCTHI (x : Nat) : Fld := ⟨0x30110 + 0x20 * x, 31, 0⟩

/-- WIN_MSPD. -/
def rWIN_MSPD : Reg :=
  ⟨0x30114, 0x30000, 0x20, 32, 0x0, 1, [⟨31, 16, .rw, 500, .range 1 65535⟩, ⟨7, 0, .rw, 16, .range 1 255⟩]⟩

/-- WIN_MSPD.STILL. -/
abbrev WIN_MSPD_STILL (x : Nat) : Fld := ⟨0x30114 + 0x20 * x, 31, 16⟩

/-- WIN_MSPD.NAVG. -/
abbrev WIN_MSPD_NAVG (x : Nat) : Fld := ⟨0x30114 + 0x20 * x, 7, 0⟩

/-- The registers of WIN. -/
def regsWIN : List Reg :=
  [rWIN_SCCTL, rWIN_SCSTS, rWIN_MCFG, rWIN_MTHR, rWIN_MSTS, rWIN_MLASTCTLO, rWIN_MLASTCTHI, rWIN_MSPD]

/-! SER (spec chapter 07). -/

/-- SER_ERRSTS (R10). -/
abbrev SER_ERRSTS : Nat := 0x31000

/-- SER_TPLIDX. -/
def rSER_TPLIDX : Reg :=
  ⟨0x31010, 0x31000, 0x0, 1, 0x0, 1, [⟨31, 31, .wo, 0, .any⟩, ⟨30, 30, .wo, 0, .any⟩, ⟨9, 0, .wo, 0, .any⟩]⟩

/-- SER_TPLIDX.WR. -/
abbrev SER_TPLIDX_WR : Fld := ⟨0x31010, 31, 31⟩

/-- SER_TPLIDX.RD. -/
abbrev SER_TPLIDX_RD : Fld := ⟨0x31010, 30, 30⟩

/-- SER_TPLIDX.IDX. -/
abbrev SER_TPLIDX_IDX : Fld := ⟨0x31010, 9, 0⟩

/-- SER_TPLD. -/
def rSER_TPLD : Reg :=
  ⟨0x31020, 0x31000, 0x4, 8, 0x0, 1, [⟨31, 0, .rw, 0, .any⟩]⟩

/-- SER_TPLD.V. -/
abbrev SER_TPLD (x : Nat) : Fld := ⟨0x31020 + 0x4 * x, 31, 0⟩

/-- SER_PCFG. -/
def rSER_PCFG : Reg :=
  ⟨0x31100, 0x31000, 0x40, 16, 0x0, 1, [⟨15, 8, .rw, 10, .range 4 255⟩, ⟨7, 6, .rw, 0, .any⟩, ⟨5, 4, .rw, 0, .any⟩, ⟨3, 3, .rw, 0, .any⟩, ⟨2, 2, .rw, 0, .any⟩, ⟨0, 0, .rw, 0, .any⟩]⟩

/-- SER_PCFG.DIV. -/
abbrev SER_PCFG_DIV (x : Nat) : Fld := ⟨0x31100 + 0x40 * x, 15, 8⟩

/-- SER_PCFG.SLVMODE. -/
abbrev SER_PCFG_SLVMODE (x : Nat) : Fld := ⟨0x31100 + 0x40 * x, 7, 6⟩

/-- SER_PCFG.SLVWSIZE. -/
abbrev SER_PCFG_SLVWSIZE (x : Nat) : Fld := ⟨0x31100 + 0x40 * x, 5, 4⟩

/-- SER_PCFG.SLVLSB. -/
abbrev SER_PCFG_SLVLSB (x : Nat) : Fld := ⟨0x31100 + 0x40 * x, 3, 3⟩

/-- SER_PCFG.ROLE. -/
abbrev SER_PCFG_ROLE (x : Nat) : Fld := ⟨0x31100 + 0x40 * x, 2, 2⟩

/-- SER_PCFG.EN. -/
abbrev SER_PCFG_EN (x : Nat) : Fld := ⟨0x31100 + 0x40 * x, 0, 0⟩

/-- SER_PTIM. -/
def rSER_PTIM : Reg :=
  ⟨0x31104, 0x31000, 0x40, 16, 0x0, 1, [⟨23, 16, .rw, 0, .range 1 255⟩, ⟨15, 8, .rw, 0, .any⟩, ⟨7, 0, .rw, 0, .range 1 255⟩]⟩

/-- SER_PTIM.CSIDLE. -/
abbrev SER_PTIM_CSIDLE (x : Nat) : Fld := ⟨0x31104 + 0x40 * x, 23, 16⟩

/-- SER_PTIM.CSHOLD. -/
abbrev SER_PTIM_CSHOLD (x : Nat) : Fld := ⟨0x31104 + 0x40 * x, 15, 8⟩

/-- SER_PTIM.CSSETUP. -/
abbrev SER_PTIM_CSSETUP (x : Nat) : Fld := ⟨0x31104 + 0x40 * x, 7, 0⟩

/-- SER_PCS. -/
def rSER_PCS : Reg :=
  ⟨0x31108, 0x31000, 0x40, 16, 0x0, 1, [⟨15, 8, .rw, 0, .any⟩, ⟨7, 0, .rw, 0, .any⟩]⟩

/-- SER_PCS.POL. -/
abbrev SER_PCS_POL (x : Nat) : Fld := ⟨0x31108 + 0x40 * x, 15, 8⟩

/-- SER_PCS.EN. -/
abbrev SER_PCS_EN (x : Nat) : Fld := ⟨0x31108 + 0x40 * x, 7, 0⟩

/-- SER_PSLVTX. -/
def rSER_PSLVTX : Reg :=
  ⟨0x3110C, 0x31000, 0x40, 16, 0x0, 1, [⟨31, 0, .rw, 0, .any⟩]⟩

/-- SER_PSLVTX.V. -/
abbrev SER_PSLVTX (x : Nat) : Fld := ⟨0x3110C + 0x40 * x, 31, 0⟩

/-- SER_PSLVEP. -/
def rSER_PSLVEP : Reg :=
  ⟨0x31110, 0x31000, 0x40, 16, 0x0, 1, [⟨16, 0, .rw, 0, .any⟩]⟩

/-- SER_PSLVEP.EP. -/
abbrev SER_PSLVEP_EP (x : Nat) : Fld := ⟨0x31110 + 0x40 * x, 16, 0⟩

/-- SER_PSTS. -/
def rSER_PSTS : Reg :=
  ⟨0x31114, 0x31000, 0x40, 16, 0x0, 1, [⟨8, 4, .ro, 0, .any⟩, ⟨0, 0, .ro, 0, .any⟩]⟩

/-- SER_PSTS.DEPTH. -/
abbrev SER_PSTS_DEPTH (x : Nat) : Fld := ⟨0x31114 + 0x40 * x, 8, 4⟩

/-- SER_PSTS.BUSY. -/
abbrev SER_PSTS_BUSY (x : Nat) : Fld := ⟨0x31114 + 0x40 * x, 0, 0⟩

/-- SER_PLATE. -/
def rSER_PLATE : Reg :=
  ⟨0x31118, 0x31000, 0x40, 16, 0x0, 1, [⟨31, 0, .ro, 0, .any⟩]⟩

/-- SER_PLATE.V. -/
abbrev SER_PLATE (x : Nat) : Fld := ⟨0x31118 + 0x40 * x, 31, 0⟩

/-- SER_PCHKERR. -/
def rSER_PCHKERR : Reg :=
  ⟨0x3111C, 0x31000, 0x40, 16, 0x0, 1, [⟨31, 0, .ro, 0, .any⟩]⟩

/-- SER_PCHKERR.V. -/
abbrev SER_PCHKERR (x : Nat) : Fld := ⟨0x3111C + 0x40 * x, 31, 0⟩

/-- SER_PRETRYOK. -/
def rSER_PRETRYOK : Reg :=
  ⟨0x31120, 0x31000, 0x40, 16, 0x0, 1, [⟨31, 0, .ro, 0, .any⟩]⟩

/-- SER_PRETRYOK.V. -/
abbrev SER_PRETRYOK (x : Nat) : Fld := ⟨0x31120 + 0x40 * x, 31, 0⟩

/-- SER_PLOST. -/
def rSER_PLOST : Reg :=
  ⟨0x31124, 0x31000, 0x40, 16, 0x0, 1, [⟨31, 0, .ro, 0, .any⟩]⟩

/-- SER_PLOST.V. -/
abbrev SER_PLOST (x : Nat) : Fld := ⟨0x31124 + 0x40 * x, 31, 0⟩

/-- SER_PCLR. -/
def rSER_PCLR : Reg :=
  ⟨0x31128, 0x31000, 0x40, 16, 0x0, 1, [⟨0, 0, .wo, 0, .any⟩]⟩

/-- SER_PCLR.CLR. -/
abbrev SER_PCLR_CLR (x : Nat) : Fld := ⟨0x31128 + 0x40 * x, 0, 0⟩

/-- The registers of SER. -/
def regsSER : List Reg :=
  [rSER_TPLIDX, rSER_TPLD, rSER_PCFG, rSER_PTIM, rSER_PCS, rSER_PSLVTX, rSER_PSLVEP, rSER_PSTS, rSER_PLATE, rSER_PCHKERR, rSER_PRETRYOK, rSER_PLOST, rSER_PCLR]

/-! MEM (spec chapter 07). -/

/-- MEM_ERRSTS (R10). -/
abbrev MEM_ERRSTS : Nat := 0x2C000

/-- MEM_CFG. -/
def rMEM_CFG : Reg :=
  ⟨0x2C004, 0x2C000, 0x0, 1, 0x0, 1, [⟨25, 21, .rw, 4, .range 2 16⟩, ⟨20, 16, .rw, 8, .any⟩, ⟨9, 8, .rw, 0, .reserved 0 2⟩, ⟨7, 6, .rw, 0, .reserved 0 2⟩, ⟨5, 4, .rw, 0, .reserved 0 2⟩, ⟨3, 3, .rw, 1, .any⟩, ⟨2, 2, .rw, 0, .any⟩, ⟨1, 1, .rw, 0, .any⟩, ⟨0, 0, .rw, 0, .any⟩]⟩

/-- MEM_CFG.DIV. -/
abbrev MEM_CFG_DIV : Fld := ⟨0x2C004, 25, 21⟩

/-- MEM_CFG.DUMMY. -/
abbrev MEM_CFG_DUMMY : Fld := ⟨0x2C004, 20, 16⟩

/-- MEM_CFG.DATALANES. -/
abbrev MEM_CFG_DATALANES : Fld := ⟨0x2C004, 9, 8⟩

/-- MEM_CFG.ADDRLANES. -/
abbrev MEM_CFG_ADDRLANES : Fld := ⟨0x2C004, 7, 6⟩

/-- MEM_CFG.CMDLANES. -/
abbrev MEM_CFG_CMDLANES : Fld := ⟨0x2C004, 5, 4⟩

/-- MEM_CFG.VERIFY. -/
abbrev MEM_CFG_VERIFY : Fld := ⟨0x2C004, 3, 3⟩

/-- MEM_CFG.XIP. -/
abbrev MEM_CFG_XIP : Fld := ⟨0x2C004, 2, 2⟩

/-- MEM_CFG.ADDR4. -/
abbrev MEM_CFG_ADDR4 : Fld := ⟨0x2C004, 1, 1⟩

/-- MEM_CFG.EN. -/
abbrev MEM_CFG_EN : Fld := ⟨0x2C004, 0, 0⟩

/-- MEM_OPS. -/
def rMEM_OPS : Reg :=
  ⟨0x2C008, 0x2C000, 0x0, 1, 0x0, 1, [⟨31, 24, .rw, 5, .any⟩, ⟨23, 16, .rw, 6, .any⟩, ⟨15, 8, .rw, 2, .any⟩, ⟨7, 0, .rw, 3, .any⟩]⟩

/-- MEM_OPS.RDSROP. -/
abbrev MEM_OPS_RDSROP : Fld := ⟨0x2C008, 31, 24⟩

/-- MEM_OPS.WRENOP. -/
abbrev MEM_OPS_WRENOP : Fld := ⟨0x2C008, 23, 16⟩

/-- MEM_OPS.PROGOP. -/
abbrev MEM_OPS_PROGOP : Fld := ⟨0x2C008, 15, 8⟩

/-- MEM_OPS.READOP. -/
abbrev MEM_OPS_READOP : Fld := ⟨0x2C008, 7, 0⟩

/-- MEM_XIPCFG. -/
def rMEM_XIPCFG : Reg :=
  ⟨0x2C00C, 0x2C000, 0x0, 1, 0x0, 1, [⟨18, 16, .rw, 0, .any⟩, ⟨15, 8, .rw, 255, .any⟩, ⟨7, 0, .rw, 160, .any⟩]⟩

/-- MEM_XIPCFG.BUSYBIT. -/
abbrev MEM_XIPCFG_BUSYBIT : Fld := ⟨0x2C00C, 18, 16⟩

/-- MEM_XIPCFG.MODEEXIT. -/
abbrev MEM_XIPCFG_MODEEXIT : Fld := ⟨0x2C00C, 15, 8⟩

/-- MEM_XIPCFG.MODEENTER. -/
abbrev MEM_XIPCFG_MODEENTER : Fld := ⟨0x2C00C, 7, 0⟩

/-- MEM_PROGCFG. -/
def rMEM_PROGCFG : Reg :=
  ⟨0x2C010, 0x2C000, 0x0, 1, 0x0, 1, [⟨23, 16, .rw, 10, .range 1 255⟩, ⟨15, 0, .rw, 5000, .range 1 65535⟩]⟩

/-- MEM_PROGCFG.POLLINT. -/
abbrev MEM_PROGCFG_POLLINT : Fld := ⟨0x2C010, 23, 16⟩

/-- MEM_PROGCFG.PROGTO. -/
abbrev MEM_PROGCFG_PROGTO : Fld := ⟨0x2C010, 15, 0⟩

/-- MEM_APBASE. -/
def rMEM_APBASE : Reg :=
  ⟨0x2C014, 0x2C000, 0x0, 1, 0x0, 1, [⟨25, 12, .rw, 0, .any⟩]⟩

/-- MEM_APBASE.BASE. -/
abbrev MEM_APBASE_BASE : Fld := ⟨0x2C014, 25, 12⟩

/-- MEM_FLUSH. -/
def rMEM_FLUSH : Reg :=
  ⟨0x2C018, 0x2C000, 0x0, 1, 0x0, 1, [⟨0, 0, .wo, 0, .any⟩]⟩

/-- MEM_FLUSH.GO. -/
abbrev MEM_FLUSH_GO : Fld := ⟨0x2C018, 0, 0⟩

/-- MEM_RAWCMD. -/
def rMEM_RAWCMD : Reg :=
  ⟨0x2C020, 0x2C000, 0x0, 1, 0x0, 1, [⟨14, 14, .wo, 0, .any⟩, ⟨13, 13, .wo, 0, .any⟩, ⟨12, 12, .wo, 0, .any⟩, ⟨11, 9, .wo, 0, .range 0 4⟩, ⟨8, 8, .wo, 0, .any⟩, ⟨7, 0, .wo, 0, .any⟩]⟩

/-- MEM_RAWCMD.WAIT. -/
abbrev MEM_RAWCMD_WAIT : Fld := ⟨0x2C020, 14, 14⟩

/-- MEM_RAWCMD.WREN. -/
abbrev MEM_RAWCMD_WREN : Fld := ⟨0x2C020, 13, 13⟩

/-- MEM_RAWCMD.RD. -/
abbrev MEM_RAWCMD_RD : Fld := ⟨0x2C020, 12, 12⟩

/-- MEM_RAWCMD.NB. -/
abbrev MEM_RAWCMD_NB : Fld := ⟨0x2C020, 11, 9⟩

/-- MEM_RAWCMD.ADDR. -/
abbrev MEM_RAWCMD_ADDR : Fld := ⟨0x2C020, 8, 8⟩

/-- MEM_RAWCMD.OPC. -/
abbrev MEM_RAWCMD_OPC : Fld := ⟨0x2C020, 7, 0⟩

/-- MEM_RAWADDR. -/
def rMEM_RAWADDR : Reg :=
  ⟨0x2C024, 0x2C000, 0x0, 1, 0x0, 1, [⟨31, 0, .rw, 0, .any⟩]⟩

/-- MEM_RAWADDR.V. -/
abbrev MEM_RAWADDR : Fld := ⟨0x2C024, 31, 0⟩

/-- MEM_RAWDATA. -/
def rMEM_RAWDATA : Reg :=
  ⟨0x2C028, 0x2C000, 0x0, 1, 0x0, 1, [⟨31, 0, .rw, 0, .any⟩]⟩

/-- MEM_RAWDATA.V. -/
abbrev MEM_RAWDATA : Fld := ⟨0x2C028, 31, 0⟩

/-- MEM_STS. -/
def rMEM_STS : Reg :=
  ⟨0x2C02C, 0x2C000, 0x0, 1, 0x0, 1, [⟨3, 3, .w1c, 0, .any⟩, ⟨2, 2, .ro, 0, .any⟩, ⟨1, 1, .ro, 0, .any⟩, ⟨0, 0, .ro, 0, .any⟩]⟩

/-- MEM_STS.FAULT. -/
abbrev MEM_STS_FAULT : Fld := ⟨0x2C02C, 3, 3⟩

/-- MEM_STS.PENDW. -/
abbrev MEM_STS_PENDW : Fld := ⟨0x2C02C, 2, 2⟩

/-- MEM_STS.XIPACT. -/
abbrev MEM_STS_XIPACT : Fld := ⟨0x2C02C, 1, 1⟩

/-- MEM_STS.BUSY. -/
abbrev MEM_STS_BUSY : Fld := ⟨0x2C02C, 0, 0⟩

/-- MEM_RETRY. -/
def rMEM_RETRY : Reg :=
  ⟨0x2C030, 0x2C000, 0x0, 1, 0x0, 1, [⟨31, 0, .ro, 0, .any⟩]⟩

/-- MEM_RETRY.V. -/
abbrev MEM_RETRY : Fld := ⟨0x2C030, 31, 0⟩

/-- MEM_AP. -/
def rMEM_AP : Reg :=
  ⟨0x2D000, 0x2C000, 0x4, 1024, 0x0, 1, [⟨31, 0, .rw, 0, .any⟩]⟩

/-- MEM_AP.V. -/
abbrev MEM_AP (x : Nat) : Fld := ⟨0x2D000 + 0x4 * x, 31, 0⟩

/-- The registers of MEM. -/
def regsMEM : List Reg :=
  [rMEM_CFG, rMEM_OPS, rMEM_XIPCFG, rMEM_PROGCFG, rMEM_APBASE, rMEM_FLUSH, rMEM_RAWCMD, rMEM_RAWADDR, rMEM_RAWDATA, rMEM_STS, rMEM_RETRY, rMEM_AP]

/-! CAN (spec chapter 07). -/

/-- CAN_ERRSTS (R10). -/
abbrev CAN_ERRSTS : Nat := 0x1C000

/-- CAN_PCFG. -/
def rCAN_PCFG : Reg :=
  ⟨0x1D000, 0x1C000, 0x1000, 8, 0x0, 1, [⟨15, 8, .rw, 5, .range 1 255⟩, ⟨7, 7, .rw, 0, .any⟩, ⟨6, 6, .rw, 0, .any⟩, ⟨5, 5, .rw, 1, .any⟩, ⟨4, 3, .rw, 0, .reserved 0 2⟩, ⟨2, 2, .rw, 0, .any⟩, ⟨1, 1, .rw, 0, .any⟩, ⟨0, 0, .rw, 0, .any⟩]⟩

/-- CAN_PCFG.WAKEFILT. -/
abbrev CAN_PCFG_WAKEFILT (x : Nat) : Fld := ⟨0x1D000 + 0x1000 * x, 15, 8⟩

/-- CAN_PCFG.WAKEEN. -/
abbrev CAN_PCFG_WAKEEN (x : Nat) : Fld := ⟨0x1D000 + 0x1000 * x, 7, 7⟩

/-- CAN_PCFG.FIFOEN. -/
abbrev CAN_PCFG_FIFOEN (x : Nat) : Fld := ⟨0x1D000 + 0x1000 * x, 6, 6⟩

/-- CAN_PCFG.AUTOREC. -/
abbrev CAN_PCFG_AUTOREC (x : Nat) : Fld := ⟨0x1D000 + 0x1000 * x, 5, 5⟩

/-- CAN_PCFG.OPMODE. -/
abbrev CAN_PCFG_OPMODE (x : Nat) : Fld := ⟨0x1D000 + 0x1000 * x, 4, 3⟩

/-- CAN_PCFG.BRSEN. -/
abbrev CAN_PCFG_BRSEN (x : Nat) : Fld := ⟨0x1D000 + 0x1000 * x, 2, 2⟩

/-- CAN_PCFG.FDEN. -/
abbrev CAN_PCFG_FDEN (x : Nat) : Fld := ⟨0x1D000 + 0x1000 * x, 1, 1⟩

/-- CAN_PCFG.EN. -/
abbrev CAN_PCFG_EN (x : Nat) : Fld := ⟨0x1D000 + 0x1000 * x, 0, 0⟩

/-- CAN_PNBT. -/
def rCAN_PNBT : Reg :=
  ⟨0x1D004, 0x1C000, 0x1000, 8, 0x0, 1, [⟨31, 25, .rw, 1, .any⟩, ⟨24, 17, .rw, 12, .range 1 255⟩, ⟨16, 10, .rw, 1, .any⟩, ⟨9, 0, .rw, 19, .any⟩]⟩

/-- CAN_PNBT.NSJW. -/
abbrev CAN_PNBT_NSJW (x : Nat) : Fld := ⟨0x1D004 + 0x1000 * x, 31, 25⟩

/-- CAN_PNBT.NTSEG1. -/
abbrev CAN_PNBT_NTSEG1 (x : Nat) : Fld := ⟨0x1D004 + 0x1000 * x, 24, 17⟩

/-- CAN_PNBT.NTSEG2. -/
abbrev CAN_PNBT_NTSEG2 (x : Nat) : Fld := ⟨0x1D004 + 0x1000 * x, 16, 10⟩

/-- CAN_PNBT.NBRP. -/
abbrev CAN_PNBT_NBRP (x : Nat) : Fld := ⟨0x1D004 + 0x1000 * x, 9, 0⟩

/-- CAN_PDBT. -/
def rCAN_PDBT : Reg :=
  ⟨0x1D008, 0x1C000, 0x1000, 8, 0x0, 1, [⟨31, 31, .rw, 0, .any⟩, ⟨30, 24, .rw, 0, .any⟩, ⟨23, 20, .rw, 0, .any⟩, ⟨19, 15, .rw, 4, .any⟩, ⟨14, 11, .rw, 1, .any⟩, ⟨4, 0, .rw, 0, .any⟩]⟩

/-- CAN_PDBT.TDCEN. -/
abbrev CAN_PDBT_TDCEN (x : Nat) : Fld := ⟨0x1D008 + 0x1000 * x, 31, 31⟩

/-- CAN_PDBT.TDCO. -/
abbrev CAN_PDBT_TDCO (x : Nat) : Fld := ⟨0x1D008 + 0x1000 * x, 30, 24⟩

/-- CAN_PDBT.DSJW. -/
abbrev CAN_PDBT_DSJW (x : Nat) : Fld := ⟨0x1D008 + 0x1000 * x, 23, 20⟩

/-- CAN_PDBT.DTSEG1. -/
abbrev CAN_PDBT_DTSEG1 (x : Nat) : Fld := ⟨0x1D008 + 0x1000 * x, 19, 15⟩

/-- CAN_PDBT.DTSEG2. -/
abbrev CAN_PDBT_DTSEG2 (x : Nat) : Fld := ⟨0x1D008 + 0x1000 * x, 14, 11⟩

/-- CAN_PDBT.DBRP. -/
abbrev CAN_PDBT_DBRP (x : Nat) : Fld := ⟨0x1D008 + 0x1000 * x, 4, 0⟩

/-- CAN_PSTS. -/
def rCAN_PSTS : Reg :=
  ⟨0x1D00C, 0x1C000, 0x1000, 8, 0x0, 1, [⟨23, 16, .ro, 0, .any⟩, ⟨15, 8, .ro, 0, .any⟩, ⟨3, 3, .ro, 0, .any⟩, ⟨2, 2, .ro, 1, .any⟩, ⟨1, 0, .ro, 0, .any⟩]⟩

/-- CAN_PSTS.TEC. -/
abbrev CAN_PSTS_TEC (x : Nat) : Fld := ⟨0x1D00C + 0x1000 * x, 23, 16⟩

/-- CAN_PSTS.REC. -/
abbrev CAN_PSTS_REC (x : Nat) : Fld := ⟨0x1D00C + 0x1000 * x, 15, 8⟩

/-- CAN_PSTS.RECOVERING. -/
abbrev CAN_PSTS_RECOVERING (x : Nat) : Fld := ⟨0x1D00C + 0x1000 * x, 3, 3⟩

/-- CAN_PSTS.STBY. -/
abbrev CAN_PSTS_STBY (x : Nat) : Fld := ⟨0x1D00C + 0x1000 * x, 2, 2⟩

/-- CAN_PSTS.ERRSTATE. -/
abbrev CAN_PSTS_ERRSTATE (x : Nat) : Fld := ⟨0x1D00C + 0x1000 * x, 1, 0⟩

/-- CAN_PCTL. -/
def rCAN_PCTL : Reg :=
  ⟨0x1D010, 0x1C000, 0x1000, 8, 0x0, 1, [⟨0, 0, .wo, 0, .any⟩]⟩

/-- CAN_PCTL.RECOVER. -/
abbrev CAN_PCTL_RECOVER (x : Nat) : Fld := ⟨0x1D010 + 0x1000 * x, 0, 0⟩

/-- CAN_PRXOK. -/
def rCAN_PRXOK : Reg :=
  ⟨0x1D014, 0x1C000, 0x1000, 8, 0x0, 1, [⟨31, 0, .ro, 0, .any⟩]⟩

/-- CAN_PRXOK.V. -/
abbrev CAN_PRXOK (x : Nat) : Fld := ⟨0x1D014 + 0x1000 * x, 31, 0⟩

/-- CAN_PTXOK. -/
def rCAN_PTXOK : Reg :=
  ⟨0x1D018, 0x1C000, 0x1000, 8, 0x0, 1, [⟨31, 0, .ro, 0, .any⟩]⟩

/-- CAN_PTXOK.V. -/
abbrev CAN_PTXOK (x : Nat) : Fld := ⟨0x1D018 + 0x1000 * x, 31, 0⟩

/-- CAN_PTXFAIL. -/
def rCAN_PTXFAIL : Reg :=
  ⟨0x1D01C, 0x1C000, 0x1000, 8, 0x0, 1, [⟨31, 0, .ro, 0, .any⟩]⟩

/-- CAN_PTXFAIL.V. -/
abbrev CAN_PTXFAIL (x : Nat) : Fld := ⟨0x1D01C + 0x1000 * x, 31, 0⟩

/-- CAN_PSHORT. -/
def rCAN_PSHORT : Reg :=
  ⟨0x1D020, 0x1C000, 0x1000, 8, 0x0, 1, [⟨31, 0, .ro, 0, .any⟩]⟩

/-- CAN_PSHORT.V. -/
abbrev CAN_PSHORT (x : Nat) : Fld := ⟨0x1D020 + 0x1000 * x, 31, 0⟩

/-- CAN_PMAPOVER. -/
def rCAN_PMAPOVER : Reg :=
  ⟨0x1D024, 0x1C000, 0x1000, 8, 0x0, 1, [⟨31, 0, .ro, 0, .any⟩]⟩

/-- CAN_PMAPOVER.V. -/
abbrev CAN_PMAPOVER (x : Nat) : Fld := ⟨0x1D024 + 0x1000 * x, 31, 0⟩

/-- CAN_PFIFOLOST. -/
def rCAN_PFIFOLOST : Reg :=
  ⟨0x1D028, 0x1C000, 0x1000, 8, 0x0, 1, [⟨31, 0, .ro, 0, .any⟩]⟩

/-- CAN_PFIFOLOST.V. -/
abbrev CAN_PFIFOLOST (x : Nat) : Fld := ⟨0x1D028 + 0x1000 * x, 31, 0⟩

/-- CAN_PCLR. -/
def rCAN_PCLR : Reg :=
  ⟨0x1D02C, 0x1C000, 0x1000, 8, 0x0, 1, [⟨0, 0, .wo, 0, .any⟩]⟩

/-- CAN_PCLR.CLR. -/
abbrev CAN_PCLR_CLR (x : Nat) : Fld := ⟨0x1D02C + 0x1000 * x, 0, 0⟩

/-- CAN_PFIFOHD. -/
def rCAN_PFIFOHD : Reg :=
  ⟨0x1D040, 0x1C000, 0x1000, 8, 0x4, 22, [⟨31, 0, .ro, 0, .any⟩]⟩

/-- CAN_PFIFOHD.V. -/
abbrev CAN_PFIFOHD (x : Nat) (y : Nat) : Fld := ⟨0x1D040 + 0x1000 * x + 0x4 * y, 31, 0⟩

/-- CAN_PFIFOPOP. -/
def rCAN_PFIFOPOP : Reg :=
  ⟨0x1D098, 0x1C000, 0x1000, 8, 0x0, 1, [⟨0, 0, .wo, 0, .any⟩]⟩

/-- CAN_PFIFOPOP.POP. -/
abbrev CAN_PFIFOPOP_POP (x : Nat) : Fld := ⟨0x1D098 + 0x1000 * x, 0, 0⟩

/-- CAN_MBCFG. -/
def rCAN_MBCFG : Reg :=
  ⟨0x1D800, 0x1C000, 0x1000, 8, 0x20, 64, [⟨5, 5, .rw, 0, .any⟩, ⟨4, 4, .rw, 0, .any⟩, ⟨3, 3, .rw, 0, .any⟩, ⟨2, 2, .rw, 0, .any⟩, ⟨1, 0, .rw, 0, .reserved 0 2⟩]⟩

/-- CAN_MBCFG.MASKFDF. -/
abbrev CAN_MBCFG_MASKFDF (x : Nat) (y : Nat) : Fld := ⟨0x1D800 + 0x1000 * x + 0x20 * y, 5, 5⟩

/-- CAN_MBCFG.BRS. -/
abbrev CAN_MBCFG_BRS (x : Nat) (y : Nat) : Fld := ⟨0x1D800 + 0x1000 * x + 0x20 * y, 4, 4⟩

/-- CAN_MBCFG.FDF. -/
abbrev CAN_MBCFG_FDF (x : Nat) (y : Nat) : Fld := ⟨0x1D800 + 0x1000 * x + 0x20 * y, 3, 3⟩

/-- CAN_MBCFG.IDE. -/
abbrev CAN_MBCFG_IDE (x : Nat) (y : Nat) : Fld := ⟨0x1D800 + 0x1000 * x + 0x20 * y, 2, 2⟩

/-- CAN_MBCFG.MODE. -/
abbrev CAN_MBCFG_MODE (x : Nat) (y : Nat) : Fld := ⟨0x1D800 + 0x1000 * x + 0x20 * y, 1, 0⟩

/-- CAN_MBID. -/
def rCAN_MBID : Reg :=
  ⟨0x1D804, 0x1C000, 0x1000, 8, 0x20, 64, [⟨28, 0, .rw, 0, .any⟩]⟩

/-- CAN_MBID.V. -/
abbrev CAN_MBID (x : Nat) (y : Nat) : Fld := ⟨0x1D804 + 0x1000 * x + 0x20 * y, 28, 0⟩

/-- CAN_MBMASK. -/
def rCAN_MBMASK : Reg :=
  ⟨0x1D808, 0x1C000, 0x1000, 8, 0x20, 64, [⟨28, 0, .rw, 0, .any⟩]⟩

/-- CAN_MBMASK.V. -/
abbrev CAN_MBMASK (x : Nat) (y : Nat) : Fld := ⟨0x1D808 + 0x1000 * x + 0x20 * y, 28, 0⟩

/-- CAN_MBEP. -/
def rCAN_MBEP : Reg :=
  ⟨0x1D80C, 0x1C000, 0x1000, 8, 0x20, 64, [⟨16, 0, .rw, 0, .any⟩]⟩

/-- CAN_MBEP.V. -/
abbrev CAN_MBEP (x : Nat) (y : Nat) : Fld := ⟨0x1D80C + 0x1000 * x + 0x20 * y, 16, 0⟩

/-- CAN_MBTXTO. -/
def rCAN_MBTXTO : Reg :=
  ⟨0x1D810, 0x1C000, 0x1000, 8, 0x20, 64, [⟨15, 0, .rw, 100, .range 1 65535⟩]⟩

/-- CAN_MBTXTO.V. -/
abbrev CAN_MBTXTO (x : Nat) (y : Nat) : Fld := ⟨0x1D810 + 0x1000 * x + 0x20 * y, 15, 0⟩

/-- CAN_MBSTS. -/
def rCAN_MBSTS : Reg :=
  ⟨0x1D814, 0x1C000, 0x1000, 8, 0x20, 64, [⟨15, 8, .ro, 0, .any⟩, ⟨0, 0, .ro, 0, .any⟩]⟩

/-- CAN_MBSTS.STATUS. -/
abbrev CAN_MBSTS_STATUS (x : Nat) (y : Nat) : Fld := ⟨0x1D814 + 0x1000 * x + 0x20 * y, 15, 8⟩

/-- CAN_MBSTS.PENDING. -/
abbrev CAN_MBSTS_PENDING (x : Nat) (y : Nat) : Fld := ⟨0x1D814 + 0x1000 * x + 0x20 * y, 0, 0⟩

/-- The registers of CAN. -/
def regsCAN : List Reg :=
  [rCAN_PCFG, rCAN_PNBT, rCAN_PDBT, rCAN_PSTS, rCAN_PCTL, rCAN_PRXOK, rCAN_PTXOK, rCAN_PTXFAIL, rCAN_PSHORT, rCAN_PMAPOVER, rCAN_PFIFOLOST, rCAN_PCLR, rCAN_PFIFOHD, rCAN_PFIFOPOP, rCAN_MBCFG, rCAN_MBID, rCAN_MBMASK, rCAN_MBEP, rCAN_MBTXTO, rCAN_MBSTS]

/-! PSC (spec chapter 08). -/

/-- PSC_ERRSTS (R10). -/
abbrev PSC_ERRSTS : Nat := 0x32800

/-- PSC_CFG. -/
def rPSC_CFG : Reg :=
  ⟨0x32804, 0x32800, 0x0, 1, 0x0, 1, [⟨25, 16, .rw, 10, .range 1 1000⟩, ⟨15, 8, .rw, 100, .range 1 255⟩]⟩

/-- PSC_CFG.REMTMO. -/
abbrev PSC_CFG_REMTMO : Fld := ⟨0x32804, 25, 16⟩

/-- PSC_CFG.SERLATE. -/
abbrev PSC_CFG_SERLATE : Fld := ⟨0x32804, 15, 8⟩

/-- PSC_TAGRES. -/
def rPSC_TAGRES : Reg :=
  ⟨0x32808, 0x32800, 0x0, 1, 0x0, 1, [⟨31, 16, .rw, 4096, .any⟩, ⟨15, 0, .rw, 4096, .any⟩]⟩

/-- PSC_TAGRES.RESB. -/
abbrev PSC_TAGRES_RESB : Fld := ⟨0x32808, 31, 16⟩

/-- PSC_TAGRES.RESA. -/
abbrev PSC_TAGRES_RESA : Fld := ⟨0x32808, 15, 0⟩

/-- PSC_STS. -/
def rPSC_STS : Reg :=
  ⟨0x3280C, 0x32800, 0x0, 1, 0x0, 1, [⟨20, 20, .ro, 0, .any⟩, ⟨18, 16, .ro, 0, .any⟩, ⟨15, 0, .ro, 0, .any⟩]⟩

/-- PSC_STS.STOPPED. -/
abbrev PSC_STS_STOPPED : Fld := ⟨0x3280C, 20, 20⟩

/-- PSC_STS.STAGE. -/
abbrev PSC_STS_STAGE : Fld := ⟨0x3280C, 18, 16⟩

/-- PSC_STS.ENTRIES. -/
abbrev PSC_STS_ENTRIES : Fld := ⟨0x3280C, 15, 0⟩

/-- PSC_TAGS. -/
def rPSC_TAGS : Reg :=
  ⟨0x32810, 0x32800, 0x0, 1, 0x0, 1, [⟨16, 0, .ro, 0, .any⟩]⟩

/-- PSC_TAGS.V. -/
abbrev PSC_TAGS : Fld := ⟨0x32810, 16, 0⟩

/-- PSC_TAGHWM. -/
def rPSC_TAGHWM : Reg :=
  ⟨0x32814, 0x32800, 0x0, 1, 0x0, 1, [⟨16, 0, .ro, 0, .any⟩]⟩

/-- PSC_TAGHWM.V. -/
abbrev PSC_TAGHWM : Fld := ⟨0x32814, 16, 0⟩

/-- PSC_BTRIGCFG. -/
def rPSC_BTRIGCFG : Reg :=
  ⟨0x32818, 0x32800, 0x0, 1, 0x0, 1, [⟨7, 0, .rw, 0, .any⟩]⟩

/-- PSC_BTRIGCFG.EN. -/
abbrev PSC_BTRIGCFG_EN : Fld := ⟨0x32818, 7, 0⟩

/-- PSC_ISSUED. -/
def rPSC_ISSUED : Reg :=
  ⟨0x32820, 0x32800, 0x0, 1, 0x0, 1, [⟨31, 0, .ro, 0, .any⟩]⟩

/-- PSC_ISSUED.V. -/
abbrev PSC_ISSUED : Fld := ⟨0x32820, 31, 0⟩

/-- PSC_RETRYOK. -/
def rPSC_RETRYOK : Reg :=
  ⟨0x32824, 0x32800, 0x0, 1, 0x0, 1, [⟨31, 0, .ro, 0, .any⟩]⟩

/-- PSC_RETRYOK.V. -/
abbrev PSC_RETRYOK : Fld := ⟨0x32824, 31, 0⟩

/-- PSC_LASTING. -/
def rPSC_LASTING : Reg :=
  ⟨0x32828, 0x32800, 0x0, 1, 0x0, 1, [⟨31, 0, .ro, 0, .any⟩]⟩

/-- PSC_LASTING.V. -/
abbrev PSC_LASTING : Fld := ⟨0x32828, 31, 0⟩

/-- PSC_LATE. -/
def rPSC_LATE : Reg :=
  ⟨0x3282C, 0x32800, 0x0, 1, 0x0, 1, [⟨31, 0, .ro, 0, .any⟩]⟩

/-- PSC_LATE.V. -/
abbrev PSC_LATE : Fld := ⟨0x3282C, 31, 0⟩

/-- PSC_SHEDMISS. -/
def rPSC_SHEDMISS : Reg :=
  ⟨0x32830, 0x32800, 0x0, 1, 0x0, 1, [⟨31, 0, .ro, 0, .any⟩]⟩

/-- PSC_SHEDMISS.V. -/
abbrev PSC_SHEDMISS : Fld := ⟨0x32830, 31, 0⟩

/-- PSC_NOTAGA. -/
def rPSC_NOTAGA : Reg :=
  ⟨0x32834, 0x32800, 0x0, 1, 0x0, 1, [⟨31, 0, .ro, 0, .any⟩]⟩

/-- PSC_NOTAGA.V. -/
abbrev PSC_NOTAGA : Fld := ⟨0x32834, 31, 0⟩

/-- PSC_NOTAGB. -/
def rPSC_NOTAGB : Reg :=
  ⟨0x32838, 0x32800, 0x0, 1, 0x0, 1, [⟨31, 0, .ro, 0, .any⟩]⟩

/-- PSC_NOTAGB.V. -/
abbrev PSC_NOTAGB : Fld := ⟨0x32838, 31, 0⟩

/-- PSC_NOTAGC. -/
def rPSC_NOTAGC : Reg :=
  ⟨0x3283C, 0x32800, 0x0, 1, 0x0, 1, [⟨31, 0, .ro, 0, .any⟩]⟩

/-- PSC_NOTAGC.V. -/
abbrev PSC_NOTAGC : Fld := ⟨0x3283C, 31, 0⟩

/-- PSC_OVERSAMPLE. -/
def rPSC_OVERSAMPLE : Reg :=
  ⟨0x32840, 0x32800, 0x0, 1, 0x0, 1, [⟨31, 0, .ro, 0, .any⟩]⟩

/-- PSC_OVERSAMPLE.V. -/
abbrev PSC_OVERSAMPLE : Fld := ⟨0x32840, 31, 0⟩

/-- PSC_TRIGLOST. -/
def rPSC_TRIGLOST : Reg :=
  ⟨0x32844, 0x32800, 0x0, 1, 0x0, 1, [⟨31, 0, .ro, 0, .any⟩]⟩

/-- PSC_TRIGLOST.V. -/
abbrev PSC_TRIGLOST : Fld := ⟨0x32844, 31, 0⟩

/-- PSC_REMRESEND. -/
def rPSC_REMRESEND : Reg :=
  ⟨0x32848, 0x32800, 0x0, 1, 0x0, 1, [⟨31, 0, .ro, 0, .any⟩]⟩

/-- PSC_REMRESEND.V. -/
abbrev PSC_REMRESEND : Fld := ⟨0x32848, 31, 0⟩

/-- PSC_NOFIT. -/
def rPSC_NOFIT : Reg :=
  ⟨0x3284C, 0x32800, 0x0, 1, 0x0, 1, [⟨31, 0, .ro, 0, .any⟩]⟩

/-- PSC_NOFIT.V. -/
abbrev PSC_NOFIT : Fld := ⟨0x3284C, 31, 0⟩

/-- PSC_CLR. -/
def rPSC_CLR : Reg :=
  ⟨0x32850, 0x32800, 0x0, 1, 0x0, 1, [⟨0, 0, .wo, 0, .any⟩]⟩

/-- PSC_CLR.CLR. -/
abbrev PSC_CLR_CLR : Fld := ⟨0x32850, 0, 0⟩

/-- The registers of PSC. -/
def regsPSC : List Reg :=
  [rPSC_CFG, rPSC_TAGRES, rPSC_STS, rPSC_TAGS, rPSC_TAGHWM, rPSC_BTRIGCFG, rPSC_ISSUED, rPSC_RETRYOK, rPSC_LASTING, rPSC_LATE, rPSC_SHEDMISS, rPSC_NOTAGA, rPSC_NOTAGB, rPSC_NOTAGC, rPSC_OVERSAMPLE, rPSC_TRIGLOST, rPSC_REMRESEND, rPSC_NOFIT, rPSC_CLR]

/-! EPT (spec chapter 09). -/

/-- EPT_ERRSTS (R10). -/
abbrev EPT_ERRSTS : Nat := 0x32C00

/-- EPT_CFG. -/
def rEPT_CFG : Reg :=
  ⟨0x32C04, 0x32C00, 0x0, 1, 0x0, 1, [⟨31, 16, .rw, 2000, .range 10 60000⟩]⟩

/-- EPT_CFG.RETIREHOLD. -/
abbrev EPT_CFG_RETIREHOLD : Fld := ⟨0x32C04, 31, 16⟩

/-- EPT_IDX. -/
def rEPT_IDX : Reg :=
  ⟨0x32C10, 0x32C00, 0x0, 1, 0x0, 1, [⟨31, 31, .wo, 0, .any⟩, ⟨30, 30, .wo, 0, .any⟩, ⟨29, 29, .wo, 0, .any⟩, ⟨16, 0, .wo, 0, .any⟩]⟩

/-- EPT_IDX.WR. -/
abbrev EPT_IDX_WR : Fld := ⟨0x32C10, 31, 31⟩

/-- EPT_IDX.RD. -/
abbrev EPT_IDX_RD : Fld := ⟨0x32C10, 30, 30⟩

/-- EPT_IDX.REL. -/
abbrev EPT_IDX_REL : Fld := ⟨0x32C10, 29, 29⟩

/-- EPT_IDX.INDEX. -/
abbrev EPT_IDX_INDEX : Fld := ⟨0x32C10, 16, 0⟩

/-- EPT_D. -/
def rEPT_D : Reg :=
  ⟨0x32C20, 0x32C00, 0x4, 8, 0x0, 1, [⟨31, 0, .rw, 0, .any⟩]⟩

/-- EPT_D.V. -/
abbrev EPT_D (x : Nat) : Fld := ⟨0x32C20 + 0x4 * x, 31, 0⟩

/-- EPT_LDCTL. -/
def rEPT_LDCTL : Reg :=
  ⟨0x32C40, 0x32C00, 0x0, 1, 0x0, 1, [⟨6, 6, .wo, 0, .any⟩, ⟨5, 5, .wo, 0, .any⟩, ⟨4, 4, .wo, 0, .any⟩, ⟨1, 0, .wo, 0, .any⟩]⟩

/-- EPT_LDCTL.DISCARD. -/
abbrev EPT_LDCTL_DISCARD : Fld := ⟨0x32C40, 6, 6⟩

/-- EPT_LDCTL.STORE. -/
abbrev EPT_LDCTL_STORE : Fld := ⟨0x32C40, 5, 5⟩

/-- EPT_LDCTL.GO. -/
abbrev EPT_LDCTL_GO : Fld := ⟨0x32C40, 4, 4⟩

/-- EPT_LDCTL.SRC. -/
abbrev EPT_LDCTL_SRC : Fld := ⟨0x32C40, 1, 0⟩

/-- EPT_LDADDR. -/
def rEPT_LDADDR : Reg :=
  ⟨0x32C44, 0x32C00, 0x0, 1, 0x0, 1, [⟨25, 6, .rw, 0, .any⟩]⟩

/-- EPT_LDADDR.ADDR. -/
abbrev EPT_LDADDR_ADDR : Fld := ⟨0x32C44, 25, 6⟩

/-- EPT_LDOFS. -/
def rEPT_LDOFS : Reg :=
  ⟨0x32C48, 0x32C00, 0x0, 1, 0x0, 1, [⟨31, 0, .ro, 0, .any⟩]⟩

/-- EPT_LDOFS.V. -/
abbrev EPT_LDOFS : Fld := ⟨0x32C48, 31, 0⟩

/-- EPT_SWCTL. -/
def rEPT_SWCTL : Reg :=
  ⟨0x32C50, 0x32C00, 0x0, 1, 0x0, 1, [⟨2, 2, .wo, 0, .any⟩, ⟨1, 1, .wo, 0, .any⟩, ⟨0, 0, .wo, 0, .any⟩]⟩

/-- EPT_SWCTL.CANCEL. -/
abbrev EPT_SWCTL_CANCEL : Fld := ⟨0x32C50, 2, 2⟩

/-- EPT_SWCTL.NOW. -/
abbrev EPT_SWCTL_NOW : Fld := ⟨0x32C50, 1, 1⟩

/-- EPT_SWCTL.GO. -/
abbrev EPT_SWCTL_GO : Fld := ⟨0x32C50, 0, 0⟩

/-- EPT_SWCTLO. -/
def rEPT_SWCTLO : Reg :=
  ⟨0x32C54, 0x32C00, 0x0, 1, 0x0, 1, [⟨31, 0, .rw, 0, .any⟩]⟩

/-- EPT_SWCTLO.V. -/
abbrev EPT_SWCTLO : Fld := ⟨0x32C54, 31, 0⟩

/-- EPT_SWCTHI. -/
def rEPT_SWCTHI : Reg :=
  ⟨0x32C58, 0x32C00, 0x0, 1, 0x0, 1, [⟨31, 0, .rw, 0, .any⟩]⟩

/-- EPT_SWCTHI.V. -/
abbrev EPT_SWCTHI : Fld := ⟨0x32C58, 31, 0⟩

/-- EPT_SWSTS. -/
def rEPT_SWSTS : Reg :=
  ⟨0x32C5C, 0x32C00, 0x0, 1, 0x0, 1, [⟨23, 16, .ro, 0, .any⟩, ⟨10, 10, .w1c, 0, .any⟩, ⟨9, 9, .w1c, 0, .any⟩, ⟨8, 8, .w1c, 0, .any⟩, ⟨2, 0, .ro, 0, .any⟩]⟩

/-- EPT_SWSTS.LDREASON. -/
abbrev EPT_SWSTS_LDREASON : Fld := ⟨0x32C5C, 23, 16⟩

/-- EPT_SWSTS.LATE. -/
abbrev EPT_SWSTS_LATE : Fld := ⟨0x32C5C, 10, 10⟩

/-- EPT_SWSTS.STRAGGLED. -/
abbrev EPT_SWSTS_STRAGGLED : Fld := ⟨0x32C5C, 9, 9⟩

/-- EPT_SWSTS.DONE. -/
abbrev EPT_SWSTS_DONE : Fld := ⟨0x32C5C, 8, 8⟩

/-- EPT_SWSTS.STATE. -/
abbrev EPT_SWSTS_STATE : Fld := ⟨0x32C5C, 2, 0⟩

/-- EPT_ACTGEN. -/
def rEPT_ACTGEN : Reg :=
  ⟨0x32C60, 0x32C00, 0x0, 1, 0x0, 1, [⟨31, 0, .ro, 0, .any⟩]⟩

/-- EPT_ACTGEN.V. -/
abbrev EPT_ACTGEN : Fld := ⟨0x32C60, 31, 0⟩

/-- EPT_STGGEN. -/
def rEPT_STGGEN : Reg :=
  ⟨0x32C64, 0x32C00, 0x0, 1, 0x0, 1, [⟨31, 0, .ro, 0, .any⟩]⟩

/-- EPT_STGGEN.V. -/
abbrev EPT_STGGEN : Fld := ⟨0x32C64, 31, 0⟩

/-- EPT_SWITCHES. -/
def rEPT_SWITCHES : Reg :=
  ⟨0x32C68, 0x32C00, 0x0, 1, 0x0, 1, [⟨31, 0, .ro, 0, .any⟩]⟩

/-- EPT_SWITCHES.V. -/
abbrev EPT_SWITCHES : Fld := ⟨0x32C68, 31, 0⟩

/-- EPT_STRAGGLE. -/
def rEPT_STRAGGLE : Reg :=
  ⟨0x32C6C, 0x32C00, 0x0, 1, 0x0, 1, [⟨31, 0, .ro, 0, .any⟩]⟩

/-- EPT_STRAGGLE.V. -/
abbrev EPT_STRAGGLE : Fld := ⟨0x32C6C, 31, 0⟩

/-- EPT_INVSAMP. -/
def rEPT_INVSAMP : Reg :=
  ⟨0x32C70, 0x32C00, 0x0, 1, 0x0, 1, [⟨31, 0, .ro, 0, .any⟩]⟩

/-- EPT_INVSAMP.V. -/
abbrev EPT_INVSAMP : Fld := ⟨0x32C70, 31, 0⟩

/-- EPT_EXTRAP. -/
def rEPT_EXTRAP : Reg :=
  ⟨0x32C74, 0x32C00, 0x0, 1, 0x0, 1, [⟨31, 0, .ro, 0, .any⟩]⟩

/-- EPT_EXTRAP.V. -/
abbrev EPT_EXTRAP : Fld := ⟨0x32C74, 31, 0⟩

/-- EPT_CLIPPED. -/
def rEPT_CLIPPED : Reg :=
  ⟨0x32C78, 0x32C00, 0x0, 1, 0x0, 1, [⟨31, 0, .ro, 0, .any⟩]⟩

/-- EPT_CLIPPED.V. -/
abbrev EPT_CLIPPED : Fld := ⟨0x32C78, 31, 0⟩

/-- EPT_DISCARD. -/
def rEPT_DISCARD : Reg :=
  ⟨0x32C7C, 0x32C00, 0x0, 1, 0x0, 1, [⟨31, 0, .ro, 0, .any⟩]⟩

/-- EPT_DISCARD.V. -/
abbrev EPT_DISCARD : Fld := ⟨0x32C7C, 31, 0⟩

/-- EPT_DECOVER. -/
def rEPT_DECOVER : Reg :=
  ⟨0x32C80, 0x32C00, 0x0, 1, 0x0, 1, [⟨31, 0, .ro, 0, .any⟩]⟩

/-- EPT_DECOVER.V. -/
abbrev EPT_DECOVER : Fld := ⟨0x32C80, 31, 0⟩

/-- EPT_CLR. -/
def rEPT_CLR : Reg :=
  ⟨0x32C84, 0x32C00, 0x0, 1, 0x0, 1, [⟨0, 0, .wo, 0, .any⟩]⟩

/-- EPT_CLR.CLR. -/
abbrev EPT_CLR_CLR : Fld := ⟨0x32C84, 0, 0⟩

/-- The registers of EPT. -/
def regsEPT : List Reg :=
  [rEPT_CFG, rEPT_IDX, rEPT_D, rEPT_LDCTL, rEPT_LDADDR, rEPT_LDOFS, rEPT_SWCTL, rEPT_SWCTLO, rEPT_SWCTHI, rEPT_SWSTS, rEPT_ACTGEN, rEPT_STGGEN, rEPT_SWITCHES, rEPT_STRAGGLE, rEPT_INVSAMP, rEPT_EXTRAP, rEPT_CLIPPED, rEPT_DISCARD, rEPT_DECOVER, rEPT_CLR]

/-! MSH (spec chapter 10). -/

/-- MSH_ERRSTS (R10). -/
abbrev MSH_ERRSTS : Nat := 0x32400

/-- MSH_CMTRSN. -/
def rMSH_CMTRSN : Reg :=
  ⟨0x32404, 0x32400, 0x0, 1, 0x0, 1, [⟨7, 0, .ro, 0, .any⟩]⟩

/-- MSH_CMTRSN.V. -/
abbrev MSH_CMTRSN : Fld := ⟨0x32404, 7, 0⟩

/-- MSH_POOLSTS. -/
def rMSH_POOLSTS : Reg :=
  ⟨0x32408, 0x32400, 0x0, 1, 0x0, 1, [⟨30, 16, .ro, 16384, .any⟩, ⟨14, 0, .ro, 16384, .any⟩]⟩

/-- MSH_POOLSTS.LONGEST. -/
abbrev MSH_POOLSTS_LONGEST : Fld := ⟨0x32408, 30, 16⟩

/-- MSH_POOLSTS.FREE. -/
abbrev MSH_POOLSTS_FREE : Fld := ⟨0x32408, 14, 0⟩

/-- MSH_ENGLOAD. -/
def rMSH_ENGLOAD : Reg :=
  ⟨0x3240C, 0x32400, 0x4, 4, 0x0, 1, [⟨31, 0, .ro, 0, .any⟩]⟩

/-- MSH_ENGLOAD.V. -/
abbrev MSH_ENGLOAD (x : Nat) : Fld := ⟨0x3240C + 0x4 * x, 31, 0⟩

/-- MSH_CHIDX. -/
def rMSH_CHIDX : Reg :=
  ⟨0x32420, 0x32400, 0x0, 1, 0x0, 1, [⟨31, 31, .wo, 0, .any⟩, ⟨30, 30, .wo, 0, .any⟩, ⟨29, 29, .wo, 0, .any⟩, ⟨12, 0, .wo, 0, .any⟩]⟩

/-- MSH_CHIDX.WR. -/
abbrev MSH_CHIDX_WR : Fld := ⟨0x32420, 31, 31⟩

/-- MSH_CHIDX.RD. -/
abbrev MSH_CHIDX_RD : Fld := ⟨0x32420, 30, 30⟩

/-- MSH_CHIDX.CLRSTS. -/
abbrev MSH_CHIDX_CLRSTS : Fld := ⟨0x32420, 29, 29⟩

/-- MSH_CHIDX.CH. -/
abbrev MSH_CHIDX_CH : Fld := ⟨0x32420, 12, 0⟩

/-- MSH_CHCFG. -/
def rMSH_CHCFG : Reg :=
  ⟨0x32424, 0x32400, 0x0, 1, 0x0, 1, [⟨31, 31, .rw, 0, .any⟩, ⟨30, 30, .rw, 0, .any⟩, ⟨29, 29, .rw, 0, .any⟩, ⟨28, 28, .rw, 0, .any⟩, ⟨27, 26, .rw, 2, .reserved 0 2⟩, ⟨25, 18, .rw, 0, .any⟩, ⟨17, 17, .rw, 0, .any⟩, ⟨16, 14, .rw, 0, .any⟩, ⟨13, 12, .rw, 0, .reserved 0 1⟩, ⟨10, 8, .rw, 1, .reserved 1 6⟩]⟩

/-- MSH_CHCFG.EN. -/
abbrev MSH_CHCFG_EN : Fld := ⟨0x32424, 31, 31⟩

/-- MSH_CHCFG.DLYCOR. -/
abbrev MSH_CHCFG_DLYCOR : Fld := ⟨0x32424, 30, 30⟩

/-- MSH_CHCFG.SYNCEN. -/
abbrev MSH_CHCFG_SYNCEN : Fld := ⟨0x32424, 29, 29⟩

/-- MSH_CHCFG.SYNCSTART. -/
abbrev MSH_CHCFG_SYNCSTART : Fld := ⟨0x32424, 28, 28⟩

/-- MSH_CHCFG.CLASS. -/
abbrev MSH_CHCFG_CLASS : Fld := ⟨0x32424, 27, 26⟩

/-- MSH_CHCFG.HOLDMAX. -/
abbrev MSH_CHCFG_HOLDMAX : Fld := ⟨0x32424, 25, 18⟩

/-- MSH_CHCFG.FRZEV. -/
abbrev MSH_CHCFG_FRZEV : Fld := ⟨0x32424, 17, 17⟩

/-- MSH_CHCFG.FRZGRP. -/
abbrev MSH_CHCFG_FRZGRP : Fld := ⟨0x32424, 16, 14⟩

/-- MSH_CHCFG.INSEL. -/
abbrev MSH_CHCFG_INSEL : Fld := ⟨0x32424, 13, 12⟩

/-- MSH_CHCFG.LEN. -/
abbrev MSH_CHCFG_LEN : Fld := ⟨0x32424, 10, 8⟩

/-- MSH_CHIN. -/
def rMSH_CHIN : Reg :=
  ⟨0x32428, 0x32400, 0x0, 1, 0x0, 1, [⟨16, 0, .rw, 0, .any⟩]⟩

/-- MSH_CHIN.EP. -/
abbrev MSH_CHIN_EP : Fld := ⟨0x32428, 16, 0⟩

/-- MSH_CHPER. -/
def rMSH_CHPER : Reg :=
  ⟨0x3242C, 0x32400, 0x0, 1, 0x0, 1, [⟨29, 0, .rw, 160, .any⟩]⟩

/-- MSH_CHPER.P. -/
abbrev MSH_CHPER_P : Fld := ⟨0x3242C, 29, 0⟩

/-- MSH_CHSTG. -/
def rMSH_CHSTG : Reg :=
  ⟨0x32430, 0x32400, 0x4, 6, 0x0, 1, [⟨31, 28, .rw, 0, .reserved 0 4⟩, ⟨27, 22, .rw, 0, .any⟩, ⟨21, 21, .rw, 0, .any⟩, ⟨16, 0, .rw, 0, .any⟩]⟩

/-- MSH_CHSTG.KIND. -/
abbrev MSH_CHSTG_KIND (x : Nat) : Fld := ⟨0x32430 + 0x4 * x, 31, 28⟩

/-- MSH_CHSTG.SHIFT. -/
abbrev MSH_CHSTG_SHIFT (x : Nat) : Fld := ⟨0x32430 + 0x4 * x, 27, 22⟩

/-- MSH_CHSTG.RND. -/
abbrev MSH_CHSTG_RND (x : Nat) : Fld := ⟨0x32430 + 0x4 * x, 21, 21⟩

/-- MSH_CHSTG.PARAM. -/
abbrev MSH_CHSTG_PARAM (x : Nat) : Fld := ⟨0x32430 + 0x4 * x, 16, 0⟩

/-- MSH_CHSTS. -/
def rMSH_CHSTS : Reg :=
  ⟨0x32448, 0x32400, 0x0, 1, 0x0, 1, [⟨28, 26, .ro, 0, .any⟩, ⟨25, 25, .ro, 0, .any⟩, ⟨24, 24, .ro, 0, .any⟩, ⟨23, 23, .ro, 0, .any⟩, ⟨22, 22, .ro, 0, .any⟩, ⟨21, 21, .ro, 0, .any⟩, ⟨20, 19, .ro, 0, .any⟩, ⟨2, 0, .ro, 0, .any⟩]⟩

/-- MSH_CHSTS.OVFSTAGE. -/
abbrev MSH_CHSTS_OVFSTAGE : Fld := ⟨0x32448, 28, 26⟩

/-- MSH_CHSTS.OVF. -/
abbrev MSH_CHSTS_OVF : Fld := ⟨0x32448, 25, 25⟩

/-- MSH_CHSTS.FADE. -/
abbrev MSH_CHSTS_FADE : Fld := ⟨0x32448, 24, 24⟩

/-- MSH_CHSTS.FROZEN. -/
abbrev MSH_CHSTS_FROZEN : Fld := ⟨0x32448, 23, 23⟩

/-- MSH_CHSTS.LATESYNC. -/
abbrev MSH_CHSTS_LATESYNC : Fld := ⟨0x32448, 22, 22⟩

/-- MSH_CHSTS.LATECMD. -/
abbrev MSH_CHSTS_LATECMD : Fld := ⟨0x32448, 21, 21⟩

/-- MSH_CHSTS.ENGINE. -/
abbrev MSH_CHSTS_ENGINE : Fld := ⟨0x32448, 20, 19⟩

/-- MSH_CHSTS.STATE. -/
abbrev MSH_CHSTS_STATE : Fld := ⟨0x32448, 2, 0⟩

/-- MSH_CHOVFCTLO. -/
def rMSH_CHOVFCTLO : Reg :=
  ⟨0x3244C, 0x32400, 0x0, 1, 0x0, 1, [⟨31, 0, .ro, 0, .any⟩]⟩

/-- MSH_CHOVFCTLO.V. -/
abbrev MSH_CHOVFCTLO : Fld := ⟨0x3244C, 31, 0⟩

/-- MSH_CHOVFCTHI. -/
def rMSH_CHOVFCTHI : Reg :=
  ⟨0x32450, 0x32400, 0x0, 1, 0x0, 1, [⟨31, 0, .ro, 0, .any⟩]⟩

/-- MSH_CHOVFCTHI.V. -/
abbrev MSH_CHOVFCTHI : Fld := ⟨0x32450, 31, 0⟩

/-- MSH_CHDLY. -/
def rMSH_CHDLY : Reg :=
  ⟨0x32454, 0x32400, 0x0, 1, 0x0, 1, [⟨31, 0, .ro, 0, .any⟩]⟩

/-- MSH_CHDLY.V. -/
abbrev MSH_CHDLY : Fld := ⟨0x32454, 31, 0⟩

/-- MSH_CHFILL. -/
def rMSH_CHFILL : Reg :=
  ⟨0x32458, 0x32400, 0x0, 1, 0x0, 1, [⟨30, 0, .ro, 0, .any⟩]⟩

/-- MSH_CHFILL.V. -/
abbrev MSH_CHFILL : Fld := ⟨0x32458, 30, 0⟩

/-- MSH_CHLOAD. -/
def rMSH_CHLOAD : Reg :=
  ⟨0x3245C, 0x32400, 0x0, 1, 0x0, 1, [⟨31, 0, .ro, 0, .any⟩]⟩

/-- MSH_CHLOAD.V. -/
abbrev MSH_CHLOAD : Fld := ⟨0x3245C, 31, 0⟩

/-- MSH_CHSUBST. -/
def rMSH_CHSUBST : Reg :=
  ⟨0x32460, 0x32400, 0x0, 1, 0x0, 1, [⟨31, 0, .ro, 0, .any⟩]⟩

/-- MSH_CHSUBST.V. -/
abbrev MSH_CHSUBST : Fld := ⟨0x32460, 31, 0⟩

/-- MSH_CHRESTART. -/
def rMSH_CHRESTART : Reg :=
  ⟨0x32464, 0x32400, 0x0, 1, 0x0, 1, [⟨31, 0, .ro, 0, .any⟩]⟩

/-- MSH_CHRESTART.V. -/
abbrev MSH_CHRESTART : Fld := ⟨0x32464, 31, 0⟩

/-- MSH_CHCTL. -/
def rMSH_CHCTL : Reg :=
  ⟨0x32470, 0x32400, 0x0, 1, 0x0, 1, [⟨31, 31, .wo, 0, .any⟩, ⟨30, 30, .wo, 0, .any⟩, ⟨29, 29, .wo, 0, .any⟩, ⟨28, 26, .wo, 0, .reserved 0 5⟩, ⟨25, 22, .wo, 0, .reserved 0 10⟩, ⟨21, 13, .wo, 0, .any⟩, ⟨12, 0, .wo, 0, .any⟩]⟩

/-- MSH_CHCTL.SWITCH. -/
abbrev MSH_CHCTL_SWITCH : Fld := ⟨0x32470, 31, 31⟩

/-- MSH_CHCTL.THAW. -/
abbrev MSH_CHCTL_THAW : Fld := ⟨0x32470, 30, 30⟩

/-- MSH_CHCTL.FREEZE. -/
abbrev MSH_CHCTL_FREEZE : Fld := ⟨0x32470, 29, 29⟩

/-- MSH_CHCTL.STAGE. -/
abbrev MSH_CHCTL_STAGE : Fld := ⟨0x32470, 28, 26⟩

/-- MSH_CHCTL.XF. -/
abbrev MSH_CHCTL_XF : Fld := ⟨0x32470, 25, 22⟩

/-- MSH_CHCTL.SET. -/
abbrev MSH_CHCTL_SET : Fld := ⟨0x32470, 21, 13⟩

/-- MSH_CHCTL.CH. -/
abbrev MSH_CHCTL_CH : Fld := ⟨0x32470, 12, 0⟩

/-- MSH_SYNCCFG. -/
def rMSH_SYNCCFG : Reg :=
  ⟨0x32480, 0x32400, 0x0, 1, 0x0, 1, [⟨1, 1, .rw, 0, .any⟩, ⟨0, 0, .rw, 0, .any⟩]⟩

/-- MSH_SYNCCFG.EVEN. -/
abbrev MSH_SYNCCFG_EVEN : Fld := ⟨0x32480, 1, 1⟩

/-- MSH_SYNCCFG.PINEN. -/
abbrev MSH_SYNCCFG_PINEN : Fld := ⟨0x32480, 0, 0⟩

/-- MSH_SYNCPER. -/
def rMSH_SYNCPER : Reg :=
  ⟨0x32484, 0x32400, 0x0, 1, 0x0, 1, [⟨31, 0, .rw, 0, .any⟩]⟩

/-- MSH_SYNCPER.PER. -/
abbrev MSH_SYNCPER_PER : Fld := ⟨0x32484, 31, 0⟩

/-- MSH_SYNCCTL. -/
def rMSH_SYNCCTL : Reg :=
  ⟨0x32488, 0x32400, 0x0, 1, 0x0, 1, [⟨2, 2, .wo, 0, .any⟩, ⟨1, 1, .wo, 0, .any⟩, ⟨0, 0, .wo, 0, .any⟩]⟩

/-- MSH_SYNCCTL.DISARM. -/
abbrev MSH_SYNCCTL_DISARM : Fld := ⟨0x32488, 2, 2⟩

/-- MSH_SYNCCTL.ARM. -/
abbrev MSH_SYNCCTL_ARM : Fld := ⟨0x32488, 1, 1⟩

/-- MSH_SYNCCTL.NOW. -/
abbrev MSH_SYNCCTL_NOW : Fld := ⟨0x32488, 0, 0⟩

/-- MSH_SYNCCTLO. -/
def rMSH_SYNCCTLO : Reg :=
  ⟨0x3248C, 0x32400, 0x0, 1, 0x0, 1, [⟨31, 0, .rw, 0, .any⟩]⟩

/-- MSH_SYNCCTLO.V. -/
abbrev MSH_SYNCCTLO : Fld := ⟨0x3248C, 31, 0⟩

/-- MSH_SYNCCTHI. -/
def rMSH_SYNCCTHI : Reg :=
  ⟨0x32490, 0x32400, 0x0, 1, 0x0, 1, [⟨31, 0, .rw, 0, .any⟩]⟩

/-- MSH_SYNCCTHI.V. -/
abbrev MSH_SYNCCTHI : Fld := ⟨0x32490, 31, 0⟩

/-- MSH_SYNCSTS. -/
def rMSH_SYNCSTS : Reg :=
  ⟨0x32494, 0x32400, 0x0, 1, 0x0, 1, [⟨31, 2, .ro, 0, .any⟩, ⟨1, 1, .w1c, 0, .any⟩, ⟨0, 0, .ro, 0, .any⟩]⟩

/-- MSH_SYNCSTS.LATE. -/
abbrev MSH_SYNCSTS_LATE : Fld := ⟨0x32494, 1, 1⟩

/-- MSH_SYNCSTS.ARMED. -/
abbrev MSH_SYNCSTS_ARMED : Fld := ⟨0x32494, 0, 0⟩

/-- MSH_SYNCLASTLO. -/
def rMSH_SYNCLASTLO : Reg :=
  ⟨0x32498, 0x32400, 0x0, 1, 0x0, 1, [⟨31, 0, .ro, 0, .any⟩]⟩

/-- MSH_SYNCLASTLO.V. -/
abbrev MSH_SYNCLASTLO : Fld := ⟨0x32498, 31, 0⟩

/-- MSH_SYNCLASTHI. -/
def rMSH_SYNCLASTHI : Reg :=
  ⟨0x3249C, 0x32400, 0x0, 1, 0x0, 1, [⟨31, 0, .ro, 0, .any⟩]⟩

/-- MSH_SYNCLASTHI.V. -/
abbrev MSH_SYNCLASTHI : Fld := ⟨0x3249C, 31, 0⟩

/-- MSH_ENGOVER. -/
def rMSH_ENGOVER : Reg :=
  ⟨0x324A0, 0x32400, 0x0, 1, 0x0, 1, [⟨31, 0, .ro, 0, .any⟩]⟩

/-- MSH_ENGOVER.V. -/
abbrev MSH_ENGOVER : Fld := ⟨0x324A0, 31, 0⟩

/-- MSH_TSCLAMP. -/
def rMSH_TSCLAMP : Reg :=
  ⟨0x324A4, 0x32400, 0x0, 1, 0x0, 1, [⟨31, 0, .ro, 0, .any⟩]⟩

/-- MSH_TSCLAMP.V. -/
abbrev MSH_TSCLAMP : Fld := ⟨0x324A4, 31, 0⟩

/-- MSH_SYNCLATE. -/
def rMSH_SYNCLATE : Reg :=
  ⟨0x324A8, 0x32400, 0x0, 1, 0x0, 1, [⟨31, 0, .ro, 0, .any⟩]⟩

/-- MSH_SYNCLATE.V. -/
abbrev MSH_SYNCLATE : Fld := ⟨0x324A8, 31, 0⟩

/-- MSH_CLR. -/
def rMSH_CLR : Reg :=
  ⟨0x324AC, 0x32400, 0x0, 1, 0x0, 1, [⟨0, 0, .wo, 0, .any⟩]⟩

/-- MSH_CLR.CLR. -/
abbrev MSH_CLR_CLR : Fld := ⟨0x324AC, 0, 0⟩

/-- MSH_CSIDX. -/
def rMSH_CSIDX : Reg :=
  ⟨0x32500, 0x32400, 0x0, 1, 0x0, 1, [⟨31, 31, .wo, 0, .any⟩, ⟨30, 30, .wo, 0, .any⟩, ⟨29, 29, .wo, 0, .any⟩, ⟨8, 0, .wo, 0, .any⟩]⟩

/-- MSH_CSIDX.WR. -/
abbrev MSH_CSIDX_WR : Fld := ⟨0x32500, 31, 31⟩

/-- MSH_CSIDX.RD. -/
abbrev MSH_CSIDX_RD : Fld := ⟨0x32500, 30, 30⟩

/-- MSH_CSIDX.REL. -/
abbrev MSH_CSIDX_REL : Fld := ⟨0x32500, 29, 29⟩

/-- MSH_CSIDX.SET. -/
abbrev MSH_CSIDX_SET : Fld := ⟨0x32500, 8, 0⟩

/-- MSH_CSSTS. -/
def rMSH_CSSTS : Reg :=
  ⟨0x32504, 0x32400, 0x0, 1, 0x0, 1, [⟨1, 1, .ro, 0, .any⟩, ⟨0, 0, .ro, 0, .any⟩]⟩

/-- MSH_CSSTS.INUSE. -/
abbrev MSH_CSSTS_INUSE : Fld := ⟨0x32504, 1, 1⟩

/-- MSH_CSSTS.DEFINED. -/
abbrev MSH_CSSTS_DEFINED : Fld := ⟨0x32504, 0, 0⟩

/-- MSH_CSD. -/
def rMSH_CSD : Reg :=
  ⟨0x32510, 0x32400, 0x4, 68, 0x0, 1, [⟨31, 0, .rw, 0, .any⟩]⟩

/-- MSH_CSD.V. -/
abbrev MSH_CSD (x : Nat) : Fld := ⟨0x32510 + 0x4 * x, 31, 0⟩

/-- The registers of MSH. -/
def regsMSH : List Reg :=
  [rMSH_CMTRSN, rMSH_POOLSTS, rMSH_ENGLOAD, rMSH_CHIDX, rMSH_CHCFG, rMSH_CHIN, rMSH_CHPER, rMSH_CHSTG, rMSH_CHSTS, rMSH_CHOVFCTLO, rMSH_CHOVFCTHI, rMSH_CHDLY, rMSH_CHFILL, rMSH_CHLOAD, rMSH_CHSUBST, rMSH_CHRESTART, rMSH_CHCTL, rMSH_SYNCCFG, rMSH_SYNCPER, rMSH_SYNCCTL] ++
  [rMSH_SYNCCTLO, rMSH_SYNCCTHI, rMSH_SYNCSTS, rMSH_SYNCLASTLO, rMSH_SYNCLASTHI, rMSH_ENGOVER, rMSH_TSCLAMP, rMSH_SYNCLATE, rMSH_CLR, rMSH_CSIDX, rMSH_CSSTS, rMSH_CSD]

/-! RCG (spec chapter 11). -/

/-- RCG_ERRSTS (R10). -/
abbrev RCG_ERRSTS : Nat := 0x2E000

/-- RCG_CFG. -/
def rRCG_CFG : Reg :=
  ⟨0x2E004, 0x2E000, 0x0, 1, 0x0, 1, [⟨15, 0, .rw, 100, .range 1 10000⟩]⟩

/-- RCG_CFG.EMITLIM. -/
abbrev RCG_CFG_EMITLIM : Fld := ⟨0x2E004, 15, 0⟩

/-- RCG_STS. -/
def rRCG_STS : Reg :=
  ⟨0x2E008, 0x2E000, 0x0, 1, 0x0, 1, [⟨24, 16, .ro, 0, .any⟩, ⟨14, 0, .ro, 0, .any⟩]⟩

/-- RCG_STS.WATCH. -/
abbrev RCG_STS_WATCH : Fld := ⟨0x2E008, 24, 16⟩

/-- RCG_STS.INST. -/
abbrev RCG_STS_INST : Fld := ⟨0x2E008, 14, 0⟩

/-- RCG_MTSTS. -/
def rRCG_MTSTS : Reg :=
  ⟨0x2E00C, 0x2E000, 0x0, 1, 0x0, 1, [⟨22, 16, .ro, 0, .any⟩, ⟨10, 0, .ro, 0, .any⟩]⟩

/-- RCG_MTSTS.WTABS. -/
abbrev RCG_MTSTS_WTABS : Fld := ⟨0x2E00C, 22, 16⟩

/-- RCG_MTSTS.TABS. -/
abbrev RCG_MTSTS_TABS : Fld := ⟨0x2E00C, 10, 0⟩

/-- RCG_MTCTL. -/
def rRCG_MTCTL : Reg :=
  ⟨0x2E010, 0x2E000, 0x0, 1, 0x0, 1, [⟨31, 31, .wo, 0, .any⟩, ⟨30, 30, .wo, 0, .any⟩, ⟨29, 29, .wo, 0, .any⟩, ⟨9, 0, .wo, 0, .any⟩]⟩

/-- RCG_MTCTL.WR. -/
abbrev RCG_MTCTL_WR : Fld := ⟨0x2E010, 31, 31⟩

/-- RCG_MTCTL.RD. -/
abbrev RCG_MTCTL_RD : Fld := ⟨0x2E010, 30, 30⟩

/-- RCG_MTCTL.REL. -/
abbrev RCG_MTCTL_REL : Fld := ⟨0x2E010, 29, 29⟩

/-- RCG_MTCTL.INDEX. -/
abbrev RCG_MTCTL_INDEX : Fld := ⟨0x2E010, 9, 0⟩

/-- RCG_MTRSN. -/
def rRCG_MTRSN : Reg :=
  ⟨0x2E014, 0x2E000, 0x0, 1, 0x0, 1, [⟨7, 0, .ro, 0, .any⟩]⟩

/-- RCG_MTRSN.V. -/
abbrev RCG_MTRSN : Fld := ⟨0x2E014, 7, 0⟩

/-- RCG_MTOFS. -/
def rRCG_MTOFS : Reg :=
  ⟨0x2E018, 0x2E000, 0x0, 1, 0x0, 1, [⟨11, 0, .ro, 0, .any⟩]⟩

/-- RCG_MTOFS.V. -/
abbrev RCG_MTOFS : Fld := ⟨0x2E018, 11, 0⟩

/-- RCG_MTINFO. -/
def rRCG_MTINFO : Reg :=
  ⟨0x2E01C, 0x2E000, 0x0, 1, 0x0, 1, [⟨30, 16, .ro, 0, .any⟩, ⟨0, 0, .ro, 0, .any⟩]⟩

/-- RCG_MTINFO.USERS. -/
abbrev RCG_MTINFO_USERS : Fld := ⟨0x2E01C, 30, 16⟩

/-- RCG_MTINFO.DEFINED. -/
abbrev RCG_MTINFO_DEFINED : Fld := ⟨0x2E01C, 0, 0⟩

/-- RCG_STEPS. -/
def rRCG_STEPS : Reg :=
  ⟨0x2E040, 0x2E000, 0x0, 1, 0x0, 1, [⟨31, 0, .ro, 0, .any⟩]⟩

/-- RCG_STEPS.V. -/
abbrev RCG_STEPS : Fld := ⟨0x2E040, 31, 0⟩

/-- RCG_OVER. -/
def rRCG_OVER : Reg :=
  ⟨0x2E044, 0x2E000, 0x0, 1, 0x0, 1, [⟨31, 0, .ro, 0, .any⟩]⟩

/-- RCG_OVER.V. -/
abbrev RCG_OVER : Fld := ⟨0x2E044, 31, 0⟩

/-- RCG_CASCADE. -/
def rRCG_CASCADE : Reg :=
  ⟨0x2E048, 0x2E000, 0x0, 1, 0x0, 1, [⟨31, 0, .ro, 0, .any⟩]⟩

/-- RCG_CASCADE.V. -/
abbrev RCG_CASCADE : Fld := ⟨0x2E048, 31, 0⟩

/-- RCG_ACTSKIP. -/
def rRCG_ACTSKIP : Reg :=
  ⟨0x2E04C, 0x2E000, 0x0, 1, 0x0, 1, [⟨31, 0, .ro, 0, .any⟩]⟩

/-- RCG_ACTSKIP.V. -/
abbrev RCG_ACTSKIP : Fld := ⟨0x2E04C, 31, 0⟩

/-- RCG_EMITSUP. -/
def rRCG_EMITSUP : Reg :=
  ⟨0x2E050, 0x2E000, 0x0, 1, 0x0, 1, [⟨31, 0, .ro, 0, .any⟩]⟩

/-- RCG_EMITSUP.V. -/
abbrev RCG_EMITSUP : Fld := ⟨0x2E050, 31, 0⟩

/-- RCG_WAKECNT. -/
def rRCG_WAKECNT : Reg :=
  ⟨0x2E054, 0x2E000, 0x0, 1, 0x0, 1, [⟨31, 0, .ro, 0, .any⟩]⟩

/-- RCG_WAKECNT.V. -/
abbrev RCG_WAKECNT : Fld := ⟨0x2E054, 31, 0⟩

/-- RCG_CLR. -/
def rRCG_CLR : Reg :=
  ⟨0x2E058, 0x2E000, 0x0, 1, 0x0, 1, [⟨0, 0, .wo, 0, .any⟩]⟩

/-- RCG_CLR.CLR. -/
abbrev RCG_CLR_CLR : Fld := ⟨0x2E058, 0, 0⟩

/-- RCG_EVOWN. -/
def rRCG_EVOWN : Reg :=
  ⟨0x2E100, 0x2E000, 0x4, 48, 0x0, 1, [⟨31, 31, .rw, 0, .any⟩, ⟨9, 0, .rw, 0, .any⟩]⟩

/-- RCG_EVOWN.ASSIGNED. -/
abbrev RCG_EVOWN_ASSIGNED (x : Nat) : Fld := ⟨0x2E100 + 0x4 * x, 31, 31⟩

/-- RCG_EVOWN.OWNER. -/
abbrev RCG_EVOWN_OWNER (x : Nat) : Fld := ⟨0x2E100 + 0x4 * x, 9, 0⟩

/-- RCG_MTBUF. -/
def rRCG_MTBUF : Reg :=
  ⟨0x2F000, 0x2E000, 0x4, 1024, 0x0, 1, [⟨31, 0, .rw, 0, .any⟩]⟩

/-- RCG_MTBUF.V. -/
abbrev RCG_MTBUF (x : Nat) : Fld := ⟨0x2F000 + 0x4 * x, 31, 0⟩

/-- The registers of RCG. -/
def regsRCG : List Reg :=
  [rRCG_CFG, rRCG_STS, rRCG_MTSTS, rRCG_MTCTL, rRCG_MTRSN, rRCG_MTOFS, rRCG_MTINFO, rRCG_STEPS, rRCG_OVER, rRCG_CASCADE, rRCG_ACTSKIP, rRCG_EMITSUP, rRCG_WAKECNT, rRCG_CLR, rRCG_EVOWN, rRCG_MTBUF]

/-! TEN (spec chapter 12). -/

/-- TEN_ERRSTS (R10). -/
abbrev TEN_ERRSTS : Nat := 0x33000

/-- TEN_STS. -/
def rTEN_STS : Reg :=
  ⟨0x33004, 0x33000, 0x0, 1, 0x0, 1, [⟨28, 16, .ro, 0, .any⟩, ⟨10, 0, .ro, 1, .any⟩]⟩

/-- TEN_STS.LEASES. -/
abbrev TEN_STS_LEASES : Fld := ⟨0x33004, 28, 16⟩

/-- TEN_STS.ACTIVE. -/
abbrev TEN_STS_ACTIVE : Fld := ⟨0x33004, 10, 0⟩

/-- TEN_T0SRATE. -/
def rTEN_T0SRATE : Reg :=
  ⟨0x33008, 0x33000, 0x0, 1, 0x0, 1, [⟨28, 0, .rw, 30000000, .range 0 300000000⟩]⟩

/-- TEN_T0SRATE.V. -/
abbrev TEN_T0SRATE : Fld := ⟨0x33008, 28, 0⟩

/-- TEN_T0BW. -/
def rTEN_T0BW : Reg :=
  ⟨0x3300C, 0x33000, 0x0, 1, 0x0, 1, [⟨23, 0, .rw, 1000000, .range 0 16000000⟩]⟩

/-- TEN_T0BW.V. -/
abbrev TEN_T0BW : Fld := ⟨0x3300C, 23, 0⟩

/-- TEN_WINIDX. -/
def rTEN_WINIDX : Reg :=
  ⟨0x33010, 0x33000, 0x0, 1, 0x0, 1, [⟨31, 31, .wo, 0, .any⟩, ⟨30, 30, .wo, 0, .any⟩, ⟨29, 29, .wo, 0, .any⟩, ⟨18, 16, .wo, 0, .any⟩, ⟨9, 0, .wo, 0, .any⟩]⟩

/-- TEN_WINIDX.WR. -/
abbrev TEN_WINIDX_WR : Fld := ⟨0x33010, 31, 31⟩

/-- TEN_WINIDX.RD. -/
abbrev TEN_WINIDX_RD : Fld := ⟨0x33010, 30, 30⟩

/-- TEN_WINIDX.CLR. -/
abbrev TEN_WINIDX_CLR : Fld := ⟨0x33010, 29, 29⟩

/-- TEN_WINIDX.WIN. -/
abbrev TEN_WINIDX_WIN : Fld := ⟨0x33010, 18, 16⟩

/-- TEN_WINIDX.TID. -/
abbrev TEN_WINIDX_TID : Fld := ⟨0x33010, 9, 0⟩

/-- TEN_WINBASELO. -/
def rTEN_WINBASELO : Reg :=
  ⟨0x33014, 0x33000, 0x0, 1, 0x0, 1, [⟨31, 12, .rw, 0, .any⟩]⟩

/-- TEN_WINBASELO.V. -/
abbrev TEN_WINBASELO : Fld := ⟨0x33014, 31, 12⟩

/-- TEN_WINBASEHI. -/
def rTEN_WINBASEHI : Reg :=
  ⟨0x33018, 0x33000, 0x0, 1, 0x0, 1, [⟨31, 0, .rw, 0, .any⟩]⟩

/-- TEN_WINBASEHI.V. -/
abbrev TEN_WINBASEHI : Fld := ⟨0x33018, 31, 0⟩

/-- TEN_WINLEN. -/
def rTEN_WINLEN : Reg :=
  ⟨0x3301C, 0x33000, 0x0, 1, 0x0, 1, [⟨27, 0, .rw, 0, .any⟩]⟩

/-- TEN_WINLEN.V. -/
abbrev TEN_WINLEN : Fld := ⟨0x3301C, 27, 0⟩

/-- TEN_WINATTR. -/
def rTEN_WINATTR : Reg :=
  ⟨0x33020, 0x33000, 0x0, 1, 0x0, 1, [⟨2, 2, .ro, 0, .any⟩, ⟨1, 1, .rw, 0, .any⟩, ⟨0, 0, .rw, 0, .any⟩]⟩

/-- TEN_WINATTR.DEFINED. -/
abbrev TEN_WINATTR_DEFINED : Fld := ⟨0x33020, 2, 2⟩

/-- TEN_WINATTR.W. -/
abbrev TEN_WINATTR_W : Fld := ⟨0x33020, 1, 1⟩

/-- TEN_WINATTR.R. -/
abbrev TEN_WINATTR_R : Fld := ⟨0x33020, 0, 0⟩

/-- TEN_T0CNT. -/
def rTEN_T0CNT : Reg :=
  ⟨0x33024, 0x33000, 0x0, 1, 0x0, 1, [⟨31, 16, .rw, 2048, .range 0 16384⟩, ⟨15, 0, .rw, 4096, .range 0 32768⟩]⟩

/-- TEN_T0CNT.INST. -/
abbrev TEN_T0CNT_INST : Fld := ⟨0x33024, 31, 16⟩

/-- TEN_T0CNT.ENTRIES. -/
abbrev TEN_T0CNT_ENTRIES : Fld := ⟨0x33024, 15, 0⟩

/-- TEN_T0CNT2. -/
def rTEN_T0CNT2 : Reg :=
  ⟨0x33028, 0x33000, 0x0, 1, 0x0, 1, [⟨31, 16, .rw, 256, .range 0 4096⟩, ⟨15, 0, .rw, 1024, .range 0 16384⟩]⟩

/-- TEN_T0CNT2.LEASES. -/
abbrev TEN_T0CNT2_LEASES : Fld := ⟨0x33028, 31, 16⟩

/-- TEN_T0CNT2.STREAMS. -/
abbrev TEN_T0CNT2_STREAMS : Fld := ⟨0x33028, 15, 0⟩

/-- TEN_T0CEIL. -/
def rTEN_T0CEIL : Reg :=
  ⟨0x3302C, 0x33000, 0x0, 1, 0x0, 1, [⟨1, 0, .rw, 0, .reserved 0 2⟩]⟩

/-- TEN_T0CEIL.V. -/
abbrev TEN_T0CEIL : Fld := ⟨0x3302C, 1, 0⟩

/-- TEN_QREFUSE. -/
def rTEN_QREFUSE : Reg :=
  ⟨0x33030, 0x33000, 0x0, 1, 0x0, 1, [⟨31, 0, .ro, 0, .any⟩]⟩

/-- TEN_QREFUSE.V. -/
abbrev TEN_QREFUSE : Fld := ⟨0x33030, 31, 0⟩

/-- TEN_SRDROP. -/
def rTEN_SRDROP : Reg :=
  ⟨0x33034, 0x33000, 0x0, 1, 0x0, 1, [⟨31, 0, .ro, 0, .any⟩]⟩

/-- TEN_SRDROP.V. -/
abbrev TEN_SRDROP : Fld := ⟨0x33034, 31, 0⟩

/-- TEN_WINVIOL. -/
def rTEN_WINVIOL : Reg :=
  ⟨0x33038, 0x33000, 0x0, 1, 0x0, 1, [⟨31, 0, .ro, 0, .any⟩]⟩

/-- TEN_WINVIOL.V. -/
abbrev TEN_WINVIOL : Fld := ⟨0x33038, 31, 0⟩

/-- TEN_LEASEEND. -/
def rTEN_LEASEEND : Reg :=
  ⟨0x3303C, 0x33000, 0x0, 1, 0x0, 1, [⟨31, 0, .ro, 0, .any⟩]⟩

/-- TEN_LEASEEND.V. -/
abbrev TEN_LEASEEND : Fld := ⟨0x3303C, 31, 0⟩

/-- TEN_CLR. -/
def rTEN_CLR : Reg :=
  ⟨0x33040, 0x33000, 0x0, 1, 0x0, 1, [⟨0, 0, .wo, 0, .any⟩]⟩

/-- TEN_CLR.CLR. -/
abbrev TEN_CLR_CLR : Fld := ⟨0x33040, 0, 0⟩

/-- The registers of TEN. -/
def regsTEN : List Reg :=
  [rTEN_STS, rTEN_T0SRATE, rTEN_T0BW, rTEN_WINIDX, rTEN_WINBASELO, rTEN_WINBASEHI, rTEN_WINLEN, rTEN_WINATTR, rTEN_T0CNT, rTEN_T0CNT2, rTEN_T0CEIL, rTEN_QREFUSE, rTEN_SRDROP, rTEN_WINVIOL, rTEN_LEASEEND, rTEN_CLR]

/-! RNG (spec chapter 13). -/

/-- RNG_ERRSTS (R10). -/
abbrev RNG_ERRSTS : Nat := 0x33400

/-- RNG_IDX. -/
def rRNG_IDX : Reg :=
  ⟨0x33410, 0x33400, 0x0, 1, 0x0, 1, [⟨31, 31, .wo, 0, .any⟩, ⟨30, 30, .wo, 0, .any⟩, ⟨29, 29, .wo, 0, .any⟩, ⟨17, 16, .wo, 0, .reserved 0 2⟩, ⟨9, 0, .wo, 0, .any⟩]⟩

/-- RNG_IDX.WR. -/
abbrev RNG_IDX_WR : Fld := ⟨0x33410, 31, 31⟩

/-- RNG_IDX.RD. -/
abbrev RNG_IDX_RD : Fld := ⟨0x33410, 30, 30⟩

/-- RNG_IDX.STOP. -/
abbrev RNG_IDX_STOP : Fld := ⟨0x33410, 29, 29⟩

/-- RNG_IDX.RING. -/
abbrev RNG_IDX_RING : Fld := ⟨0x33410, 17, 16⟩

/-- RNG_IDX.TID. -/
abbrev RNG_IDX_TID : Fld := ⟨0x33410, 9, 0⟩

/-- RNG_BASELO. -/
def rRNG_BASELO : Reg :=
  ⟨0x33414, 0x33400, 0x0, 1, 0x0, 1, [⟨31, 12, .rw, 0, .any⟩]⟩

/-- RNG_BASELO.V. -/
abbrev RNG_BASELO : Fld := ⟨0x33414, 31, 12⟩

/-- RNG_BASEHI. -/
def rRNG_BASEHI : Reg :=
  ⟨0x33418, 0x33400, 0x0, 1, 0x0, 1, [⟨31, 0, .rw, 0, .any⟩]⟩

/-- RNG_BASEHI.V. -/
abbrev RNG_BASEHI : Fld := ⟨0x33418, 31, 0⟩

/-- RNG_ORD. -/
def rRNG_ORD : Reg :=
  ⟨0x3341C, 0x33400, 0x0, 1, 0x0, 1, [⟨4, 0, .rw, 4, .any⟩]⟩

/-- RNG_ORD.V. -/
abbrev RNG_ORD : Fld := ⟨0x3341C, 4, 0⟩

/-- RNG_STS. -/
def rRNG_STS : Reg :=
  ⟨0x33420, 0x33400, 0x0, 1, 0x0, 1, [⟨2, 0, .ro, 0, .any⟩]⟩

/-- RNG_STS.V. -/
abbrev RNG_STS : Fld := ⟨0x33420, 2, 0⟩

/-- RNG_PTR. -/
def rRNG_PTR : Reg :=
  ⟨0x33424, 0x33400, 0x0, 1, 0x0, 1, [⟨31, 16, .ro, 0, .any⟩, ⟨15, 0, .ro, 0, .any⟩]⟩

/-- RNG_PTR.HUB. -/
abbrev RNG_PTR_HUB : Fld := ⟨0x33424, 31, 16⟩

/-- RNG_PTR.HOST. -/
abbrev RNG_PTR_HOST : Fld := ⟨0x33424, 15, 0⟩

/-- RNG_CBUF. -/
def rRNG_CBUF : Reg :=
  ⟨0x33430, 0x33400, 0x0, 1, 0x0, 1, [⟨13, 0, .ro, 0, .any⟩]⟩

/-- RNG_CBUF.V. -/
abbrev RNG_CBUF : Fld := ⟨0x33430, 13, 0⟩

/-- RNG_DBERR. -/
def rRNG_DBERR : Reg :=
  ⟨0x33440, 0x33400, 0x0, 1, 0x0, 1, [⟨31, 0, .ro, 0, .any⟩]⟩

/-- RNG_DBERR.V. -/
abbrev RNG_DBERR : Fld := ⟨0x33440, 31, 0⟩

/-- RNG_DMARETRY. -/
def rRNG_DMARETRY : Reg :=
  ⟨0x33444, 0x33400, 0x0, 1, 0x0, 1, [⟨31, 0, .ro, 0, .any⟩]⟩

/-- RNG_DMARETRY.V. -/
abbrev RNG_DMARETRY : Fld := ⟨0x33444, 31, 0⟩

/-- RNG_DMAFAIL. -/
def rRNG_DMAFAIL : Reg :=
  ⟨0x33448, 0x33400, 0x0, 1, 0x0, 1, [⟨31, 0, .ro, 0, .any⟩]⟩

/-- RNG_DMAFAIL.V. -/
abbrev RNG_DMAFAIL : Fld := ⟨0x33448, 31, 0⟩

/-- RNG_VOIDS. -/
def rRNG_VOIDS : Reg :=
  ⟨0x3344C, 0x33400, 0x0, 1, 0x0, 1, [⟨31, 0, .ro, 0, .any⟩]⟩

/-- RNG_VOIDS.V. -/
abbrev RNG_VOIDS : Fld := ⟨0x3344C, 31, 0⟩

/-- RNG_CASKLOST. -/
def rRNG_CASKLOST : Reg :=
  ⟨0x33450, 0x33400, 0x0, 1, 0x0, 1, [⟨31, 0, .ro, 0, .any⟩]⟩

/-- RNG_CASKLOST.V. -/
abbrev RNG_CASKLOST : Fld := ⟨0x33450, 31, 0⟩

/-- RNG_EVLOST. -/
def rRNG_EVLOST : Reg :=
  ⟨0x33454, 0x33400, 0x0, 1, 0x0, 1, [⟨31, 0, .ro, 0, .any⟩]⟩

/-- RNG_EVLOST.V. -/
abbrev RNG_EVLOST : Fld := ⟨0x33454, 31, 0⟩

/-- RNG_CASKS. -/
def rRNG_CASKS : Reg :=
  ⟨0x33458, 0x33400, 0x0, 1, 0x0, 1, [⟨31, 0, .ro, 0, .any⟩]⟩

/-- RNG_CASKS.V. -/
abbrev RNG_CASKS : Fld := ⟨0x33458, 31, 0⟩

/-- RNG_CLR. -/
def rRNG_CLR : Reg :=
  ⟨0x3345C, 0x33400, 0x0, 1, 0x0, 1, [⟨0, 0, .wo, 0, .any⟩]⟩

/-- RNG_CLR.CLR. -/
abbrev RNG_CLR_CLR : Fld := ⟨0x3345C, 0, 0⟩

/-- The registers of RNG. -/
def regsRNG : List Reg :=
  [rRNG_IDX, rRNG_BASELO, rRNG_BASEHI, rRNG_ORD, rRNG_STS, rRNG_PTR, rRNG_CBUF, rRNG_DBERR, rRNG_DMARETRY, rRNG_DMAFAIL, rRNG_VOIDS, rRNG_CASKLOST, rRNG_EVLOST, rRNG_CASKS, rRNG_CLR]

/-! BND (spec chapter 15). -/

/-- BND_ERRSTS (R10). -/
abbrev BND_ERRSTS : Nat := 0x31800

/-- BND_PCFG. -/
def rBND_PCFG : Reg :=
  ⟨0x31900, 0x31800, 0x100, 4, 0x0, 1, [⟨4, 4, .rw, 0, .any⟩, ⟨3, 3, .rw, 0, .any⟩, ⟨2, 1, .rw, 0, .reserved 0 1⟩, ⟨0, 0, .rw, 0, .any⟩]⟩

/-- BND_PCFG.SINGLE. -/
abbrev BND_PCFG_SINGLE (x : Nat) : Fld := ⟨0x31900 + 0x100 * x, 4, 4⟩

/-- BND_PCFG.WORKLANE. -/
abbrev BND_PCFG_WORKLANE (x : Nat) : Fld := ⟨0x31900 + 0x100 * x, 3, 3⟩

/-- BND_PCFG.MODE. -/
abbrev BND_PCFG_MODE (x : Nat) : Fld := ⟨0x31900 + 0x100 * x, 2, 1⟩

/-- BND_PCFG.EN. -/
abbrev BND_PCFG_EN (x : Nat) : Fld := ⟨0x31900 + 0x100 * x, 0, 0⟩

/-- BND_PSTS. -/
def rBND_PSTS : Reg :=
  ⟨0x31904, 0x31800, 0x100, 4, 0x0, 1, [⟨26, 16, .ro, 0, .any⟩, ⟨9, 9, .ro, 0, .any⟩, ⟨8, 8, .ro, 0, .any⟩, ⟨7, 6, .ro, 0, .any⟩, ⟨5, 4, .ro, 0, .any⟩, ⟨2, 0, .ro, 0, .any⟩]⟩

/-- BND_PSTS.UNACK. -/
abbrev BND_PSTS_UNACK (x : Nat) : Fld := ⟨0x31904 + 0x100 * x, 26, 16⟩

/-- BND_PSTS.SHEDONE. -/
abbrev BND_PSTS_SHEDONE (x : Nat) : Fld := ⟨0x31904 + 0x100 * x, 9, 9⟩

/-- BND_PSTS.DEGRADED. -/
abbrev BND_PSTS_DEGRADED (x : Nat) : Fld := ⟨0x31904 + 0x100 * x, 8, 8⟩

/-- BND_PSTS.TRAINED. -/
abbrev BND_PSTS_TRAINED (x : Nat) : Fld := ⟨0x31904 + 0x100 * x, 7, 6⟩

/-- BND_PSTS.CARRY. -/
abbrev BND_PSTS_CARRY (x : Nat) : Fld := ⟨0x31904 + 0x100 * x, 5, 4⟩

/-- BND_PSTS.STATE. -/
abbrev BND_PSTS_STATE (x : Nat) : Fld := ⟨0x31904 + 0x100 * x, 2, 0⟩

/-- BND_PCLR. -/
def rBND_PCLR : Reg :=
  ⟨0x31908, 0x31800, 0x100, 4, 0x0, 1, [⟨0, 0, .wo, 0, .any⟩]⟩

/-- BND_PCLR.CLR. -/
abbrev BND_PCLR_CLR (x : Nat) : Fld := ⟨0x31908 + 0x100 * x, 0, 0⟩

/-- BND_PFLITTX. -/
def rBND_PFLITTX : Reg :=
  ⟨0x31910, 0x31800, 0x100, 4, 0x0, 1, [⟨31, 0, .ro, 0, .any⟩]⟩

/-- BND_PFLITTX.V. -/
abbrev BND_PFLITTX (x : Nat) : Fld := ⟨0x31910 + 0x100 * x, 31, 0⟩

/-- BND_PFLITRX. -/
def rBND_PFLITRX : Reg :=
  ⟨0x31914, 0x31800, 0x100, 4, 0x0, 1, [⟨31, 0, .ro, 0, .any⟩]⟩

/-- BND_PFLITRX.V. -/
abbrev BND_PFLITRX (x : Nat) : Fld := ⟨0x31914 + 0x100 * x, 31, 0⟩

/-- BND_PFECCORR. -/
def rBND_PFECCORR : Reg :=
  ⟨0x31918, 0x31800, 0x100, 4, 0x0, 1, [⟨31, 0, .ro, 0, .any⟩]⟩

/-- BND_PFECCORR.V. -/
abbrev BND_PFECCORR (x : Nat) : Fld := ⟨0x31918 + 0x100 * x, 31, 0⟩

/-- BND_PFECUNC. -/
def rBND_PFECUNC : Reg :=
  ⟨0x3191C, 0x31800, 0x100, 4, 0x0, 1, [⟨31, 0, .ro, 0, .any⟩]⟩

/-- BND_PFECUNC.V. -/
abbrev BND_PFECUNC (x : Nat) : Fld := ⟨0x3191C + 0x100 * x, 31, 0⟩

/-- BND_PCRCERR. -/
def rBND_PCRCERR : Reg :=
  ⟨0x31920, 0x31800, 0x100, 4, 0x0, 1, [⟨31, 0, .ro, 0, .any⟩]⟩

/-- BND_PCRCERR.V. -/
abbrev BND_PCRCERR (x : Nat) : Fld := ⟨0x31920 + 0x100 * x, 31, 0⟩

/-- BND_PREPLAY. -/
def rBND_PREPLAY : Reg :=
  ⟨0x31924, 0x31800, 0x100, 4, 0x0, 1, [⟨31, 0, .ro, 0, .any⟩]⟩

/-- BND_PREPLAY.V. -/
abbrev BND_PREPLAY (x : Nat) : Fld := ⟨0x31924 + 0x100 * x, 31, 0⟩

/-- BND_PLASTING. -/
def rBND_PLASTING : Reg :=
  ⟨0x31928, 0x31800, 0x100, 4, 0x0, 1, [⟨31, 0, .ro, 0, .any⟩]⟩

/-- BND_PLASTING.V. -/
abbrev BND_PLASTING (x : Nat) : Fld := ⟨0x31928 + 0x100 * x, 31, 0⟩

/-- BND_PFAILOVER. -/
def rBND_PFAILOVER : Reg :=
  ⟨0x3192C, 0x31800, 0x100, 4, 0x0, 1, [⟨31, 0, .ro, 0, .any⟩]⟩

/-- BND_PFAILOVER.V. -/
abbrev BND_PFAILOVER (x : Nat) : Fld := ⟨0x3192C + 0x100 * x, 31, 0⟩

/-- BND_PLANEDROP. -/
def rBND_PLANEDROP : Reg :=
  ⟨0x31930, 0x31800, 0x100, 4, 0x0, 1, [⟨31, 0, .ro, 0, .any⟩]⟩

/-- BND_PLANEDROP.V. -/
abbrev BND_PLANEDROP (x : Nat) : Fld := ⟨0x31930 + 0x100 * x, 31, 0⟩

/-- BND_PLINKDOWN. -/
def rBND_PLINKDOWN : Reg :=
  ⟨0x31934, 0x31800, 0x100, 4, 0x0, 1, [⟨31, 0, .ro, 0, .any⟩]⟩

/-- BND_PLINKDOWN.V. -/
abbrev BND_PLINKDOWN (x : Nat) : Fld := ⟨0x31934 + 0x100 * x, 31, 0⟩

/-- BND_PTRAINFAIL. -/
def rBND_PTRAINFAIL : Reg :=
  ⟨0x31938, 0x31800, 0x100, 4, 0x0, 1, [⟨31, 0, .ro, 0, .any⟩]⟩

/-- BND_PTRAINFAIL.V. -/
abbrev BND_PTRAINFAIL (x : Nat) : Fld := ⟨0x31938 + 0x100 * x, 31, 0⟩

/-- BND_PCREDSTALL. -/
def rBND_PCREDSTALL : Reg :=
  ⟨0x3193C, 0x31800, 0x100, 4, 0x0, 1, [⟨31, 0, .ro, 0, .any⟩]⟩

/-- BND_PCREDSTALL.V. -/
abbrev BND_PCREDSTALL (x : Nat) : Fld := ⟨0x3193C + 0x100 * x, 31, 0⟩

/-- BND_PFMTERR. -/
def rBND_PFMTERR : Reg :=
  ⟨0x31940, 0x31800, 0x100, 4, 0x0, 1, [⟨31, 0, .ro, 0, .any⟩]⟩

/-- BND_PFMTERR.V. -/
abbrev BND_PFMTERR (x : Nat) : Fld := ⟨0x31940 + 0x100 * x, 31, 0⟩

/-- BND_PUNKCLASS. -/
def rBND_PUNKCLASS : Reg :=
  ⟨0x31944, 0x31800, 0x100, 4, 0x0, 1, [⟨31, 0, .ro, 0, .any⟩]⟩

/-- BND_PUNKCLASS.V. -/
abbrev BND_PUNKCLASS (x : Nat) : Fld := ⟨0x31944 + 0x100 * x, 31, 0⟩

/-- BND_PREJTX. -/
def rBND_PREJTX : Reg :=
  ⟨0x31948, 0x31800, 0x100, 4, 0x0, 1, [⟨31, 0, .ro, 0, .any⟩]⟩

/-- BND_PREJTX.V. -/
abbrev BND_PREJTX (x : Nat) : Fld := ⟨0x31948 + 0x100 * x, 31, 0⟩

/-- BND_PREJRX. -/
def rBND_PREJRX : Reg :=
  ⟨0x3194C, 0x31800, 0x100, 4, 0x0, 1, [⟨31, 0, .ro, 0, .any⟩]⟩

/-- BND_PREJRX.V. -/
abbrev BND_PREJRX (x : Nat) : Fld := ⟨0x3194C + 0x100 * x, 31, 0⟩

/-- BND_PNOROUTE. -/
def rBND_PNOROUTE : Reg :=
  ⟨0x31950, 0x31800, 0x100, 4, 0x0, 1, [⟨31, 0, .ro, 0, .any⟩]⟩

/-- BND_PNOROUTE.V. -/
abbrev BND_PNOROUTE (x : Nat) : Fld := ⟨0x31950 + 0x100 * x, 31, 0⟩

/-- BND_PDUPCASK. -/
def rBND_PDUPCASK : Reg :=
  ⟨0x31954, 0x31800, 0x100, 4, 0x0, 1, [⟨31, 0, .ro, 0, .any⟩]⟩

/-- BND_PDUPCASK.V. -/
abbrev BND_PDUPCASK (x : Nat) : Fld := ⟨0x31954 + 0x100 * x, 31, 0⟩

/-- BND_PTIMEBAD. -/
def rBND_PTIMEBAD : Reg :=
  ⟨0x31958, 0x31800, 0x100, 4, 0x0, 1, [⟨31, 0, .ro, 0, .any⟩]⟩

/-- BND_PTIMEBAD.V. -/
abbrev BND_PTIMEBAD (x : Nat) : Fld := ⟨0x31958 + 0x100 * x, 31, 0⟩

/-- The registers of BND. -/
def regsBND : List Reg :=
  [rBND_PCFG, rBND_PSTS, rBND_PCLR, rBND_PFLITTX, rBND_PFLITRX, rBND_PFECCORR, rBND_PFECUNC, rBND_PCRCERR, rBND_PREPLAY, rBND_PLASTING, rBND_PFAILOVER, rBND_PLANEDROP, rBND_PLINKDOWN, rBND_PTRAINFAIL, rBND_PCREDSTALL, rBND_PFMTERR, rBND_PUNKCLASS, rBND_PREJTX, rBND_PREJRX, rBND_PNOROUTE] ++
  [rBND_PDUPCASK, rBND_PTIMEBAD]

/-! ROL (spec chapter 16). -/

/-- ROL_ERRSTS (R10). -/
abbrev ROL_ERRSTS : Nat := 0x33800

/-- ROL_CFG. -/
def rROL_CFG : Reg :=
  ⟨0x33804, 0x33800, 0x0, 1, 0x0, 1, [⟨8, 8, .rw, 0, .any⟩, ⟨7, 0, .rw, 0, .any⟩]⟩

/-- ROL_CFG.RSDENY. -/
abbrev ROL_CFG_RSDENY : Fld := ⟨0x33804, 8, 8⟩

/-- ROL_CFG.RANK. -/
abbrev ROL_CFG_RANK : Fld := ⟨0x33804, 7, 0⟩

/-- ROL_HOLD. -/
def rROL_HOLD : Reg :=
  ⟨0x33808, 0x33800, 0x0, 1, 0x0, 1, [⟨29, 16, .rw, 500, .range 2 10000⟩, ⟨9, 0, .rw, 20, .range 1 1000⟩]⟩

/-- ROL_HOLD.RETRYHOLD. -/
abbrev ROL_HOLD_RETRYHOLD : Fld := ⟨0x33808, 29, 16⟩

/-- ROL_HOLD.SPLITHOLD. -/
abbrev ROL_HOLD_SPLITHOLD : Fld := ⟨0x33808, 9, 0⟩

/-- ROL_CTL. -/
def rROL_CTL : Reg :=
  ⟨0x3380C, 0x33800, 0x0, 1, 0x0, 1, [⟨1, 1, .wo, 0, .any⟩, ⟨0, 0, .wo, 0, .any⟩]⟩

/-- ROL_CTL.CLR. -/
abbrev ROL_CTL_CLR : Fld := ⟨0x3380C, 1, 1⟩

/-- ROL_CTL.REELECT. -/
abbrev ROL_CTL_REELECT : Fld := ⟨0x3380C, 0, 0⟩

/-- ROL_STS. -/
def rROL_STS : Reg :=
  ⟨0x33810, 0x33800, 0x0, 1, 0x0, 1, [⟨11, 11, .ro, 0, .any⟩, ⟨10, 10, .ro, 0, .any⟩, ⟨9, 9, .ro, 0, .any⟩, ⟨8, 8, .ro, 0, .any⟩, ⟨7, 4, .ro, 0, .any⟩, ⟨2, 0, .ro, 0, .any⟩]⟩

/-- ROL_STS.ELECTING. -/
abbrev ROL_STS_ELECTING : Fld := ⟨0x33810, 11, 11⟩

/-- ROL_STS.CAPABLE. -/
abbrev ROL_STS_CAPABLE : Fld := ⟨0x33810, 10, 10⟩

/-- ROL_STS.QUAR. -/
abbrev ROL_STS_QUAR : Fld := ⟨0x33810, 9, 9⟩

/-- ROL_STS.POSVALID. -/
abbrev ROL_STS_POSVALID : Fld := ⟨0x33810, 8, 8⟩

/-- ROL_STS.POS. -/
abbrev ROL_STS_POS : Fld := ⟨0x33810, 7, 4⟩

/-- ROL_STS.ROLE. -/
abbrev ROL_STS_ROLE : Fld := ⟨0x33810, 2, 0⟩

/-- ROL_EPOCH. -/
def rROL_EPOCH : Reg :=
  ⟨0x33814, 0x33800, 0x0, 1, 0x0, 1, [⟨31, 0, .ro, 0, .any⟩]⟩

/-- ROL_EPOCH.V. -/
abbrev ROL_EPOCH : Fld := ⟨0x33814, 31, 0⟩

/-- ROL_COMBIDLO. -/
def rROL_COMBIDLO : Reg :=
  ⟨0x33818, 0x33800, 0x0, 1, 0x0, 1, [⟨31, 0, .ro, 0, .any⟩]⟩

/-- ROL_COMBIDLO.V. -/
abbrev ROL_COMBIDLO : Fld := ⟨0x33818, 31, 0⟩

/-- ROL_COMBIDHI. -/
def rROL_COMBIDHI : Reg :=
  ⟨0x3381C, 0x33800, 0x0, 1, 0x0, 1, [⟨31, 0, .ro, 0, .any⟩]⟩

/-- ROL_COMBIDHI.V. -/
abbrev ROL_COMBIDHI : Fld := ⟨0x3381C, 31, 0⟩

/-- ROL_HUBIDLO. -/
def rROL_HUBIDLO : Reg :=
  ⟨0x33820, 0x33800, 0x0, 1, 0x0, 1, [⟨31, 0, .ro, 1, .any⟩]⟩

/-- ROL_HUBIDLO.V. -/
abbrev ROL_HUBIDLO : Fld := ⟨0x33820, 31, 0⟩

/-- ROL_HUBIDHI. -/
def rROL_HUBIDHI : Reg :=
  ⟨0x33824, 0x33800, 0x0, 1, 0x0, 1, [⟨31, 0, .ro, 0, .any⟩]⟩

/-- ROL_HUBIDHI.V. -/
abbrev ROL_HUBIDHI : Fld := ⟨0x33824, 31, 0⟩

/-- ROL_BOOTCNT. -/
def rROL_BOOTCNT : Reg :=
  ⟨0x33828, 0x33800, 0x0, 1, 0x0, 1, [⟨31, 0, .ro, 0, .any⟩]⟩

/-- ROL_BOOTCNT.V. -/
abbrev ROL_BOOTCNT : Fld := ⟨0x33828, 31, 0⟩

/-- ROL_GEN. -/
def rROL_GEN : Reg :=
  ⟨0x3382C, 0x33800, 0x0, 1, 0x0, 1, [⟨31, 0, .ro, 0, .any⟩]⟩

/-- ROL_GEN.V. -/
abbrev ROL_GEN : Fld := ⟨0x3382C, 31, 0⟩

/-- ROL_COMBGEN. -/
def rROL_COMBGEN : Reg :=
  ⟨0x33830, 0x33800, 0x0, 1, 0x0, 1, [⟨31, 0, .ro, 0, .any⟩]⟩

/-- ROL_COMBGEN.V. -/
abbrev ROL_COMBGEN : Fld := ⟨0x33830, 31, 0⟩

/-- ROL_POSMAP. -/
def rROL_POSMAP : Reg :=
  ⟨0x33834, 0x33800, 0x0, 1, 0x0, 1, [⟨31, 16, .ro, 0, .any⟩, ⟨15, 0, .ro, 0, .any⟩]⟩

/-- ROL_POSMAP.QUAR. -/
abbrev ROL_POSMAP_QUAR : Fld := ⟨0x33834, 31, 16⟩

/-- ROL_POSMAP.PRESENT. -/
abbrev ROL_POSMAP_PRESENT : Fld := ⟨0x33834, 15, 0⟩

/-- ROL_NEWBOOT. -/
def rROL_NEWBOOT : Reg :=
  ⟨0x33838, 0x33800, 0x0, 1, 0x0, 1, [⟨15, 0, .w1c, 0, .any⟩]⟩

/-- ROL_NEWBOOT.V. -/
abbrev ROL_NEWBOOT : Fld := ⟨0x33838, 15, 0⟩

/-- ROL_DIRIDX. -/
def rROL_DIRIDX : Reg :=
  ⟨0x33840, 0x33800, 0x0, 1, 0x0, 1, [⟨3, 0, .wo, 0, .any⟩]⟩

/-- ROL_DIRIDX.POS. -/
abbrev ROL_DIRIDX_POS : Fld := ⟨0x33840, 3, 0⟩

/-- ROL_DIRD. -/
def rROL_DIRD : Reg :=
  ⟨0x33844, 0x33800, 0x4, 8, 0x0, 1, [⟨31, 0, .ro, 0, .any⟩]⟩

/-- ROL_DIRD.V. -/
abbrev ROL_DIRD (x : Nat) : Fld := ⟨0x33844 + 0x4 * x, 31, 0⟩

/-- ROL_RSPOS. -/
def rROL_RSPOS : Reg :=
  ⟨0x33870, 0x33800, 0x0, 1, 0x0, 1, [⟨3, 0, .rw, 0, .any⟩]⟩

/-- ROL_RSPOS.V. -/
abbrev ROL_RSPOS : Fld := ⟨0x33870, 3, 0⟩

/-- ROL_RSOFS. -/
def rROL_RSOFS : Reg :=
  ⟨0x33874, 0x33800, 0x0, 1, 0x0, 1, [⟨17, 2, .rw, 0, .any⟩]⟩

/-- ROL_RSOFS.V. -/
abbrev ROL_RSOFS : Fld := ⟨0x33874, 17, 2⟩

/-- ROL_RSDATA. -/
def rROL_RSDATA : Reg :=
  ⟨0x33878, 0x33800, 0x0, 1, 0x0, 1, [⟨31, 0, .rw, 0, .any⟩]⟩

/-- ROL_RSDATA.V. -/
abbrev ROL_RSDATA : Fld := ⟨0x33878, 31, 0⟩

/-- ROL_RSCTL. -/
def rROL_RSCTL : Reg :=
  ⟨0x3387C, 0x33800, 0x0, 1, 0x0, 1, [⟨1, 1, .wo, 0, .any⟩, ⟨0, 0, .wo, 0, .any⟩]⟩

/-- ROL_RSCTL.WR. -/
abbrev ROL_RSCTL_WR : Fld := ⟨0x3387C, 1, 1⟩

/-- ROL_RSCTL.GO. -/
abbrev ROL_RSCTL_GO : Fld := ⟨0x3387C, 0, 0⟩

/-- ROL_RSSTS. -/
def rROL_RSSTS : Reg :=
  ⟨0x33880, 0x33800, 0x0, 1, 0x0, 1, [⟨8, 8, .ro, 0, .any⟩, ⟨7, 0, .ro, 0, .any⟩]⟩

/-- ROL_RSSTS.BUSY. -/
abbrev ROL_RSSTS_BUSY : Fld := ⟨0x33880, 8, 8⟩

/-- ROL_RSSTS.STATUS. -/
abbrev ROL_RSSTS_STATUS : Fld := ⟨0x33880, 7, 0⟩

/-- ROL_ELECTS. -/
def rROL_ELECTS : Reg :=
  ⟨0x33890, 0x33800, 0x0, 1, 0x0, 1, [⟨31, 0, .ro, 0, .any⟩]⟩

/-- ROL_ELECTS.V. -/
abbrev ROL_ELECTS : Fld := ⟨0x33890, 31, 0⟩

/-- ROL_SPLITS. -/
def rROL_SPLITS : Reg :=
  ⟨0x33894, 0x33800, 0x0, 1, 0x0, 1, [⟨31, 0, .ro, 0, .any⟩]⟩

/-- ROL_SPLITS.V. -/
abbrev ROL_SPLITS : Fld := ⟨0x33894, 31, 0⟩

/-- ROL_MERGES. -/
def rROL_MERGES : Reg :=
  ⟨0x33898, 0x33800, 0x0, 1, 0x0, 1, [⟨31, 0, .ro, 0, .any⟩]⟩

/-- ROL_MERGES.V. -/
abbrev ROL_MERGES : Fld := ⟨0x33898, 31, 0⟩

/-- ROL_REFUSED. -/
def rROL_REFUSED : Reg :=
  ⟨0x3389C, 0x33800, 0x0, 1, 0x0, 1, [⟨31, 0, .ro, 0, .any⟩]⟩

/-- ROL_REFUSED.V. -/
abbrev ROL_REFUSED : Fld := ⟨0x3389C, 31, 0⟩

/-- ROL_QUARS. -/
def rROL_QUARS : Reg :=
  ⟨0x338A0, 0x33800, 0x0, 1, 0x0, 1, [⟨31, 0, .ro, 0, .any⟩]⟩

/-- ROL_QUARS.V. -/
abbrev ROL_QUARS : Fld := ⟨0x338A0, 31, 0⟩

/-- ROL_RESUMES. -/
def rROL_RESUMES : Reg :=
  ⟨0x338A4, 0x33800, 0x0, 1, 0x0, 1, [⟨31, 0, .ro, 0, .any⟩]⟩

/-- ROL_RESUMES.V. -/
abbrev ROL_RESUMES : Fld := ⟨0x338A4, 31, 0⟩

/-- ROL_ABANDONS. -/
def rROL_ABANDONS : Reg :=
  ⟨0x338A8, 0x33800, 0x0, 1, 0x0, 1, [⟨31, 0, .ro, 0, .any⟩]⟩

/-- ROL_ABANDONS.V. -/
abbrev ROL_ABANDONS : Fld := ⟨0x338A8, 31, 0⟩

/-- The registers of ROL. -/
def regsROL : List Reg :=
  [rROL_CFG, rROL_HOLD, rROL_CTL, rROL_STS, rROL_EPOCH, rROL_COMBIDLO, rROL_COMBIDHI, rROL_HUBIDLO, rROL_HUBIDHI, rROL_BOOTCNT, rROL_GEN, rROL_COMBGEN, rROL_POSMAP, rROL_NEWBOOT, rROL_DIRIDX, rROL_DIRD, rROL_RSPOS, rROL_RSOFS, rROL_RSDATA, rROL_RSCTL] ++
  [rROL_RSSTS, rROL_ELECTS, rROL_SPLITS, rROL_MERGES, rROL_REFUSED, rROL_QUARS, rROL_RESUMES, rROL_ABANDONS]

/-! ICU (spec chapter 17). -/

/-- ICU_ERRSTS (R10). -/
abbrev ICU_ERRSTS : Nat := 0x33C00

/-- ICU_CFG. -/
def rICU_CFG : Reg :=
  ⟨0x33C04, 0x33C00, 0x0, 1, 0x0, 1, [⟨2, 2, .rw, 0, .any⟩, ⟨1, 0, .rw, 1, .any⟩]⟩

/-- ICU_CFG.GDIS. -/
abbrev ICU_CFG_GDIS : Fld := ⟨0x33C04, 2, 2⟩

/-- ICU_CFG.MODE. -/
abbrev ICU_CFG_MODE : Fld := ⟨0x33C04, 1, 0⟩

/-- ICU_STS. -/
def rICU_STS : Reg :=
  ⟨0x33C08, 0x33C00, 0x0, 1, 0x0, 1, [⟨28, 16, .ro, 0, .any⟩, ⟨12, 0, .ro, 0, .any⟩]⟩

/-- ICU_STS.ACTIVE. -/
abbrev ICU_STS_ACTIVE : Fld := ⟨0x33C08, 28, 16⟩

/-- ICU_STS.PENDING. -/
abbrev ICU_STS_PENDING : Fld := ⟨0x33C08, 12, 0⟩

/-- ICU_SRCIDX. -/
def rICU_SRCIDX : Reg :=
  ⟨0x33C10, 0x33C00, 0x0, 1, 0x0, 1, [⟨31, 31, .wo, 0, .any⟩, ⟨30, 30, .wo, 0, .any⟩, ⟨12, 0, .wo, 0, .range 0 4159⟩]⟩

/-- ICU_SRCIDX.WR. -/
abbrev ICU_SRCIDX_WR : Fld := ⟨0x33C10, 31, 31⟩

/-- ICU_SRCIDX.RD. -/
abbrev ICU_SRCIDX_RD : Fld := ⟨0x33C10, 30, 30⟩

/-- ICU_SRCIDX.SRC. -/
abbrev ICU_SRCIDX_SRC : Fld := ⟨0x33C10, 12, 0⟩

/-- ICU_SRCCFG. -/
def rICU_SRCCFG : Reg :=
  ⟨0x33C14, 0x33C00, 0x0, 1, 0x0, 1, [⟨31, 31, .rw, 0, .any⟩, ⟨25, 25, .rw, 0, .any⟩, ⟨19, 16, .rw, 1, .any⟩, ⟨9, 0, .rw, 0, .any⟩]⟩

/-- ICU_SRCCFG.EN. -/
abbrev ICU_SRCCFG_EN : Fld := ⟨0x33C14, 31, 31⟩

/-- ICU_SRCCFG.REFIRE. -/
abbrev ICU_SRCCFG_REFIRE : Fld := ⟨0x33C14, 25, 25⟩

/-- ICU_SRCCFG.PRIO. -/
abbrev ICU_SRCCFG_PRIO : Fld := ⟨0x33C14, 19, 16⟩

/-- ICU_SRCCFG.CNT. -/
abbrev ICU_SRCCFG_CNT : Fld := ⟨0x33C14, 9, 0⟩

/-- ICU_SRCTGT. -/
def rICU_SRCTGT : Reg :=
  ⟨0x33C18, 0x33C00, 0x0, 1, 0x0, 1, [⟨31, 0, .rw, 0, .any⟩]⟩

/-- ICU_SRCTGT.V. -/
abbrev ICU_SRCTGT : Fld := ⟨0x33C18, 31, 0⟩

/-- ICU_SRCTIME. -/
def rICU_SRCTIME : Reg :=
  ⟨0x33C1C, 0x33C00, 0x0, 1, 0x0, 1, [⟨21, 0, .rw, 1000, .any⟩]⟩

/-- ICU_SRCTIME.V. -/
abbrev ICU_SRCTIME : Fld := ⟨0x33C1C, 21, 0⟩

/-- ICU_SRCSTS. -/
def rICU_SRCSTS : Reg :=
  ⟨0x33C20, 0x33C00, 0x0, 1, 0x0, 1, [⟨31, 24, .ro, 0, .any⟩, ⟨21, 21, .ro, 0, .any⟩, ⟨20, 16, .ro, 0, .any⟩, ⟨5, 5, .ro, 0, .any⟩, ⟨4, 4, .ro, 0, .any⟩, ⟨3, 3, .ro, 0, .any⟩, ⟨2, 0, .ro, 0, .any⟩]⟩

/-- ICU_SRCSTS.COUNT. -/
abbrev ICU_SRCSTS_COUNT : Fld := ⟨0x33C20, 31, 24⟩

/-- ICU_SRCSTS.ROUTED. -/
abbrev ICU_SRCSTS_ROUTED : Fld := ⟨0x33C20, 21, 21⟩

/-- ICU_SRCSTS.TARGET. -/
abbrev ICU_SRCSTS_TARGET : Fld := ⟨0x33C20, 20, 16⟩

/-- ICU_SRCSTS.FORCED. -/
abbrev ICU_SRCSTS_FORCED : Fld := ⟨0x33C20, 5, 5⟩

/-- ICU_SRCSTS.REPENDL. -/
abbrev ICU_SRCSTS_REPENDL : Fld := ⟨0x33C20, 4, 4⟩

/-- ICU_SRCSTS.LEVEL. -/
abbrev ICU_SRCSTS_LEVEL : Fld := ⟨0x33C20, 3, 3⟩

/-- ICU_SRCSTS.STATE. -/
abbrev ICU_SRCSTS_STATE : Fld := ⟨0x33C20, 2, 0⟩

/-- ICU_HUBLATLO. -/
def rICU_HUBLATLO : Reg :=
  ⟨0x33C30, 0x33C00, 0x0, 1, 0x0, 1, [⟨31, 0, .w1c, 0, .any⟩]⟩

/-- ICU_HUBLATLO.V. -/
abbrev ICU_HUBLATLO : Fld := ⟨0x33C30, 31, 0⟩

/-- ICU_HUBLATHI. -/
def rICU_HUBLATHI : Reg :=
  ⟨0x33C34, 0x33C00, 0x0, 1, 0x0, 1, [⟨15, 0, .w1c, 0, .any⟩, ⟨31, 16, .ro, 0, .any⟩]⟩

/-- ICU_HUBLATHI.V. -/
abbrev ICU_HUBLATHI : Fld := ⟨0x33C34, 15, 0⟩

/-- ICU_HUBSET. -/
def rICU_HUBSET : Reg :=
  ⟨0x33C38, 0x33C00, 0x0, 1, 0x0, 1, [⟨0, 0, .wo, 0, .any⟩]⟩

/-- ICU_HUBSET.SET. -/
abbrev ICU_HUBSET_SET : Fld := ⟨0x33C38, 0, 0⟩

/-- ICU_FORCE. -/
def rICU_FORCE : Reg :=
  ⟨0x33C3C, 0x33C00, 0x0, 1, 0x0, 1, [⟨31, 31, .wo, 0, .any⟩, ⟨30, 30, .wo, 0, .any⟩, ⟨12, 0, .wo, 0, .range 0 4159⟩]⟩

/-- ICU_FORCE.SET. -/
abbrev ICU_FORCE_SET : Fld := ⟨0x33C3C, 31, 31⟩

/-- ICU_FORCE.CLR. -/
abbrev ICU_FORCE_CLR : Fld := ⟨0x33C3C, 30, 30⟩

/-- ICU_FORCE.SRC. -/
abbrev ICU_FORCE_SRC : Fld := ⟨0x33C3C, 12, 0⟩

/-- ICU_TGT. -/
def rICU_TGT : Reg :=
  ⟨0x33C40, 0x33C00, 0x4, 32, 0x0, 1, [⟨11, 8, .ro, 0, .any⟩, ⟨7, 4, .ro, 0, .any⟩, ⟨0, 0, .rw, 0, .any⟩]⟩

/-- ICU_TGT.DEPTH. -/
abbrev ICU_TGT_DEPTH (x : Nat) : Fld := ⟨0x33C40 + 0x4 * x, 11, 8⟩

/-- ICU_TGT.RUNPRI. -/
abbrev ICU_TGT_RUNPRI (x : Nat) : Fld := ⟨0x33C40 + 0x4 * x, 7, 4⟩

/-- ICU_TGT.EN. -/
abbrev ICU_TGT_EN (x : Nat) : Fld := ⟨0x33C40 + 0x4 * x, 0, 0⟩

/-- ICU_DELIVERED. -/
def rICU_DELIVERED : Reg :=
  ⟨0x33CC0, 0x33C00, 0x0, 1, 0x0, 1, [⟨31, 0, .ro, 0, .any⟩]⟩

/-- ICU_DELIVERED.V. -/
abbrev ICU_DELIVERED : Fld := ⟨0x33CC0, 31, 0⟩

/-- ICU_SPURIOUS. -/
def rICU_SPURIOUS : Reg :=
  ⟨0x33CC4, 0x33C00, 0x0, 1, 0x0, 1, [⟨31, 0, .ro, 0, .any⟩]⟩

/-- ICU_SPURIOUS.V. -/
abbrev ICU_SPURIOUS : Fld := ⟨0x33CC4, 31, 0⟩

/-- ICU_EOIERR. -/
def rICU_EOIERR : Reg :=
  ⟨0x33CC8, 0x33C00, 0x0, 1, 0x0, 1, [⟨31, 0, .ro, 0, .any⟩]⟩

/-- ICU_EOIERR.V. -/
abbrev ICU_EOIERR : Fld := ⟨0x33CC8, 31, 0⟩

/-- ICU_BYPASS. -/
def rICU_BYPASS : Reg :=
  ⟨0x33CCC, 0x33C00, 0x0, 1, 0x0, 1, [⟨31, 0, .ro, 0, .any⟩]⟩

/-- ICU_BYPASS.V. -/
abbrev ICU_BYPASS : Fld := ⟨0x33CCC, 31, 0⟩

/-- ICU_CLR. -/
def rICU_CLR : Reg :=
  ⟨0x33CD0, 0x33C00, 0x0, 1, 0x0, 1, [⟨0, 0, .wo, 0, .any⟩]⟩

/-- ICU_CLR.CLR. -/
abbrev ICU_CLR_CLR : Fld := ⟨0x33CD0, 0, 0⟩

/-- The registers of ICU. -/
def regsICU : List Reg :=
  [rICU_CFG, rICU_STS, rICU_SRCIDX, rICU_SRCCFG, rICU_SRCTGT, rICU_SRCTIME, rICU_SRCSTS, rICU_HUBLATLO, rICU_HUBLATHI, rICU_HUBSET, rICU_FORCE, rICU_TGT, rICU_DELIVERED, rICU_SPURIOUS, rICU_EOIERR, rICU_BYPASS, rICU_CLR]

/-! EVM (spec chapter 18). -/

/-- EVM_ERRSTS (R10). -/
abbrev EVM_ERRSTS : Nat := 0x25000

/-- EVM_SWPULSE. -/
def rEVM_SWPULSE : Reg :=
  ⟨0x25010, 0x25000, 0x0, 1, 0x0, 1, [⟨3, 0, .wo, 0, .any⟩]⟩

/-- EVM_SWPULSE.P. -/
abbrev EVM_SWPULSE_P : Fld := ⟨0x25010, 3, 0⟩

/-- EVM_MERGEDLO. -/
def rEVM_MERGEDLO : Reg :=
  ⟨0x25020, 0x25000, 0x0, 1, 0x0, 1, [⟨31, 0, .w1c, 0, .any⟩]⟩

/-- EVM_MERGEDLO.V. -/
abbrev EVM_MERGEDLO : Fld := ⟨0x25020, 31, 0⟩

/-- EVM_MERGEDHI. -/
def rEVM_MERGEDHI : Reg :=
  ⟨0x25024, 0x25000, 0x0, 1, 0x0, 1, [⟨31, 0, .w1c, 0, .any⟩]⟩

/-- EVM_MERGEDHI.V. -/
abbrev EVM_MERGEDHI : Fld := ⟨0x25024, 31, 0⟩

/-- EVM_CLR. -/
def rEVM_CLR : Reg :=
  ⟨0x25030, 0x25000, 0x0, 1, 0x0, 1, [⟨0, 0, .wo, 0, .any⟩]⟩

/-- EVM_CLR.CLR. -/
abbrev EVM_CLR_CLR : Fld := ⟨0x25030, 0, 0⟩

/-- EVM_CHCFG. -/
def rEVM_CHCFG : Reg :=
  ⟨0x25100, 0x25000, 0x40, 64, 0x0, 1, [⟨8, 8, .ro, 0, .any⟩, ⟨7, 1, .rw, 0, .any⟩, ⟨0, 0, .rw, 0, .any⟩]⟩

/-- EVM_CHCFG.LOCKED. -/
abbrev EVM_CHCFG_LOCKED (x : Nat) : Fld := ⟨0x25100 + 0x40 * x, 8, 8⟩

/-- EVM_CHCFG.CONS. -/
abbrev EVM_CHCFG_CONS (x : Nat) : Fld := ⟨0x25100 + 0x40 * x, 7, 1⟩

/-- EVM_CHCFG.EN. -/
abbrev EVM_CHCFG_EN (x : Nat) : Fld := ⟨0x25100 + 0x40 * x, 0, 0⟩

/-- EVM_CHEN. -/
def rEVM_CHEN : Reg :=
  ⟨0x25104, 0x25000, 0x40, 64, 0x4, 11, [⟨31, 0, .rw, 0, .any⟩]⟩

/-- EVM_CHEN.V. -/
abbrev EVM_CHEN (x : Nat) (y : Nat) : Fld := ⟨0x25104 + 0x40 * x + 0x4 * y, 31, 0⟩

/-- EVM_CHEN11. -/
def rEVM_CHEN11 : Reg :=
  ⟨0x25130, 0x25000, 0x40, 64, 0x0, 1, [⟨29, 0, .rw, 0, .any⟩]⟩

/-- EVM_CHEN11.V. -/
abbrev EVM_CHEN11 (x : Nat) : Fld := ⟨0x25130 + 0x40 * x, 29, 0⟩

/-- EVM_CHCNT. -/
def rEVM_CHCNT : Reg :=
  ⟨0x25134, 0x25000, 0x40, 64, 0x0, 1, [⟨31, 0, .ro, 0, .any⟩]⟩

/-- EVM_CHCNT.V. -/
abbrev EVM_CHCNT (x : Nat) : Fld := ⟨0x25134 + 0x40 * x, 31, 0⟩

/-- EVM_CHMRGCNT. -/
def rEVM_CHMRGCNT : Reg :=
  ⟨0x25138, 0x25000, 0x40, 64, 0x0, 1, [⟨31, 0, .ro, 0, .any⟩]⟩

/-- EVM_CHMRGCNT.V. -/
abbrev EVM_CHMRGCNT (x : Nat) : Fld := ⟨0x25138 + 0x40 * x, 31, 0⟩

/-- EVM_CHDROP. -/
def rEVM_CHDROP : Reg :=
  ⟨0x2513C, 0x25000, 0x40, 64, 0x0, 1, [⟨31, 0, .ro, 0, .any⟩]⟩

/-- EVM_CHDROP.V. -/
abbrev EVM_CHDROP (x : Nat) : Fld := ⟨0x2513C + 0x40 * x, 31, 0⟩

/-- EVM_QCTL. -/
def rEVM_QCTL : Reg :=
  ⟨0x27000, 0x25000, 0x20, 16, 0x0, 1, [⟨24, 24, .wo, 0, .any⟩, ⟨23, 16, .ro, 0, .any⟩, ⟨12, 8, .ro, 0, .any⟩]⟩

/-- EVM_QCTL.FLUSH. -/
abbrev EVM_QCTL_FLUSH (x : Nat) : Fld := ⟨0x27000 + 0x20 * x, 24, 24⟩

/-- EVM_QCTL.LOST. -/
abbrev EVM_QCTL_LOST (x : Nat) : Fld := ⟨0x27000 + 0x20 * x, 23, 16⟩

/-- EVM_QCTL.DEPTH. -/
abbrev EVM_QCTL_DEPTH (x : Nat) : Fld := ⟨0x27000 + 0x20 * x, 12, 8⟩

/-- EVM_QHEAD. -/
def rEVM_QHEAD : Reg :=
  ⟨0x27004, 0x25000, 0x20, 16, 0x0, 1, [⟨15, 15, .ro, 0, .any⟩, ⟨8, 0, .ro, 0, .any⟩]⟩

/-- EVM_QHEAD.MERGED. -/
abbrev EVM_QHEAD_MERGED (x : Nat) : Fld := ⟨0x27004 + 0x20 * x, 15, 15⟩

/-- EVM_QHEAD.PROD. -/
abbrev EVM_QHEAD_PROD (x : Nat) : Fld := ⟨0x27004 + 0x20 * x, 8, 0⟩

/-- EVM_QCTLO. -/
def rEVM_QCTLO : Reg :=
  ⟨0x27008, 0x25000, 0x20, 16, 0x0, 1, [⟨31, 0, .ro, 0, .any⟩]⟩

/-- EVM_QCTLO.V. -/
abbrev EVM_QCTLO (x : Nat) : Fld := ⟨0x27008 + 0x20 * x, 31, 0⟩

/-- EVM_QCTHI. -/
def rEVM_QCTHI : Reg :=
  ⟨0x2700C, 0x25000, 0x20, 16, 0x0, 1, [⟨31, 0, .ro, 0, .any⟩]⟩

/-- EVM_QCTHI.V. -/
abbrev EVM_QCTHI (x : Nat) : Fld := ⟨0x2700C + 0x20 * x, 31, 0⟩

/-- The registers of EVM. -/
def regsEVM : List Reg :=
  [rEVM_SWPULSE, rEVM_MERGEDLO, rEVM_MERGEDHI, rEVM_CLR, rEVM_CHCFG, rEVM_CHEN, rEVM_CHEN11, rEVM_CHCNT, rEVM_CHMRGCNT, rEVM_CHDROP, rEVM_QCTL, rEVM_QHEAD, rEVM_QCTLO, rEVM_QCTHI]

/-! CLK (spec chapter 19). -/

/-- CLK_ERRSTS (R10). -/
abbrev CLK_ERRSTS : Nat := 0x34400

/-- CLK_CFG. -/
def rCLK_CFG : Reg :=
  ⟨0x34404, 0x34400, 0x0, 1, 0x0, 1, [⟨9, 0, .rw, 10, .range 1 1000⟩]⟩

/-- CLK_CFG.CLKTO. -/
abbrev CLK_CFG_CLKTO : Fld := ⟨0x34404, 9, 0⟩

/-- CLK_STS. -/
def rCLK_STS : Reg :=
  ⟨0x34408, 0x34400, 0x0, 1, 0x0, 1, [⟨12, 12, .ro, 0, .any⟩, ⟨11, 4, .ro, 0, .any⟩, ⟨3, 3, .ro, 0, .any⟩, ⟨2, 2, .ro, 0, .any⟩, ⟨1, 1, .ro, 1, .any⟩, ⟨0, 0, .ro, 0, .any⟩]⟩

/-- CLK_STS.FAIL. -/
abbrev CLK_STS_FAIL : Fld := ⟨0x34408, 12, 12⟩

/-- CLK_STS.LANELOCK. -/
abbrev CLK_STS_LANELOCK : Fld := ⟨0x34408, 11, 4⟩

/-- CLK_STS.REFCLKOK. -/
abbrev CLK_STS_REFCLKOK : Fld := ⟨0x34408, 3, 3⟩

/-- CLK_STS.ROOTLOCK. -/
abbrev CLK_STS_ROOTLOCK : Fld := ⟨0x34408, 2, 2⟩

/-- CLK_STS.ROSC. -/
abbrev CLK_STS_ROSC : Fld := ⟨0x34408, 1, 1⟩

/-- CLK_STS.XINOK. -/
abbrev CLK_STS_XINOK : Fld := ⟨0x34408, 0, 0⟩

/-- CLK_FAILCNT. -/
def rCLK_FAILCNT : Reg :=
  ⟨0x34410, 0x34400, 0x0, 1, 0x0, 1, [⟨31, 0, .ro, 0, .any⟩]⟩

/-- CLK_FAILCNT.V. -/
abbrev CLK_FAILCNT : Fld := ⟨0x34410, 31, 0⟩

/-- CLK_UNLOCKCNT. -/
def rCLK_UNLOCKCNT : Reg :=
  ⟨0x34414, 0x34400, 0x0, 1, 0x0, 1, [⟨31, 0, .ro, 0, .any⟩]⟩

/-- CLK_UNLOCKCNT.V. -/
abbrev CLK_UNLOCKCNT : Fld := ⟨0x34414, 31, 0⟩

/-- CLK_STOPACC. -/
def rCLK_STOPACC : Reg :=
  ⟨0x34418, 0x34400, 0x0, 1, 0x0, 1, [⟨31, 0, .ro, 0, .any⟩]⟩

/-- CLK_STOPACC.V. -/
abbrev CLK_STOPACC : Fld := ⟨0x34418, 31, 0⟩

/-- CLK_CLR. -/
def rCLK_CLR : Reg :=
  ⟨0x3441C, 0x34400, 0x0, 1, 0x0, 1, [⟨0, 0, .wo, 0, .any⟩]⟩

/-- CLK_CLR.CLR. -/
abbrev CLK_CLR_CLR : Fld := ⟨0x3441C, 0, 0⟩

/-- The registers of CLK. -/
def regsCLK : List Reg :=
  [rCLK_CFG, rCLK_STS, rCLK_FAILCNT, rCLK_UNLOCKCNT, rCLK_STOPACC, rCLK_CLR]

/-! RST (spec chapter 19). -/

/-- RST_ERRSTS (R10). -/
abbrev RST_ERRSTS : Nat := 0x34800

/-- RST_CTL. -/
def rRST_CTL : Reg :=
  ⟨0x34810, 0x34800, 0x0, 1, 0x0, 1, [⟨15, 8, .wo, 0, .any⟩, ⟨2, 2, .wo, 0, .any⟩, ⟨1, 1, .wo, 0, .any⟩, ⟨0, 0, .wo, 0, .any⟩]⟩

/-- RST_CTL.KEY. -/
abbrev RST_CTL_KEY : Fld := ⟨0x34810, 15, 8⟩

/-- RST_CTL.HKRST. -/
abbrev RST_CTL_HKRST : Fld := ⟨0x34810, 2, 2⟩

/-- RST_CTL.CORE. -/
abbrev RST_CTL_CORE : Fld := ⟨0x34810, 1, 1⟩

/-- RST_CTL.WARM. -/
abbrev RST_CTL_WARM : Fld := ⟨0x34810, 0, 0⟩

/-- RST_CAUSE. -/
def rRST_CAUSE : Reg :=
  ⟨0x34814, 0x34800, 0x0, 1, 0x0, 1, [⟨7, 4, .ro, 0, .any⟩, ⟨2, 0, .ro, 0, .any⟩]⟩

/-- RST_CAUSE.SRC. -/
abbrev RST_CAUSE_SRC : Fld := ⟨0x34814, 7, 4⟩

/-- RST_CAUSE.KIND. -/
abbrev RST_CAUSE_KIND : Fld := ⟨0x34814, 2, 0⟩

/-- RST_STS. -/
def rRST_STS : Reg :=
  ⟨0x34818, 0x34800, 0x0, 1, 0x0, 1, [⟨0, 0, .ro, 0, .any⟩]⟩

/-- RST_STS.READY. -/
abbrev RST_STS_READY : Fld := ⟨0x34818, 0, 0⟩

/-- RST_WDT. -/
def rRST_WDT : Reg :=
  ⟨0x3481C, 0x34800, 0x0, 1, 0x0, 1, [⟨13, 0, .rw, 100, .range 10 10000⟩]⟩

/-- RST_WDT.PERIOD. -/
abbrev RST_WDT_PERIOD : Fld := ⟨0x3481C, 13, 0⟩

/-- RST_WARMCNT. -/
def rRST_WARMCNT : Reg :=
  ⟨0x34820, 0x34800, 0x0, 1, 0x0, 1, [⟨31, 0, .ro, 0, .any⟩]⟩

/-- RST_WARMCNT.V. -/
abbrev RST_WARMCNT : Fld := ⟨0x34820, 31, 0⟩

/-- RST_CORECNT. -/
def rRST_CORECNT : Reg :=
  ⟨0x34824, 0x34800, 0x0, 1, 0x0, 1, [⟨31, 0, .ro, 0, .any⟩]⟩

/-- RST_CORECNT.V. -/
abbrev RST_CORECNT : Fld := ⟨0x34824, 31, 0⟩

/-- RST_HKCNT. -/
def rRST_HKCNT : Reg :=
  ⟨0x34828, 0x34800, 0x0, 1, 0x0, 1, [⟨31, 0, .ro, 0, .any⟩]⟩

/-- RST_HKCNT.V. -/
abbrev RST_HKCNT : Fld := ⟨0x34828, 31, 0⟩

/-- RST_FLRCNT. -/
def rRST_FLRCNT : Reg :=
  ⟨0x3482C, 0x34800, 0x0, 1, 0x0, 1, [⟨31, 0, .ro, 0, .any⟩]⟩

/-- RST_FLRCNT.V. -/
abbrev RST_FLRCNT : Fld := ⟨0x3482C, 31, 0⟩

/-- RST_WDTCNT. -/
def rRST_WDTCNT : Reg :=
  ⟨0x34830, 0x34800, 0x0, 1, 0x0, 1, [⟨31, 0, .ro, 0, .any⟩]⟩

/-- RST_WDTCNT.V. -/
abbrev RST_WDTCNT : Fld := ⟨0x34830, 31, 0⟩

/-- RST_CLR. -/
def rRST_CLR : Reg :=
  ⟨0x34834, 0x34800, 0x0, 1, 0x0, 1, [⟨0, 0, .wo, 0, .any⟩]⟩

/-- RST_CLR.CLR. -/
abbrev RST_CLR_CLR : Fld := ⟨0x34834, 0, 0⟩

/-- The registers of RST. -/
def regsRST : List Reg :=
  [rRST_CTL, rRST_CAUSE, rRST_STS, rRST_WDT, rRST_WARMCNT, rRST_CORECNT, rRST_HKCNT, rRST_FLRCNT, rRST_WDTCNT, rRST_CLR]

/-! PWR (spec chapter 20). -/

/-- PWR_ERRSTS (R10). -/
abbrev PWR_ERRSTS : Nat := 0x34C00

/-- PWR_CTL. -/
def rPWR_CTL : Reg :=
  ⟨0x34C04, 0x34C00, 0x0, 1, 0x0, 1, [⟨15, 8, .wo, 0, .any⟩, ⟨2, 0, .wo, 0, .reserved 0 4⟩]⟩

/-- PWR_CTL.KEY. -/
abbrev PWR_CTL_KEY : Fld := ⟨0x34C04, 15, 8⟩

/-- PWR_CTL.REQ. -/
abbrev PWR_CTL_REQ : Fld := ⟨0x34C04, 2, 0⟩

/-- PWR_STS. -/
def rPWR_STS : Reg :=
  ⟨0x34C08, 0x34C00, 0x0, 1, 0x0, 1, [⟨23, 20, .ro, 0, .any⟩, ⟨19, 17, .ro, 0, .any⟩, ⟨16, 16, .ro, 0, .any⟩, ⟨15, 13, .ro, 0, .any⟩, ⟨7, 6, .ro, 0, .any⟩, ⟨2, 0, .ro, 0, .any⟩]⟩

/-- PWR_STS.LASTREF. -/
abbrev PWR_STS_LASTREF : Fld := ⟨0x34C08, 23, 20⟩

/-- PWR_STS.LASTREQ. -/
abbrev PWR_STS_LASTREQ : Fld := ⟨0x34C08, 19, 17⟩

/-- PWR_STS.DRAINED. -/
abbrev PWR_STS_DRAINED : Fld := ⟨0x34C08, 16, 16⟩

/-- PWR_STS.STAGE. -/
abbrev PWR_STS_STAGE : Fld := ⟨0x34C08, 15, 13⟩

/-- PWR_STS.PHASE. -/
abbrev PWR_STS_PHASE : Fld := ⟨0x34C08, 7, 6⟩

/-- PWR_STS.PREV. -/
abbrev PWR_STS_PREV : Fld := ⟨0x34C08, 2, 0⟩

/-- PWR_CFG. -/
def rPWR_CFG : Reg :=
  ⟨0x34C0C, 0x34C00, 0x0, 1, 0x0, 1, [⟨31, 24, .rw, 60, .any⟩, ⟨23, 16, .rw, 50, .range 1 100⟩, ⟨15, 8, .rw, 100, .range 1 255⟩, ⟨7, 0, .rw, 50, .range 1 255⟩]⟩

/-- PWR_CFG.AUTOT. -/
abbrev PWR_CFG_AUTOT : Fld := ⟨0x34C0C, 31, 24⟩

/-- PWR_CFG.DOZEFILL. -/
abbrev PWR_CFG_DOZEFILL : Fld := ⟨0x34C0C, 23, 16⟩

/-- PWR_CFG.LINKTO. -/
abbrev PWR_CFG_LINKTO : Fld := ⟨0x34C0C, 15, 8⟩

/-- PWR_CFG.DRAINTO. -/
abbrev PWR_CFG_DRAINTO : Fld := ⟨0x34C0C, 7, 0⟩

/-- PWR_WAKECFG. -/
def rPWR_WAKECFG : Reg :=
  ⟨0x34C10, 0x34C00, 0x0, 1, 0x0, 1, [⟨7, 0, .rw, 223, .any⟩]⟩

/-- PWR_WAKECFG.EN. -/
abbrev PWR_WAKECFG_EN : Fld := ⟨0x34C10, 7, 0⟩

/-- PWR_WAKESRC. -/
def rPWR_WAKESRC : Reg :=
  ⟨0x34C14, 0x34C00, 0x0, 1, 0x0, 1, [⟨31, 13, .ro, 0, .any⟩, ⟨12, 0, .w1c, 0, .any⟩]⟩

/-- PWR_WAKESRC.V. -/
abbrev PWR_WAKESRC : Fld := ⟨0x34C14, 12, 0⟩

/-- PWR_WAKEATLO. -/
def rPWR_WAKEATLO : Reg :=
  ⟨0x34C18, 0x34C00, 0x0, 1, 0x0, 1, [⟨31, 0, .rw, 0, .any⟩]⟩

/-- PWR_WAKEATLO.V. -/
abbrev PWR_WAKEATLO : Fld := ⟨0x34C18, 31, 0⟩

/-- PWR_WAKEATHI. -/
def rPWR_WAKEATHI : Reg :=
  ⟨0x34C1C, 0x34C00, 0x0, 1, 0x0, 1, [⟨31, 0, .rw, 0, .any⟩]⟩

/-- PWR_WAKEATHI.V. -/
abbrev PWR_WAKEATHI : Fld := ⟨0x34C1C, 31, 0⟩

/-- PWR_WATCHBANK. -/
def rPWR_WATCHBANK : Reg :=
  ⟨0x34C20, 0x34C00, 0x0, 1, 0x0, 1, [⟨7, 0, .rw, 0, .any⟩]⟩

/-- PWR_WATCHBANK.V. -/
abbrev PWR_WATCHBANK : Fld := ⟨0x34C20, 7, 0⟩

/-- PWR_SHED1. -/
def rPWR_SHED1 : Reg :=
  ⟨0x34C30, 0x34C00, 0x0, 1, 0x0, 1, [⟨31, 24, .rw, 125, .any⟩, ⟨23, 20, .rw, 5, .range 1 15⟩, ⟨19, 14, .rw, 20, .range 1 63⟩, ⟨11, 0, .rw, 1800, .range 1701 3600⟩]⟩

/-- PWR_SHED1.TTHR. -/
abbrev PWR_SHED1_TTHR : Fld := ⟨0x34C30, 31, 24⟩

/-- PWR_SHED1.THYST. -/
abbrev PWR_SHED1_THYST : Fld := ⟨0x34C30, 23, 20⟩

/-- PWR_SHED1.VHYST. -/
abbrev PWR_SHED1_VHYST : Fld := ⟨0x34C30, 19, 14⟩

/-- PWR_SHED1.VTHR. -/
abbrev PWR_SHED1_VTHR : Fld := ⟨0x34C30, 11, 0⟩

/-- PWR_SHED2. -/
def rPWR_SHED2 : Reg :=
  ⟨0x34C34, 0x34C00, 0x0, 1, 0x0, 1, [⟨31, 24, .rw, 135, .any⟩, ⟨23, 20, .rw, 5, .range 1 15⟩, ⟨19, 14, .rw, 20, .range 1 63⟩, ⟨11, 0, .rw, 1760, .range 1701 3600⟩]⟩

/-- PWR_SHED2.TTHR. -/
abbrev PWR_SHED2_TTHR : Fld := ⟨0x34C34, 31, 24⟩

/-- PWR_SHED2.THYST. -/
abbrev PWR_SHED2_THYST : Fld := ⟨0x34C34, 23, 20⟩

/-- PWR_SHED2.VHYST. -/
abbrev PWR_SHED2_VHYST : Fld := ⟨0x34C34, 19, 14⟩

/-- PWR_SHED2.VTHR. -/
abbrev PWR_SHED2_VTHR : Fld := ⟨0x34C34, 11, 0⟩

/-- PWR_SHED3. -/
def rPWR_SHED3 : Reg :=
  ⟨0x34C38, 0x34C00, 0x0, 1, 0x0, 1, [⟨31, 24, .rw, 140, .any⟩, ⟨23, 20, .rw, 5, .range 1 15⟩, ⟨19, 14, .rw, 20, .range 1 63⟩, ⟨11, 0, .rw, 1730, .range 1701 3600⟩]⟩

/-- PWR_SHED3.TTHR. -/
abbrev PWR_SHED3_TTHR : Fld := ⟨0x34C38, 31, 24⟩

/-- PWR_SHED3.THYST. -/
abbrev PWR_SHED3_THYST : Fld := ⟨0x34C38, 23, 20⟩

/-- PWR_SHED3.VHYST. -/
abbrev PWR_SHED3_VHYST : Fld := ⟨0x34C38, 19, 14⟩

/-- PWR_SHED3.VTHR. -/
abbrev PWR_SHED3_VTHR : Fld := ⟨0x34C38, 11, 0⟩

/-- PWR_SHED4. -/
def rPWR_SHED4 : Reg :=
  ⟨0x34C3C, 0x34C00, 0x0, 1, 0x0, 1, [⟨31, 24, .rw, 145, .any⟩, ⟨23, 20, .rw, 5, .range 1 15⟩, ⟨19, 14, .rw, 20, .range 1 63⟩, ⟨11, 0, .rw, 1710, .range 1701 3600⟩]⟩

/-- PWR_SHED4.TTHR. -/
abbrev PWR_SHED4_TTHR : Fld := ⟨0x34C3C, 31, 24⟩

/-- PWR_SHED4.THYST. -/
abbrev PWR_SHED4_THYST : Fld := ⟨0x34C3C, 23, 20⟩

/-- PWR_SHED4.VHYST. -/
abbrev PWR_SHED4_VHYST : Fld := ⟨0x34C3C, 19, 14⟩

/-- PWR_SHED4.VTHR. -/
abbrev PWR_SHED4_VTHR : Fld := ⟨0x34C3C, 11, 0⟩

/-- PWR_SHED5. -/
def rPWR_SHED5 : Reg :=
  ⟨0x34C40, 0x34C00, 0x0, 1, 0x0, 1, [⟨31, 24, .ro, 0, .any⟩, ⟨23, 20, .ro, 5, .any⟩, ⟨19, 14, .ro, 20, .any⟩, ⟨11, 0, .ro, 1700, .any⟩]⟩

/-- PWR_SHED5.TTHR. -/
abbrev PWR_SHED5_TTHR : Fld := ⟨0x34C40, 31, 24⟩

/-- PWR_SHED5.THYST. -/
abbrev PWR_SHED5_THYST : Fld := ⟨0x34C40, 23, 20⟩

/-- PWR_SHED5.VHYST. -/
abbrev PWR_SHED5_VHYST : Fld := ⟨0x34C40, 19, 14⟩

/-- PWR_SHED5.VTHR. -/
abbrev PWR_SHED5_VTHR : Fld := ⟨0x34C40, 11, 0⟩

/-- PWR_SHEDCFG. -/
def rPWR_SHEDCFG : Reg :=
  ⟨0x34C44, 0x34C00, 0x0, 1, 0x0, 1, [⟨13, 0, .rw, 10, .range 1 10000⟩]⟩

/-- PWR_SHEDCFG.DWELL. -/
abbrev PWR_SHEDCFG_DWELL : Fld := ⟨0x34C44, 13, 0⟩

/-- PWR_MEAS. -/
def rPWR_MEAS : Reg :=
  ⟨0x34C48, 0x34C00, 0x0, 1, 0x0, 1, [⟨24, 16, .ro, 0, .any⟩, ⟨11, 0, .ro, 0, .any⟩]⟩

/-- PWR_MEAS.TJ. -/
abbrev PWR_MEAS_TJ : Fld := ⟨0x34C48, 24, 16⟩

/-- PWR_MEAS.VAON. -/
abbrev PWR_MEAS_VAON : Fld := ⟨0x34C48, 11, 0⟩

/-- PWR_REFCNT. -/
def rPWR_REFCNT : Reg :=
  ⟨0x34C60, 0x34C00, 0x4, 8, 0x0, 1, [⟨31, 0, .ro, 0, .any⟩]⟩

/-- PWR_REFCNT.V. -/
abbrev PWR_REFCNT (x : Nat) : Fld := ⟨0x34C60 + 0x4 * x, 31, 0⟩

/-- PWR_WAKEABORT. -/
def rPWR_WAKEABORT : Reg :=
  ⟨0x34C80, 0x34C00, 0x0, 1, 0x0, 1, [⟨31, 0, .ro, 0, .any⟩]⟩

/-- PWR_WAKEABORT.V. -/
abbrev PWR_WAKEABORT : Fld := ⟨0x34C80, 31, 0⟩

/-- PWR_WAKEFAIL. -/
def rPWR_WAKEFAIL : Reg :=
  ⟨0x34C84, 0x34C00, 0x0, 1, 0x0, 1, [⟨31, 0, .ro, 0, .any⟩]⟩

/-- PWR_WAKEFAIL.V. -/
abbrev PWR_WAKEFAIL : Fld := ⟨0x34C84, 31, 0⟩

/-- PWR_WATCHLOST. -/
def rPWR_WATCHLOST : Reg :=
  ⟨0x34C88, 0x34C00, 0x0, 1, 0x0, 1, [⟨31, 0, .ro, 0, .any⟩]⟩

/-- PWR_WATCHLOST.V. -/
abbrev PWR_WATCHLOST : Fld := ⟨0x34C88, 31, 0⟩

/-- PWR_WATCHSKIP. -/
def rPWR_WATCHSKIP : Reg :=
  ⟨0x34C8C, 0x34C00, 0x0, 1, 0x0, 1, [⟨31, 0, .ro, 0, .any⟩]⟩

/-- PWR_WATCHSKIP.V. -/
abbrev PWR_WATCHSKIP : Fld := ⟨0x34C8C, 31, 0⟩

/-- PWR_STAGECNT. -/
def rPWR_STAGECNT : Reg :=
  ⟨0x34C90, 0x34C00, 0x4, 5, 0x0, 1, [⟨31, 0, .ro, 0, .any⟩]⟩

/-- PWR_STAGECNT.V. -/
abbrev PWR_STAGECNT (x : Nat) : Fld := ⟨0x34C90 + 0x4 * x, 31, 0⟩

/-- PWR_CLR. -/
def rPWR_CLR : Reg :=
  ⟨0x34CA4, 0x34C00, 0x0, 1, 0x0, 1, [⟨0, 0, .wo, 0, .any⟩]⟩

/-- PWR_CLR.CLR. -/
abbrev PWR_CLR_CLR : Fld := ⟨0x34CA4, 0, 0⟩

/-- The registers of PWR. -/
def regsPWR : List Reg :=
  [rPWR_CTL, rPWR_STS, rPWR_CFG, rPWR_WAKECFG, rPWR_WAKESRC, rPWR_WAKEATLO, rPWR_WAKEATHI, rPWR_WATCHBANK, rPWR_SHED1, rPWR_SHED2, rPWR_SHED3, rPWR_SHED4, rPWR_SHED5, rPWR_SHEDCFG, rPWR_MEAS, rPWR_REFCNT, rPWR_WAKEABORT, rPWR_WAKEFAIL, rPWR_WATCHLOST, rPWR_WATCHSKIP] ++
  [rPWR_STAGECNT, rPWR_CLR]

/-! NVS (spec chapter 21). -/

/-- NVS_ERRSTS (R10). -/
abbrev NVS_ERRSTS : Nat := 0x35000

/-- NVS_STS. -/
def rNVS_STS : Reg :=
  ⟨0x35004, 0x35000, 0x0, 1, 0x0, 1, [⟨9, 9, .ro, 0, .any⟩, ⟨8, 8, .ro, 0, .any⟩, ⟨6, 0, .ro, 0, .any⟩]⟩

/-- NVS_STS.BUSY. -/
abbrev NVS_STS_BUSY : Fld := ⟨0x35004, 9, 9⟩

/-- NVS_STS.JRO. -/
abbrev NVS_STS_JRO : Fld := ⟨0x35004, 8, 8⟩

/-- NVS_STS.WORN. -/
abbrev NVS_STS_WORN : Fld := ⟨0x35004, 6, 0⟩

/-- NVS_JCFG. -/
def rNVS_JCFG : Reg :=
  ⟨0x35008, 0x35000, 0x0, 1, 0x0, 1, [⟨8, 1, .rw, 7, .any⟩]⟩

/-- NVS_JCFG.SRCEN. -/
abbrev NVS_JCFG_SRCEN : Fld := ⟨0x35008, 8, 1⟩

/-- NVS_JCTL. -/
def rNVS_JCTL : Reg :=
  ⟨0x3500C, 0x35000, 0x0, 1, 0x0, 1, [⟨31, 31, .wo, 0, .any⟩, ⟨30, 30, .wo, 0, .any⟩]⟩

/-- NVS_JCTL.APPEND. -/
abbrev NVS_JCTL_APPEND : Fld := ⟨0x3500C, 31, 31⟩

/-- NVS_JCTL.RD. -/
abbrev NVS_JCTL_RD : Fld := ⟨0x3500C, 30, 30⟩

/-- NVS_JD. -/
def rNVS_JD : Reg :=
  ⟨0x35010, 0x35000, 0x4, 8, 0x0, 1, [⟨31, 0, .rw, 0, .any⟩]⟩

/-- NVS_JD.V. -/
abbrev NVS_JD (x : Nat) : Fld := ⟨0x35010 + 0x4 * x, 31, 0⟩

/-- NVS_JSEQLO. -/
def rNVS_JSEQLO : Reg :=
  ⟨0x35030, 0x35000, 0x0, 1, 0x0, 1, [⟨31, 0, .rw, 0, .any⟩]⟩

/-- NVS_JSEQLO.V. -/
abbrev NVS_JSEQLO : Fld := ⟨0x35030, 31, 0⟩

/-- NVS_JSEQHI. -/
def rNVS_JSEQHI : Reg :=
  ⟨0x35034, 0x35000, 0x0, 1, 0x0, 1, [⟨31, 0, .rw, 0, .any⟩]⟩

/-- NVS_JSEQHI.V. -/
abbrev NVS_JSEQHI : Fld := ⟨0x35034, 31, 0⟩

/-- NVS_JFIRSTLO. -/
def rNVS_JFIRSTLO : Reg :=
  ⟨0x35038, 0x35000, 0x0, 1, 0x0, 1, [⟨31, 0, .ro, 0, .any⟩]⟩

/-- NVS_JFIRSTLO.V. -/
abbrev NVS_JFIRSTLO : Fld := ⟨0x35038, 31, 0⟩

/-- NVS_JFIRSTHI. -/
def rNVS_JFIRSTHI : Reg :=
  ⟨0x3503C, 0x35000, 0x0, 1, 0x0, 1, [⟨31, 0, .ro, 0, .any⟩]⟩

/-- NVS_JFIRSTHI.V. -/
abbrev NVS_JFIRSTHI : Fld := ⟨0x3503C, 31, 0⟩

/-- NVS_JR. -/
def rNVS_JR : Reg :=
  ⟨0x35040, 0x35000, 0x4, 16, 0x0, 1, [⟨31, 0, .ro, 0, .any⟩]⟩

/-- NVS_JR.V. -/
abbrev NVS_JR (x : Nat) : Fld := ⟨0x35040 + 0x4 * x, 31, 0⟩

/-- NVS_JNEXTLO. -/
def rNVS_JNEXTLO : Reg :=
  ⟨0x35080, 0x35000, 0x0, 1, 0x0, 1, [⟨31, 0, .ro, 0, .any⟩]⟩

/-- NVS_JNEXTLO.V. -/
abbrev NVS_JNEXTLO : Fld := ⟨0x35080, 31, 0⟩

/-- NVS_JNEXTHI. -/
def rNVS_JNEXTHI : Reg :=
  ⟨0x35084, 0x35000, 0x0, 1, 0x0, 1, [⟨31, 0, .ro, 0, .any⟩]⟩

/-- NVS_JNEXTHI.V. -/
abbrev NVS_JNEXTHI : Fld := ⟨0x35084, 31, 0⟩

/-- NVS_RGN0. -/
def rNVS_RGN0 : Reg :=
  ⟨0x35090, 0x35000, 0x0, 1, 0x0, 1, [⟨31, 31, .ro, 0, .any⟩, ⟨23, 16, .ro, 0, .any⟩, ⟨11, 0, .ro, 28, .any⟩]⟩

/-- NVS_RGN0.WORN. -/
abbrev NVS_RGN0_WORN : Fld := ⟨0x35090, 31, 31⟩

/-- NVS_RGN0.SPARES. -/
abbrev NVS_RGN0_SPARES : Fld := ⟨0x35090, 23, 16⟩

/-- NVS_RGN0.GOOD. -/
abbrev NVS_RGN0_GOOD : Fld := ⟨0x35090, 11, 0⟩

/-- NVS_RGN1. -/
def rNVS_RGN1 : Reg :=
  ⟨0x35094, 0x35000, 0x0, 1, 0x0, 1, [⟨31, 31, .ro, 0, .any⟩, ⟨23, 16, .ro, 128, .any⟩, ⟨11, 0, .ro, 512, .any⟩]⟩

/-- NVS_RGN1.WORN. -/
abbrev NVS_RGN1_WORN : Fld := ⟨0x35094, 31, 31⟩

/-- NVS_RGN1.SPARES. -/
abbrev NVS_RGN1_SPARES : Fld := ⟨0x35094, 23, 16⟩

/-- NVS_RGN1.GOOD. -/
abbrev NVS_RGN1_GOOD : Fld := ⟨0x35094, 11, 0⟩

/-- NVS_RGN2. -/
def rNVS_RGN2 : Reg :=
  ⟨0x35098, 0x35000, 0x0, 1, 0x0, 1, [⟨31, 31, .ro, 0, .any⟩, ⟨23, 16, .ro, 64, .any⟩, ⟨11, 0, .ro, 256, .any⟩]⟩

/-- NVS_RGN2.WORN. -/
abbrev NVS_RGN2_WORN : Fld := ⟨0x35098, 31, 31⟩

/-- NVS_RGN2.SPARES. -/
abbrev NVS_RGN2_SPARES : Fld := ⟨0x35098, 23, 16⟩

/-- NVS_RGN2.GOOD. -/
abbrev NVS_RGN2_GOOD : Fld := ⟨0x35098, 11, 0⟩

/-- NVS_RGN3. -/
def rNVS_RGN3 : Reg :=
  ⟨0x3509C, 0x35000, 0x0, 1, 0x0, 1, [⟨31, 31, .ro, 0, .any⟩, ⟨23, 16, .ro, 32, .any⟩, ⟨11, 0, .ro, 16, .any⟩]⟩

/-- NVS_RGN3.WORN. -/
abbrev NVS_RGN3_WORN : Fld := ⟨0x3509C, 31, 31⟩

/-- NVS_RGN3.SPARES. -/
abbrev NVS_RGN3_SPARES : Fld := ⟨0x3509C, 23, 16⟩

/-- NVS_RGN3.GOOD. -/
abbrev NVS_RGN3_GOOD : Fld := ⟨0x3509C, 11, 0⟩

/-- NVS_RGN4. -/
def rNVS_RGN4 : Reg :=
  ⟨0x350A0, 0x35000, 0x0, 1, 0x0, 1, [⟨31, 31, .ro, 0, .any⟩, ⟨23, 16, .ro, 16, .any⟩, ⟨11, 0, .ro, 16, .any⟩]⟩

/-- NVS_RGN4.WORN. -/
abbrev NVS_RGN4_WORN : Fld := ⟨0x350A0, 31, 31⟩

/-- NVS_RGN4.SPARES. -/
abbrev NVS_RGN4_SPARES : Fld := ⟨0x350A0, 23, 16⟩

/-- NVS_RGN4.GOOD. -/
abbrev NVS_RGN4_GOOD : Fld := ⟨0x350A0, 11, 0⟩

/-- NVS_RGN5. -/
def rNVS_RGN5 : Reg :=
  ⟨0x350A4, 0x35000, 0x0, 1, 0x0, 1, [⟨31, 31, .ro, 0, .any⟩, ⟨23, 16, .ro, 121, .any⟩, ⟨11, 0, .ro, 851, .any⟩]⟩

/-- NVS_RGN5.WORN. -/
abbrev NVS_RGN5_WORN : Fld := ⟨0x350A4, 31, 31⟩

/-- NVS_RGN5.SPARES. -/
abbrev NVS_RGN5_SPARES : Fld := ⟨0x350A4, 23, 16⟩

/-- NVS_RGN5.GOOD. -/
abbrev NVS_RGN5_GOOD : Fld := ⟨0x350A4, 11, 0⟩

/-- NVS_RGN6. -/
def rNVS_RGN6 : Reg :=
  ⟨0x350A8, 0x35000, 0x0, 1, 0x0, 1, [⟨31, 31, .ro, 0, .any⟩, ⟨23, 16, .ro, 0, .any⟩, ⟨11, 0, .ro, 8, .any⟩]⟩

/-- NVS_RGN6.WORN. -/
abbrev NVS_RGN6_WORN : Fld := ⟨0x350A8, 31, 31⟩

/-- NVS_RGN6.SPARES. -/
abbrev NVS_RGN6_SPARES : Fld := ⟨0x350A8, 23, 16⟩

/-- NVS_RGN6.GOOD. -/
abbrev NVS_RGN6_GOOD : Fld := ⟨0x350A8, 11, 0⟩

/-- NVS_LIFEIDX. -/
def rNVS_LIFEIDX : Reg :=
  ⟨0x350B0, 0x35000, 0x0, 1, 0x0, 1, [⟨5, 0, .wo, 0, .any⟩]⟩

/-- NVS_LIFEIDX.IDX. -/
abbrev NVS_LIFEIDX_IDX : Fld := ⟨0x350B0, 5, 0⟩

/-- NVS_LIFEDATA. -/
def rNVS_LIFEDATA : Reg :=
  ⟨0x350B4, 0x35000, 0x0, 1, 0x0, 1, [⟨31, 0, .ro, 0, .any⟩]⟩

/-- NVS_LIFEDATA.V. -/
abbrev NVS_LIFEDATA : Fld := ⟨0x350B4, 31, 0⟩

/-- NVS_RETRYOK. -/
def rNVS_RETRYOK : Reg :=
  ⟨0x350C0, 0x35000, 0x0, 1, 0x0, 1, [⟨31, 0, .ro, 0, .any⟩]⟩

/-- NVS_RETRYOK.V. -/
abbrev NVS_RETRYOK : Fld := ⟨0x350C0, 31, 0⟩

/-- NVS_RETIRED. -/
def rNVS_RETIRED : Reg :=
  ⟨0x350C4, 0x35000, 0x0, 1, 0x0, 1, [⟨31, 0, .ro, 0, .any⟩]⟩

/-- NVS_RETIRED.V. -/
abbrev NVS_RETIRED : Fld := ⟨0x350C4, 31, 0⟩

/-- NVS_JTHROTTLE. -/
def rNVS_JTHROTTLE : Reg :=
  ⟨0x350C8, 0x35000, 0x0, 1, 0x0, 1, [⟨31, 0, .ro, 0, .any⟩]⟩

/-- NVS_JTHROTTLE.V. -/
abbrev NVS_JTHROTTLE : Fld := ⟨0x350C8, 31, 0⟩

/-- NVS_ABANDON. -/
def rNVS_ABANDON : Reg :=
  ⟨0x350CC, 0x35000, 0x0, 1, 0x0, 1, [⟨31, 0, .ro, 0, .any⟩]⟩

/-- NVS_ABANDON.V. -/
abbrev NVS_ABANDON : Fld := ⟨0x350CC, 31, 0⟩

/-- NVS_REFRESH. -/
def rNVS_REFRESH : Reg :=
  ⟨0x350D0, 0x35000, 0x0, 1, 0x0, 1, [⟨31, 0, .ro, 0, .any⟩]⟩

/-- NVS_REFRESH.V. -/
abbrev NVS_REFRESH : Fld := ⟨0x350D0, 31, 0⟩

/-- NVS_TDEFER. -/
def rNVS_TDEFER : Reg :=
  ⟨0x350D4, 0x35000, 0x0, 1, 0x0, 1, [⟨31, 0, .ro, 0, .any⟩]⟩

/-- NVS_TDEFER.V. -/
abbrev NVS_TDEFER : Fld := ⟨0x350D4, 31, 0⟩

/-- NVS_CLR. -/
def rNVS_CLR : Reg :=
  ⟨0x350D8, 0x35000, 0x0, 1, 0x0, 1, [⟨0, 0, .wo, 0, .any⟩]⟩

/-- NVS_CLR.CLR. -/
abbrev NVS_CLR_CLR : Fld := ⟨0x350D8, 0, 0⟩

/-- The registers of NVS. -/
def regsNVS : List Reg :=
  [rNVS_STS, rNVS_JCFG, rNVS_JCTL, rNVS_JD, rNVS_JSEQLO, rNVS_JSEQHI, rNVS_JFIRSTLO, rNVS_JFIRSTHI, rNVS_JR, rNVS_JNEXTLO, rNVS_JNEXTHI, rNVS_RGN0, rNVS_RGN1, rNVS_RGN2, rNVS_RGN3, rNVS_RGN4, rNVS_RGN5, rNVS_RGN6, rNVS_LIFEIDX, rNVS_LIFEDATA] ++
  [rNVS_RETRYOK, rNVS_RETIRED, rNVS_JTHROTTLE, rNVS_ABANDON, rNVS_REFRESH, rNVS_TDEFER, rNVS_CLR]

/-! BOOT (spec chapter 22). -/

/-- BOOT_ERRSTS (R10). -/
abbrev BOOT_ERRSTS : Nat := 0x35400

/-- BOOT_ID. -/
def rBOOT_ID : Reg :=
  ⟨0x35404, 0x35400, 0x0, 1, 0x0, 1, [⟨31, 16, .ro, 28992, .any⟩, ⟨15, 8, .ro, 2, .any⟩]⟩

/-- BOOT_ID.PART. -/
abbrev BOOT_ID_PART : Fld := ⟨0x35404, 31, 16⟩

/-- BOOT_ID.STEPPING. -/
abbrev BOOT_ID_STEPPING : Fld := ⟨0x35404, 15, 8⟩

/-- BOOT_FWREL. -/
def rBOOT_FWREL : Reg :=
  ⟨0x35408, 0x35400, 0x0, 1, 0x0, 1, [⟨31, 0, .ro, 0, .any⟩]⟩

/-- BOOT_FWREL.V. -/
abbrev BOOT_FWREL : Fld := ⟨0x35408, 31, 0⟩

/-- BOOT_STS. -/
def rBOOT_STS : Reg :=
  ⟨0x3540C, 0x35400, 0x0, 1, 0x0, 1, [⟨15, 8, .ro, 0, .any⟩, ⟨3, 0, .ro, 0, .any⟩]⟩

/-- BOOT_STS.IMGREASON. -/
abbrev BOOT_STS_IMGREASON : Fld := ⟨0x3540C, 15, 8⟩

/-- BOOT_STS.STAGE. -/
abbrev BOOT_STS_STAGE : Fld := ⟨0x3540C, 3, 0⟩

/-- BOOT_IMG. -/
def rBOOT_IMG : Reg :=
  ⟨0x35410, 0x35400, 0x0, 1, 0x0, 1, [⟨3, 3, .ro, 0, .any⟩, ⟨2, 2, .ro, 0, .any⟩, ⟨1, 1, .ro, 0, .any⟩, ⟨0, 0, .ro, 0, .any⟩]⟩

/-- BOOT_IMG.FALLBACK. -/
abbrev BOOT_IMG_FALLBACK : Fld := ⟨0x35410, 3, 3⟩

/-- BOOT_IMG.BVALID. -/
abbrev BOOT_IMG_BVALID : Fld := ⟨0x35410, 2, 2⟩

/-- BOOT_IMG.AVALID. -/
abbrev BOOT_IMG_AVALID : Fld := ⟨0x35410, 1, 1⟩

/-- BOOT_IMG.ACTIVE. -/
abbrev BOOT_IMG_ACTIVE : Fld := ⟨0x35410, 0, 0⟩

/-- BOOT_HKSTS. -/
def rBOOT_HKSTS : Reg :=
  ⟨0x35414, 0x35400, 0x0, 1, 0x0, 1, [⟨31, 16, .ro, 0, .any⟩, ⟨15, 8, .ro, 0, .any⟩, ⟨7, 0, .ro, 0, .any⟩]⟩

/-- BOOT_HKSTS.BEAT. -/
abbrev BOOT_HKSTS_BEAT : Fld := ⟨0x35414, 31, 16⟩

/-- BOOT_HKSTS.PGRETRY. -/
abbrev BOOT_HKSTS_PGRETRY : Fld := ⟨0x35414, 15, 8⟩

/-- BOOT_HKSTS.LASTFAULT. -/
abbrev BOOT_HKSTS_LASTFAULT : Fld := ⟨0x35414, 7, 0⟩

/-- BOOT_TREADY. -/
def rBOOT_TREADY : Reg :=
  ⟨0x35418, 0x35400, 0x0, 1, 0x0, 1, [⟨15, 0, .ro, 0, .any⟩]⟩

/-- BOOT_TREADY.V. -/
abbrev BOOT_TREADY : Fld := ⟨0x35418, 15, 0⟩

/-- BOOT_UPADDR. -/
def rBOOT_UPADDR : Reg :=
  ⟨0x35420, 0x35400, 0x0, 1, 0x0, 1, [⟨25, 6, .rw, 0, .any⟩]⟩

/-- BOOT_UPADDR.ADDR. -/
abbrev BOOT_UPADDR_ADDR : Fld := ⟨0x35420, 25, 6⟩

/-- BOOT_UPCTL. -/
def rBOOT_UPCTL : Reg :=
  ⟨0x35424, 0x35400, 0x0, 1, 0x0, 1, [⟨0, 0, .wo, 0, .any⟩]⟩

/-- BOOT_UPCTL.GO. -/
abbrev BOOT_UPCTL_GO : Fld := ⟨0x35424, 0, 0⟩

/-- BOOT_UPSTS. -/
def rBOOT_UPSTS : Reg :=
  ⟨0x35428, 0x35400, 0x0, 1, 0x0, 1, [⟨15, 8, .ro, 0, .any⟩, ⟨1, 0, .ro, 0, .any⟩]⟩

/-- BOOT_UPSTS.REASON. -/
abbrev BOOT_UPSTS_REASON : Fld := ⟨0x35428, 15, 8⟩

/-- BOOT_UPSTS.STATE. -/
abbrev BOOT_UPSTS_STATE : Fld := ⟨0x35428, 1, 0⟩

/-- BOOT_GCTL. -/
def rBOOT_GCTL : Reg :=
  ⟨0x35430, 0x35400, 0x0, 1, 0x0, 1, [⟨1, 1, .wo, 0, .any⟩, ⟨0, 0, .wo, 0, .any⟩]⟩

/-- BOOT_GCTL.ERASE. -/
abbrev BOOT_GCTL_ERASE : Fld := ⟨0x35430, 1, 1⟩

/-- BOOT_GCTL.STORE. -/
abbrev BOOT_GCTL_STORE : Fld := ⟨0x35430, 0, 0⟩

/-- BOOT_GSTS. -/
def rBOOT_GSTS : Reg :=
  ⟨0x35434, 0x35400, 0x0, 1, 0x0, 1, [⟨16, 16, .ro, 0, .any⟩, ⟨13, 8, .ro, 0, .any⟩, ⟨7, 0, .ro, 0, .any⟩]⟩

/-- BOOT_GSTS.BUSY. -/
abbrev BOOT_GSTS_BUSY : Fld := ⟨0x35434, 16, 16⟩

/-- BOOT_GSTS.CH. -/
abbrev BOOT_GSTS_CH : Fld := ⟨0x35434, 13, 8⟩

/-- BOOT_GSTS.REASON. -/
abbrev BOOT_GSTS_REASON : Fld := ⟨0x35434, 7, 0⟩

/-- The registers of BOOT. -/
def regsBOOT : List Reg :=
  [rBOOT_ID, rBOOT_FWREL, rBOOT_STS, rBOOT_IMG, rBOOT_HKSTS, rBOOT_TREADY, rBOOT_UPADDR, rBOOT_UPCTL, rBOOT_UPSTS, rBOOT_GCTL, rBOOT_GSTS]

/-! QUE (spec chapter 24). -/

/-- QUE_ERRSTS (R10). -/
abbrev QUE_ERRSTS : Nat := 0x34000

/-- The registers of QUE. -/
def regsQUE : List Reg :=
  []

/-- The blocks of BAR0 (R653). -/
def blocks : List Blk :=
  [⟨0x00000, 0x1BFFF, CRS_ERRSTS, .ckFld, regsCRS⟩,
   ⟨0x1C000, 0x24FFF, CAN_ERRSTS, .ckFld, regsCAN⟩,
   ⟨0x25000, 0x27FFF, EVM_ERRSTS, .ckFab, regsEVM⟩,
   ⟨0x28000, 0x29FFF, TIM_ERRSTS, .ckFab, regsTIM⟩,
   ⟨0x2A000, 0x2BFFF, GRD_ERRSTS, .ckAon, regsGRD⟩,
   ⟨0x2C000, 0x2DFFF, MEM_ERRSTS, .ckFld, regsMEM⟩,
   ⟨0x2E000, 0x2FFFF, RCG_ERRSTS, .ckFab, regsRCG⟩,
   ⟨0x30000, 0x30FFF, WIN_ERRSTS, .ckAon, regsWIN⟩,
   ⟨0x31000, 0x317FF, SER_ERRSTS, .ckFld, regsSER⟩,
   ⟨0x31800, 0x31FFF, BND_ERRSTS, .ckSys, regsBND⟩,
   ⟨0x32000, 0x323FF, AFE_ERRSTS, .ckAon, regsAFE⟩,
   ⟨0x32400, 0x327FF, MSH_ERRSTS, .ckFab, regsMSH⟩] ++
  [⟨0x32800, 0x32BFF, PSC_ERRSTS, .ckFab, regsPSC⟩,
   ⟨0x32C00, 0x32FFF, EPT_ERRSTS, .ckFab, regsEPT⟩,
   ⟨0x33000, 0x333FF, TEN_ERRSTS, .ckSys, regsTEN⟩,
   ⟨0x33400, 0x337FF, RNG_ERRSTS, .ckSys, regsRNG⟩,
   ⟨0x33800, 0x33BFF, ROL_ERRSTS, .ckSys, regsROL⟩,
   ⟨0x33C00, 0x33FFF, ICU_ERRSTS, .ckSys, regsICU⟩,
   ⟨0x34000, 0x343FF, QUE_ERRSTS, .ckSys, regsQUE⟩,
   ⟨0x34400, 0x347FF, CLK_ERRSTS, .ckAon, regsCLK⟩,
   ⟨0x34800, 0x34BFF, RST_ERRSTS, .ckAon, regsRST⟩,
   ⟨0x34C00, 0x34FFF, PWR_ERRSTS, .ckAon, regsPWR⟩,
   ⟨0x35000, 0x353FF, NVS_ERRSTS, .ckSys, regsNVS⟩,
   ⟨0x35400, 0x357FF, BOOT_ERRSTS, .ckSys, regsBOOT⟩]

/-- The block whose span holds an offset. -/
def blkAt (off : Nat) : Option Blk := blocks.find? fun b => decide (b.base ≤ off) && decide (off ≤ b.last)

/-- The element of a register array that lies at an offset. -/
def Reg.index (r : Reg) (off : Nat) : Option (Nat × Nat) :=
  if off < r.off then none
  else
    let d := off - r.off
    let i := if r.s1 = 0 then 0 else d / r.s1
    let m := if r.s1 = 0 then d else d % r.s1
    let j := if r.s2 = 0 then 0 else m / r.s2
    let q := if r.s2 = 0 then m else m % r.s2
    if q = 0 ∧ i < r.c1 ∧ j < r.c2 then some (i, j) else none

/-- The register of a list that lies at an offset, with its indices. -/
def findReg (off : Nat) : List Reg → Option (Reg × Nat × Nat)
  | [] => none
  | r :: rs =>
    match r.index off with
    | some (i, j) => some (r, i, j)
    | none => findReg off rs

/-- The register at a BAR0 offset. -/
def regAt (off : Nat) : Option (Reg × Nat × Nat) :=
  match blkAt off with
  | some b => findReg off b.regs
  | none => none

/-- The reset value of a register: its fields' reset values in their places. -/
def Reg.rst (r : Reg) : Word := Word.ofNat (r.fds.foldl (fun n f => n + f.rst * 2 ^ f.lo) 0)

/-- The value an offset reads as while the register map does not list it: the reset value of its register, else 0.
The guard's own monitors 32-95 read EVEDGE and OUTSEL fixed at 0b10 (R190). -/
def rstAt (off : Nat) : Word :=
  if 0x30500 ≤ off ∧ off < 0x30D00 ∧ off % 0x20 = 0 then 0x2800#32 else
  match regAt off with
  | some (r, _, _) => r.rst
  | none => 0

/-- The bits of a register its table names. -/
def Reg.known (r : Reg) : Nat := r.fds.foldl (fun n f => n + (2 ^ (f.hi + 1) - 2 ^ f.lo)) 0

/-- A register of which every field is RO ignores writes (R8). -/
def Reg.readOnly (r : Reg) : Bool := r.fds.all fun f => f.acc == .ro

/-- A register with an RWL field (R8). -/
def Reg.lockable (r : Reg) : Bool := r.fds.any fun f => f.acc == .rwl

end Sys2Proof.Machine
end

