-- ==== Sys2Proof/Machine/State.lean ====
section
/-! DEFINITION. The state of the hub: every register (in `regs`, by BAR0 offset), every queue, buffer, counter, mode and pin
behind the registers, and the queue of waiting commands. Plain data throughout. -/
namespace Sys2Proof.Machine

/-- Why the hub stops with a fault. No command of the spec stops the block: none is raised. -/
inductive Fault where
  /-- Raised by no meaning. Safe: a stop proves nothing. -/
  | never
deriving DecidableEq, Repr

/-- Why the hub refuses a command. -/
inductive Refusal where
  /-- The command has no meaning yet; raised by the dispatch alone. Safe: nothing is claimed of it. -/
  | notModelled (mnemonic : String)
deriving DecidableEq, Repr

/-- A transaction on the memory port (R203, R206-R208): command (none in continuous-read mode), address bytes as sent, mode byte, dummy
cycles with those of the mode byte, bytes sent, count of bytes read; the lanes of the command, address and data phases; DIV. -/
structure FlashTx where
  cmd : Option Nat
  addr : List Nat := []
  mode : Option Nat := none
  dummy : Nat := 0
  data : List Nat := []
  rx : Nat := 0
  lanes : Nat × Nat × Nat
  div : Nat
deriving DecidableEq, Repr

/-- What leaves the hub: messages, frames, memory writes and interrupts, newest first in State.out. -/
inductive Out where
  /-- MSI-X vector k (R542). -/
  | msix (k : Nat)
  /-- A 64-byte flit on bond port p, in bytes (R480). -/
  | flit (p : Nat) (bytes : List Nat)
  /-- A codeword of ten flits on lane y of bond port p: its PAM4 levels, 0 to 3, in order of sending (R476). -/
  | codeword (p y : Nat) (levels : List Nat)
  /-- An alignment codeword on lane y of bond port p (R476). -/
  | alignment (p y : Nat)
  /-- A DMA write of bytes at a host address, traffic class 0, without No Snoop, with Relaxed Ordering or not (R405, R414). -/
  | write (relaxed : Bool) (addr : Nat) (bytes : List Nat)
  /-- A frame on course bus b, its first bit of /S/ at a bit time of the cycle, as code groups from its first /P/ to its /T/, each
  sent bit 0 first (R64, R65). -/
  | frame (b at_ : Nat) (groups : List Nat)
  /-- A run of serial master port p: the select asserted (none while it is disabled), the SPI mode, and for each selection the level of SDO
  in each SCK cycle (R196). -/
  | serial (p : Nat) (sel : Option Nat) (mode : Nat) (sdo : List (List Bool))
  /-- The bits a slave port has driven on SDO during a word (R201). -/
  | slave (p : Nat) (sdo : List Bool)
  /-- A transaction on the memory port. -/
  | flash (t : FlashTx)
  /-- A frame on CAN port p from message buffer mb: its bits on CANx_TXD, and CKCAN cycles of a nominal bit, of a data-phase bit, and of
  the secondary sample point after the measured delay with TDCEN set (R209). -/
  | can (p mb : Nat) (bits : List Bool) (nom dat : Nat) (tdc : Option Nat)
  /-- n dominant bits on CANx_TXD while receiving: an acknowledgement, or an active error flag (R209, R225). -/
  | canDom (p n : Nat)
deriving DecidableEq, Repr

/-! Time and timers (spec/02_combination_time_and_timers.md). -/

/-- The CT counter and the always-on count (R29, R42). -/
structure TimeS where
  /-- The 96-bit accumulator; CT is its bits 95:32. -/
  acc : Nat := 0
  /-- Sum of all CT steps since power-on reset (R39). -/
  stepSum : Int := 0
  /-- CKFAB periods since power-on reset, counted whether or not CKFAB runs: the model's own clock. -/
  cyc : Nat := 0
  /-- TIM_AONCNT, 64 bits. -/
  aon : Nat := 0
  /-- The always-on generator's 32.32 ratio per CKAON cycle (R42). -/
  ratio : Nat := 0
  /-- CKFAB runs. -/
  fab : Bool := false
  /-- The always-on generator carries CT: from the CKAON edge after CKFAB stops to the CKAON edge after it restarts (R42). -/
  gen : Bool := true
deriving DecidableEq, Repr

/-- The time servo and SYNC discipline (R34-R48). -/
structure SrvS where
  /-- t1 of the exchange in progress, and the elapsed count then. -/
  t1 : Option (Nat × Nat) := none
  /-- Elapsed count when the last exchange was started. -/
  lastStart : Nat := 0
  /-- Elapsed count at the last usable exchange, or at the start of following. -/
  lastGood : Nat := 0
  /-- Consecutive exchanges within LOCKTHR, to 16. -/
  lockRun : Nat := 0
  /-- Consecutive exchanges beyond 4 LOCKTHR, to 4. -/
  badRun : Nat := 0
  /-- Increments applied over the exchanges since the hub last entered LOCKED, newest first, at most 1,024 (R37). -/
  incs : List Nat := []
  /-- Path delays measured, newest first. -/
  delays : List Int := []
  /-- SYNC pin level driven in OUTPUT mode. -/
  syncPin : Bool := false
  /-- Elapsed count at which the output pulse ends (R39). -/
  pulseEnd : Option Nat := none
  /-- Last SYNC output instant acted on (R40). -/
  lastPulse : Option Nat := none
  /-- TIM_SYNCUTC has been written and waits for its edge (R45). -/
  utcArmed : Bool := false
  /-- Expected CT of the next SYNC edge. -/
  expected : Option Nat := none
  /-- Increment when discipline began. -/
  beginInc : Nat := 0
  /-- Elapsed count and increment at the last discipline adjustment. -/
  lastAdj : Nat := 0
  /-- Consecutive rejected SYNC edges. -/
  rejRun : Nat := 0
  /-- Elapsed count at the last accepted SYNC edge. -/
  lastAccept : Nat := 0
  /-- UTC of the next edge, as taken when TIM_SYNCUTCHI was written and moved on since (R45). -/
  utc : Nat := 0
  /-- When samples began or ceased to carry HOLDOVER, as elapsed counts, newest first (R33). -/
  hold : List (Nat × Bool) := []
deriving DecidableEq, Repr

/-- One timer unit behind its registers (R50-R55). -/
structure TuS where
  /-- The 48-bit counter. -/
  cnt : Nat := 0
  /-- The 33-bit prescaler accumulator. -/
  acc : Nat := 0
  /-- EN set with STARTCT, waiting for its start instant. -/
  waiting : Bool := false
  /-- Capture queue 0, head first: counter and CT of each entry. -/
  cap0 : List (Nat × Nat) := []
  /-- Capture queue 1. -/
  cap1 : List (Nat × Nat) := []
  /-- The head of queue 0 is held for reading. -/
  held0 : Bool := false
  /-- The head of queue 1 is held for reading. -/
  held1 : Bool := false
  /-- The level driven on the unit's TMx_IO. -/
  pin : Bool := false
  /-- The last match that acted on the pin: its period, its channel, and the level before it (R54). -/
  acted : Option (Nat × Nat × Bool) := none
  /-- The start instant, taken when TUxSTARTHI was written (R52). -/
  start : Nat := 0
  /-- The compare values, each taken when its HI word was written and moved on by its matches (R53). -/
  cmps : List Nat := [0, 0, 0, 0]
deriving DecidableEq, Repr

/-! Interrupt controller (spec/17_interrupt_controller.md). -/

/-- One interrupt source (R537-R547). -/
structure SrcS where
  en : Bool := false
  prio : Nat := 1
  tgt : Nat := 0
  /-- REFIRE: false COUNT, true REPEND. -/
  refire : Bool := false
  /-- Coalescing count less one. -/
  cnt : Nat := 0
  /-- Coalescing time in microseconds. -/
  time : Nat := 1000
  /-- The level of a tenant source (R410); a hub source's level is its latch. -/
  level : Bool := false
  /-- A TEST force is in place. -/
  force : Bool := false
  /-- Elapsed count at which the coalescing window opened. -/
  win : Option Nat := none
  /-- Arrivals counted for the window. -/
  wcount : Nat := 0
  /-- COUNT of R544. -/
  count : Nat := 0
  /-- REPEND latch. -/
  repend : Bool := false
  /-- An ALERT record counts for the source (R365). -/
  alert : Bool := false
  /-- Claimed, end-of-interrupt not yet written. -/
  active : Bool := false
  /-- ELIGIBLE, with the order in which it became so. -/
  elig : Option Nat := none
  /-- The target holding the route. -/
  route : Option Nat := none
  /-- The target that last claimed the source. -/
  last : Option Nat := none
deriving DecidableEq, Repr

/-- One interrupt target behind its register (R541-R545). -/
structure TgtS where
  /-- Entries (source, priority), top first. -/
  stack : List (Nat × Nat) := []
  /-- Priority of the source last announced; 0 for none. -/
  ann : Nat := 0
  lastCnt : Nat := 0
  lastErr : Nat := 0
deriving DecidableEq, Repr

/-- One MSI-X table entry with its pending bit. -/
structure MsixS where
  lo : Nat := 0
  hi : Nat := 0
  data : Nat := 0
  mask : Bool := true
  pend : Bool := false
deriving DecidableEq, Repr

/-- The interrupt controller behind its registers. -/
structure IcuS where
  srcs : Tbl SrcS := {}
  tgts : Tbl TgtS := {}
  msix : Tbl MsixS := {}
  /-- The MSI-X function mask. -/
  fmask : Bool := false
  /-- Sources made ELIGIBLE so far: the order of R541. -/
  eligN : Nat := 0
  /-- Hub sources raised while the controller's clock is stopped, oldest first (R550). -/
  deferred : List Nat := []
deriving DecidableEq, Repr

/-! Event matrix (spec/18_event_matrix_and_queues.md). -/

/-- An event on its way through the matrix: producer, time-stamp, CKFAB period of arrival, the channels that carry it and have not
delivered it with the consumers they named at its entry (R556), and whether its producer was triggered more than once (R555). -/
structure EvS where
  prod : Nat
  ct : Nat
  at_ : Nat
  to_ : List (Nat × Nat)
  merged : Bool := false
deriving DecidableEq, Repr

/-- An entry of an event capture queue (R559). -/
structure CqE where
  ct : Nat
  prod : Nat
  merged : Bool
deriving DecidableEq, Repr

/-- An event capture queue: entries head first, and whether the head is held. -/
structure CqS where
  ents : List CqE := []
  held : Bool := false
deriving DecidableEq, Repr

/-- The event matrix behind its registers. -/
structure EvmS where
  /-- Events emitted and not yet delivered, oldest first. -/
  flight : List EvS := []
  queues : Tbl CqS := {}
deriving DecidableEq, Repr

/-! Clocks, resets, power and pins (spec/19, 20, 22, 23, 25). -/

/-- The power states of R589. -/
inductive PState where
  | run | doze | watch | hibernate | off
deriving DecidableEq, Repr

/-- Reset kinds of R571 that run in steps. -/
inductive RKind where
  | warm | core | hk
deriving DecidableEq, Repr

/-- A reset in progress (R575): its kind, its source code, its step and the elapsed count at its start. -/
structure RstS where
  kind : RKind
  src : Nat
  step : Nat
  t0 : Nat
deriving DecidableEq, Repr

/-- An entry to WATCH, HIBERNATE or OFF in progress (R591). -/
structure EntryS where
  target : PState
  step : Nat
  t0 : Nat
  /-- The buses that have reached their commit points (R591 step 2). -/
  stopped : List Nat := []
deriving DecidableEq, Repr

/-- Clocks, resets, power and the control pins. -/
structure SysS where
  /-- The host link is up. -/
  hostLink : Bool := false
  /-- A reset in progress. -/
  rst : Option RstS := none
  /-- A reset requested through RST_CTL and the elapsed count at which it begins (R575). -/
  rstReq : Option (RKind × Nat) := none
  /-- The TAP's instruction register (R649): IDCODE after Test-Logic-Reset. -/
  ir : Nat := 1
  /-- The boundary register as last shifted in, one bit for each pin of `scanPins` (R649). -/
  cells : List Bool := []
  /-- Elapsed count of the last watchdog expiry (R574). -/
  lastWdt : Option Nat := none
  /-- Power state (R589). -/
  pstate : PState := .run
  /-- An entry in progress. -/
  entry : Option EntryS := none
  /-- Step of a wake in progress (R596), 0 for none. -/
  wake : Nat := 0
  /-- The wake in progress comes from a fall of the shed stage. -/
  wakeShed : Bool := false
  /-- Elapsed count at which a failed wake is tried again (R597). -/
  wakeRetry : Option Nat := none
  /-- Wake sources latched for a later wake. -/
  wakeLatch : Nat := 0
  /-- PWR_WAKEAT as armed, at the write of its HI word (R595). -/
  wakeAtCt : Option Nat := none
  /-- Elapsed count since which the trigger of the stage in force has stayed clear (R600). -/
  clearSince : Option Nat := none
  /-- Thermal shutdown in progress (R624). -/
  thermal : Bool := false
  /-- PFAIL_N level. -/
  pfailN : Bool := true
  /-- PMIC_PG level. -/
  pmicPg : Bool := false
  /-- PMIC_EN level driven. -/
  pmicEn : Bool := false
  /-- HOSTWAKE_N asserted. -/
  hostWake : Bool := false
  /-- PE_WAKE_N asserted. -/
  peWake : Bool := false
  /-- VAFE is within its operating range (R662). -/
  vafe : Bool := true
  /-- The host link has been up since power-on reset. -/
  host : Bool := false
  /-- The host link is in L2 (R591). -/
  l2 : Bool := false
  /-- Elapsed count since which the hub has been ISOLATED without a host link up (R590). -/
  isoAt : Option Nat := none
  /-- Elapsed count at which step 4 of an entry began (R591). -/
  drainedAt : Nat := 0
  /-- Elapsed count at the start of the wake in progress (R596). -/
  wakeAt : Nat := 0
  /-- The root PLL is enabled (R568). -/
  pllEn : Bool := false
  /-- The field banks whose VIO is at or above its operating minimum, one bit each (R646). -/
  vio : Nat := 255
  /-- A reset that waits for a wake: its kind and source (R605). -/
  rstPend : Option (RKind × Nat) := none
  /-- The final commit (R603, R624): 0 none, 1 running, 2 ended. -/
  final : Nat := 0
  /-- Elapsed count at its start. -/
  finalAt : Nat := 0
  /-- Elapsed count since which Tj has been at or below 130 °C in thermal shutdown (R624). -/
  coolSince : Option Nat := none
  /-- CT of the last 1 s watch cycle run (R598). -/
  watchCyc : Option Nat := none
  /-- CKFAB periods at the rise of PORST_N (R630). -/
  porstAt : Nat := 0
  /-- CKFAB periods at the last rise of PMIC_EN, and of PMIC_PG (R630). -/
  pmicAt : Nat := 0
  pgAt : Nat := 0
  /-- The boot waits to raise PMIC_EN again after a failure (R630). -/
  pgWait : Bool := false
  /-- Configuration space, by byte offset of the 32-bit register: what the host has written (R404). -/
  cfg : Tbl Nat := {}
  /-- The last configuration request was answered with Request Retry Status (R636). -/
  cfgRetry : Bool := false
deriving DecidableEq, Repr

/-! Bond links (spec/15_bond_links.md). -/

/-- A sequenced flit kept by its sender (R480, R483). -/
structure FlitS where
  cls : Nat
  dst : Nat
  src : Nat
  nbytes : Nat
  som : Bool
  eom : Bool
  epoch : Nat
  payload : List Nat
  /-- The port whose receive buffer still holds a forwarded flit (R486). -/
  from_ : Option Nat := none
  /-- It has been replayed since its last fresh sending (R485). -/
  replayed : Bool := false
deriving DecidableEq, Repr

/-- A message being reassembled from flits (R481). -/
structure PartS where
  cls : Nat
  src : Nat
  dst : Nat
  epoch16 : Nat
  bytes : List Nat := []
  flits : Nat := 0
  /-- The message is dropped: its remaining flits are discarded. -/
  drop : Bool := false
deriving DecidableEq, Repr

/-- A whole message received for this hub and not yet acted on. -/
structure MsgS where
  port : Nat
  cls : Nat
  src : Nat
  bytes : List Nat
  flits : Nat
deriving DecidableEq, Repr

/-- What the peer presented when a session was set up (R488). -/
structure PeerS where
  /-- Its bond port on this link. -/
  port : Nat := 0
  hubid : Nat := 0
  bootcnt : Nat := 0
  combid : Nat := 0
  epoch : Nat := 0
deriving DecidableEq, Repr

/-- One bond port behind its registers. -/
structure PortS where
  /-- Training step 1-5 (R478), 0 while off. -/
  step : Nat := 0
  /-- Elapsed count at the start of the step. -/
  stepAt : Nat := 0
  /-- The working lane of a PROTECTED port. -/
  work : Nat := 0
  /-- MYSESS last taken (R489). -/
  mySess : Nat := 0
  /-- MYSESS last received from the peer, 0 for none. -/
  peerSess : Nat := 0
  peer : PeerS := {}
  lastHello : Nat := 0
  /-- SEQ of the next new sequenced flit. -/
  txNext : Nat := 0
  /-- Flits sent and not acknowledged, oldest first: the last has SEQ txNext - 1. -/
  unacked : List FlitS := []
  /-- Flits waiting for credit or window, by channel. -/
  q0 : List FlitS := []
  q1 : List FlitS := []
  q2 : List FlitS := []
  /-- Credits spent on each channel since the session began. -/
  spent0 : Nat := 0
  spent1 : Nat := 0
  spent2 : Nat := 0
  /-- CRED last learnt from the peer. -/
  cred0 : Nat := 0
  cred1 : Nat := 0
  cred2 : Nat := 0
  /-- A credit wait of the channel has been counted (R486). -/
  stall : Nat := 0
  /-- Flits sent since the last of VC2 (R487). -/
  since2 : Nat := 0
  /-- NEXTRX (R483). -/
  nextRx : Nat := 0
  /-- Cumulative flits freed on each channel (R484). -/
  freed0 : Nat := 0
  freed1 : Nat := 0
  freed2 : Nat := 0
  /-- Flits accepted since the last STATUS. -/
  accSince : Nat := 0
  /-- Elapsed count of the last STATUS sent. -/
  lastStatus : Nat := 0
  /-- The NEXTRX a NAK has been sent for. -/
  nakFor : Option Nat := none
  /-- Elapsed count when the peer's NEXTRX last moved, or a replay began. -/
  moved : Nat := 0
  /-- Elapsed count at the start of the last replay. -/
  replayAt : Option Nat := none
  parts : List PartS := []
  /-- Elapsed count at which the port entered HOLD (R479). -/
  holdAt : Option Nat := none
  /-- SPLIT_HOLD and RETRY_HOLD of this hold in ms, as ROL_HOLD stood at link-down (R523). -/
  splitMs : Nat := 20
  retryMs : Nat := 500
  /-- SPLIT_HOLD of this hold has been acted on. -/
  splitDone : Bool := false
  /-- The hub's epoch when the port entered HOLD. -/
  holdEpoch : Nat := 0
  /-- DORMANT since this elapsed count (R524). -/
  dormantAt : Option Nat := none
  /-- The flits of the codeword being filled, in order of sending (R476). -/
  code : List (List Nat) := []
  /-- Codewords with flits sent on the port. -/
  words : Nat := 0
  /-- Codewords sent on each lane. -/
  lane0 : Nat := 0
  lane1 : Nat := 0
deriving DecidableEq, Repr

/-- A directory entry (R514). -/
structure DirS where
  pos : Nat
  flags : Nat
  parent : Nat
  cport : Nat
  pport : Nat
  rank : Nat
  hubid : Nat
  bootcnt : Nat
  gen : Nat
deriving DecidableEq, Repr

/-- A routed message sent, kept for a REJECT (R21, R492), and whether it has been sent again. -/
structure SentS where
  dst : Nat
  cls : Nat
  ty : Nat
  body : List Nat
  again : Bool := false
deriving DecidableEq, Repr

/-- The bond ports and what they have received. -/
structure BndS where
  ports : Tbl PortS := {}
  /-- Messages sent of the classes CONFIG, SIGNAL, CPL, CASKACK and EVENT, newest last, at most 256. -/
  sent : List SentS := []
  /-- Messages received for this hub, oldest first. -/
  inbox : List MsgS := []
deriving DecidableEq, Repr

/-! Roles (spec/16_roles_splits_and_recoupling.md). -/

/-- A candidacy (R506). -/
structure CandS where
  capable : Bool := false
  rank : Nat := 0
  hubid : Nat := 0
  combid : Nat := 0
  epoch : Nat := 0
  /-- Old position; 16 for none. -/
  old : Nat := 16
deriving DecidableEq, Repr

/-- A REPORT entry (R509). -/
structure RepS where
  hubid : Nat
  parent : Nat
  combid : Nat
  bootcnt : Nat
  gen : Nat
  rank : Nat
  flags : Nat
  old : Nat
  ports : Nat
  hops : Nat
deriving DecidableEq, Repr

/-- A child in the running round: its port, the entries of its REPORT, and whether its DIRACK has come. -/
structure ChildS where
  port : Nat
  report : Option (List RepS) := none
  acked : Bool := false
deriving DecidableEq, Repr

/-- The round in progress (R508, R510). -/
structure RoundS where
  best : CandS
  /-- This hub's own candidacy. -/
  own : CandS
  parent : Option Nat := none
  hops : Nat := 0
  rootport : Nat := 0
  children : List ChildS := []
  /-- Hub identities of the candidates offered in this round, with their epochs (R19). -/
  epochs : List (Nat × Nat) := []
  /-- Elapsed count of the last adoption, ATTACH or DETACH. -/
  last : Nat := 0
  reported : Bool := false
  /-- The directory has been adopted. -/
  adopted : Bool := false
  /-- CT state on entering the round. -/
  ctState : Nat := 0
  /-- Role on entering the round. -/
  role : Nat := 0
deriving DecidableEq, Repr

/-- An outstanding CONFIG request (R521, R522, R529). -/
structure CfgReqS where
  tag : Nat
  dst : Nat
  ty : Nat
  body : List Nat
  at_ : Nat
  resent : Bool := false
deriving DecidableEq, Repr

/-- State transfer to a quarantined hub (R521). -/
structure XferS where
  pos : Nat
deriving DecidableEq, Repr

/-- A resend that waits (R518): the message, the epoch of the REJECT and the elapsed count of its arrival; or a message held until
the next directory or generation (R492). -/
structure StaleS where
  dst : Nat
  cls : Nat
  ty : Nat
  body : List Nat
  epoch : Nat
  at_ : Nat
  held : Bool := false
deriving DecidableEq, Repr

/-- The role logic behind its registers. -/
structure RolS where
  dir : List DirS := []
  /-- Directory of the round before, for ROL_NEWBOOT and old positions. -/
  prev : List DirS := []
  /-- Role of the directory's leader (R509 LROLE). -/
  lrole : Nat := 0
  /-- COMBGEN, which ROL_COMBGEN shows on a KEYSTONE alone (R519). -/
  combgen : Nat := 0
  /-- The hub was keystone-capable when it entered the last round (R17). -/
  capable : Bool := false
  /-- Highest round number seen. -/
  round : Nat := 0
  cur : Option RoundS := none
  /-- The last CONFIG TAG taken. -/
  tag : Nat := 0
  reqs : List CfgReqS := []
  /-- Answers stored by requester and TAG: type and body (R522). -/
  answers : List (Nat × Nat × Nat × List Nat) := []
  /-- The prepared item: requester, KIND, NEWGEN, item. -/
  prepared : Option (Nat × Nat × Nat × List Nat) := none
  /-- Items of the state transfer received so far. -/
  defs : List (List Nat) := []
  binds : List (List Nat) := []
  /-- A restart of the housekeeping cores has abandoned the transfer that was being received (R531). -/
  cutXfer : Bool := false
  xfers : List XferS := []
  /-- Elapsed count at the end of the last round led as KEYSTONE with transfers still to start. -/
  xferAt : Option Nat := none
  stale : List StaleS := []
deriving DecidableEq, Repr

/-! Tenants (spec/12_tenants_and_isolation.md). -/

/-- A memory window (R392); length 0 where none is defined. -/
structure WinS where
  base : Nat := 0
  len : Nat := 0
  r : Bool := false
  w : Bool := false
deriving DecidableEq, Repr

/-- A tenant context (R374). State: 0 FREE, 1 ACTIVE, 2 RESETTING. -/
structure CtxS where
  state : Nat := 0
  uid : Nat := 0
  home : Nat := 0
  ceil : Nat := 0
  srate : Nat := 0
  bw : Nat := 0
  streams : Nat := 0
  entries : Nat := 0
  inst : Nat := 0
  leases : Nat := 0
  /-- Sealing key and its generation (R394). -/
  key : List Nat := []
  keygen : Nat := 0
  wins : Tbl WinS := {}
deriving DecidableEq, Repr

/-- A binding entry (R381). -/
structure BindS where
  kind : Nat
  rfirst : Nat
  rlast : Nat
  first : Nat
  id : Nat
  owner : Nat
deriving DecidableEq, Repr

/-- Who waits for a command: the position of its home, the tenant, and the ring slot (at home) or the tag (elsewhere). -/
structure JobId where
  src : Nat
  remote : Bool
  tid : Nat
  ref : Nat
deriving DecidableEq, Repr

/-- A lease held at this hub (R384, R387). -/
structure LeaseS where
  idx : Nat
  grantor : Nat
  first : Nat
  count : Nat
  grantee : Nat
  expires : Nat
  /-- Reason of R438 once ended, with the casks still to be acknowledged: ring and producer cask number. -/
  ended : Option Nat := none
  casks : List (Nat × Nat) := []
  /-- The streams it closed, by handle (R388). -/
  lost : List Nat := []
  /-- The revoke that waits, and the elapsed count of the end. -/
  job : Option JobId := none
  at_ : Nat := 0
deriving DecidableEq, Repr

/-- A change distributed in two phases (R377, R522): the command that asked for it, KIND, generation, item, and the
positions still to answer. -/
structure DistS where
  job : JobId
  kind : Nat
  gen : Nat
  item : List Nat
  /-- Positions that have not answered PREPARE. -/
  wait : List Nat
  /-- Positions that have prepared the item. -/
  have_ : List Nat := []
  /-- COMMIT has been sent: `wait` names the positions still to finish. -/
  commit : Bool := false
deriving DecidableEq, Repr

/-- A KEYS slot with a key (R616). -/
structure KeyS where
  slot : Nat
  uid : Nat
  gen : Nat
  key : List Nat
deriving DecidableEq, Repr

/-- A KEYS slot with a retained pair, counted from the first of block 8 (R616). -/
structure PairS where
  slot : Nat
  id : Nat
  uid : Nat
deriving DecidableEq, Repr

/-- The tenancy logic. -/
structure TenS where
  ctx : Tbl CtxS := {}
  binds : List BindS := []
  leases : List LeaseS := []
  /-- Retained pairs of NODEID and UID, least recently held first (R383), written to KEYS or still to be. -/
  pairs : List PairS := []
  /-- KEYS entries, least recently written first (R396); one erased here may still stand in the store. -/
  keys : List KeyS := []
  /-- UID of an endpoint's owner by local index, 0 for unbound (R380). -/
  owners : Tbl Nat := {}
  /-- The distribution in progress. -/
  dist : Option DistS := none
deriving DecidableEq, Repr

/-! Rings, streams and casks (spec/13_rings_doorbells_and_casks.md). -/

/-- A command, completion or event ring. State as R412. -/
structure RingS where
  state : Nat := 0
  base : Nat := 0
  ord : Nat := 4
  /-- The hub's slot. -/
  hub : Nat := 0
  /-- The host's index, as last written to the doorbell word. -/
  host : Nat := 0
  /-- PHASE of the current pass (R413). -/
  phase : Bool := true
  /-- The DMA access in progress has failed once (R414). -/
  failed : Bool := false
deriving DecidableEq, Repr

/-- A finished command's outcome. -/
structure DoneS where
  status : Nat
  value : Nat := 0
  aux : Nat := 0
  result : List Nat := []
  retried : Bool := false
deriving DecidableEq, Repr

/-- A command in execution, at its home (R418). -/
structure CmdS where
  slot : Nat
  desc : List Nat
  /-- 0 not issued; 1 waiting for its argument block; 2 issued. -/
  stage : Nat := 0
  args : List Nat := []
  argFailed : Bool := false
  /-- Check 6 of R417 failed at the home. -/
  winfail : Bool := false
  /-- The tag of a remote command. -/
  tag : Option Nat := none
  done : Option DoneS := none
  /-- A DMA access for the command succeeded only on its retry. -/
  retried : Bool := false
  /-- The completion follows the entry of this cask: producing position, ring, producer cask number. -/
  after : Option (Nat × Nat × Nat) := none
  /-- Elapsed count at which it began to wait for that cask. -/
  afterAt : Nat := 0
  /-- Result block: 0 not written, 1 written and not confirmed, 2 confirmed, 3 lost. -/
  res : Nat := 0
  resFailed : Bool := false
deriving DecidableEq, Repr

/-- An event record waiting to be written (R437, R439), with the cask it follows: producing position, ring and producer cask
number; ring 8 stands for any. -/
structure EvRecS where
  src : Nat
  code : Nat
  flags : Nat
  pos : Nat
  ct : Nat
  a : Nat
  b : Nat
  c : Nat
  d : Nat
  dep : Option (Nat × Nat × Nat) := none
deriving DecidableEq, Repr

/-- A record of a cask (R434). Kinds: 1 SAMPLE, 4 GAP, 5 LOST, 6 MARK, 7 GRIST_BLOCK. -/
structure RecS where
  kind : Nat
  flags : Nat := 0
  /-- GAP: REASON. -/
  reason : Nat := 0
  stream : Nat := 0
  /-- SEQ; GAP: FIRST; LOST: COUNT; MARK: COOKIE. -/
  seq : Nat := 0
  geid : Nat := 0
  ct : Nat := 0
  v : Nat := 0
  /-- GRIST_BLOCK: element size, elements and their words. -/
  esize : Nat := 0
  nelem : Nat := 0
  data : List Nat := []
  /-- The stream has COMPACT set. -/
  compact : Bool := false
deriving DecidableEq, Repr

/-- A cask: open, forwarded, or held at its home. -/
structure CaskS where
  /-- The tenant's UID. -/
  uid : Nat
  ring : Nat
  /-- Producing position and producer cask number (R459). -/
  src : Nat
  pcn : Nat
  recs : List RecS := []
  /-- CLOSE code, 0 while open (R429). -/
  close : Nat := 0
  epoch : Nat := 0
  /-- Elapsed count at the first record. -/
  at_ : Nat := 0
  /-- CASKSEQ once assigned. -/
  cseq : Option Nat := none
  /-- Bytes of records already forwarded (R430). -/
  sent : Nat := 0
  /-- The close has been sent and is not yet accepted. -/
  closing : Bool := false
  /-- After a REJECT: 1 the one resend is due, 2 it has been made, 3 held until the next directory or generation (R460). -/
  block : Nat := 0
deriving DecidableEq, Repr

/-- A cask a home is gathering: producing position, UID, ring, number and bytes. -/
structure GatherS where
  port : Nat
  src : Nat
  uid : Nat
  ring : Nat
  pcn : Nat
  bytes : List Nat := []
deriving DecidableEq, Repr

/-- What was discarded for a tenant's ring and not yet declared (R432). -/
structure LossS where
  uid : Nat
  ring : Nat
  count : Nat := 0
  ct : Nat := 0
  /-- Streams with the first sequence number discarded. -/
  gaps : List (Nat × Nat) := []
deriving DecidableEq, Repr

/-- A cask ring at its home. -/
structure CRingS where
  state : Nat := 0
  sealed : Bool := false
  ord : Nat := 4
  size : Nat := 16384
  age : Nat := 10000
  cut : Nat := 1024
  base : Nat := 0
  /-- Slot of the next entry the hub writes back. -/
  hub : Nat := 0
  /-- POST and ACK as last written. -/
  post : Nat := 0
  ack : Nat := 0
  nextSeq : Nat := 0
  lost : Nat := 0
  started : Bool := false
  /-- The posted entry at the hub's slot, once read. -/
  entry : Option (List Nat) := none
  /-- Placement: 0 none, 1 contents written, 2 entry written back, 3 entry written back as VOID with a status. -/
  place : Nat := 0
  voidSt : Nat := 0
  /-- A read or write in progress has failed once. -/
  failed : Bool := false
  /-- The ring halted on a write: the slot is owed a VOID (R456). -/
  voidDue : Bool := false
  /-- A RING_STOP in progress. -/
  stopping : Option JobId := none
deriving DecidableEq, Repr

/-- A reset or destroy of a tenant under way at its home (R397, R398): FORGET, the keystone's position and TAG to answer. -/
structure EndS where
  destroy : Bool
  forget : Bool
  ack : Option (Nat × Nat)
deriving DecidableEq, Repr

/-- A tenant's rings at its home. -/
structure TRingS where
  cmd : RingS := {}
  cpl : RingS := {}
  evt : RingS := {}
  dberr : Bool := false
  /-- The descriptor read at the command ring's slot, and whether its read was retried. -/
  fetched : Option (List Nat × Bool) := none
  cmds : List CmdS := []
  /-- The completion written and not yet confirmed. -/
  cplPend : Option (List Nat) := none
  evq : List EvRecS := []
  evPend : Option EvRecS := none
  /-- Event records discarded since the last LOST record, and the CT of the first. -/
  evLost : Nat := 0
  evLostCt : Nat := 0
  crs : Tbl CRingS := {}
  /-- A reset of the tenant waits for its earlier commands (R397). -/
  draining : Bool := false
  ending : Option EndS := none
deriving DecidableEq, Repr

/-- A record, or missed samples (no record, with a reason), waiting for earlier ones of its stream (R445): `n` sequence numbers at a
time-stamp and local endpoint. -/
structure HoldS where
  ct : Nat
  ep : Nat
  n : Nat
  rec_ : Option RecS := none
  reason : Nat := 0
deriving DecidableEq, Repr

/-- A stream on this hub (R422-R425). -/
structure StreamS where
  slot : Nat
  tid : Nat
  ring : Nat
  first : Nat
  count : Nat
  grist : Bool
  compact : Bool
  maxrate : Nat
  /-- Next sequence number. -/
  seq : Nat := 0
  /-- First sequence number not yet declared, with its reason (R435). -/
  miss : Option (Nat × Nat) := none
  /-- Bucket level in units of 10^-9 samples, and the elapsed count it stands for (R390). -/
  level : Nat := 0
  levelAt : Nat := 0
  /-- Time-stamp of the last record placed (R41). -/
  last : Option Nat := none
  /-- After a backward step, until a record later than CT before the step: the time-stamp and endpoint up to which records are
  suppressed, and CT before the step (R41). -/
  supp : Option (Nat × Nat × Nat) := none
  /-- MARKs waiting: AT, COOKIE, command. -/
  marks : List (Nat × Nat × JobId) := []
  /-- The local endpoint of the last record placed. -/
  lastEp : Nat := 0
  /-- Records and missed samples that wait, by time-stamp and endpoint (R445). -/
  hold : List HoldS := []
deriving DecidableEq, Repr

/-- An event record that waits until the samples it refers to, by endpoint and time-stamp, are in casks (R447). -/
structure EvWaitS where
  uid : Nat
  home : Nat
  ev : EvRecS
  refs : List (Nat × Nat)
  alert : Bool
deriving DecidableEq, Repr

/-- A stream charged at its opener's home (R389). -/
structure ChargeS where
  tid : Nat
  /-- Its handle; 2^32 + ring slot while a STREAM_OPEN for another hub is under way. -/
  handle : Nat
  ring : Nat
  bw : Nat
  /-- Bytes of its largest record. -/
  big : Nat := 28
deriving DecidableEq, Repr

/-- A command being executed at this hub (R417). -/
structure JobS where
  id : JobId
  uid : Nat
  desc : List Nat
  args : List Nat := []
  winfail : Bool := false
  /-- Execution has begun and waits for something outside. -/
  started : Bool := false
  /-- It succeeded on its retry. -/
  retried : Bool := false
  /-- It completes once this cask of this hub is accepted by its home: UID, ring and number. -/
  wait : Option (Nat × Nat × Nat) := none
  /-- Elapsed count since which it waits. -/
  at_ : Nat := 0
deriving DecidableEq, Repr

/-- A remote command of this home (R248, R260). -/
structure RemS where
  tag : Nat
  tid : Nat
  slot : Nat
  dst : Nat
  body : List Nat
  at_ : Nat
  /-- Its one resend (R21, R251) has gone out. -/
  resent : Bool := false
  /-- It has been rejected with EPOCH_STALE and its one resend waits (R518). -/
  stale : Bool := false
deriving DecidableEq, Repr

/-- An entry of the watch event buffer: a record of a tenant's stream, or an event record for a tenant's home. -/
structure WatchS where
  uid : Nat
  home : Nat := 0
  ring : Nat := 0
  rec_ : Option RecS := none
  ev : Option EvRecS := none
deriving DecidableEq, Repr

/-- The rings, streams, casks and commands. -/
structure RngS where
  rings : Tbl TRingS := {}
  streams : List StreamS := []
  charges : List ChargeS := []
  /-- Open casks of this hub. -/
  open_ : List CaskS := []
  /-- Closed casks for other homes, not yet accepted, in close order. -/
  fwd : List CaskS := []
  /-- Last producer cask number taken, by UID and ring. -/
  pcns : List (Nat × Nat × Nat) := []
  /-- Next producer cask number expected, by identity of the producing hub, UID and ring. -/
  expect : List (Nat × Nat × Nat × Nat) := []
  gather : List GatherS := []
  /-- Closed casks held at this home, in close order. -/
  held : List CaskS := []
  loss : List LossS := []
  jobs : List JobS := []
  rems : List RemS := []
  /-- Transaction tags in flight (R248). -/
  tags : List Nat := []
  /-- Completions stored by issuing position and tag (R260): the CPL body. -/
  answers : List (Nat × Nat × List Nat) := []
  /-- CMD_DATA received by source and tag (R495). -/
  images : List (Nat × Nat × List Nat) := []
  /-- Event records for homes without a path: UID, home, number, record. -/
  evHeld : List (Nat × Nat × EvRecS) := []
  /-- Event records waiting for samples (R447). -/
  evWait : List EvWaitS := []
  /-- Next sequence number at this home, by stream handle, of the records accepted from other hubs (R470). -/
  nextOf : List (Nat × Nat) := []
  /-- Positions that a merge has brought in, with the streams already marked since (R470). -/
  marks : List (Nat × List Nat) := []
  /-- Watch records not yet placed, oldest first (R463). -/
  watch : List WatchS := []
  /-- First sequence number overwritten in the watch buffer, by stream. -/
  watchLost : List (Nat × Nat) := []
  /-- Event records overwritten in the watch buffer, by tenant's UID, with the CT of the first. -/
  watchEvLost : List (Nat × Nat × Nat) := []
deriving DecidableEq, Repr

/-! Endpoints and tables (spec/09_endpoints_formats_and_curves.md). -/

/-- An endpoint record (R269). SRC 0 is FREE. -/
structure EpS where
  src : Nat := 0
  ctl : Nat := 0
  fmt : Nat := 0
  curve : Nat := 0
  quant : Nat := 0
  unit : Nat := 0
  exp : Nat := 0
  loc : Nat := 0
  nodeid : Nat := 0
  report : Nat := 0
  elemsize : Nat := 0
  elem : Nat := 0
deriving DecidableEq, Repr

/-- A raw value waiting for the decoder (R280): endpoint, the source that delivered it, its bytes, time-stamp and flags. -/
structure RawS where
  ep : Nat
  src : Nat
  loc : Nat
  bytes : List Nat
  ct : Nat
  flags : Nat
  /-- Sum of the CT steps since its time-stamp was taken (R39). -/
  past : Int := 0
deriving DecidableEq, Repr

/-- A table load in progress: SRC (0 host memory, 1 memory port, 2 TABLES), the image where it is known, the command. -/
structure LoadS where
  src : Nat
  image : List Nat := []
  job : Option JobId := none
deriving DecidableEq, Repr

/-- The endpoint table and the banks. A bank is its image, empty when it holds nothing. -/
structure EptS where
  recs : Tbl EpS := {}
  active : List Nat := []
  /-- The CAN map in force, and that of the old bank while RETIRING (R212, R221). -/
  cans : List (List Nat) := []
  oldCans : List (List Nat) := []
  staged : List Nat := []
  /-- The old bank while RETIRING, and the records the switch has changed, as they stood before it. -/
  old : List Nat := []
  oldRecs : List (Nat × EpS) := []
  load : Option LoadS := none
  /-- EPT_SWCTLO:EPT_SWCTHI as last written with HI (R296). -/
  swReg : Nat := 0
  /-- SWCT in force once armed. -/
  swct : Nat := 0
  /-- Elapsed count at which the old bank retires at the latest (R297). -/
  retireAt : Nat := 0
  /-- Tags of transactions allocated before SWCT and not complete. -/
  oldTags : List Nat := []
  /-- Enabled MASH and RCG endpoints still to deliver a value stamped at or after SWCT. -/
  waitEps : List Nat := []
  /-- The time-stamp boundary of the last retired bank, for stragglers. -/
  retired : Option Nat := none
  queue : List RawS := []
  /-- The table image in the TABLES region, as stored (R295, R610). -/
  tablesImg : List Nat := []
deriving DecidableEq, Repr

/-! The mash array (spec/10_mash_array.md). -/

/-- The dynamic state of one stage (R311). -/
structure StgS where
  /-- DCB: baseline S, once loaded. -/
  base : Option Int := none
  /-- MA: integrator. -/
  integ : Nat := 0
  /-- MA: the last L integrator values; FIR: the last 63 inputs; newest first. -/
  hist : List Int := []
  /-- DEC: inputs to pass before the next kept one. -/
  ph : Nat := 0
  /-- DEC: inputs since the last kept one, that one not counted. -/
  since : Option Nat := none
  /-- DEC: time-stamp of its last input. -/
  lastT : Option Nat := none
  /-- DEC: syncs waiting for their first input. -/
  syncs : List Nat := []
  /-- FIR: current set. -/
  set : Nat := 0
  /-- FIR: fade running: target set, XF, outputs made. -/
  fade : Option (Nat × Nat × Nat) := none
  /-- FIR: switch waiting: target set, XF, effective CT. -/
  sw : Option (Nat × Nat × Nat) := none
deriving DecidableEq, Repr

/-- A mash channel: its committed registers and its state. States of R342. -/
structure ChS where
  cfg : Word := 0x08000100#32
  inp : Word := 0
  per : Word := 160
  stg : List Word := [0, 0, 0, 0, 0, 0]
  state : Nat := 0
  stgs : List StgS := []
  frozen : Bool := false
  /-- Freezes and thaws waiting: freeze, effective CT, and whether it is due at the next input whatever that is stamped (R312). -/
  cmds : List (Bool × Nat × Bool) := []
  /-- Input positions since start or restart. -/
  pos : Nat := 0
  /-- Last valid input since start or restart. -/
  held : Option Int := none
  /-- Markers in a row. -/
  run : Nat := 0
  /-- Flags gathered since the last output (R323). -/
  acc : Nat := 0
  /-- Time-stamp of the newest input processed. -/
  lastIn : Option Nat := none
  /-- Time-stamp of the previous output. -/
  lastOut : Option Nat := none
  ovf : Option (Nat × Nat) := none
  lateSync : Bool := false
  lateCmd : Bool := false
  subst : Nat := 0
  restarts : Nat := 0
  engine : Nat := 0
  load : Nat := 0
  dly : Nat := 0
  fill : Nat := 0
  /-- First granule and granules of the run in the history pool. -/
  gran : Nat := 0
  grans : Nat := 0
  /-- It has delivered an output. -/
  delivered : Bool := false
  /-- Suppressed outputs consume nothing: the first start after a commit (R327). -/
  quiet : Bool := true
  /-- Syncs that a channel in WAITSYNC may start at. -/
  syncs : List Nat := []
  /-- SUSPENDED out of WAITSYNC. -/
  wait : Bool := false
deriving DecidableEq, Repr

/-- An input in an engine's queue: channel, value (none for a missing marker), time-stamp, flags. -/
structure MInS where
  ch : Nat
  v : Option Int
  ct : Nat
  flags : Nat := 0
deriving DecidableEq, Repr

/-- An engine: its queue, and the markers owed for inputs dropped at a full queue (R333). -/
structure EngS where
  q : List MInS := []
  owed : List MInS := []
deriving DecidableEq, Repr

/-- The mash array behind its registers. -/
structure MshS where
  chans : Tbl ChS := {}
  /-- Coefficient sets, 272 bytes each; an undefined set is not listed. -/
  sets : Tbl (List Nat) := {}
  engs : Tbl EngS := {}
  /-- The armed sync (R329). -/
  armed : Option Nat := none
  /-- MSH_SYNCCTLO:MSH_SYNCCTHI as last loaded, by a write of HI (R344). -/
  syncCt : Nat := 0
  /-- The last periodic sync instant acted on. -/
  lastPer : Option Nat := none
deriving DecidableEq, Repr

/-! Recognizers (spec/11_recognizers.md). -/

/-- What triggers a step (R357). -/
inductive TrigK where
  /-- A sample of a slot; none for a missing one. -/
  | sample (slot : Nat) (v : Option Int)
  /-- An arrival on a recognizer consumer. -/
  | event (k : Nat)
  /-- A DWELL or STALE condition became true, or the instance resumed. -/
  | time
deriving DecidableEq, Repr

/-- A trigger of an instance, with its time-stamp and flags. -/
structure TrigS where
  inst : Nat
  kind : TrigK
  ct : Nat
  flags : Nat := 0
  /-- Sum of the CT steps since its time-stamp was taken (R39). -/
  past : Int := 0
deriving DecidableEq, Repr

/-- An input slot of an instance: its last valid value with its elapsed stamp, and whether the latest sample is missing. -/
structure SlotS where
  v : Option Int := none
  /-- Its time-stamp as an elapsed count and as CT. -/
  at_ : Int := 0
  ct : Nat := 0
  missing : Bool := true
deriving DecidableEq, Repr

/-- A recognizer instance (R352, R356). Modes: 0 RUN, 1 SUSPENDED, 2 in the watch engine. -/
structure InstS where
  mt : Nat
  cls : Nat
  watch : Bool
  owner : Nat
  ins : List (Option Nat)
  tgts : List Nat
  pars : List Int
  state : Nat := 0
  mode : Nat := 0
  entered : Nat := 0
  /-- Elapsed stamp at entry to the state, and at the start. -/
  enteredE : Int := 0
  startE : Int := 0
  tau : Nat := 0
  /-- τ as an elapsed stamp. -/
  tauE : Int := 0
  /-- Elapsed stamp of the start or of the last SETPAR: DWELL and STALE conditions become true no earlier. -/
  armE : Int := 0
  cnt : List Nat := [0, 0, 0, 0]
  slots : List SlotS := []
  /-- Conditions whose latch is set. -/
  latches : List Nat := []
  /-- Snapshots of RISE and FALL conditions, newest first: elapsed stamp and value. -/
  rings : List (Nat × List (Int × Int)) := []
  /-- Arrivals of EVENT conditions since entry. -/
  evc : List (Nat × Nat) := []
  /-- DWELL and STALE conditions already triggered. -/
  timed : List Nat := []
  trans : Nat := 0
  emits : Nat := 0
  suppr : Nat := 0
  skips : Nat := 0
  drops : Nat := 0
  skipped : Bool := false
  cascade : Bool := false
  outep : Nat := 0
  /-- Elapsed count of the running EMIT window, records placed in it, records suppressed since the last placed. -/
  emitAt : Nat := 0
  emitN : Nat := 0
  supSince : Nat := 0
deriving DecidableEq, Repr

/-- The recognizers behind their registers. -/
structure RcgS where
  /-- Machine tables; an undefined one is not listed. -/
  tables : Tbl (List Nat) := {}
  insts : List (Nat × InstS) := []
  /-- Triggers, oldest first. -/
  queue : List TrigS := []
  /-- Missing samples owed for sample triggers dropped at a full queue (R362). -/
  owed : List TrigS := []
deriving DecidableEq, Repr

/-! The poll scheduler (spec/08_poll_scheduler_and_transactions.md). -/

/-- A schedule entry (R227, R264). -/
structure EntS where
  idx : Nat
  tid : Nat
  kind : Nat
  src : Nat
  cls : Nat
  group : Nat
  target : Nat
  start : Nat
  period : Nat
  count : Nat
  lead : Nat
  select : Nat
  trig : Nat
  /-- COURSE: the node followed (R239). -/
  nodeid : Nat := 0
  /-- State of R265. -/
  state : Nat := 1
  /-- The state it is in but for its suspension. -/
  under : Nat := 1
  faulted : Bool := false
  latepend : Bool := false
  /-- The next instant to be committed. -/
  next : Option Nat := none
  /-- Instants still to run; none for no limit. -/
  left : Option Nat := none
  /-- Polled endpoints. -/
  eps : List Nat := []
  /-- Lane offsets held. -/
  offs : List Nat := []
  cost : Nat := 0
  /-- The last instant committed. -/
  last : Option Nat := none
  issued : Nat := 0
  done : Nat := 0
  retried : Nat := 0
  lasting : Nat := 0
  late : Nat := 0
  missed : Nat := 0
  /-- The watch engine runs the entry (R598, R599). -/
  watch : Bool := false
  /-- The instant from which a coherent group stops, while the entry still runs up to it (R243). -/
  cut : Option Nat := none
  /-- The instant from which the group runs again, when it is known before the entry has reached `cut` (R243). -/
  back : Option Nat := none
deriving DecidableEq, Repr

/-- A transaction of an entry (R248). -/
structure TxnS where
  tag : Nat
  ent : Nat
  src : Nat
  ct : Nat
  /-- COURSE: the bus, and the cycle whose beacon announced the instant. -/
  bus : Nat := 0
  cyc : Nat := 0
  /-- Polls not yet delivered, and delivered. -/
  eps : List Nat
  got : List Nat := []
  retried : Bool := false
  lost : Bool := false
  burst : Bool := false
deriving DecidableEq, Repr

/-- A serial run held beyond its port's queue (R240): port, instant, class, template, tag. -/
structure SerHS where
  port : Nat
  at_ : Nat
  cls : Nat
  tpl : Nat
  tag : Nat
  /-- Elapsed count by which it must start. -/
  due : Nat
deriving DecidableEq, Repr

/-- The scheduler behind its registers. -/
structure PscS where
  ents : List EntS := []
  txns : List TxnS := []
  held : List SerHS := []
  /-- Polls (endpoint, instant) delivered or declared missed that an entry has still to pass (R252). -/
  past : List (Nat × Nat) := []
deriving DecidableEq, Repr

/-! Course buses (spec/03_course_bus_line_and_cycle.md, spec/04_course_bus_nodes.md). -/

/-- A command for a node (R71, R121). `who`: 0 admission, 1 layout, 2 a tenant, 3 no reply is due. -/
structure NcmdS where
  opc : Nat
  addr : Nat := 0
  byid : Bool := false
  bcast : Bool := false
  nodeid : Nat := 0
  seq : Nat := 0
  param : List Nat := []
  imm : Bool := false
  who : Nat := 3
  job : Option JobId := none
  /-- CYCNO of the cycle it was last sent in. -/
  cyc : Nat := 0
  /-- Elapsed count at the end of its /T/. -/
  at_ : Nat := 0
  resent : Bool := false
deriving DecidableEq, Repr

/-- A node that holds an address. -/
structure NodeS where
  id : Nat := 0
  seq : Nat := 0
  /-- The command awaiting its reply. -/
  wait : Option NcmdS := none
  /-- Cycles in a row without a valid frame. -/
  missRun : Nat := 0
  /-- A valid frame of the node came in this cycle, wherever it fell (R85, R89). -/
  heard : Bool := false
  /-- A frame of its slot was accepted in this cycle. -/
  ok : Bool := false
  /-- Probation: position 0-3, 4 in place, 5 none free (R88). -/
  prob : Option Nat := none
  probNext : Bool := false
  /-- IRUN counted against the budget (R114). -/
  irun : Nat := 0
  /-- Admission is complete, and the first endpoint. -/
  done : Bool := false
  base : Nat := 0
  /-- Report descriptors, 16 bytes each (R128). -/
  reports : List (List Nat) := []
  /-- Spare sub-slot granted in this cycle. -/
  sub : Option Nat := none
  /-- Slot length in the layouts to come; 0 for none. -/
  want : Nat := 0
  /-- The end of its slot, and of its sub-slot, has been acted on in this cycle. -/
  ended : Bool := false
  /-- A frame of unknown type took its slot in this cycle. -/
  unk : Bool := false
deriving DecidableEq, Repr

/-- A slot layout (R79), in bit times. -/
structure LayT where
  w : Nat := 0
  ta : Nat := 0
  /-- Address, position, length. -/
  slots : List (Nat × Nat × Nat) := []
  ps : List Nat := []
  sj : Nat := 0
  ej : Nat := 0
  sg : Nat := 0
  us : List Nat := []
  ustep : Nat := 0
  e : Nat := 0
deriving DecidableEq, Repr

/-- A layout change (R124): its number, the layout, the nodes still to answer, EFFECTIVE once picked. -/
structure LchgS where
  lno : Nat
  lay : LayT
  wait : List Nat
  eff : Option Nat := none
deriving DecidableEq, Repr

/-- An admission (R113). -/
structure AdmS where
  addr : Nat
  nodeid : Nat
  nonce : Nat
  caps : Nat
  step : Nat := 1
  /-- The step's command or layout change is under way. -/
  busy : Bool := false
  /-- Ranged delays measured, newest first. -/
  ds : List Nat := []
  second : Bool := false
  ndb : List Nat := []
  /-- The number of the layout change announced for the step. -/
  lno : Option Nat := none
deriving DecidableEq, Repr

/-- A cycle on a bus: its number, CTREF, length, sample-at list, the elapsed count at its start, the step sum then, and the least CT
that a step in it started from or reached. -/
structure CycS where
  no : Nat := 0
  ref : Nat := 0
  len : Nat := 0
  sa : List (Nat × Nat) := []
  at_ : Nat := 0
  steps : Int := 0
  low : Option Nat := none
deriving DecidableEq, Repr

/-- A frame accepted in this cycle: its span in ticks, its node, what it passed on (endpoint, time-stamp). -/
structure PassS where
  first : Int
  last : Int
  addr : Nat
  vals : List (Nat × Nat) := []
  /-- The transactions it brought polls to, as they stood before. -/
  txns : List TxnS := []
  retry : Bool := false
  /-- The node as it stood before the frame, its CLEAN then, and, where the frame drifted, its correction waiting then. -/
  was : NodeS := {}
  clean : Nat := 0
  drift : Option (Option Int) := none
deriving DecidableEq, Repr

/-- A course bus. -/
structure BusS where
  /-- Elapsed count from which the first cycle may start (R78). -/
  from_ : Option Nat := none
  /-- Elapsed count at the handback of the watch engine (R95). -/
  back : Option Nat := none
  /-- The sample-at list committed for the next cycle. -/
  plan : Option (Nat × List (Nat × Nat)) := none
  cur : Option CycS := none
  prev : Option CycS := none
  /-- A beacon has been sent since the last power-on, warm or core reset. -/
  sent : Bool := false
  fresh : Bool := false
  /-- The join slot of the running cycle: offered, and its result so far. -/
  joinOpen : Bool := false
  joinres : Nat := 0
  adm : Option AdmS := none
  lchg : Option LchgS := none
  /-- A layout change is due once the running one ends: slots of removed nodes. -/
  relay : Bool := false
  lno : Nat := 0
  lay : LayT := {}
  /-- Commands not yet sent, oldest first. -/
  cmds : List NcmdS := []
  corr : List (Nat × Int) := []
  /-- Stray addresses to be sent DROP. -/
  drops : List Nat := []
  /-- Lost frames of this cycle that carried polls: position, address, dev. -/
  lost : List (Nat × Nat × Int) := []
  /-- Deviation of the last frame measured for an address in this cycle. -/
  devs : List (Nat × Int) := []
  /-- The GRANT of this cycle has been decided. -/
  granted : Bool := false
  /-- The books of the running cycle are closed: its slots and sub-slots have ended. -/
  closed : Bool := false
  /-- Cycles in a row without a valid frame from any admitted node. -/
  quiet : Nat := 0
  /-- Spans of frames discarded in this cycle (R86). -/
  bad : List (Int × Int) := []
  passed : List PassS := []
  /-- The bus runs at the watch rate (R94). -/
  watch : Bool := false
deriving DecidableEq, Repr

/-- A node's reservation (R135): its identity, first endpoint, report descriptors. -/
structure ResvS where
  nodeid : Nat
  base : Nat
  reports : List (List Nat)
deriving DecidableEq, Repr

/-- The course buses behind their registers. A node's key is 32 x bus + address. -/
structure CrsS where
  buses : Tbl BusS := {}
  nodes : Tbl NodeS := {}
  resv : List ResvS := []
  /-- Bus and address of the nodes to be sent DROP when the housekeeping cores return (R136). -/
  hkDrops : List (Nat × Nat) := []
deriving DecidableEq, Repr

/-! The guard, the front end and the monitors (spec/05_energy_guard.md, spec/06_analogue_front_end_and_windows.md). -/

/-- A guard channel behind its registers. -/
structure GuS where
  /-- Codes i and v converted in the last cycle and in the one before it (R143). -/
  code1 : Nat × Nat := (0, 0)
  code2 : Nat × Nat := (0, 0)
  /-- Completed buckets, newest first, at most 16, in picojoules (R144). -/
  hist : List Nat := []
  fill : Nat := 0
  /-- CKAON cycles in the filling bucket. -/
  cyc : Nat := 0
  /-- At the edge before, E exceeded ELIM and the channel was ON (R679). -/
  excess : Bool := false
  /-- Elapsed count and CKAON count of the last trip. -/
  tripAt : Nat := 0
  tripAon : Option Nat := none
  /-- E, in nanojoules, at a trip whose CT the next CKAON edge records; causes found until then join it (R147). -/
  tripE : Option Nat := none
  /-- CKAON counts of the last ON command accepted, of the last OFF command that turned it off, of the last OFF command or SAFE policy of
  any kind, and of the last automatic re-closure (R151, R152). -/
  onAon : Option Nat := none
  offAon : Option Nat := none
  offReq : Option Nat := none
  retryAon : Option Nat := none
  /-- Elapsed count at entry to ON. -/
  onAt : Nat := 0
deriving DecidableEq, Repr

/-- The guard, the loops and the monitors. -/
structure GrdS where
  chans : Tbl GuS := {}
  /-- Input voltages of the monitors, in units of 1/1024 mV (R177, R178). -/
  vin : Tbl Int := {}
  /-- Intervals of CT in which a loop was in compliance, newest first; an open one has no end (R175). -/
  comp : Tbl (List (Nat × Option Nat)) := {}
  /-- Rising edges of monitors with SPDEN, newest first, at most 256 (R184). -/
  edges : Tbl (List Nat) := {}
  /-- Elapsed count of a monitor's last edge. -/
  edgeAt : Tbl Nat := {}
  /-- Where the measured current of a loop stands while its drive acts (0 not judged, 1 below tolerance, 2 within, 3 above), and the
  elapsed count since when (R174). -/
  loops : Tbl (Nat × Nat) := {}
deriving DecidableEq, Repr

/-! Serial ports (spec/07_serial_memory_and_can_ports.md). -/

/-- A queue entry of a serial port (R196-R200). -/
structure SerQS where
  tpl : Nat
  /-- The instant it is scheduled at. -/
  at_ : Option Nat := none
  /-- Transactions it serves. -/
  tags : List Nat := []
  job : Option JobId := none
  /-- The tenant's own outgoing data. -/
  data : List Nat := []
  /-- Elapsed count by which it must start. -/
  due : Nat := 0
  /-- It runs a second time, on the template it started with. -/
  retry : Bool := false
  img : List Nat := []
deriving DecidableEq, Repr

/-- A running entry: the template it started with, the CT of its first select, and the elapsed count at which its last select is
negated. -/
structure SerRS where
  q : SerQS
  img : List Nat
  ct : Nat
  fin : Nat
deriving DecidableEq, Repr

/-- A serial port behind its registers. -/
structure SerPS where
  q : List SerQS := []
  run : Option SerRS := none
  /-- The retry ahead of the queue (R199, R200). -/
  again : Option SerQS := none
  /-- Elapsed count from which a select may be asserted again: CSIDLE after the last negation (R197). -/
  freeAt : Nat := 0
  /-- The 64-word queue of a slave port (R202). -/
  words : List RawS := []
deriving DecidableEq, Repr

/-- The serial ports. -/
structure SerS where
  ports : Tbl SerPS := {}
  /-- Templates, 32 bytes; an uncommitted one is not listed. -/
  tpls : Tbl (List Nat) := {}
deriving DecidableEq, Repr

/-! The non-volatile store (spec/21_nonvolatile_store_and_service_life.md). -/

/-- An entry of the block map (R612): STATE 1 WORKING, 2 SPARE_ERASED, 3 SPARE_DIRTY, 4 RETIRED. -/
structure BlkS where
  region : Nat := 15
  state : Nat := 4
  lblk : Nat := 0xFFFF
  erases : Nat := 0
  wrday : Nat := 0xFFFFFFFF
  wrhours : Nat := 0
deriving DecidableEq, Repr

/-- A life record (R621) that is visible, with the slot that holds it: KIND 1 CHECKPOINT, 2 BOOT, 3 SNAPSHOT. -/
structure LifeS where
  slot : Nat
  seq : Nat
  kind : Nat
  ct : Nat
  aon : Nat
  inc : Nat
  cnt : List Nat
deriving DecidableEq, Repr

/-- A journal record waiting to be written (R617, R618): KIND, BODY, DROPPED. -/
structure JqS where
  kind : Nat
  body : List Nat
  dropped : Nat
deriving DecidableEq, Repr

/-- A journal record that is visible: its SEQ, the logical block that holds it, its 64 bytes. -/
structure JrecS where
  seq : Nat
  lblk : Nat
  bytes : List Nat
deriving DecidableEq, Repr

/-- What a store operation writes: a journal record; a life record of a KIND; a key slot, a key slot's erasure, or a block of
retained pairs; a block as it is, for refresh. -/
inductive NvWhat where
  | journal (q : JqS)
  | life (kind : Nat)
  | key (uid gen : Nat) (key : List Nat) (job : JobId)
  | forget (uid : Nat)
  | rewrite
  | refresh
deriving DecidableEq, Repr

/-- A store operation, waiting or in progress: region, logical block, whether it writes its second phase (COMMIT, or the MAP record
of a whole-block replacement), whether its verify has failed once, and the spare a replacement writes into. -/
structure NvOpS where
  region : Nat
  lblk : Nat
  what : NvWhat
  second : Bool := false
  retried : Bool := false
  tgt : Option Nat := none
  /-- A program of it has passed on its retry (R15, R614). -/
  redone : Bool := false
deriving DecidableEq, Repr

/-- The entry of a physical block as manufactured (R611): the first blocks of a region work, the rest are its erased spares. -/
def nvBlkAt (p : Nat) : BlkS :=
  let mk (r base working : Nat) : BlkS :=
    if p < base + working then { region := r, state := 1, lblk := p - base } else { region := r, state := 2 }
  if p < 8 then mk 6 0 8 else if p < 36 then mk 0 8 28 else if p < 676 then mk 1 36 512 else if p < 996 then mk 2 676 256
  else if p < 1044 then mk 3 996 16 else if p < 1076 then mk 4 1044 16 else if p < 2048 then mk 5 1076 851 else {}

/-- The non-volatile store behind its registers. -/
structure NvsS where
  /-- Operations in order; the first is in progress. -/
  ops : List NvOpS := []
  /-- Physical blocks being erased, in order. -/
  erases : List Nat := []
  /-- The block map (R612). -/
  map : Tbl BlkS := {}
  /-- MAP itself: SEQ and entries of the newest base, and the 32 bytes of each log record after it, in log order. -/
  mapSeq : Nat := 0
  mapBase : Tbl BlkS := {}
  mapLog : List (List Nat) := []
  /-- The KEYS slots as the store holds them (R616). -/
  keys : List KeyS := []
  pairs : List PairS := []
  /-- The journal queue (R618). -/
  jq : List JqS := []
  /-- Visible journal records, oldest first. -/
  jrecs : List JrecS := []
  /-- Logical blocks of the circular log in its order, the head first; the slot of the head to be written next. -/
  jblks : List Nat := List.range 851
  jslot : Nat := 0
  /-- Records refused since the last one accepted (R617). -/
  jdrop : Nat := 0
  /-- Records charged to the budget: elapsed hour and count (R619). -/
  jbudget : List (Nat × Nat) := []
  /-- The next SEQ. -/
  jnext : Nat := 0
  /-- Visible life records, newest first, the next SEQ and the next slot. -/
  lifes : List LifeS := []
  lifeSeq : Nat := 0
  lifeSlot : Nat := 0
  /-- Life counters, the rise not yet recorded included (R621). -/
  cnt : Tbl Nat := {}
  /-- A SNAPSHOT was abandoned since the last power-on reset (R623). -/
  snapBad : Bool := false
  /-- CKFAB periods at the last refresh scan and the last CHECKPOINT. -/
  scanAt : Nat := 0
  lifeAt : Nat := 0
deriving DecidableEq, Repr

/-! Boot (spec/22_boot_and_bring_up.md). -/

/-- The firmware and guard images and what works on them. An erased slot is empty. -/
structure BootS where
  /-- Image slots A and B, as stored. -/
  a : List Nat := []
  b : List Nat := []
  /-- SHA-256 of the maker's public key, in FACTORY. -/
  keyDigest : List Nat := []
  /-- The guard image slot, as stored. -/
  guard : List Nat := []
  /-- A guard image operation in progress: what the slot is to hold. -/
  gop : Option (List Nat) := none
deriving DecidableEq, Repr

/-! CAN ports and the memory port (spec/07_serial_memory_and_can_ports.md). -/

/-- A frame pending on a transmit message buffer (R216, R217). -/
structure CanTxS where
  mb : Nat
  /-- Its identifier and its bits in the layout of R214, and its data. -/
  id : Nat
  data : List Nat
  job : JobId
  /-- Elapsed count at acceptance. -/
  at_ : Nat
  /-- It has had one error. -/
  retry : Bool := false
deriving DecidableEq, Repr

/-- A CAN port behind its registers. -/
structure CanPS where
  /-- Frames of the receive FIFO, oldest first: bytes in the layout of R214, CT. -/
  fifo : List (List Nat × Nat) := []
  pend : List CanTxS := []
  /-- Error counters of ISO 11898-1 (R218). -/
  tec : Nat := 0
  rec_ : Nat := 0
  /-- The port has stopped with this buffer's frame in transmission (R220). -/
  last : Option Nat := none
deriving DecidableEq, Repr

/-- The page buffer (R207): flash address of the page, gathered bytes by offset, elapsed count of the last write, its BAR0 offset. -/
structure PageS where
  addr : Nat
  bytes : List (Nat × Nat)
  at_ : Nat
  off : Nat
deriving DecidableEq, Repr

/-- A memory-port operation: a page program, or a raw command with its word and address (R207, R208). -/
inductive MemOp where
  | prog (p : PageS)
  | raw (v : Word) (addr data rx : Nat)
deriving DecidableEq, Repr

/-- The operation in progress: when BUSYBIT is polled from, when it is polled next, and whether a verification has failed. -/
structure MemRunS where
  op : MemOp
  since : Nat
  next : Nat
  retried : Bool := false
deriving DecidableEq, Repr

/-- A read of the window that waits (R208): its address, the line and the next one, the elapsed count of its arrival, and the requester
and TAG of a remote access. -/
structure WaitS where
  addr : Nat
  line : List Nat
  next : List Nat
  at_ : Nat
  who : Option (Nat × Nat) := none
deriving DecidableEq, Repr

/-- The memory port behind its registers. -/
structure MemS where
  /-- Prefetched lines, most recently used first: window address, 64 bytes (R205). -/
  lines : List (Nat × List Nat) := []
  last : Option Nat := none
  page : Option PageS := none
  /-- Operations waiting for the one in progress, oldest first. -/
  ops : List MemOp := []
  run : Option MemRunS := none
  waits : List WaitS := []
deriving DecidableEq, Repr


/-- The hub. -/
structure State where
  /-- Waiting commands, first in, first out. -/
  pending : List Instr := []
  /-- The BAR0 registers, by offset; an unlisted offset reads as its reset value. -/
  regs : Tbl Word := {}
  /-- MODEL'S OWN: free values drawn so far. -/
  free : Nat := 0
  /-- The data of the last BAR0 or BAR2 read. -/
  rdata : Nat := 0
  /-- The upper words captured by reads of lower words that capture both, by the offset of the lower word (R31, R579). -/
  caps : Tbl Nat := {}
  /-- What has left the hub, newest first. -/
  out : List Out := []
  time : TimeS := {}
  srv : SrvS := {}
  tus : Tbl TuS := {}
  icu : IcuS := {}
  evm : EvmS := {}
  sys : SysS := {}
  psc : PscS := {}
  crs : CrsS := {}
  grd : GrdS := {}
  ser : SerS := {}
  cans : Tbl CanPS := {}
  mem : MemS := {}
  ept : EptS := {}
  msh : MshS := {}
  rcg : RcgS := {}
  ten : TenS := {}
  rng : RngS := {}
  bnd : BndS := {}
  rol : RolS := {}
  nvs : NvsS := {}
  boot : BootS := {}
deriving DecidableEq, Repr

/-- The hub right after power-on reset: every register at its reset value (R8), every queue empty, boot stage RESET. -/
def State.reset : State := {}

end Sys2Proof.Machine
end

