-- ==== Sys2Proof/Machine/Ops.lean ====
section
/-! DEFINITION. The named operations every meaning is built from: registers and their fields, error status, the interrupt
controller's settling, events, combination time, and BAR0 writes. -/
namespace Sys2Proof.Machine

/-- The answer of a meaning. -/
abbrev Res := Host.Outcome State Fault Refusal

/-! Registers. -/

/-- The word of a register. -/
def State.rd (s : State) (off : Nat) : Word := s.regs.get rstAt off

/-- Sets the word of a register. -/
def State.wr (s : State) (off : Nat) (v : Word) : State := { s with regs := s.regs.set rstAt off v }

/-- The value of a field. -/
def State.g (s : State) (f : Fld) : Nat := wbits (s.rd f.off) f.hi f.lo

/-- A field is not zero. -/
def State.on (s : State) (f : Fld) : Bool := s.g f != 0

/-- Sets a field. -/
def State.f (s : State) (f : Fld) (v : Nat) : State := s.wr f.off (wput (s.rd f.off) f.hi f.lo v)

/-- Adds to a counter, which saturates at its largest value (R12). -/
def State.incBy (s : State) (f : Fld) (n : Nat) : State :=
  s.f f (min (s.g f + n) (2 ^ (f.hi + 1 - f.lo) - 1))

/-- Raises a counter by one, saturating (R12). -/
def State.inc (s : State) (f : Fld) : State := s.incBy f 1

/-- A 64-bit value held in a LO and a HI register. -/
def State.g64 (s : State) (lo hi : Fld) : Nat := join32 (s.g lo) (s.g hi)

/-- Sets a LO and a HI register. -/
def State.f64 (s : State) (lo hi : Fld) (v : Nat) : State := (s.f lo (lo32 v)).f hi (hi32 v)

/-- Sets each field of a list to zero. -/
def State.zero (s : State) (fs : List Fld) : State := fs.foldl (fun s f => s.f f 0) s

/-- Every listed register whose offset lies in lo..hi goes back to its reset value. -/
def State.resetRegs (s : State) (lo hi : Nat) : State :=
  { s with regs := ⟨s.regs.cells.filter fun c => !(decide (lo ≤ c.1) && decide (c.1 ≤ hi))⟩ }

/-- Life counter i rises by n, saturating (R621). -/
def State.lifeInc (s : State) (i n : Nat) : State :=
  { s with nvs := { s.nvs with cnt := s.nvs.cnt.set (fun _ => 0) i (min (s.nvs.cnt.get (fun _ => 0) i + n) (2 ^ 32 - 1)) } }

/-- Applies f n times. -/
def times (f : State → State) : Nat → State → State
  | 0, s => s
  | n + 1, s => times f n (f s)

/-! Free values. -/

/-- A free value: one the spec leaves open (notes/assumptions/3.md). -/
def State.fresh (s : State) : Nat := Config.freeValue s.free

/-- Moves on to the next free value. -/
def State.drew (s : State) : State := { s with free := s.free + 1 }

/-! Combination time (R29, R39). -/

/-- CT: bits 95:32 of the accumulator. -/
def State.ct (s : State) : Nat := s.time.acc / 2 ^ 32 % 2 ^ 64

/-- The elapsed count: CT less the sum of all steps (R39). -/
def State.elapsed (s : State) : Nat := ((s.ct : Int) - s.time.stepSum).toNat

/-- CT at the next CKAON edge (R147). -/
def State.aonEdgeCt (s : State) : Nat :=
  let acc := if !s.time.gen then s.time.acc + (48 - s.time.cyc % 48) * join32 (s.g TIM_CTINCLO) (s.g TIM_CTINCHI)
    else s.time.acc + s.time.ratio
  acc / 2 ^ 32 % 2 ^ 64

/-- The increment (R30). -/
def State.incr (s : State) : Nat := s.g64 TIM_CTINCLO TIM_CTINCHI

/-! Running conditions (R572, R586, R601). -/

/-- The shed stage in force. -/
def State.stage (s : State) : Nat := s.g PWR_STS_STAGE

/-- The boot has not reached HOSTREADY, or stands in RECOVERY (R630, R634). -/
def State.booting (s : State) : Bool := decide (s.g BOOT_STS_STAGE < 8) || s.g BOOT_STS_STAGE == 0xA

/-- The instructions of the TAP (R649). -/
inductive TapIns where
  | extest | idcode | sample | clamp | highz | bypass
deriving DecidableEq, Repr

/-- The instruction a code selects: every other code selects BYPASS (R649). -/
def tapIns (code : Nat) : TapIns :=
  match code with
  | 0x00 => .extest
  | 0x01 => .idcode
  | 0x02 => .sample
  | 0x03 => .clamp
  | 0x04 => .highz
  | _ => .bypass

/-- EXTEST, CLAMP or HIGHZ is the TAP's instruction: the core is held in reset (R650). -/
def SysS.tap (y : SysS) : Bool :=
  match tapIns y.ir with
  | .extest | .clamp | .highz => true
  | _ => false

/-- The boot, a reset, the TAP, a wake before its logic step, or the final commit holds the core domain. -/
def State.coreHeld (s : State) : Bool :=
  s.booting || s.sys.tap || (decide (1 ≤ s.sys.wake) && decide (s.sys.wake ≤ 3)) || s.sys.final != 0 || match s.sys.rst with
    | some r => r.kind != .hk && decide (2 ≤ r.step)
    | none => false

/-- The core domain's clocks run: RUN or DOZE below shed stage 4, and no reset holds it. -/
def State.coreRuns (s : State) : Bool :=
  (s.sys.pstate == .run || s.sys.pstate == .doze) && decide (s.stage < 4) && !s.coreHeld

/-- The housekeeping cores run: no housekeeping-core restart is under way (R571). -/
def State.hkRuns (s : State) : Bool := match s.sys.rst with
  | some r => r.kind != .hk
  | none => true

/-- The supply of field bank k is at or above its operating minimum (R645, R646). -/
def State.vioOn (s : State) (k : Nat) : Bool := nbit s.sys.vio k

/-- The interrupt controller's clock runs (R589). -/
def State.icuRuns (s : State) : Bool := s.coreRuns && s.sys.pstate == .run

/-- An access to the block with this error status is answered as R581 states for a stopped clock (also R634). -/
def State.stopped (s : State) (e : Nat) : Bool :=
  if e = CLK_ERRSTS ∨ e = RST_ERRSTS then false
  else if s.g BOOT_STS_STAGE = 0xA then !(e == MEM_ERRSTS || e == NVS_ERRSTS || e == BOOT_ERRSTS)
  else if s.g BOOT_STS_STAGE < 8 then true
  else if s.sys.tap || (match s.sys.rst with | some r => r.kind != .hk | none => false) then true
  else if e = GRD_ERRSTS ∨ e = AFE_ERRSTS ∨ e = WIN_ERRSTS ∨ e = PWR_ERRSTS then false
  else !(s.sys.pstate == .run || s.sys.pstate == .doze) || decide (4 ≤ s.stage) || (decide (1 ≤ s.sys.wake) && decide (s.sys.wake ≤ 3)) ||
    s.sys.final != 0

/-- Words of a block of another domain that run on CKAON: TIM_AONCNT and the event capture queues (R577). -/
def aonWord (off : Nat) : Bool := decide (0x28028 ≤ off ∧ off < 0x28030) || decide (0x27000 ≤ off ∧ off < 0x27200)

/-- An access to a word of the block with this error status meets a stopped clock (R577, R581). -/
def State.stoppedAt (s : State) (e off : Nat) : Bool := s.stopped (if aonWord off then GRD_ERRSTS else e)

/-! The interrupt controller (spec/17_interrupt_controller.md). -/

/-- A source. -/
def State.src (s : State) (n : Nat) : SrcS := s.icu.srcs.get (fun _ => {}) n

/-- Sets a source. -/
def State.setSrc (s : State) (n : Nat) (r : SrcS) : State :=
  { s with icu := { s.icu with srcs := s.icu.srcs.set (fun _ => {}) n r } }

/-- A target. -/
def State.tgt (s : State) (k : Nat) : TgtS := s.icu.tgts.get (fun _ => {}) k

/-- Sets a target. -/
def State.setTgt (s : State) (k : Nat) (t : TgtS) : State :=
  { s with icu := { s.icu with tgts := s.icu.tgts.set (fun _ => {}) k t } }

/-- An MSI-X entry. -/
def State.msix (s : State) (k : Nat) : MsixS := s.icu.msix.get (fun _ => {}) k

/-- Sets an MSI-X entry. -/
def State.setMsix (s : State) (k : Nat) (m : MsixS) : State :=
  { s with icu := { s.icu with msix := s.icu.msix.set (fun _ => {}) k m } }

/-- The register and bit of hub latch h (R536). -/
def latchFld (h : Nat) : Fld := if h < 32 then ⟨ICU_HUBLATLO.off, h, h⟩ else ⟨ICU_HUBLATHI.off, h - 32, h - 32⟩

/-- The level of a source, forces included (R535, R548). -/
def State.level (s : State) (n : Nat) : Bool :=
  (s.src n).force || if 4096 ≤ n then s.on (latchFld (n - 4096)) else (s.src n).level

/-- The running priority of a target (R541). -/
def State.runPri (s : State) (k : Nat) : Nat :=
  match (s.tgt k).stack with
  | [] => 0
  | (_, p) :: _ => p

/-- Target k may take source r (R541). -/
def State.qualifies (s : State) (r : SrcS) (k : Nat) : Bool :=
  nbit r.tgt k && s.on (ICU_TGT_EN k) && decide (s.runPri k < r.prio)

/-- The targets in the order of R541's rotation, from the one above the last claimer. -/
def rotation (last : Option Nat) : List Nat :=
  match last with
  | some l => (List.range 32).map fun k => (l + 1 + k) % 32
  | none => List.range 32

/-- The target a source is routed to (R541): its present one while that qualifies, else the qualifying target with the
lowest running priority, first in rotation. -/
def State.chooseTarget (s : State) (r : SrcS) : Option Nat :=
  match r.route with
  | some k => if s.qualifies r k then some k else pick
  | none => pick
where
  /-- The choice among all targets. -/
  pick : Option Nat :=
    (rotation r.last).foldl (fun best k =>
      if s.qualifies r k then
        match best with
        | none => some k
        | some b => if s.runPri k < s.runPri b then some k else some b
      else best) none

/-- A target of the source's mask is enabled and idle (R540). -/
def State.idleTarget (s : State) (r : SrcS) : Bool :=
  (List.range 32).any fun k => nbit r.tgt k && s.on (ICU_TGT_EN k) && s.runPri k == 0

/-- One source follows its level, window and route (R537-R541). -/
def State.settleSrc (s : State) (n : Nat) : State :=
  let r := s.src n
  if r.en && (s.level n || r.repend) && !r.active then
    let w := r.win.getD s.elapsed
    let r := { r with win := some w }
    let due := decide (r.cnt + 1 ≤ r.wcount) || decide (w + 1000 * r.time ≤ s.elapsed) || r.repend || r.alert
    let byp := s.g ICU_CFG_MODE != 0 && s.idleTarget r
    match r.elig with
    | some _ => s.setSrc n { r with route := s.chooseTarget r }
    | none =>
      if due || byp then
        let r := { r with elig := some s.icu.eligN, route := s.chooseTarget r }
        let s := { s with icu := { s.icu with eligN := s.icu.eligN + 1 } }
        let s := s.setSrc n r
        if due then s else s.inc ICU_BYPASS
      else s.setSrc n r
  else
    s.setSrc n { r with
      win := none, elig := none, route := if r.active then r.route else none, alert := r.active && r.alert,
      wcount := if !r.active && r.win.isSome then 0 else r.wcount }

/-- Source (n, r) is to be selected before (m, q): higher priority, then earlier ELIGIBLE, then lower index (R541). -/
def srcBefore (n : Nat) (r : SrcS) (m : Nat) (q : SrcS) : Bool :=
  decide (q.prio < r.prio) ||
    (r.prio == q.prio && (decide (r.elig.getD 0 < q.elig.getD 0) || (r.elig == q.elig && decide (n < m))))

/-- The selected source of a target (R541). -/
def State.selected (s : State) (k : Nat) : Option Nat :=
  if s.on (ICU_TGT_EN k) then
    s.icu.srcs.keys.foldl (fun best n =>
      let r := s.src n
      if r.elig.isSome && r.route == some k && !r.active then
        match best with
        | none => some n
        | some m => if srcBefore n r m (s.src m) then some n else some m
      else best) none
  else none

/-- Sends MSI-X vector k, or keeps it pending while masked (R542). -/
def State.sendMsix (s : State) (k : Nat) : State :=
  let m := s.msix k
  if m.mask || s.icu.fmask then s.setMsix k { m with pend := true }
  else { (s.setMsix k { m with pend := false }).inc ICU_DELIVERED with out := .msix k :: s.out }

/-- Sends entry k's message if it is pending and nothing holds it: no mask, no global disable, the host link up (R542). -/
def State.flushMsix (s : State) (k : Nat) : State :=
  if (s.msix k).pend && !(s.msix k).mask && !s.icu.fmask && !s.on ICU_CFG_GDIS && s.sys.hostLink then s.sendMsix k else s

/-- Announces target k's selected source where R542 asks for a message; `again` for the cases that always send. -/
def State.announce (again : Bool) (s : State) (k : Nat) : State :=
  match s.selected k with
  | none => s.setTgt k { s.tgt k with ann := 0 }
  | some n =>
    if s.on ICU_CFG_GDIS || !s.sys.hostLink then s
    else if again || decide ((s.tgt k).ann < (s.src n).prio) then
      (s.setTgt k { s.tgt k with ann := (s.src n).prio }).sendMsix k
    else s

/-- Every target with a selected source is sent one message, and what was pending goes (R542: GDIS cleared, host link up). -/
def State.announceAll (s : State) : State :=
  if s.icuRuns then (List.range 32).foldl State.flushMsix ((List.range 32).foldl (State.announce true) s) else s

/-- ICU_STS counts the pending and the ACTIVE sources. -/
def State.icuSts (s : State) : State :=
  let ks := s.icu.srcs.keys
  let p := (ks.filter fun n => let r := s.src n; r.en && (s.level n || r.repend) && !r.active).length
  let a := (ks.filter fun n => (s.src n).active).length
  (s.f ICU_STS_PENDING p).f ICU_STS_ACTIVE a

/-- The controller settles: levels, windows, routes, then messages (R549 step 5). -/
def State.settle (s : State) : State :=
  if !s.icuRuns || s.icu.srcs.cells.isEmpty then s
  else
    let s := s.icu.srcs.keys.foldl State.settleSrc s
    ((List.range 32).foldl (State.announce false) s).icuSts

/-- An arrival at a source: counted for COUNT and the window, latched by REPEND while ACTIVE (R539, R544). -/
def State.arrive (s : State) (n : Nat) : State :=
  let r := s.src n
  if r.en || r.active then
    let r := { r with wcount := r.wcount + 1 }
    s.setSrc n (if r.refire then { r with repend := r.repend || r.active } else { r with count := min (r.count + 1) 255 })
  else s

/-- A happening of hub source h: its latch is set and the controller settles (R535, R536, R544). While the controller's
clock is stopped the happening waits for the wake (R550). -/
def State.raiseHub (s : State) (h : Nat) : State :=
  if !s.icuRuns then { s with icu := { s.icu with deferred := s.icu.deferred ++ [h] } }
  else
    let was := s.level (4096 + h)
    let s := s.f (latchFld h) 1
    let s := if was && !(s.src (4096 + h)).refire then s else s.arrive (4096 + h)
    s.settle

/-- Happenings held while the controller slept are set at the wake (R550). -/
def State.wakeIcu (s : State) : State :=
  let d := s.icu.deferred
  if s.icuRuns then (d.foldl State.raiseHub { s with icu := { s.icu with deferred := [] } }).settle else s

/-- A wake from DOZE by sources `bits` (R593, R595): the gated clocks run again, and the wake is announced; not at shed stages 4 and 5
(R602). -/
def State.wakeDoze (s : State) (bits : Nat) : State :=
  if s.sys.pstate == .doze && decide (s.stage < 4) then
    let s : State := { s with sys := { s.sys with pstate := .run } }
    let s := (s.f PWR_WAKESRC (Nat.lor (s.g PWR_WAKESRC) bits)).f PWR_STS_PREV 1
    s.wakeIcu.raiseHub srcWAKE
  else s

/-- Wake sources act (R595): those enabled wake a DOZE at once, and wait for WAKE_SOURCE in a deeper state or during an entry. -/
def State.wakeReq (s : State) (bits : Nat) : State :=
  let b := Nat.land bits (Nat.lor (s.g PWR_WAKECFG_EN) 0x1F00)
  if b = 0 then s
  else if s.sys.pstate == .doze && decide (s.stage < 4) then (if Nat.land b 0x1F3B = 0 then s else s.wakeDoze (Nat.land b 0x1F3B))
  else if s.sys.pstate == .run ∧ s.sys.entry.isNone ∧ s.stage < 4 then s
  else { s with sys := { s.sys with wakeLatch := Nat.lor s.sys.wakeLatch b } }

/-- The level of a tenant source changes, with its arrivals (R535). -/
def State.tenantSource (s : State) (n : Nat) (lvl : Bool) (arrival : Bool) : State :=
  let s := s.setSrc n { s.src n with level := lvl }
  (if arrival then s.arrive n else s).settle

/-! Error status (R10, R11, R654). -/

/-- A code is recorded in a block's ERRSTS (R10, R11). -/
def State.errMark (s : State) (e off code : Nat) : State :=
  let w := s.rd e
  let c := wbits w 14 8
  s.wr e (if c = 0 then Word.ofNat (code + 0x100 + off / 4 * 0x10000) else wput w 14 8 (min (c + 1) 127))

/-- A discarded write: recorded in a block's ERRSTS (R10, R11); it raises the ERRSTS hub source (R536, R654). -/
def State.err (s : State) (e off code : Nat) : State := (s.errMark e off code).raiseHub srcERRSTS

/-- A write that meets a stopped clock (R581). -/
def State.clockStopped (s : State) (off : Nat) : State := (s.err CLK_ERRSTS off CLOCK_STOPPED).inc CLK_STOPACC

/-- A read that meets a stopped clock (R581): it returns zero; no write is discarded, so the hub source is not raised (R536). -/
def State.readStopped (s : State) (off : Nat) : State :=
  { (s.errMark CLK_ERRSTS off CLOCK_STOPPED).inc CLK_STOPACC with rdata := 0 }

/-! Events (spec/18_event_matrix_and_queues.md). -/

/-- The matrix runs in its always-on form (R558). -/
def State.evmSleeps (s : State) : Bool :=
  decide (4 ≤ s.stage) || (decide (1 ≤ s.sys.wake) && decide (s.sys.wake ≤ 3)) || s.sys.pstate == .watch || s.sys.pstate == .hibernate

/-- Producers that run in the always-on form (R558). -/
def aonProducer (p : Nat) : Bool :=
  decide (p < 100) || (decide (116 ≤ p) && decide (p ≤ 147)) || (decide (245 ≤ p) && decide (p ≤ 252)) ||
    (decide (261 ≤ p) && decide (p ≤ 292))

/-- Enabled channels that carry a producer, with their consumers (R553). -/
def State.carriers (s : State) (p : Nat) : List (Nat × Nat) :=
  ((List.range 64).filter fun c =>
    s.on (EVM_CHCFG_EN c) && wbit (s.rd (0x25104 + 0x40 * c + 4 * (p / 32))) (p % 32)).map fun c => (c, s.g (EVM_CHCFG_CONS c))

/-- Channel c has merged events: bit c of EVM_MERGEDLO:EVM_MERGEDHI (R555). -/
def State.markMerged (s : State) (c : Nat) : State :=
  s.f (if c < 32 then ⟨EVM_MERGEDLO.off, c, c⟩ else ⟨EVM_MERGEDHI.off, c - 32, c - 32⟩) 1

/-- A producer emits an event with a CT time-stamp (R551): it enters every channel that carries it and waits there for its delivery. A
second one in one CKFAB cycle joins the first (R555). -/
def State.event (s : State) (p ct : Nat) : State :=
  if s.evmSleeps && !aonProducer p then s
  else
    let same := fun (e : EvS) => e.prod == p && e.at_ == s.time.cyc
    let to_ := s.carriers p
    if s.evm.flight.any same then
      let join := fun (e : EvS) => if same e then { e with ct := min e.ct ct, merged := true } else e
      let s : State := { s with evm := { s.evm with flight := s.evm.flight.map join } }
      to_.foldl (fun s c => s.markMerged c.1) s
    else if to_.isEmpty then s
    else { s with evm := { s.evm with flight := s.evm.flight ++ [{ prod := p, ct := ct, at_ := s.time.cyc, to_ := to_ }] } }

/-- The guard locks (R557): every enabled channel to a guard consumer locks with its row. -/
def State.lockChannels (s : State) : State :=
  (List.range 64).foldl (fun s c =>
    if s.on (EVM_CHCFG_EN c) && decide (s.g (EVM_CHCFG_CONS c) < 32) then s.f (EVM_CHCFG_LOCKED c) 1 else s) s

/-! BAR0 writes (R8, R9). -/

/-- A field's value passes its check. -/
def Fd.ok (f : Fd) (v : Nat) : Bool :=
  match f.chk with
  | .any => true
  | .reserved lo hi => decide (lo ≤ nbits v f.hi f.lo) && decide (nbits v f.hi f.lo ≤ hi)
  | .range lo hi => decide (lo ≤ nbits v f.hi f.lo) && decide (nbits v f.hi f.lo ≤ hi)

/-- A field whose check a value fails with RESERVED_NONZERO. -/
def Fd.isReserved (f : Fd) : Bool :=
  match f.chk with
  | .reserved _ _ => true
  | _ => false

/-- The code a written word is discarded with by the register's own field table: reserved bits and encodings (R9) first,
then ranges. -/
def Reg.check (r : Reg) (v : Word) : Option Nat :=
  if r.fds.foldl (fun n f => n - nbits v.toNat f.hi f.lo * 2 ^ f.lo) v.toNat ≠ 0 then some RESERVED_NONZERO
  else if r.fds.any fun f => f.acc != .ro && f.isReserved && !f.ok v.toNat then some RESERVED_NONZERO
  else if r.fds.any fun f => f.acc != .ro && !f.ok v.toNat then some OUT_OF_RANGE
  else none

/-- The word a register holds after `v` is written over `w` (R8). -/
def Reg.merge (r : Reg) (w v : Word) : Word :=
  r.fds.foldl (fun w f =>
    match f.acc with
    | .rw => wput w f.hi f.lo (wbits v f.hi f.lo)
    | .rwl => wput w f.hi f.lo (wbits v f.hi f.lo)
    | .w1c => wput w f.hi f.lo (Nat.land (wbits w f.hi f.lo) (Nat.xor (wbits v f.hi f.lo) (2 ^ (f.hi + 1 - f.lo) - 1)))
    | .ro => w
    | .wo => w) w

/-- Stores a written word by the access types of its fields. -/
def State.store (s : State) (r : Reg) (i j : Nat) (v : Word) : State :=
  s.wr (r.at i j) (r.merge (s.rd (r.at i j)) v)

/-- A write to element (i, j) of a register: an access ends DOZE (R595 bit 10); then stopped clocks (R581), RO and locked registers (R8), the field checks (R9),
then the register's own action. -/
def State.barWrite (s : State) (r : Reg) (i j : Nat) (v : Word) (act : State → State) : State :=
  let s := s.wakeDoze 0x400
  if s.stoppedAt r.err (r.at i j) then s.clockStopped (r.at i j)
  else if r.readOnly then s
  else if r.lockable && s.on GRD_LOCK_LOCK then s.err r.err (r.at i j) LOCKED
  else match r.check v with
    | some c => s.err r.err (r.at i j) c
    | none => act s

/-- Discards the write of element (i, j) with a code. -/
def State.discard (s : State) (r : Reg) (i j code : Nat) : State := s.err r.err (r.at i j) code

/-- A write of a counter-clear register whose bit 0 zeroes counters. -/
def State.clrWrite (s : State) (fs : List Fld) (v : Word) : State := if wbit v 0 then s.zero fs else s

/-! The memory-port window (R204). -/

/-- BAR0 offset of aperture word k. -/
def apOff (k : Nat) : Nat := 0x2D000 + 4 * k

/-- Window address of aperture word k (R204). -/
def State.apAddr (s : State) (k : Nat) : Nat := s.g MEM_APBASE_BASE * 4096 + 4 * k

/-- What a window access is refused with (R204). -/
def State.winRefused (s : State) (a : Nat) : Option Nat :=
  if !s.on MEM_CFG_EN then some NOT_IN_STATE else if !s.on MEM_CFG_ADDR4 && decide (2 ^ 24 ≤ a) then some OUT_OF_RANGE else none

/-- What the port reads: zeros without VIO0 (R646). -/
def State.flashIn (s : State) (b : List Nat) : List Nat := if s.vioOn 0 then b else b.map fun _ => 0

end Sys2Proof.Machine
end

