-- ==== Sys2Proof/Machine/Flit.lean ====
section
/-! DEFINITION. Bond flits: CRC-16, the 8-byte header, codewords on the lanes, and unsequenced flits (spec/15_bond_links.md R476,
R480-R482). -/
namespace Sys2Proof.Machine

/-- One bit of the CRC-16 of R480. -/
def crc16Bit (c : Nat) : Nat :=
  if c / 0x8000 % 2 == 1 then Nat.xor (c * 2 % 0x10000) 0x1021 else c * 2 % 0x10000

/-- One byte of the CRC-16 of R480. -/
def crc16Byte (c b : Nat) : Nat :=
  crc16Bit (crc16Bit (crc16Bit (crc16Bit (crc16Bit (crc16Bit (crc16Bit (crc16Bit (Nat.xor c (b % 256 * 256)))))))))

/-- CRC-16 of R480: polynomial 0x1021, initial value 0xFFFF, no reflection, no final exclusive-or. -/
def crc16 (bs : List Nat) : Nat := bs.foldl crc16Byte 0xFFFF

/-- A list cut or filled with zeros to n bytes. -/
def padTo (n : Nat) (bs : List Nat) : List Nat := bs.take n ++ List.replicate (n - bs.length) 0

/-- The 64 bytes of a flit (R480). -/
def mkFlit (sq cls dst src nbytes : Nat) (som eom : Bool) (epoch : Nat) (payload : List Nat) : List Nat :=
  let hd := toLe 2 (sq % 4096 + cls * 4096) ++ [dst % 16 + src % 16 * 16, nbytes + 64 * b2n som + 128 * b2n eom] ++ toLe 2 epoch
  let pl := padTo 56 payload
  hd ++ toLe 2 (crc16 (hd ++ pl)) ++ pl

/-- Message classes (R482). -/
abbrev clsLINK : Nat := 0
abbrev clsSESSION : Nat := 1
abbrev clsTIME : Nat := 2
abbrev clsELECT : Nat := 3
abbrev clsCONFIG : Nat := 4
abbrev clsCMD : Nat := 5
abbrev clsSIGNAL : Nat := 6
abbrev clsCPL : Nat := 7
abbrev clsCASKACK : Nat := 8
abbrev clsREJECT : Nat := 9
abbrev clsCASK : Nat := 10
abbrev clsEVENT : Nat := 11

/-! Codewords (R476). -/

/-- The lane on which a port's codeword with flits of number k goes: lane k mod 2 where both carry flits, else the one that does. -/
def State.laneFor (s : State) (p k : Nat) : Nat :=
  let c := s.g (BND_PSTS_CARRY p)
  if c = 3 then k % 2 else c / 2

/-- Codewords sent on a lane. -/
def PortS.onLane (q : PortS) (y : Nat) : Nat := if y = 0 then q.lane0 else q.lane1

/-- Ten flits leave as a codeword on their lane; every 256th codeword of a lane is an alignment codeword. -/
def State.sendCodeword (s : State) (p : Nat) (flits : List (List Nat)) : State :=
  let q := s.bnd.ports.get (fun _ => {}) p
  let y := s.laneFor p q.words
  let align := q.onLane y % 256 == 255
  let n := q.onLane y + (if align then 2 else 1)
  let q := { q with code := [], words := q.words + 1, lane0 := if y = 0 then n else q.lane0, lane1 := if y = 0 then q.lane1 else n }
  { s with bnd := { s.bnd with ports := s.bnd.ports.set (fun _ => {}) p q }
           out := .codeword p y (codeword flits) :: (if align then .alignment p y :: s.out else s.out) }

/-- A flit of 64 bytes leaves a port: it joins the codeword being filled, which goes out with its tenth flit. -/
def State.putFlit (s : State) (p : Nat) (bytes : List Nat) : State :=
  let q := s.bnd.ports.get (fun _ => {}) p
  let l := q.code ++ [bytes]
  let s : State := { s with out := .flit p bytes :: s.out }
  if l.length < 10 then { s with bnd := { s.bnd with ports := s.bnd.ports.set (fun _ => {}) p { q with code := l } } }
  else s.sendCodeword p l

/-- Sends an unsequenced flit of class LINK, SESSION or TIME on a port (R482). -/
def State.sendLocal (s : State) (p cls : Nat) (payload : List Nat) : State :=
  s.putFlit p (mkFlit 0 cls 0 0 56 true true (s.g ROL_EPOCH) payload)

end Sys2Proof.Machine
end

