-- ==== Sys2Proof/Machine/Time.lean ====
section
/-! DEFINITION. Combination time, the time servo, SYNC and the timer units (spec/02_combination_time_and_timers.md). -/
namespace Sys2Proof.Machine

/-- The code of BND_PxSTS.STATE for a session that is ACTIVE (R503). -/
abbrev bsACTIVE : Nat := 3

/-! CT. -/

/-- In this CT state samples carry HOLDOVER (R32). -/
def holds (st : Nat) : Bool := st != ctLOCKED && st != ctREFERENCE

/-- Sets TIM_CTSTS.STATE; entering or leaving LOCKED or REFERENCE raises CTLOCK (R536), leaving LOCKED clears UTC_VALID (R47),
and a change of what samples carry is kept with its instant (R33). -/
def State.setCtState (s : State) (st : Nat) : State :=
  let old := s.g TIM_CTSTS_STATE
  if old = st then s
  else
    let s := s.f TIM_CTSTS_STATE st
    let s : State := if holds old = holds st then s else { s with srv := { s.srv with hold := (s.elapsed, holds st) :: s.srv.hold } }
    let s := if old = ctLOCKED then s.f TIM_CTSTS_UTC_VALID 0 else s
    if old = ctLOCKED ∨ old = ctREFERENCE ∨ st = ctLOCKED ∨ st = ctREFERENCE then s.raiseHub srcCTLOCK else s

/-- A sample, event or capture taken now carries HOLDOVER (R33). -/
def State.holdover (s : State) : Bool := holds (s.g TIM_CTSTS_STATE)

/-- A sample whose time-stamp is t, on the present scale of CT, carries HOLDOVER: STATE was neither LOCKED nor REFERENCE then (R33). -/
def State.holdoverAt (s : State) (t : Nat) : Bool :=
  let e : Int := t - s.time.stepSum
  match s.srv.hold with
  | [] => s.holdover
  | x :: l =>
    if (x.1 : Int) ≤ e then s.holdover
    else match l.find? fun x => decide ((x.1 : Int) ≤ e) with
      | some y => y.2
      | none => true

/-- The reference is another hub than before: UTC_VALID and DISCIPLINED are cleared (R45, R47). -/
def State.newReference (s : State) : State :=
  let s := (s.f TIM_CTSTS_UTC_VALID 0).f TIM_CTSTS_DISCIPLINED 0
  { s with srv := { s.srv with utcArmed := false, expected := none } }

/-- Unit x. -/
def State.tu (s : State) (x : Nat) : TuS := s.tus.get (fun _ => {}) x

/-- Sets unit x. -/
def State.setTu (s : State) (x : Nat) (u : TuS) : State := { s with tus := s.tus.set (fun _ => {}) x u }

/-- The start instant of unit x. -/
def State.tuStart (s : State) (x : Nat) : Nat := (s.tu x).start

/-- The compare value of channel y of unit x. -/
def State.cmpVal (s : State) (x y : Nat) : Nat := (s.tu x).cmps.getD y 0

/-- Sets the compare value of channel y of unit x; its registers show it. -/
def State.setCmp (s : State) (x y v : Nat) : State :=
  (s.setTu x { s.tu x with cmps := (s.tu x).cmps.set y v }).f64 (TIM_TUCMPLO x y) (TIM_TUCMPHI x y) v

/-- A forward step from `old` to `new` carries CT past an armed CT compare: it is marked late (R40, R53). -/
def State.lateCompare (old new : Nat) (s : State) (k : Nat) : State :=
  let x := k / 4
  let y := k % 4
  if s.on (TIM_TUCMPCTL_ARM x y) && s.on (TIM_TUCMPCTL_BASE x y) && decide (old < s.cmpVal x y) && decide (s.cmpVal x y < new) then
    s.f ⟨(TIM_TUSTS_LATE x).off, 4 + y, 4 + y⟩ 1
  else s

/-- A forward step carries CT past the start instant of a waiting unit: it is marked late (R40, R52). -/
def State.lateStart (old new : Nat) (s : State) (x : Nat) : State :=
  if (s.tu x).waiting && decide (old < s.tuStart x) && decide (s.tuStart x < new) then s.f (TIM_TUSTS_STARTLATE x) 1 else s

/-- PERIOD in nanoseconds (R60). -/
def State.syncPeriod (s : State) : Nat :=
  match s.g TIM_SYNCCFG_PERIOD with
  | 0 => 1000000000
  | 1 => 100000000
  | 2 => 10000000
  | _ => 1000000

/-- SYNC goes high for WIDTH on the elapsed count, for the instant t (R39, R48). -/
def State.syncPulse (s : State) (t : Nat) : State :=
  { s with srv := { s.srv with
    syncPin := true, lastPulse := some t, pulseEnd := some (s.elapsed + 1000 * s.g TIM_SYNCCFG_WIDTH) } }

/-- The instant t of the SYNC output has not been acted on: it is later than the last one that was (R40). -/
def State.syncFresh (s : State) (t : Nat) : Bool := match s.srv.lastPulse with
  | some l => decide (l < t)
  | none => true

/-- A forward step from `old` that carries CT past instants of the SYNC output acts on them once, at the step (R40, R48). -/
def State.lateSync (s : State) (old : Nat) : State :=
  let t := s.ct / s.syncPeriod * s.syncPeriod
  if s.g TIM_SYNCCFG_MODE = 1 ∧ s.coreRuns ∧ old < t ∧ s.syncFresh t then s.syncPulse t else s

/-- After a backward step from CT `old`, the streams suppress what is not later than their last record (R41). -/
def StreamS.stepped (old : Nat) (st : StreamS) : StreamS :=
  { st with supp := st.last.map fun l => (l, 65536, match st.supp with
    | some x => max old x.2.2
    | none => old) }

/-- A step reaches a bus in a cycle: the least CT of the step is kept (R93). -/
def BusS.stepped (lo : Nat) (b : BusS) : BusS :=
  { b with cur := b.cur.map fun c => { c with low := some (min lo (c.low.getD lo)) } }

/-- The least and the greatest increment the servo applies: nominal ±200 ppm (R30). -/
def incMin : Nat := 0xD5555555 - 0xD5555555 * 200 / 1000000
/-- See incMin. -/
def incMax : Nat := 0xD5555555 + 0xD5555555 * 200 / 1000000

/-- Applies the increment the servo wants, held within ±200 ppm with RANGE set at the limit (R30). -/
def State.trim (s : State) (want : Nat) : State :=
  let inc := max incMin (min incMax want)
  let s := if want < incMin ∨ incMax < want then s.f TIM_CTSTS_RANGE 1 else s
  let s : State := { s with srv := { s.srv with incs := (inc :: s.srv.incs).take 1024 } }
  s.f64 TIM_CTINCLO TIM_CTINCHI inc

/-- The mean of a list, rounded down. -/
def mean (l : List Nat) : Nat := l.sum / l.length

/-- Entry to HOLDOVER: the increment is frozen at the mean of those applied since the hub last acquired (R37). -/
def State.enterHoldover (s : State) : State :=
  let s := match s.srv.incs with
    | [] => s
    | l => s.f64 TIM_CTINCLO TIM_CTINCHI (mean l)
  let s : State := { s with srv := { s.srv with lockRun := 0, badRun := 0, t1 := none } }
  (s.f TIM_CTSTS_TRACKING 0).setCtState ctHOLDOVER

/-- The upstream is lost: LOCKED, ACQUIRING and UNSET go to HOLDOVER (R37). -/
def State.loseUpstream (s : State) : State :=
  let st := s.g TIM_CTSTS_STATE
  if st = ctLOCKED ∨ st = ctACQUIRING ∨ st = ctUNSET then s.enterHoldover else s

/-- The exchange interval in nanoseconds (R59). -/
def State.interval (s : State) : Nat := 125000 * 2 ^ s.g TIM_SVCFG_INTERVAL

/-- CT_CAPTURE_READ (R31). -/
def execCtCaptureRead (s : State) : Res :=
  .next <|
    if s.stopped TIM_ERRSTS then s.readStopped TIM_CTLO.off
    else
      let s := s.f64 TIM_CTLO TIM_CTHI s.ct
      { s with rdata := s.g TIM_CTLO }

/-- The payload of a TIME flit (R499). -/
def State.timePayload (s : State) (ty xseq t2 t3 utc : Nat) : List Nat :=
  [ty, s.g TIM_CTSTS_STATE, s.g TIM_CTSTS_UTC_VALID, 0] ++ toLe 4 xseq ++ toLe 4 (s.g ROL_EPOCH) ++ [0, 0, 0, 0] ++
    toLe 8 t2 ++ toLe 8 t3 ++ toLe 8 utc ++ List.replicate 16 0

/-- TIME_EXCHANGE_START (R34): once every INTERVAL, a REQ on the upstream port; t1 is taken as it leaves. Exchanges pause
during a housekeeping-core restart (R49, R501). The exchange number is the count of exchanges the hub starts, held in t1's elapsed count. -/
def execTimeExchangeStart (s : State) : Res :=
  .next <|
    if s.on TIM_CTSTS_UPVALID && s.coreRuns && s.hkRuns && decide (s.srv.lastStart + s.interval ≤ s.elapsed) then
      let xseq := lo32 s.elapsed
      let s : State := { s with srv := { s.srv with t1 := some (s.ct, s.elapsed), lastStart := s.elapsed } }
      s.sendLocal (s.g TIM_CTSTS_UPPORT) clsTIME (s.timePayload 1 xseq 0 0 0)
    else s

/-- TIME_REQ (R500): a REQ arriving on port p is answered with t2 and t3, `lat` nanoseconds later (at most 2 µs). -/
def execTimeReq (p : Nat) (pl : List Nat) (lat : Nat) (s : State) : Res :=
  .next <|
    if leAt pl 0 1 ≠ 1 then s.inc (BND_PTIMEBAD p)
    else
      let utc := if s.on TIM_CTSTS_UTC_VALID then s.g64 TIM_UTCOFSLO TIM_UTCOFSHI else 0
      s.sendLocal p clsTIME (s.timePayload 2 (leAt pl 4 4) s.ct (s.ct + min lat 2000) utc)

/-- The increment that slews out an offset (R35): the upstream's rate, which is free within its own ±200 ppm, with a free difference
of at most 200 ppm of it towards the upstream; none where there is no offset. -/
def State.slew (s : State) (off2 : Int) : Nat :=
  let up := incMin + s.fresh % (incMax - incMin + 1)
  let d := 1 + s.drew.fresh % (up * 200 / 1000000)
  if 0 < off2 then up + d else if off2 < 0 then up - d else up

/-- An exchange that cannot be used is counted (R500). -/
def State.timeBad (s : State) (p : Nat) : State := s.inc (BND_PTIMEBAD p)

/-- TIME_RESP_TIMEOUT (R500): 10 µs after t1 without a RESP. -/
def execTimeRespTimeout (s : State) : Res :=
  .next <|
    match s.srv.t1 with
    | none => s
    | some (_, e1) =>
      if e1 + 10000 < s.elapsed then
        ({ s with srv := { s.srv with t1 := none } } : State).timeBad (s.g TIM_CTSTS_UPPORT)
      else s

/-- HOLDCNT_EXPIRY (R37): HOLDCNT consecutive intervals without a usable exchange. -/
def execHoldcntExpiry (s : State) : Res :=
  .next <|
    if s.srv.lastGood + s.g TIM_SVCFG_HOLDCNT * s.interval ≤ s.elapsed then s.loseUpstream else s

/-! SYNC (R44-R48). -/

/-- One source tick of unit x: the prescaler and, at its output, the counter (R50, R51). -/
def State.tuTick (s : State) (x : Nat) : State :=
  if s.on (TIM_TUSTS_RUNNING x) then
    let u := s.tu x
    let d := (s.g (TIM_TUPSC_INTM1 x) + 1) * 65536 + s.g (TIM_TUPSC_FRAC x)
    let a := u.acc + 65536
    s.setTu x (if d ≤ a then { u with cnt := (u.cnt + 1) % 2 ^ 48, acc := a - d } else { u with acc := a })
  else s

/-- An edge sense (0 rising, 1 falling, 2 both) takes an edge. -/
def senseTakes (sense : Nat) (fall : Bool) : Bool := sense == 2 || sense == b2n fall

/-- The units counting edges of a source of kind `src` and index `sel` (R61) take an edge. -/
def State.tickUnits (s : State) (src sel : Nat) (fall : Bool) : State :=
  if !s.coreRuns then s
  else (List.range 16).foldl (fun s x =>
    if s.g (TIM_TUCTL_SRC x) = src ∧ s.g (TIM_TUCTL_SRCSEL x) = sel ∧ (src = 6 ∨ senseTakes (s.g (TIM_TUCTL_EDGE x)) fall) then
      s.tuTick x
    else s) s

/-- An edge is rejected (R45 step 4, R46): counted and announced; the fourth in a row ends discipline. -/
def State.rejectSync (s : State) : State :=
  let e := s.srv.expected.getD 0
  let r := s.srv.rejRun + 1
  let s : State := { s with srv := { s.srv with expected := some (e + s.syncPeriod), rejRun := min r 4 } }
  let s := s.inc TIM_SYNCREJ
  let s := if 4 ≤ r then s.f TIM_CTSTS_DISCIPLINED 0 else s
  s.raiseHub srcSYNCREJ

/-- The increment while disciplining (R45): moved against e by a free amount, at most 1 ppm per second, and kept within ±2 ppm of
where discipline began. -/
def State.disciplineTrim (s : State) (e : Int) : State :=
  let b := s.srv.beginInc
  let cur := s.incr
  let rate := cur * (s.elapsed - s.srv.lastAdj) / 1000000000000000
  let d := min rate (1 + s.fresh % (rate + 1))
  let want := if 0 < e then cur - d else if e < 0 then cur + d else cur
  let inc := max (b - b * 2 / 1000000) (min (b + b * 2 / 1000000) want)
  let s : State := { s with srv := { s.srv with lastAdj := s.elapsed } }
  s.f64 TIM_CTINCLO TIM_CTINCHI (max incMin (min incMax inc))

/-- SYNC_EDGE_TIMEOUT (R45): no edge within expected + 1 µs. -/
def execSyncEdgeTimeout (s : State) : Res :=
  .next <|
    match s.srv.expected with
    | some e =>
      if s.g TIM_CTSTS_STATE = ctREFERENCE ∧ s.on TIM_SYNCCFG_DISC_EN ∧ s.on TIM_CTSTS_DISCIPLINED ∧ e + 1000 < s.ct then s.rejectSync
      else s
    | none => s

/-- The write of TIM_SYNCUTCHI (R45 step 1): the value waits for the next edge; TIM_SYNCREJ is cleared. -/
def State.syncUtcWrite (s : State) (v : Word) : State :=
  let s := (s.store rTIM_SYNCUTCHI 0 0 v).f TIM_SYNCREJ 0
  { s with srv := { s.srv with utcArmed := !s.on TIM_CTSTS_DISCIPLINED, utc := s.g64 TIM_SYNCUTCLO TIM_SYNCUTCHI } }

/-- SYNCUTC_WRITE (R45). -/
def execSyncutcWrite (v : Word) (s : State) : Res :=
  .next (s.barWrite rTIM_SYNCUTCHI 0 0 v fun s => s.syncUtcWrite v)

/-- DISC_HOLD_EXPIRY (R46). -/
def execDiscHoldExpiry (s : State) : Res :=
  .next <|
    if s.g TIM_CTSTS_STATE = ctREFERENCE ∧ !(s.on TIM_CTSTS_DISCIPLINED && s.on TIM_SYNCCFG_DISC_EN) ∧ s.srv.lastAccept + 1000000000 * s.g TIM_SYNCCFG_DISC_HOLD ≤ s.elapsed then
      s.f TIM_CTSTS_UTC_VALID 0
    else s

/-- SYNC_OUTPUT_PULSE (R48): CT is a whole multiple of PERIOD. -/
def execSyncOutputPulse (s : State) : Res :=
  .next <|
    if s.g TIM_SYNCCFG_MODE = 1 ∧ s.ct % s.syncPeriod = 0 ∧ s.syncFresh s.ct ∧ s.coreRuns then s.syncPulse s.ct else s

/-- SYNC_PULSE_END (R48): WIDTH has passed since the pulse began. -/
def execSyncPulseEnd (s : State) : Res :=
  .next <|
    match s.srv.pulseEnd with
    | some e => if e ≤ s.elapsed then { s with srv := { s.srv with syncPin := false, pulseEnd := none } } else s
    | none => s

/-! Timer units (R50-R63). -/

/-- SRCSEL is listed for its SRC (R56, R61). -/
def tuSrcOk (src sel : Nat) : Bool :=
  match src with
  | 4 => decide (sel ≤ 8)
  | 5 => decide (sel ≤ 99)
  | 6 => decide (sel ≤ 63)
  | _ => sel == 0

/-- Unit x starts counting (R51, R52). -/
def State.tuGo (s : State) (x : Nat) : State :=
  (s.setTu x { s.tu x with acc := 0, waiting := false }).f (TIM_TUSTS_RUNNING x) 1

/-- A write of TIM_TUxCTL (R50, R52, R56, R61). -/
def State.tuCtlWrite (s : State) (x : Nat) (v : Word) : State :=
  if !tuSrcOk (wbits v 3 1) (wbits v 10 4) || (decide (8 ≤ x) && wbits v 15 14 != 0) then
    s.discard rTIM_TUCTL x 0 RESERVED_NONZERO
  else
    let was := s.on (TIM_TUCTL_EN x)
    let s := s.store rTIM_TUCTL x 0 v
    let now := wbit v 0
    if now && !was then
      if wbit v 13 then
        if s.tuStart x < s.ct then (s.tuGo x).f (TIM_TUSTS_STARTLATE x) 1
        else if s.tuStart x = s.ct then s.tuGo x
        else s.setTu x { s.tu x with waiting := true }
      else s.tuGo x
    else if now then s
    else (s.setTu x { s.tu x with waiting := false }).f (TIM_TUSTS_RUNNING x) 0

/-- TIMER_ENABLE (R52): a write of TIM_TUxCTL. -/
def execTimerEnable (x : Nat) (v : Word) (s : State) : Res :=
  .next (s.barWrite rTIM_TUCTL x 0 v fun s => s.tuCtlWrite x v)

/-- TIMER_START_AT_CT (R52): CT has reached TUxSTART of a waiting unit. -/
def execTimerStartAtCt (x : Nat) (s : State) : Res :=
  .next (if (s.tu x).waiting && decide (s.tuStart x ≤ s.ct) then s.tuGo x else s)

/-- A write of TIM_TUxSTARTHI: the 64-bit value is taken (R52). -/
def State.tuStartWrite (s : State) (x : Nat) (v : Word) : State :=
  let s := s.store rTIM_TUSTARTHI x 0 v
  s.setTu x { s.tu x with start := s.g64 (TIM_TUSTARTLO x) (TIM_TUSTARTHI x) }

/-- A write of TIM_TUxCNTHI (R50): the 48-bit value is taken while EN is clear. -/
def State.tuCntWrite (s : State) (x : Nat) (v : Word) : State :=
  if s.on (TIM_TUCTL_EN x) then s.discard rTIM_TUCNTHI x 0 NOT_IN_STATE
  else
    let s := s.store rTIM_TUCNTHI x 0 v
    s.setTu x { s.tu x with cnt := join32 (s.g (TIM_TUCNTLO x)) (s.g (TIM_TUCNTHI x)) }

/-- TIMER_COUNTER_WRITE (R50). -/
def execTimerCounterWrite (x : Nat) (v : Word) (s : State) : Res :=
  .next (s.barWrite rTIM_TUCNTHI x 0 v fun s => s.tuCntWrite x v)

/-- A write of TIM_TUxCMPyHI (R53): the value is taken and the channel armed; a CT value already passed is late. -/
def State.cmpArm (s : State) (x y : Nat) (v : Word) : State :=
  if !s.on (TIM_TUCMPCTL_BASE x y) && wbits v 31 16 != 0 then s.discard rTIM_TUCMPHI x y RESERVED_NONZERO
  else
    let s := s.store rTIM_TUCMPHI x y v
    let s := (s.setCmp x y (s.g64 (TIM_TUCMPLO x y) (TIM_TUCMPHI x y))).f (TIM_TUCMPCTL_ARM x y) 1
    if s.on (TIM_TUCMPCTL_BASE x y) && decide (s.cmpVal x y < s.ct) then s.f ⟨(TIM_TUSTS_LATE x).off, 4 + y, 4 + y⟩ 1 else s

/-- COMPARE_ARM (R53). -/
def execCompareArm (x y : Nat) (v : Word) (s : State) : Res :=
  .next (s.barWrite rTIM_TUCMPHI x y v fun s => s.cmpArm x y v)

/-- The level a pin action gives a pin (R62). -/
def pinLevel (act : Nat) (p : Bool) : Bool :=
  match act with
  | 1 => true
  | 2 => false
  | 3 => !p
  | _ => p

/-- The pin action of a match of channel y (R54, R62): of the matches of one cycle, the one with the highest index acts, on the level
before the cycle. -/
def State.pinAct (s : State) (x y act : Nat) : State :=
  if x < 8 ∧ s.g (TIM_TUCTL_IOMODE x) = 1 ∧ act ≠ 0 then
    let u := s.tu x
    match u.acted with
    | some (c, z, p) =>
      if c = s.time.cyc then
        (if z < y then s.setTu x { u with pin := pinLevel act p, acted := some (c, y, p) } else s)
      else s.setTu x { u with pin := pinLevel act u.pin, acted := some (s.time.cyc, y, u.pin) }
    | none => s.setTu x { u with pin := pinLevel act u.pin, acted := some (s.time.cyc, y, u.pin) }
  else s

/-- The compare channel matches now (R53). -/
def State.cmpDue (s : State) (x y : Nat) : Bool :=
  s.on (TIM_TUCMPCTL_ARM x y) &&
    (if s.on (TIM_TUCMPCTL_BASE x y) then decide (s.cmpVal x y ≤ s.ct)
     else s.on (TIM_TUSTS_RUNNING x) && (s.tu x).cnt == s.cmpVal x y)

/-- After a match a one-shot channel disarms and a periodic one moves its value on (R53). -/
def State.cmpNext (s : State) (x y : Nat) : State :=
  let per := s.g (TIM_TUCMPPER x y)
  if per = 0 then s.f (TIM_TUCMPCTL_ARM x y) 0
  else if s.on (TIM_TUCMPCTL_BASE x y) then
    let n := s.cmpVal x y + per
    if n ≤ s.ct then
      (s.setCmp x y ((n + ((s.ct - n) / per + 1) * per) % 2 ^ 64)).f ⟨(TIM_TUSTS_LATE x).off, 4 + y, 4 + y⟩ 1
    else s.setCmp x y (n % 2 ^ 64)
  else s.setCmp x y ((s.cmpVal x y + per) % 2 ^ 48)

/-- COMPARE_MATCH (R53, R54). -/
def execCompareMatch (x y : Nat) (s : State) : Res :=
  .next <|
    if s.cmpDue x y then
      let s := s.f ⟨(TIM_TUSTS_MATCH x).off, y, y⟩ 1
      let s := s.event (148 + 4 * x + y) s.ct
      let s := s.pinAct x y (s.g (TIM_TUCMPCTL_PINACT x y))
      let s := s.cmpNext x y
      if s.on (TIM_TUCMPCTL_IRQ x y) then s.raiseHub x else s
    else s

/-- The capture queue y of unit x. -/
def State.capq (s : State) (x y : Nat) : List (Nat × Nat) := if y = 0 then (s.tu x).cap0 else (s.tu x).cap1

/-- The head of queue y of unit x is held. -/
def State.capHeld (s : State) (x y : Nat) : Bool := if y = 0 then (s.tu x).held0 else (s.tu x).held1

/-- Sets capture queue y of unit x; DEPTH, CAPNE and the head registers follow it (R55, R63). -/
def State.setCap (s : State) (x y : Nat) (q : List (Nat × Nat)) (held : Bool) : State :=
  let u := s.tu x
  let s := s.setTu x (if y = 0 then { u with cap0 := q, held0 := held } else { u with cap1 := q, held1 := held })
  let s := (s.f (TIM_TUCAPCTL_DEPTH x y) q.length).f ⟨(TIM_TUSTS_CAPNE x).off, 8 + y, 8 + y⟩ (b2n !q.isEmpty)
  let h := q.headD (0, 0)
  (s.f64 (TIM_TUCAPCNTLO x y) (TIM_TUCAPCNTHI x y) h.1).f64 (TIM_TUCAPCTLO x y) (TIM_TUCAPCTHI x y) h.2

/-- A queue of four takes an entry, overwriting the oldest, or losing the entry while the head is held (R55). -/
def State.capPush (s : State) (x y : Nat) (e : Nat × Nat) : State :=
  let q := s.capq x y
  if q.length < 4 then s.setCap x y (q ++ [e]) (s.capHeld x y)
  else if s.capHeld x y then s.inc (TIM_TUCAPCTL_LOST x y)
  else (s.setCap x y (q.drop 1 ++ [e]) false).inc (TIM_TUCAPCTL_LOST x y)

/-- A capture channel takes an edge of its source (R55): the entry, the event and the interrupt. -/
def State.captureNow (s : State) (x y : Nat) : State :=
  let s := s.capPush x y ((s.tu x).cnt, s.ct)
  let s := s.event (212 + 2 * x + y) s.ct
  if s.on (TIM_TUCAPCTL_IRQ x y) then s.raiseHub (16 + x) else s

/-- Capture y of unit x takes an edge of the source of kind `src` and index `sel` (R55, R63). -/
def State.captures (s : State) (x y src sel : Nat) (fall : Bool) : Bool :=
  s.on (TIM_TUCAPCTL_EN x y) && s.g (TIM_TUCAPCTL_SRC x y) == src && (if src = 0 then x == sel else s.g (TIM_TUCAPCTL_SEL x y) == sel) &&
    (src == 2 || senseTakes (s.g (TIM_TUCAPCTL_EDGE x y)) fall)

/-- The capture channels take an edge of a source: 0 the unit's pin, 1 a monitor, 2 an event channel, 3 SYNC (R63). -/
def State.captureEdge (s : State) (src sel : Nat) (fall : Bool) : State :=
  if s.coreRuns then
    (List.range 32).foldl (fun s k => if s.captures (k / 2) (k % 2) src sel fall then s.captureNow (k / 2) (k % 2) else s) s
  else s

/-- CAPTURE_ENTRY (R55, R61): an edge at TMx_IO while it is an input. The units that count the pin and the captures that select it
take it; the other sources of a capture have rows of their own. -/
def execCaptureEntry (x : Nat) (fall : Bool) (s : State) : Res :=
  .next (if s.g (TIM_TUCTL_IOMODE x) = 0 ∧ s.vioOn x = true then (s.tickUnits 4 x fall).captureEdge 0 x fall else s)

/-- An edge at the SYNC input (R44-R46): the units counting it; then, at the selected polarity, the event, the capture channels and
discipline. -/
def State.syncEdge (s : State) (fall : Bool) : State :=
  let s := if s.g TIM_SYNCCFG_MODE = 0 then s.tickUnits 4 8 fall else s
  if s.g TIM_SYNCCFG_MODE ≠ 0 ∨ s.g TIM_SYNCCFG_EDGE ≠ b2n fall then s
  else
    let c := s.ct
    let s := (s.event 244 c).captureEdge 3 0 fall
    if s.g TIM_CTSTS_STATE = ctREFERENCE ∧ s.on TIM_SYNCCFG_DISC_EN then
      if s.srv.utcArmed ∧ ¬ s.on TIM_CTSTS_DISCIPLINED then
        let ofs : Int := (s.srv.utc : Int) - c
        let s := s.f64 TIM_UTCOFSLO TIM_UTCOFSHI (unsigned 64 ofs)
        let s := (s.f TIM_CTSTS_UTC_VALID 1).f TIM_CTSTS_DISCIPLINED 1
        { s with srv := { s.srv with
          utcArmed := false, expected := some (c + s.syncPeriod), beginInc := s.incr, rejRun := 0,
          lastAccept := s.elapsed, lastAdj := s.elapsed } }
      else if s.on TIM_CTSTS_DISCIPLINED then
        let e := s.srv.expected.getD 0
        if ((c : Int) - e).natAbs ≤ 1000 then
          let u := (s.srv.utc + s.syncPeriod) % 2 ^ 64
          let s := s.f64 TIM_SYNCUTCLO TIM_SYNCUTCHI u
          let s : State := { s with srv := { s.srv with
            utc := u, expected := some (e + s.syncPeriod), rejRun := 0, lastAccept := s.elapsed } }
          (s.disciplineTrim ((c : Int) - e)).drew
        else s.rejectSync
      else s
    else s

/-- A read of a register of a block: zero with CLOCK_STOPPED recorded while its clock is stopped (R581). -/
def State.barRead (s : State) (e : Nat) (f : Fld) (act : State → State) : State :=
  let s := s.wakeDoze 0x400
  if s.stoppedAt e f.off then s.readStopped f.off
  else
    let v := (s.rd f.off).toNat
    { act s with rdata := v }

/-- The read of TUxCAPyCNTLO holds the head (R55). -/
def State.capHold (s : State) (x y : Nat) : State := s.setCap x y (s.capq x y) (!(s.capq x y).isEmpty)

/-- CAPTURE_HEAD_HOLD (R55). -/
def execCaptureHeadHold (x y : Nat) (s : State) : Res :=
  .next (s.barRead TIM_ERRSTS (TIM_TUCAPCNTLO x y) fun s => s.capHold x y)

/-- The read of TUxCAPyCTHI pops the head (R55). -/
def State.capPop (s : State) (x y : Nat) : State := s.setCap x y ((s.capq x y).drop 1) false

/-- CAPTURE_POP (R55). -/
def execCapturePop (x y : Nat) (s : State) : Res :=
  .next (s.barRead TIM_ERRSTS (TIM_TUCAPCTHI x y) fun s => s.capPop x y)

/-- SEL is listed for a capture's SRC (R56, R63). -/
def State.capSelOk (s : State) (x src sel : Nat) : Bool :=
  match src with
  | 0 => sel == 0 && decide (x < 8) && s.g (TIM_TUCTL_IOMODE x) == 0
  | 1 => decide (sel ≤ 99)
  | 2 => decide (sel ≤ 63)
  | _ => sel == 0

/-- A write of TIM_TUxCAPyCTL (R56, R63, R561). -/
def State.capCtlWrite (s : State) (x y : Nat) (v : Word) : State :=
  if !s.capSelOk x (wbits v 2 1) (wbits v 9 3) then s.discard rTIM_TUCAPCTL x y RESERVED_NONZERO
  else
    let s := s.store rTIM_TUCAPCTL x y v
    if wbit v 24 then (s.setCap x y [] false).f (TIM_TUCAPCTL_LOST x y) 0 else s

/-- CAPTURE_CLR (R63): TUxCAPyCTL written with CLR set. -/
def execCaptureClr (x y : Nat) (v : Word) (s : State) : Res :=
  .next (s.barWrite rTIM_TUCAPCTL x y (v ||| 0x01000000) fun s => s.capCtlWrite x y (v ||| 0x01000000))

/-! Time passing. -/

/-- The units counting a clock source take a tick at its edges: CKFAB, CKSYS, CKFLD and CKAON run at 1, 1/2, 1/6 and 1/48
of CKFAB (R566, R61). -/
def State.clockTicks (s : State) : State :=
  (List.range 16).foldl (fun s x =>
    let n := s.time.cyc
    match s.g (TIM_TUCTL_SRC x) with
    | 0 => s.tuTick x
    | 1 => if n % 2 = 0 then s.tuTick x else s
    | 2 => if n % 6 = 0 then s.tuTick x else s
    | 3 => if n % 48 = 0 then s.tuTick x else s
    | _ => s) s

/-- One CKFAB period: CT advances by the increment, or at CKAON edges by the ratio while the always-on generator carries it (R29).
CKFAB's stops and restarts hand CT over at a CKAON edge, where no value is skipped or repeated (R42). -/
def State.tickTime (s : State) : State :=
  let n := s.time.cyc + 1
  let aonEdge := n % 48 = 0
  let add := if !s.time.gen then s.incr else if aonEdge then s.time.ratio else 0
  let s : State := { s with time := { s.time with
    cyc := n
    acc := (s.time.acc + add) % 2 ^ 96
    aon := if aonEdge then min (s.time.aon + 1) (2 ^ 64 - 1) else s.time.aon
    ratio := if aonEdge ∧ s.time.gen = false ∧ s.time.fab = false then 48 * s.incr else s.time.ratio
    gen := if aonEdge then !s.time.fab else s.time.gen } }
  if s.time.fab && s.coreRuns then s.clockTicks else s

/-- CKFAB stops: CT is in HOLDOVER, its exchanges within LOCKTHR are counted anew, and the always-on generator takes it over at 48
times the increment (R42). -/
def State.stopFab (s : State) : State :=
  if s.time.fab then
    let s : State := { s with
      time := { s.time with fab := false }
      srv := { s.srv with lockRun := 0, badRun := 0, t1 := none } }
    (s.f TIM_CTSTS_TRACKING 0).setCtState ctHOLDOVER
  else s

/-- The session of a port is ACTIVE. -/
def State.linkUp (s : State) (p : Nat) : Bool := s.g (BND_PSTS_STATE p) == bsACTIVE

/-- The ports whose session is ACTIVE. -/
def State.activePorts (s : State) : List Nat := (List.range 4).filter s.linkUp

/-- This hub defines CT for its combination (R32): KEYSTONE, or ISOLATED, keystone-capable at its last round (R17) and with no peer in
session. -/
def State.definesCt (s : State) : Bool :=
  s.g ROL_STS_ROLE == roleKEYSTONE ||
    (s.g ROL_STS_ROLE == roleISOLATED && s.rol.capable && s.on ROL_STS_POSVALID && s.activePorts.isEmpty)

/-- CKFAB restarts: HOLDOVER; a hub that defines CT is REFERENCE at once (R42). -/
def State.startFab (s : State) : State :=
  let s : State := { s with time := { s.time with fab := true } }
  let s := s.setCtState ctHOLDOVER
  if s.definesCt then s.setCtState ctREFERENCE else s

/-- The timer units go to their reset values (R49). -/
def State.resetTimers (s : State) : State :=
  { s.resetRegs (0x28000 + 0x100) (0x28000 + 0x10FF) with tus := {} }

end Sys2Proof.Machine
end

