-- ==== Sys2Proof/Machine/Bond.lean ====
section
/-! DEFINITION. Bond links below the messages: routing, the sending of flits and messages, acknowledgement, replay, credits,
reassembly and sessions (spec/15_bond_links.md R480-R492). -/
namespace Sys2Proof.Machine

/-! Ports. -/

/-- A port. -/
def State.port (s : State) (p : Nat) : PortS := s.bnd.ports.get (fun _ => {}) p

/-- Sets a port; UNACK of its status follows it (R503). -/
def State.setPort (s : State) (p : Nat) (q : PortS) : State :=
  ({ s with bnd := { s.bnd with ports := s.bnd.ports.set (fun _ => {}) p q } } : State).f (BND_PSTS_UNACK p) q.unacked.length

/-- Port states (R503). -/
abbrev bsOFF : Nat := 0
abbrev bsTRAINING : Nat := 1
abbrev bsHELLO : Nat := 2

abbrev bsHOLD : Nat := 4


/-! Routing (R491, R517). -/

/-- The hub's position in the directory, when it holds one. -/
def State.myPos (s : State) : Option Nat := if s.on ROL_STS_POSVALID then some (s.g ROL_STS_POS) else none

/-- The hub's position, 0 when it holds none (R16: an ISOLATED hub acts as a combination of one at position 0). -/
def State.pos (s : State) : Nat := s.myPos.getD 0

/-- COMBID. -/
def State.combid (s : State) : Nat := s.g64 ROL_COMBIDLO ROL_COMBIDHI

/-- HUBID. -/
def State.hubid (s : State) : Nat := s.g64 ROL_HUBIDLO ROL_HUBIDHI

/-- The directory entry of a position. -/
def State.dirEnt (s : State) (p : Nat) : Option DirS := s.rol.dir.find? fun e => e.pos == p

/-- The hub identity at a position; the position itself where the directory names none. -/
def State.hubAt (s : State) (p : Nat) : Nat :=
  match s.dirEnt p with
  | some e => e.hubid
  | none => p

/-- The child of `me` on the path to `d`, walking up the tree from `d`. -/
def State.childTowards (s : State) (me : Nat) : Nat → Nat → Option DirS
  | 0, _ => none
  | n + 1, d =>
    match s.dirEnt d with
    | none => none
    | some e => if e.parent = e.pos then none else if e.parent = me then some e else s.childTowards me n e.parent

/-- The port of the directory's path to a position, whether or not the port carries traffic. -/
def State.treePort (s : State) (d : Nat) : Option Nat :=
  match s.myPos with
  | none => none
  | some me =>
    if d = me then none
    else match s.dirEnt d, s.childTowards me 16 d with
      | none, _ => none
      | _, some c => some c.pport
      | some _, none => (s.dirEnt me).bind fun e => if e.parent = me then none else some e.cport

/-- The port a message for a position leaves by; none without a path (R491, R517). -/
def State.routePort (s : State) (d : Nat) : Option Nat :=
  match s.treePort d with
  | some p => if s.linkUp p && (s.port p).dormantAt.isNone then some p else none
  | none => none

/-- A position is this hub or has a path. -/
def State.reachable (s : State) (d : Nat) : Bool := s.pos == d || (s.routePort d).isSome

/-! Sending (R480-R487). -/

/-- The channel of a class (R482). -/
def vcOf (cls : Nat) : Nat := if cls = 7 ∨ cls = 8 ∨ cls = 9 then 1 else if cls = 10 ∨ cls = 11 then 2 else 0

/-- Receive flits of a channel (R486). -/
def vcCap (vc : Nat) : Nat := if vc = 2 then 2048 else 512

/-- The flits of a message, first to last; `som` marks the first (R481). -/
def segment (cls dst src epoch : Nat) : Nat → Bool → List Nat → List FlitS
  | 0, _, _ => []
  | n + 1, som, bs =>
    let rest := bs.drop 56
    { cls := cls, dst := dst, src := src, nbytes := min 56 bs.length, som := som, eom := rest.isEmpty, epoch := epoch,
      payload := bs.take 56 } ::
      (if rest.isEmpty then [] else segment cls dst src epoch n false rest)

/-- Puts a flit with a SEQ on the link. -/
def State.emitFlit (s : State) (p sq : Nat) (f : FlitS) : State :=
  s.putFlit p (mkFlit sq f.cls f.dst f.src f.nbytes f.som f.eom f.epoch f.payload)

/-- Queue of a channel. -/
def PortS.q (q : PortS) (vc : Nat) : List FlitS := if vc = 0 then q.q0 else if vc = 1 then q.q1 else q.q2

/-- Sets the queue of a channel. -/
def PortS.setQ (q : PortS) (vc : Nat) (l : List FlitS) : PortS :=
  if vc = 0 then { q with q0 := l } else if vc = 1 then { q with q1 := l } else { q with q2 := l }

/-- Credits left on a channel (R486). -/
def PortS.credit (q : PortS) (vc : Nat) : Nat :=
  let sp := if vc = 0 then q.spent0 else if vc = 1 then q.spent1 else q.spent2
  let cr := if vc = 0 then q.cred0 else if vc = 1 then q.cred1 else q.cred2
  vcCap vc - (sp + 65536 - cr) % 65536

/-- Spends a credit. -/
def PortS.spend (q : PortS) (vc : Nat) : PortS :=
  if vc = 0 then { q with spent0 := (q.spent0 + 1) % 65536 }
  else if vc = 1 then { q with spent1 := (q.spent1 + 1) % 65536 }
  else { q with spent2 := (q.spent2 + 1) % 65536 }

/-- Frees n flits of a channel (R484, R486). -/
def PortS.free (q : PortS) (vc n : Nat) : PortS :=
  if vc = 0 then { q with freed0 := (q.freed0 + n) % 65536 }
  else if vc = 1 then { q with freed1 := (q.freed1 + n) % 65536 }
  else { q with freed2 := (q.freed2 + n) % 65536 }

/-- The channel may send: it has a flit and a credit. -/
def PortS.ready (q : PortS) (vc : Nat) : Bool := !(q.q vc).isEmpty && decide (0 < q.credit vc)

/-- The channel whose flit goes next (R487): VC1, VC0, VC2, with VC2 at least once in 16. -/
def PortS.pick (q : PortS) : Option Nat :=
  if q.ready 2 && decide (15 ≤ q.since2) then some 2
  else if q.ready 1 then some 1
  else if q.ready 0 then some 0
  else if q.ready 2 then some 2
  else none

/-- Frees a flit in the receive buffer of its input port. -/
def State.freeAt (s : State) (p vc n : Nat) : State := s.setPort p ((s.port p).free vc n)

/-- Sends the first flit of a channel for the first time (R483, R486). -/
def State.sendFirst (s : State) (p vc : Nat) : State :=
  let q := s.port p
  match q.q vc with
  | [] => s
  | f :: rest =>
    let q1 := ((q.setQ vc rest).spend vc)
    let q2 := { q1 with
      txNext := (q.txNext + 1) % 4096, unacked := q.unacked ++ [{ f with from_ := none }],
      since2 := if vc = 2 then 0 else q.since2 + 1, stall := q.stall - b2n (nbit q.stall vc) * 2 ^ vc,
      moved := if q.unacked.isEmpty then s.elapsed else q.moved }
    let s := ((s.setPort p q2).emitFlit p q.txNext f).inc (BND_PFLITTX p)
    match f.from_ with
    | some i => s.freeAt i vc 1
    | none => s

/-- Sends waiting flits of a port while window and credits last. -/
def State.pumpN (p : Nat) : Nat → State → State
  | 0, s => s
  | n + 1, s =>
    let q := s.port p
    if s.linkUp p && decide (q.unacked.length < 1024) then
      match q.pick with
      | some vc => State.pumpN p n (s.sendFirst p vc)
      | none => s
    else s

/-- A channel with a flit and no credit begins a credit wait, counted once (R486). -/
def State.countStall (p : Nat) (s : State) (vc : Nat) : State :=
  let q := s.port p
  if s.linkUp p && !(q.q vc).isEmpty && q.credit vc == 0 && !nbit q.stall vc then
    (s.setPort p { q with stall := q.stall + 2 ^ vc }).inc (BND_PCREDSTALL p)
  else s

/-- Sends what a port can send now. -/
def State.pump (s : State) (p : Nat) : State :=
  let q := s.port p
  let s := State.pumpN p (q.q0.length + q.q1.length + q.q2.length) s
  [0, 1, 2].foldl (State.countStall p) s

/-- Queues flits on a port. -/
def State.queueFlits (s : State) (p : Nat) (l : List FlitS) : State :=
  match l with
  | [] => s
  | f :: _ =>
    let q := s.port p
    let vc := vcOf f.cls
    (s.setPort p (q.setQ vc (q.q vc ++ l))).pump p

/-- A message of a class whose REJECT carries no more than its class, TYPE and REF is kept for its one resend (R21). -/
def State.noteSent (s : State) (m : SentS) : State :=
  if [4, 6, 7, 8, 11].contains m.cls then
    let l := s.bnd.sent ++ [m]
    { s with bnd := { s.bnd with sent := l.drop (l.length - 256) } }
  else s

/-- Sends a routed message (R481): the 16-byte header under the hub's COMBID and EPOCH, then the body. Without a path
nothing is sent. -/
def State.sendMsg (s : State) (cls ty dst : Nat) (body : List Nat) : State :=
  match s.routePort dst with
  | none => s
  | some p =>
    let s := s.noteSent { dst := dst, cls := cls, ty := ty, body := body }
    let hd := toLe 8 s.combid ++ toLe 4 (s.g ROL_EPOCH) ++ [ty, 0] ++ toLe 2 body.length
    let bs := hd ++ body
    s.queueFlits p (segment cls dst s.pos (s.g ROL_EPOCH) bs.length true bs)

/-- Sends an ELECT message on a port (R482, R509). -/
def State.sendElect (s : State) (p ty round : Nat) (body : List Nat) : State :=
  if s.linkUp p then
    let bs := [ty, 0, 0, 0] ++ toLe 4 round ++ body
    s.queueFlits p (segment clsELECT 0 0 (s.g ROL_EPOCH) bs.length true bs)
  else s

/-- Sends a REJECT (R492). -/
def State.sendReject (s : State) (dst status rclass rtype ref : Nat) : State :=
  match s.routePort dst with
  | none => s
  | some p => (s.inc (BND_PREJTX p)).sendMsg clsREJECT 1 dst ([status, rclass, rtype, 0] ++ toLe 4 ref)

/-! LINK flits (R484). -/

/-- The payload of a LINK flit. -/
def PortS.linkPayload (q : PortS) (ty nakseq : Nat) : List Nat :=
  [ty, 0] ++ toLe 2 q.nextRx ++ toLe 2 nakseq ++ [0, 0] ++ toLe 2 q.freed0 ++ toLe 2 q.freed1 ++ toLe 2 q.freed2

/-- Sends a STATUS. -/
def State.sendStatus (s : State) (p : Nat) : State :=
  let q := s.port p
  (s.setPort p { q with accSince := 0, lastStatus := s.elapsed }).sendLocal p clsLINK (q.linkPayload 1 0)

/-- Sends a NAK for the next SEQ expected (R485). -/
def State.sendNak (s : State) (p : Nat) : State :=
  let q := s.port p
  (s.setPort p { q with nakFor := some q.nextRx, accSince := 0, lastStatus := s.elapsed }).sendLocal p clsLINK
    (q.linkPayload 2 q.nextRx)

/-- IDLE flits fill a codeword for which nothing else is ready (R484, R487). -/
def State.fillCode (s : State) (p : Nat) : State :=
  let q := s.port p
  if q.code.isEmpty then s else times (fun s => s.sendLocal p clsLINK (q.linkPayload 3 0)) (10 - q.code.length) s

/-- SEQ of the oldest unacknowledged flit. -/
def PortS.base (q : PortS) : Nat := (q.txNext + 4096 - q.unacked.length) % 4096

/-- How far a SEQ lies beyond the oldest unacknowledged flit. -/
def PortS.ofs (q : PortS) (sq : Nat) : Nat := (sq % 4096 + 4096 - q.base) % 4096

/-- Acknowledges every SEQ below NEXTRX and takes CRED (R484). -/
def State.takeAck (s : State) (p : Nat) (pl : List Nat) : State :=
  let q := s.port p
  let n := q.ofs (leAt pl 2 2)
  let q := { q with cred0 := leAt pl 8 2, cred1 := leAt pl 10 2, cred2 := leAt pl 12 2 }
  let q := if n ≤ q.unacked.length ∧ 0 < n then { q with unacked := q.unacked.drop n, moved := s.elapsed } else q
  (s.setPort p q).pump p

/-- Sends the unacknowledged flits of a port again, from the n-th oldest on. -/
def State.resendFrom (s : State) (p n : Nat) : State :=
  let q := s.port p
  (List.range (q.unacked.length - n)).foldl (fun s k =>
    match q.unacked[n + k]? with
    | some f => s.emitFlit p ((q.base + n + k) % 4096) f
    | none => s) s

/-- A replay (R485): the flits from the n-th oldest on are resent in SEQ order. -/
def State.replay (s : State) (p n : Nat) : State :=
  let s := (s.resendFrom p n).inc (BND_PREPLAY p)
  let q := s.port p
  s.setPort p { q with
    unacked := q.unacked.take n ++ (q.unacked.drop n).map (fun f => { f with replayed := true }),
    replayAt := some s.elapsed, moved := s.elapsed }

/-- A fresh sending of every unacknowledged flit (R474, R475, R490): it clears the replay count of each. -/
def State.resendFresh (s : State) (p : Nat) : State :=
  let s := s.resendFrom p 0
  let q := s.port p
  s.setPort p { q with
    unacked := q.unacked.map (fun f => { f with replayed := false }), replayAt := none, moved := s.elapsed }

/-! Sessions (R488-R490). -/

/-- The payload of a SESSION flit. -/
def State.sessPayload (s : State) (p ty : Nat) : List Nat :=
  let q := s.port p
  [ty, p, s.g ROL_CFG_RANK, s.g ROL_STS_ROLE + 8 * s.g ROL_STS_POSVALID + 16 * s.g ROL_STS_POS] ++
    toLe 4 (s.g ROL_EPOCH) ++ toLe 8 s.hubid ++ toLe 4 (s.g ROL_BOOTCNT) ++ toLe 4 (s.g ROL_GEN) ++ toLe 8 s.combid ++
    toLe 2 (if ty = 2 then q.nextRx else 0) ++ [0, 0] ++ toLe 4 q.mySess ++ toLe 4 q.peerSess ++ List.replicate 12 0

/-- Sends HELLO, or RESUME while a session is held (R489). -/
def State.sendHello (s : State) (p : Nat) : State :=
  let q := s.port p
  (s.setPort p { q with lastHello := s.elapsed }).sendLocal p clsSESSION
    (s.sessPayload p (if s.g (BND_PSTS_STATE p) = bsHOLD then 2 else 1))

/-- Forgets the session of a port: nothing held, nothing waiting. The queued flits of the port are dropped, those of other ports'
receive buffers freed, and the casks gathered through it discarded (R459, R469). -/
def State.dropSession (s : State) (p : Nat) : State :=
  let s : State := { s with rng := { s.rng with gather := s.rng.gather.filter fun g => g.port != p } }
  let q := s.port p
  let s := (q.q0 ++ q.q1 ++ q.q2).foldl (fun s f =>
    match f.from_ with
    | some i => if i = p then s else s.freeAt i (vcOf f.cls) 1
    | none => s) s
  let q := s.port p
  s.setPort p { ({} : PortS) with
    step := q.step, stepAt := q.stepAt, work := q.work, mySess := q.mySess, lastHello := q.lastHello, dormantAt := q.dormantAt,
    code := q.code, words := q.words, lane0 := q.lane0, lane1 := q.lane1 }

/-- A port begins training from step 1 (R478). -/
def State.trainFrom1 (s : State) (p : Nat) : State :=
  let s := s.setPort p { s.port p with step := 1, stepAt := s.elapsed, code := [] }
  (s.f (BND_PSTS_TRAINED p) 0).f (BND_PSTS_CARRY p) 0

/-- The port leads upstream (R34). -/
def State.isUpstream (s : State) (p : Nat) : Bool := s.on TIM_CTSTS_UPVALID && s.g TIM_CTSTS_UPPORT == p

/-- Session control begins with no session to resume (R489): a new MYSESS, and HELLO. -/
def State.startHello (s : State) (p : Nat) : State :=
  let s := s.dropSession p
  let q := s.port p
  let s := s.setPort p { q with mySess := (q.mySess + 1) % 2 ^ 32 + b2n (q.mySess + 1 == 2 ^ 32), peerSess := 0 }
  (s.f (BND_PSTS_STATE p) bsHELLO).sendHello p

/-- Sends CLOSE and ends the session without a hold (R490). -/
def State.closeSession (s : State) (p : Nat) : State :=
  let s := if s.linkUp p then s.sendLocal p clsSESSION (s.sessPayload p 3) else s
  s.dropSession p

/-- A port goes off (R501). -/
def State.portOff (s : State) (p : Nat) : State :=
  let s := (s.closeSession p).fillCode p
  let s := s.setPort p { mySess := (s.port p).mySess }
  let s := s.f CLK_STS_LANELOCK (s.g CLK_STS_LANELOCK - Nat.land (s.g CLK_STS_LANELOCK) (3 * 4 ^ p))
  (((s.f (BND_PSTS_STATE p) bsOFF).f (BND_PSTS_TRAINED p) 0).f (BND_PSTS_CARRY p) 0).zero
    [BND_PSTS_DEGRADED p, BND_PSTS_SHEDONE p]

/-- An enabled port starts training (R478). -/
def State.portOn (s : State) (p : Nat) : State :=
  if s.on (BND_PCFG_EN p) && s.g BOOT_STS_STAGE == 9 then (s.f (BND_PSTS_STATE p) bsTRAINING).trainFrom1 p else s

/-- The port goes to link-down (R479): the session is held, state transfers behind it are abandoned (R530), the time servo is told,
training starts again. -/
def State.linkDown (s : State) (p : Nat) : State :=
  let s := s.inc (BND_PLINKDOWN p)
  let s := (s.f (BND_PSTS_STATE p) bsHOLD).f (BND_PSTS_DEGRADED p) 0
  let s := s.setPort p { s.port p with
    holdAt := some s.elapsed, splitMs := s.g ROL_HOLD_SPLITHOLD, retryMs := s.g ROL_HOLD_RETRYHOLD, splitDone := false,
    holdEpoch := s.g ROL_EPOCH, parts := [], nakFor := none }
  let s := s.trainFrom1 p
  let gone := fun (q : Nat) => s.treePort q == some p
  let s : State := { s with rol := { s.rol with
    reqs := s.rol.reqs.filter fun r => !((r.ty == 7 || r.ty == 8) && gone r.dst)
    xfers := s.rol.xfers.filter fun x => !gone x.pos } }
  let s := if s.isUpstream p then s.loseUpstream else s
  s.raiseHub srcBONDDOWN

/-! Receiving (R481-R483, R491, R492). -/

/-- A routed class. -/
def routedClass (cls : Nat) : Bool := decide (4 ≤ cls)

/-- The defined TYPEs of a class (R482, R494-R498, R509, R522). -/
def typeDefined (cls ty : Nat) : Bool :=
  match cls with
  | 3 => decide (1 ≤ ty) && decide (ty ≤ 6)
  | 4 => decide (1 ≤ ty) && decide (ty ≤ 10)
  | 5 => decide (1 ≤ ty) && decide (ty ≤ 2)
  | 6 => decide (1 ≤ ty) && decide (ty ≤ 2)
  | 7 => ty == 1
  | 8 => ty == 1
  | 9 => ty == 1
  | 10 => decide (1 ≤ ty) && decide (ty ≤ 2)
  | 11 => ty == 1
  | _ => false

/-- The reserved bytes of a body: offset and length (R494-R498, R522). -/
def reservedBytes (cls ty : Nat) : List (Nat × Nat) :=
  match cls, ty with
  | 4, 1 => [(2, 2), (5, 3)]
  | 4, 2 => [(2, 2), (5, 3)]
  | 4, 5 => [(2, 2), (5, 3)]
  | 4, 6 => [(2, 2), (5, 3)]
  | 4, 10 => [(2, 2), (5, 3)]
  | 4, _ => [(2, 2)]
  | 5, 1 => [(5, 3), (82, 6)]
  | 5, 2 => [(2, 2)]
  | 6, 2 => [(9, 7)]
  | 7, 1 => [(14, 2)]
  | 8, 1 => [(13, 3)]
  | 9, 1 => [(3, 1)]
  | 10, 1 => [(13, 3), (20, 4)]
  | 10, 2 => [(15, 1), (44, 4)]
  | 11, 1 => [(12, 4)]
  | _, _ => []

/-- The n entries of `w` bytes in a body have a reserved field that is not zero. -/
def entriesBad (w : Nat) (bad : List Nat → Bool) (n : Nat) (b : List Nat) : Bool :=
  (List.range n).any fun k => bad ((b.drop (w * k)).take w)

/-- A reserved field of an ELECT body is not zero (R509, R514). -/
def electBad (ty : Nat) (b : List Nat) : Bool :=
  match ty with
  | 1 => decide (2 ≤ leAt b 0 1) || leAt b 3 1 != 0 || decide (4 ≤ leAt b 25 1) || leAt b 26 6 != 0
  | 4 =>
    leAt b 1 7 != 0 ||
      entriesBad 40 (fun e => decide (4 ≤ leAt e 33 1) || decide (64 ≤ leAt e 35 1) || leAt e 37 3 != 0) (min 16 (leAt b 0 1)) (b.drop 8)
  | 5 =>
    leAt b 19 5 != 0 ||
      entriesBad 32 (fun e => decide (16 ≤ leAt e 0 1) || decide (16 ≤ leAt e 1 1) || decide (16 ≤ leAt e 2 1) || decide (16 ≤ leAt e 3 1) ||
        leAt e 5 3 != 0 || leAt e 24 8 != 0) (min 16 (leAt b 18 1)) (b.drop 24)
  | 6 => leAt b 4 4 != 0
  | _ => false

/-- The body has a reserved field that is not zero (R482). -/
def reservedBad (cls ty : Nat) (body : List Nat) : Bool :=
  ((reservedBytes cls ty).any fun r => leAt body r.1 r.2 != 0) ||
    match cls, ty with
    | 4, 5 => decide (2 ≤ leAt body 4 1)
    | 4, 7 => decide (2 ≤ leAt body 5 1)
    | 5, 1 => decide (4 ≤ leAt body 4 1)
    | 7, 1 => decide (2 ≤ leAt body 3 1) || decide (2 ^ 17 ≤ leAt body 8 4)
    | 9, 1 => decide (16 ≤ leAt body 1 1)
    | 10, 1 => decide (8 ≤ leAt body 12 1)
    | 10, 2 => decide (8 ≤ leAt body 12 1)
    | 8, 1 => decide (8 ≤ leAt body 12 1)
    | _, _ => false

/-- REF of a REJECT for a message (R492). -/
def rejectRef (cls : Nat) (body : List Nat) : Nat :=
  if cls = 5 then leAt body 0 2 else if cls = 10 ∨ cls = 11 then leAt body 8 4 else 0

/-- The code that a routed message's COMBID and EPOCH, or quarantine, turn it away with (R20, R492). -/
def State.standing (s : State) (cls : Nat) (bs : List Nat) : Option Nat :=
  if leAt bs 0 8 ≠ s.combid ∨ leAt bs 8 4 ≠ s.g ROL_EPOCH then some EPOCH_STALE
  else if s.on ROL_STS_QUAR ∧ ¬(cls = 4 ∨ cls = 7 ∨ cls = 8 ∨ cls = 9) then some QUARANTINED
  else none

/-- The messages still waiting when a combination or an epoch is adopted (R20): one that no longer stands is not acted on;
it frees its buffer and is turned away as on its arrival. -/
def State.recheckInbox (s : State) : State :=
  s.bnd.inbox.foldl (fun s m =>
    match if m.cls = 3 then none else s.standing m.cls m.bytes with
    | none => s
    | some code =>
      let s : State := { s with bnd := { s.bnd with inbox := s.bnd.inbox.erase m } }
      let s := s.freeAt m.port (vcOf m.cls) m.flits
      if m.cls = 9 then s
      else s.sendReject m.src code m.cls (leAt m.bytes 12 1) (rejectRef m.cls ((m.bytes.drop 16).take (leAt m.bytes 14 2)))) s

/-- A message arrives for this hub, whole (R482, R492): the checks, then the inbox. -/
def State.deliver (s : State) (p : Nat) (m : PartS) : State :=
  let vc := vcOf m.cls
  let bs := m.bytes
  let ty := if m.cls = 3 then leAt bs 0 1 else leAt bs 12 1
  let body := (bs.drop 16).take (leAt bs 14 2)
  let ref := rejectRef m.cls body
  let keep : State := { s with bnd := { s.bnd with
    inbox := s.bnd.inbox ++ [{ port := p, cls := m.cls, src := m.src, bytes := bs, flits := m.flits }] } }
  let drop := s.freeAt p vc m.flits
  if m.cls = 3 then
    if !typeDefined 3 ty then drop.inc (BND_PUNKCLASS p)
    else if leAt bs 1 3 ≠ 0 ∨ electBad ty (bs.drop 8) = true then drop.inc (BND_PUNKCLASS p)
    else keep
  else if 12 ≤ m.cls then (drop.inc (BND_PUNKCLASS p)).sendReject m.src ILLEGAL_OPCODE m.cls ty ref
  else
    let keep := if m.cls = 9 then keep.inc (BND_PREJRX p) else keep
    if m.epoch16 ≠ s.g ROL_EPOCH % 65536 ∨ s.standing m.cls bs = some EPOCH_STALE then
      if m.cls = 9 then drop.inc (BND_PREJRX p) else drop.sendReject m.src EPOCH_STALE m.cls ty ref
    else if s.standing m.cls bs = some QUARANTINED then
      drop.sendReject m.src QUARANTINED m.cls ty ref
    else if !typeDefined m.cls ty then
      if m.cls = 9 then drop.inc (BND_PUNKCLASS p)
      else (drop.inc (BND_PUNKCLASS p)).sendReject m.src ILLEGAL_OPCODE m.cls ty ref
    else if leAt bs 13 1 ≠ 0 ∨ reservedBad m.cls ty body = true then
      if m.cls = 9 then drop.inc (BND_PUNKCLASS p)
      else (drop.inc (BND_PUNKCLASS p)).sendReject m.src RESERVED_NONZERO m.cls ty ref
    else keep

/-- Removes the open message of a source and class. -/
def PortS.closePart (q : PortS) (src cls : Nat) : PortS :=
  { q with parts := q.parts.filter fun m => !(m.src == src && m.cls == cls) }

/-- Framing of an accepted flit that ends here (R481): `f` continues or opens a message; a whole one is delivered. -/
def State.frame (s : State) (p : Nat) (f : FlitS) (noPath : Bool) : State :=
  let q := s.port p
  let vc := vcOf f.cls
  let open_ := q.parts.find? fun m => m.src == f.src && m.cls == f.cls
  let sizeBad := f.nbytes == 0 || decide (56 < f.nbytes) || (!f.eom && f.nbytes != 56)
  let bad := sizeBad || (f.som && open_.isSome) || (!f.som && open_.isNone)
  let dead : PartS := { cls := f.cls, src := f.src, dst := f.dst, epoch16 := f.epoch, drop := true }
  match open_ with
  | some m =>
    if m.drop && !f.som then
      let q := q.closePart f.src f.cls
      (s.setPort p (if f.eom then q else { q with parts := q.parts ++ [m] })).freeAt p vc 1
    else if bad then
      let q := q.closePart f.src f.cls
      let s := s.setPort p (if f.eom then q else { q with parts := q.parts ++ [dead] })
      let s := (s.freeAt p vc (m.flits + 1)).inc (BND_PFMTERR p)
      if f.cls = 3 then s else s.sendReject f.src RESERVED_NONZERO f.cls (leAt m.bytes 12 1) 0
    else
      let m := { m with bytes := m.bytes ++ f.payload.take f.nbytes, flits := m.flits + 1 }
      let q := q.closePart f.src f.cls
      if f.eom then (s.setPort p q).deliver p m else s.setPort p { q with parts := q.parts ++ [m] }
  | none =>
    if noPath then
      let s := s.setPort p (if f.eom then q else { q with parts := q.parts ++ [dead] })
      let s := (s.freeAt p vc 1).inc (BND_PNOROUTE p)
      if f.cls = 9 then s
      else if f.som then s.sendReject f.src LINK_DOWN f.cls (leAt f.payload 12 1) (rejectRef f.cls (f.payload.drop 16))
      else s.sendReject f.src LINK_DOWN f.cls 0 0
    else if bad then
      let s := s.setPort p (if f.eom || !f.som then q else { q with parts := q.parts ++ [dead] })
      let s := (s.freeAt p vc 1).inc (BND_PFMTERR p)
      if f.cls = 3 then s else s.sendReject f.src RESERVED_NONZERO f.cls (leAt f.payload 12 1) 0
    else
      let m : PartS := { cls := f.cls, src := f.src, dst := f.dst, epoch16 := f.epoch, bytes := f.payload.take f.nbytes, flits := 1 }
      if f.eom then s.deliver p m else s.setPort p { q with parts := q.parts ++ [m] }

/-- An accepted flit: delivered here, forwarded flit by flit, or without a path (R491, R493). -/
def State.acceptFlit (s : State) (p : Nat) (f : FlitS) : State :=
  let q := s.port p
  let s := (s.setPort p { q with nextRx := (q.nextRx + 1) % 4096, nakFor := none, accSince := q.accSince + 1 }).inc
    (BND_PFLITRX p)
  let isOpen := (s.port p).parts.any fun m => m.src == f.src && m.cls == f.cls
  let s :=
    if f.cls = 3 ∨ isOpen = true ∨ s.myPos = some f.dst then s.frame p f false
    else match s.routePort f.dst with
      | some o => s.queueFlits o [{ f with from_ := some p }]
      | none => s.frame p f true
  if 64 ≤ (s.port p).accSince then s.sendStatus p else s

/-- Takes the oldest received message of a channel when it has the class and TYPE asked for; its flits are freed (R486). -/
def State.takeMsg (s : State) (cls ty : Nat) : Option (MsgS × State) :=
  match s.bnd.inbox.find? fun m => vcOf m.cls == vcOf cls with
  | none => none
  | some m =>
    let t := if m.cls = 3 then leAt m.bytes 0 1 else leAt m.bytes 12 1
    if m.cls = cls ∧ t = ty then
      let s : State := { s with bnd := { s.bnd with inbox := s.bnd.inbox.erase m } }
      some (m, s.freeAt m.port (vcOf cls) m.flits)
    else none

/-- The body of a routed message. -/
def MsgS.body (m : MsgS) : List Nat := (m.bytes.drop 16).take (leAt m.bytes 14 2)

/-- The EPOCH of a routed message's header. -/
def MsgS.epoch (m : MsgS) : Nat := leAt m.bytes 8 4

end Sys2Proof.Machine
end

