-- ==== Sys2Proof/Machine/Elect.lean ====
section
/-! DEFINITION. Candidacies and the start of a round (spec/16_roles_splits_and_recoupling.md R506-R510). -/
namespace Sys2Proof.Machine

/-- Candidate a beats candidate b (R506). -/
def CandS.beats (a b : CandS) : Bool :=
  if a.capable != b.capable then a.capable
  else if a.capable then
    decide (b.rank < a.rank) || (a.rank == b.rank && decide (a.hubid < b.hubid))
  else if a.epoch ≠ b.epoch then decide (b.epoch < a.epoch)
  else if a.old ≠ b.old then decide (a.old < b.old)
  else decide (a.hubid < b.hubid)

/-- The hub is keystone-capable (R17). -/
def State.capable (s : State) : Bool := s.on ROL_CFG_RANK && s.sys.hostLink

/-- CAPABLE of ROL_STS follows the rank and the host link (R533). -/
def State.showCapable (s : State) : State := s.f ROL_STS_CAPABLE (b2n s.capable)

/-- Since when the hub is ISOLATED without a host link up (R590). -/
def State.noteIso (s : State) : State :=
  let iso := s.g ROL_STS_ROLE == roleISOLATED && !s.sys.hostLink
  { s with sys := { s.sys with isoAt := if iso then some (s.sys.isoAt.getD s.elapsed) else none } }

/-- The hub's own candidacy (R506). -/
def State.candidacy (s : State) : CandS :=
  { capable := s.capable, rank := s.g ROL_CFG_RANK, hubid := s.hubid, combid := s.combid, epoch := s.g ROL_EPOCH,
    old := s.myPos.getD 16 }

/-- The body of an OFFER (R509). -/
def CandS.offer (c : CandS) (hops rootport : Nat) : List Nat :=
  [b2n c.capable, c.rank, c.old, 0] ++ toLe 4 c.epoch ++ toLe 8 c.hubid ++ toLe 8 c.combid ++ [hops, rootport] ++
    List.replicate 6 0

/-- The ports that take part in a round (R508). -/
def State.roundPorts (s : State) : List Nat := s.activePorts.filter fun p => (s.port p).dormantAt.isNone

/-- The hub enters round n (R508, R510 step 1). -/
def State.enterRound (s : State) (n : Nat) : State :=
  let c := s.candidacy
  let r : RoundS := { best := c, own := c, last := s.elapsed, ctState := s.g TIM_CTSTS_STATE, role := s.g ROL_STS_ROLE }
  let s : State := { s with rol := { s.rol with round := n, cur := some r } }
  let s := s.f ROL_STS_ELECTING 1
  s.roundPorts.foldl (fun s p => s.sendElect p 1 n (c.offer 0 p)) s

/-- The hub starts a round (R508): the number after the highest it has seen. -/
def State.startRound (s : State) : State := s.enterRound (s.rol.round + 1)

end Sys2Proof.Machine
end

