-- ==== Sys2Proof/Machine/Tenant.lean ====
section
/-! DEFINITION. Tenant contexts, ownership, leases, windows and quotas, as every check reads them
(spec/12_tenants_and_isolation.md R374-R393). -/
namespace Sys2Proof.Machine

/-- Context states (R374). -/
abbrev ctxFREE : Nat := 0
abbrev ctxACTIVE : Nat := 1
abbrev ctxRESETTING : Nat := 2

/-- Context 0 (R374, R375): always ACTIVE, at home on its own hub, with its quotas in registers. -/
def State.ctx0 (s : State) : CtxS :=
  { s.ten.ctx.get (fun _ => {}) 0 with
    state := ctxACTIVE, uid := 0, home := s.pos, ceil := s.g TEN_T0CEIL, srate := s.g TEN_T0SRATE, bw := s.g TEN_T0BW,
    streams := s.g TEN_T0CNT2_STREAMS, entries := s.g TEN_T0CNT_ENTRIES, inst := s.g TEN_T0CNT_INST,
    leases := s.g TEN_T0CNT2_LEASES }

/-- A tenant context. Number 1024 + p stands for tenant 0 of the host at another position p; its UID has zero in its low 64
bits, as tenant 0 has none. -/
def State.ctx (s : State) (t : Nat) : CtxS :=
  if t = 0 then s.ctx0
  else if 1024 ≤ t then { s.ctx0 with uid := 2 ^ 64 * (t - 1023), home := t - 1024, wins := {} }
  else s.ten.ctx.get (fun _ => {}) t

/-- TEN_STS follows the contexts and leases. -/
def State.tenSts (s : State) : State :=
  (s.f TEN_STS_ACTIVE (1 + (s.ten.ctx.cells.filter fun c => c.1 != 0 && c.2.state == ctxACTIVE).length)).f TEN_STS_LEASES
    s.ten.leases.length

/-- Sets a context. -/
def State.setCtx (s : State) (t : Nat) (c : CtxS) : State :=
  ({ s with ten := { s.ten with ctx := s.ten.ctx.set (fun _ => {}) t c } } : State).tenSts

/-- Sets the leases. -/
def State.setLeases (s : State) (l : List LeaseS) : State :=
  ({ s with ten := { s.ten with leases := l } } : State).tenSts

/-- The tenant is ACTIVE. -/
def State.tenActive (s : State) (t : Nat) : Bool := (s.ctx t).state == ctxACTIVE

/-- The tenant exists with its home on this hub. -/
def State.homed (s : State) (t : Nat) : Bool := (s.ctx t).state != ctxFREE && (s.ctx t).home == s.pos

/-- The tenant is ACTIVE with its home on this hub (R407). -/
def State.served (s : State) (t : Nat) : Bool := s.tenActive t && (s.ctx t).home == s.pos

/-- A number that stands for tenant 0 of some hub. -/
def isT0 (t : Nat) : Bool := t == 0 || decide (1024 ≤ t)

/-- The number for a tenant of the hub at position p. -/
def State.tenAt (s : State) (p t : Nat) : Nat := if t = 0 ∧ p ≠ s.pos then 1024 + p else t

/-- The tenant with a UID; UID 0 is tenant 0. -/
def State.tidOf (s : State) (uid : Nat) : Option Nat :=
  if uid = 0 then some 0
  else if 2 ^ 64 ≤ uid then some (uid / 2 ^ 64 + 1023)
  else (s.ten.ctx.cells.find? fun c => c.1 != 0 && c.2.uid == uid && c.2.state != ctxFREE).map Prod.fst

/-! Endpoints' owners (R380). -/

/-- UID of the owner of a local endpoint; 0 for none. -/
def State.ownerUid (s : State) (e : Nat) : Nat := s.ten.owners.get (fun _ => 0) e

/-- Sets an owner. -/
def State.setOwner (s : State) (e uid : Nat) : State :=
  { s with ten := { s.ten with owners := s.ten.owners.set (fun _ => 0) e uid } }

/-- The tenant owns a local endpoint; an unbound one counts as tenant 0's to act on. -/
def State.owns (s : State) (t e : Nat) : Bool :=
  if t = 0 ∨ 1024 ≤ t then s.ownerUid e == 0 else s.ownerUid e != 0 && s.ownerUid e == (s.ctx t).uid

/-- The tenant that owns a local endpoint; 0 when it is unbound. -/
def State.ownerTid (s : State) (e : Nat) : Nat := (s.tidOf (s.ownerUid e)).getD 0

/-- A binding covers a local endpoint with a record (R381). -/
def State.bindCovers (s : State) (b : BindS) (e : Nat) (r : EpS) : Bool :=
  if b.kind = 1 then r.src == 1 && r.nodeid == b.id && decide (b.rfirst ≤ r.report) && decide (r.report ≤ b.rlast)
  else decide (b.first ≤ s.pos * 131072 + e) && decide (s.pos * 131072 + e < b.first + b.id)

/-- The UID that the bindings give a local endpoint with a record (R382, R383): the keystone's binding, else, for a node that no
binding names, its retained pair while a tenant has that UID; 0 for unbound. -/
def State.bindOwner (s : State) (e : Nat) (r : EpS) : Nat :=
  if r.src = 0 then 0
  else match s.ten.binds.find? fun b => s.bindCovers b e r with
    | some b => b.owner
    | none =>
      if r.src ≠ 1 ∨ (s.ten.binds.any fun b => b.kind == 1 && b.id == r.nodeid) = true then 0
      else match s.ten.pairs.find? fun x => x.id == r.nodeid with
        | some x => if (s.ten.ctx.cells.any fun c => c.1 != 0 && c.2.uid == x.uid && c.2.state != ctxFREE) then x.uid else 0
        | none => 0

/-! GEIDs (spec/00_scope.md "Worked example: reading a GEID"). -/

/-- The GEID of a local endpoint. -/
def State.geid (s : State) (e : Nat) : Nat := s.pos * 131072 + e

/-- A lease of this hub in force covers an endpoint for a tenant (R384). -/
def State.leased (s : State) (t e : Nat) : Bool :=
  s.ten.leases.any fun l =>
    l.ended.isNone && l.grantee == t && decide (l.first % 131072 ≤ e) && decide (e < l.first % 131072 + l.count)

/-- The tenant owns a local endpoint or holds a lease on it (R353, R385): it may name it. -/
def State.mayName (s : State) (t e : Nat) : Bool := s.owns t e || s.leased t e

/-- The tenant may open a stream on a local endpoint (R386): an unbound one only as tenant 0. -/
def State.mayRead (s : State) (t e : Nat) : Bool := s.owns t e || (s.ownerUid e != 0 && s.leased t e)

/-! Memory windows (R392). -/

/-- A window holds n bytes at an address with the attributes asked for. -/
def WinS.holds (w : WinS) (addr n : Nat) (r wr : Bool) : Bool :=
  decide (w.base ≤ addr) && decide (addr + n ≤ w.base + w.len * 4096) && (!r || w.r) && (!wr || w.w)

/-- n bytes at an address lie wholly within one window of the tenant. -/
def State.inWindow (s : State) (t addr n : Nat) (r w : Bool) : Bool :=
  (s.ctx t).wins.cells.any fun c => c.2.holds addr n r w

/-! Quotas (R389). -/

/-- A refusal by quota is counted. -/
def State.quotaRefuse (s : State) : State := s.inc TEN_QREFUSE

/-- Streams of a tenant charged at this home, and their delivery charge. -/
def State.streamUse (s : State) (t : Nat) : Nat := (s.rng.charges.filter fun c => c.tid == t).length

/-- BW in use. -/
def State.bwUse (s : State) (t : Nat) : Nat := ((s.rng.charges.filter fun c => c.tid == t).map ChargeS.bw).sum

/-- Leases a tenant has granted and not yet ended on this hub. -/
def State.leaseUse (s : State) (t : Nat) : Nat := (s.ten.leases.filter fun l => l.grantor == t).length

/-- The hub is QUARANTINED (R520). -/
def State.quar (s : State) : Bool := s.on ROL_STS_QUAR

/-- Tenant 0 of the keystone (R25): the hub is KEYSTONE, or ISOLATED, keystone-capable at its last round (R17) and without a peer in
session. -/
def State.keystoneHere (s : State) : Bool :=
  s.g ROL_STS_ROLE == roleKEYSTONE ||
    (s.g ROL_STS_ROLE == roleISOLATED && s.rol.capable && s.activePorts.isEmpty)

/-- The positions of the directory, this hub's alone when it is empty. -/
def State.positions (s : State) : List Nat := if s.rol.dir.isEmpty then [s.pos] else s.rol.dir.map DirS.pos

/-- The positions of hubs with a host. -/
def State.hostPositions (s : State) : List Nat :=
  if s.rol.dir.isEmpty then [s.pos] else (s.rol.dir.filter fun e => nbit e.flags 0).map DirS.pos

end Sys2Proof.Machine
end

