-- ==== Sys2Proof/Machine/Record.lean ====
section
/-! DEFINITION. Tenants' rings as levels and queues: ring state, the four interrupt sources, and the placing and forwarding of
event records (spec/13_rings_doorbells_and_casks.md R408-R413, R437-R439; R461, R497). -/
namespace Sys2Proof.Machine

/-- A tenant's rings. -/
def State.tr (s : State) (t : Nat) : TRingS := s.rng.rings.get (fun _ => {}) t

/-- Sets a tenant's rings. -/
def State.setTr (s : State) (t : Nat) (r : TRingS) : State :=
  { s with rng := { s.rng with rings := s.rng.rings.set (fun _ => {}) t r } }

/-- A cask ring of a tenant. -/
def State.cr (s : State) (t r : Nat) : CRingS := (s.tr t).crs.get (fun _ => {}) r

/-- Sets a cask ring. -/
def State.setCr (s : State) (t r : Nat) (c : CRingS) : State :=
  s.setTr t { s.tr t with crs := (s.tr t).crs.set (fun _ => {}) r c }

/-- Ring states (R412). -/
abbrev rsSTOPPED : Nat := 0
abbrev rsRUNNING : Nat := 1
abbrev rsHALTED : Nat := 2
abbrev rsSTOPPING : Nat := 3

/-- Entries of a ring. -/
def ringSize (ord : Nat) : Nat := 2 ^ ord

/-- A tenant's error level (R410). -/
def TRingS.errLevel (r : TRingS) : Bool :=
  r.dberr || r.cmd.state == rsHALTED || r.cpl.state == rsHALTED || r.evt.state == rsHALTED ||
    r.crs.cells.any fun c => c.2.state == rsHALTED

/-- A tenant's cask level (R410). -/
def TRingS.caskLevel (r : TRingS) : Bool := r.crs.cells.any fun c => c.2.ack != c.2.hub

/-- The level of a tenant's source k: 0 completion, 1 cask, 2 event, 3 error (R410). -/
def TRingS.levelOf (r : TRingS) (k : Nat) : Bool :=
  match k with
  | 0 => r.cpl.host != r.cpl.hub
  | 1 => r.caskLevel
  | 2 => r.evt.host != r.evt.hub
  | _ => r.errLevel

/-- Source k of a tenant takes its level, with an arrival when `arr` (R535). -/
def State.ringLevel (s : State) (t k : Nat) (arr : Bool) : State :=
  s.tenantSource (4 * t + k) ((s.tr t).levelOf k) arr

/-- The 32 bytes of an event record with PHASE (R437). -/
def EvRecS.bytes (e : EvRecS) (phase : Bool) : List Nat :=
  [(if e.src = 0 then 5 else 3) + 128 * b2n phase, e.src] ++ toLe 2 e.code ++ toLe 2 e.flags ++ [e.pos, 0] ++ toLe 8 e.ct ++
    toLe 4 e.a ++ toLe 4 e.b ++ toLe 4 e.c ++ toLe 4 e.d

/-- An event record from its 32 bytes. -/
def EvRecS.parse (b : List Nat) (dep : Option (Nat × Nat × Nat)) : EvRecS :=
  { src := leAt b 1 1, code := leAt b 2 2, flags := leAt b 4 2, pos := leAt b 6 1 % 16, ct := leAt b 8 8, a := leAt b 16 4,
    b := leAt b 20 4, c := leAt b 24 4, d := leAt b 28 4, dep := dep }

/-- An event record joins its tenant's queue at the home (R439): 256 records, else it is discarded and counted. -/
def State.queueEv (s : State) (t : Nat) (e : EvRecS) : State :=
  let r := s.tr t
  if r.evq.length < 256 then s.setTr t { r with evq := r.evq ++ [e] }
  else (s.setTr t { r with evLost := r.evLost + 1, evLostCt := if r.evLost = 0 then e.ct else r.evLostCt }).inc RNG_EVLOST

/-- Sampling has stopped in the core (R591 step 2, R601): from the commit points of an entry on, in the state, at shed stage 4, in the
final commit and until the end of the wake. -/
def State.watchRuns (s : State) : Bool :=
  decide (4 ≤ s.stage) || s.sys.pstate == .watch || s.sys.pstate == .hibernate ||
    (match s.sys.entry with
      | some e => decide (3 ≤ e.step)
      | none => false) || s.sys.wake != 0 ||
    s.sys.final != 0

/-- The watch engine runs then (R598, R602): not at stage 5, in the final commit, or on the way to OFF. -/
def State.watchLive (s : State) : Bool :=
  s.watchRuns && decide (s.stage < 5) && s.sys.final == 0 && !(match s.sys.entry with | some e => e.target == .off | none => false)

/-- Bytes a watch entry takes in the buffer. -/
def WatchS.size (w : WatchS) : Nat :=
  match w.rec_ with
  | some r => if r.kind = 7 then 28 + (r.data.length + 3) / 4 * 4 else 28
  | none => 32

/-- The oldest watch entry is overwritten: counted, and remembered for its stream (R463, R464). -/
def State.watchDrop (s : State) : State :=
  match s.rng.watch with
  | [] => s
  | w :: rest =>
    let l := match w.rec_ with
      | some r => if s.rng.watchLost.any fun x => x.1 == r.stream then s.rng.watchLost else s.rng.watchLost ++ [(r.stream, r.seq)]
      | none => s.rng.watchLost
    let e := match w.ev with
      | some v =>
        if s.rng.watchEvLost.any fun x => x.1 == w.uid then
          s.rng.watchEvLost.map fun x => if x.1 = w.uid then (x.1, x.2.1 + 1, x.2.2) else x
        else s.rng.watchEvLost ++ [(w.uid, 1, v.ct)]
      | none => s.rng.watchEvLost
    ({ s with rng := { s.rng with watch := rest, watchLost := l, watchEvLost := e } } : State).inc PWR_WATCHLOST

/-- Room for n bytes is made in the 512 KB watch buffer. -/
def State.watchRoom (n : Nat) : Nat → State → State
  | 0, s => s
  | k + 1, s => if (s.rng.watch.map WatchS.size).sum + n ≤ 524288 then s else State.watchRoom n k s.watchDrop

/-- An entry joins the watch buffer. -/
def State.watchPush (s : State) (w : WatchS) : State :=
  let s := State.watchRoom w.size s.rng.watch.length s
  { s with rng := { s.rng with watch := s.rng.watch ++ [w] } }

/-- The producer cask number an EVENT message carries; 0 when the record refers to no sample. -/
def EvRecS.pcn (e : EvRecS) : Nat :=
  match e.dep with
  | some d => d.2.2
  | none => 0

/-- Forwards an event record to a home (R461, R497). -/
def State.sendEv (s : State) (uid home : Nat) (e : EvRecS) : State :=
  s.sendMsg clsEVENT 1 home (toLe 8 uid ++ toLe 4 e.pcn ++ [0, 0, 0, 0] ++ e.bytes false)

/-- An event record goes to a tenant by UID at a home: queued here, forwarded, or held while there is no path or the hub is
QUARANTINED (R439, R471). -/
def State.routeEv (s : State) (uid home : Nat) (e : EvRecS) : State :=
  if s.watchRuns then s.watchPush { uid := uid, home := home, ev := some e }
  else if home = s.pos then
    match s.tidOf uid with
    | some t => s.queueEv t e
    | none => s
  else if (s.routePort home).isSome && !s.quar then s.sendEv uid home e
  else { s with rng := { s.rng with evHeld := s.rng.evHeld ++ [(uid, home, e)] } }

/-- HOLDOVER and WATCH of a record or a raw value with time-stamp t (R33, R94, R437). -/
def State.flagsAt (s : State) (t : Nat) : Nat := flagIf (flagIf 0 fHOLDOVER (s.holdoverAt t)) fWATCH s.watchRuns

/-- Makes an event record with the flags of its time-stamp and the present position. -/
def State.mkEv (s : State) (src code ct a b c d : Nat) : EvRecS :=
  { src := src, code := code, flags := s.flagsAt ct, pos := s.pos, ct := ct, a := a % 2 ^ 32, b := b % 2 ^ 32, c := c % 2 ^ 32,
    d := d % 2 ^ 32 }

/-- Places an event record for a tenant of this hub's contexts. -/
def State.record (s : State) (t : Nat) (e : EvRecS) : State := s.routeEv (s.ctx t).uid (s.ctx t).home e

/-- Places an event record for tenant 0 of each hub with a host (R438). -/
def State.recordHosts (s : State) (e : EvRecS) : State := s.hostPositions.foldl (fun s p => s.routeEv 0 p e) s

/-- Places an event record for tenant 0 of the keystone and of this hub (R438 NODE). -/
def State.recordNode (s : State) (e : EvRecS) : State :=
  let s := s.routeEv 0 s.pos e
  if s.pos = 0 then s else s.routeEv 0 0 e

/-- Places a RING record for a tenant homed here (R409, R415, R438). -/
def State.ringRecord (s : State) (t code ring status slot : Nat) : State :=
  s.queueEv t (s.mkEv evRING code s.ct ring status slot 0)

/-- A LASTING record of the hub for its tenant 0 (R438). -/
def State.hubLasting (s : State) (status : Nat) : State :=
  (s.f BOOT_HKSTS_LASTFAULT status).routeEv 0 s.pos (s.mkEv evHUB 3 s.ct status 0 0 0)

/-- Sends the event records held for homes that now have a path (R460, R528). -/
def State.flushEvHeld (s : State) : State :=
  let l := s.rng.evHeld
  let s : State := { s with rng := { s.rng with evHeld := [] } }
  l.foldl (fun s x => s.routeEv x.1 x.2.1 x.2.2) s

end Sys2Proof.Machine
end

