-- ==== Sys2Proof/Machine/Cask.lean ====
section
/-! DEFINITION. Casks and streams: record layouts, open casks, closing, forwarding, holding and discarding
(spec/13_rings_doorbells_and_casks.md R423-R435; spec/14_ordering_and_recovery.md). -/
namespace Sys2Proof.Machine

/-! Record layouts (R434). -/

/-- A record is written as a SAMPLE_DELTA after `p`. -/
def RecS.deltaAfter (p : Option RecS) (r : RecS) : Bool :=
  match p with
  | none => false
  | some q =>
    r.compact && r.kind == 1 && q.kind == 1 && q.stream == r.stream && r.seq == (q.seq + 1) % 2 ^ 32 &&
      decide (q.geid ≤ r.geid + 128) && decide (r.geid ≤ q.geid + 127) && decide (q.ct ≤ r.ct) && decide (r.ct < q.ct + 2 ^ 32)

/-- The bytes of a record that follows `p`. -/
def RecS.bytes (p : Option RecS) (r : RecS) : List Nat :=
  if r.deltaAfter p then
    let q := p.getD r
    [2, unsigned 8 ((r.geid : Int) - q.geid)] ++ toLe 2 r.flags ++ toLe 4 (r.ct - q.ct) ++ toLe 4 r.v
  else match r.kind with
    | 1 => [1, 0] ++ toLe 2 r.flags ++ toLe 4 r.stream ++ toLe 4 r.seq ++ toLe 4 r.geid ++ toLe 8 r.ct ++ toLe 4 r.v
    | 4 => [4, r.reason, 0, 0] ++ toLe 4 r.stream ++ toLe 4 r.seq ++ [0, 0, 0, 0]
    | 5 => [5, 0, 0, 0] ++ toLe 4 r.seq ++ toLe 8 r.ct
    | 6 => [6, 0, 0, 0] ++ toLe 4 r.stream ++ toLe 4 r.seq ++ [0, 0, 0, 0] ++ toLe 8 r.ct
    | _ =>
      let n := 28 + (r.data.length + 3) / 4 * 4
      [7, r.esize] ++ toLe 2 n ++ toLe 4 r.stream ++ toLe 4 r.seq ++ toLe 2 r.flags ++ toLe 2 r.nelem ++ toLe 8 r.ct ++
        toLe 4 r.geid ++ padTo (n - 28) r.data

/-- The bytes of records after `p`. -/
def recBytes (p : Option RecS) : List RecS → List Nat
  | [] => []
  | r :: rs => r.bytes p ++ recBytes (some r) rs

/-- The records of a cask's bytes, following `p`; `n` bounds their number. -/
def parseRecs (p : Option RecS) : Nat → List Nat → List RecS
  | 0, _ => []
  | n + 1, b =>
    if b.isEmpty then []
    else
      let fl := leAt b 2 2
      match leAt b 0 1 % 16 with
      | 1 =>
        let r : RecS := { kind := 1, flags := fl, stream := leAt b 4 4, seq := leAt b 8 4, geid := leAt b 12 4, ct := leAt b 16 8,
                          v := leAt b 24 4 }
        r :: parseRecs (some r) n (b.drop 28)
      | 2 =>
        let q := p.getD { kind := 1 }
        let r : RecS := { q with
          flags := fl, seq := (q.seq + 1) % 2 ^ 32, geid := ((q.geid : Int) + signed 8 (leAt b 1 1)).toNat, ct := q.ct + leAt b 4 4,
          v := leAt b 8 4, compact := true }
        r :: parseRecs (some r) n (b.drop 12)
      | 4 =>
        let r : RecS := { kind := 4, reason := leAt b 1 1, stream := leAt b 4 4, seq := leAt b 8 4 }
        r :: parseRecs (some r) n (b.drop 16)
      | 5 =>
        let r : RecS := { kind := 5, seq := leAt b 4 4, ct := leAt b 8 8 }
        r :: parseRecs (some r) n (b.drop 16)
      | 6 =>
        let r : RecS := { kind := 6, stream := leAt b 4 4, seq := leAt b 8 4, ct := leAt b 16 8 }
        r :: parseRecs (some r) n (b.drop 24)
      | 7 =>
        let len := leAt b 2 2
        let ne := leAt b 14 2
        let r : RecS := { kind := 7, esize := leAt b 1 1, flags := leAt b 12 2, stream := leAt b 4 4, seq := leAt b 8 4,
                          nelem := ne, ct := leAt b 16 8, geid := leAt b 24 4, data := (b.drop 28).take (ne * leAt b 1 1) }
        r :: parseRecs (some r) n (b.drop (max len 28))
      | _ => []

/-- Bytes of a cask, header included. -/
def CaskS.len (c : CaskS) : Nat := 64 + (recBytes none c.recs).length

/-- Time-stamps carried by records. -/
def RecS.stamp (r : RecS) : Option Nat := if r.kind = 4 then none else some r.ct

/-- FIRSTCT: the smallest time-stamp, 0 for none (R433). -/
def firstCt (l : List RecS) : Nat :=
  (l.foldl (fun m r => match r.stamp, m with
    | some c, some x => some (min c x)
    | some c, none => some c
    | none, m => m) none).getD 0

/-- LASTCT: the largest time-stamp (R433). -/
def lastCt (l : List RecS) : Nat := l.foldl (fun m r => max m (r.stamp.getD 0)) 0

/-- A record carries flag b. -/
def anyFlag (l : List RecS) (b : Nat) : Bool := l.any fun r => (r.kind == 1 || r.kind == 7) && nbit r.flags b

/-! The cask buffer (R430, R432). -/

/-- Bytes held in the 8 MB cask buffer. -/
def State.caskBytes (s : State) : Nat :=
  (s.rng.open_.map CaskS.len).sum + (s.rng.fwd.map CaskS.len).sum + (s.rng.held.map CaskS.len).sum +
    (s.rng.gather.map fun g => g.bytes.length).sum

/-- RNG_CBUF follows the buffer; held casks that reach DOZEFILL per cent of it wake a DOZE (R595 bit 11). -/
def State.showCbuf (s : State) : State :=
  let n := s.caskBytes
  let s := s.f RNG_CBUF (min 8192 (n / 1024))
  if s.sys.pstate = .doze ∧ 8388608 * s.g PWR_CFG_DOZEFILL ≤ 100 * n then s.wakeDoze 0x800 else s

/-- Remembers a discarded cask of a tenant's ring (R432). -/
def addLoss (l : List LossS) (c : CaskS) (ct : Nat) : List LossS :=
  let gaps (old : List (Nat × Nat)) : List (Nat × Nat) :=
    c.recs.foldl (fun g r =>
      if (r.kind == 1 || r.kind == 4 || r.kind == 7) && !g.any (fun x => x.1 == r.stream) then g ++ [(r.stream, r.seq)] else g) old
  if l.any fun x => x.uid == c.uid && x.ring == c.ring then
    l.map fun x => if x.uid = c.uid ∧ x.ring = c.ring then { x with count := x.count + 1, gaps := gaps x.gaps } else x
  else l ++ [{ uid := c.uid, ring := c.ring, count := 1, ct := ct, gaps := gaps [] }]

/-- A cask's discard is counted, in RNG_CASKLOST and in the ring's LOST (R432); at the ring's home a number assigned to it is given
back. -/
def State.countLost (s : State) (c : CaskS) : State :=
  let s : State := { s with rng := { s.rng with loss := addLoss s.rng.loss c s.ct } }
  let s := s.inc RNG_CASKLOST
  match s.tidOf c.uid with
  | some t =>
    let r := s.cr t c.ring
    let r := { r with lost := min (r.lost + 1) (2 ^ 32 - 1) }
    s.setCr t c.ring (if c.cseq.isSome then { r with nextSeq := r.nextSeq - 1 } else r)
  | none => s

/-- A held cask whose contents are being placed now. -/
def State.placing (s : State) (c : CaskS) : Bool :=
  match s.tidOf c.uid with
  | some t => c.cseq.isSome && (s.cr t c.ring).place != 0
  | none => false

/-- The records of a cask with the GAPs of a ring's discards: before the first record of each affected stream, or in the place of
a GAP that stands there. What is left is returned. -/
def insertGaps : List (Nat × Nat) → List RecS → List RecS × List (Nat × Nat)
  | gs, [] => ([], gs)
  | gs, r :: rs =>
    match (if r.kind = 1 ∨ r.kind = 4 ∨ r.kind = 7 then gs.find? fun g => g.1 == r.stream else none) with
    | none =>
      let (l, g) := insertGaps gs rs
      (r :: l, g)
    | some x =>
      let (l, g) := insertGaps (gs.filter fun y => y.1 != r.stream) rs
      let gap : RecS := { kind := 4, reason := gapDISCARDED, stream := x.1, seq := x.2 }
      (if r.kind = 4 then gap :: l else gap :: r :: l, g)

/-- What was discarded for a ring is declared in the records of its next cask (R432): a LOST record first, then the GAPs. -/
def State.applyLoss (s : State) (uid ring : Nat) (recs : List RecS) : State × List RecS :=
  match s.rng.loss.find? fun x => x.uid == uid && x.ring == ring with
  | none => (s, recs)
  | some x =>
    let (l, g) := insertGaps x.gaps recs
    let head : List RecS := if 0 < x.count then [{ kind := 5, seq := x.count, ct := x.ct }] else []
    let others := s.rng.loss.filter fun y => !(y.uid == uid && y.ring == ring)
    ({ s with rng := { s.rng with loss := if g.isEmpty then others else others ++ [{ x with count := 0, gaps := g }] } }, head ++ l)

/-- Cuts records into runs that fit a cask of `size` bytes; a GAP stays with the record after it. -/
def chunkRecs (size : Nat) : List RecS → List RecS → List (List RecS) → List (List RecS)
  | [], cur, acc => if cur.isEmpty then acc else acc ++ [cur]
  | r :: rs, cur, acc =>
    let need := 64 + (recBytes none (cur ++ [r])).length + (if r.kind = 4 then (recBytes none (rs.take 1)).length else 0)
    if cur.isEmpty ∨ need ≤ size then chunkRecs size rs (cur ++ [r]) acc else chunkRecs size rs [r] (acc ++ [cur])

/-- A cask as the casks its records fill, all but the last closed on SIZE. -/
def CaskS.split (c : CaskS) (size : Nat) : List CaskS :=
  let l := chunkRecs size c.recs [] []
  (List.range l.length).map fun i =>
    { c with recs := l.getD i [], close := if i + 1 < l.length then clSIZE else c.close, cseq := if i = 0 then c.cseq else none }

/-- Producer cask numbers of a tenant's ring from `n` on, in order: forwarded casks, then the open one (R459). -/
def State.renumber (s : State) (uid ring n : Nat) : State :=
  let is := fun (c : CaskS) => c.uid == uid && c.ring == ring && decide (n ≤ c.pcn)
  let step := fun (x : List CaskS × Nat) (c : CaskS) => if is c then (x.1 ++ [{ c with pcn := x.2 }], x.2 + 1) else (x.1 ++ [c], x.2)
  let (f, k) := s.rng.fwd.foldl step ([], n)
  let (o, k) := s.rng.open_.foldl step ([], k)
  { s with rng := { s.rng with
    fwd := f, open_ := o
    pcns := s.rng.pcns.map fun x => if x.1 = uid ∧ x.2.1 = ring then (uid, ring, k - 1) else x } }

/-- A forwarded cask is discarded; the numbers after it close up. -/
def State.dropFwd (s : State) (c : CaskS) : State :=
  ((({ s with rng := { s.rng with fwd := s.rng.fwd.erase c } } : State).countLost c).renumber c.uid c.ring c.pcn)

/-- The older of the first discardable forwarded and held casks is discarded. -/
def State.dropOldest (s : State) : State :=
  let h := s.rng.held.find? fun c => !s.placing c
  match s.rng.fwd, h with
  | f :: _, some c =>
    if f.at_ ≤ c.at_ then s.dropFwd f
    else ({ s with rng := { s.rng with held := s.rng.held.erase c } } : State).countLost c
  | f :: _, none => s.dropFwd f
  | [], some c => ({ s with rng := { s.rng with held := s.rng.held.erase c } } : State).countLost c
  | [], none => s

/-- Discards the oldest held casks until the buffer is within 8 MB. -/
def State.fitCaskBuf : Nat → State → State
  | 0, s => s
  | n + 1, s => if s.caskBytes ≤ 8388608 then s else State.fitCaskBuf n s.dropOldest

/-- The buffer is brought within 8 MB (R432). -/
def State.trimCasks (s : State) : State :=
  (State.fitCaskBuf (s.rng.fwd.length + s.rng.held.length) s).showCbuf

/-! Forwarding (R430, R496, R459). -/

/-- Splits a cask's records into the bodies of CASK_DATA messages of at most 4,096 bytes of whole records. -/
def packData (p : Option RecS) : List RecS → List (List Nat) → List Nat → List (List Nat)
  | [], acc, cur => if cur.isEmpty then acc else acc ++ [cur]
  | r :: rs, acc, cur =>
    let b := r.bytes p
    if cur.length + b.length ≤ 4096 ∨ cur.isEmpty then packData (some r) rs acc (cur ++ b)
    else packData (some r) rs (acc ++ [cur]) b

/-- The records after the first `n` bytes, with the record before them. -/
def dropRecs (p : Option RecS) : Nat → List RecS → Option RecS × List RecS
  | _, [] => (p, [])
  | n, r :: rs => if n = 0 then (p, r :: rs) else dropRecs (some r) (n - (r.bytes p).length) rs

/-- Sends what a cask holds beyond the bytes already sent, as CASK_DATA. -/
def State.sendCaskData (s : State) (home : Nat) (c : CaskS) : State :=
  let (p, rest) := dropRecs none c.sent c.recs
  let hd := toLe 8 c.uid ++ toLe 4 c.pcn ++ [c.ring, 0, 0, 0]
  ((packData p rest [] []).foldl (fun (x : State × Nat) b =>
    (x.1.sendMsg clsCASK 1 home (hd ++ toLe 4 x.2 ++ [0, 0, 0, 0] ++ b), x.2 + b.length)) (s, c.sent)).1

/-- Sends the CASK_CLOSE of a cask. -/
def State.sendCaskClose (s : State) (home : Nat) (c : CaskS) : State :=
  let fl := 2 * b2n (anyFlag c.recs fHOLDOVER) + 4 * b2n (anyFlag c.recs fWATCH)
  s.sendMsg clsCASK 2 home (toLe 8 c.uid ++ toLe 4 c.pcn ++ [c.ring, c.close, fl, 0] ++ toLe 4 (c.len - 64) ++
    toLe 4 c.recs.length ++ toLe 8 (firstCt c.recs) ++ toLe 8 (lastCt c.recs) ++ toLe 4 c.epoch ++ [0, 0, 0, 0])

/-- The home of a cask's tenant, with a path for casks now (R471). -/
def State.caskHome (s : State) (uid : Nat) : Option Nat :=
  match s.tidOf uid with
  | some t =>
    let h := (s.ctx t).home
    if h ≠ s.pos ∧ (s.routePort h).isSome = true ∧ ¬ s.quar = true then some h else none
  | none => none

/-- A cask of a tenant's ring waits after a REJECT, so none behind it is sent (R460). -/
def State.blocked (s : State) (uid ring : Nat) : Bool :=
  (s.rng.fwd ++ s.rng.open_).any fun c => c.uid == uid && c.ring == ring && (c.block == 1 || c.block == 3)

/-- Forwards the open cask of a tenant's ring once it holds CUT bytes (R430); a hub that is not the home uses the default CUT.
A cask that must first declare what was discarded is sent when it closes. -/
def State.cutThrough (s : State) (c : CaskS) : State :=
  match s.caskHome c.uid with
  | none => s
  | some h =>
    if s.blocked c.uid c.ring = true ∨ c.sent = 0 ∧ (c.len < 1024 ∨ s.rng.loss.any (fun x => x.uid == c.uid && x.ring == c.ring) = true) then s
    else
      let s := s.sendCaskData h c
      { s with rng := { s.rng with
        open_ := s.rng.open_.map fun x => if x.uid = c.uid ∧ x.ring = c.ring then { x with sent := c.len - 64 } else x } }

/-- Sends one closed cask, whole or its rest, with its close. -/
def State.sendClosed (s : State) (c : CaskS) : State :=
  match s.caskHome c.uid with
  | none => s
  | some h => (s.sendCaskData h c).sendCaskClose h c

/-- The first closed cask of a ring not yet sent takes what was discarded for the ring, split where it grows past the default SIZE. -/
def State.declareFwd (s : State) (c : CaskS) : State :=
  if c.sent ≠ 0 ∨ !s.rng.loss.any (fun x => x.uid == c.uid && x.ring == c.ring) then s
  else
    let (s, recs) := s.applyLoss c.uid c.ring c.recs
    let l := ({ c with recs := recs } : CaskS).split 16384
    let s : State := { s with rng := { s.rng with fwd := (s.rng.fwd.map fun x => if x = c then l else [x]).flatten } }
    s.renumber c.uid c.ring c.pcn

/-- Sends one closed cask by its number, when its home has a path. -/
def State.sendFwd (s : State) (uid ring pcn : Nat) : State :=
  match s.rng.fwd.find? fun c => c.uid == uid && c.ring == ring && c.pcn == pcn with
  | none => s
  | some c =>
    if c.closing ∨ (s.caskHome uid).isNone ∨ s.blocked uid ring = true then s
    else
      let s := s.sendClosed c
      { s with rng := { s.rng with
        fwd := s.rng.fwd.map fun x => if x = c then { c with sent := c.len - 64, closing := true } else x } }

/-- Sends every closed cask not yet sent, in close order (R459, R468). -/
def State.flushFwd (s : State) : State :=
  let s := s.rng.fwd.foldl (fun s c => if c.closing ∨ (s.caskHome c.uid).isNone then s else s.declareFwd c) s
  s.rng.fwd.foldl (fun s c => s.sendFwd c.uid c.ring c.pcn) s

/-- Every cask not accepted is to be sent again, whole, from the first (R459, R528). -/
def State.resendFwd (s : State) : State :=
  let s : State := { s with rng := { s.rng with
    fwd := s.rng.fwd.map fun c => { c with sent := 0, closing := false, block := 0 }
    open_ := s.rng.open_.map fun c => { c with sent := 0, block := 0 } } }
  s.flushFwd

/-! Opening and closing (R429). -/

/-- The next producer cask number of a tenant's ring (R459). -/
def State.nextPcn (s : State) (uid ring : Nat) : Nat :=
  match s.rng.pcns.find? fun x => x.1 == uid && x.2.1 == ring with
  | some x => (x.2.2 + 1) % 2 ^ 32
  | none => 1

/-- The close size and age in force for a tenant's ring: as started at the home; elsewhere the defaults. -/
def State.closeRule (s : State) (uid ring : Nat) : Nat × Nat :=
  match s.tidOf uid with
  | some t => if s.homed t then ((s.cr t ring).size, (s.cr t ring).age) else (16384, 10000)
  | none => (16384, 10000)

/-- The open cask of a tenant's ring. -/
def State.openCask (s : State) (uid ring : Nat) : Option CaskS :=
  s.rng.open_.find? fun c => c.uid == uid && c.ring == ring

/-- Closes the open cask of a tenant's ring with a code: held at a home here, else for forwarding. Event records that refer to
its samples follow it by number. -/
def State.closeCask (s : State) (uid ring code : Nat) : State :=
  match s.openCask uid ring with
  | none => s
  | some c =>
    let c := { c with close := code, epoch := s.g ROL_EPOCH }
    let s : State := { s with rng := { s.rng with open_ := s.rng.open_.filter fun x => !(x.uid == uid && x.ring == ring) } }
    let here := match s.tidOf uid with
      | some t => s.homed t
      | none => false
    if here then ({ s with rng := { s.rng with held := s.rng.held ++ [c] } } : State).trimCasks
    else (({ s with rng := { s.rng with fwd := s.rng.fwd ++ [c] } } : State).flushFwd).trimCasks

/-- Opens a cask for a tenant's ring, empty. -/
def State.newCask (s : State) (uid ring : Nat) : State :=
  let n := s.nextPcn uid ring
  let c : CaskS := { uid := uid, ring := ring, src := s.pos, pcn := n, at_ := s.elapsed }
  { s with rng := { s.rng with
    open_ := s.rng.open_ ++ [c]
    pcns := (s.rng.pcns.filter fun x => !(x.1 == uid && x.2.1 == ring)) ++ [(uid, ring, n)] } }

/-- Records join the open cask of a tenant's ring, opening one when there is none. -/
def State.appendRecs (s : State) (uid ring : Nat) (rs : List RecS) : State :=
  let s := if (s.openCask uid ring).isNone then s.newCask uid ring else s
  { s with rng := { s.rng with
    open_ := s.rng.open_.map fun c => if c.uid = uid ∧ c.ring = ring then { c with recs := c.recs ++ rs } else c } }

/-- Records that stand together are placed (R429): the cask closes on SIZE before them when they do not fit, and after them when
it is full; what has been opened past CUT is forwarded. -/
def State.putTogether (s : State) (uid ring : Nat) (rs : List RecS) : State :=
  let size := (s.closeRule uid ring).1
  let s := match s.openCask uid ring with
    | some c => if size < c.len + (recBytes c.recs.getLast? rs).length then s.closeCask uid ring clSIZE else s
    | none => s
  let s := s.appendRecs uid ring rs
  match s.openCask uid ring with
  | some c => if size ≤ c.len then s.closeCask uid ring clSIZE else (s.cutThrough c).showCbuf
  | none => s

/-! Streams (R423-R425). -/

/-- A stream's handle: the layout of a GEID. -/
def State.handle (s : State) (st : StreamS) : Nat := s.pos * 131072 + st.slot

/-- Changes the stream of a slot. -/
def State.modStream (s : State) (slot : Nat) (f : StreamS → StreamS) : State :=
  { s with rng := { s.rng with streams := s.rng.streams.map fun x => if x.slot = slot then f x else x } }

/-- A stream that covers a local endpoint. -/
def StreamS.covers (st : StreamS) (e : Nat) : Bool := decide (st.first ≤ e) && decide (e < st.first + st.count)

/-- `n` samples of a stream are missed with a reason: each consumes its sequence number (R252). -/
def StreamS.missed (n reason : Nat) (st : StreamS) : StreamS :=
  { st with miss := some (st.miss.getD (st.seq, reason)), seq := (st.seq + n) % 2 ^ 32 }

/-- The bucket's depth and level now (R390), in units of 10^-9 samples. -/
def State.bucket (s : State) (st : StreamS) : Nat :=
  min (max 4 ((st.maxrate + 99) / 100) * 1000000000) (st.level + (s.elapsed - st.levelAt) * st.maxrate)

/-- The GAP before a stream's next record, with the reason of its first number (R435). -/
def gapFor (h : Nat) (miss : Option (Nat × Nat)) : List RecS :=
  match miss with
  | some (f, why) => [{ kind := 4, reason := why, stream := h, seq := f }]
  | none => []

/-- A time-stamp and endpoint come before another (R445, R423). -/
def lexLt (a b : Nat × Nat) : Bool := decide (a.1 < b.1) || (a.1 == b.1 && decide (a.2 < b.2))

/-- A record of a stream is produced: `n` samples with time-stamp `ct`, of local endpoint `ep` or from it on. In order: the
quarantine (R471), the meter (R390), a backward step (R41), a record already passed in the order of R445, the watch buffer or the
cask. -/
def State.produce (s : State) (slot n ct ep : Nat) (r : RecS) : State :=
  match s.rng.streams.find? fun x => x.slot == slot with
  | none => s
  | some st =>
    let uid := (s.ctx st.tid).uid
    let h := s.handle st
    let lvl := s.bucket st
    if s.quar then s.modStream slot (StreamS.missed n gapQUARANTINED)
    else if lvl < n * 1000000000 then
      (s.modStream slot fun x => ({ x with level := lvl, levelAt := s.elapsed }).missed n gapMETERED).incBy TEN_SRDROP n
    else
      let s := s.modStream slot fun x => { x with level := lvl - n * 1000000000, levelAt := s.elapsed }
      if (match st.supp with | some x => decide (ct < x.1 ∨ ct = x.1 ∧ ep ≤ x.2.1) | none => false) then
        s.modStream slot (StreamS.missed n gapSUPPRESSED)
      else if (match st.supp, st.last with | none, some l => lexLt (ct, ep) (l, st.lastEp) | _, _ => false) then
        s.modStream slot (StreamS.missed n gapMISSED)
      else
        let rec_ := { r with seq := st.seq, stream := h, compact := st.compact }
        let s := s.modStream slot fun x =>
          { x with seq := (x.seq + n) % 2 ^ 32, miss := none, last := some ct, lastEp := ep, supp := x.supp.bind fun p =>
            if s.ct < ct then some (ct, 65536, p.2.2) else if p.2.2 < ct then none else some (ct, ep, p.2.2) }
        if s.watchRuns then
          (gapFor h st.miss ++ [rec_]).foldl (fun s r => s.watchPush { uid := uid, ring := st.ring, rec_ := some r }) s
        else s.putTogether uid st.ring (gapFor h st.miss ++ [rec_])

/-! Order within a stream (R423, R445, R252): a record or a missed sample waits while a poll or a raw value that comes before it
has still to be settled. -/

/-- What comes before `h` in a stream and is not settled: polls not yet delivered, raw values not yet decoded. -/
def State.unsettled (s : State) (st : StreamS) (h : Nat × Nat) : List (Nat × Nat) :=
  ((s.psc.txns.map fun x => (x.eps.filter fun e => st.covers e).map fun e => (x.ct, e)).flatten ++
    (if st.grist then [] else (s.ept.queue.filter fun r => st.covers r.ep).map fun r => (r.ct, r.ep))).filter fun k => lexLt k h

/-- A stream's first waiting item takes its numbers. -/
def State.passHead (s : State) (slot : Nat) (h : HoldS) : State :=
  match h.rec_ with
  | none => s.modStream slot (StreamS.missed h.n h.reason)
  | some r => s.produce slot h.n h.ct h.ep r

/-- Passes the waiting items of a stream that nothing unsettled precedes. -/
def State.drainStream (slot : Nat) : Nat → State → State
  | 0, s => s
  | k + 1, s =>
    match s.rng.streams.find? fun x => x.slot == slot with
    | none => s
    | some st =>
      match st.hold with
      | [] => s
      | h :: t =>
        if !(s.unsettled st (h.ct, h.ep)).isEmpty then s
        else State.drainStream slot k ((s.modStream slot fun x => { x with hold := t }).passHead slot h)

/-- An item among those that wait. -/
def holdPut (l : List HoldS) (h : HoldS) : List HoldS :=
  l.takeWhile (fun x => !lexLt (h.ct, h.ep) (x.ct, x.ep)) ++ h :: l.dropWhile fun x => !lexLt (h.ct, h.ep) (x.ct, x.ep)

/-- An item joins its stream and passes when nothing unsettled precedes it. -/
def State.offer (s : State) (slot : Nat) (h : HoldS) : State :=
  let s := s.modStream slot fun x => { x with hold := holdPut x.hold h }
  match s.rng.streams.find? fun x => x.slot == slot with
  | some st => State.drainStream slot st.hold.length s
  | none => s

/-- The waiting items of a stream that closes pass: what precedes one and is unsettled is declared missed first (R448). `gone`:
what has been declared. -/
def State.forceStream (slot : Nat) : Nat → List (Nat × Nat) → State → State
  | 0, _, s => s
  | k + 1, gone, s =>
    match s.rng.streams.find? fun x => x.slot == slot with
    | none => s
    | some st =>
      match st.hold with
      | [] => s
      | h :: t =>
        let u := (s.unsettled st (h.ct, h.ep)).eraseDups.filter fun x => !gone.contains x
        let s := s.modStream slot fun x => { x with hold := t }
        let s := if u.isEmpty then s else s.modStream slot (StreamS.missed u.length gapMISSED)
        State.forceStream slot k (gone ++ u) (s.passHead slot h)

/-- A sample of a local endpoint reaches every stream that covers it and is not GRIST (R423). -/
def State.streamSample (s : State) (e flags ct v : Nat) : State :=
  let l := s.rng.streams.filter fun st => st.covers e && !st.grist
  l.foldl (fun s st =>
    s.offer st.slot { ct := ct, ep := e, n := 1, rec_ := some { kind := 1, flags := flags, geid := s.geid e, ct := ct, v := v } }) s

/-- A missed sample of a local endpoint, for every stream that covers it and is not GRIST (R252). -/
def State.missSample (s : State) (e ct reason : Nat) : State :=
  let l := s.rng.streams.filter fun st => st.covers e && !st.grist
  l.foldl (fun s st => s.offer st.slot { ct := ct, ep := e, n := 1, reason := reason }) s

/-- A missed block of a GRIST stream: every element is missed (R423). -/
def State.missBlock (s : State) (slot ct reason : Nat) : State :=
  match s.rng.streams.find? fun x => x.slot == slot with
  | some st => s.offer slot { ct := ct, ep := st.first, n := st.count, reason := reason }
  | none => s

/-- A source that delivers without being polled stops, with its endpoints: each stream on it consumes one number (R454). -/
def State.interruptEps (s : State) (l : List Nat) : State :=
  s.rng.streams.foldl (fun s st =>
    match l.find? st.covers with
    | some e => s.offer st.slot { ct := s.ct, ep := e, n := 1, reason := gapINTERRUPTED }
    | none => s) s

/-! Commands that wait for a cask (R425, R448): the producing position, ring and number of the cask that was open, or of the last
one closed. -/

/-- The number of the last cask a tenant's ring has opened here; 0 when it has opened none. -/
def State.lastPcn (s : State) (uid ring : Nat) : Nat :=
  match s.rng.pcns.find? fun x => x.1 == uid && x.2.1 == ring with
  | some x => x.2.2
  | none => 0

/-- The casks that an event record on samples of local endpoints follows, for a tenant (R447): up to the open or last one of the
ring of their streams; ring 8, any ring, when their streams lie on several. -/
def State.caskOf (s : State) (uid : Nat) (es : List Nat) : Option (Nat × Nat × Nat) :=
  let rings := ((s.rng.streams.filter fun st => (s.ctx st.tid).uid == uid && es.any st.covers).map StreamS.ring).eraseDups
  match rings with
  | [] => none
  | [r] => some (s.pos, r, s.lastPcn uid r)
  | _ => some (s.pos, 8, rings.foldl (fun m r => max m (s.lastPcn uid r)) 0)

/-! Event records that refer to samples (R447, R365). -/

/-- The open casks of a tenant that hold a sample of an endpoint at an instant. -/
def State.casksWith (s : State) (uid e ct : Nat) : List Nat :=
  (s.rng.open_.filter fun c => c.uid == uid && c.recs.any fun r =>
    r.ct == ct && ((r.kind == 1 && r.geid == s.geid e) ||
      (r.kind == 7 && decide (r.geid ≤ s.geid e) && decide (s.geid e < r.geid + r.nelem)))).map CaskS.ring

/-- A sample a record refers to is still on its way to a stream of its tenant. -/
def State.onItsWay (s : State) (uid : Nat) (x : Nat × Nat) : Bool :=
  s.rng.streams.any fun st => (s.ctx st.tid).uid == uid && st.covers x.1 &&
    (st.hold.any (fun h => h.rec_.isSome && h.ct == x.2 && (st.grist || h.ep == x.1)) ||
      (!st.grist && s.ept.queue.any fun r => r.ep == x.1 && r.ct == x.2))

/-- A record on samples goes to its tenant; an ALERT closes the casks that hold them (R365). -/
def State.sampleEv (s : State) (w : EvWaitS) : State :=
  let s := s.routeEv w.uid w.home { w.ev with dep := s.caskOf w.uid (w.refs.map Prod.fst) }
  if w.alert then
    ((w.refs.map fun p => s.casksWith w.uid p.1 p.2).flatten).foldl (fun s r => s.closeCask w.uid r clALERT) s
  else s

/-- Sends the records whose samples are all in casks. -/
def State.releaseEvs (s : State) : State :=
  let busy := fun (w : EvWaitS) => w.refs.any (s.onItsWay w.uid)
  let l := s.rng.evWait.filter fun w => !busy w
  l.foldl State.sampleEv { s with rng := { s.rng with evWait := s.rng.evWait.filter busy } }

/-- A record on samples is placed, or waits for them. -/
def State.placeSampleEv (s : State) (w : EvWaitS) : State :=
  if w.refs.any (s.onItsWay w.uid) then { s with rng := { s.rng with evWait := s.rng.evWait ++ [w] } } else s.sampleEv w

/-- Every stream passes what nothing unsettled precedes, and the records that waited for it follow. -/
def State.drainStreams (s : State) : State :=
  ((s.rng.streams.filter fun st => !st.hold.isEmpty).foldl (fun s st => State.drainStream st.slot st.hold.length s) s).releaseEvs

/-- Every open cask of a tenant closes with a code. -/
def State.closeAllOf (s : State) (uid code : Nat) : State :=
  (List.range 8).foldl (fun s r => s.closeCask uid r code) s

/-- Every open cask of the hub closes with a code. -/
def State.closeAll (s : State) (code : Nat) : State :=
  let l := s.rng.open_
  l.foldl (fun s c => s.closeCask c.uid c.ring code) s

end Sys2Proof.Machine
end

