-- ==== Sys2Proof/Machine/Fan.lean ====
section
/-! DEFINITION. Endpoint records, the decoder's queue, and what a sample or a missed sample of an endpoint reaches: streams, mash
channels and recognizers (spec/09_endpoints_formats_and_curves.md R269-R274, R280 step 7, R300; R252, R306, R333, R357, R362). -/
namespace Sys2Proof.Machine

/-! Source types (R270). -/

abbrev srcFREE : Nat := 0
abbrev srcCOURSE : Nat := 1
abbrev srcSERIAL : Nat := 2
abbrev srcSLAVE : Nat := 3
abbrev srcCANMAP : Nat := 4
abbrev srcCANMB : Nat := 5
abbrev srcWHEEL : Nat := 6
abbrev srcMASHCH : Nat := 7
abbrev srcRCGI : Nat := 8

/-- An endpoint record. -/
def State.ep (s : State) (e : Nat) : EpS := s.ept.recs.get (fun _ => {}) e

/-- Sets an endpoint record. -/
def State.setEp (s : State) (e : Nat) (r : EpS) : State :=
  { s with ept := { s.ept with recs := s.ept.recs.set (fun _ => {}) e r } }

/-- EN of a record. -/
def EpS.en (r : EpS) : Bool := nbit r.ctl 0

/-- GRIST of a record: an element of an ARRAY report. -/
def EpS.grist (r : EpS) : Bool := nbit r.ctl 1

/-- UNTIMED of a record. -/
def EpS.untimed (r : EpS) : Bool := nbit r.ctl 2

/-! The mash engines' queues. -/

/-- A mash channel. -/
def State.ch (s : State) (c : Nat) : ChS := s.msh.chans.get (fun _ => {}) c

/-- Sets a mash channel. -/
def State.setCh (s : State) (c : Nat) (r : ChS) : State :=
  { s with msh := { s.msh with chans := s.msh.chans.set (fun _ => {}) c r } }

/-- An engine. -/
def State.eng (s : State) (x : Nat) : EngS := s.msh.engs.get (fun _ => {}) x

/-- Sets an engine. -/
def State.setEng (s : State) (x : Nat) (g : EngS) : State :=
  { s with msh := { s.msh with engs := s.msh.engs.set (fun _ => {}) x g } }

/-- Channel states (R342). -/
abbrev msOFF : Nat := 0
abbrev msWAITSYNC : Nat := 1
abbrev msFILL : Nat := 2
abbrev msRUN : Nat := 3
abbrev msSUSPENDED : Nat := 4

/-- The channel takes inputs: it is enabled and not SUSPENDED (R338). -/
def ChS.takes (c : ChS) : Bool := c.state != msOFF && c.state != msSUSPENDED

/-- An input reaches its channel's engine: queued, or dropped at a full queue and owed as a marker (R333). -/
def State.mashPush (s : State) (m : MInS) : State :=
  let c := s.ch m.ch
  if !c.takes then s
  else
    let g := s.eng c.engine
    if g.q.length < 1024 ∧ g.owed.isEmpty = true then s.setEng c.engine { g with q := g.q ++ [m] }
    else (s.setEng c.engine { g with owed := g.owed ++ [{ m with v := none, flags := 0 }] }).inc MSH_ENGOVER

/-- The channels that take the samples of a local endpoint (R306). -/
def State.chansOf (s : State) (e : Nat) : List Nat :=
  (s.msh.chans.cells.filter fun c => c.2.takes && wbits c.2.cfg 13 12 == 0 && c.2.inp.toNat == e).map Prod.fst

/-! The recognizers' queue. -/

/-- A trigger reaches the recognizer unit: queued, or dropped at a full queue, a sample trigger being owed as a missing sample
(R362). -/
def State.trigPush (s : State) (t : TrigS) : State :=
  let full := decide (4096 ≤ s.rcg.queue.length) || !s.rcg.owed.isEmpty
  match t.kind with
  | .time => { s with rcg := { s.rcg with queue := s.rcg.queue ++ [t] } }
  | k =>
    if full then
      let owed := match k with
        | .sample n _ => s.rcg.owed ++ [{ t with kind := .sample n none }]
        | _ => s.rcg.owed
      let up (x : Nat × InstS) : Nat × InstS := if x.1 = t.inst then (x.1, { x.2 with drops := min (x.2.drops + 1) (2 ^ 32 - 1) }) else x
      ({ s with rcg := { s.rcg with owed := owed, insts := s.rcg.insts.map up } } : State).inc RCG_OVER
    else { s with rcg := { s.rcg with queue := s.rcg.queue ++ [t] } }

/-- The slots that take the samples of a local endpoint, in instances not SUSPENDED (R369). -/
def State.slotsOf (s : State) (e : Nat) : List (Nat × Nat) :=
  (s.rcg.insts.map fun x =>
    if x.2.mode = 1 then []
    else ((List.range 8).filter fun k => x.2.ins.getD k none == some e).map fun k => (x.1, k)).flatten

/-- A sample, or a missing one, reaches the recognizers fed by an endpoint (R357, R359); `past` is the sum of the CT steps since its
time-stamp was taken. -/
def State.rcgFeed (s : State) (e ct flags : Nat) (v : Option Int) (past : Int) : State :=
  (s.slotsOf e).foldl (fun s x => s.trigPush { inst := x.1, kind := .sample x.2 v, ct := ct, flags := flags, past := past }) s

/-- A sample, or a missing marker, reaches the mash channels fed by an endpoint (R306). -/
def State.mashFeed (s : State) (e ct flags : Nat) (v : Option Int) : State :=
  (s.chansOf e).foldl (fun s c => s.mashPush { ch := c, v := v, ct := ct, flags := flags }) s

/-! Missed samples and raw values. -/

/-- A missed sample of a local endpoint at an instant (R252): a sequence number in its streams, a marker in its mash channels, a
missing sample in its recognizers. -/
def State.missEp (s : State) (e ct reason : Nat) : State :=
  ((s.missSample e ct reason).mashFeed e ct 0 none).rcgFeed e ct 0 none 0

/-- An interruption of a source that is not polled (R327, R369, R454): one sequence number in each stream on its endpoints, a gap for
its recognizers. -/
def State.interruptAll (s : State) (l : List Nat) : State := l.foldl (fun s e => s.rcgFeed e s.ct 0 none 0) (s.interruptEps l)

/-- An interruption of a source of one endpoint. -/
def State.interrupt (s : State) (e : Nat) : State := s.interruptAll [e]

/-- A record names the source that delivered a raw value, and is enabled (R274). -/
def EpS.takes (r : EpS) (x : RawS) : Bool := r.en && r.src == x.src && r.loc == x.loc

/-- A raw value is lost before the decoder: missed, where its endpoint would have made a sample of it (R252, R274). -/
def State.missRaw (s : State) (r : RawS) (reason : Nat) : State := if (s.ep r.ep).takes r then s.missEp r.ep r.ct reason else s

/-- A raw value that a schedule entry asked for: a polled source's (R248). -/
def State.isPolled (s : State) (r : RawS) : Bool :=
  r.src == srcSERIAL || r.src == srcWHEEL || (r.src == srcCOURSE && !(s.ep r.ep).untimed)

/-- RAW_VALUE_ENQUEUE (R300): a raw value joins the decoder's queue of 4,096, or is missed when that is full. What a quarantined hub's
entries bring is discarded, and missed (R256, R471). -/
def State.enqueueRaw (s : State) (r : RawS) : State :=
  if s.quar && s.isPolled r then s.missRaw r gapQUARANTINED
  else if s.ept.queue.length < 4096 then { s with ept := { s.ept with queue := s.ept.queue ++ [r] } }
  else (s.inc EPT_DECOVER).missRaw r gapMISSED

/-- An ARRAY element is decoded only when it feeds a mash channel, a recognizer or a SAMPLE stream (R290). -/
def State.decodes (s : State) (e : Nat) : Bool :=
  !(s.ep e).grist || !(s.chansOf e).isEmpty || !(s.slotsOf e).isEmpty ||
    s.rng.streams.any fun st => st.covers e && !st.grist

/-- HOLDOVER and WATCH, as every source marks a value it makes now (R33, R94). -/
def State.nowFlags (s : State) : Nat := s.flagsAt s.ct

end Sys2Proof.Machine
end

