-- ==== Sys2Proof/Machine/Jour.lean ====
section
/-! DEFINITION. The store's operation list and the journal's queue: what other blocks hand to the non-volatile store
(spec/21_nonvolatile_store_and_service_life.md R618-R620). -/
namespace Sys2Proof.Machine

/-- An operation joins the store's list: behind every write, ahead of a refresh, which starts its block again (R625). -/
def NvsS.push (n : NvsS) (o : NvOpS) : NvsS :=
  let late := n.ops.filter fun x => x.what == .refresh
  let rest := n.ops.filter fun x => x.what != .refresh
  { n with ops := rest ++ [o] ++ late.map fun x => { x with second := false, retried := false, tgt := none } }

/-- A write to the store is in progress: an operation, an erase, a table STORE, an update, a guard image. -/
def State.nvBusy (s : State) : Bool :=
  !s.nvs.ops.isEmpty || !s.nvs.erases.isEmpty || s.g EPT_SWSTS_STATE == 5 || s.g BOOT_UPSTS_STATE == 1 || s.boot.gop.isSome

/-- NVS_STS.BUSY follows what the store writes (R628). -/
def State.showNvs (s : State) : State := s.f NVS_STS_BUSY (b2n s.nvBusy)

/-- An operation is handed to the store. -/
def State.nvPush (s : State) (o : NvOpS) : State := ({ s with nvs := s.nvs.push o } : State).showNvs

/-- The hour of the elapsed count. -/
def State.hour (s : State) : Nat := s.elapsed / 3600000000000

/-- Records charged in the current hour and the 23 whole hours before it (R619). -/
def State.jcharged (s : State) : Nat :=
  ((s.nvs.jbudget.filter fun x => decide (s.hour ≤ x.1 + 23)).map Prod.snd).sum

/-- The queue and the budget take one more record (R618, R619). -/
def State.jroom (s : State) : Bool := decide (s.nvs.jq.length < 256) && decide (s.jcharged < 345600)

/-- One record more is charged. -/
def State.jcharge (s : State) : State :=
  let h := s.hour
  let l := s.nvs.jbudget.filter fun x => decide (h ≤ x.1 + 23)
  let l := if l.any fun x => x.1 == h then l.map fun (x : Nat × Nat) => if x.1 = h then (h, x.2 + 1) else x else l ++ [(h, 1)]
  { s with nvs := { s.nvs with jbudget := l } }

/-- A record joins the journal queue with what has been refused since the last one. -/
def State.jpush (s : State) (kind : Nat) (body : List Nat) : State :=
  { s with nvs := { s.nvs with jq := s.nvs.jq ++ [{ kind := kind, body := body, dropped := s.nvs.jdrop }], jdrop := 0 } }

/-- An event record whose source NVS_JCFG enables is journalled, PHASE zero (R618); it is dropped and counted when refused, and dropped
without a count while the journal is read-only (R619). -/
def State.journalEv (s : State) (e : EvRecS) : State :=
  if e.src = 0 ∨ 8 < e.src ∨ nbit (s.g NVS_JCFG_SRCEN) (e.src - 1) = false ∨ s.on NVS_STS_JRO = true then s
  else if s.jroom then s.jcharge.jpush 1 (e.bytes false)
  else ({ s with nvs := { s.nvs with jdrop := min (s.nvs.jdrop + 1) (2 ^ 32 - 1) } } : State).inc NVS_JTHROTTLE

/-- A field of NVS_RGNr. -/
def rgnFld (r hi lo : Nat) : Fld := ⟨0x35090 + 4 * r, hi, lo⟩

/-- A region is worn. -/
def State.rgnWorn (s : State) (r : Nat) : Bool := s.on (rgnFld r 31 31)

/-- A region becomes worn: the lasting fault is raised once (R615). A worn MAP takes every written region with it. -/
def State.setWorn (s : State) (r : Nat) : State :=
  if s.rgnWorn r then s
  else
    let l := if r = 0 then (List.range 6).filter fun k => !s.rgnWorn k else [r]
    let s := l.foldl (fun s k => (s.f (rgnFld k 31 31) 1).f ⟨NVS_STS_WORN.off, k, k⟩ 1) s
    let s := if r = 0 then s.f NVS_STS_JRO 1 else s
    (s.raiseHub srcNVM).hubLasting NVM_WORN

end Sys2Proof.Machine
end

