-- ==== Sys2Proof/Machine/Job.lean ====
section
/-! DEFINITION. Commands in execution: the shared checks of R417, the issue of commands in ring order, and their completion
(spec/13_rings_doorbells_and_casks.md R416-R421; spec/08_poll_scheduler_and_transactions.md R248, R249, R260). -/
namespace Sys2Proof.Machine

/-! Descriptors (R416, R421). -/

/-- Opcode of a descriptor. -/
def dOpc (d : List Nat) : Nat := leAt d 0 1

/-- FENCE of a descriptor. -/
def dFence (d : List Nat) : Bool := nbit (leAt d 1 1) 0

/-- Position of a descriptor. -/
def dPos (d : List Nat) : Nat := leAt d 2 1 % 16

/-- RESADDR of a descriptor. -/
def dRes (d : List Nat) : Nat := leAt d 8 8

/-- n bytes at an offset of BODY. -/
def dBody (d : List Nat) (off n : Nat) : Nat := leAt d (16 + off) n

/-- The bytes of BODY an opcode uses: offset and length; none where the opcode is not defined. -/
def bodyUsed (d : List Nat) : Option (List (Nat × Nat)) :=
  match dOpc d with
  | 0x01 => some []
  | 0x02 => some []
  | 0x10 => some [(0, 12)]
  | 0x11 => some [(0, 4)]
  | 0x12 => some [(0, 16)]
  | 0x18 => some [(0, 3), (4, 20)]
  | 0x19 => some [(0, 1)]
  | 0x1A => some [(0, 1)]
  | 0x1B => some [(0, 1)]
  | 0x1C => some [(0, 1)]
  | 0x20 => some [(0, 48)]
  | 0x21 => some [(0, 4)]
  | 0x22 => some [(0, 4)]
  | 0x23 => some [(0, 4)]
  | 0x28 => some [(0, 4)]
  | 0x2C =>
    some (if dBody d 4 1 = 0x0A then [(0, 16)] else if dBody d 4 1 = 0x09 then [(0, 8)]
      else if dBody d 4 1 = 0x0B ∨ dBody d 4 1 = 0x0C then [(0, 5)] else [(0, 16)])
  | 0x30 => some [(0, 1), (4, 4)]
  | 0x31 => some [(0, 4), (8, 8)]
  | 0x32 => some (if 32 < dBody d 2 1 then [(0, 3), (8, 8)] else [(0, 3), (16, 32)])
  | 0x38 => some [(0, 3), (8, 8)]
  | 0x39 => some [(0, 3), (8, 8)]
  | 0x3A => some [(0, 6), (8, 8)]
  | 0x3B => some [(0, 2), (8, 8)]
  | 0x40 => some [(0, 8)]
  | 0x41 => some [(0, 4)]
  | 0x42 => some [(0, 4)]
  | 0x43 => some [(0, 4), (8, 8)]
  | 0x44 => some [(0, 4)]
  | 0x50 => some [(0, 8)]
  | 0x51 => some [(0, 8)]
  | 0x52 => some [(0, 3)]
  | 0x53 => some [(0, 2)]
  | 0x54 => some [(0, 24)]
  | 0x55 => some [(0, 32)]
  | 0x56 => some [(0, 4)]
  | 0x57 => some [(0, 17)]
  | 0x60 => some [(0, 12)]
  | _ => none

/-- Every byte of BODY outside the used ones is zero. -/
def bodyClean (d : List Nat) (used : List (Nat × Nat)) : Bool :=
  (List.range 48).all fun i => used.any (fun u => decide (u.1 ≤ i) && decide (i < u.1 + u.2)) || leAt d (16 + i) 1 == 0

/-! Schedule entries and bindings as descriptors carry them (R227, R230, R381). -/

abbrev ekPERIODIC : Nat := 1
abbrev ekONESHOT : Nat := 2
abbrev ekBURST : Nat := 3

abbrev exCOURSE : Nat := 1
abbrev exSERIAL : Nat := 2
abbrev exWHEEL : Nat := 3

/-- The entry a SCHED_CREATE descriptor describes (R227). -/
def entOf (d : List Nat) : EntS :=
  { idx := 0, tid := 0, kind := dBody d 0 1, src := dBody d 1 1, cls := dBody d 2 1, group := dBody d 3 1, target := dBody d 4 4
    start := dBody d 8 8, period := dBody d 16 8, count := dBody d 24 4, lead := dBody d 28 4, select := dBody d 32 2
    trig := dBody d 34 1 }

/-- Check 1 of R230: reserved codes, and fields that the entry's case holds at 0. -/
def entReserved (d : List Nat) : Bool :=
  let e := entOf d
  e.kind == 0 || decide (3 < e.kind) || e.src == 0 || decide (3 < e.src) || decide (2 < e.cls) || decide (16 ≤ e.trig) ||
    (e.kind != ekBURST && (e.lead != 0 || e.trig != 0)) || (e.kind == ekONESHOT && (e.period != 0 || e.count != 0)) ||
    (e.src != exCOURSE && e.select != 0) || decide ((if e.src = exSERIAL then 1024 else 131072) ≤ e.target) || dBody d 35 13 != 0

/-- A binding entry from its 24 bytes. -/
def bindOf (b : List Nat) : BindS :=
  { kind := leAt b 0 1, rfirst := leAt b 1 1, rlast := leAt b 2 1, first := leAt b 4 4, id := leAt b 8 8, owner := leAt b 16 8 }

/-- A reserved field or code of a binding entry is set. -/
def bindReserved (b : List Nat) : Bool :=
  let x := bindOf b
  (x.kind != 1 && x.kind != 2) || leAt b 3 1 != 0 ||
    (if x.kind = 1 then x.first != 0 else x.rfirst != 0 || x.rlast != 0 || decide (2 ^ 21 ≤ x.first) || decide (2 ^ 18 ≤ x.id))

/-- Reserved bits inside the used fields of BODY (R384, R421, R422, R426 and the layouts of handles). -/
def bodyBitsBad (d : List Nat) : Bool :=
  let excess (off n lim : Nat) : Bool := decide (lim ≤ dBody d off n)
  match dOpc d with
  | 0x10 => excess 0 4 (2 ^ 21) || excess 6 1 8 || excess 7 1 4
  | 0x11 => excess 0 4 (2 ^ 21)
  | 0x12 => excess 0 4 (2 ^ 21)
  | 0x18 => excess 0 1 8 || excess 1 1 2
  | 0x19 => excess 0 1 8
  | 0x1A => excess 0 1 8
  | 0x1B => excess 0 1 8
  | 0x1C => excess 0 1 8
  | 0x21 => excess 0 4 (2 ^ 19)
  | 0x22 => excess 0 4 (2 ^ 19)
  | 0x23 => if dBody d 0 4 < 2 ^ 31 then excess 0 4 (2 ^ 19) else dBody d 0 4 % 2 ^ 31 / 256 != 0 || dBody d 0 1 == 0
  | 0x28 => excess 0 4 (2 ^ 21)
  | 0x2C => excess 0 4 (2 ^ 21)
  | 0x41 => excess 0 4 (2 ^ 18)
  | 0x42 => excess 0 4 (2 ^ 18)
  | 0x43 => excess 0 4 (2 ^ 18)
  | 0x44 => excess 0 4 (2 ^ 18)
  | 0x52 => excess 0 2 1024 || excess 2 1 2
  | 0x53 => excess 0 2 1024
  | 0x20 => entReserved d
  | 0x54 => bindReserved ((List.range 24).map fun k => dBody d k 1)
  | 0x55 => excess 0 4 (2 ^ 21) || excess 4 4 (2 ^ 18) || excess 8 2 1024 || dBody d 10 6 != 0 || dBody d 24 8 != 0
  | 0x56 => excess 0 4 (2 ^ 16)
  | _ => false

/-- The position a handle or GEID in BODY carries (check 5 of R417). -/
def bodyPos (d : List Nat) : Option Nat :=
  match dOpc d with
  | 0x10 => some (dBody d 0 4 / 131072 % 16)
  | 0x11 => some (dBody d 0 4 / 131072 % 16)
  | 0x12 => some (dBody d 0 4 / 131072 % 16)
  | 0x21 => some (dBody d 0 4 / 32768 % 16)
  | 0x22 => some (dBody d 0 4 / 32768 % 16)
  | 0x23 => if dBody d 0 4 < 2 ^ 31 then some (dBody d 0 4 / 32768 % 16) else none
  | 0x28 => some (dBody d 0 4 / 131072 % 16)
  | 0x2C => some (dBody d 0 4 / 131072 % 16)
  | 0x41 => some (dBody d 0 4 / 16384 % 16)
  | 0x42 => some (dBody d 0 4 / 16384 % 16)
  | 0x43 => some (dBody d 0 4 / 16384 % 16)
  | 0x44 => some (dBody d 0 4 / 16384 % 16)
  | 0x55 => some (dBody d 0 4 / 131072 % 16)
  | 0x56 => some (dBody d 0 4 / 4096 % 16)
  | _ => none

/-- Length of the result block an opcode writes. -/
def resLen (d : List Nat) : Nat :=
  match dOpc d with
  | 0x02 => 24
  | 0x1C => 32
  | 0x22 => 40
  | 0x28 => 32
  | 0x2C => if dBody d 4 1 = 0x09 then dBody d 5 1 else 0
  | 0x32 => 8
  | 0x44 => 64
  | _ => 0

/-- The argument block of a descriptor: address and length (R420). -/
def argBlock (d : List Nat) : Option (Nat × Nat) :=
  match dOpc d with
  | 0x2C => if dBody d 4 1 = 0x0A ∧ 0 < dBody d 5 1 then some (dBody d 8 8, dBody d 5 1) else none
  | 0x31 => if 0 < dBody d 2 2 then some (dBody d 8 8, dBody d 2 2) else none
  | 0x32 => if 32 < dBody d 2 1 then some (dBody d 8 8, dBody d 2 1) else none
  | 0x40 => some (dBody d 0 8, 128)
  | 0x43 => some (dBody d 8 8, 64)
  | 0x50 => some (dBody d 0 8, 64)
  | 0x51 => some (dBody d 0 8, 64)
  | 0x60 => if 0 < dBody d 8 4 then some (dBody d 0 8, dBody d 8 4) else none
  | _ => none

/-- Check 6 of R417 fails: an address lies outside the issuer's windows. -/
def State.winFails (s : State) (t : Nat) (d : List Nat) : Bool :=
  (dRes d != 0 && !s.inWindow t (dRes d) (max 1 (resLen d)) false true) ||
    (match argBlock d with
      | some (a, n) => !s.inWindow t a n true false
      | none => false) ||
    (dOpc d == 0x18 && !s.inWindow t (dBody d 16 8) (16 * 2 ^ min (dBody d 2 1) 16) true true)

/-- Commands that require tenant 0 of the keystone (R421, R25). -/
def keystoneOpc (o : Nat) : Bool := o == 0x3B || o == 0x50 || o == 0x51 || o == 0x52 || o == 0x54

/-- The command's issuer is tenant 0 of the keystone, as this hub sees it. -/
def State.fromKeystone (s : State) (src t : Nat) : Bool :=
  isT0 t && ((src == s.pos && s.keystoneHere) || (src == 0 && s.pos != 0 && s.rol.lrole == roleKEYSTONE))

/-- Checks 1-3 of R417, so far as they need no object of another block. -/
def State.check123 (s : State) (src t : Nat) (d : List Nat) : Option Nat :=
  match bodyUsed d with
  | none => some ILLEGAL_OPCODE
  | some u =>
    if 2 ≤ leAt d 1 1 ∨ 16 ≤ leAt d 2 1 ∨ leAt d 3 1 ≠ 0 ∨ dRes d % 8 ≠ 0 ∨ ¬ bodyClean d u = true ∨ bodyBitsBad d = true then
      some RESERVED_NONZERO
    else if keystoneOpc (dOpc d) then
      if !isT0 t then some NOT_OWNER
      else if !s.fromKeystone src t ∨ dPos d ≠ 0 then some ROLE_FORBIDDEN else none
    else if dOpc d = 0x53 then
      if isT0 t then (if s.fromKeystone src t then none else some ROLE_FORBIDDEN)
      else if t ≠ dBody d 0 2 then some NOT_OWNER else none
    else if dOpc d = 0x57 ∧ isT0 t = true then some NOT_OWNER
    else none

/-- Check 5 of R417: the position of a handle or GEID; a key or a cask ring belongs to the home. -/
def State.check5 (s : State) (t : Nat) (d : List Nat) : Option Nat :=
  match bodyPos d with
  | some p => if p = dPos d then none else some BAD_HANDLE
  | none =>
    if (dOpc d = 0x57 ∨ (0x18 ≤ dOpc d ∧ dOpc d ≤ 0x1C)) ∧ dPos d ≠ (s.ctx t).home then some BAD_HANDLE else none

/-! Completion. -/

/-- Changes the command of a slot of a tenant's ring. -/
def State.modCmd (s : State) (t slot : Nat) (f : CmdS → CmdS) : State :=
  s.setTr t { s.tr t with cmds := (s.tr t).cmds.map fun c => if c.slot = slot then f c else c }

/-- The CPL body of an outcome (R494). -/
def cplBody (tag : Nat) (o : DoneS) : List Nat :=
  toLe 2 tag ++ [o.status, b2n o.retried] ++ toLe 4 o.value ++ toLe 4 o.aux ++ toLe 2 o.result.length ++ [0, 0] ++ o.result

/-- The outcome of a CPL body. -/
def cplParse (b : List Nat) : DoneS :=
  { status := leAt b 2 1, retried := nbit (leAt b 3 1) 0, value := leAt b 4 4, aux := leAt b 8 4 % 2 ^ 17,
    result := (b.drop 16).take (leAt b 12 2) }

/-- A job ends with an outcome: noted at its ring here, or sent home and stored by tag (R260, R494). A command that fails writes
no result and no value (R420). -/
def State.finish (s : State) (j : JobS) (o : DoneS) : State :=
  let o := if o.status = OK then { o with retried := o.retried || j.retried } else { o with value := 0, aux := 0, result := [], retried := false }
  let s : State := { s with rng := { s.rng with jobs := s.rng.jobs.filter fun x => x.id != j.id } }
  if j.id.remote then
    let b := cplBody j.id.ref o
    let s : State := { s with rng := { s.rng with answers := s.rng.answers ++ [(j.id.src, j.id.ref, b)] } }
    s.sendMsg clsCPL 1 j.id.src b
  else s.modCmd j.id.tid j.id.ref fun c => { c with done := some o }

/-- A job ends with a status alone. -/
def State.finishWith (s : State) (j : JobS) (st : Nat) : State := s.finish j { status := st }

/-- Changes a job in place. -/
def State.modJob (s : State) (id : JobId) (f : JobS → JobS) : State :=
  { s with rng := { s.rng with jobs := s.rng.jobs.map fun x => if x.id = id then f x else x } }

/-- The job with an identity. -/
def State.jobOf (s : State) (id : JobId) : Option JobS := s.rng.jobs.find? fun x => x.id == id

/-- The job of an identity ends, when it is still there. -/
def State.finishId (s : State) (id : JobId) (o : DoneS) : State :=
  match s.jobOf id with
  | some j => s.finish j o
  | none => s

/-- A job ends with OK once its tenant's casks on a ring, up to the last one here, have reached their home: at a home here the
completion follows the cask's entry; elsewhere the job waits for the acceptance (R424, R425, R448). -/
def State.finishAfter (s : State) (j : JobS) (uid ring : Nat) : State :=
  let n := s.lastPcn uid ring
  if j.id.remote then
    if s.rng.fwd.any fun c => c.uid == uid && c.ring == ring && decide (c.pcn ≤ n) then
      s.modJob j.id fun x => { x with started := true, wait := some (uid, ring, n), at_ := s.elapsed }
    else s.finishWith j OK
  else
    (s.modCmd j.id.tid j.id.ref fun c => { c with after := some (s.pos, ring, n), afterAt := s.elapsed }).finishWith j OK

/-! Execution. -/

/-- The next job with an opcode: the first of its ring not yet begun at this hub (R418). Nothing executes while the core is
stopped. -/
def State.takeJob (s : State) (opc : Nat) : Option JobS :=
  if !s.coreRuns then none
  else
    match s.rng.jobs.find? fun j => !j.started && dOpc j.desc == opc &&
        (match s.rng.jobs.find? fun k => !k.started && k.id.tid == j.id.tid && k.id.src == j.id.src with
          | some k => k.id == j.id
          | none => true) with
    | some j => some j
    | none => none

/-- Runs the next job with an opcode: the issuer check of its block, then the window check, then its body (R417 checks 3, 6). -/
def State.runJob (s : State) (opc : Nat) (issuer : JobS → Option Nat) (body : State → JobS → State) : State :=
  match s.takeJob opc with
  | none => s
  | some j =>
    let s := s.modJob j.id fun x => { x with started := true }
    let j := { j with started := true }
    match issuer j with
    | some c => s.finishWith j c
    | none => if j.winfail then (s.inc TEN_WINVIOL).finishWith j WINDOW_VIOLATION else body s j

/-- A command joins this hub's jobs after the shared checks; a command of a tenant in reset completes BUSY (R374). -/
def State.startJob (s : State) (j : JobS) : State :=
  let s : State := { s with rng := { s.rng with jobs := s.rng.jobs ++ [j] } }
  match s.check123 j.id.src j.id.tid j.desc with
  | some c => s.finishWith j c
  | none =>
    match s.check5 j.id.tid j.desc with
    | some c => s.finishWith j c
    | none => if (s.ctx j.id.tid).state = ctxRESETTING ∧ dOpc j.desc ≠ 0x53 then s.finishWith j BUSY else s

/-! Remote commands (R248, R249, R260). -/

/-- The lowest free transaction tag. -/
def freeTag (tags : List Nat) : Nat := ((List.range (tags.length + 1)).find? fun n => !tags.contains n).getD 0

/-- Gives a tag back; a retiring bank waits for it no longer (R297). -/
def State.dropTag (s : State) (n : Nat) : State :=
  let s : State := { s with
    rng := { s.rng with tags := s.rng.tags.erase n }
    ept := { s.ept with oldTags := s.ept.oldTags.filter fun k => k != n } }
  s.f PSC_TAGS s.rng.tags.length

/-- Takes a tag, following the high-water mark (R265). -/
def State.takeTag (s : State) : State × Nat :=
  let n := freeTag s.rng.tags
  let s : State := { s with rng := { s.rng with tags := s.rng.tags ++ [n] } }
  ((s.f PSC_TAGS s.rng.tags.length).f PSC_TAGHWM (max (s.g PSC_TAGHWM) s.rng.tags.length), n)

/-- The CMD body of a command (R494). -/
def State.cmdBody (s : State) (tag t : Nat) (resend winfail : Bool) (d args : List Nat) : List Nat :=
  toLe 2 tag ++ toLe 2 t ++ [b2n resend + 2 * b2n winfail, 0, 0, 0] ++ toLe 8 (s.ctx t).uid ++ d ++ toLe 2 args.length ++
    List.replicate 6 0 ++ args

/-- Sends the image of a TABLE_LOAD ahead of its command (R495). -/
def State.sendImage (s : State) (dst tag : Nat) : Nat → Nat → List Nat → State
  | 0, _, _ => s
  | n + 1, off, b =>
    if b.isEmpty then s
    else (s.sendMsg clsCMD 2 dst (toLe 2 tag ++ [0, 0] ++ toLe 4 off ++ b.take 4096)).sendImage dst tag n (off + 4096) (b.drop 4096)

/-- A command for another hub has its outcome: noted for its slot, with the charge of a stream settled (R389). -/
def State.remDone (s : State) (t slot : Nat) (o : DoneS) : State :=
  let d := match (s.tr t).cmds.find? fun c => c.slot == slot with
    | some c => c.desc
    | none => []
  let l := s.rng.charges
  let l :=
    if dOpc d = 0x10 then
      if o.status = OK then l.map fun c => if c.tid = t ∧ c.handle = 2 ^ 32 + slot then { c with handle := o.value } else c
      else l.filter fun c => !(c.tid == t && c.handle == 2 ^ 32 + slot)
    else if dOpc d = 0x11 ∧ (o.status = OK ∨ o.status = BAD_HANDLE) then l.filter fun c => !(c.tid == t && c.handle == dBody d 0 4)
    else l
  ({ s with rng := { s.rng with charges := l } } : State).modCmd t slot fun c => { c with done := some o }

/-- Sends a command to another position. -/
def State.issueRemote (s : State) (t : Nat) (c : CmdS) (winfail : Bool) : State :=
  if 65536 ≤ s.rng.tags.length then (s.modCmd t c.slot fun c => { c with stage := 2 }).remDone t c.slot { status := BUSY }
  else
    let (s, tag) := s.takeTag
    let img := dOpc c.desc == 0x60
    let s := if img then s.sendImage (dPos c.desc) tag (c.args.length / 4096 + 1) 0 c.args else s
    let args := if img then [] else c.args
    let s := s.sendMsg clsCMD 1 (dPos c.desc) (s.cmdBody tag t false winfail c.desc args)
    let r : RemS := { tag := tag, tid := t, slot := c.slot, dst := dPos c.desc, body := s.cmdBody tag t true winfail c.desc args,
                      at_ := s.elapsed }
    let s : State := { s with rng := { s.rng with rems := s.rng.rems ++ [r] } }
    s.modCmd t c.slot fun c => { c with stage := 2, tag := some tag }

/-- Bytes of the largest record of a stream whose element size is `es` (R434). -/
def largest (count : Nat) (grist : Bool) (es : Nat) : Nat := if grist then 28 + (count * es + 3) / 4 * 4 else 28

/-- BW of a stream whose element size is `es` (R424). -/
def bwCharge (maxrate count : Nat) (grist : Bool) (es : Nat) : Nat :=
  if grist then (maxrate * largest count grist es + 1024 * count - 1) / (1024 * count) else (maxrate * 28 + 1023) / 1024

/-- The charge of a STREAM_OPEN descriptor whose element size is `es`. -/
def chargeOf (t handle : Nat) (d : List Nat) (es : Nat) : ChargeS :=
  let g := nbit (dBody d 7 1) 0
  { tid := t, handle := handle, ring := dBody d 6 1, bw := bwCharge (dBody d 8 4) (dBody d 4 2) g es, big := largest (dBody d 4 2) g es }

/-- The home's part of check 5 of R422 for a charge. -/
def State.ringRefuses (s : State) (c : ChargeS) : Option Nat :=
  let q := s.cr c.tid c.ring
  if !q.started then some NOT_IN_STATE else if q.size < 64 + 16 + c.big then some OUT_OF_RANGE else none

/-- The home's part of check 6 of R422: STREAMS and BW. -/
def State.homeQuota (s : State) (c : ChargeS) : Bool :=
  decide (s.streamUse c.tid + 1 ≤ (s.ctx c.tid).streams) && decide (s.bwUse c.tid + c.bw ≤ (s.ctx c.tid).bw)

/-- The element size of a stream of another hub, which the home does not learn: a free value (R424). -/
def State.remoteSize (s : State) : Nat := 2 ^ (s.fresh % 4)

/-- What the home of a command for another position refuses: STREAM_OPEN by checks 5 and 6 of R422, and MARK by the state of its
stream's ring. -/
def State.homeRefuses (s : State) (t : Nat) (d : List Nat) : Option Nat :=
  if dOpc d = 0x10 then
    let c := chargeOf t 0 d s.remoteSize
    match s.ringRefuses c with
    | some code => some code
    | none => if s.homeQuota c then none else some QUOTA_EXCEEDED
  else if dOpc d = 0x12 then
    match s.rng.charges.find? fun c => c.tid == t && c.handle == dBody d 0 4 with
    | some c => if (s.cr t c.ring).state ≠ rsRUNNING then some NOT_IN_STATE else none
    | none => none
  else none

/-- A charge is held from the issue of a STREAM_OPEN for another hub. -/
def State.chargeRemote (s : State) (t slot : Nat) (d : List Nat) : State :=
  if dOpc d = 0x10 then
    ({ s with rng := { s.rng with charges := s.rng.charges ++ [chargeOf t (2 ^ 32 + slot) d s.remoteSize] } } : State).drew
  else s

/-- A command's casks and buffers stand behind its completion no longer: the cask it follows has left this home's hands. -/
def State.caskDone (s : State) (uid src ring pcn : Nat) : Bool :=
  let is := fun (c : CaskS) => c.uid == uid && c.src == src && c.ring == ring && decide (c.pcn ≤ pcn)
  !(s.rng.open_.any is || s.rng.held.any is || s.rng.fwd.any is)

/-- A command at its home has completed, as FENCE counts it. -/
def State.cmdDone (s : State) (t : Nat) (c : CmdS) : Bool :=
  c.done.isSome && match c.after with
    | some (src, ring, pcn) => s.caskDone (s.ctx t).uid src ring pcn
    | none => true

/-- The command waits for those before it: FENCE, or the tenant's own reset (R397, R418). -/
def fenced (t : Nat) (d : List Nat) : Bool := dFence d || (dOpc d == 0x53 && dBody d 0 2 == t && t != 0)

/-- Issues one command of a tenant's ring. Answers none while it must wait. -/
def State.issueOne (s : State) (t : Nat) (before : List CmdS) (c : CmdS) : Option State :=
  if fenced t c.desc ∧ !(before.all fun b => s.cmdDone t b) then none
  else
    let dst := dPos c.desc
    let id : JobId := { src := s.pos, remote := false, tid := t, ref := c.slot }
    let job : JobS := { id := id, uid := (s.ctx t).uid, desc := c.desc, args := c.args, winfail := c.winfail }
    let fail (code : Nat) : State := s.modCmd t c.slot fun c => { c with stage := 2, done := some { status := code } }
    if dst = s.pos ∧ bodyUsed c.desc ≠ none ∧ !(s.rol.dir.any fun e => e.pos == dst) then
      match s.check123 s.pos t c.desc with
      | some code => some (fail code)
      | none => some (fail LINK_DOWN)
    else if dst = s.pos ∨ bodyUsed c.desc = none then
      if c.stage = 0 ∧ (argBlock c.desc).isSome = true ∧ (s.check123 s.pos t c.desc).isNone = true then
        if s.winFails t c.desc then
          some ((s.modCmd t c.slot fun c => { c with stage := 2 }).startJob { job with winfail := true })
        else some (s.modCmd t c.slot fun c => { c with stage := 1 })
      else if c.stage = 1 then none
      else some ((s.modCmd t c.slot fun c => { c with stage := 2 }).startJob { job with winfail := s.winFails t c.desc })
    else if (s.routePort dst).isNone then
      match s.check123 s.pos t c.desc with
      | some code => some (fail code)
      | none => some (fail LINK_DOWN)
    else
      match s.homeRefuses t c.desc with
      | some code => if code = QUOTA_EXCEEDED then some (s.quotaRefuse.modCmd t c.slot fun c => { c with stage := 2, done := some { status := code } }) else some (fail code)
      | none =>
        if c.stage = 0 ∧ (argBlock c.desc).isSome = true ∧ s.winFails t c.desc = false then
          some (s.modCmd t c.slot fun c => { c with stage := 1 })
        else if c.stage = 1 then none
        else some ((s.chargeRemote t c.slot c.desc).issueRemote t c (s.winFails t c.desc))

/-- Issues the commands of a ring in order until one must wait (R418). -/
def State.issueMore (t : Nat) : Nat → State → State
  | 0, s => s
  | n + 1, s =>
    let l := (s.tr t).cmds
    match l.find? fun c => c.stage != 2 with
    | none => s
    | some c =>
      match s.issueOne t (l.takeWhile fun b => b.slot != c.slot) c with
      | none => s
      | some s => State.issueMore t n s

/-- Issues what a tenant's ring can issue now; a command takes at most two turns. -/
def State.issue (s : State) (t : Nat) : State := State.issueMore t (2 * (s.tr t).cmds.length) s

/-- A TABLE_LOAD whose image could not be read: SOURCE, where its state allowed a load (R294). -/
def State.loadSourceFails (s : State) : State :=
  if s.g EPT_SWSTS_STATE = 0 ∨ s.g EPT_SWSTS_STATE = 2 then
    let s : State := { s with ept := { s.ept with staged := [] } }
    (((s.zero [EPT_SWSTS_STATE, EPT_STGGEN, EPT_LDOFS]).f EPT_SWSTS_LDREASON 0xB).raiseHub srcTABLE)
  else s

/-- The argument block of a waiting command has been read, or has failed twice (R415, R420). -/
def State.argsRead (s : State) (t slot : Nat) (args : Option (List Nat)) (retried : Bool) : State :=
  match (s.tr t).cmds.find? fun c => c.slot == slot && c.stage == 1 with
  | none => s
  | some c =>
    match args with
    | none =>
      let s := if dOpc c.desc = 0x60 ∧ dPos c.desc = s.pos then s.loadSourceFails else s
      (s.modCmd t slot fun c => { c with stage := 2, done := some { status := LASTING_FAULT } }).issue t
    | some a =>
      let c := { c with args := a, retried := c.retried || retried }
      let s := s.modCmd t slot fun _ => c
      let s :=
        if dPos c.desc = s.pos then
          (s.modCmd t slot fun c => { c with stage := 2 }).startJob
            { id := { src := s.pos, remote := false, tid := t, ref := slot }, uid := (s.ctx t).uid, desc := c.desc, args := a }
        else s.issueRemote t c false
      s.issue t

end Sys2Proof.Machine
end

