-- ==== Sys2Proof/Machine/Psc.lean ====
section
/-! DEFINITION. Schedule entries and transactions: grids, reachable instants, triggers, missed instants, tags and outcomes
(spec/08_poll_scheduler_and_transactions.md). -/
namespace Sys2Proof.Machine

/-! Entry states (R265), kinds and sources (R229). -/

abbrev esACTIVE : Nat := 1
abbrev esDORMANT : Nat := 2
abbrev esBURSTING : Nat := 3
abbrev esWAITNODE : Nat := 4
abbrev esNOFIT : Nat := 5
abbrev esSUSPENDED : Nat := 6
abbrev esENDED : Nat := 7


/-- The entry of an index. -/
def State.ent (s : State) (n : Nat) : Option EntS := s.psc.ents.find? fun e => e.idx == n

/-- Changes the entry of an index. -/
def State.modEnt (s : State) (n : Nat) (f : EntS → EntS) : State :=
  { s with psc := { s.psc with ents := s.psc.ents.map fun e => if e.idx = n then f e else e } }

/-- PSC_STS follows the entries. -/
def State.pscSts (s : State) : State := s.f PSC_STS_ENTRIES s.psc.ents.length

/-- Adds one to a saturating 32-bit counter (R12). -/
def up (n : Nat) : Nat := min (n + 1) (2 ^ 32 - 1)

/-- The handle of an entry (R228). -/
def State.schedHandle (s : State) (n : Nat) : Nat := s.pos * 32768 + n

/-- Cost of n polled endpoints (R258). -/
def entCost (kind n period : Nat) : Nat := if kind = ekONESHOT then 0 else (n * 1000000000 + period - 1) / period

/-- The costs of a tenant's entries here. -/
def State.rateUse (s : State) (t : Nat) : Nat := ((s.psc.ents.filter fun e => e.tid == t).map EntS.cost).sum

/-! Course-bus cycles as the scheduler sees them (R78, R237). -/

/-- A course bus. -/
def State.bus (s : State) (b : Nat) : BusS := s.crs.buses.get (fun _ => {}) b

/-- Sets a course bus. -/
def State.setBus (s : State) (b : Nat) (x : BusS) : State :=
  { s with crs := { s.crs with buses := s.crs.buses.set (fun _ => {}) b x } }

/-- A node that holds an address; identity 0 for none. -/
def State.node (s : State) (b a : Nat) : NodeS := s.crs.nodes.get (fun _ => {}) (32 * b + a)

/-- Sets a node. -/
def State.setNode (s : State) (b a : Nat) (n : NodeS) : State :=
  { s with crs := { s.crs with nodes := s.crs.nodes.set (fun _ => {}) (32 * b + a) n } }

/-- The bus and address at which a node is admitted, its admission complete. -/
def State.busOf (s : State) (nodeid : Nat) : Option (Nat × Nat) :=
  (s.crs.nodes.cells.find? fun c => c.2.id == nodeid && c.2.done).map fun c => (c.1 / 32, c.1 % 32)

/-- Cycle length in force, in nanoseconds. -/
def State.cycLen (s : State) (b : Nat) : Nat :=
  if (s.bus b).watch then 1000000000 else s.g (CRS_BCYCLEN_LEN b) * 1000

/-- Phase in nanoseconds. -/
def State.cycPhase (s : State) (b : Nat) : Nat := s.g (CRS_BPHASE_OFS b) * 1000

/-- First point of the grid `ph + n * len` at or after t. -/
def gridFrom (ph len t : Nat) : Nat := if t ≤ ph % len then ph % len else ph % len + (t - ph % len + len - 1) / len * len

/-- First cycle start of a bus at or after t (R78). -/
def State.cycFrom (s : State) (b t : Nat) : Nat := gridFrom (s.cycPhase b) (s.cycLen b) t

/-- Start of the cycle that holds t. -/
def State.cycOf (s : State) (b t : Nat) : Nat :=
  let l := s.cycLen b
  let ph := s.cycPhase b % l
  if t < ph then 0 else ph + (t - ph) / l * l

/-- CT at an elapsed count, on the present scale (R39). -/
def State.ctAt (s : State) (e : Nat) : Nat := ((e : Int) + s.time.stepSum).toNat

/-- The CT at which the next cycle of a bus starts (R78, R93, R95): the first grid instant not earlier than the end of the
running cycle in elapsed time, or than the first start allowed; after a handback, the first configured instant later than it. -/
def State.nextStart (s : State) (b : Nat) : Option Nat :=
  let x := s.bus b
  match x.back, x.cur with
  | some e, some _ => some (gridFrom (s.cycPhase b) (s.g (CRS_BCYCLEN_LEN b) * 1000) (s.ctAt e + 1))
  | _, some c => some (s.cycFrom b (s.ctAt (c.at_ + c.len)))
  | _, none => x.from_.map fun e => s.cycFrom b (s.ctAt e)

/-- The first cycle start of a bus whose sample-at list is still open. -/
def State.openCyc (s : State) (b : Nat) : Nat :=
  match (s.bus b).plan, s.nextStart b with
  | some (c, _), _ => c + s.cycLen b
  | none, some c => c
  | none, none => s.cycFrom b (s.ct + 8000)

/-! Grids and reachable instants (R231, R245). -/

/-- The first grid instant of an entry at or after t. -/
def EntS.gridAt (e : EntS) (t : Nat) : Nat :=
  if e.kind = ekONESHOT ∨ t ≤ e.start then e.start
  else e.start + (t - e.start + e.period - 1) / e.period * e.period

/-- The first grid instant at or after t that the entry's source can reach from t (R245). -/
def State.firstFrom (s : State) (e : EntS) (t : Nat) : Nat :=
  match e.src with
  | 1 =>
    match s.busOf e.nodeid with
    | some (b, _) => e.gridAt (s.cycFrom b (t + 8000))
    | none => e.gridAt t
  | 2 => e.gridAt (t + 2000)
  | _ => e.gridAt (t + 1000)

/-- The first grid instant at or after `g` that can still be committed now. -/
def State.stillFrom (s : State) (e : EntS) (g : Nat) : Nat :=
  match e.src with
  | 1 =>
    match s.busOf e.nodeid with
    | some (b, _) => e.gridAt (max g (s.openCyc b))
    | none => e.gridAt (max g s.ct)
  | 2 => e.gridAt (max g (s.ct + 2000))
  | _ => e.gridAt (max g s.ct)

/-! Missed instants (R252). -/

/-- An entry has still to come to a poll of an endpoint at an instant. -/
def EntS.awaits (e : EntS) (ep t : Nat) : Bool :=
  e.state != esENDED && e.eps.contains ep && e.left != some 0 &&
    match e.next with
    | some n => decide (n ≤ t) && e.gridAt t == t
    | none => false

/-- An entry serves a poll of an endpoint at an instant: it will commit it, or has committed it and not lost it. -/
def State.serves (s : State) (e : EntS) (ep t : Nat) : Bool :=
  (s.psc.txns.any fun x => x.ent == e.idx && x.ct == t && (x.eps.contains ep || x.got.contains ep)) ||
    ((e.state == esACTIVE || e.state == esBURSTING) && e.awaits ep t &&
      match e.cut with
      | some c => decide (t < c)
      | none => true)

/-- A poll has been delivered or declared missed: remembered while an entry has still to come to it (R252). -/
def State.pollPast (s : State) (ep t : Nat) : State :=
  { s with psc := { s.psc with past :=
      (s.psc.past ++ [(ep, t)]).filter fun p => s.psc.ents.any fun e => e.awaits p.1 p.2 } }

/-- A poll of an endpoint is missed (R252): by what it feeds decoded, to which a disabled endpoint has no samples to miss (R274), and, at
the first element of a GRIST stream's run, by the whole block (R423), which is taken before decoding (R290). -/
def State.missPoll (s : State) (ep t reason : Nat) : State :=
  let s := if (s.ep ep).en then s.missEp ep t reason else s
  (s.rng.streams.filter fun st => st.grist && st.first == ep).foldl (fun s st => s.missBlock st.slot t reason) s

/-- A poll of an endpoint at an instant is declared missed, once (R252). -/
def State.missOnce (s : State) (ep t : Nat) : State :=
  if s.psc.past.contains (ep, t) then s else (s.missPoll ep t gapMISSED).pollPast ep t

/-- Polls at an instant are missed, but for those that another entry than `idx` serves (R238, R252). -/
def State.missEach (s : State) (idx t : Nat) (eps : List Nat) : State :=
  eps.foldl (fun s ep => if s.psc.ents.any fun e => e.idx != idx && s.serves e ep t then s else s.missOnce ep t) s

/-- An instant of an entry is missed, with the polls that no other entry serves. -/
def State.missPolls (s : State) (idx t : Nat) (eps : List Nat) : State :=
  (s.modEnt idx fun e => { e with missed := up e.missed }).missEach idx t eps

/-- The next instant has been dealt with: the entry moves on to the one after it. -/
def EntS.advance (e : EntS) : EntS :=
  let left := e.left.map fun n => n - 1
  { e with left := left, next := if left = some 0 ∨ e.kind = ekONESHOT then none else e.next.map fun n => n + e.period }

/-- An entry at the end of its run: a burst back to DORMANT, or to it when its suspension ends; any other ENDED at cost 0, its lanes
released (R229, R234, R245, R265). -/
def EntS.finished (e : EntS) : EntS :=
  let e := { e with cut := none, back := none }
  if e.kind ≠ ekBURST then { e with state := esENDED, under := esENDED, cost := 0, offs := [], next := none }
  else if e.under ≠ esBURSTING then e
  else { e with under := esDORMANT, state := if e.state = esBURSTING then esDORMANT else e.state }

/-- Ends an entry's run once nothing is scheduled and no transaction of it is left, whatever keeps it from running (R229, R245). -/
def State.checkEnd (s : State) (idx : Nat) : State :=
  match s.ent idx with
  | some e =>
    if e.next.isNone ∧ e.state ≠ esENDED ∧ !(s.psc.txns.any fun x => x.ent == idx) then s.modEnt idx EntS.finished else s
  | none => s

/-- One passing instant of an entry that cannot serve it is missed. -/
def State.passOne (idx : Nat) (s : State) : State :=
  match s.ent idx with
  | some e =>
    match e.next with
    | some n =>
      let s := ((s.modEnt idx EntS.advance).missPolls idx n e.eps).checkEnd idx
      if e.state = esSUSPENDED then s.inc PSC_SHEDMISS else s
    | none => s
  | none => s

/-- How many instants of an entry have passed by `t`. -/
def EntS.passed (e : EntS) (t : Nat) : Nat :=
  match e.next with
  | some n =>
    if t < n then 0
    else
      let k := if e.kind = ekONESHOT ∨ e.period = 0 then 1 else (t - n) / e.period + 1
      match e.left with
      | some l => min k l
      | none => k
  | none => 0

/-- Instants of an entry from its next one on that lie before t. -/
def EntS.before (e : EntS) (t : Nat) : Nat := if t = 0 then 0 else e.passed (t - 1)


/-- The instants of an entry before t are missed. -/
def State.passTo (s : State) (e : EntS) (t : Nat) : State := times (State.passOne e.idx) (e.before t) s

/-- The instants before t that have passed in WAITNODE, NOFIT or SUSPENDED are missed (R239, R252). -/
def State.passBefore (s : State) (t : Nat) : State :=
  s.psc.ents.foldl (fun s e => if e.state = esWAITNODE ∨ e.state = esNOFIT ∨ e.state = esSUSPENDED then s.passTo e t else s) s

/-- The instants that have passed by now in WAITNODE, NOFIT or SUSPENDED are missed. -/
def State.passMissed (s : State) : State := s.passBefore (s.ct + 1)

/-! Transactions (R248-R251). -/

/-- A tag is granted to a class (R249). -/
def State.tagFree (s : State) (cls : Nat) : Bool :=
  let f := s.rng.tags.length
  let a := s.g PSC_TAGRES_RESA
  let b := s.g PSC_TAGRES_RESB
  match cls with
  | 0 => decide (f < 65536)
  | 1 => decide (f + a < 65536)
  | _ => decide (f + a + b < 65536)

/-- The counter of instants refused a tag. -/
def noTag (cls : Nat) : Fld := if cls = 0 then PSC_NOTAGA else if cls = 1 then PSC_NOTAGB else PSC_NOTAGC

/-- An instant of an entry is committed: a transaction with a tag, or missed without one. Answers the tag. -/
def State.commitInst (s : State) (e : EntS) (t b cyc : Nat) : State × Option Nat :=
  let s := s.modEnt e.idx EntS.advance
  if s.tagFree e.cls then
    let (s, tag) := s.takeTag
    let x : TxnS := { tag := tag, ent := e.idx, src := e.src, ct := t, bus := b, cyc := cyc, eps := e.eps, burst := e.kind == ekBURST }
    let s : State := { s with psc := { s.psc with txns := s.psc.txns ++ [x] } }
    ((s.modEnt e.idx fun e => { e with issued := up e.issued, last := some t }).inc PSC_ISSUED, some tag)
  else (((s.inc (noTag e.cls)).missPolls e.idx t e.eps).checkEnd e.idx, none)

/-- A record of an entry for its owner (R253, R438): it follows the casks that hold the samples of its instant (R447). -/
def State.entRecord (s : State) (e : EntS) (t code status : Nat) : State :=
  let c := s.ctx e.tid
  s.placeSampleEv
    { uid := c.uid, home := c.home, ev := s.mkEv evENTRY code s.ct (s.schedHandle e.idx) status e.lasting 0
      refs := e.eps.map fun ep => (ep, t), alert := false }

/-- A transaction completes: its instant is counted by its worst outcome, its tag is given back (R248, R253, R264). What a quarantined
hub delivers is discarded: the instant is missed (R256). -/
def State.finTxn (s : State) (x : TxnS) (status : Nat) : State :=
  let s : State := { s with psc := { s.psc with txns := s.psc.txns.filter fun y => y.tag != x.tag } }
  let s := s.dropTag x.tag
  let s :=
    match s.ent x.ent with
    | none => s
    | some e =>
      if x.lost then
        let e := { e with lasting := up e.lasting }
        let s := (s.modEnt x.ent fun _ => { e with faulted := true }).inc PSC_LASTING
        if e.faulted then s else s.entRecord e x.ct 1 status
      else if s.quar then s.modEnt x.ent fun e => { e with missed := up e.missed }
      else
        let s := s.modEnt x.ent fun e =>
          if x.retried then { e with retried := up e.retried, faulted := false } else { e with done := up e.done, faulted := false }
        let s := if x.retried then s.inc PSC_RETRYOK else s
        if e.faulted then s.entRecord e x.ct 2 0 else s
  (s.checkEnd x.ent).drainStreams

/-- A poll is delivered: every transaction of that instant and endpoint has it; those with all their polls complete (R238). What was
missed before it is declared first (R252). -/
def State.pollGot (s : State) (ep t : Nat) (retried : Bool) : State :=
  let s := (s.passBefore t).pollPast ep t
  let hit := fun (x : TxnS) => x.ct == t && x.eps.contains ep
  let s : State := { s with psc := { s.psc with
    txns := s.psc.txns.map fun x =>
      if hit x then { x with eps := x.eps.filter fun e => e != ep, got := x.got ++ [ep], retried := x.retried || retried } else x } }
  (s.psc.txns.foldl (fun s x => if x.eps.isEmpty ∧ x.got.contains ep = true ∧ x.ct = t then s.finTxn x LASTING_FAULT else s) s).drainStreams

/-- A transaction asks for an endpoint at an instant. -/
def State.polled (s : State) (ep t : Nat) : Bool := s.psc.txns.any fun x => x.ct == t && x.eps.contains ep

/-- A burst's transaction asks for an endpoint at an instant (R245). -/
def State.burstPoll (s : State) (ep t : Nat) : Bool := s.psc.txns.any fun x => x.burst && x.ct == t && x.eps.contains ep

/-- A transaction ends in a lasting fault: the polls it still waits for are missed where no other transaction brings them. -/
def State.loseTxn (s : State) (x : TxnS) (status : Nat) : State :=
  let s : State := { s with psc := { s.psc with txns := s.psc.txns.map fun y => if y.tag = x.tag then { y with eps := [], lost := true } else y } }
  (s.missEach x.ent x.ct x.eps).finTxn { x with lost := true } status

/-! Triggers (R244-R247). -/

/-- The first instants from a trigger at t: as R245 finds it, and as it can still be committed. -/
def State.trigFrom (s : State) (e : EntS) (t : Nat) : Nat × Nat :=
  let g := s.firstFrom e (t + e.lead)
  (g, s.stillFrom e g)

/-- A burst starts, or its count starts again, at an instant; when that is later than `ideal`, the start is late and the instants
between are missed (R247). -/
def State.burstStart (s : State) (idx ideal g : Nat) : State :=
  let s := s.modEnt idx fun e => { e with state := esBURSTING, under := esBURSTING, next := some g, left := some e.count }
  if g ≤ ideal then s
  else
    match s.ent idx with
    | none => s
    | some e =>
      let s := s.modEnt idx fun e => { e with late := up e.late, latepend := true }
      (List.range ((g - ideal) / max 1 e.period)).foldl (fun s k => s.missPolls idx (ideal + k * e.period) e.eps) s

/-- An entry that a trigger can reach: not one whose group is stopping (R243). -/
def EntS.triggerable (e : EntS) : Bool := e.state == esDORMANT || (e.state == esBURSTING && e.cut.isNone)

/-- BURST_START (R245, R246): a trigger at t reaches one entry; in any other state it is lost. -/
def State.triggerEnt (s : State) (idx t : Nat) : State :=
  match s.ent idx with
  | none => s.inc PSC_TRIGLOST
  | some e =>
    if e.triggerable then
      let (ideal, g) := s.trigFrom e t
      s.burstStart idx ideal g
    else s.inc PSC_TRIGLOST

/-- The members of a tenant's group here. -/
def State.members (s : State) (t group : Nat) : List EntS := s.psc.ents.filter fun e => e.tid == t && e.group == group

/-- A trigger at t reaches a tenant's group here: every member that can start does so at one instant (R243). -/
def State.triggerHere (s : State) (tid group t : Nat) : State :=
  let m := s.members tid group
  let c := m.filter EntS.triggerable
  let f := c.map fun e => s.trigFrom e t
  let ideal := f.foldl (fun x p => max x p.1) 0
  let g := f.foldl (fun x p => max x p.2) 0
  let s := (m.filter fun e => !e.triggerable).foldl (fun s _ => s.inc PSC_TRIGLOST) s
  c.foldl (fun s e => s.burstStart e.idx ideal g) s

/-- A trigger that starts a group is acted on here and sent to the other hubs of the directory (R247, R498). -/
def State.triggerGroup (s : State) (tid group t : Nat) : State :=
  let s := s.triggerHere tid group t
  (s.positions.filter fun p => p != s.pos).foldl (fun s p =>
    s.sendMsg clsSIGNAL 2 p (toLe 8 (s.ctx tid).uid ++ [group] ++ List.replicate 7 0 ++ toLe 8 t)) s

/-- A trigger names an entry, and through it its group. -/
def State.trigger (s : State) (idx t : Nat) : State :=
  match s.ent idx with
  | none => s.inc PSC_TRIGLOST
  | some e => if e.group = 0 then s.triggerEnt idx t else s.triggerGroup e.tid e.group t

/-! Suspension (R257, R261, R262). -/

/-- A class does not run at a shed stage, or in WATCH and HIBERNATE. -/
def State.clsStopped (s : State) (cls : Nat) : Bool :=
  s.watchRuns || decide (4 - cls ≤ s.stage && 2 ≤ s.stage)

/-- Two entries are one, or members of one coherent group (R242). -/
def EntS.mate (e f : EntS) : Bool := e.idx == f.idx || (e.group != 0 && e.group == f.group && e.tid == f.tid)

/-- An entry has an instant ahead that it will serve. -/
def EntS.runs (e : EntS) : Bool := (e.state == esACTIVE || e.state == esBURSTING) && e.next.isSome

/-- An entry that will have one when its suspension ends. -/
def EntS.resumes (e : EntS) : Bool := e.state == esSUSPENDED && (e.under == esACTIVE || e.under == esBURSTING) && e.next.isSome

/-- The instant from which an entry and the running members of its group stop: the first that none of them has committed (R243). -/
def State.cutOf (s : State) (e : EntS) : Nat :=
  (s.psc.ents.filter fun f => e.mate f && f.runs).foldl (fun m f => max m (f.next.getD 0)) 0

/-- The instant from which an entry and the members of its group run again: the first that all of them can still commit (R243,
R262). -/
def State.backOf (s : State) (e : EntS) : Nat :=
  (s.psc.ents.filter fun f => e.mate f && (f.resumes || f.cut.isSome)).foldl (fun m f =>
    max m (match f.cut with | some c => c | none => s.stillFrom f (f.next.getD 0))) 0

/-- An entry is suspended. -/
def EntS.suspend (e : EntS) : EntS :=
  if e.state = esSUSPENDED ∨ e.state = esENDED then e else { e with state := esSUSPENDED, under := e.state, cut := none, back := none }

/-- An entry stops at an instant, up to which it runs; at once when the scheduler stops (R243, R261). -/
def State.suspendAt (s : State) (e : EntS) (c : Nat) : State :=
  if !s.watchRuns && e.cut.isSome then s.modEnt e.idx fun e => { e with back := none }
  else if !s.watchRuns && e.runs && decide (e.next.getD 0 < c) then s.modEnt e.idx fun e => { e with cut := some c, back := none }
  else s.modEnt e.idx EntS.suspend

/-- A suspended entry runs again. -/
def EntS.resume (e : EntS) : EntS := if e.state = esSUSPENDED then { e with state := e.under } else e

/-- An entry that has come to its cut is suspended there, or passes over what lies before the instant its group has gone on from. -/
def State.reachCut (s : State) (idx : Nat) : State :=
  match s.ent idx with
  | none => s
  | some e =>
    match e.cut with
    | none => s
    | some c =>
      if e.before c ≠ 0 then s
      else
        let s := s.modEnt idx EntS.suspend
        match e.back with
        | none => s
        | some g => (s.passTo e g).modEnt idx EntS.resume

/-- A suspended entry resumes: what it cannot commit any more is missed (R262). -/
def State.resumeAt (s : State) (idx g : Nat) : State :=
  match s.ent idx with
  | some e =>
    if e.cut.isSome then
      s.modEnt idx fun e => if e.cut = some g then { e with cut := none, back := none } else { e with back := some g }
    else if e.resumes then (s.passTo e g).modEnt idx EntS.resume
    else s.modEnt idx EntS.resume
  | none => s

/-- A stage or a power state stops an entry's class. -/
def State.entStops (s : State) (e : EntS) : Bool := s.clsStopped e.cls && !(s.watchLive && e.watch)

/-- Entries are suspended or resume as the stage and the power state say (R243, R261, R262). What an entry could resume at alone runs
again first, so that an instant which a group must leave out is missed only where no other entry takes it. -/
def State.schedStage (s : State) : State :=
  let s := s.passMissed
  let stop := (s.psc.ents.filter s.entStops).map fun e => (e, s.cutOf e)
  let go := (s.psc.ents.filter fun e => !s.entStops e && (e.state == esSUSPENDED || e.cut.isSome)).map fun e => (e, s.backOf e)
  let s := stop.foldl (fun s x => s.suspendAt x.1 x.2) s
  let s := go.foldl (fun s x => if x.1.resumes then s.passTo x.1 (s.stillFrom x.1 (x.1.next.getD 0)) else s) s
  let lone := fun (x : EntS × Nat) => !x.1.resumes || s.stillFrom x.1 (x.1.next.getD 0) == x.2
  let s := (go.filter lone ++ go.filter fun x => !lone x).foldl (fun s x => s.resumeAt x.1.idx x.2) s
  (s.f PSC_STS_STAGE (min 5 s.stage)).f PSC_STS_STOPPED (b2n s.watchRuns)

/-- The transactions in flight are abandoned (R261): their polls are missed, nothing is counted as a fault. -/
def State.abandonTxns (s : State) : State :=
  s.psc.txns.foldl (fun s x =>
    let s : State := { s with psc := { s.psc with txns := s.psc.txns.filter fun y => y.tag != x.tag } }
    let s := (s.dropTag x.tag).inc PSC_SHEDMISS
    let s := s.missPolls x.ent x.ct x.eps
    (s.checkEnd x.ent).drainStreams) s

end Sys2Proof.Machine
end

