-- ==== Sys2Proof/Machine/Crs.lean ====
section
/-! DEFINITION. Course buses: slot layouts, the commands to nodes, and the ways a node loses its address
(spec/03_course_bus_line_and_cycle.md R78-R81, R96; spec/04_course_bus_nodes.md R113-R124, R136). -/
namespace Sys2Proof.Machine

/-! Layouts (R79, R80), in bit times. -/

/-- Normal slots from a position on: address, position, length. -/
def laySlots (g : Nat) : Nat → List (Nat × Nat) → List (Nat × Nat × Nat)
  | _, [] => []
  | p, (a, n) :: t => (a, p, n) :: laySlots g (p + 10 * (n + 2) + g + 40) t

/-- n positions of one length from p on, with a guard of g after each. -/
def layRun (g len : Nat) : Nat → Nat → List Nat
  | 0, _ => []
  | n + 1, p => p :: layRun g len n (p + 10 * (len + 2) + g + 40)

/-- A delay in ticks as bit times, rounded up. -/
def bitsUp (d : Nat) : Nat := (d + 23) / 24

/-- The layout of a bus for slots of these addresses and lengths, in ascending address order (R79). -/
def State.layoutOf (s : State) (b : Nat) (want : List (Nat × Nat)) : LayT :=
  let g := s.g (CRS_BCFG_GUARD b)
  let w := 100 * s.g (CRS_BCFG_DLWIN b)
  let ta := 2 * bitsUp (want.foldl (fun m x => max m (s.g (CRS_NDELAY b x.1))) 0) + 40
  let slots := laySlots g (w + ta + 40) want
  let last := match slots.getLast? with
    | some x => x.2.1 + 10 * (x.2.2 + 2)
    | none => w + ta
  let pl := s.g (CRS_BSLOTCFG_PROBLEN b)
  let ps := layRun (2 * g) pl (s.g (CRS_BCFG_PROBCNT b)) (last + 2 * g + 40)
  let sj := match ps.getLast? with
    | some p => p + 10 * (pl + 2) + 2 * g + 40
    | none => last + g + 40
  let ej := sj + 260
  let sl := s.g (CRS_BSLOTCFG_SPARELEN b)
  let sc := s.g (CRS_BCFG_SPARECNT b)
  let sg := ej + g + 40
  let us := layRun g sl sc (sg + 10 * (10 + 4 * sc) + ta + 40)
  let e := match us.getLast? with
    | some u => u + 10 * (sl + 2)
    | none => ej
  { w := w, ta := ta, slots := slots, ps := ps, sj := sj, ej := ej, sg := if sc = 0 then 0 else sg, us := us,
    ustep := if sc = 0 then 0 else 10 * (sl + 2) + g + 40, e := e + g + 40 }

/-- A layout keeps R80: the fit of step 13, and the slots probation can hold. -/
def State.layFits (s : State) (b : Nat) (l : LayT) : Bool :=
  decide (l.e ≤ 100 * s.g (CRS_BCYCLEN_LEN b)) &&
    (if s.g (CRS_BCFG_PROBCNT b) = 0 then decide (l.slots.length ≤ 1)
     else l.slots.all fun x => decide (x.2.2 ≤ s.g (CRS_BSLOTCFG_PROBLEN b)))

/-! Nodes. -/

/-- The address is held by a node. -/
def State.holds (s : State) (b a : Nat) : Bool := (s.node b a).id != 0

/-- The addresses held on a bus, ascending. -/
def State.heldAddrs (s : State) (b : Nat) : List Nat := (List.range 32).filter fun a => s.holds b a

/-- The addresses with a slot, ascending. -/
def State.slotAddrs (s : State) (b : Nat) : List Nat := (List.range 32).filter fun a => s.on (CRS_NSTS_ADMITTED b a)

/-- The slots of the layouts to come: address and length. -/
def State.wanted (s : State) (b : Nat) : List (Nat × Nat) :=
  ((s.heldAddrs b).filter fun a => (s.node b a).want != 0).map fun a => (a, (s.node b a).want)

/-- An address has a slot in the layout in force or in the one under change. -/
def BusS.laid (x : BusS) (a : Nat) : Bool :=
  (x.lay.slots.any fun t => t.1 == a) || match x.lchg with
    | some l => l.lay.slots.any fun t => t.1 == a
    | none => false

/-- The lowest free address of a bus (R112): held by no node and without a slot. -/
def State.freeAddr (s : State) (b : Nat) : Option Nat := (List.range 32).find? fun a => !s.holds b a && !(s.bus b).laid a

/-- Elements of report descriptor d (R128), its bytes per element, its report number, kind, group, MINPERIOD and SLEN. -/
def rdNelem (d : List Nat) : Nat := leAt d 4 2
/-- See rdNelem. -/
def rdEsize (d : List Nat) : Nat := leAt d 3 1
/-- See rdNelem. -/
def rdReport (d : List Nat) : Nat := leAt d 0 1
/-- See rdNelem. -/
def rdKind (d : List Nat) : Nat := leAt d 1 1
/-- See rdNelem. -/
def rdGroup (d : List Nat) : Nat := leAt d 2 1 % 16
/-- See rdNelem. -/
def rdMinPer (d : List Nat) : Nat := leAt d 12 4
/-- See rdNelem. -/
def rdSlen (d : List Nat) : Nat := leAt d 6 2

/-- Report kinds (R128). -/
abbrev rkSCALAR : Nat := 0
abbrev rkARRAY : Nat := 1
abbrev rkUNTIMED : Nat := 2

/-- The endpoints of reports from a first index on: index, descriptor and element, in the order of R135. -/
def repEps : Nat → List (List Nat) → List (Nat × List Nat × Nat)
  | _, [] => []
  | n, d :: t => ((List.range (rdNelem d)).map fun k => (n + k, d, k)) ++ repEps (n + rdNelem d) t

/-- Endpoints of a list of reports. -/
def repCount (rs : List (List Nat)) : Nat := (rs.map rdNelem).sum

/-- The first endpoint and the descriptor of a report of a node. -/
def repFind : Nat → List (List Nat) → Nat → Option (Nat × List Nat)
  | _, [], _ => none
  | n, d :: t, r => if rdReport d = r then some (n, d) else repFind (n + rdNelem d) t r

/-- A NODE record (R438). -/
def State.nodeRecord (s : State) (code b a reason id d : Nat) : State :=
  s.recordNode (s.mkEv evNODE code s.ct (b + 256 * a + 65536 * reason) (lo32 id) (hi32 id) d)

/-! Commands to nodes (R71, R117-R122). -/

/-- Command codes (R122). -/
abbrev ncJOININFO : Nat := 1
abbrev ncASSIGN : Nat := 2
abbrev ncREFUSE : Nat := 3
abbrev ncRANGE : Nat := 4
abbrev ncLAYOUT : Nat := 5
abbrev ncCOMMIT : Nat := 6
abbrev ncREADNDB : Nat := 7
abbrev ncDROP : Nat := 8

/-- Puts a command behind those waiting on a bus. -/
def State.queueCmd (s : State) (b : Nat) (c : NcmdS) : State :=
  s.setBus b { s.bus b with cmds := (s.bus b).cmds ++ [c] }

/-- A new command to a node, with its next SEQ (R121). A node without a slot answers at once (R120). -/
def State.nodeCmd (s : State) (b a : Nat) (c : NcmdS) : State :=
  let n := s.node b a
  let s := s.setNode b a { n with seq := (n.seq + 1) % 256 }
  s.queueCmd b { c with addr := a, seq := n.seq, imm := !s.on (CRS_NSTS_ADMITTED b a) }

/-- A new command to a node that goes out before those waiting. -/
def State.firstCmd (s : State) (b a : Nat) (c : NcmdS) : State :=
  let n := s.node b a
  let s := s.setNode b a { n with seq := (n.seq + 1) % 256 }
  s.setBus b { s.bus b with cmds := { c with addr := a, seq := n.seq, imm := !s.on (CRS_NSTS_ADMITTED b a) } :: (s.bus b).cmds }

/-- The commands to a node end with its admission (R121): unsent ones with NOT_IN_STATE, sent ones with TIMEOUT. -/
def State.flushCmds (s : State) (b a : Nat) : State :=
  let mine := (s.bus b).cmds.filter fun c => c.addr == a && c.who != 3
  let s := match (s.node b a).wait with
    | some c => (match c.job with | some j => s.finishId j { status := TIMEOUT } | none => s)
    | none => s
  let s := mine.foldl (fun s c => match c.job with
    | some j => s.finishId j { status := if c.resent then TIMEOUT else NOT_IN_STATE }
    | none => s) s
  s.setBus b { s.bus b with cmds := (s.bus b).cmds.filter fun c => !(c.addr == a && c.who != 3) }

/-! Losing an address. -/

/-- Schedule entries follow a node that is no longer admitted to WAITNODE, and give up their lanes (R239). -/
def State.entWait (s : State) (id : Nat) : State :=
  { s with psc := { s.psc with ents := s.psc.ents.map fun e =>
      if e.src = exCOURSE ∧ e.nodeid = id ∧ e.state ≠ esENDED then
        { e with offs := [], under := esWAITNODE, cut := none, back := none
                 state := if e.state = esSUSPENDED ∨ e.cut.isSome then esSUSPENDED else esWAITNODE }
      else e } }

/-- The admission in progress ends. -/
def State.endAdm (s : State) (b : Nat) : State :=
  ((s.setBus b { s.bus b with adm := none }).f (CRS_BADMSTS_STEP b) 0).f (CRS_BADMSTS_ADDR b) 0

/-- A layout change that is not yet committed is abandoned, to start again (R124 step 3). -/
def State.abandonLayout (s : State) (b : Nat) : State :=
  match (s.bus b).lchg with
  | some l =>
    if l.eff.isNone then
      s.setBus b { s.bus b with lchg := none, relay := true, cmds := (s.bus b).cmds.filter fun c => c.who != 1 }
    else s
  | none => s

/-- A node gives up its address. Its slot stays laid out until a layout change removes it (R124). -/
def State.removeNode (s : State) (b a : Nat) : State :=
  let n := s.node b a
  let laid := (s.bus b).laid a
  let s := s.flushCmds b a
  let s := if laid then s.abandonLayout b else s
  let x := s.bus b
  let s := s.setBus b { x with
    relay := x.relay || laid
    corr := x.corr.filter fun c => c.1 != a
    lost := x.lost.filter fun c => c.2.1 != a }
  let s := match x.adm with
    | some m => if m.addr = a then s.endAdm b else s
    | none => s
  let s := s.setNode b a {}
  let s := s.zero [CRS_NDELAY b a, CRS_NSLOTLEN b a, CRS_NSLOTST b a, CRS_NIDLO b a, CRS_NIDHI b a, CRS_NNSTAT b a]
  let s := (s.wr (0x4000 + 0x400 * b + 0x20 * a) 0).wr (0x14008 + 0x200 * b + 0x10 * a) 0
  if n.id = 0 then s else s.entWait n.id

/-- A node is de-admitted, with its record (R112, R124, R132). -/
def State.deadmit (s : State) (b a : Nat) : State :=
  let n := s.node b a
  (s.nodeRecord 3 b a 0 n.id (repCount n.reports)).removeNode b a

/-- A refusal (R115): counted, noted, recorded, and REFUSE sent with BYID and the configured hold-off, before the commands that wait
(R112). To a node that holds no address its SEQ is a free value (notes/assumptions/124.md). -/
def State.refuse (s : State) (b reason id nonce addr : Nat) : State :=
  let s := (s.inc (CRS_BREFUSED b)).f (CRS_BADMSTS_LASTREASON b) reason
  let s := (s.f (CRS_BREFIDLO b) (lo32 id)).f (CRS_BREFIDHI b) (hi32 id)
  let s := s.nodeRecord 2 b addr reason id 0
  let held := (s.node b addr).id = id
  let c : NcmdS := { opc := ncREFUSE, byid := true, nodeid := id, seq := if held then (s.node b addr).seq else s.fresh % 256
                     param := [reason, 0] ++ toLe 2 nonce ++ toLe 4 (64 * s.g (CRS_BADMCFG_HOLDOFF b)) }
  let s := if held then s else s.drew
  s.setBus b { s.bus b with cmds := c :: (s.bus b).cmds }

/-- Refusal reasons (R116). -/
abbrev rrSPEC : Nat := 1
abbrev rrFULL : Nat := 2
abbrev rrDUPLICATE : Nat := 3
abbrev rrRANGE : Nat := 4
abbrev rrFIT : Nat := 5
abbrev rrNDB : Nat := 6
abbrev rrENERGY : Nat := 7
abbrev rrENDPOINTS : Nat := 8
abbrev rrSILENT : Nat := 9

/-- The candidate is refused after step 1, and its slot removed (R115). REFUSE carries the NONCE at step 1 and 0 after it. -/
def State.refuseAdm (s : State) (b reason : Nat) : State :=
  match (s.bus b).adm with
  | none => s
  | some m => (s.refuse b reason m.nodeid (if m.step = 1 then m.nonce else 0) m.addr).removeNode b m.addr

/-! Layout changes (R123, R124). -/

/-- The LAYOUT parameters for a node in a layout (R123). -/
def State.layParam (s : State) (b lno : Nat) (l : LayT) (t : Nat × Nat × Nat) : List Nat :=
  let sc := s.g (CRS_BCFG_SPARECNT b)
  [lno, 0] ++ toLe 2 (if sc = 0 then 0 else s.g (CRS_BSLOTCFG_SPARELEN b)) ++ toLe 4 t.2.1 ++ toLe 2 t.2.2 ++
    toLe 2 (s.g (CRS_NDELAY b t.1)) ++ toLe 4 (l.us.headD 0) ++ toLe 4 l.ustep ++
    ((List.range 4).map fun j => toLe 4 (l.ps.getD j 0)).flatten

/-- R124 steps 1 and 2: the new layout, and LAYOUT with a new LNO to every node it gives a slot. -/
def State.startLayout (s : State) (b : Nat) : State :=
  let s := s.abandonLayout b
  let x := s.bus b
  if x.lchg.isSome then s.setBus b { x with relay := true }
  else
    let l := s.layoutOf b (s.wanted b)
    let lno := (x.lno + 1) % 256
    let s := s.setBus b { x with
      lno := lno, relay := false, lchg := some { lno := lno, lay := l, wait := l.slots.map Prod.fst }
      adm := x.adm.map fun m => if m.busy && (m.step == 3 || m.step == 5) then { m with lno := some lno } else m }
    l.slots.foldl (fun s t => s.nodeCmd b t.1 { opc := ncLAYOUT, param := s.layParam b lno l t, who := 1 }) s

/-! A bus that stops (R96, R136). -/

/-- Beacons stop and every node loses its admission. -/
def State.haltBus (s : State) (b : Nat) : State :=
  let s := (s.heldAddrs b).foldl (fun s a => s.removeNode b a) s
  let x := s.bus b
  let s := s.setBus b { x with
    cur := none, prev := none, plan := none, adm := none, lchg := none, relay := false, cmds := [], corr := [], drops := [], lost := [],
    bad := [], passed := [], devs := [], joinOpen := false, joinres := 0, quiet := 0, watch := false, back := none
    lay := s.layoutOf b [] }
  let s := s.endAdm b
  ((s.zero [CRS_BSTS_RUNNING b, CRS_BSTS_HOLD b, CRS_BSTS_LAYOUTPEND b, CRS_BSTS_WATCHRATE b]))

/-- A power segment goes off: its four buses stop (R96). -/
def State.segmentOff (s : State) (k : Nat) : State :=
  [4 * k, 4 * k + 1, 4 * k + 2, 4 * k + 3].foldl (fun s b =>
    let s := s.f (CRS_BSTS_SEGOFF b) 1
    if s.on (CRS_BCFG_EN b) then (s.haltBus b).setBus b { (s.haltBus b).bus b with from_ := some s.elapsed } else s) s

/-- A power segment is on again: its enabled buses resume at the next grid instant (R96). -/
def State.segmentOn (s : State) (k : Nat) : State :=
  [4 * k, 4 * k + 1, 4 * k + 2, 4 * k + 3].foldl (fun s b =>
    let s := s.f (CRS_BSTS_SEGOFF b) 0
    if s.on (CRS_BCFG_EN b) then s.setBus b { s.bus b with from_ := some (max s.elapsed ((s.bus b).from_.getD 0)) } else s) s

end Sys2Proof.Machine
end

