-- ==== Sys2Proof/Machine/Guard.lean ====
section
/-! DEFINITION. The energy guard and the window monitors: comparators, integrators, trips, output states, the lock, self-check and
wheel timing (spec/05_energy_guard.md; spec/06_analogue_front_end_and_windows.md R177-R192). -/
namespace Sys2Proof.Machine

/-! Channels. -/

/-- A guard channel. -/
def State.gu (s : State) (c : Nat) : GuS := s.grd.chans.get (fun _ => {}) c

/-- Sets a guard channel. -/
def State.setGu (s : State) (c : Nat) (u : GuS) : State :=
  { s with grd := { s.grd with chans := s.grd.chans.set (fun _ => {}) c u } }

/-- Output states (R149). -/
abbrev guOFF : Nat := 0
abbrev guON : Nat := 1
abbrev guTRIPPED : Nat := 2
abbrev guRETRYWAIT : Nat := 3

/-- Trip causes, as CAUSE bits (R165). -/
abbrev cuIHI : Nat := 1
abbrev cuVHI : Nat := 2
abbrev cuILO : Nat := 4
abbrev cuVLO : Nat := 8
abbrev cuENERGY : Nat := 16
abbrev cuEVENT : Nat := 32

/-- The state of a channel. -/
def State.guState (s : State) (c : Nat) : Nat := s.g (GRD_CSTS_STATE c)

/-- The channel is ON or RETRYWAIT. -/
def State.guActive (s : State) (c : Nat) : Bool := s.guState c == guON || s.guState c == guRETRYWAIT

/-- GRD_GSTS follows the channels and the lock. -/
def State.showGsts (s : State) : State :=
  let l := List.range 32
  let s := s.f GRD_GSTS_ANYON (b2n (l.any fun c => s.guActive c))
  let s := s.f GRD_GSTS_ANYTRIP (b2n (l.any fun c => s.guState c == guTRIPPED || s.guState c == guRETRYWAIT))
  s.f GRD_GSTS_LOCKED (s.g GRD_LOCK_LOCK)

/-! Loop drives (R167, R173, R176). -/

/-- The drive of a loop acts: its guard channel is ON, its mode drives, and the analogue supply is in range (R662). -/
def State.drives (s : State) (x : Nat) : Bool :=
  s.guState (16 + x) == guON && decide (2 ≤ s.g (AFE_LCFG_MODE x)) && s.sys.vafe

/-- Compliance intervals of a loop. -/
def State.comps (s : State) (x : Nat) : List (Nat × Option Nat) := s.grd.comp.get (fun _ => []) x

/-- Sets them. -/
def State.setComps (s : State) (x : Nat) (l : List (Nat × Option Nat)) : State :=
  { s with grd := { s.grd with comp := s.grd.comp.set (fun _ => []) x l } }

/-- COMPLIANCE of a loop clears; its interval ends now. -/
def State.compEnd (s : State) (x : Nat) : State :=
  let s := (s.f (AFE_LSTS_COMPLIANCE x) 0).f (WIN_MSTS_COMPLIANCE (64 + x)) 0
  s.setComps x (match s.comps x with
    | (a, none) :: t => (a, some s.ct) :: t
    | l => l)

/-- The tolerance of a set point in microamperes (R174): the larger of set point / 200 and 20. In units of 1/200 µA. -/
def tolOf (set : Nat) : Nat := max set 4000

/-- The measured current of a loop in units of 1/1024 µA: ±25 mA at ±100 mV (R168). -/
def State.loopCur (s : State) (x : Nat) : Int := 250 * s.grd.vin.get (fun _ => 0) (64 + x)

/-- The measured current of a loop in microamperes. -/
def State.loopUa (s : State) (x : Nat) : Nat := (s.loopCur x).toNat / 1024

/-- Where the measured current stands against the set point and its tolerance (R174): 1 below, 2 within, 3 above. -/
def State.loopRegion (s : State) (x : Nat) : Nat :=
  let set := s.g (AFE_LSET_SET x)
  let d := 200 * (1024 * (set : Int) - s.loopCur x)
  if 1024 * (tolOf set : Int) < d then 1 else if d < -(1024 * (tolOf set : Int)) then 3 else 2

/-- The judged region of a loop and since when. -/
def State.loopAt (s : State) (x : Nat) : Nat × Nat := s.grd.loops.get (fun _ => (0, 0)) x

/-- Sets it. -/
def State.setLoopAt (s : State) (x : Nat) (r : Nat × Nat) : State :=
  { s with grd := { s.grd with loops := s.grd.loops.set (fun _ => (0, 0)) x r } }

/-- SETTLED and SATURATED follow the measured current (R189), and a region entered starts its 100 µs (R174). A regulator that leaves the
current below tolerance is at the limit of its drive, one that leaves it above is not; within tolerance that lies outside the hub. -/
def State.loopJudge (s : State) (x : Nat) : State :=
  let r := s.loopRegion x
  if (s.loopAt x).1 = r then s
  else
    let s := (s.setLoopAt x (r, s.elapsed)).f (AFE_LSTS_SETTLED x) (b2n (r == 2))
    if r = 2 then (s.f (AFE_LSTS_SATURATED x) (s.fresh % 2)).drew else s.f (AFE_LSTS_SATURATED x) (b2n (r == 1))

/-- DRVON, SETTLED and SATURATED follow the drive. A drive that stops clears COMPLIANCE without a record (R176). -/
def State.driveFollow (s : State) (x : Nat) : State :=
  if s.drives x then (s.f (AFE_LSTS_DRVON x) 1).loopJudge x
  else
    let s := if s.on (AFE_LSTS_COMPLIANCE x) then s.compEnd x else s
    (s.setLoopAt x (0, 0)).zero [AFE_LSTS_DRVON x, AFE_LSTS_SETTLED x, AFE_LSTS_SATURATED x]

/-- A channel enters a state: its output, its segment or drive, and GRD_GSTS follow (R149, R148). -/
def State.setGuState (s : State) (c st : Nat) : State :=
  let was := s.guState c
  let s := s.f (GRD_CSTS_STATE c) st
  let s := if st = guON ∧ was ≠ guON then s.setGu c { s.gu c with onAt := s.elapsed } else s
  let s :=
    if c < 16 then
      if st = guON ∧ was ≠ guON then s.segmentOn c else if was = guON ∧ st ≠ guON then s.segmentOff c else s
    else s.driveFollow (c - 16)
  s.showGsts

/-! Trips (R146, R147, R679). -/

/-- No output may be turned on: a power failure or shed stage 5. -/
def State.noTurnOn (s : State) : Bool := !s.sys.pfailN || decide (5 ≤ s.stage)

/-- A cause joins the open trip (R147). -/
def State.joinTrip (s : State) (c cause : Nat) : State := s.f (GRD_CSTS_CAUSE c) (Nat.lor (s.g (GRD_CSTS_CAUSE c)) cause)

/-- A trip opens at the pins (R146, R147): latches, cause and count; the life counter, until the final commit (R152). -/
def State.takeTrip (s : State) (c cause : Nat) : State :=
  let s := s.f GRD_TRIPSTS_LATCH (Nat.lor (s.g GRD_TRIPSTS_LATCH) (s.g (GRD_CCFG_TRIPMAP c)))
  let s := ((s.f (GRD_CSTS_CAUSE c) cause).inc (GRD_CTRIPCNT c)).f (GRD_CSTS_TOFFDONE c) 0
  let s := if s.sys.final = 0 then s.lifeInc (16 + c) 1 else s
  s.setGu c { s.gu c with tripAt := s.elapsed, tripAon := some s.time.aon, tripE := some (s.g (GRD_CENERGY_E c)) }

/-- The CKAON edge after a trip records it (R147): CT, event, source and records, with every cause that joined. -/
def State.closeTrip (s : State) (c : Nat) : State :=
  match (s.gu c).tripE with
  | none => s
  | some e =>
    let s := (s.setGu c { s.gu c with tripE := none }).f64 (GRD_CTRIPCTLO c) (GRD_CTRIPCTHI c) s.ct
    let s := (s.event (116 + c) s.ct).raiseHub srcGUARDTRIP
    s.recordHosts (s.mkEv evGUARD 1 s.ct (c + 32 * s.g (GRD_CSTS_CAUSE c)) e (s.g (GRD_CTRIPCNT c)) 0)

/-- RETRIES is below AUTORETRY. -/
def State.mayRetry (s : State) (c : Nat) : Bool := decide (s.g (GRD_CSTS_RETRIES c) < s.g (GRD_CCFG_AUTORETRY c))

/-- A trip switches the output (R150): a re-closure follows when one is left, the output may be turned on, and no OFF command of this
CKAON cycle came first. -/
def State.tripNow (s : State) (c cause : Nat) : State :=
  let again := s.mayRetry c
  let off := s.guState c == guOFF
  let s := if again then s.incBy (GRD_CSTS_RETRIES c) 1 else s
  (s.setGuState c (if again && !off && !s.noTurnOn then guRETRYWAIT else guTRIPPED)).takeTrip c cause

/-- GUARD_TRIP (R146, R147, R150-R152, R679): causes trip an ON channel; until the edge that records a trip they join it; a channel that
an OFF command turned off in this cycle trips all the same; and an ON command of this cycle counts as refused. -/
def State.guardTrip (s : State) (c cause : Nat) : State :=
  let u := s.gu c
  if s.guState c = guON then
    (if u.onAon = some s.time.aon then s.discard rGRD_CCTL c 0 ENERGY_REFUSED else s).tripNow c cause
  else if u.tripE.isSome then s.joinTrip c cause
  else if s.guState c = guOFF ∧ u.offAon = some s.time.aon then s.tripNow c cause
  else s

/-- The guard trips every channel in ON or RETRYWAIT with cause ENERGY (R569). -/
def State.tripAll (s : State) : State :=
  (List.range 32).foldl (fun s c =>
    if s.guState c = guON then s.guardTrip c cuENERGY else if s.guState c = guRETRYWAIT then s.tripNow c cuENERGY else s) s

/-! Comparators (R178-R182). Voltages are in units of 1/1024 mV. -/

/-- The threshold of monitor m for a code (R178). -/
def thrOf (m k : Nat) : Int :=
  if m < 32 then ((k : Int) - 512) * 2400
  else if m < 48 ∨ (64 ≤ m ∧ m < 80) then 100 * (k : Int)
  else if m = 96 then 4096 * (k : Int)
  else if m = 97 ∨ m = 98 then 1024 * (k : Int)
  else 1200 * (k : Int)

/-- The hysteresis for a code (R179). -/
def hystOf (c : Nat) : Int := 1024 * ([0, 5, 10, 20, 40, 80, 160].getD c 0 : Nat)

/-- The guard channel of a monitor and whether it watches the voltage (R177). -/
def monGuard (m : Nat) : Option (Nat × Bool) :=
  if m < 32 ∨ 96 ≤ m then none
  else if m < 48 then some (m - 32, false)
  else if m < 64 then some (m - 48, true)
  else if m < 80 then some (m - 48, false)
  else some (m - 64, true)

/-- The monitor of a guard channel's current or voltage window. -/
def guardMon (c : Nat) (volt : Bool) : Nat := (if c < 16 then 32 + c else 48 + c) + (if volt then 16 else 0)

/-- What a monitor's comparators see of its input: a negative differential counts as zero current (R142), and the loop voltages
read zero without the analogue supply (R662). -/
def State.monIn (s : State) (m : Nat) : Int :=
  let v := s.grd.vin.get (fun _ => 0) m
  match monGuard m with
  | some (c, volt) => if volt then (if 16 ≤ c ∧ !s.sys.vafe then 0 else v) else max 0 v
  | none => v

/-- A self-check cuts the monitor's comparators from its input (R183). -/
def State.checking (s : State) (m : Nat) : Bool := s.on WIN_SCSTS_BUSY && s.g WIN_SCSTS_MON == m

/-- LVL of a monitor for comparators hi and lo (R180). -/
def lvlOf (sel : Nat) (hi lo : Bool) : Bool := if sel = 0 then hi else if sel = 1 then lo else hi || lo

/-- The edge history of a monitor. -/
def State.edgeHist (s : State) (m : Nat) : List Nat := s.grd.edges.get (fun _ => []) m

/-- Sets it. -/
def State.setEdges (s : State) (m : Nat) (l : List Nat) : State :=
  { s with grd := { s.grd with edges := s.grd.edges.set (fun _ => []) m l } }

/-- A rising edge of a monitor with SPDEN is kept, of the last 256 (R184). -/
def State.toothEdge (s : State) (m : Nat) : State :=
  if m < 32 ∧ s.on (WIN_MCFG_SPDEN m) then
    let s := s.setEdges m ((s.ct :: s.edgeHist m).take 256)
    { s with grd := { s.grd with edgeAt := s.grd.edgeAt.set (fun _ => 0) m s.elapsed } }
  else s

/-- An edge of LVL (R181, R184): history, and, on the sense of EVEDGE, the event, LASTCT, the timer units and the wake. -/
def State.lvlEdge (s : State) (m : Nat) (fall : Bool) : State :=
  let s := if fall then s else s.toothEdge m
  if senseTakes (s.g (WIN_MCFG_EVEDGE m)) fall then
    let s := (s.event m s.ct).f64 (WIN_MLASTCTLO m) (WIN_MLASTCTHI m) s.ct
    let s := (s.tickUnits 5 m fall).captureEdge 1 m fall
    if s.on (WIN_MCFG_WAKEEN m) then s.wakeReq 2 else s
  else s

/-- The trips of a guard window whose comparators have just asserted (R142). -/
def State.windowTrips (s : State) (m : Nat) (hiUp loUp : Bool) : State :=
  match monGuard m with
  | none => s
  | some (c, volt) =>
    let act := if volt then s.on (GRD_CCFG_VLOACT c) else s.on (GRD_CCFG_ILOACT c)
    let cause := (if hiUp then (if volt then cuVHI else cuIHI) else 0) + (if loUp && act then (if volt then cuVLO else cuILO) else 0)
    if cause ≠ 0 ∧ s.on (GRD_CCFG_ARM c) then s.guardTrip c cause else s

/-- The comparators of a monitor take new states (R180-R182, R146). -/
def State.setComp (s : State) (m : Nat) (hi lo : Bool) : State :=
  let h0 := s.on (WIN_MSTS_HICMP m)
  let l0 := s.on (WIN_MSTS_LOCMP m)
  let s := if hi && !h0 then s.f (WIN_MSTS_HIUP m) 1 else s
  let s := if h0 && !hi then s.f (WIN_MSTS_HIDN m) 1 else s
  let s := if lo && !l0 then s.f (WIN_MSTS_LODN m) 1 else s
  let s := if l0 && !lo then s.f (WIN_MSTS_LOUP m) 1 else s
  let s := (s.f (WIN_MSTS_HICMP m) (b2n hi)).f (WIN_MSTS_LOCMP m) (b2n lo)
  let was := s.on (WIN_MSTS_LVL m)
  let lvl := lvlOf (s.g (WIN_MCFG_OUTSEL m)) hi lo
  let s := s.f (WIN_MSTS_LVL m) (b2n lvl)
  let s := if lvl != was then s.lvlEdge m was else s
  s.windowTrips m (hi && !h0) (lo && !l0)

/-- The comparators follow the input, the thresholds and the hysteresis (R179) in every power state except OFF (R186). -/
def State.compare (s : State) (m : Nat) : State :=
  if s.checking m ∨ s.sys.pstate = .off then s
  else
    let v := s.monIn m
    let h := hystOf (s.g (WIN_MCFG_HYST m))
    let th := thrOf m (s.g (WIN_MTHR_HI m))
    let tl := thrOf m (s.g (WIN_MTHR_LO m))
    let hi := if s.on (WIN_MSTS_HICMP m) then !decide (v < th - h) else decide (th < v)
    let lo := if s.on (WIN_MSTS_LOCMP m) then !decide (tl + h < v) else decide (v < tl)
    if hi = s.on (WIN_MSTS_HICMP m) ∧ lo = s.on (WIN_MSTS_LOCMP m) ∧ lvlOf (s.g (WIN_MCFG_OUTSEL m)) hi lo = s.on (WIN_MSTS_LVL m) then s
    else s.setComp m hi lo

/-- A monitor's input takes a value; the current of a driven loop is judged anew. -/
def State.setVin (s : State) (m : Nat) (v : Int) : State :=
  let s : State := { s with grd := { s.grd with vin := s.grd.vin.set (fun _ => 0) m v } }
  (if 64 ≤ m ∧ m < 80 ∧ s.drives (m - 64) = true then s.loopJudge (m - 64) else s).compare m

/-- MONITOR_EDGE (R181, R182, R184): the input of monitor m goes to v, in units of 1/1024 mV. -/
def execMonitorEdge (m : Nat) (v : Int) (s : State) : Res := .next (s.setVin m v)

/-- WINDOW_TRIP (R146): the current or voltage of guard channel c goes to v, across a threshold. -/
def execWindowTrip (c : Nat) (volt : Bool) (v : Int) (s : State) : Res := .next (s.setVin (guardMon c volt) v)

/-! The integrator (R143-R145, R678, R679). -/

/-- The code that the guard converter of channel c delivers for its input (R678): floor(input x 4096 / FS), clamped to 0-4095, with
FS 100 mV of current and 1.2 V of voltage. -/
def State.convCode (s : State) (c : Nat) (volt : Bool) : Nat :=
  min 4095 ((s.monIn (guardMon c volt)).toNat * 4096 / (1024 * if volt then 1200 else 100))

/-- The increment for codes i and v, in picojoules rounded up (R143). -/
def State.guInc (s : State) (c : Nat) (code : Nat × Nat) : Nat :=
  (code.1 * s.g (GRD_CIFS_IFS c) * (code.2 * s.g (GRD_CVFS_VFS c)) * 40 + 16777216000000 - 1) / 16777216000000

/-- CKAON cycles of a bucket (R144). -/
def State.bucketLen (s : State) (c : Nat) : Nat := max 1 ((s.g (GRD_CEWIN_EWIN c) + 15) / 16)

/-- One CKAON edge of a channel's integrator: the codes converted from its inputs are shown, those of two cycles before are added, E is
formed, and an excess on a channel that is ON, or that tripped in the cycle ending here, is a cause (R143, R144, R147, R679). -/
def State.guardEdge (s : State) (c : Nat) : State :=
  let u := s.gu c
  let i := s.convCode c false
  let v := s.convCode c true
  let u1 := { u with code1 := (i, v), code2 := u.code1 }
  let s := (s.f (GRD_CMEAS c) v).f (GRD_CMEAS_I c) i
  if !s.on (GRD_CCFG_ARM c) then s.setGu c { u1 with hist := [], fill := 0, cyc := 0, excess := false }
  else
    let fill := u.fill + s.guInc c u.code2
    let e := fill + u.hist.sum
    let full := decide (s.bucketLen c ≤ u.cyc + 1)
    let excess := decide (1000 * s.g (GRD_CELIM_ELIM c) < e)
    let isOn := s.guState c == guON
    let s := s.setGu c { u1 with
      hist := if full then (fill :: u.hist).take 16 else u.hist
      fill := if full then 0 else fill
      cyc := if full then 0 else u.cyc + 1
      excess := excess && isOn }
    let s := s.f (GRD_CENERGY_E c) (min (e / 1000) 0xFFFFFF)
    if excess && !u.excess && (isOn || u.tripE.isSome) then s.guardTrip c cuENERGY else s

/-- A CKAON edge of a channel: its integrator, then the record of a trip taken before the edge (R147). -/
def State.guardCycle (s : State) (c : Nat) : State :=
  if (s.gu c).tripE.isSome then (s.guardEdge c).closeTrip c else s.guardEdge c

/-- INTEGRATOR_TRIP (R679, R144): a CKAON edge of channel c, at which E may first exceed ELIM. -/
def execIntegratorTrip (c : Nat) (s : State) : Res := .next (s.guardCycle c)

/-- The CKAON edge of every channel. -/
def State.guardTick (s : State) : State := (List.range 32).foldl State.guardCycle s

/-! Commands (R150-R152, R159, R164). -/

/-- The channel waits for its re-closure, or had it in this CKAON cycle, in which OFF and SAFE outrank it (R152). -/
def State.reclosing (s : State) (c : Nat) : Bool :=
  s.guState c == guRETRYWAIT || (s.guState c == guON && (s.gu c).retryAon == some s.time.aon)

/-- Channel c turns off by the OFF command (R150, R152). -/
def State.guOff (s : State) (c : Nat) : State :=
  let again := s.reclosing c
  let s := s.setGu c { s.gu c with offReq := some s.time.aon }
  if again then s.setGuState c guTRIPPED
  else if s.guState c = guON then (s.setGu c { s.gu c with offAon := some s.time.aon }).setGuState c guOFF
  else s

/-- SAFE is applied to a channel (R152, R160). -/
def State.guSafe (s : State) (c : Nat) : State :=
  let again := s.reclosing c
  let s := s.setGu c { s.gu c with offReq := some s.time.aon }
  if again then s.setGuState c (if s.sys.pfailN then guOFF else guTRIPPED)
  else if s.guState c = guON then s.setGuState c guOFF
  else s

/-- SAFE policies are applied to every channel and trip pin that has one (R160). -/
def State.applySafe (s : State) : State :=
  let s := (List.range 32).foldl (fun s c => if s.on (GRD_CCFG_POLICY c) then s.guSafe c else s) s
  s.f GRD_TRIPSTS_LATCH (Nat.lor (s.g GRD_TRIPSTS_LATCH) (s.g GRD_TRIPCFG_POLICY))

/-- PFAIL_N falls or shed stage 5 is entered (R150, R160): a channel that waits for its re-closure is TRIPPED, then SAFE is applied. -/
def State.failOutputs (s : State) : State :=
  ((List.range 32).foldl (fun s c => if s.reclosing c then s.setGuState c guTRIPPED else s) s).applySafe

/-- A write of GRD_CxCTL (R150-R152): in the CKAON cycle of an OFF command or a SAFE policy, ON has no effect. -/
def State.guCtlWrite (s : State) (c : Nat) (v : Word) : State :=
  let tripNow := (s.gu c).tripAon == some s.time.aon
  if (wbit v 2 && (wbit v 0 || wbit v 1)) || (wbit v 1 && wbit v 0) then s.discard rGRD_CCTL c 0 RESERVED_NONZERO
  else if wbit v 1 then s.guOff c
  else if wbit v 2 then
    if s.guState c ≠ guTRIPPED ∨ s.g (GRD_CSTS_TOFFDONE c) = 0 ∨ tripNow = true then s.discard rGRD_CCTL c 0 NOT_IN_STATE
    else (s.f (GRD_CSTS_RETRIES c) 0).setGuState c guOFF
  else if wbit v 0 then
    if !s.on GRD_LOCK_LOCK || !s.on (GRD_CCFG_ARM c) || s.guState c != guOFF || tripNow || s.noTurnOn ||
        !s.on CLK_STS_XINOK || s.on (GRD_CSTS_SELFCHK c) then s.discard rGRD_CCTL c 0 ENERGY_REFUSED
    else if (s.gu c).offReq = some s.time.aon then s
    else (s.setGu c { s.gu c with onAon := some s.time.aon }).setGuState c guON
  else s

/-- CHANNEL_ON (R151): ON written to GRD_CxCTL. -/
def execChannelOn (c : Nat) (s : State) : Res := .next (s.barWrite rGRD_CCTL c 0 1 fun s => s.guCtlWrite c 1)

/-- CHANNEL_OFF (R150): OFF written to GRD_CxCTL. -/
def execChannelOff (c : Nat) (s : State) : Res := .next (s.barWrite rGRD_CCTL c 0 2 fun s => s.guCtlWrite c 2)

/-- REARM (R151): REARM written to GRD_CxCTL. -/
def execRearm (c : Nat) (s : State) : Res := .next (s.barWrite rGRD_CCTL c 0 4 fun s => s.guCtlWrite c 4)

/-- TOFF_EXPIRY (R150): TOFF has elapsed since the trip; a channel in RETRYWAIT turns on again. -/
def execToffExpiry (c : Nat) (s : State) : Res :=
  .next <|
    if s.g (GRD_CSTS_TOFFDONE c) = 0 ∧ (s.gu c).tripAt + 1000000 * s.g (GRD_CTOFF_TOFF c) ≤ s.elapsed then
      let s := s.f (GRD_CSTS_TOFFDONE c) 1
      if s.guState c = guRETRYWAIT ∧ s.noTurnOn = false then
        (s.setGuState c guON).setGu c { (s.setGuState c guON).gu c with retryAon := some s.time.aon }
      else s
    else s

/-- RETRIES_RESET (R150): 60 s in ON without a trip. -/
def execRetriesReset (c : Nat) (s : State) : Res :=
  .next (if s.guState c = guON ∧ (s.gu c).onAt + 60000000000 ≤ s.elapsed then s.f (GRD_CSTS_RETRIES c) 0 else s)

/-- A channel selects a trip pin of a mask while TRIPPED or RETRYWAIT (R154). -/
def State.pinHeld (s : State) (mask : Nat) : Bool :=
  (List.range 32).any fun c =>
    (s.guState c == guTRIPPED || s.guState c == guRETRYWAIT) && Nat.land (s.g (GRD_CCFG_TRIPMAP c)) mask != 0

/-- A write of GRD_TRIPCLR (R154). -/
def State.tripClr (s : State) (v : Word) : State :=
  if s.pinHeld (wbits v 7 0) then s.discard rGRD_TRIPCLR 0 0 NOT_IN_STATE
  else s.f GRD_TRIPSTS_LATCH (Nat.land (s.g GRD_TRIPSTS_LATCH) (Nat.xor (wbits v 7 0) 0xFF))

/-- TRIP_CLEAR (R154). -/
def execTripClear (v : Word) (s : State) : Res := .next (s.barWrite rGRD_TRIPCLR 0 0 v fun s => s.tripClr v)

/-- A write of GRD_LOCK (R156, R557). -/
def State.lockWrite (s : State) (v : Word) : State :=
  let s := s.store rGRD_LOCK 0 0 v
  (if s.on GRD_LOCK_LOCK then s.lockChannels else s).showGsts

/-- GUARD_LOCK (R156): 1 written to GRD_LOCK.LOCK. -/
def execGuardLock (s : State) : Res := .next (s.barWrite rGRD_LOCK 0 0 1 fun s => s.lockWrite 1)

/-- GUARD_COUNTER_CLR (R147): a write of GRD_CxCLR. -/
def execGuardCounterClr (c : Nat) (v : Word) (s : State) : Res :=
  .next (s.barWrite rGRD_CCLR c 0 v fun s => s.clrWrite [GRD_CTRIPCNT c, GRD_CSTS_CAUSE c] v)

/-! Configuration (R156, R158, R177). -/

/-- The guard's monitors mirror a channel's thresholds and hysteresis, and compare anew. -/
def State.mirror (s : State) (c : Nat) : State :=
  let mi := guardMon c false
  let mv := guardMon c true
  let s := (s.f (WIN_MTHR_HI mi) (s.g (GRD_CILIM_IHI c))).f (WIN_MTHR_LO mi) (s.g (GRD_CILIM_ILO c))
  let s := (s.f (WIN_MTHR_HI mv) (s.g (GRD_CVLIM_VHI c))).f (WIN_MTHR_LO mv) (s.g (GRD_CVLIM_VLO c))
  let s := (s.f (WIN_MCFG_HYST mi) (s.g (GRD_CCFG_IHYST c))).f (WIN_MCFG_HYST mv) (s.g (GRD_CCFG_VHYST c))
  (s.compare mi).compare mv

/-- The integrator of a channel starts anew, its history empty (R144). -/
def State.emptyHist (s : State) (c : Nat) : State :=
  (s.setGu c { s.gu c with hist := [], fill := 0, cyc := 0, excess := false }).f (GRD_CENERGY_E c) 0

/-- A write of GRD_CxCFG (R158). -/
def State.grdCfgWrite (s : State) (c : Nat) (v : Word) : State :=
  if wbit v 0 && (s.g (GRD_CIFS_IFS c) == 0 || s.g (GRD_CVFS_VFS c) == 0 || s.g (GRD_CELIM_ELIM c) == 0 ||
      s.g (GRD_CEWIN_EWIN c) == 0) then s.discard rGRD_CCFG c 0 OUT_OF_RANGE
  else
    let was := s.on (GRD_CCFG_ARM c)
    let s := s.store rGRD_CCFG c 0 v
    let s := if s.on (GRD_CCFG_ARM c) != was then s.emptyHist c else s
    s.mirror c

/-- A write of GRD_CxILIM (R158). -/
def State.grdIlimWrite (s : State) (c : Nat) (v : Word) : State :=
  if wbits v 25 16 ≤ wbits v 9 0 then s.discard rGRD_CILIM c 0 OUT_OF_RANGE else (s.store rGRD_CILIM c 0 v).mirror c

/-- A write of GRD_CxVLIM (R158). -/
def State.grdVlimWrite (s : State) (c : Nat) (v : Word) : State :=
  if wbits v 25 16 ≤ wbits v 9 0 then s.discard rGRD_CVLIM c 0 OUT_OF_RANGE else (s.store rGRD_CVLIM c 0 v).mirror c

/-- A write of GRD_CxEWIN (R144). -/
def State.grdEwinWrite (s : State) (c : Nat) (v : Word) : State := (s.store rGRD_CEWIN c 0 v).emptyHist c

/-- A write of GRD_CxBUDGET (R155, R158). -/
def State.grdBudgetWrite (s : State) (c : Nat) (v : Word) : State :=
  if 16 ≤ c ∧ v ≠ 0 then s.discard rGRD_CBUDGET c 0 OUT_OF_RANGE else s.store rGRD_CBUDGET c 0 v

/-- A write of WIN_MxTHR (R178). -/
def State.winThrWrite (s : State) (m : Nat) (v : Word) : State :=
  if wbits v 25 16 ≤ wbits v 9 0 then s.discard rWIN_MTHR m 0 OUT_OF_RANGE else (s.store rWIN_MTHR m 0 v).compare m

/-- A write of WIN_MxCFG (R185, R190). -/
def State.winCfgWrite (s : State) (m : Nat) (v : Word) : State :=
  if 96 ≤ m ∧ wbit v 14 = true then s.discard rWIN_MCFG m 0 OUT_OF_RANGE
  else
    let was := s.on (WIN_MCFG_SPDEN m)
    let s := s.store rWIN_MCFG m 0 v
    let s := if wbit v 14 && !was then s.setEdges m [] else s
    s.compare m

/-- A write of WIN_MxSPD (R185). -/
def State.winSpdWrite (s : State) (m : Nat) (v : Word) : State := (s.store rWIN_MSPD m 0 v).setEdges m []

/-! Self-check (R183, R159). -/

/-- A write of WIN_SCCTL. -/
def State.scWrite (s : State) (v : Word) : State :=
  let m := wbits v 6 0
  let k := wbits v 9 8
  if !wbit v 15 then s
  else if s.on WIN_SCSTS_BUSY then s.discard rWIN_SCCTL 0 0 BUSY
  else if 100 ≤ m ∨ (k = 0 ∧ 32 ≤ m) ∨ (k = 1 ∧ 991 < s.g (WIN_MTHR_HI m)) ∨ (k = 2 ∧ s.g (WIN_MTHR_LO m) < 32) then
    s.discard rWIN_SCCTL 0 0 OUT_OF_RANGE
  else
    let go : State :=
      let s := ((s.f WIN_SCSTS_KIND k).f WIN_SCSTS_MON m).f WIN_SCSTS_BUSY 1
      (s.f WIN_SCSTS_DONE 0).f WIN_SCSTS_PASS 0
    match monGuard m with
    | some (c, _) => if s.guActive c then s.discard rWIN_SCCTL 0 0 NOT_IN_STATE else go.f (GRD_CSTS_SELFCHK c) 1
    | none => go

/-- SELF_CHECK_GO (R183): a write of WIN_SCCTL. -/
def execSelfCheckGo (v : Word) (s : State) : Res := .next (s.barWrite rWIN_SCCTL 0 0 v fun s => s.scWrite v)

/-- The check passes for the comparators read: HI and LO, and for SWAP HI and LO swapped (R183). -/
def scPass (kind : Nat) (hi lo hs ls : Bool) : Bool :=
  match kind with
  | 0 => hs == lo && ls == hi
  | 1 => hi && !lo
  | _ => lo && !hi

/-- SELF_CHECK_DONE (R183, R185): the check ends with the comparators read. -/
def execSelfCheckDone (hi lo hs ls : Bool) (s : State) : Res :=
  .next <|
    if s.on WIN_SCSTS_BUSY then
      let m := s.g WIN_SCSTS_MON
      let s := (s.f WIN_SCSTS_BUSY 0).f WIN_SCSTS_DONE 1
      let s := s.f WIN_SCSTS_PASS (b2n (scPass (s.g WIN_SCSTS_KIND) hi lo hs ls))
      let s := match monGuard m with
        | some (c, _) => s.f (GRD_CSTS_SELFCHK c) 0
        | none => s
      (s.setEdges m []).compare m
    else s

/-! Wheel speed (R184, R185). -/

/-- WHEEL_STANDSTILL (R185): STILL milliseconds without an edge. -/
def execWheelStandstill (m : Nat) (s : State) : Res :=
  .next (if s.grd.edgeAt.get (fun _ => 0) m + 1000000 * s.g (WIN_MSPD_STILL m) ≤ s.elapsed then s.setEdges m [] else s)

/-- The raw value of a wheel-speed reading at an instant (R184): PSUM, NUSED, AGE. -/
def State.wheelRaw (s : State) (m t : Nat) : List Nat :=
  let h := s.edgeHist m
  let n := if h.length < 2 then 0 else min (s.g (WIN_MSPD_NAVG m)) (h.length - 1)
  let psum := if n = 0 then 0 else min (h.getD 0 0 - h.getD n 0) 0xFFFFFFFF
  let age := match h with
    | [] => 65535
    | a :: _ => min ((t - a) / 1000) 65535
  toLe 4 psum ++ toLe 2 n ++ toLe 2 age

end Sys2Proof.Machine
end

