-- ==== Sys2Proof/Machine/Mash.lean ====
section
/-! DEFINITION. The mash array: stages and their arithmetic, freezing, cross-fades, decimator sync, gaps and restarts, engines and
the pool, channel and coefficient-set commits (spec/10_mash_array.md). -/
namespace Sys2Proof.Machine

/-! Stage words (R341) and coefficient sets (R316). -/

abbrev mkNONE : Nat := 0
abbrev mkDCB : Nat := 1
abbrev mkMA : Nat := 2
abbrev mkDEC : Nat := 3
abbrev mkFIR : Nat := 4

/-- KIND of a stage word. -/
def stgKind (w : Word) : Nat := wbits w 31 28

/-- SHIFT of a stage word. -/
def stgShift (w : Word) : Nat := wbits w 27 22

/-- PARAM of a stage word. -/
def stgParam (w : Word) : Nat := wbits w 16 0

/-- The decimation exponent a stage adds. -/
def stgDec (w : Word) : Nat := if stgKind w = mkDEC then stgParam w else 0

/-- NTAPS of a set. -/
def csTaps (b : List Nat) : Nat := leAt b 0 2

/-- DELAY of a set, in 1/256 input sample. -/
def csDelay (b : List Nat) : Nat := leAt b 4 2

/-- Coefficient i of a set. -/
def csC (b : List Nat) (i : Nat) : Int := signed 32 (leAt b (16 + 4 * i) 4)

/-- A coefficient set; empty when undefined. -/
def State.cset (s : State) (n : Nat) : List Nat := s.msh.sets.get (fun _ => []) n

/-! Fields of MSH_CHCFG (R340). -/

def ChS.en (c : ChS) : Bool := wbit c.cfg 31
def ChS.dlycor (c : ChS) : Bool := wbit c.cfg 30
def ChS.syncen (c : ChS) : Bool := wbit c.cfg 29
def ChS.syncstart (c : ChS) : Bool := wbit c.cfg 28
def ChS.cls (c : ChS) : Nat := wbits c.cfg 27 26
def ChS.holdmax (c : ChS) : Nat := wbits c.cfg 25 18
def ChS.frzev (c : ChS) : Bool := wbit c.cfg 17
def ChS.frzgrp (c : ChS) : Nat := wbits c.cfg 16 14
def ChS.loop (c : ChS) : Bool := wbits c.cfg 13 12 == 1
def ChS.len (c : ChS) : Nat := wbits c.cfg 10 8

/-- The words of the stages in use. -/
def ChS.chain (c : ChS) : List Word := c.stg.take c.len

/-! Stage arithmetic (R309-R314, R319). -/

/-- A FIR's exact value under a set, from its inputs newest first (R311). -/
def firOut (b : List Nat) (h : List Int) : Int := ((List.range (csTaps b)).map fun i => csC b i * h.getD i 0).sum

/-- Rounds, shifts and saturates an exact stage value (R309); answers whether it was clipped. -/
def roundSat (near : Bool) (sh : Nat) (a : Int) : Int × Bool :=
  let a := if near && decide (0 < sh) then a + (2 ^ (sh - 1) : Nat) else a
  let q := a / (2 ^ sh : Nat)
  if (2 ^ 31 - 1 : Nat) < q then ((2 ^ 31 - 1 : Nat), true) else if q < -(2 ^ 31 : Nat) then (-(2 ^ 31 : Nat), true) else (q, false)

/-- What one input position does at a stage: its new state; whether the position goes on; the exact value and its shift, when the
position has one; whether a fade ran. -/
structure StepR where
  g : StgS
  pass : Bool := true
  val : Option (Int × Nat) := none
  fade : Bool := false

/-- A DC block (R311, R312). -/
def dcbStep (w : Word) (frozen : Bool) (g : StgS) (x : Int) : StepR :=
  let k := stgParam w
  let b := g.base.getD (signed 56 (unsigned 56 (x * (2 ^ k : Nat))))
  let a := x - b / (2 ^ k : Nat)
  { g := { g with base := some (if frozen then b else signed 56 (unsigned 56 (b + a))) }, val := some (a, stgShift w) }

/-- A moving sum over L = PARAM + 1 inputs (R311). -/
def maStep (w : Word) (g : StgS) (x : Int) : StepR :=
  let n := unsigned 48 (g.integ + x)
  let l := stgParam w + 1
  { g := { g with integ := n, hist := ((n : Int) :: g.hist).take l }
    val := some (signed 48 (unsigned 48 ((n : Int) - g.hist.getD (l - 1) 0)), stgShift w) }

/-- A decimator at an input stamped t, with or without a value (R314, R328): a sync due realigns the grid, by the half-period
rule. -/
def decStep (w : Word) (t : Nat) (g : StgS) (x : Option Int) : StepR :=
  let f := 2 ^ stgParam w
  let due := g.syncs.any fun u => decide (u ≤ t)
  let far := match g.since with
    | none => true
    | some k => decide (f / 2 ≤ k + 1)
  let keep := if due then far else g.ph == 0
  { g := { g with
      ph := if due || keep then f - 1 else g.ph - 1
      since := if keep then some 0 else g.since.map fun k => k + 1
      lastT := some t
      syncs := g.syncs.filter fun u => decide (t < u) }
    pass := keep
    val := x.map fun x => (x, stgShift w) }

/-- A FIR, fading where a switch has begun (R311, R319). -/
def firStep (cset : Nat → List Nat) (w : Word) (t : Nat) (g : StgS) (x : Int) : StepR :=
  let h := x :: g.hist
  let (fade, sw) := match g.fade, g.sw with
    | none, some (b, xf, e) => if e ≤ t then (some (b, xf, 0), none) else (none, g.sw)
    | f, _ => (f, g.sw)
  let g := { g with hist := h.take 63, sw := sw }
  let ya := firOut (cset g.set) h
  match fade with
  | none => { g := { g with fade := none }, val := some (ya, stgShift w) }
  | some (b, xf, j) =>
    let n := 2 ^ xf
    let j := j + 1
    { g := if n ≤ j then { g with set := b, fade := none } else { g with fade := some (b, xf, j) }
      val := some (ya * ((n : Int) - j) + firOut (cset b) h * j, stgShift w + xf)
      fade := true }

/-- One input position at a stage (R311). A position without a value only moves a decimator's grid. -/
def stageStep (cset : Nat → List Nat) (frozen : Bool) (w : Word) (t : Nat) (g : StgS) (x : Option Int) : StepR :=
  if stgKind w = mkDEC then decStep w t g x
  else match x with
    | none => { g := g }
    | some v =>
      if stgKind w = mkDCB then dcbStep w frozen g v
      else if stgKind w = mkMA then maStep w g v
      else firStep cset w t g v

/-- What one input position does along a chain: new stage states; its output, none where a decimator dropped it; the first stage
that saturated; whether a fade ran. -/
structure ChainR where
  stgs : List StgS
  out : Option (Option Int)
  sat : Option Nat := none
  fade : Bool := false

/-- One input position along a chain (R309). -/
def chainStep (cset : Nat → List Nat) (frozen : Bool) (t : Nat) : Nat → List Word → List StgS → Option Int → ChainR
  | _, [], gs, x => { stgs := gs, out := some x }
  | k, w :: ws, gs, x =>
    let r := stageStep cset frozen w t (gs.headD {}) x
    if !r.pass then { stgs := r.g :: gs.drop 1, out := none, fade := r.fade }
    else
      let q := r.val.map fun v => roundSat (wbit w 21) v.2 v.1
      let c := chainStep cset frozen t (k + 1) ws (gs.drop 1) (q.map Prod.fst)
      { c with
        stgs := r.g :: c.stgs
        sat := if q.any Prod.snd then some k else c.sat
        fade := c.fade || r.fade }

/-! Figures of a chain (R322, R327, R332, R334). -/

/-- A stage's delay in input samples times 2^18, blended during a fade (R320, R322). -/
def stgDelay (cset : Nat → List Nat) (w : Word) (g : StgS) : Nat :=
  if stgKind w = mkMA then stgParam w * 2 ^ 17
  else if stgKind w = mkFIR then
    match g.fade with
    | none => csDelay (cset g.set) * 1024
    | some (b, xf, j) => csDelay (cset g.set) * 2 ^ (10 - xf) * (2 ^ xf - j) + csDelay (cset b) * 2 ^ (10 - xf) * j
  else 0

/-- Sums a figure of each stage, scaled by the decimation before it. -/
def sumStages (fig : Word → StgS → Nat) : Nat → List Word → List StgS → Nat
  | _, [], _ => 0
  | d, w :: ws, gs => fig w (gs.headD {}) * 2 ^ d + sumStages fig (d + stgDec w) ws (gs.drop 1)

/-- DLY in nanoseconds, ties upward (R322, R320). -/
def delayOf (cset : Nat → List Nat) (per : Nat) (ws : List Word) (gs : List StgS) : Nat :=
  (per * sumStages (stgDelay cset) 0 ws gs + 2 ^ 17) / 2 ^ 18

/-- FILL (R327). -/
def fillOf (cset : Nat → List Nat) (ws : List Word) (gs : List StgS) : Nat :=
  sumStages (fun w g =>
    if stgKind w = mkMA then stgParam w else if stgKind w = mkFIR then csTaps (cset g.set) - 1 else 0) 0 ws gs

/-- The cycles of the stages, times 2^20, per channel input (R332). -/
def loadStages : Nat → List Word → Nat
  | d, [] => 4 * 2 ^ (20 - d)
  | d, w :: ws =>
    let next := (ws.head?.map stgDec).getD 0
    let c := if stgKind w = mkMA then 2 * 2 ^ (20 - d) else if stgKind w = mkFIR then 128 * 2 ^ (20 - d - next) else 2 ^ (20 - d)
    c + loadStages (d + stgDec w) ws

/-- The load of a channel in cycles per second (R332). -/
def loadOf (per : Nat) (ws : List Word) : Nat := (1000000000 * loadStages 0 ws + per * 2 ^ 20 - 1) / (per * 2 ^ 20)

/-- Granules of history a chain needs (R334). -/
def gransOf (ws : List Word) : Nat :=
  ((ws.map fun w => if stgKind w = mkMA then stgParam w + 1 else if stgKind w = mkFIR then 64 else 0).sum + 63) / 64

/-- Fresh stages: each FIR on its set. -/
def freshStages (ws : List Word) : List StgS := ws.map fun w => { set := if stgKind w = mkFIR then stgParam w else 0 }

/-! Restart (R326). -/

/-- A stage restarts: sums, histories and baselines clear, a fade ends on its target, a waiting switch becomes immediate (R337);
a decimator's grid stays. -/
def StgS.restart (g : StgS) : StgS :=
  { g with
    base := none, integ := 0, hist := []
    set := (g.fade.map fun f => f.1).getD g.set
    fade := none
    sw := g.sw.map fun x => (x.1, 0, x.2.2) }

/-- A channel restarts (R326). -/
def ChS.restart (c : ChS) : ChS :=
  { c with
    stgs := c.stgs.map StgS.restart, frozen := false, pos := 0, held := none, run := 0, acc := 0, state := msFILL, quiet := false
    restarts := min (c.restarts + 1) (2 ^ 32 - 1) }

/-- DLY and FILL follow the sets in use. -/
def State.figures (s : State) (c : ChS) : ChS :=
  { c with dly := delayOf s.cset c.per.toNat c.chain c.stgs, fill := fillOf s.cset c.chain c.stgs }

/-- The MASH endpoint of a channel (R270). -/
def State.mashEp (s : State) (n : Nat) : Option Nat :=
  (s.ept.recs.cells.find? fun c => c.2.src == srcMASHCH && c.2.loc == n).map Prod.fst

/-- A missed sample of a channel's endpoint, when that is enabled. -/
def State.mashMiss (s : State) (n t : Nat) : State :=
  match s.mashEp n with
  | some e => if (s.ep e).en then s.missEp e t gapMISSED else s
  | none => s

/-- An interruption of a channel's endpoint (R327). -/
def State.mashGap (s : State) (n : Nat) : State :=
  match s.mashEp n with
  | some e => if (s.ep e).en then s.interrupt e else s
  | none => s

/-- A channel that runs restarts, as an interruption (R327, R338). -/
def State.mashInterrupt (s : State) (n : Nat) : State :=
  let c := s.ch n
  if c.state = msFILL ∨ c.state = msRUN ∨ (c.state = msSUSPENDED ∧ !c.wait) then (s.setCh n (s.figures c.restart)).mashGap n
  else s

/-! One input (R309, R323-R328, R337). -/

/-- The flags an input hands on (R323): RETRIED, CLIPPED, COMPLIANCE, DRIFT, WATCH, HOLDOVER, PARTIAL, BURST. -/
abbrev mashFlags : Nat := 0x6F6

/-- Freezes and thaws due at an input: the latest wins, and a freeze among equals (R312, R313). -/
def freezeDue (t : Nat) (cmds : List (Bool × Nat × Bool)) (frozen : Bool) : Bool :=
  let due := (cmds.filter fun x => x.2.2 || decide (x.2.1 ≤ t)).map fun x => (x.1, if x.2.1 = 0 then t else x.2.1)
  match due.foldl (fun (best : Option (Bool × Nat)) x =>
      match best with
      | none => some x
      | some b => if b.2 < x.2 ∨ (b.2 = x.2 ∧ x.1 = true) then some x else some b) none with
  | some b => b.1
  | none => frozen

/-- The corrected time-stamp of an output falls while the loop that feeds the channel is in compliance (R175). -/
def State.inCompliance (s : State) (n t : Nat) : Bool :=
  (List.range 16).any fun x =>
    ((s.on (AFE_LCFG_IMEN x) && s.g (AFE_LCFG_IMCH x) == n) || (s.on (AFE_LCFG_VMEN x) && s.g (AFE_LCFG_VMCH x) == n)) &&
      (s.comps x).any fun v => decide (v.1 ≤ t) && (match v.2 with | some e => decide (t < e) | none => true)

/-- A saturation (R324): the first since CLRSTS is recorded and announced. -/
def State.mashSat (s : State) (n : Nat) (sat : Option Nat) (t : Nat) : State :=
  match sat with
  | none => s
  | some k =>
    let c := s.ch n
    let s := s.setCh n { c with acc := flagSet c.acc fCLIPPED }
    if c.ovf.isSome then s
    else ((s.setCh n { s.ch n with ovf := some (k, t) }).event 293 t).raiseHub srcMASH

/-- An output position of a channel, its newest input at position `p` stamped t (R323, R327): delivered as the raw value of the
channel's endpoint, or suppressed by the fill. -/
def State.mashEmit (s : State) (n p t : Nat) (y : Option Int) (fade : Bool) : State :=
  let c := s.ch n
  let d := delayOf s.cset c.per.toNat c.chain c.stgs
  let cor := (t + 2 ^ 64 - d) % 2 ^ 64
  let ts := if c.dlycor then cor else t
  let clamp := fade && c.dlycor && (match c.lastOut with | some l => decide (ts ≤ l) | none => false)
  let ts := if clamp then c.lastOut.getD 0 + 1 else ts
  let s := if clamp then s.inc MSH_TSCLAMP else s
  let fl := flagIf (flagIf c.acc fCOMPLIANCE (c.loop && s.inCompliance n ((t + 2 ^ 64 - c.dly) % 2 ^ 64))) fDELAY_CORRECTED c.dlycor
  let s := s.setCh n { c with acc := 0, lastOut := some ts }
  let sup := y.isNone || (c.state == msFILL && decide (p < fillOf s.cset c.chain c.stgs))
  if sup then (if c.quiet then s else s.mashMiss n ts)
  else
    let s := s.setCh n { s.ch n with state := msRUN, delivered := true, quiet := false }
    match s.mashEp n with
    | some e =>
      s.enqueueRaw { ep := e, src := srcMASHCH, loc := n, bytes := toLe 4 (unsigned 32 (y.getD 0)), ct := ts, flags := fl }
    | none => s

/-- One input or marker of a channel that has started. -/
def State.mashStep (s : State) (m : MInS) : State :=
  let n := m.ch
  let c := s.ch n
  let sub := m.v.isNone && c.holdmax != 0 && c.held.isSome && decide (c.run < c.holdmax)
  let re := m.v.isNone && !sub
  let x := if sub then c.held else m.v
  let c := if re then c.restart else c
  let frozen := freezeDue m.ct c.cmds c.frozen
  let r := chainStep s.cset frozen m.ct 0 c.chain c.stgs x
  let p := c.pos
  let c : ChS := { c with
    stgs := r.stgs, frozen := frozen
    cmds := c.cmds.filter fun x => !x.2.2 && decide (m.ct < x.2.1)
    pos := if re then 0 else p + 1
    held := if m.v.isSome then m.v else c.held
    run := if m.v.isSome then 0 else c.run + 1
    subst := if sub then min (c.subst + 1) (2 ^ 32 - 1) else c.subst
    acc := if m.v.isSome then Nat.lor c.acc (Nat.land m.flags mashFlags) else c.acc
    lastIn := some (max m.ct (c.lastIn.getD 0)) }
  let c := if re || (r.fade && !(c.stgs.any fun g => g.fade.isSome)) then s.figures c else c
  let s := (s.setCh n c).mashSat n r.sat m.ct
  match r.out with
  | none => s
  | some y => s.mashEmit n p m.ct y r.fade

/-- One input or marker of a channel: discarded until a sync starts a waiting channel (R331). -/
def State.mashOne (s : State) (m : MInS) : State :=
  let c := s.ch m.ch
  if !c.takes then s
  else if c.state = msWAITSYNC then
    if c.syncs.any fun u => decide (u ≤ m.ct) then
      let later := c.syncs.filter fun u => decide (m.ct < u)
      (s.setCh m.ch { c with state := msFILL, syncs := [], stgs := c.stgs.map fun g => { g with syncs := later } }).mashStep m
    else s
  else s.mashStep m

/-! Engines (R332, R333) and loop bits (R170, R306). -/

/-- Markers owed enter the queue while it has room (R333). -/
def State.refill (s : State) (x : Nat) : State :=
  let g := s.eng x
  let k := 1024 - g.q.length
  s.setEng x { q := g.q ++ g.owed.take k, owed := g.owed.drop k }

/-- The channel that a modulator (route 2 x loop for the current, 2 x loop + 1 for the voltage) delivers bits to (R170, R171). -/
def State.routeCh (s : State) (l : Nat) : Option Nat :=
  let x := l / 2
  let en := if l % 2 = 0 then s.on (AFE_LCFG_IMEN x) else s.on (AFE_LCFG_VMEN x)
  if en ∧ s.g (AFE_LCFG_MODE x) ≠ 0 then some (if l % 2 = 0 then s.g (AFE_LCFG_IMCH x) else s.g (AFE_LCFG_VMCH x)) else none

/-- A modulator's bit joins its channel's queue. -/
def State.loopBit (s : State) (l : Nat) (bit : Bool) : State :=
  match s.routeCh l with
  | some n =>
    if (s.ch n).loop ∧ s.sys.vafe then
      s.mashPush { ch := n, v := some (if bit then 1 else -1), ct := s.ct, flags := s.nowFlags }
    else s
  | none => s

/-- An engine takes the head of its queue. -/
def State.engineRun (s : State) (x : Nat) : State :=
  match (s.eng x).q with
  | [] => s
  | m :: q => ((s.setEng x { s.eng x with q := q }).mashOne m).refill x

/-- MASH_INPUT (R309): an engine processes one input; with l below 32, modulator l first delivers a bit. -/
def execMashInput (x l : Nat) (bit : Bool) (s : State) : Res :=
  .next <|
    if !s.coreRuns then s
    else
      let s := if l < 32 then s.loopBit l bit else s
      s.engineRun x

/-- The queued inputs of a channel are discarded. -/
def State.mashPurge (s : State) (n : Nat) : State :=
  let x := (s.ch n).engine
  let g := s.eng x
  (s.setEng x { q := g.q.filter fun m => m.ch != n, owed := g.owed.filter fun m => m.ch != n }).refill x

/-! Sync (R328-R331). -/

/-- A sync at t reaches a channel. -/
def State.chSync (t : Nat) (s : State) (n : Nat) : State :=
  let c := s.ch n
  if c.state = msOFF ∨ ¬ c.syncen = true then s
  else if c.state = msWAITSYNC ∨ c.wait = true then s.setCh n { c with syncs := c.syncs ++ [t] }
  else
    let decs := c.chain.map fun w => stgKind w == mkDEC
    let past := fun (g : StgS) => match g.lastT with | some l => decide (t ≤ l) | none => false
    let late := (c.stgs.zip decs).any fun x => x.2 && past x.1
    let stgs := (c.stgs.zip decs).map fun x => if x.2 then { x.1 with syncs := x.1.syncs ++ [if past x.1 then 0 else t] } else x.1
    let s := s.setCh n { c with stgs := stgs, lateSync := c.lateSync || late }
    if late then s.inc MSH_SYNCLATE else s

/-- A decimator sync at t acts (R328, R329). -/
def State.mashSync (s : State) (t : Nat) : State :=
  let s := s.msh.chans.keys.foldl (State.chSync t) s
  (s.f64 MSH_SYNCLASTLO MSH_SYNCLASTHI t).event 294 t

/-- A sync at CT is armed, replacing any (R329, R330). -/
def State.mashArm (s : State) (t : Nat) : State :=
  let s : State := { s with msh := { s.msh with armed := some t } }
  let s := s.f MSH_SYNCSTS_ARMED 1
  if t < s.ct then s.f MSH_SYNCSTS_LATE 1 else s

/-- A write of MSH_SYNCCTL (R344). -/
def State.syncCtlWrite (s : State) (v : Word) : State :=
  let now := wbit v 0
  let arm := wbit v 1
  let dis := wbit v 2
  if (dis && (now || arm)) || (arm && now) then s.discard rMSH_SYNCCTL 0 0 RESERVED_NONZERO
  else if now then s.mashSync s.ct
  else if arm then s.mashArm s.msh.syncCt
  else if dis then ({ s with msh := { s.msh with armed := none } } : State).f MSH_SYNCSTS_ARMED 0
  else s

/-- A write of MSH_SYNCCTHI loads the value and does not arm it (R344). -/
def State.syncHiWrite (s : State) (v : Word) : State :=
  let s := s.store rMSH_SYNCCTHI 0 0 v
  { s with msh := { s.msh with syncCt := s.g64 MSH_SYNCCTLO MSH_SYNCCTHI } }

/-- SYNC_NOW (R329). -/
def execSyncNow (s : State) : Res := .next (s.barWrite rMSH_SYNCCTL 0 0 1 fun s => s.syncCtlWrite 1)

/-- SYNC_ARM (R329). -/
def execSyncArm (s : State) : Res := .next (s.barWrite rMSH_SYNCCTL 0 0 2 fun s => s.syncCtlWrite 2)

/-- SYNC_DISARM (R344). -/
def execSyncDisarm (s : State) : Res := .next (s.barWrite rMSH_SYNCCTL 0 0 4 fun s => s.syncCtlWrite 4)

/-- ARMED_SYNC (R328-R330): CT has reached the armed instant. -/
def execArmedSync (s : State) : Res :=
  .next <|
    match s.msh.armed with
    | some t =>
      if s.coreRuns ∧ t ≤ s.ct then
        (({ s with msh := { s.msh with armed := none } } : State).f MSH_SYNCSTS_ARMED 0).mashSync t
      else s
    | none => s

/-- A write of MSH_SYNCPER (R329): multiples up to now have passed. -/
def State.syncPerWrite (s : State) (v : Word) : State :=
  if v.toNat ≠ 0 ∧ v.toNat < 10000 then s.discard rMSH_SYNCPER 0 0 OUT_OF_RANGE
  else
    let s := s.store rMSH_SYNCPER 0 0 v
    { s with msh := { s.msh with lastPer := if v.toNat = 0 then none else some (s.ct / v.toNat * v.toNat) } }

/-- PERIODIC_SYNC (R329, R330): a multiple of PER has been reached, once for those a step has passed. -/
def execPeriodicSync (s : State) : Res :=
  .next <|
    let per := s.g MSH_SYNCPER_PER
    if per = 0 ∨ !s.coreRuns then s
    else
      let t := s.ct / per * per
      if s.msh.lastPer.getD 0 < t then ({ s with msh := { s.msh with lastPer := some t } } : State).mashSync t else s

/-- SYNC_EDGE_INPUT (R44-R46, R329): an edge at the SYNC input. -/
def execSyncEdgeInput (fall : Bool) (s : State) : Res :=
  .next <|
    let s := s.syncEdge fall
    if s.g TIM_SYNCCFG_MODE = 0 ∧ s.g TIM_SYNCCFG_EDGE = b2n fall ∧ s.on MSH_SYNCCFG_PINEN ∧ s.coreRuns then s.mashSync s.ct else s

/-! Commands (R312, R319, R336). -/

/-- FREEZE, THAW or SWITCH. -/
inductive MashCmd where
  | freeze
  | thaw
  | switch (set xf : Nat)
deriving DecidableEq, Repr

/-- The switch would let corrected time-stamps fall behind (R321). -/
def State.fadeTooShort (s : State) (c : ChS) (k set xf : Nat) : Bool :=
  let t := c.per.toNat * 2 ^ ((c.chain.take k).map stgDec).sum
  let g := c.stgs.getD k {}
  c.dlycor && decide (csDelay (s.cset g.set) * t + 2 ^ xf * t * 256 ≤ csDelay (s.cset set) * t)

/-- Checks 2-7 of R336. -/
def State.mashCheck (s : State) (n k : Nat) (cmd : MashCmd) : Option Nat :=
  let c := s.ch n
  if c.state = msOFF then some NOT_IN_STATE
  else if c.state = msSUSPENDED then some SHED
  else
    let kind := if k < c.len then stgKind (c.stg.getD k 0) else mkNONE
    match cmd with
    | .switch set xf =>
      let g := c.stgs.getD k {}
      if kind ≠ mkFIR ∨ 10 < xf then some OUT_OF_RANGE
      else if (s.cset set).isEmpty then some BAD_HANDLE
      else if g.fade.isSome ∨ g.sw.isSome then some BUSY
      else if s.fadeTooShort c k set xf then some OUT_OF_RANGE
      else none
    | _ => if kind ≠ mkDCB then some OUT_OF_RANGE else none

/-- A command with effective CT `at_`, 0 for the next input; late when an input at or after it has been processed (R312). -/
def State.mashDo (s : State) (n k at_ : Nat) (cmd : MashCmd) : State :=
  let c := s.ch n
  let late := at_ != 0 && (match c.lastIn with | some l => decide (at_ ≤ l) | none => false)
  let c := { c with lateCmd := c.lateCmd || late }
  match cmd with
  | .freeze => s.setCh n { c with cmds := c.cmds ++ [(true, at_, late)] }
  | .thaw => s.setCh n { c with cmds := c.cmds ++ [(false, at_, late)] }
  | .switch set xf => s.setCh n { c with stgs := modAt (fun g => { g with sw := some (set, xf, if late then 0 else at_) }) k c.stgs }

/-- The owner check of a mash command: the owner of the channel's endpoint. -/
def State.mashOwner (s : State) (j : JobS) : Option Nat :=
  match s.mashEp (dBody j.desc 0 2) with
  | some e => if s.owns j.id.tid e then none else some NOT_OWNER
  | none => some NOT_OWNER

/-- A mash descriptor (R336). -/
def State.mashJob (s : State) (opc : Nat) (cmd : List Nat → MashCmd) : State :=
  s.runJob opc (fun j => s.mashOwner j) fun s j =>
    let n := dBody j.desc 0 2
    let k := dBody j.desc 2 1
    match s.mashCheck n k (cmd j.desc) with
    | some code => s.finishWith j code
    | none => (s.mashDo n k (dBody j.desc 8 8) (cmd j.desc)).finishWith j OK

/-- MASH_FREEZE (R312). -/
def execMashFreeze (s : State) : Res := .next (s.mashJob 0x38 fun _ => .freeze)

/-- MASH_THAW (R312). -/
def execMashThaw (s : State) : Res := .next (s.mashJob 0x39 fun _ => .thaw)

/-- MASH_SWITCH (R319). -/
def execMashSwitch (s : State) : Res := .next (s.mashJob 0x3A fun d => .switch (dBody d 4 2) (dBody d 3 1))

/-- A write of MSH_CHCTL (R336, R343). -/
def State.chCtlWrite (s : State) (v : Word) : State :=
  let sw := wbit v 31
  let th := wbit v 30
  let fr := wbit v 29
  if (sw && (th || fr)) || (th && fr) then s.discard rMSH_CHCTL 0 0 RESERVED_NONZERO
  else if !(sw || th || fr) then s
  else
    let cmd : MashCmd := if sw then .switch (wbits v 21 13) (wbits v 25 22) else if th then .thaw else .freeze
    match s.mashCheck (wbits v 12 0) (wbits v 28 26) cmd with
    | some code => s.discard rMSH_CHCTL 0 0 code
    | none => s.mashDo (wbits v 12 0) (wbits v 28 26) 0 cmd

/-- CHCTL_FREEZE (R312). -/
def execChctlFreeze (c k : Nat) (s : State) : Res :=
  let v := Word.ofNat (2 ^ 29 + k % 8 * 2 ^ 26 + c % 8192)
  .next (s.barWrite rMSH_CHCTL 0 0 v fun s => s.chCtlWrite v)

/-- CHCTL_THAW (R312). -/
def execChctlThaw (c k : Nat) (s : State) : Res :=
  let v := Word.ofNat (2 ^ 30 + k % 8 * 2 ^ 26 + c % 8192)
  .next (s.barWrite rMSH_CHCTL 0 0 v fun s => s.chCtlWrite v)

/-- CHCTL_SWITCH (R319). -/
def execChctlSwitch (c k xf set : Nat) (s : State) : Res :=
  let v := Word.ofNat (2 ^ 31 + k % 8 * 2 ^ 26 + xf % 16 * 2 ^ 22 + set % 512 * 2 ^ 13 + c % 8192)
  .next (s.barWrite rMSH_CHCTL 0 0 v fun s => s.chCtlWrite v)

/-- A freeze or thaw event of a group at t (R312). -/
def State.mashGroup (s : State) (g t : Nat) (freeze : Bool) : State :=
  s.msh.chans.keys.foldl (fun s n =>
    let c := s.ch n
    match c.chain.findIdx? fun w => stgKind w == mkDCB with
    | some k =>
      if c.state ≠ msOFF ∧ c.frzev = true ∧ c.frzgrp = g then s.mashDo n k t (if freeze then .freeze else .thaw) else s
    | none => s) s

/-! The pool and the engines' loads (R332, R334). -/

/-- The runs of granules in use. -/
def State.poolRuns (s : State) : List (Nat × Nat) :=
  (s.msh.chans.cells.filter fun c => c.2.state != msOFF && c.2.grans != 0).map fun c => (c.2.gran, c.2.grans)

/-- Granules free from `a` on. -/
def freeFrom (runs : List (Nat × Nat)) (a : Nat) : Nat :=
  if runs.any fun r => decide (r.1 ≤ a) && decide (a < r.1 + r.2) then 0
  else ((runs.filter fun r => decide (a ≤ r.1)).foldl (fun n r => min n r.1) 16384) - a

/-- Starts at which a free run can begin. -/
def runStarts (runs : List (Nat × Nat)) : List Nat := 0 :: runs.map fun r => r.1 + r.2

/-- The lowest run of n granules that is free (R334). -/
def poolFit (runs : List (Nat × Nat)) (n : Nat) : Option Nat :=
  if n = 0 then some 0
  else
    (runStarts runs).foldl (fun best a =>
      if n ≤ freeFrom runs a then
        match best with
        | some b => some (min a b)
        | none => some a
      else best) none

/-- The charged load of an engine. -/
def State.engLoad (s : State) (x : Nat) : Nat :=
  ((s.msh.chans.cells.filter fun c => c.2.state != msOFF && c.2.engine == x).map fun c => c.2.load).sum

/-- The engine a load goes to: the least charged that can take it, the lowest of equals (R332). -/
def State.engineFor (s : State) (l : Nat) : Option Nat :=
  (List.range 4).foldl (fun best x =>
    if s.engLoad x + l ≤ 1140000000 then
      match best with
      | some b => if s.engLoad x < s.engLoad b then some x else some b
      | none => some x
    else best) none

/-- MSH_POOLSTS and MSH_ENGLOAD0-3 follow the channels. -/
def State.mashSts (s : State) : State :=
  let runs := s.poolRuns
  let s := s.f MSH_POOLSTS_FREE (16384 - (runs.map Prod.snd).sum)
  let s := s.f MSH_POOLSTS_LONGEST ((runStarts runs).foldl (fun n a => max n (freeFrom runs a)) 0)
  (List.range 4).foldl (fun s x => s.f (MSH_ENGLOAD x) (s.engLoad x)) s

/-! Channel commits (R335, R343). -/

/-- The channel the staging registers describe. -/
def State.staged (s : State) : ChS :=
  { cfg := s.rd (rMSH_CHCFG.at 0 0), inp := s.rd (rMSH_CHIN.at 0 0), per := s.rd (rMSH_CHPER.at 0 0)
    stg := (List.range 6).map fun k => s.rd (MSH_CHSTG_KIND k).off }

/-- The first check of R335 that a commit of channel n fails, from the second on: code and reason. -/
def State.commitFails (s : State) (n : Nat) (c : ChS) : Option (Nat × Nat) :=
  let ws := c.chain
  let fresh := freshStages ws
  let r := s.ep c.inp.toNat
  if (ws.any fun w => stgKind w == mkNONE) || ((c.stg.drop c.len).any fun w => w != 0) ||
      decide (1 < (ws.filter fun w => stgKind w == mkDCB).length) || decide (20 < (ws.map stgDec).sum) then some (OUT_OF_RANGE, 3)
  else if (ws.any fun w => decide (47 < stgShift w)) ||
      (if c.loop then c.per != 160 || c.inp != 0 else decide (c.per.toNat < 160) || decide (1000000000 < c.per.toNat)) ||
      (c.dlycor && decide (2 ^ 32 ≤ delayOf s.cset c.per.toNat ws fresh)) then some (OUT_OF_RANGE, 4)
  else if ws.any fun w => stgKind w == mkFIR && (s.cset (stgParam w)).isEmpty then some (BAD_HANDLE, 5)
  else if !c.loop && r.src == srcFREE then some (BAD_HANDLE, 6)
  else if !c.loop && r.src == srcMASHCH && decide (n ≤ r.loc) then some (OUT_OF_RANGE, 7)
  else if (poolFit s.poolRuns (gransOf ws)).isNone then some (OUT_OF_RANGE, 8)
  else if (s.engineFor (loadOf c.per.toNat ws)).isNone then some (OUT_OF_RANGE, 9)
  else none

/-- A refused commit. -/
def State.commitRefuse (s : State) (code reason : Nat) : State := (s.f MSH_CMTRSN reason).discard rMSH_CHIDX 0 0 code


/-- A channel starts (R335): stages clear, WAITSYNC or FILL; an earlier delivery makes it an interruption (R327). -/
def State.chStart (s : State) (n : Nat) (c : ChS) : State :=
  let o := s.ch n
  let ws := c.chain
  let l := loadOf c.per.toNat ws
  let c : ChS := s.figures { o with
    cfg := c.cfg, inp := c.inp, per := c.per, stg := c.stg
    state := if c.syncstart then msWAITSYNC else msFILL
    stgs := freshStages ws, frozen := false, cmds := [], pos := 0, held := none, run := 0, acc := 0, lastIn := none
    lastOut := none, engine := (s.engineFor l).getD 0, load := l
    gran := (poolFit s.poolRuns (gransOf ws)).getD 0, grans := gransOf ws
    quiet := !o.delivered, syncs := [], wait := false }
  let s := s.setCh n c
  let s := if o.delivered then s.mashGap n else s
  if s.clsStopped c.cls then s.setCh n { s.ch n with state := msSUSPENDED, wait := c.state == msWAITSYNC } else s

/-- A commit of the staging registers to channel n (R335). -/
def State.chCommit (s : State) (n : Nat) : State :=
  let c := s.staged
  let o := s.ch n
  let only := !c.en && c.inp == o.inp && c.per == o.per && c.stg == o.stg && c.cfg == wput o.cfg 31 31 0
  if o.state ≠ msOFF then
    if only then (s.mashPurge n |>.setCh n { o with cfg := c.cfg, state := msOFF }).mashSts else s.commitRefuse NOT_IN_STATE 2
  else match s.commitFails n c with
    | some (code, reason) => s.commitRefuse code reason
    | none =>
      if c.en then (s.chStart n c).mashSts
      else s.setCh n { o with cfg := c.cfg, inp := c.inp, per := c.per, stg := c.stg }

/-- The staging and status registers are loaded from channel n (R335, R342). -/
def State.chRead (s : State) (n : Nat) : State :=
  let c := s.ch n
  let s := ((s.wr (rMSH_CHCFG.at 0 0) c.cfg).wr (rMSH_CHIN.at 0 0) c.inp).wr (rMSH_CHPER.at 0 0) c.per
  let s := (List.range 6).foldl (fun s k => s.wr (MSH_CHSTG_KIND k).off (c.stg.getD k 0)) s
  let s := (s.f MSH_CHSTS_OVFSTAGE ((c.ovf.map Prod.fst).getD 0)).f MSH_CHSTS_OVF (b2n c.ovf.isSome)
  let s := (s.f MSH_CHSTS_FADE (b2n (c.stgs.any fun g => g.fade.isSome))).f MSH_CHSTS_FROZEN (b2n c.frozen)
  let s := (s.f MSH_CHSTS_LATESYNC (b2n c.lateSync)).f MSH_CHSTS_LATECMD (b2n c.lateCmd)
  let s := (s.f MSH_CHSTS_ENGINE c.engine).f MSH_CHSTS_STATE c.state
  let s := s.f64 MSH_CHOVFCTLO MSH_CHOVFCTHI ((c.ovf.map Prod.snd).getD 0)
  let s := ((s.f MSH_CHDLY c.dly).f MSH_CHFILL c.fill).f MSH_CHLOAD c.load
  (s.f MSH_CHSUBST c.subst).f MSH_CHRESTART c.restarts

/-- CLRSTS of channel n (R343). -/
def State.chClrSts (s : State) (n : Nat) : State :=
  s.setCh n { s.ch n with ovf := none, lateSync := false, lateCmd := false, subst := 0, restarts := 0 }

/-- A write of MSH_CHIDX (R343). -/
def State.chIdxWrite (s : State) (v : Word) : State :=
  let wr := wbit v 31
  let rd := wbit v 30
  let cl := wbit v 29
  let n := wbits v 12 0
  if (wr && (rd || cl)) || (rd && cl) then s.discard rMSH_CHIDX 0 0 RESERVED_NONZERO
  else if wr then s.chCommit n
  else if rd then s.chRead n
  else if cl then s.chClrSts n
  else s

/-- CHANNEL_COMMIT (R335). -/
def execChannelCommit (c : Nat) (s : State) : Res :=
  let v := Word.ofNat (2 ^ 31 + c % 8192)
  .next (s.barWrite rMSH_CHIDX 0 0 v fun s => s.chIdxWrite v)

/-- CHANNEL_READ (R335). -/
def execChannelRead (c : Nat) (s : State) : Res :=
  let v := Word.ofNat (2 ^ 30 + c % 8192)
  .next (s.barWrite rMSH_CHIDX 0 0 v fun s => s.chIdxWrite v)

/-- CHANNEL_CLRSTS (R343). -/
def execChannelClrsts (c : Nat) (s : State) : Res :=
  let v := Word.ofNat (2 ^ 29 + c % 8192)
  .next (s.barWrite rMSH_CHIDX 0 0 v fun s => s.chIdxWrite v)

/-- PARAM fits its KIND (R341). -/
def paramOk (v : Word) : Bool :=
  let p := stgParam v
  match stgKind v with
  | 1 => decide (1 ≤ p) && decide (p ≤ 24)
  | 2 => decide (p < 65536)
  | 3 => decide (1 ≤ p) && decide (p ≤ 10)
  | 4 => decide (p < 512)
  | _ => p == 0

/-- A write of MSH_CHSTGk (R341). -/
def State.chStgWrite (s : State) (k : Nat) (v : Word) : State :=
  if paramOk v then s.store rMSH_CHSTG k 0 v else s.discard rMSH_CHSTG k 0 RESERVED_NONZERO

/-! Coefficient sets (R316, R317, R343). -/

/-- The bytes of the staged set. -/
def State.stagedSet (s : State) : List Nat := ((List.range 68).map fun k => toLe 4 (s.rd (rMSH_CSD.at k 0)).toNat).flatten

/-- An enabled channel uses a set: current, or the target of a switch that runs or waits (R317). -/
def State.setInUse (s : State) (n : Nat) : Bool :=
  s.msh.chans.cells.any fun c =>
    c.2.state != msOFF && (c.2.chain.zip c.2.stgs).any fun x =>
      stgKind x.1 == mkFIR && (x.2.set == n || x.2.fade.any (fun f => f.1 == n) || x.2.sw.any fun f => f.1 == n)

/-- The first check of R317 that a staged set fails, but for BUSY. -/
def setFails (b : List Nat) : Option Nat :=
  let kind := leAt b 2 1
  let n := csTaps b
  if leAt b 3 1 ≠ 0 ∨ leAt b 6 10 ≠ 0 ∨ kind = 0 ∨ 2 < kind then some RESERVED_NONZERO
  else if n = 0 ∨ 64 < n ∨
      ((List.range 64).any fun i => decide (csC b i < -131072) || decide (131071 < csC b i) || (decide (n ≤ i) && csC b i != 0)) = true then
    some OUT_OF_RANGE
  else if kind = 1 then
    if (List.range n).any (fun i => csC b i != csC b (n - 1 - i)) ∨ csDelay b ≠ (n - 1) * 128 then some TABLE_INVALID else none
  else if (n - 1) * 256 < csDelay b then some TABLE_INVALID
  else none

/-- Sets or undefines a coefficient set. -/
def State.putSet (s : State) (n : Nat) (b : List Nat) : State :=
  { s with msh := { s.msh with sets := s.msh.sets.set (fun _ => []) n b } }

/-- A write of MSH_CSIDX (R317, R343). -/
def State.csIdxWrite (s : State) (v : Word) : State :=
  let wr := wbit v 31
  let rd := wbit v 30
  let rel := wbit v 29
  let n := wbits v 8 0
  if (wr && (rd || rel)) || (rd && rel) then s.discard rMSH_CSIDX 0 0 RESERVED_NONZERO
  else if wr then
    match setFails s.stagedSet with
    | some code => s.discard rMSH_CSIDX 0 0 code
    | none => if s.setInUse n then s.discard rMSH_CSIDX 0 0 BUSY else s.putSet n s.stagedSet
  else if rd then
    let b := s.cset n
    let s := (List.range 68).foldl (fun s k => s.wr (rMSH_CSD.at k 0) (Word.ofNat (leAt b (4 * k) 4))) s
    (s.f MSH_CSSTS_DEFINED (b2n (!b.isEmpty))).f MSH_CSSTS_INUSE (b2n (s.setInUse n))
  else if rel then (if s.setInUse n then s.discard rMSH_CSIDX 0 0 BUSY else s.putSet n [])
  else s

/-- SET_COMMIT (R317). -/
def execSetCommit (n : Nat) (s : State) : Res :=
  let v := Word.ofNat (2 ^ 31 + n % 512)
  .next (s.barWrite rMSH_CSIDX 0 0 v fun s => s.csIdxWrite v)

/-- SET_READ (R317). -/
def execSetRead (n : Nat) (s : State) : Res :=
  let v := Word.ofNat (2 ^ 30 + n % 512)
  .next (s.barWrite rMSH_CSIDX 0 0 v fun s => s.csIdxWrite v)

/-- SET_RELEASE (R317). -/
def execSetRelease (n : Nat) (s : State) : Res :=
  let v := Word.ofNat (2 ^ 29 + n % 512)
  .next (s.barWrite rMSH_CSIDX 0 0 v fun s => s.csIdxWrite v)

/-- MASH_COUNTER_CLR (R343): MSH_CLR. -/
def execMashCounterClr (v : Word) (s : State) : Res :=
  .next (s.barWrite rMSH_CLR 0 0 v fun s => s.clrWrite [MSH_ENGOVER, MSH_TSCLAMP, MSH_SYNCLATE] v)

/-! Shedding and power states (R338). -/

/-- Channels are suspended or resume as the stage and the power state say. -/
def State.mashStage (s : State) : State :=
  s.msh.chans.keys.foldl (fun s n =>
    let c := s.ch n
    if c.state = msOFF then s
    else if s.clsStopped c.cls then
      if c.state = msSUSPENDED then s
      else (s.mashPurge n).setCh n { c with state := msSUSPENDED, wait := c.state == msWAITSYNC }
    else if c.state = msSUSPENDED then
      if c.wait then s.setCh n { c with state := msWAITSYNC, wait := false } else s.mashInterrupt n
    else s) s

end Sys2Proof.Machine
end

