-- ==== Sys2Proof/Machine/Afe.lean ====
section
/-! DEFINITION. The analogue front end: loop modes and routes, set points, compliance, and the loss of its supply
(spec/06_analogue_front_end_and_windows.md R166-R176, R186-R189; spec/25_electrical_characteristics.md R662). -/
namespace Sys2Proof.Machine

/-- The channels that modulators deliver bits to now, by modulator. -/
def State.liveRoutes (s : State) : List (Nat × Nat) :=
  ((List.range 32).map fun l =>
    match s.routeCh l with
    | some n => if s.sys.vafe then [(l, n)] else []
    | none => []).flatten

/-- Modulators that delivered before and do not now have stopped: each channel they fed is interrupted (R327). -/
def State.routesStopped (s : State) (before : List (Nat × Nat)) : State :=
  let now := s.liveRoutes
  before.foldl (fun s r => if now.contains r ∨ !(s.ch r.2).loop then s else s.mashInterrupt r.2) s

/-- The mash channels that the enabled routes of AFE_LxCFG word `v` name. -/
def routesOf (v : Word) : List Nat := (if wbit v 17 then [wbits v 16 4] else []) ++ if wbit v 31 then [wbits v 30 18] else []

/-- A write of AFE_LxCFG (R169, R171). -/
def State.loopCfgWrite (s : State) (x : Nat) (v : Word) : State :=
  let off := rAFE_LCFG.at x 0
  let mode := wbits v 2 0
  let change := mode != s.g (AFE_LCFG_MODE x)
  let mine := routesOf v
  let others := (((List.range 16).filter fun y => y != x).map fun y => routesOf (s.rd (rAFE_LCFG.at y 0))).flatten
  if change && s.guActive (16 + x) then s.err AFE_ERRSTS off NOT_IN_STATE
  else if (mine.length == 2 && mine.getD 0 0 == mine.getD 1 0) || mine.any others.contains || (mode == 0 && !mine.isEmpty) then
    s.err AFE_ERRSTS off OUT_OF_RANGE
  else
    let before := s.liveRoutes
    let s := s.wr off v
    let s := if change then s.f (AFE_LSET_SET x) 0 else s
    (s.driveFollow x).routesStopped before

/-- LOOP_MODE_WRITE (R169). -/
def execLoopModeWrite (x : Nat) (v : Word) (s : State) : Res :=
  .next (s.barWrite rAFE_LCFG x 0 v fun s => s.loopCfgWrite x v)

/-- The endpoint whose owner a loop belongs to: the MASH endpoint of its current route's channel (R421 LOOP_SET). -/
def State.loopEp (s : State) (x : Nat) : Option Nat := s.mashEp (s.g (AFE_LCFG_IMCH x))

/-- Checks 2-5 of R172. -/
def State.loopSetCheck (s : State) (x ua : Nat) : Option Nat :=
  let mode := s.g (AFE_LCFG_MODE x)
  let rl := s.g (AFE_LCOMP_RLOAD x)
  if mode ≠ 2 ∧ mode ≠ 3 then some NOT_IN_STATE
  else if (if mode = 2 then decide (24000 < ua) else decide (ua < 100) || decide (2000 < ua)) then some OUT_OF_RANGE
  else if rl ≠ 0 ∧ 1000 * s.g (AFE_LCOMP_VCOMP x) < ua * rl then some OUT_OF_RANGE
  else if s.g (GRD_CILIM_IHI (16 + x)) * s.g (GRD_CIFS_IFS (16 + x)) < ua * 1024 then some ENERGY_REFUSED
  else none

/-- An accepted set point is stored (R173); in compliance both 100 µs tests start anew against it (R176). -/
def State.loopStore (s : State) (x ua : Nat) : State :=
  let s := s.f (AFE_LSET_SET x) ua
  if s.drives x then (if s.on (AFE_LSTS_COMPLIANCE x) then s.setLoopAt x (0, 0) else s).loopJudge x else s

/-- LOOP_SET (R172, R173). -/
def execLoopSet (s : State) : Res :=
  .next <| s.runJob 0x30
    (fun j =>
      let x := dBody j.desc 0 1
      match s.loopEp x with
      | some e => if x < 16 ∧ s.owns j.id.tid e then none else some NOT_OWNER
      | none => some NOT_OWNER)
    fun s j =>
      let x := dBody j.desc 0 1
      let ua := dBody j.desc 4 4
      match s.loopSetCheck x ua with
      | some code => s.finishWith j code
      | none => (s.loopStore x ua).finishWith j OK

/-! Compliance (R174, R175). -/


/-- A loop record for the loop's owner (R438). -/
def State.loopRecord (s : State) (x code ua : Nat) : State :=
  match s.loopEp x with
  | some e =>
    let t := s.ownerTid e
    s.record t { s.mkEv evLOOP code s.ct x ua (s.g (AFE_LSET_SET x)) 0 with dep := s.caskOf (s.ctx t).uid [e] }
  | none => s.record 0 (s.mkEv evLOOP code s.ct x ua (s.g (AFE_LSET_SET x)) 0)

/-- The current of a driven loop has stood in a region for 100 µs (R174). -/
def State.loopHeld (s : State) (x r : Nat) : Bool :=
  s.drives x && (s.loopAt x).1 == r && decide ((s.loopAt x).2 + 100000 ≤ s.elapsed)

/-- COMPLIANCE_ENTRY (R174, R175): the drive has been at its limit and the current below tolerance for 100 µs. -/
def execComplianceEntry (x : Nat) (s : State) : Res :=
  .next <|
    if !s.loopHeld x 1 ∨ s.on (AFE_LSTS_COMPLIANCE x) then s
    else
      let s := (s.f (AFE_LSTS_COMPLIANCE x) 1).f (WIN_MSTS_COMPLIANCE (64 + x)) 1
      let s := (s.f (WIN_MSTS_COMPUP (64 + x)) 1).setComps x ((s.ct, none) :: s.comps x)
      ((s.event (100 + x) s.ct).inc (AFE_LCOMPCNT x)).loopRecord x 1 (s.loopUa x)

/-- COMPLIANCE_EXIT (R174, R175): the current has stayed within tolerance for 100 µs. -/
def execComplianceExit (x : Nat) (s : State) : Res :=
  .next <|
    if !s.loopHeld x 2 ∨ !s.on (AFE_LSTS_COMPLIANCE x) then s
    else
      let s := (s.compEnd x).f (WIN_MSTS_COMPDN (64 + x)) 1
      (s.event (100 + x) s.ct).loopRecord x 2 (s.loopUa x)

/-- LOOP_COUNTER_CLR (R175): AFE_LxCLR. -/
def execLoopCounterClr (x : Nat) (v : Word) (s : State) : Res :=
  .next (s.barWrite rAFE_LCLR x 0 v fun s => s.clrWrite [AFE_LCOMPCNT x] v)

/-! The analogue supply (R662). -/

/-- VAFE is or is not within its operating range: drives, loop voltage windows and modulators follow. -/
def State.setVafe (s : State) (ok : Bool) : State :=
  let before := s.liveRoutes
  let s : State := { s with sys := { s.sys with vafe := ok } }
  let s := (List.range 16).foldl State.driveFollow s
  let s := (List.range 16).foldl (fun s x => s.compare (80 + x)) s
  s.routesStopped before

/-- VAFE_LOSS (R662). -/
def execVafeLoss (s : State) : Res := .next (if s.sys.vafe then s.setVafe false else s)

/-- VAFE_RETURN (R662). -/
def execVafeReturn (s : State) : Res := .next (if s.sys.vafe then s else s.setVafe true)

end Sys2Proof.Machine
end

