-- ==== Sys2Proof/Machine/Link.lean ====
section
/-! DEFINITION. The bond port commands: training, lanes, flits, acknowledgement and sessions (spec/15_bond_links.md,
spec/16_roles_splits_and_recoupling.md R526). -/
namespace Sys2Proof.Machine

/-! Training (R473, R478, R502). -/

/-- The lanes the port's mode needs, all of the mask given. -/
def State.lanesOk (s : State) (p mask : Nat) : Bool :=
  if s.on (BND_PCFG_SINGLE p) then nbit mask 0 else decide (mask ≠ 0)

/-- A write of BND_PxCFG (R478, R490, R502). -/
def State.pcfgWrite (s : State) (p : Nat) (v : Word) : State :=
  let was := s.on (BND_PCFG_EN p)
  if was ∧ wbits v 4 1 ≠ wbits (s.rd (rBND_PCFG.at p 0)) 4 1 then s.discard rBND_PCFG p 0 NOT_IN_STATE
  else if wbit v 4 ∧ wbits v 2 1 = 1 then s.discard rBND_PCFG p 0 OUT_OF_RANGE
  else
    let s := s.store rBND_PCFG p 0 v
    if wbit v 0 ∧ ¬ was then s.portOn p
    else if ¬ wbit v 0 ∧ was then s.portOff p
    else s

/-- PORT_ENABLE (R478): a write of BND_PxCFG. -/
def execPortEnable (p : Nat) (v : Word) (s : State) : Res :=
  .next (s.barWrite rBND_PCFG p 0 v fun s => s.pcfgWrite p v)

/-- The limit of a training step in nanoseconds (R478); step 1 has none. -/
def stepLimit (n : Nat) : Option Nat :=
  match n with
  | 2 => some 1000000
  | 3 => some 100000
  | 4 => some 100000
  | 5 => some 500000
  | _ => none

/-- A port moves to a training step. -/
def State.toStep (s : State) (p n : Nat) : State := s.setPort p { s.port p with step := n, stepAt := s.elapsed }

/-- The end of step 4: which lanes carry flits (R475, R478), then session control. -/
def State.lanesUp (s : State) (p : Nat) : State :=
  let m := s.g (BND_PSTS_TRAINED p)
  let s :=
    if s.g (BND_PCFG_MODE p) = 1 then
      let w := s.g (BND_PCFG_WORKLANE p)
      let w := if nbit m w then w else 1 - w
      (s.setPort p { s.port p with work := w }).f (BND_PSTS_CARRY p) (2 ^ w)
    else if s.on (BND_PCFG_SINGLE p) then ((s.f (BND_PSTS_CARRY p) 1).f (BND_PSTS_DEGRADED p) 1)
    else if 1 ≤ s.stage then
      ((s.f (BND_PSTS_CARRY p) (if nbit m 0 then 1 else 2)).f (BND_PSTS_SHEDONE p) 1).f (BND_PSTS_DEGRADED p) (b2n (m != 3))
    else (s.f (BND_PSTS_CARRY p) m).f (BND_PSTS_DEGRADED p) (b2n (m != 3))
  let s := s.toStep p 5
  if s.g (BND_PSTS_STATE p) = bsHOLD then s.sendHello p else s.startHello p

/-- TRAINING_STEP_DONE (R478): steps 1-4 end on the lanes of `mask`; step 1 and step 2 note the lanes. -/
def execTrainingStepDone (p mask : Nat) (s : State) : Res :=
  .next <|
    let n := (s.port p).step
    let mask := if s.on (BND_PCFG_SINGLE p) then mask % 2 else mask % 4
    if ¬ s.on (BND_PCFG_EN p) ∨ ¬ s.lanesOk p mask then s
    else if n = 1 then (if s.g (BND_PCFG_MODE p) = 0 ∧ ¬ s.on (BND_PCFG_SINGLE p) ∧ mask ≠ 3 then s else
      (s.f CLK_STS_LANELOCK (Nat.lor (s.g CLK_STS_LANELOCK) (mask * 4 ^ p))).toStep p 2)
    else if n = 2 then s.toStep p 3
    else if n = 3 then (s.f (BND_PSTS_TRAINED p) mask).toStep p 4
    else if n = 4 then s.lanesUp p
    else s

/-- TRAINING_TIMEOUT (R478): the step's limit has passed; training starts again and the restart is counted. -/
def execTrainingTimeout (p : Nat) (s : State) : Res :=
  .next <|
    match stepLimit (s.port p).step with
    | some l =>
      if (s.port p).stepAt + l < s.elapsed ∧ ¬ s.linkUp p then
        let s := if s.g (BND_PSTS_STATE p) = bsHELLO then s.f (BND_PSTS_STATE p) bsTRAINING else s
        (s.trainFrom1 p).inc (BND_PTRAINFAIL p)
      else s
    | none => s

/-! Lanes (R474, R475). -/

/-- The lane of a port that time exchanges use: the working lane of a PROTECTED port; otherwise lane 0 while it carries
flits, else the other (R475, R500). -/
def State.timeLane (s : State) (p : Nat) : Nat :=
  if s.g (BND_PCFG_MODE p) = 1 then (s.port p).work else if nbit (s.g (BND_PSTS_CARRY p)) 0 then 0 else 1

/-- When the lane of time exchanges has changed on the upstream port, the path-delay history goes (R475). -/
def State.delayReset (s : State) (p was : Nat) : State :=
  if s.isUpstream p ∧ s.timeLane p ≠ was then
    { s with srv := { s.srv with delays := [], t1 := none } }
  else s

/-- A BONDED port drops to the lanes of `carry`. -/
def State.dropLane (s : State) (p carry : Nat) (flag : Fld) : State :=
  let was := s.timeLane p
  let s := ((s.f (BND_PSTS_CARRY p) carry).f flag 1).inc (BND_PLANEDROP p)
  (s.delayReset p was).resendFresh p

/-- LANE_FAULT (R474, R475): failover or degradation where the other lane is trained; with none left the port waits for the lane, or for
LINK_DOWN (R479). -/
def execLaneFault (p lane : Nat) (s : State) : Res :=
  .next <|
    let tr := s.g (BND_PSTS_TRAINED p)
    let rest := tr - b2n (nbit tr lane) * 2 ^ lane
    if ¬ s.linkUp p ∨ ¬ nbit tr lane then s
    else
      let s := s.f (BND_PSTS_TRAINED p) rest
      if ¬ nbit (s.g (BND_PSTS_CARRY p)) lane then s
      else if rest = 0 then s
      else if s.g (BND_PCFG_MODE p) = 1 then
        let was := s.timeLane p
        let s := (s.setPort p { s.port p with work := 1 - lane }).f (BND_PSTS_CARRY p) (2 ^ (1 - lane))
        ((s.inc (BND_PFAILOVER p)).delayReset p was).resendFresh p
      else s.dropLane p rest (BND_PSTS_DEGRADED p)

/-- LANE_RETRAINED (R474, R475): the lane becomes the standby, or rejoins; a port that had no lane left goes on with it. -/
def execLaneRetrained (p lane : Nat) (s : State) : Res :=
  .next <|
    let tr := s.g (BND_PSTS_TRAINED p)
    if ¬ s.linkUp p ∨ nbit tr lane ∨ s.on (BND_PCFG_SINGLE p) then s
    else
      let m := Nat.lor tr (2 ^ lane)
      let s := s.f (BND_PSTS_TRAINED p) m
      if s.g (BND_PCFG_MODE p) = 1 then
        if nbit m (s.port p).work then s
        else
          let was := s.timeLane p
          ((s.setPort p { s.port p with work := lane }).f (BND_PSTS_CARRY p) (2 ^ lane)).delayReset p was
      else
        let s := s.f (BND_PSTS_DEGRADED p) (b2n (m != 3))
        if s.on (BND_PSTS_SHEDONE p) && Nat.land m (s.g (BND_PSTS_CARRY p)) != 0 then s
        else
          let was := s.timeLane p
          (s.f (BND_PSTS_CARRY p) (if s.on (BND_PSTS_SHEDONE p) then 2 ^ lane else m)).delayReset p was

/-- Shed stage 1 takes a BONDED port to one lane (R475, R501). -/
def State.shedLane (s : State) (p : Nat) : State :=
  if s.linkUp p ∧ s.g (BND_PCFG_MODE p) = 0 ∧ s.g (BND_PSTS_CARRY p) = 3 then s.dropLane p 1 (BND_PSTS_SHEDONE p) else s

/-- The fall of shed stage 1 gives a BONDED port its trained lanes back. -/
def State.unshedLane (s : State) (p : Nat) : State :=
  if s.on (BND_PSTS_SHEDONE p) then
    let was := s.timeLane p
    ((s.f (BND_PSTS_SHEDONE p) 0).f (BND_PSTS_CARRY p) (s.g (BND_PSTS_TRAINED p))).delayReset p was
  else s

/-- LINK_DOWN (R479): no lane of the port has had codeword alignment for 1 µs. -/
def execLinkDown (p : Nat) (s : State) : Res := .next (if s.linkUp p then s.linkDown p else s)

/-! Flits (R477, R483-R485). -/

/-- The flit a receiver reads from 64 bytes. -/
def readFlit (bs : List Nat) : FlitS :=
  { cls := leAt bs 0 2 / 4096, dst := leAt bs 2 1 % 16, src := leAt bs 2 1 / 16, nbytes := leAt bs 3 1 % 64,
    som := nbit (leAt bs 3 1) 6, eom := nbit (leAt bs 3 1) 7, epoch := leAt bs 4 2, payload := padTo 56 (bs.drop 8) }

/-- The CRC of a flit checks (R480). -/
def flitCrcOk (bs : List Nat) : Bool := leAt bs 6 2 == crc16 (bs.take 6 ++ (bs.drop 8).take 56)

/-- FLIT_RECEIVED (R477, R483, R485): 64 bytes on port p. `first` marks the first flit of its codeword and `nsym` is the
number of symbols of that codeword received in error: more than 15 make it uncorrectable. -/
def execFlitReceived (p : Nat) (bs : List Nat) (first : Bool) (nsym : Nat) (s : State) : Res :=
  .next <|
    if ¬ s.linkUp p then s
    else
      let unc := decide (15 < nsym)
      let s := if first then (if unc then s.inc (BND_PFECUNC p) else s.incBy (BND_PFECCORR p) nsym) else s
      let crcBad := !flitCrcOk bs
      let s := if crcBad && !unc then s.inc (BND_PCRCERR p) else s
      let q := s.port p
      let f := readFlit bs
      let sq := leAt bs 0 2 % 4096
      if f.cls < 3 then s
      else if unc || crcBad then
        if q.nakFor = none ∨ sq = q.nextRx then s.sendNak p else s
      else if sq = q.nextRx then s.acceptFlit p f
      else s

/-- A reserved TYPE of a LINK or SESSION flit (R484, R488). -/
def unkType (ty : Nat) : Bool := ty == 0 || decide (4 ≤ ty)

/-- STATUS (R484): a STATUS or an IDLE. -/
def execStatus (p : Nat) (pl : List Nat) (s : State) : Res :=
  .next <|
    let ty := leAt pl 0 1
    if ¬ s.linkUp p then s
    else if unkType ty then s.inc (BND_PUNKCLASS p)
    else if ty = 2 then s
    else s.takeAck p pl

/-- A replay is still under way: it started less than 200 ns ago. -/
def State.replaying (s : State) (p : Nat) : Bool :=
  match (s.port p).replayAt with
  | some t => decide (s.elapsed < t + 200)
  | none => false

/-- The flit n places from the oldest fails: the first failure replays, a second is a lasting fault (R485). -/
def State.flitFails (s : State) (p n : Nat) : State :=
  match (s.port p).unacked[n]? with
  | some f => if f.replayed then (s.inc (BND_PLASTING p)).linkDown p else s.replay p n
  | none => s.inc (BND_PFMTERR p)

/-- NAK (R485). -/
def execNak (p : Nat) (pl : List Nat) (s : State) : Res :=
  .next <|
    let ty := leAt pl 0 1
    if ¬ s.linkUp p then s
    else if unkType ty then s.inc (BND_PUNKCLASS p)
    else if ty ≠ 2 then s
    else
      let s := s.takeAck p pl
      let n := (s.port p).ofs (leAt pl 4 2)
      if (s.port p).unacked.length ≤ n then s.inc (BND_PFMTERR p)
      else if s.replaying p then s
      else s.flitFails p n

/-- REPLAY_TIMEOUT (R485): NEXTRX has not moved for 4 µs while flits remain unacknowledged. -/
def execReplayTimeout (p : Nat) (s : State) : Res :=
  .next <|
    let q := s.port p
    if s.linkUp p ∧ ¬ q.unacked.isEmpty ∧ q.moved + 4000 ≤ s.elapsed then s.flitFails p 0 else s

/-- STATUS_TIMER (R484): 1 µs since the last STATUS, with accepted flits not yet acknowledged. -/
def execStatusTimer (p : Nat) (s : State) : Res :=
  .next <|
    let q := s.port p
    if s.linkUp p ∧ 0 < q.accSince ∧ q.lastStatus + 1000 ≤ s.elapsed then s.sendStatus p else s

/-! Sessions (R489, R490, R524, R526). -/

/-- What a SESSION flit presents. -/
def presented (pl : List Nat) : PeerS :=
  { port := leAt pl 1 1 % 4, hubid := leAt pl 8 8, bootcnt := leAt pl 16 4, combid := leAt pl 24 8, epoch := leAt pl 4 4 }

/-- The hold of a port is abandoned (R526): the held session ends, and the casks gathered through it go (R469). -/
def State.abandonHold (s : State) (p : Nat) : State :=
  ((s.dropSession p).inc ROL_ABANDONS).f (BND_PSTS_STATE p) bsTRAINING

/-- Holds on other ports for the same peer are abandoned (R526). -/
def State.abandonElsewhere (s : State) (p hubid : Nat) : State :=
  (List.range 4).foldl (fun s q =>
    if q ≠ p ∧ s.g (BND_PSTS_STATE q) = bsHOLD ∧ (s.port q).peer.hubid = hubid then s.abandonHold q else s) s

/-- The session becomes ACTIVE through HELLO (R489): sequenced traffic starts at SEQ 0, and a round starts (R507). -/
def State.sessionUp (s : State) (p : Nat) (pl : List Nat) : State :=
  let s := s.sendHello p
  let s := s.setPort p { s.port p with peer := presented pl, dormantAt := none, lastStatus := s.elapsed }
  let s := s.f (BND_PSTS_STATE p) bsACTIVE
  let s := s.abandonElsewhere p (leAt pl 8 8)
  s.startRound

/-- HELLO (R489, R490, R526). -/
def execHello (p : Nat) (pl : List Nat) (s : State) : Res :=
  .next <|
    let ty := leAt pl 0 1
    if (s.port p).step ≠ 5 then s
    else if unkType ty then s.inc (BND_PUNKCLASS p)
    else if ty ≠ 1 then s
    else
      let s := if s.g (BND_PSTS_STATE p) = bsHOLD then (s.abandonHold p).startHello p else s
      if s.g (BND_PSTS_STATE p) ≠ bsHELLO then s
      else
        let s := s.setPort p { s.port p with peerSess := leAt pl 36 4 }
        if leAt pl 40 4 = (s.port p).mySess then s.sessionUp p pl else s

/-- HELLO_TIMER (R489): every 10 µs during session control. -/
def execHelloTimer (p : Nat) (s : State) : Res :=
  .next <|
    let q := s.port p
    if q.step = 5 ∧ ¬ s.linkUp p ∧ q.lastHello + 10000 ≤ s.elapsed then s.sendHello p else s

/-- A session resumes (R490, R526): what the peer has is acknowledged, the rest sent afresh; a new epoch at either end
since the hold starts a round (R507). -/
def State.resumeSession (s : State) (p : Nat) (pl : List Nat) : State :=
  let q := s.port p
  let changed := q.holdEpoch != s.g ROL_EPOCH || (q.peer.epoch != leAt pl 4 4 && q.holdEpoch != leAt pl 4 4)
  let s := s.sendHello p
  let s := s.setPort p { s.port p with
    unacked := q.unacked.drop (q.ofs (leAt pl 32 2)), holdAt := none, peer := presented pl, lastStatus := s.elapsed }
  let s := (s.f (BND_PSTS_STATE p) bsACTIVE).inc ROL_RESUMES
  let s := (((s.resendFresh p).pump p).flushFwd).flushEvHeld
  if changed then s.startRound else s

/-- RESUME (R490, R526). -/
def execResume (p : Nat) (pl : List Nat) (s : State) : Res :=
  .next <|
    let ty := leAt pl 0 1
    let q := s.port p
    if q.step ≠ 5 then s
    else if unkType ty then s.inc (BND_PUNKCLASS p)
    else if ty ≠ 2 then s
    else if s.g (BND_PSTS_STATE p) = bsHOLD then
      let w := presented pl
      if w.hubid = q.peer.hubid ∧ w.bootcnt = q.peer.bootcnt ∧ w.combid = q.peer.combid ∧ leAt pl 36 4 = q.peerSess ∧
          leAt pl 40 4 = q.mySess ∧ q.ofs (leAt pl 32 2) ≤ q.unacked.length then s.resumeSession p pl
      else (s.abandonHold p).startHello p
    else if s.g (BND_PSTS_STATE p) = bsHELLO then s.sendHello p
    else s

/-- The hub's directory shows the positions behind a port as DORMANT (R514, R524). -/
def State.markDormant (s : State) (p : Nat) : State :=
  let mark := fun (e : DirS) => if s.treePort e.pos = some p ∧ !nbit e.flags 3 then { e with flags := e.flags + 8 } else e
  { s with rol := { s.rol with dir := s.rol.dir.map mark } }

/-- CLOSE (R490, R524): the session ends without a hold and the port is DORMANT. -/
def execClose (p : Nat) (pl : List Nat) (s : State) : Res :=
  .next <|
    let ty := leAt pl 0 1
    if ¬ s.linkUp p then s
    else if unkType ty then s.inc (BND_PUNKCLASS p)
    else if ty ≠ 3 then s
    else
      let s := s.dropSession p
      let s := s.setPort p { s.port p with dormantAt := some s.elapsed, retryMs := s.g ROL_HOLD_RETRYHOLD }
      let s := ((s.f (BND_PSTS_STATE p) bsTRAINING).trainFrom1 p).markDormant p
      if s.isUpstream p then s.loseUpstream else s

end Sys2Proof.Machine
end

