-- ==== Sys2Proof/Machine/Aes.lean ====
section
/-! DEFINITION. AES-128-CMAC, the seal of casks (spec/13_rings_doorbells_and_casks.md R436): AES-128 of FIPS 197 and CMAC of
SP 800-38B, over bytes. -/
namespace Sys2Proof.Machine

/-- Doubling in the field of AES. -/
def xtime (a : Nat) : Nat := if a < 128 then 2 * a else Nat.xor (2 * a - 256) 0x1B

/-- The product of two field elements, from bit n down. -/
def gmul : Nat → Nat → Nat → Nat
  | 0, _, _ => 0
  | n + 1, a, b => Nat.xor (if b % 2 = 1 then a else 0) (gmul n (xtime a) (b / 2))

/-- The square in the field. -/
def gsq (a : Nat) : Nat := gmul 8 a a

/-- The inverse in the field: the 254th power. -/
def ginv (a : Nat) : Nat :=
  let a2 := gsq a
  let a4 := gsq a2
  let a8 := gsq a4
  let a16 := gsq a8
  let a32 := gsq a16
  let a64 := gsq a32
  let a128 := gsq a64
  gmul 8 a128 (gmul 8 a64 (gmul 8 a32 (gmul 8 a16 (gmul 8 a8 (gmul 8 a4 a2)))))

/-- A byte rotated left by n. -/
def rotl8 (a n : Nat) : Nat := (a * 2 ^ n + a / 2 ^ (8 - n)) % 256

/-- The S-box. -/
def sbox (a : Nat) : Nat :=
  let b := ginv (a % 256)
  Nat.xor b (Nat.xor (rotl8 b 1) (Nat.xor (rotl8 b 2) (Nat.xor (rotl8 b 3) (Nat.xor (rotl8 b 4) 0x63))))

/-- The exclusive-or of two byte lists. -/
def xorBytes (a b : List Nat) : List Nat := (a.zip b).map fun x => Nat.xor x.1 x.2

/-- The next round key. -/
def nextKey (rcon : Nat) (k : List Nat) : List Nat :=
  let t := [Nat.xor (sbox (k.getD 13 0)) rcon, sbox (k.getD 14 0), sbox (k.getD 15 0), sbox (k.getD 12 0)]
  let w0 := xorBytes (k.take 4) t
  let w1 := xorBytes ((k.drop 4).take 4) w0
  let w2 := xorBytes ((k.drop 8).take 4) w1
  let w3 := xorBytes ((k.drop 12).take 4) w2
  w0 ++ w1 ++ w2 ++ w3

/-- SubBytes and ShiftRows. -/
def subShift (st : List Nat) : List Nat :=
  (List.range 16).map fun i => sbox (st.getD ((i + 4 * (i % 4)) % 16) 0)

/-- MixColumns of one column. -/
def mixCol (c : List Nat) : List Nat :=
  (List.range 4).map fun i =>
    let a := c.getD i 0
    let b := c.getD ((i + 1) % 4) 0
    Nat.xor (xtime a) (Nat.xor (Nat.xor (xtime b) b) (Nat.xor (c.getD ((i + 2) % 4) 0) (c.getD ((i + 3) % 4) 0)))

/-- MixColumns. -/
def mixCols (st : List Nat) : List Nat :=
  mixCol (st.take 4) ++ mixCol ((st.drop 4).take 4) ++ mixCol ((st.drop 8).take 4) ++ mixCol ((st.drop 12).take 4)

/-- Rounds with `n` left, from the round key and its constant. -/
def aesRounds : Nat → Nat → List Nat → List Nat → List Nat
  | 0, _, _, st => st
  | n + 1, rcon, k, st =>
    let k := nextKey rcon k
    let st := subShift st
    aesRounds n (xtime rcon) k (xorBytes (if n = 0 then st else mixCols st) k)

/-- AES-128 of one 16-byte block. -/
def aes128 (key blk : List Nat) : List Nat := aesRounds 10 1 key (xorBytes blk key)

/-- Doubling of a 16-byte block in the field of CMAC, most significant byte first. -/
def cmacDbl (b : List Nat) : List Nat :=
  let d := (List.range 16).map fun i => (2 * b.getD i 0 + b.getD (i + 1) 0 / 128) % 256
  if 128 ≤ b.getD 0 0 then xorBytes d (List.replicate 15 0 ++ [0x87]) else d

/-- The chain over a message's blocks; `n` bounds their number. -/
def cmacChain (key k1 k2 : List Nat) : Nat → List Nat → List Nat → List Nat
  | 0, x, _ => x
  | n + 1, x, m =>
    if m.length ≤ 16 then
      let last := if m.length = 16 then xorBytes m k1
        else xorBytes (m ++ [0x80] ++ List.replicate (15 - m.length) 0) k2
      aes128 key (xorBytes x last)
    else cmacChain key k1 k2 n (aes128 key (xorBytes x (m.take 16))) (m.drop 16)

/-- AES-128-CMAC. -/
def cmac (key m : List Nat) : List Nat :=
  let l := aes128 key (List.replicate 16 0)
  let k1 := cmacDbl l
  cmacChain key k1 (cmacDbl k1) (m.length / 16 + 1) (List.replicate 16 0) m

end Sys2Proof.Machine
end

