-- ==== Sys2Proof/Machine/Ring.lean ====
section
/-! DEFINITION. Doorbells, DMA, completions, event records, cask placement and the set-up of rings
(spec/13_rings_doorbells_and_casks.md R406-R415, R426-R442; spec/14_ordering_and_recovery.md R456). -/
namespace Sys2Proof.Machine

/-! Doorbells (R407-R409). -/

/-- A doorbell write that is discarded (R409): DBERR, the RING record, and the error source. -/
def State.doorbellBad (s : State) (t ring status idx : Nat) : State :=
  let s := (s.setTr t { s.tr t with dberr := true }).inc RNG_DBERR
  (s.ringRecord t 2 ring status idx).ringLevel t 3 true

/-- A doorbell write of an index to a ring of `ord` in a state: the cases of R409 in their order, then the action. -/
def State.doorbell (s : State) (t ring state ord : Nat) (v : Word) (act : State → Nat → State) : State :=
  let s := s.wakeDoze 0x400
  let n := v.toNat
  if !s.served t || !s.coreRuns then s.inc RNG_DBERR
  else if 65536 ≤ n then s.doorbellBad t ring RESERVED_NONZERO (n % 65536)
  else if state ≠ rsRUNNING ∧ state ≠ rsHALTED then s.doorbellBad t ring NOT_IN_STATE n
  else if ringSize ord ≤ n then s.doorbellBad t ring OUT_OF_RANGE n
  else act s n

/-- CMDTAIL: posts descriptors. -/
def State.cmdTail (s : State) (t : Nat) (v : Word) : State :=
  let r := (s.tr t).cmd
  s.doorbell t 0 r.state r.ord v fun s n => s.setTr t { s.tr t with cmd := { (s.tr t).cmd with host := n } }

/-- CPLHEAD: consumes completions. -/
def State.cplHead (s : State) (t : Nat) (v : Word) : State :=
  let r := (s.tr t).cpl
  s.doorbell t 1 r.state r.ord v fun s n =>
    (s.setTr t { s.tr t with cpl := { (s.tr t).cpl with host := n } }).ringLevel t 0 false

/-- EVTHEAD: consumes event records. -/
def State.evtHead (s : State) (t : Nat) (v : Word) : State :=
  let r := (s.tr t).evt
  s.doorbell t 2 r.state r.ord v fun s n =>
    (s.setTr t { s.tr t with evt := { (s.tr t).evt with host := n } }).ringLevel t 2 false

/-- POSTr: posts buffers. -/
def State.postWrite (s : State) (t r : Nat) (v : Word) : State :=
  let c := s.cr t r
  s.doorbell t (8 + r) c.state c.ord v fun s n => s.setCr t r { s.cr t r with post := n }

/-- ACKr: consumes write-backs. -/
def State.ackWrite (s : State) (t r : Nat) (v : Word) : State :=
  let c := s.cr t r
  s.doorbell t (8 + r) c.state c.ord v fun s n => (s.setCr t r { s.cr t r with ack := n }).ringLevel t 1 false

/-! Slots. -/

/-- The ring moves on one slot; PHASE changes when it wraps (R413). -/
def RingS.next (r : RingS) : RingS :=
  if r.hub + 1 < ringSize r.ord then { r with hub := r.hub + 1 } else { r with hub := 0, phase := !r.phase }

/-- The ring moves back one slot. -/
def RingS.back (r : RingS) : RingS :=
  if 0 < r.hub then { r with hub := r.hub - 1 } else { r with hub := ringSize r.ord - 1, phase := !r.phase }

/-- A ring the hub writes has no room: one slot stays free (R409). -/
def RingS.full (r : RingS) : Bool := (r.hub + 1) % ringSize r.ord == r.host

/-- Emits a DMA write of a ring entry, completion, event record or result block: never with Relaxed Ordering (R405). -/
def State.dmaWrite (s : State) (addr : Nat) (b : List Nat) : State := { s with out := .write false addr b :: s.out }

/-- Emits a DMA write of a cask's contents: with Relaxed Ordering (R405). -/
def State.dmaCask (s : State) (addr : Nat) (b : List Nat) : State := { s with out := .write true addr b :: s.out }

/-- A ring of a tenant halts (R415): counted, recorded when the event ring runs, and its error source raised. -/
def State.halted (s : State) (t ring slot : Nat) : State :=
  let s := s.inc RNG_DMAFAIL
  let s := if (s.tr t).evt.state = rsRUNNING then s.ringRecord t 1 ring LASTING_FAULT slot else s
  s.ringLevel t 3 true

/-! CTL (R408, R415). -/

/-- Writes the completion pending at its slot. -/
def State.writeCpl (s : State) (t : Nat) : State :=
  match (s.tr t).cplPend with
  | none => s
  | some b =>
    let r := (s.tr t).cpl
    let b := b.take 12 ++ toLe 4 (leAt b 12 4 % 2 ^ 31 + 2 ^ 31 * b2n r.phase)
    let s := s.setTr t { s.tr t with cpl := r.next, cplPend := some b }
    (s.dmaWrite (r.base + 16 * r.hub) b).ringLevel t 0 true

/-- Writes the event record pending at its slot; an ALERT meets its source's count threshold (R365). -/
def State.writeEv (s : State) (t : Nat) : State :=
  match (s.tr t).evPend with
  | none => s
  | some e =>
    let r := (s.tr t).evt
    let s := s.setTr t { s.tr t with evt := r.next }
    let s := s.dmaWrite (r.base + 32 * r.hub) (e.bytes r.phase)
    let n := 4 * t + 2
    let s := if e.src = evRCG ∧ nbit e.b 20 then s.setSrc n { s.src n with alert := true } else s
    s.ringLevel t 2 true

/-- RESUMECMD: a HALTED command ring reads its slot again. -/
def State.resumeCmd (s : State) (t : Nat) : State :=
  let r := s.tr t
  if r.cmd.state = rsHALTED then
    (s.setTr t { r with cmd := { r.cmd with state := rsRUNNING, failed := false } }).ringLevel t 3 false
  else s

/-- RESUMECPL: a HALTED completion ring writes what it holds. -/
def State.resumeCpl (s : State) (t : Nat) : State :=
  let r := s.tr t
  if r.cpl.state = rsHALTED then
    ((s.setTr t { r with cpl := { r.cpl with state := rsRUNNING, failed := false } }).ringLevel t 3 false).writeCpl t
  else s

/-- RESUMEEVT: a HALTED event ring writes what it holds. -/
def State.resumeEvt (s : State) (t : Nat) : State :=
  let r := s.tr t
  if r.evt.state = rsHALTED then
    ((s.setTr t { r with evt := { r.evt with state := rsRUNNING, failed := false } }).ringLevel t 3 false).writeEv t
  else s

/-- CLRDBERR. -/
def State.clrDberr (s : State) (t : Nat) : State := (s.setTr t { s.tr t with dberr := false }).ringLevel t 3 false

/-- A write of CTL: its bits in order. -/
def State.ctlWrite (s : State) (t : Nat) (v : Word) : State :=
  let s := s.wakeDoze 0x400
  if !s.served t || !s.coreRuns then s.inc RNG_DBERR
  else if 16 ≤ v.toNat then s.doorbellBad t 0 RESERVED_NONZERO (v.toNat % 65536)
  else
    let s := if wbit v 3 then s.clrDberr t else s
    let s := if wbit v 0 then s.resumeCmd t else s
    let s := if wbit v 1 then s.resumeCpl t else s
    if wbit v 2 then s.resumeEvt t else s

/-! Fetching (R414, R418). -/

/-- A descriptor may be fetched: at most 256 commands are in execution, and at most 256 completions held (R415, R418). -/
def State.mayFetch (s : State) (t : Nat) : Bool :=
  let r := s.tr t
  s.coreRuns && s.sys.pstate == .run && !s.watchRuns && s.served t && r.cmd.state == rsRUNNING && r.cmd.hub != r.cmd.host &&
    decide ((r.cmds.filter fun c => c.done.isNone).length < 256) && decide ((r.cmds.filter fun c => c.done.isSome).length < 256) &&
    !r.draining

/-- COMMAND_FETCH (R418): the descriptor read at the ring's slot is consumed and issued in ring order. -/
def State.commandFetch (s : State) (t : Nat) : State :=
  match (s.tr t).fetched with
  | none => s
  | some (d, retried) =>
    if s.mayFetch t then
      let r := s.tr t
      let c : CmdS := { slot := r.cmd.hub, desc := d, retried := retried }
      let s := s.setTr t { r with
        cmd := { r.cmd with hub := (r.cmd.hub + 1) % ringSize r.cmd.ord }, fetched := none, cmds := r.cmds ++ [c],
        draining := dOpc d == 0x53 && dBody d 0 2 == t && t != 0 }
      s.issue t
    else s

/-- The end of a read of a descriptor (R414, R415). -/
def State.descRead (s : State) (t : Nat) (ok : Bool) (b : List Nat) : State :=
  let r := s.tr t
  if !s.mayFetch t || r.fetched.isSome then s
  else if ok then
    let s := if r.cmd.failed then s.inc RNG_DMARETRY else s
    s.setTr t { s.tr t with fetched := some (padTo 64 b, r.cmd.failed), cmd := { r.cmd with failed := false } }
  else if r.cmd.failed then
    (s.setTr t { r with cmd := { r.cmd with failed := false, state := rsHALTED } }).halted t 0 r.cmd.hub
  else s.setTr t { r with cmd := { r.cmd with failed := true } }

/-- The end of a read of an argument block (R414, R415). -/
def State.argRead (s : State) (t slot : Nat) (ok : Bool) (b : List Nat) : State :=
  match (s.tr t).cmds.find? fun c => c.slot == slot && c.stage == 1 with
  | none => s
  | some c =>
    if ok then
      let s := if c.argFailed then s.inc RNG_DMARETRY else s
      let n := match argBlock c.desc with
        | some x => x.2
        | none => 0
      s.argsRead t slot (some (padTo n b)) c.argFailed
    else if c.argFailed then (s.inc RNG_DMAFAIL).argsRead t slot none false
    else s.modCmd t slot fun c => { c with argFailed := true }

/-- The end of a read of a posted cask ring entry (R414, R415). -/
def State.postRead (s : State) (t r : Nat) (ok : Bool) (b : List Nat) : State :=
  let c := s.cr t r
  if c.state ≠ rsRUNNING ∨ c.hub = c.post ∨ c.entry.isSome = true then s
  else if ok then
    let s := if c.failed then s.inc RNG_DMARETRY else s
    s.setCr t r { c with entry := some (padTo 16 b), failed := false }
  else if c.failed then (s.setCr t r { c with failed := false, state := rsHALTED }).halted t (8 + r) c.hub
  else s.setCr t r { c with failed := true }

/-! Completions (R419, R420). -/

/-- The 16 bytes of a completion without PHASE (R419). -/
def cplBytes (c : CmdS) (o : DoneS) : List Nat :=
  toLe 4 (leAt c.desc 4 4) ++ toLe 2 c.slot ++ [dOpc c.desc, o.status] ++ toLe 4 o.value ++
    toLe 4 (o.aux % 2 ^ 17 + 2 ^ 29 * b2n (c.res == 3) + 2 ^ 30 * b2n (o.retried || c.retried))

/-- A command ring in STOPPING whose commands have all completed is STOPPED (R441). -/
def State.cmdDrained (s : State) (t : Nat) : State :=
  let r := s.tr t
  if r.cmd.state = rsSTOPPING ∧ r.cmds.isEmpty = true then s.setTr t { r with cmd := { r.cmd with state := rsSTOPPED } } else s

/-- COMPLETION_WRITE (R419, R420, R444): the oldest command of the ring, once it has completed: its result block first, then its
completion. -/
def State.completionWrite (s : State) (t : Nat) : State :=
  let r := s.tr t
  match r.cmds with
  | [] => s
  | c :: rest =>
    match c.done with
    | none => s
    | some o =>
      if r.cpl.state ≠ rsRUNNING ∨ r.cplPend.isSome = true ∨ r.cpl.full = true ∨ s.cmdDone t c = false ∨ ¬ s.icuRuns = true then s
      else if c.res = 0 ∧ dRes c.desc ≠ 0 ∧ o.status = OK ∧ o.result ≠ [] then
        (s.modCmd t c.slot fun c => { c with res := 1 }).dmaWrite (dRes c.desc) o.result
      else if c.res = 1 then s
      else
        let own := dOpc c.desc == 0x53 && dBody c.desc 0 2 == t
        let s := s.setTr t { r with
          cmds := rest, cplPend := some (cplBytes c o), draining := r.draining && !(own && o.status != OK) }
        ((s.writeCpl t).issue t).cmdDrained t

/-- The confirming read of a completion (R414, R415); the retry rewrites the same bytes (R455). -/
def State.cplConfirm (s : State) (t : Nat) (ok : Bool) : State :=
  let r := s.tr t
  match r.cplPend with
  | none => s
  | some b =>
    if r.cpl.state ≠ rsRUNNING then s
    else if ok then
      (if r.cpl.failed then s.inc RNG_DMARETRY else s).setTr t { r with cplPend := none, cpl := { r.cpl with failed := false } }
    else if r.cpl.failed then
      let q := { r.cpl.back with failed := false, state := rsHALTED }
      ((s.setTr t { r with cpl := q }).ringLevel t 0 false).halted t 1 q.hub
    else
      let q := r.cpl.back
      (s.setTr t { r with cpl := { r.cpl with failed := true } }).dmaWrite (q.base + 16 * q.hub) b

/-- The confirming read of a result block (R414, R415). -/
def State.resConfirm (s : State) (t : Nat) (ok : Bool) : State :=
  match (s.tr t).cmds.find? fun c => c.res == 1 with
  | none => s
  | some c =>
    if ok then
      (if c.resFailed then s.inc RNG_DMARETRY else s).modCmd t c.slot fun c =>
        { c with res := 2, retried := c.retried || c.resFailed }
    else if c.resFailed then (s.inc RNG_DMAFAIL).modCmd t c.slot fun c => { c with res := 3 }
    else
      (s.modCmd t c.slot fun c => { c with resFailed := true }).dmaWrite (dRes c.desc) (match c.done with | some o => o.result | none => [])

/-! Event records (R439). -/

/-- What an event record refers to has become valid, or been discarded (R447): for a ring here, no cask up to the number is
outstanding, on any ring for ring 8; for a record forwarded with a number alone, some ring has taken that number and holds it no longer. -/
def State.evReady (s : State) (t : Nat) (e : EvRecS) : Bool :=
  let uid := (s.ctx t).uid
  match e.dep with
  | none => true
  | some (src, ring, pcn) =>
    if ring < 8 then s.caskDone uid src ring pcn
    else if src = s.pos then (List.range 8).all fun r => s.caskDone uid src r pcn
    else
      (s.rng.expect.any fun x => x.1 == s.hubAt src && x.2.1 == uid && decide (pcn < x.2.2.2) &&
        s.caskDone uid src x.2.2.1 pcn)

/-- EVENT_RECORD_WRITE (R437, R439, R618): the oldest record, or first the LOST record after a discard; a HUB_RESET stands before both
(R440). The record written is journalled when its source is enabled. -/
def State.eventRecordWrite (s : State) (t : Nat) : State :=
  let r := s.tr t
  if r.evt.state ≠ rsRUNNING ∨ r.evPend.isSome = true ∨ r.evt.full = true ∨ ¬ s.icuRuns = true then s
  else if 0 < r.evLost ∧ !(r.evq.head?.any fun e => e.src == evHUB && e.code == 1) then
    let e := { s.mkEv 0 0 r.evLostCt r.evLost 0 0 0 with flags := 0 }
    (s.setTr t { r with evPend := some e, evLost := 0 }).writeEv t
  else
    match r.evq with
    | [] => s
    | e :: rest => if s.evReady t e then ((s.setTr t { r with evPend := some e, evq := rest }).writeEv t).journalEv e else s

/-- The confirming read of an event record (R414, R415). -/
def State.evConfirm (s : State) (t : Nat) (ok : Bool) : State :=
  let r := s.tr t
  match r.evPend with
  | none => s
  | some e =>
    if r.evt.state ≠ rsRUNNING then s
    else if ok then
      (if r.evt.failed then s.inc RNG_DMARETRY else s).setTr t { r with evPend := none, evt := { r.evt with failed := false } }
    else if r.evt.failed then
      let q := { r.evt.back with failed := false, state := rsHALTED }
      ((s.setTr t { r with evt := q }).ringLevel t 2 false).halted t 2 q.hub
    else
      let q := r.evt.back
      (s.setTr t { r with evt := { r.evt with failed := true } }).dmaWrite (q.base + 32 * q.hub) (e.bytes q.phase)

/-! Cask placement (R427-R436). -/

/-- The cask header with MAC zero (R433). -/
def caskHeader (t : Nat) (c : CaskS) (sealedUnder : Option Nat) : List Nat :=
  [1, b2n sealedUnder.isSome + 2 * b2n (anyFlag c.recs fHOLDOVER) + 4 * b2n (anyFlag c.recs fWATCH), c.ring, c.src] ++
    toLe 2 t ++ [sealedUnder.getD 0, c.close] ++ toLe 8 (c.cseq.getD 0) ++ toLe 4 c.len ++ toLe 4 c.recs.length ++
    toLe 8 (firstCt c.recs) ++ toLe 8 (lastCt c.recs) ++ toLe 4 c.epoch ++ List.replicate 12 0

/-- The bytes of a cask in host memory, sealed on a ring with SEAL set (R395, R436). -/
def State.caskImage (s : State) (t : Nat) (c : CaskS) : List Nat :=
  let x := s.ctx t
  let recs := recBytes none c.recs
  if (s.cr t c.ring).sealed then
    let h := caskHeader t c (some x.keygen)
    h ++ (cmac x.key (h ++ recs)).take 8 ++ recs
  else caskHeader t c none ++ List.replicate 8 0 ++ recs

/-- Writes back the entry at the ring's slot (R427), its ADDR unchanged, and moves on. -/
def State.writeBack (s : State) (t r used kind status : Nat) : State :=
  let c := s.cr t r
  s.dmaWrite (c.base + 16 * c.hub + 8) (toLe 4 used ++ [kind, status, 0, 0])

/-- Writes back the slot as VOID (R428), to be confirmed (R414). -/
def State.voidSlot (s : State) (t r status : Nat) : State :=
  (s.setCr t r { s.cr t r with place := 3, voidSt := status, failed := false }).writeBack t r 0 8 status

/-- The entry at the hub's slot has been written back: the next slot follows. -/
def State.slotDone (s : State) (t r : Nat) : State :=
  let c := s.cr t r
  (s.setCr t r { c with place := 0, failed := false, hub := (c.hub + 1) % ringSize c.ord, entry := none }).ringLevel t 1 true

/-- Why a posted buffer is returned as VOID before use (R428). -/
def State.entryBad (s : State) (t r : Nat) (e : List Nat) : Option Nat :=
  let addr := leAt e 0 8
  let len := leAt e 8 4
  if len < (s.cr t r).size ∨ len < 4096 ∨ 65536 < len ∨ len % 64 ≠ 0 ∨ addr % 64 ≠ 0 ∨ leAt e 12 4 ≠ 0 then some OUT_OF_RANGE
  else if !s.inWindow t addr len false true then some WINDOW_VIOLATION
  else none

/-- The first cask held for a tenant's ring. -/
def State.heldFirst (s : State) (t r : Nat) : Option CaskS :=
  s.rng.held.find? fun c => c.uid == (s.ctx t).uid && c.ring == r

/-- What was discarded for a ring is declared in the cask about to be placed (R432), cut where it outgrows SIZE (R429). -/
def State.declareHeld (s : State) (t : Nat) (c : CaskS) : State :=
  if c.cseq.isSome ∨ !s.rng.loss.any (fun x => x.uid == c.uid && x.ring == c.ring) then s
  else
    let (s, recs) := s.applyLoss c.uid c.ring c.recs
    let l := ({ c with recs := recs } : CaskS).split (s.cr t c.ring).size
    { s with rng := { s.rng with held := (s.rng.held.map fun x => if x = c then l else [x]).flatten } }

/-- CASK_PLACEMENT (R431): the first held cask of a running ring goes into the next posted buffer, its number assigned; a posted
entry that cannot be used is returned as VOID. -/
def State.caskPlace (s : State) (t r : Nat) : State :=
  let q := s.cr t r
  if q.state ≠ rsRUNNING ∨ q.place ≠ 0 ∨ q.hub = q.post ∨ ¬ s.icuRuns = true ∨ ¬ s.homed t = true then s
  else
    match q.entry, s.heldFirst t r with
    | some e, some c =>
      match s.entryBad t r e with
      | some st => s.voidSlot t r st
      | none =>
        let s := s.declareHeld t c
        match s.heldFirst t r with
        | none => s
        | some c =>
          let q := s.cr t r
          let n := c.cseq.getD q.nextSeq
          let c' := { c with cseq := some n }
          let s := s.setCr t r { q with place := 1, nextSeq := if c.cseq.isSome then q.nextSeq else q.nextSeq + 1 }
          let s : State := { s with rng := { s.rng with held := s.rng.held.map fun x => if x = c then c' else x } }
          s.dmaCask (leAt e 0 8) (s.caskImage t c')
    | _, _ => s

/-- A ring that ends returns its next posted buffer as VOID (R457), once no cask is left to place. -/
def State.fenceRing (s : State) (t r : Nat) : State :=
  let q := s.cr t r
  if q.state = rsRUNNING ∧ q.place = 0 ∧ q.hub ≠ q.post ∧ (s.heldFirst t r).isNone = true ∧
      (q.stopping.isSome || (s.tr t).ending.isSome) = true then s.voidSlot t r FENCED
  else s

/-- The KIND a cask's entry is written back with (R427). -/
def CaskS.kind (c : CaskS) : Nat :=
  match c.recs with
  | [] => 8
  | x :: _ => x.kind

/-- Writes again what a placement has written (R414). -/
def State.placeAgain (s : State) (t r : Nat) (c : CaskS) : State :=
  let q := s.cr t r
  if q.place = 1 then s.dmaCask (leAt (q.entry.getD []) 0 8) (s.caskImage t c)
  else if q.place = 2 then s.writeBack t r c.len c.kind OK
  else s.writeBack t r 0 8 q.voidSt

/-- The confirming read of a cask's contents, of its entry or of a VOID (R414, R431, R456). -/
def State.caskConfirm (s : State) (t r : Nat) (ok : Bool) : State :=
  let q := s.cr t r
  let c := (s.heldFirst t r).getD { uid := 0, ring := 0, src := 0, pcn := 0 }
  if q.state ≠ rsRUNNING ∨ q.place = 0 then s
  else if ok then
    let s := if q.failed then s.inc RNG_DMARETRY else s
    if q.place = 1 then (s.setCr t r { q with place := 2, failed := false }).writeBack t r c.len c.kind OK
    else if q.place = 2 then
      let s : State := { s with rng := { s.rng with held := s.rng.held.erase c } }
      (((s.slotDone t r).inc RNG_CASKS).showCbuf).fenceRing t r
    else ((s.slotDone t r).inc RNG_VOIDS).fenceRing t r
  else if q.failed then
    (s.setCr t r { q with failed := false, place := 0, voidDue := true, state := rsHALTED }).halted t (8 + r) q.hub
  else (s.setCr t r { q with failed := true }).placeAgain t r c

/-! Cask ring commands (R426, R456, R457). -/

/-- The largest record of an open stream of a tenant's ring, in bytes. -/
def State.largestRec (s : State) (t r : Nat) : Nat :=
  s.rng.charges.foldl (fun m c => if c.tid = t ∧ c.ring = r then max m c.big else m) 0

/-- RING_START's effect (R426). -/
def State.ringStart (s : State) (j : JobS) : State :=
  let t := j.id.tid
  let d := j.desc
  let r := dBody d 0 1
  let ord := dBody d 2 1
  let size := if dBody d 4 4 = 0 then 16384 else dBody d 4 4
  let age := if dBody d 8 4 = 0 then 10000 else dBody d 8 4
  let cut := if dBody d 12 4 = 0 then 1024 else dBody d 12 4
  let base := dBody d 16 8
  let sd := nbit (dBody d 1 1) 0
  let q := s.cr t r
  if q.state ≠ rsSTOPPED then s.finishWith j NOT_IN_STATE
  else if ord < 4 ∨ 16 < ord ∨ size < 256 ∨ 65536 < size ∨ age < 10 ∨ 1000000 < age ∨ (dBody d 12 4 ≠ 0 ∧ (cut < 256 ∨ size < cut)) ∨ base % 4096 ≠ 0 ∨
      size - 64 < s.largestRec t r + (if s.largestRec t r = 0 then 0 else 16) then s.finishWith j OUT_OF_RANGE
  else if sd = true ∧ (s.ctx t).key = [] then s.finishWith j NOT_IN_STATE
  else
    let s := s.setCr t r { q with
      state := rsRUNNING, sealed := sd, ord := ord, size := size, age := age, cut := cut, base := base, hub := 0, post := 0, ack := 0,
      entry := none, place := 0, failed := false, voidDue := false, started := true }
    s.finishWith j OK

/-- RING_START (R426). -/
def execRingStart (s : State) : Res := .next (s.runJob 0x18 (fun _ => none) fun s j => s.ringStart j)

/-- A cask ring stops: nothing is fetched or written; its posted buffers are forgotten. -/
def CRingS.stop (q : CRingS) : CRingS :=
  { q with state := rsSTOPPED, entry := none, place := 0, failed := false, voidDue := false, stopping := none, post := q.hub }

/-- RING_STOP's effect (R457): open casks close with STOP and are placed while buffers remain; then the rest return as VOID. -/
def State.ringStop (s : State) (j : JobS) : State :=
  let t := j.id.tid
  let r := dBody j.desc 0 1
  let q := s.cr t r
  if q.state = rsRUNNING then
    let s := s.closeCask (s.ctx t).uid r clSTOP
    s.setCr t r { s.cr t r with stopping := some j.id }
  else if q.state = rsHALTED then
    let s := s.closeCask (s.ctx t).uid r clSTOP
    let s := (s.setCr t r (s.cr t r).stop).ringLevel t 3 false
    s.finishWith j OK
  else s.finishWith j NOT_IN_STATE

/-- A RING_STOP completes when no cask is left that a posted buffer can take: step 3 and 4 of R457. -/
def State.stopRing (s : State) (t r : Nat) : State :=
  let q := s.cr t r
  match q.stopping with
  | none => s
  | some id =>
    if q.state = rsRUNNING ∧ (q.place ≠ 0 ∨ q.hub ≠ q.post) then s.fenceRing t r
    else
      let s := s.setCr t r (s.cr t r).stop
      s.finishId id { status := OK }

/-- RING_STOP (R457): begins the stop, or completes one whose casks are placed. -/
def execRingStop (s : State) : Res :=
  .next <|
    let s := s.runJob 0x19 (fun _ => none) fun s j => s.ringStop j
    s.rng.rings.keys.foldl (fun s t => (List.range 8).foldl (fun s r => s.stopRing t r) s) s

/-- RING_RESUME's effect (R456): the failed slot returns as VOID, and placement goes on behind it. -/
def State.ringResume (s : State) (j : JobS) : State :=
  let t := j.id.tid
  let r := dBody j.desc 0 1
  let q := s.cr t r
  if q.state ≠ rsHALTED then s.finishWith j NOT_IN_STATE
  else
    let s := (s.setCr t r { q with state := rsRUNNING, failed := false, voidDue := false }).ringLevel t 3 false
    let s := if q.voidDue then s.voidSlot t r LASTING_FAULT else s
    s.finishWith j OK

/-- RING_RESUME (R456). -/
def execRingResume (s : State) : Res := .next (s.runJob 0x1A (fun _ => none) fun s j => s.ringResume j)

/-- RING_FLUSH's effect (R429). -/
def State.ringFlush (s : State) (j : JobS) : State :=
  let r := dBody j.desc 0 1
  if (s.cr j.id.tid r).state ≠ rsRUNNING then s.finishWith j NOT_IN_STATE
  else (s.closeCask j.uid r clFLUSH).finishWith j OK

/-- RING_FLUSH (R429). -/
def execRingFlush (s : State) : Res := .next (s.runJob 0x1B (fun _ => none) fun s j => s.ringFlush j)

/-- RING_QUERY's effect (R421): the ring's status block. -/
def State.ringQuery (s : State) (j : JobS) : State :=
  let t := j.id.tid
  let r := dBody j.desc 0 1
  let q := s.cr t r
  let heldB := ((s.rng.held.filter fun c => c.uid == j.uid && c.ring == r).map CaskS.len).sum
  let b := [q.state, b2n q.sealed, q.ord, 0] ++ toLe 4 q.size ++ toLe 8 q.nextSeq ++ toLe 4 q.lost ++ toLe 4 heldB ++ toLe 4 q.age ++
      toLe 4 q.cut
  s.finish j { status := OK, result := b }

/-- RING_QUERY (R421). -/
def execRingQuery (s : State) : Res := .next (s.runJob 0x1C (fun _ => none) fun s j => s.ringQuery j)

/-- NOP (R421). -/
def execNop (s : State) : Res := .next (s.runJob 0x01 (fun _ => none) fun s j => s.finishWith j OK)

/-- TIME's effect (R421): CT, its state and the UTC offset at this hub. -/
def State.timeQuery (s : State) (j : JobS) : State :=
  let b := toLe 8 s.ct ++ [s.g TIM_CTSTS_STATE, s.g TIM_CTSTS_UTC_VALID, 0, 0, 0, 0, 0, 0] ++ toLe 8 (s.g64 TIM_UTCOFSLO TIM_UTCOFSHI)
  s.finish j { status := OK, result := b }

/-- TIME (R421). -/
def execTime (s : State) : Res := .next (s.runJob 0x02 (fun _ => none) fun s j => s.timeQuery j)

/-! The DMA and writing commands. -/

/-- COMMAND_FETCH (R418). -/
def execCommandFetch (t : Nat) (s : State) : Res := .next (s.commandFetch t)

/-- COMPLETION_WRITE (R419). -/
def execCompletionWrite (t : Nat) (s : State) : Res := .next (s.completionWrite t)

/-- EVENT_RECORD_WRITE (R439). -/
def execEventRecordWrite (t : Nat) (s : State) : Res := .next (s.eventRecordWrite t)

/-- CASK_PLACEMENT (R431). -/
def execCaskPlacement (t r : Nat) (s : State) : Res := .next (s.caskPlace t r)

/-- DMA_WRITE_CONFIRMED (R414): the confirming read of a tenant's write: 0 completion, 1 event record, 2 result block, 8 + r a
cask of ring r or its entry. -/
def execDmaWriteConfirmed (t what : Nat) (ok : Bool) (s : State) : Res :=
  .next <|
    if !s.coreRuns then s
    else if what = 0 then s.cplConfirm t ok
    else if what = 1 then s.evConfirm t ok
    else if what = 2 then s.resConfirm t ok
    else if 8 ≤ what then (s.caskConfirm t (what - 8) ok).stopRing t (what - 8)
    else s

/-- DMA_READ_DONE (R414): a tenant's read ends: 0 descriptor, 1 argument block of a slot, 8 + r posted entry of ring r. -/
def execDmaReadDone (t what slot : Nat) (ok : Bool) (b : List Nat) (s : State) : Res :=
  .next <|
    if !s.coreRuns then s
    else if what = 0 then s.descRead t ok b
    else if what = 1 then s.argRead t slot ok b
    else if 8 ≤ what then s.postRead t (what - 8) ok b
    else s

/-- CASK_AGE_EXPIRY (R429): AGE has passed since the first record of an open cask. -/
def execCaskAgeExpiry (uid ring : Nat) (s : State) : Res :=
  .next <|
    match s.openCask uid ring with
    | some c => if c.at_ + 1000 * (s.closeRule uid ring).2 ≤ s.elapsed ∧ s.coreRuns = true then s.closeCask uid ring clAGE else s
    | none => s

/-! Set-up of rings (R441, R442). -/

/-- A ring of a tenant: 0 command, 1 completion, 2 event. -/
def TRingS.ringOf (r : TRingS) (k : Nat) : RingS := if k = 0 then r.cmd else if k = 1 then r.cpl else r.evt

/-- Sets a ring of a tenant. -/
def TRingS.setRing (r : TRingS) (k : Nat) (x : RingS) : TRingS :=
  if k = 0 then { r with cmd := x } else if k = 1 then { r with cpl := x } else { r with evt := x }

/-- Bytes of an entry of ring k. -/
def entrySize (k : Nat) : Nat := if k = 0 then 64 else if k = 1 then 16 else 32

/-- Why a WR or STOP of RNG_IDX is discarded (R442). -/
def State.setupBad (s : State) (t k : Nat) (wr : Bool) : Option Nat :=
  let r := s.tr t
  let base := join32 (s.g RNG_BASELO * 4096) (s.g RNG_BASEHI)
  let ord := s.g RNG_ORD
  if !s.served t then some NOT_IN_STATE
  else if wr ∧ (r.ringOf k).state ≠ rsSTOPPED then some NOT_IN_STATE
  else if wr ∧ k = 0 ∧ r.cpl.state ≠ rsRUNNING then some NOT_IN_STATE
  else if ¬ wr ∧ k ≠ 0 ∧ r.cmd.state ≠ rsSTOPPED then some NOT_IN_STATE
  else if wr ∧ (ord < 4 ∨ 16 < ord) then some OUT_OF_RANGE
  else if wr ∧ !s.inWindow t base (entrySize k * 2 ^ ord) (k == 0) (k != 0) then some WINDOW_VIOLATION
  else none

/-- A ring set up by WR starts (R442). -/
def State.ringGo (s : State) (t k : Nat) : State :=
  let base := join32 (s.g RNG_BASELO * 4096) (s.g RNG_BASEHI)
  let s := s.setTr t ((s.tr t).setRing k { state := rsRUNNING, base := base, ord := s.g RNG_ORD })
  let s := if k = 0 then s.setTr t { s.tr t with fetched := none, draining := false } else s
  let s := s.ringLevel t 0 false
  let s := s.ringLevel t 2 false
  let s := s.ringLevel t 3 false
  if k = 1 then s.writeCpl t else if k = 2 then s.writeEv t else s

/-- A ring stops by STOP (R441): the command ring waits in STOPPING for its commands. -/
def State.ringHalt (s : State) (t k : Nat) : State :=
  let r := s.tr t
  let x := r.ringOf k
  let st := if k = 0 ∧ !r.cmds.isEmpty then rsSTOPPING else rsSTOPPED
  (s.setTr t { r.setRing k { x with state := st, failed := false } with fetched := if k = 0 then none else r.fetched }).ringLevel t 3 false

/-- Loads a ring's base, order, state and pointers (R441). -/
def State.ringLoad (s : State) (t k : Nat) : State :=
  let x := (s.tr t).ringOf k
  let s := (s.f RNG_BASELO (lo32 x.base / 4096)).f RNG_BASEHI (hi32 x.base)
  (((s.f RNG_ORD x.ord).f RNG_STS x.state).f RNG_PTR_HUB x.hub).f RNG_PTR_HOST x.host

/-- A write of RNG_IDX (R441, R442). -/
def State.rngIdxWrite (s : State) (v : Word) : State :=
  let wr := wbit v 31
  let rd := wbit v 30
  let st := wbit v 29
  let t := wbits v 9 0
  let k := wbits v 17 16
  if (wr && (rd || st)) || (rd && st) then s.discard rRNG_IDX 0 0 RESERVED_NONZERO
  else if rd then s.ringLoad t k
  else if wr || st then
    match s.setupBad t k wr with
    | some c => s.discard rRNG_IDX 0 0 c
    | none => if wr then s.ringGo t k else s.ringHalt t k
  else s

/-- RING_SETUP (R442): WR of RNG_IDX. -/
def execRingSetup (t k : Nat) (s : State) : Res :=
  let v := Word.ofNat (2 ^ 31 + 65536 * k + t)
  .next (s.barWrite rRNG_IDX 0 0 v fun s => s.rngIdxWrite v)

/-- RING_SETUP_READ (R441): RD of RNG_IDX. -/
def execRingSetupRead (t k : Nat) (s : State) : Res :=
  let v := Word.ofNat (2 ^ 30 + 65536 * k + t)
  .next (s.barWrite rRNG_IDX 0 0 v fun s => s.rngIdxWrite v)

/-- RING_SETUP_STOP (R442): STOP of RNG_IDX. -/
def execRingSetupStop (t k : Nat) (s : State) : Res :=
  let v := Word.ofNat (2 ^ 29 + 65536 * k + t)
  .next (s.barWrite rRNG_IDX 0 0 v fun s => s.rngIdxWrite v)

/-- The ring counters. -/
def rngCounters : List Fld := [RNG_DBERR, RNG_DMARETRY, RNG_DMAFAIL, RNG_VOIDS, RNG_CASKLOST, RNG_EVLOST, RNG_CASKS]

/-- RNG_COUNTER_CLR (R441). -/
def execRngCounterClr (v : Word) (s : State) : Res := .next (s.barWrite rRNG_CLR 0 0 v fun s => s.clrWrite rngCounters v)

end Sys2Proof.Machine
end

