-- ==== Sys2Proof/Machine/Ser.lean ====
section
/-! DEFINITION. Serial ports: templates, queue entries, checks and retries, slave words
(spec/07_serial_memory_and_can_ports.md R193-R202, R220-R223). -/
namespace Sys2Proof.Machine

/-! Templates (R194, R195). -/

/-- A template; empty while uncommitted. -/
def State.tpl (s : State) (n : Nat) : List Nat := s.ser.tpls.get (fun _ => []) n

/-- Port of a template. -/
def tpPort (b : List Nat) : Nat := leAt b 0 1 % 16

/-- Select of a template. -/
def tpSel (b : List Nat) : Nat := leAt b 0 1 / 16 % 8

/-- CONT of a template. -/
def tpCont (b : List Nat) : Bool := nbit (leAt b 0 1) 7

/-- Bytes of a data word. -/
def tpWb (b : List Nat) : Nat := leAt b 1 1 / 8 % 4 + 1

/-- DIR of a template: 0 READ, 1 WRITE, 2 DUPLEX. -/
def tpDir (b : List Nat) : Nat := leAt b 1 1 / 32 % 4

/-- NWORDS of a template. -/
def tpWords (b : List Nat) : Nat := leAt b 6 2

/-- EP of a template. -/
def tpEp (b : List Nat) : Nat := leAt b 24 4

/-- The endpoints of a template: READ and DUPLEX deliver word i to EP + i. -/
def tpEps (b : List Nat) : List Nat := if b.isEmpty ∨ tpDir b = 1 then [] else (List.range (tpWords b)).map fun k => tpEp b + k

/-- SPI mode of a template. -/
def tpMode (b : List Nat) : Nat := leAt b 1 1 % 4

/-- LSBF of a template. -/
def tpLsb (b : List Nat) : Bool := nbit (leAt b 1 1) 2

/-- The low n bits of a value in the order they are sent. -/
def lineBits (lsb : Bool) (n v : Nat) : List Bool :=
  if lsb then (List.range n).map fun k => nbit v k else (List.range n).map fun k => nbit v (n - 1 - k)

/-- The value of n bits received, given as the number they spell with the first of them at the top. -/
def lineVal (lsb : Bool) (n v : Nat) : Nat :=
  if lsb then ((List.range n).map fun k => if nbit v (n - 1 - k) then 2 ^ k else 0).sum else v % 2 ^ n

/-- SCK periods of one selection (R197). -/
def State.selPeriods (s : State) (b : List Nat) : Nat :=
  let p := tpPort b
  s.g (SER_PTIM_CSSETUP p) + leAt b 2 1 + leAt b 3 1 + leAt b 4 1 + 8 * tpWb b * (if tpCont b then tpWords b else 1) +
    s.g (SER_PTIM_CSHOLD p)

/-- Nanoseconds of one run of a template, with the CSIDLE after it (R197, R240). -/
def State.runNs (s : State) (b : List Nat) : Nat :=
  let p := tpPort b
  let n := if tpCont b then 1 else tpWords b
  n * (s.selPeriods b + s.g (SER_PTIM_CSIDLE p)) * 5 * s.g (SER_PCFG_DIV p)

/-- Nanoseconds of n SCK periods of port x, at the increment in force. -/
def State.sckNs (s : State) (x n : Nat) : Nat := n * 6 * s.g (SER_PCFG_DIV x) * s.incr / 2 ^ 32

/-- SCK periods from the assertion of the first select of a run to the negation of its last (R197). -/
def State.runPeriods (s : State) (b : List Nat) : Nat :=
  let n := if tpCont b then 1 else tpWords b
  n * s.selPeriods b + (n - 1) * s.g (SER_PTIM_CSIDLE (tpPort b))

/-- The code a staged template is discarded with (R195). -/
def State.tplFails (s : State) (b : List Nat) : Option Nat :=
  let p := tpPort b
  if nbit (leAt b 1 1) 7 ∨ tpDir b = 3 ∨ 3 ≤ leAt b 5 1 ∨ 2 ^ 17 ≤ tpEp b ∨ leAt b 28 4 ≠ 0 then some RESERVED_NONZERO
  else if 32 < leAt b 2 1 ∨ 32 < leAt b 3 1 ∨ 256 < tpWords b ∨ (tpDir b ≠ 1 ∧ tpWords b = 0 ∧ tpEp b ≠ 0) then some OUT_OF_RANGE
  else if !nbit (s.g (SER_PCS_EN p)) (tpSel b) then some OUT_OF_RANGE
  else if leAt b 5 1 = 2 ∧ (tpWb b ≠ 1 ∨ tpWords b < 2) then some OUT_OF_RANGE
  else if s.on (SER_PCFG_ROLE p) then some NOT_IN_STATE
  else none

/-- The 32 staged bytes. -/
def State.stagedTpl (s : State) : List Nat := ((List.range 8).map fun k => toLe 4 (s.rd (rSER_TPLD.at k 0)).toNat).flatten

/-- A write of SER_TPLIDX: WR commits the staged bytes, RD loads them. -/
def State.tplIdxWrite (s : State) (v : Word) : State :=
  let n := wbits v 9 0
  let ok := (s.tplFails s.stagedTpl).isNone
  let s :=
    if wbit v 31 then
      match s.tplFails s.stagedTpl with
      | some code => s.discard rSER_TPLIDX 0 0 code
      | none => { s with ser := { s.ser with tpls := s.ser.tpls.set (fun _ => []) n s.stagedTpl } }
    else s
  if wbit v 30 ∧ (!wbit v 31 ∨ ok) then
    let b := s.tpl n
    (List.range 8).foldl (fun s k => s.wr (rSER_TPLD.at k 0) (Word.ofNat (leAt b (4 * k) 4))) s
  else s

/-- TEMPLATE_COMMIT (R195). -/
def execTemplateCommit (n : Nat) (s : State) : Res :=
  let v := Word.ofNat (2 ^ 31 + n % 1024)
  .next (s.barWrite rSER_TPLIDX 0 0 v fun s => s.tplIdxWrite v)

/-- TEMPLATE_READ (R195). -/
def execTemplateRead (n : Nat) (s : State) : Res :=
  let v := Word.ofNat (2 ^ 30 + n % 1024)
  .next (s.barWrite rSER_TPLIDX 0 0 v fun s => s.tplIdxWrite v)

/-! Ports. -/

/-- A port. -/
def State.sp (s : State) (x : Nat) : SerPS := s.ser.ports.get (fun _ => {}) x

/-- Sets a port; SER_PxSTS follows it. -/
def State.setSp (s : State) (x : Nat) (p : SerPS) : State :=
  let s : State := { s with ser := { s.ser with ports := s.ser.ports.set (fun _ => {}) x p } }
  (s.f (SER_PSTS_DEPTH x) p.q.length).f (SER_PSTS_BUSY x) (b2n p.run.isSome)

/-- The port counts as idle: no committed template names it, and no enabled slave endpoint (R220). -/
def State.serIdle (s : State) (x : Nat) : Bool :=
  if s.on (SER_PCFG_ROLE x) then
    let r := s.ep (s.g (SER_PSLVEP_EP x))
    !(r.src == srcSLAVE && r.loc == x && r.en)
  else !(s.ser.tpls.cells.any fun c => tpPort c.2 == x)

/-- The port's clocks run and shedding does not stop it (R220). -/
def State.serRuns (s : State) (x : Nat) : Bool := s.coreRuns && !s.watchRuns && !(decide (3 ≤ s.stage) && s.serIdle x)

/-- The port is an enabled master. -/
def State.serMaster (s : State) (x : Nat) : Bool := s.on (SER_PCFG_EN x) && !s.on (SER_PCFG_ROLE x)

/-- The start instant of a queue entry; one not scheduled counts from its arrival. -/
def SerQS.key (q : SerQS) : Nat := q.at_.getD q.due

/-- Entry a goes before entry b, which is behind it in order of arrival (R200). -/
def serBefore (a b : SerQS) : Bool :=
  a.retry || decide (a.key < b.key) || (a.key == b.key && !(a.at_.isSome && b.at_.isSome && decide (b.tpl < a.tpl)))

/-- An entry joins a queue in order of start instant, then of template index, then of arrival (R200). -/
def serInsert (q : SerQS) : List SerQS → List SerQS
  | [] => [q]
  | a :: t => if serBefore a q then a :: serInsert q t else q :: a :: t

/-- A queue entry is put on a port. -/
def State.serPut (s : State) (x : Nat) (q : SerQS) : State := s.setSp x { s.sp x with q := serInsert q (s.sp x).q }

/-- A held placement a goes to the queue before b: by instant, class A first among equals (R240). -/
def heldBefore (a b : SerHS) : Bool := decide (a.at_ < b.at_) || (a.at_ == b.at_ && decide (a.cls ≤ b.cls))

/-- The first of a port's held placements. -/
def State.serHeldFirst (s : State) (x : Nat) : Option SerHS :=
  (s.psc.held.filter fun h => h.port == x).foldl (fun best h =>
    match best with
    | some b => if heldBefore b h then some b else some h
    | none => some h) none

/-- A placement joins the queue: a coincident run of the same template serves both (R238). -/
def State.placeRun (s : State) (h : SerHS) : State :=
  let p := s.sp h.port
  if p.q.any fun q => q.tpl == h.tpl && q.at_ == some h.at_ && !q.retry && q.job.isNone then
    s.setSp h.port { p with q := p.q.map fun q =>
      if q.tpl = h.tpl ∧ q.at_ = some h.at_ ∧ ¬ q.retry = true ∧ q.job.isNone = true then { q with tags := q.tags ++ [h.tag] } else q }
  else if p.q.length < 16 then s.serPut h.port { tpl := h.tpl, at_ := some h.at_, tags := [h.tag], due := h.due }
  else { s with psc := { s.psc with held := s.psc.held ++ [h] } }

/-- Held placements of a port fill its queue (R240). -/
def State.placeHeld (x : Nat) : Nat → State → State
  | 0, s => s
  | n + 1, s =>
    match s.serHeldFirst x with
    | some h =>
      if (s.sp x).q.length < 16 then
        State.placeHeld x n (({ s with psc := { s.psc with held := s.psc.held.erase h } } : State).placeRun h)
      else s
    | none => s

/-- The outgoing words of an entry: its own data, else TXPAT, taken cyclically (R194, R196). -/
def outWords (b : List Nat) (data : List Nat) : List Nat :=
  if tpDir b = 0 then []
  else
    let wb := tpWb b
    let pat := if data.isEmpty then (b.drop 16).take 8 else data
    (List.range (tpWords b)).map fun k => le ((List.range wb).map fun j => pat.getD ((k * wb + j) % max 1 pat.length) 0)

/-- SDO in each SCK cycle of each selection of a run (R196): command, address, dummy cycles, then the data words of the selection. -/
def runBits (b data : List Nat) : List (List Bool) :=
  let bits := lineBits (tpLsb b)
  let head := bits (leAt b 2 1) (leAt b 8 4) ++ bits (leAt b 3 1) (leAt b 12 4) ++ List.replicate (leAt b 4 1) false
  let ws := outWords b data
  let words := (List.range (tpWords b)).map fun k => bits (8 * tpWb b) (ws.getD k 0)
  if tpCont b then [head ++ words.flatten] else words.map fun w => head ++ w

/-- The entry a port runs next (R200): the retry, which runs though the port is stopping (R220), else the head of the queue, due. -/
def State.serNext (s : State) (x : Nat) : Option SerQS :=
  let p := s.sp x
  if p.run.isSome ∨ !s.serMaster x ∨ s.elapsed < p.freeAt then none
  else match p.again, p.q with
    | some q, _ => some q
    | none, q :: _ => if s.serRuns x ∧ q.at_.getD 0 ≤ s.ct then some q else none
    | none, [] => none

/-- The next entry of a master port starts (R196-R198). A select that is not enabled stays negated (R193). -/
def State.serStart (s : State) (x : Nat) : State :=
  match s.serNext x with
  | none => s
  | some q =>
    let p := s.sp x
    let b := if q.retry then q.img else s.tpl q.tpl
    let late := match q.at_ with
      | some t => decide (t + 5 < s.ct)
      | none => false
    let s := if late then s.inc (SER_PLATE x) else s
    let fin := s.elapsed + s.sckNs x (s.runPeriods b)
    let s := s.setSp x { p with
      q := if p.again.isSome then p.q else p.q.drop 1, again := none, run := some { q := q, img := b, ct := s.ct, fin := fin }
      freeAt := s.elapsed + s.sckNs x (s.runPeriods b + s.g (SER_PTIM_CSIDLE x)) }
    let sel := if nbit (s.g (SER_PCS_EN x)) (tpSel b) then some (tpSel b) else none
    let s : State := if s.vioOn (x / 2) then { s with out := .serial x sel (tpMode b) (runBits b q.data) :: s.out } else s
    State.placeHeld x s.psc.held.length (s.event (359 + x) s.ct)

/-- SERIAL_ENTRY_START (R198). -/
def execSerialEntryStart (x : Nat) (s : State) : Res := .next (s.serStart x)

/-- CRC-8 of R199: polynomial 0x1D, start 0xFF. -/
def crc8Bit (c : Nat) : Nat := if 128 ≤ c then Nat.xor (c * 2 % 256) 0x1D else c * 2

/-- One byte of the CRC-8. -/
def crc8Byte (c b : Nat) : Nat :=
  crc8Bit (crc8Bit (crc8Bit (crc8Bit (crc8Bit (crc8Bit (crc8Bit (crc8Bit (Nat.xor c (b % 256)))))))))

/-- The CRC-8 of bytes. -/
def crc8 (bs : List Nat) : Nat := bs.foldl crc8Byte 0xFF

/-- The received words pass the template's check (R199). -/
def serChecks (b : List Nat) (ws : List Nat) : Bool :=
  if tpDir b = 1 then true
  else match leAt b 5 1 with
    | 1 => !(ws.all (fun w => w == 0) || ws.all fun w => w == 256 ^ tpWb b - 1)
    | 2 => ws.getLast? == some (crc8 ws.dropLast)
    | _ => true

/-- The time-stamp of word k of a run that asserted its select at ct (R198). -/
def State.wordCt (s : State) (b : List Nat) (ct k : Nat) : Nat :=
  if tpCont b then ct
  else
    let p := tpPort b
    ct + s.sckNs p (k * (s.selPeriods b + s.g (SER_PTIM_CSIDLE p)))

/-- The words of a passed run reach their endpoints as raw values, and the transactions they serve complete (R195, R199, R245). -/
def State.serDeliver (s : State) (r : SerRS) (ws : List Nat) : State :=
  let b := r.img
  let mine := s.psc.txns.filter fun x => r.q.tags.contains x.tag
  let s := (tpEps b).zipIdx.foldl (fun s x =>
    let t := s.wordCt b r.ct x.2
    let s := s.enqueueRaw { ep := x.1, src := srcSERIAL, loc := r.q.tpl, bytes := toLe (tpWb b) (ws.getD x.2 0), ct := t
                            flags := flagIf (flagIf (s.flagsAt t) fRETRIED r.q.retry) fBURST (mine.any fun x => x.burst) }
    mine.foldl (fun s t => s.pollGot x.1 t.ct r.q.retry) s) s
  r.q.tags.foldl (fun s tag =>
    match s.psc.txns.find? fun x => x.tag == tag with
    | some x => if x.eps.isEmpty then s.finTxn { x with retried := r.q.retry } OK else s.loseTxn x LASTING_FAULT
    | none => s) s

/-- SERIAL_ENTRY_DONE (R196, R199): the last select of a run is negated; each word of `ws` is the number its bits spell with the first
received at the top. Without its bank's supply SDI reads 0 (R646). -/
def execSerialEntryDone (x : Nat) (ws : List Word) (s : State) : Res :=
  .next <|
    let p := s.sp x
    match p.run with
    | none => s
    | some r =>
      let b := r.img
      let ws := (List.range (tpWords b)).map fun k =>
        if s.vioOn (x / 2) then lineVal (tpLsb b) (8 * tpWb b) (ws.getD k 0).toNat else 0
      if s.elapsed < r.fin then s else
      let s := s.setSp x { p with run := none }
      if serChecks b ws then
        let s := if r.q.retry then s.inc (SER_PRETRYOK x) else s
        let s := s.serDeliver r ws
        match r.q.job with
        | some id =>
          let n := if tpDir b = 1 then 0 else tpWords b
          s.finishId id { status := OK, value := n, retried := r.q.retry }
        | none => s
      else if r.q.retry then
        let s := r.q.tags.foldl (fun s tag =>
          match s.psc.txns.find? fun x => x.tag == tag with
          | some x => s.loseTxn x LASTING_FAULT
          | none => s) s
        match r.q.job with
        | some id => s.finishId id { status := LASTING_FAULT }
        | none => s
      else
        let s := s.inc (SER_PCHKERR x)
        s.setSp x { s.sp x with again := some { r.q with at_ := none, retry := true, img := b } }

/-! Slave ports (R201, R202). -/

/-- The bits of a slave word. -/
def State.slvBits (s : State) (x : Nat) : Nat := 8 * (s.g (SER_PCFG_SLVWSIZE x) + 1)

/-- A slave port takes words; without its bank's supply SCK never moves (R646). -/
def State.slaveOn (s : State) (x : Nat) : Bool :=
  s.on (SER_PCFG_EN x) && s.on (SER_PCFG_ROLE x) && s.serRuns x && s.vioOn (x / 2)

/-- n bits received on a slave port, the last `back` ns ago, join its 64-word queue; a full queue loses its oldest (R202). Meanwhile the
port has driven SLVTX on SDO (R201). `v` is the number the bits spell with the first received at the top. -/
def State.slaveWord (s : State) (x n back : Nat) (v : Word) : State :=
  let p := s.sp x
  let lsb := s.on (SER_PCFG_SLVLSB x)
  let s : State := { s with out := .slave x ((lineBits lsb (s.slvBits x) (s.rd (rSER_PSLVTX.at x 0)).toNat).take n) :: s.out }
  let fl := flagIf (s.flagsAt (s.ct - back)) fPARTIAL (decide (n < s.slvBits x))
  let r : RawS := { ep := s.g (SER_PSLVEP_EP x), src := srcSLAVE, loc := x, bytes := toLe 4 (lineVal lsb n v.toNat) ++ [n]
                    ct := s.ct - back, flags := fl }
  if p.words.length < 64 then s.setSp x { p with words := p.words ++ [r] }
  else
    let o := p.words.headD r
    let s := (s.setSp x { p with words := p.words.drop 1 ++ [r] }).inc (SER_PLOST x)
    let e := s.ep o.ep
    if e.src = srcSLAVE ∧ e.loc = x ∧ e.en = true then s.missEp o.ep o.ct gapMISSED else s

/-- SLAVE_WORD_RECEIVED (R201): a whole word, its last bit sampled now. -/
def execSlaveWordReceived (x : Nat) (v : Word) (s : State) : Res :=
  .next (if s.slaveOn x then s.slaveWord x (s.slvBits x) 0 v else s)

/-- SLAVE_SELECT_NEGATED (R202): CS0 is negated with n bits of a word received, the last of them `back` ns ago. -/
def execSlaveSelectNegated (x n back : Nat) (v : Word) (s : State) : Res :=
  .next (if s.slaveOn x ∧ 0 < n ∧ n < s.slvBits x then s.slaveWord x n back v else s)

/-! Registers, stops and resets (R220-R222). -/

/-- Endpoints of a source whose records satisfy a condition. -/
def State.srcEps (s : State) (p : EpS → Bool) : List Nat := (s.ept.recs.cells.filter fun c => c.2.en && p c.2).map Prod.fst

/-- The slave endpoints of a port are interrupted (R454). -/
def State.slaveGap (s : State) (x : Nat) : State := s.interruptAll (s.srcEps fun r => r.src == srcSLAVE && r.loc == x)

/-- A write of SER_PxCFG (R222): clearing EN of a slave interrupts its endpoint (R454). -/
def State.serCfgWrite (s : State) (x : Nat) (v : Word) : State :=
  let p := s.sp x
  let change := wbits v 2 2 != s.g (SER_PCFG_ROLE x) || wbits v 15 8 != s.g (SER_PCFG_DIV x)
  if change ∧ (p.run.isSome ∨ p.again.isSome ∨ !p.q.isEmpty) then s.discard rSER_PCFG x 0 NOT_IN_STATE
  else
    let s := if s.slaveOn x ∧ (!wbit v 0 ∨ !wbit v 2) then s.slaveGap x else s
    s.store rSER_PCFG x 0 v

/-- SERIAL_COUNTER_CLR (R198). -/
def execSerialCounterClr (x : Nat) (v : Word) (s : State) : Res :=
  .next (s.barWrite rSER_PCLR x 0 v fun s => s.clrWrite [SER_PLATE x, SER_PCHKERR x, SER_PRETRYOK x, SER_PLOST x] v)

/-- The serial ports stop (R220): waiting entries leave their queues, transfers among them completing with SHED; running entries
complete, a retry among them; slave endpoints are interrupted. -/
def State.serStop (s : State) : State :=
  let s : State := { s with psc := { s.psc with held := [] } }
  (List.range 16).foldl (fun s x =>
    let p := s.sp x
    let s := s.setSp x { p with q := [], words := [] }
    let s := p.q.foldl (fun s q =>
      match q.job with
      | some id => s.finishId id { status := SHED }
      | none => s) s
    if s.on (SER_PCFG_EN x) ∧ s.on (SER_PCFG_ROLE x) then s.slaveGap x else s) s

/-! SER_XFER (R200, R421). -/

/-- The issuer check: the owner of every endpoint; tenant 0 alone where the template has none. -/
def State.serOwner (s : State) (j : JobS) : Option Nat :=
  let eps := tpEps (s.tpl (dBody j.desc 0 2))
  if eps.isEmpty then (if isT0 j.id.tid then none else some NOT_OWNER)
  else if eps.all fun e => s.owns j.id.tid e then none else some NOT_OWNER

/-- SER_XFER (R421): the template is queued with the tenant's own data. -/
def execSerXfer (s : State) : Res :=
  .next <| s.runJob 0x31 (fun j => s.serOwner j) fun s j =>
    let n := dBody j.desc 0 2
    let b := s.tpl n
    let x := tpPort b
    if 1024 ≤ n ∨ b.isEmpty = true then s.finishWith j BAD_HANDLE
    else if 256 < dBody j.desc 2 2 then s.finishWith j OUT_OF_RANGE
    else if !(s.serMaster x && s.serRuns x) then s.finishWith j NOT_IN_STATE
    else if 16 ≤ (s.sp x).q.length then s.finishWith j BUSY
    else s.serPut x { tpl := n, job := some j.id, data := j.args, due := s.ct }

end Sys2Proof.Machine
end

