-- ==== Sys2Proof/Machine/Sched.lean ====
section
/-! DEFINITION. Schedule entries as commands: lanes and planning, creation, the commit point of a cycle, placements, wheel instants
and deadlines (spec/08_poll_scheduler_and_transactions.md R226-R265). -/
namespace Sys2Proof.Machine

/-! Lanes (R233-R236). -/

/-- PERIOD agrees with a cycle length (R233). -/
def periodFits (kind per l : Nat) : Bool :=
  kind == ekONESHOT || (decide (l ≤ per) && per % l == 0) || (l % per == 0 && decide (2 ≤ l / per) && decide (l / per ≤ 8))

/-- Offset of an instant in its cycle. -/
def cycOfs (l ph t : Nat) : Nat := (t + l - ph % l) % l

/-- The lane offsets of an entry (R234). -/
def laneOffs (kind start per l ph : Nat) : List Nat :=
  if kind = ekONESHOT ∨ per % l = 0 then [cycOfs l ph start]
  else (List.range (l / per)).map fun j => cycOfs l ph (start + j * per)

/-- Adds a SELECT to a lane of a list of lanes. -/
def addLane (o sel : Nat) : List (Nat × Nat) → List (Nat × Nat)
  | [] => [(o, sel)]
  | (p, g) :: t => if p = o then (p, Nat.lor g sel) :: t else (p, g) :: addLane o sel t

/-- The lanes of a bus: offsets with their group sets, leaving out entry `but`. -/
def State.lanesOf (s : State) (b but : Nat) : List (Nat × Nat) :=
  (s.psc.ents.filter fun e => e.idx != but && e.src == exCOURSE && (s.busOf e.nodeid).map Prod.fst == some b).foldl (fun l e =>
    e.offs.foldl (fun l o => addLane o e.select l) l) []

/-- Lanes that can select a group. -/
def lanesFor (g : Nat) (l : List (Nat × Nat)) : List Nat := (l.filter fun x => nbit x.2 g).map Prod.fst

/-- The worst-case frame of a node (R235). -/
def slotSum (reps : List (List Nat)) (l : List (Nat × Nat)) : Nat :=
  12 + (reps.map fun d => (4 + rdSlen d) * (if rdKind d = rkUNTIMED then 1 else (lanesFor (rdGroup d) l).length)).sum

/-- The distances round the cycle from each offset of a list to the next one of it. -/
def gapsOf (l : Nat) (os : List Nat) : List Nat :=
  os.map fun o => (os.filter fun p => p != o).foldl (fun m p => min m ((p + l - o) % l)) l

/-- Every report of a node keeps its MINPERIOD (R236). -/
def spacingOk (reps : List (List Nat)) (len : Nat) (l : List (Nat × Nat)) : Bool :=
  reps.all fun d => rdKind d == rkUNTIMED || (gapsOf len (lanesFor (rdGroup d) l)).all fun g => decide (rdMinPer d ≤ g)

/-- The admitted nodes of a bus. -/
def State.doneNodes (s : State) (b : Nat) : List (Nat × NodeS) :=
  ((List.range 32).filter fun a => (s.node b a).done).map fun a => (a, s.node b a)

/-- An entry fits a bus (R233-R236); answers its lane offsets. -/
def State.fitBus (s : State) (b idx kind start per sel : Nat) : Option (List Nat) :=
  let len := s.cycLen b
  if !periodFits kind per len then none
  else
    let offs := laneOffs kind start per len (s.cycPhase b)
    let l := offs.foldl (fun l o => addLane o sel l) (s.lanesOf b idx)
    if 8 < l.length then none
    else if (s.doneNodes b).all fun n =>
        decide (slotSum n.2.reports l ≤ s.g (CRS_NSLOTLEN b n.1)) && spacingOk n.2.reports len l then some offs
    else none

/-! Polled endpoints and charges (R230, R258, R390). -/

/-- The endpoints a SELECT polls of a node's reports (R230). -/
def courseEps (base : Nat) (reps : List (List Nat)) (sel : Nat) : List Nat :=
  ((repEps base reps).filter fun x => rdKind x.2.1 != rkUNTIMED && nbit sel (rdGroup x.2.1)).map fun x => x.1

/-- The reservation of a node, with its reports, when the hub knows them (R135). -/
def State.resvOf (s : State) (id : Nat) : Option ResvS := s.crs.resv.find? fun r => r.nodeid == id

/-- A source type that delivers without being polled (R390). -/
def EpS.unpolled (r : EpS) : Bool :=
  r.src == srcCANMAP || r.src == srcCANMB || r.src == srcSLAVE || r.src == srcMASHCH || r.src == srcRCGI ||
    (r.src == srcCOURSE && r.untimed)

/-- A stream is charged to SRATE on the hub that holds it (R390). -/
def State.streamCharged (s : State) (first count : Nat) : Bool := (List.range count).any fun k => (s.ep (first + k)).unpolled

/-- A tenant's use of SRATE here: its entries and its charged streams (R258, R390). -/
def State.srateUse (s : State) (t : Nat) : Nat :=
  s.rateUse t + ((s.rng.streams.filter fun st => st.tid == t && s.streamCharged st.first st.count).map StreamS.maxrate).sum

/-! Entries and their nodes (R239). -/

/-- The state an entry runs in once its source is there. -/
def EntS.running (e : EntS) : Nat := if e.kind ≠ ekBURST then esACTIVE else if e.next.isSome then esBURSTING else esDORMANT

/-- An entry takes a state; a suspended one keeps it for its return. -/
def State.putState (s : State) (idx st : Nat) (f : EntS → EntS) : State :=
  s.modEnt idx fun e => let e := f e; { e with under := st, state := if e.state = esSUSPENDED then esSUSPENDED else st }

/-- An entry that passed its checks runs: from the first grid instant whose commit point is still ahead, what it passed before it
being missed (R239); ENDED when its COUNT runs out there. -/
def State.settleRun (s : State) (idx : Nat) : State :=
  match s.ent idx with
  | none => s
  | some e =>
    let s := if e.state = esSUSPENDED then s else match e.next with
      | some n => s.passTo e (s.stillFrom e n)
      | none => s
    match s.ent idx with
    | some e => if e.state = esENDED then s else (s.putState idx e.running id).checkEnd idx
    | none => s

/-- An entry of an admitted node is settled on the node's bus: it runs, or enters NOFIT (R239). -/
def State.settleNode (s : State) (e : EntS) : State :=
  match s.busOf e.nodeid with
  | none => s
  | some (b, a) =>
    let n := s.node b a
    let eps := courseEps n.base n.reports e.select
    let cost := entCost e.kind eps.length e.period
    let owned := isT0 e.tid || eps.all fun x => s.owns e.tid x
    let rest := s.srateUse e.tid - e.cost
    match s.fitBus b e.idx e.kind e.start e.period e.select, owned with
    | some offs, true =>
      if cost ≤ (s.ctx e.tid).srate - rest then
        (s.modEnt e.idx fun e => { e with eps := eps, cost := cost, offs := offs }).settleRun e.idx
      else s.putState e.idx esNOFIT fun e => { e with eps := eps, cost := 0, offs := [] }
    | _, _ => s.putState e.idx esNOFIT fun e => { e with eps := eps, cost := cost, offs := [] }

/-- Entries in NOFIT try again after a change on their bus, in ownership or in a quota (R239). -/
def State.nofitScan (s : State) : State :=
  let s := s.passMissed
  s.psc.ents.foldl (fun s e => if e.under = esNOFIT ∧ (e.state = esNOFIT ∨ e.state = esSUSPENDED) then s.settleNode e else s) s

/-- The entries of a node that has just been admitted, or whose bus is enabled again (R239). -/
def State.entsBack (s : State) (id : Nat) : State :=
  let s := s.passMissed
  s.psc.ents.foldl (fun s e =>
    if e.src = exCOURSE ∧ e.nodeid = id ∧ (e.under = esWAITNODE ∨ e.under = esNOFIT) ∧ e.state ≠ esENDED then s.settleNode e else s) s

/-- The entries of a node whose reservation is released enter ENDED (R239). -/
def State.entsEnd (s : State) (id : Nat) : State :=
  { s with psc := { s.psc with ents := s.psc.ents.map fun e =>
      if e.src = exCOURSE ∧ e.nodeid = id then { e with state := esENDED, under := esENDED, cost := 0, offs := [], next := none } else e } }

/-! Creation (R227-R231, R242). -/

/-- The lowest index that no entry holds and no transaction still uses (R228). -/
def State.freeIdx (s : State) : Option Nat :=
  let used := s.psc.ents.map EntS.idx ++ s.psc.txns.map TxnS.ent
  (List.range (min 32768 (used.length + 1))).find? fun n => !used.contains n

/-- Values in their ranges (R227, R229). -/
def State.entRanges (s : State) (e : EntS) : Bool :=
  (e.kind == ekONESHOT || (decide (1000 ≤ e.period) && decide (e.period ≤ 86400000000000))) &&
    (e.kind != ekBURST || (decide (1 ≤ e.count) && decide (e.count ≤ 1048576) && decide (e.lead ≤ 1000000000))) &&
    (e.src != exCOURSE || e.select != 0) &&
    (e.src != exSERIAL || e.kind == ekONESHOT || decide (s.runNs (s.tpl e.target) ≤ e.period))

/-- The instant of a ONESHOT entry is still reachable (R231). -/
def State.oneshotOk (s : State) (e : EntS) : Bool :=
  e.kind != ekONESHOT ||
    match e.src with
    | 1 =>
      match s.busOf e.nodeid with
      | some (b, _) => decide (s.ct + 8000 ≤ s.cycOf b e.start) && decide (s.openCyc b ≤ e.start)
      | none => decide (s.ct + 8000 ≤ e.start)
    | 2 => decide (s.ct + 2000 ≤ e.start)
    | _ => decide (s.ct + 1000 ≤ e.start)

/-- The group agrees with the entry (R242). -/
def State.groupOk (s : State) (e : EntS) : Bool :=
  e.group == 0 || (s.members e.tid e.group).all fun m =>
    m.kind == e.kind && m.cls == e.cls && m.period == e.period && m.start == e.start &&
      (e.kind != ekBURST || (m.lead == e.lead && m.count == e.count && m.trig == e.trig))

/-- The entry with its node and polled endpoints; none when TARGET names nothing (check 3 of R230). The list is what check 4 holds
the owner to. DEDUCED: an entry for a reservation whose reports are not known stands for every record of it that can be polled. -/
def State.resolveEnt (s : State) (e : EntS) : Option (EntS × List Nat) :=
  match e.src with
  | 1 =>
    let r := s.ep e.target
    if r.src ≠ srcCOURSE ∨ r.nodeid = 0 then none
    else
      match s.resvOf r.nodeid with
      | some v =>
        let eps := courseEps v.base v.reports e.select
        some ({ e with nodeid := r.nodeid, eps := eps }, eps)
      | none =>
        let recs := s.ept.recs.cells.filter fun c => c.2.src == srcCOURSE && c.2.nodeid == r.nodeid
        some ({ e with nodeid := r.nodeid, eps := (recs.filter fun c => !c.2.untimed).map Prod.fst }, recs.map Prod.fst)
  | 2 =>
    let b := s.tpl e.target
    if b.isEmpty then none else some ({ e with eps := tpEps b }, tpEps b)
  | _ => if (s.ep e.target).src = srcWHEEL then some ({ e with eps := [e.target] }, [e.target]) else none

/-- The source of an entry can run (check 5 of R230). -/
def State.srcRuns (s : State) (e : EntS) : Bool :=
  match e.src with
  | 1 => true
  | 2 => s.serMaster (tpPort (s.tpl e.target))
  | _ => s.on (WIN_MCFG_SPDEN (s.ep e.target).loc)

/-- The checks of R230 in order, for a tenant's entry: its refusal, or the entry as it is accepted. -/
def State.createCheck (s : State) (t : Nat) (d : List Nat) : Except Nat EntS :=
  if entReserved d then .error RESERVED_NONZERO
  else if s.quar then .error QUARANTINED
  else match s.resolveEnt { entOf d with tid := t } with
    | none => .error BAD_HANDLE
    | some (e, own) =>
      if !(isT0 t || own.all fun x => s.owns t x) then .error NOT_OWNER
      else if !s.srcRuns e then .error NOT_IN_STATE
      else
        let known := e.src != exCOURSE || (s.resvOf e.nodeid).isSome
        let cost := if known then entCost e.kind e.eps.length e.period else 0
        let fit := match e.src, s.busOf e.nodeid with
          | 1, some (b, _) => s.fitBus b 32768 e.kind e.start e.period e.select
          | _, _ => some []
        if !(s.entRanges e && s.oneshotOk e && s.groupOk e) ∨ fit.isNone then .error OUT_OF_RANGE
        else if e.cls < (s.ctx t).ceil ∨ (s.ctx t).srate < s.srateUse t + cost ∨
            (s.ctx t).entries ≤ (s.psc.ents.filter fun x => x.tid == t).length then .error QUOTA_EXCEEDED
        else match s.freeIdx with
          | none => .error QUOTA_EXCEEDED
          | some n => .ok { e with idx := n, cost := cost, offs := fit.getD [] }

/-- An accepted entry begins (R229, R231, R239). -/
def State.beginEnt (s : State) (e : EntS) : State :=
  let left := if e.kind = ekONESHOT then some 1 else if e.kind = ekBURST then some 0 else if e.count = 0 then none else some e.count
  let waits := e.src == exCOURSE && (s.busOf e.nodeid).isNone
  let next := if e.kind = ekBURST then none else some (if waits then e.gridAt s.ct else s.firstFrom e s.ct)
  let st := if waits then esWAITNODE else if e.kind = ekBURST then esDORMANT else esACTIVE
  let e := { e with left := left, next := next, under := st, state := if s.clsStopped e.cls then esSUSPENDED else st }
  ({ s with psc := { s.psc with ents := s.psc.ents ++ [e] } } : State).pscSts

/-- SCHED_CREATE (R230). -/
def execSchedCreate (s : State) : Res :=
  .next <| s.runJob 0x20 (fun _ => none) fun s j =>
    match s.createCheck j.id.tid j.desc with
    | .error code => (if code = QUOTA_EXCEEDED then s.quotaRefuse else s).finishWith j code
    | .ok e => (s.beginEnt e).finish j { status := OK, value := s.schedHandle e.idx }

/-- An entry ends at once: its committed instants run on (R232). -/
def State.destroyEnt (s : State) (idx : Nat) : State :=
  let s := s.passMissed
  (({ s with psc := { s.psc with ents := s.psc.ents.filter fun e => e.idx != idx } } : State).pscSts).nofitScan

/-- The entry a handle names, or the refusal of R421: free, or another tenant's. -/
def State.entFor (s : State) (t h : Nat) : Except Nat EntS :=
  match s.ent (h % 32768) with
  | none => .error BAD_HANDLE
  | some e => if e.tid = t then .ok e else .error NOT_OWNER

/-- SCHED_DESTROY (R232). -/
def execSchedDestroy (s : State) : Res :=
  .next <| s.runJob 0x21 (fun _ => none) fun s j =>
    match s.entFor j.id.tid (dBody j.desc 0 4) with
    | .error c => s.finishWith j c
    | .ok e => (s.destroyEnt e.idx).finishWith j OK

/-- The status block of an entry (R264). DEDUCED: only an entry ACTIVE or BURSTING has an instant to be committed. -/
def State.entBlock (s : State) (e : EntS) : List Nat :=
  let next := if e.state = esACTIVE ∨ e.state = esBURSTING then e.next.getD (2 ^ 64 - 1) else 2 ^ 64 - 1
  let bus := if e.src = exCOURSE then ((s.busOf e.nodeid).map Prod.fst).getD 255 else 255
  [e.state, b2n e.faulted + 2 * b2n e.latepend, bus, e.offs.length] ++ toLe 8 next ++ toLe 4 e.issued ++
    toLe 4 e.done ++ toLe 4 e.retried ++ toLe 4 e.lasting ++ toLe 4 e.late ++ toLe 4 e.missed ++ [0, 0, 0, 0]

/-- SCHED_QUERY (R264). -/
def execSchedQuery (s : State) : Res :=
  .next <| s.runJob 0x22 (fun _ => none) fun s j =>
    let s := s.passMissed
    match s.entFor j.id.tid (dBody j.desc 0 4) with
    | .error c => s.finishWith j c
    | .ok e =>
      (s.modEnt e.idx fun e => { e with latepend := false }).finish j { status := OK, result := s.entBlock e }

/-- SCHED_TRIGGER (R244): t is the CT of execution. -/
def execSchedTrigger (s : State) : Res :=
  .next <| s.runJob 0x23 (fun _ => none) fun s j =>
    let w := dBody j.desc 0 4
    if w < 2 ^ 31 then
      match s.entFor j.id.tid w with
      | .error c => s.finishWith j c
      | .ok e => if e.kind ≠ ekBURST then s.finishWith j NOT_IN_STATE else (s.trigger e.idx s.ct).finishWith j OK
    else
      match s.members j.id.tid (w % 256) with
      | [] => s.finishWith j BAD_HANDLE
      | e :: _ => if e.kind ≠ ekBURST then s.finishWith j NOT_IN_STATE else (s.triggerGroup j.id.tid (w % 256) s.ct).finishWith j OK

/-! The commit point (R237, R248, R254, R261). -/

/-- An instant that has been carried past its commit point: missed, and late (R254). -/
def State.lateOne (s : State) (idx : Nat) : State :=
  match s.ent idx with
  | some e =>
    match e.next with
    | some n =>
      let s := (s.modEnt idx EntS.advance).missPolls idx n e.eps
      ((s.modEnt idx fun x => { x with late := up x.late, latepend := true, missed := e.missed }).inc PSC_LATE).checkEnd idx
    | none => s
  | none => s


/-- Drops the ARRAY endpoints of a list at shed stage 1 (R261); answers those kept and those dropped. -/
def State.shedArrays (s : State) (eps : List Nat) : List Nat × List Nat :=
  if s.stage = 0 then (eps, []) else eps.partition fun e => !(s.ep e).grist

/-- The groups of a list of reports of one kind. -/
def kindGroups (kind : Nat) (reps : List (List Nat)) : Nat :=
  reps.foldl (fun g d => if rdKind d = kind then Nat.lor g (2 ^ rdGroup d) else g) 0

/-- The groups of the SCALAR reports that an entry polls. -/
def State.scalarGroups (s : State) (e : EntS) : Nat :=
  match s.busOf e.nodeid with
  | some (b, a) => Nat.land e.select (kindGroups rkSCALAR (s.node b a).reports)
  | none => 0

/-- The groups of the ARRAY reports of a bus, removed from its lanes from stage 1 on (R261). -/
def State.arrayGroups (s : State) (b : Nat) : Nat :=
  if s.stage = 0 then 0 else (s.doneNodes b).foldl (fun g n => Nat.lor g (kindGroups rkARRAY n.2.reports)) 0

/-- The entry's next instant is committed to the cycle that starts at c; answers the polls its ARRAY endpoints miss, and what it asks of
its lane: its groups, and of them those of the SCALAR reports it polls. -/
def State.commitOne (s : State) (b c idx : Nat) : State × List (Nat × Nat) × List (Nat × Nat × Nat) :=
  match s.ent idx with
  | some e =>
    match e.next with
    | some n =>
      let (keep, drop) := s.shedArrays e.eps
      let dropped := drop.map fun x => (x, n)
      let lane := (cycOfs (s.cycLen b) (s.cycPhase b) n, e.select, s.scalarGroups e)
      if keep.isEmpty ∧ !e.eps.isEmpty then
        (((s.modEnt idx EntS.advance).modEnt idx fun e => { e with missed := up e.missed }).checkEnd idx, dropped, [lane])
      else
        let r := s.commitInst { e with eps := keep } n b c
        (r.1, dropped, if r.2.isSome then [lane] else [])
    | none => (s, [], [])
  | none => (s, [], [])

/-- Every instant of an entry in the cycle from c on is committed. -/
def State.commitEnt (b c idx : Nat) :
    Nat → State × List (Nat × Nat) × List (Nat × Nat × Nat) → State × List (Nat × Nat) × List (Nat × Nat × Nat)
  | 0, r => r
  | n + 1, (s, m, l) =>
    let (s, m', l') := s.commitOne b c idx
    State.commitEnt b c idx n (s, m ++ m', l ++ l')

/-- The lanes of a cycle: the groups due at each offset, without those of `arrays` that no SCALAR poll there needs; a lane left with
none is left out (R237, R261). -/
def lanesDue (arrays : Nat) (l : List (Nat × Nat × Nat)) : List (Nat × Nat) :=
  let all := l.foldl (fun r x => addLane x.1 x.2.1 r) []
  let need := l.foldl (fun r x => addLane x.1 x.2.2 r) []
  (all.map fun x =>
    (x.1, Nat.lor (Nat.land x.2 (Nat.xor 0xFFFF (Nat.land arrays 0xFFFF))) (((need.find? fun y => y.1 == x.1).map Prod.snd).getD 0))).filter
    fun x => x.2 != 0

/-- Sorts lanes by offset. -/
def laneInsert (x : Nat × Nat) : List (Nat × Nat) → List (Nat × Nat)
  | [] => [x]
  | y :: t => if x.1 ≤ y.1 then x :: y :: t else y :: laneInsert x t

/-- A list of pairs without its repeats. -/
def dedupe (l : List (Nat × Nat)) : List (Nat × Nat) := l.foldl (fun r x => if r.contains x then r else r ++ [x]) []

/-- An entry passes over the instants before t, which it was not due to serve. -/
def EntS.skipTo (e : EntS) (t : Nat) : EntS :=
  match e.next with
  | some n => if n < t then { e with next := some (e.gridAt t), left := e.left.map fun k => k - e.before t } else e
  | none => e

/-- Commits the cycle of bus b that starts at c (R237); a watch cycle takes the first instant of each entry the watch engine runs
(R598). -/
def State.commitCycle (s : State) (b c : Nat) : State :=
  let s := s.passMissed
  let w := (s.bus b).watch
  let on := fun (e : EntS) =>
    e.src == exCOURSE && (e.state == esACTIVE || e.state == esBURSTING) && (!w || e.watch) && (s.busOf e.nodeid).map Prod.fst == some b
  let s := (s.psc.ents.filter on).foldl (fun s e =>
    if w then s.modEnt e.idx fun e => e.skipTo c else times (fun s => s.lateOne e.idx) (e.before c) s) s
  let stop := c + s.cycLen b
  let mine := s.psc.ents.filter on
  let (s, miss, lanes) := mine.foldl (fun r e =>
    let n := e.before (match e.cut with | some c => min c stop | none => stop)
    State.commitEnt b c e.idx (if w then min 1 n else n) r) (s, [], [])
  let s := mine.foldl (fun s e => s.reachCut e.idx) s
  let s := if w then (s.psc.ents.filter on).foldl (fun s e => s.modEnt e.idx fun e => e.skipTo stop) s else s
  let s := (dedupe miss).foldl (fun s x => s.missOnce x.1 x.2) s
  let sa := (lanesDue (s.arrayGroups b) lanes).foldl (fun l x => laneInsert x l) []
  let s := if sa.length ≤ 8 then s else s.incBy PSC_NOFIT (sa.length - 8)
  s.setBus b { s.bus b with plan := some (c, sa.take 8) }

/-- Drops a plan whose cycle is skipped: its instants are missed, and late (R254). -/
def State.dropPlan (s : State) (b : Nat) : State :=
  match (s.bus b).plan with
  | none => s
  | some (c, _) =>
    let s := s.setBus b { s.bus b with plan := none }
    (s.psc.txns.filter fun x => x.bus == b && x.src == exCOURSE && x.cyc == c).foldl (fun s x =>
      let s : State := { s with psc := { s.psc with txns := s.psc.txns.filter fun y => y.tag != x.tag } }
      let s := s.dropTag x.tag
      let was := ((s.ent x.ent).map EntS.missed).getD 0
      let s := (s.missPolls x.ent x.ct x.eps).inc PSC_LATE
      ((s.modEnt x.ent fun e => { e with late := up e.late, latepend := true, missed := was }).checkEnd x.ent).drainStreams) s

/-- The commit point of a cycle of bus b that starts at c has come (R237): 8 µs before it. -/
def State.commitDue (s : State) (b c : Nat) : Bool :=
  s.coreRuns && !s.watchRuns && s.on (CRS_BCFG_EN b) && !s.on (CRS_BSTS_SEGOFF b) && decide (c ≤ s.ct + 8000) &&
    ((s.bus b).plan.map Prod.fst) != some c

/-- The bit time at which a cycle's spare region ends (R250). -/
def State.spareEnd (s : State) (b : Nat) : Nat :=
  let l := (s.bus b).lay
  match l.us.getLast? with
  | some u => u + 10 * (s.g (CRS_BSLOTCFG_SPARELEN b) + 2)
  | none => l.ej

/-- A transaction at its deadline (R250): the polls not yet delivered are lasting faults; one that polls nothing has none. -/
def State.txnDue (s : State) (t : TxnS) : State := if t.eps.isEmpty then s.finTxn t OK else s.loseTxn t LASTING_FAULT

/-- COURSE_DEADLINE (R250): at the end of the spare region the instants that the cycle before announced end as lasting faults; on a
bus that has stopped, every one does. -/
def execCourseDeadline (b : Nat) (s : State) : Res :=
  .next <|
    let x := s.bus b
    let mine := s.psc.txns.filter fun t => t.bus == b && t.src == exCOURSE
    match x.cur with
    | some c =>
      if s.elapsed < c.at_ + 10 * s.spareEnd b then s
      else (mine.filter fun t => t.cyc != c.ref && (x.plan.map Prod.fst) != some t.cyc).foldl State.txnDue s
    | none => (mine.filter fun t => (x.plan.map Prod.fst) != some t.cyc).foldl State.txnDue s

/-! Serial and wheel instants (R240, R241, R254). -/

/-- Of the instants that a forward step has carried past, all but the last are missed; the entry is late once (R254). -/
def State.runLate (s : State) (e : EntS) (tol : Nat) : State :=
  match e.next with
  | some n =>
    if n + tol < s.ct then
      let s := times (State.passOne e.idx) (e.passed s.ct - 1) s
      (s.modEnt e.idx fun e => { e with late := up e.late, latepend := true }).inc PSC_LATE
    else s
  | none => s

/-- The entry runs and its next instant has come, or comes within `ahead`. -/
def State.entDue (s : State) (e : EntS) (src ahead : Nat) : Bool :=
  (if s.watchRuns then s.watchLive && e.watch && e.src == exWHEEL else s.coreRuns) && e.src == src && (e.state == esACTIVE || e.state == esBURSTING) &&
    match e.next with
    | some n => decide (n ≤ s.ct + ahead)
    | none => false

/-- SERIAL_PLACEMENT (R240): 2 µs before an instant its run goes to the port's queue, or is held. -/
def execSerialPlacement (idx : Nat) (s : State) : Res :=
  .next <|
    match s.ent idx with
    | none => s
    | some e =>
      if !s.entDue e exSERIAL 2000 then s
      else
        let s := s.runLate e 0
        match s.ent idx with
        | none => s
        | some e =>
          let n := e.next.getD 0
          let x := tpPort (s.tpl e.target)
          if !s.serRuns x then (((s.modEnt idx EntS.advance).missPolls idx n e.eps).checkEnd idx).reachCut idx
          else
            match s.commitInst e n 0 0 with
            | (s, some tag) =>
              (s.placeRun { port := x, at_ := n, cls := e.cls, tpl := e.target, tag := tag
                            due := s.elapsed + (n - s.ct) + 10000 * s.g PSC_CFG_SERLATE }).reachCut idx
            | (s, none) => s.reachCut idx

/-- SERLATE_EXPIRY (R240): runs of a port not started in time are abandoned. -/
def execSerlateExpiry (x : Nat) (s : State) : Res :=
  .next <|
    let p := s.sp x
    let out := p.q.filter fun q => q.at_.isSome && !q.retry && decide (q.due < s.elapsed)
    let s := s.setSp x { p with q := p.q.filter fun q => !out.contains q }
    let held := s.psc.held.filter fun h => h.port == x && decide (h.due < s.elapsed)
    let s : State := { s with psc := { s.psc with held := s.psc.held.filter fun h => !held.contains h } }
    let s := ((out.map SerQS.tags).flatten ++ held.map SerHS.tag).foldl (fun s tag =>
      match s.psc.txns.find? fun t => t.tag == tag with
      | some t => s.loseTxn t TIMEOUT
      | none => s) s
    State.placeHeld x s.psc.held.length s

/-- The CT at which a wheel endpoint is read for an instant: the instant, or the CT that a forward step reached (R184, R254). -/
def State.wheelAt (s : State) (n : Nat) : Nat := if n + 1 < s.ct then s.ct else n

/-- An entry's instant of a wheel endpoint is committed. In the watch engine its next one is the first of the next 1 s cycle (R598). -/
def State.wheelCommit (s : State) (e : EntS) : State :=
  match e.next with
  | none => s
  | some n =>
    let s := (s.commitInst e n 0 0).1
    if s.watchRuns then s.modEnt e.idx fun e => e.skipTo ((n / 1000000000 + 1) * 1000000000) else s.reachCut e.idx

/-- The reading of a wheel endpoint at an instant, for every entry due on it (R238, R241, R184): the instants a forward step has passed
share the reading at the CT reached (R254). -/
def State.wheelInstant (s : State) (idx : Nat) : State :=
  match s.ent idx with
  | none => s
  | some e =>
    if !s.entDue e exWHEEL 0 then s
    else
      let ep := e.target
      let s := (s.psc.ents.filter fun x => s.entDue x exWHEEL 0 && x.target == ep).foldl (fun s x => s.runLate x 1) s
      match (s.ent idx).bind EntS.next with
      | none => s
      | some n =>
        let t := s.wheelAt n
        let all := s.psc.ents.filter fun x => s.entDue x exWHEEL 0 && x.target == ep && (x.next.map s.wheelAt) == some t
        let ns := (all.filterMap EntS.next).eraseDups
        let s := all.foldl State.wheelCommit s
        let got := ns.filter fun n => s.polled ep n
        if got.isEmpty then s
        else
          let fl := flagIf (s.flagsAt t) fBURST (got.any fun n => s.burstPoll ep n)
          let m := (s.ep ep).loc
          let s := s.enqueueRaw { ep := ep, src := srcWHEEL, loc := m, bytes := s.wheelRaw m t, ct := t, flags := fl }
          got.foldl (fun s n => s.pollGot ep n false) s

/-- WHEEL_INSTANT (R241). -/
def execWheelInstant (idx : Nat) (s : State) : Res := .next (s.wheelInstant idx)

/-! Remote commands (R250, R251, R260) and counters. -/

/-- REMOTE_COMMAND_TIMEOUT (R260): REMTMO after sending, a command is sent once more with its tag; after that it times out. -/
def execRemoteCommandTimeout (tag : Nat) (s : State) : Res :=
  .next <|
    match s.rng.rems.find? fun r => r.tag == tag with
    | none => s
    | some r =>
      if r.stale ∨ s.elapsed < r.at_ + 1000000 * s.g PSC_CFG_REMTMO then s
      else if r.resent then
        let s : State := { s with rng := { s.rng with rems := s.rng.rems.filter fun x => x.tag != tag } }
        (s.dropTag tag).remDone r.tid r.slot { status := TIMEOUT }
      else
        let s : State := { s with rng := { s.rng with
          rems := s.rng.rems.map fun x => if x.tag = tag then { x with at_ := s.elapsed, resent := true } else x } }
        let s := match (s.tr r.tid).cmds.find? fun c => c.slot == r.slot with
          | some c => if dOpc c.desc = 0x60 then s.sendImage r.dst tag (c.args.length / 4096 + 1) 0 c.args else s
          | none => s
        (s.sendMsg clsCMD 1 r.dst r.body).inc PSC_REMRESEND

/-- The scheduler's counters (R264). -/
def pscCounters : List Fld :=
  [PSC_TAGHWM, PSC_ISSUED, PSC_RETRYOK, PSC_LASTING, PSC_LATE, PSC_SHEDMISS, PSC_NOTAGA, PSC_NOTAGB, PSC_NOTAGC, PSC_OVERSAMPLE,
    PSC_TRIGLOST, PSC_REMRESEND, PSC_NOFIT]

/-- PSC_COUNTER_CLR (R265): PSC_CLR. -/
def execPscCounterClr (v : Word) (s : State) : Res :=
  .next (s.barWrite rPSC_CLR 0 0 v fun s => s.clrWrite pscCounters v)

end Sys2Proof.Machine
end

