-- ==== Sys2Proof/Machine/Ept.lean ====
section
/-! DEFINITION. Endpoint records, the decoder, table images and the switch of banks
(spec/09_endpoints_formats_and_curves.md R269-R305). -/
namespace Sys2Proof.Machine

/-! Records as bytes (R269, R270). -/

/-- The 32 bytes of a record. -/
def EpS.pack (r : EpS) : List Nat :=
  [r.src, r.ctl] ++ toLe 2 r.fmt ++ toLe 2 r.curve ++ toLe 2 r.quant ++ [r.unit, r.exp, 0, 0] ++ toLe 4 r.loc ++ toLe 8 r.nodeid ++
    [r.report, r.elemsize] ++ toLe 2 r.elem ++ [0, 0, 0, 0]

/-- A record from its bytes. -/
def EpS.unpack (b : List Nat) : EpS :=
  { src := leAt b 0 1, ctl := leAt b 1 1, fmt := leAt b 2 2, curve := leAt b 4 2, quant := leAt b 6 2, unit := leAt b 8 1
    exp := leAt b 9 1, loc := leAt b 12 4, nodeid := leAt b 16 8, report := leAt b 24 1, elemsize := leAt b 25 1
    elem := leAt b 26 2 }

/-- A UNIT code is reserved (R276). -/
def unitReserved (u : Nat) : Bool := (decide (0x14 ≤ u) && decide (u ≤ 0xEF)) || u == 0xFF

/-- EXP lies in −12 to +6. -/
def expOk (x : Nat) : Bool := decide (-12 ≤ signed 8 x) && decide (signed 8 x ≤ 6)

/-- A locator fits its source type's field (R270). -/
def locFits (src loc : Nat) : Bool :=
  decide (loc < match src with
    | 2 => 1024
    | 3 => 16
    | 5 => 512
    | 6 => 32
    | 7 => 8192
    | 8 => 16384
    | _ => 1)

/-- A source type that may have no format. -/
def formless (src : Nat) : Bool := src == srcMASHCH || src == srcRCGI

/-- Check 1 of R272 fails for the bytes of a record over its present contents. -/
def recReserved (b : List Nat) (old : EpS) : Bool :=
  let r := EpS.unpack b
  decide (8 ≤ r.ctl) || decide (8 < r.src) || !locFits r.src r.loc || unitReserved r.unit || leAt b 10 2 != 0 || leAt b 28 4 != 0 ||
    (r.src != srcCOURSE && (r.nodeid != 0 || r.report != 0 || r.elemsize != 0 || r.elem != 0)) || r.ctl / 2 != old.ctl / 2

/-! Banks (R282, R286, R291, R293). -/

/-- Entries of a section of an image: its count and offset fields, and the size of an entry. -/
def bankEnts (img : List Nat) (cnt cntLen ofs size : Nat) : List (List Nat) :=
  let b := img.drop (leAt img ofs 4)
  (List.range (leAt img cnt cntLen)).map fun k => (b.drop (size * k)).take size

/-- Format entries. -/
def imgFmts (img : List Nat) : List (List Nat) := bankEnts img 16 2 32 32

/-- Curve entries. -/
def imgCurves (img : List Nat) : List (List Nat) := bankEnts img 18 2 36 16

/-- Knots, eight bytes each. -/
def imgKnots (img : List Nat) : List (List Nat) := bankEnts img 20 4 40 8

/-- CAN map entries. -/
def imgCans (img : List Nat) : List (List Nat) := bankEnts img 24 2 44 16

/-- Attachment entries. -/
def imgAtts (img : List Nat) : List (List Nat) := bankEnts img 28 4 48 16

/-- TABLEGEN of a bank; 0 when it is empty. -/
def imgGen (img : List Nat) : Nat := leAt img 12 4

/-- The entry with an INDEX. -/
def findIdx (l : List (List Nat)) (n : Nat) : Option (List Nat) := l.find? fun b => leAt b 0 2 == n

/-- The format of an index. -/
def bankFmt (img : List Nat) (n : Nat) : Option (List Nat) := findIdx (imgFmts img) n

/-- The knots of a curve, as inputs and outputs. -/
def curveKnots (img c : List Nat) : List (Int × Int) :=
  ((imgKnots img).drop (leAt c 4 4)).take (leAt c 2 1) |>.map fun k => (signed 32 (leAt k 0 4), signed 32 (leAt k 4 4))

/-- FMT is defined in a bank, or 0xFFFF. -/
def fmtIn (img : List Nat) (n : Nat) : Bool := n == 0xFFFF || (bankFmt img n).isSome

/-- CURVE is defined in a bank, or 0xFFFF. -/
def curveIn (img : List Nat) (n : Nat) : Bool := n == 0xFFFF || (findIdx (imgCurves img) n).isSome

/-- The attachment of an endpoint in an image, with its place in the list. -/
def attOf (img : List Nat) (e : Nat) : Option (Nat × List Nat) :=
  ((imgAtts img).zipIdx.find? fun x => leAt x.1 0 4 == e).map fun x => (x.2, x.1)

/-- A record as an attachment leaves it (R293). -/
def EpS.attached (r : EpS) (a : List Nat) : EpS :=
  { r with fmt := leAt a 4 2, curve := leAt a 6 2, quant := leAt a 8 2, unit := leAt a 10 1, exp := leAt a 11 1 }

/-! Arithmetic of the decoder (R281-R289). -/

/-- Rounds num / den to the nearest integer, ties away from zero (R281). -/
def divRound (num den : Int) : Int :=
  let n := if den < 0 then -num else num
  let d := den.natAbs
  let q : Int := (2 * n.natAbs + d) / (2 * d)
  if n < 0 then -q else q

/-- Saturates to 32 bits signed; tells whether it did (R289). -/
def sat32 (x : Int) : Int × Bool :=
  if x < -(2 ^ 31) then (-(2 ^ 31), true) else if 2 ^ 31 - 1 < x then (2 ^ 31 - 1, true) else (x, false)

/-- The bits of a field of a raw value (R283). -/
def rawField (raw : List Nat) (ofs wid : Nat) (be : Bool) : Nat :=
  if be then le (((raw.drop (ofs / 8)).take (wid / 8)).reverse) else nbits (le raw) (ofs + wid - 1) ofs

/-- The value of a field. -/
def fieldVal (v wid : Nat) (sgn : Bool) : Int := if sgn then signed wid v else (v : Int)

/-- x times 2 to the power n, over 2 to the power m, rounded. -/
def scaled (x : Int) (n m : Nat) : Int := divRound (x * 2 ^ n) (2 ^ m)

/-- Step 5 for FLOAT32 (R284): the exact value times 2^SHIFT; a NaN answers the code, an infinity an X beyond the limits. -/
def floatX (a : Nat) (shift : Int) : Except Nat Int :=
  let m : Nat := a % 2 ^ 23
  let e : Nat := a / 2 ^ 23 % 256
  let neg := nbit a 31
  if e = 255 then (if m = 0 then .ok (if neg then -(2 ^ 32) else 2 ^ 32) else .error 4)
  else
    let mant : Int := if e = 0 then (m : Int) else (m : Int) + 2 ^ 23
    let k : Int := (if e = 0 then 1 else (e : Int)) - 150 + shift
    let x := if 0 ≤ k then scaled mant k.toNat 0 else scaled mant 0 (-k).toNat
    .ok (if neg then -x else x)

/-- Steps 2-5 of R280: X before its saturation, or the invalid code. -/
def formX (f raw : List Nat) : Except Nat Int :=
  let fl := leAt f 3 1
  let awid := leAt f 6 1
  let bwid := leAt f 7 1
  let a := rawField raw (leAt f 4 2) awid (nbit fl 2)
  if raw.length < leAt f 11 1 then .error 1
  else if nbit fl 5 ∧ rawField raw (leAt f 12 2) (leAt f 14 1) false ≠ leAt f 16 4 then .error 2
  else if nbit fl 4 ∧ a = leAt f 20 8 % 2 ^ awid then .error 3
  else match leAt f 2 1 with
    | 1 => .ok (scaled (fieldVal a awid (nbit fl 0)) 0 (leAt f 10 1))
    | 2 => floatX a (signed 8 (leAt f 10 1))
    | _ =>
      let av := fieldVal a awid (nbit fl 0)
      let bv := fieldVal (rawField raw (leAt f 8 2) bwid (nbit fl 3)) bwid (nbit fl 1)
      if bv = 0 then (if av = 0 then .ok 0 else .error 5) else .ok (divRound (av * 2 ^ leAt f 10 1) bv)

/-- The line through two knots at x (R287). -/
def lineAt (p q : Int × Int) (x : Int) : Int := divRound (p.2 * (q.1 - p.1) + (x - p.1) * (q.2 - p.2)) (q.1 - p.1)

/-- The lowest segment that holds x. -/
def segAt : List (Int × Int) → Int → Option Int
  | p :: q :: t, x => if p.1 ≤ x ∧ x ≤ q.1 then some (lineAt p q x) else segAt (q :: t) x
  | _, _ => none

/-- A curve at x (R287, R288): V before its saturation or none for REFUSE, and whether x lay outside the knots. -/
def curveAt (c : List Nat) (ks : List (Int × Int)) (x : Int) : Option Int × Bool :=
  let ext := leAt c 3 1
  let n := ks.length
  let p0 := ks.getD 0 (0, 0)
  let pn := ks.getD (n - 1) (0, 0)
  let out (mode : Nat) (cl : Int) (p q : Int × Int) : Option Int × Bool :=
    match mode with
    | 0 => (some cl, true)
    | 1 => (some (lineAt p q x), true)
    | _ => (none, true)
  if x < p0.1 then out (ext % 4) p0.2 p0 (ks.getD 1 (0, 0))
  else if pn.1 < x then out (ext / 4 % 4) pn.2 (ks.getD (n - 2) (0, 0)) pn
  else (segAt ks x, false)

/-- What decoding yields: V, the invalid code or 0, saturations, and whether the curve was left. -/
structure DecR where
  v : Int := 0
  bad : Nat := 0
  clips : Nat := 0
  extrap : Bool := false
deriving DecidableEq, Repr

/-- Steps 2-6 of R280 with a format (none for 0xFFFF) and a curve with its knots (none for the identity). -/
def decodeWith (f : Option (List Nat)) (c : Option (List Nat × List (Int × Int))) (raw : List Nat) : DecR :=
  match (match f with
    | some f => formX f raw
    | none => .ok (signed 32 (leAt raw 0 4))) with
  | .error code => { bad := code }
  | .ok x =>
    let (x, cx) := sat32 x
    match c with
    | none => { v := x, clips := b2n cx }
    | some (c, ks) =>
      match curveAt c ks x with
      | (none, out) => { bad := 6, clips := b2n cx, extrap := out }
      | (some v, out) =>
        let (v, cv) := sat32 v
        { v := v, clips := b2n cx + b2n cv, extrap := out }

/-- The decoding of a raw value by a bank's format and curve; none when the bank lacks one of them. -/
def bankDecode (img : List Nat) (fmt curve : Nat) (raw : List Nat) : Option DecR :=
  let f := if fmt = 0xFFFF then some none else (bankFmt img fmt).map some
  let c := if curve = 0xFFFF then some none
    else (findIdx (imgCurves img) curve).map fun c => some (c, curveKnots img c)
  match f, c with
  | some f, some c => some (decodeWith f c raw)
  | _, _ => none

/-! Decoding (R274, R280, R285, R296, R297). -/

/-- Switch states (R295). -/
abbrev swEMPTY : Nat := 0
abbrev swLOADING : Nat := 1
abbrev swREADY : Nat := 2
abbrev swPENDING : Nat := 3
abbrev swRETIRING : Nat := 4
abbrev swSTORING : Nat := 5

/-- The switch state. -/
def State.sw (s : State) : Nat := s.g EPT_SWSTS_STATE

/-- FMT and CURVE of an endpoint before a switch. -/
def State.oldForm (s : State) (e : Nat) : Nat × Nat :=
  match s.ept.oldRecs.find? fun x => x.1 == e with
  | some (_, r) => (r.fmt, r.curve)
  | none => ((s.ep e).fmt, (s.ep e).curve)

/-- The bank, FMT and CURVE for a value stamped at ct (R296). -/
def State.formFor (s : State) (e ct : Nat) : List Nat × Nat × Nat :=
  if s.sw = swRETIRING ∧ ct < s.ept.swct then (s.ept.old, s.oldForm e) else (s.ept.active, (s.ep e).fmt, (s.ep e).curve)

/-- The sample flags and the value word of a decoding (R278, R279, R285). -/
def DecR.flags (d : DecR) (fl : Nat) : Nat :=
  flagIf (flagIf (flagIf fl fVALID (d.bad == 0)) fCLIPPED (decide (0 < d.clips))) fCURVE_EXTRAP d.extrap

/-- V as delivered: the value, or the invalid code. -/
def DecR.word (d : DecR) : Nat := if d.bad = 0 then unsigned 32 d.v else d.bad

/-- The decoder's counters follow a decoding. -/
def State.countDec (s : State) (d : DecR) : State :=
  let s := s.incBy EPT_CLIPPED d.clips
  let s := if d.extrap then s.inc EPT_EXTRAP else s
  if d.bad = 0 then s else s.inc EPT_INVSAMP

/-- Step 7 of R280: a sample reaches mash channels, recognizers and streams; an invalid one is missing to the first two. -/
def State.fanOut (s : State) (e ct fl : Nat) (past : Int) (d : DecR) : State :=
  let v := if d.bad = 0 then some d.v else none
  ((s.mashFeed e ct fl v).rcgFeed e ct fl v past).streamSample e fl ct d.word

/-- A value stamped at or after SWCT shows that its MASH or RCG endpoint has gone over to the new bank (R297). -/
def State.overSwitch (s : State) (e ct : Nat) : State :=
  if s.ept.swct ≤ ct then { s with ept := { s.ept with waitEps := s.ept.waitEps.filter fun x => x != e } } else s

/-- One raw value through the decoder. -/
def State.decodeRaw (s : State) (x : RawS) : State :=
  let r := s.ep x.ep
  if !r.takes x then s.inc EPT_DISCARD
  else if (match s.ept.retired with | some b => decide (x.ct < b) | none => false) then
    (((s.inc EPT_STRAGGLE).f EPT_SWSTS_STRAGGLED 1).missEp x.ep x.ct gapSTRAGGLED)
  else
    let s := s.overSwitch x.ep x.ct
    let (img, fmt, curve) := s.formFor x.ep x.ct
    match bankDecode img fmt curve x.bytes with
    | none => s.inc EPT_DISCARD
    | some d => (s.countDec d).fanOut x.ep x.ct (d.flags x.flags) x.past d

/-- The words held at the slave ports join the decoder's queue while it has room (R202). -/
def State.drainSlaves (s : State) : State :=
  (List.range 16).foldl (fun s p =>
    let n := 4096 - s.ept.queue.length
    let w := (s.sp p).words
    if w.isEmpty then s
    else
      let s : State := { s with ept := { s.ept with queue := s.ept.queue ++ w.take n } }
      s.setSp p { s.sp p with words := w.drop n }) s

/-- The head of the decoder's queue is decoded. -/
def State.decodeHead (s : State) : State :=
  match s.ept.queue with
  | [] => s
  | x :: t => (({ s with ept := { s.ept with queue := t } } : State).decodeRaw x).drainStreams

/-- The decoder and the recognizers run, in the core or in the watch engine (R301, R366). -/
def State.decRuns (s : State) : Bool := if s.watchRuns then s.watchLive && !s.booting else s.coreRuns

/-- DECODE (R280, R301). -/
def execDecode (s : State) : Res := .next (if s.decRuns then (if s.coreRuns then s.drainSlaves else s).decodeHead else s)

/-! Records (R272, R273). -/

/-- The node of a record is admitted (R272 check 3). -/
def State.recAdmitted (s : State) (r : EpS) : Bool := r.src == srcCOURSE && r.nodeid != 0 && (s.busOf r.nodeid).isSome

/-- Check 4 of R272 holds for a record at an index. -/
def State.recRanges (s : State) (e : Nat) (r : EpS) : Bool :=
  expOk r.exp && (r.fmt != 0xFFFF || formless r.src) &&
    match r.src with
    | 1 => (r.elemsize == 1 || r.elemsize == 2 || r.elemsize == 4 || r.elemsize == 8) && decide (r.elem ≤ 1023)
    | 2 =>
      let b := s.tpl r.loc
      !b.isEmpty && decide (tpEp b ≤ e) && decide (e < tpEp b + tpWords b)
    | 3 => s.g (SER_PSLVEP_EP r.loc) == e
    | _ => true

/-- Check 5 of R272: a source that only one record may name. -/
def State.recUnique (s : State) (e : Nat) (r : EpS) : Bool :=
  !(r.src == srcSLAVE || r.src == srcCANMB || r.src == srcWHEEL || r.src == srcMASHCH || r.src == srcRCGI) ||
    !s.ept.recs.cells.any fun c => c.1 != e && c.2.src == r.src && c.2.loc == r.loc

/-- Check 6 of R272. -/
def State.recForms (s : State) (e : Nat) (r : EpS) : Bool :=
  fmtIn s.ept.active r.fmt && curveIn s.ept.active r.curve &&
    (!r.en ||
      if s.sw = swPENDING then
        let x := match attOf s.ept.staged e with
          | some (_, a) => r.attached a
          | none => r
        fmtIn s.ept.staged x.fmt && curveIn s.ept.staged x.curve
      else if s.sw = swRETIRING then
        let (f, c) := match s.ept.oldRecs.find? fun x => x.1 == e with
          | some (_, o) => (o.fmt, o.curve)
          | none => (r.fmt, r.curve)
        fmtIn s.ept.old f && curveIn s.ept.old c
      else true)

/-- The first check of R272 that the bytes of a record fail. -/
def State.recFails (s : State) (e : Nat) (b : List Nat) : Option Nat :=
  let old := s.ep e
  let r := EpS.unpack b
  if recReserved b old then some RESERVED_NONZERO
  else if (s.sw = swPENDING ∨ s.sw = swRETIRING) ∧ (r.fmt, r.curve, r.unit, r.exp) ≠ (old.fmt, old.curve, old.unit, old.exp) then some BUSY
  else if s.recAdmitted old ∧
      (r.src, r.nodeid, r.report, r.elemsize, r.elem) ≠ (old.src, old.nodeid, old.report, old.elemsize, old.elem) then some NOT_IN_STATE
  else if !s.recRanges e r then some OUT_OF_RANGE
  else if !s.recUnique e r then some OUT_OF_RANGE
  else if !s.recForms e r then some TABLE_INVALID
  else none

/-- A record is written. A node whose records change holds no reservation that the hub knows (R271, R135); an enabled MASH or RCG
endpoint is one more that a retiring bank waits for (R297). -/
def State.putRec (s : State) (e : Nat) (r : EpS) : State :=
  let old := s.ep e
  let moved := (r.src, r.nodeid, r.report, r.elemsize, r.elem) ≠ (old.src, old.nodeid, old.report, old.elemsize, old.elem)
  let s : State :=
    if moved ∧ old.src = srcCOURSE then { s with crs := { s.crs with resv := s.crs.resv.filter fun x => x.nodeid != old.nodeid } } else s
  let s : State :=
    if s.sw = swRETIRING ∧ formless r.src = true ∧ r.en = true ∧ !old.en then
      { s with ept := { s.ept with waitEps := s.ept.waitEps ++ [e] } }
    else s
  let s := if old.src = srcFREE then s.setOwner e (s.bindOwner e r) else s
  s.setEp e r

/-- A record is bound, or named by an entry, a stream, a mash channel or a recognizer (R273). -/
def State.recInUse (s : State) (e : Nat) : Bool :=
  s.ownerUid e != 0 || (s.psc.ents.any fun x => x.eps.contains e || (x.src != exSERIAL && x.target == e)) ||
    (s.rng.streams.any fun st => st.covers e) ||
    (s.msh.chans.cells.any fun c => wbit c.2.cfg 31 && wbits c.2.cfg 13 12 == 0 && c.2.inp.toNat == e) ||
    s.rcg.insts.any fun x => x.2.ins.contains (some e) || x.2.outep == e

/-- The records that a release of one record returns to FREE: a node's whole reservation. -/
def State.relRecs (s : State) (e : Nat) : List Nat :=
  let r := s.ep e
  if r.src = srcCOURSE then (s.ept.recs.cells.filter fun c => c.2.src == srcCOURSE && c.2.nodeid == r.nodeid).map Prod.fst else [e]

/-- The staged bytes of a record. -/
def State.stagedRec (s : State) : List Nat := ((List.range 8).map fun k => toLe 4 (s.rd (rEPT_D.at k 0)).toNat).flatten

/-- A write of EPT_IDX (R272, R273, R303). -/
def State.eptIdxWrite (s : State) (v : Word) : State :=
  let e := wbits v 16 0
  if (wbit v 31 ∧ (wbit v 30 ∨ wbit v 29)) ∨ (wbit v 30 ∧ wbit v 29) then s.discard rEPT_IDX 0 0 RESERVED_NONZERO
  else if wbit v 31 then
    match s.recFails e s.stagedRec with
    | some c => s.discard rEPT_IDX 0 0 c
    | none => s.putRec e (EpS.unpack s.stagedRec)
  else if wbit v 30 then
    let b := (s.ep e).pack
    (List.range 8).foldl (fun s k => s.f (EPT_D k) (leAt b (4 * k) 4)) s
  else if wbit v 29 then
    if (s.ep e).src = srcFREE then s
    else
      let l := s.relRecs e
      if l.any fun x => s.recAdmitted (s.ep x) then s.discard rEPT_IDX 0 0 NOT_IN_STATE
      else if l.any s.recInUse then s.discard rEPT_IDX 0 0 BUSY
      else l.foldl (fun s x => s.putRec x {}) s
  else s

/-- RECORD_COMMIT (R272): WR of EPT_IDX. -/
def execRecordCommit (e : Nat) (s : State) : Res :=
  let v := Word.ofNat (2 ^ 31 + e)
  .next (s.barWrite rEPT_IDX 0 0 v fun s => s.eptIdxWrite v)

/-- RECORD_READ (R272): RD of EPT_IDX. -/
def execRecordRead (e : Nat) (s : State) : Res :=
  let v := Word.ofNat (2 ^ 30 + e)
  .next (s.barWrite rEPT_IDX 0 0 v fun s => s.eptIdxWrite v)

/-- RECORD_RELEASE (R273): REL of EPT_IDX. -/
def execRecordRelease (e : Nat) (s : State) : Res :=
  let v := Word.ofNat (2 ^ 29 + e)
  .next (s.barWrite rEPT_IDX 0 0 v fun s => s.eptIdxWrite v)

/-! Validation of an image (R291-R294). A failure is its reason and its location. -/

/-- The sections of an image: count, offset field, offset and length in bytes. -/
def imgSections (img : List Nat) : List (Nat × Nat × Nat × Nat) :=
  let sec (n size ofs : Nat) := (n, ofs, leAt img ofs 4, n * size)
  [sec (leAt img 16 2) 32 32, sec (leAt img 18 2) 16 36, sec (leAt img 20 4) 8 40, sec (leAt img 24 2) 16 44, sec (leAt img 28 4) 16 48]

/-- Two sections overlap. -/
def secsOverlap (a b : Nat × Nat × Nat × Nat) : Bool :=
  a.1 != 0 && b.1 != 0 && decide (a.2.2.1 < b.2.2.1 + b.2.2.2) && decide (b.2.2.1 < a.2.2.1 + a.2.2.2)

/-- A section breaks R292 by itself. -/
def secBad (len : Nat) (x : Nat × Nat × Nat × Nat) : Bool :=
  x.1 != 0 && (x.2.2.1 % 16 != 0 || decide (x.2.2.1 < 64) || decide (len < x.2.2.1 + x.2.2.2 + 4))

/-- HEADER, MAGIC to LENGTH: the offset of the field at fault. -/
def headFirst (img : List Nat) : Option Nat :=
  if leAt img 0 4 ≠ 0x42544456 then some 0
  else if leAt img 4 2 ≠ 1 then some 4
  else if leAt img 8 4 < 68 then some 8
  else none

/-- HEADER, counts and sections. -/
def headRest (img : List Nat) : Option Nat :=
  let excess (ofs n lim : Nat) : Option Nat := if lim < leAt img ofs n then some ofs else none
  let l := imgSections img
  excess 16 2 4096 <|> excess 18 2 4096 <|> excess 20 4 65536 <|> excess 24 2 2048 <|> excess 28 4 131072 <|>
    ((l.find? (secBad (leAt img 8 4))).map fun x => x.2.1) <|>
    ((l.find? fun x => l.any fun y => y.2.1 < x.2.1 && secsOverlap y x).map fun x => x.2.1)

/-- The first entry of a section, with its place, for which `f` answers an offset inside it. -/
def entFail (base size : Nat) (f : List Nat → Option Nat) : Nat → List (List Nat) → Option Nat
  | _, [] => none
  | n, b :: t =>
    match f b with
    | some o => some (base + size * n + o)
    | none => entFail base size f (n + 1) t

/-- The first of a list of offsets whose condition holds. -/
def firstBad (l : List (Nat × Bool)) : Option Nat := (l.find? fun x => x.2).map Prod.fst

/-- RESERVED in a format entry (R282, R6). -/
def fmtReserved (f : List Nat) : Option Nat :=
  let k := leAt f 2 1
  let fl := leAt f 3 1
  firstBad [(2, k == 0 || decide (3 < k)), (3, decide (64 ≤ fl)), (7, k != 3 && leAt f 7 1 != 0), (8, k != 3 && leAt f 8 2 != 0),
    (12, !nbit fl 5 && leAt f 12 2 != 0), (14, !nbit fl 5 && leAt f 14 1 != 0), (15, leAt f 15 1 != 0),
    (16, !nbit fl 5 && leAt f 16 4 != 0), (20, !nbit fl 4 && leAt f 20 8 != 0), (28, leAt f 28 4 != 0)]

/-- A mode of EXT is reserved, or a bit above them. -/
def extReserved (x : Nat) : Bool := x % 4 == 3 || x / 4 % 4 == 3 || decide (16 ≤ x)

/-- The lower of two locations. -/
def lower (a b : Option Nat) : Option Nat :=
  match a, b with
  | some x, some y => some (min x y)
  | none, y => y
  | x, none => x

/-- RESERVED in an image: the lowest location. -/
def imgReserved (img : List Nat) : Option Nat :=
  let hd := firstBad [(6, leAt img 6 2 != 0), (26, leAt img 26 2 != 0), (52, leAt img 52 8 != 0 || leAt img 60 4 != 0)]
  hd <|>
    lower (entFail (leAt img 32 4) 32 fmtReserved 0 (imgFmts img))
      (lower (entFail (leAt img 36 4) 16 (fun c => firstBad [(3, extReserved (leAt c 3 1)), (8, leAt c 8 8 != 0)]) 0 (imgCurves img))
        (lower
          (entFail (leAt img 44 4) 16 (fun c => firstBad [(0, nbit (leAt c 0 4) 31), (4, nbit (leAt c 4 4) 31 || nbit (leAt c 4 4) 29),
            (11, leAt c 11 1 != 0), (12, decide (131072 ≤ leAt c 12 4))]) 0 (imgCans img))
          (entFail (leAt img 48 4) 16 (fun a => firstBad [(0, decide (131072 ≤ leAt a 0 4)), (10, unitReserved (leAt a 10 1)),
            (12, leAt a 12 4 != 0)]) 0 (imgAtts img))))

/-- The first entry whose key is not above the one before. -/
def orderFail (base size : Nat) (key : List Nat → Nat) : Option Nat → Nat → List (List Nat) → Option Nat
  | _, _, [] => none
  | p, n, b :: t =>
    if (match p with | some k => decide (key b ≤ k) | none => false) then some (base + size * n)
    else orderFail base size key (some (key b)) (n + 1) t

/-- ORDER in an image. -/
def imgOrder (img : List Nat) : Option Nat :=
  orderFail (leAt img 32 4) 32 (fun b => leAt b 0 2) none 0 (imgFmts img) <|>
    orderFail (leAt img 36 4) 16 (fun b => leAt b 0 2) none 0 (imgCurves img) <|>
    orderFail (leAt img 48 4) 16 (fun b => leAt b 0 4) none 0 (imgAtts img)

/-- FORMAT in a format entry (R282, R283): the offset of the field at fault. -/
def fmtFail (f : List Nat) : Option Nat :=
  let k := leAt f 2 1
  let fl := leAt f 3 1
  let aofs := leAt f 4 2
  let awid := leAt f 6 1
  let bwid := leAt f 7 1
  let bofs := leAt f 8 2
  let sh := leAt f 10 1
  let rm := leAt f 11 1
  let sofs := leAt f 12 2
  let swid := leAt f 14 1
  firstBad [(0, decide (4095 < leAt f 0 2)),
    (3, (k == 2 && nbit fl 0) || (k != 3 && (nbit fl 1 || nbit fl 3))),
    (4, decide (575 < aofs) || (nbit fl 2 && aofs % 8 != 0)),
    (6, awid == 0 || decide (64 < awid) || (k == 2 && awid != 32) || (nbit fl 2 && awid % 8 != 0)),
    (7, k == 3 && (bwid == 0 || decide (64 < bwid) || (nbit fl 3 && bwid % 8 != 0))),
    (8, k == 3 && (decide (575 < bofs) || (nbit fl 3 && bofs % 8 != 0))),
    (10, (k == 1 && decide (63 < sh)) || (k == 2 && (decide (signed 8 sh < -64) || decide (63 < signed 8 sh))) ||
      (k == 3 && decide (48 < sh))),
    (11, rm == 0 || decide (72 < rm)), (4, decide (8 * rm < aofs + awid)), (8, k == 3 && decide (8 * rm < bofs + bwid)),
    (12, nbit fl 5 && (decide (575 < sofs) || decide (8 * rm < sofs + swid))),
    (14, nbit fl 5 && (swid == 0 || decide (32 < swid))),
    (16, nbit fl 5 && decide (2 ^ swid ≤ leAt f 16 4)),
    (20, nbit fl 4 && decide (2 ^ awid ≤ leAt f 20 8))]

/-- The first knot, from number n on, that does not lie above the one before it. -/
def descent (n : Nat) : List (Int × Int) → Option Nat
  | p :: q :: t => if p.1 < q.1 then descent (n + 1) (q :: t) else some (n + 1)
  | _ => none

/-- CURVE in a curve entry. -/
def curveFail (img c : List Nat) : Option Nat :=
  let nk := leAt c 2 1
  firstBad [(0, decide (4095 < leAt c 0 2)), (2, decide (nk < 2) || decide (64 < nk)), (4, decide (leAt img 20 4 < leAt c 4 4 + nk))]

/-- CURVE in an image, from curve n on: a field of the entry, or the knot out of order. -/
def imgCurveFail (img : List Nat) : Nat → List (List Nat) → Option Nat
  | _, [] => none
  | n, c :: t =>
    match curveFail img c with
    | some o => some (leAt img 36 4 + 16 * n + o)
    | none =>
      match descent 0 (curveKnots img c) with
      | some k => some (leAt img 40 4 + 8 * (leAt c 4 4 + k))
      | none => imgCurveFail img (n + 1) t

/-- CANMAP in a CAN map entry (R213). -/
def State.canFail (s : State) (c : List Nat) : Option Nat :=
  let nb := leAt c 10 1
  firstBad [(8, leAt c 8 1 == 0), (10, nb == 0 || decide (8 < nb) || decide (64 < leAt c 9 1 + nb)),
    (12, (s.ep (leAt c 12 4)).src != srcCANMAP)]

/-- ATTACH in an attachment entry, against the records as they stand. -/
def State.attFail (s : State) (img a : List Nat) : Option Nat :=
  let r := s.ep (leAt a 0 4)
  firstBad [(0, r.src == srcFREE), (4, !fmtIn img (leAt a 4 2) || (leAt a 4 2 == 0xFFFF && !formless r.src)),
    (6, !curveIn img (leAt a 6 2)), (11, !expOk (leAt a 11 1))]

/-- REFERENCE: an enabled record that names what the image lacks, its attachment applied. -/
def State.refFail (s : State) (img : List Nat) : Option Nat :=
  s.ept.recs.cells.foldl (fun m c =>
    match m with
    | some _ => m
    | none =>
      if !c.2.en then none
      else match attOf img c.1 with
        | some (k, a) =>
          if fmtIn img (leAt a 4 2) && curveIn img (leAt a 6 2) then none else some (leAt img 48 4 + 16 * k)
        | none => if fmtIn img c.2.fmt && curveIn img c.2.curve then none else some (2 ^ 31 + c.1)) none

/-- ATTACH and REFERENCE, as a load and an arming check them. -/
def State.imgRefs (s : State) (img : List Nat) : Option (Nat × Nat) :=
  ((entFail (leAt img 48 4) 16 (s.attFail img) 0 (imgAtts img)).map fun o => (8, o)) <|> ((s.refFail img).map fun o => (9, o))

/-- The first failure of an image from a source that holds `size` bytes (R294): reason and location. -/
def State.imgFails (s : State) (b : List Nat) (size : Nat) : Option (Nat × Nat) :=
  match headFirst b with
  | some o => some (1, o)
  | none =>
    let len := leAt b 8 4
    if size < len then some (0xA, 8)
    else
      let img := padTo len b
      let why (r : Nat) (o : Option Nat) : Option (Nat × Nat) := o.map fun x => (r, x)
      why 1 (headRest img) <|>
        (if crc32 (img.take (len - 4)) = leAt img (len - 4) 4 then none else some (2, len - 4)) <|>
        why 3 (imgReserved img) <|> why 4 (imgOrder img) <|>
        why 5 (entFail (leAt img 32 4) 32 fmtFail 0 (imgFmts img)) <|>
        why 6 (imgCurveFail img 0 (imgCurves img)) <|>
        why 7 (entFail (leAt img 44 4) 16 s.canFail 0 (imgCans img)) <|> s.imgRefs img

/-! Loading and storing (R294, R295, R304). -/

/-- The completion code of a reason. -/
def reasonCode (r : Nat) : Nat := if r = 0 then OK else if r = 0xA then OUT_OF_RANGE else if r = 0xB then LASTING_FAULT else TABLE_INVALID

/-- The refusal of a load in the present state (R295). -/
def State.loadRefused (s : State) : Option Nat :=
  match s.sw with
  | 0 => none
  | 2 => none
  | 3 => some NOT_IN_STATE
  | _ => some BUSY

/-- The refusal of an operation that only one state allows. -/
def State.swRefused (s : State) (need : Nat) : Option Nat :=
  if s.sw = need then none
  else if s.sw = swLOADING ∨ s.sw = swRETIRING ∨ s.sw = swSTORING then some BUSY else some NOT_IN_STATE

/-- The staged bank takes an image; none is EMPTY. -/
def State.setStaged (s : State) (img : List Nat) (st : Nat) : State :=
  let s : State := { s with ept := { s.ept with staged := img } }
  (s.f EPT_STGGEN (imgGen img)).f EPT_SWSTS_STATE st

/-- A load begins. -/
def State.loadBegin (s : State) (l : LoadS) : State :=
  let s := s.setStaged [] swLOADING
  { s with ept := { s.ept with load := some l } }

/-- Bytes the TABLES region holds of a table image. -/
abbrev tablesSize : Nat := 1040384

/-- The bytes of a load and what its source holds. A window address that cannot be read gives zeros (R204). -/
def State.loadBytes (s : State) (l : LoadS) (b : List Nat) : List Nat × Nat :=
  match l.src with
  | 0 => (l.image, l.image.length)
  | 1 =>
    let a := s.g EPT_LDADDR_ADDR * 64
    ((s.flashIn b).zipIdx.map fun x => if (s.winRefused (a + x.2)).isSome then 0 else x.1, 2 ^ 26 - a)
  | _ => (s.ept.tablesImg, tablesSize)

/-- What the loader's reads of the window record (R204): the code of the first address that cannot be read. -/
def State.loadErr (s : State) (l : LoadS) (b : List Nat) : State :=
  let a := s.g EPT_LDADDR_ADDR * 64
  match if l.src = 1 then (List.range b.length).find? fun k => (s.winRefused (a + k)).isSome else none with
  | some k => s.err MEM_ERRSTS (apOff ((a + k) % 4096 / 4)) ((s.winRefused (a + k)).getD 0)
  | none => s

/-- A load ends (R294, R304): READY, or EMPTY with its reason. -/
def State.loadEnd (s : State) (l : LoadS) (ok : Bool) (b : List Nat) : State :=
  let s : State := { s with ept := { s.ept with load := none } }
  let s := s.loadErr l b
  let (b, size) := s.loadBytes l b
  let (why, ofs) := if ok then (s.imgFails b size).getD (0, 0) else (0xB, 0)
  let s := (s.f EPT_SWSTS_LDREASON why).f EPT_LDOFS ofs
  let s := if why = 0 then s.setStaged (padTo (leAt b 8 4) b) swREADY else s.setStaged [] swEMPTY
  let s := match l.job with
    | some id => s.finishId id { status := reasonCode why }
    | none => if why = 0 then s else s.discard rEPT_LDCTL 0 0 (reasonCode why)
  s.raiseHub srcTABLE

/-- A write of EPT_LDCTL (R304). -/
def State.ldCtlWrite (s : State) (v : Word) : State :=
  let go := wbit v 4
  let src := wbits v 1 0
  let refuse (c : Nat) : State := s.discard rEPT_LDCTL 0 0 c
  if (wbit v 6 ∧ (wbit v 5 ∨ go)) ∨ (wbit v 5 ∧ go) ∨ (go ∧ (src = 0 ∨ src = 3)) then refuse RESERVED_NONZERO
  else if go then
    match s.loadRefused with
    | some c => refuse c
    | none => s.loadBegin { src := src }
  else if wbit v 5 then
    match s.swRefused swREADY with
    | some c => refuse c
    | none =>
      if tablesSize < leAt s.ept.staged 8 4 then ((s.f EPT_SWSTS_LDREASON 0xA).f EPT_LDOFS 8).discard rEPT_LDCTL 0 0 OUT_OF_RANGE
      else (s.f EPT_SWSTS_STATE swSTORING).showNvs
  else if wbit v 6 then
    match s.swRefused swREADY with
    | some c => refuse c
    | none => s.setStaged [] swEMPTY
  else s

/-- TABLE_LOAD_GO (R295): GO of EPT_LDCTL with SRC. -/
def execTableLoadGo (src : Nat) (s : State) : Res :=
  let v := Word.ofNat (16 + src)
  .next (s.barWrite rEPT_LDCTL 0 0 v fun s => s.ldCtlWrite v)

/-- The issuer of a TABLE_LOAD: tenant 0 of this hub's own host, or of the keystone (R421). -/
def State.loadIssuer (s : State) (j : JobS) : Option Nat :=
  if (j.id.tid = 0 ∧ j.id.src = s.pos ∧ !j.id.remote) ∨ s.fromKeystone j.id.src j.id.tid = true then none
  else some (if isT0 j.id.tid then ROLE_FORBIDDEN else NOT_OWNER)

/-- TABLE_LOAD (R294, R295): the image has been read from host memory. -/
def execTableLoad (s : State) : Res :=
  .next <| s.runJob 0x60 s.loadIssuer fun s j =>
    match s.loadRefused with
    | some c => s.finishWith j c
    | none => s.loadBegin { src := 0, image := j.args, job := some j.id }

/-- TABLE_LOAD_DONE (R294): the load's reads have ended; `b` is what the memory port read, once no program or poll keeps it waiting (R208). -/
def execTableLoadDone (ok : Bool) (b : List Nat) (s : State) : Res :=
  .next <|
    match s.ept.load with
    | some l => if s.coreRuns ∧ s.sw = swLOADING ∧ ¬ (l.src = 1 ∧ s.mem.run.isSome = true) then s.loadEnd l ok b else s
    | none => s

/-- TABLE_STORE (R295): STORE of EPT_LDCTL. -/
def execTableStore (s : State) : Res := .next (s.barWrite rEPT_LDCTL 0 0 0x20 fun s => s.ldCtlWrite 0x20)

/-- TABLE_STORE_DONE (R295, R615): the writes to TABLES have ended. A store that failed leaves the image before it (R14). -/
def execTableStoreDone (ok : Bool) (s : State) : Res :=
  .next <|
    if s.sw ≠ swSTORING ∨ !s.coreRuns then s
    else
      let s := (s.f EPT_SWSTS_STATE swREADY).showNvs
      if ok ∧ !nbit (s.g NVS_STS_WORN) 2 then
        let s : State := { s with ept := { s.ept with tablesImg := s.ept.staged } }
        ((s.f EPT_SWSTS_LDREASON 0).f EPT_LDOFS 0).raiseHub srcTABLE
      else ((s.setWorn 2).discard rEPT_LDCTL 0 0 NVM_WORN).raiseHub srcTABLE

/-- TABLE_DISCARD (R304): DISCARD of EPT_LDCTL. -/
def execTableDiscard (s : State) : Res := .next (s.barWrite rEPT_LDCTL 0 0 0x40 fun s => s.ldCtlWrite 0x40)

/-! The switch (R296-R299). -/

/-- SWCT takes a value, in the registers as well. -/
def State.setSwct (s : State) (t : Nat) : State :=
  let s : State := { s with ept := { s.ept with swct := t, swReg := t } }
  s.f64 EPT_SWCTLO EPT_SWCTHI t

/-- The attachments of an image are applied to the records, which are kept as they stood (R296). -/
def State.attach (s : State) (img : List Nat) : State :=
  (imgAtts img).foldl (fun s a =>
    let e := leAt a 0 4
    let r := s.ep e
    if r.src = srcFREE then s
    else
      let s : State := { s with ept := { s.ept with oldRecs := s.ept.oldRecs ++ [(e, r)] } }
      s.setEp e (r.attached a)) s

/-- The switch takes effect (R296, R297); SWCT fell `ago` nanoseconds of the elapsed count before. -/
def State.switchEffect (s : State) (late : Bool) (ago : Nat) : State :=
  let b := s.ept
  let s : State := { s with ept := { b with
    active := b.staged, staged := [], old := b.active, cans := imgCans b.staged, oldCans := b.cans, oldRecs := []
    retireAt := s.elapsed + 1000000 * s.g EPT_CFG_RETIREHOLD - ago
    oldTags := s.rng.tags
    waitEps := s.srcEps fun r => formless r.src } }
  let s := s.attach b.staged
  let s := ((s.f EPT_ACTGEN (imgGen b.staged)).f EPT_STGGEN (imgGen b.active)).f EPT_SWSTS_STATE swRETIRING
  let s := if late then s.f EPT_SWSTS_LATE 1 else s
  s.event 377 (if late then s.ct else b.swct)

/-- A write of EPT_SWCTL (R296, R299, R304). -/
def State.swCtlWrite (s : State) (v : Word) : State :=
  let refuse (c : Nat) : State := s.discard rEPT_SWCTL 0 0 c
  if (wbit v 2 ∧ wbit v 0) ∨ (wbit v 1 ∧ !wbit v 0) then refuse RESERVED_NONZERO
  else if wbit v 0 then
    match s.swRefused swREADY with
    | some c => refuse c
    | none =>
      if (s.imgRefs s.ept.staged).isSome then refuse TABLE_INVALID
      else if wbit v 1 ∨ s.ept.swReg ≤ s.ct then
        let late := decide (s.ept.swReg < s.ct)
        (s.setSwct s.ct).switchEffect late 0
      else ({ s with ept := { s.ept with swct := s.ept.swReg } } : State).f EPT_SWSTS_STATE swPENDING
  else if wbit v 2 then
    if s.sw = swPENDING then s.f EPT_SWSTS_STATE swREADY
    else refuse (if s.sw = swLOADING ∨ s.sw = swSTORING then BUSY else NOT_IN_STATE)
  else s

/-- SWITCH_ARM (R296): GO of EPT_SWCTL, with NOW or without. -/
def execSwitchArm (now_ : Bool) (s : State) : Res :=
  let v := Word.ofNat (1 + 2 * b2n now_)
  .next (s.barWrite rEPT_SWCTL 0 0 v fun s => s.swCtlWrite v)

/-- SWITCH_CANCEL (R299): CANCEL of EPT_SWCTL. -/
def execSwitchCancel (s : State) : Res := .next (s.barWrite rEPT_SWCTL 0 0 4 fun s => s.swCtlWrite 4)

/-- SWITCH_EFFECT (R296, R301): CT has reached SWCT; late when the core was stopped as it did. RETIREHOLD counts from SWCT (R297). -/
def execSwitchEffect (s : State) : Res :=
  .next (if s.sw = swPENDING ∧ s.coreRuns ∧ s.ept.swct ≤ s.ct then
    s.switchEffect (decide (s.ept.swct + 1 < s.ct)) (s.ct - s.ept.swct) else s)

/-- The old bank retires (R297): values already in the decoder's queue are decoded first. -/
def State.retireBank (s : State) : State :=
  let s := times State.decodeHead s.ept.queue.length s
  let s : State := { s with ept := { s.ept with
    retired := some s.ept.swct, old := [], oldRecs := [], oldTags := [], waitEps := [] } }
  ((((s.zero [EPT_SWSTS_STATE, EPT_STGGEN]).f EPT_SWSTS_DONE 1).inc EPT_SWITCHES).raiseHub srcTABLE)

/-- BANK_RETIRE (R297). -/
def execBankRetire (s : State) : Res :=
  .next <|
    if s.sw = swRETIRING ∧ s.coreRuns ∧
        ((s.ept.oldTags.isEmpty ∧ !(s.ept.waitEps.any fun e => (s.ep e).en)) ∨ s.ept.retireAt ≤ s.elapsed) then s.retireBank
    else s

/-- A handover to the watch engine, or a reset of the core, retires a RETIRING bank at once (R301, R302). -/
def State.retireNow (s : State) : State := if s.sw = swRETIRING then s.retireBank else s

/-- A warm or core reset abandons a load or a store (R302). -/
def State.eptReset (s : State) : State :=
  let s := s.retireNow
  let s := ({ s with ept := { s.ept with load := none, queue := [], cans := [] } } : State).drainStreams
  if s.sw = swLOADING ∨ s.sw = swSTORING then (s.setStaged [] swEMPTY).showNvs else s

/-- A function-level reset abandons a load from host memory (R302). -/
def State.eptFlr (s : State) : State :=
  match s.ept.load with
  | some l => if l.src = 0 ∧ !(l.job.any fun id => id.remote) then ({ s with ept := { s.ept with load := none } } : State).setStaged [] swEMPTY else s
  | none => s

/-- Boot stage TABLES (R630): the image of the region into the active bank, or its reason. -/
def State.bootTables (s : State) : State :=
  match s.imgFails s.ept.tablesImg tablesSize with
  | some (why, ofs) => (s.f EPT_SWSTS_LDREASON why).f EPT_LDOFS ofs
  | none =>
    let img := padTo (leAt s.ept.tablesImg 8 4) s.ept.tablesImg
    let s : State := { s with ept := { s.ept with active := img, cans := imgCans img } }
    s.f EPT_ACTGEN (imgGen img)

/-- The endpoint counters (R305). -/
def eptCounters : List Fld :=
  [EPT_SWITCHES, EPT_STRAGGLE, EPT_INVSAMP, EPT_EXTRAP, EPT_CLIPPED, EPT_DISCARD, EPT_DECOVER]

/-- EPT_COUNTER_CLR (R304): EPT_CLR. -/
def execEptCounterClr (v : Word) (s : State) : Res :=
  .next (s.barWrite rEPT_CLR 0 0 v fun s => s.clrWrite eptCounters v)

end Sys2Proof.Machine
end

