-- ==== Sys2Proof/Machine/Rcg.lean ====
section
/-! DEFINITION. Recognizers: machine tables, instances, triggers, steps, actions, suspension (spec/11_recognizers.md R345-R373). -/
namespace Sys2Proof.Machine

/-! Machine tables (R346-R350). -/

/-- A machine table; empty while undefined. -/
def State.mtab (s : State) (n : Nat) : List Nat := s.rcg.tables.get (fun _ => []) n

/-- States of a table. -/
def mtStates (b : List Nat) : Nat := leAt b 1 1
/-- Conditions of a table. -/
def mtConds (b : List Nat) : Nat := leAt b 2 1
/-- Actions of a table. -/
def mtActs (b : List Nat) : Nat := leAt b 3 1
/-- Initial state of a table. -/
def mtInit (b : List Nat) : Nat := leAt b 4 1
/-- Input slots of a table. -/
def mtIns (b : List Nat) : Nat := leAt b 5 1
/-- Parameters of a table. -/
def mtPars (b : List Nat) : Nat := leAt b 6 1
/-- Kind of target slot t: 0 NONE, 1 SCHED, 2 MASH, 3 PROD. -/
def mtTgt (b : List Nat) (t : Nat) : Nat := leAt b 7 1 / 4 ^ t % 4
/-- WATCHOK. -/
def mtWatch (b : List Nat) : Bool := nbit (leAt b 10 1) 0
/-- Length of a table. -/
def mtLen (b : List Nat) : Nat := leAt b 8 2
/-- Output word of a state. -/
def mtOut (b : List Nat) (q : Nat) : Nat := leAt b (32 + 4 * q) 4
/-- Offset of transition k of a state. -/
def trOfs (b : List Nat) (q k : Nat) : Nat := 32 + 4 * mtStates b + 32 * q + 4 * k
/-- Offset of a condition. -/
def cdOfs (b : List Nat) (c : Nat) : Nat := 32 + 36 * mtStates b + 16 * c
/-- Offset of an action. -/
def acOfs (b : List Nat) (a : Nat) : Nat := 32 + 36 * mtStates b + 16 * mtConds b + 8 * a
/-- The bytes of a transition. -/
def mtTr (b : List Nat) (q k : Nat) : List Nat := (b.drop (trOfs b q k)).take 4
/-- The bytes of a condition. -/
def mtCd (b : List Nat) (c : Nat) : List Nat := (b.drop (cdOfs b c)).take 16
/-- The bytes of an action. -/
def mtAc (b : List Nat) (a : Nat) : List Nat := (b.drop (acOfs b a)).take 8

/-! Conditions as bytes (R348, R349). -/

/-- CKIND. -/
def cdKind (c : List Nat) : Nat := leAt c 0 1
/-- A. -/
def cdA (c : List Nat) : Nat := leAt c 1 1
/-- B. -/
def cdB (c : List Nat) : Nat := leAt c 2 1
/-- Bit of CFLAGS. -/
def cdFlag (c : List Nat) (i : Nat) : Bool := nbit (leAt c 3 1) i
/-- Nanoseconds of TUNIT. -/
def cdUnit (c : List Nat) : Nat :=
  match leAt c 3 1 / 4 % 4 with
  | 0 => 1000
  | 1 => 1000000
  | _ => 1000000000
/-- The window in nanoseconds. -/
def cdWin (c : List Nat) : Nat := leAt c 12 4 * cdUnit c
/-- A kind that reads a slot. -/
def cdSlotKind (k : Nat) : Bool := k == 1 || k == 2 || k == 3 || k == 4 || k == 7 || k == 9
/-- A kind with a latch. -/
def cdLatch (k : Nat) : Bool := decide (1 ≤ k) && decide (k ≤ 4)
/-- A kind with a rate. -/
def cdRate (k : Nat) : Bool := k == 3 || k == 4

/-! Validation (R351). Each check answers the byte offset of the failure. -/

/-- HEADER. -/
def mtHeader (b : List Nat) : Option Nat :=
  firstBad [(0, leAt b 0 1 != 1), (1, mtStates b == 0 || decide (16 < mtStates b)), (2, decide (64 < mtConds b)),
    (3, decide (128 < mtActs b)), (4, decide (mtStates b ≤ mtInit b)), (5, decide (8 < mtIns b)), (6, decide (16 < mtPars b)),
    (8, mtLen b != 36 + 36 * mtStates b + 16 * mtConds b + 8 * mtActs b)]

/-- The first of `n` places for which f answers an offset. -/
def firstOf (n : Nat) (f : Nat → Option Nat) : Option Nat :=
  (List.range n).foldl (fun m k => match m with | some o => some o | none => f k) none

/-- The transitions of a table, state by state. -/
def mtTransFail (b : List Nat) (f : Nat → Nat → List (Nat × Bool)) : Option Nat :=
  firstOf (8 * mtStates b) fun i => (firstBad (f (i / 8) (i % 8))).map fun o => trOfs b (i / 8) (i % 8) + o

/-- RESERVED in a transition. -/
def trReserved (t : List Nat) : List (Nat × Bool) :=
  let c := leAt t 0 1
  [(0, decide (0x40 ≤ c) && decide (c ≤ 0xFD)), (1, c != 0xFF && leAt t 1 1 / 16 % 4 != 0), (1, c == 0xFE && nbit (leAt t 1 1) 6)]

/-- RESERVED in a condition. -/
def cdReserved (c : List Nat) : List (Nat × Bool) :=
  let k := cdKind c
  [(0, k == 0 || decide (11 < k)), (3, decide (32 ≤ leAt c 3 1) || leAt c 3 1 / 4 % 4 == 3)]

/-- RESERVED in an action: its code, or a field that the action does not use. -/
def acReserved (a : List Nat) : List (Nat × Bool) :=
  let k := leAt a 0 1
  [(0, k == 0 || decide (9 < k)), (2, k != 1 && k != 2 && leAt a 2 2 != 0), (4, k != 8 && leAt a 4 4 != 0)]

/-- RESERVED. -/
def mtReserved (b : List Nat) : Option Nat :=
  firstBad [(10, decide (2 ≤ leAt b 10 1)), (11, leAt b 11 1 != 0), (16, leAt b 16 8 != 0 || leAt b 24 8 != 0)] <|>
    mtTransFail b (fun q k => trReserved (mtTr b q k)) <|>
    firstOf (mtConds b) (fun c => (firstBad (cdReserved (mtCd b c))).map fun o => cdOfs b c + o) <|>
    firstOf (mtActs b) fun a => (firstBad (acReserved (mtAc b a))).map fun o => acOfs b a + o

/-- A field that names a parameter: bits 31:4 zero and below NPAR. -/
def parBad (b : List Nat) (v : Nat) : Bool := decide (16 ≤ v) || decide (mtPars b ≤ v)

/-- CONDITION of entry n. -/
def cdFail (b : List Nat) (n : Nat) : List (Nat × Bool) :=
  let c := mtCd b n
  let k := cdKind c
  let thr := leAt c 4 4
  let arg := leAt c 8 4
  let pthr := cdFlag c 0
  let parg := cdFlag c 1
  let both := cdLatch k || k == 7
  let rates := ((List.range n).filter fun m => cdRate (cdKind (mtCd b m))).length
  [(0, cdRate k && decide (4 ≤ rates)),
    (1, (cdSlotKind k && decide (mtIns b ≤ cdA c)) || (k == 5 && cdA c != 0) || (k == 6 && decide (3 < cdA c)) ||
      (k == 8 && decide (15 < cdA c)) || ((k == 10 || k == 11) && decide (n ≤ cdA c))),
    (2, if k = 10 ∨ k = 11 then decide (n ≤ cdB c) else cdB c != 0),
    (3, (pthr && (k == 8 || k == 10 || k == 11)) || (parg && !both)),
    (4, (pthr && parBad b thr) || (k == 8 && (thr == 0 || decide (255 < thr))) ||
      (k == 7 && !pthr && !parg && Nat.land thr arg != thr)),
    (8, (parg && parBad b arg) || (cdLatch k && !parg && decide (2 ^ 31 ≤ arg))),
    (12, if cdRate k then decide (cdWin c < 16000) || decide (86400000000000 < cdWin c) else leAt c 12 4 != 0)]

/-- TRANSITION of entry k of state q. -/
def trFail (b : List Nat) (q k : Nat) : List (Nat × Bool) :=
  let t := mtTr b q k
  let c := leAt t 0 1
  let after := k != 0 && leAt (mtTr b q (k - 1)) 0 1 == 0xFF
  [(0, (after && c != 0xFF) || (decide (c ≤ 0x3F) && decide (mtConds b ≤ c))),
    (1, c == 0xFF && leAt t 1 1 != 0xFF), (1, c != 0xFF && decide (mtStates b ≤ leAt t 1 1 % 16)),
    (2, c == 0xFF && leAt t 2 1 != 0xFF), (2, c != 0xFF && decide (mtActs b < leAt t 2 1 + leAt t 3 1)),
    (3, if c = 0xFF then leAt t 3 1 != 0xFF else decide (8 < leAt t 3 1))]

/-- ACTION of an entry. -/
def acFail (b : List Nat) (a : Nat) : List (Nat × Bool) :=
  let x := mtAc b a
  let t := leAt x 1 1
  let tgt (k : Nat) : Bool := decide (3 < t) || mtTgt b t != k
  [(1, match leAt x 0 1 with
    | 3 => tgt 1
    | 4 => tgt 2
    | 5 => tgt 2
    | 6 => tgt 3
    | 8 => decide (3 < t)
    | 9 => decide (3 < t)
    | _ => t != 0)]

/-- WATCH: WATCHOK on a table outside the watch subset. -/
def mtWatchBad (b : List Nat) : Bool :=
  mtWatch b && ((List.range 4).any (fun t => mtTgt b t == 1 || mtTgt b t == 2) ||
    (List.range (mtActs b)).any fun a => let k := leAt (mtAc b a) 0 1; decide (3 ≤ k) && decide (k ≤ 5))

/-- The first failure of a table: reason and byte offset (R351). -/
def mtFails (b : List Nat) : Option (Nat × Nat) :=
  let why (r : Nat) (o : Option Nat) : Option (Nat × Nat) := o.map fun x => (r, x)
  match mtHeader b with
  | some o => some (1, o)
  | none =>
    let n := mtLen b
    (if crc32 (b.take (n - 4)) = leAt b (n - 4) 4 then none else some (2, n - 4)) <|> why 3 (mtReserved b) <|>
      why 4 (firstOf (mtConds b) fun c => (firstBad (cdFail b c)).map fun o => cdOfs b c + o) <|>
      why 5 (mtTransFail b (trFail b)) <|>
      why 6 (firstOf (mtActs b) fun a => (firstBad (acFail b a)).map fun o => acOfs b a + o) <|>
      if mtWatchBad b then some (7, 10) else none

/-! Tables through registers (R351, R372). -/

/-- An instance. -/
def State.inst (s : State) (n : Nat) : Option InstS := (s.rcg.insts.find? fun x => x.1 == n).map Prod.snd

/-- Changes an instance. -/
def State.modInst (s : State) (n : Nat) (f : InstS → InstS) : State :=
  { s with rcg := { s.rcg with insts := s.rcg.insts.map fun x => if x.1 = n then (n, f x.2) else x } }

/-- RCG_STS and RCG_MTSTS follow the tables and instances. -/
def State.rcgSts (s : State) : State :=
  let w := s.rcg.insts.filter fun x => x.2.watch
  let tabs := (w.map fun x => x.2.mt).eraseDups.length
  (((s.f RCG_STS_INST s.rcg.insts.length).f RCG_STS_WATCH w.length).f RCG_MTSTS_TABS s.rcg.tables.cells.length).f RCG_MTSTS_WTABS tabs

/-- Instances that use a table. -/
def State.mtUsers (s : State) (n : Nat) : Nat := (s.rcg.insts.filter fun x => x.2.mt == n).length

/-- The bytes of RCG_MTBUF. -/
def State.mtBuf (s : State) : List Nat := ((List.range 1024).map fun k => toLe 4 (s.g (RCG_MTBUF k))).flatten

/-- A write of RCG_MTCTL (R351, R372). -/
def State.mtCtlWrite (s : State) (v : Word) : State :=
  let n := wbits v 9 0
  let wr := wbit v 31
  let rdb := wbit v 30
  let rel := wbit v 29
  let refuse (c : Nat) : State := s.discard rRCG_MTCTL 0 0 c
  let put (s : State) (b : List Nat) : State :=
    ({ s with rcg := { s.rcg with tables := s.rcg.tables.set (fun _ => []) n b } } : State).rcgSts
  if (wr ∧ (rdb ∨ rel)) ∨ (rdb ∧ rel) then refuse RESERVED_NONZERO
  else if wr then
    if s.mtUsers n ≠ 0 then refuse BUSY
    else
      let b := s.mtBuf
      match mtFails b with
      | some (why, ofs) => ((s.f RCG_MTRSN why).f RCG_MTOFS ofs).discard rRCG_MTCTL 0 0 TABLE_INVALID
      | none => put ((s.f RCG_MTRSN 0).f RCG_MTOFS 0) (b.take (mtLen b))
  else if rdb then
    let b := s.mtab n
    let s := (List.range 1024).foldl (fun s k => s.f (RCG_MTBUF k) (leAt b (4 * k) 4)) s
    (s.f RCG_MTINFO_DEFINED (b2n !b.isEmpty)).f RCG_MTINFO_USERS (s.mtUsers n)
  else if rel then (if s.mtUsers n ≠ 0 then refuse BUSY else put s [])
  else s

/-- MACHINE_COMMIT (R351): WR of RCG_MTCTL. -/
def execMachineCommit (n : Nat) (s : State) : Res :=
  let v := Word.ofNat (2 ^ 31 + n)
  .next (s.barWrite rRCG_MTCTL 0 0 v fun s => s.mtCtlWrite v)

/-- MACHINE_READ (R372): RD of RCG_MTCTL. -/
def execMachineRead (n : Nat) (s : State) : Res :=
  let v := Word.ofNat (2 ^ 30 + n)
  .next (s.barWrite rRCG_MTCTL 0 0 v fun s => s.mtCtlWrite v)

/-- MACHINE_RELEASE (R372): REL of RCG_MTCTL. -/
def execMachineRelease (n : Nat) (s : State) : Res :=
  let v := Word.ofNat (2 ^ 29 + n)
  .next (s.barWrite rRCG_MTCTL 0 0 v fun s => s.mtCtlWrite v)

/-! Evaluation (R357-R361). -/

/-- A parameter. -/
def InstS.par (x : InstS) (i : Nat) : Int := x.pars.getD i 0

/-- A slot. -/
def InstS.slot (x : InstS) (i : Nat) : SlotS := x.slots.getD i {}

/-- THR, with its parameter. -/
def InstS.thr (x : InstS) (c : List Nat) : Int := if cdFlag c 0 then x.par (leAt c 4 4 % 16) else signed 32 (leAt c 4 4)

/-- ARG, with its parameter. -/
def InstS.arg (x : InstS) (c : List Nat) : Int := if cdFlag c 1 then x.par (leAt c 8 4 % 16) else signed 32 (leAt c 8 4)

/-- THR of DWELL, STALE, COUNT and EVENT, unsigned. -/
def InstS.uthr (x : InstS) (c : List Nat) : Nat := unsigned 32 (x.thr c)

/-- Elapsed stamp of a slot's last valid sample, or of the instance's start. -/
def InstS.lastValid (x : InstS) (i : Nat) : Int := if (x.slot i).v.isSome then (x.slot i).at_ else x.startE

/-- The elapsed stamp at which a DWELL or STALE condition becomes true. -/
def InstS.dueAt (x : InstS) (c : List Nat) : Int :=
  (if cdKind c = 5 then x.enteredE else x.lastValid (cdA c)) + (x.uthr c * cdUnit c : Nat)

/-- A condition of a table at elapsed stamp `now`; `n` bounds the depth of ALL and ANY. INV inverts the result after any latch; a
level, rate or match condition on a missing slot is false (R349). -/
def condAt (b : List Nat) (x : InstS) (now : Int) : Nat → Nat → Bool
  | 0, _ => false
  | n + 1, i =>
    let c := mtCd b i
    let full := condAt b x now n
    let raw := match cdKind c with
      | 5 => decide (x.dueAt c ≤ now)
      | 6 => decide (x.uthr c ≤ x.cnt.getD (cdA c) 0)
      | 7 => Nat.land (unsigned 32 ((x.slot (cdA c)).v.getD 0)) (unsigned 32 (x.arg c)) == unsigned 32 (x.thr c)
      | 8 => decide (x.uthr c ≤ ((x.evc.find? fun e => e.1 == cdA c).map Prod.snd).getD 0)
      | 9 => decide (x.dueAt c ≤ now)
      | 10 => full (cdA c) && full (cdB c)
      | 11 => full (cdA c) || full (cdB c)
      | _ => x.latches.contains i
    !((cdLatch (cdKind c) || cdKind c == 7) && (x.slot (cdA c)).missing) && raw != cdFlag c 4

/-- A condition. -/
def condTrue (b : List Nat) (x : InstS) (now : Int) (i : Nat) : Bool := condAt b x now 65 i

/-- The conditions a condition rests on, itself included. -/
def condReach (b : List Nat) : Nat → Nat → List Nat
  | 0, _ => []
  | n + 1, i =>
    let c := mtCd b i
    i :: if cdKind c = 10 ∨ cdKind c = 11 then condReach b n (cdA c) ++ condReach b n (cdB c) else []

/-- The DWELL and STALE conditions named in a state's transitions, directly or through ALL and ANY (R357). -/
def timedConds (b : List Nat) (q : Nat) : List Nat :=
  ((((List.range 8).map fun k => leAt (mtTr b q k) 0 1).filter fun c => decide (c ≤ 0x3F)).map (condReach b 65)).flatten.eraseDups.filter
    fun i => cdKind (mtCd b i) == 5 || cdKind (mtCd b i) == 9

/-- The conditions of a kind true now: they trigger no more until they have become false. -/
def InstS.timedNow (x : InstS) (b : List Nat) (now : Int) (kinds : List Nat) : List Nat :=
  (List.range (mtConds b)).filter fun i => kinds.contains (cdKind (mtCd b i)) && decide (x.dueAt (mtCd b i) ≤ now)

/-- The elapsed stamp at which a condition triggers. -/
def InstS.fireAt (x : InstS) (c : List Nat) : Int := max (x.dueAt c) x.armE

/-- A latch after a value. -/
def latchNow (above : Bool) (thr h v : Int) (was : Bool) : Bool :=
  if above then (if thr ≤ v then true else if v < thr - h then false else was)
  else if v ≤ thr then true else if thr + h < v then false else was

/-- The rate of a condition after a snapshot (R360): the ring, newest first, and the rate where a reference exists. -/
def ratePush (w : Nat) (t : Int) (v : Int) (ring : List (Int × Int)) : List (Int × Int) × Option Int :=
  let push := match ring with
    | [] => true
    | p :: _ => decide (w ≤ 16 * (t - p.1))
  let ring := if push then ((t, v) :: ring).take 17 else ring
  (ring, (ring.find? fun p => decide (p.1 ≤ t - w)).map fun p => divRound ((v - p.2) * w) (t - p.1))

/-- A valid sample of a slot reaches one condition (R359, R360). -/
def InstS.condSample (b : List Nat) (slot : Nat) (v t : Int) (x : InstS) (i : Nat) : InstS :=
  let c := mtCd b i
  let k := cdKind c
  if !cdLatch k ∨ cdA c ≠ slot then x
  else
    let was := x.latches.contains i
    let put (x : InstS) (on : Bool) : InstS :=
      { x with latches := if on then (if was then x.latches else x.latches ++ [i]) else x.latches.filter fun j => j != i }
    if cdRate k then
      let old := ((x.rings.find? fun r => r.1 == i).map Prod.snd).getD []
      let (ring, r) := ratePush (cdWin c) t v old
      let x := { x with rings := (x.rings.filter fun r => r.1 != i) ++ [(i, ring)] }
      match r with
      | none => put x false
      | some r => put x (latchNow (k == 3) (x.thr c) (x.arg c) r was)
    else put x (latchNow (k == 1) (x.thr c) (x.arg c) v was)

/-- The conditions on a slot. -/
def condsOn (b : List Nat) (slot : Nat) : List Nat :=
  (List.range (mtConds b)).filter fun i => cdSlotKind (cdKind (mtCd b i)) && cdA (mtCd b i) == slot

/-- A sample of a slot is applied (R359). -/
def InstS.applySample (x : InstS) (b : List Nat) (slot : Nat) (v : Option Int) (ct : Nat) (t : Int) : InstS :=
  let on := condsOn b slot
  match v with
  | some v =>
    let x := { x with slots := modAt (fun _ => { v := some v, at_ := t, ct := ct, missing := false }) slot x.slots
                      timed := x.timed.filter fun i => !(cdKind (mtCd b i) == 9 && on.contains i && x.uthr (mtCd b i) != 0) }
    on.foldl (InstS.condSample b slot v t) x
  | none =>
    { x with slots := modAt (fun g => { g with missing := true }) slot x.slots
             latches := x.latches.filter fun i => !on.contains i
             rings := x.rings.filter fun r => !on.contains r.1 }

/-- An arrival on a consumer is counted (R361). -/
def InstS.applyEvent (x : InstS) (k : Nat) : InstS :=
  if x.evc.any fun e => e.1 == k then { x with evc := x.evc.map fun e => if e.1 = k then (k, min (e.2 + 1) 255) else e }
  else { x with evc := x.evc ++ [(k, 1)] }

/-- A trigger is applied. -/
def InstS.apply (x : InstS) (b : List Nat) (t : TrigS) (stamp : Int) : InstS :=
  match t.kind with
  | .sample slot v => x.applySample b slot v t.ct stamp
  | .event k => x.applyEvent k
  | .time => x

/-- The first transition that fires in the present state. -/
def InstS.fires (x : InstS) (b : List Nat) (now : Int) : Option (List Nat) :=
  ((List.range 8).foldl (fun (m : Option (List Nat) × Bool) k =>
    if m.2 then m
    else
      let t := mtTr b x.state k
      let c := leAt t 0 1
      if c = 0xFF then (none, true)
      else if (if c = 0xFE then true else condTrue b x now c) != nbit (leAt t 1 1) 6 then (some t, true) else m) (none, false)).1

/-! Actions (R364-R368). -/

/-- The handle of an instance (R354). -/
def State.instHandle (s : State) (n : Nat) : Nat := s.pos * 16384 + n

/-- A tenant may use producer x, or consumer x - 32 (R368). -/
def State.evOwned (s : State) (t x : Nat) : Bool := isT0 t || (s.on (RCG_EVOWN_ASSIGNED x) && s.g (RCG_EVOWN_OWNER x) == t)

/-- An action whose target is gone is skipped (R367). -/
def State.skipAct (s : State) (n : Nat) : State :=
  (s.inc RCG_ACTSKIP).modInst n fun x => { x with skips := up x.skips, skipped := true }

/-- EMIT and ALERT (R365). -/
def State.emitAct (s : State) (n : Nat) (alert : Bool) (code next fl : Nat) : State :=
  match s.inst n with
  | none => s
  | some x =>
    let w := s.elapsed / 1000000000
    let placed := if x.emitAt = w then x.emitN else 0
    if s.g RCG_CFG_EMITLIM ≤ placed then
      (s.modInst n fun x => { x with emitAt := w, emitN := placed, suppr := up x.suppr, supSince := x.supSince + 1 }).inc RCG_EMITSUP
    else
      let val (k : Nat) : Nat := unsigned 32 ((x.slot k).v.getD 0)
      let from_ := [0, 1].filterMap fun k => match x.ins.getD k none, (x.slot k).v with
        | some e, some _ => some (e, (x.slot k).ct)
        | _, _ => none
      let b := x.mt + x.state * 2 ^ 12 + next * 2 ^ 16 + b2n alert * 2 ^ 20 + min x.supSince 2047 * 2 ^ 21
      let ev := { s.mkEv evRCG code x.tau (s.instHandle n) b (val 0) (val 1) with flags := fl }
      let s := s.placeSampleEv { uid := (s.ctx x.owner).uid, home := (s.ctx x.owner).home, ev := ev, refs := from_, alert := alert }
      let s := s.modInst n fun x => { x with emitAt := w, emitN := placed + 1, emits := up x.emits, supSince := 0 }
      if alert && s.sys.pstate == .doze then s.wakeReq 0x1000 else s

/-- BURST (R244, R367): the entry or group of a target, when it is still there. -/
def State.burstAct (s : State) (n : Nat) (x : InstS) (tgt : Nat) : State :=
  if tgt < 2 ^ 31 then
    match s.ent (tgt % 32768) with
    | some e => if e.kind = ekBURST ∧ (isT0 x.owner ∨ e.tid = x.owner) then s.trigger e.idx x.tau else s.skipAct n
    | none => s.skipAct n
  else if (s.members x.owner (tgt % 256)).any fun e => e.kind == ekBURST then s.triggerGroup x.owner (tgt % 256) x.tau
  else s.skipAct n

/-- The first DCB stage of a mash channel. -/
def State.dcbStage (s : State) (c : Nat) : Option Nat := (s.ch c).chain.findIdx? fun w => stgKind w == mkDCB

/-- FREEZE and THAW (R312, R367): skipped on a channel that is disabled, suspended or filling again after a restart. -/
def State.freezeAct (s : State) (n : Nat) (x : InstS) (c : Nat) (cmd : MashCmd) : State :=
  match s.dcbStage c with
  | none => s.skipAct n
  | some k =>
    if (s.mashCheck c k cmd).isSome ∨ ((s.ch c).state = msFILL ∧ !(s.ch c).quiet) then s.skipAct n
    else s.mashDo c k x.tau cmd

/-- One action of a step (R350). -/
def State.rcgAct (n next fl : Nat) (s : State) (a : List Nat) : State :=
  match s.inst n with
  | none => s
  | some x =>
    let t := leAt a 1 1
    let tgt := x.tgts.getD t 0
    match leAt a 0 1 with
    | 1 => s.emitAct n false (leAt a 2 2) next fl
    | 2 => s.emitAct n true (leAt a 2 2) next fl
    | 3 => s.burstAct n x tgt
    | 4 => s.freezeAct n x tgt .freeze
    | 5 => s.freezeAct n x tgt .thaw
    | 6 => if s.evOwned x.owner (tgt % 32) then s.event (261 + tgt % 32) x.tau else s.skipAct n
    | 7 => (s.inc RCG_WAKECNT).wakeReq 0x10
    | 8 => s.modInst n fun x => { x with cnt := modAt (fun v => min (v + leAt a 4 4) (2 ^ 32 - 1)) t x.cnt }
    | 9 => s.modInst n fun x => { x with cnt := modAt (fun _ => 0) t x.cnt }
    | _ => s

/-! Steps (R358, R363). -/

/-- The transitions of a step, at most `k` more; answers whether a state was entered. -/
def State.rcgLoop (n start fl : Nat) (now : Int) : Nat → State → Bool → State × Bool
  | 0, s, marked => (s, marked)
  | k + 1, s, marked =>
    match s.inst n with
    | none => (s, marked)
    | some x =>
      let b := s.mtab x.mt
      match x.fires b now with
      | none => (s, marked)
      | some t =>
        let next := leAt t 1 1 % 16
        let s := ((List.range (leAt t 3 1)).map fun i => mtAc b (leAt t 2 1 + i)).foldl (State.rcgAct n next fl) s
        let s := s.modInst n fun x => { x with trans := up x.trans }
        let s := if k = 0 then (s.inc RCG_CASCADE).modInst n fun x => { x with cascade := true } else s
        if next = x.state ∧ !nbit (leAt t 1 1) 7 then (s, marked)
        else
          let s := s.modInst n fun x =>
            { x with state := next, entered := x.tau, enteredE := now, evc := [], timed := x.timedNow b now [9] }
          if next = x.state ∨ next = start then (s, true) else State.rcgLoop n start fl now k s true

/-- The output endpoint's sample (R363). -/
def State.rcgOut (s : State) (n fl : Nat) : State :=
  match s.inst n with
  | none => s
  | some x =>
    s.enqueueRaw { ep := x.outep, src := srcRCGI, loc := n, bytes := toLe 4 (mtOut (s.mtab x.mt) x.state), ct := x.tau, flags := fl }

/-- A trigger's time-stamp on the elapsed count (R39). -/
def State.stampOf (s : State) (t : TrigS) : Int := (t.ct : Int) + t.past - s.time.stepSum

/-- A step of an instance; `force` asks for an output sample in any case (R369). -/
def State.rcgStep (s : State) (t : TrigS) (force : Bool) : State :=
  match s.inst t.inst with
  | none => s
  | some x =>
    let n := t.inst
    let hold := match t.kind with
      | .time => s.holdoverAt t.ct
      | _ => nbit t.flags fHOLDOVER
    let fl := flagIf (flagIf 0 fHOLDOVER hold) fWATCH (x.mode == 2 || nbit t.flags fWATCH)
    let now := max x.tauE (s.stampOf t)
    let s := s.modInst n fun x => ({ x with tau := max x.tau t.ct, tauE := now } : InstS).apply (s.mtab x.mt) t (s.stampOf t)
    let s := s.inc RCG_STEPS
    let (s, marked) := State.rcgLoop n x.state fl now 16 s false
    if marked || force then s.rcgOut n fl else s

/-- Missing samples owed enter the queue while it has room (R362). -/
def State.rcgOwed (s : State) : State :=
  match s.rcg.owed with
  | [] => s
  | t :: r => if s.rcg.queue.length < 4096 then { s with rcg := { s.rcg with queue := s.rcg.queue ++ [t], owed := r } } else s

/-- The oldest trigger is taken (R358). An instance that is SUSPENDED, or not the running engine's, takes none. -/
def State.rcgHead (s : State) : State :=
    match s.rcg.queue with
    | [] => s
    | t :: r =>
      if !s.decRuns then s
      else
        let s := ({ s with rcg := { s.rcg with queue := r } } : State).rcgOwed
        match s.inst t.inst with
        | some x => if x.mode = (if s.watchRuns then 2 else 0) then s.rcgStep t false else s
        | none => s

/-- RECOGNIZER_STEP (R358). -/
def execRecognizerStep (s : State) : Res := .next s.rcgHead

/-- RCG_TIME_TRIGGER (R357): the earliest DWELL or STALE condition of the current state that has become true. -/
def execRcgTimeTrigger (n : Nat) (s : State) : Res :=
  .next <|
    match s.inst n with
    | none => s
    | some x =>
      if !s.decRuns ∨ x.mode ≠ (if s.watchRuns then 2 else 0) then s
      else
        let b := s.mtab x.mt
        let due := (timedConds b x.state).filter fun i => !x.timed.contains i && decide (x.dueAt (mtCd b i) ≤ s.elapsed)
        match due.foldl (fun (m : Option Nat) i => match m with
            | some j => if x.fireAt (mtCd b i) < x.fireAt (mtCd b j) then some i else some j
            | none => some i) none with
        | none => s
        | some i =>
          let s := s.modInst n fun x => { x with timed := x.timed ++ [i] }
          s.trigPush { inst := n, kind := .time, ct := (x.fireAt (mtCd b i) + s.time.stepSum).toNat }

/-- A table names a consumer in an EVENT condition. -/
def mtNames (b : List Nat) (k : Nat) : Bool :=
  (List.range (mtConds b)).any fun i => cdKind (mtCd b i) == 8 && cdA (mtCd b i) == k

/-- An arrival on recognizer consumer k triggers every instance whose table names it (R361). -/
def State.rcgEvent (s : State) (k ct : Nat) : State :=
  (s.rcg.insts.filter fun x => x.2.mode != 1 && mtNames (s.mtab x.2.mt) k).foldl (fun s x =>
    s.trigPush { inst := x.1, kind := .event k, ct := ct }) s

/-! Creation and commands (R352-R356). -/

/-- An instance's fields as its definition gives them. -/
def instOf (d : List Nat) (owner : Nat) : InstS :=
  let word (o : Nat) : Nat := leAt d o 4
  { mt := leAt d 0 2, cls := leAt d 2 1 % 4, watch := nbit (leAt d 2 1) 2, owner := owner
    ins := (List.range 8).map fun k => if nbit (word (8 + 4 * k)) 31 then some (word (8 + 4 * k) % 131072) else none
    tgts := (List.range 4).map fun k => word (40 + 4 * k)
    pars := (List.range 16).map fun k => signed 32 (word (56 + 4 * k)) }

/-- Reserved bits of a target by its kind. -/
def tgtReserved (kind w : Nat) : Bool :=
  match kind with
  | 0 => w != 0
  | 1 => if w < 2 ^ 31 then decide (2 ^ 19 ≤ w) else w % 2 ^ 31 / 256 != 0 || w % 256 == 0
  | 2 => decide (2 ^ 13 ≤ w)
  | _ => decide (32 ≤ w)

/-- Check 1 of R353. -/
def State.instReserved (s : State) (d : List Nat) : Bool :=
  let b := s.mtab (leAt d 0 2)
  decide (8 ≤ leAt d 2 1) || leAt d 2 1 % 4 == 3 || leAt d 3 5 != 0 || leAt d 120 8 != 0 ||
    (List.range 8).any (fun k => leAt d (8 + 4 * k) 4 % 2 ^ 31 / 2 ^ 17 != 0) ||
    (!b.isEmpty && ((List.range 4).any (fun k => tgtReserved (mtTgt b k) (leAt d (40 + 4 * k) 4)) ||
      (List.range 16).any fun k => decide (mtPars b ≤ k) && leAt d (56 + 4 * k) 4 != 0))

/-- Check 3 of R353 for a target. -/
def State.tgtExists (s : State) (owner kind w : Nat) : Bool :=
  match kind with
  | 1 =>
    if w < 2 ^ 31 then
      w / 32768 == s.pos && match s.ent (w % 32768) with
        | some e => e.kind == ekBURST
        | none => false
    else !(s.members owner (w % 256)).isEmpty
  | 2 => (s.ch w).en && (s.ch w).state != msOFF && (s.dcbStage w).isSome
  | _ => true

/-- Check 5 of R353 for a target. -/
def State.tgtOwned (s : State) (owner kind w : Nat) : Bool :=
  match kind with
  | 1 => decide (2 ^ 31 ≤ w) || (match s.ent (w % 32768) with | some e => e.tid == owner | none => false)
  | 2 => match s.mashEp w with
    | some e => s.owns owner e
    | none => false
  | 3 => s.evOwned owner w
  | _ => true

/-- Consumers named by a table's EVENT conditions. -/
def mtConsumers (b : List Nat) : List Nat := (List.range 16).filter (mtNames b)

/-- Slots an endpoint feeds. -/
def State.feeds (s : State) (e : Nat) : Nat := (s.rcg.insts.map fun x => (x.2.ins.filter fun i => i == some e).length).sum

/-- The instance behind an RCG input. -/
def State.behind (s : State) (e : Nat) : Option InstS := if (s.ep e).src = srcRCGI then s.inst (s.ep e).loc else none

/-- Endpoints of the watch schedule (R598). -/
def State.watchSched (s : State) : List EntS :=
  s.psc.ents.filter fun e => e.cls == 0 && e.kind == ekPERIODIC && (e.src == exWHEEL || (e.src == exCOURSE && (s.busOf e.nodeid).isSome))

/-- The watch engine holds one more instance (R366). -/
def State.watchHolds (s : State) (x : InstS) : Bool :=
  let w := x :: (s.rcg.insts.filter fun y => y.2.watch).map Prod.snd
  decide (w.length ≤ 256) && decide ((w.map fun y => y.mt).eraseDups.length ≤ 64) &&
    decide (((w.map fun y => y.ins.filterMap id).flatten ++ (s.watchSched.map EntS.eps).flatten).eraseDups.length ≤ 1024)

/-- Check 6 of R353. -/
def State.instRanges (s : State) (b : List Nat) (x : InstS) : Bool :=
  let used := x.ins.filterMap id
  ((List.range 8).all fun k => (x.ins.getD k none).isSome == decide (k < mtIns b)) &&
    (used.all fun e => decide (s.feeds e + (used.filter fun f => f == e).length ≤ 16)) &&
    (used.all fun e => (s.ep e).src != srcRCGI || (s.behind e).isSome) &&
    (!x.watch || (x.cls == 0 && mtWatch b && used.all fun e => (s.ep e).src != srcMASHCH &&
      ((s.ep e).src != srcRCGI || match s.behind e with | some y => y.watch | none => false)))

/-- The lowest FREE endpoint record. -/
def State.freeEp (s : State) : Option Nat :=
  (List.range (min 131072 (s.ept.recs.cells.length + 1))).find? fun e => (s.ep e).src == srcFREE

/-- The lowest free instance. -/
def State.freeInst (s : State) : Option Nat :=
  (List.range (min 16384 (s.rcg.insts.length + 1))).find? fun n => (s.inst n).isNone

/-- The checks of R353 in order: the refusal, or the instance with its number and output endpoint. -/
def State.instCheck (s : State) (owner : Nat) (d : List Nat) : Except Nat (InstS × Nat × Nat) :=
  let x := instOf d owner
  let b := s.mtab x.mt
  let used := x.ins.filterMap id
  let tg := (List.range 4).map fun k => (mtTgt b k, x.tgts.getD k 0)
  if s.instReserved d then .error RESERVED_NONZERO
  else if s.quar then .error QUARANTINED
  else if b.isEmpty ∨ (used.any fun e => (s.ep e).src == srcFREE) = true ∨ (tg.all fun t => s.tgtExists owner t.1 t.2) = false then
    .error BAD_HANDLE
  else if !(isT0 owner || used.all fun e => s.mayName owner e) then .error NO_LEASE
  else if !(isT0 owner || (tg.all (fun t => s.tgtOwned owner t.1 t.2) && (mtConsumers b).all fun k => s.evOwned owner (32 + k))) then
    .error NOT_OWNER
  else if !s.instRanges b x then .error OUT_OF_RANGE
  else if x.cls < (s.ctx owner).ceil ∨ (s.ctx owner).inst ≤ (s.rcg.insts.filter fun y => y.2.owner == owner).length ∨
      (x.watch ∧ !s.watchHolds x) then .error QUOTA_EXCEEDED
  else match s.freeInst, s.freeEp with
    | some n, some e => .ok ({ x with outep := e }, n, e)
    | _, _ => .error QUOTA_EXCEEDED

/-- An instance as at creation (R354): INIT, τ the present CT, counters zero, every slot missing. -/
def State.instFresh (s : State) (x : InstS) : InstS :=
  { mt := x.mt, cls := x.cls, watch := x.watch, owner := x.owner, ins := x.ins, tgts := x.tgts, pars := x.pars, outep := x.outep
    mode := x.mode, state := mtInit (s.mtab x.mt), entered := s.ct, enteredE := s.elapsed, startE := s.elapsed, tau := s.ct
    tauE := s.elapsed, armE := s.elapsed, slots := List.replicate 8 {} }

/-- The mode an instance runs in now (R366, R369). -/
def State.rcgMode (s : State) (x : InstS) : Nat :=
  if s.quar then 1 else if s.watchRuns then (if x.watch && s.watchLive then 2 else 1) else if s.clsStopped x.cls then 1 else 0

/-- RCG_CREATE (R353, R354). -/
def execRcgCreate (s : State) : Res :=
  .next <| s.runJob 0x40 (fun _ => none) fun s j =>
    match s.instCheck j.id.tid j.args with
    | .error c => (if c = QUOTA_EXCEEDED then s.quotaRefuse else s).finishWith j c
    | .ok (x, n, e) =>
      let x := { s.instFresh x with mode := s.rcgMode x }
      let s : State := { s with rcg := { s.rcg with insts := s.rcg.insts ++ [(n, x)] } }
      let s := s.setEp e { src := srcRCGI, ctl := 1, fmt := 0xFFFF, curve := 0xFFFF, quant := 0x80, loc := n }
      let s := s.setOwner e (s.ctx j.id.tid).uid
      ((s.rcgSts).rcgOut n s.nowFlags).finish j { status := OK, value := s.instHandle n, aux := e }

/-- The triggers of an instance leave the queue. -/
def State.rcgPurge (s : State) (n : Nat) : State :=
  { s with rcg := { s.rcg with queue := s.rcg.queue.filter fun t => t.inst != n, owed := s.rcg.owed.filter fun t => t.inst != n } }

/-- An instance's output feeds another one. -/
def State.feedsOther (s : State) (n : Nat) (x : InstS) : Bool :=
  s.rcg.insts.any fun y => y.1 != n && y.2.ins.contains (some x.outep)

/-- An instance ends; its output record returns to FREE (R355). -/
def State.endInst (s : State) (n : Nat) : State :=
  match s.inst n with
  | none => s
  | some x =>
    let s := s.rcgPurge n
    let s : State := { s with
      rcg := { s.rcg with insts := s.rcg.insts.filter fun y => y.1 != n }
      ept := { s.ept with queue := s.ept.queue.filter fun r => r.ep != x.outep } }
    ((s.setEp x.outep {}).setOwner x.outep 0).rcgSts

/-- The instance a descriptor's handle names. -/
def State.instFor (s : State) (j : JobS) : Option (Nat × InstS) :=
  let n := dBody j.desc 0 4 % 16384
  (s.inst n).map fun x => (n, x)

/-- RCG_DESTROY (R355). -/
def execRcgDestroy (s : State) : Res :=
  .next <| s.runJob 0x41 (fun _ => none) fun s j =>
    match s.instFor j with
    | none => s.finishWith j BAD_HANDLE
    | some (n, x) =>
      if j.id.tid ≠ x.owner ∧ !isT0 j.id.tid then s.finishWith j NOT_OWNER
      else if s.feedsOther n x then s.finishWith j BUSY
      else (s.endInst n).finishWith j OK

/-- An instance returns to INIT, with one output sample (R355). -/
def State.resetInst (s : State) (n : Nat) : State :=
  let s := s.rcgPurge n
  (s.modInst n fun x => s.instFresh x).rcgOut n s.nowFlags

/-- A command of an instance's owner. -/
def State.instJob (s : State) (opc : Nat) (body : State → JobS → Nat → InstS → State) : State :=
  s.runJob opc (fun _ => none) fun s j =>
    match s.instFor j with
    | none => s.finishWith j BAD_HANDLE
    | some (n, x) => if j.id.tid ≠ x.owner then s.finishWith j NOT_OWNER else body s j n x

/-- RCG_RESET (R355). -/
def execRcgReset (s : State) : Res := .next (s.instJob 0x42 fun s j n _ => (s.resetInst n).finishWith j OK)

/-- RCG_SETPAR (R355). -/
def execRcgSetpar (s : State) : Res :=
  .next <| s.instJob 0x43 fun s j n x =>
    let b := s.mtab x.mt
    if (List.range 16).any fun k => decide (mtPars b ≤ k) && leAt j.args (4 * k) 4 != 0 then s.finishWith j RESERVED_NONZERO
    else
      let ps := (List.range 16).map fun k => signed 32 (leAt j.args (4 * k) 4)
      (s.modInst n fun x =>
        let y := { x with pars := ps, armE := s.elapsed }
        let t := y.timedNow b s.elapsed [5, 9]
        { y with timed := y.timed.filter fun i => t.contains i }).finishWith j OK

/-- The query block of an instance (R356). -/
def State.instBlock (s : State) (x : InstS) : List Nat :=
  [x.state, x.cls + 4 * b2n x.watch + 8 * x.mode + 64 * b2n x.skipped + 128 * b2n x.cascade] ++ toLe 2 x.mt ++
    toLe 4 (leAt (s.mtab x.mt) 12 4) ++ toLe 8 x.entered ++ toLe 8 x.tau ++ ((List.range 4).map fun k => toLe 4 (x.cnt.getD k 0)).flatten ++
    toLe 4 x.trans ++ toLe 4 x.emits ++ toLe 4 x.suppr ++ toLe 4 x.skips ++ toLe 4 x.drops ++ toLe 4 x.outep

/-- RCG_QUERY (R356). -/
def execRcgQuery (s : State) : Res :=
  .next <| s.instJob 0x44 fun s j n x =>
    (s.modInst n fun x => { x with skipped := false, cascade := false }).finish j { status := OK, result := s.instBlock x }

/-! Suspension and resets (R366, R369, R370). -/


/-- An instance resumes (R369): its slots missing, its rate histories empty, one step as a time trigger, one output sample. -/
def State.rcgResume (s : State) (n m : Nat) : State :=
  let s := s.modInst n fun x =>
    { x with mode := m, slots := x.slots.map (fun g => { g with missing := true }), rings := []
             timed := x.timedNow (s.mtab x.mt) s.elapsed [5, 9] }
  s.rcgStep { inst := n, kind := .time, ct := s.ct } true

/-- Instances are suspended, handed over or resumed as the stage, the power state and the quarantine say. -/
def State.rcgStage (s : State) : State :=
  s.rcg.insts.foldl (fun s y =>
    let n := y.1
    let m := s.rcgMode y.2
    if m = y.2.mode then s
    else if m = 1 then ((s.rcgPurge n).interrupt y.2.outep).modInst n fun x => { x with mode := 1 }
    else if y.2.mode = 1 then s.rcgResume n m
    else s.modInst n fun x => { x with mode := m }) s

/-- A warm or core reset returns each instance to INIT, with a GAP on its output (R370). -/
def State.rcgResetAll (s : State) : State := s.rcg.insts.foldl (fun s y => (s.interrupt y.2.outep).resetInst y.1) s

/-! Registers (R368, R371). -/

/-- An instance uses entry x of RCG_EVOWN. -/
def State.evOwnUsed (s : State) (x : Nat) : Bool :=
  s.rcg.insts.any fun y =>
    let b := s.mtab y.2.mt
    if x < 32 then (List.range 4).any fun k => mtTgt b k == 3 && y.2.tgts.getD k 0 == x else mtNames b (x - 32)

/-- A write of RCG_EVOWNx (R368). -/
def State.evOwnWrite (s : State) (x : Nat) (v : Word) : State :=
  if (wbit v 31 != s.on (RCG_EVOWN_ASSIGNED x) || wbits v 9 0 != s.g (RCG_EVOWN_OWNER x)) ∧ s.evOwnUsed x then s.discard rRCG_EVOWN x 0 BUSY
  else s.store rRCG_EVOWN x 0 v

/-- RCG_COUNTER_CLR (R371): RCG_CLR. -/
def execRcgCounterClr (v : Word) (s : State) : Res :=
  .next (s.barWrite rRCG_CLR 0 0 v fun s => s.clrWrite
    [RCG_STEPS, RCG_OVER, RCG_CASCADE, RCG_ACTSKIP, RCG_EMITSUP, RCG_WAKECNT] v)

end Sys2Proof.Machine
end

