-- ==== Sys2Proof/Machine/Stream.lean ====
section
/-! DEFINITION. Streams and endpoint queries as commands (spec/13_rings_doorbells_and_casks.md R421-R425;
spec/14_ordering_and_recovery.md R448, R472). -/
namespace Sys2Proof.Machine

/-! MARKs (R425). -/

/-- A MARK is placed in its stream now: after the GAP for what the stream has missed. -/
def State.placeMark (s : State) (slot cookie : Nat) : State :=
  match s.rng.streams.find? fun x => x.slot == slot with
  | none => s
  | some st =>
    let s := s.modStream slot fun x => { x with miss := none }
    s.putTogether (s.ctx st.tid).uid st.ring
      (gapFor (s.handle st) st.miss ++ [{ kind := 6, stream := s.handle st, seq := cookie, ct := s.ct }])

/-- A command completes after the cask of a stream's ring. -/
def State.finishOn (s : State) (id : JobId) (uid ring : Nat) : State :=
  match s.jobOf id with
  | some j => s.finishAfter j uid ring
  | none => s

/-- The MARKs of a stream whose AT has come are placed; each closes its cask with FLUSH. -/
def State.dueMarks (s : State) (slot : Nat) : State :=
  match s.rng.streams.find? fun x => x.slot == slot with
  | none => s
  | some st =>
    let uid := (s.ctx st.tid).uid
    let s := s.modStream slot fun x => { x with marks := x.marks.filter fun m => decide (s.ct < m.1) }
    (st.marks.filter fun m => decide (m.1 ≤ s.ct)).foldl (fun s m =>
      ((s.placeMark slot m.2.1).closeCask uid st.ring clFLUSH).finishOn m.2.2 uid st.ring) s

/-- Every MARK whose AT has come is placed, stream by stream. -/
def State.allMarks (s : State) : State := (s.rng.streams.map StreamS.slot).foldl State.dueMarks s

/-! Closing (R387, R424, R425). -/

/-- A stream closes: its waiting MARKs are placed, nothing follows, and the open cask of its ring closes with a code. -/
def State.closeStream (s : State) (slot code : Nat) : State :=
  match s.rng.streams.find? fun x => x.slot == slot with
  | none => s
  | some st =>
    let uid := (s.ctx st.tid).uid
    let s := State.forceStream slot st.hold.length [] s
    let s := st.marks.foldl (fun s m => s.placeMark slot m.2.1) s
    let s : State := { s with rng := { s.rng with
      streams := s.rng.streams.filter fun x => x.slot != slot
      charges := s.rng.charges.filter fun c => !(c.tid == st.tid && c.handle == s.handle st) } }
    let s := (s.closeCask uid st.ring code).releaseEvs
    (st.marks.foldl (fun s m => s.finishOn m.2.2 uid st.ring) s).nofitScan

/-- The streams of a list close. -/
def State.closeStreams (s : State) (code : Nat) (l : List StreamS) : State := l.foldl (fun s st => s.closeStream st.slot code) s

/-! STREAM_OPEN (R422). -/

/-- The lowest free stream slot. -/
def freeSlot (l : List StreamS) : Nat := ((List.range (l.length + 1)).find? fun n => !l.any fun x => x.slot == n).getD 0

/-- The run lies within one ARRAY report of one node (R422 check 4). -/
def State.oneArray (s : State) (first count : Nat) : Bool :=
  let r := s.ep first
  (List.range count).all fun k =>
    let q := s.ep (first + k)
    q.src == srcCOURSE && q.grist && q.nodeid == r.nodeid && q.report == r.report

/-- The checks of R422, in order. -/
def State.openFails (s : State) (j : JobS) : Option Nat :=
  let t := j.id.tid
  let d := j.desc
  let e := dBody d 0 4 % 131072
  let n := dBody d 4 2
  let rate := dBody d 8 4
  let grist := nbit (dBody d 7 1) 0
  let c := chargeOf t 0 d (s.ep e).elemsize
  if n < 1 ∨ 1024 < n ∨ rate < 1 ∨ 300000000 < rate ∨ 131072 < e + n then some OUT_OF_RANGE
  else if (List.range n).any fun k => (s.ep (e + k)).src == 0 then some BAD_HANDLE
  else if !(List.range n).all fun k => s.mayRead t (e + k) then some NO_LEASE
  else if grist && (!s.oneArray e n || nbit (dBody d 7 1) 1) then some OUT_OF_RANGE
  else match (if j.id.remote then none else s.ringRefuses c) with
    | some code => some code
    | none =>
      if (!j.id.remote && !s.homeQuota c) || (s.streamCharged e n && decide ((s.ctx t).srate < s.srateUse t + rate)) ||
          decide (131072 ≤ s.rng.streams.length) then some QUOTA_EXCEEDED
      else none

/-- STREAM_OPEN's effect: the stream begins at sequence number 0 with a full bucket; the handle names it (R422, R423). -/
def State.openStream (s : State) (j : JobS) : State :=
  let d := j.desc
  let t := j.id.tid
  let slot := freeSlot s.rng.streams
  let rate := dBody d 8 4
  let st : StreamS :=
    { slot := slot, tid := t, ring := dBody d 6 1, first := dBody d 0 4 % 131072, count := dBody d 4 2,
      grist := nbit (dBody d 7 1) 0, compact := nbit (dBody d 7 1) 1, maxrate := rate,
      level := max 4 ((rate + 99) / 100) * 1000000000, levelAt := s.elapsed }
  let c := chargeOf t (s.handle st) d (s.ep st.first).elemsize
  let s : State := { s with rng := { s.rng with
    streams := s.rng.streams ++ [st], charges := if j.id.remote then s.rng.charges else s.rng.charges ++ [c] } }
  s.finish j { status := OK, value := s.handle st }

/-- STREAM_OPEN (R421, R422). -/
def execStreamOpen (s : State) : Res :=
  .next <| s.runJob 0x10 (fun _ => none) fun s j =>
    match s.openFails j with
    | some code => (if code = QUOTA_EXCEEDED then s.quotaRefuse else s).finishWith j code
    | none => s.passMissed.openStream j

/-- The stream a job's handle names. -/
def State.streamAt (s : State) (j : JobS) : Option StreamS := s.rng.streams.find? fun x => x.slot == dBody j.desc 0 4 % 131072

/-- A stream may be used by its opener alone (R417 check 3, R421). -/
def State.openerCheck (s : State) (j : JobS) : Option Nat :=
  match s.streamAt j with
  | some st => if st.tid = j.id.tid then none else some NOT_OWNER
  | none => none

/-- STREAM_CLOSE (R424): the completion follows the cask. -/
def execStreamClose (s : State) : Res :=
  .next <| s.runJob 0x11 s.openerCheck fun s j =>
    match s.streamAt j with
    | none => s.finishWith j BAD_HANDLE
    | some st => (s.closeStream st.slot clFLUSH).finishAfter j (s.ctx st.tid).uid st.ring

/-- MARK's effect: placed at once, or kept until AT (R425). -/
def State.mark (s : State) (j : JobS) (st : StreamS) : State :=
  let cookie := dBody j.desc 4 4
  let at_ := dBody j.desc 8 8
  let uid := (s.ctx st.tid).uid
  if !j.id.remote && (s.cr st.tid st.ring).state != rsRUNNING then s.finishWith j NOT_IN_STATE
  else if s.ct < at_ then s.modStream st.slot fun x => { x with marks := x.marks ++ [(at_, cookie, j.id)] }
  else ((s.placeMark st.slot cookie).closeCask uid st.ring clFLUSH).finishAfter j uid st.ring

/-- MARK (R425): the MARKs whose AT has come are placed, then the next MARK descriptor executes. -/
def execMark (s : State) : Res :=
  .next <| if !s.coreRuns then s else
    s.allMarks.runJob 0x12 s.openerCheck fun s j =>
      match s.streamAt j with
      | none => s.finishWith j BAD_HANDLE
      | some st => s.mark j st

/-- EP_QUERY (R421): the endpoint record. -/
def execEpQuery (s : State) : Res :=
  .next <| s.runJob 0x28 (fun _ => none) fun s j =>
    let e := dBody j.desc 0 4 % 131072
    if (s.ep e).src = 0 then s.finishWith j BAD_HANDLE
    else if !(s.mayName j.id.tid e || isT0 j.id.tid) then s.finishWith j NO_LEASE
    else s.finish j { status := OK, result := (s.ep e).pack }

end Sys2Proof.Machine
end

