-- ==== Sys2Proof/Machine/Ten.lean ====
section
/-! DEFINITION. Tenancy commands: the two-phase distribution of tenants and bindings, ownership, leases, reset and destroy, keys
and windows (spec/12_tenants_and_isolation.md R376-R401; spec/16_roles_splits_and_recoupling.md R519, R522). -/
namespace Sys2Proof.Machine

/-! The end of a lease (R384-R388). -/

/-- The handle of a lease (R384). -/
def State.leaseHandle (s : State) (idx : Nat) : Nat := s.pos * 4096 + idx

/-- A lease by its index. -/
def State.lease (s : State) (idx : Nat) : Option LeaseS := s.ten.leases.find? fun l => l.idx == idx

/-- Changes a lease. -/
def State.modLease (s : State) (idx : Nat) (f : LeaseS → LeaseS) : State :=
  s.setLeases (s.ten.leases.map fun l => if l.idx = idx then f l else l)

/-- The grantee's casks of step 3 have reached their home: valid on the ring of a home here, accepted by a home elsewhere. -/
def State.leaseReady (s : State) (l : LeaseS) : Bool :=
  let uid := (s.ctx l.grantee).uid
  l.casks.all fun c =>
    if (s.ctx l.grantee).home = s.pos then s.caskDone uid s.pos c.1 c.2
    else !s.rng.fwd.any fun x => x.uid == uid && x.ring == c.1 && decide (x.pcn ≤ c.2)

/-- Step 5 of R387: the lease falls away, the command completes and both tenants get the lease-ended record. -/
def State.leaseClose (s : State) (l : LeaseS) : State :=
  let s := (s.setLeases (s.ten.leases.filter fun x => x.idx != l.idx)).inc TEN_LEASEEND
  let e := s.mkEv evLEASE 1 s.ct (s.leaseHandle l.idx) (l.grantor % 1024 + 65536 * (l.grantee % 1024)) (l.ended.getD 0) 0
  let s := (s.record l.grantor e).record l.grantee e
  match l.job with
  | some id => s.finishId id { status := OK }
  | none => s

/-- Step 5 of a lease that has ended, once its casks have reached their home. -/
def State.leaseSettle (s : State) (idx : Nat) : State :=
  match s.lease idx with
  | some l => if l.ended.isSome && s.leaseReady l then s.leaseClose l else s
  | none => s

/-- A run of local endpoints holds one that a check no longer passes, within a lease. -/
def State.uncovered (l : LeaseS) (may : Nat → Bool) (first count : Nat) : Bool :=
  let lo := max first (l.first % 131072)
  let hi := min (first + count) (l.first % 131072 + l.count)
  (List.range (hi - lo)).any fun k => !may (lo + k)

/-! What cannot become valid in time (R388, R472). -/

/-- Casks of a ring that hold a record of a stream lost are discarded, up to a number (R388). -/
def State.discardUpTo (s : State) (uid ring n : Nat) (has : CaskS → Bool) : State :=
  let is := fun (c : CaskS) => c.uid == uid && c.src == s.pos && c.ring == ring && decide (c.pcn ≤ n) && has c && !s.placing c
  let h := s.rng.held.filter is
  let s := h.foldl State.countLost s
  let s : State := { s with rng := { s.rng with held := s.rng.held.filter fun c => !h.contains c } }
  ((s.rng.fwd.filter is).reverse.foldl State.dropFwd s).showCbuf

/-- A cask ring of a tenant cannot take casks now: HALTED or STOPPED, no posted buffer, or a home without a path. -/
def State.ringStuck (s : State) (t ring : Nat) : Bool :=
  let h := (s.ctx t).home
  if h = s.pos then
    let q := s.cr t ring
    q.state == rsHALTED || q.state == rsSTOPPED || (q.entry.isNone && q.hub == q.post)
  else (s.routePort h).isNone

/-- REMTMO has passed since an elapsed count. -/
def State.remtmo (s : State) (at_ : Nat) : Bool := decide (at_ + 1000000 * s.g PSC_CFG_REMTMO ≤ s.elapsed)

/-- A tenant's home cannot be reached: another hub without a path, or this hub with its host link down (R17). -/
def State.homeGone (s : State) (t : Nat) : Bool :=
  let h := (s.ctx t).home
  if h = s.pos then !s.sys.hostLink else (s.routePort h).isNone

/-- A lease whose end waits for casks that cannot become valid ends by R388: at once when the grantee's home cannot be reached, after
REMTMO when its ring is stuck (R472). -/
def State.leaseGiveUp (s : State) (l : LeaseS) : State :=
  if l.ended.isSome && !s.leaseReady l && (s.homeGone l.grantee || (s.remtmo l.at_ && l.casks.any fun c => s.ringStuck l.grantee c.1)) then
    let uid := (s.ctx l.grantee).uid
    let h := fun (c : CaskS) => c.recs.any fun r => l.lost.contains r.stream
    let s := l.casks.foldl (fun s c => s.discardUpTo uid c.1 c.2 h) s
    s.leaseClose l
  else s

/-- A lease ends for a reason, at this instant (R387 steps 1-4). -/
def State.endLease (s : State) (idx reason : Nat) (job : Option JobId) : State :=
  match s.lease idx with
  | none => s
  | some l =>
    if l.ended.isSome then s
    else
      let s := s.modLease idx fun l => { l with ended := some reason, job := job, at_ := s.elapsed }
      let lost := s.rng.streams.filter fun st => st.tid == l.grantee && State.uncovered l (s.mayRead l.grantee) st.first st.count
      let insts := s.rcg.insts.filter fun x => x.2.owner == l.grantee && x.2.ins.any fun i =>
        match i with
        | some e => State.uncovered l (s.mayName l.grantee) e 1
        | none => false
      let handles := lost.map s.handle
      let s := s.closeStreams clFLUSH lost
      let s := insts.foldl (fun s x => s.endInst x.1) s
      let uid := (s.ctx l.grantee).uid
      let casks := ((lost.map StreamS.ring).eraseDups).map fun r => (r, s.lastPcn uid r)
      let s := (s.modLease idx fun l => { l with casks := casks, lost := handles }).leaseSettle idx
      match s.lease idx with
      | some l => if s.homeGone l.grantee then s.leaseGiveUp l else s
      | none => s

/-- The leases of a list end for a reason. -/
def State.endLeases (s : State) (reason : Nat) (l : List LeaseS) : State := l.foldl (fun s x => s.endLease x.idx reason none) s

/-! Ownership (R380-R383). -/

/-- The local endpoints that a binding names and this hub holds, with their records. -/
def State.boundBy (s : State) (b : BindS) : List (Nat × EpS) := s.ept.recs.cells.filter fun c => s.bindCovers b c.1 c.2

/-- Endpoints take new owners: leases of the former owner over them end, and its streams on them close (R382). -/
def State.ownersChange (s : State) (l : List (Nat × Nat)) : State :=
  let ch := l.filter fun x => s.ownerUid x.1 != x.2
  let was : List (Nat × Nat) := ch.map fun x => (x.1, s.ownerTid x.1)
  let leases := s.ten.leases.filter fun l => was.any fun (x : Nat × Nat) =>
    (l.grantor == x.2 || (isT0 l.grantor && x.2 == 0)) && decide (l.first % 131072 ≤ x.1) && decide (x.1 < l.first % 131072 + l.count)
  let s := ch.foldl (fun s x => s.setOwner x.1 x.2) s
  let s := s.endLeases 3 leases
  (s.closeStreams clFLUSH (s.rng.streams.filter fun st => was.any fun x => st.covers x.1 && !s.mayRead st.tid x.1)).nofitScan

/-- The endpoints of the records take the owners that the bindings give them. -/
def State.rebind (s : State) (l : List (Nat × EpS)) : State := s.ownersChange (l.map fun x => (x.1, s.bindOwner x.1 x.2))

/-- The lowest of n slots from `base` that is not in use; else `d`. -/
def emptySlot (used : List Nat) (base n d : Nat) : Nat :=
  (((List.range n).map fun k => base + k).find? fun k => !used.contains k).getD d

/-- The retained pair of a node is written as held most recently (R383), at most 1,024; a worn region keeps what it has. -/
def State.keepPair (s : State) (id uid : Nat) : State :=
  if s.on NVS_RGN3_WORN then s
  else
    let l := s.ten.pairs.filter fun x => x.id != id
    let slot := match s.ten.pairs.find? fun x => x.id == id with
      | some x => x.slot
      | none => emptySlot (l.map PairS.slot) 0 1024 ((l.headD ⟨0, 0, 0⟩).slot)
    let l := (l.filter fun x => x.slot != slot) ++ [⟨slot, id, uid⟩]
    if l = s.ten.pairs then s
    else { s with
      ten := { s.ten with pairs := l }
      nvs := s.nvs.push { region := 3, lblk := 8 + slot / 128, what := .rewrite } }

/-- Retained pairs are given up: their slots are emptied (R383, R616). -/
def State.dropPairs (s : State) (p : PairS → Bool) : State :=
  if s.on NVS_RGN3_WORN then s
  else
    let gone := s.ten.pairs.filter p
    let blocks := (List.range 8).filter fun k => gone.any fun x => x.slot / 128 == k
    blocks.foldl (fun s k => { s with nvs := s.nvs.push { region := 3, lblk := 8 + k, what := .rewrite } })
      { s with ten := { s.ten with pairs := s.ten.pairs.filter fun x => !p x } }

/-- The hub holds a node: its pair follows the keystone's binding, and its endpoints take their owners (R383). -/
def State.bindNode (s : State) (id : Nat) : State :=
  let s := match s.ten.binds.find? fun b => b.kind == 1 && b.id == id with
    | some b => s.keepPair id b.owner
    | none =>
      match s.ten.pairs.find? fun (x : PairS) => x.id == id with
      | some x => s.keepPair id x.uid
      | none => s
  s.rebind (s.ept.recs.cells.filter fun c => c.2.src == srcCOURSE && c.2.nodeid == id)

/-- The nodes this hub holds. -/
def State.heldNodes (s : State) : List Nat := (s.crs.nodes.cells.filter fun c => c.2.done).map fun c => c.2.id

/-! Bindings (R381, R382). -/

/-- A value of a binding entry lies outside its range. -/
def bindRange (x : BindS) : Bool :=
  if x.kind = 1 then decide (x.rlast < x.rfirst) || x.rlast == 255
  else x.id == 0 || decide (131072 < x.first % 131072 + x.id)

/-- Two entries name the same endpoints by the same words. -/
def BindS.same (a b : BindS) : Bool :=
  a.kind == b.kind && a.rfirst == b.rfirst && a.rlast == b.rlast && a.first == b.first && a.id == b.id

/-- Two entries overlap. -/
def BindS.overlaps (a b : BindS) : Bool :=
  a.kind == b.kind &&
    if a.kind = 1 then a.id == b.id && decide (a.rfirst ≤ b.rlast) && decide (b.rfirst ≤ a.rlast)
    else decide (a.first < b.first + b.id) && decide (b.first < a.first + a.id)

/-- An entry takes its place in the binding table: an owner of zero removes it. -/
def putBind (l : List BindS) (x : BindS) : List BindS :=
  let l := l.filter fun b => !b.same x
  if x.owner = 0 then l else l ++ [x]

/-- Applies a committed binding (R382, R383). -/
def State.applyBind (s : State) (x : BindS) : State :=
  let l := s.boundBy x
  let s : State := { s with ten := { s.ten with binds := putBind s.ten.binds x } }
  let s :=
    if x.kind = 1 ∧ s.heldNodes.contains x.id = true then
      if x.owner = 0 then s.dropPairs fun p => p.id == x.id else s.keepPair x.id x.owner
    else s
  s.rebind l

/-- What this hub refuses of a binding: a RUN over COURSE endpoints, or an entry or instance of the present owner on an endpoint
that would change hands (R381, R382 check 6). -/
def State.bindRefuses (s : State) (x : BindS) : Option Nat :=
  let l := s.boundBy x
  if x.kind = 2 ∧ (l.any fun c => c.2.src == srcCOURSE) = true then some OUT_OF_RANGE
  else if l.any fun c => s.ownerUid c.1 != 0 && s.ownerUid c.1 != x.owner &&
      ((s.psc.ents.any fun e => e.tid == s.ownerTid c.1 && (e.eps.contains c.1 || (e.src != exSERIAL && e.target == c.1))) ||
        s.rcg.insts.any fun i => i.2.owner == s.ownerTid c.1 && i.2.ins.contains (some c.1)) then some BUSY
  else none

/-! Tenants (R376-R378). -/

/-- A reserved bit or code of a tenant definition is set. -/
def defReserved (b : List Nat) : Bool :=
  decide (1024 ≤ leAt b 0 2) || decide (16 ≤ leAt b 2 1) || decide (3 ≤ leAt b 3 1) || leAt b 4 4 != 0 ||
    (List.range 32).any fun k => leAt b (32 + k) 1 != 0

/-- A value of a tenant definition lies outside its range. -/
def defRange (b : List Nat) : Bool :=
  leAt b 0 2 == 0 || leAt b 8 8 == 0 || decide (300000000 < leAt b 16 4) || decide (16000000 < leAt b 20 4) ||
    decide (16384 < leAt b 24 2) || decide (32768 < leAt b 26 2) || decide (16384 < leAt b 28 2) || decide (4096 < leAt b 30 2)

/-- A context with a definition's values. -/
def CtxS.define (c : CtxS) (b : List Nat) : CtxS :=
  { c with
    state := ctxACTIVE, home := leAt b 2 1, ceil := leAt b 3 1 % 4, uid := leAt b 8 8, srate := leAt b 16 4, bw := leAt b 20 4,
    streams := leAt b 24 2, entries := leAt b 26 2, inst := leAt b 28 2, leases := leAt b 30 2 }

/-- The definition of an ACTIVE tenant, in bytes (R376). -/
def CtxS.bytes (c : CtxS) (t : Nat) : List Nat :=
  toLe 2 t ++ [c.home, c.ceil, 0, 0, 0, 0] ++ toLe 8 c.uid ++ toLe 4 c.srate ++ toLe 4 c.bw ++ toLe 2 c.streams ++ toLe 2 c.entries ++
    toLe 2 c.inst ++ toLe 2 c.leases ++ List.replicate 32 0

/-- Applies a committed definition: a change of quotas, or a new tenant, which takes a stored key at its home and the nodes whose
retained pairs name its UID (R378, R383, R396). -/
def State.applyDef (s : State) (b : List Nat) : State :=
  let t := leAt b 0 2
  let c := s.ctx t
  if c.state ≠ ctxFREE then s.setCtx t { c.define b with state := c.state }
  else
    let c : CtxS := CtxS.define {} b
    let c := match s.ten.keys.find? fun k => k.uid == c.uid with
      | some k => if c.home = s.pos then { c with keygen := k.gen, key := k.key } else c
      | none => c
    let s := s.setCtx t c
    s.rebind (s.ept.recs.cells.filter fun x => x.2.src == srcCOURSE && s.heldNodes.contains x.2.nodeid &&
      s.bindOwner x.1 x.2 == c.uid)

/-! Reset and destroy (R397, R398). -/

/-- Every cask of a tenant held here is discarded and counted (R398). -/
def State.dropCasks (s : State) (uid : Nat) : State :=
  let mine := fun (c : CaskS) => c.uid == uid
  let l := s.rng.open_.filter mine ++ s.rng.fwd.filter mine ++ s.rng.held.filter mine
  let s := l.foldl State.countLost s
  ({ s with rng := { s.rng with
      open_ := s.rng.open_.filter fun c => !mine c
      fwd := s.rng.fwd.filter fun c => !mine c
      held := s.rng.held.filter fun c => !mine c
      gather := s.rng.gather.filter fun g => g.uid != uid
      loss := s.rng.loss.filter fun x => x.uid != uid
      pcns := s.rng.pcns.filter fun x => x.1 != uid
      expect := s.rng.expect.filter fun x => x.2.1 != uid
      evHeld := s.rng.evHeld.filter fun x => x.1 != uid
      watch := s.rng.watch.filter fun w => w.uid != uid } } : State).showCbuf

/-- A tenant's streams, entries, instances and leases on this hub end (R397). -/
def State.tenantEnds (s : State) (t : Nat) : State :=
  let s := s.closeStreams clSTOP (s.rng.streams.filter fun st => st.tid == t)
  let s := s.closeAllOf (s.ctx t).uid clSTOP
  let s := (s.psc.ents.filter fun e => e.tid == t).foldl (fun s e => s.destroyEnt e.idx) s
  let s := (s.rcg.insts.filter fun x => x.2.owner == t).foldl (fun s x => s.endInst x.1) s
  s.endLeases 4 (s.ten.leases.filter fun l => l.grantor == t || l.grantee == t)

/-- The key slot of a UID, where it has one, is erased (R396). -/
def State.forgetKey (s : State) (uid : Nat) : State :=
  match s.ten.keys.find? fun k => k.uid == uid with
  | none => s
  | some x => { s with
    ten := { s.ten with keys := s.ten.keys.filter fun k => k.uid != uid }
    nvs := s.nvs.push { region := 3, lblk := x.slot / 128, what := .forget uid } }

/-- A destroyed tenant's context is freed here, but for its casks: bindings, retained pairs unless kept, windows, rings and, with
FORGET, its key (R398). -/
def State.freeRest (s : State) (t : Nat) (forget keepPairs : Bool) : State :=
  let uid := (s.ctx t).uid
  let s : State := { s with ten := { s.ten with binds := s.ten.binds.filter fun b => b.owner != uid } }
  let s := if keepPairs then s else s.dropPairs fun p => p.uid == uid
  let s := s.ownersChange ((s.ten.owners.cells.filter fun c => c.2 == uid).map fun c => (c.1, 0))
  let s := if forget then s.forgetKey uid else s
  let s := s.setTr t {}
  let s := (List.range 4).foldl (fun s k => s.ringLevel t k false) s
  let s : State := { s with rng := { s.rng with charges := s.rng.charges.filter fun c => c.tid != t } }
  s.setCtx t {}

/-- A destroyed tenant's context is freed here, and its casks are discarded (R398). -/
def State.freeCtx (s : State) (t : Nat) (forget : Bool) : State := (s.dropCasks (s.ctx t).uid).freeRest t forget false

/-! CONFIG requests and answers (R522). -/

/-- Sends a CONFIG request with the next TAG and keeps it until it is answered. -/
def State.cfgSend (s : State) (ty dst : Nat) (body : List Nat) : State :=
  let tag := (s.rol.tag + 1) % 65536
  let b := toLe 2 tag ++ [0, 0] ++ body
  let r : CfgReqS := { tag := tag, dst := dst, ty := ty, body := b, at_ := s.elapsed }
  let s : State := { s with rol := { s.rol with tag := tag, reqs := s.rol.reqs ++ [r] } }
  s.sendMsg clsCONFIG ty dst b

/-- Answers a CONFIG request; the answer is stored by requester and TAG. -/
def State.cfgAnswer (s : State) (dst tag ty : Nat) (body : List Nat) : State :=
  let b := toLe 2 tag ++ [0, 0] ++ body
  let l := (s.rol.answers.filter fun a => !(a.1 == dst && a.2.1 == tag)) ++ [(dst, tag, ty, b)]
  let s : State := { s with rol := { s.rol with answers := l.drop (l.length - 32768) } }
  s.sendMsg clsCONFIG ty dst b

abbrev cfPREPARE : Nat := 1
abbrev cfPREPARED : Nat := 2
abbrev cfCOMMIT : Nat := 3
abbrev cfWITHDRAW : Nat := 4
abbrev cfREGACCESS : Nat := 5
abbrev cfREGRESULT : Nat := 6
abbrev cfSTATE : Nat := 7
abbrev cfGENSET : Nat := 8
abbrev cfGENACK : Nat := 9
abbrev cfACK : Nat := 10

/-! The distribution in two phases (R377, R519). Kinds: 1 definition, 2 binding, 3 destroy, 4 reset. -/

/-- A position has finished its part of a committed change; the command completes with the last. -/
def State.distAcked (s : State) (p : Nat) : State :=
  match s.ten.dist with
  | none => s
  | some d =>
    let w := d.wait.filter fun x => x != p
    if !d.commit then s
    else if w.isEmpty then ({ s with ten := { s.ten with dist := none } } : State).finishId d.job { status := OK }
    else { s with ten := { s.ten with dist := some { d with wait := w } } }

/-- A tenant's reset or destroy has ended at its home: the keystone is told. -/
def State.endReport (s : State) (e : EndS) : State :=
  match e.ack with
  | some (p, tag) => s.cfgAnswer p tag cfACK [OK, 0, 0, 0]
  | none => s.distAcked s.pos

/-- A command of the tenant's own ring that resets it is in execution. -/
def State.ownReset (s : State) (t : Nat) : Bool :=
  (s.tr t).cmds.any fun c => dOpc c.desc == 0x53 && dBody c.desc 0 2 == t

/-- The commands of an ending tenant have completed and their completions are written, so far as its completion ring can take them. -/
def TRingS.drained (r : TRingS) : Bool :=
  r.cmds.all (fun c => c.done.isSome) && (r.cpl.state != rsRUNNING || (r.cmds.isEmpty && r.cplPend.isNone))

/-- A cask ring of an ending tenant has nothing left to place or to return (R457). -/
def State.caskStill (s : State) (t r : Nat) : Bool :=
  let q := s.cr t r
  q.state != rsRUNNING || (q.place == 0 && q.hub == q.post)

/-- A cask ring of an ending tenant stops. -/
def State.endRing (s : State) (t r : Nat) : State :=
  let q := s.cr t r
  if q.state = rsSTOPPED then s else s.setCr t r q.stop

/-- The last steps of a tenant's reset or destroy at its home, once its commands and casks allow: the rings stop, and the tenant
is ACTIVE again or FREE (R397, R398). -/
def State.endCheck (s : State) (t : Nat) : State :=
  match (s.tr t).ending with
  | none => s
  | some e =>
    let s := (List.range 8).foldl (fun s r => s.fenceRing t r) s
    if !((s.tr t).drained && (List.range 8).all (s.caskStill t)) then s
    else
      let s := if e.destroy then s.dropCasks (s.ctx t).uid else s
      let s := (List.range 8).foldl (fun s r => s.endRing t r) s
      let r := s.tr t
      let s := s.setTr t { r with
        cmd := { r.cmd with state := rsSTOPPED, failed := false }, cpl := { r.cpl with state := rsSTOPPED, failed := false },
        evt := { r.evt with state := rsSTOPPED, failed := false }, fetched := none, cmds := [], draining := false, ending := none }
      let s := s.ringLevel t 3 false
      let s := if e.destroy then s.freeCtx t e.forget else s.setCtx t { s.ctx t with state := ctxACTIVE }
      s.endReport e

/-- A committed reset or destroy acts here (R397, R398). Answers whether it waits for this home. -/
def State.applyEnd (s : State) (t : Nat) (destroy forget : Bool) (ack : Option (Nat × Nat)) : State × Bool :=
  let here := s.homed t
  let own := s.ownReset t
  let s := s.setCtx t { s.ctx t with state := ctxRESETTING }
  let s := s.tenantEnds t
  if here then
    let e : EndS := { destroy := destroy, forget := forget, ack := if own then none else ack }
    let s := s.setTr t { s.tr t with ending := some e, draining := true, fetched := none }
    if own then (s, false)
    else
      let s := s.endCheck t
      (s, true)
  else if destroy then (s.freeCtx t forget, false)
  else (s.setCtx t { s.ctx t with state := ctxACTIVE }, false)

/-- Applies a committed item (R522). Answers whether the hub answers later, when a home has ended the tenant. -/
def State.applyItem (s : State) (kind : Nat) (item : List Nat) (ack : Option (Nat × Nat)) : State × Bool :=
  match kind with
  | 1 => ((s.applyDef item).nofitScan, false)
  | 2 => (s.applyBind (bindOf item), false)
  | 3 => s.applyEnd (leAt item 0 2 % 1024) true (nbit (leAt item 2 1) 0) ack
  | _ => s.applyEnd (leAt item 0 2 % 1024) false false ack

/-- What this hub answers to PREPARE. -/
def State.itemRefused (s : State) (kind : Nat) (item : List Nat) : Option Nat :=
  if kind = 2 then s.bindRefuses (bindOf item) else none

/-- The generation moves on at a commit (R519); a state transfer under way starts again (R521). -/
def State.newGen (s : State) (g : Nat) : State :=
  let s := s.f ROL_GEN g
  if s.keystoneHere then
    let again := !s.rol.xfers.isEmpty
    let s : State := { s with rol := { s.rol with
      combgen := g, xfers := [], xferAt := if again then some s.elapsed else s.rol.xferAt
      reqs := if again then s.rol.reqs.filter fun r => r.ty != 7 && r.ty != 8 else s.rol.reqs } }
    if s.g ROL_STS_ROLE = roleKEYSTONE then s.f ROL_COMBGEN g else s
  else s

/-- Every position has prepared: the change commits everywhere (R377). -/
def State.distCommit (s : State) : State :=
  match s.ten.dist with
  | none => s
  | some d =>
    let s : State := { s with ten := { s.ten with dist := some { d with commit := true, wait := s.pos :: d.have_ } } }
    let s := s.newGen d.gen
    let s := d.have_.foldl (fun s p => s.cfgSend cfCOMMIT p []) s
    let (s, later) := s.applyItem d.kind d.item none
    if later then s else s.distAcked s.pos

/-- The change is withdrawn from every hub that holds it, and the command completes with the failure's code. -/
def State.distFail (s : State) (code : Nat) : State :=
  match s.ten.dist with
  | none => s
  | some d =>
    let s : State := { s with
      ten := { s.ten with dist := none }
      rol := { s.rol with reqs := s.rol.reqs.filter fun r => r.ty != cfPREPARE } }
    let s := (d.have_ ++ d.wait).foldl (fun s p => s.cfgSend cfWITHDRAW p []) s
    s.finishId d.job { status := code }

/-- A hub has answered PREPARE. -/
def State.distPrepared (s : State) (p status : Nat) : State :=
  match s.ten.dist with
  | none => s
  | some d =>
    if d.commit ∨ !d.wait.contains p then s
    else if status ≠ OK then s.distFail status
    else
      let d := { d with wait := d.wait.filter fun x => x != p, have_ := d.have_ ++ [p] }
      let s : State := { s with ten := { s.ten with dist := some d } }
      if d.wait.isEmpty then s.distCommit else s

/-- Begins the distribution of an item to every hub of the directory. -/
def State.distribute (s : State) (j : JobS) (kind : Nat) (item : List Nat) : State :=
  let others := s.positions.filter fun p => p != s.pos
  let gen := (s.rol.combgen + 1) % 2 ^ 32
  match s.itemRefused kind item with
  | some c => s.finishWith j c
  | none =>
    if others.any fun p => (s.routePort p).isNone then s.finishWith j LINK_DOWN
    else
      let s : State := { s with ten := { s.ten with dist := some { job := j.id, kind := kind, gen := gen, item := item, wait := others } } }
      if others.isEmpty then s.distCommit
      else others.foldl (fun s p => s.cfgSend cfPREPARE p ([kind, 0, 0, 0] ++ toLe 4 gen ++ item)) s

/-- Runs a tenancy command once no earlier one is being distributed, no round runs and no state transfer is under way (R391, R530);
its issuer must then still be tenant 0 of the keystone, or for a reset the tenant itself. -/
def State.tenJob (s : State) (opc : Nat) (body : State → JobS → State) : State :=
  if s.ten.dist.isSome || s.rol.cur.isSome || s.rol.xferAt.isSome || !s.rol.xfers.isEmpty then s
  else s.runJob opc (fun j => if (opc ≠ 0x53 ∨ isT0 j.id.tid = true) ∧ !s.fromKeystone j.id.src j.id.tid then some ROLE_FORBIDDEN else none) body

/-! The commands (R421). -/

/-- Checks 4-6 of R377 for a create. -/
def State.createRefuses (s : State) (b : List Nat) : Option Nat :=
  let home := leAt b 2 1
  if defReserved b then some RESERVED_NONZERO
  else if defRange b then some OUT_OF_RANGE
  else if (s.ctx (leAt b 0 2)).state ≠ ctxFREE then some NOT_IN_STATE
  else if s.ten.ctx.cells.any fun c => c.1 != 0 && c.2.state == ctxACTIVE && c.2.uid == leAt b 8 8 then some OUT_OF_RANGE
  else if !(if home = s.pos then s.sys.hostLink else s.hostPositions.contains home) then some HOME_UNREACHABLE
  else none

/-- TEN_CREATE (R377). -/
def execTenCreate (s : State) : Res :=
  .next <| s.tenJob 0x50 fun s j =>
    match s.createRefuses j.args with
    | some c => s.finishWith j c
    | none => s.distribute j 1 (j.args.take 64)

/-- The checks of R378. -/
def State.changeRefuses (s : State) (b : List Nat) : Option Nat :=
  let c := s.ctx (leAt b 0 2)
  if defReserved b then some RESERVED_NONZERO
  else if defRange b ∨ c.state ≠ ctxACTIVE ∨ c.uid ≠ leAt b 8 8 ∨ c.home ≠ leAt b 2 1 then some OUT_OF_RANGE
  else none

/-- TEN_CHANGE (R378). -/
def execTenChange (s : State) : Res :=
  .next <| s.tenJob 0x51 fun s j =>
    match s.changeRefuses j.args with
    | some c => s.finishWith j c
    | none => s.distribute j 1 (j.args.take 64)

/-- The tenants whose reset or destroy is under way here go on (R397). -/
def State.endAll (s : State) : State := s.rng.rings.keys.foldl State.endCheck s

/-- The checks of TEN_RESET and TEN_DESTROY on their tenant (R374, R421). -/
def State.endRefuses (s : State) (t : Nat) : Option Nat :=
  if t = 0 then some OUT_OF_RANGE else if (s.ctx t).state = ctxFREE then some BAD_HANDLE
  else if (s.ctx t).state = ctxRESETTING then some BUSY else none

/-- TEN_DESTROY (R398): goes on with one under way, then the next descriptor. -/
def execTenDestroy (s : State) : Res :=
  .next <| s.endAll.tenJob 0x52 fun s j =>
    match s.endRefuses (dBody j.desc 0 2) with
    | some c => s.finishWith j c
    | none => s.distribute j 3 (toLe 2 (dBody j.desc 0 2) ++ [dBody j.desc 2 1])

/-- TEN_RESET (R397): goes on with one under way, then the next descriptor. -/
def execTenReset (s : State) : Res :=
  .next <| s.endAll.tenJob 0x53 fun s j =>
    match s.endRefuses (dBody j.desc 0 2) with
    | some c => s.finishWith j c
    | none => s.distribute j 4 (toLe 2 (dBody j.desc 0 2) ++ [0])

/-- The checks of R382 at the keystone. -/
def State.bindFails (s : State) (b : List Nat) : Option Nat :=
  let x := bindOf b
  if bindReserved b then some RESERVED_NONZERO
  else if bindRange x then some OUT_OF_RANGE
  else if x.owner ≠ 0 ∧ !(s.ten.ctx.cells.any fun c => c.1 != 0 && c.2.state == ctxACTIVE && c.2.uid == x.owner) then some BAD_HANDLE
  else if (s.ten.binds.any fun y => y.overlaps x && !y.same x) ∨ 8192 < (putBind s.ten.binds x).length then some OUT_OF_RANGE
  else none

/-- BIND (R382). -/
def execBind (s : State) : Res :=
  .next <| s.tenJob 0x54 fun s j =>
    let b := (List.range 24).map fun k => dBody j.desc k 1
    match s.bindFails b with
    | some c => s.finishWith j c
    | none => s.distribute j 2 b

/-! Leases (R384-R387). -/

/-- The checks of R385 from the second on. -/
def State.grantFails (s : State) (j : JobS) : Option Nat :=
  let t := j.id.tid
  let d := j.desc
  let g := dBody d 8 2
  let e := dBody d 0 4 % 131072
  let n := dBody d 4 4
  let x := dBody d 16 8
  if s.quar then some QUARANTINED
  else if !s.tenActive g ∨ g = t ∨ (g = 0 ∧ isT0 t = true) then some BAD_HANDLE
  else if !((List.range (min n (131072 - e))).all fun k => s.owns t (e + k)) then some NOT_OWNER
  else if n < 1 ∨ 131072 < e + n ∨ (x ≠ 0 ∧ x ≤ s.ct) then some OUT_OF_RANGE
  else if (s.ctx t).leases ≤ s.leaseUse t ∨ 4096 ≤ s.ten.leases.length then some QUOTA_EXCEEDED
  else none

/-- The lowest free lease index. -/
def freeLease (l : List LeaseS) : Nat := ((List.range (l.length + 1)).find? fun n => !l.any fun x => x.idx == n).getD 0

/-- LEASE_GRANT (R385). -/
def execLeaseGrant (s : State) : Res :=
  .next <| s.runJob 0x55 (fun j => if isT0 j.id.tid && !s.fromKeystone j.id.src j.id.tid then some ROLE_FORBIDDEN else none) fun s j =>
    match s.grantFails j with
    | some c => (if c = QUOTA_EXCEEDED then s.quotaRefuse else s).finishWith j c
    | none =>
      let d := j.desc
      let l : LeaseS := { idx := freeLease s.ten.leases, grantor := j.id.tid, first := dBody d 0 4, count := dBody d 4 4,
                          grantee := dBody d 8 2, expires := dBody d 16 8 }
      (s.setLeases (s.ten.leases ++ [l])).finish j { status := OK, value := s.leaseHandle l.idx }

/-- The lease a descriptor's handle names, while it is in force. -/
def State.leaseFor (s : State) (j : JobS) : Option LeaseS :=
  match s.lease (dBody j.desc 0 4 % 4096) with
  | some l => if l.ended.isNone then some l else none
  | none => none

/-- LEASE_REVOKE (R387): by the grantor or tenant 0 of the keystone, or given up by the grantee. -/
def execLeaseRevoke (s : State) : Res :=
  .next <| s.runJob 0x56 (fun j => match s.leaseFor j with
      | some l =>
        if l.grantor = j.id.tid ∨ l.grantee = j.id.tid ∨ s.fromKeystone j.id.src j.id.tid = true then none else some NOT_OWNER
      | none => none) fun s j =>
    match s.leaseFor j with
    | none => s.finishWith j BAD_HANDLE
    | some l => s.endLease l.idx (if l.grantee = j.id.tid then 5 else 1) (some j.id)

/-- LEASE_EXPIRY (R387): CT has reached EXPIRES. -/
def execLeaseExpiry (idx : Nat) (s : State) : Res :=
  .next <| match s.lease idx with
    | some l => if s.coreRuns && l.expires != 0 && decide (l.expires ≤ s.ct) then s.endLease idx 2 none else s
    | none => s

/-- LEASE_END_ACK (R387 steps 4 and 5). -/
def execLeaseEndAck (idx : Nat) (s : State) : Res := .next (s.leaseSettle idx)

/-! What cannot become valid in time: closes (R388, R472). -/

/-- A STREAM_CLOSE of a tenant here whose cask is stuck completes by R388. -/
def State.closeGiveUp (s : State) (t : Nat) (c : CmdS) : State :=
  match c.after with
  | some (src, ring, n) =>
    if dOpc c.desc = 0x11 ∧ c.done.isSome = true ∧ s.cmdDone t c = false ∧ s.remtmo c.afterAt = true ∧ s.ringStuck t ring = true then
      let s := if src = s.pos then
          s.discardUpTo (s.ctx t).uid ring n fun k => k.recs.any fun r => r.stream == dBody c.desc 0 4
        else s
      s.modCmd t c.slot fun c => { c with after := none }
    else s
  | none => s

/-- A STREAM_CLOSE for another hub's tenant whose cask cannot leave completes by R388. -/
def State.jobGiveUp (s : State) (j : JobS) : State :=
  match j.wait with
  | some (uid, ring, n) =>
    if dOpc j.desc = 0x11 ∧ s.remtmo j.at_ = true ∧ s.ringStuck j.id.tid ring = true then
      let s := s.discardUpTo uid ring n fun k => k.recs.any fun r => r.stream == dBody j.desc 0 4
      s.finishWith j OK
    else s
  | none => s

/-- CASK_VALID_TIMEOUT (R388, R472): every revocation or close whose cask could not become valid within REMTMO. -/
def execCaskValidTimeout (s : State) : Res :=
  .next <|
    let s := s.ten.leases.foldl State.leaseGiveUp s
    let s := s.rng.rings.keys.foldl (fun s t => (s.tr t).cmds.foldl (fun s c => s.closeGiveUp t c) s) s
    s.rng.jobs.foldl State.jobGiveUp s

/-! Keys (R394-R396). -/

/-- SET_KEY (R394): the key goes to KEYS; the command completes once it is written. -/
def execSetKey (s : State) : Res :=
  .next <| s.runJob 0x57 (fun _ => none) fun s j =>
    let key := (List.range 16).map fun k => dBody j.desc k 1
    let gen := dBody j.desc 16 1
    let c := s.ctx j.id.tid
    if (key.all fun b => b == 0) ∨ gen = 0 ∨ gen = c.keygen then s.finishWith j OUT_OF_RANGE
    else if s.on NVS_RGN3_WORN then s.finishWith j NVM_WORN
    else { s with nvs := s.nvs.push { region := 3, lblk := 0, what := .key c.uid gen key j.id } }

/-- A SET_KEY ends: the key is in force, or the command completes with a code and the previous key stands (R394). -/
def State.keyDone (s : State) (uid gen : Nat) (key : List Nat) (job : JobId) (fail : Option Nat) (redone : Bool) : State :=
  match fail with
  | some c => s.finishId job { status := c }
  | none =>
    let s := match s.tidOf uid with
      | some t => s.setCtx t { s.ctx t with key := key, keygen := gen }
      | none => s
    s.finishId job { status := OK, retried := redone }

/-! Windows (R392, R393, R401, R402). -/

/-- What the hub may read or write for a tenant now: rings, the buffer posted, results and arguments of commands in execution. -/
def State.accepted (s : State) (t : Nat) : List (Nat × Nat) :=
  let r := s.tr t
  let ring (x : RingS) (size : Nat) : List (Nat × Nat) := if x.state = rsSTOPPED then [] else [(x.base, size * 2 ^ x.ord)]
  ring r.cmd 64 ++ ring r.cpl 16 ++ ring r.evt 32 ++
    (r.crs.cells.map fun c =>
      if c.2.state = rsSTOPPED then []
      else (c.2.base, 16 * 2 ^ c.2.ord) :: match c.2.entry with
        | some e => [(leAt e 0 8, leAt e 8 4)]
        | none => []).flatten ++
    (r.cmds.map fun c =>
      (if dRes c.desc = 0 then [] else [(dRes c.desc, max 1 (resLen c.desc))]) ++
        if c.stage = 1 then (match argBlock c.desc with | some x => [x] | none => []) else []).flatten

/-- Something accepted lies in a window. -/
def State.windowUsed (s : State) (t : Nat) (w : WinS) : Bool := (s.accepted t).any fun x => w.holds x.1 x.2 false false

/-- The window being replaced shrinks or loses an attribute. -/
def WinS.narrowed (old new : WinS) : Bool :=
  !(new.holds old.base (old.len * 4096) false false) || (old.r && !new.r) || (old.w && !new.w)

/-- Two windows overlap. -/
def WinS.overlaps (a b : WinS) : Bool :=
  a.len != 0 && b.len != 0 && decide (a.base < b.base + b.len * 4096) && decide (b.base < a.base + a.len * 4096)

/-- Tenant t's window k. -/
def State.win (s : State) (t k : Nat) : WinS := (s.ctx t).wins.get (fun _ => {}) k

/-- Sets a window. -/
def State.setWin (s : State) (t k : Nat) (w : WinS) : State :=
  let c := if t = 0 then s.ten.ctx.get (fun _ => {}) 0 else s.ctx t
  s.setCtx t { c with wins := c.wins.set (fun _ => {}) k w }

/-- The checks of a WR commit (R393, R402). -/
def State.winFailsWr (s : State) (t k : Nat) (w : WinS) : Option Nat :=
  let old := s.win t k
  if !s.served t then some NOT_IN_STATE
  else if w.len = 0 ∨ 2 ^ 64 < w.base + w.len * 4096 ∨ (!w.r ∧ !w.w) then some OUT_OF_RANGE
  else if s.ten.ctx.cells.any fun c => c.1 != t && c.2.wins.cells.any fun x => w.overlaps x.2 then some OUT_OF_RANGE
  else if old.len ≠ 0 ∧ old.narrowed w = true ∧ s.windowUsed t old = true then some BUSY
  else none

/-- A write of TEN_WINIDX (R401). -/
def State.winIdxWrite (s : State) (v : Word) : State :=
  let t := wbits v 9 0
  let k := wbits v 18 16
  let old := s.win t k
  if (wbit v 31 ∧ (wbit v 30 ∨ wbit v 29)) ∨ (wbit v 30 ∧ wbit v 29) then s.discard rTEN_WINIDX 0 0 RESERVED_NONZERO
  else if wbit v 31 then
    let w : WinS := { base := s.g TEN_WINBASELO * 4096 + 2 ^ 32 * s.g TEN_WINBASEHI, len := s.g TEN_WINLEN,
                      r := s.on TEN_WINATTR_R, w := s.on TEN_WINATTR_W }
    match s.winFailsWr t k w with
    | some c => s.discard rTEN_WINIDX 0 0 c
    | none => s.setWin t k w
  else if wbit v 30 then
    let s := (s.f TEN_WINBASELO (lo32 old.base / 4096)).f TEN_WINBASEHI (hi32 old.base)
    let s := s.f TEN_WINLEN old.len
    ((s.f TEN_WINATTR_R (b2n old.r)).f TEN_WINATTR_W (b2n old.w)).f TEN_WINATTR_DEFINED (b2n (old.len != 0))
  else if wbit v 29 then
    if old.len ≠ 0 ∧ s.windowUsed t old = true then s.discard rTEN_WINIDX 0 0 BUSY else s.setWin t k {}
  else s

/-- WINDOW_COMMIT (R393): WR of TEN_WINIDX. -/
def execWindowCommit (t k : Nat) (s : State) : Res :=
  let v := Word.ofNat (2 ^ 31 + 65536 * k + t)
  .next (s.barWrite rTEN_WINIDX 0 0 v fun s => s.winIdxWrite v)

/-- WINDOW_READ (R401): RD of TEN_WINIDX. -/
def execWindowRead (t k : Nat) (s : State) : Res :=
  let v := Word.ofNat (2 ^ 30 + 65536 * k + t)
  .next (s.barWrite rTEN_WINIDX 0 0 v fun s => s.winIdxWrite v)

/-- WINDOW_CLR (R401): CLR of TEN_WINIDX. -/
def execWindowClr (t k : Nat) (s : State) : Res :=
  let v := Word.ofNat (2 ^ 29 + 65536 * k + t)
  .next (s.barWrite rTEN_WINIDX 0 0 v fun s => s.winIdxWrite v)

/-- TEN_COUNTER_CLR (R401): TEN_CLR. -/
def execTenCounterClr (v : Word) (s : State) : Res :=
  .next (s.barWrite rTEN_CLR 0 0 v fun s => s.clrWrite [TEN_QREFUSE, TEN_SRDROP, TEN_WINVIOL, TEN_LEASEEND] v)

end Sys2Proof.Machine
end

