-- ==== Sys2Proof/Machine/Adm.lean ====
section
/-! DEFINITION. Admission of course-bus nodes: the steps of R113, the description block, the endpoints of an admitted node, and
the answers of nodes to commands (spec/04_course_bus_nodes.md R112-R129, R135; spec/09_endpoints_formats_and_curves.md R271). -/
namespace Sys2Proof.Machine

/-! The admission in progress. -/

/-- Changes the admission of a bus; CRS_BxADMSTS follows it. -/
def State.modAdm (s : State) (b : Nat) (f : AdmS → AdmS) : State :=
  let s := s.setBus b { s.bus b with adm := (s.bus b).adm.map f }
  match (s.bus b).adm with
  | some m => (s.f (CRS_BADMSTS_STEP b) m.step).f (CRS_BADMSTS_ADDR b) m.addr
  | none => s

/-- The admission goes on at a step. -/
def State.admStep (s : State) (b step : Nat) : State := s.modAdm b fun m => { m with step := step, busy := false, lno := none }

/-- An admission begins for the node of a JOIN (R112, R113). -/
def State.admBegin (s : State) (b a id nonce caps : Nat) : State :=
  let s := s.setNode b a { id := id }
  let s := (s.f (CRS_NIDLO b a) (lo32 id)).f (CRS_NIDHI b a) (hi32 id)
  let s := s.wr (0x14008 + 0x200 * b + 0x10 * a) (Word.ofNat caps)
  (s.setBus b { s.bus b with
    adm := some { addr := a, nodeid := id, nonce := nonce, caps := caps }, drops := (s.bus b).drops.filter fun x => x != a }).admStep b 1

/-! The description block (R127-R129). -/

/-- The descriptors of a description block. -/
def ndbReports (b : List Nat) : List (List Nat) := (List.range (leAt b 1 1)).map fun i => (b.drop (32 + 16 * i)).take 16

/-- SLOTREQ and IRUN of a description block. -/
def ndbSlot (b : List Nat) : Nat := leAt b 20 2
/-- See ndbSlot. -/
def ndbIrun (b : List Nat) : Nat := leAt b 24 2

/-- A report descriptor breaks R128; `prev` is the report number before it. -/
def repBad (slot : Nat) (prev : Option Nat) (d : List Nat) : Bool :=
  rdReport d == 255 || (match prev with | some p => decide (rdReport d ≤ p) | none => false) || decide (2 < rdKind d) ||
    decide (16 ≤ leAt d 2 1) || !(rdEsize d == 1 || rdEsize d == 2 || rdEsize d == 4 || rdEsize d == 8) ||
    decide (rdNelem d < 1) || decide (1024 < rdNelem d) || rdSlen d != rdNelem d * rdEsize d || decide (slot < rdSlen d + 16) ||
    leAt d 10 2 != 0 ||
    (if rdKind d = rkUNTIMED then rdMinPer d != 0 else decide (rdMinPer d < 1000) || decide (1000000000 < rdMinPer d))

/-- A report descriptor of a list breaks R128. -/
def repsBad (slot : Nat) : Option Nat → List (List Nat) → Bool
  | _, [] => false
  | p, d :: t => repBad slot p d || repsBad slot (some (rdReport d)) t

/-- A description block breaks R127 or R128. -/
def ndbBad (b : List Nat) (nodeid caps : Nat) : Bool :=
  let n := leAt b 1 1
  let len := 32 + 16 * n + 4
  leAt b 0 1 != 1 || decide (n < 1) || decide (64 < n) || leAt b 2 2 != len || nbits caps 27 16 != len || b.length != len ||
    leAt b 4 8 != nodeid || decide (ndbSlot b < 64) || decide (4095 < ndbSlot b) || ndbSlot b % 32 != 0 || decide (10000 < leAt b 22 2) ||
    decide (ndbIrun b < 1) || decide (250 < ndbIrun b) || decide (leAt b 26 2 < ndbIrun b) || decide (400 < leAt b 26 2) ||
    (!nbit caps 8 && leAt b 28 2 != 0) || leAt b 30 2 != 0 || leAt b (len - 4) 4 != crc32 (b.take (len - 4)) ||
    repsBad (ndbSlot b) none (ndbReports b)

/-! Endpoints (R135, R271). -/

/-- The record of an element that the hub creates (R271). -/
def newRec (nodeid : Nat) (d : List Nat) (k : Nat) : EpS :=
  { src := srcCOURSE, ctl := (if rdKind d = rkARRAY then 2 else 0) + (if rdKind d = rkUNTIMED then 4 else 0), fmt := 0xFFFF,
    curve := 0xFFFF, quant := leAt d 8 2, nodeid := nodeid, report := rdReport d, elemsize := rdEsize d, elem := k }

/-- The records of a node. -/
def State.recsOf (s : State) (id : Nat) : List Nat :=
  (s.ept.recs.cells.filter fun c => c.2.src == srcCOURSE && c.2.nodeid == id).map Prod.fst

/-- The records from an index on match a node's reports, element by element. -/
def State.runMatches (s : State) (id first : Nat) (reps : List (List Nat)) : Bool :=
  (repEps first reps).all fun x =>
    let r := s.ep x.1
    r.src == srcCOURSE && r.nodeid == id && r.report == rdReport x.2.1 && r.elemsize == rdEsize x.2.1 && r.elem == x.2.2

/-- The node's reservation: known from an earlier admission with the same reports, or written ahead (R135, R271). -/
def State.resvFor (s : State) (id : Nat) (reps : List (List Nat)) : Option Nat :=
  match s.resvOf id with
  | some r => if r.reports = reps then some r.base else none
  | none => (s.recsOf id).find? fun e => s.runMatches id e reps

/-- The lowest run of n indices that avoids a rising list of used ones, from `at` on. -/
def runFrom (n : Nat) : Nat → List Nat → Option Nat
  | p, [] => if p + n ≤ 131072 then some p else none
  | p, u :: t => if u < p then runFrom n p t else if p + n ≤ u then some p else runFrom n (u + 1) t

/-- The lowest run of FREE records long enough for a node; those of an old reservation of its own count as FREE (R129, R271). -/
def State.freeRun (s : State) (id n : Nat) : Option Nat :=
  runFrom n 0 ((s.ept.recs.cells.filter fun c => c.2.src != srcFREE && !(c.2.src == srcCOURSE && c.2.nodeid == id)).map Prod.fst)

/-- A mash channel is disabled, as by a commit that clears EN. -/
def State.chOff (s : State) (n : Nat) : State :=
  let c := s.ch n
  if c.state = msOFF then s else ((s.mashPurge n).setCh n { c with cfg := wput c.cfg 31 31 0, state := msOFF }).mashSts

/-- The hub's own release of a node's records, with its effects (R135). -/
def State.releaseOld (s : State) (id : Nat) : State :=
  let l := s.recsOf id
  let s := s.entsEnd id
  let s := s.closeStreams clFLUSH (s.rng.streams.filter fun st => l.any st.covers)
  let s := (s.rcg.insts.filter fun x => x.2.ins.any fun i => match i with | some e => l.contains e | none => false).foldl
    (fun s x => s.endInst x.1) s
  let fed := s.msh.chans.cells.filter fun c => wbits c.2.cfg 13 12 == 0 && l.contains c.2.inp.toNat
  let s := (fed.map Prod.fst).foldl State.chOff s
  let s := l.foldl (fun s e => (s.setEp e {}).setOwner e 0) s
  { s with crs := { s.crs with resv := s.crs.resv.filter fun r => r.nodeid != id } }

/-- The node's records: restored, or made anew (R135). Answers the first index. -/
def State.takeRecs (s : State) (id : Nat) (reps : List (List Nat)) : State × Nat :=
  match s.resvFor id reps with
  | some e =>
    let s := (repEps e reps).foldl (fun s x =>
      let r := s.ep x.1
      s.setEp x.1 { r with ctl := r.ctl % 2 + (newRec id x.2.1 x.2.2).ctl }) s
    (s, e)
  | none =>
    let s := s.releaseOld id
    let e := (s.freeRun id (repCount reps)).getD 0
    ((repEps e reps).foldl (fun s x => s.setEp x.1 (newRec id x.2.1 x.2.2)) s, e)

/-- Step 6 of R113: the admission is complete. Where the free run found at step 4 has been taken since, the node is refused with
ENDPOINTS, as at that step (DESIGN CHOICE, notes/assumptions/220.md). -/
def State.admDone (s : State) (b : Nat) : State :=
  match (s.bus b).adm with
  | none => s
  | some m =>
    let reps := ndbReports m.ndb
    if (s.resvFor m.nodeid reps).isNone && (s.freeRun m.nodeid (repCount reps)).isNone then s.refuseAdm b rrENDPOINTS
    else
    let (s, e) := s.takeRecs m.nodeid reps
    let s : State := { s with crs := { s.crs with
      resv := (s.crs.resv.filter fun r => r.nodeid != m.nodeid) ++ [{ nodeid := m.nodeid, base := e, reports := reps }] } }
    let s := s.setNode b m.addr { s.node b m.addr with done := true, base := e, reports := reps }
    let s := (s.endAdm b).inc (CRS_BADMITS b)
    let s := s.bindNode m.nodeid
    let s := s.entsBack m.nodeid
    s.nodeRecord 1 b m.addr 0 m.nodeid (repCount reps)

/-! The steps (R113). -/

/-- The declared IRUN of the nodes counted on a segment's four buses (R114). -/
def State.segIrun (s : State) (b : Nat) : Nat :=
  let k := b / 4
  (s.crs.nodes.cells.map fun c => if c.1 / 32 / 4 = k then c.2.irun else 0).sum

/-- Step 4: the block is checked once it is whole (R114, R129). -/
def State.admNdb (s : State) (b : Nat) (m : AdmS) : State :=
  if ndbBad m.ndb m.nodeid m.caps then s.refuseAdm b rrNDB
  else
    let reps := ndbReports m.ndb
    if (s.resvFor m.nodeid reps).isNone && (s.freeRun m.nodeid (repCount reps)).isNone then s.refuseAdm b rrENDPOINTS
    else if s.g (GRD_CBUDGET_BUDGET (b / 4)) < s.segIrun b + ndbIrun m.ndb then s.refuseAdm b rrENERGY
    else (s.setNode b m.addr { s.node b m.addr with irun := ndbIrun m.ndb }).admStep b 5

/-- The ranged delay for an interval of R ticks (R82). -/
def rangeOf (r : Int) : Nat := ((r - 2400 + 1) / 2).toNat

/-- The median of three. -/
def median3 (l : List Nat) : Nat :=
  let a := l.getD 0 0
  let b := l.getD 1 0
  let c := l.getD 2 0
  max (min a b) (min (max a b) c)

/-- Step 2: a ranged delay has been measured. -/
def State.admRange (s : State) (b : Nat) (m : AdmS) (d : Nat) : State :=
  let ds := d :: m.ds
  if ds.length < 3 then s.modAdm b fun m => { m with ds := ds, busy := false }
  else
    let hi := ds.foldl max 0
    let lo := ds.foldl min hi
    if 4 < hi - lo then
      if m.second then s.refuseAdm b rrRANGE else s.modAdm b fun m => { m with ds := [], second := true, busy := false }
    else if 480 < median3 ds then s.refuseAdm b rrRANGE
    else (s.f (CRS_NDELAY b m.addr) (median3 ds)).admStep b 3

/-- The node has answered a command of its admission (R113). -/
def State.admReply (s : State) (b : Nat) (c : NcmdS) (status : Nat) (data : List Nat) (r : Int) : State :=
  match (s.bus b).adm with
  | none => s
  | some m =>
    if status ≠ OK then s.refuseAdm b rrSILENT
    else match c.opc with
      | 2 => s.admStep b 2
      | 4 => s.admRange b m (rangeOf r)
      | 7 =>
        let m := { m with ndb := m.ndb ++ data }
        let s := s.modAdm b fun x => { x with ndb := m.ndb, busy := false }
        if nbits m.caps 27 16 ≤ m.ndb.length then s.admNdb b m else s
      | _ => s

/-- A slot length is wanted for the candidate, and the layout that holds it announced; FIT when R80 cannot be met. -/
def State.admSlot (s : State) (b : Nat) (m : AdmS) (len : Nat) : State :=
  let n := s.node b m.addr
  let s' := s.setNode b m.addr { n with want := len }
  if s.layFits b (s'.layoutOf b (s'.wanted b)) then (s'.modAdm b fun m => { m with busy := true }).startLayout b
  else s.refuseAdm b rrFIT

/-- ADMISSION_STEP (R113): the command or layout of the step in progress. -/
def State.admGo (s : State) (b : Nat) : State :=
  match (s.bus b).adm with
  | none => s
  | some m =>
    let busy := fun (s : State) => s.modAdm b fun m => { m with busy := true }
    match m.step with
    | 1 => (busy s).firstCmd b m.addr { opc := ncASSIGN, byid := true, nodeid := m.nodeid, who := 0,
                                        param := [m.addr, 0] ++ toLe 2 m.nonce ++ [0, 0, 0, 0] }
    | 2 => (busy s).nodeCmd b m.addr { opc := ncRANGE, who := 0 }
    | 3 => s.admSlot b m 128
    | 4 =>
      let n := min 96 (nbits m.caps 27 16 - m.ndb.length)
      (busy s).nodeCmd b m.addr { opc := ncREADNDB, who := 0, param := toLe 2 m.ndb.length ++ toLe 2 n }
    | _ => s.admSlot b m (ndbSlot m.ndb)

/-! Layout changes (R124). -/

/-- A node fails its LAYOUT: a candidate is refused, any other node de-admitted; the layout starts again without it. -/
def State.layFail (s : State) (b a : Nat) : State :=
  match (s.bus b).adm with
  | some m => if m.addr = a then s.refuseAdm b rrSILENT else s.deadmit b a
  | none => s.deadmit b a

/-- A node has answered the LAYOUT of a number; one of a change since abandoned answers nothing of the new one. -/
def State.layReply (s : State) (b a lno status : Nat) : State :=
  if status ≠ OK then s.layFail b a
  else match (s.bus b).lchg with
    | some l => if l.lno = lno then s.setBus b { s.bus b with lchg := some { l with wait := l.wait.filter fun x => x != a } } else s
    | none => s

/-- LAYOUT_EFFECTIVE (R124 step 5): the new layout is used; the admission that waited for it goes on. -/
def State.layEffective (s : State) (b : Nat) : State :=
  match (s.bus b).lchg with
  | none => s
  | some l =>
    let s := (s.setBus b { s.bus b with lchg := none, lay := l.lay }).f (CRS_BSTS_LAYOUTPEND b) 0
    let s := l.lay.slots.foldl (fun s t =>
      if s.holds b t.1 then
        ((s.f (CRS_NSTS_ADMITTED b t.1) 1).f (CRS_NSLOTST b t.1) t.2.1).f (CRS_NSLOTLEN b t.1) t.2.2
      else s) s
    match (s.bus b).adm with
    | some m =>
      if m.busy ∧ m.lno = some l.lno then
        if m.step = 3 then s.admStep b 4 else if m.step = 5 then s.admDone b else s
      else s
    | none => s

/-! Answers of nodes (R118-R121). -/

/-- The STATUS codes a node may answer (R118). -/
def nodeStatus (n : Nat) : Bool :=
  n == OK || n == ILLEGAL_OPCODE || n == RESERVED_NONZERO || n == OUT_OF_RANGE || n == BUSY || n == NOT_IN_STATE

/-- The reply data a command calls for. -/
def replyLen (c : NcmdS) : Nat := if c.opc = 0x07 ∨ c.opc = 0x09 then leAt c.param 2 2 else if c.opc = 0x0B then 4 else 0

/-- A tenant's command ends with a node's answer (R421). -/
def State.tenantReply (s : State) (c : NcmdS) (status : Nat) (data : List Nat) : State :=
  match c.job with
  | some j => s.finishId j { status := status, retried := c.resent, value := if c.opc = 0x0B then leAt data 0 4 else 0,
                             result := if c.opc = 0x09 then data else [] }
  | none => s

/-- A reply in a slot frame comes after its deadline (R121): after the node's slot in the cycle after the command. -/
def State.replyLate (s : State) (b : Nat) (c : NcmdS) (retry : Bool) : Bool :=
  match (s.bus b).cur with
  | some cyc => !c.imm && cyc.no != c.cyc && (cyc.no != (c.cyc + 1) % 2 ^ 32 || retry)
  | none => false

/-- A reply of a node (R118, R119, R121): matched with the command it answers by SEQ and OPC. `r` is the interval of R82 in
ticks for an immediate reply; `retry` that it came in a spare sub-slot. -/
def State.nodeReply (s : State) (b a : Nat) (data : List Nat) (r : Int) (retry : Bool) : State :=
  let n := s.node b a
  match n.wait with
  | none => s.inc (CRS_BFMTERR b)
  | some c =>
    if s.replyLate b c retry = true ∨ leAt data 0 1 ≠ c.seq ∨ leAt data 1 1 ≠ c.opc ∨ leAt data 3 1 ≠ 0 ∨ data.length < 4 then s.inc (CRS_BFMTERR b)
    else
      let st := leAt data 2 1
      let rest := data.drop 4
      if st = OK ∧ rest.length ≠ replyLen c then s.inc (CRS_BFMTERR b)
      else
        let s := if nodeStatus st then s else s.inc (CRS_BFMTERR b)
        let st := if nodeStatus st then st else LASTING_FAULT
        let s := s.setNode b a { n with wait := none }
        match c.who with
        | 0 => s.admReply b c st rest r
        | 1 => s.layReply b a (leAt c.param 0 1) st
        | _ => s.tenantReply c st rest

/-- A command has failed on its second sending (R121). -/
def State.cmdLasts (s : State) (b a : Nat) (c : NcmdS) : State :=
  let s := s.setNode b a { s.node b a with wait := none }
  match c.who with
  | 0 => s.refuseAdm b rrSILENT
  | 1 => s.layFail b a
  | _ => match c.job with
    | some j => s.finishId j { status := TIMEOUT }
    | none => s

/-! Joining (R110, R112). -/

/-- The node of this hub that holds an identity: bus and address. -/
def State.holderOf (s : State) (id : Nat) : Option (Nat × Nat) :=
  (s.crs.nodes.cells.find? fun c => c.2.id == id).map fun c => (c.1 / 32, c.1 % 32)

/-- A valid JOIN (R112): its checks in order, after a node with the same identity on the bus has been de-admitted. The answer, ASSIGN
or REFUSE, waits before all other commands, so that it goes out in the next downlink window. -/
def State.joinCheck (s : State) (b id nonce caps : Nat) : State :=
  let s := match s.holderOf id with
    | some (b', a) => if b' = b then (s.inc (CRS_BDEADMIT b)).deadmit b a else s
    | none => s
  if caps % 256 ≠ 1 ∨ nbits caps 31 28 ≠ 0 ∨ nbits caps 15 10 ≠ 0 ∨ nbits caps 27 16 < 36 then s.refuse b rrSPEC id nonce 0
  else if (s.holderOf id).isSome then s.refuse b rrDUPLICATE id nonce 0
  else match s.freeAddr b with
    | none => s.refuse b rrFULL id nonce 0
    | some a => (s.admBegin b a id nonce caps).admGo b

/-- The admission whose JOIN was heard in this cycle is withdrawn: its join slot was not heard alone. -/
def State.joinUndo (s : State) (b : Nat) : State :=
  match (s.bus b).adm with
  | some m => if m.step = 1 ∧ (s.bus b).cmds.any (fun c => c.opc == ncASSIGN && !c.resent) = true then s.removeNode b m.addr else s
  | none => s

end Sys2Proof.Machine
end

