-- ==== Sys2Proof/Machine/Line.lean ====
section
/-! DEFINITION. The line code of a course bus (spec/03_course_bus_line_and_cycle.md R64-R66): 8b/10b code groups with running
disparity, of which bit 0 is sent first, and the frame of groups around the bytes of R65. The tables are those of 8b/10b, which the
spec names without giving them (notes/assumptions/208.md). -/
namespace Sys2Proof.Machine

/-- The six-bit sub-block of D.x at negative running disparity, written in the order in which its bits are sent. -/
def sixBits : List Nat :=
  [0b100111, 0b011101, 0b101101, 0b110001, 0b110101, 0b101001, 0b011001, 0b111000, 0b111001, 0b100101, 0b010101, 0b110100,
   0b001101, 0b101100, 0b011100, 0b010111, 0b011011, 0b100011, 0b010011, 0b110010, 0b001011, 0b101010, 0b011010, 0b111010,
   0b110011, 0b100110, 0b010110, 0b110110, 0b001110, 0b101110, 0b011110, 0b101011]

/-- The four-bit sub-block of D.x.y at negative running disparity, in the order of sending. -/
def fourBits : List Nat := [0b1011, 0b1001, 0b0101, 0b1100, 0b1101, 0b1010, 0b0110, 0b1110]

/-- The ones among the low n bits. -/
def ones (n v : Nat) : Nat := ((List.range n).filter fun k => nbit v k).length

/-- The low n bits in the opposite order. -/
def mirror : Nat → Nat → Nat
  | 0, _ => 0
  | n + 1, v => v % 2 * 2 ^ n + mirror n (v / 2)

/-- A sub-block of n bits at running disparity `rd` (true: positive) from its form at negative disparity: an unbalanced one, or one
of the balanced ones that alternate, is complemented at positive disparity. -/
def subBlock (n v : Nat) (alt rd : Bool) : Nat := if rd && (alt || 2 * ones n v != n) then 2 ^ n - 1 - v else v

/-- Running disparity after a sub-block. -/
def rdAfter (n v : Nat) (rd : Bool) : Bool := if 2 * ones n v = n then rd else decide (n < 2 * ones n v)

/-- The code group of a byte, a data or a control character, at a running disparity, and the disparity after it. -/
def codeGroup (k : Bool) (b : Nat) (rd : Bool) : Nat × Bool :=
  let x := b % 32
  let y := b / 32
  let six := if k && x == 28 then subBlock 6 0b001111 true rd else subBlock 6 (sixBits.getD x 0) (x == 7) rd
  let mid := rdAfter 6 six rd
  let four :=
    if k then
      (if y = 7 then subBlock 4 0b0111 true mid
       else if y = 1 ∨ y = 2 ∨ y = 5 ∨ y = 6 then subBlock 4 (15 - fourBits.getD y 0) true mid
       else subBlock 4 (fourBits.getD y 0) (y == 3) mid)
    else if y = 7 then
      let a7 := if mid then x == 11 || x == 13 || x == 14 else x == 17 || x == 18 || x == 20
      subBlock 4 (if a7 then 0b0111 else 0b1110) true mid
    else subBlock 4 (fourBits.getD y 0) (y == 3) mid
  (mirror 6 six + 64 * mirror 4 four, rdAfter 4 four mid)

/-- The control characters of R64: K28.5 /P/, K27.7 /S/, K29.7 /T/. -/
abbrev kP : Nat := 0xBC
/-- See kP. -/
abbrev kS : Nat := 0xFB
/-- See kP. -/
abbrev kT : Nat := 0xFD

/-- The code groups of characters, each with its control bit, from a running disparity. -/
def codeAll : List (Bool × Nat) → Bool → List Nat
  | [], _ => []
  | c :: l, rd =>
    let g := codeGroup c.1 c.2 rd
    g.1 :: codeAll l g.2

/-- The code groups of a frame (R65): four /P/, one /S/, the bytes, one /T/. -/
def lineGroups (bs : List Nat) : List Nat :=
  codeAll (List.replicate 4 (true, kP) ++ [(true, kS)] ++ bs.map (fun b => (false, b % 256)) ++ [(true, kT)]) false

/-- The character of a code group at a running disparity, with the disparity after it; none for a group that is no code of the
characters of R64 at that disparity. The sub-blocks are looked up one after the other. -/
def codeChar (g : Nat) (rd : Bool) : Option ((Bool × Nat) × Bool) :=
  let six := g % 64
  let xs := (List.range 32).filter fun x => (codeGroup false x rd).1 % 64 == six || (x == 28 && (codeGroup true 28 rd).1 % 64 == six)
  let cs := xs.flatMap fun x => (List.range 8).map (fun y => (false, x + 32 * y)) ++
    ([kP, kS, kT].filter fun b => b % 32 == x).map fun b => (true, b)
  (cs.find? fun c => (codeGroup c.1 c.2 rd).1 == g).map fun c => (c, (codeGroup c.1 c.2 rd).2)

/-- The bytes up to /T/ of groups received after /S/ (R66): none where a group is no code, the disparity fails, or another control
character comes first. -/
def lineBytes : List Nat → Bool → Option (List Nat)
  | [], _ => none
  | g :: l, rd =>
    match codeChar g rd with
    | none => none
    | some ((k, b), rd) => if k then (if b = kT ∧ l.isEmpty then some [] else none) else (lineBytes l rd).map fun bs => b :: bs

/-- The bytes of a received frame, from its groups after the last /P/ (R65, R66), whatever the disparity before its /S/. -/
def lineFrame (gs : List Nat) : Option (List Nat) :=
  match gs with
  | [] => none
  | g :: l =>
    [false, true].findSome? fun rd =>
      match codeChar g rd with
      | some ((true, b), rd) => if b = kS then lineBytes l rd else none
      | _ => none

end Sys2Proof.Machine
end

