-- ==== Sys2Proof/Machine/Bus.lean ====
section
/-! DEFINITION. Course-bus cycles on the wire: beacons, commands, uplink frames, drift, collisions and probation, lost frames and
grants, and the bus registers (spec/03_course_bus_line_and_cycle.md; spec/04_course_bus_nodes.md R119-R139). -/
namespace Sys2Proof.Machine

/-! Frames on the line (R65-R67). -/

/-- A frame with its CRC (R67). -/
def withCrc (b : List Nat) : List Nat := b ++ toLe 4 (crc32 b)

/-- Bit times from a frame's /S/ to the end of its /T/ (R65). -/
def frameBits (len : Nat) : Nat := 10 * (len + 2)

/-- A frame leaves on a bus, its /S/ at a bit time of the running cycle; nothing leaves without the bank's supply (R646). -/
def State.sendFrame (s : State) (b at_ : Nat) (bytes : List Nat) : State :=
  if s.vioOn (b / 8) then { s with out := .frame b at_ (lineGroups (withCrc bytes)) :: s.out } else s

/-! Probation (R86-R88). -/

/-- NSTS shows a node's probation; one that waits for a position is not in it yet (R88). -/
def State.showProb (s : State) (b a : Nat) : State :=
  match (s.node b a).prob with
  | none => s.zero [CRS_NSTS_PROBATION b a, CRS_NSTS_INPLACE b a, CRS_NSTS_PROBPOS b a, CRS_NSTS_CLEAN b a]
  | some 5 => s.zero [CRS_NSTS_PROBATION b a, CRS_NSTS_INPLACE b a, CRS_NSTS_PROBPOS b a, CRS_NSTS_CLEAN b a]
  | some j => ((s.f (CRS_NSTS_PROBATION b a) 1).f (CRS_NSTS_INPLACE b a) (b2n (j == 4))).f (CRS_NSTS_PROBPOS b a) (if j < 4 then j else 0)

/-- The lowest free probation position; 4 stands for in place, 5 for none. -/
def State.freeProb (s : State) (b : Nat) : Nat :=
  let n := s.g (CRS_BCFG_PROBCNT b)
  if n = 0 then 4
  else ((List.range n).find? fun j => !(s.heldAddrs b).any fun a => (s.node b a).prob == some j).getD 5

/-- At a cycle start a node enters probation, or takes a position that has come free; each entry and each cycle without a position
is counted. -/
def State.probStart (b : Nat) (s : State) (a : Nat) : State :=
  let n := s.node b a
  if (n.probNext && n.prob.isNone) || n.prob == some 5 then
    let j := s.freeProb b
    (((s.setNode b a { n with prob := some j, probNext := false }).f (CRS_NSTS_CLEAN b a) 0).inc (CRS_NPROBCNT b a)).showProb b a
  else s.setNode b a { n with probNext := false }

/-- PROBATION_END (R87): 64 clean cycles. -/
def State.probEnd (b : Nat) (s : State) (a : Nat) : State :=
  if (s.node b a).prob.isSome ∧ 64 ≤ s.g (CRS_NSTS_CLEAN b a) then
    (s.setNode b a { s.node b a with prob := none }).showProb b a
  else s

/-! Lost frames (R90-R92). -/

/-- The transactions that a node was to serve in the running cycle: those the cycle before announced. -/
def State.nodeTxns (s : State) (b a : Nat) : List TxnS :=
  match (s.bus b).prev with
  | some p => s.psc.txns.filter fun x => x.bus == b && x.src == exCOURSE && x.cyc == p.ref && !x.eps.isEmpty &&
      (match s.ent x.ent with | some e => e.nodeid == (s.node b a).id | none => x.eps.any fun e => (s.ep e).nodeid == (s.node b a).id)
  | none => []

/-- What a node did not deliver in its cycle is lost for good (R92). -/
def State.loseNode (s : State) (b a : Nat) : State := (s.nodeTxns b a).foldl (fun s x => s.loseTxn x LASTING_FAULT) s

/-- The bit time at which a node's frame is expected: its slot, or its probation position (R79, R87). -/
def State.nodePos (s : State) (b a : Nat) : Nat :=
  match (s.node b a).prob with
  | some j => if j < 4 then (s.bus b).lay.ps.getD j 0 else s.g (CRS_NSLOTST b a)
  | none => s.g (CRS_NSLOTST b a)

/-- The longest frame of that position, in bytes. -/
def State.nodeLen (s : State) (b a : Nat) : Nat :=
  match (s.node b a).prob with
  | some j => if j < 4 then s.g (CRS_BSLOTCFG_PROBLEN b) else s.g (CRS_NSLOTLEN b a)
  | none => s.g (CRS_NSLOTLEN b a)

/-- A bit time of the running cycle has passed. -/
def State.bitPassed (s : State) (b bit : Nat) : Bool :=
  match (s.bus b).cur with
  | some c => decide (c.at_ + 10 * bit ≤ s.elapsed)
  | none => false

/-- SLOT_END (R90): a node's slot or probation position ends. Without a valid frame it is a miss; polls that were due mark the frame for
a grant. -/
def State.slotEnd (b : Nat) (s : State) (a : Nat) : State :=
  let n := s.node b a
  if !s.on (CRS_NSTS_ADMITTED b a) || n.ended || (s.bus b).cur.isNone then s
  else
    let s := s.setNode b a { n with ended := true }
    if n.ok then s
    else
      let s := s.inc (CRS_NMISS b a)
      let s := if n.prob.isSome then s.f (CRS_NSTS_CLEAN b a) 0 else s
      if n.unk ∨ (s.nodeTxns b a).isEmpty = true then s
      else if s.g (CRS_BCFG_SPARECNT b) = 0 ∨ n.prob = some 5 then (s.inc (CRS_BSPAREFULL b)).loseNode b a
      else
        let dev := match (s.bus b).devs.find? fun d => d.1 == a with
          | some d => d.2
          | none => 0
        s.setBus b { s.bus b with lost := (s.bus b).lost ++ [(s.nodePos b a, a, dev)] }

/-- The end of a granted sub-slot (R91): an absent retry is counted, and its polls are lost. -/
def State.subEnd (b : Nat) (s : State) (a : Nat) : State :=
  let n := s.node b a
  match n.sub with
  | none => s
  | some _ => ((s.setNode b a { n with sub := none }).inc (CRS_BRETRYFAIL b)).loseNode b a

/-- Puts a lost frame in its place by position. -/
def lostInsert (x : Nat × Nat × Int) : List (Nat × Nat × Int) → List (Nat × Nat × Int)
  | [] => [x]
  | y :: t => if x.1 ≤ y.1 then x :: y :: t else y :: lostInsert x t

/-- GRANT (R90): the cycle's lost frames get sub-slots in ascending order of position; the rest are counted and lost. -/
def State.grant (s : State) (b : Nat) : State :=
  let s := (s.slotAddrs b).foldl (State.slotEnd b) s
  let x := s.bus b
  let l := x.lost.foldl (fun l y => lostInsert y l) []
  let n := s.g (CRS_BCFG_SPARECNT b)
  let yes := l.take n
  let s := s.setBus b { x with granted := true, lost := [] }
  let s := (List.range yes.length).foldl (fun s m =>
    let a := (yes.getD m (0, 0, 0)).2.1
    s.setNode b a { s.node b a with sub := some m }) s
  let s := (l.drop n).foldl (fun s y => (s.inc (CRS_BSPAREFULL b)).loseNode b y.2.1) s
  if yes.isEmpty then s
  else s.sendFrame b x.lay.sg ([2, yes.length, 0, 0] ++
    ((List.range yes.length).map fun m =>
      let y := yes.getD m (0, 0, 0)
      [y.2.1, m] ++ toLe 2 (unsigned 16 (clampInt (-32768) 32767 y.2.2))).flatten)

/-! The beacon (R69, R78). -/

/-- The watch engine may run a bus (R95, R598). -/
def State.watchBus (s : State) (b : Nat) : Bool :=
  s.on (CRS_BCFG_WATCHEN b) && nbit (s.g PWR_WATCHBANK) (b / 8) && 1000000 % s.g (CRS_BCYCLEN_LEN b) == 0 && s.sys.pstate != .hibernate &&
    !(match s.sys.entry with | some e => e.target == .hibernate | none => false)

/-- A bus sends beacons now: enabled, its segment on, and run by the core or by the watch engine. -/
def State.busRuns (s : State) (b : Nat) : Bool :=
  s.on (CRS_BCFG_EN b) && !s.on (CRS_BSTS_SEGOFF b) && (if s.watchRuns then s.watchLive && s.watchBus b else s.coreRuns)

/-- The flags of a beacon's PROB and CORR entries, in bytes. -/
def probBytes (l : List (Nat × Nat)) : List Nat := (l.map fun x => [x.1, if x.2 = 4 then 0xFF else x.2, 0, 0]).flatten

/-- See probBytes. -/
def corrBytes (l : List (Nat × Int)) : List Nat :=
  (l.map fun x => [x.1, 0] ++ toLe 2 (unsigned 16 (clampInt (-32768) 32767 x.2))).flatten

/-- The nodes with a PROB entry: address and position. -/
def State.probList (s : State) (b : Nat) : List (Nat × Nat) :=
  ((s.heldAddrs b).map fun a => match (s.node b a).prob with
    | some j => if j < 5 then [(a, j)] else []
    | none => []).flatten

/-- The COMMAND frame of a command (R71). -/
def NcmdS.bytes (c : NcmdS) : List Nat :=
  [3, if c.bcast then 32 else if c.byid then 64 else c.addr, c.opc, c.seq] ++ toLe 2 c.param.length ++ [0, 0] ++
    toLe 8 (if c.byid then c.nodeid else 0) ++ c.param

/-- The node's delay has been measured (R113 step 2). -/
def State.ranged (s : State) (b a : Nat) : Bool := match (s.bus b).adm with
  | some m => m.addr != a || decide (3 ≤ m.step)
  | none => true

/-- The bit time by which the reply to an immediate command has arrived, for a command that ends at `t` (R120). -/
def State.replyEnd (s : State) (b : Nat) (c : NcmdS) (t : Nat) : Nat :=
  t + 100 + (if s.ranged b c.addr then 2 * bitsUp (s.g (CRS_NDELAY b c.addr)) else 40) + frameBits 20

/-- A command that waits may go out at bit time `t` of its /S/: the window holds it, and its immediate reply (R72, R120). -/
def State.cmdFits (s : State) (b : Nat) (c : NcmdS) (t : Nat) : Bool :=
  let w := (s.bus b).lay.w
  let e := t + frameBits (20 + c.param.length)
  if c.imm then decide (s.replyEnd b c e + 16 ≤ w) else decide (e ≤ w)

/-- Sends one command at bit time `t`; answers the bit time from which the line is free. -/
def State.sendCmd (s : State) (b no at_ : Nat) (c : NcmdS) (t : Nat) : State × Nat :=
  let s := s.sendFrame b t c.bytes
  let e := t + frameBits (20 + c.param.length)
  let s :=
    if c.who = 3 then s
    else s.setNode b c.addr { s.node b c.addr with wait := some { c with cyc := no, at_ := at_ + 10 * e } }
  let s := if c.opc = ncASSIGN then s.setBus b { s.bus b with fresh := false } else s
  (s, (if c.imm then s.replyEnd b c e else e) + 56)

/-- Sends the commands of a list that fit and whose node awaits no reply; answers those kept. -/
def State.sendCmds (b no at_ : Nat) : List NcmdS → State → Nat → List NcmdS → State × List NcmdS
  | [], s, _, keep => (s, keep)
  | c :: t, s, pos, keep =>
    if (c.who != 3 && (s.node b c.addr).wait.isSome) || !s.cmdFits b c pos then State.sendCmds b no at_ t s pos (keep ++ [c])
    else
      let (s, pos) := s.sendCmd b no at_ c pos
      State.sendCmds b no at_ t s pos keep

/-- What a beacon announces of a layout change (R124 step 4): the change once its EFFECTIVE is picked. -/
def State.pickEffective (s : State) (b no : Nat) : State :=
  match (s.bus b).lchg with
  | some l =>
    if l.eff.isNone ∧ l.wait.isEmpty then
      (s.setBus b { s.bus b with
        lchg := some { l with eff := some ((no + s.g (CRS_BADMCFG_COMMITCNT b)) % 2 ^ 32) } }).f (CRS_BSTS_LAYOUTPEND b) 1
    else s
  | none => s

/-- The JOIN_INFO command (R110). Its SEQ is a free value: the spec numbers commands to a node alone. -/
def State.joinInfo (s : State) (b : Nat) : NcmdS :=
  { opc := ncJOININFO, bcast := true, seq := s.fresh % 256, param := toLe 4 (s.bus b).lay.sj ++ [s.g (CRS_BADMCFG_BACKOFF b), 0, 0, 0] }

/-- The COMMIT command of a layout change. -/
def State.commitCmd (s : State) (l : LchgS) : NcmdS :=
  { opc := ncCOMMIT, bcast := true, seq := s.fresh % 256, param := [l.lno, 0, 0, 0] ++ toLe 4 (l.eff.getD 0) }

/-- DROP for a stray address (R98). -/
def State.dropCmd (s : State) (a : Nat) : NcmdS := { opc := ncDROP, addr := a, seq := s.fresh % 256, param := [0, 0, 0, 0] }

/-- A cycle's books are closed at the start of the next: slots and sub-slots end, and a bus without a valid frame is noted (R102). -/
def State.closeCycle (s : State) (b : Nat) : State :=
  if (s.bus b).cur.isNone ∨ (s.bus b).closed = true then s
  else
    let as := s.slotAddrs b
    let s := as.foldl (State.slotEnd b) s
    let s := if (s.bus b).lost.isEmpty then s else
      (s.bus b).lost.foldl (fun s y => (s.inc (CRS_BSPAREFULL b)).loseNode b y.2.1) s
    let s := as.foldl (State.subEnd b) s
    let any := as.any fun a => (s.node b a).heard
    let s := as.foldl (fun s a => let n := s.node b a; if n.heard then s else s.setNode b a { n with missRun := n.missRun + 1 }) s
    s.setBus b { s.bus b with quiet := if as.isEmpty || any then 0 else (s.bus b).quiet + 1, closed := true }

/-- The grid instants passed over in a cycle with a step (R93): those later than the least CT of the step and before this start. -/
def State.stepSkip (s : State) (b c : Nat) : State :=
  match (s.bus b).cur with
  | none => s
  | some p =>
    match p.low with
    | none => s
    | some l =>
      let g := gridFrom (p.ref % p.len) p.len (l + 1)
      if g < c then s.incBy (CRS_BSTEPSKIP b) ((c - 1 - g) / p.len + 1) else s

/-- The rate of the cycle that starts at c: the watch rate from a watch-grid instant on, the configured rate after the handback
(R95). The watch engine keeps the layout, so a change not yet in effect is committed anew after the watch (R132). -/
def State.busRate (s : State) (b c : Nat) : State :=
  let x := s.bus b
  if s.watchRuns then
    if !x.watch ∧ c % 1000000000 = s.cycPhase b % 1000000000 then
      (s.setBus b { x with watch := true, plan := none, lchg := x.lchg.map fun l => { l with eff := none } }).f (CRS_BSTS_LAYOUTPEND b) 0
    else s
  else if x.watch then s.setBus b { x with watch := false, back := none, plan := none }
  else if x.back.isSome then s.setBus b { x with back := none }
  else s

/-- The plan of a cycle that starts at c: the one made before, else one made now. -/
def State.planNow (s : State) (b c : Nat) : State :=
  let s := if ((s.bus b).plan.map Prod.fst) = some c then s else s.dropPlan b
  let s := s.busRate b c
  if ((s.bus b).plan.map Prod.fst) = some c then s else s.commitCycle b c

/-- The number of the cycle about to start (R69). -/
def State.cycleNo (s : State) (b : Nat) : Nat := if (s.bus b).sent then (s.g (CRS_BCYCNO b) + 1) % 2 ^ 32 else 0

/-- What a cycle's start settles before its beacon: the cycle before, the plan, a layout, probations. -/
def State.beaconPrep (s : State) (b c : Nat) : State :=
  let s := (((s.closeCycle b).stepSkip b c).planNow b c)
  let no := s.cycleNo b
  let s := match (s.bus b).lchg with
    | some l => if l.eff = some no ∧ !(s.bus b).watch then s.layEffective b else s
    | none => s
  let s := (s.slotAddrs b).foldl (State.probStart b) ((s.heldAddrs b).foldl (State.probEnd b) s)
  if (s.bus b).watch || !s.hkRuns then s else s.pickEffective b no

/-- A layout change is announced and not yet in effect. -/
def State.layPend (s : State) (b : Nat) : Bool :=
  match (s.bus b).lchg with
  | some l => l.eff.isSome
  | none => false

/-- The plan of the cycle that starts, as the beacon lists it. -/
def State.beaconPlan (s : State) (b : Nat) : List (Nat × Nat) := ((s.bus b).plan.map Prod.snd).getD []

/-- The bit time of /S/ from which a command may follow the beacon. -/
def State.afterBeacon (s : State) (b : Nat) : Nat :=
  frameBits (28 + 8 * (s.beaconPlan b).length + 4 * ((s.bus b).corr.take 4).length + 4 * (s.probList b).length) + 56

/-- The beacon offers the join slot (R110); an admission ends with its REFUSE, so none while one waits. -/
def State.joinOffer (s : State) (b : Nat) : Bool :=
  s.on (CRS_BCFG_JOINEN b) && (s.bus b).adm.isNone && !((s.bus b).cmds.any fun k => k.opc == ncREFUSE) && !((s.probList b).any fun y => y.2 == 4) && !s.layPend b &&
    decide ((s.heldAddrs b).length < 32) && s.cmdFits b (s.joinInfo b) (s.afterBeacon b) && !(s.bus b).watch

/-- The flags of a beacon (R69). -/
def State.beaconFlags (s : State) (b : Nat) : Nat :=
  b2n s.holdover + 2 * b2n (s.bus b).watch + 4 * b2n (s.joinOffer b) + 8 * (s.bus b).joinres + 32 * b2n (s.layPend b) +
    64 * b2n (s.bus b).fresh

/-- The beacon's bytes (R69). -/
def State.beaconBytes (s : State) (b c : Nat) : List Nat :=
  let sa := s.beaconPlan b
  let corr := (s.bus b).corr.take 4
  let prob := s.probList b
  [1, b, s.pos, s.beaconFlags b] ++ toLe 4 (s.cycleNo b) ++ toLe 8 c ++ toLe 4 (s.cycLen b) ++
    [sa.length, corr.length, prob.length, 0] ++ (sa.map fun y => toLe 4 y.1 ++ toLe 2 y.2 ++ [0, 0]).flatten ++ corrBytes corr ++
    probBytes prob

/-- The commands that go out before those waiting: JOIN_INFO or a layout's COMMIT, then the DROPs of stray addresses. -/
def State.firstCmds (s : State) (b : Nat) : List NcmdS :=
  (if s.joinOffer b then [s.joinInfo b] else match (s.bus b).lchg with
    | some l => if s.layPend b && !(s.bus b).watch then [s.commitCmd l] else []
    | none => []) ++
  (s.bus b).drops.map s.dropCmd

/-- The bus and its nodes at the start of a cycle. -/
def State.openCycle (s : State) (b : Nat) (cyc : CycS) (offer : Bool) : State :=
  let x := s.bus b
  let s := s.setBus b { x with
    prev := x.cur, cur := some cyc, plan := none, sent := true, joinOpen := offer, joinres := 0, lost := [], devs := [],
    granted := false, closed := false, bad := [], passed := [], corr := x.corr.drop 4, drops := if x.watch then x.drops else [], cmds := [] }
  (s.heldAddrs b).foldl (fun s a =>
    s.setNode b a { s.node b a with ok := false, heard := false, ended := false, unk := false, sub := none }) s

/-- The commands of a cycle, sent after its beacon. -/
def State.beaconCmds (s : State) (b no at_ next : Nat) (l : List NcmdS) : State :=
  let r := if (s.bus b).watch then (s, l) else State.sendCmds b no at_ l s next []
  r.1.setBus b { r.1.bus b with cmds := (r.2.filter fun k => k.opc != ncJOININFO && k.opc != ncCOMMIT) ++ (r.1.bus b).cmds }

/-- The registers and the event of a beacon sent. -/
def State.beaconSent (s : State) (b c no : Nat) : State :=
  let s := (s.f (CRS_BCYCNO b) no).inc (CRS_BBEACONS b)
  let s := ((s.f (CRS_BSTS_RUNNING b) 1).f (CRS_BSTS_HOLD b) (b2n s.holdover)).f (CRS_BSTS_WATCHRATE b) (b2n (s.bus b).watch)
  s.event (295 + b) c

/-- BEACON_TRANSMIT (R69, R78): the cycle that starts at c. -/
def State.beacon (s0 : State) (b c : Nat) : State :=
  let s1 := s0.beaconPrep b c
  let no := s1.cycleNo b
  let at_ := s1.elapsed - (s1.ct - c)
  let first := s1.firstCmds b
  let cyc : CycS := { no := no, ref := c, len := s1.cycLen b, sa := s1.beaconPlan b, at_ := at_, steps := s1.time.stepSum }
  let s2 := if (s1.bus b).joinres = 2 then s1.inc (CRS_BJOINCOLL b) else s1
  let s3 := s2.sendFrame b 0 (s1.beaconBytes b c)
  let s4 := s3.openCycle b cyc (s1.joinOffer b)
  let s5 := if first.isEmpty then s4 else s4.drew
  (s5.beaconCmds b no at_ (s1.afterBeacon b) (first ++ (s1.bus b).cmds)).beaconSent b c no

/-- BEACON_TRANSMIT: a bus whose next cycle start has come. -/
def execBeaconTransmit (b : Nat) (s : State) : Res :=
  .next <|
    match s.nextStart b with
    | some c => if s.busRuns b && decide (c ≤ s.ct) then s.beacon b c else s
    | none => s

/-! Uplink frames (R74-R77, R84-R88). -/

/-- Two spans of ticks overlap. -/
def spansMeet (a c : Int × Int) : Bool := decide (a.1 < c.2) && decide (c.1 < a.2)

/-- The span of a frame from its first /P/ to its last /T/, in ticks. -/
def spanOf (arr : Int) (len : Nat) : Int × Int := (arr - 960, arr + 24 * (frameBits len : Nat))

/-- A time-stamp of the cycle before, with the steps since (R84, R93). -/
def State.stamp (s : State) (p : CycS) (ofs : Nat) : Nat := ((p.ref + ofs : Nat) + (s.time.stepSum - p.steps)).toNat

/-- A GRIST stream takes its block from a whole section (R290, R423). -/
def State.gristBlock (s : State) (st : StreamS) (first es ct flags : Nat) (data : List Nat) : State :=
  let d := (data.drop ((st.first - first) * es)).take (st.count * es)
  s.offer st.slot { ct := ct, ep := st.first, n := st.count
                    rec_ := some { kind := 7, flags := flags, geid := s.geid st.first, ct := ct, esize := es, nelem := st.count, data := d } }

/-- The elements of a section go on: to the decoder and to GRIST streams (R84, R290). Answers the values passed. -/
def State.passSection (s : State) (first : Nat) (d : List Nat) (ct flags : Nat) (data : List Nat) : State × List (Nat × Nat) :=
  let es := rdEsize d
  let eps := (List.range (rdNelem d)).map fun k => (first + k, (data.drop (k * es)).take es)
  let s := (s.rng.streams.filter fun st => st.grist && decide (first ≤ st.first) && decide (st.first + st.count ≤ first + rdNelem d)).foldl
    (fun s st => s.gristBlock st first es ct flags data) s
  (eps.foldl (fun s x =>
    if s.decodes x.1 then s.enqueueRaw { ep := x.1, src := srcCOURSE, loc := 0, bytes := x.2, ct := ct, flags := flags } else s) s,
    eps.map fun x => (x.1, ct))

/-- One section of an accepted frame (R74, R76, R84, R119, R238). `lat` is the CT of arrival less d. -/
def State.section (s : State) (b a rep when_ : Nat) (data : List Nat) (drift retry : Bool) (lat : Nat) : State × List (Nat × Nat) :=
  let n := s.node b a
  let fl := fun (t : Nat) => flagIf (flagIf (s.flagsAt t) fDRIFT drift) fRETRIED retry
  if rep = 0xFF then (s.nodeReply b a data 0 retry, [])
  else match repFind n.base n.reports rep with
    | none => (s.inc (CRS_BFMTERR b), [])
    | some (first, d) =>
      if data.length ≠ rdSlen d ∨ (rdKind d = rkUNTIMED) ≠ (when_ = 8) then (s.inc (CRS_BFMTERR b), [])
      else if when_ = 8 then s.passSection first d lat (fl lat) data
      else match (s.bus b).prev with
        | none => (s, [])
        | some p =>
          let ofs := (p.sa.getD when_ (0, 0)).1
          let t := p.ref + ofs
          if !(List.range (rdNelem d)).any fun k => s.polled (first + k) t then (s.incBy PSC_OVERSAMPLE (rdNelem d), [])
          else
            let fl := flagIf (fl (s.stamp p ofs)) fBURST (s.burstPoll first t)
            let (s, v) := s.passSection first d (s.stamp p ofs) fl data
            ((List.range (rdNelem d)).foldl (fun s k => s.pollGot (first + k) t retry) s, v)

/-- The sections of a frame's bytes: REPORT, WHEN and data. `n` bounds their number; none where they do not fill it. -/
def sectionsOf : Nat → List Nat → Option (List (Nat × Nat × List Nat))
  | _, [] => some []
  | 0, _ :: _ => none
  | n + 1, b =>
    let l := leAt b 2 2
    if b.length < 4 + l then none
    else match sectionsOf n (b.drop (4 + l)) with
      | some t => some ((leAt b 0 1, leAt b 1 1, (b.drop 4).take l) :: t)
      | none => none

/-- WHEN of a section is well formed, for an announcing beacon of `nsa` entries. -/
def whenOk (nsa rep w : Nat) : Bool := w == 8 || (rep != 0xFF && decide (w < 8) && decide (w < nsa))

/-- A DATA frame of an admitted node is invalid under R76 but for its CRC and line code. -/
def State.dataBad (s : State) (b a : Nat) (bs : List Nat) (sub : Bool) : Bool :=
  let len := leAt bs 6 2
  let retry := nbit (leAt bs 1 1) 7
  let nsa := match (s.bus b).prev with
    | some p => p.sa.length
    | none => 0
  let cyc := match (s.bus b).prev with
    | some p => p.no % 256
    | none => 256
  let lim := if retry then s.g (CRS_BSLOTCFG_SPARELEN b) else s.nodeLen b a
  retry != sub || nbits (leAt bs 1 1) 6 5 != 0 || leAt bs 3 1 != 0 || decide (32 ≤ leAt bs 4 2) || leAt bs 2 1 != cyc ||
    bs.length != 12 + len || decide (lim < bs.length) ||
    match sectionsOf len ((bs.drop 8).take len) with
    | none => true
    | some l => l.any fun x => !whenOk nsa x.1 x.2.1

/-- Bit times of the sub-slots of a bus, each with its end. -/
def State.subSpans (s : State) (b : Nat) : List (Nat × Nat) :=
  (s.bus b).lay.us.map fun u => (u, u + 10 * (s.g (CRS_BSLOTCFG_SPARELEN b) + 2))

/-- Bit times of the slots and probation positions, each with its end. -/
def State.slotSpans (s : State) (b : Nat) : List (Nat × Nat) :=
  ((s.bus b).lay.slots.map fun t => (t.2.1, t.2.1 + 10 * (t.2.2 + 2))) ++
    (s.bus b).lay.ps.map fun p => (p, p + 10 * (s.g (CRS_BSLOTCFG_PROBLEN b) + 2))

/-- An /S/ falls in one of the spans, from a guard of g bit times before it on. -/
def inSpans (g : Nat) (arr : Int) (l : List (Nat × Nat)) : Bool :=
  l.any fun x => decide (24 * ((x.1 : Int) - (g : Nat)) ≤ arr) && decide (arr < 24 * (x.2 : Nat))

/-- A correction is due to a node; one still queued is replaced (R85). -/
def corrPut (l : List (Nat × Int)) (a : Nat) (v : Int) : List (Nat × Int) :=
  if l.any fun x => x.1 == a then l.map fun x => if x.1 = a then (a, v) else x else l ++ [(a, v)]

/-- An accepted frame is withdrawn, overlapped by a discarded one (R86): its values still with the decoder go, and its polls are owed
again. -/
def State.withdraw (b : Nat) (s : State) (p : PassS) : State :=
  if p.addr = 32 then (s.setBus b { s.bus b with joinres := 2 }).joinUndo b
  else
    let s := (s.inc (CRS_NSLOTERR b p.addr)).f (CRS_BFRAMES b) (s.g (CRS_BFRAMES b) - 1)
    let s := if p.retry then s.f (CRS_BRETRYOK b) (s.g (CRS_BRETRYOK b) - 1) else s.f (CRS_NSTS_CLEAN b p.addr) p.clean
    let s := match p.drift with
      | some old => (s.f (CRS_NDRIFTCNT b p.addr) (s.g (CRS_NDRIFTCNT b p.addr) - 1)).setBus b { s.bus b with
          corr := match old with
            | some v => corrPut (s.bus b).corr p.addr v
            | none => (s.bus b).corr.filter fun x => x.1 != p.addr }
      | none => s
    let back := p.txns.filter fun x => !s.rng.tags.contains x.tag
    let s : State := { s with
      ept := { s.ept with queue := s.ept.queue.filter fun r => !(p.vals.contains (r.ep, r.ct)) }
      psc := { s.psc with txns := (s.psc.txns.filter fun x => !p.txns.any fun y => y.tag == x.tag) ++ p.txns }
      rng := { s.rng with tags := s.rng.tags ++ back.map TxnS.tag } }
    let s := back.foldl (fun s x => s.modEnt x.ent fun e =>
      if p.retry then { e with retried := e.retried - 1 } else { e with done := e.done - 1 }) s
    let s := s.f PSC_TAGS s.rng.tags.length
    s.setNode b p.addr { s.node b p.addr with ok := p.was.ok, ended := p.was.ended, sub := p.was.sub }

/-- A frame discarded as outside its guard, or as a stray: what it overlaps is discarded too (R86, R98). -/
def State.collide (s : State) (b : Nat) (span : Int × Int) : State :=
  let hit := (s.bus b).passed.filter fun p => spansMeet span (p.first, p.last)
  let s := hit.foldl (State.withdraw b) s
  s.setBus b { s.bus b with
    bad := (s.bus b).bad ++ [span], passed := (s.bus b).passed.filter fun p => !spansMeet span (p.first, p.last) }

/-- The node event of a status bit that has changed from 0 to 1 (R126). -/
def State.nstatEvent (s : State) (b a old new bit code : Nat) : State :=
  if nbit new bit && !nbit old bit then s.nodeRecord code b a 0 (s.node b a).id new else s

/-- CT of the instant `ticks` CKROOT periods after the start of the cycle, half a CKFAB period each (R67, R84). -/
def State.arrivalCt (s : State) (b : Nat) (ticks : Int) : Nat :=
  match (s.bus b).cur with
  | some p => ((s.stamp p 0 : Int) + (ticks * s.incr).ediv (2 ^ 33)).toNat
  | none => s.ct

/-- A DATA frame is accepted (R85, R87, R91, R92). -/
def State.acceptData (s : State) (b a : Nat) (bs : List Nat) (arr dev : Int) (retry : Bool) : State :=
  let drift := decide (96 < dev ∨ dev < -96)
  let n := s.node b a
  let old := s.g (CRS_NNSTAT b a)
  let st := leAt bs 4 2
  let was := s.nodeTxns b a
  let clean := s.g (CRS_NSTS_CLEAN b a)
  let corr := ((s.bus b).corr.find? fun x => x.1 == a).map Prod.snd
  let s := s.setNode b a { n with ok := n.ok || !retry, sub := if retry then none else n.sub, ended := n.ended || !retry }
  let s := (s.inc (CRS_BFRAMES b)).f (CRS_NNSTAT b a) st
  let s := (s.nstatEvent b a old st 2 4).nstatEvent b a old st 1 5
  let s := if drift then (s.inc (CRS_NDRIFTCNT b a)).setBus b { s.bus b with corr := corrPut (s.bus b).corr a dev } else s
  let s :=
    if n.prob.isSome ∧ !retry then s.f (CRS_NSTS_CLEAN b a) (if drift then 0 else min 64 (s.g (CRS_NSTS_CLEAN b a) + 1)) else s
  let s := if retry then s.inc (CRS_BRETRYOK b) else s
  let lat := s.arrivalCt b (arr - s.g (CRS_NDELAY b a))
  let secs := (sectionsOf (leAt bs 6 2) ((bs.drop 8).take (leAt bs 6 2))).getD []
  let (s, vals) := secs.foldl (fun r x =>
    let (s, v) := r.1.section b a x.1 x.2.1 x.2.2 drift retry lat
    (s, r.2 ++ v)) (s, [])
  let span := spanOf arr bs.length
  let s := s.setBus b { s.bus b with
    passed := (s.bus b).passed ++ [{ first := span.1, last := span.2, addr := a, vals := vals, txns := was, retry := retry,
                                     was := n, clean := clean, drift := if drift then some corr else none }] }
  if nbit st 3 ∨ retry = true then s.loseNode b a else s

/-- A stray DATA frame (R98): counted, and its address is sent DROP in the next cycle. -/
def State.strayFrame (s : State) (b a : Nat) : State :=
  (s.inc (CRS_BFMTERR b)).setBus b { s.bus b with drops := if (s.bus b).drops.contains a then (s.bus b).drops else (s.bus b).drops ++ [a] }

/-- A frame is discarded as outside the guard of its node (R86, R88). -/
def State.outside (s : State) (b a : Nat) (span : Int × Int) (bay : Bool) : State :=
  let s := (s.inc (CRS_NSLOTERR b a)).collide b span
  let s := if bay then s else s.strayFrame b a
  let n := s.node b a
  let s := s.setNode b a { n with probNext := n.prob.isNone }
  if n.prob.isSome then s.f (CRS_NSTS_CLEAN b a) 0 else s

/-- A DATA frame that is valid on the line (R76, R85-R88, R98). DESIGN CHOICE: a node taken off the bus keeps its slot until EFFECTIVE
(R124), so its frames until then are no stray's; they carry nothing. -/
def State.dataFrame (s : State) (b : Nat) (arr : Int) (bs : List Nat) : State :=
  let a := leAt bs 1 1 % 32
  let g := s.g (CRS_BCFG_GUARD b)
  let span := spanOf arr bs.length
  let sub := inSpans g arr (s.subSpans b)
  let bay := sub || inSpans (2 * g) arr (s.slotSpans b)
  let n := s.node b a
  if !s.holds b a then (s.strayFrame b a).collide b span
  else if !s.on (CRS_NSTS_ADMITTED b a) then if bay then s.inc (CRS_BFMTERR b) else (s.strayFrame b a).collide b span
  else
    let retry := nbit (leAt bs 1 1) 7
    let pos := if retry then (match n.sub with
        | some m => (s.bus b).lay.us.getD m 0
        | none => s.nodePos b a) else s.nodePos b a
    let dev := arr - 24 * (pos : Nat)
    let s := s.f (CRS_NSTS_LASTDEV b a) (unsigned 12 (clampInt (-2047) 2047 dev))
    let s := s.setBus b { s.bus b with devs := ((s.bus b).devs.filter fun d => d.1 != a) ++ [(a, dev)] }
    if bay && s.dataBad b a bs sub then s.inc (CRS_BFMTERR b)
    else
    let n := { n with heard := true, missRun := 0 }
    let s := (s.setNode b a n).f (CRS_NSTS_SILENT b a) 0
    let lim : Int := ((if n.prob.isSome && !retry then 48 else 24) * g : Nat)
    if lim < dev ∨ dev < -lim ∨ (n.prob = some 5 ∧ retry = false) then s.outside b a span bay
    else if (s.bus b).bad.any fun x => spansMeet x span then
      s.inc (CRS_NSLOTERR b a)
    else s.acceptData b a bs arr dev retry

/-- An /S/ falls in the join slot. -/
def State.inJoin (s : State) (b : Nat) (arr : Int) : Bool :=
  inSpans (s.g (CRS_BCFG_GUARD b)) arr [((s.bus b).lay.sj, (s.bus b).lay.ej)]

/-- The join slot of the cycle held something else than one valid JOIN. -/
def State.joinBad (s : State) (b : Nat) : State := (s.joinUndo b).setBus b { (s.joinUndo b).bus b with joinres := 2 }

/-- A JOIN frame valid on the line (R77, R112). -/
def State.joinFrame (s : State) (b : Nat) (arr : Int) (bs : List Nat) : State :=
  let span := spanOf arr bs.length
  if !s.inJoin b arr then s.inc (CRS_BFMTERR b)
  else if bs.length ≠ 20 ∨ leAt bs 1 1 ≠ 0 ∨ leAt bs 4 8 = 0 then (s.inc (CRS_BFMTERR b)).joinBad b
  else if (s.bus b).joinres ≠ 0 ∨ ((s.bus b).bad.any fun x => spansMeet x span) then s.joinBad b
  else if !(s.bus b).joinOpen then s.inc (CRS_BFMTERR b)
  else
    let s := s.setBus b { s.bus b with
      joinres := 1, passed := (s.bus b).passed ++ [{ first := span.1, last := span.2, addr := 32 }] }
    s.joinCheck b (leAt bs 4 8) (leAt bs 2 2) (leAt bs 12 4)

/-- A frame of unknown type (R68): dropped and counted; outside the guard of the slot it falls in, it is a collision. -/
def State.unknownFrame (s : State) (b : Nat) (arr : Int) (bs : List Nat) : State :=
  let s := s.inc (CRS_BUNKTYPE b)
  let near := (s.slotAddrs b).find? fun a =>
    let near (p w : Nat) : Bool :=
      let g : Int := (w * s.g (CRS_BCFG_GUARD b) : Nat)
      decide (24 * (p : Int) - g ≤ arr) && decide (arr ≤ 24 * (p : Int) + g)
    near (s.nodePos b a) (if (s.node b a).prob.isSome then 48 else 24) || match (s.node b a).sub with
      | some m => near ((s.bus b).lay.us.getD m 0) 24
      | none => false
  match near with
  | some a => s.setNode b a { s.node b a with unk := true }
  | none => if s.inJoin b arr then s else s.collide b (spanOf arr bs.length)

/-- An uplink frame whose /S/ arrives `arr` ticks after the start of the running cycle; `line` says that it broke the line code
(R64, R66, R68). Without the bank's supply nothing is received (R646). -/
def State.uplink (s : State) (b : Nat) (arr : Int) (bs : List Nat) (line : Bool) : State :=
  if !s.vioOn (b / 8) ∨ (s.bus b).cur.isNone ∨ s.on (CRS_BSTS_SEGOFF b) = true ∨ 5 ≤ s.stage ∨ s.sys.pstate = .hibernate ∨ s.sys.pstate = .off then s
  else
    let crcBad := leAt bs (bs.length - 4) 4 != crc32 (bs.take (bs.length - 4))
    let join := s.inJoin b arr
    if line ∨ bs.length < 8 ∨ crcBad = true then
      let s := s.inc (if line then CRS_BCODEERR b else if bs.length < 8 then CRS_BFMTERR b else CRS_BCRCERR b)
      if join then s.joinBad b else s
    else
      match leAt bs 0 1 with
      | 0x81 =>
        let s := s.dataFrame b arr bs
        if join then s.joinBad b else s
      | 0x82 => s.joinFrame b arr bs
      | _ =>
        let s := s.unknownFrame b arr bs
        if join then s.joinBad b else s

/-- An uplink frame in the code groups received after its last /P/ (R64, R65). -/
def State.uplinkLine (s : State) (b : Nat) (arr : Int) (gs : List Nat) : State :=
  match lineFrame gs with
  | some bs => s.uplink b arr bs false
  | none => s.uplink b arr [] true

/-- DATA_FRAME_RECEIVED (R76). -/
def execDataFrameReceived (b : Nat) (arr : Int) (gs : List Nat) (s : State) : Res := .next (s.uplinkLine b arr gs)

/-- UNKNOWN_FRAME (R68). -/
def execUnknownFrame (b : Nat) (arr : Int) (gs : List Nat) (s : State) : Res := .next (s.uplinkLine b arr gs)

/-- JOIN_FRAME_RECEIVED (R112). -/
def execJoinFrameReceived (b : Nat) (arr : Int) (gs : List Nat) (s : State) : Res := .next (s.uplinkLine b arr gs)

/-- The node whose immediate reply is awaited in the running cycle. -/
def State.immWait (s : State) (b : Nat) : Option (Nat × NcmdS) :=
  let no := match (s.bus b).cur with
    | some c => c.no
    | none => 0
  ((List.range 32).filterMap fun a => match (s.node b a).wait with
    | some c => if c.imm && c.cyc == no then some (a, c) else none
    | none => none).head?

/-- An immediate reply whose /S/ arrives `r` ticks after the end of the command's /T/ (R76, R82, R120, R121). -/
def State.immReply (s : State) (b : Nat) (r : Int) (bs : List Nat) (line : Bool) : State :=
  match (s.bus b).cur with
  | none => s
  | some cyc =>
    let crcBad := leAt bs (bs.length - 4) 4 != crc32 (bs.take (bs.length - 4))
    if line then (s.inc (CRS_BCODEERR b)).inc (CRS_BFMTERR b)
    else if bs.length < 8 then s.inc (CRS_BFMTERR b)
    else if crcBad then (s.inc (CRS_BCRCERR b)).inc (CRS_BFMTERR b)
    else match s.immWait b with
      | none => s.inc (CRS_BFMTERR b)
      | some (a, c) =>
        let d := s.g (CRS_NDELAY b a)
        let late := decide ((100 + 120) * 24 + (if s.ranged b a then 2 * d else 960 : Nat) < r)
        if late ∨ leAt bs 0 1 ≠ 0x81 ∨ leAt bs 1 1 ≠ c.addr ∨ leAt bs 2 1 ≠ cyc.no % 256 ∨ leAt bs 3 1 ≠ 0 ∨ 32 ≤ leAt bs 4 2 ∨
            bs.length ≠ 20 ∨ leAt bs 6 2 ≠ 8 ∨ leAt bs 8 1 ≠ 0xFF ∨ leAt bs 9 1 ≠ 8 ∨ leAt bs 10 2 ≠ 4 then s.inc (CRS_BFMTERR b)
        else
          let old := s.g (CRS_NNSTAT b a)
          let st := leAt bs 4 2
          let s := ((s.f (CRS_NNSTAT b a) st).nstatEvent b a old st 2 4).nstatEvent b a old st 1 5
          s.nodeReply b a ((bs.drop 12).take 4) r false

/-- IMMEDIATE_REPLY_RECEIVED (R120). -/
def execImmediateReplyReceived (b : Nat) (r : Int) (gs : List Nat) (s : State) : Res :=
  .next <|
    if !s.vioOn (b / 8) then s
    else match lineFrame gs with
      | some bs => s.immReply b r bs false
      | none => s.immReply b r [] true

/-! Silence and timeouts (R89, R102, R121, R132). -/

/-- Cycles in a row without a valid frame of a node, the running one counted once its spare region is over (R89, R132). -/
def State.missNow (s : State) (b a : Nat) : Nat :=
  let n := s.node b a
  n.missRun + if !n.heard && !(s.bus b).closed && s.bitPassed b (s.spareEnd b) then 1 else 0

/-- NODE_SILENT (R89). -/
def execNodeSilent (b a : Nat) (s : State) : Res :=
  .next <| if s.on (CRS_NSTS_ADMITTED b a) && decide (4 ≤ s.missNow b a) then s.f (CRS_NSTS_SILENT b a) 1 else s

/-- LINEFAULT (R102). -/
def execLinefault (b : Nat) (s : State) : Res :=
  .next <| if 4 ≤ (s.bus b).quiet ∧ !s.on (CRS_BSTS_LINEFAULT b) then (s.f (CRS_BSTS_LINEFAULT b) 1).raiseHub srcBUSFAULT else s

/-- PROBATION_END (R87). -/
def execProbationEnd (b a : Nat) (s : State) : Res := .next (s.probEnd b a)

/-- NODE_DEADMIT_SILENCE (R132): in RUN, never by the watch engine. -/
def execNodeDeadmitSilence (b a : Nat) (s : State) : Res :=
  .next <|
    if s.coreRuns && !(s.bus b).watch && s.on (CRS_NSTS_ADMITTED b a) && decide (256 ≤ s.missNow b a) then
      (s.inc (CRS_BDEADMIT b)).deadmit b a
    else s

/-- NODE_COMMAND_TIMEOUT (R121): a reply that has not come is asked for once more, then given up. -/
def execNodeCommandTimeout (b a : Nat) (s : State) : Res :=
  .next <|
    let n := s.node b a
    match n.wait, (s.bus b).cur with
    | some c, some cyc =>
      let d := s.g (CRS_NDELAY b a)
      let due :=
        if c.imm then decide (c.at_ + 10 * (100 + 120 + (if s.ranged b a then 2 * bitsUp d else 40)) ≤ s.elapsed)
        else cyc.no != c.cyc && (cyc.no != (c.cyc + 1) % 2 ^ 32 || s.bitPassed b (s.nodePos b a + frameBits (s.nodeLen b a)))
      if !due || (s.bus b).watch then s
      else if c.resent then s.cmdLasts b a c
      else
        let s := s.setNode b a { n with wait := none }
        s.setBus b { s.bus b with cmds := { c with resent := true } :: (s.bus b).cmds }
    | _, _ => s

/-- SLOT_END (R90): the end of a node's slot or probation position, or with `sub` of its spare sub-slot. -/
def execSlotEnd (b a : Nat) (sub : Bool) (s : State) : Res :=
  .next <|
    if sub then
      match (s.node b a).sub with
      | some m => if s.bitPassed b ((s.bus b).lay.us.getD m 0 + frameBits (s.g (CRS_BSLOTCFG_SPARELEN b))) then s.subEnd b a else s
      | none => s
    else if s.bitPassed b (s.nodePos b a + frameBits (s.nodeLen b a)) then s.slotEnd b a
    else s

/-- GRANT (R90): at S_G. -/
def execGrant (b : Nat) (s : State) : Res :=
  .next <|
    if s.g (CRS_BCFG_SPARECNT b) = 0 ∨ (s.bus b).granted = true ∨ !s.bitPassed b (s.bus b).lay.sg then s else s.grant b

/-! Admission and layout as they go on. -/

/-- The core runs a bus's admissions and layouts now: not in the watch (R132), nor in a housekeeping-core restart (R136). -/
def State.admRuns (s : State) (b : Nat) : Bool := s.coreRuns && s.hkRuns && (s.bus b).cur.isSome && !(s.bus b).watch

/-- ADMISSION_STEP (R113). -/
def execAdmissionStep (b : Nat) (s : State) : Res :=
  .next <|
    match (s.bus b).adm with
    | some m => if s.admRuns b && !m.busy then s.admGo b else s
    | none => s

/-- LAYOUT_CHANGE (R124): a layout change that is due begins. -/
def execLayoutChange (b : Nat) (s : State) : Res :=
  .next <| if s.admRuns b && (s.bus b).relay && (s.bus b).lchg.isNone then s.startLayout b else s

/-- LAYOUT_EFFECTIVE (R124): the cycle that comes is EFFECTIVE. -/
def execLayoutEffective (b : Nat) (s : State) : Res :=
  .next <|
    match (s.bus b).lchg, s.nextStart b with
    | some l, some c => if !(s.bus b).watch ∧ l.eff = some ((s.g (CRS_BCYCNO b) + 1) % 2 ^ 32) ∧ c ≤ s.ct then ((s.closeCycle b).layEffective b).nofitScan else s
    | _, _ => s

/-! Register writes (R99-R103, R137-R139). -/

/-- The bus keeps the fit of R80 with no node, as its registers stand. -/
def State.busFits (s : State) (b : Nat) : Bool := decide ((s.layoutOf b []).e ≤ 100 * s.g (CRS_BCYCLEN_LEN b))

/-- A write of CRS_BxCFG (R78, R80, R99, R100). -/
def State.busCfgWrite (s : State) (b : Nat) (v : Word) : State :=
  let off := rCRS_BCFG.at b 0
  let en := wbit v 0
  let was := s.on (CRS_BCFG_EN b)
  let new := (s.store rCRS_BCFG b 0 v)
  if was ∧ wbits v 23 4 ≠ wbits (s.rd off) 23 4 then s.discard rCRS_BCFG b 0 NOT_IN_STATE
  else if wbit v 2 ∧ !nbit (s.g PWR_WATCHBANK) (b / 8) then s.discard rCRS_BCFG b 0 OUT_OF_RANGE
  else if !was ∧ !new.busFits b then s.discard rCRS_BCFG b 0 OUT_OF_RANGE
  else if en ∧ !was then
    new.setBus b { new.bus b with from_ := some (s.elapsed + 10000), fresh := true, cur := none, prev := none, lay := new.layoutOf b [] }
  else if was ∧ !en then (new.haltBus b).setBus b { (new.haltBus b).bus b with from_ := none }
  else new

/-- BUS_ENABLE (R78): a write of CRS_BxCFG. -/
def execBusEnable (b : Nat) (v : Word) (s : State) : Res := .next (s.barWrite rCRS_BCFG b 0 v fun s => s.busCfgWrite b v)

/-- A write of a timing register of a bus (R80, R99, R101). -/
def State.busLenWrite (s : State) (r : Reg) (b : Nat) (v : Word) : State :=
  let new := s.store r b 0 v
  if s.on (CRS_BCFG_EN b) then s.discard r b 0 NOT_IN_STATE
  else if (r.off = rCRS_BPHASE.off ∧ new.g (CRS_BCYCLEN_LEN b) ≤ new.g (CRS_BPHASE_OFS b)) ∨ new.busFits b = false then s.discard r b 0 OUT_OF_RANGE
  else new

/-- A write of CRS_BxDROP (R139). -/
def State.busDropWrite (s : State) (b : Nat) (v : Word) : State :=
  let a := wbits v 4 0
  if !wbit v 8 then s
  else if !s.holds b a then s.discard rCRS_BDROP b 0 NOT_IN_STATE
  else
    let c : NcmdS := { opc := ncDROP, addr := a, seq := (s.node b a).seq, param := toLe 4 (64 * s.g (CRS_BADMCFG_HOLDOFF b)) }
    (s.removeNode b a).queueCmd b c

/-- NODE_DROP (R139): GO of CRS_BxDROP. -/
def execNodeDrop (b a : Nat) (s : State) : Res :=
  let v := Word.ofNat (256 + a)
  .next (s.barWrite rCRS_BDROP b 0 v fun s => s.busDropWrite b v)

/-- A write of CRS_BxCLR (R103). -/
def State.busClrWrite (s : State) (b : Nat) (v : Word) : State :=
  let s := if wbit v 0 then s.zero [CRS_BBEACONS b, CRS_BFRAMES b, CRS_BCRCERR b, CRS_BCODEERR b, CRS_BUNKTYPE b, CRS_BFMTERR b,
    CRS_BJOINCOLL b, CRS_BRETRYOK b, CRS_BRETRYFAIL b, CRS_BSPAREFULL b, CRS_BSTEPSKIP b] else s
  if wbit v 1 then (List.range 32).foldl (fun s a =>
    s.zero [CRS_NDRIFTCNT b a, CRS_NSLOTERR b a, CRS_NMISS b a, CRS_NPROBCNT b a]) s else s

/-- BUS_COUNTER_CLR (R103). -/
def execBusCounterClr (b : Nat) (v : Word) (s : State) : Res := .next (s.barWrite rCRS_BCLR b 0 v fun s => s.busClrWrite b v)

/-- ADMISSION_COUNTER_CLR (R139). -/
def execAdmissionCounterClr (b : Nat) (v : Word) (s : State) : Res :=
  .next (s.barWrite rCRS_BADMCLR b 0 v fun s => s.clrWrite [CRS_BADMITS b, CRS_BREFUSED b, CRS_BDEADMIT b] v)

/-! NODE_CMD (R421). -/

/-- The owner of an endpoint, or tenant 0, may command its node. -/
def State.nodeIssuer (s : State) (j : JobS) : Option Nat :=
  if isT0 j.id.tid || s.owns j.id.tid (dBody j.desc 0 4 % 131072) then none else some NOT_OWNER

/-- NODE_CMD's effect: the command joins the bus's queue; it completes with the node's answer. -/
def State.nodeCmdJob (s : State) (j : JobS) : State :=
  let d := j.desc
  let r := s.ep (dBody d 0 4 % 131072)
  let opc := dBody d 4 1
  let cnt := dBody d 5 1
  let pid := dBody d 6 2
  if opc < 0x09 ∨ 0x0C < opc then s.finishWith j OUT_OF_RANGE
  else if r.src ≠ srcCOURSE then s.finishWith j BAD_HANDLE
  else match s.busOf r.nodeid with
    | none => s.finishWith j NOT_IN_STATE
    | some (b, a) =>
      let param := if opc = 0x09 then toLe 2 pid ++ toLe 2 cnt else if opc = 0x0A then toLe 2 pid ++ toLe 2 cnt ++ padTo cnt j.args else []
      let c : NcmdS := { opc := opc, param := param, who := 2, job := some j.id }
      if s.g (CRS_NSLOTLEN b a) < 20 + replyLen c then s.finishWith j OUT_OF_RANGE else s.nodeCmd b a c

/-- NODE_CMD (R421). -/
def execNodeCmd (s : State) : Res := .next (s.runJob 0x2C s.nodeIssuer fun s j => s.nodeCmdJob j)

end Sys2Proof.Machine
end

