-- ==== Sys2Proof/Machine/CanLine.lean ====
section
/-! DEFINITION. The bits of a CAN frame as a port sends it (spec/07_serial_memory_and_can_ports.md R209): the formats of ISO 11898-1:2015, which
the spec cites, with bit stuffing and the ISO CRC. The formats are PRESUMED from that standard (notes/assumptions/221.md). -/
namespace Sys2Proof.Machine

/-- The n low bits of a value, most significant first; a recessive bit is true. -/
def msBits (n v : Nat) : List Bool := (List.range n).map fun k => nbit v (n - 1 - k)

/-- The DLC of a data length. -/
def canDlc (n : Nat) : Nat :=
  if n ≤ 8 then n else if n ≤ 24 then 8 + (n - 5) / 4 else if n ≤ 32 then 13 else if n ≤ 48 then 14 else 15

/-- The bits from the start of frame to the end of the data field, before stuffing. `w` is the identifier word of R214: bits 28:0, IDE, FDF,
BRS; `esi` is recessive while the port is error-passive. -/
def canHeadBits (w : Nat) (esi : Bool) (data : List Nat) : List Bool :=
  let fd := nbit w 30
  let id := if nbit w 29 then msBits 11 (w / 2 ^ 18) ++ [true, true] ++ msBits 18 w ++ [false] else msBits 11 (w / 2 ^ 18) ++ [false, false]
  let ctl := if fd then [true, false, nbit w 31, esi] else if nbit w 29 then [false, false] else [false]
  [false] ++ id ++ ctl ++ msBits 4 (canDlc data.length) ++ (data.map (msBits 8)).flatten

/-- Bit stuffing: after five equal bits one of the other level, after the last bit only with `after`; `prev` and `run` are the last bit sent
and its count. -/
def stuff (after : Bool) (prev : Bool) (run : Nat) : List Bool → List Bool
  | [] => []
  | b :: t =>
    let r := if b == prev then run + 1 else 1
    if r = 5 ∧ (after ∨ !t.isEmpty) then b :: (!b) :: stuff after (!b) 1 t else b :: stuff after b r t

/-- A cyclic redundancy check of n bits over a list of bits. -/
def crcBits (n poly start : Nat) (bs : List Bool) : Nat :=
  bs.foldl (fun c b =>
    let c2 := c * 2 % 2 ^ n
    if nbit c (n - 1) != b then Nat.xor c2 poly else c2) start

/-- The stuff count of an FD frame: the count of stuff bits modulo 8 in Gray code, and its even parity. -/
def stuffCount (k : Nat) : List Bool :=
  let g := Nat.xor (k % 8) (k % 8 / 2)
  msBits 3 g ++ [(nbit g 0 != nbit g 1) != nbit g 2]

/-- Fixed stuff bits: one before each four bits, of the level opposite to the bit before it. -/
def fixedStuff (prev : Bool) : Nat → List Bool → List Bool
  | _, [] => []
  | 0, b :: t => (!prev) :: b :: fixedStuff b 3 t
  | k + 1, b :: t => b :: fixedStuff b k t

/-- The bits of a frame on the line, from its start to the end of its end-of-frame field; the acknowledgement slot is sent recessive. -/
def canFrame (w : Nat) (esi : Bool) (data : List Nat) : List Bool :=
  let head := canHeadBits w esi data
  let tail := [true, true, true] ++ List.replicate 7 true
  if nbit w 30 then
    let dyn := stuff false true 0 head
    let sc := stuffCount (dyn.length - head.length)
    let crc := if data.length ≤ 16 then msBits 17 (crcBits 17 0x1685B 0x10000 (dyn ++ sc)) else msBits 21 (crcBits 21 0x102899 0x100000 (dyn ++ sc))
    dyn ++ fixedStuff (dyn.getLastD true) 0 (sc ++ crc) ++ tail
  else stuff true true 0 (head ++ msBits 15 (crcBits 15 0x4599 0 head)) ++ tail

end Sys2Proof.Machine
end

