-- ==== Sys2Proof/Machine/Can.lean ====
section
/-! DEFINITION. CAN ports: receive dispatch, transmit message buffers, error states, standby
(spec/07_serial_memory_and_can_ports.md R209-R222). -/
namespace Sys2Proof.Machine

/-- A port. -/
def State.can (s : State) (x : Nat) : CanPS := s.cans.get (fun _ => {}) x

/-- Sets a port. -/
def State.setCan (s : State) (x : Nat) (p : CanPS) : State := { s with cans := s.cans.set (fun _ => {}) x p }

/-- The port counts as idle: no CAN map entry and no message buffer (R220). -/
def State.canIdle (s : State) (x : Nat) : Bool :=
  !(s.ept.cans.any fun c => nbit (leAt c 8 1) x) && !((List.range 64).any fun y => s.on (CAN_MBCFG_MODE x y))

/-- The port's clock runs and shedding does not stop it (R220). -/
def State.canRuns (s : State) (x : Nat) : Bool := s.coreRuns && !s.watchRuns && !(decide (3 ≤ s.stage) && s.canIdle x)

/-- The port is bus-off (R218). -/
def State.canOff (s : State) (x : Nat) : Bool := s.g (CAN_PSTS_ERRSTATE x) == 2 || decide (256 ≤ (s.can x).tec)

/-- The port takes part in bus traffic. -/
def State.canOn (s : State) (x : Nat) : Bool := s.on (CAN_PCFG_EN x) && s.canRuns x && !s.canOff x

/-- CANx_STB is asserted (R219, R221). -/
def State.canStandby (s : State) (x : Nat) : Bool :=
  !s.on (CAN_PCFG_EN x) || decide (4 ≤ s.stage) || s.sys.pstate == .watch || s.sys.pstate == .hibernate

/-- CAN_PxSTS.STBY follows the pin on every port. -/
def State.canPins (s : State) : State := (List.range 8).foldl (fun s x => s.f (CAN_PSTS_STBY x) (b2n (s.canStandby x))) s

/-- The error counters change; passive above 127 (R218; the counters' rules are PRESUMED from ISO 11898-1). -/
def State.canErr (s : State) (x tec rec_ : Nat) : State :=
  let s := s.setCan x { s.can x with tec := tec, rec_ := rec_ }
  let s := (s.f (CAN_PSTS_TEC x) (min tec 255)).f (CAN_PSTS_REC x) (min rec_ 255)
  if s.g (CAN_PSTS_ERRSTATE x) = 2 then s else s.f (CAN_PSTS_ERRSTATE x) (if 127 < tec ∨ 127 < rec_ then 1 else 0)

/-- A frame has been received without error: the receive counter falls; a passive one to a free value in 119-127. -/
def State.canRecOk (s : State) (x : Nat) : State :=
  let p := s.can x
  if 127 < p.rec_ then (s.canErr x p.tec (119 + s.fresh % 9)).drew else s.canErr x p.tec (p.rec_ - 1)

/-! Receive dispatch (R211-R215). -/

/-- Identifier, IDE and FDF of a frame match those asked for (R212). -/
def canMatches (w id mask : Nat) (fdf : Bool) : Bool :=
  nbit w 29 == nbit id 29 && Nat.land (Nat.xor w id) (mask % 2 ^ 29) % 2 ^ 29 == 0 && (!fdf || nbit w 30 == nbit id 30)

/-- A CAN map entry matches a frame of port x (R212). -/
def canEntry (x w : Nat) (c : List Nat) : Bool :=
  nbit (leAt c 8 1) x && canMatches w (leAt c 0 4) (leAt c 4 4) (nbit (leAt c 4 4) 30)

/-- The CAN map for a frame stamped at ct (R296). -/
def State.canMap (s : State) (ct : Nat) : List (List Nat) :=
  if s.sw = swRETIRING ∧ ct < s.ept.swct then s.ept.oldCans else s.ept.cans

/-- A matching CAN map entry delivers its raw value, or is short (R212). -/
def State.canDeliver (x ct : Nat) (data : List Nat) (s : State) (c : List Nat) : State :=
  let n := leAt c 9 1 + leAt c 10 1
  if data.length < n then s.inc (CAN_PSHORT x)
  else s.enqueueRaw { ep := leAt c 12 4, src := srcCANMAP, loc := 0, bytes := (data.drop (leAt c 9 1)).take (leAt c 10 1), ct := ct,
                      flags := s.flagsAt ct }

/-- A receive message buffer matches a frame (R214). -/
def State.mbMatches (s : State) (x w y : Nat) : Bool :=
  s.g (CAN_MBCFG_MODE x y) == 1 &&
    canMatches w (s.g (CAN_MBID x y) + 2 ^ 29 * s.g (CAN_MBCFG_IDE x y) + 2 ^ 30 * s.g (CAN_MBCFG_FDF x y)) (s.g (CAN_MBMASK x y))
      (s.on (CAN_MBCFG_MASKFDF x y))

/-- A frame in the layout of R214. -/
def canBytes (w : Nat) (data : List Nat) : List Nat := toLe 4 w ++ [data.length, 0, 0, 0] ++ data

/-- The head registers of the receive FIFO (R215). -/
def State.canHead (s : State) (x : Nat) : State :=
  let (b, ct) := (s.can x).fifo.headD ([], 0)
  let l := padTo 80 b ++ toLe 8 ct
  (List.range 22).foldl (fun s k => s.wr (rCAN_PFIFOHD.at x k) (Word.ofNat (leAt l (4 * k) 4))) s

/-- A frame joins the receive FIFO; a full one loses its oldest (R215). -/
def State.canFifo (s : State) (x : Nat) (b : List Nat) (ct : Nat) : State :=
  let p := s.can x
  let full := decide (32 ≤ p.fifo.length)
  let s := if full then s.inc (CAN_PFIFOLOST x) else s
  (s.setCan x { p with fifo := (if full then p.fifo.drop 1 else p.fifo) ++ [(b, ct)] }).canHead x

/-- A received frame is dispatched (R211). -/
def State.canDispatch (s : State) (x w : Nat) (data : List Nat) (ct : Nat) : State :=
  let es := (s.canMap ct).filter (canEntry x w)
  let s := (es.take 16).foldl (State.canDeliver x ct data) (s.incBy (CAN_PMAPOVER x) (es.length - 16))
  match (List.range 64).find? (s.mbMatches x w) with
  | some y => s.enqueueRaw { ep := s.g (CAN_MBEP x y), src := srcCANMB, loc := x + 8 * y, bytes := canBytes w data, ct := ct, flags := s.flagsAt ct }
  | none => if es.isEmpty ∧ s.on (CAN_PCFG_FIFOEN x) then s.canFifo x (canBytes w data) ct else s

/-- Dominant bits sent while receiving: in NORMAL mode alone, and with the bank's supply (R225, R646). -/
def State.canDominant (s : State) (x n : Nat) : State :=
  if s.g (CAN_PCFG_OPMODE x) = 0 ∧ s.vioOn x = true then { s with out := .canDom x n :: s.out } else s

/-- An error while the port receives: its counter rises by n (R218). -/
def State.canRecErr (s : State) (x n : Nat) : State := s.canErr x (s.can x).tec (min 255 ((s.can x).rec_ + n))

/-- CAN_FRAME_RECEIVED (R210, R211): a valid frame whose start of frame lay `lat` ns ago. `w` is its identifier word in the layout of
R214, with bit 31 set for a remote frame, which carries no data. With FDEN clear an FD frame is answered with an error frame (R225), whose
flag is dominant while the port is error-active. -/
def execCanFrameReceived (x : Nat) (w : Word) (data : List Nat) (lat : Nat) (s : State) : Res :=
  .next <|
    if !(s.canOn x && s.vioOn x) then s
    else if wbit w 30 && !s.on (CAN_PCFG_FDEN x) then
      (if s.g (CAN_PSTS_ERRSTATE x) = 0 then s.canDominant x 6 else s).canRecErr x 1
    else
      let d := if wbit w 30 then data.take 64 else if wbit w 31 then [] else data.take 8
      let s := ((s.canDominant x 1).inc (CAN_PRXOK x)).canRecOk x
      (s.event (253 + x) (s.ct - lat)).canDispatch x w.toNat d (s.ct - lat)

/-- A write of CAN_PxFIFOPOP (R215). -/
def State.canFifoPop (s : State) (x : Nat) (v : Word) : State :=
  if wbit v 0 then (s.setCan x { s.can x with fifo := (s.can x).fifo.drop 1 }).canHead x else s

/-- CAN_FIFO_POP (R215). -/
def execCanFifoPop (x : Nat) (v : Word) (s : State) : Res :=
  .next (s.barWrite rCAN_PFIFOPOP x 0 v fun s => s.canFifoPop x v)

/-! Transmit (R216, R217). -/

/-- A length a buffer can carry (R216). -/
def canLenOk (fd : Bool) (n : Nat) : Bool := decide (n ≤ 8) || (fd && [12, 16, 20, 24, 32, 48, 64].contains n)

/-- The issuer check of CAN_SEND: the owner of the buffer's endpoint (R421). -/
def State.canOwner (s : State) (j : JobS) : Option Nat :=
  let x := dBody j.desc 0 1
  let y := dBody j.desc 1 1
  if 8 ≤ x ∨ 64 ≤ y then none else if s.owns j.id.tid (s.g (CAN_MBEP x y)) then none else some NOT_OWNER

/-- CAN_SEND (R216): the frame is pending on its buffer. -/
def execCanSend (s : State) : Res :=
  .next <| s.runJob 0x32 s.canOwner fun s j =>
    let x := dBody j.desc 0 1
    let y := dBody j.desc 1 1
    let n := dBody j.desc 2 1
    let fd := s.on (CAN_MBCFG_FDF x y)
    let p := s.can x
    if 8 ≤ x ∨ 64 ≤ y ∨ !canLenOk fd n then s.finishWith j OUT_OF_RANGE
    else if p.pend.any fun t => t.mb == y then s.finishWith j BUSY
    else if s.g (CAN_PCFG_OPMODE x) = 1 ∨ !s.on (CAN_PCFG_EN x) ∨ s.g (CAN_MBCFG_MODE x y) ≠ 2 ∨ (fd && !s.on (CAN_PCFG_FDEN x)) then
      s.finishWith j NOT_IN_STATE
    else if !s.canRuns x then s.finishWith j SHED
    else
      let data := if 32 < n then j.args.take n else (j.desc.drop 32).take n
      let brs := fd && s.on (CAN_MBCFG_BRS x y) && s.on (CAN_PCFG_BRSEN x)
      let id := s.g (CAN_MBID x y) + 2 ^ 29 * s.g (CAN_MBCFG_IDE x y) + 2 ^ 30 * b2n fd + 2 ^ 31 * b2n brs
      (s.setCan x { p with pend := p.pend ++ [{ mb := y, id := id, data := data, job := j.id, at_ := s.elapsed }] }).f (CAN_MBSTS_PENDING x y) 1

/-- A pending frame leaves its buffer with an outcome; the outcomes of R217 are counted. -/
def State.canEnd (s : State) (x : Nat) (t : CanTxS) (st : Nat) (result : List Nat) : State :=
  let s := s.setCan x { s.can x with pend := (s.can x).pend.filter fun u => u.mb != t.mb }
  let s := (s.f (CAN_MBSTS_PENDING x t.mb) 0).f (CAN_MBSTS_STATUS x t.mb) st
  let s := if st = OK then s.inc (CAN_PTXOK x) else if st = SHED then s else s.inc (CAN_PTXFAIL x)
  s.finishId t.job { status := st, retried := t.retry, result := result }

/-- Frame a is sent before frame b: by identifier, then by buffer (R217). -/
def canBefore (a b : CanTxS) : Bool :=
  decide (a.id % 2 ^ 29 < b.id % 2 ^ 29) || (a.id % 2 ^ 29 == b.id % 2 ^ 29 && decide (a.mb < b.mb))

/-- The first of some pending frames in the order of R217. -/
def canFirst (l : List CanTxS) : Option CanTxS :=
  l.foldl (fun best t =>
    match best with
    | some b => if canBefore t b then some t else some b
    | none => some t) none

/-- The port may transmit. -/
def State.canSends (s : State) (x : Nat) : Bool := s.canOn x && s.g (CAN_PCFG_OPMODE x) != 1

/-- The transmission that CAN_TX_DONE ends: that of the first frame pending at its start of frame, or the one with which the port has
stopped (R220). -/
def State.canTxNow (s : State) (x lat : Nat) : Option CanTxS :=
  if s.canSends x then canFirst ((s.can x).pend.filter fun t => t.at_ + lat ≤ s.elapsed)
  else (s.can x).pend.find? fun t => some t.mb == (s.can x).last

/-- The bits and bit times of a sent frame (R209). CANx_TXD stays recessive in LOOPBACK (R225), and sends nothing without the bank's supply
(R646). -/
def State.canOut (s : State) (x : Nat) (t : CanTxS) : State :=
  if s.g (CAN_PCFG_OPMODE x) = 0 ∧ s.vioOn x = true then
    let nom := (s.g (CAN_PNBT_NBRP x) + 1) * (s.g (CAN_PNBT_NTSEG1 x) + s.g (CAN_PNBT_NTSEG2 x) + 3)
    let dat := (s.g (CAN_PDBT_DBRP x) + 1) * (s.g (CAN_PDBT_DTSEG1 x) + s.g (CAN_PDBT_DTSEG2 x) + 3)
    let tdc := if s.on (CAN_PDBT_TDCEN x) then some (s.g (CAN_PDBT_TDCO x)) else none
    { s with out := .can x t.mb (canFrame t.id (s.g (CAN_PSTS_ERRSTATE x) == 1) t.data) nom dat tdc :: s.out }
  else s

/-- CAN_TX_DONE (R217): the transmission whose start of frame lay `lat` ns ago ends, sent or in error. `exempt` marks an error that
ISO 11898-1 does not count. Once the port has stopped (R220), a frame that is not sent, in error or losing arbitration, completes with SHED. -/
def execCanTxDone (x : Nat) (error exempt : Bool) (lat : Nat) (s : State) : Res :=
  .next <|
    match s.canTxNow x lat with
    | none => s
    | some t =>
      let p := s.can x
      if error then
        let stopped := !s.canSends x
        let s := if exempt then s else s.canErr x (p.tec + 8) p.rec_
        if stopped then s.canEnd x t SHED []
        else if t.retry then s.canEnd x t LASTING_FAULT []
        else s.setCan x { s.can x with pend := (s.can x).pend.map fun u => if u.mb = t.mb then { u with retry := true } else u }
      else ((s.canErr x (p.tec - 1) p.rec_).canOut x t).canEnd x t OK (toLe 8 (s.ct - lat))

/-- CAN_TX_TIMEOUT (R217): TXTO milliseconds have passed since a frame was accepted. -/
def execCanTxTimeout (x y : Nat) (s : State) : Res :=
  .next <|
    match (s.can x).pend.find? fun t => t.mb == y with
    | some t => if t.at_ + s.g (CAN_MBTXTO x y) * 1000000 ≤ s.elapsed then s.canEnd x t TIMEOUT [] else s
    | none => s

/-! Error states (R218). -/

/-- Endpoints a port delivers to: CAN map entries and message buffers (R454). -/
def State.canEps (s : State) (x : Nat) : List Nat :=
  let m := s.ept.cans.filter fun c => nbit (leAt c 8 1) x
  (s.ept.recs.cells.filter fun c => c.2.en &&
    ((c.2.src == srcCANMB && c.2.loc % 8 == x) || (c.2.src == srcCANMAP && m.any fun e => leAt e 12 4 == c.1))).map Prod.fst

/-- The endpoints of a port are interrupted (R454). -/
def State.canGap (s : State) (x : Nat) : State := s.interruptAll (s.canEps x)

/-- CAN_BUS_OFF (R218): a port whose transmit counter has passed 255 goes bus-off. -/
def execCanBusOff (x : Nat) (s : State) : Res :=
  .next <|
    if 256 ≤ (s.can x).tec ∧ s.g (CAN_PSTS_ERRSTATE x) ≠ 2 then
      let s := (s.f (CAN_PSTS_ERRSTATE x) 2).f (CAN_PSTS_RECOVERING x) (s.g (CAN_PCFG_AUTOREC x))
      let s := (s.can x).pend.foldl (fun s t => s.canEnd x t LINK_DOWN []) s
      (s.canGap x).raiseHub srcCAN
    else s

/-- CAN_RECOVERED (R218): the 128 occurrences of 11 recessive bits have been seen while the port recovers. -/
def execCanRecovered (x : Nat) (s : State) : Res :=
  .next <|
    if s.on (CAN_PSTS_RECOVERING x) then
      ((s.f (CAN_PSTS_RECOVERING x) 0).f (CAN_PSTS_ERRSTATE x) 0).canErr x 0 0
    else s

/-- A write of CAN_PxCTL (R218). -/
def State.canRecover (s : State) (x : Nat) (v : Word) : State :=
  if wbit v 0 && s.g (CAN_PSTS_ERRSTATE x) == 2 then s.f (CAN_PSTS_RECOVERING x) 1 else s

/-- CAN_RECOVER (R218): RECOVER of CAN_PxCTL. -/
def execCanRecover (x : Nat) (v : Word) (s : State) : Res :=
  .next (s.barWrite rCAN_PCTL x 0 v fun s => s.canRecover x v)

/-- CAN_BUS_ERROR (R218): an error while the port receives; `eight` for the errors that ISO 11898-1 counts eightfold. -/
def execCanBusError (x : Nat) (eight : Bool) (s : State) : Res :=
  .next <|
    if s.canOn x then s.canRecErr x (if eight then 8 else 1) else s

/-! Wake, counters, registers, stops (R219-R222). -/

/-- CAN_WAKE (R219): a dominant level has lasted WAKEFILT while STB is asserted. -/
def execCanWake (x : Nat) (s : State) : Res :=
  .next (if s.on (CAN_PCFG_WAKEEN x) && s.canStandby x && s.vioOn x then (s.event (245 + x) s.ct).wakeReq 4 else s)

/-- CAN_COUNTER_CLR (R217). -/
def execCanCounterClr (x : Nat) (v : Word) (s : State) : Res :=
  .next (s.barWrite rCAN_PCLR x 0 v fun s =>
    s.clrWrite [CAN_PRXOK x, CAN_PTXOK x, CAN_PTXFAIL x, CAN_PSHORT x, CAN_PMAPOVER x, CAN_PFIFOLOST x] v)

/-- A write of CAN_PxCFG (R225): clearing EN interrupts the port's endpoints (R454). -/
def State.canCfgWrite (s : State) (x : Nat) (v : Word) : State :=
  let s := if s.on (CAN_PCFG_EN x) ∧ !wbit v 0 then s.canGap x else s
  (s.store rCAN_PCFG x 0 v).canPins

/-- The code a write of CAN_PxNBT is discarded with (R209, R226). -/
def State.canNbtFails (s : State) (x : Nat) (v : Word) : Option Nat :=
  let t1 := wbits v 24 17 + 1
  let t2 := wbits v 16 10 + 1
  if t1 < 2 ∨ t2 < wbits v 31 25 + 1 ∨ (wbits v 9 0 + 1) * (1 + t1 + t2) < 40 then some OUT_OF_RANGE
  else if s.on (CAN_PCFG_EN x) then some NOT_IN_STATE else none

/-- The code a write of CAN_PxDBT is discarded with (R209, R226). -/
def State.canDbtFails (s : State) (x : Nat) (v : Word) : Option Nat :=
  let t1 := wbits v 19 15 + 1
  let t2 := wbits v 14 11 + 1
  if t2 < wbits v 23 20 + 1 ∨ (wbits v 4 0 + 1) * (1 + t1 + t2) < 8 then some OUT_OF_RANGE
  else if s.on (CAN_PCFG_EN x) then some NOT_IN_STATE else none

/-- A message buffer holds a pending frame, so its set-up is fixed (R222). -/
def State.mbPending (s : State) (x y : Nat) : Bool := (s.can x).pend.any fun t => t.mb == y

/-- The CAN ports stop (R220): the frame in transmission, the first of a port that sends, is finished or lost to arbitration; the other
pending sends complete with SHED; endpoints are interrupted. -/
def State.canStop (s : State) : State :=
  ((List.range 8).foldl (fun s x =>
    let head := if s.on (CAN_PCFG_EN x) && !s.canOff x && s.g (CAN_PCFG_OPMODE x) != 1 then canFirst (s.can x).pend else none
    let s := ((s.can x).pend.filter fun t => some t != head).foldl (fun s t => s.canEnd x t SHED []) s
    let s := s.setCan x { s.can x with last := head.map CanTxS.mb }
    if s.on (CAN_PCFG_EN x) then s.canGap x else s) s).canPins

/-- A function-level reset cancels the sends of the host's tenants that are not in arbitration: all but the first of a port (R221). -/
def State.canFlr (s : State) (home : Nat → Bool) : State :=
  (List.range 8).foldl (fun s x =>
    let head := canFirst (s.can x).pend
    let gone := (s.can x).pend.filter fun t => home t.job.tid && some t != head
    gone.foldl (fun s t => (s.setCan x { s.can x with pend := (s.can x).pend.filter fun u => u.mb != t.mb }).f (CAN_MBSTS_PENDING x t.mb) 0) s) s

/-- A warm or core reset of the CAN ports (R221). -/
def State.canReset (s : State) : State :=
  let s := (List.range 8).foldl (fun s x => if s.on (CAN_PCFG_EN x) then s.canGap x else s) s
  { s.resetRegs 0x1C000 0x24FFF with cans := {} }

end Sys2Proof.Machine
end

