-- ==== Sys2Proof/Machine/Mem.lean ====
section
/-! DEFINITION. The memory port: the aperture, prefetch buffer, page buffer, programs and raw commands
(spec/07_serial_memory_and_can_ports.md R203-R208, R220-R224). -/
namespace Sys2Proof.Machine

/-- Sets the memory port; MEM_STS follows it. -/
def State.setMem (s : State) (m : MemS) : State :=
  let s : State := { s with mem := m }
  (s.f MEM_STS_BUSY (b2n m.run.isSome)).f MEM_STS_PENDW (b2n (m.page.isSome || m.ops.any fun o => match o with | .prog _ => true | .raw .. => false))

/-- Lanes of a LANES code (R224). -/
def laneCount (c : Nat) : Nat := 2 ^ c

/-- A transaction in the port's present configuration (R203). -/
def State.flashTx (s : State) (cmd : Option Nat) (addr : Option Nat) (data : List Nat) (rx : Nat) : FlashTx :=
  let n := if s.on MEM_CFG_ADDR4 then 4 else 3
  { cmd := cmd, data := data, rx := rx, div := s.g MEM_CFG_DIV
    addr := match addr with
      | some a => (List.range n).map fun k => a / 256 ^ (n - 1 - k) % 256
      | none => []
    lanes := (laneCount (s.g MEM_CFG_CMDLANES), laneCount (s.g MEM_CFG_ADDRLANES), laneCount (s.g MEM_CFG_DATALANES)) }

/-- Sends a transaction; the pins are high-impedance without VIO0 (R646). -/
def State.flashOut (s : State) (t : FlashTx) : State := if s.vioOn 0 then { s with out := .flash t :: s.out } else s

/-- A read with a mode byte, in continuous-read mode without its command (R206). -/
def State.modeRead (s : State) (a mode n : Nat) : State :=
  let t := s.flashTx (if s.on MEM_STS_XIPACT then none else some (s.g MEM_OPS_READOP)) (some a) [] n
  s.flashOut { t with mode := some mode, dummy := s.g MEM_CFG_DUMMY }

/-- Ends continuous-read mode by one read with MODEEXIT, whose address is left open (R206). -/
def State.xipExit (s : State) : State :=
  if s.on MEM_STS_XIPACT then ((s.modeRead (s.fresh % 2 ^ 24) (s.g MEM_XIPCFG_MODEEXIT) 1).drew).f MEM_STS_XIPACT 0 else s

/-- Sends one read of n bytes (R203, R206). -/
def State.flashRead (s : State) (a n : Nat) : State :=
  if s.on MEM_CFG_XIP then (s.modeRead a (s.g MEM_XIPCFG_MODEENTER) n).f MEM_STS_XIPACT 1
  else
    let s := s.xipExit
    s.flashOut { s.flashTx (some (s.g MEM_OPS_READOP)) (some a) [] n with dummy := s.g MEM_CFG_DUMMY }

/-- A fetched line goes to the front of the four (R205). -/
def State.putLine (s : State) (a : Nat) (b : List Nat) : State :=
  let s := s.flashRead a 64
  { s with mem := { s.mem with lines := ((a, s.flashIn b) :: s.mem.lines.filter fun l => l.1 != a).take 4, last := some a } }

/-- Drops the prefetched lines that n bytes from an address overlap (R205). -/
def State.dropLines (s : State) (a n : Nat) : State :=
  { s with mem := { s.mem with lines := s.mem.lines.filter fun l => decide (a + n ≤ l.1) || decide (l.1 + 64 ≤ a) } }

/-- The value of an aperture word in a line. -/
def lineWord (b : List Nat) (a : Nat) : Nat := leAt b (a % 64) 4

/-- A read of the window is served (R205): from the prefetch buffer, or by fetching its line `b`, with the next line `b2` after a line
that follows the last one fetched, unless another access is waiting. -/
def State.serveRead (s : State) (a : Nat) (b b2 : List Nat) (more : Bool) : State :=
  let line := a / 64 * 64
  match s.mem.lines.find? fun l => l.1 == line with
  | some l =>
    { s with rdata := lineWord l.2 a, mem := { s.mem with lines := l :: s.mem.lines.filter fun k => k.1 != line } }
  | none =>
    let next := s.mem.last == some (line - 64) && decide (64 ≤ line) && !more
    let s := s.putLine line b
    let s := if next && decide (line + 64 < (if s.on MEM_CFG_ADDR4 then 2 ^ 26 else 2 ^ 24)) then s.putLine (line + 64) b2 else s
    { s with rdata := lineWord (s.flashIn b) a }

/-- A read of the aperture ends: the answer to a remote access is sent (R529). -/
def State.readEnd (s : State) (who : Option (Nat × Nat)) (st : Nat) : State :=
  match who with
  | some (src, tag) => s.cfgAnswer src tag cfREGRESULT ([st, 0, 0, 0] ++ toLe 4 s.rdata)
  | none => s

/-- A read of the aperture ends without data. -/
def State.readFails (s : State) (who : Option (Nat × Nat)) (ofs code : Nat) : State :=
  ({ s.err MEM_ERRSTS ofs code with rdata := 0 } : State).readEnd who code

/-- A read of aperture word k (R204, R205, R208): it waits while a program or a poll runs. `b` is what the flash holds in its line and
`b2` in the next. -/
def State.apAccess (s : State) (k : Nat) (b b2 : List Nat) (who : Option (Nat × Nat)) : State :=
  let a := s.apAddr k
  match s.winRefused a with
  | some c => s.readFails who (apOff k) c
  | none =>
    if s.mem.run.isSome then
      { s with mem := { s.mem with waits := s.mem.waits ++ [{ addr := a, line := padTo 64 b, next := padTo 64 b2, at_ := s.elapsed, who := who }] } }
    else (s.serveRead a (padTo 64 b) (padTo 64 b2) false).readEnd who OK

/-- MEM_AP_READ (R204, R205): a read of aperture word k by the host. -/
def execMemApRead (k : Nat) (b b2 : List Nat) (s : State) : Res :=
  .next <|
    let s := s.wakeDoze 0x400
    if s.stopped MEM_ERRSTS then s.readStopped (apOff k) else s.apAccess k b b2 none

/-! Programs (R207). -/

/-- The page image sent: the gathered bytes, and ones where none was written. -/
def PageS.image (p : PageS) : List Nat :=
  (List.range 256).map fun o => match p.bytes.find? fun (x : Nat × Nat) => x.1 == o with
    | some x => x.2
    | none => 0xFF

/-- Sends a page program. -/
def State.sendProg (s : State) (p : PageS) : State :=
  let s := (s.xipExit).flashOut ((s.xipExit).flashTx (some (s.g MEM_OPS_WRENOP)) none [] 0)
  (s.flashOut (s.flashTx (some (s.g MEM_OPS_PROGOP)) (some p.addr) p.image 0)).dropLines p.addr 256

/-- Sends a raw command (R208). One that sends data to an address may program there, one that sends and takes none may erase; the lines it
overlaps go (R205). -/
def State.sendRaw (s : State) (v : Word) (addr data rx : Nat) : State :=
  let s := s.xipExit
  let n := min 4 (wbits v 11 9)
  let opc := wbits v 7 0
  let s := if wbit v 13 then s.flashOut (s.flashTx (some (s.g MEM_OPS_WRENOP)) none [] 0) else s
  let a := if wbit v 8 then some addr else none
  let s := s.flashOut (s.flashTx (some opc) a (if wbit v 12 then [] else toLe n data) (if wbit v 12 then n else 0))
  if wbit v 12 then s.f MEM_RAWDATA (if s.vioOn 0 then rx % 256 ^ n else 0)
  else if n = 0 then (if opc = s.g MEM_OPS_WRENOP then s else { s with mem := { s.mem with lines := [] } })
  else if wbit v 8 then s.dropLines addr n
  else s

/-- Polling of BUSYBIT begins. -/
def State.pollFrom (s : State) (op : MemOp) (retried : Bool) : State :=
  s.setMem { s.mem with
    run := some { op := op, since := s.elapsed, next := s.elapsed + s.g MEM_PROGCFG_POLLINT * 1000, retried := retried } }

/-- The operations waiting begin, as far as the port is free. -/
def State.memNext : Nat → State → State
  | 0, s => s
  | n + 1, s =>
    if s.mem.run.isSome then s
    else match s.mem.ops with
      | [] => s.setMem s.mem
      | .prog p :: t =>
        let s : State := { s with mem := { s.mem with ops := t } }
        State.memNext n ((s.sendProg p).pollFrom (.prog p) false)
      | .raw v a d rx :: t =>
        let s := ({ s with mem := { s.mem with ops := t } } : State).sendRaw v a d rx
        State.memNext n (if wbit v 14 then s.pollFrom (.raw v a d rx) false else s)

/-- Reads that waited are served once the port is free (R208). -/
def State.serveWaits (s : State) : State :=
  if s.mem.run.isSome then s
  else
    let l := s.mem.waits
    l.zipIdx.foldl (fun s w => (s.serveRead w.1.addr w.1.line w.1.next (decide (w.2 + 1 < l.length))).readEnd w.1.who OK)
      ({ s with mem := { s.mem with waits := [] } } : State)

/-- The port goes on. -/
def State.memGo (s : State) : State := (State.memNext (s.mem.ops.length + 1) s).serveWaits

/-- The page buffer is handed over for programming (R207). -/
def State.flushPage (s : State) : State :=
  match s.mem.page with
  | some p => ({ s with mem := { s.mem with page := none, ops := s.mem.ops ++ [.prog p] } } : State).memGo
  | none => s

/-- Four bytes are gathered in the page buffer. -/
def State.gather (s : State) (a off : Nat) (v : Word) : State :=
  let page := a / 256 * 256
  let new := (List.range 4).map fun i => (a % 256 + i, v.toNat / 256 ^ i % 256)
  let old := match s.mem.page with
    | some p => p.bytes.filter fun (x : Nat × Nat) => !(new.any fun (y : Nat × Nat) => y.1 == x.1)
    | none => []
  let s := s.setMem { s.mem with page := some { addr := page, bytes := old ++ new, at_ := s.elapsed, off := off } }
  if 256 ≤ (old ++ new).length then s.flushPage else s

/-- MEM_AP_WRITE (R207): a write of aperture word k. -/
def execMemApWrite (k : Nat) (v : Word) (s : State) : Res :=
  .next <| s.barWrite rMEM_AP k 0 v fun s =>
    let a := s.apAddr k
    match s.winRefused a with
    | some c => s.err MEM_ERRSTS (apOff k) c
    | none =>
      let s := s.dropLines a 4
      let other := match s.mem.page with
        | some p => p.addr != a / 256 * 256
        | none => false
      (if other then s.flushPage else s).gather a (apOff k) v

/-- PAGE_BUFFER_TIMEOUT (R207): 100 us have passed since the last write to the page. -/
def execPageBufferTimeout (s : State) : Res :=
  .next <|
    match s.mem.page with
    | some p => if p.at_ + 100000 ≤ s.elapsed then s.flushPage else s
    | none => s

/-- MEM_FLUSH (R207). -/
def execMemFlush (v : Word) (s : State) : Res := .next (s.barWrite rMEM_FLUSH 0 0 v fun s => if wbit v 0 then s.flushPage else s)

/-- The BAR0 offset an operation's fault is recorded with. -/
def MemOp.off : MemOp → Nat
  | .prog p => p.off
  | .raw .. => rMEM_RAWCMD.at 0 0

/-- A lasting fault of the port (R207). -/
def State.memFault (s : State) (op : MemOp) (code : Nat) : State := ((s.err MEM_ERRSTS op.off code).f MEM_STS_FAULT 1).raiseHub srcMEM

/-- The operation in progress ends. -/
def State.memEnd (s : State) : State := (s.setMem { s.mem with run := none }).memGo

/-- What is read back differs from what was written. -/
def PageS.differs (p : PageS) (b : List Nat) : Bool := p.bytes.any fun (x : Nat × Nat) => b.getD x.1 0 != x.2

/-- A program whose BUSYBIT has read 0 is verified (R207): `b` is the page as read back. -/
def State.memVerify (s : State) (r : MemRunS) (b : List Nat) : State :=
  match r.op with
  | .raw .. => s.memEnd
  | .prog p =>
    if !s.on MEM_CFG_VERIFY then s.memEnd
    else
      let s := s.flashRead p.addr 256
      if !p.differs (s.flashIn b) then s.memEnd
      else if r.retried then (s.memFault r.op LASTING_FAULT).memEnd
      else (((s.inc MEM_RETRY).sendProg p).pollFrom r.op true)

/-- STATUS_POLL (R207): the status byte read when a poll is due, and for a verification the page read back. -/
def execStatusPoll (st : Nat) (b : List Nat) (s : State) : Res :=
  .next <|
    match s.mem.run with
    | none => s
    | some r =>
      if s.elapsed < r.next then s
      else
        let s := (s.xipExit).flashOut ((s.xipExit).flashTx (some (s.g MEM_OPS_RDSROP)) none [] 1)
        if nbit st (s.g MEM_XIPCFG_BUSYBIT) && s.vioOn 0 then
          s.setMem { s.mem with run := some { r with next := r.next + s.g MEM_PROGCFG_POLLINT * 1000 } }
        else s.memVerify r b

/-- Waiting reads return zero and record TIMEOUT (R208). -/
def State.waitFails (s : State) (w : WaitS) : State := s.readFails w.who (apOff (w.addr % 4096 / 4)) TIMEOUT

/-- PROGTO_EXPIRY (R207, R208): PROGTO has passed since polling began, or since a read began to wait. -/
def execProgtoExpiry (s : State) : Res :=
  .next <|
    let lim := s.g MEM_PROGCFG_PROGTO * 1000
    match s.mem.run with
    | none => s
    | some r =>
      if r.since + lim ≤ s.elapsed then
        let l := s.mem.waits
        let s := l.foldl State.waitFails ({ s with mem := { s.mem with waits := [] } } : State)
        (s.memFault r.op TIMEOUT).memEnd
      else
        let l := s.mem.waits.filter fun w => w.at_ + lim ≤ s.elapsed
        l.foldl State.waitFails ({ s with mem := { s.mem with waits := s.mem.waits.filter fun w => !(decide (w.at_ + lim ≤ s.elapsed)) } } : State)

/-! Raw commands (R208). -/

/-- A raw command is waiting or running. -/
def MemS.rawBusy (m : MemS) : Bool :=
  (m.ops.any fun o => match o with | .raw .. => true | .prog _ => false) || (match m.run with
    | some r => match r.op with | .raw .. => true | .prog _ => false
    | none => false)

/-- A write of MEM_RAWCMD; `rx` is what the flash returns. -/
def State.rawWrite (s : State) (v : Word) (rx : Nat) : State :=
  if !s.on MEM_CFG_EN then s.discard rMEM_RAWCMD 0 0 NOT_IN_STATE
  else if s.mem.rawBusy then s.discard rMEM_RAWCMD 0 0 BUSY
  else
    let s := s.flushPage
    ({ s with mem := { s.mem with ops := s.mem.ops ++ [.raw v (s.g MEM_RAWADDR) (s.g MEM_RAWDATA) rx] } } : State).memGo

/-- RAW_COMMAND (R208). -/
def execRawCommand (v : Word) (rx : Nat) (s : State) : Res := .next (s.barWrite rMEM_RAWCMD 0 0 v fun s => s.rawWrite v rx)

/-! Registers and resets (R221, R222). -/

/-- A write of MEM_CFG (R206, R222, R224). -/
def State.memCfgWrite (s : State) (v : Word) : State :=
  if s.on MEM_STS_BUSY ∨ s.on MEM_STS_PENDW then s.discard rMEM_CFG 0 0 NOT_IN_STATE
  else if wbit v 2 ∧ wbits v 20 16 < 8 / 2 ^ wbits v 7 6 then s.discard rMEM_CFG 0 0 OUT_OF_RANGE
  else
    let s := if wbit v 0 ∧ wbit v 2 then s else s.xipExit
    (s.store rMEM_CFG 0 0 v)

/-- A warm or core reset of the memory port (R221). -/
def State.memReset (s : State) : State := { s.resetRegs 0x2C000 0x2DFFF with mem := {} }

end Sys2Proof.Machine
end

