-- ==== Sys2Proof/Machine/Msg.lean ====
section
/-! DEFINITION. Messages over the bond for commands, casks, events and signals (spec/15_bond_links.md R494-R498;
spec/14_ordering_and_recovery.md R459, R470; spec/08_poll_scheduler_and_transactions.md R260). Each takes the oldest message of its
channel when it is of its kind. -/
namespace Sys2Proof.Machine

/-! Remote commands (R260, R494, R495). -/

/-- The image gathered for a TABLE_LOAD of a source and tag. -/
def State.imageOf (s : State) (src tag : Nat) : List Nat :=
  match s.rng.images.find? fun x => x.1 == src && x.2.1 == tag with
  | some x => x.2.2
  | none => []

/-- A CMD is executed (R494). -/
def State.cmdExec (s : State) (src : Nat) (b : List Nat) : State :=
  let tag := leAt b 0 2
  let d := padTo 64 ((b.drop 16).take 64)
  let t := s.tenAt src (leAt b 2 2)
  let load := dOpc d == 0x60
  let img := s.imageOf src tag
  let args := if load then img else (b.drop 88).take (leAt b 80 2)
  let j : JobS := { id := { src := src, remote := true, tid := t, ref := tag }, uid := leAt b 8 8, desc := d, args := args,
                    winfail := nbit (leAt b 4 1) 1 }
  let s : State := { s with rng := { s.rng with
    answers := s.rng.answers.filter fun x => !(x.1 == src && x.2.1 == tag)
    images := s.rng.images.filter fun x => !(x.1 == src && x.2.1 == tag) } }
  if 1024 ≤ leAt b 2 2 ∨ (leAt b 2 2 ≠ 0 ∧ ((s.ctx t).state = ctxFREE ∨ (s.ctx t).uid ≠ leAt b 8 8)) then
    ({ s with rng := { s.rng with jobs := s.rng.jobs ++ [j] } } : State).finishWith j NOT_OWNER
  else if load ∧ !j.winfail ∧ img.length ≠ dBody d 8 4 then
    ({ s with rng := { s.rng with jobs := s.rng.jobs ++ [j] } } : State).finishWith j LASTING_FAULT
  else s.startJob j

/-- CMD (R494, R260): a resend of a command already executed is answered with its stored completion, one still in execution not
again. -/
def execCmd (s : State) : Res :=
  .next <|
    match s.takeMsg clsCMD 1 with
    | none => s
    | some (m, s) =>
      let b := m.body
      let tag := leAt b 0 2
      if nbit (leAt b 4 1) 0 then
        if s.rng.jobs.any fun j => j.id.remote && j.id.src == m.src && j.id.ref == tag then s
        else match s.rng.answers.find? fun x => x.1 == m.src && x.2.1 == tag with
          | some x => s.sendMsg clsCPL 1 m.src x.2.2
          | none => s.cmdExec m.src b
      else s.cmdExec m.src b

/-- CMD_DATA (R495): image bytes in rising order of OFFSET; others are dropped and counted. -/
def execCmdData (s : State) : Res :=
  .next <|
    match s.takeMsg clsCMD 2 with
    | none => s
    | some (m, s) =>
      let b := m.body
      let tag := leAt b 0 2
      let ofs := leAt b 4 4
      let have_ := s.imageOf m.src tag
      if ofs ≠ 0 ∧ ofs ≠ have_.length then s.inc (BND_PFMTERR m.port)
      else
        let img := (if ofs = 0 then [] else have_) ++ b.drop 8
        let rest := s.rng.images.filter fun x => !(x.1 == m.src && x.2.1 == tag)
        { s with rng := { s.rng with images := rest ++ [(m.src, tag, img)] } }

/-- The next producer cask number that this home expects of a producer (R459). -/
def State.expected (s : State) (src uid ring : Nat) : Nat :=
  match s.rng.expect.find? fun x => x.1 == s.hubAt src && x.2.1 == uid && x.2.2.1 == ring with
  | some x => x.2.2.2
  | none => 1

/-- The completion of a STREAM_CLOSE or MARK follows the casks that its stream's hub has sent before it (R425, R448). -/
def State.followCasks (s : State) (r : RemS) (st : Nat) : State :=
  match (s.tr r.tid).cmds.find? fun c => c.slot == r.slot with
  | some c =>
    if st = OK ∧ (dOpc c.desc = 0x11 ∨ dOpc c.desc = 0x12) then
      match s.rng.charges.find? fun x => x.tid == r.tid && x.handle == dBody c.desc 0 4 with
      | some x =>
        let n := s.expected r.dst (s.ctx r.tid).uid x.ring - 1
        s.modCmd r.tid r.slot fun c => { c with after := some (r.dst, x.ring, n), afterAt := s.elapsed }
      | none => s
    else s
  | none => s

/-- CPL (R494): the outcome of a remote command of this home. -/
def execCpl (s : State) : Res :=
  .next <|
    match s.takeMsg clsCPL 1 with
    | none => s
    | some (m, s) =>
      match s.rng.rems.find? fun r => r.tag == leAt m.body 0 2 && r.dst == m.src with
      | none => s
      | some r =>
        let o := cplParse m.body
        let o := { o with retried := o.retried || (r.resent && o.status == OK) }
        let s : State := { s with rng := { s.rng with rems := s.rng.rems.filter fun x => x.tag != r.tag } }
        (((s.dropTag r.tag).followCasks r o.status).remDone r.tid r.slot o).issue r.tid

/-! Casks (R459, R470, R496, R497). -/

/-- A home serves the UID of a cask here. -/
def State.homeUid (s : State) (uid : Nat) : Bool :=
  match s.tidOf uid with
  | some t => s.homed t
  | none => false

/-- How far a producer cask number lies beyond the one expected: below 2^31 for those to come. -/
def State.pcnAhead (s : State) (src uid ring pcn : Nat) : Nat := (pcn + 2 ^ 32 - s.expected src uid ring) % 2 ^ 32

/-- The cask this home gathers for a producer's ring. -/
def State.gathering (s : State) (src uid ring : Nat) : Option GatherS :=
  s.rng.gather.find? fun g => g.src == src && g.uid == uid && g.ring == ring

/-- Sets or drops the cask gathered for a producer's ring. -/
def State.setGather (s : State) (src uid ring : Nat) (g : Option GatherS) : State :=
  { s with rng := { s.rng with
    gather := (s.rng.gather.filter fun g => !(g.src == src && g.uid == uid && g.ring == ring)) ++ g.toList } }

/-- CASK_DATA (R459, R496): records of the cask expected next are gathered; others are discarded. -/
def execCaskData (s : State) : Res :=
  .next <|
    match s.takeMsg clsCASK 1 with
    | none => s
    | some (m, s) =>
      let b := m.body
      let uid := leAt b 0 8
      let pcn := leAt b 8 4
      let ring := leAt b 12 1
      let ofs := leAt b 16 4
      if !s.homeUid uid ∨ s.pcnAhead m.src uid ring pcn ≠ 0 then s
      else
        let got := match s.gathering m.src uid ring with
          | some g => g.bytes
          | none => []
        if ofs ≠ 0 ∧ ofs ≠ got.length then (s.setGather m.src uid ring none).showCbuf
        else
          let bytes := (if ofs = 0 then [] else got) ++ b.drop 24
          (s.setGather m.src uid ring (some { port := m.port, src := m.src, uid := uid, ring := ring, pcn := pcn, bytes := bytes })).trimCasks

/-- Acknowledges a cask (R497). -/
def State.sendCaskAck (s : State) (dst uid pcn ring : Nat) : State :=
  s.sendMsg clsCASKACK 1 dst (toLe 8 uid ++ toLe 4 pcn ++ [ring, 0, 0, 0])

/-- The streams of records, in order of their first record, each with its first sequence number. -/
def firstSeqs (l : List RecS) : List (Nat × Nat) :=
  l.foldl (fun g r => if (r.kind == 1 || r.kind == 4 || r.kind == 7) && !g.any (fun x => x.1 == r.stream) then g ++ [(r.stream, r.seq)] else g) []

/-- The markers due before the records of a cask from a position that a merge has brought in (R470): for each stream it had before,
the first sequence number not accepted. -/
def State.dueMarkers (s : State) (c : CaskS) : List (Nat × Nat) :=
  match s.rng.marks.find? fun x => x.1 == c.src with
  | none => []
  | some x =>
    ((firstSeqs c.recs).filter fun y => !x.2.contains y.1).filterMap fun y =>
      match s.rng.nextOf.find? fun (z : Nat × Nat) => z.1 == y.1 with
      | some z => some (y.1, z.2)
      | none => if c.epoch ≠ s.g ROL_EPOCH then some y else none

/-- Follows the next sequence number of each stream of accepted records. -/
def nextSeqs (l : List (Nat × Nat)) (recs : List RecS) : List (Nat × Nat) :=
  recs.foldl (fun l r =>
    if r.kind = 1 ∨ r.kind = 7 then (l.filter fun x => x.1 != r.stream) ++ [(r.stream, (r.seq + (if r.kind = 7 then r.nelem else 1)) % 2 ^ 32)]
    else l) l

/-- A whole cask is accepted (R431, R459): it is held for its ring in order of acceptance, and acknowledged. -/
def State.acceptCask (s : State) (c : CaskS) : State :=
  let s := s.setGather c.src c.uid c.ring none
  let due := s.dueMarkers c
  let recs := (insertGaps due c.recs).1
  let seen := (firstSeqs c.recs).map Prod.fst
  let s : State := { s with rng := { s.rng with
    held := s.rng.held ++ [{ c with recs := recs }]
    nextOf := nextSeqs s.rng.nextOf c.recs
    marks := s.rng.marks.map fun x => if x.1 = c.src then (x.1, (x.2 ++ seen).eraseDups) else x
    expect := (s.rng.expect.filter fun x => !(x.1 == s.hubAt c.src && x.2.1 == c.uid && x.2.2.1 == c.ring)) ++
      [(s.hubAt c.src, c.uid, c.ring, (c.pcn + 1) % 2 ^ 32)] } }
  (s.trimCasks).sendCaskAck c.src c.uid c.pcn c.ring

/-- CASK_CLOSE (R459, R497): the cask expected next is accepted once whole; a copy of one already accepted is counted and
acknowledged again. -/
def execCaskClose (s : State) : Res :=
  .next <|
    match s.takeMsg clsCASK 2 with
    | none => s
    | some (m, s) =>
      let b := m.body
      let uid := leAt b 0 8
      let pcn := leAt b 8 4
      let ring := leAt b 12 1
      let ahead := s.pcnAhead m.src uid ring pcn
      if !s.homeUid uid then s
      else if 2 ^ 31 ≤ ahead then (s.inc (BND_PDUPCASK m.port)).sendCaskAck m.src uid pcn ring
      else if ahead ≠ 0 then s
      else
        let bytes := match s.gathering m.src uid ring with
          | some g => g.bytes
          | none => []
        if bytes.length ≠ leAt b 16 4 then (s.setGather m.src uid ring none).showCbuf
        else
          s.acceptCask { uid := uid, ring := ring, src := m.src, pcn := pcn, recs := parseRecs none (leAt b 20 4) bytes, close := leAt b 13 1,
                         epoch := leAt b 40 4, at_ := s.elapsed }

/-- Commands that waited for casks to be accepted complete (R425, R448). -/
def State.waitsDone (s : State) : State :=
  s.rng.jobs.foldl (fun s j =>
    match j.wait with
    | some (uid, ring, n) => if s.rng.fwd.any fun c => c.uid == uid && c.ring == ring && decide (c.pcn ≤ n) then s else s.finishWith j OK
    | none => s) s

/-- CASKACK (R459): the producer forgets the cask, and what waited for its acceptance goes on. -/
def execCaskack (s : State) : Res :=
  .next <|
    match s.takeMsg clsCASKACK 1 with
    | none => s
    | some (m, s) =>
      let b := m.body
      let s : State := { s with rng := { s.rng with
        fwd := s.rng.fwd.filter fun c => !(c.uid == leAt b 0 8 && c.ring == leAt b 12 1 && c.pcn == leAt b 8 4) } }
      let s := s.showCbuf.waitsDone
      s.ten.leases.foldl (fun s l => s.leaseSettle l.idx) s

/-- EVENT (R461, R497): the record joins its tenant's queue behind the casks up to its number. -/
def execEvent (s : State) : Res :=
  .next <|
    match s.takeMsg clsEVENT 1 with
    | none => s
    | some (m, s) =>
      let b := m.body
      let pcn := leAt b 8 4
      match s.tidOf (leAt b 0 8) with
      | some t => if s.homed t then s.queueEv t (EvRecS.parse ((b.drop 16).take 32) (if pcn = 0 then none else some (m.src, 8, pcn))) else s
      | none => s

/-! Signals (R329, R498). -/

/-- SYNC_AT_MESSAGE (R498): armed as an ARM of MSH_SYNCCTL. -/
def execSyncAtMessage (s : State) : Res :=
  .next <|
    match s.takeMsg clsSIGNAL 1 with
    | none => s
    | some (m, s) => s.mashArm (leAt m.body 0 8)

/-- GROUP_TRIGGER (R247, R498): the group's members here start, or the trigger is lost. -/
def execGroupTrigger (s : State) : Res :=
  .next <|
    match s.takeMsg clsSIGNAL 2 with
    | none => s
    | some (m, s) =>
      let b := m.body
      let uid := leAt b 0 8
      let group := leAt b 8 1
      match (if uid = 0 then some (s.tenAt m.src 0) else s.tidOf uid) with
      | some t => if s.tenActive t && !(s.members t group).isEmpty then s.triggerHere t group (leAt b 16 8) else s.inc PSC_TRIGLOST
      | none => s.inc PSC_TRIGLOST

/-- SYNC_AT (R329, R421): the instant is sent to each hub of MASK and armed here when this hub is in it. A hub without a path fails the
command with nothing sent. -/
def execSyncAt (s : State) : Res :=
  .next <| s.runJob 0x3B (fun _ => none) fun s j =>
    let ps := (List.range 16).filter (nbit (dBody j.desc 0 2))
    let at_ := dBody j.desc 8 8
    if ps.any fun p => !s.reachable p then s.finishWith j LINK_DOWN
    else
      let s := ps.foldl (fun s p => if p = s.pos then s.mashArm at_ else s.sendMsg clsSIGNAL 1 p (toLe 8 at_)) s
      s.finishWith j OK

end Sys2Proof.Machine
end

