-- ==== Sys2Proof/Machine/Servo.lean ====
section
/-! DEFINITION. Steps of CT and what they act on, the servo, and the reply of a time exchange (spec/02_combination_time_and_timers.md
R35-R41, R47; spec/08_poll_scheduler_and_transactions.md R255; spec/09_endpoints_formats_and_curves.md R298). -/
namespace Sys2Proof.Machine

/-- A step and a table switch (R298): a forward step past a PENDING SWCT takes the switch there; a backward step while the old bank
retires lowers SWCT to the CT reached, and the boundary of a retired bank follows it. -/
def State.stepSwitch (s : State) (d : Int) : State :=
  if 0 < d then (if s.sw = swPENDING ∧ s.coreRuns ∧ s.ept.swct ≤ s.ct then s.switchEffect true 0 else s)
  else
    let s : State := { s with ept := { s.ept with retired := s.ept.retired.map fun b => min b s.ct } }
    if s.sw = swRETIRING ∧ s.ct < s.ept.swct then s.setSwct s.ct else s

/-- The next instant of an entry after a backward step (R255): the first of its grid later than the new CT and than the last it
committed. A burst that has not begun keeps its first instant (R245). -/
def EntS.stepped (ct : Nat) (e : EntS) : EntS :=
  if e.kind = ekONESHOT ∨ (e.kind = ekBURST ∧ e.left = some e.count) then e
  else { e with next := e.next.map fun _ => e.gridAt (max ct (e.last.getD 0) + 1) }

/-- The schedule after a backward step. -/
def State.stepEnts (s : State) : State :=
  { s with psc := { s.psc with past := [], ents := s.psc.ents.map (EntS.stepped s.ct) } }

/-- The time-stamps that wait in the decoder's and the recognizers' queues were taken before the step (R39). -/
def State.stepQueues (s : State) (d : Int) : State :=
  let trig (t : TrigS) : TrigS := { t with past := t.past + d }
  { s with
    ept := { s.ept with queue := s.ept.queue.map fun r => { r with past := r.past + d } }
    rcg := { s.rcg with queue := s.rcg.queue.map trig, owed := s.rcg.owed.map trig } }

/-- A CT step of d nanoseconds (R38, R40): counted, recorded, announced; instants passed over are marked late. After a
backward step each stream suppresses records not later than its last (R41), and entries find their next instant anew (R255). -/
def State.stepCt (s : State) (d : Int) : State :=
  let s := if d < 0 then s.passMissed else s
  let old := s.ct
  let acc := ((s.time.acc : Int) + d * 2 ^ 32) % 2 ^ 96
  let s : State := { s with time := { s.time with acc := acc.toNat, stepSum := s.time.stepSum + d } }
  let s : State := if d < 0 then { s with rng := { s.rng with streams := s.rng.streams.map (StreamS.stepped old) } } else s
  let s : State := { s with crs := { s.crs with buses := ⟨s.crs.buses.cells.map fun x => (x.1, x.2.stepped (min old s.ct))⟩ } }
  let s := (s.stepQueues d).stepSwitch d
  let s := if d < 0 then s.stepEnts else s
  let s := (s.inc TIM_STEPCNT).f64 TIM_LASTSTEPLO TIM_LASTSTEPHI (unsigned 64 d)
  let s := s.f TIM_CTSTS_STEPPED 1
  let s := (List.range 64).foldl (State.lateCompare old s.ct) s
  let s := (List.range 16).foldl (State.lateStart old s.ct) s
  let s := if 0 < d then s.lateSync old else s
  (s.event 375 s.ct).raiseHub srcCTSTEP

/-- The servo takes an offset, given as twice the offset in picoseconds (R35). -/
def State.steer (s : State) (off2 : Int) : State :=
  let thr : Int := 2 * 10 * s.g TIM_SVCFG_LOCKTHR
  let lim : Int := 2 * 1000000 * s.g TIM_SVCFG_STEPLIM
  let a : Int := off2.natAbs
  if lim < a then
    let s := s.stepCt (off2.tdiv 2000)
    let s : State := { s with srv := { s.srv with lockRun := 0, badRun := 0 } }
    (s.f TIM_CTSTS_TRACKING 0).setCtState ctACQUIRING
  else
    let good := decide (a ≤ thr)
    let bad := decide (4 * thr < a)
    let lr := if good then min (s.srv.lockRun + 1) 16 else 0
    let br := if bad then min (s.srv.badRun + 1) 4 else 0
    let s : State := { s with srv := { s.srv with lockRun := lr, badRun := br } }
    let s := (s.trim (s.slew off2)).drew.drew
    let s := s.f TIM_CTSTS_TRACKING (b2n (decide (16 ≤ lr)))
    if s.g TIM_CTSTS_STATE = ctLOCKED then (if br = 4 then s.setCtState ctACQUIRING else s)
    else if lr = 16 then
      ({ s with srv := { s.srv with incs := s.srv.incs.take 1 } } : State).setCtState ctLOCKED
    else s.setCtState ctACQUIRING

/-- TIME_RESP (R35, R37, R47, R500): the RESP of the outstanding exchange, arriving now on port p. -/
def execTimeResp (p : Nat) (pl : List Nat) (s : State) : Res :=
  .next <|
    match s.srv.t1 with
    | none => s.timeBad p
    | some (t1, e1) =>
      if leAt pl 0 1 ≠ 2 ∨ leAt pl 4 4 ≠ lo32 e1 ∨ e1 + 10000 < s.elapsed ∨ ¬ s.on TIM_CTSTS_UPVALID ∨
          p ≠ s.g TIM_CTSTS_UPPORT then s.timeBad p
      else
        let s : State := { s with srv := { s.srv with t1 := none } }
        let up := leAt pl 1 1 % 8
        let t2 : Int := leAt pl 16 8
        let t3 : Int := leAt pl 24 8
        let d1 := t2 - t1
        let d2 := (s.ct : Int) - t3
        let off2 := (d1 - d2) * 1000 - signed 16 (s.g (TIM_BDASYM p))
        let s := s.f TIM_CTOFS (unsigned 32 (clampInt (-(2 ^ 31 - 1)) (2 ^ 31 - 1) (off2.tdiv 2)))
        if up = ctHOLDOVER ∨ up = ctUNSET then s.loseUpstream
        else if leAt pl 8 4 ≠ s.g ROL_EPOCH then s
        else if up = ctLOCKED ∨ up = ctREFERENCE then
          let s : State := { s with srv := { s.srv with
            lastGood := s.elapsed, delays := ((d1 + d2).tdiv 2 :: s.srv.delays).take 1024 } }
          let s := s.steer off2
          if s.g TIM_CTSTS_STATE = ctLOCKED then
            (s.f TIM_CTSTS_UTC_VALID (leAt pl 2 1 % 2)).f64 TIM_UTCOFSLO TIM_UTCOFSHI (leAt pl 32 8)
          else s
        else s

end Sys2Proof.Machine
end

