-- ==== Sys2Proof/Machine/Rol.lean ====
section
/-! DEFINITION. Elections: offers, reports, the leader's decision, the adoption of a directory, splits and holds
(spec/16_roles_splits_and_recoupling.md R504-R520, R523-R528). -/
namespace Sys2Proof.Machine

/-! Layouts (R509, R514). -/

/-- A candidacy from the body of an OFFER. -/
def candOf (b : List Nat) : CandS :=
  { capable := nbit (leAt b 0 1) 0, rank := leAt b 1 1, old := leAt b 2 1, epoch := leAt b 4 4, hubid := leAt b 8 8, combid := leAt b 16 8 }

/-- The bytes of a REPORT entry. -/
def RepS.bytes (e : RepS) : List Nat :=
  toLe 8 e.hubid ++ toLe 8 e.parent ++ toLe 8 e.combid ++ toLe 4 e.bootcnt ++ toLe 4 e.gen ++ [e.rank, e.flags, e.old, e.ports, e.hops, 0, 0, 0]

/-- A REPORT entry from its bytes. -/
def repOf (b : List Nat) : RepS :=
  { hubid := leAt b 0 8, parent := leAt b 8 8, combid := leAt b 16 8, bootcnt := leAt b 24 4, gen := leAt b 28 4, rank := leAt b 32 1,
    flags := leAt b 33 1, old := leAt b 34 1, ports := leAt b 35 1, hops := leAt b 36 1 }

/-- The bytes of a directory entry. -/
def DirS.bytes (e : DirS) : List Nat :=
  [e.pos, e.flags, e.parent, e.cport + 4 * e.pport, e.rank, 0, 0, 0] ++ toLe 8 e.hubid ++ toLe 4 e.bootcnt ++ toLe 4 e.gen ++ List.replicate 8 0

/-- A directory entry from its bytes. -/
def dirOf (b : List Nat) : DirS :=
  { pos := leAt b 0 1 % 16, flags := leAt b 1 1, parent := leAt b 2 1 % 16, cport := leAt b 3 1 % 4, pport := leAt b 3 1 / 4 % 4,
    rank := leAt b 4 1, hubid := leAt b 8 8, bootcnt := leAt b 16 4, gen := leAt b 20 4 }

/-- Every entry of `n` bytes in a list of `count`. -/
def entriesOf (n count : Nat) (b : List Nat) : List (List Nat) := (List.range count).map fun k => (b.drop (n * k)).take n

/-! The round (R508, R510). -/

/-- Changes the round in progress. -/
def State.modRound (s : State) (f : RoundS → RoundS) : State := { s with rol := { s.rol with cur := s.rol.cur.map f } }

/-- An offered candidate with its hops is adopted (R510 step 2). -/
def RoundS.takes (r : RoundS) (c : CandS) (hops rootport p : Nat) : Bool :=
  if c.hubid ≠ r.best.hubid then c.beats r.best
  else match r.parent with
    | none => false
    | some q =>
      decide (hops + 1 < r.hops) || (hops + 1 == r.hops && (decide (rootport < r.rootport) || (rootport == r.rootport && decide (p < q))))

/-- A candidate is adopted: the parent is told, and the offer passed on (R510 step 2). -/
def State.adoptCand (s : State) (p n : Nat) (c : CandS) (hops rootport : Nat) : State :=
  let old := s.rol.cur.bind fun r => r.parent
  let s := s.modRound fun r => { r with
    best := c, parent := some p, hops := hops + 1, rootport := rootport, last := s.elapsed, reported := false }
  let s := s.sendElect p 2 n []
  let s := match old with
    | some q => if q = p then s else s.sendElect q 3 n []
    | none => s
  (s.roundPorts.filter fun q => q != p).foldl (fun s q => s.sendElect q 1 n (c.offer (hops + 1) rootport)) s

/-- Acts on the next ELECT message when it has a TYPE, with its port, round and body: never below the highest round seen (R509), and only
from a port that takes part in rounds (R508). While the housekeeping cores restart it waits (R531). -/
def State.onElect (s : State) (ty : Nat) (f : State → Nat → Nat → List Nat → State) : State :=
  if !s.hkRuns then s
  else match s.takeMsg clsELECT ty with
    | none => s
    | some (m, s) =>
      if leAt m.bytes 4 4 < s.rol.round ∨ !s.roundPorts.contains m.port then s else f s m.port (leAt m.bytes 4 4) (m.bytes.drop 8)

/-- OFFER (R508, R510): a higher round is joined; a better candidate is adopted. -/
def execOffer (s : State) : Res :=
  .next <| s.onElect 1 fun s p n b =>
    let s := if s.rol.round < n then s.enterRound n else s
    let c := candOf b
    let s := s.modRound fun r => { r with epochs := (r.epochs.filter fun x => x.1 != c.hubid) ++ [(c.hubid, c.epoch)] }
    match s.rol.cur with
    | none => s
    | some r => if r.takes c (leAt b 24 1) (leAt b 25 1 % 4) p then s.adoptCand p n c (leAt b 24 1) (leAt b 25 1 % 4) else s

/-- The message belongs to the running round. -/
def State.inRound (s : State) (n : Nat) : Bool := n == s.rol.round && s.rol.cur.isSome

/-- ATTACH (R507, R510): a child; after the REPORT, or after the round has ended here, it starts a new round. -/
def execAttach (s : State) : Res :=
  .next <| s.onElect 2 fun s p n _ =>
    if s.rol.round < n then s
    else match s.rol.cur with
      | none => s.startRound
      | some r =>
        if r.reported ∨ r.adopted then s.startRound
        else s.modRound fun r => { r with children := (r.children.filter fun c => c.port != p) ++ [{ port := p }], last := s.elapsed }

/-- DETACH (R510): a child no more. -/
def execDetach (s : State) : Res :=
  .next <| s.onElect 3 fun s p n _ =>
    if !s.inRound n then s
    else s.modRound fun r => { r with children := r.children.filter fun c => c.port != p, last := s.elapsed }

/-- REPORT (R510): a child's subtree. -/
def execReport (s : State) : Res :=
  .next <| s.onElect 4 fun s p n b =>
    if !s.inRound n then s
    else
      let l := (entriesOf 40 (min 16 (leAt b 0 1)) (b.drop 8)).map repOf
      s.modRound fun r => { r with children := r.children.map fun c => if c.port = p then { c with report := some l } else c }

/-- The hub's own entry (R509): its parent's identity and the ports of the link between them. -/
def State.ownRep (s : State) (r : RoundS) : RepS :=
  let up := match r.parent with
    | some p => (s.port p).peer
    | none => { hubid := s.hubid }
  { hubid := s.hubid, parent := up.hubid, combid := r.own.combid, bootcnt := s.g ROL_BOOTCNT, gen := s.g ROL_GEN, rank := r.own.rank,
    flags := b2n s.sys.hostLink + 2 * b2n r.own.capable, old := r.own.old,
    ports := r.parent.getD 0 + 4 * up.port + 16 * r.rootport, hops := r.hops }

/-- The entries of the children's REPORTs. -/
def RoundS.reports (r : RoundS) : List RepS := (r.children.map fun c => c.report.getD []).flatten

/-! The leader's decision (R512, R515, R519, R520). -/

/-- A hub is of the leader's combination (R512). -/
def ofComb (own : CandS) (e : RepS) : Bool := !(own.capable && own.combid == 0) && e.combid == own.combid

/-- The order of R22: hops, then the leader's port, then identity. -/
def repBefore (a b : RepS) : Bool :=
  decide (a.hops < b.hops) || (a.hops == b.hops &&
    (decide (a.ports / 16 % 4 < b.ports / 16 % 4) || (a.ports / 16 % 4 == b.ports / 16 % 4 && decide (a.hubid < b.hubid))))

/-- An entry takes its place in the order of R22. -/
def repInsert (e : RepS) : List RepS → List RepS
  | [] => [e]
  | a :: t => if repBefore e a then e :: a :: t else a :: repInsert e t

/-- Positions under a keystone (R515, R22): the first sixteen in order. -/
def posKeystone (l : List RepS) : List (RepS × Nat) := ((l.foldr repInsert []).take 16).zipIdx

/-- The lowest position not taken. -/
def freePos (l : List (RepS × Nat)) : Nat := ((List.range 17).find? fun p => !l.any fun x => x.2 == p).getD 16

/-- Positions under an acting keystone (R515): its own combination stays, the others take the lowest left free. -/
def posActing (own : CandS) (l : List RepS) : List (RepS × Nat) :=
  let keep := l.foldl (fun a e => if ofComb own e && decide (e.old < 16) && !(a.any fun (x : RepS × Nat) => x.2 == e.old) then a ++ [(e, e.old)] else a) []
  let rest := (l.filter fun e => !keep.any fun (x : RepS × Nat) => x.1.hubid == e.hubid).foldr repInsert []
  rest.foldl (fun a e => if freePos a < 16 then a ++ [(e, freePos a)] else a) keep

/-- The position of a hub in an assignment. -/
def posIn (l : List (RepS × Nat)) (hubid : Nat) : Nat :=
  match l.find? fun x => x.1.hubid == hubid with
  | some x => x.2
  | none => 0

/-- A hub was QUARANTINED in the directory before. -/
def State.wasQuar (s : State) (hubid : Nat) : Bool := s.rol.dir.any fun e => e.hubid == hubid && nbit e.flags 2

/-- The leader holds a hub to be QUARANTINED under its directory (R520); a leader that is QUARANTINED itself stays so. -/
def State.quarsHub (s : State) (own : CandS) (combgen : Nat) (e : RepS) : Bool :=
  if e.hubid = own.hubid then s.on ROL_STS_QUAR else !ofComb own e || (own.capable && e.gen != combgen) || s.wasQuar e.hubid

/-- The directory of an assignment (R514). -/
def State.makeDir (s : State) (own : CandS) (combgen : Nat) (l : List (RepS × Nat)) : List DirS :=
  l.map fun x =>
    { pos := x.2, flags := x.1.flags % 4 + 4 * b2n (s.quarsHub own combgen x.1), parent := posIn l x.1.parent, cport := x.1.ports % 4,
      pport := x.1.ports / 4 % 4, rank := x.1.rank, hubid := x.1.hubid, bootcnt := x.1.bootcnt, gen := x.1.gen }

/-- The new epoch (R19): one more than the highest epoch of the hubs taking part. Candidacies offered to this hub carry theirs; the
epochs of the other hubs reported reach it in no message, so their maximum is a free value. -/
def State.newEpoch (s : State) (r : RoundS) : Nat :=
  let far := r.reports.any fun e => !r.epochs.any fun (x : Nat × Nat) => x.1 == e.hubid
  let known := r.epochs.foldl (fun m (x : Nat × Nat) => max m x.2) (s.g ROL_EPOCH)
  min (1 + max known (if far then s.fresh % 2 ^ 32 else 0)) (2 ^ 32 - 1)

/-- A random combination identity, never zero (R18). -/
def State.newComb (s : State) : Nat := 1 + s.fresh % (2 ^ 64 - 1)

/-- The leader's COMBID, COMBGEN and CT (R512). -/
def State.leadTime (s : State) (r : RoundS) (alone : Bool) : State × Nat × Nat :=
  if r.own.capable then
    if r.ctState = ctREFERENCE then (s, r.own.combid, s.rol.combgen)
    else if r.own.combid = 0 then
      let c := s.newComb
      ((s.drew.stepCt (-(s.ct : Int))).setCtState ctREFERENCE, c, 0)
    else
      let c := s.newComb
      (s.drew.setCtState ctREFERENCE, c, s.g ROL_GEN)
  else
    let st := s.g TIM_CTSTS_STATE
    let s := if st = ctHOLDOVER ∨ (alone ∧ st = ctUNSET) then s else s.enterHoldover
    (s, r.own.combid, 0)

/-! Adoption (R513, R516, R519, R520, R527, R528). -/

/-- ROL_POSMAP follows the directory. -/
def State.showDir (s : State) : State :=
  let bit := fun (l : List DirS) => l.foldl (fun n e => n + 2 ^ e.pos) 0
  (s.f ROL_POSMAP_PRESENT (bit s.rol.dir)).f ROL_POSMAP_QUAR (bit (s.rol.dir.filter fun e => nbit e.flags 2))

/-- A hub whose position changes ends what it holds (R516). -/
def State.endHoldings (s : State) : State :=
  let s := s.closeStreams clFLUSH s.rng.streams
  let s := s.psc.ents.foldl (fun s e => s.destroyEnt e.idx) s
  let s := s.rcg.insts.foldl (fun s x => s.endInst x.1) s
  s.endLeases 4 s.ten.leases

/-- Charges for streams of hubs that have left their position are released with them (R516). -/
def State.dropCharges (s : State) (old new : List DirS) : State :=
  let moved := fun (p : Nat) => old.any fun a => a.pos == p && new.any fun b => (b.pos == p && b.hubid != a.hubid) || (b.hubid == a.hubid && b.pos != p)
  { s with rng := { s.rng with charges := s.rng.charges.filter fun c => !(decide (c.handle < 2 ^ 21) && moved (c.handle / 131072)) } }

/-- Messages and casks held until the next directory or generation go (R460, R492). -/
def State.releaseHeld (s : State) : State :=
  let l := s.rol.stale.filter fun x => x.held
  let s : State := { s with rol := { s.rol with stale := s.rol.stale.filter fun x => !x.held } }
  let s := l.foldl (fun s x => s.sendMsg x.cls x.ty x.dst x.body) s
  let open3 := fun (c : CaskS) => if c.block = 3 then { c with block := 0, sent := 0, closing := false } else c
  let s : State := { s with rng := { s.rng with fwd := s.rng.fwd.map open3, open_ := s.rng.open_.map open3 } }
  s.flushFwd.flushEvHeld

/-- What every hub does at the end of an adoption: the ROLE record and source (R513), and what waits for other hubs is sent again
(R528). -/
def State.adoptTail (s : State) : State :=
  let s := if s.sys.host then s.routeEv 0 s.pos (s.mkEv evHUB 2 s.ct (s.g ROL_STS_ROLE) (s.g ROL_EPOCH) 0 0) else s
  ((s.raiseHub srcROLE).noteIso).resendFwd.releaseHeld

/-- Adoption by a hub that the directory leaves without a position (R512, R515). -/
def State.adoptNone (s : State) : State :=
  let s := if s.myPos.isSome then s.endHoldings else s
  let s : State := { s with rol := { s.rol with prev := s.rol.dir, dir := [], combgen := 0, prepared := none } }
  let s := ((s.f ROL_STS_ROLE roleISOLATED).zero [ROL_STS_POSVALID, ROL_STS_POS, ROL_COMBGEN, TIM_CTSTS_UPVALID, TIM_CTSTS_UPPORT]).showDir
  (if s.g TIM_CTSTS_STATE = ctHOLDOVER then s else s.enterHoldover).newReference.adoptTail

/-- Which hubs are new beside those of the directory before (R527). -/
def newHubs (old new : List DirS) : List DirS := new.filter fun e => !old.any fun a => a.hubid == e.hubid

/-- The hub's own quarantine under a directory led by another (R520). -/
def State.adoptQuar (s : State) (r : RoundS) (combgen lrole : Nat) : State :=
  let mine := !(lrole == roleKEYSTONE && r.best.combid == 0) && r.own.combid == r.best.combid
  let s := if !mine || (lrole == roleKEYSTONE && s.g ROL_GEN != combgen) then s.f ROL_STS_QUAR 1 else s
  let s : State := { s with rol := { s.rol with combgen := 0 } }
  if r.role = roleKEYSTONE ∧ !mine then { s with ten := { s.ten with binds := [] } } else s

/-- The hub's time and role under a directory (R32, R34, R512). The path delays measured on another upstream port go. -/
def State.adoptRole (s : State) (r : RoundS) (lrole : Nat) (lead : Bool) : State :=
  if lead then (s.f ROL_STS_ROLE lrole).zero [TIM_CTSTS_UPVALID, TIM_CTSTS_UPPORT]
  else
    let p := r.parent.getD 0
    let s : State := if s.isUpstream p then s else { s with srv := { s.srv with delays := [], t1 := none } }
    let s := ((s.f ROL_STS_ROLE roleMEMBER).f TIM_CTSTS_UPVALID 1).f TIM_CTSTS_UPPORT p
    if s.g TIM_CTSTS_STATE = ctREFERENCE then s.enterHoldover else s

/-- Positions whose boot count differs from the one before (ROL_NEWBOOT). -/
def State.newBoots (s : State) : State :=
  s.rol.dir.foldl (fun s e =>
    if s.rol.prev.any fun a => a.hubid == e.hubid && a.bootcnt != e.bootcnt then s.f ⟨ROL_NEWBOOT.off, e.pos, e.pos⟩ 1 else s) s

/-- Adoption of a directory that holds this hub (R513). -/
def State.adoptSome (s : State) (r : RoundS) (comb combgen lrole : Nat) (ents : List DirS) (e : DirS) (lead : Bool) : State :=
  let old := s.rol.dir
  let fresh := (newHubs old ents).filter fun x => x.hubid != s.hubid
  let leader := fun (l : List DirS) => (l.find? fun x => x.parent == x.pos).map DirS.hubid
  let s := s.dropCharges old ents
  let s : State := { s with
    rol := { s.rol with
      prev := old, dir := ents, lrole := lrole, defs := [], binds := [], cutXfer := false, prepared := none
      answers := if leader old = leader ents then s.rol.answers else [] }
    rng := { s.rng with marks := (s.rng.marks.filter fun x => !fresh.any fun y => y.pos == x.1) ++ fresh.map fun y => (y.pos, []) } }
  let s := if leader old = leader ents then s else s.newReference
  let s := (s.f64 ROL_COMBIDLO ROL_COMBIDHI comb).adoptRole r lrole lead
  let s := if lead then s else s.adoptQuar r combgen lrole
  let s := if r.own.old ≠ e.pos then s.endHoldings else s
  let s := (s.f ROL_STS_POSVALID 1).f ROL_STS_POS e.pos
  let s := (s.f ROL_COMBGEN (if lead && lrole == roleKEYSTONE then combgen else 0)).showDir
  (if lead && lrole == roleKEYSTONE then s.newBoots else s).adoptTail

/-- The peers in session adopt the same epoch in the round (R507: what either end has adopted since a link entered HOLD). -/
def State.peersAdopt (s : State) (epoch : Nat) : State :=
  s.roundPorts.foldl (fun s p => s.setPort p { s.port p with peer := { (s.port p).peer with epoch := epoch } }) s

/-- A directory is adopted (R513). -/
def State.adoptDir (s : State) (r : RoundS) (comb epoch combgen lrole : Nat) (ents : List DirS) (lead : Bool) : State :=
  let s := (s.f ROL_EPOCH epoch).peersAdopt epoch
  let s := s.modRound fun r => { r with adopted := true }
  let s : State := { s with rol := { s.rol with capable := r.own.capable } }
  (match ents.find? fun (e : DirS) => e.hubid == s.hubid with
    | some e => s.adoptSome r comb combgen lrole ents e lead
    | none => s.adoptNone).recheckInbox

/-- The body of a DIRECTORY (R509). -/
def dirBody (comb epoch combgen leader lrole : Nat) (ents : List DirS) : List Nat :=
  toLe 8 comb ++ toLe 4 epoch ++ toLe 4 combgen ++ [leader, lrole, ents.length, 0, 0, 0, 0, 0] ++ (ents.map DirS.bytes).flatten

/-- The round ends at its leader (R510 step 6): counted; state transfers follow (R521). -/
def State.endLead (s : State) : State :=
  let s := (s.f ROL_STS_ELECTING 0).inc ROL_ELECTS
  let due := s.g ROL_STS_ROLE == roleKEYSTONE && s.rol.dir.any fun e => nbit e.flags 2
  { s with rol := { s.rol with cur := none, xferAt := if due then some s.elapsed else none } }

/-- The leader's directory brings in a hub that did not share one directory with it before (R527): one that its directory did not list, or
that comes from no directory or from another combination. -/
def State.merges (s : State) (own : CandS) (asg : List (RepS × Nat)) : Bool :=
  asg.any fun x => x.1.hubid != own.hubid && (!s.rol.dir.any (fun a => a.hubid == x.1.hubid) || x.1.old == 16 || x.1.combid != own.combid)

/-- The epochs, roles and positions that the leader decides (R510 step 4). -/
def State.lead (s : State) (r : RoundS) : State :=
  let alone := s.activePorts.isEmpty
  let all := s.ownRep r :: r.reports
  let asg := if r.own.capable then posKeystone all else posActing r.own all
  let lrole := if alone then roleISOLATED else if r.own.capable then roleKEYSTONE else roleACTING
  let epoch := s.newEpoch r
  let s := s.drew
  let (s, comb, combgen) := s.leadTime r alone
  let ents := s.makeDir r.own combgen asg
  let quars := (ents.filter fun e => nbit e.flags 2 && !s.wasQuar e.hubid && e.hubid != s.hubid).length
  let s := if s.merges r.own asg then s.inc ROL_MERGES else s
  let s := if r.own.capable then s.incBy ROL_QUARS quars else s
  let s := s.incBy ROL_REFUSED (all.length - asg.length)
  let s : State := { s with rol := { s.rol with combgen := if r.own.capable then combgen else s.rol.combgen, xfers := [] } }
  let body := dirBody comb epoch combgen (posIn asg s.hubid) lrole ents
  let s := r.children.foldl (fun s c => s.sendElect c.port 5 s.rol.round body) s
  let s := s.adoptDir r comb epoch combgen lrole ents true
  if r.children.isEmpty then s.endLead else s

/-- SETTLE_EXPIRY (R510 steps 3 and 4): 1 ms after the last change, with a REPORT from every child. -/
def execSettleExpiry (s : State) : Res :=
  .next <|
    match s.rol.cur with
    | none => s
    | some r =>
      if !s.hkRuns ∨ r.reported ∨ r.adopted ∨ s.elapsed < r.last + 1000000 ∨ !r.children.all (fun c => c.report.isSome) then s
      else match r.parent with
        | none => s.lead r
        | some p =>
          -- the spec does not say which entries a REPORT keeps beyond 16: here the nearest in the order of the children
          let l := (s.ownRep r :: r.reports).take 16
          let s := s.modRound fun r => { r with reported := true }
          s.sendElect p 4 s.rol.round ([l.length, 0, 0, 0, 0, 0, 0, 0] ++ (l.map RepS.bytes).flatten)

/-- The hub's part of the round has ended below the leader: DIRACK goes up (R510 step 5). -/
def State.ackUp (s : State) (r : RoundS) : State :=
  let s := s.sendElect (r.parent.getD 0) 6 s.rol.round (toLe 4 (s.g ROL_EPOCH) ++ [0, 0, 0, 0])
  let s := s.f ROL_STS_ELECTING 0
  { s with rol := { s.rol with cur := none } }

/-- DIRECTORY (R510 step 5, R513): adopted and passed to the children. -/
def execDirectory (s : State) : Res :=
  .next <| s.onElect 5 fun s p n b =>
    match s.rol.cur with
    | none => s
    | some r =>
      if n ≠ s.rol.round ∨ r.parent ≠ some p ∨ r.adopted = true then s
      else
        let ents := (entriesOf 32 (min 16 (leAt b 18 1)) (b.drop 24)).map dirOf
        let s := s.adoptDir r (leAt b 0 8) (leAt b 8 4) (leAt b 12 4) (leAt b 17 1) ents false
        let s := r.children.foldl (fun s c => s.sendElect c.port 5 n b) s
        if r.children.isEmpty then s.ackUp r else s

/-- DIRACK (R510 steps 5 and 6). -/
def execDirack (s : State) : Res :=
  .next <| s.onElect 6 fun s p n b =>
    if !s.inRound n ∨ leAt b 0 4 ≠ s.g ROL_EPOCH then s
    else
      let s := s.modRound fun r => { r with children := r.children.map fun c => if c.port = p then { c with acked := true } else c }
      match s.rol.cur with
      | none => s
      | some r =>
        if !r.adopted ∨ !r.children.all (fun c => c.acked) then s
        else if r.parent.isNone then s.endLead else s.ackUp r

/-! What starts a round (R507). -/

/-- A hub in shed stage 4, WATCH or HIBERNATE starts no round (R524). -/
def State.mayElect (s : State) : Bool := !s.watchRuns

/-- HOST_LINK_UP (R507, R542, R596, R636): from stage CORES on, while the host interface is powered; HOSTWAKE_N and PE_WAKE_N are negated; each target with a selected source is announced; a ranked hub that is ISOLATED, acting or led by an acting
keystone starts a round. -/
def execHostLinkUp (s : State) : Res :=
  .next <|
    if s.sys.hostLink ∨ s.g BOOT_STS_STAGE < 4 ∨ !s.sys.pmicEn then s
    else
      let s : State := { s with sys := { s.sys with hostLink := true, host := true, l2 := false, hostWake := false, peWake := false, isoAt := none } }
      let s := (s.f CLK_STS_REFCLKOK 1).showCapable
      let s := s.announceAll
      let role := s.g ROL_STS_ROLE
      if s.on ROL_CFG_RANK && s.mayElect && (role == roleISOLATED || role == roleACTING || (role == roleMEMBER && s.rol.lrole == roleACTING)) then
        s.startRound
      else s

/-- A port's link is a tree link of the present directory (R517). -/
def State.treeLink (s : State) (p : Nat) : Bool :=
  match s.myPos with
  | none => false
  | some me => s.rol.dir.any fun e => (e.pos == me && e.parent != me && e.cport == p) || (e.parent == me && e.pos != me && e.pport == p)

/-- SPLIT_HOLD_EXPIRY (R523 step 2). -/
def execSplitHoldExpiry (p : Nat) (s : State) : Res :=
  .next <|
    let q := s.port p
    match q.holdAt with
    | some t =>
      if s.g (BND_PSTS_STATE p) = bsHOLD ∧ !q.splitDone ∧ t + 1000000 * q.splitMs ≤ s.elapsed ∧ s.treeLink p ∧ s.mayElect then
        ((s.setPort p { q with splitDone := true }).inc ROL_SPLITS).startRound
      else s
    | none => s

/-- RETRY_HOLD_EXPIRY (R523 step 3, R524): the held session is discarded; a DORMANT port starts a round. -/
def execRetryHoldExpiry (p : Nat) (s : State) : Res :=
  .next <|
    let q := s.port p
    match q.holdAt, q.dormantAt with
    | some t, _ =>
      if s.g (BND_PSTS_STATE p) = bsHOLD ∧ t + 1000000 * q.retryMs ≤ s.elapsed then
        let s := s.abandonHold p
        if q.step = 5 then s.startHello p else s
      else s
    | none, some t =>
      if t + 1000000 * q.retryMs ≤ s.elapsed ∧ s.mayElect then (s.setPort p { q with dormantAt := none }).startRound else s
    | none, none => s

/-- A write of ROL_CTL (R534). -/
def State.rolCtlWrite (s : State) (v : Word) : State :=
  let s := if wbit v 1 then s.zero [ROL_ELECTS, ROL_SPLITS, ROL_MERGES, ROL_REFUSED, ROL_QUARS, ROL_RESUMES, ROL_ABANDONS] else s
  if wbit v 0 then
    if s.g ROL_STS_ROLE ≠ roleKEYSTONE ∧ s.g ROL_STS_ROLE ≠ roleISOLATED then s.discard rROL_CTL 0 0 ROLE_FORBIDDEN
    else if s.mayElect then s.startRound
    else s
  else s

/-- REELECT (R507): REELECT of ROL_CTL. -/
def execReelect (s : State) : Res := .next (s.barWrite rROL_CTL 0 0 1 fun s => s.rolCtlWrite 1)

/-- ROL_COUNTER_CLR (R534): CLR of ROL_CTL. -/
def execRolCounterClr (s : State) : Res := .next (s.barWrite rROL_CTL 0 0 2 fun s => s.rolCtlWrite 2)

/-- A write of ROL_DIRIDX loads an entry. -/
def State.dirIdxWrite (s : State) (p : Nat) : State :=
  let b := match s.dirEnt p with
    | some e => e.bytes
    | none => []
  (List.range 8).foldl (fun s k => s.f (ROL_DIRD k) (leAt b (4 * k) 4)) s

/-- DIRECTORY_ENTRY_LOAD (R514). -/
def execDirectoryEntryLoad (p : Nat) (s : State) : Res :=
  .next (s.barWrite rROL_DIRIDX 0 0 (Word.ofNat (p % 16)) fun s => s.dirIdxWrite p)

end Sys2Proof.Machine
end

