-- ==== Sys2Proof/Machine/Cfg.lean ====
section
/-! DEFINITION. CONFIG messages, state transfer, remote set-up and rejections (spec/16_roles_splits_and_recoupling.md R518-R522, R529;
spec/15_bond_links.md R492; spec/14_ordering_and_recovery.md R460, R470). -/
namespace Sys2Proof.Machine

/-! Requests (R522). -/

/-- A position is that of the KEYSTONE that leads the directory. -/
def State.fromLeader (s : State) (p : Nat) : Bool :=
  s.rol.lrole == roleKEYSTONE && s.rol.dir.any fun e => e.pos == p && e.parent == e.pos

/-- A request whose answer waits for the end of a tenant here. -/
def State.cfgRunning (s : State) (src tag : Nat) : Bool :=
  (s.rng.rings.cells.any fun r => match r.2.ending with
    | some e => e.ack == some (src, tag)
    | none => false) || s.mem.waits.any fun w => w.who == some (src, tag)

/-- Takes a CONFIG request of a TYPE: from a KEYSTONE alone, each TAG once; a repeated one is answered as before. -/
def State.cfgRequest (s : State) (ty : Nat) (f : State → Nat → Nat → List Nat → State) : State :=
  match s.takeMsg clsCONFIG ty with
  | none => s
  | some (m, s) =>
    let tag := leAt m.body 0 2
    if !s.fromLeader m.src then s.sendReject m.src ROLE_FORBIDDEN clsCONFIG ty 0
    else match s.rol.answers.find? fun a => a.1 == m.src && a.2.1 == tag with
      | some a => s.sendMsg clsCONFIG a.2.2.1 m.src a.2.2.2
      | none => if s.cfgRunning m.src tag then s else f s m.src tag (m.body.drop 4)

/-- Answers with a status. -/
def State.cfgStatus (s : State) (dst tag ty st : Nat) : State := s.cfgAnswer dst tag ty [st, 0, 0, 0]

/-- PREPARE (R522): the item is held unapplied, or refused. -/
def execPrepare (s : State) : Res :=
  .next <| s.cfgRequest cfPREPARE fun s src tag b =>
    let kind := leAt b 0 1
    let item := b.drop 8
    if kind = 0 ∨ 4 < kind then s.cfgStatus src tag cfPREPARED RESERVED_NONZERO
    else match s.itemRefused kind item with
      | some c => s.cfgStatus src tag cfPREPARED c
      | none =>
        ({ s with rol := { s.rol with prepared := some (src, kind, leAt b 4 4, item) } } : State).cfgStatus src tag cfPREPARED OK

/-- CONFIG_COMMIT (R522): the prepared item applies and GEN takes NEWGEN; the answer waits where a home must first end its tenant. -/
def execConfigCommit (s : State) : Res :=
  .next <| s.cfgRequest cfCOMMIT fun s src tag _ =>
    match s.rol.prepared with
    | none => s.cfgStatus src tag cfACK NOT_IN_STATE
    | some (_, kind, gen, item) =>
      let s : State := { s with rol := { s.rol with prepared := none, cutXfer := false } }
      let (s, later) := (s.newGen gen).applyItem kind item (some (src, tag))
      (if later then s else s.cfgStatus src tag cfACK OK).releaseHeld

/-- WITHDRAW (R522). -/
def execWithdraw (s : State) : Res :=
  .next <| s.cfgRequest cfWITHDRAW fun s src tag _ =>
    ({ s with rol := { s.rol with prepared := none } } : State).cfgStatus src tag cfACK OK

/-- STATE (R521 step 1, R522): items are gathered for GENSET; definitions after bindings begin a transfer anew. What remains of a transfer
that was abandoned is not answered (R531). -/
def execState (s : State) : Res :=
  .next <| s.cfgRequest cfSTATE fun s src tag b =>
    let kind := leAt b 0 1
    let n := leAt b 2 2
    if s.rol.cutXfer then s
    else if kind = 1 then
      let old := if s.rol.binds.isEmpty then s.rol.defs else []
      ({ s with rol := { s.rol with defs := old ++ entriesOf 64 n (b.drop 4), binds := [] } } : State).cfgStatus src tag cfACK OK
    else if kind = 2 then
      ({ s with rol := { s.rol with binds := s.rol.binds ++ entriesOf 24 n (b.drop 4) } } : State).cfgStatus src tag cfACK OK
    else s.cfgStatus src tag cfACK RESERVED_NONZERO

/-! The state transfer at the hub that receives it (R470, R521). -/

/-- A definition matches a context by TID and UID. -/
def defMatches (t : Nat) (c : CtxS) (b : List Nat) : Bool := leAt b 0 2 == t && leAt b 8 8 == c.uid

/-- Casks whose tenant's UID is gone are discarded and counted; those whose home is now another hub are forwarded (R470). -/
def State.resolveCasks (s : State) : State :=
  let gone := fun (uid : Nat) => (s.tidOf uid).isNone
  let l := (s.rng.open_ ++ s.rng.fwd ++ s.rng.held).filter fun c => gone c.uid
  let s := l.foldl State.countLost s
  let keep := fun (c : CaskS) => !gone c.uid
  let away := fun (c : CaskS) => match s.tidOf c.uid with
    | some t => !s.homed t
    | none => false
  let move := s.rng.held.filter fun c => keep c && away c
  let s : State := { s with rng := { s.rng with
    open_ := s.rng.open_.filter keep
    fwd := s.rng.fwd.filter keep
    held := s.rng.held.filter fun c => keep c && !away c
    loss := s.rng.loss.filter fun x => !gone x.uid
    evHeld := s.rng.evHeld.filter fun x => !gone x.1 } }
  (move.foldl (fun s c =>
    let n := s.nextPcn c.uid c.ring
    { s with rng := { s.rng with
      fwd := s.rng.fwd ++ [{ c with pcn := n, cseq := none, sent := 0, closing := false, block := 0 }]
      pcns := (s.rng.pcns.filter fun x => !(x.1 == c.uid && x.2.1 == c.ring)) ++ [(c.uid, c.ring, n)] } }) s).showCbuf

/-- Step 2 of R521: contexts, bindings and leases take the form that the transfer gives. -/
def State.applyTransfer (s : State) : State :=
  let defs := s.rol.defs
  let drop := s.ten.ctx.cells.filter fun c => c.1 != 0 && c.2.state != ctxFREE && !defs.any (defMatches c.1 c.2)
  let s := drop.foldl (fun s c => (s.tenantEnds c.1).freeRest c.1 false true) s
  let s := defs.foldl State.applyDef s
  let s : State := { s with ten := { s.ten with binds := s.rol.binds.map bindOf } }
  let s := s.heldNodes.foldl State.bindNode s
  let s := s.rebind s.ept.recs.cells
  let s := s.endLeases 4 (s.ten.leases.filter fun l => !s.tenActive l.grantor || !s.tenActive l.grantee)
  s.resolveCasks

/-- GENSET (R521 steps 2 and 3): the transfer applies, GEN is taken, and the hub leaves quarantine. -/
def execGenset (s : State) : Res :=
  .next <| s.cfgRequest cfGENSET fun s src tag b =>
    if s.rol.cutXfer then s else
    let s := s.applyTransfer
    let s : State := { s with rol := { s.rol with defs := [], binds := [] } }
    let s := (s.f ROL_GEN (leAt b 0 4)).cfgAnswer src tag cfGENACK (toLe 4 (leAt b 0 4))
    ((s.f ROL_STS_QUAR 0).resendFwd).releaseHeld

/-! The keystone's side (R377, R521, R522, R529). -/

/-- Takes an answer of a TYPE for an outstanding request of one of the kinds given; one that matches none is counted. -/
def State.cfgReply (s : State) (ty : Nat) (asks : List Nat) (f : State → CfgReqS → List Nat → State) : State :=
  match s.takeMsg clsCONFIG ty with
  | none => s
  | some (m, s) =>
    match s.rol.reqs.find? fun r => r.tag == leAt m.body 0 2 && r.dst == m.src && asks.contains r.ty with
    | none => s.inc (BND_PFMTERR m.port)
    | some r => f { s with rol := { s.rol with reqs := s.rol.reqs.filter fun x => x.tag != r.tag } } r (m.body.drop 4)

/-- PREPARED (R377, R522). -/
def execPrepared (s : State) : Res :=
  .next <| s.cfgReply cfPREPARED [cfPREPARE] fun s r b => s.distPrepared r.dst (leAt b 0 1)

/-- CONFIG_ACK (R522). -/
def execConfigAck (s : State) : Res :=
  .next <| s.cfgReply cfACK [cfCOMMIT, cfWITHDRAW, cfSTATE] fun s r _ => if r.ty = cfCOMMIT then s.distAcked r.dst else s

/-- GENACK (R521 step 4): QUAR is cleared in the keystone's directory, and the record of the position is COMBGEN. -/
def execGenack (s : State) : Res :=
  .next <| s.cfgReply cfGENACK [cfGENSET] fun s r b =>
    let fix := fun (e : DirS) => if e.pos = r.dst then { e with flags := e.flags - 4 * b2n (nbit e.flags 2), gen := leAt b 0 4 } else e
    ({ s with rol := { s.rol with dir := s.rol.dir.map fix, xfers := s.rol.xfers.filter fun x => x.pos != r.dst } } : State).showDir

/-- A remote access ends with a status (R529 step 5): a target that refuses remote set-up is recorded as a refusal of GO. -/
def State.rsEnd (s : State) (st : Nat) : State :=
  let s := (s.f ROL_RSSTS_STATUS st).f ROL_RSSTS_BUSY 0
  if st = ROLE_FORBIDDEN then s.discard rROL_RSCTL 0 0 ROLE_FORBIDDEN else s

/-- REGRESULT (R529). -/
def execRegresult (s : State) : Res :=
  .next <| s.cfgReply cfREGRESULT [cfREGACCESS] fun s r b =>
    let s := if nbit (leAt r.body 4 1) 0 then s else s.f ROL_RSDATA (leAt b 4 4)
    s.rsEnd (leAt b 0 1)

/-- What a GO of ROL_RSCTL is refused for, in the order of R529. -/
def State.goRefused (s : State) (wr : Bool) : Option Nat :=
  let p := s.g ROL_RSPOS
  let ofs := 4 * s.g ROL_RSOFS
  if s.g ROL_STS_ROLE ≠ roleKEYSTONE then some ROLE_FORBIDDEN
  else if s.on ROL_RSSTS_BUSY then some BUSY
  else if p = s.pos ∨ (s.routePort p).isNone = true then some LINK_DOWN
  else if 0x3E000 ≤ ofs then some OUT_OF_RANGE
  else if wr = true ∧ ofs = ROL_CFG_RSDENY.off ∧ nbit (s.g ROL_RSDATA) 8 = true then some ROLE_FORBIDDEN
  else none

/-- A write of ROL_RSCTL (R529, R534). -/
def State.rsctlWrite (s : State) (v : Word) : State :=
  let wr := wbit v 1
  if !wbit v 0 then s
  else match s.goRefused wr with
    | some c => (s.f ROL_RSSTS_STATUS c).discard rROL_RSCTL 0 0 c
    | none =>
      (s.f ROL_RSSTS_BUSY 1).cfgSend cfREGACCESS (s.g ROL_RSPOS)
        ([b2n wr, 0, 0, 0] ++ toLe 4 (4 * s.g ROL_RSOFS) ++ toLe 4 (s.g ROL_RSDATA))

/-- REMOTE_SETUP_GO (R529): GO of ROL_RSCTL, with WR. -/
def execRemoteSetupGo (wr : Bool) (s : State) : Res :=
  let v := Word.ofNat (1 + 2 * b2n wr)
  .next (s.barWrite rROL_RSCTL 0 0 v fun s => s.rsctlWrite v)

/-- Splits items into the bodies of STATE messages, the last with LAST. -/
def stateBodies (kind per : Nat) : Nat → List (List Nat) → List (List Nat)
  | 0, _ => []
  | n + 1, l =>
    let last := decide (l.length ≤ per)
    let now := l.take per
    ([kind, b2n last] ++ toLe 2 now.length ++ now.flatten) :: (if last then [] else stateBodies kind per n (l.drop per))

/-- Sends the state to a quarantined hub (R521 step 1). -/
def State.sendState (s : State) (p : Nat) : State :=
  let defs := (s.ten.ctx.cells.filter fun c => c.1 != 0 && c.2.state == ctxACTIVE).map fun c => c.2.bytes c.1
  let binds := s.ten.binds.map fun b =>
    [b.kind, b.rfirst, b.rlast, 0] ++ toLe 4 b.first ++ toLe 8 b.id ++ toLe 8 b.owner
  let s := (stateBodies 1 1000 (defs.length + 1) defs).foldl (fun s b => s.cfgSend cfSTATE p b) s
  let s := (stateBodies 2 2700 (binds.length + 1) binds).foldl (fun s b => s.cfgSend cfSTATE p b) s
  let s := s.cfgSend cfGENSET p (toLe 4 s.rol.combgen)
  { s with rol := { s.rol with xfers := s.rol.xfers ++ [{ pos := p }] } }

/-- STATE_TRANSFER_START (R521): after a round, the keystone sends its state to every quarantined hub with a path. A change still being
distributed ends first. -/
def execStateTransferStart (s : State) : Res :=
  .next <|
    if s.rol.xferAt.isNone ∨ s.rol.cur.isSome = true ∨ s.g ROL_STS_ROLE ≠ roleKEYSTONE ∨ !s.hkRuns then s
    else
      let s : State := { s with rol := { s.rol with xferAt := none, xfers := [], reqs := s.rol.reqs.filter fun r => r.ty != cfSTATE && r.ty != cfGENSET } }
      let l := (s.rol.dir.filter fun e => nbit e.flags 2 && (s.routePort e.pos).isSome).map DirS.pos
      l.foldl State.sendState s

/-- A request fails with a code: no second resend follows (R377, R521, R529). -/
def State.cfgFails (s : State) (r : CfgReqS) (code : Nat) : State :=
  let s : State := { s with rol := { s.rol with reqs := s.rol.reqs.filter fun x => x.tag != r.tag } }
  if r.ty = cfPREPARE then s.distFail code
  else if r.ty = cfREGACCESS then s.rsEnd code
  else if r.ty = cfCOMMIT then s.distAcked r.dst
  else if r.ty = cfSTATE ∨ r.ty = cfGENSET then
    let s : State := { s with rol := { s.rol with
      reqs := s.rol.reqs.filter fun x => !(x.dst == r.dst && (x.ty == cfSTATE || x.ty == cfGENSET))
      xfers := s.rol.xfers.filter fun x => x.pos != r.dst } }
    (s.inc ROL_QUARS).hubLasting code
  else s

/-- CONFIG_TIMEOUT (R377, R521, R529): REMTMO after the request of a TAG. A PREPARE fails at once; any other is sent once more. -/
def execConfigTimeout (tag : Nat) (s : State) : Res :=
  .next <|
    match s.rol.reqs.find? fun r => r.tag == tag with
    | none => s
    | some r =>
      if !s.remtmo r.at_ then s
      else if r.resent ∨ r.ty = cfPREPARE then s.cfgFails r TIMEOUT
      else
        let again := fun (x : CfgReqS) => if x.tag = tag then { x with resent := true, at_ := s.elapsed } else x
        ({ s with rol := { s.rol with reqs := s.rol.reqs.map again } } : State).sendMsg clsCONFIG r.ty r.dst r.body

/-! REJECT (R21, R260, R460, R492, R518). -/

/-- A resend waits. -/
def State.pushStale (s : State) (x : StaleS) : State := { s with rol := { s.rol with stale := x :: s.rol.stale } }

/-- A CMD is rejected (R26, R260): its one resend, or its end with the code. -/
def State.rejectCmd (s : State) (src ty tag code epoch : Nat) : State :=
  match s.rng.rems.find? fun r => r.tag == tag && r.dst == src with
  | none => s
  | some r =>
    if ty ≠ 1 ∨ r.stale then s
    else if code = EPOCH_STALE ∧ r.resent = false then
      let note := fun (x : RemS) => if x.tag = tag then { x with stale := true } else x
      ({ s with rng := { s.rng with rems := s.rng.rems.map note } } : State).pushStale
        { dst := src, cls := clsCMD, ty := 1, body := toLe 2 tag, epoch := epoch, at_ := s.elapsed }
    else
      let s : State := { s with rng := { s.rng with rems := s.rng.rems.filter fun x => x.tag != tag } }
      (((s.dropTag tag).remDone r.tid r.slot { status := code })).issue r.tid

/-- The casks of a producer's ring from a number on are to be sent again, whole, once `b` allows. -/
def State.blockCask (s : State) (c : CaskS) (b : Nat) : State :=
  let fix := fun (x : CaskS) =>
    if x.uid = c.uid ∧ x.ring = c.ring ∧ c.pcn ≤ x.pcn then
      { x with sent := 0, closing := false, block := if x.pcn = c.pcn then b else x.block }
    else x
  { s with rng := { s.rng with fwd := s.rng.fwd.map fix, open_ := s.rng.open_.map fix } }

/-- A CASK is rejected (R460, R492): its one resend, or it is held until the next directory or generation. -/
def State.rejectCask (s : State) (src pcn code epoch : Nat) : State :=
  match (s.rng.fwd ++ s.rng.open_).find? fun c => c.pcn == pcn && s.caskHome c.uid == some src && c.sent != 0 with
  | none => s
  | some c =>
    if c.block = 1 ∨ c.block = 3 then s
    else if code = EPOCH_STALE ∧ c.block = 0 then
      (s.blockCask c 1).pushStale { dst := src, cls := clsCASK, ty := 1, body := [], epoch := epoch, at_ := s.elapsed }
    else if code = QUARANTINED then s.blockCask c 3
    else (s.blockCask c 3).hubLasting code

/-- A lasting fault of a message sent on behalf of a tenant (R21): a LASTING record for that tenant. -/
def State.tenLasting (s : State) (uid code : Nat) : State :=
  match s.tidOf uid with
  | some t => s.record t (s.mkEv evHUB 3 s.ct code 0 0 0)
  | none => s

/-- A message of another class is rejected for good: the request it carried fails, an event record or a signal is held where R460 and
R492 say so, and the rest is a lasting fault of the hub's own (R21). -/
def State.rejectLast (s : State) (m : SentS) (code : Nat) : State :=
  if m.cls = clsCONFIG ∧ m.ty ≠ cfPREPARED ∧ m.ty ≠ cfREGRESULT ∧ m.ty ≠ cfGENACK ∧ m.ty ≠ cfACK then
    match s.rol.reqs.find? fun r => r.tag == leAt m.body 0 2 with
    | some r => s.cfgFails r code
    | none => s
  else if m.cls = clsEVENT then
    let pcn := leAt m.body 8 4
    let e := EvRecS.parse ((m.body.drop 16).take 32) (if pcn = 0 then none else some (s.pos, 8, pcn))
    let s : State := { s with rng := { s.rng with evHeld := s.rng.evHeld ++ [(leAt m.body 0 8, m.dst, e)] } }
    if code = QUARANTINED then s else s.hubLasting code
  else if m.cls = clsSIGNAL ∧ code = QUARANTINED then
    s.pushStale { dst := m.dst, cls := m.cls, ty := m.ty, body := m.body, epoch := 0, at_ := s.elapsed, held := true }
  else if m.cls = clsSIGNAL ∧ m.ty = 2 then s.tenLasting (leAt m.body 0 8) code
  else s.hubLasting code

/-- A message of a class without a number of its own is rejected: the newest sent of that class, TYPE and destination. -/
def State.rejectOther (s : State) (src cls ty ref code epoch : Nat) : State :=
  match s.bnd.sent.reverse.find? fun m => m.dst == src && m.cls == cls && m.ty == ty && rejectRef cls m.body == ref with
  | none => s
  | some m =>
    let s : State := { s with bnd := { s.bnd with sent := (s.bnd.sent.reverse.erase m).reverse } }
    if code = EPOCH_STALE ∧ m.again = false then
      s.pushStale { dst := src, cls := cls, ty := ty, body := m.body, epoch := epoch, at_ := s.elapsed }
    else s.rejectLast m code

/-- REJECT (R21, R492). -/
def execReject (s : State) : Res :=
  .next <|
    match s.takeMsg clsREJECT 1 with
    | none => s
    | some (m, s) =>
      let b := m.body
      let code := leAt b 0 1
      let cls := leAt b 1 1
      let ty := leAt b 2 1
      let ref := leAt b 4 4
      if cls = clsCMD then s.rejectCmd m.src ty ref code m.epoch
      else if cls = clsCASK then s.rejectCask m.src ref code m.epoch
      else s.rejectOther m.src cls ty ref code m.epoch

/-- The one resend of a message (R518). -/
def State.resendStale (s : State) (x : StaleS) : State :=
  if x.cls = clsCMD then
    match s.rng.rems.find? fun r => r.tag == leAt x.body 0 2 with
    | none => s
    | some r =>
      let s := match (s.tr r.tid).cmds.find? fun c => c.slot == r.slot with
        | some c => if dOpc c.desc = 0x60 then s.sendImage r.dst r.tag (c.args.length / 4096 + 1) 0 c.args else s
        | none => s
      let now := fun (y : RemS) => if y.tag = r.tag then { y with at_ := s.elapsed, resent := true, stale := false } else y
      (({ s with rng := { s.rng with rems := s.rng.rems.map now } } : State).sendMsg clsCMD 1 r.dst r.body).inc PSC_REMRESEND
  else if x.cls = clsCASK then
    let go := fun (c : CaskS) => if c.block = 1 ∧ s.caskHome c.uid = some x.dst then { c with block := 2 } else c
    ({ s with rng := { s.rng with fwd := s.rng.fwd.map go, open_ := s.rng.open_.map go } } : State).flushFwd
  else if (s.routePort x.dst).isNone then s.rejectLast { dst := x.dst, cls := x.cls, ty := x.ty, body := x.body } LINK_DOWN
  else
    let s := s.sendMsg x.cls x.ty x.dst x.body
    let mark := fun (m : SentS) => if m.cls = x.cls ∧ m.ty = x.ty ∧ m.dst = x.dst ∧ m.body = x.body then { m with again := true } else m
    { s with bnd := { s.bnd with sent := s.bnd.sent.map mark } }

/-- STALE_RESEND (R518): resends whose epoch has come, or whose 5 ms have passed. -/
def execStaleResend (s : State) : Res :=
  .next <|
    let due := fun (x : StaleS) => !x.held && (decide (x.epoch ≤ s.g ROL_EPOCH) || decide (x.at_ + 5000000 ≤ s.elapsed))
    let l := s.rol.stale.filter due
    let s : State := { s with rol := { s.rol with stale := s.rol.stale.filter fun x => !due x } }
    l.foldl State.resendStale s

end Sys2Proof.Machine
end

