-- ==== Sys2Proof/Machine/Icu.lean ====
section
/-! DEFINITION. The interrupt controller's commands (spec/17_interrupt_controller.md). -/
namespace Sys2Proof.Machine

/-- Sources follow their levels; target k is announced to again, the others as R542 asks. -/
def State.settleAt (s : State) (k : Nat) : State :=
  if !s.icuRuns then s
  else
    let s := s.icu.srcs.keys.foldl State.settleSrc s
    let s := s.announce true k
    ((List.range 32).foldl (fun s j => if j = k then s else s.announce false j) s).icuSts


/-- COALESCE_TIMEOUT (R539): TIME may have passed since windows opened. -/
def execCoalesceTimeout (s : State) : Res := .next s.settle

/-- Writes the stack of a target; DEPTH and RUNPRI follow it (R548). -/
def State.setStack (s : State) (k : Nat) (st : List (Nat × Nat)) : State :=
  let s := s.setTgt k { s.tgt k with stack := st }
  (s.f (ICU_TGT_DEPTH k) st.length).f (ICU_TGT_RUNPRI k) (s.runPri k)

/-- The word CLAIM returns (R543). -/
def claimWord (source prio status : Nat) : Nat := source + prio * 2 ^ 16 + status * 2 ^ 24

/-- A claim of source n at target k (R543, R544). -/
def State.take (s : State) (k n : Nat) : State :=
  let r := s.src n
  let s := s.setStack k ((n, r.prio) :: (s.tgt k).stack)
  let s := s.setTgt k { s.tgt k with lastCnt := if r.refire then 0 else r.count }
  let s := s.setSrc n { r with
    active := true, win := none, wcount := 0, repend := false, alert := false, elig := none, route := some k,
    count := if r.refire then r.count else 0, last := some k }
  { s.settle with rdata := claimWord n r.prio OK }

/-- CLAIM (R543): a read of CLAIM on target page k. -/
def execClaim (k : Nat) (s : State) : Res :=
  .next <|
    let s := s.wakeDoze 0x400
    if s.stopped ICU_ERRSTS then s.readStopped (0x400000 + 4096 * k)
    else if s.on ICU_CFG_GDIS then { s with rdata := claimWord 0xFFFF 0 FENCED }
    else if !s.on (ICU_TGT_EN k) then { s with rdata := claimWord 0xFFFF 0 NOT_IN_STATE }
    else match s.selected k with
      | none => { s.inc ICU_SPURIOUS with rdata := claimWord 0xFFFF 0 NOT_IN_STATE }
      | some n => s.take k n

/-- EOI (R545): a write of EOI on target page k. -/
def execEoi (k : Nat) (v : Word) (s : State) : Res :=
  .next <|
    let s := s.wakeDoze 0x400
    if s.stopped ICU_ERRSTS then s.clockStopped (0x400008 + 4096 * k)
    else match (s.tgt k).stack with
      | (n, _) :: rest =>
        if v.toNat = n then
          let s := s.setStack k rest
          let s := s.setTgt k { s.tgt k with lastErr := OK }
          let r := s.src n
          let s := s.setSrc n { r with active := false, route := if r.repend then some k else none }
          s.settleAt k
        else (s.setTgt k { s.tgt k with lastErr := NOT_IN_STATE }).inc ICU_EOIERR
      | [] => (s.setTgt k { s.tgt k with lastErr := NOT_IN_STATE }).inc ICU_EOIERR

/-- The state code of a source (R547). -/
def State.srcState (s : State) (n : Nat) : Nat :=
  let r := s.src n
  if r.active then 4
  else if !r.en then 0
  else if !(s.level n || r.repend) then 1
  else if r.elig.isSome then 3 else 2

/-- Loads the staging registers and ICU_SRCSTS from a source (R547). -/
def State.srcLoad (s : State) (n : Nat) : State :=
  let r := s.src n
  let s := (((s.f ICU_SRCCFG_EN (b2n r.en)).f ICU_SRCCFG_REFIRE (b2n r.refire)).f ICU_SRCCFG_PRIO r.prio).f ICU_SRCCFG_CNT r.cnt
  let s := (s.f ICU_SRCTGT r.tgt).f ICU_SRCTIME r.time
  let s := (s.f ICU_SRCSTS_COUNT r.count).f ICU_SRCSTS_ROUTED (b2n (r.route.isSome && !r.active))
  let t := match r.route with
    | some k => k
    | none => r.last.getD 0
  let s := (s.f ICU_SRCSTS_TARGET t).f ICU_SRCSTS_FORCED (b2n r.force)
  let s := (s.f ICU_SRCSTS_REPENDL (b2n r.repend)).f ICU_SRCSTS_LEVEL (b2n (s.level n))
  s.f ICU_SRCSTS_STATE (s.srcState n)

/-- Commits the staging registers to a source (R547). -/
def State.srcCommit (s : State) (n : Nat) : State :=
  let en := s.on ICU_SRCCFG_EN
  if 4144 ≤ n ∨ (en ∧ (s.g ICU_SRCCFG_PRIO = 0 ∨ s.g ICU_SRCTGT = 0)) ∨ s.g ICU_SRCTIME = 0 then
    s.discard rICU_SRCIDX 0 0 OUT_OF_RANGE
  else
    let r := s.src n
    let fresh := en && !r.en
    let s := s.setSrc n { r with
      en := en, refire := s.on ICU_SRCCFG_REFIRE, prio := s.g ICU_SRCCFG_PRIO, cnt := s.g ICU_SRCCFG_CNT,
      tgt := s.g ICU_SRCTGT, time := s.g ICU_SRCTIME,
      wcount := if fresh then 0 else r.wcount, win := if fresh then none else r.win }
    s.settle

/-- A write of ICU_SRCIDX. -/
def State.srcIdxWrite (s : State) (v : Word) : State :=
  let n := wbits v 12 0
  if wbit v 31 && wbit v 30 then s.discard rICU_SRCIDX 0 0 RESERVED_NONZERO
  else if wbit v 31 then s.srcCommit n
  else if wbit v 30 then s.srcLoad n
  else s

/-- SOURCE_COMMIT (R547): WR of ICU_SRCIDX. -/
def execSourceCommit (n : Nat) (s : State) : Res :=
  .next (s.barWrite rICU_SRCIDX 0 0 (Word.ofNat (2 ^ 31 + n)) fun s => s.srcIdxWrite (Word.ofNat (2 ^ 31 + n)))

/-- SOURCE_READ (R547): RD of ICU_SRCIDX. -/
def execSourceRead (n : Nat) (s : State) : Res :=
  .next (s.barWrite rICU_SRCIDX 0 0 (Word.ofNat (2 ^ 30 + n)) fun s => s.srcIdxWrite (Word.ofNat (2 ^ 30 + n)))

/-- HUB_LATCH_CLEAR (R536): a write of ICU_HUBLATLO, or of ICU_HUBLATHI with `hi`. -/
def execHubLatchClear (hi : Bool) (v : Word) (s : State) : Res :=
  .next <|
    if hi then s.barWrite rICU_HUBLATHI 0 0 v fun s => (s.store rICU_HUBLATHI 0 0 v).settle
    else s.barWrite rICU_HUBLATLO 0 0 v fun s => (s.store rICU_HUBLATLO 0 0 v).settle

/-- A write of ICU_HUBSET. -/
def State.hubSetWrite (s : State) (v : Word) : State := if wbit v 0 then s.raiseHub srcSOFT else s

/-- HUBSET (R536). -/
def execHubset (v : Word) (s : State) : Res := .next (s.barWrite rICU_HUBSET 0 0 v fun s => s.hubSetWrite v)

/-- A force set on a source (R548): a rising level is an assertion edge for hub and error sources. -/
def State.forceOn (s : State) (n : Nat) : State :=
  let was := s.level n
  let s := s.setSrc n { s.src n with force := true }
  (if !was && (decide (4096 ≤ n) || n % 4 == 3) then s.arrive n else s).settle

/-- A write of ICU_FORCE (R548). -/
def State.forceWrite (s : State) (v : Word) : State :=
  if wbit v 31 && wbit v 30 then s.discard rICU_FORCE 0 0 RESERVED_NONZERO
  else if s.g ICU_CFG_MODE ≠ 2 then s.discard rICU_FORCE 0 0 NOT_IN_STATE
  else if wbit v 31 then s.forceOn (wbits v 12 0)
  else if wbit v 30 then (s.setSrc (wbits v 12 0) { s.src (wbits v 12 0) with force := false }).settle
  else s

/-- FORCE_SET (R548). -/
def execForceSet (n : Nat) (s : State) : Res :=
  .next (s.barWrite rICU_FORCE 0 0 (Word.ofNat (2 ^ 31 + n)) fun s => s.forceWrite (Word.ofNat (2 ^ 31 + n)))

/-- FORCE_CLR (R548). -/
def execForceClr (n : Nat) (s : State) : Res :=
  .next (s.barWrite rICU_FORCE 0 0 (Word.ofNat (2 ^ 30 + n)) fun s => s.forceWrite (Word.ofNat (2 ^ 30 + n)))

/-- Every force is removed (R540). -/
def State.clearForces (s : State) : State :=
  s.icu.srcs.keys.foldl (fun s n => s.setSrc n { s.src n with force := false }) s

/-- A write of ICU_CFG (R540, R542). -/
def State.icuCfgWrite (s : State) (v : Word) : State :=
  let wasTest := s.g ICU_CFG_MODE == 2
  let wasDis := s.on ICU_CFG_GDIS
  let s := s.store rICU_CFG 0 0 v
  let s := if wasTest && s.g ICU_CFG_MODE != 2 then s.clearForces else s
  let s := s.settle
  if wasDis && !s.on ICU_CFG_GDIS then s.announceAll else s

/-- ICU_CONFIG_WRITE (R542). -/
def execIcuConfigWrite (v : Word) (s : State) : Res := .next (s.barWrite rICU_CFG 0 0 v fun s => s.icuCfgWrite v)

/-- A write of ICU_TGTk (R548). -/
def State.tgtWrite (s : State) (k : Nat) (v : Word) : State :=
  if !wbit v 0 && s.g (ICU_TGT_DEPTH k) != 0 then s.discard rICU_TGT k 0 NOT_IN_STATE
  else (s.store rICU_TGT k 0 v).settle


/-- MSIX_UNMASK (R542): the mask of table entry k clears, or for k = 32 the function mask. -/
def execMsixUnmask (k : Nat) (s : State) : Res :=
  .next <|
    if k < 32 then (s.setMsix k { s.msix k with mask := false }).flushMsix k
    else (List.range 32).foldl State.flushMsix { s with icu := { s.icu with fmask := false } }

/-- The interrupt counters. -/
def icuCounters : List Fld := [ICU_DELIVERED, ICU_SPURIOUS, ICU_EOIERR, ICU_BYPASS]

/-- ICU_COUNTER_CLR (R548). -/
def execIcuCounterClr (v : Word) (s : State) : Res := .next (s.barWrite rICU_CLR 0 0 v fun s => s.clrWrite icuCounters v)

/-- The controller at a warm, core or function-level reset (R550): stacks, ACTIVE states, routes, windows and REPEND
latches cleared, MODE RECOVERY, which ends every force of TEST (R540). -/
def State.resetIcu (s : State) : State :=
  let s := s.icu.srcs.keys.foldl (fun s n => s.setSrc n { s.src n with
    active := false, route := none, win := none, wcount := 0, repend := false, elig := none, alert := false, force := false }) s
  let s := (List.range 32).foldl (fun s k => s.setStack k []) s
  let s := { s with icu := { s.icu with tgts := {} } }
  (s.f ICU_CFG_MODE 3).settle

end Sys2Proof.Machine
end

