-- ==== Sys2Proof/Machine/Evm.lean ====
section
/-! DEFINITION. The event matrix's registers and capture queues (spec/18_event_matrix_and_queues.md); the delivery of events to
consumers is in Machine/Deliver.lean. -/
namespace Sys2Proof.Machine

/-- SWPULSE (R551): SOFT0-SOFT3. -/
def State.swPulse (s : State) (v : Word) : State :=
  (List.range 4).foldl (fun s b => if wbit v b then s.event (378 + b) s.ct else s) s

/-- SWPULSE (R551). -/
def execSwpulse (v : Word) (s : State) : Res := .next (s.barWrite rEVM_SWPULSE 0 0 v fun s => s.swPulse v)

/-- A capture queue. -/
def State.cq (s : State) (q : Nat) : CqS := s.evm.queues.get (fun _ => {}) q

/-- Sets a capture queue; DEPTH and the head registers follow it (R559, R565). -/
def State.setCq (s : State) (q : Nat) (c : CqS) : State :=
  let s : State := { s with evm := { s.evm with queues := s.evm.queues.set (fun _ => {}) q c } }
  let s := s.f (EVM_QCTL_DEPTH q) c.ents.length
  let h := c.ents.headD ⟨0, 0, false⟩
  ((s.f (EVM_QHEAD_PROD q) h.prod).f (EVM_QHEAD_MERGED q) (b2n h.merged)).f64 (EVM_QCTLO q) (EVM_QCTHI q) h.ct

/-- A queue of 16 takes an entry: full, it overwrites the oldest, or loses the entry while the head is held (R559). -/
def State.cqPush (s : State) (q : Nat) (e : CqE) : State :=
  let c := s.cq q
  if c.ents.length < 16 then s.setCq q { c with ents := c.ents ++ [e] }
  else if c.held then s.inc (EVM_QCTL_LOST q)
  else (s.setCq q { c with ents := c.ents.drop 1 ++ [e] }).inc (EVM_QCTL_LOST q)

/-- The head of a queue is held (R559). -/
def State.cqHold (s : State) (q : Nat) : State := s.setCq q { s.cq q with held := !(s.cq q).ents.isEmpty }

/-- The head of a queue is popped (R559). -/
def State.cqPop (s : State) (q : Nat) : State := s.setCq q { ents := (s.cq q).ents.drop 1, held := false }

/-- EVENT_QUEUE_HOLD (R559): a read of EVM_QqHEAD, or of EVM_QqCTLO with `lo`. -/
def execEventQueueHold (q : Nat) (lo : Bool) (s : State) : Res :=
  .next (s.barRead EVM_ERRSTS (if lo then EVM_QCTLO q else EVM_QHEAD_PROD q) fun s => s.cqHold q)

/-- EVENT_QUEUE_POP (R559): a read of EVM_QqCTHI. -/
def execEventQueuePop (q : Nat) (s : State) : Res := .next (s.barRead EVM_ERRSTS (EVM_QCTHI q) fun s => s.cqPop q)

/-- A write of EVM_QqCTL (R561). -/
def State.qctlWrite (s : State) (q : Nat) (v : Word) : State :=
  if wbit v 24 then (s.setCq q {}).f (EVM_QCTL_LOST q) 0 else s

/-- QUEUE_FLUSH (R561): FLUSH of EVM_QqCTL. -/
def execQueueFlush (q : Nat) (s : State) : Res :=
  .next (s.barWrite rEVM_QCTL q 0 0x01000000 fun s => s.qctlWrite q 0x01000000)

/-- Another enabled channel names the consumer. -/
def State.consTaken (s : State) (c cons : Nat) : Bool :=
  (List.range 64).any fun d => d != c && s.on (EVM_CHCFG_EN d) && s.g (EVM_CHCFG_CONS d) == cons

/-- A write of EVM_CHcCFG (R557, R564). -/
def State.chCfgWrite (s : State) (c : Nat) (v : Word) : State :=
  let cons := wbits v 7 1
  if s.on (EVM_CHCFG_LOCKED c) then s.discard rEVM_CHCFG c 0 LOCKED
  else if 90 ≤ cons ∧ cons ≤ 126 then s.discard rEVM_CHCFG c 0 RESERVED_NONZERO
  else if cons ≠ 127 ∧ s.consTaken c cons then s.discard rEVM_CHCFG c 0 OUT_OF_RANGE
  else
    let s := s.store rEVM_CHCFG c 0 v
    if s.on GRD_LOCK_LOCK && wbit v 0 && decide (cons < 32) then s.f (EVM_CHCFG_LOCKED c) 1 else s

/-- Row w of channel c. -/
def chenFld (c w : Nat) : Fld := ⟨0x25104 + 0x40 * c + 4 * w, 31, 0⟩

/-- A write of EVM_CHcENw (R557). -/
def State.chEnWrite (s : State) (c w : Nat) (v : Word) : State :=
  if s.on (EVM_CHCFG_LOCKED c) then s.err EVM_ERRSTS (chenFld c w).off LOCKED else s.f (chenFld c w) v.toNat

/-- CHANNEL_CONFIG_WRITE (R557): a write of EVM_CHcENw, or of EVM_CHcCFG for w = 12. -/
def execChannelConfigWrite (c w : Nat) (v : Word) (s : State) : Res :=
  .next <|
    if w = 12 then s.barWrite rEVM_CHCFG c 0 v fun s => s.chCfgWrite c v
    else if w = 11 then s.barWrite rEVM_CHEN11 c 0 v fun s => s.chEnWrite c 11 v
    else s.barWrite rEVM_CHEN c w v fun s => s.chEnWrite c w v

/-- The channel counters. -/
def evmCounters : List Fld :=
  (List.range 64).map (fun c => EVM_CHCNT c) ++ (List.range 64).map (fun c => EVM_CHMRGCNT c) ++
    (List.range 64).map (fun c => EVM_CHDROP c)

/-- EVM_COUNTER_CLR (R564). -/
def execEvmCounterClr (v : Word) (s : State) : Res := .next (s.barWrite rEVM_CLR 0 0 v fun s => s.clrWrite evmCounters v)

end Sys2Proof.Machine
end

