-- ==== Sys2Proof/Machine/Deliver.lean ====
section
/-! DEFINITION. Delivery of events to their consumers (spec/18_event_matrix_and_queues.md R552-R558). -/
namespace Sys2Proof.Machine

/-! Consumers (R552). -/

/-- An event at t reaches burst trigger x (R244): the entries that name it, each group once. -/
def State.burstEvent (s : State) (x t : Nat) : State :=
  if !nbit (s.g PSC_BTRIGCFG_EN) x then s
  else
    let l := s.psc.ents.filter fun e => e.kind == ekBURST && e.trig == 8 + x
    let first := fun (e : EntS) => e.group == 0 || (l.find? fun y => y.tid == e.tid && y.group == e.group) == some e
    (l.filter first).foldl (fun s e => s.trigger e.idx t) s

/-- The consumer's action on an event with time-stamp t. -/
def State.consume (s : State) (cons t prod : Nat) (merged : Bool) : State :=
  if cons < 32 then s.guardTrip cons cuEVENT
  else if cons < 40 then s.burstEvent (cons - 32) t
  else if cons < 48 then s.mashGroup (cons - 40) t true
  else if cons < 56 then s.mashGroup (cons - 48) t false
  else if cons = 56 then (if s.on MSH_SYNCCFG_EVEN then s.mashSync t else s)
  else if cons < 73 then s.rcgEvent (cons - 57) t
  else if cons < 89 then s.cqPush (cons - 73) { ct := t, prod := prod, merged := merged }
  else if cons = 89 then s.wakeReq 8
  else s

/-- A consumer of the always-on domain. -/
def aonConsumer (cons : Nat) : Bool := decide (cons < 32) || (decide (73 ≤ cons) && decide (cons ≤ 89))

/-- The consumer runs (R558, R563). -/
def State.consRuns (s : State) (cons : Nat) : Bool :=
  aonConsumer cons || (if s.evmSleeps then decide (57 ≤ cons) && decide (cons ≤ 72) else s.coreRuns)

/-- The carrying interval of a consumer in CKFAB cycles (R555, R558). -/
def State.carry (s : State) (cons : Nat) : Nat := if aonConsumer cons || s.evmSleeps then 96 else 1

/-! Channels (R553-R556). -/

/-- The event a channel makes of those that fell in one carrying interval: the earliest, the lowest producer breaking ties. -/
def mergeEv : EvS → List EvS → EvS
  | e, [] => e
  | e, f :: l => mergeEv (if f.ct < e.ct ∨ (f.ct = e.ct ∧ f.prod < e.prod) then f else e) l

/-- A channel delivers one event to its consumer; timer units that select the channel count and capture it (R61, R63). -/
def State.channelOut (s : State) (c cons : Nat) (e : EvS) (merged : Bool) : State :=
  let s := s.inc (EVM_CHCNT c)
  let s :=
    if !s.evmSleeps then (s.tickUnits 6 c false).captureEdge 2 c false else s
  if s.consRuns cons then s.consume cons e.ct e.prod merged else s.inc (EVM_CHDROP c)

/-- The events of a channel for a consumer whose carrying interval has ended: the first, and those that fell in its interval with it. -/
def State.dueGroup (s : State) (c cons : Nat) (l : List EvS) : List EvS :=
  let mine := l.filter fun e => e.to_.contains (c, cons)
  match mine with
  | [] => []
  | e :: _ =>
    let n := s.carry cons
    if e.at_ + n ≤ s.time.cyc then mine.filter fun f => decide (f.at_ < e.at_ + n) else []

/-- One channel delivers what has come due for a consumer, group by group. -/
def State.deliverCh (c cons : Nat) : Nat → State → State
  | 0, s => s
  | n + 1, s =>
    match s.dueGroup c cons s.evm.flight with
    | [] => s
    | e :: rest =>
      let grp := e :: rest
      let strip := fun (f : EvS) => if grp.contains f then { f with to_ := f.to_.filter fun x => x != (c, cons) } else f
      let s : State := { s with evm := { s.evm with flight := (s.evm.flight.map strip).filter fun f => !f.to_.isEmpty } }
      let s := if rest.isEmpty then s else (s.incBy (EVM_CHMRGCNT c) rest.length).markMerged c
      let m := mergeEv e rest
      State.deliverCh c cons n (s.channelOut c cons m (!rest.isEmpty || m.merged))

/-- EVENT_DELIVERY (R553-R558): every event whose carrying interval has ended is delivered. -/
def State.deliverEvents (s : State) : State :=
  let l := (s.evm.flight.map fun e => e.to_).flatten.eraseDups
  let n := s.evm.flight.length
  l.foldl (fun s x => State.deliverCh x.1 x.2 n s) s

/-- EVENT_DELIVERY (R553). -/
def execEventDelivery (s : State) : Res := .next s.deliverEvents

end Sys2Proof.Machine
end

