-- ==== Sys2Proof/Machine/Nvs.lean ====
section
/-! DEFINITION. The non-volatile store: its block map, programs with their retry, retirement and wear, the journal, the life records
and refresh (spec/21_nonvolatile_store_and_service_life.md). -/
namespace Sys2Proof.Machine

/-! The block map (R611, R612). -/

/-- The map entry of a physical block. -/
def State.blk (s : State) (p : Nat) : BlkS := s.nvs.map.get nvBlkAt p

/-- The 16 bytes of an entry (R612). -/
def BlkS.bytes (b : BlkS) : List Nat := [b.region, b.state] ++ toLe 2 b.lblk ++ toLe 4 b.erases ++ toLe 4 b.wrday ++ toLe 4 b.wrhours

/-- The entry that 16 bytes hold; a reserved STATE stands for RETIRED. -/
def blkOf (bs : List Nat) : BlkS :=
  let st := leAt bs 1 1
  { region := leAt bs 0 1, state := if 1 ≤ st ∧ st ≤ 4 then st else 4, lblk := leAt bs 2 2, erases := leAt bs 4 4, wrday := leAt bs 8 4
    wrhours := leAt bs 12 4 }

/-- The 32 bytes of a committed log record for a block, of the base of a SEQ (R612, R613). -/
def mapRec (seq p : Nat) (b : BlkS) : List Nat :=
  let h := toLe 2 p ++ [1, seq % 256] ++ b.bytes
  h ++ toLe 4 (crc32 h) ++ List.replicate 8 0

/-- A log record applies to the base of a SEQ: committed, its CRC right, its KIND ENTRY, its BSEQ the base's (R612, R613). -/
def mapRecOk (seq : Nat) (r : List Nat) : Bool :=
  leAt r 24 8 == 0 && leAt r 20 4 == crc32 (r.take 20) && leAt r 2 1 == 1 && leAt r 3 1 == seq % 256 && decide (leAt r 0 2 < 2048)

/-- The map as MAP holds it: the newest base, and over it the records that apply to it in log order (R612). -/
def NvsS.rebuilt (n : NvsS) : Tbl BlkS :=
  (n.mapLog.filter (mapRecOk n.mapSeq)).foldl (fun m r => m.set nvBlkAt (leAt r 0 2) (blkOf ((r.drop 4).take 16))) n.mapBase

/-- The change of an entry is written as a log record; a full log begins a new base in the other base blocks, and the log is erased
(R612). -/
def NvsS.mapRecord (n : NvsS) (p : Nat) (b : BlkS) : NvsS :=
  if n.mapLog.length + 1 < 1280 then { n with mapLog := n.mapLog ++ [mapRec n.mapSeq p b] }
  else
    let base := if n.mapSeq % 2 = 0 then 17 else 8
    let worn := (List.range 9).map (fun k => base + k) ++ (List.range 10).map fun k => 26 + k
    let map := worn.foldl (fun m p =>
      let b := m.get nvBlkAt p
      m.set nvBlkAt p { b with erases := b.erases + 1 }) n.map
    { n with mapSeq := n.mapSeq + 1, mapLog := [], map := map, mapBase := map }

/-- Sets the entry of a physical block. -/
def State.setBlk (s : State) (p : Nat) (b : BlkS) : State :=
  { s with nvs := ({ s.nvs with map := s.nvs.map.set nvBlkAt p b } : NvsS).mapRecord p b }

/-- The physical blocks of a region in a state. -/
def State.blksIn (s : State) (r st : Nat) : List Nat :=
  (List.range 2048).filter fun p => (s.blk p).region == r && (s.blk p).state == st

/-- The working block of a logical index. -/
def State.physOf (s : State) (r l : Nat) : Option Nat := (s.blksIn r 1).find? fun p => (s.blk p).lblk == l

/-- The SPARE_ERASED block with the lowest erase count, the first of equals (R614, R615). -/
def State.spareOf (s : State) (r : Nat) : Option Nat :=
  (s.blksIn r 2).foldl (fun (b : Option Nat) p =>
    match b with
    | some q => if (s.blk p).erases < (s.blk q).erases then some p else some q
    | none => some p) none

/-- The UTC day of a program made now; all ones while UTC_VALID is clear (R612). -/
def State.utcDay (s : State) : Nat :=
  if s.on TIM_CTSTS_UTC_VALID then (s.ct + s.g64 TIM_UTCOFSLO TIM_UTCOFSHI) % 2 ^ 64 / 86400000000000 else 0xFFFFFFFF

/-- Life counter i. -/
def State.life (s : State) (i : Nat) : Nat := s.nvs.cnt.get (fun _ => 0) i

/-- WRDAY and WRHOURS of a block programmed now. -/
def State.stamped (s : State) (b : BlkS) : BlkS := { b with wrday := s.utcDay, wrhours := s.life 1 / 3600 }

/-! KEYS (R616). -/

/-- The 32 bytes of a slot: KIND, GEN, UID and DATA under their CRC. -/
def keySlotBytes (kind gen uid : Nat) (data : List Nat) : List Nat :=
  let b := toLe 8 uid ++ data
  [kind, gen, 0, 0] ++ toLe 4 (crc32 ([kind, gen] ++ b)) ++ b

/-- The contents of logical block l of KEYS, with the working keys and pairs: an empty slot is erased. -/
def State.keyBlock (s : State) (l : Nat) : List Nat :=
  let empty := List.replicate 32 0xFF
  ((List.range 128).map fun k =>
    if l < 8 then match s.ten.keys.find? fun x => x.slot == 128 * l + k with
      | some x => keySlotBytes 1 x.gen x.uid x.key
      | none => empty
    else match s.ten.pairs.find? fun x => x.slot + 1024 == 128 * l + k with
      | some x => keySlotBytes 2 0 x.uid (toLe 8 x.id ++ List.replicate 8 0)
      | none => empty).flatten

/-- The entry that a full KEYS gives up: the oldest of a UID without an ACTIVE tenant, else the oldest (R396). -/
def State.keyVictim (s : State) : Option KeyS :=
  match s.ten.keys.find? fun k => !s.ten.ctx.cells.any fun c => c.1 != 0 && c.2.state == ctxACTIVE && c.2.uid == k.uid with
  | some k => some k
  | none => s.ten.keys.head?

/-- The slot a key of a UID is written to: its own, else the lowest empty one of n from `base`, else the one given up. -/
def State.keySlotIn (s : State) (base n uid : Nat) : Nat :=
  match s.ten.keys.find? fun k => k.uid == uid with
  | some k => k.slot
  | none => emptySlot (s.ten.keys.map KeyS.slot) base n (match s.keyVictim with | some k => k.slot | none => base)

/-- The slot a key of a UID is written to. -/
def State.keySlot (s : State) (uid : Nat) : Nat := s.keySlotIn 0 1024 uid

/-- The KEYS entries with a key written last, in its slot of logical block l. -/
def State.putKey (s : State) (l uid gen : Nat) (key : List Nat) : State :=
  let k := s.keySlotIn (128 * l) 128 uid
  { s with ten := { s.ten with keys := (s.ten.keys.filter fun x => x.uid != uid && x.slot != k) ++ [⟨k, uid, gen, key⟩] } }

/-- Block l of KEYS has been replaced by its working content (R615, R616). -/
def State.keysWritten (s : State) (l : Nat) : State :=
  { s with nvs := { s.nvs with
      keys := (s.nvs.keys.filter fun x => x.slot / 128 != l) ++ s.ten.keys.filter fun x => x.slot / 128 == l
      pairs := (s.nvs.pairs.filter fun x => 8 + x.slot / 128 != l) ++ s.ten.pairs.filter fun x => 8 + x.slot / 128 == l } }

/-! Operations. -/

/-- What runs the store, the housekeeping cores or the boot ROM, runs (R630, R634). -/
def State.nvRuns (s : State) : Bool :=
  s.coreRuns || (s.booting && decide (4 ≤ s.g BOOT_STS_STAGE) && s.sys.pstate == .run && s.sys.rst.isNone && s.sys.final == 0)

/-- Drops the head operation. -/
def State.nvDrop (s : State) : State := ({ s with nvs := { s.nvs with ops := s.nvs.ops.drop 1 } } : State).showNvs

/-- Changes the head operation. -/
def State.nvHead (s : State) (o : NvOpS) : State := { s with nvs := { s.nvs with ops := o :: s.nvs.ops.drop 1 } }

/-- Blocks go to be erased in the background. -/
def State.eraseBlk (s : State) (p : Nat) : State :=
  ({ s with nvs := { s.nvs with erases := s.nvs.erases ++ [p] } } : State).showNvs

/-- NVS_JFIRST and NVS_JNEXT follow the journal. -/
def State.showJournal (s : State) : State :=
  let first := match s.nvs.jrecs with
    | r :: _ => r.seq
    | [] => s.nvs.jnext
  (s.f64 NVS_JFIRSTLO NVS_JFIRSTHI first).f64 NVS_JNEXTLO NVS_JNEXTHI s.nvs.jnext

/-- The block holding the oldest records is erased ahead of the head (R617): they are gone, with what lies before them. -/
def State.eraseAhead (s : State) : State :=
  match s.nvs.jblks with
  | _ :: x :: _ =>
    let mine := s.nvs.jrecs.filter fun r => r.lblk == x
    match mine.getLast? with
    | some l =>
      let s : State := { s with nvs := { s.nvs with jrecs := s.nvs.jrecs.filter fun r => decide (l.seq < r.seq) } }
      (match s.physOf 5 x with
        | some p => s.eraseBlk p
        | none => s).showJournal
    | none => s
  | _ => s

/-- The log's head moves on one slot. -/
def State.jadvance (s : State) : State :=
  if s.nvs.jslot + 1 < 64 then { s with nvs := { s.nvs with jslot := s.nvs.jslot + 1 } }
  else
    ({ s with nvs := { s.nvs with jslot := 0, jblks := s.nvs.jblks.drop 1 ++ s.nvs.jblks.take 1 } } : State).eraseAhead

/-- The 64 bytes of a journal record (R617). -/
def State.jbytes (s : State) (q : JqS) : List Nat :=
  let b := toLe 8 s.nvs.jnext ++ toLe 4 (s.g ROL_BOOTCNT) ++ [q.kind, 0, 0, 0] ++ q.body ++ toLe 4 q.dropped
  b ++ toLe 4 (crc32 b) ++ List.replicate 8 0

/-- A journal record becomes visible. -/
def State.jcommit (s : State) (q : JqS) (lblk : Nat) : State :=
  let r : JrecS := { seq := s.nvs.jnext, lblk := lblk, bytes := s.jbytes q }
  (({ s with nvs := { s.nvs with jrecs := s.nvs.jrecs ++ [r], jnext := s.nvs.jnext + 1 } } : State).jadvance).showJournal

/-- A life record becomes visible (R621); the first of a block has the next block erased. -/
def State.lifeCommit (s : State) (kind : Nat) : State :=
  let k := s.nvs.lifeSlot
  let r : LifeS := { slot := k, seq := s.nvs.lifeSeq, kind := kind, ct := s.ct, aon := s.time.aon, inc := s.incr,
                     cnt := (List.range 48).map s.life }
  let nb := (k / 16 + 1) % 16
  let old := s.nvs.lifes.filter fun x => x.slot != k && !(k % 16 == 0 && x.slot / 16 == nb)
  let s : State := { s with nvs := { s.nvs with lifes := r :: old, lifeSeq := s.nvs.lifeSeq + 1, lifeSlot := (k + 1) % 256 } }
  if k % 16 = 0 then
    match s.physOf 4 nb with
    | some p => s.eraseBlk p
    | none => s
  else s

/-- The 256 bytes of a life record (R621). -/
def LifeS.bytes (r : LifeS) : List Nat :=
  let b := toLe 4 r.seq ++ [r.kind, 0, 0, 0] ++ toLe 8 r.ct ++ toLe 8 r.aon ++ toLe 8 r.inc ++ (r.cnt.map (toLe 4)).flatten ++ List.replicate 20 0
  b ++ toLe 4 (crc32 b) ++ List.replicate 8 0

/-- The region cannot give a block for the head operation (R615). -/
def State.noBlock (s : State) (o : NvOpS) : State :=
  let s := (s.setWorn o.region).nvDrop
  match o.what with
  | .journal q =>
    let s : State := { s with nvs := { s.nvs with jblks := s.nvs.jblks.erase o.lblk, jslot := 0 } }
    if s.g (rgnFld 5 11 0) < 64 then s.f NVS_STS_JRO 1 else ({ s with nvs := { s.nvs with jq := q :: s.nvs.jq } } : State).eraseAhead
  | .key uid gen key job => s.keyDone uid gen key job (some NVM_WORN) false
  | _ => s

/-- The logical block an operation writes now. -/
def State.nvLblk (s : State) (o : NvOpS) : Nat :=
  match o.what with
  | .journal _ => s.nvs.jblks.headD 0
  | .life _ => s.nvs.lifeSlot / 16
  | .key uid .. => s.keySlot uid / 128
  | _ => o.lblk

/-- A region has one spare less. -/
def State.rgnSpare (s : State) (r : Nat) : State := s.f (rgnFld r 23 16) (s.g (rgnFld r 23 16) - 1)

/-- The head operation takes the block it writes into: the head of a log, or a spare for a whole-block replacement (R614, R615). It waits
while the region's only spares are still to be erased. -/
def State.nvPlace (s : State) : State :=
  match s.nvs.ops with
  | [] => s
  | o :: _ =>
    if o.tgt.isSome then s
    else
      let o := { o with lblk := s.nvLblk o }
      let log := match o.what with | .journal _ => true | .life _ => true | _ => false
      if s.rgnWorn o.region ∧ o.region ≠ 5 then s.noBlock o
      else
        match (if log then s.physOf o.region o.lblk else none) with
        | some p => s.nvHead { o with tgt := some p }
        | none =>
          match s.spareOf o.region with
          | some q =>
            let s := s.nvHead { o with tgt := some q }
            if log then ((s.setBlk q { s.blk q with state := 1, lblk := o.lblk }).rgnSpare o.region).f (rgnFld o.region 11 0) (s.g (rgnFld o.region 11 0) + 1)
            else s
          | none => if (s.blksIn o.region 3).isEmpty then s.noBlock o else s.nvHead o

/-- A refresh that has not begun runs only in RUN with the shed stage below 3 (R620). -/
def State.refreshWaits (s : State) : Bool :=
  match s.nvs.ops with
  | o :: _ => o.what == .refresh && o.tgt.isNone && !(s.sys.pstate == .run && decide (s.stage < 3))
  | [] => false

/-- A second failed verify retires the block (R614); the record is written afresh in its replacement. A MAP block has none (R615). -/
def State.retire (s : State) (o : NvOpS) (p : Nat) : State :=
  let log := match o.what with | .journal _ => true | .life _ => true | _ => false
  if o.second ∧ !log then (s.setWorn 0).noBlock o
  else
    let s := ((s.setBlk p { s.blk p with state := 4 }).inc NVS_RETIRED).lifeInc 10 1
    let s := if log then s.f (rgnFld o.region 11 0) (s.g (rgnFld o.region 11 0) - 1) else s.rgnSpare o.region
    (s.nvHead { o with tgt := none, second := false, retried := false }).nvPlace

/-- A whole-block replacement switches the logical block to its new content (R615). -/
def State.switchBlk (s : State) (o : NvOpS) (p : Nat) : State :=
  let old := s.physOf o.region o.lblk
  let s := s.setBlk p (s.stamped { s.blk p with state := 1, lblk := o.lblk })
  match old with
  | some q => (s.setBlk q { s.blk q with state := 3, lblk := 0xFFFF }).eraseBlk q
  | none => s

/-- The head operation is complete: both its phases have verified. -/
def State.nvComplete (s : State) (o : NvOpS) (p : Nat) : State :=
  let s := s.nvDrop
  match o.what with
  | .journal q => (s.setBlk p (s.stamped (s.blk p))).jcommit q o.lblk
  | .life k => (s.setBlk p (s.stamped (s.blk p))).lifeCommit k
  | .key uid gen key job => (((s.switchBlk o p).putKey o.lblk uid gen key).keysWritten o.lblk).keyDone uid gen key job none o.redone
  | .forget _ => (s.switchBlk o p).keysWritten o.lblk
  | .rewrite => (s.switchBlk o p).keysWritten o.lblk
  | .refresh => (s.switchBlk o p).inc NVS_REFRESH

/-- A program of the head operation is abandoned: its record stays invisible, and its slot is passed over (R613, R623). -/
def State.nvAbandon (s : State) (o : NvOpS) : State :=
  let s := s.nvDrop.inc NVS_ABANDON
  match o.what with
  | .journal _ => s.jadvance
  | .life 3 => { s with nvs := { s.nvs with snapBad := true, lifeSlot := (s.nvs.lifeSlot + 1) % 256 } }
  | .key uid gen key job => s.keyDone uid gen key job (some LASTING_FAULT) false
  | _ => s

/-- A retry may be made: a SNAPSHOT has none, and within the final commit or a thermal deferral one only while it can end 60 µs after
its start (R623, R624): 42 µs for the bytes and 12 µs for COMMIT. -/
def State.mayRewrite (s : State) (o : NvOpS) : Bool :=
  (match o.what with | .life k => k != 3 | _ => true) &&
    (if s.sys.final = 1 ∨ s.sys.thermal then decide (s.elapsed + (if o.second then 12000 else 54000) ≤ s.sys.finalAt + 60000) else true)

/-- A program and its verify end (R613, R614). -/
def State.nvProgram (s : State) (ok : Bool) : State :=
  let s := s.nvPlace
  match s.nvs.ops with
  | [] => s
  | o :: _ =>
    match o.tgt with
    | none => s
    | some p =>
      if ok then
        let s := if o.retried then s.inc NVS_RETRYOK else s
        let o := { o with redone := o.redone || o.retried }
        if o.second then s.nvComplete o p else s.nvHead { o with second := true, retried := false }
      else if !o.retried && s.mayRewrite o then s.nvHead { o with retried := true }
      else if s.sys.final = 1 ∨ s.sys.thermal then s.nvAbandon o
      else s.retire o p

/-- NVM_ERASE_DONE (R615, R617): a block erase ends; a replaced block becomes SPARE_ERASED, and a write that waited for it goes on. -/
def execNvmEraseDone (s : State) : Res :=
  .next <|
    match s.nvs.erases with
    | [] => s
    | p :: rest =>
      if !s.nvRuns ∨ s.sys.thermal then s
      else
        let b := s.blk p
        let s : State := { s with nvs := { s.nvs with erases := rest } }
        let s := s.setBlk p { b with erases := b.erases + 1, state := if b.state = 3 then 2 else b.state }
        let s := if b.region = 5 then s.lifeInc 9 1 else s
        s.nvPlace.showNvs

/-! The journal (R617-R619, R629). -/

/-- JOURNAL_WRITE (R617): the oldest queued record begins its phase 1 in the head of the log. -/
def execJournalWrite (s : State) : Res :=
  .next <|
    match s.nvs.jq with
    | [] => s
    | q :: rest =>
      let busy := s.nvs.ops.any fun o => o.region == 5
      let erasing : Bool := match s.physOf 5 (s.nvs.jblks.headD 0) with | some p => s.nvs.erases.contains p | none => false
      if !s.nvRuns || s.sys.thermal || busy || erasing || s.on NVS_STS_JRO then s
      else
        let s : State := { s with nvs := { s.nvs with jq := rest } }
        (s.nvPush { region := 5, lblk := s.nvs.jblks.headD 0, what := .journal q }).nvPlace

/-- The body staged for an APPEND. -/
def State.jdBytes (s : State) : List Nat := ((List.range 8).map fun k => toLe 4 (s.rd (rNVS_JD.at k 0)).toNat).flatten

/-- The record of NVS_JSEQ into NVS_JR0-NVS_JR15 (R629). -/
def State.jload (s : State) : State :=
  let q := s.g64 NVS_JSEQLO NVS_JSEQHI
  match s.nvs.jrecs.find? fun r => r.seq == q with
  | some r => (List.range 16).foldl (fun s k => s.wr (rNVS_JR.at k 0) (Word.ofNat (leAt r.bytes (4 * k) 4))) s
  | none =>
    ((List.range 16).foldl (fun s k => s.wr (rNVS_JR.at k 0) 0) s).discard rNVS_JCTL 0 0 OUT_OF_RANGE

/-- A write of NVS_JCTL (R619, R629). -/
def State.jctlWrite (s : State) (v : Word) : State :=
  if wbit v 31 ∧ wbit v 30 then s.discard rNVS_JCTL 0 0 RESERVED_NONZERO
  else if wbit v 31 then
    if s.on NVS_STS_JRO then s.discard rNVS_JCTL 0 0 NVM_WORN
    else if s.jroom then s.jcharge.jpush 2 s.jdBytes
    else s.discard rNVS_JCTL 0 0 QUOTA_EXCEEDED
  else if wbit v 30 then s.jload
  else s

/-- APPEND (R618, R619): APPEND of NVS_JCTL. -/
def execAppend (s : State) : Res :=
  .next (s.barWrite rNVS_JCTL 0 0 0x80000000 fun s => s.jctlWrite 0x80000000)

/-- JOURNAL_READ (R629): RD of NVS_JCTL. -/
def execJournalRead (s : State) : Res :=
  .next (s.barWrite rNVS_JCTL 0 0 0x40000000 fun s => s.jctlWrite 0x40000000)

/-! Life records and refresh (R620, R621). -/

/-- A life record is handed to the store, unless LIFE is worn. -/
def State.lifeRecord (s : State) (kind : Nat) : State :=
  if s.rgnWorn 4 then s else s.nvPush { region := 4, lblk := s.nvs.lifeSlot / 16, what := .life kind }

/-- Hours of powered time as CKFAB periods. -/
abbrev cycHour : Nat := 4320000000000

/-- LIFE_CHECKPOINT (R621): every hour of powered time. -/
def execLifeCheckpoint (s : State) : Res :=
  .next <|
    if s.nvs.lifeAt + cycHour ≤ s.time.cyc ∧ s.nvRuns ∧ !s.sys.thermal then
      ({ s with nvs := { s.nvs with lifeAt := s.time.cyc } } : State).lifeRecord 1
    else s

/-- Loads a life counter (R621). -/
def State.lifeIdxWrite (s : State) (n : Nat) : State :=
  s.f NVS_LIFEDATA (if (11 ≤ n ∧ n ≤ 15) ∨ 48 ≤ n then 0 else s.life n)

/-- LIFE_COUNTER_LOAD: a write of NVS_LIFEIDX. -/
def execLifeCounterLoad (n : Nat) (s : State) : Res :=
  .next (s.barWrite rNVS_LIFEIDX 0 0 (Word.ofNat n) fun s => s.lifeIdxWrite n)

/-- A working block is aged, or named by the margin read (R620). -/
def State.aged (s : State) (margin : List Nat) (p : Nat) : Bool :=
  let b := s.blk p
  margin.contains p || (b.wrday != 0xFFFFFFFF && s.utcDay != 0xFFFFFFFF && decide (b.wrday + 1826 ≤ s.utcDay))

/-- REFRESH_SCAN (R620): every 24 hours of powered time each working block is scanned; `margin` names the blocks whose margin read finds a
bit inside the band. MAP is rewritten by its own bases, FACTORY never. -/
def execRefreshScan (margin : List Word) (s : State) : Res :=
  .next <|
    if s.nvs.scanAt + 24 * cycHour ≤ s.time.cyc ∧ s.nvRuns ∧ !s.sys.thermal ∧ s.sys.pstate = .run ∧ s.stage < 3 then
      let s : State := { s with nvs := { s.nvs with scanAt := s.time.cyc } }
      let due := (List.range 2048).filter fun p =>
        (s.blk p).state == 1 && (s.blk p).region != 0 && (s.blk p).region != 6 && !s.rgnWorn (s.blk p).region && s.aged (margin.map BitVec.toNat) p
      due.foldl (fun s p => s.nvPush { region := (s.blk p).region, lblk := (s.blk p).lblk, what := .refresh }) s
    else s

/-- The store's counters (R627). -/
def nvsCounters : List Fld := [NVS_RETRYOK, NVS_RETIRED, NVS_JTHROTTLE, NVS_ABANDON, NVS_REFRESH, NVS_TDEFER]

/-- NVS_COUNTER_CLR (R628): NVS_CLR. -/
def execNvsCounterClr (v : Word) (s : State) : Res :=
  .next (s.barWrite rNVS_CLR 0 0 v fun s => s.clrWrite nvsCounters v)

end Sys2Proof.Machine
end

