-- ==== Sys2Proof/Machine/Down.lean ====
section
/-! DEFINITION. What stops the core and starts it again: the hand-over to the watch engine and back, the start of a wake, and the final
commit (spec/20_power_states_and_shedding.md R591-R603, spec/14_ordering_and_recovery.md R463-R467). -/
namespace Sys2Proof.Machine

/-- The code of a power state (R589). -/
def pstCode : PState → Nat
  | .run => 0
  | .doze => 1
  | .watch => 2
  | .hibernate => 3
  | .off => 4

/-- Milliseconds as nanoseconds. -/
abbrev msNs : Nat := 1000000

/-! The hand-over (R366, R463, R598, R599). -/

/-- An entry whose source the watch engine runs (R598). -/
def State.watchServes (s : State) (e : EntS) : Bool :=
  (e.state == esACTIVE || (e.state == esSUSPENDED && e.under == esACTIVE)) &&
    (e.src == exWHEEL || match s.busOf e.nodeid with
      | some (b, _) => s.on (CRS_BCFG_EN b) && !s.on (CRS_BSTS_SEGOFF b) && s.watchBus b
      | none => false)

/-- The entries taken in ascending order while at most 1,024 endpoints are watched (R366, R599). -/
def pickWatch : List EntS → List Nat → List Nat
  | [], _ => []
  | e :: l, eps =>
    let more := (eps ++ e.eps).eraseDups
    if more.length ≤ 1024 then e.idx :: pickWatch l more else pickWatch l eps

/-- Entries by rising number. -/
def entInsert (e : EntS) : List EntS → List EntS
  | [] => [e]
  | x :: l => if e.idx ≤ x.idx then e :: x :: l else x :: entInsert e l

/-- The watch engine takes its schedule; what is left out is counted (R598, R599). In HIBERNATE and at stage 4 the same rules choose. -/
def State.takeWatch (s : State) : State :=
  if !s.watchLive then s
  else
    let l := (s.watchSched.filter s.watchServes).foldl (fun l e => entInsert e l) []
    let ins := ((s.rcg.insts.filter fun y => y.2.watch).map fun y => y.2.ins.filterMap id).flatten.eraseDups
    let took := pickWatch l ins
    let skipBus := (List.range 64).filter fun b =>
      s.on (CRS_BCFG_EN b) && s.on (CRS_BCFG_WATCHEN b) && nbit (s.g PWR_WATCHBANK) (b / 8) && 1000000 % s.g (CRS_BCYCLEN_LEN b) != 0 &&
        s.sys.pstate != .hibernate && !(match s.sys.entry with | some e => e.target == .hibernate | none => false)
    let s := s.incBy PWR_WATCHSKIP (l.length - took.length + skipBus.length)
    took.foldl (fun s n => s.modEnt n fun e => { e with watch := true }) s

/-- Sampling stops as at shed stage 4 and the watch engine takes over (R591 step 2, R601); remote commands complete with SHED (R261). -/
def State.stopProd (s : State) : State :=
  let s := s.takeWatch
  let s := ((s.schedStage.abandonTxns).mashStage).rcgStage
  let s := (s.serStop.flushPage).canStop
  s.rng.rems.foldl (fun s r =>
    let s : State := { s with rng := { s.rng with rems := s.rng.rems.filter fun x => x.tag != r.tag } }
    (s.dropTag r.tag).remDone r.tid r.slot { status := SHED }) s

/-- A bank that is RETIRING retires and open casks close with SHED; `set` makes the change of state that asks for the hand-over. -/
def State.handover (s : State) (set : State → State) : State := (set (s.retireNow.closeAll clSHED)).stopProd

/-- The bond ports close their sessions and go off, and the core's clocks stop (R591 steps 5 and 6, R601). -/
def State.coreDown (s : State) : State := ((List.range 4).foldl State.portOff s).stopFab

/-! The hand-back (R464). -/

/-- The watch records join their casks in buffer order. A run that was overwritten is declared by one GAP before the stream's next
record; a GAP goes with the record after it. Answers the streams of which no record is left. -/
def State.placeWatch (s : State) : List WatchS → Option RecS → List (Nat × Nat) → State × List (Nat × Nat)
  | [], _, lost => (s, lost)
  | w :: rest, gap, lost =>
    match w.rec_ with
    | none => State.placeWatch s rest gap lost
    | some r =>
      if r.kind = 4 then State.placeWatch s rest (some r) lost
      else
        let pre : List RecS :=
          match lost.find? fun x => x.1 == r.stream with
          | some x => [{ kind := 4, reason := gapDISCARDED, stream := x.1, seq := x.2 }]
          | none => match gap with
            | some g => if g.stream = r.stream then [g] else []
            | none => []
        State.placeWatch (s.putTogether w.uid w.ring (pre ++ [r])) rest none (lost.filter fun x => x.1 != r.stream)

/-- The event records of the watch follow the casks that hold their samples; a LOST record stands before those of a tenant of whom some
were overwritten. -/
def State.placeWatchEvs (s : State) (l : List WatchS) (lost : List (Nat × Nat × Nat)) : State :=
  let home := fun (uid : Nat) => match s.tidOf uid with | some t => (s.ctx t).home | none => s.pos
  let s := lost.foldl (fun s (x : Nat × Nat × Nat) => s.routeEv x.1 (home x.1) { s.mkEv 0 0 x.2.2 x.2.1 0 0 0 with flags := 0 }) s
  l.foldl (fun s w =>
    match w.ev with
    | some e => s.routeEv w.uid w.home { e with dep := e.dep.map fun d =>
        if d.2.1 < 8 then (s.pos, d.2.1, s.lastPcn w.uid d.2.1) else d }
    | none => s) s

/-- The watch buffer is handed back (R464). -/
def State.handWatch (s : State) : State :=
  let l := s.rng.watch
  let evLost := s.rng.watchEvLost
  let lost := s.rng.watchLost
  let s : State := { s with rng := { s.rng with watch := [], watchLost := [], watchEvLost := [] } }
  let (s, left) := s.placeWatch l none lost
  let s := left.foldl (fun s x => s.modStream (x.1 % 131072) fun st => { st with miss := some (x.2, gapDISCARDED) }) s
  s.placeWatchEvs l evLost

/-- What was stopped resumes once `set` has ended the state that stopped it (R95, R262, R369, R464). -/
def State.handback (s : State) (set : State → State) : State :=
  let s := (set s).handWatch
  let s : State := { s with sys := { s.sys with watchCyc := none } }
  let s := (List.range 64).foldl (fun s b =>
    if s.on (CRS_BCFG_EN b) ∧ (s.bus b).cur.isSome then s.setBus b { s.bus b with back := some s.elapsed } else s) s
  let s := s.psc.ents.foldl (fun s e => s.modEnt e.idx fun e => { e with watch := false }) s
  ((s.schedStage.mashStage).rcgStage).canPins

/-! Entries and wakes (R592, R595-R597). -/

/-- Changes the phase of PWR_STS. -/
def State.phase (s : State) (p : Nat) : State := s.f PWR_STS_PHASE p

/-- An entry before its commit point is aborted: the hub is in RUN again (R592). -/
def State.abortEntry (s : State) : State :=
  match s.sys.entry with
  | none => s
  | some e =>
    let drop (s : State) : State := { s with sys := { s.sys with entry := none } }
    if e.step = 2 then drop (s.phase 0) else (s.phase 0).handback drop

/-- Refuser c refuses or aborts an entry to a state (R592). -/
def State.refuser (s : State) (c : Nat) (t : PState) : State :=
  ((s.inc (PWR_REFCNT (c - 1))).f PWR_STS_LASTREF c).f PWR_STS_LASTREQ (pstCode t)

/-- Refuser c aborts the entry in progress. -/
def State.abortBy (s : State) (c : Nat) : State :=
  match s.sys.entry with
  | some e => (s.abortEntry).refuser c e.target
  | none => s

/-- A wake begins for the latched sources (R596 step 1). -/
def State.startWake (s : State) : State :=
  let s := ((s.phase 2).f PWR_WAKESRC (Nat.lor (s.g PWR_WAKESRC) (s.sys.wakeLatch % 512))).f PWR_STS_PREV (pstCode s.sys.pstate)
  { s with sys := { s.sys with pmicEn := true, wake := 1, wakeAt := s.elapsed, wakeRetry := none } }

/-- The hub is in WATCH or HIBERNATE, and a wake may begin. -/
def State.mayWake (s : State) : Bool :=
  (s.sys.pstate == .watch || s.sys.pstate == .hibernate) && s.sys.wake == 0 && decide (s.stage < 4) && s.sys.final == 0

/-- The latched wake sources act: an entry is aborted and counted, a sleeping hub begins to wake (R592, R595, R602). -/
def State.wakeLatched (s : State) : State :=
  if s.sys.wakeLatch % 512 = 0 then s
  else if s.sys.entry.isSome then
    let s : State := { s with sys := { s.sys with wakeLatch := 0 } }
    s.abortEntry.inc PWR_WAKEABORT
  else if s.mayWake ∧ s.sys.wakeRetry.isNone then s.startWake
  else s

/-- The wake that a fall of the shed stage below 4 begins: steps 3 to 6 (R595 bit 9, R596). After a final commit PMIC_EN has been low, and
step 2 runs too. -/
def State.shedWake (s : State) : State :=
  let s := (s.phase 2).f PWR_WAKESRC (Nat.lor (s.g PWR_WAKESRC) (Nat.lor 512 (s.sys.wakeLatch % 512)))
  let s := s.f PWR_STS_PREV (pstCode s.sys.pstate)
  { s with sys := { s.sys with
      pmicEn := true, wake := if s.sys.pmicPg then 2 else 1, wakeShed := true, wakeAt := s.elapsed, pllEn := s.sys.pllEn || s.sys.pmicPg } }

/-- The core stands still and would run but for its stage: the fall of the stage wakes it. -/
def State.shedSleeps (s : State) : Bool :=
  (s.sys.pstate == .run || s.sys.pstate == .doze) && s.sys.wake == 0 && s.sys.final == 0 && decide (s.stage < 4)

/-! The final commit (R465, R467, R603, R623, R624). -/

/-- The first sequence number each stream has in the records of an open cask, with the reason of the GAP that declares it; `why` for
records. -/
def firstLost (why : Nat) (l : List RecS) : List (Nat × Nat × Nat) :=
  l.foldl (fun g r =>
    if (r.kind = 1 ∨ r.kind = 4 ∨ r.kind = 7) ∧ !g.any (fun x => x.1 == r.stream) then
      g ++ [(r.stream, r.seq, if r.kind = 4 then r.reason else why)]
    else g) []

/-- The open casks are lost with their records: the next record of each of their streams follows a GAP of the reason, what a LOST record
among them declared is declared again, and their numbers are taken anew (R440, R465). -/
def State.loseOpen (s : State) (why : Nat) : State :=
  let l := s.rng.open_
  let s : State := { s with rng := { s.rng with
    open_ := []
    pcns := s.rng.pcns.map fun x => if l.any fun c => c.uid == x.1 && c.ring == x.2.1 then (x.1, x.2.1, x.2.2 - 1) else x } }
  l.foldl (fun s c =>
    let s := (firstLost why c.recs).foldl (fun s x =>
      s.modStream (x.1 % 131072) fun st => { st with miss := some (x.2.1, x.2.2) }) s
    (c.recs.filter fun r => r.kind == 5).foldl (fun s r =>
      let has := s.rng.loss.any fun x => x.uid == c.uid && x.ring == c.ring
      { s with rng := { s.rng with
        loss := if has then s.rng.loss.map fun x => if x.uid = c.uid ∧ x.ring = c.ring then { x with count := x.count + r.seq, ct := r.ct } else x
          else s.rng.loss ++ [{ uid := c.uid, ring := c.ring, count := r.seq, ct := r.ct }] } }) s) s

/-- Placements whose entry has not been written back, and retries, are abandoned; the casks keep their numbers (R465, R472). -/
def State.abandonPlacing (s : State) : State :=
  s.rng.rings.keys.foldl (fun s t =>
    (List.range 8).foldl (fun s r =>
      let q := s.cr t r
      if q.place = 1 ∨ (q.place = 2 ∧ q.failed = true) then s.setCr t r { q with place := 0, failed := false } else s) s) s

/-- Tj as last measured. -/
def State.tj (s : State) : Int := signed 9 (s.g PWR_MEAS_TJ)

/-- A store operation begins again. -/
def NvOpS.again (o : NvOpS) : NvOpS := { o with second := false, retried := false, tgt := none }

/-- A journal record whose phase 1 has begun. -/
def NvOpS.begun (o : NvOpS) : Bool :=
  o.tgt.isSome && match o.what with
    | .journal _ => true
    | _ => false

/-- A SNAPSHOT. -/
def NvOpS.isSnapshot (o : NvOpS) : Bool := o.what == .life 3

/-- The store's part (R623, R624): the journal record in progress, then a SNAPSHOT; the rest waits. -/
def State.finalOps (s : State) : State :=
  let now := (s.nvs.ops.take 1).filter NvOpS.begun
  let rest := (s.nvs.ops.drop now.length).map NvOpS.again
  let snap : List NvOpS :=
    if s.rgnWorn 4 ∨ (s.sys.thermal ∧ 155 ≤ s.tj) then [] else [{ region := 4, lblk := s.nvs.lifeSlot / 16, what := .life 3 }]
  ({ s with nvs := { s.nvs with ops := now ++ snap ++ rest } } : State).showNvs

/-- The store's part has ended: PMIC_EN falls (R603 step 5). -/
def State.finalDone (s : State) : State :=
  if s.sys.final = 1 ∧ !(s.nvs.ops.any NvOpS.isSnapshot) ∧ !((s.nvs.ops.take 1).any NvOpS.begun) then
    { s with sys := { s.sys with final := 2, pmicEn := false, pmicPg := false, pllEn := false } }
  else s

/-- The final commit begins: this is the stop instant (R465, R603). An entry or a wake stops where it stands (R605). -/
def State.finalCommit (s : State) : State :=
  if s.sys.final ≠ 0 then s
  else
    let ran := !s.watchRuns
    let s := (s.loseOpen gapPOWERLOSS).abandonPlacing
    let s := (s.phase (if s.sys.wake = 0 ∧ s.sys.entry.isNone then s.g PWR_STS_PHASE else 0)).applySafe
    let stop (y : SysS) : SysS := { y with entry := none, wake := 0, wakeShed := false, wakeRetry := none, clearSince := none }
    let set (s : State) : State := { s with sys := { stop s.sys with final := 1, finalAt := s.elapsed } }
    let s := if ran then (set s).stopProd else set s
    let s := (List.range 4).foldl (fun s p => ((s.dropSession p).f (BND_PSTS_STATE p) bsOFF).portOff p) s
    (((s.stopFab.lifeInc 7 1).finalOps).finalDone)

end Sys2Proof.Machine
end

