-- ==== Sys2Proof/Machine/Sys.lean ====
section
/-! DEFINITION. Clocks and resets: clock faults, warm and core resets in their steps, the housekeeping-core restart, the function-level
reset and the TAP (spec/19_clock_domains_and_resets.md; the block tables R49, R97, R187, R221, R263, R302, R339, R370, R400, R440,
R501, R531, R550, R626). -/
namespace Sys2Proof.Machine

/-! Reset kinds (R571, R576). -/

/-- The broader of two resets has the higher rank (R576). -/
def RKind.rank : RKind → Nat
  | .warm => 2
  | .core => 1
  | .hk => 0

/-- The reset code (R571). -/
def RKind.code : RKind → Nat
  | .warm => 1
  | .core => 2
  | .hk => 3

/-- The counter of a kind. -/
def RKind.cnt : RKind → Fld
  | .warm => RST_WARMCNT
  | .core => RST_CORECNT
  | .hk => RST_HKCNT

/-- RST_CAUSE of a reset, and its count (R585). -/
def State.noteReset (s : State) (k : RKind) (src : Nat) : State :=
  ((s.f RST_CAUSE_SRC src).f RST_CAUSE_KIND k.code).inc k.cnt

/-- The core runs, so a reset of it can begin: not asleep, waking or in the final commit (R605, R606). -/
def State.mayReset (s : State) : Bool :=
  s.sys.pstate == .run && decide (s.stage < 4) && s.sys.wake == 0 && s.sys.final == 0

/-! The core held in reset (R575 step 2). -/

/-- Every ring of the tenants homed here becomes STOPPED with no further write; a record not confirmed waits again; commands are
forgotten, and their jobs run on without an answer (R440). `a` is the kind HUB_RESET reports. -/
def State.stopRings (s : State) (a : Nat) : State :=
  let l := s.rng.rings.keys.filter s.homed
  let s := l.foldl (fun s t =>
    let r := s.tr t
    let hub := s.mkEv evHUB 1 s.ct a 0 0 0
    let old := r.evPend.toList ++ r.evq.filter fun e => !(e.src == evHUB && e.code == 1)
    let halt := fun (q : RingS) => { q with state := rsSTOPPED, failed := false }
    let crs := r.crs.keys.foldl (fun (m : Tbl CRingS) k => m.set (fun _ => {}) k (m.get (fun _ => {}) k).stop) r.crs
    let s := s.setTr t { r with
      cmd := halt r.cmd, cpl := halt r.cpl, evt := halt r.evt, fetched := none, cmds := [], cplPend := none, evPend := none
      evq := hub :: old, crs := crs, draining := false }
    (List.range 4).foldl (fun s k => s.ringLevel t k false) s) s
  let s : State := { s with rng := { s.rng with
    rems := []
    jobs := s.rng.jobs.map fun j => if j.id.remote then j else { j with id := { j.id with ref := j.id.ref + 65536 } } } }
  l.foldl State.endCheck s

/-- Course buses and the scheduler (R97, R263): node reservations stay, and SEGOFF shows the segments that stay on (R102). -/
def State.wipeField (s : State) : State :=
  let s := s.passMissed
  let lost := (s.psc.txns.map fun x => x.eps.map fun e => (e, x.ct)).flatten.eraseDups
  let s : State := { s with psc := {}, rng := { s.rng with tags := [] } }
  let s := (lost.foldl (fun s x => s.missPoll x.1 x.2 gapMISSED) (s.f PSC_TAGS 0)).drainStreams
  let s := { s.resetRegs 0 0x1BFFF with crs := { resv := s.crs.resv } }
  let s := (List.range 64).foldl (fun s b => if s.guState (b / 4) = guON then s.f (CRS_BSTS_SEGOFF b) 0 else s) s
  s.pscSts

/-- A running self-check is abandoned without result; a guard monitor's comparators follow its input again (R187). -/
def State.dropCheck (s : State) : State :=
  if s.on WIN_SCSTS_BUSY then
    let m := s.g WIN_SCSTS_MON
    let s := s.zero [WIN_SCSTS_BUSY]
    match monGuard m with
    | some (c, _) => (s.f (GRD_CSTS_SELFCHK c) 0).compare m
    | none => s
  else s

/-- Serial, memory and CAN ports, the timer units, the monitors and the mash array (R49, R187, R221, R339). -/
def State.wipePorts (s : State) : State :=
  let s := (List.range 16).foldl (fun s x => if s.on (SER_PCFG_EN x) ∧ s.on (SER_PCFG_ROLE x) then s.slaveGap x else s) s
  let s := s.dropCheck
  let s := { s.resetRegs 0x31000 0x31FFF with ser := {} }
  let s := ((s.memReset).canReset).resetTimers.canPins
  (s.resetRegs 0x30000 0x304FF).resetRegs 0x30D00 0x30D7F

/-- The edge histories and the mash array (R187, R339): modulators deliver again once their channels are committed anew. -/
def State.wipeOuts (s : State) : State :=
  let s : State := { s with grd := { s.grd with edges := {}, edgeAt := {} } }
  let s := s.msh.chans.keys.foldl State.mashGap s
  { s.resetRegs 0x32400 0x327FF with msh := {} }

/-- Recognizers, endpoints, tenants' commands, roles and bonds (R302, R370, R440, R501, R531). -/
def State.wipeLogic (s : State) (k : RKind) : State :=
  let s := s.rcgResetAll
  let s : State := { s with rcg := { s.rcg with queue := [], owed := [] } }
  let s := (s.eptReset.loseOpen gapINTERRUPTED).stopRings (k.code - 1)
  let s : State := { s with
    rng := { s.rng with jobs := [], answers := [], images := [], gather := [] }
    rol := { s.rol with cur := none, reqs := [], xfers := [], xferAt := none, prepared := none, answers := [], stale := [] }
    ten := { s.ten with dist := none, leases := s.ten.leases.map fun l => { l with job := none } }
    bnd := { s.bnd with sent := [], inbox := [] } }
  (s.f ROL_STS_ELECTING 0).resetIcu

/-- The core domain is held in reset (R575 step 2). -/
def State.wipeCore (s : State) (k : RKind) : State := ((s.wipeField).wipePorts.wipeOuts).wipeLogic k

/-- The step at which the core is held: a warm reset stops CKFAB and the root PLL (R575). -/
def State.holdCore (s : State) : State :=
  match s.sys.rst with
  | some r =>
    let s := s.wipeCore r.kind
    let s := if r.kind = .warm then s.stopFab.f CLK_STS_ROOTLOCK 0 else s
    { s with sys := { s.sys with rst := some { r with step := 2 } } }
  | none => s

/-! Starting a reset. -/

/-- A guard image operation that power loss or a reset cuts short leaves no valid image (R625): an erased slot, or part of an image. -/
def BootS.cut (b : BootS) : BootS :=
  { b with gop := none, guard := match b.gop with
    | none => b.guard
    | some i => if i.isEmpty then [] else [0] }

/-- A store operation in progress is abandoned; an update, a table STORE or a guard image operation ends with its slot erased (R625,
R626). -/
def State.nvReset (s : State) : State :=
  let s := match s.nvs.ops with
    | o :: _ => if o.tgt.isSome then s.nvAbandon o else s
    | [] => s
  let s : State := { s with boot := s.boot.cut }
  let s : State := if s.sw = swSTORING then { s with ept := { s.ept with tablesImg := [] } } else s
  ((s.zero [BOOT_GSTS_BUSY]).f BOOT_UPSTS_STATE (if s.g BOOT_UPSTS_STATE = 1 then 0 else s.g BOOT_UPSTS_STATE)).showNvs

/-- Step 1 of a warm or core reset (R575): an entry is aborted without a count, SAFE outputs go to their policies, sessions close. -/
def State.resetStep1 (s : State) (k : RKind) (src : Nat) : State :=
  let s := (s.abortEntry.noteReset k src).f RST_STS_READY 0
  let s := ((List.range 4).foldl State.portOff s.applySafe).nvReset
  { s with sys := { s.sys with rst := some { kind := k, src := src, step := 1, t0 := s.elapsed } } }

/-- A housekeeping-core restart begins (R575; R131, R478, R531, R606): admissions and layout changes not yet committed are abandoned, as
are a round, a state transfer and a remote access that waits; the transfers that this hub sends start again after it. -/
def State.hkStart (s : State) (src : Nat) : State :=
  let s := s.noteReset .hk src
  let s := if s.sys.entry.isSome then s.abortEntry.inc PWR_WAKEABORT else s
  let s := (List.range 64).foldl (fun s b =>
    let s := match (s.bus b).adm with
      | some m =>
        let s := (s.removeNode b m.addr).endAdm b
        { s with crs := { s.crs with hkDrops := s.crs.hkDrops ++ [(b, m.addr)] } }
      | none => s
    s.abandonLayout b) s
  let sending := !s.rol.xfers.isEmpty
  { s with
    rol := { s.rol with
      defs := [], binds := [], cutXfer := s.rol.cutXfer || (s.on ROL_STS_QUAR && !(s.rol.defs.isEmpty && s.rol.binds.isEmpty))
      xfers := [], xferAt := if sending then some s.elapsed else s.rol.xferAt
      reqs := if sending then s.rol.reqs.filter fun r => r.ty != 7 && r.ty != 8 else s.rol.reqs }
    mem := { s.mem with waits := s.mem.waits.filter fun w => w.who.isNone }
    sys := { s.sys with rst := some { kind := .hk, src := src, step := 4, t0 := s.elapsed } } }

/-- A reset begins for a source, now or after the wake that it causes; a narrower one than that in progress is discarded, and a broader
one takes over from where the two differ (R576, R605). -/
def State.beginReset (s : State) (k : RKind) (src : Nat) : State :=
  let s := s.wakeDoze 256
  if s.g BOOT_STS_STAGE < 9 ∨ s.booting then s
  else if !s.mayReset then
    let old := match s.sys.rstPend with | some (j, x) => if k.rank ≤ j.rank then (j, x) else (k, src) | none => (k, src)
    ({ s with sys := { s.sys with rstPend := some old, wakeLatch := Nat.lor s.sys.wakeLatch 256 } } : State).wakeLatched
  else
    match s.sys.rst with
    | none => if k = .hk then s.hkStart src else s.resetStep1 k src
    | some r =>
      if k.rank ≤ r.kind.rank then s
      else if r.kind = .hk then s.resetStep1 k src
      else
        let s := s.noteReset k src
        let s : State := { s with sys := { s.sys with rst := some { r with kind := k, src := src } } }
        if 2 ≤ r.step then ({ s with sys := { s.sys with rst := some { r with kind := k, src := src, step := 2 } } } : State).stopFab.f CLK_STS_ROOTLOCK 0
        else s

/-! RST_CTL (R575, R584). -/

/-- A write of RST_CTL. -/
def State.rstCtlWrite (s : State) (v : Word) : State :=
  let a := wbits v 2 0
  let key := wbits v 15 8
  if (a = 0 ∧ key ≠ 0) ∨ (a ≠ 0 ∧ key ≠ 0x5A) ∨ !(a == 0 || a == 1 || a == 2 || a == 4) then s.discard rRST_CTL 0 0 RESERVED_NONZERO
  else if a = 0 then s
  else if s.g BOOT_STS_STAGE < 9 ∨ s.booting then s.discard rRST_CTL 0 0 NOT_IN_STATE
  else
    let k : RKind := if a = 1 then .warm else if a = 2 then .core else .hk
    let narrower := match s.sys.rst with | some r => decide (k.rank ≤ r.kind.rank) | none => false
    if narrower then s
    else if k = .hk then s.beginReset .hk 2
    else match s.sys.rstReq with
      | some (j, _) => if k.rank ≤ j.rank then s else { s with sys := { s.sys with rstReq := some (k, s.elapsed + 10000) } }
      | none => { s with sys := { s.sys with rstReq := some (k, s.elapsed + 10000) } }

/-- WARM (R575): WARM of RST_CTL. -/
def execWarm (s : State) : Res := .next (s.barWrite rRST_CTL 0 0 0x5A01 fun s => s.rstCtlWrite 0x5A01)

/-- CORE (R575): CORE of RST_CTL. -/
def execCore (s : State) : Res := .next (s.barWrite rRST_CTL 0 0 0x5A02 fun s => s.rstCtlWrite 0x5A02)

/-- HKRST (R575): HKRST of RST_CTL. -/
def execHkrst (s : State) : Res := .next (s.barWrite rRST_CTL 0 0 0x5A04 fun s => s.rstCtlWrite 0x5A04)

/-- RESET_START (R575 step 1): a requested reset begins 10 µs after its write. -/
def execResetStart (s : State) : Res :=
  .next <|
    match s.sys.rstReq with
    | some (k, t) =>
      if t ≤ s.elapsed then ({ s with sys := { s.sys with rstReq := none } } : State).beginReset k 2 else s
    | none => s

/-- CORE_HOLD (R575 step 2): 2 µs after the start. -/
def execCoreHold (s : State) : Res :=
  .next <|
    match s.sys.rst with
    | some r => if r.kind ≠ .hk ∧ r.step = 1 ∧ r.t0 + 2000 ≤ s.elapsed then s.holdCore else s
    | none => s

/-- What a reset that has ended starts again: bond ports train, interrupts settle, the time of isolation runs (R501, R550, R575). -/
def State.coreBack (s : State) : State := (((List.range 4).foldl State.portOn (s.f RST_STS_READY 1)).wakeIcu).noteIso

/-- When the housekeeping cores are back, the enabled ports that are not up and not held train (R501). -/
def State.hkTrain (s : State) : State :=
  (List.range 4).foldl (fun s p =>
    if s.linkUp p ∨ s.g (BND_PSTS_STATE p) = bsOFF ∨ s.g (BND_PSTS_STATE p) = bsHOLD then s else s.portOn p) s

/-- When the housekeeping cores are back, the nodes they no longer hold are dropped (R136). -/
def State.hkDropAll (s : State) : State :=
  let s := s.crs.hkDrops.foldl (fun (s : State) (x : Nat × Nat) => s.setBus x.1 { s.bus x.1 with drops := (s.bus x.1).drops ++ [x.2] }) s
  { s with crs := { s.crs with hkDrops := [] } }

/-- HOUSEKEEPING_READY (R575 step 5). -/
def execHousekeepingReady (s : State) : Res :=
  .next <|
    match s.sys.rst with
    | none => s
    | some r =>
      let s1 : State := { s with sys := { s.sys with rst := none } }
      if r.kind = .hk then
        let s3 := s1.hkTrain.hkDropAll
        if s3.rol.cur.isSome then s3.startRound else s3
      else if (r.kind = .core ∧ r.step = 2) ∨ (r.kind = .warm ∧ r.step = 4) then s1.coreBack
      else s

/-! The watchdog and crossings (R574, R581, R582). -/

/-- WATCHDOG_EXPIRY (R574). -/
def execWatchdogExpiry (s : State) : Res :=
  .next <|
    if s.coreRuns ∧ s.sys.rst.isNone ∧ s.g BOOT_STS_STAGE = 9 then
      let again := match s.sys.lastWdt with | some t => decide (s.elapsed ≤ t + 10000000000) | none => false
      let s := s.inc RST_WDTCNT
      let s : State := { s with sys := { s.sys with lastWdt := some s.elapsed } }
      s.beginReset (if again then .core else .hk) 6
    else s

/-- ACCESS_TIMEOUT (R581, R582): a block gives no acknowledge within CLKTO to an access at an offset, or to a descriptor. A read returns
zero. -/
def execAccessTimeout (desc : Bool) (ofs : Nat) (s : State) : Res :=
  .next <|
    if desc then
      match s.rng.jobs.find? fun j => !j.started with
      | some j => s.finishWith j CLOCK_STOPPED
      | none => s
    else { s.clockStopped ofs with rdata := 0 }

/-- CLK_COUNTER_CLR (R583): CLK_CLR. -/
def execClkCounterClr (v : Word) (s : State) : Res :=
  .next (s.barWrite rCLK_CLR 0 0 v fun s => s.clrWrite [CLK_FAILCNT, CLK_UNLOCKCNT, CLK_STOPACC] v)

/-- RST_COUNTER_CLR (R584): RST_CLR. -/
def execRstCounterClr (v : Word) (s : State) : Res :=
  .next (s.barWrite rRST_CLR 0 0 v fun s => s.clrWrite [RST_WARMCNT, RST_CORECNT, RST_HKCNT, RST_FLRCNT, RST_WDTCNT] v)

/-! Clock faults and clock start (R568-R570). -/

/-- The root clock is lost again while a warm reset ends: it waits for the lock once more (R569, R570, R575 step 3). -/
def State.relock (s : State) : State :=
  match s.sys.rst with
  | some r => if r.kind = .warm ∧ r.step = 4 then ({ s with sys := { s.sys with rst := some { r with step := 2 } } } : State).stopFab else s
  | none => s

/-- XIN_FAILURE (R569): the guard trips every active channel, and the core is held as for a warm reset. -/
def execXinFailure (s : State) : Res :=
  .next <|
    if !s.on CLK_STS_XINOK ∨ s.sys.pstate = .off then s
    else
      let s := (((s.f CLK_STS_XINOK 0).f CLK_STS_ROSC 1).inc CLK_FAILCNT).f CLK_STS_ROOTLOCK 0
      let s := s.tripAll
      let s := (s.setCtState ctHOLDOVER).relock.beginReset .warm 5
      match s.sys.rst with
      | some r => if r.kind = .warm ∧ r.step = 1 then s.holdCore else s
      | none => s.stopFab

/-- XIN_RECOVERED (R568 step 2, R569): XIN has been valid for 1,024 cycles. From power-on PMIC_EN then rises (R630). -/
def execXinRecovered (s : State) : Res :=
  .next <|
    if s.on CLK_STS_XINOK ∨ s.sys.pstate = .off ∨ s.g BOOT_STS_STAGE = 0 then s
    else
      let s := ((s.f CLK_STS_XINOK 1).f CLK_STS_ROSC 0)
      if s.g BOOT_STS_STAGE = 1 ∧ !s.sys.pmicEn then
        { s with sys := { s.sys with pmicEn := true, pmicAt := s.time.cyc } }
      else s

/-- ROOT_PLL_UNLOCK (R570): the lock detector has dropped for 100 ns. -/
def execRootPllUnlock (s : State) : Res :=
  .next <|
    if s.on CLK_STS_ROOTLOCK ∧ s.on CLK_STS_XINOK then ((s.f CLK_STS_ROOTLOCK 0).inc CLK_UNLOCKCNT).relock.beginReset .warm 4 else s

/-- PMIC_PG_RISE (R568, R596 step 2): the regulator is ready, and the root PLL is enabled. -/
def execPmicPgRise (s : State) : Res :=
  .next <|
    if s.sys.pmicEn ∧ !s.sys.pmicPg then
      { s with sys := { s.sys with
          pmicPg := true, pllEn := true, pgAt := s.time.cyc, pgWait := false, wake := if s.sys.wake = 1 then 2 else s.sys.wake } }
    else s

/-- ROOT_PLL_LOCKED (R568 step 4): the dividers are released. A wake goes on to its memory step, a warm reset to its release. -/
def execRootPllLocked (s : State) : Res :=
  .next <|
    if !s.sys.pllEn ∨ !s.on CLK_STS_XINOK then s
    else
      let s := s.f CLK_STS_ROOTLOCK 1
      let s : State := { s with sys := { s.sys with wake := if s.sys.wake = 2 then 3 else s.sys.wake } }
      match s.sys.rst with
      | some r =>
        if r.kind = .warm ∧ r.step = 2 then ({ s with sys := { s.sys with rst := some { r with step := 4 } } } : State).startFab else s
      | none => if s.sys.wake = 0 ∧ s.sys.pstate = .run ∧ !s.time.fab ∧ s.sys.final = 0 ∧ s.stage < 4 then s.startFab else s

/-! Function-level reset and link events (R400, R440, R550, R573). -/

/-- What a function-level reset does. -/
def State.flr (s : State) : State :=
  let s := ((s.wakeDoze 1024).inc RST_FLRCNT)
  let s := (s.canFlr s.homed).eptFlr
  let gone := s.rng.rems.map RemS.tag
  let s := (gone.foldl State.dropTag s).stopRings 2
  let s := s.rng.rings.keys.foldl (fun s t => if s.homed t then s.setCtx t { s.ctx t with wins := {} } else s) s
  s.resetIcu

/-- Entries of the MSI-X table back to their reset values. -/
def State.clearMsix (s : State) : State := { s with icu := { s.icu with msix := {}, fmask := false } }

/-- FUNCTION_LEVEL_RESET (R440). It resets the configuration space of the function too, as PCIe defines. -/
def execFunctionLevelReset (s : State) : Res :=
  .next <|
    if s.sys.hostLink then
      let s := s.flr.clearMsix
      { s with sys := { s.sys with cfg := {} } }
    else s

/-- HOST_LINK_RESET (R573): 0 PE_PERST_N, 1 a hot reset, 2 a link-down, 3 loss of PE_REFCLK. -/
def execHostLinkReset (kind : Nat) (s : State) : Res :=
  .next <|
    if !s.sys.hostLink ∧ kind ≠ 0 then s
    else
      let s := s.flr
      let s := if kind < 2 then (let t := s.clearMsix; { t with sys := { t.sys with cfg := {} } }) else s.clearMsix
      let s := if kind = 3 then s.f CLK_STS_REFCLKOK 0 else s
      ({ s with sys := { s.sys with hostLink := kind == 1 } } : State).showCapable.noteIso

/-! The TAP (R649, R650). -/

/-- TAP_ISOLATE: EXTEST (0), CLAMP (3) or HIGHZ (4) becomes the current instruction, with the boundary register `cells`. -/
def execTapIsolate (ir : Nat) (cells : List Bool) (s : State) : Res :=
  .next <|
    let was := s.sys.tap
    let s : State := { s with sys := { s.sys with ir := ir % 256, cells := cells } }
    if was ∨ !s.sys.tap then s
    else
      if s.mayReset ∧ !s.booting ∧ !(match s.sys.rst with | some r => r.kind != .hk | none => false) then
        let s := (s.abortEntry.f RST_STS_READY 0).applySafe.nvReset
        let s := (List.range 4).foldl State.portOff s
        let s := s.wipeCore .core
        { s with sys := { s.sys with rst := none } }
      else s

/-- TAP_RELEASE: another instruction becomes the current one. When the TAP leaves EXTEST, CLAMP or HIGHZ, a core reset completes from its
step 4. -/
def execTapRelease (ir : Nat) (s : State) : Res :=
  .next <|
    let was := s.sys.tap
    let s : State := { s with sys := { s.sys with ir := ir % 256 } }
    if !was ∨ s.sys.tap then s
    else
      if s.mayReset ∧ !s.booting ∧ s.sys.rst.isNone then
        let s := s.noteReset .core 3
        { s with sys := { s.sys with rst := some { kind := .core, src := 3, step := 2, t0 := s.elapsed } } }
      else s.beginReset .core 3

end Sys2Proof.Machine
end

