-- ==== Sys2Proof/Machine/Power.lean ====
section
/-! DEFINITION. Power states, wakes, the watch engine's cycle, shedding, the final commit and thermal shutdown
(spec/20_power_states_and_shedding.md; spec/21_nonvolatile_store_and_service_life.md R623, R624). -/
namespace Sys2Proof.Machine

/-! What an entry leaves in a state without power (R589, R594). -/

/-- What survives the loss of every supply but VAON's detector: the identity, the non-volatile regions, the pins' levels, the waiting
commands, what has left the hub. Everything else is as after power-on. -/
def State.unpowered (s : State) : State :=
  let n := s.nvs
  { pending := s.pending, free := s.free, rdata := s.rdata, out := s.out
    regs := ⟨s.regs.cells.filter fun c => c.1 == ROL_HUBIDLO.off || c.1 == ROL_HUBIDHI.off⟩
    sys := { pfailN := s.sys.pfailN, vafe := s.sys.vafe, vio := s.sys.vio }
    grd := { vin := s.grd.vin }
    ept := { tablesImg := if s.sw = swSTORING then [] else s.ept.tablesImg }
    ten := { pairs := n.pairs, keys := n.keys }
    nvs := { mapSeq := n.mapSeq, mapBase := n.mapBase, mapLog := n.mapLog, keys := n.keys, pairs := n.pairs
             jrecs := n.jrecs, jblks := n.jblks, jslot := n.jslot, jnext := n.jnext
             lifes := n.lifes, lifeSeq := n.lifeSeq, lifeSlot := n.lifeSlot, snapBad := n.snapBad }
    boot := s.boot.cut }

/-! Requests (R590-R593, R607). -/

/-- TENANT_WAKE_VOTE applies. -/
def State.wakeVote (s : State) : Bool := !s.rng.jobs.isEmpty || s.psc.ents.any fun e => e.state == esBURSTING

/-- GUARD_ACTIVE applies. -/
def State.guardActive (s : State) : Bool := (List.range 32).any s.guActive

/-- KEYSTONE_STATE applies. -/
def State.keystoneBusy (s : State) : Bool :=
  ((s.g ROL_STS_ROLE == roleKEYSTONE || s.g ROL_STS_ROLE == roleACTING) && !s.activePorts.isEmpty) || s.on ROL_STS_ELECTING


/-- The lowest refuser at the request of a state (R592). -/
def State.refusedAt1 (s : State) (t : PState) : Option Nat :=
  if s.wakeVote then some 4
  else if t = .off ∧ s.guardActive then some 5
  else if t ≠ .doze ∧ s.keystoneBusy then some 7
  else if 4 ≤ s.stage then some 8
  else none

/-- The lowest refuser at step 5 of an entry (R592). -/
def State.refusedAt5 (s : State) (t : PState) : Option Nat :=
  if s.nvBusy then some 3
  else if s.wakeVote then some 4
  else if t = .off ∧ s.guardActive then some 5
  else if s.keystoneBusy then some 7
  else none

/-- Every running bus has reached its commit point in an entry: sampling stops and the watch engine takes over (R591 step 2). -/
def State.entryStop (s : State) : State :=
  match s.sys.entry with
  | none => s
  | some e =>
    if e.step = 2 ∧ (List.range 64).all (fun b => e.stopped.contains b || !s.busRuns b || (s.nextStart b).isNone) then
      s.handover fun s => { s with sys := { s.sys with entry := some { e with step := 3 } } }
    else s

/-- COMMIT_POINT (R237): 8 µs before a cycle's start its requests are taken. In an entry to a state the bus stops there instead (R591). -/
def execCommitPoint (b : Nat) (s : State) : Res :=
  .next <|
    match s.nextStart b with
    | none => s
    | some c =>
      if !s.commitDue b c then s
      else match s.sys.entry with
        | none => (s.dropPlan b).nofitScan.commitCycle b c
        | some e =>
          ({ s with sys := { s.sys with entry := some { e with stopped := b :: e.stopped.filter fun x => x != b } } } : State).entryStop

/-- A state is requested in RUN with PHASE STEADY (R591, R593). -/
def State.enterState (s : State) (t : PState) : State :=
  let s : State := { s with sys := { s.sys with isoAt := s.sys.isoAt.map fun _ => s.elapsed } }
  match s.refusedAt1 t with
  | some c => s.refuser c t
  | none =>
    if t = .doze then { s with sys := { s.sys with pstate := .doze } }
    else
      let s := (s.phase 1).f PWR_STS_DRAINED 0
      ({ s with sys := { s.sys with entry := some { target := t, step := 2, t0 := s.elapsed } } } : State).entryStop

/-- A write of PWR_CTL (R607). -/
def State.pwrCtlWrite (s : State) (v : Word) : State :=
  let req := wbits v 2 0
  let key := wbits v 15 8
  if 5 ≤ req ∨ (2 ≤ req ∧ key ≠ 0x5A) ∨ (req < 2 ∧ key ≠ 0) then s.discard rPWR_CTL 0 0 RESERVED_NONZERO
  else if req = 0 then s.abortEntry
  else if s.g PWR_STS_PHASE ≠ 0 ∨ s.sys.pstate ≠ .run ∨ (req = 1 ∧ !s.sys.hostLink) then s.discard rPWR_CTL 0 0 NOT_IN_STATE
  else s.enterState (if req = 1 then .doze else if req = 2 then .watch else if req = 3 then .hibernate else .off)

/-- ABORT (R607). -/
def execAbort (s : State) : Res := .next (s.barWrite rPWR_CTL 0 0 0 fun s => s.pwrCtlWrite 0)

/-- DOZE (R593). -/
def execDoze (s : State) : Res := .next (s.barWrite rPWR_CTL 0 0 1 fun s => s.pwrCtlWrite 1)

/-- WATCH (R591). -/
def execWatch (s : State) : Res := .next (s.barWrite rPWR_CTL 0 0 0x5A02 fun s => s.pwrCtlWrite 0x5A02)

/-- HIBERNATE (R591). -/
def execHibernate (s : State) : Res := .next (s.barWrite rPWR_CTL 0 0 0x5A03 fun s => s.pwrCtlWrite 0x5A03)

/-- OFF (R591). -/
def execOff (s : State) : Res := .next (s.barWrite rPWR_CTL 0 0 0x5A04 fun s => s.pwrCtlWrite 0x5A04)

/-- AUTOT_EXPIRY (R590): AUTOT seconds of ISOLATED without a host link up. -/
def execAutotExpiry (s : State) : Res :=
  .next <|
    match s.sys.isoAt with
    | some t =>
      if s.on PWR_CFG_AUTOT ∧ t + 1000000000 * s.g PWR_CFG_AUTOT ≤ s.elapsed ∧ s.coreRuns ∧ s.sys.pstate = .run ∧ s.g PWR_STS_PHASE = 0 ∧
          s.sys.rst.isNone then
        s.enterState .watch
      else s
    | none => s

/-! Draining and the commit point (R591). -/

/-- A session holds unacknowledged flits, or a forwarded cask with a path is not accepted. -/
def State.bondBusy (s : State) : Bool :=
  ((List.range 4).any fun p => !(s.port p).unacked.isEmpty) || s.rng.fwd.any fun c => (s.caskHome c.uid).isSome

/-- Something is still deliverable to a RUNNING ring of this hub's host. -/
def State.undrained (s : State) : Bool :=
  (s.rng.rings.keys.filter s.homed).any fun t =>
    let r := s.tr t
    (r.cpl.state == rsRUNNING && (r.cplPend.isSome || (!r.cpl.full && r.cmds.any fun c => c.done.isSome))) ||
      (r.evt.state == rsRUNNING && (r.evPend.isSome || (!r.evt.full && match r.evq with
        | e :: _ => s.evReady t e
        | [] => false))) ||
      (List.range 8).any fun k =>
        let q := s.cr t k
        q.state == rsRUNNING && q.hub != q.post && (s.heldFirst t k).isSome

/-- DRAINED (R591 step 3). -/
def execDrained (s : State) : Res :=
  .next <|
    let s := s.entryStop
    match s.sys.entry with
    | some e =>
      if s.sys.wakeLatch % 512 ≠ 0 then s.wakeLatched
      else if e.step ≠ 3 ∨ ((s.bondBusy ∨ s.undrained) ∧ s.elapsed < e.t0 + msNs * s.g PWR_CFG_DRAINTO) then s
      else if s.bondBusy then s.abortBy 2
      else if s.undrained then s.abortBy 6
      else
        let s := s.f PWR_STS_DRAINED 1
        { s with sys := { s.sys with entry := some { e with step := 4 }, drainedAt := s.elapsed } }
    | none => s

/-- The journal's queue is written and a SNAPSHOT after it (R43, R591 step 5, R623). -/
def State.offCommit (s : State) : State :=
  let q := s.nvs.jq
  let s : State := { s with nvs := { s.nvs with jq := [] } }
  let s := if s.on NVS_STS_JRO then s else q.foldl (fun s r => s.jcommit r (s.nvs.jblks.headD 0)) s
  if s.rgnWorn 4 then s else s.lifeCommit 3

/-- The commit point and step 6 (R591): sessions close, CT passes to the always-on generator, PMIC_EN falls. -/
def State.commitEntry (s : State) (t : PState) (l2 : Bool) : State :=
  let s := s.coreDown
  let s : State := { s with sys := { s.sys with
    pstate := t, entry := none, pmicEn := false, pmicPg := false, pllEn := false, hostLink := false, l2 := s.sys.hostLink && l2 } }
  let s := ((s.phase 0).f CLK_STS_ROOTLOCK 0).canPins
  if t = .off then
    let s := s.offCommit.unpowered
    { s with sys := { s.sys with pstate := .off } }
  else s

/-- ENTRY_COMMIT (R591 steps 4 and 5): `l2`, the host link has entered L2. -/
def execEntryCommit (l2 : Bool) (s : State) : Res :=
  .next <|
    match s.sys.entry with
    | some e =>
      if s.sys.wakeLatch % 512 ≠ 0 then s.wakeLatched
      else if e.step ≠ 4 then s
      else if s.sys.hostLink ∧ !l2 then
        if s.sys.drainedAt + msNs * s.g PWR_CFG_LINKTO ≤ s.elapsed then s.abortBy 1 else s
      else match s.refusedAt5 e.target with
        | some c => s.abortBy c
        | none => s.commitEntry e.target l2
    | none => s

/-! Wakes (R595-R597). -/

/-- WAKEAT (R595 bit 5): CT has reached PWR_WAKEAT. -/
def execWakeat (s : State) : Res :=
  .next <|
    match s.sys.wakeAtCt with
    | some t => if t ≤ s.ct then (({ s with sys := { s.sys with wakeAtCt := none } } : State).wakeReq 0x20).wakeLatched else s
    | none => s

/-- MEMRDY (R596 steps 4 and 5): the core's state is restored, the interrupt controller first, and CT is loaded. -/
def execMemrdy (s : State) : Res :=
  .next <|
    if s.sys.wake = 3 then (({ s with sys := { s.sys with wake := 4, pstate := .run } } : State).startFab).wakeIcu else s

/-- WAKE_COMPLETE (R596 step 6). -/
def execWakeComplete (s : State) : Res :=
  .next <|
    if s.sys.wake ≠ 4 then s
    else
      let s := s.handback fun s =>
        { s with sys := { s.sys with wake := 0, wakeShed := false, wakeLatch := 0, wakeRetry := none } }
      let s := ((List.range 4).foldl State.portOn s).raiseHub srcWAKE
      let up := s.sys.host && !s.sys.hostLink
      let s : State := { s with sys := { s.sys with hostWake := up, peWake := up && s.sys.l2 } }
      let s := (s.phase 0).noteIso
      match s.sys.rstPend with
      | some (k, src) => ({ s with sys := { s.sys with rstPend := none } } : State).beginReset k src
      | none => s

/-- WAKE_PG_TIMEOUT (R597): 10 ms after the start of a wake. -/
def execWakePgTimeout (s : State) : Res :=
  .next <|
    if s.sys.wake = 1 ∧ s.sys.wakeRetry.isNone ∧ s.sys.wakeAt + 10 * msNs ≤ s.elapsed then
      let s := (s.inc PWR_WAKEFAIL).phase 0
      { s with sys := { s.sys with wake := b2n s.sys.wakeShed, pmicEn := false, wakeRetry := some s.elapsed } }
    else s

/-- WAKE_RETRY (R597): 100 ms after a failed wake, while a source is latched. -/
def execWakeRetry (s : State) : Res :=
  .next <|
    match s.sys.wakeRetry with
    | some t =>
      if t + 100 * msNs ≤ s.elapsed then
        let s : State := { s with sys := { s.sys with wakeRetry := none } }
        if s.sys.wakeShed ∧ s.sys.wake = 1 then { s.phase 2 with sys := { s.sys with pmicEn := true, wakeAt := s.elapsed } }
        else s.wakeLatched
      else s
    | none => s

/-! The watch engine (R598). -/

/-- WATCH_CYCLE (R598): in each second of CT the watch engine sends the beacons due, takes the first instant of each wheel entry, and
decodes and steps what is queued. -/
def execWatchCycle (s : State) : Res :=
  .next <|
    let k := s.ct / 1000000000
    if !s.watchLive ∨ s.booting ∨ s.sys.pstate = .off ∨ s.sys.watchCyc = some k then s
    else
      let s : State := { s with sys := { s.sys with watchCyc := some k } }
      let s := (List.range 64).foldl (fun s b =>
        match s.nextStart b with
        | some c => if s.busRuns b && decide (c ≤ s.ct) then s.beacon b c else s
        | none => s) s
      let s := (s.psc.ents.filter fun e => e.watch && e.src == exWHEEL).foldl (fun s e =>
        (s.modEnt e.idx fun e => e.skipTo (k * 1000000000)).wheelInstant e.idx) s
      let s := times State.decodeHead s.ept.queue.length s
      times State.rcgHead s.rcg.queue.length s

/-! Shedding (R600-R602). -/

/-- The register of PWR_SHEDn. -/
def shedFld (n hi lo : Nat) : Fld := ⟨0x34C30 + 4 * (n - 1), hi, lo⟩

/-- The trigger of stage n asserts (R600). -/
def State.trigOn (s : State) (n : Nat) : Bool :=
  let th := s.g (shedFld n 31 24)
  decide (s.g PWR_MEAS_VAON < s.g (shedFld n 11 0)) || (th != 0 && decide ((th : Int) < s.tj)) || (n == 5 && !s.sys.pfailN)

/-- The trigger of stage n is clear (R600). -/
def State.trigOff (s : State) (n : Nat) : Bool :=
  let th := s.g (shedFld n 31 24)
  decide (s.g (shedFld n 11 0) + s.g (shedFld n 19 14) ≤ s.g PWR_MEAS_VAON) &&
    (th == 0 || decide (s.tj ≤ (th : Int) - s.g (shedFld n 23 20))) && (n != 5 || s.sys.pfailN)

/-- The highest asserted stage. -/
def State.wantStage (s : State) : Nat := (List.range 5).foldl (fun m k => if s.trigOn (k + 1) then k + 1 else m) 0

/-- PWR_MEAS takes a measurement. -/
def State.measure (s : State) (mv : Nat) (tj : Int) : State := (s.f PWR_MEAS_VAON mv).f PWR_MEAS_TJ (unsigned 9 tj)

/-- The stage in force changes: the SHED source and event 376 (R600). -/
def State.setStage (s : State) (n : Nat) : State :=
  let s := (s.f PWR_STS_STAGE n).f PSC_STS_STAGE n
  let s : State := { s with sys := { s.sys with clearSince := none } }
  (s.raiseHub srcSHED).event 376 s.ct

/-- What a stage below 4 suspends or gives back follows the stage (R261, R338, R369). -/
def State.followStage (s : State) : State := ((s.schedStage.mashStage).rcgStage).canPins

/-- The hub is asleep, or on its way out of sleep: stages 1 to 4 change nothing (R602). -/
def State.asleep (s : State) : Bool := s.sys.pstate == .watch || s.sys.pstate == .hibernate

/-- The stage rises from `old` to n, with the actions of each stage passed in order (R601). -/
def State.riseTo (s : State) (n : Nat) : State :=
  let old := s.stage
  let s := if 4 ≤ n then s.abortBy 8 else s
  if n = 5 then (((s.setStage 5).inc (PWR_STAGECNT 4)).failOutputs).finalCommit
  else if s.asleep then
    let s := (s.setStage n).inc (PWR_STAGECNT (n - 1))
    if n = 4 ∧ s.sys.wake ≠ 0 then { s.phase 0 with sys := { s.sys with wake := 0, pmicEn := false, pmicPg := false, pllEn := false } } else s
  else
    let s := if old = 0 then (List.range 4).foldl State.shedLane s else s
    let s := if old < 3 ∧ 3 ≤ n then s.closeAll clSHED else s
    if n = 4 then
      let set := fun (s : State) => ({ s with sys := { s.sys with wake := 0, wakeShed := false, wakeRetry := none } } : State).setStage 4
      let s := (if s.watchRuns then set (s.phase 0) else s.handover set).inc (PWR_STAGECNT 3)
      s.coreDown.canPins
    else ((s.setStage n).inc (PWR_STAGECNT (n - 1))).followStage

/-- SHED_RISE (R600, R601): a measurement; the stage rises to the highest asserted. -/
def execShedRise (mv : Nat) (tj : Int) (s : State) : Res :=
  .next <|
    if s.sys.pstate = .off then s
    else
      let s := s.measure mv tj
      if s.stage < s.wantStage then s.riseTo s.wantStage else s

/-- The stage falls by one: what it did is undone (R601, R466). -/
def State.fallOne (s : State) : State :=
  let n := s.stage
  let s := s.setStage (n - 1)
  if n = 5 then
    let up := s.sys.pstate == .run || s.sys.pstate == .doze
    let excess := !s.sys.thermal
    let s : State := { s with sys := { s.sys with final := if excess then 0 else s.sys.final, pmicEn := s.sys.pmicEn || (up && excess) } }
    let s := if s.psc.ents.any fun e => e.watch then s else s.takeWatch
    (s.schedStage).rcgStage
  else if n = 4 then
    if s.asleep then s.wakeLatched else if s.shedSleeps then s.shedWake else s
  else if n = 1 then (List.range 4).foldl State.unshedLane s.followStage
  else s.followStage

/-- A measurement, and the fall of the stage once its trigger has stayed clear for DWELL (R600); stage 5 not before its commit has
ended. -/
def State.shedFall (s : State) : State :=
  if s.stage = 0 ∨ (s.stage = 5 ∧ s.sys.final = 1) then s
  else if !s.trigOff s.stage then { s with sys := { s.sys with clearSince := none } }
  else match s.sys.clearSince with
    | none => { s with sys := { s.sys with clearSince := some s.elapsed } }
    | some t => if t + msNs * s.g PWR_SHEDCFG_DWELL ≤ s.elapsed then s.fallOne else s

/-- SHED_FALL (R600, R601). -/
def execShedFall (mv : Nat) (tj : Int) (s : State) : Res :=
  .next (if s.sys.pstate = .off then s else (s.measure mv tj).shedFall)

/-! Loss of power (R588, R603, R466) and thermal shutdown (R624). -/

/-- POWER_FAIL (R603): 0 PFAIL_N falls, 1 VAON below VTHR5, 2 PMIC_PG falls while PMIC_EN is high (R588). -/
def execPowerFail (why mv : Nat) (s : State) : Res :=
  .next <|
    if s.sys.pstate = .off then s
    else
      let s := s.f PWR_MEAS_VAON mv
      let s : State := { s with sys := { s.sys with
        pfailN := s.sys.pfailN && why != 0, pmicPg := s.sys.pmicPg && !(why == 2 && s.sys.pmicEn) } }
      let hit := why = 0 ∨ (why = 1 ∧ s.trigOn 5) ∨ (why = 2 ∧ s.sys.pmicEn)
      if !hit then s else if s.stage ≠ 5 then s.riseTo 5 else s.failOutputs

/-- POWER_RESTORE (R466, R600): PFAIL_N rises; stage 5 falls once its trigger has stayed clear for DWELL. -/
def execPowerRestore (mv : Nat) (tj : Int) (s : State) : Res :=
  .next <|
    if s.sys.pstate = .off then s
    else (({ s with sys := { s.sys with pfailN := true } } : State).measure mv tj).shedFall

/-- A program is in progress: the head operation has its block. -/
def State.programming (s : State) : Bool := s.nvRuns && match s.nvs.ops with
  | o :: _ => o.tgt.isSome
  | [] => false

/-- The stop instant of a thermal shutdown (R624 step 4). -/
def State.thermalStop (s : State) : State := (s.lifeInc 6 1).finalCommit

/-- THERMAL_SHUTDOWN (R624 steps 1 and 2): Tj has reached 150 °C. -/
def execThermalShutdown (tj : Int) (s : State) : Res :=
  .next <|
    if tj < 150 ∨ s.sys.thermal ∨ s.sys.pstate = .off ∨ s.sys.final ≠ 0 then s
    else
      let run := s.programming
      let s := s.f PWR_MEAS_TJ (unsigned 9 tj)
      let s : State := { s with sys := { s.sys with thermal := true, coolSince := none, finalAt := s.elapsed } }
      if run then s.inc NVS_TDEFER else s.thermalStop

/-- NVM_PROGRAM_DONE (R613, R614, R623, R624): a program ends with its verify, in the core's service, in the deferral of a thermal
shutdown, or in the final commit. -/
def execNvmProgramDone (ok : Bool) (s : State) : Res :=
  .next <|
    if s.sys.final = 1 then
      match s.nvs.ops with
      | o :: _ => if o.begun ∨ o.isSnapshot then ((s.nvProgram ok).showNvs).finalDone else s
      | [] => s
    else if s.sys.final = 2 then s
    else if s.sys.thermal then
      let s := (s.nvProgram ok).showNvs
      match s.nvs.ops with
      | o :: _ => if o.begun ∧ (o.second ∨ o.retried) then s else s.thermalStop
      | [] => s.thermalStop
    else if s.nvRuns && !s.refreshWaits then (s.nvProgram ok).showNvs
    else s

/-- THERMAL_PROGRAM_ABANDON (R624 step 3): Tj reaches 155 °C in the deferral. -/
def execThermalProgramAbandon (tj : Int) (s : State) : Res :=
  .next <|
    if tj < 155 ∨ !s.sys.thermal ∨ s.sys.final ≠ 0 then s
    else
      let s := s.f PWR_MEAS_TJ (unsigned 9 tj)
      match s.nvs.ops with
      | o :: _ => ((s.nvAbandon o).showNvs).thermalStop
      | [] => s.thermalStop

/-- THERMAL_RECOVER (R624 step 5): Tj at or below 130 °C for 1 s; the hub leaves as R466 states. -/
def execThermalRecover (tj : Int) (s : State) : Res :=
  .next <|
    if !s.sys.thermal ∨ s.sys.final ≠ 2 then s
    else
      let s := s.f PWR_MEAS_TJ (unsigned 9 tj)
      if 130 < tj then { s with sys := { s.sys with coolSince := none } }
      else match s.sys.coolSince with
        | none => { s with sys := { s.sys with coolSince := some s.elapsed } }
        | some t =>
          if s.elapsed < t + 1000000000 then s
          else
            let up := s.sys.pstate == .run || s.sys.pstate == .doze
            let s : State := { s with sys := { s.sys with thermal := false, coolSince := none } }
            if s.stage = 5 then s
            else
              let s : State := { s with sys := { s.sys with final := 0, pmicEn := up } }
              if s.asleep then s.wakeLatched else if s.shedSleeps then s.shedWake else s

/-- The power counters (R609). -/
def pwrCounters : List Fld :=
  (List.range 8).map PWR_REFCNT ++ [PWR_WAKEABORT, PWR_WAKEFAIL, PWR_WATCHLOST, PWR_WATCHSKIP] ++ (List.range 5).map PWR_STAGECNT

/-- PWR_COUNTER_CLR (R610): PWR_CLR. -/
def execPwrCounterClr (v : Word) (s : State) : Res :=
  .next (s.barWrite rPWR_CLR 0 0 v fun s => s.clrWrite pwrCounters v)

end Sys2Proof.Machine
end

