-- ==== Sys2Proof/Machine/Sha.lean ====
section
/-! DEFINITION. The checks of a firmware image (spec/22_boot_and_bring_up.md R632): SHA-256 of FIPS 180-4 and the verification of an
ECDSA signature over NIST P-256 of FIPS 186-4 (PRESUMED: the spec names the algorithms, notes/assumptions/144.md). -/
namespace Sys2Proof.Machine

/-! SHA-256. -/

/-- The primes below n, in rising order. -/
def primesBelow (n : Nat) : List Nat :=
  (List.range n).filter fun p => decide (2 ≤ p) && (List.range p).all fun d => decide (d < 2) || p % d != 0

/-- The whole part of the k-th root of v, where it has at most n bits: bit by bit from the top. -/
def rootOf (k v : Nat) : Nat → Nat → Nat
  | 0, r => r
  | n + 1, r => rootOf k v n (if (r + 2 ^ n) ^ k ≤ v then r + 2 ^ n else r)

/-- The first 32 bits of the fraction of the k-th root of a number below 2^9. -/
def rootFraction (k p : Nat) : Nat := rootOf k (p * 2 ^ (32 * k)) 37 0 % 2 ^ 32

/-- The round constants: from the cube roots of the first 64 primes. -/
def shaK : List Nat := (primesBelow 312).map (rootFraction 3)

/-- The initial hash value: from the square roots of the first 8 primes. -/
def shaH0 : List Nat := (primesBelow 20).map (rootFraction 2)

/-- A 32-bit word rotated right by n. -/
def ror (n x : Nat) : Nat := x / 2 ^ n + x % 2 ^ n * 2 ^ (32 - n)

/-- Three exclusive-ors at once. -/
def xor3 (a b c : Nat) : Nat := Nat.xor a (Nat.xor b c)

/-- The message schedule, newest word first: `n` more words. -/
def shaSchedule : Nat → List Nat → List Nat
  | 0, w => w
  | n + 1, w =>
    let a := w.getD 14 0
    let b := w.getD 1 0
    let s0 := xor3 (ror 7 a) (ror 18 a) (a / 8)
    let s1 := xor3 (ror 17 b) (ror 19 b) (b / 1024)
    shaSchedule n ((w.getD 15 0 + s0 + w.getD 6 0 + s1) % 2 ^ 32 :: w)

/-- One round on the eight working words. -/
def shaRound (v : List Nat) (kw : Nat × Nat) : List Nat :=
  match v with
  | [a, b, c, d, e, f, g, h] =>
    let ch := Nat.xor (Nat.land e f) (Nat.land (2 ^ 32 - 1 - e) g)
    let t1 := h + xor3 (ror 6 e) (ror 11 e) (ror 25 e) + ch + kw.1 + kw.2
    let t2 := xor3 (ror 2 a) (ror 13 a) (ror 22 a) + xor3 (Nat.land a b) (Nat.land a c) (Nat.land b c)
    [(t1 + t2) % 2 ^ 32, a, b, c, (d + t1) % 2 ^ 32, e, f, g]
  | _ => v

/-- The value of bytes, the most significant first. -/
def be (bs : List Nat) : Nat := bs.foldl (fun n b => 256 * n + b % 256) 0

/-- `n` bytes of a value, the most significant first. -/
def toBe (n v : Nat) : List Nat := (toLe n v).reverse

/-- The words of a block, newest first. -/
def shaWords (b : List Nat) : List Nat := ((List.range 16).map fun k => be ((b.drop (4 * k)).take 4)).reverse

/-- The hash value after one 64-byte block. -/
def shaBlock (h b : List Nat) : List Nat :=
  let w := (shaSchedule 48 (shaWords b)).reverse
  let v := (shaK.zip w).foldl shaRound h
  (h.zip v).map fun x => (x.1 + x.2) % 2 ^ 32

/-- The hash value after n blocks. -/
def shaBlocks : Nat → List Nat → List Nat → List Nat
  | 0, h, _ => h
  | n + 1, h, bs => shaBlocks n (shaBlock h (bs.take 64)) (bs.drop 64)

/-- SHA-256 of bytes, as 32 bytes. -/
def sha256 (bs : List Nat) : List Nat :=
  let n := bs.length
  let pad := bs ++ [0x80] ++ List.replicate ((119 - n % 64) % 64) 0 ++ toBe 8 (8 * n)
  ((shaBlocks (pad.length / 64) shaH0 pad).map (toBe 4)).flatten

/-! ECDSA over P-256. -/

abbrev p256P : Nat := 0xFFFFFFFF00000001000000000000000000000000FFFFFFFFFFFFFFFFFFFFFFFF
abbrev p256B : Nat := 0x5AC635D8AA3A93E7B3EBBD55769886BC651D06B0CC53B0F63BCE3C3E27D2604B
abbrev p256N : Nat := 0xFFFFFFFF00000000FFFFFFFFFFFFFFFFBCE6FAADA7179E84F3B9CAC2FC632551

/-- A point; none is the point at infinity. -/
abbrev Point := Option (Nat × Nat)

/-- The base point. -/
def p256G : Point :=
  some (0x6B17D1F2E12C4247F8BCE6E563A440F277037D812DEB33A0F4A13945D898C296,
    0x4FE342E2FE1A7F9B8EE7EB4A7C0F9E162BCE33576B315ECECBB6406837BF51F5)

/-- b to the power e modulo m, for exponents of up to n bits. -/
def powMod (m : Nat) : Nat → Nat → Nat → Nat
  | 0, _, _ => 1 % m
  | n + 1, b, e =>
    let r := powMod m n (b * b % m) (e / 2)
    if e % 2 = 1 then r * b % m else r

/-- The inverse modulo a prime. -/
def invMod (m a : Nat) : Nat := powMod m 256 (a % m) (m - 2)

/-- The difference modulo p. -/
def subP (a b : Nat) : Nat := (a + p256P - b % p256P) % p256P

/-- The point with slope l through (x1, y1) and a point of abscissa x2. -/
def chord (l x1 y1 x2 : Nat) : Point :=
  let x := subP (subP (l * l % p256P) x1) x2
  some (x, subP (l * subP x1 x % p256P) y1)

/-- The sum of two points. -/
def addPt (a b : Point) : Point :=
  match a, b with
  | none, _ => b
  | _, none => a
  | some (x1, y1), some (x2, y2) =>
    if x1 = x2 then
      if (y1 + y2) % p256P = 0 then none
      else chord ((3 * x1 * x1 + p256P - 3) % p256P * invMod p256P (2 * y1) % p256P) x1 y1 x2
    else chord (subP y2 y1 * invMod p256P (subP x2 x1) % p256P) x1 y1 x2

/-- k times a point, for k of up to n bits. -/
def mulPt : Nat → Nat → Point → Point
  | 0, _, _ => none
  | n + 1, k, q =>
    let r := mulPt n (k / 2) (addPt q q)
    if k % 2 = 1 then addPt r q else r

/-- The point lies on the curve. -/
def onCurve (x y : Nat) : Bool :=
  decide (x < p256P) && decide (y < p256P) && y * y % p256P == (x * x * x + (p256P - 3) * x + p256B) % p256P

/-- The signature (r, t) of a hash verifies under the public key (x, y). -/
def ecdsaVerifies (x y r t hash : Nat) : Bool :=
  decide (0 < r) && decide (r < p256N) && decide (0 < t) && decide (t < p256N) && onCurve x y &&
    let w := invMod p256N t
    match addPt (mulPt 256 (hash * w % p256N) p256G) (mulPt 256 (r * w % p256N) (some (x, y))) with
    | none => false
    | some (v, _) => v % p256N == r

end Sys2Proof.Machine
end

