-- ==== Sys2Proof/Machine/Boot.lean ====
section
/-! DEFINITION. Power-on reset, the boot stages, the firmware and guard images, and configuration requests
(spec/22_boot_and_bring_up.md; spec/13_rings_doorbells_and_casks.md R404). -/
namespace Sys2Proof.Machine

/-! Power-on reset (R571, R585, R594). -/

/-- The life counters of the newest visible record (R621). -/
def NvsS.lastCnt (n : NvsS) : Tbl Nat :=
  match n.lifes with
  | r :: _ => (List.range 48).foldl (fun (m : Tbl Nat) k => m.set (fun _ => 0) k (r.cnt.getD k 0)) {}
  | [] => {}

/-- A power-on reset: by `vaon`, VAON below its power-on threshold or the end of OFF; else by PORST_N. -/
def State.powerOn (s : State) (vaon : Bool) : State :=
  let s := s.unpowered
  let s : State := { s with nvs := { s.nvs with cnt := s.nvs.lastCnt } }
  (s.f RST_CAUSE_SRC (b2n vaon)).f RST_CAUSE_KIND 0

/-- POWER_ON_RESET (R571). -/
def execPowerOnReset (vaon : Bool) (s : State) : Res := .next (s.powerOn vaon)

/-- WAKE_SOURCE (R594, R595): sources from outside by their bits 0 (WAKE_IN_N), 6 (signal on a bond receiver whose port is enabled) and 7
(PE_PERST_N negated), with those already latched. In OFF, WAKE_IN_N starts a power-on reset. -/
def execWakeSource (bits : Nat) (s : State) : Res :=
  .next <|
    if s.sys.pstate = .off then (if nbit bits 0 then s.powerOn true else s)
    else
      let en := (List.range 4).any fun p => s.on (BND_PCFG_EN p)
      let b := Nat.land bits (if en then 0xC1 else 0x81)
      (s.wakeReq b).wakeLatched

/-! Firmware images (R632). -/

/-- Bytes lo..hi-1 of a structure are zero. -/
def zeros (b : List Nat) (lo hi : Nat) : Bool := ((b.drop lo).take (hi - lo)).all fun x => x == 0

/-- An image's RELEASE. -/
def imgRelease (b : List Nat) : Nat := leAt b 8 4

/-- An image's SEQ. -/
def imgSeq (b : List Nat) : Nat := leAt b 12 4

/-- An image's body. -/
def imgBody (b : List Nat) : List Nat := (b.drop 256).take (leAt b 16 4)

/-- The reason that an image is not valid, coded as R633; 0 for a valid one. An erased slot has no MAGIC. -/
def imgReason (b keyDigest : List Nat) : Nat :=
  let len := leAt b 16 4
  let pub := (b.drop 128).take 96
  if leAt b 0 4 ≠ 0x4B484456 ∨ leAt b 4 2 ≠ 1 ∨ len < 4096 ∨ 1044480 < len ∨ len % 4096 ≠ 0 ∨ !zeros b 6 8 ∨ !zeros b 20 32 ∨ !zeros b 192 256 ∨
      imgRelease b / 2 ^ 24 ≠ 2 then 1
  else if sha256 pub ≠ keyDigest ∨
      !ecdsaVerifies (be (pub.take 32)) (be ((pub.drop 32).take 32)) (be ((b.drop 64).take 32)) (be ((b.drop 96).take 32)) (be (sha256 (b.take 64))) then 3
  else if (imgBody b).length ≠ len ∨ sha256 (imgBody b) ≠ (b.drop 32).take 32 then 2
  else 0

/-- Stage IMAGE (R632): the valid image with the higher SEQ, A of equals; `ra` and `rb`, the slots read without failure. -/
def State.bootImage (s : State) (ra rb : Bool) : State :=
  let a := s.boot.a
  let b := s.boot.b
  let wa := if ra then imgReason a s.boot.keyDigest else 4
  let wb := if rb then imgReason b s.boot.keyDigest else 4
  let s := (s.f BOOT_IMG_AVALID (b2n (wa == 0))).f BOOT_IMG_BVALID (b2n (wb == 0))
  if wa ≠ 0 ∧ wb ≠ 0 then (s.f BOOT_STS_IMGREASON wa).f BOOT_STS_STAGE 0xA
  else
    let useB := wa != 0 || (wb == 0 && decide (imgSeq a < imgSeq b))
    let s := (s.f BOOT_IMG_ACTIVE (b2n useB)).f BOOT_FWREL (imgRelease (if useB then b else a))
    let s := s.f BOOT_STS_IMGREASON (if useB then wa else wb)
    let other := if useB then a else b
    let s := s.f BOOT_IMG_FALLBACK (b2n ((wa != 0 || wb != 0) && !other.isEmpty))
    s.f BOOT_STS_STAGE 4

/-! Stages MAP and LIFE (R43, R612, R617, R621, R622). -/

/-- Stage MAP: the map rebuilt from the newest base and the records that follow it (R612), the registers that follow it, and the dirty
spares that are still to be erased. -/
def State.bootMap (s : State) : State :=
  let s : State := { s with nvs := { s.nvs with map := s.nvs.rebuilt } }
  let s := (List.range 7).foldl (fun s r =>
    let good := (s.blksIn r 1).length
    let spare := (s.blksIn r 2).length + (s.blksIn r 3).length
    (s.f (rgnFld r 11 0) good).f (rgnFld r 23 16) spare) s
  let dirty := (List.range 2048).filter fun p => (s.blk p).state == 3
  let s : State := { s with nvs := { s.nvs with erases := dirty } }
  (if s.g (rgnFld 5 11 0) < 64 then s.f NVS_STS_JRO 1 else s).showJournal.showNvs

/-- Stage LIFE: CT from the newest record in HOLDOVER, else zero in UNSET; the boot count; the BOOT records. -/
def State.bootLife (s : State) : State :=
  let s := match s.nvs.lifes with
    | r :: _ =>
      let s : State := { s with time := { s.time with acc := r.ct * 2 ^ 32, stepSum := 0, aon := r.aon } }
      ((s.f64 TIM_CTINCLO TIM_CTINCHI r.inc).f TIM_CTSTS_SNAPSHOT 1).setCtState ctHOLDOVER
    | [] =>
      let s : State := { s with time := { s.time with acc := 0, stepSum := 0 } }
      s.setCtState ctUNSET
  let s := if s.nvs.snapBad then s.lifeInc 8 1 else s
  let s : State := { s with nvs := { s.nvs with snapBad := false } }
  let last := s.life 0
  let s :=
    if s.rgnWorn 4 then
      let n := 2 ^ 31 + s.fresh % 2 ^ 31
      (s.drew).f ROL_BOOTCNT (if n = last then 2 ^ 31 + (n + 1) % 2 ^ 31 else n)
    else (s.lifeInc 0 1).f ROL_BOOTCNT (min (last + 1) (2 ^ 32 - 1))
  let s := s.lifeRecord 2
  if s.on NVS_STS_JRO ∨ 256 ≤ s.nvs.jq.length then s
  else s.jpush 3 (toLe 4 (s.rd (rRST_CAUSE.at 0 0)).toNat ++ [0, 0, 0, 0] ++ toLe 8 s.ct ++ List.replicate 16 0)

/-! The guard image (R637). -/

/-- A register write by the firmware: the checks of R9, then the register's own action. -/
def State.fwWrite (s : State) (r : Reg) (i : Nat) (v : Word) (act : State → State) : State :=
  match r.check v with
  | some c => s.discard r i 0 c
  | none => act s

/-- The value at a place of the guard image is written to its register (R637). -/
def State.guardReg (s : State) (c k : Nat) (v : Word) : State :=
  match k with
  | 0 => s.fwWrite rGRD_CCFG c v fun s => s.grdCfgWrite c v
  | 1 => s.fwWrite rGRD_CILIM c v fun s => s.grdIlimWrite c v
  | 2 => s.fwWrite rGRD_CVLIM c v fun s => s.grdVlimWrite c v
  | 3 => s.fwWrite rGRD_CIFS c v fun s => s.store rGRD_CIFS c 0 v
  | 4 => s.fwWrite rGRD_CVFS c v fun s => s.store rGRD_CVFS c 0 v
  | 5 => s.fwWrite rGRD_CELIM c v fun s => s.store rGRD_CELIM c 0 v
  | 6 => s.fwWrite rGRD_CEWIN c v fun s => s.grdEwinWrite c v
  | 7 => s.fwWrite rGRD_CTOFF c v fun s => s.store rGRD_CTOFF c 0 v
  | _ => s.fwWrite rGRD_CBUDGET c v fun s => s.grdBudgetWrite c v

/-- The writes of the image in order, up to the first that is discarded: its channel, 32 for TRIPCFG. -/
def State.guardWrites (b : List Nat) : List Nat → State → State × Option Nat
  | [], s => (s, none)
  | n :: l, s =>
    let c := n / 9
    let k := n % 9
    let s := if n = 288 then (let v := Word.ofNat (leAt b 1168 4); s.fwWrite rGRD_TRIPCFG 0 v fun s => s.store rGRD_TRIPCFG 0 0 v)
      else s.guardReg c k (Word.ofNat (leAt b (16 + 36 * c + 4 * k) 4))
    if s.rd GRD_ERRSTS = 0 then State.guardWrites b l s else (s, some c)

/-- The header, a reserved field or the CRC of a guard image is wrong. -/
def guardBad (b : List Nat) : Bool :=
  leAt b 0 4 != 0x44524756 || leAt b 4 2 != 1 || leAt b 6 2 != 32 || leAt b 8 4 != 1180 || leAt b 12 4 != 0 || leAt b 1172 4 != 0 ||
    leAt b 1176 4 != crc32 (b.take 1176) || decide (b.length < 1180)

/-- Stage GUARD: the image is applied and LOCK set, or every guard register keeps its reset value and the reason stands in GSTS. -/
def State.bootGuard (s : State) (rg : Bool) : State :=
  let b := s.boot.guard
  if !rg then s.f BOOT_GSTS_REASON 4
  else if b.isEmpty then s.f BOOT_GSTS_REASON 1
  else if guardBad b then s.f BOOT_GSTS_REASON 2
  else
    match State.guardWrites b (List.range 289) s with
    | (t, none) => (t.lockWrite 1).f BOOT_GSTS_REASON 0
    | (_, some c) => (s.f BOOT_GSTS_REASON 3).f BOOT_GSTS_CH c

/-! The stages (R630). -/

/-- CKFAB periods since PORST_N rose, in milliseconds. -/
def State.bootMs (s : State) : Nat := (s.time.cyc - s.time.cyc.min s.sys.porstAt) / 1200000

/-- Stage READY: tenant 0 may set the hub up; enabled ports train. -/
def State.bootReady (s : State) : State :=
  let s := ((s.f RST_STS_READY 1).f BOOT_TREADY (min s.bootMs 65535)).f BOOT_STS_STAGE 9
  ((List.range 4).foldl State.portOn s).noteIso

/-- BOOT_STAGE_DONE (R630): the stage in progress has done what it does, and the next begins. `ra`, `rb`, `rg`: image slot A, image slot
B and the guard image slot were read without failure. -/
def execBootStageDone (ra rb rg : Bool) (s : State) : Res :=
  .next <|
    if s.sys.pstate = .off ∨ s.sys.tap ∨ s.sys.final ≠ 0 then s
    else
      match s.g BOOT_STS_STAGE with
      | 0 => ({ s with sys := { s.sys with porstAt := s.time.cyc } } : State).f BOOT_STS_STAGE 1
      | 1 => if s.on CLK_STS_XINOK ∧ s.sys.pmicPg ∧ s.on CLK_STS_ROOTLOCK then s.f BOOT_STS_STAGE 2 else s
      | 2 => s.bootMap.f BOOT_STS_STAGE 3
      | 3 => s.bootImage ra rb
      | 4 => s.f BOOT_STS_STAGE 5
      | 5 => s.bootLife.f BOOT_STS_STAGE 6
      | 6 => (s.bootGuard rg).f BOOT_STS_STAGE 7
      | 7 => (s.bootTables.f BOOT_STS_STAGE 8).wakeIcu
      | 8 => s.bootReady
      | _ => s

/-- A limit counted in CKFAB periods from an instant has passed. -/
def State.past (s : State) (from_ us : Nat) : Bool := decide (from_ + 1200 * us ≤ s.time.cyc)

/-- A lane PLL of an enabled port has not locked within 500 µs (R568 step 5). -/
def State.laneLate (s : State) : Bool :=
  (List.range 4).any fun p =>
    (s.port p).step == 1 && Nat.land (s.g CLK_STS_LANELOCK) (3 * 4 ^ p) == 0 && decide ((s.port p).stepAt + 500000 ≤ s.elapsed)

/-- BOOT_STAGE_TIMEOUT (R568, R597, R630): a stage, or a step of the clocks, exceeds its limit. -/
def execBootStageTimeout (s : State) : Res :=
  .next <|
    if s.sys.pstate = .off then s
    else
      match s.g BOOT_STS_STAGE with
      | 0 => s
      | 1 =>
        if !s.on CLK_STS_XINOK then (if s.past s.sys.porstAt 5000 then s.f CLK_STS_FAIL 1 else s)
        else if s.sys.pgWait then
          if s.past s.sys.pmicAt 100000 then
            ({ s with sys := { s.sys with pgWait := false, pmicEn := true, pmicAt := s.time.cyc } } : State).inc BOOT_HKSTS_PGRETRY
          else s
        else if !s.sys.pmicPg then
          if s.sys.pmicEn ∧ s.past s.sys.pmicAt 10000 then
            { s with sys := { s.sys with pgWait := true, pmicEn := false, pmicAt := s.time.cyc } }
          else s
        else if !s.on CLK_STS_ROOTLOCK ∧ s.past s.sys.pgAt 200 then s.f CLK_STS_FAIL 1
        else s
      | 2 => if s.past s.sys.pgAt 5000 then ((s.bootMap).setWorn 0).f BOOT_STS_STAGE 3 else s
      | 3 => if s.past s.sys.pgAt 20000 then s.f BOOT_STS_STAGE 0xA else s
      | 4 => if s.past s.sys.pgAt 25000 then (s.inc RST_WDTCNT).noteReset .hk 6 else s
      | _ => if (s.sys.pllEn ∧ !s.on CLK_STS_ROOTLOCK ∧ s.past s.sys.pgAt 200) ∨ s.laneLate = true then s.f CLK_STS_FAIL 1 else s

/-! Configuration requests (R404, R636). -/

/-- What a configuration register reads as, where the spec says it (R404); the BARs keep the address bits that lie above their size. -/
def State.cfgWord (s : State) (o : Nat) : Option Nat :=
  let w := s.sys.cfg.get (fun _ => 0) o
  if o = 0 then some 0x71401F8A
  else if o = 8 then some 0x11800002
  else if o = 0x10 then some (w / 2 ^ 18 * 2 ^ 18 + 4)
  else if o = 0x18 then some (w / 2 ^ 23 * 2 ^ 23 + 4)
  else if o = 0x14 ∨ o = 0x1C then some w
  else if o = 0x20 ∨ o = 0x24 then some 0
  else if o = 0x2C then some 0x71401F8A
  else if o = 0x3C then some (w % 256)
  else none

/-- CONFIG_REQUEST (R636): a read or a write of a 32-bit configuration register, answered with retry status until stage HOSTREADY. -/
def execConfigRequest (wr : Bool) (ofs : Nat) (v : Word) (s : State) : Res :=
  .next <|
    if !s.sys.hostLink then s
    else if s.g BOOT_STS_STAGE < 8 then { s with sys := { s.sys with cfgRetry := true } }
    else
      let o := ofs / 4 * 4
      let s : State := { s with sys := { s.sys with cfgRetry := false } }
      if wr then { s with sys := { s.sys with cfg := s.sys.cfg.set (fun _ => 0) o v.toNat } }
      else match s.cfgWord o with
        | some w => { s with rdata := w }
        | none => { s.drew with rdata := s.fresh % 2 ^ 32 }

/-! Updates (R633). -/

/-- The slot the hub does not run from is B. -/
def State.updB (s : State) : Bool := s.g BOOT_STS_STAGE == 0xA || !s.on BOOT_IMG_ACTIVE

/-- Sets the slot under update. -/
def State.setSlot (s : State) (b : List Nat) : State :=
  if s.updB then { s with boot := { s.boot with b := b } } else { s with boot := { s.boot with a := b } }

/-- A write of BOOT_UPCTL. -/
def State.upCtlWrite (s : State) (v : Word) : State :=
  if !wbit v 0 then s
  else if s.g BOOT_UPSTS_STATE = 1 then s.discard rBOOT_UPCTL 0 0 BUSY
  else if !s.on MEM_CFG_EN then s.discard rBOOT_UPCTL 0 0 NOT_IN_STATE
  else (((s.f BOOT_UPSTS_STATE 1).f BOOT_UPSTS_REASON 0).setSlot []).showNvs

/-- UPDATE_GO (R633): GO of BOOT_UPCTL. -/
def execUpdateGo (s : State) : Res := .next (s.barWrite rBOOT_UPCTL 0 0 1 fun s => s.upCtlWrite 1)

/-- The image the hub runs from, and its SEQ; none in RECOVERY. -/
def State.runSeq (s : State) : Option Nat :=
  if s.g BOOT_STS_STAGE = 0xA then none else some (imgSeq (if s.on BOOT_IMG_ACTIVE then s.boot.b else s.boot.a))

/-- UPDATE_DONE (R633): the copy ends. `rd`: the memory port gave every byte; `st`: the region gave good blocks; `b`: the image. -/
def execUpdateDone (rd st : Bool) (b : List Nat) (s : State) : Res :=
  .next <|
    if s.g BOOT_UPSTS_STATE ≠ 1 then s
    else
      let why := if !rd then 4 else if !st ∨ s.rgnWorn 1 then 5 else imgReason b s.boot.keyDigest
      let old : Bool := match s.runSeq with | some q => decide (imgSeq b ≤ q) | none => false
      let why := if why = 0 ∧ old then 6 else why
      let s := if why = 4 ∨ why = 5 then s else s.setSlot b
      let s := if why = 5 then s.setWorn 1 else s
      (((s.f BOOT_UPSTS_STATE (if why = 0 then 2 else 3)).f BOOT_UPSTS_REASON why).showNvs).raiseHub srcTABLE

/-! Guard image operations (R638, R639). -/

/-- The guard image of the present registers. -/
def State.guardImage (s : State) : List Nat :=
  let ch := fun (c : Nat) => ((List.range 9).map fun k => toLe 4 (s.rd (0x2A100 + 0x80 * c + 4 * k)).toNat).flatten
  let b := toLe 4 0x44524756 ++ toLe 2 1 ++ toLe 2 32 ++ toLe 4 1180 ++ [0, 0, 0, 0] ++ ((List.range 32).map ch).flatten ++
    toLe 4 (s.rd (rGRD_TRIPCFG.at 0 0)).toNat ++ [0, 0, 0, 0]
  b ++ toLe 4 (crc32 b)

/-- A write of BOOT_GCTL. -/
def State.gCtlWrite (s : State) (v : Word) : State :=
  if wbit v 0 ∧ wbit v 1 then s.discard rBOOT_GCTL 0 0 RESERVED_NONZERO
  else if !wbit v 0 ∧ !wbit v 1 then s
  else if s.rgnWorn 2 then s.discard rBOOT_GCTL 0 0 NVM_WORN
  else if s.sw = swSTORING ∨ s.boot.gop.isSome then s.discard rBOOT_GCTL 0 0 BUSY
  else
    let b := if wbit v 0 then s.guardImage else []
    (({ s with boot := { s.boot with gop := some b } } : State).f BOOT_GSTS_BUSY 1).showNvs

/-- GUARD_IMAGE_STORE (R638): STORE of BOOT_GCTL. -/
def execGuardImageStore (s : State) : Res := .next (s.barWrite rBOOT_GCTL 0 0 1 fun s => s.gCtlWrite 1)

/-- GUARD_IMAGE_ERASE (R638): ERASE of BOOT_GCTL. -/
def execGuardImageErase (s : State) : Res := .next (s.barWrite rBOOT_GCTL 0 0 2 fun s => s.gCtlWrite 2)

/-- GUARD_IMAGE_DONE (R638): the operation ends; `ok`: the region gave a good block. -/
def execGuardImageDone (ok : Bool) (s : State) : Res :=
  .next <|
    match s.boot.gop with
    | none => s
    | some b =>
      let s : State := { s with boot := { s.boot with gop := none, guard := if ok then b else s.boot.guard } }
      let s := if ok then s else (s.setWorn 2).discard rBOOT_GCTL 0 0 NVM_WORN
      ((s.f BOOT_GSTS_BUSY 0).showNvs).raiseHub srcTABLE

end Sys2Proof.Machine
end

