-- ==== Sys2Proof/Machine/Doorbell.lean ====
section
/-! DEFINITION. The words of a doorbell page (spec/13_rings_doorbells_and_casks.md R407-R409, R415; spec/19_clocks_resets_and_crossings.md
R581; spec/20_power_states_and_shedding.md R592). -/
namespace Sys2Proof.Machine

/-- BAR2 offset of a word of a tenant's doorbell page (R406). -/
def bellOff (t o : Nat) : Nat := 4096 * t + o

/-- A doorbell write: it ends DOZE, meets a stopped clock as R581 states, and aborts an entry with TENANT_WAKE_VOTE (R592); then the
word acts. -/
def State.bell (s : State) (t o : Nat) (act : State → State) : State :=
  let s := s.wakeDoze 0x400
  if s.stopped RNG_ERRSTS then s.clockStopped (bellOff t o)
  else act (if s.sys.entry.isSome then s.abortBy 4 else s)

/-- CMDTAIL (R408). -/
def execCmdtail (t : Nat) (v : Word) (s : State) : Res := .next (s.bell t 0 fun s => s.cmdTail t v)

/-- CPLHEAD (R408). -/
def execCplhead (t : Nat) (v : Word) (s : State) : Res := .next (s.bell t 4 fun s => s.cplHead t v)

/-- EVTHEAD (R408). -/
def execEvthead (t : Nat) (v : Word) (s : State) : Res := .next (s.bell t 8 fun s => s.evtHead t v)

/-- A write of CTL (R408, R415). -/
def State.ctlBell (s : State) (t : Nat) (v : Word) : State := s.bell t 0xC fun s => s.ctlWrite t v

/-- RESUMECMD (R415): CTL written with bit 0 set. -/
def execResumecmd (t : Nat) (v : Word) (s : State) : Res := .next (s.ctlBell t (v ||| 1))

/-- RESUMECPL (R415): CTL written with bit 1 set. -/
def execResumecpl (t : Nat) (v : Word) (s : State) : Res := .next (s.ctlBell t (v ||| 2))

/-- RESUMEEVT (R415): CTL written with bit 2 set. -/
def execResumeevt (t : Nat) (v : Word) (s : State) : Res := .next (s.ctlBell t (v ||| 4))

/-- CLRDBERR (R408): CTL written with bit 3 set. -/
def execClrdberr (t : Nat) (v : Word) (s : State) : Res := .next (s.ctlBell t (v ||| 8))

/-- POST (R408): POSTr. -/
def execPost (t r : Nat) (v : Word) (s : State) : Res := .next (s.bell t (0x10 + 4 * r) fun s => s.postWrite t r v)

/-- ACK (R408): ACKr. -/
def execAck (t r : Nat) (v : Word) (s : State) : Res := .next (s.bell t (0x30 + 4 * r) fun s => s.ackWrite t r v)

/-- An aligned 4-byte write in BAR2 (R406-R408, R543): a doorbell page, a target page, or a reserved offset. -/
def State.bar2Word (s : State) (ofs : Nat) (v : Word) : State :=
  let t := ofs / 4096
  let o := ofs % 4096
  let bad : State := s.bell t o fun s => s.inc RNG_DBERR
  let of_ : Res → State := fun r => match r with
    | .next x => x
    | _ => s
  if t < 1024 then
    if o = 0 then of_ (execCmdtail t v s)
    else if o = 4 then of_ (execCplhead t v s)
    else if o = 8 then of_ (execEvthead t v s)
    else if o = 0xC then s.ctlBell t v
    else if o < 0x30 then of_ (execPost t ((o - 0x10) / 4) v s)
    else if o < 0x50 then of_ (execAck t ((o - 0x30) / 4) v s)
    else bad
  else if t < 1056 then
    if o = 8 then of_ (execEoi (t - 1024) v s)
    else if o < 0x18 then s.wakeDoze 0x400
    else bad
  else bad

/-! Reads (R407, R408, R543). -/

/-- What a read of a word of a doorbell page returns; zero where the tenant is not ACTIVE with its home here. -/
def State.bellWord (s : State) (t o : Nat) : Nat :=
  let r := s.tr t
  if !s.served t then 0
  else if o = 0 then r.cmd.hub
  else if o = 4 then r.cpl.hub
  else if o = 8 then r.evt.hub
  else if o = 0xC then r.cmd.state + 8 * r.cpl.state + 64 * r.evt.state + 512 * b2n r.dberr
  else if o < 0x30 then (s.cr t ((o - 0x10) / 4)).hub
  else if o < 0x50 then (s.cr t ((o - 0x30) / 4)).ack
  else 0

/-- What a read of a word of target page k other than CLAIM returns. -/
def State.targetWord (s : State) (k o : Nat) : Nat :=
  let g := s.tgt k
  if o = 4 then g.lastCnt
  else if o = 0xC then
    s.runPri k + 16 * g.stack.length + 65536 * (match g.stack with
      | [] => 0xFFFF
      | (n, _) :: _ => n)
  else if o = 0x10 then
    match s.selected k with
    | some n => n + 65536 * (s.src n).prio
    | none => 0xFFFF
  else if o = 0x14 then g.lastErr
  else 0

/-- A read of word o of page t in BAR2 that claims nothing. -/
def State.bar2Show (s : State) (t o : Nat) : State :=
  if s.stopped (if t < 1024 then RNG_ERRSTS else ICU_ERRSTS) then s.readStopped (bellOff t o)
  else { s with rdata := if t < 1024 then s.bellWord t o else if t < 1056 then s.targetWord (t - 1024) o else 0 }

/-- An aligned 4-byte read in BAR2; the value is in `rdata`. A read of CLAIM claims. -/
def State.bar2Read (s : State) (ofs : Nat) : State :=
  let t := ofs / 4096
  let o := ofs % 4096
  if 1024 ≤ t ∧ t < 1056 ∧ o = 0 then
    match execClaim (t - 1024) s with
    | .next x => x
    | _ => s
  else (s.wakeDoze 0x400).bar2Show t o

/-- A write in BAR2 of n bytes: aligned words act, two of them in order; anything else is discarded and counted (R407). -/
def State.bar2Write (s : State) (ofs n : Nat) (v w : Word) : State :=
  if n = 4 ∧ ofs % 4 = 0 then s.bar2Word ofs v
  else if n = 8 ∧ ofs % 8 = 0 then (s.bar2Word ofs v).bar2Word (ofs + 4) w
  else s.bell (ofs / 4096) (ofs % 4096) fun s => s.inc RNG_DBERR

end Sys2Proof.Machine
end

