-- ==== Sys2Proof/Machine/Bar0.lean ====
section
/-! DEFINITION. BAR0 accesses by offset: every register's write, the MSI-X table, reads with their side effects, and remote accesses
(spec/00_scope.md R8-R11; spec/24_address_map.md R653-R656; spec/16_roles_splits_and_recoupling.md R529). -/
namespace Sys2Proof.Machine

/-! Checks across the fields of a register, where its own table names none. -/

/-- A write that a further check may discard, else stored. -/
def State.checked (s : State) (r : Reg) (i j : Nat) (v : Word) (bad : Option Nat) : State :=
  match bad with
  | some c => s.discard r i j c
  | none => s.store r i j v

/-- The trigger thresholds with stage n's replaced are out of order (R610): VTHR falls with n, and TTHR, where not zero, rises. -/
def State.shedBad (s : State) (n : Nat) (v : Word) : Bool :=
  let ws := (List.range 5).map fun k => if k + 1 = n then v else s.rd (shedFld (k + 1) 31 0).off
  let vt := ws.map fun w => wbits w 11 0
  let tt := (ws.map fun w => wbits w 31 24).filter fun t => t != 0
  let t := wbits v 31 24
  (0 < t && t < 100) || 145 < t || !(vt.zip (vt.drop 1)).all (fun (p : Nat × Nat) => decide (p.2 < p.1)) ||
    !(tt.zip (tt.drop 1)).all (fun (p : Nat × Nat) => decide (p.1 < p.2))

/-- A write of PWR_SHEDn (R610). -/
def State.shedWrite (s : State) (r : Reg) (n : Nat) (v : Word) : State :=
  s.checked r 0 0 v (if s.shedBad n v then some OUT_OF_RANGE else none)

/-- A write of PWR_WATCHBANK (R609). -/
def State.bankWrite (s : State) (v : Word) : State :=
  let b := wbits v 7 0
  let held := (List.range 64).any fun x => s.on (CRS_BCFG_WATCHEN x) && nbit (s.g PWR_WATCHBANK) (x / 8) && !nbit b (x / 8)
  s.checked rPWR_WATCHBANK 0 0 v
    (if 2 < ((List.range 8).filter fun k => nbit b k).length then some OUT_OF_RANGE else if held then some NOT_IN_STATE else none)

/-- A write of the HI word of PWR_WAKEAT arms the timed wake (R609). -/
def State.wakeAtWrite (s : State) (v : Word) : State :=
  let s := s.store rPWR_WAKEATHI 0 0 v
  { s with sys := { s.sys with wakeAtCt := some (s.g64 PWR_WAKEATLO PWR_WAKEATHI) } }

/-- A write of a message buffer's set-up (R222). -/
def State.mbWrite (s : State) (r : Reg) (x y : Nat) (v : Word) : State :=
  s.checked r x y v (if s.mbPending x y then some NOT_IN_STATE else none)

/-- A write of TIM_TUxCNTLO (R50). -/
def State.tuCntLoWrite (s : State) (x : Nat) (v : Word) : State :=
  s.checked rTIM_TUCNTLO x 0 v (if s.on (TIM_TUCTL_EN x) then some NOT_IN_STATE else none)

/-- A write of ROL_HOLD (R534): RETRYHOLD is greater than SPLITHOLD. -/
def State.holdWrite (s : State) (v : Word) : State :=
  s.checked rROL_HOLD 0 0 v (if wbits v 29 16 ≤ wbits v 9 0 then some OUT_OF_RANGE else none)

/-- A write of EPT_SWCTHI: the value of SWCT is taken (R305). -/
def State.swCtHiWrite (s : State) (v : Word) : State :=
  let s := s.store rEPT_SWCTHI 0 0 v
  { s with ept := { s.ept with swReg := s.g64 EPT_SWCTLO EPT_SWCTHI } }

/-- A register of one of the guard's monitors 32-95, of which a write is ignored (R185, R190). -/
def guardMonReg (r : Reg) (m : Nat) : Bool :=
  decide (32 ≤ m) && decide (m < 96) && (r.off == rWIN_MCFG.off || r.off == rWIN_MTHR.off)

/-- A write of MEM_AP word k (R204, R207). -/
def State.apWrite (s : State) (k : Nat) (v : Word) : State :=
  match execMemApWrite k v s with
  | .next t => t
  | _ => s

/-- The counters of bond port p (R502). -/
def bndCounters (p : Nat) : List Fld :=
  [BND_PFLITTX p, BND_PFLITRX p, BND_PFECCORR p, BND_PFECUNC p, BND_PCRCERR p, BND_PREPLAY p, BND_PLASTING p, BND_PFAILOVER p,
    BND_PLANEDROP p, BND_PLINKDOWN p, BND_PTRAINFAIL p, BND_PCREDSTALL p, BND_PFMTERR p, BND_PUNKCLASS p, BND_PREJTX p, BND_PREJRX p,
    BND_PNOROUTE p, BND_PDUPCASK p, BND_PTIMEBAD p]

/-! Every register's write. -/

/-- A register's offset and the action of a write to it, for element (i, j) and value v. -/
abbrev BarAct := Nat × (Nat → Nat → Word → State → State)

/-- Those of the TIM registers. -/
def barActsTim : List BarAct :=
  [(rTIM_SYNCUTCHI.off, fun _ _ v s => s.syncUtcWrite v),
   (rTIM_TUCTL.off, fun i _ v s => s.tuCtlWrite i v),
   (rTIM_TUSTARTHI.off, fun i _ v s => s.tuStartWrite i v),
   (rTIM_TUCNTLO.off, fun i _ v s => s.tuCntLoWrite i v),
   (rTIM_TUCNTHI.off, fun i _ v s => s.tuCntWrite i v),
   (rTIM_TUCMPHI.off, fun i j v s => s.cmpArm i j v),
   (rTIM_TUCAPCTL.off, fun i j v s => s.capCtlWrite i j v)]

/-- Those of the CRS registers. -/
def barActsCrs : List BarAct :=
  [(rCRS_BCFG.off, fun i _ v s => s.busCfgWrite i v),
   (rCRS_BCYCLEN.off, fun i _ v s => s.busLenWrite rCRS_BCYCLEN i v),
   (rCRS_BPHASE.off, fun i _ v s => s.busLenWrite rCRS_BPHASE i v),
   (rCRS_BSLOTCFG.off, fun i _ v s => s.busLenWrite rCRS_BSLOTCFG i v),
   (rCRS_BCLR.off, fun i _ v s => s.busClrWrite i v),
   (rCRS_BDROP.off, fun i _ v s => s.busDropWrite i v),
   (rCRS_BADMCLR.off, fun i _ v s => s.clrWrite [CRS_BADMITS i, CRS_BREFUSED i, CRS_BDEADMIT i] v)]

/-- Those of the GRD registers. -/
def barActsGrd : List BarAct :=
  [(rGRD_LOCK.off, fun _ _ v s => s.lockWrite v),
   (rGRD_TRIPCLR.off, fun _ _ v s => s.tripClr v),
   (rGRD_CCFG.off, fun i _ v s => s.grdCfgWrite i v),
   (rGRD_CILIM.off, fun i _ v s => s.grdIlimWrite i v),
   (rGRD_CVLIM.off, fun i _ v s => s.grdVlimWrite i v),
   (rGRD_CEWIN.off, fun i _ v s => s.grdEwinWrite i v),
   (rGRD_CBUDGET.off, fun i _ v s => s.grdBudgetWrite i v),
   (rGRD_CCTL.off, fun i _ v s => s.guCtlWrite i v),
   (rGRD_CCLR.off, fun i _ v s => s.clrWrite [GRD_CTRIPCNT i, GRD_CSTS_CAUSE i] v)]

/-- Those of the AFE registers. -/
def barActsAfe : List BarAct :=
  [(rAFE_LCFG.off, fun i _ v s => s.loopCfgWrite i v),
   (rAFE_LCLR.off, fun i _ v s => s.clrWrite [AFE_LCOMPCNT i] v)]

/-- Those of the WIN registers. -/
def barActsWin : List BarAct :=
  [(rWIN_SCCTL.off, fun _ _ v s => s.scWrite v),
   (rWIN_MCFG.off, fun i _ v s => s.winCfgWrite i v),
   (rWIN_MTHR.off, fun i _ v s => s.winThrWrite i v),
   (rWIN_MSPD.off, fun i _ v s => s.winSpdWrite i v)]

/-- Those of the SER registers. -/
def barActsSer : List BarAct :=
  [(rSER_TPLIDX.off, fun _ _ v s => s.tplIdxWrite v),
   (rSER_PCFG.off, fun i _ v s => s.serCfgWrite i v),
   (rSER_PCLR.off, fun i _ v s => s.clrWrite [SER_PLATE i, SER_PCHKERR i, SER_PRETRYOK i, SER_PLOST i] v)]

/-- Those of the MEM registers. -/
def barActsMem : List BarAct :=
  [(rMEM_CFG.off, fun _ _ v s => s.memCfgWrite v),
   (rMEM_FLUSH.off, fun _ _ v s => if wbit v 0 then s.flushPage else s),
   (rMEM_RAWCMD.off, fun _ _ v s => (s.rawWrite v (s.fresh % 2 ^ 32)).drew)]

/-- Those of the CAN registers. -/
def barActsCan : List BarAct :=
  [(rCAN_PCFG.off, fun i _ v s => s.canCfgWrite i v),
   (rCAN_PNBT.off, fun i _ v s => s.checked rCAN_PNBT i 0 v (s.canNbtFails i v)),
   (rCAN_PDBT.off, fun i _ v s => s.checked rCAN_PDBT i 0 v (s.canDbtFails i v)),
   (rCAN_PCTL.off, fun i _ v s => s.canRecover i v),
   (rCAN_PCLR.off, fun i _ v s =>
     s.clrWrite [CAN_PRXOK i, CAN_PTXOK i, CAN_PTXFAIL i, CAN_PSHORT i, CAN_PMAPOVER i, CAN_PFIFOLOST i] v),
   (rCAN_PFIFOPOP.off, fun i _ v s => s.canFifoPop i v),
   (rCAN_MBCFG.off, fun i j v s => s.mbWrite rCAN_MBCFG i j v),
   (rCAN_MBID.off, fun i j v s => s.mbWrite rCAN_MBID i j v),
   (rCAN_MBMASK.off, fun i j v s => s.mbWrite rCAN_MBMASK i j v),
   (rCAN_MBEP.off, fun i j v s => s.mbWrite rCAN_MBEP i j v)]

/-- Those of the PSC registers. -/
def barActsPsc : List BarAct :=
  [(rPSC_TAGRES.off, fun _ _ v s =>
     s.checked rPSC_TAGRES 0 0 v (if 32768 < wbits v 31 16 + wbits v 15 0 then some OUT_OF_RANGE else none)),
   (rPSC_CLR.off, fun _ _ v s => s.clrWrite pscCounters v)]

/-- Those of the EPT registers. -/
def barActsEpt : List BarAct :=
  [(rEPT_IDX.off, fun _ _ v s => s.eptIdxWrite v),
   (rEPT_LDCTL.off, fun _ _ v s => s.ldCtlWrite v),
   (rEPT_SWCTL.off, fun _ _ v s => s.swCtlWrite v),
   (rEPT_SWCTHI.off, fun _ _ v s => s.swCtHiWrite v),
   (rEPT_CLR.off, fun _ _ v s => s.clrWrite eptCounters v)]

/-- Those of the MSH registers. -/
def barActsMsh : List BarAct :=
  [(rMSH_CHIDX.off, fun _ _ v s => s.chIdxWrite v),
   (rMSH_CHSTG.off, fun i _ v s => s.chStgWrite i v),
   (rMSH_CHCTL.off, fun _ _ v s => s.chCtlWrite v),
   (rMSH_SYNCPER.off, fun _ _ v s => s.syncPerWrite v),
   (rMSH_SYNCCTL.off, fun _ _ v s => s.syncCtlWrite v),
   (rMSH_SYNCCTHI.off, fun _ _ v s => s.syncHiWrite v),
   (rMSH_CLR.off, fun _ _ v s => s.clrWrite [MSH_ENGOVER, MSH_TSCLAMP, MSH_SYNCLATE] v),
   (rMSH_CSIDX.off, fun _ _ v s => s.csIdxWrite v)]

/-- Those of the RCG registers. -/
def barActsRcg : List BarAct :=
  [(rRCG_MTCTL.off, fun _ _ v s => s.mtCtlWrite v),
   (rRCG_EVOWN.off, fun i _ v s => s.evOwnWrite i v),
   (rRCG_CLR.off, fun _ _ v s => s.clrWrite [RCG_STEPS, RCG_OVER, RCG_CASCADE, RCG_ACTSKIP, RCG_EMITSUP, RCG_WAKECNT] v)]

/-- Those of the TEN registers. -/
def barActsTen : List BarAct :=
  [(rTEN_T0SRATE.off, fun _ _ v s => (s.store rTEN_T0SRATE 0 0 v).nofitScan),
   (rTEN_WINIDX.off, fun _ _ v s => s.winIdxWrite v),
   (rTEN_CLR.off, fun _ _ v s => s.clrWrite [TEN_QREFUSE, TEN_SRDROP, TEN_WINVIOL, TEN_LEASEEND] v)]

/-- Those of the RNG registers. -/
def barActsRng : List BarAct :=
  [(rRNG_IDX.off, fun _ _ v s => s.rngIdxWrite v),
   (rRNG_CLR.off, fun _ _ v s => s.clrWrite rngCounters v)]

/-- Those of the BND registers. -/
def barActsBnd : List BarAct :=
  [(rBND_PCFG.off, fun i _ v s => s.pcfgWrite i v),
   (rBND_PCLR.off, fun i _ v s => s.clrWrite (bndCounters i) v)]

/-- Those of the ROL registers. -/
def barActsRol : List BarAct :=
  [(rROL_CFG.off, fun _ _ v s => (s.store rROL_CFG 0 0 v).showCapable),
   (rROL_HOLD.off, fun _ _ v s => s.holdWrite v),
   (rROL_CTL.off, fun _ _ v s => s.rolCtlWrite v),
   (rROL_DIRIDX.off, fun _ _ v s => s.dirIdxWrite v.toNat),
   (rROL_RSCTL.off, fun _ _ v s => s.rsctlWrite v)]

/-- Those of the ICU registers. -/
def barActsIcu : List BarAct :=
  [(rICU_CFG.off, fun _ _ v s => s.icuCfgWrite v),
   (rICU_SRCIDX.off, fun _ _ v s => s.srcIdxWrite v),
   (rICU_HUBLATLO.off, fun _ _ v s => (s.store rICU_HUBLATLO 0 0 v).settle),
   (rICU_HUBLATHI.off, fun _ _ v s => (s.store rICU_HUBLATHI 0 0 v).settle),
   (rICU_HUBSET.off, fun _ _ v s => s.hubSetWrite v),
   (rICU_FORCE.off, fun _ _ v s => s.forceWrite v),
   (rICU_TGT.off, fun i _ v s => s.tgtWrite i v),
   (rICU_CLR.off, fun _ _ v s => s.clrWrite icuCounters v)]

/-- Those of the EVM registers. -/
def barActsEvm : List BarAct :=
  [(rEVM_SWPULSE.off, fun _ _ v s => s.swPulse v),
   (rEVM_CHCFG.off, fun i _ v s => s.chCfgWrite i v),
   (rEVM_CHEN.off, fun i j v s => s.chEnWrite i j v),
   (rEVM_CHEN11.off, fun i _ v s => s.chEnWrite i 11 v),
   (rEVM_QCTL.off, fun i _ v s => s.qctlWrite i v),
   (rEVM_CLR.off, fun _ _ v s => s.clrWrite evmCounters v)]

/-- Those of the CLK registers. -/
def barActsClk : List BarAct :=
  [(rCLK_CLR.off, fun _ _ v s => s.clrWrite [CLK_FAILCNT, CLK_UNLOCKCNT, CLK_STOPACC] v)]

/-- Those of the RST registers. -/
def barActsRst : List BarAct :=
  [(rRST_CTL.off, fun _ _ v s => s.rstCtlWrite v),
   (rRST_CLR.off, fun _ _ v s => s.clrWrite [RST_WARMCNT, RST_CORECNT, RST_HKCNT, RST_FLRCNT, RST_WDTCNT] v)]

/-- Those of the PWR registers. -/
def barActsPwr : List BarAct :=
  [(rPWR_CTL.off, fun _ _ v s => s.pwrCtlWrite v),
   (rPWR_WAKEATHI.off, fun _ _ v s => s.wakeAtWrite v),
   (rPWR_WATCHBANK.off, fun _ _ v s => s.bankWrite v),
   (rPWR_SHED1.off, fun _ _ v s => s.shedWrite rPWR_SHED1 1 v),
   (rPWR_SHED2.off, fun _ _ v s => s.shedWrite rPWR_SHED2 2 v),
   (rPWR_SHED3.off, fun _ _ v s => s.shedWrite rPWR_SHED3 3 v),
   (rPWR_SHED4.off, fun _ _ v s => s.shedWrite rPWR_SHED4 4 v),
   (rPWR_CLR.off, fun _ _ v s => s.clrWrite pwrCounters v)]

/-- Those of the NVS registers. -/
def barActsNvs : List BarAct :=
  [(rNVS_JCTL.off, fun _ _ v s => s.jctlWrite v),
   (rNVS_LIFEIDX.off, fun _ _ v s => s.lifeIdxWrite v.toNat),
   (rNVS_CLR.off, fun _ _ v s => s.clrWrite nvsCounters v)]

/-- Those of the BOOT registers. -/
def barActsBoot : List BarAct :=
  [(rBOOT_UPCTL.off, fun _ _ v s => s.upCtlWrite v),
   (rBOOT_GCTL.off, fun _ _ v s => s.gCtlWrite v)]

/-- What a write does beyond the checks of its register's own table, by register: an action for element (i, j) and value v. A register
not listed is stored by its access types (R8). -/
def barActs : List BarAct :=
  barActsTim ++ barActsCrs ++ barActsGrd ++ barActsAfe ++ barActsWin ++ barActsSer ++ barActsMem ++ barActsCan ++ barActsPsc ++
  barActsEpt ++ barActsMsh ++ barActsRcg ++ barActsTen ++ barActsRng ++ barActsBnd ++ barActsRol ++ barActsIcu ++
  barActsEvm ++ barActsClk ++ barActsRst ++ barActsPwr ++ barActsNvs ++ barActsBoot

/-- The effect of an accepted write to element (i, j) of a register. -/
def State.barAct (s : State) (r : Reg) (i j : Nat) (v : Word) : State :=
  match barActs.find? fun x => x.1 == r.off with
  | some x => x.2 i j v s
  | none => s.store r i j v

/-- A write of PREFIX_ERRSTS: CLR zeroes CODE, COUNT and WORD; never discarded (R10, R11). -/
def State.errWrite (s : State) (e : Nat) (v : Word) : State :=
  let s := s.wakeDoze 0x400
  if s.stopped e then s.clockStopped e else if wbit v 15 then s.wr e 0 else s

/-- ERRSTS_CLR (R10): a write of the error status of the block at an offset. -/
def execErrstsClr (ofs : Nat) (v : Word) (s : State) : Res :=
  .next <|
    match blkAt ofs with
    | some b => s.errWrite b.err v
    | none => s.errWrite QUE_ERRSTS v

/-- A write at an offset of a block that is discarded (R654). -/
def State.holeWrite (s : State) (e ofs : Nat) : State :=
  let s := s.wakeDoze 0x400
  if s.stopped e then s.clockStopped ofs else s.err e ofs OUT_OF_RANGE

/-- The MSI-X structures answer (R634, R653). -/
def State.msixServes (s : State) : Bool := s.g BOOT_STS_STAGE == 0xA || !s.stopped 0x3E000

/-- A write of a word of the MSI-X table (R403, R542); unused bytes are ignored (R654). -/
def State.msixWrite (s : State) (ofs : Nat) (v : Word) : State :=
  let s := s.wakeDoze 0x400
  let k := (ofs - 0x3E000) / 16
  let w := ofs % 16 / 4
  if !s.msixServes then s.clockStopped ofs
  else if 32 ≤ k then s
  else
    let m := s.msix k
    if w = 0 then s.setMsix k { m with lo := v.toNat }
    else if w = 1 then s.setMsix k { m with hi := v.toNat }
    else if w = 2 then s.setMsix k { m with data := v.toNat }
    else (s.setMsix k { m with mask := wbit v 0 }).flushMsix k

/-- An aligned 4-byte write at a BAR0 offset (R654). -/
def State.bar0Word (s : State) (ofs : Nat) (v : Word) : State :=
  if 0x3E000 ≤ ofs then s.msixWrite ofs v
  else match blkAt ofs with
    | none => s.holeWrite QUE_ERRSTS ofs
    | some b =>
      if ofs = b.err then s.errWrite b.err v
      else match regAt ofs with
        | none => s.holeWrite b.err ofs
        | some (r, i, j) =>
          if r.off = rMEM_AP.off then s.apWrite i v
          else if guardMonReg r i then (if s.stopped b.err then s.clockStopped ofs else s)
          else s.barWrite r i j v fun s => s.barAct r i j v

/-- A write in BAR0 of n bytes: an aligned word, two aligned words in order, or one that is discarded (R654). -/
def State.bar0Write (s : State) (ofs n : Nat) (v w : Word) : State :=
  if n = 4 ∧ ofs % 4 = 0 then s.bar0Word ofs v
  else if n = 8 ∧ ofs % 8 = 0 then (s.bar0Word ofs v).bar0Word (ofs + 4) w
  else s.holeWrite QUE_ERRSTS ofs

/-- REGISTER_WRITE (R8, R654): a host write of n bytes in BAR0, or in BAR2; `w` is the upper word of an 8-byte write. -/
def execRegisterWrite (bar2 : Bool) (ofs n : Nat) (v w : Word) (s : State) : Res :=
  .next (if bar2 then s.bar2Write ofs n v w else s.bar0Write ofs n v w)

/-! Reads. -/

/-- The bits of a register that read as written or set: all but WO ones and those no field holds (R8, R9). -/
def Reg.readMask (r : Reg) : Nat :=
  r.fds.foldl (fun n f => if f.acc == .wo then n else n + (2 ^ (f.hi + 1) - 2 ^ f.lo)) 0

/-- The registers, beside the running counters, whose LO read captures both words (R147, R181, and the registers of the mash
array, roles and the store). -/
def Reg.bothWords (r : Reg) : Bool :=
  [rGRD_CTRIPCTLO, rWIN_MLASTCTLO, rMSH_SYNCLASTLO, rROL_COMBIDLO, rNVS_JFIRSTLO, rNVS_JNEXTLO].any fun q => q.off == r.off

/-- Their upper words. -/
def Reg.upperWord (r : Reg) : Bool :=
  [rGRD_CTRIPCTHI, rWIN_MLASTCTHI, rMSH_SYNCLASTHI, rROL_COMBIDHI, rNVS_JFIRSTHI, rNVS_JNEXTHI].any fun q => q.off == r.off

/-- The LO word of a value captured whole (R31, R579): both words are captured at its read. -/
def State.capture (s : State) (r : Reg) (ofs : Nat) : State :=
  if r.bothWords then { s with caps := s.caps.set (fun _ => 0) ofs (s.rd (ofs + 4)).toNat }
  else if ofs = TIM_CTLO.off then s.f64 TIM_CTLO TIM_CTHI s.ct
  else if ofs = TIM_AONCNTLO.off then s.f64 TIM_AONCNTLO TIM_AONCNTHI s.time.aon
  else
    match (List.range 16).find? fun x => (TIM_TUCNTLO x).off == ofs with
    | some x => s.f64 (TIM_TUCNTLO x) (TIM_TUCNTHI x) (s.tu x).cnt
    | none => s

/-- What a read does to a queue whose head it holds or pops (R55, R559). -/
def State.readAct (s : State) (r : Reg) (i j : Nat) : State :=
  if r.off = rTIM_TUCAPCNTLO.off then s.capHold i j
  else if r.off = rTIM_TUCAPCTHI.off then s.capPop i j
  else if r.off = rEVM_QHEAD.off ∨ r.off = rEVM_QCTLO.off then s.cqHold i
  else if r.off = rEVM_QCTHI.off then s.cqPop i
  else s

/-- n free bytes: what the flash holds is not the hub's own state. -/
def State.freeBytes (s : State) (n : Nat) : List Nat := (List.range n).map fun k => Config.freeValue (s.free + k) % 256

/-- A read of the aperture whose flash bytes are free values (R204). -/
def State.apRead (s : State) (k : Nat) (who : Option (Nat × Nat)) : State :=
  let b := s.freeBytes 128
  ({ s with free := s.free + 128 } : State).apAccess k (b.take 64) (b.drop 64) who

/-- An aligned 4-byte read at a BAR0 offset below the MSI-X structures (R654); the value is in `rdata`. -/
def State.bar0Read (s : State) (ofs : Nat) : State :=
  let s := s.wakeDoze 0x400
  match blkAt ofs with
  | none => if s.stopped QUE_ERRSTS then s.readStopped ofs else { s with rdata := 0 }
  | some b =>
    if s.stoppedAt b.err ofs then s.readStopped ofs
    else if ofs = b.err then { s with rdata := (s.rd ofs).toNat }
    else match regAt ofs with
      | none => { s with rdata := 0 }
      | some (r, i, j) =>
        if r.off = rMEM_AP.off then s.apRead i none
        else
          let s := s.capture r ofs
          let w := if r.upperWord then s.caps.get (fun _ => 0) (ofs - 4) else (s.rd ofs).toNat
          let v := Nat.land w r.readMask
          { s.readAct r i j with rdata := v }

/-! Remote accesses (R529, R656). -/

/-- The code the target records for a write, OK where it records none: CODE of the block's error status, or of CLK_ERRSTS for a stopped
clock, as they would stand had they been clear. -/
def State.writeStatus (s : State) (ofs : Nat) (v : Word) : Nat :=
  let e := match blkAt ofs with
    | some b => b.err
    | none => QUE_ERRSTS
  let t := ((s.wr e 0).wr CLK_ERRSTS 0).bar0Write ofs 4 v 0
  if wbits (t.rd e) 14 8 ≠ 0 then wbits (t.rd e) 7 0 else if wbits (t.rd CLK_ERRSTS) 14 8 ≠ 0 then wbits (t.rd CLK_ERRSTS) 7 0 else OK

/-- The code a read records. -/
def State.readStatus (s : State) (ofs : Nat) : Nat :=
  let e := match blkAt ofs with
    | some b => b.err
    | none => QUE_ERRSTS
  let t := ((s.wr e 0).wr CLK_ERRSTS 0).bar0Read ofs
  if wbits (t.rd e) 14 8 ≠ 0 then wbits (t.rd e) 7 0 else if wbits (t.rd CLK_ERRSTS) 14 8 ≠ 0 then wbits (t.rd CLK_ERRSTS) 7 0 else OK

/-- What a target refuses of a remote access (R529, R656). -/
def State.remoteRefused (s : State) (wr : Bool) (ofs : Nat) (v : Word) : Option Nat :=
  if s.on ROL_CFG_RSDENY ∨ (wr = true ∧ ofs = ROL_CFG_RSDENY.off ∧ wbit v 8 = true) then some ROLE_FORBIDDEN
  else if 0x3E000 ≤ ofs then some OUT_OF_RANGE
  else none

/-- REGACCESS (R529): a BAR0 access by tenant 0 of this hub for the keystone, answered with REGRESULT. -/
def execRegaccess (s : State) : Res :=
  .next <| s.cfgRequest cfREGACCESS fun s src tag b =>
    let wr := nbit (leAt b 0 1) 0
    let ofs := leAt b 4 4
    let v := Word.ofNat (leAt b 8 4)
    let answer (s : State) (st d : Nat) : State := s.cfgAnswer src tag cfREGRESULT ([st, 0, 0, 0] ++ toLe 4 d)
    match s.remoteRefused wr ofs v with
    | some c => answer s c 0
    | none =>
      if wr then answer (s.bar0Write ofs 4 v 0) (s.writeStatus ofs v) 0
      else match regAt ofs with
        | some (r, i, _) =>
          if r.off = rMEM_AP.off ∧ s.stopped MEM_ERRSTS = false then s.apRead i (some (src, tag))
          else answer (s.bar0Read ofs) (s.readStatus ofs) (s.bar0Read ofs).rdata
        | none => answer (s.bar0Read ofs) (s.readStatus ofs) (s.bar0Read ofs).rdata

end Sys2Proof.Machine
end

