-- ==== Sys2Proof/Machine/Dispatch.lean ====
section
/-! DEFINITION. The dispatch of commands to their meanings. -/
namespace Sys2Proof.Machine

/-- A command's effect on everything but the queue. -/
def exec (i : Instr) (s : State) : Host.Outcome State Fault Refusal :=
  match i with
  | .registerWrite bar2 ofs n v w => Sys2Proof.Machine.execRegisterWrite bar2 ofs n v w s
  | .errstsClr ofs v => Sys2Proof.Machine.execErrstsClr ofs v s
  | .timeReq p pl lat => Sys2Proof.Machine.execTimeReq p pl lat s
  | .timeResp p pl => Sys2Proof.Machine.execTimeResp p pl s
  | .syncEdgeInput fall => Sys2Proof.Machine.execSyncEdgeInput fall s
  | .syncutcWrite v => Sys2Proof.Machine.execSyncutcWrite v s
  | .timerEnable x v => Sys2Proof.Machine.execTimerEnable x v s
  | .timerStartAtCt x => Sys2Proof.Machine.execTimerStartAtCt x s
  | .timerCounterWrite x v => Sys2Proof.Machine.execTimerCounterWrite x v s
  | .compareArm x y v => Sys2Proof.Machine.execCompareArm x y v s
  | .compareMatch x y => Sys2Proof.Machine.execCompareMatch x y s
  | .captureEntry x fall => Sys2Proof.Machine.execCaptureEntry x fall s
  | .captureHeadHold x y => Sys2Proof.Machine.execCaptureHeadHold x y s
  | .capturePop x y => Sys2Proof.Machine.execCapturePop x y s
  | .captureClr x y v => Sys2Proof.Machine.execCaptureClr x y v s
  | .busEnable b v => Sys2Proof.Machine.execBusEnable b v s
  | .beaconTransmit b => Sys2Proof.Machine.execBeaconTransmit b s
  | .dataFrameReceived b arr gs => Sys2Proof.Machine.execDataFrameReceived b arr gs s
  | .unknownFrame b arr gs => Sys2Proof.Machine.execUnknownFrame b arr gs s
  | .joinFrameReceived b arr gs => Sys2Proof.Machine.execJoinFrameReceived b arr gs s
  | .immediateReplyReceived b r gs => Sys2Proof.Machine.execImmediateReplyReceived b r gs s
  | .nodeSilent b a => Sys2Proof.Machine.execNodeSilent b a s
  | .linefault b => Sys2Proof.Machine.execLinefault b s
  | .probationEnd b a => Sys2Proof.Machine.execProbationEnd b a s
  | .nodeDeadmitSilence b a => Sys2Proof.Machine.execNodeDeadmitSilence b a s
  | .nodeCommandTimeout b a => Sys2Proof.Machine.execNodeCommandTimeout b a s
  | .admissionStep b => Sys2Proof.Machine.execAdmissionStep b s
  | .layoutChange b => Sys2Proof.Machine.execLayoutChange b s
  | .layoutEffective b => Sys2Proof.Machine.execLayoutEffective b s
  | .nodeDrop b a => Sys2Proof.Machine.execNodeDrop b a s
  | .busCounterClr b v => Sys2Proof.Machine.execBusCounterClr b v s
  | .admissionCounterClr b v => Sys2Proof.Machine.execAdmissionCounterClr b v s
  | .windowTrip c volt v => Sys2Proof.Machine.execWindowTrip c volt v s
  | .integratorTrip c => Sys2Proof.Machine.execIntegratorTrip c s
  | .channelOn c => Sys2Proof.Machine.execChannelOn c s
  | .channelOff c => Sys2Proof.Machine.execChannelOff c s
  | .rearm c => Sys2Proof.Machine.execRearm c s
  | .toffExpiry c => Sys2Proof.Machine.execToffExpiry c s
  | .retriesReset c => Sys2Proof.Machine.execRetriesReset c s
  | .tripClear v => Sys2Proof.Machine.execTripClear v s
  | .guardCounterClr c v => Sys2Proof.Machine.execGuardCounterClr c v s
  | .loopModeWrite x v => Sys2Proof.Machine.execLoopModeWrite x v s
  | .complianceEntry x => Sys2Proof.Machine.execComplianceEntry x s
  | .complianceExit x => Sys2Proof.Machine.execComplianceExit x s
  | .loopCounterClr x v => Sys2Proof.Machine.execLoopCounterClr x v s
  | .monitorEdge m v => Sys2Proof.Machine.execMonitorEdge m v s
  | .selfCheckGo v => Sys2Proof.Machine.execSelfCheckGo v s
  | .selfCheckDone hi lo hs ls => Sys2Proof.Machine.execSelfCheckDone hi lo hs ls s
  | .wheelStandstill m => Sys2Proof.Machine.execWheelStandstill m s
  | .templateCommit n => Sys2Proof.Machine.execTemplateCommit n s
  | .templateRead n => Sys2Proof.Machine.execTemplateRead n s
  | .serialEntryStart x => Sys2Proof.Machine.execSerialEntryStart x s
  | .serialEntryDone x ws => Sys2Proof.Machine.execSerialEntryDone x ws s
  | .slaveWordReceived x v => Sys2Proof.Machine.execSlaveWordReceived x v s
  | .slaveSelectNegated x n back v => Sys2Proof.Machine.execSlaveSelectNegated x n back v s
  | .serialCounterClr x v => Sys2Proof.Machine.execSerialCounterClr x v s
  | .memApRead k b b2 => Sys2Proof.Machine.execMemApRead k b b2 s
  | .memApWrite k v => Sys2Proof.Machine.execMemApWrite k v s
  | .memFlush v => Sys2Proof.Machine.execMemFlush v s
  | .statusPoll st b => Sys2Proof.Machine.execStatusPoll st b s
  | .rawCommand v rx => Sys2Proof.Machine.execRawCommand v rx s
  | .canFrameReceived x w data lat => Sys2Proof.Machine.execCanFrameReceived x w data lat s
  | .canTxDone x error exempt lat => Sys2Proof.Machine.execCanTxDone x error exempt lat s
  | .canTxTimeout x y => Sys2Proof.Machine.execCanTxTimeout x y s
  | .canBusOff x => Sys2Proof.Machine.execCanBusOff x s
  | .canRecovered x => Sys2Proof.Machine.execCanRecovered x s
  | .canRecover x v => Sys2Proof.Machine.execCanRecover x v s
  | .canFifoPop x v => Sys2Proof.Machine.execCanFifoPop x v s
  | .canWake x => Sys2Proof.Machine.execCanWake x s
  | .canCounterClr x v => Sys2Proof.Machine.execCanCounterClr x v s
  | .commitPoint b => Sys2Proof.Machine.execCommitPoint b s
  | .serialPlacement e => Sys2Proof.Machine.execSerialPlacement e s
  | .serlateExpiry x => Sys2Proof.Machine.execSerlateExpiry x s
  | .wheelInstant e => Sys2Proof.Machine.execWheelInstant e s
  | .courseDeadline b => Sys2Proof.Machine.execCourseDeadline b s
  | .remoteCommandTimeout tag => Sys2Proof.Machine.execRemoteCommandTimeout tag s
  | .pscCounterClr v => Sys2Proof.Machine.execPscCounterClr v s
  | .recordCommit e => Sys2Proof.Machine.execRecordCommit e s
  | .recordRead e => Sys2Proof.Machine.execRecordRead e s
  | .recordRelease e => Sys2Proof.Machine.execRecordRelease e s
  | .tableLoadGo src => Sys2Proof.Machine.execTableLoadGo src s
  | .tableLoadDone ok b => Sys2Proof.Machine.execTableLoadDone ok b s
  | .tableStoreDone ok => Sys2Proof.Machine.execTableStoreDone ok s
  | .switchArm now => Sys2Proof.Machine.execSwitchArm now s
  | .eptCounterClr v => Sys2Proof.Machine.execEptCounterClr v s
  | .channelCommit c => Sys2Proof.Machine.execChannelCommit c s
  | .channelRead c => Sys2Proof.Machine.execChannelRead c s
  | .channelClrsts c => Sys2Proof.Machine.execChannelClrsts c s
  | .setCommit n => Sys2Proof.Machine.execSetCommit n s
  | .setRead n => Sys2Proof.Machine.execSetRead n s
  | .setRelease n => Sys2Proof.Machine.execSetRelease n s
  | .mashInput x l bit => Sys2Proof.Machine.execMashInput x l bit s
  | .chctlFreeze c k => Sys2Proof.Machine.execChctlFreeze c k s
  | .chctlThaw c k => Sys2Proof.Machine.execChctlThaw c k s
  | .chctlSwitch c k xf n => Sys2Proof.Machine.execChctlSwitch c k xf n s
  | .mashCounterClr v => Sys2Proof.Machine.execMashCounterClr v s
  | .machineCommit n => Sys2Proof.Machine.execMachineCommit n s
  | .machineRead n => Sys2Proof.Machine.execMachineRead n s
  | .machineRelease n => Sys2Proof.Machine.execMachineRelease n s
  | .rcgTimeTrigger n => Sys2Proof.Machine.execRcgTimeTrigger n s
  | .rcgCounterClr v => Sys2Proof.Machine.execRcgCounterClr v s
  | .leaseExpiry idx => Sys2Proof.Machine.execLeaseExpiry idx s
  | .leaseEndAck idx => Sys2Proof.Machine.execLeaseEndAck idx s
  | .windowCommit t k => Sys2Proof.Machine.execWindowCommit t k s
  | .windowRead t k => Sys2Proof.Machine.execWindowRead t k s
  | .windowClr t k => Sys2Proof.Machine.execWindowClr t k s
  | .tenCounterClr v => Sys2Proof.Machine.execTenCounterClr v s
  | .cmdtail t v => Sys2Proof.Machine.execCmdtail t v s
  | .cplhead t v => Sys2Proof.Machine.execCplhead t v s
  | .evthead t v => Sys2Proof.Machine.execEvthead t v s
  | .resumecmd t v => Sys2Proof.Machine.execResumecmd t v s
  | .resumecpl t v => Sys2Proof.Machine.execResumecpl t v s
  | .resumeevt t v => Sys2Proof.Machine.execResumeevt t v s
  | .clrdberr t v => Sys2Proof.Machine.execClrdberr t v s
  | .post t r v => Sys2Proof.Machine.execPost t r v s
  | .ack t r v => Sys2Proof.Machine.execAck t r v s
  | .commandFetch t => Sys2Proof.Machine.execCommandFetch t s
  | .completionWrite t => Sys2Proof.Machine.execCompletionWrite t s
  | .dmaWriteConfirmed t what ok => Sys2Proof.Machine.execDmaWriteConfirmed t what ok s
  | .dmaReadDone t what slot ok b => Sys2Proof.Machine.execDmaReadDone t what slot ok b s
  | .caskAgeExpiry uid ring => Sys2Proof.Machine.execCaskAgeExpiry uid ring s
  | .caskPlacement t r => Sys2Proof.Machine.execCaskPlacement t r s
  | .eventRecordWrite t => Sys2Proof.Machine.execEventRecordWrite t s
  | .ringSetup t k => Sys2Proof.Machine.execRingSetup t k s
  | .ringSetupRead t k => Sys2Proof.Machine.execRingSetupRead t k s
  | .ringSetupStop t k => Sys2Proof.Machine.execRingSetupStop t k s
  | .rngCounterClr v => Sys2Proof.Machine.execRngCounterClr v s
  | .hostLinkReset kind => Sys2Proof.Machine.execHostLinkReset kind s
  | .portEnable p v => Sys2Proof.Machine.execPortEnable p v s
  | .trainingStepDone p mask => Sys2Proof.Machine.execTrainingStepDone p mask s
  | .trainingTimeout p => Sys2Proof.Machine.execTrainingTimeout p s
  | .laneFault p lane => Sys2Proof.Machine.execLaneFault p lane s
  | .laneRetrained p lane => Sys2Proof.Machine.execLaneRetrained p lane s
  | .linkDown p => Sys2Proof.Machine.execLinkDown p s
  | .flitReceived p bs first nsym => Sys2Proof.Machine.execFlitReceived p bs first nsym s
  | .status p pl => Sys2Proof.Machine.execStatus p pl s
  | .nak p pl => Sys2Proof.Machine.execNak p pl s
  | .replayTimeout p => Sys2Proof.Machine.execReplayTimeout p s
  | .statusTimer p => Sys2Proof.Machine.execStatusTimer p s
  | .hello p pl => Sys2Proof.Machine.execHello p pl s
  | .helloTimer p => Sys2Proof.Machine.execHelloTimer p s
  | .resume p pl => Sys2Proof.Machine.execResume p pl s
  | .close p pl => Sys2Proof.Machine.execClose p pl s
  | .splitHoldExpiry p => Sys2Proof.Machine.execSplitHoldExpiry p s
  | .retryHoldExpiry p => Sys2Proof.Machine.execRetryHoldExpiry p s
  | .configTimeout tag => Sys2Proof.Machine.execConfigTimeout tag s
  | .remoteSetupGo wr => Sys2Proof.Machine.execRemoteSetupGo wr s
  | .directoryEntryLoad p => Sys2Proof.Machine.execDirectoryEntryLoad p s
  | .claim k => Sys2Proof.Machine.execClaim k s
  | .eoi k v => Sys2Proof.Machine.execEoi k v s
  | .sourceCommit n => Sys2Proof.Machine.execSourceCommit n s
  | .sourceRead n => Sys2Proof.Machine.execSourceRead n s
  | .hubLatchClear hi v => Sys2Proof.Machine.execHubLatchClear hi v s
  | .hubset v => Sys2Proof.Machine.execHubset v s
  | .forceSet n => Sys2Proof.Machine.execForceSet n s
  | .forceClr n => Sys2Proof.Machine.execForceClr n s
  | .icuConfigWrite v => Sys2Proof.Machine.execIcuConfigWrite v s
  | .msixUnmask k => Sys2Proof.Machine.execMsixUnmask k s
  | .icuCounterClr v => Sys2Proof.Machine.execIcuCounterClr v s
  | .swpulse v => Sys2Proof.Machine.execSwpulse v s
  | .eventQueueHold q lo => Sys2Proof.Machine.execEventQueueHold q lo s
  | .eventQueuePop q => Sys2Proof.Machine.execEventQueuePop q s
  | .queueFlush q => Sys2Proof.Machine.execQueueFlush q s
  | .channelConfigWrite c w v => Sys2Proof.Machine.execChannelConfigWrite c w v s
  | .evmCounterClr v => Sys2Proof.Machine.execEvmCounterClr v s
  | .powerOnReset vaon => Sys2Proof.Machine.execPowerOnReset vaon s
  | .accessTimeout desc ofs => Sys2Proof.Machine.execAccessTimeout desc ofs s
  | .clkCounterClr v => Sys2Proof.Machine.execClkCounterClr v s
  | .rstCounterClr v => Sys2Proof.Machine.execRstCounterClr v s
  | .entryCommit l2 => Sys2Proof.Machine.execEntryCommit l2 s
  | .wakeSource bits => Sys2Proof.Machine.execWakeSource bits s
  | .shedRise mv tj => Sys2Proof.Machine.execShedRise mv tj s
  | .shedFall mv tj => Sys2Proof.Machine.execShedFall mv tj s
  | .powerFail why mv => Sys2Proof.Machine.execPowerFail why mv s
  | .powerRestore mv tj => Sys2Proof.Machine.execPowerRestore mv tj s
  | .thermalShutdown tj => Sys2Proof.Machine.execThermalShutdown tj s
  | .thermalRecover tj => Sys2Proof.Machine.execThermalRecover tj s
  | .pwrCounterClr v => Sys2Proof.Machine.execPwrCounterClr v s
  | .nvmProgramDone ok => Sys2Proof.Machine.execNvmProgramDone ok s
  | .refreshScan margin => Sys2Proof.Machine.execRefreshScan margin s
  | .lifeCounterLoad n => Sys2Proof.Machine.execLifeCounterLoad n s
  | .nvsCounterClr v => Sys2Proof.Machine.execNvsCounterClr v s
  | .bootStageDone ra rb rg => Sys2Proof.Machine.execBootStageDone ra rb rg s
  | .configRequest wr ofs v => Sys2Proof.Machine.execConfigRequest wr ofs v s
  | .updateDone rd st b => Sys2Proof.Machine.execUpdateDone rd st b s
  | .guardImageDone ok => Sys2Proof.Machine.execGuardImageDone ok s
  | .slotEnd b a sub => Sys2Proof.Machine.execSlotEnd b a sub s
  | .grant b => Sys2Proof.Machine.execGrant b s
  | .canBusError x eight => Sys2Proof.Machine.execCanBusError x eight s
  | .thermalProgramAbandon tj => Sys2Proof.Machine.execThermalProgramAbandon tj s
  | .tapIsolate ir cells => Sys2Proof.Machine.execTapIsolate ir cells s
  | .tapRelease ir => Sys2Proof.Machine.execTapRelease ir s
  | .ctCaptureRead => Sys2Proof.Machine.execCtCaptureRead s
  | .timeExchangeStart => Sys2Proof.Machine.execTimeExchangeStart s
  | .timeRespTimeout => Sys2Proof.Machine.execTimeRespTimeout s
  | .holdcntExpiry => Sys2Proof.Machine.execHoldcntExpiry s
  | .syncEdgeTimeout => Sys2Proof.Machine.execSyncEdgeTimeout s
  | .discHoldExpiry => Sys2Proof.Machine.execDiscHoldExpiry s
  | .syncOutputPulse => Sys2Proof.Machine.execSyncOutputPulse s
  | .syncPulseEnd => Sys2Proof.Machine.execSyncPulseEnd s
  | .guardLock => Sys2Proof.Machine.execGuardLock s
  | .loopSet => Sys2Proof.Machine.execLoopSet s
  | .pageBufferTimeout => Sys2Proof.Machine.execPageBufferTimeout s
  | .progtoExpiry => Sys2Proof.Machine.execProgtoExpiry s
  | .canSend => Sys2Proof.Machine.execCanSend s
  | .schedCreate => Sys2Proof.Machine.execSchedCreate s
  | .schedDestroy => Sys2Proof.Machine.execSchedDestroy s
  | .schedQuery => Sys2Proof.Machine.execSchedQuery s
  | .schedTrigger => Sys2Proof.Machine.execSchedTrigger s
  | .decode => Sys2Proof.Machine.execDecode s
  | .tableLoad => Sys2Proof.Machine.execTableLoad s
  | .tableStore => Sys2Proof.Machine.execTableStore s
  | .tableDiscard => Sys2Proof.Machine.execTableDiscard s
  | .switchCancel => Sys2Proof.Machine.execSwitchCancel s
  | .switchEffect => Sys2Proof.Machine.execSwitchEffect s
  | .bankRetire => Sys2Proof.Machine.execBankRetire s
  | .mashFreeze => Sys2Proof.Machine.execMashFreeze s
  | .mashThaw => Sys2Proof.Machine.execMashThaw s
  | .mashSwitch => Sys2Proof.Machine.execMashSwitch s
  | .syncNow => Sys2Proof.Machine.execSyncNow s
  | .syncArm => Sys2Proof.Machine.execSyncArm s
  | .syncDisarm => Sys2Proof.Machine.execSyncDisarm s
  | .armedSync => Sys2Proof.Machine.execArmedSync s
  | .periodicSync => Sys2Proof.Machine.execPeriodicSync s
  | .rcgCreate => Sys2Proof.Machine.execRcgCreate s
  | .rcgDestroy => Sys2Proof.Machine.execRcgDestroy s
  | .rcgReset => Sys2Proof.Machine.execRcgReset s
  | .rcgSetpar => Sys2Proof.Machine.execRcgSetpar s
  | .rcgQuery => Sys2Proof.Machine.execRcgQuery s
  | .recognizerStep => Sys2Proof.Machine.execRecognizerStep s
  | .tenCreate => Sys2Proof.Machine.execTenCreate s
  | .tenChange => Sys2Proof.Machine.execTenChange s
  | .tenDestroy => Sys2Proof.Machine.execTenDestroy s
  | .tenReset => Sys2Proof.Machine.execTenReset s
  | .bind => Sys2Proof.Machine.execBind s
  | .leaseGrant => Sys2Proof.Machine.execLeaseGrant s
  | .leaseRevoke => Sys2Proof.Machine.execLeaseRevoke s
  | .setKey => Sys2Proof.Machine.execSetKey s
  | .nop => Sys2Proof.Machine.execNop s
  | .time => Sys2Proof.Machine.execTime s
  | .streamOpen => Sys2Proof.Machine.execStreamOpen s
  | .streamClose => Sys2Proof.Machine.execStreamClose s
  | .mark => Sys2Proof.Machine.execMark s
  | .ringStart => Sys2Proof.Machine.execRingStart s
  | .ringStop => Sys2Proof.Machine.execRingStop s
  | .ringResume => Sys2Proof.Machine.execRingResume s
  | .ringFlush => Sys2Proof.Machine.execRingFlush s
  | .ringQuery => Sys2Proof.Machine.execRingQuery s
  | .epQuery => Sys2Proof.Machine.execEpQuery s
  | .nodeCmd => Sys2Proof.Machine.execNodeCmd s
  | .serXfer => Sys2Proof.Machine.execSerXfer s
  | .syncAt => Sys2Proof.Machine.execSyncAt s
  | .functionLevelReset => Sys2Proof.Machine.execFunctionLevelReset s
  | .cmd => Sys2Proof.Machine.execCmd s
  | .cmdData => Sys2Proof.Machine.execCmdData s
  | .cpl => Sys2Proof.Machine.execCpl s
  | .reject => Sys2Proof.Machine.execReject s
  | .staleResend => Sys2Proof.Machine.execStaleResend s
  | .caskData => Sys2Proof.Machine.execCaskData s
  | .caskClose => Sys2Proof.Machine.execCaskClose s
  | .caskack => Sys2Proof.Machine.execCaskack s
  | .event => Sys2Proof.Machine.execEvent s
  | .syncAtMessage => Sys2Proof.Machine.execSyncAtMessage s
  | .groupTrigger => Sys2Proof.Machine.execGroupTrigger s
  | .reelect => Sys2Proof.Machine.execReelect s
  | .hostLinkUp => Sys2Proof.Machine.execHostLinkUp s
  | .offer => Sys2Proof.Machine.execOffer s
  | .attach => Sys2Proof.Machine.execAttach s
  | .detach => Sys2Proof.Machine.execDetach s
  | .report => Sys2Proof.Machine.execReport s
  | .settleExpiry => Sys2Proof.Machine.execSettleExpiry s
  | .directory => Sys2Proof.Machine.execDirectory s
  | .dirack => Sys2Proof.Machine.execDirack s
  | .stateTransferStart => Sys2Proof.Machine.execStateTransferStart s
  | .prepare => Sys2Proof.Machine.execPrepare s
  | .prepared => Sys2Proof.Machine.execPrepared s
  | .configCommit => Sys2Proof.Machine.execConfigCommit s
  | .withdraw => Sys2Proof.Machine.execWithdraw s
  | .regaccess => Sys2Proof.Machine.execRegaccess s
  | .regresult => Sys2Proof.Machine.execRegresult s
  | .state => Sys2Proof.Machine.execState s
  | .genset => Sys2Proof.Machine.execGenset s
  | .genack => Sys2Proof.Machine.execGenack s
  | .configAck => Sys2Proof.Machine.execConfigAck s
  | .rolCounterClr => Sys2Proof.Machine.execRolCounterClr s
  | .coalesceTimeout => Sys2Proof.Machine.execCoalesceTimeout s
  | .eventDelivery => Sys2Proof.Machine.execEventDelivery s
  | .xinFailure => Sys2Proof.Machine.execXinFailure s
  | .xinRecovered => Sys2Proof.Machine.execXinRecovered s
  | .rootPllUnlock => Sys2Proof.Machine.execRootPllUnlock s
  | .rootPllLocked => Sys2Proof.Machine.execRootPllLocked s
  | .warm => Sys2Proof.Machine.execWarm s
  | .core => Sys2Proof.Machine.execCore s
  | .hkrst => Sys2Proof.Machine.execHkrst s
  | .resetStart => Sys2Proof.Machine.execResetStart s
  | .coreHold => Sys2Proof.Machine.execCoreHold s
  | .housekeepingReady => Sys2Proof.Machine.execHousekeepingReady s
  | .watchdogExpiry => Sys2Proof.Machine.execWatchdogExpiry s
  | .abort => Sys2Proof.Machine.execAbort s
  | .doze => Sys2Proof.Machine.execDoze s
  | .watch => Sys2Proof.Machine.execWatch s
  | .hibernate => Sys2Proof.Machine.execHibernate s
  | .off => Sys2Proof.Machine.execOff s
  | .autotExpiry => Sys2Proof.Machine.execAutotExpiry s
  | .drained => Sys2Proof.Machine.execDrained s
  | .wakeat => Sys2Proof.Machine.execWakeat s
  | .pmicPgRise => Sys2Proof.Machine.execPmicPgRise s
  | .memrdy => Sys2Proof.Machine.execMemrdy s
  | .wakeComplete => Sys2Proof.Machine.execWakeComplete s
  | .wakePgTimeout => Sys2Proof.Machine.execWakePgTimeout s
  | .wakeRetry => Sys2Proof.Machine.execWakeRetry s
  | .watchCycle => Sys2Proof.Machine.execWatchCycle s
  | .append => Sys2Proof.Machine.execAppend s
  | .journalRead => Sys2Proof.Machine.execJournalRead s
  | .journalWrite => Sys2Proof.Machine.execJournalWrite s
  | .nvmEraseDone => Sys2Proof.Machine.execNvmEraseDone s
  | .lifeCheckpoint => Sys2Proof.Machine.execLifeCheckpoint s
  | .bootStageTimeout => Sys2Proof.Machine.execBootStageTimeout s
  | .updateGo => Sys2Proof.Machine.execUpdateGo s
  | .guardImageStore => Sys2Proof.Machine.execGuardImageStore s
  | .guardImageErase => Sys2Proof.Machine.execGuardImageErase s
  | .caskValidTimeout => Sys2Proof.Machine.execCaskValidTimeout s
  | .vafeLoss => Sys2Proof.Machine.execVafeLoss s
  | .vafeReturn => Sys2Proof.Machine.execVafeReturn s

end Sys2Proof.Machine
end

