-- ==== Sys2Proof/Machine/Tick.lean ====
section
/-! DEFINITION. What time alone does in one CKFAB period (notes/assumptions/2.md): combination time and the counting timer units
(spec/02_combination_time_and_timers.md R29, R42, R50), open codewords filled with IDLE flits (spec/15_bond_links.md R484), the guard's integrators at CKAON edges (spec/05_energy_guard.md R143, R144), and
the life counters of seconds (spec/21_nonvolatile_store_and_service_life.md R621), the firmware's beat (spec/22_boot_and_bring_up.md R635). -/
namespace Sys2Proof.Machine

/-- CKFAB periods of one second. -/
abbrev cycSecond : Nat := 1200000000

/-- The life counters 1 to 5 count a second (R621). -/
def State.lifeSecond (s : State) : State :=
  let s := s.lifeInc 1 1
  let s := if s.sys.pstate = .run ∨ s.sys.pstate = .doze then s.lifeInc 2 1
    else if s.sys.pstate = .watch ∨ s.sys.pstate = .hibernate then s.lifeInc 3 1 else s
  let s := if 125 < s.tj then s.lifeInc 4 1 else s
  if 140 < s.tj then s.lifeInc 5 1 else s

/-- CKFAB periods of 10 ms. -/
abbrev cycBeat : Nat := 12000000

/-- The firmware's beat: BOOT_HKSTS.BEAT rises at least once every 10 ms while it runs (R635); by how much is free. -/
def State.beat (s : State) : State :=
  if s.nvRuns ∧ s.hkRuns ∧ s.g BOOT_STS_STAGE ≠ 0xA then
    s.drew.f BOOT_HKSTS_BEAT ((s.g BOOT_HKSTS_BEAT + 1 + s.fresh % 65535) % 65536)
  else s

/-- One CKFAB period passes; in OFF no clock runs (R588). -/
def State.tick (s : State) : State :=
  if s.sys.pstate = .off then s
  else
    let s := (List.range 4).foldl State.fillCode s.tickTime
    let s := if s.time.cyc % 48 = 0 then s.guardTick else s
    let s := if s.time.cyc % cycBeat = 0 then s.beat else s
    if s.time.cyc % cycSecond = 0 then s.lifeSecond else s

end Sys2Proof.Machine
end

