-- ==== Sys2Proof/Machine/Pins.lean ====
section
/-! DEFINITION. The pins: balls, supplies, types, the level each pin shows in a state, and the TAP's registers
(spec/23_pins_and_package.md R640-R650; spec/05_energy_guard.md R154, R162, R166). -/
namespace Sys2Proof.Machine

/-- The signal pins (R641). `neg` is the _N pin of a pair. -/
inductive Pin where
  | cb (x : Nat) (neg : Bool)
  | spSck (x : Nat)
  | spSdo (x : Nat)
  | spSdi (x : Nat)
  | spCs (x k : Nat)
  | segEn (x : Nat)
  | segIs (x : Nat) (neg : Bool)
  | segVs (x : Nat)
  | lpDrv (x : Nat)
  | lpIs (x : Nat) (neg : Bool)
  | lpVs (x : Nat)
  | win (m : Nat) (neg : Bool)
  | peDo (n : Nat) (neg : Bool)
  | peRefclk (neg : Bool)
  | peDi (n : Nat) (neg : Bool)
  | pePerst
  | peWake
  | peClkreq
  | hostwake
  | porst
  | pfail
  | wakeIn
  | pmicEn
  | pmicPg
  | tck
  | tms
  | tdi
  | tdo
  | trst
  | xin
  | xout
  | xbias
  | tm (x : Nat)
  | trip (x : Nat)
  | mpSck
  | mpCs
  | mpIo (k : Nat)
  | sync
  | vsup
  | canTxd (x : Nat)
  | canRxd (x : Nat)
  | canStb (x : Nat)
  | bdDo (x y : Nat) (neg : Bool)
  | bdDi (x y : Nat) (neg : Bool)
deriving DecidableEq, Repr

/-- The letters of row index i (R640). -/
def rowName (i : Nat) : String :=
  let one := ["A", "B", "C", "D", "E", "F", "G", "H", "J", "K", "L", "M", "N", "P", "T", "U", "V", "W", "Y"]
  if i ≤ 19 then one.getD (i - 1) "" else "A" ++ one.getD (i - 20) ""

/-- The ball of a pin: row index and column (R641). -/
def Pin.ball : Pin → Nat × Nat
  | .cb x n => (x / 16 + 1, 2 * (x % 16) + 1 + b2n n)
  | .spSck x => (5 + 2 * x, 1)
  | .spSdo x => (5 + 2 * x, 2)
  | .spSdi x => (5 + 2 * x, 3)
  | .spCs x k => if k < 3 then (5 + 2 * x, 4 + k) else (6 + 2 * x, k - 2)
  | .segEn x => (5 + x, 31)
  | .segIs x n => (5 + x, 32 + b2n n)
  | .segVs x => (5 + x, 34)
  | .lpDrv x => (21 + x, 31)
  | .lpIs x n => (21 + x, 32 + b2n n)
  | .lpVs x => (21 + x, 34)
  | .win m n => (5 + m, 35 + b2n n)
  | .peDo k n => (5, 8 + 3 * k + b2n n)
  | .peRefclk n => (5, 20 + b2n n)
  | .peDi k n => (7, 8 + 3 * k + b2n n)
  | .pePerst => (7, 19)
  | .peWake => (7, 20)
  | .peClkreq => (7, 21)
  | .hostwake => (7, 22)
  | .porst => (7, 23)
  | .pfail => (7, 24)
  | .wakeIn => (7, 25)
  | .pmicEn => (7, 26)
  | .pmicPg => (7, 27)
  | .tck => (7, 28)
  | .tms => (7, 29)
  | .tdi => (7, 30)
  | .tdo => (8, 7)
  | .trst => (8, 8)
  | .xin => (8, 9)
  | .xout => (8, 10)
  | .xbias => (8, 12)
  | .tm x => (31, 7 + x)
  | .trip x => (31, 15 + x)
  | .mpSck => (31, 23)
  | .mpCs => (31, 24)
  | .mpIo k => (31, 25 + k)
  | .sync => (31, 29)
  | .vsup => (31, 30)
  | .canTxd x => (32, 7 + 3 * x)
  | .canRxd x => (32, 8 + 3 * x)
  | .canStb x => (32, 9 + 3 * x)
  | .bdDo x y n => (36, 8 + 3 * (2 * x + y) + b2n n)
  | .bdDi x y n => (34, 8 + 3 * (2 * x + y) + b2n n)

/-- Every signal pin, port by port. -/
def signalPins : List Pin :=
  let r := List.range
  let pair (f : Bool → Pin) : List Pin := [f false, f true]
  ((r 64).map fun x => pair (.cb x)).flatten ++ ((r 16).map fun x => [Pin.spSck x, .spSdo x, .spSdi x] ++ (r 8).map (.spCs x)).flatten ++
  ((r 16).map fun x => [Pin.segEn x, .segIs x false, .segIs x true, .segVs x]).flatten ++
  ((r 16).map fun x => [Pin.lpDrv x, .lpIs x false, .lpIs x true, .lpVs x]).flatten ++ ((r 32).map fun m => pair (.win m)).flatten ++
  ((r 4).map fun n => pair (.peDo n)).flatten ++ pair .peRefclk ++ ((r 4).map fun n => pair (.peDi n)).flatten ++
  [.pePerst, .peWake, .peClkreq, .hostwake, .porst, .pfail, .wakeIn, .pmicEn, .pmicPg, .tck, .tms, .tdi, .tdo, .trst, .xin, .xout, .xbias] ++
  (r 8).map .tm ++ (r 8).map .trip ++ [.mpSck, .mpCs] ++ (r 4).map .mpIo ++ [.sync, .vsup] ++
  ((r 8).map fun x => [Pin.canTxd x, .canRxd x, .canStb x]).flatten ++
  ((r 4).map fun x => ((r 2).map fun y => pair (.bdDo x y)).flatten ++ ((r 2).map fun y => pair (.bdDi x y)).flatten).flatten

/-- Supply nets (R642). -/
inductive Net where
  | vcore | vss | vser | vserh | vaon | vafe | vio (b : Nat) | vret | vwb
deriving DecidableEq, Repr

/-- The net of a supply or ground ball (R642). -/
def ballNet (r c : Nat) : Option Net :=
  let odd := c % 2 = 1
  if 9 ≤ r ∧ r ≤ 28 ∧ 7 ≤ c ∧ c ≤ 30 then some (if (r + c) % 2 = 1 then .vcore else .vss)
  else if 1 ≤ r ∧ r ≤ 4 ∧ 33 ≤ c ∧ c ≤ 36 then some (.vio (2 * (r - 1) + (c - 33) / 2))
  else if (r = 29 ∨ r = 30) ∧ 7 ≤ c ∧ c ≤ 30 then
    some (if odd then .vss else if c ≤ 22 then .vio ((c - 8) / 2) else .vafe)
  else if r = 5 ∧ 23 ≤ c ∧ c ≤ 30 then some .vser
  else if r = 5 ∧ 7 ≤ c ∧ c ≤ 22 ∧ c % 3 = 1 then some .vss
  else if r = 6 ∧ 7 ≤ c ∧ c ≤ 30 then some (if odd then .vss else .vserh)
  else if r = 7 ∧ 7 ≤ c ∧ c ≤ 16 ∧ c % 3 = 1 then some .vss
  else if r = 8 ∧ 13 ≤ c ∧ c ≤ 30 ∨ r = 8 ∧ c = 11 then
    some (if c = 13 ∨ c = 14 then .vret else if c = 15 ∨ c = 16 then .vwb else if 17 ≤ c ∧ c ≤ 24 then .vaon else .vss)
  else if r = 33 ∧ 7 ≤ c ∧ c ≤ 30 then some (if odd then .vserh else .vss)
  else if r = 35 ∧ 7 ≤ c ∧ c ≤ 30 then some (if odd then .vser else .vss)
  else if (r = 34 ∨ r = 36) ∧ 7 ≤ c ∧ c ≤ 28 ∧ c % 3 = 1 then some .vss
  else if c = 6 ∧ 6 ≤ r ∧ r ≤ 36 ∧ r % 2 = 0 then some .vss
  else none

/-- Pin types (R644). -/
inductive PinType where
  | cbt | io | in_ | od | go | ain | aout | hsd | osc | bias
deriving DecidableEq, Repr

/-- The type of a pin (R641). -/
def Pin.type : Pin → PinType
  | .cb .. => .cbt
  | .spSck _ | .spSdo _ | .spSdi _ | .spCs .. | .tm _ | .mpSck | .mpCs | .mpIo _ | .sync | .canTxd _ | .canRxd _ | .canStb _ | .pmicEn | .tdo => .io
  | .segEn _ | .trip _ => .go
  | .lpDrv _ => .aout
  | .segIs .. | .segVs _ | .lpIs .. | .lpVs _ | .win .. | .vsup => .ain
  | .peDo .. | .peRefclk _ | .peDi .. | .bdDo .. | .bdDi .. => .hsd
  | .peWake | .peClkreq | .hostwake => .od
  | .pePerst | .porst | .pfail | .wakeIn | .pmicPg | .tck | .tms | .tdi | .trst => .in_
  | .xin | .xout => .osc
  | .xbias => .bias

/-- The field bank of a pin, where it has one (R641, R645). -/
def Pin.bank : Pin → Option Nat
  | .cb x _ => some (x / 8)
  | .spSck x | .spSdo x | .spSdi x | .spCs x _ => some (x / 2)
  | .tm x | .canTxd x | .canRxd x | .canStb x => some x
  | .mpSck | .mpCs | .mpIo _ => some 0
  | _ => none

/-- What the hub does at a pin (R647): it leaves it high-impedance, pulls it weakly, drives a level, terminates its receiver, idles its lane,
reads it, or runs the pin's function. -/
inductive PinShow where
  | z | up | down | drive (level : Bool) | term | idle | input | func
deriving DecidableEq, Repr

/-- The columns of R647. -/
inductive PinCol where
  | unpowered | porst | reset | run | watch | final
deriving DecidableEq, Repr

/-- The column of R647 in force; until the boot has configured a block its pins keep the second. -/
def State.pinCol (s : State) : PinCol :=
  if s.sys.pstate = .off then .unpowered
  else if s.sys.final = 2 then .final
  else if s.g BOOT_STS_STAGE < 8 then .porst
  else if s.sys.tap || (match s.sys.rst with | some r => r.kind != .hk && decide (1 ≤ r.step) | none => false) then .reset
  else if s.sys.pstate = .watch ∨ s.sys.pstate = .hibernate ∨ 4 ≤ s.stage then .watch
  else .run

/-- TRIPx is asserted (R154); its level follows POL (R166). -/
def State.tripLevel (s : State) (x : Nat) : Bool := nbit (s.g GRD_TRIPSTS_LATCH) x == nbit (s.g GRD_TRIPCFG_POL) x

/-- Select k of a serial master port is asserted: by the run in progress on it, where it is enabled (R193). -/
def State.selAsserted (s : State) (x k : Nat) : Bool :=
  nbit (s.g (SER_PCS_EN x)) k && match (s.sp x).run with
    | some r => tpSel r.img == k && decide (s.elapsed < r.fin)
    | none => false

/-- An open-drain output pulls low while asserted. -/
def odShow (on : Bool) : PinShow := if on then .drive false else .z

/-- A pin in the column of R647, before its bank's supply and the TAP. -/
def State.pinIn (s : State) (col : PinCol) : Pin → PinShow
  | .segEn x => if col = .unpowered then .z else .drive (s.guState x == guON)
  | .lpDrv x => if col = .unpowered then .z else if s.drives x then .func else .drive false
  | .trip x => if col = .unpowered then .z else .drive (s.tripLevel x)
  | .segIs .. | .segVs _ | .lpIs .. | .lpVs _ | .win .. | .vsup => if col = .unpowered then .z else .input
  | .cb x _ =>
    match col with
    | .unpowered => .z
    | .run => if s.on (CRS_BSTS_RUNNING x) then .func else .term
    | .watch => if s.on (CRS_BSTS_RUNNING x) && s.on (CRS_BCFG_WATCHEN x) then .func else .term
    | _ => .term
  | .spSck x | .spSdo x => if col = .unpowered then .z else if col = .run ∧ s.on (SER_PCFG_EN x) then .func else .down
  | .spSdi x => if col = .unpowered then .z else if col = .run ∧ s.on (SER_PCFG_EN x) then .input else .down
  | .spCs x k =>
    if col = .unpowered then .z
    else if col = .run ∧ s.on (SER_PCFG_EN x) then
      if s.on (SER_PCFG_ROLE x) then (if k = 0 then .input else .z) else .drive (s.selAsserted x k == nbit (s.g (SER_PCS_POL x)) k)
    else .up
  | .mpSck => if col = .unpowered then .z else if col = .run ∧ s.on MEM_CFG_EN then .func else .down
  | .mpCs | .mpIo _ => if col = .unpowered then .z else if col = .run ∧ s.on MEM_CFG_EN then .func else .up
  | .canTxd x =>
    if col = .unpowered then .z
    else if col = .run ∧ s.on (CAN_PCFG_EN x) then (if s.g (CAN_PCFG_OPMODE x) = 0 then .func else .drive true) else .up
  | .canStb x => if col = .unpowered then .z else if col = .run ∧ s.on (CAN_PCFG_EN x) then .drive (s.canStandby x) else .up
  | .canRxd _ => if col = .unpowered then .z else .input
  | .tm x =>
    if col = .unpowered then .z else if col = .run then (if s.g (TIM_TUCTL_IOMODE x) = 0 then .input else .drive (s.tu x).pin) else .down
  | .sync =>
    if col = .unpowered then .z
    else if col = .run then (if s.g TIM_SYNCCFG_MODE = 0 then .input else .drive s.srv.syncPin) else .down
  | .pmicEn => if col = .unpowered then .down else .drive s.sys.pmicEn
  | .hostwake => if col = .run ∨ (col = .watch ∧ s.sys.wake ≠ 0) then odShow s.sys.hostWake else .z
  | .peWake => if col = .run ∨ (col = .watch ∧ s.sys.wake ≠ 0) then odShow s.sys.peWake else .z
  | .peClkreq => if col = .unpowered ∨ col = .porst ∨ col = .final then .z else .func
  | .peDo .. | .peDi .. => if col = .unpowered then .z else if col = .reset ∨ col = .run then .func else .idle
  | .bdDo x _ _ | .bdDi x _ _ =>
    if col = .unpowered then .z else if col = .run ∧ s.g (BND_PSTS_STATE x) ≠ bsOFF then .func else .idle
  | .tdo => .z
  | .pePerst | .porst | .pfail | .wakeIn | .pmicPg | .tck | .tms | .tdi | .trst => if col = .unpowered then .z else .input
  | .peRefclk _ | .xin | .xout | .xbias => .func

/-- The pins of the boundary register (R649). -/
def scanPins : List Pin :=
  signalPins.filter fun p => p.type == .io || p.type == .od || p.type == .in_ || p.type == .go || p.type == .cbt

/-- What the hub does at a pin: R647, high-impedance in a bank without its supply (R646), and under EXTEST, CLAMP and HIGHZ what the TAP
says at every scanned pin that is no guard output (R650). TDO moves in Shift-DR and Shift-IR alone. -/
def State.pin (s : State) (p : Pin) : PinShow :=
  let scan := p.type == .io || p.type == .od || p.type == .cbt
  if (match p.bank with | some b => !s.vioOn b | none => false) then .z
  else if s.sys.tap ∧ scan = true ∧ p ≠ .tdo then
    match tapIns s.sys.ir with
    | .highz => .z
    | _ => match scanPins.findIdx? fun q => q == p with
      | some k => .drive (s.sys.cells.getD k false)
      | none => .z
  else s.pinIn s.pinCol p

/-- The data register the TAP selects: the bits it captures, the first shifted out first (R649). `lv` gives the level at each pin; a cell in
a bank without its supply captures 0. -/
def State.tapCapture (s : State) (lv : Pin → Bool) : List Bool :=
  match tapIns s.sys.ir with
  | .idcode => (List.range 32).map fun k => nbit 0x271405CB k
  | .extest | .sample => scanPins.map fun p => (match p.bank with | some b => s.vioOn b | none => true) && lv p
  | .bypass | .clamp | .highz => [false]

end Sys2Proof.Machine
end

