-- ==== Sys2Proof/WellFormed.lean ====
section
/-! DEFINITION. Well-formed commands: every operand that names an element of an array lies inside the array the spec gives,
and every byte operand is a byte. -/
namespace Sys2Proof

/-- Every element is a code group of 10 bits. -/
def groupsOk (gs : List Nat) : Bool := gs.all fun g => decide (g < 1024)

/-- Every element is a byte. -/
def bytesOk (bs : List Nat) : Bool := bs.all fun b => decide (b < 256)

/-- The command's operands are values the hub's interface can carry. -/
def Instr.wf : Instr → Bool
  | .registerWrite _ ofs _ _ _ => decide (ofs < 8388608)
  | .errstsClr ofs _ => decide (ofs < 262144)
  | .timeReq p pl _ => decide (p < 4) && bytesOk pl
  | .timeResp p pl => decide (p < 4) && bytesOk pl
  | .syncEdgeInput _ => true
  | .syncutcWrite _ => true
  | .timerEnable x _ => decide (x < 16)
  | .timerStartAtCt x => decide (x < 16)
  | .timerCounterWrite x _ => decide (x < 16)
  | .compareArm x y _ => decide (x < 16) && decide (y < 4)
  | .compareMatch x y => decide (x < 16) && decide (y < 4)
  | .captureEntry x _ => decide (x < 8)
  | .captureHeadHold x y => decide (x < 16) && decide (y < 2)
  | .capturePop x y => decide (x < 16) && decide (y < 2)
  | .captureClr x y _ => decide (x < 16) && decide (y < 2)
  | .busEnable b _ => decide (b < 64)
  | .beaconTransmit b => decide (b < 64)
  | .dataFrameReceived b _ gs => decide (b < 64) && groupsOk gs
  | .unknownFrame b _ gs => decide (b < 64) && groupsOk gs
  | .joinFrameReceived b _ gs => decide (b < 64) && groupsOk gs
  | .immediateReplyReceived b _ gs => decide (b < 64) && groupsOk gs
  | .nodeSilent b a => decide (b < 64) && decide (a < 32)
  | .linefault b => decide (b < 64)
  | .probationEnd b a => decide (b < 64) && decide (a < 32)
  | .nodeDeadmitSilence b a => decide (b < 64) && decide (a < 32)
  | .nodeCommandTimeout b a => decide (b < 64) && decide (a < 32)
  | .admissionStep b => decide (b < 64)
  | .layoutChange b => decide (b < 64)
  | .layoutEffective b => decide (b < 64)
  | .nodeDrop b a => decide (b < 64) && decide (a < 32)
  | .busCounterClr b _ => decide (b < 64)
  | .admissionCounterClr b _ => decide (b < 64)
  | .windowTrip c _ _ => decide (c < 32)
  | .integratorTrip c => decide (c < 32)
  | .channelOn c => decide (c < 32)
  | .channelOff c => decide (c < 32)
  | .rearm c => decide (c < 32)
  | .toffExpiry c => decide (c < 32)
  | .retriesReset c => decide (c < 32)
  | .tripClear _ => true
  | .guardCounterClr c _ => decide (c < 32)
  | .loopModeWrite x _ => decide (x < 16)
  | .complianceEntry x => decide (x < 16)
  | .complianceExit x => decide (x < 16)
  | .loopCounterClr x _ => decide (x < 16)
  | .monitorEdge m _ => decide (m < 100)
  | .selfCheckGo _ => true
  | .selfCheckDone _ _ _ _ => true
  | .wheelStandstill m => decide (m < 32)
  | .templateCommit n => decide (n < 1024)
  | .templateRead n => decide (n < 1024)
  | .serialEntryStart x => decide (x < 16)
  | .serialEntryDone x _ => decide (x < 16)
  | .slaveWordReceived x _ => decide (x < 16)
  | .slaveSelectNegated x n _ _ => decide (x < 16) && decide (n < 33)
  | .serialCounterClr x _ => decide (x < 16)
  | .memApRead k b b2 => decide (k < 1024) && bytesOk b && bytesOk b2
  | .memApWrite k _ => decide (k < 1024)
  | .memFlush _ => true
  | .statusPoll st b => decide (st < 256) && bytesOk b
  | .rawCommand _ _ => true
  | .canFrameReceived x _ data _ => decide (x < 8) && bytesOk data
  | .canTxDone x _ _ _ => decide (x < 8)
  | .canTxTimeout x y => decide (x < 8) && decide (y < 64)
  | .canBusOff x => decide (x < 8)
  | .canRecovered x => decide (x < 8)
  | .canRecover x _ => decide (x < 8)
  | .canFifoPop x _ => decide (x < 8)
  | .canWake x => decide (x < 8)
  | .canCounterClr x _ => decide (x < 8)
  | .commitPoint b => decide (b < 64)
  | .serialPlacement e => decide (e < 32768)
  | .serlateExpiry x => decide (x < 16)
  | .wheelInstant e => decide (e < 32768)
  | .courseDeadline b => decide (b < 64)
  | .remoteCommandTimeout tag => decide (tag < 65536)
  | .pscCounterClr _ => true
  | .recordCommit e => decide (e < 131072)
  | .recordRead e => decide (e < 131072)
  | .recordRelease e => decide (e < 131072)
  | .tableLoadGo src => decide (src < 4)
  | .tableLoadDone _ b => bytesOk b
  | .tableStoreDone _ => true
  | .switchArm _ => true
  | .eptCounterClr _ => true
  | .channelCommit c => decide (c < 8192)
  | .channelRead c => decide (c < 8192)
  | .channelClrsts c => decide (c < 8192)
  | .setCommit n => decide (n < 512)
  | .setRead n => decide (n < 512)
  | .setRelease n => decide (n < 512)
  | .mashInput x l _ => decide (x < 4) && decide (l < 33)
  | .chctlFreeze c k => decide (c < 8192) && decide (k < 8)
  | .chctlThaw c k => decide (c < 8192) && decide (k < 8)
  | .chctlSwitch c k xf n => decide (c < 8192) && decide (k < 8) && decide (xf < 16) && decide (n < 512)
  | .mashCounterClr _ => true
  | .machineCommit n => decide (n < 1024)
  | .machineRead n => decide (n < 1024)
  | .machineRelease n => decide (n < 1024)
  | .rcgTimeTrigger n => decide (n < 16384)
  | .rcgCounterClr _ => true
  | .leaseExpiry idx => decide (idx < 4096)
  | .leaseEndAck idx => decide (idx < 4096)
  | .windowCommit t k => decide (t < 1024) && decide (k < 8)
  | .windowRead t k => decide (t < 1024) && decide (k < 8)
  | .windowClr t k => decide (t < 1024) && decide (k < 8)
  | .tenCounterClr _ => true
  | .cmdtail t _ => decide (t < 1024)
  | .cplhead t _ => decide (t < 1024)
  | .evthead t _ => decide (t < 1024)
  | .resumecmd t _ => decide (t < 1024)
  | .resumecpl t _ => decide (t < 1024)
  | .resumeevt t _ => decide (t < 1024)
  | .clrdberr t _ => decide (t < 1024)
  | .post t r _ => decide (t < 1024) && decide (r < 8)
  | .ack t r _ => decide (t < 1024) && decide (r < 8)
  | .commandFetch t => decide (t < 1024)
  | .completionWrite t => decide (t < 1024)
  | .dmaWriteConfirmed t what _ => decide (t < 1024) && decide (what < 16)
  | .dmaReadDone t what slot _ b => decide (t < 1024) && decide (what < 16) && decide (slot < 65536) && bytesOk b
  | .caskAgeExpiry _ ring => decide (ring < 8)
  | .caskPlacement t r => decide (t < 1024) && decide (r < 8)
  | .eventRecordWrite t => decide (t < 1024)
  | .ringSetup t k => decide (t < 1024) && decide (k < 4)
  | .ringSetupRead t k => decide (t < 1024) && decide (k < 4)
  | .ringSetupStop t k => decide (t < 1024) && decide (k < 4)
  | .rngCounterClr _ => true
  | .hostLinkReset kind => decide (kind < 4)
  | .portEnable p _ => decide (p < 4)
  | .trainingStepDone p mask => decide (p < 4) && decide (mask < 4)
  | .trainingTimeout p => decide (p < 4)
  | .laneFault p lane => decide (p < 4) && decide (lane < 2)
  | .laneRetrained p lane => decide (p < 4) && decide (lane < 2)
  | .linkDown p => decide (p < 4)
  | .flitReceived p bs _ _ => decide (p < 4) && bytesOk bs
  | .status p pl => decide (p < 4) && bytesOk pl
  | .nak p pl => decide (p < 4) && bytesOk pl
  | .replayTimeout p => decide (p < 4)
  | .statusTimer p => decide (p < 4)
  | .hello p pl => decide (p < 4) && bytesOk pl
  | .helloTimer p => decide (p < 4)
  | .resume p pl => decide (p < 4) && bytesOk pl
  | .close p pl => decide (p < 4) && bytesOk pl
  | .splitHoldExpiry p => decide (p < 4)
  | .retryHoldExpiry p => decide (p < 4)
  | .configTimeout tag => decide (tag < 65536)
  | .remoteSetupGo _ => true
  | .directoryEntryLoad p => decide (p < 16)
  | .claim k => decide (k < 32)
  | .eoi k _ => decide (k < 32)
  | .sourceCommit n => decide (n < 4160)
  | .sourceRead n => decide (n < 4160)
  | .hubLatchClear _ _ => true
  | .hubset _ => true
  | .forceSet n => decide (n < 4160)
  | .forceClr n => decide (n < 4160)
  | .icuConfigWrite _ => true
  | .msixUnmask k => decide (k < 33)
  | .icuCounterClr _ => true
  | .swpulse _ => true
  | .eventQueueHold q _ => decide (q < 16)
  | .eventQueuePop q => decide (q < 16)
  | .queueFlush q => decide (q < 16)
  | .channelConfigWrite c w _ => decide (c < 64) && decide (w < 13)
  | .evmCounterClr _ => true
  | .powerOnReset _ => true
  | .accessTimeout _ ofs => decide (ofs < 262144)
  | .clkCounterClr _ => true
  | .rstCounterClr _ => true
  | .entryCommit _ => true
  | .wakeSource bits => decide (bits < 8192)
  | .shedRise mv _ => decide (mv < 4096)
  | .shedFall mv _ => decide (mv < 4096)
  | .powerFail why mv => decide (why < 3) && decide (mv < 4096)
  | .powerRestore mv _ => decide (mv < 4096)
  | .thermalShutdown _ => true
  | .thermalRecover _ => true
  | .pwrCounterClr _ => true
  | .nvmProgramDone _ => true
  | .refreshScan _ => true
  | .lifeCounterLoad n => decide (n < 64)
  | .nvsCounterClr _ => true
  | .bootStageDone _ _ _ => true
  | .configRequest _ ofs _ => decide (ofs < 4096)
  | .updateDone _ _ b => bytesOk b
  | .guardImageDone _ => true
  | .slotEnd b a _ => decide (b < 64) && decide (a < 32)
  | .grant b => decide (b < 64)
  | .canBusError x _ => decide (x < 8)
  | .thermalProgramAbandon _ => true
  | .ctCaptureRead => true
  | .timeExchangeStart => true
  | .timeRespTimeout => true
  | .holdcntExpiry => true
  | .syncEdgeTimeout => true
  | .discHoldExpiry => true
  | .syncOutputPulse => true
  | .syncPulseEnd => true
  | .guardLock => true
  | .loopSet => true
  | .pageBufferTimeout => true
  | .progtoExpiry => true
  | .canSend => true
  | .schedCreate => true
  | .schedDestroy => true
  | .schedQuery => true
  | .schedTrigger => true
  | .decode => true
  | .tableLoad => true
  | .tableStore => true
  | .tableDiscard => true
  | .switchCancel => true
  | .switchEffect => true
  | .bankRetire => true
  | .mashFreeze => true
  | .mashThaw => true
  | .mashSwitch => true
  | .syncNow => true
  | .syncArm => true
  | .syncDisarm => true
  | .armedSync => true
  | .periodicSync => true
  | .rcgCreate => true
  | .rcgDestroy => true
  | .rcgReset => true
  | .rcgSetpar => true
  | .rcgQuery => true
  | .recognizerStep => true
  | .tenCreate => true
  | .tenChange => true
  | .tenDestroy => true
  | .tenReset => true
  | .bind => true
  | .leaseGrant => true
  | .leaseRevoke => true
  | .setKey => true
  | .nop => true
  | .time => true
  | .streamOpen => true
  | .streamClose => true
  | .mark => true
  | .ringStart => true
  | .ringStop => true
  | .ringResume => true
  | .ringFlush => true
  | .ringQuery => true
  | .epQuery => true
  | .nodeCmd => true
  | .serXfer => true
  | .syncAt => true
  | .functionLevelReset => true
  | .cmd => true
  | .cmdData => true
  | .cpl => true
  | .reject => true
  | .staleResend => true
  | .caskData => true
  | .caskClose => true
  | .caskack => true
  | .event => true
  | .syncAtMessage => true
  | .groupTrigger => true
  | .reelect => true
  | .hostLinkUp => true
  | .offer => true
  | .attach => true
  | .detach => true
  | .report => true
  | .settleExpiry => true
  | .directory => true
  | .dirack => true
  | .stateTransferStart => true
  | .prepare => true
  | .prepared => true
  | .configCommit => true
  | .withdraw => true
  | .regaccess => true
  | .regresult => true
  | .state => true
  | .genset => true
  | .genack => true
  | .configAck => true
  | .rolCounterClr => true
  | .coalesceTimeout => true
  | .eventDelivery => true
  | .xinFailure => true
  | .xinRecovered => true
  | .rootPllUnlock => true
  | .rootPllLocked => true
  | .warm => true
  | .core => true
  | .hkrst => true
  | .resetStart => true
  | .coreHold => true
  | .housekeepingReady => true
  | .watchdogExpiry => true
  | .abort => true
  | .doze => true
  | .watch => true
  | .hibernate => true
  | .off => true
  | .autotExpiry => true
  | .drained => true
  | .wakeat => true
  | .pmicPgRise => true
  | .memrdy => true
  | .wakeComplete => true
  | .wakePgTimeout => true
  | .wakeRetry => true
  | .watchCycle => true
  | .append => true
  | .journalRead => true
  | .journalWrite => true
  | .nvmEraseDone => true
  | .lifeCheckpoint => true
  | .bootStageTimeout => true
  | .updateGo => true
  | .guardImageStore => true
  | .guardImageErase => true
  | .tapIsolate ir _ => ir == 0 || ir == 3 || ir == 4
  | .tapRelease ir => decide (ir < 256) && !(ir == 0 || ir == 3 || ir == 4)
  | .caskValidTimeout => true
  | .vafeLoss => true
  | .vafeReturn => true

end Sys2Proof
end

