-- ==== Sys2Proof/Safety.lean ====
section
/-! DEFINITION. What the claims call safe: the canonical form of the register map, and steps that do not stop. -/
namespace Sys2Proof.Machine

/-- The register map is in canonical form: offsets strictly rising, no register listed at its reset value, so that equal register
maps are equal data. -/
abbrev State.RegsOk (s : State) : Prop := s.regs.wf rstAt = true

/-- An offset that no announcement writes: outside the latches at 0x25020 and 0x25024 and the words after the interrupt controller's error
status. -/
abbrev Loud (o : Nat) : Prop := o < 0x25020 ∨ (0x25024 < o ∧ o ≤ 0x33C00) ∨ 0x33FFF < o

/-- Every waiting command has its operands in range (WellFormed). -/
def State.QueueOk (s : State) : Prop := ∀ c ∈ s.pending, c.wf = true

/-- A field lies in a word: its bits in rising order, none above 31. -/
abbrev Fld.fits (f : Fld) : Prop := f.lo ≤ f.hi ∧ f.hi < 32

/-- Two fields share no bit. -/
abbrev Fld.apart (f g : Fld) : Prop := f.off ≠ g.off ∨ f.hi < g.lo ∨ g.hi < f.lo

/-- The state a register access acts on: the access ends DOZE first (R595), and in RUN it is the state itself. -/
def State.awake (s : State) : State := s.wakeDoze 0x400

/-- A write of v to register r is accepted: its block's clock runs (R581), no guard lock holds it (R8), and v passes the checks of the
register's fields (R9). -/
abbrev State.Accepts (s : State) (r : Reg) (v : Word) : Prop :=
  s.awake.stopped r.err = false ∧ (r.lockable = true → s.awake.on GRD_LOCK_LOCK = false) ∧ r.check v = none

/-- The step ends in a next state: neither a fault nor a refusal. -/
def State.Goes (s : State) : Prop := ∃ t, step s = .next t

end Sys2Proof.Machine
end

