-- ==== Sys2Proof/Certificates/Slice0/Obligations.lean ====
section
/-! DEFINITION. The statements for the provers. Each says, for the commands it names, where they complete and what the next state holds, or
what a command leaves as it was. A register access acts on `s.awake`: the access itself ends DOZE (R595), and in RUN `s.awake` is s. -/
open Sys2Proof Sys2Proof.Machine

/-- STEP: with commands waiting, a step takes the one at the front and is its effect with the queue's rest waiting. -/
def Obligations.StepRunsFront : Prop :=
  ∀ s c rest, s.pending = c :: rest → step s = exec c { s with pending := rest }

/-- IDLE: with no command waiting, a step is one CKFAB period (the model's choice, notes/assumptions/2.md): its own clock advances, the always-on counter at
every 48th (never beyond its greatest value, R12), and in OFF nothing happens (R588). -/
def Obligations.IdleStepTicks : Prop :=
  (∀ s, s.pending = [] → step s = .next s.tick) ∧
  (∀ s : State, s.sys.pstate = .off → s.tick = s) ∧
  (∀ s : State, s.sys.pstate ≠ .off → s.tick.time.cyc = s.time.cyc + 1 ∧
    s.tick.time.aon = if (s.time.cyc + 1) % 48 = 0 then min (s.time.aon + 1) (2 ^ 64 - 1) else s.time.aon)

/-- R29: while CKFAB carries CT (the always-on generator of R42 does not), in every CKFAB cycle the 64-bit increment is added to the 96-bit accumulator; CT is its bits 95:32, and the fraction is kept. -/
def Obligations.CtAccumulates : Prop :=
  ∀ s : State, s.sys.pstate ≠ .off → s.time.gen = false →
    s.tick.time.acc = (s.time.acc + (s.g TIM_CTINCLO + 2 ^ 32 * s.g TIM_CTINCHI)) % 2 ^ 96 ∧
    s.tick.ct = s.tick.time.acc / 2 ^ 32 % 2 ^ 64 ∧
    (s.time.acc < 2 ^ 96 → 2 ^ 32 * s.ct + s.time.acc % 2 ^ 32 = s.time.acc)

/-- RESET: nothing waits and nothing has been sent; every register reads as the reset value its table gives (R8), such as these. -/
def Obligations.ResetValues : Prop :=
  State.reset.pending = [] ∧ State.reset.out = [] ∧ (∀ o, State.reset.rd o = rstAt o) ∧
  (∀ x ∈ [(TIM_CTINCLO, 0xD5555555), (TIM_SVCFG_INTERVAL, 3), (TIM_SYNCCFG_DISC_HOLD, 60), (GRD_CTOFF_TOFF 31, 1000), (RCG_CFG_EMITLIM, 100),
      (WIN_MSPD_STILL 3, 500), (MSH_CHPER_P, 160), (TEN_T0SRATE, 30000000), (TEN_T0BW, 1000000), (RNG_ORD, 4), (ROL_HOLD_SPLITHOLD, 20),
      (ICU_CFG_MODE, 1), (ICU_SRCCFG_PRIO, 1), (RST_WDT_PERIOD, 100), (PWR_SHED1_VTHR, 1800), (PWR_SHED1_TTHR, 125), (BOOT_ID_PART, 0x7140),
      (CRS_BCFG_GUARD 31, 16), (CAN_PNBT_NBRP 7, 19), (EPT_CFG_RETIREHOLD, 2000), (SER_PCFG_DIV 15, 10), (CLK_STS_ROSC, 1),
      (TIM_CTSTS_STATE, 0), (BOOT_STS_STAGE, 0), (PWR_STS_STAGE, 0)], State.reset.g x.1 = x.2)

/-- RESET is canonical: the register map lists nothing at its reset value, and every waiting command is well formed. -/
def Obligations.ResetCanonical : Prop := State.reset.RegsOk ∧ State.reset.QueueOk

/-- STEP goes on: from every state a step ends in a next state, neither a fault nor a refusal. -/
def Obligations.EveryStepGoes : Prop := ∀ s : State, s.Goes

/-- CANONICAL: from every state whose register map is in canonical form (offsets strictly rising, none listed at its reset value), a step leaves it so:
whatever the command, and whatever else the state holds. -/
def Obligations.RegisterMapStaysCanonical : Prop := ∀ s t : State, s.RegsOk → step s = .next t → t.RegsOk

/-- QUEUE: a step takes the front command and no other, adds none, and so keeps a queue of well-formed commands well formed. -/
def Obligations.StepTakesOneCommand : Prop :=
  (∀ s t : State, step s = .next t → t.pending = s.pending.drop 1) ∧ (∀ s t : State, s.QueueOk → step s = .next t → t.QueueOk)

/-- UNITS: only the commands named reach the accumulator of combination time, the time servo, the timer units, the serial ports, the CAN ports, the memory
port and the images; every other command leaves them as they were. -/
def Obligations.UnitsLeftAlone : Prop :=
  ∀ (c : Instr) (s : State), ∃ t, exec c s = .next t ∧
  (match c with
   | .registerWrite .. | .timeResp .. | .powerOnReset .. | .entryCommit .. | .wakeSource .. | .shedRise .. | .powerFail ..
   | .thermalShutdown .. | .nvmProgramDone .. | .bootStageDone .. | .thermalProgramAbandon .. | .settleExpiry | .regaccess | .xinFailure
   | .rootPllUnlock | .rootPllLocked | .warm | .core | .hkrst | .resetStart | .coreHold | .watchdogExpiry | .memrdy | .wakeComplete
   | .tapRelease .. => True
   | _ => t.time = s.time) ∧
  (match c with
   | .registerWrite .. | .timeResp .. | .syncEdgeInput .. | .syncutcWrite .. | .laneFault .. | .laneRetrained .. | .linkDown .. | .nak ..
   | .replayTimeout .. | .close .. | .powerOnReset .. | .entryCommit .. | .wakeSource .. | .shedRise .. | .shedFall .. | .powerFail ..
   | .powerRestore .. | .thermalShutdown .. | .nvmProgramDone .. | .bootStageDone .. | .thermalProgramAbandon .. | .timeExchangeStart
   | .timeRespTimeout | .holdcntExpiry | .syncEdgeTimeout | .syncOutputPulse | .syncPulseEnd | .settleExpiry | .directory | .regaccess
   | .xinFailure | .rootPllUnlock | .rootPllLocked | .warm | .core | .hkrst | .resetStart | .coreHold | .watchdogExpiry | .memrdy
   | .wakeComplete | .tapRelease .. => True
   | _ => t.srv = s.srv) ∧
  (match c with
   | .registerWrite .. | .syncEdgeInput .. | .timerEnable .. | .timerStartAtCt .. | .timerCounterWrite .. | .compareArm ..
   | .compareMatch .. | .captureEntry .. | .captureHeadHold .. | .capturePop .. | .captureClr .. | .windowTrip .. | .monitorEdge ..
   | .selfCheckDone .. | .powerOnReset .. | .entryCommit .. | .wakeSource .. | .bootStageDone .. | .regaccess | .eventDelivery | .xinFailure
   | .coreHold | .tapIsolate .. | .vafeLoss | .vafeReturn => True
   | _ => t.tus = s.tus) ∧
  (match c with
   | .registerWrite .. | .templateCommit .. | .templateRead .. | .serialEntryStart .. | .serialEntryDone .. | .slaveWordReceived ..
   | .slaveSelectNegated .. | .commitPoint .. | .serialPlacement .. | .serlateExpiry .. | .powerOnReset .. | .entryCommit ..
   | .wakeSource .. | .shedRise .. | .powerFail .. | .thermalShutdown .. | .nvmProgramDone .. | .thermalProgramAbandon .. | .decode
   | .serXfer | .regaccess | .xinFailure | .coreHold | .abort | .doze | .watch | .hibernate | .off | .autotExpiry | .drained
   | .tapIsolate .. => True
   | _ => t.ser = s.ser) ∧
  (match c with
   | .registerWrite .. | .canFrameReceived .. | .canTxDone .. | .canTxTimeout .. | .canBusOff .. | .canRecovered .. | .canFifoPop ..
   | .commitPoint .. | .hostLinkReset .. | .powerOnReset .. | .entryCommit .. | .wakeSource .. | .shedRise .. | .powerFail ..
   | .thermalShutdown .. | .nvmProgramDone .. | .canBusError .. | .thermalProgramAbandon .. | .canSend | .functionLevelReset | .regaccess
   | .xinFailure | .coreHold | .abort | .doze | .watch | .hibernate | .off | .autotExpiry | .drained | .tapIsolate .. => True
   | _ => t.cans = s.cans) ∧
  (match c with
   | .registerWrite .. | .memApRead .. | .memApWrite .. | .memFlush .. | .statusPoll .. | .rawCommand .. | .commitPoint ..
   | .powerOnReset .. | .entryCommit .. | .wakeSource .. | .shedRise .. | .powerFail .. | .thermalShutdown .. | .nvmProgramDone ..
   | .thermalProgramAbandon .. | .pageBufferTimeout | .progtoExpiry | .regaccess | .xinFailure | .rootPllUnlock | .warm | .core | .hkrst
   | .resetStart | .coreHold | .watchdogExpiry | .abort | .doze | .watch | .hibernate | .off | .autotExpiry | .drained | .wakeComplete
   | .tapIsolate .. | .tapRelease .. => True
   | _ => t.mem = s.mem) ∧
  (match c with
   | .registerWrite .. | .powerOnReset .. | .entryCommit .. | .wakeSource .. | .updateDone .. | .guardImageDone .. | .regaccess
   | .xinFailure | .rootPllUnlock | .warm | .core | .hkrst | .resetStart | .watchdogExpiry | .wakeComplete | .updateGo | .guardImageStore
   | .guardImageErase | .tapIsolate .. | .tapRelease .. => True
   | _ => t.boot = s.boot)

/-- R169: a write that changes MODE while the loop's guard channel is ON or RETRYWAIT is discarded whole with NOT_IN_STATE, and a change of MODE clears the
set point. -/
def Obligations.LoopModeHeld : Prop :=
  (∀ s x v, x < 16 → s.Accepts rAFE_LCFG v → wbits v 2 0 ≠ s.awake.g (AFE_LCFG_MODE x) → s.awake.guActive (16 + x) = true →
    ∃ t, exec (.loopModeWrite x v) s = .next t ∧ t = s.awake.err AFE_ERRSTS (AFE_LCFG_MODE x).off NOT_IN_STATE ∧
      (∀ o, Loud o → o ≠ AFE_ERRSTS → t.rd o = s.awake.rd o)) ∧
  (∀ s x v t, x < 16 → exec (.loopModeWrite x v) s = .next t → t.g (AFE_LCFG_MODE x) ≠ s.awake.g (AFE_LCFG_MODE x) → t.g (AFE_LSET_SET x) = 0)

/-- DECODER arithmetic (R281, R287): a quotient is rounded to the nearest integer, ties away from zero; a curve's value lies on the line of the lowest
segment that holds X. -/
def Obligations.DecoderRounds : Prop :=
  (∀ n d : Int, d ≠ 0 → 2 * (divRound n d * d - n).natAbs ≤ d.natAbs) ∧
  (∀ n d : Int, d ≠ 0 → 2 * (divRound n d * d - n).natAbs = d.natAbs → n.natAbs < (divRound n d * d).natAbs) ∧
  (∀ (ks : List (Int × Int)) (i : Nat) (p q : Int × Int) (x : Int), ks[i]? = some p → ks[i + 1]? = some q → p.1 ≤ x → x ≤ q.1 →
    (∀ j < i, ∀ a b, ks[j]? = some a → ks[j + 1]? = some b → x < a.1 ∨ b.1 < x) →
    segAt ks x = some (divRound (p.2 * (q.1 - p.1) + (x - p.1) * (q.2 - p.2)) (q.1 - p.1)))

/-- DOZE (R595): an access ends DOZE, which sets bit 10 of PWR_WAKESRC, and a register write is then done; in RUN it changes nothing of the kind. -/
def Obligations.AccessEndsDoze : Prop :=
  (∀ s : State, s.sys.pstate = .doze → s.stage < 4 → s.awake.sys.pstate = .run ∧ nbit (s.awake.g PWR_WAKESRC) 10 = true ∧
    s.awake.g PWR_STS_PREV = 1 ∧ (∀ o, Loud o → o ≠ PWR_WAKESRC.off → o ≠ PWR_STS_PREV.off → s.awake.rd o = s.rd o)) ∧
  (∀ s : State, s.sys.pstate ≠ .doze → s.awake = s)

/-- REGISTERS left alone: of the registers outside the interrupt controller and EVM_MERGED, these commands change the ones listed and no other. -/
def Obligations.RegisterFrames : Prop :=
  (∀ s, ∃ t, exec .coalesceTimeout s = .next t ∧ (∀ o, Loud o → t.rd o = s.rd o)) ∧
  (∀ s k, ∃ t, exec (.msixUnmask k) s = .next t ∧ (∀ o, Loud o → t.rd o = s.rd o)) ∧
  (∀ s, ∃ t, exec .discHoldExpiry s = .next t ∧ (∀ o, Loud o → o ≠ TIM_CTSTS_STATE.off → t.rd o = s.rd o)) ∧
  (∀ s, ∃ t, exec .syncEdgeTimeout s = .next t ∧ (∀ o, Loud o → o ≠ TIM_CTSTS_STATE.off → o ≠ TIM_SYNCREJ.off → t.rd o = s.rd o)) ∧
  (∀ s, ∃ t, exec .holdcntExpiry s = .next t ∧
    (∀ o, Loud o → o ≠ TIM_CTSTS_STATE.off → o ≠ TIM_CTINCLO.off → o ≠ TIM_CTINCHI.off → t.rd o = s.rd o)) ∧
  (∀ s, ∃ t, exec .timeRespTimeout s = .next t ∧ (∀ o, o ≠ (BND_PTIMEBAD (s.g TIM_CTSTS_UPPORT)).off → t.rd o = s.rd o)) ∧
  (∀ s x, ∃ t, exec (.timerStartAtCt x) s = .next t ∧ (∀ o, o ≠ (TIM_TUSTS_RUNNING x).off → t.rd o = s.rd o)) ∧
  (∀ s x v, s.Accepts rTIM_TUCNTHI v → ∃ t, exec (.timerCounterWrite x v) s = .next t ∧
    (∀ o, Loud o → o ≠ rTIM_TUCNTHI.at x 0 → o ≠ TIM_ERRSTS → t.rd o = s.awake.rd o)) ∧
  (∀ s x y v, s.Accepts rTIM_TUCMPHI v → ∃ t, exec (.compareArm x y v) s = .next t ∧
    (∀ o, Loud o → o ≠ rTIM_TUCMPHI.at x y → o ≠ (TIM_TUCMPCTL_ARM x y).off → o ≠ TIM_ERRSTS → t.rd o = s.awake.rd o)) ∧
  (∀ s b, ∃ t, exec (.linefault b) s = .next t ∧ (∀ o, Loud o → o ≠ (CRS_BSTS_LINEFAULT b).off → t.rd o = s.rd o)) ∧
  (∀ s b a, ∃ t, exec (.nodeSilent b a) s = .next t ∧ (∀ o, o ≠ (CRS_NSTS_SILENT b a).off → t.rd o = s.rd o)) ∧
  (∀ s b a, ∃ t, exec (.probationEnd b a) s = .next t ∧ (∀ o, Loud o → o ≠ (CRS_NSTS_PROBATION b a).off → t.rd o = s.rd o)) ∧
  (∀ s c, ∃ t, exec (.retriesReset c) s = .next t ∧ (∀ o, o ≠ (GRD_CSTS_RETRIES c).off → t.rd o = s.rd o)) ∧
  (∀ s x, ∃ t, exec (.canRecovered x) s = .next t ∧ (∀ o, Loud o → o ≠ (CAN_PSTS_RECOVERING x).off → t.rd o = s.rd o)) ∧
  (∀ s p lane, ∃ t, exec (.laneRetrained p lane) s = .next t ∧ (∀ o, Loud o → o ≠ (BND_PSTS_TRAINED p).off → t.rd o = s.rd o)) ∧
  (∀ s, ∃ t, exec .wakePgTimeout s = .next t ∧ (∀ o, o ≠ PWR_WAKEFAIL.off → o ≠ PWR_STS_PHASE.off → t.rd o = s.rd o)) ∧
  (∀ s, ∃ t, exec .xinRecovered s = .next t ∧ (∀ o, o ≠ CLK_STS_XINOK.off → t.rd o = s.rd o)) ∧
  (∀ s v, s.Accepts rICU_HUBLATLO v → ∃ t, exec (.hubLatchClear false v) s = .next t ∧ (∀ o, Loud o → t.rd o = s.awake.rd o)) ∧
  (∀ s v, s.Accepts rEVM_SWPULSE v → ∃ t, exec (.swpulse v) s = .next t ∧ (∀ o, Loud o → t.rd o = s.awake.rd o)) ∧
  (∀ s, s.Accepts rNVS_JCTL 0x80000000 → ∃ t, exec .append s = .next t ∧ (∀ o, Loud o → o ≠ NVS_ERRSTS → t.rd o = s.awake.rd o)) ∧
  (∀ s, s.Accepts rRST_CTL 0x5A01 → s.awake.sys.rst = none → ∃ t, exec .warm s = .next t ∧
    (∀ o, Loud o → o ≠ RST_ERRSTS → t.rd o = s.awake.rd o))

/-- What the commands of time, timers, interrupts and events leave alone: every part of the state not named after `with`, the queue of waiting
commands among them, is as it was. -/
def Obligations.TimeAndInterruptFrames : Prop :=
  (∀ s p pl lat, ∃ t, exec (.timeReq p pl lat) s = .next t ∧ t = { s with regs := t.regs, out := t.out, bnd := t.bnd }) ∧
  (∀ s p pl, ∃ t, exec (.timeResp p pl) s = .next t ∧ t = { s with
      regs := t.regs, free := t.free, out := t.out, time := t.time, srv := t.srv, icu := t.icu, evm := t.evm, sys := t.sys, psc := t.psc,
      crs := t.crs, ept := t.ept, msh := t.msh, rcg := t.rcg, rng := t.rng, bnd := t.bnd }) ∧
  (∀ s v, ∃ t, exec (.syncutcWrite v) s = .next t ∧ t = { s with regs := t.regs, out := t.out, srv := t.srv, icu := t.icu, sys := t.sys }) ∧
  (∀ s x v, ∃ t, exec (.timerEnable x v) s = .next t ∧ t = { s with regs := t.regs, out := t.out, tus := t.tus, icu := t.icu, sys := t.sys }) ∧
  (∀ s x, ∃ t, exec (.timerStartAtCt x) s = .next t ∧ t = { s with regs := t.regs, tus := t.tus }) ∧
  (∀ s x v, ∃ t, exec (.timerCounterWrite x v) s = .next t ∧ t = { s with
      regs := t.regs, out := t.out, tus := t.tus, icu := t.icu, sys := t.sys }) ∧
  (∀ s x y v, ∃ t, exec (.compareArm x y v) s = .next t ∧ t = { s with regs := t.regs, out := t.out, tus := t.tus, icu := t.icu, sys := t.sys }) ∧
  (∀ s x y, ∃ t, exec (.compareMatch x y) s = .next t ∧ t = { s with regs := t.regs, out := t.out, tus := t.tus, icu := t.icu, evm := t.evm }) ∧
  (∀ s x fall, ∃ t, exec (.captureEntry x fall) s = .next t ∧ t = { s with
      regs := t.regs, out := t.out, tus := t.tus, icu := t.icu, evm := t.evm }) ∧
  (∀ s x y, ∃ t, exec (.captureHeadHold x y) s = .next t ∧ t = { s with
      regs := t.regs, rdata := t.rdata, out := t.out, tus := t.tus, icu := t.icu, sys := t.sys }) ∧
  (∀ s x y, ∃ t, exec (.capturePop x y) s = .next t ∧ t = { s with
      regs := t.regs, rdata := t.rdata, out := t.out, tus := t.tus, icu := t.icu, sys := t.sys }) ∧
  (∀ s x y v, ∃ t, exec (.captureClr x y v) s = .next t ∧ t = { s with regs := t.regs, out := t.out, tus := t.tus, icu := t.icu, sys := t.sys }) ∧
  (∀ s k, ∃ t, exec (.claim k) s = .next t ∧ t = { s with regs := t.regs, rdata := t.rdata, out := t.out, icu := t.icu, sys := t.sys }) ∧
  (∀ s k v, ∃ t, exec (.eoi k v) s = .next t ∧ t = { s with regs := t.regs, out := t.out, icu := t.icu, sys := t.sys }) ∧
  (∀ s n, ∃ t, exec (.sourceCommit n) s = .next t ∧ t = { s with regs := t.regs, out := t.out, icu := t.icu, sys := t.sys }) ∧
  (∀ s n, ∃ t, exec (.sourceRead n) s = .next t ∧ t = { s with regs := t.regs, out := t.out, icu := t.icu, sys := t.sys }) ∧
  (∀ s hi v, ∃ t, exec (.hubLatchClear hi v) s = .next t ∧ t = { s with regs := t.regs, out := t.out, icu := t.icu, sys := t.sys }) ∧
  (∀ s v, ∃ t, exec (.hubset v) s = .next t ∧ t = { s with regs := t.regs, out := t.out, icu := t.icu, sys := t.sys }) ∧
  (∀ s n, ∃ t, exec (.forceSet n) s = .next t ∧ t = { s with regs := t.regs, out := t.out, icu := t.icu, sys := t.sys }) ∧
  (∀ s n, ∃ t, exec (.forceClr n) s = .next t ∧ t = { s with regs := t.regs, out := t.out, icu := t.icu, sys := t.sys }) ∧
  (∀ s v, ∃ t, exec (.icuConfigWrite v) s = .next t ∧ t = { s with regs := t.regs, out := t.out, icu := t.icu, sys := t.sys }) ∧
  (∀ s k, ∃ t, exec (.msixUnmask k) s = .next t ∧ t = { s with regs := t.regs, out := t.out, icu := t.icu }) ∧
  (∀ s v, ∃ t, exec (.icuCounterClr v) s = .next t ∧ t = { s with regs := t.regs, out := t.out, icu := t.icu, sys := t.sys }) ∧
  (∀ s v, ∃ t, exec (.swpulse v) s = .next t ∧ t = { s with regs := t.regs, out := t.out, icu := t.icu, evm := t.evm, sys := t.sys }) ∧
  (∀ s q lo, ∃ t, exec (.eventQueueHold q lo) s = .next t ∧ t = { s with
      regs := t.regs, rdata := t.rdata, out := t.out, icu := t.icu, evm := t.evm, sys := t.sys }) ∧
  (∀ s q, ∃ t, exec (.eventQueuePop q) s = .next t ∧ t = { s with
      regs := t.regs, rdata := t.rdata, out := t.out, icu := t.icu, evm := t.evm, sys := t.sys }) ∧
  (∀ s q, ∃ t, exec (.queueFlush q) s = .next t ∧ t = { s with regs := t.regs, out := t.out, icu := t.icu, evm := t.evm, sys := t.sys }) ∧
  (∀ s c w v, ∃ t, exec (.channelConfigWrite c w v) s = .next t ∧ t = { s with regs := t.regs, out := t.out, icu := t.icu, sys := t.sys }) ∧
  (∀ s v, ∃ t, exec (.evmCounterClr v) s = .next t ∧ t = { s with regs := t.regs, out := t.out, icu := t.icu, sys := t.sys }) ∧
  (∀ s, ∃ t, exec .ctCaptureRead s = .next t ∧ t = { s with regs := t.regs, rdata := t.rdata }) ∧
  (∀ s, ∃ t, exec .timeExchangeStart s = .next t ∧ t = { s with out := t.out, srv := t.srv, bnd := t.bnd }) ∧
  (∀ s, ∃ t, exec .timeRespTimeout s = .next t ∧ t = { s with regs := t.regs, srv := t.srv }) ∧
  (∀ s, ∃ t, exec .holdcntExpiry s = .next t ∧ t = { s with regs := t.regs, out := t.out, srv := t.srv, icu := t.icu }) ∧
  (∀ s, ∃ t, exec .syncEdgeTimeout s = .next t ∧ t = { s with regs := t.regs, out := t.out, srv := t.srv, icu := t.icu }) ∧
  (∀ s, ∃ t, exec .discHoldExpiry s = .next t ∧ t = { s with regs := t.regs }) ∧
  (∀ s, ∃ t, exec .syncOutputPulse s = .next t ∧ t = { s with srv := t.srv }) ∧
  (∀ s, ∃ t, exec .syncPulseEnd s = .next t ∧ t = { s with srv := t.srv }) ∧
  (∀ s, ∃ t, exec .coalesceTimeout s = .next t ∧ t = { s with regs := t.regs, out := t.out, icu := t.icu }) ∧
  (∀ s, ∃ t, exec .eventDelivery s = .next t ∧ t = { s with
      regs := t.regs, free := t.free, out := t.out, tus := t.tus, icu := t.icu, evm := t.evm, sys := t.sys, psc := t.psc, crs := t.crs,
      grd := t.grd, msh := t.msh, rcg := t.rcg, rng := t.rng, bnd := t.bnd, nvs := t.nvs })

/-- What the commands of buses, guard, monitors, serial ports, CAN and memory leave alone: every part of the state not named after `with`. -/
def Obligations.FieldFrames : Prop :=
  (∀ s b v, ∃ t, exec (.busEnable b v) s = .next t ∧ t = { s with
      regs := t.regs, out := t.out, icu := t.icu, sys := t.sys, psc := t.psc, crs := t.crs, rng := t.rng, bnd := t.bnd }) ∧
  (∀ s b, ∃ t, exec (.beaconTransmit b) s = .next t ∧ t = { s with
      regs := t.regs, free := t.free, out := t.out, icu := t.icu, evm := t.evm, sys := t.sys, psc := t.psc, crs := t.crs, ept := t.ept,
      msh := t.msh, rcg := t.rcg, ten := t.ten, rng := t.rng, bnd := t.bnd, nvs := t.nvs }) ∧
  (∀ s b arr gs, ∃ t, exec (.dataFrameReceived b arr gs) s = .next t ∧ t = { s with
      regs := t.regs, free := t.free, out := t.out, icu := t.icu, sys := t.sys, psc := t.psc, crs := t.crs, ept := t.ept, msh := t.msh,
      rcg := t.rcg, rng := t.rng, bnd := t.bnd }) ∧
  (∀ s b arr gs, ∃ t, exec (.unknownFrame b arr gs) s = .next t ∧ t = { s with
      regs := t.regs, free := t.free, out := t.out, icu := t.icu, sys := t.sys, psc := t.psc, crs := t.crs, ept := t.ept, msh := t.msh,
      rcg := t.rcg, rng := t.rng, bnd := t.bnd }) ∧
  (∀ s b arr gs, ∃ t, exec (.joinFrameReceived b arr gs) s = .next t ∧ t = { s with
      regs := t.regs, free := t.free, out := t.out, icu := t.icu, sys := t.sys, psc := t.psc, crs := t.crs, ept := t.ept, msh := t.msh,
      rcg := t.rcg, rng := t.rng, bnd := t.bnd }) ∧
  (∀ s b r gs, ∃ t, exec (.immediateReplyReceived b r gs) s = .next t ∧ t = { s with
      regs := t.regs, free := t.free, out := t.out, psc := t.psc, crs := t.crs, rng := t.rng, bnd := t.bnd }) ∧
  (∀ s b a, ∃ t, exec (.nodeSilent b a) s = .next t ∧ t = { s with regs := t.regs }) ∧
  (∀ s b, ∃ t, exec (.linefault b) s = .next t ∧ t = { s with regs := t.regs, out := t.out, icu := t.icu }) ∧
  (∀ s b a, ∃ t, exec (.probationEnd b a) s = .next t ∧ t = { s with regs := t.regs, crs := t.crs }) ∧
  (∀ s b a, ∃ t, exec (.nodeDeadmitSilence b a) s = .next t ∧ t = { s with
      regs := t.regs, out := t.out, psc := t.psc, crs := t.crs, rng := t.rng, bnd := t.bnd }) ∧
  (∀ s b a, ∃ t, exec (.nodeCommandTimeout b a) s = .next t ∧ t = { s with
      regs := t.regs, free := t.free, out := t.out, psc := t.psc, crs := t.crs, rng := t.rng, bnd := t.bnd }) ∧
  (∀ s b, ∃ t, exec (.admissionStep b) s = .next t ∧ t = { s with
      regs := t.regs, free := t.free, out := t.out, psc := t.psc, crs := t.crs, rng := t.rng, bnd := t.bnd }) ∧
  (∀ s b, ∃ t, exec (.layoutChange b) s = .next t ∧ t = { s with crs := t.crs }) ∧
  (∀ s b, ∃ t, exec (.layoutEffective b) s = .next t ∧ t = { s with
      regs := t.regs, free := t.free, out := t.out, icu := t.icu, sys := t.sys, psc := t.psc, crs := t.crs, ept := t.ept, msh := t.msh,
      rcg := t.rcg, ten := t.ten, rng := t.rng, bnd := t.bnd, nvs := t.nvs }) ∧
  (∀ s b a, ∃ t, exec (.nodeDrop b a) s = .next t ∧ t = { s with
      regs := t.regs, out := t.out, icu := t.icu, sys := t.sys, psc := t.psc, crs := t.crs, rng := t.rng, bnd := t.bnd }) ∧
  (∀ s b v, ∃ t, exec (.busCounterClr b v) s = .next t ∧ t = { s with regs := t.regs, out := t.out, icu := t.icu, sys := t.sys }) ∧
  (∀ s b v, ∃ t, exec (.admissionCounterClr b v) s = .next t ∧ t = { s with regs := t.regs, out := t.out, icu := t.icu, sys := t.sys }) ∧
  (∀ s c volt v, ∃ t, exec (.windowTrip c volt v) s = .next t ∧ t = { s with
      regs := t.regs, free := t.free, out := t.out, tus := t.tus, icu := t.icu, evm := t.evm, sys := t.sys, psc := t.psc, crs := t.crs,
      grd := t.grd, rng := t.rng, bnd := t.bnd, nvs := t.nvs }) ∧
  (∀ s c, ∃ t, exec (.integratorTrip c) s = .next t ∧ t = { s with
      regs := t.regs, free := t.free, out := t.out, icu := t.icu, evm := t.evm, psc := t.psc, crs := t.crs, grd := t.grd, rng := t.rng,
      bnd := t.bnd, nvs := t.nvs }) ∧
  (∀ s c, ∃ t, exec (.channelOn c) s = .next t ∧ t = { s with
      regs := t.regs, free := t.free, out := t.out, icu := t.icu, sys := t.sys, psc := t.psc, crs := t.crs, grd := t.grd, rng := t.rng,
      bnd := t.bnd }) ∧
  (∀ s c, ∃ t, exec (.channelOff c) s = .next t ∧ t = { s with
      regs := t.regs, free := t.free, out := t.out, icu := t.icu, sys := t.sys, psc := t.psc, crs := t.crs, grd := t.grd, rng := t.rng,
      bnd := t.bnd }) ∧
  (∀ s c, ∃ t, exec (.rearm c) s = .next t ∧ t = { s with
      regs := t.regs, free := t.free, out := t.out, icu := t.icu, sys := t.sys, psc := t.psc, crs := t.crs, grd := t.grd, rng := t.rng,
      bnd := t.bnd }) ∧
  (∀ s c, ∃ t, exec (.toffExpiry c) s = .next t ∧ t = { s with
      regs := t.regs, free := t.free, out := t.out, psc := t.psc, crs := t.crs, grd := t.grd, rng := t.rng, bnd := t.bnd }) ∧
  (∀ s c, ∃ t, exec (.retriesReset c) s = .next t ∧ t = { s with regs := t.regs }) ∧
  (∀ s v, ∃ t, exec (.tripClear v) s = .next t ∧ t = { s with regs := t.regs, out := t.out, icu := t.icu, sys := t.sys }) ∧
  (∀ s c v, ∃ t, exec (.guardCounterClr c v) s = .next t ∧ t = { s with regs := t.regs, out := t.out, icu := t.icu, sys := t.sys }) ∧
  (∀ s x v, ∃ t, exec (.loopModeWrite x v) s = .next t ∧ t = { s with
      regs := t.regs, free := t.free, out := t.out, icu := t.icu, sys := t.sys, grd := t.grd, msh := t.msh, rcg := t.rcg, rng := t.rng,
      bnd := t.bnd }) ∧
  (∀ s x, ∃ t, exec (.complianceEntry x) s = .next t ∧ t = { s with
      regs := t.regs, out := t.out, evm := t.evm, grd := t.grd, rng := t.rng, bnd := t.bnd }) ∧
  (∀ s x, ∃ t, exec (.complianceExit x) s = .next t ∧ t = { s with
      regs := t.regs, out := t.out, evm := t.evm, grd := t.grd, rng := t.rng, bnd := t.bnd }) ∧
  (∀ s x v, ∃ t, exec (.loopCounterClr x v) s = .next t ∧ t = { s with regs := t.regs, out := t.out, icu := t.icu, sys := t.sys }) ∧
  (∀ s m v, ∃ t, exec (.monitorEdge m v) s = .next t ∧ t = { s with
      regs := t.regs, free := t.free, out := t.out, tus := t.tus, icu := t.icu, evm := t.evm, sys := t.sys, psc := t.psc, crs := t.crs,
      grd := t.grd, rng := t.rng, bnd := t.bnd, nvs := t.nvs }) ∧
  (∀ s v, ∃ t, exec (.selfCheckGo v) s = .next t ∧ t = { s with regs := t.regs, out := t.out, icu := t.icu, sys := t.sys }) ∧
  (∀ s hi lo hs ls, ∃ t, exec (.selfCheckDone hi lo hs ls) s = .next t ∧ t = { s with
      regs := t.regs, free := t.free, out := t.out, tus := t.tus, icu := t.icu, evm := t.evm, sys := t.sys, psc := t.psc, crs := t.crs,
      grd := t.grd, rng := t.rng, bnd := t.bnd, nvs := t.nvs }) ∧
  (∀ s m, ∃ t, exec (.wheelStandstill m) s = .next t ∧ t = { s with grd := t.grd }) ∧
  (∀ s n, ∃ t, exec (.templateCommit n) s = .next t ∧ t = { s with regs := t.regs, out := t.out, icu := t.icu, sys := t.sys, ser := t.ser }) ∧
  (∀ s n, ∃ t, exec (.templateRead n) s = .next t ∧ t = { s with regs := t.regs, out := t.out, icu := t.icu, sys := t.sys, ser := t.ser }) ∧
  (∀ s x, ∃ t, exec (.serialEntryStart x) s = .next t ∧ t = { s with regs := t.regs, out := t.out, evm := t.evm, psc := t.psc, ser := t.ser }) ∧
  (∀ s x ws, ∃ t, exec (.serialEntryDone x ws) s = .next t ∧ t = { s with
      regs := t.regs, out := t.out, icu := t.icu, sys := t.sys, psc := t.psc, ser := t.ser, ept := t.ept, msh := t.msh, rcg := t.rcg,
      rng := t.rng, bnd := t.bnd }) ∧
  (∀ s x v, ∃ t, exec (.slaveWordReceived x v) s = .next t ∧ t = { s with
      regs := t.regs, out := t.out, icu := t.icu, sys := t.sys, ser := t.ser, msh := t.msh, rcg := t.rcg, rng := t.rng, bnd := t.bnd }) ∧
  (∀ s x n back v, ∃ t, exec (.slaveSelectNegated x n back v) s = .next t ∧ t = { s with
      regs := t.regs, out := t.out, icu := t.icu, sys := t.sys, ser := t.ser, msh := t.msh, rcg := t.rcg, rng := t.rng, bnd := t.bnd }) ∧
  (∀ s x v, ∃ t, exec (.serialCounterClr x v) s = .next t ∧ t = { s with regs := t.regs, out := t.out, icu := t.icu, sys := t.sys }) ∧
  (∀ s k b b2, ∃ t, exec (.memApRead k b b2) s = .next t ∧ t = { s with
      regs := t.regs, free := t.free, rdata := t.rdata, out := t.out, icu := t.icu, sys := t.sys, mem := t.mem, bnd := t.bnd, rol := t.rol }) ∧
  (∀ s k v, ∃ t, exec (.memApWrite k v) s = .next t ∧ t = { s with
      regs := t.regs, free := t.free, rdata := t.rdata, out := t.out, icu := t.icu, sys := t.sys, mem := t.mem, bnd := t.bnd, rol := t.rol }) ∧
  (∀ s v, ∃ t, exec (.memFlush v) s = .next t ∧ t = { s with
      regs := t.regs, free := t.free, rdata := t.rdata, out := t.out, icu := t.icu, sys := t.sys, mem := t.mem, bnd := t.bnd, rol := t.rol }) ∧
  (∀ s st b, ∃ t, exec (.statusPoll st b) s = .next t ∧ t = { s with
      regs := t.regs, free := t.free, rdata := t.rdata, out := t.out, icu := t.icu, mem := t.mem, bnd := t.bnd, rol := t.rol }) ∧
  (∀ s v rx, ∃ t, exec (.rawCommand v rx) s = .next t ∧ t = { s with
      regs := t.regs, free := t.free, rdata := t.rdata, out := t.out, icu := t.icu, sys := t.sys, mem := t.mem, bnd := t.bnd, rol := t.rol }) ∧
  (∀ s x w data lat, ∃ t, exec (.canFrameReceived x w data lat) s = .next t ∧ t = { s with
      regs := t.regs, free := t.free, out := t.out, icu := t.icu, evm := t.evm, sys := t.sys, cans := t.cans, ept := t.ept, msh := t.msh,
      rcg := t.rcg, rng := t.rng, bnd := t.bnd }) ∧
  (∀ s x error exempt lat, ∃ t, exec (.canTxDone x error exempt lat) s = .next t ∧ t = { s with
      regs := t.regs, out := t.out, cans := t.cans, rng := t.rng, bnd := t.bnd }) ∧
  (∀ s x y, ∃ t, exec (.canTxTimeout x y) s = .next t ∧ t = { s with regs := t.regs, out := t.out, cans := t.cans, rng := t.rng, bnd := t.bnd }) ∧
  (∀ s x, ∃ t, exec (.canBusOff x) s = .next t ∧ t = { s with
      regs := t.regs, out := t.out, icu := t.icu, sys := t.sys, cans := t.cans, rcg := t.rcg, rng := t.rng, bnd := t.bnd }) ∧
  (∀ s x, ∃ t, exec (.canRecovered x) s = .next t ∧ t = { s with regs := t.regs, cans := t.cans }) ∧
  (∀ s x v, ∃ t, exec (.canRecover x v) s = .next t ∧ t = { s with regs := t.regs, out := t.out, icu := t.icu, sys := t.sys }) ∧
  (∀ s x v, ∃ t, exec (.canFifoPop x v) s = .next t ∧ t = { s with regs := t.regs, out := t.out, icu := t.icu, sys := t.sys, cans := t.cans }) ∧
  (∀ s x, ∃ t, exec (.canWake x) s = .next t ∧ t = { s with regs := t.regs, out := t.out, icu := t.icu, evm := t.evm, sys := t.sys }) ∧
  (∀ s x v, ∃ t, exec (.canCounterClr x v) s = .next t ∧ t = { s with regs := t.regs, out := t.out, icu := t.icu, sys := t.sys }) ∧
  (∀ s b a sub, ∃ t, exec (.slotEnd b a sub) s = .next t ∧ t = { s with
      regs := t.regs, out := t.out, icu := t.icu, sys := t.sys, psc := t.psc, crs := t.crs, ept := t.ept, msh := t.msh, rcg := t.rcg,
      rng := t.rng, bnd := t.bnd }) ∧
  (∀ s b, ∃ t, exec (.grant b) s = .next t ∧ t = { s with
      regs := t.regs, out := t.out, icu := t.icu, sys := t.sys, psc := t.psc, crs := t.crs, ept := t.ept, msh := t.msh, rcg := t.rcg,
      rng := t.rng, bnd := t.bnd }) ∧
  (∀ s x eight, ∃ t, exec (.canBusError x eight) s = .next t ∧ t = { s with regs := t.regs, cans := t.cans }) ∧
  (∀ s, ∃ t, exec .guardLock s = .next t ∧ t = { s with regs := t.regs, out := t.out, icu := t.icu, sys := t.sys }) ∧
  (∀ s, ∃ t, exec .loopSet s = .next t ∧ t = { s with regs := t.regs, free := t.free, out := t.out, grd := t.grd, rng := t.rng, bnd := t.bnd }) ∧
  (∀ s, ∃ t, exec .pageBufferTimeout s = .next t ∧ t = { s with
      regs := t.regs, free := t.free, rdata := t.rdata, out := t.out, mem := t.mem, bnd := t.bnd, rol := t.rol }) ∧
  (∀ s, ∃ t, exec .progtoExpiry s = .next t ∧ t = { s with
      regs := t.regs, free := t.free, rdata := t.rdata, out := t.out, icu := t.icu, mem := t.mem, bnd := t.bnd, rol := t.rol }) ∧
  (∀ s, ∃ t, exec .canSend s = .next t ∧ t = { s with regs := t.regs, out := t.out, cans := t.cans, rng := t.rng, bnd := t.bnd }) ∧
  (∀ s, ∃ t, exec .nodeCmd s = .next t ∧ t = { s with regs := t.regs, out := t.out, crs := t.crs, rng := t.rng, bnd := t.bnd }) ∧
  (∀ s, ∃ t, exec .serXfer s = .next t ∧ t = { s with regs := t.regs, out := t.out, ser := t.ser, rng := t.rng, bnd := t.bnd }) ∧
  (∀ s, ∃ t, exec .vafeLoss s = .next t ∧ t = { s with
      regs := t.regs, free := t.free, out := t.out, tus := t.tus, icu := t.icu, evm := t.evm, sys := t.sys, psc := t.psc, crs := t.crs,
      grd := t.grd, msh := t.msh, rcg := t.rcg, rng := t.rng, bnd := t.bnd, nvs := t.nvs }) ∧
  (∀ s, ∃ t, exec .vafeReturn s = .next t ∧ t = { s with
      regs := t.regs, free := t.free, out := t.out, tus := t.tus, icu := t.icu, evm := t.evm, sys := t.sys, psc := t.psc, crs := t.crs,
      grd := t.grd, msh := t.msh, rcg := t.rcg, rng := t.rng, bnd := t.bnd, nvs := t.nvs })

/-- What the commands of endpoints, mash, recognizers and scheduler leave alone: every part of the state not named after `with`. -/
def Obligations.EngineFrames : Prop :=
  (∀ s fall, ∃ t, exec (.syncEdgeInput fall) s = .next t ∧ t = { s with
      regs := t.regs, free := t.free, out := t.out, srv := t.srv, tus := t.tus, icu := t.icu, evm := t.evm, msh := t.msh }) ∧
  (∀ s e, ∃ t, exec (.serialPlacement e) s = .next t ∧ t = { s with
      regs := t.regs, out := t.out, icu := t.icu, sys := t.sys, psc := t.psc, ser := t.ser, msh := t.msh, rcg := t.rcg, rng := t.rng,
      bnd := t.bnd }) ∧
  (∀ s x, ∃ t, exec (.serlateExpiry x) s = .next t ∧ t = { s with
      regs := t.regs, out := t.out, icu := t.icu, sys := t.sys, psc := t.psc, ser := t.ser, ept := t.ept, msh := t.msh, rcg := t.rcg,
      rng := t.rng, bnd := t.bnd }) ∧
  (∀ s e, ∃ t, exec (.wheelInstant e) s = .next t ∧ t = { s with
      regs := t.regs, out := t.out, icu := t.icu, sys := t.sys, psc := t.psc, ept := t.ept, msh := t.msh, rcg := t.rcg, rng := t.rng,
      bnd := t.bnd }) ∧
  (∀ s b, ∃ t, exec (.courseDeadline b) s = .next t ∧ t = { s with
      regs := t.regs, out := t.out, icu := t.icu, sys := t.sys, psc := t.psc, ept := t.ept, msh := t.msh, rcg := t.rcg, rng := t.rng,
      bnd := t.bnd }) ∧
  (∀ s tag, ∃ t, exec (.remoteCommandTimeout tag) s = .next t ∧ t = { s with
      regs := t.regs, out := t.out, ept := t.ept, rng := t.rng, bnd := t.bnd }) ∧
  (∀ s v, ∃ t, exec (.pscCounterClr v) s = .next t ∧ t = { s with regs := t.regs, out := t.out, icu := t.icu, sys := t.sys }) ∧
  (∀ s e, ∃ t, exec (.recordCommit e) s = .next t ∧ t = { s with
      regs := t.regs, out := t.out, icu := t.icu, sys := t.sys, crs := t.crs, ept := t.ept, ten := t.ten }) ∧
  (∀ s e, ∃ t, exec (.recordRead e) s = .next t ∧ t = { s with
      regs := t.regs, out := t.out, icu := t.icu, sys := t.sys, crs := t.crs, ept := t.ept, ten := t.ten }) ∧
  (∀ s e, ∃ t, exec (.recordRelease e) s = .next t ∧ t = { s with
      regs := t.regs, out := t.out, icu := t.icu, sys := t.sys, crs := t.crs, ept := t.ept, ten := t.ten }) ∧
  (∀ s src, ∃ t, exec (.tableLoadGo src) s = .next t ∧ t = { s with regs := t.regs, out := t.out, icu := t.icu, sys := t.sys, ept := t.ept }) ∧
  (∀ s ok b, ∃ t, exec (.tableLoadDone ok b) s = .next t ∧ t = { s with
      regs := t.regs, out := t.out, icu := t.icu, ept := t.ept, rng := t.rng, bnd := t.bnd }) ∧
  (∀ s ok, ∃ t, exec (.tableStoreDone ok) s = .next t ∧ t = { s with
      regs := t.regs, out := t.out, icu := t.icu, ept := t.ept, rng := t.rng, bnd := t.bnd }) ∧
  (∀ s now, ∃ t, exec (.switchArm now) s = .next t ∧ t = { s with
      regs := t.regs, out := t.out, icu := t.icu, evm := t.evm, sys := t.sys, ept := t.ept }) ∧
  (∀ s v, ∃ t, exec (.eptCounterClr v) s = .next t ∧ t = { s with regs := t.regs, out := t.out, icu := t.icu, sys := t.sys }) ∧
  (∀ s c, ∃ t, exec (.channelCommit c) s = .next t ∧ t = { s with
      regs := t.regs, out := t.out, icu := t.icu, sys := t.sys, msh := t.msh, rcg := t.rcg, rng := t.rng, bnd := t.bnd }) ∧
  (∀ s c, ∃ t, exec (.channelRead c) s = .next t ∧ t = { s with
      regs := t.regs, out := t.out, icu := t.icu, sys := t.sys, msh := t.msh, rcg := t.rcg, rng := t.rng, bnd := t.bnd }) ∧
  (∀ s c, ∃ t, exec (.channelClrsts c) s = .next t ∧ t = { s with
      regs := t.regs, out := t.out, icu := t.icu, sys := t.sys, msh := t.msh, rcg := t.rcg, rng := t.rng, bnd := t.bnd }) ∧
  (∀ s n, ∃ t, exec (.setCommit n) s = .next t ∧ t = { s with regs := t.regs, out := t.out, icu := t.icu, sys := t.sys, msh := t.msh }) ∧
  (∀ s n, ∃ t, exec (.setRead n) s = .next t ∧ t = { s with regs := t.regs, out := t.out, icu := t.icu, sys := t.sys, msh := t.msh }) ∧
  (∀ s n, ∃ t, exec (.setRelease n) s = .next t ∧ t = { s with regs := t.regs, out := t.out, icu := t.icu, sys := t.sys, msh := t.msh }) ∧
  (∀ s x l bit, ∃ t, exec (.mashInput x l bit) s = .next t ∧ t = { s with
      regs := t.regs, out := t.out, icu := t.icu, evm := t.evm, sys := t.sys, ept := t.ept, msh := t.msh, rcg := t.rcg, rng := t.rng,
      bnd := t.bnd }) ∧
  (∀ s c k, ∃ t, exec (.chctlFreeze c k) s = .next t ∧ t = { s with regs := t.regs, out := t.out, icu := t.icu, sys := t.sys, msh := t.msh }) ∧
  (∀ s c k, ∃ t, exec (.chctlThaw c k) s = .next t ∧ t = { s with regs := t.regs, out := t.out, icu := t.icu, sys := t.sys, msh := t.msh }) ∧
  (∀ s c k xf n, ∃ t, exec (.chctlSwitch c k xf n) s = .next t ∧ t = { s with
      regs := t.regs, out := t.out, icu := t.icu, sys := t.sys, msh := t.msh }) ∧
  (∀ s v, ∃ t, exec (.mashCounterClr v) s = .next t ∧ t = { s with regs := t.regs, out := t.out, icu := t.icu, sys := t.sys }) ∧
  (∀ s n, ∃ t, exec (.machineCommit n) s = .next t ∧ t = { s with regs := t.regs, out := t.out, icu := t.icu, sys := t.sys, rcg := t.rcg }) ∧
  (∀ s n, ∃ t, exec (.machineRead n) s = .next t ∧ t = { s with regs := t.regs, out := t.out, icu := t.icu, sys := t.sys, rcg := t.rcg }) ∧
  (∀ s n, ∃ t, exec (.machineRelease n) s = .next t ∧ t = { s with regs := t.regs, out := t.out, icu := t.icu, sys := t.sys, rcg := t.rcg }) ∧
  (∀ s n, ∃ t, exec (.rcgTimeTrigger n) s = .next t ∧ t = { s with regs := t.regs, rcg := t.rcg }) ∧
  (∀ s v, ∃ t, exec (.rcgCounterClr v) s = .next t ∧ t = { s with regs := t.regs, out := t.out, icu := t.icu, sys := t.sys }) ∧
  (∀ s, ∃ t, exec .schedCreate s = .next t ∧ t = { s with regs := t.regs, out := t.out, psc := t.psc, rng := t.rng, bnd := t.bnd }) ∧
  (∀ s, ∃ t, exec .schedDestroy s = .next t ∧ t = { s with
      regs := t.regs, out := t.out, icu := t.icu, sys := t.sys, psc := t.psc, msh := t.msh, rcg := t.rcg, rng := t.rng, bnd := t.bnd }) ∧
  (∀ s, ∃ t, exec .schedQuery s = .next t ∧ t = { s with
      regs := t.regs, out := t.out, icu := t.icu, sys := t.sys, psc := t.psc, msh := t.msh, rcg := t.rcg, rng := t.rng, bnd := t.bnd }) ∧
  (∀ s, ∃ t, exec .schedTrigger s = .next t ∧ t = { s with
      regs := t.regs, out := t.out, icu := t.icu, sys := t.sys, psc := t.psc, msh := t.msh, rcg := t.rcg, rng := t.rng, bnd := t.bnd }) ∧
  (∀ s, ∃ t, exec .decode s = .next t ∧ t = { s with
      regs := t.regs, out := t.out, icu := t.icu, sys := t.sys, ser := t.ser, ept := t.ept, msh := t.msh, rcg := t.rcg, rng := t.rng,
      bnd := t.bnd }) ∧
  (∀ s, ∃ t, exec .tableLoad s = .next t ∧ t = { s with regs := t.regs, out := t.out, ept := t.ept, rng := t.rng, bnd := t.bnd }) ∧
  (∀ s, ∃ t, exec .tableStore s = .next t ∧ t = { s with regs := t.regs, out := t.out, icu := t.icu, sys := t.sys, ept := t.ept }) ∧
  (∀ s, ∃ t, exec .tableDiscard s = .next t ∧ t = { s with regs := t.regs, out := t.out, icu := t.icu, sys := t.sys, ept := t.ept }) ∧
  (∀ s, ∃ t, exec .switchCancel s = .next t ∧ t = { s with regs := t.regs, out := t.out, icu := t.icu, evm := t.evm, sys := t.sys, ept := t.ept }) ∧
  (∀ s, ∃ t, exec .switchEffect s = .next t ∧ t = { s with regs := t.regs, evm := t.evm, ept := t.ept }) ∧
  (∀ s, ∃ t, exec .bankRetire s = .next t ∧ t = { s with
      regs := t.regs, out := t.out, icu := t.icu, sys := t.sys, ept := t.ept, msh := t.msh, rcg := t.rcg, rng := t.rng, bnd := t.bnd }) ∧
  (∀ s, ∃ t, exec .mashFreeze s = .next t ∧ t = { s with regs := t.regs, out := t.out, msh := t.msh, rng := t.rng, bnd := t.bnd }) ∧
  (∀ s, ∃ t, exec .mashThaw s = .next t ∧ t = { s with regs := t.regs, out := t.out, msh := t.msh, rng := t.rng, bnd := t.bnd }) ∧
  (∀ s, ∃ t, exec .mashSwitch s = .next t ∧ t = { s with regs := t.regs, out := t.out, msh := t.msh, rng := t.rng, bnd := t.bnd }) ∧
  (∀ s, ∃ t, exec .syncNow s = .next t ∧ t = { s with regs := t.regs, out := t.out, icu := t.icu, evm := t.evm, sys := t.sys, msh := t.msh }) ∧
  (∀ s, ∃ t, exec .syncArm s = .next t ∧ t = { s with regs := t.regs, out := t.out, icu := t.icu, evm := t.evm, sys := t.sys, msh := t.msh }) ∧
  (∀ s, ∃ t, exec .syncDisarm s = .next t ∧ t = { s with regs := t.regs, out := t.out, icu := t.icu, evm := t.evm, sys := t.sys, msh := t.msh }) ∧
  (∀ s, ∃ t, exec .armedSync s = .next t ∧ t = { s with regs := t.regs, evm := t.evm, msh := t.msh }) ∧
  (∀ s, ∃ t, exec .periodicSync s = .next t ∧ t = { s with regs := t.regs, evm := t.evm, msh := t.msh }) ∧
  (∀ s, ∃ t, exec .rcgCreate s = .next t ∧ t = { s with
      regs := t.regs, out := t.out, icu := t.icu, sys := t.sys, ept := t.ept, msh := t.msh, rcg := t.rcg, ten := t.ten, rng := t.rng,
      bnd := t.bnd }) ∧
  (∀ s, ∃ t, exec .rcgDestroy s = .next t ∧ t = { s with
      regs := t.regs, out := t.out, ept := t.ept, rcg := t.rcg, ten := t.ten, rng := t.rng, bnd := t.bnd }) ∧
  (∀ s, ∃ t, exec .rcgReset s = .next t ∧ t = { s with
      regs := t.regs, out := t.out, icu := t.icu, sys := t.sys, ept := t.ept, msh := t.msh, rcg := t.rcg, rng := t.rng, bnd := t.bnd }) ∧
  (∀ s, ∃ t, exec .rcgSetpar s = .next t ∧ t = { s with regs := t.regs, out := t.out, rcg := t.rcg, rng := t.rng, bnd := t.bnd }) ∧
  (∀ s, ∃ t, exec .rcgQuery s = .next t ∧ t = { s with regs := t.regs, out := t.out, rcg := t.rcg, rng := t.rng, bnd := t.bnd }) ∧
  (∀ s, ∃ t, exec .recognizerStep s = .next t ∧ t = { s with
      regs := t.regs, out := t.out, icu := t.icu, evm := t.evm, sys := t.sys, psc := t.psc, ept := t.ept, msh := t.msh, rcg := t.rcg,
      rng := t.rng, bnd := t.bnd })

/-- What the commands of tenants, rings, messages, links and roles leave alone: every part of the state not named after `with`. -/
def Obligations.TenantFrames : Prop :=
  (∀ s idx, ∃ t, exec (.leaseExpiry idx) s = .next t ∧ t = { s with
      regs := t.regs, out := t.out, icu := t.icu, sys := t.sys, psc := t.psc, ept := t.ept, msh := t.msh, rcg := t.rcg, ten := t.ten,
      rng := t.rng, bnd := t.bnd }) ∧
  (∀ s idx, ∃ t, exec (.leaseEndAck idx) s = .next t ∧ t = { s with regs := t.regs, out := t.out, ten := t.ten, rng := t.rng, bnd := t.bnd }) ∧
  (∀ s a0 a1, ∃ t, exec (.windowCommit a0 a1) s = .next t ∧ t = { s with regs := t.regs, out := t.out, icu := t.icu, sys := t.sys, ten := t.ten }) ∧
  (∀ s a0 a1, ∃ t, exec (.windowRead a0 a1) s = .next t ∧ t = { s with regs := t.regs, out := t.out, icu := t.icu, sys := t.sys, ten := t.ten }) ∧
  (∀ s a0 a1, ∃ t, exec (.windowClr a0 a1) s = .next t ∧ t = { s with regs := t.regs, out := t.out, icu := t.icu, sys := t.sys, ten := t.ten }) ∧
  (∀ s v, ∃ t, exec (.tenCounterClr v) s = .next t ∧ t = { s with regs := t.regs, out := t.out, icu := t.icu, sys := t.sys }) ∧
  (∀ s a0 a1, ∃ t, exec (.cmdtail a0 a1) s = .next t ∧ t = { s with
      regs := t.regs, out := t.out, icu := t.icu, evm := t.evm, sys := t.sys, psc := t.psc, crs := t.crs, ept := t.ept, msh := t.msh,
      rcg := t.rcg, rng := t.rng, bnd := t.bnd }) ∧
  (∀ s a0 a1, ∃ t, exec (.cplhead a0 a1) s = .next t ∧ t = { s with
      regs := t.regs, out := t.out, icu := t.icu, evm := t.evm, sys := t.sys, psc := t.psc, crs := t.crs, ept := t.ept, msh := t.msh,
      rcg := t.rcg, rng := t.rng, bnd := t.bnd }) ∧
  (∀ s a0 a1, ∃ t, exec (.evthead a0 a1) s = .next t ∧ t = { s with
      regs := t.regs, out := t.out, icu := t.icu, evm := t.evm, sys := t.sys, psc := t.psc, crs := t.crs, ept := t.ept, msh := t.msh,
      rcg := t.rcg, rng := t.rng, bnd := t.bnd }) ∧
  (∀ s a0 a1, ∃ t, exec (.resumecmd a0 a1) s = .next t ∧ t = { s with
      regs := t.regs, out := t.out, icu := t.icu, evm := t.evm, sys := t.sys, psc := t.psc, crs := t.crs, ept := t.ept, msh := t.msh,
      rcg := t.rcg, rng := t.rng, bnd := t.bnd }) ∧
  (∀ s a0 a1, ∃ t, exec (.resumecpl a0 a1) s = .next t ∧ t = { s with
      regs := t.regs, out := t.out, icu := t.icu, evm := t.evm, sys := t.sys, psc := t.psc, crs := t.crs, ept := t.ept, msh := t.msh,
      rcg := t.rcg, rng := t.rng, bnd := t.bnd }) ∧
  (∀ s a0 a1, ∃ t, exec (.resumeevt a0 a1) s = .next t ∧ t = { s with
      regs := t.regs, out := t.out, icu := t.icu, evm := t.evm, sys := t.sys, psc := t.psc, crs := t.crs, ept := t.ept, msh := t.msh,
      rcg := t.rcg, rng := t.rng, bnd := t.bnd }) ∧
  (∀ s a0 a1, ∃ t, exec (.clrdberr a0 a1) s = .next t ∧ t = { s with
      regs := t.regs, out := t.out, icu := t.icu, evm := t.evm, sys := t.sys, psc := t.psc, crs := t.crs, ept := t.ept, msh := t.msh,
      rcg := t.rcg, rng := t.rng, bnd := t.bnd }) ∧
  (∀ s a0 a1 a2, ∃ t, exec (.post a0 a1 a2) s = .next t ∧ t = { s with
      regs := t.regs, out := t.out, icu := t.icu, evm := t.evm, sys := t.sys, psc := t.psc, crs := t.crs, ept := t.ept, msh := t.msh,
      rcg := t.rcg, rng := t.rng, bnd := t.bnd }) ∧
  (∀ s a0 a1 a2, ∃ t, exec (.ack a0 a1 a2) s = .next t ∧ t = { s with
      regs := t.regs, out := t.out, icu := t.icu, evm := t.evm, sys := t.sys, psc := t.psc, crs := t.crs, ept := t.ept, msh := t.msh,
      rcg := t.rcg, rng := t.rng, bnd := t.bnd }) ∧
  (∀ s a0, ∃ t, exec (.commandFetch a0) s = .next t ∧ t = { s with regs := t.regs, free := t.free, out := t.out, rng := t.rng, bnd := t.bnd }) ∧
  (∀ s a0, ∃ t, exec (.completionWrite a0) s = .next t ∧ t = { s with
      regs := t.regs, free := t.free, out := t.out, icu := t.icu, rng := t.rng, bnd := t.bnd }) ∧
  (∀ s a0 a1 a2, ∃ t, exec (.dmaWriteConfirmed a0 a1 a2) s = .next t ∧ t = { s with
      regs := t.regs, out := t.out, icu := t.icu, sys := t.sys, rng := t.rng, bnd := t.bnd }) ∧
  (∀ s a0 a1 a2 a3 a4, ∃ t, exec (.dmaReadDone a0 a1 a2 a3 a4) s = .next t ∧ t = { s with
      regs := t.regs, free := t.free, out := t.out, icu := t.icu, ept := t.ept, rng := t.rng, bnd := t.bnd }) ∧
  (∀ s uid ring, ∃ t, exec (.caskAgeExpiry uid ring) s = .next t ∧ t = { s with
      regs := t.regs, out := t.out, icu := t.icu, sys := t.sys, rng := t.rng, bnd := t.bnd }) ∧
  (∀ s a0 a1, ∃ t, exec (.caskPlacement a0 a1) s = .next t ∧ t = { s with out := t.out, rng := t.rng }) ∧
  (∀ s a0, ∃ t, exec (.eventRecordWrite a0) s = .next t ∧ t = { s with regs := t.regs, out := t.out, icu := t.icu, rng := t.rng, nvs := t.nvs }) ∧
  (∀ s a0 a1, ∃ t, exec (.ringSetup a0 a1) s = .next t ∧ t = { s with regs := t.regs, out := t.out, icu := t.icu, sys := t.sys, rng := t.rng }) ∧
  (∀ s a0 a1, ∃ t, exec (.ringSetupRead a0 a1) s = .next t ∧ t = { s with
      regs := t.regs, out := t.out, icu := t.icu, sys := t.sys, rng := t.rng }) ∧
  (∀ s a0 a1, ∃ t, exec (.ringSetupStop a0 a1) s = .next t ∧ t = { s with
      regs := t.regs, out := t.out, icu := t.icu, sys := t.sys, rng := t.rng }) ∧
  (∀ s v, ∃ t, exec (.rngCounterClr v) s = .next t ∧ t = { s with regs := t.regs, out := t.out, icu := t.icu, sys := t.sys }) ∧
  (∀ s p v, ∃ t, exec (.portEnable p v) s = .next t ∧ t = { s with
      regs := t.regs, out := t.out, icu := t.icu, sys := t.sys, rng := t.rng, bnd := t.bnd }) ∧
  (∀ s p mask, ∃ t, exec (.trainingStepDone p mask) s = .next t ∧ t = { s with regs := t.regs, out := t.out, rng := t.rng, bnd := t.bnd }) ∧
  (∀ s p, ∃ t, exec (.trainingTimeout p) s = .next t ∧ t = { s with regs := t.regs, bnd := t.bnd }) ∧
  (∀ s p lane, ∃ t, exec (.laneFault p lane) s = .next t ∧ t = { s with regs := t.regs, out := t.out, srv := t.srv, bnd := t.bnd }) ∧
  (∀ s p lane, ∃ t, exec (.laneRetrained p lane) s = .next t ∧ t = { s with regs := t.regs, srv := t.srv, bnd := t.bnd }) ∧
  (∀ s p, ∃ t, exec (.linkDown p) s = .next t ∧ t = { s with
      regs := t.regs, out := t.out, srv := t.srv, icu := t.icu, bnd := t.bnd, rol := t.rol }) ∧
  (∀ s p bs first nsym, ∃ t, exec (.flitReceived p bs first nsym) s = .next t ∧ t = { s with regs := t.regs, out := t.out, bnd := t.bnd }) ∧
  (∀ s p pl, ∃ t, exec (.status p pl) s = .next t ∧ t = { s with regs := t.regs, out := t.out, bnd := t.bnd }) ∧
  (∀ s p pl, ∃ t, exec (.nak p pl) s = .next t ∧ t = { s with
      regs := t.regs, out := t.out, srv := t.srv, icu := t.icu, bnd := t.bnd, rol := t.rol }) ∧
  (∀ s p, ∃ t, exec (.replayTimeout p) s = .next t ∧ t = { s with
      regs := t.regs, out := t.out, srv := t.srv, icu := t.icu, bnd := t.bnd, rol := t.rol }) ∧
  (∀ s p, ∃ t, exec (.statusTimer p) s = .next t ∧ t = { s with regs := t.regs, out := t.out, bnd := t.bnd }) ∧
  (∀ s p pl, ∃ t, exec (.hello p pl) s = .next t ∧ t = { s with regs := t.regs, out := t.out, rng := t.rng, bnd := t.bnd, rol := t.rol }) ∧
  (∀ s p, ∃ t, exec (.helloTimer p) s = .next t ∧ t = { s with regs := t.regs, out := t.out, bnd := t.bnd }) ∧
  (∀ s p pl, ∃ t, exec (.resume p pl) s = .next t ∧ t = { s with regs := t.regs, out := t.out, rng := t.rng, bnd := t.bnd, rol := t.rol }) ∧
  (∀ s p pl, ∃ t, exec (.close p pl) s = .next t ∧ t = { s with
      regs := t.regs, out := t.out, srv := t.srv, icu := t.icu, rng := t.rng, bnd := t.bnd, rol := t.rol }) ∧
  (∀ s p, ∃ t, exec (.splitHoldExpiry p) s = .next t ∧ t = { s with regs := t.regs, out := t.out, bnd := t.bnd, rol := t.rol }) ∧
  (∀ s p, ∃ t, exec (.retryHoldExpiry p) s = .next t ∧ t = { s with regs := t.regs, out := t.out, rng := t.rng, bnd := t.bnd, rol := t.rol }) ∧
  (∀ s tag, ∃ t, exec (.configTimeout tag) s = .next t ∧ t = { s with
      regs := t.regs, out := t.out, icu := t.icu, ten := t.ten, rng := t.rng, bnd := t.bnd, rol := t.rol }) ∧
  (∀ s wr, ∃ t, exec (.remoteSetupGo wr) s = .next t ∧ t = { s with
      regs := t.regs, out := t.out, icu := t.icu, sys := t.sys, bnd := t.bnd, rol := t.rol }) ∧
  (∀ s p, ∃ t, exec (.directoryEntryLoad p) s = .next t ∧ t = { s with regs := t.regs, out := t.out, icu := t.icu, sys := t.sys }) ∧
  (∀ s, ∃ t, exec .tenCreate s = .next t ∧ t = { s with
      regs := t.regs, out := t.out, icu := t.icu, sys := t.sys, psc := t.psc, ept := t.ept, msh := t.msh, rcg := t.rcg, ten := t.ten,
      rng := t.rng, bnd := t.bnd, rol := t.rol, nvs := t.nvs }) ∧
  (∀ s, ∃ t, exec .tenChange s = .next t ∧ t = { s with
      regs := t.regs, out := t.out, icu := t.icu, sys := t.sys, psc := t.psc, ept := t.ept, msh := t.msh, rcg := t.rcg, ten := t.ten,
      rng := t.rng, bnd := t.bnd, rol := t.rol, nvs := t.nvs }) ∧
  (∀ s, ∃ t, exec .tenDestroy s = .next t ∧ t = { s with
      regs := t.regs, out := t.out, icu := t.icu, sys := t.sys, psc := t.psc, ept := t.ept, msh := t.msh, rcg := t.rcg, ten := t.ten,
      rng := t.rng, bnd := t.bnd, rol := t.rol, nvs := t.nvs }) ∧
  (∀ s, ∃ t, exec .tenReset s = .next t ∧ t = { s with
      regs := t.regs, out := t.out, icu := t.icu, sys := t.sys, psc := t.psc, ept := t.ept, msh := t.msh, rcg := t.rcg, ten := t.ten,
      rng := t.rng, bnd := t.bnd, rol := t.rol, nvs := t.nvs }) ∧
  (∀ s, ∃ t, exec .bind s = .next t ∧ t = { s with
      regs := t.regs, out := t.out, icu := t.icu, sys := t.sys, psc := t.psc, ept := t.ept, msh := t.msh, rcg := t.rcg, ten := t.ten,
      rng := t.rng, bnd := t.bnd, rol := t.rol, nvs := t.nvs }) ∧
  (∀ s, ∃ t, exec .leaseGrant s = .next t ∧ t = { s with regs := t.regs, out := t.out, ten := t.ten, rng := t.rng, bnd := t.bnd }) ∧
  (∀ s, ∃ t, exec .leaseRevoke s = .next t ∧ t = { s with
      regs := t.regs, out := t.out, icu := t.icu, sys := t.sys, psc := t.psc, ept := t.ept, msh := t.msh, rcg := t.rcg, ten := t.ten,
      rng := t.rng, bnd := t.bnd }) ∧
  (∀ s, ∃ t, exec .setKey s = .next t ∧ t = { s with regs := t.regs, out := t.out, rng := t.rng, bnd := t.bnd, nvs := t.nvs }) ∧
  (∀ s, ∃ t, exec .nop s = .next t ∧ t = { s with regs := t.regs, out := t.out, rng := t.rng, bnd := t.bnd }) ∧
  (∀ s, ∃ t, exec .time s = .next t ∧ t = { s with regs := t.regs, out := t.out, rng := t.rng, bnd := t.bnd }) ∧
  (∀ s, ∃ t, exec .streamOpen s = .next t ∧ t = { s with
      regs := t.regs, out := t.out, icu := t.icu, sys := t.sys, psc := t.psc, msh := t.msh, rcg := t.rcg, rng := t.rng, bnd := t.bnd }) ∧
  (∀ s, ∃ t, exec .streamClose s = .next t ∧ t = { s with
      regs := t.regs, out := t.out, icu := t.icu, sys := t.sys, psc := t.psc, msh := t.msh, rcg := t.rcg, rng := t.rng, bnd := t.bnd }) ∧
  (∀ s, ∃ t, exec .mark s = .next t ∧ t = { s with regs := t.regs, out := t.out, icu := t.icu, sys := t.sys, rng := t.rng, bnd := t.bnd }) ∧
  (∀ s, ∃ t, exec .ringStart s = .next t ∧ t = { s with regs := t.regs, out := t.out, rng := t.rng, bnd := t.bnd }) ∧
  (∀ s, ∃ t, exec .ringStop s = .next t ∧ t = { s with regs := t.regs, out := t.out, icu := t.icu, sys := t.sys, rng := t.rng, bnd := t.bnd }) ∧
  (∀ s, ∃ t, exec .ringResume s = .next t ∧ t = { s with regs := t.regs, out := t.out, icu := t.icu, rng := t.rng, bnd := t.bnd }) ∧
  (∀ s, ∃ t, exec .ringFlush s = .next t ∧ t = { s with regs := t.regs, out := t.out, icu := t.icu, sys := t.sys, rng := t.rng, bnd := t.bnd }) ∧
  (∀ s, ∃ t, exec .ringQuery s = .next t ∧ t = { s with regs := t.regs, out := t.out, rng := t.rng, bnd := t.bnd }) ∧
  (∀ s, ∃ t, exec .epQuery s = .next t ∧ t = { s with regs := t.regs, out := t.out, rng := t.rng, bnd := t.bnd }) ∧
  (∀ s, ∃ t, exec .syncAt s = .next t ∧ t = { s with regs := t.regs, out := t.out, msh := t.msh, rng := t.rng, bnd := t.bnd }) ∧
  (∀ s, ∃ t, exec .cmd s = .next t ∧ t = { s with regs := t.regs, out := t.out, rng := t.rng, bnd := t.bnd }) ∧
  (∀ s, ∃ t, exec .cmdData s = .next t ∧ t = { s with regs := t.regs, rng := t.rng, bnd := t.bnd }) ∧
  (∀ s, ∃ t, exec .cpl s = .next t ∧ t = { s with regs := t.regs, free := t.free, out := t.out, ept := t.ept, rng := t.rng, bnd := t.bnd }) ∧
  (∀ s, ∃ t, exec .reject s = .next t ∧ t = { s with
      regs := t.regs, free := t.free, out := t.out, icu := t.icu, ept := t.ept, ten := t.ten, rng := t.rng, bnd := t.bnd, rol := t.rol }) ∧
  (∀ s, ∃ t, exec .staleResend s = .next t ∧ t = { s with
      regs := t.regs, out := t.out, icu := t.icu, ten := t.ten, rng := t.rng, bnd := t.bnd, rol := t.rol }) ∧
  (∀ s, ∃ t, exec .caskData s = .next t ∧ t = { s with regs := t.regs, out := t.out, icu := t.icu, sys := t.sys, rng := t.rng, bnd := t.bnd }) ∧
  (∀ s, ∃ t, exec .caskClose s = .next t ∧ t = { s with regs := t.regs, out := t.out, icu := t.icu, sys := t.sys, rng := t.rng, bnd := t.bnd }) ∧
  (∀ s, ∃ t, exec .caskack s = .next t ∧ t = { s with
      regs := t.regs, out := t.out, icu := t.icu, sys := t.sys, ten := t.ten, rng := t.rng, bnd := t.bnd }) ∧
  (∀ s, ∃ t, exec .event s = .next t ∧ t = { s with regs := t.regs, rng := t.rng, bnd := t.bnd }) ∧
  (∀ s, ∃ t, exec .syncAtMessage s = .next t ∧ t = { s with regs := t.regs, msh := t.msh, bnd := t.bnd }) ∧
  (∀ s, ∃ t, exec .groupTrigger s = .next t ∧ t = { s with
      regs := t.regs, out := t.out, icu := t.icu, sys := t.sys, psc := t.psc, msh := t.msh, rcg := t.rcg, rng := t.rng, bnd := t.bnd }) ∧
  (∀ s, ∃ t, exec .reelect s = .next t ∧ t = { s with regs := t.regs, out := t.out, icu := t.icu, sys := t.sys, bnd := t.bnd, rol := t.rol }) ∧
  (∀ s, ∃ t, exec .hostLinkUp s = .next t ∧ t = { s with regs := t.regs, out := t.out, icu := t.icu, sys := t.sys, bnd := t.bnd, rol := t.rol }) ∧
  (∀ s, ∃ t, exec .offer s = .next t ∧ t = { s with regs := t.regs, out := t.out, bnd := t.bnd, rol := t.rol }) ∧
  (∀ s, ∃ t, exec .attach s = .next t ∧ t = { s with regs := t.regs, out := t.out, bnd := t.bnd, rol := t.rol }) ∧
  (∀ s, ∃ t, exec .detach s = .next t ∧ t = { s with regs := t.regs, bnd := t.bnd, rol := t.rol }) ∧
  (∀ s, ∃ t, exec .report s = .next t ∧ t = { s with regs := t.regs, bnd := t.bnd, rol := t.rol }) ∧
  (∀ s, ∃ t, exec .settleExpiry s = .next t ∧ t = { s with
      regs := t.regs, free := t.free, out := t.out, time := t.time, srv := t.srv, icu := t.icu, evm := t.evm, sys := t.sys, psc := t.psc,
      crs := t.crs, ept := t.ept, msh := t.msh, rcg := t.rcg, ten := t.ten, rng := t.rng, bnd := t.bnd, rol := t.rol }) ∧
  (∀ s, ∃ t, exec .directory s = .next t ∧ t = { s with
      regs := t.regs, out := t.out, srv := t.srv, icu := t.icu, sys := t.sys, psc := t.psc, ept := t.ept, msh := t.msh, rcg := t.rcg,
      ten := t.ten, rng := t.rng, bnd := t.bnd, rol := t.rol }) ∧
  (∀ s, ∃ t, exec .dirack s = .next t ∧ t = { s with regs := t.regs, out := t.out, bnd := t.bnd, rol := t.rol }) ∧
  (∀ s, ∃ t, exec .stateTransferStart s = .next t ∧ t = { s with regs := t.regs, out := t.out, bnd := t.bnd, rol := t.rol }) ∧
  (∀ s, ∃ t, exec .prepare s = .next t ∧ t = { s with regs := t.regs, out := t.out, bnd := t.bnd, rol := t.rol }) ∧
  (∀ s, ∃ t, exec .prepared s = .next t ∧ t = { s with
      regs := t.regs, out := t.out, icu := t.icu, sys := t.sys, psc := t.psc, ept := t.ept, msh := t.msh, rcg := t.rcg, ten := t.ten,
      rng := t.rng, bnd := t.bnd, rol := t.rol, nvs := t.nvs }) ∧
  (∀ s, ∃ t, exec .configCommit s = .next t ∧ t = { s with
      regs := t.regs, out := t.out, icu := t.icu, sys := t.sys, psc := t.psc, ept := t.ept, msh := t.msh, rcg := t.rcg, ten := t.ten,
      rng := t.rng, bnd := t.bnd, rol := t.rol, nvs := t.nvs }) ∧
  (∀ s, ∃ t, exec .withdraw s = .next t ∧ t = { s with regs := t.regs, out := t.out, bnd := t.bnd, rol := t.rol }) ∧
  (∀ s, ∃ t, exec .regresult s = .next t ∧ t = { s with regs := t.regs, out := t.out, icu := t.icu, bnd := t.bnd, rol := t.rol }) ∧
  (∀ s, ∃ t, exec .state s = .next t ∧ t = { s with regs := t.regs, out := t.out, bnd := t.bnd, rol := t.rol }) ∧
  (∀ s, ∃ t, exec .genset s = .next t ∧ t = { s with
      regs := t.regs, out := t.out, icu := t.icu, sys := t.sys, psc := t.psc, ept := t.ept, msh := t.msh, rcg := t.rcg, ten := t.ten,
      rng := t.rng, bnd := t.bnd, rol := t.rol, nvs := t.nvs }) ∧
  (∀ s, ∃ t, exec .genack s = .next t ∧ t = { s with regs := t.regs, bnd := t.bnd, rol := t.rol }) ∧
  (∀ s, ∃ t, exec .configAck s = .next t ∧ t = { s with regs := t.regs, out := t.out, ten := t.ten, rng := t.rng, bnd := t.bnd, rol := t.rol }) ∧
  (∀ s, ∃ t, exec .rolCounterClr s = .next t ∧ t = { s with
      regs := t.regs, out := t.out, icu := t.icu, sys := t.sys, bnd := t.bnd, rol := t.rol }) ∧
  (∀ s, ∃ t, exec .caskValidTimeout s = .next t ∧ t = { s with
      regs := t.regs, out := t.out, icu := t.icu, sys := t.sys, ten := t.ten, rng := t.rng, bnd := t.bnd })

/-- What the commands of clocks, resets, power, store, boot and the register map leave alone: every part of the state not named after `with`. -/
def Obligations.SystemFrames : Prop :=
  (∀ s bar2 ofs n v w, ∃ t, exec (.registerWrite bar2 ofs n v w) s = .next t ∧ t = { s with
      regs := t.regs, free := t.free, rdata := t.rdata, out := t.out, time := t.time, srv := t.srv, tus := t.tus, icu := t.icu, evm := t.evm,
      sys := t.sys, psc := t.psc, crs := t.crs, grd := t.grd, ser := t.ser, cans := t.cans, mem := t.mem, ept := t.ept, msh := t.msh,
      rcg := t.rcg, ten := t.ten, rng := t.rng, bnd := t.bnd, rol := t.rol, nvs := t.nvs, boot := t.boot }) ∧
  (∀ s ofs v, ∃ t, exec (.errstsClr ofs v) s = .next t ∧ t = { s with regs := t.regs, out := t.out, icu := t.icu, sys := t.sys }) ∧
  (∀ s b, ∃ t, exec (.commitPoint b) s = .next t ∧ t = { s with
      regs := t.regs, free := t.free, rdata := t.rdata, out := t.out, icu := t.icu, evm := t.evm, sys := t.sys, psc := t.psc, crs := t.crs,
      ser := t.ser, cans := t.cans, mem := t.mem, ept := t.ept, msh := t.msh, rcg := t.rcg, rng := t.rng, bnd := t.bnd, rol := t.rol }) ∧
  (∀ s kind, ∃ t, exec (.hostLinkReset kind) s = .next t ∧ t = { s with
      regs := t.regs, out := t.out, icu := t.icu, sys := t.sys, psc := t.psc, cans := t.cans, ept := t.ept, msh := t.msh, rcg := t.rcg,
      ten := t.ten, rng := t.rng, bnd := t.bnd, rol := t.rol, nvs := t.nvs }) ∧
  (∀ s vaon, ∃ t, exec (.powerOnReset vaon) s = .next t ∧ t = { s with
      regs := t.regs, caps := t.caps, time := t.time, srv := t.srv, tus := t.tus, icu := t.icu, evm := t.evm, sys := t.sys, psc := t.psc,
      crs := t.crs, grd := t.grd, ser := t.ser, cans := t.cans, mem := t.mem, ept := t.ept, msh := t.msh, rcg := t.rcg, ten := t.ten,
      rng := t.rng, bnd := t.bnd, rol := t.rol, nvs := t.nvs, boot := t.boot }) ∧
  (∀ s desc ofs, ∃ t, exec (.accessTimeout desc ofs) s = .next t ∧ t = { s with
      regs := t.regs, rdata := t.rdata, out := t.out, icu := t.icu, rng := t.rng, bnd := t.bnd }) ∧
  (∀ s v, ∃ t, exec (.clkCounterClr v) s = .next t ∧ t = { s with regs := t.regs, out := t.out, icu := t.icu, sys := t.sys }) ∧
  (∀ s v, ∃ t, exec (.rstCounterClr v) s = .next t ∧ t = { s with regs := t.regs, out := t.out, icu := t.icu, sys := t.sys }) ∧
  (∀ s l2, ∃ t, exec (.entryCommit l2) s = .next t ∧ t = { s with
      regs := t.regs, caps := t.caps, out := t.out, time := t.time, srv := t.srv, tus := t.tus, icu := t.icu, evm := t.evm, sys := t.sys,
      psc := t.psc, crs := t.crs, grd := t.grd, ser := t.ser, cans := t.cans, mem := t.mem, ept := t.ept, msh := t.msh, rcg := t.rcg,
      ten := t.ten, rng := t.rng, bnd := t.bnd, rol := t.rol, nvs := t.nvs, boot := t.boot }) ∧
  (∀ s bits, ∃ t, exec (.wakeSource bits) s = .next t ∧ t = { s with
      regs := t.regs, caps := t.caps, out := t.out, time := t.time, srv := t.srv, tus := t.tus, icu := t.icu, evm := t.evm, sys := t.sys,
      psc := t.psc, crs := t.crs, grd := t.grd, ser := t.ser, cans := t.cans, mem := t.mem, ept := t.ept, msh := t.msh, rcg := t.rcg,
      ten := t.ten, rng := t.rng, bnd := t.bnd, rol := t.rol, nvs := t.nvs, boot := t.boot }) ∧
  (∀ s mv tj, ∃ t, exec (.shedRise mv tj) s = .next t ∧ t = { s with
      regs := t.regs, free := t.free, rdata := t.rdata, out := t.out, time := t.time, srv := t.srv, icu := t.icu, evm := t.evm, sys := t.sys,
      psc := t.psc, crs := t.crs, grd := t.grd, ser := t.ser, cans := t.cans, mem := t.mem, ept := t.ept, msh := t.msh, rcg := t.rcg,
      rng := t.rng, bnd := t.bnd, rol := t.rol, nvs := t.nvs }) ∧
  (∀ s mv tj, ∃ t, exec (.shedFall mv tj) s = .next t ∧ t = { s with
      regs := t.regs, out := t.out, srv := t.srv, icu := t.icu, evm := t.evm, sys := t.sys, psc := t.psc, crs := t.crs, ept := t.ept,
      msh := t.msh, rcg := t.rcg, rng := t.rng, bnd := t.bnd }) ∧
  (∀ s why mv, ∃ t, exec (.powerFail why mv) s = .next t ∧ t = { s with
      regs := t.regs, free := t.free, rdata := t.rdata, out := t.out, time := t.time, srv := t.srv, icu := t.icu, evm := t.evm, sys := t.sys,
      psc := t.psc, crs := t.crs, grd := t.grd, ser := t.ser, cans := t.cans, mem := t.mem, ept := t.ept, msh := t.msh, rcg := t.rcg,
      rng := t.rng, bnd := t.bnd, rol := t.rol, nvs := t.nvs }) ∧
  (∀ s mv tj, ∃ t, exec (.powerRestore mv tj) s = .next t ∧ t = { s with
      regs := t.regs, out := t.out, srv := t.srv, icu := t.icu, evm := t.evm, sys := t.sys, psc := t.psc, crs := t.crs, ept := t.ept,
      msh := t.msh, rcg := t.rcg, rng := t.rng, bnd := t.bnd }) ∧
  (∀ s tj, ∃ t, exec (.thermalShutdown tj) s = .next t ∧ t = { s with
      regs := t.regs, free := t.free, rdata := t.rdata, out := t.out, time := t.time, srv := t.srv, icu := t.icu, evm := t.evm, sys := t.sys,
      psc := t.psc, crs := t.crs, grd := t.grd, ser := t.ser, cans := t.cans, mem := t.mem, ept := t.ept, msh := t.msh, rcg := t.rcg,
      rng := t.rng, bnd := t.bnd, rol := t.rol, nvs := t.nvs }) ∧
  (∀ s tj, ∃ t, exec (.thermalRecover tj) s = .next t ∧ t = { s with
      regs := t.regs, out := t.out, icu := t.icu, evm := t.evm, sys := t.sys, psc := t.psc, crs := t.crs, ept := t.ept, msh := t.msh,
      rcg := t.rcg, rng := t.rng, bnd := t.bnd }) ∧
  (∀ s v, ∃ t, exec (.pwrCounterClr v) s = .next t ∧ t = { s with regs := t.regs, out := t.out, icu := t.icu, sys := t.sys }) ∧
  (∀ s ok, ∃ t, exec (.nvmProgramDone ok) s = .next t ∧ t = { s with
      regs := t.regs, free := t.free, rdata := t.rdata, out := t.out, time := t.time, srv := t.srv, icu := t.icu, evm := t.evm, sys := t.sys,
      psc := t.psc, crs := t.crs, grd := t.grd, ser := t.ser, cans := t.cans, mem := t.mem, ept := t.ept, msh := t.msh, rcg := t.rcg,
      ten := t.ten, rng := t.rng, bnd := t.bnd, rol := t.rol, nvs := t.nvs }) ∧
  (∀ s margin, ∃ t, exec (.refreshScan margin) s = .next t ∧ t = { s with regs := t.regs, nvs := t.nvs }) ∧
  (∀ s n, ∃ t, exec (.lifeCounterLoad n) s = .next t ∧ t = { s with regs := t.regs, out := t.out, icu := t.icu, sys := t.sys }) ∧
  (∀ s v, ∃ t, exec (.nvsCounterClr v) s = .next t ∧ t = { s with regs := t.regs, out := t.out, icu := t.icu, sys := t.sys }) ∧
  (∀ s ra rb rg, ∃ t, exec (.bootStageDone ra rb rg) s = .next t ∧ t = { s with
      regs := t.regs, free := t.free, out := t.out, time := t.time, srv := t.srv, tus := t.tus, icu := t.icu, evm := t.evm, sys := t.sys,
      psc := t.psc, crs := t.crs, grd := t.grd, ept := t.ept, rng := t.rng, bnd := t.bnd, nvs := t.nvs }) ∧
  (∀ s wr ofs v, ∃ t, exec (.configRequest wr ofs v) s = .next t ∧ t = { s with free := t.free, rdata := t.rdata, sys := t.sys }) ∧
  (∀ s rd st b, ∃ t, exec (.updateDone rd st b) s = .next t ∧ t = { s with
      regs := t.regs, out := t.out, icu := t.icu, rng := t.rng, bnd := t.bnd, boot := t.boot }) ∧
  (∀ s ok, ∃ t, exec (.guardImageDone ok) s = .next t ∧ t = { s with
      regs := t.regs, out := t.out, icu := t.icu, rng := t.rng, bnd := t.bnd, boot := t.boot }) ∧
  (∀ s tj, ∃ t, exec (.thermalProgramAbandon tj) s = .next t ∧ t = { s with
      regs := t.regs, free := t.free, rdata := t.rdata, out := t.out, time := t.time, srv := t.srv, icu := t.icu, evm := t.evm, sys := t.sys,
      psc := t.psc, crs := t.crs, grd := t.grd, ser := t.ser, cans := t.cans, mem := t.mem, ept := t.ept, msh := t.msh, rcg := t.rcg,
      ten := t.ten, rng := t.rng, bnd := t.bnd, rol := t.rol, nvs := t.nvs }) ∧
  (∀ s, ∃ t, exec .functionLevelReset s = .next t ∧ t = { s with
      regs := t.regs, out := t.out, icu := t.icu, sys := t.sys, psc := t.psc, cans := t.cans, ept := t.ept, msh := t.msh, rcg := t.rcg,
      ten := t.ten, rng := t.rng, bnd := t.bnd, rol := t.rol, nvs := t.nvs }) ∧
  (∀ s, ∃ t, exec .regaccess s = .next t ∧ t = { s with
      regs := t.regs, free := t.free, rdata := t.rdata, caps := t.caps, out := t.out, time := t.time, srv := t.srv, tus := t.tus,
      icu := t.icu, evm := t.evm, sys := t.sys, psc := t.psc, crs := t.crs, grd := t.grd, ser := t.ser, cans := t.cans, mem := t.mem,
      ept := t.ept, msh := t.msh, rcg := t.rcg, ten := t.ten, rng := t.rng, bnd := t.bnd, rol := t.rol, nvs := t.nvs, boot := t.boot }) ∧
  (∀ s, ∃ t, exec .xinFailure s = .next t ∧ t = { s with
      regs := t.regs, free := t.free, out := t.out, time := t.time, srv := t.srv, tus := t.tus, icu := t.icu, evm := t.evm, sys := t.sys,
      psc := t.psc, crs := t.crs, grd := t.grd, ser := t.ser, cans := t.cans, mem := t.mem, ept := t.ept, msh := t.msh, rcg := t.rcg,
      ten := t.ten, rng := t.rng, bnd := t.bnd, rol := t.rol, nvs := t.nvs, boot := t.boot }) ∧
  (∀ s, ∃ t, exec .xinRecovered s = .next t ∧ t = { s with regs := t.regs, sys := t.sys }) ∧
  (∀ s, ∃ t, exec .rootPllUnlock s = .next t ∧ t = { s with
      regs := t.regs, free := t.free, out := t.out, time := t.time, srv := t.srv, icu := t.icu, evm := t.evm, sys := t.sys, psc := t.psc,
      crs := t.crs, grd := t.grd, mem := t.mem, ept := t.ept, msh := t.msh, rcg := t.rcg, ten := t.ten, rng := t.rng, bnd := t.bnd,
      rol := t.rol, nvs := t.nvs, boot := t.boot }) ∧
  (∀ s, ∃ t, exec .rootPllLocked s = .next t ∧ t = { s with
      regs := t.regs, out := t.out, time := t.time, srv := t.srv, icu := t.icu, sys := t.sys }) ∧
  (∀ s, ∃ t, exec .warm s = .next t ∧ t = { s with
      regs := t.regs, free := t.free, out := t.out, time := t.time, srv := t.srv, icu := t.icu, evm := t.evm, sys := t.sys, psc := t.psc,
      crs := t.crs, grd := t.grd, mem := t.mem, ept := t.ept, msh := t.msh, rcg := t.rcg, ten := t.ten, rng := t.rng, bnd := t.bnd,
      rol := t.rol, nvs := t.nvs, boot := t.boot }) ∧
  (∀ s, ∃ t, exec .core s = .next t ∧ t = { s with
      regs := t.regs, free := t.free, out := t.out, time := t.time, srv := t.srv, icu := t.icu, evm := t.evm, sys := t.sys, psc := t.psc,
      crs := t.crs, grd := t.grd, mem := t.mem, ept := t.ept, msh := t.msh, rcg := t.rcg, ten := t.ten, rng := t.rng, bnd := t.bnd,
      rol := t.rol, nvs := t.nvs, boot := t.boot }) ∧
  (∀ s, ∃ t, exec .hkrst s = .next t ∧ t = { s with
      regs := t.regs, free := t.free, out := t.out, time := t.time, srv := t.srv, icu := t.icu, evm := t.evm, sys := t.sys, psc := t.psc,
      crs := t.crs, grd := t.grd, mem := t.mem, ept := t.ept, msh := t.msh, rcg := t.rcg, ten := t.ten, rng := t.rng, bnd := t.bnd,
      rol := t.rol, nvs := t.nvs, boot := t.boot }) ∧
  (∀ s, ∃ t, exec .resetStart s = .next t ∧ t = { s with
      regs := t.regs, free := t.free, out := t.out, time := t.time, srv := t.srv, icu := t.icu, evm := t.evm, sys := t.sys, psc := t.psc,
      crs := t.crs, grd := t.grd, mem := t.mem, ept := t.ept, msh := t.msh, rcg := t.rcg, ten := t.ten, rng := t.rng, bnd := t.bnd,
      rol := t.rol, nvs := t.nvs, boot := t.boot }) ∧
  (∀ s, ∃ t, exec .coreHold s = .next t ∧ t = { s with
      regs := t.regs, free := t.free, out := t.out, time := t.time, srv := t.srv, tus := t.tus, icu := t.icu, evm := t.evm, sys := t.sys,
      psc := t.psc, crs := t.crs, grd := t.grd, ser := t.ser, cans := t.cans, mem := t.mem, ept := t.ept, msh := t.msh, rcg := t.rcg,
      ten := t.ten, rng := t.rng, bnd := t.bnd, rol := t.rol, nvs := t.nvs }) ∧
  (∀ s, ∃ t, exec .housekeepingReady s = .next t ∧ t = { s with
      regs := t.regs, out := t.out, icu := t.icu, sys := t.sys, crs := t.crs, bnd := t.bnd, rol := t.rol }) ∧
  (∀ s, ∃ t, exec .watchdogExpiry s = .next t ∧ t = { s with
      regs := t.regs, free := t.free, out := t.out, time := t.time, srv := t.srv, icu := t.icu, evm := t.evm, sys := t.sys, psc := t.psc,
      crs := t.crs, grd := t.grd, mem := t.mem, ept := t.ept, msh := t.msh, rcg := t.rcg, ten := t.ten, rng := t.rng, bnd := t.bnd,
      rol := t.rol, nvs := t.nvs, boot := t.boot }) ∧
  (∀ s, ∃ t, exec .abort s = .next t ∧ t = { s with
      regs := t.regs, free := t.free, rdata := t.rdata, out := t.out, icu := t.icu, evm := t.evm, sys := t.sys, psc := t.psc, crs := t.crs,
      ser := t.ser, cans := t.cans, mem := t.mem, ept := t.ept, msh := t.msh, rcg := t.rcg, rng := t.rng, bnd := t.bnd, rol := t.rol }) ∧
  (∀ s, ∃ t, exec .doze s = .next t ∧ t = { s with
      regs := t.regs, free := t.free, rdata := t.rdata, out := t.out, icu := t.icu, evm := t.evm, sys := t.sys, psc := t.psc, crs := t.crs,
      ser := t.ser, cans := t.cans, mem := t.mem, ept := t.ept, msh := t.msh, rcg := t.rcg, rng := t.rng, bnd := t.bnd, rol := t.rol }) ∧
  (∀ s, ∃ t, exec .watch s = .next t ∧ t = { s with
      regs := t.regs, free := t.free, rdata := t.rdata, out := t.out, icu := t.icu, evm := t.evm, sys := t.sys, psc := t.psc, crs := t.crs,
      ser := t.ser, cans := t.cans, mem := t.mem, ept := t.ept, msh := t.msh, rcg := t.rcg, rng := t.rng, bnd := t.bnd, rol := t.rol }) ∧
  (∀ s, ∃ t, exec .hibernate s = .next t ∧ t = { s with
      regs := t.regs, free := t.free, rdata := t.rdata, out := t.out, icu := t.icu, evm := t.evm, sys := t.sys, psc := t.psc, crs := t.crs,
      ser := t.ser, cans := t.cans, mem := t.mem, ept := t.ept, msh := t.msh, rcg := t.rcg, rng := t.rng, bnd := t.bnd, rol := t.rol }) ∧
  (∀ s, ∃ t, exec .off s = .next t ∧ t = { s with
      regs := t.regs, free := t.free, rdata := t.rdata, out := t.out, icu := t.icu, evm := t.evm, sys := t.sys, psc := t.psc, crs := t.crs,
      ser := t.ser, cans := t.cans, mem := t.mem, ept := t.ept, msh := t.msh, rcg := t.rcg, rng := t.rng, bnd := t.bnd, rol := t.rol }) ∧
  (∀ s, ∃ t, exec .autotExpiry s = .next t ∧ t = { s with
      regs := t.regs, free := t.free, rdata := t.rdata, out := t.out, icu := t.icu, evm := t.evm, sys := t.sys, psc := t.psc, ser := t.ser,
      cans := t.cans, mem := t.mem, ept := t.ept, msh := t.msh, rcg := t.rcg, rng := t.rng, bnd := t.bnd, rol := t.rol }) ∧
  (∀ s, ∃ t, exec .drained s = .next t ∧ t = { s with
      regs := t.regs, free := t.free, rdata := t.rdata, out := t.out, icu := t.icu, evm := t.evm, sys := t.sys, psc := t.psc, crs := t.crs,
      ser := t.ser, cans := t.cans, mem := t.mem, ept := t.ept, msh := t.msh, rcg := t.rcg, rng := t.rng, bnd := t.bnd, rol := t.rol }) ∧
  (∀ s, ∃ t, exec .wakeat s = .next t ∧ t = { s with
      regs := t.regs, out := t.out, icu := t.icu, evm := t.evm, sys := t.sys, psc := t.psc, crs := t.crs, ept := t.ept, msh := t.msh,
      rcg := t.rcg, rng := t.rng, bnd := t.bnd }) ∧
  (∀ s, ∃ t, exec .pmicPgRise s = .next t ∧ t = { s with sys := t.sys }) ∧
  (∀ s, ∃ t, exec .memrdy s = .next t ∧ t = { s with regs := t.regs, out := t.out, time := t.time, srv := t.srv, icu := t.icu, sys := t.sys }) ∧
  (∀ s, ∃ t, exec .wakeComplete s = .next t ∧ t = { s with
      regs := t.regs, free := t.free, out := t.out, time := t.time, srv := t.srv, icu := t.icu, evm := t.evm, sys := t.sys, psc := t.psc,
      crs := t.crs, grd := t.grd, mem := t.mem, ept := t.ept, msh := t.msh, rcg := t.rcg, ten := t.ten, rng := t.rng, bnd := t.bnd,
      rol := t.rol, nvs := t.nvs, boot := t.boot }) ∧
  (∀ s, ∃ t, exec .wakePgTimeout s = .next t ∧ t = { s with regs := t.regs, sys := t.sys }) ∧
  (∀ s, ∃ t, exec .wakeRetry s = .next t ∧ t = { s with
      regs := t.regs, out := t.out, icu := t.icu, evm := t.evm, sys := t.sys, psc := t.psc, crs := t.crs, ept := t.ept, msh := t.msh,
      rcg := t.rcg, rng := t.rng, bnd := t.bnd }) ∧
  (∀ s, ∃ t, exec .watchCycle s = .next t ∧ t = { s with
      regs := t.regs, free := t.free, out := t.out, icu := t.icu, evm := t.evm, sys := t.sys, psc := t.psc, crs := t.crs, ept := t.ept,
      msh := t.msh, rcg := t.rcg, ten := t.ten, rng := t.rng, bnd := t.bnd, nvs := t.nvs }) ∧
  (∀ s, ∃ t, exec .append s = .next t ∧ t = { s with regs := t.regs, out := t.out, icu := t.icu, sys := t.sys, nvs := t.nvs }) ∧
  (∀ s, ∃ t, exec .journalRead s = .next t ∧ t = { s with regs := t.regs, out := t.out, icu := t.icu, sys := t.sys, nvs := t.nvs }) ∧
  (∀ s, ∃ t, exec .journalWrite s = .next t ∧ t = { s with
      regs := t.regs, out := t.out, icu := t.icu, ten := t.ten, rng := t.rng, bnd := t.bnd, nvs := t.nvs }) ∧
  (∀ s, ∃ t, exec .nvmEraseDone s = .next t ∧ t = { s with
      regs := t.regs, out := t.out, icu := t.icu, ten := t.ten, rng := t.rng, bnd := t.bnd, nvs := t.nvs }) ∧
  (∀ s, ∃ t, exec .lifeCheckpoint s = .next t ∧ t = { s with regs := t.regs, nvs := t.nvs }) ∧
  (∀ s, ∃ t, exec .bootStageTimeout s = .next t ∧ t = { s with
      regs := t.regs, out := t.out, icu := t.icu, sys := t.sys, rng := t.rng, bnd := t.bnd, nvs := t.nvs }) ∧
  (∀ s, ∃ t, exec .updateGo s = .next t ∧ t = { s with regs := t.regs, out := t.out, icu := t.icu, sys := t.sys, boot := t.boot }) ∧
  (∀ s, ∃ t, exec .guardImageStore s = .next t ∧ t = { s with regs := t.regs, out := t.out, icu := t.icu, sys := t.sys, boot := t.boot }) ∧
  (∀ s, ∃ t, exec .guardImageErase s = .next t ∧ t = { s with regs := t.regs, out := t.out, icu := t.icu, sys := t.sys, boot := t.boot }) ∧
  (∀ s ir cells, ∃ t, exec (.tapIsolate ir cells) s = .next t ∧ t = { s with
      regs := t.regs, free := t.free, out := t.out, tus := t.tus, icu := t.icu, evm := t.evm, sys := t.sys, psc := t.psc, crs := t.crs,
      grd := t.grd, ser := t.ser, cans := t.cans, mem := t.mem, ept := t.ept, msh := t.msh, rcg := t.rcg, ten := t.ten, rng := t.rng,
      bnd := t.bnd, rol := t.rol, nvs := t.nvs, boot := t.boot }) ∧
  (∀ s ir, ∃ t, exec (.tapRelease ir) s = .next t ∧ t = { s with
      regs := t.regs, free := t.free, out := t.out, time := t.time, srv := t.srv, icu := t.icu, evm := t.evm, sys := t.sys, psc := t.psc,
      crs := t.crs, grd := t.grd, mem := t.mem, ept := t.ept, msh := t.msh, rcg := t.rcg, ten := t.ten, rng := t.rng, bnd := t.bnd,
      rol := t.rol, nvs := t.nvs, boot := t.boot })

/-- c clears the counters fs when bit 0 of v is set, and does nothing else: every field that shares no bit with them, and every other part of
the state, is as the access found it; with bit 0 clear nothing changes at all. -/
def Sys2Proof.Machine.ClearsOnly (c : Instr) (r : Reg) (v : Word) (fs : List Fld) : Prop :=
  ∀ s : State, s.Accepts r v → ∃ t, exec c s = .next t ∧
    (wbit v 0 = true → (∀ f ∈ fs, t.g f = 0) ∧ (∀ g : Fld, (∀ f ∈ fs, g.apart f) → t.g g = s.awake.g g) ∧ t = { s.awake with regs := t.regs }) ∧
    (wbit v 0 = false → t = s.awake)

/-- The counter-clear registers of the field units complete, clear exactly their counters, and leave everything else (R139, R147, R175, R198,
R217). -/
def Obligations.FieldCountersClear : Prop :=
  (∀ b v, ClearsOnly (.admissionCounterClr b v) rCRS_BADMCLR v [CRS_BADMITS b, CRS_BREFUSED b, CRS_BDEADMIT b]) ∧
  (∀ c v, ClearsOnly (.guardCounterClr c v) rGRD_CCLR v [GRD_CTRIPCNT c, GRD_CSTS_CAUSE c]) ∧
  (∀ x v, ClearsOnly (.loopCounterClr x v) rAFE_LCLR v [AFE_LCOMPCNT x]) ∧
  (∀ x v, ClearsOnly (.serialCounterClr x v) rSER_PCLR v [SER_PLATE x, SER_PCHKERR x, SER_PRETRYOK x, SER_PLOST x]) ∧
  (∀ x v, ClearsOnly (.canCounterClr x v) rCAN_PCLR v
    [CAN_PRXOK x, CAN_PTXOK x, CAN_PTXFAIL x, CAN_PSHORT x, CAN_PMAPOVER x, CAN_PFIFOLOST x]) ∧
  (∀ b v s, s.Accepts rCRS_BCLR v → wbit v 0 = true → wbit v 1 = false → ∃ t, exec (.busCounterClr b v) s = .next t ∧
    (∀ f ∈ [CRS_BBEACONS b, CRS_BFRAMES b, CRS_BCRCERR b, CRS_BCODEERR b, CRS_BUNKTYPE b, CRS_BFMTERR b, CRS_BJOINCOLL b, CRS_BRETRYOK b,
      CRS_BRETRYFAIL b, CRS_BSPAREFULL b, CRS_BSTEPSKIP b], t.g f = 0) ∧ t = { s.awake with regs := t.regs }) ∧
  (∀ b v s, s.Accepts rCRS_BCLR v → wbit v 0 = false → wbit v 1 = true → ∃ t, exec (.busCounterClr b v) s = .next t ∧
    (∀ a < 32, ∀ f ∈ [CRS_NDRIFTCNT b a, CRS_NSLOTERR b a, CRS_NMISS b a, CRS_NPROBCNT b a], t.g f = 0) ∧
    t = { s.awake with regs := t.regs })

/-- The counter-clear registers of the combination's blocks complete, clear exactly their counters, and leave everything else (R265, R304, R343,
R371, R401, R441, R548, R564, R583, R584, R610, R628). -/
def Obligations.BlockCountersClear : Prop :=
  (∀ v, ClearsOnly (.pscCounterClr v) rPSC_CLR v pscCounters) ∧
  (∀ v, ClearsOnly (.eptCounterClr v) rEPT_CLR v eptCounters) ∧
  (∀ v, ClearsOnly (.mashCounterClr v) rMSH_CLR v [MSH_ENGOVER, MSH_TSCLAMP, MSH_SYNCLATE]) ∧
  (∀ v, ClearsOnly (.rcgCounterClr v) rRCG_CLR v [RCG_STEPS, RCG_OVER, RCG_CASCADE, RCG_ACTSKIP, RCG_EMITSUP, RCG_WAKECNT]) ∧
  (∀ v, ClearsOnly (.tenCounterClr v) rTEN_CLR v [TEN_QREFUSE, TEN_SRDROP, TEN_WINVIOL, TEN_LEASEEND]) ∧
  (∀ v, ClearsOnly (.rngCounterClr v) rRNG_CLR v rngCounters) ∧
  (∀ v, ClearsOnly (.icuCounterClr v) rICU_CLR v icuCounters) ∧
  (∀ v, ClearsOnly (.evmCounterClr v) rEVM_CLR v evmCounters) ∧
  (∀ v, ClearsOnly (.clkCounterClr v) rCLK_CLR v [CLK_FAILCNT, CLK_UNLOCKCNT, CLK_STOPACC]) ∧
  (∀ v, ClearsOnly (.rstCounterClr v) rRST_CLR v [RST_WARMCNT, RST_CORECNT, RST_HKCNT, RST_FLRCNT, RST_WDTCNT]) ∧
  (∀ v, ClearsOnly (.pwrCounterClr v) rPWR_CLR v pwrCounters) ∧
  (∀ v, ClearsOnly (.nvsCounterClr v) rNVS_CLR v nvsCounters)

/-- ERRSTS_CLR (R10): a write with bit 15 of a block's error status zeroes it, whatever it holds, and changes nothing else. -/
def Obligations.ErrorStatusClears : Prop :=
  ∀ s ofs k v, blkAt ofs = some k → s.awake.stopped k.err = false → wbit v 15 = true → ∃ t, exec (.errstsClr ofs v) s = .next t ∧
    t.rd k.err = 0 ∧ (∀ o, o ≠ k.err → t.rd o = s.awake.rd o) ∧ t = { s.awake with regs := t.regs }

/-- The index registers of the field units commit and read their tables (R195, R317, R335, R343): an accepted commit makes the staged entry the
table's entry, an accepted read puts the entry in the staging registers, a release empties it. -/
def Obligations.FieldTablesIndex : Prop :=
  (∀ s n, n < 1024 → s.Accepts rSER_TPLIDX (Word.ofNat (2 ^ 31 + n)) → s.awake.tplFails s.awake.stagedTpl = none →
    ∃ u, exec (.templateCommit n) s = .next u ∧ u.tpl n = s.awake.stagedTpl ∧ (∀ m, m ≠ n → u.tpl m = s.awake.tpl m) ∧
      u = { s.awake with ser := u.ser }) ∧
  (∀ s n, n < 1024 → s.Accepts rSER_TPLIDX (Word.ofNat (2 ^ 30 + n)) →
    ∃ u, exec (.templateRead n) s = .next u ∧ (∀ k < 8, u.rd (rSER_TPLD.at k 0) = Word.ofNat (leAt (s.awake.tpl n) (4 * k) 4)) ∧
      u = { s.awake with regs := u.regs }) ∧
  (∀ s n, n < 8192 → s.Accepts rMSH_CHIDX (Word.ofNat (2 ^ 31 + n)) → (s.awake.ch n).state = msOFF → s.awake.staged.en = false →
    s.awake.commitFails n s.awake.staged = none →
    ∃ u, exec (.channelCommit n) s = .next u ∧ (u.ch n).cfg = s.awake.staged.cfg ∧ (u.ch n).inp = s.awake.staged.inp ∧
      (u.ch n).per = s.awake.staged.per ∧ (u.ch n).stg = s.awake.staged.stg ∧ (u.ch n).state = msOFF ∧ u = { s.awake with msh := u.msh }) ∧
  (∀ s n, n < 8192 → s.Accepts rMSH_CHIDX (Word.ofNat (2 ^ 30 + n)) →
    ∃ u, exec (.channelRead n) s = .next u ∧ u.rd (rMSH_CHCFG.at 0 0) = (s.awake.ch n).cfg ∧ u.rd (rMSH_CHIN.at 0 0) = (s.awake.ch n).inp ∧
      u.rd (rMSH_CHPER.at 0 0) = (s.awake.ch n).per ∧ u = { s.awake with regs := u.regs }) ∧
  (∀ s n, n < 8192 → s.Accepts rMSH_CHIDX (Word.ofNat (2 ^ 29 + n)) →
    ∃ u, exec (.channelClrsts n) s = .next u ∧
      u.ch n = { s.awake.ch n with ovf := none, lateSync := false, lateCmd := false, subst := 0, restarts := 0 } ∧
      (∀ m, m ≠ n → u.ch m = s.awake.ch m) ∧ u = { s.awake with msh := u.msh }) ∧
  (∀ s n, n < 512 → s.Accepts rMSH_CSIDX (Word.ofNat (2 ^ 31 + n)) → setFails s.awake.stagedSet = none → s.awake.setInUse n = false →
    ∃ u, exec (.setCommit n) s = .next u ∧ u.cset n = s.awake.stagedSet ∧ (∀ m, m ≠ n → u.cset m = s.awake.cset m) ∧
      u = { s.awake with msh := u.msh }) ∧
  (∀ s n, n < 512 → s.Accepts rMSH_CSIDX (Word.ofNat (2 ^ 30 + n)) →
    ∃ u, exec (.setRead n) s = .next u ∧ u.on MSH_CSSTS_DEFINED = !(s.awake.cset n).isEmpty ∧ u.on MSH_CSSTS_INUSE = s.awake.setInUse n ∧
      u = { s.awake with regs := u.regs }) ∧
  (∀ s n, n < 512 → s.Accepts rMSH_CSIDX (Word.ofNat (2 ^ 29 + n)) → s.awake.setInUse n = false →
    ∃ u, exec (.setRelease n) s = .next u ∧ u.cset n = [] ∧ (∀ m, m ≠ n → u.cset m = s.awake.cset m) ∧ u = { s.awake with msh := u.msh })

/-- The index registers of endpoints, recognizers, tenants, rings, sources, directory and life counters commit, read, release and stop (R272, R273,
R351, R372, R393, R401, R441, R442, R514, R547, R621). -/
def Obligations.HubTablesIndex : Prop :=
  (∀ s e, e < 131072 → s.Accepts rEPT_IDX (Word.ofNat (2 ^ 31 + e)) → s.awake.recFails e s.awake.stagedRec = none →
    ∃ u, exec (.recordCommit e) s = .next u ∧ u.ep e = EpS.unpack s.awake.stagedRec ∧ (∀ m, m ≠ e → u.ep m = s.awake.ep m)) ∧
  (∀ s e, e < 131072 → s.Accepts rEPT_IDX (Word.ofNat (2 ^ 30 + e)) →
    ∃ u, exec (.recordRead e) s = .next u ∧ (∀ k < 8, u.g (EPT_D k) = leAt (s.awake.ep e).pack (4 * k) 4) ∧
      u = { s.awake with regs := u.regs }) ∧
  (∀ s e, e < 131072 → s.Accepts rEPT_IDX (Word.ofNat (2 ^ 29 + e)) → (s.awake.ep e).src ≠ srcFREE →
    (∀ x ∈ s.awake.relRecs e, s.awake.recAdmitted (s.awake.ep x) = false ∧ s.awake.recInUse x = false) →
    ∃ u, exec (.recordRelease e) s = .next u ∧ (∀ x ∈ s.awake.relRecs e, u.ep x = {}) ∧ (∀ x, x ∉ s.awake.relRecs e → u.ep x = s.awake.ep x)) ∧
  (∀ s n, n < 1024 → s.Accepts rRCG_MTCTL (Word.ofNat (2 ^ 31 + n)) → s.awake.mtUsers n = 0 → mtFails s.awake.mtBuf = none →
    ∃ u, exec (.machineCommit n) s = .next u ∧ u.mtab n = s.awake.mtBuf.take (mtLen s.awake.mtBuf) ∧ (∀ m, m ≠ n → u.mtab m = s.awake.mtab m) ∧
      u.g RCG_MTRSN = 0) ∧
  (∀ s n, n < 1024 → s.Accepts rRCG_MTCTL (Word.ofNat (2 ^ 30 + n)) →
    ∃ u, exec (.machineRead n) s = .next u ∧ u.on RCG_MTINFO_DEFINED = !(s.awake.mtab n).isEmpty ∧ u = { s.awake with regs := u.regs }) ∧
  (∀ s n, n < 1024 → s.Accepts rRCG_MTCTL (Word.ofNat (2 ^ 29 + n)) → s.awake.mtUsers n = 0 →
    ∃ u, exec (.machineRelease n) s = .next u ∧ u.mtab n = [] ∧ (∀ m, m ≠ n → u.mtab m = s.awake.mtab m)) ∧
  (∀ s t k w, t < 1024 → k < 8 → s.Accepts rTEN_WINIDX (Word.ofNat (2 ^ 31 + 65536 * k + t)) →
    w = { base := s.awake.g TEN_WINBASELO * 4096 + 2 ^ 32 * s.awake.g TEN_WINBASEHI, len := s.awake.g TEN_WINLEN,
          r := s.awake.on TEN_WINATTR_R, w := s.awake.on TEN_WINATTR_W : WinS } → s.awake.winFailsWr t k w = none →
    ∃ u, exec (.windowCommit t k) s = .next u ∧ (u.ten.ctx.get (fun _ => {}) t).wins.get (fun _ => {}) k = w) ∧
  (∀ s t k, t < 1024 → k < 8 → s.Accepts rTEN_WINIDX (Word.ofNat (2 ^ 30 + 65536 * k + t)) →
    ∃ u, exec (.windowRead t k) s = .next u ∧ u.on TEN_WINATTR_R = (s.awake.win t k).r ∧ u.on TEN_WINATTR_W = (s.awake.win t k).w ∧
      u.g TEN_WINLEN = (s.awake.win t k).len % 2 ^ 28 ∧ u = { s.awake with regs := u.regs }) ∧
  (∀ s t k, t < 1024 → k < 8 → s.Accepts rTEN_WINIDX (Word.ofNat (2 ^ 29 + 65536 * k + t)) →
    ((s.awake.win t k).len = 0 ∨ s.awake.windowUsed t (s.awake.win t k) = false) →
    ∃ u, exec (.windowClr t k) s = .next u ∧ (u.ten.ctx.get (fun _ => {}) t).wins.get (fun _ => {}) k = {}) ∧
  (∀ s t k, t < 1024 → k < 3 → s.Accepts rRNG_IDX (Word.ofNat (2 ^ 31 + 65536 * k + t)) → s.awake.setupBad t k true = none →
    ∃ u, exec (.ringSetup t k) s = .next u ∧ ((u.tr t).ringOf k).state = rsRUNNING ∧
      ((u.tr t).ringOf k).base = join32 (s.awake.g RNG_BASELO * 4096) (s.awake.g RNG_BASEHI) ∧ ((u.tr t).ringOf k).ord = s.awake.g RNG_ORD) ∧
  (∀ s t k, t < 1024 → k < 3 → s.Accepts rRNG_IDX (Word.ofNat (2 ^ 30 + 65536 * k + t)) →
    ∃ u, exec (.ringSetupRead t k) s = .next u ∧ u.g RNG_STS = ((s.awake.tr t).ringOf k).state % 8 ∧
      u.g RNG_PTR_HUB = ((s.awake.tr t).ringOf k).hub % 65536 ∧ u.g RNG_PTR_HOST = ((s.awake.tr t).ringOf k).host % 65536 ∧
      u = { s.awake with regs := u.regs }) ∧
  (∀ s t k, t < 1024 → k < 3 → s.Accepts rRNG_IDX (Word.ofNat (2 ^ 29 + 65536 * k + t)) → s.awake.setupBad t k false = none →
    ∃ u, exec (.ringSetupStop t k) s = .next u ∧
      ((u.tr t).ringOf k).state = (if k = 0 ∧ (s.awake.tr t).cmds ≠ [] then rsSTOPPING else rsSTOPPED)) ∧
  (∀ s n, n < 4144 → s.Accepts rICU_SRCIDX (Word.ofNat (2 ^ 31 + n)) → s.awake.on ICU_SRCCFG_EN = false → s.awake.g ICU_SRCTIME ≠ 0 →
    ∃ u, exec (.sourceCommit n) s = .next u ∧ (u.src n).en = false ∧ (u.src n).prio = s.awake.g ICU_SRCCFG_PRIO ∧
      (u.src n).tgt = s.awake.g ICU_SRCTGT) ∧
  (∀ s n, n < 4144 → s.Accepts rICU_SRCIDX (Word.ofNat (2 ^ 30 + n)) →
    ∃ u, exec (.sourceRead n) s = .next u ∧ u.on ICU_SRCCFG_EN = (s.awake.src n).en ∧ u.g ICU_SRCTGT = (s.awake.src n).tgt % 2 ^ 32 ∧
      u.on ICU_SRCSTS_FORCED = (s.awake.src n).force ∧ u = { s.awake with regs := u.regs }) ∧
  (∀ s p, p < 16 → s.Accepts rROL_DIRIDX (Word.ofNat p) →
    ∃ u, exec (.directoryEntryLoad p) s = .next u ∧ (∀ e, s.awake.dirEnt p = some e → ∀ k < 8, u.g (ROL_DIRD k) = leAt e.bytes (4 * k) 4) ∧
      (s.awake.dirEnt p = none → ∀ k < 8, u.g (ROL_DIRD k) = 0) ∧ u = { s.awake with regs := u.regs }) ∧
  (∀ s n, n < 64 → s.Accepts rNVS_LIFEIDX (Word.ofNat n) →
    ∃ u, exec (.lifeCounterLoad n) s = .next u ∧
      u.g NVS_LIFEDATA = (if (11 ≤ n ∧ n ≤ 15) ∨ 48 ≤ n then 0 else s.awake.life n % 2 ^ 32) ∧ u = { s.awake with regs := u.regs })

/-- The servo's timer-driven commands complete with their effect (R31, R34, R37, R45, R46, R48, R500): reading CT captures all 64 bits; an exchange
starts once an interval has passed; a RESP missing 10 µs after it ends it and is counted; HOLDCNT intervals without a usable exchange bring
HOLDOVER, with the increment frozen at the mean of those applied; a missing SYNC edge is rejected, the fourth in a row ending discipline;
DISC_HOLD without discipline ends UTC; the SYNC output pulses for WIDTH at each multiple of PERIOD. -/
def Obligations.TimeServiceCompletes : Prop :=
  (∀ s, s.stopped TIM_ERRSTS = false → ∃ t, exec .ctCaptureRead s = .next t ∧ t.g64 TIM_CTLO TIM_CTHI = s.ct ∧ t.rdata = s.ct % 2 ^ 32 ∧
    (∀ o, o ≠ TIM_CTLO.off → o ≠ TIM_CTHI.off → t.rd o = s.rd o) ∧ t = { s with regs := t.regs, rdata := t.rdata }) ∧
  (∀ s, s.on TIM_CTSTS_UPVALID = true → s.coreRuns = true → s.hkRuns = true → s.srv.lastStart + s.interval ≤ s.elapsed →
    ∃ t, exec .timeExchangeStart s = .next t ∧ t.srv.t1 = some (s.ct, s.elapsed) ∧ t.srv.lastStart = s.elapsed ∧
      t = ({ s with srv := t.srv } : State).sendLocal (s.g TIM_CTSTS_UPPORT) clsTIME (s.timePayload 1 (lo32 s.elapsed) 0 0 0)) ∧
  (∀ s a e, s.srv.t1 = some (a, e) → e + 10000 < s.elapsed → s.g (BND_PTIMEBAD (s.g TIM_CTSTS_UPPORT)) < 2 ^ 32 - 1 →
    ∃ t, exec .timeRespTimeout s = .next t ∧ t.srv = { s.srv with t1 := none } ∧
      t.g (BND_PTIMEBAD (s.g TIM_CTSTS_UPPORT)) = s.g (BND_PTIMEBAD (s.g TIM_CTSTS_UPPORT)) + 1 ∧
      (∀ o, o ≠ (BND_PTIMEBAD (s.g TIM_CTSTS_UPPORT)).off → t.rd o = s.rd o) ∧ t = { s with regs := t.regs, srv := t.srv }) ∧
  (∀ s, s.srv.lastGood + s.g TIM_SVCFG_HOLDCNT * s.interval ≤ s.elapsed →
    (s.g TIM_CTSTS_STATE = ctLOCKED ∨ s.g TIM_CTSTS_STATE = ctACQUIRING ∨ s.g TIM_CTSTS_STATE = ctUNSET) →
    ∃ t, exec .holdcntExpiry s = .next t ∧ t.g TIM_CTSTS_STATE = ctHOLDOVER ∧ t.g TIM_CTSTS_TRACKING = 0 ∧ t.srv.t1 = none ∧
      (s.srv.incs ≠ [] → t.incr = mean s.srv.incs % 2 ^ 64) ∧ (s.srv.incs = [] → t.incr = s.incr) ∧ t.time = s.time ∧
      (s.g TIM_CTSTS_STATE = ctLOCKED → t.on TIM_CTSTS_UTC_VALID = false)) ∧
  (∀ s, s.srv.lastGood + s.g TIM_SVCFG_HOLDCNT * s.interval ≤ s.elapsed →
    (s.g TIM_CTSTS_STATE = ctREFERENCE ∨ s.g TIM_CTSTS_STATE = ctHOLDOVER) → exec .holdcntExpiry s = .next s) ∧
  (∀ s e, s.srv.expected = some e → s.g TIM_CTSTS_STATE = ctREFERENCE → s.on TIM_SYNCCFG_DISC_EN = true → s.on TIM_CTSTS_DISCIPLINED = true →
    e + 1000 < s.ct →
    ∃ t, exec .syncEdgeTimeout s = .next t ∧ t.srv = { s.srv with expected := some (e + s.syncPeriod), rejRun := min (s.srv.rejRun + 1) 4 } ∧
      t.g TIM_SYNCREJ = min (s.g TIM_SYNCREJ + 1) (2 ^ 32 - 1) ∧
      (3 ≤ s.srv.rejRun → t.on TIM_CTSTS_DISCIPLINED = false) ∧ (s.srv.rejRun < 3 → t.on TIM_CTSTS_DISCIPLINED = true)) ∧
  (∀ s, s.g TIM_CTSTS_STATE = ctREFERENCE → (s.on TIM_CTSTS_DISCIPLINED = false ∨ s.on TIM_SYNCCFG_DISC_EN = false) →
    s.srv.lastAccept + 1000000000 * s.g TIM_SYNCCFG_DISC_HOLD ≤ s.elapsed →
    ∃ t, exec .discHoldExpiry s = .next t ∧ t.on TIM_CTSTS_UTC_VALID = false ∧
      (∀ f : Fld, f.apart TIM_CTSTS_UTC_VALID → t.g f = s.g f) ∧ t = { s with regs := t.regs }) ∧
  (∀ s, s.g TIM_SYNCCFG_MODE = 1 → s.ct % s.syncPeriod = 0 → (∀ l, s.srv.lastPulse = some l → l < s.ct) → s.coreRuns = true →
    ∃ t, exec .syncOutputPulse s = .next t ∧
      t.srv = { s.srv with syncPin := true, lastPulse := some s.ct, pulseEnd := some (s.elapsed + 1000 * s.g TIM_SYNCCFG_WIDTH) } ∧
      t = { s with srv := t.srv }) ∧
  (∀ s e, s.srv.pulseEnd = some e → e ≤ s.elapsed →
    ∃ t, exec .syncPulseEnd s = .next t ∧ t.srv = { s.srv with syncPin := false, pulseEnd := none } ∧ t = { s with srv := t.srv })

/-- Time exchanges and SYNC edges (R35, R44, R45, R500): a REQ is answered with its arrival and departure; a good RESP of the same epoch within
the step limit ends the exchange and leaves the increment within ±200 ppm of nominal; the armed UTC value applies at the next SYNC edge and
begins discipline; writing SYNCUTC arms it and clears SYNCREJ. -/
def Obligations.TimeExchangesComplete : Prop :=
  (∀ s p pl lat, leAt pl 0 1 = 1 → ∃ t, exec (.timeReq p pl lat) s = .next t ∧ ∃ x, t = { s with out := Out.flit p x :: s.out } ∧
    leAt x 8 1 = 2 ∧ leAt x 12 4 = leAt pl 4 4 ∧ leAt x 24 8 = s.ct ∧ leAt x 32 8 = (s.ct + min lat 2000) % 2 ^ 64) ∧
  (∀ s p pl lat, leAt pl 0 1 ≠ 1 → ∃ t, exec (.timeReq p pl lat) s = .next t ∧ t.out = s.out ∧
    t.g (BND_PTIMEBAD p) = min (s.g (BND_PTIMEBAD p) + 1) (2 ^ 32 - 1)) ∧
  (∀ s p pl (a e : Nat), s.srv.t1 = some (a, e) → leAt pl 0 1 = 2 → leAt pl 4 4 = lo32 e → s.elapsed ≤ e + 10000 → s.on TIM_CTSTS_UPVALID = true →
    p = s.g TIM_CTSTS_UPPORT → leAt pl 8 4 = s.g ROL_EPOCH → (leAt pl 1 1 % 8 = ctLOCKED ∨ leAt pl 1 1 % 8 = ctREFERENCE) →
    ((((leAt pl 16 8 : Int) - a) - ((s.ct : Int) - leAt pl 24 8)) * 1000 - signed 16 (s.g (TIM_BDASYM p))).natAbs ≤
      2 * 1000000 * s.g TIM_SVCFG_STEPLIM →
    ∃ t, exec (.timeResp p pl) s = .next t ∧ t.srv.t1 = none ∧ t.srv.lastGood = s.elapsed ∧ incMin ≤ t.incr ∧ t.incr ≤ incMax ∧
      t.time = s.time) ∧
  (∀ s, s.g TIM_SYNCCFG_MODE = 0 → s.g TIM_SYNCCFG_EDGE = 0 → s.g TIM_CTSTS_STATE = ctREFERENCE → s.on TIM_SYNCCFG_DISC_EN = true →
    s.srv.utcArmed = true → s.on TIM_CTSTS_DISCIPLINED = false → s.on MSH_SYNCCFG_PINEN = false →
    ∃ t, exec (.syncEdgeInput false) s = .next t ∧ t.on TIM_CTSTS_DISCIPLINED = true ∧ t.on TIM_CTSTS_UTC_VALID = true ∧
      t.g64 TIM_UTCOFSLO TIM_UTCOFSHI = unsigned 64 ((s.g64 TIM_SYNCUTCLO TIM_SYNCUTCHI : Int) - s.ct) ∧ t.srv.utcArmed = false ∧
      t.srv.expected = some (s.ct + s.syncPeriod)) ∧
  (∀ s v, s.Accepts rTIM_SYNCUTCHI v → ∃ t, exec (.syncutcWrite v) s = .next t ∧ t.g TIM_SYNCREJ = 0 ∧
    t.rd rTIM_SYNCUTCHI.off = rTIM_SYNCUTCHI.merge (s.awake.rd rTIM_SYNCUTCHI.off) v ∧ t.srv.utcArmed = !s.awake.on TIM_CTSTS_DISCIPLINED ∧
    t = { s.awake with regs := t.regs, srv := t.srv })

/-- The timer units' commands complete with their effect (R50, R52, R53, R55, R63). -/
def Obligations.TimerUnitsComplete : Prop :=
  (∀ s x v, x < 16 → s.Accepts rTIM_TUCTL v → tuSrcOk (wbits v 3 1) (wbits v 10 4) = true → (x < 8 ∨ wbits v 15 14 = 0) →
    s.awake.on (TIM_TUCTL_EN x) = false → wbit v 0 = true → wbit v 13 = false →
    ∃ t, exec (.timerEnable x v) s = .next t ∧ t.on (TIM_TUSTS_RUNNING x) = true ∧ (t.tu x).acc = 0 ∧ (t.tu x).cnt = (s.awake.tu x).cnt) ∧
  (∀ s x v, x < 16 → s.Accepts rTIM_TUCTL v → tuSrcOk (wbits v 3 1) (wbits v 10 4) = true → (x < 8 ∨ wbits v 15 14 = 0) →
    s.awake.on (TIM_TUCTL_EN x) = false → wbit v 0 = true → wbit v 13 = true → s.awake.ct < s.awake.tuStart x →
    ∃ t, exec (.timerEnable x v) s = .next t ∧ (t.tu x).waiting = true ∧ t.g (TIM_TUSTS_RUNNING x) = s.awake.g (TIM_TUSTS_RUNNING x)) ∧
  (∀ s x v, x < 16 → s.Accepts rTIM_TUCTL v → tuSrcOk (wbits v 3 1) (wbits v 10 4) = true → (x < 8 ∨ wbits v 15 14 = 0) → wbit v 0 = false →
    ∃ t, exec (.timerEnable x v) s = .next t ∧ t.on (TIM_TUSTS_RUNNING x) = false ∧ (t.tu x).waiting = false) ∧
  (∀ s x, x < 16 → (s.tu x).waiting = true → s.tuStart x ≤ s.ct →
    ∃ t, exec (.timerStartAtCt x) s = .next t ∧ t.on (TIM_TUSTS_RUNNING x) = true ∧ (t.tu x).waiting = false ∧
      (∀ f : Fld, f.apart (TIM_TUSTS_RUNNING x) → t.g f = s.g f) ∧ t = { s with regs := t.regs, tus := t.tus }) ∧
  (∀ s x v, x < 16 → s.Accepts rTIM_TUCNTHI v → s.awake.on (TIM_TUCTL_EN x) = false →
    ∃ t, exec (.timerCounterWrite x v) s = .next t ∧ (t.tu x).cnt = join32 (t.g (TIM_TUCNTLO x)) (t.g (TIM_TUCNTHI x)) ∧
      t.g (TIM_TUCNTHI x) = wbits v 15 0 ∧ t.g (TIM_TUCNTLO x) = s.awake.g (TIM_TUCNTLO x)) ∧
  (∀ s x y v, x < 16 → y < 4 → s.Accepts rTIM_TUCMPHI v → (s.awake.on (TIM_TUCMPCTL_BASE x y) = true ∨ wbits v 31 16 = 0) →
    ∃ t, exec (.compareArm x y v) s = .next t ∧ t.on (TIM_TUCMPCTL_ARM x y) = true) ∧
  (∀ s x y, x < 16 → y < 4 → s.cmpDue x y = true →
    ∃ t, exec (.compareMatch x y) s = .next t ∧ t.g ⟨(TIM_TUSTS_MATCH x).off, y, y⟩ = 1 ∧
      (s.g (TIM_TUCMPPER x y) = 0 → t.on (TIM_TUCMPCTL_ARM x y) = false)) ∧
  (∀ s x y fall, x < 8 → y < 2 → s.g (TIM_TUCTL_IOMODE x) = 0 → s.vioOn x = true → s.coreRuns = true → s.captures x y 0 x fall = true →
    s.g (TIM_TUCTL_SRC x) ≠ 4 → (s.capq x y).length < 4 →
    ∃ t, exec (.captureEntry x fall) s = .next t ∧ t.capq x y = s.capq x y ++ [((s.tu x).cnt, s.ct)]) ∧
  (∀ s x fall, (s.g (TIM_TUCTL_IOMODE x) ≠ 0 ∨ s.vioOn x = false) → exec (.captureEntry x fall) s = .next s) ∧
  (∀ s x y, x < 16 → y < 2 → s.awake.stopped TIM_ERRSTS = false →
    ∃ t, exec (.captureHeadHold x y) s = .next t ∧ t.rdata = (s.awake.rd (TIM_TUCAPCNTLO x y).off).toNat ∧ t.capq x y = s.awake.capq x y ∧
      t.capHeld x y = !(s.awake.capq x y).isEmpty) ∧
  (∀ s x y, x < 16 → y < 2 → s.awake.stopped TIM_ERRSTS = false →
    ∃ t, exec (.capturePop x y) s = .next t ∧ t.rdata = (s.awake.rd (TIM_TUCAPCTHI x y).off).toNat ∧ t.capq x y = (s.awake.capq x y).drop 1 ∧
      t.capHeld x y = false) ∧
  (∀ s x y v, x < 16 → y < 2 → s.Accepts rTIM_TUCAPCTL (v ||| 0x01000000) → s.awake.capSelOk x (wbits (v ||| 0x01000000) 2 1) (wbits (v ||| 0x01000000) 9 3) = true →
    ∃ t, exec (.captureClr x y v) s = .next t ∧ t.capq x y = [] ∧ t.g (TIM_TUCAPCTL_LOST x y) = 0 ∧ t.g (TIM_TUCAPCTL_DEPTH x y) = 0)

/-- The receivers of bus b take uplink frames: its bank has its supply, a cycle runs, the segment has power, and the shed stage and the power state
leave the buses on. -/
abbrev Sys2Proof.Machine.State.Listens (s : State) (b : Nat) : Prop :=
  s.vioOn (b / 8) = true ∧ (s.bus b).cur.isSome = true ∧ s.on (CRS_BSTS_SEGOFF b) = false ∧ s.stage < 5 ∧ s.sys.pstate ≠ .hibernate ∧ s.sys.pstate ≠ .off

/-- A frame of at least the shortest length whose last four bytes are the CRC of the others. -/
abbrev Sys2Proof.Machine.goodFrame (bs : List Nat) : Prop :=
  8 ≤ bs.length ∧ leAt bs (bs.length - 4) 4 = crc32 (bs.take (bs.length - 4))

/-- The cycle of a course bus (R68, R69, R78, R90, R103, R124): enabling a bus starts its first cycle 10 µs later and disabling it removes its nodes; a
due cycle start sends a beacon and opens the cycle; slots and spare sub-slots end; the GRANT is decided once; layouts change and take effect. -/
def Obligations.BusCyclesComplete : Prop :=
  (∀ s b v, b < 64 → s.Accepts rCRS_BCFG v → wbit v 0 = true → wbit v 2 = false → s.awake.on (CRS_BCFG_EN b) = false →
    (s.awake.store rCRS_BCFG b 0 v).busFits b = true →
    ∃ t, exec (.busEnable b v) s = .next t ∧ t.on (CRS_BCFG_EN b) = true ∧ (t.bus b).from_ = some (s.awake.elapsed + 10000) ∧
      (t.bus b).cur = none ∧ (∀ c, c ≠ b → t.bus c = s.awake.bus c)) ∧
  (∀ s b v, b < 64 → s.Accepts rCRS_BCFG v → wbit v 0 = false → wbit v 2 = false → s.awake.on (CRS_BCFG_EN b) = true →
    wbits v 23 4 = wbits (s.awake.rd (rCRS_BCFG.at b 0)) 23 4 →
    ∃ t, exec (.busEnable b v) s = .next t ∧ t.on (CRS_BCFG_EN b) = false ∧ (t.bus b).from_ = none ∧ (t.bus b).cur = none ∧
      t.on (CRS_BSTS_RUNNING b) = false ∧ (∀ a < 32, t.holds b a = false)) ∧
  (∀ s b c, b < 64 → s.nextStart b = some c → s.busRuns b = true → c ≤ s.ct → s.vioOn (b / 8) = true →
    ∃ t, exec (.beaconTransmit b) s = .next t ∧ t.on (CRS_BSTS_RUNNING b) = true ∧
      t.g (CRS_BCYCNO b) = (if (s.bus b).sent then (s.g (CRS_BCYCNO b) + 1) % 2 ^ 32 else 0) ∧
      (∃ cyc, (t.bus b).cur = some cyc ∧ cyc.ref = c ∧ cyc.at_ = s.elapsed - (s.ct - c)) ∧ (∃ bytes, Out.frame b 0 bytes ∈ t.out)) ∧
  (∀ s b a, b < 64 → a < 32 → s.bitPassed b (s.nodePos b a + frameBits (s.nodeLen b a)) = true → s.on (CRS_NSTS_ADMITTED b a) = true →
    (s.node b a).ended = false → (s.node b a).ok = true →
    exec (.slotEnd b a false) s = .next (s.setNode b a { s.node b a with ended := true })) ∧
  (∀ s b a, b < 64 → a < 32 → s.bitPassed b (s.nodePos b a + frameBits (s.nodeLen b a)) = true → s.on (CRS_NSTS_ADMITTED b a) = true →
    (s.node b a).ended = false → (s.node b a).ok = false → (s.node b a).prob = none → s.nodeTxns b a = [] →
    exec (.slotEnd b a false) s = .next ((s.setNode b a { s.node b a with ended := true }).inc (CRS_NMISS b a))) ∧
  (∀ s b a m, b < 64 → a < 32 → (s.node b a).sub = some m →
    s.bitPassed b ((s.bus b).lay.us.getD m 0 + frameBits (s.g (CRS_BSLOTCFG_SPARELEN b))) = true →
    exec (.slotEnd b a true) s = .next (((s.setNode b a { s.node b a with sub := none }).inc (CRS_BRETRYFAIL b)).loseNode b a)) ∧
  (∀ s b, b < 64 → s.g (CRS_BCFG_SPARECNT b) ≠ 0 → (s.bus b).granted = false → s.bitPassed b (s.bus b).lay.sg = true →
    ∃ t, exec (.grant b) s = .next t ∧ (t.bus b).granted = true ∧ (t.bus b).lost = []) ∧
  (∀ s b, b < 64 → s.admRuns b = true → (s.bus b).relay = true → (s.bus b).lchg = none →
    ∃ t, exec (.layoutChange b) s = .next t ∧ (t.bus b).lno = ((s.bus b).lno + 1) % 256 ∧ (t.bus b).relay = false ∧
      (∃ l, (t.bus b).lchg = some l ∧ l.lay = s.layoutOf b (s.wanted b))) ∧
  (∀ s b l c, b < 64 → (s.bus b).lchg = some l → (s.bus b).watch = false → s.nextStart b = some c → l.eff = some ((s.g (CRS_BCYCNO b) + 1) % 2 ^ 32) → c ≤ s.ct →
    exec (.layoutEffective b) s = .next ((s.closeCycle b).layEffective b).nofitScan)

/-- Frames from the nodes (R66, R68, R76, R77, R102, R103, R112, R120, R646): one that breaks the line code, or has a bad CRC, is counted and changes
nothing else; in a bank without its supply nothing is received; a data frame of an admitted node inside its slot gives its node status and its deviation;
a frame of unknown type is counted; a join in the join slot takes a free address. `gs`: the code groups after the last /P/. -/
def Obligations.BusFramesComplete : Prop :=
  (∀ s b arr gs, b < 64 → s.Listens b → lineFrame gs = none → s.inJoin b arr = false →
    exec (.dataFrameReceived b arr gs) s = .next (s.inc (CRS_BCODEERR b))) ∧
  (∀ s b arr gs, s.vioOn (b / 8) = false → exec (.dataFrameReceived b arr gs) s = .next s ∧ exec (.joinFrameReceived b arr gs) s = .next s ∧
    exec (.unknownFrame b arr gs) s = .next s ∧ exec (.immediateReplyReceived b arr gs) s = .next s) ∧
  (∀ s b arr gs bs, b < 64 → s.Listens b → lineFrame gs = some bs → 8 ≤ bs.length → leAt bs (bs.length - 4) 4 ≠ crc32 (bs.take (bs.length - 4)) →
    s.inJoin b arr = false → exec (.dataFrameReceived b arr gs) s = .next (s.inc (CRS_BCRCERR b))) ∧
  (∀ s b a (arr : Int) gs bs, b < 64 → s.Listens b → lineFrame gs = some bs → goodFrame bs → leAt bs 0 1 = 0x81 → leAt bs 1 1 = a → a < 32 → s.inJoin b arr = false →
    s.holds b a = true → s.on (CRS_NSTS_ADMITTED b a) = true →
    s.dataBad b a bs (inSpans (s.g (CRS_BCFG_GUARD b)) arr (s.subSpans b)) = false → (s.node b a).prob = none →
    (arr - 24 * (s.nodePos b a : Nat)).natAbs ≤ 24 * s.g (CRS_BCFG_GUARD b) → (s.bus b).bad = [] →
    ∃ t, exec (.dataFrameReceived b arr gs) s = .next t ∧ (t.node b a).ok = true ∧ (t.node b a).missRun = 0 ∧
      t.g (CRS_NNSTAT b a) = leAt bs 4 2 % 65536 ∧ t.on (CRS_NSTS_SILENT b a) = false ∧
      t.g (CRS_BFRAMES b) = min (s.g (CRS_BFRAMES b) + 1) (2 ^ 32 - 1) ∧
      t.g (CRS_NSTS_LASTDEV b a) = unsigned 12 (clampInt (-2047) 2047 (arr - 24 * (s.nodePos b a : Nat)))) ∧
  (∀ s b arr gs bs, b < 64 → s.Listens b → lineFrame gs = some bs → goodFrame bs → leAt bs 0 1 ≠ 0x81 → leAt bs 0 1 ≠ 0x82 → s.inJoin b arr = false →
    ∃ t, exec (.unknownFrame b arr gs) s = .next t ∧ t.g (CRS_BUNKTYPE b) = min (s.g (CRS_BUNKTYPE b) + 1) (2 ^ 32 - 1)) ∧
  (∀ s b a arr gs bs, b < 64 → s.Listens b → lineFrame gs = some bs → goodFrame bs → leAt bs 0 1 = 0x82 → s.inJoin b arr = true → bs.length = 20 → leAt bs 1 1 = 0 →
    leAt bs 4 8 ≠ 0 → (s.bus b).joinres = 0 → (s.bus b).bad = [] → (s.bus b).joinOpen = true → s.holderOf (leAt bs 4 8) = none →
    leAt bs 12 4 % 256 = 1 → nbits (leAt bs 12 4) 31 28 = 0 → nbits (leAt bs 12 4) 15 10 = 0 → 36 ≤ nbits (leAt bs 12 4) 27 16 →
    s.freeAddr b = some a →
    ∃ t, exec (.joinFrameReceived b arr gs) s = .next t ∧ (t.node b a).id = leAt bs 4 8 ∧ (t.bus b).joinres = 1 ∧
      t.g (CRS_NIDLO b a) = lo32 (leAt bs 4 8) ∧ t.g (CRS_NIDHI b a) = hi32 (leAt bs 4 8) ∧
      (∃ m, (t.bus b).adm = some m ∧ m.addr = a ∧ m.nodeid = leAt bs 4 8)) ∧
  (∀ s b r gs bs cyc, b < 64 → s.vioOn (b / 8) = true → (s.bus b).cur = some cyc → lineFrame gs = some bs → goodFrame bs → s.immWait b = none →
    exec (.immediateReplyReceived b r gs) s = .next (s.inc (CRS_BFMTERR b))) ∧
  (∀ s b r gs bs cyc a c, b < 64 → s.vioOn (b / 8) = true → (s.bus b).cur = some cyc → lineFrame gs = some bs → goodFrame bs →
    s.immWait b = some (a, c) → r ≤ 5280 + (if s.ranged b a then 2 * s.g (CRS_NDELAY b a) else 960 : Nat) →
    leAt bs 0 1 = 0x81 → leAt bs 1 1 = c.addr → leAt bs 2 1 = cyc.no % 256 → leAt bs 3 1 = 0 → leAt bs 4 2 = s.g (CRS_NNSTAT b a) →
    leAt bs 4 2 < 32 → bs.length = 20 → leAt bs 6 2 = 8 → leAt bs 8 1 = 0xFF → leAt bs 9 1 = 8 → leAt bs 10 2 = 4 →
    exec (.immediateReplyReceived b r gs) s = .next ((s.f (CRS_NNSTAT b a) (leAt bs 4 2)).nodeReply b a ((bs.drop 12).take 4) r false))

/-- Nodes as they fall silent, prove themselves or leave, and the admission of a new one (R87, R89, R102, R113, R121, R132, R139): a node de-admitted or
dropped holds its address no more; a reply that has not come is asked for once more. -/
def Obligations.NodesComplete : Prop :=
  (∀ s b a, b < 64 → a < 32 → s.on (CRS_NSTS_ADMITTED b a) = true → 4 ≤ s.missNow b a →
    exec (.nodeSilent b a) s = .next (s.f (CRS_NSTS_SILENT b a) 1)) ∧
  (∀ s b, b < 64 → 4 ≤ (s.bus b).quiet → s.on (CRS_BSTS_LINEFAULT b) = false →
    exec (.linefault b) s = .next ((s.f (CRS_BSTS_LINEFAULT b) 1).raiseHub srcBUSFAULT)) ∧
  (∀ s b a, b < 64 → a < 32 → (s.node b a).prob.isSome = true → 64 ≤ s.g (CRS_NSTS_CLEAN b a) →
    ∃ t, exec (.probationEnd b a) s = .next t ∧ (t.node b a).prob = none ∧ (∀ c, c ≠ 32 * b + a → t.crs.nodes.get (fun _ => {}) c = s.crs.nodes.get (fun _ => {}) c)) ∧
  (∀ s b a, b < 64 → a < 32 → s.coreRuns = true → (s.bus b).watch = false → s.on (CRS_NSTS_ADMITTED b a) = true → 256 ≤ s.missNow b a →
    ∃ t, exec (.nodeDeadmitSilence b a) s = .next t ∧ t.holds b a = false ∧ t.on (CRS_NSTS_ADMITTED b a) = false ∧
      t.g (CRS_BDEADMIT b) = min (s.g (CRS_BDEADMIT b) + 1) (2 ^ 32 - 1)) ∧
  (∀ s b a c cyc, b < 64 → a < 32 → (s.node b a).wait = some c → (s.bus b).cur = some cyc → c.imm = false → cyc.no ≠ c.cyc →
    cyc.no ≠ (c.cyc + 1) % 2 ^ 32 → (s.bus b).watch = false → c.resent = false →
    ∃ t, exec (.nodeCommandTimeout b a) s = .next t ∧ (t.node b a).wait = none ∧
      (t.bus b).cmds = { c with resent := true } :: (s.bus b).cmds ∧ t = { s with crs := t.crs }) ∧
  (∀ s b a c cyc, b < 64 → a < 32 → (s.node b a).wait = some c → (s.bus b).cur = some cyc → c.imm = true → s.g (CRS_NDELAY b a) = 0 →
    c.at_ + 2600 ≤ s.elapsed → (s.bus b).watch = false → c.resent = true → exec (.nodeCommandTimeout b a) s = .next (s.cmdLasts b a c)) ∧
  (∀ s b m, b < 64 → (s.bus b).adm = some m → s.admRuns b = true → m.busy = false → m.step = 2 →
    ∃ t, exec (.admissionStep b) s = .next t ∧ (∃ m', (t.bus b).adm = some m' ∧ m'.busy = true) ∧
      (∃ c, (t.bus b).cmds = (s.bus b).cmds ++ [c] ∧ c.opc = ncRANGE ∧ c.addr = m.addr)) ∧
  (∀ s b a, b < 64 → a < 32 → s.Accepts rCRS_BDROP (Word.ofNat (256 + a)) → s.awake.holds b a = true →
    ∃ t, exec (.nodeDrop b a) s = .next t ∧ t.holds b a = false ∧ (∃ c ∈ (t.bus b).cmds, c.opc = ncDROP ∧ c.addr = a))

/-- The guard channels (R143, R146, R150-R156): an armed channel that is ON and whose current crosses IHI, or whose energy passes ELIM, trips; ON, OFF and
REARM move a channel between its states; TOFF ends a RETRYWAIT; the latch clears; the lock takes. -/
def Obligations.GuardChannelsComplete : Prop :=
  (∀ s c volt v, c < 32 → ∃ t, exec (.windowTrip c volt v) s = .next t ∧ t.grd.vin.get (fun _ => 0) (guardMon c volt) = v) ∧
  (∀ s c v, c < 32 → s.sys.pstate ≠ .off → s.guState c = guON → s.on (GRD_CCFG_ARM c) = true → s.mayRetry c = false → s.checking (guardMon c false) = false →
    s.on (WIN_MSTS_HICMP (guardMon c false)) = false → s.on (WIN_MSTS_LOCMP (guardMon c false)) = false →
    thrOf (guardMon c false) (s.g (WIN_MTHR_HI (guardMon c false))) < v → thrOf (guardMon c false) (s.g (WIN_MTHR_LO (guardMon c false))) ≤ v →
    ∃ t, exec (.windowTrip c false v) s = .next t ∧ t.guState c = guTRIPPED ∧ t.g (GRD_CSTS_CAUSE c) = cuIHI ∧
      t.g (GRD_CSTS_TOFFDONE c) = 0 ∧ t.on (WIN_MSTS_HICMP (guardMon c false)) = true) ∧
  (∀ s c, c < 32 → s.on (GRD_CCFG_ARM c) = false → (s.gu c).tripE = none →
    ∃ t, exec (.integratorTrip c) s = .next t ∧
      t.g (GRD_CMEAS_I c) = min 4095 ((s.monIn (guardMon c false)).toNat * 4096 / (1024 * 100)) ∧
      t.g (GRD_CMEAS c) = min 4095 ((s.monIn (guardMon c true)).toNat * 4096 / (1024 * 1200)) ∧
      (t.gu c).code1 = (t.g (GRD_CMEAS_I c), t.g (GRD_CMEAS c)) ∧ (t.gu c).code2 = (s.gu c).code1 ∧
      (t.gu c).hist = [] ∧ t.guState c = s.guState c) ∧
  (∀ s c, c < 32 → s.on (GRD_CCFG_ARM c) = true → s.guState c = guON → (s.gu c).excess = false → s.mayRetry c = false →
    1000 * s.g (GRD_CELIM_ELIM c) < (s.gu c).fill + s.guInc c (s.gu c).code2 + (s.gu c).hist.sum →
    ∃ t, exec (.integratorTrip c) s = .next t ∧ t.guState c = guTRIPPED ∧ t.g (GRD_CSTS_CAUSE c) = cuENERGY) ∧
  (∀ s c, c < 32 → s.Accepts rGRD_CCTL 1#32 → s.awake.on GRD_LOCK_LOCK = true → s.awake.on (GRD_CCFG_ARM c) = true → s.awake.guState c = guOFF →
    (s.awake.gu c).tripAon ≠ some s.awake.time.aon → s.awake.noTurnOn = false → s.awake.on CLK_STS_XINOK = true →
    s.awake.on (GRD_CSTS_SELFCHK c) = false → (s.awake.gu c).offReq ≠ some s.awake.time.aon →
    ∃ t, exec (.channelOn c) s = .next t ∧ t.guState c = guON ∧ (t.gu c).onAt = s.awake.elapsed ∧ t.on GRD_GSTS_ANYON = true) ∧
  (∀ s c, c < 32 → s.Accepts rGRD_CCTL 2#32 → s.awake.guState c = guON → (s.awake.gu c).retryAon ≠ some s.awake.time.aon →
    ∃ t, exec (.channelOff c) s = .next t ∧ t.guState c = guOFF ∧ (t.gu c).offAon = some s.awake.time.aon) ∧
  (∀ s c, c < 32 → s.Accepts rGRD_CCTL 4#32 → s.awake.guState c = guTRIPPED → s.awake.g (GRD_CSTS_TOFFDONE c) ≠ 0 →
    (s.awake.gu c).tripAon ≠ some s.awake.time.aon →
    ∃ t, exec (.rearm c) s = .next t ∧ t.guState c = guOFF ∧ t.g (GRD_CSTS_RETRIES c) = 0) ∧
  (∀ s c, c < 32 → s.g (GRD_CSTS_TOFFDONE c) = 0 → (s.gu c).tripAt + 1000000 * s.g (GRD_CTOFF_TOFF c) ≤ s.elapsed →
    ∃ t, exec (.toffExpiry c) s = .next t ∧ t.on (GRD_CSTS_TOFFDONE c) = true ∧
      (s.guState c = guRETRYWAIT → s.noTurnOn = false → t.guState c = guON ∧ (t.gu c).retryAon = some s.time.aon) ∧
      (s.guState c ≠ guRETRYWAIT → t = s.f (GRD_CSTS_TOFFDONE c) 1)) ∧
  (∀ s c, c < 32 → s.guState c = guON → (s.gu c).onAt + 60000000000 ≤ s.elapsed →
    exec (.retriesReset c) s = .next (s.f (GRD_CSTS_RETRIES c) 0)) ∧
  (∀ s v, s.Accepts rGRD_TRIPCLR v → s.awake.pinHeld (wbits v 7 0) = false →
    ∃ t, exec (.tripClear v) s = .next t ∧ (∀ k < 8, nbit (t.g GRD_TRIPSTS_LATCH) k = (nbit (s.awake.g GRD_TRIPSTS_LATCH) k && !wbit v k)) ∧
      t = { s.awake with regs := t.regs }) ∧
  (∀ s, s.Accepts rGRD_LOCK 1#32 → ∃ t, exec .guardLock s = .next t ∧ t.on GRD_LOCK_LOCK = true ∧ t.on GRD_GSTS_LOCKED = true ∧
    t = { s.awake with regs := t.regs })

/-- Loops, monitors and self-checks (R169, R174, R175, R181-R185, R662): a loop's mode is written; compliance is entered and left; a monitor's comparator
follows its input, and SETTLED the measured current; a self-check runs and reports; a standing wheel loses its edges; the loss of VAFE releases every drive. -/
def Obligations.LoopsAndMonitorsComplete : Prop :=
  (∀ s x v, x < 16 → s.Accepts rAFE_LCFG v → (wbits v 2 0 = s.awake.g (AFE_LCFG_MODE x) ∨ s.awake.guActive (16 + x) = false) →
    ((routesOf v).length = 2 → (routesOf v).getD 0 0 ≠ (routesOf v).getD 1 0) →
    (routesOf v).any (((List.range 16).filter fun y => y != x).map fun y => routesOf (s.awake.rd (rAFE_LCFG.at y 0))).flatten.contains = false →
    (wbits v 2 0 = 0 → routesOf v = []) →
    ∃ t, exec (.loopModeWrite x v) s = .next t ∧ t.rd (rAFE_LCFG.at x 0) = v ∧
      (wbits v 2 0 ≠ s.awake.g (AFE_LCFG_MODE x) → t.g (AFE_LSET_SET x) = 0) ∧
      (wbits v 2 0 = s.awake.g (AFE_LCFG_MODE x) → t.g (AFE_LSET_SET x) = s.awake.g (AFE_LSET_SET x))) ∧
  (∀ s x e, x < 16 → s.drives x = true → s.on (AFE_LSTS_COMPLIANCE x) = false → s.loopAt x = (1, e) → e + 100000 ≤ s.elapsed →
    ∃ t, exec (.complianceEntry x) s = .next t ∧ t.on (AFE_LSTS_COMPLIANCE x) = true ∧
      t.on (WIN_MSTS_COMPLIANCE (64 + x)) = true ∧ t.on (WIN_MSTS_COMPUP (64 + x)) = true ∧
      t.comps x = (s.ct, none) :: s.comps x ∧ t.g (AFE_LCOMPCNT x) = min (s.g (AFE_LCOMPCNT x) + 1) (2 ^ 32 - 1)) ∧
  (∀ s x e, x < 16 → s.drives x = true → s.on (AFE_LSTS_COMPLIANCE x) = true → s.loopAt x = (2, e) → e + 100000 ≤ s.elapsed →
    ∃ t, exec (.complianceExit x) s = .next t ∧ t.on (AFE_LSTS_COMPLIANCE x) = false ∧
      t.on (WIN_MSTS_COMPLIANCE (64 + x)) = false ∧ t.on (WIN_MSTS_COMPDN (64 + x)) = true) ∧
  (∀ s x (v : Int), x < 16 → s.drives x = true → (s.loopAt x).1 = 1 →
    (200 * (1024 * (s.g (AFE_LSET_SET x) : Int) - 250 * v)).natAbs ≤ 1024 * tolOf (s.g (AFE_LSET_SET x)) →
    ∃ t, exec (.monitorEdge (64 + x) v) s = .next t ∧ t.on (AFE_LSTS_SETTLED x) = true ∧ t.loopAt x = (2, s.elapsed)) ∧
  (∀ s m v, m < 100 → ∃ t, exec (.monitorEdge m v) s = .next t ∧ t.grd.vin.get (fun _ => 0) m = v) ∧
  (∀ s m v, m < 32 ∨ (96 ≤ m ∧ m < 100) → s.sys.pstate ≠ .off → s.checking m = false → s.on (WIN_MSTS_HICMP m) = false →
    thrOf m (s.g (WIN_MTHR_HI m)) < v →
    ∃ t, exec (.monitorEdge m v) s = .next t ∧ t.on (WIN_MSTS_HICMP m) = true ∧ t.on (WIN_MSTS_HIUP m) = true) ∧
  (∀ s v, s.Accepts rWIN_SCCTL v → wbit v 15 = true → s.awake.on WIN_SCSTS_BUSY = false → wbits v 6 0 < 100 →
    (wbits v 9 8 = 0 → wbits v 6 0 < 32) → (wbits v 9 8 = 1 → s.awake.g (WIN_MTHR_HI (wbits v 6 0)) ≤ 991) →
    (wbits v 9 8 = 2 → 32 ≤ s.awake.g (WIN_MTHR_LO (wbits v 6 0))) →
    (match monGuard (wbits v 6 0) with | some (c, _) => s.awake.guActive c | none => false) = false →
    ∃ t, exec (.selfCheckGo v) s = .next t ∧ t.on WIN_SCSTS_BUSY = true ∧ t.on WIN_SCSTS_DONE = false ∧ t.on WIN_SCSTS_PASS = false ∧
      t.g WIN_SCSTS_MON = wbits v 6 0 ∧ t.g WIN_SCSTS_KIND = wbits v 9 8 ∧ t = { s.awake with regs := t.regs }) ∧
  (∀ s hi lo hs ls, s.on WIN_SCSTS_BUSY = true →
    ∃ t, exec (.selfCheckDone hi lo hs ls) s = .next t ∧ t.on WIN_SCSTS_BUSY = false ∧ t.on WIN_SCSTS_DONE = true ∧
      t.on WIN_SCSTS_PASS = scPass (s.g WIN_SCSTS_KIND) hi lo hs ls) ∧
  (∀ s m, m < 32 → s.grd.edgeAt.get (fun _ => 0) m + 1000000 * s.g (WIN_MSPD_STILL m) ≤ s.elapsed →
    exec (.wheelStandstill m) s = .next (s.setEdges m [])) ∧
  (∀ s, s.sys.vafe = true → ∃ t, exec .vafeLoss s = .next t ∧ t.sys.vafe = false ∧ (∀ x < 16, t.on (AFE_LSTS_DRVON x) = false)) ∧
  (∀ s, s.sys.vafe = false → ∃ t, exec .vafeReturn s = .next t ∧ t.sys.vafe = true)

/-- The words of a run of template b on port x, as the checks and endpoints take them: the first bit received is the top one, or with LSBF the lowest;
without the supply of its bank SDI reads 0. -/
abbrev Sys2Proof.Machine.State.runWords (s : State) (x : Nat) (b : List Nat) (ws : List Word) : List Nat :=
  (List.range (tpWords b)).map fun k => if s.vioOn (x / 2) then lineVal (tpLsb b) (8 * tpWb b) (ws.getD k 0).toNat else 0

/-- The serial ports (R196-R202): the first entry due on an idle port goes out at CT, with the bits of its template; a run ends, and a first failed check
puts it ahead of the queue; slave words and partial words queue with their time while SLVTX goes out. -/
def Obligations.SerialPortsComplete : Prop :=
  (∀ s x q rest, x < 8 → (s.sp x).run = none → (s.sp x).again = none → (s.sp x).q = q :: rest → q.retry = false → s.serMaster x = true →
    s.serRuns x = true → (s.sp x).freeAt ≤ s.elapsed → q.at_.getD 0 ≤ s.ct →
    ∃ t, exec (.serialEntryStart x) s = .next t ∧ t.on (SER_PSTS_BUSY x) = true ∧
      (t.sp x).run = some { q := q, img := s.tpl q.tpl, ct := s.ct, fin := s.elapsed + s.sckNs x (s.runPeriods (s.tpl q.tpl)) } ∧
      (s.vioOn (x / 2) = true → nbit (s.g (SER_PCS_EN x)) (tpSel (s.tpl q.tpl)) = true →
        Out.serial x (some (tpSel (s.tpl q.tpl))) (tpMode (s.tpl q.tpl)) (runBits (s.tpl q.tpl) q.data) ∈ t.out)) ∧
  (∀ s x ws r, x < 8 → (s.sp x).run = some r → r.fin ≤ s.elapsed → r.q.tags = [] → r.q.job = none →
    serChecks r.img (s.runWords x r.img ws) = true →
    ∃ t, exec (.serialEntryDone x ws) s = .next t ∧ (t.sp x).run = none ∧ (t.sp x).q = (s.sp x).q ∧
      t.g (SER_PRETRYOK x) = (if r.q.retry then min (s.g (SER_PRETRYOK x) + 1) (2 ^ 32 - 1) else s.g (SER_PRETRYOK x))) ∧
  (∀ s x ws r, x < 8 → (s.sp x).run = some r → r.fin ≤ s.elapsed → r.q.retry = false → serChecks r.img (s.runWords x r.img ws) = false →
    ∃ t, exec (.serialEntryDone x ws) s = .next t ∧ (t.sp x).run = none ∧ (t.sp x).q = (s.sp x).q ∧
      (t.sp x).again = some { r.q with at_ := none, retry := true, img := r.img } ∧
      t.g (SER_PCHKERR x) = min (s.g (SER_PCHKERR x) + 1) (2 ^ 32 - 1)) ∧
  (∀ s x v, x < 8 → s.slaveOn x = true → (s.sp x).words.length < 64 →
    ∃ t, exec (.slaveWordReceived x v) s = .next t ∧
      (∃ r, (t.sp x).words = (s.sp x).words ++ [r] ∧ r.ct = s.ct ∧ r.ep = s.g (SER_PSLVEP_EP x) ∧
        r.bytes = toLe 4 (lineVal (s.on (SER_PCFG_SLVLSB x)) (s.slvBits x) v.toNat) ++ [s.slvBits x]) ∧
      t.out = .slave x ((lineBits (s.on (SER_PCFG_SLVLSB x)) (s.slvBits x) (s.rd (rSER_PSLVTX.at x 0)).toNat).take (s.slvBits x)) :: s.out ∧ t.ser.ports.get (fun _ => {}) x = { s.sp x with words := (t.sp x).words }) ∧
  (∀ s x n back v, x < 8 → s.slaveOn x = true → 0 < n → n < s.slvBits x → (s.sp x).words.length < 64 →
    ∃ t, exec (.slaveSelectNegated x n back v) s = .next t ∧
      (∃ r, (t.sp x).words = (s.sp x).words ++ [r] ∧ r.ct = s.ct - back ∧ r.flags = flagIf (s.flagsAt (s.ct - back)) fPARTIAL true ∧
        r.bytes = toLe 4 (lineVal (s.on (SER_PCFG_SLVLSB x)) n v.toNat) ++ [n]))

/-- The mapped flash (R204-R208): an aperture read answers from a line held or from the flash, and waits while a program runs; a write gathers in the page,
which a flush or 100 µs sends; a poll that finds the flash busy waits POLLINT more; a raw command queues behind the page; PROGTO ends it all. -/
def Obligations.MemoryCompletes : Prop :=
  (∀ s k b b2 ln, s.awake.stopped MEM_ERRSTS = false → s.awake.winRefused (s.awake.apAddr k) = none → s.awake.mem.run = none →
    s.awake.mem.lines.find? (fun l => l.1 == s.awake.apAddr k / 64 * 64) = some ln →
    ∃ t, exec (.memApRead k b b2) s = .next t ∧ t.rdata = leAt ln.2 (s.awake.apAddr k % 64) 4 ∧ t.regs = s.awake.regs ∧ t.out = s.awake.out) ∧
  (∀ s k b b2, s.awake.stopped MEM_ERRSTS = false → s.awake.winRefused (s.awake.apAddr k) = none → s.awake.mem.run = none →
    s.awake.vioOn 0 = true → s.awake.mem.lines.find? (fun l => l.1 == s.awake.apAddr k / 64 * 64) = none →
    ∃ t, exec (.memApRead k b b2) s = .next t ∧ t.rdata = leAt (padTo 64 b) (s.awake.apAddr k % 64) 4) ∧
  (∀ s k b b2 r, s.awake.stopped MEM_ERRSTS = false → s.awake.winRefused (s.awake.apAddr k) = none → s.awake.mem.run = some r →
    ∃ t, exec (.memApRead k b b2) s = .next t ∧
      t.mem.waits = s.awake.mem.waits ++ [{ addr := s.awake.apAddr k, line := padTo 64 b, next := padTo 64 b2, at_ := s.awake.elapsed }] ∧ t = { s.awake with mem := t.mem }) ∧
  (∀ s k v, s.Accepts rMEM_AP v → s.awake.winRefused (s.awake.apAddr k) = none → s.awake.mem.page = none →
    ∃ t, exec (.memApWrite k v) s = .next t ∧
      (∃ p, t.mem.page = some p ∧ p.addr = s.awake.apAddr k / 256 * 256 ∧ p.at_ = s.awake.elapsed ∧
        p.bytes = (List.range 4).map fun i => (s.awake.apAddr k % 256 + i, v.toNat / 256 ^ i % 256)) ∧
      t.on MEM_STS_PENDW = true ∧
      t.mem.lines = s.awake.mem.lines.filter fun l => decide (s.awake.apAddr k + 4 ≤ l.1) || decide (l.1 + 64 ≤ s.awake.apAddr k)) ∧
  (∀ s v, s.Accepts rMEM_FLUSH v → wbit v 0 = true →
    ∃ t, exec (.memFlush v) s = .next t ∧ t = s.awake.flushPage ∧ t.mem.page = none) ∧
  (∀ s st b r, s.mem.run = some r → r.next ≤ s.elapsed → s.on MEM_STS_XIPACT = false → s.vioOn 0 = true → nbit st (s.g MEM_XIPCFG_BUSYBIT) = true →
    ∃ t, exec (.statusPoll st b) s = .next t ∧ t.mem = { s.mem with run := some { r with next := r.next + s.g MEM_PROGCFG_POLLINT * 1000 } } ∧
      t.out = Out.flash (s.flashTx (some (s.g MEM_OPS_RDSROP)) none [] 1) :: s.out ∧ t.on MEM_STS_BUSY = true) ∧
  (∀ s st b r, s.mem.run = some r → r.next ≤ s.elapsed → s.on MEM_STS_XIPACT = false → s.vioOn 0 = true → nbit st (s.g MEM_XIPCFG_BUSYBIT) = false →
    s.on MEM_CFG_VERIFY = false →
    exec (.statusPoll st b) s = .next ({ s with out := .flash (s.flashTx (some (s.g MEM_OPS_RDSROP)) none [] 1) :: s.out } : State).memEnd) ∧
  (∀ s v rx, s.Accepts rMEM_RAWCMD v → s.awake.on MEM_CFG_EN = true → s.awake.mem.rawBusy = false →
    exec (.rawCommand v rx) s = .next ({ s.awake.flushPage with mem := { s.awake.flushPage.mem with
      ops := s.awake.flushPage.mem.ops ++ [MemOp.raw v (s.awake.flushPage.g MEM_RAWADDR) (s.awake.flushPage.g MEM_RAWDATA) rx] } } : State).memGo) ∧
  (∀ s p, s.mem.page = some p → p.at_ + 100000 ≤ s.elapsed →
    ∃ t, exec .pageBufferTimeout s = .next t ∧ t = s.flushPage ∧ t.mem.page = none) ∧
  (∀ s r, s.mem.run = some r → r.since + s.g MEM_PROGCFG_PROGTO * 1000 ≤ s.elapsed →
    ∃ t, exec .progtoExpiry s = .next t ∧ t.mem.waits = [] ∧ t.on MEM_STS_FAULT = true) ∧
  (∀ s r, s.mem.run = some r → s.elapsed < r.since + s.g MEM_PROGCFG_PROGTO * 1000 →
    ∃ t, exec .progtoExpiry s = .next t ∧
      t.mem.waits = s.mem.waits.filter fun w => !decide (w.at_ + s.g MEM_PROGCFG_PROGTO * 1000 ≤ s.elapsed))

/-- The CAN ports (R210-R219): a valid frame is counted and lowers the receive counter; a transmission ends with its status on its mailbox, fails into one
more try, or times out; the transmit counter past 255 is bus-off, and recovery clears both counters; an FD frame at a port without FDEN is in error. -/
def Obligations.CanPortsComplete : Prop :=
  (∀ s x w data lat, x < 8 → s.canOn x = true → s.vioOn x = true → wbit w 30 = true → s.on (CAN_PCFG_FDEN x) = false →
    s.g (CAN_PSTS_ERRSTATE x) = 0 → s.g (CAN_PCFG_OPMODE x) = 0 →
    exec (.canFrameReceived x w data lat) s = .next (({ s with out := .canDom x 6 :: s.out } : State).canErr x (s.can x).tec (min 255 ((s.can x).rec_ + 1)))) ∧
  (∀ s x w data lat, x < 8 → s.canOn x = true → s.vioOn x = true → (wbit w 30 = false ∨ s.on (CAN_PCFG_FDEN x) = true) → (s.can x).rec_ ≤ 127 →
    ∃ t, exec (.canFrameReceived x w data lat) s = .next t ∧ t.g (CAN_PRXOK x) = min (s.g (CAN_PRXOK x) + 1) (2 ^ 32 - 1) ∧
      (t.can x).rec_ = (s.can x).rec_ - 1 ∧ (t.can x).tec = (s.can x).tec ∧ (t.can x).pend = (s.can x).pend) ∧
  (∀ s x e lat f, x < 8 → s.canSends x = true → canFirst ((s.can x).pend.filter fun t => t.at_ + lat ≤ s.elapsed) = some f → f.mb < 64 →
    ∃ t, exec (.canTxDone x false e lat) s = .next t ∧ (t.can x).pend = (s.can x).pend.filter (fun u => u.mb != f.mb) ∧
      (t.can x).tec = (s.can x).tec - 1 ∧ t.on (CAN_MBSTS_PENDING x f.mb) = false ∧ t.g (CAN_MBSTS_STATUS x f.mb) = OK ∧
      t.g (CAN_PTXOK x) = min (s.g (CAN_PTXOK x) + 1) (2 ^ 32 - 1)) ∧
  (∀ s x lat f, x < 8 → s.canSends x = true → canFirst ((s.can x).pend.filter fun t => t.at_ + lat ≤ s.elapsed) = some f → f.retry = false →
    ∃ t, exec (.canTxDone x true false lat) s = .next t ∧ (t.can x).tec = (s.can x).tec + 8 ∧
      (t.can x).pend = (s.can x).pend.map fun u => if u.mb = f.mb then { u with retry := true } else u) ∧
  (∀ s x y f, x < 8 → y < 64 → (s.can x).pend.find? (fun t => t.mb == y) = some f → f.at_ + s.g (CAN_MBTXTO x y) * 1000000 ≤ s.elapsed →
    ∃ t, exec (.canTxTimeout x y) s = .next t ∧ (t.can x).pend = (s.can x).pend.filter (fun u => u.mb != y) ∧
      t.g (CAN_MBSTS_STATUS x y) = TIMEOUT ∧ t.on (CAN_MBSTS_PENDING x y) = false ∧
      t.g (CAN_PTXFAIL x) = min (s.g (CAN_PTXFAIL x) + 1) (2 ^ 32 - 1)) ∧
  (∀ s x, x < 8 → 256 ≤ (s.can x).tec → s.g (CAN_PSTS_ERRSTATE x) ≠ 2 → (s.can x).pend.all (fun f => decide (f.mb < 64)) = true →
    ∃ t, exec (.canBusOff x) s = .next t ∧ t.g (CAN_PSTS_ERRSTATE x) = 2 ∧ t.g (CAN_PSTS_RECOVERING x) = s.g (CAN_PCFG_AUTOREC x) ∧
      (t.can x).pend = []) ∧
  (∀ s x, x < 8 → s.on (CAN_PSTS_RECOVERING x) = true →
    ∃ t, exec (.canRecovered x) s = .next t ∧ t.g (CAN_PSTS_ERRSTATE x) = 0 ∧ t.g (CAN_PSTS_TEC x) = 0 ∧ t.g (CAN_PSTS_REC x) = 0 ∧
      t.on (CAN_PSTS_RECOVERING x) = false ∧ (t.can x).tec = 0 ∧ (t.can x).rec_ = 0) ∧
  (∀ s x v, x < 8 → s.Accepts rCAN_PCTL v → wbit v 0 = true → s.awake.g (CAN_PSTS_ERRSTATE x) = 2 →
    exec (.canRecover x v) s = .next (s.awake.f (CAN_PSTS_RECOVERING x) 1)) ∧
  (∀ s x v, x < 8 → s.Accepts rCAN_PFIFOPOP v → wbit v 0 = true →
    ∃ t, exec (.canFifoPop x v) s = .next t ∧ (t.can x).fifo = (s.awake.can x).fifo.drop 1 ∧ t = { s.awake with regs := t.regs, cans := t.cans }) ∧
  (∀ s x, x < 8 → s.on (CAN_PCFG_WAKEEN x) = true → s.canStandby x = true → s.vioOn x = true →
    exec (.canWake x) s = .next ((s.event (245 + x) s.ct).wakeReq 4)) ∧
  (∀ s x eight, x < 8 → s.canOn x = true →
    ∃ t, exec (.canBusError x eight) s = .next t ∧ (t.can x).rec_ = min 255 ((s.can x).rec_ + if eight then 8 else 1) ∧
      (t.can x).tec = (s.can x).tec ∧ t.g (CAN_PSTS_REC x) = (t.can x).rec_ ∧
      (127 < (t.can x).rec_ → t.g (CAN_PSTS_ERRSTATE x) = 1))

/-- j, marked started, is the descriptor that a command of opcode opc takes up, and no window of its tenant refused its data. -/
abbrev Sys2Proof.Machine.State.Takes (s : State) (opc : Nat) (j : JobS) : Prop :=
  j.started = true ∧ s.takeJob opc = some { j with started := false } ∧ j.winfail = false

/-- s with the descriptor of j marked started. -/
def Sys2Proof.Machine.State.begun (s : State) (j : JobS) : State := s.modJob j.id fun x => { x with started := true }

/-- No administration is under way that a tenant command would wait for. -/
abbrev Sys2Proof.Machine.State.TenFree (s : State) : Prop :=
  s.ten.dist = none ∧ s.rol.cur = none ∧ s.rol.xferAt = none ∧ s.rol.xfers = []

/-- Every other hub has a path, and this hub takes the item. -/
abbrev Sys2Proof.Machine.State.Spreads (s : State) (kind : Nat) (item : List Nat) : Prop :=
  (s.positions.filter fun p => p != s.pos).any (fun p => (s.routePort p).isNone) = false ∧ s.itemRefused kind item = none

/-- What spreading an item over the combination gives: with other hubs each is sent PREPARE and waited for; alone it takes effect at once. -/
def Sys2Proof.Machine.State.spread (s : State) (j : JobS) (kind : Nat) (item : List Nat) : State :=
  let others := s.positions.filter fun p => p != s.pos
  let gen := (s.rol.combgen + 1) % 2 ^ 32
  let s' : State := { s with ten := { s.ten with dist := some { job := j.id, kind := kind, gen := gen, item := item, wait := others } } }
  if others.isEmpty then s'.distCommit
  else others.foldl (fun s p => s.cfgSend cfPREPARE p ([kind, 0, 0, 0] ++ toLe 4 gen ++ item)) s'

/-- The end of a descriptor (R420, R421): its job is gone, and its command, where it was placed in this hub's ring, holds the outcome. -/
def Obligations.JobsFinish : Prop :=
  (∀ (s : State) (j : JobS) (o : DoneS), j.id.remote = false → o.status ≠ OK →
    (∀ k ∈ (s.finish j o).rng.jobs, k.id ≠ j.id) ∧ (s.finish j o).out = s.out ∧ (s.finish j o).regs = s.regs ∧
    (∀ c ∈ ((s.finish j o).tr j.id.tid).cmds, c.slot = j.id.ref → c.done = some { status := o.status })) ∧
  (∀ (s : State) (j : JobS) (o : DoneS), j.id.remote = false → o.status = OK →
    (∀ k ∈ (s.finish j o).rng.jobs, k.id ≠ j.id) ∧ (s.finish j o).out = s.out ∧ (s.finish j o).regs = s.regs ∧
    (∀ c ∈ ((s.finish j o).tr j.id.tid).cmds, c.slot = j.id.ref → c.done = some { o with retried := o.retried || j.retried }))

/-- Scheduler and serial, loop, CAN and node descriptors (R173, R216, R230, R232, R244, R264, R421): each that its checks pass has its effect and completes
with OK, or waits for what it asked. -/
def Obligations.FieldJobsComplete : Prop :=
  (∀ s j e, s.Takes 0x20 j → ((s.begun j).createCheck j.id.tid j.desc).toOption = some e →
    exec .schedCreate s = .next (((s.begun j).beginEnt e).finish j { status := OK, value := (s.begun j).schedHandle e.idx })) ∧
  (∀ s j e, s.Takes 0x21 j → ((s.begun j).entFor j.id.tid (dBody j.desc 0 4)).toOption = some e →
    exec .schedDestroy s = .next (((s.begun j).destroyEnt e.idx).finishWith j OK)) ∧
  (∀ s j e, s.Takes 0x22 j → ((s.begun j).passMissed.entFor j.id.tid (dBody j.desc 0 4)).toOption = some e →
    exec .schedQuery s = .next (((s.begun j).passMissed.modEnt e.idx fun e => { e with latepend := false }).finish j
      { status := OK, result := (s.begun j).passMissed.entBlock e })) ∧
  (∀ s j e, s.Takes 0x23 j → dBody j.desc 0 4 < 2 ^ 31 → ((s.begun j).entFor j.id.tid (dBody j.desc 0 4)).toOption = some e → e.kind = ekBURST →
    exec .schedTrigger s = .next (((s.begun j).trigger e.idx s.ct).finishWith j OK)) ∧
  (∀ s j e l, s.Takes 0x23 j → 2 ^ 31 ≤ dBody j.desc 0 4 → (s.begun j).members j.id.tid (dBody j.desc 0 4 % 256) = e :: l → e.kind = ekBURST →
    exec .schedTrigger s = .next (((s.begun j).triggerGroup j.id.tid (dBody j.desc 0 4 % 256) s.ct).finishWith j OK)) ∧
  (∀ s j e, s.Takes 0x30 j → dBody j.desc 0 1 < 16 → s.loopEp (dBody j.desc 0 1) = some e → s.owns j.id.tid e = true →
    (s.begun j).loopSetCheck (dBody j.desc 0 1) (dBody j.desc 4 4) = none →
    exec .loopSet s = .next (((s.begun j).loopStore (dBody j.desc 0 1) (dBody j.desc 4 4)).finishWith j OK)) ∧
  (∀ s j x y, s.Takes 0x32 j → x = dBody j.desc 0 1 → y = dBody j.desc 1 1 → x < 8 → y < 64 → s.owns j.id.tid (s.g (CAN_MBEP x y)) = true →
    canLenOk (s.on (CAN_MBCFG_FDF x y)) (dBody j.desc 2 1) = true → (s.can x).pend.any (fun t => t.mb == y) = false →
    s.g (CAN_PCFG_OPMODE x) ≠ 1 → s.on (CAN_PCFG_EN x) = true → s.g (CAN_MBCFG_MODE x y) = 2 →
    (s.on (CAN_MBCFG_FDF x y) = true → s.on (CAN_PCFG_FDEN x) = true) → s.canRuns x = true →
    ∃ t, exec .canSend s = .next t ∧ t.on (CAN_MBSTS_PENDING x y) = true ∧
      (∃ f, (t.can x).pend = (s.can x).pend ++ [f] ∧ f.mb = y ∧ f.job = j.id ∧ f.at_ = s.elapsed)) ∧
  (∀ s j n, s.Takes 0x31 j → n = dBody j.desc 0 2 → n < 1024 → s.serOwner j = none → (s.tpl n).isEmpty = false → dBody j.desc 2 2 ≤ 256 →
    s.serMaster (tpPort (s.tpl n)) = true → s.serRuns (tpPort (s.tpl n)) = true → (s.sp (tpPort (s.tpl n))).q.length < 16 →
    exec .serXfer s = .next ((s.begun j).serPut (tpPort (s.tpl n)) { tpl := n, job := some j.id, data := j.args, due := s.ct })) ∧
  (∀ s j b a c q, s.Takes 0x2C j → s.nodeIssuer j = none → 9 ≤ dBody j.desc 4 1 → dBody j.desc 4 1 ≤ 0x0C →
    (s.ep (dBody j.desc 0 4 % 131072)).src = srcCOURSE → s.busOf (s.ep (dBody j.desc 0 4 % 131072)).nodeid = some (b, a) →
    q = (if dBody j.desc 4 1 = 9 then toLe 2 (dBody j.desc 6 2) ++ toLe 2 (dBody j.desc 5 1)
      else if dBody j.desc 4 1 = 0x0A then toLe 2 (dBody j.desc 6 2) ++ toLe 2 (dBody j.desc 5 1) ++ padTo (dBody j.desc 5 1) j.args else []) →
    c = { opc := dBody j.desc 4 1, who := 2, job := some j.id, param := q } → 20 + replyLen c ≤ s.g (CRS_NSLOTLEN b a) →
    exec .nodeCmd s = .next ((s.begun j).nodeCmd b a c)) ∧
  (∀ s j, s.Takes 0x28 j → ((s.begun j).ep (dBody j.desc 0 4 % 131072)).src ≠ 0 →
    ((s.begun j).mayName j.id.tid (dBody j.desc 0 4 % 131072) = true ∨ isT0 j.id.tid = true) →
    exec .epQuery s = .next ((s.begun j).finish j { status := OK, result := (s.ep (dBody j.desc 0 4 % 131072)).pack }))

/-- Ring and stream descriptors (R421-R426, R429, R456, R457): each completes with the state of its ring or stream as the rules give it. -/
def Obligations.RingJobsComplete : Prop :=
  (∀ s j, s.Takes 0x01 j → exec .nop s = .next ((s.begun j).finishWith j OK)) ∧
  (∀ s j, s.Takes 0x02 j → exec .time s = .next ((s.begun j).finish j { status := OK, result := toLe 8 s.ct ++
    [s.g TIM_CTSTS_STATE, s.g TIM_CTSTS_UTC_VALID, 0, 0, 0, 0, 0, 0] ++ toLe 8 (s.g64 TIM_UTCOFSLO TIM_UTCOFSHI) })) ∧
  (∀ s j, s.Takes 0x10 j → (s.begun j).openFails j = none → exec .streamOpen s = .next ((s.begun j).passMissed.openStream j)) ∧
  (∀ s j st, s.Takes 0x11 j → s.openerCheck j = none → (s.begun j).streamAt j = some st →
    exec .streamClose s = .next (((s.begun j).closeStream st.slot clFLUSH).finishAfter j ((s.begun j).ctx st.tid).uid st.ring)) ∧
  (∀ s w j st, s.coreRuns = true → w = s.allMarks → w.Takes 0x12 j → s.openerCheck j = none → (w.begun j).streamAt j = some st →
    (j.id.remote = true ∨ ((w.begun j).cr st.tid st.ring).state = rsRUNNING) → dBody j.desc 8 8 ≤ w.ct →
    exec .mark s = .next ((((w.begun j).placeMark st.slot (dBody j.desc 4 4)).closeCask ((w.begun j).ctx st.tid).uid st.ring clFLUSH).finishAfter j
      ((w.begun j).ctx st.tid).uid st.ring)) ∧
  (∀ s w j st, s.coreRuns = true → w = s.allMarks → w.Takes 0x12 j → s.openerCheck j = none → (w.begun j).streamAt j = some st →
    (j.id.remote = true ∨ ((w.begun j).cr st.tid st.ring).state = rsRUNNING) → w.ct < dBody j.desc 8 8 →
    exec .mark s = .next ((w.begun j).modStream st.slot fun x => { x with marks := x.marks ++ [(dBody j.desc 8 8, dBody j.desc 4 4, j.id)] })) ∧
  (∀ s j t r, s.Takes 0x18 j → t = j.id.tid → r = dBody j.desc 0 1 → (s.cr t r).state = rsSTOPPED → 4 ≤ dBody j.desc 2 1 → dBody j.desc 2 1 ≤ 16 →
    256 ≤ dBody j.desc 4 4 → dBody j.desc 4 4 ≤ 65536 → 10 ≤ dBody j.desc 8 4 → dBody j.desc 8 4 ≤ 1000000 → 256 ≤ dBody j.desc 12 4 →
    dBody j.desc 12 4 ≤ dBody j.desc 4 4 → dBody j.desc 16 8 % 4096 = 0 → s.largestRec t r + 80 ≤ dBody j.desc 4 4 →
    (nbit (dBody j.desc 1 1) 0 = true → (s.ctx t).key ≠ []) →
    ∃ u, exec .ringStart s = .next u ∧ (u.cr t r).state = rsRUNNING ∧ (u.cr t r).ord = dBody j.desc 2 1 ∧ (u.cr t r).size = dBody j.desc 4 4 ∧
      (u.cr t r).age = dBody j.desc 8 4 ∧ (u.cr t r).cut = dBody j.desc 12 4 ∧ (u.cr t r).base = dBody j.desc 16 8 ∧
      (u.cr t r).sealed = nbit (dBody j.desc 1 1) 0 ∧ (u.cr t r).hub = 0 ∧ (u.cr t r).post = 0 ∧ (u.cr t r).ack = 0) ∧
  (∀ s j t r, s.Takes 0x18 j → t = j.id.tid → r = dBody j.desc 0 1 → (s.cr t r).state = rsSTOPPED → 4 ≤ dBody j.desc 2 1 → dBody j.desc 2 1 ≤ 16 →
    dBody j.desc 4 4 = 0 → dBody j.desc 8 4 = 0 → dBody j.desc 12 4 = 0 → dBody j.desc 16 8 % 4096 = 0 → s.largestRec t r + 80 ≤ 16384 →
    nbit (dBody j.desc 1 1) 0 = false →
    ∃ u, exec .ringStart s = .next u ∧ (u.cr t r).state = rsRUNNING ∧ (u.cr t r).size = 16384 ∧ (u.cr t r).age = 10000 ∧ (u.cr t r).cut = 1024) ∧
  (∀ s j w, s.Takes 0x19 j → ((s.begun j).cr j.id.tid (dBody j.desc 0 1)).state = rsRUNNING →
    w = (s.begun j).closeCask ((s.begun j).ctx j.id.tid).uid (dBody j.desc 0 1) clSTOP →
    exec .ringStop s = .next ((w.setCr j.id.tid (dBody j.desc 0 1) { w.cr j.id.tid (dBody j.desc 0 1) with stopping := some j.id }).rng.rings.keys.foldl
      (fun u t => (List.range 8).foldl (fun u r => u.stopRing t r) u)
      (w.setCr j.id.tid (dBody j.desc 0 1) { w.cr j.id.tid (dBody j.desc 0 1) with stopping := some j.id }))) ∧
  (∀ s j t r, s.Takes 0x1A j → t = j.id.tid → r = dBody j.desc 0 1 → (s.cr t r).state = rsHALTED → (s.cr t r).voidDue = false →
    ∃ u, exec .ringResume s = .next u ∧ u.cr t r = { s.cr t r with state := rsRUNNING, failed := false } ∧
      u = (((s.begun j).setCr t r { s.cr t r with state := rsRUNNING, failed := false, voidDue := false }).ringLevel t 3 false).finishWith j OK) ∧
  (∀ s j, s.Takes 0x1B j → ((s.begun j).cr j.id.tid (dBody j.desc 0 1)).state = rsRUNNING →
    exec .ringFlush s = .next (((s.begun j).closeCask j.uid (dBody j.desc 0 1) clFLUSH).finishWith j OK)) ∧
  (∀ s j q b, s.Takes 0x1C j → q = s.cr j.id.tid (dBody j.desc 0 1) →
    b = [q.state, b2n q.sealed, q.ord, 0] ++ toLe 4 q.size ++ toLe 8 q.nextSeq ++ toLe 4 q.lost ++
      toLe 4 ((s.rng.held.filter fun c => c.uid == j.uid && c.ring == dBody j.desc 0 1).map CaskS.len).sum ++ toLe 4 q.age ++ toLe 4 q.cut →
    exec .ringQuery s = .next ((s.begun j).finish j { status := OK, result := b }))

/-- Channel-processor and recognizer descriptors (R312, R319, R329, R353-R356): freeze, thaw and switch are taken for their instant; an instance is created,
destroyed, reset, given parameters and read; SYNC_AT arms this hub and sends the instant to the others. -/
def Obligations.EngineJobsComplete : Prop :=
  (∀ s j, s.Takes 0x38 j → s.mashOwner j = none → (s.begun j).mashCheck (dBody j.desc 0 2) (dBody j.desc 2 1) .freeze = none →
    exec .mashFreeze s = .next (((s.begun j).mashDo (dBody j.desc 0 2) (dBody j.desc 2 1) (dBody j.desc 8 8) .freeze).finishWith j OK)) ∧
  (∀ s j, s.Takes 0x39 j → s.mashOwner j = none → (s.begun j).mashCheck (dBody j.desc 0 2) (dBody j.desc 2 1) .thaw = none →
    exec .mashThaw s = .next (((s.begun j).mashDo (dBody j.desc 0 2) (dBody j.desc 2 1) (dBody j.desc 8 8) .thaw).finishWith j OK)) ∧
  (∀ s j c, s.Takes 0x3A j → c = MashCmd.switch (dBody j.desc 4 2) (dBody j.desc 3 1) → s.mashOwner j = none →
    (s.begun j).mashCheck (dBody j.desc 0 2) (dBody j.desc 2 1) c = none →
    exec .mashSwitch s = .next (((s.begun j).mashDo (dBody j.desc 0 2) (dBody j.desc 2 1) (dBody j.desc 8 8) c).finishWith j OK)) ∧
  (∀ s j, s.Takes 0x3B j → ((List.range 16).filter (nbit (dBody j.desc 0 2))).any (fun p => !(s.begun j).reachable p) = false →
    exec .syncAt s = .next ((((List.range 16).filter (nbit (dBody j.desc 0 2))).foldl (fun (u : State) p =>
      if p = u.pos then u.mashArm (dBody j.desc 8 8) else u.sendMsg clsSIGNAL 1 p (toLe 8 (dBody j.desc 8 8))) (s.begun j)).finishWith j OK)) ∧
  (∀ s j x n e, s.Takes 0x40 j → ((s.begun j).instCheck j.id.tid j.args).toOption = some (x, n, e) →
    ∃ t, exec .rcgCreate s = .next t ∧ (∃ y, t.inst n = some y ∧ y.owner = x.owner ∧ y.mt = x.mt) ∧ (t.ep e).src = srcRCGI ∧ (t.ep e).loc = n) ∧
  (∀ s j n x, s.Takes 0x41 j → (s.begun j).instFor j = some (n, x) → (j.id.tid = x.owner ∨ isT0 j.id.tid = true) →
    (s.begun j).feedsOther n x = false → exec .rcgDestroy s = .next (((s.begun j).endInst n).finishWith j OK)) ∧
  (∀ s j n x, s.Takes 0x42 j → (s.begun j).instFor j = some (n, x) → j.id.tid = x.owner →
    exec .rcgReset s = .next (((s.begun j).resetInst n).finishWith j OK)) ∧
  (∀ s j n x, s.Takes 0x43 j → (s.begun j).instFor j = some (n, x) → j.id.tid = x.owner →
    (List.range 16).any (fun k => decide (mtPars ((s.begun j).mtab x.mt) ≤ k) && leAt j.args (4 * k) 4 != 0) = false →
    ∃ t, exec .rcgSetpar s = .next t ∧
      (∃ y, t.inst n = some y ∧ y.pars = (List.range 16).map (fun k => signed 32 (leAt j.args (4 * k) 4)) ∧ y.state = x.state ∧ y.slots = x.slots)) ∧
  (∀ s j n x, s.Takes 0x44 j → (s.begun j).instFor j = some (n, x) → j.id.tid = x.owner →
    exec .rcgQuery s = .next (((s.begun j).modInst n fun x => { x with skipped := false, cascade := false }).finish j
      { status := OK, result := (s.begun j).instBlock x }))

/-- Tenant descriptors (R377, R378, R382, R385, R387, R394, R397, R398): each that passes its checks is spread over the combination, or changes the
leases or the key here. -/
def Obligations.TenantJobsComplete : Prop :=
  (∀ s j, s.TenFree → s.Takes 0x50 j → s.fromKeystone j.id.src j.id.tid = true → (s.begun j).createRefuses j.args = none →
    (s.begun j).Spreads 1 (j.args.take 64) → exec .tenCreate s = .next ((s.begun j).spread j 1 (j.args.take 64))) ∧
  (∀ s j, s.TenFree → s.Takes 0x51 j → s.fromKeystone j.id.src j.id.tid = true → (s.begun j).changeRefuses j.args = none →
    (s.begun j).Spreads 1 (j.args.take 64) → exec .tenChange s = .next ((s.begun j).spread j 1 (j.args.take 64))) ∧
  (∀ s w j, w = s.endAll → w.TenFree → w.Takes 0x52 j → w.fromKeystone j.id.src j.id.tid = true →
    (w.begun j).endRefuses (dBody j.desc 0 2) = none → (w.begun j).Spreads 3 (toLe 2 (dBody j.desc 0 2) ++ [dBody j.desc 2 1]) →
    exec .tenDestroy s = .next ((w.begun j).spread j 3 (toLe 2 (dBody j.desc 0 2) ++ [dBody j.desc 2 1]))) ∧
  (∀ s w j, w = s.endAll → w.TenFree → w.Takes 0x53 j → (isT0 j.id.tid = true → w.fromKeystone j.id.src j.id.tid = true) →
    (w.begun j).endRefuses (dBody j.desc 0 2) = none → (w.begun j).Spreads 4 (toLe 2 (dBody j.desc 0 2) ++ [0]) →
    exec .tenReset s = .next ((w.begun j).spread j 4 (toLe 2 (dBody j.desc 0 2) ++ [0]))) ∧
  (∀ s j b, s.TenFree → s.Takes 0x54 j → s.fromKeystone j.id.src j.id.tid = true → b = (List.range 24).map (fun k => dBody j.desc k 1) →
    (s.begun j).bindFails b = none → (s.begun j).Spreads 2 b → exec .bind s = .next ((s.begun j).spread j 2 b)) ∧
  (∀ s j, s.Takes 0x55 j → (isT0 j.id.tid && !s.fromKeystone j.id.src j.id.tid) = false → (s.begun j).grantFails j = none →
    ∃ t, exec .leaseGrant s = .next t ∧ t.ten.leases = s.ten.leases ++ [{
      idx := freeLease s.ten.leases, grantor := j.id.tid,
      first := dBody j.desc 0 4, count := dBody j.desc 4 4, grantee := dBody j.desc 8 2, expires := dBody j.desc 16 8 }]) ∧
  (∀ s j l, s.Takes 0x56 j → s.leaseFor j = some l →
    (l.grantor = j.id.tid ∨ l.grantee = j.id.tid ∨ s.fromKeystone j.id.src j.id.tid = true) →
    exec .leaseRevoke s = .next ((s.begun j).endLease l.idx (if l.grantee = j.id.tid then 5 else 1) (some j.id))) ∧
  (∀ s j key gen, s.Takes 0x57 j → key = (List.range 16).map (fun k => dBody j.desc k 1) → gen = dBody j.desc 16 1 → key.all (fun b => b == 0) = false →
    gen ≠ 0 → gen ≠ (s.ctx j.id.tid).keygen → s.on NVS_RGN3_WORN = false →
    ∃ t, exec .setKey s = .next t ∧ t.nvs = s.nvs.push { region := 3, lblk := 0, what := .key (s.ctx j.id.tid).uid gen key j.id } ∧
      t.ten = s.ten)

/-- Instants of the poll scheduler (R237, R240, R241, R250, R260): the commit point fixes a cycle's plan of at most 8 sample times; a serial instant goes to
its port's queue; a wheel instant reads its monitor; runs and polls not served in time end; a remote command is sent once more, then times out. -/
def Obligations.SchedulerInstantsComplete : Prop :=
  (∀ s b c, b < 64 → s.nextStart b = some c → s.coreRuns = true → s.watchRuns = false → s.on (CRS_BCFG_EN b) = true →
    s.on (CRS_BSTS_SEGOFF b) = false → c ≤ s.ct + 8000 → (s.bus b).plan.map Prod.fst ≠ some c → s.sys.entry = none →
    ∃ t, exec (.commitPoint b) s = .next t ∧ (∃ p, (t.bus b).plan = some p ∧ p.1 = c ∧ p.2.length ≤ 8)) ∧
  (∀ s idx e n u tag, s.ent idx = some e → s.entDue e exSERIAL 2000 = true → e.next = some n → s.ct ≤ n →
    s.serRuns (tpPort (s.tpl e.target)) = true → s.commitInst e n 0 0 = (u, some tag) →
    exec (.serialPlacement idx) s = .next ((u.placeRun { port := tpPort (s.tpl e.target), at_ := n, cls := e.cls, tpl := e.target, tag := tag,
                                                         due := u.elapsed + (n - u.ct) + 10000 * u.g PSC_CFG_SERLATE }).reachCut idx)) ∧
  (∀ s x, x < 8 → s.psc.held = [] → ((s.sp x).q.filter fun k => k.at_.isSome && !k.retry && decide (k.due < s.elapsed)) = [] →
    exec (.serlateExpiry x) s = .next (s.setSp x (s.sp x))) ∧
  (∀ s x q tag, x < 8 → s.psc.held = [] → ((s.sp x).q.filter fun k => k.at_.isSome && !k.retry && decide (k.due < s.elapsed)) = [q] →
    q.tags = [tag] → (s.psc.txns.find? fun t => t.tag == tag) = none →
    ∃ t, exec (.serlateExpiry x) s = .next t ∧ (t.sp x).q = (s.sp x).q.filter (fun k => k != q)) ∧
  (∀ s idx e n u, s.ent idx = some e → s.watchRuns = false → s.entDue e exWHEEL 0 = true → e.next = some n → s.ct ≤ n + 1 →
    (s.psc.ents.filter fun x => s.entDue x exWHEEL 0 && x.target == e.target) = [e] → u = (s.commitInst e n 0 0).1.reachCut e.idx →
    u.polled e.target n = true →
    exec (.wheelInstant idx) s = .next ((u.enqueueRaw { ep := e.target, src := srcWHEEL, loc := (u.ep e.target).loc, ct := n,
                                                        bytes := u.wheelRaw (u.ep e.target).loc n,
                                                        flags := flagIf (u.flagsAt n) fBURST (u.burstPoll e.target n) }).pollGot e.target n false)) ∧
  (∀ s b c, b < 64 → (s.bus b).cur = some c → c.at_ + 10 * s.spareEnd b ≤ s.elapsed →
    exec (.courseDeadline b) s = .next ((s.psc.txns.filter fun (t : TxnS) => t.bus == b && t.src == exCOURSE).filter (fun (t : TxnS) =>
      t.cyc != c.ref && ((s.bus b).plan.map Prod.fst) != some t.cyc) |>.foldl State.txnDue s)) ∧
  (∀ s b, b < 64 → (s.bus b).cur = none →
    exec (.courseDeadline b) s = .next ((s.psc.txns.filter fun (t : TxnS) => t.bus == b && t.src == exCOURSE).filter (fun (t : TxnS) =>
      ((s.bus b).plan.map Prod.fst) != some t.cyc) |>.foldl State.txnDue s)) ∧
  (∀ s tag r, (s.rng.rems.find? fun k => k.tag == tag) = some r → r.at_ + 1000000 * s.g PSC_CFG_REMTMO ≤ s.elapsed → r.resent = true →
    exec (.remoteCommandTimeout tag) s = .next ((({ s with rng := { s.rng with rems := s.rng.rems.filter fun x => x.tag != tag } } : State).dropTag tag).remDone
      r.tid r.slot { status := TIMEOUT })) ∧
  (∀ s tag r, (s.rng.rems.find? fun k => k.tag == tag) = some r → r.at_ + 1000000 * s.g PSC_CFG_REMTMO ≤ s.elapsed → r.resent = false →
    ((s.tr r.tid).cmds.find? fun c => c.slot == r.slot) = none →
    exec (.remoteCommandTimeout tag) s = .next ((({ s with rng := { s.rng with
      rems := s.rng.rems.map fun (x : RemS) => if x.tag = tag then { x with at_ := s.elapsed, resent := true } else x } } : State).sendMsg clsCMD 1 r.dst r.body).inc
      PSC_REMRESEND))

/-- The endpoint tables (R280, R294-R299, R301, R304, R615): a load begins, ends in READY or in EMPTY with its reason, or is stored; a switch is armed,
cancelled, takes effect and retires its old bank; a raw value at the head of the queue is decoded. -/
def Obligations.EndpointTablesComplete : Prop :=
  (∀ s src, src = 1 ∨ src = 2 → s.Accepts rEPT_LDCTL (Word.ofNat (16 + src)) → s.awake.loadRefused = none →
    ∃ t, exec (.tableLoadGo src) s = .next t ∧ t.sw = swLOADING ∧ t.ept.load = some { src := src } ∧ t.ept.staged = [] ∧
      t = { s.awake with regs := t.regs, ept := t.ept }) ∧
  (∀ s j, s.Takes 0x60 j → s.loadIssuer j = none → s.loadRefused = none →
    ∃ t, exec .tableLoad s = .next t ∧ t.sw = swLOADING ∧ t.ept.load = some { src := 0, image := j.args, job := some j.id }) ∧
  (∀ s l b, s.ept.load = some l → s.coreRuns = true → s.sw = swLOADING → l.job = none → (l.src ≠ 1 ∨ s.mem.run = none) →
    ∃ t, exec (.tableLoadDone false b) s = .next t ∧ t.sw = swEMPTY ∧ t.g EPT_SWSTS_LDREASON = 0xB ∧ t.ept.load = none ∧ t.ept.staged = []) ∧
  (∀ s l b u, s.ept.load = some l → s.coreRuns = true → s.sw = swLOADING → (l.src ≠ 1 ∨ s.mem.run = none) →
    u = ({ s with ept := { s.ept with load := none } } : State).loadErr l b →
    u.imgFails (u.loadBytes l b).1 (u.loadBytes l b).2 = none →
    ∃ t, exec (.tableLoadDone true b) s = .next t ∧ t.sw = swREADY ∧ t.g EPT_SWSTS_LDREASON = 0 ∧ t.ept.load = none ∧
      t.ept.staged = padTo (leAt (u.loadBytes l b).1 8 4) (u.loadBytes l b).1) ∧
  (∀ s, s.Accepts rEPT_LDCTL 0x20#32 → s.awake.sw = swREADY → leAt s.awake.ept.staged 8 4 ≤ tablesSize →
    exec .tableStore s = .next (s.awake.f EPT_SWSTS_STATE swSTORING).showNvs) ∧
  (∀ s, s.sw = swSTORING → s.coreRuns = true → nbit (s.g NVS_STS_WORN) 2 = false →
    ∃ t, exec (.tableStoreDone true) s = .next t ∧ t.sw = swREADY ∧ t.ept.tablesImg = s.ept.staged ∧ t.g EPT_SWSTS_LDREASON = 0) ∧
  (∀ s, s.sw = swSTORING → s.coreRuns = true →
    ∃ t, exec (.tableStoreDone false) s = .next t ∧ t.sw = swREADY ∧ t.ept.tablesImg = s.ept.tablesImg ∧ t.ept.staged = s.ept.staged ∧ t.rgnWorn 2 = true) ∧
  (∀ s, s.Accepts rEPT_LDCTL 0x40#32 → s.awake.sw = swREADY →
    ∃ t, exec .tableDiscard s = .next t ∧ t.sw = swEMPTY ∧ t.ept.staged = [] ∧ t = { s.awake with regs := t.regs, ept := t.ept }) ∧
  (∀ s, s.Accepts rEPT_SWCTL 1#32 → s.awake.sw = swREADY → s.awake.imgRefs s.awake.ept.staged = none → s.awake.ct < s.awake.ept.swReg →
    ∃ t, exec (.switchArm false) s = .next t ∧ t.sw = swPENDING ∧ t.ept.swct = s.awake.ept.swReg ∧ t.ept.staged = s.awake.ept.staged ∧
      t = { s.awake with regs := t.regs, ept := t.ept }) ∧
  (∀ s, s.Accepts rEPT_SWCTL 3#32 → s.awake.sw = swREADY → s.awake.imgRefs s.awake.ept.staged = none →
    ∃ t, exec (.switchArm true) s = .next t ∧ t.sw = swRETIRING ∧ t.ept.active = s.awake.ept.staged ∧ t.ept.old = s.awake.ept.active ∧
      t.ept.swct = s.awake.ct) ∧
  (∀ s, s.Accepts rEPT_SWCTL 4#32 → s.awake.sw = swPENDING → exec .switchCancel s = .next (s.awake.f EPT_SWSTS_STATE swREADY)) ∧
  (∀ s, s.sw = swPENDING → s.coreRuns = true → s.ept.swct ≤ s.ct →
    ∃ t, exec .switchEffect s = .next t ∧ t.sw = swRETIRING ∧ t.ept.active = s.ept.staged ∧ t.ept.old = s.ept.active ∧ t.ept.staged = [] ∧
      (s.ept.swct + 1 < s.ct → t.on EPT_SWSTS_LATE = true)) ∧
  (∀ s, s.sw = swRETIRING → s.coreRuns = true → s.ept.retireAt ≤ s.elapsed →
    ∃ t, exec .bankRetire s = .next t ∧ t.sw = swEMPTY ∧ t.on EPT_SWSTS_DONE = true ∧ t.ept.old = [] ∧ t.ept.oldRecs = []) ∧
  (∀ s x q, s.decRuns = true → s.coreRuns = false → s.ept.queue = x :: q →
    exec .decode s = .next ((({ s with ept := { s.ept with queue := q } } : State).decodeRaw x).drainStreams)) ∧
  (∀ s x q, s.decRuns = true → s.coreRuns = true → s.drainSlaves.ept.queue = x :: q →
    exec .decode s = .next ((({ s.drainSlaves with ept := { s.drainSlaves.ept with queue := q } } : State).decodeRaw x).drainStreams))

/-- The channel processors' and recognizers' commands (R309, R312, R319, R328-R330, R344, R357, R358): an engine takes its oldest input; freeze, thaw and
switch are taken; a sync is given, armed, disarmed, and falls due; a time condition pushes its trigger and the oldest trigger makes its step. -/
def Obligations.EnginesComplete : Prop :=
  (∀ s x m q bit, s.coreRuns = true → (s.eng x).q = m :: q →
    exec (.mashInput x 32 bit) s = .next (((s.setEng x { s.eng x with q := q }).mashOne m).refill x)) ∧
  (∀ s x l bit, s.coreRuns = true → l < 32 → exec (.mashInput x l bit) s = .next ((s.loopBit l bit).engineRun x)) ∧
  (∀ s c k, c < 8192 → k < 8 → s.Accepts rMSH_CHCTL (Word.ofNat (2 ^ 29 + k * 2 ^ 26 + c)) → s.awake.mashCheck c k .freeze = none →
    ∃ t, exec (.chctlFreeze c k) s = .next t ∧ t.ch c = { s.awake.ch c with cmds := (s.awake.ch c).cmds ++ [(true, 0, false)] } ∧
      (∀ d, d ≠ c → t.ch d = s.awake.ch d) ∧ t = { s.awake with msh := t.msh }) ∧
  (∀ s c k, c < 8192 → k < 8 → s.Accepts rMSH_CHCTL (Word.ofNat (2 ^ 30 + k * 2 ^ 26 + c)) → s.awake.mashCheck c k .thaw = none →
    ∃ t, exec (.chctlThaw c k) s = .next t ∧ t.ch c = { s.awake.ch c with cmds := (s.awake.ch c).cmds ++ [(false, 0, false)] } ∧
      (∀ d, d ≠ c → t.ch d = s.awake.ch d) ∧ t = { s.awake with msh := t.msh }) ∧
  (∀ s c k xf n, c < 8192 → k < 8 → xf < 16 → n < 512 →
    s.Accepts rMSH_CHCTL (Word.ofNat (2 ^ 31 + k * 2 ^ 26 + xf * 2 ^ 22 + n * 2 ^ 13 + c)) → s.awake.mashCheck c k (.switch n xf) = none →
    ∃ t, exec (.chctlSwitch c k xf n) s = .next t ∧
      t.ch c = { s.awake.ch c with stgs := modAt (fun g => { g with sw := some (n, xf, 0) }) k (s.awake.ch c).stgs } ∧
      (∀ d, d ≠ c → t.ch d = s.awake.ch d) ∧ t = { s.awake with msh := t.msh }) ∧
  (∀ s, s.Accepts rMSH_SYNCCTL 1#32 →
    ∃ t, exec .syncNow s = .next t ∧ t = s.awake.mashSync s.awake.ct ∧ t.g64 MSH_SYNCLASTLO MSH_SYNCLASTHI = s.awake.ct) ∧
  (∀ s, s.Accepts rMSH_SYNCCTL 2#32 →
    ∃ t, exec .syncArm s = .next t ∧ t.msh.armed = some (s.awake.g64 MSH_SYNCCTLO MSH_SYNCCTHI) ∧ t.on MSH_SYNCSTS_ARMED = true ∧
      (s.awake.g64 MSH_SYNCCTLO MSH_SYNCCTHI < s.awake.ct → t.on MSH_SYNCSTS_LATE = true) ∧ t = { s.awake with regs := t.regs, msh := t.msh }) ∧
  (∀ s, s.Accepts rMSH_SYNCCTL 4#32 →
    ∃ t, exec .syncDisarm s = .next t ∧ t.msh.armed = none ∧ t.on MSH_SYNCSTS_ARMED = false ∧ t = { s.awake with regs := t.regs, msh := t.msh }) ∧
  (∀ s n, s.msh.armed = some n → s.coreRuns = true → n ≤ s.ct →
    ∃ t, exec .armedSync s = .next t ∧ t.msh.armed = none ∧ t.on MSH_SYNCSTS_ARMED = false ∧ t.g64 MSH_SYNCLASTLO MSH_SYNCLASTHI = n) ∧
  (∀ s, s.g MSH_SYNCPER_PER ≠ 0 → s.coreRuns = true → s.msh.lastPer.getD 0 < s.ct / s.g MSH_SYNCPER_PER * s.g MSH_SYNCPER_PER →
    ∃ t, exec .periodicSync s = .next t ∧ t.msh.lastPer = some (s.ct / s.g MSH_SYNCPER_PER * s.g MSH_SYNCPER_PER) ∧
      t.g64 MSH_SYNCLASTLO MSH_SYNCLASTHI = s.ct / s.g MSH_SYNCPER_PER * s.g MSH_SYNCPER_PER) ∧
  (∀ s n x i, s.inst n = some x → s.decRuns = true → x.mode = (if s.watchRuns then 2 else 0) →
    ((timedConds (s.mtab x.mt) x.state).filter fun k => !x.timed.contains k && decide (x.dueAt (mtCd (s.mtab x.mt) k) ≤ s.elapsed)) = [i] →
    ∃ t, exec (.rcgTimeTrigger n) s = .next t ∧
      t.rcg.queue = s.rcg.queue ++ [{ inst := n, kind := .time, ct := (x.dueAt (mtCd (s.mtab x.mt) i) + s.time.stepSum).toNat }] ∧
      t = { s with rcg := t.rcg }) ∧
  (∀ s t q x, s.rcg.queue = t :: q → s.decRuns = true → (({ s with rcg := { s.rcg with queue := q } } : State).rcgOwed).inst t.inst = some x →
    x.mode = (if s.watchRuns then 2 else 0) →
    exec .recognizerStep s = .next ((({ s with rcg := { s.rcg with queue := q } } : State).rcgOwed).rcgStep t false)) ∧
  (∀ s idx l, s.lease idx = some l → s.coreRuns = true → l.expires ≠ 0 → l.expires ≤ s.ct →
    exec (.leaseExpiry idx) s = .next (s.endLease idx 2 none)) ∧
  (∀ s idx l, s.lease idx = some l → l.ended.isSome = true → s.leaseReady l = true → exec (.leaseEndAck idx) s = .next (s.leaseClose l))

/-- A doorbell page of tenant t acts: the rings' clock runs, no entry to another power state is under way, t is served here, and the core runs. -/
abbrev Sys2Proof.Machine.State.Bells (s : State) (t : Nat) : Prop :=
  s.awake.stopped RNG_ERRSTS = false ∧ s.awake.sys.entry = none ∧ s.awake.served t = true ∧ s.awake.coreRuns = true

/-- A ring that doorbells move: RUNNING or HALTED. -/
abbrev Sys2Proof.Machine.ringLive (st : Nat) : Prop := st = rsRUNNING ∨ st = rsHALTED

/-- Doorbells (R408, R415): an index below the ring's size becomes the host's index; one at or past it is refused and latched; CTL resumes a halted ring or
clears DBERR. -/
def Obligations.DoorbellsComplete : Prop :=
  (∀ s t v, t < 1024 → s.Bells t → ringLive (s.awake.tr t).cmd.state → v.toNat < 65536 → v.toNat < ringSize (s.awake.tr t).cmd.ord →
    ∃ u, exec (.cmdtail t v) s = .next u ∧ (u.tr t).cmd = { (s.awake.tr t).cmd with host := v.toNat } ∧ (∀ k, k ≠ t → u.tr k = s.awake.tr k) ∧
      u = { s.awake with rng := u.rng }) ∧
  (∀ s t v, t < 1024 → s.Bells t → ringLive (s.awake.tr t).cmd.state → v.toNat < 65536 → ringSize (s.awake.tr t).cmd.ord ≤ v.toNat →
    ∃ u, exec (.cmdtail t v) s = .next u ∧ (u.tr t).dberr = true ∧ (u.tr t).cmd = (s.awake.tr t).cmd ∧
      u.g RNG_DBERR = min (s.awake.g RNG_DBERR + 1) (2 ^ 32 - 1)) ∧
  (∀ s t v, t < 1024 → s.Bells t → ringLive (s.awake.tr t).cpl.state → v.toNat < 65536 → v.toNat < ringSize (s.awake.tr t).cpl.ord →
    ∃ u, exec (.cplhead t v) s = .next u ∧ (u.tr t).cpl = { (s.awake.tr t).cpl with host := v.toNat } ∧ (u.tr t).cmds = (s.awake.tr t).cmds) ∧
  (∀ s t v, t < 1024 → s.Bells t → ringLive (s.awake.tr t).evt.state → v.toNat < 65536 → v.toNat < ringSize (s.awake.tr t).evt.ord →
    ∃ u, exec (.evthead t v) s = .next u ∧ (u.tr t).evt = { (s.awake.tr t).evt with host := v.toNat } ∧ (u.tr t).evq = (s.awake.tr t).evq) ∧
  (∀ s t v, t < 1024 → s.Bells t → (v ||| 1#32).toNat < 16 → (s.awake.tr t).cmd.state = rsHALTED →
    ∃ u, exec (.resumecmd t v) s = .next u ∧ (u.tr t).cmd = { (s.awake.tr t).cmd with state := rsRUNNING, failed := false }) ∧
  (∀ s t v, t < 1024 → s.Bells t → (v ||| 2#32).toNat < 16 → (s.awake.tr t).cpl.state = rsHALTED →
    ∃ u, exec (.resumecpl t v) s = .next u ∧ (u.tr t).cpl.state = rsRUNNING ∧ (u.tr t).cpl.failed = false) ∧
  (∀ s t v, t < 1024 → s.Bells t → (v ||| 4#32).toNat < 16 → (s.awake.tr t).evt.state = rsHALTED →
    ∃ u, exec (.resumeevt t v) s = .next u ∧ (u.tr t).evt.state = rsRUNNING ∧ (u.tr t).evt.failed = false) ∧
  (∀ s t v, t < 1024 → s.Bells t → (v ||| 8#32).toNat < 16 → ∃ u, exec (.clrdberr t v) s = .next u ∧ (u.tr t).dberr = false) ∧
  (∀ s t r v, t < 1024 → r < 8 → s.Bells t → ringLive (s.awake.cr t r).state → v.toNat < 65536 → v.toNat < ringSize (s.awake.cr t r).ord →
    ∃ u, exec (.post t r v) s = .next u ∧ u.cr t r = { s.awake.cr t r with post := v.toNat } ∧ u = { s.awake with rng := u.rng }) ∧
  (∀ s t r v, t < 1024 → r < 8 → s.Bells t → ringLive (s.awake.cr t r).state → v.toNat < 65536 → v.toNat < ringSize (s.awake.cr t r).ord →
    ∃ u, exec (.ack t r v) s = .next u ∧ u.cr t r = { s.awake.cr t r with ack := v.toNat })

/-- The rings' transfers (R414, R418, R419, R429, R431, R439): a descriptor read is taken up and moves the hub's index; a completion is written and its
confirming read frees the slot; reads hold what they brought; a cask closes at its age, is placed, and records are written in order. -/
def Obligations.RingTransfersComplete : Prop :=
  (∀ s t d re, t < 1024 → (s.tr t).fetched = some (d, re) → s.mayFetch t = true →
    ∃ u, exec (.commandFetch t) s = .next u ∧ (u.tr t).fetched = none ∧
      (u.tr t).cmd = { (s.tr t).cmd with hub := ((s.tr t).cmd.hub + 1) % ringSize (s.tr t).cmd.ord } ∧
      (u.tr t).draining = (dOpc d == 0x53 && dBody d 0 2 == t && t != 0)) ∧
  (∀ s t c rest o own, t < 1024 → (s.tr t).cmds = c :: rest → c.done = some o → (s.tr t).cpl.state = rsRUNNING → (s.tr t).cplPend = none →
    (s.tr t).cpl.full = false → s.cmdDone t c = true → s.icuRuns = true → c.res ≠ 1 → (dRes c.desc = 0 ∨ o.status ≠ OK ∨ o.result = [] ∨ 2 ≤ c.res) →
    own = (dOpc c.desc == 0x53 && dBody c.desc 0 2 == t) →
    exec (.completionWrite t) s = .next ((((s.setTr t { s.tr t with
      cmds := rest, cplPend := some (cplBytes c o), draining := (s.tr t).draining && !(own && o.status != OK) }).writeCpl t).issue t).cmdDrained t)) ∧
  (∀ s t b, s.coreRuns = true → t < 1024 → (s.tr t).cplPend = some b → (s.tr t).cpl.state = rsRUNNING →
    ∃ u, exec (.dmaWriteConfirmed t 0 true) s = .next u ∧ (u.tr t).cplPend = none ∧ (u.tr t).cpl = { (s.tr t).cpl with failed := false }) ∧
  (∀ s t b, s.coreRuns = true → t < 1024 → (s.tr t).cplPend = some b → (s.tr t).cpl.state = rsRUNNING → (s.tr t).cpl.failed = true →
    ∃ u, exec (.dmaWriteConfirmed t 0 false) s = .next u ∧ (u.tr t).cpl = { (s.tr t).cpl.back with failed := false, state := rsHALTED }) ∧
  (∀ s t e, s.coreRuns = true → t < 1024 → (s.tr t).evPend = some e → (s.tr t).evt.state = rsRUNNING →
    ∃ u, exec (.dmaWriteConfirmed t 1 true) s = .next u ∧ (u.tr t).evPend = none ∧ (u.tr t).evt = { (s.tr t).evt with failed := false }) ∧
  (∀ s t c, s.coreRuns = true → t < 1024 → ((s.tr t).cmds.find? fun k => k.res == 1) = some c →
    exec (.dmaWriteConfirmed t 2 true) s = .next ((if c.resFailed then s.inc RNG_DMARETRY else s).modCmd t c.slot fun k =>
      { k with res := 2, retried := k.retried || c.resFailed })) ∧
  (∀ s t b, t < 1024 → s.mayFetch t = true → (s.tr t).fetched = none →
    ∃ u, exec (.dmaReadDone t 0 0 true b) s = .next u ∧ (u.tr t).fetched = some (padTo 64 b, (s.tr t).cmd.failed) ∧
      (u.tr t).cmd = { (s.tr t).cmd with failed := false }) ∧
  (∀ s t b, t < 1024 → s.mayFetch t = true → (s.tr t).fetched = none → (s.tr t).cmd.failed = true →
    ∃ u, exec (.dmaReadDone t 0 0 false b) s = .next u ∧ (u.tr t).cmd = { (s.tr t).cmd with failed := false, state := rsHALTED }) ∧
  (∀ s t r b, s.coreRuns = true → t < 1024 → r < 8 → (s.cr t r).state = rsRUNNING → (s.cr t r).hub ≠ (s.cr t r).post → (s.cr t r).entry = none →
    ∃ u, exec (.dmaReadDone t (8 + r) 0 true b) s = .next u ∧ u.cr t r = { s.cr t r with entry := some (padTo 16 b), failed := false }) ∧
  (∀ s uid ring c, s.openCask uid ring = some c → c.at_ + 1000 * (s.closeRule uid ring).2 ≤ s.elapsed → s.coreRuns = true →
    exec (.caskAgeExpiry uid ring) s = .next (s.closeCask uid ring clAGE)) ∧
  (∀ s t r e c c', t < 1024 → r < 8 → (s.cr t r).state = rsRUNNING → (s.cr t r).place = 0 → (s.cr t r).hub ≠ (s.cr t r).post → s.icuRuns = true →
    s.homed t = true → (s.cr t r).entry = some e → s.heldFirst t r = some c → s.entryBad t r e = none → (s.declareHeld t c).heldFirst t r = some c' →
    ∃ u, exec (.caskPlacement t r) s = .next u ∧ (u.cr t r).place = 1 ∧ (u.cr t r).hub = (s.cr t r).hub ∧ (u.cr t r).entry = some e) ∧
  (∀ s t e rest, t < 1024 → (s.tr t).evt.state = rsRUNNING → (s.tr t).evPend = none → (s.tr t).evt.full = false → s.icuRuns = true →
    (s.tr t).evLost = 0 → (s.tr t).evq = e :: rest → s.evReady t e = true →
    exec (.eventRecordWrite t) s = .next (((s.setTr t { s.tr t with evPend := some e, evq := rest }).writeEv t).journalEv e)) ∧
  (∀ s t e, t < 1024 → (s.tr t).evt.state = rsRUNNING → (s.tr t).evPend = none → (s.tr t).evt.full = false → s.icuRuns = true →
    0 < (s.tr t).evLost → (s.tr t).evq = [] → e = { s.mkEv 0 0 (s.tr t).evLostCt (s.tr t).evLost 0 0 0 with flags := 0 } →
    exec (.eventRecordWrite t) s = .next ((s.setTr t { s.tr t with evPend := some e, evLost := 0 }).writeEv t)) ∧
  (∀ s a b, a = s.ten.leases.foldl State.leaseGiveUp s → b = a.rng.rings.keys.foldl (fun u t => (u.tr t).cmds.foldl (fun u c => u.closeGiveUp t c) u) a →
    exec .caskValidTimeout s = .next (b.rng.jobs.foldl State.jobGiveUp b))

/-- The interrupt controller's target pages, latches and forces (R536, R539, R542, R543, R545, R548): a claim takes the selected source and stacks it; an
EOI of the running source unstacks it; latches clear by writing 1; a source is forced in TEST; an unmasked entry sends what it held. -/
def Obligations.InterruptCommandsComplete : Prop :=
  (∀ s k n, k < 32 → s.awake.stopped ICU_ERRSTS = false → s.awake.on ICU_CFG_GDIS = false → s.awake.on (ICU_TGT_EN k) = true →
    s.awake.selected k = some n →
    ∃ t, exec (.claim k) s = .next t ∧ t.rdata = claimWord n (s.awake.src n).prio OK ∧ (t.src n).active = true ∧
      (t.tgt k).stack = (n, (s.awake.src n).prio) :: (s.awake.tgt k).stack) ∧
  (∀ s k, k < 32 → s.awake.stopped ICU_ERRSTS = false → s.awake.on ICU_CFG_GDIS = false → s.awake.on (ICU_TGT_EN k) = true →
    s.awake.selected k = none →
    ∃ t, exec (.claim k) s = .next t ∧ t.rdata = claimWord 0xFFFF 0 NOT_IN_STATE ∧
      t.g ICU_SPURIOUS = min (s.awake.g ICU_SPURIOUS + 1) (2 ^ 32 - 1) ∧ t = { s.awake with regs := t.regs, rdata := t.rdata }) ∧
  (∀ s k v p rest, k < 32 → s.awake.stopped ICU_ERRSTS = false → (s.awake.tgt k).stack = (v.toNat, p) :: rest →
    ∃ t, exec (.eoi k v) s = .next t ∧ (t.tgt k).stack = rest ∧ (t.src v.toNat).active = false) ∧
  (∀ s k v, k < 32 → s.awake.stopped ICU_ERRSTS = false → ((s.awake.tgt k).stack.head?.map Prod.fst) ≠ some v.toNat →
    ∃ t, exec (.eoi k v) s = .next t ∧ (t.tgt k).stack = (s.awake.tgt k).stack ∧ (t.tgt k).lastErr = NOT_IN_STATE ∧
      t.g ICU_EOIERR = min (s.awake.g ICU_EOIERR + 1) (2 ^ 32 - 1)) ∧
  (∀ s v, s.Accepts rICU_HUBLATLO v →
    ∃ t, exec (.hubLatchClear false v) s = .next t ∧ t = (s.awake.store rICU_HUBLATLO 0 0 v).settle ∧
      (s.awake.store rICU_HUBLATLO 0 0 v).rd rICU_HUBLATLO.off = s.awake.rd rICU_HUBLATLO.off &&& ~~~v) ∧
  (∀ s v, s.Accepts rICU_HUBLATHI v → ∃ t, exec (.hubLatchClear true v) s = .next t ∧ t = (s.awake.store rICU_HUBLATHI 0 0 v).settle) ∧
  (∀ s v, s.Accepts rICU_HUBSET v → wbit v 0 = true → exec (.hubset v) s = .next (s.awake.raiseHub srcSOFT)) ∧
  (∀ s n, n < 8192 → s.Accepts rICU_FORCE (Word.ofNat (2 ^ 31 + n)) → s.awake.g ICU_CFG_MODE = 2 →
    ∃ t, exec (.forceSet n) s = .next t ∧ (t.src n).force = true) ∧
  (∀ s n, n < 8192 → s.Accepts rICU_FORCE (Word.ofNat (2 ^ 30 + n)) → s.awake.g ICU_CFG_MODE = 2 →
    ∃ t, exec (.forceClr n) s = .next t ∧ (t.src n).force = false) ∧
  (∀ s v, s.Accepts rICU_CFG v → ∃ t, exec (.icuConfigWrite v) s = .next t ∧ t.rd rICU_CFG.off = rICU_CFG.merge (s.awake.rd rICU_CFG.off) v) ∧
  (∀ s k, k < 32 → (s.msix k).pend = false → exec (.msixUnmask k) s = .next (s.setMsix k { s.msix k with mask := false })) ∧
  (∀ s k, k < 32 → (s.msix k).pend = true → s.icu.fmask = false → s.on ICU_CFG_GDIS = false → s.sys.hostLink = true →
    ∃ t, exec (.msixUnmask k) s = .next t ∧ (t.msix k).mask = false ∧ (t.msix k).pend = false) ∧
  (∀ s, ∃ t, exec (.msixUnmask 32) s = .next t ∧ t.icu.fmask = false) ∧
  (∀ s, exec .coalesceTimeout s = .next s.settle)

/-- The event matrix's commands (R551, R553, R557, R559, R561): a pulse raises its producers; the events in flight are delivered; a head is held and popped;
a queue is flushed; a channel is configured unless it is locked. -/
def Obligations.EventCommandsComplete : Prop :=
  (∀ s v, s.Accepts rEVM_SWPULSE v →
    exec (.swpulse v) s = .next ((List.range 4).foldl (fun u b => if wbit v b then u.event (378 + b) u.ct else u) s.awake)) ∧
  (∀ s, exec .eventDelivery s = .next s.deliverEvents) ∧
  (∀ s q, q < 16 → s.awake.stopped EVM_ERRSTS = false →
    ∃ t, exec (.eventQueueHold q false) s = .next t ∧ t.rdata = (s.awake.rd (EVM_QHEAD_PROD q).off).toNat ∧
      (t.cq q).ents = (s.awake.cq q).ents ∧ (t.cq q).held = !(s.awake.cq q).ents.isEmpty) ∧
  (∀ s q, q < 16 → s.awake.stopped EVM_ERRSTS = false →
    ∃ t, exec (.eventQueueHold q true) s = .next t ∧ t.rdata = (s.awake.rd (EVM_QCTLO q).off).toNat ∧
      (t.cq q).ents = (s.awake.cq q).ents ∧ (t.cq q).held = !(s.awake.cq q).ents.isEmpty) ∧
  (∀ s q, q < 16 → s.awake.stopped EVM_ERRSTS = false →
    ∃ t, exec (.eventQueuePop q) s = .next t ∧ t.rdata = (s.awake.rd (EVM_QCTHI q).off).toNat ∧ (t.cq q).ents = (s.awake.cq q).ents.drop 1 ∧
      (t.cq q).held = false ∧ t = { s.awake with regs := t.regs, rdata := t.rdata, evm := t.evm }) ∧
  (∀ s q, q < 16 → s.Accepts rEVM_QCTL 0x01000000#32 →
    ∃ t, exec (.queueFlush q) s = .next t ∧ t.cq q = {} ∧ t.g (EVM_QCTL_LOST q) = 0 ∧ t.g (EVM_QCTL_DEPTH q) = 0 ∧
      t = { s.awake with regs := t.regs, evm := t.evm }) ∧
  (∀ s c v, c < 64 → s.Accepts rEVM_CHCFG v → s.awake.on (EVM_CHCFG_LOCKED c) = false → (wbits v 7 1 < 90 ∨ wbits v 7 1 = 127) →
    (wbits v 7 1 = 127 ∨ s.awake.consTaken c (wbits v 7 1) = false) →
    ∃ t, exec (.channelConfigWrite c 12 v) s = .next t ∧ t.on (EVM_CHCFG_EN c) = wbit v 0 ∧ t.g (EVM_CHCFG_CONS c) = wbits v 7 1 ∧
      t.on (EVM_CHCFG_LOCKED c) = (s.awake.on GRD_LOCK_LOCK && wbit v 0 && decide (wbits v 7 1 < 32))) ∧
  (∀ s c w v, c < 64 → w < 11 → s.Accepts rEVM_CHEN v → s.awake.on (EVM_CHCFG_LOCKED c) = false →
    ∃ t, exec (.channelConfigWrite c w v) s = .next t ∧ t.g (chenFld c w) = v.toNat ∧ t = { s.awake with regs := t.regs }) ∧
  (∀ s c v, c < 64 → s.Accepts rEVM_CHEN11 v → s.awake.on (EVM_CHCFG_LOCKED c) = false →
    ∃ t, exec (.channelConfigWrite c 11 v) s = .next t ∧ t.g (chenFld c 11) = v.toNat)

/-- The ports' lanes and training (R473-R475, R478, R479, R573): a host-link reset clears the message table; a port enabled trains from step 1 and one
disabled is OFF; a step ends or starts training again; a lane that fails leaves the port, and one that trains again comes back; the link goes down to HOLD. -/
def Obligations.LanesComplete : Prop :=
  (∀ s kind, kind < 4 → (s.sys.hostLink = true ∨ kind = 0) →
    ∃ t, exec (.hostLinkReset kind) s = .next t ∧ t.sys.hostLink = (kind == 1) ∧ t.icu.msix = {} ∧ t.icu.fmask = false ∧
      (kind < 2 → t.sys.cfg = {}) ∧ (kind = 3 → t.on CLK_STS_REFCLKOK = false)) ∧
  (∀ s p v, p < 4 → s.Accepts rBND_PCFG v → wbit v 0 = true → s.awake.on (BND_PCFG_EN p) = false → (wbit v 4 = false ∨ wbits v 2 1 ≠ 1) →
    s.awake.g BOOT_STS_STAGE = 9 →
    ∃ t, exec (.portEnable p v) s = .next t ∧ t.g (BND_PSTS_STATE p) = bsTRAINING ∧ (t.port p).step = 1 ∧ (t.port p).stepAt = s.awake.elapsed ∧
      t.on (BND_PCFG_EN p) = true ∧ t.g (BND_PSTS_TRAINED p) = 0) ∧
  (∀ s p v, p < 4 → s.Accepts rBND_PCFG v → wbit v 0 = false → s.awake.on (BND_PCFG_EN p) = true →
    wbits v 4 1 = wbits (s.awake.rd (rBND_PCFG.at p 0)) 4 1 → (wbit v 4 = false ∨ wbits v 2 1 ≠ 1) →
    ∃ t, exec (.portEnable p v) s = .next t ∧ t.g (BND_PSTS_STATE p) = bsOFF ∧ t.on (BND_PCFG_EN p) = false ∧ (t.port p).step = 0) ∧
  (∀ s p mask, p < 4 → mask < 4 → mask ≠ 0 → s.on (BND_PCFG_EN p) = true → s.on (BND_PCFG_SINGLE p) = false → (s.port p).step = 1 →
    (s.g (BND_PCFG_MODE p) ≠ 0 ∨ mask = 3) →
    ∃ t, exec (.trainingStepDone p mask) s = .next t ∧ (t.port p).step = 2 ∧
      t.g CLK_STS_LANELOCK = Nat.lor (s.g CLK_STS_LANELOCK) (mask * 4 ^ p)) ∧
  (∀ s p mask, p < 4 → mask < 4 → mask ≠ 0 → s.on (BND_PCFG_EN p) = true → s.on (BND_PCFG_SINGLE p) = false → (s.port p).step = 3 →
    ∃ t, exec (.trainingStepDone p mask) s = .next t ∧ (t.port p).step = 4 ∧ t.g (BND_PSTS_TRAINED p) = mask) ∧
  (∀ s p mask, p < 4 → mask < 4 → mask ≠ 0 → s.on (BND_PCFG_EN p) = true → s.on (BND_PCFG_SINGLE p) = false → (s.port p).step = 4 →
    exec (.trainingStepDone p mask) s = .next (s.lanesUp p)) ∧
  (∀ s p l, p < 4 → stepLimit (s.port p).step = some l → (s.port p).stepAt + l < s.elapsed → s.linkUp p = false →
    ∃ t, exec (.trainingTimeout p) s = .next t ∧ (t.port p).step = 1 ∧ (t.port p).stepAt = s.elapsed ∧
      t.g (BND_PTRAINFAIL p) = min (s.g (BND_PTRAINFAIL p) + 1) (2 ^ 32 - 1)) ∧
  (∀ s p lane, p < 4 → lane < 2 → s.linkUp p = true → s.g (BND_PSTS_TRAINED p) = 2 ^ lane → nbit (s.g (BND_PSTS_CARRY p)) lane = true →
    exec (.laneFault p lane) s = .next (s.f (BND_PSTS_TRAINED p) 0)) ∧
  (∀ s p lane, p < 4 → lane < 2 → s.linkUp p = true → s.g (BND_PSTS_TRAINED p) = 3 → nbit (s.g (BND_PSTS_CARRY p)) lane = false →
    exec (.laneFault p lane) s = .next (s.f (BND_PSTS_TRAINED p) (3 - 2 ^ lane))) ∧
  (∀ s p lane, p < 4 → lane < 2 → s.linkUp p = true → nbit (s.g (BND_PSTS_TRAINED p)) lane = false → s.on (BND_PCFG_SINGLE p) = false →
    ∃ t, exec (.laneRetrained p lane) s = .next t ∧ t.g (BND_PSTS_TRAINED p) = Nat.lor (s.g (BND_PSTS_TRAINED p)) (2 ^ lane) ∧
      (s.g (BND_PCFG_MODE p) = 1 → nbit (s.g (BND_PSTS_TRAINED p)) (s.port p).work = true →
        t = s.f (BND_PSTS_TRAINED p) (Nat.lor (s.g (BND_PSTS_TRAINED p)) (2 ^ lane)))) ∧
  (∀ s p, p < 4 → s.linkUp p = true →
    ∃ t, exec (.linkDown p) s = .next t ∧ t.g (BND_PSTS_STATE p) = bsHOLD ∧ (t.port p).holdAt = some s.elapsed ∧ (t.port p).step = 1 ∧
      (t.port p).splitMs = s.g ROL_HOLD_SPLITHOLD ∧ (t.port p).retryMs = s.g ROL_HOLD_RETRYHOLD ∧
      t.g (BND_PLINKDOWN p) = min (s.g (BND_PLINKDOWN p) + 1) (2 ^ 32 - 1))

/-- Flits and sessions (R477, R483-R485, R489, R490, R524, R526): the flit expected next is accepted; a damaged one is answered with NAK; an
acknowledgement frees flits; timers resend; HELLO brings a session up, RESUME takes it up again and CLOSE ends it. -/
def Obligations.SessionsComplete : Prop :=
  (∀ s p bs, p < 4 → s.linkUp p = true → flitCrcOk bs = true → 3 ≤ (readFlit bs).cls → leAt bs 0 2 % 4096 = (s.port p).nextRx →
    exec (.flitReceived p bs false 0) s = .next (s.acceptFlit p (readFlit bs))) ∧
  (∀ s p bs, p < 4 → s.linkUp p = true → flitCrcOk bs = false → 3 ≤ (readFlit bs).cls → (s.port p).nakFor = none →
    exec (.flitReceived p bs false 0) s = .next ((s.inc (BND_PCRCERR p)).sendNak p)) ∧
  (∀ s p pl, p < 4 → s.linkUp p = true → (leAt pl 0 1 = 1 ∨ leAt pl 0 1 = 3) → exec (.status p pl) s = .next (s.takeAck p pl)) ∧
  (∀ s p pl, p < 4 → s.linkUp p = true → leAt pl 0 1 = 2 →
    ((s.takeAck p pl).port p).ofs (leAt pl 4 2) < ((s.takeAck p pl).port p).unacked.length → (s.takeAck p pl).replaying p = false →
    exec (.nak p pl) s = .next ((s.takeAck p pl).flitFails p (((s.takeAck p pl).port p).ofs (leAt pl 4 2)))) ∧
  (∀ s p, p < 4 → s.linkUp p = true → (s.port p).unacked.isEmpty = false → (s.port p).moved + 4000 ≤ s.elapsed →
    exec (.replayTimeout p) s = .next (s.flitFails p 0)) ∧
  (∀ s p, p < 4 → s.linkUp p = true → 0 < (s.port p).accSince → (s.port p).lastStatus + 1000 ≤ s.elapsed →
    ∃ t, exec (.statusTimer p) s = .next t ∧ (t.port p).accSince = 0 ∧ (t.port p).lastStatus = s.elapsed ∧
      (∃ x, t.out = Out.flit p x :: s.out)) ∧
  (∀ s p pl, p < 4 → (s.port p).step = 5 → leAt pl 0 1 = 1 → s.g (BND_PSTS_STATE p) = bsHELLO → leAt pl 40 4 = (s.port p).mySess →
    exec (.hello p pl) s = .next ((s.setPort p { s.port p with peerSess := leAt pl 36 4 }).sessionUp p pl)) ∧
  (∀ s p pl, p < 4 → (s.port p).step = 5 → leAt pl 0 1 = 1 → s.g (BND_PSTS_STATE p) = bsHELLO → leAt pl 40 4 ≠ (s.port p).mySess →
    exec (.hello p pl) s = .next (s.setPort p { s.port p with peerSess := leAt pl 36 4 })) ∧
  (∀ s p, p < 4 → (s.port p).step = 5 → s.linkUp p = false → (s.port p).lastHello + 10000 ≤ s.elapsed →
    ∃ t, exec (.helloTimer p) s = .next t ∧ (t.port p).lastHello = s.elapsed ∧ (∃ x, t.out = Out.flit p x :: s.out)) ∧
  (∀ s p pl, p < 4 → (s.port p).step = 5 → leAt pl 0 1 = 2 → s.g (BND_PSTS_STATE p) = bsHOLD →
    (presented pl).hubid = (s.port p).peer.hubid → (presented pl).bootcnt = (s.port p).peer.bootcnt →
    (presented pl).combid = (s.port p).peer.combid → leAt pl 36 4 = (s.port p).peerSess → leAt pl 40 4 = (s.port p).mySess →
    (s.port p).ofs (leAt pl 32 2) ≤ (s.port p).unacked.length → exec (.resume p pl) s = .next (s.resumeSession p pl)) ∧
  (∀ s p pl, p < 4 → (s.port p).step = 5 → leAt pl 0 1 = 2 → s.g (BND_PSTS_STATE p) = bsHELLO →
    exec (.resume p pl) s = .next (s.sendHello p)) ∧
  (∀ s p pl, p < 4 → s.linkUp p = true → leAt pl 0 1 = 3 →
    ∃ t, exec (.close p pl) s = .next t ∧ t.g (BND_PSTS_STATE p) = bsTRAINING ∧ (t.port p).step = 1 ∧ (t.port p).dormantAt = some s.elapsed)

/-- s holds the message m of its channel, and u is s with it consumed. -/
abbrev Sys2Proof.Machine.State.Gets (s : State) (cls ty : Nat) (m : MsgS) (u : State) : Prop := s.takeMsg cls ty = some (m, u)

/-- Messages between hubs (R247, R260, R459, R461, R492, R494-R498, R518): each is taken from its channel and has its effect here. -/
def Obligations.MessagesComplete : Prop :=
  (∀ s m u, s.Gets clsCMD 1 m u → nbit (leAt m.body 4 1) 0 = false → exec .cmd s = .next (u.cmdExec m.src m.body)) ∧
  (∀ s m u x, s.Gets clsCMD 1 m u → nbit (leAt m.body 4 1) 0 = true →
    (u.rng.jobs.any fun j => j.id.remote && j.id.src == m.src && j.id.ref == leAt m.body 0 2) = false →
    (u.rng.answers.find? fun k => k.1 == m.src && k.2.1 == leAt m.body 0 2) = some x →
    exec .cmd s = .next (u.sendMsg clsCPL 1 m.src x.2.2)) ∧
  (∀ s m u, s.Gets clsCMD 2 m u → leAt m.body 4 4 = (u.imageOf m.src (leAt m.body 0 2)).length →
    (leAt m.body 4 4 = 0 → u.imageOf m.src (leAt m.body 0 2) = []) →
    ∃ t, exec .cmdData s = .next t ∧
      t.rng.images = u.rng.images.filter (fun x => !(x.1 == m.src && x.2.1 == leAt m.body 0 2)) ++
        [(m.src, leAt m.body 0 2, u.imageOf m.src (leAt m.body 0 2) ++ m.body.drop 8)] ∧ t = { u with rng := t.rng }) ∧
  (∀ s m u r, s.Gets clsCPL 1 m u → (u.rng.rems.find? fun k => k.tag == leAt m.body 0 2 && k.dst == m.src) = some r →
    exec .cpl s = .next ((((({ u with rng := { u.rng with rems := u.rng.rems.filter fun k => k.tag != r.tag } } : State).dropTag r.tag).followCasks r
      (cplParse m.body).status).remDone r.tid r.slot (cplParse m.body)).issue r.tid)) ∧
  (∀ s m u, s.Gets clsREJECT 1 m u → leAt m.body 1 1 = clsCMD →
    exec .reject s = .next (u.rejectCmd m.src (leAt m.body 2 1) (leAt m.body 4 4) (leAt m.body 0 1) m.epoch)) ∧
  (∀ s m u, s.Gets clsREJECT 1 m u → leAt m.body 1 1 = clsCASK →
    exec .reject s = .next (u.rejectCask m.src (leAt m.body 4 4) (leAt m.body 0 1) m.epoch)) ∧
  (∀ s m u, s.Gets clsREJECT 1 m u → leAt m.body 1 1 ≠ clsCMD → leAt m.body 1 1 ≠ clsCASK →
    exec .reject s = .next (u.rejectOther m.src (leAt m.body 1 1) (leAt m.body 2 1) (leAt m.body 4 4) (leAt m.body 0 1) m.epoch)) ∧
  (∀ s x, s.rol.stale = [x] → x.held = false → (x.epoch ≤ s.g ROL_EPOCH ∨ x.at_ + 5000000 ≤ s.elapsed) →
    exec .staleResend s = .next (({ s with rol := { s.rol with stale := [] } } : State).resendStale x)) ∧
  (∀ s m u, s.Gets clsCASK 1 m u → u.homeUid (leAt m.body 0 8) = true →
    u.pcnAhead m.src (leAt m.body 0 8) (leAt m.body 12 1) (leAt m.body 8 4) = 0 → leAt m.body 16 4 = 0 →
    exec .caskData s = .next ((u.setGather m.src (leAt m.body 0 8) (leAt m.body 12 1) (some {
      port := m.port, src := m.src, uid := leAt m.body 0 8, ring := leAt m.body 12 1, pcn := leAt m.body 8 4,
      bytes := m.body.drop 24 })).trimCasks)) ∧
  (∀ s m u g, s.Gets clsCASK 2 m u → u.homeUid (leAt m.body 0 8) = true →
    u.pcnAhead m.src (leAt m.body 0 8) (leAt m.body 12 1) (leAt m.body 8 4) = 0 → u.gathering m.src (leAt m.body 0 8) (leAt m.body 12 1) = some g →
    g.bytes.length = leAt m.body 16 4 →
    exec .caskClose s = .next (u.acceptCask {
      uid := leAt m.body 0 8, ring := leAt m.body 12 1, src := m.src, pcn := leAt m.body 8 4, recs := parseRecs none (leAt m.body 20 4) g.bytes,
      close := leAt m.body 13 1, epoch := leAt m.body 40 4, at_ := u.elapsed })) ∧
  (∀ s m u, s.Gets clsCASK 2 m u → u.homeUid (leAt m.body 0 8) = true →
    2 ^ 31 ≤ u.pcnAhead m.src (leAt m.body 0 8) (leAt m.body 12 1) (leAt m.body 8 4) →
    exec .caskClose s = .next ((u.inc (BND_PDUPCASK m.port)).sendCaskAck m.src (leAt m.body 0 8) (leAt m.body 8 4) (leAt m.body 12 1))) ∧
  (∀ s m u w, s.Gets clsCASKACK 1 m u → w = ({ u with rng := { u.rng with
      fwd := u.rng.fwd.filter fun c => !(c.uid == leAt m.body 0 8 && c.ring == leAt m.body 12 1 && c.pcn == leAt m.body 8 4) } } : State) →
    exec .caskack s = .next (w.showCbuf.waitsDone.ten.leases.foldl (fun (k : State) (l : LeaseS) => k.leaseSettle l.idx) w.showCbuf.waitsDone)) ∧
  (∀ s m u t, s.Gets clsEVENT 1 m u → u.tidOf (leAt m.body 0 8) = some t → u.homed t = true → leAt m.body 8 4 ≠ 0 →
    exec .event s = .next (u.queueEv t (EvRecS.parse ((m.body.drop 16).take 32) (some (m.src, 8, leAt m.body 8 4))))) ∧
  (∀ s m u, s.Gets clsSIGNAL 1 m u →
    ∃ t, exec .syncAtMessage s = .next t ∧ t.msh.armed = some (leAt m.body 0 8) ∧ t.on MSH_SYNCSTS_ARMED = true ∧
      t = { u with regs := t.regs, msh := t.msh }) ∧
  (∀ s m u t, s.Gets clsSIGNAL 2 m u → leAt m.body 0 8 ≠ 0 → u.tidOf (leAt m.body 0 8) = some t → u.tenActive t = true →
    (u.members t (leAt m.body 8 1)).isEmpty = false →
    exec .groupTrigger s = .next (u.triggerHere t (leAt m.body 8 1) (leAt m.body 16 8)))

/-- s hears the ELECT message of type ty that came at port p, which takes part in rounds, with round n and body b; u is s with it consumed. -/
abbrev Sys2Proof.Machine.State.Hears (s : State) (ty p n : Nat) (b : List Nat) (u : State) : Prop :=
  s.hkRuns = true ∧ u.roundPorts.contains p = true ∧
  (s.takeMsg clsELECT ty).map (fun x => (x.1.port, leAt x.1.bytes 4 4, x.1.bytes.drop 8, x.2)) = some (p, n, b, u)

/-- Rounds (R507, R508, R510, R513, R523, R524, R542): an OFFER of a lower round is dropped, of a higher one joined, and a better candidate is
adopted; ATTACH and DETACH keep the children; REPORT and DIRECTORY go up and down the tree; the last DIRACK ends the round; REELECT, the host
link and the two holds start one. -/
def Obligations.ElectionsComplete : Prop :=
  (∀ s u p n b, s.Hears 1 p n b u → n < u.rol.round → exec .offer s = .next u) ∧
  (∀ s u p n b, s.Hears 1 p n b u → u.rol.round < n →
    ∃ t, exec .offer s = .next t ∧ t.rol.round = n ∧ t.rol.cur.isSome = true ∧ t.on ROL_STS_ELECTING = true) ∧
  (∀ s u p n b r, s.Hears 1 p n b u → u.rol.round = n → u.rol.cur = some r →
    r.takes (candOf b) (leAt b 24 1) (leAt b 25 1 % 4) p = true →
    ∃ t q, exec .offer s = .next t ∧ t.rol.round = n ∧ t.rol.cur = some q ∧ q.best = candOf b ∧ q.parent = some p ∧ q.hops = leAt b 24 1 + 1 ∧
      q.reported = false ∧ q.last = s.elapsed ∧ q.children = r.children) ∧
  (∀ s u p n b r, s.Hears 2 p n b u → u.rol.round = n → u.rol.cur = some r → r.reported = false → r.adopted = false →
    ∃ t, exec .attach s = .next t ∧ t.rol.cur = some { r with
      children := (r.children.filter fun c => c.port != p) ++ [{ port := p }], last := s.elapsed } ∧ t = { u with rol := t.rol }) ∧
  (∀ s u p n b r, s.Hears 2 p n b u → u.rol.round = n → u.rol.cur = some r → r.reported = true →
    ∃ t, exec .attach s = .next t ∧ t.rol.round = n + 1 ∧ t.on ROL_STS_ELECTING = true) ∧
  (∀ s u p n b r, s.Hears 3 p n b u → u.rol.round = n → u.rol.cur = some r →
    ∃ t, exec .detach s = .next t ∧ t.rol.cur = some { r with children := r.children.filter fun c => c.port != p, last := s.elapsed } ∧
      t = { u with rol := t.rol }) ∧
  (∀ s u p n b r, s.Hears 4 p n b u → u.rol.round = n → u.rol.cur = some r → (r.children.any fun c => c.port == p) = true →
    ∃ t q, exec .report s = .next t ∧ t.rol.cur = some q ∧
      (∀ c ∈ q.children, c.port = p → c.report = some ((entriesOf 40 (min 16 (leAt b 0 1)) (b.drop 8)).map repOf)) ∧
      q.children.map ChildS.port = r.children.map ChildS.port ∧ t = { u with rol := t.rol }) ∧
  (∀ s r p, s.hkRuns = true → s.rol.cur = some r → r.reported = false → r.adopted = false → r.last + 1000000 ≤ s.elapsed →
    (r.children.all fun c => c.report.isSome) = true → r.parent = some p →
    ∃ t, exec .settleExpiry s = .next t ∧ t.rol.cur = some { r with reported := true } ∧ t.rol.round = s.rol.round) ∧
  (∀ s r, s.hkRuns = true → s.rol.cur = some r → r.reported = false → r.adopted = false → r.last + 1000000 ≤ s.elapsed →
    (r.children.all fun c => c.report.isSome) = true → r.parent = none → exec .settleExpiry s = .next (s.lead r)) ∧
  (∀ s u p n b r, s.Hears 5 p n b u → u.rol.round = n → u.rol.cur = some r → r.parent = some p → r.adopted = false → r.children = [] →
    ∃ t, exec .directory s = .next t ∧ t.rol.cur = none ∧ t.g ROL_STS_ELECTING = 0) ∧
  (∀ s u p n b r, s.Hears 6 p n b u → u.rol.round = n → u.rol.cur = some r → leAt b 0 4 = u.g ROL_EPOCH → r.adopted = true →
    (r.children.all fun c => c.acked || c.port == p) = true → r.parent = none →
    ∃ t, exec .dirack s = .next t ∧ t.rol.cur = none ∧ t.g ROL_STS_ELECTING = 0 ∧
      t.g ROL_ELECTS = min (u.g ROL_ELECTS + 1) (2 ^ 32 - 1)) ∧
  (∀ s, s.Accepts rROL_CTL 1 → s.awake.mayElect = true → (s.awake.g ROL_STS_ROLE = roleKEYSTONE ∨ s.awake.g ROL_STS_ROLE = roleISOLATED) →
    ∃ t, exec .reelect s = .next t ∧ t = s.awake.startRound ∧ t.rol.round = s.awake.rol.round + 1) ∧
  (∀ s, s.sys.hostLink = false → 4 ≤ s.g BOOT_STS_STAGE → s.sys.pmicEn = true →
    ∃ t, exec .hostLinkUp s = .next t ∧ t.sys.hostLink = true ∧ t.sys.hostWake = false ∧ t.sys.peWake = false ∧ t.on CLK_STS_REFCLKOK = true ∧
      (s.on ROL_CFG_RANK = true → s.mayElect = true → s.g ROL_STS_ROLE = roleISOLATED → t.rol.round = s.rol.round + 1)) ∧
  (∀ s p x, p < 4 → (s.port p).holdAt = some x → s.g (BND_PSTS_STATE p) = bsHOLD → (s.port p).splitDone = false →
    x + 1000000 * (s.port p).splitMs ≤ s.elapsed → s.treeLink p = true → s.mayElect = true →
    ∃ t, exec (.splitHoldExpiry p) s = .next t ∧ t.rol.round = s.rol.round + 1 ∧
      t.g ROL_SPLITS = min (s.g ROL_SPLITS + 1) (2 ^ 32 - 1)) ∧
  (∀ s p x, p < 4 → (s.port p).holdAt = some x → s.g (BND_PSTS_STATE p) = bsHOLD → x + 1000000 * (s.port p).retryMs ≤ s.elapsed →
    (s.port p).step ≠ 5 → exec (.retryHoldExpiry p) s = .next (s.abandonHold p)) ∧
  (∀ s p x, p < 4 → (s.port p).holdAt = none → (s.port p).dormantAt = some x → x + 1000000 * (s.port p).retryMs ≤ s.elapsed → s.mayElect = true →
    ∃ t, exec (.retryHoldExpiry p) s = .next t ∧ t.rol.round = s.rol.round + 1)

/-- s holds the CONFIG request m of type ty, from the keystone that leads, and has neither answered nor begun one of that tag; u is s with it
consumed. -/
abbrev Sys2Proof.Machine.State.Asked (s : State) (ty : Nat) (m : MsgS) (u : State) : Prop :=
  s.takeMsg clsCONFIG ty = some (m, u) ∧ u.fromLeader m.src = true ∧
    (u.rol.answers.find? fun a => a.1 == m.src && a.2.1 == leAt m.body 0 2) = none ∧ u.cfgRunning m.src (leAt m.body 0 2) = false

/-- s holds the CONFIG answer m of type ty to its request r, one of the types asks; u is s with the message consumed and the request taken off. -/
abbrev Sys2Proof.Machine.State.Answers (s : State) (ty : Nat) (asks : List Nat) (m : MsgS) (r : CfgReqS) (u : State) : Prop :=
  s.takeMsg clsCONFIG ty = some (m, u) ∧
    (u.rol.reqs.find? fun k => k.tag == leAt m.body 0 2 && k.dst == m.src && asks.contains k.ty) = some r

/-- The requests of u without r. -/
def Sys2Proof.Machine.State.unasked (u : State) (r : CfgReqS) : State :=
  { u with rol := { u.rol with reqs := u.rol.reqs.filter fun x => x.tag != r.tag } }

/-- Configuration between hubs (R377, R521, R522, R529, R534): a request of the keystone is done and answered with its TAG, a repeated one is
answered as before, one of another hub is refused; an answer ends its request; a request unanswered for REMTMO is sent once more and then fails. -/
def Obligations.ConfigExchangesComplete : Prop :=
  (∀ s m u, s.takeMsg clsCONFIG cfPREPARE = some (m, u) → u.fromLeader m.src = false →
    exec .prepare s = .next (u.sendReject m.src ROLE_FORBIDDEN clsCONFIG cfPREPARE 0)) ∧
  (∀ s m u, s.Asked cfPREPARE m u → leAt m.body 4 1 ∈ [1, 3, 4] →
    ∃ t, exec .prepare s = .next t ∧ t.rol.prepared = some (m.src, leAt m.body 4 1, leAt m.body 8 4, m.body.drop 12)) ∧
  (∀ s m u, s.Asked cfPREPARE m u → (leAt m.body 4 1 = 0 ∨ 4 < leAt m.body 4 1) →
    exec .prepare s = .next (u.cfgStatus m.src (leAt m.body 0 2) cfPREPARED RESERVED_NONZERO)) ∧
  (∀ s m u r, s.Answers cfPREPARED [cfPREPARE] m r u →
    exec .prepared s = .next ((u.unasked r).distPrepared r.dst (leAt m.body 4 1))) ∧
  (∀ s m u, s.Asked cfCOMMIT m u → u.rol.prepared = none →
    exec .configCommit s = .next (u.cfgStatus m.src (leAt m.body 0 2) cfACK NOT_IN_STATE)) ∧
  (∀ s m u src kind gen item w, s.Asked cfCOMMIT m u → u.rol.prepared = some (src, kind, gen, item) →
    (({ u with rol := { u.rol with prepared := none } } : State).newGen gen).applyItem kind item (some (m.src, leAt m.body 0 2)) = (w, false) →
    exec .configCommit s = .next (w.cfgStatus m.src (leAt m.body 0 2) cfACK OK).releaseHeld) ∧
  (∀ s m u, s.Asked cfWITHDRAW m u → ∃ t, exec .withdraw s = .next t ∧ t.rol.prepared = none ∧
    t = ({ u with rol := { u.rol with prepared := none } } : State).cfgStatus m.src (leAt m.body 0 2) cfACK OK) ∧
  (∀ s m u c, s.Asked cfREGACCESS m u → u.remoteRefused (nbit (leAt m.body 4 1) 0) (leAt m.body 8 4) (Word.ofNat (leAt m.body 12 4)) = some c →
    exec .regaccess s = .next (u.cfgAnswer m.src (leAt m.body 0 2) cfREGRESULT [c, 0, 0, 0, 0, 0, 0, 0])) ∧
  (∀ s m u r, s.Asked cfREGACCESS m u → nbit (leAt m.body 4 1) 0 = false →
    u.remoteRefused false (leAt m.body 8 4) (Word.ofNat (leAt m.body 12 4)) = none → r = u.bar0Read (leAt m.body 8 4) →
    exec .regaccess s = .next (r.cfgAnswer m.src (leAt m.body 0 2) cfREGRESULT ([u.readStatus (leAt m.body 8 4), 0, 0, 0] ++ toLe 4 r.rdata))) ∧
  (∀ s m u r, s.Answers cfREGRESULT [cfREGACCESS] m r u → nbit (leAt r.body 4 1) 0 = false → leAt m.body 4 1 = OK →
    ∃ t, exec .regresult s = .next t ∧ t.g ROL_RSDATA = leAt m.body 8 4 ∧ t.g ROL_RSSTS_STATUS = OK ∧ t.g ROL_RSSTS_BUSY = 0 ∧
      t = { u.unasked r with regs := t.regs }) ∧
  (∀ s m u, s.Asked cfSTATE m u → leAt m.body 4 1 = 1 →
    ∃ t, exec .state s = .next t ∧ t.rol.binds = [] ∧
      t.rol.defs = (if u.rol.binds.isEmpty then u.rol.defs else []) ++ entriesOf 64 (leAt m.body 6 2) (m.body.drop 8)) ∧
  (∀ s m u, s.Asked cfSTATE m u → leAt m.body 4 1 = 2 →
    ∃ t, exec .state s = .next t ∧ t.rol.defs = u.rol.defs ∧ t.rol.binds = u.rol.binds ++ entriesOf 24 (leAt m.body 6 2) (m.body.drop 8)) ∧
  (∀ s m u v, s.Asked cfGENSET m u → v = ({ u.applyTransfer with rol := { u.applyTransfer.rol with defs := [], binds := [] } } : State) →
    exec .genset s = .next ((((v.f ROL_GEN (leAt m.body 4 4)).cfgAnswer m.src (leAt m.body 0 2) cfGENACK (toLe 4 (leAt m.body 4 4))).f
      ROL_STS_QUAR 0).resendFwd).releaseHeld) ∧
  (∀ s m u r, s.Answers cfGENACK [cfGENSET] m r u →
    ∃ t, exec .genack s = .next t ∧ t.rol.xfers = u.rol.xfers.filter (fun x => x.pos != r.dst) ∧
      (∀ e ∈ t.rol.dir, e.pos = r.dst → nbit e.flags 2 = false ∧ e.gen = leAt m.body 4 4) ∧ t = { u.unasked r with regs := t.regs, rol := t.rol }) ∧
  (∀ s m u r, s.Answers cfACK [cfCOMMIT, cfWITHDRAW, cfSTATE] m r u → r.ty ≠ cfCOMMIT → exec .configAck s = .next (u.unasked r)) ∧
  (∀ s m u r, s.Answers cfACK [cfCOMMIT, cfWITHDRAW, cfSTATE] m r u → r.ty = cfCOMMIT →
    exec .configAck s = .next ((u.unasked r).distAcked r.dst)) ∧
  (∀ s tag r, (s.rol.reqs.find? fun k => k.tag == tag) = some r → s.remtmo r.at_ = true → r.resent = false → r.ty ≠ cfPREPARE →
    ∃ t, exec (.configTimeout tag) s = .next t ∧
      t.rol.reqs = s.rol.reqs.map (fun k => if k.tag = tag then { k with resent := true, at_ := s.elapsed } else k)) ∧
  (∀ s tag r, (s.rol.reqs.find? fun k => k.tag == tag) = some r → s.remtmo r.at_ = true → (r.resent = true ∨ r.ty = cfPREPARE) →
    exec (.configTimeout tag) s = .next (s.cfgFails r TIMEOUT)) ∧
  (∀ s wr, s.Accepts rROL_RSCTL (Word.ofNat (1 + 2 * b2n wr)) → s.awake.goRefused wr = none →
    ∃ t, exec (.remoteSetupGo wr) s = .next t ∧ t.on ROL_RSSTS_BUSY = true) ∧
  (∀ s wr c, s.Accepts rROL_RSCTL (Word.ofNat (1 + 2 * b2n wr)) → s.awake.goRefused wr = some c →
    ∃ t, exec (.remoteSetupGo wr) s = .next t ∧ t.g ROL_RSSTS_STATUS = c % 256 ∧
      t = (s.awake.f ROL_RSSTS_STATUS c).discard rROL_RSCTL 0 0 c) ∧
  (∀ s, s.Accepts rROL_CTL 2 → ∃ t, exec .rolCounterClr s = .next t ∧
    (∀ f ∈ [ROL_ELECTS, ROL_SPLITS, ROL_MERGES, ROL_REFUSED, ROL_QUARS, ROL_RESUMES, ROL_ABANDONS], t.g f = 0) ∧
    t = { s.awake with regs := t.regs }) ∧
  (∀ s, s.hkRuns = true → s.rol.xferAt.isSome = true → s.rol.cur = none → s.g ROL_STS_ROLE = roleKEYSTONE →
    ∃ t, exec .stateTransferStart s = .next t ∧ t.rol.xferAt = none ∧
      t.rol.xfers.map XferS.pos = ((s.rol.dir.filter fun e => nbit e.flags 2 && (s.routePort e.pos).isSome).map DirS.pos)) ∧
  (∀ s, s.sys.hostLink = true → ∃ t, exec .functionLevelReset s = .next t ∧ t.sys.cfg = {} ∧ t.icu.msix = {} ∧ t.icu.fmask = false)

/-- Clocks and resets (R12, R568-R570, R574, R575, R581, R582, R584): power-on leaves every register but the hub identity and the cause at its reset
value; a clock failure or loss of lock is counted and holds the core; a requested reset begins 10 µs after its write and holds the core 2 µs
later; the watchdog resets housekeeping, and the core when it expires again within 10 s. -/
def Obligations.ClocksAndResetsComplete : Prop :=
  (∀ s vaon, ∃ t, exec (.powerOnReset vaon) s = .next t ∧ t.g RST_CAUSE_SRC = b2n vaon ∧ t.g RST_CAUSE_KIND = 0 ∧
    (∀ o, o ≠ RST_CAUSE_SRC.off → o ≠ ROL_HUBIDLO.off → o ≠ ROL_HUBIDHI.off → t.rd o = rstAt o) ∧ t.pending = s.pending ∧
    t.nvs.mapBase = s.nvs.mapBase ∧ t.nvs.mapLog = s.nvs.mapLog ∧ t.nvs.jrecs = s.nvs.jrecs ∧ t.nvs.keys = s.nvs.keys ∧ t.ten.keys = s.nvs.keys) ∧
  (∀ s ofs, ∃ t, exec (.accessTimeout false ofs) s = .next t ∧ t = { s.clockStopped ofs with rdata := 0 } ∧
    t.g CLK_STOPACC = min (s.g CLK_STOPACC + 1) (2 ^ 32 - 1)) ∧
  (∀ s ofs j, (s.rng.jobs.find? fun k => !k.started) = some j →
    exec (.accessTimeout true ofs) s = .next (s.finishWith j CLOCK_STOPPED)) ∧
  (∀ s, s.on CLK_STS_XINOK = true → s.sys.pstate ≠ .off → ∃ t, exec .xinFailure s = .next t ∧ t.on CLK_STS_XINOK = false ∧
    t.on CLK_STS_ROSC = true ∧ t.on CLK_STS_ROOTLOCK = false ∧ t.g CLK_FAILCNT = min (s.g CLK_FAILCNT + 1) (2 ^ 32 - 1)) ∧
  (∀ s, s.on CLK_STS_XINOK = false → s.sys.pstate ≠ .off → s.g BOOT_STS_STAGE ≠ 0 →
    ∃ t, exec .xinRecovered s = .next t ∧ t.on CLK_STS_XINOK = true ∧ t.on CLK_STS_ROSC = false ∧
      (s.g BOOT_STS_STAGE = 1 → s.sys.pmicEn = false → t.sys.pmicEn = true) ∧ (s.g BOOT_STS_STAGE ≠ 1 → t.sys = s.sys) ∧
      t = { s with regs := t.regs, sys := t.sys }) ∧
  (∀ s, s.on CLK_STS_XINOK = true → s.on CLK_STS_ROOTLOCK = true → ∃ t, exec .rootPllUnlock s = .next t ∧ t.on CLK_STS_ROOTLOCK = false ∧
    t.g CLK_UNLOCKCNT = min (s.g CLK_UNLOCKCNT + 1) (2 ^ 32 - 1)) ∧
  (∀ s, s.sys.pllEn = true → s.on CLK_STS_XINOK = true → s.sys.rst = none → s.sys.wake = 2 →
    ∃ t, exec .rootPllLocked s = .next t ∧ t.on CLK_STS_ROOTLOCK = true ∧ t.sys.wake = 3 ∧ t = { s with regs := t.regs, sys := t.sys }) ∧
  (∀ s r, s.sys.pllEn = true → s.on CLK_STS_XINOK = true → s.sys.rst = some r → r.kind = .warm → r.step = 2 →
    ∃ t, exec .rootPllLocked s = .next t ∧ t.on CLK_STS_ROOTLOCK = true ∧ t.sys.rst = some { r with step := 4 } ∧ t.time.fab = true) ∧
  (∀ s, s.Accepts rRST_CTL 0x5A01 → s.awake.g BOOT_STS_STAGE = 9 → s.awake.sys.rst = none → s.awake.sys.rstReq = none →
    ∃ t, exec .warm s = .next t ∧ t.sys.rstReq = some (.warm, s.elapsed + 10000) ∧ t = { s.awake with sys := t.sys }) ∧
  (∀ s, s.Accepts rRST_CTL 0x5A02 → s.awake.g BOOT_STS_STAGE = 9 → s.awake.sys.rst = none → s.awake.sys.rstReq = none →
    ∃ t, exec .core s = .next t ∧ t.sys.rstReq = some (.core, s.elapsed + 10000) ∧ t = { s.awake with sys := t.sys }) ∧
  (∀ s, s.Accepts rRST_CTL 0x5A04 → s.awake.g BOOT_STS_STAGE = 9 → s.awake.sys.rst = none → s.awake.mayReset = true →
    ∃ t r, exec .hkrst s = .next t ∧ t.sys.rst = some r ∧ r.kind = .hk ∧ t.rol.defs = [] ∧ t.rol.binds = []) ∧
  (∀ s, s.Accepts rRST_CTL 0x5A01 → s.awake.g BOOT_STS_STAGE < 9 →
    exec .warm s = .next (s.awake.discard rRST_CTL 0 0 NOT_IN_STATE)) ∧
  (∀ s k x, s.sys.rstReq = some (k, x) → x ≤ s.elapsed →
    exec .resetStart s = .next (({ s with sys := { s.sys with rstReq := none } } : State).beginReset k 2)) ∧
  (∀ s r, s.sys.rst = some r → r.kind ≠ .hk → r.step = 1 → r.t0 + 2000 ≤ s.elapsed →
    ∃ t, exec .coreHold s = .next t ∧ t.sys.rst = some { r with step := 2 }) ∧
  (∀ s r, s.sys.rst = some r → r.kind = .warm → r.step = 4 →
    ∃ t, exec .housekeepingReady s = .next t ∧ t.on RST_STS_READY = true ∧ t.sys.rst = none) ∧
  (∀ s, s.coreRuns = true → s.sys.rst = none → s.g BOOT_STS_STAGE = 9 → s.sys.lastWdt = none →
    ∃ t, exec .watchdogExpiry s = .next t ∧ t.g RST_WDTCNT = min (s.g RST_WDTCNT + 1) (2 ^ 32 - 1) ∧ t.sys.lastWdt = some s.elapsed) ∧
  (∀ s x, s.coreRuns = true → s.sys.rst = none → s.g BOOT_STS_STAGE = 9 → s.sys.lastWdt = some x → s.elapsed ≤ x + 10000000000 →
    exec .watchdogExpiry s = .next (({ s.inc RST_WDTCNT with sys := { s.sys with lastWdt := some s.elapsed } } : State).beginReset .core 6))

/-- Power states (R588-R598, R607): DOZE is entered at once, WATCH, HIBERNATE and OFF by draining and then the fifth step; a wake source ends them in
six steps, the regulator first and the core's state last. -/
def Obligations.PowerStatesComplete : Prop :=
  (∀ s, s.Accepts rPWR_CTL 0 → s.awake.sys.entry = none → exec .abort s = .next s.awake) ∧
  (∀ s e, s.Accepts rPWR_CTL 0 → s.awake.sys.entry = some e → exec .abort s = .next s.awake.abortEntry) ∧
  (∀ s, s.Accepts rPWR_CTL 1 → s.awake.g PWR_STS_PHASE = 0 → s.awake.sys.pstate = .run → s.awake.sys.hostLink = true →
    s.awake.refusedAt1 .doze = none →
    ∃ t, exec .doze s = .next t ∧ t.sys.pstate = .doze ∧ t = { s.awake with sys := t.sys }) ∧
  (∀ s, s.Accepts rPWR_CTL 0x5A02 → s.awake.g PWR_STS_PHASE = 0 → s.awake.sys.pstate = .run → s.awake.refusedAt1 .watch = none →
    ∃ t, exec .watch s = .next t ∧ (t.sys.entry.map fun e => (e.target, e.t0)) = some (.watch, s.elapsed) ∧ t.g PWR_STS_PHASE = 1 ∧
      t.on PWR_STS_DRAINED = false ∧
      (((List.range 64).all fun b => !s.awake.busRuns b || (s.awake.nextStart b).isNone) = true → (t.sys.entry.map EntryS.step) = some 3)) ∧
  (∀ s, s.Accepts rPWR_CTL 0x5A03 → s.awake.g PWR_STS_PHASE = 0 → s.awake.sys.pstate = .run → s.awake.refusedAt1 .hibernate = none →
    ∃ t, exec .hibernate s = .next t ∧ (t.sys.entry.map fun e => (e.target, e.t0)) = some (.hibernate, s.elapsed) ∧ t.g PWR_STS_PHASE = 1) ∧
  (∀ s, s.Accepts rPWR_CTL 0x5A04 → s.awake.g PWR_STS_PHASE = 0 → s.awake.sys.pstate = .run → s.awake.refusedAt1 .off = none →
    ∃ t, exec .off s = .next t ∧ (t.sys.entry.map fun e => (e.target, e.t0)) = some (.off, s.elapsed) ∧ t.g PWR_STS_PHASE = 1) ∧
  (∀ s c, s.Accepts rPWR_CTL 0x5A04 → s.awake.g PWR_STS_PHASE = 0 → s.awake.sys.pstate = .run → s.awake.refusedAt1 .off = some c →
    ∃ t, exec .off s = .next t ∧ t.g PWR_STS_LASTREF = c ∧ t.g PWR_STS_LASTREQ = pstCode .off ∧ t.sys.pstate = .run ∧ t.sys.entry = s.awake.sys.entry) ∧
  (∀ s x, s.sys.isoAt = some x → s.on PWR_CFG_AUTOT = true → x + 1000000000 * s.g PWR_CFG_AUTOT ≤ s.elapsed → s.coreRuns = true →
    s.sys.pstate = .run → s.g PWR_STS_PHASE = 0 → s.sys.rst = none → exec .autotExpiry s = .next (s.enterState .watch)) ∧
  (∀ s e, s.sys.entry = some e → s.sys.wakeLatch % 512 = 0 → e.step = 3 → s.bondBusy = false → s.undrained = false →
    ∃ t, exec .drained s = .next t ∧ t.on PWR_STS_DRAINED = true ∧ t.sys.entry = some { e with step := 4 } ∧ t.sys.drainedAt = s.elapsed ∧
      t = { s with regs := t.regs, sys := t.sys }) ∧
  (∀ s e, s.sys.entry = some e → s.sys.wakeLatch % 512 = 0 → e.step = 3 → e.t0 + msNs * s.g PWR_CFG_DRAINTO ≤ s.elapsed → s.bondBusy = false →
    s.undrained = true → exec .drained s = .next (s.abortBy 6)) ∧
  (∀ s x, s.sys.wakeAtCt = some x → x ≤ s.ct → s.sys.pstate = .run → s.sys.entry = none → s.stage < 4 →
    s.sys.wakeLatch = 0 → exec .wakeat s = .next { s with sys := { s.sys with wakeAtCt := none } }) ∧
  (∀ s x, s.sys.wakeAtCt = some x → x ≤ s.ct → s.sys.pstate = .watch → nbit (s.g PWR_WAKECFG_EN) 5 = true → s.sys.entry = none → s.mayWake = true →
    s.sys.wakeRetry = none → ∃ t, exec .wakeat s = .next t ∧ t.sys.wakeAtCt = none ∧ t.sys.wake = 1 ∧ nbit (t.g PWR_WAKESRC) 5 = true) ∧
  (∀ s e l2, s.sys.entry = some e → s.sys.wakeLatch % 512 = 0 → e.step = 4 → (s.sys.hostLink = false ∨ l2 = true) → s.refusedAt5 e.target = none →
    ∃ t, exec (.entryCommit l2) s = .next t ∧ t.sys.pstate = e.target ∧ t.sys.entry = none ∧ t.sys.pmicEn = false ∧ t.sys.hostLink = false) ∧
  (∀ s e l2 c, s.sys.entry = some e → s.sys.wakeLatch % 512 = 0 → e.step = 4 → (s.sys.hostLink = false ∨ l2 = true) →
    s.refusedAt5 e.target = some c → exec (.entryCommit l2) s = .next (s.abortBy c)) ∧
  (∀ s bits, s.sys.pstate = .hibernate → bits % 2 = 1 → nbit (s.g PWR_WAKECFG_EN) 0 = true → s.sys.entry = none → s.mayWake = true →
    s.sys.wakeRetry = none →
    ∃ t, exec (.wakeSource bits) s = .next t ∧ t.sys.wake = 1 ∧ t.sys.pmicEn = true ∧ t.g PWR_STS_PHASE = 2 ∧ nbit (t.g PWR_WAKESRC) 0 = true) ∧
  (∀ s, s.sys.pmicEn = true → s.sys.pmicPg = false → ∃ t, exec .pmicPgRise s = .next t ∧ t.sys.pmicPg = true ∧ t.sys.pllEn = true ∧
    t.sys.pgAt = s.time.cyc ∧ (s.sys.wake = 1 → t.sys.wake = 2) ∧ t = { s with sys := t.sys }) ∧
  (∀ s, s.sys.wake = 3 → ∃ t, exec .memrdy s = .next t ∧ t.sys.wake = 4 ∧ t.sys.pstate = .run ∧ t.time.fab = true) ∧
  (∀ s, s.sys.wake = 4 → s.sys.rstPend = none → ∃ t, exec .wakeComplete s = .next t ∧ t.sys.wake = 0 ∧ t.sys.wakeLatch = 0 ∧
    t.g PWR_STS_PHASE = 0 ∧ t.sys.hostWake = (s.sys.host && !s.sys.hostLink)) ∧
  (∀ s, s.sys.wake = 1 → s.sys.wakeRetry = none → s.sys.wakeAt + 10 * msNs ≤ s.elapsed → ∃ t, exec .wakePgTimeout s = .next t ∧
    t.g PWR_WAKEFAIL = min (s.g PWR_WAKEFAIL + 1) (2 ^ 32 - 1) ∧ t.g PWR_STS_PHASE = 0 ∧ t.sys.pmicEn = false ∧
    t.sys.wakeRetry = some s.elapsed ∧ t = { s with regs := t.regs, sys := t.sys }) ∧
  (∀ s x, s.sys.wakeRetry = some x → x + 100 * msNs ≤ s.elapsed → s.sys.wakeShed = false →
    exec .wakeRetry s = .next ({ s with sys := { s.sys with wakeRetry := none } } : State).wakeLatched) ∧
  (∀ s, s.watchLive = true → s.booting = false → s.sys.pstate ≠ .off → s.sys.watchCyc ≠ some (s.ct / 1000000000) →
    (s.psc.ents.filter fun e => e.watch && e.src == exWHEEL) = [] → s.ept.queue = [] → s.rcg.queue = [] →
    ((List.range 64).all fun b => (s.nextStart b).isNone) = true →
    ∃ t, exec .watchCycle s = .next t ∧ t.sys.watchCyc = some (s.ct / 1000000000) ∧ t = { s with sys := t.sys })

/-- Shedding and the last stops (R466, R588, R600, R601, R603, R624): a measurement raises the stage at once and lowers it after DWELL; PFAIL_N, VTHR5 or a
lost regulator end in stage 5, which the restore of power leaves for stage 4 once its trigger has stayed clear for DWELL; 150 °C stops the hub, after a program in progress, and 130 °C for a second lets it go on. -/
def Obligations.ShedAndThermalComplete : Prop :=
  (∀ s mv (tj : Int), s.sys.pstate ≠ .off → (s.measure mv tj).stage < (s.measure mv tj).wantStage →
    exec (.shedRise mv tj) s = .next ((s.measure mv tj).riseTo (s.measure mv tj).wantStage)) ∧
  (∀ s mv (tj : Int), s.sys.pstate ≠ .off → (s.measure mv tj).wantStage ≤ (s.measure mv tj).stage →
    ∃ t, exec (.shedRise mv tj) s = .next t ∧ t.g PWR_MEAS_TJ = unsigned 9 tj ∧ t = { s with regs := t.regs } ∧
      (∀ f : Fld, f.apart PWR_MEAS_VAON → f.apart PWR_MEAS_TJ → t.g f = s.g f)) ∧
  (∀ s mv (tj : Int), s.sys.pstate ≠ .off → s.stage ≠ 0 → s.stage ≠ 5 → (s.measure mv tj).trigOff s.stage = true → s.sys.clearSince = none →
    ∃ t, exec (.shedFall mv tj) s = .next t ∧ t.sys.clearSince = some s.elapsed ∧ t.stage = s.stage) ∧
  (∀ s mv (tj : Int) x, s.sys.pstate ≠ .off → s.stage ≠ 0 → s.stage ≠ 5 → (s.measure mv tj).trigOff s.stage = true → s.sys.clearSince = some x →
    x + msNs * s.g PWR_SHEDCFG_DWELL ≤ s.elapsed → exec (.shedFall mv tj) s = .next (s.measure mv tj).fallOne) ∧
  (∀ s mv, s.sys.pstate ≠ .off → s.stage ≠ 5 →
    exec (.powerFail 0 mv) s = .next (({ s.f PWR_MEAS_VAON mv with sys := { s.sys with pfailN := false } } : State).riseTo 5)) ∧
  (∀ s mv, s.sys.pstate ≠ .off → s.sys.pmicEn = true → s.stage ≠ 5 →
    exec (.powerFail 2 mv) s = .next (({ s.f PWR_MEAS_VAON mv with sys := { s.sys with pmicPg := false } } : State).riseTo 5)) ∧
  (∀ s mv (tj : Int), s.sys.pstate ≠ .off → s.stage = 0 →
    ∃ t, exec (.powerRestore mv tj) s = .next t ∧ t.sys = { s.sys with pfailN := true } ∧ t.stage = 0 ∧ t.g PWR_MEAS_TJ = unsigned 9 tj) ∧
  (∀ s mv (tj : Int), s.sys.pstate ≠ .off → s.stage = 5 → s.sys.final ≠ 1 →
    (({ s with sys := { s.sys with pfailN := true } } : State).measure mv tj).trigOff 5 = false →
    ∃ t, exec (.powerRestore mv tj) s = .next t ∧ t.sys = { s.sys with pfailN := true, clearSince := none } ∧ t.stage = 5) ∧
  (∀ s mv (tj : Int), s.sys.pstate ≠ .off → s.stage = 5 → s.sys.final ≠ 1 → s.sys.clearSince = none →
    (({ s with sys := { s.sys with pfailN := true } } : State).measure mv tj).trigOff 5 = true →
    ∃ t, exec (.powerRestore mv tj) s = .next t ∧ t.sys = { s.sys with pfailN := true, clearSince := some s.elapsed } ∧ t.stage = 5) ∧
  (∀ s mv (tj : Int) x, s.sys.pstate = .run → s.stage = 5 → s.sys.final ≠ 1 → s.sys.clearSince = some x → x + msNs * s.g PWR_SHEDCFG_DWELL ≤ s.elapsed →
    s.sys.thermal = false → (({ s with sys := { s.sys with pfailN := true } } : State).measure mv tj).trigOff 5 = true →
    ∃ t, exec (.powerRestore mv tj) s = .next t ∧ t.stage = 4 ∧ t.g PSC_STS_STAGE = 4 ∧ t.sys.pfailN = true ∧ t.sys.final = 0 ∧ t.sys.pmicEn = true ∧
      t.sys.clearSince = none) ∧
  (∀ s (tj : Int), 150 ≤ tj → s.sys.thermal = false → s.sys.pstate ≠ .off → s.sys.final = 0 → s.programming = true →
    ∃ t, exec (.thermalShutdown tj) s = .next t ∧ t.sys.thermal = true ∧ t.g NVS_TDEFER = min (s.g NVS_TDEFER + 1) (2 ^ 32 - 1) ∧
      t.sys.final = 0 ∧ t = { s with regs := t.regs, sys := t.sys }) ∧
  (∀ s (tj : Int), 150 ≤ tj → s.sys.thermal = false → s.sys.pstate ≠ .off → s.sys.final = 0 → s.programming = false →
    exec (.thermalShutdown tj) s = .next (({ s.f PWR_MEAS_TJ (unsigned 9 tj) with sys := { s.sys with
      thermal := true, coolSince := none, finalAt := s.elapsed } } : State).thermalStop)) ∧
  (∀ s (tj : Int), s.sys.thermal = true → s.sys.final = 2 → 130 < tj →
    ∃ t, exec (.thermalRecover tj) s = .next t ∧ t.sys = { s.sys with coolSince := none } ∧ t = { s with regs := t.regs, sys := t.sys }) ∧
  (∀ s (tj : Int), s.sys.thermal = true → s.sys.final = 2 → tj ≤ 130 → s.sys.coolSince = none →
    ∃ t, exec (.thermalRecover tj) s = .next t ∧ t.sys = { s.sys with coolSince := some s.elapsed }) ∧
  (∀ s (tj : Int) x, s.sys.thermal = true → s.sys.final = 2 → tj ≤ 130 → s.sys.coolSince = some x → x + 1000000000 ≤ s.elapsed → s.stage = 5 →
    ∃ t, exec (.thermalRecover tj) s = .next t ∧ t.sys = { s.sys with thermal := false, coolSince := none }) ∧
  (∀ s (tj : Int) x, s.sys.thermal = true → s.sys.final = 2 → tj ≤ 130 → s.sys.coolSince = some x → x + 1000000000 ≤ s.elapsed → s.stage < 4 →
    s.sys.pstate = .run → s.sys.wake = 0 →
    exec (.thermalRecover tj) s = .next (({ s.f PWR_MEAS_TJ (unsigned 9 tj) with sys := { s.sys with
      thermal := false, coolSince := none, final := 0, pmicEn := true } } : State).shedWake)) ∧
  (∀ s (tj : Int) o l, 155 ≤ tj → s.sys.thermal = true → s.sys.final = 0 → s.nvs.ops = o :: l →
    exec (.thermalProgramAbandon tj) s = .next (((s.f PWR_MEAS_TJ (unsigned 9 tj)).nvAbandon o).showNvs).thermalStop)

/-- The store (R613-R621, R623, R624, R629): the journal queues what it has room for, a queued record begins in the head of the log, a program is verified,
repeated once and then moved to a spare, an erased block is spare again. -/
def Obligations.StoreCompletes : Prop :=
  (∀ s, s.Accepts rNVS_JCTL 0x80000000 → s.awake.on NVS_STS_JRO = false → s.awake.jroom = true →
    ∃ t, exec .append s = .next t ∧
      t.nvs.jq = s.awake.nvs.jq ++ [{ kind := 2, body := s.awake.jdBytes, dropped := s.awake.nvs.jdrop }] ∧ t.nvs.jdrop = 0 ∧
      t = { s.awake with nvs := t.nvs }) ∧
  (∀ s, s.Accepts rNVS_JCTL 0x80000000 → s.awake.on NVS_STS_JRO = true →
    exec .append s = .next (s.awake.discard rNVS_JCTL 0 0 NVM_WORN)) ∧
  (∀ s, s.Accepts rNVS_JCTL 0x80000000 → s.awake.on NVS_STS_JRO = false → s.awake.jroom = false →
    exec .append s = .next (s.awake.discard rNVS_JCTL 0 0 QUOTA_EXCEEDED)) ∧
  (∀ s r, s.Accepts rNVS_JCTL 0x40000000 → (s.awake.nvs.jrecs.find? fun k => k.seq == s.awake.g64 NVS_JSEQLO NVS_JSEQHI) = some r →
    ∃ t, exec .journalRead s = .next t ∧ (∀ k < 16, t.rd (rNVS_JR.at k 0) = Word.ofNat (leAt r.bytes (4 * k) 4)) ∧
      t = { s.awake with regs := t.regs }) ∧
  (∀ s, s.Accepts rNVS_JCTL 0x40000000 → (s.awake.nvs.jrecs.find? fun k => k.seq == s.awake.g64 NVS_JSEQLO NVS_JSEQHI) = none →
    ∃ t, exec .journalRead s = .next t ∧ (∀ k < 16, t.rd (rNVS_JR.at k 0) = 0) ∧ t.nvs = s.awake.nvs) ∧
  (∀ s q rest, s.nvs.jq = q :: rest → s.nvRuns = true → s.sys.thermal = false → (s.nvs.ops.any fun o => o.region == 5) = false →
    s.nvs.erases = [] → s.on NVS_STS_JRO = false →
    exec .journalWrite s = .next ((({ s with nvs := { s.nvs with jq := rest } } : State).nvPush
      { region := 5, lblk := s.nvs.jblks.headD 0, what := .journal q }).nvPlace)) ∧
  (∀ s o l p, s.nvs.ops = o :: l → o.tgt = some p → o.second = false → s.nvRuns = true → s.sys.final = 0 → s.sys.thermal = false →
    ∃ t, exec (.nvmProgramDone true) s = .next t ∧ t.nvs.ops = { o with second := true, retried := false } :: l ∧ t.on NVS_STS_BUSY = true ∧
      t = { s with regs := t.regs, nvs := t.nvs }) ∧
  (∀ s o l p, s.nvs.ops = o :: l → o.tgt = some p → o.second = true → o.retried = false → s.nvRuns = true → s.sys.final = 0 →
    s.sys.thermal = false → exec (.nvmProgramDone true) s = .next (s.nvComplete o p).showNvs) ∧
  (∀ s o l p, s.nvs.ops = o :: l → o.tgt = some p → o.retried = false → s.mayRewrite o = true → s.nvRuns = true → s.sys.final = 0 →
    s.sys.thermal = false →
    ∃ t, exec (.nvmProgramDone false) s = .next t ∧ t.nvs.ops = { o with retried := true } :: l ∧ t = { s with regs := t.regs, nvs := t.nvs }) ∧
  (∀ s o l p, s.nvs.ops = o :: l → o.tgt = some p → o.retried = true → s.nvRuns = true → s.sys.final = 0 → s.sys.thermal = false →
    exec (.nvmProgramDone false) s = .next (s.retire o p).showNvs) ∧
  (∀ s p rest, s.nvs.erases = p :: rest → s.nvs.ops = [] → s.nvRuns = true → s.sys.thermal = false →
    ∃ t, exec .nvmEraseDone s = .next t ∧ t.nvs.erases = rest ∧ (t.blk p).erases = (s.blk p).erases + 1 ∧
      (t.blk p).state = (if (s.blk p).state = 3 then 2 else (s.blk p).state) ∧ (∀ m, m ≠ p → t.blk m = s.blk m) ∧
      t.on NVS_STS_BUSY = t.nvBusy) ∧
  (∀ s margin, s.nvs.scanAt + 24 * cycHour ≤ s.time.cyc → s.nvRuns = true → s.sys.thermal = false → s.sys.pstate = .run → s.stage < 3 →
    ∃ t, exec (.refreshScan margin) s = .next t ∧ t.nvs.scanAt = s.time.cyc ∧ t.nvs.map = s.nvs.map ∧ t = { s with regs := t.regs, nvs := t.nvs }) ∧
  (∀ s, s.nvs.lifeAt + cycHour ≤ s.time.cyc → s.nvRuns = true → s.sys.thermal = false →
    ∃ t, exec .lifeCheckpoint s = .next t ∧ t.nvs.lifeAt = s.time.cyc ∧ (s.rgnWorn 4 = true → t.nvs.ops = s.nvs.ops) ∧
      t = { s with regs := t.regs, nvs := t.nvs })

/-- Boot, images and TAP (R568, R597, R630, R633, R636, R638, R639): each stage leads to the next, or to RECOVERY where no image is good; a limit passed ends in a
failure or a retry; an update and a guard image are written through their registers; the TAP's isolation resets the core. -/
def Obligations.BootCompletes : Prop :=
  (∀ s ra rb rg, s.sys.pstate ≠ .off → s.sys.tap = false → s.sys.final = 0 → s.g BOOT_STS_STAGE ∈ [0, 2, 4, 5, 6, 7, 8] →
    ∃ t, exec (.bootStageDone ra rb rg) s = .next t ∧ t.g BOOT_STS_STAGE = s.g BOOT_STS_STAGE + 1 ∧
      (s.g BOOT_STS_STAGE = 8 → t.on RST_STS_READY = true)) ∧
  (∀ s ra rb rg, s.sys.pstate ≠ .off → s.sys.tap = false → s.sys.final = 0 → s.g BOOT_STS_STAGE = 1 → s.on CLK_STS_XINOK = true →
    s.sys.pmicPg = true → s.on CLK_STS_ROOTLOCK = true → exec (.bootStageDone ra rb rg) s = .next (s.f BOOT_STS_STAGE 2)) ∧
  (∀ s ra rb rg, s.sys.pstate ≠ .off → s.sys.tap = false → s.sys.final = 0 → s.g BOOT_STS_STAGE = 3 →
    ∃ t, exec (.bootStageDone ra rb rg) s = .next t ∧ t.on BOOT_IMG_AVALID = (ra && imgReason s.boot.a s.boot.keyDigest == 0) ∧
      t.on BOOT_IMG_BVALID = (rb && imgReason s.boot.b s.boot.keyDigest == 0) ∧
      t.g BOOT_STS_STAGE = (if (t.on BOOT_IMG_AVALID || t.on BOOT_IMG_BVALID) then 4 else 0xA) ∧ t = { s with regs := t.regs }) ∧
  (∀ s, s.sys.pstate ≠ .off → s.g BOOT_STS_STAGE = 1 → s.on CLK_STS_XINOK = false → s.past s.sys.porstAt 5000 = true →
    exec .bootStageTimeout s = .next (s.f CLK_STS_FAIL 1)) ∧
  (∀ s, s.sys.pstate ≠ .off → s.g BOOT_STS_STAGE = 1 → s.on CLK_STS_XINOK = true → s.sys.pgWait = false → s.sys.pmicPg = false →
    s.sys.pmicEn = true → s.past s.sys.pmicAt 10000 = true →
    exec .bootStageTimeout s = .next { s with sys := { s.sys with pgWait := true, pmicEn := false, pmicAt := s.time.cyc } }) ∧
  (∀ s, s.sys.pstate ≠ .off → s.g BOOT_STS_STAGE = 1 → s.on CLK_STS_XINOK = true → s.sys.pgWait = true → s.past s.sys.pmicAt 100000 = true →
    ∃ t, exec .bootStageTimeout s = .next t ∧ t.sys.pmicEn = true ∧ t.sys.pgWait = false ∧ t = { s with regs := t.regs, sys := t.sys }) ∧
  (∀ s, s.sys.pstate ≠ .off → s.g BOOT_STS_STAGE = 3 → s.past s.sys.pgAt 20000 = true →
    exec .bootStageTimeout s = .next (s.f BOOT_STS_STAGE 0xA)) ∧
  (∀ s wr ofs v, s.sys.hostLink = true → s.g BOOT_STS_STAGE < 8 →
    exec (.configRequest wr ofs v) s = .next { s with sys := { s.sys with cfgRetry := true } }) ∧
  (∀ s ofs v, s.sys.hostLink = true → 8 ≤ s.g BOOT_STS_STAGE →
    ∃ t, exec (.configRequest true ofs v) s = .next t ∧ t.sys.cfg.get (fun _ => 0) (ofs / 4 * 4) = v.toNat ∧ t.sys.cfgRetry = false ∧
      t = { s with sys := t.sys }) ∧
  (∀ s ofs v n, s.sys.hostLink = true → 8 ≤ s.g BOOT_STS_STAGE → s.cfgWord (ofs / 4 * 4) = some n →
    ∃ t, exec (.configRequest false ofs v) s = .next t ∧ t.rdata = n ∧ t.sys.cfg = s.sys.cfg) ∧
  (∀ s, s.Accepts rBOOT_UPCTL 1 → s.awake.g BOOT_UPSTS_STATE ≠ 1 → s.awake.on MEM_CFG_EN = true →
    ∃ t, exec .updateGo s = .next t ∧ t.g BOOT_UPSTS_STATE = 1 ∧ t.g BOOT_UPSTS_REASON = 0 ∧ t = { s.awake with regs := t.regs, boot := t.boot }) ∧
  (∀ s, s.Accepts rBOOT_UPCTL 1 → s.awake.g BOOT_UPSTS_STATE = 1 → exec .updateGo s = .next (s.awake.discard rBOOT_UPCTL 0 0 BUSY)) ∧
  (∀ s st b, s.g BOOT_UPSTS_STATE = 1 → ∃ t, exec (.updateDone false st b) s = .next t ∧ t.g BOOT_UPSTS_STATE = 3 ∧
    t.g BOOT_UPSTS_REASON = 4 ∧ t.boot = s.boot) ∧
  (∀ s b, s.g BOOT_UPSTS_STATE = 1 → s.rgnWorn 1 = false → ∃ t, exec (.updateDone true true b) s = .next t ∧
    (imgReason b s.boot.keyDigest ≠ 0 → t.g BOOT_UPSTS_STATE = 3 ∧ t.g BOOT_UPSTS_REASON = imgReason b s.boot.keyDigest) ∧
    (imgReason b s.boot.keyDigest = 0 → (∀ q, s.runSeq = some q → q < imgSeq b) → t.g BOOT_UPSTS_STATE = 2 ∧ t.g BOOT_UPSTS_REASON = 0) ∧
    (if s.updB then t.boot.b else t.boot.a) = b) ∧
  (∀ s, s.Accepts rBOOT_GCTL 1 → s.awake.rgnWorn 2 = false → s.awake.sw ≠ swSTORING → s.awake.boot.gop = none →
    ∃ t, exec .guardImageStore s = .next t ∧ t.boot.gop = some s.awake.guardImage ∧ t.on BOOT_GSTS_BUSY = true ∧
      t = { s.awake with regs := t.regs, boot := t.boot }) ∧
  (∀ s, s.Accepts rBOOT_GCTL 2 → s.awake.rgnWorn 2 = false → s.awake.sw ≠ swSTORING → s.awake.boot.gop = none →
    ∃ t, exec .guardImageErase s = .next t ∧ t.boot.gop = some [] ∧ t.boot.guard = s.awake.boot.guard ∧ t.on BOOT_GSTS_BUSY = true ∧
      t = { s.awake with regs := t.regs, boot := t.boot }) ∧
  (∀ s b, s.boot.gop = some b → ∃ t, exec (.guardImageDone true) s = .next t ∧ t.boot.guard = b ∧ t.boot.gop = none ∧
    t.on BOOT_GSTS_BUSY = false) ∧
  (∀ s b, s.boot.gop = some b → ∃ t, exec (.guardImageDone false) s = .next t ∧ t.boot.guard = s.boot.guard ∧ t.boot.gop = none ∧
    t.on BOOT_GSTS_BUSY = false ∧ t.rgnWorn 2 = true) ∧
  (∀ s ir cells, ir = 0 ∨ ir = 3 ∨ ir = 4 → s.sys.tap = false → s.mayReset = true → s.booting = false → s.sys.rst = none →
    ∃ t, exec (.tapIsolate ir cells) s = .next t ∧ t.sys.ir = ir ∧ t.sys.cells = cells ∧ t.sys.tap = true ∧ t.sys.rst = none ∧
      t.on RST_STS_READY = false) ∧
  (∀ s ir, ir < 256 → ir ≠ 0 → ir ≠ 3 → ir ≠ 4 → s.sys.tap = true → s.mayReset = true → s.booting = false → s.sys.rst = none →
    ∃ t, exec (.tapRelease ir) s = .next t ∧ t.sys.ir = ir ∧ t.sys.tap = false ∧
      t.sys.rst = some { kind := .core, src := 3, step := 2, t0 := s.elapsed } ∧ t.g RST_CAUSE_SRC = 3 ∧ t = { s with regs := t.regs, sys := t.sys })

/-- ofs is a register of block b in the register map: element (i, j) of r, written through the map's own table. -/
abbrev Sys2Proof.Machine.RegHere (ofs : Nat) (b : Blk) (r : Reg) (i j : Nat) : Prop :=
  ofs < 0x3E000 ∧ ofs % 4 = 0 ∧ blkAt ofs = some b ∧ ofs ≠ b.err ∧ regAt ofs = some (r, i, j) ∧ r.off ≠ rMEM_AP.off ∧ guardMonReg r i = false

/-- A write of a register (R8, R654): it takes the word in its RW and RWL fields and clears its W1C fields where the word has ones, and
nothing else changes, unless the register has an action of its own; a read-only register ignores it; with its clock stopped, its lock set or
its word refused it is discarded whole and its block's error status says why; eight bytes write two registers, and BAR2 goes to the doorbells. -/
def Obligations.RegisterWritesComplete : Prop :=
  (∀ s ofs b r i j v w, RegHere ofs b r i j → r.readOnly = false → (barActs.any fun k => k.1 == r.off) = false → s.Accepts r v →
    ∃ t, exec (.registerWrite false ofs 4 v w) s = .next t ∧ t.rd (r.at i j) = r.merge (s.awake.rd (r.at i j)) v ∧
      (∀ o, o ≠ r.at i j → t.rd o = s.awake.rd o) ∧ t = { s.awake with regs := t.regs }) ∧
  (∀ s ofs b r i j v w, RegHere ofs b r i j → r.readOnly = true → s.awake.stopped r.err = false →
    exec (.registerWrite false ofs 4 v w) s = .next s.awake) ∧
  (∀ s ofs b r i j v w, RegHere ofs b r i j → s.awake.stopped r.err = true →
    exec (.registerWrite false ofs 4 v w) s = .next (s.awake.clockStopped (r.at i j))) ∧
  (∀ s ofs b r i j v w, RegHere ofs b r i j → r.readOnly = false → r.lockable = true → s.awake.stopped r.err = false →
    s.awake.on GRD_LOCK_LOCK = true → exec (.registerWrite false ofs 4 v w) s = .next (s.awake.err r.err (r.at i j) LOCKED)) ∧
  (∀ s ofs b r i j v w c, RegHere ofs b r i j → r.readOnly = false → s.awake.stopped r.err = false →
    (r.lockable = true → s.awake.on GRD_LOCK_LOCK = false) → r.check v = some c →
    ∃ t, exec (.registerWrite false ofs 4 v w) s = .next t ∧ t = s.awake.err r.err (r.at i j) c ∧
      (Loud (r.at i j) → r.at i j ≠ r.err → t.rd (r.at i j) = s.awake.rd (r.at i j))) ∧
  (∀ s ofs b v w, ofs < 0x3E000 → ofs % 4 = 0 → blkAt ofs = some b → ofs ≠ b.err → regAt ofs = none → s.awake.stopped b.err = false →
    exec (.registerWrite false ofs 4 v w) s = .next (s.awake.err b.err ofs OUT_OF_RANGE)) ∧
  (∀ s ofs v w, ofs % 8 = 0 → exec (.registerWrite false ofs 8 v w) s = .next ((s.bar0Word ofs v).bar0Word (ofs + 4) w)) ∧
  (∀ s ofs v w, ofs % 4 = 0 → exec (.registerWrite true ofs 4 v w) s = .next (s.bar2Word ofs v))

/-- Reserved bits and encodings (R9): a word with a one in a bit that no field of a register of the map has is refused with RESERVED_NONZERO, and so is a
word with a reserved encoding; a read shows zero in every bit no field has. -/
def Obligations.ReservedBitsRefused : Prop :=
  (∀ ofs b r i j k (v : Word), RegHere ofs b r i j → k < 32 → wbit v k = true →
    (r.fds.any fun f => decide (f.lo ≤ k) && decide (k ≤ f.hi)) = false → r.check v = some RESERVED_NONZERO) ∧
  (∀ ofs b r i j (v : Word), RegHere ofs b r i j → (∃ f ∈ r.fds, f.acc ≠ .ro ∧ f.isReserved = true ∧ f.ok v.toNat = false) →
    r.check v = some RESERVED_NONZERO) ∧
  (∀ (s : State) ofs b r i j k, RegHere ofs b r i j → s.awake.stopped b.err = false →
    (r.fds.any fun f => decide (f.lo ≤ k) && decide (k ≤ f.hi)) = false → nbit (s.bar0Read ofs).rdata k = false)

/-- Discarded writes are counted (R10, R11): with COUNT not zero another discarded write increments it, to 127 at most, and leaves CODE and WORD; the
first one records its own; and a write to an error status itself is never discarded. -/
def Obligations.DiscardsCounted : Prop :=
  (∀ (s : State) b ofs code, b ∈ blocks → 0 < wbits (s.rd b.err) 14 8 →
    wbits ((s.err b.err ofs code).rd b.err) 14 8 = min (wbits (s.rd b.err) 14 8 + 1) 127 ∧
    wbits ((s.err b.err ofs code).rd b.err) 7 0 = wbits (s.rd b.err) 7 0 ∧ wbits ((s.err b.err ofs code).rd b.err) 31 16 = wbits (s.rd b.err) 31 16) ∧
  (∀ (s : State) b ofs code, b ∈ blocks → wbits (s.rd b.err) 14 8 = 0 → code < 256 → ofs < 0x40000 →
    wbits ((s.err b.err ofs code).rd b.err) 14 8 = 1 ∧
    wbits ((s.err b.err ofs code).rd b.err) 7 0 = code ∧ wbits ((s.err b.err ofs code).rd b.err) 31 16 = ofs / 4) ∧
  (∀ s b v w, b ∈ blocks → s.awake.stopped b.err = false →
    ∃ t, exec (.registerWrite false b.err 4 v w) s = .next t ∧ t.rd b.err = (if wbit v 15 then 0 else s.awake.rd b.err) ∧
      (∀ o, o ≠ b.err → t.rd o = s.awake.rd o) ∧ t = { s.awake with regs := t.regs })

/-- The line code and the pins (R64-R66, R641, R645-R647, R649, R650): the groups of a frame of bytes, after its four /P/, read back as those bytes, whatever
they are (the tables of 8b/10b are taken from outside the spec, notes/assumptions/208.md); a pin of a bank without its supply is high-impedance, with TAP or without;
no TAP instruction moves a guard output; and the TAP captures its identity, or the one bit of BYPASS for a code the spec does not list. -/
def Obligations.LineCodeAndPinsHold : Prop :=
  (∀ bs : List Nat, (∀ b ∈ bs, b < 256) → lineFrame ((lineGroups bs).drop 4) = some bs) ∧
  (∀ (s : State) (p : Pin) b, p.bank = some b → s.vioOn b = false → s.pin p = .z) ∧
  (∀ (s : State) (p : Pin), (p.type = .go ∨ ∃ x, p = .lpDrv x) → s.pin p = s.pinIn s.pinCol p) ∧
  (∀ (s : State) x code, x < 32 → s.sys.pstate ≠ .off → ({ s with sys := { s.sys with ir := code } } : State).pin (.segEn x) = .drive (s.guState x == guON)) ∧
  (∀ (s : State) lv, s.sys.ir = 1 → s.tapCapture lv = (List.range 32).map fun k => nbit 0x271405CB k) ∧
  (∀ (s : State) lv, 4 < s.sys.ir → s.tapCapture lv = [false])
end

