-- ==== Sys2Proof/Laws/Tbl.lean ====
section
/-! SUPPORT. Sparse tables: a read after a write, the other entries after a write, and the canonical form each operation keeps. -/
set_option Elab.async false
namespace Sys2Proof

theorem Tbl.getL_eraseL_self {α : Type} (d : Nat → α) (k : Nat) (l : List (Nat × α)) : Tbl.getL d k (Tbl.eraseL k l) = d k := by
  induction l with
  | nil => rfl
  | cons c t ih => simp only [Tbl.eraseL]; split <;> simp_all [Tbl.getL]

theorem Tbl.getL_eraseL_ne {α : Type} (d : Nat → α) {j k : Nat} (h : j ≠ k) (l : List (Nat × α)) :
    Tbl.getL d j (Tbl.eraseL k l) = Tbl.getL d j l := by
  induction l with
  | nil => rfl
  | cons c t ih =>
    simp only [Tbl.eraseL]
    split
    · next e => rw [ih, Tbl.getL, if_neg (by omega)]
    · simp only [Tbl.getL, ih]

theorem Tbl.getL_putL_self {α : Type} (d : Nat → α) (k : Nat) (v : α) (l : List (Nat × α)) : Tbl.getL d k (Tbl.putL k v l) = v := by
  induction l with
  | nil => simp [Tbl.putL, Tbl.getL]
  | cons c t ih =>
    simp only [Tbl.putL]
    split
    · simp [Tbl.getL]
    · split
      · simp [Tbl.getL]
      · rw [Tbl.getL, if_neg (by omega), ih]

theorem Tbl.getL_putL_ne {α : Type} (d : Nat → α) {j k : Nat} (h : j ≠ k) (v : α) (l : List (Nat × α)) :
    Tbl.getL d j (Tbl.putL k v l) = Tbl.getL d j l := by
  induction l with
  | nil => simp [Tbl.putL, Tbl.getL, Ne.symm h]
  | cons c t ih =>
    simp only [Tbl.putL]
    split
    · rw [Tbl.getL, if_neg (Ne.symm h)]
    · split
      · next e => rw [Tbl.getL, if_neg (Ne.symm h), Tbl.getL, if_neg (by omega)]
      · simp only [Tbl.getL, ih]

/-- An entry reads back as it was written. -/
@[simp] theorem Tbl.get_set_self {α : Type} [DecidableEq α] (t : Tbl α) (d : Nat → α) (k : Nat) (v : α) : (t.set d k v).get d k = v := by
  unfold Tbl.set
  split
  · next h => simp [Tbl.get, Tbl.getL_eraseL_self, h]
  · simp [Tbl.get, Tbl.getL_putL_self]

/-- A write leaves every other entry alone. -/
theorem Tbl.get_set_ne {α : Type} [DecidableEq α] (t : Tbl α) (d : Nat → α) {j k : Nat} (h : j ≠ k) (v : α) :
    (t.set d k v).get d j = t.get d j := by
  unfold Tbl.set
  split
  · simp [Tbl.get, Tbl.getL_eraseL_ne d h]
  · simp [Tbl.get, Tbl.getL_putL_ne d h]

theorem Tbl.sortedFrom_mono {α : Type} {n m : Nat} (h : n ≤ m) : (l : List (Nat × α)) → Tbl.sortedFrom m l = true → Tbl.sortedFrom n l = true
  | [], _ => rfl
  | (j, _) :: t, hs => by
    simp only [Tbl.sortedFrom, Bool.and_eq_true, decide_eq_true_eq] at *
    exact ⟨by omega, hs.2⟩

theorem Tbl.sortedFrom_filter {α : Type} (p : Nat × α → Bool) : (n : Nat) → (l : List (Nat × α)) → Tbl.sortedFrom n l = true →
    Tbl.sortedFrom n (l.filter p) = true
  | _, [], _ => rfl
  | n, (j, x) :: t, hs => by
    simp only [Tbl.sortedFrom, Bool.and_eq_true, decide_eq_true_eq] at hs
    have ih := Tbl.sortedFrom_filter p (j + 1) t hs.2
    rw [List.filter_cons]
    split
    · simp [Tbl.sortedFrom, hs.1, ih]
    · exact Tbl.sortedFrom_mono (by omega) _ ih

theorem Tbl.sortedFrom_eraseL {α : Type} (k : Nat) : (n : Nat) → (l : List (Nat × α)) → Tbl.sortedFrom n l = true →
    Tbl.sortedFrom n (Tbl.eraseL k l) = true
  | _, [], _ => rfl
  | n, (j, x) :: t, hs => by
    simp only [Tbl.sortedFrom, Bool.and_eq_true, decide_eq_true_eq] at hs
    have ih := Tbl.sortedFrom_eraseL k (j + 1) t hs.2
    rw [Tbl.eraseL]
    split
    · exact Tbl.sortedFrom_mono (by omega) _ ih
    · simp [Tbl.sortedFrom, hs.1, ih]

theorem Tbl.sortedFrom_putL {α : Type} (k : Nat) (v : α) : (n : Nat) → n ≤ k → (l : List (Nat × α)) → Tbl.sortedFrom n l = true →
    Tbl.sortedFrom n (Tbl.putL k v l) = true
  | n, h, [], _ => by simp [Tbl.putL, Tbl.sortedFrom, h]
  | n, h, (j, x) :: t, hs => by
    simp only [Tbl.sortedFrom, Bool.and_eq_true, decide_eq_true_eq] at hs
    rw [Tbl.putL]
    split
    · next e => simp [Tbl.sortedFrom, h, Nat.succ_le_of_lt e, hs.2]
    · split
      · next e => subst e; simp [Tbl.sortedFrom, h, hs.2]
      · simp [Tbl.sortedFrom, hs.1, Tbl.sortedFrom_putL k v (j + 1) (by omega) t hs.2]

theorem Tbl.all_eraseL {α : Type} (p : Nat × α → Bool) (k : Nat) (l : List (Nat × α)) (h : l.all p = true) : (Tbl.eraseL k l).all p = true := by
  induction l with
  | nil => rfl
  | cons c t ih =>
    simp only [List.all_cons, Bool.and_eq_true] at h
    simp only [Tbl.eraseL]
    split
    · exact ih h.2
    · simp [h.1, ih h.2]

theorem Tbl.all_putL {α : Type} (p : Nat × α → Bool) (k : Nat) (v : α) (hv : p (k, v) = true) (l : List (Nat × α)) (h : l.all p = true) :
    (Tbl.putL k v l).all p = true := by
  induction l with
  | nil => simp [Tbl.putL, hv]
  | cons c t ih =>
    simp only [List.all_cons, Bool.and_eq_true] at h
    simp only [Tbl.putL]
    split
    · simp [hv, h.1, h.2]
    · split
      · simp [hv, h.2]
      · simp [h.1, ih h.2]

/-- A write keeps the canonical form. -/
theorem Tbl.set_wf {α : Type} [DecidableEq α] {t : Tbl α} {d : Nat → α} (h : t.wf d = true) (k : Nat) (v : α) : (t.set d k v).wf d = true := by
  simp only [Tbl.wf, Bool.and_eq_true] at h
  unfold Tbl.set
  split
  · simp only [Tbl.wf, Bool.and_eq_true]
    exact ⟨Tbl.sortedFrom_eraseL k 0 _ h.1, Tbl.all_eraseL _ k _ h.2⟩
  · next hv =>
    simp only [Tbl.wf, Bool.and_eq_true]
    exact ⟨Tbl.sortedFrom_putL k v 0 (Nat.zero_le _) _ h.1, Tbl.all_putL _ k v (by simp [hv]) _ h.2⟩

/-- Giving up entries keeps the canonical form. -/
theorem Tbl.filter_wf {α : Type} [DecidableEq α] {t : Tbl α} {d : Nat → α} (h : t.wf d = true) (p : Nat × α → Bool) :
    Tbl.wf ⟨t.cells.filter p⟩ d = true := by
  simp only [Tbl.wf, Bool.and_eq_true, List.all_eq_true] at h ⊢
  exact ⟨Tbl.sortedFrom_filter p 0 _ h.1, fun c hc => h.2 c ((List.mem_filter.mp hc).1)⟩

end Sys2Proof
end

