-- ==== Sys2Proof/Laws/Fields.lean ====
section
/-! SUPPORT. Registers and their fields: what reading a register or a field gives after a write. -/
set_option Elab.async false
namespace Sys2Proof

theorem nput_eq {n hi lo : Nat} (h : lo ≤ hi + 1) (v : Nat) :
    nput n hi lo v = n / 2 ^ (hi + 1) * 2 ^ (hi + 1) + v % 2 ^ (hi + 1 - lo) * 2 ^ lo + n % 2 ^ lo := by
  have e : 2 ^ (hi + 1) = 2 ^ lo * 2 ^ (hi + 1 - lo) := by rw [← Nat.pow_add]; congr 1; omega
  have h1 := Nat.div_add_mod n (2 ^ lo)
  have h2 := Nat.div_add_mod (n / 2 ^ lo) (2 ^ (hi + 1 - lo))
  have h3 : n / 2 ^ (hi + 1) = n / 2 ^ lo / 2 ^ (hi + 1 - lo) := by rw [e, Nat.div_div_eq_div_mul]
  unfold nput nbits
  rw [h3, e]
  generalize n / 2 ^ lo = a at *
  generalize hq : a / 2 ^ (hi + 1 - lo) = q at *
  generalize hr : a % 2 ^ (hi + 1 - lo) = r at *
  have h4 : q * (2 ^ lo * 2 ^ (hi + 1 - lo)) = 2 ^ lo * (2 ^ (hi + 1 - lo) * q) := by
    rw [Nat.mul_comm q, Nat.mul_assoc]
  have h5 : n = 2 ^ lo * (2 ^ (hi + 1 - lo) * q) + 2 ^ lo * r + n % 2 ^ lo := by
    rw [← Nat.mul_add, h2, h1]
  have h6 : r * 2 ^ lo = 2 ^ lo * r := Nat.mul_comm _ _
  rw [h4, h6]
  omega

theorem nput_lt {n hi lo v : Nat} (h : lo ≤ hi + 1) (hn : n < 2 ^ 32) (hh : hi < 32) : nput n hi lo v < 2 ^ 32 := by
  rw [nput_eq h]
  have hs : 2 ^ 32 = 2 ^ (hi + 1) * 2 ^ (32 - (hi + 1)) := by rw [← Nat.pow_add]; congr 1; omega
  have e : 2 ^ (hi + 1) = 2 ^ lo * 2 ^ (hi + 1 - lo) := by rw [← Nat.pow_add]; congr 1; omega
  have hm : v % 2 ^ (hi + 1 - lo) + 1 ≤ 2 ^ (hi + 1 - lo) := Nat.mod_lt _ (Nat.two_pow_pos _)
  have hl : n % 2 ^ lo < 2 ^ lo := Nat.mod_lt _ (Nat.two_pow_pos _)
  have hq : n / 2 ^ (hi + 1) + 1 ≤ 2 ^ (32 - (hi + 1)) := Nat.div_lt_of_lt_mul (by rw [← hs]; exact hn)
  have h1 := Nat.mul_le_mul_right (2 ^ lo) hm
  have h2 := Nat.mul_le_mul_right (2 ^ (hi + 1)) hq
  rw [Nat.add_mul, Nat.one_mul] at h1 h2
  rw [Nat.mul_comm (2 ^ (hi + 1 - lo)), ← e] at h1
  rw [Nat.mul_comm (2 ^ (32 - (hi + 1))), ← hs] at h2
  omega

theorem nbits_nput_self {n hi lo : Nat} (h : lo ≤ hi + 1) (v : Nat) : nbits (nput n hi lo v) hi lo = v % 2 ^ (hi + 1 - lo) := by
  have e : 2 ^ (hi + 1) = 2 ^ lo * 2 ^ (hi + 1 - lo) := by rw [← Nat.pow_add]; congr 1; omega
  rw [nput_eq h, nbits]
  have hl : n % 2 ^ lo < 2 ^ lo := Nat.mod_lt _ (Nat.two_pow_pos _)
  have e2 : n / 2 ^ (hi + 1) * 2 ^ (hi + 1) + v % 2 ^ (hi + 1 - lo) * 2 ^ lo + n % 2 ^ lo =
      2 ^ lo * (2 ^ (hi + 1 - lo) * (n / 2 ^ (hi + 1)) + v % 2 ^ (hi + 1 - lo)) + n % 2 ^ lo := by
    rw [Nat.mul_add, ← Nat.mul_assoc, ← e, Nat.mul_comm (2 ^ (hi + 1)), Nat.mul_comm (2 ^ lo)]
  rw [e2, Nat.mul_add_div (Nat.two_pow_pos _), Nat.div_eq_of_lt hl, Nat.add_zero, Nat.mul_add_mod, Nat.mod_mod]

theorem nbits_nput_above {n hi lo h l : Nat} (hl : lo ≤ hi + 1) (v : Nat) (ha : hi < l) : nbits (nput n hi lo v) h l = nbits n h l := by
  have e : 2 ^ (hi + 1) = 2 ^ lo * 2 ^ (hi + 1 - lo) := by rw [← Nat.pow_add]; congr 1; omega
  have es : 2 ^ l = 2 ^ (hi + 1) * 2 ^ (l - (hi + 1)) := by rw [← Nat.pow_add]; congr 1; omega
  have hm : v % 2 ^ (hi + 1 - lo) + 1 ≤ 2 ^ (hi + 1 - lo) := Nat.mod_lt _ (Nat.two_pow_pos _)
  have hlo : n % 2 ^ lo < 2 ^ lo := Nat.mod_lt _ (Nat.two_pow_pos _)
  have h1 := Nat.mul_le_mul_right (2 ^ lo) hm
  rw [Nat.add_mul, Nat.one_mul, Nat.mul_comm (2 ^ (hi + 1 - lo)), ← e] at h1
  have hx : v % 2 ^ (hi + 1 - lo) * 2 ^ lo + n % 2 ^ lo < 2 ^ (hi + 1) := by omega
  rw [nput_eq hl, nbits, nbits, es, ← Nat.div_div_eq_div_mul, ← Nat.div_div_eq_div_mul, Nat.add_assoc,
    Nat.mul_comm (n / 2 ^ (hi + 1)), Nat.mul_add_div (Nat.two_pow_pos _), Nat.div_eq_of_lt hx, Nat.add_zero]

theorem nbits_nput_below {n hi lo h l : Nat} (hl : lo ≤ hi + 1) (v : Nat) (ha : h < lo) : nbits (nput n hi lo v) h l = nbits n h l := by
  have e : 2 ^ (hi + 1) = 2 ^ lo * 2 ^ (hi + 1 - lo) := by rw [← Nat.pow_add]; congr 1; omega
  have e2 : nput n hi lo v = 2 ^ lo * (2 ^ (hi + 1 - lo) * (n / 2 ^ (hi + 1)) + v % 2 ^ (hi + 1 - lo)) + n % 2 ^ lo := by
    rw [nput_eq hl, Nat.mul_add, ← Nat.mul_assoc, ← e, Nat.mul_comm (2 ^ (hi + 1)), Nat.mul_comm (2 ^ lo)]
  have key : ∀ m : Nat, nbits m h l = m % 2 ^ (h + 1) / 2 ^ l % 2 ^ (h + 1 - l) := by
    intro m
    unfold nbits
    rcases Nat.lt_or_ge h l with hc | hc
    · have : h + 1 - l = 0 := by omega
      rw [this]; simp [Nat.mod_one]
    · have ee : 2 ^ (h + 1) = 2 ^ l * 2 ^ (h + 1 - l) := by rw [← Nat.pow_add]; congr 1; omega
      rw [ee, Nat.mod_mul_right_div_self, Nat.mod_mod]
  have hd : 2 ^ lo = 2 ^ (h + 1) * 2 ^ (lo - (h + 1)) := by rw [← Nat.pow_add]; congr 1; omega
  rw [key, key n, e2]
  have : (2 ^ lo * (2 ^ (hi + 1 - lo) * (n / 2 ^ (hi + 1)) + v % 2 ^ (hi + 1 - lo)) + n % 2 ^ lo) % 2 ^ (h + 1) = n % 2 ^ (h + 1) := by
    rw [hd, Nat.mul_assoc, Nat.mul_add_mod, Nat.mod_mul_right_mod]
  rw [this]

end Sys2Proof

namespace Sys2Proof.Machine

@[simp] theorem State.rd_wr_self (s : State) (o : Nat) (v : Word) : (s.wr o v).rd o = v := Tbl.get_set_self _ _ _ _

theorem State.rd_wr_ne (s : State) {o p : Nat} (v : Word) (h : p ≠ o) : (s.wr o v).rd p = s.rd p := Tbl.get_set_ne _ _ h _

/-- A field reads back as it was written, modulo its size. -/
theorem State.g_f_self (s : State) {f : Fld} (h : f.fits) (v : Nat) : (s.f f v).g f = v % 2 ^ (f.hi + 1 - f.lo) := by
  unfold State.g State.f
  rw [State.rd_wr_self, wbits, wput, BitVec.toNat_ofNat, Nat.mod_eq_of_lt (nput_lt (by have := h.1; omega) (BitVec.isLt _) h.2)]
  exact nbits_nput_self (by have := h.1; omega) v

/-- A register is not changed by a write to a field of another. -/
theorem State.rd_f_ne (s : State) {f : Fld} (v : Nat) {o : Nat} (h : o ≠ f.off) : (s.f f v).rd o = s.rd o := State.rd_wr_ne s _ h

/-- A field is not changed by a write to one that shares no bit with it. -/
theorem State.g_f_apart (s : State) {f g : Fld} (hf : f.fits) (v : Nat) (h : g.apart f) : (s.f f v).g g = s.g g := by
  unfold State.g
  by_cases e : g.off = f.off
  · unfold State.f
    rw [e, State.rd_wr_self, wbits, wbits, wput, BitVec.toNat_ofNat, Nat.mod_eq_of_lt (nput_lt (by have := hf.1; omega) (BitVec.isLt _) hf.2)]
    rcases h with h | h | h
    · exact absurd e h
    · exact nbits_nput_below (by have := hf.1; omega) v h
    · exact nbits_nput_above (by have := hf.1; omega) v h
  · rw [State.rd_f_ne s v e]

/-- A field reads back as it was written when the value fits. -/
theorem State.g_f_lt (s : State) {f : Fld} (h : f.fits) {v : Nat} (hv : v < 2 ^ (f.hi + 1 - f.lo)) : (s.f f v).g f = v := by
  rw [State.g_f_self s h, Nat.mod_eq_of_lt hv]

/-- Every field of a list reads 0 once they are zeroed. -/
theorem State.zero_g (s : State) (fs : List Fld) (hf : ∀ f ∈ fs, f.fits) (hd : fs.Pairwise Fld.apart) : ∀ f ∈ fs, (s.zero fs).g f = 0 := by
  induction fs generalizing s with
  | nil => intro f h; cases h
  | cons x l ih =>
    intro f h
    have hx := List.pairwise_cons.mp hd
    rcases List.mem_cons.mp h with e | h
    · subst e
      have key : ∀ (l : List Fld) (s : State), (∀ g ∈ l, g.fits ∧ f.apart g) → (State.zero s l).g f = s.g f := by
        intro l
        induction l with
        | nil => intros; rfl
        | cons y l ih2 =>
          intro s hl
          show (State.zero (s.f y 0) l).g f = _
          rw [ih2 _ fun g hg => hl g (List.mem_cons_of_mem _ hg), State.g_f_apart s (hl y (List.mem_cons_self ..)).1 0 (hl y (List.mem_cons_self ..)).2]
      show (State.zero (s.f f 0) l).g f = 0
      rw [key l _ fun g hg => ⟨hf g (List.mem_cons_of_mem _ hg), hx.1 g hg⟩, State.g_f_self s (hf f (List.mem_cons_self ..)), Nat.zero_mod]
    · exact ih (s.f x 0) (fun g hg => hf g (List.mem_cons_of_mem _ hg)) hx.2 f h

/-- Zeroing fields leaves every field that shares no bit with them. -/
theorem State.zero_g_apart (s : State) (fs : List Fld) (hf : ∀ f ∈ fs, f.fits) (g : Fld) (hg : ∀ f ∈ fs, g.apart f) : (s.zero fs).g g = s.g g := by
  induction fs generalizing s with
  | nil => rfl
  | cons x l ih =>
    show (State.zero (s.f x 0) l).g g = _
    rw [ih _ (fun f h => hf f (List.mem_cons_of_mem _ h)) fun f h => hg f (List.mem_cons_of_mem _ h),
      State.g_f_apart s (hf x (List.mem_cons_self ..)) 0 (hg x (List.mem_cons_self ..))]

/-- Zeroing fields changes the register map alone. -/
theorem State.zero_eq (s : State) (fs : List Fld) : s.zero fs = { s with regs := (s.zero fs).regs } := by
  induction fs generalizing s with
  | nil => rfl
  | cons x l ih => exact ih (s.f x 0)

end Sys2Proof.Machine
end

