-- ==== Sys2Proof/Laws/PerInstr.lean ====
section
/-! SUPPORT. One lemma per command: spec/opcode_table.json gives no row any bits, so no word spells a command and `decodeTableWord` answers
none. -/
set_option Elab.async false
namespace Sys2Proof.Laws.NoTableWord

/-- No word of the opcode table spells the command. -/
def Statement (i : Instr) : Prop := ∀ nbits w : Nat, decodeTableWord nbits w ≠ some i

theorem all (i : Instr) : Statement i := fun _ _ h => nomatch h

theorem registerWrite (a0 : Bool) (a1 : Nat) (a2 : Nat) (a3 : Word) (a4 : Word) : Statement (.registerWrite a0 a1 a2 a3 a4) := all _
theorem errstsClr (a0 : Nat) (a1 : Word) : Statement (.errstsClr a0 a1) := all _
theorem timeReq (a0 : Nat) (a1 : List Nat) (a2 : Nat) : Statement (.timeReq a0 a1 a2) := all _
theorem timeResp (a0 : Nat) (a1 : List Nat) : Statement (.timeResp a0 a1) := all _
theorem syncEdgeInput (a0 : Bool) : Statement (.syncEdgeInput a0) := all _
theorem syncutcWrite (a0 : Word) : Statement (.syncutcWrite a0) := all _
theorem timerEnable (a0 : Nat) (a1 : Word) : Statement (.timerEnable a0 a1) := all _
theorem timerStartAtCt (a0 : Nat) : Statement (.timerStartAtCt a0) := all _
theorem timerCounterWrite (a0 : Nat) (a1 : Word) : Statement (.timerCounterWrite a0 a1) := all _
theorem compareArm (a0 : Nat) (a1 : Nat) (a2 : Word) : Statement (.compareArm a0 a1 a2) := all _
theorem compareMatch (a0 : Nat) (a1 : Nat) : Statement (.compareMatch a0 a1) := all _
theorem captureEntry (a0 : Nat) (a1 : Bool) : Statement (.captureEntry a0 a1) := all _
theorem captureHeadHold (a0 : Nat) (a1 : Nat) : Statement (.captureHeadHold a0 a1) := all _
theorem capturePop (a0 : Nat) (a1 : Nat) : Statement (.capturePop a0 a1) := all _
theorem captureClr (a0 : Nat) (a1 : Nat) (a2 : Word) : Statement (.captureClr a0 a1 a2) := all _
theorem busEnable (a0 : Nat) (a1 : Word) : Statement (.busEnable a0 a1) := all _
theorem beaconTransmit (a0 : Nat) : Statement (.beaconTransmit a0) := all _
theorem dataFrameReceived (a0 : Nat) (a1 : Int) (a2 : List Nat) : Statement (.dataFrameReceived a0 a1 a2) := all _
theorem unknownFrame (a0 : Nat) (a1 : Int) (a2 : List Nat) : Statement (.unknownFrame a0 a1 a2) := all _
theorem joinFrameReceived (a0 : Nat) (a1 : Int) (a2 : List Nat) : Statement (.joinFrameReceived a0 a1 a2) := all _
theorem immediateReplyReceived (a0 : Nat) (a1 : Int) (a2 : List Nat) : Statement (.immediateReplyReceived a0 a1 a2) := all _
theorem nodeSilent (a0 : Nat) (a1 : Nat) : Statement (.nodeSilent a0 a1) := all _
theorem linefault (a0 : Nat) : Statement (.linefault a0) := all _
theorem probationEnd (a0 : Nat) (a1 : Nat) : Statement (.probationEnd a0 a1) := all _
theorem nodeDeadmitSilence (a0 : Nat) (a1 : Nat) : Statement (.nodeDeadmitSilence a0 a1) := all _
theorem nodeCommandTimeout (a0 : Nat) (a1 : Nat) : Statement (.nodeCommandTimeout a0 a1) := all _
theorem admissionStep (a0 : Nat) : Statement (.admissionStep a0) := all _
theorem layoutChange (a0 : Nat) : Statement (.layoutChange a0) := all _
theorem layoutEffective (a0 : Nat) : Statement (.layoutEffective a0) := all _
theorem nodeDrop (a0 : Nat) (a1 : Nat) : Statement (.nodeDrop a0 a1) := all _
theorem busCounterClr (a0 : Nat) (a1 : Word) : Statement (.busCounterClr a0 a1) := all _
theorem admissionCounterClr (a0 : Nat) (a1 : Word) : Statement (.admissionCounterClr a0 a1) := all _
theorem windowTrip (a0 : Nat) (a1 : Bool) (a2 : Int) : Statement (.windowTrip a0 a1 a2) := all _
theorem integratorTrip (a0 : Nat) : Statement (.integratorTrip a0) := all _
theorem channelOn (a0 : Nat) : Statement (.channelOn a0) := all _
theorem channelOff (a0 : Nat) : Statement (.channelOff a0) := all _
theorem rearm (a0 : Nat) : Statement (.rearm a0) := all _
theorem toffExpiry (a0 : Nat) : Statement (.toffExpiry a0) := all _
theorem retriesReset (a0 : Nat) : Statement (.retriesReset a0) := all _
theorem tripClear (a0 : Word) : Statement (.tripClear a0) := all _
theorem guardCounterClr (a0 : Nat) (a1 : Word) : Statement (.guardCounterClr a0 a1) := all _
theorem loopModeWrite (a0 : Nat) (a1 : Word) : Statement (.loopModeWrite a0 a1) := all _
theorem complianceEntry (a0 : Nat) : Statement (.complianceEntry a0) := all _
theorem complianceExit (a0 : Nat) : Statement (.complianceExit a0) := all _
theorem loopCounterClr (a0 : Nat) (a1 : Word) : Statement (.loopCounterClr a0 a1) := all _
theorem monitorEdge (a0 : Nat) (a1 : Int) : Statement (.monitorEdge a0 a1) := all _
theorem selfCheckGo (a0 : Word) : Statement (.selfCheckGo a0) := all _
theorem selfCheckDone (a0 : Bool) (a1 : Bool) (a2 : Bool) (a3 : Bool) : Statement (.selfCheckDone a0 a1 a2 a3) := all _
theorem wheelStandstill (a0 : Nat) : Statement (.wheelStandstill a0) := all _
theorem templateCommit (a0 : Nat) : Statement (.templateCommit a0) := all _
theorem templateRead (a0 : Nat) : Statement (.templateRead a0) := all _
theorem serialEntryStart (a0 : Nat) : Statement (.serialEntryStart a0) := all _
theorem serialEntryDone (a0 : Nat) (a1 : List Word) : Statement (.serialEntryDone a0 a1) := all _
theorem slaveWordReceived (a0 : Nat) (a1 : Word) : Statement (.slaveWordReceived a0 a1) := all _
theorem slaveSelectNegated (a0 : Nat) (a1 : Nat) (a2 : Nat) (a3 : Word) : Statement (.slaveSelectNegated a0 a1 a2 a3) := all _
theorem serialCounterClr (a0 : Nat) (a1 : Word) : Statement (.serialCounterClr a0 a1) := all _
theorem memApRead (a0 : Nat) (a1 : List Nat) (a2 : List Nat) : Statement (.memApRead a0 a1 a2) := all _
theorem memApWrite (a0 : Nat) (a1 : Word) : Statement (.memApWrite a0 a1) := all _
theorem memFlush (a0 : Word) : Statement (.memFlush a0) := all _
theorem statusPoll (a0 : Nat) (a1 : List Nat) : Statement (.statusPoll a0 a1) := all _
theorem rawCommand (a0 : Word) (a1 : Nat) : Statement (.rawCommand a0 a1) := all _
theorem canFrameReceived (a0 : Nat) (a1 : Word) (a2 : List Nat) (a3 : Nat) : Statement (.canFrameReceived a0 a1 a2 a3) := all _
theorem canTxDone (a0 : Nat) (a1 : Bool) (a2 : Bool) (a3 : Nat) : Statement (.canTxDone a0 a1 a2 a3) := all _
theorem canTxTimeout (a0 : Nat) (a1 : Nat) : Statement (.canTxTimeout a0 a1) := all _
theorem canBusOff (a0 : Nat) : Statement (.canBusOff a0) := all _
theorem canRecovered (a0 : Nat) : Statement (.canRecovered a0) := all _
theorem canRecover (a0 : Nat) (a1 : Word) : Statement (.canRecover a0 a1) := all _
theorem canFifoPop (a0 : Nat) (a1 : Word) : Statement (.canFifoPop a0 a1) := all _
theorem canWake (a0 : Nat) : Statement (.canWake a0) := all _
theorem canCounterClr (a0 : Nat) (a1 : Word) : Statement (.canCounterClr a0 a1) := all _
theorem commitPoint (a0 : Nat) : Statement (.commitPoint a0) := all _
theorem serialPlacement (a0 : Nat) : Statement (.serialPlacement a0) := all _
theorem serlateExpiry (a0 : Nat) : Statement (.serlateExpiry a0) := all _
theorem wheelInstant (a0 : Nat) : Statement (.wheelInstant a0) := all _
theorem courseDeadline (a0 : Nat) : Statement (.courseDeadline a0) := all _
theorem remoteCommandTimeout (a0 : Nat) : Statement (.remoteCommandTimeout a0) := all _
theorem pscCounterClr (a0 : Word) : Statement (.pscCounterClr a0) := all _
theorem recordCommit (a0 : Nat) : Statement (.recordCommit a0) := all _
theorem recordRead (a0 : Nat) : Statement (.recordRead a0) := all _
theorem recordRelease (a0 : Nat) : Statement (.recordRelease a0) := all _
theorem tableLoadGo (a0 : Nat) : Statement (.tableLoadGo a0) := all _
theorem tableLoadDone (a0 : Bool) (a1 : List Nat) : Statement (.tableLoadDone a0 a1) := all _
theorem tableStoreDone (a0 : Bool) : Statement (.tableStoreDone a0) := all _
theorem switchArm (a0 : Bool) : Statement (.switchArm a0) := all _
theorem eptCounterClr (a0 : Word) : Statement (.eptCounterClr a0) := all _
theorem channelCommit (a0 : Nat) : Statement (.channelCommit a0) := all _
theorem channelRead (a0 : Nat) : Statement (.channelRead a0) := all _
theorem channelClrsts (a0 : Nat) : Statement (.channelClrsts a0) := all _
theorem setCommit (a0 : Nat) : Statement (.setCommit a0) := all _
theorem setRead (a0 : Nat) : Statement (.setRead a0) := all _
theorem setRelease (a0 : Nat) : Statement (.setRelease a0) := all _
theorem mashInput (a0 : Nat) (a1 : Nat) (a2 : Bool) : Statement (.mashInput a0 a1 a2) := all _
theorem chctlFreeze (a0 : Nat) (a1 : Nat) : Statement (.chctlFreeze a0 a1) := all _
theorem chctlThaw (a0 : Nat) (a1 : Nat) : Statement (.chctlThaw a0 a1) := all _
theorem chctlSwitch (a0 : Nat) (a1 : Nat) (a2 : Nat) (a3 : Nat) : Statement (.chctlSwitch a0 a1 a2 a3) := all _
theorem mashCounterClr (a0 : Word) : Statement (.mashCounterClr a0) := all _
theorem machineCommit (a0 : Nat) : Statement (.machineCommit a0) := all _
theorem machineRead (a0 : Nat) : Statement (.machineRead a0) := all _
theorem machineRelease (a0 : Nat) : Statement (.machineRelease a0) := all _
theorem rcgTimeTrigger (a0 : Nat) : Statement (.rcgTimeTrigger a0) := all _
theorem rcgCounterClr (a0 : Word) : Statement (.rcgCounterClr a0) := all _
theorem leaseExpiry (a0 : Nat) : Statement (.leaseExpiry a0) := all _
theorem leaseEndAck (a0 : Nat) : Statement (.leaseEndAck a0) := all _
theorem windowCommit (a0 : Nat) (a1 : Nat) : Statement (.windowCommit a0 a1) := all _
theorem windowRead (a0 : Nat) (a1 : Nat) : Statement (.windowRead a0 a1) := all _
theorem windowClr (a0 : Nat) (a1 : Nat) : Statement (.windowClr a0 a1) := all _
theorem tenCounterClr (a0 : Word) : Statement (.tenCounterClr a0) := all _
theorem cmdtail (a0 : Nat) (a1 : Word) : Statement (.cmdtail a0 a1) := all _
theorem cplhead (a0 : Nat) (a1 : Word) : Statement (.cplhead a0 a1) := all _
theorem evthead (a0 : Nat) (a1 : Word) : Statement (.evthead a0 a1) := all _
theorem resumecmd (a0 : Nat) (a1 : Word) : Statement (.resumecmd a0 a1) := all _
theorem resumecpl (a0 : Nat) (a1 : Word) : Statement (.resumecpl a0 a1) := all _
theorem resumeevt (a0 : Nat) (a1 : Word) : Statement (.resumeevt a0 a1) := all _
theorem clrdberr (a0 : Nat) (a1 : Word) : Statement (.clrdberr a0 a1) := all _
theorem post (a0 : Nat) (a1 : Nat) (a2 : Word) : Statement (.post a0 a1 a2) := all _
theorem ack (a0 : Nat) (a1 : Nat) (a2 : Word) : Statement (.ack a0 a1 a2) := all _
theorem commandFetch (a0 : Nat) : Statement (.commandFetch a0) := all _
theorem completionWrite (a0 : Nat) : Statement (.completionWrite a0) := all _
theorem dmaWriteConfirmed (a0 : Nat) (a1 : Nat) (a2 : Bool) : Statement (.dmaWriteConfirmed a0 a1 a2) := all _
theorem dmaReadDone (a0 : Nat) (a1 : Nat) (a2 : Nat) (a3 : Bool) (a4 : List Nat) : Statement (.dmaReadDone a0 a1 a2 a3 a4) := all _
theorem caskAgeExpiry (a0 : Nat) (a1 : Nat) : Statement (.caskAgeExpiry a0 a1) := all _
theorem caskPlacement (a0 : Nat) (a1 : Nat) : Statement (.caskPlacement a0 a1) := all _
theorem eventRecordWrite (a0 : Nat) : Statement (.eventRecordWrite a0) := all _
theorem ringSetup (a0 : Nat) (a1 : Nat) : Statement (.ringSetup a0 a1) := all _
theorem ringSetupRead (a0 : Nat) (a1 : Nat) : Statement (.ringSetupRead a0 a1) := all _
theorem ringSetupStop (a0 : Nat) (a1 : Nat) : Statement (.ringSetupStop a0 a1) := all _
theorem rngCounterClr (a0 : Word) : Statement (.rngCounterClr a0) := all _
theorem hostLinkReset (a0 : Nat) : Statement (.hostLinkReset a0) := all _
theorem portEnable (a0 : Nat) (a1 : Word) : Statement (.portEnable a0 a1) := all _
theorem trainingStepDone (a0 : Nat) (a1 : Nat) : Statement (.trainingStepDone a0 a1) := all _
theorem trainingTimeout (a0 : Nat) : Statement (.trainingTimeout a0) := all _
theorem laneFault (a0 : Nat) (a1 : Nat) : Statement (.laneFault a0 a1) := all _
theorem laneRetrained (a0 : Nat) (a1 : Nat) : Statement (.laneRetrained a0 a1) := all _
theorem linkDown (a0 : Nat) : Statement (.linkDown a0) := all _
theorem flitReceived (a0 : Nat) (a1 : List Nat) (a2 : Bool) (a3 : Nat) : Statement (.flitReceived a0 a1 a2 a3) := all _
theorem status (a0 : Nat) (a1 : List Nat) : Statement (.status a0 a1) := all _
theorem nak (a0 : Nat) (a1 : List Nat) : Statement (.nak a0 a1) := all _
theorem replayTimeout (a0 : Nat) : Statement (.replayTimeout a0) := all _
theorem statusTimer (a0 : Nat) : Statement (.statusTimer a0) := all _
theorem hello (a0 : Nat) (a1 : List Nat) : Statement (.hello a0 a1) := all _
theorem helloTimer (a0 : Nat) : Statement (.helloTimer a0) := all _
theorem resume (a0 : Nat) (a1 : List Nat) : Statement (.resume a0 a1) := all _
theorem close (a0 : Nat) (a1 : List Nat) : Statement (.close a0 a1) := all _
theorem splitHoldExpiry (a0 : Nat) : Statement (.splitHoldExpiry a0) := all _
theorem retryHoldExpiry (a0 : Nat) : Statement (.retryHoldExpiry a0) := all _
theorem configTimeout (a0 : Nat) : Statement (.configTimeout a0) := all _
theorem remoteSetupGo (a0 : Bool) : Statement (.remoteSetupGo a0) := all _
theorem directoryEntryLoad (a0 : Nat) : Statement (.directoryEntryLoad a0) := all _
theorem claim (a0 : Nat) : Statement (.claim a0) := all _
theorem eoi (a0 : Nat) (a1 : Word) : Statement (.eoi a0 a1) := all _
theorem sourceCommit (a0 : Nat) : Statement (.sourceCommit a0) := all _
theorem sourceRead (a0 : Nat) : Statement (.sourceRead a0) := all _
theorem hubLatchClear (a0 : Bool) (a1 : Word) : Statement (.hubLatchClear a0 a1) := all _
theorem hubset (a0 : Word) : Statement (.hubset a0) := all _
theorem forceSet (a0 : Nat) : Statement (.forceSet a0) := all _
theorem forceClr (a0 : Nat) : Statement (.forceClr a0) := all _
theorem icuConfigWrite (a0 : Word) : Statement (.icuConfigWrite a0) := all _
theorem msixUnmask (a0 : Nat) : Statement (.msixUnmask a0) := all _
theorem icuCounterClr (a0 : Word) : Statement (.icuCounterClr a0) := all _
theorem swpulse (a0 : Word) : Statement (.swpulse a0) := all _
theorem eventQueueHold (a0 : Nat) (a1 : Bool) : Statement (.eventQueueHold a0 a1) := all _
theorem eventQueuePop (a0 : Nat) : Statement (.eventQueuePop a0) := all _
theorem queueFlush (a0 : Nat) : Statement (.queueFlush a0) := all _
theorem channelConfigWrite (a0 : Nat) (a1 : Nat) (a2 : Word) : Statement (.channelConfigWrite a0 a1 a2) := all _
theorem evmCounterClr (a0 : Word) : Statement (.evmCounterClr a0) := all _
theorem powerOnReset (a0 : Bool) : Statement (.powerOnReset a0) := all _
theorem accessTimeout (a0 : Bool) (a1 : Nat) : Statement (.accessTimeout a0 a1) := all _
theorem clkCounterClr (a0 : Word) : Statement (.clkCounterClr a0) := all _
theorem rstCounterClr (a0 : Word) : Statement (.rstCounterClr a0) := all _
theorem entryCommit (a0 : Bool) : Statement (.entryCommit a0) := all _
theorem wakeSource (a0 : Nat) : Statement (.wakeSource a0) := all _
theorem shedRise (a0 : Nat) (a1 : Int) : Statement (.shedRise a0 a1) := all _
theorem shedFall (a0 : Nat) (a1 : Int) : Statement (.shedFall a0 a1) := all _
theorem powerFail (a0 : Nat) (a1 : Nat) : Statement (.powerFail a0 a1) := all _
theorem powerRestore (a0 : Nat) (a1 : Int) : Statement (.powerRestore a0 a1) := all _
theorem thermalShutdown (a0 : Int) : Statement (.thermalShutdown a0) := all _
theorem thermalRecover (a0 : Int) : Statement (.thermalRecover a0) := all _
theorem pwrCounterClr (a0 : Word) : Statement (.pwrCounterClr a0) := all _
theorem nvmProgramDone (a0 : Bool) : Statement (.nvmProgramDone a0) := all _
theorem refreshScan (a0 : List Word) : Statement (.refreshScan a0) := all _
theorem lifeCounterLoad (a0 : Nat) : Statement (.lifeCounterLoad a0) := all _
theorem nvsCounterClr (a0 : Word) : Statement (.nvsCounterClr a0) := all _
theorem bootStageDone (a0 : Bool) (a1 : Bool) (a2 : Bool) : Statement (.bootStageDone a0 a1 a2) := all _
theorem configRequest (a0 : Bool) (a1 : Nat) (a2 : Word) : Statement (.configRequest a0 a1 a2) := all _
theorem updateDone (a0 : Bool) (a1 : Bool) (a2 : List Nat) : Statement (.updateDone a0 a1 a2) := all _
theorem guardImageDone (a0 : Bool) : Statement (.guardImageDone a0) := all _
theorem slotEnd (a0 : Nat) (a1 : Nat) (a2 : Bool) : Statement (.slotEnd a0 a1 a2) := all _
theorem grant (a0 : Nat) : Statement (.grant a0) := all _
theorem canBusError (a0 : Nat) (a1 : Bool) : Statement (.canBusError a0 a1) := all _
theorem thermalProgramAbandon (a0 : Int) : Statement (.thermalProgramAbandon a0) := all _
theorem ctCaptureRead : Statement .ctCaptureRead := all _
theorem timeExchangeStart : Statement .timeExchangeStart := all _
theorem timeRespTimeout : Statement .timeRespTimeout := all _
theorem holdcntExpiry : Statement .holdcntExpiry := all _
theorem syncEdgeTimeout : Statement .syncEdgeTimeout := all _
theorem discHoldExpiry : Statement .discHoldExpiry := all _
theorem syncOutputPulse : Statement .syncOutputPulse := all _
theorem syncPulseEnd : Statement .syncPulseEnd := all _
theorem guardLock : Statement .guardLock := all _
theorem loopSet : Statement .loopSet := all _
theorem pageBufferTimeout : Statement .pageBufferTimeout := all _
theorem progtoExpiry : Statement .progtoExpiry := all _
theorem canSend : Statement .canSend := all _
theorem schedCreate : Statement .schedCreate := all _
theorem schedDestroy : Statement .schedDestroy := all _
theorem schedQuery : Statement .schedQuery := all _
theorem schedTrigger : Statement .schedTrigger := all _
theorem decode : Statement .decode := all _
theorem tableLoad : Statement .tableLoad := all _
theorem tableStore : Statement .tableStore := all _
theorem tableDiscard : Statement .tableDiscard := all _
theorem switchCancel : Statement .switchCancel := all _
theorem switchEffect : Statement .switchEffect := all _
theorem bankRetire : Statement .bankRetire := all _
theorem mashFreeze : Statement .mashFreeze := all _
theorem mashThaw : Statement .mashThaw := all _
theorem mashSwitch : Statement .mashSwitch := all _
theorem syncNow : Statement .syncNow := all _
theorem syncArm : Statement .syncArm := all _
theorem syncDisarm : Statement .syncDisarm := all _
theorem armedSync : Statement .armedSync := all _
theorem periodicSync : Statement .periodicSync := all _
theorem rcgCreate : Statement .rcgCreate := all _
theorem rcgDestroy : Statement .rcgDestroy := all _
theorem rcgReset : Statement .rcgReset := all _
theorem rcgSetpar : Statement .rcgSetpar := all _
theorem rcgQuery : Statement .rcgQuery := all _
theorem recognizerStep : Statement .recognizerStep := all _
theorem tenCreate : Statement .tenCreate := all _
theorem tenChange : Statement .tenChange := all _
theorem tenDestroy : Statement .tenDestroy := all _
theorem tenReset : Statement .tenReset := all _
theorem bind : Statement .bind := all _
theorem leaseGrant : Statement .leaseGrant := all _
theorem leaseRevoke : Statement .leaseRevoke := all _
theorem setKey : Statement .setKey := all _
theorem nop : Statement .nop := all _
theorem time : Statement .time := all _
theorem streamOpen : Statement .streamOpen := all _
theorem streamClose : Statement .streamClose := all _
theorem mark : Statement .mark := all _
theorem ringStart : Statement .ringStart := all _
theorem ringStop : Statement .ringStop := all _
theorem ringResume : Statement .ringResume := all _
theorem ringFlush : Statement .ringFlush := all _
theorem ringQuery : Statement .ringQuery := all _
theorem epQuery : Statement .epQuery := all _
theorem nodeCmd : Statement .nodeCmd := all _
theorem serXfer : Statement .serXfer := all _
theorem syncAt : Statement .syncAt := all _
theorem functionLevelReset : Statement .functionLevelReset := all _
theorem cmd : Statement .cmd := all _
theorem cmdData : Statement .cmdData := all _
theorem cpl : Statement .cpl := all _
theorem reject : Statement .reject := all _
theorem staleResend : Statement .staleResend := all _
theorem caskData : Statement .caskData := all _
theorem caskClose : Statement .caskClose := all _
theorem caskack : Statement .caskack := all _
theorem event : Statement .event := all _
theorem syncAtMessage : Statement .syncAtMessage := all _
theorem groupTrigger : Statement .groupTrigger := all _
theorem reelect : Statement .reelect := all _
theorem hostLinkUp : Statement .hostLinkUp := all _
theorem offer : Statement .offer := all _
theorem attach : Statement .attach := all _
theorem detach : Statement .detach := all _
theorem report : Statement .report := all _
theorem settleExpiry : Statement .settleExpiry := all _
theorem directory : Statement .directory := all _
theorem dirack : Statement .dirack := all _
theorem stateTransferStart : Statement .stateTransferStart := all _
theorem prepare : Statement .prepare := all _
theorem prepared : Statement .prepared := all _
theorem configCommit : Statement .configCommit := all _
theorem withdraw : Statement .withdraw := all _
theorem regaccess : Statement .regaccess := all _
theorem regresult : Statement .regresult := all _
theorem state : Statement .state := all _
theorem genset : Statement .genset := all _
theorem genack : Statement .genack := all _
theorem configAck : Statement .configAck := all _
theorem rolCounterClr : Statement .rolCounterClr := all _
theorem coalesceTimeout : Statement .coalesceTimeout := all _
theorem eventDelivery : Statement .eventDelivery := all _
theorem xinFailure : Statement .xinFailure := all _
theorem xinRecovered : Statement .xinRecovered := all _
theorem rootPllUnlock : Statement .rootPllUnlock := all _
theorem rootPllLocked : Statement .rootPllLocked := all _
theorem warm : Statement .warm := all _
theorem core : Statement .core := all _
theorem hkrst : Statement .hkrst := all _
theorem resetStart : Statement .resetStart := all _
theorem coreHold : Statement .coreHold := all _
theorem housekeepingReady : Statement .housekeepingReady := all _
theorem watchdogExpiry : Statement .watchdogExpiry := all _
theorem abort : Statement .abort := all _
theorem doze : Statement .doze := all _
theorem watch : Statement .watch := all _
theorem hibernate : Statement .hibernate := all _
theorem off : Statement .off := all _
theorem autotExpiry : Statement .autotExpiry := all _
theorem drained : Statement .drained := all _
theorem wakeat : Statement .wakeat := all _
theorem pmicPgRise : Statement .pmicPgRise := all _
theorem memrdy : Statement .memrdy := all _
theorem wakeComplete : Statement .wakeComplete := all _
theorem wakePgTimeout : Statement .wakePgTimeout := all _
theorem wakeRetry : Statement .wakeRetry := all _
theorem watchCycle : Statement .watchCycle := all _
theorem append : Statement .append := all _
theorem journalRead : Statement .journalRead := all _
theorem journalWrite : Statement .journalWrite := all _
theorem nvmEraseDone : Statement .nvmEraseDone := all _
theorem lifeCheckpoint : Statement .lifeCheckpoint := all _
theorem bootStageTimeout : Statement .bootStageTimeout := all _
theorem updateGo : Statement .updateGo := all _
theorem guardImageStore : Statement .guardImageStore := all _
theorem guardImageErase : Statement .guardImageErase := all _
theorem tapIsolate (a0 : Nat) (a1 : List Bool) : Statement (.tapIsolate a0 a1) := all _
theorem tapRelease (a0 : Nat) : Statement (.tapRelease a0) := all _
theorem caskValidTimeout : Statement .caskValidTimeout := all _
theorem vafeLoss : Statement .vafeLoss := all _
theorem vafeReturn : Statement .vafeReturn := all _

end Sys2Proof.Laws.NoTableWord
end

