-- ==== Sys2Proof/Laws/State.lean ====
section
/-! SUPPORT. One lemma per field of State per update: an update leaves every other field, so that no later proof unfolds a record update. -/
set_option Elab.async false
namespace Sys2Proof.Machine

@[simp] theorem State.wr_pending (s : State) (off : Nat) (v : Word) : (State.wr s off v).pending = s.pending := rfl
@[simp] theorem State.wr_free (s : State) (off : Nat) (v : Word) : (State.wr s off v).free = s.free := rfl
@[simp] theorem State.wr_rdata (s : State) (off : Nat) (v : Word) : (State.wr s off v).rdata = s.rdata := rfl
@[simp] theorem State.wr_caps (s : State) (off : Nat) (v : Word) : (State.wr s off v).caps = s.caps := rfl
@[simp] theorem State.wr_out (s : State) (off : Nat) (v : Word) : (State.wr s off v).out = s.out := rfl
@[simp] theorem State.wr_time (s : State) (off : Nat) (v : Word) : (State.wr s off v).time = s.time := rfl
@[simp] theorem State.wr_srv (s : State) (off : Nat) (v : Word) : (State.wr s off v).srv = s.srv := rfl
@[simp] theorem State.wr_tus (s : State) (off : Nat) (v : Word) : (State.wr s off v).tus = s.tus := rfl
@[simp] theorem State.wr_icu (s : State) (off : Nat) (v : Word) : (State.wr s off v).icu = s.icu := rfl
@[simp] theorem State.wr_evm (s : State) (off : Nat) (v : Word) : (State.wr s off v).evm = s.evm := rfl
@[simp] theorem State.wr_sys (s : State) (off : Nat) (v : Word) : (State.wr s off v).sys = s.sys := rfl
@[simp] theorem State.wr_psc (s : State) (off : Nat) (v : Word) : (State.wr s off v).psc = s.psc := rfl
@[simp] theorem State.wr_crs (s : State) (off : Nat) (v : Word) : (State.wr s off v).crs = s.crs := rfl
@[simp] theorem State.wr_grd (s : State) (off : Nat) (v : Word) : (State.wr s off v).grd = s.grd := rfl
@[simp] theorem State.wr_ser (s : State) (off : Nat) (v : Word) : (State.wr s off v).ser = s.ser := rfl
@[simp] theorem State.wr_cans (s : State) (off : Nat) (v : Word) : (State.wr s off v).cans = s.cans := rfl
@[simp] theorem State.wr_mem (s : State) (off : Nat) (v : Word) : (State.wr s off v).mem = s.mem := rfl
@[simp] theorem State.wr_ept (s : State) (off : Nat) (v : Word) : (State.wr s off v).ept = s.ept := rfl
@[simp] theorem State.wr_msh (s : State) (off : Nat) (v : Word) : (State.wr s off v).msh = s.msh := rfl
@[simp] theorem State.wr_rcg (s : State) (off : Nat) (v : Word) : (State.wr s off v).rcg = s.rcg := rfl
@[simp] theorem State.wr_ten (s : State) (off : Nat) (v : Word) : (State.wr s off v).ten = s.ten := rfl
@[simp] theorem State.wr_rng (s : State) (off : Nat) (v : Word) : (State.wr s off v).rng = s.rng := rfl
@[simp] theorem State.wr_bnd (s : State) (off : Nat) (v : Word) : (State.wr s off v).bnd = s.bnd := rfl
@[simp] theorem State.wr_rol (s : State) (off : Nat) (v : Word) : (State.wr s off v).rol = s.rol := rfl
@[simp] theorem State.wr_nvs (s : State) (off : Nat) (v : Word) : (State.wr s off v).nvs = s.nvs := rfl
@[simp] theorem State.wr_boot (s : State) (off : Nat) (v : Word) : (State.wr s off v).boot = s.boot := rfl

@[simp] theorem State.f_pending (s : State) (f : Fld) (v : Nat) : (State.f s f v).pending = s.pending := rfl
@[simp] theorem State.f_free (s : State) (f : Fld) (v : Nat) : (State.f s f v).free = s.free := rfl
@[simp] theorem State.f_rdata (s : State) (f : Fld) (v : Nat) : (State.f s f v).rdata = s.rdata := rfl
@[simp] theorem State.f_caps (s : State) (f : Fld) (v : Nat) : (State.f s f v).caps = s.caps := rfl
@[simp] theorem State.f_out (s : State) (f : Fld) (v : Nat) : (State.f s f v).out = s.out := rfl
@[simp] theorem State.f_time (s : State) (f : Fld) (v : Nat) : (State.f s f v).time = s.time := rfl
@[simp] theorem State.f_srv (s : State) (f : Fld) (v : Nat) : (State.f s f v).srv = s.srv := rfl
@[simp] theorem State.f_tus (s : State) (f : Fld) (v : Nat) : (State.f s f v).tus = s.tus := rfl
@[simp] theorem State.f_icu (s : State) (f : Fld) (v : Nat) : (State.f s f v).icu = s.icu := rfl
@[simp] theorem State.f_evm (s : State) (f : Fld) (v : Nat) : (State.f s f v).evm = s.evm := rfl
@[simp] theorem State.f_sys (s : State) (f : Fld) (v : Nat) : (State.f s f v).sys = s.sys := rfl
@[simp] theorem State.f_psc (s : State) (f : Fld) (v : Nat) : (State.f s f v).psc = s.psc := rfl
@[simp] theorem State.f_crs (s : State) (f : Fld) (v : Nat) : (State.f s f v).crs = s.crs := rfl
@[simp] theorem State.f_grd (s : State) (f : Fld) (v : Nat) : (State.f s f v).grd = s.grd := rfl
@[simp] theorem State.f_ser (s : State) (f : Fld) (v : Nat) : (State.f s f v).ser = s.ser := rfl
@[simp] theorem State.f_cans (s : State) (f : Fld) (v : Nat) : (State.f s f v).cans = s.cans := rfl
@[simp] theorem State.f_mem (s : State) (f : Fld) (v : Nat) : (State.f s f v).mem = s.mem := rfl
@[simp] theorem State.f_ept (s : State) (f : Fld) (v : Nat) : (State.f s f v).ept = s.ept := rfl
@[simp] theorem State.f_msh (s : State) (f : Fld) (v : Nat) : (State.f s f v).msh = s.msh := rfl
@[simp] theorem State.f_rcg (s : State) (f : Fld) (v : Nat) : (State.f s f v).rcg = s.rcg := rfl
@[simp] theorem State.f_ten (s : State) (f : Fld) (v : Nat) : (State.f s f v).ten = s.ten := rfl
@[simp] theorem State.f_rng (s : State) (f : Fld) (v : Nat) : (State.f s f v).rng = s.rng := rfl
@[simp] theorem State.f_bnd (s : State) (f : Fld) (v : Nat) : (State.f s f v).bnd = s.bnd := rfl
@[simp] theorem State.f_rol (s : State) (f : Fld) (v : Nat) : (State.f s f v).rol = s.rol := rfl
@[simp] theorem State.f_nvs (s : State) (f : Fld) (v : Nat) : (State.f s f v).nvs = s.nvs := rfl
@[simp] theorem State.f_boot (s : State) (f : Fld) (v : Nat) : (State.f s f v).boot = s.boot := rfl

@[simp] theorem State.inc_pending (s : State) (f : Fld) : (State.inc s f).pending = s.pending := rfl
@[simp] theorem State.inc_free (s : State) (f : Fld) : (State.inc s f).free = s.free := rfl
@[simp] theorem State.inc_rdata (s : State) (f : Fld) : (State.inc s f).rdata = s.rdata := rfl
@[simp] theorem State.inc_caps (s : State) (f : Fld) : (State.inc s f).caps = s.caps := rfl
@[simp] theorem State.inc_out (s : State) (f : Fld) : (State.inc s f).out = s.out := rfl
@[simp] theorem State.inc_time (s : State) (f : Fld) : (State.inc s f).time = s.time := rfl
@[simp] theorem State.inc_srv (s : State) (f : Fld) : (State.inc s f).srv = s.srv := rfl
@[simp] theorem State.inc_tus (s : State) (f : Fld) : (State.inc s f).tus = s.tus := rfl
@[simp] theorem State.inc_icu (s : State) (f : Fld) : (State.inc s f).icu = s.icu := rfl
@[simp] theorem State.inc_evm (s : State) (f : Fld) : (State.inc s f).evm = s.evm := rfl
@[simp] theorem State.inc_sys (s : State) (f : Fld) : (State.inc s f).sys = s.sys := rfl
@[simp] theorem State.inc_psc (s : State) (f : Fld) : (State.inc s f).psc = s.psc := rfl
@[simp] theorem State.inc_crs (s : State) (f : Fld) : (State.inc s f).crs = s.crs := rfl
@[simp] theorem State.inc_grd (s : State) (f : Fld) : (State.inc s f).grd = s.grd := rfl
@[simp] theorem State.inc_ser (s : State) (f : Fld) : (State.inc s f).ser = s.ser := rfl
@[simp] theorem State.inc_cans (s : State) (f : Fld) : (State.inc s f).cans = s.cans := rfl
@[simp] theorem State.inc_mem (s : State) (f : Fld) : (State.inc s f).mem = s.mem := rfl
@[simp] theorem State.inc_ept (s : State) (f : Fld) : (State.inc s f).ept = s.ept := rfl
@[simp] theorem State.inc_msh (s : State) (f : Fld) : (State.inc s f).msh = s.msh := rfl
@[simp] theorem State.inc_rcg (s : State) (f : Fld) : (State.inc s f).rcg = s.rcg := rfl
@[simp] theorem State.inc_ten (s : State) (f : Fld) : (State.inc s f).ten = s.ten := rfl
@[simp] theorem State.inc_rng (s : State) (f : Fld) : (State.inc s f).rng = s.rng := rfl
@[simp] theorem State.inc_bnd (s : State) (f : Fld) : (State.inc s f).bnd = s.bnd := rfl
@[simp] theorem State.inc_rol (s : State) (f : Fld) : (State.inc s f).rol = s.rol := rfl
@[simp] theorem State.inc_nvs (s : State) (f : Fld) : (State.inc s f).nvs = s.nvs := rfl
@[simp] theorem State.inc_boot (s : State) (f : Fld) : (State.inc s f).boot = s.boot := rfl

@[simp] theorem State.incBy_pending (s : State) (f : Fld) (n : Nat) : (State.incBy s f n).pending = s.pending := rfl
@[simp] theorem State.incBy_free (s : State) (f : Fld) (n : Nat) : (State.incBy s f n).free = s.free := rfl
@[simp] theorem State.incBy_rdata (s : State) (f : Fld) (n : Nat) : (State.incBy s f n).rdata = s.rdata := rfl
@[simp] theorem State.incBy_caps (s : State) (f : Fld) (n : Nat) : (State.incBy s f n).caps = s.caps := rfl
@[simp] theorem State.incBy_out (s : State) (f : Fld) (n : Nat) : (State.incBy s f n).out = s.out := rfl
@[simp] theorem State.incBy_time (s : State) (f : Fld) (n : Nat) : (State.incBy s f n).time = s.time := rfl
@[simp] theorem State.incBy_srv (s : State) (f : Fld) (n : Nat) : (State.incBy s f n).srv = s.srv := rfl
@[simp] theorem State.incBy_tus (s : State) (f : Fld) (n : Nat) : (State.incBy s f n).tus = s.tus := rfl
@[simp] theorem State.incBy_icu (s : State) (f : Fld) (n : Nat) : (State.incBy s f n).icu = s.icu := rfl
@[simp] theorem State.incBy_evm (s : State) (f : Fld) (n : Nat) : (State.incBy s f n).evm = s.evm := rfl
@[simp] theorem State.incBy_sys (s : State) (f : Fld) (n : Nat) : (State.incBy s f n).sys = s.sys := rfl
@[simp] theorem State.incBy_psc (s : State) (f : Fld) (n : Nat) : (State.incBy s f n).psc = s.psc := rfl
@[simp] theorem State.incBy_crs (s : State) (f : Fld) (n : Nat) : (State.incBy s f n).crs = s.crs := rfl
@[simp] theorem State.incBy_grd (s : State) (f : Fld) (n : Nat) : (State.incBy s f n).grd = s.grd := rfl
@[simp] theorem State.incBy_ser (s : State) (f : Fld) (n : Nat) : (State.incBy s f n).ser = s.ser := rfl
@[simp] theorem State.incBy_cans (s : State) (f : Fld) (n : Nat) : (State.incBy s f n).cans = s.cans := rfl
@[simp] theorem State.incBy_mem (s : State) (f : Fld) (n : Nat) : (State.incBy s f n).mem = s.mem := rfl
@[simp] theorem State.incBy_ept (s : State) (f : Fld) (n : Nat) : (State.incBy s f n).ept = s.ept := rfl
@[simp] theorem State.incBy_msh (s : State) (f : Fld) (n : Nat) : (State.incBy s f n).msh = s.msh := rfl
@[simp] theorem State.incBy_rcg (s : State) (f : Fld) (n : Nat) : (State.incBy s f n).rcg = s.rcg := rfl
@[simp] theorem State.incBy_ten (s : State) (f : Fld) (n : Nat) : (State.incBy s f n).ten = s.ten := rfl
@[simp] theorem State.incBy_rng (s : State) (f : Fld) (n : Nat) : (State.incBy s f n).rng = s.rng := rfl
@[simp] theorem State.incBy_bnd (s : State) (f : Fld) (n : Nat) : (State.incBy s f n).bnd = s.bnd := rfl
@[simp] theorem State.incBy_rol (s : State) (f : Fld) (n : Nat) : (State.incBy s f n).rol = s.rol := rfl
@[simp] theorem State.incBy_nvs (s : State) (f : Fld) (n : Nat) : (State.incBy s f n).nvs = s.nvs := rfl
@[simp] theorem State.incBy_boot (s : State) (f : Fld) (n : Nat) : (State.incBy s f n).boot = s.boot := rfl

@[simp] theorem State.f64_pending (s : State) (lo : Fld) (hi : Fld) (v : Nat) : (State.f64 s lo hi v).pending = s.pending := rfl
@[simp] theorem State.f64_free (s : State) (lo : Fld) (hi : Fld) (v : Nat) : (State.f64 s lo hi v).free = s.free := rfl
@[simp] theorem State.f64_rdata (s : State) (lo : Fld) (hi : Fld) (v : Nat) : (State.f64 s lo hi v).rdata = s.rdata := rfl
@[simp] theorem State.f64_caps (s : State) (lo : Fld) (hi : Fld) (v : Nat) : (State.f64 s lo hi v).caps = s.caps := rfl
@[simp] theorem State.f64_out (s : State) (lo : Fld) (hi : Fld) (v : Nat) : (State.f64 s lo hi v).out = s.out := rfl
@[simp] theorem State.f64_time (s : State) (lo : Fld) (hi : Fld) (v : Nat) : (State.f64 s lo hi v).time = s.time := rfl
@[simp] theorem State.f64_srv (s : State) (lo : Fld) (hi : Fld) (v : Nat) : (State.f64 s lo hi v).srv = s.srv := rfl
@[simp] theorem State.f64_tus (s : State) (lo : Fld) (hi : Fld) (v : Nat) : (State.f64 s lo hi v).tus = s.tus := rfl
@[simp] theorem State.f64_icu (s : State) (lo : Fld) (hi : Fld) (v : Nat) : (State.f64 s lo hi v).icu = s.icu := rfl
@[simp] theorem State.f64_evm (s : State) (lo : Fld) (hi : Fld) (v : Nat) : (State.f64 s lo hi v).evm = s.evm := rfl
@[simp] theorem State.f64_sys (s : State) (lo : Fld) (hi : Fld) (v : Nat) : (State.f64 s lo hi v).sys = s.sys := rfl
@[simp] theorem State.f64_psc (s : State) (lo : Fld) (hi : Fld) (v : Nat) : (State.f64 s lo hi v).psc = s.psc := rfl
@[simp] theorem State.f64_crs (s : State) (lo : Fld) (hi : Fld) (v : Nat) : (State.f64 s lo hi v).crs = s.crs := rfl
@[simp] theorem State.f64_grd (s : State) (lo : Fld) (hi : Fld) (v : Nat) : (State.f64 s lo hi v).grd = s.grd := rfl
@[simp] theorem State.f64_ser (s : State) (lo : Fld) (hi : Fld) (v : Nat) : (State.f64 s lo hi v).ser = s.ser := rfl
@[simp] theorem State.f64_cans (s : State) (lo : Fld) (hi : Fld) (v : Nat) : (State.f64 s lo hi v).cans = s.cans := rfl
@[simp] theorem State.f64_mem (s : State) (lo : Fld) (hi : Fld) (v : Nat) : (State.f64 s lo hi v).mem = s.mem := rfl
@[simp] theorem State.f64_ept (s : State) (lo : Fld) (hi : Fld) (v : Nat) : (State.f64 s lo hi v).ept = s.ept := rfl
@[simp] theorem State.f64_msh (s : State) (lo : Fld) (hi : Fld) (v : Nat) : (State.f64 s lo hi v).msh = s.msh := rfl
@[simp] theorem State.f64_rcg (s : State) (lo : Fld) (hi : Fld) (v : Nat) : (State.f64 s lo hi v).rcg = s.rcg := rfl
@[simp] theorem State.f64_ten (s : State) (lo : Fld) (hi : Fld) (v : Nat) : (State.f64 s lo hi v).ten = s.ten := rfl
@[simp] theorem State.f64_rng (s : State) (lo : Fld) (hi : Fld) (v : Nat) : (State.f64 s lo hi v).rng = s.rng := rfl
@[simp] theorem State.f64_bnd (s : State) (lo : Fld) (hi : Fld) (v : Nat) : (State.f64 s lo hi v).bnd = s.bnd := rfl
@[simp] theorem State.f64_rol (s : State) (lo : Fld) (hi : Fld) (v : Nat) : (State.f64 s lo hi v).rol = s.rol := rfl
@[simp] theorem State.f64_nvs (s : State) (lo : Fld) (hi : Fld) (v : Nat) : (State.f64 s lo hi v).nvs = s.nvs := rfl
@[simp] theorem State.f64_boot (s : State) (lo : Fld) (hi : Fld) (v : Nat) : (State.f64 s lo hi v).boot = s.boot := rfl

@[simp] theorem State.drew_pending (s : State) : (State.drew s).pending = s.pending := rfl
@[simp] theorem State.drew_regs (s : State) : (State.drew s).regs = s.regs := rfl
@[simp] theorem State.drew_rdata (s : State) : (State.drew s).rdata = s.rdata := rfl
@[simp] theorem State.drew_caps (s : State) : (State.drew s).caps = s.caps := rfl
@[simp] theorem State.drew_out (s : State) : (State.drew s).out = s.out := rfl
@[simp] theorem State.drew_time (s : State) : (State.drew s).time = s.time := rfl
@[simp] theorem State.drew_srv (s : State) : (State.drew s).srv = s.srv := rfl
@[simp] theorem State.drew_tus (s : State) : (State.drew s).tus = s.tus := rfl
@[simp] theorem State.drew_icu (s : State) : (State.drew s).icu = s.icu := rfl
@[simp] theorem State.drew_evm (s : State) : (State.drew s).evm = s.evm := rfl
@[simp] theorem State.drew_sys (s : State) : (State.drew s).sys = s.sys := rfl
@[simp] theorem State.drew_psc (s : State) : (State.drew s).psc = s.psc := rfl
@[simp] theorem State.drew_crs (s : State) : (State.drew s).crs = s.crs := rfl
@[simp] theorem State.drew_grd (s : State) : (State.drew s).grd = s.grd := rfl
@[simp] theorem State.drew_ser (s : State) : (State.drew s).ser = s.ser := rfl
@[simp] theorem State.drew_cans (s : State) : (State.drew s).cans = s.cans := rfl
@[simp] theorem State.drew_mem (s : State) : (State.drew s).mem = s.mem := rfl
@[simp] theorem State.drew_ept (s : State) : (State.drew s).ept = s.ept := rfl
@[simp] theorem State.drew_msh (s : State) : (State.drew s).msh = s.msh := rfl
@[simp] theorem State.drew_rcg (s : State) : (State.drew s).rcg = s.rcg := rfl
@[simp] theorem State.drew_ten (s : State) : (State.drew s).ten = s.ten := rfl
@[simp] theorem State.drew_rng (s : State) : (State.drew s).rng = s.rng := rfl
@[simp] theorem State.drew_bnd (s : State) : (State.drew s).bnd = s.bnd := rfl
@[simp] theorem State.drew_rol (s : State) : (State.drew s).rol = s.rol := rfl
@[simp] theorem State.drew_nvs (s : State) : (State.drew s).nvs = s.nvs := rfl
@[simp] theorem State.drew_boot (s : State) : (State.drew s).boot = s.boot := rfl

@[simp] theorem State.setBus_pending (s : State) (b : Nat) (x : BusS) : (State.setBus s b x).pending = s.pending := rfl
@[simp] theorem State.setBus_regs (s : State) (b : Nat) (x : BusS) : (State.setBus s b x).regs = s.regs := rfl
@[simp] theorem State.setBus_free (s : State) (b : Nat) (x : BusS) : (State.setBus s b x).free = s.free := rfl
@[simp] theorem State.setBus_rdata (s : State) (b : Nat) (x : BusS) : (State.setBus s b x).rdata = s.rdata := rfl
@[simp] theorem State.setBus_caps (s : State) (b : Nat) (x : BusS) : (State.setBus s b x).caps = s.caps := rfl
@[simp] theorem State.setBus_out (s : State) (b : Nat) (x : BusS) : (State.setBus s b x).out = s.out := rfl
@[simp] theorem State.setBus_time (s : State) (b : Nat) (x : BusS) : (State.setBus s b x).time = s.time := rfl
@[simp] theorem State.setBus_srv (s : State) (b : Nat) (x : BusS) : (State.setBus s b x).srv = s.srv := rfl
@[simp] theorem State.setBus_tus (s : State) (b : Nat) (x : BusS) : (State.setBus s b x).tus = s.tus := rfl
@[simp] theorem State.setBus_icu (s : State) (b : Nat) (x : BusS) : (State.setBus s b x).icu = s.icu := rfl
@[simp] theorem State.setBus_evm (s : State) (b : Nat) (x : BusS) : (State.setBus s b x).evm = s.evm := rfl
@[simp] theorem State.setBus_sys (s : State) (b : Nat) (x : BusS) : (State.setBus s b x).sys = s.sys := rfl
@[simp] theorem State.setBus_psc (s : State) (b : Nat) (x : BusS) : (State.setBus s b x).psc = s.psc := rfl
@[simp] theorem State.setBus_grd (s : State) (b : Nat) (x : BusS) : (State.setBus s b x).grd = s.grd := rfl
@[simp] theorem State.setBus_ser (s : State) (b : Nat) (x : BusS) : (State.setBus s b x).ser = s.ser := rfl
@[simp] theorem State.setBus_cans (s : State) (b : Nat) (x : BusS) : (State.setBus s b x).cans = s.cans := rfl
@[simp] theorem State.setBus_mem (s : State) (b : Nat) (x : BusS) : (State.setBus s b x).mem = s.mem := rfl
@[simp] theorem State.setBus_ept (s : State) (b : Nat) (x : BusS) : (State.setBus s b x).ept = s.ept := rfl
@[simp] theorem State.setBus_msh (s : State) (b : Nat) (x : BusS) : (State.setBus s b x).msh = s.msh := rfl
@[simp] theorem State.setBus_rcg (s : State) (b : Nat) (x : BusS) : (State.setBus s b x).rcg = s.rcg := rfl
@[simp] theorem State.setBus_ten (s : State) (b : Nat) (x : BusS) : (State.setBus s b x).ten = s.ten := rfl
@[simp] theorem State.setBus_rng (s : State) (b : Nat) (x : BusS) : (State.setBus s b x).rng = s.rng := rfl
@[simp] theorem State.setBus_bnd (s : State) (b : Nat) (x : BusS) : (State.setBus s b x).bnd = s.bnd := rfl
@[simp] theorem State.setBus_rol (s : State) (b : Nat) (x : BusS) : (State.setBus s b x).rol = s.rol := rfl
@[simp] theorem State.setBus_nvs (s : State) (b : Nat) (x : BusS) : (State.setBus s b x).nvs = s.nvs := rfl
@[simp] theorem State.setBus_boot (s : State) (b : Nat) (x : BusS) : (State.setBus s b x).boot = s.boot := rfl

@[simp] theorem State.setNode_pending (s : State) (b : Nat) (a : Nat) (n : NodeS) : (State.setNode s b a n).pending = s.pending := rfl
@[simp] theorem State.setNode_regs (s : State) (b : Nat) (a : Nat) (n : NodeS) : (State.setNode s b a n).regs = s.regs := rfl
@[simp] theorem State.setNode_free (s : State) (b : Nat) (a : Nat) (n : NodeS) : (State.setNode s b a n).free = s.free := rfl
@[simp] theorem State.setNode_rdata (s : State) (b : Nat) (a : Nat) (n : NodeS) : (State.setNode s b a n).rdata = s.rdata := rfl
@[simp] theorem State.setNode_caps (s : State) (b : Nat) (a : Nat) (n : NodeS) : (State.setNode s b a n).caps = s.caps := rfl
@[simp] theorem State.setNode_out (s : State) (b : Nat) (a : Nat) (n : NodeS) : (State.setNode s b a n).out = s.out := rfl
@[simp] theorem State.setNode_time (s : State) (b : Nat) (a : Nat) (n : NodeS) : (State.setNode s b a n).time = s.time := rfl
@[simp] theorem State.setNode_srv (s : State) (b : Nat) (a : Nat) (n : NodeS) : (State.setNode s b a n).srv = s.srv := rfl
@[simp] theorem State.setNode_tus (s : State) (b : Nat) (a : Nat) (n : NodeS) : (State.setNode s b a n).tus = s.tus := rfl
@[simp] theorem State.setNode_icu (s : State) (b : Nat) (a : Nat) (n : NodeS) : (State.setNode s b a n).icu = s.icu := rfl
@[simp] theorem State.setNode_evm (s : State) (b : Nat) (a : Nat) (n : NodeS) : (State.setNode s b a n).evm = s.evm := rfl
@[simp] theorem State.setNode_sys (s : State) (b : Nat) (a : Nat) (n : NodeS) : (State.setNode s b a n).sys = s.sys := rfl
@[simp] theorem State.setNode_psc (s : State) (b : Nat) (a : Nat) (n : NodeS) : (State.setNode s b a n).psc = s.psc := rfl
@[simp] theorem State.setNode_grd (s : State) (b : Nat) (a : Nat) (n : NodeS) : (State.setNode s b a n).grd = s.grd := rfl
@[simp] theorem State.setNode_ser (s : State) (b : Nat) (a : Nat) (n : NodeS) : (State.setNode s b a n).ser = s.ser := rfl
@[simp] theorem State.setNode_cans (s : State) (b : Nat) (a : Nat) (n : NodeS) : (State.setNode s b a n).cans = s.cans := rfl
@[simp] theorem State.setNode_mem (s : State) (b : Nat) (a : Nat) (n : NodeS) : (State.setNode s b a n).mem = s.mem := rfl
@[simp] theorem State.setNode_ept (s : State) (b : Nat) (a : Nat) (n : NodeS) : (State.setNode s b a n).ept = s.ept := rfl
@[simp] theorem State.setNode_msh (s : State) (b : Nat) (a : Nat) (n : NodeS) : (State.setNode s b a n).msh = s.msh := rfl
@[simp] theorem State.setNode_rcg (s : State) (b : Nat) (a : Nat) (n : NodeS) : (State.setNode s b a n).rcg = s.rcg := rfl
@[simp] theorem State.setNode_ten (s : State) (b : Nat) (a : Nat) (n : NodeS) : (State.setNode s b a n).ten = s.ten := rfl
@[simp] theorem State.setNode_rng (s : State) (b : Nat) (a : Nat) (n : NodeS) : (State.setNode s b a n).rng = s.rng := rfl
@[simp] theorem State.setNode_bnd (s : State) (b : Nat) (a : Nat) (n : NodeS) : (State.setNode s b a n).bnd = s.bnd := rfl
@[simp] theorem State.setNode_rol (s : State) (b : Nat) (a : Nat) (n : NodeS) : (State.setNode s b a n).rol = s.rol := rfl
@[simp] theorem State.setNode_nvs (s : State) (b : Nat) (a : Nat) (n : NodeS) : (State.setNode s b a n).nvs = s.nvs := rfl
@[simp] theorem State.setNode_boot (s : State) (b : Nat) (a : Nat) (n : NodeS) : (State.setNode s b a n).boot = s.boot := rfl

@[simp] theorem State.setTr_pending (s : State) (t : Nat) (r : TRingS) : (State.setTr s t r).pending = s.pending := rfl
@[simp] theorem State.setTr_regs (s : State) (t : Nat) (r : TRingS) : (State.setTr s t r).regs = s.regs := rfl
@[simp] theorem State.setTr_free (s : State) (t : Nat) (r : TRingS) : (State.setTr s t r).free = s.free := rfl
@[simp] theorem State.setTr_rdata (s : State) (t : Nat) (r : TRingS) : (State.setTr s t r).rdata = s.rdata := rfl
@[simp] theorem State.setTr_caps (s : State) (t : Nat) (r : TRingS) : (State.setTr s t r).caps = s.caps := rfl
@[simp] theorem State.setTr_out (s : State) (t : Nat) (r : TRingS) : (State.setTr s t r).out = s.out := rfl
@[simp] theorem State.setTr_time (s : State) (t : Nat) (r : TRingS) : (State.setTr s t r).time = s.time := rfl
@[simp] theorem State.setTr_srv (s : State) (t : Nat) (r : TRingS) : (State.setTr s t r).srv = s.srv := rfl
@[simp] theorem State.setTr_tus (s : State) (t : Nat) (r : TRingS) : (State.setTr s t r).tus = s.tus := rfl
@[simp] theorem State.setTr_icu (s : State) (t : Nat) (r : TRingS) : (State.setTr s t r).icu = s.icu := rfl
@[simp] theorem State.setTr_evm (s : State) (t : Nat) (r : TRingS) : (State.setTr s t r).evm = s.evm := rfl
@[simp] theorem State.setTr_sys (s : State) (t : Nat) (r : TRingS) : (State.setTr s t r).sys = s.sys := rfl
@[simp] theorem State.setTr_psc (s : State) (t : Nat) (r : TRingS) : (State.setTr s t r).psc = s.psc := rfl
@[simp] theorem State.setTr_crs (s : State) (t : Nat) (r : TRingS) : (State.setTr s t r).crs = s.crs := rfl
@[simp] theorem State.setTr_grd (s : State) (t : Nat) (r : TRingS) : (State.setTr s t r).grd = s.grd := rfl
@[simp] theorem State.setTr_ser (s : State) (t : Nat) (r : TRingS) : (State.setTr s t r).ser = s.ser := rfl
@[simp] theorem State.setTr_cans (s : State) (t : Nat) (r : TRingS) : (State.setTr s t r).cans = s.cans := rfl
@[simp] theorem State.setTr_mem (s : State) (t : Nat) (r : TRingS) : (State.setTr s t r).mem = s.mem := rfl
@[simp] theorem State.setTr_ept (s : State) (t : Nat) (r : TRingS) : (State.setTr s t r).ept = s.ept := rfl
@[simp] theorem State.setTr_msh (s : State) (t : Nat) (r : TRingS) : (State.setTr s t r).msh = s.msh := rfl
@[simp] theorem State.setTr_rcg (s : State) (t : Nat) (r : TRingS) : (State.setTr s t r).rcg = s.rcg := rfl
@[simp] theorem State.setTr_ten (s : State) (t : Nat) (r : TRingS) : (State.setTr s t r).ten = s.ten := rfl
@[simp] theorem State.setTr_bnd (s : State) (t : Nat) (r : TRingS) : (State.setTr s t r).bnd = s.bnd := rfl
@[simp] theorem State.setTr_rol (s : State) (t : Nat) (r : TRingS) : (State.setTr s t r).rol = s.rol := rfl
@[simp] theorem State.setTr_nvs (s : State) (t : Nat) (r : TRingS) : (State.setTr s t r).nvs = s.nvs := rfl
@[simp] theorem State.setTr_boot (s : State) (t : Nat) (r : TRingS) : (State.setTr s t r).boot = s.boot := rfl

@[simp] theorem State.setSrc_pending (s : State) (n : Nat) (r : SrcS) : (State.setSrc s n r).pending = s.pending := rfl
@[simp] theorem State.setSrc_regs (s : State) (n : Nat) (r : SrcS) : (State.setSrc s n r).regs = s.regs := rfl
@[simp] theorem State.setSrc_free (s : State) (n : Nat) (r : SrcS) : (State.setSrc s n r).free = s.free := rfl
@[simp] theorem State.setSrc_rdata (s : State) (n : Nat) (r : SrcS) : (State.setSrc s n r).rdata = s.rdata := rfl
@[simp] theorem State.setSrc_caps (s : State) (n : Nat) (r : SrcS) : (State.setSrc s n r).caps = s.caps := rfl
@[simp] theorem State.setSrc_out (s : State) (n : Nat) (r : SrcS) : (State.setSrc s n r).out = s.out := rfl
@[simp] theorem State.setSrc_time (s : State) (n : Nat) (r : SrcS) : (State.setSrc s n r).time = s.time := rfl
@[simp] theorem State.setSrc_srv (s : State) (n : Nat) (r : SrcS) : (State.setSrc s n r).srv = s.srv := rfl
@[simp] theorem State.setSrc_tus (s : State) (n : Nat) (r : SrcS) : (State.setSrc s n r).tus = s.tus := rfl
@[simp] theorem State.setSrc_evm (s : State) (n : Nat) (r : SrcS) : (State.setSrc s n r).evm = s.evm := rfl
@[simp] theorem State.setSrc_sys (s : State) (n : Nat) (r : SrcS) : (State.setSrc s n r).sys = s.sys := rfl
@[simp] theorem State.setSrc_psc (s : State) (n : Nat) (r : SrcS) : (State.setSrc s n r).psc = s.psc := rfl
@[simp] theorem State.setSrc_crs (s : State) (n : Nat) (r : SrcS) : (State.setSrc s n r).crs = s.crs := rfl
@[simp] theorem State.setSrc_grd (s : State) (n : Nat) (r : SrcS) : (State.setSrc s n r).grd = s.grd := rfl
@[simp] theorem State.setSrc_ser (s : State) (n : Nat) (r : SrcS) : (State.setSrc s n r).ser = s.ser := rfl
@[simp] theorem State.setSrc_cans (s : State) (n : Nat) (r : SrcS) : (State.setSrc s n r).cans = s.cans := rfl
@[simp] theorem State.setSrc_mem (s : State) (n : Nat) (r : SrcS) : (State.setSrc s n r).mem = s.mem := rfl
@[simp] theorem State.setSrc_ept (s : State) (n : Nat) (r : SrcS) : (State.setSrc s n r).ept = s.ept := rfl
@[simp] theorem State.setSrc_msh (s : State) (n : Nat) (r : SrcS) : (State.setSrc s n r).msh = s.msh := rfl
@[simp] theorem State.setSrc_rcg (s : State) (n : Nat) (r : SrcS) : (State.setSrc s n r).rcg = s.rcg := rfl
@[simp] theorem State.setSrc_ten (s : State) (n : Nat) (r : SrcS) : (State.setSrc s n r).ten = s.ten := rfl
@[simp] theorem State.setSrc_rng (s : State) (n : Nat) (r : SrcS) : (State.setSrc s n r).rng = s.rng := rfl
@[simp] theorem State.setSrc_bnd (s : State) (n : Nat) (r : SrcS) : (State.setSrc s n r).bnd = s.bnd := rfl
@[simp] theorem State.setSrc_rol (s : State) (n : Nat) (r : SrcS) : (State.setSrc s n r).rol = s.rol := rfl
@[simp] theorem State.setSrc_nvs (s : State) (n : Nat) (r : SrcS) : (State.setSrc s n r).nvs = s.nvs := rfl
@[simp] theorem State.setSrc_boot (s : State) (n : Nat) (r : SrcS) : (State.setSrc s n r).boot = s.boot := rfl

@[simp] theorem State.setTgt_pending (s : State) (k : Nat) (t : TgtS) : (State.setTgt s k t).pending = s.pending := rfl
@[simp] theorem State.setTgt_regs (s : State) (k : Nat) (t : TgtS) : (State.setTgt s k t).regs = s.regs := rfl
@[simp] theorem State.setTgt_free (s : State) (k : Nat) (t : TgtS) : (State.setTgt s k t).free = s.free := rfl
@[simp] theorem State.setTgt_rdata (s : State) (k : Nat) (t : TgtS) : (State.setTgt s k t).rdata = s.rdata := rfl
@[simp] theorem State.setTgt_caps (s : State) (k : Nat) (t : TgtS) : (State.setTgt s k t).caps = s.caps := rfl
@[simp] theorem State.setTgt_out (s : State) (k : Nat) (t : TgtS) : (State.setTgt s k t).out = s.out := rfl
@[simp] theorem State.setTgt_time (s : State) (k : Nat) (t : TgtS) : (State.setTgt s k t).time = s.time := rfl
@[simp] theorem State.setTgt_srv (s : State) (k : Nat) (t : TgtS) : (State.setTgt s k t).srv = s.srv := rfl
@[simp] theorem State.setTgt_tus (s : State) (k : Nat) (t : TgtS) : (State.setTgt s k t).tus = s.tus := rfl
@[simp] theorem State.setTgt_evm (s : State) (k : Nat) (t : TgtS) : (State.setTgt s k t).evm = s.evm := rfl
@[simp] theorem State.setTgt_sys (s : State) (k : Nat) (t : TgtS) : (State.setTgt s k t).sys = s.sys := rfl
@[simp] theorem State.setTgt_psc (s : State) (k : Nat) (t : TgtS) : (State.setTgt s k t).psc = s.psc := rfl
@[simp] theorem State.setTgt_crs (s : State) (k : Nat) (t : TgtS) : (State.setTgt s k t).crs = s.crs := rfl
@[simp] theorem State.setTgt_grd (s : State) (k : Nat) (t : TgtS) : (State.setTgt s k t).grd = s.grd := rfl
@[simp] theorem State.setTgt_ser (s : State) (k : Nat) (t : TgtS) : (State.setTgt s k t).ser = s.ser := rfl
@[simp] theorem State.setTgt_cans (s : State) (k : Nat) (t : TgtS) : (State.setTgt s k t).cans = s.cans := rfl
@[simp] theorem State.setTgt_mem (s : State) (k : Nat) (t : TgtS) : (State.setTgt s k t).mem = s.mem := rfl
@[simp] theorem State.setTgt_ept (s : State) (k : Nat) (t : TgtS) : (State.setTgt s k t).ept = s.ept := rfl
@[simp] theorem State.setTgt_msh (s : State) (k : Nat) (t : TgtS) : (State.setTgt s k t).msh = s.msh := rfl
@[simp] theorem State.setTgt_rcg (s : State) (k : Nat) (t : TgtS) : (State.setTgt s k t).rcg = s.rcg := rfl
@[simp] theorem State.setTgt_ten (s : State) (k : Nat) (t : TgtS) : (State.setTgt s k t).ten = s.ten := rfl
@[simp] theorem State.setTgt_rng (s : State) (k : Nat) (t : TgtS) : (State.setTgt s k t).rng = s.rng := rfl
@[simp] theorem State.setTgt_bnd (s : State) (k : Nat) (t : TgtS) : (State.setTgt s k t).bnd = s.bnd := rfl
@[simp] theorem State.setTgt_rol (s : State) (k : Nat) (t : TgtS) : (State.setTgt s k t).rol = s.rol := rfl
@[simp] theorem State.setTgt_nvs (s : State) (k : Nat) (t : TgtS) : (State.setTgt s k t).nvs = s.nvs := rfl
@[simp] theorem State.setTgt_boot (s : State) (k : Nat) (t : TgtS) : (State.setTgt s k t).boot = s.boot := rfl

@[simp] theorem State.setMsix_pending (s : State) (k : Nat) (m : MsixS) : (State.setMsix s k m).pending = s.pending := rfl
@[simp] theorem State.setMsix_regs (s : State) (k : Nat) (m : MsixS) : (State.setMsix s k m).regs = s.regs := rfl
@[simp] theorem State.setMsix_free (s : State) (k : Nat) (m : MsixS) : (State.setMsix s k m).free = s.free := rfl
@[simp] theorem State.setMsix_rdata (s : State) (k : Nat) (m : MsixS) : (State.setMsix s k m).rdata = s.rdata := rfl
@[simp] theorem State.setMsix_caps (s : State) (k : Nat) (m : MsixS) : (State.setMsix s k m).caps = s.caps := rfl
@[simp] theorem State.setMsix_out (s : State) (k : Nat) (m : MsixS) : (State.setMsix s k m).out = s.out := rfl
@[simp] theorem State.setMsix_time (s : State) (k : Nat) (m : MsixS) : (State.setMsix s k m).time = s.time := rfl
@[simp] theorem State.setMsix_srv (s : State) (k : Nat) (m : MsixS) : (State.setMsix s k m).srv = s.srv := rfl
@[simp] theorem State.setMsix_tus (s : State) (k : Nat) (m : MsixS) : (State.setMsix s k m).tus = s.tus := rfl
@[simp] theorem State.setMsix_evm (s : State) (k : Nat) (m : MsixS) : (State.setMsix s k m).evm = s.evm := rfl
@[simp] theorem State.setMsix_sys (s : State) (k : Nat) (m : MsixS) : (State.setMsix s k m).sys = s.sys := rfl
@[simp] theorem State.setMsix_psc (s : State) (k : Nat) (m : MsixS) : (State.setMsix s k m).psc = s.psc := rfl
@[simp] theorem State.setMsix_crs (s : State) (k : Nat) (m : MsixS) : (State.setMsix s k m).crs = s.crs := rfl
@[simp] theorem State.setMsix_grd (s : State) (k : Nat) (m : MsixS) : (State.setMsix s k m).grd = s.grd := rfl
@[simp] theorem State.setMsix_ser (s : State) (k : Nat) (m : MsixS) : (State.setMsix s k m).ser = s.ser := rfl
@[simp] theorem State.setMsix_cans (s : State) (k : Nat) (m : MsixS) : (State.setMsix s k m).cans = s.cans := rfl
@[simp] theorem State.setMsix_mem (s : State) (k : Nat) (m : MsixS) : (State.setMsix s k m).mem = s.mem := rfl
@[simp] theorem State.setMsix_ept (s : State) (k : Nat) (m : MsixS) : (State.setMsix s k m).ept = s.ept := rfl
@[simp] theorem State.setMsix_msh (s : State) (k : Nat) (m : MsixS) : (State.setMsix s k m).msh = s.msh := rfl
@[simp] theorem State.setMsix_rcg (s : State) (k : Nat) (m : MsixS) : (State.setMsix s k m).rcg = s.rcg := rfl
@[simp] theorem State.setMsix_ten (s : State) (k : Nat) (m : MsixS) : (State.setMsix s k m).ten = s.ten := rfl
@[simp] theorem State.setMsix_rng (s : State) (k : Nat) (m : MsixS) : (State.setMsix s k m).rng = s.rng := rfl
@[simp] theorem State.setMsix_bnd (s : State) (k : Nat) (m : MsixS) : (State.setMsix s k m).bnd = s.bnd := rfl
@[simp] theorem State.setMsix_rol (s : State) (k : Nat) (m : MsixS) : (State.setMsix s k m).rol = s.rol := rfl
@[simp] theorem State.setMsix_nvs (s : State) (k : Nat) (m : MsixS) : (State.setMsix s k m).nvs = s.nvs := rfl
@[simp] theorem State.setMsix_boot (s : State) (k : Nat) (m : MsixS) : (State.setMsix s k m).boot = s.boot := rfl

@[simp] theorem State.setCr_pending (s : State) (t : Nat) (r : Nat) (c : CRingS) : (State.setCr s t r c).pending = s.pending := rfl
@[simp] theorem State.setCr_regs (s : State) (t : Nat) (r : Nat) (c : CRingS) : (State.setCr s t r c).regs = s.regs := rfl
@[simp] theorem State.setCr_free (s : State) (t : Nat) (r : Nat) (c : CRingS) : (State.setCr s t r c).free = s.free := rfl
@[simp] theorem State.setCr_rdata (s : State) (t : Nat) (r : Nat) (c : CRingS) : (State.setCr s t r c).rdata = s.rdata := rfl
@[simp] theorem State.setCr_caps (s : State) (t : Nat) (r : Nat) (c : CRingS) : (State.setCr s t r c).caps = s.caps := rfl
@[simp] theorem State.setCr_out (s : State) (t : Nat) (r : Nat) (c : CRingS) : (State.setCr s t r c).out = s.out := rfl
@[simp] theorem State.setCr_time (s : State) (t : Nat) (r : Nat) (c : CRingS) : (State.setCr s t r c).time = s.time := rfl
@[simp] theorem State.setCr_srv (s : State) (t : Nat) (r : Nat) (c : CRingS) : (State.setCr s t r c).srv = s.srv := rfl
@[simp] theorem State.setCr_tus (s : State) (t : Nat) (r : Nat) (c : CRingS) : (State.setCr s t r c).tus = s.tus := rfl
@[simp] theorem State.setCr_icu (s : State) (t : Nat) (r : Nat) (c : CRingS) : (State.setCr s t r c).icu = s.icu := rfl
@[simp] theorem State.setCr_evm (s : State) (t : Nat) (r : Nat) (c : CRingS) : (State.setCr s t r c).evm = s.evm := rfl
@[simp] theorem State.setCr_sys (s : State) (t : Nat) (r : Nat) (c : CRingS) : (State.setCr s t r c).sys = s.sys := rfl
@[simp] theorem State.setCr_psc (s : State) (t : Nat) (r : Nat) (c : CRingS) : (State.setCr s t r c).psc = s.psc := rfl
@[simp] theorem State.setCr_crs (s : State) (t : Nat) (r : Nat) (c : CRingS) : (State.setCr s t r c).crs = s.crs := rfl
@[simp] theorem State.setCr_grd (s : State) (t : Nat) (r : Nat) (c : CRingS) : (State.setCr s t r c).grd = s.grd := rfl
@[simp] theorem State.setCr_ser (s : State) (t : Nat) (r : Nat) (c : CRingS) : (State.setCr s t r c).ser = s.ser := rfl
@[simp] theorem State.setCr_cans (s : State) (t : Nat) (r : Nat) (c : CRingS) : (State.setCr s t r c).cans = s.cans := rfl
@[simp] theorem State.setCr_mem (s : State) (t : Nat) (r : Nat) (c : CRingS) : (State.setCr s t r c).mem = s.mem := rfl
@[simp] theorem State.setCr_ept (s : State) (t : Nat) (r : Nat) (c : CRingS) : (State.setCr s t r c).ept = s.ept := rfl
@[simp] theorem State.setCr_msh (s : State) (t : Nat) (r : Nat) (c : CRingS) : (State.setCr s t r c).msh = s.msh := rfl
@[simp] theorem State.setCr_rcg (s : State) (t : Nat) (r : Nat) (c : CRingS) : (State.setCr s t r c).rcg = s.rcg := rfl
@[simp] theorem State.setCr_ten (s : State) (t : Nat) (r : Nat) (c : CRingS) : (State.setCr s t r c).ten = s.ten := rfl
@[simp] theorem State.setCr_bnd (s : State) (t : Nat) (r : Nat) (c : CRingS) : (State.setCr s t r c).bnd = s.bnd := rfl
@[simp] theorem State.setCr_rol (s : State) (t : Nat) (r : Nat) (c : CRingS) : (State.setCr s t r c).rol = s.rol := rfl
@[simp] theorem State.setCr_nvs (s : State) (t : Nat) (r : Nat) (c : CRingS) : (State.setCr s t r c).nvs = s.nvs := rfl
@[simp] theorem State.setCr_boot (s : State) (t : Nat) (r : Nat) (c : CRingS) : (State.setCr s t r c).boot = s.boot := rfl

@[simp] theorem State.modStream_pending (s : State) (slot : Nat) (f : StreamS → StreamS) : (State.modStream s slot f).pending = s.pending := rfl
@[simp] theorem State.modStream_regs (s : State) (slot : Nat) (f : StreamS → StreamS) : (State.modStream s slot f).regs = s.regs := rfl
@[simp] theorem State.modStream_free (s : State) (slot : Nat) (f : StreamS → StreamS) : (State.modStream s slot f).free = s.free := rfl
@[simp] theorem State.modStream_rdata (s : State) (slot : Nat) (f : StreamS → StreamS) : (State.modStream s slot f).rdata = s.rdata := rfl
@[simp] theorem State.modStream_caps (s : State) (slot : Nat) (f : StreamS → StreamS) : (State.modStream s slot f).caps = s.caps := rfl
@[simp] theorem State.modStream_out (s : State) (slot : Nat) (f : StreamS → StreamS) : (State.modStream s slot f).out = s.out := rfl
@[simp] theorem State.modStream_time (s : State) (slot : Nat) (f : StreamS → StreamS) : (State.modStream s slot f).time = s.time := rfl
@[simp] theorem State.modStream_srv (s : State) (slot : Nat) (f : StreamS → StreamS) : (State.modStream s slot f).srv = s.srv := rfl
@[simp] theorem State.modStream_tus (s : State) (slot : Nat) (f : StreamS → StreamS) : (State.modStream s slot f).tus = s.tus := rfl
@[simp] theorem State.modStream_icu (s : State) (slot : Nat) (f : StreamS → StreamS) : (State.modStream s slot f).icu = s.icu := rfl
@[simp] theorem State.modStream_evm (s : State) (slot : Nat) (f : StreamS → StreamS) : (State.modStream s slot f).evm = s.evm := rfl
@[simp] theorem State.modStream_sys (s : State) (slot : Nat) (f : StreamS → StreamS) : (State.modStream s slot f).sys = s.sys := rfl
@[simp] theorem State.modStream_psc (s : State) (slot : Nat) (f : StreamS → StreamS) : (State.modStream s slot f).psc = s.psc := rfl
@[simp] theorem State.modStream_crs (s : State) (slot : Nat) (f : StreamS → StreamS) : (State.modStream s slot f).crs = s.crs := rfl
@[simp] theorem State.modStream_grd (s : State) (slot : Nat) (f : StreamS → StreamS) : (State.modStream s slot f).grd = s.grd := rfl
@[simp] theorem State.modStream_ser (s : State) (slot : Nat) (f : StreamS → StreamS) : (State.modStream s slot f).ser = s.ser := rfl
@[simp] theorem State.modStream_cans (s : State) (slot : Nat) (f : StreamS → StreamS) : (State.modStream s slot f).cans = s.cans := rfl
@[simp] theorem State.modStream_mem (s : State) (slot : Nat) (f : StreamS → StreamS) : (State.modStream s slot f).mem = s.mem := rfl
@[simp] theorem State.modStream_ept (s : State) (slot : Nat) (f : StreamS → StreamS) : (State.modStream s slot f).ept = s.ept := rfl
@[simp] theorem State.modStream_msh (s : State) (slot : Nat) (f : StreamS → StreamS) : (State.modStream s slot f).msh = s.msh := rfl
@[simp] theorem State.modStream_rcg (s : State) (slot : Nat) (f : StreamS → StreamS) : (State.modStream s slot f).rcg = s.rcg := rfl
@[simp] theorem State.modStream_ten (s : State) (slot : Nat) (f : StreamS → StreamS) : (State.modStream s slot f).ten = s.ten := rfl
@[simp] theorem State.modStream_bnd (s : State) (slot : Nat) (f : StreamS → StreamS) : (State.modStream s slot f).bnd = s.bnd := rfl
@[simp] theorem State.modStream_rol (s : State) (slot : Nat) (f : StreamS → StreamS) : (State.modStream s slot f).rol = s.rol := rfl
@[simp] theorem State.modStream_nvs (s : State) (slot : Nat) (f : StreamS → StreamS) : (State.modStream s slot f).nvs = s.nvs := rfl
@[simp] theorem State.modStream_boot (s : State) (slot : Nat) (f : StreamS → StreamS) : (State.modStream s slot f).boot = s.boot := rfl

@[simp] theorem State.modEnt_pending (s : State) (n : Nat) (f : EntS → EntS) : (State.modEnt s n f).pending = s.pending := rfl
@[simp] theorem State.modEnt_regs (s : State) (n : Nat) (f : EntS → EntS) : (State.modEnt s n f).regs = s.regs := rfl
@[simp] theorem State.modEnt_free (s : State) (n : Nat) (f : EntS → EntS) : (State.modEnt s n f).free = s.free := rfl
@[simp] theorem State.modEnt_rdata (s : State) (n : Nat) (f : EntS → EntS) : (State.modEnt s n f).rdata = s.rdata := rfl
@[simp] theorem State.modEnt_caps (s : State) (n : Nat) (f : EntS → EntS) : (State.modEnt s n f).caps = s.caps := rfl
@[simp] theorem State.modEnt_out (s : State) (n : Nat) (f : EntS → EntS) : (State.modEnt s n f).out = s.out := rfl
@[simp] theorem State.modEnt_time (s : State) (n : Nat) (f : EntS → EntS) : (State.modEnt s n f).time = s.time := rfl
@[simp] theorem State.modEnt_srv (s : State) (n : Nat) (f : EntS → EntS) : (State.modEnt s n f).srv = s.srv := rfl
@[simp] theorem State.modEnt_tus (s : State) (n : Nat) (f : EntS → EntS) : (State.modEnt s n f).tus = s.tus := rfl
@[simp] theorem State.modEnt_icu (s : State) (n : Nat) (f : EntS → EntS) : (State.modEnt s n f).icu = s.icu := rfl
@[simp] theorem State.modEnt_evm (s : State) (n : Nat) (f : EntS → EntS) : (State.modEnt s n f).evm = s.evm := rfl
@[simp] theorem State.modEnt_sys (s : State) (n : Nat) (f : EntS → EntS) : (State.modEnt s n f).sys = s.sys := rfl
@[simp] theorem State.modEnt_crs (s : State) (n : Nat) (f : EntS → EntS) : (State.modEnt s n f).crs = s.crs := rfl
@[simp] theorem State.modEnt_grd (s : State) (n : Nat) (f : EntS → EntS) : (State.modEnt s n f).grd = s.grd := rfl
@[simp] theorem State.modEnt_ser (s : State) (n : Nat) (f : EntS → EntS) : (State.modEnt s n f).ser = s.ser := rfl
@[simp] theorem State.modEnt_cans (s : State) (n : Nat) (f : EntS → EntS) : (State.modEnt s n f).cans = s.cans := rfl
@[simp] theorem State.modEnt_mem (s : State) (n : Nat) (f : EntS → EntS) : (State.modEnt s n f).mem = s.mem := rfl
@[simp] theorem State.modEnt_ept (s : State) (n : Nat) (f : EntS → EntS) : (State.modEnt s n f).ept = s.ept := rfl
@[simp] theorem State.modEnt_msh (s : State) (n : Nat) (f : EntS → EntS) : (State.modEnt s n f).msh = s.msh := rfl
@[simp] theorem State.modEnt_rcg (s : State) (n : Nat) (f : EntS → EntS) : (State.modEnt s n f).rcg = s.rcg := rfl
@[simp] theorem State.modEnt_ten (s : State) (n : Nat) (f : EntS → EntS) : (State.modEnt s n f).ten = s.ten := rfl
@[simp] theorem State.modEnt_rng (s : State) (n : Nat) (f : EntS → EntS) : (State.modEnt s n f).rng = s.rng := rfl
@[simp] theorem State.modEnt_bnd (s : State) (n : Nat) (f : EntS → EntS) : (State.modEnt s n f).bnd = s.bnd := rfl
@[simp] theorem State.modEnt_rol (s : State) (n : Nat) (f : EntS → EntS) : (State.modEnt s n f).rol = s.rol := rfl
@[simp] theorem State.modEnt_nvs (s : State) (n : Nat) (f : EntS → EntS) : (State.modEnt s n f).nvs = s.nvs := rfl
@[simp] theorem State.modEnt_boot (s : State) (n : Nat) (f : EntS → EntS) : (State.modEnt s n f).boot = s.boot := rfl

@[simp] theorem State.modInst_pending (s : State) (n : Nat) (f : InstS → InstS) : (State.modInst s n f).pending = s.pending := rfl
@[simp] theorem State.modInst_regs (s : State) (n : Nat) (f : InstS → InstS) : (State.modInst s n f).regs = s.regs := rfl
@[simp] theorem State.modInst_free (s : State) (n : Nat) (f : InstS → InstS) : (State.modInst s n f).free = s.free := rfl
@[simp] theorem State.modInst_rdata (s : State) (n : Nat) (f : InstS → InstS) : (State.modInst s n f).rdata = s.rdata := rfl
@[simp] theorem State.modInst_caps (s : State) (n : Nat) (f : InstS → InstS) : (State.modInst s n f).caps = s.caps := rfl
@[simp] theorem State.modInst_out (s : State) (n : Nat) (f : InstS → InstS) : (State.modInst s n f).out = s.out := rfl
@[simp] theorem State.modInst_time (s : State) (n : Nat) (f : InstS → InstS) : (State.modInst s n f).time = s.time := rfl
@[simp] theorem State.modInst_srv (s : State) (n : Nat) (f : InstS → InstS) : (State.modInst s n f).srv = s.srv := rfl
@[simp] theorem State.modInst_tus (s : State) (n : Nat) (f : InstS → InstS) : (State.modInst s n f).tus = s.tus := rfl
@[simp] theorem State.modInst_icu (s : State) (n : Nat) (f : InstS → InstS) : (State.modInst s n f).icu = s.icu := rfl
@[simp] theorem State.modInst_evm (s : State) (n : Nat) (f : InstS → InstS) : (State.modInst s n f).evm = s.evm := rfl
@[simp] theorem State.modInst_sys (s : State) (n : Nat) (f : InstS → InstS) : (State.modInst s n f).sys = s.sys := rfl
@[simp] theorem State.modInst_psc (s : State) (n : Nat) (f : InstS → InstS) : (State.modInst s n f).psc = s.psc := rfl
@[simp] theorem State.modInst_crs (s : State) (n : Nat) (f : InstS → InstS) : (State.modInst s n f).crs = s.crs := rfl
@[simp] theorem State.modInst_grd (s : State) (n : Nat) (f : InstS → InstS) : (State.modInst s n f).grd = s.grd := rfl
@[simp] theorem State.modInst_ser (s : State) (n : Nat) (f : InstS → InstS) : (State.modInst s n f).ser = s.ser := rfl
@[simp] theorem State.modInst_cans (s : State) (n : Nat) (f : InstS → InstS) : (State.modInst s n f).cans = s.cans := rfl
@[simp] theorem State.modInst_mem (s : State) (n : Nat) (f : InstS → InstS) : (State.modInst s n f).mem = s.mem := rfl
@[simp] theorem State.modInst_ept (s : State) (n : Nat) (f : InstS → InstS) : (State.modInst s n f).ept = s.ept := rfl
@[simp] theorem State.modInst_msh (s : State) (n : Nat) (f : InstS → InstS) : (State.modInst s n f).msh = s.msh := rfl
@[simp] theorem State.modInst_ten (s : State) (n : Nat) (f : InstS → InstS) : (State.modInst s n f).ten = s.ten := rfl
@[simp] theorem State.modInst_rng (s : State) (n : Nat) (f : InstS → InstS) : (State.modInst s n f).rng = s.rng := rfl
@[simp] theorem State.modInst_bnd (s : State) (n : Nat) (f : InstS → InstS) : (State.modInst s n f).bnd = s.bnd := rfl
@[simp] theorem State.modInst_rol (s : State) (n : Nat) (f : InstS → InstS) : (State.modInst s n f).rol = s.rol := rfl
@[simp] theorem State.modInst_nvs (s : State) (n : Nat) (f : InstS → InstS) : (State.modInst s n f).nvs = s.nvs := rfl
@[simp] theorem State.modInst_boot (s : State) (n : Nat) (f : InstS → InstS) : (State.modInst s n f).boot = s.boot := rfl

@[simp] theorem State.modCmd_pending (s : State) (t : Nat) (slot : Nat) (f : CmdS → CmdS) : (State.modCmd s t slot f).pending = s.pending := rfl
@[simp] theorem State.modCmd_regs (s : State) (t : Nat) (slot : Nat) (f : CmdS → CmdS) : (State.modCmd s t slot f).regs = s.regs := rfl
@[simp] theorem State.modCmd_free (s : State) (t : Nat) (slot : Nat) (f : CmdS → CmdS) : (State.modCmd s t slot f).free = s.free := rfl
@[simp] theorem State.modCmd_rdata (s : State) (t : Nat) (slot : Nat) (f : CmdS → CmdS) : (State.modCmd s t slot f).rdata = s.rdata := rfl
@[simp] theorem State.modCmd_caps (s : State) (t : Nat) (slot : Nat) (f : CmdS → CmdS) : (State.modCmd s t slot f).caps = s.caps := rfl
@[simp] theorem State.modCmd_out (s : State) (t : Nat) (slot : Nat) (f : CmdS → CmdS) : (State.modCmd s t slot f).out = s.out := rfl
@[simp] theorem State.modCmd_time (s : State) (t : Nat) (slot : Nat) (f : CmdS → CmdS) : (State.modCmd s t slot f).time = s.time := rfl
@[simp] theorem State.modCmd_srv (s : State) (t : Nat) (slot : Nat) (f : CmdS → CmdS) : (State.modCmd s t slot f).srv = s.srv := rfl
@[simp] theorem State.modCmd_tus (s : State) (t : Nat) (slot : Nat) (f : CmdS → CmdS) : (State.modCmd s t slot f).tus = s.tus := rfl
@[simp] theorem State.modCmd_icu (s : State) (t : Nat) (slot : Nat) (f : CmdS → CmdS) : (State.modCmd s t slot f).icu = s.icu := rfl
@[simp] theorem State.modCmd_evm (s : State) (t : Nat) (slot : Nat) (f : CmdS → CmdS) : (State.modCmd s t slot f).evm = s.evm := rfl
@[simp] theorem State.modCmd_sys (s : State) (t : Nat) (slot : Nat) (f : CmdS → CmdS) : (State.modCmd s t slot f).sys = s.sys := rfl
@[simp] theorem State.modCmd_psc (s : State) (t : Nat) (slot : Nat) (f : CmdS → CmdS) : (State.modCmd s t slot f).psc = s.psc := rfl
@[simp] theorem State.modCmd_crs (s : State) (t : Nat) (slot : Nat) (f : CmdS → CmdS) : (State.modCmd s t slot f).crs = s.crs := rfl
@[simp] theorem State.modCmd_grd (s : State) (t : Nat) (slot : Nat) (f : CmdS → CmdS) : (State.modCmd s t slot f).grd = s.grd := rfl
@[simp] theorem State.modCmd_ser (s : State) (t : Nat) (slot : Nat) (f : CmdS → CmdS) : (State.modCmd s t slot f).ser = s.ser := rfl
@[simp] theorem State.modCmd_cans (s : State) (t : Nat) (slot : Nat) (f : CmdS → CmdS) : (State.modCmd s t slot f).cans = s.cans := rfl
@[simp] theorem State.modCmd_mem (s : State) (t : Nat) (slot : Nat) (f : CmdS → CmdS) : (State.modCmd s t slot f).mem = s.mem := rfl
@[simp] theorem State.modCmd_ept (s : State) (t : Nat) (slot : Nat) (f : CmdS → CmdS) : (State.modCmd s t slot f).ept = s.ept := rfl
@[simp] theorem State.modCmd_msh (s : State) (t : Nat) (slot : Nat) (f : CmdS → CmdS) : (State.modCmd s t slot f).msh = s.msh := rfl
@[simp] theorem State.modCmd_rcg (s : State) (t : Nat) (slot : Nat) (f : CmdS → CmdS) : (State.modCmd s t slot f).rcg = s.rcg := rfl
@[simp] theorem State.modCmd_ten (s : State) (t : Nat) (slot : Nat) (f : CmdS → CmdS) : (State.modCmd s t slot f).ten = s.ten := rfl
@[simp] theorem State.modCmd_bnd (s : State) (t : Nat) (slot : Nat) (f : CmdS → CmdS) : (State.modCmd s t slot f).bnd = s.bnd := rfl
@[simp] theorem State.modCmd_rol (s : State) (t : Nat) (slot : Nat) (f : CmdS → CmdS) : (State.modCmd s t slot f).rol = s.rol := rfl
@[simp] theorem State.modCmd_nvs (s : State) (t : Nat) (slot : Nat) (f : CmdS → CmdS) : (State.modCmd s t slot f).nvs = s.nvs := rfl
@[simp] theorem State.modCmd_boot (s : State) (t : Nat) (slot : Nat) (f : CmdS → CmdS) : (State.modCmd s t slot f).boot = s.boot := rfl

@[simp] theorem State.setEng_pending (s : State) (x : Nat) (g : EngS) : (State.setEng s x g).pending = s.pending := rfl
@[simp] theorem State.setEng_regs (s : State) (x : Nat) (g : EngS) : (State.setEng s x g).regs = s.regs := rfl
@[simp] theorem State.setEng_free (s : State) (x : Nat) (g : EngS) : (State.setEng s x g).free = s.free := rfl
@[simp] theorem State.setEng_rdata (s : State) (x : Nat) (g : EngS) : (State.setEng s x g).rdata = s.rdata := rfl
@[simp] theorem State.setEng_caps (s : State) (x : Nat) (g : EngS) : (State.setEng s x g).caps = s.caps := rfl
@[simp] theorem State.setEng_out (s : State) (x : Nat) (g : EngS) : (State.setEng s x g).out = s.out := rfl
@[simp] theorem State.setEng_time (s : State) (x : Nat) (g : EngS) : (State.setEng s x g).time = s.time := rfl
@[simp] theorem State.setEng_srv (s : State) (x : Nat) (g : EngS) : (State.setEng s x g).srv = s.srv := rfl
@[simp] theorem State.setEng_tus (s : State) (x : Nat) (g : EngS) : (State.setEng s x g).tus = s.tus := rfl
@[simp] theorem State.setEng_icu (s : State) (x : Nat) (g : EngS) : (State.setEng s x g).icu = s.icu := rfl
@[simp] theorem State.setEng_evm (s : State) (x : Nat) (g : EngS) : (State.setEng s x g).evm = s.evm := rfl
@[simp] theorem State.setEng_sys (s : State) (x : Nat) (g : EngS) : (State.setEng s x g).sys = s.sys := rfl
@[simp] theorem State.setEng_psc (s : State) (x : Nat) (g : EngS) : (State.setEng s x g).psc = s.psc := rfl
@[simp] theorem State.setEng_crs (s : State) (x : Nat) (g : EngS) : (State.setEng s x g).crs = s.crs := rfl
@[simp] theorem State.setEng_grd (s : State) (x : Nat) (g : EngS) : (State.setEng s x g).grd = s.grd := rfl
@[simp] theorem State.setEng_ser (s : State) (x : Nat) (g : EngS) : (State.setEng s x g).ser = s.ser := rfl
@[simp] theorem State.setEng_cans (s : State) (x : Nat) (g : EngS) : (State.setEng s x g).cans = s.cans := rfl
@[simp] theorem State.setEng_mem (s : State) (x : Nat) (g : EngS) : (State.setEng s x g).mem = s.mem := rfl
@[simp] theorem State.setEng_ept (s : State) (x : Nat) (g : EngS) : (State.setEng s x g).ept = s.ept := rfl
@[simp] theorem State.setEng_rcg (s : State) (x : Nat) (g : EngS) : (State.setEng s x g).rcg = s.rcg := rfl
@[simp] theorem State.setEng_ten (s : State) (x : Nat) (g : EngS) : (State.setEng s x g).ten = s.ten := rfl
@[simp] theorem State.setEng_rng (s : State) (x : Nat) (g : EngS) : (State.setEng s x g).rng = s.rng := rfl
@[simp] theorem State.setEng_bnd (s : State) (x : Nat) (g : EngS) : (State.setEng s x g).bnd = s.bnd := rfl
@[simp] theorem State.setEng_rol (s : State) (x : Nat) (g : EngS) : (State.setEng s x g).rol = s.rol := rfl
@[simp] theorem State.setEng_nvs (s : State) (x : Nat) (g : EngS) : (State.setEng s x g).nvs = s.nvs := rfl
@[simp] theorem State.setEng_boot (s : State) (x : Nat) (g : EngS) : (State.setEng s x g).boot = s.boot := rfl

@[simp] theorem State.setCh_pending (s : State) (c : Nat) (r : ChS) : (State.setCh s c r).pending = s.pending := rfl
@[simp] theorem State.setCh_regs (s : State) (c : Nat) (r : ChS) : (State.setCh s c r).regs = s.regs := rfl
@[simp] theorem State.setCh_free (s : State) (c : Nat) (r : ChS) : (State.setCh s c r).free = s.free := rfl
@[simp] theorem State.setCh_rdata (s : State) (c : Nat) (r : ChS) : (State.setCh s c r).rdata = s.rdata := rfl
@[simp] theorem State.setCh_caps (s : State) (c : Nat) (r : ChS) : (State.setCh s c r).caps = s.caps := rfl
@[simp] theorem State.setCh_out (s : State) (c : Nat) (r : ChS) : (State.setCh s c r).out = s.out := rfl
@[simp] theorem State.setCh_time (s : State) (c : Nat) (r : ChS) : (State.setCh s c r).time = s.time := rfl
@[simp] theorem State.setCh_srv (s : State) (c : Nat) (r : ChS) : (State.setCh s c r).srv = s.srv := rfl
@[simp] theorem State.setCh_tus (s : State) (c : Nat) (r : ChS) : (State.setCh s c r).tus = s.tus := rfl
@[simp] theorem State.setCh_icu (s : State) (c : Nat) (r : ChS) : (State.setCh s c r).icu = s.icu := rfl
@[simp] theorem State.setCh_evm (s : State) (c : Nat) (r : ChS) : (State.setCh s c r).evm = s.evm := rfl
@[simp] theorem State.setCh_sys (s : State) (c : Nat) (r : ChS) : (State.setCh s c r).sys = s.sys := rfl
@[simp] theorem State.setCh_psc (s : State) (c : Nat) (r : ChS) : (State.setCh s c r).psc = s.psc := rfl
@[simp] theorem State.setCh_crs (s : State) (c : Nat) (r : ChS) : (State.setCh s c r).crs = s.crs := rfl
@[simp] theorem State.setCh_grd (s : State) (c : Nat) (r : ChS) : (State.setCh s c r).grd = s.grd := rfl
@[simp] theorem State.setCh_ser (s : State) (c : Nat) (r : ChS) : (State.setCh s c r).ser = s.ser := rfl
@[simp] theorem State.setCh_cans (s : State) (c : Nat) (r : ChS) : (State.setCh s c r).cans = s.cans := rfl
@[simp] theorem State.setCh_mem (s : State) (c : Nat) (r : ChS) : (State.setCh s c r).mem = s.mem := rfl
@[simp] theorem State.setCh_ept (s : State) (c : Nat) (r : ChS) : (State.setCh s c r).ept = s.ept := rfl
@[simp] theorem State.setCh_rcg (s : State) (c : Nat) (r : ChS) : (State.setCh s c r).rcg = s.rcg := rfl
@[simp] theorem State.setCh_ten (s : State) (c : Nat) (r : ChS) : (State.setCh s c r).ten = s.ten := rfl
@[simp] theorem State.setCh_rng (s : State) (c : Nat) (r : ChS) : (State.setCh s c r).rng = s.rng := rfl
@[simp] theorem State.setCh_bnd (s : State) (c : Nat) (r : ChS) : (State.setCh s c r).bnd = s.bnd := rfl
@[simp] theorem State.setCh_rol (s : State) (c : Nat) (r : ChS) : (State.setCh s c r).rol = s.rol := rfl
@[simp] theorem State.setCh_nvs (s : State) (c : Nat) (r : ChS) : (State.setCh s c r).nvs = s.nvs := rfl
@[simp] theorem State.setCh_boot (s : State) (c : Nat) (r : ChS) : (State.setCh s c r).boot = s.boot := rfl

@[simp] theorem State.setGu_pending (s : State) (c : Nat) (u : GuS) : (State.setGu s c u).pending = s.pending := rfl
@[simp] theorem State.setGu_regs (s : State) (c : Nat) (u : GuS) : (State.setGu s c u).regs = s.regs := rfl
@[simp] theorem State.setGu_free (s : State) (c : Nat) (u : GuS) : (State.setGu s c u).free = s.free := rfl
@[simp] theorem State.setGu_rdata (s : State) (c : Nat) (u : GuS) : (State.setGu s c u).rdata = s.rdata := rfl
@[simp] theorem State.setGu_caps (s : State) (c : Nat) (u : GuS) : (State.setGu s c u).caps = s.caps := rfl
@[simp] theorem State.setGu_out (s : State) (c : Nat) (u : GuS) : (State.setGu s c u).out = s.out := rfl
@[simp] theorem State.setGu_time (s : State) (c : Nat) (u : GuS) : (State.setGu s c u).time = s.time := rfl
@[simp] theorem State.setGu_srv (s : State) (c : Nat) (u : GuS) : (State.setGu s c u).srv = s.srv := rfl
@[simp] theorem State.setGu_tus (s : State) (c : Nat) (u : GuS) : (State.setGu s c u).tus = s.tus := rfl
@[simp] theorem State.setGu_icu (s : State) (c : Nat) (u : GuS) : (State.setGu s c u).icu = s.icu := rfl
@[simp] theorem State.setGu_evm (s : State) (c : Nat) (u : GuS) : (State.setGu s c u).evm = s.evm := rfl
@[simp] theorem State.setGu_sys (s : State) (c : Nat) (u : GuS) : (State.setGu s c u).sys = s.sys := rfl
@[simp] theorem State.setGu_psc (s : State) (c : Nat) (u : GuS) : (State.setGu s c u).psc = s.psc := rfl
@[simp] theorem State.setGu_crs (s : State) (c : Nat) (u : GuS) : (State.setGu s c u).crs = s.crs := rfl
@[simp] theorem State.setGu_ser (s : State) (c : Nat) (u : GuS) : (State.setGu s c u).ser = s.ser := rfl
@[simp] theorem State.setGu_cans (s : State) (c : Nat) (u : GuS) : (State.setGu s c u).cans = s.cans := rfl
@[simp] theorem State.setGu_mem (s : State) (c : Nat) (u : GuS) : (State.setGu s c u).mem = s.mem := rfl
@[simp] theorem State.setGu_ept (s : State) (c : Nat) (u : GuS) : (State.setGu s c u).ept = s.ept := rfl
@[simp] theorem State.setGu_msh (s : State) (c : Nat) (u : GuS) : (State.setGu s c u).msh = s.msh := rfl
@[simp] theorem State.setGu_rcg (s : State) (c : Nat) (u : GuS) : (State.setGu s c u).rcg = s.rcg := rfl
@[simp] theorem State.setGu_ten (s : State) (c : Nat) (u : GuS) : (State.setGu s c u).ten = s.ten := rfl
@[simp] theorem State.setGu_rng (s : State) (c : Nat) (u : GuS) : (State.setGu s c u).rng = s.rng := rfl
@[simp] theorem State.setGu_bnd (s : State) (c : Nat) (u : GuS) : (State.setGu s c u).bnd = s.bnd := rfl
@[simp] theorem State.setGu_rol (s : State) (c : Nat) (u : GuS) : (State.setGu s c u).rol = s.rol := rfl
@[simp] theorem State.setGu_nvs (s : State) (c : Nat) (u : GuS) : (State.setGu s c u).nvs = s.nvs := rfl
@[simp] theorem State.setGu_boot (s : State) (c : Nat) (u : GuS) : (State.setGu s c u).boot = s.boot := rfl

@[simp] theorem State.setComps_pending (s : State) (x : Nat) (l : List (Nat × Option Nat)) : (State.setComps s x l).pending = s.pending := rfl
@[simp] theorem State.setComps_regs (s : State) (x : Nat) (l : List (Nat × Option Nat)) : (State.setComps s x l).regs = s.regs := rfl
@[simp] theorem State.setComps_free (s : State) (x : Nat) (l : List (Nat × Option Nat)) : (State.setComps s x l).free = s.free := rfl
@[simp] theorem State.setComps_rdata (s : State) (x : Nat) (l : List (Nat × Option Nat)) : (State.setComps s x l).rdata = s.rdata := rfl
@[simp] theorem State.setComps_caps (s : State) (x : Nat) (l : List (Nat × Option Nat)) : (State.setComps s x l).caps = s.caps := rfl
@[simp] theorem State.setComps_out (s : State) (x : Nat) (l : List (Nat × Option Nat)) : (State.setComps s x l).out = s.out := rfl
@[simp] theorem State.setComps_time (s : State) (x : Nat) (l : List (Nat × Option Nat)) : (State.setComps s x l).time = s.time := rfl
@[simp] theorem State.setComps_srv (s : State) (x : Nat) (l : List (Nat × Option Nat)) : (State.setComps s x l).srv = s.srv := rfl
@[simp] theorem State.setComps_tus (s : State) (x : Nat) (l : List (Nat × Option Nat)) : (State.setComps s x l).tus = s.tus := rfl
@[simp] theorem State.setComps_icu (s : State) (x : Nat) (l : List (Nat × Option Nat)) : (State.setComps s x l).icu = s.icu := rfl
@[simp] theorem State.setComps_evm (s : State) (x : Nat) (l : List (Nat × Option Nat)) : (State.setComps s x l).evm = s.evm := rfl
@[simp] theorem State.setComps_sys (s : State) (x : Nat) (l : List (Nat × Option Nat)) : (State.setComps s x l).sys = s.sys := rfl
@[simp] theorem State.setComps_psc (s : State) (x : Nat) (l : List (Nat × Option Nat)) : (State.setComps s x l).psc = s.psc := rfl
@[simp] theorem State.setComps_crs (s : State) (x : Nat) (l : List (Nat × Option Nat)) : (State.setComps s x l).crs = s.crs := rfl
@[simp] theorem State.setComps_ser (s : State) (x : Nat) (l : List (Nat × Option Nat)) : (State.setComps s x l).ser = s.ser := rfl
@[simp] theorem State.setComps_cans (s : State) (x : Nat) (l : List (Nat × Option Nat)) : (State.setComps s x l).cans = s.cans := rfl
@[simp] theorem State.setComps_mem (s : State) (x : Nat) (l : List (Nat × Option Nat)) : (State.setComps s x l).mem = s.mem := rfl
@[simp] theorem State.setComps_ept (s : State) (x : Nat) (l : List (Nat × Option Nat)) : (State.setComps s x l).ept = s.ept := rfl
@[simp] theorem State.setComps_msh (s : State) (x : Nat) (l : List (Nat × Option Nat)) : (State.setComps s x l).msh = s.msh := rfl
@[simp] theorem State.setComps_rcg (s : State) (x : Nat) (l : List (Nat × Option Nat)) : (State.setComps s x l).rcg = s.rcg := rfl
@[simp] theorem State.setComps_ten (s : State) (x : Nat) (l : List (Nat × Option Nat)) : (State.setComps s x l).ten = s.ten := rfl
@[simp] theorem State.setComps_rng (s : State) (x : Nat) (l : List (Nat × Option Nat)) : (State.setComps s x l).rng = s.rng := rfl
@[simp] theorem State.setComps_bnd (s : State) (x : Nat) (l : List (Nat × Option Nat)) : (State.setComps s x l).bnd = s.bnd := rfl
@[simp] theorem State.setComps_rol (s : State) (x : Nat) (l : List (Nat × Option Nat)) : (State.setComps s x l).rol = s.rol := rfl
@[simp] theorem State.setComps_nvs (s : State) (x : Nat) (l : List (Nat × Option Nat)) : (State.setComps s x l).nvs = s.nvs := rfl
@[simp] theorem State.setComps_boot (s : State) (x : Nat) (l : List (Nat × Option Nat)) : (State.setComps s x l).boot = s.boot := rfl

@[simp] theorem State.modJob_pending (s : State) (id : JobId) (f : JobS → JobS) : (State.modJob s id f).pending = s.pending := rfl
@[simp] theorem State.modJob_regs (s : State) (id : JobId) (f : JobS → JobS) : (State.modJob s id f).regs = s.regs := rfl
@[simp] theorem State.modJob_free (s : State) (id : JobId) (f : JobS → JobS) : (State.modJob s id f).free = s.free := rfl
@[simp] theorem State.modJob_rdata (s : State) (id : JobId) (f : JobS → JobS) : (State.modJob s id f).rdata = s.rdata := rfl
@[simp] theorem State.modJob_caps (s : State) (id : JobId) (f : JobS → JobS) : (State.modJob s id f).caps = s.caps := rfl
@[simp] theorem State.modJob_out (s : State) (id : JobId) (f : JobS → JobS) : (State.modJob s id f).out = s.out := rfl
@[simp] theorem State.modJob_time (s : State) (id : JobId) (f : JobS → JobS) : (State.modJob s id f).time = s.time := rfl
@[simp] theorem State.modJob_srv (s : State) (id : JobId) (f : JobS → JobS) : (State.modJob s id f).srv = s.srv := rfl
@[simp] theorem State.modJob_tus (s : State) (id : JobId) (f : JobS → JobS) : (State.modJob s id f).tus = s.tus := rfl
@[simp] theorem State.modJob_icu (s : State) (id : JobId) (f : JobS → JobS) : (State.modJob s id f).icu = s.icu := rfl
@[simp] theorem State.modJob_evm (s : State) (id : JobId) (f : JobS → JobS) : (State.modJob s id f).evm = s.evm := rfl
@[simp] theorem State.modJob_sys (s : State) (id : JobId) (f : JobS → JobS) : (State.modJob s id f).sys = s.sys := rfl
@[simp] theorem State.modJob_psc (s : State) (id : JobId) (f : JobS → JobS) : (State.modJob s id f).psc = s.psc := rfl
@[simp] theorem State.modJob_crs (s : State) (id : JobId) (f : JobS → JobS) : (State.modJob s id f).crs = s.crs := rfl
@[simp] theorem State.modJob_grd (s : State) (id : JobId) (f : JobS → JobS) : (State.modJob s id f).grd = s.grd := rfl
@[simp] theorem State.modJob_ser (s : State) (id : JobId) (f : JobS → JobS) : (State.modJob s id f).ser = s.ser := rfl
@[simp] theorem State.modJob_cans (s : State) (id : JobId) (f : JobS → JobS) : (State.modJob s id f).cans = s.cans := rfl
@[simp] theorem State.modJob_mem (s : State) (id : JobId) (f : JobS → JobS) : (State.modJob s id f).mem = s.mem := rfl
@[simp] theorem State.modJob_ept (s : State) (id : JobId) (f : JobS → JobS) : (State.modJob s id f).ept = s.ept := rfl
@[simp] theorem State.modJob_msh (s : State) (id : JobId) (f : JobS → JobS) : (State.modJob s id f).msh = s.msh := rfl
@[simp] theorem State.modJob_rcg (s : State) (id : JobId) (f : JobS → JobS) : (State.modJob s id f).rcg = s.rcg := rfl
@[simp] theorem State.modJob_ten (s : State) (id : JobId) (f : JobS → JobS) : (State.modJob s id f).ten = s.ten := rfl
@[simp] theorem State.modJob_bnd (s : State) (id : JobId) (f : JobS → JobS) : (State.modJob s id f).bnd = s.bnd := rfl
@[simp] theorem State.modJob_rol (s : State) (id : JobId) (f : JobS → JobS) : (State.modJob s id f).rol = s.rol := rfl
@[simp] theorem State.modJob_nvs (s : State) (id : JobId) (f : JobS → JobS) : (State.modJob s id f).nvs = s.nvs := rfl
@[simp] theorem State.modJob_boot (s : State) (id : JobId) (f : JobS → JobS) : (State.modJob s id f).boot = s.boot := rfl

@[simp] theorem State.setTu_pending (s : State) (x : Nat) (u : TuS) : (State.setTu s x u).pending = s.pending := rfl
@[simp] theorem State.setTu_regs (s : State) (x : Nat) (u : TuS) : (State.setTu s x u).regs = s.regs := rfl
@[simp] theorem State.setTu_free (s : State) (x : Nat) (u : TuS) : (State.setTu s x u).free = s.free := rfl
@[simp] theorem State.setTu_rdata (s : State) (x : Nat) (u : TuS) : (State.setTu s x u).rdata = s.rdata := rfl
@[simp] theorem State.setTu_caps (s : State) (x : Nat) (u : TuS) : (State.setTu s x u).caps = s.caps := rfl
@[simp] theorem State.setTu_out (s : State) (x : Nat) (u : TuS) : (State.setTu s x u).out = s.out := rfl
@[simp] theorem State.setTu_time (s : State) (x : Nat) (u : TuS) : (State.setTu s x u).time = s.time := rfl
@[simp] theorem State.setTu_srv (s : State) (x : Nat) (u : TuS) : (State.setTu s x u).srv = s.srv := rfl
@[simp] theorem State.setTu_icu (s : State) (x : Nat) (u : TuS) : (State.setTu s x u).icu = s.icu := rfl
@[simp] theorem State.setTu_evm (s : State) (x : Nat) (u : TuS) : (State.setTu s x u).evm = s.evm := rfl
@[simp] theorem State.setTu_sys (s : State) (x : Nat) (u : TuS) : (State.setTu s x u).sys = s.sys := rfl
@[simp] theorem State.setTu_psc (s : State) (x : Nat) (u : TuS) : (State.setTu s x u).psc = s.psc := rfl
@[simp] theorem State.setTu_crs (s : State) (x : Nat) (u : TuS) : (State.setTu s x u).crs = s.crs := rfl
@[simp] theorem State.setTu_grd (s : State) (x : Nat) (u : TuS) : (State.setTu s x u).grd = s.grd := rfl
@[simp] theorem State.setTu_ser (s : State) (x : Nat) (u : TuS) : (State.setTu s x u).ser = s.ser := rfl
@[simp] theorem State.setTu_cans (s : State) (x : Nat) (u : TuS) : (State.setTu s x u).cans = s.cans := rfl
@[simp] theorem State.setTu_mem (s : State) (x : Nat) (u : TuS) : (State.setTu s x u).mem = s.mem := rfl
@[simp] theorem State.setTu_ept (s : State) (x : Nat) (u : TuS) : (State.setTu s x u).ept = s.ept := rfl
@[simp] theorem State.setTu_msh (s : State) (x : Nat) (u : TuS) : (State.setTu s x u).msh = s.msh := rfl
@[simp] theorem State.setTu_rcg (s : State) (x : Nat) (u : TuS) : (State.setTu s x u).rcg = s.rcg := rfl
@[simp] theorem State.setTu_ten (s : State) (x : Nat) (u : TuS) : (State.setTu s x u).ten = s.ten := rfl
@[simp] theorem State.setTu_rng (s : State) (x : Nat) (u : TuS) : (State.setTu s x u).rng = s.rng := rfl
@[simp] theorem State.setTu_bnd (s : State) (x : Nat) (u : TuS) : (State.setTu s x u).bnd = s.bnd := rfl
@[simp] theorem State.setTu_rol (s : State) (x : Nat) (u : TuS) : (State.setTu s x u).rol = s.rol := rfl
@[simp] theorem State.setTu_nvs (s : State) (x : Nat) (u : TuS) : (State.setTu s x u).nvs = s.nvs := rfl
@[simp] theorem State.setTu_boot (s : State) (x : Nat) (u : TuS) : (State.setTu s x u).boot = s.boot := rfl

@[simp] theorem State.setOwner_pending (s : State) (e : Nat) (uid : Nat) : (State.setOwner s e uid).pending = s.pending := rfl
@[simp] theorem State.setOwner_regs (s : State) (e : Nat) (uid : Nat) : (State.setOwner s e uid).regs = s.regs := rfl
@[simp] theorem State.setOwner_free (s : State) (e : Nat) (uid : Nat) : (State.setOwner s e uid).free = s.free := rfl
@[simp] theorem State.setOwner_rdata (s : State) (e : Nat) (uid : Nat) : (State.setOwner s e uid).rdata = s.rdata := rfl
@[simp] theorem State.setOwner_caps (s : State) (e : Nat) (uid : Nat) : (State.setOwner s e uid).caps = s.caps := rfl
@[simp] theorem State.setOwner_out (s : State) (e : Nat) (uid : Nat) : (State.setOwner s e uid).out = s.out := rfl
@[simp] theorem State.setOwner_time (s : State) (e : Nat) (uid : Nat) : (State.setOwner s e uid).time = s.time := rfl
@[simp] theorem State.setOwner_srv (s : State) (e : Nat) (uid : Nat) : (State.setOwner s e uid).srv = s.srv := rfl
@[simp] theorem State.setOwner_tus (s : State) (e : Nat) (uid : Nat) : (State.setOwner s e uid).tus = s.tus := rfl
@[simp] theorem State.setOwner_icu (s : State) (e : Nat) (uid : Nat) : (State.setOwner s e uid).icu = s.icu := rfl
@[simp] theorem State.setOwner_evm (s : State) (e : Nat) (uid : Nat) : (State.setOwner s e uid).evm = s.evm := rfl
@[simp] theorem State.setOwner_sys (s : State) (e : Nat) (uid : Nat) : (State.setOwner s e uid).sys = s.sys := rfl
@[simp] theorem State.setOwner_psc (s : State) (e : Nat) (uid : Nat) : (State.setOwner s e uid).psc = s.psc := rfl
@[simp] theorem State.setOwner_crs (s : State) (e : Nat) (uid : Nat) : (State.setOwner s e uid).crs = s.crs := rfl
@[simp] theorem State.setOwner_grd (s : State) (e : Nat) (uid : Nat) : (State.setOwner s e uid).grd = s.grd := rfl
@[simp] theorem State.setOwner_ser (s : State) (e : Nat) (uid : Nat) : (State.setOwner s e uid).ser = s.ser := rfl
@[simp] theorem State.setOwner_cans (s : State) (e : Nat) (uid : Nat) : (State.setOwner s e uid).cans = s.cans := rfl
@[simp] theorem State.setOwner_mem (s : State) (e : Nat) (uid : Nat) : (State.setOwner s e uid).mem = s.mem := rfl
@[simp] theorem State.setOwner_ept (s : State) (e : Nat) (uid : Nat) : (State.setOwner s e uid).ept = s.ept := rfl
@[simp] theorem State.setOwner_msh (s : State) (e : Nat) (uid : Nat) : (State.setOwner s e uid).msh = s.msh := rfl
@[simp] theorem State.setOwner_rcg (s : State) (e : Nat) (uid : Nat) : (State.setOwner s e uid).rcg = s.rcg := rfl
@[simp] theorem State.setOwner_rng (s : State) (e : Nat) (uid : Nat) : (State.setOwner s e uid).rng = s.rng := rfl
@[simp] theorem State.setOwner_bnd (s : State) (e : Nat) (uid : Nat) : (State.setOwner s e uid).bnd = s.bnd := rfl
@[simp] theorem State.setOwner_rol (s : State) (e : Nat) (uid : Nat) : (State.setOwner s e uid).rol = s.rol := rfl
@[simp] theorem State.setOwner_nvs (s : State) (e : Nat) (uid : Nat) : (State.setOwner s e uid).nvs = s.nvs := rfl
@[simp] theorem State.setOwner_boot (s : State) (e : Nat) (uid : Nat) : (State.setOwner s e uid).boot = s.boot := rfl

@[simp] theorem State.setEp_pending (s : State) (e : Nat) (r : EpS) : (State.setEp s e r).pending = s.pending := rfl
@[simp] theorem State.setEp_regs (s : State) (e : Nat) (r : EpS) : (State.setEp s e r).regs = s.regs := rfl
@[simp] theorem State.setEp_free (s : State) (e : Nat) (r : EpS) : (State.setEp s e r).free = s.free := rfl
@[simp] theorem State.setEp_rdata (s : State) (e : Nat) (r : EpS) : (State.setEp s e r).rdata = s.rdata := rfl
@[simp] theorem State.setEp_caps (s : State) (e : Nat) (r : EpS) : (State.setEp s e r).caps = s.caps := rfl
@[simp] theorem State.setEp_out (s : State) (e : Nat) (r : EpS) : (State.setEp s e r).out = s.out := rfl
@[simp] theorem State.setEp_time (s : State) (e : Nat) (r : EpS) : (State.setEp s e r).time = s.time := rfl
@[simp] theorem State.setEp_srv (s : State) (e : Nat) (r : EpS) : (State.setEp s e r).srv = s.srv := rfl
@[simp] theorem State.setEp_tus (s : State) (e : Nat) (r : EpS) : (State.setEp s e r).tus = s.tus := rfl
@[simp] theorem State.setEp_icu (s : State) (e : Nat) (r : EpS) : (State.setEp s e r).icu = s.icu := rfl
@[simp] theorem State.setEp_evm (s : State) (e : Nat) (r : EpS) : (State.setEp s e r).evm = s.evm := rfl
@[simp] theorem State.setEp_sys (s : State) (e : Nat) (r : EpS) : (State.setEp s e r).sys = s.sys := rfl
@[simp] theorem State.setEp_psc (s : State) (e : Nat) (r : EpS) : (State.setEp s e r).psc = s.psc := rfl
@[simp] theorem State.setEp_crs (s : State) (e : Nat) (r : EpS) : (State.setEp s e r).crs = s.crs := rfl
@[simp] theorem State.setEp_grd (s : State) (e : Nat) (r : EpS) : (State.setEp s e r).grd = s.grd := rfl
@[simp] theorem State.setEp_ser (s : State) (e : Nat) (r : EpS) : (State.setEp s e r).ser = s.ser := rfl
@[simp] theorem State.setEp_cans (s : State) (e : Nat) (r : EpS) : (State.setEp s e r).cans = s.cans := rfl
@[simp] theorem State.setEp_mem (s : State) (e : Nat) (r : EpS) : (State.setEp s e r).mem = s.mem := rfl
@[simp] theorem State.setEp_msh (s : State) (e : Nat) (r : EpS) : (State.setEp s e r).msh = s.msh := rfl
@[simp] theorem State.setEp_rcg (s : State) (e : Nat) (r : EpS) : (State.setEp s e r).rcg = s.rcg := rfl
@[simp] theorem State.setEp_ten (s : State) (e : Nat) (r : EpS) : (State.setEp s e r).ten = s.ten := rfl
@[simp] theorem State.setEp_rng (s : State) (e : Nat) (r : EpS) : (State.setEp s e r).rng = s.rng := rfl
@[simp] theorem State.setEp_bnd (s : State) (e : Nat) (r : EpS) : (State.setEp s e r).bnd = s.bnd := rfl
@[simp] theorem State.setEp_rol (s : State) (e : Nat) (r : EpS) : (State.setEp s e r).rol = s.rol := rfl
@[simp] theorem State.setEp_nvs (s : State) (e : Nat) (r : EpS) : (State.setEp s e r).nvs = s.nvs := rfl
@[simp] theorem State.setEp_boot (s : State) (e : Nat) (r : EpS) : (State.setEp s e r).boot = s.boot := rfl

@[simp] theorem State.modRound_pending (s : State) (f : RoundS → RoundS) : (State.modRound s f).pending = s.pending := rfl
@[simp] theorem State.modRound_regs (s : State) (f : RoundS → RoundS) : (State.modRound s f).regs = s.regs := rfl
@[simp] theorem State.modRound_free (s : State) (f : RoundS → RoundS) : (State.modRound s f).free = s.free := rfl
@[simp] theorem State.modRound_rdata (s : State) (f : RoundS → RoundS) : (State.modRound s f).rdata = s.rdata := rfl
@[simp] theorem State.modRound_caps (s : State) (f : RoundS → RoundS) : (State.modRound s f).caps = s.caps := rfl
@[simp] theorem State.modRound_out (s : State) (f : RoundS → RoundS) : (State.modRound s f).out = s.out := rfl
@[simp] theorem State.modRound_time (s : State) (f : RoundS → RoundS) : (State.modRound s f).time = s.time := rfl
@[simp] theorem State.modRound_srv (s : State) (f : RoundS → RoundS) : (State.modRound s f).srv = s.srv := rfl
@[simp] theorem State.modRound_tus (s : State) (f : RoundS → RoundS) : (State.modRound s f).tus = s.tus := rfl
@[simp] theorem State.modRound_icu (s : State) (f : RoundS → RoundS) : (State.modRound s f).icu = s.icu := rfl
@[simp] theorem State.modRound_evm (s : State) (f : RoundS → RoundS) : (State.modRound s f).evm = s.evm := rfl
@[simp] theorem State.modRound_sys (s : State) (f : RoundS → RoundS) : (State.modRound s f).sys = s.sys := rfl
@[simp] theorem State.modRound_psc (s : State) (f : RoundS → RoundS) : (State.modRound s f).psc = s.psc := rfl
@[simp] theorem State.modRound_crs (s : State) (f : RoundS → RoundS) : (State.modRound s f).crs = s.crs := rfl
@[simp] theorem State.modRound_grd (s : State) (f : RoundS → RoundS) : (State.modRound s f).grd = s.grd := rfl
@[simp] theorem State.modRound_ser (s : State) (f : RoundS → RoundS) : (State.modRound s f).ser = s.ser := rfl
@[simp] theorem State.modRound_cans (s : State) (f : RoundS → RoundS) : (State.modRound s f).cans = s.cans := rfl
@[simp] theorem State.modRound_mem (s : State) (f : RoundS → RoundS) : (State.modRound s f).mem = s.mem := rfl
@[simp] theorem State.modRound_ept (s : State) (f : RoundS → RoundS) : (State.modRound s f).ept = s.ept := rfl
@[simp] theorem State.modRound_msh (s : State) (f : RoundS → RoundS) : (State.modRound s f).msh = s.msh := rfl
@[simp] theorem State.modRound_rcg (s : State) (f : RoundS → RoundS) : (State.modRound s f).rcg = s.rcg := rfl
@[simp] theorem State.modRound_ten (s : State) (f : RoundS → RoundS) : (State.modRound s f).ten = s.ten := rfl
@[simp] theorem State.modRound_rng (s : State) (f : RoundS → RoundS) : (State.modRound s f).rng = s.rng := rfl
@[simp] theorem State.modRound_bnd (s : State) (f : RoundS → RoundS) : (State.modRound s f).bnd = s.bnd := rfl
@[simp] theorem State.modRound_nvs (s : State) (f : RoundS → RoundS) : (State.modRound s f).nvs = s.nvs := rfl
@[simp] theorem State.modRound_boot (s : State) (f : RoundS → RoundS) : (State.modRound s f).boot = s.boot := rfl

@[simp] theorem State.setCan_pending (s : State) (x : Nat) (p : CanPS) : (State.setCan s x p).pending = s.pending := rfl
@[simp] theorem State.setCan_regs (s : State) (x : Nat) (p : CanPS) : (State.setCan s x p).regs = s.regs := rfl
@[simp] theorem State.setCan_free (s : State) (x : Nat) (p : CanPS) : (State.setCan s x p).free = s.free := rfl
@[simp] theorem State.setCan_rdata (s : State) (x : Nat) (p : CanPS) : (State.setCan s x p).rdata = s.rdata := rfl
@[simp] theorem State.setCan_caps (s : State) (x : Nat) (p : CanPS) : (State.setCan s x p).caps = s.caps := rfl
@[simp] theorem State.setCan_out (s : State) (x : Nat) (p : CanPS) : (State.setCan s x p).out = s.out := rfl
@[simp] theorem State.setCan_time (s : State) (x : Nat) (p : CanPS) : (State.setCan s x p).time = s.time := rfl
@[simp] theorem State.setCan_srv (s : State) (x : Nat) (p : CanPS) : (State.setCan s x p).srv = s.srv := rfl
@[simp] theorem State.setCan_tus (s : State) (x : Nat) (p : CanPS) : (State.setCan s x p).tus = s.tus := rfl
@[simp] theorem State.setCan_icu (s : State) (x : Nat) (p : CanPS) : (State.setCan s x p).icu = s.icu := rfl
@[simp] theorem State.setCan_evm (s : State) (x : Nat) (p : CanPS) : (State.setCan s x p).evm = s.evm := rfl
@[simp] theorem State.setCan_sys (s : State) (x : Nat) (p : CanPS) : (State.setCan s x p).sys = s.sys := rfl
@[simp] theorem State.setCan_psc (s : State) (x : Nat) (p : CanPS) : (State.setCan s x p).psc = s.psc := rfl
@[simp] theorem State.setCan_crs (s : State) (x : Nat) (p : CanPS) : (State.setCan s x p).crs = s.crs := rfl
@[simp] theorem State.setCan_grd (s : State) (x : Nat) (p : CanPS) : (State.setCan s x p).grd = s.grd := rfl
@[simp] theorem State.setCan_ser (s : State) (x : Nat) (p : CanPS) : (State.setCan s x p).ser = s.ser := rfl
@[simp] theorem State.setCan_mem (s : State) (x : Nat) (p : CanPS) : (State.setCan s x p).mem = s.mem := rfl
@[simp] theorem State.setCan_ept (s : State) (x : Nat) (p : CanPS) : (State.setCan s x p).ept = s.ept := rfl
@[simp] theorem State.setCan_msh (s : State) (x : Nat) (p : CanPS) : (State.setCan s x p).msh = s.msh := rfl
@[simp] theorem State.setCan_rcg (s : State) (x : Nat) (p : CanPS) : (State.setCan s x p).rcg = s.rcg := rfl
@[simp] theorem State.setCan_ten (s : State) (x : Nat) (p : CanPS) : (State.setCan s x p).ten = s.ten := rfl
@[simp] theorem State.setCan_rng (s : State) (x : Nat) (p : CanPS) : (State.setCan s x p).rng = s.rng := rfl
@[simp] theorem State.setCan_bnd (s : State) (x : Nat) (p : CanPS) : (State.setCan s x p).bnd = s.bnd := rfl
@[simp] theorem State.setCan_rol (s : State) (x : Nat) (p : CanPS) : (State.setCan s x p).rol = s.rol := rfl
@[simp] theorem State.setCan_nvs (s : State) (x : Nat) (p : CanPS) : (State.setCan s x p).nvs = s.nvs := rfl
@[simp] theorem State.setCan_boot (s : State) (x : Nat) (p : CanPS) : (State.setCan s x p).boot = s.boot := rfl

@[simp] theorem State.setEdges_pending (s : State) (m : Nat) (l : List Nat) : (State.setEdges s m l).pending = s.pending := rfl
@[simp] theorem State.setEdges_regs (s : State) (m : Nat) (l : List Nat) : (State.setEdges s m l).regs = s.regs := rfl
@[simp] theorem State.setEdges_free (s : State) (m : Nat) (l : List Nat) : (State.setEdges s m l).free = s.free := rfl
@[simp] theorem State.setEdges_rdata (s : State) (m : Nat) (l : List Nat) : (State.setEdges s m l).rdata = s.rdata := rfl
@[simp] theorem State.setEdges_caps (s : State) (m : Nat) (l : List Nat) : (State.setEdges s m l).caps = s.caps := rfl
@[simp] theorem State.setEdges_out (s : State) (m : Nat) (l : List Nat) : (State.setEdges s m l).out = s.out := rfl
@[simp] theorem State.setEdges_time (s : State) (m : Nat) (l : List Nat) : (State.setEdges s m l).time = s.time := rfl
@[simp] theorem State.setEdges_srv (s : State) (m : Nat) (l : List Nat) : (State.setEdges s m l).srv = s.srv := rfl
@[simp] theorem State.setEdges_tus (s : State) (m : Nat) (l : List Nat) : (State.setEdges s m l).tus = s.tus := rfl
@[simp] theorem State.setEdges_icu (s : State) (m : Nat) (l : List Nat) : (State.setEdges s m l).icu = s.icu := rfl
@[simp] theorem State.setEdges_evm (s : State) (m : Nat) (l : List Nat) : (State.setEdges s m l).evm = s.evm := rfl
@[simp] theorem State.setEdges_sys (s : State) (m : Nat) (l : List Nat) : (State.setEdges s m l).sys = s.sys := rfl
@[simp] theorem State.setEdges_psc (s : State) (m : Nat) (l : List Nat) : (State.setEdges s m l).psc = s.psc := rfl
@[simp] theorem State.setEdges_crs (s : State) (m : Nat) (l : List Nat) : (State.setEdges s m l).crs = s.crs := rfl
@[simp] theorem State.setEdges_ser (s : State) (m : Nat) (l : List Nat) : (State.setEdges s m l).ser = s.ser := rfl
@[simp] theorem State.setEdges_cans (s : State) (m : Nat) (l : List Nat) : (State.setEdges s m l).cans = s.cans := rfl
@[simp] theorem State.setEdges_mem (s : State) (m : Nat) (l : List Nat) : (State.setEdges s m l).mem = s.mem := rfl
@[simp] theorem State.setEdges_ept (s : State) (m : Nat) (l : List Nat) : (State.setEdges s m l).ept = s.ept := rfl
@[simp] theorem State.setEdges_msh (s : State) (m : Nat) (l : List Nat) : (State.setEdges s m l).msh = s.msh := rfl
@[simp] theorem State.setEdges_rcg (s : State) (m : Nat) (l : List Nat) : (State.setEdges s m l).rcg = s.rcg := rfl
@[simp] theorem State.setEdges_ten (s : State) (m : Nat) (l : List Nat) : (State.setEdges s m l).ten = s.ten := rfl
@[simp] theorem State.setEdges_rng (s : State) (m : Nat) (l : List Nat) : (State.setEdges s m l).rng = s.rng := rfl
@[simp] theorem State.setEdges_bnd (s : State) (m : Nat) (l : List Nat) : (State.setEdges s m l).bnd = s.bnd := rfl
@[simp] theorem State.setEdges_rol (s : State) (m : Nat) (l : List Nat) : (State.setEdges s m l).rol = s.rol := rfl
@[simp] theorem State.setEdges_nvs (s : State) (m : Nat) (l : List Nat) : (State.setEdges s m l).nvs = s.nvs := rfl
@[simp] theorem State.setEdges_boot (s : State) (m : Nat) (l : List Nat) : (State.setEdges s m l).boot = s.boot := rfl

@[simp] theorem State.setPort_pending (s : State) (p : Nat) (qq : PortS) : (State.setPort s p qq).pending = s.pending := by unfold State.setPort; exact State.f_pending _ _ _
@[simp] theorem State.setPort_free (s : State) (p : Nat) (qq : PortS) : (State.setPort s p qq).free = s.free := by unfold State.setPort; exact State.f_free _ _ _
@[simp] theorem State.setPort_rdata (s : State) (p : Nat) (qq : PortS) : (State.setPort s p qq).rdata = s.rdata := by unfold State.setPort; exact State.f_rdata _ _ _
@[simp] theorem State.setPort_caps (s : State) (p : Nat) (qq : PortS) : (State.setPort s p qq).caps = s.caps := by unfold State.setPort; exact State.f_caps _ _ _
@[simp] theorem State.setPort_out (s : State) (p : Nat) (qq : PortS) : (State.setPort s p qq).out = s.out := by unfold State.setPort; exact State.f_out _ _ _
@[simp] theorem State.setPort_time (s : State) (p : Nat) (qq : PortS) : (State.setPort s p qq).time = s.time := by unfold State.setPort; exact State.f_time _ _ _
@[simp] theorem State.setPort_srv (s : State) (p : Nat) (qq : PortS) : (State.setPort s p qq).srv = s.srv := by unfold State.setPort; exact State.f_srv _ _ _
@[simp] theorem State.setPort_tus (s : State) (p : Nat) (qq : PortS) : (State.setPort s p qq).tus = s.tus := by unfold State.setPort; exact State.f_tus _ _ _
@[simp] theorem State.setPort_icu (s : State) (p : Nat) (qq : PortS) : (State.setPort s p qq).icu = s.icu := by unfold State.setPort; exact State.f_icu _ _ _
@[simp] theorem State.setPort_evm (s : State) (p : Nat) (qq : PortS) : (State.setPort s p qq).evm = s.evm := by unfold State.setPort; exact State.f_evm _ _ _
@[simp] theorem State.setPort_sys (s : State) (p : Nat) (qq : PortS) : (State.setPort s p qq).sys = s.sys := by unfold State.setPort; exact State.f_sys _ _ _
@[simp] theorem State.setPort_psc (s : State) (p : Nat) (qq : PortS) : (State.setPort s p qq).psc = s.psc := by unfold State.setPort; exact State.f_psc _ _ _
@[simp] theorem State.setPort_crs (s : State) (p : Nat) (qq : PortS) : (State.setPort s p qq).crs = s.crs := by unfold State.setPort; exact State.f_crs _ _ _
@[simp] theorem State.setPort_grd (s : State) (p : Nat) (qq : PortS) : (State.setPort s p qq).grd = s.grd := by unfold State.setPort; exact State.f_grd _ _ _
@[simp] theorem State.setPort_ser (s : State) (p : Nat) (qq : PortS) : (State.setPort s p qq).ser = s.ser := by unfold State.setPort; exact State.f_ser _ _ _
@[simp] theorem State.setPort_cans (s : State) (p : Nat) (qq : PortS) : (State.setPort s p qq).cans = s.cans := by unfold State.setPort; exact State.f_cans _ _ _
@[simp] theorem State.setPort_mem (s : State) (p : Nat) (qq : PortS) : (State.setPort s p qq).mem = s.mem := by unfold State.setPort; exact State.f_mem _ _ _
@[simp] theorem State.setPort_ept (s : State) (p : Nat) (qq : PortS) : (State.setPort s p qq).ept = s.ept := by unfold State.setPort; exact State.f_ept _ _ _
@[simp] theorem State.setPort_msh (s : State) (p : Nat) (qq : PortS) : (State.setPort s p qq).msh = s.msh := by unfold State.setPort; exact State.f_msh _ _ _
@[simp] theorem State.setPort_rcg (s : State) (p : Nat) (qq : PortS) : (State.setPort s p qq).rcg = s.rcg := by unfold State.setPort; exact State.f_rcg _ _ _
@[simp] theorem State.setPort_ten (s : State) (p : Nat) (qq : PortS) : (State.setPort s p qq).ten = s.ten := by unfold State.setPort; exact State.f_ten _ _ _
@[simp] theorem State.setPort_rng (s : State) (p : Nat) (qq : PortS) : (State.setPort s p qq).rng = s.rng := by unfold State.setPort; exact State.f_rng _ _ _
@[simp] theorem State.setPort_rol (s : State) (p : Nat) (qq : PortS) : (State.setPort s p qq).rol = s.rol := by unfold State.setPort; exact State.f_rol _ _ _
@[simp] theorem State.setPort_nvs (s : State) (p : Nat) (qq : PortS) : (State.setPort s p qq).nvs = s.nvs := by unfold State.setPort; exact State.f_nvs _ _ _
@[simp] theorem State.setPort_boot (s : State) (p : Nat) (qq : PortS) : (State.setPort s p qq).boot = s.boot := by unfold State.setPort; exact State.f_boot _ _ _

@[simp] theorem State.setSp_pending (s : State) (x : Nat) (p : SerPS) : (State.setSp s x p).pending = s.pending := rfl
@[simp] theorem State.setSp_free (s : State) (x : Nat) (p : SerPS) : (State.setSp s x p).free = s.free := rfl
@[simp] theorem State.setSp_rdata (s : State) (x : Nat) (p : SerPS) : (State.setSp s x p).rdata = s.rdata := rfl
@[simp] theorem State.setSp_caps (s : State) (x : Nat) (p : SerPS) : (State.setSp s x p).caps = s.caps := rfl
@[simp] theorem State.setSp_out (s : State) (x : Nat) (p : SerPS) : (State.setSp s x p).out = s.out := rfl
@[simp] theorem State.setSp_time (s : State) (x : Nat) (p : SerPS) : (State.setSp s x p).time = s.time := rfl
@[simp] theorem State.setSp_srv (s : State) (x : Nat) (p : SerPS) : (State.setSp s x p).srv = s.srv := rfl
@[simp] theorem State.setSp_tus (s : State) (x : Nat) (p : SerPS) : (State.setSp s x p).tus = s.tus := rfl
@[simp] theorem State.setSp_icu (s : State) (x : Nat) (p : SerPS) : (State.setSp s x p).icu = s.icu := rfl
@[simp] theorem State.setSp_evm (s : State) (x : Nat) (p : SerPS) : (State.setSp s x p).evm = s.evm := rfl
@[simp] theorem State.setSp_sys (s : State) (x : Nat) (p : SerPS) : (State.setSp s x p).sys = s.sys := rfl
@[simp] theorem State.setSp_psc (s : State) (x : Nat) (p : SerPS) : (State.setSp s x p).psc = s.psc := rfl
@[simp] theorem State.setSp_crs (s : State) (x : Nat) (p : SerPS) : (State.setSp s x p).crs = s.crs := rfl
@[simp] theorem State.setSp_grd (s : State) (x : Nat) (p : SerPS) : (State.setSp s x p).grd = s.grd := rfl
@[simp] theorem State.setSp_cans (s : State) (x : Nat) (p : SerPS) : (State.setSp s x p).cans = s.cans := rfl
@[simp] theorem State.setSp_mem (s : State) (x : Nat) (p : SerPS) : (State.setSp s x p).mem = s.mem := rfl
@[simp] theorem State.setSp_ept (s : State) (x : Nat) (p : SerPS) : (State.setSp s x p).ept = s.ept := rfl
@[simp] theorem State.setSp_msh (s : State) (x : Nat) (p : SerPS) : (State.setSp s x p).msh = s.msh := rfl
@[simp] theorem State.setSp_rcg (s : State) (x : Nat) (p : SerPS) : (State.setSp s x p).rcg = s.rcg := rfl
@[simp] theorem State.setSp_ten (s : State) (x : Nat) (p : SerPS) : (State.setSp s x p).ten = s.ten := rfl
@[simp] theorem State.setSp_rng (s : State) (x : Nat) (p : SerPS) : (State.setSp s x p).rng = s.rng := rfl
@[simp] theorem State.setSp_bnd (s : State) (x : Nat) (p : SerPS) : (State.setSp s x p).bnd = s.bnd := rfl
@[simp] theorem State.setSp_rol (s : State) (x : Nat) (p : SerPS) : (State.setSp s x p).rol = s.rol := rfl
@[simp] theorem State.setSp_nvs (s : State) (x : Nat) (p : SerPS) : (State.setSp s x p).nvs = s.nvs := rfl
@[simp] theorem State.setSp_boot (s : State) (x : Nat) (p : SerPS) : (State.setSp s x p).boot = s.boot := rfl

@[simp] theorem State.setMem_pending (s : State) (m : MemS) : (State.setMem s m).pending = s.pending := rfl
@[simp] theorem State.setMem_free (s : State) (m : MemS) : (State.setMem s m).free = s.free := rfl
@[simp] theorem State.setMem_rdata (s : State) (m : MemS) : (State.setMem s m).rdata = s.rdata := rfl
@[simp] theorem State.setMem_caps (s : State) (m : MemS) : (State.setMem s m).caps = s.caps := rfl
@[simp] theorem State.setMem_out (s : State) (m : MemS) : (State.setMem s m).out = s.out := rfl
@[simp] theorem State.setMem_time (s : State) (m : MemS) : (State.setMem s m).time = s.time := rfl
@[simp] theorem State.setMem_srv (s : State) (m : MemS) : (State.setMem s m).srv = s.srv := rfl
@[simp] theorem State.setMem_tus (s : State) (m : MemS) : (State.setMem s m).tus = s.tus := rfl
@[simp] theorem State.setMem_icu (s : State) (m : MemS) : (State.setMem s m).icu = s.icu := rfl
@[simp] theorem State.setMem_evm (s : State) (m : MemS) : (State.setMem s m).evm = s.evm := rfl
@[simp] theorem State.setMem_sys (s : State) (m : MemS) : (State.setMem s m).sys = s.sys := rfl
@[simp] theorem State.setMem_psc (s : State) (m : MemS) : (State.setMem s m).psc = s.psc := rfl
@[simp] theorem State.setMem_crs (s : State) (m : MemS) : (State.setMem s m).crs = s.crs := rfl
@[simp] theorem State.setMem_grd (s : State) (m : MemS) : (State.setMem s m).grd = s.grd := rfl
@[simp] theorem State.setMem_ser (s : State) (m : MemS) : (State.setMem s m).ser = s.ser := rfl
@[simp] theorem State.setMem_cans (s : State) (m : MemS) : (State.setMem s m).cans = s.cans := rfl
@[simp] theorem State.setMem_ept (s : State) (m : MemS) : (State.setMem s m).ept = s.ept := rfl
@[simp] theorem State.setMem_msh (s : State) (m : MemS) : (State.setMem s m).msh = s.msh := rfl
@[simp] theorem State.setMem_rcg (s : State) (m : MemS) : (State.setMem s m).rcg = s.rcg := rfl
@[simp] theorem State.setMem_ten (s : State) (m : MemS) : (State.setMem s m).ten = s.ten := rfl
@[simp] theorem State.setMem_rng (s : State) (m : MemS) : (State.setMem s m).rng = s.rng := rfl
@[simp] theorem State.setMem_bnd (s : State) (m : MemS) : (State.setMem s m).bnd = s.bnd := rfl
@[simp] theorem State.setMem_rol (s : State) (m : MemS) : (State.setMem s m).rol = s.rol := rfl
@[simp] theorem State.setMem_nvs (s : State) (m : MemS) : (State.setMem s m).nvs = s.nvs := rfl
@[simp] theorem State.setMem_boot (s : State) (m : MemS) : (State.setMem s m).boot = s.boot := rfl

/-! An entry reads back as it was set, and setting one leaves the others. -/

@[simp] theorem State.bus_setBus_self (s : State) (b : Nat) (y : BusS) : (s.setBus b y).bus b = y := Tbl.get_set_self _ _ _ _
theorem State.bus_setBus_ne (s : State) {b w : Nat} (y : BusS) (h : w ≠ b) : (s.setBus b y).bus w = s.bus w := Tbl.get_set_ne _ _ h _
@[simp] theorem State.tr_setTr_self (s : State) (t : Nat) (y : TRingS) : (s.setTr t y).tr t = y := Tbl.get_set_self _ _ _ _
theorem State.tr_setTr_ne (s : State) {t w : Nat} (y : TRingS) (h : w ≠ t) : (s.setTr t y).tr w = s.tr w := Tbl.get_set_ne _ _ h _
@[simp] theorem State.src_setSrc_self (s : State) (n : Nat) (y : SrcS) : (s.setSrc n y).src n = y := Tbl.get_set_self _ _ _ _
theorem State.src_setSrc_ne (s : State) {n w : Nat} (y : SrcS) (h : w ≠ n) : (s.setSrc n y).src w = s.src w := Tbl.get_set_ne _ _ h _
@[simp] theorem State.tgt_setTgt_self (s : State) (k : Nat) (y : TgtS) : (s.setTgt k y).tgt k = y := Tbl.get_set_self _ _ _ _
theorem State.tgt_setTgt_ne (s : State) {k w : Nat} (y : TgtS) (h : w ≠ k) : (s.setTgt k y).tgt w = s.tgt w := Tbl.get_set_ne _ _ h _
@[simp] theorem State.msix_setMsix_self (s : State) (k : Nat) (y : MsixS) : (s.setMsix k y).msix k = y := Tbl.get_set_self _ _ _ _
theorem State.msix_setMsix_ne (s : State) {k w : Nat} (y : MsixS) (h : w ≠ k) : (s.setMsix k y).msix w = s.msix w := Tbl.get_set_ne _ _ h _
@[simp] theorem State.eng_setEng_self (s : State) (x : Nat) (y : EngS) : (s.setEng x y).eng x = y := Tbl.get_set_self _ _ _ _
theorem State.eng_setEng_ne (s : State) {x w : Nat} (y : EngS) (h : w ≠ x) : (s.setEng x y).eng w = s.eng w := Tbl.get_set_ne _ _ h _
@[simp] theorem State.ch_setCh_self (s : State) (c : Nat) (y : ChS) : (s.setCh c y).ch c = y := Tbl.get_set_self _ _ _ _
theorem State.ch_setCh_ne (s : State) {c w : Nat} (y : ChS) (h : w ≠ c) : (s.setCh c y).ch w = s.ch w := Tbl.get_set_ne _ _ h _
@[simp] theorem State.gu_setGu_self (s : State) (c : Nat) (y : GuS) : (s.setGu c y).gu c = y := Tbl.get_set_self _ _ _ _
theorem State.gu_setGu_ne (s : State) {c w : Nat} (y : GuS) (h : w ≠ c) : (s.setGu c y).gu w = s.gu w := Tbl.get_set_ne _ _ h _
@[simp] theorem State.comps_setComps_self (s : State) (x : Nat) (y : List (Nat × Option Nat)) : (s.setComps x y).comps x = y := Tbl.get_set_self _ _ _ _
theorem State.comps_setComps_ne (s : State) {x w : Nat} (y : List (Nat × Option Nat)) (h : w ≠ x) : (s.setComps x y).comps w = s.comps w := Tbl.get_set_ne _ _ h _
@[simp] theorem State.tu_setTu_self (s : State) (x : Nat) (y : TuS) : (s.setTu x y).tu x = y := Tbl.get_set_self _ _ _ _
theorem State.tu_setTu_ne (s : State) {x w : Nat} (y : TuS) (h : w ≠ x) : (s.setTu x y).tu w = s.tu w := Tbl.get_set_ne _ _ h _
@[simp] theorem State.ep_setEp_self (s : State) (e : Nat) (y : EpS) : (s.setEp e y).ep e = y := Tbl.get_set_self _ _ _ _
theorem State.ep_setEp_ne (s : State) {e w : Nat} (y : EpS) (h : w ≠ e) : (s.setEp e y).ep w = s.ep w := Tbl.get_set_ne _ _ h _
@[simp] theorem State.can_setCan_self (s : State) (x : Nat) (y : CanPS) : (s.setCan x y).can x = y := Tbl.get_set_self _ _ _ _
theorem State.can_setCan_ne (s : State) {x w : Nat} (y : CanPS) (h : w ≠ x) : (s.setCan x y).can w = s.can w := Tbl.get_set_ne _ _ h _
@[simp] theorem State.port_setPort_self (s : State) (p : Nat) (y : PortS) : (s.setPort p y).port p = y := Tbl.get_set_self _ _ _ _
theorem State.port_setPort_ne (s : State) {p w : Nat} (y : PortS) (h : w ≠ p) : (s.setPort p y).port w = s.port w := Tbl.get_set_ne _ _ h _
@[simp] theorem State.sp_setSp_self (s : State) (x : Nat) (y : SerPS) : (s.setSp x y).sp x = y := Tbl.get_set_self _ _ _ _
theorem State.sp_setSp_ne (s : State) {x w : Nat} (y : SerPS) (h : w ≠ x) : (s.setSp x y).sp w = s.sp w := Tbl.get_set_ne _ _ h _
@[simp] theorem State.node_setNode_self (s : State) (b a : Nat) (y : NodeS) : (s.setNode b a y).node b a = y := Tbl.get_set_self _ _ _ _

end Sys2Proof.Machine
end

