-- ==== Sys2Proof/Laws/Quiet.lean ====
section
/-! SUPPORT. Events and hub sources write no register but those of the interrupt controller and EVM_MERGED. -/
set_option Elab.async false
set_option linter.unusedTactic false
set_option linter.unreachableTactic false
namespace Sys2Proof.Machine

/-- s holds a's registers but for those of the interrupt controller and EVM_MERGED. -/
structure Quiet (a s : State) : Prop where
  rd : ∀ o, Loud o → s.rd o = a.rd o

variable {a s : State}

theorem Quiet.refl (a : State) : Quiet a a := ⟨fun _ _ => rfl⟩

theorem Quiet.g {t : State} (h : Quiet a t) {f : Fld} (hf : Loud f.off) : t.g f = a.g f := by unfold State.g; rw [h.rd _ hf]

theorem Quiet.of_regs {t : State} (h : Quiet a s) (e : t.regs = s.regs) : Quiet a t := ⟨fun o ho => by
  have : t.rd o = s.rd o := by unfold State.rd; rw [e]
  rw [this, h.rd o ho]⟩

theorem State.f_quiet {f : Fld} (v : Nat) (hf : ¬ Loud f.off) (h : Quiet a s) : Quiet a (s.f f v) :=
  ⟨fun o ho => by rw [State.rd_f_ne s v (fun e => hf (e ▸ ho)), h.rd o ho]⟩

theorem latchFld_quiet (h : Nat) : ¬ Loud (latchFld h).off := by
  unfold latchFld Loud
  split <;> simp

theorem quiet_foldl {α : Type} {f : State → α → State} {l : List α} (h : Quiet a s) (hf : ∀ s x, Quiet a s → Quiet a (f s x)) :
    Quiet a (l.foldl f s) := by
  induction l generalizing s with
  | nil => exact h
  | cons x t ih => exact ih (hf _ _ h)

theorem quiet_icu {x : IcuS} (h : Quiet a s) : Quiet a
    { pending := s.pending, regs := s.regs, free := s.free, rdata := s.rdata, caps := s.caps, out := s.out, time := s.time, srv := s.srv, tus := s.tus, icu := x, evm := s.evm, sys := s.sys, psc := s.psc, crs := s.crs, grd := s.grd, ser := s.ser, cans := s.cans, mem := s.mem, ept := s.ept, msh := s.msh, rcg := s.rcg, ten := s.ten, rng := s.rng, bnd := s.bnd, rol := s.rol, nvs := s.nvs, boot := s.boot } := h.of_regs rfl

theorem quiet_out {x : List Out} (h : Quiet a s) : Quiet a
    { pending := s.pending, regs := s.regs, free := s.free, rdata := s.rdata, caps := s.caps, out := x, time := s.time, srv := s.srv, tus := s.tus, icu := s.icu, evm := s.evm, sys := s.sys, psc := s.psc, crs := s.crs, grd := s.grd, ser := s.ser, cans := s.cans, mem := s.mem, ept := s.ept, msh := s.msh, rcg := s.rcg, ten := s.ten, rng := s.rng, bnd := s.bnd, rol := s.rol, nvs := s.nvs, boot := s.boot } := h.of_regs rfl

theorem quiet_evm {x : EvmS} (h : Quiet a s) : Quiet a
    { pending := s.pending, regs := s.regs, free := s.free, rdata := s.rdata, caps := s.caps, out := s.out, time := s.time, srv := s.srv, tus := s.tus, icu := s.icu, evm := x, sys := s.sys, psc := s.psc, crs := s.crs, grd := s.grd, ser := s.ser, cans := s.cans, mem := s.mem, ept := s.ept, msh := s.msh, rcg := s.rcg, ten := s.ten, rng := s.rng, bnd := s.bnd, rol := s.rol, nvs := s.nvs, boot := s.boot } := h.of_regs rfl

theorem State.setSrc_quiet (n : Nat) (r : SrcS) (h : Quiet a s) : Quiet a (s.setSrc n r) := h.of_regs rfl

theorem State.setTgt_quiet (k : Nat) (r : TgtS) (h : Quiet a s) : Quiet a (s.setTgt k r) := h.of_regs rfl

theorem State.setMsix_quiet (k : Nat) (r : MsixS) (h : Quiet a s) : Quiet a (s.setMsix k r) := h.of_regs rfl

theorem State.inc_quiet {f : Fld} (hf : ¬ Loud f.off) (h : Quiet a s) : Quiet a (s.inc f) := State.f_quiet _ hf h

theorem State.settleSrc_quiet (s : State) (n : Nat) (h0 : Quiet a s) : Quiet a (s.settleSrc n) := by
  unfold State.settleSrc
  try dsimp only
  repeat' first
    | with_reducible assumption
    | intro _
    | with_reducible apply quiet_foldl
    | with_reducible apply State.setSrc_quiet
    | with_reducible apply State.setTgt_quiet
    | with_reducible apply State.setMsix_quiet
    | (with_reducible apply State.f_quiet _ (by first | exact latchFld_quiet _ | (unfold Loud; simp; done) | (split <;> (unfold Loud; simp))))
    | (with_reducible apply State.inc_quiet (by first | exact latchFld_quiet _ | (unfold Loud; simp; done) | (split <;> (unfold Loud; simp))))
    | split
    | with_reducible apply quiet_icu
    | with_reducible apply quiet_out
    | with_reducible apply quiet_evm

theorem State.sendMsix_quiet (s : State) (k : Nat) (h0 : Quiet a s) : Quiet a (s.sendMsix k) := by
  unfold State.sendMsix
  try dsimp only
  repeat' first
    | with_reducible assumption
    | intro _
    | with_reducible apply quiet_foldl
    | with_reducible apply State.setSrc_quiet
    | with_reducible apply State.setTgt_quiet
    | with_reducible apply State.setMsix_quiet
    | (with_reducible apply State.f_quiet _ (by first | exact latchFld_quiet _ | (unfold Loud; simp; done) | (split <;> (unfold Loud; simp))))
    | (with_reducible apply State.inc_quiet (by first | exact latchFld_quiet _ | (unfold Loud; simp; done) | (split <;> (unfold Loud; simp))))
    | split
    | with_reducible apply quiet_icu
    | with_reducible apply quiet_out
    | with_reducible apply quiet_evm

theorem State.announce_quiet (b : Bool) (s : State) (k : Nat) (h0 : Quiet a s) : Quiet a (State.announce b s k) := by
  unfold State.announce
  try dsimp only
  repeat' first
    | with_reducible assumption
    | intro _
    | with_reducible apply State.sendMsix_quiet
    | with_reducible apply quiet_foldl
    | with_reducible apply State.setSrc_quiet
    | with_reducible apply State.setTgt_quiet
    | with_reducible apply State.setMsix_quiet
    | (with_reducible apply State.f_quiet _ (by first | exact latchFld_quiet _ | (unfold Loud; simp; done) | (split <;> (unfold Loud; simp))))
    | (with_reducible apply State.inc_quiet (by first | exact latchFld_quiet _ | (unfold Loud; simp; done) | (split <;> (unfold Loud; simp))))
    | split
    | with_reducible apply quiet_icu
    | with_reducible apply quiet_out
    | with_reducible apply quiet_evm

theorem State.icuSts_quiet (s : State) (h0 : Quiet a s) : Quiet a (s.icuSts) := by
  unfold State.icuSts
  try dsimp only
  repeat' first
    | with_reducible assumption
    | intro _
    | with_reducible apply quiet_foldl
    | with_reducible apply State.setSrc_quiet
    | with_reducible apply State.setTgt_quiet
    | with_reducible apply State.setMsix_quiet
    | (with_reducible apply State.f_quiet _ (by first | exact latchFld_quiet _ | (unfold Loud; simp; done) | (split <;> (unfold Loud; simp))))
    | (with_reducible apply State.inc_quiet (by first | exact latchFld_quiet _ | (unfold Loud; simp; done) | (split <;> (unfold Loud; simp))))
    | split
    | with_reducible apply quiet_icu
    | with_reducible apply quiet_out
    | with_reducible apply quiet_evm

theorem State.settle_quiet (s : State) (h0 : Quiet a s) : Quiet a (s.settle) := by
  unfold State.settle
  try dsimp only
  repeat' first
    | with_reducible assumption
    | intro _
    | with_reducible apply State.settleSrc_quiet
    | with_reducible apply State.announce_quiet
    | with_reducible apply State.icuSts_quiet
    | with_reducible apply quiet_foldl
    | with_reducible apply State.setSrc_quiet
    | with_reducible apply State.setTgt_quiet
    | with_reducible apply State.setMsix_quiet
    | (with_reducible apply State.f_quiet _ (by first | exact latchFld_quiet _ | (unfold Loud; simp; done) | (split <;> (unfold Loud; simp))))
    | (with_reducible apply State.inc_quiet (by first | exact latchFld_quiet _ | (unfold Loud; simp; done) | (split <;> (unfold Loud; simp))))
    | split
    | with_reducible apply quiet_icu
    | with_reducible apply quiet_out
    | with_reducible apply quiet_evm

theorem State.arrive_quiet (s : State) (n : Nat) (h0 : Quiet a s) : Quiet a (s.arrive n) := by
  unfold State.arrive
  try dsimp only
  repeat' first
    | with_reducible assumption
    | intro _
    | with_reducible apply quiet_foldl
    | with_reducible apply State.setSrc_quiet
    | with_reducible apply State.setTgt_quiet
    | with_reducible apply State.setMsix_quiet
    | (with_reducible apply State.f_quiet _ (by first | exact latchFld_quiet _ | (unfold Loud; simp; done) | (split <;> (unfold Loud; simp))))
    | (with_reducible apply State.inc_quiet (by first | exact latchFld_quiet _ | (unfold Loud; simp; done) | (split <;> (unfold Loud; simp))))
    | split
    | with_reducible apply quiet_icu
    | with_reducible apply quiet_out
    | with_reducible apply quiet_evm

theorem State.raiseHub_quiet (s : State) (h : Nat) (h0 : Quiet a s) : Quiet a (s.raiseHub h) := by
  unfold State.raiseHub
  try dsimp only
  repeat' first
    | with_reducible assumption
    | intro _
    | with_reducible apply State.arrive_quiet
    | with_reducible apply State.settle_quiet
    | with_reducible apply quiet_foldl
    | with_reducible apply State.setSrc_quiet
    | with_reducible apply State.setTgt_quiet
    | with_reducible apply State.setMsix_quiet
    | (with_reducible apply State.f_quiet _ (by first | exact latchFld_quiet _ | (unfold Loud; simp; done) | (split <;> (unfold Loud; simp))))
    | (with_reducible apply State.inc_quiet (by first | exact latchFld_quiet _ | (unfold Loud; simp; done) | (split <;> (unfold Loud; simp))))
    | split
    | with_reducible apply quiet_icu
    | with_reducible apply quiet_out
    | with_reducible apply quiet_evm

theorem State.wakeIcu_quiet (s : State) (h0 : Quiet a s) : Quiet a (s.wakeIcu) := by
  unfold State.wakeIcu
  try dsimp only
  repeat' first
    | with_reducible assumption
    | intro _
    | with_reducible apply State.raiseHub_quiet
    | with_reducible apply State.settle_quiet
    | with_reducible apply quiet_foldl
    | with_reducible apply State.setSrc_quiet
    | with_reducible apply State.setTgt_quiet
    | with_reducible apply State.setMsix_quiet
    | (with_reducible apply State.f_quiet _ (by first | exact latchFld_quiet _ | (unfold Loud; simp; done) | (split <;> (unfold Loud; simp))))
    | (with_reducible apply State.inc_quiet (by first | exact latchFld_quiet _ | (unfold Loud; simp; done) | (split <;> (unfold Loud; simp))))
    | split
    | with_reducible apply quiet_icu
    | with_reducible apply quiet_out
    | with_reducible apply quiet_evm

theorem State.tenantSource_quiet (s : State) (n : Nat) (l r : Bool) (h0 : Quiet a s) : Quiet a (s.tenantSource n l r) := by
  unfold State.tenantSource
  try dsimp only
  repeat' first
    | with_reducible assumption
    | intro _
    | with_reducible apply State.arrive_quiet
    | with_reducible apply State.settle_quiet
    | with_reducible apply quiet_foldl
    | with_reducible apply State.setSrc_quiet
    | with_reducible apply State.setTgt_quiet
    | with_reducible apply State.setMsix_quiet
    | (with_reducible apply State.f_quiet _ (by first | exact latchFld_quiet _ | (unfold Loud; simp; done) | (split <;> (unfold Loud; simp))))
    | (with_reducible apply State.inc_quiet (by first | exact latchFld_quiet _ | (unfold Loud; simp; done) | (split <;> (unfold Loud; simp))))
    | split
    | with_reducible apply quiet_icu
    | with_reducible apply quiet_out
    | with_reducible apply quiet_evm

theorem State.markMerged_quiet (s : State) (c : Nat) (h0 : Quiet a s) : Quiet a (s.markMerged c) := by
  unfold State.markMerged
  try dsimp only
  repeat' first
    | with_reducible assumption
    | intro _
    | with_reducible apply quiet_foldl
    | with_reducible apply State.setSrc_quiet
    | with_reducible apply State.setTgt_quiet
    | with_reducible apply State.setMsix_quiet
    | (with_reducible apply State.f_quiet _ (by first | exact latchFld_quiet _ | (unfold Loud; simp; done) | (split <;> (unfold Loud; simp))))
    | (with_reducible apply State.inc_quiet (by first | exact latchFld_quiet _ | (unfold Loud; simp; done) | (split <;> (unfold Loud; simp))))
    | split
    | with_reducible apply quiet_icu
    | with_reducible apply quiet_out
    | with_reducible apply quiet_evm

theorem State.event_quiet (s : State) (p ct : Nat) (h0 : Quiet a s) : Quiet a (s.event p ct) := by
  unfold State.event
  try dsimp only
  repeat' first
    | with_reducible assumption
    | intro _
    | with_reducible apply State.markMerged_quiet
    | with_reducible apply quiet_foldl
    | with_reducible apply State.setSrc_quiet
    | with_reducible apply State.setTgt_quiet
    | with_reducible apply State.setMsix_quiet
    | (with_reducible apply State.f_quiet _ (by first | exact latchFld_quiet _ | (unfold Loud; simp; done) | (split <;> (unfold Loud; simp))))
    | (with_reducible apply State.inc_quiet (by first | exact latchFld_quiet _ | (unfold Loud; simp; done) | (split <;> (unfold Loud; simp))))
    | split
    | with_reducible apply quiet_icu
    | with_reducible apply quiet_out
    | with_reducible apply quiet_evm

/-- Raising a hub source leaves every register outside the controller. -/
theorem State.raiseHub_rd (s : State) (h : Nat) {o : Nat} (ho : Loud o) : (s.raiseHub h).rd o = s.rd o := (State.raiseHub_quiet s h (Quiet.refl s)).rd o ho

theorem State.raiseHub_g (s : State) (h : Nat) {f : Fld} (hf : Loud f.off) : (s.raiseHub h).g f = s.g f := (State.raiseHub_quiet s h (Quiet.refl s)).g hf

theorem State.settle_g (s : State) {f : Fld} (hf : Loud f.off) : s.settle.g f = s.g f := (State.settle_quiet s (Quiet.refl s)).g hf

/-- An event leaves every register but EVM_MERGED. -/
theorem State.event_rd (s : State) (p ct : Nat) {o : Nat} (ho : Loud o) : (s.event p ct).rd o = s.rd o := (State.event_quiet s p ct (Quiet.refl s)).rd o ho

theorem State.event_g (s : State) (p ct : Nat) {f : Fld} (hf : Loud f.off) : (s.event p ct).g f = s.g f := (State.event_quiet s p ct (Quiet.refl s)).g hf

end Sys2Proof.Machine
end

