-- ==== Sys2Proof/Laws/Same.lean ====
section
/-! SUPPORT. What every operation and meaning keeps: the queue of waiting commands, the canonical form of the register map, and every part of
the state that the operation does not touch. `Same m a s`: s is a but for the parts whose bits are set in m, the order of the bits being the
order of the fields of State. One lemma per operation and meaning stands in the files Same<file>.lean beside this one, each over the lemmas of
what it calls. -/
set_option Elab.async false
namespace Sys2Proof.Machine

/-- Every bit of x is a bit of m. -/
def Sub (x m : Nat) : Prop := Nat.lor x m = m

theorem Sub.trans {x y m : Nat} (h : Nat.lor x y = y) (hm : Sub y m) : Sub x m := by
  unfold Sub at *
  rw [← hm]
  show x ||| (y ||| m) = y ||| m
  rw [← Nat.or_assoc]
  show Nat.lor x y ||| m = _
  rw [h]

/-- t is s but for the parts of the state listed in the mask. -/
structure Same (m : Nat) (a s : State) : Prop where
  pending : s.pending = a.pending
  regsOk : a.RegsOk → s.RegsOk
  regs : s.regs = a.regs ∨ Sub 2 m
  free : s.free = a.free ∨ Sub 4 m
  rdata : s.rdata = a.rdata ∨ Sub 8 m
  caps : s.caps = a.caps ∨ Sub 16 m
  out : s.out = a.out ∨ Sub 32 m
  time : s.time = a.time ∨ Sub 64 m
  srv : s.srv = a.srv ∨ Sub 128 m
  tus : s.tus = a.tus ∨ Sub 256 m
  icu : s.icu = a.icu ∨ Sub 512 m
  evm : s.evm = a.evm ∨ Sub 1024 m
  sys : s.sys = a.sys ∨ Sub 2048 m
  psc : s.psc = a.psc ∨ Sub 4096 m
  crs : s.crs = a.crs ∨ Sub 8192 m
  grd : s.grd = a.grd ∨ Sub 16384 m
  ser : s.ser = a.ser ∨ Sub 32768 m
  cans : s.cans = a.cans ∨ Sub 65536 m
  mem : s.mem = a.mem ∨ Sub 131072 m
  ept : s.ept = a.ept ∨ Sub 262144 m
  msh : s.msh = a.msh ∨ Sub 524288 m
  rcg : s.rcg = a.rcg ∨ Sub 1048576 m
  ten : s.ten = a.ten ∨ Sub 2097152 m
  rng : s.rng = a.rng ∨ Sub 4194304 m
  bnd : s.bnd = a.bnd ∨ Sub 8388608 m
  rol : s.rol = a.rol ∨ Sub 16777216 m
  nvs : s.nvs = a.nvs ∨ Sub 33554432 m
  boot : s.boot = a.boot ∨ Sub 67108864 m

/-- `Same` of the state a meaning answers. -/
def SameR (m : Nat) (a : State) (r : Res) : Prop :=
  match r with
  | .next t => Same m a t
  | _ => True

/-- `Same` of a state that may be absent. -/
def SameO (m : Nat) (a : State) (o : Option State) : Prop := ∀ t, o = some t → Same m a t

variable {km : Nat} {ka : State}

theorem sameO_none : SameO km ka none := fun _ e => nomatch e

theorem sameO_some {s : State} (h : Same km ka s) : SameO km ka (some s) := fun _ e => by cases e; exact h

theorem sameR_next {s : State} (h : Same km ka s) : SameR km ka (.next s) := h

theorem same_of_next {r : Res} {s : State} (h : SameR km ka r) (e : r = .next s) : Same km ka s := by subst e; exact h

theorem same_of_pair {β : Type} {p : State × β} {s : State} {b : β} (h : Same km ka p.1) (e : p = (s, b)) : Same km ka s := by subst e; exact h

theorem same_ite {c : Prop} [Decidable c] {x y : State} (ha : Same km ka x) (hb : Same km ka y) : Same km ka (if c then x else y) := by
  split <;> assumption

theorem same_foldl {α : Type} {f : State → α → State} {l : List α} {s : State} (h : Same km ka s)
    (hf : ∀ s x, Same km ka s → Same km ka (f s x)) : Same km ka (l.foldl f s) := by
  induction l generalizing s with
  | nil => exact h
  | cons x t ih => exact ih (hf _ _ h)

theorem same_foldl1 {α β : Type} {f : State × β → α → State × β} {l : List α} {p : State × β} (h : Same km ka p.1)
    (hf : ∀ p x, Same km ka p.1 → Same km ka (f p x).1) : Same km ka (l.foldl f p).1 := by
  induction l generalizing p with
  | nil => exact h
  | cons x t ih => exact ih (hf _ _ h)

theorem same_ite1 {β : Type} {c : Prop} [Decidable c] {x y : State × β} (ha : Same km ka x.1) (hb : Same km ka y.1) :
    Same km ka (if c then x else y).1 := by
  split <;> assumption

theorem same_free {s : State} {x : Nat} (hm : Sub 4 km) (h : Same km ka s) : Same km ka
    { pending := s.pending, regs := s.regs, free := x, rdata := s.rdata, caps := s.caps, out := s.out, time := s.time, srv := s.srv, tus := s.tus, icu := s.icu, evm := s.evm, sys := s.sys, psc := s.psc, crs := s.crs, grd := s.grd, ser := s.ser, cans := s.cans, mem := s.mem, ept := s.ept, msh := s.msh, rcg := s.rcg, ten := s.ten, rng := s.rng, bnd := s.bnd, rol := s.rol, nvs := s.nvs, boot := s.boot } :=
  { h with free := .inr hm }

theorem same_rdata {s : State} {x : Nat} (hm : Sub 8 km) (h : Same km ka s) : Same km ka
    { pending := s.pending, regs := s.regs, free := s.free, rdata := x, caps := s.caps, out := s.out, time := s.time, srv := s.srv, tus := s.tus, icu := s.icu, evm := s.evm, sys := s.sys, psc := s.psc, crs := s.crs, grd := s.grd, ser := s.ser, cans := s.cans, mem := s.mem, ept := s.ept, msh := s.msh, rcg := s.rcg, ten := s.ten, rng := s.rng, bnd := s.bnd, rol := s.rol, nvs := s.nvs, boot := s.boot } :=
  { h with rdata := .inr hm }

theorem same_caps {s : State} {x : Tbl Nat} (hm : Sub 16 km) (h : Same km ka s) : Same km ka
    { pending := s.pending, regs := s.regs, free := s.free, rdata := s.rdata, caps := x, out := s.out, time := s.time, srv := s.srv, tus := s.tus, icu := s.icu, evm := s.evm, sys := s.sys, psc := s.psc, crs := s.crs, grd := s.grd, ser := s.ser, cans := s.cans, mem := s.mem, ept := s.ept, msh := s.msh, rcg := s.rcg, ten := s.ten, rng := s.rng, bnd := s.bnd, rol := s.rol, nvs := s.nvs, boot := s.boot } :=
  { h with caps := .inr hm }

theorem same_out {s : State} {x : List Out} (hm : Sub 32 km) (h : Same km ka s) : Same km ka
    { pending := s.pending, regs := s.regs, free := s.free, rdata := s.rdata, caps := s.caps, out := x, time := s.time, srv := s.srv, tus := s.tus, icu := s.icu, evm := s.evm, sys := s.sys, psc := s.psc, crs := s.crs, grd := s.grd, ser := s.ser, cans := s.cans, mem := s.mem, ept := s.ept, msh := s.msh, rcg := s.rcg, ten := s.ten, rng := s.rng, bnd := s.bnd, rol := s.rol, nvs := s.nvs, boot := s.boot } :=
  { h with out := .inr hm }

theorem same_time {s : State} {x : TimeS} (hm : Sub 64 km) (h : Same km ka s) : Same km ka
    { pending := s.pending, regs := s.regs, free := s.free, rdata := s.rdata, caps := s.caps, out := s.out, time := x, srv := s.srv, tus := s.tus, icu := s.icu, evm := s.evm, sys := s.sys, psc := s.psc, crs := s.crs, grd := s.grd, ser := s.ser, cans := s.cans, mem := s.mem, ept := s.ept, msh := s.msh, rcg := s.rcg, ten := s.ten, rng := s.rng, bnd := s.bnd, rol := s.rol, nvs := s.nvs, boot := s.boot } :=
  { h with time := .inr hm }

theorem same_srv {s : State} {x : SrvS} (hm : Sub 128 km) (h : Same km ka s) : Same km ka
    { pending := s.pending, regs := s.regs, free := s.free, rdata := s.rdata, caps := s.caps, out := s.out, time := s.time, srv := x, tus := s.tus, icu := s.icu, evm := s.evm, sys := s.sys, psc := s.psc, crs := s.crs, grd := s.grd, ser := s.ser, cans := s.cans, mem := s.mem, ept := s.ept, msh := s.msh, rcg := s.rcg, ten := s.ten, rng := s.rng, bnd := s.bnd, rol := s.rol, nvs := s.nvs, boot := s.boot } :=
  { h with srv := .inr hm }

theorem same_tus {s : State} {x : Tbl TuS} (hm : Sub 256 km) (h : Same km ka s) : Same km ka
    { pending := s.pending, regs := s.regs, free := s.free, rdata := s.rdata, caps := s.caps, out := s.out, time := s.time, srv := s.srv, tus := x, icu := s.icu, evm := s.evm, sys := s.sys, psc := s.psc, crs := s.crs, grd := s.grd, ser := s.ser, cans := s.cans, mem := s.mem, ept := s.ept, msh := s.msh, rcg := s.rcg, ten := s.ten, rng := s.rng, bnd := s.bnd, rol := s.rol, nvs := s.nvs, boot := s.boot } :=
  { h with tus := .inr hm }

theorem same_icu {s : State} {x : IcuS} (hm : Sub 512 km) (h : Same km ka s) : Same km ka
    { pending := s.pending, regs := s.regs, free := s.free, rdata := s.rdata, caps := s.caps, out := s.out, time := s.time, srv := s.srv, tus := s.tus, icu := x, evm := s.evm, sys := s.sys, psc := s.psc, crs := s.crs, grd := s.grd, ser := s.ser, cans := s.cans, mem := s.mem, ept := s.ept, msh := s.msh, rcg := s.rcg, ten := s.ten, rng := s.rng, bnd := s.bnd, rol := s.rol, nvs := s.nvs, boot := s.boot } :=
  { h with icu := .inr hm }

theorem same_evm {s : State} {x : EvmS} (hm : Sub 1024 km) (h : Same km ka s) : Same km ka
    { pending := s.pending, regs := s.regs, free := s.free, rdata := s.rdata, caps := s.caps, out := s.out, time := s.time, srv := s.srv, tus := s.tus, icu := s.icu, evm := x, sys := s.sys, psc := s.psc, crs := s.crs, grd := s.grd, ser := s.ser, cans := s.cans, mem := s.mem, ept := s.ept, msh := s.msh, rcg := s.rcg, ten := s.ten, rng := s.rng, bnd := s.bnd, rol := s.rol, nvs := s.nvs, boot := s.boot } :=
  { h with evm := .inr hm }

theorem same_sys {s : State} {x : SysS} (hm : Sub 2048 km) (h : Same km ka s) : Same km ka
    { pending := s.pending, regs := s.regs, free := s.free, rdata := s.rdata, caps := s.caps, out := s.out, time := s.time, srv := s.srv, tus := s.tus, icu := s.icu, evm := s.evm, sys := x, psc := s.psc, crs := s.crs, grd := s.grd, ser := s.ser, cans := s.cans, mem := s.mem, ept := s.ept, msh := s.msh, rcg := s.rcg, ten := s.ten, rng := s.rng, bnd := s.bnd, rol := s.rol, nvs := s.nvs, boot := s.boot } :=
  { h with sys := .inr hm }

theorem same_psc {s : State} {x : PscS} (hm : Sub 4096 km) (h : Same km ka s) : Same km ka
    { pending := s.pending, regs := s.regs, free := s.free, rdata := s.rdata, caps := s.caps, out := s.out, time := s.time, srv := s.srv, tus := s.tus, icu := s.icu, evm := s.evm, sys := s.sys, psc := x, crs := s.crs, grd := s.grd, ser := s.ser, cans := s.cans, mem := s.mem, ept := s.ept, msh := s.msh, rcg := s.rcg, ten := s.ten, rng := s.rng, bnd := s.bnd, rol := s.rol, nvs := s.nvs, boot := s.boot } :=
  { h with psc := .inr hm }

theorem same_crs {s : State} {x : CrsS} (hm : Sub 8192 km) (h : Same km ka s) : Same km ka
    { pending := s.pending, regs := s.regs, free := s.free, rdata := s.rdata, caps := s.caps, out := s.out, time := s.time, srv := s.srv, tus := s.tus, icu := s.icu, evm := s.evm, sys := s.sys, psc := s.psc, crs := x, grd := s.grd, ser := s.ser, cans := s.cans, mem := s.mem, ept := s.ept, msh := s.msh, rcg := s.rcg, ten := s.ten, rng := s.rng, bnd := s.bnd, rol := s.rol, nvs := s.nvs, boot := s.boot } :=
  { h with crs := .inr hm }

theorem same_grd {s : State} {x : GrdS} (hm : Sub 16384 km) (h : Same km ka s) : Same km ka
    { pending := s.pending, regs := s.regs, free := s.free, rdata := s.rdata, caps := s.caps, out := s.out, time := s.time, srv := s.srv, tus := s.tus, icu := s.icu, evm := s.evm, sys := s.sys, psc := s.psc, crs := s.crs, grd := x, ser := s.ser, cans := s.cans, mem := s.mem, ept := s.ept, msh := s.msh, rcg := s.rcg, ten := s.ten, rng := s.rng, bnd := s.bnd, rol := s.rol, nvs := s.nvs, boot := s.boot } :=
  { h with grd := .inr hm }

theorem same_ser {s : State} {x : SerS} (hm : Sub 32768 km) (h : Same km ka s) : Same km ka
    { pending := s.pending, regs := s.regs, free := s.free, rdata := s.rdata, caps := s.caps, out := s.out, time := s.time, srv := s.srv, tus := s.tus, icu := s.icu, evm := s.evm, sys := s.sys, psc := s.psc, crs := s.crs, grd := s.grd, ser := x, cans := s.cans, mem := s.mem, ept := s.ept, msh := s.msh, rcg := s.rcg, ten := s.ten, rng := s.rng, bnd := s.bnd, rol := s.rol, nvs := s.nvs, boot := s.boot } :=
  { h with ser := .inr hm }

theorem same_cans {s : State} {x : Tbl CanPS} (hm : Sub 65536 km) (h : Same km ka s) : Same km ka
    { pending := s.pending, regs := s.regs, free := s.free, rdata := s.rdata, caps := s.caps, out := s.out, time := s.time, srv := s.srv, tus := s.tus, icu := s.icu, evm := s.evm, sys := s.sys, psc := s.psc, crs := s.crs, grd := s.grd, ser := s.ser, cans := x, mem := s.mem, ept := s.ept, msh := s.msh, rcg := s.rcg, ten := s.ten, rng := s.rng, bnd := s.bnd, rol := s.rol, nvs := s.nvs, boot := s.boot } :=
  { h with cans := .inr hm }

theorem same_mem {s : State} {x : MemS} (hm : Sub 131072 km) (h : Same km ka s) : Same km ka
    { pending := s.pending, regs := s.regs, free := s.free, rdata := s.rdata, caps := s.caps, out := s.out, time := s.time, srv := s.srv, tus := s.tus, icu := s.icu, evm := s.evm, sys := s.sys, psc := s.psc, crs := s.crs, grd := s.grd, ser := s.ser, cans := s.cans, mem := x, ept := s.ept, msh := s.msh, rcg := s.rcg, ten := s.ten, rng := s.rng, bnd := s.bnd, rol := s.rol, nvs := s.nvs, boot := s.boot } :=
  { h with mem := .inr hm }

theorem same_ept {s : State} {x : EptS} (hm : Sub 262144 km) (h : Same km ka s) : Same km ka
    { pending := s.pending, regs := s.regs, free := s.free, rdata := s.rdata, caps := s.caps, out := s.out, time := s.time, srv := s.srv, tus := s.tus, icu := s.icu, evm := s.evm, sys := s.sys, psc := s.psc, crs := s.crs, grd := s.grd, ser := s.ser, cans := s.cans, mem := s.mem, ept := x, msh := s.msh, rcg := s.rcg, ten := s.ten, rng := s.rng, bnd := s.bnd, rol := s.rol, nvs := s.nvs, boot := s.boot } :=
  { h with ept := .inr hm }

theorem same_msh {s : State} {x : MshS} (hm : Sub 524288 km) (h : Same km ka s) : Same km ka
    { pending := s.pending, regs := s.regs, free := s.free, rdata := s.rdata, caps := s.caps, out := s.out, time := s.time, srv := s.srv, tus := s.tus, icu := s.icu, evm := s.evm, sys := s.sys, psc := s.psc, crs := s.crs, grd := s.grd, ser := s.ser, cans := s.cans, mem := s.mem, ept := s.ept, msh := x, rcg := s.rcg, ten := s.ten, rng := s.rng, bnd := s.bnd, rol := s.rol, nvs := s.nvs, boot := s.boot } :=
  { h with msh := .inr hm }

theorem same_rcg {s : State} {x : RcgS} (hm : Sub 1048576 km) (h : Same km ka s) : Same km ka
    { pending := s.pending, regs := s.regs, free := s.free, rdata := s.rdata, caps := s.caps, out := s.out, time := s.time, srv := s.srv, tus := s.tus, icu := s.icu, evm := s.evm, sys := s.sys, psc := s.psc, crs := s.crs, grd := s.grd, ser := s.ser, cans := s.cans, mem := s.mem, ept := s.ept, msh := s.msh, rcg := x, ten := s.ten, rng := s.rng, bnd := s.bnd, rol := s.rol, nvs := s.nvs, boot := s.boot } :=
  { h with rcg := .inr hm }

theorem same_ten {s : State} {x : TenS} (hm : Sub 2097152 km) (h : Same km ka s) : Same km ka
    { pending := s.pending, regs := s.regs, free := s.free, rdata := s.rdata, caps := s.caps, out := s.out, time := s.time, srv := s.srv, tus := s.tus, icu := s.icu, evm := s.evm, sys := s.sys, psc := s.psc, crs := s.crs, grd := s.grd, ser := s.ser, cans := s.cans, mem := s.mem, ept := s.ept, msh := s.msh, rcg := s.rcg, ten := x, rng := s.rng, bnd := s.bnd, rol := s.rol, nvs := s.nvs, boot := s.boot } :=
  { h with ten := .inr hm }

theorem same_rng {s : State} {x : RngS} (hm : Sub 4194304 km) (h : Same km ka s) : Same km ka
    { pending := s.pending, regs := s.regs, free := s.free, rdata := s.rdata, caps := s.caps, out := s.out, time := s.time, srv := s.srv, tus := s.tus, icu := s.icu, evm := s.evm, sys := s.sys, psc := s.psc, crs := s.crs, grd := s.grd, ser := s.ser, cans := s.cans, mem := s.mem, ept := s.ept, msh := s.msh, rcg := s.rcg, ten := s.ten, rng := x, bnd := s.bnd, rol := s.rol, nvs := s.nvs, boot := s.boot } :=
  { h with rng := .inr hm }

theorem same_bnd {s : State} {x : BndS} (hm : Sub 8388608 km) (h : Same km ka s) : Same km ka
    { pending := s.pending, regs := s.regs, free := s.free, rdata := s.rdata, caps := s.caps, out := s.out, time := s.time, srv := s.srv, tus := s.tus, icu := s.icu, evm := s.evm, sys := s.sys, psc := s.psc, crs := s.crs, grd := s.grd, ser := s.ser, cans := s.cans, mem := s.mem, ept := s.ept, msh := s.msh, rcg := s.rcg, ten := s.ten, rng := s.rng, bnd := x, rol := s.rol, nvs := s.nvs, boot := s.boot } :=
  { h with bnd := .inr hm }

theorem same_rol {s : State} {x : RolS} (hm : Sub 16777216 km) (h : Same km ka s) : Same km ka
    { pending := s.pending, regs := s.regs, free := s.free, rdata := s.rdata, caps := s.caps, out := s.out, time := s.time, srv := s.srv, tus := s.tus, icu := s.icu, evm := s.evm, sys := s.sys, psc := s.psc, crs := s.crs, grd := s.grd, ser := s.ser, cans := s.cans, mem := s.mem, ept := s.ept, msh := s.msh, rcg := s.rcg, ten := s.ten, rng := s.rng, bnd := s.bnd, rol := x, nvs := s.nvs, boot := s.boot } :=
  { h with rol := .inr hm }

theorem same_nvs {s : State} {x : NvsS} (hm : Sub 33554432 km) (h : Same km ka s) : Same km ka
    { pending := s.pending, regs := s.regs, free := s.free, rdata := s.rdata, caps := s.caps, out := s.out, time := s.time, srv := s.srv, tus := s.tus, icu := s.icu, evm := s.evm, sys := s.sys, psc := s.psc, crs := s.crs, grd := s.grd, ser := s.ser, cans := s.cans, mem := s.mem, ept := s.ept, msh := s.msh, rcg := s.rcg, ten := s.ten, rng := s.rng, bnd := s.bnd, rol := s.rol, nvs := x, boot := s.boot } :=
  { h with nvs := .inr hm }

theorem same_boot {s : State} {x : BootS} (hm : Sub 67108864 km) (h : Same km ka s) : Same km ka
    { pending := s.pending, regs := s.regs, free := s.free, rdata := s.rdata, caps := s.caps, out := s.out, time := s.time, srv := s.srv, tus := s.tus, icu := s.icu, evm := s.evm, sys := s.sys, psc := s.psc, crs := s.crs, grd := s.grd, ser := s.ser, cans := s.cans, mem := s.mem, ept := s.ept, msh := s.msh, rcg := s.rcg, ten := s.ten, rng := s.rng, bnd := s.bnd, rol := s.rol, nvs := s.nvs, boot := x } :=
  { h with boot := .inr hm }

theorem same_mk {s : State} {xfree : Nat} {xrdata : Nat} {xcaps : Tbl Nat} {xout : List Out} {xtime : TimeS} {xsrv : SrvS} {xtus : Tbl TuS} {xicu : IcuS} {xevm : EvmS} {xsys : SysS} {xpsc : PscS} {xcrs : CrsS} {xgrd : GrdS} {xser : SerS} {xcans : Tbl CanPS} {xmem : MemS} {xept : EptS} {xmsh : MshS} {xrcg : RcgS} {xten : TenS} {xrng : RngS} {xbnd : BndS} {xrol : RolS} {xnvs : NvsS} {xboot : BootS} (h : Same km ka s)
    (hfree : xfree = s.free ∨ Sub 4 km) (hrdata : xrdata = s.rdata ∨ Sub 8 km) (hcaps : xcaps = s.caps ∨ Sub 16 km) (hout : xout = s.out ∨ Sub 32 km) (htime : xtime = s.time ∨ Sub 64 km) (hsrv : xsrv = s.srv ∨ Sub 128 km) (htus : xtus = s.tus ∨ Sub 256 km) (hicu : xicu = s.icu ∨ Sub 512 km) (hevm : xevm = s.evm ∨ Sub 1024 km) (hsys : xsys = s.sys ∨ Sub 2048 km) (hpsc : xpsc = s.psc ∨ Sub 4096 km) (hcrs : xcrs = s.crs ∨ Sub 8192 km) (hgrd : xgrd = s.grd ∨ Sub 16384 km) (hser : xser = s.ser ∨ Sub 32768 km) (hcans : xcans = s.cans ∨ Sub 65536 km) (hmem : xmem = s.mem ∨ Sub 131072 km) (hept : xept = s.ept ∨ Sub 262144 km) (hmsh : xmsh = s.msh ∨ Sub 524288 km) (hrcg : xrcg = s.rcg ∨ Sub 1048576 km) (hten : xten = s.ten ∨ Sub 2097152 km) (hrng : xrng = s.rng ∨ Sub 4194304 km) (hbnd : xbnd = s.bnd ∨ Sub 8388608 km) (hrol : xrol = s.rol ∨ Sub 16777216 km) (hnvs : xnvs = s.nvs ∨ Sub 33554432 km) (hboot : xboot = s.boot ∨ Sub 67108864 km) : Same km ka
    { pending := s.pending, regs := s.regs, free := xfree, rdata := xrdata, caps := xcaps, out := xout, time := xtime, srv := xsrv, tus := xtus, icu := xicu, evm := xevm, sys := xsys, psc := xpsc, crs := xcrs, grd := xgrd, ser := xser, cans := xcans, mem := xmem, ept := xept, msh := xmsh, rcg := xrcg, ten := xten, rng := xrng, bnd := xbnd, rol := xrol, nvs := xnvs, boot := xboot } :=
  { h with free := hfree.elim (fun e => h.free.elim (fun g => .inl (e.trans g)) .inr) .inr, rdata := hrdata.elim (fun e => h.rdata.elim (fun g => .inl (e.trans g)) .inr) .inr, caps := hcaps.elim (fun e => h.caps.elim (fun g => .inl (e.trans g)) .inr) .inr, out := hout.elim (fun e => h.out.elim (fun g => .inl (e.trans g)) .inr) .inr, time := htime.elim (fun e => h.time.elim (fun g => .inl (e.trans g)) .inr) .inr, srv := hsrv.elim (fun e => h.srv.elim (fun g => .inl (e.trans g)) .inr) .inr, tus := htus.elim (fun e => h.tus.elim (fun g => .inl (e.trans g)) .inr) .inr, icu := hicu.elim (fun e => h.icu.elim (fun g => .inl (e.trans g)) .inr) .inr, evm := hevm.elim (fun e => h.evm.elim (fun g => .inl (e.trans g)) .inr) .inr, sys := hsys.elim (fun e => h.sys.elim (fun g => .inl (e.trans g)) .inr) .inr, psc := hpsc.elim (fun e => h.psc.elim (fun g => .inl (e.trans g)) .inr) .inr, crs := hcrs.elim (fun e => h.crs.elim (fun g => .inl (e.trans g)) .inr) .inr, grd := hgrd.elim (fun e => h.grd.elim (fun g => .inl (e.trans g)) .inr) .inr, ser := hser.elim (fun e => h.ser.elim (fun g => .inl (e.trans g)) .inr) .inr, cans := hcans.elim (fun e => h.cans.elim (fun g => .inl (e.trans g)) .inr) .inr, mem := hmem.elim (fun e => h.mem.elim (fun g => .inl (e.trans g)) .inr) .inr, ept := hept.elim (fun e => h.ept.elim (fun g => .inl (e.trans g)) .inr) .inr, msh := hmsh.elim (fun e => h.msh.elim (fun g => .inl (e.trans g)) .inr) .inr, rcg := hrcg.elim (fun e => h.rcg.elim (fun g => .inl (e.trans g)) .inr) .inr, ten := hten.elim (fun e => h.ten.elim (fun g => .inl (e.trans g)) .inr) .inr, rng := hrng.elim (fun e => h.rng.elim (fun g => .inl (e.trans g)) .inr) .inr, bnd := hbnd.elim (fun e => h.bnd.elim (fun g => .inl (e.trans g)) .inr) .inr, rol := hrol.elim (fun e => h.rol.elim (fun g => .inl (e.trans g)) .inr) .inr, nvs := hnvs.elim (fun e => h.nvs.elim (fun g => .inl (e.trans g)) .inr) .inr, boot := hboot.elim (fun e => h.boot.elim (fun g => .inl (e.trans g)) .inr) .inr }

theorem State.wr_same (s : State) (off : Nat) (v : Word) (hm : Sub 2 km) (h0 : Same km ka s) : Same km ka (s.wr off v) :=
  { h0 with regs := .inr hm, regsOk := fun h => Tbl.set_wf (h0.regsOk h) off v }

theorem State.resetRegs_same (s : State) (lo hi : Nat) (hm : Sub 2 km) (h0 : Same km ka s) : Same km ka (s.resetRegs lo hi) :=
  { h0 with regs := .inr hm, regsOk := fun h => Tbl.filter_wf (h0.regsOk h) _ }

theorem State.unpowered_same (s : State) (hm : Sub 134217682 km) (h0 : Same km ka s) : Same km ka s.unpowered :=
  { h0 with regsOk := fun h => Tbl.filter_wf (h0.regsOk h) _, regs := .inr (Sub.trans (y := 134217682) rfl hm), caps := .inr (Sub.trans (y := 134217682) rfl hm), time := .inr (Sub.trans (y := 134217682) rfl hm), srv := .inr (Sub.trans (y := 134217682) rfl hm), tus := .inr (Sub.trans (y := 134217682) rfl hm), icu := .inr (Sub.trans (y := 134217682) rfl hm), evm := .inr (Sub.trans (y := 134217682) rfl hm), sys := .inr (Sub.trans (y := 134217682) rfl hm), psc := .inr (Sub.trans (y := 134217682) rfl hm), crs := .inr (Sub.trans (y := 134217682) rfl hm), grd := .inr (Sub.trans (y := 134217682) rfl hm), ser := .inr (Sub.trans (y := 134217682) rfl hm), cans := .inr (Sub.trans (y := 134217682) rfl hm), mem := .inr (Sub.trans (y := 134217682) rfl hm), ept := .inr (Sub.trans (y := 134217682) rfl hm), msh := .inr (Sub.trans (y := 134217682) rfl hm), rcg := .inr (Sub.trans (y := 134217682) rfl hm), ten := .inr (Sub.trans (y := 134217682) rfl hm), rng := .inr (Sub.trans (y := 134217682) rfl hm), bnd := .inr (Sub.trans (y := 134217682) rfl hm), rol := .inr (Sub.trans (y := 134217682) rfl hm), nvs := .inr (Sub.trans (y := 134217682) rfl hm), boot := .inr (Sub.trans (y := 134217682) rfl hm) }

end Sys2Proof.Machine
end

