-- ==== Sys2Proof/Laws/SameOps.lean ====
section
/-! SUPPORT. What the operations of Machine/Ops.lean keep (Laws/Same.lean). -/
set_option Elab.async false
namespace Sys2Proof.Machine

variable {km : Nat} {ka : State}

theorem State.f_same (s : State) (f : Fld) (v : Nat) (hkm : Sub 2 km) (h0 : Same km ka s) : Same km ka (State.f s f v) := by
  unfold State.f
  try dsimp only
  repeat' first
    | with_reducible assumption
    | exact Sub.trans rfl hkm
    | intro _
    | with_reducible apply State.wr_same

theorem State.incBy_same (s : State) (f : Fld) (n : Nat) (hkm : Sub 2 km) (h0 : Same km ka s) : Same km ka (State.incBy s f n) := by
  unfold State.incBy
  try dsimp only
  repeat' first
    | with_reducible assumption
    | exact Sub.trans rfl hkm
    | intro _
    | with_reducible apply State.f_same

theorem State.inc_same (s : State) (f : Fld) (hkm : Sub 2 km) (h0 : Same km ka s) : Same km ka (State.inc s f) := by
  unfold State.inc
  try dsimp only
  repeat' first
    | with_reducible assumption
    | exact Sub.trans rfl hkm
    | intro _
    | with_reducible apply State.incBy_same

theorem State.setSrc_same (s : State) (n : Nat) (r : SrcS) (hkm : Sub 512 km) (h0 : Same km ka s) : Same km ka (State.setSrc s n r) := by
  unfold State.setSrc
  try dsimp only
  repeat' first
    | with_reducible assumption
    | exact Sub.trans rfl hkm
    | intro _
    | with_reducible apply same_ite
    | with_reducible apply same_foldl
    | with_reducible apply sameR_next
    | with_reducible apply same_foldl1
    | with_reducible apply same_ite1
    | split
    | dsimp only
    | with_reducible apply same_icu

theorem State.arrive_same (s : State) (n : Nat) (hkm : Sub 512 km) (h0 : Same km ka s) : Same km ka (State.arrive s n) := by
  unfold State.arrive
  try dsimp only
  repeat' first
    | with_reducible assumption
    | exact Sub.trans rfl hkm
    | intro _
    | with_reducible apply State.setSrc_same
    | with_reducible apply same_ite

theorem State.settleSrc_same (s : State) (n : Nat) (hkm : Sub 514 km) (h0 : Same km ka s) : Same km ka (State.settleSrc s n) := by
  unfold State.settleSrc
  try dsimp only
  repeat' first
    | with_reducible assumption
    | exact Sub.trans rfl hkm
    | intro _
    | with_reducible apply State.setSrc_same
    | with_reducible apply State.inc_same
    | with_reducible apply same_ite
    | with_reducible apply same_foldl
    | with_reducible apply sameR_next
    | with_reducible apply same_foldl1
    | with_reducible apply same_ite1
    | split
    | dsimp only
    | with_reducible apply same_icu

theorem State.icuSts_same (s : State) (hkm : Sub 2 km) (h0 : Same km ka s) : Same km ka (State.icuSts s) := by
  unfold State.icuSts
  try dsimp only
  repeat' first
    | with_reducible assumption
    | exact Sub.trans rfl hkm
    | intro _
    | with_reducible apply State.f_same

theorem State.setTgt_same (s : State) (k : Nat) (t : TgtS) (hkm : Sub 512 km) (h0 : Same km ka s) : Same km ka (State.setTgt s k t) := by
  unfold State.setTgt
  try dsimp only
  repeat' first
    | with_reducible assumption
    | exact Sub.trans rfl hkm
    | intro _
    | with_reducible apply same_ite
    | with_reducible apply same_foldl
    | with_reducible apply sameR_next
    | with_reducible apply same_foldl1
    | with_reducible apply same_ite1
    | split
    | dsimp only
    | with_reducible apply same_icu

theorem State.setMsix_same (s : State) (k : Nat) (m : MsixS) (hkm : Sub 512 km) (h0 : Same km ka s) : Same km ka (State.setMsix s k m) := by
  unfold State.setMsix
  try dsimp only
  repeat' first
    | with_reducible assumption
    | exact Sub.trans rfl hkm
    | intro _
    | with_reducible apply same_ite
    | with_reducible apply same_foldl
    | with_reducible apply sameR_next
    | with_reducible apply same_foldl1
    | with_reducible apply same_ite1
    | split
    | dsimp only
    | with_reducible apply same_icu

theorem State.sendMsix_same (s : State) (k : Nat) (hkm : Sub 546 km) (h0 : Same km ka s) : Same km ka (State.sendMsix s k) := by
  unfold State.sendMsix
  try dsimp only
  repeat' first
    | with_reducible assumption
    | exact Sub.trans rfl hkm
    | intro _
    | with_reducible apply State.setMsix_same
    | with_reducible apply State.inc_same
    | with_reducible apply same_ite
    | with_reducible apply same_foldl
    | with_reducible apply sameR_next
    | with_reducible apply same_foldl1
    | with_reducible apply same_ite1
    | split
    | dsimp only
    | with_reducible apply same_out

theorem State.announce_same (again : Bool) (s : State) (k : Nat) (hkm : Sub 546 km) (h0 : Same km ka s) : Same km ka (State.announce again s k) := by
  unfold State.announce
  try dsimp only
  repeat' first
    | with_reducible assumption
    | exact Sub.trans rfl hkm
    | intro _
    | with_reducible apply State.setTgt_same
    | with_reducible apply State.sendMsix_same
    | with_reducible apply same_ite
    | with_reducible apply same_foldl
    | with_reducible apply sameR_next
    | with_reducible apply same_foldl1
    | with_reducible apply same_ite1
    | split

theorem State.settle_same (s : State) (hkm : Sub 546 km) (h0 : Same km ka s) : Same km ka (State.settle s) := by
  unfold State.settle
  try dsimp only
  repeat' first
    | with_reducible assumption
    | exact Sub.trans rfl hkm
    | intro _
    | with_reducible apply State.settleSrc_same
    | with_reducible apply State.icuSts_same
    | with_reducible apply State.announce_same
    | with_reducible apply same_ite
    | with_reducible apply same_foldl

theorem State.raiseHub_same (s : State) (hkm : Sub 546 km) (h : Nat) (h0 : Same km ka s) : Same km ka (State.raiseHub s h) := by
  unfold State.raiseHub
  try dsimp only
  repeat' first
    | with_reducible assumption
    | exact Sub.trans rfl hkm
    | intro _
    | with_reducible apply State.f_same
    | with_reducible apply State.arrive_same
    | with_reducible apply State.settle_same
    | with_reducible apply same_ite
    | with_reducible apply same_foldl
    | with_reducible apply sameR_next
    | with_reducible apply same_foldl1
    | with_reducible apply same_ite1
    | split
    | dsimp only
    | with_reducible apply same_icu

theorem State.wakeIcu_same (s : State) (hkm : Sub 546 km) (h0 : Same km ka s) : Same km ka (State.wakeIcu s) := by
  unfold State.wakeIcu
  try dsimp only
  repeat' first
    | with_reducible assumption
    | exact Sub.trans rfl hkm
    | intro _
    | with_reducible apply State.settle_same
    | with_reducible apply State.raiseHub_same
    | with_reducible apply same_ite
    | with_reducible apply same_foldl
    | with_reducible apply sameR_next
    | with_reducible apply same_foldl1
    | with_reducible apply same_ite1
    | split
    | dsimp only
    | with_reducible apply same_icu

theorem State.wakeDoze_same (s : State) (bits : Nat) (hkm : Sub 2594 km) (h0 : Same km ka s) : Same km ka (State.wakeDoze s bits) := by
  unfold State.wakeDoze
  try dsimp only
  repeat' first
    | with_reducible assumption
    | exact Sub.trans rfl hkm
    | intro _
    | with_reducible apply State.f_same
    | with_reducible apply State.raiseHub_same
    | with_reducible apply State.wakeIcu_same
    | with_reducible apply same_ite
    | with_reducible apply same_foldl
    | with_reducible apply sameR_next
    | with_reducible apply same_foldl1
    | with_reducible apply same_ite1
    | split
    | dsimp only
    | with_reducible apply same_sys

theorem State.zero_same (s : State) (fs : List Fld) (hkm : Sub 2 km) (h0 : Same km ka s) : Same km ka (State.zero s fs) := by
  unfold State.zero
  try dsimp only
  repeat' first
    | with_reducible assumption
    | exact Sub.trans rfl hkm
    | intro _
    | with_reducible apply State.f_same
    | with_reducible apply same_ite
    | with_reducible apply same_foldl

theorem State.drew_same (s : State) (hkm : Sub 4 km) (h0 : Same km ka s) : Same km ka (State.drew s) := by
  unfold State.drew
  try dsimp only
  repeat' first
    | with_reducible assumption
    | exact Sub.trans rfl hkm
    | intro _
    | with_reducible apply same_ite
    | with_reducible apply same_foldl
    | with_reducible apply sameR_next
    | with_reducible apply same_foldl1
    | with_reducible apply same_ite1
    | split
    | dsimp only
    | with_reducible apply same_free

theorem State.errMark_same (s : State) (e : Nat) (off : Nat) (code : Nat) (hkm : Sub 2 km) (h0 : Same km ka s) : Same km ka (State.errMark s e off code) := by
  unfold State.errMark
  try dsimp only
  repeat' first
    | with_reducible assumption
    | exact Sub.trans rfl hkm
    | intro _
    | with_reducible apply State.wr_same

theorem State.err_same (s : State) (e : Nat) (off : Nat) (code : Nat) (hkm : Sub 546 km) (h0 : Same km ka s) : Same km ka (State.err s e off code) := by
  unfold State.err
  try dsimp only
  repeat' first
    | with_reducible assumption
    | exact Sub.trans rfl hkm
    | intro _
    | with_reducible apply State.raiseHub_same
    | with_reducible apply State.errMark_same

theorem State.clockStopped_same (s : State) (off : Nat) (hkm : Sub 546 km) (h0 : Same km ka s) : Same km ka (State.clockStopped s off) := by
  unfold State.clockStopped
  try dsimp only
  repeat' first
    | with_reducible assumption
    | exact Sub.trans rfl hkm
    | intro _
    | with_reducible apply State.inc_same
    | with_reducible apply State.err_same

theorem State.barWrite_same (s : State) (r : Reg) (i : Nat) (j : Nat) (v : Word) (act : State → State) (hkm : Sub 2594 km) (h0 : Same km ka s) (hfact : ∀ y0, Same km ka y0 → Same km ka (act y0)) : Same km ka (State.barWrite s r i j v act) := by
  unfold State.barWrite
  try dsimp only
  repeat' first
    | with_reducible assumption
    | exact Sub.trans rfl hkm
    | intro _
    | with_reducible apply hfact
    | with_reducible apply State.wakeDoze_same
    | with_reducible apply State.clockStopped_same
    | with_reducible apply State.err_same
    | with_reducible apply same_ite
    | with_reducible apply same_foldl
    | with_reducible apply sameR_next
    | with_reducible apply same_foldl1
    | with_reducible apply same_ite1
    | split

theorem State.discard_same (s : State) (r : Reg) (i : Nat) (j : Nat) (code : Nat) (hkm : Sub 546 km) (h0 : Same km ka s) : Same km ka (State.discard s r i j code) := by
  unfold State.discard
  try dsimp only
  repeat' first
    | with_reducible assumption
    | exact Sub.trans rfl hkm
    | intro _
    | with_reducible apply State.err_same

theorem State.wakeReq_same (s : State) (bits : Nat) (hkm : Sub 2594 km) (h0 : Same km ka s) : Same km ka (State.wakeReq s bits) := by
  unfold State.wakeReq
  try dsimp only
  repeat' first
    | with_reducible assumption
    | exact Sub.trans rfl hkm
    | intro _
    | with_reducible apply State.wakeDoze_same
    | with_reducible apply same_ite
    | with_reducible apply same_foldl
    | with_reducible apply sameR_next
    | with_reducible apply same_foldl1
    | with_reducible apply same_ite1
    | split
    | dsimp only
    | with_reducible apply same_sys

theorem State.markMerged_same (s : State) (c : Nat) (hkm : Sub 2 km) (h0 : Same km ka s) : Same km ka (State.markMerged s c) := by
  unfold State.markMerged
  try dsimp only
  repeat' first
    | with_reducible assumption
    | exact Sub.trans rfl hkm
    | intro _
    | with_reducible apply State.f_same

theorem State.event_same (s : State) (p : Nat) (ct : Nat) (hkm : Sub 1026 km) (h0 : Same km ka s) : Same km ka (State.event s p ct) := by
  unfold State.event
  try dsimp only
  repeat' first
    | with_reducible assumption
    | exact Sub.trans rfl hkm
    | intro _
    | with_reducible apply State.markMerged_same
    | with_reducible apply same_ite
    | with_reducible apply same_foldl
    | with_reducible apply sameR_next
    | with_reducible apply same_foldl1
    | with_reducible apply same_ite1
    | split
    | dsimp only
    | with_reducible apply same_evm

theorem times_same (f : State → State) (v1 : Nat) (v2 : State) (hkm : Sub 0 km) (hff : ∀ y0, Same km ka y0 → Same km ka (f y0)) (h0 : Same km ka v2) : Same km ka (times f v1 v2) := by
  induction v1 generalizing v2 with
  | zero => exact h0
  | succ n ih =>
    unfold times
    try dsimp only
    repeat' first
      | with_reducible assumption
      | exact Sub.trans rfl hkm
      | with_reducible apply ih
      | intro _
      | with_reducible apply hff

theorem State.f64_same (s : State) (lo : Fld) (hkm : Sub 2 km) (hi : Fld) (v : Nat) (h0 : Same km ka s) : Same km ka (State.f64 s lo hi v) := by
  unfold State.f64
  try dsimp only
  repeat' first
    | with_reducible assumption
    | exact Sub.trans rfl hkm
    | intro _
    | with_reducible apply State.f_same

theorem State.store_same (s : State) (r : Reg) (i : Nat) (j : Nat) (v : Word) (hkm : Sub 2 km) (h0 : Same km ka s) : Same km ka (State.store s r i j v) := by
  unfold State.store
  try dsimp only
  repeat' first
    | with_reducible assumption
    | exact Sub.trans rfl hkm
    | intro _
    | with_reducible apply State.wr_same

theorem State.tenantSource_same (s : State) (n : Nat) (lvl : Bool) (arrival : Bool) (hkm : Sub 546 km) (h0 : Same km ka s) : Same km ka (State.tenantSource s n lvl arrival) := by
  unfold State.tenantSource
  try dsimp only
  repeat' first
    | with_reducible assumption
    | exact Sub.trans rfl hkm
    | intro _
    | with_reducible apply State.setSrc_same
    | with_reducible apply State.settle_same
    | with_reducible apply State.arrive_same
    | with_reducible apply same_ite

theorem State.clrWrite_same (s : State) (fs : List Fld) (v : Word) (hkm : Sub 2 km) (h0 : Same km ka s) : Same km ka (State.clrWrite s fs v) := by
  unfold State.clrWrite
  try dsimp only
  repeat' first
    | with_reducible assumption
    | exact Sub.trans rfl hkm
    | intro _
    | with_reducible apply State.zero_same
    | with_reducible apply same_ite

theorem State.lifeInc_same (s : State) (i : Nat) (n : Nat) (hkm : Sub 33554432 km) (h0 : Same km ka s) : Same km ka (State.lifeInc s i n) := by
  unfold State.lifeInc
  try dsimp only
  repeat' first
    | with_reducible assumption
    | exact Sub.trans rfl hkm
    | intro _
    | with_reducible apply same_ite
    | with_reducible apply same_foldl
    | with_reducible apply sameR_next
    | with_reducible apply same_foldl1
    | with_reducible apply same_ite1
    | split
    | dsimp only
    | with_reducible apply same_nvs

theorem State.lockChannels_same (s : State) (hkm : Sub 2 km) (h0 : Same km ka s) : Same km ka (State.lockChannels s) := by
  unfold State.lockChannels
  try dsimp only
  repeat' first
    | with_reducible assumption
    | exact Sub.trans rfl hkm
    | intro _
    | with_reducible apply State.f_same
    | with_reducible apply same_ite
    | with_reducible apply same_foldl

theorem State.flushMsix_same (s : State) (k : Nat) (hkm : Sub 546 km) (h0 : Same km ka s) : Same km ka (State.flushMsix s k) := by
  unfold State.flushMsix
  try dsimp only
  repeat' first
    | with_reducible assumption
    | exact Sub.trans rfl hkm
    | intro _
    | with_reducible apply State.sendMsix_same
    | with_reducible apply same_ite

theorem State.announceAll_same (s : State) (hkm : Sub 546 km) (h0 : Same km ka s) : Same km ka (State.announceAll s) := by
  unfold State.announceAll
  try dsimp only
  repeat' first
    | with_reducible assumption
    | exact Sub.trans rfl hkm
    | intro _
    | with_reducible apply State.flushMsix_same
    | with_reducible apply State.announce_same
    | with_reducible apply same_ite
    | with_reducible apply same_foldl

theorem State.readStopped_same (s : State) (off : Nat) (hkm : Sub 10 km) (h0 : Same km ka s) : Same km ka (State.readStopped s off) := by
  unfold State.readStopped
  try dsimp only
  repeat' first
    | with_reducible assumption
    | exact Sub.trans rfl hkm
    | intro _
    | with_reducible apply State.inc_same
    | with_reducible apply State.errMark_same
    | with_reducible apply same_ite
    | with_reducible apply same_foldl
    | with_reducible apply sameR_next
    | with_reducible apply same_foldl1
    | with_reducible apply same_ite1
    | split
    | dsimp only
    | with_reducible apply same_rdata

end Sys2Proof.Machine
end

