-- ==== Sys2Proof/Laws/SameFlit.lean ====
section
/-! SUPPORT. What the operations of Machine/Flit.lean keep (Laws/Same.lean). -/
set_option Elab.async false
namespace Sys2Proof.Machine

variable {km : Nat} {ka : State}

theorem State.sendCodeword_same (s : State) (p : Nat) (flits : List (List Nat)) (hkm : Sub 8388640 km) (h0 : Same km ka s) : Same km ka (State.sendCodeword s p flits) := by
  unfold State.sendCodeword
  try dsimp only
  repeat' first
    | with_reducible assumption
    | exact Sub.trans rfl hkm
    | with_reducible exact Or.inr (Sub.trans rfl hkm)
    | with_reducible exact Or.inl rfl
    | intro _
    | with_reducible apply same_ite
    | with_reducible apply same_foldl
    | with_reducible apply sameR_next
    | with_reducible apply same_foldl1
    | with_reducible apply same_ite1
    | split
    | dsimp only
    | with_reducible apply same_out
    | with_reducible apply same_bnd
    | with_reducible apply same_mk

theorem State.putFlit_same (s : State) (p : Nat) (bytes : List Nat) (hkm : Sub 8388640 km) (h0 : Same km ka s) : Same km ka (State.putFlit s p bytes) := by
  unfold State.putFlit
  try dsimp only
  repeat' first
    | with_reducible assumption
    | exact Sub.trans rfl hkm
    | with_reducible exact Or.inr (Sub.trans rfl hkm)
    | with_reducible exact Or.inl rfl
    | intro _
    | with_reducible apply State.sendCodeword_same
    | with_reducible apply same_ite
    | with_reducible apply same_foldl
    | with_reducible apply sameR_next
    | with_reducible apply same_foldl1
    | with_reducible apply same_ite1
    | split
    | dsimp only
    | with_reducible apply same_out
    | with_reducible apply same_bnd
    | with_reducible apply same_mk

theorem State.sendLocal_same (s : State) (p : Nat) (cls : Nat) (payload : List Nat) (hkm : Sub 8388640 km) (h0 : Same km ka s) : Same km ka (State.sendLocal s p cls payload) := by
  unfold State.sendLocal
  try dsimp only
  repeat' first
    | with_reducible assumption
    | exact Sub.trans rfl hkm
    | intro _
    | with_reducible apply State.putFlit_same

end Sys2Proof.Machine
end

