-- ==== Sys2Proof/Laws/SameTime.lean ====
section
/-! SUPPORT. What the operations of Machine/Time.lean keep (Laws/Same.lean). -/
set_option Elab.async false
namespace Sys2Proof.Machine

variable {km : Nat} {ka : State}

theorem State.setCtState_same (s : State) (st : Nat) (hkm : Sub 674 km) (h0 : Same km ka s) : Same km ka (State.setCtState s st) := by
  unfold State.setCtState
  try dsimp only
  repeat' first
    | with_reducible assumption
    | exact Sub.trans rfl hkm
    | intro _
    | with_reducible apply State.f_same
    | with_reducible apply State.raiseHub_same
    | with_reducible apply same_ite
    | with_reducible apply same_foldl
    | with_reducible apply sameR_next
    | with_reducible apply same_foldl1
    | with_reducible apply same_ite1
    | split
    | dsimp only
    | with_reducible apply same_srv

theorem State.stopFab_same (s : State) (hkm : Sub 738 km) (h0 : Same km ka s) : Same km ka (State.stopFab s) := by
  unfold State.stopFab
  try dsimp only
  repeat' first
    | with_reducible assumption
    | exact Sub.trans rfl hkm
    | with_reducible exact Or.inr (Sub.trans rfl hkm)
    | with_reducible exact Or.inl rfl
    | intro _
    | with_reducible apply State.setCtState_same
    | with_reducible apply State.f_same
    | with_reducible apply same_ite
    | with_reducible apply same_foldl
    | with_reducible apply sameR_next
    | with_reducible apply same_foldl1
    | with_reducible apply same_ite1
    | split
    | dsimp only
    | with_reducible apply same_time
    | with_reducible apply same_srv
    | with_reducible apply same_mk

theorem State.setTu_same (s : State) (x : Nat) (u : TuS) (hkm : Sub 256 km) (h0 : Same km ka s) : Same km ka (State.setTu s x u) := by
  unfold State.setTu
  try dsimp only
  repeat' first
    | with_reducible assumption
    | exact Sub.trans rfl hkm
    | intro _
    | with_reducible apply same_ite
    | with_reducible apply same_foldl
    | with_reducible apply sameR_next
    | with_reducible apply same_foldl1
    | with_reducible apply same_ite1
    | split
    | dsimp only
    | with_reducible apply same_tus

theorem State.setCap_same (s : State) (x : Nat) (y : Nat) (qq : List (Nat × Nat)) (hkm : Sub 258 km) (held : Bool) (h0 : Same km ka s) : Same km ka (State.setCap s x y qq held) := by
  unfold State.setCap
  try dsimp only
  repeat' first
    | with_reducible assumption
    | exact Sub.trans rfl hkm
    | intro _
    | with_reducible apply State.setTu_same
    | with_reducible apply State.f_same
    | with_reducible apply State.f64_same

theorem State.capCtlWrite_same (s : State) (x : Nat) (y : Nat) (v : Word) (hkm : Sub 802 km) (h0 : Same km ka s) : Same km ka (State.capCtlWrite s x y v) := by
  unfold State.capCtlWrite
  try dsimp only
  repeat' first
    | with_reducible assumption
    | exact Sub.trans rfl hkm
    | intro _
    | with_reducible apply State.discard_same
    | with_reducible apply State.store_same
    | with_reducible apply State.f_same
    | with_reducible apply State.setCap_same
    | with_reducible apply same_ite

theorem execCaptureClr_same (x : Nat) (y : Nat) (v : Word) (s : State) (hkm : Sub 2850 km) (h0 : Same km ka s) : SameR km ka (execCaptureClr x y v s) := by
  unfold execCaptureClr
  try dsimp only
  repeat' first
    | with_reducible assumption
    | exact Sub.trans rfl hkm
    | intro _
    | with_reducible apply State.barWrite_same
    | with_reducible apply State.capCtlWrite_same
    | with_reducible apply same_ite
    | with_reducible apply same_foldl
    | with_reducible apply sameR_next

theorem State.newReference_same (s : State) (hkm : Sub 130 km) (h0 : Same km ka s) : Same km ka (State.newReference s) := by
  unfold State.newReference
  try dsimp only
  repeat' first
    | with_reducible assumption
    | exact Sub.trans rfl hkm
    | intro _
    | with_reducible apply State.f_same
    | with_reducible apply same_ite
    | with_reducible apply same_foldl
    | with_reducible apply sameR_next
    | with_reducible apply same_foldl1
    | with_reducible apply same_ite1
    | split
    | dsimp only
    | with_reducible apply same_srv

theorem State.enterHoldover_same (s : State) (hkm : Sub 674 km) (h0 : Same km ka s) : Same km ka (State.enterHoldover s) := by
  unfold State.enterHoldover
  try dsimp only
  repeat' first
    | with_reducible assumption
    | exact Sub.trans rfl hkm
    | intro _
    | with_reducible apply State.f64_same
    | with_reducible apply State.setCtState_same
    | with_reducible apply State.f_same
    | with_reducible apply same_ite
    | with_reducible apply same_foldl
    | with_reducible apply sameR_next
    | with_reducible apply same_foldl1
    | with_reducible apply same_ite1
    | split
    | dsimp only
    | with_reducible apply same_srv

theorem State.loseUpstream_same (s : State) (hkm : Sub 674 km) (h0 : Same km ka s) : Same km ka (State.loseUpstream s) := by
  unfold State.loseUpstream
  try dsimp only
  repeat' first
    | with_reducible assumption
    | exact Sub.trans rfl hkm
    | intro _
    | with_reducible apply State.enterHoldover_same
    | with_reducible apply same_ite

theorem execTimeReq_same (p : Nat) (pl : List Nat) (lat : Nat) (s : State) (hkm : Sub 8388642 km) (h0 : Same km ka s) : SameR km ka (execTimeReq p pl lat s) := by
  unfold execTimeReq
  try dsimp only
  repeat' first
    | with_reducible assumption
    | exact Sub.trans rfl hkm
    | intro _
    | with_reducible apply State.inc_same
    | with_reducible apply State.sendLocal_same
    | with_reducible apply same_ite
    | with_reducible apply same_foldl
    | with_reducible apply sameR_next

theorem State.tuTick_same (s : State) (x : Nat) (hkm : Sub 256 km) (h0 : Same km ka s) : Same km ka (State.tuTick s x) := by
  unfold State.tuTick
  try dsimp only
  repeat' first
    | with_reducible assumption
    | exact Sub.trans rfl hkm
    | intro _
    | with_reducible apply State.setTu_same
    | with_reducible apply same_ite

theorem State.clockTicks_same (s : State) (hkm : Sub 256 km) (h0 : Same km ka s) : Same km ka (State.clockTicks s) := by
  unfold State.clockTicks
  try dsimp only
  repeat' first
    | with_reducible assumption
    | exact Sub.trans rfl hkm
    | intro _
    | with_reducible apply State.tuTick_same
    | with_reducible apply same_ite
    | with_reducible apply same_foldl
    | with_reducible apply sameR_next
    | with_reducible apply same_foldl1
    | with_reducible apply same_ite1
    | split

theorem State.tickTime_same (s : State) (hkm : Sub 320 km) (h0 : Same km ka s) : Same km ka (State.tickTime s) := by
  unfold State.tickTime
  try dsimp only
  repeat' first
    | with_reducible assumption
    | exact Sub.trans rfl hkm
    | intro _
    | with_reducible apply State.clockTicks_same
    | with_reducible apply same_ite
    | with_reducible apply same_foldl
    | with_reducible apply sameR_next
    | with_reducible apply same_foldl1
    | with_reducible apply same_ite1
    | split
    | dsimp only
    | with_reducible apply same_time

theorem State.syncUtcWrite_same (s : State) (v : Word) (hkm : Sub 130 km) (h0 : Same km ka s) : Same km ka (State.syncUtcWrite s v) := by
  unfold State.syncUtcWrite
  try dsimp only
  repeat' first
    | with_reducible assumption
    | exact Sub.trans rfl hkm
    | intro _
    | with_reducible apply State.f_same
    | with_reducible apply State.store_same
    | with_reducible apply same_ite
    | with_reducible apply same_foldl
    | with_reducible apply sameR_next
    | with_reducible apply same_foldl1
    | with_reducible apply same_ite1
    | split
    | dsimp only
    | with_reducible apply same_srv

theorem State.tuGo_same (s : State) (x : Nat) (hkm : Sub 258 km) (h0 : Same km ka s) : Same km ka (State.tuGo s x) := by
  unfold State.tuGo
  try dsimp only
  repeat' first
    | with_reducible assumption
    | exact Sub.trans rfl hkm
    | intro _
    | with_reducible apply State.f_same
    | with_reducible apply State.setTu_same

theorem State.tuCtlWrite_same (s : State) (x : Nat) (v : Word) (hkm : Sub 802 km) (h0 : Same km ka s) : Same km ka (State.tuCtlWrite s x v) := by
  unfold State.tuCtlWrite
  try dsimp only
  repeat' first
    | with_reducible assumption
    | exact Sub.trans rfl hkm
    | intro _
    | with_reducible apply State.discard_same
    | with_reducible apply State.store_same
    | with_reducible apply State.f_same
    | with_reducible apply State.tuGo_same
    | with_reducible apply State.setTu_same
    | with_reducible apply same_ite

theorem State.tuStartWrite_same (s : State) (x : Nat) (v : Word) (hkm : Sub 258 km) (h0 : Same km ka s) : Same km ka (State.tuStartWrite s x v) := by
  unfold State.tuStartWrite
  try dsimp only
  repeat' first
    | with_reducible assumption
    | exact Sub.trans rfl hkm
    | intro _
    | with_reducible apply State.store_same
    | with_reducible apply State.setTu_same

theorem State.tuCntWrite_same (s : State) (x : Nat) (v : Word) (hkm : Sub 802 km) (h0 : Same km ka s) : Same km ka (State.tuCntWrite s x v) := by
  unfold State.tuCntWrite
  try dsimp only
  repeat' first
    | with_reducible assumption
    | exact Sub.trans rfl hkm
    | intro _
    | with_reducible apply State.discard_same
    | with_reducible apply State.store_same
    | with_reducible apply State.setTu_same
    | with_reducible apply same_ite

theorem State.setCmp_same (s : State) (x : Nat) (y : Nat) (v : Nat) (hkm : Sub 258 km) (h0 : Same km ka s) : Same km ka (State.setCmp s x y v) := by
  unfold State.setCmp
  try dsimp only
  repeat' first
    | with_reducible assumption
    | exact Sub.trans rfl hkm
    | intro _
    | with_reducible apply State.f64_same
    | with_reducible apply State.setTu_same

theorem State.cmpArm_same (s : State) (x : Nat) (y : Nat) (v : Word) (hkm : Sub 802 km) (h0 : Same km ka s) : Same km ka (State.cmpArm s x y v) := by
  unfold State.cmpArm
  try dsimp only
  repeat' first
    | with_reducible assumption
    | exact Sub.trans rfl hkm
    | intro _
    | with_reducible apply State.discard_same
    | with_reducible apply State.store_same
    | with_reducible apply State.f_same
    | with_reducible apply State.setCmp_same
    | with_reducible apply same_ite

theorem State.capPush_same (s : State) (x : Nat) (y : Nat) (e : Nat × Nat) (hkm : Sub 258 km) (h0 : Same km ka s) : Same km ka (State.capPush s x y e) := by
  unfold State.capPush
  try dsimp only
  repeat' first
    | with_reducible assumption
    | exact Sub.trans rfl hkm
    | intro _
    | with_reducible apply State.setCap_same
    | with_reducible apply State.inc_same
    | with_reducible apply same_ite

theorem State.captureNow_same (s : State) (x : Nat) (y : Nat) (hkm : Sub 1826 km) (h0 : Same km ka s) : Same km ka (State.captureNow s x y) := by
  unfold State.captureNow
  try dsimp only
  repeat' first
    | with_reducible assumption
    | exact Sub.trans rfl hkm
    | intro _
    | with_reducible apply State.capPush_same
    | with_reducible apply State.event_same
    | with_reducible apply State.raiseHub_same
    | with_reducible apply same_ite

theorem State.captureEdge_same (s : State) (src : Nat) (sel : Nat) (fall : Bool) (hkm : Sub 1826 km) (h0 : Same km ka s) : Same km ka (State.captureEdge s src sel fall) := by
  unfold State.captureEdge
  try dsimp only
  repeat' first
    | with_reducible assumption
    | exact Sub.trans rfl hkm
    | intro _
    | with_reducible apply State.captureNow_same
    | with_reducible apply same_ite
    | with_reducible apply same_foldl

theorem State.tickUnits_same (s : State) (src : Nat) (sel : Nat) (fall : Bool) (hkm : Sub 256 km) (h0 : Same km ka s) : Same km ka (State.tickUnits s src sel fall) := by
  unfold State.tickUnits
  try dsimp only
  repeat' first
    | with_reducible assumption
    | exact Sub.trans rfl hkm
    | intro _
    | with_reducible apply State.tuTick_same
    | with_reducible apply same_ite
    | with_reducible apply same_foldl

theorem State.timeBad_same (s : State) (p : Nat) (hkm : Sub 2 km) (h0 : Same km ka s) : Same km ka (State.timeBad s p) := by
  unfold State.timeBad
  try dsimp only
  repeat' first
    | with_reducible assumption
    | exact Sub.trans rfl hkm
    | intro _
    | with_reducible apply State.inc_same

theorem State.lateCompare_same (old : Nat) (new : Nat) (s : State) (k : Nat) (hkm : Sub 2 km) (h0 : Same km ka s) : Same km ka (State.lateCompare old new s k) := by
  unfold State.lateCompare
  try dsimp only
  repeat' first
    | with_reducible assumption
    | exact Sub.trans rfl hkm
    | intro _
    | with_reducible apply State.f_same
    | with_reducible apply same_ite

theorem State.lateStart_same (old : Nat) (new : Nat) (s : State) (x : Nat) (hkm : Sub 2 km) (h0 : Same km ka s) : Same km ka (State.lateStart old new s x) := by
  unfold State.lateStart
  try dsimp only
  repeat' first
    | with_reducible assumption
    | exact Sub.trans rfl hkm
    | intro _
    | with_reducible apply State.f_same
    | with_reducible apply same_ite

theorem State.syncPulse_same (s : State) (t : Nat) (hkm : Sub 128 km) (h0 : Same km ka s) : Same km ka (State.syncPulse s t) := by
  unfold State.syncPulse
  try dsimp only
  repeat' first
    | with_reducible assumption
    | exact Sub.trans rfl hkm
    | intro _
    | with_reducible apply same_ite
    | with_reducible apply same_foldl
    | with_reducible apply sameR_next
    | with_reducible apply same_foldl1
    | with_reducible apply same_ite1
    | split
    | dsimp only
    | with_reducible apply same_srv

theorem State.lateSync_same (s : State) (old : Nat) (hkm : Sub 128 km) (h0 : Same km ka s) : Same km ka (State.lateSync s old) := by
  unfold State.lateSync
  try dsimp only
  repeat' first
    | with_reducible assumption
    | exact Sub.trans rfl hkm
    | intro _
    | with_reducible apply State.syncPulse_same
    | with_reducible apply same_ite

theorem State.trim_same (s : State) (want : Nat) (hkm : Sub 130 km) (h0 : Same km ka s) : Same km ka (State.trim s want) := by
  unfold State.trim
  try dsimp only
  repeat' first
    | with_reducible assumption
    | exact Sub.trans rfl hkm
    | intro _
    | with_reducible apply State.f_same
    | with_reducible apply State.f64_same
    | with_reducible apply same_ite
    | with_reducible apply same_foldl
    | with_reducible apply sameR_next
    | with_reducible apply same_foldl1
    | with_reducible apply same_ite1
    | split
    | dsimp only
    | with_reducible apply same_srv

theorem State.disciplineTrim_same (s : State) (e : Int) (hkm : Sub 130 km) (h0 : Same km ka s) : Same km ka (State.disciplineTrim s e) := by
  unfold State.disciplineTrim
  try dsimp only
  repeat' first
    | with_reducible assumption
    | exact Sub.trans rfl hkm
    | intro _
    | with_reducible apply State.f64_same
    | with_reducible apply same_ite
    | with_reducible apply same_foldl
    | with_reducible apply sameR_next
    | with_reducible apply same_foldl1
    | with_reducible apply same_ite1
    | split
    | dsimp only
    | with_reducible apply same_srv

theorem State.rejectSync_same (s : State) (hkm : Sub 674 km) (h0 : Same km ka s) : Same km ka (State.rejectSync s) := by
  unfold State.rejectSync
  try dsimp only
  repeat' first
    | with_reducible assumption
    | exact Sub.trans rfl hkm
    | intro _
    | with_reducible apply State.inc_same
    | with_reducible apply State.f_same
    | with_reducible apply State.raiseHub_same
    | with_reducible apply same_ite
    | with_reducible apply same_foldl
    | with_reducible apply sameR_next
    | with_reducible apply same_foldl1
    | with_reducible apply same_ite1
    | split
    | dsimp only
    | with_reducible apply same_srv

theorem State.syncEdge_same (s : State) (fall : Bool) (hkm : Sub 1958 km) (h0 : Same km ka s) : Same km ka (State.syncEdge s fall) := by
  unfold State.syncEdge
  try dsimp only
  repeat' first
    | with_reducible assumption
    | exact Sub.trans rfl hkm
    | intro _
    | with_reducible apply State.tickUnits_same
    | with_reducible apply State.captureEdge_same
    | with_reducible apply State.event_same
    | with_reducible apply State.f64_same
    | with_reducible apply State.f_same
    | with_reducible apply State.drew_same
    | with_reducible apply State.disciplineTrim_same
    | with_reducible apply State.rejectSync_same
    | with_reducible apply same_ite
    | with_reducible apply same_foldl
    | with_reducible apply sameR_next
    | with_reducible apply same_foldl1
    | with_reducible apply same_ite1
    | split
    | dsimp only
    | with_reducible apply same_srv

theorem execSyncutcWrite_same (v : Word) (s : State) (hkm : Sub 2722 km) (h0 : Same km ka s) : SameR km ka (execSyncutcWrite v s) := by
  unfold execSyncutcWrite
  try dsimp only
  repeat' first
    | with_reducible assumption
    | exact Sub.trans rfl hkm
    | intro _
    | with_reducible apply State.barWrite_same
    | with_reducible apply State.syncUtcWrite_same
    | with_reducible apply same_ite
    | with_reducible apply same_foldl
    | with_reducible apply sameR_next

theorem execTimerEnable_same (x : Nat) (v : Word) (s : State) (hkm : Sub 2850 km) (h0 : Same km ka s) : SameR km ka (execTimerEnable x v s) := by
  unfold execTimerEnable
  try dsimp only
  repeat' first
    | with_reducible assumption
    | exact Sub.trans rfl hkm
    | intro _
    | with_reducible apply State.barWrite_same
    | with_reducible apply State.tuCtlWrite_same
    | with_reducible apply same_ite
    | with_reducible apply same_foldl
    | with_reducible apply sameR_next

theorem execTimerStartAtCt_same (x : Nat) (s : State) (hkm : Sub 258 km) (h0 : Same km ka s) : SameR km ka (execTimerStartAtCt x s) := by
  unfold execTimerStartAtCt
  try dsimp only
  repeat' first
    | with_reducible assumption
    | exact Sub.trans rfl hkm
    | intro _
    | with_reducible apply State.tuGo_same
    | with_reducible apply same_ite
    | with_reducible apply same_foldl
    | with_reducible apply sameR_next

theorem execTimerCounterWrite_same (x : Nat) (v : Word) (s : State) (hkm : Sub 2850 km) (h0 : Same km ka s) : SameR km ka (execTimerCounterWrite x v s) := by
  unfold execTimerCounterWrite
  try dsimp only
  repeat' first
    | with_reducible assumption
    | exact Sub.trans rfl hkm
    | intro _
    | with_reducible apply State.barWrite_same
    | with_reducible apply State.tuCntWrite_same
    | with_reducible apply same_ite
    | with_reducible apply same_foldl
    | with_reducible apply sameR_next

theorem execCompareArm_same (x : Nat) (y : Nat) (v : Word) (s : State) (hkm : Sub 2850 km) (h0 : Same km ka s) : SameR km ka (execCompareArm x y v s) := by
  unfold execCompareArm
  try dsimp only
  repeat' first
    | with_reducible assumption
    | exact Sub.trans rfl hkm
    | intro _
    | with_reducible apply State.barWrite_same
    | with_reducible apply State.cmpArm_same
    | with_reducible apply same_ite
    | with_reducible apply same_foldl
    | with_reducible apply sameR_next

theorem State.pinAct_same (s : State) (x : Nat) (y : Nat) (act : Nat) (hkm : Sub 256 km) (h0 : Same km ka s) : Same km ka (State.pinAct s x y act) := by
  unfold State.pinAct
  try dsimp only
  repeat' first
    | with_reducible assumption
    | exact Sub.trans rfl hkm
    | intro _
    | with_reducible apply State.setTu_same
    | with_reducible apply same_ite
    | with_reducible apply same_foldl
    | with_reducible apply sameR_next
    | with_reducible apply same_foldl1
    | with_reducible apply same_ite1
    | split

theorem State.cmpNext_same (s : State) (x : Nat) (y : Nat) (hkm : Sub 258 km) (h0 : Same km ka s) : Same km ka (State.cmpNext s x y) := by
  unfold State.cmpNext
  try dsimp only
  repeat' first
    | with_reducible assumption
    | exact Sub.trans rfl hkm
    | intro _
    | with_reducible apply State.f_same
    | with_reducible apply State.setCmp_same
    | with_reducible apply same_ite

theorem execCompareMatch_same (x : Nat) (y : Nat) (s : State) (hkm : Sub 1826 km) (h0 : Same km ka s) : SameR km ka (execCompareMatch x y s) := by
  unfold execCompareMatch
  try dsimp only
  repeat' first
    | with_reducible assumption
    | exact Sub.trans rfl hkm
    | intro _
    | with_reducible apply State.f_same
    | with_reducible apply State.event_same
    | with_reducible apply State.pinAct_same
    | with_reducible apply State.cmpNext_same
    | with_reducible apply State.raiseHub_same
    | with_reducible apply same_ite
    | with_reducible apply same_foldl
    | with_reducible apply sameR_next

theorem execCaptureEntry_same (x : Nat) (fall : Bool) (s : State) (hkm : Sub 1826 km) (h0 : Same km ka s) : SameR km ka (execCaptureEntry x fall s) := by
  unfold execCaptureEntry
  try dsimp only
  repeat' first
    | with_reducible assumption
    | exact Sub.trans rfl hkm
    | intro _
    | with_reducible apply State.captureEdge_same
    | with_reducible apply State.tickUnits_same
    | with_reducible apply same_ite
    | with_reducible apply same_foldl
    | with_reducible apply sameR_next

theorem State.barRead_same (s : State) (e : Nat) (f : Fld) (act : State → State) (hkm : Sub 2602 km) (h0 : Same km ka s) (hfact : ∀ y0, Same km ka y0 → Same km ka (act y0)) : Same km ka (State.barRead s e f act) := by
  unfold State.barRead
  try dsimp only
  repeat' first
    | with_reducible assumption
    | exact Sub.trans rfl hkm
    | intro _
    | with_reducible apply hfact
    | with_reducible apply State.wakeDoze_same
    | with_reducible apply State.readStopped_same
    | with_reducible apply same_ite
    | with_reducible apply same_foldl
    | with_reducible apply sameR_next
    | with_reducible apply same_foldl1
    | with_reducible apply same_ite1
    | split
    | dsimp only
    | with_reducible apply same_rdata

theorem State.capHold_same (s : State) (x : Nat) (y : Nat) (hkm : Sub 258 km) (h0 : Same km ka s) : Same km ka (State.capHold s x y) := by
  unfold State.capHold
  try dsimp only
  repeat' first
    | with_reducible assumption
    | exact Sub.trans rfl hkm
    | intro _
    | with_reducible apply State.setCap_same

theorem execCaptureHeadHold_same (x : Nat) (y : Nat) (s : State) (hkm : Sub 2858 km) (h0 : Same km ka s) : SameR km ka (execCaptureHeadHold x y s) := by
  unfold execCaptureHeadHold
  try dsimp only
  repeat' first
    | with_reducible assumption
    | exact Sub.trans rfl hkm
    | intro _
    | with_reducible apply State.barRead_same
    | with_reducible apply State.capHold_same
    | with_reducible apply same_ite
    | with_reducible apply same_foldl
    | with_reducible apply sameR_next

theorem State.capPop_same (s : State) (x : Nat) (y : Nat) (hkm : Sub 258 km) (h0 : Same km ka s) : Same km ka (State.capPop s x y) := by
  unfold State.capPop
  try dsimp only
  repeat' first
    | with_reducible assumption
    | exact Sub.trans rfl hkm
    | intro _
    | with_reducible apply State.setCap_same

theorem execCapturePop_same (x : Nat) (y : Nat) (s : State) (hkm : Sub 2858 km) (h0 : Same km ka s) : SameR km ka (execCapturePop x y s) := by
  unfold execCapturePop
  try dsimp only
  repeat' first
    | with_reducible assumption
    | exact Sub.trans rfl hkm
    | intro _
    | with_reducible apply State.barRead_same
    | with_reducible apply State.capPop_same
    | with_reducible apply same_ite
    | with_reducible apply same_foldl
    | with_reducible apply sameR_next

theorem execCtCaptureRead_same (s : State) (hkm : Sub 10 km) (h0 : Same km ka s) : SameR km ka (execCtCaptureRead s) := by
  unfold execCtCaptureRead
  try dsimp only
  repeat' first
    | with_reducible assumption
    | exact Sub.trans rfl hkm
    | intro _
    | with_reducible apply State.readStopped_same
    | with_reducible apply State.f64_same
    | with_reducible apply same_ite
    | with_reducible apply same_foldl
    | with_reducible apply sameR_next
    | with_reducible apply same_foldl1
    | with_reducible apply same_ite1
    | split
    | dsimp only
    | with_reducible apply same_rdata

theorem execTimeExchangeStart_same (s : State) (hkm : Sub 8388768 km) (h0 : Same km ka s) : SameR km ka (execTimeExchangeStart s) := by
  unfold execTimeExchangeStart
  try dsimp only
  repeat' first
    | with_reducible assumption
    | exact Sub.trans rfl hkm
    | intro _
    | with_reducible apply State.sendLocal_same
    | with_reducible apply same_ite
    | with_reducible apply same_foldl
    | with_reducible apply sameR_next
    | with_reducible apply same_foldl1
    | with_reducible apply same_ite1
    | split
    | dsimp only
    | with_reducible apply same_srv

theorem execTimeRespTimeout_same (s : State) (hkm : Sub 130 km) (h0 : Same km ka s) : SameR km ka (execTimeRespTimeout s) := by
  unfold execTimeRespTimeout
  try dsimp only
  repeat' first
    | with_reducible assumption
    | exact Sub.trans rfl hkm
    | intro _
    | with_reducible apply State.timeBad_same
    | with_reducible apply same_ite
    | with_reducible apply same_foldl
    | with_reducible apply sameR_next
    | with_reducible apply same_foldl1
    | with_reducible apply same_ite1
    | split
    | dsimp only
    | with_reducible apply same_srv

theorem execHoldcntExpiry_same (s : State) (hkm : Sub 674 km) (h0 : Same km ka s) : SameR km ka (execHoldcntExpiry s) := by
  unfold execHoldcntExpiry
  try dsimp only
  repeat' first
    | with_reducible assumption
    | exact Sub.trans rfl hkm
    | intro _
    | with_reducible apply State.loseUpstream_same
    | with_reducible apply same_ite
    | with_reducible apply same_foldl
    | with_reducible apply sameR_next

theorem execSyncEdgeTimeout_same (s : State) (hkm : Sub 674 km) (h0 : Same km ka s) : SameR km ka (execSyncEdgeTimeout s) := by
  unfold execSyncEdgeTimeout
  try dsimp only
  repeat' first
    | with_reducible assumption
    | exact Sub.trans rfl hkm
    | intro _
    | with_reducible apply State.rejectSync_same
    | with_reducible apply same_ite
    | with_reducible apply same_foldl
    | with_reducible apply sameR_next
    | with_reducible apply same_foldl1
    | with_reducible apply same_ite1
    | split

theorem execDiscHoldExpiry_same (s : State) (hkm : Sub 2 km) (h0 : Same km ka s) : SameR km ka (execDiscHoldExpiry s) := by
  unfold execDiscHoldExpiry
  try dsimp only
  repeat' first
    | with_reducible assumption
    | exact Sub.trans rfl hkm
    | intro _
    | with_reducible apply State.f_same
    | with_reducible apply same_ite
    | with_reducible apply same_foldl
    | with_reducible apply sameR_next

theorem execSyncOutputPulse_same (s : State) (hkm : Sub 128 km) (h0 : Same km ka s) : SameR km ka (execSyncOutputPulse s) := by
  unfold execSyncOutputPulse
  try dsimp only
  repeat' first
    | with_reducible assumption
    | exact Sub.trans rfl hkm
    | intro _
    | with_reducible apply State.syncPulse_same
    | with_reducible apply same_ite
    | with_reducible apply same_foldl
    | with_reducible apply sameR_next

theorem execSyncPulseEnd_same (s : State) (hkm : Sub 128 km) (h0 : Same km ka s) : SameR km ka (execSyncPulseEnd s) := by
  unfold execSyncPulseEnd
  try dsimp only
  repeat' first
    | with_reducible assumption
    | exact Sub.trans rfl hkm
    | intro _
    | with_reducible apply same_ite
    | with_reducible apply same_foldl
    | with_reducible apply sameR_next
    | with_reducible apply same_foldl1
    | with_reducible apply same_ite1
    | split
    | dsimp only
    | with_reducible apply same_srv

theorem State.resetTimers_same (s : State) (hkm : Sub 258 km) (h0 : Same km ka s) : Same km ka (State.resetTimers s) := by
  unfold State.resetTimers
  try dsimp only
  repeat' first
    | with_reducible assumption
    | exact Sub.trans rfl hkm
    | intro _
    | with_reducible apply State.resetRegs_same
    | with_reducible apply same_ite
    | with_reducible apply same_foldl
    | with_reducible apply sameR_next
    | with_reducible apply same_foldl1
    | with_reducible apply same_ite1
    | split
    | dsimp only
    | with_reducible apply same_tus

theorem State.startFab_same (s : State) (hkm : Sub 738 km) (h0 : Same km ka s) : Same km ka (State.startFab s) := by
  unfold State.startFab
  try dsimp only
  repeat' first
    | with_reducible assumption
    | exact Sub.trans rfl hkm
    | intro _
    | with_reducible apply State.setCtState_same
    | with_reducible apply same_ite
    | with_reducible apply same_foldl
    | with_reducible apply sameR_next
    | with_reducible apply same_foldl1
    | with_reducible apply same_ite1
    | split
    | dsimp only
    | with_reducible apply same_time

end Sys2Proof.Machine
end

