-- ==== Sys2Proof/Laws/SameBond.lean ====
section
/-! SUPPORT. What the operations of Machine/Bond.lean keep (Laws/Same.lean). -/
set_option Elab.async false
namespace Sys2Proof.Machine

variable {km : Nat} {ka : State}

theorem State.noteSent_same (s : State) (m : SentS) (hkm : Sub 8388608 km) (h0 : Same km ka s) : Same km ka (State.noteSent s m) := by
  unfold State.noteSent
  try dsimp only
  repeat' first
    | with_reducible assumption
    | exact Sub.trans rfl hkm
    | intro _
    | with_reducible apply same_ite
    | with_reducible apply same_foldl
    | with_reducible apply sameR_next
    | with_reducible apply same_foldl1
    | with_reducible apply same_ite1
    | split
    | dsimp only
    | with_reducible apply same_bnd

theorem State.emitFlit_same (s : State) (p : Nat) (sq : Nat) (f : FlitS) (hkm : Sub 8388640 km) (h0 : Same km ka s) : Same km ka (State.emitFlit s p sq f) := by
  unfold State.emitFlit
  try dsimp only
  repeat' first
    | with_reducible assumption
    | exact Sub.trans rfl hkm
    | intro _
    | with_reducible apply State.putFlit_same

theorem State.setPort_same (s : State) (p : Nat) (qq : PortS) (hkm : Sub 8388610 km) (h0 : Same km ka s) : Same km ka (State.setPort s p qq) := by
  unfold State.setPort
  try dsimp only
  repeat' first
    | with_reducible assumption
    | exact Sub.trans rfl hkm
    | intro _
    | with_reducible apply State.f_same
    | with_reducible apply same_ite
    | with_reducible apply same_foldl
    | with_reducible apply sameR_next
    | with_reducible apply same_foldl1
    | with_reducible apply same_ite1
    | split
    | dsimp only
    | with_reducible apply same_bnd

theorem State.freeAt_same (s : State) (p : Nat) (vc : Nat) (n : Nat) (hkm : Sub 8388610 km) (h0 : Same km ka s) : Same km ka (State.freeAt s p vc n) := by
  unfold State.freeAt
  try dsimp only
  repeat' first
    | with_reducible assumption
    | exact Sub.trans rfl hkm
    | intro _
    | with_reducible apply State.setPort_same

theorem State.takeMsg_same {s t : State} {cls ty : Nat} {m : MsgS} (hkm : Sub 8388610 km) (h : Same km ka s) (e : s.takeMsg cls ty = some (m, t)) : Same km ka t := by
  unfold State.takeMsg at e
  split at e
  · cases e
  · dsimp only at e
    repeat' split at e
    all_goals first
      | (simp only [Option.some.injEq, Prod.mk.injEq] at e
         obtain ⟨rfl, rfl⟩ := e
         exact State.freeAt_same _ _ _ _ (Sub.trans rfl hkm) (same_bnd (Sub.trans rfl hkm) h))
      | cases e


theorem State.sendFirst_same (s : State) (p : Nat) (vc : Nat) (hkm : Sub 8388642 km) (h0 : Same km ka s) : Same km ka (State.sendFirst s p vc) := by
  unfold State.sendFirst
  try dsimp only
  repeat' first
    | with_reducible assumption
    | exact Sub.trans rfl hkm
    | intro _
    | with_reducible apply State.inc_same
    | with_reducible apply State.emitFlit_same
    | with_reducible apply State.setPort_same
    | with_reducible apply State.freeAt_same
    | with_reducible apply same_ite
    | with_reducible apply same_foldl
    | with_reducible apply sameR_next
    | with_reducible apply same_foldl1
    | with_reducible apply same_ite1
    | split

theorem State.pumpN_same (p : Nat) (v1 : Nat) (v2 : State) (hkm : Sub 8388642 km) (h0 : Same km ka v2) : Same km ka (State.pumpN p v1 v2) := by
  induction v1 generalizing v2 with
  | zero => exact h0
  | succ n ih =>
    unfold State.pumpN
    try dsimp only
    repeat' first
      | with_reducible assumption
      | exact Sub.trans rfl hkm
      | with_reducible apply ih
      | intro _
      | with_reducible apply State.sendFirst_same
      | with_reducible apply same_ite
      | with_reducible apply same_foldl
      | with_reducible apply sameR_next
      | with_reducible apply same_foldl1
      | with_reducible apply same_ite1
      | split

theorem State.countStall_same (p : Nat) (s : State) (vc : Nat) (hkm : Sub 8388610 km) (h0 : Same km ka s) : Same km ka (State.countStall p s vc) := by
  unfold State.countStall
  try dsimp only
  repeat' first
    | with_reducible assumption
    | exact Sub.trans rfl hkm
    | intro _
    | with_reducible apply State.inc_same
    | with_reducible apply State.setPort_same
    | with_reducible apply same_ite

theorem State.pump_same (s : State) (p : Nat) (hkm : Sub 8388642 km) (h0 : Same km ka s) : Same km ka (State.pump s p) := by
  unfold State.pump
  try dsimp only
  repeat' first
    | with_reducible assumption
    | exact Sub.trans rfl hkm
    | intro _
    | with_reducible apply State.pumpN_same
    | with_reducible apply State.countStall_same
    | with_reducible apply same_ite
    | with_reducible apply same_foldl

theorem State.queueFlits_same (s : State) (p : Nat) (l : List FlitS) (hkm : Sub 8388642 km) (h0 : Same km ka s) : Same km ka (State.queueFlits s p l) := by
  unfold State.queueFlits
  try dsimp only
  repeat' first
    | with_reducible assumption
    | exact Sub.trans rfl hkm
    | intro _
    | with_reducible apply State.pump_same
    | with_reducible apply State.setPort_same
    | with_reducible apply same_ite
    | with_reducible apply same_foldl
    | with_reducible apply sameR_next
    | with_reducible apply same_foldl1
    | with_reducible apply same_ite1
    | split

theorem State.sendMsg_same (s : State) (cls : Nat) (ty : Nat) (dst : Nat) (body : List Nat) (hkm : Sub 8388642 km) (h0 : Same km ka s) : Same km ka (State.sendMsg s cls ty dst body) := by
  unfold State.sendMsg
  try dsimp only
  repeat' first
    | with_reducible assumption
    | exact Sub.trans rfl hkm
    | intro _
    | with_reducible apply State.noteSent_same
    | with_reducible apply State.queueFlits_same
    | with_reducible apply same_ite
    | with_reducible apply same_foldl
    | with_reducible apply sameR_next
    | with_reducible apply same_foldl1
    | with_reducible apply same_ite1
    | split

theorem State.fillCode_same (s : State) (p : Nat) (hkm : Sub 8388640 km) (h0 : Same km ka s) : Same km ka (State.fillCode s p) := by
  unfold State.fillCode
  try dsimp only
  repeat' first
    | with_reducible assumption
    | exact Sub.trans rfl hkm
    | intro _
    | with_reducible apply times_same
    | with_reducible apply State.sendLocal_same
    | with_reducible apply same_ite

theorem State.dropSession_same (s : State) (p : Nat) (hkm : Sub 12582914 km) (h0 : Same km ka s) : Same km ka (State.dropSession s p) := by
  unfold State.dropSession
  try dsimp only
  repeat' first
    | with_reducible assumption
    | exact Sub.trans rfl hkm
    | intro _
    | with_reducible apply State.freeAt_same
    | with_reducible apply State.setPort_same
    | with_reducible apply same_ite
    | with_reducible apply same_foldl
    | with_reducible apply sameR_next
    | with_reducible apply same_foldl1
    | with_reducible apply same_ite1
    | split
    | dsimp only
    | with_reducible apply same_rng

theorem State.closeSession_same (s : State) (p : Nat) (hkm : Sub 12582946 km) (h0 : Same km ka s) : Same km ka (State.closeSession s p) := by
  unfold State.closeSession
  try dsimp only
  repeat' first
    | with_reducible assumption
    | exact Sub.trans rfl hkm
    | intro _
    | with_reducible apply State.sendLocal_same
    | with_reducible apply State.dropSession_same
    | with_reducible apply same_ite

theorem State.portOff_same (s : State) (p : Nat) (hkm : Sub 12582946 km) (h0 : Same km ka s) : Same km ka (State.portOff s p) := by
  unfold State.portOff
  try dsimp only
  repeat' first
    | with_reducible assumption
    | exact Sub.trans rfl hkm
    | intro _
    | with_reducible apply State.fillCode_same
    | with_reducible apply State.closeSession_same
    | with_reducible apply State.setPort_same
    | with_reducible apply State.f_same
    | with_reducible apply State.zero_same

theorem State.sendReject_same (s : State) (dst : Nat) (status : Nat) (rclass : Nat) (rtype : Nat) (ref : Nat) (hkm : Sub 8388642 km) (h0 : Same km ka s) : Same km ka (State.sendReject s dst status rclass rtype ref) := by
  unfold State.sendReject
  try dsimp only
  repeat' first
    | with_reducible assumption
    | exact Sub.trans rfl hkm
    | intro _
    | with_reducible apply State.sendMsg_same
    | with_reducible apply State.inc_same
    | with_reducible apply same_ite
    | with_reducible apply same_foldl
    | with_reducible apply sameR_next
    | with_reducible apply same_foldl1
    | with_reducible apply same_ite1
    | split

theorem State.deliver_same (s : State) (p : Nat) (m : PartS) (hkm : Sub 8388642 km) (h0 : Same km ka s) : Same km ka (State.deliver s p m) := by
  unfold State.deliver
  try dsimp only
  repeat' first
    | with_reducible assumption
    | exact Sub.trans rfl hkm
    | intro _
    | with_reducible apply State.freeAt_same
    | with_reducible apply State.inc_same
    | with_reducible apply State.sendReject_same
    | with_reducible apply same_ite
    | with_reducible apply same_foldl
    | with_reducible apply sameR_next
    | with_reducible apply same_foldl1
    | with_reducible apply same_ite1
    | split
    | dsimp only
    | with_reducible apply same_bnd

theorem State.frame_same (s : State) (p : Nat) (f : FlitS) (noPath : Bool) (hkm : Sub 8388642 km) (h0 : Same km ka s) : Same km ka (State.frame s p f noPath) := by
  unfold State.frame
  try dsimp only
  repeat' first
    | with_reducible assumption
    | exact Sub.trans rfl hkm
    | intro _
    | with_reducible apply State.freeAt_same
    | with_reducible apply State.setPort_same
    | with_reducible apply State.inc_same
    | with_reducible apply State.sendReject_same
    | with_reducible apply State.deliver_same
    | with_reducible apply same_ite
    | with_reducible apply same_foldl
    | with_reducible apply sameR_next
    | with_reducible apply same_foldl1
    | with_reducible apply same_ite1
    | split

theorem State.trainFrom1_same (s : State) (p : Nat) (hkm : Sub 8388610 km) (h0 : Same km ka s) : Same km ka (State.trainFrom1 s p) := by
  unfold State.trainFrom1
  try dsimp only
  repeat' first
    | with_reducible assumption
    | exact Sub.trans rfl hkm
    | intro _
    | with_reducible apply State.setPort_same
    | with_reducible apply State.f_same

theorem State.sendElect_same (s : State) (p : Nat) (ty : Nat) (round : Nat) (body : List Nat) (hkm : Sub 8388642 km) (h0 : Same km ka s) : Same km ka (State.sendElect s p ty round body) := by
  unfold State.sendElect
  try dsimp only
  repeat' first
    | with_reducible assumption
    | exact Sub.trans rfl hkm
    | intro _
    | with_reducible apply State.queueFlits_same
    | with_reducible apply same_ite

theorem State.takeAck_same (s : State) (p : Nat) (pl : List Nat) (hkm : Sub 8388642 km) (h0 : Same km ka s) : Same km ka (State.takeAck s p pl) := by
  unfold State.takeAck
  try dsimp only
  repeat' first
    | with_reducible assumption
    | exact Sub.trans rfl hkm
    | intro _
    | with_reducible apply State.pump_same
    | with_reducible apply State.setPort_same

theorem State.resendFrom_same (s : State) (p : Nat) (n : Nat) (hkm : Sub 8388640 km) (h0 : Same km ka s) : Same km ka (State.resendFrom s p n) := by
  unfold State.resendFrom
  try dsimp only
  repeat' first
    | with_reducible assumption
    | exact Sub.trans rfl hkm
    | intro _
    | with_reducible apply State.emitFlit_same
    | with_reducible apply same_ite
    | with_reducible apply same_foldl
    | with_reducible apply sameR_next
    | with_reducible apply same_foldl1
    | with_reducible apply same_ite1
    | split

theorem State.resendFresh_same (s : State) (p : Nat) (hkm : Sub 8388642 km) (h0 : Same km ka s) : Same km ka (State.resendFresh s p) := by
  unfold State.resendFresh
  try dsimp only
  repeat' first
    | with_reducible assumption
    | exact Sub.trans rfl hkm
    | intro _
    | with_reducible apply State.resendFrom_same
    | with_reducible apply State.setPort_same

theorem State.portOn_same (s : State) (p : Nat) (hkm : Sub 8388610 km) (h0 : Same km ka s) : Same km ka (State.portOn s p) := by
  unfold State.portOn
  try dsimp only
  repeat' first
    | with_reducible assumption
    | exact Sub.trans rfl hkm
    | intro _
    | with_reducible apply State.trainFrom1_same
    | with_reducible apply State.f_same
    | with_reducible apply same_ite

theorem State.sendHello_same (s : State) (p : Nat) (hkm : Sub 8388642 km) (h0 : Same km ka s) : Same km ka (State.sendHello s p) := by
  unfold State.sendHello
  try dsimp only
  repeat' first
    | with_reducible assumption
    | exact Sub.trans rfl hkm
    | intro _
    | with_reducible apply State.sendLocal_same
    | with_reducible apply State.setPort_same

theorem State.startHello_same (s : State) (p : Nat) (hkm : Sub 12582946 km) (h0 : Same km ka s) : Same km ka (State.startHello s p) := by
  unfold State.startHello
  try dsimp only
  repeat' first
    | with_reducible assumption
    | exact Sub.trans rfl hkm
    | intro _
    | with_reducible apply State.dropSession_same
    | with_reducible apply State.setPort_same
    | with_reducible apply State.sendHello_same
    | with_reducible apply State.f_same

theorem State.linkDown_same (s : State) (p : Nat) (hkm : Sub 25166498 km) (h0 : Same km ka s) : Same km ka (State.linkDown s p) := by
  unfold State.linkDown
  try dsimp only
  repeat' first
    | with_reducible assumption
    | exact Sub.trans rfl hkm
    | intro _
    | with_reducible apply State.inc_same
    | with_reducible apply State.f_same
    | with_reducible apply State.setPort_same
    | with_reducible apply State.trainFrom1_same
    | with_reducible apply State.loseUpstream_same
    | with_reducible apply State.raiseHub_same
    | with_reducible apply same_ite
    | with_reducible apply same_foldl
    | with_reducible apply sameR_next
    | with_reducible apply same_foldl1
    | with_reducible apply same_ite1
    | split
    | dsimp only
    | with_reducible apply same_rol

theorem State.sendNak_same (s : State) (p : Nat) (hkm : Sub 8388642 km) (h0 : Same km ka s) : Same km ka (State.sendNak s p) := by
  unfold State.sendNak
  try dsimp only
  repeat' first
    | with_reducible assumption
    | exact Sub.trans rfl hkm
    | intro _
    | with_reducible apply State.sendLocal_same
    | with_reducible apply State.setPort_same

theorem State.sendStatus_same (s : State) (p : Nat) (hkm : Sub 8388642 km) (h0 : Same km ka s) : Same km ka (State.sendStatus s p) := by
  unfold State.sendStatus
  try dsimp only
  repeat' first
    | with_reducible assumption
    | exact Sub.trans rfl hkm
    | intro _
    | with_reducible apply State.sendLocal_same
    | with_reducible apply State.setPort_same

theorem State.acceptFlit_same (s : State) (p : Nat) (f : FlitS) (hkm : Sub 8388642 km) (h0 : Same km ka s) : Same km ka (State.acceptFlit s p f) := by
  unfold State.acceptFlit
  try dsimp only
  repeat' first
    | with_reducible assumption
    | exact Sub.trans rfl hkm
    | intro _
    | with_reducible apply State.inc_same
    | with_reducible apply State.setPort_same
    | with_reducible apply State.frame_same
    | with_reducible apply State.queueFlits_same
    | with_reducible apply State.sendStatus_same
    | with_reducible apply same_ite
    | with_reducible apply same_foldl
    | with_reducible apply sameR_next
    | with_reducible apply same_foldl1
    | with_reducible apply same_ite1
    | split

theorem State.replay_same (s : State) (p : Nat) (n : Nat) (hkm : Sub 8388642 km) (h0 : Same km ka s) : Same km ka (State.replay s p n) := by
  unfold State.replay
  try dsimp only
  repeat' first
    | with_reducible assumption
    | exact Sub.trans rfl hkm
    | intro _
    | with_reducible apply State.inc_same
    | with_reducible apply State.resendFrom_same
    | with_reducible apply State.setPort_same

theorem State.recheckInbox_same (s : State) (hkm : Sub 8388642 km) (h0 : Same km ka s) : Same km ka (State.recheckInbox s) := by
  unfold State.recheckInbox
  try dsimp only
  repeat' first
    | with_reducible assumption
    | exact Sub.trans rfl hkm
    | intro _
    | with_reducible apply State.freeAt_same
    | with_reducible apply State.sendReject_same
    | with_reducible apply same_ite
    | with_reducible apply same_foldl
    | with_reducible apply sameR_next
    | with_reducible apply same_foldl1
    | with_reducible apply same_ite1
    | split
    | dsimp only
    | with_reducible apply same_bnd

end Sys2Proof.Machine
end

