-- ==== Sys2Proof/Laws/SameElect.lean ====
section
/-! SUPPORT. What the operations of Machine/Elect.lean keep (Laws/Same.lean). -/
set_option Elab.async false
namespace Sys2Proof.Machine

variable {km : Nat} {ka : State}

theorem State.noteIso_same (s : State) (hkm : Sub 2048 km) (h0 : Same km ka s) : Same km ka (State.noteIso s) := by
  unfold State.noteIso
  try dsimp only
  repeat' first
    | with_reducible assumption
    | exact Sub.trans rfl hkm
    | intro _
    | with_reducible apply same_ite
    | with_reducible apply same_foldl
    | with_reducible apply sameR_next
    | with_reducible apply same_foldl1
    | with_reducible apply same_ite1
    | split
    | dsimp only
    | with_reducible apply same_sys

theorem State.enterRound_same (s : State) (n : Nat) (hkm : Sub 25165858 km) (h0 : Same km ka s) : Same km ka (State.enterRound s n) := by
  unfold State.enterRound
  try dsimp only
  repeat' first
    | with_reducible assumption
    | exact Sub.trans rfl hkm
    | intro _
    | with_reducible apply State.f_same
    | with_reducible apply State.sendElect_same
    | with_reducible apply same_ite
    | with_reducible apply same_foldl
    | with_reducible apply sameR_next
    | with_reducible apply same_foldl1
    | with_reducible apply same_ite1
    | split
    | dsimp only
    | with_reducible apply same_rol

theorem State.showCapable_same (s : State) (hkm : Sub 2 km) (h0 : Same km ka s) : Same km ka (State.showCapable s) := by
  unfold State.showCapable
  try dsimp only
  repeat' first
    | with_reducible assumption
    | exact Sub.trans rfl hkm
    | intro _
    | with_reducible apply State.f_same

theorem State.startRound_same (s : State) (hkm : Sub 25165858 km) (h0 : Same km ka s) : Same km ka (State.startRound s) := by
  unfold State.startRound
  try dsimp only
  repeat' first
    | with_reducible assumption
    | exact Sub.trans rfl hkm
    | intro _
    | with_reducible apply State.enterRound_same

end Sys2Proof.Machine
end

