-- ==== Sys2Proof/Laws/SameTenant.lean ====
section
/-! SUPPORT. What the operations of Machine/Tenant.lean keep (Laws/Same.lean). -/
set_option Elab.async false
namespace Sys2Proof.Machine

variable {km : Nat} {ka : State}

theorem State.tenSts_same (s : State) (hkm : Sub 2 km) (h0 : Same km ka s) : Same km ka (State.tenSts s) := by
  unfold State.tenSts
  try dsimp only
  repeat' first
    | with_reducible assumption
    | exact Sub.trans rfl hkm
    | intro _
    | with_reducible apply State.f_same

theorem State.setCtx_same (s : State) (t : Nat) (c : CtxS) (hkm : Sub 2097154 km) (h0 : Same km ka s) : Same km ka (State.setCtx s t c) := by
  unfold State.setCtx
  try dsimp only
  repeat' first
    | with_reducible assumption
    | exact Sub.trans rfl hkm
    | intro _
    | with_reducible apply State.tenSts_same
    | with_reducible apply same_ite
    | with_reducible apply same_foldl
    | with_reducible apply sameR_next
    | with_reducible apply same_foldl1
    | with_reducible apply same_ite1
    | split
    | dsimp only
    | with_reducible apply same_ten

theorem State.quotaRefuse_same (s : State) (hkm : Sub 2 km) (h0 : Same km ka s) : Same km ka (State.quotaRefuse s) := by
  unfold State.quotaRefuse
  try dsimp only
  repeat' first
    | with_reducible assumption
    | exact Sub.trans rfl hkm
    | intro _
    | with_reducible apply State.inc_same

theorem State.setOwner_same (s : State) (e : Nat) (uid : Nat) (hkm : Sub 2097152 km) (h0 : Same km ka s) : Same km ka (State.setOwner s e uid) := by
  unfold State.setOwner
  try dsimp only
  repeat' first
    | with_reducible assumption
    | exact Sub.trans rfl hkm
    | intro _
    | with_reducible apply same_ite
    | with_reducible apply same_foldl
    | with_reducible apply sameR_next
    | with_reducible apply same_foldl1
    | with_reducible apply same_ite1
    | split
    | dsimp only
    | with_reducible apply same_ten

theorem State.setLeases_same (s : State) (l : List LeaseS) (hkm : Sub 2097154 km) (h0 : Same km ka s) : Same km ka (State.setLeases s l) := by
  unfold State.setLeases
  try dsimp only
  repeat' first
    | with_reducible assumption
    | exact Sub.trans rfl hkm
    | intro _
    | with_reducible apply State.tenSts_same
    | with_reducible apply same_ite
    | with_reducible apply same_foldl
    | with_reducible apply sameR_next
    | with_reducible apply same_foldl1
    | with_reducible apply same_ite1
    | split
    | dsimp only
    | with_reducible apply same_ten

end Sys2Proof.Machine
end

