-- ==== Sys2Proof/Laws/SameRecord.lean ====
section
/-! SUPPORT. What the operations of Machine/Record.lean keep (Laws/Same.lean). -/
set_option Elab.async false
namespace Sys2Proof.Machine

variable {km : Nat} {ka : State}

theorem State.watchDrop_same (s : State) (hkm : Sub 4194306 km) (h0 : Same km ka s) : Same km ka (State.watchDrop s) := by
  unfold State.watchDrop
  try dsimp only
  repeat' first
    | with_reducible assumption
    | exact Sub.trans rfl hkm
    | intro _
    | with_reducible apply State.inc_same
    | with_reducible apply same_ite
    | with_reducible apply same_foldl
    | with_reducible apply sameR_next
    | with_reducible apply same_foldl1
    | with_reducible apply same_ite1
    | split
    | dsimp only
    | with_reducible apply same_rng

theorem State.watchRoom_same (n : Nat) (v1 : Nat) (v2 : State) (hkm : Sub 4194306 km) (h0 : Same km ka v2) : Same km ka (State.watchRoom n v1 v2) := by
  induction v1 generalizing v2 with
  | zero => exact h0
  | succ n ih =>
    unfold State.watchRoom
    try dsimp only
    repeat' first
      | with_reducible assumption
      | exact Sub.trans rfl hkm
      | with_reducible apply ih
      | intro _
      | with_reducible apply State.watchDrop_same
      | with_reducible apply same_ite

theorem State.watchPush_same (s : State) (w : WatchS) (hkm : Sub 4194306 km) (h0 : Same km ka s) : Same km ka (State.watchPush s w) := by
  unfold State.watchPush
  try dsimp only
  repeat' first
    | with_reducible assumption
    | exact Sub.trans rfl hkm
    | intro _
    | with_reducible apply State.watchRoom_same
    | with_reducible apply same_ite
    | with_reducible apply same_foldl
    | with_reducible apply sameR_next
    | with_reducible apply same_foldl1
    | with_reducible apply same_ite1
    | split
    | dsimp only
    | with_reducible apply same_rng

theorem State.setTr_same (s : State) (t : Nat) (r : TRingS) (hkm : Sub 4194304 km) (h0 : Same km ka s) : Same km ka (State.setTr s t r) := by
  unfold State.setTr
  try dsimp only
  repeat' first
    | with_reducible assumption
    | exact Sub.trans rfl hkm
    | intro _
    | with_reducible apply same_ite
    | with_reducible apply same_foldl
    | with_reducible apply sameR_next
    | with_reducible apply same_foldl1
    | with_reducible apply same_ite1
    | split
    | dsimp only
    | with_reducible apply same_rng

theorem State.setCr_same (s : State) (t : Nat) (r : Nat) (c : CRingS) (hkm : Sub 4194304 km) (h0 : Same km ka s) : Same km ka (State.setCr s t r c) := by
  unfold State.setCr
  try dsimp only
  repeat' first
    | with_reducible assumption
    | exact Sub.trans rfl hkm
    | intro _
    | with_reducible apply State.setTr_same

theorem State.queueEv_same (s : State) (t : Nat) (e : EvRecS) (hkm : Sub 4194306 km) (h0 : Same km ka s) : Same km ka (State.queueEv s t e) := by
  unfold State.queueEv
  try dsimp only
  repeat' first
    | with_reducible assumption
    | exact Sub.trans rfl hkm
    | intro _
    | with_reducible apply State.setTr_same
    | with_reducible apply State.inc_same
    | with_reducible apply same_ite

theorem State.sendEv_same (s : State) (uid : Nat) (hkm : Sub 8388642 km) (home : Nat) (e : EvRecS) (h0 : Same km ka s) : Same km ka (State.sendEv s uid home e) := by
  unfold State.sendEv
  try dsimp only
  repeat' first
    | with_reducible assumption
    | exact Sub.trans rfl hkm
    | intro _
    | with_reducible apply State.sendMsg_same

theorem State.routeEv_same (s : State) (uid : Nat) (hkm : Sub 12582946 km) (home : Nat) (e : EvRecS) (h0 : Same km ka s) : Same km ka (State.routeEv s uid home e) := by
  unfold State.routeEv
  try dsimp only
  repeat' first
    | with_reducible assumption
    | exact Sub.trans rfl hkm
    | intro _
    | with_reducible apply State.watchPush_same
    | with_reducible apply State.queueEv_same
    | with_reducible apply State.sendEv_same
    | with_reducible apply same_ite
    | with_reducible apply same_foldl
    | with_reducible apply sameR_next
    | with_reducible apply same_foldl1
    | with_reducible apply same_ite1
    | split
    | dsimp only
    | with_reducible apply same_rng

theorem State.recordNode_same (s : State) (e : EvRecS) (hkm : Sub 12582946 km) (h0 : Same km ka s) : Same km ka (State.recordNode s e) := by
  unfold State.recordNode
  try dsimp only
  repeat' first
    | with_reducible assumption
    | exact Sub.trans rfl hkm
    | intro _
    | with_reducible apply State.routeEv_same
    | with_reducible apply same_ite

theorem State.ringLevel_same (s : State) (t : Nat) (k : Nat) (arr : Bool) (hkm : Sub 546 km) (h0 : Same km ka s) : Same km ka (State.ringLevel s t k arr) := by
  unfold State.ringLevel
  try dsimp only
  repeat' first
    | with_reducible assumption
    | exact Sub.trans rfl hkm
    | intro _
    | with_reducible apply State.tenantSource_same

theorem State.record_same (s : State) (t : Nat) (e : EvRecS) (hkm : Sub 12582946 km) (h0 : Same km ka s) : Same km ka (State.record s t e) := by
  unfold State.record
  try dsimp only
  repeat' first
    | with_reducible assumption
    | exact Sub.trans rfl hkm
    | intro _
    | with_reducible apply State.routeEv_same

theorem State.flushEvHeld_same (s : State) (hkm : Sub 12582946 km) (h0 : Same km ka s) : Same km ka (State.flushEvHeld s) := by
  unfold State.flushEvHeld
  try dsimp only
  repeat' first
    | with_reducible assumption
    | exact Sub.trans rfl hkm
    | intro _
    | with_reducible apply State.routeEv_same
    | with_reducible apply same_ite
    | with_reducible apply same_foldl
    | with_reducible apply sameR_next
    | with_reducible apply same_foldl1
    | with_reducible apply same_ite1
    | split
    | dsimp only
    | with_reducible apply same_rng

theorem State.hubLasting_same (s : State) (status : Nat) (hkm : Sub 12582946 km) (h0 : Same km ka s) : Same km ka (State.hubLasting s status) := by
  unfold State.hubLasting
  try dsimp only
  repeat' first
    | with_reducible assumption
    | exact Sub.trans rfl hkm
    | intro _
    | with_reducible apply State.routeEv_same
    | with_reducible apply State.f_same

theorem State.ringRecord_same (s : State) (t : Nat) (code : Nat) (ring : Nat) (status : Nat) (slot : Nat) (hkm : Sub 4194306 km) (h0 : Same km ka s) : Same km ka (State.ringRecord s t code ring status slot) := by
  unfold State.ringRecord
  try dsimp only
  repeat' first
    | with_reducible assumption
    | exact Sub.trans rfl hkm
    | intro _
    | with_reducible apply State.queueEv_same

theorem State.recordHosts_same (s : State) (e : EvRecS) (hkm : Sub 12582946 km) (h0 : Same km ka s) : Same km ka (State.recordHosts s e) := by
  unfold State.recordHosts
  try dsimp only
  repeat' first
    | with_reducible assumption
    | exact Sub.trans rfl hkm
    | intro _
    | with_reducible apply State.routeEv_same
    | with_reducible apply same_ite
    | with_reducible apply same_foldl

end Sys2Proof.Machine
end

