-- ==== Sys2Proof/Laws/SameCask.lean ====
section
/-! SUPPORT. What the operations of Machine/Cask.lean keep (Laws/Same.lean). -/
set_option Elab.async false
namespace Sys2Proof.Machine

variable {km : Nat} {ka : State}

theorem State.modStream_same (s : State) (slot : Nat) (f : StreamS → StreamS) (hkm : Sub 4194304 km) (h0 : Same km ka s) : Same km ka (State.modStream s slot f) := by
  unfold State.modStream
  try dsimp only
  repeat' first
    | with_reducible assumption
    | exact Sub.trans rfl hkm
    | intro _
    | with_reducible apply same_ite
    | with_reducible apply same_foldl
    | with_reducible apply sameR_next
    | with_reducible apply same_foldl1
    | with_reducible apply same_ite1
    | split
    | dsimp only
    | with_reducible apply same_rng

theorem State.showCbuf_same (s : State) (hkm : Sub 2594 km) (h0 : Same km ka s) : Same km ka (State.showCbuf s) := by
  unfold State.showCbuf
  try dsimp only
  repeat' first
    | with_reducible assumption
    | exact Sub.trans rfl hkm
    | intro _
    | with_reducible apply State.f_same
    | with_reducible apply State.wakeDoze_same
    | with_reducible apply same_ite

theorem State.renumber_same (s : State) (uid : Nat) (ring : Nat) (n : Nat) (hkm : Sub 4194304 km) (h0 : Same km ka s) : Same km ka (State.renumber s uid ring n) := by
  unfold State.renumber
  try dsimp only
  repeat' first
    | with_reducible assumption
    | exact Sub.trans rfl hkm
    | intro _
    | with_reducible apply same_ite
    | with_reducible apply same_foldl
    | with_reducible apply sameR_next
    | with_reducible apply same_foldl1
    | with_reducible apply same_ite1
    | split
    | dsimp only
    | with_reducible apply same_rng

theorem State.countLost_same (s : State) (c : CaskS) (hkm : Sub 4194306 km) (h0 : Same km ka s) : Same km ka (State.countLost s c) := by
  unfold State.countLost
  try dsimp only
  repeat' first
    | with_reducible assumption
    | exact Sub.trans rfl hkm
    | intro _
    | with_reducible apply State.inc_same
    | with_reducible apply State.setCr_same
    | with_reducible apply same_ite
    | with_reducible apply same_foldl
    | with_reducible apply sameR_next
    | with_reducible apply same_foldl1
    | with_reducible apply same_ite1
    | split
    | dsimp only
    | with_reducible apply same_rng

theorem State.dropFwd_same (s : State) (c : CaskS) (hkm : Sub 4194306 km) (h0 : Same km ka s) : Same km ka (State.dropFwd s c) := by
  unfold State.dropFwd
  try dsimp only
  repeat' first
    | with_reducible assumption
    | exact Sub.trans rfl hkm
    | intro _
    | with_reducible apply State.renumber_same
    | with_reducible apply State.countLost_same
    | with_reducible apply same_ite
    | with_reducible apply same_foldl
    | with_reducible apply sameR_next
    | with_reducible apply same_foldl1
    | with_reducible apply same_ite1
    | split
    | dsimp only
    | with_reducible apply same_rng

theorem State.dropOldest_same (s : State) (hkm : Sub 4194306 km) (h0 : Same km ka s) : Same km ka (State.dropOldest s) := by
  unfold State.dropOldest
  try dsimp only
  repeat' first
    | with_reducible assumption
    | exact Sub.trans rfl hkm
    | intro _
    | with_reducible apply State.dropFwd_same
    | with_reducible apply State.countLost_same
    | with_reducible apply same_ite
    | with_reducible apply same_foldl
    | with_reducible apply sameR_next
    | with_reducible apply same_foldl1
    | with_reducible apply same_ite1
    | split
    | dsimp only
    | with_reducible apply same_rng

theorem State.fitCaskBuf_same (v0 : Nat) (v1 : State) (hkm : Sub 4194306 km) (h0 : Same km ka v1) : Same km ka (State.fitCaskBuf v0 v1) := by
  induction v0 generalizing v1 with
  | zero => exact h0
  | succ n ih =>
    unfold State.fitCaskBuf
    try dsimp only
    repeat' first
      | with_reducible assumption
      | exact Sub.trans rfl hkm
      | with_reducible apply ih
      | intro _
      | with_reducible apply State.dropOldest_same
      | with_reducible apply same_ite

theorem State.trimCasks_same (s : State) (hkm : Sub 4196898 km) (h0 : Same km ka s) : Same km ka (State.trimCasks s) := by
  unfold State.trimCasks
  try dsimp only
  repeat' first
    | with_reducible assumption
    | exact Sub.trans rfl hkm
    | intro _
    | with_reducible apply State.showCbuf_same
    | with_reducible apply State.fitCaskBuf_same

theorem State.applyLoss_same (s : State) (uid : Nat) (ring : Nat) (recs : List RecS) (hkm : Sub 4194304 km) (h0 : Same km ka s) : Same km ka (State.applyLoss s uid ring recs).1 := by
  unfold State.applyLoss
  try dsimp only
  repeat' first
    | with_reducible assumption
    | exact Sub.trans rfl hkm
    | intro _
    | with_reducible apply same_ite
    | with_reducible apply same_foldl
    | with_reducible apply sameR_next
    | with_reducible apply same_foldl1
    | with_reducible apply same_ite1
    | split
    | dsimp only
    | with_reducible apply same_rng

theorem State.declareFwd_same (s : State) (c : CaskS) (hkm : Sub 4194304 km) (h0 : Same km ka s) : Same km ka (State.declareFwd s c) := by
  unfold State.declareFwd
  try dsimp only
  repeat' first
    | with_reducible assumption
    | exact Sub.trans rfl hkm
    | intro _
    | with_reducible apply State.applyLoss_same
    | with_reducible apply State.renumber_same
    | with_reducible apply same_ite
    | with_reducible apply same_foldl
    | with_reducible apply sameR_next
    | with_reducible apply same_foldl1
    | with_reducible apply same_ite1
    | split
    | dsimp only
    | with_reducible apply same_rng

theorem State.sendCaskClose_same (s : State) (hkm : Sub 8388642 km) (home : Nat) (c : CaskS) (h0 : Same km ka s) : Same km ka (State.sendCaskClose s home c) := by
  unfold State.sendCaskClose
  try dsimp only
  repeat' first
    | with_reducible assumption
    | exact Sub.trans rfl hkm
    | intro _
    | with_reducible apply State.sendMsg_same

theorem State.sendCaskData_same (s : State) (hkm : Sub 8388642 km) (home : Nat) (c : CaskS) (h0 : Same km ka s) : Same km ka (State.sendCaskData s home c) := by
  unfold State.sendCaskData
  try dsimp only
  repeat' first
    | with_reducible assumption
    | exact Sub.trans rfl hkm
    | intro _
    | with_reducible apply State.sendMsg_same
    | with_reducible apply same_ite
    | with_reducible apply same_foldl
    | with_reducible apply sameR_next
    | with_reducible apply same_foldl1

theorem State.sendClosed_same (s : State) (c : CaskS) (hkm : Sub 8388642 km) (h0 : Same km ka s) : Same km ka (State.sendClosed s c) := by
  unfold State.sendClosed
  try dsimp only
  repeat' first
    | with_reducible assumption
    | exact Sub.trans rfl hkm
    | intro _
    | with_reducible apply State.sendCaskClose_same
    | with_reducible apply State.sendCaskData_same
    | with_reducible apply same_ite
    | with_reducible apply same_foldl
    | with_reducible apply sameR_next
    | with_reducible apply same_foldl1
    | with_reducible apply same_ite1
    | split

theorem State.sendFwd_same (s : State) (uid : Nat) (ring : Nat) (pcn : Nat) (hkm : Sub 12582946 km) (h0 : Same km ka s) : Same km ka (State.sendFwd s uid ring pcn) := by
  unfold State.sendFwd
  try dsimp only
  repeat' first
    | with_reducible assumption
    | exact Sub.trans rfl hkm
    | intro _
    | with_reducible apply State.sendClosed_same
    | with_reducible apply same_ite
    | with_reducible apply same_foldl
    | with_reducible apply sameR_next
    | with_reducible apply same_foldl1
    | with_reducible apply same_ite1
    | split
    | dsimp only
    | with_reducible apply same_rng

theorem State.flushFwd_same (s : State) (hkm : Sub 12582946 km) (h0 : Same km ka s) : Same km ka (State.flushFwd s) := by
  unfold State.flushFwd
  try dsimp only
  repeat' first
    | with_reducible assumption
    | exact Sub.trans rfl hkm
    | intro _
    | with_reducible apply State.declareFwd_same
    | with_reducible apply State.sendFwd_same
    | with_reducible apply same_ite
    | with_reducible apply same_foldl

theorem State.closeCask_same (s : State) (uid : Nat) (ring : Nat) (code : Nat) (hkm : Sub 12585506 km) (h0 : Same km ka s) : Same km ka (State.closeCask s uid ring code) := by
  unfold State.closeCask
  try dsimp only
  repeat' first
    | with_reducible assumption
    | exact Sub.trans rfl hkm
    | intro _
    | with_reducible apply State.trimCasks_same
    | with_reducible apply State.flushFwd_same
    | with_reducible apply same_ite
    | with_reducible apply same_foldl
    | with_reducible apply sameR_next
    | with_reducible apply same_foldl1
    | with_reducible apply same_ite1
    | split
    | dsimp only
    | with_reducible apply same_rng

theorem State.newCask_same (s : State) (uid : Nat) (ring : Nat) (hkm : Sub 4194304 km) (h0 : Same km ka s) : Same km ka (State.newCask s uid ring) := by
  unfold State.newCask
  try dsimp only
  repeat' first
    | with_reducible assumption
    | exact Sub.trans rfl hkm
    | intro _
    | with_reducible apply same_ite
    | with_reducible apply same_foldl
    | with_reducible apply sameR_next
    | with_reducible apply same_foldl1
    | with_reducible apply same_ite1
    | split
    | dsimp only
    | with_reducible apply same_rng

theorem State.appendRecs_same (s : State) (uid : Nat) (ring : Nat) (rs : List RecS) (hkm : Sub 4194304 km) (h0 : Same km ka s) : Same km ka (State.appendRecs s uid ring rs) := by
  unfold State.appendRecs
  try dsimp only
  repeat' first
    | with_reducible assumption
    | exact Sub.trans rfl hkm
    | intro _
    | with_reducible apply State.newCask_same
    | with_reducible apply same_ite
    | with_reducible apply same_foldl
    | with_reducible apply sameR_next
    | with_reducible apply same_foldl1
    | with_reducible apply same_ite1
    | split
    | dsimp only
    | with_reducible apply same_rng

theorem State.cutThrough_same (s : State) (c : CaskS) (hkm : Sub 12582946 km) (h0 : Same km ka s) : Same km ka (State.cutThrough s c) := by
  unfold State.cutThrough
  try dsimp only
  repeat' first
    | with_reducible assumption
    | exact Sub.trans rfl hkm
    | intro _
    | with_reducible apply State.sendCaskData_same
    | with_reducible apply same_ite
    | with_reducible apply same_foldl
    | with_reducible apply sameR_next
    | with_reducible apply same_foldl1
    | with_reducible apply same_ite1
    | split
    | dsimp only
    | with_reducible apply same_rng

theorem State.putTogether_same (s : State) (uid : Nat) (ring : Nat) (rs : List RecS) (hkm : Sub 12585506 km) (h0 : Same km ka s) : Same km ka (State.putTogether s uid ring rs) := by
  unfold State.putTogether
  try dsimp only
  repeat' first
    | with_reducible assumption
    | exact Sub.trans rfl hkm
    | intro _
    | with_reducible apply State.closeCask_same
    | with_reducible apply State.appendRecs_same
    | with_reducible apply State.showCbuf_same
    | with_reducible apply State.cutThrough_same
    | with_reducible apply same_ite
    | with_reducible apply same_foldl
    | with_reducible apply sameR_next
    | with_reducible apply same_foldl1
    | with_reducible apply same_ite1
    | split

theorem State.produce_same (s : State) (slot : Nat) (n : Nat) (ct : Nat) (ep : Nat) (r : RecS) (hkm : Sub 12585506 km) (h0 : Same km ka s) : Same km ka (State.produce s slot n ct ep r) := by
  unfold State.produce
  try dsimp only
  repeat' first
    | with_reducible assumption
    | exact Sub.trans rfl hkm
    | intro _
    | with_reducible apply State.modStream_same
    | with_reducible apply State.incBy_same
    | with_reducible apply State.watchPush_same
    | with_reducible apply State.putTogether_same
    | with_reducible apply same_ite
    | with_reducible apply same_foldl
    | with_reducible apply sameR_next
    | with_reducible apply same_foldl1
    | with_reducible apply same_ite1
    | split

theorem State.passHead_same (s : State) (slot : Nat) (hkm : Sub 12585506 km) (h : HoldS) (h0 : Same km ka s) : Same km ka (State.passHead s slot h) := by
  unfold State.passHead
  try dsimp only
  repeat' first
    | with_reducible assumption
    | exact Sub.trans rfl hkm
    | intro _
    | with_reducible apply State.modStream_same
    | with_reducible apply State.produce_same
    | with_reducible apply same_ite
    | with_reducible apply same_foldl
    | with_reducible apply sameR_next
    | with_reducible apply same_foldl1
    | with_reducible apply same_ite1
    | split

theorem State.drainStream_same (slot : Nat) (v1 : Nat) (v2 : State) (hkm : Sub 12585506 km) (h0 : Same km ka v2) : Same km ka (State.drainStream slot v1 v2) := by
  induction v1 generalizing v2 with
  | zero => exact h0
  | succ n ih =>
    unfold State.drainStream
    try dsimp only
    repeat' first
      | with_reducible assumption
      | exact Sub.trans rfl hkm
      | with_reducible apply ih
      | intro _
      | with_reducible apply State.passHead_same
      | with_reducible apply State.modStream_same
      | with_reducible apply same_ite
      | with_reducible apply same_foldl
      | with_reducible apply sameR_next
      | with_reducible apply same_foldl1
      | with_reducible apply same_ite1
      | split

theorem State.offer_same (s : State) (slot : Nat) (hkm : Sub 12585506 km) (h : HoldS) (h0 : Same km ka s) : Same km ka (State.offer s slot h) := by
  unfold State.offer
  try dsimp only
  repeat' first
    | with_reducible assumption
    | exact Sub.trans rfl hkm
    | intro _
    | with_reducible apply State.modStream_same
    | with_reducible apply State.drainStream_same
    | with_reducible apply same_ite
    | with_reducible apply same_foldl
    | with_reducible apply sameR_next
    | with_reducible apply same_foldl1
    | with_reducible apply same_ite1
    | split

theorem State.missSample_same (s : State) (e : Nat) (ct : Nat) (reason : Nat) (hkm : Sub 12585506 km) (h0 : Same km ka s) : Same km ka (State.missSample s e ct reason) := by
  unfold State.missSample
  try dsimp only
  repeat' first
    | with_reducible assumption
    | exact Sub.trans rfl hkm
    | intro _
    | with_reducible apply State.offer_same
    | with_reducible apply same_ite
    | with_reducible apply same_foldl

theorem State.missBlock_same (s : State) (slot : Nat) (ct : Nat) (reason : Nat) (hkm : Sub 12585506 km) (h0 : Same km ka s) : Same km ka (State.missBlock s slot ct reason) := by
  unfold State.missBlock
  try dsimp only
  repeat' first
    | with_reducible assumption
    | exact Sub.trans rfl hkm
    | intro _
    | with_reducible apply State.offer_same
    | with_reducible apply same_ite
    | with_reducible apply same_foldl
    | with_reducible apply sameR_next
    | with_reducible apply same_foldl1
    | with_reducible apply same_ite1
    | split

theorem State.interruptEps_same (s : State) (l : List Nat) (hkm : Sub 12585506 km) (h0 : Same km ka s) : Same km ka (State.interruptEps s l) := by
  unfold State.interruptEps
  try dsimp only
  repeat' first
    | with_reducible assumption
    | exact Sub.trans rfl hkm
    | intro _
    | with_reducible apply State.offer_same
    | with_reducible apply same_ite
    | with_reducible apply same_foldl
    | with_reducible apply sameR_next
    | with_reducible apply same_foldl1
    | with_reducible apply same_ite1
    | split

theorem State.sampleEv_same (s : State) (w : EvWaitS) (hkm : Sub 12585506 km) (h0 : Same km ka s) : Same km ka (State.sampleEv s w) := by
  unfold State.sampleEv
  try dsimp only
  repeat' first
    | with_reducible assumption
    | exact Sub.trans rfl hkm
    | intro _
    | with_reducible apply State.routeEv_same
    | with_reducible apply State.closeCask_same
    | with_reducible apply same_ite
    | with_reducible apply same_foldl

theorem State.placeSampleEv_same (s : State) (w : EvWaitS) (hkm : Sub 12585506 km) (h0 : Same km ka s) : Same km ka (State.placeSampleEv s w) := by
  unfold State.placeSampleEv
  try dsimp only
  repeat' first
    | with_reducible assumption
    | exact Sub.trans rfl hkm
    | intro _
    | with_reducible apply State.sampleEv_same
    | with_reducible apply same_ite
    | with_reducible apply same_foldl
    | with_reducible apply sameR_next
    | with_reducible apply same_foldl1
    | with_reducible apply same_ite1
    | split
    | dsimp only
    | with_reducible apply same_rng

theorem State.releaseEvs_same (s : State) (hkm : Sub 12585506 km) (h0 : Same km ka s) : Same km ka (State.releaseEvs s) := by
  unfold State.releaseEvs
  try dsimp only
  repeat' first
    | with_reducible assumption
    | exact Sub.trans rfl hkm
    | intro _
    | with_reducible apply State.sampleEv_same
    | with_reducible apply same_ite
    | with_reducible apply same_foldl
    | with_reducible apply sameR_next
    | with_reducible apply same_foldl1
    | with_reducible apply same_ite1
    | split
    | dsimp only
    | with_reducible apply same_rng

theorem State.drainStreams_same (s : State) (hkm : Sub 12585506 km) (h0 : Same km ka s) : Same km ka (State.drainStreams s) := by
  unfold State.drainStreams
  try dsimp only
  repeat' first
    | with_reducible assumption
    | exact Sub.trans rfl hkm
    | intro _
    | with_reducible apply State.releaseEvs_same
    | with_reducible apply State.drainStream_same
    | with_reducible apply same_ite
    | with_reducible apply same_foldl

theorem State.forceStream_same (slot : Nat) (v1 : Nat) (v2 : List (Nat × Nat)) (v3 : State) (hkm : Sub 12585506 km) (h0 : Same km ka v3) : Same km ka (State.forceStream slot v1 v2 v3) := by
  induction v1 generalizing v2 v3 with
  | zero => exact h0
  | succ n ih =>
    unfold State.forceStream
    try dsimp only
    repeat' first
      | with_reducible assumption
      | exact Sub.trans rfl hkm
      | with_reducible apply ih
      | intro _
      | with_reducible apply State.modStream_same
      | with_reducible apply State.passHead_same
      | with_reducible apply same_ite
      | with_reducible apply same_foldl
      | with_reducible apply sameR_next
      | with_reducible apply same_foldl1
      | with_reducible apply same_ite1
      | split

theorem State.closeAllOf_same (s : State) (uid : Nat) (code : Nat) (hkm : Sub 12585506 km) (h0 : Same km ka s) : Same km ka (State.closeAllOf s uid code) := by
  unfold State.closeAllOf
  try dsimp only
  repeat' first
    | with_reducible assumption
    | exact Sub.trans rfl hkm
    | intro _
    | with_reducible apply State.closeCask_same
    | with_reducible apply same_ite
    | with_reducible apply same_foldl

theorem State.resendFwd_same (s : State) (hkm : Sub 12582946 km) (h0 : Same km ka s) : Same km ka (State.resendFwd s) := by
  unfold State.resendFwd
  try dsimp only
  repeat' first
    | with_reducible assumption
    | exact Sub.trans rfl hkm
    | intro _
    | with_reducible apply State.flushFwd_same
    | with_reducible apply same_ite
    | with_reducible apply same_foldl
    | with_reducible apply sameR_next
    | with_reducible apply same_foldl1
    | with_reducible apply same_ite1
    | split
    | dsimp only
    | with_reducible apply same_rng

theorem State.closeAll_same (s : State) (code : Nat) (hkm : Sub 12585506 km) (h0 : Same km ka s) : Same km ka (State.closeAll s code) := by
  unfold State.closeAll
  try dsimp only
  repeat' first
    | with_reducible assumption
    | exact Sub.trans rfl hkm
    | intro _
    | with_reducible apply State.closeCask_same
    | with_reducible apply same_ite
    | with_reducible apply same_foldl

theorem State.streamSample_same (s : State) (e : Nat) (flags : Nat) (ct : Nat) (v : Nat) (hkm : Sub 12585506 km) (h0 : Same km ka s) : Same km ka (State.streamSample s e flags ct v) := by
  unfold State.streamSample
  try dsimp only
  repeat' first
    | with_reducible assumption
    | exact Sub.trans rfl hkm
    | intro _
    | with_reducible apply State.offer_same
    | with_reducible apply same_ite
    | with_reducible apply same_foldl

end Sys2Proof.Machine
end

