-- ==== Sys2Proof/Laws/SameJour.lean ====
section
/-! SUPPORT. What the operations of Machine/Jour.lean keep (Laws/Same.lean). -/
set_option Elab.async false
namespace Sys2Proof.Machine

variable {km : Nat} {ka : State}

theorem State.showNvs_same (s : State) (hkm : Sub 2 km) (h0 : Same km ka s) : Same km ka (State.showNvs s) := by
  unfold State.showNvs
  try dsimp only
  repeat' first
    | with_reducible assumption
    | exact Sub.trans rfl hkm
    | intro _
    | with_reducible apply State.f_same

theorem State.nvPush_same (s : State) (o : NvOpS) (hkm : Sub 33554434 km) (h0 : Same km ka s) : Same km ka (State.nvPush s o) := by
  unfold State.nvPush
  try dsimp only
  repeat' first
    | with_reducible assumption
    | exact Sub.trans rfl hkm
    | intro _
    | with_reducible apply State.showNvs_same
    | with_reducible apply same_ite
    | with_reducible apply same_foldl
    | with_reducible apply sameR_next
    | with_reducible apply same_foldl1
    | with_reducible apply same_ite1
    | split
    | dsimp only
    | with_reducible apply same_nvs

theorem State.jpush_same (s : State) (kind : Nat) (body : List Nat) (hkm : Sub 33554432 km) (h0 : Same km ka s) : Same km ka (State.jpush s kind body) := by
  unfold State.jpush
  try dsimp only
  repeat' first
    | with_reducible assumption
    | exact Sub.trans rfl hkm
    | intro _
    | with_reducible apply same_ite
    | with_reducible apply same_foldl
    | with_reducible apply sameR_next
    | with_reducible apply same_foldl1
    | with_reducible apply same_ite1
    | split
    | dsimp only
    | with_reducible apply same_nvs

theorem State.jcharge_same (s : State) (hkm : Sub 33554432 km) (h0 : Same km ka s) : Same km ka (State.jcharge s) := by
  unfold State.jcharge
  try dsimp only
  repeat' first
    | with_reducible assumption
    | exact Sub.trans rfl hkm
    | intro _
    | with_reducible apply same_ite
    | with_reducible apply same_foldl
    | with_reducible apply sameR_next
    | with_reducible apply same_foldl1
    | with_reducible apply same_ite1
    | split
    | dsimp only
    | with_reducible apply same_nvs

theorem State.journalEv_same (s : State) (e : EvRecS) (hkm : Sub 33554434 km) (h0 : Same km ka s) : Same km ka (State.journalEv s e) := by
  unfold State.journalEv
  try dsimp only
  repeat' first
    | with_reducible assumption
    | exact Sub.trans rfl hkm
    | intro _
    | with_reducible apply State.jpush_same
    | with_reducible apply State.jcharge_same
    | with_reducible apply State.inc_same
    | with_reducible apply same_ite
    | with_reducible apply same_foldl
    | with_reducible apply sameR_next
    | with_reducible apply same_foldl1
    | with_reducible apply same_ite1
    | split
    | dsimp only
    | with_reducible apply same_nvs

theorem State.setWorn_same (s : State) (r : Nat) (hkm : Sub 12583458 km) (h0 : Same km ka s) : Same km ka (State.setWorn s r) := by
  unfold State.setWorn
  try dsimp only
  repeat' first
    | with_reducible assumption
    | exact Sub.trans rfl hkm
    | intro _
    | with_reducible apply State.f_same
    | with_reducible apply State.hubLasting_same
    | with_reducible apply State.raiseHub_same
    | with_reducible apply same_ite
    | with_reducible apply same_foldl

end Sys2Proof.Machine
end

