-- ==== Sys2Proof/Laws/SameJob.lean ====
section
/-! SUPPORT. What the operations of Machine/Job.lean keep (Laws/Same.lean). -/
set_option Elab.async false
namespace Sys2Proof.Machine

variable {km : Nat} {ka : State}

theorem State.modCmd_same (s : State) (t : Nat) (slot : Nat) (f : CmdS → CmdS) (hkm : Sub 4194304 km) (h0 : Same km ka s) : Same km ka (State.modCmd s t slot f) := by
  unfold State.modCmd
  try dsimp only
  repeat' first
    | with_reducible assumption
    | exact Sub.trans rfl hkm
    | intro _
    | with_reducible apply State.setTr_same

theorem State.finish_same (s : State) (j : JobS) (o : DoneS) (hkm : Sub 12582946 km) (h0 : Same km ka s) : Same km ka (State.finish s j o) := by
  unfold State.finish
  try dsimp only
  repeat' first
    | with_reducible assumption
    | exact Sub.trans rfl hkm
    | intro _
    | with_reducible apply State.sendMsg_same
    | with_reducible apply State.modCmd_same
    | with_reducible apply same_ite
    | with_reducible apply same_foldl
    | with_reducible apply sameR_next
    | with_reducible apply same_foldl1
    | with_reducible apply same_ite1
    | split
    | dsimp only
    | with_reducible apply same_rng

theorem State.finishId_same (s : State) (id : JobId) (o : DoneS) (hkm : Sub 12582946 km) (h0 : Same km ka s) : Same km ka (State.finishId s id o) := by
  unfold State.finishId
  try dsimp only
  repeat' first
    | with_reducible assumption
    | exact Sub.trans rfl hkm
    | intro _
    | with_reducible apply State.finish_same
    | with_reducible apply same_ite
    | with_reducible apply same_foldl
    | with_reducible apply sameR_next
    | with_reducible apply same_foldl1
    | with_reducible apply same_ite1
    | split

theorem State.modJob_same (s : State) (id : JobId) (f : JobS → JobS) (hkm : Sub 4194304 km) (h0 : Same km ka s) : Same km ka (State.modJob s id f) := by
  unfold State.modJob
  try dsimp only
  repeat' first
    | with_reducible assumption
    | exact Sub.trans rfl hkm
    | intro _
    | with_reducible apply same_ite
    | with_reducible apply same_foldl
    | with_reducible apply sameR_next
    | with_reducible apply same_foldl1
    | with_reducible apply same_ite1
    | split
    | dsimp only
    | with_reducible apply same_rng

theorem State.finishWith_same (s : State) (j : JobS) (st : Nat) (hkm : Sub 12582946 km) (h0 : Same km ka s) : Same km ka (State.finishWith s j st) := by
  unfold State.finishWith
  try dsimp only
  repeat' first
    | with_reducible assumption
    | exact Sub.trans rfl hkm
    | intro _
    | with_reducible apply State.finish_same

theorem State.runJob_same (s : State) (opc : Nat) (issuer : JobS → Option Nat) (body : State → JobS → State) (hkm : Sub 12582946 km) (h0 : Same km ka s) (hfbody : ∀ y0 y1, Same km ka y0 → Same km ka (body y0 y1)) : Same km ka (State.runJob s opc issuer body) := by
  unfold State.runJob
  try dsimp only
  repeat' first
    | with_reducible assumption
    | exact Sub.trans rfl hkm
    | intro _
    | with_reducible apply hfbody
    | with_reducible apply State.modJob_same
    | with_reducible apply State.finishWith_same
    | with_reducible apply State.inc_same
    | with_reducible apply same_ite
    | with_reducible apply same_foldl
    | with_reducible apply sameR_next
    | with_reducible apply same_foldl1
    | with_reducible apply same_ite1
    | split

theorem State.dropTag_same (s : State) (n : Nat) (hkm : Sub 4456450 km) (h0 : Same km ka s) : Same km ka (State.dropTag s n) := by
  unfold State.dropTag
  try dsimp only
  repeat' first
    | with_reducible assumption
    | exact Sub.trans rfl hkm
    | with_reducible exact Or.inr (Sub.trans rfl hkm)
    | with_reducible exact Or.inl rfl
    | intro _
    | with_reducible apply State.f_same
    | with_reducible apply same_ite
    | with_reducible apply same_foldl
    | with_reducible apply sameR_next
    | with_reducible apply same_foldl1
    | with_reducible apply same_ite1
    | split
    | dsimp only
    | with_reducible apply same_ept
    | with_reducible apply same_rng
    | with_reducible apply same_mk

theorem State.finishAfter_same (s : State) (j : JobS) (uid : Nat) (ring : Nat) (hkm : Sub 12582946 km) (h0 : Same km ka s) : Same km ka (State.finishAfter s j uid ring) := by
  unfold State.finishAfter
  try dsimp only
  repeat' first
    | with_reducible assumption
    | exact Sub.trans rfl hkm
    | intro _
    | with_reducible apply State.modJob_same
    | with_reducible apply State.finishWith_same
    | with_reducible apply State.modCmd_same
    | with_reducible apply same_ite

theorem State.loadSourceFails_same (s : State) (hkm : Sub 262690 km) (h0 : Same km ka s) : Same km ka (State.loadSourceFails s) := by
  unfold State.loadSourceFails
  try dsimp only
  repeat' first
    | with_reducible assumption
    | exact Sub.trans rfl hkm
    | intro _
    | with_reducible apply State.raiseHub_same
    | with_reducible apply State.f_same
    | with_reducible apply State.zero_same
    | with_reducible apply same_ite
    | with_reducible apply same_foldl
    | with_reducible apply sameR_next
    | with_reducible apply same_foldl1
    | with_reducible apply same_ite1
    | split
    | dsimp only
    | with_reducible apply same_ept

theorem State.startJob_same (s : State) (j : JobS) (hkm : Sub 12582946 km) (h0 : Same km ka s) : Same km ka (State.startJob s j) := by
  unfold State.startJob
  try dsimp only
  repeat' first
    | with_reducible assumption
    | exact Sub.trans rfl hkm
    | intro _
    | with_reducible apply State.finishWith_same
    | with_reducible apply same_ite
    | with_reducible apply same_foldl
    | with_reducible apply sameR_next
    | with_reducible apply same_foldl1
    | with_reducible apply same_ite1
    | split
    | dsimp only
    | with_reducible apply same_rng

theorem State.remDone_same (s : State) (t : Nat) (slot : Nat) (o : DoneS) (hkm : Sub 4194304 km) (h0 : Same km ka s) : Same km ka (State.remDone s t slot o) := by
  unfold State.remDone
  try dsimp only
  repeat' first
    | with_reducible assumption
    | exact Sub.trans rfl hkm
    | intro _
    | with_reducible apply State.modCmd_same
    | with_reducible apply same_ite
    | with_reducible apply same_foldl
    | with_reducible apply sameR_next
    | with_reducible apply same_foldl1
    | with_reducible apply same_ite1
    | split
    | dsimp only
    | with_reducible apply same_rng

theorem State.takeTag_same (s : State) (hkm : Sub 4194306 km) (h0 : Same km ka s) : Same km ka (State.takeTag s).1 := by
  unfold State.takeTag
  try dsimp only
  repeat' first
    | with_reducible assumption
    | exact Sub.trans rfl hkm
    | intro _
    | with_reducible apply State.f_same
    | with_reducible apply same_ite
    | with_reducible apply same_foldl
    | with_reducible apply sameR_next
    | with_reducible apply same_foldl1
    | with_reducible apply same_ite1
    | split
    | dsimp only
    | with_reducible apply same_rng

theorem State.sendImage_same (s : State) (dst : Nat) (tag : Nat) (v3 : Nat) (v4 : Nat) (v5 : List Nat) (hkm : Sub 8388642 km) (h0 : Same km ka s) : Same km ka (State.sendImage s dst tag v3 v4 v5) := by
  induction v3 generalizing s v4 v5 with
  | zero => exact h0
  | succ n ih =>
    unfold State.sendImage
    try dsimp only
    repeat' first
      | with_reducible assumption
      | exact Sub.trans rfl hkm
      | with_reducible apply ih
      | intro _
      | with_reducible apply State.sendMsg_same
      | with_reducible apply same_ite

theorem State.issueRemote_same (s : State) (t : Nat) (c : CmdS) (winfail : Bool) (hkm : Sub 12582946 km) (h0 : Same km ka s) : Same km ka (State.issueRemote s t c winfail) := by
  unfold State.issueRemote
  try dsimp only
  repeat' first
    | with_reducible assumption
    | exact Sub.trans rfl hkm
    | intro _
    | with_reducible apply State.remDone_same
    | with_reducible apply State.modCmd_same
    | with_reducible apply State.takeTag_same
    | with_reducible apply State.sendImage_same
    | with_reducible apply State.sendMsg_same
    | with_reducible apply same_ite
    | with_reducible apply same_foldl
    | with_reducible apply sameR_next
    | with_reducible apply same_foldl1
    | with_reducible apply same_ite1
    | split
    | dsimp only
    | with_reducible apply same_rng

theorem State.chargeRemote_same (s : State) (t : Nat) (slot : Nat) (d : List Nat) (hkm : Sub 4194308 km) (h0 : Same km ka s) : Same km ka (State.chargeRemote s t slot d) := by
  unfold State.chargeRemote
  try dsimp only
  repeat' first
    | with_reducible assumption
    | exact Sub.trans rfl hkm
    | intro _
    | with_reducible apply State.drew_same
    | with_reducible apply same_ite
    | with_reducible apply same_foldl
    | with_reducible apply sameR_next
    | with_reducible apply same_foldl1
    | with_reducible apply same_ite1
    | split
    | dsimp only
    | with_reducible apply same_rng

theorem State.issueOne_same (s : State) (t : Nat) (before : List CmdS) (c : CmdS) (hkm : Sub 12582950 km) (h0 : Same km ka s) : SameO km ka (s.issueOne t before c) := by
  unfold State.issueOne
  dsimp only
  repeat' first
    | with_reducible assumption
    | exact Sub.trans rfl hkm
    | with_reducible apply sameO_none
    | with_reducible apply sameO_some
    | with_reducible apply State.modCmd_same
    | with_reducible apply State.startJob_same
    | with_reducible apply State.issueRemote_same
    | with_reducible apply State.chargeRemote_same
    | with_reducible apply State.quotaRefuse_same
    | split

theorem State.issueMore_same (t : Nat) (v1 : Nat) (v2 : State) (hkm : Sub 12582950 km) (h0 : Same km ka v2) : Same km ka (State.issueMore t v1 v2) := by
  induction v1 generalizing v2 with
  | zero => exact h0
  | succ n ih =>
    unfold State.issueMore
    try dsimp only
    repeat' first
      | with_reducible assumption
      | exact Sub.trans rfl hkm
      | with_reducible apply ih
      | intro _
      | with_reducible apply State.modCmd_same
      | with_reducible apply State.startJob_same
      | with_reducible apply State.issueRemote_same
      | with_reducible apply State.chargeRemote_same
      | with_reducible apply State.quotaRefuse_same
      | with_reducible apply same_ite
      | with_reducible apply same_foldl
      | with_reducible apply sameR_next
      | with_reducible apply same_foldl1
      | with_reducible apply same_ite1
      | split
      | dsimp only
      | exact State.issueOne_same _ _ _ _ (Sub.trans rfl hkm) (by with_reducible assumption) _ (by with_reducible assumption)

theorem State.issue_same (s : State) (t : Nat) (hkm : Sub 12582950 km) (h0 : Same km ka s) : Same km ka (State.issue s t) := by
  unfold State.issue
  try dsimp only
  repeat' first
    | with_reducible assumption
    | exact Sub.trans rfl hkm
    | intro _
    | with_reducible apply State.issueMore_same

theorem State.argsRead_same (s : State) (t : Nat) (slot : Nat) (args : Option (List Nat)) (retried : Bool) (hkm : Sub 12845606 km) (h0 : Same km ka s) : Same km ka (State.argsRead s t slot args retried) := by
  unfold State.argsRead
  try dsimp only
  repeat' first
    | with_reducible assumption
    | exact Sub.trans rfl hkm
    | intro _
    | with_reducible apply State.loadSourceFails_same
    | with_reducible apply State.issue_same
    | with_reducible apply State.modCmd_same
    | with_reducible apply State.startJob_same
    | with_reducible apply State.issueRemote_same
    | with_reducible apply same_ite
    | with_reducible apply same_foldl
    | with_reducible apply sameR_next
    | with_reducible apply same_foldl1
    | with_reducible apply same_ite1
    | split

end Sys2Proof.Machine
end

