-- ==== Sys2Proof/Laws/SameRing.lean ====
section
/-! SUPPORT. What the operations of Machine/Ring.lean keep (Laws/Same.lean). -/
set_option Elab.async false
namespace Sys2Proof.Machine

variable {km : Nat} {ka : State}

theorem State.dmaWrite_same (s : State) (addr : Nat) (b : List Nat) (hkm : Sub 32 km) (h0 : Same km ka s) : Same km ka (State.dmaWrite s addr b) := by
  unfold State.dmaWrite
  try dsimp only
  repeat' first
    | with_reducible assumption
    | exact Sub.trans rfl hkm
    | intro _
    | with_reducible apply same_ite
    | with_reducible apply same_foldl
    | with_reducible apply sameR_next
    | with_reducible apply same_foldl1
    | with_reducible apply same_ite1
    | split
    | dsimp only
    | with_reducible apply same_out

theorem State.writeBack_same (s : State) (t : Nat) (r : Nat) (used : Nat) (kind : Nat) (status : Nat) (hkm : Sub 32 km) (h0 : Same km ka s) : Same km ka (State.writeBack s t r used kind status) := by
  unfold State.writeBack
  try dsimp only
  repeat' first
    | with_reducible assumption
    | exact Sub.trans rfl hkm
    | intro _
    | with_reducible apply State.dmaWrite_same

theorem State.voidSlot_same (s : State) (t : Nat) (r : Nat) (status : Nat) (hkm : Sub 4194336 km) (h0 : Same km ka s) : Same km ka (State.voidSlot s t r status) := by
  unfold State.voidSlot
  try dsimp only
  repeat' first
    | with_reducible assumption
    | exact Sub.trans rfl hkm
    | intro _
    | with_reducible apply State.writeBack_same
    | with_reducible apply State.setCr_same

theorem State.fenceRing_same (s : State) (t : Nat) (r : Nat) (hkm : Sub 4194336 km) (h0 : Same km ka s) : Same km ka (State.fenceRing s t r) := by
  unfold State.fenceRing
  try dsimp only
  repeat' first
    | with_reducible assumption
    | exact Sub.trans rfl hkm
    | intro _
    | with_reducible apply State.voidSlot_same
    | with_reducible apply same_ite

theorem State.argRead_same (s : State) (t : Nat) (slot : Nat) (ok : Bool) (b : List Nat) (hkm : Sub 12845606 km) (h0 : Same km ka s) : Same km ka (State.argRead s t slot ok b) := by
  unfold State.argRead
  try dsimp only
  repeat' first
    | with_reducible assumption
    | exact Sub.trans rfl hkm
    | intro _
    | with_reducible apply State.inc_same
    | with_reducible apply State.argsRead_same
    | with_reducible apply State.modCmd_same
    | with_reducible apply same_ite
    | with_reducible apply same_foldl
    | with_reducible apply sameR_next
    | with_reducible apply same_foldl1
    | with_reducible apply same_ite1
    | split

theorem State.halted_same (s : State) (t : Nat) (ring : Nat) (slot : Nat) (hkm : Sub 4194850 km) (h0 : Same km ka s) : Same km ka (State.halted s t ring slot) := by
  unfold State.halted
  try dsimp only
  repeat' first
    | with_reducible assumption
    | exact Sub.trans rfl hkm
    | intro _
    | with_reducible apply State.inc_same
    | with_reducible apply State.ringRecord_same
    | with_reducible apply State.ringLevel_same
    | with_reducible apply same_ite

theorem State.doorbellBad_same (s : State) (t : Nat) (ring : Nat) (status : Nat) (idx : Nat) (hkm : Sub 4194850 km) (h0 : Same km ka s) : Same km ka (State.doorbellBad s t ring status idx) := by
  unfold State.doorbellBad
  try dsimp only
  repeat' first
    | with_reducible assumption
    | exact Sub.trans rfl hkm
    | intro _
    | with_reducible apply State.inc_same
    | with_reducible apply State.setTr_same
    | with_reducible apply State.ringLevel_same
    | with_reducible apply State.ringRecord_same

theorem State.doorbell_same (s : State) (t : Nat) (ring : Nat) (state : Nat) (ord : Nat) (v : Word) (act : State → Nat → State) (hkm : Sub 4196898 km) (h0 : Same km ka s) (hfact : ∀ y0 y1, Same km ka y0 → Same km ka (act y0 y1)) : Same km ka (State.doorbell s t ring state ord v act) := by
  unfold State.doorbell
  try dsimp only
  repeat' first
    | with_reducible assumption
    | exact Sub.trans rfl hkm
    | intro _
    | with_reducible apply hfact
    | with_reducible apply State.wakeDoze_same
    | with_reducible apply State.inc_same
    | with_reducible apply State.doorbellBad_same
    | with_reducible apply same_ite

theorem State.postWrite_same (s : State) (t : Nat) (r : Nat) (v : Word) (hkm : Sub 4196898 km) (h0 : Same km ka s) : Same km ka (State.postWrite s t r v) := by
  unfold State.postWrite
  try dsimp only
  repeat' first
    | with_reducible assumption
    | exact Sub.trans rfl hkm
    | intro _
    | with_reducible apply State.doorbell_same
    | with_reducible apply State.setCr_same

theorem State.writeEv_same (s : State) (t : Nat) (hkm : Sub 4194850 km) (h0 : Same km ka s) : Same km ka (State.writeEv s t) := by
  unfold State.writeEv
  try dsimp only
  repeat' first
    | with_reducible assumption
    | exact Sub.trans rfl hkm
    | intro _
    | with_reducible apply State.setTr_same
    | with_reducible apply State.dmaWrite_same
    | with_reducible apply State.setSrc_same
    | with_reducible apply State.ringLevel_same
    | with_reducible apply same_ite
    | with_reducible apply same_foldl
    | with_reducible apply sameR_next
    | with_reducible apply same_foldl1
    | with_reducible apply same_ite1
    | split

theorem State.eventRecordWrite_same (s : State) (t : Nat) (hkm : Sub 37749282 km) (h0 : Same km ka s) : Same km ka (State.eventRecordWrite s t) := by
  unfold State.eventRecordWrite
  try dsimp only
  repeat' first
    | with_reducible assumption
    | exact Sub.trans rfl hkm
    | intro _
    | with_reducible apply State.writeEv_same
    | with_reducible apply State.setTr_same
    | with_reducible apply State.journalEv_same
    | with_reducible apply same_ite
    | with_reducible apply same_foldl
    | with_reducible apply sameR_next
    | with_reducible apply same_foldl1
    | with_reducible apply same_ite1
    | split

theorem execEventRecordWrite_same (t : Nat) (s : State) (hkm : Sub 37749282 km) (h0 : Same km ka s) : SameR km ka (execEventRecordWrite t s) := by
  unfold execEventRecordWrite
  try dsimp only
  repeat' first
    | with_reducible assumption
    | exact Sub.trans rfl hkm
    | intro _
    | with_reducible apply State.eventRecordWrite_same
    | with_reducible apply same_ite
    | with_reducible apply same_foldl
    | with_reducible apply sameR_next

theorem State.cmdTail_same (s : State) (t : Nat) (v : Word) (hkm : Sub 4196898 km) (h0 : Same km ka s) : Same km ka (State.cmdTail s t v) := by
  unfold State.cmdTail
  try dsimp only
  repeat' first
    | with_reducible assumption
    | exact Sub.trans rfl hkm
    | intro _
    | with_reducible apply State.doorbell_same
    | with_reducible apply State.setTr_same

theorem State.cplHead_same (s : State) (t : Nat) (v : Word) (hkm : Sub 4196898 km) (h0 : Same km ka s) : Same km ka (State.cplHead s t v) := by
  unfold State.cplHead
  try dsimp only
  repeat' first
    | with_reducible assumption
    | exact Sub.trans rfl hkm
    | intro _
    | with_reducible apply State.doorbell_same
    | with_reducible apply State.ringLevel_same
    | with_reducible apply State.setTr_same

theorem State.evtHead_same (s : State) (t : Nat) (v : Word) (hkm : Sub 4196898 km) (h0 : Same km ka s) : Same km ka (State.evtHead s t v) := by
  unfold State.evtHead
  try dsimp only
  repeat' first
    | with_reducible assumption
    | exact Sub.trans rfl hkm
    | intro _
    | with_reducible apply State.doorbell_same
    | with_reducible apply State.ringLevel_same
    | with_reducible apply State.setTr_same

theorem State.clrDberr_same (s : State) (t : Nat) (hkm : Sub 4194850 km) (h0 : Same km ka s) : Same km ka (State.clrDberr s t) := by
  unfold State.clrDberr
  try dsimp only
  repeat' first
    | with_reducible assumption
    | exact Sub.trans rfl hkm
    | intro _
    | with_reducible apply State.ringLevel_same
    | with_reducible apply State.setTr_same

theorem State.resumeCmd_same (s : State) (t : Nat) (hkm : Sub 4194850 km) (h0 : Same km ka s) : Same km ka (State.resumeCmd s t) := by
  unfold State.resumeCmd
  try dsimp only
  repeat' first
    | with_reducible assumption
    | exact Sub.trans rfl hkm
    | intro _
    | with_reducible apply State.ringLevel_same
    | with_reducible apply State.setTr_same
    | with_reducible apply same_ite

theorem State.writeCpl_same (s : State) (t : Nat) (hkm : Sub 4194850 km) (h0 : Same km ka s) : Same km ka (State.writeCpl s t) := by
  unfold State.writeCpl
  try dsimp only
  repeat' first
    | with_reducible assumption
    | exact Sub.trans rfl hkm
    | intro _
    | with_reducible apply State.setTr_same
    | with_reducible apply State.ringLevel_same
    | with_reducible apply State.dmaWrite_same
    | with_reducible apply same_ite
    | with_reducible apply same_foldl
    | with_reducible apply sameR_next
    | with_reducible apply same_foldl1
    | with_reducible apply same_ite1
    | split

theorem State.resumeCpl_same (s : State) (t : Nat) (hkm : Sub 4194850 km) (h0 : Same km ka s) : Same km ka (State.resumeCpl s t) := by
  unfold State.resumeCpl
  try dsimp only
  repeat' first
    | with_reducible assumption
    | exact Sub.trans rfl hkm
    | intro _
    | with_reducible apply State.writeCpl_same
    | with_reducible apply State.ringLevel_same
    | with_reducible apply State.setTr_same
    | with_reducible apply same_ite

theorem State.resumeEvt_same (s : State) (t : Nat) (hkm : Sub 4194850 km) (h0 : Same km ka s) : Same km ka (State.resumeEvt s t) := by
  unfold State.resumeEvt
  try dsimp only
  repeat' first
    | with_reducible assumption
    | exact Sub.trans rfl hkm
    | intro _
    | with_reducible apply State.writeEv_same
    | with_reducible apply State.ringLevel_same
    | with_reducible apply State.setTr_same
    | with_reducible apply same_ite

theorem State.ctlWrite_same (s : State) (t : Nat) (v : Word) (hkm : Sub 4196898 km) (h0 : Same km ka s) : Same km ka (State.ctlWrite s t v) := by
  unfold State.ctlWrite
  try dsimp only
  repeat' first
    | with_reducible assumption
    | exact Sub.trans rfl hkm
    | intro _
    | with_reducible apply State.wakeDoze_same
    | with_reducible apply State.inc_same
    | with_reducible apply State.doorbellBad_same
    | with_reducible apply State.clrDberr_same
    | with_reducible apply State.resumeCmd_same
    | with_reducible apply State.resumeCpl_same
    | with_reducible apply State.resumeEvt_same
    | with_reducible apply same_ite

theorem State.ackWrite_same (s : State) (t : Nat) (r : Nat) (v : Word) (hkm : Sub 4196898 km) (h0 : Same km ka s) : Same km ka (State.ackWrite s t r v) := by
  unfold State.ackWrite
  try dsimp only
  repeat' first
    | with_reducible assumption
    | exact Sub.trans rfl hkm
    | intro _
    | with_reducible apply State.doorbell_same
    | with_reducible apply State.ringLevel_same
    | with_reducible apply State.setCr_same

theorem State.ringLoad_same (s : State) (t : Nat) (k : Nat) (hkm : Sub 2 km) (h0 : Same km ka s) : Same km ka (State.ringLoad s t k) := by
  unfold State.ringLoad
  try dsimp only
  repeat' first
    | with_reducible assumption
    | exact Sub.trans rfl hkm
    | intro _
    | with_reducible apply State.f_same

theorem State.ringGo_same (s : State) (t : Nat) (k : Nat) (hkm : Sub 4194850 km) (h0 : Same km ka s) : Same km ka (State.ringGo s t k) := by
  unfold State.ringGo
  try dsimp only
  repeat' first
    | with_reducible assumption
    | exact Sub.trans rfl hkm
    | intro _
    | with_reducible apply State.setTr_same
    | with_reducible apply State.ringLevel_same
    | with_reducible apply State.writeCpl_same
    | with_reducible apply State.writeEv_same
    | with_reducible apply same_ite

theorem State.ringHalt_same (s : State) (t : Nat) (k : Nat) (hkm : Sub 4194850 km) (h0 : Same km ka s) : Same km ka (State.ringHalt s t k) := by
  unfold State.ringHalt
  try dsimp only
  repeat' first
    | with_reducible assumption
    | exact Sub.trans rfl hkm
    | intro _
    | with_reducible apply State.ringLevel_same
    | with_reducible apply State.setTr_same

theorem State.rngIdxWrite_same (s : State) (v : Word) (hkm : Sub 4194850 km) (h0 : Same km ka s) : Same km ka (State.rngIdxWrite s v) := by
  unfold State.rngIdxWrite
  try dsimp only
  repeat' first
    | with_reducible assumption
    | exact Sub.trans rfl hkm
    | intro _
    | with_reducible apply State.discard_same
    | with_reducible apply State.ringLoad_same
    | with_reducible apply State.ringGo_same
    | with_reducible apply State.ringHalt_same
    | with_reducible apply same_ite
    | with_reducible apply same_foldl
    | with_reducible apply sameR_next
    | with_reducible apply same_foldl1
    | with_reducible apply same_ite1
    | split

theorem State.commandFetch_same (s : State) (t : Nat) (hkm : Sub 12582950 km) (h0 : Same km ka s) : Same km ka (State.commandFetch s t) := by
  unfold State.commandFetch
  try dsimp only
  repeat' first
    | with_reducible assumption
    | exact Sub.trans rfl hkm
    | intro _
    | with_reducible apply State.setTr_same
    | with_reducible apply State.issue_same
    | with_reducible apply same_ite
    | with_reducible apply same_foldl
    | with_reducible apply sameR_next
    | with_reducible apply same_foldl1
    | with_reducible apply same_ite1
    | split

theorem execCommandFetch_same (t : Nat) (s : State) (hkm : Sub 12582950 km) (h0 : Same km ka s) : SameR km ka (execCommandFetch t s) := by
  unfold execCommandFetch
  try dsimp only
  repeat' first
    | with_reducible assumption
    | exact Sub.trans rfl hkm
    | intro _
    | with_reducible apply State.commandFetch_same
    | with_reducible apply same_ite
    | with_reducible apply same_foldl
    | with_reducible apply sameR_next

theorem State.cmdDrained_same (s : State) (t : Nat) (hkm : Sub 4194304 km) (h0 : Same km ka s) : Same km ka (State.cmdDrained s t) := by
  unfold State.cmdDrained
  try dsimp only
  repeat' first
    | with_reducible assumption
    | exact Sub.trans rfl hkm
    | intro _
    | with_reducible apply State.setTr_same
    | with_reducible apply same_ite

theorem State.completionWrite_same (s : State) (t : Nat) (hkm : Sub 12583462 km) (h0 : Same km ka s) : Same km ka (State.completionWrite s t) := by
  unfold State.completionWrite
  try dsimp only
  repeat' first
    | with_reducible assumption
    | exact Sub.trans rfl hkm
    | intro _
    | with_reducible apply State.dmaWrite_same
    | with_reducible apply State.modCmd_same
    | with_reducible apply State.setTr_same
    | with_reducible apply State.cmdDrained_same
    | with_reducible apply State.issue_same
    | with_reducible apply State.writeCpl_same
    | with_reducible apply same_ite
    | with_reducible apply same_foldl
    | with_reducible apply sameR_next
    | with_reducible apply same_foldl1
    | with_reducible apply same_ite1
    | split

theorem execCompletionWrite_same (t : Nat) (s : State) (hkm : Sub 12583462 km) (h0 : Same km ka s) : SameR km ka (execCompletionWrite t s) := by
  unfold execCompletionWrite
  try dsimp only
  repeat' first
    | with_reducible assumption
    | exact Sub.trans rfl hkm
    | intro _
    | with_reducible apply State.completionWrite_same
    | with_reducible apply same_ite
    | with_reducible apply same_foldl
    | with_reducible apply sameR_next

theorem State.cplConfirm_same (s : State) (t : Nat) (ok : Bool) (hkm : Sub 4194850 km) (h0 : Same km ka s) : Same km ka (State.cplConfirm s t ok) := by
  unfold State.cplConfirm
  try dsimp only
  repeat' first
    | with_reducible assumption
    | exact Sub.trans rfl hkm
    | intro _
    | with_reducible apply State.setTr_same
    | with_reducible apply State.inc_same
    | with_reducible apply State.halted_same
    | with_reducible apply State.ringLevel_same
    | with_reducible apply State.dmaWrite_same
    | with_reducible apply same_ite
    | with_reducible apply same_foldl
    | with_reducible apply sameR_next
    | with_reducible apply same_foldl1
    | with_reducible apply same_ite1
    | split

theorem State.evConfirm_same (s : State) (t : Nat) (ok : Bool) (hkm : Sub 4194850 km) (h0 : Same km ka s) : Same km ka (State.evConfirm s t ok) := by
  unfold State.evConfirm
  try dsimp only
  repeat' first
    | with_reducible assumption
    | exact Sub.trans rfl hkm
    | intro _
    | with_reducible apply State.setTr_same
    | with_reducible apply State.inc_same
    | with_reducible apply State.halted_same
    | with_reducible apply State.ringLevel_same
    | with_reducible apply State.dmaWrite_same
    | with_reducible apply same_ite
    | with_reducible apply same_foldl
    | with_reducible apply sameR_next
    | with_reducible apply same_foldl1
    | with_reducible apply same_ite1
    | split

theorem State.resConfirm_same (s : State) (t : Nat) (ok : Bool) (hkm : Sub 4194338 km) (h0 : Same km ka s) : Same km ka (State.resConfirm s t ok) := by
  unfold State.resConfirm
  try dsimp only
  repeat' first
    | with_reducible assumption
    | exact Sub.trans rfl hkm
    | intro _
    | with_reducible apply State.modCmd_same
    | with_reducible apply State.inc_same
    | with_reducible apply State.dmaWrite_same
    | with_reducible apply same_ite
    | with_reducible apply same_foldl
    | with_reducible apply sameR_next
    | with_reducible apply same_foldl1
    | with_reducible apply same_ite1
    | split

theorem State.stopRing_same (s : State) (t : Nat) (r : Nat) (hkm : Sub 12582946 km) (h0 : Same km ka s) : Same km ka (State.stopRing s t r) := by
  unfold State.stopRing
  try dsimp only
  repeat' first
    | with_reducible assumption
    | exact Sub.trans rfl hkm
    | intro _
    | with_reducible apply State.fenceRing_same
    | with_reducible apply State.setCr_same
    | with_reducible apply State.finishId_same
    | with_reducible apply same_ite
    | with_reducible apply same_foldl
    | with_reducible apply sameR_next
    | with_reducible apply same_foldl1
    | with_reducible apply same_ite1
    | split

theorem State.slotDone_same (s : State) (t : Nat) (r : Nat) (hkm : Sub 4194850 km) (h0 : Same km ka s) : Same km ka (State.slotDone s t r) := by
  unfold State.slotDone
  try dsimp only
  repeat' first
    | with_reducible assumption
    | exact Sub.trans rfl hkm
    | intro _
    | with_reducible apply State.ringLevel_same
    | with_reducible apply State.setCr_same

theorem State.dmaCask_same (s : State) (addr : Nat) (b : List Nat) (hkm : Sub 32 km) (h0 : Same km ka s) : Same km ka (State.dmaCask s addr b) := by
  unfold State.dmaCask
  try dsimp only
  repeat' first
    | with_reducible assumption
    | exact Sub.trans rfl hkm
    | intro _
    | with_reducible apply same_ite
    | with_reducible apply same_foldl
    | with_reducible apply sameR_next
    | with_reducible apply same_foldl1
    | with_reducible apply same_ite1
    | split
    | dsimp only
    | with_reducible apply same_out

theorem State.placeAgain_same (s : State) (t : Nat) (r : Nat) (c : CaskS) (hkm : Sub 32 km) (h0 : Same km ka s) : Same km ka (State.placeAgain s t r c) := by
  unfold State.placeAgain
  try dsimp only
  repeat' first
    | with_reducible assumption
    | exact Sub.trans rfl hkm
    | intro _
    | with_reducible apply State.dmaCask_same
    | with_reducible apply State.writeBack_same
    | with_reducible apply same_ite

theorem State.caskConfirm_same (s : State) (t : Nat) (r : Nat) (ok : Bool) (hkm : Sub 4196898 km) (h0 : Same km ka s) : Same km ka (State.caskConfirm s t r ok) := by
  unfold State.caskConfirm
  try dsimp only
  repeat' first
    | with_reducible assumption
    | exact Sub.trans rfl hkm
    | intro _
    | with_reducible apply State.inc_same
    | with_reducible apply State.writeBack_same
    | with_reducible apply State.setCr_same
    | with_reducible apply State.fenceRing_same
    | with_reducible apply State.showCbuf_same
    | with_reducible apply State.slotDone_same
    | with_reducible apply State.halted_same
    | with_reducible apply State.placeAgain_same
    | with_reducible apply same_ite
    | with_reducible apply same_foldl
    | with_reducible apply sameR_next
    | with_reducible apply same_foldl1
    | with_reducible apply same_ite1
    | split
    | dsimp only
    | with_reducible apply same_rng

theorem execDmaWriteConfirmed_same (t : Nat) (what : Nat) (ok : Bool) (s : State) (hkm : Sub 12585506 km) (h0 : Same km ka s) : SameR km ka (execDmaWriteConfirmed t what ok s) := by
  unfold execDmaWriteConfirmed
  try dsimp only
  repeat' first
    | with_reducible assumption
    | exact Sub.trans rfl hkm
    | intro _
    | with_reducible apply State.cplConfirm_same
    | with_reducible apply State.evConfirm_same
    | with_reducible apply State.resConfirm_same
    | with_reducible apply State.stopRing_same
    | with_reducible apply State.caskConfirm_same
    | with_reducible apply same_ite
    | with_reducible apply same_foldl
    | with_reducible apply sameR_next

theorem State.descRead_same (s : State) (t : Nat) (ok : Bool) (b : List Nat) (hkm : Sub 4194850 km) (h0 : Same km ka s) : Same km ka (State.descRead s t ok b) := by
  unfold State.descRead
  try dsimp only
  repeat' first
    | with_reducible assumption
    | exact Sub.trans rfl hkm
    | intro _
    | with_reducible apply State.inc_same
    | with_reducible apply State.setTr_same
    | with_reducible apply State.halted_same
    | with_reducible apply same_ite

theorem State.postRead_same (s : State) (t : Nat) (r : Nat) (ok : Bool) (b : List Nat) (hkm : Sub 4194850 km) (h0 : Same km ka s) : Same km ka (State.postRead s t r ok b) := by
  unfold State.postRead
  try dsimp only
  repeat' first
    | with_reducible assumption
    | exact Sub.trans rfl hkm
    | intro _
    | with_reducible apply State.inc_same
    | with_reducible apply State.setCr_same
    | with_reducible apply State.halted_same
    | with_reducible apply same_ite

theorem execDmaReadDone_same (t : Nat) (what : Nat) (slot : Nat) (ok : Bool) (b : List Nat) (s : State) (hkm : Sub 12845606 km) (h0 : Same km ka s) : SameR km ka (execDmaReadDone t what slot ok b s) := by
  unfold execDmaReadDone
  try dsimp only
  repeat' first
    | with_reducible assumption
    | exact Sub.trans rfl hkm
    | intro _
    | with_reducible apply State.descRead_same
    | with_reducible apply State.argRead_same
    | with_reducible apply State.postRead_same
    | with_reducible apply same_ite
    | with_reducible apply same_foldl
    | with_reducible apply sameR_next

theorem execCaskAgeExpiry_same (uid : Nat) (ring : Nat) (s : State) (hkm : Sub 12585506 km) (h0 : Same km ka s) : SameR km ka (execCaskAgeExpiry uid ring s) := by
  unfold execCaskAgeExpiry
  try dsimp only
  repeat' first
    | with_reducible assumption
    | exact Sub.trans rfl hkm
    | intro _
    | with_reducible apply State.closeCask_same
    | with_reducible apply same_ite
    | with_reducible apply same_foldl
    | with_reducible apply sameR_next
    | with_reducible apply same_foldl1
    | with_reducible apply same_ite1
    | split

theorem State.declareHeld_same (s : State) (t : Nat) (c : CaskS) (hkm : Sub 4194304 km) (h0 : Same km ka s) : Same km ka (State.declareHeld s t c) := by
  unfold State.declareHeld
  try dsimp only
  repeat' first
    | with_reducible assumption
    | exact Sub.trans rfl hkm
    | intro _
    | with_reducible apply State.applyLoss_same
    | with_reducible apply same_ite
    | with_reducible apply same_foldl
    | with_reducible apply sameR_next
    | with_reducible apply same_foldl1
    | with_reducible apply same_ite1
    | split
    | dsimp only
    | with_reducible apply same_rng

theorem State.caskPlace_same (s : State) (t : Nat) (r : Nat) (hkm : Sub 4194336 km) (h0 : Same km ka s) : Same km ka (State.caskPlace s t r) := by
  unfold State.caskPlace
  try dsimp only
  repeat' first
    | with_reducible assumption
    | exact Sub.trans rfl hkm
    | intro _
    | with_reducible apply State.voidSlot_same
    | with_reducible apply State.declareHeld_same
    | with_reducible apply State.setCr_same
    | with_reducible apply State.dmaCask_same
    | with_reducible apply same_ite
    | with_reducible apply same_foldl
    | with_reducible apply sameR_next
    | with_reducible apply same_foldl1
    | with_reducible apply same_ite1
    | split
    | dsimp only
    | with_reducible apply same_rng

theorem execCaskPlacement_same (t : Nat) (r : Nat) (s : State) (hkm : Sub 4194336 km) (h0 : Same km ka s) : SameR km ka (execCaskPlacement t r s) := by
  unfold execCaskPlacement
  try dsimp only
  repeat' first
    | with_reducible assumption
    | exact Sub.trans rfl hkm
    | intro _
    | with_reducible apply State.caskPlace_same
    | with_reducible apply same_ite
    | with_reducible apply same_foldl
    | with_reducible apply sameR_next

theorem execRingSetup_same (t : Nat) (k : Nat) (s : State) (hkm : Sub 4196898 km) (h0 : Same km ka s) : SameR km ka (execRingSetup t k s) := by
  unfold execRingSetup
  try dsimp only
  repeat' first
    | with_reducible assumption
    | exact Sub.trans rfl hkm
    | intro _
    | with_reducible apply State.barWrite_same
    | with_reducible apply State.rngIdxWrite_same
    | with_reducible apply same_ite
    | with_reducible apply same_foldl
    | with_reducible apply sameR_next

theorem execRingSetupRead_same (t : Nat) (k : Nat) (s : State) (hkm : Sub 4196898 km) (h0 : Same km ka s) : SameR km ka (execRingSetupRead t k s) := by
  unfold execRingSetupRead
  try dsimp only
  repeat' first
    | with_reducible assumption
    | exact Sub.trans rfl hkm
    | intro _
    | with_reducible apply State.barWrite_same
    | with_reducible apply State.rngIdxWrite_same
    | with_reducible apply same_ite
    | with_reducible apply same_foldl
    | with_reducible apply sameR_next

theorem execRingSetupStop_same (t : Nat) (k : Nat) (s : State) (hkm : Sub 4196898 km) (h0 : Same km ka s) : SameR km ka (execRingSetupStop t k s) := by
  unfold execRingSetupStop
  try dsimp only
  repeat' first
    | with_reducible assumption
    | exact Sub.trans rfl hkm
    | intro _
    | with_reducible apply State.barWrite_same
    | with_reducible apply State.rngIdxWrite_same
    | with_reducible apply same_ite
    | with_reducible apply same_foldl
    | with_reducible apply sameR_next

theorem execRngCounterClr_same (v : Word) (s : State) (hkm : Sub 2594 km) (h0 : Same km ka s) : SameR km ka (execRngCounterClr v s) := by
  unfold execRngCounterClr
  try dsimp only
  repeat' first
    | with_reducible assumption
    | exact Sub.trans rfl hkm
    | intro _
    | with_reducible apply State.barWrite_same
    | with_reducible apply State.clrWrite_same
    | with_reducible apply same_ite
    | with_reducible apply same_foldl
    | with_reducible apply sameR_next

theorem execNop_same (s : State) (hkm : Sub 12582946 km) (h0 : Same km ka s) : SameR km ka (execNop s) := by
  unfold execNop
  try dsimp only
  repeat' first
    | with_reducible assumption
    | exact Sub.trans rfl hkm
    | intro _
    | with_reducible apply State.runJob_same
    | with_reducible apply State.finishWith_same
    | with_reducible apply same_ite
    | with_reducible apply same_foldl
    | with_reducible apply sameR_next

theorem State.timeQuery_same (s : State) (j : JobS) (hkm : Sub 12582946 km) (h0 : Same km ka s) : Same km ka (State.timeQuery s j) := by
  unfold State.timeQuery
  try dsimp only
  repeat' first
    | with_reducible assumption
    | exact Sub.trans rfl hkm
    | intro _
    | with_reducible apply State.finish_same

theorem execTime_same (s : State) (hkm : Sub 12582946 km) (h0 : Same km ka s) : SameR km ka (execTime s) := by
  unfold execTime
  try dsimp only
  repeat' first
    | with_reducible assumption
    | exact Sub.trans rfl hkm
    | intro _
    | with_reducible apply State.runJob_same
    | with_reducible apply State.timeQuery_same
    | with_reducible apply same_ite
    | with_reducible apply same_foldl
    | with_reducible apply sameR_next

theorem State.ringStart_same (s : State) (j : JobS) (hkm : Sub 12582946 km) (h0 : Same km ka s) : Same km ka (State.ringStart s j) := by
  unfold State.ringStart
  try dsimp only
  repeat' first
    | with_reducible assumption
    | exact Sub.trans rfl hkm
    | intro _
    | with_reducible apply State.finishWith_same
    | with_reducible apply State.setCr_same
    | with_reducible apply same_ite

theorem execRingStart_same (s : State) (hkm : Sub 12582946 km) (h0 : Same km ka s) : SameR km ka (execRingStart s) := by
  unfold execRingStart
  try dsimp only
  repeat' first
    | with_reducible assumption
    | exact Sub.trans rfl hkm
    | intro _
    | with_reducible apply State.runJob_same
    | with_reducible apply State.ringStart_same
    | with_reducible apply same_ite
    | with_reducible apply same_foldl
    | with_reducible apply sameR_next

theorem State.ringStop_same (s : State) (j : JobS) (hkm : Sub 12585506 km) (h0 : Same km ka s) : Same km ka (State.ringStop s j) := by
  unfold State.ringStop
  try dsimp only
  repeat' first
    | with_reducible assumption
    | exact Sub.trans rfl hkm
    | intro _
    | with_reducible apply State.closeCask_same
    | with_reducible apply State.setCr_same
    | with_reducible apply State.ringLevel_same
    | with_reducible apply State.finishWith_same
    | with_reducible apply same_ite

theorem execRingStop_same (s : State) (hkm : Sub 12585506 km) (h0 : Same km ka s) : SameR km ka (execRingStop s) := by
  unfold execRingStop
  try dsimp only
  repeat' first
    | with_reducible assumption
    | exact Sub.trans rfl hkm
    | intro _
    | with_reducible apply State.runJob_same
    | with_reducible apply State.ringStop_same
    | with_reducible apply State.stopRing_same
    | with_reducible apply same_ite
    | with_reducible apply same_foldl
    | with_reducible apply sameR_next

theorem State.ringResume_same (s : State) (j : JobS) (hkm : Sub 12583458 km) (h0 : Same km ka s) : Same km ka (State.ringResume s j) := by
  unfold State.ringResume
  try dsimp only
  repeat' first
    | with_reducible assumption
    | exact Sub.trans rfl hkm
    | intro _
    | with_reducible apply State.finishWith_same
    | with_reducible apply State.ringLevel_same
    | with_reducible apply State.setCr_same
    | with_reducible apply State.voidSlot_same
    | with_reducible apply same_ite

theorem execRingResume_same (s : State) (hkm : Sub 12583458 km) (h0 : Same km ka s) : SameR km ka (execRingResume s) := by
  unfold execRingResume
  try dsimp only
  repeat' first
    | with_reducible assumption
    | exact Sub.trans rfl hkm
    | intro _
    | with_reducible apply State.runJob_same
    | with_reducible apply State.ringResume_same
    | with_reducible apply same_ite
    | with_reducible apply same_foldl
    | with_reducible apply sameR_next

theorem State.ringFlush_same (s : State) (j : JobS) (hkm : Sub 12585506 km) (h0 : Same km ka s) : Same km ka (State.ringFlush s j) := by
  unfold State.ringFlush
  try dsimp only
  repeat' first
    | with_reducible assumption
    | exact Sub.trans rfl hkm
    | intro _
    | with_reducible apply State.finishWith_same
    | with_reducible apply State.closeCask_same
    | with_reducible apply same_ite

theorem execRingFlush_same (s : State) (hkm : Sub 12585506 km) (h0 : Same km ka s) : SameR km ka (execRingFlush s) := by
  unfold execRingFlush
  try dsimp only
  repeat' first
    | with_reducible assumption
    | exact Sub.trans rfl hkm
    | intro _
    | with_reducible apply State.runJob_same
    | with_reducible apply State.ringFlush_same
    | with_reducible apply same_ite
    | with_reducible apply same_foldl
    | with_reducible apply sameR_next

theorem State.ringQuery_same (s : State) (j : JobS) (hkm : Sub 12582946 km) (h0 : Same km ka s) : Same km ka (State.ringQuery s j) := by
  unfold State.ringQuery
  try dsimp only
  repeat' first
    | with_reducible assumption
    | exact Sub.trans rfl hkm
    | intro _
    | with_reducible apply State.finish_same

theorem execRingQuery_same (s : State) (hkm : Sub 12582946 km) (h0 : Same km ka s) : SameR km ka (execRingQuery s) := by
  unfold execRingQuery
  try dsimp only
  repeat' first
    | with_reducible assumption
    | exact Sub.trans rfl hkm
    | intro _
    | with_reducible apply State.runJob_same
    | with_reducible apply State.ringQuery_same
    | with_reducible apply same_ite
    | with_reducible apply same_foldl
    | with_reducible apply sameR_next

end Sys2Proof.Machine
end

