-- ==== Sys2Proof/Laws/SameFan.lean ====
section
/-! SUPPORT. What the operations of Machine/Fan.lean keep (Laws/Same.lean). -/
set_option Elab.async false
namespace Sys2Proof.Machine

variable {km : Nat} {ka : State}

theorem State.trigPush_same (s : State) (t : TrigS) (hkm : Sub 1048578 km) (h0 : Same km ka s) : Same km ka (State.trigPush s t) := by
  unfold State.trigPush
  try dsimp only
  repeat' first
    | with_reducible assumption
    | exact Sub.trans rfl hkm
    | intro _
    | with_reducible apply State.inc_same
    | with_reducible apply same_ite
    | with_reducible apply same_foldl
    | with_reducible apply sameR_next
    | with_reducible apply same_foldl1
    | with_reducible apply same_ite1
    | split
    | dsimp only
    | with_reducible apply same_rcg

theorem State.rcgFeed_same (s : State) (e : Nat) (ct : Nat) (flags : Nat) (v : Option Int) (past : Int) (hkm : Sub 1048578 km) (h0 : Same km ka s) : Same km ka (State.rcgFeed s e ct flags v past) := by
  unfold State.rcgFeed
  try dsimp only
  repeat' first
    | with_reducible assumption
    | exact Sub.trans rfl hkm
    | intro _
    | with_reducible apply State.trigPush_same
    | with_reducible apply same_ite
    | with_reducible apply same_foldl

theorem State.setEng_same (s : State) (x : Nat) (g : EngS) (hkm : Sub 524288 km) (h0 : Same km ka s) : Same km ka (State.setEng s x g) := by
  unfold State.setEng
  try dsimp only
  repeat' first
    | with_reducible assumption
    | exact Sub.trans rfl hkm
    | intro _
    | with_reducible apply same_ite
    | with_reducible apply same_foldl
    | with_reducible apply sameR_next
    | with_reducible apply same_foldl1
    | with_reducible apply same_ite1
    | split
    | dsimp only
    | with_reducible apply same_msh

theorem State.mashPush_same (s : State) (m : MInS) (hkm : Sub 524290 km) (h0 : Same km ka s) : Same km ka (State.mashPush s m) := by
  unfold State.mashPush
  try dsimp only
  repeat' first
    | with_reducible assumption
    | exact Sub.trans rfl hkm
    | intro _
    | with_reducible apply State.setEng_same
    | with_reducible apply State.inc_same
    | with_reducible apply same_ite

theorem State.mashFeed_same (s : State) (e : Nat) (ct : Nat) (flags : Nat) (v : Option Int) (hkm : Sub 524290 km) (h0 : Same km ka s) : Same km ka (State.mashFeed s e ct flags v) := by
  unfold State.mashFeed
  try dsimp only
  repeat' first
    | with_reducible assumption
    | exact Sub.trans rfl hkm
    | intro _
    | with_reducible apply State.mashPush_same
    | with_reducible apply same_ite
    | with_reducible apply same_foldl

theorem State.missEp_same (s : State) (e : Nat) (ct : Nat) (reason : Nat) (hkm : Sub 14158370 km) (h0 : Same km ka s) : Same km ka (State.missEp s e ct reason) := by
  unfold State.missEp
  try dsimp only
  repeat' first
    | with_reducible assumption
    | exact Sub.trans rfl hkm
    | intro _
    | with_reducible apply State.rcgFeed_same
    | with_reducible apply State.mashFeed_same
    | with_reducible apply State.missSample_same

theorem State.interruptAll_same (s : State) (l : List Nat) (hkm : Sub 13634082 km) (h0 : Same km ka s) : Same km ka (State.interruptAll s l) := by
  unfold State.interruptAll
  try dsimp only
  repeat' first
    | with_reducible assumption
    | exact Sub.trans rfl hkm
    | intro _
    | with_reducible apply State.rcgFeed_same
    | with_reducible apply State.interruptEps_same
    | with_reducible apply same_ite
    | with_reducible apply same_foldl

theorem State.interrupt_same (s : State) (e : Nat) (hkm : Sub 13634082 km) (h0 : Same km ka s) : Same km ka (State.interrupt s e) := by
  unfold State.interrupt
  try dsimp only
  repeat' first
    | with_reducible assumption
    | exact Sub.trans rfl hkm
    | intro _
    | with_reducible apply State.interruptAll_same

theorem State.setCh_same (s : State) (c : Nat) (r : ChS) (hkm : Sub 524288 km) (h0 : Same km ka s) : Same km ka (State.setCh s c r) := by
  unfold State.setCh
  try dsimp only
  repeat' first
    | with_reducible assumption
    | exact Sub.trans rfl hkm
    | intro _
    | with_reducible apply same_ite
    | with_reducible apply same_foldl
    | with_reducible apply sameR_next
    | with_reducible apply same_foldl1
    | with_reducible apply same_ite1
    | split
    | dsimp only
    | with_reducible apply same_msh

theorem State.missRaw_same (s : State) (r : RawS) (reason : Nat) (hkm : Sub 14158370 km) (h0 : Same km ka s) : Same km ka (State.missRaw s r reason) := by
  unfold State.missRaw
  try dsimp only
  repeat' first
    | with_reducible assumption
    | exact Sub.trans rfl hkm
    | intro _
    | with_reducible apply State.missEp_same
    | with_reducible apply same_ite

theorem State.enqueueRaw_same (s : State) (r : RawS) (hkm : Sub 14420514 km) (h0 : Same km ka s) : Same km ka (State.enqueueRaw s r) := by
  unfold State.enqueueRaw
  try dsimp only
  repeat' first
    | with_reducible assumption
    | exact Sub.trans rfl hkm
    | intro _
    | with_reducible apply State.missRaw_same
    | with_reducible apply State.inc_same
    | with_reducible apply same_ite
    | with_reducible apply same_foldl
    | with_reducible apply sameR_next
    | with_reducible apply same_foldl1
    | with_reducible apply same_ite1
    | split
    | dsimp only
    | with_reducible apply same_ept

theorem State.setEp_same (s : State) (e : Nat) (r : EpS) (hkm : Sub 262144 km) (h0 : Same km ka s) : Same km ka (State.setEp s e r) := by
  unfold State.setEp
  try dsimp only
  repeat' first
    | with_reducible assumption
    | exact Sub.trans rfl hkm
    | intro _
    | with_reducible apply same_ite
    | with_reducible apply same_foldl
    | with_reducible apply sameR_next
    | with_reducible apply same_foldl1
    | with_reducible apply same_ite1
    | split
    | dsimp only
    | with_reducible apply same_ept

end Sys2Proof.Machine
end

