-- ==== Sys2Proof/Laws/SamePsc.lean ====
section
/-! SUPPORT. What the operations of Machine/Psc.lean keep (Laws/Same.lean). -/
set_option Elab.async false
namespace Sys2Proof.Machine

variable {km : Nat} {ka : State}

theorem State.setBus_same (s : State) (b : Nat) (x : BusS) (hkm : Sub 8192 km) (h0 : Same km ka s) : Same km ka (State.setBus s b x) := by
  unfold State.setBus
  try dsimp only
  repeat' first
    | with_reducible assumption
    | exact Sub.trans rfl hkm
    | intro _
    | with_reducible apply same_ite
    | with_reducible apply same_foldl
    | with_reducible apply sameR_next
    | with_reducible apply same_foldl1
    | with_reducible apply same_ite1
    | split
    | dsimp only
    | with_reducible apply same_crs

theorem State.pollPast_same (s : State) (ep : Nat) (t : Nat) (hkm : Sub 4096 km) (h0 : Same km ka s) : Same km ka (State.pollPast s ep t) := by
  unfold State.pollPast
  try dsimp only
  repeat' first
    | with_reducible assumption
    | exact Sub.trans rfl hkm
    | intro _
    | with_reducible apply same_ite
    | with_reducible apply same_foldl
    | with_reducible apply sameR_next
    | with_reducible apply same_foldl1
    | with_reducible apply same_ite1
    | split
    | dsimp only
    | with_reducible apply same_psc

theorem State.missPoll_same (s : State) (ep : Nat) (t : Nat) (reason : Nat) (hkm : Sub 14158370 km) (h0 : Same km ka s) : Same km ka (State.missPoll s ep t reason) := by
  unfold State.missPoll
  try dsimp only
  repeat' first
    | with_reducible assumption
    | exact Sub.trans rfl hkm
    | intro _
    | with_reducible apply State.missEp_same
    | with_reducible apply State.missBlock_same
    | with_reducible apply same_ite
    | with_reducible apply same_foldl

theorem State.missOnce_same (s : State) (ep : Nat) (t : Nat) (hkm : Sub 14162466 km) (h0 : Same km ka s) : Same km ka (State.missOnce s ep t) := by
  unfold State.missOnce
  try dsimp only
  repeat' first
    | with_reducible assumption
    | exact Sub.trans rfl hkm
    | intro _
    | with_reducible apply State.pollPast_same
    | with_reducible apply State.missPoll_same
    | with_reducible apply same_ite

theorem State.setNode_same (s : State) (b : Nat) (a : Nat) (n : NodeS) (hkm : Sub 8192 km) (h0 : Same km ka s) : Same km ka (State.setNode s b a n) := by
  unfold State.setNode
  try dsimp only
  repeat' first
    | with_reducible assumption
    | exact Sub.trans rfl hkm
    | intro _
    | with_reducible apply same_ite
    | with_reducible apply same_foldl
    | with_reducible apply sameR_next
    | with_reducible apply same_foldl1
    | with_reducible apply same_ite1
    | split
    | dsimp only
    | with_reducible apply same_crs

theorem State.modEnt_same (s : State) (n : Nat) (f : EntS → EntS) (hkm : Sub 4096 km) (h0 : Same km ka s) : Same km ka (State.modEnt s n f) := by
  unfold State.modEnt
  try dsimp only
  repeat' first
    | with_reducible assumption
    | exact Sub.trans rfl hkm
    | intro _
    | with_reducible apply same_ite
    | with_reducible apply same_foldl
    | with_reducible apply sameR_next
    | with_reducible apply same_foldl1
    | with_reducible apply same_ite1
    | split
    | dsimp only
    | with_reducible apply same_psc

theorem State.missEach_same (s : State) (idx : Nat) (t : Nat) (eps : List Nat) (hkm : Sub 14162466 km) (h0 : Same km ka s) : Same km ka (State.missEach s idx t eps) := by
  unfold State.missEach
  try dsimp only
  repeat' first
    | with_reducible assumption
    | exact Sub.trans rfl hkm
    | intro _
    | with_reducible apply State.missOnce_same
    | with_reducible apply same_ite
    | with_reducible apply same_foldl

theorem State.missPolls_same (s : State) (idx : Nat) (t : Nat) (eps : List Nat) (hkm : Sub 14162466 km) (h0 : Same km ka s) : Same km ka (State.missPolls s idx t eps) := by
  unfold State.missPolls
  try dsimp only
  repeat' first
    | with_reducible assumption
    | exact Sub.trans rfl hkm
    | intro _
    | with_reducible apply State.missEach_same
    | with_reducible apply State.modEnt_same

theorem State.burstStart_same (s : State) (idx : Nat) (ideal : Nat) (g : Nat) (hkm : Sub 14162466 km) (h0 : Same km ka s) : Same km ka (State.burstStart s idx ideal g) := by
  unfold State.burstStart
  try dsimp only
  repeat' first
    | with_reducible assumption
    | exact Sub.trans rfl hkm
    | intro _
    | with_reducible apply State.modEnt_same
    | with_reducible apply State.missPolls_same
    | with_reducible apply same_ite
    | with_reducible apply same_foldl
    | with_reducible apply sameR_next
    | with_reducible apply same_foldl1
    | with_reducible apply same_ite1
    | split

theorem State.triggerEnt_same (s : State) (idx : Nat) (t : Nat) (hkm : Sub 14162466 km) (h0 : Same km ka s) : Same km ka (State.triggerEnt s idx t) := by
  unfold State.triggerEnt
  try dsimp only
  repeat' first
    | with_reducible assumption
    | exact Sub.trans rfl hkm
    | intro _
    | with_reducible apply State.inc_same
    | with_reducible apply State.burstStart_same
    | with_reducible apply same_ite
    | with_reducible apply same_foldl
    | with_reducible apply sameR_next
    | with_reducible apply same_foldl1
    | with_reducible apply same_ite1
    | split

theorem State.triggerHere_same (s : State) (tid : Nat) (group : Nat) (t : Nat) (hkm : Sub 14162466 km) (h0 : Same km ka s) : Same km ka (State.triggerHere s tid group t) := by
  unfold State.triggerHere
  try dsimp only
  repeat' first
    | with_reducible assumption
    | exact Sub.trans rfl hkm
    | intro _
    | with_reducible apply State.inc_same
    | with_reducible apply State.burstStart_same
    | with_reducible apply same_ite
    | with_reducible apply same_foldl

theorem State.triggerGroup_same (s : State) (tid : Nat) (group : Nat) (t : Nat) (hkm : Sub 14162466 km) (h0 : Same km ka s) : Same km ka (State.triggerGroup s tid group t) := by
  unfold State.triggerGroup
  try dsimp only
  repeat' first
    | with_reducible assumption
    | exact Sub.trans rfl hkm
    | intro _
    | with_reducible apply State.triggerHere_same
    | with_reducible apply State.sendMsg_same
    | with_reducible apply same_ite
    | with_reducible apply same_foldl

theorem State.trigger_same (s : State) (idx : Nat) (t : Nat) (hkm : Sub 14162466 km) (h0 : Same km ka s) : Same km ka (State.trigger s idx t) := by
  unfold State.trigger
  try dsimp only
  repeat' first
    | with_reducible assumption
    | exact Sub.trans rfl hkm
    | intro _
    | with_reducible apply State.inc_same
    | with_reducible apply State.triggerEnt_same
    | with_reducible apply State.triggerGroup_same
    | with_reducible apply same_ite
    | with_reducible apply same_foldl
    | with_reducible apply sameR_next
    | with_reducible apply same_foldl1
    | with_reducible apply same_ite1
    | split

theorem State.checkEnd_same (s : State) (idx : Nat) (hkm : Sub 4096 km) (h0 : Same km ka s) : Same km ka (State.checkEnd s idx) := by
  unfold State.checkEnd
  try dsimp only
  repeat' first
    | with_reducible assumption
    | exact Sub.trans rfl hkm
    | intro _
    | with_reducible apply State.modEnt_same
    | with_reducible apply same_ite
    | with_reducible apply same_foldl
    | with_reducible apply sameR_next
    | with_reducible apply same_foldl1
    | with_reducible apply same_ite1
    | split

theorem State.passOne_same (idx : Nat) (s : State) (hkm : Sub 14162466 km) (h0 : Same km ka s) : Same km ka (State.passOne idx s) := by
  unfold State.passOne
  try dsimp only
  repeat' first
    | with_reducible assumption
    | exact Sub.trans rfl hkm
    | intro _
    | with_reducible apply State.checkEnd_same
    | with_reducible apply State.missPolls_same
    | with_reducible apply State.modEnt_same
    | with_reducible apply State.inc_same
    | with_reducible apply same_ite
    | with_reducible apply same_foldl
    | with_reducible apply sameR_next
    | with_reducible apply same_foldl1
    | with_reducible apply same_ite1
    | split

theorem State.passTo_same (s : State) (e : EntS) (t : Nat) (hkm : Sub 14162466 km) (h0 : Same km ka s) : Same km ka (State.passTo s e t) := by
  unfold State.passTo
  try dsimp only
  repeat' first
    | with_reducible assumption
    | exact Sub.trans rfl hkm
    | intro _
    | with_reducible apply times_same
    | with_reducible apply State.passOne_same

theorem State.passBefore_same (s : State) (t : Nat) (hkm : Sub 14162466 km) (h0 : Same km ka s) : Same km ka (State.passBefore s t) := by
  unfold State.passBefore
  try dsimp only
  repeat' first
    | with_reducible assumption
    | exact Sub.trans rfl hkm
    | intro _
    | with_reducible apply State.passTo_same
    | with_reducible apply same_ite
    | with_reducible apply same_foldl

theorem State.passMissed_same (s : State) (hkm : Sub 14162466 km) (h0 : Same km ka s) : Same km ka (State.passMissed s) := by
  unfold State.passMissed
  try dsimp only
  repeat' first
    | with_reducible assumption
    | exact Sub.trans rfl hkm
    | intro _
    | with_reducible apply State.passBefore_same

theorem State.suspendAt_same (s : State) (e : EntS) (c : Nat) (hkm : Sub 4096 km) (h0 : Same km ka s) : Same km ka (State.suspendAt s e c) := by
  unfold State.suspendAt
  try dsimp only
  repeat' first
    | with_reducible assumption
    | exact Sub.trans rfl hkm
    | intro _
    | with_reducible apply State.modEnt_same
    | with_reducible apply same_ite

theorem State.resumeAt_same (s : State) (idx : Nat) (g : Nat) (hkm : Sub 14162466 km) (h0 : Same km ka s) : Same km ka (State.resumeAt s idx g) := by
  unfold State.resumeAt
  try dsimp only
  repeat' first
    | with_reducible assumption
    | exact Sub.trans rfl hkm
    | intro _
    | with_reducible apply State.modEnt_same
    | with_reducible apply State.passTo_same
    | with_reducible apply same_ite
    | with_reducible apply same_foldl
    | with_reducible apply sameR_next
    | with_reducible apply same_foldl1
    | with_reducible apply same_ite1
    | split

theorem State.schedStage_same (s : State) (hkm : Sub 14162466 km) (h0 : Same km ka s) : Same km ka (State.schedStage s) := by
  unfold State.schedStage
  try dsimp only
  repeat' first
    | with_reducible assumption
    | exact Sub.trans rfl hkm
    | intro _
    | with_reducible apply State.passMissed_same
    | with_reducible apply State.suspendAt_same
    | with_reducible apply State.passTo_same
    | with_reducible apply State.resumeAt_same
    | with_reducible apply State.f_same
    | with_reducible apply same_ite
    | with_reducible apply same_foldl

theorem State.pscSts_same (s : State) (hkm : Sub 2 km) (h0 : Same km ka s) : Same km ka (State.pscSts s) := by
  unfold State.pscSts
  try dsimp only
  repeat' first
    | with_reducible assumption
    | exact Sub.trans rfl hkm
    | intro _
    | with_reducible apply State.f_same

theorem State.entRecord_same (s : State) (e : EntS) (t : Nat) (code : Nat) (status : Nat) (hkm : Sub 12585506 km) (h0 : Same km ka s) : Same km ka (State.entRecord s e t code status) := by
  unfold State.entRecord
  try dsimp only
  repeat' first
    | with_reducible assumption
    | exact Sub.trans rfl hkm
    | intro _
    | with_reducible apply State.placeSampleEv_same

theorem State.finTxn_same (s : State) (x : TxnS) (status : Nat) (hkm : Sub 12851746 km) (h0 : Same km ka s) : Same km ka (State.finTxn s x status) := by
  unfold State.finTxn
  try dsimp only
  repeat' first
    | with_reducible assumption
    | exact Sub.trans rfl hkm
    | intro _
    | with_reducible apply State.dropTag_same
    | with_reducible apply State.inc_same
    | with_reducible apply State.modEnt_same
    | with_reducible apply State.entRecord_same
    | with_reducible apply State.drainStreams_same
    | with_reducible apply State.checkEnd_same
    | with_reducible apply same_ite
    | with_reducible apply same_foldl
    | with_reducible apply sameR_next
    | with_reducible apply same_foldl1
    | with_reducible apply same_ite1
    | split
    | dsimp only
    | with_reducible apply same_psc

theorem State.loseTxn_same (s : State) (x : TxnS) (status : Nat) (hkm : Sub 14424610 km) (h0 : Same km ka s) : Same km ka (State.loseTxn s x status) := by
  unfold State.loseTxn
  try dsimp only
  repeat' first
    | with_reducible assumption
    | exact Sub.trans rfl hkm
    | intro _
    | with_reducible apply State.finTxn_same
    | with_reducible apply State.missEach_same
    | with_reducible apply same_ite
    | with_reducible apply same_foldl
    | with_reducible apply sameR_next
    | with_reducible apply same_foldl1
    | with_reducible apply same_ite1
    | split
    | dsimp only
    | with_reducible apply same_psc

theorem State.abandonTxns_same (s : State) (hkm : Sub 14424610 km) (h0 : Same km ka s) : Same km ka (State.abandonTxns s) := by
  unfold State.abandonTxns
  try dsimp only
  repeat' first
    | with_reducible assumption
    | exact Sub.trans rfl hkm
    | intro _
    | with_reducible apply State.inc_same
    | with_reducible apply State.dropTag_same
    | with_reducible apply State.missPolls_same
    | with_reducible apply State.drainStreams_same
    | with_reducible apply State.checkEnd_same
    | with_reducible apply same_ite
    | with_reducible apply same_foldl
    | with_reducible apply sameR_next
    | with_reducible apply same_foldl1
    | with_reducible apply same_ite1
    | split
    | dsimp only
    | with_reducible apply same_psc

theorem State.reachCut_same (s : State) (idx : Nat) (hkm : Sub 14162466 km) (h0 : Same km ka s) : Same km ka (State.reachCut s idx) := by
  unfold State.reachCut
  try dsimp only
  repeat' first
    | with_reducible assumption
    | exact Sub.trans rfl hkm
    | intro _
    | with_reducible apply State.modEnt_same
    | with_reducible apply State.passTo_same
    | with_reducible apply same_ite
    | with_reducible apply same_foldl
    | with_reducible apply sameR_next
    | with_reducible apply same_foldl1
    | with_reducible apply same_ite1
    | split

theorem State.commitInst_same (s : State) (e : EntS) (t : Nat) (b : Nat) (cyc : Nat) (hkm : Sub 14162466 km) (h0 : Same km ka s) : Same km ka (State.commitInst s e t b cyc).1 := by
  unfold State.commitInst
  try dsimp only
  repeat' first
    | with_reducible assumption
    | exact Sub.trans rfl hkm
    | intro _
    | with_reducible apply State.modEnt_same
    | with_reducible apply State.takeTag_same
    | with_reducible apply State.inc_same
    | with_reducible apply State.checkEnd_same
    | with_reducible apply State.missPolls_same
    | with_reducible apply same_ite
    | with_reducible apply same_foldl
    | with_reducible apply sameR_next
    | with_reducible apply same_foldl1
    | with_reducible apply same_ite1
    | split
    | dsimp only
    | with_reducible apply same_psc

theorem State.pollGot_same (s : State) (ep : Nat) (t : Nat) (retried : Bool) (hkm : Sub 14424610 km) (h0 : Same km ka s) : Same km ka (State.pollGot s ep t retried) := by
  unfold State.pollGot
  try dsimp only
  repeat' first
    | with_reducible assumption
    | exact Sub.trans rfl hkm
    | intro _
    | with_reducible apply State.pollPast_same
    | with_reducible apply State.passBefore_same
    | with_reducible apply State.drainStreams_same
    | with_reducible apply State.finTxn_same
    | with_reducible apply same_ite
    | with_reducible apply same_foldl
    | with_reducible apply sameR_next
    | with_reducible apply same_foldl1
    | with_reducible apply same_ite1
    | split
    | dsimp only
    | with_reducible apply same_psc

end Sys2Proof.Machine
end

