-- ==== Sys2Proof/Laws/SameCrs.lean ====
section
/-! SUPPORT. What the operations of Machine/Crs.lean keep (Laws/Same.lean). -/
set_option Elab.async false
namespace Sys2Proof.Machine

variable {km : Nat} {ka : State}

theorem State.segmentOn_same (s : State) (k : Nat) (hkm : Sub 8194 km) (h0 : Same km ka s) : Same km ka (State.segmentOn s k) := by
  unfold State.segmentOn
  try dsimp only
  repeat' first
    | with_reducible assumption
    | exact Sub.trans rfl hkm
    | intro _
    | with_reducible apply State.f_same
    | with_reducible apply State.setBus_same
    | with_reducible apply same_ite
    | with_reducible apply same_foldl

theorem State.flushCmds_same (s : State) (b : Nat) (a : Nat) (hkm : Sub 12591138 km) (h0 : Same km ka s) : Same km ka (State.flushCmds s b a) := by
  unfold State.flushCmds
  try dsimp only
  repeat' first
    | with_reducible assumption
    | exact Sub.trans rfl hkm
    | intro _
    | with_reducible apply State.finishId_same
    | with_reducible apply State.setBus_same
    | with_reducible apply same_ite
    | with_reducible apply same_foldl
    | with_reducible apply sameR_next
    | with_reducible apply same_foldl1
    | with_reducible apply same_ite1
    | split

theorem State.abandonLayout_same (s : State) (b : Nat) (hkm : Sub 8192 km) (h0 : Same km ka s) : Same km ka (State.abandonLayout s b) := by
  unfold State.abandonLayout
  try dsimp only
  repeat' first
    | with_reducible assumption
    | exact Sub.trans rfl hkm
    | intro _
    | with_reducible apply State.setBus_same
    | with_reducible apply same_ite
    | with_reducible apply same_foldl
    | with_reducible apply sameR_next
    | with_reducible apply same_foldl1
    | with_reducible apply same_ite1
    | split

theorem State.endAdm_same (s : State) (b : Nat) (hkm : Sub 8194 km) (h0 : Same km ka s) : Same km ka (State.endAdm s b) := by
  unfold State.endAdm
  try dsimp only
  repeat' first
    | with_reducible assumption
    | exact Sub.trans rfl hkm
    | intro _
    | with_reducible apply State.f_same
    | with_reducible apply State.setBus_same

theorem State.entWait_same (s : State) (id : Nat) (hkm : Sub 4096 km) (h0 : Same km ka s) : Same km ka (State.entWait s id) := by
  unfold State.entWait
  try dsimp only
  repeat' first
    | with_reducible assumption
    | exact Sub.trans rfl hkm
    | intro _
    | with_reducible apply same_ite
    | with_reducible apply same_foldl
    | with_reducible apply sameR_next
    | with_reducible apply same_foldl1
    | with_reducible apply same_ite1
    | split
    | dsimp only
    | with_reducible apply same_psc

theorem State.removeNode_same (s : State) (b : Nat) (a : Nat) (hkm : Sub 12595234 km) (h0 : Same km ka s) : Same km ka (State.removeNode s b a) := by
  unfold State.removeNode
  try dsimp only
  repeat' first
    | with_reducible assumption
    | exact Sub.trans rfl hkm
    | intro _
    | with_reducible apply State.flushCmds_same
    | with_reducible apply State.abandonLayout_same
    | with_reducible apply State.setBus_same
    | with_reducible apply State.endAdm_same
    | with_reducible apply State.setNode_same
    | with_reducible apply State.zero_same
    | with_reducible apply State.wr_same
    | with_reducible apply State.entWait_same
    | with_reducible apply same_ite
    | with_reducible apply same_foldl
    | with_reducible apply sameR_next
    | with_reducible apply same_foldl1
    | with_reducible apply same_ite1
    | split

theorem State.nodeRecord_same (s : State) (code : Nat) (b : Nat) (a : Nat) (reason : Nat) (id : Nat) (d : Nat) (hkm : Sub 12582946 km) (h0 : Same km ka s) : Same km ka (State.nodeRecord s code b a reason id d) := by
  unfold State.nodeRecord
  try dsimp only
  repeat' first
    | with_reducible assumption
    | exact Sub.trans rfl hkm
    | intro _
    | with_reducible apply State.recordNode_same

theorem State.refuse_same (s : State) (b : Nat) (reason : Nat) (id : Nat) (nonce : Nat) (addr : Nat) (hkm : Sub 12591142 km) (h0 : Same km ka s) : Same km ka (State.refuse s b reason id nonce addr) := by
  unfold State.refuse
  try dsimp only
  repeat' first
    | with_reducible assumption
    | exact Sub.trans rfl hkm
    | intro _
    | with_reducible apply State.f_same
    | with_reducible apply State.inc_same
    | with_reducible apply State.nodeRecord_same
    | with_reducible apply State.drew_same
    | with_reducible apply State.setBus_same
    | with_reducible apply same_ite

theorem State.refuseAdm_same (s : State) (b : Nat) (reason : Nat) (hkm : Sub 12595238 km) (h0 : Same km ka s) : Same km ka (State.refuseAdm s b reason) := by
  unfold State.refuseAdm
  try dsimp only
  repeat' first
    | with_reducible assumption
    | exact Sub.trans rfl hkm
    | intro _
    | with_reducible apply State.removeNode_same
    | with_reducible apply State.refuse_same
    | with_reducible apply same_ite
    | with_reducible apply same_foldl
    | with_reducible apply sameR_next
    | with_reducible apply same_foldl1
    | with_reducible apply same_ite1
    | split

theorem State.deadmit_same (s : State) (b : Nat) (a : Nat) (hkm : Sub 12595234 km) (h0 : Same km ka s) : Same km ka (State.deadmit s b a) := by
  unfold State.deadmit
  try dsimp only
  repeat' first
    | with_reducible assumption
    | exact Sub.trans rfl hkm
    | intro _
    | with_reducible apply State.removeNode_same
    | with_reducible apply State.nodeRecord_same

theorem State.haltBus_same (s : State) (b : Nat) (hkm : Sub 12595234 km) (h0 : Same km ka s) : Same km ka (State.haltBus s b) := by
  unfold State.haltBus
  try dsimp only
  repeat' first
    | with_reducible assumption
    | exact Sub.trans rfl hkm
    | intro _
    | with_reducible apply State.removeNode_same
    | with_reducible apply State.setBus_same
    | with_reducible apply State.endAdm_same
    | with_reducible apply State.zero_same
    | with_reducible apply same_ite
    | with_reducible apply same_foldl

theorem State.segmentOff_same (s : State) (k : Nat) (hkm : Sub 12595234 km) (h0 : Same km ka s) : Same km ka (State.segmentOff s k) := by
  unfold State.segmentOff
  try dsimp only
  repeat' first
    | with_reducible assumption
    | exact Sub.trans rfl hkm
    | intro _
    | with_reducible apply State.f_same
    | with_reducible apply State.setBus_same
    | with_reducible apply State.haltBus_same
    | with_reducible apply same_ite
    | with_reducible apply same_foldl

theorem State.queueCmd_same (s : State) (b : Nat) (c : NcmdS) (hkm : Sub 8192 km) (h0 : Same km ka s) : Same km ka (State.queueCmd s b c) := by
  unfold State.queueCmd
  try dsimp only
  repeat' first
    | with_reducible assumption
    | exact Sub.trans rfl hkm
    | intro _
    | with_reducible apply State.setBus_same

theorem State.firstCmd_same (s : State) (b : Nat) (a : Nat) (c : NcmdS) (hkm : Sub 8192 km) (h0 : Same km ka s) : Same km ka (State.firstCmd s b a c) := by
  unfold State.firstCmd
  try dsimp only
  repeat' first
    | with_reducible assumption
    | exact Sub.trans rfl hkm
    | intro _
    | with_reducible apply State.setNode_same
    | with_reducible apply State.setBus_same

theorem State.nodeCmd_same (s : State) (b : Nat) (a : Nat) (c : NcmdS) (hkm : Sub 8192 km) (h0 : Same km ka s) : Same km ka (State.nodeCmd s b a c) := by
  unfold State.nodeCmd
  try dsimp only
  repeat' first
    | with_reducible assumption
    | exact Sub.trans rfl hkm
    | intro _
    | with_reducible apply State.setNode_same
    | with_reducible apply State.queueCmd_same

theorem State.startLayout_same (s : State) (b : Nat) (hkm : Sub 8192 km) (h0 : Same km ka s) : Same km ka (State.startLayout s b) := by
  unfold State.startLayout
  try dsimp only
  repeat' first
    | with_reducible assumption
    | exact Sub.trans rfl hkm
    | intro _
    | with_reducible apply State.abandonLayout_same
    | with_reducible apply State.setBus_same
    | with_reducible apply State.nodeCmd_same
    | with_reducible apply same_ite
    | with_reducible apply same_foldl

end Sys2Proof.Machine
end

