-- ==== Sys2Proof/Laws/SameGuard.lean ====
section
/-! SUPPORT. What the operations of Machine/Guard.lean keep (Laws/Same.lean). -/
set_option Elab.async false
namespace Sys2Proof.Machine

variable {km : Nat} {ka : State}

theorem State.setGu_same (s : State) (c : Nat) (u : GuS) (hkm : Sub 16384 km) (h0 : Same km ka s) : Same km ka (State.setGu s c u) := by
  unfold State.setGu
  try dsimp only
  repeat' first
    | with_reducible assumption
    | exact Sub.trans rfl hkm
    | intro _
    | with_reducible apply same_ite
    | with_reducible apply same_foldl
    | with_reducible apply sameR_next
    | with_reducible apply same_foldl1
    | with_reducible apply same_ite1
    | split
    | dsimp only
    | with_reducible apply same_grd

theorem State.setLoopAt_same (s : State) (x : Nat) (r : Nat × Nat) (hkm : Sub 16384 km) (h0 : Same km ka s) : Same km ka (State.setLoopAt s x r) := by
  unfold State.setLoopAt
  try dsimp only
  repeat' first
    | with_reducible assumption
    | exact Sub.trans rfl hkm
    | intro _
    | with_reducible apply same_ite
    | with_reducible apply same_foldl
    | with_reducible apply sameR_next
    | with_reducible apply same_foldl1
    | with_reducible apply same_ite1
    | split
    | dsimp only
    | with_reducible apply same_grd

theorem State.loopJudge_same (s : State) (x : Nat) (hkm : Sub 16390 km) (h0 : Same km ka s) : Same km ka (State.loopJudge s x) := by
  unfold State.loopJudge
  try dsimp only
  repeat' first
    | with_reducible assumption
    | exact Sub.trans rfl hkm
    | intro _
    | with_reducible apply State.f_same
    | with_reducible apply State.setLoopAt_same
    | with_reducible apply State.drew_same
    | with_reducible apply same_ite

theorem State.setComps_same (s : State) (x : Nat) (l : List (Nat × Option Nat)) (hkm : Sub 16384 km) (h0 : Same km ka s) : Same km ka (State.setComps s x l) := by
  unfold State.setComps
  try dsimp only
  repeat' first
    | with_reducible assumption
    | exact Sub.trans rfl hkm
    | intro _
    | with_reducible apply same_ite
    | with_reducible apply same_foldl
    | with_reducible apply sameR_next
    | with_reducible apply same_foldl1
    | with_reducible apply same_ite1
    | split
    | dsimp only
    | with_reducible apply same_grd

theorem State.compEnd_same (s : State) (x : Nat) (hkm : Sub 16386 km) (h0 : Same km ka s) : Same km ka (State.compEnd s x) := by
  unfold State.compEnd
  try dsimp only
  repeat' first
    | with_reducible assumption
    | exact Sub.trans rfl hkm
    | intro _
    | with_reducible apply State.f_same
    | with_reducible apply State.setComps_same

theorem State.driveFollow_same (s : State) (x : Nat) (hkm : Sub 16390 km) (h0 : Same km ka s) : Same km ka (State.driveFollow s x) := by
  unfold State.driveFollow
  try dsimp only
  repeat' first
    | with_reducible assumption
    | exact Sub.trans rfl hkm
    | intro _
    | with_reducible apply State.loopJudge_same
    | with_reducible apply State.f_same
    | with_reducible apply State.compEnd_same
    | with_reducible apply State.zero_same
    | with_reducible apply State.setLoopAt_same
    | with_reducible apply same_ite

theorem State.showGsts_same (s : State) (hkm : Sub 2 km) (h0 : Same km ka s) : Same km ka (State.showGsts s) := by
  unfold State.showGsts
  try dsimp only
  repeat' first
    | with_reducible assumption
    | exact Sub.trans rfl hkm
    | intro _
    | with_reducible apply State.f_same

theorem State.setGuState_same (s : State) (c : Nat) (st : Nat) (hkm : Sub 12611622 km) (h0 : Same km ka s) : Same km ka (State.setGuState s c st) := by
  unfold State.setGuState
  try dsimp only
  repeat' first
    | with_reducible assumption
    | exact Sub.trans rfl hkm
    | intro _
    | with_reducible apply State.f_same
    | with_reducible apply State.setGu_same
    | with_reducible apply State.segmentOn_same
    | with_reducible apply State.segmentOff_same
    | with_reducible apply State.driveFollow_same
    | with_reducible apply State.showGsts_same
    | with_reducible apply same_ite

theorem State.guSafe_same (s : State) (c : Nat) (hkm : Sub 12611622 km) (h0 : Same km ka s) : Same km ka (State.guSafe s c) := by
  unfold State.guSafe
  try dsimp only
  repeat' first
    | with_reducible assumption
    | exact Sub.trans rfl hkm
    | intro _
    | with_reducible apply State.setGu_same
    | with_reducible apply State.setGuState_same
    | with_reducible apply same_ite

theorem State.applySafe_same (s : State) (hkm : Sub 12611622 km) (h0 : Same km ka s) : Same km ka (State.applySafe s) := by
  unfold State.applySafe
  try dsimp only
  repeat' first
    | with_reducible assumption
    | exact Sub.trans rfl hkm
    | intro _
    | with_reducible apply State.guSafe_same
    | with_reducible apply State.f_same
    | with_reducible apply same_ite
    | with_reducible apply same_foldl

theorem State.failOutputs_same (s : State) (hkm : Sub 12611622 km) (h0 : Same km ka s) : Same km ka (State.failOutputs s) := by
  unfold State.failOutputs
  try dsimp only
  repeat' first
    | with_reducible assumption
    | exact Sub.trans rfl hkm
    | intro _
    | with_reducible apply State.applySafe_same
    | with_reducible apply State.setGuState_same
    | with_reducible apply same_ite
    | with_reducible apply same_foldl

theorem State.lockWrite_same (s : State) (v : Word) (hkm : Sub 2 km) (h0 : Same km ka s) : Same km ka (State.lockWrite s v) := by
  unfold State.lockWrite
  try dsimp only
  repeat' first
    | with_reducible assumption
    | exact Sub.trans rfl hkm
    | intro _
    | with_reducible apply State.store_same
    | with_reducible apply State.showGsts_same
    | with_reducible apply State.lockChannels_same
    | with_reducible apply same_ite

theorem execGuardLock_same (s : State) (hkm : Sub 2594 km) (h0 : Same km ka s) : SameR km ka (execGuardLock s) := by
  unfold execGuardLock
  try dsimp only
  repeat' first
    | with_reducible assumption
    | exact Sub.trans rfl hkm
    | intro _
    | with_reducible apply State.barWrite_same
    | with_reducible apply State.lockWrite_same
    | with_reducible apply same_ite
    | with_reducible apply same_foldl
    | with_reducible apply sameR_next

theorem State.closeTrip_same (s : State) (c : Nat) (hkm : Sub 12600866 km) (h0 : Same km ka s) : Same km ka (State.closeTrip s c) := by
  unfold State.closeTrip
  try dsimp only
  repeat' first
    | with_reducible assumption
    | exact Sub.trans rfl hkm
    | intro _
    | with_reducible apply State.f64_same
    | with_reducible apply State.setGu_same
    | with_reducible apply State.raiseHub_same
    | with_reducible apply State.event_same
    | with_reducible apply State.recordHosts_same
    | with_reducible apply same_ite
    | with_reducible apply same_foldl
    | with_reducible apply sameR_next
    | with_reducible apply same_foldl1
    | with_reducible apply same_ite1
    | split

theorem State.takeTrip_same (s : State) (c : Nat) (cause : Nat) (hkm : Sub 33570818 km) (h0 : Same km ka s) : Same km ka (State.takeTrip s c cause) := by
  unfold State.takeTrip
  try dsimp only
  repeat' first
    | with_reducible assumption
    | exact Sub.trans rfl hkm
    | intro _
    | with_reducible apply State.f_same
    | with_reducible apply State.inc_same
    | with_reducible apply State.lifeInc_same
    | with_reducible apply State.setGu_same
    | with_reducible apply same_ite

theorem State.tripNow_same (s : State) (c : Nat) (cause : Nat) (hkm : Sub 46166054 km) (h0 : Same km ka s) : Same km ka (State.tripNow s c cause) := by
  unfold State.tripNow
  try dsimp only
  repeat' first
    | with_reducible assumption
    | exact Sub.trans rfl hkm
    | intro _
    | with_reducible apply State.incBy_same
    | with_reducible apply State.takeTrip_same
    | with_reducible apply State.setGuState_same
    | with_reducible apply same_ite

theorem State.joinTrip_same (s : State) (c : Nat) (cause : Nat) (hkm : Sub 2 km) (h0 : Same km ka s) : Same km ka (State.joinTrip s c cause) := by
  unfold State.joinTrip
  try dsimp only
  repeat' first
    | with_reducible assumption
    | exact Sub.trans rfl hkm
    | intro _
    | with_reducible apply State.f_same

theorem State.guardTrip_same (s : State) (c : Nat) (cause : Nat) (hkm : Sub 46166566 km) (h0 : Same km ka s) : Same km ka (State.guardTrip s c cause) := by
  unfold State.guardTrip
  try dsimp only
  repeat' first
    | with_reducible assumption
    | exact Sub.trans rfl hkm
    | intro _
    | with_reducible apply State.tripNow_same
    | with_reducible apply State.discard_same
    | with_reducible apply State.joinTrip_same
    | with_reducible apply same_ite

theorem State.guardEdge_same (s : State) (c : Nat) (hkm : Sub 46166566 km) (h0 : Same km ka s) : Same km ka (State.guardEdge s c) := by
  unfold State.guardEdge
  try dsimp only
  repeat' first
    | with_reducible assumption
    | exact Sub.trans rfl hkm
    | intro _
    | with_reducible apply State.f_same
    | with_reducible apply State.setGu_same
    | with_reducible apply State.guardTrip_same
    | with_reducible apply same_ite

theorem State.guardCycle_same (s : State) (c : Nat) (hkm : Sub 46167590 km) (h0 : Same km ka s) : Same km ka (State.guardCycle s c) := by
  unfold State.guardCycle
  try dsimp only
  repeat' first
    | with_reducible assumption
    | exact Sub.trans rfl hkm
    | intro _
    | with_reducible apply State.closeTrip_same
    | with_reducible apply State.guardEdge_same
    | with_reducible apply same_ite

theorem State.guardTick_same (s : State) (hkm : Sub 46167590 km) (h0 : Same km ka s) : Same km ka (State.guardTick s) := by
  unfold State.guardTick
  try dsimp only
  repeat' first
    | with_reducible assumption
    | exact Sub.trans rfl hkm
    | intro _
    | with_reducible apply State.guardCycle_same
    | with_reducible apply same_ite
    | with_reducible apply same_foldl

theorem State.tripClr_same (s : State) (v : Word) (hkm : Sub 546 km) (h0 : Same km ka s) : Same km ka (State.tripClr s v) := by
  unfold State.tripClr
  try dsimp only
  repeat' first
    | with_reducible assumption
    | exact Sub.trans rfl hkm
    | intro _
    | with_reducible apply State.discard_same
    | with_reducible apply State.f_same
    | with_reducible apply same_ite

theorem State.emptyHist_same (s : State) (c : Nat) (hkm : Sub 16386 km) (h0 : Same km ka s) : Same km ka (State.emptyHist s c) := by
  unfold State.emptyHist
  try dsimp only
  repeat' first
    | with_reducible assumption
    | exact Sub.trans rfl hkm
    | intro _
    | with_reducible apply State.f_same
    | with_reducible apply State.setGu_same

theorem State.setEdges_same (s : State) (m : Nat) (l : List Nat) (hkm : Sub 16384 km) (h0 : Same km ka s) : Same km ka (State.setEdges s m l) := by
  unfold State.setEdges
  try dsimp only
  repeat' first
    | with_reducible assumption
    | exact Sub.trans rfl hkm
    | intro _
    | with_reducible apply same_ite
    | with_reducible apply same_foldl
    | with_reducible apply sameR_next
    | with_reducible apply same_foldl1
    | with_reducible apply same_ite1
    | split
    | dsimp only
    | with_reducible apply same_grd

theorem State.toothEdge_same (s : State) (m : Nat) (hkm : Sub 16384 km) (h0 : Same km ka s) : Same km ka (State.toothEdge s m) := by
  unfold State.toothEdge
  try dsimp only
  repeat' first
    | with_reducible assumption
    | exact Sub.trans rfl hkm
    | intro _
    | with_reducible apply State.setEdges_same
    | with_reducible apply same_ite
    | with_reducible apply same_foldl
    | with_reducible apply sameR_next
    | with_reducible apply same_foldl1
    | with_reducible apply same_ite1
    | split
    | dsimp only
    | with_reducible apply same_grd

theorem State.lvlEdge_same (s : State) (m : Nat) (fall : Bool) (hkm : Sub 20258 km) (h0 : Same km ka s) : Same km ka (State.lvlEdge s m fall) := by
  unfold State.lvlEdge
  try dsimp only
  repeat' first
    | with_reducible assumption
    | exact Sub.trans rfl hkm
    | intro _
    | with_reducible apply State.toothEdge_same
    | with_reducible apply State.f64_same
    | with_reducible apply State.event_same
    | with_reducible apply State.captureEdge_same
    | with_reducible apply State.tickUnits_same
    | with_reducible apply State.wakeReq_same
    | with_reducible apply same_ite

theorem State.windowTrips_same (s : State) (m : Nat) (hkm : Sub 46166566 km) (hiUp : Bool) (loUp : Bool) (h0 : Same km ka s) : Same km ka (State.windowTrips s m hiUp loUp) := by
  unfold State.windowTrips
  try dsimp only
  repeat' first
    | with_reducible assumption
    | exact Sub.trans rfl hkm
    | intro _
    | with_reducible apply State.guardTrip_same
    | with_reducible apply same_ite
    | with_reducible apply same_foldl
    | with_reducible apply sameR_next
    | with_reducible apply same_foldl1
    | with_reducible apply same_ite1
    | split

theorem State.setComp_same (s : State) (m : Nat) (hkm : Sub 46169894 km) (hi : Bool) (lo : Bool) (h0 : Same km ka s) : Same km ka (State.setComp s m hi lo) := by
  unfold State.setComp
  try dsimp only
  repeat' first
    | with_reducible assumption
    | exact Sub.trans rfl hkm
    | intro _
    | with_reducible apply State.f_same
    | with_reducible apply State.lvlEdge_same
    | with_reducible apply State.windowTrips_same
    | with_reducible apply same_ite

theorem State.compare_same (s : State) (m : Nat) (hkm : Sub 46169894 km) (h0 : Same km ka s) : Same km ka (State.compare s m) := by
  unfold State.compare
  try dsimp only
  repeat' first
    | with_reducible assumption
    | exact Sub.trans rfl hkm
    | intro _
    | with_reducible apply State.setComp_same
    | with_reducible apply same_ite

theorem State.mirror_same (s : State) (c : Nat) (hkm : Sub 46169894 km) (h0 : Same km ka s) : Same km ka (State.mirror s c) := by
  unfold State.mirror
  try dsimp only
  repeat' first
    | with_reducible assumption
    | exact Sub.trans rfl hkm
    | intro _
    | with_reducible apply State.f_same
    | with_reducible apply State.compare_same

theorem State.grdCfgWrite_same (s : State) (c : Nat) (v : Word) (hkm : Sub 46169894 km) (h0 : Same km ka s) : Same km ka (State.grdCfgWrite s c v) := by
  unfold State.grdCfgWrite
  try dsimp only
  repeat' first
    | with_reducible assumption
    | exact Sub.trans rfl hkm
    | intro _
    | with_reducible apply State.discard_same
    | with_reducible apply State.store_same
    | with_reducible apply State.emptyHist_same
    | with_reducible apply State.mirror_same
    | with_reducible apply same_ite

theorem State.grdIlimWrite_same (s : State) (c : Nat) (v : Word) (hkm : Sub 46169894 km) (h0 : Same km ka s) : Same km ka (State.grdIlimWrite s c v) := by
  unfold State.grdIlimWrite
  try dsimp only
  repeat' first
    | with_reducible assumption
    | exact Sub.trans rfl hkm
    | intro _
    | with_reducible apply State.discard_same
    | with_reducible apply State.mirror_same
    | with_reducible apply State.store_same
    | with_reducible apply same_ite

theorem State.grdVlimWrite_same (s : State) (c : Nat) (v : Word) (hkm : Sub 46169894 km) (h0 : Same km ka s) : Same km ka (State.grdVlimWrite s c v) := by
  unfold State.grdVlimWrite
  try dsimp only
  repeat' first
    | with_reducible assumption
    | exact Sub.trans rfl hkm
    | intro _
    | with_reducible apply State.discard_same
    | with_reducible apply State.mirror_same
    | with_reducible apply State.store_same
    | with_reducible apply same_ite

theorem State.grdEwinWrite_same (s : State) (c : Nat) (v : Word) (hkm : Sub 16386 km) (h0 : Same km ka s) : Same km ka (State.grdEwinWrite s c v) := by
  unfold State.grdEwinWrite
  try dsimp only
  repeat' first
    | with_reducible assumption
    | exact Sub.trans rfl hkm
    | intro _
    | with_reducible apply State.emptyHist_same
    | with_reducible apply State.store_same

theorem State.grdBudgetWrite_same (s : State) (c : Nat) (v : Word) (hkm : Sub 546 km) (h0 : Same km ka s) : Same km ka (State.grdBudgetWrite s c v) := by
  unfold State.grdBudgetWrite
  try dsimp only
  repeat' first
    | with_reducible assumption
    | exact Sub.trans rfl hkm
    | intro _
    | with_reducible apply State.discard_same
    | with_reducible apply State.store_same
    | with_reducible apply same_ite

theorem State.guOff_same (s : State) (c : Nat) (hkm : Sub 12611622 km) (h0 : Same km ka s) : Same km ka (State.guOff s c) := by
  unfold State.guOff
  try dsimp only
  repeat' first
    | with_reducible assumption
    | exact Sub.trans rfl hkm
    | intro _
    | with_reducible apply State.setGu_same
    | with_reducible apply State.setGuState_same
    | with_reducible apply same_ite

theorem State.guCtlWrite_same (s : State) (c : Nat) (v : Word) (hkm : Sub 12612134 km) (h0 : Same km ka s) : Same km ka (State.guCtlWrite s c v) := by
  unfold State.guCtlWrite
  try dsimp only
  repeat' first
    | with_reducible assumption
    | exact Sub.trans rfl hkm
    | intro _
    | with_reducible apply State.discard_same
    | with_reducible apply State.guOff_same
    | with_reducible apply State.setGuState_same
    | with_reducible apply State.f_same
    | with_reducible apply State.setGu_same
    | with_reducible apply same_ite

theorem State.scWrite_same (s : State) (v : Word) (hkm : Sub 546 km) (h0 : Same km ka s) : Same km ka (State.scWrite s v) := by
  unfold State.scWrite
  try dsimp only
  repeat' first
    | with_reducible assumption
    | exact Sub.trans rfl hkm
    | intro _
    | with_reducible apply State.discard_same
    | with_reducible apply State.f_same
    | with_reducible apply same_ite
    | with_reducible apply same_foldl
    | with_reducible apply sameR_next
    | with_reducible apply same_foldl1
    | with_reducible apply same_ite1
    | split

theorem State.winCfgWrite_same (s : State) (m : Nat) (v : Word) (hkm : Sub 46169894 km) (h0 : Same km ka s) : Same km ka (State.winCfgWrite s m v) := by
  unfold State.winCfgWrite
  try dsimp only
  repeat' first
    | with_reducible assumption
    | exact Sub.trans rfl hkm
    | intro _
    | with_reducible apply State.discard_same
    | with_reducible apply State.store_same
    | with_reducible apply State.setEdges_same
    | with_reducible apply State.compare_same
    | with_reducible apply same_ite

theorem State.winThrWrite_same (s : State) (m : Nat) (v : Word) (hkm : Sub 46169894 km) (h0 : Same km ka s) : Same km ka (State.winThrWrite s m v) := by
  unfold State.winThrWrite
  try dsimp only
  repeat' first
    | with_reducible assumption
    | exact Sub.trans rfl hkm
    | intro _
    | with_reducible apply State.discard_same
    | with_reducible apply State.compare_same
    | with_reducible apply State.store_same
    | with_reducible apply same_ite

theorem State.winSpdWrite_same (s : State) (m : Nat) (v : Word) (hkm : Sub 16386 km) (h0 : Same km ka s) : Same km ka (State.winSpdWrite s m v) := by
  unfold State.winSpdWrite
  try dsimp only
  repeat' first
    | with_reducible assumption
    | exact Sub.trans rfl hkm
    | intro _
    | with_reducible apply State.setEdges_same
    | with_reducible apply State.store_same

theorem State.setVin_same (s : State) (m : Nat) (v : Int) (hkm : Sub 46169894 km) (h0 : Same km ka s) : Same km ka (State.setVin s m v) := by
  unfold State.setVin
  try dsimp only
  repeat' first
    | with_reducible assumption
    | exact Sub.trans rfl hkm
    | intro _
    | with_reducible apply State.compare_same
    | with_reducible apply State.loopJudge_same
    | with_reducible apply same_ite
    | with_reducible apply same_foldl
    | with_reducible apply sameR_next
    | with_reducible apply same_foldl1
    | with_reducible apply same_ite1
    | split
    | dsimp only
    | with_reducible apply same_grd

theorem execWindowTrip_same (c : Nat) (volt : Bool) (v : Int) (s : State) (hkm : Sub 46169894 km) (h0 : Same km ka s) : SameR km ka (execWindowTrip c volt v s) := by
  unfold execWindowTrip
  try dsimp only
  repeat' first
    | with_reducible assumption
    | exact Sub.trans rfl hkm
    | intro _
    | with_reducible apply State.setVin_same
    | with_reducible apply same_ite
    | with_reducible apply same_foldl
    | with_reducible apply sameR_next

theorem execIntegratorTrip_same (c : Nat) (s : State) (hkm : Sub 46167590 km) (h0 : Same km ka s) : SameR km ka (execIntegratorTrip c s) := by
  unfold execIntegratorTrip
  try dsimp only
  repeat' first
    | with_reducible assumption
    | exact Sub.trans rfl hkm
    | intro _
    | with_reducible apply State.guardCycle_same
    | with_reducible apply same_ite
    | with_reducible apply same_foldl
    | with_reducible apply sameR_next

theorem execChannelOn_same (c : Nat) (s : State) (hkm : Sub 12614182 km) (h0 : Same km ka s) : SameR km ka (execChannelOn c s) := by
  unfold execChannelOn
  try dsimp only
  repeat' first
    | with_reducible assumption
    | exact Sub.trans rfl hkm
    | intro _
    | with_reducible apply State.barWrite_same
    | with_reducible apply State.guCtlWrite_same
    | with_reducible apply same_ite
    | with_reducible apply same_foldl
    | with_reducible apply sameR_next

theorem execChannelOff_same (c : Nat) (s : State) (hkm : Sub 12614182 km) (h0 : Same km ka s) : SameR km ka (execChannelOff c s) := by
  unfold execChannelOff
  try dsimp only
  repeat' first
    | with_reducible assumption
    | exact Sub.trans rfl hkm
    | intro _
    | with_reducible apply State.barWrite_same
    | with_reducible apply State.guCtlWrite_same
    | with_reducible apply same_ite
    | with_reducible apply same_foldl
    | with_reducible apply sameR_next

theorem execRearm_same (c : Nat) (s : State) (hkm : Sub 12614182 km) (h0 : Same km ka s) : SameR km ka (execRearm c s) := by
  unfold execRearm
  try dsimp only
  repeat' first
    | with_reducible assumption
    | exact Sub.trans rfl hkm
    | intro _
    | with_reducible apply State.barWrite_same
    | with_reducible apply State.guCtlWrite_same
    | with_reducible apply same_ite
    | with_reducible apply same_foldl
    | with_reducible apply sameR_next

theorem execToffExpiry_same (c : Nat) (s : State) (hkm : Sub 12611622 km) (h0 : Same km ka s) : SameR km ka (execToffExpiry c s) := by
  unfold execToffExpiry
  try dsimp only
  repeat' first
    | with_reducible assumption
    | exact Sub.trans rfl hkm
    | intro _
    | with_reducible apply State.f_same
    | with_reducible apply State.setGu_same
    | with_reducible apply State.setGuState_same
    | with_reducible apply same_ite
    | with_reducible apply same_foldl
    | with_reducible apply sameR_next

theorem execRetriesReset_same (c : Nat) (s : State) (hkm : Sub 2 km) (h0 : Same km ka s) : SameR km ka (execRetriesReset c s) := by
  unfold execRetriesReset
  try dsimp only
  repeat' first
    | with_reducible assumption
    | exact Sub.trans rfl hkm
    | intro _
    | with_reducible apply State.f_same
    | with_reducible apply same_ite
    | with_reducible apply same_foldl
    | with_reducible apply sameR_next

theorem execTripClear_same (v : Word) (s : State) (hkm : Sub 2594 km) (h0 : Same km ka s) : SameR km ka (execTripClear v s) := by
  unfold execTripClear
  try dsimp only
  repeat' first
    | with_reducible assumption
    | exact Sub.trans rfl hkm
    | intro _
    | with_reducible apply State.barWrite_same
    | with_reducible apply State.tripClr_same
    | with_reducible apply same_ite
    | with_reducible apply same_foldl
    | with_reducible apply sameR_next

theorem execGuardCounterClr_same (c : Nat) (v : Word) (s : State) (hkm : Sub 2594 km) (h0 : Same km ka s) : SameR km ka (execGuardCounterClr c v s) := by
  unfold execGuardCounterClr
  try dsimp only
  repeat' first
    | with_reducible assumption
    | exact Sub.trans rfl hkm
    | intro _
    | with_reducible apply State.barWrite_same
    | with_reducible apply State.clrWrite_same
    | with_reducible apply same_ite
    | with_reducible apply same_foldl
    | with_reducible apply sameR_next

theorem execMonitorEdge_same (m : Nat) (v : Int) (s : State) (hkm : Sub 46169894 km) (h0 : Same km ka s) : SameR km ka (execMonitorEdge m v s) := by
  unfold execMonitorEdge
  try dsimp only
  repeat' first
    | with_reducible assumption
    | exact Sub.trans rfl hkm
    | intro _
    | with_reducible apply State.setVin_same
    | with_reducible apply same_ite
    | with_reducible apply same_foldl
    | with_reducible apply sameR_next

theorem execSelfCheckGo_same (v : Word) (s : State) (hkm : Sub 2594 km) (h0 : Same km ka s) : SameR km ka (execSelfCheckGo v s) := by
  unfold execSelfCheckGo
  try dsimp only
  repeat' first
    | with_reducible assumption
    | exact Sub.trans rfl hkm
    | intro _
    | with_reducible apply State.barWrite_same
    | with_reducible apply State.scWrite_same
    | with_reducible apply same_ite
    | with_reducible apply same_foldl
    | with_reducible apply sameR_next

theorem execSelfCheckDone_same (hkm : Sub 46169894 km) (hi : Bool) (lo : Bool) (hs : Bool) (ls : Bool) (s : State) (h0 : Same km ka s) : SameR km ka (execSelfCheckDone hi lo hs ls s) := by
  unfold execSelfCheckDone
  try dsimp only
  repeat' first
    | with_reducible assumption
    | exact Sub.trans rfl hkm
    | intro _
    | with_reducible apply State.f_same
    | with_reducible apply State.compare_same
    | with_reducible apply State.setEdges_same
    | with_reducible apply same_ite
    | with_reducible apply same_foldl
    | with_reducible apply sameR_next
    | with_reducible apply same_foldl1
    | with_reducible apply same_ite1
    | split

theorem execWheelStandstill_same (m : Nat) (s : State) (hkm : Sub 16384 km) (h0 : Same km ka s) : SameR km ka (execWheelStandstill m s) := by
  unfold execWheelStandstill
  try dsimp only
  repeat' first
    | with_reducible assumption
    | exact Sub.trans rfl hkm
    | intro _
    | with_reducible apply State.setEdges_same
    | with_reducible apply same_ite
    | with_reducible apply same_foldl
    | with_reducible apply sameR_next

theorem State.tripAll_same (s : State) (hkm : Sub 46166566 km) (h0 : Same km ka s) : Same km ka (State.tripAll s) := by
  unfold State.tripAll
  try dsimp only
  repeat' first
    | with_reducible assumption
    | exact Sub.trans rfl hkm
    | intro _
    | with_reducible apply State.guardTrip_same
    | with_reducible apply State.tripNow_same
    | with_reducible apply same_ite
    | with_reducible apply same_foldl

end Sys2Proof.Machine
end

