-- ==== Sys2Proof/Laws/SameMash.lean ====
section
/-! SUPPORT. What the operations of Machine/Mash.lean keep (Laws/Same.lean). -/
set_option Elab.async false
namespace Sys2Proof.Machine

variable {km : Nat} {ka : State}

theorem State.mashDo_same (s : State) (n : Nat) (k : Nat) (at_ : Nat) (cmd : MashCmd) (hkm : Sub 524288 km) (h0 : Same km ka s) : Same km ka (State.mashDo s n k at_ cmd) := by
  unfold State.mashDo
  try dsimp only
  repeat' first
    | with_reducible assumption
    | exact Sub.trans rfl hkm
    | intro _
    | with_reducible apply State.setCh_same
    | with_reducible apply same_ite
    | with_reducible apply same_foldl
    | with_reducible apply sameR_next
    | with_reducible apply same_foldl1
    | with_reducible apply same_ite1
    | split

theorem State.refill_same (s : State) (x : Nat) (hkm : Sub 524288 km) (h0 : Same km ka s) : Same km ka (State.refill s x) := by
  unfold State.refill
  try dsimp only
  repeat' first
    | with_reducible assumption
    | exact Sub.trans rfl hkm
    | intro _
    | with_reducible apply State.setEng_same

theorem State.mashPurge_same (s : State) (n : Nat) (hkm : Sub 524288 km) (h0 : Same km ka s) : Same km ka (State.mashPurge s n) := by
  unfold State.mashPurge
  try dsimp only
  repeat' first
    | with_reducible assumption
    | exact Sub.trans rfl hkm
    | intro _
    | with_reducible apply State.refill_same
    | with_reducible apply State.setEng_same

theorem State.mashGap_same (s : State) (n : Nat) (hkm : Sub 13634082 km) (h0 : Same km ka s) : Same km ka (State.mashGap s n) := by
  unfold State.mashGap
  try dsimp only
  repeat' first
    | with_reducible assumption
    | exact Sub.trans rfl hkm
    | intro _
    | with_reducible apply State.interrupt_same
    | with_reducible apply same_ite
    | with_reducible apply same_foldl
    | with_reducible apply sameR_next
    | with_reducible apply same_foldl1
    | with_reducible apply same_ite1
    | split

theorem State.mashInterrupt_same (s : State) (n : Nat) (hkm : Sub 14158370 km) (h0 : Same km ka s) : Same km ka (State.mashInterrupt s n) := by
  unfold State.mashInterrupt
  try dsimp only
  repeat' first
    | with_reducible assumption
    | exact Sub.trans rfl hkm
    | intro _
    | with_reducible apply State.mashGap_same
    | with_reducible apply State.setCh_same
    | with_reducible apply same_ite

theorem State.mashStage_same (s : State) (hkm : Sub 14158370 km) (h0 : Same km ka s) : Same km ka (State.mashStage s) := by
  unfold State.mashStage
  try dsimp only
  repeat' first
    | with_reducible assumption
    | exact Sub.trans rfl hkm
    | intro _
    | with_reducible apply State.setCh_same
    | with_reducible apply State.mashPurge_same
    | with_reducible apply State.mashInterrupt_same
    | with_reducible apply same_ite
    | with_reducible apply same_foldl

theorem State.mashSts_same (s : State) (hkm : Sub 2 km) (h0 : Same km ka s) : Same km ka (State.mashSts s) := by
  unfold State.mashSts
  try dsimp only
  repeat' first
    | with_reducible assumption
    | exact Sub.trans rfl hkm
    | intro _
    | with_reducible apply State.f_same
    | with_reducible apply same_ite
    | with_reducible apply same_foldl

theorem State.commitRefuse_same (s : State) (code : Nat) (reason : Nat) (hkm : Sub 546 km) (h0 : Same km ka s) : Same km ka (State.commitRefuse s code reason) := by
  unfold State.commitRefuse
  try dsimp only
  repeat' first
    | with_reducible assumption
    | exact Sub.trans rfl hkm
    | intro _
    | with_reducible apply State.discard_same
    | with_reducible apply State.f_same

theorem State.chStart_same (s : State) (n : Nat) (c : ChS) (hkm : Sub 14158370 km) (h0 : Same km ka s) : Same km ka (State.chStart s n c) := by
  unfold State.chStart
  try dsimp only
  repeat' first
    | with_reducible assumption
    | exact Sub.trans rfl hkm
    | intro _
    | with_reducible apply State.setCh_same
    | with_reducible apply State.mashGap_same
    | with_reducible apply same_ite

theorem State.chCommit_same (s : State) (n : Nat) (hkm : Sub 14158370 km) (h0 : Same km ka s) : Same km ka (State.chCommit s n) := by
  unfold State.chCommit
  try dsimp only
  repeat' first
    | with_reducible assumption
    | exact Sub.trans rfl hkm
    | intro _
    | with_reducible apply State.mashSts_same
    | with_reducible apply State.setCh_same
    | with_reducible apply State.mashPurge_same
    | with_reducible apply State.commitRefuse_same
    | with_reducible apply State.chStart_same
    | with_reducible apply same_ite
    | with_reducible apply same_foldl
    | with_reducible apply sameR_next
    | with_reducible apply same_foldl1
    | with_reducible apply same_ite1
    | split

theorem State.chRead_same (s : State) (n : Nat) (hkm : Sub 2 km) (h0 : Same km ka s) : Same km ka (State.chRead s n) := by
  unfold State.chRead
  try dsimp only
  repeat' first
    | with_reducible assumption
    | exact Sub.trans rfl hkm
    | intro _
    | with_reducible apply State.wr_same
    | with_reducible apply State.f_same
    | with_reducible apply State.f64_same
    | with_reducible apply same_ite
    | with_reducible apply same_foldl

theorem State.chClrSts_same (s : State) (n : Nat) (hkm : Sub 524288 km) (h0 : Same km ka s) : Same km ka (State.chClrSts s n) := by
  unfold State.chClrSts
  try dsimp only
  repeat' first
    | with_reducible assumption
    | exact Sub.trans rfl hkm
    | intro _
    | with_reducible apply State.setCh_same

theorem State.chIdxWrite_same (s : State) (v : Word) (hkm : Sub 14158370 km) (h0 : Same km ka s) : Same km ka (State.chIdxWrite s v) := by
  unfold State.chIdxWrite
  try dsimp only
  repeat' first
    | with_reducible assumption
    | exact Sub.trans rfl hkm
    | intro _
    | with_reducible apply State.discard_same
    | with_reducible apply State.chCommit_same
    | with_reducible apply State.chRead_same
    | with_reducible apply State.chClrSts_same
    | with_reducible apply same_ite

theorem State.chStgWrite_same (s : State) (k : Nat) (v : Word) (hkm : Sub 546 km) (h0 : Same km ka s) : Same km ka (State.chStgWrite s k v) := by
  unfold State.chStgWrite
  try dsimp only
  repeat' first
    | with_reducible assumption
    | exact Sub.trans rfl hkm
    | intro _
    | with_reducible apply State.store_same
    | with_reducible apply State.discard_same
    | with_reducible apply same_ite

theorem State.chCtlWrite_same (s : State) (v : Word) (hkm : Sub 524834 km) (h0 : Same km ka s) : Same km ka (State.chCtlWrite s v) := by
  unfold State.chCtlWrite
  try dsimp only
  repeat' first
    | with_reducible assumption
    | exact Sub.trans rfl hkm
    | intro _
    | with_reducible apply State.discard_same
    | with_reducible apply State.mashDo_same
    | with_reducible apply same_ite
    | with_reducible apply same_foldl
    | with_reducible apply sameR_next
    | with_reducible apply same_foldl1
    | with_reducible apply same_ite1
    | split

theorem State.syncPerWrite_same (s : State) (v : Word) (hkm : Sub 524834 km) (h0 : Same km ka s) : Same km ka (State.syncPerWrite s v) := by
  unfold State.syncPerWrite
  try dsimp only
  repeat' first
    | with_reducible assumption
    | exact Sub.trans rfl hkm
    | intro _
    | with_reducible apply State.discard_same
    | with_reducible apply State.store_same
    | with_reducible apply same_ite
    | with_reducible apply same_foldl
    | with_reducible apply sameR_next
    | with_reducible apply same_foldl1
    | with_reducible apply same_ite1
    | split
    | dsimp only
    | with_reducible apply same_msh

theorem State.chSync_same (t : Nat) (s : State) (n : Nat) (hkm : Sub 524290 km) (h0 : Same km ka s) : Same km ka (State.chSync t s n) := by
  unfold State.chSync
  try dsimp only
  repeat' first
    | with_reducible assumption
    | exact Sub.trans rfl hkm
    | intro _
    | with_reducible apply State.setCh_same
    | with_reducible apply State.inc_same
    | with_reducible apply same_ite

theorem State.mashSync_same (s : State) (t : Nat) (hkm : Sub 525314 km) (h0 : Same km ka s) : Same km ka (State.mashSync s t) := by
  unfold State.mashSync
  try dsimp only
  repeat' first
    | with_reducible assumption
    | exact Sub.trans rfl hkm
    | intro _
    | with_reducible apply State.chSync_same
    | with_reducible apply State.event_same
    | with_reducible apply State.f64_same
    | with_reducible apply same_ite
    | with_reducible apply same_foldl

theorem State.mashArm_same (s : State) (t : Nat) (hkm : Sub 524290 km) (h0 : Same km ka s) : Same km ka (State.mashArm s t) := by
  unfold State.mashArm
  try dsimp only
  repeat' first
    | with_reducible assumption
    | exact Sub.trans rfl hkm
    | intro _
    | with_reducible apply State.f_same
    | with_reducible apply same_ite
    | with_reducible apply same_foldl
    | with_reducible apply sameR_next
    | with_reducible apply same_foldl1
    | with_reducible apply same_ite1
    | split
    | dsimp only
    | with_reducible apply same_msh

theorem State.syncCtlWrite_same (s : State) (v : Word) (hkm : Sub 525858 km) (h0 : Same km ka s) : Same km ka (State.syncCtlWrite s v) := by
  unfold State.syncCtlWrite
  try dsimp only
  repeat' first
    | with_reducible assumption
    | exact Sub.trans rfl hkm
    | intro _
    | with_reducible apply State.discard_same
    | with_reducible apply State.mashSync_same
    | with_reducible apply State.mashArm_same
    | with_reducible apply State.f_same
    | with_reducible apply same_ite
    | with_reducible apply same_foldl
    | with_reducible apply sameR_next
    | with_reducible apply same_foldl1
    | with_reducible apply same_ite1
    | split
    | dsimp only
    | with_reducible apply same_msh

theorem State.syncHiWrite_same (s : State) (v : Word) (hkm : Sub 524290 km) (h0 : Same km ka s) : Same km ka (State.syncHiWrite s v) := by
  unfold State.syncHiWrite
  try dsimp only
  repeat' first
    | with_reducible assumption
    | exact Sub.trans rfl hkm
    | intro _
    | with_reducible apply State.store_same
    | with_reducible apply same_ite
    | with_reducible apply same_foldl
    | with_reducible apply sameR_next
    | with_reducible apply same_foldl1
    | with_reducible apply same_ite1
    | split
    | dsimp only
    | with_reducible apply same_msh

theorem State.putSet_same (s : State) (n : Nat) (b : List Nat) (hkm : Sub 524288 km) (h0 : Same km ka s) : Same km ka (State.putSet s n b) := by
  unfold State.putSet
  try dsimp only
  repeat' first
    | with_reducible assumption
    | exact Sub.trans rfl hkm
    | intro _
    | with_reducible apply same_ite
    | with_reducible apply same_foldl
    | with_reducible apply sameR_next
    | with_reducible apply same_foldl1
    | with_reducible apply same_ite1
    | split
    | dsimp only
    | with_reducible apply same_msh

theorem State.csIdxWrite_same (s : State) (v : Word) (hkm : Sub 524834 km) (h0 : Same km ka s) : Same km ka (State.csIdxWrite s v) := by
  unfold State.csIdxWrite
  try dsimp only
  repeat' first
    | with_reducible assumption
    | exact Sub.trans rfl hkm
    | intro _
    | with_reducible apply State.discard_same
    | with_reducible apply State.putSet_same
    | with_reducible apply State.wr_same
    | with_reducible apply State.f_same
    | with_reducible apply same_ite
    | with_reducible apply same_foldl
    | with_reducible apply sameR_next
    | with_reducible apply same_foldl1
    | with_reducible apply same_ite1
    | split

theorem execSyncEdgeInput_same (fall : Bool) (s : State) (hkm : Sub 526246 km) (h0 : Same km ka s) : SameR km ka (execSyncEdgeInput fall s) := by
  unfold execSyncEdgeInput
  try dsimp only
  repeat' first
    | with_reducible assumption
    | exact Sub.trans rfl hkm
    | intro _
    | with_reducible apply State.syncEdge_same
    | with_reducible apply State.mashSync_same
    | with_reducible apply same_ite
    | with_reducible apply same_foldl
    | with_reducible apply sameR_next

theorem execChannelCommit_same (c : Nat) (s : State) (hkm : Sub 14158370 km) (h0 : Same km ka s) : SameR km ka (execChannelCommit c s) := by
  unfold execChannelCommit
  try dsimp only
  repeat' first
    | with_reducible assumption
    | exact Sub.trans rfl hkm
    | intro _
    | with_reducible apply State.barWrite_same
    | with_reducible apply State.chIdxWrite_same
    | with_reducible apply same_ite
    | with_reducible apply same_foldl
    | with_reducible apply sameR_next

theorem execChannelRead_same (c : Nat) (s : State) (hkm : Sub 14158370 km) (h0 : Same km ka s) : SameR km ka (execChannelRead c s) := by
  unfold execChannelRead
  try dsimp only
  repeat' first
    | with_reducible assumption
    | exact Sub.trans rfl hkm
    | intro _
    | with_reducible apply State.barWrite_same
    | with_reducible apply State.chIdxWrite_same
    | with_reducible apply same_ite
    | with_reducible apply same_foldl
    | with_reducible apply sameR_next

theorem execChannelClrsts_same (c : Nat) (s : State) (hkm : Sub 14158370 km) (h0 : Same km ka s) : SameR km ka (execChannelClrsts c s) := by
  unfold execChannelClrsts
  try dsimp only
  repeat' first
    | with_reducible assumption
    | exact Sub.trans rfl hkm
    | intro _
    | with_reducible apply State.barWrite_same
    | with_reducible apply State.chIdxWrite_same
    | with_reducible apply same_ite
    | with_reducible apply same_foldl
    | with_reducible apply sameR_next

theorem execSetCommit_same (n : Nat) (s : State) (hkm : Sub 526882 km) (h0 : Same km ka s) : SameR km ka (execSetCommit n s) := by
  unfold execSetCommit
  try dsimp only
  repeat' first
    | with_reducible assumption
    | exact Sub.trans rfl hkm
    | intro _
    | with_reducible apply State.barWrite_same
    | with_reducible apply State.csIdxWrite_same
    | with_reducible apply same_ite
    | with_reducible apply same_foldl
    | with_reducible apply sameR_next

theorem execSetRead_same (n : Nat) (s : State) (hkm : Sub 526882 km) (h0 : Same km ka s) : SameR km ka (execSetRead n s) := by
  unfold execSetRead
  try dsimp only
  repeat' first
    | with_reducible assumption
    | exact Sub.trans rfl hkm
    | intro _
    | with_reducible apply State.barWrite_same
    | with_reducible apply State.csIdxWrite_same
    | with_reducible apply same_ite
    | with_reducible apply same_foldl
    | with_reducible apply sameR_next

theorem execSetRelease_same (n : Nat) (s : State) (hkm : Sub 526882 km) (h0 : Same km ka s) : SameR km ka (execSetRelease n s) := by
  unfold execSetRelease
  try dsimp only
  repeat' first
    | with_reducible assumption
    | exact Sub.trans rfl hkm
    | intro _
    | with_reducible apply State.barWrite_same
    | with_reducible apply State.csIdxWrite_same
    | with_reducible apply same_ite
    | with_reducible apply same_foldl
    | with_reducible apply sameR_next

theorem State.loopBit_same (s : State) (l : Nat) (bit : Bool) (hkm : Sub 524290 km) (h0 : Same km ka s) : Same km ka (State.loopBit s l bit) := by
  unfold State.loopBit
  try dsimp only
  repeat' first
    | with_reducible assumption
    | exact Sub.trans rfl hkm
    | intro _
    | with_reducible apply State.mashPush_same
    | with_reducible apply same_ite
    | with_reducible apply same_foldl
    | with_reducible apply sameR_next
    | with_reducible apply same_foldl1
    | with_reducible apply same_ite1
    | split

theorem State.mashSat_same (s : State) (n : Nat) (sat : Option Nat) (t : Nat) (hkm : Sub 525858 km) (h0 : Same km ka s) : Same km ka (State.mashSat s n sat t) := by
  unfold State.mashSat
  try dsimp only
  repeat' first
    | with_reducible assumption
    | exact Sub.trans rfl hkm
    | intro _
    | with_reducible apply State.setCh_same
    | with_reducible apply State.raiseHub_same
    | with_reducible apply State.event_same
    | with_reducible apply same_ite
    | with_reducible apply same_foldl
    | with_reducible apply sameR_next
    | with_reducible apply same_foldl1
    | with_reducible apply same_ite1
    | split

theorem State.mashMiss_same (s : State) (n : Nat) (t : Nat) (hkm : Sub 14158370 km) (h0 : Same km ka s) : Same km ka (State.mashMiss s n t) := by
  unfold State.mashMiss
  try dsimp only
  repeat' first
    | with_reducible assumption
    | exact Sub.trans rfl hkm
    | intro _
    | with_reducible apply State.missEp_same
    | with_reducible apply same_ite
    | with_reducible apply same_foldl
    | with_reducible apply sameR_next
    | with_reducible apply same_foldl1
    | with_reducible apply same_ite1
    | split

theorem State.mashEmit_same (s : State) (n : Nat) (p : Nat) (t : Nat) (y : Option Int) (fade : Bool) (hkm : Sub 14420514 km) (h0 : Same km ka s) : Same km ka (State.mashEmit s n p t y fade) := by
  unfold State.mashEmit
  try dsimp only
  repeat' first
    | with_reducible assumption
    | exact Sub.trans rfl hkm
    | intro _
    | with_reducible apply State.inc_same
    | with_reducible apply State.setCh_same
    | with_reducible apply State.mashMiss_same
    | with_reducible apply State.enqueueRaw_same
    | with_reducible apply same_ite
    | with_reducible apply same_foldl
    | with_reducible apply sameR_next
    | with_reducible apply same_foldl1
    | with_reducible apply same_ite1
    | split

theorem State.mashStep_same (s : State) (m : MInS) (hkm : Sub 14421538 km) (h0 : Same km ka s) : Same km ka (State.mashStep s m) := by
  unfold State.mashStep
  try dsimp only
  repeat' first
    | with_reducible assumption
    | exact Sub.trans rfl hkm
    | intro _
    | with_reducible apply State.mashSat_same
    | with_reducible apply State.setCh_same
    | with_reducible apply State.mashEmit_same
    | with_reducible apply same_ite
    | with_reducible apply same_foldl
    | with_reducible apply sameR_next
    | with_reducible apply same_foldl1
    | with_reducible apply same_ite1
    | split

theorem State.mashOne_same (s : State) (m : MInS) (hkm : Sub 14421538 km) (h0 : Same km ka s) : Same km ka (State.mashOne s m) := by
  unfold State.mashOne
  try dsimp only
  repeat' first
    | with_reducible assumption
    | exact Sub.trans rfl hkm
    | intro _
    | with_reducible apply State.mashStep_same
    | with_reducible apply State.setCh_same
    | with_reducible apply same_ite

theorem State.engineRun_same (s : State) (x : Nat) (hkm : Sub 14421538 km) (h0 : Same km ka s) : Same km ka (State.engineRun s x) := by
  unfold State.engineRun
  try dsimp only
  repeat' first
    | with_reducible assumption
    | exact Sub.trans rfl hkm
    | intro _
    | with_reducible apply State.refill_same
    | with_reducible apply State.mashOne_same
    | with_reducible apply State.setEng_same
    | with_reducible apply same_ite
    | with_reducible apply same_foldl
    | with_reducible apply sameR_next
    | with_reducible apply same_foldl1
    | with_reducible apply same_ite1
    | split

theorem execMashInput_same (x : Nat) (l : Nat) (bit : Bool) (s : State) (hkm : Sub 14421538 km) (h0 : Same km ka s) : SameR km ka (execMashInput x l bit s) := by
  unfold execMashInput
  try dsimp only
  repeat' first
    | with_reducible assumption
    | exact Sub.trans rfl hkm
    | intro _
    | with_reducible apply State.loopBit_same
    | with_reducible apply State.engineRun_same
    | with_reducible apply same_ite
    | with_reducible apply same_foldl
    | with_reducible apply sameR_next

theorem execChctlFreeze_same (c : Nat) (k : Nat) (s : State) (hkm : Sub 526882 km) (h0 : Same km ka s) : SameR km ka (execChctlFreeze c k s) := by
  unfold execChctlFreeze
  try dsimp only
  repeat' first
    | with_reducible assumption
    | exact Sub.trans rfl hkm
    | intro _
    | with_reducible apply State.barWrite_same
    | with_reducible apply State.chCtlWrite_same
    | with_reducible apply same_ite
    | with_reducible apply same_foldl
    | with_reducible apply sameR_next

theorem execChctlThaw_same (c : Nat) (k : Nat) (s : State) (hkm : Sub 526882 km) (h0 : Same km ka s) : SameR km ka (execChctlThaw c k s) := by
  unfold execChctlThaw
  try dsimp only
  repeat' first
    | with_reducible assumption
    | exact Sub.trans rfl hkm
    | intro _
    | with_reducible apply State.barWrite_same
    | with_reducible apply State.chCtlWrite_same
    | with_reducible apply same_ite
    | with_reducible apply same_foldl
    | with_reducible apply sameR_next

theorem execChctlSwitch_same (c : Nat) (k : Nat) (xf : Nat) (set : Nat) (s : State) (hkm : Sub 526882 km) (h0 : Same km ka s) : SameR km ka (execChctlSwitch c k xf set s) := by
  unfold execChctlSwitch
  try dsimp only
  repeat' first
    | with_reducible assumption
    | exact Sub.trans rfl hkm
    | intro _
    | with_reducible apply State.barWrite_same
    | with_reducible apply State.chCtlWrite_same
    | with_reducible apply same_ite
    | with_reducible apply same_foldl
    | with_reducible apply sameR_next

theorem execMashCounterClr_same (v : Word) (s : State) (hkm : Sub 2594 km) (h0 : Same km ka s) : SameR km ka (execMashCounterClr v s) := by
  unfold execMashCounterClr
  try dsimp only
  repeat' first
    | with_reducible assumption
    | exact Sub.trans rfl hkm
    | intro _
    | with_reducible apply State.barWrite_same
    | with_reducible apply State.clrWrite_same
    | with_reducible apply same_ite
    | with_reducible apply same_foldl
    | with_reducible apply sameR_next

theorem State.mashJob_same (s : State) (opc : Nat) (cmd : List Nat → MashCmd) (hkm : Sub 13107234 km) (h0 : Same km ka s) : Same km ka (State.mashJob s opc cmd) := by
  unfold State.mashJob
  try dsimp only
  repeat' first
    | with_reducible assumption
    | exact Sub.trans rfl hkm
    | intro _
    | with_reducible apply State.runJob_same
    | with_reducible apply State.finishWith_same
    | with_reducible apply State.mashDo_same
    | with_reducible apply same_ite
    | with_reducible apply same_foldl
    | with_reducible apply sameR_next
    | with_reducible apply same_foldl1
    | with_reducible apply same_ite1
    | split

theorem execMashFreeze_same (s : State) (hkm : Sub 13107234 km) (h0 : Same km ka s) : SameR km ka (execMashFreeze s) := by
  unfold execMashFreeze
  try dsimp only
  repeat' first
    | with_reducible assumption
    | exact Sub.trans rfl hkm
    | intro _
    | with_reducible apply State.mashJob_same
    | with_reducible apply same_ite
    | with_reducible apply same_foldl
    | with_reducible apply sameR_next

theorem execMashThaw_same (s : State) (hkm : Sub 13107234 km) (h0 : Same km ka s) : SameR km ka (execMashThaw s) := by
  unfold execMashThaw
  try dsimp only
  repeat' first
    | with_reducible assumption
    | exact Sub.trans rfl hkm
    | intro _
    | with_reducible apply State.mashJob_same
    | with_reducible apply same_ite
    | with_reducible apply same_foldl
    | with_reducible apply sameR_next

theorem execMashSwitch_same (s : State) (hkm : Sub 13107234 km) (h0 : Same km ka s) : SameR km ka (execMashSwitch s) := by
  unfold execMashSwitch
  try dsimp only
  repeat' first
    | with_reducible assumption
    | exact Sub.trans rfl hkm
    | intro _
    | with_reducible apply State.mashJob_same
    | with_reducible apply same_ite
    | with_reducible apply same_foldl
    | with_reducible apply sameR_next

theorem execSyncNow_same (s : State) (hkm : Sub 527906 km) (h0 : Same km ka s) : SameR km ka (execSyncNow s) := by
  unfold execSyncNow
  try dsimp only
  repeat' first
    | with_reducible assumption
    | exact Sub.trans rfl hkm
    | intro _
    | with_reducible apply State.barWrite_same
    | with_reducible apply State.syncCtlWrite_same
    | with_reducible apply same_ite
    | with_reducible apply same_foldl
    | with_reducible apply sameR_next

theorem execSyncArm_same (s : State) (hkm : Sub 527906 km) (h0 : Same km ka s) : SameR km ka (execSyncArm s) := by
  unfold execSyncArm
  try dsimp only
  repeat' first
    | with_reducible assumption
    | exact Sub.trans rfl hkm
    | intro _
    | with_reducible apply State.barWrite_same
    | with_reducible apply State.syncCtlWrite_same
    | with_reducible apply same_ite
    | with_reducible apply same_foldl
    | with_reducible apply sameR_next

theorem execSyncDisarm_same (s : State) (hkm : Sub 527906 km) (h0 : Same km ka s) : SameR km ka (execSyncDisarm s) := by
  unfold execSyncDisarm
  try dsimp only
  repeat' first
    | with_reducible assumption
    | exact Sub.trans rfl hkm
    | intro _
    | with_reducible apply State.barWrite_same
    | with_reducible apply State.syncCtlWrite_same
    | with_reducible apply same_ite
    | with_reducible apply same_foldl
    | with_reducible apply sameR_next

theorem execArmedSync_same (s : State) (hkm : Sub 525314 km) (h0 : Same km ka s) : SameR km ka (execArmedSync s) := by
  unfold execArmedSync
  try dsimp only
  repeat' first
    | with_reducible assumption
    | exact Sub.trans rfl hkm
    | intro _
    | with_reducible apply State.mashSync_same
    | with_reducible apply State.f_same
    | with_reducible apply same_ite
    | with_reducible apply same_foldl
    | with_reducible apply sameR_next
    | with_reducible apply same_foldl1
    | with_reducible apply same_ite1
    | split
    | dsimp only
    | with_reducible apply same_msh

theorem execPeriodicSync_same (s : State) (hkm : Sub 525314 km) (h0 : Same km ka s) : SameR km ka (execPeriodicSync s) := by
  unfold execPeriodicSync
  try dsimp only
  repeat' first
    | with_reducible assumption
    | exact Sub.trans rfl hkm
    | intro _
    | with_reducible apply State.mashSync_same
    | with_reducible apply same_ite
    | with_reducible apply same_foldl
    | with_reducible apply sameR_next
    | with_reducible apply same_foldl1
    | with_reducible apply same_ite1
    | split
    | dsimp only
    | with_reducible apply same_msh

theorem State.mashGroup_same (s : State) (g : Nat) (t : Nat) (freeze : Bool) (hkm : Sub 524288 km) (h0 : Same km ka s) : Same km ka (State.mashGroup s g t freeze) := by
  unfold State.mashGroup
  try dsimp only
  repeat' first
    | with_reducible assumption
    | exact Sub.trans rfl hkm
    | intro _
    | with_reducible apply State.mashDo_same
    | with_reducible apply same_ite
    | with_reducible apply same_foldl
    | with_reducible apply sameR_next
    | with_reducible apply same_foldl1
    | with_reducible apply same_ite1
    | split

end Sys2Proof.Machine
end

