-- ==== Sys2Proof/Laws/SameAfe.lean ====
section
/-! SUPPORT. What the operations of Machine/Afe.lean keep (Laws/Same.lean). -/
set_option Elab.async false
namespace Sys2Proof.Machine

variable {km : Nat} {ka : State}

theorem State.routesStopped_same (s : State) (before : List (Nat × Nat)) (hkm : Sub 14158370 km) (h0 : Same km ka s) : Same km ka (State.routesStopped s before) := by
  unfold State.routesStopped
  try dsimp only
  repeat' first
    | with_reducible assumption
    | exact Sub.trans rfl hkm
    | intro _
    | with_reducible apply State.mashInterrupt_same
    | with_reducible apply same_ite
    | with_reducible apply same_foldl

theorem State.loopCfgWrite_same (s : State) (x : Nat) (v : Word) (hkm : Sub 14174758 km) (h0 : Same km ka s) : Same km ka (State.loopCfgWrite s x v) := by
  unfold State.loopCfgWrite
  try dsimp only
  repeat' first
    | with_reducible assumption
    | exact Sub.trans rfl hkm
    | intro _
    | with_reducible apply State.err_same
    | with_reducible apply State.wr_same
    | with_reducible apply State.f_same
    | with_reducible apply State.routesStopped_same
    | with_reducible apply State.driveFollow_same
    | with_reducible apply same_ite

theorem execLoopModeWrite_same (x : Nat) (v : Word) (s : State) (hkm : Sub 14174758 km) (h0 : Same km ka s) : SameR km ka (execLoopModeWrite x v s) := by
  unfold execLoopModeWrite
  try dsimp only
  repeat' first
    | with_reducible assumption
    | exact Sub.trans rfl hkm
    | intro _
    | with_reducible apply State.barWrite_same
    | with_reducible apply State.loopCfgWrite_same
    | with_reducible apply same_ite
    | with_reducible apply same_foldl
    | with_reducible apply sameR_next

theorem State.loopRecord_same (s : State) (x : Nat) (code : Nat) (ua : Nat) (hkm : Sub 12582946 km) (h0 : Same km ka s) : Same km ka (State.loopRecord s x code ua) := by
  unfold State.loopRecord
  try dsimp only
  repeat' first
    | with_reducible assumption
    | exact Sub.trans rfl hkm
    | intro _
    | with_reducible apply State.record_same
    | with_reducible apply same_ite
    | with_reducible apply same_foldl
    | with_reducible apply sameR_next
    | with_reducible apply same_foldl1
    | with_reducible apply same_ite1
    | split

theorem execComplianceEntry_same (x : Nat) (s : State) (hkm : Sub 12600354 km) (h0 : Same km ka s) : SameR km ka (execComplianceEntry x s) := by
  unfold execComplianceEntry
  try dsimp only
  repeat' first
    | with_reducible assumption
    | exact Sub.trans rfl hkm
    | intro _
    | with_reducible apply State.f_same
    | with_reducible apply State.setComps_same
    | with_reducible apply State.loopRecord_same
    | with_reducible apply State.inc_same
    | with_reducible apply State.event_same
    | with_reducible apply same_ite
    | with_reducible apply same_foldl
    | with_reducible apply sameR_next

theorem execComplianceExit_same (x : Nat) (s : State) (hkm : Sub 12600354 km) (h0 : Same km ka s) : SameR km ka (execComplianceExit x s) := by
  unfold execComplianceExit
  try dsimp only
  repeat' first
    | with_reducible assumption
    | exact Sub.trans rfl hkm
    | intro _
    | with_reducible apply State.f_same
    | with_reducible apply State.compEnd_same
    | with_reducible apply State.loopRecord_same
    | with_reducible apply State.event_same
    | with_reducible apply same_ite
    | with_reducible apply same_foldl
    | with_reducible apply sameR_next

theorem execLoopCounterClr_same (x : Nat) (v : Word) (s : State) (hkm : Sub 2594 km) (h0 : Same km ka s) : SameR km ka (execLoopCounterClr x v s) := by
  unfold execLoopCounterClr
  try dsimp only
  repeat' first
    | with_reducible assumption
    | exact Sub.trans rfl hkm
    | intro _
    | with_reducible apply State.barWrite_same
    | with_reducible apply State.clrWrite_same
    | with_reducible apply same_ite
    | with_reducible apply same_foldl
    | with_reducible apply sameR_next

theorem State.loopStore_same (s : State) (x : Nat) (ua : Nat) (hkm : Sub 16390 km) (h0 : Same km ka s) : Same km ka (State.loopStore s x ua) := by
  unfold State.loopStore
  try dsimp only
  repeat' first
    | with_reducible assumption
    | exact Sub.trans rfl hkm
    | intro _
    | with_reducible apply State.f_same
    | with_reducible apply State.loopJudge_same
    | with_reducible apply State.setLoopAt_same
    | with_reducible apply same_ite

theorem execLoopSet_same (s : State) (hkm : Sub 12599334 km) (h0 : Same km ka s) : SameR km ka (execLoopSet s) := by
  unfold execLoopSet
  try dsimp only
  repeat' first
    | with_reducible assumption
    | exact Sub.trans rfl hkm
    | intro _
    | with_reducible apply State.runJob_same
    | with_reducible apply State.finishWith_same
    | with_reducible apply State.loopStore_same
    | with_reducible apply same_ite
    | with_reducible apply same_foldl
    | with_reducible apply sameR_next
    | with_reducible apply same_foldl1
    | with_reducible apply same_ite1
    | split

theorem State.setVafe_same (s : State) (ok : Bool) (hkm : Sub 47742758 km) (h0 : Same km ka s) : Same km ka (State.setVafe s ok) := by
  unfold State.setVafe
  try dsimp only
  repeat' first
    | with_reducible assumption
    | exact Sub.trans rfl hkm
    | intro _
    | with_reducible apply State.driveFollow_same
    | with_reducible apply State.compare_same
    | with_reducible apply State.routesStopped_same
    | with_reducible apply same_ite
    | with_reducible apply same_foldl
    | with_reducible apply sameR_next
    | with_reducible apply same_foldl1
    | with_reducible apply same_ite1
    | split
    | dsimp only
    | with_reducible apply same_sys

theorem execVafeLoss_same (s : State) (hkm : Sub 47742758 km) (h0 : Same km ka s) : SameR km ka (execVafeLoss s) := by
  unfold execVafeLoss
  try dsimp only
  repeat' first
    | with_reducible assumption
    | exact Sub.trans rfl hkm
    | intro _
    | with_reducible apply State.setVafe_same
    | with_reducible apply same_ite
    | with_reducible apply same_foldl
    | with_reducible apply sameR_next

theorem execVafeReturn_same (s : State) (hkm : Sub 47742758 km) (h0 : Same km ka s) : SameR km ka (execVafeReturn s) := by
  unfold execVafeReturn
  try dsimp only
  repeat' first
    | with_reducible assumption
    | exact Sub.trans rfl hkm
    | intro _
    | with_reducible apply State.setVafe_same
    | with_reducible apply same_ite
    | with_reducible apply same_foldl
    | with_reducible apply sameR_next

end Sys2Proof.Machine
end

