-- ==== Sys2Proof/Laws/SameSer.lean ====
section
/-! SUPPORT. What the operations of Machine/Ser.lean keep (Laws/Same.lean). -/
set_option Elab.async false
namespace Sys2Proof.Machine

variable {km : Nat} {ka : State}

theorem State.setSp_same (s : State) (x : Nat) (p : SerPS) (hkm : Sub 32770 km) (h0 : Same km ka s) : Same km ka (State.setSp s x p) := by
  unfold State.setSp
  try dsimp only
  repeat' first
    | with_reducible assumption
    | exact Sub.trans rfl hkm
    | intro _
    | with_reducible apply State.f_same
    | with_reducible apply same_ite
    | with_reducible apply same_foldl
    | with_reducible apply sameR_next
    | with_reducible apply same_foldl1
    | with_reducible apply same_ite1
    | split
    | dsimp only
    | with_reducible apply same_ser

theorem State.serPut_same (s : State) (x : Nat) (qq : SerQS) (hkm : Sub 32770 km) (h0 : Same km ka s) : Same km ka (State.serPut s x qq) := by
  unfold State.serPut
  try dsimp only
  repeat' first
    | with_reducible assumption
    | exact Sub.trans rfl hkm
    | intro _
    | with_reducible apply State.setSp_same

theorem State.placeRun_same (s : State) (hkm : Sub 36866 km) (h : SerHS) (h0 : Same km ka s) : Same km ka (State.placeRun s h) := by
  unfold State.placeRun
  try dsimp only
  repeat' first
    | with_reducible assumption
    | exact Sub.trans rfl hkm
    | intro _
    | with_reducible apply State.setSp_same
    | with_reducible apply State.serPut_same
    | with_reducible apply same_ite
    | with_reducible apply same_foldl
    | with_reducible apply sameR_next
    | with_reducible apply same_foldl1
    | with_reducible apply same_ite1
    | split
    | dsimp only
    | with_reducible apply same_psc

theorem execSerialCounterClr_same (x : Nat) (v : Word) (s : State) (hkm : Sub 2594 km) (h0 : Same km ka s) : SameR km ka (execSerialCounterClr x v s) := by
  unfold execSerialCounterClr
  try dsimp only
  repeat' first
    | with_reducible assumption
    | exact Sub.trans rfl hkm
    | intro _
    | with_reducible apply State.barWrite_same
    | with_reducible apply State.clrWrite_same
    | with_reducible apply same_ite
    | with_reducible apply same_foldl
    | with_reducible apply sameR_next

theorem State.slaveGap_same (s : State) (x : Nat) (hkm : Sub 13634082 km) (h0 : Same km ka s) : Same km ka (State.slaveGap s x) := by
  unfold State.slaveGap
  try dsimp only
  repeat' first
    | with_reducible assumption
    | exact Sub.trans rfl hkm
    | intro _
    | with_reducible apply State.interruptAll_same

theorem State.serStop_same (s : State) (hkm : Sub 13670946 km) (h0 : Same km ka s) : Same km ka (State.serStop s) := by
  unfold State.serStop
  try dsimp only
  repeat' first
    | with_reducible assumption
    | exact Sub.trans rfl hkm
    | intro _
    | with_reducible apply State.setSp_same
    | with_reducible apply State.finishId_same
    | with_reducible apply State.slaveGap_same
    | with_reducible apply same_ite
    | with_reducible apply same_foldl
    | with_reducible apply sameR_next
    | with_reducible apply same_foldl1
    | with_reducible apply same_ite1
    | split
    | dsimp only
    | with_reducible apply same_psc

theorem State.tplIdxWrite_same (s : State) (v : Word) (hkm : Sub 33314 km) (h0 : Same km ka s) : Same km ka (State.tplIdxWrite s v) := by
  unfold State.tplIdxWrite
  try dsimp only
  repeat' first
    | with_reducible assumption
    | exact Sub.trans rfl hkm
    | intro _
    | with_reducible apply State.discard_same
    | with_reducible apply State.wr_same
    | with_reducible apply same_ite
    | with_reducible apply same_foldl
    | with_reducible apply sameR_next
    | with_reducible apply same_foldl1
    | with_reducible apply same_ite1
    | split
    | dsimp only
    | with_reducible apply same_ser

theorem State.serCfgWrite_same (s : State) (x : Nat) (v : Word) (hkm : Sub 13634082 km) (h0 : Same km ka s) : Same km ka (State.serCfgWrite s x v) := by
  unfold State.serCfgWrite
  try dsimp only
  repeat' first
    | with_reducible assumption
    | exact Sub.trans rfl hkm
    | intro _
    | with_reducible apply State.discard_same
    | with_reducible apply State.slaveGap_same
    | with_reducible apply State.store_same
    | with_reducible apply same_ite

theorem execTemplateCommit_same (n : Nat) (s : State) (hkm : Sub 35362 km) (h0 : Same km ka s) : SameR km ka (execTemplateCommit n s) := by
  unfold execTemplateCommit
  try dsimp only
  repeat' first
    | with_reducible assumption
    | exact Sub.trans rfl hkm
    | intro _
    | with_reducible apply State.barWrite_same
    | with_reducible apply State.tplIdxWrite_same
    | with_reducible apply same_ite
    | with_reducible apply same_foldl
    | with_reducible apply sameR_next

theorem execTemplateRead_same (n : Nat) (s : State) (hkm : Sub 35362 km) (h0 : Same km ka s) : SameR km ka (execTemplateRead n s) := by
  unfold execTemplateRead
  try dsimp only
  repeat' first
    | with_reducible assumption
    | exact Sub.trans rfl hkm
    | intro _
    | with_reducible apply State.barWrite_same
    | with_reducible apply State.tplIdxWrite_same
    | with_reducible apply same_ite
    | with_reducible apply same_foldl
    | with_reducible apply sameR_next

theorem State.placeHeld_same (x : Nat) (v1 : Nat) (v2 : State) (hkm : Sub 36866 km) (h0 : Same km ka v2) : Same km ka (State.placeHeld x v1 v2) := by
  induction v1 generalizing v2 with
  | zero => exact h0
  | succ n ih =>
    unfold State.placeHeld
    try dsimp only
    repeat' first
      | with_reducible assumption
      | exact Sub.trans rfl hkm
      | with_reducible apply ih
      | intro _
      | with_reducible apply State.placeRun_same
      | with_reducible apply same_ite
      | with_reducible apply same_foldl
      | with_reducible apply sameR_next
      | with_reducible apply same_foldl1
      | with_reducible apply same_ite1
      | split
      | dsimp only
      | with_reducible apply same_psc

theorem State.serStart_same (s : State) (x : Nat) (hkm : Sub 37922 km) (h0 : Same km ka s) : Same km ka (State.serStart s x) := by
  unfold State.serStart
  try dsimp only
  repeat' first
    | with_reducible assumption
    | exact Sub.trans rfl hkm
    | intro _
    | with_reducible apply State.inc_same
    | with_reducible apply State.setSp_same
    | with_reducible apply State.placeHeld_same
    | with_reducible apply State.event_same
    | with_reducible apply same_ite
    | with_reducible apply same_foldl
    | with_reducible apply sameR_next
    | with_reducible apply same_foldl1
    | with_reducible apply same_ite1
    | split
    | dsimp only
    | with_reducible apply same_out

theorem execSerialEntryStart_same (x : Nat) (s : State) (hkm : Sub 37922 km) (h0 : Same km ka s) : SameR km ka (execSerialEntryStart x s) := by
  unfold execSerialEntryStart
  try dsimp only
  repeat' first
    | with_reducible assumption
    | exact Sub.trans rfl hkm
    | intro _
    | with_reducible apply State.serStart_same
    | with_reducible apply same_ite
    | with_reducible apply same_foldl
    | with_reducible apply sameR_next

theorem State.serDeliver_same (s : State) (r : SerRS) (ws : List Nat) (hkm : Sub 14424610 km) (h0 : Same km ka s) : Same km ka (State.serDeliver s r ws) := by
  unfold State.serDeliver
  try dsimp only
  repeat' first
    | with_reducible assumption
    | exact Sub.trans rfl hkm
    | intro _
    | with_reducible apply State.enqueueRaw_same
    | with_reducible apply State.pollGot_same
    | with_reducible apply State.finTxn_same
    | with_reducible apply State.loseTxn_same
    | with_reducible apply same_ite
    | with_reducible apply same_foldl
    | with_reducible apply sameR_next
    | with_reducible apply same_foldl1
    | with_reducible apply same_ite1
    | split

theorem execSerialEntryDone_same (x : Nat) (ws : List Word) (s : State) (hkm : Sub 14457378 km) (h0 : Same km ka s) : SameR km ka (execSerialEntryDone x ws s) := by
  unfold execSerialEntryDone
  try dsimp only
  repeat' first
    | with_reducible assumption
    | exact Sub.trans rfl hkm
    | intro _
    | with_reducible apply State.setSp_same
    | with_reducible apply State.inc_same
    | with_reducible apply State.serDeliver_same
    | with_reducible apply State.finishId_same
    | with_reducible apply State.loseTxn_same
    | with_reducible apply same_ite
    | with_reducible apply same_foldl
    | with_reducible apply sameR_next
    | with_reducible apply same_foldl1
    | with_reducible apply same_ite1
    | split

theorem State.slaveWord_same (s : State) (x : Nat) (n : Nat) (back : Nat) (v : Word) (hkm : Sub 14191138 km) (h0 : Same km ka s) : Same km ka (State.slaveWord s x n back v) := by
  unfold State.slaveWord
  try dsimp only
  repeat' first
    | with_reducible assumption
    | exact Sub.trans rfl hkm
    | intro _
    | with_reducible apply State.setSp_same
    | with_reducible apply State.inc_same
    | with_reducible apply State.missEp_same
    | with_reducible apply same_ite
    | with_reducible apply same_foldl
    | with_reducible apply sameR_next
    | with_reducible apply same_foldl1
    | with_reducible apply same_ite1
    | split
    | dsimp only
    | with_reducible apply same_out

theorem execSlaveWordReceived_same (x : Nat) (v : Word) (s : State) (hkm : Sub 14191138 km) (h0 : Same km ka s) : SameR km ka (execSlaveWordReceived x v s) := by
  unfold execSlaveWordReceived
  try dsimp only
  repeat' first
    | with_reducible assumption
    | exact Sub.trans rfl hkm
    | intro _
    | with_reducible apply State.slaveWord_same
    | with_reducible apply same_ite
    | with_reducible apply same_foldl
    | with_reducible apply sameR_next

theorem execSlaveSelectNegated_same (x : Nat) (n : Nat) (back : Nat) (v : Word) (s : State) (hkm : Sub 14191138 km) (h0 : Same km ka s) : SameR km ka (execSlaveSelectNegated x n back v s) := by
  unfold execSlaveSelectNegated
  try dsimp only
  repeat' first
    | with_reducible assumption
    | exact Sub.trans rfl hkm
    | intro _
    | with_reducible apply State.slaveWord_same
    | with_reducible apply same_ite
    | with_reducible apply same_foldl
    | with_reducible apply sameR_next

theorem execSerXfer_same (s : State) (hkm : Sub 12615714 km) (h0 : Same km ka s) : SameR km ka (execSerXfer s) := by
  unfold execSerXfer
  try dsimp only
  repeat' first
    | with_reducible assumption
    | exact Sub.trans rfl hkm
    | intro _
    | with_reducible apply State.runJob_same
    | with_reducible apply State.finishWith_same
    | with_reducible apply State.serPut_same
    | with_reducible apply same_ite
    | with_reducible apply same_foldl
    | with_reducible apply sameR_next

end Sys2Proof.Machine
end

