-- ==== Sys2Proof/Laws/SameSched.lean ====
section
/-! SUPPORT. What the operations of Machine/Sched.lean keep (Laws/Same.lean). -/
set_option Elab.async false
namespace Sys2Proof.Machine

variable {km : Nat} {ka : State}

theorem State.beginEnt_same (s : State) (e : EntS) (hkm : Sub 4098 km) (h0 : Same km ka s) : Same km ka (State.beginEnt s e) := by
  unfold State.beginEnt
  try dsimp only
  repeat' first
    | with_reducible assumption
    | exact Sub.trans rfl hkm
    | intro _
    | with_reducible apply State.pscSts_same
    | with_reducible apply same_ite
    | with_reducible apply same_foldl
    | with_reducible apply sameR_next
    | with_reducible apply same_foldl1
    | with_reducible apply same_ite1
    | split
    | dsimp only
    | with_reducible apply same_psc

theorem execSchedCreate_same (s : State) (hkm : Sub 12587042 km) (h0 : Same km ka s) : SameR km ka (execSchedCreate s) := by
  unfold execSchedCreate
  try dsimp only
  repeat' first
    | with_reducible assumption
    | exact Sub.trans rfl hkm
    | intro _
    | with_reducible apply State.runJob_same
    | with_reducible apply State.finishWith_same
    | with_reducible apply State.quotaRefuse_same
    | with_reducible apply State.finish_same
    | with_reducible apply State.beginEnt_same
    | with_reducible apply same_ite
    | with_reducible apply same_foldl
    | with_reducible apply sameR_next
    | with_reducible apply same_foldl1
    | with_reducible apply same_ite1
    | split

theorem State.txnDue_same (s : State) (t : TxnS) (hkm : Sub 14424610 km) (h0 : Same km ka s) : Same km ka (State.txnDue s t) := by
  unfold State.txnDue
  try dsimp only
  repeat' first
    | with_reducible assumption
    | exact Sub.trans rfl hkm
    | intro _
    | with_reducible apply State.finTxn_same
    | with_reducible apply State.loseTxn_same
    | with_reducible apply same_ite

theorem execCourseDeadline_same (b : Nat) (s : State) (hkm : Sub 14424610 km) (h0 : Same km ka s) : SameR km ka (execCourseDeadline b s) := by
  unfold execCourseDeadline
  try dsimp only
  repeat' first
    | with_reducible assumption
    | exact Sub.trans rfl hkm
    | intro _
    | with_reducible apply State.txnDue_same
    | with_reducible apply same_ite
    | with_reducible apply same_foldl
    | with_reducible apply sameR_next
    | with_reducible apply same_foldl1
    | with_reducible apply same_ite1
    | split

theorem State.putState_same (s : State) (idx : Nat) (st : Nat) (f : EntS → EntS) (hkm : Sub 4096 km) (h0 : Same km ka s) : Same km ka (State.putState s idx st f) := by
  unfold State.putState
  try dsimp only
  repeat' first
    | with_reducible assumption
    | exact Sub.trans rfl hkm
    | intro _
    | with_reducible apply State.modEnt_same

theorem State.settleRun_same (s : State) (idx : Nat) (hkm : Sub 14162466 km) (h0 : Same km ka s) : Same km ka (State.settleRun s idx) := by
  unfold State.settleRun
  try dsimp only
  repeat' first
    | with_reducible assumption
    | exact Sub.trans rfl hkm
    | intro _
    | with_reducible apply State.passTo_same
    | with_reducible apply State.checkEnd_same
    | with_reducible apply State.putState_same
    | with_reducible apply same_ite
    | with_reducible apply same_foldl
    | with_reducible apply sameR_next
    | with_reducible apply same_foldl1
    | with_reducible apply same_ite1
    | split

theorem State.settleNode_same (s : State) (e : EntS) (hkm : Sub 14162466 km) (h0 : Same km ka s) : Same km ka (State.settleNode s e) := by
  unfold State.settleNode
  try dsimp only
  repeat' first
    | with_reducible assumption
    | exact Sub.trans rfl hkm
    | intro _
    | with_reducible apply State.settleRun_same
    | with_reducible apply State.modEnt_same
    | with_reducible apply State.putState_same
    | with_reducible apply same_ite
    | with_reducible apply same_foldl
    | with_reducible apply sameR_next
    | with_reducible apply same_foldl1
    | with_reducible apply same_ite1
    | split

theorem State.nofitScan_same (s : State) (hkm : Sub 14162466 km) (h0 : Same km ka s) : Same km ka (State.nofitScan s) := by
  unfold State.nofitScan
  try dsimp only
  repeat' first
    | with_reducible assumption
    | exact Sub.trans rfl hkm
    | intro _
    | with_reducible apply State.passMissed_same
    | with_reducible apply State.settleNode_same
    | with_reducible apply same_ite
    | with_reducible apply same_foldl

theorem State.destroyEnt_same (s : State) (idx : Nat) (hkm : Sub 14162466 km) (h0 : Same km ka s) : Same km ka (State.destroyEnt s idx) := by
  unfold State.destroyEnt
  try dsimp only
  repeat' first
    | with_reducible assumption
    | exact Sub.trans rfl hkm
    | intro _
    | with_reducible apply State.passMissed_same
    | with_reducible apply State.nofitScan_same
    | with_reducible apply State.pscSts_same
    | with_reducible apply same_ite
    | with_reducible apply same_foldl
    | with_reducible apply sameR_next
    | with_reducible apply same_foldl1
    | with_reducible apply same_ite1
    | split
    | dsimp only
    | with_reducible apply same_psc

theorem State.dropPlan_same (s : State) (b : Nat) (hkm : Sub 14432802 km) (h0 : Same km ka s) : Same km ka (State.dropPlan s b) := by
  unfold State.dropPlan
  try dsimp only
  repeat' first
    | with_reducible assumption
    | exact Sub.trans rfl hkm
    | intro _
    | with_reducible apply State.setBus_same
    | with_reducible apply State.dropTag_same
    | with_reducible apply State.inc_same
    | with_reducible apply State.missPolls_same
    | with_reducible apply State.drainStreams_same
    | with_reducible apply State.checkEnd_same
    | with_reducible apply State.modEnt_same
    | with_reducible apply same_ite
    | with_reducible apply same_foldl
    | with_reducible apply sameR_next
    | with_reducible apply same_foldl1
    | with_reducible apply same_ite1
    | split
    | dsimp only
    | with_reducible apply same_psc

theorem State.lateOne_same (s : State) (idx : Nat) (hkm : Sub 14162466 km) (h0 : Same km ka s) : Same km ka (State.lateOne s idx) := by
  unfold State.lateOne
  try dsimp only
  repeat' first
    | with_reducible assumption
    | exact Sub.trans rfl hkm
    | intro _
    | with_reducible apply State.missPolls_same
    | with_reducible apply State.modEnt_same
    | with_reducible apply State.checkEnd_same
    | with_reducible apply State.inc_same
    | with_reducible apply same_ite
    | with_reducible apply same_foldl
    | with_reducible apply sameR_next
    | with_reducible apply same_foldl1
    | with_reducible apply same_ite1
    | split

theorem State.commitOne_same (s : State) (b : Nat) (c : Nat) (idx : Nat) (hkm : Sub 14162466 km) (h0 : Same km ka s) : Same km ka (State.commitOne s b c idx).1 := by
  unfold State.commitOne
  try dsimp only
  repeat' first
    | with_reducible assumption
    | exact Sub.trans rfl hkm
    | intro _
    | with_reducible apply State.checkEnd_same
    | with_reducible apply State.modEnt_same
    | with_reducible apply State.commitInst_same
    | with_reducible apply same_ite
    | with_reducible apply same_foldl
    | with_reducible apply sameR_next
    | with_reducible apply same_foldl1
    | with_reducible apply same_ite1
    | split

theorem State.commitEnt_same (b c idx n : Nat) (r : State × List (Nat × Nat) × List (Nat × Nat × Nat)) (hkm : Sub 14162466 km) (h0 : Same km ka r.1) :
    Same km ka (State.commitEnt b c idx n r).1 := by
  induction n generalizing r with
  | zero => exact h0
  | succ n ih =>
    obtain ⟨s, m, l⟩ := r
    exact ih _ (State.commitOne_same s b c idx (Sub.trans rfl hkm) h0)


theorem State.commitCycle_same (s : State) (b : Nat) (c : Nat) (hkm : Sub 14170658 km) (h0 : Same km ka s) : Same km ka (State.commitCycle s b c) := by
  unfold State.commitCycle
  try dsimp only
  repeat' first
    | with_reducible assumption
    | exact Sub.trans rfl hkm
    | intro _
    | with_reducible apply State.passMissed_same
    | with_reducible apply State.modEnt_same
    | with_reducible apply times_same
    | with_reducible apply State.lateOne_same
    | with_reducible apply State.reachCut_same
    | with_reducible apply State.missOnce_same
    | with_reducible apply State.incBy_same
    | with_reducible apply State.setBus_same
    | with_reducible apply State.commitOne_same
    | with_reducible apply same_ite
    | with_reducible apply same_foldl
    | with_reducible apply sameR_next
    | with_reducible apply same_foldl1
    | with_reducible apply same_ite1
    | split
    | dsimp only
    | with_reducible refine same_of_pair ?_ (by assumption)
    | with_reducible apply State.commitEnt_same

theorem State.entsEnd_same (s : State) (id : Nat) (hkm : Sub 4096 km) (h0 : Same km ka s) : Same km ka (State.entsEnd s id) := by
  unfold State.entsEnd
  try dsimp only
  repeat' first
    | with_reducible assumption
    | exact Sub.trans rfl hkm
    | intro _
    | with_reducible apply same_ite
    | with_reducible apply same_foldl
    | with_reducible apply sameR_next
    | with_reducible apply same_foldl1
    | with_reducible apply same_ite1
    | split
    | dsimp only
    | with_reducible apply same_psc

theorem State.entsBack_same (s : State) (id : Nat) (hkm : Sub 14162466 km) (h0 : Same km ka s) : Same km ka (State.entsBack s id) := by
  unfold State.entsBack
  try dsimp only
  repeat' first
    | with_reducible assumption
    | exact Sub.trans rfl hkm
    | intro _
    | with_reducible apply State.passMissed_same
    | with_reducible apply State.settleNode_same
    | with_reducible apply same_ite
    | with_reducible apply same_foldl

theorem State.runLate_same (s : State) (e : EntS) (tol : Nat) (hkm : Sub 14162466 km) (h0 : Same km ka s) : Same km ka (State.runLate s e tol) := by
  unfold State.runLate
  try dsimp only
  repeat' first
    | with_reducible assumption
    | exact Sub.trans rfl hkm
    | intro _
    | with_reducible apply times_same
    | with_reducible apply State.passOne_same
    | with_reducible apply State.inc_same
    | with_reducible apply State.modEnt_same
    | with_reducible apply same_ite
    | with_reducible apply same_foldl
    | with_reducible apply sameR_next
    | with_reducible apply same_foldl1
    | with_reducible apply same_ite1
    | split

theorem execSerialPlacement_same (idx : Nat) (s : State) (hkm : Sub 14195234 km) (h0 : Same km ka s) : SameR km ka (execSerialPlacement idx s) := by
  unfold execSerialPlacement
  try dsimp only
  repeat' first
    | with_reducible assumption
    | exact Sub.trans rfl hkm
    | intro _
    | with_reducible apply State.runLate_same
    | with_reducible apply State.reachCut_same
    | with_reducible apply State.checkEnd_same
    | with_reducible apply State.missPolls_same
    | with_reducible apply State.modEnt_same
    | with_reducible apply State.commitInst_same
    | with_reducible apply State.placeRun_same
    | with_reducible apply same_ite
    | with_reducible apply same_foldl
    | with_reducible apply sameR_next
    | with_reducible apply same_foldl1
    | with_reducible apply same_ite1
    | split
    | dsimp only
    | (refine same_of_pair ?_ (by with_reducible assumption))

theorem execSerlateExpiry_same (x : Nat) (s : State) (hkm : Sub 14457378 km) (h0 : Same km ka s) : SameR km ka (execSerlateExpiry x s) := by
  unfold execSerlateExpiry
  try dsimp only
  repeat' first
    | with_reducible assumption
    | exact Sub.trans rfl hkm
    | intro _
    | with_reducible apply State.setSp_same
    | with_reducible apply State.loseTxn_same
    | with_reducible apply State.placeHeld_same
    | with_reducible apply same_ite
    | with_reducible apply same_foldl
    | with_reducible apply sameR_next
    | with_reducible apply same_foldl1
    | with_reducible apply same_ite1
    | split
    | dsimp only
    | with_reducible apply same_psc

theorem State.wheelCommit_same (s : State) (e : EntS) (hkm : Sub 14162466 km) (h0 : Same km ka s) : Same km ka (State.wheelCommit s e) := by
  unfold State.wheelCommit
  try dsimp only
  repeat' first
    | with_reducible assumption
    | exact Sub.trans rfl hkm
    | intro _
    | with_reducible apply State.commitInst_same
    | with_reducible apply State.modEnt_same
    | with_reducible apply State.reachCut_same
    | with_reducible apply same_ite
    | with_reducible apply same_foldl
    | with_reducible apply sameR_next
    | with_reducible apply same_foldl1
    | with_reducible apply same_ite1
    | split

theorem State.wheelInstant_same (s : State) (idx : Nat) (hkm : Sub 14424610 km) (h0 : Same km ka s) : Same km ka (State.wheelInstant s idx) := by
  unfold State.wheelInstant
  try dsimp only
  repeat' first
    | with_reducible assumption
    | exact Sub.trans rfl hkm
    | intro _
    | with_reducible apply State.runLate_same
    | with_reducible apply State.wheelCommit_same
    | with_reducible apply State.enqueueRaw_same
    | with_reducible apply State.pollGot_same
    | with_reducible apply same_ite
    | with_reducible apply same_foldl
    | with_reducible apply sameR_next
    | with_reducible apply same_foldl1
    | with_reducible apply same_ite1
    | split

theorem execWheelInstant_same (idx : Nat) (s : State) (hkm : Sub 14424610 km) (h0 : Same km ka s) : SameR km ka (execWheelInstant idx s) := by
  unfold execWheelInstant
  try dsimp only
  repeat' first
    | with_reducible assumption
    | exact Sub.trans rfl hkm
    | intro _
    | with_reducible apply State.wheelInstant_same
    | with_reducible apply same_ite
    | with_reducible apply same_foldl
    | with_reducible apply sameR_next

theorem execRemoteCommandTimeout_same (tag : Nat) (s : State) (hkm : Sub 12845090 km) (h0 : Same km ka s) : SameR km ka (execRemoteCommandTimeout tag s) := by
  unfold execRemoteCommandTimeout
  try dsimp only
  repeat' first
    | with_reducible assumption
    | exact Sub.trans rfl hkm
    | intro _
    | with_reducible apply State.remDone_same
    | with_reducible apply State.dropTag_same
    | with_reducible apply State.sendImage_same
    | with_reducible apply State.inc_same
    | with_reducible apply State.sendMsg_same
    | with_reducible apply same_ite
    | with_reducible apply same_foldl
    | with_reducible apply sameR_next
    | with_reducible apply same_foldl1
    | with_reducible apply same_ite1
    | split
    | dsimp only
    | with_reducible apply same_rng

theorem execPscCounterClr_same (v : Word) (s : State) (hkm : Sub 2594 km) (h0 : Same km ka s) : SameR km ka (execPscCounterClr v s) := by
  unfold execPscCounterClr
  try dsimp only
  repeat' first
    | with_reducible assumption
    | exact Sub.trans rfl hkm
    | intro _
    | with_reducible apply State.barWrite_same
    | with_reducible apply State.clrWrite_same
    | with_reducible apply same_ite
    | with_reducible apply same_foldl
    | with_reducible apply sameR_next

theorem execSchedDestroy_same (s : State) (hkm : Sub 14162466 km) (h0 : Same km ka s) : SameR km ka (execSchedDestroy s) := by
  unfold execSchedDestroy
  try dsimp only
  repeat' first
    | with_reducible assumption
    | exact Sub.trans rfl hkm
    | intro _
    | with_reducible apply State.runJob_same
    | with_reducible apply State.finishWith_same
    | with_reducible apply State.destroyEnt_same
    | with_reducible apply same_ite
    | with_reducible apply same_foldl
    | with_reducible apply sameR_next
    | with_reducible apply same_foldl1
    | with_reducible apply same_ite1
    | split

theorem execSchedQuery_same (s : State) (hkm : Sub 14162466 km) (h0 : Same km ka s) : SameR km ka (execSchedQuery s) := by
  unfold execSchedQuery
  try dsimp only
  repeat' first
    | with_reducible assumption
    | exact Sub.trans rfl hkm
    | intro _
    | with_reducible apply State.runJob_same
    | with_reducible apply State.passMissed_same
    | with_reducible apply State.finishWith_same
    | with_reducible apply State.finish_same
    | with_reducible apply State.modEnt_same
    | with_reducible apply same_ite
    | with_reducible apply same_foldl
    | with_reducible apply sameR_next
    | with_reducible apply same_foldl1
    | with_reducible apply same_ite1
    | split

theorem execSchedTrigger_same (s : State) (hkm : Sub 14162466 km) (h0 : Same km ka s) : SameR km ka (execSchedTrigger s) := by
  unfold execSchedTrigger
  try dsimp only
  repeat' first
    | with_reducible assumption
    | exact Sub.trans rfl hkm
    | intro _
    | with_reducible apply State.runJob_same
    | with_reducible apply State.finishWith_same
    | with_reducible apply State.trigger_same
    | with_reducible apply State.triggerGroup_same
    | with_reducible apply same_ite
    | with_reducible apply same_foldl
    | with_reducible apply sameR_next
    | with_reducible apply same_foldl1
    | with_reducible apply same_ite1
    | split

end Sys2Proof.Machine
end

