-- ==== Sys2Proof/Laws/SameEpt.lean ====
section
/-! SUPPORT. What the operations of Machine/Ept.lean keep (Laws/Same.lean). -/
set_option Elab.async false
namespace Sys2Proof.Machine

variable {km : Nat} {ka : State}

theorem State.setSwct_same (s : State) (t : Nat) (hkm : Sub 262146 km) (h0 : Same km ka s) : Same km ka (State.setSwct s t) := by
  unfold State.setSwct
  try dsimp only
  repeat' first
    | with_reducible assumption
    | exact Sub.trans rfl hkm
    | intro _
    | with_reducible apply State.f64_same
    | with_reducible apply same_ite
    | with_reducible apply same_foldl
    | with_reducible apply sameR_next
    | with_reducible apply same_foldl1
    | with_reducible apply same_ite1
    | split
    | dsimp only
    | with_reducible apply same_ept

theorem State.overSwitch_same (s : State) (e : Nat) (ct : Nat) (hkm : Sub 262144 km) (h0 : Same km ka s) : Same km ka (State.overSwitch s e ct) := by
  unfold State.overSwitch
  try dsimp only
  repeat' first
    | with_reducible assumption
    | exact Sub.trans rfl hkm
    | intro _
    | with_reducible apply same_ite
    | with_reducible apply same_foldl
    | with_reducible apply sameR_next
    | with_reducible apply same_foldl1
    | with_reducible apply same_ite1
    | split
    | dsimp only
    | with_reducible apply same_ept

theorem State.fanOut_same (s : State) (e : Nat) (ct : Nat) (fl : Nat) (past : Int) (d : DecR) (hkm : Sub 14158370 km) (h0 : Same km ka s) : Same km ka (State.fanOut s e ct fl past d) := by
  unfold State.fanOut
  try dsimp only
  repeat' first
    | with_reducible assumption
    | exact Sub.trans rfl hkm
    | intro _
    | with_reducible apply State.streamSample_same
    | with_reducible apply State.rcgFeed_same
    | with_reducible apply State.mashFeed_same

theorem State.countDec_same (s : State) (d : DecR) (hkm : Sub 2 km) (h0 : Same km ka s) : Same km ka (State.countDec s d) := by
  unfold State.countDec
  try dsimp only
  repeat' first
    | with_reducible assumption
    | exact Sub.trans rfl hkm
    | intro _
    | with_reducible apply State.incBy_same
    | with_reducible apply State.inc_same
    | with_reducible apply same_ite

theorem State.decodeRaw_same (s : State) (x : RawS) (hkm : Sub 14420514 km) (h0 : Same km ka s) : Same km ka (State.decodeRaw s x) := by
  unfold State.decodeRaw
  try dsimp only
  repeat' first
    | with_reducible assumption
    | exact Sub.trans rfl hkm
    | intro _
    | with_reducible apply State.inc_same
    | with_reducible apply State.missEp_same
    | with_reducible apply State.f_same
    | with_reducible apply State.overSwitch_same
    | with_reducible apply State.fanOut_same
    | with_reducible apply State.countDec_same
    | with_reducible apply same_ite
    | with_reducible apply same_foldl
    | with_reducible apply sameR_next
    | with_reducible apply same_foldl1
    | with_reducible apply same_ite1
    | split

theorem State.decodeHead_same (s : State) (hkm : Sub 14420514 km) (h0 : Same km ka s) : Same km ka (State.decodeHead s) := by
  unfold State.decodeHead
  try dsimp only
  repeat' first
    | with_reducible assumption
    | exact Sub.trans rfl hkm
    | intro _
    | with_reducible apply State.drainStreams_same
    | with_reducible apply State.decodeRaw_same
    | with_reducible apply same_ite
    | with_reducible apply same_foldl
    | with_reducible apply sameR_next
    | with_reducible apply same_foldl1
    | with_reducible apply same_ite1
    | split
    | dsimp only
    | with_reducible apply same_ept

theorem State.retireBank_same (s : State) (hkm : Sub 14420514 km) (h0 : Same km ka s) : Same km ka (State.retireBank s) := by
  unfold State.retireBank
  try dsimp only
  repeat' first
    | with_reducible assumption
    | exact Sub.trans rfl hkm
    | intro _
    | with_reducible apply times_same
    | with_reducible apply State.decodeHead_same
    | with_reducible apply State.raiseHub_same
    | with_reducible apply State.inc_same
    | with_reducible apply State.f_same
    | with_reducible apply State.zero_same
    | with_reducible apply same_ite
    | with_reducible apply same_foldl
    | with_reducible apply sameR_next
    | with_reducible apply same_foldl1
    | with_reducible apply same_ite1
    | split
    | dsimp only
    | with_reducible apply same_ept

theorem State.retireNow_same (s : State) (hkm : Sub 14420514 km) (h0 : Same km ka s) : Same km ka (State.retireNow s) := by
  unfold State.retireNow
  try dsimp only
  repeat' first
    | with_reducible assumption
    | exact Sub.trans rfl hkm
    | intro _
    | with_reducible apply State.retireBank_same
    | with_reducible apply same_ite

theorem State.putRec_same (s : State) (e : Nat) (r : EpS) (hkm : Sub 2367488 km) (h0 : Same km ka s) : Same km ka (State.putRec s e r) := by
  unfold State.putRec
  try dsimp only
  repeat' first
    | with_reducible assumption
    | exact Sub.trans rfl hkm
    | with_reducible exact Or.inr (Sub.trans rfl hkm)
    | with_reducible exact Or.inl rfl
    | intro _
    | with_reducible apply State.setOwner_same
    | with_reducible apply State.setEp_same
    | with_reducible apply same_ite
    | with_reducible apply same_foldl
    | with_reducible apply sameR_next
    | with_reducible apply same_foldl1
    | with_reducible apply same_ite1
    | split
    | dsimp only
    | with_reducible apply same_crs
    | with_reducible apply same_ept
    | with_reducible apply same_mk

theorem State.eptIdxWrite_same (s : State) (v : Word) (hkm : Sub 2368034 km) (h0 : Same km ka s) : Same km ka (State.eptIdxWrite s v) := by
  unfold State.eptIdxWrite
  try dsimp only
  repeat' first
    | with_reducible assumption
    | exact Sub.trans rfl hkm
    | intro _
    | with_reducible apply State.discard_same
    | with_reducible apply State.putRec_same
    | with_reducible apply State.f_same
    | with_reducible apply same_ite
    | with_reducible apply same_foldl
    | with_reducible apply sameR_next
    | with_reducible apply same_foldl1
    | with_reducible apply same_ite1
    | split

theorem State.setStaged_same (s : State) (img : List Nat) (st : Nat) (hkm : Sub 262146 km) (h0 : Same km ka s) : Same km ka (State.setStaged s img st) := by
  unfold State.setStaged
  try dsimp only
  repeat' first
    | with_reducible assumption
    | exact Sub.trans rfl hkm
    | intro _
    | with_reducible apply State.f_same
    | with_reducible apply same_ite
    | with_reducible apply same_foldl
    | with_reducible apply sameR_next
    | with_reducible apply same_foldl1
    | with_reducible apply same_ite1
    | split
    | dsimp only
    | with_reducible apply same_ept

theorem State.loadBegin_same (s : State) (l : LoadS) (hkm : Sub 262146 km) (h0 : Same km ka s) : Same km ka (State.loadBegin s l) := by
  unfold State.loadBegin
  try dsimp only
  repeat' first
    | with_reducible assumption
    | exact Sub.trans rfl hkm
    | intro _
    | with_reducible apply State.setStaged_same
    | with_reducible apply same_ite
    | with_reducible apply same_foldl
    | with_reducible apply sameR_next
    | with_reducible apply same_foldl1
    | with_reducible apply same_ite1
    | split
    | dsimp only
    | with_reducible apply same_ept

theorem State.ldCtlWrite_same (s : State) (v : Word) (hkm : Sub 262690 km) (h0 : Same km ka s) : Same km ka (State.ldCtlWrite s v) := by
  unfold State.ldCtlWrite
  try dsimp only
  repeat' first
    | with_reducible assumption
    | exact Sub.trans rfl hkm
    | intro _
    | with_reducible apply State.discard_same
    | with_reducible apply State.loadBegin_same
    | with_reducible apply State.f_same
    | with_reducible apply State.showNvs_same
    | with_reducible apply State.setStaged_same
    | with_reducible apply same_ite
    | with_reducible apply same_foldl
    | with_reducible apply sameR_next
    | with_reducible apply same_foldl1
    | with_reducible apply same_ite1
    | split

theorem State.attach_same (s : State) (img : List Nat) (hkm : Sub 262144 km) (h0 : Same km ka s) : Same km ka (State.attach s img) := by
  unfold State.attach
  try dsimp only
  repeat' first
    | with_reducible assumption
    | exact Sub.trans rfl hkm
    | intro _
    | with_reducible apply State.setEp_same
    | with_reducible apply same_ite
    | with_reducible apply same_foldl
    | with_reducible apply sameR_next
    | with_reducible apply same_foldl1
    | with_reducible apply same_ite1
    | split
    | dsimp only
    | with_reducible apply same_ept

theorem State.switchEffect_same (s : State) (late : Bool) (ago : Nat) (hkm : Sub 263170 km) (h0 : Same km ka s) : Same km ka (State.switchEffect s late ago) := by
  unfold State.switchEffect
  try dsimp only
  repeat' first
    | with_reducible assumption
    | exact Sub.trans rfl hkm
    | intro _
    | with_reducible apply State.attach_same
    | with_reducible apply State.f_same
    | with_reducible apply State.event_same
    | with_reducible apply same_ite
    | with_reducible apply same_foldl
    | with_reducible apply sameR_next
    | with_reducible apply same_foldl1
    | with_reducible apply same_ite1
    | split
    | dsimp only
    | with_reducible apply same_ept

theorem State.swCtlWrite_same (s : State) (v : Word) (hkm : Sub 263714 km) (h0 : Same km ka s) : Same km ka (State.swCtlWrite s v) := by
  unfold State.swCtlWrite
  try dsimp only
  repeat' first
    | with_reducible assumption
    | exact Sub.trans rfl hkm
    | intro _
    | with_reducible apply State.discard_same
    | with_reducible apply State.switchEffect_same
    | with_reducible apply State.setSwct_same
    | with_reducible apply State.f_same
    | with_reducible apply same_ite
    | with_reducible apply same_foldl
    | with_reducible apply sameR_next
    | with_reducible apply same_foldl1
    | with_reducible apply same_ite1
    | split
    | dsimp only
    | with_reducible apply same_ept

theorem execRecordCommit_same (e : Nat) (s : State) (hkm : Sub 2370082 km) (h0 : Same km ka s) : SameR km ka (execRecordCommit e s) := by
  unfold execRecordCommit
  try dsimp only
  repeat' first
    | with_reducible assumption
    | exact Sub.trans rfl hkm
    | intro _
    | with_reducible apply State.barWrite_same
    | with_reducible apply State.eptIdxWrite_same
    | with_reducible apply same_ite
    | with_reducible apply same_foldl
    | with_reducible apply sameR_next

theorem execRecordRead_same (e : Nat) (s : State) (hkm : Sub 2370082 km) (h0 : Same km ka s) : SameR km ka (execRecordRead e s) := by
  unfold execRecordRead
  try dsimp only
  repeat' first
    | with_reducible assumption
    | exact Sub.trans rfl hkm
    | intro _
    | with_reducible apply State.barWrite_same
    | with_reducible apply State.eptIdxWrite_same
    | with_reducible apply same_ite
    | with_reducible apply same_foldl
    | with_reducible apply sameR_next

theorem execRecordRelease_same (e : Nat) (s : State) (hkm : Sub 2370082 km) (h0 : Same km ka s) : SameR km ka (execRecordRelease e s) := by
  unfold execRecordRelease
  try dsimp only
  repeat' first
    | with_reducible assumption
    | exact Sub.trans rfl hkm
    | intro _
    | with_reducible apply State.barWrite_same
    | with_reducible apply State.eptIdxWrite_same
    | with_reducible apply same_ite
    | with_reducible apply same_foldl
    | with_reducible apply sameR_next

theorem execTableLoadGo_same (src : Nat) (s : State) (hkm : Sub 264738 km) (h0 : Same km ka s) : SameR km ka (execTableLoadGo src s) := by
  unfold execTableLoadGo
  try dsimp only
  repeat' first
    | with_reducible assumption
    | exact Sub.trans rfl hkm
    | intro _
    | with_reducible apply State.barWrite_same
    | with_reducible apply State.ldCtlWrite_same
    | with_reducible apply same_ite
    | with_reducible apply same_foldl
    | with_reducible apply sameR_next

theorem State.loadErr_same (s : State) (l : LoadS) (b : List Nat) (hkm : Sub 546 km) (h0 : Same km ka s) : Same km ka (State.loadErr s l b) := by
  unfold State.loadErr
  try dsimp only
  repeat' first
    | with_reducible assumption
    | exact Sub.trans rfl hkm
    | intro _
    | with_reducible apply State.err_same
    | with_reducible apply same_ite
    | with_reducible apply same_foldl
    | with_reducible apply sameR_next
    | with_reducible apply same_foldl1
    | with_reducible apply same_ite1
    | split

theorem State.loadEnd_same (s : State) (l : LoadS) (ok : Bool) (b : List Nat) (hkm : Sub 12845602 km) (h0 : Same km ka s) : Same km ka (State.loadEnd s l ok b) := by
  unfold State.loadEnd
  try dsimp only
  repeat' first
    | with_reducible assumption
    | exact Sub.trans rfl hkm
    | intro _
    | with_reducible apply State.loadErr_same
    | with_reducible apply State.f_same
    | with_reducible apply State.setStaged_same
    | with_reducible apply State.finishId_same
    | with_reducible apply State.discard_same
    | with_reducible apply State.raiseHub_same
    | with_reducible apply same_ite
    | with_reducible apply same_foldl
    | with_reducible apply sameR_next
    | with_reducible apply same_foldl1
    | with_reducible apply same_ite1
    | split
    | dsimp only
    | with_reducible apply same_ept

theorem execTableLoadDone_same (ok : Bool) (b : List Nat) (s : State) (hkm : Sub 12845602 km) (h0 : Same km ka s) : SameR km ka (execTableLoadDone ok b s) := by
  unfold execTableLoadDone
  try dsimp only
  repeat' first
    | with_reducible assumption
    | exact Sub.trans rfl hkm
    | intro _
    | with_reducible apply State.loadEnd_same
    | with_reducible apply same_ite
    | with_reducible apply same_foldl
    | with_reducible apply sameR_next
    | with_reducible apply same_foldl1
    | with_reducible apply same_ite1
    | split

theorem execTableStoreDone_same (ok : Bool) (s : State) (hkm : Sub 12845602 km) (h0 : Same km ka s) : SameR km ka (execTableStoreDone ok s) := by
  unfold execTableStoreDone
  try dsimp only
  repeat' first
    | with_reducible assumption
    | exact Sub.trans rfl hkm
    | intro _
    | with_reducible apply State.showNvs_same
    | with_reducible apply State.f_same
    | with_reducible apply State.raiseHub_same
    | with_reducible apply State.discard_same
    | with_reducible apply State.setWorn_same
    | with_reducible apply same_ite
    | with_reducible apply same_foldl
    | with_reducible apply sameR_next
    | with_reducible apply same_foldl1
    | with_reducible apply same_ite1
    | split
    | dsimp only
    | with_reducible apply same_ept

theorem execSwitchArm_same (now_ : Bool) (s : State) (hkm : Sub 265762 km) (h0 : Same km ka s) : SameR km ka (execSwitchArm now_ s) := by
  unfold execSwitchArm
  try dsimp only
  repeat' first
    | with_reducible assumption
    | exact Sub.trans rfl hkm
    | intro _
    | with_reducible apply State.barWrite_same
    | with_reducible apply State.swCtlWrite_same
    | with_reducible apply same_ite
    | with_reducible apply same_foldl
    | with_reducible apply sameR_next

theorem execEptCounterClr_same (v : Word) (s : State) (hkm : Sub 2594 km) (h0 : Same km ka s) : SameR km ka (execEptCounterClr v s) := by
  unfold execEptCounterClr
  try dsimp only
  repeat' first
    | with_reducible assumption
    | exact Sub.trans rfl hkm
    | intro _
    | with_reducible apply State.barWrite_same
    | with_reducible apply State.clrWrite_same
    | with_reducible apply same_ite
    | with_reducible apply same_foldl
    | with_reducible apply sameR_next

theorem State.eptFlr_same (s : State) (hkm : Sub 262146 km) (h0 : Same km ka s) : Same km ka (State.eptFlr s) := by
  unfold State.eptFlr
  try dsimp only
  repeat' first
    | with_reducible assumption
    | exact Sub.trans rfl hkm
    | intro _
    | with_reducible apply State.setStaged_same
    | with_reducible apply same_ite
    | with_reducible apply same_foldl
    | with_reducible apply sameR_next
    | with_reducible apply same_foldl1
    | with_reducible apply same_ite1
    | split
    | dsimp only
    | with_reducible apply same_ept

theorem State.bootTables_same (s : State) (hkm : Sub 262146 km) (h0 : Same km ka s) : Same km ka (State.bootTables s) := by
  unfold State.bootTables
  try dsimp only
  repeat' first
    | with_reducible assumption
    | exact Sub.trans rfl hkm
    | intro _
    | with_reducible apply State.f_same
    | with_reducible apply same_ite
    | with_reducible apply same_foldl
    | with_reducible apply sameR_next
    | with_reducible apply same_foldl1
    | with_reducible apply same_ite1
    | split
    | dsimp only
    | with_reducible apply same_ept

theorem State.drainSlaves_same (s : State) (hkm : Sub 294914 km) (h0 : Same km ka s) : Same km ka (State.drainSlaves s) := by
  unfold State.drainSlaves
  try dsimp only
  repeat' first
    | with_reducible assumption
    | exact Sub.trans rfl hkm
    | intro _
    | with_reducible apply State.setSp_same
    | with_reducible apply same_ite
    | with_reducible apply same_foldl
    | with_reducible apply sameR_next
    | with_reducible apply same_foldl1
    | with_reducible apply same_ite1
    | split
    | dsimp only
    | with_reducible apply same_ept

theorem execDecode_same (s : State) (hkm : Sub 14453282 km) (h0 : Same km ka s) : SameR km ka (execDecode s) := by
  unfold execDecode
  try dsimp only
  repeat' first
    | with_reducible assumption
    | exact Sub.trans rfl hkm
    | intro _
    | with_reducible apply State.decodeHead_same
    | with_reducible apply State.drainSlaves_same
    | with_reducible apply same_ite
    | with_reducible apply same_foldl
    | with_reducible apply sameR_next

theorem execTableLoad_same (s : State) (hkm : Sub 12845090 km) (h0 : Same km ka s) : SameR km ka (execTableLoad s) := by
  unfold execTableLoad
  try dsimp only
  repeat' first
    | with_reducible assumption
    | exact Sub.trans rfl hkm
    | intro _
    | with_reducible apply State.runJob_same
    | with_reducible apply State.finishWith_same
    | with_reducible apply State.loadBegin_same
    | with_reducible apply same_ite
    | with_reducible apply same_foldl
    | with_reducible apply sameR_next
    | with_reducible apply same_foldl1
    | with_reducible apply same_ite1
    | split

theorem execTableStore_same (s : State) (hkm : Sub 264738 km) (h0 : Same km ka s) : SameR km ka (execTableStore s) := by
  unfold execTableStore
  try dsimp only
  repeat' first
    | with_reducible assumption
    | exact Sub.trans rfl hkm
    | intro _
    | with_reducible apply State.barWrite_same
    | with_reducible apply State.ldCtlWrite_same
    | with_reducible apply same_ite
    | with_reducible apply same_foldl
    | with_reducible apply sameR_next

theorem execTableDiscard_same (s : State) (hkm : Sub 264738 km) (h0 : Same km ka s) : SameR km ka (execTableDiscard s) := by
  unfold execTableDiscard
  try dsimp only
  repeat' first
    | with_reducible assumption
    | exact Sub.trans rfl hkm
    | intro _
    | with_reducible apply State.barWrite_same
    | with_reducible apply State.ldCtlWrite_same
    | with_reducible apply same_ite
    | with_reducible apply same_foldl
    | with_reducible apply sameR_next

theorem execSwitchCancel_same (s : State) (hkm : Sub 265762 km) (h0 : Same km ka s) : SameR km ka (execSwitchCancel s) := by
  unfold execSwitchCancel
  try dsimp only
  repeat' first
    | with_reducible assumption
    | exact Sub.trans rfl hkm
    | intro _
    | with_reducible apply State.barWrite_same
    | with_reducible apply State.swCtlWrite_same
    | with_reducible apply same_ite
    | with_reducible apply same_foldl
    | with_reducible apply sameR_next

theorem execSwitchEffect_same (s : State) (hkm : Sub 263170 km) (h0 : Same km ka s) : SameR km ka (execSwitchEffect s) := by
  unfold execSwitchEffect
  try dsimp only
  repeat' first
    | with_reducible assumption
    | exact Sub.trans rfl hkm
    | intro _
    | with_reducible apply State.switchEffect_same
    | with_reducible apply same_ite
    | with_reducible apply same_foldl
    | with_reducible apply sameR_next

theorem execBankRetire_same (s : State) (hkm : Sub 14420514 km) (h0 : Same km ka s) : SameR km ka (execBankRetire s) := by
  unfold execBankRetire
  try dsimp only
  repeat' first
    | with_reducible assumption
    | exact Sub.trans rfl hkm
    | intro _
    | with_reducible apply State.retireBank_same
    | with_reducible apply same_ite
    | with_reducible apply same_foldl
    | with_reducible apply sameR_next

theorem State.eptReset_same (s : State) (hkm : Sub 14420514 km) (h0 : Same km ka s) : Same km ka (State.eptReset s) := by
  unfold State.eptReset
  try dsimp only
  repeat' first
    | with_reducible assumption
    | exact Sub.trans rfl hkm
    | intro _
    | with_reducible apply State.retireNow_same
    | with_reducible apply State.drainStreams_same
    | with_reducible apply State.showNvs_same
    | with_reducible apply State.setStaged_same
    | with_reducible apply same_ite
    | with_reducible apply same_foldl
    | with_reducible apply sameR_next
    | with_reducible apply same_foldl1
    | with_reducible apply same_ite1
    | split
    | dsimp only
    | with_reducible apply same_ept

end Sys2Proof.Machine
end

