-- ==== Sys2Proof/Laws/SameRcg.lean ====
section
/-! SUPPORT. What the operations of Machine/Rcg.lean keep (Laws/Same.lean). -/
set_option Elab.async false
namespace Sys2Proof.Machine

variable {km : Nat} {ka : State}

theorem State.modInst_same (s : State) (n : Nat) (f : InstS → InstS) (hkm : Sub 1048576 km) (h0 : Same km ka s) : Same km ka (State.modInst s n f) := by
  unfold State.modInst
  try dsimp only
  repeat' first
    | with_reducible assumption
    | exact Sub.trans rfl hkm
    | intro _
    | with_reducible apply same_ite
    | with_reducible apply same_foldl
    | with_reducible apply sameR_next
    | with_reducible apply same_foldl1
    | with_reducible apply same_ite1
    | split
    | dsimp only
    | with_reducible apply same_rcg

theorem State.rcgPurge_same (s : State) (n : Nat) (hkm : Sub 1048576 km) (h0 : Same km ka s) : Same km ka (State.rcgPurge s n) := by
  unfold State.rcgPurge
  try dsimp only
  repeat' first
    | with_reducible assumption
    | exact Sub.trans rfl hkm
    | intro _
    | with_reducible apply same_ite
    | with_reducible apply same_foldl
    | with_reducible apply sameR_next
    | with_reducible apply same_foldl1
    | with_reducible apply same_ite1
    | split
    | dsimp only
    | with_reducible apply same_rcg

theorem State.emitAct_same (s : State) (n : Nat) (alert : Bool) (code : Nat) (next : Nat) (fl : Nat) (hkm : Sub 13634082 km) (h0 : Same km ka s) : Same km ka (State.emitAct s n alert code next fl) := by
  unfold State.emitAct
  try dsimp only
  repeat' first
    | with_reducible assumption
    | exact Sub.trans rfl hkm
    | intro _
    | with_reducible apply State.inc_same
    | with_reducible apply State.modInst_same
    | with_reducible apply State.placeSampleEv_same
    | with_reducible apply State.wakeReq_same
    | with_reducible apply same_ite
    | with_reducible apply same_foldl
    | with_reducible apply sameR_next
    | with_reducible apply same_foldl1
    | with_reducible apply same_ite1
    | split

theorem State.skipAct_same (s : State) (n : Nat) (hkm : Sub 1048578 km) (h0 : Same km ka s) : Same km ka (State.skipAct s n) := by
  unfold State.skipAct
  try dsimp only
  repeat' first
    | with_reducible assumption
    | exact Sub.trans rfl hkm
    | intro _
    | with_reducible apply State.modInst_same
    | with_reducible apply State.inc_same

theorem State.burstAct_same (s : State) (n : Nat) (x : InstS) (tgt : Nat) (hkm : Sub 14162466 km) (h0 : Same km ka s) : Same km ka (State.burstAct s n x tgt) := by
  unfold State.burstAct
  try dsimp only
  repeat' first
    | with_reducible assumption
    | exact Sub.trans rfl hkm
    | intro _
    | with_reducible apply State.trigger_same
    | with_reducible apply State.skipAct_same
    | with_reducible apply State.triggerGroup_same
    | with_reducible apply same_ite
    | with_reducible apply same_foldl
    | with_reducible apply sameR_next
    | with_reducible apply same_foldl1
    | with_reducible apply same_ite1
    | split

theorem State.freezeAct_same (s : State) (n : Nat) (x : InstS) (c : Nat) (cmd : MashCmd) (hkm : Sub 1572866 km) (h0 : Same km ka s) : Same km ka (State.freezeAct s n x c cmd) := by
  unfold State.freezeAct
  try dsimp only
  repeat' first
    | with_reducible assumption
    | exact Sub.trans rfl hkm
    | intro _
    | with_reducible apply State.skipAct_same
    | with_reducible apply State.mashDo_same
    | with_reducible apply same_ite
    | with_reducible apply same_foldl
    | with_reducible apply sameR_next
    | with_reducible apply same_foldl1
    | with_reducible apply same_ite1
    | split

theorem State.rcgAct_same (n : Nat) (next : Nat) (fl : Nat) (s : State) (a : List Nat) (hkm : Sub 14163490 km) (h0 : Same km ka s) : Same km ka (State.rcgAct n next fl s a) := by
  unfold State.rcgAct
  try dsimp only
  repeat' first
    | with_reducible assumption
    | exact Sub.trans rfl hkm
    | intro _
    | with_reducible apply State.emitAct_same
    | with_reducible apply State.burstAct_same
    | with_reducible apply State.freezeAct_same
    | with_reducible apply State.event_same
    | with_reducible apply State.skipAct_same
    | with_reducible apply State.wakeReq_same
    | with_reducible apply State.inc_same
    | with_reducible apply State.modInst_same
    | with_reducible apply same_ite
    | with_reducible apply same_foldl
    | with_reducible apply sameR_next
    | with_reducible apply same_foldl1
    | with_reducible apply same_ite1
    | split

theorem State.rcgLoop_same (n : Nat) (start : Nat) (fl : Nat) (now : Int) (v4 : Nat) (v5 : State) (v6 : Bool) (hkm : Sub 14163490 km) (h0 : Same km ka v5) : Same km ka (State.rcgLoop n start fl now v4 v5 v6).1 := by
  induction v4 generalizing v5 v6 with
  | zero => exact h0
  | succ n ih =>
    unfold State.rcgLoop
    try dsimp only
    repeat' first
      | with_reducible assumption
      | exact Sub.trans rfl hkm
      | with_reducible apply ih
      | intro _
      | with_reducible apply State.rcgAct_same
      | with_reducible apply State.modInst_same
      | with_reducible apply State.inc_same
      | with_reducible apply same_ite
      | with_reducible apply same_foldl
      | with_reducible apply sameR_next
      | with_reducible apply same_foldl1
      | with_reducible apply same_ite1
      | split

theorem State.rcgOut_same (s : State) (n : Nat) (fl : Nat) (hkm : Sub 14420514 km) (h0 : Same km ka s) : Same km ka (State.rcgOut s n fl) := by
  unfold State.rcgOut
  try dsimp only
  repeat' first
    | with_reducible assumption
    | exact Sub.trans rfl hkm
    | intro _
    | with_reducible apply State.enqueueRaw_same
    | with_reducible apply same_ite
    | with_reducible apply same_foldl
    | with_reducible apply sameR_next
    | with_reducible apply same_foldl1
    | with_reducible apply same_ite1
    | split

theorem State.rcgStep_same (s : State) (t : TrigS) (force : Bool) (hkm : Sub 14425634 km) (h0 : Same km ka s) : Same km ka (State.rcgStep s t force) := by
  unfold State.rcgStep
  try dsimp only
  repeat' first
    | with_reducible assumption
    | exact Sub.trans rfl hkm
    | intro _
    | with_reducible apply State.modInst_same
    | with_reducible apply State.inc_same
    | with_reducible apply State.rcgLoop_same
    | with_reducible apply State.rcgOut_same
    | with_reducible apply same_ite
    | with_reducible apply same_foldl
    | with_reducible apply sameR_next
    | with_reducible apply same_foldl1
    | with_reducible apply same_ite1
    | split

theorem State.rcgResume_same (s : State) (n : Nat) (m : Nat) (hkm : Sub 14425634 km) (h0 : Same km ka s) : Same km ka (State.rcgResume s n m) := by
  unfold State.rcgResume
  try dsimp only
  repeat' first
    | with_reducible assumption
    | exact Sub.trans rfl hkm
    | intro _
    | with_reducible apply State.modInst_same
    | with_reducible apply State.rcgStep_same

theorem State.rcgStage_same (s : State) (hkm : Sub 14425634 km) (h0 : Same km ka s) : Same km ka (State.rcgStage s) := by
  unfold State.rcgStage
  try dsimp only
  repeat' first
    | with_reducible assumption
    | exact Sub.trans rfl hkm
    | intro _
    | with_reducible apply State.modInst_same
    | with_reducible apply State.interrupt_same
    | with_reducible apply State.rcgPurge_same
    | with_reducible apply State.rcgResume_same
    | with_reducible apply same_ite
    | with_reducible apply same_foldl

theorem execRcgTimeTrigger_same (n : Nat) (s : State) (hkm : Sub 1048578 km) (h0 : Same km ka s) : SameR km ka (execRcgTimeTrigger n s) := by
  unfold execRcgTimeTrigger
  try dsimp only
  repeat' first
    | with_reducible assumption
    | exact Sub.trans rfl hkm
    | intro _
    | with_reducible apply State.modInst_same
    | with_reducible apply State.trigPush_same
    | with_reducible apply same_ite
    | with_reducible apply same_foldl
    | with_reducible apply sameR_next
    | with_reducible apply same_foldl1
    | with_reducible apply same_ite1
    | split

theorem State.instJob_same (s : State) (opc : Nat) (body : State → JobS → Nat → InstS → State) (hkm : Sub 12582946 km) (h0 : Same km ka s) (hfbody : ∀ y0 y1 y2 y3, Same km ka y0 → Same km ka (body y0 y1 y2 y3)) : Same km ka (State.instJob s opc body) := by
  unfold State.instJob
  try dsimp only
  repeat' first
    | with_reducible assumption
    | exact Sub.trans rfl hkm
    | intro _
    | with_reducible apply hfbody
    | with_reducible apply State.runJob_same
    | with_reducible apply State.finishWith_same
    | with_reducible apply same_ite
    | with_reducible apply same_foldl
    | with_reducible apply sameR_next
    | with_reducible apply same_foldl1
    | with_reducible apply same_ite1
    | split

theorem execRcgSetpar_same (s : State) (hkm : Sub 13631522 km) (h0 : Same km ka s) : SameR km ka (execRcgSetpar s) := by
  unfold execRcgSetpar
  try dsimp only
  repeat' first
    | with_reducible assumption
    | exact Sub.trans rfl hkm
    | intro _
    | with_reducible apply State.instJob_same
    | with_reducible apply State.finishWith_same
    | with_reducible apply State.modInst_same
    | with_reducible apply same_ite
    | with_reducible apply same_foldl
    | with_reducible apply sameR_next

theorem State.rcgSts_same (s : State) (hkm : Sub 2 km) (h0 : Same km ka s) : Same km ka (State.rcgSts s) := by
  unfold State.rcgSts
  try dsimp only
  repeat' first
    | with_reducible assumption
    | exact Sub.trans rfl hkm
    | intro _
    | with_reducible apply State.f_same

theorem State.endInst_same (s : State) (n : Nat) (hkm : Sub 3407874 km) (h0 : Same km ka s) : Same km ka (State.endInst s n) := by
  unfold State.endInst
  try dsimp only
  repeat' first
    | with_reducible assumption
    | exact Sub.trans rfl hkm
    | with_reducible exact Or.inr (Sub.trans rfl hkm)
    | with_reducible exact Or.inl rfl
    | intro _
    | with_reducible apply State.rcgPurge_same
    | with_reducible apply State.rcgSts_same
    | with_reducible apply State.setOwner_same
    | with_reducible apply State.setEp_same
    | with_reducible apply same_ite
    | with_reducible apply same_foldl
    | with_reducible apply sameR_next
    | with_reducible apply same_foldl1
    | with_reducible apply same_ite1
    | split
    | dsimp only
    | with_reducible apply same_ept
    | with_reducible apply same_rcg
    | with_reducible apply same_mk

theorem State.mtCtlWrite_same (s : State) (v : Word) (hkm : Sub 1049122 km) (h0 : Same km ka s) : Same km ka (State.mtCtlWrite s v) := by
  unfold State.mtCtlWrite
  try dsimp only
  repeat' first
    | with_reducible assumption
    | exact Sub.trans rfl hkm
    | intro _
    | with_reducible apply State.discard_same
    | with_reducible apply State.rcgSts_same
    | with_reducible apply State.f_same
    | with_reducible apply same_ite
    | with_reducible apply same_foldl
    | with_reducible apply sameR_next
    | with_reducible apply same_foldl1
    | with_reducible apply same_ite1
    | split
    | dsimp only
    | with_reducible apply same_rcg

theorem State.evOwnWrite_same (s : State) (x : Nat) (v : Word) (hkm : Sub 546 km) (h0 : Same km ka s) : Same km ka (State.evOwnWrite s x v) := by
  unfold State.evOwnWrite
  try dsimp only
  repeat' first
    | with_reducible assumption
    | exact Sub.trans rfl hkm
    | intro _
    | with_reducible apply State.discard_same
    | with_reducible apply State.store_same
    | with_reducible apply same_ite

theorem execMachineCommit_same (n : Nat) (s : State) (hkm : Sub 1051170 km) (h0 : Same km ka s) : SameR km ka (execMachineCommit n s) := by
  unfold execMachineCommit
  try dsimp only
  repeat' first
    | with_reducible assumption
    | exact Sub.trans rfl hkm
    | intro _
    | with_reducible apply State.barWrite_same
    | with_reducible apply State.mtCtlWrite_same
    | with_reducible apply same_ite
    | with_reducible apply same_foldl
    | with_reducible apply sameR_next

theorem execMachineRead_same (n : Nat) (s : State) (hkm : Sub 1051170 km) (h0 : Same km ka s) : SameR km ka (execMachineRead n s) := by
  unfold execMachineRead
  try dsimp only
  repeat' first
    | with_reducible assumption
    | exact Sub.trans rfl hkm
    | intro _
    | with_reducible apply State.barWrite_same
    | with_reducible apply State.mtCtlWrite_same
    | with_reducible apply same_ite
    | with_reducible apply same_foldl
    | with_reducible apply sameR_next

theorem execMachineRelease_same (n : Nat) (s : State) (hkm : Sub 1051170 km) (h0 : Same km ka s) : SameR km ka (execMachineRelease n s) := by
  unfold execMachineRelease
  try dsimp only
  repeat' first
    | with_reducible assumption
    | exact Sub.trans rfl hkm
    | intro _
    | with_reducible apply State.barWrite_same
    | with_reducible apply State.mtCtlWrite_same
    | with_reducible apply same_ite
    | with_reducible apply same_foldl
    | with_reducible apply sameR_next

theorem execRcgCounterClr_same (v : Word) (s : State) (hkm : Sub 2594 km) (h0 : Same km ka s) : SameR km ka (execRcgCounterClr v s) := by
  unfold execRcgCounterClr
  try dsimp only
  repeat' first
    | with_reducible assumption
    | exact Sub.trans rfl hkm
    | intro _
    | with_reducible apply State.barWrite_same
    | with_reducible apply State.clrWrite_same
    | with_reducible apply same_ite
    | with_reducible apply same_foldl
    | with_reducible apply sameR_next

theorem execRcgCreate_same (s : State) (hkm : Sub 16517666 km) (h0 : Same km ka s) : SameR km ka (execRcgCreate s) := by
  unfold execRcgCreate
  try dsimp only
  repeat' first
    | with_reducible assumption
    | exact Sub.trans rfl hkm
    | intro _
    | with_reducible apply State.runJob_same
    | with_reducible apply State.finishWith_same
    | with_reducible apply State.quotaRefuse_same
    | with_reducible apply State.setEp_same
    | with_reducible apply State.setOwner_same
    | with_reducible apply State.finish_same
    | with_reducible apply State.rcgOut_same
    | with_reducible apply State.rcgSts_same
    | with_reducible apply same_ite
    | with_reducible apply same_foldl
    | with_reducible apply sameR_next
    | with_reducible apply same_foldl1
    | with_reducible apply same_ite1
    | split
    | dsimp only
    | with_reducible apply same_rcg

theorem execRcgDestroy_same (s : State) (hkm : Sub 15990818 km) (h0 : Same km ka s) : SameR km ka (execRcgDestroy s) := by
  unfold execRcgDestroy
  try dsimp only
  repeat' first
    | with_reducible assumption
    | exact Sub.trans rfl hkm
    | intro _
    | with_reducible apply State.runJob_same
    | with_reducible apply State.finishWith_same
    | with_reducible apply State.endInst_same
    | with_reducible apply same_ite
    | with_reducible apply same_foldl
    | with_reducible apply sameR_next
    | with_reducible apply same_foldl1
    | with_reducible apply same_ite1
    | split

theorem State.resetInst_same (s : State) (n : Nat) (hkm : Sub 14420514 km) (h0 : Same km ka s) : Same km ka (State.resetInst s n) := by
  unfold State.resetInst
  try dsimp only
  repeat' first
    | with_reducible assumption
    | exact Sub.trans rfl hkm
    | intro _
    | with_reducible apply State.rcgPurge_same
    | with_reducible apply State.rcgOut_same
    | with_reducible apply State.modInst_same

theorem execRcgReset_same (s : State) (hkm : Sub 14420514 km) (h0 : Same km ka s) : SameR km ka (execRcgReset s) := by
  unfold execRcgReset
  try dsimp only
  repeat' first
    | with_reducible assumption
    | exact Sub.trans rfl hkm
    | intro _
    | with_reducible apply State.instJob_same
    | with_reducible apply State.finishWith_same
    | with_reducible apply State.resetInst_same
    | with_reducible apply same_ite
    | with_reducible apply same_foldl
    | with_reducible apply sameR_next

theorem execRcgQuery_same (s : State) (hkm : Sub 13631522 km) (h0 : Same km ka s) : SameR km ka (execRcgQuery s) := by
  unfold execRcgQuery
  try dsimp only
  repeat' first
    | with_reducible assumption
    | exact Sub.trans rfl hkm
    | intro _
    | with_reducible apply State.instJob_same
    | with_reducible apply State.finish_same
    | with_reducible apply State.modInst_same
    | with_reducible apply same_ite
    | with_reducible apply same_foldl
    | with_reducible apply sameR_next

theorem State.rcgOwed_same (s : State) (hkm : Sub 1048576 km) (h0 : Same km ka s) : Same km ka (State.rcgOwed s) := by
  unfold State.rcgOwed
  try dsimp only
  repeat' first
    | with_reducible assumption
    | exact Sub.trans rfl hkm
    | intro _
    | with_reducible apply same_ite
    | with_reducible apply same_foldl
    | with_reducible apply sameR_next
    | with_reducible apply same_foldl1
    | with_reducible apply same_ite1
    | split
    | dsimp only
    | with_reducible apply same_rcg

theorem State.rcgHead_same (s : State) (hkm : Sub 14425634 km) (h0 : Same km ka s) : Same km ka (State.rcgHead s) := by
  unfold State.rcgHead
  try dsimp only
  repeat' first
    | with_reducible assumption
    | exact Sub.trans rfl hkm
    | intro _
    | with_reducible apply State.rcgOwed_same
    | with_reducible apply State.rcgStep_same
    | with_reducible apply same_ite
    | with_reducible apply same_foldl
    | with_reducible apply sameR_next
    | with_reducible apply same_foldl1
    | with_reducible apply same_ite1
    | split
    | dsimp only
    | with_reducible apply same_rcg

theorem execRecognizerStep_same (s : State) (hkm : Sub 14425634 km) (h0 : Same km ka s) : SameR km ka (execRecognizerStep s) := by
  unfold execRecognizerStep
  try dsimp only
  repeat' first
    | with_reducible assumption
    | exact Sub.trans rfl hkm
    | intro _
    | with_reducible apply State.rcgHead_same
    | with_reducible apply same_ite
    | with_reducible apply same_foldl
    | with_reducible apply sameR_next

theorem State.rcgEvent_same (s : State) (k : Nat) (ct : Nat) (hkm : Sub 1048578 km) (h0 : Same km ka s) : Same km ka (State.rcgEvent s k ct) := by
  unfold State.rcgEvent
  try dsimp only
  repeat' first
    | with_reducible assumption
    | exact Sub.trans rfl hkm
    | intro _
    | with_reducible apply State.trigPush_same
    | with_reducible apply same_ite
    | with_reducible apply same_foldl

theorem State.rcgResetAll_same (s : State) (hkm : Sub 14420514 km) (h0 : Same km ka s) : Same km ka (State.rcgResetAll s) := by
  unfold State.rcgResetAll
  try dsimp only
  repeat' first
    | with_reducible assumption
    | exact Sub.trans rfl hkm
    | intro _
    | with_reducible apply State.resetInst_same
    | with_reducible apply State.interrupt_same
    | with_reducible apply same_ite
    | with_reducible apply same_foldl

end Sys2Proof.Machine
end

