-- ==== Sys2Proof/Laws/SameStream.lean ====
section
/-! SUPPORT. What the operations of Machine/Stream.lean keep (Laws/Same.lean). -/
set_option Elab.async false
namespace Sys2Proof.Machine

variable {km : Nat} {ka : State}

theorem State.placeMark_same (s : State) (slot : Nat) (cookie : Nat) (hkm : Sub 12585506 km) (h0 : Same km ka s) : Same km ka (State.placeMark s slot cookie) := by
  unfold State.placeMark
  try dsimp only
  repeat' first
    | with_reducible assumption
    | exact Sub.trans rfl hkm
    | intro _
    | with_reducible apply State.modStream_same
    | with_reducible apply State.putTogether_same
    | with_reducible apply same_ite
    | with_reducible apply same_foldl
    | with_reducible apply sameR_next
    | with_reducible apply same_foldl1
    | with_reducible apply same_ite1
    | split

theorem State.finishOn_same (s : State) (id : JobId) (uid : Nat) (ring : Nat) (hkm : Sub 12582946 km) (h0 : Same km ka s) : Same km ka (State.finishOn s id uid ring) := by
  unfold State.finishOn
  try dsimp only
  repeat' first
    | with_reducible assumption
    | exact Sub.trans rfl hkm
    | intro _
    | with_reducible apply State.finishAfter_same
    | with_reducible apply same_ite
    | with_reducible apply same_foldl
    | with_reducible apply sameR_next
    | with_reducible apply same_foldl1
    | with_reducible apply same_ite1
    | split

theorem State.closeStream_same (s : State) (slot : Nat) (code : Nat) (hkm : Sub 14162466 km) (h0 : Same km ka s) : Same km ka (State.closeStream s slot code) := by
  unfold State.closeStream
  try dsimp only
  repeat' first
    | with_reducible assumption
    | exact Sub.trans rfl hkm
    | intro _
    | with_reducible apply State.forceStream_same
    | with_reducible apply State.placeMark_same
    | with_reducible apply State.releaseEvs_same
    | with_reducible apply State.closeCask_same
    | with_reducible apply State.nofitScan_same
    | with_reducible apply State.finishOn_same
    | with_reducible apply same_ite
    | with_reducible apply same_foldl
    | with_reducible apply sameR_next
    | with_reducible apply same_foldl1
    | with_reducible apply same_ite1
    | split
    | dsimp only
    | with_reducible apply same_rng

theorem State.closeStreams_same (s : State) (code : Nat) (l : List StreamS) (hkm : Sub 14162466 km) (h0 : Same km ka s) : Same km ka (State.closeStreams s code l) := by
  unfold State.closeStreams
  try dsimp only
  repeat' first
    | with_reducible assumption
    | exact Sub.trans rfl hkm
    | intro _
    | with_reducible apply State.closeStream_same
    | with_reducible apply same_ite
    | with_reducible apply same_foldl

theorem execEpQuery_same (s : State) (hkm : Sub 12582946 km) (h0 : Same km ka s) : SameR km ka (execEpQuery s) := by
  unfold execEpQuery
  try dsimp only
  repeat' first
    | with_reducible assumption
    | exact Sub.trans rfl hkm
    | intro _
    | with_reducible apply State.runJob_same
    | with_reducible apply State.finishWith_same
    | with_reducible apply State.finish_same
    | with_reducible apply same_ite
    | with_reducible apply same_foldl
    | with_reducible apply sameR_next

theorem execStreamClose_same (s : State) (hkm : Sub 14162466 km) (h0 : Same km ka s) : SameR km ka (execStreamClose s) := by
  unfold execStreamClose
  try dsimp only
  repeat' first
    | with_reducible assumption
    | exact Sub.trans rfl hkm
    | intro _
    | with_reducible apply State.runJob_same
    | with_reducible apply State.finishWith_same
    | with_reducible apply State.finishAfter_same
    | with_reducible apply State.closeStream_same
    | with_reducible apply same_ite
    | with_reducible apply same_foldl
    | with_reducible apply sameR_next
    | with_reducible apply same_foldl1
    | with_reducible apply same_ite1
    | split

theorem State.openStream_same (s : State) (j : JobS) (hkm : Sub 12582946 km) (h0 : Same km ka s) : Same km ka (State.openStream s j) := by
  unfold State.openStream
  try dsimp only
  repeat' first
    | with_reducible assumption
    | exact Sub.trans rfl hkm
    | intro _
    | with_reducible apply State.finish_same
    | with_reducible apply same_ite
    | with_reducible apply same_foldl
    | with_reducible apply sameR_next
    | with_reducible apply same_foldl1
    | with_reducible apply same_ite1
    | split
    | dsimp only
    | with_reducible apply same_rng

theorem execStreamOpen_same (s : State) (hkm : Sub 14162466 km) (h0 : Same km ka s) : SameR km ka (execStreamOpen s) := by
  unfold execStreamOpen
  try dsimp only
  repeat' first
    | with_reducible assumption
    | exact Sub.trans rfl hkm
    | intro _
    | with_reducible apply State.runJob_same
    | with_reducible apply State.finishWith_same
    | with_reducible apply State.quotaRefuse_same
    | with_reducible apply State.openStream_same
    | with_reducible apply State.passMissed_same
    | with_reducible apply same_ite
    | with_reducible apply same_foldl
    | with_reducible apply sameR_next
    | with_reducible apply same_foldl1
    | with_reducible apply same_ite1
    | split

theorem State.dueMarks_same (s : State) (slot : Nat) (hkm : Sub 12585506 km) (h0 : Same km ka s) : Same km ka (State.dueMarks s slot) := by
  unfold State.dueMarks
  try dsimp only
  repeat' first
    | with_reducible assumption
    | exact Sub.trans rfl hkm
    | intro _
    | with_reducible apply State.modStream_same
    | with_reducible apply State.finishOn_same
    | with_reducible apply State.closeCask_same
    | with_reducible apply State.placeMark_same
    | with_reducible apply same_ite
    | with_reducible apply same_foldl
    | with_reducible apply sameR_next
    | with_reducible apply same_foldl1
    | with_reducible apply same_ite1
    | split

theorem State.allMarks_same (s : State) (hkm : Sub 12585506 km) (h0 : Same km ka s) : Same km ka (State.allMarks s) := by
  unfold State.allMarks
  try dsimp only
  repeat' first
    | with_reducible assumption
    | exact Sub.trans rfl hkm
    | intro _
    | with_reducible apply State.dueMarks_same
    | with_reducible apply same_ite
    | with_reducible apply same_foldl

theorem State.mark_same (s : State) (j : JobS) (st : StreamS) (hkm : Sub 12585506 km) (h0 : Same km ka s) : Same km ka (State.mark s j st) := by
  unfold State.mark
  try dsimp only
  repeat' first
    | with_reducible assumption
    | exact Sub.trans rfl hkm
    | intro _
    | with_reducible apply State.finishWith_same
    | with_reducible apply State.modStream_same
    | with_reducible apply State.finishAfter_same
    | with_reducible apply State.closeCask_same
    | with_reducible apply State.placeMark_same
    | with_reducible apply same_ite

theorem execMark_same (s : State) (hkm : Sub 12585506 km) (h0 : Same km ka s) : SameR km ka (execMark s) := by
  unfold execMark
  try dsimp only
  repeat' first
    | with_reducible assumption
    | exact Sub.trans rfl hkm
    | intro _
    | with_reducible apply State.runJob_same
    | with_reducible apply State.allMarks_same
    | with_reducible apply State.finishWith_same
    | with_reducible apply State.mark_same
    | with_reducible apply same_ite
    | with_reducible apply same_foldl
    | with_reducible apply sameR_next
    | with_reducible apply same_foldl1
    | with_reducible apply same_ite1
    | split

end Sys2Proof.Machine
end

