-- ==== Sys2Proof/Laws/SameTen.lean ====
section
/-! SUPPORT. What the operations of Machine/Ten.lean keep (Laws/Same.lean). -/
set_option Elab.async false
namespace Sys2Proof.Machine

variable {km : Nat} {ka : State}

theorem State.keyDone_same (s : State) (uid : Nat) (gen : Nat) (key : List Nat) (job : JobId) (fail : Option Nat) (redone : Bool) (hkm : Sub 14680098 km) (h0 : Same km ka s) : Same km ka (State.keyDone s uid gen key job fail redone) := by
  unfold State.keyDone
  try dsimp only
  repeat' first
    | with_reducible assumption
    | exact Sub.trans rfl hkm
    | intro _
    | with_reducible apply State.finishId_same
    | with_reducible apply State.setCtx_same
    | with_reducible apply same_ite
    | with_reducible apply same_foldl
    | with_reducible apply sameR_next
    | with_reducible apply same_foldl1
    | with_reducible apply same_ite1
    | split

theorem State.dropPairs_same (s : State) (p : PairS → Bool) (hkm : Sub 35651584 km) (h0 : Same km ka s) : Same km ka (State.dropPairs s p) := by
  unfold State.dropPairs
  try dsimp only
  repeat' first
    | with_reducible assumption
    | exact Sub.trans rfl hkm
    | with_reducible exact Or.inr (Sub.trans rfl hkm)
    | with_reducible exact Or.inl rfl
    | intro _
    | with_reducible apply same_ite
    | with_reducible apply same_foldl
    | with_reducible apply sameR_next
    | with_reducible apply same_foldl1
    | with_reducible apply same_ite1
    | split
    | dsimp only
    | with_reducible apply same_ten
    | with_reducible apply same_nvs

theorem State.tenJob_same (s : State) (opc : Nat) (body : State → JobS → State) (hkm : Sub 12582946 km) (h0 : Same km ka s) (hfbody : ∀ y0 y1, Same km ka y0 → Same km ka (body y0 y1)) : Same km ka (State.tenJob s opc body) := by
  unfold State.tenJob
  try dsimp only
  repeat' first
    | with_reducible assumption
    | exact Sub.trans rfl hkm
    | intro _
    | with_reducible apply hfbody
    | with_reducible apply State.runJob_same
    | with_reducible apply same_ite

theorem State.dropCasks_same (s : State) (uid : Nat) (hkm : Sub 4196898 km) (h0 : Same km ka s) : Same km ka (State.dropCasks s uid) := by
  unfold State.dropCasks
  try dsimp only
  repeat' first
    | with_reducible assumption
    | exact Sub.trans rfl hkm
    | intro _
    | with_reducible apply State.countLost_same
    | with_reducible apply State.showCbuf_same
    | with_reducible apply same_ite
    | with_reducible apply same_foldl
    | with_reducible apply sameR_next
    | with_reducible apply same_foldl1
    | with_reducible apply same_ite1
    | split
    | dsimp only
    | with_reducible apply same_rng

theorem State.endRing_same (s : State) (t : Nat) (r : Nat) (hkm : Sub 4194304 km) (h0 : Same km ka s) : Same km ka (State.endRing s t r) := by
  unfold State.endRing
  try dsimp only
  repeat' first
    | with_reducible assumption
    | exact Sub.trans rfl hkm
    | intro _
    | with_reducible apply State.setCr_same
    | with_reducible apply same_ite

theorem State.modLease_same (s : State) (idx : Nat) (f : LeaseS → LeaseS) (hkm : Sub 2097154 km) (h0 : Same km ka s) : Same km ka (State.modLease s idx f) := by
  unfold State.modLease
  try dsimp only
  repeat' first
    | with_reducible assumption
    | exact Sub.trans rfl hkm
    | intro _
    | with_reducible apply State.setLeases_same

theorem State.leaseClose_same (s : State) (l : LeaseS) (hkm : Sub 14680098 km) (h0 : Same km ka s) : Same km ka (State.leaseClose s l) := by
  unfold State.leaseClose
  try dsimp only
  repeat' first
    | with_reducible assumption
    | exact Sub.trans rfl hkm
    | intro _
    | with_reducible apply State.inc_same
    | with_reducible apply State.setLeases_same
    | with_reducible apply State.record_same
    | with_reducible apply State.finishId_same
    | with_reducible apply same_ite
    | with_reducible apply same_foldl
    | with_reducible apply sameR_next
    | with_reducible apply same_foldl1
    | with_reducible apply same_ite1
    | split

theorem State.leaseSettle_same (s : State) (idx : Nat) (hkm : Sub 14680098 km) (h0 : Same km ka s) : Same km ka (State.leaseSettle s idx) := by
  unfold State.leaseSettle
  try dsimp only
  repeat' first
    | with_reducible assumption
    | exact Sub.trans rfl hkm
    | intro _
    | with_reducible apply State.leaseClose_same
    | with_reducible apply same_ite
    | with_reducible apply same_foldl
    | with_reducible apply sameR_next
    | with_reducible apply same_foldl1
    | with_reducible apply same_ite1
    | split

theorem State.discardUpTo_same (s : State) (uid : Nat) (ring : Nat) (n : Nat) (hkm : Sub 4196898 km) (has : CaskS → Bool) (h0 : Same km ka s) : Same km ka (State.discardUpTo s uid ring n has) := by
  unfold State.discardUpTo
  try dsimp only
  repeat' first
    | with_reducible assumption
    | exact Sub.trans rfl hkm
    | intro _
    | with_reducible apply State.countLost_same
    | with_reducible apply State.showCbuf_same
    | with_reducible apply State.dropFwd_same
    | with_reducible apply same_ite
    | with_reducible apply same_foldl
    | with_reducible apply sameR_next
    | with_reducible apply same_foldl1
    | with_reducible apply same_ite1
    | split
    | dsimp only
    | with_reducible apply same_rng

theorem State.leaseGiveUp_same (s : State) (l : LeaseS) (hkm : Sub 14682658 km) (h0 : Same km ka s) : Same km ka (State.leaseGiveUp s l) := by
  unfold State.leaseGiveUp
  try dsimp only
  repeat' first
    | with_reducible assumption
    | exact Sub.trans rfl hkm
    | intro _
    | with_reducible apply State.discardUpTo_same
    | with_reducible apply State.leaseClose_same
    | with_reducible apply same_ite
    | with_reducible apply same_foldl

theorem State.endLease_same (s : State) (idx : Nat) (reason : Nat) (job : Option JobId) (hkm : Sub 16521762 km) (h0 : Same km ka s) : Same km ka (State.endLease s idx reason job) := by
  unfold State.endLease
  try dsimp only
  repeat' first
    | with_reducible assumption
    | exact Sub.trans rfl hkm
    | intro _
    | with_reducible apply State.modLease_same
    | with_reducible apply State.closeStreams_same
    | with_reducible apply State.endInst_same
    | with_reducible apply State.leaseSettle_same
    | with_reducible apply State.leaseGiveUp_same
    | with_reducible apply same_ite
    | with_reducible apply same_foldl
    | with_reducible apply sameR_next
    | with_reducible apply same_foldl1
    | with_reducible apply same_ite1
    | split

theorem State.endLeases_same (s : State) (reason : Nat) (l : List LeaseS) (hkm : Sub 16521762 km) (h0 : Same km ka s) : Same km ka (State.endLeases s reason l) := by
  unfold State.endLeases
  try dsimp only
  repeat' first
    | with_reducible assumption
    | exact Sub.trans rfl hkm
    | intro _
    | with_reducible apply State.endLease_same
    | with_reducible apply same_ite
    | with_reducible apply same_foldl

theorem State.ownersChange_same (s : State) (l : List (Nat × Nat)) (hkm : Sub 16521762 km) (h0 : Same km ka s) : Same km ka (State.ownersChange s l) := by
  unfold State.ownersChange
  try dsimp only
  repeat' first
    | with_reducible assumption
    | exact Sub.trans rfl hkm
    | intro _
    | with_reducible apply State.setOwner_same
    | with_reducible apply State.endLeases_same
    | with_reducible apply State.nofitScan_same
    | with_reducible apply State.closeStreams_same
    | with_reducible apply same_ite
    | with_reducible apply same_foldl

theorem State.forgetKey_same (s : State) (uid : Nat) (hkm : Sub 35651584 km) (h0 : Same km ka s) : Same km ka (State.forgetKey s uid) := by
  unfold State.forgetKey
  try dsimp only
  repeat' first
    | with_reducible assumption
    | exact Sub.trans rfl hkm
    | with_reducible exact Or.inr (Sub.trans rfl hkm)
    | with_reducible exact Or.inl rfl
    | intro _
    | with_reducible apply same_ite
    | with_reducible apply same_foldl
    | with_reducible apply sameR_next
    | with_reducible apply same_foldl1
    | with_reducible apply same_ite1
    | split
    | dsimp only
    | with_reducible apply same_ten
    | with_reducible apply same_nvs
    | with_reducible apply same_mk

theorem State.freeRest_same (s : State) (t : Nat) (forget : Bool) (keepPairs : Bool) (hkm : Sub 50076194 km) (h0 : Same km ka s) : Same km ka (State.freeRest s t forget keepPairs) := by
  unfold State.freeRest
  try dsimp only
  repeat' first
    | with_reducible assumption
    | exact Sub.trans rfl hkm
    | with_reducible exact Or.inr (Sub.trans rfl hkm)
    | with_reducible exact Or.inl rfl
    | intro _
    | with_reducible apply State.dropPairs_same
    | with_reducible apply State.ownersChange_same
    | with_reducible apply State.forgetKey_same
    | with_reducible apply State.setTr_same
    | with_reducible apply State.ringLevel_same
    | with_reducible apply State.setCtx_same
    | with_reducible apply same_ite
    | with_reducible apply same_foldl
    | with_reducible apply sameR_next
    | with_reducible apply same_foldl1
    | with_reducible apply same_ite1
    | split
    | dsimp only
    | with_reducible apply same_ten
    | with_reducible apply same_rng

theorem State.freeCtx_same (s : State) (t : Nat) (forget : Bool) (hkm : Sub 50076194 km) (h0 : Same km ka s) : Same km ka (State.freeCtx s t forget) := by
  unfold State.freeCtx
  try dsimp only
  repeat' first
    | with_reducible assumption
    | exact Sub.trans rfl hkm
    | intro _
    | with_reducible apply State.freeRest_same
    | with_reducible apply State.dropCasks_same

theorem State.cfgAnswer_same (s : State) (dst : Nat) (tag : Nat) (ty : Nat) (body : List Nat) (hkm : Sub 25165858 km) (h0 : Same km ka s) : Same km ka (State.cfgAnswer s dst tag ty body) := by
  unfold State.cfgAnswer
  try dsimp only
  repeat' first
    | with_reducible assumption
    | exact Sub.trans rfl hkm
    | intro _
    | with_reducible apply State.sendMsg_same
    | with_reducible apply same_ite
    | with_reducible apply same_foldl
    | with_reducible apply sameR_next
    | with_reducible apply same_foldl1
    | with_reducible apply same_ite1
    | split
    | dsimp only
    | with_reducible apply same_rol

theorem State.distAcked_same (s : State) (p : Nat) (hkm : Sub 14680098 km) (h0 : Same km ka s) : Same km ka (State.distAcked s p) := by
  unfold State.distAcked
  try dsimp only
  repeat' first
    | with_reducible assumption
    | exact Sub.trans rfl hkm
    | intro _
    | with_reducible apply State.finishId_same
    | with_reducible apply same_ite
    | with_reducible apply same_foldl
    | with_reducible apply sameR_next
    | with_reducible apply same_foldl1
    | with_reducible apply same_ite1
    | split
    | dsimp only
    | with_reducible apply same_ten

theorem State.endReport_same (s : State) (e : EndS) (hkm : Sub 31457314 km) (h0 : Same km ka s) : Same km ka (State.endReport s e) := by
  unfold State.endReport
  try dsimp only
  repeat' first
    | with_reducible assumption
    | exact Sub.trans rfl hkm
    | intro _
    | with_reducible apply State.cfgAnswer_same
    | with_reducible apply State.distAcked_same
    | with_reducible apply same_ite
    | with_reducible apply same_foldl
    | with_reducible apply sameR_next
    | with_reducible apply same_foldl1
    | with_reducible apply same_ite1
    | split

theorem State.endCheck_same (s : State) (t : Nat) (hkm : Sub 66853410 km) (h0 : Same km ka s) : Same km ka (State.endCheck s t) := by
  unfold State.endCheck
  try dsimp only
  repeat' first
    | with_reducible assumption
    | exact Sub.trans rfl hkm
    | intro _
    | with_reducible apply State.fenceRing_same
    | with_reducible apply State.dropCasks_same
    | with_reducible apply State.endRing_same
    | with_reducible apply State.setTr_same
    | with_reducible apply State.ringLevel_same
    | with_reducible apply State.freeCtx_same
    | with_reducible apply State.setCtx_same
    | with_reducible apply State.endReport_same
    | with_reducible apply same_ite
    | with_reducible apply same_foldl
    | with_reducible apply sameR_next
    | with_reducible apply same_foldl1
    | with_reducible apply same_ite1
    | split

theorem State.endAll_same (s : State) (hkm : Sub 66853410 km) (h0 : Same km ka s) : Same km ka (State.endAll s) := by
  unfold State.endAll
  try dsimp only
  repeat' first
    | with_reducible assumption
    | exact Sub.trans rfl hkm
    | intro _
    | with_reducible apply State.endCheck_same
    | with_reducible apply same_ite
    | with_reducible apply same_foldl

theorem State.newGen_same (s : State) (g : Nat) (hkm : Sub 16777218 km) (h0 : Same km ka s) : Same km ka (State.newGen s g) := by
  unfold State.newGen
  try dsimp only
  repeat' first
    | with_reducible assumption
    | exact Sub.trans rfl hkm
    | intro _
    | with_reducible apply State.f_same
    | with_reducible apply same_ite
    | with_reducible apply same_foldl
    | with_reducible apply sameR_next
    | with_reducible apply same_foldl1
    | with_reducible apply same_ite1
    | split
    | dsimp only
    | with_reducible apply same_rol

theorem State.cfgSend_same (s : State) (ty : Nat) (dst : Nat) (body : List Nat) (hkm : Sub 25165858 km) (h0 : Same km ka s) : Same km ka (State.cfgSend s ty dst body) := by
  unfold State.cfgSend
  try dsimp only
  repeat' first
    | with_reducible assumption
    | exact Sub.trans rfl hkm
    | intro _
    | with_reducible apply State.sendMsg_same
    | with_reducible apply same_ite
    | with_reducible apply same_foldl
    | with_reducible apply sameR_next
    | with_reducible apply same_foldl1
    | with_reducible apply same_ite1
    | split
    | dsimp only
    | with_reducible apply same_rol

theorem State.rebind_same (s : State) (l : List (Nat × EpS)) (hkm : Sub 16521762 km) (h0 : Same km ka s) : Same km ka (State.rebind s l) := by
  unfold State.rebind
  try dsimp only
  repeat' first
    | with_reducible assumption
    | exact Sub.trans rfl hkm
    | intro _
    | with_reducible apply State.ownersChange_same

theorem State.applyDef_same (s : State) (b : List Nat) (hkm : Sub 16521762 km) (h0 : Same km ka s) : Same km ka (State.applyDef s b) := by
  unfold State.applyDef
  try dsimp only
  repeat' first
    | with_reducible assumption
    | exact Sub.trans rfl hkm
    | intro _
    | with_reducible apply State.setCtx_same
    | with_reducible apply State.rebind_same
    | with_reducible apply same_ite

theorem State.keepPair_same (s : State) (id : Nat) (uid : Nat) (hkm : Sub 35651584 km) (h0 : Same km ka s) : Same km ka (State.keepPair s id uid) := by
  unfold State.keepPair
  try dsimp only
  repeat' first
    | with_reducible assumption
    | exact Sub.trans rfl hkm
    | with_reducible exact Or.inr (Sub.trans rfl hkm)
    | with_reducible exact Or.inl rfl
    | intro _
    | with_reducible apply same_ite
    | with_reducible apply same_foldl
    | with_reducible apply sameR_next
    | with_reducible apply same_foldl1
    | with_reducible apply same_ite1
    | split
    | dsimp only
    | with_reducible apply same_ten
    | with_reducible apply same_nvs
    | with_reducible apply same_mk

theorem State.applyBind_same (s : State) (x : BindS) (hkm : Sub 50076194 km) (h0 : Same km ka s) : Same km ka (State.applyBind s x) := by
  unfold State.applyBind
  try dsimp only
  repeat' first
    | with_reducible assumption
    | exact Sub.trans rfl hkm
    | intro _
    | with_reducible apply State.dropPairs_same
    | with_reducible apply State.keepPair_same
    | with_reducible apply State.rebind_same
    | with_reducible apply same_ite
    | with_reducible apply same_foldl
    | with_reducible apply sameR_next
    | with_reducible apply same_foldl1
    | with_reducible apply same_ite1
    | split
    | dsimp only
    | with_reducible apply same_ten

theorem State.tenantEnds_same (s : State) (t : Nat) (hkm : Sub 16521762 km) (h0 : Same km ka s) : Same km ka (State.tenantEnds s t) := by
  unfold State.tenantEnds
  try dsimp only
  repeat' first
    | with_reducible assumption
    | exact Sub.trans rfl hkm
    | intro _
    | with_reducible apply State.closeStreams_same
    | with_reducible apply State.closeAllOf_same
    | with_reducible apply State.destroyEnt_same
    | with_reducible apply State.endInst_same
    | with_reducible apply State.endLeases_same
    | with_reducible apply same_ite
    | with_reducible apply same_foldl

theorem State.applyEnd_same (s : State) (t : Nat) (destroy : Bool) (forget : Bool) (ack : Option (Nat × Nat)) (hkm : Sub 66853410 km) (h0 : Same km ka s) : Same km ka (State.applyEnd s t destroy forget ack).1 := by
  unfold State.applyEnd
  try dsimp only
  repeat' first
    | with_reducible assumption
    | exact Sub.trans rfl hkm
    | intro _
    | with_reducible apply State.setCtx_same
    | with_reducible apply State.tenantEnds_same
    | with_reducible apply State.setTr_same
    | with_reducible apply State.endCheck_same
    | with_reducible apply State.freeCtx_same
    | with_reducible apply same_ite
    | with_reducible apply same_foldl
    | with_reducible apply sameR_next
    | with_reducible apply same_foldl1
    | with_reducible apply same_ite1

theorem State.applyItem_same (s : State) (kind : Nat) (item : List Nat) (ack : Option (Nat × Nat)) (hkm : Sub 66853410 km) (h0 : Same km ka s) : Same km ka (State.applyItem s kind item ack).1 := by
  unfold State.applyItem
  try dsimp only
  repeat' first
    | with_reducible assumption
    | exact Sub.trans rfl hkm
    | intro _
    | with_reducible apply State.nofitScan_same
    | with_reducible apply State.applyDef_same
    | with_reducible apply State.applyBind_same
    | with_reducible apply State.applyEnd_same
    | with_reducible apply same_ite
    | with_reducible apply same_foldl
    | with_reducible apply sameR_next
    | with_reducible apply same_foldl1
    | with_reducible apply same_ite1
    | split

theorem State.distCommit_same (s : State) (hkm : Sub 66853410 km) (h0 : Same km ka s) : Same km ka (State.distCommit s) := by
  unfold State.distCommit
  try dsimp only
  repeat' first
    | with_reducible assumption
    | exact Sub.trans rfl hkm
    | intro _
    | with_reducible apply State.newGen_same
    | with_reducible apply State.cfgSend_same
    | with_reducible apply State.applyItem_same
    | with_reducible apply State.distAcked_same
    | with_reducible apply same_ite
    | with_reducible apply same_foldl
    | with_reducible apply sameR_next
    | with_reducible apply same_foldl1
    | with_reducible apply same_ite1
    | split
    | dsimp only
    | with_reducible apply same_ten

theorem State.distribute_same (s : State) (j : JobS) (kind : Nat) (item : List Nat) (hkm : Sub 66853410 km) (h0 : Same km ka s) : Same km ka (State.distribute s j kind item) := by
  unfold State.distribute
  try dsimp only
  repeat' first
    | with_reducible assumption
    | exact Sub.trans rfl hkm
    | intro _
    | with_reducible apply State.finishWith_same
    | with_reducible apply State.distCommit_same
    | with_reducible apply State.cfgSend_same
    | with_reducible apply same_ite
    | with_reducible apply same_foldl
    | with_reducible apply sameR_next
    | with_reducible apply same_foldl1
    | with_reducible apply same_ite1
    | split
    | dsimp only
    | with_reducible apply same_ten

theorem execTenDestroy_same (s : State) (hkm : Sub 66853410 km) (h0 : Same km ka s) : SameR km ka (execTenDestroy s) := by
  unfold execTenDestroy
  try dsimp only
  repeat' first
    | with_reducible assumption
    | exact Sub.trans rfl hkm
    | intro _
    | with_reducible apply State.tenJob_same
    | with_reducible apply State.endAll_same
    | with_reducible apply State.finishWith_same
    | with_reducible apply State.distribute_same
    | with_reducible apply same_ite
    | with_reducible apply same_foldl
    | with_reducible apply sameR_next
    | with_reducible apply same_foldl1
    | with_reducible apply same_ite1
    | split

theorem State.distFail_same (s : State) (code : Nat) (hkm : Sub 31457314 km) (h0 : Same km ka s) : Same km ka (State.distFail s code) := by
  unfold State.distFail
  try dsimp only
  repeat' first
    | with_reducible assumption
    | exact Sub.trans rfl hkm
    | with_reducible exact Or.inr (Sub.trans rfl hkm)
    | with_reducible exact Or.inl rfl
    | intro _
    | with_reducible apply State.cfgSend_same
    | with_reducible apply State.finishId_same
    | with_reducible apply same_ite
    | with_reducible apply same_foldl
    | with_reducible apply sameR_next
    | with_reducible apply same_foldl1
    | with_reducible apply same_ite1
    | split
    | dsimp only
    | with_reducible apply same_ten
    | with_reducible apply same_rol
    | with_reducible apply same_mk

theorem State.setWin_same (s : State) (t : Nat) (k : Nat) (w : WinS) (hkm : Sub 2097154 km) (h0 : Same km ka s) : Same km ka (State.setWin s t k w) := by
  unfold State.setWin
  try dsimp only
  repeat' first
    | with_reducible assumption
    | exact Sub.trans rfl hkm
    | intro _
    | with_reducible apply State.setCtx_same

theorem State.winIdxWrite_same (s : State) (v : Word) (hkm : Sub 2097698 km) (h0 : Same km ka s) : Same km ka (State.winIdxWrite s v) := by
  unfold State.winIdxWrite
  try dsimp only
  repeat' first
    | with_reducible assumption
    | exact Sub.trans rfl hkm
    | intro _
    | with_reducible apply State.discard_same
    | with_reducible apply State.setWin_same
    | with_reducible apply State.f_same
    | with_reducible apply same_ite
    | with_reducible apply same_foldl
    | with_reducible apply sameR_next
    | with_reducible apply same_foldl1
    | with_reducible apply same_ite1
    | split

theorem State.bindNode_same (s : State) (id : Nat) (hkm : Sub 50076194 km) (h0 : Same km ka s) : Same km ka (State.bindNode s id) := by
  unfold State.bindNode
  try dsimp only
  repeat' first
    | with_reducible assumption
    | exact Sub.trans rfl hkm
    | intro _
    | with_reducible apply State.keepPair_same
    | with_reducible apply State.rebind_same
    | with_reducible apply same_ite
    | with_reducible apply same_foldl
    | with_reducible apply sameR_next
    | with_reducible apply same_foldl1
    | with_reducible apply same_ite1
    | split

theorem execLeaseExpiry_same (idx : Nat) (s : State) (hkm : Sub 16521762 km) (h0 : Same km ka s) : SameR km ka (execLeaseExpiry idx s) := by
  unfold execLeaseExpiry
  try dsimp only
  repeat' first
    | with_reducible assumption
    | exact Sub.trans rfl hkm
    | intro _
    | with_reducible apply State.endLease_same
    | with_reducible apply same_ite
    | with_reducible apply same_foldl
    | with_reducible apply sameR_next
    | with_reducible apply same_foldl1
    | with_reducible apply same_ite1
    | split

theorem execLeaseEndAck_same (idx : Nat) (s : State) (hkm : Sub 14680098 km) (h0 : Same km ka s) : SameR km ka (execLeaseEndAck idx s) := by
  unfold execLeaseEndAck
  try dsimp only
  repeat' first
    | with_reducible assumption
    | exact Sub.trans rfl hkm
    | intro _
    | with_reducible apply State.leaseSettle_same
    | with_reducible apply same_ite
    | with_reducible apply same_foldl
    | with_reducible apply sameR_next

theorem execWindowCommit_same (t : Nat) (k : Nat) (s : State) (hkm : Sub 2099746 km) (h0 : Same km ka s) : SameR km ka (execWindowCommit t k s) := by
  unfold execWindowCommit
  try dsimp only
  repeat' first
    | with_reducible assumption
    | exact Sub.trans rfl hkm
    | intro _
    | with_reducible apply State.barWrite_same
    | with_reducible apply State.winIdxWrite_same
    | with_reducible apply same_ite
    | with_reducible apply same_foldl
    | with_reducible apply sameR_next

theorem execWindowRead_same (t : Nat) (k : Nat) (s : State) (hkm : Sub 2099746 km) (h0 : Same km ka s) : SameR km ka (execWindowRead t k s) := by
  unfold execWindowRead
  try dsimp only
  repeat' first
    | with_reducible assumption
    | exact Sub.trans rfl hkm
    | intro _
    | with_reducible apply State.barWrite_same
    | with_reducible apply State.winIdxWrite_same
    | with_reducible apply same_ite
    | with_reducible apply same_foldl
    | with_reducible apply sameR_next

theorem execWindowClr_same (t : Nat) (k : Nat) (s : State) (hkm : Sub 2099746 km) (h0 : Same km ka s) : SameR km ka (execWindowClr t k s) := by
  unfold execWindowClr
  try dsimp only
  repeat' first
    | with_reducible assumption
    | exact Sub.trans rfl hkm
    | intro _
    | with_reducible apply State.barWrite_same
    | with_reducible apply State.winIdxWrite_same
    | with_reducible apply same_ite
    | with_reducible apply same_foldl
    | with_reducible apply sameR_next

theorem execTenCounterClr_same (v : Word) (s : State) (hkm : Sub 2594 km) (h0 : Same km ka s) : SameR km ka (execTenCounterClr v s) := by
  unfold execTenCounterClr
  try dsimp only
  repeat' first
    | with_reducible assumption
    | exact Sub.trans rfl hkm
    | intro _
    | with_reducible apply State.barWrite_same
    | with_reducible apply State.clrWrite_same
    | with_reducible apply same_ite
    | with_reducible apply same_foldl
    | with_reducible apply sameR_next

theorem execTenCreate_same (s : State) (hkm : Sub 66853410 km) (h0 : Same km ka s) : SameR km ka (execTenCreate s) := by
  unfold execTenCreate
  try dsimp only
  repeat' first
    | with_reducible assumption
    | exact Sub.trans rfl hkm
    | intro _
    | with_reducible apply State.tenJob_same
    | with_reducible apply State.finishWith_same
    | with_reducible apply State.distribute_same
    | with_reducible apply same_ite
    | with_reducible apply same_foldl
    | with_reducible apply sameR_next
    | with_reducible apply same_foldl1
    | with_reducible apply same_ite1
    | split

theorem execTenChange_same (s : State) (hkm : Sub 66853410 km) (h0 : Same km ka s) : SameR km ka (execTenChange s) := by
  unfold execTenChange
  try dsimp only
  repeat' first
    | with_reducible assumption
    | exact Sub.trans rfl hkm
    | intro _
    | with_reducible apply State.tenJob_same
    | with_reducible apply State.finishWith_same
    | with_reducible apply State.distribute_same
    | with_reducible apply same_ite
    | with_reducible apply same_foldl
    | with_reducible apply sameR_next
    | with_reducible apply same_foldl1
    | with_reducible apply same_ite1
    | split

theorem execTenReset_same (s : State) (hkm : Sub 66853410 km) (h0 : Same km ka s) : SameR km ka (execTenReset s) := by
  unfold execTenReset
  try dsimp only
  repeat' first
    | with_reducible assumption
    | exact Sub.trans rfl hkm
    | intro _
    | with_reducible apply State.tenJob_same
    | with_reducible apply State.endAll_same
    | with_reducible apply State.finishWith_same
    | with_reducible apply State.distribute_same
    | with_reducible apply same_ite
    | with_reducible apply same_foldl
    | with_reducible apply sameR_next
    | with_reducible apply same_foldl1
    | with_reducible apply same_ite1
    | split

theorem execBind_same (s : State) (hkm : Sub 66853410 km) (h0 : Same km ka s) : SameR km ka (execBind s) := by
  unfold execBind
  try dsimp only
  repeat' first
    | with_reducible assumption
    | exact Sub.trans rfl hkm
    | intro _
    | with_reducible apply State.tenJob_same
    | with_reducible apply State.finishWith_same
    | with_reducible apply State.distribute_same
    | with_reducible apply same_ite
    | with_reducible apply same_foldl
    | with_reducible apply sameR_next
    | with_reducible apply same_foldl1
    | with_reducible apply same_ite1
    | split

theorem execLeaseGrant_same (s : State) (hkm : Sub 14680098 km) (h0 : Same km ka s) : SameR km ka (execLeaseGrant s) := by
  unfold execLeaseGrant
  try dsimp only
  repeat' first
    | with_reducible assumption
    | exact Sub.trans rfl hkm
    | intro _
    | with_reducible apply State.runJob_same
    | with_reducible apply State.finishWith_same
    | with_reducible apply State.quotaRefuse_same
    | with_reducible apply State.finish_same
    | with_reducible apply State.setLeases_same
    | with_reducible apply same_ite
    | with_reducible apply same_foldl
    | with_reducible apply sameR_next
    | with_reducible apply same_foldl1
    | with_reducible apply same_ite1
    | split

theorem execLeaseRevoke_same (s : State) (hkm : Sub 16521762 km) (h0 : Same km ka s) : SameR km ka (execLeaseRevoke s) := by
  unfold execLeaseRevoke
  try dsimp only
  repeat' first
    | with_reducible assumption
    | exact Sub.trans rfl hkm
    | intro _
    | with_reducible apply State.runJob_same
    | with_reducible apply State.finishWith_same
    | with_reducible apply State.endLease_same
    | with_reducible apply same_ite
    | with_reducible apply same_foldl
    | with_reducible apply sameR_next
    | with_reducible apply same_foldl1
    | with_reducible apply same_ite1
    | split

theorem execSetKey_same (s : State) (hkm : Sub 46137378 km) (h0 : Same km ka s) : SameR km ka (execSetKey s) := by
  unfold execSetKey
  try dsimp only
  repeat' first
    | with_reducible assumption
    | exact Sub.trans rfl hkm
    | intro _
    | with_reducible apply State.runJob_same
    | with_reducible apply State.finishWith_same
    | with_reducible apply same_ite
    | with_reducible apply same_foldl
    | with_reducible apply sameR_next
    | with_reducible apply same_foldl1
    | with_reducible apply same_ite1
    | split
    | dsimp only
    | with_reducible apply same_nvs

theorem State.distPrepared_same (s : State) (p : Nat) (status : Nat) (hkm : Sub 66853410 km) (h0 : Same km ka s) : Same km ka (State.distPrepared s p status) := by
  unfold State.distPrepared
  try dsimp only
  repeat' first
    | with_reducible assumption
    | exact Sub.trans rfl hkm
    | intro _
    | with_reducible apply State.distFail_same
    | with_reducible apply State.distCommit_same
    | with_reducible apply same_ite
    | with_reducible apply same_foldl
    | with_reducible apply sameR_next
    | with_reducible apply same_foldl1
    | with_reducible apply same_ite1
    | split
    | dsimp only
    | with_reducible apply same_ten

theorem State.closeGiveUp_same (s : State) (t : Nat) (c : CmdS) (hkm : Sub 4196898 km) (h0 : Same km ka s) : Same km ka (State.closeGiveUp s t c) := by
  unfold State.closeGiveUp
  try dsimp only
  repeat' first
    | with_reducible assumption
    | exact Sub.trans rfl hkm
    | intro _
    | with_reducible apply State.discardUpTo_same
    | with_reducible apply State.modCmd_same
    | with_reducible apply same_ite
    | with_reducible apply same_foldl
    | with_reducible apply sameR_next
    | with_reducible apply same_foldl1
    | with_reducible apply same_ite1
    | split

theorem State.jobGiveUp_same (s : State) (j : JobS) (hkm : Sub 12585506 km) (h0 : Same km ka s) : Same km ka (State.jobGiveUp s j) := by
  unfold State.jobGiveUp
  try dsimp only
  repeat' first
    | with_reducible assumption
    | exact Sub.trans rfl hkm
    | intro _
    | with_reducible apply State.discardUpTo_same
    | with_reducible apply State.finishWith_same
    | with_reducible apply same_ite
    | with_reducible apply same_foldl
    | with_reducible apply sameR_next
    | with_reducible apply same_foldl1
    | with_reducible apply same_ite1
    | split

theorem execCaskValidTimeout_same (s : State) (hkm : Sub 14682658 km) (h0 : Same km ka s) : SameR km ka (execCaskValidTimeout s) := by
  unfold execCaskValidTimeout
  try dsimp only
  repeat' first
    | with_reducible assumption
    | exact Sub.trans rfl hkm
    | intro _
    | with_reducible apply State.leaseGiveUp_same
    | with_reducible apply State.closeGiveUp_same
    | with_reducible apply State.jobGiveUp_same
    | with_reducible apply same_ite
    | with_reducible apply same_foldl
    | with_reducible apply sameR_next

end Sys2Proof.Machine
end

