-- ==== Sys2Proof/Laws/SameAdm.lean ====
section
/-! SUPPORT. What the operations of Machine/Adm.lean keep (Laws/Same.lean). -/
set_option Elab.async false
namespace Sys2Proof.Machine

variable {km : Nat} {ka : State}

theorem State.layFail_same (s : State) (b : Nat) (a : Nat) (hkm : Sub 12595238 km) (h0 : Same km ka s) : Same km ka (State.layFail s b a) := by
  unfold State.layFail
  try dsimp only
  repeat' first
    | with_reducible assumption
    | exact Sub.trans rfl hkm
    | intro _
    | with_reducible apply State.refuseAdm_same
    | with_reducible apply State.deadmit_same
    | with_reducible apply same_ite
    | with_reducible apply same_foldl
    | with_reducible apply sameR_next
    | with_reducible apply same_foldl1
    | with_reducible apply same_ite1
    | split

theorem State.cmdLasts_same (s : State) (b : Nat) (a : Nat) (c : NcmdS) (hkm : Sub 12595238 km) (h0 : Same km ka s) : Same km ka (State.cmdLasts s b a c) := by
  unfold State.cmdLasts
  try dsimp only
  repeat' first
    | with_reducible assumption
    | exact Sub.trans rfl hkm
    | intro _
    | with_reducible apply State.setNode_same
    | with_reducible apply State.refuseAdm_same
    | with_reducible apply State.layFail_same
    | with_reducible apply State.finishId_same
    | with_reducible apply same_ite
    | with_reducible apply same_foldl
    | with_reducible apply sameR_next
    | with_reducible apply same_foldl1
    | with_reducible apply same_ite1
    | split

theorem State.chOff_same (s : State) (n : Nat) (hkm : Sub 524290 km) (h0 : Same km ka s) : Same km ka (State.chOff s n) := by
  unfold State.chOff
  try dsimp only
  repeat' first
    | with_reducible assumption
    | exact Sub.trans rfl hkm
    | intro _
    | with_reducible apply State.mashSts_same
    | with_reducible apply State.setCh_same
    | with_reducible apply State.mashPurge_same
    | with_reducible apply same_ite

theorem State.modAdm_same (s : State) (b : Nat) (f : AdmS → AdmS) (hkm : Sub 8194 km) (h0 : Same km ka s) : Same km ka (State.modAdm s b f) := by
  unfold State.modAdm
  try dsimp only
  repeat' first
    | with_reducible assumption
    | exact Sub.trans rfl hkm
    | intro _
    | with_reducible apply State.setBus_same
    | with_reducible apply State.f_same
    | with_reducible apply same_ite
    | with_reducible apply same_foldl
    | with_reducible apply sameR_next
    | with_reducible apply same_foldl1
    | with_reducible apply same_ite1
    | split

theorem State.admStep_same (s : State) (b : Nat) (step : Nat) (hkm : Sub 8194 km) (h0 : Same km ka s) : Same km ka (State.admStep s b step) := by
  unfold State.admStep
  try dsimp only
  repeat' first
    | with_reducible assumption
    | exact Sub.trans rfl hkm
    | intro _
    | with_reducible apply State.modAdm_same

theorem State.admRange_same (s : State) (b : Nat) (m : AdmS) (d : Nat) (hkm : Sub 12595238 km) (h0 : Same km ka s) : Same km ka (State.admRange s b m d) := by
  unfold State.admRange
  try dsimp only
  repeat' first
    | with_reducible assumption
    | exact Sub.trans rfl hkm
    | intro _
    | with_reducible apply State.modAdm_same
    | with_reducible apply State.refuseAdm_same
    | with_reducible apply State.admStep_same
    | with_reducible apply State.f_same
    | with_reducible apply same_ite

theorem State.releaseOld_same (s : State) (id : Nat) (hkm : Sub 16529954 km) (h0 : Same km ka s) : Same km ka (State.releaseOld s id) := by
  unfold State.releaseOld
  try dsimp only
  repeat' first
    | with_reducible assumption
    | exact Sub.trans rfl hkm
    | intro _
    | with_reducible apply State.entsEnd_same
    | with_reducible apply State.closeStreams_same
    | with_reducible apply State.endInst_same
    | with_reducible apply State.chOff_same
    | with_reducible apply State.setOwner_same
    | with_reducible apply State.setEp_same
    | with_reducible apply same_ite
    | with_reducible apply same_foldl
    | with_reducible apply sameR_next
    | with_reducible apply same_foldl1
    | with_reducible apply same_ite1
    | split
    | dsimp only
    | with_reducible apply same_crs

theorem State.takeRecs_same (s : State) (id : Nat) (reps : List (List Nat)) (hkm : Sub 16529954 km) (h0 : Same km ka s) : Same km ka (State.takeRecs s id reps).1 := by
  unfold State.takeRecs
  try dsimp only
  repeat' first
    | with_reducible assumption
    | exact Sub.trans rfl hkm
    | intro _
    | with_reducible apply State.setEp_same
    | with_reducible apply State.releaseOld_same
    | with_reducible apply same_ite
    | with_reducible apply same_foldl
    | with_reducible apply sameR_next
    | with_reducible apply same_foldl1
    | with_reducible apply same_ite1
    | split

theorem State.admDone_same (s : State) (b : Nat) (hkm : Sub 50084390 km) (h0 : Same km ka s) : Same km ka (State.admDone s b) := by
  unfold State.admDone
  try dsimp only
  repeat' first
    | with_reducible assumption
    | exact Sub.trans rfl hkm
    | intro _
    | with_reducible apply State.refuseAdm_same
    | with_reducible apply State.takeRecs_same
    | with_reducible apply State.setNode_same
    | with_reducible apply State.inc_same
    | with_reducible apply State.endAdm_same
    | with_reducible apply State.bindNode_same
    | with_reducible apply State.entsBack_same
    | with_reducible apply State.nodeRecord_same
    | with_reducible apply same_ite
    | with_reducible apply same_foldl
    | with_reducible apply sameR_next
    | with_reducible apply same_foldl1
    | with_reducible apply same_ite1
    | split
    | dsimp only
    | with_reducible apply same_crs

theorem State.layEffective_same (s : State) (b : Nat) (hkm : Sub 50084390 km) (h0 : Same km ka s) : Same km ka (State.layEffective s b) := by
  unfold State.layEffective
  try dsimp only
  repeat' first
    | with_reducible assumption
    | exact Sub.trans rfl hkm
    | intro _
    | with_reducible apply State.f_same
    | with_reducible apply State.setBus_same
    | with_reducible apply State.admStep_same
    | with_reducible apply State.admDone_same
    | with_reducible apply same_ite
    | with_reducible apply same_foldl
    | with_reducible apply sameR_next
    | with_reducible apply same_foldl1
    | with_reducible apply same_ite1
    | split

theorem State.joinUndo_same (s : State) (b : Nat) (hkm : Sub 12595234 km) (h0 : Same km ka s) : Same km ka (State.joinUndo s b) := by
  unfold State.joinUndo
  try dsimp only
  repeat' first
    | with_reducible assumption
    | exact Sub.trans rfl hkm
    | intro _
    | with_reducible apply State.removeNode_same
    | with_reducible apply same_ite
    | with_reducible apply same_foldl
    | with_reducible apply sameR_next
    | with_reducible apply same_foldl1
    | with_reducible apply same_ite1
    | split

theorem State.admNdb_same (s : State) (b : Nat) (m : AdmS) (hkm : Sub 12595238 km) (h0 : Same km ka s) : Same km ka (State.admNdb s b m) := by
  unfold State.admNdb
  try dsimp only
  repeat' first
    | with_reducible assumption
    | exact Sub.trans rfl hkm
    | intro _
    | with_reducible apply State.refuseAdm_same
    | with_reducible apply State.admStep_same
    | with_reducible apply State.setNode_same
    | with_reducible apply same_ite

theorem State.admReply_same (s : State) (b : Nat) (c : NcmdS) (status : Nat) (data : List Nat) (r : Int) (hkm : Sub 12595238 km) (h0 : Same km ka s) : Same km ka (State.admReply s b c status data r) := by
  unfold State.admReply
  try dsimp only
  repeat' first
    | with_reducible assumption
    | exact Sub.trans rfl hkm
    | intro _
    | with_reducible apply State.refuseAdm_same
    | with_reducible apply State.admStep_same
    | with_reducible apply State.admRange_same
    | with_reducible apply State.modAdm_same
    | with_reducible apply State.admNdb_same
    | with_reducible apply same_ite
    | with_reducible apply same_foldl
    | with_reducible apply sameR_next
    | with_reducible apply same_foldl1
    | with_reducible apply same_ite1
    | split

theorem State.layReply_same (s : State) (b : Nat) (a : Nat) (lno : Nat) (status : Nat) (hkm : Sub 12595238 km) (h0 : Same km ka s) : Same km ka (State.layReply s b a lno status) := by
  unfold State.layReply
  try dsimp only
  repeat' first
    | with_reducible assumption
    | exact Sub.trans rfl hkm
    | intro _
    | with_reducible apply State.layFail_same
    | with_reducible apply State.setBus_same
    | with_reducible apply same_ite
    | with_reducible apply same_foldl
    | with_reducible apply sameR_next
    | with_reducible apply same_foldl1
    | with_reducible apply same_ite1
    | split

theorem State.tenantReply_same (s : State) (c : NcmdS) (status : Nat) (data : List Nat) (hkm : Sub 12582946 km) (h0 : Same km ka s) : Same km ka (State.tenantReply s c status data) := by
  unfold State.tenantReply
  try dsimp only
  repeat' first
    | with_reducible assumption
    | exact Sub.trans rfl hkm
    | intro _
    | with_reducible apply State.finishId_same
    | with_reducible apply same_ite
    | with_reducible apply same_foldl
    | with_reducible apply sameR_next
    | with_reducible apply same_foldl1
    | with_reducible apply same_ite1
    | split

theorem State.nodeReply_same (s : State) (b : Nat) (a : Nat) (data : List Nat) (r : Int) (retry : Bool) (hkm : Sub 12595238 km) (h0 : Same km ka s) : Same km ka (State.nodeReply s b a data r retry) := by
  unfold State.nodeReply
  try dsimp only
  repeat' first
    | with_reducible assumption
    | exact Sub.trans rfl hkm
    | intro _
    | with_reducible apply State.inc_same
    | with_reducible apply State.setNode_same
    | with_reducible apply State.admReply_same
    | with_reducible apply State.layReply_same
    | with_reducible apply State.tenantReply_same
    | with_reducible apply same_ite
    | with_reducible apply same_foldl
    | with_reducible apply sameR_next
    | with_reducible apply same_foldl1
    | with_reducible apply same_ite1
    | split

theorem State.admSlot_same (s : State) (b : Nat) (m : AdmS) (len : Nat) (hkm : Sub 12595238 km) (h0 : Same km ka s) : Same km ka (State.admSlot s b m len) := by
  unfold State.admSlot
  try dsimp only
  repeat' first
    | with_reducible assumption
    | exact Sub.trans rfl hkm
    | intro _
    | with_reducible apply State.setNode_same
    | with_reducible apply State.startLayout_same
    | with_reducible apply State.modAdm_same
    | with_reducible apply State.refuseAdm_same
    | with_reducible apply same_ite

theorem State.admGo_same (s : State) (b : Nat) (hkm : Sub 12595238 km) (h0 : Same km ka s) : Same km ka (State.admGo s b) := by
  unfold State.admGo
  try dsimp only
  repeat' first
    | with_reducible assumption
    | exact Sub.trans rfl hkm
    | intro _
    | with_reducible apply State.modAdm_same
    | with_reducible apply State.firstCmd_same
    | with_reducible apply State.nodeCmd_same
    | with_reducible apply State.admSlot_same
    | with_reducible apply same_ite
    | with_reducible apply same_foldl
    | with_reducible apply sameR_next
    | with_reducible apply same_foldl1
    | with_reducible apply same_ite1
    | split

theorem State.admBegin_same (s : State) (b : Nat) (a : Nat) (id : Nat) (nonce : Nat) (caps : Nat) (hkm : Sub 8194 km) (h0 : Same km ka s) : Same km ka (State.admBegin s b a id nonce caps) := by
  unfold State.admBegin
  try dsimp only
  repeat' first
    | with_reducible assumption
    | exact Sub.trans rfl hkm
    | intro _
    | with_reducible apply State.setNode_same
    | with_reducible apply State.f_same
    | with_reducible apply State.wr_same
    | with_reducible apply State.admStep_same
    | with_reducible apply State.setBus_same

theorem State.joinCheck_same (s : State) (b : Nat) (id : Nat) (nonce : Nat) (caps : Nat) (hkm : Sub 12595238 km) (h0 : Same km ka s) : Same km ka (State.joinCheck s b id nonce caps) := by
  unfold State.joinCheck
  try dsimp only
  repeat' first
    | with_reducible assumption
    | exact Sub.trans rfl hkm
    | intro _
    | with_reducible apply State.deadmit_same
    | with_reducible apply State.inc_same
    | with_reducible apply State.refuse_same
    | with_reducible apply State.admGo_same
    | with_reducible apply State.admBegin_same
    | with_reducible apply same_ite
    | with_reducible apply same_foldl
    | with_reducible apply sameR_next
    | with_reducible apply same_foldl1
    | with_reducible apply same_ite1
    | split

end Sys2Proof.Machine
end

