-- ==== Sys2Proof/Laws/SameLink.lean ====
section
/-! SUPPORT. What the operations of Machine/Link.lean keep (Laws/Same.lean). -/
set_option Elab.async false
namespace Sys2Proof.Machine

variable {km : Nat} {ka : State}

theorem State.markDormant_same (s : State) (p : Nat) (hkm : Sub 16777216 km) (h0 : Same km ka s) : Same km ka (State.markDormant s p) := by
  unfold State.markDormant
  try dsimp only
  repeat' first
    | with_reducible assumption
    | exact Sub.trans rfl hkm
    | intro _
    | with_reducible apply same_ite
    | with_reducible apply same_foldl
    | with_reducible apply sameR_next
    | with_reducible apply same_foldl1
    | with_reducible apply same_ite1
    | split
    | dsimp only
    | with_reducible apply same_rol

theorem execClose_same (p : Nat) (pl : List Nat) (s : State) (hkm : Sub 29360802 km) (h0 : Same km ka s) : SameR km ka (execClose p pl s) := by
  unfold execClose
  try dsimp only
  repeat' first
    | with_reducible assumption
    | exact Sub.trans rfl hkm
    | intro _
    | with_reducible apply State.inc_same
    | with_reducible apply State.dropSession_same
    | with_reducible apply State.setPort_same
    | with_reducible apply State.markDormant_same
    | with_reducible apply State.trainFrom1_same
    | with_reducible apply State.f_same
    | with_reducible apply State.loseUpstream_same
    | with_reducible apply same_ite
    | with_reducible apply same_foldl
    | with_reducible apply sameR_next

theorem State.delayReset_same (s : State) (p : Nat) (was : Nat) (hkm : Sub 128 km) (h0 : Same km ka s) : Same km ka (State.delayReset s p was) := by
  unfold State.delayReset
  try dsimp only
  repeat' first
    | with_reducible assumption
    | exact Sub.trans rfl hkm
    | intro _
    | with_reducible apply same_ite
    | with_reducible apply same_foldl
    | with_reducible apply sameR_next
    | with_reducible apply same_foldl1
    | with_reducible apply same_ite1
    | split
    | dsimp only
    | with_reducible apply same_srv

theorem State.dropLane_same (s : State) (p : Nat) (carry : Nat) (flag : Fld) (hkm : Sub 8388770 km) (h0 : Same km ka s) : Same km ka (State.dropLane s p carry flag) := by
  unfold State.dropLane
  try dsimp only
  repeat' first
    | with_reducible assumption
    | exact Sub.trans rfl hkm
    | intro _
    | with_reducible apply State.inc_same
    | with_reducible apply State.f_same
    | with_reducible apply State.resendFresh_same
    | with_reducible apply State.delayReset_same

theorem State.shedLane_same (s : State) (p : Nat) (hkm : Sub 8388770 km) (h0 : Same km ka s) : Same km ka (State.shedLane s p) := by
  unfold State.shedLane
  try dsimp only
  repeat' first
    | with_reducible assumption
    | exact Sub.trans rfl hkm
    | intro _
    | with_reducible apply State.dropLane_same
    | with_reducible apply same_ite

theorem State.pcfgWrite_same (s : State) (p : Nat) (v : Word) (hkm : Sub 12583458 km) (h0 : Same km ka s) : Same km ka (State.pcfgWrite s p v) := by
  unfold State.pcfgWrite
  try dsimp only
  repeat' first
    | with_reducible assumption
    | exact Sub.trans rfl hkm
    | intro _
    | with_reducible apply State.discard_same
    | with_reducible apply State.store_same
    | with_reducible apply State.portOn_same
    | with_reducible apply State.portOff_same
    | with_reducible apply same_ite

theorem execPortEnable_same (p : Nat) (v : Word) (s : State) (hkm : Sub 12585506 km) (h0 : Same km ka s) : SameR km ka (execPortEnable p v s) := by
  unfold execPortEnable
  try dsimp only
  repeat' first
    | with_reducible assumption
    | exact Sub.trans rfl hkm
    | intro _
    | with_reducible apply State.barWrite_same
    | with_reducible apply State.pcfgWrite_same
    | with_reducible apply same_ite
    | with_reducible apply same_foldl
    | with_reducible apply sameR_next

theorem State.toStep_same (s : State) (p : Nat) (n : Nat) (hkm : Sub 8388610 km) (h0 : Same km ka s) : Same km ka (State.toStep s p n) := by
  unfold State.toStep
  try dsimp only
  repeat' first
    | with_reducible assumption
    | exact Sub.trans rfl hkm
    | intro _
    | with_reducible apply State.setPort_same

theorem State.lanesUp_same (s : State) (p : Nat) (hkm : Sub 12582946 km) (h0 : Same km ka s) : Same km ka (State.lanesUp s p) := by
  unfold State.lanesUp
  try dsimp only
  repeat' first
    | with_reducible assumption
    | exact Sub.trans rfl hkm
    | intro _
    | with_reducible apply State.f_same
    | with_reducible apply State.setPort_same
    | with_reducible apply State.toStep_same
    | with_reducible apply State.sendHello_same
    | with_reducible apply State.startHello_same
    | with_reducible apply same_ite

theorem execTrainingStepDone_same (p : Nat) (mask : Nat) (s : State) (hkm : Sub 12582946 km) (h0 : Same km ka s) : SameR km ka (execTrainingStepDone p mask s) := by
  unfold execTrainingStepDone
  try dsimp only
  repeat' first
    | with_reducible assumption
    | exact Sub.trans rfl hkm
    | intro _
    | with_reducible apply State.toStep_same
    | with_reducible apply State.f_same
    | with_reducible apply State.lanesUp_same
    | with_reducible apply same_ite
    | with_reducible apply same_foldl
    | with_reducible apply sameR_next

theorem execTrainingTimeout_same (p : Nat) (s : State) (hkm : Sub 8388610 km) (h0 : Same km ka s) : SameR km ka (execTrainingTimeout p s) := by
  unfold execTrainingTimeout
  try dsimp only
  repeat' first
    | with_reducible assumption
    | exact Sub.trans rfl hkm
    | intro _
    | with_reducible apply State.f_same
    | with_reducible apply State.inc_same
    | with_reducible apply State.trainFrom1_same
    | with_reducible apply same_ite
    | with_reducible apply same_foldl
    | with_reducible apply sameR_next
    | with_reducible apply same_foldl1
    | with_reducible apply same_ite1
    | split

theorem execLaneFault_same (p : Nat) (lane : Nat) (s : State) (hkm : Sub 8388770 km) (h0 : Same km ka s) : SameR km ka (execLaneFault p lane s) := by
  unfold execLaneFault
  try dsimp only
  repeat' first
    | with_reducible assumption
    | exact Sub.trans rfl hkm
    | intro _
    | with_reducible apply State.f_same
    | with_reducible apply State.setPort_same
    | with_reducible apply State.resendFresh_same
    | with_reducible apply State.delayReset_same
    | with_reducible apply State.inc_same
    | with_reducible apply State.dropLane_same
    | with_reducible apply same_ite
    | with_reducible apply same_foldl
    | with_reducible apply sameR_next

theorem execLaneRetrained_same (p : Nat) (lane : Nat) (s : State) (hkm : Sub 8388738 km) (h0 : Same km ka s) : SameR km ka (execLaneRetrained p lane s) := by
  unfold execLaneRetrained
  try dsimp only
  repeat' first
    | with_reducible assumption
    | exact Sub.trans rfl hkm
    | intro _
    | with_reducible apply State.f_same
    | with_reducible apply State.delayReset_same
    | with_reducible apply State.setPort_same
    | with_reducible apply same_ite
    | with_reducible apply same_foldl
    | with_reducible apply sameR_next

theorem execLinkDown_same (p : Nat) (s : State) (hkm : Sub 25166498 km) (h0 : Same km ka s) : SameR km ka (execLinkDown p s) := by
  unfold execLinkDown
  try dsimp only
  repeat' first
    | with_reducible assumption
    | exact Sub.trans rfl hkm
    | intro _
    | with_reducible apply State.linkDown_same
    | with_reducible apply same_ite
    | with_reducible apply same_foldl
    | with_reducible apply sameR_next

theorem execFlitReceived_same (p : Nat) (bs : List Nat) (first : Bool) (nsym : Nat) (s : State) (hkm : Sub 8388642 km) (h0 : Same km ka s) : SameR km ka (execFlitReceived p bs first nsym s) := by
  unfold execFlitReceived
  try dsimp only
  repeat' first
    | with_reducible assumption
    | exact Sub.trans rfl hkm
    | intro _
    | with_reducible apply State.inc_same
    | with_reducible apply State.incBy_same
    | with_reducible apply State.sendNak_same
    | with_reducible apply State.acceptFlit_same
    | with_reducible apply same_ite
    | with_reducible apply same_foldl
    | with_reducible apply sameR_next

theorem execStatus_same (p : Nat) (pl : List Nat) (s : State) (hkm : Sub 8388642 km) (h0 : Same km ka s) : SameR km ka (execStatus p pl s) := by
  unfold execStatus
  try dsimp only
  repeat' first
    | with_reducible assumption
    | exact Sub.trans rfl hkm
    | intro _
    | with_reducible apply State.inc_same
    | with_reducible apply State.takeAck_same
    | with_reducible apply same_ite
    | with_reducible apply same_foldl
    | with_reducible apply sameR_next

theorem State.flitFails_same (s : State) (p : Nat) (n : Nat) (hkm : Sub 25166498 km) (h0 : Same km ka s) : Same km ka (State.flitFails s p n) := by
  unfold State.flitFails
  try dsimp only
  repeat' first
    | with_reducible assumption
    | exact Sub.trans rfl hkm
    | intro _
    | with_reducible apply State.linkDown_same
    | with_reducible apply State.inc_same
    | with_reducible apply State.replay_same
    | with_reducible apply same_ite
    | with_reducible apply same_foldl
    | with_reducible apply sameR_next
    | with_reducible apply same_foldl1
    | with_reducible apply same_ite1
    | split

theorem execNak_same (p : Nat) (pl : List Nat) (s : State) (hkm : Sub 25166498 km) (h0 : Same km ka s) : SameR km ka (execNak p pl s) := by
  unfold execNak
  try dsimp only
  repeat' first
    | with_reducible assumption
    | exact Sub.trans rfl hkm
    | intro _
    | with_reducible apply State.inc_same
    | with_reducible apply State.takeAck_same
    | with_reducible apply State.flitFails_same
    | with_reducible apply same_ite
    | with_reducible apply same_foldl
    | with_reducible apply sameR_next

theorem execReplayTimeout_same (p : Nat) (s : State) (hkm : Sub 25166498 km) (h0 : Same km ka s) : SameR km ka (execReplayTimeout p s) := by
  unfold execReplayTimeout
  try dsimp only
  repeat' first
    | with_reducible assumption
    | exact Sub.trans rfl hkm
    | intro _
    | with_reducible apply State.flitFails_same
    | with_reducible apply same_ite
    | with_reducible apply same_foldl
    | with_reducible apply sameR_next

theorem execStatusTimer_same (p : Nat) (s : State) (hkm : Sub 8388642 km) (h0 : Same km ka s) : SameR km ka (execStatusTimer p s) := by
  unfold execStatusTimer
  try dsimp only
  repeat' first
    | with_reducible assumption
    | exact Sub.trans rfl hkm
    | intro _
    | with_reducible apply State.sendStatus_same
    | with_reducible apply same_ite
    | with_reducible apply same_foldl
    | with_reducible apply sameR_next

theorem State.abandonHold_same (s : State) (p : Nat) (hkm : Sub 12582914 km) (h0 : Same km ka s) : Same km ka (State.abandonHold s p) := by
  unfold State.abandonHold
  try dsimp only
  repeat' first
    | with_reducible assumption
    | exact Sub.trans rfl hkm
    | intro _
    | with_reducible apply State.f_same
    | with_reducible apply State.inc_same
    | with_reducible apply State.dropSession_same

theorem State.abandonElsewhere_same (s : State) (p : Nat) (hkm : Sub 12582914 km) (hubid : Nat) (h0 : Same km ka s) : Same km ka (State.abandonElsewhere s p hubid) := by
  unfold State.abandonElsewhere
  try dsimp only
  repeat' first
    | with_reducible assumption
    | exact Sub.trans rfl hkm
    | intro _
    | with_reducible apply State.abandonHold_same
    | with_reducible apply same_ite
    | with_reducible apply same_foldl

theorem State.sessionUp_same (s : State) (p : Nat) (pl : List Nat) (hkm : Sub 29360162 km) (h0 : Same km ka s) : Same km ka (State.sessionUp s p pl) := by
  unfold State.sessionUp
  try dsimp only
  repeat' first
    | with_reducible assumption
    | exact Sub.trans rfl hkm
    | intro _
    | with_reducible apply State.sendHello_same
    | with_reducible apply State.setPort_same
    | with_reducible apply State.f_same
    | with_reducible apply State.abandonElsewhere_same
    | with_reducible apply State.startRound_same

theorem execHello_same (p : Nat) (pl : List Nat) (s : State) (hkm : Sub 29360162 km) (h0 : Same km ka s) : SameR km ka (execHello p pl s) := by
  unfold execHello
  try dsimp only
  repeat' first
    | with_reducible assumption
    | exact Sub.trans rfl hkm
    | intro _
    | with_reducible apply State.inc_same
    | with_reducible apply State.startHello_same
    | with_reducible apply State.abandonHold_same
    | with_reducible apply State.setPort_same
    | with_reducible apply State.sessionUp_same
    | with_reducible apply same_ite
    | with_reducible apply same_foldl
    | with_reducible apply sameR_next

theorem execHelloTimer_same (p : Nat) (s : State) (hkm : Sub 8388642 km) (h0 : Same km ka s) : SameR km ka (execHelloTimer p s) := by
  unfold execHelloTimer
  try dsimp only
  repeat' first
    | with_reducible assumption
    | exact Sub.trans rfl hkm
    | intro _
    | with_reducible apply State.sendHello_same
    | with_reducible apply same_ite
    | with_reducible apply same_foldl
    | with_reducible apply sameR_next

theorem State.resumeSession_same (s : State) (p : Nat) (pl : List Nat) (hkm : Sub 29360162 km) (h0 : Same km ka s) : Same km ka (State.resumeSession s p pl) := by
  unfold State.resumeSession
  try dsimp only
  repeat' first
    | with_reducible assumption
    | exact Sub.trans rfl hkm
    | intro _
    | with_reducible apply State.sendHello_same
    | with_reducible apply State.setPort_same
    | with_reducible apply State.inc_same
    | with_reducible apply State.f_same
    | with_reducible apply State.flushEvHeld_same
    | with_reducible apply State.flushFwd_same
    | with_reducible apply State.pump_same
    | with_reducible apply State.resendFresh_same
    | with_reducible apply State.startRound_same
    | with_reducible apply same_ite

theorem execResume_same (p : Nat) (pl : List Nat) (s : State) (hkm : Sub 29360162 km) (h0 : Same km ka s) : SameR km ka (execResume p pl s) := by
  unfold execResume
  try dsimp only
  repeat' first
    | with_reducible assumption
    | exact Sub.trans rfl hkm
    | intro _
    | with_reducible apply State.inc_same
    | with_reducible apply State.resumeSession_same
    | with_reducible apply State.startHello_same
    | with_reducible apply State.abandonHold_same
    | with_reducible apply State.sendHello_same
    | with_reducible apply same_ite
    | with_reducible apply same_foldl
    | with_reducible apply sameR_next

theorem State.unshedLane_same (s : State) (p : Nat) (hkm : Sub 130 km) (h0 : Same km ka s) : Same km ka (State.unshedLane s p) := by
  unfold State.unshedLane
  try dsimp only
  repeat' first
    | with_reducible assumption
    | exact Sub.trans rfl hkm
    | intro _
    | with_reducible apply State.delayReset_same
    | with_reducible apply State.f_same
    | with_reducible apply same_ite

end Sys2Proof.Machine
end

