-- ==== Sys2Proof/Laws/SameBus.lean ====
section
/-! SUPPORT. What the operations of Machine/Bus.lean keep (Laws/Same.lean). -/
set_option Elab.async false
namespace Sys2Proof.Machine

variable {km : Nat} {ka : State}

theorem execNodeCommandTimeout_same (b : Nat) (a : Nat) (s : State) (hkm : Sub 12595238 km) (h0 : Same km ka s) : SameR km ka (execNodeCommandTimeout b a s) := by
  unfold execNodeCommandTimeout
  try dsimp only
  repeat' first
    | with_reducible assumption
    | exact Sub.trans rfl hkm
    | intro _
    | with_reducible apply State.cmdLasts_same
    | with_reducible apply State.setNode_same
    | with_reducible apply State.setBus_same
    | with_reducible apply same_ite
    | with_reducible apply same_foldl
    | with_reducible apply sameR_next
    | with_reducible apply same_foldl1
    | with_reducible apply same_ite1
    | split

theorem State.strayFrame_same (s : State) (b : Nat) (a : Nat) (hkm : Sub 8194 km) (h0 : Same km ka s) : Same km ka (State.strayFrame s b a) := by
  unfold State.strayFrame
  try dsimp only
  repeat' first
    | with_reducible assumption
    | exact Sub.trans rfl hkm
    | intro _
    | with_reducible apply State.setBus_same
    | with_reducible apply State.inc_same

theorem execNodeSilent_same (b : Nat) (a : Nat) (s : State) (hkm : Sub 2 km) (h0 : Same km ka s) : SameR km ka (execNodeSilent b a s) := by
  unfold execNodeSilent
  try dsimp only
  repeat' first
    | with_reducible assumption
    | exact Sub.trans rfl hkm
    | intro _
    | with_reducible apply State.f_same
    | with_reducible apply same_ite
    | with_reducible apply same_foldl
    | with_reducible apply sameR_next

theorem State.busCfgWrite_same (s : State) (b : Nat) (v : Word) (hkm : Sub 12595746 km) (h0 : Same km ka s) : Same km ka (State.busCfgWrite s b v) := by
  unfold State.busCfgWrite
  try dsimp only
  repeat' first
    | with_reducible assumption
    | exact Sub.trans rfl hkm
    | intro _
    | with_reducible apply State.store_same
    | with_reducible apply State.discard_same
    | with_reducible apply State.setBus_same
    | with_reducible apply State.haltBus_same
    | with_reducible apply same_ite

theorem State.busLenWrite_same (s : State) (r : Reg) (b : Nat) (v : Word) (hkm : Sub 546 km) (h0 : Same km ka s) : Same km ka (State.busLenWrite s r b v) := by
  unfold State.busLenWrite
  try dsimp only
  repeat' first
    | with_reducible assumption
    | exact Sub.trans rfl hkm
    | intro _
    | with_reducible apply State.store_same
    | with_reducible apply State.discard_same
    | with_reducible apply same_ite

theorem State.busClrWrite_same (s : State) (b : Nat) (v : Word) (hkm : Sub 2 km) (h0 : Same km ka s) : Same km ka (State.busClrWrite s b v) := by
  unfold State.busClrWrite
  try dsimp only
  repeat' first
    | with_reducible assumption
    | exact Sub.trans rfl hkm
    | intro _
    | with_reducible apply State.zero_same
    | with_reducible apply same_ite
    | with_reducible apply same_foldl

theorem State.busDropWrite_same (s : State) (b : Nat) (v : Word) (hkm : Sub 12595746 km) (h0 : Same km ka s) : Same km ka (State.busDropWrite s b v) := by
  unfold State.busDropWrite
  try dsimp only
  repeat' first
    | with_reducible assumption
    | exact Sub.trans rfl hkm
    | intro _
    | with_reducible apply State.discard_same
    | with_reducible apply State.queueCmd_same
    | with_reducible apply State.removeNode_same
    | with_reducible apply same_ite

theorem execBusEnable_same (b : Nat) (v : Word) (s : State) (hkm : Sub 12597794 km) (h0 : Same km ka s) : SameR km ka (execBusEnable b v s) := by
  unfold execBusEnable
  try dsimp only
  repeat' first
    | with_reducible assumption
    | exact Sub.trans rfl hkm
    | intro _
    | with_reducible apply State.barWrite_same
    | with_reducible apply State.busCfgWrite_same
    | with_reducible apply same_ite
    | with_reducible apply same_foldl
    | with_reducible apply sameR_next

theorem State.busRate_same (s : State) (b : Nat) (c : Nat) (hkm : Sub 8194 km) (h0 : Same km ka s) : Same km ka (State.busRate s b c) := by
  unfold State.busRate
  try dsimp only
  repeat' first
    | with_reducible assumption
    | exact Sub.trans rfl hkm
    | intro _
    | with_reducible apply State.f_same
    | with_reducible apply State.setBus_same
    | with_reducible apply same_ite

theorem State.planNow_same (s : State) (b : Nat) (c : Nat) (hkm : Sub 14432802 km) (h0 : Same km ka s) : Same km ka (State.planNow s b c) := by
  unfold State.planNow
  try dsimp only
  repeat' first
    | with_reducible assumption
    | exact Sub.trans rfl hkm
    | intro _
    | with_reducible apply State.dropPlan_same
    | with_reducible apply State.busRate_same
    | with_reducible apply State.commitCycle_same
    | with_reducible apply same_ite

theorem State.stepSkip_same (s : State) (b : Nat) (c : Nat) (hkm : Sub 2 km) (h0 : Same km ka s) : Same km ka (State.stepSkip s b c) := by
  unfold State.stepSkip
  try dsimp only
  repeat' first
    | with_reducible assumption
    | exact Sub.trans rfl hkm
    | intro _
    | with_reducible apply State.incBy_same
    | with_reducible apply same_ite
    | with_reducible apply same_foldl
    | with_reducible apply sameR_next
    | with_reducible apply same_foldl1
    | with_reducible apply same_ite1
    | split

theorem State.loseNode_same (s : State) (b : Nat) (a : Nat) (hkm : Sub 14424610 km) (h0 : Same km ka s) : Same km ka (State.loseNode s b a) := by
  unfold State.loseNode
  try dsimp only
  repeat' first
    | with_reducible assumption
    | exact Sub.trans rfl hkm
    | intro _
    | with_reducible apply State.loseTxn_same
    | with_reducible apply same_ite
    | with_reducible apply same_foldl

theorem State.slotEnd_same (b : Nat) (s : State) (a : Nat) (hkm : Sub 14432802 km) (h0 : Same km ka s) : Same km ka (State.slotEnd b s a) := by
  unfold State.slotEnd
  try dsimp only
  repeat' first
    | with_reducible assumption
    | exact Sub.trans rfl hkm
    | intro _
    | with_reducible apply State.setNode_same
    | with_reducible apply State.inc_same
    | with_reducible apply State.f_same
    | with_reducible apply State.loseNode_same
    | with_reducible apply State.setBus_same
    | with_reducible apply same_ite

theorem State.subEnd_same (b : Nat) (s : State) (a : Nat) (hkm : Sub 14432802 km) (h0 : Same km ka s) : Same km ka (State.subEnd b s a) := by
  unfold State.subEnd
  try dsimp only
  repeat' first
    | with_reducible assumption
    | exact Sub.trans rfl hkm
    | intro _
    | with_reducible apply State.loseNode_same
    | with_reducible apply State.inc_same
    | with_reducible apply State.setNode_same
    | with_reducible apply same_ite
    | with_reducible apply same_foldl
    | with_reducible apply sameR_next
    | with_reducible apply same_foldl1
    | with_reducible apply same_ite1
    | split

theorem State.closeCycle_same (s : State) (b : Nat) (hkm : Sub 14432802 km) (h0 : Same km ka s) : Same km ka (State.closeCycle s b) := by
  unfold State.closeCycle
  try dsimp only
  repeat' first
    | with_reducible assumption
    | exact Sub.trans rfl hkm
    | intro _
    | with_reducible apply State.slotEnd_same
    | with_reducible apply State.loseNode_same
    | with_reducible apply State.inc_same
    | with_reducible apply State.subEnd_same
    | with_reducible apply State.setNode_same
    | with_reducible apply State.setBus_same
    | with_reducible apply same_ite
    | with_reducible apply same_foldl

theorem State.showProb_same (s : State) (b : Nat) (a : Nat) (hkm : Sub 2 km) (h0 : Same km ka s) : Same km ka (State.showProb s b a) := by
  unfold State.showProb
  try dsimp only
  repeat' first
    | with_reducible assumption
    | exact Sub.trans rfl hkm
    | intro _
    | with_reducible apply State.zero_same
    | with_reducible apply State.f_same
    | with_reducible apply same_ite
    | with_reducible apply same_foldl
    | with_reducible apply sameR_next
    | with_reducible apply same_foldl1
    | with_reducible apply same_ite1
    | split

theorem State.probStart_same (b : Nat) (s : State) (a : Nat) (hkm : Sub 8194 km) (h0 : Same km ka s) : Same km ka (State.probStart b s a) := by
  unfold State.probStart
  try dsimp only
  repeat' first
    | with_reducible assumption
    | exact Sub.trans rfl hkm
    | intro _
    | with_reducible apply State.showProb_same
    | with_reducible apply State.inc_same
    | with_reducible apply State.f_same
    | with_reducible apply State.setNode_same
    | with_reducible apply same_ite

theorem State.probEnd_same (b : Nat) (s : State) (a : Nat) (hkm : Sub 8194 km) (h0 : Same km ka s) : Same km ka (State.probEnd b s a) := by
  unfold State.probEnd
  try dsimp only
  repeat' first
    | with_reducible assumption
    | exact Sub.trans rfl hkm
    | intro _
    | with_reducible apply State.showProb_same
    | with_reducible apply State.setNode_same
    | with_reducible apply same_ite

theorem State.pickEffective_same (s : State) (b : Nat) (no : Nat) (hkm : Sub 8194 km) (h0 : Same km ka s) : Same km ka (State.pickEffective s b no) := by
  unfold State.pickEffective
  try dsimp only
  repeat' first
    | with_reducible assumption
    | exact Sub.trans rfl hkm
    | intro _
    | with_reducible apply State.f_same
    | with_reducible apply State.setBus_same
    | with_reducible apply same_ite
    | with_reducible apply same_foldl
    | with_reducible apply sameR_next
    | with_reducible apply same_foldl1
    | with_reducible apply same_ite1
    | split

theorem State.beaconPrep_same (s : State) (b : Nat) (c : Nat) (hkm : Sub 50084390 km) (h0 : Same km ka s) : Same km ka (State.beaconPrep s b c) := by
  unfold State.beaconPrep
  try dsimp only
  repeat' first
    | with_reducible assumption
    | exact Sub.trans rfl hkm
    | intro _
    | with_reducible apply State.planNow_same
    | with_reducible apply State.stepSkip_same
    | with_reducible apply State.closeCycle_same
    | with_reducible apply State.layEffective_same
    | with_reducible apply State.probStart_same
    | with_reducible apply State.probEnd_same
    | with_reducible apply State.pickEffective_same
    | with_reducible apply same_ite
    | with_reducible apply same_foldl
    | with_reducible apply sameR_next
    | with_reducible apply same_foldl1
    | with_reducible apply same_ite1
    | split

theorem State.sendFrame_same (s : State) (b : Nat) (at_ : Nat) (bytes : List Nat) (hkm : Sub 32 km) (h0 : Same km ka s) : Same km ka (State.sendFrame s b at_ bytes) := by
  unfold State.sendFrame
  try dsimp only
  repeat' first
    | with_reducible assumption
    | exact Sub.trans rfl hkm
    | intro _
    | with_reducible apply same_ite
    | with_reducible apply same_foldl
    | with_reducible apply sameR_next
    | with_reducible apply same_foldl1
    | with_reducible apply same_ite1
    | split
    | dsimp only
    | with_reducible apply same_out

theorem State.openCycle_same (s : State) (b : Nat) (cyc : CycS) (offer : Bool) (hkm : Sub 8192 km) (h0 : Same km ka s) : Same km ka (State.openCycle s b cyc offer) := by
  unfold State.openCycle
  try dsimp only
  repeat' first
    | with_reducible assumption
    | exact Sub.trans rfl hkm
    | intro _
    | with_reducible apply State.setBus_same
    | with_reducible apply State.setNode_same
    | with_reducible apply same_ite
    | with_reducible apply same_foldl

theorem State.beaconSent_same (s : State) (b : Nat) (c : Nat) (no : Nat) (hkm : Sub 1026 km) (h0 : Same km ka s) : Same km ka (State.beaconSent s b c no) := by
  unfold State.beaconSent
  try dsimp only
  repeat' first
    | with_reducible assumption
    | exact Sub.trans rfl hkm
    | intro _
    | with_reducible apply State.inc_same
    | with_reducible apply State.f_same
    | with_reducible apply State.event_same

theorem State.sendCmd_same (s : State) (b : Nat) (no : Nat) (at_ : Nat) (c : NcmdS) (t : Nat) (hkm : Sub 8224 km) (h0 : Same km ka s) : Same km ka (State.sendCmd s b no at_ c t).1 := by
  unfold State.sendCmd
  try dsimp only
  repeat' first
    | with_reducible assumption
    | exact Sub.trans rfl hkm
    | intro _
    | with_reducible apply State.sendFrame_same
    | with_reducible apply State.setNode_same
    | with_reducible apply State.setBus_same
    | with_reducible apply same_ite

theorem State.sendCmds_same (b : Nat) (no : Nat) (at_ : Nat) (v3 : List NcmdS) (v4 : State) (v5 : Nat) (v6 : List NcmdS) (hkm : Sub 8224 km) (h0 : Same km ka v4) : Same km ka (State.sendCmds b no at_ v3 v4 v5 v6).1 := by
  induction v3 generalizing v4 v5 v6 with
  | nil => exact h0
  | cons x l ih =>
    unfold State.sendCmds
    try dsimp only
    repeat' first
      | with_reducible assumption
      | exact Sub.trans rfl hkm
      | with_reducible apply ih
      | intro _
      | with_reducible apply State.sendCmd_same
      | with_reducible apply same_ite
      | with_reducible apply same_foldl
      | with_reducible apply sameR_next
      | with_reducible apply same_foldl1
      | with_reducible apply same_ite1

theorem State.beaconCmds_same (s : State) (b : Nat) (no : Nat) (at_ : Nat) (next : Nat) (l : List NcmdS) (hkm : Sub 8224 km) (h0 : Same km ka s) : Same km ka (State.beaconCmds s b no at_ next l) := by
  unfold State.beaconCmds
  try dsimp only
  repeat' first
    | with_reducible assumption
    | exact Sub.trans rfl hkm
    | intro _
    | with_reducible apply State.sendCmds_same
    | with_reducible apply State.setBus_same
    | with_reducible apply same_ite
    | with_reducible apply same_foldl
    | with_reducible apply sameR_next
    | with_reducible apply same_foldl1
    | with_reducible apply same_ite1

theorem State.beacon_same (s0 : State) (b : Nat) (c : Nat) (hkm : Sub 50085414 km) (h0 : Same km ka s0) : Same km ka (State.beacon s0 b c) := by
  unfold State.beacon
  try dsimp only
  repeat' first
    | with_reducible assumption
    | exact Sub.trans rfl hkm
    | intro _
    | with_reducible apply State.beaconPrep_same
    | with_reducible apply State.inc_same
    | with_reducible apply State.sendFrame_same
    | with_reducible apply State.openCycle_same
    | with_reducible apply State.drew_same
    | with_reducible apply State.beaconSent_same
    | with_reducible apply State.beaconCmds_same
    | with_reducible apply same_ite

theorem execBeaconTransmit_same (b : Nat) (s : State) (hkm : Sub 50085414 km) (h0 : Same km ka s) : SameR km ka (execBeaconTransmit b s) := by
  unfold execBeaconTransmit
  try dsimp only
  repeat' first
    | with_reducible assumption
    | exact Sub.trans rfl hkm
    | intro _
    | with_reducible apply State.beacon_same
    | with_reducible apply same_ite
    | with_reducible apply same_foldl
    | with_reducible apply sameR_next
    | with_reducible apply same_foldl1
    | with_reducible apply same_ite1
    | split

theorem State.joinBad_same (s : State) (b : Nat) (hkm : Sub 12595234 km) (h0 : Same km ka s) : Same km ka (State.joinBad s b) := by
  unfold State.joinBad
  try dsimp only
  repeat' first
    | with_reducible assumption
    | exact Sub.trans rfl hkm
    | intro _
    | with_reducible apply State.setBus_same
    | with_reducible apply State.joinUndo_same

theorem State.withdraw_same (b : Nat) (s : State) (p : PassS) (hkm : Sub 12857378 km) (h0 : Same km ka s) : Same km ka (State.withdraw b s p) := by
  unfold State.withdraw
  try dsimp only
  repeat' first
    | with_reducible assumption
    | exact Sub.trans rfl hkm
    | with_reducible exact Or.inr (Sub.trans rfl hkm)
    | with_reducible exact Or.inl rfl
    | intro _
    | with_reducible apply State.joinUndo_same
    | with_reducible apply State.setBus_same
    | with_reducible apply State.f_same
    | with_reducible apply State.inc_same
    | with_reducible apply State.modEnt_same
    | with_reducible apply State.setNode_same
    | with_reducible apply same_ite
    | with_reducible apply same_foldl
    | with_reducible apply sameR_next
    | with_reducible apply same_foldl1
    | with_reducible apply same_ite1
    | split
    | dsimp only
    | with_reducible apply same_psc
    | with_reducible apply same_ept
    | with_reducible apply same_rng
    | with_reducible apply same_mk

theorem State.collide_same (s : State) (b : Nat) (span : Int × Int) (hkm : Sub 12857378 km) (h0 : Same km ka s) : Same km ka (State.collide s b span) := by
  unfold State.collide
  try dsimp only
  repeat' first
    | with_reducible assumption
    | exact Sub.trans rfl hkm
    | intro _
    | with_reducible apply State.withdraw_same
    | with_reducible apply State.setBus_same
    | with_reducible apply same_ite
    | with_reducible apply same_foldl

theorem State.outside_same (s : State) (b : Nat) (a : Nat) (span : Int × Int) (bay : Bool) (hkm : Sub 12857378 km) (h0 : Same km ka s) : Same km ka (State.outside s b a span bay) := by
  unfold State.outside
  try dsimp only
  repeat' first
    | with_reducible assumption
    | exact Sub.trans rfl hkm
    | intro _
    | with_reducible apply State.collide_same
    | with_reducible apply State.inc_same
    | with_reducible apply State.strayFrame_same
    | with_reducible apply State.setNode_same
    | with_reducible apply State.f_same
    | with_reducible apply same_ite

theorem State.nstatEvent_same (s : State) (b : Nat) (a : Nat) (old : Nat) (new : Nat) (bit : Nat) (code : Nat) (hkm : Sub 12582946 km) (h0 : Same km ka s) : Same km ka (State.nstatEvent s b a old new bit code) := by
  unfold State.nstatEvent
  try dsimp only
  repeat' first
    | with_reducible assumption
    | exact Sub.trans rfl hkm
    | intro _
    | with_reducible apply State.nodeRecord_same
    | with_reducible apply same_ite

theorem State.gristBlock_same (s : State) (st : StreamS) (first : Nat) (es : Nat) (ct : Nat) (flags : Nat) (data : List Nat) (hkm : Sub 12585506 km) (h0 : Same km ka s) : Same km ka (State.gristBlock s st first es ct flags data) := by
  unfold State.gristBlock
  try dsimp only
  repeat' first
    | with_reducible assumption
    | exact Sub.trans rfl hkm
    | intro _
    | with_reducible apply State.offer_same

theorem State.passSection_same (s : State) (first : Nat) (d : List Nat) (ct : Nat) (flags : Nat) (data : List Nat) (hkm : Sub 14420514 km) (h0 : Same km ka s) : Same km ka (State.passSection s first d ct flags data).1 := by
  unfold State.passSection
  try dsimp only
  repeat' first
    | with_reducible assumption
    | exact Sub.trans rfl hkm
    | intro _
    | with_reducible apply State.gristBlock_same
    | with_reducible apply State.enqueueRaw_same
    | with_reducible apply same_ite
    | with_reducible apply same_foldl

theorem State.section_same (s : State) (b : Nat) (a : Nat) (rep : Nat) (when_ : Nat) (data : List Nat) (drift : Bool) (retry : Bool) (lat : Nat) (hkm : Sub 14432806 km) (h0 : Same km ka s) : Same km ka (State.section s b a rep when_ data drift retry lat).1 := by
  unfold State.section
  try dsimp only
  repeat' first
    | with_reducible assumption
    | exact Sub.trans rfl hkm
    | intro _
    | with_reducible apply State.nodeReply_same
    | with_reducible apply State.inc_same
    | with_reducible apply State.passSection_same
    | with_reducible apply State.incBy_same
    | with_reducible apply State.pollGot_same
    | with_reducible apply same_ite
    | with_reducible apply same_foldl
    | with_reducible apply sameR_next
    | with_reducible apply same_foldl1
    | with_reducible apply same_ite1
    | split

theorem State.acceptData_same (s : State) (b : Nat) (a : Nat) (bs : List Nat) (arr : Int) (dev : Int) (retry : Bool) (hkm : Sub 14432806 km) (h0 : Same km ka s) : Same km ka (State.acceptData s b a bs arr dev retry) := by
  unfold State.acceptData
  try dsimp only
  repeat' first
    | with_reducible assumption
    | exact Sub.trans rfl hkm
    | intro _
    | with_reducible apply State.setNode_same
    | with_reducible apply State.f_same
    | with_reducible apply State.inc_same
    | with_reducible apply State.nstatEvent_same
    | with_reducible apply State.setBus_same
    | with_reducible apply State.section_same
    | with_reducible apply State.loseNode_same
    | with_reducible apply same_ite
    | with_reducible apply same_foldl
    | with_reducible apply sameR_next
    | with_reducible apply same_foldl1

theorem State.dataFrame_same (s : State) (b : Nat) (arr : Int) (bs : List Nat) (hkm : Sub 14432806 km) (h0 : Same km ka s) : Same km ka (State.dataFrame s b arr bs) := by
  unfold State.dataFrame
  try dsimp only
  repeat' first
    | with_reducible assumption
    | exact Sub.trans rfl hkm
    | intro _
    | with_reducible apply State.collide_same
    | with_reducible apply State.strayFrame_same
    | with_reducible apply State.inc_same
    | with_reducible apply State.f_same
    | with_reducible apply State.setBus_same
    | with_reducible apply State.setNode_same
    | with_reducible apply State.outside_same
    | with_reducible apply State.acceptData_same
    | with_reducible apply same_ite

theorem State.joinFrame_same (s : State) (b : Nat) (arr : Int) (bs : List Nat) (hkm : Sub 12595238 km) (h0 : Same km ka s) : Same km ka (State.joinFrame s b arr bs) := by
  unfold State.joinFrame
  try dsimp only
  repeat' first
    | with_reducible assumption
    | exact Sub.trans rfl hkm
    | intro _
    | with_reducible apply State.inc_same
    | with_reducible apply State.joinBad_same
    | with_reducible apply State.setBus_same
    | with_reducible apply State.joinCheck_same
    | with_reducible apply same_ite

theorem State.unknownFrame_same (s : State) (b : Nat) (arr : Int) (bs : List Nat) (hkm : Sub 12857378 km) (h0 : Same km ka s) : Same km ka (State.unknownFrame s b arr bs) := by
  unfold State.unknownFrame
  try dsimp only
  repeat' first
    | with_reducible assumption
    | exact Sub.trans rfl hkm
    | intro _
    | with_reducible apply State.inc_same
    | with_reducible apply State.setNode_same
    | with_reducible apply State.collide_same
    | with_reducible apply same_ite
    | with_reducible apply same_foldl
    | with_reducible apply sameR_next
    | with_reducible apply same_foldl1
    | with_reducible apply same_ite1
    | split

theorem State.uplink_same (s : State) (b : Nat) (arr : Int) (bs : List Nat) (line : Bool) (hkm : Sub 14432806 km) (h0 : Same km ka s) : Same km ka (State.uplink s b arr bs line) := by
  unfold State.uplink
  try dsimp only
  repeat' first
    | with_reducible assumption
    | exact Sub.trans rfl hkm
    | intro _
    | with_reducible apply State.inc_same
    | with_reducible apply State.joinBad_same
    | with_reducible apply State.dataFrame_same
    | with_reducible apply State.joinFrame_same
    | with_reducible apply State.unknownFrame_same
    | with_reducible apply same_ite
    | with_reducible apply same_foldl
    | with_reducible apply sameR_next
    | with_reducible apply same_foldl1
    | with_reducible apply same_ite1
    | split

theorem State.uplinkLine_same (s : State) (b : Nat) (arr : Int) (gs : List Nat) (hkm : Sub 14432806 km) (h0 : Same km ka s) : Same km ka (State.uplinkLine s b arr gs) := by
  unfold State.uplinkLine
  try dsimp only
  repeat' first
    | with_reducible assumption
    | exact Sub.trans rfl hkm
    | intro _
    | with_reducible apply State.uplink_same
    | with_reducible apply same_ite
    | with_reducible apply same_foldl
    | with_reducible apply sameR_next
    | with_reducible apply same_foldl1
    | with_reducible apply same_ite1
    | split

theorem execDataFrameReceived_same (b : Nat) (arr : Int) (gs : List Nat) (s : State) (hkm : Sub 14432806 km) (h0 : Same km ka s) : SameR km ka (execDataFrameReceived b arr gs s) := by
  unfold execDataFrameReceived
  try dsimp only
  repeat' first
    | with_reducible assumption
    | exact Sub.trans rfl hkm
    | intro _
    | with_reducible apply State.uplinkLine_same
    | with_reducible apply same_ite
    | with_reducible apply same_foldl
    | with_reducible apply sameR_next

theorem execUnknownFrame_same (b : Nat) (arr : Int) (gs : List Nat) (s : State) (hkm : Sub 14432806 km) (h0 : Same km ka s) : SameR km ka (execUnknownFrame b arr gs s) := by
  unfold execUnknownFrame
  try dsimp only
  repeat' first
    | with_reducible assumption
    | exact Sub.trans rfl hkm
    | intro _
    | with_reducible apply State.uplinkLine_same
    | with_reducible apply same_ite
    | with_reducible apply same_foldl
    | with_reducible apply sameR_next

theorem execJoinFrameReceived_same (b : Nat) (arr : Int) (gs : List Nat) (s : State) (hkm : Sub 14432806 km) (h0 : Same km ka s) : SameR km ka (execJoinFrameReceived b arr gs s) := by
  unfold execJoinFrameReceived
  try dsimp only
  repeat' first
    | with_reducible assumption
    | exact Sub.trans rfl hkm
    | intro _
    | with_reducible apply State.uplinkLine_same
    | with_reducible apply same_ite
    | with_reducible apply same_foldl
    | with_reducible apply sameR_next

theorem State.immReply_same (s : State) (b : Nat) (r : Int) (bs : List Nat) (line : Bool) (hkm : Sub 12595238 km) (h0 : Same km ka s) : Same km ka (State.immReply s b r bs line) := by
  unfold State.immReply
  try dsimp only
  repeat' first
    | with_reducible assumption
    | exact Sub.trans rfl hkm
    | intro _
    | with_reducible apply State.inc_same
    | with_reducible apply State.nstatEvent_same
    | with_reducible apply State.f_same
    | with_reducible apply State.nodeReply_same
    | with_reducible apply same_ite
    | with_reducible apply same_foldl
    | with_reducible apply sameR_next
    | with_reducible apply same_foldl1
    | with_reducible apply same_ite1
    | split

theorem execImmediateReplyReceived_same (b : Nat) (r : Int) (gs : List Nat) (s : State) (hkm : Sub 12595238 km) (h0 : Same km ka s) : SameR km ka (execImmediateReplyReceived b r gs s) := by
  unfold execImmediateReplyReceived
  try dsimp only
  repeat' first
    | with_reducible assumption
    | exact Sub.trans rfl hkm
    | intro _
    | with_reducible apply State.immReply_same
    | with_reducible apply same_ite
    | with_reducible apply same_foldl
    | with_reducible apply sameR_next
    | with_reducible apply same_foldl1
    | with_reducible apply same_ite1
    | split

theorem execLinefault_same (b : Nat) (s : State) (hkm : Sub 546 km) (h0 : Same km ka s) : SameR km ka (execLinefault b s) := by
  unfold execLinefault
  try dsimp only
  repeat' first
    | with_reducible assumption
    | exact Sub.trans rfl hkm
    | intro _
    | with_reducible apply State.raiseHub_same
    | with_reducible apply State.f_same
    | with_reducible apply same_ite
    | with_reducible apply same_foldl
    | with_reducible apply sameR_next

theorem execProbationEnd_same (b : Nat) (a : Nat) (s : State) (hkm : Sub 8194 km) (h0 : Same km ka s) : SameR km ka (execProbationEnd b a s) := by
  unfold execProbationEnd
  try dsimp only
  repeat' first
    | with_reducible assumption
    | exact Sub.trans rfl hkm
    | intro _
    | with_reducible apply State.probEnd_same
    | with_reducible apply same_ite
    | with_reducible apply same_foldl
    | with_reducible apply sameR_next

theorem execNodeDeadmitSilence_same (b : Nat) (a : Nat) (s : State) (hkm : Sub 12595234 km) (h0 : Same km ka s) : SameR km ka (execNodeDeadmitSilence b a s) := by
  unfold execNodeDeadmitSilence
  try dsimp only
  repeat' first
    | with_reducible assumption
    | exact Sub.trans rfl hkm
    | intro _
    | with_reducible apply State.deadmit_same
    | with_reducible apply State.inc_same
    | with_reducible apply same_ite
    | with_reducible apply same_foldl
    | with_reducible apply sameR_next

theorem execAdmissionStep_same (b : Nat) (s : State) (hkm : Sub 12595238 km) (h0 : Same km ka s) : SameR km ka (execAdmissionStep b s) := by
  unfold execAdmissionStep
  try dsimp only
  repeat' first
    | with_reducible assumption
    | exact Sub.trans rfl hkm
    | intro _
    | with_reducible apply State.admGo_same
    | with_reducible apply same_ite
    | with_reducible apply same_foldl
    | with_reducible apply sameR_next
    | with_reducible apply same_foldl1
    | with_reducible apply same_ite1
    | split

theorem execLayoutChange_same (b : Nat) (s : State) (hkm : Sub 8192 km) (h0 : Same km ka s) : SameR km ka (execLayoutChange b s) := by
  unfold execLayoutChange
  try dsimp only
  repeat' first
    | with_reducible assumption
    | exact Sub.trans rfl hkm
    | intro _
    | with_reducible apply State.startLayout_same
    | with_reducible apply same_ite
    | with_reducible apply same_foldl
    | with_reducible apply sameR_next

theorem execLayoutEffective_same (b : Nat) (s : State) (hkm : Sub 50084390 km) (h0 : Same km ka s) : SameR km ka (execLayoutEffective b s) := by
  unfold execLayoutEffective
  try dsimp only
  repeat' first
    | with_reducible assumption
    | exact Sub.trans rfl hkm
    | intro _
    | with_reducible apply State.nofitScan_same
    | with_reducible apply State.layEffective_same
    | with_reducible apply State.closeCycle_same
    | with_reducible apply same_ite
    | with_reducible apply same_foldl
    | with_reducible apply sameR_next
    | with_reducible apply same_foldl1
    | with_reducible apply same_ite1
    | split

theorem execNodeDrop_same (b : Nat) (a : Nat) (s : State) (hkm : Sub 12597794 km) (h0 : Same km ka s) : SameR km ka (execNodeDrop b a s) := by
  unfold execNodeDrop
  try dsimp only
  repeat' first
    | with_reducible assumption
    | exact Sub.trans rfl hkm
    | intro _
    | with_reducible apply State.barWrite_same
    | with_reducible apply State.busDropWrite_same
    | with_reducible apply same_ite
    | with_reducible apply same_foldl
    | with_reducible apply sameR_next

theorem execBusCounterClr_same (b : Nat) (v : Word) (s : State) (hkm : Sub 2594 km) (h0 : Same km ka s) : SameR km ka (execBusCounterClr b v s) := by
  unfold execBusCounterClr
  try dsimp only
  repeat' first
    | with_reducible assumption
    | exact Sub.trans rfl hkm
    | intro _
    | with_reducible apply State.barWrite_same
    | with_reducible apply State.busClrWrite_same
    | with_reducible apply same_ite
    | with_reducible apply same_foldl
    | with_reducible apply sameR_next

theorem execAdmissionCounterClr_same (b : Nat) (v : Word) (s : State) (hkm : Sub 2594 km) (h0 : Same km ka s) : SameR km ka (execAdmissionCounterClr b v s) := by
  unfold execAdmissionCounterClr
  try dsimp only
  repeat' first
    | with_reducible assumption
    | exact Sub.trans rfl hkm
    | intro _
    | with_reducible apply State.barWrite_same
    | with_reducible apply State.clrWrite_same
    | with_reducible apply same_ite
    | with_reducible apply same_foldl
    | with_reducible apply sameR_next

theorem execSlotEnd_same (b : Nat) (a : Nat) (sub : Bool) (s : State) (hkm : Sub 14432802 km) (h0 : Same km ka s) : SameR km ka (execSlotEnd b a sub s) := by
  unfold execSlotEnd
  try dsimp only
  repeat' first
    | with_reducible assumption
    | exact Sub.trans rfl hkm
    | intro _
    | with_reducible apply State.subEnd_same
    | with_reducible apply State.slotEnd_same
    | with_reducible apply same_ite
    | with_reducible apply same_foldl
    | with_reducible apply sameR_next
    | with_reducible apply same_foldl1
    | with_reducible apply same_ite1
    | split

theorem State.grant_same (s : State) (b : Nat) (hkm : Sub 14432802 km) (h0 : Same km ka s) : Same km ka (State.grant s b) := by
  unfold State.grant
  try dsimp only
  repeat' first
    | with_reducible assumption
    | exact Sub.trans rfl hkm
    | intro _
    | with_reducible apply State.slotEnd_same
    | with_reducible apply State.setBus_same
    | with_reducible apply State.setNode_same
    | with_reducible apply State.loseNode_same
    | with_reducible apply State.inc_same
    | with_reducible apply State.sendFrame_same
    | with_reducible apply same_ite
    | with_reducible apply same_foldl

theorem execGrant_same (b : Nat) (s : State) (hkm : Sub 14432802 km) (h0 : Same km ka s) : SameR km ka (execGrant b s) := by
  unfold execGrant
  try dsimp only
  repeat' first
    | with_reducible assumption
    | exact Sub.trans rfl hkm
    | intro _
    | with_reducible apply State.grant_same
    | with_reducible apply same_ite
    | with_reducible apply same_foldl
    | with_reducible apply sameR_next

theorem State.nodeCmdJob_same (s : State) (j : JobS) (hkm : Sub 12591138 km) (h0 : Same km ka s) : Same km ka (State.nodeCmdJob s j) := by
  unfold State.nodeCmdJob
  try dsimp only
  repeat' first
    | with_reducible assumption
    | exact Sub.trans rfl hkm
    | intro _
    | with_reducible apply State.finishWith_same
    | with_reducible apply State.nodeCmd_same
    | with_reducible apply same_ite
    | with_reducible apply same_foldl
    | with_reducible apply sameR_next
    | with_reducible apply same_foldl1
    | with_reducible apply same_ite1
    | split

theorem execNodeCmd_same (s : State) (hkm : Sub 12591138 km) (h0 : Same km ka s) : SameR km ka (execNodeCmd s) := by
  unfold execNodeCmd
  try dsimp only
  repeat' first
    | with_reducible assumption
    | exact Sub.trans rfl hkm
    | intro _
    | with_reducible apply State.runJob_same
    | with_reducible apply State.nodeCmdJob_same
    | with_reducible apply same_ite
    | with_reducible apply same_foldl
    | with_reducible apply sameR_next

end Sys2Proof.Machine
end

