-- ==== Sys2Proof/Laws/SameCan.lean ====
section
/-! SUPPORT. What the operations of Machine/Can.lean keep (Laws/Same.lean). -/
set_option Elab.async false
namespace Sys2Proof.Machine

variable {km : Nat} {ka : State}

theorem State.canPins_same (s : State) (hkm : Sub 2 km) (h0 : Same km ka s) : Same km ka (State.canPins s) := by
  unfold State.canPins
  try dsimp only
  repeat' first
    | with_reducible assumption
    | exact Sub.trans rfl hkm
    | intro _
    | with_reducible apply State.f_same
    | with_reducible apply same_ite
    | with_reducible apply same_foldl

theorem State.setCan_same (s : State) (x : Nat) (p : CanPS) (hkm : Sub 65536 km) (h0 : Same km ka s) : Same km ka (State.setCan s x p) := by
  unfold State.setCan
  try dsimp only
  repeat' first
    | with_reducible assumption
    | exact Sub.trans rfl hkm
    | intro _
    | with_reducible apply same_ite
    | with_reducible apply same_foldl
    | with_reducible apply sameR_next
    | with_reducible apply same_foldl1
    | with_reducible apply same_ite1
    | split
    | dsimp only
    | with_reducible apply same_cans

theorem State.canEnd_same (s : State) (x : Nat) (t : CanTxS) (st : Nat) (result : List Nat) (hkm : Sub 12648482 km) (h0 : Same km ka s) : Same km ka (State.canEnd s x t st result) := by
  unfold State.canEnd
  try dsimp only
  repeat' first
    | with_reducible assumption
    | exact Sub.trans rfl hkm
    | intro _
    | with_reducible apply State.setCan_same
    | with_reducible apply State.f_same
    | with_reducible apply State.inc_same
    | with_reducible apply State.finishId_same
    | with_reducible apply same_ite

theorem State.canGap_same (s : State) (x : Nat) (hkm : Sub 13634082 km) (h0 : Same km ka s) : Same km ka (State.canGap s x) := by
  unfold State.canGap
  try dsimp only
  repeat' first
    | with_reducible assumption
    | exact Sub.trans rfl hkm
    | intro _
    | with_reducible apply State.interruptAll_same

theorem State.canStop_same (s : State) (hkm : Sub 13699618 km) (h0 : Same km ka s) : Same km ka (State.canStop s) := by
  unfold State.canStop
  try dsimp only
  repeat' first
    | with_reducible assumption
    | exact Sub.trans rfl hkm
    | intro _
    | with_reducible apply State.canPins_same
    | with_reducible apply State.canEnd_same
    | with_reducible apply State.setCan_same
    | with_reducible apply State.canGap_same
    | with_reducible apply same_ite
    | with_reducible apply same_foldl

theorem State.canCfgWrite_same (s : State) (x : Nat) (v : Word) (hkm : Sub 13634082 km) (h0 : Same km ka s) : Same km ka (State.canCfgWrite s x v) := by
  unfold State.canCfgWrite
  try dsimp only
  repeat' first
    | with_reducible assumption
    | exact Sub.trans rfl hkm
    | intro _
    | with_reducible apply State.canGap_same
    | with_reducible apply State.canPins_same
    | with_reducible apply State.store_same
    | with_reducible apply same_ite

theorem State.canRecover_same (s : State) (x : Nat) (v : Word) (hkm : Sub 2 km) (h0 : Same km ka s) : Same km ka (State.canRecover s x v) := by
  unfold State.canRecover
  try dsimp only
  repeat' first
    | with_reducible assumption
    | exact Sub.trans rfl hkm
    | intro _
    | with_reducible apply State.f_same
    | with_reducible apply same_ite

theorem State.canHead_same (s : State) (x : Nat) (hkm : Sub 2 km) (h0 : Same km ka s) : Same km ka (State.canHead s x) := by
  unfold State.canHead
  try dsimp only
  repeat' first
    | with_reducible assumption
    | exact Sub.trans rfl hkm
    | intro _
    | with_reducible apply State.wr_same
    | with_reducible apply same_ite
    | with_reducible apply same_foldl

theorem State.canFifoPop_same (s : State) (x : Nat) (v : Word) (hkm : Sub 65538 km) (h0 : Same km ka s) : Same km ka (State.canFifoPop s x v) := by
  unfold State.canFifoPop
  try dsimp only
  repeat' first
    | with_reducible assumption
    | exact Sub.trans rfl hkm
    | intro _
    | with_reducible apply State.canHead_same
    | with_reducible apply State.setCan_same
    | with_reducible apply same_ite

theorem State.canErr_same (s : State) (x : Nat) (tec : Nat) (rec_ : Nat) (hkm : Sub 65538 km) (h0 : Same km ka s) : Same km ka (State.canErr s x tec rec_) := by
  unfold State.canErr
  try dsimp only
  repeat' first
    | with_reducible assumption
    | exact Sub.trans rfl hkm
    | intro _
    | with_reducible apply State.setCan_same
    | with_reducible apply State.f_same
    | with_reducible apply same_ite

theorem State.canRecErr_same (s : State) (x : Nat) (n : Nat) (hkm : Sub 65538 km) (h0 : Same km ka s) : Same km ka (State.canRecErr s x n) := by
  unfold State.canRecErr
  try dsimp only
  repeat' first
    | with_reducible assumption
    | exact Sub.trans rfl hkm
    | intro _
    | with_reducible apply State.canErr_same

theorem State.canDominant_same (s : State) (x : Nat) (n : Nat) (hkm : Sub 32 km) (h0 : Same km ka s) : Same km ka (State.canDominant s x n) := by
  unfold State.canDominant
  try dsimp only
  repeat' first
    | with_reducible assumption
    | exact Sub.trans rfl hkm
    | intro _
    | with_reducible apply same_ite
    | with_reducible apply same_foldl
    | with_reducible apply sameR_next
    | with_reducible apply same_foldl1
    | with_reducible apply same_ite1
    | split
    | dsimp only
    | with_reducible apply same_out

theorem State.canRecOk_same (s : State) (x : Nat) (hkm : Sub 65542 km) (h0 : Same km ka s) : Same km ka (State.canRecOk s x) := by
  unfold State.canRecOk
  try dsimp only
  repeat' first
    | with_reducible assumption
    | exact Sub.trans rfl hkm
    | intro _
    | with_reducible apply State.drew_same
    | with_reducible apply State.canErr_same
    | with_reducible apply same_ite

theorem State.canDeliver_same (x : Nat) (ct : Nat) (data : List Nat) (s : State) (c : List Nat) (hkm : Sub 14420514 km) (h0 : Same km ka s) : Same km ka (State.canDeliver x ct data s c) := by
  unfold State.canDeliver
  try dsimp only
  repeat' first
    | with_reducible assumption
    | exact Sub.trans rfl hkm
    | intro _
    | with_reducible apply State.inc_same
    | with_reducible apply State.enqueueRaw_same
    | with_reducible apply same_ite

theorem State.canFifo_same (s : State) (x : Nat) (b : List Nat) (ct : Nat) (hkm : Sub 65538 km) (h0 : Same km ka s) : Same km ka (State.canFifo s x b ct) := by
  unfold State.canFifo
  try dsimp only
  repeat' first
    | with_reducible assumption
    | exact Sub.trans rfl hkm
    | intro _
    | with_reducible apply State.inc_same
    | with_reducible apply State.canHead_same
    | with_reducible apply State.setCan_same
    | with_reducible apply same_ite

theorem State.canDispatch_same (s : State) (x : Nat) (w : Nat) (data : List Nat) (ct : Nat) (hkm : Sub 14486050 km) (h0 : Same km ka s) : Same km ka (State.canDispatch s x w data ct) := by
  unfold State.canDispatch
  try dsimp only
  repeat' first
    | with_reducible assumption
    | exact Sub.trans rfl hkm
    | intro _
    | with_reducible apply State.canDeliver_same
    | with_reducible apply State.incBy_same
    | with_reducible apply State.enqueueRaw_same
    | with_reducible apply State.canFifo_same
    | with_reducible apply same_ite
    | with_reducible apply same_foldl
    | with_reducible apply sameR_next
    | with_reducible apply same_foldl1
    | with_reducible apply same_ite1
    | split

theorem execCanFrameReceived_same (x : Nat) (w : Word) (data : List Nat) (lat : Nat) (s : State) (hkm : Sub 14487078 km) (h0 : Same km ka s) : SameR km ka (execCanFrameReceived x w data lat s) := by
  unfold execCanFrameReceived
  try dsimp only
  repeat' first
    | with_reducible assumption
    | exact Sub.trans rfl hkm
    | intro _
    | with_reducible apply State.canRecErr_same
    | with_reducible apply State.canDominant_same
    | with_reducible apply State.canRecOk_same
    | with_reducible apply State.inc_same
    | with_reducible apply State.canDispatch_same
    | with_reducible apply State.event_same
    | with_reducible apply same_ite
    | with_reducible apply same_foldl
    | with_reducible apply sameR_next

theorem State.canOut_same (s : State) (x : Nat) (t : CanTxS) (hkm : Sub 32 km) (h0 : Same km ka s) : Same km ka (State.canOut s x t) := by
  unfold State.canOut
  try dsimp only
  repeat' first
    | with_reducible assumption
    | exact Sub.trans rfl hkm
    | intro _
    | with_reducible apply same_ite
    | with_reducible apply same_foldl
    | with_reducible apply sameR_next
    | with_reducible apply same_foldl1
    | with_reducible apply same_ite1
    | split
    | dsimp only
    | with_reducible apply same_out

theorem execCanTxDone_same (x : Nat) (error : Bool) (exempt : Bool) (lat : Nat) (s : State) (hkm : Sub 12648482 km) (h0 : Same km ka s) : SameR km ka (execCanTxDone x error exempt lat s) := by
  unfold execCanTxDone
  try dsimp only
  repeat' first
    | with_reducible assumption
    | exact Sub.trans rfl hkm
    | intro _
    | with_reducible apply State.canErr_same
    | with_reducible apply State.canEnd_same
    | with_reducible apply State.setCan_same
    | with_reducible apply State.canOut_same
    | with_reducible apply same_ite
    | with_reducible apply same_foldl
    | with_reducible apply sameR_next
    | with_reducible apply same_foldl1
    | with_reducible apply same_ite1
    | split

theorem execCanTxTimeout_same (x : Nat) (y : Nat) (s : State) (hkm : Sub 12648482 km) (h0 : Same km ka s) : SameR km ka (execCanTxTimeout x y s) := by
  unfold execCanTxTimeout
  try dsimp only
  repeat' first
    | with_reducible assumption
    | exact Sub.trans rfl hkm
    | intro _
    | with_reducible apply State.canEnd_same
    | with_reducible apply same_ite
    | with_reducible apply same_foldl
    | with_reducible apply sameR_next
    | with_reducible apply same_foldl1
    | with_reducible apply same_ite1
    | split

theorem execCanBusOff_same (x : Nat) (s : State) (hkm : Sub 13699618 km) (h0 : Same km ka s) : SameR km ka (execCanBusOff x s) := by
  unfold execCanBusOff
  try dsimp only
  repeat' first
    | with_reducible assumption
    | exact Sub.trans rfl hkm
    | intro _
    | with_reducible apply State.f_same
    | with_reducible apply State.canEnd_same
    | with_reducible apply State.raiseHub_same
    | with_reducible apply State.canGap_same
    | with_reducible apply same_ite
    | with_reducible apply same_foldl
    | with_reducible apply sameR_next

theorem execCanRecovered_same (x : Nat) (s : State) (hkm : Sub 65538 km) (h0 : Same km ka s) : SameR km ka (execCanRecovered x s) := by
  unfold execCanRecovered
  try dsimp only
  repeat' first
    | with_reducible assumption
    | exact Sub.trans rfl hkm
    | intro _
    | with_reducible apply State.canErr_same
    | with_reducible apply State.f_same
    | with_reducible apply same_ite
    | with_reducible apply same_foldl
    | with_reducible apply sameR_next

theorem execCanRecover_same (x : Nat) (v : Word) (s : State) (hkm : Sub 2594 km) (h0 : Same km ka s) : SameR km ka (execCanRecover x v s) := by
  unfold execCanRecover
  try dsimp only
  repeat' first
    | with_reducible assumption
    | exact Sub.trans rfl hkm
    | intro _
    | with_reducible apply State.barWrite_same
    | with_reducible apply State.canRecover_same
    | with_reducible apply same_ite
    | with_reducible apply same_foldl
    | with_reducible apply sameR_next

theorem execCanFifoPop_same (x : Nat) (v : Word) (s : State) (hkm : Sub 68130 km) (h0 : Same km ka s) : SameR km ka (execCanFifoPop x v s) := by
  unfold execCanFifoPop
  try dsimp only
  repeat' first
    | with_reducible assumption
    | exact Sub.trans rfl hkm
    | intro _
    | with_reducible apply State.barWrite_same
    | with_reducible apply State.canFifoPop_same
    | with_reducible apply same_ite
    | with_reducible apply same_foldl
    | with_reducible apply sameR_next

theorem execCanWake_same (x : Nat) (s : State) (hkm : Sub 3618 km) (h0 : Same km ka s) : SameR km ka (execCanWake x s) := by
  unfold execCanWake
  try dsimp only
  repeat' first
    | with_reducible assumption
    | exact Sub.trans rfl hkm
    | intro _
    | with_reducible apply State.wakeReq_same
    | with_reducible apply State.event_same
    | with_reducible apply same_ite
    | with_reducible apply same_foldl
    | with_reducible apply sameR_next

theorem execCanCounterClr_same (x : Nat) (v : Word) (s : State) (hkm : Sub 2594 km) (h0 : Same km ka s) : SameR km ka (execCanCounterClr x v s) := by
  unfold execCanCounterClr
  try dsimp only
  repeat' first
    | with_reducible assumption
    | exact Sub.trans rfl hkm
    | intro _
    | with_reducible apply State.barWrite_same
    | with_reducible apply State.clrWrite_same
    | with_reducible apply same_ite
    | with_reducible apply same_foldl
    | with_reducible apply sameR_next

theorem State.canFlr_same (s : State) (hkm : Sub 65538 km) (home : Nat → Bool) (h0 : Same km ka s) : Same km ka (State.canFlr s home) := by
  unfold State.canFlr
  try dsimp only
  repeat' first
    | with_reducible assumption
    | exact Sub.trans rfl hkm
    | intro _
    | with_reducible apply State.f_same
    | with_reducible apply State.setCan_same
    | with_reducible apply same_ite
    | with_reducible apply same_foldl

theorem execCanBusError_same (x : Nat) (eight : Bool) (s : State) (hkm : Sub 65538 km) (h0 : Same km ka s) : SameR km ka (execCanBusError x eight s) := by
  unfold execCanBusError
  try dsimp only
  repeat' first
    | with_reducible assumption
    | exact Sub.trans rfl hkm
    | intro _
    | with_reducible apply State.canRecErr_same
    | with_reducible apply same_ite
    | with_reducible apply same_foldl
    | with_reducible apply sameR_next

theorem execCanSend_same (s : State) (hkm : Sub 12648482 km) (h0 : Same km ka s) : SameR km ka (execCanSend s) := by
  unfold execCanSend
  try dsimp only
  repeat' first
    | with_reducible assumption
    | exact Sub.trans rfl hkm
    | intro _
    | with_reducible apply State.runJob_same
    | with_reducible apply State.finishWith_same
    | with_reducible apply State.f_same
    | with_reducible apply State.setCan_same
    | with_reducible apply same_ite
    | with_reducible apply same_foldl
    | with_reducible apply sameR_next

theorem State.canReset_same (s : State) (hkm : Sub 13699618 km) (h0 : Same km ka s) : Same km ka (State.canReset s) := by
  unfold State.canReset
  try dsimp only
  repeat' first
    | with_reducible assumption
    | exact Sub.trans rfl hkm
    | intro _
    | with_reducible apply State.canGap_same
    | with_reducible apply State.resetRegs_same
    | with_reducible apply same_ite
    | with_reducible apply same_foldl
    | with_reducible apply sameR_next
    | with_reducible apply same_foldl1
    | with_reducible apply same_ite1
    | split
    | dsimp only
    | with_reducible apply same_cans

end Sys2Proof.Machine
end

