-- ==== Sys2Proof/Laws/SameMem.lean ====
section
/-! SUPPORT. What the operations of Machine/Mem.lean keep (Laws/Same.lean). -/
set_option Elab.async false
namespace Sys2Proof.Machine

variable {km : Nat} {ka : State}

theorem State.flashOut_same (s : State) (t : FlashTx) (hkm : Sub 32 km) (h0 : Same km ka s) : Same km ka (State.flashOut s t) := by
  unfold State.flashOut
  try dsimp only
  repeat' first
    | with_reducible assumption
    | exact Sub.trans rfl hkm
    | intro _
    | with_reducible apply same_ite
    | with_reducible apply same_foldl
    | with_reducible apply sameR_next
    | with_reducible apply same_foldl1
    | with_reducible apply same_ite1
    | split
    | dsimp only
    | with_reducible apply same_out

theorem State.modeRead_same (s : State) (a : Nat) (mode : Nat) (n : Nat) (hkm : Sub 32 km) (h0 : Same km ka s) : Same km ka (State.modeRead s a mode n) := by
  unfold State.modeRead
  try dsimp only
  repeat' first
    | with_reducible assumption
    | exact Sub.trans rfl hkm
    | intro _
    | with_reducible apply State.flashOut_same

theorem State.xipExit_same (s : State) (hkm : Sub 38 km) (h0 : Same km ka s) : Same km ka (State.xipExit s) := by
  unfold State.xipExit
  try dsimp only
  repeat' first
    | with_reducible assumption
    | exact Sub.trans rfl hkm
    | intro _
    | with_reducible apply State.f_same
    | with_reducible apply State.drew_same
    | with_reducible apply State.modeRead_same
    | with_reducible apply same_ite

theorem State.flashRead_same (s : State) (a : Nat) (n : Nat) (hkm : Sub 38 km) (h0 : Same km ka s) : Same km ka (State.flashRead s a n) := by
  unfold State.flashRead
  try dsimp only
  repeat' first
    | with_reducible assumption
    | exact Sub.trans rfl hkm
    | intro _
    | with_reducible apply State.f_same
    | with_reducible apply State.modeRead_same
    | with_reducible apply State.xipExit_same
    | with_reducible apply State.flashOut_same
    | with_reducible apply same_ite

theorem State.putLine_same (s : State) (a : Nat) (b : List Nat) (hkm : Sub 131110 km) (h0 : Same km ka s) : Same km ka (State.putLine s a b) := by
  unfold State.putLine
  try dsimp only
  repeat' first
    | with_reducible assumption
    | exact Sub.trans rfl hkm
    | intro _
    | with_reducible apply State.flashRead_same
    | with_reducible apply same_ite
    | with_reducible apply same_foldl
    | with_reducible apply sameR_next
    | with_reducible apply same_foldl1
    | with_reducible apply same_ite1
    | split
    | dsimp only
    | with_reducible apply same_mem

theorem State.serveRead_same (s : State) (a : Nat) (b : List Nat) (b2 : List Nat) (more : Bool) (hkm : Sub 131118 km) (h0 : Same km ka s) : Same km ka (State.serveRead s a b b2 more) := by
  unfold State.serveRead
  try dsimp only
  repeat' first
    | with_reducible assumption
    | exact Sub.trans rfl hkm
    | with_reducible exact Or.inr (Sub.trans rfl hkm)
    | with_reducible exact Or.inl rfl
    | intro _
    | with_reducible apply State.putLine_same
    | with_reducible apply same_ite
    | with_reducible apply same_foldl
    | with_reducible apply sameR_next
    | with_reducible apply same_foldl1
    | with_reducible apply same_ite1
    | split
    | dsimp only
    | with_reducible apply same_rdata
    | with_reducible apply same_mem
    | with_reducible apply same_mk

theorem State.memCfgWrite_same (s : State) (v : Word) (hkm : Sub 550 km) (h0 : Same km ka s) : Same km ka (State.memCfgWrite s v) := by
  unfold State.memCfgWrite
  try dsimp only
  repeat' first
    | with_reducible assumption
    | exact Sub.trans rfl hkm
    | intro _
    | with_reducible apply State.discard_same
    | with_reducible apply State.xipExit_same
    | with_reducible apply State.store_same
    | with_reducible apply same_ite

theorem State.dropLines_same (s : State) (a : Nat) (n : Nat) (hkm : Sub 131072 km) (h0 : Same km ka s) : Same km ka (State.dropLines s a n) := by
  unfold State.dropLines
  try dsimp only
  repeat' first
    | with_reducible assumption
    | exact Sub.trans rfl hkm
    | intro _
    | with_reducible apply same_ite
    | with_reducible apply same_foldl
    | with_reducible apply sameR_next
    | with_reducible apply same_foldl1
    | with_reducible apply same_ite1
    | split
    | dsimp only
    | with_reducible apply same_mem

theorem State.sendProg_same (s : State) (p : PageS) (hkm : Sub 131110 km) (h0 : Same km ka s) : Same km ka (State.sendProg s p) := by
  unfold State.sendProg
  try dsimp only
  repeat' first
    | with_reducible assumption
    | exact Sub.trans rfl hkm
    | intro _
    | with_reducible apply State.flashOut_same
    | with_reducible apply State.xipExit_same
    | with_reducible apply State.dropLines_same

theorem State.setMem_same (s : State) (m : MemS) (hkm : Sub 131074 km) (h0 : Same km ka s) : Same km ka (State.setMem s m) := by
  unfold State.setMem
  try dsimp only
  repeat' first
    | with_reducible assumption
    | exact Sub.trans rfl hkm
    | intro _
    | with_reducible apply State.f_same
    | with_reducible apply same_ite
    | with_reducible apply same_foldl
    | with_reducible apply sameR_next
    | with_reducible apply same_foldl1
    | with_reducible apply same_ite1
    | split
    | dsimp only
    | with_reducible apply same_mem

theorem State.pollFrom_same (s : State) (op : MemOp) (retried : Bool) (hkm : Sub 131074 km) (h0 : Same km ka s) : Same km ka (State.pollFrom s op retried) := by
  unfold State.pollFrom
  try dsimp only
  repeat' first
    | with_reducible assumption
    | exact Sub.trans rfl hkm
    | intro _
    | with_reducible apply State.setMem_same

theorem State.sendRaw_same (s : State) (v : Word) (addr : Nat) (data : Nat) (rx : Nat) (hkm : Sub 131110 km) (h0 : Same km ka s) : Same km ka (State.sendRaw s v addr data rx) := by
  unfold State.sendRaw
  try dsimp only
  repeat' first
    | with_reducible assumption
    | exact Sub.trans rfl hkm
    | intro _
    | with_reducible apply State.xipExit_same
    | with_reducible apply State.flashOut_same
    | with_reducible apply State.f_same
    | with_reducible apply State.dropLines_same
    | with_reducible apply same_ite
    | with_reducible apply same_foldl
    | with_reducible apply sameR_next
    | with_reducible apply same_foldl1
    | with_reducible apply same_ite1
    | split
    | dsimp only
    | with_reducible apply same_mem

theorem State.memNext_same (v0 : Nat) (v1 : State) (hkm : Sub 131110 km) (h0 : Same km ka v1) : Same km ka (State.memNext v0 v1) := by
  induction v0 generalizing v1 with
  | zero => exact h0
  | succ n ih =>
    unfold State.memNext
    try dsimp only
    repeat' first
      | with_reducible assumption
      | exact Sub.trans rfl hkm
      | with_reducible apply ih
      | intro _
      | with_reducible apply State.setMem_same
      | with_reducible apply State.pollFrom_same
      | with_reducible apply State.sendProg_same
      | with_reducible apply State.sendRaw_same
      | with_reducible apply same_ite
      | with_reducible apply same_foldl
      | with_reducible apply sameR_next
      | with_reducible apply same_foldl1
      | with_reducible apply same_ite1
      | split
      | dsimp only
      | with_reducible apply same_mem

theorem State.memReset_same (s : State) (hkm : Sub 131074 km) (h0 : Same km ka s) : Same km ka (State.memReset s) := by
  unfold State.memReset
  try dsimp only
  repeat' first
    | with_reducible assumption
    | exact Sub.trans rfl hkm
    | intro _
    | with_reducible apply State.resetRegs_same
    | with_reducible apply same_ite
    | with_reducible apply same_foldl
    | with_reducible apply sameR_next
    | with_reducible apply same_foldl1
    | with_reducible apply same_ite1
    | split
    | dsimp only
    | with_reducible apply same_mem

theorem State.readEnd_same (s : State) (who : Option (Nat × Nat)) (st : Nat) (hkm : Sub 25165858 km) (h0 : Same km ka s) : Same km ka (State.readEnd s who st) := by
  unfold State.readEnd
  try dsimp only
  repeat' first
    | with_reducible assumption
    | exact Sub.trans rfl hkm
    | intro _
    | with_reducible apply State.cfgAnswer_same
    | with_reducible apply same_ite
    | with_reducible apply same_foldl
    | with_reducible apply sameR_next
    | with_reducible apply same_foldl1
    | with_reducible apply same_ite1
    | split

theorem State.serveWaits_same (s : State) (hkm : Sub 25296942 km) (h0 : Same km ka s) : Same km ka (State.serveWaits s) := by
  unfold State.serveWaits
  try dsimp only
  repeat' first
    | with_reducible assumption
    | exact Sub.trans rfl hkm
    | intro _
    | with_reducible apply State.readEnd_same
    | with_reducible apply State.serveRead_same
    | with_reducible apply same_ite
    | with_reducible apply same_foldl
    | with_reducible apply sameR_next
    | with_reducible apply same_foldl1
    | with_reducible apply same_ite1
    | split
    | dsimp only
    | with_reducible apply same_mem

theorem State.memGo_same (s : State) (hkm : Sub 25296942 km) (h0 : Same km ka s) : Same km ka (State.memGo s) := by
  unfold State.memGo
  try dsimp only
  repeat' first
    | with_reducible assumption
    | exact Sub.trans rfl hkm
    | intro _
    | with_reducible apply State.serveWaits_same
    | with_reducible apply State.memNext_same

theorem State.flushPage_same (s : State) (hkm : Sub 25296942 km) (h0 : Same km ka s) : Same km ka (State.flushPage s) := by
  unfold State.flushPage
  try dsimp only
  repeat' first
    | with_reducible assumption
    | exact Sub.trans rfl hkm
    | intro _
    | with_reducible apply State.memGo_same
    | with_reducible apply same_ite
    | with_reducible apply same_foldl
    | with_reducible apply sameR_next
    | with_reducible apply same_foldl1
    | with_reducible apply same_ite1
    | split
    | dsimp only
    | with_reducible apply same_mem

theorem State.gather_same (s : State) (a : Nat) (off : Nat) (v : Word) (hkm : Sub 25296942 km) (h0 : Same km ka s) : Same km ka (State.gather s a off v) := by
  unfold State.gather
  try dsimp only
  repeat' first
    | with_reducible assumption
    | exact Sub.trans rfl hkm
    | intro _
    | with_reducible apply State.setMem_same
    | with_reducible apply State.flushPage_same
    | with_reducible apply same_ite

theorem execMemApWrite_same (k : Nat) (v : Word) (s : State) (hkm : Sub 25299502 km) (h0 : Same km ka s) : SameR km ka (execMemApWrite k v s) := by
  unfold execMemApWrite
  try dsimp only
  repeat' first
    | with_reducible assumption
    | exact Sub.trans rfl hkm
    | intro _
    | with_reducible apply State.barWrite_same
    | with_reducible apply State.err_same
    | with_reducible apply State.dropLines_same
    | with_reducible apply State.gather_same
    | with_reducible apply State.flushPage_same
    | with_reducible apply same_ite
    | with_reducible apply same_foldl
    | with_reducible apply sameR_next
    | with_reducible apply same_foldl1
    | with_reducible apply same_ite1
    | split

theorem State.rawWrite_same (s : State) (v : Word) (rx : Nat) (hkm : Sub 25297454 km) (h0 : Same km ka s) : Same km ka (State.rawWrite s v rx) := by
  unfold State.rawWrite
  try dsimp only
  repeat' first
    | with_reducible assumption
    | exact Sub.trans rfl hkm
    | intro _
    | with_reducible apply State.discard_same
    | with_reducible apply State.flushPage_same
    | with_reducible apply State.memGo_same
    | with_reducible apply same_ite
    | with_reducible apply same_foldl
    | with_reducible apply sameR_next
    | with_reducible apply same_foldl1
    | with_reducible apply same_ite1
    | split
    | dsimp only
    | with_reducible apply same_mem

theorem State.readFails_same (s : State) (who : Option (Nat × Nat)) (ofs : Nat) (code : Nat) (hkm : Sub 25166378 km) (h0 : Same km ka s) : Same km ka (State.readFails s who ofs code) := by
  unfold State.readFails
  try dsimp only
  repeat' first
    | with_reducible assumption
    | exact Sub.trans rfl hkm
    | intro _
    | with_reducible apply State.readEnd_same
    | with_reducible apply State.err_same
    | with_reducible apply same_ite
    | with_reducible apply same_foldl
    | with_reducible apply sameR_next
    | with_reducible apply same_foldl1
    | with_reducible apply same_ite1
    | split
    | dsimp only
    | with_reducible apply same_rdata

theorem State.apAccess_same (s : State) (k : Nat) (b : List Nat) (b2 : List Nat) (who : Option (Nat × Nat)) (hkm : Sub 25297454 km) (h0 : Same km ka s) : Same km ka (State.apAccess s k b b2 who) := by
  unfold State.apAccess
  try dsimp only
  repeat' first
    | with_reducible assumption
    | exact Sub.trans rfl hkm
    | intro _
    | with_reducible apply State.readFails_same
    | with_reducible apply State.readEnd_same
    | with_reducible apply State.serveRead_same
    | with_reducible apply same_ite
    | with_reducible apply same_foldl
    | with_reducible apply sameR_next
    | with_reducible apply same_foldl1
    | with_reducible apply same_ite1
    | split
    | dsimp only
    | with_reducible apply same_mem

theorem execMemApRead_same (k : Nat) (b : List Nat) (b2 : List Nat) (s : State) (hkm : Sub 25299502 km) (h0 : Same km ka s) : SameR km ka (execMemApRead k b b2 s) := by
  unfold execMemApRead
  try dsimp only
  repeat' first
    | with_reducible assumption
    | exact Sub.trans rfl hkm
    | intro _
    | with_reducible apply State.wakeDoze_same
    | with_reducible apply State.readStopped_same
    | with_reducible apply State.apAccess_same
    | with_reducible apply same_ite
    | with_reducible apply same_foldl
    | with_reducible apply sameR_next

theorem execMemFlush_same (v : Word) (s : State) (hkm : Sub 25299502 km) (h0 : Same km ka s) : SameR km ka (execMemFlush v s) := by
  unfold execMemFlush
  try dsimp only
  repeat' first
    | with_reducible assumption
    | exact Sub.trans rfl hkm
    | intro _
    | with_reducible apply State.barWrite_same
    | with_reducible apply State.flushPage_same
    | with_reducible apply same_ite
    | with_reducible apply same_foldl
    | with_reducible apply sameR_next

theorem State.memEnd_same (s : State) (hkm : Sub 25296942 km) (h0 : Same km ka s) : Same km ka (State.memEnd s) := by
  unfold State.memEnd
  try dsimp only
  repeat' first
    | with_reducible assumption
    | exact Sub.trans rfl hkm
    | intro _
    | with_reducible apply State.memGo_same
    | with_reducible apply State.setMem_same

theorem State.memFault_same (s : State) (op : MemOp) (code : Nat) (hkm : Sub 546 km) (h0 : Same km ka s) : Same km ka (State.memFault s op code) := by
  unfold State.memFault
  try dsimp only
  repeat' first
    | with_reducible assumption
    | exact Sub.trans rfl hkm
    | intro _
    | with_reducible apply State.raiseHub_same
    | with_reducible apply State.f_same
    | with_reducible apply State.err_same

theorem State.memVerify_same (s : State) (r : MemRunS) (b : List Nat) (hkm : Sub 25297454 km) (h0 : Same km ka s) : Same km ka (State.memVerify s r b) := by
  unfold State.memVerify
  try dsimp only
  repeat' first
    | with_reducible assumption
    | exact Sub.trans rfl hkm
    | intro _
    | with_reducible apply State.memEnd_same
    | with_reducible apply State.flashRead_same
    | with_reducible apply State.memFault_same
    | with_reducible apply State.pollFrom_same
    | with_reducible apply State.sendProg_same
    | with_reducible apply State.inc_same
    | with_reducible apply same_ite
    | with_reducible apply same_foldl
    | with_reducible apply sameR_next
    | with_reducible apply same_foldl1
    | with_reducible apply same_ite1
    | split

theorem execStatusPoll_same (st : Nat) (b : List Nat) (s : State) (hkm : Sub 25297454 km) (h0 : Same km ka s) : SameR km ka (execStatusPoll st b s) := by
  unfold execStatusPoll
  try dsimp only
  repeat' first
    | with_reducible assumption
    | exact Sub.trans rfl hkm
    | intro _
    | with_reducible apply State.flashOut_same
    | with_reducible apply State.xipExit_same
    | with_reducible apply State.setMem_same
    | with_reducible apply State.memVerify_same
    | with_reducible apply same_ite
    | with_reducible apply same_foldl
    | with_reducible apply sameR_next
    | with_reducible apply same_foldl1
    | with_reducible apply same_ite1
    | split

theorem execRawCommand_same (v : Word) (rx : Nat) (s : State) (hkm : Sub 25299502 km) (h0 : Same km ka s) : SameR km ka (execRawCommand v rx s) := by
  unfold execRawCommand
  try dsimp only
  repeat' first
    | with_reducible assumption
    | exact Sub.trans rfl hkm
    | intro _
    | with_reducible apply State.barWrite_same
    | with_reducible apply State.rawWrite_same
    | with_reducible apply same_ite
    | with_reducible apply same_foldl
    | with_reducible apply sameR_next

theorem execPageBufferTimeout_same (s : State) (hkm : Sub 25296942 km) (h0 : Same km ka s) : SameR km ka (execPageBufferTimeout s) := by
  unfold execPageBufferTimeout
  try dsimp only
  repeat' first
    | with_reducible assumption
    | exact Sub.trans rfl hkm
    | intro _
    | with_reducible apply State.flushPage_same
    | with_reducible apply same_ite
    | with_reducible apply same_foldl
    | with_reducible apply sameR_next
    | with_reducible apply same_foldl1
    | with_reducible apply same_ite1
    | split

theorem State.waitFails_same (s : State) (w : WaitS) (hkm : Sub 25166378 km) (h0 : Same km ka s) : Same km ka (State.waitFails s w) := by
  unfold State.waitFails
  try dsimp only
  repeat' first
    | with_reducible assumption
    | exact Sub.trans rfl hkm
    | intro _
    | with_reducible apply State.readFails_same

theorem execProgtoExpiry_same (s : State) (hkm : Sub 25297454 km) (h0 : Same km ka s) : SameR km ka (execProgtoExpiry s) := by
  unfold execProgtoExpiry
  try dsimp only
  repeat' first
    | with_reducible assumption
    | exact Sub.trans rfl hkm
    | intro _
    | with_reducible apply State.waitFails_same
    | with_reducible apply State.memEnd_same
    | with_reducible apply State.memFault_same
    | with_reducible apply same_ite
    | with_reducible apply same_foldl
    | with_reducible apply sameR_next
    | with_reducible apply same_foldl1
    | with_reducible apply same_ite1
    | split
    | dsimp only
    | with_reducible apply same_mem

end Sys2Proof.Machine
end

