-- ==== Sys2Proof/Laws/SameMsg.lean ====
section
/-! SUPPORT. What the operations of Machine/Msg.lean keep (Laws/Same.lean). -/
set_option Elab.async false
namespace Sys2Proof.Machine

variable {km : Nat} {ka : State}

theorem execSyncAt_same (s : State) (hkm : Sub 13107234 km) (h0 : Same km ka s) : SameR km ka (execSyncAt s) := by
  unfold execSyncAt
  try dsimp only
  repeat' first
    | with_reducible assumption
    | exact Sub.trans rfl hkm
    | intro _
    | with_reducible apply State.runJob_same
    | with_reducible apply State.finishWith_same
    | with_reducible apply State.mashArm_same
    | with_reducible apply State.sendMsg_same
    | with_reducible apply same_ite
    | with_reducible apply same_foldl
    | with_reducible apply sameR_next

theorem State.cmdExec_same (s : State) (src : Nat) (b : List Nat) (hkm : Sub 12582946 km) (h0 : Same km ka s) : Same km ka (State.cmdExec s src b) := by
  unfold State.cmdExec
  try dsimp only
  repeat' first
    | with_reducible assumption
    | exact Sub.trans rfl hkm
    | intro _
    | with_reducible apply State.finishWith_same
    | with_reducible apply State.startJob_same
    | with_reducible apply same_ite
    | with_reducible apply same_foldl
    | with_reducible apply sameR_next
    | with_reducible apply same_foldl1
    | with_reducible apply same_ite1
    | split
    | dsimp only
    | with_reducible apply same_rng

theorem execCmd_same (s : State) (hkm : Sub 12582946 km) (h0 : Same km ka s) : SameR km ka (execCmd s) := by
  unfold execCmd
  try dsimp only
  repeat' first
    | with_reducible assumption
    | exact Sub.trans rfl hkm
    | intro _
    | with_reducible apply State.sendMsg_same
    | with_reducible apply State.cmdExec_same
    | with_reducible apply same_ite
    | with_reducible apply same_foldl
    | with_reducible apply sameR_next
    | with_reducible apply same_foldl1
    | with_reducible apply same_ite1
    | split
    | dsimp only
    | (refine State.takeMsg_same (Sub.trans rfl hkm) ?_ (by with_reducible assumption))

theorem execCmdData_same (s : State) (hkm : Sub 12582914 km) (h0 : Same km ka s) : SameR km ka (execCmdData s) := by
  unfold execCmdData
  try dsimp only
  repeat' first
    | with_reducible assumption
    | exact Sub.trans rfl hkm
    | intro _
    | with_reducible apply State.inc_same
    | with_reducible apply same_ite
    | with_reducible apply same_foldl
    | with_reducible apply sameR_next
    | with_reducible apply same_foldl1
    | with_reducible apply same_ite1
    | split
    | dsimp only
    | (refine State.takeMsg_same (Sub.trans rfl hkm) ?_ (by with_reducible assumption))
    | with_reducible apply same_rng

theorem State.followCasks_same (s : State) (r : RemS) (st : Nat) (hkm : Sub 4194304 km) (h0 : Same km ka s) : Same km ka (State.followCasks s r st) := by
  unfold State.followCasks
  try dsimp only
  repeat' first
    | with_reducible assumption
    | exact Sub.trans rfl hkm
    | intro _
    | with_reducible apply State.modCmd_same
    | with_reducible apply same_ite
    | with_reducible apply same_foldl
    | with_reducible apply sameR_next
    | with_reducible apply same_foldl1
    | with_reducible apply same_ite1
    | split

theorem execCpl_same (s : State) (hkm : Sub 12845094 km) (h0 : Same km ka s) : SameR km ka (execCpl s) := by
  unfold execCpl
  try dsimp only
  repeat' first
    | with_reducible assumption
    | exact Sub.trans rfl hkm
    | intro _
    | with_reducible apply State.issue_same
    | with_reducible apply State.remDone_same
    | with_reducible apply State.followCasks_same
    | with_reducible apply State.dropTag_same
    | with_reducible apply same_ite
    | with_reducible apply same_foldl
    | with_reducible apply sameR_next
    | with_reducible apply same_foldl1
    | with_reducible apply same_ite1
    | split
    | dsimp only
    | (refine State.takeMsg_same (Sub.trans rfl hkm) ?_ (by with_reducible assumption))
    | with_reducible apply same_rng

theorem State.setGather_same (s : State) (src : Nat) (uid : Nat) (ring : Nat) (g : Option GatherS) (hkm : Sub 4194304 km) (h0 : Same km ka s) : Same km ka (State.setGather s src uid ring g) := by
  unfold State.setGather
  try dsimp only
  repeat' first
    | with_reducible assumption
    | exact Sub.trans rfl hkm
    | intro _
    | with_reducible apply same_ite
    | with_reducible apply same_foldl
    | with_reducible apply sameR_next
    | with_reducible apply same_foldl1
    | with_reducible apply same_ite1
    | split
    | dsimp only
    | with_reducible apply same_rng

theorem execCaskData_same (s : State) (hkm : Sub 12585506 km) (h0 : Same km ka s) : SameR km ka (execCaskData s) := by
  unfold execCaskData
  try dsimp only
  repeat' first
    | with_reducible assumption
    | exact Sub.trans rfl hkm
    | intro _
    | with_reducible apply State.showCbuf_same
    | with_reducible apply State.setGather_same
    | with_reducible apply State.trimCasks_same
    | with_reducible apply same_ite
    | with_reducible apply same_foldl
    | with_reducible apply sameR_next
    | with_reducible apply same_foldl1
    | with_reducible apply same_ite1
    | split
    | dsimp only
    | (refine State.takeMsg_same (Sub.trans rfl hkm) ?_ (by with_reducible assumption))

theorem State.sendCaskAck_same (s : State) (dst : Nat) (uid : Nat) (pcn : Nat) (ring : Nat) (hkm : Sub 8388642 km) (h0 : Same km ka s) : Same km ka (State.sendCaskAck s dst uid pcn ring) := by
  unfold State.sendCaskAck
  try dsimp only
  repeat' first
    | with_reducible assumption
    | exact Sub.trans rfl hkm
    | intro _
    | with_reducible apply State.sendMsg_same

theorem State.acceptCask_same (s : State) (c : CaskS) (hkm : Sub 12585506 km) (h0 : Same km ka s) : Same km ka (State.acceptCask s c) := by
  unfold State.acceptCask
  try dsimp only
  repeat' first
    | with_reducible assumption
    | exact Sub.trans rfl hkm
    | intro _
    | with_reducible apply State.setGather_same
    | with_reducible apply State.sendCaskAck_same
    | with_reducible apply State.trimCasks_same
    | with_reducible apply same_ite
    | with_reducible apply same_foldl
    | with_reducible apply sameR_next
    | with_reducible apply same_foldl1
    | with_reducible apply same_ite1
    | split
    | dsimp only
    | with_reducible apply same_rng

theorem execCaskClose_same (s : State) (hkm : Sub 12585506 km) (h0 : Same km ka s) : SameR km ka (execCaskClose s) := by
  unfold execCaskClose
  try dsimp only
  repeat' first
    | with_reducible assumption
    | exact Sub.trans rfl hkm
    | intro _
    | with_reducible apply State.sendCaskAck_same
    | with_reducible apply State.inc_same
    | with_reducible apply State.showCbuf_same
    | with_reducible apply State.setGather_same
    | with_reducible apply State.acceptCask_same
    | with_reducible apply same_ite
    | with_reducible apply same_foldl
    | with_reducible apply sameR_next
    | with_reducible apply same_foldl1
    | with_reducible apply same_ite1
    | split
    | dsimp only
    | (refine State.takeMsg_same (Sub.trans rfl hkm) ?_ (by with_reducible assumption))

theorem State.waitsDone_same (s : State) (hkm : Sub 12582946 km) (h0 : Same km ka s) : Same km ka (State.waitsDone s) := by
  unfold State.waitsDone
  try dsimp only
  repeat' first
    | with_reducible assumption
    | exact Sub.trans rfl hkm
    | intro _
    | with_reducible apply State.finishWith_same
    | with_reducible apply same_ite
    | with_reducible apply same_foldl
    | with_reducible apply sameR_next
    | with_reducible apply same_foldl1
    | with_reducible apply same_ite1
    | split

theorem execCaskack_same (s : State) (hkm : Sub 14682658 km) (h0 : Same km ka s) : SameR km ka (execCaskack s) := by
  unfold execCaskack
  try dsimp only
  repeat' first
    | with_reducible assumption
    | exact Sub.trans rfl hkm
    | intro _
    | with_reducible apply State.waitsDone_same
    | with_reducible apply State.showCbuf_same
    | with_reducible apply State.leaseSettle_same
    | with_reducible apply same_ite
    | with_reducible apply same_foldl
    | with_reducible apply sameR_next
    | with_reducible apply same_foldl1
    | with_reducible apply same_ite1
    | split
    | dsimp only
    | (refine State.takeMsg_same (Sub.trans rfl hkm) ?_ (by with_reducible assumption))
    | with_reducible apply same_rng

theorem execEvent_same (s : State) (hkm : Sub 12582914 km) (h0 : Same km ka s) : SameR km ka (execEvent s) := by
  unfold execEvent
  try dsimp only
  repeat' first
    | with_reducible assumption
    | exact Sub.trans rfl hkm
    | intro _
    | with_reducible apply State.queueEv_same
    | with_reducible apply same_ite
    | with_reducible apply same_foldl
    | with_reducible apply sameR_next
    | with_reducible apply same_foldl1
    | with_reducible apply same_ite1
    | split
    | dsimp only
    | (refine State.takeMsg_same (Sub.trans rfl hkm) ?_ (by with_reducible assumption))

theorem execSyncAtMessage_same (s : State) (hkm : Sub 8912898 km) (h0 : Same km ka s) : SameR km ka (execSyncAtMessage s) := by
  unfold execSyncAtMessage
  try dsimp only
  repeat' first
    | with_reducible assumption
    | exact Sub.trans rfl hkm
    | intro _
    | with_reducible apply State.mashArm_same
    | with_reducible apply same_ite
    | with_reducible apply same_foldl
    | with_reducible apply sameR_next
    | with_reducible apply same_foldl1
    | with_reducible apply same_ite1
    | split
    | dsimp only
    | (refine State.takeMsg_same (Sub.trans rfl hkm) ?_ (by with_reducible assumption))

theorem execGroupTrigger_same (s : State) (hkm : Sub 14162466 km) (h0 : Same km ka s) : SameR km ka (execGroupTrigger s) := by
  unfold execGroupTrigger
  try dsimp only
  repeat' first
    | with_reducible assumption
    | exact Sub.trans rfl hkm
    | intro _
    | with_reducible apply State.triggerHere_same
    | with_reducible apply State.inc_same
    | with_reducible apply same_ite
    | with_reducible apply same_foldl
    | with_reducible apply sameR_next
    | with_reducible apply same_foldl1
    | with_reducible apply same_ite1
    | split
    | dsimp only
    | (refine State.takeMsg_same (Sub.trans rfl hkm) ?_ (by with_reducible assumption))

end Sys2Proof.Machine
end

