-- ==== Sys2Proof/Laws/SameServo.lean ====
section
/-! SUPPORT. What the operations of Machine/Servo.lean keep (Laws/Same.lean). -/
set_option Elab.async false
namespace Sys2Proof.Machine

variable {km : Nat} {ka : State}

theorem State.stepSwitch_same (s : State) (d : Int) (hkm : Sub 263170 km) (h0 : Same km ka s) : Same km ka (State.stepSwitch s d) := by
  unfold State.stepSwitch
  try dsimp only
  repeat' first
    | with_reducible assumption
    | exact Sub.trans rfl hkm
    | intro _
    | with_reducible apply State.switchEffect_same
    | with_reducible apply State.setSwct_same
    | with_reducible apply same_ite
    | with_reducible apply same_foldl
    | with_reducible apply sameR_next
    | with_reducible apply same_foldl1
    | with_reducible apply same_ite1
    | split
    | dsimp only
    | with_reducible apply same_ept

theorem State.stepQueues_same (s : State) (d : Int) (hkm : Sub 1310720 km) (h0 : Same km ka s) : Same km ka (State.stepQueues s d) := by
  unfold State.stepQueues
  try dsimp only
  repeat' first
    | with_reducible assumption
    | exact Sub.trans rfl hkm
    | with_reducible exact Or.inr (Sub.trans rfl hkm)
    | with_reducible exact Or.inl rfl
    | intro _
    | with_reducible apply same_ite
    | with_reducible apply same_foldl
    | with_reducible apply sameR_next
    | with_reducible apply same_foldl1
    | with_reducible apply same_ite1
    | split
    | dsimp only
    | with_reducible apply same_ept
    | with_reducible apply same_rcg
    | with_reducible apply same_mk

theorem State.stepEnts_same (s : State) (hkm : Sub 4096 km) (h0 : Same km ka s) : Same km ka (State.stepEnts s) := by
  unfold State.stepEnts
  try dsimp only
  repeat' first
    | with_reducible assumption
    | exact Sub.trans rfl hkm
    | intro _
    | with_reducible apply same_ite
    | with_reducible apply same_foldl
    | with_reducible apply sameR_next
    | with_reducible apply same_foldl1
    | with_reducible apply same_ite1
    | split
    | dsimp only
    | with_reducible apply same_psc

theorem State.stepCt_same (s : State) (d : Int) (hkm : Sub 14434018 km) (h0 : Same km ka s) : Same km ka (State.stepCt s d) := by
  unfold State.stepCt
  try dsimp only
  repeat' first
    | with_reducible assumption
    | exact Sub.trans rfl hkm
    | with_reducible exact Or.inr (Sub.trans rfl hkm)
    | with_reducible exact Or.inl rfl
    | intro _
    | with_reducible apply State.passMissed_same
    | with_reducible apply State.stepSwitch_same
    | with_reducible apply State.stepQueues_same
    | with_reducible apply State.stepEnts_same
    | with_reducible apply State.f64_same
    | with_reducible apply State.inc_same
    | with_reducible apply State.f_same
    | with_reducible apply State.lateCompare_same
    | with_reducible apply State.lateStart_same
    | with_reducible apply State.lateSync_same
    | with_reducible apply State.raiseHub_same
    | with_reducible apply State.event_same
    | with_reducible apply same_ite
    | with_reducible apply same_foldl
    | with_reducible apply sameR_next
    | with_reducible apply same_foldl1
    | with_reducible apply same_ite1
    | split
    | dsimp only
    | with_reducible apply same_time
    | with_reducible apply same_crs
    | with_reducible apply same_rng
    | with_reducible apply same_mk

theorem State.steer_same (s : State) (off2 : Int) (hkm : Sub 14434022 km) (h0 : Same km ka s) : Same km ka (State.steer s off2) := by
  unfold State.steer
  try dsimp only
  repeat' first
    | with_reducible assumption
    | exact Sub.trans rfl hkm
    | intro _
    | with_reducible apply State.stepCt_same
    | with_reducible apply State.setCtState_same
    | with_reducible apply State.f_same
    | with_reducible apply State.drew_same
    | with_reducible apply State.trim_same
    | with_reducible apply same_ite
    | with_reducible apply same_foldl
    | with_reducible apply sameR_next
    | with_reducible apply same_foldl1
    | with_reducible apply same_ite1
    | split
    | dsimp only
    | with_reducible apply same_srv

theorem execTimeResp_same (p : Nat) (pl : List Nat) (s : State) (hkm : Sub 14434022 km) (h0 : Same km ka s) : SameR km ka (execTimeResp p pl s) := by
  unfold execTimeResp
  try dsimp only
  repeat' first
    | with_reducible assumption
    | exact Sub.trans rfl hkm
    | intro _
    | with_reducible apply State.timeBad_same
    | with_reducible apply State.f_same
    | with_reducible apply State.loseUpstream_same
    | with_reducible apply State.steer_same
    | with_reducible apply State.f64_same
    | with_reducible apply same_ite
    | with_reducible apply same_foldl
    | with_reducible apply sameR_next
    | with_reducible apply same_foldl1
    | with_reducible apply same_ite1
    | split
    | dsimp only
    | with_reducible apply same_srv

end Sys2Proof.Machine
end

