-- ==== Sys2Proof/Laws/SameRol.lean ====
section
/-! SUPPORT. What the operations of Machine/Rol.lean keep (Laws/Same.lean). -/
set_option Elab.async false
namespace Sys2Proof.Machine

variable {km : Nat} {ka : State}

theorem State.dropCharges_same (s : State) (old : List DirS) (new : List DirS) (hkm : Sub 4194304 km) (h0 : Same km ka s) : Same km ka (State.dropCharges s old new) := by
  unfold State.dropCharges
  try dsimp only
  repeat' first
    | with_reducible assumption
    | exact Sub.trans rfl hkm
    | intro _
    | with_reducible apply same_ite
    | with_reducible apply same_foldl
    | with_reducible apply sameR_next
    | with_reducible apply same_foldl1
    | with_reducible apply same_ite1
    | split
    | dsimp only
    | with_reducible apply same_rng

theorem State.adoptRole_same (s : State) (r : RoundS) (lrole : Nat) (lead : Bool) (hkm : Sub 674 km) (h0 : Same km ka s) : Same km ka (State.adoptRole s r lrole lead) := by
  unfold State.adoptRole
  try dsimp only
  repeat' first
    | with_reducible assumption
    | exact Sub.trans rfl hkm
    | intro _
    | with_reducible apply State.zero_same
    | with_reducible apply State.f_same
    | with_reducible apply State.enterHoldover_same
    | with_reducible apply same_ite
    | with_reducible apply same_foldl
    | with_reducible apply sameR_next
    | with_reducible apply same_foldl1
    | with_reducible apply same_ite1
    | split
    | dsimp only
    | with_reducible apply same_srv

theorem State.adoptQuar_same (s : State) (r : RoundS) (combgen : Nat) (lrole : Nat) (hkm : Sub 18874370 km) (h0 : Same km ka s) : Same km ka (State.adoptQuar s r combgen lrole) := by
  unfold State.adoptQuar
  try dsimp only
  repeat' first
    | with_reducible assumption
    | exact Sub.trans rfl hkm
    | with_reducible exact Or.inr (Sub.trans rfl hkm)
    | with_reducible exact Or.inl rfl
    | intro _
    | with_reducible apply State.f_same
    | with_reducible apply same_ite
    | with_reducible apply same_foldl
    | with_reducible apply sameR_next
    | with_reducible apply same_foldl1
    | with_reducible apply same_ite1
    | split
    | dsimp only
    | with_reducible apply same_ten
    | with_reducible apply same_rol
    | with_reducible apply same_mk

theorem State.endHoldings_same (s : State) (hkm : Sub 16521762 km) (h0 : Same km ka s) : Same km ka (State.endHoldings s) := by
  unfold State.endHoldings
  try dsimp only
  repeat' first
    | with_reducible assumption
    | exact Sub.trans rfl hkm
    | intro _
    | with_reducible apply State.closeStreams_same
    | with_reducible apply State.destroyEnt_same
    | with_reducible apply State.endInst_same
    | with_reducible apply State.endLeases_same
    | with_reducible apply same_ite
    | with_reducible apply same_foldl

theorem State.showDir_same (s : State) (hkm : Sub 2 km) (h0 : Same km ka s) : Same km ka (State.showDir s) := by
  unfold State.showDir
  try dsimp only
  repeat' first
    | with_reducible assumption
    | exact Sub.trans rfl hkm
    | intro _
    | with_reducible apply State.f_same

theorem State.releaseHeld_same (s : State) (hkm : Sub 29360162 km) (h0 : Same km ka s) : Same km ka (State.releaseHeld s) := by
  unfold State.releaseHeld
  try dsimp only
  repeat' first
    | with_reducible assumption
    | exact Sub.trans rfl hkm
    | with_reducible exact Or.inr (Sub.trans rfl hkm)
    | with_reducible exact Or.inl rfl
    | intro _
    | with_reducible apply State.sendMsg_same
    | with_reducible apply State.flushEvHeld_same
    | with_reducible apply State.flushFwd_same
    | with_reducible apply same_ite
    | with_reducible apply same_foldl
    | with_reducible apply sameR_next
    | with_reducible apply same_foldl1
    | with_reducible apply same_ite1
    | split
    | dsimp only
    | with_reducible apply same_rng
    | with_reducible apply same_rol

theorem State.adoptTail_same (s : State) (hkm : Sub 29362722 km) (h0 : Same km ka s) : Same km ka (State.adoptTail s) := by
  unfold State.adoptTail
  try dsimp only
  repeat' first
    | with_reducible assumption
    | exact Sub.trans rfl hkm
    | intro _
    | with_reducible apply State.routeEv_same
    | with_reducible apply State.releaseHeld_same
    | with_reducible apply State.resendFwd_same
    | with_reducible apply State.noteIso_same
    | with_reducible apply State.raiseHub_same
    | with_reducible apply same_ite

theorem State.newBoots_same (s : State) (hkm : Sub 2 km) (h0 : Same km ka s) : Same km ka (State.newBoots s) := by
  unfold State.newBoots
  try dsimp only
  repeat' first
    | with_reducible assumption
    | exact Sub.trans rfl hkm
    | intro _
    | with_reducible apply State.f_same
    | with_reducible apply same_ite
    | with_reducible apply same_foldl

theorem State.adoptSome_same (s : State) (r : RoundS) (comb : Nat) (combgen : Nat) (lrole : Nat) (ents : List DirS) (e : DirS) (lead : Bool) (hkm : Sub 33299106 km) (h0 : Same km ka s) : Same km ka (State.adoptSome s r comb combgen lrole ents e lead) := by
  unfold State.adoptSome
  try dsimp only
  repeat' first
    | with_reducible assumption
    | exact Sub.trans rfl hkm
    | with_reducible exact Or.inr (Sub.trans rfl hkm)
    | with_reducible exact Or.inl rfl
    | intro _
    | with_reducible apply State.dropCharges_same
    | with_reducible apply State.newReference_same
    | with_reducible apply State.adoptRole_same
    | with_reducible apply State.f64_same
    | with_reducible apply State.adoptQuar_same
    | with_reducible apply State.endHoldings_same
    | with_reducible apply State.f_same
    | with_reducible apply State.showDir_same
    | with_reducible apply State.adoptTail_same
    | with_reducible apply State.newBoots_same
    | with_reducible apply same_ite
    | with_reducible apply same_foldl
    | with_reducible apply sameR_next
    | with_reducible apply same_foldl1
    | with_reducible apply same_ite1
    | split
    | dsimp only
    | with_reducible apply same_rng
    | with_reducible apply same_rol
    | with_reducible apply same_mk

theorem State.onElect_same (s : State) (ty : Nat) (f : State → Nat → Nat → List Nat → State) (hkm : Sub 8388610 km) (h0 : Same km ka s) (hff : ∀ y0 y1 y2 y3, Same km ka y0 → Same km ka (f y0 y1 y2 y3)) : Same km ka (State.onElect s ty f) := by
  unfold State.onElect
  try dsimp only
  repeat' first
    | with_reducible assumption
    | exact Sub.trans rfl hkm
    | intro _
    | with_reducible apply hff
    | with_reducible apply same_ite
    | with_reducible apply same_foldl
    | with_reducible apply sameR_next
    | with_reducible apply same_foldl1
    | with_reducible apply same_ite1
    | split
    | dsimp only
    | (refine State.takeMsg_same (Sub.trans rfl hkm) ?_ (by with_reducible assumption))

theorem State.modRound_same (s : State) (f : RoundS → RoundS) (hkm : Sub 16777216 km) (h0 : Same km ka s) : Same km ka (State.modRound s f) := by
  unfold State.modRound
  try dsimp only
  repeat' first
    | with_reducible assumption
    | exact Sub.trans rfl hkm
    | intro _
    | with_reducible apply same_ite
    | with_reducible apply same_foldl
    | with_reducible apply sameR_next
    | with_reducible apply same_foldl1
    | with_reducible apply same_ite1
    | split
    | dsimp only
    | with_reducible apply same_rol

theorem State.adoptCand_same (s : State) (p : Nat) (n : Nat) (c : CandS) (hkm : Sub 25165858 km) (hops : Nat) (rootport : Nat) (h0 : Same km ka s) : Same km ka (State.adoptCand s p n c hops rootport) := by
  unfold State.adoptCand
  try dsimp only
  repeat' first
    | with_reducible assumption
    | exact Sub.trans rfl hkm
    | intro _
    | with_reducible apply State.modRound_same
    | with_reducible apply State.sendElect_same
    | with_reducible apply same_ite
    | with_reducible apply same_foldl
    | with_reducible apply sameR_next
    | with_reducible apply same_foldl1
    | with_reducible apply same_ite1
    | split

theorem execOffer_same (s : State) (hkm : Sub 25165858 km) (h0 : Same km ka s) : SameR km ka (execOffer s) := by
  unfold execOffer
  try dsimp only
  repeat' first
    | with_reducible assumption
    | exact Sub.trans rfl hkm
    | intro _
    | with_reducible apply State.onElect_same
    | with_reducible apply State.enterRound_same
    | with_reducible apply State.modRound_same
    | with_reducible apply State.adoptCand_same
    | with_reducible apply same_ite
    | with_reducible apply same_foldl
    | with_reducible apply sameR_next
    | with_reducible apply same_foldl1
    | with_reducible apply same_ite1
    | split

theorem State.rolCtlWrite_same (s : State) (v : Word) (hkm : Sub 25166370 km) (h0 : Same km ka s) : Same km ka (State.rolCtlWrite s v) := by
  unfold State.rolCtlWrite
  try dsimp only
  repeat' first
    | with_reducible assumption
    | exact Sub.trans rfl hkm
    | intro _
    | with_reducible apply State.zero_same
    | with_reducible apply State.discard_same
    | with_reducible apply State.startRound_same
    | with_reducible apply same_ite

theorem State.dirIdxWrite_same (s : State) (p : Nat) (hkm : Sub 2 km) (h0 : Same km ka s) : Same km ka (State.dirIdxWrite s p) := by
  unfold State.dirIdxWrite
  try dsimp only
  repeat' first
    | with_reducible assumption
    | exact Sub.trans rfl hkm
    | intro _
    | with_reducible apply State.f_same
    | with_reducible apply same_ite
    | with_reducible apply same_foldl

theorem execSplitHoldExpiry_same (p : Nat) (s : State) (hkm : Sub 25165858 km) (h0 : Same km ka s) : SameR km ka (execSplitHoldExpiry p s) := by
  unfold execSplitHoldExpiry
  try dsimp only
  repeat' first
    | with_reducible assumption
    | exact Sub.trans rfl hkm
    | intro _
    | with_reducible apply State.startRound_same
    | with_reducible apply State.inc_same
    | with_reducible apply State.setPort_same
    | with_reducible apply same_ite
    | with_reducible apply same_foldl
    | with_reducible apply sameR_next
    | with_reducible apply same_foldl1
    | with_reducible apply same_ite1
    | split

theorem execRetryHoldExpiry_same (p : Nat) (s : State) (hkm : Sub 29360162 km) (h0 : Same km ka s) : SameR km ka (execRetryHoldExpiry p s) := by
  unfold execRetryHoldExpiry
  try dsimp only
  repeat' first
    | with_reducible assumption
    | exact Sub.trans rfl hkm
    | intro _
    | with_reducible apply State.abandonHold_same
    | with_reducible apply State.startHello_same
    | with_reducible apply State.startRound_same
    | with_reducible apply State.setPort_same
    | with_reducible apply same_ite
    | with_reducible apply same_foldl
    | with_reducible apply sameR_next
    | with_reducible apply same_foldl1
    | with_reducible apply same_ite1
    | split

theorem execDirectoryEntryLoad_same (p : Nat) (s : State) (hkm : Sub 2594 km) (h0 : Same km ka s) : SameR km ka (execDirectoryEntryLoad p s) := by
  unfold execDirectoryEntryLoad
  try dsimp only
  repeat' first
    | with_reducible assumption
    | exact Sub.trans rfl hkm
    | intro _
    | with_reducible apply State.barWrite_same
    | with_reducible apply State.dirIdxWrite_same
    | with_reducible apply same_ite
    | with_reducible apply same_foldl
    | with_reducible apply sameR_next

theorem execReelect_same (s : State) (hkm : Sub 25168418 km) (h0 : Same km ka s) : SameR km ka (execReelect s) := by
  unfold execReelect
  try dsimp only
  repeat' first
    | with_reducible assumption
    | exact Sub.trans rfl hkm
    | intro _
    | with_reducible apply State.barWrite_same
    | with_reducible apply State.rolCtlWrite_same
    | with_reducible apply same_ite
    | with_reducible apply same_foldl
    | with_reducible apply sameR_next

theorem execHostLinkUp_same (s : State) (hkm : Sub 25168418 km) (h0 : Same km ka s) : SameR km ka (execHostLinkUp s) := by
  unfold execHostLinkUp
  try dsimp only
  repeat' first
    | with_reducible assumption
    | exact Sub.trans rfl hkm
    | intro _
    | with_reducible apply State.showCapable_same
    | with_reducible apply State.f_same
    | with_reducible apply State.announceAll_same
    | with_reducible apply State.startRound_same
    | with_reducible apply same_ite
    | with_reducible apply same_foldl
    | with_reducible apply sameR_next
    | with_reducible apply same_foldl1
    | with_reducible apply same_ite1
    | split
    | dsimp only
    | with_reducible apply same_sys

theorem execAttach_same (s : State) (hkm : Sub 25165858 km) (h0 : Same km ka s) : SameR km ka (execAttach s) := by
  unfold execAttach
  try dsimp only
  repeat' first
    | with_reducible assumption
    | exact Sub.trans rfl hkm
    | intro _
    | with_reducible apply State.onElect_same
    | with_reducible apply State.startRound_same
    | with_reducible apply State.modRound_same
    | with_reducible apply same_ite
    | with_reducible apply same_foldl
    | with_reducible apply sameR_next
    | with_reducible apply same_foldl1
    | with_reducible apply same_ite1
    | split

theorem execDetach_same (s : State) (hkm : Sub 25165826 km) (h0 : Same km ka s) : SameR km ka (execDetach s) := by
  unfold execDetach
  try dsimp only
  repeat' first
    | with_reducible assumption
    | exact Sub.trans rfl hkm
    | intro _
    | with_reducible apply State.onElect_same
    | with_reducible apply State.modRound_same
    | with_reducible apply same_ite
    | with_reducible apply same_foldl
    | with_reducible apply sameR_next

theorem execReport_same (s : State) (hkm : Sub 25165826 km) (h0 : Same km ka s) : SameR km ka (execReport s) := by
  unfold execReport
  try dsimp only
  repeat' first
    | with_reducible assumption
    | exact Sub.trans rfl hkm
    | intro _
    | with_reducible apply State.onElect_same
    | with_reducible apply State.modRound_same
    | with_reducible apply same_ite
    | with_reducible apply same_foldl
    | with_reducible apply sameR_next

theorem State.leadTime_same (s : State) (r : RoundS) (alone : Bool) (hkm : Sub 14434022 km) (h0 : Same km ka s) : Same km ka (State.leadTime s r alone).1 := by
  unfold State.leadTime
  try dsimp only
  repeat' first
    | with_reducible assumption
    | exact Sub.trans rfl hkm
    | intro _
    | with_reducible apply State.setCtState_same
    | with_reducible apply State.stepCt_same
    | with_reducible apply State.drew_same
    | with_reducible apply State.enterHoldover_same
    | with_reducible apply same_ite
    | with_reducible apply same_foldl
    | with_reducible apply sameR_next
    | with_reducible apply same_foldl1
    | with_reducible apply same_ite1

theorem State.peersAdopt_same (s : State) (epoch : Nat) (hkm : Sub 8388610 km) (h0 : Same km ka s) : Same km ka (State.peersAdopt s epoch) := by
  unfold State.peersAdopt
  try dsimp only
  repeat' first
    | with_reducible assumption
    | exact Sub.trans rfl hkm
    | intro _
    | with_reducible apply State.setPort_same
    | with_reducible apply same_ite
    | with_reducible apply same_foldl

theorem State.adoptNone_same (s : State) (hkm : Sub 33299106 km) (h0 : Same km ka s) : Same km ka (State.adoptNone s) := by
  unfold State.adoptNone
  try dsimp only
  repeat' first
    | with_reducible assumption
    | exact Sub.trans rfl hkm
    | intro _
    | with_reducible apply State.endHoldings_same
    | with_reducible apply State.showDir_same
    | with_reducible apply State.zero_same
    | with_reducible apply State.f_same
    | with_reducible apply State.adoptTail_same
    | with_reducible apply State.newReference_same
    | with_reducible apply State.enterHoldover_same
    | with_reducible apply same_ite
    | with_reducible apply same_foldl
    | with_reducible apply sameR_next
    | with_reducible apply same_foldl1
    | with_reducible apply same_ite1
    | split
    | dsimp only
    | with_reducible apply same_rol

theorem State.adoptDir_same (s : State) (r : RoundS) (comb : Nat) (epoch : Nat) (combgen : Nat) (lrole : Nat) (ents : List DirS) (lead : Bool) (hkm : Sub 33299106 km) (h0 : Same km ka s) : Same km ka (State.adoptDir s r comb epoch combgen lrole ents lead) := by
  unfold State.adoptDir
  try dsimp only
  repeat' first
    | with_reducible assumption
    | exact Sub.trans rfl hkm
    | intro _
    | with_reducible apply State.peersAdopt_same
    | with_reducible apply State.f_same
    | with_reducible apply State.modRound_same
    | with_reducible apply State.recheckInbox_same
    | with_reducible apply State.adoptSome_same
    | with_reducible apply State.adoptNone_same
    | with_reducible apply same_ite
    | with_reducible apply same_foldl
    | with_reducible apply sameR_next
    | with_reducible apply same_foldl1
    | with_reducible apply same_ite1
    | split
    | dsimp only
    | with_reducible apply same_rol

theorem State.endLead_same (s : State) (hkm : Sub 16777218 km) (h0 : Same km ka s) : Same km ka (State.endLead s) := by
  unfold State.endLead
  try dsimp only
  repeat' first
    | with_reducible assumption
    | exact Sub.trans rfl hkm
    | intro _
    | with_reducible apply State.inc_same
    | with_reducible apply State.f_same
    | with_reducible apply same_ite
    | with_reducible apply same_foldl
    | with_reducible apply sameR_next
    | with_reducible apply same_foldl1
    | with_reducible apply same_ite1
    | split
    | dsimp only
    | with_reducible apply same_rol

theorem State.lead_same (s : State) (r : RoundS) (hkm : Sub 33308390 km) (h0 : Same km ka s) : Same km ka (State.lead s r) := by
  unfold State.lead
  try dsimp only
  repeat' first
    | with_reducible assumption
    | exact Sub.trans rfl hkm
    | intro _
    | with_reducible apply State.drew_same
    | with_reducible apply State.leadTime_same
    | with_reducible apply State.inc_same
    | with_reducible apply State.incBy_same
    | with_reducible apply State.sendElect_same
    | with_reducible apply State.adoptDir_same
    | with_reducible apply State.endLead_same
    | with_reducible apply same_ite
    | with_reducible apply same_foldl
    | with_reducible apply sameR_next
    | with_reducible apply same_foldl1
    | with_reducible apply same_ite1
    | split
    | dsimp only
    | with_reducible apply same_rol

theorem execSettleExpiry_same (s : State) (hkm : Sub 33308390 km) (h0 : Same km ka s) : SameR km ka (execSettleExpiry s) := by
  unfold execSettleExpiry
  try dsimp only
  repeat' first
    | with_reducible assumption
    | exact Sub.trans rfl hkm
    | intro _
    | with_reducible apply State.lead_same
    | with_reducible apply State.modRound_same
    | with_reducible apply State.sendElect_same
    | with_reducible apply same_ite
    | with_reducible apply same_foldl
    | with_reducible apply sameR_next
    | with_reducible apply same_foldl1
    | with_reducible apply same_ite1
    | split

theorem State.ackUp_same (s : State) (r : RoundS) (hkm : Sub 25165858 km) (h0 : Same km ka s) : Same km ka (State.ackUp s r) := by
  unfold State.ackUp
  try dsimp only
  repeat' first
    | with_reducible assumption
    | exact Sub.trans rfl hkm
    | intro _
    | with_reducible apply State.sendElect_same
    | with_reducible apply State.f_same
    | with_reducible apply same_ite
    | with_reducible apply same_foldl
    | with_reducible apply sameR_next
    | with_reducible apply same_foldl1
    | with_reducible apply same_ite1
    | split
    | dsimp only
    | with_reducible apply same_rol

theorem execDirectory_same (s : State) (hkm : Sub 33299106 km) (h0 : Same km ka s) : SameR km ka (execDirectory s) := by
  unfold execDirectory
  try dsimp only
  repeat' first
    | with_reducible assumption
    | exact Sub.trans rfl hkm
    | intro _
    | with_reducible apply State.onElect_same
    | with_reducible apply State.adoptDir_same
    | with_reducible apply State.sendElect_same
    | with_reducible apply State.ackUp_same
    | with_reducible apply same_ite
    | with_reducible apply same_foldl
    | with_reducible apply sameR_next
    | with_reducible apply same_foldl1
    | with_reducible apply same_ite1
    | split

theorem execDirack_same (s : State) (hkm : Sub 25165858 km) (h0 : Same km ka s) : SameR km ka (execDirack s) := by
  unfold execDirack
  try dsimp only
  repeat' first
    | with_reducible assumption
    | exact Sub.trans rfl hkm
    | intro _
    | with_reducible apply State.onElect_same
    | with_reducible apply State.modRound_same
    | with_reducible apply State.endLead_same
    | with_reducible apply State.ackUp_same
    | with_reducible apply same_ite
    | with_reducible apply same_foldl
    | with_reducible apply sameR_next
    | with_reducible apply same_foldl1
    | with_reducible apply same_ite1
    | split

theorem execRolCounterClr_same (s : State) (hkm : Sub 25168418 km) (h0 : Same km ka s) : SameR km ka (execRolCounterClr s) := by
  unfold execRolCounterClr
  try dsimp only
  repeat' first
    | with_reducible assumption
    | exact Sub.trans rfl hkm
    | intro _
    | with_reducible apply State.barWrite_same
    | with_reducible apply State.rolCtlWrite_same
    | with_reducible apply same_ite
    | with_reducible apply same_foldl
    | with_reducible apply sameR_next

end Sys2Proof.Machine
end

