-- ==== Sys2Proof/Laws/SameCfg.lean ====
section
/-! SUPPORT. What the operations of Machine/Cfg.lean keep (Laws/Same.lean). -/
set_option Elab.async false
namespace Sys2Proof.Machine

variable {km : Nat} {ka : State}

theorem State.rsEnd_same (s : State) (st : Nat) (hkm : Sub 546 km) (h0 : Same km ka s) : Same km ka (State.rsEnd s st) := by
  unfold State.rsEnd
  try dsimp only
  repeat' first
    | with_reducible assumption
    | exact Sub.trans rfl hkm
    | intro _
    | with_reducible apply State.f_same
    | with_reducible apply State.discard_same
    | with_reducible apply same_ite

theorem State.cfgFails_same (s : State) (r : CfgReqS) (code : Nat) (hkm : Sub 31457826 km) (h0 : Same km ka s) : Same km ka (State.cfgFails s r code) := by
  unfold State.cfgFails
  try dsimp only
  repeat' first
    | with_reducible assumption
    | exact Sub.trans rfl hkm
    | intro _
    | with_reducible apply State.distFail_same
    | with_reducible apply State.rsEnd_same
    | with_reducible apply State.distAcked_same
    | with_reducible apply State.hubLasting_same
    | with_reducible apply State.inc_same
    | with_reducible apply same_ite
    | with_reducible apply same_foldl
    | with_reducible apply sameR_next
    | with_reducible apply same_foldl1
    | with_reducible apply same_ite1
    | split
    | dsimp only
    | with_reducible apply same_rol

theorem execConfigTimeout_same (tag : Nat) (s : State) (hkm : Sub 31457826 km) (h0 : Same km ka s) : SameR km ka (execConfigTimeout tag s) := by
  unfold execConfigTimeout
  try dsimp only
  repeat' first
    | with_reducible assumption
    | exact Sub.trans rfl hkm
    | intro _
    | with_reducible apply State.cfgFails_same
    | with_reducible apply State.sendMsg_same
    | with_reducible apply same_ite
    | with_reducible apply same_foldl
    | with_reducible apply sameR_next
    | with_reducible apply same_foldl1
    | with_reducible apply same_ite1
    | split
    | dsimp only
    | with_reducible apply same_rol

theorem State.rsctlWrite_same (s : State) (v : Word) (hkm : Sub 25166370 km) (h0 : Same km ka s) : Same km ka (State.rsctlWrite s v) := by
  unfold State.rsctlWrite
  try dsimp only
  repeat' first
    | with_reducible assumption
    | exact Sub.trans rfl hkm
    | intro _
    | with_reducible apply State.discard_same
    | with_reducible apply State.f_same
    | with_reducible apply State.cfgSend_same
    | with_reducible apply same_ite
    | with_reducible apply same_foldl
    | with_reducible apply sameR_next
    | with_reducible apply same_foldl1
    | with_reducible apply same_ite1
    | split

theorem execRemoteSetupGo_same (wr : Bool) (s : State) (hkm : Sub 25168418 km) (h0 : Same km ka s) : SameR km ka (execRemoteSetupGo wr s) := by
  unfold execRemoteSetupGo
  try dsimp only
  repeat' first
    | with_reducible assumption
    | exact Sub.trans rfl hkm
    | intro _
    | with_reducible apply State.barWrite_same
    | with_reducible apply State.rsctlWrite_same
    | with_reducible apply same_ite
    | with_reducible apply same_foldl
    | with_reducible apply sameR_next

theorem State.pushStale_same (s : State) (x : StaleS) (hkm : Sub 16777216 km) (h0 : Same km ka s) : Same km ka (State.pushStale s x) := by
  unfold State.pushStale
  try dsimp only
  repeat' first
    | with_reducible assumption
    | exact Sub.trans rfl hkm
    | intro _
    | with_reducible apply same_ite
    | with_reducible apply same_foldl
    | with_reducible apply sameR_next
    | with_reducible apply same_foldl1
    | with_reducible apply same_ite1
    | split
    | dsimp only
    | with_reducible apply same_rol

theorem State.rejectCmd_same (s : State) (src : Nat) (ty : Nat) (tag : Nat) (code : Nat) (epoch : Nat) (hkm : Sub 29622310 km) (h0 : Same km ka s) : Same km ka (State.rejectCmd s src ty tag code epoch) := by
  unfold State.rejectCmd
  try dsimp only
  repeat' first
    | with_reducible assumption
    | exact Sub.trans rfl hkm
    | intro _
    | with_reducible apply State.pushStale_same
    | with_reducible apply State.issue_same
    | with_reducible apply State.remDone_same
    | with_reducible apply State.dropTag_same
    | with_reducible apply same_ite
    | with_reducible apply same_foldl
    | with_reducible apply sameR_next
    | with_reducible apply same_foldl1
    | with_reducible apply same_ite1
    | split
    | dsimp only
    | with_reducible apply same_rng

theorem State.blockCask_same (s : State) (c : CaskS) (b : Nat) (hkm : Sub 4194304 km) (h0 : Same km ka s) : Same km ka (State.blockCask s c b) := by
  unfold State.blockCask
  try dsimp only
  repeat' first
    | with_reducible assumption
    | exact Sub.trans rfl hkm
    | intro _
    | with_reducible apply same_ite
    | with_reducible apply same_foldl
    | with_reducible apply sameR_next
    | with_reducible apply same_foldl1
    | with_reducible apply same_ite1
    | split
    | dsimp only
    | with_reducible apply same_rng

theorem State.rejectCask_same (s : State) (src : Nat) (pcn : Nat) (code : Nat) (epoch : Nat) (hkm : Sub 29360162 km) (h0 : Same km ka s) : Same km ka (State.rejectCask s src pcn code epoch) := by
  unfold State.rejectCask
  try dsimp only
  repeat' first
    | with_reducible assumption
    | exact Sub.trans rfl hkm
    | intro _
    | with_reducible apply State.pushStale_same
    | with_reducible apply State.blockCask_same
    | with_reducible apply State.hubLasting_same
    | with_reducible apply same_ite
    | with_reducible apply same_foldl
    | with_reducible apply sameR_next
    | with_reducible apply same_foldl1
    | with_reducible apply same_ite1
    | split

theorem State.tenLasting_same (s : State) (uid : Nat) (code : Nat) (hkm : Sub 12582946 km) (h0 : Same km ka s) : Same km ka (State.tenLasting s uid code) := by
  unfold State.tenLasting
  try dsimp only
  repeat' first
    | with_reducible assumption
    | exact Sub.trans rfl hkm
    | intro _
    | with_reducible apply State.record_same
    | with_reducible apply same_ite
    | with_reducible apply same_foldl
    | with_reducible apply sameR_next
    | with_reducible apply same_foldl1
    | with_reducible apply same_ite1
    | split

theorem State.rejectLast_same (s : State) (m : SentS) (code : Nat) (hkm : Sub 31457826 km) (h0 : Same km ka s) : Same km ka (State.rejectLast s m code) := by
  unfold State.rejectLast
  try dsimp only
  repeat' first
    | with_reducible assumption
    | exact Sub.trans rfl hkm
    | intro _
    | with_reducible apply State.cfgFails_same
    | with_reducible apply State.hubLasting_same
    | with_reducible apply State.pushStale_same
    | with_reducible apply State.tenLasting_same
    | with_reducible apply same_ite
    | with_reducible apply same_foldl
    | with_reducible apply sameR_next
    | with_reducible apply same_foldl1
    | with_reducible apply same_ite1
    | split
    | dsimp only
    | with_reducible apply same_rng

theorem State.rejectOther_same (s : State) (src : Nat) (cls : Nat) (ty : Nat) (ref : Nat) (code : Nat) (epoch : Nat) (hkm : Sub 31457826 km) (h0 : Same km ka s) : Same km ka (State.rejectOther s src cls ty ref code epoch) := by
  unfold State.rejectOther
  try dsimp only
  repeat' first
    | with_reducible assumption
    | exact Sub.trans rfl hkm
    | intro _
    | with_reducible apply State.pushStale_same
    | with_reducible apply State.rejectLast_same
    | with_reducible apply same_ite
    | with_reducible apply same_foldl
    | with_reducible apply sameR_next
    | with_reducible apply same_foldl1
    | with_reducible apply same_ite1
    | split
    | dsimp only
    | with_reducible apply same_bnd

theorem execReject_same (s : State) (hkm : Sub 31719974 km) (h0 : Same km ka s) : SameR km ka (execReject s) := by
  unfold execReject
  try dsimp only
  repeat' first
    | with_reducible assumption
    | exact Sub.trans rfl hkm
    | intro _
    | with_reducible apply State.rejectCmd_same
    | with_reducible apply State.rejectCask_same
    | with_reducible apply State.rejectOther_same
    | with_reducible apply same_ite
    | with_reducible apply same_foldl
    | with_reducible apply sameR_next
    | with_reducible apply same_foldl1
    | with_reducible apply same_ite1
    | split
    | dsimp only
    | (refine State.takeMsg_same (Sub.trans rfl hkm) ?_ (by with_reducible assumption))

theorem State.resendStale_same (s : State) (x : StaleS) (hkm : Sub 31457826 km) (h0 : Same km ka s) : Same km ka (State.resendStale s x) := by
  unfold State.resendStale
  try dsimp only
  repeat' first
    | with_reducible assumption
    | exact Sub.trans rfl hkm
    | with_reducible exact Or.inr (Sub.trans rfl hkm)
    | with_reducible exact Or.inl rfl
    | intro _
    | with_reducible apply State.sendImage_same
    | with_reducible apply State.inc_same
    | with_reducible apply State.sendMsg_same
    | with_reducible apply State.flushFwd_same
    | with_reducible apply State.rejectLast_same
    | with_reducible apply same_ite
    | with_reducible apply same_foldl
    | with_reducible apply sameR_next
    | with_reducible apply same_foldl1
    | with_reducible apply same_ite1
    | split
    | dsimp only
    | with_reducible apply same_rng
    | with_reducible apply same_bnd

theorem execStaleResend_same (s : State) (hkm : Sub 31457826 km) (h0 : Same km ka s) : SameR km ka (execStaleResend s) := by
  unfold execStaleResend
  try dsimp only
  repeat' first
    | with_reducible assumption
    | exact Sub.trans rfl hkm
    | intro _
    | with_reducible apply State.resendStale_same
    | with_reducible apply same_ite
    | with_reducible apply same_foldl
    | with_reducible apply sameR_next
    | with_reducible apply same_foldl1
    | with_reducible apply same_ite1
    | split
    | dsimp only
    | with_reducible apply same_rol

theorem State.sendState_same (s : State) (p : Nat) (hkm : Sub 25165858 km) (h0 : Same km ka s) : Same km ka (State.sendState s p) := by
  unfold State.sendState
  try dsimp only
  repeat' first
    | with_reducible assumption
    | exact Sub.trans rfl hkm
    | intro _
    | with_reducible apply State.cfgSend_same
    | with_reducible apply same_ite
    | with_reducible apply same_foldl
    | with_reducible apply sameR_next
    | with_reducible apply same_foldl1
    | with_reducible apply same_ite1
    | split
    | dsimp only
    | with_reducible apply same_rol

theorem execStateTransferStart_same (s : State) (hkm : Sub 25165858 km) (h0 : Same km ka s) : SameR km ka (execStateTransferStart s) := by
  unfold execStateTransferStart
  try dsimp only
  repeat' first
    | with_reducible assumption
    | exact Sub.trans rfl hkm
    | intro _
    | with_reducible apply State.sendState_same
    | with_reducible apply same_ite
    | with_reducible apply same_foldl
    | with_reducible apply sameR_next
    | with_reducible apply same_foldl1
    | with_reducible apply same_ite1
    | split
    | dsimp only
    | with_reducible apply same_rol

theorem State.cfgRequest_same (s : State) (ty : Nat) (f : State → Nat → Nat → List Nat → State) (hkm : Sub 8388642 km) (h0 : Same km ka s) (hff : ∀ y0 y1 y2 y3, Same km ka y0 → Same km ka (f y0 y1 y2 y3)) : Same km ka (State.cfgRequest s ty f) := by
  unfold State.cfgRequest
  try dsimp only
  repeat' first
    | with_reducible assumption
    | exact Sub.trans rfl hkm
    | intro _
    | with_reducible apply hff
    | with_reducible apply State.sendReject_same
    | with_reducible apply State.sendMsg_same
    | with_reducible apply same_ite
    | with_reducible apply same_foldl
    | with_reducible apply sameR_next
    | with_reducible apply same_foldl1
    | with_reducible apply same_ite1
    | split
    | dsimp only
    | (refine State.takeMsg_same (Sub.trans rfl hkm) ?_ (by with_reducible assumption))

theorem State.cfgStatus_same (s : State) (dst : Nat) (tag : Nat) (ty : Nat) (st : Nat) (hkm : Sub 25165858 km) (h0 : Same km ka s) : Same km ka (State.cfgStatus s dst tag ty st) := by
  unfold State.cfgStatus
  try dsimp only
  repeat' first
    | with_reducible assumption
    | exact Sub.trans rfl hkm
    | intro _
    | with_reducible apply State.cfgAnswer_same

theorem execPrepare_same (s : State) (hkm : Sub 25165858 km) (h0 : Same km ka s) : SameR km ka (execPrepare s) := by
  unfold execPrepare
  try dsimp only
  repeat' first
    | with_reducible assumption
    | exact Sub.trans rfl hkm
    | intro _
    | with_reducible apply State.cfgRequest_same
    | with_reducible apply State.cfgStatus_same
    | with_reducible apply same_ite
    | with_reducible apply same_foldl
    | with_reducible apply sameR_next
    | with_reducible apply same_foldl1
    | with_reducible apply same_ite1
    | split
    | dsimp only
    | with_reducible apply same_rol

theorem State.cfgReply_same (s : State) (ty : Nat) (asks : List Nat) (f : State → CfgReqS → List Nat → State) (hkm : Sub 25165826 km) (h0 : Same km ka s) (hff : ∀ y0 y1 y2, Same km ka y0 → Same km ka (f y0 y1 y2)) : Same km ka (State.cfgReply s ty asks f) := by
  unfold State.cfgReply
  try dsimp only
  repeat' first
    | with_reducible assumption
    | exact Sub.trans rfl hkm
    | intro _
    | with_reducible apply hff
    | with_reducible apply State.inc_same
    | with_reducible apply same_ite
    | with_reducible apply same_foldl
    | with_reducible apply sameR_next
    | with_reducible apply same_foldl1
    | with_reducible apply same_ite1
    | split
    | dsimp only
    | (refine State.takeMsg_same (Sub.trans rfl hkm) ?_ (by with_reducible assumption))
    | with_reducible apply same_rol

theorem execPrepared_same (s : State) (hkm : Sub 66853410 km) (h0 : Same km ka s) : SameR km ka (execPrepared s) := by
  unfold execPrepared
  try dsimp only
  repeat' first
    | with_reducible assumption
    | exact Sub.trans rfl hkm
    | intro _
    | with_reducible apply State.cfgReply_same
    | with_reducible apply State.distPrepared_same
    | with_reducible apply same_ite
    | with_reducible apply same_foldl
    | with_reducible apply sameR_next

theorem execConfigCommit_same (s : State) (hkm : Sub 66853410 km) (h0 : Same km ka s) : SameR km ka (execConfigCommit s) := by
  unfold execConfigCommit
  try dsimp only
  repeat' first
    | with_reducible assumption
    | exact Sub.trans rfl hkm
    | intro _
    | with_reducible apply State.cfgRequest_same
    | with_reducible apply State.cfgStatus_same
    | with_reducible apply State.applyItem_same
    | with_reducible apply State.newGen_same
    | with_reducible apply State.releaseHeld_same
    | with_reducible apply same_ite
    | with_reducible apply same_foldl
    | with_reducible apply sameR_next
    | with_reducible apply same_foldl1
    | with_reducible apply same_ite1
    | split
    | dsimp only
    | with_reducible apply same_rol

theorem execWithdraw_same (s : State) (hkm : Sub 25165858 km) (h0 : Same km ka s) : SameR km ka (execWithdraw s) := by
  unfold execWithdraw
  try dsimp only
  repeat' first
    | with_reducible assumption
    | exact Sub.trans rfl hkm
    | intro _
    | with_reducible apply State.cfgRequest_same
    | with_reducible apply State.cfgStatus_same
    | with_reducible apply same_ite
    | with_reducible apply same_foldl
    | with_reducible apply sameR_next
    | with_reducible apply same_foldl1
    | with_reducible apply same_ite1
    | split
    | dsimp only
    | with_reducible apply same_rol

theorem execRegresult_same (s : State) (hkm : Sub 25166370 km) (h0 : Same km ka s) : SameR km ka (execRegresult s) := by
  unfold execRegresult
  try dsimp only
  repeat' first
    | with_reducible assumption
    | exact Sub.trans rfl hkm
    | intro _
    | with_reducible apply State.cfgReply_same
    | with_reducible apply State.f_same
    | with_reducible apply State.rsEnd_same
    | with_reducible apply same_ite
    | with_reducible apply same_foldl
    | with_reducible apply sameR_next

theorem execState_same (s : State) (hkm : Sub 25165858 km) (h0 : Same km ka s) : SameR km ka (execState s) := by
  unfold execState
  try dsimp only
  repeat' first
    | with_reducible assumption
    | exact Sub.trans rfl hkm
    | intro _
    | with_reducible apply State.cfgRequest_same
    | with_reducible apply State.cfgStatus_same
    | with_reducible apply same_ite
    | with_reducible apply same_foldl
    | with_reducible apply sameR_next
    | with_reducible apply same_foldl1
    | with_reducible apply same_ite1
    | split
    | dsimp only
    | with_reducible apply same_rol

theorem State.resolveCasks_same (s : State) (hkm : Sub 4196898 km) (h0 : Same km ka s) : Same km ka (State.resolveCasks s) := by
  unfold State.resolveCasks
  try dsimp only
  repeat' first
    | with_reducible assumption
    | exact Sub.trans rfl hkm
    | intro _
    | with_reducible apply State.countLost_same
    | with_reducible apply State.showCbuf_same
    | with_reducible apply same_ite
    | with_reducible apply same_foldl
    | with_reducible apply sameR_next
    | with_reducible apply same_foldl1
    | with_reducible apply same_ite1
    | split
    | dsimp only
    | with_reducible apply same_rng

theorem State.applyTransfer_same (s : State) (hkm : Sub 50076194 km) (h0 : Same km ka s) : Same km ka (State.applyTransfer s) := by
  unfold State.applyTransfer
  try dsimp only
  repeat' first
    | with_reducible assumption
    | exact Sub.trans rfl hkm
    | intro _
    | with_reducible apply State.freeRest_same
    | with_reducible apply State.tenantEnds_same
    | with_reducible apply State.applyDef_same
    | with_reducible apply State.bindNode_same
    | with_reducible apply State.rebind_same
    | with_reducible apply State.endLeases_same
    | with_reducible apply State.resolveCasks_same
    | with_reducible apply same_ite
    | with_reducible apply same_foldl
    | with_reducible apply sameR_next
    | with_reducible apply same_foldl1
    | with_reducible apply same_ite1
    | split
    | dsimp only
    | with_reducible apply same_ten

theorem execGenset_same (s : State) (hkm : Sub 66853410 km) (h0 : Same km ka s) : SameR km ka (execGenset s) := by
  unfold execGenset
  try dsimp only
  repeat' first
    | with_reducible assumption
    | exact Sub.trans rfl hkm
    | intro _
    | with_reducible apply State.cfgRequest_same
    | with_reducible apply State.applyTransfer_same
    | with_reducible apply State.cfgAnswer_same
    | with_reducible apply State.f_same
    | with_reducible apply State.releaseHeld_same
    | with_reducible apply State.resendFwd_same
    | with_reducible apply same_ite
    | with_reducible apply same_foldl
    | with_reducible apply sameR_next
    | with_reducible apply same_foldl1
    | with_reducible apply same_ite1
    | split
    | dsimp only
    | with_reducible apply same_rol

theorem execGenack_same (s : State) (hkm : Sub 25165826 km) (h0 : Same km ka s) : SameR km ka (execGenack s) := by
  unfold execGenack
  try dsimp only
  repeat' first
    | with_reducible assumption
    | exact Sub.trans rfl hkm
    | intro _
    | with_reducible apply State.cfgReply_same
    | with_reducible apply State.showDir_same
    | with_reducible apply same_ite
    | with_reducible apply same_foldl
    | with_reducible apply sameR_next
    | with_reducible apply same_foldl1
    | with_reducible apply same_ite1
    | split
    | dsimp only
    | with_reducible apply same_rol

theorem execConfigAck_same (s : State) (hkm : Sub 31457314 km) (h0 : Same km ka s) : SameR km ka (execConfigAck s) := by
  unfold execConfigAck
  try dsimp only
  repeat' first
    | with_reducible assumption
    | exact Sub.trans rfl hkm
    | intro _
    | with_reducible apply State.cfgReply_same
    | with_reducible apply State.distAcked_same
    | with_reducible apply same_ite
    | with_reducible apply same_foldl
    | with_reducible apply sameR_next

end Sys2Proof.Machine
end

