-- ==== Sys2Proof/Laws/SameIcu.lean ====
section
/-! SUPPORT. What the operations of Machine/Icu.lean keep (Laws/Same.lean). -/
set_option Elab.async false
namespace Sys2Proof.Machine

variable {km : Nat} {ka : State}

theorem State.setStack_same (s : State) (k : Nat) (st : List (Nat × Nat)) (hkm : Sub 514 km) (h0 : Same km ka s) : Same km ka (State.setStack s k st) := by
  unfold State.setStack
  try dsimp only
  repeat' first
    | with_reducible assumption
    | exact Sub.trans rfl hkm
    | intro _
    | with_reducible apply State.setTgt_same
    | with_reducible apply State.f_same

theorem State.settleAt_same (s : State) (k : Nat) (hkm : Sub 546 km) (h0 : Same km ka s) : Same km ka (State.settleAt s k) := by
  unfold State.settleAt
  try dsimp only
  repeat' first
    | with_reducible assumption
    | exact Sub.trans rfl hkm
    | intro _
    | with_reducible apply State.settleSrc_same
    | with_reducible apply State.announce_same
    | with_reducible apply State.icuSts_same
    | with_reducible apply same_ite
    | with_reducible apply same_foldl

theorem execEoi_same (k : Nat) (v : Word) (s : State) (hkm : Sub 2594 km) (h0 : Same km ka s) : SameR km ka (execEoi k v s) := by
  unfold execEoi
  try dsimp only
  repeat' first
    | with_reducible assumption
    | exact Sub.trans rfl hkm
    | intro _
    | with_reducible apply State.wakeDoze_same
    | with_reducible apply State.clockStopped_same
    | with_reducible apply State.setStack_same
    | with_reducible apply State.setTgt_same
    | with_reducible apply State.setSrc_same
    | with_reducible apply State.settleAt_same
    | with_reducible apply State.inc_same
    | with_reducible apply same_ite
    | with_reducible apply same_foldl
    | with_reducible apply sameR_next
    | with_reducible apply same_foldl1
    | with_reducible apply same_ite1
    | split

theorem State.clearForces_same (s : State) (hkm : Sub 512 km) (h0 : Same km ka s) : Same km ka (State.clearForces s) := by
  unfold State.clearForces
  try dsimp only
  repeat' first
    | with_reducible assumption
    | exact Sub.trans rfl hkm
    | intro _
    | with_reducible apply State.setSrc_same
    | with_reducible apply same_ite
    | with_reducible apply same_foldl

theorem State.icuCfgWrite_same (s : State) (v : Word) (hkm : Sub 546 km) (h0 : Same km ka s) : Same km ka (State.icuCfgWrite s v) := by
  unfold State.icuCfgWrite
  try dsimp only
  repeat' first
    | with_reducible assumption
    | exact Sub.trans rfl hkm
    | intro _
    | with_reducible apply State.store_same
    | with_reducible apply State.clearForces_same
    | with_reducible apply State.settle_same
    | with_reducible apply State.announceAll_same
    | with_reducible apply same_ite

theorem State.srcCommit_same (s : State) (n : Nat) (hkm : Sub 546 km) (h0 : Same km ka s) : Same km ka (State.srcCommit s n) := by
  unfold State.srcCommit
  try dsimp only
  repeat' first
    | with_reducible assumption
    | exact Sub.trans rfl hkm
    | intro _
    | with_reducible apply State.discard_same
    | with_reducible apply State.setSrc_same
    | with_reducible apply State.settle_same
    | with_reducible apply same_ite

theorem State.srcLoad_same (s : State) (n : Nat) (hkm : Sub 2 km) (h0 : Same km ka s) : Same km ka (State.srcLoad s n) := by
  unfold State.srcLoad
  try dsimp only
  repeat' first
    | with_reducible assumption
    | exact Sub.trans rfl hkm
    | intro _
    | with_reducible apply State.f_same

theorem State.srcIdxWrite_same (s : State) (v : Word) (hkm : Sub 546 km) (h0 : Same km ka s) : Same km ka (State.srcIdxWrite s v) := by
  unfold State.srcIdxWrite
  try dsimp only
  repeat' first
    | with_reducible assumption
    | exact Sub.trans rfl hkm
    | intro _
    | with_reducible apply State.discard_same
    | with_reducible apply State.srcCommit_same
    | with_reducible apply State.srcLoad_same
    | with_reducible apply same_ite

theorem State.hubSetWrite_same (s : State) (v : Word) (hkm : Sub 546 km) (h0 : Same km ka s) : Same km ka (State.hubSetWrite s v) := by
  unfold State.hubSetWrite
  try dsimp only
  repeat' first
    | with_reducible assumption
    | exact Sub.trans rfl hkm
    | intro _
    | with_reducible apply State.raiseHub_same
    | with_reducible apply same_ite

theorem State.forceOn_same (s : State) (n : Nat) (hkm : Sub 546 km) (h0 : Same km ka s) : Same km ka (State.forceOn s n) := by
  unfold State.forceOn
  try dsimp only
  repeat' first
    | with_reducible assumption
    | exact Sub.trans rfl hkm
    | intro _
    | with_reducible apply State.setSrc_same
    | with_reducible apply State.settle_same
    | with_reducible apply State.arrive_same
    | with_reducible apply same_ite

theorem State.forceWrite_same (s : State) (v : Word) (hkm : Sub 546 km) (h0 : Same km ka s) : Same km ka (State.forceWrite s v) := by
  unfold State.forceWrite
  try dsimp only
  repeat' first
    | with_reducible assumption
    | exact Sub.trans rfl hkm
    | intro _
    | with_reducible apply State.discard_same
    | with_reducible apply State.forceOn_same
    | with_reducible apply State.settle_same
    | with_reducible apply State.setSrc_same
    | with_reducible apply same_ite

theorem State.tgtWrite_same (s : State) (k : Nat) (v : Word) (hkm : Sub 546 km) (h0 : Same km ka s) : Same km ka (State.tgtWrite s k v) := by
  unfold State.tgtWrite
  try dsimp only
  repeat' first
    | with_reducible assumption
    | exact Sub.trans rfl hkm
    | intro _
    | with_reducible apply State.discard_same
    | with_reducible apply State.settle_same
    | with_reducible apply State.store_same
    | with_reducible apply same_ite

theorem State.resetIcu_same (s : State) (hkm : Sub 546 km) (h0 : Same km ka s) : Same km ka (State.resetIcu s) := by
  unfold State.resetIcu
  try dsimp only
  repeat' first
    | with_reducible assumption
    | exact Sub.trans rfl hkm
    | intro _
    | with_reducible apply State.setSrc_same
    | with_reducible apply State.setStack_same
    | with_reducible apply State.settle_same
    | with_reducible apply State.f_same
    | with_reducible apply same_ite
    | with_reducible apply same_foldl
    | with_reducible apply sameR_next
    | with_reducible apply same_foldl1
    | with_reducible apply same_ite1
    | split
    | dsimp only
    | with_reducible apply same_icu

theorem State.take_same (s : State) (k : Nat) (n : Nat) (hkm : Sub 554 km) (h0 : Same km ka s) : Same km ka (State.take s k n) := by
  unfold State.take
  try dsimp only
  repeat' first
    | with_reducible assumption
    | exact Sub.trans rfl hkm
    | intro _
    | with_reducible apply State.setStack_same
    | with_reducible apply State.setTgt_same
    | with_reducible apply State.setSrc_same
    | with_reducible apply State.settle_same
    | with_reducible apply same_ite
    | with_reducible apply same_foldl
    | with_reducible apply sameR_next
    | with_reducible apply same_foldl1
    | with_reducible apply same_ite1
    | split
    | dsimp only
    | with_reducible apply same_rdata

theorem execClaim_same (k : Nat) (s : State) (hkm : Sub 2602 km) (h0 : Same km ka s) : SameR km ka (execClaim k s) := by
  unfold execClaim
  try dsimp only
  repeat' first
    | with_reducible assumption
    | exact Sub.trans rfl hkm
    | intro _
    | with_reducible apply State.wakeDoze_same
    | with_reducible apply State.readStopped_same
    | with_reducible apply State.inc_same
    | with_reducible apply State.take_same
    | with_reducible apply same_ite
    | with_reducible apply same_foldl
    | with_reducible apply sameR_next
    | with_reducible apply same_foldl1
    | with_reducible apply same_ite1
    | split
    | dsimp only
    | with_reducible apply same_rdata

theorem execSourceCommit_same (n : Nat) (s : State) (hkm : Sub 2594 km) (h0 : Same km ka s) : SameR km ka (execSourceCommit n s) := by
  unfold execSourceCommit
  try dsimp only
  repeat' first
    | with_reducible assumption
    | exact Sub.trans rfl hkm
    | intro _
    | with_reducible apply State.barWrite_same
    | with_reducible apply State.srcIdxWrite_same
    | with_reducible apply same_ite
    | with_reducible apply same_foldl
    | with_reducible apply sameR_next

theorem execSourceRead_same (n : Nat) (s : State) (hkm : Sub 2594 km) (h0 : Same km ka s) : SameR km ka (execSourceRead n s) := by
  unfold execSourceRead
  try dsimp only
  repeat' first
    | with_reducible assumption
    | exact Sub.trans rfl hkm
    | intro _
    | with_reducible apply State.barWrite_same
    | with_reducible apply State.srcIdxWrite_same
    | with_reducible apply same_ite
    | with_reducible apply same_foldl
    | with_reducible apply sameR_next

theorem execHubLatchClear_same (hkm : Sub 2594 km) (hi : Bool) (v : Word) (s : State) (h0 : Same km ka s) : SameR km ka (execHubLatchClear hi v s) := by
  unfold execHubLatchClear
  try dsimp only
  repeat' first
    | with_reducible assumption
    | exact Sub.trans rfl hkm
    | intro _
    | with_reducible apply State.barWrite_same
    | with_reducible apply State.settle_same
    | with_reducible apply State.store_same
    | with_reducible apply same_ite
    | with_reducible apply same_foldl
    | with_reducible apply sameR_next

theorem execHubset_same (v : Word) (s : State) (hkm : Sub 2594 km) (h0 : Same km ka s) : SameR km ka (execHubset v s) := by
  unfold execHubset
  try dsimp only
  repeat' first
    | with_reducible assumption
    | exact Sub.trans rfl hkm
    | intro _
    | with_reducible apply State.barWrite_same
    | with_reducible apply State.hubSetWrite_same
    | with_reducible apply same_ite
    | with_reducible apply same_foldl
    | with_reducible apply sameR_next

theorem execForceSet_same (n : Nat) (s : State) (hkm : Sub 2594 km) (h0 : Same km ka s) : SameR km ka (execForceSet n s) := by
  unfold execForceSet
  try dsimp only
  repeat' first
    | with_reducible assumption
    | exact Sub.trans rfl hkm
    | intro _
    | with_reducible apply State.barWrite_same
    | with_reducible apply State.forceWrite_same
    | with_reducible apply same_ite
    | with_reducible apply same_foldl
    | with_reducible apply sameR_next

theorem execForceClr_same (n : Nat) (s : State) (hkm : Sub 2594 km) (h0 : Same km ka s) : SameR km ka (execForceClr n s) := by
  unfold execForceClr
  try dsimp only
  repeat' first
    | with_reducible assumption
    | exact Sub.trans rfl hkm
    | intro _
    | with_reducible apply State.barWrite_same
    | with_reducible apply State.forceWrite_same
    | with_reducible apply same_ite
    | with_reducible apply same_foldl
    | with_reducible apply sameR_next

theorem execIcuConfigWrite_same (v : Word) (s : State) (hkm : Sub 2594 km) (h0 : Same km ka s) : SameR km ka (execIcuConfigWrite v s) := by
  unfold execIcuConfigWrite
  try dsimp only
  repeat' first
    | with_reducible assumption
    | exact Sub.trans rfl hkm
    | intro _
    | with_reducible apply State.barWrite_same
    | with_reducible apply State.icuCfgWrite_same
    | with_reducible apply same_ite
    | with_reducible apply same_foldl
    | with_reducible apply sameR_next

theorem execMsixUnmask_same (k : Nat) (s : State) (hkm : Sub 546 km) (h0 : Same km ka s) : SameR km ka (execMsixUnmask k s) := by
  unfold execMsixUnmask
  try dsimp only
  repeat' first
    | with_reducible assumption
    | exact Sub.trans rfl hkm
    | intro _
    | with_reducible apply State.flushMsix_same
    | with_reducible apply State.setMsix_same
    | with_reducible apply same_ite
    | with_reducible apply same_foldl
    | with_reducible apply sameR_next
    | with_reducible apply same_foldl1
    | with_reducible apply same_ite1
    | split
    | dsimp only
    | with_reducible apply same_icu

theorem execIcuCounterClr_same (v : Word) (s : State) (hkm : Sub 2594 km) (h0 : Same km ka s) : SameR km ka (execIcuCounterClr v s) := by
  unfold execIcuCounterClr
  try dsimp only
  repeat' first
    | with_reducible assumption
    | exact Sub.trans rfl hkm
    | intro _
    | with_reducible apply State.barWrite_same
    | with_reducible apply State.clrWrite_same
    | with_reducible apply same_ite
    | with_reducible apply same_foldl
    | with_reducible apply sameR_next

theorem execCoalesceTimeout_same (s : State) (hkm : Sub 546 km) (h0 : Same km ka s) : SameR km ka (execCoalesceTimeout s) := by
  unfold execCoalesceTimeout
  try dsimp only
  repeat' first
    | with_reducible assumption
    | exact Sub.trans rfl hkm
    | intro _
    | with_reducible apply State.settle_same
    | with_reducible apply same_ite
    | with_reducible apply same_foldl
    | with_reducible apply sameR_next

end Sys2Proof.Machine
end

