-- ==== Sys2Proof/Laws/SameEvm.lean ====
section
/-! SUPPORT. What the operations of Machine/Evm.lean keep (Laws/Same.lean). -/
set_option Elab.async false
namespace Sys2Proof.Machine

variable {km : Nat} {ka : State}

theorem State.setCq_same (s : State) (qq : Nat) (c : CqS) (hkm : Sub 1026 km) (h0 : Same km ka s) : Same km ka (State.setCq s qq c) := by
  unfold State.setCq
  try dsimp only
  repeat' first
    | with_reducible assumption
    | exact Sub.trans rfl hkm
    | intro _
    | with_reducible apply State.f_same
    | with_reducible apply State.f64_same
    | with_reducible apply same_ite
    | with_reducible apply same_foldl
    | with_reducible apply sameR_next
    | with_reducible apply same_foldl1
    | with_reducible apply same_ite1
    | split
    | dsimp only
    | with_reducible apply same_evm

theorem State.cqPop_same (s : State) (qq : Nat) (hkm : Sub 1026 km) (h0 : Same km ka s) : Same km ka (State.cqPop s qq) := by
  unfold State.cqPop
  try dsimp only
  repeat' first
    | with_reducible assumption
    | exact Sub.trans rfl hkm
    | intro _
    | with_reducible apply State.setCq_same

theorem State.qctlWrite_same (s : State) (qq : Nat) (v : Word) (hkm : Sub 1026 km) (h0 : Same km ka s) : Same km ka (State.qctlWrite s qq v) := by
  unfold State.qctlWrite
  try dsimp only
  repeat' first
    | with_reducible assumption
    | exact Sub.trans rfl hkm
    | intro _
    | with_reducible apply State.f_same
    | with_reducible apply State.setCq_same
    | with_reducible apply same_ite

theorem execQueueFlush_same (qq : Nat) (s : State) (hkm : Sub 3618 km) (h0 : Same km ka s) : SameR km ka (execQueueFlush qq s) := by
  unfold execQueueFlush
  try dsimp only
  repeat' first
    | with_reducible assumption
    | exact Sub.trans rfl hkm
    | intro _
    | with_reducible apply State.barWrite_same
    | with_reducible apply State.qctlWrite_same
    | with_reducible apply same_ite
    | with_reducible apply same_foldl
    | with_reducible apply sameR_next

theorem State.swPulse_same (s : State) (v : Word) (hkm : Sub 1026 km) (h0 : Same km ka s) : Same km ka (State.swPulse s v) := by
  unfold State.swPulse
  try dsimp only
  repeat' first
    | with_reducible assumption
    | exact Sub.trans rfl hkm
    | intro _
    | with_reducible apply State.event_same
    | with_reducible apply same_ite
    | with_reducible apply same_foldl

theorem State.chCfgWrite_same (s : State) (c : Nat) (v : Word) (hkm : Sub 546 km) (h0 : Same km ka s) : Same km ka (State.chCfgWrite s c v) := by
  unfold State.chCfgWrite
  try dsimp only
  repeat' first
    | with_reducible assumption
    | exact Sub.trans rfl hkm
    | intro _
    | with_reducible apply State.discard_same
    | with_reducible apply State.store_same
    | with_reducible apply State.f_same
    | with_reducible apply same_ite

theorem State.chEnWrite_same (s : State) (c : Nat) (w : Nat) (v : Word) (hkm : Sub 546 km) (h0 : Same km ka s) : Same km ka (State.chEnWrite s c w v) := by
  unfold State.chEnWrite
  try dsimp only
  repeat' first
    | with_reducible assumption
    | exact Sub.trans rfl hkm
    | intro _
    | with_reducible apply State.err_same
    | with_reducible apply State.f_same
    | with_reducible apply same_ite

theorem execSwpulse_same (v : Word) (s : State) (hkm : Sub 3618 km) (h0 : Same km ka s) : SameR km ka (execSwpulse v s) := by
  unfold execSwpulse
  try dsimp only
  repeat' first
    | with_reducible assumption
    | exact Sub.trans rfl hkm
    | intro _
    | with_reducible apply State.barWrite_same
    | with_reducible apply State.swPulse_same
    | with_reducible apply same_ite
    | with_reducible apply same_foldl
    | with_reducible apply sameR_next

theorem State.cqHold_same (s : State) (qq : Nat) (hkm : Sub 1026 km) (h0 : Same km ka s) : Same km ka (State.cqHold s qq) := by
  unfold State.cqHold
  try dsimp only
  repeat' first
    | with_reducible assumption
    | exact Sub.trans rfl hkm
    | intro _
    | with_reducible apply State.setCq_same

theorem execEventQueueHold_same (qq : Nat) (lo : Bool) (s : State) (hkm : Sub 3626 km) (h0 : Same km ka s) : SameR km ka (execEventQueueHold qq lo s) := by
  unfold execEventQueueHold
  try dsimp only
  repeat' first
    | with_reducible assumption
    | exact Sub.trans rfl hkm
    | intro _
    | with_reducible apply State.barRead_same
    | with_reducible apply State.cqHold_same
    | with_reducible apply same_ite
    | with_reducible apply same_foldl
    | with_reducible apply sameR_next

theorem execEventQueuePop_same (qq : Nat) (s : State) (hkm : Sub 3626 km) (h0 : Same km ka s) : SameR km ka (execEventQueuePop qq s) := by
  unfold execEventQueuePop
  try dsimp only
  repeat' first
    | with_reducible assumption
    | exact Sub.trans rfl hkm
    | intro _
    | with_reducible apply State.barRead_same
    | with_reducible apply State.cqPop_same
    | with_reducible apply same_ite
    | with_reducible apply same_foldl
    | with_reducible apply sameR_next

theorem execChannelConfigWrite_same (c : Nat) (w : Nat) (v : Word) (s : State) (hkm : Sub 2594 km) (h0 : Same km ka s) : SameR km ka (execChannelConfigWrite c w v s) := by
  unfold execChannelConfigWrite
  try dsimp only
  repeat' first
    | with_reducible assumption
    | exact Sub.trans rfl hkm
    | intro _
    | with_reducible apply State.barWrite_same
    | with_reducible apply State.chCfgWrite_same
    | with_reducible apply State.chEnWrite_same
    | with_reducible apply same_ite
    | with_reducible apply same_foldl
    | with_reducible apply sameR_next

theorem execEvmCounterClr_same (v : Word) (s : State) (hkm : Sub 2594 km) (h0 : Same km ka s) : SameR km ka (execEvmCounterClr v s) := by
  unfold execEvmCounterClr
  try dsimp only
  repeat' first
    | with_reducible assumption
    | exact Sub.trans rfl hkm
    | intro _
    | with_reducible apply State.barWrite_same
    | with_reducible apply State.clrWrite_same
    | with_reducible apply same_ite
    | with_reducible apply same_foldl
    | with_reducible apply sameR_next

theorem State.cqPush_same (s : State) (qq : Nat) (e : CqE) (hkm : Sub 1026 km) (h0 : Same km ka s) : Same km ka (State.cqPush s qq e) := by
  unfold State.cqPush
  try dsimp only
  repeat' first
    | with_reducible assumption
    | exact Sub.trans rfl hkm
    | intro _
    | with_reducible apply State.setCq_same
    | with_reducible apply State.inc_same
    | with_reducible apply same_ite

end Sys2Proof.Machine
end

