-- ==== Sys2Proof/Laws/SameDeliver.lean ====
section
/-! SUPPORT. What the operations of Machine/Deliver.lean keep (Laws/Same.lean). -/
set_option Elab.async false
namespace Sys2Proof.Machine

variable {km : Nat} {ka : State}

theorem State.burstEvent_same (s : State) (x : Nat) (t : Nat) (hkm : Sub 14162466 km) (h0 : Same km ka s) : Same km ka (State.burstEvent s x t) := by
  unfold State.burstEvent
  try dsimp only
  repeat' first
    | with_reducible assumption
    | exact Sub.trans rfl hkm
    | intro _
    | with_reducible apply State.trigger_same
    | with_reducible apply same_ite
    | with_reducible apply same_foldl

theorem State.consume_same (s : State) (cons : Nat) (t : Nat) (prod : Nat) (merged : Bool) (hkm : Sub 47742502 km) (h0 : Same km ka s) : Same km ka (State.consume s cons t prod merged) := by
  unfold State.consume
  try dsimp only
  repeat' first
    | with_reducible assumption
    | exact Sub.trans rfl hkm
    | intro _
    | with_reducible apply State.guardTrip_same
    | with_reducible apply State.burstEvent_same
    | with_reducible apply State.mashGroup_same
    | with_reducible apply State.mashSync_same
    | with_reducible apply State.rcgEvent_same
    | with_reducible apply State.cqPush_same
    | with_reducible apply State.wakeReq_same
    | with_reducible apply same_ite

theorem State.channelOut_same (s : State) (c : Nat) (cons : Nat) (e : EvS) (merged : Bool) (hkm : Sub 47742758 km) (h0 : Same km ka s) : Same km ka (State.channelOut s c cons e merged) := by
  unfold State.channelOut
  try dsimp only
  repeat' first
    | with_reducible assumption
    | exact Sub.trans rfl hkm
    | intro _
    | with_reducible apply State.inc_same
    | with_reducible apply State.captureEdge_same
    | with_reducible apply State.tickUnits_same
    | with_reducible apply State.consume_same
    | with_reducible apply same_ite

theorem State.deliverCh_same (c : Nat) (cons : Nat) (v2 : Nat) (v3 : State) (hkm : Sub 47742758 km) (h0 : Same km ka v3) : Same km ka (State.deliverCh c cons v2 v3) := by
  induction v2 generalizing v3 with
  | zero => exact h0
  | succ n ih =>
    unfold State.deliverCh
    try dsimp only
    repeat' first
      | with_reducible assumption
      | exact Sub.trans rfl hkm
      | with_reducible apply ih
      | intro _
      | with_reducible apply State.markMerged_same
      | with_reducible apply State.incBy_same
      | with_reducible apply State.channelOut_same
      | with_reducible apply same_ite
      | with_reducible apply same_foldl
      | with_reducible apply sameR_next
      | with_reducible apply same_foldl1
      | with_reducible apply same_ite1
      | split
      | dsimp only
      | with_reducible apply same_evm

theorem State.deliverEvents_same (s : State) (hkm : Sub 47742758 km) (h0 : Same km ka s) : Same km ka (State.deliverEvents s) := by
  unfold State.deliverEvents
  try dsimp only
  repeat' first
    | with_reducible assumption
    | exact Sub.trans rfl hkm
    | intro _
    | with_reducible apply State.deliverCh_same
    | with_reducible apply same_ite
    | with_reducible apply same_foldl

theorem execEventDelivery_same (s : State) (hkm : Sub 47742758 km) (h0 : Same km ka s) : SameR km ka (execEventDelivery s) := by
  unfold execEventDelivery
  try dsimp only
  repeat' first
    | with_reducible assumption
    | exact Sub.trans rfl hkm
    | intro _
    | with_reducible apply State.deliverEvents_same
    | with_reducible apply same_ite
    | with_reducible apply same_foldl
    | with_reducible apply sameR_next

end Sys2Proof.Machine
end

