-- ==== Sys2Proof/Laws/SameNvs.lean ====
section
/-! SUPPORT. What the operations of Machine/Nvs.lean keep (Laws/Same.lean). -/
set_option Elab.async false
namespace Sys2Proof.Machine

variable {km : Nat} {ka : State}

theorem State.nvDrop_same (s : State) (hkm : Sub 33554434 km) (h0 : Same km ka s) : Same km ka (State.nvDrop s) := by
  unfold State.nvDrop
  try dsimp only
  repeat' first
    | with_reducible assumption
    | exact Sub.trans rfl hkm
    | intro _
    | with_reducible apply State.showNvs_same
    | with_reducible apply same_ite
    | with_reducible apply same_foldl
    | with_reducible apply sameR_next
    | with_reducible apply same_foldl1
    | with_reducible apply same_ite1
    | split
    | dsimp only
    | with_reducible apply same_nvs

theorem State.showJournal_same (s : State) (hkm : Sub 2 km) (h0 : Same km ka s) : Same km ka (State.showJournal s) := by
  unfold State.showJournal
  try dsimp only
  repeat' first
    | with_reducible assumption
    | exact Sub.trans rfl hkm
    | intro _
    | with_reducible apply State.f64_same

theorem State.eraseBlk_same (s : State) (p : Nat) (hkm : Sub 33554434 km) (h0 : Same km ka s) : Same km ka (State.eraseBlk s p) := by
  unfold State.eraseBlk
  try dsimp only
  repeat' first
    | with_reducible assumption
    | exact Sub.trans rfl hkm
    | intro _
    | with_reducible apply State.showNvs_same
    | with_reducible apply same_ite
    | with_reducible apply same_foldl
    | with_reducible apply sameR_next
    | with_reducible apply same_foldl1
    | with_reducible apply same_ite1
    | split
    | dsimp only
    | with_reducible apply same_nvs

theorem State.eraseAhead_same (s : State) (hkm : Sub 33554434 km) (h0 : Same km ka s) : Same km ka (State.eraseAhead s) := by
  unfold State.eraseAhead
  try dsimp only
  repeat' first
    | with_reducible assumption
    | exact Sub.trans rfl hkm
    | intro _
    | with_reducible apply State.showJournal_same
    | with_reducible apply State.eraseBlk_same
    | with_reducible apply same_ite
    | with_reducible apply same_foldl
    | with_reducible apply sameR_next
    | with_reducible apply same_foldl1
    | with_reducible apply same_ite1
    | split
    | dsimp only
    | with_reducible apply same_nvs

theorem State.jadvance_same (s : State) (hkm : Sub 33554434 km) (h0 : Same km ka s) : Same km ka (State.jadvance s) := by
  unfold State.jadvance
  try dsimp only
  repeat' first
    | with_reducible assumption
    | exact Sub.trans rfl hkm
    | intro _
    | with_reducible apply State.eraseAhead_same
    | with_reducible apply same_ite
    | with_reducible apply same_foldl
    | with_reducible apply sameR_next
    | with_reducible apply same_foldl1
    | with_reducible apply same_ite1
    | split
    | dsimp only
    | with_reducible apply same_nvs

theorem State.nvAbandon_same (s : State) (o : NvOpS) (hkm : Sub 48234530 km) (h0 : Same km ka s) : Same km ka (State.nvAbandon s o) := by
  unfold State.nvAbandon
  try dsimp only
  repeat' first
    | with_reducible assumption
    | exact Sub.trans rfl hkm
    | intro _
    | with_reducible apply State.inc_same
    | with_reducible apply State.nvDrop_same
    | with_reducible apply State.jadvance_same
    | with_reducible apply State.keyDone_same
    | with_reducible apply same_ite
    | with_reducible apply same_foldl
    | with_reducible apply sameR_next
    | with_reducible apply same_foldl1
    | with_reducible apply same_ite1
    | split
    | dsimp only
    | with_reducible apply same_nvs

theorem State.lifeRecord_same (s : State) (kind : Nat) (hkm : Sub 33554434 km) (h0 : Same km ka s) : Same km ka (State.lifeRecord s kind) := by
  unfold State.lifeRecord
  try dsimp only
  repeat' first
    | with_reducible assumption
    | exact Sub.trans rfl hkm
    | intro _
    | with_reducible apply State.nvPush_same
    | with_reducible apply same_ite

theorem State.jcommit_same (s : State) (qq : JqS) (lblk : Nat) (hkm : Sub 33554434 km) (h0 : Same km ka s) : Same km ka (State.jcommit s qq lblk) := by
  unfold State.jcommit
  try dsimp only
  repeat' first
    | with_reducible assumption
    | exact Sub.trans rfl hkm
    | intro _
    | with_reducible apply State.showJournal_same
    | with_reducible apply State.jadvance_same
    | with_reducible apply same_ite
    | with_reducible apply same_foldl
    | with_reducible apply sameR_next
    | with_reducible apply same_foldl1
    | with_reducible apply same_ite1
    | split
    | dsimp only
    | with_reducible apply same_nvs

theorem State.jload_same (s : State) (hkm : Sub 546 km) (h0 : Same km ka s) : Same km ka (State.jload s) := by
  unfold State.jload
  try dsimp only
  repeat' first
    | with_reducible assumption
    | exact Sub.trans rfl hkm
    | intro _
    | with_reducible apply State.wr_same
    | with_reducible apply State.discard_same
    | with_reducible apply same_ite
    | with_reducible apply same_foldl
    | with_reducible apply sameR_next
    | with_reducible apply same_foldl1
    | with_reducible apply same_ite1
    | split

theorem State.jctlWrite_same (s : State) (v : Word) (hkm : Sub 33554978 km) (h0 : Same km ka s) : Same km ka (State.jctlWrite s v) := by
  unfold State.jctlWrite
  try dsimp only
  repeat' first
    | with_reducible assumption
    | exact Sub.trans rfl hkm
    | intro _
    | with_reducible apply State.discard_same
    | with_reducible apply State.jpush_same
    | with_reducible apply State.jcharge_same
    | with_reducible apply State.jload_same
    | with_reducible apply same_ite

theorem State.lifeIdxWrite_same (s : State) (n : Nat) (hkm : Sub 2 km) (h0 : Same km ka s) : Same km ka (State.lifeIdxWrite s n) := by
  unfold State.lifeIdxWrite
  try dsimp only
  repeat' first
    | with_reducible assumption
    | exact Sub.trans rfl hkm
    | intro _
    | with_reducible apply State.f_same

theorem State.lifeCommit_same (s : State) (kind : Nat) (hkm : Sub 33554434 km) (h0 : Same km ka s) : Same km ka (State.lifeCommit s kind) := by
  unfold State.lifeCommit
  try dsimp only
  repeat' first
    | with_reducible assumption
    | exact Sub.trans rfl hkm
    | intro _
    | with_reducible apply State.eraseBlk_same
    | with_reducible apply same_ite
    | with_reducible apply same_foldl
    | with_reducible apply sameR_next
    | with_reducible apply same_foldl1
    | with_reducible apply same_ite1
    | split
    | dsimp only
    | with_reducible apply same_nvs

theorem State.noBlock_same (s : State) (o : NvOpS) (hkm : Sub 48235042 km) (h0 : Same km ka s) : Same km ka (State.noBlock s o) := by
  unfold State.noBlock
  try dsimp only
  repeat' first
    | with_reducible assumption
    | exact Sub.trans rfl hkm
    | intro _
    | with_reducible apply State.nvDrop_same
    | with_reducible apply State.setWorn_same
    | with_reducible apply State.f_same
    | with_reducible apply State.eraseAhead_same
    | with_reducible apply State.keyDone_same
    | with_reducible apply same_ite
    | with_reducible apply same_foldl
    | with_reducible apply sameR_next
    | with_reducible apply same_foldl1
    | with_reducible apply same_ite1
    | split
    | dsimp only
    | with_reducible apply same_nvs

theorem State.nvHead_same (s : State) (o : NvOpS) (hkm : Sub 33554432 km) (h0 : Same km ka s) : Same km ka (State.nvHead s o) := by
  unfold State.nvHead
  try dsimp only
  repeat' first
    | with_reducible assumption
    | exact Sub.trans rfl hkm
    | intro _
    | with_reducible apply same_ite
    | with_reducible apply same_foldl
    | with_reducible apply sameR_next
    | with_reducible apply same_foldl1
    | with_reducible apply same_ite1
    | split
    | dsimp only
    | with_reducible apply same_nvs

theorem State.rgnSpare_same (s : State) (r : Nat) (hkm : Sub 2 km) (h0 : Same km ka s) : Same km ka (State.rgnSpare s r) := by
  unfold State.rgnSpare
  try dsimp only
  repeat' first
    | with_reducible assumption
    | exact Sub.trans rfl hkm
    | intro _
    | with_reducible apply State.f_same

theorem State.setBlk_same (s : State) (p : Nat) (b : BlkS) (hkm : Sub 33554432 km) (h0 : Same km ka s) : Same km ka (State.setBlk s p b) := by
  unfold State.setBlk
  try dsimp only
  repeat' first
    | with_reducible assumption
    | exact Sub.trans rfl hkm
    | intro _
    | with_reducible apply same_ite
    | with_reducible apply same_foldl
    | with_reducible apply sameR_next
    | with_reducible apply same_foldl1
    | with_reducible apply same_ite1
    | split
    | dsimp only
    | with_reducible apply same_nvs

theorem State.nvPlace_same (s : State) (hkm : Sub 48235042 km) (h0 : Same km ka s) : Same km ka (State.nvPlace s) := by
  unfold State.nvPlace
  try dsimp only
  repeat' first
    | with_reducible assumption
    | exact Sub.trans rfl hkm
    | intro _
    | with_reducible apply State.noBlock_same
    | with_reducible apply State.nvHead_same
    | with_reducible apply State.f_same
    | with_reducible apply State.rgnSpare_same
    | with_reducible apply State.setBlk_same
    | with_reducible apply same_ite
    | with_reducible apply same_foldl
    | with_reducible apply sameR_next
    | with_reducible apply same_foldl1
    | with_reducible apply same_ite1
    | split

theorem State.keysWritten_same (s : State) (l : Nat) (hkm : Sub 33554432 km) (h0 : Same km ka s) : Same km ka (State.keysWritten s l) := by
  unfold State.keysWritten
  try dsimp only
  repeat' first
    | with_reducible assumption
    | exact Sub.trans rfl hkm
    | intro _
    | with_reducible apply same_ite
    | with_reducible apply same_foldl
    | with_reducible apply sameR_next
    | with_reducible apply same_foldl1
    | with_reducible apply same_ite1
    | split
    | dsimp only
    | with_reducible apply same_nvs

theorem State.putKey_same (s : State) (l : Nat) (uid : Nat) (gen : Nat) (key : List Nat) (hkm : Sub 2097152 km) (h0 : Same km ka s) : Same km ka (State.putKey s l uid gen key) := by
  unfold State.putKey
  try dsimp only
  repeat' first
    | with_reducible assumption
    | exact Sub.trans rfl hkm
    | intro _
    | with_reducible apply same_ite
    | with_reducible apply same_foldl
    | with_reducible apply sameR_next
    | with_reducible apply same_foldl1
    | with_reducible apply same_ite1
    | split
    | dsimp only
    | with_reducible apply same_ten

theorem State.switchBlk_same (s : State) (o : NvOpS) (p : Nat) (hkm : Sub 33554434 km) (h0 : Same km ka s) : Same km ka (State.switchBlk s o p) := by
  unfold State.switchBlk
  try dsimp only
  repeat' first
    | with_reducible assumption
    | exact Sub.trans rfl hkm
    | intro _
    | with_reducible apply State.setBlk_same
    | with_reducible apply State.eraseBlk_same
    | with_reducible apply same_ite
    | with_reducible apply same_foldl
    | with_reducible apply sameR_next
    | with_reducible apply same_foldl1
    | with_reducible apply same_ite1
    | split

theorem State.nvComplete_same (s : State) (o : NvOpS) (p : Nat) (hkm : Sub 48234530 km) (h0 : Same km ka s) : Same km ka (State.nvComplete s o p) := by
  unfold State.nvComplete
  try dsimp only
  repeat' first
    | with_reducible assumption
    | exact Sub.trans rfl hkm
    | intro _
    | with_reducible apply State.nvDrop_same
    | with_reducible apply State.jcommit_same
    | with_reducible apply State.setBlk_same
    | with_reducible apply State.lifeCommit_same
    | with_reducible apply State.keyDone_same
    | with_reducible apply State.keysWritten_same
    | with_reducible apply State.putKey_same
    | with_reducible apply State.switchBlk_same
    | with_reducible apply State.inc_same
    | with_reducible apply same_ite
    | with_reducible apply same_foldl
    | with_reducible apply sameR_next
    | with_reducible apply same_foldl1
    | with_reducible apply same_ite1
    | split

theorem State.retire_same (s : State) (o : NvOpS) (p : Nat) (hkm : Sub 48235042 km) (h0 : Same km ka s) : Same km ka (State.retire s o p) := by
  unfold State.retire
  try dsimp only
  repeat' first
    | with_reducible assumption
    | exact Sub.trans rfl hkm
    | intro _
    | with_reducible apply State.noBlock_same
    | with_reducible apply State.setWorn_same
    | with_reducible apply State.lifeInc_same
    | with_reducible apply State.inc_same
    | with_reducible apply State.setBlk_same
    | with_reducible apply State.f_same
    | with_reducible apply State.rgnSpare_same
    | with_reducible apply State.nvPlace_same
    | with_reducible apply State.nvHead_same
    | with_reducible apply same_ite

theorem State.nvProgram_same (s : State) (ok : Bool) (hkm : Sub 48235042 km) (h0 : Same km ka s) : Same km ka (State.nvProgram s ok) := by
  unfold State.nvProgram
  try dsimp only
  repeat' first
    | with_reducible assumption
    | exact Sub.trans rfl hkm
    | intro _
    | with_reducible apply State.nvPlace_same
    | with_reducible apply State.inc_same
    | with_reducible apply State.nvComplete_same
    | with_reducible apply State.nvHead_same
    | with_reducible apply State.nvAbandon_same
    | with_reducible apply State.retire_same
    | with_reducible apply same_ite
    | with_reducible apply same_foldl
    | with_reducible apply sameR_next
    | with_reducible apply same_foldl1
    | with_reducible apply same_ite1
    | split

theorem execRefreshScan_same (margin : List Word) (s : State) (hkm : Sub 33554434 km) (h0 : Same km ka s) : SameR km ka (execRefreshScan margin s) := by
  unfold execRefreshScan
  try dsimp only
  repeat' first
    | with_reducible assumption
    | exact Sub.trans rfl hkm
    | intro _
    | with_reducible apply State.nvPush_same
    | with_reducible apply same_ite
    | with_reducible apply same_foldl
    | with_reducible apply sameR_next
    | with_reducible apply same_foldl1
    | with_reducible apply same_ite1
    | split
    | dsimp only
    | with_reducible apply same_nvs

theorem execLifeCounterLoad_same (n : Nat) (s : State) (hkm : Sub 2594 km) (h0 : Same km ka s) : SameR km ka (execLifeCounterLoad n s) := by
  unfold execLifeCounterLoad
  try dsimp only
  repeat' first
    | with_reducible assumption
    | exact Sub.trans rfl hkm
    | intro _
    | with_reducible apply State.barWrite_same
    | with_reducible apply State.lifeIdxWrite_same
    | with_reducible apply same_ite
    | with_reducible apply same_foldl
    | with_reducible apply sameR_next

theorem execNvsCounterClr_same (v : Word) (s : State) (hkm : Sub 2594 km) (h0 : Same km ka s) : SameR km ka (execNvsCounterClr v s) := by
  unfold execNvsCounterClr
  try dsimp only
  repeat' first
    | with_reducible assumption
    | exact Sub.trans rfl hkm
    | intro _
    | with_reducible apply State.barWrite_same
    | with_reducible apply State.clrWrite_same
    | with_reducible apply same_ite
    | with_reducible apply same_foldl
    | with_reducible apply sameR_next

theorem execAppend_same (s : State) (hkm : Sub 33557026 km) (h0 : Same km ka s) : SameR km ka (execAppend s) := by
  unfold execAppend
  try dsimp only
  repeat' first
    | with_reducible assumption
    | exact Sub.trans rfl hkm
    | intro _
    | with_reducible apply State.barWrite_same
    | with_reducible apply State.jctlWrite_same
    | with_reducible apply same_ite
    | with_reducible apply same_foldl
    | with_reducible apply sameR_next

theorem execJournalRead_same (s : State) (hkm : Sub 33557026 km) (h0 : Same km ka s) : SameR km ka (execJournalRead s) := by
  unfold execJournalRead
  try dsimp only
  repeat' first
    | with_reducible assumption
    | exact Sub.trans rfl hkm
    | intro _
    | with_reducible apply State.barWrite_same
    | with_reducible apply State.jctlWrite_same
    | with_reducible apply same_ite
    | with_reducible apply same_foldl
    | with_reducible apply sameR_next

theorem execJournalWrite_same (s : State) (hkm : Sub 48235042 km) (h0 : Same km ka s) : SameR km ka (execJournalWrite s) := by
  unfold execJournalWrite
  try dsimp only
  repeat' first
    | with_reducible assumption
    | exact Sub.trans rfl hkm
    | intro _
    | with_reducible apply State.nvPlace_same
    | with_reducible apply State.nvPush_same
    | with_reducible apply same_ite
    | with_reducible apply same_foldl
    | with_reducible apply sameR_next
    | with_reducible apply same_foldl1
    | with_reducible apply same_ite1
    | split
    | dsimp only
    | with_reducible apply same_nvs

theorem execNvmEraseDone_same (s : State) (hkm : Sub 48235042 km) (h0 : Same km ka s) : SameR km ka (execNvmEraseDone s) := by
  unfold execNvmEraseDone
  try dsimp only
  repeat' first
    | with_reducible assumption
    | exact Sub.trans rfl hkm
    | intro _
    | with_reducible apply State.setBlk_same
    | with_reducible apply State.lifeInc_same
    | with_reducible apply State.showNvs_same
    | with_reducible apply State.nvPlace_same
    | with_reducible apply same_ite
    | with_reducible apply same_foldl
    | with_reducible apply sameR_next
    | with_reducible apply same_foldl1
    | with_reducible apply same_ite1
    | split
    | dsimp only
    | with_reducible apply same_nvs

theorem execLifeCheckpoint_same (s : State) (hkm : Sub 33554434 km) (h0 : Same km ka s) : SameR km ka (execLifeCheckpoint s) := by
  unfold execLifeCheckpoint
  try dsimp only
  repeat' first
    | with_reducible assumption
    | exact Sub.trans rfl hkm
    | intro _
    | with_reducible apply State.lifeRecord_same
    | with_reducible apply same_ite
    | with_reducible apply same_foldl
    | with_reducible apply sameR_next
    | with_reducible apply same_foldl1
    | with_reducible apply same_ite1
    | split
    | dsimp only
    | with_reducible apply same_nvs

end Sys2Proof.Machine
end

