-- ==== Sys2Proof/Laws/SameDown.lean ====
section
/-! SUPPORT. What the operations of Machine/Down.lean keep (Laws/Same.lean). -/
set_option Elab.async false
namespace Sys2Proof.Machine

variable {km : Nat} {ka : State}

theorem State.phase_same (s : State) (p : Nat) (hkm : Sub 2 km) (h0 : Same km ka s) : Same km ka (State.phase s p) := by
  unfold State.phase
  try dsimp only
  repeat' first
    | with_reducible assumption
    | exact Sub.trans rfl hkm
    | intro _
    | with_reducible apply State.f_same

theorem State.placeWatch_same (s : State) (v1 : List WatchS) (v2 : Option RecS) (v3 : List (Nat × Nat)) (hkm : Sub 12585506 km) (h0 : Same km ka s) : Same km ka (State.placeWatch s v1 v2 v3).1 := by
  induction v1 generalizing s v2 v3 with
  | nil => exact h0
  | cons x l ih =>
    unfold State.placeWatch
    try dsimp only
    repeat' first
      | with_reducible assumption
      | exact Sub.trans rfl hkm
      | with_reducible apply ih
      | intro _
      | with_reducible apply State.putTogether_same
      | with_reducible apply same_ite
      | with_reducible apply same_foldl
      | with_reducible apply sameR_next
      | with_reducible apply same_foldl1
      | with_reducible apply same_ite1
      | split

theorem State.placeWatchEvs_same (s : State) (l : List WatchS) (lost : List (Nat × Nat × Nat)) (hkm : Sub 12582946 km) (h0 : Same km ka s) : Same km ka (State.placeWatchEvs s l lost) := by
  unfold State.placeWatchEvs
  try dsimp only
  repeat' first
    | with_reducible assumption
    | exact Sub.trans rfl hkm
    | intro _
    | with_reducible apply State.routeEv_same
    | with_reducible apply same_ite
    | with_reducible apply same_foldl
    | with_reducible apply sameR_next
    | with_reducible apply same_foldl1
    | with_reducible apply same_ite1
    | split

theorem State.handWatch_same (s : State) (hkm : Sub 12585506 km) (h0 : Same km ka s) : Same km ka (State.handWatch s) := by
  unfold State.handWatch
  try dsimp only
  repeat' first
    | with_reducible assumption
    | exact Sub.trans rfl hkm
    | intro _
    | with_reducible apply State.placeWatch_same
    | with_reducible apply State.modStream_same
    | with_reducible apply State.placeWatchEvs_same
    | with_reducible apply same_ite
    | with_reducible apply same_foldl
    | with_reducible apply sameR_next
    | with_reducible apply same_foldl1
    | with_reducible apply same_ite1
    | split
    | dsimp only
    | with_reducible apply same_rng

theorem State.handback_same (s : State) (set : State → State) (hkm : Sub 14433826 km) (h0 : Same km ka s) (hfset : ∀ y0, Same km ka y0 → Same km ka (set y0)) : Same km ka (State.handback s set) := by
  unfold State.handback
  try dsimp only
  repeat' first
    | with_reducible assumption
    | exact Sub.trans rfl hkm
    | intro _
    | with_reducible apply hfset
    | with_reducible apply State.handWatch_same
    | with_reducible apply State.setBus_same
    | with_reducible apply State.modEnt_same
    | with_reducible apply State.canPins_same
    | with_reducible apply State.rcgStage_same
    | with_reducible apply State.mashStage_same
    | with_reducible apply State.schedStage_same
    | with_reducible apply same_ite
    | with_reducible apply same_foldl
    | with_reducible apply sameR_next
    | with_reducible apply same_foldl1
    | with_reducible apply same_ite1
    | split
    | dsimp only
    | with_reducible apply same_sys

theorem State.abortEntry_same (s : State) (hkm : Sub 14433826 km) (h0 : Same km ka s) : Same km ka (State.abortEntry s) := by
  unfold State.abortEntry
  try dsimp only
  repeat' first
    | with_reducible assumption
    | exact Sub.trans rfl hkm
    | intro _
    | with_reducible apply State.phase_same
    | with_reducible apply State.handback_same
    | with_reducible apply same_ite
    | with_reducible apply same_foldl
    | with_reducible apply sameR_next
    | with_reducible apply same_foldl1
    | with_reducible apply same_ite1
    | split
    | dsimp only
    | with_reducible apply same_sys

theorem State.startWake_same (s : State) (hkm : Sub 2050 km) (h0 : Same km ka s) : Same km ka (State.startWake s) := by
  unfold State.startWake
  try dsimp only
  repeat' first
    | with_reducible assumption
    | exact Sub.trans rfl hkm
    | intro _
    | with_reducible apply State.f_same
    | with_reducible apply State.phase_same
    | with_reducible apply same_ite
    | with_reducible apply same_foldl
    | with_reducible apply sameR_next
    | with_reducible apply same_foldl1
    | with_reducible apply same_ite1
    | split
    | dsimp only
    | with_reducible apply same_sys

theorem State.wakeLatched_same (s : State) (hkm : Sub 14433826 km) (h0 : Same km ka s) : Same km ka (State.wakeLatched s) := by
  unfold State.wakeLatched
  try dsimp only
  repeat' first
    | with_reducible assumption
    | exact Sub.trans rfl hkm
    | intro _
    | with_reducible apply State.inc_same
    | with_reducible apply State.abortEntry_same
    | with_reducible apply State.startWake_same
    | with_reducible apply same_ite
    | with_reducible apply same_foldl
    | with_reducible apply sameR_next
    | with_reducible apply same_foldl1
    | with_reducible apply same_ite1
    | split
    | dsimp only
    | with_reducible apply same_sys

theorem State.refuser_same (s : State) (c : Nat) (t : PState) (hkm : Sub 2 km) (h0 : Same km ka s) : Same km ka (State.refuser s c t) := by
  unfold State.refuser
  try dsimp only
  repeat' first
    | with_reducible assumption
    | exact Sub.trans rfl hkm
    | intro _
    | with_reducible apply State.f_same
    | with_reducible apply State.inc_same

theorem State.abortBy_same (s : State) (c : Nat) (hkm : Sub 14433826 km) (h0 : Same km ka s) : Same km ka (State.abortBy s c) := by
  unfold State.abortBy
  try dsimp only
  repeat' first
    | with_reducible assumption
    | exact Sub.trans rfl hkm
    | intro _
    | with_reducible apply State.refuser_same
    | with_reducible apply State.abortEntry_same
    | with_reducible apply same_ite
    | with_reducible apply same_foldl
    | with_reducible apply sameR_next
    | with_reducible apply same_foldl1
    | with_reducible apply same_ite1
    | split

theorem State.abandonPlacing_same (s : State) (hkm : Sub 4194304 km) (h0 : Same km ka s) : Same km ka (State.abandonPlacing s) := by
  unfold State.abandonPlacing
  try dsimp only
  repeat' first
    | with_reducible assumption
    | exact Sub.trans rfl hkm
    | intro _
    | with_reducible apply State.setCr_same
    | with_reducible apply same_ite
    | with_reducible apply same_foldl

theorem State.loseOpen_same (s : State) (why : Nat) (hkm : Sub 4194304 km) (h0 : Same km ka s) : Same km ka (State.loseOpen s why) := by
  unfold State.loseOpen
  try dsimp only
  repeat' first
    | with_reducible assumption
    | exact Sub.trans rfl hkm
    | intro _
    | with_reducible apply State.modStream_same
    | with_reducible apply same_ite
    | with_reducible apply same_foldl
    | with_reducible apply sameR_next
    | with_reducible apply same_foldl1
    | with_reducible apply same_ite1
    | split
    | dsimp only
    | with_reducible apply same_rng

theorem State.takeWatch_same (s : State) (hkm : Sub 4098 km) (h0 : Same km ka s) : Same km ka (State.takeWatch s) := by
  unfold State.takeWatch
  try dsimp only
  repeat' first
    | with_reducible assumption
    | exact Sub.trans rfl hkm
    | intro _
    | with_reducible apply State.incBy_same
    | with_reducible apply State.modEnt_same
    | with_reducible apply same_ite
    | with_reducible apply same_foldl

theorem State.stopProd_same (s : State) (hkm : Sub 31432238 km) (h0 : Same km ka s) : Same km ka (State.stopProd s) := by
  unfold State.stopProd
  try dsimp only
  repeat' first
    | with_reducible assumption
    | exact Sub.trans rfl hkm
    | intro _
    | with_reducible apply State.takeWatch_same
    | with_reducible apply State.rcgStage_same
    | with_reducible apply State.mashStage_same
    | with_reducible apply State.abandonTxns_same
    | with_reducible apply State.schedStage_same
    | with_reducible apply State.canStop_same
    | with_reducible apply State.flushPage_same
    | with_reducible apply State.serStop_same
    | with_reducible apply State.remDone_same
    | with_reducible apply State.dropTag_same
    | with_reducible apply same_ite
    | with_reducible apply same_foldl
    | with_reducible apply sameR_next
    | with_reducible apply same_foldl1
    | with_reducible apply same_ite1
    | split
    | dsimp only
    | with_reducible apply same_rng

theorem State.finalDone_same (s : State) (hkm : Sub 2048 km) (h0 : Same km ka s) : Same km ka (State.finalDone s) := by
  unfold State.finalDone
  try dsimp only
  repeat' first
    | with_reducible assumption
    | exact Sub.trans rfl hkm
    | intro _
    | with_reducible apply same_ite
    | with_reducible apply same_foldl
    | with_reducible apply sameR_next
    | with_reducible apply same_foldl1
    | with_reducible apply same_ite1
    | split
    | dsimp only
    | with_reducible apply same_sys

theorem State.finalOps_same (s : State) (hkm : Sub 33554434 km) (h0 : Same km ka s) : Same km ka (State.finalOps s) := by
  unfold State.finalOps
  try dsimp only
  repeat' first
    | with_reducible assumption
    | exact Sub.trans rfl hkm
    | intro _
    | with_reducible apply State.showNvs_same
    | with_reducible apply same_ite
    | with_reducible apply same_foldl
    | with_reducible apply sameR_next
    | with_reducible apply same_foldl1
    | with_reducible apply same_ite1
    | split
    | dsimp only
    | with_reducible apply same_nvs

theorem State.finalCommit_same (s : State) (hkm : Sub 65011438 km) (h0 : Same km ka s) : Same km ka (State.finalCommit s) := by
  unfold State.finalCommit
  try dsimp only
  repeat' first
    | with_reducible assumption
    | exact Sub.trans rfl hkm
    | intro _
    | with_reducible apply State.abandonPlacing_same
    | with_reducible apply State.loseOpen_same
    | with_reducible apply State.applySafe_same
    | with_reducible apply State.phase_same
    | with_reducible apply State.stopProd_same
    | with_reducible apply State.portOff_same
    | with_reducible apply State.f_same
    | with_reducible apply State.dropSession_same
    | with_reducible apply State.finalDone_same
    | with_reducible apply State.finalOps_same
    | with_reducible apply State.lifeInc_same
    | with_reducible apply State.stopFab_same
    | with_reducible apply same_ite
    | with_reducible apply same_foldl
    | with_reducible apply sameR_next
    | with_reducible apply same_foldl1
    | with_reducible apply same_ite1
    | split
    | dsimp only
    | with_reducible apply same_sys

theorem State.handover_same (s : State) (set : State → State) (hkm : Sub 31432238 km) (h0 : Same km ka s) (hfset : ∀ y0, Same km ka y0 → Same km ka (set y0)) : Same km ka (State.handover s set) := by
  unfold State.handover
  try dsimp only
  repeat' first
    | with_reducible assumption
    | exact Sub.trans rfl hkm
    | intro _
    | with_reducible apply hfset
    | with_reducible apply State.stopProd_same
    | with_reducible apply State.closeAll_same
    | with_reducible apply State.retireNow_same

theorem State.coreDown_same (s : State) (hkm : Sub 12583650 km) (h0 : Same km ka s) : Same km ka (State.coreDown s) := by
  unfold State.coreDown
  try dsimp only
  repeat' first
    | with_reducible assumption
    | exact Sub.trans rfl hkm
    | intro _
    | with_reducible apply State.stopFab_same
    | with_reducible apply State.portOff_same
    | with_reducible apply same_ite
    | with_reducible apply same_foldl

theorem State.shedWake_same (s : State) (hkm : Sub 2050 km) (h0 : Same km ka s) : Same km ka (State.shedWake s) := by
  unfold State.shedWake
  try dsimp only
  repeat' first
    | with_reducible assumption
    | exact Sub.trans rfl hkm
    | intro _
    | with_reducible apply State.f_same
    | with_reducible apply State.phase_same
    | with_reducible apply same_ite
    | with_reducible apply same_foldl
    | with_reducible apply sameR_next
    | with_reducible apply same_foldl1
    | with_reducible apply same_ite1
    | split
    | dsimp only
    | with_reducible apply same_sys

end Sys2Proof.Machine
end

