-- ==== Sys2Proof/Laws/SameSys.lean ====
section
/-! SUPPORT. What the operations of Machine/Sys.lean keep (Laws/Same.lean). -/
set_option Elab.async false
namespace Sys2Proof.Machine

variable {km : Nat} {ka : State}

theorem State.noteReset_same (s : State) (k : RKind) (src : Nat) (hkm : Sub 2 km) (h0 : Same km ka s) : Same km ka (State.noteReset s k src) := by
  unfold State.noteReset
  try dsimp only
  repeat' first
    | with_reducible assumption
    | exact Sub.trans rfl hkm
    | intro _
    | with_reducible apply State.inc_same
    | with_reducible apply State.f_same

theorem State.hkStart_same (s : State) (src : Nat) (hkm : Sub 31342114 km) (h0 : Same km ka s) : Same km ka (State.hkStart s src) := by
  unfold State.hkStart
  try dsimp only
  repeat' first
    | with_reducible assumption
    | exact Sub.trans rfl hkm
    | with_reducible exact Or.inr (Sub.trans rfl hkm)
    | with_reducible exact Or.inl rfl
    | intro _
    | with_reducible apply State.noteReset_same
    | with_reducible apply State.inc_same
    | with_reducible apply State.abortEntry_same
    | with_reducible apply State.endAdm_same
    | with_reducible apply State.removeNode_same
    | with_reducible apply State.abandonLayout_same
    | with_reducible apply same_ite
    | with_reducible apply same_foldl
    | with_reducible apply sameR_next
    | with_reducible apply same_foldl1
    | with_reducible apply same_ite1
    | split
    | dsimp only
    | with_reducible apply same_sys
    | with_reducible apply same_crs
    | with_reducible apply same_mem
    | with_reducible apply same_rol
    | with_reducible apply same_mk

theorem State.nvReset_same (s : State) (hkm : Sub 115605538 km) (h0 : Same km ka s) : Same km ka (State.nvReset s) := by
  unfold State.nvReset
  try dsimp only
  repeat' first
    | with_reducible assumption
    | exact Sub.trans rfl hkm
    | with_reducible exact Or.inr (Sub.trans rfl hkm)
    | with_reducible exact Or.inl rfl
    | intro _
    | with_reducible apply State.nvAbandon_same
    | with_reducible apply State.showNvs_same
    | with_reducible apply State.f_same
    | with_reducible apply State.zero_same
    | with_reducible apply same_ite
    | with_reducible apply same_foldl
    | with_reducible apply sameR_next
    | with_reducible apply same_foldl1
    | with_reducible apply same_ite1
    | split
    | dsimp only
    | with_reducible apply same_ept
    | with_reducible apply same_boot
    | with_reducible apply same_mk

theorem State.resetStep1_same (s : State) (k : RKind) (src : Nat) (hkm : Sub 117210662 km) (h0 : Same km ka s) : Same km ka (State.resetStep1 s k src) := by
  unfold State.resetStep1
  try dsimp only
  repeat' first
    | with_reducible assumption
    | exact Sub.trans rfl hkm
    | intro _
    | with_reducible apply State.f_same
    | with_reducible apply State.noteReset_same
    | with_reducible apply State.abortEntry_same
    | with_reducible apply State.nvReset_same
    | with_reducible apply State.portOff_same
    | with_reducible apply State.applySafe_same
    | with_reducible apply same_ite
    | with_reducible apply same_foldl
    | with_reducible apply sameR_next
    | with_reducible apply same_foldl1
    | with_reducible apply same_ite1
    | split
    | dsimp only
    | with_reducible apply same_sys

theorem State.beginReset_same (s : State) (k : RKind) (src : Nat) (hkm : Sub 134119142 km) (h0 : Same km ka s) : Same km ka (State.beginReset s k src) := by
  unfold State.beginReset
  try dsimp only
  repeat' first
    | with_reducible assumption
    | exact Sub.trans rfl hkm
    | intro _
    | with_reducible apply State.wakeDoze_same
    | with_reducible apply State.wakeLatched_same
    | with_reducible apply State.hkStart_same
    | with_reducible apply State.resetStep1_same
    | with_reducible apply State.noteReset_same
    | with_reducible apply State.f_same
    | with_reducible apply State.stopFab_same
    | with_reducible apply same_ite
    | with_reducible apply same_foldl
    | with_reducible apply sameR_next
    | with_reducible apply same_foldl1
    | with_reducible apply same_ite1
    | split
    | dsimp only
    | with_reducible apply same_sys

theorem State.rstCtlWrite_same (s : State) (v : Word) (hkm : Sub 134119142 km) (h0 : Same km ka s) : Same km ka (State.rstCtlWrite s v) := by
  unfold State.rstCtlWrite
  try dsimp only
  repeat' first
    | with_reducible assumption
    | exact Sub.trans rfl hkm
    | intro _
    | with_reducible apply State.discard_same
    | with_reducible apply State.beginReset_same
    | with_reducible apply same_ite
    | with_reducible apply same_foldl
    | with_reducible apply sameR_next
    | with_reducible apply same_foldl1
    | with_reducible apply same_ite1
    | split
    | dsimp only
    | with_reducible apply same_sys

theorem execCore_same (s : State) (hkm : Sub 134119142 km) (h0 : Same km ka s) : SameR km ka (execCore s) := by
  unfold execCore
  try dsimp only
  repeat' first
    | with_reducible assumption
    | exact Sub.trans rfl hkm
    | intro _
    | with_reducible apply State.barWrite_same
    | with_reducible apply State.rstCtlWrite_same
    | with_reducible apply same_ite
    | with_reducible apply same_foldl
    | with_reducible apply sameR_next

theorem execAccessTimeout_same (desc : Bool) (ofs : Nat) (s : State) (hkm : Sub 12583466 km) (h0 : Same km ka s) : SameR km ka (execAccessTimeout desc ofs s) := by
  unfold execAccessTimeout
  try dsimp only
  repeat' first
    | with_reducible assumption
    | exact Sub.trans rfl hkm
    | intro _
    | with_reducible apply State.finishWith_same
    | with_reducible apply State.clockStopped_same
    | with_reducible apply same_ite
    | with_reducible apply same_foldl
    | with_reducible apply sameR_next
    | with_reducible apply same_foldl1
    | with_reducible apply same_ite1
    | split
    | dsimp only
    | with_reducible apply same_rdata

theorem State.stopRings_same (s : State) (a : Nat) (hkm : Sub 66853410 km) (h0 : Same km ka s) : Same km ka (State.stopRings s a) := by
  unfold State.stopRings
  try dsimp only
  repeat' first
    | with_reducible assumption
    | exact Sub.trans rfl hkm
    | intro _
    | with_reducible apply State.setTr_same
    | with_reducible apply State.ringLevel_same
    | with_reducible apply State.endCheck_same
    | with_reducible apply same_ite
    | with_reducible apply same_foldl
    | with_reducible apply sameR_next
    | with_reducible apply same_foldl1
    | with_reducible apply same_ite1
    | split
    | dsimp only
    | with_reducible apply same_rng

theorem State.flr_same (s : State) (hkm : Sub 66918946 km) (h0 : Same km ka s) : Same km ka (State.flr s) := by
  unfold State.flr
  try dsimp only
  repeat' first
    | with_reducible assumption
    | exact Sub.trans rfl hkm
    | intro _
    | with_reducible apply State.inc_same
    | with_reducible apply State.wakeDoze_same
    | with_reducible apply State.eptFlr_same
    | with_reducible apply State.canFlr_same
    | with_reducible apply State.stopRings_same
    | with_reducible apply State.dropTag_same
    | with_reducible apply State.setCtx_same
    | with_reducible apply State.resetIcu_same
    | with_reducible apply same_ite
    | with_reducible apply same_foldl

theorem State.clearMsix_same (s : State) (hkm : Sub 512 km) (h0 : Same km ka s) : Same km ka (State.clearMsix s) := by
  unfold State.clearMsix
  try dsimp only
  repeat' first
    | with_reducible assumption
    | exact Sub.trans rfl hkm
    | intro _
    | with_reducible apply same_ite
    | with_reducible apply same_foldl
    | with_reducible apply sameR_next
    | with_reducible apply same_foldl1
    | with_reducible apply same_ite1
    | split
    | dsimp only
    | with_reducible apply same_icu

theorem execHostLinkReset_same (kind : Nat) (s : State) (hkm : Sub 66918946 km) (h0 : Same km ka s) : SameR km ka (execHostLinkReset kind s) := by
  unfold execHostLinkReset
  try dsimp only
  repeat' first
    | with_reducible assumption
    | exact Sub.trans rfl hkm
    | intro _
    | with_reducible apply State.flr_same
    | with_reducible apply State.clearMsix_same
    | with_reducible apply State.f_same
    | with_reducible apply State.noteIso_same
    | with_reducible apply State.showCapable_same
    | with_reducible apply same_ite
    | with_reducible apply same_foldl
    | with_reducible apply sameR_next
    | with_reducible apply same_foldl1
    | with_reducible apply same_ite1
    | split
    | dsimp only
    | with_reducible apply same_sys

theorem execClkCounterClr_same (v : Word) (s : State) (hkm : Sub 2594 km) (h0 : Same km ka s) : SameR km ka (execClkCounterClr v s) := by
  unfold execClkCounterClr
  try dsimp only
  repeat' first
    | with_reducible assumption
    | exact Sub.trans rfl hkm
    | intro _
    | with_reducible apply State.barWrite_same
    | with_reducible apply State.clrWrite_same
    | with_reducible apply same_ite
    | with_reducible apply same_foldl
    | with_reducible apply sameR_next

theorem execRstCounterClr_same (v : Word) (s : State) (hkm : Sub 2594 km) (h0 : Same km ka s) : SameR km ka (execRstCounterClr v s) := by
  unfold execRstCounterClr
  try dsimp only
  repeat' first
    | with_reducible assumption
    | exact Sub.trans rfl hkm
    | intro _
    | with_reducible apply State.barWrite_same
    | with_reducible apply State.clrWrite_same
    | with_reducible apply same_ite
    | with_reducible apply same_foldl
    | with_reducible apply sameR_next

theorem execFunctionLevelReset_same (s : State) (hkm : Sub 66918946 km) (h0 : Same km ka s) : SameR km ka (execFunctionLevelReset s) := by
  unfold execFunctionLevelReset
  try dsimp only
  repeat' first
    | with_reducible assumption
    | exact Sub.trans rfl hkm
    | intro _
    | with_reducible apply State.clearMsix_same
    | with_reducible apply State.flr_same
    | with_reducible apply same_ite
    | with_reducible apply same_foldl
    | with_reducible apply sameR_next
    | with_reducible apply same_foldl1
    | with_reducible apply same_ite1
    | split
    | dsimp only
    | with_reducible apply same_sys

theorem State.relock_same (s : State) (hkm : Sub 2786 km) (h0 : Same km ka s) : Same km ka (State.relock s) := by
  unfold State.relock
  try dsimp only
  repeat' first
    | with_reducible assumption
    | exact Sub.trans rfl hkm
    | intro _
    | with_reducible apply State.stopFab_same
    | with_reducible apply same_ite
    | with_reducible apply same_foldl
    | with_reducible apply sameR_next
    | with_reducible apply same_foldl1
    | with_reducible apply same_ite1
    | split
    | dsimp only
    | with_reducible apply same_sys

theorem State.wipeLogic_same (s : State) (k : RKind) (hkm : Sub 66853410 km) (h0 : Same km ka s) : Same km ka (State.wipeLogic s k) := by
  unfold State.wipeLogic
  try dsimp only
  repeat' first
    | with_reducible assumption
    | exact Sub.trans rfl hkm
    | with_reducible exact Or.inr (Sub.trans rfl hkm)
    | with_reducible exact Or.inl rfl
    | intro _
    | with_reducible apply State.rcgResetAll_same
    | with_reducible apply State.stopRings_same
    | with_reducible apply State.loseOpen_same
    | with_reducible apply State.eptReset_same
    | with_reducible apply State.resetIcu_same
    | with_reducible apply State.f_same
    | with_reducible apply same_ite
    | with_reducible apply same_foldl
    | with_reducible apply sameR_next
    | with_reducible apply same_foldl1
    | with_reducible apply same_ite1
    | split
    | dsimp only
    | with_reducible apply same_rcg
    | with_reducible apply same_ten
    | with_reducible apply same_rng
    | with_reducible apply same_bnd
    | with_reducible apply same_rol
    | with_reducible apply same_mk

theorem State.wipeOuts_same (s : State) (hkm : Sub 14174754 km) (h0 : Same km ka s) : Same km ka (State.wipeOuts s) := by
  unfold State.wipeOuts
  try dsimp only
  repeat' first
    | with_reducible assumption
    | exact Sub.trans rfl hkm
    | with_reducible exact Or.inr (Sub.trans rfl hkm)
    | with_reducible exact Or.inl rfl
    | intro _
    | with_reducible apply State.mashGap_same
    | with_reducible apply State.resetRegs_same
    | with_reducible apply same_ite
    | with_reducible apply same_foldl
    | with_reducible apply sameR_next
    | with_reducible apply same_foldl1
    | with_reducible apply same_ite1
    | split
    | dsimp only
    | with_reducible apply same_grd
    | with_reducible apply same_msh

theorem State.dropCheck_same (s : State) (hkm : Sub 46169894 km) (h0 : Same km ka s) : Same km ka (State.dropCheck s) := by
  unfold State.dropCheck
  try dsimp only
  repeat' first
    | with_reducible assumption
    | exact Sub.trans rfl hkm
    | intro _
    | with_reducible apply State.zero_same
    | with_reducible apply State.compare_same
    | with_reducible apply State.f_same
    | with_reducible apply same_ite
    | with_reducible apply same_foldl
    | with_reducible apply sameR_next
    | with_reducible apply same_foldl1
    | with_reducible apply same_ite1
    | split

theorem State.wipePorts_same (s : State) (hkm : Sub 47447846 km) (h0 : Same km ka s) : Same km ka (State.wipePorts s) := by
  unfold State.wipePorts
  try dsimp only
  repeat' first
    | with_reducible assumption
    | exact Sub.trans rfl hkm
    | intro _
    | with_reducible apply State.slaveGap_same
    | with_reducible apply State.dropCheck_same
    | with_reducible apply State.resetRegs_same
    | with_reducible apply State.canPins_same
    | with_reducible apply State.resetTimers_same
    | with_reducible apply State.canReset_same
    | with_reducible apply State.memReset_same
    | with_reducible apply same_ite
    | with_reducible apply same_foldl
    | with_reducible apply sameR_next
    | with_reducible apply same_foldl1
    | with_reducible apply same_ite1
    | split
    | dsimp only
    | with_reducible apply same_ser

theorem State.wipeField_same (s : State) (hkm : Sub 14170658 km) (h0 : Same km ka s) : Same km ka (State.wipeField s) := by
  unfold State.wipeField
  try dsimp only
  repeat' first
    | with_reducible assumption
    | exact Sub.trans rfl hkm
    | with_reducible exact Or.inr (Sub.trans rfl hkm)
    | with_reducible exact Or.inl rfl
    | intro _
    | with_reducible apply State.passMissed_same
    | with_reducible apply State.drainStreams_same
    | with_reducible apply State.missPoll_same
    | with_reducible apply State.f_same
    | with_reducible apply State.resetRegs_same
    | with_reducible apply State.pscSts_same
    | with_reducible apply same_ite
    | with_reducible apply same_foldl
    | with_reducible apply sameR_next
    | with_reducible apply same_foldl1
    | with_reducible apply same_ite1
    | split
    | dsimp only
    | with_reducible apply same_psc
    | with_reducible apply same_crs
    | with_reducible apply same_rng
    | with_reducible apply same_mk

theorem State.wipeCore_same (s : State) (k : RKind) (hkm : Sub 67108646 km) (h0 : Same km ka s) : Same km ka (State.wipeCore s k) := by
  unfold State.wipeCore
  try dsimp only
  repeat' first
    | with_reducible assumption
    | exact Sub.trans rfl hkm
    | intro _
    | with_reducible apply State.wipeLogic_same
    | with_reducible apply State.wipeOuts_same
    | with_reducible apply State.wipePorts_same
    | with_reducible apply State.wipeField_same

theorem State.holdCore_same (s : State) (hkm : Sub 67108838 km) (h0 : Same km ka s) : Same km ka (State.holdCore s) := by
  unfold State.holdCore
  try dsimp only
  repeat' first
    | with_reducible assumption
    | exact Sub.trans rfl hkm
    | intro _
    | with_reducible apply State.wipeCore_same
    | with_reducible apply State.f_same
    | with_reducible apply State.stopFab_same
    | with_reducible apply same_ite
    | with_reducible apply same_foldl
    | with_reducible apply sameR_next
    | with_reducible apply same_foldl1
    | with_reducible apply same_ite1
    | split
    | dsimp only
    | with_reducible apply same_sys

theorem execXinFailure_same (s : State) (hkm : Sub 134217702 km) (h0 : Same km ka s) : SameR km ka (execXinFailure s) := by
  unfold execXinFailure
  try dsimp only
  repeat' first
    | with_reducible assumption
    | exact Sub.trans rfl hkm
    | intro _
    | with_reducible apply State.f_same
    | with_reducible apply State.inc_same
    | with_reducible apply State.tripAll_same
    | with_reducible apply State.beginReset_same
    | with_reducible apply State.relock_same
    | with_reducible apply State.setCtState_same
    | with_reducible apply State.holdCore_same
    | with_reducible apply State.stopFab_same
    | with_reducible apply same_ite
    | with_reducible apply same_foldl
    | with_reducible apply sameR_next
    | with_reducible apply same_foldl1
    | with_reducible apply same_ite1
    | split

theorem execXinRecovered_same (s : State) (hkm : Sub 2050 km) (h0 : Same km ka s) : SameR km ka (execXinRecovered s) := by
  unfold execXinRecovered
  try dsimp only
  repeat' first
    | with_reducible assumption
    | exact Sub.trans rfl hkm
    | intro _
    | with_reducible apply State.f_same
    | with_reducible apply same_ite
    | with_reducible apply same_foldl
    | with_reducible apply sameR_next
    | with_reducible apply same_foldl1
    | with_reducible apply same_ite1
    | split
    | dsimp only
    | with_reducible apply same_sys

theorem execRootPllUnlock_same (s : State) (hkm : Sub 134119142 km) (h0 : Same km ka s) : SameR km ka (execRootPllUnlock s) := by
  unfold execRootPllUnlock
  try dsimp only
  repeat' first
    | with_reducible assumption
    | exact Sub.trans rfl hkm
    | intro _
    | with_reducible apply State.beginReset_same
    | with_reducible apply State.relock_same
    | with_reducible apply State.inc_same
    | with_reducible apply State.f_same
    | with_reducible apply same_ite
    | with_reducible apply same_foldl
    | with_reducible apply sameR_next

theorem execRootPllLocked_same (s : State) (hkm : Sub 2786 km) (h0 : Same km ka s) : SameR km ka (execRootPllLocked s) := by
  unfold execRootPllLocked
  try dsimp only
  repeat' first
    | with_reducible assumption
    | exact Sub.trans rfl hkm
    | intro _
    | with_reducible apply State.f_same
    | with_reducible apply State.startFab_same
    | with_reducible apply same_ite
    | with_reducible apply same_foldl
    | with_reducible apply sameR_next
    | with_reducible apply same_foldl1
    | with_reducible apply same_ite1
    | split
    | dsimp only
    | with_reducible apply same_sys

theorem execWarm_same (s : State) (hkm : Sub 134119142 km) (h0 : Same km ka s) : SameR km ka (execWarm s) := by
  unfold execWarm
  try dsimp only
  repeat' first
    | with_reducible assumption
    | exact Sub.trans rfl hkm
    | intro _
    | with_reducible apply State.barWrite_same
    | with_reducible apply State.rstCtlWrite_same
    | with_reducible apply same_ite
    | with_reducible apply same_foldl
    | with_reducible apply sameR_next

theorem execHkrst_same (s : State) (hkm : Sub 134119142 km) (h0 : Same km ka s) : SameR km ka (execHkrst s) := by
  unfold execHkrst
  try dsimp only
  repeat' first
    | with_reducible assumption
    | exact Sub.trans rfl hkm
    | intro _
    | with_reducible apply State.barWrite_same
    | with_reducible apply State.rstCtlWrite_same
    | with_reducible apply same_ite
    | with_reducible apply same_foldl
    | with_reducible apply sameR_next

theorem execResetStart_same (s : State) (hkm : Sub 134119142 km) (h0 : Same km ka s) : SameR km ka (execResetStart s) := by
  unfold execResetStart
  try dsimp only
  repeat' first
    | with_reducible assumption
    | exact Sub.trans rfl hkm
    | intro _
    | with_reducible apply State.beginReset_same
    | with_reducible apply same_ite
    | with_reducible apply same_foldl
    | with_reducible apply sameR_next
    | with_reducible apply same_foldl1
    | with_reducible apply same_ite1
    | split
    | dsimp only
    | with_reducible apply same_sys

theorem execCoreHold_same (s : State) (hkm : Sub 67108838 km) (h0 : Same km ka s) : SameR km ka (execCoreHold s) := by
  unfold execCoreHold
  try dsimp only
  repeat' first
    | with_reducible assumption
    | exact Sub.trans rfl hkm
    | intro _
    | with_reducible apply State.holdCore_same
    | with_reducible apply same_ite
    | with_reducible apply same_foldl
    | with_reducible apply sameR_next
    | with_reducible apply same_foldl1
    | with_reducible apply same_ite1
    | split

theorem State.hkDropAll_same (s : State) (hkm : Sub 8192 km) (h0 : Same km ka s) : Same km ka (State.hkDropAll s) := by
  unfold State.hkDropAll
  try dsimp only
  repeat' first
    | with_reducible assumption
    | exact Sub.trans rfl hkm
    | intro _
    | with_reducible apply State.setBus_same
    | with_reducible apply same_ite
    | with_reducible apply same_foldl
    | with_reducible apply sameR_next
    | with_reducible apply same_foldl1
    | with_reducible apply same_ite1
    | split
    | dsimp only
    | with_reducible apply same_crs

theorem State.hkTrain_same (s : State) (hkm : Sub 8388610 km) (h0 : Same km ka s) : Same km ka (State.hkTrain s) := by
  unfold State.hkTrain
  try dsimp only
  repeat' first
    | with_reducible assumption
    | exact Sub.trans rfl hkm
    | intro _
    | with_reducible apply State.portOn_same
    | with_reducible apply same_ite
    | with_reducible apply same_foldl

theorem State.coreBack_same (s : State) (hkm : Sub 8391202 km) (h0 : Same km ka s) : Same km ka (State.coreBack s) := by
  unfold State.coreBack
  try dsimp only
  repeat' first
    | with_reducible assumption
    | exact Sub.trans rfl hkm
    | intro _
    | with_reducible apply State.noteIso_same
    | with_reducible apply State.wakeIcu_same
    | with_reducible apply State.portOn_same
    | with_reducible apply State.f_same
    | with_reducible apply same_ite
    | with_reducible apply same_foldl

theorem execHousekeepingReady_same (s : State) (hkm : Sub 25176610 km) (h0 : Same km ka s) : SameR km ka (execHousekeepingReady s) := by
  unfold execHousekeepingReady
  try dsimp only
  repeat' first
    | with_reducible assumption
    | exact Sub.trans rfl hkm
    | intro _
    | with_reducible apply State.hkDropAll_same
    | with_reducible apply State.hkTrain_same
    | with_reducible apply State.startRound_same
    | with_reducible apply State.coreBack_same
    | with_reducible apply same_ite
    | with_reducible apply same_foldl
    | with_reducible apply sameR_next
    | with_reducible apply same_foldl1
    | with_reducible apply same_ite1
    | split
    | dsimp only
    | with_reducible apply same_sys

theorem execWatchdogExpiry_same (s : State) (hkm : Sub 134119142 km) (h0 : Same km ka s) : SameR km ka (execWatchdogExpiry s) := by
  unfold execWatchdogExpiry
  try dsimp only
  repeat' first
    | with_reducible assumption
    | exact Sub.trans rfl hkm
    | intro _
    | with_reducible apply State.inc_same
    | with_reducible apply State.beginReset_same
    | with_reducible apply same_ite
    | with_reducible apply same_foldl
    | with_reducible apply sameR_next
    | with_reducible apply same_foldl1
    | with_reducible apply same_ite1
    | split
    | dsimp only
    | with_reducible apply same_sys

theorem execPmicPgRise_same (s : State) (hkm : Sub 2048 km) (h0 : Same km ka s) : SameR km ka (execPmicPgRise s) := by
  unfold execPmicPgRise
  try dsimp only
  repeat' first
    | with_reducible assumption
    | exact Sub.trans rfl hkm
    | intro _
    | with_reducible apply same_ite
    | with_reducible apply same_foldl
    | with_reducible apply sameR_next
    | with_reducible apply same_foldl1
    | with_reducible apply same_ite1
    | split
    | dsimp only
    | with_reducible apply same_sys

theorem execTapIsolate_same (ir : Nat) (cells : List Bool) (s : State) (hkm : Sub 134217510 km) (h0 : Same km ka s) : SameR km ka (execTapIsolate ir cells s) := by
  unfold execTapIsolate
  try dsimp only
  repeat' first
    | with_reducible assumption
    | exact Sub.trans rfl hkm
    | intro _
    | with_reducible apply State.nvReset_same
    | with_reducible apply State.applySafe_same
    | with_reducible apply State.f_same
    | with_reducible apply State.abortEntry_same
    | with_reducible apply State.portOff_same
    | with_reducible apply State.wipeCore_same
    | with_reducible apply same_ite
    | with_reducible apply same_foldl
    | with_reducible apply sameR_next
    | with_reducible apply same_foldl1
    | with_reducible apply same_ite1
    | split
    | dsimp only
    | with_reducible apply same_sys

theorem execTapRelease_same (ir : Nat) (s : State) (hkm : Sub 134119142 km) (h0 : Same km ka s) : SameR km ka (execTapRelease ir s) := by
  unfold execTapRelease
  try dsimp only
  repeat' first
    | with_reducible assumption
    | exact Sub.trans rfl hkm
    | intro _
    | with_reducible apply State.noteReset_same
    | with_reducible apply State.beginReset_same
    | with_reducible apply same_ite
    | with_reducible apply same_foldl
    | with_reducible apply sameR_next
    | with_reducible apply same_foldl1
    | with_reducible apply same_ite1
    | split
    | dsimp only
    | with_reducible apply same_sys

end Sys2Proof.Machine
end

