-- ==== Sys2Proof/Laws/SamePower.lean ====
section
/-! SUPPORT. What the operations of Machine/Power.lean keep (Laws/Same.lean). -/
set_option Elab.async false
namespace Sys2Proof.Machine

variable {km : Nat} {ka : State}

theorem State.setStage_same (s : State) (n : Nat) (hkm : Sub 3618 km) (h0 : Same km ka s) : Same km ka (State.setStage s n) := by
  unfold State.setStage
  try dsimp only
  repeat' first
    | with_reducible assumption
    | exact Sub.trans rfl hkm
    | intro _
    | with_reducible apply State.f_same
    | with_reducible apply State.event_same
    | with_reducible apply State.raiseHub_same
    | with_reducible apply same_ite
    | with_reducible apply same_foldl
    | with_reducible apply sameR_next
    | with_reducible apply same_foldl1
    | with_reducible apply same_ite1
    | split
    | dsimp only
    | with_reducible apply same_sys

theorem State.followStage_same (s : State) (hkm : Sub 14425634 km) (h0 : Same km ka s) : Same km ka (State.followStage s) := by
  unfold State.followStage
  try dsimp only
  repeat' first
    | with_reducible assumption
    | exact Sub.trans rfl hkm
    | intro _
    | with_reducible apply State.canPins_same
    | with_reducible apply State.rcgStage_same
    | with_reducible apply State.mashStage_same
    | with_reducible apply State.schedStage_same

theorem State.riseTo_same (s : State) (n : Nat) (hkm : Sub 65011438 km) (h0 : Same km ka s) : Same km ka (State.riseTo s n) := by
  unfold State.riseTo
  try dsimp only
  repeat' first
    | with_reducible assumption
    | exact Sub.trans rfl hkm
    | intro _
    | with_reducible apply State.abortBy_same
    | with_reducible apply State.finalCommit_same
    | with_reducible apply State.failOutputs_same
    | with_reducible apply State.inc_same
    | with_reducible apply State.setStage_same
    | with_reducible apply State.phase_same
    | with_reducible apply State.shedLane_same
    | with_reducible apply State.closeAll_same
    | with_reducible apply State.handover_same
    | with_reducible apply State.canPins_same
    | with_reducible apply State.coreDown_same
    | with_reducible apply State.followStage_same
    | with_reducible apply same_ite
    | with_reducible apply same_foldl
    | with_reducible apply sameR_next
    | with_reducible apply same_foldl1
    | with_reducible apply same_ite1
    | split
    | dsimp only
    | with_reducible apply same_sys

theorem execPowerFail_same (why : Nat) (mv : Nat) (s : State) (hkm : Sub 65011438 km) (h0 : Same km ka s) : SameR km ka (execPowerFail why mv s) := by
  unfold execPowerFail
  try dsimp only
  repeat' first
    | with_reducible assumption
    | exact Sub.trans rfl hkm
    | intro _
    | with_reducible apply State.f_same
    | with_reducible apply State.riseTo_same
    | with_reducible apply State.failOutputs_same
    | with_reducible apply same_ite
    | with_reducible apply same_foldl
    | with_reducible apply sameR_next
    | with_reducible apply same_foldl1
    | with_reducible apply same_ite1
    | split
    | dsimp only
    | with_reducible apply same_sys

theorem State.entryStop_same (s : State) (hkm : Sub 31432238 km) (h0 : Same km ka s) : Same km ka (State.entryStop s) := by
  unfold State.entryStop
  try dsimp only
  repeat' first
    | with_reducible assumption
    | exact Sub.trans rfl hkm
    | intro _
    | with_reducible apply State.handover_same
    | with_reducible apply same_ite
    | with_reducible apply same_foldl
    | with_reducible apply sameR_next
    | with_reducible apply same_foldl1
    | with_reducible apply same_ite1
    | split
    | dsimp only
    | with_reducible apply same_sys

theorem State.enterState_same (s : State) (t : PState) (hkm : Sub 31432238 km) (h0 : Same km ka s) : Same km ka (State.enterState s t) := by
  unfold State.enterState
  try dsimp only
  repeat' first
    | with_reducible assumption
    | exact Sub.trans rfl hkm
    | intro _
    | with_reducible apply State.refuser_same
    | with_reducible apply State.f_same
    | with_reducible apply State.phase_same
    | with_reducible apply State.entryStop_same
    | with_reducible apply same_ite
    | with_reducible apply same_foldl
    | with_reducible apply sameR_next
    | with_reducible apply same_foldl1
    | with_reducible apply same_ite1
    | split
    | dsimp only
    | with_reducible apply same_sys

theorem State.pwrCtlWrite_same (s : State) (v : Word) (hkm : Sub 31440430 km) (h0 : Same km ka s) : Same km ka (State.pwrCtlWrite s v) := by
  unfold State.pwrCtlWrite
  try dsimp only
  repeat' first
    | with_reducible assumption
    | exact Sub.trans rfl hkm
    | intro _
    | with_reducible apply State.discard_same
    | with_reducible apply State.abortEntry_same
    | with_reducible apply State.enterState_same
    | with_reducible apply same_ite

theorem execCommitPoint_same (b : Nat) (s : State) (hkm : Sub 31440430 km) (h0 : Same km ka s) : SameR km ka (execCommitPoint b s) := by
  unfold execCommitPoint
  try dsimp only
  repeat' first
    | with_reducible assumption
    | exact Sub.trans rfl hkm
    | intro _
    | with_reducible apply State.commitCycle_same
    | with_reducible apply State.nofitScan_same
    | with_reducible apply State.dropPlan_same
    | with_reducible apply State.entryStop_same
    | with_reducible apply same_ite
    | with_reducible apply same_foldl
    | with_reducible apply sameR_next
    | with_reducible apply same_foldl1
    | with_reducible apply same_ite1
    | split
    | dsimp only
    | with_reducible apply same_sys

theorem State.offCommit_same (s : State) (hkm : Sub 33554434 km) (h0 : Same km ka s) : Same km ka (State.offCommit s) := by
  unfold State.offCommit
  try dsimp only
  repeat' first
    | with_reducible assumption
    | exact Sub.trans rfl hkm
    | intro _
    | with_reducible apply State.jcommit_same
    | with_reducible apply State.lifeCommit_same
    | with_reducible apply same_ite
    | with_reducible apply same_foldl
    | with_reducible apply sameR_next
    | with_reducible apply same_foldl1
    | with_reducible apply same_ite1
    | split
    | dsimp only
    | with_reducible apply same_nvs

theorem State.commitEntry_same (s : State) (t : PState) (l2 : Bool) (hkm : Sub 134217714 km) (h0 : Same km ka s) : Same km ka (State.commitEntry s t l2) := by
  unfold State.commitEntry
  try dsimp only
  repeat' first
    | with_reducible assumption
    | exact Sub.trans rfl hkm
    | intro _
    | with_reducible apply State.coreDown_same
    | with_reducible apply State.canPins_same
    | with_reducible apply State.f_same
    | with_reducible apply State.phase_same
    | with_reducible apply State.unpowered_same
    | with_reducible apply State.offCommit_same
    | with_reducible apply same_ite
    | with_reducible apply same_foldl
    | with_reducible apply sameR_next
    | with_reducible apply same_foldl1
    | with_reducible apply same_ite1
    | split
    | dsimp only
    | with_reducible apply same_sys

theorem execEntryCommit_same (l2 : Bool) (s : State) (hkm : Sub 134217714 km) (h0 : Same km ka s) : SameR km ka (execEntryCommit l2 s) := by
  unfold execEntryCommit
  try dsimp only
  repeat' first
    | with_reducible assumption
    | exact Sub.trans rfl hkm
    | intro _
    | with_reducible apply State.wakeLatched_same
    | with_reducible apply State.abortBy_same
    | with_reducible apply State.commitEntry_same
    | with_reducible apply same_ite
    | with_reducible apply same_foldl
    | with_reducible apply sameR_next
    | with_reducible apply same_foldl1
    | with_reducible apply same_ite1
    | split

theorem State.measure_same (s : State) (mv : Nat) (tj : Int) (hkm : Sub 2 km) (h0 : Same km ka s) : Same km ka (State.measure s mv tj) := by
  unfold State.measure
  try dsimp only
  repeat' first
    | with_reducible assumption
    | exact Sub.trans rfl hkm
    | intro _
    | with_reducible apply State.f_same

theorem execShedRise_same (mv : Nat) (tj : Int) (s : State) (hkm : Sub 65011438 km) (h0 : Same km ka s) : SameR km ka (execShedRise mv tj s) := by
  unfold execShedRise
  try dsimp only
  repeat' first
    | with_reducible assumption
    | exact Sub.trans rfl hkm
    | intro _
    | with_reducible apply State.measure_same
    | with_reducible apply State.riseTo_same
    | with_reducible apply same_ite
    | with_reducible apply same_foldl
    | with_reducible apply sameR_next

theorem State.fallOne_same (s : State) (hkm : Sub 14433954 km) (h0 : Same km ka s) : Same km ka (State.fallOne s) := by
  unfold State.fallOne
  try dsimp only
  repeat' first
    | with_reducible assumption
    | exact Sub.trans rfl hkm
    | intro _
    | with_reducible apply State.setStage_same
    | with_reducible apply State.takeWatch_same
    | with_reducible apply State.rcgStage_same
    | with_reducible apply State.schedStage_same
    | with_reducible apply State.wakeLatched_same
    | with_reducible apply State.shedWake_same
    | with_reducible apply State.unshedLane_same
    | with_reducible apply State.followStage_same
    | with_reducible apply same_ite
    | with_reducible apply same_foldl
    | with_reducible apply sameR_next
    | with_reducible apply same_foldl1
    | with_reducible apply same_ite1
    | split
    | dsimp only
    | with_reducible apply same_sys

theorem State.shedFall_same (s : State) (hkm : Sub 14433954 km) (h0 : Same km ka s) : Same km ka (State.shedFall s) := by
  unfold State.shedFall
  try dsimp only
  repeat' first
    | with_reducible assumption
    | exact Sub.trans rfl hkm
    | intro _
    | with_reducible apply State.fallOne_same
    | with_reducible apply same_ite
    | with_reducible apply same_foldl
    | with_reducible apply sameR_next
    | with_reducible apply same_foldl1
    | with_reducible apply same_ite1
    | split
    | dsimp only
    | with_reducible apply same_sys

theorem execShedFall_same (mv : Nat) (tj : Int) (s : State) (hkm : Sub 14433954 km) (h0 : Same km ka s) : SameR km ka (execShedFall mv tj s) := by
  unfold execShedFall
  try dsimp only
  repeat' first
    | with_reducible assumption
    | exact Sub.trans rfl hkm
    | intro _
    | with_reducible apply State.shedFall_same
    | with_reducible apply State.measure_same
    | with_reducible apply same_ite
    | with_reducible apply same_foldl
    | with_reducible apply sameR_next

theorem execPowerRestore_same (mv : Nat) (tj : Int) (s : State) (hkm : Sub 14433954 km) (h0 : Same km ka s) : SameR km ka (execPowerRestore mv tj s) := by
  unfold execPowerRestore
  try dsimp only
  repeat' first
    | with_reducible assumption
    | exact Sub.trans rfl hkm
    | intro _
    | with_reducible apply State.shedFall_same
    | with_reducible apply State.measure_same
    | with_reducible apply same_ite
    | with_reducible apply same_foldl
    | with_reducible apply sameR_next
    | with_reducible apply same_foldl1
    | with_reducible apply same_ite1
    | split
    | dsimp only
    | with_reducible apply same_sys

theorem State.thermalStop_same (s : State) (hkm : Sub 65011438 km) (h0 : Same km ka s) : Same km ka (State.thermalStop s) := by
  unfold State.thermalStop
  try dsimp only
  repeat' first
    | with_reducible assumption
    | exact Sub.trans rfl hkm
    | intro _
    | with_reducible apply State.finalCommit_same
    | with_reducible apply State.lifeInc_same

theorem execThermalShutdown_same (tj : Int) (s : State) (hkm : Sub 65011438 km) (h0 : Same km ka s) : SameR km ka (execThermalShutdown tj s) := by
  unfold execThermalShutdown
  try dsimp only
  repeat' first
    | with_reducible assumption
    | exact Sub.trans rfl hkm
    | intro _
    | with_reducible apply State.f_same
    | with_reducible apply State.inc_same
    | with_reducible apply State.thermalStop_same
    | with_reducible apply same_ite
    | with_reducible apply same_foldl
    | with_reducible apply sameR_next
    | with_reducible apply same_foldl1
    | with_reducible apply same_ite1
    | split
    | dsimp only
    | with_reducible apply same_sys

theorem execThermalRecover_same (tj : Int) (s : State) (hkm : Sub 14433826 km) (h0 : Same km ka s) : SameR km ka (execThermalRecover tj s) := by
  unfold execThermalRecover
  try dsimp only
  repeat' first
    | with_reducible assumption
    | exact Sub.trans rfl hkm
    | intro _
    | with_reducible apply State.f_same
    | with_reducible apply State.wakeLatched_same
    | with_reducible apply State.shedWake_same
    | with_reducible apply same_ite
    | with_reducible apply same_foldl
    | with_reducible apply sameR_next
    | with_reducible apply same_foldl1
    | with_reducible apply same_ite1
    | split
    | dsimp only
    | with_reducible apply same_sys

theorem execPwrCounterClr_same (v : Word) (s : State) (hkm : Sub 2594 km) (h0 : Same km ka s) : SameR km ka (execPwrCounterClr v s) := by
  unfold execPwrCounterClr
  try dsimp only
  repeat' first
    | with_reducible assumption
    | exact Sub.trans rfl hkm
    | intro _
    | with_reducible apply State.barWrite_same
    | with_reducible apply State.clrWrite_same
    | with_reducible apply same_ite
    | with_reducible apply same_foldl
    | with_reducible apply sameR_next

theorem execNvmProgramDone_same (ok : Bool) (s : State) (hkm : Sub 67108590 km) (h0 : Same km ka s) : SameR km ka (execNvmProgramDone ok s) := by
  unfold execNvmProgramDone
  try dsimp only
  repeat' first
    | with_reducible assumption
    | exact Sub.trans rfl hkm
    | intro _
    | with_reducible apply State.finalDone_same
    | with_reducible apply State.showNvs_same
    | with_reducible apply State.nvProgram_same
    | with_reducible apply State.thermalStop_same
    | with_reducible apply same_ite
    | with_reducible apply same_foldl
    | with_reducible apply sameR_next
    | with_reducible apply same_foldl1
    | with_reducible apply same_ite1
    | split

theorem execThermalProgramAbandon_same (tj : Int) (s : State) (hkm : Sub 67108590 km) (h0 : Same km ka s) : SameR km ka (execThermalProgramAbandon tj s) := by
  unfold execThermalProgramAbandon
  try dsimp only
  repeat' first
    | with_reducible assumption
    | exact Sub.trans rfl hkm
    | intro _
    | with_reducible apply State.f_same
    | with_reducible apply State.thermalStop_same
    | with_reducible apply State.showNvs_same
    | with_reducible apply State.nvAbandon_same
    | with_reducible apply same_ite
    | with_reducible apply same_foldl
    | with_reducible apply sameR_next
    | with_reducible apply same_foldl1
    | with_reducible apply same_ite1
    | split

theorem execAbort_same (s : State) (hkm : Sub 31440430 km) (h0 : Same km ka s) : SameR km ka (execAbort s) := by
  unfold execAbort
  try dsimp only
  repeat' first
    | with_reducible assumption
    | exact Sub.trans rfl hkm
    | intro _
    | with_reducible apply State.barWrite_same
    | with_reducible apply State.pwrCtlWrite_same
    | with_reducible apply same_ite
    | with_reducible apply same_foldl
    | with_reducible apply sameR_next

theorem execDoze_same (s : State) (hkm : Sub 31440430 km) (h0 : Same km ka s) : SameR km ka (execDoze s) := by
  unfold execDoze
  try dsimp only
  repeat' first
    | with_reducible assumption
    | exact Sub.trans rfl hkm
    | intro _
    | with_reducible apply State.barWrite_same
    | with_reducible apply State.pwrCtlWrite_same
    | with_reducible apply same_ite
    | with_reducible apply same_foldl
    | with_reducible apply sameR_next

theorem execWatch_same (s : State) (hkm : Sub 31440430 km) (h0 : Same km ka s) : SameR km ka (execWatch s) := by
  unfold execWatch
  try dsimp only
  repeat' first
    | with_reducible assumption
    | exact Sub.trans rfl hkm
    | intro _
    | with_reducible apply State.barWrite_same
    | with_reducible apply State.pwrCtlWrite_same
    | with_reducible apply same_ite
    | with_reducible apply same_foldl
    | with_reducible apply sameR_next

theorem execHibernate_same (s : State) (hkm : Sub 31440430 km) (h0 : Same km ka s) : SameR km ka (execHibernate s) := by
  unfold execHibernate
  try dsimp only
  repeat' first
    | with_reducible assumption
    | exact Sub.trans rfl hkm
    | intro _
    | with_reducible apply State.barWrite_same
    | with_reducible apply State.pwrCtlWrite_same
    | with_reducible apply same_ite
    | with_reducible apply same_foldl
    | with_reducible apply sameR_next

theorem execOff_same (s : State) (hkm : Sub 31440430 km) (h0 : Same km ka s) : SameR km ka (execOff s) := by
  unfold execOff
  try dsimp only
  repeat' first
    | with_reducible assumption
    | exact Sub.trans rfl hkm
    | intro _
    | with_reducible apply State.barWrite_same
    | with_reducible apply State.pwrCtlWrite_same
    | with_reducible apply same_ite
    | with_reducible apply same_foldl
    | with_reducible apply sameR_next

theorem execAutotExpiry_same (s : State) (hkm : Sub 31432238 km) (h0 : Same km ka s) : SameR km ka (execAutotExpiry s) := by
  unfold execAutotExpiry
  try dsimp only
  repeat' first
    | with_reducible assumption
    | exact Sub.trans rfl hkm
    | intro _
    | with_reducible apply State.enterState_same
    | with_reducible apply same_ite
    | with_reducible apply same_foldl
    | with_reducible apply sameR_next
    | with_reducible apply same_foldl1
    | with_reducible apply same_ite1
    | split

theorem execDrained_same (s : State) (hkm : Sub 31440430 km) (h0 : Same km ka s) : SameR km ka (execDrained s) := by
  unfold execDrained
  try dsimp only
  repeat' first
    | with_reducible assumption
    | exact Sub.trans rfl hkm
    | intro _
    | with_reducible apply State.entryStop_same
    | with_reducible apply State.wakeLatched_same
    | with_reducible apply State.abortBy_same
    | with_reducible apply State.f_same
    | with_reducible apply same_ite
    | with_reducible apply same_foldl
    | with_reducible apply sameR_next
    | with_reducible apply same_foldl1
    | with_reducible apply same_ite1
    | split
    | dsimp only
    | with_reducible apply same_sys

theorem execWakeat_same (s : State) (hkm : Sub 14433826 km) (h0 : Same km ka s) : SameR km ka (execWakeat s) := by
  unfold execWakeat
  try dsimp only
  repeat' first
    | with_reducible assumption
    | exact Sub.trans rfl hkm
    | intro _
    | with_reducible apply State.wakeLatched_same
    | with_reducible apply State.wakeReq_same
    | with_reducible apply same_ite
    | with_reducible apply same_foldl
    | with_reducible apply sameR_next
    | with_reducible apply same_foldl1
    | with_reducible apply same_ite1
    | split
    | dsimp only
    | with_reducible apply same_sys

theorem execMemrdy_same (s : State) (hkm : Sub 2786 km) (h0 : Same km ka s) : SameR km ka (execMemrdy s) := by
  unfold execMemrdy
  try dsimp only
  repeat' first
    | with_reducible assumption
    | exact Sub.trans rfl hkm
    | intro _
    | with_reducible apply State.wakeIcu_same
    | with_reducible apply State.startFab_same
    | with_reducible apply same_ite
    | with_reducible apply same_foldl
    | with_reducible apply sameR_next
    | with_reducible apply same_foldl1
    | with_reducible apply same_ite1
    | split
    | dsimp only
    | with_reducible apply same_sys

theorem execWakeComplete_same (s : State) (hkm : Sub 134119142 km) (h0 : Same km ka s) : SameR km ka (execWakeComplete s) := by
  unfold execWakeComplete
  try dsimp only
  repeat' first
    | with_reducible assumption
    | exact Sub.trans rfl hkm
    | intro _
    | with_reducible apply State.handback_same
    | with_reducible apply State.raiseHub_same
    | with_reducible apply State.portOn_same
    | with_reducible apply State.noteIso_same
    | with_reducible apply State.phase_same
    | with_reducible apply State.beginReset_same
    | with_reducible apply same_ite
    | with_reducible apply same_foldl
    | with_reducible apply sameR_next
    | with_reducible apply same_foldl1
    | with_reducible apply same_ite1
    | split
    | dsimp only
    | with_reducible apply same_sys

theorem execWakePgTimeout_same (s : State) (hkm : Sub 2050 km) (h0 : Same km ka s) : SameR km ka (execWakePgTimeout s) := by
  unfold execWakePgTimeout
  try dsimp only
  repeat' first
    | with_reducible assumption
    | exact Sub.trans rfl hkm
    | intro _
    | with_reducible apply State.phase_same
    | with_reducible apply State.inc_same
    | with_reducible apply same_ite
    | with_reducible apply same_foldl
    | with_reducible apply sameR_next
    | with_reducible apply same_foldl1
    | with_reducible apply same_ite1
    | split
    | dsimp only
    | with_reducible apply same_sys

theorem execWakeRetry_same (s : State) (hkm : Sub 14433826 km) (h0 : Same km ka s) : SameR km ka (execWakeRetry s) := by
  unfold execWakeRetry
  try dsimp only
  repeat' first
    | with_reducible assumption
    | exact Sub.trans rfl hkm
    | intro _
    | with_reducible apply State.phase_same
    | with_reducible apply State.wakeLatched_same
    | with_reducible apply same_ite
    | with_reducible apply same_foldl
    | with_reducible apply sameR_next
    | with_reducible apply same_foldl1
    | with_reducible apply same_ite1
    | split
    | dsimp only
    | with_reducible apply same_sys

theorem execWatchCycle_same (s : State) (hkm : Sub 50085414 km) (h0 : Same km ka s) : SameR km ka (execWatchCycle s) := by
  unfold execWatchCycle
  try dsimp only
  repeat' first
    | with_reducible assumption
    | exact Sub.trans rfl hkm
    | intro _
    | with_reducible apply State.beacon_same
    | with_reducible apply State.wheelInstant_same
    | with_reducible apply State.modEnt_same
    | with_reducible apply times_same
    | with_reducible apply State.decodeHead_same
    | with_reducible apply State.rcgHead_same
    | with_reducible apply same_ite
    | with_reducible apply same_foldl
    | with_reducible apply sameR_next
    | with_reducible apply same_foldl1
    | with_reducible apply same_ite1
    | split
    | dsimp only
    | with_reducible apply same_sys

end Sys2Proof.Machine
end

