-- ==== Sys2Proof/Laws/SameBoot.lean ====
section
/-! SUPPORT. What the operations of Machine/Boot.lean keep (Laws/Same.lean). -/
set_option Elab.async false
namespace Sys2Proof.Machine

variable {km : Nat} {ka : State}

theorem State.gCtlWrite_same (s : State) (v : Word) (hkm : Sub 67109410 km) (h0 : Same km ka s) : Same km ka (State.gCtlWrite s v) := by
  unfold State.gCtlWrite
  try dsimp only
  repeat' first
    | with_reducible assumption
    | exact Sub.trans rfl hkm
    | intro _
    | with_reducible apply State.discard_same
    | with_reducible apply State.showNvs_same
    | with_reducible apply State.f_same
    | with_reducible apply same_ite
    | with_reducible apply same_foldl
    | with_reducible apply sameR_next
    | with_reducible apply same_foldl1
    | with_reducible apply same_ite1
    | split
    | dsimp only
    | with_reducible apply same_boot

theorem execGuardImageStore_same (s : State) (hkm : Sub 67111458 km) (h0 : Same km ka s) : SameR km ka (execGuardImageStore s) := by
  unfold execGuardImageStore
  try dsimp only
  repeat' first
    | with_reducible assumption
    | exact Sub.trans rfl hkm
    | intro _
    | with_reducible apply State.barWrite_same
    | with_reducible apply State.gCtlWrite_same
    | with_reducible apply same_ite
    | with_reducible apply same_foldl
    | with_reducible apply sameR_next

theorem State.setSlot_same (s : State) (b : List Nat) (hkm : Sub 67108864 km) (h0 : Same km ka s) : Same km ka (State.setSlot s b) := by
  unfold State.setSlot
  try dsimp only
  repeat' first
    | with_reducible assumption
    | exact Sub.trans rfl hkm
    | intro _
    | with_reducible apply same_ite
    | with_reducible apply same_foldl
    | with_reducible apply sameR_next
    | with_reducible apply same_foldl1
    | with_reducible apply same_ite1
    | split
    | dsimp only
    | with_reducible apply same_boot

theorem State.upCtlWrite_same (s : State) (v : Word) (hkm : Sub 67109410 km) (h0 : Same km ka s) : Same km ka (State.upCtlWrite s v) := by
  unfold State.upCtlWrite
  try dsimp only
  repeat' first
    | with_reducible assumption
    | exact Sub.trans rfl hkm
    | intro _
    | with_reducible apply State.discard_same
    | with_reducible apply State.showNvs_same
    | with_reducible apply State.setSlot_same
    | with_reducible apply State.f_same
    | with_reducible apply same_ite

theorem State.powerOn_same (s : State) (vaon : Bool) (hkm : Sub 134217682 km) (h0 : Same km ka s) : Same km ka (State.powerOn s vaon) := by
  unfold State.powerOn
  try dsimp only
  repeat' first
    | with_reducible assumption
    | exact Sub.trans rfl hkm
    | intro _
    | with_reducible apply State.unpowered_same
    | with_reducible apply State.f_same
    | with_reducible apply same_ite
    | with_reducible apply same_foldl
    | with_reducible apply sameR_next
    | with_reducible apply same_foldl1
    | with_reducible apply same_ite1
    | split
    | dsimp only
    | with_reducible apply same_nvs

theorem execPowerOnReset_same (vaon : Bool) (s : State) (hkm : Sub 134217682 km) (h0 : Same km ka s) : SameR km ka (execPowerOnReset vaon s) := by
  unfold execPowerOnReset
  try dsimp only
  repeat' first
    | with_reducible assumption
    | exact Sub.trans rfl hkm
    | intro _
    | with_reducible apply State.powerOn_same
    | with_reducible apply same_ite
    | with_reducible apply same_foldl
    | with_reducible apply sameR_next

theorem execWakeSource_same (bits : Nat) (s : State) (hkm : Sub 134217714 km) (h0 : Same km ka s) : SameR km ka (execWakeSource bits s) := by
  unfold execWakeSource
  try dsimp only
  repeat' first
    | with_reducible assumption
    | exact Sub.trans rfl hkm
    | intro _
    | with_reducible apply State.powerOn_same
    | with_reducible apply State.wakeLatched_same
    | with_reducible apply State.wakeReq_same
    | with_reducible apply same_ite
    | with_reducible apply same_foldl
    | with_reducible apply sameR_next

theorem State.bootMap_same (s : State) (hkm : Sub 33554434 km) (h0 : Same km ka s) : Same km ka (State.bootMap s) := by
  unfold State.bootMap
  try dsimp only
  repeat' first
    | with_reducible assumption
    | exact Sub.trans rfl hkm
    | intro _
    | with_reducible apply State.f_same
    | with_reducible apply State.showNvs_same
    | with_reducible apply State.showJournal_same
    | with_reducible apply same_ite
    | with_reducible apply same_foldl
    | with_reducible apply sameR_next
    | with_reducible apply same_foldl1
    | with_reducible apply same_ite1
    | split
    | dsimp only
    | with_reducible apply same_nvs

theorem State.bootImage_same (s : State) (ra : Bool) (rb : Bool) (hkm : Sub 2 km) (h0 : Same km ka s) : Same km ka (State.bootImage s ra rb) := by
  unfold State.bootImage
  try dsimp only
  repeat' first
    | with_reducible assumption
    | exact Sub.trans rfl hkm
    | intro _
    | with_reducible apply State.f_same
    | with_reducible apply same_ite

theorem State.bootLife_same (s : State) (hkm : Sub 33555174 km) (h0 : Same km ka s) : Same km ka (State.bootLife s) := by
  unfold State.bootLife
  try dsimp only
  repeat' first
    | with_reducible assumption
    | exact Sub.trans rfl hkm
    | with_reducible exact Or.inr (Sub.trans rfl hkm)
    | with_reducible exact Or.inl rfl
    | intro _
    | with_reducible apply State.setCtState_same
    | with_reducible apply State.f_same
    | with_reducible apply State.f64_same
    | with_reducible apply State.lifeInc_same
    | with_reducible apply State.drew_same
    | with_reducible apply State.lifeRecord_same
    | with_reducible apply State.jpush_same
    | with_reducible apply same_ite
    | with_reducible apply same_foldl
    | with_reducible apply sameR_next
    | with_reducible apply same_foldl1
    | with_reducible apply same_ite1
    | split
    | dsimp only
    | with_reducible apply same_time
    | with_reducible apply same_nvs

theorem State.fwWrite_same (s : State) (r : Reg) (i : Nat) (v : Word) (act : State → State) (hkm : Sub 546 km) (h0 : Same km ka s) (hfact : ∀ y0, Same km ka y0 → Same km ka (act y0)) : Same km ka (State.fwWrite s r i v act) := by
  unfold State.fwWrite
  try dsimp only
  repeat' first
    | with_reducible assumption
    | exact Sub.trans rfl hkm
    | intro _
    | with_reducible apply hfact
    | with_reducible apply State.discard_same
    | with_reducible apply same_ite
    | with_reducible apply same_foldl
    | with_reducible apply sameR_next
    | with_reducible apply same_foldl1
    | with_reducible apply same_ite1
    | split

theorem State.guardReg_same (s : State) (c : Nat) (k : Nat) (v : Word) (hkm : Sub 46169894 km) (h0 : Same km ka s) : Same km ka (State.guardReg s c k v) := by
  unfold State.guardReg
  try dsimp only
  repeat' first
    | with_reducible assumption
    | exact Sub.trans rfl hkm
    | intro _
    | with_reducible apply State.fwWrite_same
    | with_reducible apply State.grdCfgWrite_same
    | with_reducible apply State.grdIlimWrite_same
    | with_reducible apply State.grdVlimWrite_same
    | with_reducible apply State.store_same
    | with_reducible apply State.grdEwinWrite_same
    | with_reducible apply State.grdBudgetWrite_same
    | with_reducible apply same_ite
    | with_reducible apply same_foldl
    | with_reducible apply sameR_next
    | with_reducible apply same_foldl1
    | with_reducible apply same_ite1
    | split

theorem State.guardWrites_same (b : List Nat) (v1 : List Nat) (v2 : State) (hkm : Sub 46169894 km) (h0 : Same km ka v2) : Same km ka (State.guardWrites b v1 v2).1 := by
  induction v1 generalizing v2 with
  | nil => exact h0
  | cons x l ih =>
    unfold State.guardWrites
    try dsimp only
    repeat' first
      | with_reducible assumption
      | exact Sub.trans rfl hkm
      | with_reducible apply ih
      | intro _
      | with_reducible apply State.fwWrite_same
      | with_reducible apply State.store_same
      | with_reducible apply State.guardReg_same
      | with_reducible apply same_ite
      | with_reducible apply same_foldl
      | with_reducible apply sameR_next
      | with_reducible apply same_foldl1
      | with_reducible apply same_ite1

theorem State.bootGuard_same (s : State) (rg : Bool) (hkm : Sub 46169894 km) (h0 : Same km ka s) : Same km ka (State.bootGuard s rg) := by
  unfold State.bootGuard
  try dsimp only
  repeat' first
    | with_reducible assumption
    | exact Sub.trans rfl hkm
    | intro _
    | with_reducible apply State.f_same
    | with_reducible apply State.guardWrites_same
    | with_reducible apply State.lockWrite_same
    | with_reducible apply same_ite
    | with_reducible apply same_foldl
    | with_reducible apply sameR_next
    | with_reducible apply same_foldl1
    | with_reducible apply same_ite1
    | split
    | dsimp only
    | (refine same_of_pair ?_ (by with_reducible assumption))

theorem State.bootReady_same (s : State) (hkm : Sub 8390658 km) (h0 : Same km ka s) : Same km ka (State.bootReady s) := by
  unfold State.bootReady
  try dsimp only
  repeat' first
    | with_reducible assumption
    | exact Sub.trans rfl hkm
    | intro _
    | with_reducible apply State.f_same
    | with_reducible apply State.noteIso_same
    | with_reducible apply State.portOn_same
    | with_reducible apply same_ite
    | with_reducible apply same_foldl

theorem execBootStageDone_same (ra : Bool) (rb : Bool) (rg : Bool) (s : State) (hkm : Sub 46432230 km) (h0 : Same km ka s) : SameR km ka (execBootStageDone ra rb rg s) := by
  unfold execBootStageDone
  try dsimp only
  repeat' first
    | with_reducible assumption
    | exact Sub.trans rfl hkm
    | intro _
    | with_reducible apply State.f_same
    | with_reducible apply State.bootMap_same
    | with_reducible apply State.bootImage_same
    | with_reducible apply State.bootLife_same
    | with_reducible apply State.bootGuard_same
    | with_reducible apply State.wakeIcu_same
    | with_reducible apply State.bootTables_same
    | with_reducible apply State.bootReady_same
    | with_reducible apply same_ite
    | with_reducible apply same_foldl
    | with_reducible apply sameR_next
    | with_reducible apply same_foldl1
    | with_reducible apply same_ite1
    | split
    | dsimp only
    | with_reducible apply same_sys

theorem execConfigRequest_same (wr : Bool) (ofs : Nat) (v : Word) (s : State) (hkm : Sub 2060 km) (h0 : Same km ka s) : SameR km ka (execConfigRequest wr ofs v s) := by
  unfold execConfigRequest
  try dsimp only
  repeat' first
    | with_reducible assumption
    | exact Sub.trans rfl hkm
    | with_reducible exact Or.inr (Sub.trans rfl hkm)
    | with_reducible exact Or.inl rfl
    | intro _
    | with_reducible apply State.drew_same
    | with_reducible apply same_ite
    | with_reducible apply same_foldl
    | with_reducible apply sameR_next
    | with_reducible apply same_foldl1
    | with_reducible apply same_ite1
    | split
    | dsimp only
    | with_reducible apply same_rdata
    | with_reducible apply same_sys
    | with_reducible apply same_mk

theorem execUpdateDone_same (rd : Bool) (st : Bool) (b : List Nat) (s : State) (hkm : Sub 79692322 km) (h0 : Same km ka s) : SameR km ka (execUpdateDone rd st b s) := by
  unfold execUpdateDone
  try dsimp only
  repeat' first
    | with_reducible assumption
    | exact Sub.trans rfl hkm
    | intro _
    | with_reducible apply State.setSlot_same
    | with_reducible apply State.setWorn_same
    | with_reducible apply State.raiseHub_same
    | with_reducible apply State.showNvs_same
    | with_reducible apply State.f_same
    | with_reducible apply same_ite
    | with_reducible apply same_foldl
    | with_reducible apply sameR_next

theorem execGuardImageDone_same (ok : Bool) (s : State) (hkm : Sub 79692322 km) (h0 : Same km ka s) : SameR km ka (execGuardImageDone ok s) := by
  unfold execGuardImageDone
  try dsimp only
  repeat' first
    | with_reducible assumption
    | exact Sub.trans rfl hkm
    | intro _
    | with_reducible apply State.discard_same
    | with_reducible apply State.setWorn_same
    | with_reducible apply State.raiseHub_same
    | with_reducible apply State.showNvs_same
    | with_reducible apply State.f_same
    | with_reducible apply same_ite
    | with_reducible apply same_foldl
    | with_reducible apply sameR_next
    | with_reducible apply same_foldl1
    | with_reducible apply same_ite1
    | split
    | dsimp only
    | with_reducible apply same_boot

theorem execBootStageTimeout_same (s : State) (hkm : Sub 46139938 km) (h0 : Same km ka s) : SameR km ka (execBootStageTimeout s) := by
  unfold execBootStageTimeout
  try dsimp only
  repeat' first
    | with_reducible assumption
    | exact Sub.trans rfl hkm
    | intro _
    | with_reducible apply State.f_same
    | with_reducible apply State.inc_same
    | with_reducible apply State.setWorn_same
    | with_reducible apply State.bootMap_same
    | with_reducible apply State.noteReset_same
    | with_reducible apply same_ite
    | with_reducible apply same_foldl
    | with_reducible apply sameR_next
    | with_reducible apply same_foldl1
    | with_reducible apply same_ite1
    | split
    | dsimp only
    | with_reducible apply same_sys

theorem execUpdateGo_same (s : State) (hkm : Sub 67111458 km) (h0 : Same km ka s) : SameR km ka (execUpdateGo s) := by
  unfold execUpdateGo
  try dsimp only
  repeat' first
    | with_reducible assumption
    | exact Sub.trans rfl hkm
    | intro _
    | with_reducible apply State.barWrite_same
    | with_reducible apply State.upCtlWrite_same
    | with_reducible apply same_ite
    | with_reducible apply same_foldl
    | with_reducible apply sameR_next

theorem execGuardImageErase_same (s : State) (hkm : Sub 67111458 km) (h0 : Same km ka s) : SameR km ka (execGuardImageErase s) := by
  unfold execGuardImageErase
  try dsimp only
  repeat' first
    | with_reducible assumption
    | exact Sub.trans rfl hkm
    | intro _
    | with_reducible apply State.barWrite_same
    | with_reducible apply State.gCtlWrite_same
    | with_reducible apply same_ite
    | with_reducible apply same_foldl
    | with_reducible apply sameR_next

end Sys2Proof.Machine
end

