-- ==== Sys2Proof/Laws/SameDoorbell.lean ====
section
/-! SUPPORT. What the operations of Machine/Doorbell.lean keep (Laws/Same.lean). -/
set_option Elab.async false
namespace Sys2Proof.Machine

variable {km : Nat} {ka : State}

theorem State.bell_same (s : State) (t : Nat) (o : Nat) (act : State → State) (hkm : Sub 14433826 km) (h0 : Same km ka s) (hfact : ∀ y0, Same km ka y0 → Same km ka (act y0)) : Same km ka (State.bell s t o act) := by
  unfold State.bell
  try dsimp only
  repeat' first
    | with_reducible assumption
    | exact Sub.trans rfl hkm
    | intro _
    | with_reducible apply hfact
    | with_reducible apply State.wakeDoze_same
    | with_reducible apply State.clockStopped_same
    | with_reducible apply State.abortBy_same
    | with_reducible apply same_ite

theorem execCmdtail_same (t : Nat) (v : Word) (s : State) (hkm : Sub 14433826 km) (h0 : Same km ka s) : SameR km ka (execCmdtail t v s) := by
  unfold execCmdtail
  try dsimp only
  repeat' first
    | with_reducible assumption
    | exact Sub.trans rfl hkm
    | intro _
    | with_reducible apply State.bell_same
    | with_reducible apply State.cmdTail_same
    | with_reducible apply same_ite
    | with_reducible apply same_foldl
    | with_reducible apply sameR_next

theorem execCplhead_same (t : Nat) (v : Word) (s : State) (hkm : Sub 14433826 km) (h0 : Same km ka s) : SameR km ka (execCplhead t v s) := by
  unfold execCplhead
  try dsimp only
  repeat' first
    | with_reducible assumption
    | exact Sub.trans rfl hkm
    | intro _
    | with_reducible apply State.bell_same
    | with_reducible apply State.cplHead_same
    | with_reducible apply same_ite
    | with_reducible apply same_foldl
    | with_reducible apply sameR_next

theorem execEvthead_same (t : Nat) (v : Word) (s : State) (hkm : Sub 14433826 km) (h0 : Same km ka s) : SameR km ka (execEvthead t v s) := by
  unfold execEvthead
  try dsimp only
  repeat' first
    | with_reducible assumption
    | exact Sub.trans rfl hkm
    | intro _
    | with_reducible apply State.bell_same
    | with_reducible apply State.evtHead_same
    | with_reducible apply same_ite
    | with_reducible apply same_foldl
    | with_reducible apply sameR_next

theorem State.ctlBell_same (s : State) (t : Nat) (v : Word) (hkm : Sub 14433826 km) (h0 : Same km ka s) : Same km ka (State.ctlBell s t v) := by
  unfold State.ctlBell
  try dsimp only
  repeat' first
    | with_reducible assumption
    | exact Sub.trans rfl hkm
    | intro _
    | with_reducible apply State.bell_same
    | with_reducible apply State.ctlWrite_same

theorem execPost_same (t : Nat) (r : Nat) (v : Word) (s : State) (hkm : Sub 14433826 km) (h0 : Same km ka s) : SameR km ka (execPost t r v s) := by
  unfold execPost
  try dsimp only
  repeat' first
    | with_reducible assumption
    | exact Sub.trans rfl hkm
    | intro _
    | with_reducible apply State.bell_same
    | with_reducible apply State.postWrite_same
    | with_reducible apply same_ite
    | with_reducible apply same_foldl
    | with_reducible apply sameR_next

theorem execAck_same (t : Nat) (r : Nat) (v : Word) (s : State) (hkm : Sub 14433826 km) (h0 : Same km ka s) : SameR km ka (execAck t r v s) := by
  unfold execAck
  try dsimp only
  repeat' first
    | with_reducible assumption
    | exact Sub.trans rfl hkm
    | intro _
    | with_reducible apply State.bell_same
    | with_reducible apply State.ackWrite_same
    | with_reducible apply same_ite
    | with_reducible apply same_foldl
    | with_reducible apply sameR_next

theorem State.bar2Word_same (s : State) (ofs : Nat) (v : Word) (hkm : Sub 14433826 km) (h0 : Same km ka s) : Same km ka (State.bar2Word s ofs v) := by
  unfold State.bar2Word
  try dsimp only
  repeat' first
    | with_reducible assumption
    | exact Sub.trans rfl hkm
    | intro _
    | with_reducible apply State.bell_same
    | with_reducible apply State.inc_same
    | with_reducible apply execCmdtail_same
    | with_reducible apply execCplhead_same
    | with_reducible apply execEvthead_same
    | with_reducible apply State.ctlBell_same
    | with_reducible apply execPost_same
    | with_reducible apply execAck_same
    | with_reducible apply execEoi_same
    | with_reducible apply State.wakeDoze_same
    | with_reducible apply same_ite
    | with_reducible apply same_foldl
    | with_reducible apply sameR_next
    | with_reducible apply same_foldl1
    | with_reducible apply same_ite1
    | split
    | dsimp only
    | (refine same_of_next ?_ (by with_reducible assumption))

theorem State.bar2Write_same (s : State) (ofs : Nat) (n : Nat) (v : Word) (w : Word) (hkm : Sub 14433826 km) (h0 : Same km ka s) : Same km ka (State.bar2Write s ofs n v w) := by
  unfold State.bar2Write
  try dsimp only
  repeat' first
    | with_reducible assumption
    | exact Sub.trans rfl hkm
    | intro _
    | with_reducible apply State.bar2Word_same
    | with_reducible apply State.bell_same
    | with_reducible apply State.inc_same
    | with_reducible apply same_ite

theorem execResumecmd_same (t : Nat) (v : Word) (s : State) (hkm : Sub 14433826 km) (h0 : Same km ka s) : SameR km ka (execResumecmd t v s) := by
  unfold execResumecmd
  try dsimp only
  repeat' first
    | with_reducible assumption
    | exact Sub.trans rfl hkm
    | intro _
    | with_reducible apply State.ctlBell_same
    | with_reducible apply same_ite
    | with_reducible apply same_foldl
    | with_reducible apply sameR_next

theorem execResumecpl_same (t : Nat) (v : Word) (s : State) (hkm : Sub 14433826 km) (h0 : Same km ka s) : SameR km ka (execResumecpl t v s) := by
  unfold execResumecpl
  try dsimp only
  repeat' first
    | with_reducible assumption
    | exact Sub.trans rfl hkm
    | intro _
    | with_reducible apply State.ctlBell_same
    | with_reducible apply same_ite
    | with_reducible apply same_foldl
    | with_reducible apply sameR_next

theorem execResumeevt_same (t : Nat) (v : Word) (s : State) (hkm : Sub 14433826 km) (h0 : Same km ka s) : SameR km ka (execResumeevt t v s) := by
  unfold execResumeevt
  try dsimp only
  repeat' first
    | with_reducible assumption
    | exact Sub.trans rfl hkm
    | intro _
    | with_reducible apply State.ctlBell_same
    | with_reducible apply same_ite
    | with_reducible apply same_foldl
    | with_reducible apply sameR_next

theorem execClrdberr_same (t : Nat) (v : Word) (s : State) (hkm : Sub 14433826 km) (h0 : Same km ka s) : SameR km ka (execClrdberr t v s) := by
  unfold execClrdberr
  try dsimp only
  repeat' first
    | with_reducible assumption
    | exact Sub.trans rfl hkm
    | intro _
    | with_reducible apply State.ctlBell_same
    | with_reducible apply same_ite
    | with_reducible apply same_foldl
    | with_reducible apply sameR_next

theorem State.bar2Show_same (s : State) (t : Nat) (o : Nat) (hkm : Sub 10 km) (h0 : Same km ka s) : Same km ka (State.bar2Show s t o) := by
  unfold State.bar2Show
  try dsimp only
  repeat' first
    | with_reducible assumption
    | exact Sub.trans rfl hkm
    | intro _
    | with_reducible apply State.readStopped_same
    | with_reducible apply same_ite
    | with_reducible apply same_foldl
    | with_reducible apply sameR_next
    | with_reducible apply same_foldl1
    | with_reducible apply same_ite1
    | split
    | dsimp only
    | with_reducible apply same_rdata

theorem State.bar2Read_same (s : State) (ofs : Nat) (hkm : Sub 2602 km) (h0 : Same km ka s) : Same km ka (State.bar2Read s ofs) := by
  unfold State.bar2Read
  try dsimp only
  repeat' first
    | with_reducible assumption
    | exact Sub.trans rfl hkm
    | intro _
    | with_reducible apply execClaim_same
    | with_reducible apply State.bar2Show_same
    | with_reducible apply State.wakeDoze_same
    | with_reducible apply same_ite
    | with_reducible apply same_foldl
    | with_reducible apply sameR_next
    | with_reducible apply same_foldl1
    | with_reducible apply same_ite1
    | split
    | dsimp only
    | (refine same_of_next ?_ (by with_reducible assumption))

end Sys2Proof.Machine
end

