-- ==== Sys2Proof/Laws/SameBar0.lean ====
section
/-! SUPPORT. What the operations of Machine/Bar0.lean keep (Laws/Same.lean). -/
set_option Elab.async false
namespace Sys2Proof.Machine

variable {km : Nat} {ka : State}

theorem State.swCtHiWrite_same (s : State) (v : Word) (hkm : Sub 262146 km) (h0 : Same km ka s) : Same km ka (State.swCtHiWrite s v) := by
  unfold State.swCtHiWrite
  try dsimp only
  repeat' first
    | with_reducible assumption
    | exact Sub.trans rfl hkm
    | intro _
    | with_reducible apply State.store_same
    | with_reducible apply same_ite
    | with_reducible apply same_foldl
    | with_reducible apply sameR_next
    | with_reducible apply same_foldl1
    | with_reducible apply same_ite1
    | split
    | dsimp only
    | with_reducible apply same_ept

theorem State.msixWrite_same (s : State) (ofs : Nat) (v : Word) (hkm : Sub 2594 km) (h0 : Same km ka s) : Same km ka (State.msixWrite s ofs v) := by
  unfold State.msixWrite
  try dsimp only
  repeat' first
    | with_reducible assumption
    | exact Sub.trans rfl hkm
    | intro _
    | with_reducible apply State.wakeDoze_same
    | with_reducible apply State.clockStopped_same
    | with_reducible apply State.setMsix_same
    | with_reducible apply State.flushMsix_same
    | with_reducible apply same_ite

theorem State.holeWrite_same (s : State) (e : Nat) (ofs : Nat) (hkm : Sub 2594 km) (h0 : Same km ka s) : Same km ka (State.holeWrite s e ofs) := by
  unfold State.holeWrite
  try dsimp only
  repeat' first
    | with_reducible assumption
    | exact Sub.trans rfl hkm
    | intro _
    | with_reducible apply State.wakeDoze_same
    | with_reducible apply State.clockStopped_same
    | with_reducible apply State.err_same
    | with_reducible apply same_ite

theorem State.errWrite_same (s : State) (e : Nat) (v : Word) (hkm : Sub 2594 km) (h0 : Same km ka s) : Same km ka (State.errWrite s e v) := by
  unfold State.errWrite
  try dsimp only
  repeat' first
    | with_reducible assumption
    | exact Sub.trans rfl hkm
    | intro _
    | with_reducible apply State.wakeDoze_same
    | with_reducible apply State.clockStopped_same
    | with_reducible apply State.wr_same
    | with_reducible apply same_ite

theorem State.apWrite_same (s : State) (k : Nat) (v : Word) (hkm : Sub 25299502 km) (h0 : Same km ka s) : Same km ka (State.apWrite s k v) := by
  unfold State.apWrite
  try dsimp only
  repeat' first
    | with_reducible assumption
    | exact Sub.trans rfl hkm
    | intro _
    | with_reducible apply execMemApWrite_same
    | with_reducible apply same_ite
    | with_reducible apply same_foldl
    | with_reducible apply sameR_next
    | with_reducible apply same_foldl1
    | with_reducible apply same_ite1
    | split
    | dsimp only
    | (refine same_of_next ?_ (by with_reducible assumption))

theorem State.checked_same (s : State) (r : Reg) (i : Nat) (j : Nat) (v : Word) (bad : Option Nat) (hkm : Sub 546 km) (h0 : Same km ka s) : Same km ka (State.checked s r i j v bad) := by
  unfold State.checked
  try dsimp only
  repeat' first
    | with_reducible assumption
    | exact Sub.trans rfl hkm
    | intro _
    | with_reducible apply State.discard_same
    | with_reducible apply State.store_same
    | with_reducible apply same_ite
    | with_reducible apply same_foldl
    | with_reducible apply sameR_next
    | with_reducible apply same_foldl1
    | with_reducible apply same_ite1
    | split

theorem State.tuCntLoWrite_same (s : State) (x : Nat) (v : Word) (hkm : Sub 546 km) (h0 : Same km ka s) : Same km ka (State.tuCntLoWrite s x v) := by
  unfold State.tuCntLoWrite
  try dsimp only
  repeat' first
    | with_reducible assumption
    | exact Sub.trans rfl hkm
    | intro _
    | with_reducible apply State.checked_same

theorem State.mbWrite_same (s : State) (r : Reg) (x : Nat) (y : Nat) (v : Word) (hkm : Sub 546 km) (h0 : Same km ka s) : Same km ka (State.mbWrite s r x y v) := by
  unfold State.mbWrite
  try dsimp only
  repeat' first
    | with_reducible assumption
    | exact Sub.trans rfl hkm
    | intro _
    | with_reducible apply State.checked_same

theorem State.holdWrite_same (s : State) (v : Word) (hkm : Sub 546 km) (h0 : Same km ka s) : Same km ka (State.holdWrite s v) := by
  unfold State.holdWrite
  try dsimp only
  repeat' first
    | with_reducible assumption
    | exact Sub.trans rfl hkm
    | intro _
    | with_reducible apply State.checked_same

theorem State.wakeAtWrite_same (s : State) (v : Word) (hkm : Sub 2050 km) (h0 : Same km ka s) : Same km ka (State.wakeAtWrite s v) := by
  unfold State.wakeAtWrite
  try dsimp only
  repeat' first
    | with_reducible assumption
    | exact Sub.trans rfl hkm
    | intro _
    | with_reducible apply State.store_same
    | with_reducible apply same_ite
    | with_reducible apply same_foldl
    | with_reducible apply sameR_next
    | with_reducible apply same_foldl1
    | with_reducible apply same_ite1
    | split
    | dsimp only
    | with_reducible apply same_sys

theorem State.bankWrite_same (s : State) (v : Word) (hkm : Sub 546 km) (h0 : Same km ka s) : Same km ka (State.bankWrite s v) := by
  unfold State.bankWrite
  try dsimp only
  repeat' first
    | with_reducible assumption
    | exact Sub.trans rfl hkm
    | intro _
    | with_reducible apply State.checked_same

theorem State.shedWrite_same (s : State) (r : Reg) (n : Nat) (v : Word) (hkm : Sub 546 km) (h0 : Same km ka s) : Same km ka (State.shedWrite s r n v) := by
  unfold State.shedWrite
  try dsimp only
  repeat' first
    | with_reducible assumption
    | exact Sub.trans rfl hkm
    | intro _
    | with_reducible apply State.checked_same

theorem barActsTim_same (hkm : Sub 134217710 km) : ∀ x ∈ barActsTim, ∀ (i j : Nat) (v : Word) (s : State), Same km ka s → Same km ka (x.2 i j v s) := by
  simp only [barActsTim, List.forall_mem_cons, List.not_mem_nil, false_implies, implies_true, and_true]
  repeat' apply And.intro
  all_goals
    intro i j v s h0
    repeat' first
      | with_reducible assumption
      | exact Sub.trans rfl hkm
      | with_reducible apply State.syncUtcWrite_same
      | with_reducible apply State.tuCtlWrite_same
      | with_reducible apply State.tuStartWrite_same
      | with_reducible apply State.tuCntLoWrite_same
      | with_reducible apply State.tuCntWrite_same
      | with_reducible apply State.cmpArm_same
      | with_reducible apply State.capCtlWrite_same

theorem barActsCrs_same (hkm : Sub 134217710 km) : ∀ x ∈ barActsCrs, ∀ (i j : Nat) (v : Word) (s : State), Same km ka s → Same km ka (x.2 i j v s) := by
  simp only [barActsCrs, List.forall_mem_cons, List.not_mem_nil, false_implies, implies_true, and_true]
  repeat' apply And.intro
  all_goals
    intro i j v s h0
    repeat' first
      | with_reducible assumption
      | exact Sub.trans rfl hkm
      | with_reducible apply State.busCfgWrite_same
      | with_reducible apply State.busLenWrite_same
      | with_reducible apply State.busClrWrite_same
      | with_reducible apply State.busDropWrite_same
      | with_reducible apply State.clrWrite_same

theorem barActsGrd_same (hkm : Sub 134217710 km) : ∀ x ∈ barActsGrd, ∀ (i j : Nat) (v : Word) (s : State), Same km ka s → Same km ka (x.2 i j v s) := by
  simp only [barActsGrd, List.forall_mem_cons, List.not_mem_nil, false_implies, implies_true, and_true]
  repeat' apply And.intro
  all_goals
    intro i j v s h0
    repeat' first
      | with_reducible assumption
      | exact Sub.trans rfl hkm
      | with_reducible apply State.lockWrite_same
      | with_reducible apply State.tripClr_same
      | with_reducible apply State.grdCfgWrite_same
      | with_reducible apply State.grdIlimWrite_same
      | with_reducible apply State.grdVlimWrite_same
      | with_reducible apply State.grdEwinWrite_same
      | with_reducible apply State.grdBudgetWrite_same
      | with_reducible apply State.guCtlWrite_same
      | with_reducible apply State.clrWrite_same

theorem barActsAfe_same (hkm : Sub 134217710 km) : ∀ x ∈ barActsAfe, ∀ (i j : Nat) (v : Word) (s : State), Same km ka s → Same km ka (x.2 i j v s) := by
  simp only [barActsAfe, List.forall_mem_cons, List.not_mem_nil, false_implies, implies_true, and_true]
  repeat' apply And.intro
  all_goals
    intro i j v s h0
    repeat' first
      | with_reducible assumption
      | exact Sub.trans rfl hkm
      | with_reducible apply State.loopCfgWrite_same
      | with_reducible apply State.clrWrite_same

theorem barActsWin_same (hkm : Sub 134217710 km) : ∀ x ∈ barActsWin, ∀ (i j : Nat) (v : Word) (s : State), Same km ka s → Same km ka (x.2 i j v s) := by
  simp only [barActsWin, List.forall_mem_cons, List.not_mem_nil, false_implies, implies_true, and_true]
  repeat' apply And.intro
  all_goals
    intro i j v s h0
    repeat' first
      | with_reducible assumption
      | exact Sub.trans rfl hkm
      | with_reducible apply State.scWrite_same
      | with_reducible apply State.winCfgWrite_same
      | with_reducible apply State.winThrWrite_same
      | with_reducible apply State.winSpdWrite_same

theorem barActsSer_same (hkm : Sub 134217710 km) : ∀ x ∈ barActsSer, ∀ (i j : Nat) (v : Word) (s : State), Same km ka s → Same km ka (x.2 i j v s) := by
  simp only [barActsSer, List.forall_mem_cons, List.not_mem_nil, false_implies, implies_true, and_true]
  repeat' apply And.intro
  all_goals
    intro i j v s h0
    repeat' first
      | with_reducible assumption
      | exact Sub.trans rfl hkm
      | with_reducible apply State.tplIdxWrite_same
      | with_reducible apply State.serCfgWrite_same
      | with_reducible apply State.clrWrite_same

theorem barActsMem_same (hkm : Sub 134217710 km) : ∀ x ∈ barActsMem, ∀ (i j : Nat) (v : Word) (s : State), Same km ka s → Same km ka (x.2 i j v s) := by
  simp only [barActsMem, List.forall_mem_cons, List.not_mem_nil, false_implies, implies_true, and_true]
  repeat' apply And.intro
  all_goals
    intro i j v s h0
    repeat' first
      | with_reducible assumption
      | exact Sub.trans rfl hkm
      | with_reducible apply State.memCfgWrite_same
      | with_reducible apply State.flushPage_same
      | with_reducible apply State.rawWrite_same
      | with_reducible apply State.drew_same
      | split

theorem barActsCan_same (hkm : Sub 134217710 km) : ∀ x ∈ barActsCan, ∀ (i j : Nat) (v : Word) (s : State), Same km ka s → Same km ka (x.2 i j v s) := by
  simp only [barActsCan, List.forall_mem_cons, List.not_mem_nil, false_implies, implies_true, and_true]
  repeat' apply And.intro
  all_goals
    intro i j v s h0
    repeat' first
      | with_reducible assumption
      | exact Sub.trans rfl hkm
      | with_reducible apply State.canCfgWrite_same
      | with_reducible apply State.checked_same
      | with_reducible apply State.canRecover_same
      | with_reducible apply State.clrWrite_same
      | with_reducible apply State.canFifoPop_same
      | with_reducible apply State.mbWrite_same

theorem barActsPsc_same (hkm : Sub 134217710 km) : ∀ x ∈ barActsPsc, ∀ (i j : Nat) (v : Word) (s : State), Same km ka s → Same km ka (x.2 i j v s) := by
  simp only [barActsPsc, List.forall_mem_cons, List.not_mem_nil, false_implies, implies_true, and_true]
  repeat' apply And.intro
  all_goals
    intro i j v s h0
    repeat' first
      | with_reducible assumption
      | exact Sub.trans rfl hkm
      | with_reducible apply State.checked_same
      | with_reducible apply State.clrWrite_same

theorem barActsEpt_same (hkm : Sub 134217710 km) : ∀ x ∈ barActsEpt, ∀ (i j : Nat) (v : Word) (s : State), Same km ka s → Same km ka (x.2 i j v s) := by
  simp only [barActsEpt, List.forall_mem_cons, List.not_mem_nil, false_implies, implies_true, and_true]
  repeat' apply And.intro
  all_goals
    intro i j v s h0
    repeat' first
      | with_reducible assumption
      | exact Sub.trans rfl hkm
      | with_reducible apply State.eptIdxWrite_same
      | with_reducible apply State.ldCtlWrite_same
      | with_reducible apply State.swCtlWrite_same
      | with_reducible apply State.swCtHiWrite_same
      | with_reducible apply State.clrWrite_same

theorem barActsMsh_same (hkm : Sub 134217710 km) : ∀ x ∈ barActsMsh, ∀ (i j : Nat) (v : Word) (s : State), Same km ka s → Same km ka (x.2 i j v s) := by
  simp only [barActsMsh, List.forall_mem_cons, List.not_mem_nil, false_implies, implies_true, and_true]
  repeat' apply And.intro
  all_goals
    intro i j v s h0
    repeat' first
      | with_reducible assumption
      | exact Sub.trans rfl hkm
      | with_reducible apply State.chIdxWrite_same
      | with_reducible apply State.chStgWrite_same
      | with_reducible apply State.chCtlWrite_same
      | with_reducible apply State.syncPerWrite_same
      | with_reducible apply State.syncCtlWrite_same
      | with_reducible apply State.syncHiWrite_same
      | with_reducible apply State.clrWrite_same
      | with_reducible apply State.csIdxWrite_same

theorem barActsRcg_same (hkm : Sub 134217710 km) : ∀ x ∈ barActsRcg, ∀ (i j : Nat) (v : Word) (s : State), Same km ka s → Same km ka (x.2 i j v s) := by
  simp only [barActsRcg, List.forall_mem_cons, List.not_mem_nil, false_implies, implies_true, and_true]
  repeat' apply And.intro
  all_goals
    intro i j v s h0
    repeat' first
      | with_reducible assumption
      | exact Sub.trans rfl hkm
      | with_reducible apply State.mtCtlWrite_same
      | with_reducible apply State.evOwnWrite_same
      | with_reducible apply State.clrWrite_same

theorem barActsTen_same (hkm : Sub 134217710 km) : ∀ x ∈ barActsTen, ∀ (i j : Nat) (v : Word) (s : State), Same km ka s → Same km ka (x.2 i j v s) := by
  simp only [barActsTen, List.forall_mem_cons, List.not_mem_nil, false_implies, implies_true, and_true]
  repeat' apply And.intro
  all_goals
    intro i j v s h0
    repeat' first
      | with_reducible assumption
      | exact Sub.trans rfl hkm
      | with_reducible apply State.store_same
      | with_reducible apply State.nofitScan_same
      | with_reducible apply State.winIdxWrite_same
      | with_reducible apply State.clrWrite_same

theorem barActsRng_same (hkm : Sub 134217710 km) : ∀ x ∈ barActsRng, ∀ (i j : Nat) (v : Word) (s : State), Same km ka s → Same km ka (x.2 i j v s) := by
  simp only [barActsRng, List.forall_mem_cons, List.not_mem_nil, false_implies, implies_true, and_true]
  repeat' apply And.intro
  all_goals
    intro i j v s h0
    repeat' first
      | with_reducible assumption
      | exact Sub.trans rfl hkm
      | with_reducible apply State.rngIdxWrite_same
      | with_reducible apply State.clrWrite_same

theorem barActsBnd_same (hkm : Sub 134217710 km) : ∀ x ∈ barActsBnd, ∀ (i j : Nat) (v : Word) (s : State), Same km ka s → Same km ka (x.2 i j v s) := by
  simp only [barActsBnd, List.forall_mem_cons, List.not_mem_nil, false_implies, implies_true, and_true]
  repeat' apply And.intro
  all_goals
    intro i j v s h0
    repeat' first
      | with_reducible assumption
      | exact Sub.trans rfl hkm
      | with_reducible apply State.pcfgWrite_same
      | with_reducible apply State.clrWrite_same

theorem barActsRol_same (hkm : Sub 134217710 km) : ∀ x ∈ barActsRol, ∀ (i j : Nat) (v : Word) (s : State), Same km ka s → Same km ka (x.2 i j v s) := by
  simp only [barActsRol, List.forall_mem_cons, List.not_mem_nil, false_implies, implies_true, and_true]
  repeat' apply And.intro
  all_goals
    intro i j v s h0
    repeat' first
      | with_reducible assumption
      | exact Sub.trans rfl hkm
      | with_reducible apply State.store_same
      | with_reducible apply State.showCapable_same
      | with_reducible apply State.holdWrite_same
      | with_reducible apply State.rolCtlWrite_same
      | with_reducible apply State.dirIdxWrite_same
      | with_reducible apply State.rsctlWrite_same

theorem barActsIcu_same (hkm : Sub 134217710 km) : ∀ x ∈ barActsIcu, ∀ (i j : Nat) (v : Word) (s : State), Same km ka s → Same km ka (x.2 i j v s) := by
  simp only [barActsIcu, List.forall_mem_cons, List.not_mem_nil, false_implies, implies_true, and_true]
  repeat' apply And.intro
  all_goals
    intro i j v s h0
    repeat' first
      | with_reducible assumption
      | exact Sub.trans rfl hkm
      | with_reducible apply State.icuCfgWrite_same
      | with_reducible apply State.srcIdxWrite_same
      | with_reducible apply State.store_same
      | with_reducible apply State.settle_same
      | with_reducible apply State.hubSetWrite_same
      | with_reducible apply State.forceWrite_same
      | with_reducible apply State.tgtWrite_same
      | with_reducible apply State.clrWrite_same

theorem barActsEvm_same (hkm : Sub 134217710 km) : ∀ x ∈ barActsEvm, ∀ (i j : Nat) (v : Word) (s : State), Same km ka s → Same km ka (x.2 i j v s) := by
  simp only [barActsEvm, List.forall_mem_cons, List.not_mem_nil, false_implies, implies_true, and_true]
  repeat' apply And.intro
  all_goals
    intro i j v s h0
    repeat' first
      | with_reducible assumption
      | exact Sub.trans rfl hkm
      | with_reducible apply State.swPulse_same
      | with_reducible apply State.chCfgWrite_same
      | with_reducible apply State.chEnWrite_same
      | with_reducible apply State.qctlWrite_same
      | with_reducible apply State.clrWrite_same

theorem barActsClk_same (hkm : Sub 134217710 km) : ∀ x ∈ barActsClk, ∀ (i j : Nat) (v : Word) (s : State), Same km ka s → Same km ka (x.2 i j v s) := by
  simp only [barActsClk, List.forall_mem_cons, List.not_mem_nil, false_implies, implies_true, and_true]
  repeat' apply And.intro
  all_goals
    intro i j v s h0
    repeat' first
      | with_reducible assumption
      | exact Sub.trans rfl hkm
      | with_reducible apply State.clrWrite_same

theorem barActsRst_same (hkm : Sub 134217710 km) : ∀ x ∈ barActsRst, ∀ (i j : Nat) (v : Word) (s : State), Same km ka s → Same km ka (x.2 i j v s) := by
  simp only [barActsRst, List.forall_mem_cons, List.not_mem_nil, false_implies, implies_true, and_true]
  repeat' apply And.intro
  all_goals
    intro i j v s h0
    repeat' first
      | with_reducible assumption
      | exact Sub.trans rfl hkm
      | with_reducible apply State.rstCtlWrite_same
      | with_reducible apply State.clrWrite_same

theorem barActsPwr_same (hkm : Sub 134217710 km) : ∀ x ∈ barActsPwr, ∀ (i j : Nat) (v : Word) (s : State), Same km ka s → Same km ka (x.2 i j v s) := by
  simp only [barActsPwr, List.forall_mem_cons, List.not_mem_nil, false_implies, implies_true, and_true]
  repeat' apply And.intro
  all_goals
    intro i j v s h0
    repeat' first
      | with_reducible assumption
      | exact Sub.trans rfl hkm
      | with_reducible apply State.pwrCtlWrite_same
      | with_reducible apply State.wakeAtWrite_same
      | with_reducible apply State.bankWrite_same
      | with_reducible apply State.shedWrite_same
      | with_reducible apply State.clrWrite_same

theorem barActsNvs_same (hkm : Sub 134217710 km) : ∀ x ∈ barActsNvs, ∀ (i j : Nat) (v : Word) (s : State), Same km ka s → Same km ka (x.2 i j v s) := by
  simp only [barActsNvs, List.forall_mem_cons, List.not_mem_nil, false_implies, implies_true, and_true]
  repeat' apply And.intro
  all_goals
    intro i j v s h0
    repeat' first
      | with_reducible assumption
      | exact Sub.trans rfl hkm
      | with_reducible apply State.jctlWrite_same
      | with_reducible apply State.lifeIdxWrite_same
      | with_reducible apply State.clrWrite_same

theorem barActsBoot_same (hkm : Sub 134217710 km) : ∀ x ∈ barActsBoot, ∀ (i j : Nat) (v : Word) (s : State), Same km ka s → Same km ka (x.2 i j v s) := by
  simp only [barActsBoot, List.forall_mem_cons, List.not_mem_nil, false_implies, implies_true, and_true]
  repeat' apply And.intro
  all_goals
    intro i j v s h0
    repeat' first
      | with_reducible assumption
      | exact Sub.trans rfl hkm
      | with_reducible apply State.upCtlWrite_same
      | with_reducible apply State.gCtlWrite_same

/-- The table's parts; unfolding `barActs` itself would evaluate the whole list. -/
theorem barActs_eq : barActs =
  barActsTim ++ barActsCrs ++ barActsGrd ++ barActsAfe ++ barActsWin ++ barActsSer ++ barActsMem ++ barActsCan ++ barActsPsc ++
  barActsEpt ++ barActsMsh ++ barActsRcg ++ barActsTen ++ barActsRng ++ barActsBnd ++ barActsRol ++ barActsIcu ++
  barActsEvm ++ barActsClk ++ barActsRst ++ barActsPwr ++ barActsNvs ++ barActsBoot := by delta barActs; exact rfl

theorem barActs_same (hkm : Sub 134217710 km) : ∀ x ∈ barActs, ∀ (i j : Nat) (v : Word) (s : State), Same km ka s → Same km ka (x.2 i j v s) := by
  intro x hx
  simp only [barActs_eq, List.mem_append] at hx
  rcases hx with (((((((((((((((((((((h | h) | h) | h) | h) | h) | h) | h) | h) | h) | h) | h) | h) | h) | h) | h) | h) | h) | h) | h) | h) | h) | h
  · exact barActsTim_same hkm x h
  · exact barActsCrs_same hkm x h
  · exact barActsGrd_same hkm x h
  · exact barActsAfe_same hkm x h
  · exact barActsWin_same hkm x h
  · exact barActsSer_same hkm x h
  · exact barActsMem_same hkm x h
  · exact barActsCan_same hkm x h
  · exact barActsPsc_same hkm x h
  · exact barActsEpt_same hkm x h
  · exact barActsMsh_same hkm x h
  · exact barActsRcg_same hkm x h
  · exact barActsTen_same hkm x h
  · exact barActsRng_same hkm x h
  · exact barActsBnd_same hkm x h
  · exact barActsRol_same hkm x h
  · exact barActsIcu_same hkm x h
  · exact barActsEvm_same hkm x h
  · exact barActsClk_same hkm x h
  · exact barActsRst_same hkm x h
  · exact barActsPwr_same hkm x h
  · exact barActsNvs_same hkm x h
  · exact barActsBoot_same hkm x h

theorem State.barAct_same (s : State) (r : Reg) (i : Nat) (j : Nat) (v : Word) (hkm : Sub 134217710 km) (h0 : Same km ka s) : Same km ka (State.barAct s r i j v) := by
  unfold State.barAct
  split
  · next x e => exact barActs_same (Sub.trans rfl hkm) x (List.mem_of_find?_eq_some e) i j v s h0
  · exact State.store_same _ _ _ _ _ (Sub.trans rfl hkm) h0

theorem State.bar0Word_same (s : State) (ofs : Nat) (v : Word) (hkm : Sub 134217710 km) (h0 : Same km ka s) : Same km ka (State.bar0Word s ofs v) := by
  unfold State.bar0Word
  try dsimp only
  repeat' first
    | with_reducible assumption
    | exact Sub.trans rfl hkm
    | intro _
    | with_reducible apply State.msixWrite_same
    | with_reducible apply State.holeWrite_same
    | with_reducible apply State.errWrite_same
    | with_reducible apply State.apWrite_same
    | with_reducible apply State.clockStopped_same
    | with_reducible apply State.barWrite_same
    | with_reducible apply State.barAct_same
    | with_reducible apply same_ite
    | with_reducible apply same_foldl
    | with_reducible apply sameR_next
    | with_reducible apply same_foldl1
    | with_reducible apply same_ite1
    | split

theorem State.bar0Write_same (s : State) (ofs : Nat) (n : Nat) (v : Word) (w : Word) (hkm : Sub 134217710 km) (h0 : Same km ka s) : Same km ka (State.bar0Write s ofs n v w) := by
  unfold State.bar0Write
  try dsimp only
  repeat' first
    | with_reducible assumption
    | exact Sub.trans rfl hkm
    | intro _
    | with_reducible apply State.bar0Word_same
    | with_reducible apply State.holeWrite_same
    | with_reducible apply same_ite

theorem execRegisterWrite_same (bar2 : Bool) (ofs : Nat) (n : Nat) (v : Word) (w : Word) (s : State) (hkm : Sub 134217710 km) (h0 : Same km ka s) : SameR km ka (execRegisterWrite bar2 ofs n v w s) := by
  unfold execRegisterWrite
  try dsimp only
  repeat' first
    | with_reducible assumption
    | exact Sub.trans rfl hkm
    | intro _
    | with_reducible apply State.bar2Write_same
    | with_reducible apply State.bar0Write_same
    | with_reducible apply same_ite
    | with_reducible apply same_foldl
    | with_reducible apply sameR_next

theorem execErrstsClr_same (ofs : Nat) (v : Word) (s : State) (hkm : Sub 2594 km) (h0 : Same km ka s) : SameR km ka (execErrstsClr ofs v s) := by
  unfold execErrstsClr
  try dsimp only
  repeat' first
    | with_reducible assumption
    | exact Sub.trans rfl hkm
    | intro _
    | with_reducible apply State.errWrite_same
    | with_reducible apply same_ite
    | with_reducible apply same_foldl
    | with_reducible apply sameR_next
    | with_reducible apply same_foldl1
    | with_reducible apply same_ite1
    | split

theorem State.apRead_same (s : State) (k : Nat) (who : Option (Nat × Nat)) (hkm : Sub 25297454 km) (h0 : Same km ka s) : Same km ka (State.apRead s k who) := by
  unfold State.apRead
  try dsimp only
  repeat' first
    | with_reducible assumption
    | exact Sub.trans rfl hkm
    | intro _
    | with_reducible apply State.apAccess_same
    | with_reducible apply same_ite
    | with_reducible apply same_foldl
    | with_reducible apply sameR_next
    | with_reducible apply same_foldl1
    | with_reducible apply same_ite1
    | split
    | dsimp only
    | (refine same_of_next ?_ (by with_reducible assumption))
    | with_reducible apply same_free

theorem State.capture_same (s : State) (r : Reg) (ofs : Nat) (hkm : Sub 18 km) (h0 : Same km ka s) : Same km ka (State.capture s r ofs) := by
  unfold State.capture
  try dsimp only
  repeat' first
    | with_reducible assumption
    | exact Sub.trans rfl hkm
    | intro _
    | with_reducible apply State.f64_same
    | with_reducible apply same_ite
    | with_reducible apply same_foldl
    | with_reducible apply sameR_next
    | with_reducible apply same_foldl1
    | with_reducible apply same_ite1
    | split
    | dsimp only
    | with_reducible apply same_caps

theorem State.readAct_same (s : State) (r : Reg) (i : Nat) (j : Nat) (hkm : Sub 1282 km) (h0 : Same km ka s) : Same km ka (State.readAct s r i j) := by
  unfold State.readAct
  try dsimp only
  repeat' first
    | with_reducible assumption
    | exact Sub.trans rfl hkm
    | intro _
    | with_reducible apply State.capHold_same
    | with_reducible apply State.capPop_same
    | with_reducible apply State.cqHold_same
    | with_reducible apply State.cqPop_same
    | with_reducible apply same_ite

theorem State.bar0Read_same (s : State) (ofs : Nat) (hkm : Sub 25300798 km) (h0 : Same km ka s) : Same km ka (State.bar0Read s ofs) := by
  unfold State.bar0Read
  try dsimp only
  repeat' first
    | with_reducible assumption
    | exact Sub.trans rfl hkm
    | intro _
    | with_reducible apply State.wakeDoze_same
    | with_reducible apply State.readStopped_same
    | with_reducible apply State.apRead_same
    | with_reducible apply State.capture_same
    | with_reducible apply State.readAct_same
    | with_reducible apply same_ite
    | with_reducible apply same_foldl
    | with_reducible apply sameR_next
    | with_reducible apply same_foldl1
    | with_reducible apply same_ite1
    | split
    | dsimp only
    | with_reducible apply same_rdata

theorem execRegaccess_same (s : State) (hkm : Sub 134217726 km) (h0 : Same km ka s) : SameR km ka (execRegaccess s) := by
  unfold execRegaccess
  try dsimp only
  repeat' first
    | with_reducible assumption
    | exact Sub.trans rfl hkm
    | intro _
    | with_reducible apply State.cfgRequest_same
    | with_reducible apply State.cfgAnswer_same
    | with_reducible apply State.bar0Write_same
    | with_reducible apply State.apRead_same
    | with_reducible apply State.bar0Read_same
    | with_reducible apply same_ite
    | with_reducible apply same_foldl
    | with_reducible apply sameR_next
    | with_reducible apply same_foldl1
    | with_reducible apply same_ite1
    | split

end Sys2Proof.Machine
end

