-- ==== Sys2Proof/Laws/SameTick.lean ====
section
/-! SUPPORT. What the operations of Machine/Tick.lean keep (Laws/Same.lean). -/
set_option Elab.async false
namespace Sys2Proof.Machine

variable {km : Nat} {ka : State}

theorem State.beat_same (s : State) (hkm : Sub 6 km) (h0 : Same km ka s) : Same km ka (State.beat s) := by
  unfold State.beat
  try dsimp only
  repeat' first
    | with_reducible assumption
    | exact Sub.trans rfl hkm
    | intro _
    | with_reducible apply State.f_same
    | with_reducible apply State.drew_same
    | with_reducible apply same_ite

theorem State.lifeSecond_same (s : State) (hkm : Sub 33554432 km) (h0 : Same km ka s) : Same km ka (State.lifeSecond s) := by
  unfold State.lifeSecond
  try dsimp only
  repeat' first
    | with_reducible assumption
    | exact Sub.trans rfl hkm
    | intro _
    | with_reducible apply State.lifeInc_same
    | with_reducible apply same_ite

theorem State.tick_same (s : State) (hkm : Sub 46167910 km) (h0 : Same km ka s) : Same km ka (State.tick s) := by
  unfold State.tick
  try dsimp only
  repeat' first
    | with_reducible assumption
    | exact Sub.trans rfl hkm
    | intro _
    | with_reducible apply State.fillCode_same
    | with_reducible apply State.tickTime_same
    | with_reducible apply State.guardTick_same
    | with_reducible apply State.beat_same
    | with_reducible apply State.lifeSecond_same
    | with_reducible apply same_ite
    | with_reducible apply same_foldl

end Sys2Proof.Machine
end

