-- ==== Sys2Proof/Tests/Slice0.lean ====
section
/-! SUPPORT. Tests: a state and operands that meet the hypotheses of each statement, the refusals of well-formedness, and the spec's worked
figures. -/
set_option Elab.async false
open Sys2Proof Sys2Proof.Machine
namespace Sys2Proof.Tests

/-- A machine whose boot is done, at CT n. -/
def mach (n : Nat) : State := let s := State.reset.f BOOT_STS_STAGE 8; { s with time := { s.time with acc := n * 2 ^ 32 } }
def flds (s : State) (l : List (Fld × Nat)) : State := l.foldl (fun s x => s.f x.1 x.2) s
/-- A frame of the bytes given with its CRC. -/
def fr (l : List Nat) : List Nat := withCrc l
/-- A begun descriptor of the tenant tid: its opcode, its body and the data it names. -/
def job (tid opc : Nat) (body args : List Nat) : JobS :=
  { id := { src := 0, remote := false, tid := tid, ref := 1 }, uid := 0, desc := [opc] ++ List.replicate 15 0 ++ body, args := args, started := true }
/-- s with that descriptor waiting. -/
def placed (s : State) (j : JobS) : State := { s with rng := { s.rng with jobs := [{ j with started := false }] } }
/-- s with the context c of tenant t. -/
def ctxd (s : State) (t : Nat) (c : CtxS) : State := { s with ten := { s.ten with ctx := s.ten.ctx.set (fun _ => {}) t c } }
/-- A scheduler entry that waits for a burst of tenant 0. -/
def burst : EntS :=
  { idx := 3, tid := 0, kind := 3, src := 3, cls := 0, group := 9, target := 5, start := 0, period := 1000, count := 1, lead := 0, select := 0,
    trig := 0, state := 2 }
/-- s with the entry. -/
def sched (s : State) : State := { s with psc := { s.psc with ents := [burst] } }
/-- A recognizer of tenant 0 over an empty table. -/
def recog : InstS := { mt := 0, cls := 0, watch := false, owner := 0, ins := [], tgts := [], pars := [] }
/-- s with that recognizer, as number 2. -/
def withInst (s : State) : State := { s with rcg := { s.rcg with insts := [(2, recog)] } }
/-- A stream of tenant 0. -/
def strm : StreamS := { slot := 4, tid := 0, ring := 1, first := 5, count := 1, grist := false, compact := false, maxrate := 100 }
/-- s with the stream. -/
def withStream (s : State) : State := { s with rng := { s.rng with streams := [strm] } }
/-- The keystone. -/
def key (n : Nat) : State := flds (mach n) [(ROL_STS_ROLE, roleKEYSTONE)]
/-- s with the coefficient set n. -/
def withSet (s : State) (n : Nat) (l : List Nat) : State := { s with msh := { s.msh with sets := s.msh.sets.set (fun _ => []) n l } }
/-- The scheduler entry e, due at n. -/
def dueEnt (src target n : Nat) : EntS := { burst with kind := 1, src := src, target := target, state := 1, next := some n, eps := [5] }
/-- s with the scheduler entry. -/
def withEnt (s : State) (e : EntS) : State := { s with psc := { s.psc with ents := [e] } }
/-- An endpoint image with no entries. -/
def img0 : List Nat := withCrc ([0x56, 0x44, 0x54, 0x42, 1, 0, 0, 0, 68, 0, 0, 0, 7] ++ List.replicate 51 0)
/-- s with the staged image and the switch state. -/
def tables (s : State) (sw : Nat) (img : List Nat) : State := flds { s with ept := { s.ept with staged := img } } [(EPT_SWSTS_STATE, sw)]
/-- A machine table with one state that a DWELL condition of no time leaves. -/
def dwell : List Nat := [0, 1, 1] ++ List.replicate 29 0 ++ List.replicate 8 0 ++ List.replicate 28 255 ++ [5] ++ List.replicate 15 0
/-- s with a lease of tenant 0 that ends at CT n. -/
def leased (s : State) (n : Nat) : State := s.setLeases [{ idx := 4095, grantor := 0, first := 0, count := 1, grantee := 3, expires := n }]
/-- s with the rings of tenant t. -/
def rings (s : State) (t : Nat) (r : TRingS) : State := s.setTr t r
/-- A command in slot 1 of a ring, done with status OK. -/
def done : CmdS := { slot := 1, desc := [1] ++ List.replicate 63 0, done := some { status := OK } }
/-- A routed message from position src. -/
def msg (cls src ty : Nat) (b : List Nat) : MsgS :=
  { port := 0, cls := cls, src := src, bytes := List.replicate 12 0 ++ [ty, 0] ++ toLe 2 b.length ++ b, flits := 1 }
/-- s with the message m waiting. -/
def withMsg (s : State) (m : MsgS) : State := { s with bnd := { s.bnd with inbox := [m] } }
/-- s with its message of the class and type taken. -/
def after (s : State) (cls ty : Nat) : State := match s.takeMsg cls ty with
  | some x => x.2
  | none => s
/-- s with the ELECT message of round n and body b waiting at port 1. -/
def hears (s : State) (ty n : Nat) (b : List Nat) : State :=
  withMsg s { port := 1, cls := clsELECT, src := 0, bytes := [ty, 0, 0, 0] ++ toLe 4 n ++ b, flits := 1 }
/-- A hub's part in a round: no candidate is better yet. -/
def round0 : RoundS := { best := { capable := false, rank := 0, old := 0, epoch := 0, hubid := 9, combid := 0 },
                         own := { capable := false, rank := 0, old := 0, epoch := 0, hubid := 9, combid := 0 } }
/-- s in round n. -/
def inRnd (s : State) (n : Nat) (r : RoundS) : State := { s.f (BND_PSTS_STATE 1) bsACTIVE with rol := { s.rol with round := n, cur := some r } }
/-- The keystone at position 5 leads. -/
def leader : DirS := { pos := 5, flags := 0, parent := 5, cport := 0, pport := 0, rank := 0, hubid := 77, bootcnt := 0, gen := 0 }
/-- s led by it, with the CONFIG message of type ty and the body b from it. -/
def led (s : State) (ty : Nat) (b : List Nat) : State :=
  withMsg { s with rol := { s.rol with lrole := roleKEYSTONE, dir := [leader] } } (msg clsCONFIG 5 ty b)
/-- A CONFIG request to position 5. -/
def asked (ty : Nat) : CfgReqS := { tag := 3, dst := 5, ty := ty, body := List.replicate 12 0, at_ := 0 }
/-- s with that request unanswered. -/
def asking (s : State) (r : CfgReqS) : State := { s with rol := { s.rol with reqs := [r] } }
/-- s with port 0 in the state x. -/
def inPort (s : State) (q : PortS) (x : Nat) : State := (s.setPort 0 q).f (BND_PSTS_STATE 0) x
/-- s with the session of port 0 up. -/
def up5 (s : State) (q : PortS) : State := inPort s { q with step := 5 } bsACTIVE
/-- A flit of one frame. -/
def flit0 : FlitS := { cls := 4, dst := 0, src := 0, nbytes := 8, som := true, eom := true, epoch := 0, payload := List.replicate 8 0 }
/-- A command sent to position 5. -/
def rem5 : RemS := { tag := 1, tid := 0, slot := 1, dst := 5, body := List.replicate 68 0, at_ := 0 }
/-- A message to position 5 that waits for an epoch. -/
def stale5 : StaleS := { dst := 5, cls := clsEVENT, ty := 1, body := [], epoch := 9, at_ := 0 }
/-- s with the bytes b in the registers o, o + 4, ... -/
def words (s : State) (o : Nat) (b : List Nat) : State :=
  (List.range (b.length / 4)).foldl (fun s k => s.wr (o + 4 * k) (Word.ofNat (leAt b (4 * k) 4))) s
/-- A machine table of one state with no transition. -/
def still : List Nat :=
  let b := [1, 1, 0, 0, 0, 0, 0, 0, 72] ++ List.replicate 27 0 ++ List.replicate 32 255
  b ++ toLe 4 (crc32 b)
/-- s with the serial word endpoint 7. -/
def ept1 (s : State) : State := s.setEp 7 { src := srcSERIAL }
/-- A machine in stage RUN, at CT n. -/
def up9 (n : Nat) : State := flds (mach n) [(BOOT_STS_STAGE, 9)]
/-- s with its power and reset logic changed. -/
def sysd (s : State) (f : SysS → SysS) : State := { s with sys := f s.sys }
/-- A store operation in progress. -/
def opn : NvOpS := { region := 6, lblk := 0, what := .life 3, tgt := some 5 }
/-- A journal record that waits, and one that is written. -/
def jrec : JqS := { kind := 2, body := List.replicate 32 1, dropped := 0 }
def jsto : JrecS := { seq := 0, lblk := 0, bytes := List.range 64 }
/-- s with the store operation o in progress. -/
def opsd (s : State) (o : NvOpS) : State := { s with nvs := { s.nvs with ops := [o] } }
/-- s an hour after power-on. -/
def late (s : State) : State := { s with time := { s.time with cyc := cycHour } }
/-- The register at an offset, and the block. -/
def regOf (ofs : Nat) : Reg := match regAt ofs with
  | some x => x.1
  | none => rPSC_CFG
def blkOf (ofs : Nat) : Blk := match blkAt ofs with
  | some b => b
  | none => ⟨0, 0, 0, .ckAon, []⟩

/-! Well-formedness: each check refuses a term that breaks it alone. -/

theorem test_illformed_registerWrite : ([.registerWrite false 8388608 0 0 0] : List Instr).all (fun c => !c.wf) = true := by decide
theorem test_illformed_errstsClr : ([.errstsClr 262144 0] : List Instr).all (fun c => !c.wf) = true := by decide
theorem test_illformed_timeReq : ([.timeReq 4 [] 0, .timeReq 0 [256] 0] : List Instr).all (fun c => !c.wf) = true := by decide
theorem test_illformed_timeResp : ([.timeResp 4 [], .timeResp 0 [256]] : List Instr).all (fun c => !c.wf) = true := by decide
theorem test_illformed_timerEnable : ([.timerEnable 16 0] : List Instr).all (fun c => !c.wf) = true := by decide
theorem test_illformed_timerStartAtCt : ([.timerStartAtCt 16] : List Instr).all (fun c => !c.wf) = true := by decide
theorem test_illformed_timerCounterWrite : ([.timerCounterWrite 16 0] : List Instr).all (fun c => !c.wf) = true := by decide
theorem test_illformed_compareArm : ([.compareArm 16 0 0, .compareArm 0 4 0] : List Instr).all (fun c => !c.wf) = true := by decide
theorem test_illformed_compareMatch : ([.compareMatch 16 0, .compareMatch 0 4] : List Instr).all (fun c => !c.wf) = true := by decide
theorem test_illformed_captureEntry : ([.captureEntry 8 false] : List Instr).all (fun c => !c.wf) = true := by decide
theorem test_illformed_captureHeadHold : ([.captureHeadHold 16 0, .captureHeadHold 0 2] : List Instr).all (fun c => !c.wf) = true := by decide
theorem test_illformed_capturePop : ([.capturePop 16 0, .capturePop 0 2] : List Instr).all (fun c => !c.wf) = true := by decide
theorem test_illformed_captureClr : ([.captureClr 16 0 0, .captureClr 0 2 0] : List Instr).all (fun c => !c.wf) = true := by decide
theorem test_illformed_busEnable : ([.busEnable 64 0] : List Instr).all (fun c => !c.wf) = true := by decide
theorem test_illformed_beaconTransmit : ([.beaconTransmit 64] : List Instr).all (fun c => !c.wf) = true := by decide
theorem test_illformed_dataFrameReceived : ([.dataFrameReceived 64 0 [], .dataFrameReceived 0 0 [1024]] : List Instr).all (fun c => !c.wf) = true := by decide
theorem test_illformed_unknownFrame : ([.unknownFrame 64 0 [], .unknownFrame 0 0 [1024]] : List Instr).all (fun c => !c.wf) = true := by decide
theorem test_illformed_joinFrameReceived : ([.joinFrameReceived 64 0 [], .joinFrameReceived 0 0 [1024]] : List Instr).all (fun c => !c.wf) = true := by decide
theorem test_illformed_immediateReplyReceived : ([.immediateReplyReceived 64 0 [], .immediateReplyReceived 0 0 [1024]] : List Instr).all (fun c => !c.wf) = true := by decide
theorem test_illformed_nodeSilent : ([.nodeSilent 64 0, .nodeSilent 0 32] : List Instr).all (fun c => !c.wf) = true := by decide
theorem test_illformed_linefault : ([.linefault 64] : List Instr).all (fun c => !c.wf) = true := by decide
theorem test_illformed_probationEnd : ([.probationEnd 64 0, .probationEnd 0 32] : List Instr).all (fun c => !c.wf) = true := by decide
theorem test_illformed_nodeDeadmitSilence : ([.nodeDeadmitSilence 64 0, .nodeDeadmitSilence 0 32] : List Instr).all (fun c => !c.wf) = true := by decide
theorem test_illformed_nodeCommandTimeout : ([.nodeCommandTimeout 64 0, .nodeCommandTimeout 0 32] : List Instr).all (fun c => !c.wf) = true := by decide
theorem test_illformed_admissionStep : ([.admissionStep 64] : List Instr).all (fun c => !c.wf) = true := by decide
theorem test_illformed_layoutChange : ([.layoutChange 64] : List Instr).all (fun c => !c.wf) = true := by decide
theorem test_illformed_layoutEffective : ([.layoutEffective 64] : List Instr).all (fun c => !c.wf) = true := by decide
theorem test_illformed_nodeDrop : ([.nodeDrop 64 0, .nodeDrop 0 32] : List Instr).all (fun c => !c.wf) = true := by decide
theorem test_illformed_busCounterClr : ([.busCounterClr 64 0] : List Instr).all (fun c => !c.wf) = true := by decide
theorem test_illformed_admissionCounterClr : ([.admissionCounterClr 64 0] : List Instr).all (fun c => !c.wf) = true := by decide
theorem test_illformed_windowTrip : ([.windowTrip 32 false 0] : List Instr).all (fun c => !c.wf) = true := by decide
theorem test_illformed_integratorTrip : ([.integratorTrip 32] : List Instr).all (fun c => !c.wf) = true := by decide
theorem test_illformed_channelOn : ([.channelOn 32] : List Instr).all (fun c => !c.wf) = true := by decide
theorem test_illformed_channelOff : ([.channelOff 32] : List Instr).all (fun c => !c.wf) = true := by decide
theorem test_illformed_rearm : ([.rearm 32] : List Instr).all (fun c => !c.wf) = true := by decide
theorem test_illformed_toffExpiry : ([.toffExpiry 32] : List Instr).all (fun c => !c.wf) = true := by decide
theorem test_illformed_retriesReset : ([.retriesReset 32] : List Instr).all (fun c => !c.wf) = true := by decide
theorem test_illformed_guardCounterClr : ([.guardCounterClr 32 0] : List Instr).all (fun c => !c.wf) = true := by decide
theorem test_illformed_loopModeWrite : ([.loopModeWrite 16 0] : List Instr).all (fun c => !c.wf) = true := by decide
theorem test_illformed_complianceEntry : ([.complianceEntry 16] : List Instr).all (fun c => !c.wf) = true := by decide
theorem test_illformed_complianceExit : ([.complianceExit 16] : List Instr).all (fun c => !c.wf) = true := by decide
theorem test_illformed_loopCounterClr : ([.loopCounterClr 16 0] : List Instr).all (fun c => !c.wf) = true := by decide
theorem test_illformed_monitorEdge : ([.monitorEdge 100 0] : List Instr).all (fun c => !c.wf) = true := by decide
theorem test_illformed_wheelStandstill : ([.wheelStandstill 32] : List Instr).all (fun c => !c.wf) = true := by decide
theorem test_illformed_templateCommit : ([.templateCommit 1024] : List Instr).all (fun c => !c.wf) = true := by decide
theorem test_illformed_templateRead : ([.templateRead 1024] : List Instr).all (fun c => !c.wf) = true := by decide
theorem test_illformed_serialEntryStart : ([.serialEntryStart 16] : List Instr).all (fun c => !c.wf) = true := by decide
theorem test_illformed_serialEntryDone : ([.serialEntryDone 16 []] : List Instr).all (fun c => !c.wf) = true := by decide
theorem test_illformed_slaveWordReceived : ([.slaveWordReceived 16 0] : List Instr).all (fun c => !c.wf) = true := by decide
theorem test_illformed_slaveSelectNegated : ([.slaveSelectNegated 16 0 0 0, .slaveSelectNegated 0 33 0 0] : List Instr).all (fun c => !c.wf) = true := by decide
theorem test_illformed_serialCounterClr : ([.serialCounterClr 16 0] : List Instr).all (fun c => !c.wf) = true := by decide
theorem test_illformed_memApRead : ([.memApRead 1024 [] [], .memApRead 0 [256] [], .memApRead 0 [] [256]] : List Instr).all (fun c => !c.wf) = true := by decide
theorem test_illformed_memApWrite : ([.memApWrite 1024 0] : List Instr).all (fun c => !c.wf) = true := by decide
theorem test_illformed_statusPoll : ([.statusPoll 256 [], .statusPoll 0 [256]] : List Instr).all (fun c => !c.wf) = true := by decide
theorem test_illformed_canFrameReceived : ([.canFrameReceived 8 0 [] 0, .canFrameReceived 0 0 [256] 0] : List Instr).all (fun c => !c.wf) = true := by decide
theorem test_illformed_canTxDone : ([.canTxDone 8 false false 0] : List Instr).all (fun c => !c.wf) = true := by decide
theorem test_illformed_canTxTimeout : ([.canTxTimeout 8 0, .canTxTimeout 0 64] : List Instr).all (fun c => !c.wf) = true := by decide
theorem test_illformed_canBusOff : ([.canBusOff 8] : List Instr).all (fun c => !c.wf) = true := by decide
theorem test_illformed_canRecovered : ([.canRecovered 8] : List Instr).all (fun c => !c.wf) = true := by decide
theorem test_illformed_canRecover : ([.canRecover 8 0] : List Instr).all (fun c => !c.wf) = true := by decide
theorem test_illformed_canFifoPop : ([.canFifoPop 8 0] : List Instr).all (fun c => !c.wf) = true := by decide
theorem test_illformed_canWake : ([.canWake 8] : List Instr).all (fun c => !c.wf) = true := by decide
theorem test_illformed_canCounterClr : ([.canCounterClr 8 0] : List Instr).all (fun c => !c.wf) = true := by decide
theorem test_illformed_commitPoint : ([.commitPoint 64] : List Instr).all (fun c => !c.wf) = true := by decide
theorem test_illformed_serialPlacement : ([.serialPlacement 32768] : List Instr).all (fun c => !c.wf) = true := by decide
theorem test_illformed_serlateExpiry : ([.serlateExpiry 16] : List Instr).all (fun c => !c.wf) = true := by decide
theorem test_illformed_wheelInstant : ([.wheelInstant 32768] : List Instr).all (fun c => !c.wf) = true := by decide
theorem test_illformed_courseDeadline : ([.courseDeadline 64] : List Instr).all (fun c => !c.wf) = true := by decide
theorem test_illformed_remoteCommandTimeout : ([.remoteCommandTimeout 65536] : List Instr).all (fun c => !c.wf) = true := by decide
theorem test_illformed_recordCommit : ([.recordCommit 131072] : List Instr).all (fun c => !c.wf) = true := by decide
theorem test_illformed_recordRead : ([.recordRead 131072] : List Instr).all (fun c => !c.wf) = true := by decide
theorem test_illformed_recordRelease : ([.recordRelease 131072] : List Instr).all (fun c => !c.wf) = true := by decide
theorem test_illformed_tableLoadGo : ([.tableLoadGo 4] : List Instr).all (fun c => !c.wf) = true := by decide
theorem test_illformed_tableLoadDone : ([.tableLoadDone false [256]] : List Instr).all (fun c => !c.wf) = true := by decide
theorem test_illformed_channelCommit : ([.channelCommit 8192] : List Instr).all (fun c => !c.wf) = true := by decide
theorem test_illformed_channelRead : ([.channelRead 8192] : List Instr).all (fun c => !c.wf) = true := by decide
theorem test_illformed_channelClrsts : ([.channelClrsts 8192] : List Instr).all (fun c => !c.wf) = true := by decide
theorem test_illformed_setCommit : ([.setCommit 512] : List Instr).all (fun c => !c.wf) = true := by decide
theorem test_illformed_setRead : ([.setRead 512] : List Instr).all (fun c => !c.wf) = true := by decide
theorem test_illformed_setRelease : ([.setRelease 512] : List Instr).all (fun c => !c.wf) = true := by decide
theorem test_illformed_mashInput : ([.mashInput 4 0 false, .mashInput 0 33 false] : List Instr).all (fun c => !c.wf) = true := by decide
theorem test_illformed_chctlFreeze : ([.chctlFreeze 8192 0, .chctlFreeze 0 8] : List Instr).all (fun c => !c.wf) = true := by decide
theorem test_illformed_chctlThaw : ([.chctlThaw 8192 0, .chctlThaw 0 8] : List Instr).all (fun c => !c.wf) = true := by decide
theorem test_illformed_chctlSwitch : ([.chctlSwitch 8192 0 0 0, .chctlSwitch 0 8 0 0, .chctlSwitch 0 0 16 0, .chctlSwitch 0 0 0 512] : List Instr).all (fun c => !c.wf) = true := by decide
theorem test_illformed_machineCommit : ([.machineCommit 1024] : List Instr).all (fun c => !c.wf) = true := by decide
theorem test_illformed_machineRead : ([.machineRead 1024] : List Instr).all (fun c => !c.wf) = true := by decide
theorem test_illformed_machineRelease : ([.machineRelease 1024] : List Instr).all (fun c => !c.wf) = true := by decide
theorem test_illformed_rcgTimeTrigger : ([.rcgTimeTrigger 16384] : List Instr).all (fun c => !c.wf) = true := by decide
theorem test_illformed_leaseExpiry : ([.leaseExpiry 4096] : List Instr).all (fun c => !c.wf) = true := by decide
theorem test_illformed_leaseEndAck : ([.leaseEndAck 4096] : List Instr).all (fun c => !c.wf) = true := by decide
theorem test_illformed_windowCommit : ([.windowCommit 1024 0, .windowCommit 0 8] : List Instr).all (fun c => !c.wf) = true := by decide
theorem test_illformed_windowRead : ([.windowRead 1024 0, .windowRead 0 8] : List Instr).all (fun c => !c.wf) = true := by decide
theorem test_illformed_windowClr : ([.windowClr 1024 0, .windowClr 0 8] : List Instr).all (fun c => !c.wf) = true := by decide
theorem test_illformed_cmdtail : ([.cmdtail 1024 0] : List Instr).all (fun c => !c.wf) = true := by decide
theorem test_illformed_cplhead : ([.cplhead 1024 0] : List Instr).all (fun c => !c.wf) = true := by decide
theorem test_illformed_evthead : ([.evthead 1024 0] : List Instr).all (fun c => !c.wf) = true := by decide
theorem test_illformed_resumecmd : ([.resumecmd 1024 0] : List Instr).all (fun c => !c.wf) = true := by decide
theorem test_illformed_resumecpl : ([.resumecpl 1024 0] : List Instr).all (fun c => !c.wf) = true := by decide
theorem test_illformed_resumeevt : ([.resumeevt 1024 0] : List Instr).all (fun c => !c.wf) = true := by decide
theorem test_illformed_clrdberr : ([.clrdberr 1024 0] : List Instr).all (fun c => !c.wf) = true := by decide
theorem test_illformed_post : ([.post 1024 0 0, .post 0 8 0] : List Instr).all (fun c => !c.wf) = true := by decide
theorem test_illformed_ack : ([.ack 1024 0 0, .ack 0 8 0] : List Instr).all (fun c => !c.wf) = true := by decide
theorem test_illformed_commandFetch : ([.commandFetch 1024] : List Instr).all (fun c => !c.wf) = true := by decide
theorem test_illformed_completionWrite : ([.completionWrite 1024] : List Instr).all (fun c => !c.wf) = true := by decide
theorem test_illformed_dmaWriteConfirmed : ([.dmaWriteConfirmed 1024 0 false, .dmaWriteConfirmed 0 16 false] : List Instr).all (fun c => !c.wf) = true := by decide
theorem test_illformed_dmaReadDone : ([.dmaReadDone 1024 0 0 false [], .dmaReadDone 0 16 0 false [], .dmaReadDone 0 0 65536 false [], .dmaReadDone 0 0 0 false [256]] : List Instr).all (fun c => !c.wf) = true := by decide
theorem test_illformed_caskAgeExpiry : ([.caskAgeExpiry 0 8] : List Instr).all (fun c => !c.wf) = true := by decide
theorem test_illformed_caskPlacement : ([.caskPlacement 1024 0, .caskPlacement 0 8] : List Instr).all (fun c => !c.wf) = true := by decide
theorem test_illformed_eventRecordWrite : ([.eventRecordWrite 1024] : List Instr).all (fun c => !c.wf) = true := by decide
theorem test_illformed_ringSetup : ([.ringSetup 1024 0, .ringSetup 0 4] : List Instr).all (fun c => !c.wf) = true := by decide
theorem test_illformed_ringSetupRead : ([.ringSetupRead 1024 0, .ringSetupRead 0 4] : List Instr).all (fun c => !c.wf) = true := by decide
theorem test_illformed_ringSetupStop : ([.ringSetupStop 1024 0, .ringSetupStop 0 4] : List Instr).all (fun c => !c.wf) = true := by decide
theorem test_illformed_hostLinkReset : ([.hostLinkReset 4] : List Instr).all (fun c => !c.wf) = true := by decide
theorem test_illformed_portEnable : ([.portEnable 4 0] : List Instr).all (fun c => !c.wf) = true := by decide
theorem test_illformed_trainingStepDone : ([.trainingStepDone 4 0, .trainingStepDone 0 4] : List Instr).all (fun c => !c.wf) = true := by decide
theorem test_illformed_trainingTimeout : ([.trainingTimeout 4] : List Instr).all (fun c => !c.wf) = true := by decide
theorem test_illformed_laneFault : ([.laneFault 4 0, .laneFault 0 2] : List Instr).all (fun c => !c.wf) = true := by decide
theorem test_illformed_laneRetrained : ([.laneRetrained 4 0, .laneRetrained 0 2] : List Instr).all (fun c => !c.wf) = true := by decide
theorem test_illformed_linkDown : ([.linkDown 4] : List Instr).all (fun c => !c.wf) = true := by decide
theorem test_illformed_flitReceived : ([.flitReceived 4 [] false 0, .flitReceived 0 [256] false 0] : List Instr).all (fun c => !c.wf) = true := by decide
theorem test_illformed_status : ([.status 4 [], .status 0 [256]] : List Instr).all (fun c => !c.wf) = true := by decide
theorem test_illformed_nak : ([.nak 4 [], .nak 0 [256]] : List Instr).all (fun c => !c.wf) = true := by decide
theorem test_illformed_replayTimeout : ([.replayTimeout 4] : List Instr).all (fun c => !c.wf) = true := by decide
theorem test_illformed_statusTimer : ([.statusTimer 4] : List Instr).all (fun c => !c.wf) = true := by decide
theorem test_illformed_hello : ([.hello 4 [], .hello 0 [256]] : List Instr).all (fun c => !c.wf) = true := by decide
theorem test_illformed_helloTimer : ([.helloTimer 4] : List Instr).all (fun c => !c.wf) = true := by decide
theorem test_illformed_resume : ([.resume 4 [], .resume 0 [256]] : List Instr).all (fun c => !c.wf) = true := by decide
theorem test_illformed_close : ([.close 4 [], .close 0 [256]] : List Instr).all (fun c => !c.wf) = true := by decide
theorem test_illformed_splitHoldExpiry : ([.splitHoldExpiry 4] : List Instr).all (fun c => !c.wf) = true := by decide
theorem test_illformed_retryHoldExpiry : ([.retryHoldExpiry 4] : List Instr).all (fun c => !c.wf) = true := by decide
theorem test_illformed_configTimeout : ([.configTimeout 65536] : List Instr).all (fun c => !c.wf) = true := by decide
theorem test_illformed_directoryEntryLoad : ([.directoryEntryLoad 16] : List Instr).all (fun c => !c.wf) = true := by decide
theorem test_illformed_claim : ([.claim 32] : List Instr).all (fun c => !c.wf) = true := by decide
theorem test_illformed_eoi : ([.eoi 32 0] : List Instr).all (fun c => !c.wf) = true := by decide
theorem test_illformed_sourceCommit : ([.sourceCommit 4160] : List Instr).all (fun c => !c.wf) = true := by decide
theorem test_illformed_sourceRead : ([.sourceRead 4160] : List Instr).all (fun c => !c.wf) = true := by decide
theorem test_illformed_forceSet : ([.forceSet 4160] : List Instr).all (fun c => !c.wf) = true := by decide
theorem test_illformed_forceClr : ([.forceClr 4160] : List Instr).all (fun c => !c.wf) = true := by decide
theorem test_illformed_msixUnmask : ([.msixUnmask 33] : List Instr).all (fun c => !c.wf) = true := by decide
theorem test_illformed_eventQueueHold : ([.eventQueueHold 16 false] : List Instr).all (fun c => !c.wf) = true := by decide
theorem test_illformed_eventQueuePop : ([.eventQueuePop 16] : List Instr).all (fun c => !c.wf) = true := by decide
theorem test_illformed_queueFlush : ([.queueFlush 16] : List Instr).all (fun c => !c.wf) = true := by decide
theorem test_illformed_channelConfigWrite : ([.channelConfigWrite 64 0 0, .channelConfigWrite 0 13 0] : List Instr).all (fun c => !c.wf) = true := by decide
theorem test_illformed_accessTimeout : ([.accessTimeout false 262144] : List Instr).all (fun c => !c.wf) = true := by decide
theorem test_illformed_wakeSource : ([.wakeSource 8192] : List Instr).all (fun c => !c.wf) = true := by decide
theorem test_illformed_shedRise : ([.shedRise 4096 0] : List Instr).all (fun c => !c.wf) = true := by decide
theorem test_illformed_shedFall : ([.shedFall 4096 0] : List Instr).all (fun c => !c.wf) = true := by decide
theorem test_illformed_powerFail : ([.powerFail 3 0, .powerFail 0 4096] : List Instr).all (fun c => !c.wf) = true := by decide
theorem test_illformed_powerRestore : ([.powerRestore 4096 0] : List Instr).all (fun c => !c.wf) = true := by decide
theorem test_illformed_lifeCounterLoad : ([.lifeCounterLoad 64] : List Instr).all (fun c => !c.wf) = true := by decide
theorem test_illformed_configRequest : ([.configRequest false 4096 0] : List Instr).all (fun c => !c.wf) = true := by decide
theorem test_illformed_updateDone : ([.updateDone false false [256]] : List Instr).all (fun c => !c.wf) = true := by decide
theorem test_illformed_slotEnd : ([.slotEnd 64 0 false, .slotEnd 0 32 false] : List Instr).all (fun c => !c.wf) = true := by decide
theorem test_illformed_grant : ([.grant 64] : List Instr).all (fun c => !c.wf) = true := by decide
theorem test_illformed_canBusError : ([.canBusError 8 false] : List Instr).all (fun c => !c.wf) = true := by decide
theorem test_illformed_tapIsolate : ([.tapIsolate 1 []] : List Instr).all (fun c => !c.wf) = true := by decide
theorem test_illformed_tapRelease : ([.tapRelease 256, .tapRelease 3] : List Instr).all (fun c => !c.wf) = true := by decide

/-! The same commands with every operand at zero are well formed. -/

theorem test_wellformed_1 : ([.registerWrite false 0 0 0 0, .errstsClr 0 0, .timeReq 0 [] 0, .timeResp 0 [], .syncEdgeInput false,
    .syncutcWrite 0, .timerEnable 0 0, .timerStartAtCt 0, .timerCounterWrite 0 0, .compareArm 0 0 0, .compareMatch 0 0, .captureEntry 0 false,
    .captureHeadHold 0 0, .capturePop 0 0, .captureClr 0 0 0, .busEnable 0 0, .beaconTransmit 0, .dataFrameReceived 0 0 [],
    .unknownFrame 0 0 [], .joinFrameReceived 0 0 [], .immediateReplyReceived 0 0 [], .nodeSilent 0 0, .linefault 0, .probationEnd 0 0,
    .nodeDeadmitSilence 0 0, .nodeCommandTimeout 0 0, .admissionStep 0, .layoutChange 0, .layoutEffective 0, .nodeDrop 0 0, .busCounterClr 0 0,
    .admissionCounterClr 0 0, .windowTrip 0 false 0, .integratorTrip 0, .channelOn 0, .channelOff 0, .rearm 0, .toffExpiry 0, .retriesReset 0,
    .tripClear 0, .guardCounterClr 0 0, .loopModeWrite 0 0, .complianceEntry 0, .complianceExit 0, .loopCounterClr 0 0, .monitorEdge 0 0,
    .selfCheckGo 0, .selfCheckDone false false false false, .wheelStandstill 0, .templateCommit 0, .templateRead 0, .serialEntryStart 0,
    .serialEntryDone 0 [], .slaveWordReceived 0 0] : List Instr).all Instr.wf = true := by decide
theorem test_wellformed_2 : ([.slaveSelectNegated 0 0 0 0, .serialCounterClr 0 0, .memApRead 0 [] [], .memApWrite 0 0, .memFlush 0,
    .statusPoll 0 [], .rawCommand 0 0, .canFrameReceived 0 0 [] 0, .canTxDone 0 false false 0, .canTxTimeout 0 0, .canBusOff 0, .canRecovered 0,
    .canRecover 0 0, .canFifoPop 0 0, .canWake 0, .canCounterClr 0 0, .commitPoint 0, .serialPlacement 0, .serlateExpiry 0, .wheelInstant 0,
    .courseDeadline 0, .remoteCommandTimeout 0, .pscCounterClr 0, .recordCommit 0, .recordRead 0, .recordRelease 0, .tableLoadGo 0,
    .tableLoadDone false [], .tableStoreDone false, .switchArm false, .eptCounterClr 0, .channelCommit 0, .channelRead 0, .channelClrsts 0,
    .setCommit 0, .setRead 0, .setRelease 0, .mashInput 0 0 false, .chctlFreeze 0 0, .chctlThaw 0 0, .chctlSwitch 0 0 0 0, .mashCounterClr 0,
    .machineCommit 0, .machineRead 0, .machineRelease 0, .rcgTimeTrigger 0, .rcgCounterClr 0, .leaseExpiry 0, .leaseEndAck 0, .windowCommit 0 0,
    .windowRead 0 0, .windowClr 0 0, .tenCounterClr 0, .cmdtail 0 0] : List Instr).all Instr.wf = true := by decide
theorem test_wellformed_3 : ([.cplhead 0 0, .evthead 0 0, .resumecmd 0 0, .resumecpl 0 0, .resumeevt 0 0, .clrdberr 0 0, .post 0 0 0,
    .ack 0 0 0, .commandFetch 0, .completionWrite 0, .dmaWriteConfirmed 0 0 false, .dmaReadDone 0 0 0 false [], .caskAgeExpiry 0 0,
    .caskPlacement 0 0, .eventRecordWrite 0, .ringSetup 0 0, .ringSetupRead 0 0, .ringSetupStop 0 0, .rngCounterClr 0, .hostLinkReset 0,
    .portEnable 0 0, .trainingStepDone 0 0, .trainingTimeout 0, .laneFault 0 0, .laneRetrained 0 0, .linkDown 0, .flitReceived 0 [] false 0,
    .status 0 [], .nak 0 [], .replayTimeout 0, .statusTimer 0, .hello 0 [], .helloTimer 0, .resume 0 [], .close 0 [], .splitHoldExpiry 0,
    .retryHoldExpiry 0, .configTimeout 0, .remoteSetupGo false, .directoryEntryLoad 0, .claim 0, .eoi 0 0, .sourceCommit 0, .sourceRead 0,
    .hubLatchClear false 0, .hubset 0, .forceSet 0, .forceClr 0, .icuConfigWrite 0, .msixUnmask 0, .icuCounterClr 0, .swpulse 0,
    .eventQueueHold 0 false, .eventQueuePop 0] : List Instr).all Instr.wf = true := by decide
theorem test_wellformed_4 : ([.queueFlush 0, .channelConfigWrite 0 0 0, .evmCounterClr 0, .powerOnReset false, .accessTimeout false 0,
    .clkCounterClr 0, .rstCounterClr 0, .entryCommit false, .wakeSource 0, .shedRise 0 0, .shedFall 0 0, .powerFail 0 0, .powerRestore 0 0,
    .thermalShutdown 0, .thermalRecover 0, .pwrCounterClr 0, .nvmProgramDone false, .refreshScan [], .lifeCounterLoad 0, .nvsCounterClr 0,
    .bootStageDone false false false, .configRequest false 0 0, .updateDone false false [], .guardImageDone false, .slotEnd 0 0 false, .grant 0,
    .canBusError 0 false, .thermalProgramAbandon 0, .ctCaptureRead, .timeExchangeStart, .timeRespTimeout, .holdcntExpiry, .syncEdgeTimeout,
    .discHoldExpiry, .syncOutputPulse, .syncPulseEnd, .guardLock, .loopSet, .pageBufferTimeout, .progtoExpiry, .canSend, .schedCreate,
    .schedDestroy, .schedQuery, .schedTrigger, .decode, .tableLoad, .tableStore, .tableDiscard, .switchCancel, .switchEffect, .bankRetire,
    .mashFreeze, .mashThaw] : List Instr).all Instr.wf = true := by decide
theorem test_wellformed_5 : ([.mashSwitch, .syncNow, .syncArm, .syncDisarm, .armedSync, .periodicSync, .rcgCreate, .rcgDestroy, .rcgReset,
    .rcgSetpar, .rcgQuery, .recognizerStep, .tenCreate, .tenChange, .tenDestroy, .tenReset, .bind, .leaseGrant, .leaseRevoke, .setKey, .nop,
    .time, .streamOpen, .streamClose, .mark, .ringStart, .ringStop, .ringResume, .ringFlush, .ringQuery, .epQuery, .nodeCmd, .serXfer, .syncAt,
    .functionLevelReset, .cmd, .cmdData, .cpl, .reject, .staleResend, .caskData, .caskClose, .caskack, .event, .syncAtMessage, .groupTrigger,
    .reelect, .hostLinkUp, .offer, .attach, .detach, .report, .settleExpiry, .directory] : List Instr).all Instr.wf = true := by decide
theorem test_wellformed_6 : ([.dirack, .stateTransferStart, .prepare, .prepared, .configCommit, .withdraw, .regaccess, .regresult, .state,
    .genset, .genack, .configAck, .rolCounterClr, .coalesceTimeout, .eventDelivery, .xinFailure, .xinRecovered, .rootPllUnlock, .rootPllLocked,
    .warm, .core, .hkrst, .resetStart, .coreHold, .housekeepingReady, .watchdogExpiry, .abort, .doze, .watch, .hibernate, .off, .autotExpiry,
    .drained, .wakeat, .pmicPgRise, .memrdy, .wakeComplete, .wakePgTimeout, .wakeRetry, .watchCycle, .append, .journalRead, .journalWrite,
    .nvmEraseDone, .lifeCheckpoint, .bootStageTimeout, .updateGo, .guardImageStore, .guardImageErase, .tapIsolate 0 [], .tapRelease 255,
    .caskValidTimeout, .vafeLoss, .vafeReturn] : List Instr).all Instr.wf = true := by decide

/-! The spec's own worked figures. -/

/-- R67: the CRC of the bytes 0x31 to 0x39. -/
theorem test_crc32_check : crc32 [0x31, 0x32, 0x33, 0x34, 0x35, 0x36, 0x37, 0x38, 0x39] = 0xCBF43926 := by decide +kernel

/-- R480: the CRC of the same bytes on a link. -/
theorem test_crc16_check : crc16 [0x31, 0x32, 0x33, 0x34, 0x35, 0x36, 0x37, 0x38, 0x39] = 0x29B1 := by decide +kernel

/-- The scope file's GEID of the dolly at position 2. -/
theorem test_geid : (flds State.reset [(ROL_STS_POSVALID, 1), (ROL_STS_POS, 2)]).geid 0x1234 = 0x00041234 := by decide +kernel

/-- The tyre pressure element of the endpoints file: format 12. -/
def fmtTyre : List Nat :=
  [12, 0, 1, 0x30, 0, 0, 12, 0, 0, 0, 0, 2, 12, 0, 4, 0] ++ toLe 4 0 ++ toLe 8 0xFFF ++ List.replicate 4 0
/-- And curve 12 with its knots. -/
def curveTyre : List Nat × List (Int × Int) := ([12, 0, 3, 4] ++ List.replicate 12 0, [(400, 0), (2000, 500000), (3600, 1010000)])

theorem test_tyre_pressure :
    [[0x84, 3], [0x74, 0x0E], [0, 1], [0x84, 0x83], [0xFF, 0x0F]].map (fun raw => let d := decodeWith (some fmtTyre) (some curveTyre) raw
      (d.word, d.flags 0)) = [(156250, 1), (1041875, 9), (0, 9), (2, 0), (3, 0)] := by decide +kernel

/-- The wheel speed of the endpoints file: format 40 and curve 40 at 25 m/s. -/
theorem test_wheel_speed :
    decodeWith (some ([40, 0, 3, 0, 32, 0, 16, 32, 0, 0, 40, 8] ++ List.replicate 20 0))
      (some ([40, 0, 2, 6] ++ List.replicate 12 0, [(0, 0), (1073741824, 31250000)])) (toLe 4 20480000 ++ toLe 2 16 ++ toLe 2 0)
      = { v := 25000 } := by decide +kernel

/-- The loop current of the mash file: its DLY, FILL, granules and load. -/
theorem test_mash_figures :
    let ws : List Word := [Word.ofNat (2 * 2 ^ 28 + 255), Word.ofNat (2 * 2 ^ 28 + 255), Word.ofNat (2 * 2 ^ 28 + 255), Word.ofNat (3 * 2 ^ 28 + 8),
      Word.ofNat (4 * 2 ^ 28 + 7)]
    let set : Nat → List Nat := fun _ => [32, 0, 0, 0] ++ toLe 2 (31 * 128) ++ List.replicate 138 0
    (delayOf set 160 ws (freshStages ws), fillOf set ws (freshStages ws), gransOf ws, loadOf 160 ws) = (696080, 8701, 13, 46972657) := by decide +kernel

/-- Loop LP3 of the analogue file: 22,000 µA through 500 Ω is OUT_OF_RANGE at 10,000 mV; 18,000 µA passes. -/
theorem test_loop_compliance :
    let s := flds (mach 0) [(AFE_LCFG_MODE 3, 2), (AFE_LCOMP_RLOAD 3, 500), (AFE_LCOMP_VCOMP 3, 10000), (GRD_CILIM_IHI 19, 1023), (GRD_CIFS_IFS 19, 25000)]
    (s.loopSetCheck 3 22000, s.loopSetCheck 3 18000) = (some OUT_OF_RANGE, none) := by decide +kernel

/-- The address file's remote write: channel 0 of the guard is TRIPPED; the block's error status names ENERGY_REFUSED and word 0xA849. -/
theorem test_guard_refusal :
    (match exec (.registerWrite false 0x2A124 4 1#32 0#32) (flds (up9 5000) [(GRD_CSTS_STATE 0, guTRIPPED)]) with
     | .next t => (wbits (t.rd GRD_ERRSTS) 7 0, wbits (t.rd GRD_ERRSTS) 14 8, wbits (t.rd GRD_ERRSTS) 31 16)
     | _ => (0, 0, 0)) = (0x09, 1, 0xA849) := by decide +kernel

/-! For each statement with hypotheses, a state and operands that meet them; one witness a clause. -/

theorem wit_StepRunsFront : ∃ (s : State) (c : Instr) (rest : List Instr), s.pending = c :: rest :=
  ⟨{ State.reset with pending := [.doze, .nop] }, .doze, [.nop], rfl⟩

theorem wit_IdleStepTicks :
    (∃ s : State, s.pending = []) ∧ (∃ s : State, s.sys.pstate = .off) ∧
    (∃ s : State, s.sys.pstate ≠ .off ∧ (s.time.cyc + 1) % 48 = 0) ∧ (∃ s : State, s.sys.pstate ≠ .off ∧ (s.time.cyc + 1) % 48 ≠ 0) :=
  ⟨⟨State.reset, rfl⟩, ⟨sysd State.reset fun y => { y with pstate := .off }, rfl⟩,
   ⟨{ State.reset with time := { State.reset.time with cyc := 47 } }, by decide +kernel⟩, ⟨State.reset, by decide +kernel⟩⟩

theorem wit_CtAccumulates : ∃ s : State, s.sys.pstate ≠ .off ∧ s.time.fab = true ∧ s.time.acc < 2 ^ 96 :=
  ⟨let s := up9 5000; { s with time := { s.time with fab := true } }, by decide +kernel⟩

theorem wit_RegisterMapStaysCanonical : ∃ s t : State, s.RegsOk ∧ step s = .next t :=
  ⟨State.reset, State.reset.tick, by decide, rfl⟩

theorem wit_StepTakesOneCommand : ∃ s t : State, s.QueueOk ∧ step s = .next t :=
  ⟨State.reset, State.reset.tick, by simp [State.QueueOk, State.reset], rfl⟩

theorem wit_LoopModeChanges : ∃ (s t : State) (x : Nat) (v : Word), x < 16 ∧ exec (.loopModeWrite x v) s = .next t ∧
    t.g (AFE_LCFG_MODE x) ≠ s.awake.g (AFE_LCFG_MODE x) :=
  ⟨up9 5000, match exec (.loopModeWrite 15 1#32) (up9 5000) with | .next t => t | _ => up9 5000, 15, 1#32, by decide, rfl, by decide +kernel⟩

theorem wit_DecoderRounds :
    (∃ n d : Int, d ≠ 0 ∧ 2 * (divRound n d * d - n).natAbs ≠ d.natAbs) ∧
    (∃ n d : Int, d ≠ 0 ∧ 2 * (divRound n d * d - n).natAbs = d.natAbs) ∧
    (∃ (ks : List (Int × Int)) (i : Nat) (p q : Int × Int) (x : Int), ks[i]? = some p ∧ ks[i + 1]? = some q ∧ p.1 ≤ x ∧ x ≤ q.1 ∧
      (∀ j < i, ∀ a b, ks[j]? = some a → ks[j + 1]? = some b → x < a.1 ∨ b.1 < x)) :=
  ⟨⟨-7, 3, by decide⟩, ⟨-7, 2, by decide⟩,
   ⟨[(400, 0), (2000, 500000), (3600, 1010000)], 1, (2000, 500000), (3600, 1010000), 3600, rfl, rfl, by decide, by decide, by
    intro j hj a b ha hb
    obtain rfl : j = 0 := by omega
    simp only [List.getElem?_cons_zero, List.getElem?_cons_succ, Nat.zero_add, Option.some.injEq] at ha hb
    subst ha hb
    exact .inr (by decide)⟩⟩

theorem wit_AccessEndsDoze :
    (∃ s : State, s.sys.pstate = .doze ∧ s.stage < 4) ∧ (∃ s : State, s.sys.pstate ≠ .doze) :=
  ⟨⟨sysd State.reset fun y => { y with pstate := .doze }, by decide +kernel⟩, ⟨State.reset, by decide +kernel⟩⟩

theorem wit_JobsFinish :
    (∃ (s : State) (j : JobS) (o : DoneS), j.id.remote = false ∧ o.status ≠ OK ∧ (∃ k ∈ s.rng.jobs, k.id = j.id)) ∧
    (∃ (s : State) (j : JobS) (o : DoneS), j.id.remote = false ∧ o.status = OK ∧ (∃ k ∈ s.rng.jobs, k.id = j.id)) :=
  ⟨⟨placed (up9 5000) (job 0 1 [] []), job 0 1 [] [], { status := NOT_IN_STATE }, by decide +kernel⟩,
   ⟨placed (up9 5000) (job 0 1 [] []), job 0 1 [] [], { status := OK }, by decide +kernel⟩⟩

theorem wit_LineCodeAndPinsHold :
    (∃ bs : List Nat, (∀ b ∈ bs, b < 256) ∧ bs.length = 3) ∧ (∃ (s : State) (p : Pin) (b : Nat), p.bank = some b ∧ s.vioOn b = false) ∧
    (∃ p : Pin, p.type = .go ∨ ∃ x, p = .lpDrv x) ∧ (∃ (s : State) (x : Nat), x < 16 ∧ s.sys.pstate ≠ .off) ∧ (∃ s : State, s.sys.ir = 1) ∧
    (∃ s : State, 4 < s.sys.ir) :=
  ⟨⟨[0, 188, 255], by decide⟩, ⟨sysd State.reset fun y => { y with vio := 0xFE }, .tm 0, 0, by decide +kernel⟩, ⟨.trip 3, .inl rfl⟩,
   ⟨up9 5000, 15, by decide +kernel⟩, ⟨sysd State.reset fun y => { y with ir := 1 }, rfl⟩, ⟨sysd State.reset fun y => { y with ir := 255 }, by decide +kernel⟩⟩

theorem wit_LoopModeHeld :
    (∃ (s : State) (x : _) (v : Word), x < 16 ∧ s.Accepts rAFE_LCFG v ∧ wbits v 2 0 ≠ s.awake.g (AFE_LCFG_MODE x) ∧ s.awake.guActive (16 + x) = true) :=
  ⟨flds (up9 5000) [(GRD_CSTS_STATE 31, guON)], 15, 1#32, by decide +kernel⟩

theorem wit_RegisterFrames :
    (∃ (s : State) (v : Word), s.Accepts rTIM_TUCNTHI v) ∧
    (∃ (s : State) (v : Word), s.Accepts rTIM_TUCMPHI v) ∧
    (∃ (s : State) (v : Word), s.Accepts rICU_HUBLATLO v) ∧
    (∃ (s : State) (v : Word), s.Accepts rEVM_SWPULSE v) ∧
    (∃ (s : State), s.Accepts rNVS_JCTL 0x80000000) ∧
    (∃ (s : State), s.Accepts rRST_CTL 0x5A01 ∧ s.awake.sys.rst = none) :=
  ⟨⟨up9 50000, 7#32, by decide +kernel⟩,
   ⟨up9 50000, 7#32, by decide +kernel⟩,
   ⟨(up9 5000).raiseHub 3, 8#32, by decide +kernel⟩,
   ⟨up9 5000, 7#32, by decide +kernel⟩,
   ⟨up9 5000, by decide +kernel⟩,
   ⟨up9 5000, by decide +kernel⟩⟩

theorem wit_FieldCountersClear :
    (∃ (v : Word) (s : State), s.Accepts rCRS_BADMCLR v ∧ wbit v 0 = true) ∧
    (∃ (v : Word) (s : State), s.Accepts rGRD_CCLR v ∧ wbit v 0 = true) ∧
    (∃ (v : Word) (s : State), s.Accepts rAFE_LCLR v ∧ wbit v 0 = true) ∧
    (∃ (v : Word) (s : State), s.Accepts rSER_PCLR v ∧ wbit v 0 = true) ∧
    (∃ (v : Word) (s : State), s.Accepts rCAN_PCLR v ∧ wbit v 0 = true) ∧
    (∃ (v : Word) (s : State), s.Accepts rCRS_BCLR v ∧ wbit v 0 = true ∧ wbit v 1 = false) ∧
    (∃ (v : Word) (s : State), s.Accepts rCRS_BCLR v ∧ wbit v 0 = false ∧ wbit v 1 = true) :=
  ⟨⟨1#32, mach 5000, by decide +kernel⟩,
   ⟨1#32, mach 5000, by decide +kernel⟩,
   ⟨1#32, mach 5000, by decide +kernel⟩,
   ⟨1#32, mach 5000, by decide +kernel⟩,
   ⟨1#32, mach 5000, by decide +kernel⟩,
   ⟨1#32, mach 5000, by decide +kernel⟩,
   ⟨2#32, mach 5000, by decide +kernel⟩⟩

theorem wit_BlockCountersClear :
    (∃ (v : Word) (s : State), s.Accepts rPSC_CLR v ∧ wbit v 0 = true) ∧
    (∃ (v : Word) (s : State), s.Accepts rEPT_CLR v ∧ wbit v 0 = true) ∧
    (∃ (v : Word) (s : State), s.Accepts rMSH_CLR v ∧ wbit v 0 = true) ∧
    (∃ (v : Word) (s : State), s.Accepts rRCG_CLR v ∧ wbit v 0 = true) ∧
    (∃ (v : Word) (s : State), s.Accepts rTEN_CLR v ∧ wbit v 0 = true) ∧
    (∃ (v : Word) (s : State), s.Accepts rRNG_CLR v ∧ wbit v 0 = true) ∧
    (∃ (v : Word) (s : State), s.Accepts rICU_CLR v ∧ wbit v 0 = true) ∧
    (∃ (v : Word) (s : State), s.Accepts rEVM_CLR v ∧ wbit v 0 = true) ∧
    (∃ (v : Word) (s : State), s.Accepts rCLK_CLR v ∧ wbit v 0 = true) ∧
    (∃ (v : Word) (s : State), s.Accepts rRST_CLR v ∧ wbit v 0 = true) ∧
    (∃ (v : Word) (s : State), s.Accepts rPWR_CLR v ∧ wbit v 0 = true) ∧
    (∃ (v : Word) (s : State), s.Accepts rNVS_CLR v ∧ wbit v 0 = true) :=
  ⟨⟨1#32, mach 5000, by decide +kernel⟩,
   ⟨1#32, mach 5000, by decide +kernel⟩,
   ⟨1#32, mach 5000, by decide +kernel⟩,
   ⟨1#32, mach 5000, by decide +kernel⟩,
   ⟨1#32, mach 5000, by decide +kernel⟩,
   ⟨1#32, mach 5000, by decide +kernel⟩,
   ⟨1#32, mach 5000, by decide +kernel⟩,
   ⟨1#32, mach 5000, by decide +kernel⟩,
   ⟨1#32, mach 5000, by decide +kernel⟩,
   ⟨1#32, mach 5000, by decide +kernel⟩,
   ⟨1#32, mach 5000, by decide +kernel⟩,
   ⟨1#32, mach 5000, by decide +kernel⟩⟩

theorem wit_ErrorStatusClears :
    (∃ (s : State) (ofs : _) (k : Blk) (v : Word), blkAt ofs = some k ∧ s.awake.stopped k.err = false ∧ wbit v 15 = true) :=
  ⟨(mach 5000).err SER_ERRSTS 0x10000 RESERVED_NONZERO, SER_ERRSTS, ⟨0x31000, 0x317FF, SER_ERRSTS, .ckFld, regsSER⟩, 0x8000#32, by decide +kernel⟩

theorem wit_FieldTablesIndex :
    (∃ (s : State) (n : _), n < 1024 ∧ s.Accepts rSER_TPLIDX (Word.ofNat (2 ^ 31 + n)) ∧ s.awake.tplFails s.awake.stagedTpl = none) ∧
    (∃ (s : State) (n : _), n < 1024 ∧ s.Accepts rSER_TPLIDX (Word.ofNat (2 ^ 30 + n))) ∧
    (∃ (s : State) (n : _), n < 8192 ∧ s.Accepts rMSH_CHIDX (Word.ofNat (2 ^ 31 + n)) ∧ (s.awake.ch n).state = msOFF ∧ s.awake.staged.en = false ∧ s.awake.commitFails n s.awake.staged = none) ∧
    (∃ (s : State) (n : _), n < 8192 ∧ s.Accepts rMSH_CHIDX (Word.ofNat (2 ^ 30 + n))) ∧
    (∃ (s : State) (n : _), n < 8192 ∧ s.Accepts rMSH_CHIDX (Word.ofNat (2 ^ 29 + n))) ∧
    (∃ (s : State) (n : _), n < 512 ∧ s.Accepts rMSH_CSIDX (Word.ofNat (2 ^ 31 + n)) ∧ setFails s.awake.stagedSet = none ∧ s.awake.setInUse n = false) ∧
    (∃ (s : State) (n : _), n < 512 ∧ s.Accepts rMSH_CSIDX (Word.ofNat (2 ^ 30 + n))) ∧
    (∃ (s : State) (n : _), n < 512 ∧ s.Accepts rMSH_CSIDX (Word.ofNat (2 ^ 29 + n)) ∧ s.awake.setInUse n = false) :=
  ⟨⟨words (flds (mach 5000) [(SER_PCS_EN 0, 1)]) (rSER_TPLD.at 0 0) ([0, 0, 8, 0, 0, 0] ++ List.replicate 26 0), 1023, by decide +kernel⟩,
   ⟨mach 5000, 1023, by decide +kernel⟩,
   ⟨words (ept1 (mach 5000)) (rMSH_CHCFG.at 0 0) ([0, 0, 0, 0] ++ toLe 4 7 ++ toLe 4 1000), 8191, by decide +kernel⟩,
   ⟨mach 5000, 8191, by decide +kernel⟩,
   ⟨mach 5000, 8191, by decide +kernel⟩,
   ⟨words (mach 5000) (rMSH_CSD.at 0 0) ([1, 0, 1] ++ List.replicate 269 0), 511, by decide +kernel⟩,
   ⟨mach 5000, 511, by decide +kernel⟩,
   ⟨mach 5000, 511, by decide +kernel⟩⟩

theorem wit_HubTablesIndex :
    (∃ (s : State) (e : _), e < 131072 ∧ s.Accepts rEPT_IDX (Word.ofNat (2 ^ 31 + e)) ∧ s.awake.recFails e s.awake.stagedRec = none) ∧
    (∃ (s : State) (e : _), e < 131072 ∧ s.Accepts rEPT_IDX (Word.ofNat (2 ^ 30 + e))) ∧
    (∃ (s : State) (e : _), e < 131072 ∧ s.Accepts rEPT_IDX (Word.ofNat (2 ^ 29 + e)) ∧ (s.awake.ep e).src ≠ srcFREE ∧ (∀ x ∈ s.awake.relRecs e, s.awake.recAdmitted (s.awake.ep x) = false ∧ s.awake.recInUse x = false)) ∧
    (∃ (s : State) (n : _), n < 1024 ∧ s.Accepts rRCG_MTCTL (Word.ofNat (2 ^ 31 + n)) ∧ s.awake.mtUsers n = 0 ∧ mtFails s.awake.mtBuf = none) ∧
    (∃ (s : State) (n : _), n < 1024 ∧ s.Accepts rRCG_MTCTL (Word.ofNat (2 ^ 30 + n))) ∧
    (∃ (s : State) (n : _), n < 1024 ∧ s.Accepts rRCG_MTCTL (Word.ofNat (2 ^ 29 + n)) ∧ s.awake.mtUsers n = 0) ∧
    (∃ (s : State) (t : _) (k : _) (w : WinS), t < 1024 ∧ k < 8 ∧ s.Accepts rTEN_WINIDX (Word.ofNat (2 ^ 31 + 65536 * k + t)) ∧ w = { base := s.awake.g TEN_WINBASELO * 4096 + 2 ^ 32 * s.awake.g TEN_WINBASEHI, len := s.awake.g TEN_WINLEN, r := s.awake.on TEN_WINATTR_R, w := s.awake.on TEN_WINATTR_W : WinS } ∧ s.awake.winFailsWr t k w = none) ∧
    (∃ (s : State) (t : _) (k : _), t < 1024 ∧ k < 8 ∧ s.Accepts rTEN_WINIDX (Word.ofNat (2 ^ 30 + 65536 * k + t))) ∧
    (∃ (s : State) (t : _) (k : _), t < 1024 ∧ k < 8 ∧ s.Accepts rTEN_WINIDX (Word.ofNat (2 ^ 29 + 65536 * k + t)) ∧ ((s.awake.win t k).len = 0 ∨ s.awake.windowUsed t (s.awake.win t k) = false)) ∧
    (∃ (s : State) (t : _) (k : _), t < 1024 ∧ k < 3 ∧ s.Accepts rRNG_IDX (Word.ofNat (2 ^ 31 + 65536 * k + t)) ∧ s.awake.setupBad t k true = none) ∧
    (∃ (s : State) (t : _) (k : _), t < 1024 ∧ k < 3 ∧ s.Accepts rRNG_IDX (Word.ofNat (2 ^ 30 + 65536 * k + t))) ∧
    (∃ (s : State) (t : _) (k : _), t < 1024 ∧ k < 3 ∧ s.Accepts rRNG_IDX (Word.ofNat (2 ^ 29 + 65536 * k + t)) ∧ s.awake.setupBad t k false = none) ∧
    (∃ (s : State) (n : _), n < 4144 ∧ s.Accepts rICU_SRCIDX (Word.ofNat (2 ^ 31 + n)) ∧ s.awake.on ICU_SRCCFG_EN = false ∧ s.awake.g ICU_SRCTIME ≠ 0) ∧
    (∃ (s : State) (n : _), n < 4144 ∧ s.Accepts rICU_SRCIDX (Word.ofNat (2 ^ 30 + n))) ∧
    (∃ (s : State) (p : _), p < 16 ∧ s.Accepts rROL_DIRIDX (Word.ofNat p)) ∧
    (∃ (s : State) (n : _), n < 64 ∧ s.Accepts rNVS_LIFEIDX (Word.ofNat n)) :=
  ⟨⟨words { mach 5000 with ept := { (mach 5000).ept with active := img0 } } (rEPT_D.at 0 0) ([8, 0, 255, 255, 255, 255] ++ List.replicate 26 0), 131071, by decide +kernel⟩,
   ⟨mach 5000, 131071, by decide +kernel⟩,
   ⟨ept1 (mach 5000), 7, by decide +kernel⟩,
   ⟨words (mach 5000) (rRCG_MTBUF.at 0 0) still, 1023, by decide +kernel⟩,
   ⟨mach 5000, 1023, by decide +kernel⟩,
   ⟨mach 5000, 1023, by decide +kernel⟩,
   ⟨flds (ctxd (mach 5000) 3 { state := ctxACTIVE, uid := 44 }) [(TEN_WINBASELO, 5), (TEN_WINLEN, 2), (TEN_WINATTR_R, 1)], 3, 7, { base := 5 * 4096, len := 2, r := true, w := false }, by decide +kernel⟩,
   ⟨mach 5000, 1023, 7, by decide +kernel⟩,
   ⟨mach 5000, 1023, 7, by decide +kernel⟩,
   ⟨flds (ctxd (mach 5000) 3 { state := ctxACTIVE, uid := 44, wins := ({} : Tbl WinS).set (fun _ => {}) 0 { base := 4096, len := 100, r := true, w := true } }) [(RNG_BASELO, 1), (RNG_ORD, 4)], 3, 1, by decide +kernel⟩,
   ⟨mach 5000, 1023, 2, by decide +kernel⟩,
   ⟨rings (ctxd (mach 5000) 3 { state := ctxACTIVE, uid := 44 }) 3 { cpl := { state := rsRUNNING, ord := 4 } }, 3, 1, by decide +kernel⟩,
   ⟨mach 5000, 4143, by decide +kernel⟩,
   ⟨mach 5000, 4143, by decide +kernel⟩,
   ⟨mach 5000, 15, by decide +kernel⟩,
   ⟨mach 5000, 63, by decide +kernel⟩⟩

theorem wit_TimeServiceCompletes :
    (∃ (s : State), s.stopped TIM_ERRSTS = false) ∧
    (∃ (s : State), s.on TIM_CTSTS_UPVALID = true ∧ s.coreRuns = true ∧ s.hkRuns = true ∧ s.srv.lastStart + s.interval ≤ s.elapsed) ∧
    (∃ (s : State) (a : _) (e : _), s.srv.t1 = some (a, e) ∧ e + 10000 < s.elapsed ∧ s.g (BND_PTIMEBAD (s.g TIM_CTSTS_UPPORT)) < 2 ^ 32 - 1) ∧
    (∃ (s : State), s.srv.lastGood + s.g TIM_SVCFG_HOLDCNT * s.interval ≤ s.elapsed ∧ (s.g TIM_CTSTS_STATE = ctLOCKED ∨ s.g TIM_CTSTS_STATE = ctACQUIRING ∨ s.g TIM_CTSTS_STATE = ctUNSET)) ∧
    (∃ (s : State), s.srv.lastGood + s.g TIM_SVCFG_HOLDCNT * s.interval ≤ s.elapsed ∧ (s.g TIM_CTSTS_STATE = ctREFERENCE ∨ s.g TIM_CTSTS_STATE = ctHOLDOVER)) ∧
    (∃ (s : State) (e : _), s.srv.expected = some e ∧ s.g TIM_CTSTS_STATE = ctREFERENCE ∧ s.on TIM_SYNCCFG_DISC_EN = true ∧ s.on TIM_CTSTS_DISCIPLINED = true ∧ e + 1000 < s.ct) ∧
    (∃ (s : State), s.g TIM_CTSTS_STATE = ctREFERENCE ∧ (s.on TIM_CTSTS_DISCIPLINED = false ∨ s.on TIM_SYNCCFG_DISC_EN = false) ∧ s.srv.lastAccept + 1000000000 * s.g TIM_SYNCCFG_DISC_HOLD ≤ s.elapsed) ∧
    (∃ (s : State), s.g TIM_SYNCCFG_MODE = 1 ∧ s.ct % s.syncPeriod = 0 ∧ (∀ l, s.srv.lastPulse = some l → l < s.ct) ∧ s.coreRuns = true) ∧
    (∃ (s : State) (e : _), s.srv.pulseEnd = some e ∧ e ≤ s.elapsed) :=
  ⟨⟨mach 5000, by decide +kernel⟩,
   ⟨flds (mach 50000000000) [(TIM_CTSTS_UPVALID, 1), (TIM_CTSTS_UPPORT, 2), (BND_PSTS_STATE 2, bsACTIVE)], by decide +kernel⟩,
   ⟨let s := mach 50000; { s with srv := { s.srv with t1 := some (5, 6) } }, 5, 6, by decide +kernel⟩,
   ⟨flds (mach 9000000000000) [(TIM_CTSTS_STATE, ctLOCKED)], by decide +kernel⟩,
   ⟨flds (mach 9000000000000) [(TIM_CTSTS_STATE, ctREFERENCE)], by decide +kernel⟩,
   ⟨let s := flds (mach 50000) [(TIM_CTSTS_DISCIPLINED, 1), (TIM_CTSTS_STATE, ctREFERENCE), (TIM_SYNCCFG_DISC_EN, 1)]; { s with srv := { s.srv with expected := some 6, rejRun := 3 } }, 6, by decide +kernel⟩,
   ⟨flds (mach 9000000000000) [(TIM_CTSTS_STATE, ctREFERENCE), (TIM_CTSTS_UTC_VALID, 1)], by decide +kernel⟩,
   ⟨flds (mach 0) [(TIM_SYNCCFG_MODE, 1)], by decide +kernel⟩,
   ⟨let s := mach 50000; { s with srv := { s.srv with pulseEnd := some 6, syncPin := true } }, 6, by decide +kernel⟩⟩

theorem wit_TimeExchangesComplete :
    (∃ (pl : _), leAt pl 0 1 = 1) ∧
    (∃ (pl : _), leAt pl 0 1 ≠ 1) ∧
    (∃ (s : State) (p : _) (pl : _) (a : Nat) (e : Nat), s.srv.t1 = some (a, e) ∧ leAt pl 0 1 = 2 ∧ leAt pl 4 4 = lo32 e ∧ s.elapsed ≤ e + 10000 ∧ s.on TIM_CTSTS_UPVALID = true ∧ p = s.g TIM_CTSTS_UPPORT ∧ leAt pl 8 4 = s.g ROL_EPOCH ∧ (leAt pl 1 1 % 8 = ctLOCKED ∨ leAt pl 1 1 % 8 = ctREFERENCE) ∧ ((((leAt pl 16 8 : Int) - a) - ((s.ct : Int) - leAt pl 24 8)) * 1000 - signed 16 (s.g (TIM_BDASYM p))).natAbs ≤ 2 * 1000000 * s.g TIM_SVCFG_STEPLIM) ∧
    (∃ (s : State), s.g TIM_SYNCCFG_MODE = 0 ∧ s.g TIM_SYNCCFG_EDGE = 0 ∧ s.g TIM_CTSTS_STATE = ctREFERENCE ∧ s.on TIM_SYNCCFG_DISC_EN = true ∧ s.srv.utcArmed = true ∧ s.on TIM_CTSTS_DISCIPLINED = false ∧ s.on MSH_SYNCCFG_PINEN = false) ∧
    (∃ (s : State) (v : Word), s.Accepts rTIM_SYNCUTCHI v) :=
  ⟨⟨[1, 0, 0, 0, 5, 6, 7, 8], by decide +kernel⟩,
   ⟨[2, 0, 0, 0, 5, 6, 7, 8], by decide +kernel⟩,
   ⟨let s := flds (mach 1000000) [(TIM_CTSTS_UPVALID, 1), (TIM_CTSTS_UPPORT, 2)]; { s with srv := { s.srv with t1 := some (999000, 999000) } }, 2, [2, ctLOCKED, 0, 0] ++ toLe 4 999000 ++ [0, 0, 0, 0, 0, 0, 0, 0] ++ toLe 8 999500 ++ toLe 8 999500, 999000, 999000, by decide +kernel⟩,
   ⟨let s := flds (mach 1000000) [(TIM_CTSTS_STATE, ctREFERENCE), (TIM_SYNCCFG_DISC_EN, 1)]; { s with srv := { s.srv with utcArmed := true } }, by decide +kernel⟩,
   ⟨flds (mach 50000) [(TIM_SYNCREJ, 7)], 0xFFFFFFFF#32, by decide +kernel⟩⟩

theorem wit_TimerUnitsComplete :
    (∃ (s : State) (x : _) (v : Word), x < 16 ∧ s.Accepts rTIM_TUCTL v ∧ tuSrcOk (wbits v 3 1) (wbits v 10 4) = true ∧ (x < 8 ∨ wbits v 15 14 = 0) ∧ s.awake.on (TIM_TUCTL_EN x) = false ∧ wbit v 0 = true ∧ wbit v 13 = false) ∧
    (∃ (s : State) (x : _) (v : Word), x < 16 ∧ s.Accepts rTIM_TUCTL v ∧ tuSrcOk (wbits v 3 1) (wbits v 10 4) = true ∧ (x < 8 ∨ wbits v 15 14 = 0) ∧ s.awake.on (TIM_TUCTL_EN x) = false ∧ wbit v 0 = true ∧ wbit v 13 = true ∧ s.awake.ct < s.awake.tuStart x) ∧
    (∃ (s : State) (x : _) (v : Word), x < 16 ∧ s.Accepts rTIM_TUCTL v ∧ tuSrcOk (wbits v 3 1) (wbits v 10 4) = true ∧ (x < 8 ∨ wbits v 15 14 = 0) ∧ wbit v 0 = false) ∧
    (∃ (s : State) (x : _), x < 16 ∧ (s.tu x).waiting = true ∧ s.tuStart x ≤ s.ct) ∧
    (∃ (s : State) (x : _) (v : Word), x < 16 ∧ s.Accepts rTIM_TUCNTHI v ∧ s.awake.on (TIM_TUCTL_EN x) = false) ∧
    (∃ (s : State) (x : _) (y : _) (v : Word), x < 16 ∧ y < 4 ∧ s.Accepts rTIM_TUCMPHI v ∧ (s.awake.on (TIM_TUCMPCTL_BASE x y) = true ∨ wbits v 31 16 = 0)) ∧
    (∃ (s : State) (x : _) (y : _), x < 16 ∧ y < 4 ∧ s.cmpDue x y = true) ∧
    (∃ (s : State) (x : _) (y : _) (fall : _), x < 8 ∧ y < 2 ∧ s.g (TIM_TUCTL_IOMODE x) = 0 ∧ s.vioOn x = true ∧ s.coreRuns = true ∧ s.captures x y 0 x fall = true ∧ s.g (TIM_TUCTL_SRC x) ≠ 4 ∧ (s.capq x y).length < 4) ∧
    (∃ (s : State) (x : _), (s.g (TIM_TUCTL_IOMODE x) ≠ 0 ∨ s.vioOn x = false)) ∧
    (∃ (s : State) (x : _) (y : _), x < 16 ∧ y < 2 ∧ s.awake.stopped TIM_ERRSTS = false) ∧
    (∃ (s : State) (x : _) (y : _), x < 16 ∧ y < 2 ∧ s.awake.stopped TIM_ERRSTS = false) ∧
    (∃ (s : State) (x : _) (y : _) (v : Word), x < 16 ∧ y < 2 ∧ s.Accepts rTIM_TUCAPCTL (v ||| 0x01000000) ∧ s.awake.capSelOk x (wbits (v ||| 0x01000000) 2 1) (wbits (v ||| 0x01000000) 9 3) = true) :=
  ⟨⟨mach 50000, 15, 1#32, by decide +kernel⟩,
   ⟨(mach 50000).setTu 15 { start := 60000 }, 15, 0x2001#32, by decide +kernel⟩,
   ⟨flds (mach 50000) [(TIM_TUCTL_EN 15, 1), (TIM_TUSTS_RUNNING 15, 1)], 15, 0#32, by decide +kernel⟩,
   ⟨(mach 50000).setTu 15 { waiting := true }, 15, by decide +kernel⟩,
   ⟨mach 50000, 15, 0xFFFF#32, by decide +kernel⟩,
   ⟨mach 50000, 15, 1, 0xFFFF#32, by decide +kernel⟩,
   ⟨flds (mach 50000) [(TIM_TUCMPCTL_ARM 15 1, 1), (TIM_TUCMPCTL_BASE 15 1, 1)], 15, 1, by decide +kernel⟩,
   ⟨flds (mach 50000) [(TIM_TUCAPCTL_EN 7 1, 1)], 7, 1, false, by decide +kernel⟩,
   ⟨flds (mach 50000) [(TIM_TUCTL_IOMODE 7, 1)], 7, by decide +kernel⟩,
   ⟨mach 50000, 15, 1, by decide +kernel⟩,
   ⟨mach 50000, 15, 1, by decide +kernel⟩,
   ⟨mach 50000, 15, 1, 2#32, by decide +kernel⟩⟩

theorem wit_BusCyclesComplete :
    (∃ (s : State) (b : _) (v : Word), b < 64 ∧ s.Accepts rCRS_BCFG v ∧ wbit v 0 = true ∧ wbit v 2 = false ∧ s.awake.on (CRS_BCFG_EN b) = false ∧ (s.awake.store rCRS_BCFG b 0 v).busFits b = true) ∧
    (∃ (s : State) (b : _) (v : Word), b < 64 ∧ s.Accepts rCRS_BCFG v ∧ wbit v 0 = false ∧ wbit v 2 = false ∧ s.awake.on (CRS_BCFG_EN b) = true ∧ wbits v 23 4 = wbits (s.awake.rd (rCRS_BCFG.at b 0)) 23 4) ∧
    (∃ (s : State) (b : _) (c : _), b < 64 ∧ s.nextStart b = some c ∧ s.busRuns b = true ∧ c ≤ s.ct ∧ s.vioOn (b / 8) = true) ∧
    (∃ (s : State) (b : _) (a : _), b < 64 ∧ a < 32 ∧ s.bitPassed b (s.nodePos b a + frameBits (s.nodeLen b a)) = true ∧ s.on (CRS_NSTS_ADMITTED b a) = true ∧ (s.node b a).ended = false ∧ (s.node b a).ok = true) ∧
    (∃ (s : State) (b : _) (a : _), b < 64 ∧ a < 32 ∧ s.bitPassed b (s.nodePos b a + frameBits (s.nodeLen b a)) = true ∧ s.on (CRS_NSTS_ADMITTED b a) = true ∧ (s.node b a).ended = false ∧ (s.node b a).ok = false ∧ (s.node b a).prob = none ∧ s.nodeTxns b a = []) ∧
    (∃ (s : State) (b : _) (a : _) (m : _), b < 64 ∧ a < 32 ∧ (s.node b a).sub = some m ∧ s.bitPassed b ((s.bus b).lay.us.getD m 0 + frameBits (s.g (CRS_BSLOTCFG_SPARELEN b))) = true) ∧
    (∃ (s : State) (b : _), b < 64 ∧ s.g (CRS_BCFG_SPARECNT b) ≠ 0 ∧ (s.bus b).granted = false ∧ s.bitPassed b (s.bus b).lay.sg = true) ∧
    (∃ (s : State) (b : _), b < 64 ∧ s.admRuns b = true ∧ (s.bus b).relay = true ∧ (s.bus b).lchg = none) ∧
    (∃ (s : State) (b : _) (l : LchgS) (c : _), b < 64 ∧ (s.bus b).lchg = some l ∧ (s.bus b).watch = false ∧ s.nextStart b = some c ∧ l.eff = some ((s.g (CRS_BCYCNO b) + 1) % 2 ^ 32) ∧ c ≤ s.ct) :=
  ⟨⟨mach 5000, 63, (State.rd (mach 0) (rCRS_BCFG.at 63 0)) ||| 1#32, by decide +kernel⟩,
   ⟨flds (mach 5000) [(CRS_BCFG_EN 63, 1)], 63, (State.rd (mach 0) (rCRS_BCFG.at 63 0)) &&& 0xFFFFFFFA#32, by decide +kernel⟩,
   ⟨(flds (mach 50000000) [(CRS_BCFG_EN 63, 1), (CRS_BSTS_SEGOFF 63, 0)]).setBus 63 { from_ := some 1000000 }, 63, 1000000, by decide +kernel⟩,
   ⟨((flds (mach 5000000) [(CRS_NSTS_ADMITTED 63 31, 1)]).setBus 63 { cur := some { ref := 0, len := 1000000 } }).setNode 63 31 { id := 7, ok := true }, 63, 31, by decide +kernel⟩,
   ⟨((flds (mach 5000000) [(CRS_NSTS_ADMITTED 63 31, 1)]).setBus 63 { cur := some { ref := 0, len := 1000000 } }).setNode 63 31 { id := 7 }, 63, 31, by decide +kernel⟩,
   ⟨((flds (mach 5000000) [(CRS_NSTS_ADMITTED 63 31, 1)]).setBus 63 { cur := some { ref := 0, len := 1000000 } }).setNode 63 31 { id := 7, sub := some 0 }, 63, 31, 0, by decide +kernel⟩,
   ⟨(flds (mach 5000000) [(CRS_BCFG_SPARECNT 63, 2)]).setBus 63 { cur := some { ref := 0, len := 1000000 } }, 63, by decide +kernel⟩,
   ⟨(mach 5000000).setBus 63 { cur := some { ref := 0, len := 1000000 }, relay := true, lno := 255 }, 63, by decide +kernel⟩,
   ⟨(mach 50000000).setBus 63 { from_ := some 0, lchg := some { eff := some 1, lno := 1, lay := {}, wait := [] } }, 63, { eff := some 1, lno := 1, lay := {}, wait := [] }, 0, by decide +kernel⟩⟩

theorem wit_BusFramesComplete :
    (∃ (s : State) (b : _) (arr : Int) (gs : List Nat), b < 64 ∧ s.Listens b ∧ lineFrame gs = none ∧ s.inJoin b arr = false) ∧
    (∃ (s : State) (b : _), s.vioOn (b / 8) = false) ∧
    (∃ (s : State) (b : _) (arr : Int) (gs : _) (bs : _), b < 64 ∧ s.Listens b ∧ lineFrame gs = some bs ∧ 8 ≤ bs.length ∧ leAt bs (bs.length - 4) 4 ≠ crc32 (bs.take (bs.length - 4)) ∧ s.inJoin b arr = false) ∧
    (∃ (s : State) (b : _) (a : _) (arr : Int) (gs : _) (bs : _), b < 64 ∧ s.Listens b ∧ lineFrame gs = some bs ∧ goodFrame bs ∧ leAt bs 0 1 = 0x81 ∧ leAt bs 1 1 = a ∧ a < 32 ∧ s.inJoin b arr = false ∧ s.holds b a = true ∧ s.on (CRS_NSTS_ADMITTED b a) = true ∧ s.dataBad b a bs (inSpans (s.g (CRS_BCFG_GUARD b)) arr (s.subSpans b)) = false ∧ (s.node b a).prob = none ∧ (arr - 24 * (s.nodePos b a : Nat)).natAbs ≤ 24 * s.g (CRS_BCFG_GUARD b) ∧ (s.bus b).bad = []) ∧
    (∃ (s : State) (b : _) (arr : Int) (gs : _) (bs : _), b < 64 ∧ s.Listens b ∧ lineFrame gs = some bs ∧ goodFrame bs ∧ leAt bs 0 1 ≠ 0x81 ∧ leAt bs 0 1 ≠ 0x82 ∧ s.inJoin b arr = false) ∧
    (∃ (s : State) (b : _) (a : _) (arr : Int) (gs : _) (bs : _), b < 64 ∧ s.Listens b ∧ lineFrame gs = some bs ∧ goodFrame bs ∧ leAt bs 0 1 = 0x82 ∧ s.inJoin b arr = true ∧ bs.length = 20 ∧ leAt bs 1 1 = 0 ∧ leAt bs 4 8 ≠ 0 ∧ (s.bus b).joinres = 0 ∧ (s.bus b).bad = [] ∧ (s.bus b).joinOpen = true ∧ s.holderOf (leAt bs 4 8) = none ∧ leAt bs 12 4 % 256 = 1 ∧ nbits (leAt bs 12 4) 31 28 = 0 ∧ nbits (leAt bs 12 4) 15 10 = 0 ∧ 36 ≤ nbits (leAt bs 12 4) 27 16 ∧ s.freeAddr b = some a) ∧
    (∃ (s : State) (b : _) (gs : _) (bs : _) (cyc : CycS), b < 64 ∧ s.vioOn (b / 8) = true ∧ (s.bus b).cur = some cyc ∧ lineFrame gs = some bs ∧ goodFrame bs ∧ s.immWait b = none) ∧
    (∃ (s : State) (b : _) (r : Int) (gs : _) (bs : _) (cyc : CycS) (a : _) (c : NcmdS), b < 64 ∧ s.vioOn (b / 8) = true ∧ (s.bus b).cur = some cyc ∧ lineFrame gs = some bs ∧ goodFrame bs ∧ s.immWait b = some (a, c) ∧ r ≤ 5280 + (if s.ranged b a then 2 * s.g (CRS_NDELAY b a) else 960 : Nat) ∧ leAt bs 0 1 = 0x81 ∧ leAt bs 1 1 = c.addr ∧ leAt bs 2 1 = cyc.no % 256 ∧ leAt bs 3 1 = 0 ∧ leAt bs 4 2 = s.g (CRS_NNSTAT b a) ∧ leAt bs 4 2 < 32 ∧ bs.length = 20 ∧ leAt bs 6 2 = 8 ∧ leAt bs 8 1 = 0xFF ∧ leAt bs 9 1 = 8 ∧ leAt bs 10 2 = 4) :=
  ⟨⟨flds ((mach 5000000).setBus 63 { cur := some { ref := 0, len := 1000000 } }) [(CRS_BSTS_SEGOFF 63, 0)], 63, 100000, [], by decide +kernel⟩,
   ⟨let s := flds ((mach 5000000).setBus 63 { cur := some { ref := 0, len := 1000000 } }) [(CRS_BSTS_SEGOFF 63, 0)]; { s with sys := { s.sys with vio := 0 } }, 63, by decide +kernel⟩,
   ⟨flds ((mach 5000000).setBus 63 { cur := some { ref := 0, len := 1000000 } }) [(CRS_BSTS_SEGOFF 63, 0)], 63, 100000, (lineGroups ([0x81, 0, 0, 0, 0, 0, 0, 0])).drop 4, [0x81, 0, 0, 0, 0, 0, 0, 0], by decide +kernel⟩,
   ⟨((flds (mach 5000000) [(CRS_NSTS_ADMITTED 63 31, 1), (CRS_NSLOTST 63 31, 1000), (CRS_NSLOTLEN 63 31, 64), (CRS_BSTS_SEGOFF 63, 0)]).setBus 63 { cur := some { ref := 0, len := 1000000 }, prev := some { no := 9 }, lay := { slots := [(31, 1000, 64)] } }).setNode 63 31 { id := 7 }, 63, 31, 24000, (lineGroups (fr [0x81, 31, 9, 0, 0, 0, 0, 0])).drop 4, fr [0x81, 31, 9, 0, 0, 0, 0, 0], by decide +kernel⟩,
   ⟨flds ((mach 5000000).setBus 63 { cur := some { ref := 0, len := 1000000 } }) [(CRS_BSTS_SEGOFF 63, 0)], 63, 100000, (lineGroups (fr [0x83, 0, 0, 0])).drop 4, fr [0x83, 0, 0, 0], by decide +kernel⟩,
   ⟨flds ((mach 5000000).setBus 63 { cur := some { ref := 0, len := 1000000 }, joinOpen := true, lay := { sj := 500, ej := 760 } }) [(CRS_BSTS_SEGOFF 63, 0)], 63, 0, 12000, (lineGroups (fr ([0x82, 0, 1, 0] ++ [7, 0, 0, 0, 0, 0, 0, 1] ++ [1, 0, 0x40, 0]))).drop 4, fr ([0x82, 0, 1, 0] ++ [7, 0, 0, 0, 0, 0, 0, 1] ++ [1, 0, 0x40, 0]), by decide +kernel⟩,
   ⟨flds ((mach 5000000).setBus 63 { cur := some { ref := 0, len := 1000000 } }) [(CRS_BSTS_SEGOFF 63, 0)], 63, (lineGroups (fr [0x81, 31, 0, 0, 0, 0, 0, 0])).drop 4, fr [0x81, 31, 0, 0, 0, 0, 0, 0], { ref := 0, len := 1000000 }, by decide +kernel⟩,
   ⟨flds (((mach 5000000).setBus 63 { cur := some { ref := 0, len := 1000000 } }).setNode 63 31 { id := 7, wait := some { opc := 3, addr := 31, imm := true, who := 5 } }) [(CRS_BSTS_SEGOFF 63, 0)], 63, 5280, (lineGroups (fr [0x81, 31, 0, 0, 0, 0, 8, 0, 0xFF, 8, 4, 0, 0, 3, 0, 0])).drop 4, fr [0x81, 31, 0, 0, 0, 0, 8, 0, 0xFF, 8, 4, 0, 0, 3, 0, 0], { ref := 0, len := 1000000 }, 31, { opc := 3, addr := 31, imm := true, who := 5 }, by decide +kernel⟩⟩

theorem wit_NodesComplete :
    (∃ (s : State) (b : _) (a : _), b < 64 ∧ a < 32 ∧ s.on (CRS_NSTS_ADMITTED b a) = true ∧ 4 ≤ s.missNow b a) ∧
    (∃ (s : State) (b : _), b < 64 ∧ 4 ≤ (s.bus b).quiet ∧ s.on (CRS_BSTS_LINEFAULT b) = false) ∧
    (∃ (s : State) (b : _) (a : _), b < 64 ∧ a < 32 ∧ (s.node b a).prob.isSome = true ∧ 64 ≤ s.g (CRS_NSTS_CLEAN b a)) ∧
    (∃ (s : State) (b : _) (a : _), b < 64 ∧ a < 32 ∧ s.coreRuns = true ∧ (s.bus b).watch = false ∧ s.on (CRS_NSTS_ADMITTED b a) = true ∧ 256 ≤ s.missNow b a) ∧
    (∃ (s : State) (b : _) (a : _) (c : NcmdS) (cyc : CycS), b < 64 ∧ a < 32 ∧ (s.node b a).wait = some c ∧ (s.bus b).cur = some cyc ∧ c.imm = false ∧ cyc.no ≠ c.cyc ∧ cyc.no ≠ (c.cyc + 1) % 2 ^ 32 ∧ (s.bus b).watch = false ∧ c.resent = false) ∧
    (∃ (s : State) (b : _) (a : _) (c : NcmdS) (cyc : CycS), b < 64 ∧ a < 32 ∧ (s.node b a).wait = some c ∧ (s.bus b).cur = some cyc ∧ c.imm = true ∧ s.g (CRS_NDELAY b a) = 0 ∧ c.at_ + 2600 ≤ s.elapsed ∧ (s.bus b).watch = false ∧ c.resent = true) ∧
    (∃ (s : State) (b : _) (m : AdmS), b < 64 ∧ (s.bus b).adm = some m ∧ s.admRuns b = true ∧ m.busy = false ∧ m.step = 2) ∧
    (∃ (s : State) (b : _) (a : _), b < 64 ∧ a < 32 ∧ s.Accepts rCRS_BDROP (Word.ofNat (256 + a)) ∧ s.awake.holds b a = true) :=
  ⟨⟨(flds (mach 5000000) [(CRS_NSTS_ADMITTED 63 31, 1)]).setNode 63 31 { id := 7, missRun := 4 }, 63, 31, by decide +kernel⟩,
   ⟨(mach 5000000).setBus 63 { quiet := 4 }, 63, by decide +kernel⟩,
   ⟨(flds (mach 5000000) [(CRS_NSTS_CLEAN 63 31, 64)]).setNode 63 31 { id := 7, prob := some 0 }, 63, 31, by decide +kernel⟩,
   ⟨(flds (mach 5000000) [(CRS_NSTS_ADMITTED 63 31, 1)]).setNode 63 31 { id := 7, missRun := 256 }, 63, 31, by decide +kernel⟩,
   ⟨((mach 5000000).setBus 63 { cur := some { no := 5 } }).setNode 63 31 { id := 7, wait := some { opc := 3, cyc := 3 } }, 63, 31, { opc := 3, cyc := 3 }, { no := 5 }, by decide +kernel⟩,
   ⟨((mach 5000000).setBus 63 { cur := some { no := 5 } }).setNode 63 31 { id := 7, wait := some { opc := 3, imm := true, resent := true, at_ := 4997400 } }, 63, 31, { opc := 3, imm := true, resent := true, at_ := 4997400 }, { no := 5 }, by decide +kernel⟩,
   ⟨(mach 5000000).setBus 63 { cur := some { no := 5 }, adm := some { addr := 3, step := 2, nodeid := 7, nonce := 1, caps := 1 } }, 63, { addr := 3, step := 2, nodeid := 7, nonce := 1, caps := 1 }, by decide +kernel⟩,
   ⟨(mach 5000000).setNode 63 31 { id := 7 }, 63, 31, by decide +kernel⟩⟩

theorem wit_GuardChannelsComplete :
    (∃ (c : _), c < 32) ∧
    (∃ (s : State) (c : _) (v : Int), c < 32 ∧ s.sys.pstate ≠ .off ∧ s.guState c = guON ∧ s.on (GRD_CCFG_ARM c) = true ∧ s.mayRetry c = false ∧ s.checking (guardMon c false) = false ∧ s.on (WIN_MSTS_HICMP (guardMon c false)) = false ∧ s.on (WIN_MSTS_LOCMP (guardMon c false)) = false ∧ thrOf (guardMon c false) (s.g (WIN_MTHR_HI (guardMon c false))) < v ∧ thrOf (guardMon c false) (s.g (WIN_MTHR_LO (guardMon c false))) ≤ v) ∧
    (∃ (s : State) (c : _), c < 32 ∧ s.on (GRD_CCFG_ARM c) = false ∧ (s.gu c).tripE = none) ∧
    (∃ (s : State) (c : _), c < 32 ∧ s.on (GRD_CCFG_ARM c) = true ∧ s.guState c = guON ∧ (s.gu c).excess = false ∧ s.mayRetry c = false ∧ 1000 * s.g (GRD_CELIM_ELIM c) < (s.gu c).fill + s.guInc c (s.gu c).code2 + (s.gu c).hist.sum) ∧
    (∃ (s : State) (c : _), c < 32 ∧ s.Accepts rGRD_CCTL 1#32 ∧ s.awake.on GRD_LOCK_LOCK = true ∧ s.awake.on (GRD_CCFG_ARM c) = true ∧ s.awake.guState c = guOFF ∧ (s.awake.gu c).tripAon ≠ some s.awake.time.aon ∧ s.awake.noTurnOn = false ∧ s.awake.on CLK_STS_XINOK = true ∧ s.awake.on (GRD_CSTS_SELFCHK c) = false ∧ (s.awake.gu c).offReq ≠ some s.awake.time.aon) ∧
    (∃ (s : State) (c : _), c < 32 ∧ s.Accepts rGRD_CCTL 2#32 ∧ s.awake.guState c = guON ∧ (s.awake.gu c).retryAon ≠ some s.awake.time.aon) ∧
    (∃ (s : State) (c : _), c < 32 ∧ s.Accepts rGRD_CCTL 4#32 ∧ s.awake.guState c = guTRIPPED ∧ s.awake.g (GRD_CSTS_TOFFDONE c) ≠ 0 ∧ (s.awake.gu c).tripAon ≠ some s.awake.time.aon) ∧
    (∃ (s : State) (c : _), c < 32 ∧ s.g (GRD_CSTS_TOFFDONE c) = 0 ∧ (s.gu c).tripAt + 1000000 * s.g (GRD_CTOFF_TOFF c) ≤ s.elapsed) ∧
    (∃ (s : State) (c : _), c < 32 ∧ s.guState c = guON ∧ (s.gu c).onAt + 60000000000 ≤ s.elapsed) ∧
    (∃ (s : State) (v : Word), s.Accepts rGRD_TRIPCLR v ∧ s.awake.pinHeld (wbits v 7 0) = false) ∧
    (∃ (s : State), s.Accepts rGRD_LOCK 1#32) :=
  ⟨⟨31, by decide +kernel⟩,
   ⟨flds (mach 5000) [(GRD_CSTS_STATE 31, 1), (GRD_CCFG_ARM 31, 1), (WIN_MTHR_HI 79, 500)], 31, 50001, by decide +kernel⟩,
   ⟨(mach 5000).setVin 79 70000, 31, by decide +kernel⟩,
   ⟨(flds (mach 5000) [(GRD_CSTS_STATE 31, 1), (GRD_CCFG_ARM 31, 1), (GRD_CELIM_ELIM 31, 9)]).setGu 31 { hist := [9001], code1 := (9, 9), code2 := (0, 5), fill := 3 }, 31, by decide +kernel⟩,
   ⟨flds (mach 5000) [(GRD_LOCK_LOCK, 1), (GRD_CCFG_ARM 31, 1), (CLK_STS_XINOK, 1)], 31, by decide +kernel⟩,
   ⟨flds (mach 5000) [(GRD_CSTS_STATE 31, 1)], 31, by decide +kernel⟩,
   ⟨(flds (mach 5000) [(GRD_CSTS_STATE 31, 2), (GRD_CSTS_TOFFDONE 31, 1), (GRD_CSTS_RETRIES 31, 3)]), 31, by decide +kernel⟩,
   ⟨flds (mach 5000000000) [(GRD_CSTS_STATE 31, 3), (GRD_CSTS_TOFFDONE 31, 0), (GRD_CTOFF_TOFF 31, 5000)], 31, by decide +kernel⟩,
   ⟨flds (mach 60000000000) [(GRD_CSTS_STATE 31, 1), (GRD_CSTS_RETRIES 31, 3)], 31, by decide +kernel⟩,
   ⟨flds (mach 5000) [(GRD_TRIPSTS_LATCH, 0xC3), (GRD_CCFG_TRIPMAP 31, 0x40), (GRD_CSTS_STATE 31, 2)], 0x81#32, by decide +kernel⟩,
   ⟨mach 5000, by decide +kernel⟩⟩

theorem wit_LoopsAndMonitorsComplete :
    (∃ (s : State) (x : _) (v : Word), x < 16 ∧ s.Accepts rAFE_LCFG v ∧ (wbits v 2 0 = s.awake.g (AFE_LCFG_MODE x) ∨ s.awake.guActive (16 + x) = false) ∧ ((routesOf v).length = 2 → (routesOf v).getD 0 0 ≠ (routesOf v).getD 1 0) ∧ (routesOf v).any (((List.range 16).filter fun y => y != x).map fun y => routesOf (s.awake.rd (rAFE_LCFG.at y 0))).flatten.contains = false ∧ (wbits v 2 0 = 0 → routesOf v = [])) ∧
    (∃ (s : State) (x : _) (e : _), x < 16 ∧ s.drives x = true ∧ s.on (AFE_LSTS_COMPLIANCE x) = false ∧ s.loopAt x = (1, e) ∧ e + 100000 ≤ s.elapsed) ∧
    (∃ (s : State) (x : _) (e : _), x < 16 ∧ s.drives x = true ∧ s.on (AFE_LSTS_COMPLIANCE x) = true ∧ s.loopAt x = (2, e) ∧ e + 100000 ≤ s.elapsed) ∧
    (∃ (s : State) (x : _) (v : Int), x < 16 ∧ s.drives x = true ∧ (s.loopAt x).1 = 1 ∧ (200 * (1024 * (s.g (AFE_LSET_SET x) : Int) - 250 * v)).natAbs ≤ 1024 * tolOf (s.g (AFE_LSET_SET x))) ∧
    (∃ (m : _), m < 100) ∧
    (∃ (s : State) (m : _) (v : Int), (m < 32 ∨ (96 ≤ m ∧ m < 100)) ∧ s.sys.pstate ≠ .off ∧ s.checking m = false ∧ s.on (WIN_MSTS_HICMP m) = false ∧ thrOf m (s.g (WIN_MTHR_HI m)) < v) ∧
    (∃ (s : State) (v : Word), s.Accepts rWIN_SCCTL v ∧ wbit v 15 = true ∧ s.awake.on WIN_SCSTS_BUSY = false ∧ wbits v 6 0 < 100 ∧ (wbits v 9 8 = 0 → wbits v 6 0 < 32) ∧ (wbits v 9 8 = 1 → s.awake.g (WIN_MTHR_HI (wbits v 6 0)) ≤ 991) ∧ (wbits v 9 8 = 2 → 32 ≤ s.awake.g (WIN_MTHR_LO (wbits v 6 0))) ∧ (match monGuard (wbits v 6 0) with | some (c, _) => s.awake.guActive c | none => false) = false) ∧
    (∃ (s : State), s.on WIN_SCSTS_BUSY = true) ∧
    (∃ (s : State) (m : _), m < 32 ∧ s.grd.edgeAt.get (fun _ => 0) m + 1000000 * s.g (WIN_MSPD_STILL m) ≤ s.elapsed) ∧
    (∃ (s : State), s.sys.vafe = true) ∧
    (∃ (s : State), s.sys.vafe = false) :=
  ⟨⟨flds (mach 5000) [(AFE_LSET_SET 15, 9)], 15, 2#32, by decide +kernel⟩,
   ⟨(flds (mach 200000) [(GRD_CSTS_STATE 31, 1), (AFE_LCFG_MODE 15, 2), (AFE_LSET_SET 15, 20000)]).setLoopAt 15 (1, 100000), 15, 100000, by decide +kernel⟩,
   ⟨((flds (mach 200000) [(GRD_CSTS_STATE 31, 1), (AFE_LCFG_MODE 15, 2), (AFE_LSET_SET 15, 20000), (AFE_LSTS_COMPLIANCE 15, 1)]).setComps 15 [(3, none)]).setLoopAt 15 (2, 100000), 15, 100000, by decide +kernel⟩,
   ⟨(flds (mach 200000) [(GRD_CSTS_STATE 31, 1), (AFE_LCFG_MODE 15, 2), (AFE_LSET_SET 15, 20000)]).setLoopAt 15 (1, 100000), 15, 81520, by decide +kernel⟩,
   ⟨99, by decide +kernel⟩,
   ⟨mach 5000, 31, 5000000, by decide +kernel⟩,
   ⟨flds (mach 5000) [(WIN_MTHR_HI 31, 991)], 0x811F#32, by decide +kernel⟩,
   ⟨flds (mach 5000) [(WIN_SCSTS_BUSY, 1), (WIN_SCSTS_MON, 31), (WIN_SCSTS_KIND, 1)], by decide +kernel⟩,
   ⟨flds (mach 5000000) [(WIN_MSPD_STILL 31, 5)], 31, by decide +kernel⟩,
   ⟨flds (mach 5000) [(GRD_CSTS_STATE 31, 1), (AFE_LCFG_MODE 15, 2), (AFE_LSTS_DRVON 15, 1)], by decide +kernel⟩,
   ⟨let s := mach 5000; { s with sys := { s.sys with vafe := false } }, by decide +kernel⟩⟩

theorem wit_SerialPortsComplete :
    (∃ (s : State) (x : _) (q : SerQS) (rest : List SerQS), x < 8 ∧ (s.sp x).run = none ∧ (s.sp x).again = none ∧ (s.sp x).q = q :: rest ∧ q.retry = false ∧ s.serMaster x = true ∧ s.serRuns x = true ∧ (s.sp x).freeAt ≤ s.elapsed ∧ q.at_.getD 0 ≤ s.ct) ∧
    (∃ (s : State) (x : _) (ws : List Word) (r : SerRS), x < 8 ∧ (s.sp x).run = some r ∧ r.fin ≤ s.elapsed ∧ r.q.tags = [] ∧ r.q.job = none ∧ serChecks r.img (s.runWords x r.img ws) = true) ∧
    (∃ (s : State) (x : _) (ws : List Word) (r : SerRS), x < 8 ∧ (s.sp x).run = some r ∧ r.fin ≤ s.elapsed ∧ r.q.retry = false ∧ serChecks r.img (s.runWords x r.img ws) = false) ∧
    (∃ (s : State) (x : _), x < 8 ∧ s.slaveOn x = true ∧ (s.sp x).words.length < 64) ∧
    (∃ (s : State) (x : _) (n : _), x < 8 ∧ s.slaveOn x = true ∧ 0 < n ∧ n < s.slvBits x ∧ (s.sp x).words.length < 64) :=
  ⟨⟨(flds (mach 5000) [(SER_PCFG_EN 7, 1), (SER_PCS_EN 7, 1)]).setSp 7 { q := [{ tpl := 3, at_ := some 5000 }] }, 7, { tpl := 3, at_ := some 5000 }, [], by decide +kernel⟩,
   ⟨(mach 5000).setSp 7 { run := some { q := { tpl := 3, retry := true }, img := [], ct := 4, fin := 5000 } }, 7, [], { q := { tpl := 3, retry := true }, img := [], ct := 4, fin := 5000 }, by decide +kernel⟩,
   ⟨(mach 5000).setSp 7 { run := some { q := { tpl := 3 }, img := [0, 0, 0, 1, 0, 1], ct := 4, fin := 5000 } }, 7, [], { q := { tpl := 3 }, img := [0, 0, 0, 1, 0, 1], ct := 4, fin := 5000 }, by decide +kernel⟩,
   ⟨flds (mach 5000) [(SER_PCFG_EN 7, 1), (SER_PCFG_ROLE 7, 1)], 7, by decide +kernel⟩,
   ⟨flds (mach 5000) [(SER_PCFG_EN 7, 1), (SER_PCFG_ROLE 7, 1)], 7, 7, by decide +kernel⟩⟩

theorem wit_MemoryCompletes :
    (∃ (s : State) (k : _) (ln : Nat × List Nat), s.awake.stopped MEM_ERRSTS = false ∧ s.awake.winRefused (s.awake.apAddr k) = none ∧ s.awake.mem.run = none ∧ s.awake.mem.lines.find? (fun l => l.1 == s.awake.apAddr k / 64 * 64) = some ln) ∧
    (∃ (s : State) (k : _), s.awake.stopped MEM_ERRSTS = false ∧ s.awake.winRefused (s.awake.apAddr k) = none ∧ s.awake.mem.run = none ∧ s.awake.vioOn 0 = true ∧ s.awake.mem.lines.find? (fun l => l.1 == s.awake.apAddr k / 64 * 64) = none) ∧
    (∃ (s : State) (k : _) (r : MemRunS), s.awake.stopped MEM_ERRSTS = false ∧ s.awake.winRefused (s.awake.apAddr k) = none ∧ s.awake.mem.run = some r) ∧
    (∃ (s : State) (k : _) (v : Word), s.Accepts rMEM_AP v ∧ s.awake.winRefused (s.awake.apAddr k) = none ∧ s.awake.mem.page = none) ∧
    (∃ (s : State) (v : Word), s.Accepts rMEM_FLUSH v ∧ wbit v 0 = true) ∧
    (∃ (s : State) (st : _) (r : MemRunS), s.mem.run = some r ∧ r.next ≤ s.elapsed ∧ s.on MEM_STS_XIPACT = false ∧ s.vioOn 0 = true ∧ nbit st (s.g MEM_XIPCFG_BUSYBIT) = true) ∧
    (∃ (s : State) (st : _) (r : MemRunS), s.mem.run = some r ∧ r.next ≤ s.elapsed ∧ s.on MEM_STS_XIPACT = false ∧ s.vioOn 0 = true ∧ nbit st (s.g MEM_XIPCFG_BUSYBIT) = false ∧ s.on MEM_CFG_VERIFY = false) ∧
    (∃ (s : State) (v : Word), s.Accepts rMEM_RAWCMD v ∧ s.awake.on MEM_CFG_EN = true ∧ s.awake.mem.rawBusy = false) ∧
    (∃ (s : State) (p : PageS), s.mem.page = some p ∧ p.at_ + 100000 ≤ s.elapsed) ∧
    (∃ (s : State) (r : MemRunS), s.mem.run = some r ∧ r.since + s.g MEM_PROGCFG_PROGTO * 1000 ≤ s.elapsed) ∧
    (∃ (s : State) (r : MemRunS), s.mem.run = some r ∧ s.elapsed < r.since + s.g MEM_PROGCFG_PROGTO * 1000) :=
  ⟨⟨(flds (mach 5000) [(MEM_CFG_EN, 1)]).setMem { lines := [(0, [1, 2, 3, 4, 5, 6, 7, 8])] }, 1, (0, [1, 2, 3, 4, 5, 6, 7, 8]), by decide +kernel⟩,
   ⟨flds (mach 5000) [(MEM_CFG_EN, 1)], 1023, by decide +kernel⟩,
   ⟨(flds (mach 5000) [(MEM_CFG_EN, 1)]).setMem { run := some { op := .raw 0#32 0 0 0, since := 0, next := 0 } }, 1023, { op := .raw 0#32 0 0 0, since := 0, next := 0 }, by decide +kernel⟩,
   ⟨flds (mach 5000) [(MEM_CFG_EN, 1)], 1023, 0x12345678#32, by decide +kernel⟩,
   ⟨(flds (mach 5000) [(MEM_CFG_EN, 1)]).setMem { page := some { addr := 0, bytes := [(0, 1)], at_ := 0, off := 0 } }, 1#32, by decide +kernel⟩,
   ⟨(flds (mach 5000) [(MEM_CFG_EN, 1)]).setMem { run := some { op := .raw 0#32 0 0 0, since := 0, next := 5000 } }, 1, { op := .raw 0#32 0 0 0, since := 0, next := 5000 }, by decide +kernel⟩,
   ⟨(flds (mach 5000) [(MEM_CFG_EN, 1), (MEM_CFG_VERIFY, 0)]).setMem { run := some { op := .prog { addr := 0, bytes := [(0, 1)], at_ := 0, off := 0 }, since := 0, next := 5000 } }, 0, { op := .prog { addr := 0, bytes := [(0, 1)], at_ := 0, off := 0 }, since := 0, next := 5000 }, by decide +kernel⟩,
   ⟨flds (mach 5000) [(MEM_CFG_EN, 1)], 0x6#32, by decide +kernel⟩,
   ⟨(flds (mach 105000) [(MEM_CFG_EN, 1)]).setMem { page := some { addr := 0, bytes := [(0, 1)], at_ := 5000, off := 0 } }, { addr := 0, bytes := [(0, 1)], at_ := 5000, off := 0 }, by decide +kernel⟩,
   ⟨(flds (mach 5000) [(MEM_CFG_EN, 1), (MEM_PROGCFG_PROGTO, 5)]).setMem { run := some { op := .raw 0#32 0 0 0, since := 0, next := 0 }, waits := [{ addr := 0, line := [], next := [], at_ := 3 }] }, { op := .raw 0#32 0 0 0, since := 0, next := 0 }, by decide +kernel⟩,
   ⟨(flds (mach 5000) [(MEM_CFG_EN, 1), (MEM_PROGCFG_PROGTO, 5)]).setMem { run := some { op := .raw 0#32 0 0 0, since := 1, next := 0 }, waits := [{ addr := 0, line := [], next := [], at_ := 0 }, { addr := 8, line := [], next := [], at_ := 3 }] }, { op := .raw 0#32 0 0 0, since := 1, next := 0 }, by decide +kernel⟩⟩

theorem wit_CanPortsComplete :
    (∃ (s : State) (x : _) (w : _), x < 8 ∧ s.canOn x = true ∧ s.vioOn x = true ∧ wbit w 30 = true ∧ s.on (CAN_PCFG_FDEN x) = false ∧ s.g (CAN_PSTS_ERRSTATE x) = 0 ∧ s.g (CAN_PCFG_OPMODE x) = 0) ∧
    (∃ (s : State) (x : _) (w : _), x < 8 ∧ s.canOn x = true ∧ s.vioOn x = true ∧ (wbit w 30 = false ∨ s.on (CAN_PCFG_FDEN x) = true) ∧ (s.can x).rec_ ≤ 127) ∧
    (∃ (s : State) (x : _) (lat : _) (f : CanTxS), x < 8 ∧ s.canSends x = true ∧ canFirst ((s.can x).pend.filter fun t => t.at_ + lat ≤ s.elapsed) = some f ∧ f.mb < 64) ∧
    (∃ (s : State) (x : _) (lat : _) (f : CanTxS), x < 8 ∧ s.canSends x = true ∧ canFirst ((s.can x).pend.filter fun t => t.at_ + lat ≤ s.elapsed) = some f ∧ f.retry = false) ∧
    (∃ (s : State) (x : _) (y : _) (f : CanTxS), x < 8 ∧ y < 64 ∧ (s.can x).pend.find? (fun t => t.mb == y) = some f ∧ f.at_ + s.g (CAN_MBTXTO x y) * 1000000 ≤ s.elapsed) ∧
    (∃ (s : State) (x : _), x < 8 ∧ 256 ≤ (s.can x).tec ∧ s.g (CAN_PSTS_ERRSTATE x) ≠ 2 ∧ (s.can x).pend.all (fun f => decide (f.mb < 64)) = true) ∧
    (∃ (s : State) (x : _), x < 8 ∧ s.on (CAN_PSTS_RECOVERING x) = true) ∧
    (∃ (s : State) (x : _) (v : Word), x < 8 ∧ s.Accepts rCAN_PCTL v ∧ wbit v 0 = true ∧ s.awake.g (CAN_PSTS_ERRSTATE x) = 2) ∧
    (∃ (s : State) (x : _) (v : Word), x < 8 ∧ s.Accepts rCAN_PFIFOPOP v ∧ wbit v 0 = true) ∧
    (∃ (s : State) (x : _), x < 8 ∧ s.on (CAN_PCFG_WAKEEN x) = true ∧ s.canStandby x = true ∧ s.vioOn x = true) ∧
    (∃ (s : State) (x : _), x < 8 ∧ s.canOn x = true) :=
  ⟨⟨(flds (mach 5000) [(CAN_PCFG_EN 7, 1)]).setCan 7 { rec_ := 255 }, 7, 0x40000123#32, by decide +kernel⟩,
   ⟨(flds (mach 5000) [(CAN_PCFG_EN 7, 1), (CAN_PCFG_FDEN 7, 1)]).setCan 7 { rec_ := 127 }, 7, 0x40000123#32, by decide +kernel⟩,
   ⟨(flds (mach 5000) [(CAN_PCFG_EN 7, 1), (CAN_MBSTS_PENDING 7 63, 1)]).setCan 7 { tec := 9, pend := [{ mb := 63, id := 5, data := [1], job := { src := 0, remote := false, tid := 0, ref := 0 }, at_ := 4000 }] }, 7, 1000, { mb := 63, id := 5, data := [1], job := { src := 0, remote := false, tid := 0, ref := 0 }, at_ := 4000 }, by decide +kernel⟩,
   ⟨(flds (mach 5000) [(CAN_PCFG_EN 7, 1), (CAN_MBSTS_PENDING 7 63, 1)]).setCan 7 { tec := 9, pend := [{ mb := 63, id := 5, data := [1], job := { src := 0, remote := false, tid := 0, ref := 0 }, at_ := 4000 }] }, 7, 1000, { mb := 63, id := 5, data := [1], job := { src := 0, remote := false, tid := 0, ref := 0 }, at_ := 4000 }, by decide +kernel⟩,
   ⟨(flds (mach 5004000) [(CAN_PCFG_EN 7, 1), (CAN_MBSTS_PENDING 7 63, 1), (CAN_MBTXTO 7 63, 5)]).setCan 7 { pend := [{ mb := 63, id := 5, data := [1], job := { src := 0, remote := false, tid := 0, ref := 0 }, at_ := 4000 }] }, 7, 63, { mb := 63, id := 5, data := [1], job := { src := 0, remote := false, tid := 0, ref := 0 }, at_ := 4000 }, by decide +kernel⟩,
   ⟨(flds (mach 5000) [(CAN_PCFG_EN 7, 1), (CAN_PCFG_AUTOREC 7, 1)]).setCan 7 { tec := 256, pend := [{ mb := 63, id := 5, data := [1], job := { src := 0, remote := false, tid := 0, ref := 0 }, at_ := 4000 }] }, 7, by decide +kernel⟩,
   ⟨(flds (mach 5000) [(CAN_PSTS_RECOVERING 7, 1), (CAN_PSTS_ERRSTATE 7, 2), (CAN_PSTS_REC 7, 3)]).setCan 7 { tec := 256 }, 7, by decide +kernel⟩,
   ⟨flds (mach 5000) [(CAN_PSTS_ERRSTATE 7, 2)], 7, 1#32, by decide +kernel⟩,
   ⟨(mach 5000).setCan 7 { fifo := [([1], 2), ([3], 4)] }, 7, 1#32, by decide +kernel⟩,
   ⟨flds (mach 5000) [(CAN_PCFG_WAKEEN 7, 1)], 7, by decide +kernel⟩,
   ⟨(flds (mach 5000) [(CAN_PCFG_EN 7, 1)]).setCan 7 { rec_ := 120 }, 7, by decide +kernel⟩⟩

theorem wit_FieldJobsComplete :
    (∃ (s : State) (j : _) (e : EntS), s.Takes 0x20 j ∧ ((s.begun j).createCheck j.id.tid j.desc).toOption = some e) ∧
    (∃ (s : State) (j : _) (e : _), s.Takes 0x21 j ∧ ((s.begun j).entFor j.id.tid (dBody j.desc 0 4)).toOption = some e) ∧
    (∃ (s : State) (j : _) (e : _), s.Takes 0x22 j ∧ ((s.begun j).passMissed.entFor j.id.tid (dBody j.desc 0 4)).toOption = some e) ∧
    (∃ (s : State) (j : _) (e : _), s.Takes 0x23 j ∧ dBody j.desc 0 4 < 2 ^ 31 ∧ ((s.begun j).entFor j.id.tid (dBody j.desc 0 4)).toOption = some e ∧ e.kind = ekBURST) ∧
    (∃ (s : State) (j : _) (e : _) (l : List EntS), s.Takes 0x23 j ∧ 2 ^ 31 ≤ dBody j.desc 0 4 ∧ (s.begun j).members j.id.tid (dBody j.desc 0 4 % 256) = e :: l ∧ e.kind = ekBURST) ∧
    (∃ (s : State) (j : _) (e : _), s.Takes 0x30 j ∧ dBody j.desc 0 1 < 16 ∧ s.loopEp (dBody j.desc 0 1) = some e ∧ s.owns j.id.tid e = true ∧ (s.begun j).loopSetCheck (dBody j.desc 0 1) (dBody j.desc 4 4) = none) ∧
    (∃ (s : State) (j : _) (x : _) (y : _), s.Takes 0x32 j ∧ x = dBody j.desc 0 1 ∧ y = dBody j.desc 1 1 ∧ x < 8 ∧ y < 64 ∧ s.owns j.id.tid (s.g (CAN_MBEP x y)) = true ∧ canLenOk (s.on (CAN_MBCFG_FDF x y)) (dBody j.desc 2 1) = true ∧ (s.can x).pend.any (fun t => t.mb == y) = false ∧ s.g (CAN_PCFG_OPMODE x) ≠ 1 ∧ s.on (CAN_PCFG_EN x) = true ∧ s.g (CAN_MBCFG_MODE x y) = 2 ∧ (s.on (CAN_MBCFG_FDF x y) = true → s.on (CAN_PCFG_FDEN x) = true) ∧ s.canRuns x = true) ∧
    (∃ (s : State) (j : _) (n : _), s.Takes 0x31 j ∧ n = dBody j.desc 0 2 ∧ n < 1024 ∧ s.serOwner j = none ∧ (s.tpl n).isEmpty = false ∧ dBody j.desc 2 2 ≤ 256 ∧ s.serMaster (tpPort (s.tpl n)) = true ∧ s.serRuns (tpPort (s.tpl n)) = true ∧ (s.sp (tpPort (s.tpl n))).q.length < 16) ∧
    (∃ (s : State) (j : _) (b : _) (a : _) (c : NcmdS) (q : List Nat), s.Takes 0x2C j ∧ s.nodeIssuer j = none ∧ 9 ≤ dBody j.desc 4 1 ∧ dBody j.desc 4 1 ≤ 0x0C ∧ (s.ep (dBody j.desc 0 4 % 131072)).src = srcCOURSE ∧ s.busOf (s.ep (dBody j.desc 0 4 % 131072)).nodeid = some (b, a) ∧ q = (if dBody j.desc 4 1 = 9 then toLe 2 (dBody j.desc 6 2) ++ toLe 2 (dBody j.desc 5 1) else if dBody j.desc 4 1 = 0x0A then toLe 2 (dBody j.desc 6 2) ++ toLe 2 (dBody j.desc 5 1) ++ padTo (dBody j.desc 5 1) j.args else []) ∧ c = { opc := dBody j.desc 4 1, who := 2, job := some j.id, param := q } ∧ 20 + replyLen c ≤ s.g (CRS_NSLOTLEN b a)) ∧
    (∃ (s : State) (j : _), s.Takes 0x28 j ∧ ((s.begun j).ep (dBody j.desc 0 4 % 131072)).src ≠ 0 ∧ ((s.begun j).mayName j.id.tid (dBody j.desc 0 4 % 131072) = true ∨ isT0 j.id.tid = true)) :=
  ⟨⟨placed (flds ((mach 5000).setEp 5 { src := srcWHEEL }) [(WIN_MCFG_SPDEN 0, 1)]) (job 0 0x20 ([2, 3, 0, 0] ++ [5, 0, 0, 0] ++ toLe 8 900000 ++ List.replicate 32 0) []), job 0 0x20 ([2, 3, 0, 0] ++ [5, 0, 0, 0] ++ toLe 8 900000 ++ List.replicate 32 0) [], { idx := 0, tid := 0, kind := 2, src := 3, cls := 0, group := 0, target := 5, start := 900000, period := 0, count := 0, lead := 0, select := 0, trig := 0, eps := [5], cost := 0 }, by decide +kernel⟩,
   ⟨placed (sched (mach 5000)) (job 0 0x21 [3, 0, 0, 0] []), job 0 0x21 [3, 0, 0, 0] [], burst, by decide +kernel⟩,
   ⟨placed (sched (mach 5000)) (job 0 0x22 [3, 0, 0, 0] []), job 0 0x22 [3, 0, 0, 0] [], burst, by decide +kernel⟩,
   ⟨placed (sched (mach 5000)) (job 0 0x23 [3, 0, 0, 0] []), job 0 0x23 [3, 0, 0, 0] [], burst, by decide +kernel⟩,
   ⟨placed (sched (mach 5000)) (job 0 0x23 [9, 0, 0, 128] []), job 0 0x23 [9, 0, 0, 128] [], burst, [], by decide +kernel⟩,
   ⟨placed (flds ((mach 5000).setEp 5 { src := srcMASHCH, loc := 77 }) [(AFE_LCFG_MODE 15, 2), (AFE_LCFG_IMCH 15, 77), (GRD_CILIM_IHI 31, 1023), (GRD_CIFS_IFS 31, 25000)]) (job 0 0x30 [15, 0, 0, 0, 100, 0, 0, 0] []), job 0 0x30 [15, 0, 0, 0, 100, 0, 0, 0] [], 5, by decide +kernel⟩,
   ⟨placed (flds (mach 5000) [(CAN_PCFG_EN 7, 1), (CAN_MBCFG_MODE 7 63, 2)]) (job 0 0x32 [7, 63, 8, 0] []), job 0 0x32 [7, 63, 8, 0] [], 7, 63, by decide +kernel⟩,
   ⟨(placed (flds { mach 5000 with ser := { (mach 5000).ser with tpls := (mach 5000).ser.tpls.set (fun _ => []) 1023 [7, 0, 0, 0, 0, 0, 0, 0] } } [(SER_PCFG_EN 7, 1)]) (job 0 0x31 [255, 3, 0, 1] [])), job 0 0x31 [255, 3, 0, 1] [], 1023, by decide +kernel⟩,
   ⟨placed (flds (((mach 5000).setEp 5 { src := srcCOURSE, nodeid := 7 }).setNode 63 31 { id := 7, done := true }) [(CRS_NSLOTLEN 63 31, 64)]) (job 0 0x2C [5, 0, 0, 0, 9, 4, 2, 0] []), job 0 0x2C [5, 0, 0, 0, 9, 4, 2, 0] [], 63, 31, { opc := 9, who := 2, job := some { src := 0, remote := false, tid := 0, ref := 1 }, param := [2, 0, 4, 0] }, [2, 0, 4, 0], by decide +kernel⟩,
   ⟨placed ((mach 5000).setEp 131071 { src := srcCOURSE, nodeid := 7 }) (job 0 0x28 [255, 255, 1, 0] []), job 0 0x28 [255, 255, 1, 0] [], by decide +kernel⟩⟩

theorem wit_RingJobsComplete :
    (∃ (s : State) (j : _), s.Takes 0x01 j) ∧
    (∃ (s : State) (j : _), s.Takes 0x02 j) ∧
    (∃ (s : State) (j : _), s.Takes 0x10 j ∧ (s.begun j).openFails j = none) ∧
    (∃ (s : State) (j : _) (st : _), s.Takes 0x11 j ∧ s.openerCheck j = none ∧ (s.begun j).streamAt j = some st) ∧
    (∃ (s : State) (w : State) (j : _) (st : _), s.coreRuns = true ∧ w = s.allMarks ∧ w.Takes 0x12 j ∧ s.openerCheck j = none ∧ (w.begun j).streamAt j = some st ∧ (j.id.remote = true ∨ ((w.begun j).cr st.tid st.ring).state = rsRUNNING) ∧ dBody j.desc 8 8 ≤ w.ct) ∧
    (∃ (s : State) (w : State) (j : _) (st : _), s.coreRuns = true ∧ w = s.allMarks ∧ w.Takes 0x12 j ∧ s.openerCheck j = none ∧ (w.begun j).streamAt j = some st ∧ (j.id.remote = true ∨ ((w.begun j).cr st.tid st.ring).state = rsRUNNING) ∧ w.ct < dBody j.desc 8 8) ∧
    (∃ (s : State) (j : _) (t : _) (r : _), s.Takes 0x18 j ∧ t = j.id.tid ∧ r = dBody j.desc 0 1 ∧ (s.cr t r).state = rsSTOPPED ∧ 4 ≤ dBody j.desc 2 1 ∧ dBody j.desc 2 1 ≤ 16 ∧ 256 ≤ dBody j.desc 4 4 ∧ dBody j.desc 4 4 ≤ 65536 ∧ 10 ≤ dBody j.desc 8 4 ∧ dBody j.desc 8 4 ≤ 1000000 ∧ 256 ≤ dBody j.desc 12 4 ∧ dBody j.desc 12 4 ≤ dBody j.desc 4 4 ∧ dBody j.desc 16 8 % 4096 = 0 ∧ s.largestRec t r + 80 ≤ dBody j.desc 4 4 ∧ (nbit (dBody j.desc 1 1) 0 = true → (s.ctx t).key ≠ [])) ∧
    (∃ (s : State) (j : _) (t : _) (r : _), s.Takes 0x18 j ∧ t = j.id.tid ∧ r = dBody j.desc 0 1 ∧ (s.cr t r).state = rsSTOPPED ∧ 4 ≤ dBody j.desc 2 1 ∧ dBody j.desc 2 1 ≤ 16 ∧ dBody j.desc 4 4 = 0 ∧ dBody j.desc 8 4 = 0 ∧ dBody j.desc 12 4 = 0 ∧ dBody j.desc 16 8 % 4096 = 0 ∧ s.largestRec t r + 80 ≤ 16384 ∧ nbit (dBody j.desc 1 1) 0 = false) ∧
    (∃ (s : State) (j : _) (w : State), s.Takes 0x19 j ∧ ((s.begun j).cr j.id.tid (dBody j.desc 0 1)).state = rsRUNNING ∧ w = (s.begun j).closeCask ((s.begun j).ctx j.id.tid).uid (dBody j.desc 0 1) clSTOP) ∧
    (∃ (s : State) (j : _) (t : _) (r : _), s.Takes 0x1A j ∧ t = j.id.tid ∧ r = dBody j.desc 0 1 ∧ (s.cr t r).state = rsHALTED ∧ (s.cr t r).voidDue = false) ∧
    (∃ (s : State) (j : _), s.Takes 0x1B j ∧ ((s.begun j).cr j.id.tid (dBody j.desc 0 1)).state = rsRUNNING) ∧
    (∃ (s : State) (j : _) (q : CRingS) (b : List Nat), s.Takes 0x1C j ∧ q = s.cr j.id.tid (dBody j.desc 0 1) ∧ b = [q.state, b2n q.sealed, q.ord, 0] ++ toLe 4 q.size ++ toLe 8 q.nextSeq ++ toLe 4 q.lost ++ toLe 4 ((s.rng.held.filter fun c => c.uid == j.uid && c.ring == dBody j.desc 0 1).map CaskS.len).sum ++ toLe 4 q.age ++ toLe 4 q.cut) :=
  ⟨⟨placed (mach 5000) (job 0 1 [] []), job 0 1 [] [], by decide +kernel⟩,
   ⟨placed (mach 5000) (job 0 2 [] []), job 0 2 [] [], by decide +kernel⟩,
   ⟨placed (((mach 5000).setEp 5 { src := srcCOURSE, nodeid := 7, ctl := 1 }).setCr 0 1 { started := true }) (job 0 0x10 [5, 0, 0, 0, 1, 0, 1, 0, 100, 0, 0, 0] []), job 0 0x10 [5, 0, 0, 0, 1, 0, 1, 0, 100, 0, 0, 0] [], by decide +kernel⟩,
   ⟨placed (withStream (mach 5000)) (job 0 0x11 [4, 0, 0, 0] []), job 0 0x11 [4, 0, 0, 0] [], strm, by decide +kernel⟩,
   ⟨(placed (withStream (mach 5000)) (job 0 0x12 [4, 0, 0, 0] [])).setCr 0 1 { state := 1 }, (placed (withStream (mach 5000)) (job 0 0x12 [4, 0, 0, 0] [])).setCr 0 1 { state := 1 }, job 0 0x12 [4, 0, 0, 0] [], strm, by decide +kernel⟩,
   ⟨(placed (withStream (mach 5000)) (job 0 0x12 [4, 0, 0, 0, 1, 2, 3, 4, 0, 0, 1, 0, 0, 0, 0, 0] [])).setCr 0 1 { state := 1 }, (placed (withStream (mach 5000)) (job 0 0x12 [4, 0, 0, 0, 1, 2, 3, 4, 0, 0, 1, 0, 0, 0, 0, 0] [])).setCr 0 1 { state := 1 }, job 0 0x12 [4, 0, 0, 0, 1, 2, 3, 4, 0, 0, 1, 0, 0, 0, 0, 0] [], strm, by decide +kernel⟩,
   ⟨placed (mach 5000) (job 0 0x18 ([7, 0, 16, 0] ++ toLe 4 65536 ++ toLe 4 1000000 ++ toLe 4 65536 ++ toLe 8 4096) []), job 0 0x18 ([7, 0, 16, 0] ++ toLe 4 65536 ++ toLe 4 1000000 ++ toLe 4 65536 ++ toLe 8 4096) [], 0, 7, by decide +kernel⟩,
   ⟨placed (mach 5000) (job 0 0x18 ([7, 0, 4, 0] ++ toLe 4 0 ++ toLe 4 0 ++ toLe 4 0 ++ toLe 8 0) []), job 0 0x18 ([7, 0, 4, 0] ++ toLe 4 0 ++ toLe 4 0 ++ toLe 4 0 ++ toLe 8 0) [], 0, 7, by decide +kernel⟩,
   ⟨(placed (mach 5000) (job 0 0x19 [7] [])).setCr 0 7 { state := 1 }, job 0 0x19 [7] [], let u := ((placed (mach 5000) (job 0 0x19 [7] [])).setCr 0 7 { state := 1 }).begun (job 0 0x19 [7] []); u.closeCask (u.ctx 0).uid 7 clSTOP, by decide +kernel⟩,
   ⟨(placed (mach 5000) (job 0 0x1A [7] [])).setCr 0 7 { state := 2, failed := true }, job 0 0x1A [7] [], 0, 7, by decide +kernel⟩,
   ⟨(placed (mach 5000) (job 0 0x1B [7] [])).setCr 0 7 { state := 1 }, job 0 0x1B [7] [], by decide +kernel⟩,
   ⟨(placed (mach 5000) (job 0 0x1C [7] [])).setCr 0 7 { state := 1 }, job 0 0x1C [7] [], { state := 1 }, [1, 0, 4, 0] ++ toLe 4 16384 ++ toLe 8 0 ++ toLe 4 0 ++ toLe 4 0 ++ toLe 4 10000 ++ toLe 4 1024, by decide +kernel⟩⟩

theorem wit_EngineJobsComplete :
    (∃ (s : State) (j : _), s.Takes 0x38 j ∧ s.mashOwner j = none ∧ (s.begun j).mashCheck (dBody j.desc 0 2) (dBody j.desc 2 1) .freeze = none) ∧
    (∃ (s : State) (j : _), s.Takes 0x39 j ∧ s.mashOwner j = none ∧ (s.begun j).mashCheck (dBody j.desc 0 2) (dBody j.desc 2 1) .thaw = none) ∧
    (∃ (s : State) (j : _) (c : MashCmd), s.Takes 0x3A j ∧ c = MashCmd.switch (dBody j.desc 4 2) (dBody j.desc 3 1) ∧ s.mashOwner j = none ∧ (s.begun j).mashCheck (dBody j.desc 0 2) (dBody j.desc 2 1) c = none) ∧
    (∃ (s : State) (j : _), s.Takes 0x3B j ∧ ((List.range 16).filter (nbit (dBody j.desc 0 2))).any (fun p => !(s.begun j).reachable p) = false) ∧
    (∃ (s : State) (j : _) (x : InstS) (n : _) (e : _), s.Takes 0x40 j ∧ ((s.begun j).instCheck j.id.tid j.args).toOption = some (x, n, e)) ∧
    (∃ (s : State) (j : _) (n : _) (x : _), s.Takes 0x41 j ∧ (s.begun j).instFor j = some (n, x) ∧ (j.id.tid = x.owner ∨ isT0 j.id.tid = true) ∧ (s.begun j).feedsOther n x = false) ∧
    (∃ (s : State) (j : _) (n : _) (x : _), s.Takes 0x42 j ∧ (s.begun j).instFor j = some (n, x) ∧ j.id.tid = x.owner) ∧
    (∃ (s : State) (j : _) (n : _) (x : _), s.Takes 0x43 j ∧ (s.begun j).instFor j = some (n, x) ∧ j.id.tid = x.owner ∧ (List.range 16).any (fun k => decide (mtPars ((s.begun j).mtab x.mt) ≤ k) && leAt j.args (4 * k) 4 != 0) = false) ∧
    (∃ (s : State) (j : _) (n : _) (x : _), s.Takes 0x44 j ∧ (s.begun j).instFor j = some (n, x) ∧ j.id.tid = x.owner) :=
  ⟨⟨placed (((mach 5000).setEp 5 { src := srcMASHCH, loc := 77 }).setCh 77 { state := msRUN, stg := [0x10000000#32, 0, 0, 0, 0, 0] }) (job 0 0x38 [77, 0, 0] []), job 0 0x38 [77, 0, 0] [], by decide +kernel⟩,
   ⟨placed (((mach 5000).setEp 5 { src := srcMASHCH, loc := 77 }).setCh 77 { state := msRUN, stg := [0x10000000#32, 0, 0, 0, 0, 0] }) (job 0 0x39 [77, 0, 0] []), job 0 0x39 [77, 0, 0] [], by decide +kernel⟩,
   ⟨placed (withSet (((mach 5000).setEp 5 { src := srcMASHCH, loc := 77 }).setCh 77 { state := msRUN, stg := [0x40000000#32, 0, 0, 0, 0, 0], stgs := [{}] }) 511 [1]) (job 0 0x3A [77, 0, 0, 10, 255, 1] []), job 0 0x3A [77, 0, 0, 10, 255, 1] [], .switch 511 10, by decide +kernel⟩,
   ⟨placed (mach 5000) (job 0 0x3B ([1, 0, 0, 0, 0, 0, 0, 0] ++ toLe 8 9000) []), job 0 0x3B ([1, 0, 0, 0, 0, 0, 0, 0] ++ toLe 8 9000) [], by decide +kernel⟩,
   ⟨placed { mach 5000 with rcg := { (mach 5000).rcg with tables := (mach 5000).rcg.tables.set (fun _ => []) 0 [1, 0, 0, 0, 0, 0, 0, 0, 32, 0] } } (job 0 0x40 [] (List.replicate 128 0)), job 0 0x40 [] (List.replicate 128 0), { mt := 0, cls := 0, watch := false, owner := 0, ins := List.replicate 8 none, tgts := [0, 0, 0, 0], pars := List.replicate 16 0 }, 0, 0, by decide +kernel⟩,
   ⟨placed (withInst (mach 5000)) (job 0 0x41 [2, 0, 0, 0] []), job 0 0x41 [2, 0, 0, 0] [], 2, recog, by decide +kernel⟩,
   ⟨placed (withInst (mach 5000)) (job 0 0x42 [2, 0, 0, 0] []), job 0 0x42 [2, 0, 0, 0] [], 2, recog, by decide +kernel⟩,
   ⟨placed (withInst (mach 5000)) (job 0 0x43 [2, 0, 0, 0] (List.replicate 64 0)), job 0 0x43 [2, 0, 0, 0] (List.replicate 64 0), 2, recog, by decide +kernel⟩,
   ⟨placed (withInst (mach 5000)) (job 0 0x44 [2, 0, 0, 0] []), job 0 0x44 [2, 0, 0, 0] [], 2, recog, by decide +kernel⟩⟩

theorem wit_TenantJobsComplete :
    (∃ (s : State) (j : _), s.TenFree ∧ s.Takes 0x50 j ∧ s.fromKeystone j.id.src j.id.tid = true ∧ (s.begun j).createRefuses j.args = none ∧ (s.begun j).Spreads 1 (j.args.take 64)) ∧
    (∃ (s : State) (j : _), s.TenFree ∧ s.Takes 0x51 j ∧ s.fromKeystone j.id.src j.id.tid = true ∧ (s.begun j).changeRefuses j.args = none ∧ (s.begun j).Spreads 1 (j.args.take 64)) ∧
    (∃ (s : State) (w : State) (j : _), w = s.endAll ∧ w.TenFree ∧ w.Takes 0x52 j ∧ w.fromKeystone j.id.src j.id.tid = true ∧ (w.begun j).endRefuses (dBody j.desc 0 2) = none ∧ (w.begun j).Spreads 3 (toLe 2 (dBody j.desc 0 2) ++ [dBody j.desc 2 1])) ∧
    (∃ (s : State) (w : State) (j : _), w = s.endAll ∧ w.TenFree ∧ w.Takes 0x53 j ∧ (isT0 j.id.tid = true → w.fromKeystone j.id.src j.id.tid = true) ∧ (w.begun j).endRefuses (dBody j.desc 0 2) = none ∧ (w.begun j).Spreads 4 (toLe 2 (dBody j.desc 0 2) ++ [0])) ∧
    (∃ (s : State) (j : _) (b : List Nat), s.TenFree ∧ s.Takes 0x54 j ∧ s.fromKeystone j.id.src j.id.tid = true ∧ b = (List.range 24).map (fun k => dBody j.desc k 1) ∧ (s.begun j).bindFails b = none ∧ (s.begun j).Spreads 2 b) ∧
    (∃ (s : State) (j : _), s.Takes 0x55 j ∧ (isT0 j.id.tid && !s.fromKeystone j.id.src j.id.tid) = false ∧ (s.begun j).grantFails j = none) ∧
    (∃ (s : State) (j : _) (l : LeaseS), s.Takes 0x56 j ∧ s.leaseFor j = some l ∧ (l.grantor = j.id.tid ∨ l.grantee = j.id.tid ∨ s.fromKeystone j.id.src j.id.tid = true)) ∧
    (∃ (s : State) (j : _) (key : List Nat) (gen : _), s.Takes 0x57 j ∧ key = (List.range 16).map (fun k => dBody j.desc k 1) ∧ gen = dBody j.desc 16 1 ∧ key.all (fun b => b == 0) = false ∧ gen ≠ 0 ∧ gen ≠ (s.ctx j.id.tid).keygen ∧ s.on NVS_RGN3_WORN = false) :=
  ⟨⟨placed { key 5000 with sys := { (key 5000).sys with hostLink := true } } (job 0 0x50 [] ([255, 3, 0, 0, 0, 0, 0, 0, 9] ++ List.replicate 55 0)), job 0 0x50 [] ([255, 3, 0, 0, 0, 0, 0, 0, 9] ++ List.replicate 55 0), by decide +kernel⟩,
   ⟨placed (ctxd (key 5000) 1023 { state := 1, uid := 9 }) (job 0 0x51 [] ([255, 3, 0, 0, 0, 0, 0, 0, 9] ++ List.replicate 55 0)), job 0 0x51 [] ([255, 3, 0, 0, 0, 0, 0, 0, 9] ++ List.replicate 55 0), by decide +kernel⟩,
   ⟨placed (ctxd (key 5000) 1023 { state := 1, uid := 9 }) (job 0 0x52 [255, 3, 1] []), placed (ctxd (key 5000) 1023 { state := 1, uid := 9 }) (job 0 0x52 [255, 3, 1] []), job 0 0x52 [255, 3, 1] [], by decide +kernel⟩,
   ⟨placed (ctxd (key 5000) 1023 { state := 1, uid := 9 }) (job 0 0x53 [255, 3] []), placed (ctxd (key 5000) 1023 { state := 1, uid := 9 }) (job 0 0x53 [255, 3] []), job 0 0x53 [255, 3] [], by decide +kernel⟩,
   ⟨placed (ctxd (key 5000) 1023 { state := 1, uid := 9 }) (job 0 0x54 ([2, 0, 0, 0, 0, 0, 0, 0, 9, 0, 0, 0, 0, 0, 0, 0, 9] ++ List.replicate 7 0) []), job 0 0x54 ([2, 0, 0, 0, 0, 0, 0, 0, 9, 0, 0, 0, 0, 0, 0, 0, 9] ++ List.replicate 7 0) [], [2, 0, 0, 0, 0, 0, 0, 0, 9, 0, 0, 0, 0, 0, 0, 0, 9] ++ List.replicate 7 0, by decide +kernel⟩,
   ⟨placed (flds (ctxd (key 5000) 1023 { state := 1, uid := 9 }) []) (job 0 0x55 ([5, 0, 0, 0, 1, 0, 0, 0, 255, 3] ++ List.replicate 14 0) []), job 0 0x55 ([5, 0, 0, 0, 1, 0, 0, 0, 255, 3] ++ List.replicate 14 0) [], by decide +kernel⟩,
   ⟨placed ((mach 5000).setLeases [{ idx := 4095, grantor := 0, first := 0, count := 1, grantee := 3, expires := 0 }]) (job 0 0x56 [255, 15, 0, 0] []), job 0 0x56 [255, 15, 0, 0] [], { idx := 4095, grantor := 0, first := 0, count := 1, grantee := 3, expires := 0 }, by decide +kernel⟩,
   ⟨placed (mach 5000) (job 0 0x57 ([1] ++ List.replicate 15 0 ++ [5]) []), job 0 0x57 ([1] ++ List.replicate 15 0 ++ [5]) [], [1] ++ List.replicate 15 0, 5, by decide +kernel⟩⟩

theorem wit_SchedulerInstantsComplete :
    (∃ (s : State) (b : _) (c : _), b < 64 ∧ s.nextStart b = some c ∧ s.coreRuns = true ∧ s.watchRuns = false ∧ s.on (CRS_BCFG_EN b) = true ∧ s.on (CRS_BSTS_SEGOFF b) = false ∧ c ≤ s.ct + 8000 ∧ (s.bus b).plan.map Prod.fst ≠ some c ∧ s.sys.entry = none) ∧
    (∃ (s : State) (idx : _) (e : _) (n : _) (u : State) (tag : _), s.ent idx = some e ∧ s.entDue e exSERIAL 2000 = true ∧ e.next = some n ∧ s.ct ≤ n ∧ s.serRuns (tpPort (s.tpl e.target)) = true ∧ s.commitInst e n 0 0 = (u, some tag)) ∧
    (∃ (s : State) (x : _), x < 8 ∧ s.psc.held = [] ∧ ((s.sp x).q.filter fun k => k.at_.isSome && !k.retry && decide (k.due < s.elapsed)) = []) ∧
    (∃ (s : State) (x : _) (q : SerQS) (tag : _), x < 8 ∧ s.psc.held = [] ∧ ((s.sp x).q.filter fun k => k.at_.isSome && !k.retry && decide (k.due < s.elapsed)) = [q] ∧ q.tags = [tag] ∧ (s.psc.txns.find? fun t => t.tag == tag) = none) ∧
    (∃ (s : State) (idx : _) (e : _) (n : _) (u : State), s.ent idx = some e ∧ s.watchRuns = false ∧ s.entDue e exWHEEL 0 = true ∧ e.next = some n ∧ s.ct ≤ n + 1 ∧ (s.psc.ents.filter fun x => s.entDue x exWHEEL 0 && x.target == e.target) = [e] ∧ u = (s.commitInst e n 0 0).1.reachCut e.idx ∧ u.polled e.target n = true) ∧
    (∃ (s : State) (b : _) (c : CycS), b < 64 ∧ (s.bus b).cur = some c ∧ c.at_ + 10 * s.spareEnd b ≤ s.elapsed) ∧
    (∃ (s : State) (b : _), b < 64 ∧ (s.bus b).cur = none) ∧
    (∃ (s : State) (tag : _) (r : RemS), (s.rng.rems.find? fun k => k.tag == tag) = some r ∧ r.at_ + 1000000 * s.g PSC_CFG_REMTMO ≤ s.elapsed ∧ r.resent = true) ∧
    (∃ (s : State) (tag : _) (r : RemS), (s.rng.rems.find? fun k => k.tag == tag) = some r ∧ r.at_ + 1000000 * s.g PSC_CFG_REMTMO ≤ s.elapsed ∧ r.resent = false ∧ ((s.tr r.tid).cmds.find? fun c => c.slot == r.slot) = none) :=
  ⟨⟨(flds (mach 5000) [(CRS_BCFG_EN 63, 1), (CRS_BSTS_SEGOFF 63, 0)]).setBus 63 { from_ := some 0 }, 63, 0, by decide +kernel⟩,
   ⟨withEnt (flds { mach 5000 with ser := { (mach 5000).ser with tpls := (mach 5000).ser.tpls.set (fun _ => []) 1023 [7, 0, 0, 0, 0, 0, 0, 0] } } [(SER_PCFG_EN 7, 1)]) (dueEnt 2 1023 7000), 3, dueEnt 2 1023 7000, 7000, ((withEnt (flds { mach 5000 with ser := { (mach 5000).ser with tpls := (mach 5000).ser.tpls.set (fun _ => []) 1023 [7, 0, 0, 0, 0, 0, 0, 0] } } [(SER_PCFG_EN 7, 1)]) (dueEnt 2 1023 7000)).commitInst (dueEnt 2 1023 7000) 7000 0 0).1, 0, by decide +kernel⟩,
   ⟨mach 5000, 7, by decide +kernel⟩,
   ⟨(mach 5000).setSp 7 { q := [{ tpl := 1, at_ := some 9, tags := [3], due := 4999 }] }, 7, { tpl := 1, at_ := some 9, tags := [3], due := 4999 }, 3, by decide +kernel⟩,
   ⟨withEnt ((mach 5000).setEp 5 { src := srcWHEEL, loc := 31 }) (dueEnt 3 5 4999), 3, dueEnt 3 5 4999, 4999, ((withEnt ((mach 5000).setEp 5 { src := srcWHEEL, loc := 31 }) (dueEnt 3 5 4999)).commitInst (dueEnt 3 5 4999) 4999 0 0).1.reachCut 3, by decide +kernel⟩,
   ⟨{ (mach 5000000).setBus 63 { cur := some { ref := 5 } } with psc := { (mach 0).psc with txns := [{ tag := 9, ent := 3, src := 1, ct := 4, bus := 63, eps := [] }] } }, 63, { ref := 5 }, by decide +kernel⟩,
   ⟨{ mach 5000000 with psc := { (mach 0).psc with txns := [{ tag := 9, ent := 3, src := 1, ct := 4, bus := 63, eps := [] }] } }, 63, by decide +kernel⟩,
   ⟨{ mach 2000000000 with rng := { (mach 0).rng with rems := [{ tag := 9, tid := 0, slot := 1, dst := 3, body := [1], at_ := 0, resent := true }] } }, 9, { tag := 9, tid := 0, slot := 1, dst := 3, body := [1], at_ := 0, resent := true }, by decide +kernel⟩,
   ⟨{ mach 2000000000 with rng := { (mach 0).rng with rems := [{ tag := 9, tid := 0, slot := 1, dst := 3, body := [1], at_ := 0 }] } }, 9, { tag := 9, tid := 0, slot := 1, dst := 3, body := [1], at_ := 0 }, by decide +kernel⟩⟩

theorem wit_EndpointTablesComplete :
    (∃ (s : State) (src : _), (src = 1 ∨ src = 2) ∧ s.Accepts rEPT_LDCTL (Word.ofNat (16 + src)) ∧ s.awake.loadRefused = none) ∧
    (∃ (s : State) (j : _), s.Takes 0x60 j ∧ s.loadIssuer j = none ∧ s.loadRefused = none) ∧
    (∃ (s : State) (l : LoadS), s.ept.load = some l ∧ s.coreRuns = true ∧ s.sw = swLOADING ∧ l.job = none ∧ (l.src ≠ 1 ∨ s.mem.run = none)) ∧
    (∃ (s : State) (l : LoadS) (b : _) (u : State), s.ept.load = some l ∧ s.coreRuns = true ∧ s.sw = swLOADING ∧ (l.src ≠ 1 ∨ s.mem.run = none) ∧ u = ({ s with ept := { s.ept with load := none } } : State).loadErr l b ∧ u.imgFails (u.loadBytes l b).1 (u.loadBytes l b).2 = none) ∧
    (∃ (s : State), s.Accepts rEPT_LDCTL 0x20#32 ∧ s.awake.sw = swREADY ∧ leAt s.awake.ept.staged 8 4 ≤ tablesSize) ∧
    (∃ (s : State), s.sw = swSTORING ∧ s.coreRuns = true ∧ nbit (s.g NVS_STS_WORN) 2 = false) ∧
    (∃ (s : State), s.sw = swSTORING ∧ s.coreRuns = true) ∧
    (∃ (s : State), s.Accepts rEPT_LDCTL 0x40#32 ∧ s.awake.sw = swREADY) ∧
    (∃ (s : State), s.Accepts rEPT_SWCTL 1#32 ∧ s.awake.sw = swREADY ∧ s.awake.imgRefs s.awake.ept.staged = none ∧ s.awake.ct < s.awake.ept.swReg) ∧
    (∃ (s : State), s.Accepts rEPT_SWCTL 3#32 ∧ s.awake.sw = swREADY ∧ s.awake.imgRefs s.awake.ept.staged = none) ∧
    (∃ (s : State), s.Accepts rEPT_SWCTL 4#32 ∧ s.awake.sw = swPENDING) ∧
    (∃ (s : State), s.sw = swPENDING ∧ s.coreRuns = true ∧ s.ept.swct ≤ s.ct) ∧
    (∃ (s : State), s.sw = swRETIRING ∧ s.coreRuns = true ∧ s.ept.retireAt ≤ s.elapsed) ∧
    (∃ (s : State) (x : RawS) (q : List RawS), s.decRuns = true ∧ s.coreRuns = false ∧ s.ept.queue = x :: q) ∧
    (∃ (s : State) (x : RawS) (q : List RawS), s.decRuns = true ∧ s.coreRuns = true ∧ s.drainSlaves.ept.queue = x :: q) :=
  ⟨⟨mach 5000, 2, by decide +kernel⟩,
   ⟨placed (key 5000) (job 0 0x60 [] [1, 2]), job 0 0x60 [] [1, 2], by decide +kernel⟩,
   ⟨let s := tables (mach 5000) swLOADING []; { s with ept := { s.ept with load := some { src := 1 } } }, { src := 1 }, by decide +kernel⟩,
   ⟨let s := tables (flds (mach 5000) [(MEM_CFG_EN, 1)]) swLOADING []; { s with ept := { s.ept with load := some { src := 1 } } }, { src := 1 }, img0, tables (flds (mach 5000) [(MEM_CFG_EN, 1)]) swLOADING [], by decide +kernel⟩,
   ⟨tables (mach 5000) swREADY img0, by decide +kernel⟩,
   ⟨tables (mach 5000) swSTORING img0, by decide +kernel⟩,
   ⟨tables (mach 5000) swSTORING img0, by decide +kernel⟩,
   ⟨tables (mach 5000) swREADY img0, by decide +kernel⟩,
   ⟨let s := tables (mach 5000) swREADY img0; { s with ept := { s.ept with swReg := 5001 } }, by decide +kernel⟩,
   ⟨tables (mach 5000) swREADY img0, by decide +kernel⟩,
   ⟨tables (mach 5000) swPENDING img0, by decide +kernel⟩,
   ⟨let s := tables (mach 5000) swPENDING img0; { s with ept := { s.ept with swct := 4998 } }, by decide +kernel⟩,
   ⟨let s := tables (mach 5000) swRETIRING img0; { s with ept := { s.ept with retireAt := 5000, old := [1] } }, by decide +kernel⟩,
   ⟨let s := flds (mach 5000) [(PWR_STS_STAGE, 4)]; { s with ept := { s.ept with queue := [{ ep := 5, src := 1, loc := 0, bytes := [], ct := 4, flags := 0 }] } }, { ep := 5, src := 1, loc := 0, bytes := [], ct := 4, flags := 0 }, [], by decide +kernel⟩,
   ⟨let s := mach 5000; { s with ept := { s.ept with queue := [{ ep := 5, src := 1, loc := 0, bytes := [], ct := 4, flags := 0 }] } }, { ep := 5, src := 1, loc := 0, bytes := [], ct := 4, flags := 0 }, [], by decide +kernel⟩⟩

theorem wit_EnginesComplete :
    (∃ (s : State) (x : _) (m : MInS) (q : List MInS), s.coreRuns = true ∧ (s.eng x).q = m :: q) ∧
    (∃ (s : State) (l : _), s.coreRuns = true ∧ l < 32) ∧
    (∃ (s : State) (c : _) (k : _), c < 8192 ∧ k < 8 ∧ s.Accepts rMSH_CHCTL (Word.ofNat (2 ^ 29 + k * 2 ^ 26 + c)) ∧ s.awake.mashCheck c k .freeze = none) ∧
    (∃ (s : State) (c : _) (k : _), c < 8192 ∧ k < 8 ∧ s.Accepts rMSH_CHCTL (Word.ofNat (2 ^ 30 + k * 2 ^ 26 + c)) ∧ s.awake.mashCheck c k .thaw = none) ∧
    (∃ (s : State) (c : _) (k : _) (xf : _) (n : _), c < 8192 ∧ k < 8 ∧ xf < 16 ∧ n < 512 ∧ s.Accepts rMSH_CHCTL (Word.ofNat (2 ^ 31 + k * 2 ^ 26 + xf * 2 ^ 22 + n * 2 ^ 13 + c)) ∧ s.awake.mashCheck c k (.switch n xf) = none) ∧
    (∃ (s : State), s.Accepts rMSH_SYNCCTL 1#32) ∧
    (∃ (s : State), s.Accepts rMSH_SYNCCTL 2#32) ∧
    (∃ (s : State), s.Accepts rMSH_SYNCCTL 4#32) ∧
    (∃ (s : State) (n : _), s.msh.armed = some n ∧ s.coreRuns = true ∧ n ≤ s.ct) ∧
    (∃ (s : State), s.g MSH_SYNCPER_PER ≠ 0 ∧ s.coreRuns = true ∧ s.msh.lastPer.getD 0 < s.ct / s.g MSH_SYNCPER_PER * s.g MSH_SYNCPER_PER) ∧
    (∃ (s : State) (n : _) (x : _) (i : _), s.inst n = some x ∧ s.decRuns = true ∧ x.mode = (if s.watchRuns then 2 else 0) ∧ ((timedConds (s.mtab x.mt) x.state).filter fun k => !x.timed.contains k && decide (x.dueAt (mtCd (s.mtab x.mt) k) ≤ s.elapsed)) = [i]) ∧
    (∃ (s : State) (t : TrigS) (q : List TrigS) (x : _), s.rcg.queue = t :: q ∧ s.decRuns = true ∧ (({ s with rcg := { s.rcg with queue := q } } : State).rcgOwed).inst t.inst = some x ∧ x.mode = (if s.watchRuns then 2 else 0)) ∧
    (∃ (s : State) (idx : _) (l : LeaseS), s.lease idx = some l ∧ s.coreRuns = true ∧ l.expires ≠ 0 ∧ l.expires ≤ s.ct) ∧
    (∃ (s : State) (idx : _) (l : LeaseS), s.lease idx = some l ∧ l.ended.isSome = true ∧ s.leaseReady l = true) :=
  ⟨⟨(mach 5000).setEng 3 { q := [{ ch := 77, v := some 4, ct := 9 }] }, 3, { ch := 77, v := some 4, ct := 9 }, [], by decide +kernel⟩,
   ⟨mach 5000, 31, by decide +kernel⟩,
   ⟨(mach 5000).setCh 8191 { state := msRUN, cfg := 0x600#32, stg := [0, 0, 0, 0, 0, 0x10000000#32] }, 8191, 5, by decide +kernel⟩,
   ⟨(mach 5000).setCh 8191 { state := msRUN, cfg := 0x600#32, stg := [0, 0, 0, 0, 0, 0x10000000#32] }, 8191, 5, by decide +kernel⟩,
   ⟨withSet ((mach 5000).setCh 8191 { state := msRUN, cfg := 0x600#32, stg := [0, 0, 0, 0, 0, 0x40000000#32], stgs := [{}, {}, {}, {}, {}, {}] }) 511 [1], 8191, 5, 10, 511, by decide +kernel⟩,
   ⟨(mach 5000).setCh 8191 { state := msRUN }, by decide +kernel⟩,
   ⟨mach 5000, by decide +kernel⟩,
   ⟨(mach 5000).mashArm 9000, by decide +kernel⟩,
   ⟨(mach 5000).mashArm 5000, 5000, by decide +kernel⟩,
   ⟨flds (mach 5000) [(MSH_SYNCPER_PER, 2000)], by decide +kernel⟩,
   ⟨{ mach 5000 with rcg := { tables := ({} : Tbl (List Nat)).set (fun _ => []) 0 dwell, insts := [(2, recog)] } }, 2, recog, 0, by decide +kernel⟩,
   ⟨{ mach 5000 with rcg := { tables := ({} : Tbl (List Nat)).set (fun _ => []) 0 dwell, insts := [(2, recog)], queue := [{ inst := 2, kind := .time, ct := 5 }] } }, { inst := 2, kind := .time, ct := 5 }, [], recog, by decide +kernel⟩,
   ⟨leased (mach 5000) 5000, 4095, { idx := 4095, grantor := 0, first := 0, count := 1, grantee := 3, expires := 5000 }, by decide +kernel⟩,
   ⟨(mach 5000).setLeases [{ idx := 4095, grantor := 0, first := 0, count := 1, grantee := 3, expires := 0, ended := some 1 }], 4095, { idx := 4095, grantor := 0, first := 0, count := 1, grantee := 3, expires := 0, ended := some 1 }, by decide +kernel⟩⟩

theorem wit_DoorbellsComplete :
    (∃ (s : State) (t : _) (v : Word), t < 1024 ∧ s.Bells t ∧ ringLive (s.awake.tr t).cmd.state ∧ v.toNat < 65536 ∧ v.toNat < ringSize (s.awake.tr t).cmd.ord) ∧
    (∃ (s : State) (t : _) (v : Word), t < 1024 ∧ s.Bells t ∧ ringLive (s.awake.tr t).cmd.state ∧ v.toNat < 65536 ∧ ringSize (s.awake.tr t).cmd.ord ≤ v.toNat) ∧
    (∃ (s : State) (t : _) (v : Word), t < 1024 ∧ s.Bells t ∧ ringLive (s.awake.tr t).cpl.state ∧ v.toNat < 65536 ∧ v.toNat < ringSize (s.awake.tr t).cpl.ord) ∧
    (∃ (s : State) (t : _) (v : Word), t < 1024 ∧ s.Bells t ∧ ringLive (s.awake.tr t).evt.state ∧ v.toNat < 65536 ∧ v.toNat < ringSize (s.awake.tr t).evt.ord) ∧
    (∃ (s : State) (t : _) (v : Word), t < 1024 ∧ s.Bells t ∧ (v ||| 1#32).toNat < 16 ∧ (s.awake.tr t).cmd.state = rsHALTED) ∧
    (∃ (s : State) (t : _) (v : Word), t < 1024 ∧ s.Bells t ∧ (v ||| 2#32).toNat < 16 ∧ (s.awake.tr t).cpl.state = rsHALTED) ∧
    (∃ (s : State) (t : _) (v : Word), t < 1024 ∧ s.Bells t ∧ (v ||| 4#32).toNat < 16 ∧ (s.awake.tr t).evt.state = rsHALTED) ∧
    (∃ (s : State) (t : _) (v : Word), t < 1024 ∧ s.Bells t ∧ (v ||| 8#32).toNat < 16) ∧
    (∃ (s : State) (t : _) (r : _) (v : Word), t < 1024 ∧ r < 8 ∧ s.Bells t ∧ ringLive (s.awake.cr t r).state ∧ v.toNat < 65536 ∧ v.toNat < ringSize (s.awake.cr t r).ord) ∧
    (∃ (s : State) (t : _) (r : _) (v : Word), t < 1024 ∧ r < 8 ∧ s.Bells t ∧ ringLive (s.awake.cr t r).state ∧ v.toNat < 65536 ∧ v.toNat < ringSize (s.awake.cr t r).ord) :=
  ⟨⟨rings (mach 5000) 0 { cmd := { state := 1, ord := 4 } }, 0, 15#32, by decide +kernel⟩,
   ⟨rings (mach 5000) 0 { cmd := { state := 2, ord := 4 } }, 0, 16#32, by decide +kernel⟩,
   ⟨rings (mach 5000) 0 { cpl := { state := 1, ord := 4 } }, 0, 15#32, by decide +kernel⟩,
   ⟨rings (mach 5000) 0 { evt := { state := 1, ord := 4 } }, 0, 15#32, by decide +kernel⟩,
   ⟨rings (mach 5000) 0 { cmd := { state := 2, ord := 4, failed := true, hub := 3 } }, 0, 15#32, by decide +kernel⟩,
   ⟨rings (mach 5000) 0 { cpl := { state := 2, ord := 4, failed := true, hub := 3 }, cplPend := some [1] }, 0, 15#32, by decide +kernel⟩,
   ⟨rings (mach 5000) 0 { evt := { state := 2, ord := 4, failed := true, hub := 3 } }, 0, 15#32, by decide +kernel⟩,
   ⟨rings (mach 5000) 0 { dberr := true }, 0, 0#32, by decide +kernel⟩,
   ⟨(mach 5000).setCr 0 7 { state := 1 }, 0, 7, 15#32, by decide +kernel⟩,
   ⟨(mach 5000).setCr 0 7 { state := 1 }, 0, 7, 15#32, by decide +kernel⟩⟩

theorem wit_RingTransfersComplete :
    (∃ (s : State) (t : _) (d : List Nat) (re : _), t < 1024 ∧ (s.tr t).fetched = some (d, re) ∧ s.mayFetch t = true) ∧
    (∃ (s : State) (t : _) (c : _) (rest : List CmdS) (o : DoneS) (own : _), t < 1024 ∧ (s.tr t).cmds = c :: rest ∧ c.done = some o ∧ (s.tr t).cpl.state = rsRUNNING ∧ (s.tr t).cplPend = none ∧ (s.tr t).cpl.full = false ∧ s.cmdDone t c = true ∧ s.icuRuns = true ∧ c.res ≠ 1 ∧ (dRes c.desc = 0 ∨ o.status ≠ OK ∨ o.result = [] ∨ 2 ≤ c.res) ∧ own = (dOpc c.desc == 0x53 && dBody c.desc 0 2 == t)) ∧
    (∃ (s : State) (t : _) (b : List Nat), s.coreRuns = true ∧ t < 1024 ∧ (s.tr t).cplPend = some b ∧ (s.tr t).cpl.state = rsRUNNING) ∧
    (∃ (s : State) (t : _) (b : List Nat), s.coreRuns = true ∧ t < 1024 ∧ (s.tr t).cplPend = some b ∧ (s.tr t).cpl.state = rsRUNNING ∧ (s.tr t).cpl.failed = true) ∧
    (∃ (s : State) (t : _) (e : _), s.coreRuns = true ∧ t < 1024 ∧ (s.tr t).evPend = some e ∧ (s.tr t).evt.state = rsRUNNING) ∧
    (∃ (s : State) (t : _) (c : CmdS), s.coreRuns = true ∧ t < 1024 ∧ ((s.tr t).cmds.find? fun k => k.res == 1) = some c) ∧
    (∃ (s : State) (t : _), t < 1024 ∧ s.mayFetch t = true ∧ (s.tr t).fetched = none) ∧
    (∃ (s : State) (t : _), t < 1024 ∧ s.mayFetch t = true ∧ (s.tr t).fetched = none ∧ (s.tr t).cmd.failed = true) ∧
    (∃ (s : State) (t : _) (r : _), s.coreRuns = true ∧ t < 1024 ∧ r < 8 ∧ (s.cr t r).state = rsRUNNING ∧ (s.cr t r).hub ≠ (s.cr t r).post ∧ (s.cr t r).entry = none) ∧
    (∃ (s : State) (uid : _) (ring : _) (c : CaskS), s.openCask uid ring = some c ∧ c.at_ + 1000 * (s.closeRule uid ring).2 ≤ s.elapsed ∧ s.coreRuns = true) ∧
    (∃ (s : State) (t : _) (r : _) (e : _) (c : CaskS) (c' : CaskS), t < 1024 ∧ r < 8 ∧ (s.cr t r).state = rsRUNNING ∧ (s.cr t r).place = 0 ∧ (s.cr t r).hub ≠ (s.cr t r).post ∧ s.icuRuns = true ∧ s.homed t = true ∧ (s.cr t r).entry = some e ∧ s.heldFirst t r = some c ∧ s.entryBad t r e = none ∧ (s.declareHeld t c).heldFirst t r = some c') ∧
    (∃ (s : State) (t : _) (e : _) (rest : List EvRecS), t < 1024 ∧ (s.tr t).evt.state = rsRUNNING ∧ (s.tr t).evPend = none ∧ (s.tr t).evt.full = false ∧ s.icuRuns = true ∧ (s.tr t).evLost = 0 ∧ (s.tr t).evq = e :: rest ∧ s.evReady t e = true) ∧
    (∃ (s : State) (t : _) (e : EvRecS), t < 1024 ∧ (s.tr t).evt.state = rsRUNNING ∧ (s.tr t).evPend = none ∧ (s.tr t).evt.full = false ∧ s.icuRuns = true ∧ 0 < (s.tr t).evLost ∧ (s.tr t).evq = [] ∧ e = { s.mkEv 0 0 (s.tr t).evLostCt (s.tr t).evLost 0 0 0 with flags := 0 }) ∧
    (∃ (s : State) (a : _) (b : _), a = s.ten.leases.foldl State.leaseGiveUp s ∧ b = a.rng.rings.keys.foldl (fun u t => (u.tr t).cmds.foldl (fun u c => u.closeGiveUp t c) u) a) :=
  ⟨⟨rings (mach 5000) 0 { cmd := { state := 1, ord := 4, hub := 15, host := 3 }, fetched := some ([1] ++ List.replicate 63 0, false) }, 0, [1] ++ List.replicate 63 0, false, by decide +kernel⟩,
   ⟨rings (mach 5000) 0 { cpl := { state := 1, ord := 4 }, cmds := [done] }, 0, done, [], { status := OK }, false, by decide +kernel⟩,
   ⟨rings (mach 5000) 0 { cpl := { state := 1, ord := 4, failed := true }, cplPend := some [1] }, 0, [1], by decide +kernel⟩,
   ⟨rings (mach 5000) 0 { cpl := { state := 1, ord := 4, failed := true, hub := 3 }, cplPend := some [1] }, 0, [1], by decide +kernel⟩,
   ⟨rings (mach 5000) 0 { evt := { state := 1, ord := 4, failed := true }, evPend := some ((mach 0).mkEv 1 1 0 0 0 0 0) }, 0, (mach 0).mkEv 1 1 0 0 0 0 0, by decide +kernel⟩,
   ⟨rings (mach 5000) 0 { cmds := [{ done with res := 1, resFailed := true }] }, 0, { done with res := 1, resFailed := true }, by decide +kernel⟩,
   ⟨rings (mach 5000) 0 { cmd := { state := 1, ord := 4, hub := 15, host := 3, failed := true } }, 0, by decide +kernel⟩,
   ⟨rings (mach 5000) 0 { cmd := { state := 1, ord := 4, hub := 15, host := 3, failed := true } }, 0, by decide +kernel⟩,
   ⟨(mach 5000).setCr 0 7 { state := 1, post := 3, failed := true }, 0, 7, by decide +kernel⟩,
   ⟨{ mach 20000000 with rng := { (mach 0).rng with open_ := [{ uid := 0, ring := 7, src := 0, pcn := 0, at_ := 0 }] } }, 0, 7, { uid := 0, ring := 7, src := 0, pcn := 0, at_ := 0 }, by decide +kernel⟩,
   ⟨let s := (ctxd (mach 5000) 0 { wins := ({} : Tbl WinS).set (fun _ => {}) 0 { base := 4096, len := 100, r := true, w := true } }).setCr 0 7 { state := 1, post := 3, size := 4096, entry := some (toLe 8 4096 ++ toLe 4 4096 ++ [0, 0, 0, 0]) }; { s with rng := { s.rng with held := [{ uid := 0, ring := 7, src := 0, pcn := 0 }] } }, 0, 7, toLe 8 4096 ++ toLe 4 4096 ++ [0, 0, 0, 0], { uid := 0, ring := 7, src := 0, pcn := 0 }, { uid := 0, ring := 7, src := 0, pcn := 0 }, by decide +kernel⟩,
   ⟨rings (mach 5000) 0 { evt := { state := 1, ord := 4 }, evq := [(mach 0).mkEv 1 1 0 0 0 0 0] }, 0, (mach 0).mkEv 1 1 0 0 0 0 0, [], by decide +kernel⟩,
   ⟨rings (mach 5000) 0 { evt := { state := 1, ord := 4 }, evLost := 5, evLostCt := 6 }, 0, { (rings (mach 5000) 0 { evt := { state := 1, ord := 4 }, evLost := 5, evLostCt := 6 }).mkEv 0 0 6 5 0 0 0 with flags := 0 }, by decide +kernel⟩,
   ⟨leased (mach 5000) 0, leased (mach 5000) 0, leased (mach 5000) 0, by decide +kernel⟩⟩

theorem wit_InterruptCommandsComplete :
    (∃ (s : State) (k : _) (n : _), k < 32 ∧ s.awake.stopped ICU_ERRSTS = false ∧ s.awake.on ICU_CFG_GDIS = false ∧ s.awake.on (ICU_TGT_EN k) = true ∧ s.awake.selected k = some n) ∧
    (∃ (s : State) (k : _), k < 32 ∧ s.awake.stopped ICU_ERRSTS = false ∧ s.awake.on ICU_CFG_GDIS = false ∧ s.awake.on (ICU_TGT_EN k) = true ∧ s.awake.selected k = none) ∧
    (∃ (s : State) (k : _) (v : Word) (p : _) (rest : List (Nat × Nat)), k < 32 ∧ s.awake.stopped ICU_ERRSTS = false ∧ (s.awake.tgt k).stack = (v.toNat, p) :: rest) ∧
    (∃ (s : State) (k : _) (v : Word), k < 32 ∧ s.awake.stopped ICU_ERRSTS = false ∧ ((s.awake.tgt k).stack.head?.map Prod.fst) ≠ some v.toNat) ∧
    (∃ (s : State) (v : Word), s.Accepts rICU_HUBLATLO v) ∧
    (∃ (s : State) (v : Word), s.Accepts rICU_HUBLATHI v) ∧
    (∃ (s : State) (v : Word), s.Accepts rICU_HUBSET v ∧ wbit v 0 = true) ∧
    (∃ (s : State) (n : _), n < 8192 ∧ s.Accepts rICU_FORCE (Word.ofNat (2 ^ 31 + n)) ∧ s.awake.g ICU_CFG_MODE = 2) ∧
    (∃ (s : State) (n : _), n < 8192 ∧ s.Accepts rICU_FORCE (Word.ofNat (2 ^ 30 + n)) ∧ s.awake.g ICU_CFG_MODE = 2) ∧
    (∃ (s : State) (v : Word), s.Accepts rICU_CFG v) ∧
    (∃ (s : State) (k : _), k < 32 ∧ (s.msix k).pend = false) ∧
    (∃ (s : State) (k : _), k < 32 ∧ (s.msix k).pend = true ∧ s.icu.fmask = false ∧ s.on ICU_CFG_GDIS = false ∧ s.sys.hostLink = true) :=
  ⟨⟨flds ((mach 5000).setSrc 4143 { en := true, prio := 9, elig := some 1, route := some 31 }) [(ICU_TGT_EN 31, 1)], 31, 4143, by decide +kernel⟩,
   ⟨flds (mach 5000) [(ICU_TGT_EN 31, 1)], 31, by decide +kernel⟩,
   ⟨((mach 5000).setSrc 4143 { active := true }).setTgt 31 { stack := [(4143, 9)] }, 31, 4143#32, 9, [], by decide +kernel⟩,
   ⟨mach 5000, 31, 4143#32, by decide +kernel⟩,
   ⟨(mach 5000).raiseHub 3, 8#32, by decide +kernel⟩,
   ⟨(mach 5000).raiseHub 33, 2#32, by decide +kernel⟩,
   ⟨mach 5000, 1#32, by decide +kernel⟩,
   ⟨flds (mach 5000) [(ICU_CFG_MODE, 2)], 4143, by decide +kernel⟩,
   ⟨flds ((mach 5000).setSrc 4143 { force := true }) [(ICU_CFG_MODE, 2)], 4143, by decide +kernel⟩,
   ⟨mach 5000, 2#32, by decide +kernel⟩,
   ⟨(mach 5000).setMsix 31 { mask := true }, 31, by decide +kernel⟩,
   ⟨{ (mach 5000).setMsix 31 { mask := true, pend := true } with icu := { ((mach 5000).setMsix 31 { mask := true, pend := true }).icu with fmask := false }, sys := { (mach 0).sys with hostLink := true } }, 31, by decide +kernel⟩⟩

theorem wit_EventCommandsComplete :
    (∃ (s : State) (v : Word), s.Accepts rEVM_SWPULSE v) ∧
    (∃ (s : State) (q : _), q < 16 ∧ s.awake.stopped EVM_ERRSTS = false) ∧
    (∃ (s : State) (q : _), q < 16 ∧ s.awake.stopped EVM_ERRSTS = false) ∧
    (∃ (s : State) (q : _), q < 16 ∧ s.awake.stopped EVM_ERRSTS = false) ∧
    (∃ (s : State) (q : _), q < 16 ∧ s.Accepts rEVM_QCTL 0x01000000#32) ∧
    (∃ (s : State) (c : _) (v : Word), c < 64 ∧ s.Accepts rEVM_CHCFG v ∧ s.awake.on (EVM_CHCFG_LOCKED c) = false ∧ (wbits v 7 1 < 90 ∨ wbits v 7 1 = 127) ∧ (wbits v 7 1 = 127 ∨ s.awake.consTaken c (wbits v 7 1) = false)) ∧
    (∃ (s : State) (c : _) (w : _) (v : Word), c < 64 ∧ w < 11 ∧ s.Accepts rEVM_CHEN v ∧ s.awake.on (EVM_CHCFG_LOCKED c) = false) ∧
    (∃ (s : State) (c : _) (v : Word), c < 64 ∧ s.Accepts rEVM_CHEN11 v ∧ s.awake.on (EVM_CHCFG_LOCKED c) = false) :=
  ⟨⟨mach 5000, 0xF#32, by decide +kernel⟩,
   ⟨(mach 5000).setCq 15 { ents := [⟨3, 4, true⟩] }, 15, by decide +kernel⟩,
   ⟨(mach 5000).setCq 15 { ents := [⟨3, 4, true⟩] }, 15, by decide +kernel⟩,
   ⟨(mach 5000).setCq 15 { ents := [⟨3, 4, true⟩] }, 15, by decide +kernel⟩,
   ⟨(mach 5000).setCq 15 { ents := [⟨3, 4, true⟩] }, 15, by decide +kernel⟩,
   ⟨flds (mach 5000) [(GRD_LOCK_LOCK, 1)], 63, 0x3F#32, by decide +kernel⟩,
   ⟨mach 5000, 63, 10, 0xFFFFFFFF#32, by decide +kernel⟩,
   ⟨mach 5000, 63, 0x1FFFFFFF#32, by decide +kernel⟩⟩

theorem wit_LanesComplete :
    (∃ (s : State) (kind : _), kind < 4 ∧ (s.sys.hostLink = true ∨ kind = 0)) ∧
    (∃ (s : State) (p : _) (v : Word), p < 4 ∧ s.Accepts rBND_PCFG v ∧ wbit v 0 = true ∧ s.awake.on (BND_PCFG_EN p) = false ∧ (wbit v 4 = false ∨ wbits v 2 1 ≠ 1) ∧ s.awake.g BOOT_STS_STAGE = 9) ∧
    (∃ (s : State) (p : _) (v : Word), p < 4 ∧ s.Accepts rBND_PCFG v ∧ wbit v 0 = false ∧ s.awake.on (BND_PCFG_EN p) = true ∧ wbits v 4 1 = wbits (s.awake.rd (rBND_PCFG.at p 0)) 4 1 ∧ (wbit v 4 = false ∨ wbits v 2 1 ≠ 1)) ∧
    (∃ (s : State) (p : _) (mask : _), p < 4 ∧ mask < 4 ∧ mask ≠ 0 ∧ s.on (BND_PCFG_EN p) = true ∧ s.on (BND_PCFG_SINGLE p) = false ∧ (s.port p).step = 1 ∧ (s.g (BND_PCFG_MODE p) ≠ 0 ∨ mask = 3)) ∧
    (∃ (s : State) (p : _) (mask : _), p < 4 ∧ mask < 4 ∧ mask ≠ 0 ∧ s.on (BND_PCFG_EN p) = true ∧ s.on (BND_PCFG_SINGLE p) = false ∧ (s.port p).step = 3) ∧
    (∃ (s : State) (p : _) (mask : _), p < 4 ∧ mask < 4 ∧ mask ≠ 0 ∧ s.on (BND_PCFG_EN p) = true ∧ s.on (BND_PCFG_SINGLE p) = false ∧ (s.port p).step = 4) ∧
    (∃ (s : State) (p : _) (l : _), p < 4 ∧ stepLimit (s.port p).step = some l ∧ (s.port p).stepAt + l < s.elapsed ∧ s.linkUp p = false) ∧
    (∃ (s : State) (p : _) (lane : _), p < 4 ∧ lane < 2 ∧ s.linkUp p = true ∧ s.g (BND_PSTS_TRAINED p) = 2 ^ lane ∧ nbit (s.g (BND_PSTS_CARRY p)) lane = true) ∧
    (∃ (s : State) (p : _) (lane : _), p < 4 ∧ lane < 2 ∧ s.linkUp p = true ∧ s.g (BND_PSTS_TRAINED p) = 3 ∧ nbit (s.g (BND_PSTS_CARRY p)) lane = false) ∧
    (∃ (s : State) (p : _) (lane : _), p < 4 ∧ lane < 2 ∧ s.linkUp p = true ∧ nbit (s.g (BND_PSTS_TRAINED p)) lane = false ∧ s.on (BND_PCFG_SINGLE p) = false) ∧
    (∃ (s : State) (p : _), p < 4 ∧ s.linkUp p = true) :=
  ⟨⟨let s := mach 5000; { s with sys := { s.sys with hostLink := true } }, 3, by decide +kernel⟩,
   ⟨flds (mach 5000) [(BOOT_STS_STAGE, 9)], 3, 1#32, by decide +kernel⟩,
   ⟨flds (mach 5000) [(BOOT_STS_STAGE, 9), (BND_PCFG_EN 3, 1)], 3, 0#32, by decide +kernel⟩,
   ⟨(flds (mach 5000) [(BND_PCFG_EN 0, 1)]).setPort 0 { step := 1 }, 0, 3, by decide +kernel⟩,
   ⟨(flds (mach 5000) [(BND_PCFG_EN 0, 1)]).setPort 0 { step := 3 }, 0, 1, by decide +kernel⟩,
   ⟨(flds (mach 5000) [(BND_PCFG_EN 3, 1)]).setPort 3 { step := 4 }, 3, 2, by decide +kernel⟩,
   ⟨(flds (mach 600000) []).setPort 3 { step := 5 }, 3, 500000, by decide +kernel⟩,
   ⟨flds (mach 5000) [(BND_PCFG_EN 0, 1), (BND_PSTS_STATE 0, bsACTIVE), (BND_PSTS_TRAINED 0, 2), (BND_PSTS_CARRY 0, 2)], 0, 1, by decide +kernel⟩,
   ⟨flds (mach 5000) [(BND_PCFG_EN 0, 1), (BND_PSTS_STATE 0, bsACTIVE), (BND_PSTS_TRAINED 0, 3), (BND_PSTS_CARRY 0, 1)], 0, 1, by decide +kernel⟩,
   ⟨flds (mach 5000) [(BND_PCFG_EN 0, 1), (BND_PSTS_STATE 0, bsACTIVE), (BND_PSTS_TRAINED 0, 1), (BND_PSTS_CARRY 0, 1)], 0, 1, by decide +kernel⟩,
   ⟨flds (mach 5000) [(BND_PCFG_EN 3, 1), (BND_PSTS_STATE 3, bsACTIVE)], 3, by decide +kernel⟩⟩

theorem wit_SessionsComplete :
    (∃ (s : State) (p : _) (bs : _), p < 4 ∧ s.linkUp p = true ∧ flitCrcOk bs = true ∧ 3 ≤ (readFlit bs).cls ∧ leAt bs 0 2 % 4096 = (s.port p).nextRx) ∧
    (∃ (s : State) (p : _) (bs : _), p < 4 ∧ s.linkUp p = true ∧ flitCrcOk bs = false ∧ 3 ≤ (readFlit bs).cls ∧ (s.port p).nakFor = none) ∧
    (∃ (s : State) (p : _) (pl : _), p < 4 ∧ s.linkUp p = true ∧ (leAt pl 0 1 = 1 ∨ leAt pl 0 1 = 3)) ∧
    (∃ (s : State) (p : _) (pl : _), p < 4 ∧ s.linkUp p = true ∧ leAt pl 0 1 = 2 ∧ ((s.takeAck p pl).port p).ofs (leAt pl 4 2) < ((s.takeAck p pl).port p).unacked.length ∧ (s.takeAck p pl).replaying p = false) ∧
    (∃ (s : State) (p : _), p < 4 ∧ s.linkUp p = true ∧ (s.port p).unacked.isEmpty = false ∧ (s.port p).moved + 4000 ≤ s.elapsed) ∧
    (∃ (s : State) (p : _), p < 4 ∧ s.linkUp p = true ∧ 0 < (s.port p).accSince ∧ (s.port p).lastStatus + 1000 ≤ s.elapsed) ∧
    (∃ (s : State) (p : _) (pl : _), p < 4 ∧ (s.port p).step = 5 ∧ leAt pl 0 1 = 1 ∧ s.g (BND_PSTS_STATE p) = bsHELLO ∧ leAt pl 40 4 = (s.port p).mySess) ∧
    (∃ (s : State) (p : _) (pl : _), p < 4 ∧ (s.port p).step = 5 ∧ leAt pl 0 1 = 1 ∧ s.g (BND_PSTS_STATE p) = bsHELLO ∧ leAt pl 40 4 ≠ (s.port p).mySess) ∧
    (∃ (s : State) (p : _), p < 4 ∧ (s.port p).step = 5 ∧ s.linkUp p = false ∧ (s.port p).lastHello + 10000 ≤ s.elapsed) ∧
    (∃ (s : State) (p : _) (pl : _), p < 4 ∧ (s.port p).step = 5 ∧ leAt pl 0 1 = 2 ∧ s.g (BND_PSTS_STATE p) = bsHOLD ∧ (presented pl).hubid = (s.port p).peer.hubid ∧ (presented pl).bootcnt = (s.port p).peer.bootcnt ∧ (presented pl).combid = (s.port p).peer.combid ∧ leAt pl 36 4 = (s.port p).peerSess ∧ leAt pl 40 4 = (s.port p).mySess ∧ (s.port p).ofs (leAt pl 32 2) ≤ (s.port p).unacked.length) ∧
    (∃ (s : State) (p : _) (pl : _), p < 4 ∧ (s.port p).step = 5 ∧ leAt pl 0 1 = 2 ∧ s.g (BND_PSTS_STATE p) = bsHELLO) ∧
    (∃ (s : State) (p : _) (pl : _), p < 4 ∧ s.linkUp p = true ∧ leAt pl 0 1 = 3) :=
  ⟨⟨up5 (mach 5000) {}, 0, mkFlit 0 4 0 0 8 true true 0 (List.replicate 8 0), by decide +kernel⟩,
   ⟨up5 (mach 5000) {}, 0, (mkFlit 0 4 0 0 8 true true 0 (List.replicate 8 0)).set 6 9, by decide +kernel⟩,
   ⟨up5 (mach 5000) {}, 0, [1, 0, 0, 0] ++ List.replicate 12 0, by decide +kernel⟩,
   ⟨up5 (mach 5000) { unacked := [flit0] , txNext := 1 }, 0, [2] ++ List.replicate 15 0, by decide +kernel⟩,
   ⟨up5 (mach 5000) { unacked := [flit0] , txNext := 1 }, 0, by decide +kernel⟩,
   ⟨up5 (mach 5000) { accSince := 3 }, 0, by decide +kernel⟩,
   ⟨inPort (mach 5000) { step := 5, mySess := 7 } bsHELLO, 0, [1] ++ List.replicate 39 0 ++ [7, 0, 0, 0], by decide +kernel⟩,
   ⟨inPort (mach 5000) { step := 5, mySess := 7 } bsHELLO, 0, [1] ++ List.replicate 39 0 ++ [6, 0, 0, 0], by decide +kernel⟩,
   ⟨inPort (mach 50000) { step := 5, mySess := 7 } bsHELLO, 0, by decide +kernel⟩,
   ⟨inPort (mach 50000) { step := 5, mySess := 7, peerSess := 9 } bsHOLD, 0, [2] ++ List.replicate 35 0 ++ [9, 0, 0, 0, 7, 0, 0, 0], by decide +kernel⟩,
   ⟨inPort (mach 50000) { step := 5, mySess := 7 } bsHELLO, 0, [2] ++ List.replicate 43 0, by decide +kernel⟩,
   ⟨up5 (mach 5000) {}, 0, [3] ++ List.replicate 43 0, by decide +kernel⟩⟩

theorem wit_MessagesComplete :
    (∃ (s : State) (m : _) (u : _), s.Gets clsCMD 1 m u ∧ nbit (leAt m.body 4 1) 0 = false) ∧
    (∃ (s : State) (m : _) (u : _) (x : Nat × Nat × List Nat), s.Gets clsCMD 1 m u ∧ nbit (leAt m.body 4 1) 0 = true ∧ (u.rng.jobs.any fun j => j.id.remote && j.id.src == m.src && j.id.ref == leAt m.body 0 2) = false ∧ (u.rng.answers.find? fun k => k.1 == m.src && k.2.1 == leAt m.body 0 2) = some x) ∧
    (∃ (s : State) (m : _) (u : _), s.Gets clsCMD 2 m u ∧ leAt m.body 4 4 = (u.imageOf m.src (leAt m.body 0 2)).length ∧ (leAt m.body 4 4 = 0 → u.imageOf m.src (leAt m.body 0 2) = [])) ∧
    (∃ (s : State) (m : _) (u : _) (r : _), s.Gets clsCPL 1 m u ∧ (u.rng.rems.find? fun k => k.tag == leAt m.body 0 2 && k.dst == m.src) = some r) ∧
    (∃ (s : State) (m : _) (u : _), s.Gets clsREJECT 1 m u ∧ leAt m.body 1 1 = clsCMD) ∧
    (∃ (s : State) (m : _) (u : _), s.Gets clsREJECT 1 m u ∧ leAt m.body 1 1 = clsCASK) ∧
    (∃ (s : State) (m : _) (u : _), s.Gets clsREJECT 1 m u ∧ leAt m.body 1 1 ≠ clsCMD ∧ leAt m.body 1 1 ≠ clsCASK) ∧
    (∃ (s : State) (x : _), s.rol.stale = [x] ∧ x.held = false ∧ (x.epoch ≤ s.g ROL_EPOCH ∨ x.at_ + 5000000 ≤ s.elapsed)) ∧
    (∃ (s : State) (m : _) (u : _), s.Gets clsCASK 1 m u ∧ u.homeUid (leAt m.body 0 8) = true ∧ u.pcnAhead m.src (leAt m.body 0 8) (leAt m.body 12 1) (leAt m.body 8 4) = 0 ∧ leAt m.body 16 4 = 0) ∧
    (∃ (s : State) (m : _) (u : _) (g : GatherS), s.Gets clsCASK 2 m u ∧ u.homeUid (leAt m.body 0 8) = true ∧ u.pcnAhead m.src (leAt m.body 0 8) (leAt m.body 12 1) (leAt m.body 8 4) = 0 ∧ u.gathering m.src (leAt m.body 0 8) (leAt m.body 12 1) = some g ∧ g.bytes.length = leAt m.body 16 4) ∧
    (∃ (s : State) (m : _) (u : _), s.Gets clsCASK 2 m u ∧ u.homeUid (leAt m.body 0 8) = true ∧ 2 ^ 31 ≤ u.pcnAhead m.src (leAt m.body 0 8) (leAt m.body 12 1) (leAt m.body 8 4)) ∧
    (∃ (s : State) (m : _) (u : _) (w : State), s.Gets clsCASKACK 1 m u ∧ w = ({ u with rng := { u.rng with fwd := u.rng.fwd.filter fun c => !(c.uid == leAt m.body 0 8 && c.ring == leAt m.body 12 1 && c.pcn == leAt m.body 8 4) } } : State)) ∧
    (∃ (s : State) (m : _) (u : _) (t : _), s.Gets clsEVENT 1 m u ∧ u.tidOf (leAt m.body 0 8) = some t ∧ u.homed t = true ∧ leAt m.body 8 4 ≠ 0) ∧
    (∃ (s : State) (m : _) (u : _), s.Gets clsSIGNAL 1 m u) ∧
    (∃ (s : State) (m : _) (u : _) (t : _), s.Gets clsSIGNAL 2 m u ∧ leAt m.body 0 8 ≠ 0 ∧ u.tidOf (leAt m.body 0 8) = some t ∧ u.tenActive t = true ∧ (u.members t (leAt m.body 8 1)).isEmpty = false) :=
  ⟨⟨withMsg (mach 5000) (msg clsCMD 5 1 ([1, 0, 0, 0, 0, 0, 0, 0] ++ List.replicate 72 0)), msg clsCMD 5 1 ([1, 0, 0, 0, 0, 0, 0, 0] ++ List.replicate 72 0), after (withMsg (mach 5000) (msg clsCMD 5 1 ([1, 0, 0, 0, 0, 0, 0, 0] ++ List.replicate 72 0))) clsCMD 1, by decide +kernel⟩,
   ⟨let s := withMsg (mach 5000) (msg clsCMD 5 1 ([1, 0, 0, 0, 1, 0, 0, 0] ++ List.replicate 72 0)); { s with rng := { s.rng with answers := [(5, 1, [9, 9])] } }, msg clsCMD 5 1 ([1, 0, 0, 0, 1, 0, 0, 0] ++ List.replicate 72 0), after (let s := withMsg (mach 5000) (msg clsCMD 5 1 ([1, 0, 0, 0, 1, 0, 0, 0] ++ List.replicate 72 0)); { s with rng := { s.rng with answers := [(5, 1, [9, 9])] } }) clsCMD 1, (5, 1, [9, 9]), by decide +kernel⟩,
   ⟨withMsg (mach 5000) (msg clsCMD 5 2 ([1, 0, 0, 0, 0, 0, 0, 0] ++ List.replicate 72 5)), msg clsCMD 5 2 ([1, 0, 0, 0, 0, 0, 0, 0] ++ List.replicate 72 5), after (withMsg (mach 5000) (msg clsCMD 5 2 ([1, 0, 0, 0, 0, 0, 0, 0] ++ List.replicate 72 5))) clsCMD 2, by decide +kernel⟩,
   ⟨let s := withMsg (mach 5000) (msg clsCPL 5 1 ([1, 0] ++ List.replicate 30 0)); { s with rng := { s.rng with rems := [rem5] } }, msg clsCPL 5 1 ([1, 0] ++ List.replicate 30 0), after (let s := withMsg (mach 5000) (msg clsCPL 5 1 ([1, 0] ++ List.replicate 30 0)); { s with rng := { s.rng with rems := [rem5] } }) clsCPL 1, rem5, by decide +kernel⟩,
   ⟨let s := withMsg (mach 5000) (msg clsREJECT 5 1 [10, clsCMD, 1, 0, 1, 0, 0, 0]); { s with rng := { s.rng with rems := [rem5] } }, msg clsREJECT 5 1 [10, clsCMD, 1, 0, 1, 0, 0, 0], after (let s := withMsg (mach 5000) (msg clsREJECT 5 1 [10, clsCMD, 1, 0, 1, 0, 0, 0]); { s with rng := { s.rng with rems := [rem5] } }) clsREJECT 1, by decide +kernel⟩,
   ⟨withMsg (mach 5000) (msg clsREJECT 5 1 [10, clsCASK, 1, 0, 1, 0, 0, 0]), msg clsREJECT 5 1 [10, clsCASK, 1, 0, 1, 0, 0, 0], after (withMsg (mach 5000) (msg clsREJECT 5 1 [10, clsCASK, 1, 0, 1, 0, 0, 0])) clsREJECT 1, by decide +kernel⟩,
   ⟨withMsg (mach 5000) (msg clsREJECT 5 1 [10, clsEVENT, 1, 0, 1, 0, 0, 0]), msg clsREJECT 5 1 [10, clsEVENT, 1, 0, 1, 0, 0, 0], after (withMsg (mach 5000) (msg clsREJECT 5 1 [10, clsEVENT, 1, 0, 1, 0, 0, 0])) clsREJECT 1, by decide +kernel⟩,
   ⟨let s := mach 9000000; { s with rol := { s.rol with stale := [stale5] } }, stale5, by decide +kernel⟩,
   ⟨withMsg (mach 5000) (msg clsCASK 5 1 (List.replicate 8 0 ++ [1, 0, 0, 0, 7] ++ List.replicate 11 0 ++ List.replicate 64 1)), msg clsCASK 5 1 (List.replicate 8 0 ++ [1, 0, 0, 0, 7] ++ List.replicate 11 0 ++ List.replicate 64 1), after (withMsg (mach 5000) (msg clsCASK 5 1 (List.replicate 8 0 ++ [1, 0, 0, 0, 7] ++ List.replicate 11 0 ++ List.replicate 64 1))) clsCASK 1, by decide +kernel⟩,
   ⟨let s := withMsg (mach 5000) (msg clsCASK 5 2 (List.replicate 8 0 ++ [1, 0, 0, 0, 7] ++ List.replicate 3 0 ++ [64] ++ List.replicate 31 0)); { s with rng := { s.rng with gather := [({ port := 0, src := 5, uid := 0, ring := 7, pcn := 1, bytes := List.replicate 64 1 } : GatherS)] } }, msg clsCASK 5 2 (List.replicate 8 0 ++ [1, 0, 0, 0, 7] ++ List.replicate 3 0 ++ [64] ++ List.replicate 31 0), after (let s := withMsg (mach 5000) (msg clsCASK 5 2 (List.replicate 8 0 ++ [1, 0, 0, 0, 7] ++ List.replicate 3 0 ++ [64] ++ List.replicate 31 0)); { s with rng := { s.rng with gather := [({ port := 0, src := 5, uid := 0, ring := 7, pcn := 1, bytes := List.replicate 64 1 } : GatherS)] } }) clsCASK 2, { port := 0, src := 5, uid := 0, ring := 7, pcn := 1, bytes := List.replicate 64 1 }, by decide +kernel⟩,
   ⟨withMsg (mach 5000) (msg clsCASK 5 2 (List.replicate 8 0 ++ toLe 4 (2 ^ 32 - 1) ++ [7] ++ List.replicate 35 0)), msg clsCASK 5 2 (List.replicate 8 0 ++ toLe 4 (2 ^ 32 - 1) ++ [7] ++ List.replicate 35 0), after (withMsg (mach 5000) (msg clsCASK 5 2 (List.replicate 8 0 ++ toLe 4 (2 ^ 32 - 1) ++ [7] ++ List.replicate 35 0))) clsCASK 2, by decide +kernel⟩,
   ⟨withMsg (mach 5000) (msg clsCASKACK 5 1 (List.replicate 12 0 ++ [7] ++ List.replicate 3 0)), msg clsCASKACK 5 1 (List.replicate 12 0 ++ [7] ++ List.replicate 3 0), after (withMsg (mach 5000) (msg clsCASKACK 5 1 (List.replicate 12 0 ++ [7] ++ List.replicate 3 0))) clsCASKACK 1, { (after (withMsg (mach 5000) (msg clsCASKACK 5 1 (List.replicate 12 0 ++ [7] ++ List.replicate 3 0))) clsCASKACK 1) with rng := { ((after (withMsg (mach 5000) (msg clsCASKACK 5 1 (List.replicate 12 0 ++ [7] ++ List.replicate 3 0))) clsCASKACK 1)).rng with fwd := ((after (withMsg (mach 5000) (msg clsCASKACK 5 1 (List.replicate 12 0 ++ [7] ++ List.replicate 3 0))) clsCASKACK 1)).rng.fwd.filter fun c => !(c.uid == leAt ((msg clsCASKACK 5 1 (List.replicate 12 0 ++ [7] ++ List.replicate 3 0))).body 0 8 && c.ring == leAt ((msg clsCASKACK 5 1 (List.replicate 12 0 ++ [7] ++ List.replicate 3 0))).body 12 1 && c.pcn == leAt ((msg clsCASKACK 5 1 (List.replicate 12 0 ++ [7] ++ List.replicate 3 0))).body 8 4) } }, by decide +kernel⟩,
   ⟨withMsg (mach 5000) (msg clsEVENT 5 1 (List.replicate 8 0 ++ [4] ++ List.replicate 39 0)), msg clsEVENT 5 1 (List.replicate 8 0 ++ [4] ++ List.replicate 39 0), after (withMsg (mach 5000) (msg clsEVENT 5 1 (List.replicate 8 0 ++ [4] ++ List.replicate 39 0))) clsEVENT 1, 0, by decide +kernel⟩,
   ⟨withMsg (mach 5000) (msg clsSIGNAL 5 1 (toLe 8 77)), msg clsSIGNAL 5 1 (toLe 8 77), after (withMsg (mach 5000) (msg clsSIGNAL 5 1 (toLe 8 77))) clsSIGNAL 1, by decide +kernel⟩,
   ⟨let s := withMsg (ctxd (mach 5000) 3 { state := ctxACTIVE, uid := 44 }) (msg clsSIGNAL 5 2 ([44, 0, 0, 0, 0, 0, 0, 0, 9] ++ List.replicate 15 0)); { s with psc := { s.psc with ents := [{ burst with tid := 3 }] } }, msg clsSIGNAL 5 2 ([44, 0, 0, 0, 0, 0, 0, 0, 9] ++ List.replicate 15 0), after (let s := withMsg (ctxd (mach 5000) 3 { state := ctxACTIVE, uid := 44 }) (msg clsSIGNAL 5 2 ([44, 0, 0, 0, 0, 0, 0, 0, 9] ++ List.replicate 15 0)); { s with psc := { s.psc with ents := [{ burst with tid := 3 }] } }) clsSIGNAL 2, 3, by decide +kernel⟩⟩

theorem wit_ElectionsComplete :
    (∃ (s : State) (u : _) (p : _) (n : _) (b : _), s.Hears 1 p n b u ∧ n < u.rol.round) ∧
    (∃ (s : State) (u : _) (p : _) (n : _) (b : _), s.Hears 1 p n b u ∧ u.rol.round < n) ∧
    (∃ (s : State) (u : _) (p : _) (n : _) (b : _) (r : _), s.Hears 1 p n b u ∧ u.rol.round = n ∧ u.rol.cur = some r ∧ r.takes (candOf b) (leAt b 24 1) (leAt b 25 1 % 4) p = true) ∧
    (∃ (s : State) (u : _) (p : _) (n : _) (b : List Nat) (r : _), s.Hears 2 p n b u ∧ u.rol.round = n ∧ u.rol.cur = some r ∧ r.reported = false ∧ r.adopted = false) ∧
    (∃ (s : State) (u : _) (p : _) (n : _) (b : List Nat) (r : _), s.Hears 2 p n b u ∧ u.rol.round = n ∧ u.rol.cur = some r ∧ r.reported = true) ∧
    (∃ (s : State) (u : _) (p : _) (n : _) (b : List Nat) (r : _), s.Hears 3 p n b u ∧ u.rol.round = n ∧ u.rol.cur = some r) ∧
    (∃ (s : State) (u : _) (p : _) (n : _) (b : _) (r : _), s.Hears 4 p n b u ∧ u.rol.round = n ∧ u.rol.cur = some r ∧ (r.children.any fun c => c.port == p) = true) ∧
    (∃ (s : State) (r : _) (p : _), s.hkRuns = true ∧ s.rol.cur = some r ∧ r.reported = false ∧ r.adopted = false ∧ r.last + 1000000 ≤ s.elapsed ∧ (r.children.all fun c => c.report.isSome) = true ∧ r.parent = some p) ∧
    (∃ (s : State) (r : _), s.hkRuns = true ∧ s.rol.cur = some r ∧ r.reported = false ∧ r.adopted = false ∧ r.last + 1000000 ≤ s.elapsed ∧ (r.children.all fun c => c.report.isSome) = true ∧ r.parent = none) ∧
    (∃ (s : State) (u : _) (p : _) (n : _) (b : _) (r : _), s.Hears 5 p n b u ∧ u.rol.round = n ∧ u.rol.cur = some r ∧ r.parent = some p ∧ r.adopted = false ∧ r.children = []) ∧
    (∃ (s : State) (u : _) (p : _) (n : _) (b : _) (r : _), s.Hears 6 p n b u ∧ u.rol.round = n ∧ u.rol.cur = some r ∧ leAt b 0 4 = u.g ROL_EPOCH ∧ r.adopted = true ∧ (r.children.all fun c => c.acked || c.port == p) = true ∧ r.parent = none) ∧
    (∃ (s : State), s.Accepts rROL_CTL 1 ∧ s.awake.mayElect = true ∧ (s.awake.g ROL_STS_ROLE = roleKEYSTONE ∨ s.awake.g ROL_STS_ROLE = roleISOLATED)) ∧
    (∃ (s : State), s.sys.hostLink = false ∧ 4 ≤ s.g BOOT_STS_STAGE ∧ s.sys.pmicEn = true) ∧
    (∃ (s : State) (p : _) (x : _), p < 4 ∧ (s.port p).holdAt = some x ∧ s.g (BND_PSTS_STATE p) = bsHOLD ∧ (s.port p).splitDone = false ∧ x + 1000000 * (s.port p).splitMs ≤ s.elapsed ∧ s.treeLink p = true ∧ s.mayElect = true) ∧
    (∃ (s : State) (p : _) (x : _), p < 4 ∧ (s.port p).holdAt = some x ∧ s.g (BND_PSTS_STATE p) = bsHOLD ∧ x + 1000000 * (s.port p).retryMs ≤ s.elapsed ∧ (s.port p).step ≠ 5) ∧
    (∃ (s : State) (p : _) (x : _), p < 4 ∧ (s.port p).holdAt = none ∧ (s.port p).dormantAt = some x ∧ x + 1000000 * (s.port p).retryMs ≤ s.elapsed ∧ s.mayElect = true) :=
  ⟨⟨hears (inRnd (mach 5000) 4 round0) 1 3 (List.replicate 32 0), after (hears (inRnd (mach 5000) 4 round0) 1 3 (List.replicate 32 0)) 3 1, 1, 3, List.replicate 32 0, by decide +kernel⟩,
   ⟨hears (inRnd (mach 5000) 4 round0) 1 7 (List.replicate 32 0), after (hears (inRnd (mach 5000) 4 round0) 1 7 (List.replicate 32 0)) 3 1, 1, 7, List.replicate 32 0, by decide +kernel⟩,
   ⟨hears (inRnd (mach 5000) 4 round0) 1 4 ([1, 200] ++ List.replicate 30 1), after (hears (inRnd (mach 5000) 4 round0) 1 4 ([1, 200] ++ List.replicate 30 1)) 3 1, 1, 4, [1, 200] ++ List.replicate 30 1, round0, by decide +kernel⟩,
   ⟨hears (inRnd (mach 5000) 4 round0) 2 4 [], after (hears (inRnd (mach 5000) 4 round0) 2 4 []) 3 2, 1, 4, [], round0, by decide +kernel⟩,
   ⟨hears (inRnd (mach 5000) 4 { round0 with reported := true }) 2 4 [], after (hears (inRnd (mach 5000) 4 { round0 with reported := true }) 2 4 []) 3 2, 1, 4, [], { round0 with reported := true }, by decide +kernel⟩,
   ⟨hears (inRnd (mach 5000) 4 { round0 with children := [{ port := 1 }] }) 3 4 [], after (hears (inRnd (mach 5000) 4 { round0 with children := [{ port := 1 }] }) 3 4 []) 3 3, 1, 4, [], { round0 with children := [{ port := 1 }] }, by decide +kernel⟩,
   ⟨hears (inRnd (mach 5000) 4 { round0 with children := [{ port := 1 }] }) 4 4 ([1] ++ List.replicate 47 0), after (hears (inRnd (mach 5000) 4 { round0 with children := [{ port := 1 }] }) 4 4 ([1] ++ List.replicate 47 0)) 3 4, 1, 4, [1] ++ List.replicate 47 0, { round0 with children := [{ port := 1 }] }, by decide +kernel⟩,
   ⟨inRnd (mach 2000000) 4 { round0 with parent := some 1 }, { round0 with parent := some 1 }, 1, by decide +kernel⟩,
   ⟨inRnd (mach 2000000) 4 round0, round0, by decide +kernel⟩,
   ⟨hears (inRnd (mach 5000) 4 { round0 with parent := some 1 }) 5 4 (List.replicate 18 0 ++ [1] ++ List.replicate 37 0), after (hears (inRnd (mach 5000) 4 { round0 with parent := some 1 }) 5 4 (List.replicate 18 0 ++ [1] ++ List.replicate 37 0)) 3 5, 1, 4, List.replicate 18 0 ++ [1] ++ List.replicate 37 0, { round0 with parent := some 1 }, by decide +kernel⟩,
   ⟨hears (inRnd (mach 5000) 4 { round0 with adopted := true, children := [{ port := 1 }] }) 6 4 (List.replicate 8 0), after (hears (inRnd (mach 5000) 4 { round0 with adopted := true, children := [{ port := 1 }] }) 6 4 (List.replicate 8 0)) 3 6, 1, 4, List.replicate 8 0, { round0 with adopted := true, children := [{ port := 1 }] }, by decide +kernel⟩,
   ⟨key 5000, by decide +kernel⟩,
   ⟨let s := mach 5000; { s with sys := { s.sys with pmicEn := true } }, by decide +kernel⟩,
   ⟨flds { inPort (key 50000000) { holdAt := some 5 } bsHOLD with rol := { (key 0).rol with dir := [{ leader with pos := 0, parent := 0 }, { leader with pos := 2, parent := 0, pport := 0 }] } } [(ROL_STS_POSVALID, 1)], 0, 5, by decide +kernel⟩,
   ⟨inPort (key 900000000) { holdAt := some 5, step := 2 } bsHOLD, 0, 5, by decide +kernel⟩,
   ⟨inPort (mach 900000000) { dormantAt := some 5 } bsTRAINING, 0, 5, by decide +kernel⟩⟩

theorem wit_ConfigExchangesComplete :
    (∃ (s : State) (m : _) (u : _), s.takeMsg clsCONFIG cfPREPARE = some (m, u) ∧ u.fromLeader m.src = false) ∧
    (∃ (s : State) (m : _) (u : _), s.Asked cfPREPARE m u ∧ leAt m.body 4 1 ∈ [1, 3, 4]) ∧
    (∃ (s : State) (m : _) (u : _), s.Asked cfPREPARE m u ∧ (leAt m.body 4 1 = 0 ∨ 4 < leAt m.body 4 1)) ∧
    (∃ (s : State) (m : _) (u : _) (r : _), s.Answers cfPREPARED [cfPREPARE] m r u) ∧
    (∃ (s : State) (m : _) (u : _), s.Asked cfCOMMIT m u ∧ u.rol.prepared = none) ∧
    (∃ (s : State) (m : _) (u : _) (src : _) (kind : _) (gen : _) (item : _) (w : _), s.Asked cfCOMMIT m u ∧ u.rol.prepared = some (src, kind, gen, item) ∧ (({ u with rol := { u.rol with prepared := none } } : State).newGen gen).applyItem kind item (some (m.src, leAt m.body 0 2)) = (w, false)) ∧
    (∃ (s : State) (m : _) (u : _), s.Asked cfWITHDRAW m u) ∧
    (∃ (s : State) (m : _) (u : _) (c : _), s.Asked cfREGACCESS m u ∧ u.remoteRefused (nbit (leAt m.body 4 1) 0) (leAt m.body 8 4) (Word.ofNat (leAt m.body 12 4)) = some c) ∧
    (∃ (s : State) (m : _) (u : _) (r : _), s.Asked cfREGACCESS m u ∧ nbit (leAt m.body 4 1) 0 = false ∧ u.remoteRefused false (leAt m.body 8 4) (Word.ofNat (leAt m.body 12 4)) = none ∧ r = u.bar0Read (leAt m.body 8 4)) ∧
    (∃ (s : State) (m : _) (u : _) (r : _), s.Answers cfREGRESULT [cfREGACCESS] m r u ∧ nbit (leAt r.body 4 1) 0 = false ∧ leAt m.body 4 1 = OK) ∧
    (∃ (s : State) (m : _) (u : _), s.Asked cfSTATE m u ∧ leAt m.body 4 1 = 1) ∧
    (∃ (s : State) (m : _) (u : _), s.Asked cfSTATE m u ∧ leAt m.body 4 1 = 2) ∧
    (∃ (s : State) (m : _) (u : _) (v : State), s.Asked cfGENSET m u ∧ v = ({ u.applyTransfer with rol := { u.applyTransfer.rol with defs := [], binds := [] } } : State)) ∧
    (∃ (s : State) (m : _) (u : _) (r : _), s.Answers cfGENACK [cfGENSET] m r u) ∧
    (∃ (s : State) (m : _) (u : _) (r : _), s.Answers cfACK [cfCOMMIT, cfWITHDRAW, cfSTATE] m r u ∧ r.ty ≠ cfCOMMIT) ∧
    (∃ (s : State) (m : _) (u : _) (r : _), s.Answers cfACK [cfCOMMIT, cfWITHDRAW, cfSTATE] m r u ∧ r.ty = cfCOMMIT) ∧
    (∃ (s : State) (tag : _) (r : _), (s.rol.reqs.find? fun k => k.tag == tag) = some r ∧ s.remtmo r.at_ = true ∧ r.resent = false ∧ r.ty ≠ cfPREPARE) ∧
    (∃ (s : State) (tag : _) (r : _), (s.rol.reqs.find? fun k => k.tag == tag) = some r ∧ s.remtmo r.at_ = true ∧ (r.resent = true ∨ r.ty = cfPREPARE)) ∧
    (∃ (s : State) (wr : _), s.Accepts rROL_RSCTL (Word.ofNat (1 + 2 * b2n wr)) ∧ s.awake.goRefused wr = none) ∧
    (∃ (s : State) (wr : _) (c : _), s.Accepts rROL_RSCTL (Word.ofNat (1 + 2 * b2n wr)) ∧ s.awake.goRefused wr = some c) ∧
    (∃ (s : State), s.Accepts rROL_CTL 2) ∧
    (∃ (s : State), s.hkRuns = true ∧ s.rol.xferAt.isSome = true ∧ s.rol.cur = none ∧ s.g ROL_STS_ROLE = roleKEYSTONE) ∧
    (∃ (s : State), s.sys.hostLink = true) :=
  ⟨⟨withMsg (mach 5000) (msg clsCONFIG 5 cfPREPARE [1, 0, 0, 0]), msg clsCONFIG 5 cfPREPARE [1, 0, 0, 0], after (withMsg (mach 5000) (msg clsCONFIG 5 cfPREPARE [1, 0, 0, 0])) clsCONFIG cfPREPARE, by decide +kernel⟩,
   ⟨led (mach 5000) cfPREPARE ([1, 0, 0, 0, 1, 0, 0, 0] ++ List.replicate 68 1), msg clsCONFIG 5 cfPREPARE ([1, 0, 0, 0, 1, 0, 0, 0] ++ List.replicate 68 1), after (led (mach 5000) cfPREPARE ([1, 0, 0, 0, 1, 0, 0, 0] ++ List.replicate 68 1)) clsCONFIG cfPREPARE, by decide +kernel⟩,
   ⟨led (mach 5000) cfPREPARE [1, 0, 0, 0, 5, 0, 0, 0], msg clsCONFIG 5 cfPREPARE [1, 0, 0, 0, 5, 0, 0, 0], after (led (mach 5000) cfPREPARE [1, 0, 0, 0, 5, 0, 0, 0]) clsCONFIG cfPREPARE, by decide +kernel⟩,
   ⟨asking (led (mach 5000) cfPREPARED [3, 0, 0, 0, 0, 0, 0, 0]) (asked cfPREPARE), msg clsCONFIG 5 cfPREPARED [3, 0, 0, 0, 0, 0, 0, 0], after (asking (led (mach 5000) cfPREPARED [3, 0, 0, 0, 0, 0, 0, 0]) (asked cfPREPARE)) clsCONFIG cfPREPARED, asked cfPREPARE, by decide +kernel⟩,
   ⟨led (mach 5000) cfCOMMIT [1, 0, 0, 0, 0, 0, 0, 0], msg clsCONFIG 5 cfCOMMIT [1, 0, 0, 0, 0, 0, 0, 0], after (led (mach 5000) cfCOMMIT [1, 0, 0, 0, 0, 0, 0, 0]) clsCONFIG cfCOMMIT, by decide +kernel⟩,
   ⟨let s := led (mach 5000) cfCOMMIT [1, 0, 0, 0, 0, 0, 0, 0]; { s with rol := { s.rol with prepared := some (5, 1, 9, toLe 2 3 ++ List.replicate 62 0) } }, msg clsCONFIG 5 cfCOMMIT [1, 0, 0, 0, 0, 0, 0, 0], after (let s := led (mach 5000) cfCOMMIT [1, 0, 0, 0, 0, 0, 0, 0]; { s with rol := { s.rol with prepared := some (5, 1, 9, toLe 2 3 ++ List.replicate 62 0) } }) clsCONFIG cfCOMMIT, 5, 1, 9, toLe 2 3 ++ List.replicate 62 0, ((({ (after (let s := led (mach 5000) cfCOMMIT [1, 0, 0, 0, 0, 0, 0, 0]; { s with rol := { s.rol with prepared := some (5, 1, 9, toLe 2 3 ++ List.replicate 62 0) } }) clsCONFIG cfCOMMIT) with rol := { ((after (let s := led (mach 5000) cfCOMMIT [1, 0, 0, 0, 0, 0, 0, 0]; { s with rol := { s.rol with prepared := some (5, 1, 9, toLe 2 3 ++ List.replicate 62 0) } }) clsCONFIG cfCOMMIT)).rol with prepared := none } } : State).newGen 9).applyItem 1 (toLe 2 3 ++ List.replicate 62 0) (some (5, 1))).1, by decide +kernel⟩,
   ⟨led (mach 5000) cfWITHDRAW [1, 0, 0, 0], msg clsCONFIG 5 cfWITHDRAW [1, 0, 0, 0], after (led (mach 5000) cfWITHDRAW [1, 0, 0, 0]) clsCONFIG cfWITHDRAW, by decide +kernel⟩,
   ⟨led (mach 5000) cfREGACCESS ([1, 0, 0, 0, 0, 0, 0, 0] ++ toLe 4 0x3E000 ++ [0, 0, 0, 0]), msg clsCONFIG 5 cfREGACCESS ([1, 0, 0, 0, 0, 0, 0, 0] ++ toLe 4 0x3E000 ++ [0, 0, 0, 0]), after (led (mach 5000) cfREGACCESS ([1, 0, 0, 0, 0, 0, 0, 0] ++ toLe 4 0x3E000 ++ [0, 0, 0, 0])) clsCONFIG cfREGACCESS, OUT_OF_RANGE, by decide +kernel⟩,
   ⟨led (mach 5000) cfREGACCESS ([1, 0, 0, 0, 0, 0, 0, 0] ++ toLe 4 0x3D000 ++ [0, 0, 0, 0]), msg clsCONFIG 5 cfREGACCESS ([1, 0, 0, 0, 0, 0, 0, 0] ++ toLe 4 0x3D000 ++ [0, 0, 0, 0]), after (led (mach 5000) cfREGACCESS ([1, 0, 0, 0, 0, 0, 0, 0] ++ toLe 4 0x3D000 ++ [0, 0, 0, 0])) clsCONFIG cfREGACCESS, ((after (led (mach 5000) cfREGACCESS ([1, 0, 0, 0, 0, 0, 0, 0] ++ toLe 4 0x3D000 ++ [0, 0, 0, 0])) clsCONFIG cfREGACCESS)).bar0Read (leAt ((msg clsCONFIG 5 cfREGACCESS ([1, 0, 0, 0, 0, 0, 0, 0] ++ toLe 4 0x3D000 ++ [0, 0, 0, 0]))).body 8 4), by decide +kernel⟩,
   ⟨asking (led (mach 5000) cfREGRESULT ([3, 0, 0, 0, 0, 0, 0, 0] ++ toLe 4 0xABCD)) (asked cfREGACCESS), msg clsCONFIG 5 cfREGRESULT ([3, 0, 0, 0, 0, 0, 0, 0] ++ toLe 4 0xABCD), after (asking (led (mach 5000) cfREGRESULT ([3, 0, 0, 0, 0, 0, 0, 0] ++ toLe 4 0xABCD)) (asked cfREGACCESS)) clsCONFIG cfREGRESULT, asked cfREGACCESS, by decide +kernel⟩,
   ⟨led (mach 5000) cfSTATE ([1, 0, 0, 0, 1, 0, 1, 0] ++ List.replicate 64 1), msg clsCONFIG 5 cfSTATE ([1, 0, 0, 0, 1, 0, 1, 0] ++ List.replicate 64 1), after (led (mach 5000) cfSTATE ([1, 0, 0, 0, 1, 0, 1, 0] ++ List.replicate 64 1)) clsCONFIG cfSTATE, by decide +kernel⟩,
   ⟨led (mach 5000) cfSTATE ([1, 0, 0, 0, 2, 0, 1, 0] ++ List.replicate 24 1), msg clsCONFIG 5 cfSTATE ([1, 0, 0, 0, 2, 0, 1, 0] ++ List.replicate 24 1), after (led (mach 5000) cfSTATE ([1, 0, 0, 0, 2, 0, 1, 0] ++ List.replicate 24 1)) clsCONFIG cfSTATE, by decide +kernel⟩,
   ⟨led (mach 5000) cfGENSET [1, 0, 0, 0, 9, 0, 0, 0], msg clsCONFIG 5 cfGENSET [1, 0, 0, 0, 9, 0, 0, 0], after (led (mach 5000) cfGENSET [1, 0, 0, 0, 9, 0, 0, 0]) clsCONFIG cfGENSET, { ((after (led (mach 5000) cfGENSET [1, 0, 0, 0, 9, 0, 0, 0]) clsCONFIG cfGENSET)).applyTransfer with rol := { ((after (led (mach 5000) cfGENSET [1, 0, 0, 0, 9, 0, 0, 0]) clsCONFIG cfGENSET)).applyTransfer.rol with defs := [], binds := [] } }, by decide +kernel⟩,
   ⟨asking (led (mach 5000) cfGENACK [3, 0, 0, 0, 9, 0, 0, 0]) (asked cfGENSET), msg clsCONFIG 5 cfGENACK [3, 0, 0, 0, 9, 0, 0, 0], after (asking (led (mach 5000) cfGENACK [3, 0, 0, 0, 9, 0, 0, 0]) (asked cfGENSET)) clsCONFIG cfGENACK, asked cfGENSET, by decide +kernel⟩,
   ⟨asking (led (mach 5000) cfACK [3, 0, 0, 0, 0, 0, 0, 0]) (asked cfSTATE), msg clsCONFIG 5 cfACK [3, 0, 0, 0, 0, 0, 0, 0], after (asking (led (mach 5000) cfACK [3, 0, 0, 0, 0, 0, 0, 0]) (asked cfSTATE)) clsCONFIG cfACK, asked cfSTATE, by decide +kernel⟩,
   ⟨asking (led (mach 5000) cfACK [3, 0, 0, 0, 0, 0, 0, 0]) (asked cfCOMMIT), msg clsCONFIG 5 cfACK [3, 0, 0, 0, 0, 0, 0, 0], after (asking (led (mach 5000) cfACK [3, 0, 0, 0, 0, 0, 0, 0]) (asked cfCOMMIT)) clsCONFIG cfACK, asked cfCOMMIT, by decide +kernel⟩,
   ⟨asking (mach 900000000) (asked cfCOMMIT), 3, asked cfCOMMIT, by decide +kernel⟩,
   ⟨asking (mach 900000000) (asked cfPREPARE), 3, asked cfPREPARE, by decide +kernel⟩,
   ⟨flds { key 5000 with rol := { (key 0).rol with dir := [{ leader with pos := 0, parent := 0 }, { leader with pos := 5, parent := 0, pport := 0 }] } } [(BND_PSTS_STATE 0, bsACTIVE), (ROL_RSPOS, 5), (ROL_STS_POSVALID, 1)], false, by decide +kernel⟩,
   ⟨key 5000, true, LINK_DOWN, by decide +kernel⟩,
   ⟨mach 5000, by decide +kernel⟩,
   ⟨let s := key 5000; { s with rol := { s.rol with xferAt := some 0 } }, by decide +kernel⟩,
   ⟨let s := mach 5000; { s with sys := { s.sys with hostLink := true } }, by decide +kernel⟩⟩

theorem wit_ClocksAndResetsComplete :
    (∃ (s : State) (j : _), (s.rng.jobs.find? fun k => !k.started) = some j) ∧
    (∃ (s : State), s.on CLK_STS_XINOK = true ∧ s.sys.pstate ≠ .off) ∧
    (∃ (s : State), s.on CLK_STS_XINOK = false ∧ s.sys.pstate ≠ .off ∧ s.g BOOT_STS_STAGE ≠ 0) ∧
    (∃ (s : State), s.on CLK_STS_XINOK = true ∧ s.on CLK_STS_ROOTLOCK = true) ∧
    (∃ (s : State), s.sys.pllEn = true ∧ s.on CLK_STS_XINOK = true ∧ s.sys.rst = none ∧ s.sys.wake = 2) ∧
    (∃ (s : State) (r : RstS), s.sys.pllEn = true ∧ s.on CLK_STS_XINOK = true ∧ s.sys.rst = some r ∧ r.kind = .warm ∧ r.step = 2) ∧
    (∃ (s : State), s.Accepts rRST_CTL 0x5A01 ∧ s.awake.g BOOT_STS_STAGE = 9 ∧ s.awake.sys.rst = none ∧ s.awake.sys.rstReq = none) ∧
    (∃ (s : State), s.Accepts rRST_CTL 0x5A02 ∧ s.awake.g BOOT_STS_STAGE = 9 ∧ s.awake.sys.rst = none ∧ s.awake.sys.rstReq = none) ∧
    (∃ (s : State), s.Accepts rRST_CTL 0x5A04 ∧ s.awake.g BOOT_STS_STAGE = 9 ∧ s.awake.sys.rst = none ∧ s.awake.mayReset = true) ∧
    (∃ (s : State), s.Accepts rRST_CTL 0x5A01 ∧ s.awake.g BOOT_STS_STAGE < 9) ∧
    (∃ (s : State) (k : RKind) (x : _), s.sys.rstReq = some (k, x) ∧ x ≤ s.elapsed) ∧
    (∃ (s : State) (r : RstS), s.sys.rst = some r ∧ r.kind ≠ .hk ∧ r.step = 1 ∧ r.t0 + 2000 ≤ s.elapsed) ∧
    (∃ (s : State) (r : RstS), s.sys.rst = some r ∧ r.kind = .warm ∧ r.step = 4) ∧
    (∃ (s : State), s.coreRuns = true ∧ s.sys.rst = none ∧ s.g BOOT_STS_STAGE = 9 ∧ s.sys.lastWdt = none) ∧
    (∃ (s : State) (x : _), s.coreRuns = true ∧ s.sys.rst = none ∧ s.g BOOT_STS_STAGE = 9 ∧ s.sys.lastWdt = some x ∧ s.elapsed ≤ x + 10000000000) :=
  ⟨⟨placed (mach 5000) (job 0 1 [] []), { (job 0 1 [] []) with started := false }, by decide +kernel⟩,
   ⟨flds (up9 5000) [(CLK_STS_XINOK, 1)], by decide +kernel⟩,
   ⟨flds (mach 5000) [(BOOT_STS_STAGE, 1), (CLK_STS_ROSC, 1), (CLK_STS_XINOK, 0)], by decide +kernel⟩,
   ⟨flds (up9 5000) [(CLK_STS_XINOK, 1), (CLK_STS_ROOTLOCK, 1)], by decide +kernel⟩,
   ⟨sysd (flds (up9 5000) [(CLK_STS_XINOK, 1)]) (fun y => { y with pllEn := true, wake := 2 }), by decide +kernel⟩,
   ⟨sysd (flds (up9 5000) [(CLK_STS_XINOK, 1)]) (fun y => { y with pllEn := true, rst := some { kind := .warm, src := 2, step := 2, t0 := 0 } }), { kind := .warm, src := 2, step := 2, t0 := 0 }, by decide +kernel⟩,
   ⟨up9 5000, by decide +kernel⟩,
   ⟨up9 5000, by decide +kernel⟩,
   ⟨up9 5000, by decide +kernel⟩,
   ⟨mach 5000, by decide +kernel⟩,
   ⟨sysd (up9 5000) (fun y => { y with rstReq := some (.core, 5) }), .core, 5, by decide +kernel⟩,
   ⟨sysd (up9 5000) (fun y => { y with rst := some { kind := .warm, src := 2, step := 1, t0 := 0 } }), { kind := .warm, src := 2, step := 1, t0 := 0 }, by decide +kernel⟩,
   ⟨sysd (up9 5000) (fun y => { y with rst := some { kind := .warm, src := 2, step := 4, t0 := 0 } }), { kind := .warm, src := 2, step := 4, t0 := 0 }, by decide +kernel⟩,
   ⟨up9 5000, by decide +kernel⟩,
   ⟨sysd (up9 5000) (fun y => { y with lastWdt := some 0 }), 0, by decide +kernel⟩⟩

theorem wit_PowerStatesComplete :
    (∃ (s : State), s.Accepts rPWR_CTL 0 ∧ s.awake.sys.entry = none) ∧
    (∃ (s : State) (e : EntryS), s.Accepts rPWR_CTL 0 ∧ s.awake.sys.entry = some e) ∧
    (∃ (s : State), s.Accepts rPWR_CTL 1 ∧ s.awake.g PWR_STS_PHASE = 0 ∧ s.awake.sys.pstate = .run ∧ s.awake.sys.hostLink = true ∧ s.awake.refusedAt1 .doze = none) ∧
    (∃ (s : State), s.Accepts rPWR_CTL 0x5A02 ∧ s.awake.g PWR_STS_PHASE = 0 ∧ s.awake.sys.pstate = .run ∧ s.awake.refusedAt1 .watch = none) ∧
    (∃ (s : State), s.Accepts rPWR_CTL 0x5A03 ∧ s.awake.g PWR_STS_PHASE = 0 ∧ s.awake.sys.pstate = .run ∧ s.awake.refusedAt1 .hibernate = none) ∧
    (∃ (s : State), s.Accepts rPWR_CTL 0x5A04 ∧ s.awake.g PWR_STS_PHASE = 0 ∧ s.awake.sys.pstate = .run ∧ s.awake.refusedAt1 .off = none) ∧
    (∃ (s : State) (c : _), s.Accepts rPWR_CTL 0x5A04 ∧ s.awake.g PWR_STS_PHASE = 0 ∧ s.awake.sys.pstate = .run ∧ s.awake.refusedAt1 .off = some c) ∧
    (∃ (s : State) (x : _), s.sys.isoAt = some x ∧ s.on PWR_CFG_AUTOT = true ∧ x + 1000000000 * s.g PWR_CFG_AUTOT ≤ s.elapsed ∧ s.coreRuns = true ∧ s.sys.pstate = .run ∧ s.g PWR_STS_PHASE = 0 ∧ s.sys.rst = none) ∧
    (∃ (s : State) (e : EntryS), s.sys.entry = some e ∧ s.sys.wakeLatch % 512 = 0 ∧ e.step = 3 ∧ s.bondBusy = false ∧ s.undrained = false) ∧
    (∃ (s : State) (e : EntryS), s.sys.entry = some e ∧ s.sys.wakeLatch % 512 = 0 ∧ e.step = 3 ∧ e.t0 + msNs * s.g PWR_CFG_DRAINTO ≤ s.elapsed ∧ s.bondBusy = false ∧ s.undrained = true) ∧
    (∃ (s : State) (x : _), s.sys.wakeAtCt = some x ∧ x ≤ s.ct ∧ s.sys.pstate = .run ∧ s.sys.entry = none ∧ s.stage < 4 ∧ s.sys.wakeLatch = 0) ∧
    (∃ (s : State) (x : _), s.sys.wakeAtCt = some x ∧ x ≤ s.ct ∧ s.sys.pstate = .watch ∧ nbit (s.g PWR_WAKECFG_EN) 5 = true ∧ s.sys.entry = none ∧ s.mayWake = true ∧ s.sys.wakeRetry = none) ∧
    (∃ (s : State) (e : EntryS) (l2 : _), s.sys.entry = some e ∧ s.sys.wakeLatch % 512 = 0 ∧ e.step = 4 ∧ (s.sys.hostLink = false ∨ l2 = true) ∧ s.refusedAt5 e.target = none) ∧
    (∃ (s : State) (e : EntryS) (l2 : _) (c : _), s.sys.entry = some e ∧ s.sys.wakeLatch % 512 = 0 ∧ e.step = 4 ∧ (s.sys.hostLink = false ∨ l2 = true) ∧ s.refusedAt5 e.target = some c) ∧
    (∃ (s : State) (bits : _), s.sys.pstate = .hibernate ∧ bits % 2 = 1 ∧ nbit (s.g PWR_WAKECFG_EN) 0 = true ∧ s.sys.entry = none ∧ s.mayWake = true ∧ s.sys.wakeRetry = none) ∧
    (∃ (s : State), s.sys.pmicEn = true ∧ s.sys.pmicPg = false) ∧
    (∃ (s : State), s.sys.wake = 3) ∧
    (∃ (s : State), s.sys.wake = 4 ∧ s.sys.rstPend = none) ∧
    (∃ (s : State), s.sys.wake = 1 ∧ s.sys.wakeRetry = none ∧ s.sys.wakeAt + 10 * msNs ≤ s.elapsed) ∧
    (∃ (s : State) (x : _), s.sys.wakeRetry = some x ∧ x + 100 * msNs ≤ s.elapsed ∧ s.sys.wakeShed = false) ∧
    (∃ (s : State), s.watchLive = true ∧ s.booting = false ∧ s.sys.pstate ≠ .off ∧ s.sys.watchCyc ≠ some (s.ct / 1000000000) ∧ (s.psc.ents.filter fun e => e.watch && e.src == exWHEEL) = [] ∧ s.ept.queue = [] ∧ s.rcg.queue = [] ∧ ((List.range 64).all fun b => (s.nextStart b).isNone) = true) :=
  ⟨⟨up9 5000, by decide +kernel⟩,
   ⟨sysd (up9 5000) (fun y => { y with entry := some { target := .watch, step := 3, t0 := 0 } }), { target := .watch, step := 3, t0 := 0 }, by decide +kernel⟩,
   ⟨sysd (up9 5000) (fun y => { y with hostLink := true }), by decide +kernel⟩,
   ⟨up9 5000, by decide +kernel⟩,
   ⟨up9 5000, by decide +kernel⟩,
   ⟨up9 5000, by decide +kernel⟩,
   ⟨placed (up9 5000) (job 0 1 [] []), 4, by decide +kernel⟩,
   ⟨sysd (flds (up9 9000000000000) [(PWR_CFG_AUTOT, 1)]) (fun y => { y with isoAt := some 0 }), 0, by decide +kernel⟩,
   ⟨sysd (up9 5000) (fun y => { y with entry := some { target := .watch, step := 3, t0 := 0 } }), { target := .watch, step := 3, t0 := 0 }, by decide +kernel⟩,
   ⟨sysd (rings (ctxd (up9 9000000000) 3 { state := ctxACTIVE, uid := 44 }) 3 { cpl := { state := rsRUNNING, ord := 4 }, cplPend := some [1] }) (fun y => { y with entry := some { target := .off, step := 3, t0 := 0 } }), { target := .off, step := 3, t0 := 0 }, by decide +kernel⟩,
   ⟨sysd (up9 5000) (fun y => { y with wakeAtCt := some 5000 }), 5000, by decide +kernel⟩,
   ⟨sysd (flds (up9 5000) [(PWR_WAKECFG_EN, 32)]) (fun y => { y with wakeAtCt := some 5000, pstate := .watch }), 5000, by decide +kernel⟩,
   ⟨sysd (up9 5000) (fun y => { y with entry := some { target := .hibernate, step := 4, t0 := 0 } }), { target := .hibernate, step := 4, t0 := 0 }, false, by decide +kernel⟩,
   ⟨placed (sysd (up9 5000) (fun y => { y with entry := some { target := .watch, step := 4, t0 := 0 } })) (job 0 1 [] []), { target := .watch, step := 4, t0 := 0 }, true, 4, by decide +kernel⟩,
   ⟨sysd (flds (up9 5000) [(PWR_WAKECFG_EN, 1)]) (fun y => { y with pstate := .hibernate }), 1, by decide +kernel⟩,
   ⟨sysd (up9 5000) (fun y => { y with pmicEn := true, wake := 1 }), by decide +kernel⟩,
   ⟨sysd (up9 5000) (fun y => { y with wake := 3, pstate := .hibernate }), by decide +kernel⟩,
   ⟨sysd (flds (up9 5000) [(PWR_STS_PHASE, 2)]) (fun y => { y with wake := 4, host := true, wakeLatch := 1 }), by decide +kernel⟩,
   ⟨sysd (up9 9000000000) (fun y => { y with wake := 1, pmicEn := true, pstate := .watch }), by decide +kernel⟩,
   ⟨sysd (up9 9000000000) (fun y => { y with wakeRetry := some 5, wakeLatch := 1, pstate := .watch }), 5, by decide +kernel⟩,
   ⟨sysd (up9 9000000000) (fun y => { y with pstate := .watch }), by decide +kernel⟩⟩

theorem wit_ShedAndThermalComplete :
    (∃ (s : State) (mv : _) (tj : Int), s.sys.pstate ≠ .off ∧ (s.measure mv tj).stage < (s.measure mv tj).wantStage) ∧
    (∃ (s : State) (mv : _) (tj : Int), s.sys.pstate ≠ .off ∧ (s.measure mv tj).wantStage ≤ (s.measure mv tj).stage) ∧
    (∃ (s : State) (mv : _) (tj : Int), s.sys.pstate ≠ .off ∧ s.stage ≠ 0 ∧ s.stage ≠ 5 ∧ (s.measure mv tj).trigOff s.stage = true ∧ s.sys.clearSince = none) ∧
    (∃ (s : State) (mv : _) (tj : Int) (x : _), s.sys.pstate ≠ .off ∧ s.stage ≠ 0 ∧ s.stage ≠ 5 ∧ (s.measure mv tj).trigOff s.stage = true ∧ s.sys.clearSince = some x ∧ x + msNs * s.g PWR_SHEDCFG_DWELL ≤ s.elapsed) ∧
    (∃ (s : State), s.sys.pstate ≠ .off ∧ s.stage ≠ 5) ∧
    (∃ (s : State), s.sys.pstate ≠ .off ∧ s.sys.pmicEn = true ∧ s.stage ≠ 5) ∧
    (∃ (s : State), s.sys.pstate ≠ .off ∧ s.stage = 0) ∧
    (∃ (s : State) (mv : _) (tj : Int), s.sys.pstate ≠ .off ∧ s.stage = 5 ∧ s.sys.final ≠ 1 ∧ (({ s with sys := { s.sys with pfailN := true } } : State).measure mv tj).trigOff 5 = false) ∧
    (∃ (s : State) (mv : _) (tj : Int), s.sys.pstate ≠ .off ∧ s.stage = 5 ∧ s.sys.final ≠ 1 ∧ s.sys.clearSince = none ∧ (({ s with sys := { s.sys with pfailN := true } } : State).measure mv tj).trigOff 5 = true) ∧
    (∃ (s : State) (mv : _) (tj : Int) (x : _), s.sys.pstate = .run ∧ s.stage = 5 ∧ s.sys.final ≠ 1 ∧ s.sys.clearSince = some x ∧ x + msNs * s.g PWR_SHEDCFG_DWELL ≤ s.elapsed ∧ s.sys.thermal = false ∧ (({ s with sys := { s.sys with pfailN := true } } : State).measure mv tj).trigOff 5 = true) ∧
    (∃ (s : State) (tj : Int), 150 ≤ tj ∧ s.sys.thermal = false ∧ s.sys.pstate ≠ .off ∧ s.sys.final = 0 ∧ s.programming = true) ∧
    (∃ (s : State) (tj : Int), 150 ≤ tj ∧ s.sys.thermal = false ∧ s.sys.pstate ≠ .off ∧ s.sys.final = 0 ∧ s.programming = false) ∧
    (∃ (s : State) (tj : Int), s.sys.thermal = true ∧ s.sys.final = 2 ∧ 130 < tj) ∧
    (∃ (s : State) (tj : Int), s.sys.thermal = true ∧ s.sys.final = 2 ∧ tj ≤ 130 ∧ s.sys.coolSince = none) ∧
    (∃ (s : State) (tj : Int) (x : _), s.sys.thermal = true ∧ s.sys.final = 2 ∧ tj ≤ 130 ∧ s.sys.coolSince = some x ∧ x + 1000000000 ≤ s.elapsed ∧ s.stage = 5) ∧
    (∃ (s : State) (tj : Int) (x : _), s.sys.thermal = true ∧ s.sys.final = 2 ∧ tj ≤ 130 ∧ s.sys.coolSince = some x ∧ x + 1000000000 ≤ s.elapsed ∧ s.stage < 4 ∧ s.sys.pstate = .run ∧ s.sys.wake = 0) ∧
    (∃ (s : State) (tj : Int) (o : _) (l : List NvOpS), 155 ≤ tj ∧ s.sys.thermal = true ∧ s.sys.final = 0 ∧ s.nvs.ops = o :: l) :=
  ⟨⟨up9 5000, 0, 200, by decide +kernel⟩,
   ⟨up9 5000, 4095, 20, by decide +kernel⟩,
   ⟨flds (up9 5000) [(PWR_STS_STAGE, 2)], 4095, -20, by decide +kernel⟩,
   ⟨sysd (flds (up9 900000000000) [(PWR_STS_STAGE, 2)]) (fun y => { y with clearSince := some 5 }), 4095, -20, 5, by decide +kernel⟩,
   ⟨up9 5000, by decide +kernel⟩,
   ⟨sysd (up9 5000) (fun y => { y with pmicEn := true, pmicPg := true }), by decide +kernel⟩,
   ⟨sysd (up9 5000) (fun y => { y with pfailN := false }), by decide +kernel⟩,
   ⟨sysd (flds (up9 5000) [(PWR_STS_STAGE, 5)]) (fun y => { y with pfailN := false, clearSince := some 5 }), 0, 20, by decide +kernel⟩,
   ⟨sysd (flds (up9 5000) [(PWR_STS_STAGE, 5)]) (fun y => { y with pfailN := false }), 4095, -20, by decide +kernel⟩,
   ⟨sysd (flds (up9 900000000000) [(PWR_STS_STAGE, 5)]) (fun y => { y with pfailN := false, clearSince := some 5, final := 2 }), 4095, -20, 5, by decide +kernel⟩,
   ⟨let s := up9 5000; { s with nvs := { s.nvs with ops := [opn] } }, 150, by decide +kernel⟩,
   ⟨up9 5000, 150, by decide +kernel⟩,
   ⟨sysd (up9 5000) (fun y => { y with thermal := true, final := 2, coolSince := some 3 }), 131, by decide +kernel⟩,
   ⟨sysd (up9 5000) (fun y => { y with thermal := true, final := 2 }), 130, by decide +kernel⟩,
   ⟨sysd (flds (up9 9000000000) [(PWR_STS_STAGE, 5)]) (fun y => { y with thermal := true, final := 2, coolSince := some 3 }), 130, 3, by decide +kernel⟩,
   ⟨sysd (up9 9000000000) (fun y => { y with thermal := true, final := 2, coolSince := some 3 }), 130, 3, by decide +kernel⟩,
   ⟨let s := sysd (up9 9000000000) (fun y => { y with thermal := true }); { s with nvs := { s.nvs with ops := [opn] } }, 155, opn, [], by decide +kernel⟩⟩

theorem wit_StoreCompletes :
    (∃ (s : State), s.Accepts rNVS_JCTL 0x80000000 ∧ s.awake.on NVS_STS_JRO = false ∧ s.awake.jroom = true) ∧
    (∃ (s : State), s.Accepts rNVS_JCTL 0x80000000 ∧ s.awake.on NVS_STS_JRO = true) ∧
    (∃ (s : State), s.Accepts rNVS_JCTL 0x80000000 ∧ s.awake.on NVS_STS_JRO = false ∧ s.awake.jroom = false) ∧
    (∃ (s : State) (r : _), s.Accepts rNVS_JCTL 0x40000000 ∧ (s.awake.nvs.jrecs.find? fun k => k.seq == s.awake.g64 NVS_JSEQLO NVS_JSEQHI) = some r) ∧
    (∃ (s : State), s.Accepts rNVS_JCTL 0x40000000 ∧ (s.awake.nvs.jrecs.find? fun k => k.seq == s.awake.g64 NVS_JSEQLO NVS_JSEQHI) = none) ∧
    (∃ (s : State) (q : _) (rest : List JqS), s.nvs.jq = q :: rest ∧ s.nvRuns = true ∧ s.sys.thermal = false ∧ (s.nvs.ops.any fun o => o.region == 5) = false ∧ s.nvs.erases = [] ∧ s.on NVS_STS_JRO = false) ∧
    (∃ (s : State) (o : _) (l : List NvOpS) (p : _), s.nvs.ops = o :: l ∧ o.tgt = some p ∧ o.second = false ∧ s.nvRuns = true ∧ s.sys.final = 0 ∧ s.sys.thermal = false) ∧
    (∃ (s : State) (o : NvOpS) (l : List NvOpS) (p : _), s.nvs.ops = o :: l ∧ o.tgt = some p ∧ o.second = true ∧ o.retried = false ∧ s.nvRuns = true ∧ s.sys.final = 0 ∧ s.sys.thermal = false) ∧
    (∃ (s : State) (o : NvOpS) (l : List NvOpS) (p : _), s.nvs.ops = o :: l ∧ o.tgt = some p ∧ o.retried = false ∧ s.mayRewrite o = true ∧ s.nvRuns = true ∧ s.sys.final = 0 ∧ s.sys.thermal = false) ∧
    (∃ (s : State) (o : NvOpS) (l : List NvOpS) (p : _), s.nvs.ops = o :: l ∧ o.tgt = some p ∧ o.retried = true ∧ s.nvRuns = true ∧ s.sys.final = 0 ∧ s.sys.thermal = false) ∧
    (∃ (s : State) (p : _) (rest : List Nat), s.nvs.erases = p :: rest ∧ s.nvs.ops = [] ∧ s.nvRuns = true ∧ s.sys.thermal = false) ∧
    (∃ (s : State), s.nvs.scanAt + 24 * cycHour ≤ s.time.cyc ∧ s.nvRuns = true ∧ s.sys.thermal = false ∧ s.sys.pstate = .run ∧ s.stage < 3) ∧
    (∃ (s : State), s.nvs.lifeAt + cycHour ≤ s.time.cyc ∧ s.nvRuns = true ∧ s.sys.thermal = false) :=
  ⟨⟨up9 5000, by decide +kernel⟩,
   ⟨flds (up9 5000) [(NVS_STS_JRO, 1)], by decide +kernel⟩,
   ⟨let s := up9 5000; { s with nvs := { s.nvs with jq := List.replicate 256 jrec } }, by decide +kernel⟩,
   ⟨let s := up9 5000; { s with nvs := { s.nvs with jrecs := [jsto] } }, jsto, by decide +kernel⟩,
   ⟨up9 5000, by decide +kernel⟩,
   ⟨let s := up9 5000; { s with nvs := { s.nvs with jq := [jrec] } }, jrec, [], by decide +kernel⟩,
   ⟨opsd (up9 5000) opn, opn, [], 5, by decide +kernel⟩,
   ⟨opsd (up9 5000) { opn with second := true }, { opn with second := true }, [], 5, by decide +kernel⟩,
   ⟨opsd (up9 5000) { opn with what := .refresh }, { opn with what := .refresh }, [], 5, by decide +kernel⟩,
   ⟨opsd (up9 5000) { opn with retried := true }, { opn with retried := true }, [], 5, by decide +kernel⟩,
   ⟨let s := up9 5000; { s with nvs := { s.nvs with erases := [7] } }, 7, [], by decide +kernel⟩,
   ⟨let s := up9 5000; { s with time := { s.time with cyc := 24 * cycHour } }, by decide +kernel⟩,
   ⟨let s := up9 5000; { s with time := { s.time with cyc := 24 * cycHour } }, by decide +kernel⟩⟩

theorem wit_BootCompletes :
    (∃ (s : State), s.sys.pstate ≠ .off ∧ s.sys.tap = false ∧ s.sys.final = 0 ∧ s.g BOOT_STS_STAGE ∈ [0, 2, 4, 5, 6, 7, 8]) ∧
    (∃ (s : State), s.sys.pstate ≠ .off ∧ s.sys.tap = false ∧ s.sys.final = 0 ∧ s.g BOOT_STS_STAGE = 1 ∧ s.on CLK_STS_XINOK = true ∧ s.sys.pmicPg = true ∧ s.on CLK_STS_ROOTLOCK = true) ∧
    (∃ (s : State), s.sys.pstate ≠ .off ∧ s.sys.tap = false ∧ s.sys.final = 0 ∧ s.g BOOT_STS_STAGE = 3) ∧
    (∃ (s : State), s.sys.pstate ≠ .off ∧ s.g BOOT_STS_STAGE = 1 ∧ s.on CLK_STS_XINOK = false ∧ s.past s.sys.porstAt 5000 = true) ∧
    (∃ (s : State), s.sys.pstate ≠ .off ∧ s.g BOOT_STS_STAGE = 1 ∧ s.on CLK_STS_XINOK = true ∧ s.sys.pgWait = false ∧ s.sys.pmicPg = false ∧ s.sys.pmicEn = true ∧ s.past s.sys.pmicAt 10000 = true) ∧
    (∃ (s : State), s.sys.pstate ≠ .off ∧ s.g BOOT_STS_STAGE = 1 ∧ s.on CLK_STS_XINOK = true ∧ s.sys.pgWait = true ∧ s.past s.sys.pmicAt 100000 = true) ∧
    (∃ (s : State), s.sys.pstate ≠ .off ∧ s.g BOOT_STS_STAGE = 3 ∧ s.past s.sys.pgAt 20000 = true) ∧
    (∃ (s : State), s.sys.hostLink = true ∧ s.g BOOT_STS_STAGE < 8) ∧
    (∃ (s : State), s.sys.hostLink = true ∧ 8 ≤ s.g BOOT_STS_STAGE) ∧
    (∃ (s : State) (ofs : _) (n : _), s.sys.hostLink = true ∧ 8 ≤ s.g BOOT_STS_STAGE ∧ s.cfgWord (ofs / 4 * 4) = some n) ∧
    (∃ (s : State), s.Accepts rBOOT_UPCTL 1 ∧ s.awake.g BOOT_UPSTS_STATE ≠ 1 ∧ s.awake.on MEM_CFG_EN = true) ∧
    (∃ (s : State), s.Accepts rBOOT_UPCTL 1 ∧ s.awake.g BOOT_UPSTS_STATE = 1) ∧
    (∃ (s : State), s.g BOOT_UPSTS_STATE = 1) ∧
    (∃ (s : State), s.g BOOT_UPSTS_STATE = 1 ∧ s.rgnWorn 1 = false) ∧
    (∃ (s : State), s.Accepts rBOOT_GCTL 1 ∧ s.awake.rgnWorn 2 = false ∧ s.awake.sw ≠ swSTORING ∧ s.awake.boot.gop = none) ∧
    (∃ (s : State), s.Accepts rBOOT_GCTL 2 ∧ s.awake.rgnWorn 2 = false ∧ s.awake.sw ≠ swSTORING ∧ s.awake.boot.gop = none) ∧
    (∃ (s : State) (b : List Nat), s.boot.gop = some b) ∧
    (∃ (s : State) (b : List Nat), s.boot.gop = some b) ∧
    (∃ (s : State) (ir : _), (ir = 0 ∨ ir = 3 ∨ ir = 4) ∧ s.sys.tap = false ∧ s.mayReset = true ∧ s.booting = false ∧ s.sys.rst = none) ∧
    (∃ (s : State) (ir : _), ir < 256 ∧ ir ≠ 0 ∧ ir ≠ 3 ∧ ir ≠ 4 ∧ s.sys.tap = true ∧ s.mayReset = true ∧ s.booting = false ∧ s.sys.rst = none) :=
  ⟨⟨flds (mach 5000) [(BOOT_STS_STAGE, 7)], by decide +kernel⟩,
   ⟨sysd (flds (mach 5000) [(BOOT_STS_STAGE, 1), (CLK_STS_XINOK, 1), (CLK_STS_ROOTLOCK, 1)]) (fun y => { y with pmicPg := true }), by decide +kernel⟩,
   ⟨flds (mach 5000) [(BOOT_STS_STAGE, 3)], by decide +kernel⟩,
   ⟨flds (late (mach 5000)) [(BOOT_STS_STAGE, 1), (CLK_STS_XINOK, 0)], by decide +kernel⟩,
   ⟨sysd (flds (late (mach 5000)) [(BOOT_STS_STAGE, 1), (CLK_STS_XINOK, 1)]) (fun y => { y with pmicEn := true }), by decide +kernel⟩,
   ⟨sysd (flds (late (mach 5000)) [(BOOT_STS_STAGE, 1), (CLK_STS_XINOK, 1)]) (fun y => { y with pgWait := true }), by decide +kernel⟩,
   ⟨flds (late (mach 5000)) [(BOOT_STS_STAGE, 3)], by decide +kernel⟩,
   ⟨sysd (flds (mach 5000) [(BOOT_STS_STAGE, 7)]) (fun y => { y with hostLink := true }), by decide +kernel⟩,
   ⟨sysd (mach 5000) (fun y => { y with hostLink := true }), by decide +kernel⟩,
   ⟨sysd (mach 5000) (fun y => { y with hostLink := true }), 0, 0x71401F8A, by decide +kernel⟩,
   ⟨flds (up9 5000) [(MEM_CFG_EN, 1)], by decide +kernel⟩,
   ⟨flds (up9 5000) [(BOOT_UPSTS_STATE, 1)], by decide +kernel⟩,
   ⟨flds (up9 5000) [(BOOT_UPSTS_STATE, 1)], by decide +kernel⟩,
   ⟨flds (up9 5000) [(BOOT_UPSTS_STATE, 1)], by decide +kernel⟩,
   ⟨let s := up9 5000; { s with boot := { s.boot with guard := [1, 2] } }, by decide +kernel⟩,
   ⟨let s := up9 5000; { s with boot := { s.boot with guard := [1, 2] } }, by decide +kernel⟩,
   ⟨let s := up9 5000; { s with boot := { s.boot with gop := some [1] } }, [1], by decide +kernel⟩,
   ⟨let s := up9 5000; { s with boot := { s.boot with gop := some [1] } }, [1], by decide +kernel⟩,
   ⟨up9 5000, 3, by decide +kernel⟩,
   ⟨sysd (up9 5000) (fun y => { y with ir := 4 }), 255, by decide +kernel⟩⟩

theorem wit_RegisterWritesComplete :
    (∃ (s : State) (ofs : _) (b : _) (r : _) (i : _) (j : _) (v : Word), RegHere ofs b r i j ∧ r.readOnly = false ∧ (barActs.any fun k => k.1 == r.off) = false ∧ s.Accepts r v) ∧
    (∃ (s : State) (ofs : _) (b : _) (r : _) (i : _) (j : _), RegHere ofs b r i j ∧ r.readOnly = true ∧ s.awake.stopped r.err = false) ∧
    (∃ (s : State) (ofs : _) (b : _) (r : _) (i : _) (j : _), RegHere ofs b r i j ∧ s.awake.stopped r.err = true) ∧
    (∃ (s : State) (ofs : _) (b : _) (r : _) (i : _) (j : _), RegHere ofs b r i j ∧ r.readOnly = false ∧ r.lockable = true ∧ s.awake.stopped r.err = false ∧ s.awake.on GRD_LOCK_LOCK = true) ∧
    (∃ (s : State) (ofs : _) (b : _) (r : _) (i : _) (j : _) (v : Word) (c : _), RegHere ofs b r i j ∧ r.readOnly = false ∧ s.awake.stopped r.err = false ∧ (r.lockable = true → s.awake.on GRD_LOCK_LOCK = false) ∧ r.check v = some c) ∧
    (∃ (s : State) (ofs : _) (b : _), ofs < 0x3E000 ∧ ofs % 4 = 0 ∧ blkAt ofs = some b ∧ ofs ≠ b.err ∧ regAt ofs = none ∧ s.awake.stopped b.err = false) ∧
    (∃ (ofs : _), ofs % 8 = 0) ∧
    (∃ (ofs : _), ofs % 4 = 0) :=
  ⟨⟨up9 5000, 163896, blkOf 163896, regOf 163896, 0, 0, 7#32, by decide +kernel⟩,
   ⟨up9 5000, 4116, blkOf 4116, regOf 4116, 0, 0, by decide +kernel⟩,
   ⟨flds (mach 5000) [(BOOT_STS_STAGE, 5)], 163856, blkOf 163856, regOf 163856, 0, 0, by decide +kernel⟩,
   ⟨flds (up9 5000) [(GRD_LOCK_LOCK, 1)], 172036, blkOf 172036, regOf 172036, 0, 0, by decide +kernel⟩,
   ⟨up9 5000, 163856, blkOf 163856, regOf 163856, 0, 0, 0xFFFFFFFF#32, RESERVED_NONZERO, by decide +kernel⟩,
   ⟨up9 5000, 0x343FC, blkOf 0x343FC, by decide +kernel⟩,
   ⟨16, by decide +kernel⟩,
   ⟨0x100C, by decide +kernel⟩⟩

theorem wit_ReservedBitsRefused :
    (∃ (ofs : _) (b : _) (r : _) (i : _) (j : _) (k : _) (v : Word), RegHere ofs b r i j ∧ k < 32 ∧ wbit v k = true ∧ (r.fds.any fun f => decide (f.lo ≤ k) && decide (k ≤ f.hi)) = false) ∧
    (∃ (ofs : _) (b : _) (r : _) (i : _) (j : _) (v : Word), RegHere ofs b r i j ∧ (∃ f ∈ r.fds, f.acc ≠ .ro ∧ f.isReserved = true ∧ f.ok v.toNat = false)) ∧
    (∃ (s : State) (ofs : _) (b : _) (r : _) (i : _) (j : _) (k : _), RegHere ofs b r i j ∧ s.awake.stopped b.err = false ∧ (r.fds.any fun f => decide (f.lo ≤ k) && decide (k ≤ f.hi)) = false) :=
  ⟨⟨163856, blkOf 163856, regOf 163856, 0, 0, 31, 0x80000000#32, by decide +kernel⟩,
   ⟨4096, blkOf 4096, regOf 4096, 0, 0, 0xFFFFFFFF#32, by decide +kernel⟩,
   ⟨up9 5000, 163856, blkOf 163856, regOf 163856, 0, 0, 31, by decide +kernel⟩⟩

theorem wit_DiscardsCounted :
    (∃ (s : State) (b : _), b ∈ blocks ∧ 0 < wbits (s.rd b.err) 14 8) ∧
    (∃ (s : State) (b : _) (ofs : _) (code : _), b ∈ blocks ∧ wbits (s.rd b.err) 14 8 = 0 ∧ code < 256 ∧ ofs < 0x40000) ∧
    (∃ (s : State) (b : _), b ∈ blocks ∧ s.awake.stopped b.err = false) :=
  ⟨⟨(up9 5000).wr SER_ERRSTS 0x00017F01, blkOf SER_ERRSTS, by decide +kernel⟩,
   ⟨up9 5000, blkOf SER_ERRSTS, 0x3103C, 4, by decide +kernel⟩,
   ⟨(up9 5000).wr SER_ERRSTS 0x00017F01, blkOf SER_ERRSTS, by decide +kernel⟩⟩

end Sys2Proof.Tests
end

section
/-! Obligation O59: the error status of a block counts its discarded writes and keeps the first one's code and word (R10, R11). -/
namespace Sys2Proof.Machine

/-! The fields every PREFIX_ERRSTS has, by the register's offset (R10). -/

/-- CODE: why the first counted write was discarded. -/
abbrev errCode (e : Nat) : Fld := ⟨e, 7, 0⟩

/-- COUNT: how many writes were discarded. -/
abbrev errCount (e : Nat) : Fld := ⟨e, 14, 8⟩

/-- WORD: the word offset the first counted write went to. -/
abbrev errWord (e : Nat) : Fld := ⟨e, 31, 16⟩

/-! Where the error statuses lie (R653). -/

/-- The interrupt controller's announcements write no block's error status. -/
theorem loud_err_of_mem_blocks {b : Blk} (hb : b ∈ blocks) : Loud b.err :=
  (by decide : ∀ b ∈ blocks, Loud b.err) b hb

/-- An error status is a word of BAR0 below the MSI-X structures. -/
theorem err_aligned_of_mem_blocks {b : Blk} (hb : b ∈ blocks) : b.err < 0x3E000 ∧ b.err % 4 = 0 :=
  (by decide : ∀ b ∈ blocks, b.err < 0x3E000 ∧ b.err % 4 = 0) b hb

/-- The block whose span holds an error status is one with that error status. -/
theorem exists_blkAt_err_of_mem_blocks {b : Blk} (hb : b ∈ blocks) : ∃ k, blkAt b.err = some k ∧ k.err = b.err :=
  Option.map_eq_some_iff.mp <| (by decide : ∀ b ∈ blocks, (blkAt b.err).map Blk.err = some b.err) b hb

/-! What recording a discarded write does to the error status. -/

/-- With COUNT not zero a discarded write only steps COUNT, which saturates at 127. -/
theorem State.errMark_of_errCount_pos (s : State) {e : Nat} (h : 0 < s.g (errCount e)) (off code : Nat) :
    s.errMark e off code = s.inc (errCount e) :=
  congrArg (s.wr e) (if_neg (Nat.ne_of_gt h))

/-- With COUNT zero a discarded write fills the error status with its own code and word. -/
theorem State.errMark_of_errCount_zero (s : State) {e : Nat} (h : s.g (errCount e) = 0) (off code : Nat) :
    s.errMark e off code = s.wr e (Word.ofNat (code + 0x100 + off / 4 * 0x10000)) :=
  congrArg (s.wr e) (if_pos h)

/-- The hub source that a discarded write raises leaves what was recorded. -/
theorem State.g_err (s : State) {e : Nat} (he : Loud e) (off code hi lo : Nat) :
    (s.err e off code).g ⟨e, hi, lo⟩ = (s.errMark e off code).g ⟨e, hi, lo⟩ :=
  State.raiseHub_g _ _ he

/-- A counter that fits its word reads one more after a step, or stays at its largest value (R12). -/
theorem State.g_inc_self (s : State) {f : Fld} (hf : f.fits) :
    (s.inc f).g f = min (s.g f + 1) (2 ^ (f.hi + 1 - f.lo) - 1) :=
  State.g_f_lt s hf (by have := Nat.two_pow_pos (f.hi + 1 - f.lo); omega)

/-- A later discarded write steps COUNT up to 127 and leaves CODE and WORD (R11). -/
theorem State.err_of_errCount_pos (s : State) {e : Nat} (he : Loud e) (h : 0 < s.g (errCount e)) (off code : Nat) :
    (s.err e off code).g (errCount e) = min (s.g (errCount e) + 1) 127 ∧
    (s.err e off code).g (errCode e) = s.g (errCode e) ∧ (s.err e off code).g (errWord e) = s.g (errWord e) := by
  have fits : (errCount e).fits := (by decide : 8 ≤ 14 ∧ 14 < 32)
  simp only [State.g_err s he, State.errMark_of_errCount_pos s h]
  refine ⟨State.g_inc_self s fits, State.g_f_apart s fits _ ?_, State.g_f_apart s fits _ ?_⟩
  · exact Or.inr (Or.inl (by decide : 7 < 8))
  · exact Or.inr (Or.inr (by decide : 14 < 16))

/-- CODE, COUNT and WORD of the word that the first discarded write leaves (R10). -/
theorem wbits_firstDiscard {code word : Nat} (hc : code < 256) (hw : word < 0x10000) :
    wbits (Word.ofNat (code + 0x100 + word * 0x10000)) 14 8 = 1 ∧
    wbits (Word.ofNat (code + 0x100 + word * 0x10000)) 7 0 = code ∧
    wbits (Word.ofNat (code + 0x100 + word * 0x10000)) 31 16 = word := by
  simp only [wbits, nbits, Word.ofNat, BitVec.toNat_ofNat]
  omega

/-- The first discarded write records its own code and word (R10). -/
theorem State.err_of_errCount_zero (s : State) {e : Nat} (he : Loud e) (h : s.g (errCount e) = 0) {off code : Nat}
    (hc : code < 256) (ho : off < 0x40000) :
    (s.err e off code).g (errCount e) = 1 ∧ (s.err e off code).g (errCode e) = code ∧
    (s.err e off code).g (errWord e) = off / 4 := by
  simp only [State.g_err s he, State.errMark_of_errCount_zero s h]
  simp only [State.g, State.rd_wr_self]
  exact wbits_firstDiscard hc (Nat.div_lt_of_lt_mul ho)

/-! A write to an error status itself. -/

/-- REGISTER_WRITE runs as its chapter gives it. -/
theorem exec_registerWrite (bar2 : Bool) (ofs n : Nat) (v w : Word) (s : State) :
    exec (.registerWrite bar2 ofs n v w) s = execRegisterWrite bar2 ofs n v w s := rfl

/-- An aligned four-byte write in BAR0 is a write of its word. -/
theorem exec_registerWrite_aligned (s : State) {ofs : Nat} (h : ofs % 4 = 0) (v w : Word) :
    exec (.registerWrite false ofs 4 v w) s = .next (s.bar0Word ofs v) :=
  calc exec (.registerWrite false ofs 4 v w) s
    _ = execRegisterWrite false ofs 4 v w s := exec_registerWrite ..
    _ = .next (s.bar0Write ofs 4 v w) := by rw [execRegisterWrite, if_neg Bool.false_ne_true]
    _ = .next (s.bar0Word ofs v) := by rw [State.bar0Write, if_pos ⟨rfl, h⟩]

/-- A four-byte write at a block's error status is that block's `errWrite`. -/
theorem exec_registerWrite_err {b : Blk} (hb : b ∈ blocks) (v w : Word) (s : State) :
    exec (.registerWrite false b.err 4 v w) s = .next (s.errWrite b.err v) := by
  obtain ⟨hlt, hal⟩ := err_aligned_of_mem_blocks hb
  obtain ⟨k, hk, hke⟩ := exists_blkAt_err_of_mem_blocks hb
  rw [exec_registerWrite_aligned s hal, State.bar0Word, if_neg (Nat.not_le.mpr hlt), hk]
  simp only [hke, if_true]

/-- With the block's clock running the write is not discarded: it clears the error status for CLR and otherwise has no effect. -/
theorem State.errWrite_of_running (s : State) {e : Nat} (h : s.awake.stopped e = false) (v : Word) :
    s.errWrite e v = if wbit v 15 then s.awake.wr e 0 else s.awake :=
  if_neg (ne_true_of_eq_false h)

/-- Settles O59: COUNT not zero and COUNT zero are the two branches of recording a discarded write, and a write to an error status
never reaches that recording. -/
theorem discardsCounted : Obligations.DiscardsCounted := by
  refine ⟨fun s b ofs code hb h => ?later, fun s b ofs code hb h hc ho => ?first, fun s b v w hb hrun => ?own⟩
  case later => exact s.err_of_errCount_pos (loud_err_of_mem_blocks hb) h ofs code
  case first => exact s.err_of_errCount_zero (loud_err_of_mem_blocks hb) h hc ho
  case own =>
    refine ⟨_, exec_registerWrite_err hb v w s, ?_⟩
    rw [s.errWrite_of_running hrun v]
    cases wbit v 15 with
    | true => exact ⟨State.rd_wr_self _ _ _, fun o ho => State.rd_wr_ne _ _ ho, rfl⟩
    | false => exact ⟨rfl, fun _ _ => rfl, rfl⟩

end Sys2Proof.Machine
end

section
/-! Obligation O3: a CKFAB period adds the increment to the accumulator, and nothing else that time does in it touches CT (R29). -/
namespace Sys2Proof.Machine

/-! What keeps the time part of the state, from the masks of Laws/Same.lean (64 is the time part's bit). -/

/-- A state is itself but for any parts. -/
theorem Same.refl (m : Nat) (s : State) : Same m s s := by
  constructor
  case pending => rfl
  case regsOk => exact id
  all_goals exact .inl rfl

/-- An operation whose mask does not list the time part leaves it as it was. -/
theorem State.time_eq_of_same {m : Nat} {s t : State} (hm : Nat.lor 64 m ≠ m) (h : Sub m m → Same m s s → Same m s t) :
    t.time = s.time :=
  (h (Nat.or_self m) (Same.refl m s)).time.resolve_right hm

@[simp] theorem State.clockTicks_time (s : State) : s.clockTicks.time = s.time :=
  time_eq_of_same (m := 256) (by decide) (clockTicks_same s)

@[simp] theorem State.foldl_fillCode_time (s : State) (ps : List Nat) : (ps.foldl State.fillCode s).time = s.time :=
  time_eq_of_same (m := 8388640) (by decide) fun hm h => same_foldl h fun t p => fillCode_same t p hm

@[simp] theorem State.guardTick_time (s : State) : s.guardTick.time = s.time :=
  time_eq_of_same (m := 46167590) (by decide) (guardTick_same s)

@[simp] theorem State.beat_time (s : State) : s.beat.time = s.time :=
  time_eq_of_same (m := 6) (by decide) (beat_same s)

@[simp] theorem State.lifeSecond_time (s : State) : s.lifeSecond.time = s.time :=
  time_eq_of_same (m := 33554432) (by decide) (lifeSecond_same s)

/-! The time part after one CKFAB period. -/

/-- Out of OFF, only `tickTime` of what a CKFAB period does changes the time part. -/
theorem State.tick_time (s : State) (h : s.sys.pstate ≠ .off) : s.tick.time = s.tickTime.time := by
  rw [State.tick, if_neg h]
  simp only [apply_ite State.time, lifeSecond_time, beat_time, guardTick_time, foldl_fillCode_time, ite_self]

/-- While the always-on generator does not carry CT, a CKFAB period adds the increment to the accumulator (R29). -/
theorem State.tickTime_acc_of_gen_eq_false (s : State) (h : s.time.gen = false) :
    s.tickTime.time.acc = (s.time.acc + s.incr) % 2 ^ 96 := by
  simp only [State.tickTime, apply_ite State.time, clockTicks_time, ite_self, h, Bool.not_false, if_true]

/-- CT is what is left of the accumulator's 96 bits above the fraction. -/
theorem State.ct_add_fraction (s : State) (h : s.time.acc < 2 ^ 96) :
    2 ^ 32 * s.ct + s.time.acc % 2 ^ 32 = s.time.acc := by
  have hct : s.ct = s.time.acc / 2 ^ 32 :=
    Nat.mod_eq_of_lt (Nat.div_lt_of_lt_mul (by rwa [← Nat.pow_add]))
  rw [hct, Nat.div_add_mod]

/-- Settles O3: `tickTime` adds the increment and the rest of the period keeps the time part; CT and the fraction are the two ends of
the accumulator by definition. -/
theorem ctAccumulates : Obligations.CtAccumulates := by
  refine fun s hp hg => ⟨?sum, rfl, s.ct_add_fraction⟩
  case sum =>
    calc s.tick.time.acc
      _ = s.tickTime.time.acc := by rw [s.tick_time hp]
      _ = (s.time.acc + s.incr) % 2 ^ 96 := s.tickTime_acc_of_gen_eq_false hg

/-- CKFAB carries CT, and the accumulator holds its greatest value. -/
def fullAcc : State :=
  { State.reset with time := { State.reset.time with acc := 2 ^ 96 - 1, fab := true, gen := false } }

/-- The premises of O3 hold where the accumulator wraps: the nominal increment (R30) less 1 is left of it. -/
theorem fullAcc_tick_acc : fullAcc.tick.time.acc = 0xD5555554 :=
  (ctAccumulates fullAcc (by decide) rfl).1.trans (by decide)

end Sys2Proof.Machine
end

section
/-! Obligation O10: a loop's mode is held while its guard channel is active, and a change of mode clears the set point (R169). What
a write of AFE_LxCFG sets off beyond the loop, an interruption of the streams fed by a route that stops, writes no word of a loop. -/
namespace Sys2Proof.Machine

/-! The words of the loops. -/

/-- An offset where a word of AFE_LxCFG or AFE_LxSET may lie. -/
abbrev LoopWord (o : Nat) : Prop := 0x32100 ≤ o ∧ o < 0x32300 ∧ (o % 32 = 0 ∨ o % 32 = 8)

/-- The words of AFE_LxCFG and AFE_LxSET in a register map. -/
def loopWords (r : Tbl Word) (x : Fin 16) : Word × Word :=
  (r.get rstAt (AFE_LCFG_MODE x).off, r.get rstAt (AFE_LSET_SET x).off)

theorem loopWords_set (r : Tbl Word) {o : Nat} (h : ¬ LoopWord o) (v : Word) : loopWords (r.set rstAt o v) = loopWords r := by
  funext x
  have hcfg : (AFE_LCFG_MODE x).off ≠ o := by rintro rfl; exact h (by dsimp only [LoopWord]; omega)
  have hset : (AFE_LSET_SET x).off ≠ o := by rintro rfl; exact h (by dsimp only [LoopWord]; omega)
  simp only [loopWords, Tbl.get_set_ne _ _ hcfg, Tbl.get_set_ne _ _ hset]

@[simp] theorem State.loopWords_f (s : State) {f : Fld} (h : ¬ LoopWord f.off) (v : Nat) : loopWords (s.f f v).regs = loopWords s.regs :=
  loopWords_set _ h _

@[simp] theorem State.loopWords_incBy (s : State) {f : Fld} (h : ¬ LoopWord f.off) (n : Nat) :
    loopWords (s.incBy f n).regs = loopWords s.regs := s.loopWords_f h _

@[simp] theorem State.loopWords_inc (s : State) {f : Fld} (h : ¬ LoopWord f.off) : loopWords (s.inc f).regs = loopWords s.regs :=
  s.loopWords_f h _

@[simp] theorem loopWords_ite (c : Prop) [Decidable c] (s t : State) :
    loopWords (if c then s else t).regs = if c then loopWords s.regs else loopWords t.regs :=
  apply_ite (fun u : State => loopWords u.regs) c s t

theorem loopWords_foldl {α : Type} {g : State → α → State} (hg : ∀ s x, loopWords (g s x).regs = loopWords s.regs) (l : List α)
    (s : State) : loopWords (l.foldl g s).regs = loopWords s.regs := by
  induction l generalizing s with
  | nil => rfl
  | cons a l ih => exact (ih _).trans (hg s a)

theorem loopWords_foldl_fst {α β : Type} {g : State × β → α → State × β} (hg : ∀ p a, loopWords (g p a).1.regs = loopWords p.1.regs)
    (l : List α) (p : State × β) : loopWords (l.foldl g p).1.regs = loopWords p.1.regs := by
  induction l generalizing p with
  | nil => rfl
  | cons a l ih => exact (ih _).trans (hg p a)

theorem State.loopWords_zero (fs : List Fld) (h : ∀ f ∈ fs, ¬ LoopWord f.off) (s : State) :
    loopWords (s.zero fs).regs = loopWords s.regs := by
  induction fs generalizing s with
  | nil => rfl
  | cons f fs ih =>
    exact (ih (fun g hg => h g (List.mem_cons_of_mem f hg)) _).trans (s.loopWords_f (h f List.mem_cons_self) 0)

/-- Announcements write no word of a loop. -/
theorem Quiet.loopWords_eq {s t : State} (h : Quiet s t) : loopWords t.regs = loopWords s.regs := by
  funext x
  exact Prod.ext (h.rd _ (by dsimp only [Loud]; omega)) (h.rd _ (by dsimp only [Loud]; omega))

@[simp] theorem State.loopWords_raiseHub (s : State) (h : Nat) : loopWords (s.raiseHub h).regs = loopWords s.regs :=
  (State.raiseHub_quiet s h (Quiet.refl s)).loopWords_eq

@[simp] theorem State.loopWords_wakeIcu (s : State) : loopWords s.wakeIcu.regs = loopWords s.regs :=
  (State.wakeIcu_quiet s (Quiet.refl s)).loopWords_eq

/-! Operations that write no register at all, from the masks of Laws/Same.lean (2 is the register map's bit). -/

theorem State.regs_eq_of_same {m : Nat} {s t : State} (hm : Nat.lor 2 m ≠ m) (h : Sub m m → Same m s s → Same m s t) : t.regs = s.regs :=
  (h (Nat.or_self m) (Same.refl m s)).regs.resolve_right hm

@[simp] theorem State.noteSent_regs (s : State) (m : SentS) : (s.noteSent m).regs = s.regs :=
  regs_eq_of_same (m := 8388608) (by decide) (State.noteSent_same s m)

@[simp] theorem State.emitFlit_regs (s : State) (p sq : Nat) (f : FlitS) : (s.emitFlit p sq f).regs = s.regs :=
  regs_eq_of_same (m := 8388640) (by decide) (State.emitFlit_same s p sq f)

@[simp] theorem State.renumber_regs (s : State) (uid ring n : Nat) : (s.renumber uid ring n).regs = s.regs := rfl

@[simp] theorem State.appendRecs_regs (s : State) (uid ring : Nat) (rs : List RecS) : (s.appendRecs uid ring rs).regs = s.regs :=
  regs_eq_of_same (m := 4194304) (by decide) (State.appendRecs_same s uid ring rs)

@[simp] theorem State.declareFwd_regs (s : State) (c : CaskS) : (s.declareFwd c).regs = s.regs :=
  regs_eq_of_same (m := 4194304) (by decide) (State.declareFwd_same s c)

/-! Bond links: a port's words lie apart from the loops' whatever its number. -/

@[simp] theorem State.loopWords_setPort (s : State) (p : Nat) (q : PortS) : loopWords (s.setPort p q).regs = loopWords s.regs :=
  State.loopWords_f _ (f := BND_PSTS_UNACK p) (by dsimp only [LoopWord]; omega) _

@[simp] theorem State.loopWords_freeAt (s : State) (p vc n : Nat) : loopWords (s.freeAt p vc n).regs = loopWords s.regs :=
  s.loopWords_setPort p _

@[simp] theorem State.loopWords_sendFirst (s : State) (p vc : Nat) : loopWords (s.sendFirst p vc).regs = loopWords s.regs := by
  have hport : ¬ LoopWord (BND_PFLITTX p).off := by dsimp only [LoopWord]; omega
  unfold State.sendFirst
  dsimp only
  split
  · rfl
  · split <;> simp [hport]

@[simp] theorem State.loopWords_pumpN (p n : Nat) (s : State) : loopWords (State.pumpN p n s).regs = loopWords s.regs := by
  induction n generalizing s with
  | zero => rfl
  | succ n ih =>
    unfold State.pumpN
    dsimp only
    split
    · split <;> simp [ih]
    · rfl

@[simp] theorem State.loopWords_countStall (p : Nat) (s : State) (vc : Nat) :
    loopWords (State.countStall p s vc).regs = loopWords s.regs := by
  have hport : ¬ LoopWord (BND_PCREDSTALL p).off := by dsimp only [LoopWord]; omega
  unfold State.countStall
  dsimp only
  split
  · simp [hport]
  · rfl

@[simp] theorem State.loopWords_pump (s : State) (p : Nat) : loopWords (s.pump p).regs = loopWords s.regs :=
  (loopWords_foldl (State.loopWords_countStall p) _ _).trans (State.loopWords_pumpN _ _ _)

@[simp] theorem State.loopWords_queueFlits (s : State) (p : Nat) (l : List FlitS) :
    loopWords (s.queueFlits p l).regs = loopWords s.regs := by
  cases l with
  | nil => rfl
  | cons f l => simp [State.queueFlits]

@[simp] theorem State.loopWords_sendMsg (s : State) (cls ty dst : Nat) (body : List Nat) :
    loopWords (s.sendMsg cls ty dst body).regs = loopWords s.regs := by
  unfold State.sendMsg
  split <;> simp

/-! The cask and watch buffers. -/

@[simp] theorem State.loopWords_wakeDoze (s : State) (bits : Nat) : loopWords (s.wakeDoze bits).regs = loopWords s.regs := by
  unfold State.wakeDoze
  dsimp only
  split <;> simp

@[simp] theorem State.loopWords_showCbuf (s : State) : loopWords s.showCbuf.regs = loopWords s.regs := by
  unfold State.showCbuf
  dsimp only
  split <;> simp

@[simp] theorem State.loopWords_countLost (s : State) (c : CaskS) : loopWords (s.countLost c).regs = loopWords s.regs := by
  unfold State.countLost
  dsimp only
  split <;> simp

@[simp] theorem State.loopWords_dropFwd (s : State) (c : CaskS) : loopWords (s.dropFwd c).regs = loopWords s.regs := by
  simp [State.dropFwd]

@[simp] theorem State.loopWords_dropOldest (s : State) : loopWords s.dropOldest.regs = loopWords s.regs := by
  unfold State.dropOldest
  dsimp only
  split
  · split <;> simp
  all_goals simp

@[simp] theorem State.loopWords_fitCaskBuf (n : Nat) (s : State) : loopWords (State.fitCaskBuf n s).regs = loopWords s.regs := by
  induction n generalizing s with
  | zero => rfl
  | succ n ih =>
    unfold State.fitCaskBuf
    split <;> simp [ih]

@[simp] theorem State.loopWords_trimCasks (s : State) : loopWords s.trimCasks.regs = loopWords s.regs := by
  simp [State.trimCasks]

@[simp] theorem State.loopWords_watchDrop (s : State) : loopWords s.watchDrop.regs = loopWords s.regs := by
  unfold State.watchDrop
  dsimp only
  split <;> simp

@[simp] theorem State.loopWords_watchRoom (k n : Nat) (s : State) : loopWords (State.watchRoom k n s).regs = loopWords s.regs := by
  induction n generalizing s with
  | zero => rfl
  | succ n ih =>
    unfold State.watchRoom
    split <;> simp [ih]

@[simp] theorem State.loopWords_watchPush (s : State) (w : WatchS) : loopWords (s.watchPush w).regs = loopWords s.regs :=
  State.loopWords_watchRoom ..

@[simp] theorem State.loopWords_foldl_watchPush {α : Type} (f : α → WatchS) (l : List α) (s : State) :
    loopWords (l.foldl (fun s a => s.watchPush (f a)) s).regs = loopWords s.regs :=
  loopWords_foldl (fun s a => s.loopWords_watchPush (f a)) l s

/-! Casks sent and closed. -/

@[simp] theorem State.loopWords_sendCaskData (s : State) (home : Nat) (c : CaskS) :
    loopWords (s.sendCaskData home c).regs = loopWords s.regs :=
  loopWords_foldl_fst (fun p _ => p.1.loopWords_sendMsg ..) ..

@[simp] theorem State.loopWords_sendCaskClose (s : State) (home : Nat) (c : CaskS) :
    loopWords (s.sendCaskClose home c).regs = loopWords s.regs := s.loopWords_sendMsg ..

@[simp] theorem State.loopWords_cutThrough (s : State) (c : CaskS) : loopWords (s.cutThrough c).regs = loopWords s.regs := by
  unfold State.cutThrough
  split
  · rfl
  · split <;> simp

@[simp] theorem State.loopWords_sendClosed (s : State) (c : CaskS) : loopWords (s.sendClosed c).regs = loopWords s.regs := by
  unfold State.sendClosed
  split <;> simp

@[simp] theorem State.loopWords_sendFwd (s : State) (uid ring pcn : Nat) : loopWords (s.sendFwd uid ring pcn).regs = loopWords s.regs := by
  unfold State.sendFwd
  split
  · rfl
  · split <;> simp

@[simp] theorem State.loopWords_flushFwd (s : State) : loopWords s.flushFwd.regs = loopWords s.regs := by
  unfold State.flushFwd
  dsimp only
  rw [loopWords_foldl fun s c => s.loopWords_sendFwd .., loopWords_foldl fun s c => ?_]
  simp

@[simp] theorem State.loopWords_closeCask (s : State) (uid ring code : Nat) :
    loopWords (s.closeCask uid ring code).regs = loopWords s.regs := by
  unfold State.closeCask
  split
  · rfl
  · dsimp only
    split <;> simp

@[simp] theorem State.loopWords_putTogether (s : State) (uid ring : Nat) (rs : List RecS) :
    loopWords (s.putTogether uid ring rs).regs = loopWords s.regs := by
  unfold State.putTogether
  dsimp only
  cases s.openCask uid ring with
  | none =>
    dsimp only
    split <;> simp
  | some c =>
    dsimp only
    split <;> simp

/-! Streams and recognizers, which an interruption of an endpoint reaches (R327, R454). -/

@[simp] theorem State.loopWords_produce (s : State) (slot n ct ep : Nat) (r : RecS) :
    loopWords (s.produce slot n ct ep r).regs = loopWords s.regs := by
  unfold State.produce
  split
  · rfl
  · dsimp only
    simp (disch := decide) only [loopWords_ite, modStream_regs, loopWords_putTogether, loopWords_incBy, loopWords_foldl_watchPush, ite_self]

@[simp] theorem State.loopWords_passHead (s : State) (slot : Nat) (h : HoldS) : loopWords (s.passHead slot h).regs = loopWords s.regs := by
  unfold State.passHead
  split <;> simp

@[simp] theorem State.loopWords_drainStream (slot n : Nat) (s : State) :
    loopWords (State.drainStream slot n s).regs = loopWords s.regs := by
  induction n generalizing s with
  | zero => rfl
  | succ n ih =>
    unfold State.drainStream
    split
    · rfl
    · split
      · rfl
      · split <;> simp [ih]

@[simp] theorem State.loopWords_offer (s : State) (slot : Nat) (h : HoldS) : loopWords (s.offer slot h).regs = loopWords s.regs := by
  unfold State.offer
  dsimp only
  split <;> simp

@[simp] theorem State.loopWords_interruptEps (s : State) (l : List Nat) : loopWords (s.interruptEps l).regs = loopWords s.regs := by
  refine loopWords_foldl (fun s st => ?_) ..
  split <;> simp

@[simp] theorem State.loopWords_trigPush (s : State) (t : TrigS) : loopWords (s.trigPush t).regs = loopWords s.regs := by
  unfold State.trigPush
  dsimp only
  split
  · rfl
  · split <;> simp

@[simp] theorem State.loopWords_rcgFeed (s : State) (e ct flags : Nat) (v : Option Int) (past : Int) :
    loopWords (s.rcgFeed e ct flags v past).regs = loopWords s.regs :=
  loopWords_foldl (fun s _ => s.loopWords_trigPush _) ..

@[simp] theorem State.loopWords_interrupt (s : State) (e : Nat) : loopWords (s.interrupt e).regs = loopWords s.regs := by
  simp [State.interrupt, State.interruptAll]

@[simp] theorem State.loopWords_mashInterrupt (s : State) (n : Nat) : loopWords (s.mashInterrupt n).regs = loopWords s.regs := by
  have gap : ∀ s : State, loopWords (s.mashGap n).regs = loopWords s.regs := by
    intro s
    unfold State.mashGap
    split
    · split <;> simp
    · rfl
  unfold State.mashInterrupt
  dsimp only
  split <;> simp [gap]

@[simp] theorem State.loopWords_routesStopped (s : State) (before : List (Nat × Nat)) :
    loopWords (s.routesStopped before).regs = loopWords s.regs := by
  refine loopWords_foldl (fun s r => ?_) ..
  simp

/-! The drive of a loop. -/

/-- AFE_LxSTS is no word of AFE_LxCFG or AFE_LxSET. -/
theorem not_loopWord_lsts (x : Nat) : ¬ LoopWord (AFE_LSTS_DRVON x).off := by dsimp only [LoopWord]; omega

@[simp] theorem State.setLoopAt_regs (s : State) (x : Nat) (r : Nat × Nat) : (s.setLoopAt x r).regs = s.regs := rfl

@[simp] theorem State.loopWords_loopJudge (s : State) (x : Nat) : loopWords (s.loopJudge x).regs = loopWords s.regs := by
  unfold State.loopJudge
  dsimp only
  split
  · rfl
  · split <;> simp [not_loopWord_lsts x]

theorem State.loopWords_compEnd (s : State) {x : Nat} (hx : x < 16) : loopWords (s.compEnd x).regs = loopWords s.regs := by
  have hwin : ¬ LoopWord (WIN_MSTS_COMPLIANCE (64 + x)).off := by dsimp only [LoopWord]; omega
  simp [State.compEnd, not_loopWord_lsts x, hwin]

theorem State.loopWords_driveFollow (s : State) {x : Nat} (hx : x < 16) : loopWords (s.driveFollow x).regs = loopWords s.regs := by
  unfold State.driveFollow
  dsimp only
  split
  · simp [not_loopWord_lsts x]
  · rw [State.loopWords_zero _ (by simp)]
    simp [State.loopWords_compEnd s hx]

/-! What a discarded write leaves. -/

@[simp] theorem State.loopWords_err (s : State) {e : Nat} (h : ¬ LoopWord e) (off code : Nat) :
    loopWords (s.err e off code).regs = loopWords s.regs :=
  (State.loopWords_raiseHub ..).trans (loopWords_set _ h _)

@[simp] theorem State.loopWords_clockStopped (s : State) (off : Nat) : loopWords (s.clockStopped off).regs = loopWords s.regs := by
  simp (disch := decide) [State.clockStopped]

/-- A discarded write changes its block's error status and what announces it. -/
theorem State.rd_err (s : State) {e o : Nat} (ho : Loud o) (hne : o ≠ e) (off code : Nat) : (s.err e off code).rd o = s.rd o :=
  (State.raiseHub_rd _ _ ho).trans (s.rd_wr_ne _ hne)

/-! A write in BAR0. -/

/-- What a write in BAR0 can do: meet a stopped clock, nothing, be discarded with a code, or have the register's own effect. -/
theorem State.barWrite_cases (s : State) (r : Reg) (i j : Nat) (v : Word) (act : State → State) :
    s.barWrite r i j v act = s.awake.clockStopped (r.at i j) ∨ s.barWrite r i j v act = s.awake ∨
    (∃ code, s.barWrite r i j v act = s.awake.err r.err (r.at i j) code) ∨ s.barWrite r i j v act = act s.awake := by
  generalize h : s.barWrite r i j v act = t
  unfold State.barWrite at h
  dsimp only at h
  split at h
  · exact .inl h.symm
  split at h
  · exact .inr (.inl h.symm)
  split at h
  · exact .inr (.inr (.inl ⟨_, h.symm⟩))
  split at h
  · exact .inr (.inr (.inl ⟨_, h.symm⟩))
  · exact .inr (.inr (.inr h.symm))

/-- The words of other domains that run on CKAON lie below 0x28030 (R577). -/
theorem aonWord_eq_false_of_le {o : Nat} (h : 0x28030 ≤ o) : aonWord o = false :=
  Bool.or_eq_false_iff.mpr ⟨decide_eq_false (by omega), decide_eq_false (by omega)⟩

/-- An accepted write of a word in its block's own clock domain has the register's own effect. -/
theorem State.barWrite_of_accepts {s : State} {r : Reg} {v : Word} (h : s.Accepts r v) (hro : r.readOnly = false) {i j : Nat}
    (hdom : aonWord (r.at i j) = false) (act : State → State) : s.barWrite r i j v act = act s.awake := by
  obtain ⟨hrun, hlock, hcheck⟩ := h
  have hlocked : (r.lockable && s.awake.on GRD_LOCK_LOCK) = false := by
    cases h : r.lockable
    case false => rfl
    case true => exact hlock h
  simp only [State.awake] at hrun hlocked ⊢
  simp only [State.barWrite, State.stoppedAt, hdom, hrun, hro, hlocked, hcheck, Bool.false_eq_true, if_false]

/-! A write of AFE_LxCFG. -/

theorem State.loopMode_eq {s t : State} {x : Nat} (hx : x < 16) (h : loopWords t.regs = loopWords s.regs) :
    t.g (AFE_LCFG_MODE x) = s.g (AFE_LCFG_MODE x) :=
  congrArg (fun w : Word × Word => wbits w.1 2 0) (congrFun h ⟨x, hx⟩)

theorem State.loopSet_eq {s t : State} {x : Nat} (hx : x < 16) (h : loopWords t.regs = loopWords s.regs) :
    t.g (AFE_LSET_SET x) = s.g (AFE_LSET_SET x) :=
  congrArg (fun w : Word × Word => wbits w.2 15 0) (congrFun h ⟨x, hx⟩)

/-- A change of mode with the guard channel ON or RETRYWAIT is discarded. -/
theorem State.loopCfgWrite_of_guActive (s : State) {x : Nat} {v : Word} (hmode : wbits v 2 0 ≠ s.g (AFE_LCFG_MODE x))
    (hact : s.guActive (16 + x) = true) : s.loopCfgWrite x v = s.err AFE_ERRSTS (AFE_LCFG_MODE x).off NOT_IN_STATE :=
  if_pos (by simp [hmode, hact])

/-- The words of a loop that a taken write of AFE_LxCFG stores (R169). -/
def State.loopCfgStore (s : State) (x : Nat) (v : Word) : State :=
  let t := s.wr (rAFE_LCFG.at x 0) v
  if wbits v 2 0 != s.g (AFE_LCFG_MODE x) then t.f (AFE_LSET_SET x) 0 else t

/-- A write of AFE_LxCFG is discarded with a code, or leaves the loops' words as it stores them. -/
theorem State.loopCfgWrite_cases (s : State) {x : Nat} (hx : x < 16) (v : Word) :
    (∃ code, s.loopCfgWrite x v = s.err AFE_ERRSTS (AFE_LCFG_MODE x).off code) ∨
    loopWords (s.loopCfgWrite x v).regs = loopWords (s.loopCfgStore x v).regs := by
  unfold State.loopCfgWrite
  dsimp only
  split
  · exact .inl ⟨_, rfl⟩
  split
  · exact .inl ⟨_, rfl⟩
  · exact .inr ((State.loopWords_routesStopped _ _).trans (State.loopWords_driveFollow _ hx))

/-- What a taken write stores keeps the mode or clears the set point. -/
theorem State.loopCfgStore_mode_or_set (s : State) (x : Nat) (v : Word) :
    (s.loopCfgStore x v).g (AFE_LCFG_MODE x) = s.g (AFE_LCFG_MODE x) ∨ (s.loopCfgStore x v).g (AFE_LSET_SET x) = 0 := by
  unfold State.loopCfgStore
  dsimp only
  split
  next => exact .inr (State.g_f_self _ (by decide : 0 ≤ 15 ∧ 15 < 32) 0)
  next same => exact .inl ((congrArg (wbits · 2 0) (s.rd_wr_self _ v)).trans (by simpa using same))

theorem State.loopCfgWrite_mode_or_set (s : State) {x : Nat} (hx : x < 16) (v : Word) :
    (s.loopCfgWrite x v).g (AFE_LCFG_MODE x) = s.g (AFE_LCFG_MODE x) ∨ (s.loopCfgWrite x v).g (AFE_LSET_SET x) = 0 := by
  obtain ⟨code, h⟩ | h := s.loopCfgWrite_cases hx v
  · exact .inl (State.loopMode_eq hx (h ▸ s.loopWords_err (by decide) _ code))
  · rw [State.loopMode_eq hx h, State.loopSet_eq hx h]
    exact s.loopCfgStore_mode_or_set x v

/-- LOOP_MODE_WRITE is a write of AFE_LxCFG in BAR0. -/
theorem exec_loopModeWrite (x : Nat) (v : Word) (s : State) :
    exec (.loopModeWrite x v) s = .next (s.barWrite rAFE_LCFG x 0 v fun s => s.loopCfgWrite x v) := rfl

/-- An accepted LOOP_MODE_WRITE is AFE_LxCFG's own write. -/
theorem exec_loopModeWrite_of_accepts {s : State} {v : Word} (h : s.Accepts rAFE_LCFG v) (x : Nat) :
    exec (.loopModeWrite x v) s = .next (s.awake.loopCfgWrite x v) := by
  have hdom : aonWord (rAFE_LCFG.at x 0) = false := aonWord_eq_false_of_le (by dsimp only [Reg.at, rAFE_LCFG]; omega)
  rw [exec_loopModeWrite, State.barWrite_of_accepts h (by decide) hdom]

/-- LOOP_MODE_WRITE keeps the loop's mode or clears its set point, whether or not the write is taken. -/
theorem exec_loopModeWrite_mode_or_set {s t : State} {x : Nat} (hx : x < 16) {v : Word} (h : exec (.loopModeWrite x v) s = .next t) :
    t.g (AFE_LCFG_MODE x) = s.awake.g (AFE_LCFG_MODE x) ∨ t.g (AFE_LSET_SET x) = 0 := by
  obtain rfl : s.barWrite rAFE_LCFG x 0 v (fun s => s.loopCfgWrite x v) = t := by
    rw [exec_loopModeWrite] at h
    exact Host.Outcome.next.inj h
  obtain h | h | ⟨code, h⟩ | h := s.barWrite_cases rAFE_LCFG x 0 v fun s => s.loopCfgWrite x v <;> rw [h]
  · exact .inl (State.loopMode_eq hx (s.awake.loopWords_clockStopped _))
  · exact .inl rfl
  · exact .inl (State.loopMode_eq hx (s.awake.loopWords_err (by decide) _ code))
  · exact s.awake.loopCfgWrite_mode_or_set hx v

/-- Settles O10: a change of mode under an active guard channel is the write's first branch; every other outcome of the command keeps
the loop's mode or clears its set point. -/
theorem loopModeHeld : Obligations.LoopModeHeld := by
  refine ⟨fun s x v _ hacc hmode hact => ?held, fun s x v t hx ht hchange => ?cleared⟩
  case held =>
    refine ⟨_, ?_, rfl, fun o ho hne => s.awake.rd_err ho hne _ _⟩
    rw [exec_loopModeWrite_of_accepts hacc x, s.awake.loopCfgWrite_of_guActive hmode hact]
  case cleared => exact (exec_loopModeWrite_mode_or_set hx ht).resolve_left hchange

end Sys2Proof.Machine
end

section
/-! Every command goes on, and what it can touch: the masks of Laws/Same.lean gathered over the commands, with the frames and invariants
that follow from them (obligations O1, O2 and O6 to O9, and the frames O14 to O18). -/
set_option Elab.async false
namespace Sys2Proof.Machine

/-! One table over the commands. -/

/-- The parts of the state that a command can touch, as the mask of its meaning's lemma in Laws/Same*.lean; `exec_same` ties it to `exec`. -/
def touched : Instr → Nat
  | .nodeSilent .. | .retriesReset .. | .discHoldExpiry => 2
  | .ctCaptureRead => 10
  | .syncOutputPulse | .syncPulseEnd => 128
  | .timeRespTimeout => 130
  | .timerStartAtCt .. => 258
  | .linefault .. | .msixUnmask .. | .coalesceTimeout => 546
  | .holdcntExpiry | .syncEdgeTimeout => 674
  | .compareMatch .. | .captureEntry .. => 1826
  | .pmicPgRise => 2048
  | .xinRecovered | .wakePgTimeout => 2050
  | .configRequest .. => 2060
  | .errstsClr .. | .busCounterClr .. | .admissionCounterClr .. | .tripClear .. | .guardCounterClr .. | .loopCounterClr ..
  | .selfCheckGo .. | .serialCounterClr .. | .canRecover .. | .canCounterClr .. | .pscCounterClr .. | .eptCounterClr ..
  | .mashCounterClr .. | .rcgCounterClr .. | .tenCounterClr .. | .rngCounterClr .. | .directoryEntryLoad .. | .eoi ..
  | .sourceCommit .. | .sourceRead .. | .hubLatchClear .. | .hubset .. | .forceSet .. | .forceClr .. | .icuConfigWrite ..
  | .icuCounterClr .. | .channelConfigWrite .. | .evmCounterClr .. | .clkCounterClr .. | .rstCounterClr .. | .pwrCounterClr ..
  | .lifeCounterLoad .. | .nvsCounterClr .. | .guardLock => 2594
  | .claim .. => 2602
  | .syncutcWrite .. => 2722
  | .rootPllLocked | .memrdy => 2786
  | .timerEnable .. | .timerCounterWrite .. | .compareArm .. | .captureClr .. => 2850
  | .captureHeadHold .. | .capturePop .. => 2858
  | .canWake .. | .swpulse .. | .queueFlush .. => 3618
  | .eventQueueHold .. | .eventQueuePop .. => 3626
  | .layoutChange .. => 8192
  | .probationEnd .. => 8194
  | .wheelStandstill .. => 16384
  | .templateCommit .. | .templateRead .. => 35362
  | .serialEntryStart .. => 37922
  | .canRecovered .. | .canBusError .. => 65538
  | .canFifoPop .. => 68130
  | .switchEffect => 263170
  | .tableLoadGo .. | .tableStore | .tableDiscard => 264738
  | .switchArm .. | .switchCancel => 265762
  | .armedSync | .periodicSync => 525314
  | .syncEdgeInput .. => 526246
  | .setCommit .. | .setRead .. | .setRelease .. | .chctlFreeze .. | .chctlThaw .. | .chctlSwitch .. => 526882
  | .syncNow | .syncArm | .syncDisarm => 527906
  | .rcgTimeTrigger .. => 1048578
  | .machineCommit .. | .machineRead .. | .machineRelease .. => 1051170
  | .windowCommit .. | .windowRead .. | .windowClr .. => 2099746
  | .recordCommit .. | .recordRead .. | .recordRelease .. => 2370082
  | .caskPlacement .. => 4194336
  | .ringSetup .. | .ringSetupRead .. | .ringSetupStop .. => 4196898
  | .trainingTimeout .. => 8388610
  | .timeReq .. | .flitReceived .. | .status .. | .statusTimer .. | .helloTimer .. => 8388642
  | .laneRetrained .. => 8388738
  | .timeExchangeStart => 8388768
  | .laneFault .. => 8388770
  | .syncAtMessage => 8912898
  | .cmdData | .event => 12582914
  | .trainingStepDone .. | .nop | .time | .ringStart | .ringQuery | .epQuery | .cmd => 12582946
  | .commandFetch .. => 12582950
  | .ringResume => 12583458
  | .completionWrite .. => 12583462
  | .accessTimeout .. => 12583466
  | .dmaWriteConfirmed .. | .caskAgeExpiry .. | .portEnable .. | .mark | .ringStop | .ringFlush | .caskData | .caskClose => 12585506
  | .schedCreate => 12587042
  | .nodeCmd => 12591138
  | .nodeDeadmitSilence .. => 12595234
  | .immediateReplyReceived .. | .nodeCommandTimeout .. | .admissionStep .. => 12595238
  | .busEnable .. | .nodeDrop .. => 12597794
  | .loopSet => 12599334
  | .complianceEntry .. | .complianceExit .. => 12600354
  | .toffExpiry .. => 12611622
  | .channelOn .. | .channelOff .. | .rearm .. => 12614182
  | .serXfer => 12615714
  | .canTxDone .. | .canTxTimeout .. | .canSend => 12648482
  | .remoteCommandTimeout .. | .tableLoad => 12845090
  | .cpl => 12845094
  | .tableLoadDone .. | .tableStoreDone .. => 12845602
  | .dmaReadDone .. => 12845606
  | .mashFreeze | .mashThaw | .mashSwitch | .syncAt => 13107234
  | .rcgSetpar | .rcgQuery => 13631522
  | .canBusOff .. => 13699618
  | .channelCommit .. | .channelRead .. | .channelClrsts .. => 14158370
  | .schedDestroy | .schedQuery | .schedTrigger | .streamOpen | .streamClose | .groupTrigger => 14162466
  | .loopModeWrite .. => 14174758
  | .slaveWordReceived .. | .slaveSelectNegated .. => 14191138
  | .serialPlacement .. => 14195234
  | .bankRetire | .rcgReset => 14420514
  | .mashInput .. => 14421538
  | .wheelInstant .. | .courseDeadline .. => 14424610
  | .recognizerStep => 14425634
  | .slotEnd .. | .grant .. => 14432802
  | .dataFrameReceived .. | .unknownFrame .. | .joinFrameReceived .. => 14432806
  | .cmdtail .. | .cplhead .. | .evthead .. | .resumecmd .. | .resumecpl .. | .resumeevt .. | .clrdberr .. | .post .. | .ack ..
  | .thermalRecover .. | .wakeat | .wakeRetry => 14433826
  | .shedFall .. | .powerRestore .. => 14433954
  | .timeResp .. => 14434022
  | .decode => 14453282
  | .serialEntryDone .. | .serlateExpiry .. => 14457378
  | .canFrameReceived .. => 14487078
  | .leaseEndAck .. | .leaseGrant => 14680098
  | .caskack | .caskValidTimeout => 14682658
  | .rcgDestroy => 15990818
  | .rcgCreate => 16517666
  | .leaseExpiry .. | .leaseRevoke => 16521762
  | .detach | .report | .genack => 25165826
  | .splitHoldExpiry .. | .offer | .attach | .dirack | .stateTransferStart | .prepare | .withdraw | .state => 25165858
  | .regresult => 25166370
  | .linkDown .. | .nak .. | .replayTimeout .. => 25166498
  | .remoteSetupGo .. | .reelect | .hostLinkUp | .rolCounterClr => 25168418
  | .housekeepingReady => 25176610
  | .pageBufferTimeout => 25296942
  | .statusPoll .. | .progtoExpiry => 25297454
  | .memApRead .. | .memApWrite .. | .memFlush .. | .rawCommand .. => 25299502
  | .hello .. | .resume .. | .retryHoldExpiry .. => 29360162
  | .close .. => 29360802
  | .autotExpiry => 31432238
  | .commitPoint .. | .abort | .doze | .watch | .hibernate | .off | .drained => 31440430
  | .configAck => 31457314
  | .configTimeout .. | .staleResend => 31457826
  | .reject => 31719974
  | .directory => 33299106
  | .settleExpiry => 33308390
  | .refreshScan .. | .lifeCheckpoint => 33554434
  | .append | .journalRead => 33557026
  | .eventRecordWrite .. => 37749282
  | .setKey => 46137378
  | .bootStageTimeout => 46139938
  | .integratorTrip .. => 46167590
  | .windowTrip .. | .monitorEdge .. | .selfCheckDone .. => 46169894
  | .bootStageDone .. => 46432230
  | .eventDelivery | .vafeLoss | .vafeReturn => 47742758
  | .journalWrite | .nvmEraseDone => 48235042
  | .layoutEffective .. => 50084390
  | .beaconTransmit .. | .watchCycle => 50085414
  | .shedRise .. | .powerFail .. | .thermalShutdown .. => 65011438
  | .tenCreate | .tenChange | .tenDestroy | .tenReset | .bind | .prepared | .configCommit | .genset => 66853410
  | .hostLinkReset .. | .functionLevelReset => 66918946
  | .nvmProgramDone .. | .thermalProgramAbandon .. => 67108590
  | .coreHold => 67108838
  | .updateGo | .guardImageStore | .guardImageErase => 67111458
  | .updateDone .. | .guardImageDone .. => 79692322
  | .tapRelease .. | .rootPllUnlock | .warm | .core | .hkrst | .resetStart | .watchdogExpiry | .wakeComplete => 134119142
  | .tapIsolate .. => 134217510
  | .powerOnReset .. => 134217682
  | .xinFailure => 134217702
  | .registerWrite .. => 134217710
  | .entryCommit .. | .wakeSource .. => 134217714
  | .regaccess => 134217726

/-- A mask lists its own parts. -/
theorem Sub.refl (m : Nat) : Sub m m := Nat.or_self m

/-- Every meaning ends in a next state. -/
theorem exec_next (c : Instr) (s : State) : ∃ t, exec c s = .next t := by
  cases c <;> exact ⟨_, rfl⟩

/-- A command changes no part of the state but those its mask lists. -/
theorem exec_same (c : Instr) (s : State) : SameR (touched c) s (exec c s) := by
  cases c with
  | registerWrite bar2 ofs n v w => exact execRegisterWrite_same _ _ _ _ _ s (.refl _) (.refl _ s)
  | errstsClr ofs v => exact execErrstsClr_same _ _ s (.refl _) (.refl _ s)
  | timeReq p pl lat => exact execTimeReq_same _ _ _ s (.refl _) (.refl _ s)
  | timeResp p pl => exact execTimeResp_same _ _ s (.refl _) (.refl _ s)
  | syncEdgeInput fall => exact execSyncEdgeInput_same _ s (.refl _) (.refl _ s)
  | syncutcWrite v => exact execSyncutcWrite_same _ s (.refl _) (.refl _ s)
  | timerEnable x v => exact execTimerEnable_same _ _ s (.refl _) (.refl _ s)
  | timerStartAtCt x => exact execTimerStartAtCt_same _ s (.refl _) (.refl _ s)
  | timerCounterWrite x v => exact execTimerCounterWrite_same _ _ s (.refl _) (.refl _ s)
  | compareArm x y v => exact execCompareArm_same _ _ _ s (.refl _) (.refl _ s)
  | compareMatch x y => exact execCompareMatch_same _ _ s (.refl _) (.refl _ s)
  | captureEntry x fall => exact execCaptureEntry_same _ _ s (.refl _) (.refl _ s)
  | captureHeadHold x y => exact execCaptureHeadHold_same _ _ s (.refl _) (.refl _ s)
  | capturePop x y => exact execCapturePop_same _ _ s (.refl _) (.refl _ s)
  | captureClr x y v => exact execCaptureClr_same _ _ _ s (.refl _) (.refl _ s)
  | busEnable b v => exact execBusEnable_same _ _ s (.refl _) (.refl _ s)
  | beaconTransmit b => exact execBeaconTransmit_same _ s (.refl _) (.refl _ s)
  | dataFrameReceived b arr gs => exact execDataFrameReceived_same _ _ _ s (.refl _) (.refl _ s)
  | unknownFrame b arr gs => exact execUnknownFrame_same _ _ _ s (.refl _) (.refl _ s)
  | joinFrameReceived b arr gs => exact execJoinFrameReceived_same _ _ _ s (.refl _) (.refl _ s)
  | immediateReplyReceived b r gs => exact execImmediateReplyReceived_same _ _ _ s (.refl _) (.refl _ s)
  | nodeSilent b a => exact execNodeSilent_same _ _ s (.refl _) (.refl _ s)
  | linefault b => exact execLinefault_same _ s (.refl _) (.refl _ s)
  | probationEnd b a => exact execProbationEnd_same _ _ s (.refl _) (.refl _ s)
  | nodeDeadmitSilence b a => exact execNodeDeadmitSilence_same _ _ s (.refl _) (.refl _ s)
  | nodeCommandTimeout b a => exact execNodeCommandTimeout_same _ _ s (.refl _) (.refl _ s)
  | admissionStep b => exact execAdmissionStep_same _ s (.refl _) (.refl _ s)
  | layoutChange b => exact execLayoutChange_same _ s (.refl _) (.refl _ s)
  | layoutEffective b => exact execLayoutEffective_same _ s (.refl _) (.refl _ s)
  | nodeDrop b a => exact execNodeDrop_same _ _ s (.refl _) (.refl _ s)
  | busCounterClr b v => exact execBusCounterClr_same _ _ s (.refl _) (.refl _ s)
  | admissionCounterClr b v => exact execAdmissionCounterClr_same _ _ s (.refl _) (.refl _ s)
  | windowTrip c volt v => exact execWindowTrip_same _ _ _ s (.refl _) (.refl _ s)
  | integratorTrip c => exact execIntegratorTrip_same _ s (.refl _) (.refl _ s)
  | channelOn c => exact execChannelOn_same _ s (.refl _) (.refl _ s)
  | channelOff c => exact execChannelOff_same _ s (.refl _) (.refl _ s)
  | rearm c => exact execRearm_same _ s (.refl _) (.refl _ s)
  | toffExpiry c => exact execToffExpiry_same _ s (.refl _) (.refl _ s)
  | retriesReset c => exact execRetriesReset_same _ s (.refl _) (.refl _ s)
  | tripClear v => exact execTripClear_same _ s (.refl _) (.refl _ s)
  | guardCounterClr c v => exact execGuardCounterClr_same _ _ s (.refl _) (.refl _ s)
  | loopModeWrite x v => exact execLoopModeWrite_same _ _ s (.refl _) (.refl _ s)
  | complianceEntry x => exact execComplianceEntry_same _ s (.refl _) (.refl _ s)
  | complianceExit x => exact execComplianceExit_same _ s (.refl _) (.refl _ s)
  | loopCounterClr x v => exact execLoopCounterClr_same _ _ s (.refl _) (.refl _ s)
  | monitorEdge m v => exact execMonitorEdge_same _ _ s (.refl _) (.refl _ s)
  | selfCheckGo v => exact execSelfCheckGo_same _ s (.refl _) (.refl _ s)
  | selfCheckDone hi lo hs ls => exact execSelfCheckDone_same (.refl _) _ _ _ _ s (.refl _ s)
  | wheelStandstill m => exact execWheelStandstill_same _ s (.refl _) (.refl _ s)
  | templateCommit n => exact execTemplateCommit_same _ s (.refl _) (.refl _ s)
  | templateRead n => exact execTemplateRead_same _ s (.refl _) (.refl _ s)
  | serialEntryStart x => exact execSerialEntryStart_same _ s (.refl _) (.refl _ s)
  | serialEntryDone x ws => exact execSerialEntryDone_same _ _ s (.refl _) (.refl _ s)
  | slaveWordReceived x v => exact execSlaveWordReceived_same _ _ s (.refl _) (.refl _ s)
  | slaveSelectNegated x n back v => exact execSlaveSelectNegated_same _ _ _ _ s (.refl _) (.refl _ s)
  | serialCounterClr x v => exact execSerialCounterClr_same _ _ s (.refl _) (.refl _ s)
  | memApRead k b b2 => exact execMemApRead_same _ _ _ s (.refl _) (.refl _ s)
  | memApWrite k v => exact execMemApWrite_same _ _ s (.refl _) (.refl _ s)
  | memFlush v => exact execMemFlush_same _ s (.refl _) (.refl _ s)
  | statusPoll st b => exact execStatusPoll_same _ _ s (.refl _) (.refl _ s)
  | rawCommand v rx => exact execRawCommand_same _ _ s (.refl _) (.refl _ s)
  | canFrameReceived x w data lat => exact execCanFrameReceived_same _ _ _ _ s (.refl _) (.refl _ s)
  | canTxDone x error exempt lat => exact execCanTxDone_same _ _ _ _ s (.refl _) (.refl _ s)
  | canTxTimeout x y => exact execCanTxTimeout_same _ _ s (.refl _) (.refl _ s)
  | canBusOff x => exact execCanBusOff_same _ s (.refl _) (.refl _ s)
  | canRecovered x => exact execCanRecovered_same _ s (.refl _) (.refl _ s)
  | canRecover x v => exact execCanRecover_same _ _ s (.refl _) (.refl _ s)
  | canFifoPop x v => exact execCanFifoPop_same _ _ s (.refl _) (.refl _ s)
  | canWake x => exact execCanWake_same _ s (.refl _) (.refl _ s)
  | canCounterClr x v => exact execCanCounterClr_same _ _ s (.refl _) (.refl _ s)
  | commitPoint b => exact execCommitPoint_same _ s (.refl _) (.refl _ s)
  | serialPlacement e => exact execSerialPlacement_same _ s (.refl _) (.refl _ s)
  | serlateExpiry x => exact execSerlateExpiry_same _ s (.refl _) (.refl _ s)
  | wheelInstant e => exact execWheelInstant_same _ s (.refl _) (.refl _ s)
  | courseDeadline b => exact execCourseDeadline_same _ s (.refl _) (.refl _ s)
  | remoteCommandTimeout tag => exact execRemoteCommandTimeout_same _ s (.refl _) (.refl _ s)
  | pscCounterClr v => exact execPscCounterClr_same _ s (.refl _) (.refl _ s)
  | recordCommit e => exact execRecordCommit_same _ s (.refl _) (.refl _ s)
  | recordRead e => exact execRecordRead_same _ s (.refl _) (.refl _ s)
  | recordRelease e => exact execRecordRelease_same _ s (.refl _) (.refl _ s)
  | tableLoadGo src => exact execTableLoadGo_same _ s (.refl _) (.refl _ s)
  | tableLoadDone ok b => exact execTableLoadDone_same _ _ s (.refl _) (.refl _ s)
  | tableStoreDone ok => exact execTableStoreDone_same _ s (.refl _) (.refl _ s)
  | switchArm now => exact execSwitchArm_same _ s (.refl _) (.refl _ s)
  | eptCounterClr v => exact execEptCounterClr_same _ s (.refl _) (.refl _ s)
  | channelCommit c => exact execChannelCommit_same _ s (.refl _) (.refl _ s)
  | channelRead c => exact execChannelRead_same _ s (.refl _) (.refl _ s)
  | channelClrsts c => exact execChannelClrsts_same _ s (.refl _) (.refl _ s)
  | setCommit n => exact execSetCommit_same _ s (.refl _) (.refl _ s)
  | setRead n => exact execSetRead_same _ s (.refl _) (.refl _ s)
  | setRelease n => exact execSetRelease_same _ s (.refl _) (.refl _ s)
  | mashInput x l bit => exact execMashInput_same _ _ _ s (.refl _) (.refl _ s)
  | chctlFreeze c k => exact execChctlFreeze_same _ _ s (.refl _) (.refl _ s)
  | chctlThaw c k => exact execChctlThaw_same _ _ s (.refl _) (.refl _ s)
  | chctlSwitch c k xf n => exact execChctlSwitch_same _ _ _ _ s (.refl _) (.refl _ s)
  | mashCounterClr v => exact execMashCounterClr_same _ s (.refl _) (.refl _ s)
  | machineCommit n => exact execMachineCommit_same _ s (.refl _) (.refl _ s)
  | machineRead n => exact execMachineRead_same _ s (.refl _) (.refl _ s)
  | machineRelease n => exact execMachineRelease_same _ s (.refl _) (.refl _ s)
  | rcgTimeTrigger n => exact execRcgTimeTrigger_same _ s (.refl _) (.refl _ s)
  | rcgCounterClr v => exact execRcgCounterClr_same _ s (.refl _) (.refl _ s)
  | leaseExpiry idx => exact execLeaseExpiry_same _ s (.refl _) (.refl _ s)
  | leaseEndAck idx => exact execLeaseEndAck_same _ s (.refl _) (.refl _ s)
  | windowCommit t k => exact execWindowCommit_same _ _ s (.refl _) (.refl _ s)
  | windowRead t k => exact execWindowRead_same _ _ s (.refl _) (.refl _ s)
  | windowClr t k => exact execWindowClr_same _ _ s (.refl _) (.refl _ s)
  | tenCounterClr v => exact execTenCounterClr_same _ s (.refl _) (.refl _ s)
  | cmdtail t v => exact execCmdtail_same _ _ s (.refl _) (.refl _ s)
  | cplhead t v => exact execCplhead_same _ _ s (.refl _) (.refl _ s)
  | evthead t v => exact execEvthead_same _ _ s (.refl _) (.refl _ s)
  | resumecmd t v => exact execResumecmd_same _ _ s (.refl _) (.refl _ s)
  | resumecpl t v => exact execResumecpl_same _ _ s (.refl _) (.refl _ s)
  | resumeevt t v => exact execResumeevt_same _ _ s (.refl _) (.refl _ s)
  | clrdberr t v => exact execClrdberr_same _ _ s (.refl _) (.refl _ s)
  | post t r v => exact execPost_same _ _ _ s (.refl _) (.refl _ s)
  | ack t r v => exact execAck_same _ _ _ s (.refl _) (.refl _ s)
  | commandFetch t => exact execCommandFetch_same _ s (.refl _) (.refl _ s)
  | completionWrite t => exact execCompletionWrite_same _ s (.refl _) (.refl _ s)
  | dmaWriteConfirmed t what ok => exact execDmaWriteConfirmed_same _ _ _ s (.refl _) (.refl _ s)
  | dmaReadDone t what slot ok b => exact execDmaReadDone_same _ _ _ _ _ s (.refl _) (.refl _ s)
  | caskAgeExpiry uid ring => exact execCaskAgeExpiry_same _ _ s (.refl _) (.refl _ s)
  | caskPlacement t r => exact execCaskPlacement_same _ _ s (.refl _) (.refl _ s)
  | eventRecordWrite t => exact execEventRecordWrite_same _ s (.refl _) (.refl _ s)
  | ringSetup t k => exact execRingSetup_same _ _ s (.refl _) (.refl _ s)
  | ringSetupRead t k => exact execRingSetupRead_same _ _ s (.refl _) (.refl _ s)
  | ringSetupStop t k => exact execRingSetupStop_same _ _ s (.refl _) (.refl _ s)
  | rngCounterClr v => exact execRngCounterClr_same _ s (.refl _) (.refl _ s)
  | hostLinkReset kind => exact execHostLinkReset_same _ s (.refl _) (.refl _ s)
  | portEnable p v => exact execPortEnable_same _ _ s (.refl _) (.refl _ s)
  | trainingStepDone p mask => exact execTrainingStepDone_same _ _ s (.refl _) (.refl _ s)
  | trainingTimeout p => exact execTrainingTimeout_same _ s (.refl _) (.refl _ s)
  | laneFault p lane => exact execLaneFault_same _ _ s (.refl _) (.refl _ s)
  | laneRetrained p lane => exact execLaneRetrained_same _ _ s (.refl _) (.refl _ s)
  | linkDown p => exact execLinkDown_same _ s (.refl _) (.refl _ s)
  | flitReceived p bs first nsym => exact execFlitReceived_same _ _ _ _ s (.refl _) (.refl _ s)
  | status p pl => exact execStatus_same _ _ s (.refl _) (.refl _ s)
  | nak p pl => exact execNak_same _ _ s (.refl _) (.refl _ s)
  | replayTimeout p => exact execReplayTimeout_same _ s (.refl _) (.refl _ s)
  | statusTimer p => exact execStatusTimer_same _ s (.refl _) (.refl _ s)
  | hello p pl => exact execHello_same _ _ s (.refl _) (.refl _ s)
  | helloTimer p => exact execHelloTimer_same _ s (.refl _) (.refl _ s)
  | resume p pl => exact execResume_same _ _ s (.refl _) (.refl _ s)
  | close p pl => exact execClose_same _ _ s (.refl _) (.refl _ s)
  | splitHoldExpiry p => exact execSplitHoldExpiry_same _ s (.refl _) (.refl _ s)
  | retryHoldExpiry p => exact execRetryHoldExpiry_same _ s (.refl _) (.refl _ s)
  | configTimeout tag => exact execConfigTimeout_same _ s (.refl _) (.refl _ s)
  | remoteSetupGo wr => exact execRemoteSetupGo_same _ s (.refl _) (.refl _ s)
  | directoryEntryLoad p => exact execDirectoryEntryLoad_same _ s (.refl _) (.refl _ s)
  | claim k => exact execClaim_same _ s (.refl _) (.refl _ s)
  | eoi k v => exact execEoi_same _ _ s (.refl _) (.refl _ s)
  | sourceCommit n => exact execSourceCommit_same _ s (.refl _) (.refl _ s)
  | sourceRead n => exact execSourceRead_same _ s (.refl _) (.refl _ s)
  | hubLatchClear hi v => exact execHubLatchClear_same (.refl _) _ _ s (.refl _ s)
  | hubset v => exact execHubset_same _ s (.refl _) (.refl _ s)
  | forceSet n => exact execForceSet_same _ s (.refl _) (.refl _ s)
  | forceClr n => exact execForceClr_same _ s (.refl _) (.refl _ s)
  | icuConfigWrite v => exact execIcuConfigWrite_same _ s (.refl _) (.refl _ s)
  | msixUnmask k => exact execMsixUnmask_same _ s (.refl _) (.refl _ s)
  | icuCounterClr v => exact execIcuCounterClr_same _ s (.refl _) (.refl _ s)
  | swpulse v => exact execSwpulse_same _ s (.refl _) (.refl _ s)
  | eventQueueHold q lo => exact execEventQueueHold_same _ _ s (.refl _) (.refl _ s)
  | eventQueuePop q => exact execEventQueuePop_same _ s (.refl _) (.refl _ s)
  | queueFlush q => exact execQueueFlush_same _ s (.refl _) (.refl _ s)
  | channelConfigWrite c w v => exact execChannelConfigWrite_same _ _ _ s (.refl _) (.refl _ s)
  | evmCounterClr v => exact execEvmCounterClr_same _ s (.refl _) (.refl _ s)
  | powerOnReset vaon => exact execPowerOnReset_same _ s (.refl _) (.refl _ s)
  | accessTimeout desc ofs => exact execAccessTimeout_same _ _ s (.refl _) (.refl _ s)
  | clkCounterClr v => exact execClkCounterClr_same _ s (.refl _) (.refl _ s)
  | rstCounterClr v => exact execRstCounterClr_same _ s (.refl _) (.refl _ s)
  | entryCommit l2 => exact execEntryCommit_same _ s (.refl _) (.refl _ s)
  | wakeSource bits => exact execWakeSource_same _ s (.refl _) (.refl _ s)
  | shedRise mv tj => exact execShedRise_same _ _ s (.refl _) (.refl _ s)
  | shedFall mv tj => exact execShedFall_same _ _ s (.refl _) (.refl _ s)
  | powerFail why mv => exact execPowerFail_same _ _ s (.refl _) (.refl _ s)
  | powerRestore mv tj => exact execPowerRestore_same _ _ s (.refl _) (.refl _ s)
  | thermalShutdown tj => exact execThermalShutdown_same _ s (.refl _) (.refl _ s)
  | thermalRecover tj => exact execThermalRecover_same _ s (.refl _) (.refl _ s)
  | pwrCounterClr v => exact execPwrCounterClr_same _ s (.refl _) (.refl _ s)
  | nvmProgramDone ok => exact execNvmProgramDone_same _ s (.refl _) (.refl _ s)
  | refreshScan margin => exact execRefreshScan_same _ s (.refl _) (.refl _ s)
  | lifeCounterLoad n => exact execLifeCounterLoad_same _ s (.refl _) (.refl _ s)
  | nvsCounterClr v => exact execNvsCounterClr_same _ s (.refl _) (.refl _ s)
  | bootStageDone ra rb rg => exact execBootStageDone_same _ _ _ s (.refl _) (.refl _ s)
  | configRequest wr ofs v => exact execConfigRequest_same _ _ _ s (.refl _) (.refl _ s)
  | updateDone rd st b => exact execUpdateDone_same _ _ _ s (.refl _) (.refl _ s)
  | guardImageDone ok => exact execGuardImageDone_same _ s (.refl _) (.refl _ s)
  | slotEnd b a sub => exact execSlotEnd_same _ _ _ s (.refl _) (.refl _ s)
  | grant b => exact execGrant_same _ s (.refl _) (.refl _ s)
  | canBusError x eight => exact execCanBusError_same _ _ s (.refl _) (.refl _ s)
  | thermalProgramAbandon tj => exact execThermalProgramAbandon_same _ s (.refl _) (.refl _ s)
  | tapIsolate ir cells => exact execTapIsolate_same _ _ s (.refl _) (.refl _ s)
  | tapRelease ir => exact execTapRelease_same _ s (.refl _) (.refl _ s)
  | ctCaptureRead => exact execCtCaptureRead_same s (.refl _) (.refl _ s)
  | timeExchangeStart => exact execTimeExchangeStart_same s (.refl _) (.refl _ s)
  | timeRespTimeout => exact execTimeRespTimeout_same s (.refl _) (.refl _ s)
  | holdcntExpiry => exact execHoldcntExpiry_same s (.refl _) (.refl _ s)
  | syncEdgeTimeout => exact execSyncEdgeTimeout_same s (.refl _) (.refl _ s)
  | discHoldExpiry => exact execDiscHoldExpiry_same s (.refl _) (.refl _ s)
  | syncOutputPulse => exact execSyncOutputPulse_same s (.refl _) (.refl _ s)
  | syncPulseEnd => exact execSyncPulseEnd_same s (.refl _) (.refl _ s)
  | guardLock => exact execGuardLock_same s (.refl _) (.refl _ s)
  | loopSet => exact execLoopSet_same s (.refl _) (.refl _ s)
  | pageBufferTimeout => exact execPageBufferTimeout_same s (.refl _) (.refl _ s)
  | progtoExpiry => exact execProgtoExpiry_same s (.refl _) (.refl _ s)
  | canSend => exact execCanSend_same s (.refl _) (.refl _ s)
  | schedCreate => exact execSchedCreate_same s (.refl _) (.refl _ s)
  | schedDestroy => exact execSchedDestroy_same s (.refl _) (.refl _ s)
  | schedQuery => exact execSchedQuery_same s (.refl _) (.refl _ s)
  | schedTrigger => exact execSchedTrigger_same s (.refl _) (.refl _ s)
  | decode => exact execDecode_same s (.refl _) (.refl _ s)
  | tableLoad => exact execTableLoad_same s (.refl _) (.refl _ s)
  | tableStore => exact execTableStore_same s (.refl _) (.refl _ s)
  | tableDiscard => exact execTableDiscard_same s (.refl _) (.refl _ s)
  | switchCancel => exact execSwitchCancel_same s (.refl _) (.refl _ s)
  | switchEffect => exact execSwitchEffect_same s (.refl _) (.refl _ s)
  | bankRetire => exact execBankRetire_same s (.refl _) (.refl _ s)
  | mashFreeze => exact execMashFreeze_same s (.refl _) (.refl _ s)
  | mashThaw => exact execMashThaw_same s (.refl _) (.refl _ s)
  | mashSwitch => exact execMashSwitch_same s (.refl _) (.refl _ s)
  | syncNow => exact execSyncNow_same s (.refl _) (.refl _ s)
  | syncArm => exact execSyncArm_same s (.refl _) (.refl _ s)
  | syncDisarm => exact execSyncDisarm_same s (.refl _) (.refl _ s)
  | armedSync => exact execArmedSync_same s (.refl _) (.refl _ s)
  | periodicSync => exact execPeriodicSync_same s (.refl _) (.refl _ s)
  | rcgCreate => exact execRcgCreate_same s (.refl _) (.refl _ s)
  | rcgDestroy => exact execRcgDestroy_same s (.refl _) (.refl _ s)
  | rcgReset => exact execRcgReset_same s (.refl _) (.refl _ s)
  | rcgSetpar => exact execRcgSetpar_same s (.refl _) (.refl _ s)
  | rcgQuery => exact execRcgQuery_same s (.refl _) (.refl _ s)
  | recognizerStep => exact execRecognizerStep_same s (.refl _) (.refl _ s)
  | tenCreate => exact execTenCreate_same s (.refl _) (.refl _ s)
  | tenChange => exact execTenChange_same s (.refl _) (.refl _ s)
  | tenDestroy => exact execTenDestroy_same s (.refl _) (.refl _ s)
  | tenReset => exact execTenReset_same s (.refl _) (.refl _ s)
  | bind => exact execBind_same s (.refl _) (.refl _ s)
  | leaseGrant => exact execLeaseGrant_same s (.refl _) (.refl _ s)
  | leaseRevoke => exact execLeaseRevoke_same s (.refl _) (.refl _ s)
  | setKey => exact execSetKey_same s (.refl _) (.refl _ s)
  | nop => exact execNop_same s (.refl _) (.refl _ s)
  | time => exact execTime_same s (.refl _) (.refl _ s)
  | streamOpen => exact execStreamOpen_same s (.refl _) (.refl _ s)
  | streamClose => exact execStreamClose_same s (.refl _) (.refl _ s)
  | mark => exact execMark_same s (.refl _) (.refl _ s)
  | ringStart => exact execRingStart_same s (.refl _) (.refl _ s)
  | ringStop => exact execRingStop_same s (.refl _) (.refl _ s)
  | ringResume => exact execRingResume_same s (.refl _) (.refl _ s)
  | ringFlush => exact execRingFlush_same s (.refl _) (.refl _ s)
  | ringQuery => exact execRingQuery_same s (.refl _) (.refl _ s)
  | epQuery => exact execEpQuery_same s (.refl _) (.refl _ s)
  | nodeCmd => exact execNodeCmd_same s (.refl _) (.refl _ s)
  | serXfer => exact execSerXfer_same s (.refl _) (.refl _ s)
  | syncAt => exact execSyncAt_same s (.refl _) (.refl _ s)
  | functionLevelReset => exact execFunctionLevelReset_same s (.refl _) (.refl _ s)
  | cmd => exact execCmd_same s (.refl _) (.refl _ s)
  | cmdData => exact execCmdData_same s (.refl _) (.refl _ s)
  | cpl => exact execCpl_same s (.refl _) (.refl _ s)
  | reject => exact execReject_same s (.refl _) (.refl _ s)
  | staleResend => exact execStaleResend_same s (.refl _) (.refl _ s)
  | caskData => exact execCaskData_same s (.refl _) (.refl _ s)
  | caskClose => exact execCaskClose_same s (.refl _) (.refl _ s)
  | caskack => exact execCaskack_same s (.refl _) (.refl _ s)
  | event => exact execEvent_same s (.refl _) (.refl _ s)
  | syncAtMessage => exact execSyncAtMessage_same s (.refl _) (.refl _ s)
  | groupTrigger => exact execGroupTrigger_same s (.refl _) (.refl _ s)
  | reelect => exact execReelect_same s (.refl _) (.refl _ s)
  | hostLinkUp => exact execHostLinkUp_same s (.refl _) (.refl _ s)
  | offer => exact execOffer_same s (.refl _) (.refl _ s)
  | attach => exact execAttach_same s (.refl _) (.refl _ s)
  | detach => exact execDetach_same s (.refl _) (.refl _ s)
  | report => exact execReport_same s (.refl _) (.refl _ s)
  | settleExpiry => exact execSettleExpiry_same s (.refl _) (.refl _ s)
  | directory => exact execDirectory_same s (.refl _) (.refl _ s)
  | dirack => exact execDirack_same s (.refl _) (.refl _ s)
  | stateTransferStart => exact execStateTransferStart_same s (.refl _) (.refl _ s)
  | prepare => exact execPrepare_same s (.refl _) (.refl _ s)
  | prepared => exact execPrepared_same s (.refl _) (.refl _ s)
  | configCommit => exact execConfigCommit_same s (.refl _) (.refl _ s)
  | withdraw => exact execWithdraw_same s (.refl _) (.refl _ s)
  | regaccess => exact execRegaccess_same s (.refl _) (.refl _ s)
  | regresult => exact execRegresult_same s (.refl _) (.refl _ s)
  | state => exact execState_same s (.refl _) (.refl _ s)
  | genset => exact execGenset_same s (.refl _) (.refl _ s)
  | genack => exact execGenack_same s (.refl _) (.refl _ s)
  | configAck => exact execConfigAck_same s (.refl _) (.refl _ s)
  | rolCounterClr => exact execRolCounterClr_same s (.refl _) (.refl _ s)
  | coalesceTimeout => exact execCoalesceTimeout_same s (.refl _) (.refl _ s)
  | eventDelivery => exact execEventDelivery_same s (.refl _) (.refl _ s)
  | xinFailure => exact execXinFailure_same s (.refl _) (.refl _ s)
  | xinRecovered => exact execXinRecovered_same s (.refl _) (.refl _ s)
  | rootPllUnlock => exact execRootPllUnlock_same s (.refl _) (.refl _ s)
  | rootPllLocked => exact execRootPllLocked_same s (.refl _) (.refl _ s)
  | warm => exact execWarm_same s (.refl _) (.refl _ s)
  | core => exact execCore_same s (.refl _) (.refl _ s)
  | hkrst => exact execHkrst_same s (.refl _) (.refl _ s)
  | resetStart => exact execResetStart_same s (.refl _) (.refl _ s)
  | coreHold => exact execCoreHold_same s (.refl _) (.refl _ s)
  | housekeepingReady => exact execHousekeepingReady_same s (.refl _) (.refl _ s)
  | watchdogExpiry => exact execWatchdogExpiry_same s (.refl _) (.refl _ s)
  | abort => exact execAbort_same s (.refl _) (.refl _ s)
  | doze => exact execDoze_same s (.refl _) (.refl _ s)
  | watch => exact execWatch_same s (.refl _) (.refl _ s)
  | hibernate => exact execHibernate_same s (.refl _) (.refl _ s)
  | off => exact execOff_same s (.refl _) (.refl _ s)
  | autotExpiry => exact execAutotExpiry_same s (.refl _) (.refl _ s)
  | drained => exact execDrained_same s (.refl _) (.refl _ s)
  | wakeat => exact execWakeat_same s (.refl _) (.refl _ s)
  | pmicPgRise => exact execPmicPgRise_same s (.refl _) (.refl _ s)
  | memrdy => exact execMemrdy_same s (.refl _) (.refl _ s)
  | wakeComplete => exact execWakeComplete_same s (.refl _) (.refl _ s)
  | wakePgTimeout => exact execWakePgTimeout_same s (.refl _) (.refl _ s)
  | wakeRetry => exact execWakeRetry_same s (.refl _) (.refl _ s)
  | watchCycle => exact execWatchCycle_same s (.refl _) (.refl _ s)
  | append => exact execAppend_same s (.refl _) (.refl _ s)
  | journalRead => exact execJournalRead_same s (.refl _) (.refl _ s)
  | journalWrite => exact execJournalWrite_same s (.refl _) (.refl _ s)
  | nvmEraseDone => exact execNvmEraseDone_same s (.refl _) (.refl _ s)
  | lifeCheckpoint => exact execLifeCheckpoint_same s (.refl _) (.refl _ s)
  | bootStageTimeout => exact execBootStageTimeout_same s (.refl _) (.refl _ s)
  | updateGo => exact execUpdateGo_same s (.refl _) (.refl _ s)
  | guardImageStore => exact execGuardImageStore_same s (.refl _) (.refl _ s)
  | guardImageErase => exact execGuardImageErase_same s (.refl _) (.refl _ s)
  | caskValidTimeout => exact execCaskValidTimeout_same s (.refl _) (.refl _ s)
  | vafeLoss => exact execVafeLoss_same s (.refl _) (.refl _ s)
  | vafeReturn => exact execVafeReturn_same s (.refl _) (.refl _ s)

/-- A command's next state, and what that state keeps. -/
theorem exec_next_same (c : Instr) (s : State) : ∃ t, exec c s = .next t ∧ Same (touched c) s t := by
  obtain ⟨t, ht⟩ := exec_next c s
  exact ⟨t, ht, same_of_next (exec_same c s) ht⟩

/-! Steps. -/

/-- With no command waiting a step is one CKFAB period. -/
theorem step_idle {s : State} (h : s.pending = []) : step s = .next s.tick := by
  rw [step, h]

/-- With commands waiting a step is the effect of the front one. -/
theorem step_front {s : State} {c : Instr} {rest : List Instr} (h : s.pending = c :: rest) :
    step s = exec c { s with pending := rest } := by
  rw [step, h]

/-- What every step answers: a next state whose queue has lost its front and whose register map is canonical if it was before. -/
theorem step_next (s : State) : ∃ t, step s = .next t ∧ t.pending = s.pending.drop 1 ∧ (s.RegsOk → t.RegsOk) := by
  cases h : s.pending with
  | nil =>
    have kept : Same 46167910 s s.tick := State.tick_same s (.refl _) (.refl 46167910 s)
    exact ⟨s.tick, step_idle h, kept.pending.trans h, kept.regsOk⟩
  | cons c rest =>
    obtain ⟨t, ht, kept⟩ := exec_next_same c { s with pending := rest }
    exact ⟨t, (step_front h).trans ht, kept.pending, kept.regsOk⟩

/-- The state a step answers, read off the step. -/
theorem pending_and_regsOk_of_step {s t : State} (h : step s = .next t) : t.pending = s.pending.drop 1 ∧ (s.RegsOk → t.RegsOk) := by
  obtain ⟨u, hu, kept⟩ := step_next s
  obtain rfl : u = t := Host.Outcome.next.inj (hu.symm.trans h)
  exact kept

/-- Settles O7: every meaning and the idle period keep the canonical form, by the field `regsOk` of their `Same`. -/
theorem registerMapStaysCanonical : Obligations.RegisterMapStaysCanonical :=
  fun _ _ hok h => (pending_and_regsOk_of_step h).2 hok

/-- Settles O8: a step drops the queue's front, and what is left of a well-formed queue is well formed. -/
theorem stepTakesOneCommand : Obligations.StepTakesOneCommand := by
  refine ⟨fun s t h => (pending_and_regsOk_of_step h).1, fun s t hq h _ hc => hq _ ?_⟩
  rw [(pending_and_regsOk_of_step h).1] at hc
  exact List.mem_of_mem_drop hc

/-- Settles O1. -/
theorem stepRunsFront : Obligations.StepRunsFront := fun _ _ _ h => step_front h

/-- Settles O6. -/
theorem everyStepGoes : Obligations.EveryStepGoes := fun s =>
  let ⟨t, ht, _⟩ := step_next s
  ⟨t, ht⟩

/-- Settles O5: the register map at reset lists nothing, and no command waits. -/
theorem resetCanonical : Obligations.ResetCanonical := ⟨rfl, fun _ hc => nomatch hc⟩

/-! One CKFAB period, for the idle step. -/

/-- The always-on count after a CKFAB period: one more at every 48th, and never beyond its greatest value (R12, R42). -/
theorem State.tickTime_cyc_aon (s : State) : s.tickTime.time.cyc = s.time.cyc + 1 ∧
    s.tickTime.time.aon = if (s.time.cyc + 1) % 48 = 0 then min (s.time.aon + 1) (2 ^ 64 - 1) else s.time.aon := by
  simp only [State.tickTime, apply_ite State.time, clockTicks_time, ite_self, and_self]

/-- Settles O2: the time part after the period is that of `tickTime` (`tick_time`). -/
theorem idleStepTicks : Obligations.IdleStepTicks := by
  refine ⟨fun s h => step_idle h, fun s h => by rw [State.tick, if_pos h], fun s h => ?_⟩
  rw [s.tick_time h]
  exact s.tickTime_cyc_aon

/-! Frames. -/

/-- x outside the mask, y where the mask lists the part whose number is k. -/
abbrev pick {α : Type} (m k : Nat) (x y : α) : α := bif m.testBit k then y else x

/-- a with t's parts where the mask lists them. -/
def State.withParts (m : Nat) (a t : State) : State :=
  { pending := a.pending, regs := pick m 1 a.regs t.regs, free := pick m 2 a.free t.free, rdata := pick m 3 a.rdata t.rdata,
    caps := pick m 4 a.caps t.caps, out := pick m 5 a.out t.out, time := pick m 6 a.time t.time, srv := pick m 7 a.srv t.srv,
    tus := pick m 8 a.tus t.tus, icu := pick m 9 a.icu t.icu, evm := pick m 10 a.evm t.evm, sys := pick m 11 a.sys t.sys,
    psc := pick m 12 a.psc t.psc, crs := pick m 13 a.crs t.crs, grd := pick m 14 a.grd t.grd, ser := pick m 15 a.ser t.ser,
    cans := pick m 16 a.cans t.cans, mem := pick m 17 a.mem t.mem, ept := pick m 18 a.ept t.ept, msh := pick m 19 a.msh t.msh,
    rcg := pick m 20 a.rcg t.rcg, ten := pick m 21 a.ten t.ten, rng := pick m 22 a.rng t.rng, bnd := pick m 23 a.bnd t.bnd,
    rol := pick m 24 a.rol t.rol, nvs := pick m 25 a.nvs t.nvs, boot := pick m 26 a.boot t.boot }

/-- A bit that a mask lacks is no part of it. -/
theorem not_sub_of_testBit {m k : Nat} (h : m.testBit k = false) : ¬ Sub (2 ^ k) m := fun e => by
  have bit : (2 ^ k ||| m).testBit k = m.testBit k := congrArg (Nat.testBit · k) e
  simp [h] at bit

/-- A part that `Same` keeps or the mask lists is what `pick` takes. -/
theorem eq_pick {α : Type} {m k : Nat} {x y : α} (h : y = x ∨ Sub (2 ^ k) m) : y = pick m k x y := by
  cases hk : m.testBit k with
  | true => simp [pick, hk]
  | false => simpa [pick, hk] using h.resolve_right (not_sub_of_testBit hk)

/-- t is a with the parts that the mask lists. -/
theorem Same.eq_withParts {m : Nat} {a t : State} (h : Same m a t) : t = a.withParts m t := by
  unfold State.withParts
  rw [← h.pending, ← eq_pick (k := 1) h.regs, ← eq_pick (k := 2) h.free, ← eq_pick (k := 3) h.rdata, ← eq_pick (k := 4) h.caps,
    ← eq_pick (k := 5) h.out, ← eq_pick (k := 6) h.time, ← eq_pick (k := 7) h.srv, ← eq_pick (k := 8) h.tus, ← eq_pick (k := 9) h.icu,
    ← eq_pick (k := 10) h.evm, ← eq_pick (k := 11) h.sys, ← eq_pick (k := 12) h.psc, ← eq_pick (k := 13) h.crs,
    ← eq_pick (k := 14) h.grd, ← eq_pick (k := 15) h.ser, ← eq_pick (k := 16) h.cans, ← eq_pick (k := 17) h.mem,
    ← eq_pick (k := 18) h.ept, ← eq_pick (k := 19) h.msh, ← eq_pick (k := 20) h.rcg, ← eq_pick (k := 21) h.ten,
    ← eq_pick (k := 22) h.rng, ← eq_pick (k := 23) h.bnd, ← eq_pick (k := 24) h.rol, ← eq_pick (k := 25) h.nvs,
    ← eq_pick (k := 26) h.boot]

/-- A command's next state is the one before with the parts the command can touch. -/
theorem exec_frame (c : Instr) (s : State) : ∃ t, exec c s = .next t ∧ t = s.withParts (touched c) t := by
  obtain ⟨t, ht, kept⟩ := exec_next_same c s
  exact ⟨t, ht, kept.eq_withParts⟩

/-- Settles O14: each clause is `exec_frame` with its command's mask written out. -/
theorem timeAndInterruptFrames : Obligations.TimeAndInterruptFrames := by
  unfold Obligations.TimeAndInterruptFrames
  repeat' apply And.intro
  all_goals
    intros
    refine (exec_frame _ _).imp fun t h => ⟨h.1, h.2.trans ?_⟩
    dsimp only [touched]
    rfl

/-- Settles O15: each clause is `exec_frame` with its command's mask written out. -/
theorem fieldFrames : Obligations.FieldFrames := by
  unfold Obligations.FieldFrames
  repeat' apply And.intro
  all_goals
    intros
    refine (exec_frame _ _).imp fun t h => ⟨h.1, h.2.trans ?_⟩
    dsimp only [touched]
    rfl

/-- Settles O16: each clause is `exec_frame` with its command's mask written out. -/
theorem engineFrames : Obligations.EngineFrames := by
  unfold Obligations.EngineFrames
  repeat' apply And.intro
  all_goals
    intros
    refine (exec_frame _ _).imp fun t h => ⟨h.1, h.2.trans ?_⟩
    dsimp only [touched]
    rfl

/-- Settles O17: each clause is `exec_frame` with its command's mask written out. -/
theorem tenantFrames : Obligations.TenantFrames := by
  unfold Obligations.TenantFrames
  repeat' apply And.intro
  all_goals
    intros
    refine (exec_frame _ _).imp fun t h => ⟨h.1, h.2.trans ?_⟩
    dsimp only [touched]
    rfl

/-- Settles O18: each clause is `exec_frame` with its command's mask written out. -/
theorem systemFrames : Obligations.SystemFrames := by
  unfold Obligations.SystemFrames
  repeat' apply And.intro
  all_goals
    intros
    refine (exec_frame _ _).imp fun t h => ⟨h.1, h.2.trans ?_⟩
    dsimp only [touched]
    rfl

/-! The parts that only a few commands reach. -/

/-- Settles O9: a command that a clause does not name has no bit of the clause's part in its mask. -/
theorem unitsLeftAlone : Obligations.UnitsLeftAlone := by
  intro c s
  obtain ⟨t, ht, kept⟩ := exec_next_same c s
  refine ⟨t, ht, ?time, ?srv, ?tus, ?ser, ?cans, ?mem, ?boot⟩
  case time => cases c <;> first | exact trivial | exact kept.time.resolve_right (not_sub_of_testBit (k := 6) (by dsimp only [touched]; rfl))
  case srv => cases c <;> first | exact trivial | exact kept.srv.resolve_right (not_sub_of_testBit (k := 7) (by dsimp only [touched]; rfl))
  case tus => cases c <;> first | exact trivial | exact kept.tus.resolve_right (not_sub_of_testBit (k := 8) (by dsimp only [touched]; rfl))
  case ser => cases c <;> first | exact trivial | exact kept.ser.resolve_right (not_sub_of_testBit (k := 15) (by dsimp only [touched]; rfl))
  case cans => cases c <;> first | exact trivial | exact kept.cans.resolve_right (not_sub_of_testBit (k := 16) (by dsimp only [touched]; rfl))
  case mem => cases c <;> first | exact trivial | exact kept.mem.resolve_right (not_sub_of_testBit (k := 17) (by dsimp only [touched]; rfl))
  case boot => cases c <;> first | exact trivial | exact kept.boot.resolve_right (not_sub_of_testBit (k := 26) (by dsimp only [touched]; rfl))

end Sys2Proof.Machine
end

section
/-! Register accesses that are accepted: the write reaches the register's own action. Counter clears and error-status clears
(obligations O20 and O21). -/
set_option Elab.async false
namespace Sys2Proof.Machine

/-- No word of the block with this error status is answered before the core's clocks run (R581, R634). -/
abbrev CoreErr (e : Nat) : Prop :=
  e ≠ CLK_ERRSTS ∧ e ≠ RST_ERRSTS ∧ e ≠ MEM_ERRSTS ∧ e ≠ NVS_ERRSTS ∧ e ≠ BOOT_ERRSTS

/-- Where a core block answers, the words of the always-on domain do too. -/
theorem State.stopped_guard {s : State} {e : Nat} (he : CoreErr e) (h : s.stopped e = false) : s.stopped GRD_ERRSTS = false := by
  obtain ⟨hclk, hrst, hmem, hnvs, hboot⟩ := he
  simp only [State.stopped, hclk, hrst, or_self, if_false, beq_eq_false_iff_ne.mpr hmem, beq_eq_false_iff_ne.mpr hnvs,
    beq_eq_false_iff_ne.mpr hboot, Bool.or_self, Bool.not_false] at h
  simp only [State.stopped]
  split_ifs at h ⊢ <;> simp_all

/-- A register whose accepted write is not ignored and meets no other clock than its block's. -/
abbrev Reg.Writable (r : Reg) : Prop := r.readOnly = false ∧ (0x28030 ≤ r.off ∨ CoreErr r.err)

/-- An accepted write has the register's own effect. -/
theorem State.barWrite_accepted {s : State} {r : Reg} {v : Word} (h : s.Accepts r v) (hr : r.Writable) (i j : Nat)
    (act : State → State) : s.barWrite r i j v act = act s.awake := by
  obtain ⟨hro, hdom⟩ := hr
  cases haon : aonWord (r.at i j) with
  | false => exact State.barWrite_of_accepts h hro haon act
  | true =>
    obtain ⟨hrun, hlock, hcheck⟩ := h
    have hcore : CoreErr r.err := hdom.resolve_left fun hle => by
      have hat : 0x28030 ≤ r.at i j := by unfold Reg.at; omega
      simp [aonWord_eq_false_of_le hat] at haon
    have hguard := State.stopped_guard hcore hrun
    have hlocked : (r.lockable && s.awake.on GRD_LOCK_LOCK) = false := by
      cases h : r.lockable
      case false => rfl
      case true => exact hlock h
    simp only [State.awake] at hguard hlocked ⊢
    simp only [State.barWrite, State.stoppedAt, haon, if_true, hguard, hro, hlocked, hcheck, Bool.false_eq_true, if_false]

/-! Counter clears. -/

/-- A command that writes a counter-clear register clears its counters and nothing else. -/
theorem clearsOnly_of_clrWrite {c : Instr} {r : Reg} {i : Nat} {v : Word} {fs : List Fld}
    (hexec : ∀ s, exec c s = .next (s.barWrite r i 0 v fun s => s.clrWrite fs v)) (hr : r.Writable) (hf : ∀ f ∈ fs, f.fits)
    (hd : fs.Pairwise Fld.apart) : ClearsOnly c r v fs := by
  intro s hs
  refine ⟨_, (hexec s).trans (congrArg _ (State.barWrite_accepted hs hr i 0 _)), fun h1 => ?set, fun h0 => ?clear⟩
  case set =>
    rw [State.clrWrite, if_pos h1]
    exact ⟨State.zero_g _ _ hf hd, State.zero_g_apart _ _ hf, State.zero_eq _ _⟩
  case clear => exact if_neg (ne_true_of_eq_false h0)

/-- Settles O20. -/
theorem blockCountersClear : Obligations.BlockCountersClear := by
  unfold Obligations.BlockCountersClear
  repeat' apply And.intro
  all_goals
    intro v
    exact clearsOnly_of_clrWrite (fun _ => rfl) (by decide) (by decide +kernel) (by decide +kernel)

/-! Error-status clears. -/

/-- The command writes the error status of the block at the offset. -/
theorem exec_errstsClr {ofs : Nat} {k : Blk} (h : blkAt ofs = some k) (v : Word) (s : State) :
    exec (.errstsClr ofs v) s = .next (s.errWrite k.err v) := by
  show execErrstsClr ofs v s = _
  rw [execErrstsClr, h]

/-- Settles O21. -/
theorem errorStatusClears : Obligations.ErrorStatusClears := by
  intro s ofs k v hk hrun hv
  refine ⟨_, exec_errstsClr hk v s, ?_⟩
  rw [s.errWrite_of_running hrun v, if_pos hv]
  exact ⟨State.rd_wr_self _ _ _, fun o ho => State.rd_wr_ne _ _ ho, rfl⟩

end Sys2Proof.Machine
end

section
/-! Obligation O11: the decoder's rounding and its choice of a curve's segment (R281, R287). -/
set_option Elab.async false
namespace Sys2Proof.Machine

/-- The quotient of magnitudes that `divRound` takes, before its sign. -/
def magRound (n d : Int) : Nat := (2 * n.natAbs + d.natAbs) / (2 * d.natAbs)

/-- `divRound` is the rounded quotient of the magnitudes with the sign of the quotient. -/
theorem divRound_eq (n d : Int) :
    divRound n d = if (if d < 0 then -n else n) < 0 then -(magRound n d : Int) else magRound n d := by
  have habs : (if d < 0 then -n else n).natAbs = n.natAbs := by split <;> omega
  simp only [divRound, habs, magRound]
  push_cast
  rfl

/-- The rounded quotient back at the divisor: the product of the magnitudes with n's sign. -/
theorem divRound_mul (n : Int) {d : Int} (hd : d ≠ 0) :
    (0 ≤ n ∧ divRound n d * d = (magRound n d * d.natAbs : Nat)) ∨
    (n ≤ 0 ∧ divRound n d * d = -((magRound n d * d.natAbs : Nat) : Int)) := by
  rw [divRound_eq, Nat.cast_mul]
  rcases lt_or_gt_of_ne hd with h | h
  · rw [if_pos h, show (d.natAbs : Int) = -d by omega]
    split_ifs with hn
    · exact .inl ⟨by omega, by ring⟩
    · exact .inr ⟨by omega, by ring⟩
  · rw [if_neg (show ¬ d < 0 by omega), show (d.natAbs : Int) = d by omega]
    split_ifs with hn
    · exact .inr ⟨by omega, by ring⟩
    · exact .inl ⟨by omega, rfl⟩

/-- The product of the magnitudes lies within half the divisor of the numerator's, the upper end included. -/
theorem magRound_bounds (n : Int) {d : Int} (hd : d ≠ 0) :
    2 * (magRound n d * d.natAbs) ≤ 2 * n.natAbs + d.natAbs ∧ 2 * n.natAbs < 2 * (magRound n d * d.natAbs) + d.natAbs := by
  have hpos : 0 < 2 * d.natAbs := by omega
  have hdiv := Nat.div_add_mod (2 * n.natAbs + d.natAbs) (2 * d.natAbs)
  have hmod := Nat.mod_lt (2 * n.natAbs + d.natAbs) hpos
  have hmul : 2 * d.natAbs * magRound n d = 2 * (magRound n d * d.natAbs) := by ring
  rw [← magRound, hmul] at hdiv
  omega

/-- A quotient lies within one half of the exact one. -/
theorem divRound_nearest (n : Int) {d : Int} (hd : d ≠ 0) : 2 * (divRound n d * d - n).natAbs ≤ d.natAbs := by
  have hb := magRound_bounds n hd
  have hmul := divRound_mul n hd
  generalize magRound n d * d.natAbs = m at hb hmul
  rcases hmul with ⟨hn, h⟩ | ⟨hn, h⟩
  all_goals
    rw [h]
    omega

/-- A tie goes to the larger magnitude. -/
theorem divRound_tie (n : Int) {d : Int} (hd : d ≠ 0) (htie : 2 * (divRound n d * d - n).natAbs = d.natAbs) :
    n.natAbs < (divRound n d * d).natAbs := by
  have hb := magRound_bounds n hd
  have hmul := divRound_mul n hd
  generalize magRound n d * d.natAbs = m at hb hmul
  rcases hmul with ⟨hn, h⟩ | ⟨hn, h⟩
  all_goals
    rw [h] at htie ⊢
    omega

/-- The value at x is on the line of the segment that holds x when no lower one does. -/
theorem segAt_lowest {ks : List (Int × Int)} {i : Nat} {p q : Int × Int} {x : Int} (hp : ks[i]? = some p) (hq : ks[i + 1]? = some q)
    (hlo : p.1 ≤ x) (hhi : x ≤ q.1) (hlow : ∀ j < i, ∀ a b, ks[j]? = some a → ks[j + 1]? = some b → x < a.1 ∨ b.1 < x) :
    segAt ks x = some (lineAt p q x) := by
  induction ks generalizing i with
  | nil => simp at hp
  | cons a t ih =>
    cases t with
    | nil => simp at hq
    | cons b t =>
      cases i with
      | zero =>
        obtain rfl : a = p := by simpa using hp
        obtain rfl : b = q := by simpa using hq
        rw [segAt, if_pos ⟨hlo, hhi⟩]
      | succ i =>
        have hout : ¬(a.1 ≤ x ∧ x ≤ b.1) := by
          have := hlow 0 (Nat.succ_pos i) a b rfl rfl
          omega
        rw [segAt, if_neg hout]
        exact ih (by simpa using hp) (by simpa using hq) fun j hj c d hc hd =>
          hlow (j + 1) (Nat.succ_lt_succ hj) c d (by simpa using hc) (by simpa using hd)

/-- Settles O11. -/
theorem decoderRounds : Obligations.DecoderRounds :=
  ⟨fun n _ hd => divRound_nearest n hd, fun n _ hd => divRound_tie n hd, fun _ _ _ _ _ hp hq hlo hhi hlow => segAt_lowest hp hq hlo hhi hlow⟩

end Sys2Proof.Machine
end

section
/-! Obligation O60: the groups of a frame read back as its bytes (R64 to R66), and what the pins and the TAP show (R641, R645 to R650). -/
set_option Elab.async false
namespace Sys2Proof.Machine

/-! The line code. -/

/-- Every data character is read back from its group at the disparity it was written at. -/
theorem codeChar_codeGroup_data {b : Nat} (hb : b < 256) (rd : Bool) :
    codeChar (codeGroup false b rd).1 rd = some ((false, b), (codeGroup false b rd).2) :=
  (by decide +kernel : ∀ b < 256, ∀ rd, codeChar (codeGroup false b rd).1 rd = some ((false, b), (codeGroup false b rd).2)) b hb rd

/-- /T/ is read back from its group. -/
theorem codeChar_codeGroup_end (rd : Bool) : codeChar (codeGroup true kT rd).1 rd = some ((true, kT), (codeGroup true kT rd).2) :=
  (by decide +kernel : ∀ rd, codeChar (codeGroup true kT rd).1 rd = some ((true, kT), (codeGroup true kT rd).2)) rd

/-- /S/ is read back from its group at negative disparity, which four /P/ leave as they found it. -/
theorem codeChar_codeGroup_start :
    codeChar (codeGroup true kS false).1 false = some ((true, kS), (codeGroup true kS false).2) := by decide +kernel

/-- The characters of a frame after its /S/. -/
def lineTail (bs : List Nat) : List (Bool × Nat) := bs.map (fun b => (false, b % 256)) ++ [(true, kT)]

/-- The groups of the bytes and /T/ read back as the bytes. -/
theorem lineBytes_codeAll {bs : List Nat} (hbs : ∀ b ∈ bs, b < 256) (rd : Bool) : lineBytes (codeAll (lineTail bs) rd) rd = some bs := by
  induction bs generalizing rd with
  | nil => simp [lineTail, codeAll, lineBytes, codeChar_codeGroup_end]
  | cons b bs ih =>
    have hb : b < 256 := hbs b List.mem_cons_self
    have htail : lineTail (b :: bs) = (false, b) :: lineTail bs := by simp [lineTail, Nat.mod_eq_of_lt hb]
    rw [htail, codeAll]
    simp only [lineBytes, codeChar_codeGroup_data hb, Bool.false_eq_true, if_false,
      ih (fun c hc => hbs c (List.mem_cons_of_mem b hc)), Option.map_some]

/-- After the four /P/ of a frame come the group of /S/ at negative disparity and those of the rest. -/
theorem lineGroups_drop (bs : List Nat) :
    (lineGroups bs).drop 4 = (codeGroup true kS false).1 :: codeAll (lineTail bs) (codeGroup true kS false).2 := by
  have hrd : (codeGroup true kP (codeGroup true kP (codeGroup true kP (codeGroup true kP false).2).2).2).2 = false := by decide +kernel
  rw [lineGroups, List.append_assoc, List.append_assoc]
  simp only [List.replicate, List.cons_append, List.nil_append, codeAll, hrd, List.drop_succ_cons, List.drop_zero, lineTail]

/-- A frame reads back as its bytes. -/
theorem lineFrame_lineGroups {bs : List Nat} (hbs : ∀ b ∈ bs, b < 256) : lineFrame ((lineGroups bs).drop 4) = some bs := by
  rw [lineGroups_drop]
  simp only [lineFrame, List.findSome?_cons, codeChar_codeGroup_start, if_true, lineBytes_codeAll hbs]

/-! Pins. -/

/-- A pin of a bank without its supply is high-impedance (R646). -/
theorem State.pin_of_unsupplied {s : State} {p : Pin} {b : Nat} (hb : p.bank = some b) (hoff : s.vioOn b = false) : s.pin p = .z := by
  simp [State.pin, hb, hoff]

/-- A guard output or a loop's drive has no field bank, and the TAP never takes it. -/
theorem State.pin_of_unscanned (s : State) {p : Pin} (h : p.type = .go ∨ ∃ x, p = .lpDrv x) : s.pin p = s.pinIn s.pinCol p := by
  have hbank : p.bank = none ∧ p.type ≠ .io ∧ p.type ≠ .od ∧ p.type ≠ .cbt := by
    obtain h | ⟨x, rfl⟩ := h
    · cases p <;> simp_all [Pin.type, Pin.bank]
    · simp [Pin.type, Pin.bank]
  obtain ⟨hnone, hio, hod, hcbt⟩ := hbank
  simp [State.pin, hnone, beq_eq_false_iff_ne.mpr hio, beq_eq_false_iff_ne.mpr hod, beq_eq_false_iff_ne.mpr hcbt]

/-- With power the column of the pins is not the unpowered one. -/
theorem State.pinCol_ne_unpowered {s : State} (h : s.sys.pstate ≠ .off) : s.pinCol ≠ .unpowered := by
  unfold State.pinCol
  rw [if_neg h]
  split_ifs <;> decide

/-- Out of OFF a guard output shows its channel's state, whatever the TAP's instruction (R650). -/
theorem State.pin_segEn {s : State} (h : s.sys.pstate ≠ .off) (x : Nat) : s.pin (.segEn x) = .drive (s.guState x == guON) := by
  rw [s.pin_of_unscanned (.inl rfl)]
  exact if_neg (State.pinCol_ne_unpowered h)

/-- A code past those of the TAP's instructions selects BYPASS (R649). -/
theorem tapIns_of_unlisted {code : Nat} (h : 4 < code) : tapIns code = .bypass := by
  unfold tapIns
  split <;> first | omega | rfl

/-- Settles O60. -/
theorem lineCodeAndPinsHold : Obligations.LineCodeAndPinsHold := by
  refine ⟨fun bs hbs => lineFrame_lineGroups hbs, fun s p b hb hoff => State.pin_of_unsupplied hb hoff,
    fun s p h => s.pin_of_unscanned h, fun s x code _ h => ?guard, fun s lv h => ?identity, fun s lv h => ?bypass⟩
  case guard => exact State.pin_segEn (s := { s with sys := { s.sys with ir := code } }) h x
  case identity => rw [State.tapCapture, h]; rfl
  case bypass => rw [State.tapCapture, tapIns_of_unlisted h]

end Sys2Proof.Machine
end

section
/-! What a shared operation leaves as it was, read off the masks of Laws/Same*.lean; DOZE is ended once. -/
set_option Elab.async false
namespace Sys2Proof.Machine

/-- A part that `Same` keeps outside its mask. -/
theorem part_eq {α : Type} {x y : α} {b m : Nat} (h : y = x ∨ Sub b m) (hm : Nat.lor b m ≠ m) : y = x := h.resolve_right hm

/-- A command whose effect is a known state completes there. -/
theorem completes {c : Instr} {s r u : State} {P : State → Prop} (hexec : exec c s = .next r) (hr : r = u) (hP : P u) :
    ∃ t, exec c s = .next t ∧ P t := ⟨u, hr ▸ hexec, hP⟩

/-! Announcements of the interrupt controller. -/

@[simp] theorem State.raiseHub_free (s : State) (h : Nat) : (s.raiseHub h).free = s.free := part_eq (State.raiseHub_same s (.refl 546) h (.refl 546 s)).free (by decide)
@[simp] theorem State.raiseHub_rdata (s : State) (h : Nat) : (s.raiseHub h).rdata = s.rdata := part_eq (State.raiseHub_same s (.refl 546) h (.refl 546 s)).rdata (by decide)
@[simp] theorem State.raiseHub_caps (s : State) (h : Nat) : (s.raiseHub h).caps = s.caps := part_eq (State.raiseHub_same s (.refl 546) h (.refl 546 s)).caps (by decide)
@[simp] theorem State.raiseHub_time (s : State) (h : Nat) : (s.raiseHub h).time = s.time := part_eq (State.raiseHub_same s (.refl 546) h (.refl 546 s)).time (by decide)
@[simp] theorem State.raiseHub_srv (s : State) (h : Nat) : (s.raiseHub h).srv = s.srv := part_eq (State.raiseHub_same s (.refl 546) h (.refl 546 s)).srv (by decide)
@[simp] theorem State.raiseHub_tus (s : State) (h : Nat) : (s.raiseHub h).tus = s.tus := part_eq (State.raiseHub_same s (.refl 546) h (.refl 546 s)).tus (by decide)
@[simp] theorem State.raiseHub_evm (s : State) (h : Nat) : (s.raiseHub h).evm = s.evm := part_eq (State.raiseHub_same s (.refl 546) h (.refl 546 s)).evm (by decide)
@[simp] theorem State.raiseHub_sys (s : State) (h : Nat) : (s.raiseHub h).sys = s.sys := part_eq (State.raiseHub_same s (.refl 546) h (.refl 546 s)).sys (by decide)
@[simp] theorem State.raiseHub_psc (s : State) (h : Nat) : (s.raiseHub h).psc = s.psc := part_eq (State.raiseHub_same s (.refl 546) h (.refl 546 s)).psc (by decide)
@[simp] theorem State.raiseHub_crs (s : State) (h : Nat) : (s.raiseHub h).crs = s.crs := part_eq (State.raiseHub_same s (.refl 546) h (.refl 546 s)).crs (by decide)
@[simp] theorem State.raiseHub_grd (s : State) (h : Nat) : (s.raiseHub h).grd = s.grd := part_eq (State.raiseHub_same s (.refl 546) h (.refl 546 s)).grd (by decide)
@[simp] theorem State.raiseHub_ser (s : State) (h : Nat) : (s.raiseHub h).ser = s.ser := part_eq (State.raiseHub_same s (.refl 546) h (.refl 546 s)).ser (by decide)
@[simp] theorem State.raiseHub_cans (s : State) (h : Nat) : (s.raiseHub h).cans = s.cans := part_eq (State.raiseHub_same s (.refl 546) h (.refl 546 s)).cans (by decide)
@[simp] theorem State.raiseHub_mem (s : State) (h : Nat) : (s.raiseHub h).mem = s.mem := part_eq (State.raiseHub_same s (.refl 546) h (.refl 546 s)).mem (by decide)
@[simp] theorem State.raiseHub_ept (s : State) (h : Nat) : (s.raiseHub h).ept = s.ept := part_eq (State.raiseHub_same s (.refl 546) h (.refl 546 s)).ept (by decide)
@[simp] theorem State.raiseHub_msh (s : State) (h : Nat) : (s.raiseHub h).msh = s.msh := part_eq (State.raiseHub_same s (.refl 546) h (.refl 546 s)).msh (by decide)
@[simp] theorem State.raiseHub_rcg (s : State) (h : Nat) : (s.raiseHub h).rcg = s.rcg := part_eq (State.raiseHub_same s (.refl 546) h (.refl 546 s)).rcg (by decide)
@[simp] theorem State.raiseHub_ten (s : State) (h : Nat) : (s.raiseHub h).ten = s.ten := part_eq (State.raiseHub_same s (.refl 546) h (.refl 546 s)).ten (by decide)
@[simp] theorem State.raiseHub_rng (s : State) (h : Nat) : (s.raiseHub h).rng = s.rng := part_eq (State.raiseHub_same s (.refl 546) h (.refl 546 s)).rng (by decide)
@[simp] theorem State.raiseHub_bnd (s : State) (h : Nat) : (s.raiseHub h).bnd = s.bnd := part_eq (State.raiseHub_same s (.refl 546) h (.refl 546 s)).bnd (by decide)
@[simp] theorem State.raiseHub_rol (s : State) (h : Nat) : (s.raiseHub h).rol = s.rol := part_eq (State.raiseHub_same s (.refl 546) h (.refl 546 s)).rol (by decide)
@[simp] theorem State.raiseHub_nvs (s : State) (h : Nat) : (s.raiseHub h).nvs = s.nvs := part_eq (State.raiseHub_same s (.refl 546) h (.refl 546 s)).nvs (by decide)
@[simp] theorem State.raiseHub_boot (s : State) (h : Nat) : (s.raiseHub h).boot = s.boot := part_eq (State.raiseHub_same s (.refl 546) h (.refl 546 s)).boot (by decide)
@[simp] theorem State.wakeIcu_sys (s : State) : (s.wakeIcu).sys = s.sys := part_eq (State.wakeIcu_same s (.refl 546) (.refl 546 s)).sys (by decide)
@[simp] theorem State.wakeIcu_time (s : State) : (s.wakeIcu).time = s.time := part_eq (State.wakeIcu_same s (.refl 546) (.refl 546 s)).time (by decide)
@[simp] theorem State.wakeDoze_free (s : State) (bits : Nat) : (s.wakeDoze bits).free = s.free := part_eq (State.wakeDoze_same s bits (.refl 2594) (.refl 2594 s)).free (by decide)
@[simp] theorem State.wakeDoze_rdata (s : State) (bits : Nat) : (s.wakeDoze bits).rdata = s.rdata := part_eq (State.wakeDoze_same s bits (.refl 2594) (.refl 2594 s)).rdata (by decide)
@[simp] theorem State.wakeDoze_caps (s : State) (bits : Nat) : (s.wakeDoze bits).caps = s.caps := part_eq (State.wakeDoze_same s bits (.refl 2594) (.refl 2594 s)).caps (by decide)
@[simp] theorem State.wakeDoze_time (s : State) (bits : Nat) : (s.wakeDoze bits).time = s.time := part_eq (State.wakeDoze_same s bits (.refl 2594) (.refl 2594 s)).time (by decide)
@[simp] theorem State.wakeDoze_srv (s : State) (bits : Nat) : (s.wakeDoze bits).srv = s.srv := part_eq (State.wakeDoze_same s bits (.refl 2594) (.refl 2594 s)).srv (by decide)
@[simp] theorem State.wakeDoze_tus (s : State) (bits : Nat) : (s.wakeDoze bits).tus = s.tus := part_eq (State.wakeDoze_same s bits (.refl 2594) (.refl 2594 s)).tus (by decide)
@[simp] theorem State.wakeDoze_evm (s : State) (bits : Nat) : (s.wakeDoze bits).evm = s.evm := part_eq (State.wakeDoze_same s bits (.refl 2594) (.refl 2594 s)).evm (by decide)
@[simp] theorem State.wakeDoze_psc (s : State) (bits : Nat) : (s.wakeDoze bits).psc = s.psc := part_eq (State.wakeDoze_same s bits (.refl 2594) (.refl 2594 s)).psc (by decide)
@[simp] theorem State.wakeDoze_crs (s : State) (bits : Nat) : (s.wakeDoze bits).crs = s.crs := part_eq (State.wakeDoze_same s bits (.refl 2594) (.refl 2594 s)).crs (by decide)
@[simp] theorem State.wakeDoze_grd (s : State) (bits : Nat) : (s.wakeDoze bits).grd = s.grd := part_eq (State.wakeDoze_same s bits (.refl 2594) (.refl 2594 s)).grd (by decide)
@[simp] theorem State.wakeDoze_ser (s : State) (bits : Nat) : (s.wakeDoze bits).ser = s.ser := part_eq (State.wakeDoze_same s bits (.refl 2594) (.refl 2594 s)).ser (by decide)
@[simp] theorem State.wakeDoze_cans (s : State) (bits : Nat) : (s.wakeDoze bits).cans = s.cans := part_eq (State.wakeDoze_same s bits (.refl 2594) (.refl 2594 s)).cans (by decide)
@[simp] theorem State.wakeDoze_mem (s : State) (bits : Nat) : (s.wakeDoze bits).mem = s.mem := part_eq (State.wakeDoze_same s bits (.refl 2594) (.refl 2594 s)).mem (by decide)
@[simp] theorem State.wakeDoze_ept (s : State) (bits : Nat) : (s.wakeDoze bits).ept = s.ept := part_eq (State.wakeDoze_same s bits (.refl 2594) (.refl 2594 s)).ept (by decide)
@[simp] theorem State.wakeDoze_msh (s : State) (bits : Nat) : (s.wakeDoze bits).msh = s.msh := part_eq (State.wakeDoze_same s bits (.refl 2594) (.refl 2594 s)).msh (by decide)
@[simp] theorem State.wakeDoze_rcg (s : State) (bits : Nat) : (s.wakeDoze bits).rcg = s.rcg := part_eq (State.wakeDoze_same s bits (.refl 2594) (.refl 2594 s)).rcg (by decide)
@[simp] theorem State.wakeDoze_ten (s : State) (bits : Nat) : (s.wakeDoze bits).ten = s.ten := part_eq (State.wakeDoze_same s bits (.refl 2594) (.refl 2594 s)).ten (by decide)
@[simp] theorem State.wakeDoze_rng (s : State) (bits : Nat) : (s.wakeDoze bits).rng = s.rng := part_eq (State.wakeDoze_same s bits (.refl 2594) (.refl 2594 s)).rng (by decide)
@[simp] theorem State.wakeDoze_bnd (s : State) (bits : Nat) : (s.wakeDoze bits).bnd = s.bnd := part_eq (State.wakeDoze_same s bits (.refl 2594) (.refl 2594 s)).bnd (by decide)
@[simp] theorem State.wakeDoze_rol (s : State) (bits : Nat) : (s.wakeDoze bits).rol = s.rol := part_eq (State.wakeDoze_same s bits (.refl 2594) (.refl 2594 s)).rol (by decide)
@[simp] theorem State.wakeDoze_nvs (s : State) (bits : Nat) : (s.wakeDoze bits).nvs = s.nvs := part_eq (State.wakeDoze_same s bits (.refl 2594) (.refl 2594 s)).nvs (by decide)
@[simp] theorem State.wakeDoze_boot (s : State) (bits : Nat) : (s.wakeDoze bits).boot = s.boot := part_eq (State.wakeDoze_same s bits (.refl 2594) (.refl 2594 s)).boot (by decide)
@[simp] theorem State.settle_free (s : State) : (s.settle).free = s.free := part_eq (State.settle_same s (.refl 546) (.refl 546 s)).free (by decide)
@[simp] theorem State.settle_rdata (s : State) : (s.settle).rdata = s.rdata := part_eq (State.settle_same s (.refl 546) (.refl 546 s)).rdata (by decide)
@[simp] theorem State.settle_caps (s : State) : (s.settle).caps = s.caps := part_eq (State.settle_same s (.refl 546) (.refl 546 s)).caps (by decide)
@[simp] theorem State.settle_time (s : State) : (s.settle).time = s.time := part_eq (State.settle_same s (.refl 546) (.refl 546 s)).time (by decide)
@[simp] theorem State.settle_srv (s : State) : (s.settle).srv = s.srv := part_eq (State.settle_same s (.refl 546) (.refl 546 s)).srv (by decide)
@[simp] theorem State.settle_tus (s : State) : (s.settle).tus = s.tus := part_eq (State.settle_same s (.refl 546) (.refl 546 s)).tus (by decide)
@[simp] theorem State.settle_evm (s : State) : (s.settle).evm = s.evm := part_eq (State.settle_same s (.refl 546) (.refl 546 s)).evm (by decide)
@[simp] theorem State.settle_sys (s : State) : (s.settle).sys = s.sys := part_eq (State.settle_same s (.refl 546) (.refl 546 s)).sys (by decide)
@[simp] theorem State.settle_psc (s : State) : (s.settle).psc = s.psc := part_eq (State.settle_same s (.refl 546) (.refl 546 s)).psc (by decide)
@[simp] theorem State.settle_crs (s : State) : (s.settle).crs = s.crs := part_eq (State.settle_same s (.refl 546) (.refl 546 s)).crs (by decide)
@[simp] theorem State.settle_grd (s : State) : (s.settle).grd = s.grd := part_eq (State.settle_same s (.refl 546) (.refl 546 s)).grd (by decide)
@[simp] theorem State.settle_ser (s : State) : (s.settle).ser = s.ser := part_eq (State.settle_same s (.refl 546) (.refl 546 s)).ser (by decide)
@[simp] theorem State.settle_cans (s : State) : (s.settle).cans = s.cans := part_eq (State.settle_same s (.refl 546) (.refl 546 s)).cans (by decide)
@[simp] theorem State.settle_mem (s : State) : (s.settle).mem = s.mem := part_eq (State.settle_same s (.refl 546) (.refl 546 s)).mem (by decide)
@[simp] theorem State.settle_ept (s : State) : (s.settle).ept = s.ept := part_eq (State.settle_same s (.refl 546) (.refl 546 s)).ept (by decide)
@[simp] theorem State.settle_msh (s : State) : (s.settle).msh = s.msh := part_eq (State.settle_same s (.refl 546) (.refl 546 s)).msh (by decide)
@[simp] theorem State.settle_rcg (s : State) : (s.settle).rcg = s.rcg := part_eq (State.settle_same s (.refl 546) (.refl 546 s)).rcg (by decide)
@[simp] theorem State.settle_ten (s : State) : (s.settle).ten = s.ten := part_eq (State.settle_same s (.refl 546) (.refl 546 s)).ten (by decide)
@[simp] theorem State.settle_rng (s : State) : (s.settle).rng = s.rng := part_eq (State.settle_same s (.refl 546) (.refl 546 s)).rng (by decide)
@[simp] theorem State.settle_bnd (s : State) : (s.settle).bnd = s.bnd := part_eq (State.settle_same s (.refl 546) (.refl 546 s)).bnd (by decide)
@[simp] theorem State.settle_rol (s : State) : (s.settle).rol = s.rol := part_eq (State.settle_same s (.refl 546) (.refl 546 s)).rol (by decide)
@[simp] theorem State.settle_nvs (s : State) : (s.settle).nvs = s.nvs := part_eq (State.settle_same s (.refl 546) (.refl 546 s)).nvs (by decide)
@[simp] theorem State.settle_boot (s : State) : (s.settle).boot = s.boot := part_eq (State.settle_same s (.refl 546) (.refl 546 s)).boot (by decide)
@[simp] theorem State.tenantSource_free (s : State) (n : Nat) (lvl : Bool) (arrival : Bool) : (s.tenantSource n lvl arrival).free = s.free := part_eq (State.tenantSource_same s n lvl arrival (.refl 546) (.refl 546 s)).free (by decide)
@[simp] theorem State.tenantSource_rdata (s : State) (n : Nat) (lvl : Bool) (arrival : Bool) : (s.tenantSource n lvl arrival).rdata = s.rdata := part_eq (State.tenantSource_same s n lvl arrival (.refl 546) (.refl 546 s)).rdata (by decide)
@[simp] theorem State.tenantSource_caps (s : State) (n : Nat) (lvl : Bool) (arrival : Bool) : (s.tenantSource n lvl arrival).caps = s.caps := part_eq (State.tenantSource_same s n lvl arrival (.refl 546) (.refl 546 s)).caps (by decide)
@[simp] theorem State.tenantSource_time (s : State) (n : Nat) (lvl : Bool) (arrival : Bool) : (s.tenantSource n lvl arrival).time = s.time := part_eq (State.tenantSource_same s n lvl arrival (.refl 546) (.refl 546 s)).time (by decide)
@[simp] theorem State.tenantSource_srv (s : State) (n : Nat) (lvl : Bool) (arrival : Bool) : (s.tenantSource n lvl arrival).srv = s.srv := part_eq (State.tenantSource_same s n lvl arrival (.refl 546) (.refl 546 s)).srv (by decide)
@[simp] theorem State.tenantSource_tus (s : State) (n : Nat) (lvl : Bool) (arrival : Bool) : (s.tenantSource n lvl arrival).tus = s.tus := part_eq (State.tenantSource_same s n lvl arrival (.refl 546) (.refl 546 s)).tus (by decide)
@[simp] theorem State.tenantSource_evm (s : State) (n : Nat) (lvl : Bool) (arrival : Bool) : (s.tenantSource n lvl arrival).evm = s.evm := part_eq (State.tenantSource_same s n lvl arrival (.refl 546) (.refl 546 s)).evm (by decide)
@[simp] theorem State.tenantSource_sys (s : State) (n : Nat) (lvl : Bool) (arrival : Bool) : (s.tenantSource n lvl arrival).sys = s.sys := part_eq (State.tenantSource_same s n lvl arrival (.refl 546) (.refl 546 s)).sys (by decide)
@[simp] theorem State.tenantSource_psc (s : State) (n : Nat) (lvl : Bool) (arrival : Bool) : (s.tenantSource n lvl arrival).psc = s.psc := part_eq (State.tenantSource_same s n lvl arrival (.refl 546) (.refl 546 s)).psc (by decide)
@[simp] theorem State.tenantSource_crs (s : State) (n : Nat) (lvl : Bool) (arrival : Bool) : (s.tenantSource n lvl arrival).crs = s.crs := part_eq (State.tenantSource_same s n lvl arrival (.refl 546) (.refl 546 s)).crs (by decide)
@[simp] theorem State.tenantSource_grd (s : State) (n : Nat) (lvl : Bool) (arrival : Bool) : (s.tenantSource n lvl arrival).grd = s.grd := part_eq (State.tenantSource_same s n lvl arrival (.refl 546) (.refl 546 s)).grd (by decide)
@[simp] theorem State.tenantSource_ser (s : State) (n : Nat) (lvl : Bool) (arrival : Bool) : (s.tenantSource n lvl arrival).ser = s.ser := part_eq (State.tenantSource_same s n lvl arrival (.refl 546) (.refl 546 s)).ser (by decide)
@[simp] theorem State.tenantSource_cans (s : State) (n : Nat) (lvl : Bool) (arrival : Bool) : (s.tenantSource n lvl arrival).cans = s.cans := part_eq (State.tenantSource_same s n lvl arrival (.refl 546) (.refl 546 s)).cans (by decide)
@[simp] theorem State.tenantSource_mem (s : State) (n : Nat) (lvl : Bool) (arrival : Bool) : (s.tenantSource n lvl arrival).mem = s.mem := part_eq (State.tenantSource_same s n lvl arrival (.refl 546) (.refl 546 s)).mem (by decide)
@[simp] theorem State.tenantSource_ept (s : State) (n : Nat) (lvl : Bool) (arrival : Bool) : (s.tenantSource n lvl arrival).ept = s.ept := part_eq (State.tenantSource_same s n lvl arrival (.refl 546) (.refl 546 s)).ept (by decide)
@[simp] theorem State.tenantSource_msh (s : State) (n : Nat) (lvl : Bool) (arrival : Bool) : (s.tenantSource n lvl arrival).msh = s.msh := part_eq (State.tenantSource_same s n lvl arrival (.refl 546) (.refl 546 s)).msh (by decide)
@[simp] theorem State.tenantSource_rcg (s : State) (n : Nat) (lvl : Bool) (arrival : Bool) : (s.tenantSource n lvl arrival).rcg = s.rcg := part_eq (State.tenantSource_same s n lvl arrival (.refl 546) (.refl 546 s)).rcg (by decide)
@[simp] theorem State.tenantSource_ten (s : State) (n : Nat) (lvl : Bool) (arrival : Bool) : (s.tenantSource n lvl arrival).ten = s.ten := part_eq (State.tenantSource_same s n lvl arrival (.refl 546) (.refl 546 s)).ten (by decide)
@[simp] theorem State.tenantSource_rng (s : State) (n : Nat) (lvl : Bool) (arrival : Bool) : (s.tenantSource n lvl arrival).rng = s.rng := part_eq (State.tenantSource_same s n lvl arrival (.refl 546) (.refl 546 s)).rng (by decide)
@[simp] theorem State.tenantSource_bnd (s : State) (n : Nat) (lvl : Bool) (arrival : Bool) : (s.tenantSource n lvl arrival).bnd = s.bnd := part_eq (State.tenantSource_same s n lvl arrival (.refl 546) (.refl 546 s)).bnd (by decide)
@[simp] theorem State.tenantSource_rol (s : State) (n : Nat) (lvl : Bool) (arrival : Bool) : (s.tenantSource n lvl arrival).rol = s.rol := part_eq (State.tenantSource_same s n lvl arrival (.refl 546) (.refl 546 s)).rol (by decide)
@[simp] theorem State.tenantSource_nvs (s : State) (n : Nat) (lvl : Bool) (arrival : Bool) : (s.tenantSource n lvl arrival).nvs = s.nvs := part_eq (State.tenantSource_same s n lvl arrival (.refl 546) (.refl 546 s)).nvs (by decide)
@[simp] theorem State.tenantSource_boot (s : State) (n : Nat) (lvl : Bool) (arrival : Bool) : (s.tenantSource n lvl arrival).boot = s.boot := part_eq (State.tenantSource_same s n lvl arrival (.refl 546) (.refl 546 s)).boot (by decide)
@[simp] theorem State.ringLevel_free (s : State) (t : Nat) (k : Nat) (arr : Bool) : (s.ringLevel t k arr).free = s.free := part_eq (State.ringLevel_same s t k arr (.refl 546) (.refl 546 s)).free (by decide)
@[simp] theorem State.ringLevel_rdata (s : State) (t : Nat) (k : Nat) (arr : Bool) : (s.ringLevel t k arr).rdata = s.rdata := part_eq (State.ringLevel_same s t k arr (.refl 546) (.refl 546 s)).rdata (by decide)
@[simp] theorem State.ringLevel_caps (s : State) (t : Nat) (k : Nat) (arr : Bool) : (s.ringLevel t k arr).caps = s.caps := part_eq (State.ringLevel_same s t k arr (.refl 546) (.refl 546 s)).caps (by decide)
@[simp] theorem State.ringLevel_time (s : State) (t : Nat) (k : Nat) (arr : Bool) : (s.ringLevel t k arr).time = s.time := part_eq (State.ringLevel_same s t k arr (.refl 546) (.refl 546 s)).time (by decide)
@[simp] theorem State.ringLevel_srv (s : State) (t : Nat) (k : Nat) (arr : Bool) : (s.ringLevel t k arr).srv = s.srv := part_eq (State.ringLevel_same s t k arr (.refl 546) (.refl 546 s)).srv (by decide)
@[simp] theorem State.ringLevel_tus (s : State) (t : Nat) (k : Nat) (arr : Bool) : (s.ringLevel t k arr).tus = s.tus := part_eq (State.ringLevel_same s t k arr (.refl 546) (.refl 546 s)).tus (by decide)
@[simp] theorem State.ringLevel_evm (s : State) (t : Nat) (k : Nat) (arr : Bool) : (s.ringLevel t k arr).evm = s.evm := part_eq (State.ringLevel_same s t k arr (.refl 546) (.refl 546 s)).evm (by decide)
@[simp] theorem State.ringLevel_sys (s : State) (t : Nat) (k : Nat) (arr : Bool) : (s.ringLevel t k arr).sys = s.sys := part_eq (State.ringLevel_same s t k arr (.refl 546) (.refl 546 s)).sys (by decide)
@[simp] theorem State.ringLevel_psc (s : State) (t : Nat) (k : Nat) (arr : Bool) : (s.ringLevel t k arr).psc = s.psc := part_eq (State.ringLevel_same s t k arr (.refl 546) (.refl 546 s)).psc (by decide)
@[simp] theorem State.ringLevel_crs (s : State) (t : Nat) (k : Nat) (arr : Bool) : (s.ringLevel t k arr).crs = s.crs := part_eq (State.ringLevel_same s t k arr (.refl 546) (.refl 546 s)).crs (by decide)
@[simp] theorem State.ringLevel_grd (s : State) (t : Nat) (k : Nat) (arr : Bool) : (s.ringLevel t k arr).grd = s.grd := part_eq (State.ringLevel_same s t k arr (.refl 546) (.refl 546 s)).grd (by decide)
@[simp] theorem State.ringLevel_ser (s : State) (t : Nat) (k : Nat) (arr : Bool) : (s.ringLevel t k arr).ser = s.ser := part_eq (State.ringLevel_same s t k arr (.refl 546) (.refl 546 s)).ser (by decide)
@[simp] theorem State.ringLevel_cans (s : State) (t : Nat) (k : Nat) (arr : Bool) : (s.ringLevel t k arr).cans = s.cans := part_eq (State.ringLevel_same s t k arr (.refl 546) (.refl 546 s)).cans (by decide)
@[simp] theorem State.ringLevel_mem (s : State) (t : Nat) (k : Nat) (arr : Bool) : (s.ringLevel t k arr).mem = s.mem := part_eq (State.ringLevel_same s t k arr (.refl 546) (.refl 546 s)).mem (by decide)
@[simp] theorem State.ringLevel_ept (s : State) (t : Nat) (k : Nat) (arr : Bool) : (s.ringLevel t k arr).ept = s.ept := part_eq (State.ringLevel_same s t k arr (.refl 546) (.refl 546 s)).ept (by decide)
@[simp] theorem State.ringLevel_msh (s : State) (t : Nat) (k : Nat) (arr : Bool) : (s.ringLevel t k arr).msh = s.msh := part_eq (State.ringLevel_same s t k arr (.refl 546) (.refl 546 s)).msh (by decide)
@[simp] theorem State.ringLevel_rcg (s : State) (t : Nat) (k : Nat) (arr : Bool) : (s.ringLevel t k arr).rcg = s.rcg := part_eq (State.ringLevel_same s t k arr (.refl 546) (.refl 546 s)).rcg (by decide)
@[simp] theorem State.ringLevel_ten (s : State) (t : Nat) (k : Nat) (arr : Bool) : (s.ringLevel t k arr).ten = s.ten := part_eq (State.ringLevel_same s t k arr (.refl 546) (.refl 546 s)).ten (by decide)
@[simp] theorem State.ringLevel_rng (s : State) (t : Nat) (k : Nat) (arr : Bool) : (s.ringLevel t k arr).rng = s.rng := part_eq (State.ringLevel_same s t k arr (.refl 546) (.refl 546 s)).rng (by decide)
@[simp] theorem State.ringLevel_bnd (s : State) (t : Nat) (k : Nat) (arr : Bool) : (s.ringLevel t k arr).bnd = s.bnd := part_eq (State.ringLevel_same s t k arr (.refl 546) (.refl 546 s)).bnd (by decide)
@[simp] theorem State.ringLevel_rol (s : State) (t : Nat) (k : Nat) (arr : Bool) : (s.ringLevel t k arr).rol = s.rol := part_eq (State.ringLevel_same s t k arr (.refl 546) (.refl 546 s)).rol (by decide)
@[simp] theorem State.ringLevel_nvs (s : State) (t : Nat) (k : Nat) (arr : Bool) : (s.ringLevel t k arr).nvs = s.nvs := part_eq (State.ringLevel_same s t k arr (.refl 546) (.refl 546 s)).nvs (by decide)
@[simp] theorem State.ringLevel_boot (s : State) (t : Nat) (k : Nat) (arr : Bool) : (s.ringLevel t k arr).boot = s.boot := part_eq (State.ringLevel_same s t k arr (.refl 546) (.refl 546 s)).boot (by decide)
@[simp] theorem State.err_free (s : State) (e : Nat) (off : Nat) (code : Nat) : (s.err e off code).free = s.free := part_eq (State.err_same s e off code (.refl 546) (.refl 546 s)).free (by decide)
@[simp] theorem State.err_rdata (s : State) (e : Nat) (off : Nat) (code : Nat) : (s.err e off code).rdata = s.rdata := part_eq (State.err_same s e off code (.refl 546) (.refl 546 s)).rdata (by decide)
@[simp] theorem State.err_caps (s : State) (e : Nat) (off : Nat) (code : Nat) : (s.err e off code).caps = s.caps := part_eq (State.err_same s e off code (.refl 546) (.refl 546 s)).caps (by decide)
@[simp] theorem State.err_time (s : State) (e : Nat) (off : Nat) (code : Nat) : (s.err e off code).time = s.time := part_eq (State.err_same s e off code (.refl 546) (.refl 546 s)).time (by decide)
@[simp] theorem State.err_srv (s : State) (e : Nat) (off : Nat) (code : Nat) : (s.err e off code).srv = s.srv := part_eq (State.err_same s e off code (.refl 546) (.refl 546 s)).srv (by decide)
@[simp] theorem State.err_tus (s : State) (e : Nat) (off : Nat) (code : Nat) : (s.err e off code).tus = s.tus := part_eq (State.err_same s e off code (.refl 546) (.refl 546 s)).tus (by decide)
@[simp] theorem State.err_evm (s : State) (e : Nat) (off : Nat) (code : Nat) : (s.err e off code).evm = s.evm := part_eq (State.err_same s e off code (.refl 546) (.refl 546 s)).evm (by decide)
@[simp] theorem State.err_sys (s : State) (e : Nat) (off : Nat) (code : Nat) : (s.err e off code).sys = s.sys := part_eq (State.err_same s e off code (.refl 546) (.refl 546 s)).sys (by decide)
@[simp] theorem State.err_psc (s : State) (e : Nat) (off : Nat) (code : Nat) : (s.err e off code).psc = s.psc := part_eq (State.err_same s e off code (.refl 546) (.refl 546 s)).psc (by decide)
@[simp] theorem State.err_crs (s : State) (e : Nat) (off : Nat) (code : Nat) : (s.err e off code).crs = s.crs := part_eq (State.err_same s e off code (.refl 546) (.refl 546 s)).crs (by decide)
@[simp] theorem State.err_grd (s : State) (e : Nat) (off : Nat) (code : Nat) : (s.err e off code).grd = s.grd := part_eq (State.err_same s e off code (.refl 546) (.refl 546 s)).grd (by decide)
@[simp] theorem State.err_ser (s : State) (e : Nat) (off : Nat) (code : Nat) : (s.err e off code).ser = s.ser := part_eq (State.err_same s e off code (.refl 546) (.refl 546 s)).ser (by decide)
@[simp] theorem State.err_cans (s : State) (e : Nat) (off : Nat) (code : Nat) : (s.err e off code).cans = s.cans := part_eq (State.err_same s e off code (.refl 546) (.refl 546 s)).cans (by decide)
@[simp] theorem State.err_mem (s : State) (e : Nat) (off : Nat) (code : Nat) : (s.err e off code).mem = s.mem := part_eq (State.err_same s e off code (.refl 546) (.refl 546 s)).mem (by decide)
@[simp] theorem State.err_ept (s : State) (e : Nat) (off : Nat) (code : Nat) : (s.err e off code).ept = s.ept := part_eq (State.err_same s e off code (.refl 546) (.refl 546 s)).ept (by decide)
@[simp] theorem State.err_msh (s : State) (e : Nat) (off : Nat) (code : Nat) : (s.err e off code).msh = s.msh := part_eq (State.err_same s e off code (.refl 546) (.refl 546 s)).msh (by decide)
@[simp] theorem State.err_rcg (s : State) (e : Nat) (off : Nat) (code : Nat) : (s.err e off code).rcg = s.rcg := part_eq (State.err_same s e off code (.refl 546) (.refl 546 s)).rcg (by decide)
@[simp] theorem State.err_ten (s : State) (e : Nat) (off : Nat) (code : Nat) : (s.err e off code).ten = s.ten := part_eq (State.err_same s e off code (.refl 546) (.refl 546 s)).ten (by decide)
@[simp] theorem State.err_rng (s : State) (e : Nat) (off : Nat) (code : Nat) : (s.err e off code).rng = s.rng := part_eq (State.err_same s e off code (.refl 546) (.refl 546 s)).rng (by decide)
@[simp] theorem State.err_bnd (s : State) (e : Nat) (off : Nat) (code : Nat) : (s.err e off code).bnd = s.bnd := part_eq (State.err_same s e off code (.refl 546) (.refl 546 s)).bnd (by decide)
@[simp] theorem State.err_rol (s : State) (e : Nat) (off : Nat) (code : Nat) : (s.err e off code).rol = s.rol := part_eq (State.err_same s e off code (.refl 546) (.refl 546 s)).rol (by decide)
@[simp] theorem State.err_nvs (s : State) (e : Nat) (off : Nat) (code : Nat) : (s.err e off code).nvs = s.nvs := part_eq (State.err_same s e off code (.refl 546) (.refl 546 s)).nvs (by decide)
@[simp] theorem State.err_boot (s : State) (e : Nat) (off : Nat) (code : Nat) : (s.err e off code).boot = s.boot := part_eq (State.err_same s e off code (.refl 546) (.refl 546 s)).boot (by decide)
@[simp] theorem State.event_free (s : State) (p : Nat) (ct : Nat) : (s.event p ct).free = s.free := part_eq (State.event_same s p ct (.refl 1026) (.refl 1026 s)).free (by decide)
@[simp] theorem State.event_rdata (s : State) (p : Nat) (ct : Nat) : (s.event p ct).rdata = s.rdata := part_eq (State.event_same s p ct (.refl 1026) (.refl 1026 s)).rdata (by decide)
@[simp] theorem State.event_caps (s : State) (p : Nat) (ct : Nat) : (s.event p ct).caps = s.caps := part_eq (State.event_same s p ct (.refl 1026) (.refl 1026 s)).caps (by decide)
@[simp] theorem State.event_out (s : State) (p : Nat) (ct : Nat) : (s.event p ct).out = s.out := part_eq (State.event_same s p ct (.refl 1026) (.refl 1026 s)).out (by decide)
@[simp] theorem State.event_time (s : State) (p : Nat) (ct : Nat) : (s.event p ct).time = s.time := part_eq (State.event_same s p ct (.refl 1026) (.refl 1026 s)).time (by decide)
@[simp] theorem State.event_srv (s : State) (p : Nat) (ct : Nat) : (s.event p ct).srv = s.srv := part_eq (State.event_same s p ct (.refl 1026) (.refl 1026 s)).srv (by decide)
@[simp] theorem State.event_tus (s : State) (p : Nat) (ct : Nat) : (s.event p ct).tus = s.tus := part_eq (State.event_same s p ct (.refl 1026) (.refl 1026 s)).tus (by decide)
@[simp] theorem State.event_icu (s : State) (p : Nat) (ct : Nat) : (s.event p ct).icu = s.icu := part_eq (State.event_same s p ct (.refl 1026) (.refl 1026 s)).icu (by decide)
@[simp] theorem State.event_sys (s : State) (p : Nat) (ct : Nat) : (s.event p ct).sys = s.sys := part_eq (State.event_same s p ct (.refl 1026) (.refl 1026 s)).sys (by decide)
@[simp] theorem State.event_psc (s : State) (p : Nat) (ct : Nat) : (s.event p ct).psc = s.psc := part_eq (State.event_same s p ct (.refl 1026) (.refl 1026 s)).psc (by decide)
@[simp] theorem State.event_crs (s : State) (p : Nat) (ct : Nat) : (s.event p ct).crs = s.crs := part_eq (State.event_same s p ct (.refl 1026) (.refl 1026 s)).crs (by decide)
@[simp] theorem State.event_grd (s : State) (p : Nat) (ct : Nat) : (s.event p ct).grd = s.grd := part_eq (State.event_same s p ct (.refl 1026) (.refl 1026 s)).grd (by decide)
@[simp] theorem State.event_ser (s : State) (p : Nat) (ct : Nat) : (s.event p ct).ser = s.ser := part_eq (State.event_same s p ct (.refl 1026) (.refl 1026 s)).ser (by decide)
@[simp] theorem State.event_cans (s : State) (p : Nat) (ct : Nat) : (s.event p ct).cans = s.cans := part_eq (State.event_same s p ct (.refl 1026) (.refl 1026 s)).cans (by decide)
@[simp] theorem State.event_mem (s : State) (p : Nat) (ct : Nat) : (s.event p ct).mem = s.mem := part_eq (State.event_same s p ct (.refl 1026) (.refl 1026 s)).mem (by decide)
@[simp] theorem State.event_ept (s : State) (p : Nat) (ct : Nat) : (s.event p ct).ept = s.ept := part_eq (State.event_same s p ct (.refl 1026) (.refl 1026 s)).ept (by decide)
@[simp] theorem State.event_msh (s : State) (p : Nat) (ct : Nat) : (s.event p ct).msh = s.msh := part_eq (State.event_same s p ct (.refl 1026) (.refl 1026 s)).msh (by decide)
@[simp] theorem State.event_rcg (s : State) (p : Nat) (ct : Nat) : (s.event p ct).rcg = s.rcg := part_eq (State.event_same s p ct (.refl 1026) (.refl 1026 s)).rcg (by decide)
@[simp] theorem State.event_ten (s : State) (p : Nat) (ct : Nat) : (s.event p ct).ten = s.ten := part_eq (State.event_same s p ct (.refl 1026) (.refl 1026 s)).ten (by decide)
@[simp] theorem State.event_rng (s : State) (p : Nat) (ct : Nat) : (s.event p ct).rng = s.rng := part_eq (State.event_same s p ct (.refl 1026) (.refl 1026 s)).rng (by decide)
@[simp] theorem State.event_bnd (s : State) (p : Nat) (ct : Nat) : (s.event p ct).bnd = s.bnd := part_eq (State.event_same s p ct (.refl 1026) (.refl 1026 s)).bnd (by decide)
@[simp] theorem State.event_rol (s : State) (p : Nat) (ct : Nat) : (s.event p ct).rol = s.rol := part_eq (State.event_same s p ct (.refl 1026) (.refl 1026 s)).rol (by decide)
@[simp] theorem State.event_nvs (s : State) (p : Nat) (ct : Nat) : (s.event p ct).nvs = s.nvs := part_eq (State.event_same s p ct (.refl 1026) (.refl 1026 s)).nvs (by decide)
@[simp] theorem State.event_boot (s : State) (p : Nat) (ct : Nat) : (s.event p ct).boot = s.boot := part_eq (State.event_same s p ct (.refl 1026) (.refl 1026 s)).boot (by decide)

/-- A woken state reads every register as before but for the wake's own (R595). -/
theorem State.wakeDoze_rd (s : State) (bits : Nat) {o : Nat} (ho : Loud o) (hsrc : o ≠ PWR_WAKESRC.off) (hprev : o ≠ PWR_STS_PREV.off) :
    (s.wakeDoze bits).rd o = s.rd o := by
  unfold State.wakeDoze
  split
  · rw [State.raiseHub_rd _ _ ho, (State.wakeIcu_quiet _ (Quiet.refl _)).rd o ho, State.rd_f_ne _ _ hprev, State.rd_f_ne _ _ hsrc]
    rfl
  · rfl

/-- The wake leaves DOZE for RUN. -/
theorem State.wakeDoze_sys (s : State) (bits : Nat) : (s.wakeDoze bits).sys =
    if s.sys.pstate == .doze && decide (s.stage < 4) then { s.sys with pstate := .run } else s.sys := by
  unfold State.wakeDoze
  split <;> simp

/-- The happenings held while the controller slept write no register outside it. -/
theorem State.wakeIcu_g (s : State) {f : Fld} (hf : Loud f.off) : s.wakeIcu.g f = s.g f := (State.wakeIcu_quiet s (Quiet.refl s)).g hf

/-- A wake from DOZE leaves every field that is not its own (R595). -/
theorem State.wakeDoze_g (s : State) (bits : Nat) {f : Fld} (hf : Loud f.off) (hsrc : f.apart PWR_WAKESRC) (hprev : f.apart PWR_STS_PREV) :
    (s.wakeDoze bits).g f = s.g f := by
  unfold State.wakeDoze
  split
  · rw [State.raiseHub_g _ _ hf, State.wakeIcu_g _ hf, State.g_f_apart _ (by decide) _ hprev, State.g_f_apart _ (by decide) _ hsrc]
    rfl
  · rfl

/-- PWR_STS.STAGE is not what a wake from DOZE writes. -/
@[simp] theorem State.wakeDoze_stage (s : State) (bits : Nat) : (s.wakeDoze bits).stage = s.stage :=
  s.wakeDoze_g bits (by decide) (by decide) (by decide)

/-- An access finds no DOZE that the access before it has ended. -/
@[simp] theorem State.awake_wakeDoze (s : State) (bits : Nat) : s.awake.wakeDoze bits = s.awake := by
  refine if_neg ?_
  unfold State.awake
  rw [State.wakeDoze_stage, State.wakeDoze_sys]
  split
  · simp
  · assumption

end Sys2Proof.Machine
end

section
/-! The state at reset, the end of a descriptor, and the doorbells (obligations O4, O35 and O43). -/
set_option Elab.async false
namespace Sys2Proof.Machine

/-! Reset. -/

/-- Settles O4: at reset the register map lists nothing, so every register reads as `rstAt` gives it. -/
theorem resetValues : Obligations.ResetValues := ⟨rfl, rfl, fun _ => rfl, by decide +kernel⟩

/-! The end of a descriptor. -/

/-- Every command that a change of a slot leaves in the ring is one of before, changed where it is the slot's. -/
theorem State.mem_modCmd_cmds {s : State} {t slot : Nat} {f : CmdS → CmdS} {c : CmdS} (h : c ∈ ((s.modCmd t slot f).tr t).cmds) :
    ∃ d ∈ (s.tr t).cmds, c = if d.slot = slot then f d else d := by
  rw [State.modCmd, State.tr_setTr_self] at h
  obtain ⟨d, hd, rfl⟩ := List.mem_map.mp h
  exact ⟨d, hd, rfl⟩

/-- The outcome a finished command holds: a failing one keeps its status alone (R420). -/
def DoneS.noted (o : DoneS) (j : JobS) : DoneS :=
  if o.status = OK then { o with retried := o.retried || j.retried } else { o with value := 0, aux := 0, result := [], retried := false }

/-- A job of this hub's own ring is dropped and its outcome noted in its slot. -/
theorem State.finish_here {j : JobS} (h : j.id.remote = false) (s : State) (o : DoneS) :
    s.finish j o = ({ s with rng := { s.rng with jobs := s.rng.jobs.filter fun x => x.id != j.id } } : State).modCmd j.id.tid j.id.ref
      fun c => { c with done := some (o.noted j) } := by
  simp [State.finish, h, DoneS.noted]

/-- What the end of a descriptor of this hub's own ring leaves. -/
theorem State.finish_here_effect {j : JobS} (h : j.id.remote = false) (s : State) (o : DoneS) :
    (∀ k ∈ (s.finish j o).rng.jobs, k.id ≠ j.id) ∧ (s.finish j o).out = s.out ∧ (s.finish j o).regs = s.regs ∧
    (∀ c ∈ ((s.finish j o).tr j.id.tid).cmds, c.slot = j.id.ref → c.done = some (o.noted j)) := by
  rw [State.finish_here h]
  refine ⟨fun k hk => ?gone, rfl, rfl, fun c hc hslot => ?noted⟩
  case gone => simpa using (List.mem_filter.mp hk).2
  case noted =>
    obtain ⟨d, -, rfl⟩ := State.mem_modCmd_cmds hc
    by_cases hd : d.slot = j.id.ref
    · rw [if_pos hd]
    · rw [if_neg hd] at hslot
      contradiction

/-- Settles O35: the two clauses are the two branches of the outcome that is noted. -/
theorem jobsFinish : Obligations.JobsFinish := by
  refine ⟨fun s j o h hst => ?failed, fun s j o h hst => ?ok⟩
  all_goals
    have key := State.finish_here_effect h s o
    simpa only [DoneS.noted, hst, if_true, if_false] using key

/-! Doorbells. -/

/-- A level of a tenant's source is announced outside every register but the controller's. -/
theorem State.ringLevel_g (s : State) (t k : Nat) (arr : Bool) {f : Fld} (hf : Loud f.off) : (s.ringLevel t k arr).g f = s.g f :=
  (State.tenantSource_quiet s _ _ _ (Quiet.refl s)).g hf

@[simp] theorem State.ringLevel_tr (s : State) (t k : Nat) (arr : Bool) (u : Nat) : (s.ringLevel t k arr).tr u = s.tr u := by
  simp [State.tr]

/-- A doorbell page that acts runs its word's action. -/
theorem State.bell_of_bells {s : State} {t : Nat} (h : s.Bells t) (o : Nat) (act : State → State) : s.bell t o act = act s.awake := by
  obtain ⟨hrun, hentry, -, -⟩ := h
  simp only [State.awake] at hrun hentry ⊢
  simp only [State.bell, hrun, hentry, Option.isSome_none, Bool.false_eq_true, if_false]

/-- An index below the size of a live ring is taken (R409). -/
theorem State.doorbell_taken {s : State} {t ring st ord : Nat} {v : Word} (h : s.Bells t) (hst : ringLive st) (hv : v.toNat < 65536)
    (hin : v.toNat < ringSize ord) (act : State → Nat → State) : s.awake.doorbell t ring st ord v act = act s.awake v.toNat := by
  obtain ⟨-, -, hserved, hcore⟩ := h
  have hlive : ¬(st ≠ rsRUNNING ∧ st ≠ rsHALTED) := by rcases hst with rfl | rfl <;> decide
  simp only [State.doorbell, State.awake_wakeDoze, hserved, hcore, hlive, Bool.not_true, Bool.or_self, Bool.false_eq_true, if_false,
    Nat.not_le.mpr hv, Nat.not_le.mpr hin]

/-- An index at or past the size of a live ring is discarded (R409). -/
theorem State.doorbell_past {s : State} {t ring st ord : Nat} {v : Word} (h : s.Bells t) (hst : ringLive st) (hv : v.toNat < 65536)
    (hout : ringSize ord ≤ v.toNat) (act : State → Nat → State) :
    s.awake.doorbell t ring st ord v act = s.awake.doorbellBad t ring OUT_OF_RANGE v.toNat := by
  obtain ⟨-, -, hserved, hcore⟩ := h
  have hlive : ¬(st ≠ rsRUNNING ∧ st ≠ rsHALTED) := by rcases hst with rfl | rfl <;> decide
  simp only [State.doorbell, State.awake_wakeDoze, hserved, hcore, hlive, Bool.not_true, Bool.or_self, Bool.false_eq_true, if_false,
    Nat.not_le.mpr hv, hout, if_true]

/-- CMDTAIL takes its index. -/
theorem State.cmdTail_taken {s : State} {t : Nat} {v : Word} (h : s.Bells t) (hst : ringLive (s.awake.tr t).cmd.state)
    (hv : v.toNat < 65536) (hin : v.toNat < ringSize (s.awake.tr t).cmd.ord) :
    s.awake.cmdTail t v = s.awake.setTr t { s.awake.tr t with cmd := { (s.awake.tr t).cmd with host := v.toNat } } :=
  State.doorbell_taken h hst hv hin fun s n => s.setTr t { s.tr t with cmd := { (s.tr t).cmd with host := n } }

/-- CPLHEAD takes its index. -/
theorem State.cplHead_taken {s : State} {t : Nat} {v : Word} (h : s.Bells t) (hst : ringLive (s.awake.tr t).cpl.state)
    (hv : v.toNat < 65536) (hin : v.toNat < ringSize (s.awake.tr t).cpl.ord) : s.awake.cplHead t v =
      (s.awake.setTr t { s.awake.tr t with cpl := { (s.awake.tr t).cpl with host := v.toNat } }).ringLevel t 0 false :=
  State.doorbell_taken h hst hv hin fun s n => (s.setTr t { s.tr t with cpl := { (s.tr t).cpl with host := n } }).ringLevel t 0 false

/-- EVTHEAD takes its index. -/
theorem State.evtHead_taken {s : State} {t : Nat} {v : Word} (h : s.Bells t) (hst : ringLive (s.awake.tr t).evt.state)
    (hv : v.toNat < 65536) (hin : v.toNat < ringSize (s.awake.tr t).evt.ord) : s.awake.evtHead t v =
      (s.awake.setTr t { s.awake.tr t with evt := { (s.awake.tr t).evt with host := v.toNat } }).ringLevel t 2 false :=
  State.doorbell_taken h hst hv hin fun s n => (s.setTr t { s.tr t with evt := { (s.tr t).evt with host := n } }).ringLevel t 2 false

/-- POST takes its index. -/
theorem State.postWrite_taken {s : State} {t r : Nat} {v : Word} (h : s.Bells t) (hst : ringLive (s.awake.cr t r).state)
    (hv : v.toNat < 65536) (hin : v.toNat < ringSize (s.awake.cr t r).ord) :
    s.awake.postWrite t r v = s.awake.setCr t r { s.awake.cr t r with post := v.toNat } :=
  State.doorbell_taken h hst hv hin fun s n => s.setCr t r { s.cr t r with post := n }

/-- ACK takes its index. -/
theorem State.ackWrite_taken {s : State} {t r : Nat} {v : Word} (h : s.Bells t) (hst : ringLive (s.awake.cr t r).state)
    (hv : v.toNat < 65536) (hin : v.toNat < ringSize (s.awake.cr t r).ord) :
    s.awake.ackWrite t r v = (s.awake.setCr t r { s.awake.cr t r with ack := v.toNat }).ringLevel t 1 false :=
  State.doorbell_taken h hst hv hin fun s n => (s.setCr t r { s.cr t r with ack := n }).ringLevel t 1 false

@[simp] theorem State.cr_setCr_self (s : State) (t r : Nat) (c : CRingS) : (s.setCr t r c).cr t r = c := by
  simp [State.cr, State.setCr]

@[simp] theorem State.ringLevel_cr (s : State) (t k : Nat) (arr : Bool) (u r : Nat) : (s.ringLevel t k arr).cr u r = s.cr u r := by
  simp [State.cr]

/-- An event record that joins a tenant's queue leaves its doorbell error and its command ring. -/
theorem State.queueEv_tr (s : State) (t : Nat) (e : EvRecS) :
    ((s.queueEv t e).tr t).dberr = (s.tr t).dberr ∧ ((s.queueEv t e).tr t).cmd = (s.tr t).cmd := by
  unfold State.queueEv
  dsimp only
  split
  · simp
  · simp [State.tr, State.setTr]

/-- Of the registers an event record that joins a queue can change EVLOST alone. -/
theorem State.queueEv_g (s : State) (t : Nat) (e : EvRecS) {f : Fld} (h : f.apart RNG_EVLOST) : (s.queueEv t e).g f = s.g f := by
  unfold State.queueEv
  dsimp only
  split
  · rfl
  · exact State.g_f_apart _ (by decide) _ h

/-- A discarded doorbell write is latched and counted (R409). -/
theorem State.doorbellBad_effect (s : State) (t ring status idx : Nat) :
    ((s.doorbellBad t ring status idx).tr t).dberr = true ∧ ((s.doorbellBad t ring status idx).tr t).cmd = (s.tr t).cmd ∧
    (s.doorbellBad t ring status idx).g RNG_DBERR = min (s.g RNG_DBERR + 1) (2 ^ 32 - 1) := by
  have hinc : ∀ u : State, (u.inc RNG_DBERR).tr t = u.tr t := fun u => rfl
  simp only [State.doorbellBad, State.ringRecord, State.ringLevel_tr, State.queueEv_tr, hinc, State.tr_setTr_self, true_and]
  rw [State.ringLevel_g _ _ _ _ (by decide), State.queueEv_g _ _ _ (by decide), State.g_inc_self _ (by decide)]
  rfl

/-- A taken write of CTL runs its bits' actions in order (R408). -/
theorem State.ctlBell_of_bells {s : State} {t : Nat} {v : Word} (h : s.Bells t) (hv : v.toNat < 16) :
    s.ctlBell t v =
      let s := if wbit v 3 then s.awake.clrDberr t else s.awake
      let s := if wbit v 0 then s.resumeCmd t else s
      let s := if wbit v 1 then s.resumeCpl t else s
      if wbit v 2 then s.resumeEvt t else s := by
  have hb := State.bell_of_bells h 0xC fun s => s.ctlWrite t v
  obtain ⟨-, -, hserved, hcore⟩ := h
  rw [State.ctlBell, hb]
  simp only [State.ctlWrite, State.awake_wakeDoze, hserved, hcore, Bool.not_true, Bool.or_self, Bool.false_eq_true, if_false,
    Nat.not_le.mpr hv]

/-! What CTL's actions do to the rings of their tenant. -/

theorem State.clrDberr_tr (s : State) (t : Nat) : (s.clrDberr t).tr t = { s.tr t with dberr := false } := by
  simp [State.clrDberr]

theorem State.resumeCmd_tr (s : State) (t : Nat) : ((s.resumeCmd t).tr t).cpl = (s.tr t).cpl ∧
    ((s.resumeCmd t).tr t).evt = (s.tr t).evt ∧ ((s.resumeCmd t).tr t).dberr = (s.tr t).dberr ∧ ((s.tr t).cmd.state = rsHALTED →
      ((s.resumeCmd t).tr t).cmd = { (s.tr t).cmd with state := rsRUNNING, failed := false }) := by
  unfold State.resumeCmd
  dsimp only
  split <;> simp_all

/-- A ring that moves on keeps its state. -/
@[simp] theorem RingS.next_state (r : RingS) : r.next.state = r.state ∧ r.next.failed = r.failed := by
  unfold RingS.next
  split <;> exact ⟨rfl, rfl⟩

theorem State.writeCpl_tr (s : State) (t : Nat) : ((s.writeCpl t).tr t).cmd = (s.tr t).cmd ∧ ((s.writeCpl t).tr t).evt = (s.tr t).evt ∧
    ((s.writeCpl t).tr t).dberr = (s.tr t).dberr ∧ ((s.writeCpl t).tr t).cpl.state = (s.tr t).cpl.state ∧
    ((s.writeCpl t).tr t).cpl.failed = (s.tr t).cpl.failed := by
  unfold State.writeCpl
  split
  · simp
  · have hdma : ∀ (u : State) a b, (u.dmaWrite a b).tr t = u.tr t := fun _ _ _ => rfl
    simp [hdma]

theorem State.resumeCpl_tr (s : State) (t : Nat) : ((s.resumeCpl t).tr t).cmd = (s.tr t).cmd ∧
    ((s.resumeCpl t).tr t).evt = (s.tr t).evt ∧ ((s.resumeCpl t).tr t).dberr = (s.tr t).dberr ∧
    ((s.tr t).cpl.state = rsHALTED → ((s.resumeCpl t).tr t).cpl.state = rsRUNNING ∧ ((s.resumeCpl t).tr t).cpl.failed = false) := by
  unfold State.resumeCpl
  dsimp only
  split
  · simp [State.writeCpl_tr]
  · simp_all

theorem State.writeEv_tr (s : State) (t : Nat) : ((s.writeEv t).tr t).cmd = (s.tr t).cmd ∧ ((s.writeEv t).tr t).cpl = (s.tr t).cpl ∧
    ((s.writeEv t).tr t).dberr = (s.tr t).dberr ∧ ((s.writeEv t).tr t).evt.state = (s.tr t).evt.state ∧
    ((s.writeEv t).tr t).evt.failed = (s.tr t).evt.failed := by
  unfold State.writeEv
  split
  · simp
  · have hdma : ∀ (u : State) a b, (u.dmaWrite a b).tr t = u.tr t := fun _ _ _ => rfl
    have hsrc : ∀ (u : State) n r, (u.setSrc n r).tr t = u.tr t := fun _ _ _ => rfl
    dsimp only
    split <;> simp [hdma, hsrc]

theorem State.resumeEvt_tr (s : State) (t : Nat) : ((s.resumeEvt t).tr t).cmd = (s.tr t).cmd ∧
    ((s.resumeEvt t).tr t).cpl = (s.tr t).cpl ∧ ((s.resumeEvt t).tr t).dberr = (s.tr t).dberr ∧
    ((s.tr t).evt.state = rsHALTED → ((s.resumeEvt t).tr t).evt.state = rsRUNNING ∧ ((s.resumeEvt t).tr t).evt.failed = false) := by
  unfold State.resumeEvt
  dsimp only
  split
  · simp [State.writeEv_tr]
  · simp_all

/-! Bits of words. -/

theorem nbit_eq_testBit (n i : Nat) : nbit n i = n.testBit i := by
  rw [nbit, Nat.testBit_eq_decide_div_mod_eq]
  rfl

/-- A bit set in either word is set in their disjunction. -/
theorem wbit_or (v w : Word) (i : Nat) : wbit (v ||| w) i = (wbit v i || wbit w i) := by
  simp only [wbit, nbit_eq_testBit, BitVec.toNat_or, Nat.testBit_or]

theorem wbit_or_right (v : Word) {w : Word} {i : Nat} (h : wbit w i = true) : wbit (v ||| w) i = true := by
  rw [wbit_or, h, Bool.or_true]

/-- Settles O43. -/
theorem doorbellsComplete : Obligations.DoorbellsComplete := by
  refine ⟨fun s t v _ hb hst hv hin => ?tail, fun s t v _ hb hst hv hout => ?past, fun s t v _ hb hst hv hin => ?cpl,
    fun s t v _ hb hst hv hin => ?evt, fun s t v _ hb hv hst => ?resumeCmd, fun s t v _ hb hv hst => ?resumeCpl,
    fun s t v _ hb hv hst => ?resumeEvt, fun s t v _ hb hv => ?clr, fun s t r v _ _ hb hst hv hin => ?post,
    fun s t r v _ _ hb hst hv hin => ?ack⟩
  case tail =>
    have hact := State.cmdTail_taken hb hst hv hin
    refine completes rfl ((State.bell_of_bells hb _ _).trans hact) ⟨?_, fun k hk => ?_, rfl⟩
    · rw [State.tr_setTr_self]
    · exact State.tr_setTr_ne _ _ hk
  case past =>
    have hact : s.awake.cmdTail t v = s.awake.doorbellBad t 0 OUT_OF_RANGE v.toNat :=
      State.doorbell_past hb hst hv hout fun s n => s.setTr t { s.tr t with cmd := { (s.tr t).cmd with host := n } }
    exact completes rfl ((State.bell_of_bells hb _ _).trans hact) (State.doorbellBad_effect _ _ _ _ _)
  case cpl =>
    have hact := State.cplHead_taken hb hst hv hin
    exact completes rfl ((State.bell_of_bells hb _ _).trans hact) (by simp)
  case evt =>
    have hact := State.evtHead_taken hb hst hv hin
    exact completes rfl ((State.bell_of_bells hb _ _).trans hact) (by simp)
  case resumeCmd =>
    refine completes rfl (State.ctlBell_of_bells hb hv) ?_
    have hbit : wbit (v ||| (1 : Word)) 0 = true := wbit_or_right v (by decide)
    dsimp only
    simp only [hbit, if_true]
    split_ifs <;> simp [State.resumeEvt_tr, State.resumeCpl_tr, State.resumeCmd_tr, State.clrDberr_tr, hst]
  case resumeCpl =>
    refine completes rfl (State.ctlBell_of_bells hb hv) ?_
    have hbit : wbit (v ||| (2 : Word)) 1 = true := wbit_or_right v (by decide)
    dsimp only
    simp only [hbit, if_true]
    split_ifs <;> simp [State.resumeEvt_tr, State.resumeCpl_tr, State.resumeCmd_tr, State.clrDberr_tr, hst]
  case resumeEvt =>
    refine completes rfl (State.ctlBell_of_bells hb hv) ?_
    have hbit : wbit (v ||| (4 : Word)) 2 = true := wbit_or_right v (by decide)
    dsimp only
    simp only [hbit, if_true]
    split_ifs <;> simp [State.resumeEvt_tr, State.resumeCpl_tr, State.resumeCmd_tr, State.clrDberr_tr, hst]
  case clr =>
    refine completes rfl (State.ctlBell_of_bells hb hv) ?_
    have hbit : wbit (v ||| (8 : Word)) 3 = true := wbit_or_right v (by decide)
    dsimp only
    simp only [hbit, if_true]
    split_ifs <;> simp [State.resumeEvt_tr, State.resumeCpl_tr, State.resumeCmd_tr, State.clrDberr_tr]
  case post =>
    have hact := State.postWrite_taken hb hst hv hin
    exact completes rfl ((State.bell_of_bells hb _ _).trans hact) ⟨State.cr_setCr_self _ _ _ _, rfl⟩
  case ack =>
    have hact := State.ackWrite_taken hb hst hv hin
    exact completes rfl ((State.bell_of_bells hb _ _).trans hact) (by simp)

end Sys2Proof.Machine
end

section
/-! The register map as one table: its registers, the words they are written with and read as (obligations O57 and O58). -/
set_option Elab.async false
namespace Sys2Proof.Machine

/-! Registers of the map. -/

/-- A register found in a list is one of it, at the element found. -/
theorem mem_of_findReg {off : Nat} {rs : List Reg} {x : Reg × Nat × Nat} (h : findReg off rs = some x) :
    x.1 ∈ rs ∧ x.1.index off = some x.2 := by
  induction rs with
  | nil => cases h
  | cons q rs ih =>
    rw [findReg] at h
    split at h
    · next e =>
      obtain rfl := Option.some.inj h
      exact ⟨List.mem_cons_self, e⟩
    · exact ⟨List.mem_cons_of_mem q (ih h).1, (ih h).2⟩

/-- The block that an offset's register belongs to. -/
theorem exists_blk_of_regAt {ofs : Nat} {r : Reg} {i j : Nat} (h : regAt ofs = some (r, i, j)) :
    ∃ b ∈ blocks, blkAt ofs = some b ∧ r ∈ b.regs := by
  unfold regAt at h
  split at h
  · next b hb => exact ⟨b, List.mem_of_find?_eq_some hb, hb, (mem_of_findReg h).1⟩
  · cases h

/-- What the checks below ask of a register: its block's error status, a clock its accesses meet, fields that share no bit, and bits that read
as zero where it has no field. -/
abbrev Reg.Sound (r : Reg) (b : Blk) : Prop :=
  r.err = b.err ∧ (0x28030 ≤ r.off ∨ CoreErr r.err) ∧ (∀ f ∈ r.fds, f.lo ≤ f.hi) ∧
  (r.fds.Pairwise fun f g => f.hi < g.lo ∨ g.hi < f.lo) ∧ r.readMask < 2 ^ 32 ∧
  ∀ k < 32, (r.fds.any fun f => decide (f.lo ≤ k) && decide (k ≤ f.hi)) = true ∨ r.readMask.testBit k = false

/-- Every register of the map is sound. -/
theorem sound_of_mem_blocks : ∀ b ∈ blocks, ∀ r ∈ b.regs, r.Sound b := by decide +kernel

/-- A register that the statements find here is sound for its block. -/
theorem RegHere.sound {ofs : Nat} {b : Blk} {r : Reg} {i j : Nat} (h : RegHere ofs b r i j) : r.Sound b := by
  obtain ⟨-, -, hb, -, hr, -⟩ := h
  obtain ⟨c, hc, hbc, hmem⟩ := exists_blk_of_regAt hr
  obtain rfl : c = b := Option.some.inj (hbc.symm.trans hb)
  exact sound_of_mem_blocks c hc r hmem

/-! Reserved bits of a written word. -/

/-- What is left of n once the fields' bits of v are taken off it. -/
def lessFields (v : Nat) (fs : List Fd) (n : Nat) : Nat := fs.foldl (fun n f => n - nbits v f.hi f.lo * 2 ^ f.lo) n

/-- Taking the bits of a field off a number that has them zeroes the field. -/
theorem sub_nbits_eq_nput {n v hi lo : Nat} (h : nbits v hi lo = nbits n hi lo) : n - nbits v hi lo * 2 ^ lo = nput n hi lo 0 := by
  rw [h, nput, Nat.zero_mod, Nat.zero_mul, Nat.add_zero]

/-- A bit that no field has survives the taking off of the fields. -/
theorem nbits_lessFields {v k : Nat} {fs : List Fd} (hk : ∀ f ∈ fs, f.lo ≤ f.hi ∧ (k < f.lo ∨ f.hi < k))
    (hd : fs.Pairwise fun f g => f.hi < g.lo ∨ g.hi < f.lo) (n : Nat) (hn : ∀ f ∈ fs, nbits v f.hi f.lo = nbits n f.hi f.lo) :
    nbits (lessFields v fs n) k k = nbits n k k := by
  induction fs generalizing n with
  | nil => rfl
  | cons f fs ih =>
    obtain ⟨hapart, hd⟩ := List.pairwise_cons.mp hd
    obtain ⟨hle, hkf⟩ := hk f List.mem_cons_self
    have hstep : n - nbits v f.hi f.lo * 2 ^ f.lo = nput n f.hi f.lo 0 := sub_nbits_eq_nput (hn f List.mem_cons_self)
    have hsame : ∀ h l, h < f.lo ∨ f.hi < l → nbits (nput n f.hi f.lo 0) h l = nbits n h l := fun h l hc =>
      hc.elim (nbits_nput_below (by omega) 0) (nbits_nput_above (by omega) 0)
    show nbits (lessFields v fs (n - nbits v f.hi f.lo * 2 ^ f.lo)) k k = _
    rw [hstep, ih (fun g hg => hk g (List.mem_cons_of_mem f hg)) hd _ fun g hg => ?_, hsame k k hkf]
    rw [hn g (List.mem_cons_of_mem f hg), hsame _ _ (hapart g hg).symm]

theorem nbits_eq_one_of_wbit {v : Word} {k : Nat} (h : wbit v k = true) : nbits v.toNat k k = 1 := by
  simpa [wbit, nbit, nbits] using h

/-- A word with a one where a sound register has no field is refused (R9). -/
theorem Reg.check_of_reserved_bit {r : Reg} {b : Blk} (hr : r.Sound b) {k : Nat} {v : Word} (hv : wbit v k = true)
    (hk : (r.fds.any fun f => decide (f.lo ≤ k) && decide (k ≤ f.hi)) = false) : r.check v = some RESERVED_NONZERO := by
  obtain ⟨-, -, hle, hd, -, -⟩ := hr
  have hout : ∀ f ∈ r.fds, f.lo ≤ f.hi ∧ (k < f.lo ∨ f.hi < k) := fun f hf => by
    have hnot := List.any_eq_false.mp hk f hf
    simp only [Bool.and_eq_true, decide_eq_true_eq, not_and, not_le] at hnot
    have := hle f hf
    omega
  have hleft := nbits_lessFields hout hd v.toNat fun _ _ => rfl
  rw [nbits_eq_one_of_wbit hv] at hleft
  have hne : lessFields v.toNat r.fds v.toNat ≠ 0 := fun h => by
    rw [h] at hleft
    simp [nbits] at hleft
  exact if_pos hne

/-- A word with a reserved encoding is refused (R9). -/
theorem Reg.check_of_reserved_code {r : Reg} {v : Word} (h : ∃ f ∈ r.fds, f.acc ≠ .ro ∧ f.isReserved = true ∧ f.ok v.toNat = false) :
    r.check v = some RESERVED_NONZERO := by
  obtain ⟨f, hf, hacc, hres, hok⟩ := h
  have hany : (r.fds.any fun f => f.acc != .ro && f.isReserved && !f.ok v.toNat) = true :=
    List.any_eq_true.mpr ⟨f, hf, by simp [hacc, hres, hok]⟩
  unfold Reg.check
  rw [hany, if_pos rfl, ite_self]

/-! Reads. -/

/-- A bit that no field of a sound register has reads as zero, whatever the word holds (R9). -/
theorem Reg.nbit_land_readMask {r : Reg} {b : Blk} (hr : r.Sound b) {k : Nat} (w : Nat)
    (hk : (r.fds.any fun f => decide (f.lo ≤ k) && decide (k ≤ f.hi)) = false) : nbit (Nat.land w r.readMask) k = false := by
  obtain ⟨-, -, -, -, hlt, hmask⟩ := hr
  have hbit : r.readMask.testBit k = false := by
    by_cases h : k < 32
    · exact (hmask k h).resolve_left (by simp [hk])
    · exact Nat.testBit_lt_two_pow (lt_of_lt_of_le hlt (Nat.pow_le_pow_right (by decide) (by omega)))
  rw [nbit_eq_testBit]
  show (w &&& r.readMask).testBit k = false
  rw [Nat.testBit_and, hbit, Bool.and_false]

/-- An access to a register of a running block meets no stopped clock. -/
theorem State.stoppedAt_of_running {s : State} {r : Reg} {b : Blk} (hr : r.Sound b) {ofs : Nat} (hofs : r.off ≤ ofs)
    (h : s.stopped b.err = false) : s.stoppedAt b.err ofs = false := by
  obtain ⟨herr, hdom, -⟩ := hr
  unfold State.stoppedAt
  split
  · next haon =>
    refine State.stopped_guard (e := b.err) (herr ▸ hdom.resolve_left fun hle => ?_) h
    simp [aonWord_eq_false_of_le (hle.trans hofs)] at haon
  · exact h

/-- The register found at an offset starts at or below it. -/
theorem off_le_of_regAt {ofs : Nat} {r : Reg} {i j : Nat} (h : regAt ofs = some (r, i, j)) : r.off ≤ ofs := by
  unfold regAt at h
  split at h
  · have hidx := (mem_of_findReg h).2
    dsimp only [Reg.index] at hidx
    split at hidx
    · cases hidx
    · omega
  · cases h

/-- What a read of a running register returns: its word, or the word captured for it, in the bits that read (R31, R579). -/
theorem State.bar0Read_rdata {s : State} {ofs : Nat} {b : Blk} {r : Reg} {i j : Nat} (h : RegHere ofs b r i j)
    (hrun : s.awake.stopped b.err = false) : ∃ w, (s.bar0Read ofs).rdata = Nat.land w r.readMask := by
  have hsound := h.sound
  obtain ⟨-, -, hb, hne, hr, hap, -⟩ := h
  have hat := State.stoppedAt_of_running hsound (off_le_of_regAt hr) hrun
  simp only [State.awake] at hat
  simp only [State.bar0Read, hb, hat, hne, hr, hap, Bool.false_eq_true, if_false]
  exact ⟨_, rfl⟩

/-- Settles O58. -/
theorem reservedBitsRefused : Obligations.ReservedBitsRefused := by
  refine ⟨fun ofs b r i j k v h _ hv hk => Reg.check_of_reserved_bit h.sound hv hk,
    fun ofs b r i j v _ hf => Reg.check_of_reserved_code hf, fun s ofs b r i j k h hrun hk => ?read⟩
  case read =>
    obtain ⟨w, hw⟩ := State.bar0Read_rdata h hrun
    rw [hw]
    exact Reg.nbit_land_readMask h.sound w hk

/-! A write with the clock of its block stopped. -/

/-- Booted, in WATCH: the fabric clock is stopped and the always-on clock runs. -/
def watching : State := let s := State.reset.f BOOT_STS_STAGE 9; { s with sys := { s.sys with pstate := .watch } }

/-- Refutes O57: TIM_AONCNT runs on CKAON (R577), so in WATCH a write of it meets no stopped clock though TIM's own clock is stopped;
it is ignored as a write of a read-only register, and CLK_STOPACC does not count it. -/
theorem not_registerWritesComplete : ¬ Obligations.RegisterWritesComplete := by
  rintro ⟨-, -, hstopped, -⟩
  have hrec : exec (.registerWrite false 0x28028 4 0 0) watching = .next (watching.awake.clockStopped 0x28028) :=
    hstopped watching 0x28028 ⟨0x28000, 0x29FFF, TIM_ERRSTS, .ckFab, regsTIM⟩ rTIM_AONCNTLO 0 0 0 0 (by decide +kernel) (by decide +kernel)
  have hign : exec (.registerWrite false 0x28028 4 0 0) watching = .next (watching.bar0Word 0x28028 0) :=
    exec_registerWrite_aligned watching (by decide) 0 0
  have hsame : watching.bar0Word 0x28028 0 = watching.awake.clockStopped 0x28028 := Host.Outcome.next.inj (hign.symm.trans hrec)
  have hcount : (watching.bar0Word 0x28028 0).g CLK_STOPACC ≠ (watching.awake.clockStopped 0x28028).g CLK_STOPACC := by decide +kernel
  exact hcount (congrArg (fun s : State => s.g CLK_STOPACC) hsame)

end Sys2Proof.Machine
end

section
/-! A compare value that CT has already passed (obligation O13). -/
set_option Elab.async false
namespace Sys2Proof.Machine

/-- Booted, with CT at 9 and compare channel 0 of unit 0 on the base of CT. -/
def ctPastCompare : State :=
  let s := (State.reset.f BOOT_STS_STAGE 9).f (TIM_TUCMPCTL_BASE 0 0) 1
  { s with time := { s.time with acc := 9 * 2 ^ 32 } }

/-- Refutes O13: arming a channel at a CT value already passed latches LATE in TIM_TUxSTS (R53), a register that the frame of COMPARE_ARM
says is left. -/
theorem not_registerFrames : ¬ Obligations.RegisterFrames := by
  rintro ⟨-, -, -, -, -, -, -, -, harm, -⟩
  obtain ⟨t, hexec, hframe⟩ := harm ctPastCompare 0 0 0 (by decide +kernel)
  obtain rfl := Host.Outcome.next.inj hexec
  have hlate : (ctPastCompare.barWrite rTIM_TUCMPHI 0 0 0 fun s => s.cmpArm 0 0 0).rd (TIM_TUSTS_LATE 0).off ≠
      ctPastCompare.awake.rd (TIM_TUSTS_LATE 0).off := by decide +kernel
  exact hlate (hframe _ (by decide) (by decide) (by decide) (by decide))

end Sys2Proof.Machine
end

section
/-! The index registers of the hub tables (obligation O23): a word with one action bit set does that action on the entry it names. -/
set_option Elab.async false
namespace Sys2Proof.Machine

/-! Words staged in a row of registers. -/

/-- Operations on the register map alone, one after the other, are one. -/
theorem State.foldl_eq_regs {α : Type} {op : State → α → State} (hop : ∀ s x, op s x = { s with regs := (op s x).regs }) (l : List α)
    (s : State) : l.foldl op s = { s with regs := (l.foldl op s).regs } := by
  induction l generalizing s with
  | nil => rfl
  | cons x l ih =>
    rw [List.foldl_cons, ih, hop s x]

/-- A field written to a state that differs from another in its registers alone leaves it so. -/
theorem regsOnly_f {a s : State} (h : s = { a with regs := s.regs }) (f : Fld) (v : Nat) : s.f f v = { a with regs := (s.f f v).regs } :=
  congrArg (fun t : State => { t with regs := (s.f f v).regs }) h

/-- A field that none of a row shares a bit with is left by the writes of the row. -/
theorem State.foldl_f_apart {F : Nat → Fld} (hfit : ∀ k, (F k).fits) (V : Nat → Nat) {g : Fld} (l : List Nat) (hg : ∀ k ∈ l, g.apart (F k))
    (s : State) : (l.foldl (fun s k => s.f (F k) (V k)) s).g g = s.g g := by
  induction l generalizing s with
  | nil => rfl
  | cons k l ih =>
    obtain ⟨hk, hl⟩ := List.forall_mem_cons.mp hg
    rw [List.foldl_cons, ih hl, State.g_f_apart _ (hfit k) _ hk]

/-- A row of fields written one after the other reads back as it was written. -/
theorem State.foldl_f_self {F : Nat → Fld} (hfit : ∀ k, (F k).fits) (hapart : ∀ j k, j ≠ k → (F j).apart (F k)) (V : Nat → Nat) {l : List Nat}
    (hl : l.Nodup) {k : Nat} (hk : k ∈ l) (s : State) :
    (l.foldl (fun s k => s.f (F k) (V k)) s).g (F k) = V k % 2 ^ ((F k).hi + 1 - (F k).lo) := by
  induction l generalizing s with
  | nil => cases hk
  | cons j l ih =>
    obtain ⟨hj, hl⟩ := List.nodup_cons.mp hl
    rcases List.mem_cons.mp hk with rfl | hk
    · rw [List.foldl_cons, State.foldl_f_apart hfit V l fun m hm => hapart _ m (ne_of_mem_of_not_mem hm hj).symm]
      exact State.g_f_self s (hfit _) _
    · exact ih hl hk _

theorem le_lt (bs : List Nat) : le bs < 256 ^ bs.length := by
  induction bs with
  | nil => decide
  | cons b bs ih =>
    rw [le, List.length_cons, Nat.pow_succ]
    omega

/-- Four bytes make a word. -/
theorem leAt_four_lt (bs : List Nat) (off : Nat) : leAt bs off 4 < 2 ^ 32 :=
  calc leAt bs off 4 < 256 ^ ((bs.drop off).take 4).length := le_lt _
    _ ≤ 256 ^ 4 := Nat.pow_le_pow_right (by decide) (List.length_take_le _ _)
    _ = 2 ^ 32 := by decide

/-- Bytes loaded into a row of registers. -/
def State.loadWords (s : State) (F : Nat → Fld) (n : Nat) (b : List Nat) : State :=
  (List.range n).foldl (fun s k => s.f (F k) (leAt b (4 * k) 4)) s

/-- Bytes loaded into a row of whole registers read back. -/
theorem State.loadWords_g {F : Nat → Fld} (hfit : ∀ k, (F k).fits) (hwhole : ∀ k, (F k).hi + 1 - (F k).lo = 32)
    (hapart : ∀ j k, j ≠ k → (F j).apart (F k)) (b : List Nat) {n k : Nat} (hk : k < n) (s : State) :
    (s.loadWords F n b).g (F k) = leAt b (4 * k) 4 := by
  rw [State.loadWords, State.foldl_f_self hfit hapart _ List.nodup_range (List.mem_range.mpr hk), hwhole, Nat.mod_eq_of_lt (leAt_four_lt _ _)]

theorem State.loadWords_eq (s : State) (F : Nat → Fld) (n : Nat) (b : List Nat) :
    s.loadWords F n b = { s with regs := (s.loadWords F n b).regs } := State.foldl_eq_regs (fun _ _ => rfl) _ _

/-! The words written to an index register. -/

/-- The entry's index lies below the action bits. -/
theorem indexWord_wbits {x b hi lo : Nat} (hx : x < 2 ^ 29) (hb : b = 29 ∨ b = 30 ∨ b = 31) (hhi : hi < 29) (hlo : lo ≤ hi) :
    wbits (Word.ofNat (2 ^ b + x)) hi lo = nbits x hi lo := by
  have hlt : 2 ^ b + x < 2 ^ 32 := by rcases hb with rfl | rfl | rfl <;> omega
  obtain ⟨d, hd⟩ : ∃ d, b = lo + (hi + 1 - lo) + d := ⟨b - (hi + 1), by omega⟩
  rw [wbits, BitVec.toNat_ofNat, Nat.mod_eq_of_lt hlt, nbits, nbits, hd, Nat.pow_add, Nat.pow_add, Nat.mul_assoc,
    Nat.mul_add_div (Nat.two_pow_pos _), Nat.mul_add_mod]

/-- The three action bits of a word with one of them set. -/
theorem indexWord_31 {x : Nat} (hx : x < 2 ^ 29) : wbit (Word.ofNat (2 ^ 31 + x)) 31 = true ∧ wbit (Word.ofNat (2 ^ 31 + x)) 30 = false ∧
    wbit (Word.ofNat (2 ^ 31 + x)) 29 = false := by
  simp only [wbit, nbit, BitVec.toNat_ofNat, beq_iff_eq, beq_eq_false_iff_ne]
  omega

theorem indexWord_30 {x : Nat} (hx : x < 2 ^ 29) : wbit (Word.ofNat (2 ^ 30 + x)) 31 = false ∧ wbit (Word.ofNat (2 ^ 30 + x)) 30 = true ∧
    wbit (Word.ofNat (2 ^ 30 + x)) 29 = false := by
  simp only [wbit, nbit, BitVec.toNat_ofNat, beq_iff_eq, beq_eq_false_iff_ne]
  omega

theorem indexWord_29 {x : Nat} (hx : x < 2 ^ 29) : wbit (Word.ofNat (2 ^ 29 + x)) 31 = false ∧ wbit (Word.ofNat (2 ^ 29 + x)) 30 = false ∧
    wbit (Word.ofNat (2 ^ 29 + x)) 29 = true := by
  simp only [wbit, nbit, BitVec.toNat_ofNat, beq_iff_eq, beq_eq_false_iff_ne]
  omega

theorem nbits_of_lt {x n : Nat} (hx : x < 2 ^ (n + 1)) : nbits x n 0 = x := by
  rw [nbits, Nat.pow_zero, Nat.div_one, Nat.sub_zero, Nat.mod_eq_of_lt hx]

/-- A tenant and what it owns, packed in one word. -/
theorem nbits_pair {t k n : Nat} (ht : t < 1024) (hk : k < 2 ^ n) : nbits (65536 * k + t) 9 0 = t ∧ nbits (65536 * k + t) (15 + n) 16 = k := by
  have hdiv : (65536 * k + t) / 2 ^ 16 = k := by omega
  refine ⟨?_, ?_⟩
  · simp only [nbits]; omega
  · rw [nbits, hdiv, show 15 + n + 1 - 16 = n by omega, Nat.mod_eq_of_lt hk]

/-! Endpoint records. -/

theorem State.eptIdxWrite_commit (s : State) {e : Nat} (he : e < 131072) (hok : s.recFails e s.stagedRec = none) :
    s.eptIdxWrite (Word.ofNat (2 ^ 31 + e)) = s.putRec e (EpS.unpack s.stagedRec) := by
  obtain ⟨h31, h30, h29⟩ := indexWord_31 (x := e) (by omega)
  have hidx : wbits (Word.ofNat (2 ^ 31 + e)) 16 0 = e := (indexWord_wbits (by omega) (by decide) (by decide) (by decide)).trans (nbits_of_lt he)
  simp [State.eptIdxWrite, hidx, h31, h30, h29, hok, -Nat.reducePow]

theorem State.eptIdxWrite_read (s : State) {e : Nat} (he : e < 131072) : s.eptIdxWrite (Word.ofNat (2 ^ 30 + e)) =
    s.loadWords EPT_D 8 (s.ep e).pack := by
  obtain ⟨h31, h30, h29⟩ := indexWord_30 (x := e) (by omega)
  have hidx : wbits (Word.ofNat (2 ^ 30 + e)) 16 0 = e := (indexWord_wbits (by omega) (by decide) (by decide) (by decide)).trans (nbits_of_lt he)
  simp [State.eptIdxWrite, State.loadWords, hidx, h31, h30, h29, -Nat.reducePow]

theorem State.eptIdxWrite_release (s : State) {e : Nat} (he : e < 131072) (hsrc : (s.ep e).src ≠ srcFREE)
    (hfree : ∀ x ∈ s.relRecs e, s.recAdmitted (s.ep x) = false ∧ s.recInUse x = false) :
    s.eptIdxWrite (Word.ofNat (2 ^ 29 + e)) = (s.relRecs e).foldl (fun s x => s.putRec x {}) s := by
  obtain ⟨h31, h30, h29⟩ := indexWord_29 (x := e) (by omega)
  have hidx : wbits (Word.ofNat (2 ^ 29 + e)) 16 0 = e := (indexWord_wbits (by omega) (by decide) (by decide) (by decide)).trans (nbits_of_lt he)
  have hadm : (s.relRecs e).any (fun x => s.recAdmitted (s.ep x)) = false := List.any_eq_false.mpr fun x hx => by simp [(hfree x hx).1]
  have huse : (s.relRecs e).any s.recInUse = false := List.any_eq_false.mpr fun x hx => by simp [(hfree x hx).2]
  simp [State.eptIdxWrite, hidx, h31, h30, h29, hsrc, hadm, huse, -Nat.reducePow, -List.any_eq_true]

/-- A record written is the record read; the others are as they were. -/
theorem State.putRec_ep (s : State) (e : Nat) (r : EpS) (m : Nat) : (s.putRec e r).ep m = if m = e then r else s.ep m := by
  by_cases h : m = e
  · rw [if_pos h, h]
    exact State.ep_setEp_self _ _ _
  · rw [if_neg h]
    refine (State.ep_setEp_ne _ _ h).trans ?_
    split_ifs <;> rfl

/-- Records released one after the other are empty. -/
theorem State.release_ep (l : List Nat) (s : State) (m : Nat) :
    (l.foldl (fun s x => s.putRec x {}) s).ep m = if m ∈ l then {} else s.ep m := by
  induction l generalizing s with
  | nil => rfl
  | cons x l ih =>
    rw [List.foldl_cons, ih, State.putRec_ep]
    by_cases hx : m = x <;> by_cases hm : m ∈ l <;> simp [hx, hm]

/-! Machine tables. -/

theorem State.rcgSts_rcg (s : State) : s.rcgSts.rcg = s.rcg := rfl

theorem State.mtCtlWrite_commit (s : State) {n : Nat} (hn : n < 1024) (hfree : s.mtUsers n = 0) (hok : mtFails s.mtBuf = none) :
    s.mtCtlWrite (Word.ofNat (2 ^ 31 + n)) =
      ({ (s.f RCG_MTRSN 0).f RCG_MTOFS 0 with
          rcg := { s.rcg with tables := s.rcg.tables.set (fun _ => []) n (s.mtBuf.take (mtLen s.mtBuf)) } } : State).rcgSts := by
  obtain ⟨h31, h30, h29⟩ := indexWord_31 (x := n) (by omega)
  have hidx : wbits (Word.ofNat (2 ^ 31 + n)) 9 0 = n := (indexWord_wbits (by omega) (by decide) (by decide) (by decide)).trans (nbits_of_lt hn)
  simp [State.mtCtlWrite, hidx, h31, h30, h29, hfree, hok, -Nat.reducePow]

theorem State.mtCtlWrite_read (s : State) {n : Nat} (hn : n < 1024) : s.mtCtlWrite (Word.ofNat (2 ^ 30 + n)) =
    ((s.loadWords RCG_MTBUF 1024 (s.mtab n)).f RCG_MTINFO_DEFINED (b2n !(s.mtab n).isEmpty)).f
      RCG_MTINFO_USERS ((s.loadWords RCG_MTBUF 1024 (s.mtab n)).mtUsers n) := by
  obtain ⟨h31, h30, h29⟩ := indexWord_30 (x := n) (by omega)
  have hidx : wbits (Word.ofNat (2 ^ 30 + n)) 9 0 = n := (indexWord_wbits (by omega) (by decide) (by decide) (by decide)).trans (nbits_of_lt hn)
  simp only [State.mtCtlWrite, hidx, h31, h30, h29]
  rfl

theorem State.mtCtlWrite_release (s : State) {n : Nat} (hn : n < 1024) (hfree : s.mtUsers n = 0) :
    s.mtCtlWrite (Word.ofNat (2 ^ 29 + n)) =
      ({ s with rcg := { s.rcg with tables := s.rcg.tables.set (fun _ => []) n [] } } : State).rcgSts := by
  obtain ⟨h31, h30, h29⟩ := indexWord_29 (x := n) (by omega)
  have hidx : wbits (Word.ofNat (2 ^ 29 + n)) 9 0 = n := (indexWord_wbits (by omega) (by decide) (by decide) (by decide)).trans (nbits_of_lt hn)
  simp [State.mtCtlWrite, hidx, h31, h30, h29, hfree, -Nat.reducePow]

/-! Windows. -/

theorem State.wins_setWin_self (s : State) (t k : Nat) (w : WinS) :
    ((s.setWin t k w).ten.ctx.get (fun _ => {}) t).wins.get (fun _ => {}) k = w := by
  have hctx : (s.setWin t k w).ten.ctx = s.ten.ctx.set (fun _ => {}) t
      { (if t = 0 then s.ten.ctx.get (fun _ => {}) 0 else s.ctx t) with
        wins := (if t = 0 then s.ten.ctx.get (fun _ => {}) 0 else s.ctx t).wins.set (fun _ => {}) k w } := rfl
  rw [hctx, Tbl.get_set_self, Tbl.get_set_self]

/-- The window staged in the registers. -/
def State.stagedWin (s : State) : WinS :=
  { base := s.g TEN_WINBASELO * 4096 + 2 ^ 32 * s.g TEN_WINBASEHI, len := s.g TEN_WINLEN, r := s.on TEN_WINATTR_R, w := s.on TEN_WINATTR_W }

section
variable {t k : Nat} (ht : t < 1024) (hk : k < 8)
include ht hk

theorem winWord_index {b : Nat} (hb : b = 29 ∨ b = 30 ∨ b = 31) :
    wbits (Word.ofNat (2 ^ b + 65536 * k + t)) 9 0 = t ∧ wbits (Word.ofNat (2 ^ b + 65536 * k + t)) 18 16 = k := by
  have hx : 65536 * k + t < 2 ^ 29 := by omega
  rw [Nat.add_assoc]
  obtain ⟨h1, h2⟩ := nbits_pair (n := 3) ht hk
  exact ⟨(indexWord_wbits hx hb (by decide) (by decide)).trans h1, (indexWord_wbits hx hb (by decide) (by decide)).trans h2⟩

theorem State.winIdxWrite_commit (s : State) (hok : s.winFailsWr t k s.stagedWin = none) :
    s.winIdxWrite (Word.ofNat (2 ^ 31 + 65536 * k + t)) = s.setWin t k s.stagedWin := by
  obtain ⟨h31, h30, h29⟩ := indexWord_31 (x := 65536 * k + t) (by omega)
  rw [← Nat.add_assoc] at h31 h30 h29
  obtain ⟨h1, h2⟩ := winWord_index ht hk (b := 31) (by decide)
  rw [State.stagedWin] at hok ⊢
  simp [State.winIdxWrite, h1, h2, h31, h30, h29, hok, -Nat.reducePow]

theorem State.winIdxWrite_read (s : State) : s.winIdxWrite (Word.ofNat (2 ^ 30 + 65536 * k + t)) =
    (((((s.f TEN_WINBASELO (lo32 (s.win t k).base / 4096)).f TEN_WINBASEHI (hi32 (s.win t k).base)).f TEN_WINLEN (s.win t k).len).f
      TEN_WINATTR_R (b2n (s.win t k).r)).f TEN_WINATTR_W (b2n (s.win t k).w)).f TEN_WINATTR_DEFINED (b2n ((s.win t k).len != 0)) := by
  obtain ⟨h31, h30, h29⟩ := indexWord_30 (x := 65536 * k + t) (by omega)
  rw [← Nat.add_assoc] at h31 h30 h29
  obtain ⟨h1, h2⟩ := winWord_index ht hk (b := 30) (by decide)
  simp only [State.winIdxWrite, h1, h2, h31, h30, h29]
  rfl

theorem State.winIdxWrite_clr (s : State) (hfree : (s.win t k).len = 0 ∨ s.windowUsed t (s.win t k) = false) :
    s.winIdxWrite (Word.ofNat (2 ^ 29 + 65536 * k + t)) = s.setWin t k {} := by
  obtain ⟨h31, h30, h29⟩ := indexWord_29 (x := 65536 * k + t) (by omega)
  rw [← Nat.add_assoc] at h31 h30 h29
  obtain ⟨h1, h2⟩ := winWord_index ht hk (b := 29) (by decide)
  have hused : ¬((s.win t k).len ≠ 0 ∧ s.windowUsed t (s.win t k) = true) := by rcases hfree with h | h <;> simp [h]
  simp only [State.winIdxWrite, h1, h2, h31, h30, h29, if_neg hused]
  simp

end

/-! Rings. -/

section
variable {t k : Nat} (ht : t < 1024) (hk : k < 3)
include ht hk

theorem ringWord_index {b : Nat} (hb : b = 29 ∨ b = 30 ∨ b = 31) :
    wbits (Word.ofNat (2 ^ b + 65536 * k + t)) 9 0 = t ∧ wbits (Word.ofNat (2 ^ b + 65536 * k + t)) 17 16 = k := by
  have hx : 65536 * k + t < 2 ^ 29 := by omega
  rw [Nat.add_assoc]
  obtain ⟨h1, h2⟩ := nbits_pair (k := k) (n := 2) ht (by omega)
  exact ⟨(indexWord_wbits hx hb (by decide) (by decide)).trans h1, (indexWord_wbits hx hb (by decide) (by decide)).trans h2⟩

theorem State.rngIdxWrite_setup (s : State) (hok : s.setupBad t k true = none) :
    s.rngIdxWrite (Word.ofNat (2 ^ 31 + 65536 * k + t)) = s.ringGo t k := by
  obtain ⟨h31, h30, h29⟩ := indexWord_31 (x := 65536 * k + t) (by omega)
  rw [← Nat.add_assoc] at h31 h30 h29
  obtain ⟨h1, h2⟩ := ringWord_index ht hk (b := 31) (by decide)
  simp [State.rngIdxWrite, h1, h2, h31, h30, h29, hok, -Nat.reducePow]

theorem State.rngIdxWrite_read (s : State) : s.rngIdxWrite (Word.ofNat (2 ^ 30 + 65536 * k + t)) = s.ringLoad t k := by
  obtain ⟨h31, h30, h29⟩ := indexWord_30 (x := 65536 * k + t) (by omega)
  rw [← Nat.add_assoc] at h31 h30 h29
  obtain ⟨h1, h2⟩ := ringWord_index ht hk (b := 30) (by decide)
  simp [State.rngIdxWrite, h1, h2, h31, h30, h29, -Nat.reducePow]

theorem State.rngIdxWrite_stop (s : State) (hok : s.setupBad t k false = none) :
    s.rngIdxWrite (Word.ofNat (2 ^ 29 + 65536 * k + t)) = s.ringHalt t k := by
  obtain ⟨h31, h30, h29⟩ := indexWord_29 (x := 65536 * k + t) (by omega)
  rw [← Nat.add_assoc] at h31 h30 h29
  obtain ⟨h1, h2⟩ := ringWord_index ht hk (b := 29) (by decide)
  simp [State.rngIdxWrite, h1, h2, h31, h30, h29, hok, -Nat.reducePow]

end

@[simp] theorem TRingS.ringOf_setRing (r : TRingS) (k : Nat) (x : RingS) : (r.setRing k x).ringOf k = x := by
  unfold TRingS.ringOf TRingS.setRing
  split_ifs <;> rfl

/-- What a ring was set up with. -/
def RingS.setup (r : RingS) : Nat × Nat × Nat := (r.state, r.base, r.ord)

@[simp] theorem RingS.next_setup (r : RingS) : r.next.setup = r.setup := by
  unfold RingS.next
  split <;> rfl

theorem State.writeCpl_setup (s : State) (t : Nat) : ((s.writeCpl t).tr t).cpl.setup = (s.tr t).cpl.setup := by
  unfold State.writeCpl
  split
  · rfl
  · have hdma : ∀ (u : State) a b, (u.dmaWrite a b).tr t = u.tr t := fun _ _ _ => rfl
    simp [hdma]

theorem State.writeEv_setup (s : State) (t : Nat) : ((s.writeEv t).tr t).evt.setup = (s.tr t).evt.setup := by
  unfold State.writeEv
  split
  · rfl
  · have hdma : ∀ (u : State) a b, (u.dmaWrite a b).tr t = u.tr t := fun _ _ _ => rfl
    have hsrc : ∀ (u : State) n r, (u.setSrc n r).tr t = u.tr t := fun _ _ _ => rfl
    dsimp only
    split <;> simp [hdma, hsrc]

/-- A ring set up runs at the base and with the order staged. -/
theorem State.ringGo_setup (s : State) (t : Nat) {k : Nat} (hk : k < 3) : (((s.ringGo t k).tr t).ringOf k).setup =
    (rsRUNNING, join32 (s.g RNG_BASELO * 4096) (s.g RNG_BASEHI), s.g RNG_ORD) := by
  match k, hk with
  | 0, _ => simp [State.ringGo, TRingS.ringOf, TRingS.setRing, RingS.setup]
  | 1, _ =>
    simp only [State.ringGo, TRingS.ringOf, if_true, if_false, Nat.one_ne_zero, State.writeCpl_setup]
    simp [TRingS.setRing, RingS.setup]
  | 2, _ =>
    simp only [State.ringGo, TRingS.ringOf, if_true, if_false, OfNat.ofNat_ne_zero, OfNat.ofNat_ne_one, State.writeEv_setup]
    simp [TRingS.setRing, RingS.setup]

/-- A ring stopped waits for its commands, if it is the command ring and has any. -/
theorem State.ringHalt_state (s : State) (t : Nat) {k : Nat} (hk : k < 3) : (((s.ringHalt t k).tr t).ringOf k).state =
    if k = 0 ∧ (s.tr t).cmds ≠ [] then rsSTOPPING else rsSTOPPED := by
  match k, hk with
  | 0, _ => simp [State.ringHalt, TRingS.ringOf, TRingS.setRing]
  | 1, _ => simp [State.ringHalt, TRingS.ringOf, TRingS.setRing]
  | 2, _ => simp [State.ringHalt, TRingS.ringOf, TRingS.setRing]

/-! Interrupt sources. -/

/-- What a source was configured with. -/
def SrcS.config (r : SrcS) : Bool × Nat × Nat := (r.en, r.prio, r.tgt)

theorem State.src_setSrc (s : State) (n : Nat) (r : SrcS) (m : Nat) : (s.setSrc n r).src m = if m = n then r else s.src m := by
  split
  · next h => rw [h, State.src_setSrc_self]
  · next h => exact State.src_setSrc_ne s r h

/-- A change of a source that keeps its configuration keeps that of every source. -/
theorem State.config_setSrc (s : State) {n : Nat} {r : SrcS} (h : r.config = (s.src n).config) (m : Nat) :
    ((s.setSrc n r).src m).config = (s.src m).config := by
  rw [State.src_setSrc]
  split
  · next e => rw [h, e]
  · rfl

theorem State.settleSrc_config (s : State) (n m : Nat) : ((s.settleSrc n).src m).config = (s.src m).config := by
  have hinc : ∀ u : State, ((u.inc ICU_BYPASS).src m) = u.src m := fun _ => rfl
  unfold State.settleSrc
  dsimp only
  split
  · split
    · exact State.config_setSrc _ (by rfl) m
    · split
      · split
        · exact State.config_setSrc _ (by rfl) m
        · rw [hinc]
          exact State.config_setSrc _ (by rfl) m
      · exact State.config_setSrc _ (by rfl) m
  · exact State.config_setSrc _ (by rfl) m

theorem State.announce_src (again : Bool) (s : State) (k m : Nat) : (s.announce again k).src m = s.src m := by
  unfold State.announce
  split
  · rfl
  · split
    · rfl
    · split
      · unfold State.sendMsix
        dsimp only
        split <;> rfl
      · rfl

/-- The settling of the controller routes sources and keeps what they were configured with. -/
theorem State.settle_config (s : State) (m : Nat) : (s.settle.src m).config = (s.src m).config := by
  have hsrc : ∀ (l : List Nat) (u : State), ((l.foldl State.settleSrc u).src m).config = (u.src m).config := fun l => by
    induction l with
    | nil => exact fun _ => rfl
    | cons n l ih => exact fun u => (ih _).trans (State.settleSrc_config u n m)
  have hann : ∀ (l : List Nat) (u : State), ((l.foldl (State.announce false) u).src m) = u.src m := fun l => by
    induction l with
    | nil => exact fun _ => rfl
    | cons n l ih => exact fun u => (ih _).trans (State.announce_src false u n m)
  unfold State.settle
  split
  · rfl
  · have hsts : ∀ u : State, u.icuSts.src m = u.src m := fun _ => rfl
    dsimp only
    rw [hsts, hann, hsrc]

theorem sourceWord_index {n b : Nat} (hn : n < 4144) (hb : b = 29 ∨ b = 30 ∨ b = 31) : wbits (Word.ofNat (2 ^ b + n)) 12 0 = n :=
  (indexWord_wbits (by omega) hb (by decide) (by decide)).trans (nbits_of_lt (by omega))

theorem State.srcIdxWrite_commit (s : State) {n : Nat} (hn : n < 4144) : s.srcIdxWrite (Word.ofNat (2 ^ 31 + n)) = s.srcCommit n := by
  obtain ⟨h31, h30, -⟩ := indexWord_31 (x := n) (by omega)
  simp [State.srcIdxWrite, sourceWord_index hn, h31, h30, -Nat.reducePow]

theorem State.srcIdxWrite_read (s : State) {n : Nat} (hn : n < 4144) : s.srcIdxWrite (Word.ofNat (2 ^ 30 + n)) = s.srcLoad n := by
  obtain ⟨h31, h30, -⟩ := indexWord_30 (x := n) (by omega)
  simp [State.srcIdxWrite, sourceWord_index hn, h31, h30, -Nat.reducePow]

/-- A source committed without EN takes what is staged. -/
theorem State.srcCommit_config (s : State) {n : Nat} (hn : n < 4144) (hen : s.on ICU_SRCCFG_EN = false) (htime : s.g ICU_SRCTIME ≠ 0) :
    ((s.srcCommit n).src n).config = (false, s.g ICU_SRCCFG_PRIO, s.g ICU_SRCTGT) := by
  have hgood : ¬(4144 ≤ n ∨ (false = true ∧ (s.g ICU_SRCCFG_PRIO = 0 ∨ s.g ICU_SRCTGT = 0)) ∨ s.g ICU_SRCTIME = 0) := by
    simp [htime, hn]
  unfold State.srcCommit
  dsimp only
  rw [hen, if_neg hgood, State.settle_config, State.src_setSrc_self]
  rfl

/-- A flag reads back as it was written. -/
theorem State.on_f_self (s : State) {f : Fld} (h : f.fits) (b : Bool) : (s.f f (b2n b)).on f = b := by
  have hpos : 1 < 2 ^ (f.hi + 1 - f.lo) := Nat.one_lt_two_pow (by have := h.1; omega)
  have hb : b2n b < 2 ^ (f.hi + 1 - f.lo) := by
    cases b
    · exact Nat.two_pow_pos _
    · exact hpos
  rw [State.on, State.g_f_lt s h hb]
  cases b <;> rfl

theorem State.on_f_apart (s : State) {f g : Fld} (hf : f.fits) (v : Nat) (h : g.apart f) : (s.f f v).on g = s.on g := by
  rw [State.on, State.on, State.g_f_apart s hf v h]

/-- The directory entry of a position, or zeros. -/
theorem State.dirIdxWrite_eq (s : State) (p : Nat) : s.dirIdxWrite p = s.loadWords ROL_DIRD 8 (((s.dirEnt p).map DirS.bytes).getD []) := by
  unfold State.dirIdxWrite
  cases s.dirEnt p <;> rfl

theorem State.rcgSts_mtab (s : State) (r : RcgS) (n : Nat) : ({ s with rcg := r } : State).rcgSts.mtab n = r.tables.get (fun _ => []) n := rfl

/-- A table committed leaves no reason of a failure. -/
theorem State.machineCommit_g (s : State) (r : RcgS) :
    ({ (s.f RCG_MTRSN 0).f RCG_MTOFS 0 with rcg := r } : State).rcgSts.g RCG_MTRSN = 0 := by
  have hrcg : ({ (s.f RCG_MTRSN 0).f RCG_MTOFS 0 with rcg := r } : State).g RCG_MTRSN = ((s.f RCG_MTRSN 0).f RCG_MTOFS 0).g RCG_MTRSN := rfl
  unfold State.rcgSts
  dsimp only
  simp (disch := decide) only [State.g_f_apart, hrcg, State.g_f_self, Nat.zero_mod]

theorem State.ringLoad_eq (s : State) (t k : Nat) : s.ringLoad t k = { s with regs := (s.ringLoad t k).regs } := by
  unfold State.ringLoad
  repeat' apply regsOnly_f
  rfl

theorem State.srcLoad_eq (s : State) (n : Nat) : s.srcLoad n = { s with regs := (s.srcLoad n).regs } := by
  unfold State.srcLoad
  repeat' apply regsOnly_f
  rfl

/-- What the registers show of a ring loaded. -/
theorem State.ringLoad_g (s : State) (t k : Nat) : (s.ringLoad t k).g RNG_STS = ((s.tr t).ringOf k).state % 8 ∧
    (s.ringLoad t k).g RNG_PTR_HUB = ((s.tr t).ringOf k).hub % 65536 ∧ (s.ringLoad t k).g RNG_PTR_HOST = ((s.tr t).ringOf k).host % 65536 := by
  unfold State.ringLoad
  refine ⟨?_, ?_, ?_⟩
  · rw [State.g_f_apart _ (by decide) _ (by decide), State.g_f_apart _ (by decide) _ (by decide)]
    exact State.g_f_self _ (by decide) _
  · rw [State.g_f_apart _ (by decide) _ (by decide)]
    exact State.g_f_self _ (by decide) _
  · exact State.g_f_self _ (by decide) _

/-- What the registers show of a source loaded. -/
theorem State.srcLoad_g (s : State) (n : Nat) : (s.srcLoad n).on ICU_SRCCFG_EN = (s.src n).en ∧
    (s.srcLoad n).g ICU_SRCTGT = (s.src n).tgt % 2 ^ 32 ∧ (s.srcLoad n).on ICU_SRCSTS_FORCED = (s.src n).force := by
  unfold State.srcLoad
  dsimp only
  refine ⟨?_, ?_, ?_⟩
  · simp (disch := decide) only [State.on_f_apart, State.on_f_self]
  · simp (disch := decide) only [State.g_f_apart, State.g_f_self]
  · simp (disch := decide) only [State.on_f_apart, State.on_f_self]

/-- Settles O23. -/
theorem hubTablesIndex : Obligations.HubTablesIndex := by
  refine ⟨?_, ?_, ?_, ?_, ?_, ?_, ?_, ?_, ?_, ?_, ?_, ?_, ?_, ?_, ?_, ?_⟩
  case _ =>
    intro s e he h hok
    refine completes rfl ((State.barWrite_accepted h (by decide) 0 0 _).trans (State.eptIdxWrite_commit _ he hok)) ⟨?_, fun m hm => ?_⟩
    · rw [State.putRec_ep, if_pos rfl]
    · rw [State.putRec_ep, if_neg hm]
  case _ =>
    intro s e he h
    refine completes rfl ((State.barWrite_accepted h (by decide) 0 0 _).trans (State.eptIdxWrite_read _ he)) ⟨fun k hk => ?_, ?_⟩
    · exact State.loadWords_g (fun k => by simp [Fld.fits]) (fun k => rfl) (fun j k h => .inl (by simpa using h)) _ hk _
    · exact State.foldl_eq_regs (fun _ _ => rfl) _ _
  case _ =>
    intro s e he h hsrc hfree
    refine completes rfl ((State.barWrite_accepted h (by decide) 0 0 _).trans (State.eptIdxWrite_release _ he hsrc hfree))
      ⟨fun x hx => ?_, fun x hx => ?_⟩
    · rw [State.release_ep, if_pos hx]
    · rw [State.release_ep, if_neg hx]
  case _ =>
    intro s n hn h hfree hok
    refine completes rfl ((State.barWrite_accepted h (by decide) 0 0 _).trans (State.mtCtlWrite_commit _ hn hfree hok)) ⟨?_, fun m hm => ?_, ?_⟩
    · rw [State.rcgSts_mtab, Tbl.get_set_self]
    · rw [State.rcgSts_mtab, Tbl.get_set_ne _ _ hm]
      rfl
    · exact State.machineCommit_g _ _
  case _ =>
    intro s n hn h
    refine completes rfl ((State.barWrite_accepted h (by decide) 0 0 _).trans (State.mtCtlWrite_read _ hn)) ⟨?_, ?_⟩
    · rw [State.on_f_apart _ (by decide) _ (by decide), State.on_f_self _ (by decide)]
    · exact regsOnly_f (regsOnly_f (State.loadWords_eq _ _ _ _) _ _) _ _
  case _ =>
    intro s n hn h hfree
    refine completes rfl ((State.barWrite_accepted h (by decide) 0 0 _).trans (State.mtCtlWrite_release _ hn hfree)) ⟨?_, fun m hm => ?_⟩
    · exact Tbl.get_set_self _ _ _ _
    · exact Tbl.get_set_ne _ _ hm _
  case _ =>
    rintro s t k w ht hk h rfl hok
    exact completes rfl ((State.barWrite_accepted h (by decide) 0 0 _).trans (State.winIdxWrite_commit ht hk _ hok)) (State.wins_setWin_self _ _ _ _)
  case _ =>
    intro s t k ht hk h
    refine completes rfl ((State.barWrite_accepted h (by decide) 0 0 _).trans (State.winIdxWrite_read ht hk _)) ⟨?_, ?_, ?_, ?_⟩
    · simp (disch := decide) only [State.on_f_apart, State.on_f_self]
    · simp (disch := decide) only [State.on_f_apart, State.on_f_self]
    · simp (disch := decide) only [State.g_f_apart, State.g_f_self]
    · repeat' apply regsOnly_f
      rfl
  case _ =>
    intro s t k ht hk h hfree
    exact completes rfl ((State.barWrite_accepted h (by decide) 0 0 _).trans (State.winIdxWrite_clr ht hk _ hfree)) (State.wins_setWin_self _ _ _ _)
  case _ =>
    intro s t k ht hk h hok
    refine completes rfl ((State.barWrite_accepted h (by decide) 0 0 _).trans (State.rngIdxWrite_setup ht hk _ hok)) ?_
    have hset := State.ringGo_setup s.awake t hk
    simpa only [RingS.setup, Prod.mk.injEq] using hset
  case _ =>
    intro s t k ht hk h
    refine completes rfl ((State.barWrite_accepted h (by decide) 0 0 _).trans (State.rngIdxWrite_read ht hk _)) ⟨?_, ?_, ?_, State.ringLoad_eq _ _ _⟩
    · exact (State.ringLoad_g _ t k).1
    · exact (State.ringLoad_g _ t k).2.1
    · exact (State.ringLoad_g _ t k).2.2
  case _ =>
    intro s t k ht hk h hok
    exact completes rfl ((State.barWrite_accepted h (by decide) 0 0 _).trans (State.rngIdxWrite_stop ht hk _ hok)) (State.ringHalt_state _ _ hk)
  case _ =>
    intro s n hn h hen htime
    refine completes rfl ((State.barWrite_accepted h (by decide) 0 0 _).trans (State.srcIdxWrite_commit _ hn)) ?_
    have hconf := State.srcCommit_config s.awake hn hen htime
    simpa only [SrcS.config, Prod.mk.injEq] using hconf
  case _ =>
    intro s n hn h
    refine completes rfl ((State.barWrite_accepted h (by decide) 0 0 _).trans (State.srcIdxWrite_read _ hn)) ⟨?_, ?_, ?_, State.srcLoad_eq _ _⟩
    · exact (State.srcLoad_g _ n).1
    · exact (State.srcLoad_g _ n).2.1
    · exact (State.srcLoad_g _ n).2.2
  case _ =>
    intro s p hp h
    have hload : ∀ k < 8, (s.awake.dirIdxWrite p).g (ROL_DIRD k) = leAt (((s.awake.dirEnt p).map DirS.bytes).getD []) (4 * k) 4 := fun k hk => by
      rw [State.dirIdxWrite_eq]
      exact State.loadWords_g (fun k => by simp [Fld.fits]) (fun k => rfl) (fun j k h => .inl (by simpa using h)) _ hk _
    rw [← Nat.mod_eq_of_lt hp] at h
    refine completes rfl (State.barWrite_accepted h (by decide) 0 0 _) ⟨fun e he k hk => ?_, fun he k hk => ?_, ?_⟩
    · rw [hload k hk, he]
      rfl
    · rw [hload k hk, he]
      simp [leAt, le]
    · rw [State.dirIdxWrite_eq]
      exact State.loadWords_eq _ _ _ _
  case _ =>
    intro s n hn h
    refine completes rfl (State.barWrite_accepted h (by decide) 0 0 _) ⟨?_, rfl⟩
    refine (State.g_f_self _ (by decide) _).trans ?_
    split <;> rfl

end Sys2Proof.Machine
end

section
/-! Time exchanges and the servo's timers (obligations O24 and O25). -/
set_option Elab.async false
namespace Sys2Proof.Machine

/-! A REQ is answered in a codeword. -/

/-- The flits that port 0 has gathered for its next codeword. -/
def State.gathered (s : State) : Nat := (s.bnd.ports.get (fun _ => {}) 0).code.length

/-- Refutes O25: the answer to a REQ joins the codeword that its port gathers, so more changes than what is sent. -/
theorem not_timeExchangesComplete : ¬ Obligations.TimeExchangesComplete := by
  rintro ⟨hreq, -⟩
  obtain ⟨t, hexec, x, ht, -⟩ := hreq State.reset 0 [1] 0 (by decide)
  have hone : t.gathered = 1 := by
    rw [← Host.Outcome.next.inj hexec]
    decide +kernel
  have hnone : t.gathered = State.reset.gathered := by
    rw [ht]
    rfl
  exact absurd (hone.symm.trans hnone) (by decide +kernel)

/-! The servo's timers. -/

@[simp] theorem State.sendLocal_srv (s : State) (p : Nat) (cls : Nat) (payload : List Nat) : (s.sendLocal p cls payload).srv = s.srv := part_eq (State.sendLocal_same s p cls payload (.refl 8388640) (.refl 8388640 s)).srv (by decide)
@[simp] theorem State.setCtState_time (s : State) (st : Nat) : (s.setCtState st).time = s.time := part_eq (State.setCtState_same s st (.refl 674) (.refl 674 s)).time (by decide)

/-- A field is read in the register map alone. -/
theorem State.g_of_regs {s t : State} (h : t.regs = s.regs) (f : Fld) : t.g f = s.g f := by
  unfold State.g State.rd
  rw [h]

theorem State.g64_of_regs {s t : State} (h : t.regs = s.regs) (lo hi : Fld) : t.g64 lo hi = s.g64 lo hi := by
  rw [State.g64, State.g64, State.g_of_regs h, State.g_of_regs h]

/-- Two words written to a pair of registers read back as the number they make. -/
theorem State.g64_f64 (s : State) {lo hi : Fld} (hlo : lo.fits) (hhi : hi.fits) (hl : lo.hi + 1 - lo.lo = 32) (hh : hi.hi + 1 - hi.lo = 32)
    (h : lo.apart hi) (v : Nat) : (s.f64 lo hi v).g64 lo hi = v % 2 ^ 64 := by
  rw [State.g64, State.f64, State.g_f_self _ hhi, State.g_f_apart _ hhi _ h, State.g_f_self _ hlo, hl, hh, join32, lo32, hi32]
  omega

theorem State.ct_lt (s : State) : s.ct < 2 ^ 64 := Nat.mod_lt _ (Nat.two_pow_pos _)

/-- A servo state entered is the state shown. -/
theorem State.setCtState_state (s : State) {st : Nat} (hst : st < 8) : (s.setCtState st).g TIM_CTSTS_STATE = st := by
  have hself : ∀ u : State, (u.f TIM_CTSTS_STATE st).g TIM_CTSTS_STATE = st := fun u => State.g_f_lt u (by decide) hst
  have hsrv : ∀ (u : State) (r : SrvS), ({ u with srv := r } : State).g TIM_CTSTS_STATE = u.g TIM_CTSTS_STATE := fun _ _ => rfl
  unfold State.setCtState
  dsimp only
  split
  · assumption
  · split_ifs <;> simp (disch := decide) only [State.raiseHub_g, State.g_f_apart, hself, hsrv]

/-- Entering a servo state writes no field but the state and UTC_VALID. -/
theorem State.setCtState_g (s : State) (st : Nat) {f : Fld} (hf : Loud f.off) (hst : f.apart TIM_CTSTS_STATE) (hutc : f.apart TIM_CTSTS_UTC_VALID) :
    (s.setCtState st).g f = s.g f := by
  have hstate : ∀ (u : State) v, (u.f TIM_CTSTS_STATE v).g f = u.g f := fun u v => State.g_f_apart u (by decide) v hst
  have hvalid : ∀ (u : State) v, (u.f TIM_CTSTS_UTC_VALID v).g f = u.g f := fun u v => State.g_f_apart u (by decide) v hutc
  have hsrv : ∀ (u : State) (r : SrvS), ({ u with srv := r } : State).g f = u.g f := fun _ _ => rfl
  unfold State.setCtState
  dsimp only
  split_ifs <;> simp only [State.raiseHub_g _ _ hf, hvalid, hsrv, hstate]

/-- Leaving LOCKED ends UTC. -/
theorem State.setCtState_utc (s : State) {st : Nat} (hold : s.g TIM_CTSTS_STATE = ctLOCKED) (hst : st ≠ ctLOCKED) :
    (s.setCtState st).g TIM_CTSTS_UTC_VALID = 0 := by
  have hself : ∀ u : State, (u.f TIM_CTSTS_UTC_VALID 0).g TIM_CTSTS_UTC_VALID = 0 := fun u => State.g_f_self u (by decide) 0
  unfold State.setCtState
  dsimp only
  rw [if_neg (hold ▸ hst.symm), if_pos hold, if_pos (.inl hold), State.raiseHub_g _ _ (by decide), hself]

theorem State.setCtState_t1 (s : State) (st : Nat) : (s.setCtState st).srv.t1 = s.srv.t1 := by
  unfold State.setCtState
  dsimp only
  split_ifs <;> simp

/-- The increment frozen at the mean of those applied (R37). -/
def State.frozen (s : State) : State :=
  match s.srv.incs with
  | [] => s
  | l => s.f64 TIM_CTINCLO TIM_CTINCHI (mean l)

/-- The servo as a lost upstream leaves it. -/
def State.lost (s : State) : State :=
  ({ s.frozen with srv := { s.frozen.srv with lockRun := 0, badRun := 0, t1 := none } } : State).f TIM_CTSTS_TRACKING 0

theorem State.enterHoldover_eq (s : State) : s.enterHoldover = s.lost.setCtState ctHOLDOVER := rfl

theorem State.frozen_nil {s : State} (h : s.srv.incs = []) : s.frozen = s := by
  unfold State.frozen
  rw [h]

theorem State.frozen_cons {s : State} (h : s.srv.incs ≠ []) : s.frozen = s.f64 TIM_CTINCLO TIM_CTINCHI (mean s.srv.incs) := by
  unfold State.frozen
  split
  · contradiction
  · rfl

theorem State.frozen_time (s : State) : s.frozen.time = s.time := by
  unfold State.frozen
  split <;> rfl

theorem State.frozen_g (s : State) {f : Fld} (hlo : f.apart TIM_CTINCLO) (hhi : f.apart TIM_CTINCHI) : s.frozen.g f = s.g f := by
  unfold State.frozen
  split
  · rfl
  · rw [State.f64, State.g_f_apart _ (by decide) _ hhi, State.g_f_apart _ (by decide) _ hlo]

theorem State.lost_g (s : State) {f : Fld} (h : f.apart TIM_CTSTS_TRACKING) : s.lost.g f = s.frozen.g f :=
  State.g_f_apart _ (by decide) _ h

theorem State.enterHoldover_incr (s : State) : s.enterHoldover.incr = s.frozen.incr := by
  rw [State.enterHoldover_eq, State.incr, State.incr, State.g64, State.g64, State.setCtState_g _ _ (by decide) (by decide) (by decide),
    State.setCtState_g _ _ (by decide) (by decide) (by decide), State.lost_g _ (by decide), State.lost_g _ (by decide)]

/-- What a lost upstream does to a servo that follows or seeks one. -/
theorem State.loseUpstream_eq {s : State} (h : s.g TIM_CTSTS_STATE = ctLOCKED ∨ s.g TIM_CTSTS_STATE = ctACQUIRING ∨ s.g TIM_CTSTS_STATE = ctUNSET) :
    s.loseUpstream = s.lost.setCtState ctHOLDOVER := if_pos h

/-! A missing edge. -/

theorem State.rejectSync_srv (s : State) : s.rejectSync.srv =
    { s.srv with expected := some (s.srv.expected.getD 0 + s.syncPeriod), rejRun := min (s.srv.rejRun + 1) 4 } := by
  unfold State.rejectSync
  dsimp only
  split <;> simp

theorem State.rejectSync_rej (s : State) : s.rejectSync.g TIM_SYNCREJ = min (s.g TIM_SYNCREJ + 1) (2 ^ 32 - 1) := by
  unfold State.rejectSync
  dsimp only
  rw [State.raiseHub_g _ _ (by decide)]
  split
  · rw [State.g_f_apart _ (by decide) _ (by decide), State.g_inc_self _ (by decide)]
    rfl
  · rw [State.g_inc_self _ (by decide)]
    rfl

/-- The fourth rejected edge in a row ends discipline (R46). -/
theorem State.rejectSync_disciplined (s : State) :
    s.rejectSync.g TIM_CTSTS_DISCIPLINED = if 3 ≤ s.srv.rejRun then 0 else s.g TIM_CTSTS_DISCIPLINED := by
  have hinc : ∀ u : State, (u.inc TIM_SYNCREJ).g TIM_CTSTS_DISCIPLINED = u.g TIM_CTSTS_DISCIPLINED := fun u =>
    State.g_f_apart u (by decide) _ (by decide)
  unfold State.rejectSync
  dsimp only
  rw [State.raiseHub_g _ _ (by decide)]
  by_cases h : 3 ≤ s.srv.rejRun
  · rw [if_pos h, if_pos (by omega), State.g_f_self _ (by decide)]
    rfl
  · rw [if_neg h, if_neg (by omega), hinc]
    rfl

/-- Settles O24. -/
theorem timeServiceCompletes : Obligations.TimeServiceCompletes := by
  refine ⟨fun s h => ?capture, fun s hup hcore hhk hdue => ?start, fun s a e ht1 hdue hlt => ?missing, fun s hdue hst => ?hold, fun s hdue hst => ?held,
    fun s e hexp hst hen hdisc hdue => ?edge, fun s hst hoff hdue => ?discHold, fun s hmode hmul hnew hcore => ?pulse, fun s e hend hdue => ?pulseEnd⟩
  case capture =>
    refine completes rfl (if_neg (by simp [h])) ⟨?_, ?_, fun o hlo hhi => ?_, rfl⟩
    · refine (State.g64_of_regs (s := s.f64 TIM_CTLO TIM_CTHI s.ct) (by rfl) _ _).trans ?_
      rw [State.g64_f64 s (by decide) (by decide) rfl rfl (by decide), Nat.mod_eq_of_lt s.ct_lt]
    · refine (State.g_f_apart _ (f := TIM_CTHI) (g := TIM_CTLO) (by decide) _ (by decide)).trans ?_
      rw [State.g_f_self _ (by decide)]
      exact Nat.mod_mod _ _
    · exact (State.rd_f_ne _ _ hhi).trans (State.rd_f_ne _ _ hlo)
  case start =>
    refine completes rfl (if_pos (by simp [hup, hcore, hhk, hdue])) ⟨?_, ?_, ?_⟩
    · rw [State.sendLocal_srv]
    · rw [State.sendLocal_srv]
    · rw [State.sendLocal_srv]
      rfl
  case missing =>
    have heff : (match s.srv.t1 with
        | none => s
        | some (_, e1) => if e1 + 10000 < s.elapsed then ({ s with srv := { s.srv with t1 := none } } : State).timeBad (s.g TIM_CTSTS_UPPORT) else s) =
        ({ s with srv := { s.srv with t1 := none } } : State).timeBad (s.g TIM_CTSTS_UPPORT) := by
      rw [ht1]
      exact if_pos hdue
    refine completes rfl heff ⟨rfl, ?_, fun o ho => State.rd_f_ne _ _ ho, rfl⟩
    have hinc := State.g_inc_self s (f := BND_PTIMEBAD (s.g TIM_CTSTS_UPPORT)) (by simp [Fld.fits])
    exact Eq.trans hinc (Nat.min_eq_left hlt)
  case hold =>
    refine completes rfl ((if_pos hdue).trans (State.loseUpstream_eq hst)) ⟨?_, ?_, ?_, fun hincs => ?_, fun hincs => ?_, ?_, fun hlocked => ?_⟩
    · exact State.setCtState_state _ (by decide)
    · rw [State.setCtState_g _ _ (by decide) (by decide) (by decide)]
      exact State.g_f_self _ (by decide) _
    · exact State.setCtState_t1 _ _
    · rw [← State.enterHoldover_eq, State.enterHoldover_incr, State.frozen_cons hincs]
      exact State.g64_f64 s (by decide) (by decide) rfl rfl (by decide) _
    · rw [← State.enterHoldover_eq, State.enterHoldover_incr, State.frozen_nil hincs]
    · rw [State.setCtState_time]
      exact s.frozen_time
    · have hst : s.lost.g TIM_CTSTS_STATE = ctLOCKED := by
        rw [State.lost_g _ (by decide), State.frozen_g _ (by decide) (by decide), hlocked]
      rw [State.on, State.setCtState_utc _ hst (by decide)]
      rfl
  case held =>
    have hkeep : ¬(s.g TIM_CTSTS_STATE = ctLOCKED ∨ s.g TIM_CTSTS_STATE = ctACQUIRING ∨ s.g TIM_CTSTS_STATE = ctUNSET) := by
      rcases hst with h | h <;> rw [h] <;> decide
    exact congrArg Host.Outcome.next ((if_pos hdue).trans (if_neg hkeep))
  case edge =>
    have heff : (match s.srv.expected with
        | some e =>
          if s.g TIM_CTSTS_STATE = ctREFERENCE ∧ s.on TIM_SYNCCFG_DISC_EN ∧ s.on TIM_CTSTS_DISCIPLINED ∧ e + 1000 < s.ct then s.rejectSync else s
        | none => s) = s.rejectSync := by
      rw [hexp]
      exact if_pos ⟨hst, hen, hdisc, hdue⟩
    refine completes rfl heff ⟨?_, ?_, fun h => ?_, fun h => ?_⟩
    · rw [State.rejectSync_srv, hexp]
      rfl
    · exact State.rejectSync_rej s
    · rw [State.on, State.rejectSync_disciplined, if_pos h]
      rfl
    · rw [State.on, State.rejectSync_disciplined, if_neg (by omega)]
      exact hdisc
  case discHold =>
    have hcond : s.g TIM_CTSTS_STATE = ctREFERENCE ∧ (!(s.on TIM_CTSTS_DISCIPLINED && s.on TIM_SYNCCFG_DISC_EN)) = true ∧
        s.srv.lastAccept + 1000000000 * s.g TIM_SYNCCFG_DISC_HOLD ≤ s.elapsed := by
      rcases hoff with h | h <;> simp [h, hst, hdue]
    refine completes rfl (if_pos hcond) ⟨?_, fun f hf => State.g_f_apart _ (by decide) _ hf, rfl⟩
    exact State.on_f_self s (f := TIM_CTSTS_UTC_VALID) (by decide) false
  case pulse =>
    have hfresh : s.syncFresh s.ct = true := by
      unfold State.syncFresh
      split
      · next l hl => exact decide_eq_true (hnew l hl)
      · rfl
    exact completes rfl (if_pos ⟨hmode, hmul, hfresh, hcore⟩) ⟨rfl, rfl⟩
  case pulseEnd =>
    have heff : (match s.srv.pulseEnd with
        | some e => if e ≤ s.elapsed then ({ s with srv := { s.srv with syncPin := false, pulseEnd := none } } : State) else s
        | none => s) = { s with srv := { s.srv with syncPin := false, pulseEnd := none } } := by
      rw [hend]
      exact if_pos hdue
    exact completes rfl heff ⟨rfl, rfl⟩

end Sys2Proof.Machine
end

section
/-! What a stored word leaves in the fields of its register (R8). -/
set_option Elab.async false
namespace Sys2Proof.Machine

theorem wbits_wput_self (w : Word) {hi lo : Nat} (h : lo ≤ hi) (hh : hi < 32) (v : Nat) : wbits (wput w hi lo v) hi lo = v % 2 ^ (hi + 1 - lo) := by
  rw [wbits, wput, BitVec.toNat_ofNat, Nat.mod_eq_of_lt (nput_lt (by omega) w.isLt hh), nbits_nput_self (by omega)]

theorem wbits_wput_apart (w : Word) {hi lo h l : Nat} (hl : lo ≤ hi) (hh : hi < 32) (hd : h < lo ∨ hi < l) (v : Nat) :
    wbits (wput w hi lo v) h l = wbits w h l := by
  rw [wbits, wput, BitVec.toNat_ofNat, Nat.mod_eq_of_lt (nput_lt (by omega) w.isLt hh)]
  exact hd.elim (nbits_nput_below (by omega) v) (nbits_nput_above (by omega) v)

/-- What a written word leaves of one field. -/
def Fd.merge (f : Fd) (w v : Word) : Word :=
  match f.acc with
  | .rw => wput w f.hi f.lo (wbits v f.hi f.lo)
  | .rwl => wput w f.hi f.lo (wbits v f.hi f.lo)
  | .w1c => wput w f.hi f.lo (Nat.land (wbits w f.hi f.lo) (Nat.xor (wbits v f.hi f.lo) (2 ^ (f.hi + 1 - f.lo) - 1)))
  | .ro => w
  | .wo => w

theorem Reg.merge_eq (r : Reg) (w v : Word) : r.merge w v = r.fds.foldl (fun w f => f.merge w v) w := rfl

theorem Fd.merge_apart {f : Fd} (hf : f.lo ≤ f.hi ∧ f.hi < 32) {h l : Nat} (hd : h < f.lo ∨ f.hi < l) (w v : Word) :
    wbits (f.merge w v) h l = wbits w h l := by
  obtain ⟨hle, hlt⟩ := hf
  unfold Fd.merge
  split
  · exact wbits_wput_apart w hle hlt hd _
  · exact wbits_wput_apart w hle hlt hd _
  · exact wbits_wput_apart w hle hlt hd _
  · rfl
  · rfl

theorem Fd.merge_rw {f : Fd} (hf : f.lo ≤ f.hi ∧ f.hi < 32) (hacc : f.acc = .rw ∨ f.acc = .rwl) (w v : Word) :
    wbits (f.merge w v) f.hi f.lo = wbits v f.hi f.lo := by
  obtain ⟨hle, hlt⟩ := hf
  have hself : wbits (wput w f.hi f.lo (wbits v f.hi f.lo)) f.hi f.lo = wbits v f.hi f.lo := by
    rw [wbits_wput_self w hle hlt]
    exact Nat.mod_mod _ _
  unfold Fd.merge
  rcases hacc with h | h <;> simp only [h, hself]

/-- The fields of a register lie in its word and share no bit. -/
abbrev Reg.Tidy (r : Reg) : Prop := (∀ f ∈ r.fds, f.lo ≤ f.hi ∧ f.hi < 32) ∧ r.fds.Pairwise fun f g => f.hi < g.lo ∨ g.hi < f.lo

theorem wbits_foldl_merge_apart {fs : List Fd} (hf : ∀ f ∈ fs, f.lo ≤ f.hi ∧ f.hi < 32) {h l : Nat} (hd : ∀ f ∈ fs, h < f.lo ∨ f.hi < l)
    (w v : Word) : wbits (fs.foldl (fun w f => f.merge w v) w) h l = wbits w h l := by
  induction fs generalizing w with
  | nil => rfl
  | cons f fs ih =>
    obtain ⟨hf, hfs⟩ := List.forall_mem_cons.mp hf
    obtain ⟨hd, hds⟩ := List.forall_mem_cons.mp hd
    rw [List.foldl_cons, ih hfs hds, Fd.merge_apart hf hd]

/-- A field whose own writes give it a value has it when all fields are stored. -/
theorem wbits_foldl_merge {fs : List Fd} (hf : ∀ f ∈ fs, f.lo ≤ f.hi ∧ f.hi < 32) (hp : fs.Pairwise fun f g => f.hi < g.lo ∨ g.hi < f.lo)
    {f : Fd} (hmem : f ∈ fs) (hacc : f.acc = .rw ∨ f.acc = .rwl) (w v : Word) :
    wbits (fs.foldl (fun w f => f.merge w v) w) f.hi f.lo = wbits v f.hi f.lo := by
  induction fs generalizing w with
  | nil => cases hmem
  | cons g fs ih =>
    obtain ⟨hg, hfs⟩ := List.forall_mem_cons.mp hf
    obtain ⟨hd, hp⟩ := List.pairwise_cons.mp hp
    rcases List.mem_cons.mp hmem with rfl | hmem
    · rw [List.foldl_cons, wbits_foldl_merge_apart hfs hd, Fd.merge_rw hg hacc]
    · exact ih hfs hp hmem _

/-- A field that software writes takes its bits of the word. -/
theorem State.store_g {r : Reg} (hr : r.Tidy) {F : Fld} {i j : Nat} (hoff : F.off = r.at i j)
    (hmem : ∃ f ∈ r.fds, f.hi = F.hi ∧ f.lo = F.lo ∧ (f.acc = .rw ∨ f.acc = .rwl)) (s : State) (v : Word) :
    (s.store r i j v).g F = wbits v F.hi F.lo := by
  obtain ⟨hf, hp⟩ := hr
  obtain ⟨f, hmem, hhi, hlo, hacc⟩ := hmem
  rw [State.g, hoff, State.store, State.rd_wr_self, Reg.merge_eq, ← hhi, ← hlo]
  exact wbits_foldl_merge hf hp hmem hacc _ _

/-- A field of another register keeps its value. -/
theorem State.store_g_ne {r : Reg} {F : Fld} {i j : Nat} (h : F.off ≠ r.at i j) (s : State) (v : Word) : (s.store r i j v).g F = s.g F := by
  rw [State.g, State.g, State.store, State.rd_wr_ne _ _ h]

end Sys2Proof.Machine
end

section
/-! The timer units (obligation O26). -/
set_option Elab.async false
namespace Sys2Proof.Machine

/-! A unit's state is read from the table of units alone. -/

theorem State.tu_of_tus {s t : State} (h : t.tus = s.tus) (x : Nat) : t.tu x = s.tu x := by
  unfold State.tu
  rw [h]

@[simp] theorem State.f_tu (s : State) (f : Fld) (v x : Nat) : (s.f f v).tu x = s.tu x := rfl

@[simp] theorem State.f64_tu (s : State) (lo hi : Fld) (v x : Nat) : (s.f64 lo hi v).tu x = s.tu x := rfl

@[simp] theorem State.store_tu (s : State) (r : Reg) (i j : Nat) (v : Word) (x : Nat) : (s.store r i j v).tu x = s.tu x := rfl

@[simp] theorem State.inc_tu (s : State) (f : Fld) (x : Nat) : (s.inc f).tu x = s.tu x := rfl

@[simp] theorem State.raiseHub_tu (s : State) (h x : Nat) : (s.raiseHub h).tu x = s.tu x := State.tu_of_tus (s.raiseHub_tus h) x

@[simp] theorem State.event_tu (s : State) (p ct x : Nat) : (s.event p ct).tu x = s.tu x := State.tu_of_tus (s.event_tus p ct) x

/-! Switching a unit on and off. -/

theorem State.tuGo_on (s : State) (x : Nat) : (s.tuGo x).on (TIM_TUSTS_RUNNING x) = true :=
  State.on_f_self _ (f := TIM_TUSTS_RUNNING x) (by simp [Fld.fits]) true

theorem State.tuGo_tu (s : State) (x : Nat) : (s.tuGo x).tu x = { s.tu x with acc := 0, waiting := false } := by
  rw [State.tuGo, State.f_tu, State.tu_setTu_self]

/-- A word for TUxCTL that names a listed source and, of the pins, one the unit has. -/
abbrev TuWord (x : Nat) (v : Word) : Prop := tuSrcOk (wbits v 3 1) (wbits v 10 4) = true ∧ (x < 8 ∨ wbits v 15 14 = 0)

/-- What a listed word does once it is stored: its EN starts or stops the unit. -/
def State.tuSwitch (s : State) (x : Nat) (v : Word) (was : Bool) : State :=
  if wbit v 0 && !was then
    if wbit v 13 then
      if s.tuStart x < s.ct then (s.tuGo x).f (TIM_TUSTS_STARTLATE x) 1
      else if s.tuStart x = s.ct then s.tuGo x
      else s.setTu x { s.tu x with waiting := true }
    else s.tuGo x
  else if wbit v 0 then s
  else (s.setTu x { s.tu x with waiting := false }).f (TIM_TUSTS_RUNNING x) 0

theorem State.tuCtlWrite_eq {x : Nat} {v : Word} (h : TuWord x v) (s : State) :
    s.tuCtlWrite x v = (s.store rTIM_TUCTL x 0 v).tuSwitch x v (s.on (TIM_TUCTL_EN x)) := by
  obtain ⟨hsrc, hpin⟩ := h
  have hpin : (decide (8 ≤ x) && wbits v 15 14 != 0) = false := by
    rcases hpin with h | h
    · simp [Nat.not_le.mpr h]
    · simp [h]
  refine if_neg ?_
  rw [hsrc, hpin]
  decide

/-! The capture queues. -/

theorem State.capq_setCap_self (s : State) (x y : Nat) (q : List (Nat × Nat)) (held : Bool) :
    (s.setCap x y q held).capq x y = q ∧ (s.setCap x y q held).capHeld x y = held := by
  unfold State.setCap State.capq State.capHeld
  dsimp only
  by_cases hy : y = 0 <;> simp [hy]

/-- Setting one of a unit's two queues leaves the other, and the counter. -/
theorem State.setCap_ne (s : State) (x : Nat) {y z : Nat} (hy : y < 2) (hz : z < 2) (h : z ≠ y) (q : List (Nat × Nat)) (held : Bool) :
    (s.setCap x y q held).capq x z = s.capq x z := by
  unfold State.setCap State.capq
  dsimp only
  obtain ⟨rfl, rfl⟩ | ⟨rfl, rfl⟩ : (y = 0 ∧ z = 1) ∨ (y = 1 ∧ z = 0) := by omega
  · simp
  · simp

theorem State.setCap_cnt (s : State) (x y : Nat) (q : List (Nat × Nat)) (held : Bool) : ((s.setCap x y q held).tu x).cnt = (s.tu x).cnt := by
  unfold State.setCap
  dsimp only
  by_cases hy : y = 0 <;> simp [hy]

/-! Captures of an edge. -/

@[simp] theorem State.tickUnits_regs (s : State) (src : Nat) (sel : Nat) (fall : Bool) : (s.tickUnits src sel fall).regs = s.regs := part_eq (State.tickUnits_same s src sel fall (.refl 256) (.refl 256 s)).regs (by decide)
@[simp] theorem State.tickUnits_time (s : State) (src : Nat) (sel : Nat) (fall : Bool) : (s.tickUnits src sel fall).time = s.time := part_eq (State.tickUnits_same s src sel fall (.refl 256) (.refl 256 s)).time (by decide)
@[simp] theorem State.tickUnits_sys (s : State) (src : Nat) (sel : Nat) (fall : Bool) : (s.tickUnits src sel fall).sys = s.sys := part_eq (State.tickUnits_same s src sel fall (.refl 256) (.refl 256 s)).sys (by decide)
@[simp] theorem State.pinAct_regs (s : State) (x : Nat) (y : Nat) (act : Nat) : (s.pinAct x y act).regs = s.regs := part_eq (State.pinAct_same s x y act (.refl 256) (.refl 256 s)).regs (by decide)
@[simp] theorem State.captureNow_time (s : State) (x : Nat) (y : Nat) : (s.captureNow x y).time = s.time := part_eq (State.captureNow_same s x y (.refl 1826) (.refl 1826 s)).time (by decide)
@[simp] theorem State.captureNow_sys (s : State) (x : Nat) (y : Nat) : (s.captureNow x y).sys = s.sys := part_eq (State.captureNow_same s x y (.refl 1826) (.refl 1826 s)).sys (by decide)

/-- A field of TUxCAPyCTL that software writes. -/
abbrev CapField (x y : Nat) (f : Fld) : Prop := f.off = 0x28160 + 0x100 * x + 0x20 * y ∧ f.hi < 13

/-- What a capture of one channel leaves of another. -/
structure CapSame (x y : Nat) (s u : State) : Prop where
  queue : u.capq x y = s.capq x y
  cnt : (u.tu x).cnt = (s.tu x).cnt
  time : u.time = s.time
  cfg : ∀ f, CapField x y f → u.g f = s.g f

theorem CapSame.refl (x y : Nat) (s : State) : CapSame x y s s := ⟨rfl, rfl, rfl, fun _ _ => rfl⟩

theorem CapSame.trans {x y : Nat} {s u w : State} (h : CapSame x y s u) (h' : CapSame x y u w) : CapSame x y s w :=
  ⟨h'.queue.trans h.queue, h'.cnt.trans h.cnt, h'.time.trans h.time, fun f hf => (h'.cfg f hf).trans (h.cfg f hf)⟩

theorem State.ct_of_time {s t : State} (h : t.time = s.time) : t.ct = s.ct := by
  unfold State.ct
  rw [h]

/-- A channel takes an edge by its own settings. -/
theorem CapSame.captures {x y : Nat} {s u : State} (h : CapSame x y s u) (src sel : Nat) (fall : Bool) :
    u.captures x y src sel fall = s.captures x y src sel fall := by
  unfold State.captures State.on
  rw [h.cfg (TIM_TUCAPCTL_EN x y) ⟨rfl, by simp⟩, h.cfg (TIM_TUCAPCTL_SRC x y) ⟨rfl, by simp⟩, h.cfg (TIM_TUCAPCTL_SEL x y) ⟨rfl, by simp⟩,
    h.cfg (TIM_TUCAPCTL_EDGE x y) ⟨rfl, by simp⟩]

/-- The registers that setting a queue writes hold no setting of a channel. -/
theorem State.setCap_cfg {a b x y : Nat} (hb : b < 2) (s : State) (q : List (Nat × Nat)) (held : Bool) {f : Fld} (hf : CapField x y f) :
    (s.setCap a b q held).g f = s.g f := by
  obtain ⟨hoff, hhi⟩ := hf
  have hdepth : f.apart (TIM_TUCAPCTL_DEPTH a b) := .inr (.inl hhi)
  have hne : f.apart ⟨(TIM_TUSTS_CAPNE a).off, 8 + b, 8 + b⟩ := .inl (by rw [hoff]; show _ ≠ 0x28118 + 0x100 * a; omega)
  have hcl : f.apart (TIM_TUCAPCNTLO a b) := .inl (by rw [hoff]; show _ ≠ 0x28164 + 0x100 * a + 0x20 * b; omega)
  have hch : f.apart (TIM_TUCAPCNTHI a b) := .inl (by rw [hoff]; show _ ≠ 0x28168 + 0x100 * a + 0x20 * b; omega)
  have htl : f.apart (TIM_TUCAPCTLO a b) := .inl (by rw [hoff]; show _ ≠ 0x2816C + 0x100 * a + 0x20 * b; omega)
  have hth : f.apart (TIM_TUCAPCTHI a b) := .inl (by rw [hoff]; show _ ≠ 0x28170 + 0x100 * a + 0x20 * b; omega)
  have hset : ∀ (u : State) (t : TuS), (u.setTu a t).g f = u.g f := fun _ _ => rfl
  unfold State.setCap State.f64
  dsimp only
  rw [State.g_f_apart _ (by simp [Fld.fits]) _ hth, State.g_f_apart _ (by simp [Fld.fits]) _ htl, State.g_f_apart _ (by simp [Fld.fits]) _ hch,
    State.g_f_apart _ (by simp [Fld.fits]) _ hcl, State.g_f_apart _ (by simp [Fld.fits]; omega) _ hne, State.g_f_apart _ (by simp [Fld.fits]) _ hdepth, hset]

/-- Setting the queue of one channel leaves another's. -/
theorem State.capq_setCap_ne {a b x y : Nat} (hb : b < 2) (hy : y < 2) (h : (a, b) ≠ (x, y)) (s : State) (q : List (Nat × Nat)) (held : Bool) :
    (s.setCap a b q held).capq x y = s.capq x y := by
  by_cases ha : x = a
  · subst ha
    exact State.setCap_ne s x hb hy (fun e => h (e ▸ rfl)) q held
  · have htu : (s.setCap a b q held).tu x = s.tu x := by
      unfold State.setCap
      dsimp only
      rw [State.f64_tu, State.f64_tu, State.f_tu, State.f_tu, State.tu_setTu_ne _ _ ha]
    rw [State.capq, State.capq, htu]

theorem State.setCap_capSame {a b x y : Nat} (hb : b < 2) (hy : y < 2) (h : (a, b) ≠ (x, y)) (s : State) (q : List (Nat × Nat)) (held : Bool) :
    CapSame x y s (s.setCap a b q held) := by
  refine ⟨State.capq_setCap_ne hb hy h s q held, ?_, rfl, fun f hf => State.setCap_cfg hb s q held hf⟩
  by_cases ha : x = a
  · subst ha
    exact State.setCap_cnt s x b q held
  · unfold State.setCap
    dsimp only
    rw [State.f64_tu, State.f64_tu, State.f_tu, State.f_tu, State.tu_setTu_ne _ _ ha]

/-- An overrun counted reaches no setting. -/
theorem State.inc_lost_capSame (s : State) (a b x y : Nat) : CapSame x y s (s.inc (TIM_TUCAPCTL_LOST a b)) :=
  ⟨rfl, rfl, rfl, fun _ hf => State.g_f_apart _ (by simp [Fld.fits]) _ (.inr (.inl (by have := hf.2; show _ < 16; omega)))⟩

theorem State.capPush_capSame {a b x y : Nat} (hb : b < 2) (hy : y < 2) (h : (a, b) ≠ (x, y)) (s : State) (e : Nat × Nat) :
    CapSame x y s (s.capPush a b e) := by
  unfold State.capPush
  dsimp only
  split_ifs
  · exact State.setCap_capSame hb hy h s _ _
  · exact State.inc_lost_capSame s a b x y
  · exact (State.setCap_capSame hb hy h s _ _).trans (State.inc_lost_capSame _ a b x y)

/-- Events and interrupts reach neither the queues nor the settings of units 0 to 15. -/
theorem State.event_capSame {x y : Nat} (hx : x < 16) (hy : y < 2) (s : State) (p ct : Nat) : CapSame x y s (s.event p ct) := by
  refine ⟨?_, ?_, ?_, fun f hf => State.event_g s p ct (by rw [hf.1]; unfold Loud; omega)⟩
  · rw [State.capq, State.capq, State.event_tu]
  · rw [State.event_tu]
  · rw [State.event_time]

theorem State.raiseHub_capSame {x y : Nat} (hx : x < 16) (hy : y < 2) (s : State) (n : Nat) : CapSame x y s (s.raiseHub n) := by
  refine ⟨?_, ?_, ?_, fun f hf => State.raiseHub_g s n (by rw [hf.1]; unfold Loud; omega)⟩
  · rw [State.capq, State.capq, State.raiseHub_tu]
  · rw [State.raiseHub_tu]
  · rw [State.raiseHub_time]

theorem State.captureNow_capSame {a b x y : Nat} (hx : x < 16) (hb : b < 2) (hy : y < 2) (h : (a, b) ≠ (x, y)) (s : State) :
    CapSame x y s (s.captureNow a b) := by
  have hpush := (State.capPush_capSame hb hy h s ((s.tu a).cnt, s.ct)).trans
    (State.event_capSame hx hy _ (212 + 2 * a + b) (s.capPush a b ((s.tu a).cnt, s.ct)).ct)
  unfold State.captureNow
  dsimp only
  split
  · exact hpush.trans (State.raiseHub_capSame hx hy _ _)
  · exact hpush

/-- A capture of a channel with room joins its queue. -/
theorem State.captureNow_capq {x y : Nat} (hx : x < 16) (hy : y < 2) {s : State} (hroom : (s.capq x y).length < 4) :
    (s.captureNow x y).capq x y = s.capq x y ++ [((s.tu x).cnt, s.ct)] := by
  have hpush : ((s.capPush x y ((s.tu x).cnt, s.ct)).event (212 + 2 * x + y) (s.capPush x y ((s.tu x).cnt, s.ct)).ct).capq x y =
      s.capq x y ++ [((s.tu x).cnt, s.ct)] := by
    rw [(State.event_capSame hx hy _ _ _).queue, State.capPush, if_pos hroom, (State.capq_setCap_self _ _ _ _ _).1]
  unfold State.captureNow
  dsimp only
  split
  · rw [(State.raiseHub_capSame hx hy _ _).queue, hpush]
  · exact hpush

/-- The channel of a number takes an edge if its settings say so. -/
def State.captureStep (src sel : Nat) (fall : Bool) (s : State) (k : Nat) : State :=
  if s.captures (k / 2) (k % 2) src sel fall then s.captureNow (k / 2) (k % 2) else s

theorem State.captureEdge_eq {s : State} (h : s.coreRuns = true) (src sel : Nat) (fall : Bool) :
    s.captureEdge src sel fall = (List.range 32).foldl (State.captureStep src sel fall) s := if_pos h

theorem State.captureStep_capSame {x y : Nat} (hx : x < 16) (hy : y < 2) {k : Nat} (hk : k ≠ 2 * x + y) (src sel : Nat) (fall : Bool) (s : State) :
    CapSame x y s (s.captureStep src sel fall k) := by
  unfold State.captureStep
  split
  · refine State.captureNow_capSame hx (Nat.mod_lt _ (by decide)) hy (fun e => hk ?_) s
    obtain ⟨rfl, rfl⟩ := Prod.mk.injEq .. ▸ e
    omega
  · exact CapSame.refl x y s

theorem State.captureSteps_capSame {x y : Nat} (hx : x < 16) (hy : y < 2) (src sel : Nat) (fall : Bool) (l : List Nat) (hl : 2 * x + y ∉ l) (s : State) :
    CapSame x y s (l.foldl (State.captureStep src sel fall) s) := by
  induction l generalizing s with
  | nil => exact CapSame.refl x y s
  | cons k l ih =>
    obtain ⟨hk, hl⟩ := List.ne_and_not_mem_of_not_mem_cons hl
    exact (State.captureStep_capSame hx hy hk.symm src sel fall s).trans (ih hl _)

/-- A channel with room that an edge concerns takes it, whatever the other channels do. -/
theorem State.captureEdge_capq {x y : Nat} (hx : x < 16) (hy : y < 2) {s : State} (hrun : s.coreRuns = true) {src sel : Nat} {fall : Bool}
    (hcap : s.captures x y src sel fall = true) (hroom : (s.capq x y).length < 4) :
    (s.captureEdge src sel fall).capq x y = s.capq x y ++ [((s.tu x).cnt, s.ct)] := by
  have hmem : 2 * x + y ∈ List.range 32 := List.mem_range.mpr (by omega)
  obtain ⟨l, r, hlr⟩ := List.append_of_mem hmem
  have hnd : (l ++ (2 * x + y) :: r).Nodup := hlr ▸ List.nodup_range
  have hl : 2 * x + y ∉ l := fun h => (List.nodup_append.mp hnd).2.2 _ h _ List.mem_cons_self rfl
  have hr : 2 * x + y ∉ r := (List.nodup_cons.mp (List.nodup_append.mp hnd).2.1).1
  have hbefore := State.captureSteps_capSame hx hy src sel fall l hl s
  generalize hu : l.foldl (State.captureStep src sel fall) s = u at hbefore
  have hdiv : (2 * x + y) / 2 = x ∧ (2 * x + y) % 2 = y := by omega
  have hstep : u.captureStep src sel fall (2 * x + y) = u.captureNow x y := by
    rw [State.captureStep, hdiv.1, hdiv.2, if_pos ((hbefore.captures src sel fall).trans hcap)]
  rw [State.captureEdge_eq hrun, hlr, List.foldl_append, List.foldl_cons, hu, hstep, (State.captureSteps_capSame hx hy src sel fall r hr _).queue,
    State.captureNow_capq hx hy (by rw [hbefore.queue]; exact hroom), hbefore.queue, hbefore.cnt, State.ct_of_time hbefore.time]

/-- A unit and a field of its registers changed leave all else. -/
theorem State.setTu_f_eq (s : State) (x : Nat) (u : TuS) (f : Fld) (v : Nat) :
    (s.setTu x u).f f v = { s with regs := ((s.setTu x u).f f v).regs, tus := ((s.setTu x u).f f v).tus } := by
  unfold State.setTu State.f State.wr
  dsimp only

/-! Compare channels. -/

/-- A compare value written arms its channel. -/
theorem State.cmpArm_on {x y : Nat} (hy : y < 4) {v : Word} {s : State} (h : s.on (TIM_TUCMPCTL_BASE x y) = true ∨ wbits v 31 16 = 0) :
    (s.cmpArm x y v).on (TIM_TUCMPCTL_ARM x y) = true := by
  have hok : ¬((!s.on (TIM_TUCMPCTL_BASE x y) && wbits v 31 16 != 0) = true) := by rcases h with h | h <;> simp [h]
  have harm : ∀ u : State, (u.f (TIM_TUCMPCTL_ARM x y) 1).on (TIM_TUCMPCTL_ARM x y) = true := fun u =>
    State.on_f_self u (f := TIM_TUCMPCTL_ARM x y) (by simp [Fld.fits]) true
  unfold State.cmpArm
  rw [if_neg hok]
  dsimp only
  split
  · rw [State.on_f_apart _ (by simp [Fld.fits]; omega) _ (.inl (by show 0x28120 + 0x100 * x + 0x10 * y ≠ 0x28118 + 0x100 * x; omega)), harm]
  · exact harm _

/-- A match flag of a unit and the arming of a channel stand in registers that a pin action and a moved compare value leave. -/
theorem State.setCmp_g (s : State) (x y v : Nat) {f : Fld} (hlo : f.apart (TIM_TUCMPLO x y)) (hhi : f.apart (TIM_TUCMPHI x y)) :
    (s.setCmp x y v).g f = s.g f := by
  unfold State.setCmp State.f64
  rw [State.g_f_apart _ (by simp [Fld.fits]) _ hhi, State.g_f_apart _ (by simp [Fld.fits]) _ hlo]
  rfl

theorem State.pinAct_g (s : State) (x y act : Nat) (f : Fld) : (s.pinAct x y act).g f = s.g f := State.g_of_regs (s.pinAct_regs x y act) f

/-- After a match a channel's flag stays. -/
theorem State.cmpNext_match (s : State) {x y : Nat} (hy : y < 4) :
    (s.cmpNext x y).g ⟨(TIM_TUSTS_MATCH x).off, y, y⟩ = s.g ⟨(TIM_TUSTS_MATCH x).off, y, y⟩ := by
  have hset : ∀ (u : State) v, (u.setCmp x y v).g ⟨(TIM_TUSTS_MATCH x).off, y, y⟩ = u.g ⟨(TIM_TUSTS_MATCH x).off, y, y⟩ := fun u v =>
    State.setCmp_g u x y v (.inl (by show 0x28118 + 0x100 * x ≠ 0x28128 + 0x100 * x + 0x10 * y; omega))
      (.inl (by show 0x28118 + 0x100 * x ≠ 0x2812C + 0x100 * x + 0x10 * y; omega))
  unfold State.cmpNext
  dsimp only
  split_ifs
  · exact State.g_f_apart _ (by simp [Fld.fits]) _ (.inl (by show 0x28118 + 0x100 * x ≠ 0x28120 + 0x100 * x + 0x10 * y; omega))
  · rw [State.g_f_apart _ (by simp [Fld.fits]; omega) _ (.inr (.inl (by show y < 4 + y; omega))), hset]
  · exact hset _ _
  · exact hset _ _

/-- A one-shot channel disarms. -/
theorem State.cmpNext_disarms {s : State} {x y : Nat} (h : s.g (TIM_TUCMPPER x y) = 0) : (s.cmpNext x y).on (TIM_TUCMPCTL_ARM x y) = false := by
  unfold State.cmpNext
  dsimp only
  rw [if_pos h]
  exact State.on_f_self s (f := TIM_TUCMPCTL_ARM x y) (by simp [Fld.fits]) false

/-- A register of a unit is not the interrupt controller's. -/
theorem loud_unit {x o : Nat} (hx : x < 16) (hlo : 0x28100 + 0x100 * x ≤ o) (hhi : o < 0x28200 + 0x100 * x) : Loud o := by
  unfold Loud
  omega

/-- A due channel matches: its event is out, its flag is up and its value moves on. -/
def State.matched (s : State) (x y : Nat) : State :=
  let s := (s.f ⟨(TIM_TUSTS_MATCH x).off, y, y⟩ 1).event (148 + 4 * x + y) (s.f ⟨(TIM_TUSTS_MATCH x).off, y, y⟩ 1).ct
  (s.pinAct x y (s.g (TIM_TUCMPCTL_PINACT x y))).cmpNext x y

/-! Reads of the capture queues. -/

theorem State.stoppedAt_eq {ofs : Nat} (h : 0x28030 ≤ ofs) (s : State) (e : Nat) : s.stoppedAt e ofs = s.stopped e := by
  rw [State.stoppedAt, aonWord_eq_false_of_le h]
  rfl

theorem State.capq_of_tus {s t : State} (h : t.tus = s.tus) (x y : Nat) : t.capq x y = s.capq x y ∧ t.capHeld x y = s.capHeld x y := by
  unfold State.capq State.capHeld
  rw [State.tu_of_tus h]
  exact ⟨rfl, rfl⟩

/-- What a read of a queue leaves of it. -/
theorem State.setCap_read (s : State) (x y : Nat) (q : List (Nat × Nat)) (held : Bool) (r : Nat) :
    ({ s.setCap x y q held with rdata := r } : State).capq x y = q ∧ ({ s.setCap x y q held with rdata := r } : State).capHeld x y = held := by
  obtain ⟨hq, hh⟩ := State.capq_of_tus (s := s.setCap x y q held) (t := { s.setCap x y q held with rdata := r }) (by dsimp only) x y
  rw [hq, hh]
  exact State.capq_setCap_self s x y q held

/-- A read of a running block's register acts on the woken state and answers with what the register held. -/
theorem State.barRead_running {s : State} {e : Nat} {f : Fld} (hoff : 0x28030 ≤ f.off) (h : s.awake.stopped e = false) (act : State → State) :
    s.barRead e f act = { act s.awake with rdata := (s.awake.rd f.off).toNat } := by
  have hrun : s.awake.stoppedAt e f.off = false := (State.stoppedAt_eq hoff _ e).trans h
  simp only [State.awake] at hrun ⊢
  simp only [State.barRead, hrun, Bool.false_eq_true, if_false]

/-- A listed word with CLR empties the queue (R63). -/
theorem State.capCtlWrite_clr {s : State} {x y : Nat} {v : Word} (hsel : s.capSelOk x (wbits v 2 1) (wbits v 9 3) = true) (hclr : wbit v 24 = true) :
    s.capCtlWrite x y v = ((s.store rTIM_TUCAPCTL x y v).setCap x y [] false).f (TIM_TUCAPCTL_LOST x y) 0 := by
  simp [State.capCtlWrite, hsel, hclr]

theorem State.setCap_depth (s : State) {x y : Nat} (hy : y < 2) (q : List (Nat × Nat)) (held : Bool) :
    (s.setCap x y q held).g (TIM_TUCAPCTL_DEPTH x y) = q.length % 8 := by
  unfold State.setCap State.f64
  dsimp only
  rw [State.g_f_apart _ (by simp [Fld.fits]) _ (.inl (by simp)), State.g_f_apart _ (by simp [Fld.fits]) _ (.inl (by simp)),
    State.g_f_apart _ (by simp [Fld.fits]) _ (.inl (by simp)), State.g_f_apart _ (by simp [Fld.fits]) _ (.inl (by simp)),
    State.g_f_apart _ (by simp [Fld.fits]; omega) _ (.inl (by show 0x28160 + 0x100 * x + 0x20 * y ≠ 0x28118 + 0x100 * x; omega)),
    State.g_f_self _ (by simp [Fld.fits])]
  rfl

/-- A write of the counter while EN is clear. -/
theorem State.tuCntWrite_effect {s : State} (x : Nat) (v : Word) (hen : s.on (TIM_TUCTL_EN x) = false) :
    ((s.tuCntWrite x v).tu x).cnt = join32 ((s.tuCntWrite x v).g (TIM_TUCNTLO x)) ((s.tuCntWrite x v).g (TIM_TUCNTHI x)) ∧
    (s.tuCntWrite x v).g (TIM_TUCNTHI x) = wbits v 15 0 ∧ (s.tuCntWrite x v).g (TIM_TUCNTLO x) = s.g (TIM_TUCNTLO x) := by
  have hset : ∀ (u : State) t f, (u.setTu x t).g f = u.g f := fun _ _ _ => rfl
  have hlo : (TIM_TUCNTLO x).off ≠ rTIM_TUCNTHI.at x 0 := by
    show 0x28108 + 0x100 * x ≠ 0x2810C + 0x100 * x + 0 * 0
    omega
  have hhi : ∃ f ∈ rTIM_TUCNTHI.fds, f.hi = 15 ∧ f.lo = 0 ∧ (f.acc = .rw ∨ f.acc = .rwl) := by decide
  unfold State.tuCntWrite
  rw [hen]
  simp only [Bool.false_eq_true, if_false, State.tu_setTu_self, hset, State.store_g_ne hlo, true_and, and_true]
  exact State.store_g (by decide) rfl hhi s v

/-- A tick of one unit leaves the others, and every register. -/
theorem State.tuTick_ne (s : State) {a x : Nat} (h : x ≠ a) : (s.tuTick a).tu x = s.tu x := by
  unfold State.tuTick
  dsimp only
  split
  · exact State.tu_setTu_ne _ _ h
  · rfl

theorem State.tuTick_regs (s : State) (a : Nat) : (s.tuTick a).regs = s.regs := by
  unfold State.tuTick
  dsimp only
  split <;> rfl

/-- The unit of a number ticks if it counts the source. -/
def State.tickStep (src sel : Nat) (fall : Bool) (s : State) (x : Nat) : State :=
  if s.g (TIM_TUCTL_SRC x) = src ∧ s.g (TIM_TUCTL_SRCSEL x) = sel ∧ (src = 6 ∨ senseTakes (s.g (TIM_TUCTL_EDGE x)) fall) then s.tuTick x else s

theorem State.tickUnits_eq {s : State} (h : s.coreRuns = true) (src sel : Nat) (fall : Bool) :
    s.tickUnits src sel fall = (List.range 16).foldl (State.tickStep src sel fall) s := if_neg (by simp [h])

/-- A unit that counts another source does not tick. -/
theorem State.tickSteps_tu {x src : Nat} (sel : Nat) (fall : Bool) (l : List Nat) (s : State) (h : s.g (TIM_TUCTL_SRC x) ≠ src) :
    (l.foldl (State.tickStep src sel fall) s).tu x = s.tu x := by
  induction l generalizing s with
  | nil => rfl
  | cons a l ih =>
    have hregs : (s.tickStep src sel fall a).regs = s.regs := by
      unfold State.tickStep
      split
      · exact State.tuTick_regs s a
      · rfl
    have hstep : (s.tickStep src sel fall a).tu x = s.tu x := by
      unfold State.tickStep
      split
      · next ha => exact State.tuTick_ne s fun e => h (e ▸ ha.1)
      · rfl
    rw [List.foldl_cons, ih _ (by rw [State.g_of_regs hregs]; exact h), hstep]

/-- The ticks that an edge gives other units leave the channels of this one. -/
theorem State.tickUnits_capSame {s : State} {x src : Nat} (hrun : s.coreRuns = true) (h : s.g (TIM_TUCTL_SRC x) ≠ src) (y sel : Nat) (fall : Bool) :
    CapSame x y s (s.tickUnits src sel fall) := by
  have htu : (s.tickUnits src sel fall).tu x = s.tu x := by rw [State.tickUnits_eq hrun, State.tickSteps_tu sel fall _ s h]
  refine ⟨?_, ?_, State.tickUnits_time _ _ _ _, fun f _ => State.g_of_regs (State.tickUnits_regs _ _ _ _) f⟩
  · rw [State.capq, State.capq, htu]
  · rw [htu]

theorem State.coreRuns_of {s t : State} (hregs : t.regs = s.regs) (hsys : t.sys = s.sys) : t.coreRuns = s.coreRuns := by
  unfold State.coreRuns State.stage State.coreHeld State.booting
  rw [State.g_of_regs hregs, State.g_of_regs hregs, hsys]

/-- Settles O26. -/
theorem timerUnitsComplete : Obligations.TimerUnitsComplete := by
  refine ⟨fun s x v _ h hsrc hpin hwas hen hct => ?start, fun s x v _ h hsrc hpin hwas hen hct hlt => ?wait, fun s x v _ h hsrc hpin hen => ?stop,
    fun s x _ hw hdue => ?startAtCt, fun s x v _ h hen => ?count, fun s x y v _ hy h hok => ?arm, fun s x y hx hy hdue => ?cmatch,
    fun s x y fall hx hy hio hvio hrun hcap hsrc hroom => ?capture, fun s x fall hoff => ?noPin, fun s x y _ hy hrun => ?hold, fun s x y _ hy hrun => ?pop,
    fun s x y v _ hy h hsel => ?clr⟩
  case start =>
    have heff := State.tuCtlWrite_eq ⟨hsrc, hpin⟩ s.awake
    simp only [State.tuSwitch, hwas, hen, hct, Bool.not_false, Bool.and_true, Bool.false_eq_true, if_true, if_false] at heff
    refine completes rfl ((State.barWrite_accepted h (by decide) _ _ _).trans heff) ⟨State.tuGo_on _ _, ?_, ?_⟩
    · rw [State.tuGo_tu]
    · rw [State.tuGo_tu]
      rfl
  case wait =>
    have hlate : ¬(s.awake.store rTIM_TUCTL x 0 v).tuStart x < (s.awake.store rTIM_TUCTL x 0 v).ct := Nat.not_lt.mpr hlt.le
    have hnow : ¬(s.awake.store rTIM_TUCTL x 0 v).tuStart x = (s.awake.store rTIM_TUCTL x 0 v).ct := hlt.ne'
    have heff := State.tuCtlWrite_eq ⟨hsrc, hpin⟩ s.awake
    simp only [State.tuSwitch, hwas, hen, hct, Bool.not_false, Bool.and_true, if_true, if_neg hlate, if_neg hnow] at heff
    refine completes rfl ((State.barWrite_accepted h (by decide) _ _ _).trans heff) ⟨?_, ?_⟩
    · rw [State.tu_setTu_self]
    · refine Eq.trans rfl (State.store_g_ne (r := rTIM_TUCTL) (i := x) (j := 0) ?_ s.awake v)
      show 0x28118 + 0x100 * x ≠ 0x28100 + 0x100 * x + 0 * 0
      omega
  case stop =>
    have heff := State.tuCtlWrite_eq ⟨hsrc, hpin⟩ s.awake
    simp only [State.tuSwitch, hen, Bool.false_and, Bool.false_eq_true, if_false] at heff
    refine completes rfl ((State.barWrite_accepted h (by decide) _ _ _).trans heff) ⟨?_, ?_⟩
    · exact State.on_f_self _ (f := TIM_TUSTS_RUNNING x) (by simp [Fld.fits]) false
    · rw [State.f_tu, State.tu_setTu_self]
  case startAtCt =>
    refine completes rfl (if_pos (by simp [hw, hdue])) ⟨State.tuGo_on s x, ?_, fun f hf => ?_, State.setTu_f_eq _ _ _ _ _⟩
    · rw [State.tuGo_tu]
    · exact State.g_f_apart _ (by simp [Fld.fits]) _ hf
  case count =>
    exact completes rfl (State.barWrite_accepted h (by decide) _ _ _) (State.tuCntWrite_effect x v hen)
  case arm =>
    exact completes rfl (State.barWrite_accepted h (by decide) _ _ _) (State.cmpArm_on hy hok)
  case cmatch =>
    have hflag : (s.matched x y).g ⟨(TIM_TUSTS_MATCH x).off, y, y⟩ = 1 := by
      have hloud : Loud (⟨(TIM_TUSTS_MATCH x).off, y, y⟩ : Fld).off := loud_unit hx (by simp) (by simp)
      unfold State.matched
      dsimp only
      rw [State.cmpNext_match _ hy, State.pinAct_g, State.event_g _ _ _ hloud, State.g_f_self _ (by simp [Fld.fits]; omega)]
      simp
    have hper : s.g (TIM_TUCMPPER x y) = 0 → (s.matched x y).on (TIM_TUCMPCTL_ARM x y) = false := fun h => State.cmpNext_disarms (by
      rw [State.pinAct_g, State.event_g _ _ _ (loud_unit hx (by simp; omega) (by simp; omega)),
        State.g_f_apart _ (by simp [Fld.fits]; omega) _ (.inl (by show 0x28124 + 0x100 * x + 0x10 * y ≠ 0x28118 + 0x100 * x; omega)), h])
    have heff : ∃ t, exec (.compareMatch x y) s = .next t ∧ (t = s.matched x y ∨ t = (s.matched x y).raiseHub x) := by
      refine completes rfl (if_pos hdue) ?_
      dsimp only
      split
      · exact .inr rfl
      · exact .inl rfl
    obtain ⟨t, hexec, rfl | rfl⟩ := heff
    · exact ⟨_, hexec, hflag, hper⟩
    · refine ⟨_, hexec, ?_, fun h => ?_⟩
      · rw [State.raiseHub_g _ _ (loud_unit hx (by simp) (by simp)), hflag]
      · rw [State.on, State.raiseHub_g _ _ (loud_unit hx (by simp; omega) (by simp; omega))]
        exact hper h
  case capture =>
    have htick := State.tickUnits_capSame hrun hsrc y x fall
    have hrun' : (s.tickUnits 4 x fall).coreRuns = true :=
      (State.coreRuns_of (State.tickUnits_regs s 4 x fall) (State.tickUnits_sys s 4 x fall)).trans hrun
    refine completes rfl (if_pos ⟨hio, hvio⟩) ?_
    rw [State.captureEdge_capq (by omega) hy hrun' ((htick.captures 0 x fall).trans hcap) (by rw [htick.queue]; exact hroom), htick.queue, htick.cnt,
      State.ct_of_time htick.time]
  case noPin =>
    have hno : ¬(s.g (TIM_TUCTL_IOMODE x) = 0 ∧ s.vioOn x = true) := by rcases hoff with h | h <;> simp [h]
    exact congrArg Host.Outcome.next (if_neg hno)
  case hold =>
    refine completes rfl (State.barRead_running (by simp; omega) hrun _) ⟨rfl, ?_⟩
    exact State.setCap_read s.awake x y _ _ _
  case pop =>
    refine completes rfl (State.barRead_running (by simp; omega) hrun _) ⟨rfl, ?_⟩
    exact State.setCap_read s.awake x y _ _ _
  case clr =>
    have heff := State.capCtlWrite_clr (y := y) hsel (wbit_or_right v (by decide))
    refine completes rfl ((State.barWrite_accepted h (by decide) _ _ _).trans heff) ⟨?_, ?_, ?_⟩
    · exact ((State.capq_of_tus (State.f_tus _ _ _) x y).1).trans (State.capq_setCap_self _ x y _ _).1
    · exact State.g_f_self _ (by simp [Fld.fits]) _
    · rw [State.g_f_apart _ (by simp [Fld.fits]) _ (.inr (.inl (by simp))), State.setCap_depth _ hy]
      rfl

end Sys2Proof.Machine
end

section
/-! Data frames whose sections end an admission (obligation O28). -/
set_option Elab.async false
namespace Sys2Proof.Machine

/-- Bus 63 in its second cycle; the node at address 31 is admitted and has still to answer a command of the admission under way. -/
def admissionPending : State :=
  let s := (((State.reset.f BOOT_STS_STAGE 8).f (CRS_NSTS_ADMITTED 63 31) 1).f (CRS_NSLOTST 63 31) 1000).f (CRS_NSLOTLEN 63 31) 64
  let s := (s.f (CRS_BSTS_SEGOFF 63) 0).setBus 63 {
    cur := some { ref := 0, len := 1000000 }
    prev := some { no := 9 }
    lay := { slots := [(31, 1000, 64)] }
    adm := some { addr := 31, nodeid := 7, nonce := 0, caps := 0 } }
  s.setNode 63 31 { id := 7, wait := some { opc := 3, addr := 31, who := 0 } }

/-- A data frame of address 31 whose one section is the answer BUSY to that command. -/
def busyAnswer : List Nat := withCrc [0x81, 31, 9, 0, 0, 0, 8, 0, 0xFF, 8, 4, 0, 0, 3, BUSY, 0]

/-- Refutes O28: a good data frame of an admitted node may carry the failed answer that ends its admission (R131), and the node then holds its
address no more, so its record does not say the frame arrived. -/
theorem not_busFramesComplete : ¬ Obligations.BusFramesComplete := by
  rintro ⟨-, -, -, hdata, -⟩
  obtain ⟨t, hexec, hok, -⟩ := hdata admissionPending 63 31 24000 ((lineGroups busyAnswer).drop 4) busyAnswer (by decide)
    (by decide +kernel) (by decide +kernel) (by decide +kernel) (by decide +kernel) (by decide +kernel) (by decide) (by decide +kernel)
    (by decide +kernel) (by decide +kernel) (by decide +kernel) (by decide +kernel) (by decide +kernel) (by decide +kernel)
  obtain rfl := Host.Outcome.next.inj hexec
  have hgone : ((admissionPending.uplinkLine 63 24000 ((lineGroups busyAnswer).drop 4)).node 63 31).ok = false := by decide +kernel
  exact Bool.false_ne_true (hgone.symm.trans hok)

/-- Loop 15 drives 20 A with its guard channel ON and armed, and its current monitor's upper threshold at 0. -/
def loopAtItsLimit : State :=
  let s := ((State.reset.f BOOT_STS_STAGE 8).f (GRD_CSTS_STATE 31) 1).f (GRD_CCFG_ARM 31) 1
  let s := ((s.f (AFE_LCFG_MODE 15) 2).f (AFE_LSET_SET 15) 20000).f (WIN_MTHR_HI 79) 0
  s.setLoopAt 15 (1, 0)

/-- That state once the measured current has reached the set point, with SATURATED at n (its value within tolerance is left open). -/
def loopReached (n : Nat) : State :=
  let s : State := { loopAtItsLimit with grd := { loopAtItsLimit.grd with vin := loopAtItsLimit.grd.vin.set (fun _ => 0) (64 + 15) 81520 } }
  (((s.setLoopAt 15 (2, s.elapsed)).f (AFE_LSTS_SETTLED 15) 1).f (AFE_LSTS_SATURATED 15) n).drew

theorem setVin_loopAtItsLimit :
    loopAtItsLimit.setVin (64 + 15) 81520 = (loopReached (Config.freeValue 0 % 2)).compare (64 + 15) := rfl

/-- Refutes O31: the measured current that reaches a loop's set point may be above IHI of its armed guard channel, which then trips and releases
the drive (R146, R174); the loop is not SETTLED. -/
theorem not_loopsAndMonitorsComplete : ¬ Obligations.LoopsAndMonitorsComplete := by
  rintro ⟨-, -, -, hedge, -⟩
  obtain ⟨t, hexec, hsettled, -⟩ := hedge loopAtItsLimit 15 81520 (by decide) (by decide +kernel) (by decide +kernel) (by decide +kernel)
  obtain rfl := Host.Outcome.next.inj hexec
  have hreleased : ((loopReached (Config.freeValue 0 % 2)).compare (64 + 15)).on (AFE_LSTS_SETTLED 15) = false := by
    rcases Nat.mod_two_eq_zero_or_one (Config.freeValue 0) with h | h <;> rw [h] <;> decide +kernel
  rw [setVin_loopAtItsLimit, hreleased] at hsettled
  exact Bool.false_ne_true hsettled

end Sys2Proof.Machine
end

section
/-! Descriptors of scheduler, ports, loops, nodes and endpoints (obligation O36). -/
set_option Elab.async false
namespace Sys2Proof.Machine

/-- A descriptor taken up that its issuer check passes runs its body, itself marked started. -/
theorem State.Takes.runJob {s : State} {opc : Nat} {j : JobS} (h : s.Takes opc j) {issuer : JobS → Option Nat} (hissuer : issuer j = none)
    (body : State → JobS → State) : s.runJob opc issuer body = body (s.begun j) j := by
  obtain ⟨hstarted, htake, hwin⟩ := h
  obtain ⟨id, uid, desc, args, winfail, started, retried, wait, at_⟩ := j
  cases hstarted
  cases hwin
  rw [State.runJob, htake]
  simp only [hissuer]
  rfl

theorem except_ok_of_toOption {ε α : Type} {x : Except ε α} {a : α} (h : x.toOption = some a) : x = .ok a := by
  cases x with
  | error e => cases h
  | ok b => cases h; rfl

theorem State.setSp_sp (s : State) (x : Nat) (p : SerPS) : (s.setSp x p).sp x = p := by
  simp [State.sp, State.setSp]

@[simp] theorem State.begun_on (s : State) (j : JobS) (f : Fld) : (s.begun j).on f = s.on f := rfl

@[simp] theorem State.begun_g (s : State) (j : JobS) (f : Fld) : (s.begun j).g f = s.g f := rfl

@[simp] theorem State.begun_can (s : State) (j : JobS) (x : Nat) : (s.begun j).can x = s.can x := rfl

@[simp] theorem State.begun_canRuns (s : State) (j : JobS) (x : Nat) : (s.begun j).canRuns x = s.canRuns x := rfl

@[simp] theorem State.begun_elapsed (s : State) (j : JobS) : (s.begun j).elapsed = s.elapsed := rfl

@[simp] theorem State.setCan_can (s : State) (x : Nat) (p : CanPS) : (s.setCan x p).can x = p := by
  simp [State.can, State.setCan]

@[simp] theorem State.f_can (s : State) (f : Fld) (n x : Nat) : (s.f f n).can x = s.can x := by
  rw [State.can, State.f_cans]; rfl

theorem State.on_f_one (s : State) {f : Fld} (h : f.fits) : (s.f f 1).on f = true := State.on_f_self s h true

/-- Settles O36. -/
theorem fieldJobsComplete : Obligations.FieldJobsComplete := by
  refine ⟨?create, ?destroy, ?query, ?trigger, ?triggerGroup, ?loopSet, ?canSend, ?serXfer, ?nodeCmd, ?epQuery⟩
  case create =>
    intro s j e hj he
    exact congrArg Host.Outcome.next ((hj.runJob rfl _).trans (by simp only [except_ok_of_toOption he]))
  case destroy =>
    intro s j e hj he
    exact congrArg Host.Outcome.next ((hj.runJob rfl _).trans (by simp only [except_ok_of_toOption he]))
  case query =>
    intro s j e hj he
    exact congrArg Host.Outcome.next ((hj.runJob rfl _).trans (by simp only [except_ok_of_toOption he]))
  case trigger =>
    intro s j e hj hone he hkind
    refine congrArg Host.Outcome.next ((hj.runJob rfl _).trans ?_)
    simp only [except_ok_of_toOption he, hone, hkind, if_true, ne_eq, not_true_eq_false, if_false]
    rfl
  case triggerGroup =>
    intro s j e l hj hgroup hl hkind
    refine congrArg Host.Outcome.next ((hj.runJob rfl _).trans ?_)
    simp only [hl, Nat.not_lt.2 hgroup, hkind, if_false, ne_eq, not_true_eq_false]
    rfl
  case loopSet =>
    intro s j e hj hx he howns hcheck
    refine congrArg Host.Outcome.next ((hj.runJob (by simp only [he, hx, howns, and_self, if_true]) _).trans ?_)
    simp only [hcheck]
  case canSend =>
    intro s j x y hj rfl rfl hx hy howns hlen hfree hmode hen hmb hfd hruns
    refine ⟨_, congrArg Host.Outcome.next (hj.runJob (by simp only [State.canOwner, Nat.not_le.2 hx, Nat.not_le.2 hy, howns, or_self, if_false, if_true]) _), ?_⟩
    have hfd' : (s.on (CAN_MBCFG_FDF (dBody j.desc 0 1) (dBody j.desc 1 1)) && !s.on (CAN_PCFG_FDEN (dBody j.desc 0 1))) = false := by
      rw [Bool.and_eq_false_imp]
      exact fun h => by rw [hfd h]; rfl
    simp only [State.begun_on, State.begun_g, State.begun_can, State.begun_canRuns, State.begun_elapsed, Nat.not_le.2 hx, Nat.not_le.2 hy, hlen,
      hfree, hmode, hen, hmb, hfd', hruns, Bool.not_true, Bool.false_eq_true, or_self, if_false, ne_eq, not_true_eq_false]
    rw [State.f_can, State.setCan_can]
    exact ⟨State.on_f_one _ (by simp [Fld.fits]), _, rfl, rfl, rfl, rfl⟩
  case serXfer =>
    intro s j n hj rfl hn howner htpl hcnt hmaster hruns hroom
    refine congrArg Host.Outcome.next ((hj.runJob howner _).trans ?_)
    have hknown : ¬ (1024 ≤ dBody j.desc 0 2 ∨ ((s.begun j).tpl (dBody j.desc 0 2)).isEmpty = true) := by
      rintro (h | h)
      · omega
      · exact absurd (htpl.symm.trans h) Bool.false_ne_true
    have hready : (!((s.begun j).serMaster (tpPort ((s.begun j).tpl (dBody j.desc 0 2))) &&
        (s.begun j).serRuns (tpPort ((s.begun j).tpl (dBody j.desc 0 2))))) = false := by
      show (!(s.serMaster (tpPort (s.tpl (dBody j.desc 0 2))) && s.serRuns (tpPort (s.tpl (dBody j.desc 0 2))))) = false
      rw [hmaster, hruns]; rfl
    simp only [if_neg hknown, if_neg (Nat.not_lt.2 hcnt), hready]
    exact if_neg (Nat.not_le.2 hroom)
  case nodeCmd =>
    intro s j b a c q hj hissuer hlo hhi hsrc hbus hq hc hlen
    refine congrArg Host.Outcome.next ((hj.runJob hissuer _).trans ?_)
    have hopc : ¬ (dBody j.desc 4 1 < 0x09 ∨ 0x0C < dBody j.desc 4 1) := by omega
    have hsrc' : ¬ ((s.begun j).ep (dBody j.desc 0 4 % 131072)).src ≠ srcCOURSE := not_not_intro hsrc
    have hbus' : (s.begun j).busOf ((s.begun j).ep (dBody j.desc 0 4 % 131072)).nodeid = some (b, a) := hbus
    rw [hq] at hc
    rw [State.nodeCmdJob]
    simp only [if_neg hopc, if_neg hsrc', hbus', ← hc]
    exact if_neg (Nat.not_lt.2 hlen)
  case epQuery =>
    intro s j hj hsrc hname
    refine congrArg Host.Outcome.next ((hj.runJob rfl _).trans ?_)
    have hmay : (!((s.begun j).mayName j.id.tid (dBody j.desc 0 4 % 131072) || isT0 j.id.tid)) = false := by
      rw [(Bool.or_eq_true _ _).mpr hname]; rfl
    simp only [if_neg hsrc, hmay]
    rfl

end Sys2Proof.Machine
end

section
/-! Ring and stream descriptors (obligation O37). -/
set_option Elab.async false
namespace Sys2Proof.Machine

theorem State.tr_of_rng {s t : State} (h : t.rng = s.rng) (u : Nat) : t.tr u = s.tr u := by rw [State.tr, State.tr, h]

/-- Which rings a command's change leaves as they were. -/
theorem State.modCmd_cr (s : State) (t slot : Nat) (f : CmdS → CmdS) (u r : Nat) : (s.modCmd t slot f).cr u r = s.cr u r := by
  rw [State.cr, State.cr, State.modCmd]
  by_cases h : u = t
  · subst h; rw [State.tr_setTr_self]
  · rw [State.tr_setTr_ne _ _ h]

theorem State.sendMsg_rng (s : State) (cls ty dst : Nat) (body : List Nat) : (s.sendMsg cls ty dst body).rng = s.rng :=
  part_eq (State.sendMsg_same s cls ty dst body (.refl 8388642) (.refl 8388642 s)).rng (by decide)

theorem State.cr_of_rng {s t : State} (h : t.rng = s.rng) (u r : Nat) : t.cr u r = s.cr u r := by rw [State.cr, State.cr, State.tr_of_rng h]

/-- Ending a descriptor leaves every ring. -/
@[simp] theorem State.finish_cr (s : State) (j : JobS) (o : DoneS) (u r : Nat) : (s.finish j o).cr u r = s.cr u r := by
  unfold State.finish
  cases hr : j.id.remote
  · exact State.modCmd_cr ..
  · exact State.cr_of_rng (State.sendMsg_rng ..) u r

@[simp] theorem State.finishWith_cr (s : State) (j : JobS) (st u r : Nat) : (s.finishWith j st).cr u r = s.cr u r :=
  State.finish_cr s j { status := st } u r

@[simp] theorem State.begun_cr (s : State) (j : JobS) (u r : Nat) : (s.begun j).cr u r = s.cr u r := rfl

/-- The ring that RING_START's operands describe (R425): a zero size, age or cut stands for its default. -/
def CRingS.started_ (q : CRingS) (d : List Nat) : CRingS :=
  { q with
    state := rsRUNNING, sealed := nbit (dBody d 1 1) 0, ord := dBody d 2 1, size := if dBody d 4 4 = 0 then 16384 else dBody d 4 4
    age := if dBody d 8 4 = 0 then 10000 else dBody d 8 4, cut := if dBody d 12 4 = 0 then 1024 else dBody d 12 4, base := dBody d 16 8
    hub := 0, post := 0, ack := 0, entry := none, place := 0, failed := false, voidDue := false, started := true }

/-- RING_START in its ranges starts its stopped ring (R425). -/
theorem State.ringStart_starts {s : State} {j : JobS} (hstate : (s.cr j.id.tid (dBody j.desc 0 1)).state = rsSTOPPED)
    (hord : 4 ≤ dBody j.desc 2 1 ∧ dBody j.desc 2 1 ≤ 16)
    (hsize : dBody j.desc 4 4 = 0 ∨ (256 ≤ dBody j.desc 4 4 ∧ dBody j.desc 4 4 ≤ 65536))
    (hage : dBody j.desc 8 4 = 0 ∨ (10 ≤ dBody j.desc 8 4 ∧ dBody j.desc 8 4 ≤ 1000000))
    (hcut : dBody j.desc 12 4 = 0 ∨ (256 ≤ dBody j.desc 12 4 ∧ dBody j.desc 12 4 ≤ if dBody j.desc 4 4 = 0 then 16384 else dBody j.desc 4 4))
    (hbase : dBody j.desc 16 8 % 4096 = 0)
    (hbig : s.largestRec j.id.tid (dBody j.desc 0 1) + 80 ≤ if dBody j.desc 4 4 = 0 then 16384 else dBody j.desc 4 4)
    (hkey : nbit (dBody j.desc 1 1) 0 = true → (s.ctx j.id.tid).key ≠ []) :
    (s.ringStart j).cr j.id.tid (dBody j.desc 0 1) = (s.cr j.id.tid (dBody j.desc 0 1)).started_ j.desc := by
  have hsealed : ¬ (nbit (dBody j.desc 1 1) 0 = true ∧ (s.ctx j.id.tid).key = []) := fun h => hkey h.1 h.2
  rw [State.ringStart]
  simp only [hstate, ne_eq, not_true_eq_false, if_false]
  rw [if_neg (by split_ifs at * <;> omega), if_neg hsealed, State.finishWith_cr, State.cr_setCr_self]
  rfl

/-- MARK, with the core running, first places the marks that are due (R456). -/
theorem State.mark_exec {s : State} (hruns : s.coreRuns = true) : exec .mark s = .next (s.allMarks.runJob 0x12 s.openerCheck fun s j =>
    match s.streamAt j with
    | none => s.finishWith j BAD_HANDLE
    | some st => s.mark j st) :=
  congrArg Host.Outcome.next (if_neg (by simp [hruns]))

/-- Settles O37. -/
theorem ringJobsComplete : Obligations.RingJobsComplete := by
  refine ⟨?nop, ?time, ?open_, ?close, ?mark, ?markLater, ?start, ?startDefault, ?stop, ?resume, ?flush, ?query⟩
  case nop => exact fun s j hj => congrArg Host.Outcome.next (hj.runJob rfl _)
  case time => exact fun s j hj => congrArg Host.Outcome.next (hj.runJob rfl _)
  case open_ =>
    intro s j hj hopens
    exact congrArg Host.Outcome.next ((hj.runJob rfl _).trans (by simp only [hopens]))
  case close =>
    intro s j st hj howner hst
    exact congrArg Host.Outcome.next ((hj.runJob howner _).trans (by simp only [hst]))
  case mark =>
    rintro s w j st hruns rfl hj howner hst hring hnow
    rw [State.mark_exec hruns, hj.runJob howner]
    have hopen : (!j.id.remote && ((s.allMarks.begun j).cr st.tid st.ring).state != rsRUNNING) = false := by
      rcases hring with h | h <;> rw [h]
      · rfl
      · exact Bool.and_false _
    simp only [hst, State.mark, hopen]
    exact congrArg Host.Outcome.next (if_neg (Nat.not_lt.2 hnow))
  case markLater =>
    rintro s w j st hruns rfl hj howner hst hring hlater
    rw [State.mark_exec hruns, hj.runJob howner]
    have hopen : (!j.id.remote && ((s.allMarks.begun j).cr st.tid st.ring).state != rsRUNNING) = false := by
      rcases hring with h | h <;> rw [h]
      · rfl
      · exact Bool.and_false _
    simp only [hst, State.mark, hopen]
    exact congrArg Host.Outcome.next (if_pos hlater)
  case start =>
    rintro s j t r hj rfl rfl hstate hlo hhi hs1 hs2 ha1 ha2 hc1 hc2 hbase hbig hkey
    refine ⟨_, congrArg Host.Outcome.next (hj.runJob rfl _), ?_⟩
    rw [State.ringStart_starts (s := s.begun j) hstate ⟨hlo, hhi⟩ (.inr ⟨hs1, hs2⟩) (.inr ⟨ha1, ha2⟩) (.inr ⟨hc1, by split_ifs <;> omega⟩) hbase
      (by rw [if_neg (by omega)]; exact hbig) hkey]
    have hsize : dBody j.desc 4 4 ≠ 0 := by omega
    have hage : dBody j.desc 8 4 ≠ 0 := by omega
    have hcut : dBody j.desc 12 4 ≠ 0 := by omega
    exact ⟨rfl, rfl, if_neg hsize, if_neg hage, if_neg hcut, rfl, rfl, rfl, rfl, rfl⟩
  case startDefault =>
    rintro s j t r hj rfl rfl hstate hlo hhi hs ha hc hbase hbig hplain
    refine ⟨_, congrArg Host.Outcome.next (hj.runJob rfl _), ?_⟩
    rw [State.ringStart_starts (s := s.begun j) hstate ⟨hlo, hhi⟩ (.inl hs) (.inl ha) (.inl hc) hbase
      (by rw [if_pos hs]; exact hbig) (fun h => absurd (hplain.symm.trans h) Bool.false_ne_true)]
    exact ⟨rfl, if_pos hs, if_pos ha, if_pos hc⟩
  case stop =>
    rintro s j w hj hstate rfl
    have hstop : s.runJob 0x19 (fun _ => none) (fun s j => s.ringStop j) = _ := hj.runJob rfl _
    simp only [State.ringStop, hstate, if_true] at hstop
    exact congrArg (fun (u : State) => Host.Outcome.next (u.rng.rings.keys.foldl (fun u t => (List.range 8).foldl (fun u r => u.stopRing t r) u) u)) hstop
  case resume =>
    rintro s j t r hj rfl rfl hstate hvoid
    have hresume : (s.begun j).ringResume j = _ := if_neg (not_not_intro hstate)
    have hvoid' : ((s.begun j).cr j.id.tid (dBody j.desc 0 1)).voidDue = false := hvoid
    simp only [hvoid', Bool.false_eq_true, if_false] at hresume
    refine ⟨_, congrArg Host.Outcome.next ((hj.runJob rfl _).trans hresume), ?_, rfl⟩
    rw [State.finishWith_cr, State.ringLevel_cr, State.cr_setCr_self, ← hvoid]
    rfl
  case flush =>
    intro s j hj hstate
    exact congrArg Host.Outcome.next ((hj.runJob rfl _).trans (if_neg (not_not_intro hstate)))
  case query =>
    rintro s j q b hj rfl rfl
    exact congrArg Host.Outcome.next (hj.runJob rfl _)

end Sys2Proof.Machine
end

section
/-! Channel-processor and recognizer descriptors (obligation O38). -/
set_option Elab.async false
namespace Sys2Proof.Machine

/-- The instances with what identifies each: its number, owner and machine table. -/
def State.faces (s : State) : List (Nat × Nat × Nat) := s.rcg.insts.map fun x => (x.1, x.2.owner, x.2.mt)

theorem State.faces_of_rcg {s t : State} (h : t.rcg = s.rcg) : t.faces = s.faces := by rw [State.faces, State.faces, h]

/-- A recognizer keeps its owner and table where the identities of all are kept. -/
theorem State.inst_of_faces {s t : State} (h : t.faces = s.faces) {n : Nat} {x : InstS} (hx : s.inst n = some x) :
    ∃ y, t.inst n = some y ∧ y.owner = x.owner ∧ y.mt = x.mt := by
  have hface : ∀ u : State, (u.inst n).map (fun y => (y.owner, y.mt)) = (u.faces.find? fun z => z.1 == n).map Prod.snd := by
    intro u
    simp only [State.inst, State.faces, List.find?_map, Option.map_map]
    rfl
  have ht := hface t
  rw [h, ← hface s, hx] at ht
  obtain ⟨y, hy, hyx⟩ := Option.map_eq_some_iff.1 ht
  exact ⟨y, hy, congrArg Prod.fst hyx, congrArg Prod.snd hyx⟩

theorem State.trigPush_faces (s : State) (t : TrigS) : (s.trigPush t).faces = s.faces := by
  have hup : ∀ owed : List TrigS, (({ s with rcg := { s.rcg with
      owed := owed, insts := s.rcg.insts.map fun x =>
        if x.1 = t.inst then (x.1, { x.2 with drops := min (x.2.drops + 1) (2 ^ 32 - 1) }) else x } } : State).inc RCG_OVER).faces = s.faces := by
    intro owed
    show List.map _ (List.map _ _) = _
    rw [List.map_map]
    exact List.map_congr_left fun x _ => by dsimp only [Function.comp]; split_ifs <;> rfl
  unfold State.trigPush
  dsimp only
  split
  · rfl
  · split
    · exact hup _
    · rfl

theorem State.rcgFeed_faces (s : State) (e ct flags : Nat) (v : Option Int) (past : Int) : (s.rcgFeed e ct flags v past).faces = s.faces := by
  unfold State.rcgFeed
  exact List.foldlRecOn (motive := fun t => t.faces = s.faces) _ _ rfl fun t ht x _ => (State.trigPush_faces t _).trans ht

theorem State.missEp_faces (s : State) (e ct reason : Nat) : (s.missEp e ct reason).faces = s.faces := by
  rw [State.missEp, State.rcgFeed_faces]
  refine (State.faces_of_rcg (part_eq (State.mashFeed_same _ e ct 0 none (.refl 524290) (.refl 524290 _)).rcg (by decide))).trans ?_
  exact State.faces_of_rcg (part_eq (State.missSample_same s e ct reason (.refl 12585506) (.refl 12585506 s)).rcg (by decide))

theorem State.missRaw_faces (s : State) (r : RawS) (reason : Nat) : (s.missRaw r reason).faces = s.faces := by
  unfold State.missRaw
  split
  · exact State.missEp_faces ..
  · rfl

theorem State.enqueueRaw_faces (s : State) (r : RawS) : (s.enqueueRaw r).faces = s.faces := by
  unfold State.enqueueRaw
  split
  · exact State.missRaw_faces ..
  · split
    · rfl
    · exact State.missRaw_faces ..

theorem State.missRaw_ept (s : State) (r : RawS) (reason : Nat) : (s.missRaw r reason).ept = s.ept :=
  part_eq (State.missRaw_same s r reason (.refl 14158370) (.refl 14158370 s)).ept (by decide)

/-- A raw value that joins the queue changes no endpoint record. -/
theorem State.enqueueRaw_ep (s : State) (r : RawS) (e : Nat) : (s.enqueueRaw r).ep e = s.ep e := by
  unfold State.enqueueRaw State.ep
  split
  · rw [State.missRaw_ept]
  · split
    · rfl
    · rw [State.missRaw_ept]; rfl

theorem State.rcgOut_faces (s : State) (n fl : Nat) : (s.rcgOut n fl).faces = s.faces := by
  unfold State.rcgOut
  split
  · rfl
  · exact State.enqueueRaw_faces ..

theorem State.rcgOut_ep (s : State) (n fl e : Nat) : (s.rcgOut n fl).ep e = s.ep e := by
  unfold State.rcgOut
  split
  · rfl
  · exact State.enqueueRaw_ep ..

theorem State.finish_rcg (s : State) (j : JobS) (o : DoneS) : (s.finish j o).rcg = s.rcg :=
  part_eq (State.finish_same s j o (.refl 12582946) (.refl 12582946 s)).rcg (by decide)

theorem State.finish_ept (s : State) (j : JobS) (o : DoneS) : (s.finish j o).ept = s.ept :=
  part_eq (State.finish_same s j o (.refl 12582946) (.refl 12582946 s)).ept (by decide)

theorem State.finish_ep (s : State) (j : JobS) (o : DoneS) (e : Nat) : (s.finish j o).ep e = s.ep e := by
  rw [State.ep, State.finish_ept]; rfl

theorem State.finish_inst (s : State) (j : JobS) (o : DoneS) (n : Nat) : (s.finish j o).inst n = s.inst n := by
  rw [State.inst, State.finish_rcg]; rfl

/-- The first recognizer of a number, changed by f, is the first of it afterwards. -/
theorem State.modInst_inst (s : State) (n : Nat) (f : InstS → InstS) {x : InstS} (hx : s.inst n = some x) : (s.modInst n f).inst n = some (f x) := by
  have hkey : (fun z : Nat × InstS => (if z.1 = n then (n, f z.2) else z).1 == n) = fun z => z.1 == n := by
    funext z; split_ifs with h
    · simp [h]
    · rfl
  rw [State.inst, Option.map_eq_some_iff] at hx
  obtain ⟨p, hp, rfl⟩ := hx
  have hpn : p.1 = n := by simpa using List.find?_some hp
  simp only [State.inst, State.modInst, List.find?_map, Function.comp_def, hkey, hp, Option.map_some, if_pos hpn]

theorem State.instFor_inst {s : State} {j : JobS} {n : Nat} {x : InstS} (h : s.instFor j = some (n, x)) : s.inst n = some x := by
  rw [State.instFor, Option.map_eq_some_iff] at h
  obtain ⟨y, hy, hyx⟩ := h
  cases hyx
  exact hy

/-- A descriptor of a recognizer that its owner gave runs its body. -/
theorem State.Takes.instJob {s : State} {opc : Nat} {j : JobS} (hj : s.Takes opc j) {n : Nat} {x : InstS} (hinst : (s.begun j).instFor j = some (n, x))
    (howner : j.id.tid = x.owner) (body : State → JobS → Nat → InstS → State) : s.instJob opc body = body (s.begun j) j n x := by
  refine (hj.runJob rfl _).trans ?_
  simp only [hinst]
  exact if_neg (not_not_intro howner)

/-- A channel-processor descriptor that its checks pass is taken for its instant (R312, R319). -/
theorem State.Takes.mashJob {s : State} {opc : Nat} {j : JobS} (hj : s.Takes opc j) {cmd : List Nat → MashCmd} (howner : s.mashOwner j = none)
    (hcheck : (s.begun j).mashCheck (dBody j.desc 0 2) (dBody j.desc 2 1) (cmd j.desc) = none) :
    s.mashJob opc cmd = ((s.begun j).mashDo (dBody j.desc 0 2) (dBody j.desc 2 1) (dBody j.desc 8 8) (cmd j.desc)).finishWith j OK := by
  refine (hj.runJob howner _).trans ?_
  simp only [hcheck]

/-- A recognizer that its checks accept gets a number and an endpoint not in use. -/
theorem State.instCheck_free {s : State} {t : Nat} {d : List Nat} {x : InstS} {n e : Nat} (h : s.instCheck t d = .ok (x, n, e)) : s.inst n = none := by
  unfold State.instCheck at h
  dsimp only at h
  split_ifs at h
  split at h
  · next m f hm hf =>
    cases h
    simpa using List.find?_some hm
  · cases h

/-- A recognizer as RCG_CREATE accepts it, at its number, with its output endpoint (R353). -/
def State.addInst (s : State) (tid : Nat) (x : InstS) (n e : Nat) : State :=
  let y := { s.instFresh x with mode := s.rcgMode x }
  let s : State := { s with rcg := { s.rcg with insts := s.rcg.insts ++ [(n, y)] } }
  let s := s.setEp e { src := srcRCGI, ctl := 1, fmt := 0xFFFF, curve := 0xFFFF, quant := 0x80, loc := n }
  s.setOwner e (s.ctx tid).uid

theorem State.addInst_inst {s : State} (tid : Nat) (x : InstS) {n : Nat} (e : Nat) (h : s.inst n = none) :
    (s.addInst tid x n e).inst n = some { s.instFresh x with mode := s.rcgMode x } := by
  have hnone : s.rcg.insts.find? (fun z => z.1 == n) = none := Option.map_eq_none_iff.1 h
  show (List.find? _ (s.rcg.insts ++ [_])).map Prod.snd = _
  rw [List.find?_append, hnone, Option.none_or, List.find?_singleton, if_pos (beq_self_eq_true n)]
  rfl

theorem State.addInst_ep (s : State) (tid : Nat) (x : InstS) (n e : Nat) :
    (s.addInst tid x n e).ep e = { src := srcRCGI, ctl := 1, fmt := 0xFFFF, curve := 0xFFFF, quant := 0x80, loc := n } :=
  State.ep_setEp_self _ e _

theorem State.rcgCreate_exec (s : State) : exec .rcgCreate s = .next (s.runJob 0x40 (fun _ => none) fun s j =>
    match s.instCheck j.id.tid j.args with
    | .error c => (if c = QUOTA_EXCEEDED then s.quotaRefuse else s).finishWith j c
    | .ok (x, n, e) => ((s.addInst j.id.tid x n e).rcgSts.rcgOut n (s.addInst j.id.tid x n e).nowFlags).finish j
        { status := OK, value := (s.addInst j.id.tid x n e).instHandle n, aux := e }) := rfl

/-- Settles O38. -/
theorem engineJobsComplete : Obligations.EngineJobsComplete := by
  refine ⟨?freeze, ?thaw, ?switch, ?syncAt, ?create, ?destroy, ?reset, ?setpar, ?query⟩
  case freeze => exact fun s j hj howner hcheck => congrArg Host.Outcome.next (hj.mashJob howner hcheck)
  case thaw => exact fun s j hj howner hcheck => congrArg Host.Outcome.next (hj.mashJob howner hcheck)
  case switch =>
    rintro s j c hj rfl howner hcheck
    exact congrArg Host.Outcome.next (hj.mashJob (cmd := fun d => .switch (dBody d 4 2) (dBody d 3 1)) howner hcheck)
  case syncAt =>
    intro s j hj hreach
    refine congrArg Host.Outcome.next ((hj.runJob rfl _).trans ?_)
    simp only [hreach]
    rfl
  case create =>
    intro s j x n e hj hx
    have hx := except_ok_of_toOption hx
    refine ⟨(((s.begun j).addInst j.id.tid x n e).rcgSts.rcgOut n ((s.begun j).addInst j.id.tid x n e).nowFlags).finish j
      { status := OK, value := ((s.begun j).addInst j.id.tid x n e).instHandle n, aux := e }, ?_, ?_⟩
    · rw [State.rcgCreate_exec, hj.runJob rfl]
      simp only [hx]
    · obtain ⟨y, hy, howner, hmt⟩ := State.inst_of_faces (State.rcgOut_faces ((s.begun j).addInst j.id.tid x n e).rcgSts n ((s.begun j).addInst j.id.tid x n e).nowFlags)
        (State.addInst_inst j.id.tid x e (State.instCheck_free hx))
      rw [State.finish_inst, State.finish_ep]
      refine ⟨⟨y, hy, howner, hmt⟩, ?_⟩
      have hep := (State.rcgOut_ep ((s.begun j).addInst j.id.tid x n e).rcgSts n ((s.begun j).addInst j.id.tid x n e).nowFlags e).trans (State.addInst_ep (s.begun j) j.id.tid x n e)
      exact ⟨congrArg EpS.src hep, congrArg EpS.loc hep⟩
  case destroy =>
    intro s j n x hj hinst howner hfeeds
    refine congrArg Host.Outcome.next ((hj.runJob rfl _).trans ?_)
    have hmay : ¬ (j.id.tid ≠ x.owner ∧ (!isT0 j.id.tid) = true) := by
      rintro ⟨h, h0⟩
      rcases howner with h' | h'
      · exact h h'
      · simp [h'] at h0
    simp only [hinst, if_neg hmay, hfeeds]
    rfl
  case reset =>
    exact fun s j n x hj hinst howner => congrArg Host.Outcome.next (hj.instJob hinst howner _)
  case setpar =>
    intro s j n x hj hinst howner hpars
    refine ⟨_, congrArg Host.Outcome.next ((hj.instJob hinst howner _).trans (if_neg (by rw [hpars]; exact Bool.false_ne_true))), ?_⟩
    rw [State.finishWith, State.finish_inst, State.modInst_inst _ _ _ (State.instFor_inst hinst)]
    exact ⟨_, rfl, rfl, rfl, rfl⟩
  case query =>
    exact fun s j n x hj hinst howner => congrArg Host.Outcome.next (hj.instJob hinst howner _)

end Sys2Proof.Machine
end

section
/-! Tenant descriptors (obligation O39). -/
set_option Elab.async false
namespace Sys2Proof.Machine

/-- A tenant descriptor whose issuer may give it is not held back while no administration is under way. -/
theorem State.Takes.tenJob {s : State} {opc : Nat} {j : JobS} (hj : s.Takes opc j) (hfree : s.TenFree)
    (hissuer : (opc ≠ 0x53 ∨ isT0 j.id.tid = true) → s.fromKeystone j.id.src j.id.tid = true) (body : State → JobS → State) :
    s.tenJob opc body = body (s.begun j) j := by
  obtain ⟨hdist, hcur, hat, hxfers⟩ := hfree
  have hissuer' : (if (opc ≠ 0x53 ∨ isT0 j.id.tid = true) ∧ (!s.fromKeystone j.id.src j.id.tid) = true then some ROLE_FORBIDDEN else none) = none :=
    if_neg fun h => by simp [hissuer h.1] at h
  refine (if_neg (by simp [hdist, hcur, hat, hxfers])).trans (hj.runJob hissuer' body)

/-- An item that every hub can be sent and that this hub takes is spread. -/
theorem State.distribute_eq {s : State} {kind : Nat} {item : List Nat} (h : s.Spreads kind item) (j : JobS) : s.distribute j kind item = s.spread j kind item := by
  obtain ⟨hpaths, htaken⟩ := h
  rw [State.distribute, State.spread]
  simp only [hpaths, htaken]
  rfl

theorem State.setLeases_leases (s : State) (l : List LeaseS) : (s.setLeases l).ten.leases = l :=
  congrArg TenS.leases (part_eq (State.tenSts_same ({ s with ten := { s.ten with leases := l } } : State) (.refl 2) (.refl 2 _)).ten (by decide))

theorem State.finish_ten (s : State) (j : JobS) (o : DoneS) : (s.finish j o).ten = s.ten :=
  part_eq (State.finish_same s j o (.refl 12582946) (.refl 12582946 s)).ten (by decide)

/-- Settles O39. -/
theorem tenantJobsComplete : Obligations.TenantJobsComplete := by
  refine ⟨?create, ?change, ?destroy, ?reset, ?bind, ?grant, ?revoke, ?setKey⟩
  case create =>
    intro s j hfree hj hkey hpass hspreads
    refine congrArg Host.Outcome.next ((hj.tenJob hfree (fun _ => hkey) _).trans ?_)
    simp only [hpass]
    exact State.distribute_eq hspreads j
  case change =>
    intro s j hfree hj hkey hpass hspreads
    refine congrArg Host.Outcome.next ((hj.tenJob hfree (fun _ => hkey) _).trans ?_)
    simp only [hpass]
    exact State.distribute_eq hspreads j
  case destroy =>
    rintro s w j rfl hfree hj hkey hpass hspreads
    refine congrArg Host.Outcome.next ((hj.tenJob hfree (fun _ => hkey) _).trans ?_)
    simp only [hpass]
    exact State.distribute_eq hspreads j
  case reset =>
    rintro s w j rfl hfree hj hkey hpass hspreads
    refine congrArg Host.Outcome.next ((hj.tenJob hfree (fun h => hkey (h.resolve_left (not_not_intro rfl))) _).trans ?_)
    simp only [hpass]
    exact State.distribute_eq hspreads j
  case bind =>
    rintro s j b hfree hj hkey rfl hpass hspreads
    refine congrArg Host.Outcome.next ((hj.tenJob hfree (fun _ => hkey) _).trans ?_)
    simp only [hpass]
    exact State.distribute_eq hspreads j
  case grant =>
    intro s j hj hissuer hpass
    refine ⟨_, congrArg Host.Outcome.next ((hj.runJob (by rw [hissuer]; rfl) _).trans (by simp only [hpass]; rfl)), ?_⟩
    rw [State.finish_ten, State.setLeases_leases]
    rfl
  case revoke =>
    intro s j l hj hl hmay
    refine congrArg Host.Outcome.next ((hj.runJob (by simp only [hl, if_pos hmay]) _).trans ?_)
    have hl' : (s.begun j).leaseFor j = some l := hl
    simp only [hl']
  case setKey =>
    rintro s j key gen hj rfl rfl hkey hgen hnew hworn
    have hok : ¬ ((((List.range 16).map fun k => dBody j.desc k 1).all fun b => b == 0) = true ∨ dBody j.desc 16 1 = 0 ∨
        dBody j.desc 16 1 = ((s.begun j).ctx j.id.tid).keygen) := by
      rintro (h | h | h)
      · exact Bool.false_ne_true (hkey.symm.trans h)
      · exact hgen h
      · exact hnew h
    have hfit : ¬ (s.begun j).on NVS_RGN3_WORN = true := by rw [State.begun_on, hworn]; exact Bool.false_ne_true
    refine ⟨_, congrArg Host.Outcome.next ((hj.runJob rfl _).trans ((if_neg hok).trans (if_neg hfit))), rfl, rfl⟩

end Sys2Proof.Machine
end

section
/-! A remote command whose resend waits for a new epoch (obligation O40). -/
set_option Elab.async false
namespace Sys2Proof.Machine

/-- A remote command rejected with EPOCH_STALE, whose one resend waits. -/
def staleCmd : RemS := { tag := 9, tid := 0, slot := 1, dst := 3, body := [1], at_ := 0, stale := true }

/-- That command two seconds on. -/
def staleRemote : State :=
  { State.reset with
    time := { State.reset.time with acc := 2000000000 * 2 ^ 32 }
    rng := { State.reset.rng with rems := [staleCmd] } }

/-- Refutes O40: a command whose resend waits for the epoch (R518) is not sent once more when REMTMO has passed. -/
theorem not_schedulerInstantsComplete : ¬ Obligations.SchedulerInstantsComplete := by
  rintro ⟨-, -, -, -, -, -, -, -, hresend⟩
  have hexec := hresend staleRemote 9 staleCmd rfl (by decide +kernel) rfl rfl
  have hwaits : (staleRemote.rng.rems.find? fun k => k.tag == 9).map RemS.resent = some false := rfl
  have hsent := congrArg (fun t : State => (t.rng.rems.find? fun k => k.tag == 9).map RemS.resent) (Host.Outcome.next.inj hexec)
  exact absurd (hwaits.symm.trans hsent) (by decide +kernel)

end Sys2Proof.Machine
end

section
/-! A time condition that its parameters made true (obligation O42). -/
set_option Elab.async false
namespace Sys2Proof.Machine

/-- A machine table of one state whose one condition is a DWELL of threshold 0. -/
def dwellTable : List Nat := [0, 1, 1] ++ List.replicate 29 0 ++ List.replicate 8 0 ++ List.replicate 28 255 ++ [5] ++ List.replicate 15 0

/-- A recognizer of it that entered its state at 0 and took its parameters at 4000. -/
def reparameterized : InstS := { mt := 0, cls := 0, watch := false, owner := 0, ins := [], tgts := [], pars := [], armE := 4000 }

/-- That recognizer as number 2, at CT 5000. -/
def dwellArmed : State :=
  let s := State.reset.f BOOT_STS_STAGE 8
  { s with
    time := { s.time with acc := 5000 * 2 ^ 32 }
    rcg := { tables := ({} : Tbl (List Nat)).set (fun _ => []) 0 dwellTable, insts := [(2, reparameterized)] } }

/-- Refutes O42: a DWELL condition that RCG_SETPAR makes true triggers at the instant of the SETPAR (R355), not at the entry of its state plus
its threshold. -/
theorem not_enginesComplete : ¬ Obligations.EnginesComplete := by
  rintro ⟨-, -, -, -, -, -, -, -, -, -, htime, -⟩
  obtain ⟨t, hexec, hqueue, -⟩ := htime dwellArmed 2 reparameterized 0 rfl (by decide +kernel) (by decide +kernel) (by decide +kernel)
  obtain rfl := Host.Outcome.next.inj hexec
  exact absurd (congrArg (List.map TrigS.ct) hqueue) (by decide +kernel)

end Sys2Proof.Machine
end

section
/-! Two commands in one slot of a command ring (obligation O44). -/
set_option Elab.async false
namespace Sys2Proof.Machine

/-- The command whose result block waits for its confirming read, after a failed one. -/
def awaitingResult : CmdS := { slot := 1, desc := [], res := 1, resFailed := true }

/-- Tenant 0's command ring after the host's index went round it: slot 1 holds that command and a later one. -/
def slotTwice : State := (State.reset.f BOOT_STS_STAGE 8).setTr 0 { cmds := [awaitingResult, { slot := 1, desc := [] }] }

/-- Refutes O44: where two commands stand in one slot, the confirmed result block marks as repeated (R414) the one whose write had failed, and
the other not. -/
theorem not_ringTransfersComplete : ¬ Obligations.RingTransfersComplete := by
  rintro ⟨-, -, -, -, -, hresult, -⟩
  have hexec := hresult slotTwice 0 awaitingResult (by decide +kernel) (by decide) rfl
  have hcmds := congrArg (fun t : State => (t.tr 0).cmds.map CmdS.retried) (Host.Outcome.next.inj hexec)
  exact absurd hcmds (by decide +kernel)

end Sys2Proof.Machine
end

section
/-! The event matrix's commands (obligation O46). -/
set_option Elab.async false
namespace Sys2Proof.Machine

theorem wbits_foldl_merge_kept {fs : List Fd} (hf : ∀ f ∈ fs, f.lo ≤ f.hi ∧ f.hi < 32) {h l : Nat}
    (hd : ∀ f ∈ fs, (f.acc = .ro ∨ f.acc = .wo) ∨ h < f.lo ∨ f.hi < l) (w v : Word) : wbits (fs.foldl (fun w f => f.merge w v) w) h l = wbits w h l := by
  induction fs generalizing w with
  | nil => rfl
  | cons f fs ih =>
    obtain ⟨hf, hfs⟩ := List.forall_mem_cons.mp hf
    obtain ⟨hd, hds⟩ := List.forall_mem_cons.mp hd
    rw [List.foldl_cons, ih hfs hds]
    rcases hd with (hacc | hacc) | hd
    · rw [Fd.merge, hacc]
    · rw [Fd.merge, hacc]
    · rw [Fd.merge_apart hf hd]

/-- A field of one bit is that bit. -/
theorem wbits_bit (v : Word) (i : Nat) : wbits v i i = b2n (wbit v i) := by
  rw [wbits, wbit, nbits, nbit, Nat.add_sub_cancel_left, Nat.pow_one, b2n]
  rcases Nat.mod_two_eq_zero_or_one (v.toNat / 2 ^ i) with h | h <;> simp [h]

/-- A field that only the hub writes keeps its value. -/
theorem State.store_g_kept {r : Reg} (hr : r.Tidy) {F : Fld} {i j : Nat} (hoff : F.off = r.at i j)
    (hd : ∀ f ∈ r.fds, (f.acc = .ro ∨ f.acc = .wo) ∨ F.hi < f.lo ∨ f.hi < F.lo) (s : State) (v : Word) : (s.store r i j v).g F = s.g F := by
  rw [State.g, State.g, hoff, State.store, State.rd_wr_self, Reg.merge_eq]
  exact wbits_foldl_merge_kept hr.1 hd _ _

/-- A read of a word of a core block that runs answers it and acts, whichever clock the word itself is on (R577). -/
theorem State.barRead_core {s : State} {e : Nat} (he : CoreErr e) {f : Fld} (h : s.awake.stopped e = false) (act : State → State) :
    s.barRead e f act = { act s.awake with rdata := (s.awake.rd f.off).toNat } := by
  have hrun : s.awake.stoppedAt e f.off = false := by
    unfold State.stoppedAt
    split
    · exact State.stopped_guard he h
    · exact h
  simp only [State.awake] at hrun ⊢
  simp only [State.barRead, hrun, Bool.false_eq_true, if_false]

theorem State.cq_of_evm {s t : State} (h : t.evm = s.evm) (q : Nat) : t.cq q = s.cq q := by rw [State.cq, State.cq, h]

@[simp] theorem State.setCq_cq (s : State) (q : Nat) (c : CqS) : (s.setCq q c).cq q = c := Tbl.get_set_self _ _ _ _

/-- What a queue shows of itself: its depth, and the fields of its head. -/
theorem State.setCq_depth (s : State) (q : Nat) (c : CqS) : (s.setCq q c).g (EVM_QCTL_DEPTH q) = c.ents.length % 2 ^ 5 := by
  simp only [State.setCq, State.f64]
  rw [State.g_f_apart _ (by simp [Fld.fits]) _ (.inl (by simp)), State.g_f_apart _ (by simp [Fld.fits]) _ (.inl (by simp)),
    State.g_f_apart _ (by simp [Fld.fits]) _ (.inl (by simp)), State.g_f_apart _ (by simp [Fld.fits]) _ (.inl (by simp)),
    State.g_f_self _ (by simp [Fld.fits])]
  rfl

theorem State.setCq_eq (s : State) (q : Nat) (c : CqS) : s.setCq q c = { s with regs := (s.setCq q c).regs, evm := (s.setCq q c).evm } := by
  unfold State.setCq State.f64 State.f State.wr
  dsimp only

/-- FLUSH empties a queue (R561). -/
theorem State.qctlWrite_flush (s : State) (q : Nat) : s.qctlWrite q 0x01000000 = (s.setCq q {}).f (EVM_QCTL_LOST q) 0 := if_pos (by decide)

/-- A write of EVM_CHcCFG that nothing refuses is stored, and locks its row under the guard lock (R557). -/
theorem State.chCfgWrite_stores {s : State} {c : Nat} (hc : c < 64) {v : Word} (hlocked : s.on (EVM_CHCFG_LOCKED c) = false)
    (hcons : wbits v 7 1 < 90 ∨ wbits v 7 1 = 127) (hfree : wbits v 7 1 = 127 ∨ s.consTaken c (wbits v 7 1) = false) :
    s.chCfgWrite c v =
      if s.on GRD_LOCK_LOCK && wbit v 0 && decide (wbits v 7 1 < 32) then (s.store rEVM_CHCFG c 0 v).f (EVM_CHCFG_LOCKED c) 1
      else s.store rEVM_CHCFG c 0 v := by
  have hres : ¬ (90 ≤ wbits v 7 1 ∧ wbits v 7 1 ≤ 126) := by omega
  have htaken : ¬ (wbits v 7 1 ≠ 127 ∧ s.consTaken c (wbits v 7 1) = true) := by
    rintro ⟨h, h'⟩
    exact Bool.false_ne_true ((hfree.resolve_left h).symm.trans h')
  have hlock : (s.store rEVM_CHCFG c 0 v).on GRD_LOCK_LOCK = s.on GRD_LOCK_LOCK := by
    rw [State.on, State.on, State.store_g_ne]
    show 0x2A004 ≠ 0x25100 + 0x40 * c + 0 * 0
    omega
  unfold State.chCfgWrite
  simp only [hlocked, Bool.false_eq_true, if_false, if_neg hres, if_neg htaken, hlock]

/-- What a channel shows once its configuration is stored. -/
theorem State.storedChCfg (s : State) (c : Nat) (v : Word) (hlocked : s.on (EVM_CHCFG_LOCKED c) = false) :
    (fun t : State => t.on (EVM_CHCFG_EN c) = wbit v 0 ∧ t.g (EVM_CHCFG_CONS c) = wbits v 7 1 ∧
      t.on (EVM_CHCFG_LOCKED c) = (s.on GRD_LOCK_LOCK && wbit v 0 && decide (wbits v 7 1 < 32)))
    (if s.on GRD_LOCK_LOCK && wbit v 0 && decide (wbits v 7 1 < 32) then (s.store rEVM_CHCFG c 0 v).f (EVM_CHCFG_LOCKED c) 1
      else s.store rEVM_CHCFG c 0 v) := by
  have hen : (s.store rEVM_CHCFG c 0 v).g (EVM_CHCFG_EN c) = wbits v 0 0 := State.store_g (by decide) rfl (show ∃ f ∈ rEVM_CHCFG.fds, f.hi = 0 ∧ f.lo = 0 ∧ (f.acc = .rw ∨ f.acc = .rwl) by decide) s v
  have hcons : (s.store rEVM_CHCFG c 0 v).g (EVM_CHCFG_CONS c) = wbits v 7 1 := State.store_g (by decide) rfl (show ∃ f ∈ rEVM_CHCFG.fds, f.hi = 7 ∧ f.lo = 1 ∧ (f.acc = .rw ∨ f.acc = .rwl) by decide) s v
  have hlock : (s.store rEVM_CHCFG c 0 v).g (EVM_CHCFG_LOCKED c) = s.g (EVM_CHCFG_LOCKED c) :=
    State.store_g_kept (by decide) rfl (show ∀ f ∈ rEVM_CHCFG.fds, (f.acc = .ro ∨ f.acc = .wo) ∨ 8 < f.lo ∨ f.hi < 8 by decide) s v
  have hon : (s.store rEVM_CHCFG c 0 v).on (EVM_CHCFG_EN c) = wbit v 0 := by
    rw [State.on, hen, wbits_bit]
    cases wbit v 0 <;> rfl
  have hkept : (s.store rEVM_CHCFG c 0 v).on (EVM_CHCFG_LOCKED c) = false := by rw [State.on, hlock]; exact hlocked
  cases h : s.on GRD_LOCK_LOCK && wbit v 0 && decide (wbits v 7 1 < 32)
  · exact ⟨hon, hcons, hkept⟩
  · refine ⟨?_, ?_, State.on_f_one _ (by simp [Fld.fits])⟩
    · rw [if_pos rfl, State.on, State.g_f_apart _ (by simp [Fld.fits]) _ (.inr (.inl (by simp)))]
      exact hon
    · rw [if_pos rfl, State.g_f_apart _ (by simp [Fld.fits]) _ (.inr (.inl (by simp)))]
      exact hcons

/-- A row of a channel that is not locked takes the word (R557). -/
theorem State.chEnWrite_stores {s : State} {c w : Nat} {v : Word} (h : s.on (EVM_CHCFG_LOCKED c) = false) :
    s.chEnWrite c w v = s.f (chenFld c w) v.toNat := if_neg (by rw [h]; exact Bool.false_ne_true)

theorem State.f_chenFld_g (s : State) (c w : Nat) (v : Word) : (s.f (chenFld c w) v.toNat).g (chenFld c w) = v.toNat := by
  rw [State.g_f_self _ (by simp [Fld.fits, chenFld])]
  exact Nat.mod_eq_of_lt v.isLt

theorem State.setCq_rdata_cq (s : State) (q : Nat) (c : CqS) (r : Nat) : ({ s.setCq q c with rdata := r } : State).cq q = c :=
  (State.cq_of_evm rfl q).trans (State.setCq_cq s q c)

/-- What is read of a queue's head, and the head held for it (R559). -/
theorem State.cqHold_reads {s : State} (h : s.awake.stopped EVM_ERRSTS = false) (f : Fld) (q : Nat) :
    ∃ t, s.barRead EVM_ERRSTS f (fun s => s.cqHold q) = t ∧ t.rdata = (s.awake.rd f.off).toNat ∧ (t.cq q).ents = (s.awake.cq q).ents ∧
      (t.cq q).held = !(s.awake.cq q).ents.isEmpty := by
  refine ⟨_, State.barRead_core (by decide) h _, rfl, ?_⟩
  rw [State.cqHold, State.setCq_rdata_cq]
  exact ⟨rfl, rfl⟩

/-- A head popped, and what is read of it (R559). -/
theorem State.cqPop_reads {s : State} (h : s.awake.stopped EVM_ERRSTS = false) (f : Fld) (q : Nat) :
    ∃ t, s.barRead EVM_ERRSTS f (fun s => s.cqPop q) = t ∧ t.rdata = (s.awake.rd f.off).toNat ∧ (t.cq q).ents = (s.awake.cq q).ents.drop 1 ∧
      (t.cq q).held = false ∧ t = { s.awake with regs := t.regs, rdata := t.rdata, evm := t.evm } := by
  refine ⟨_, State.barRead_core (by decide) h _, rfl, ?_⟩
  rw [State.cqPop, State.setCq_rdata_cq]
  exact ⟨rfl, rfl, congrArg (fun t : State => { t with rdata := (s.awake.rd f.off).toNat }) (State.setCq_eq _ _ _)⟩

/-- Settles O46. -/
theorem eventCommandsComplete : Obligations.EventCommandsComplete := by
  refine ⟨fun s v h => ?pulse, fun s => rfl, fun s q _ h => ?holdHead, fun s q _ h => ?holdLo, fun s q _ h => ?pop, fun s q _ h => ?flush,
    fun s c v hc h hlocked hcons hfree => ?config, fun s c w v _ hw h hlocked => ?row, fun s c v _ h hlocked => ?row11⟩
  case pulse => exact congrArg Host.Outcome.next (State.barWrite_accepted h (by decide) _ _ _)
  case holdHead =>
    obtain ⟨t, hread, heff⟩ := State.cqHold_reads h (EVM_QHEAD_PROD q) q
    exact ⟨t, congrArg Host.Outcome.next hread, heff⟩
  case holdLo =>
    obtain ⟨t, hread, heff⟩ := State.cqHold_reads h (EVM_QCTLO q) q
    exact ⟨t, congrArg Host.Outcome.next hread, heff⟩
  case pop =>
    obtain ⟨t, hread, heff⟩ := State.cqPop_reads h (EVM_QCTHI q) q
    exact ⟨t, congrArg Host.Outcome.next hread, heff⟩
  case flush =>
    refine completes rfl ((State.barWrite_accepted h (by decide) _ _ _).trans (State.qctlWrite_flush _ q)) ⟨?_, ?_, ?_, ?_⟩
    · exact (State.cq_of_evm (State.f_evm _ _ _) q).trans (State.setCq_cq _ _ _)
    · exact State.g_f_self _ (by simp [Fld.fits]) _
    · rw [State.g_f_apart _ (by simp [Fld.fits]) _ (.inr (.inl (by simp))), State.setCq_depth]
      rfl
    · unfold State.setCq State.f64 State.f State.wr
      dsimp only
  case config =>
    have hexec : exec (.channelConfigWrite c 12 v) s = .next (s.barWrite rEVM_CHCFG c 0 v fun s => s.chCfgWrite c v) :=
      congrArg Host.Outcome.next (if_pos rfl)
    exact completes hexec ((State.barWrite_accepted h (by decide) _ _ _).trans (State.chCfgWrite_stores hc hlocked hcons hfree))
      (State.storedChCfg s.awake c v hlocked)
  case row =>
    have hexec : exec (.channelConfigWrite c w v) s = .next (s.barWrite rEVM_CHEN c w v fun s => s.chEnWrite c w v) :=
      congrArg Host.Outcome.next ((if_neg (by omega)).trans (if_neg (by omega)))
    exact completes hexec ((State.barWrite_accepted h (by decide) _ _ _).trans (State.chEnWrite_stores hlocked)) ⟨State.f_chenFld_g _ c w v, rfl⟩
  case row11 =>
    have hexec : exec (.channelConfigWrite c 11 v) s = .next (s.barWrite rEVM_CHEN11 c 0 v fun s => s.chEnWrite c 11 v) :=
      congrArg Host.Outcome.next ((if_neg (by decide)).trans (if_pos rfl))
    exact completes hexec ((State.barWrite_accepted h (by decide) _ _ _).trans (State.chEnWrite_stores hlocked)) (State.f_chenFld_g _ c 11 v)

end Sys2Proof.Machine
end

section
/-! The interrupt controller's commands (obligation O45). -/
set_option Elab.async false
namespace Sys2Proof.Machine

/-- t follows s by the controller's own work: sources stay ACTIVE or not and forced or not, stacks stay, and ICU_CFG is as it was. -/
structure Settled (s t : State) : Prop where
  active : ∀ n, (t.src n).active = (s.src n).active
  force : ∀ n, (t.src n).force = (s.src n).force
  stack : ∀ k, (t.tgt k).stack = (s.tgt k).stack
  cfg : t.rd rICU_CFG.off = s.rd rICU_CFG.off

theorem Settled.refl (s : State) : Settled s s := ⟨fun _ => rfl, fun _ => rfl, fun _ => rfl, rfl⟩

theorem Settled.trans {s t u : State} (h : Settled s t) (h' : Settled t u) : Settled s u :=
  ⟨fun n => (h'.active n).trans (h.active n), fun n => (h'.force n).trans (h.force n), fun k => (h'.stack k).trans (h.stack k), h'.cfg.trans h.cfg⟩

theorem Settled.foldl {α : Type} {op : State → α → State} (hop : ∀ s x, Settled s (op s x)) (l : List α) (s : State) : Settled s (l.foldl op s) := by
  induction l generalizing s with
  | nil => exact .refl s
  | cons x l ih => exact (hop s x).trans (ih _)

theorem Settled.of_parts {s t : State} (hsrcs : t.icu.srcs = s.icu.srcs) (htgts : t.icu.tgts = s.icu.tgts) (hcfg : t.rd rICU_CFG.off = s.rd rICU_CFG.off) :
    Settled s t :=
  ⟨fun n => by rw [State.src, State.src, hsrcs], fun n => by rw [State.src, State.src, hsrcs], fun k => by rw [State.tgt, State.tgt, htgts], hcfg⟩

/-- A field of another register is written. -/
theorem Settled.f (s : State) {f : Fld} (h : rICU_CFG.off ≠ f.off) (v : Nat) : Settled s (s.f f v) := .of_parts rfl rfl (State.rd_f_ne s v h)

theorem Settled.setSrc (s : State) {n : Nat} {r : SrcS} (hactive : r.active = (s.src n).active) (hforce : r.force = (s.src n).force) :
    Settled s (s.setSrc n r) := by
  have hsrc : ∀ m, ((s.setSrc n r).src m).active = (s.src m).active ∧ ((s.setSrc n r).src m).force = (s.src m).force := fun m => by
    rw [State.src_setSrc]
    split
    · next e => exact e ▸ ⟨hactive, hforce⟩
    · exact ⟨rfl, rfl⟩
  exact ⟨fun m => (hsrc m).1, fun m => (hsrc m).2, fun _ => rfl, rfl⟩

theorem Settled.setTgt (s : State) {k : Nat} {t : TgtS} (h : t.stack = (s.tgt k).stack) : Settled s (s.setTgt k t) := by
  refine ⟨fun _ => rfl, fun _ => rfl, fun j => ?_, rfl⟩
  by_cases e : j = k
  · rw [e, State.tgt_setTgt_self, h]
  · rw [State.tgt_setTgt_ne _ _ e]

theorem Settled.settleSrc (s : State) (n : Nat) : Settled s (s.settleSrc n) := by
  unfold State.settleSrc
  dsimp only
  split
  · split
    · exact .setSrc s rfl rfl
    · split
      · have hnumber : Settled s { s with icu := { s.icu with eligN := s.icu.eligN + 1 } } := .of_parts rfl rfl rfl
        have hset : Settled s (({ s with icu := { s.icu with eligN := s.icu.eligN + 1 } } : State).setSrc n { s.src n with
            win := some ((s.src n).win.getD s.elapsed), elig := some s.icu.eligN
            route := s.chooseTarget { s.src n with win := some ((s.src n).win.getD s.elapsed) } }) := hnumber.trans (.setSrc _ rfl rfl)
        split
        · exact hset
        · exact hset.trans (.f _ (by decide) _)
      · exact .setSrc s rfl rfl
  · exact .setSrc s rfl rfl

theorem Settled.setMsix (s : State) (k : Nat) (m : MsixS) : Settled s (s.setMsix k m) := .of_parts rfl rfl rfl

theorem Settled.out (s : State) (l : List Out) : Settled s { s with out := l } := .of_parts rfl rfl rfl

theorem Settled.sendMsix (s : State) (k : Nat) : Settled s (s.sendMsix k) := by
  unfold State.sendMsix
  dsimp only
  split
  · exact .setMsix s k _
  · exact ((Settled.setMsix s k _).trans (.f _ (by decide) _)).trans (.out _ _)

theorem Settled.flushMsix (s : State) (k : Nat) : Settled s (s.flushMsix k) := by
  unfold State.flushMsix
  split
  · exact .sendMsix s k
  · exact .refl s

theorem Settled.announce (again : Bool) (s : State) (k : Nat) : Settled s (s.announce again k) := by
  unfold State.announce
  split
  · exact .setTgt s rfl
  · next n _ =>
    have hann : Settled s (s.setTgt k { s.tgt k with ann := (s.src n).prio }) := .setTgt s rfl
    split
    · exact .refl s
    · split
      · exact hann.trans (.sendMsix _ k)
      · exact .refl s

theorem Settled.icuSts (s : State) : Settled s s.icuSts := (Settled.f s (by decide) _).trans (.f _ (by decide) _)

theorem Settled.settle (s : State) : Settled s s.settle := by
  unfold State.settle
  split
  · exact .refl s
  · exact ((Settled.foldl .settleSrc _ s).trans (.foldl (.announce false) _ _)).trans (.icuSts _)

theorem Settled.settleAt (s : State) (k : Nat) : Settled s (s.settleAt k) := by
  unfold State.settleAt
  split
  · exact .refl s
  · refine (((Settled.foldl .settleSrc _ s).trans (.announce true _ k)).trans (.foldl (fun u j => ?_) _ _)).trans (.icuSts _)
    split
    · exact .refl u
    · exact .announce false u j

theorem Settled.announceAll (s : State) : Settled s s.announceAll := by
  unfold State.announceAll
  split
  · exact (Settled.foldl (.announce true) _ s).trans (.foldl .flushMsix _ _)
  · exact .refl s

/-- An arrival changes no force. -/
theorem State.arrive_force (s : State) (n : Nat) : ((s.arrive n).src n).force = (s.src n).force := by
  unfold State.arrive
  dsimp only
  split
  · rw [State.src_setSrc_self]
    split <;> rfl
  · rfl

theorem State.forceOn_force (s : State) (n : Nat) : ((s.forceOn n).src n).force = true := by
  unfold State.forceOn
  rw [(Settled.settle _).force]
  split
  · rw [State.arrive_force, State.src_setSrc_self]
  · rw [State.src_setSrc_self]

/-- The removal of the forces writes no register. -/
theorem State.clearForces_regs (s : State) : s.clearForces.regs = s.regs :=
  List.foldlRecOn (motive := fun t : State => t.regs = s.regs) _ _ rfl fun _ h _ _ => h

/-- ICU_CFG holds what a write left in it. -/
theorem State.icuCfgWrite_cfg (s : State) (v : Word) : (s.icuCfgWrite v).rd rICU_CFG.off = (s.store rICU_CFG 0 0 v).rd rICU_CFG.off := by
  have hclear : ∀ u : State, u.clearForces.rd rICU_CFG.off = u.rd rICU_CFG.off := fun u => by rw [State.rd, State.rd, State.clearForces_regs]
  unfold State.icuCfgWrite
  dsimp only
  have hall : ∀ u : State, u.rd rICU_CFG.off = (s.store rICU_CFG 0 0 v).rd rICU_CFG.off →
      (if s.on ICU_CFG_GDIS && !u.settle.on ICU_CFG_GDIS then u.settle.announceAll else u.settle).rd rICU_CFG.off =
        (s.store rICU_CFG 0 0 v).rd rICU_CFG.off := fun u h => by
    split
    · exact (((Settled.settle u).trans (.announceAll _)).cfg).trans h
    · exact (Settled.settle u).cfg.trans h
  refine hall _ ?_
  split
  · exact hclear _
  · rfl

/-- A claim of source n at target k (R543): the word read, the source ACTIVE and stacked. -/
theorem State.take_claims (s : State) (k n : Nat) : (s.take k n).rdata = claimWord n (s.src n).prio OK ∧ ((s.take k n).src n).active = true ∧
    ((s.take k n).tgt k).stack = (n, (s.src n).prio) :: (s.tgt k).stack := by
  have hsrc : ∀ u : State, ({ u.settle with rdata := claimWord n (s.src n).prio OK } : State).src n = u.settle.src n := fun _ => rfl
  have htgt : ∀ u : State, ({ u.settle with rdata := claimWord n (s.src n).prio OK } : State).tgt k = u.settle.tgt k := fun _ => rfl
  have hkeep : ∀ (u : State) (r : SrcS), (u.setSrc n r).tgt k = u.tgt k := fun _ _ => rfl
  refine ⟨rfl, ?_, ?_⟩
  · rw [State.take, hsrc, (Settled.settle _).active, State.src_setSrc_self]
  · rw [State.take, htgt, (Settled.settle _).stack, hkeep, State.tgt_setTgt_self]
    exact congrArg TgtS.stack (State.tgt_setTgt_self s k _)

/-- What a write of EOI does once the page answers (R545). -/
def State.eoiWrite (s : State) (k : Nat) (v : Word) : State :=
  match (s.tgt k).stack with
  | (n, _) :: rest =>
    if v.toNat = n then
      let s := s.setStack k rest
      let s := s.setTgt k { s.tgt k with lastErr := OK }
      let r := s.src n
      let s := s.setSrc n { r with active := false, route := if r.repend then some k else none }
      s.settleAt k
    else (s.setTgt k { s.tgt k with lastErr := NOT_IN_STATE }).inc ICU_EOIERR
  | [] => (s.setTgt k { s.tgt k with lastErr := NOT_IN_STATE }).inc ICU_EOIERR

theorem State.eoi_exec {s : State} (h : s.awake.stopped ICU_ERRSTS = false) (k : Nat) (v : Word) : exec (.eoi k v) s = .next (s.awake.eoiWrite k v) :=
  congrArg Host.Outcome.next (if_neg (by rw [← State.awake, h]; exact Bool.false_ne_true))

/-- The EOI of the running source unstacks it. -/
theorem State.eoiWrite_ends {s : State} {k p : Nat} {rest : List (Nat × Nat)} {v : Word} (h : (s.tgt k).stack = (v.toNat, p) :: rest) :
    ((s.eoiWrite k v).tgt k).stack = rest ∧ ((s.eoiWrite k v).src v.toNat).active = false := by
  have hkeep : ∀ (u : State) (r : SrcS), (u.setSrc v.toNat r).tgt k = u.tgt k := fun _ _ => rfl
  have hstack : ((s.setStack k rest).tgt k).stack = rest := congrArg TgtS.stack (State.tgt_setTgt_self s k _)
  simp only [State.eoiWrite, h, if_true]
  refine ⟨?_, ?_⟩
  · rw [(Settled.settleAt _ k).stack, hkeep, State.tgt_setTgt_self, hstack]
  · rw [(Settled.settleAt _ k).active, State.src_setSrc_self]

/-- Any other EOI is an error of its page. -/
theorem State.eoiWrite_errs {s : State} {k : Nat} {v : Word} (h : ((s.tgt k).stack.head?.map Prod.fst) ≠ some v.toNat) :
    s.eoiWrite k v = (s.setTgt k { s.tgt k with lastErr := NOT_IN_STATE }).inc ICU_EOIERR := by
  unfold State.eoiWrite
  split
  · next n p rest hstack => exact if_neg fun e => h (by rw [hstack, e]; rfl)
  · rfl

theorem wbits_word (w : Word) : wbits w 31 0 = w.toNat := by
  rw [wbits, nbits, Nat.pow_zero, Nat.div_one]
  exact Nat.mod_eq_of_lt w.isLt

theorem wput_word (w x : Word) : wput w 31 0 x.toNat = x := by
  refine BitVec.eq_of_toNat_eq ?_
  rw [← wbits_word (wput w 31 0 x.toNat), wbits_wput_self w (by decide) (by decide)]
  exact Nat.mod_eq_of_lt x.isLt

/-- A register of bits cleared by writing ones keeps those that the word has as zeros (R8). -/
theorem merge_hubLatLo (w v : Word) : rICU_HUBLATLO.merge w v = w &&& ~~~v := by
  have hclear : Nat.land (wbits w 31 0) (Nat.xor (wbits v 31 0) (2 ^ 32 - 1)) = (w &&& ~~~v).toNat := by
    have hones : (BitVec.allOnes 32).toNat = 2 ^ 32 - 1 := BitVec.toNat_allOnes
    rw [wbits_word, wbits_word, ← BitVec.xor_allOnes, BitVec.toNat_and, BitVec.toNat_xor, hones]
    rfl
  show wput w 31 0 (Nat.land (wbits w 31 0) (Nat.xor (wbits v 31 0) (2 ^ 32 - 1))) = _
  rw [hclear, wput_word]

/-- CLAIM on the page of an enabled target answers with its selected source (R543). -/
theorem State.claim_exec {s : State} {k : Nat} (hrun : s.awake.stopped ICU_ERRSTS = false) (hdis : s.awake.on ICU_CFG_GDIS = false)
    (hen : s.awake.on (ICU_TGT_EN k) = true) : exec (.claim k) s = .next (match s.awake.selected k with
      | none => { s.awake.inc ICU_SPURIOUS with rdata := claimWord 0xFFFF 0 NOT_IN_STATE }
      | some n => s.awake.take k n) := by
  refine congrArg Host.Outcome.next ((if_neg ?_).trans ((if_neg ?_).trans ((if_neg ?_).trans ?_)))
  · rw [← State.awake, hrun]; exact Bool.false_ne_true
  · rw [← State.awake, hdis]; exact Bool.false_ne_true
  · rw [← State.awake, hen]; exact Bool.false_ne_true
  · rfl

/-- What a read of CLAIM with nothing selected leaves (R543). -/
theorem State.spurious_eq (s : State) (w : Nat) :
    (fun t : State => t.rdata = w ∧ t.g ICU_SPURIOUS = min (s.g ICU_SPURIOUS + 1) (2 ^ 32 - 1) ∧ t = { s with regs := t.regs, rdata := t.rdata })
    { s.inc ICU_SPURIOUS with rdata := w } := by
  have hinc := State.g_inc_self s (f := ICU_SPURIOUS) (by decide)
  exact ⟨rfl, hinc, congrArg (fun t : State => { t with rdata := w }) (regsOnly_f (a := s) (s := s) rfl _ _)⟩

/-- A message that nothing holds goes (R542). -/
theorem State.sendMsix_msix {s : State} {k : Nat} (hmask : (s.msix k).mask = false) (hf : s.icu.fmask = false) :
    (s.sendMsix k).msix k = { s.msix k with pend := false } := by
  have hsent : ¬ ((s.msix k).mask || s.icu.fmask) = true := by simp [hmask, hf]
  unfold State.sendMsix
  dsimp only
  rw [if_neg hsent]
  exact State.msix_setMsix_self s k { s.msix k with pend := false }

theorem State.flushMsix_fmask (s : State) (k : Nat) : (s.flushMsix k).icu.fmask = s.icu.fmask := by
  unfold State.flushMsix State.sendMsix
  dsimp only
  split
  · split <;> rfl
  · rfl

theorem State.flushAll_fmask (l : List Nat) (s : State) : (l.foldl State.flushMsix s).icu.fmask = s.icu.fmask :=
  List.foldlRecOn (motive := fun t : State => t.icu.fmask = s.icu.fmask) _ _ rfl fun t h k _ => (State.flushMsix_fmask t k).trans h

/-- Settles O45. -/
theorem interruptCommandsComplete : Obligations.InterruptCommandsComplete := by
  refine ⟨fun s k n _ hrun hdis hen hsel => ?claim, fun s k _ hrun hdis hen hsel => ?spurious, fun s k v p rest _ hrun hstack => ?eoi,
    fun s k v _ hrun hstack => ?badEoi, fun s v h => ?latlo, fun s v h => ?lathi, fun s v h hbit => ?hubset, fun s n hn h hmode => ?forceSet,
    fun s n hn h hmode => ?forceClr, fun s v h => ?config, fun s k hk hpend => ?unmask, fun s k hk hpend hf hdis hlink => ?flush, fun s => ?funmask,
    fun s => rfl⟩
  case claim =>
    have hexec : exec (.claim k) s = .next (s.awake.take k n) := (State.claim_exec hrun hdis hen).trans (by rw [hsel])
    exact ⟨_, hexec, State.take_claims s.awake k n⟩
  case spurious =>
    have hexec : exec (.claim k) s = .next { s.awake.inc ICU_SPURIOUS with rdata := claimWord 0xFFFF 0 NOT_IN_STATE } := (State.claim_exec hrun hdis hen).trans (by rw [hsel])
    exact ⟨_, hexec, State.spurious_eq s.awake _⟩
  case eoi => exact ⟨_, State.eoi_exec hrun k v, State.eoiWrite_ends hstack⟩
  case badEoi =>
    refine completes (State.eoi_exec hrun k v) (State.eoiWrite_errs hstack) ⟨?_, ?_, State.g_inc_self _ (by decide)⟩
    · have hself := State.tgt_setTgt_self s.awake k { s.awake.tgt k with lastErr := NOT_IN_STATE }
      exact (congrArg TgtS.stack hself).trans rfl
    · have hself := State.tgt_setTgt_self s.awake k { s.awake.tgt k with lastErr := NOT_IN_STATE }
      exact (congrArg TgtS.lastErr hself).trans rfl
  case latlo =>
    have hexec : exec (.hubLatchClear false v) s = .next (s.barWrite rICU_HUBLATLO 0 0 v fun s => (s.store rICU_HUBLATLO 0 0 v).settle) :=
      congrArg Host.Outcome.next (if_neg Bool.false_ne_true)
    exact completes hexec (State.barWrite_accepted h (by decide) _ _ _) ⟨rfl, (State.rd_wr_self _ _ _).trans (merge_hubLatLo _ v)⟩
  case lathi =>
    have hexec : exec (.hubLatchClear true v) s = .next (s.barWrite rICU_HUBLATHI 0 0 v fun s => (s.store rICU_HUBLATHI 0 0 v).settle) :=
      congrArg Host.Outcome.next (if_pos rfl)
    exact completes hexec (State.barWrite_accepted h (by decide) _ _ _) rfl
  case hubset =>
    exact congrArg Host.Outcome.next ((State.barWrite_accepted h (by decide) _ _ _).trans (if_pos hbit))
  case forceSet =>
    have hword := indexWord_31 (x := n) (by omega)
    have hn : wbits (Word.ofNat (2 ^ 31 + n)) 12 0 = n := (indexWord_wbits (by omega) (.inr (.inr rfl)) (by decide) (by decide)).trans (nbits_of_lt hn)
    have heff : s.awake.forceWrite (Word.ofNat (2 ^ 31 + n)) = s.awake.forceOn n := by
      simp only [State.forceWrite, hword, hmode, hn, Bool.and_false, Bool.false_eq_true, if_false, if_true, ne_eq, not_true_eq_false]
    exact completes rfl ((State.barWrite_accepted h (by decide) _ _ _).trans heff) (State.forceOn_force s.awake n)
  case forceClr =>
    have hword := indexWord_30 (x := n) (by omega)
    have hn : wbits (Word.ofNat (2 ^ 30 + n)) 12 0 = n := (indexWord_wbits (by omega) (.inr (.inl rfl)) (by decide) (by decide)).trans (nbits_of_lt hn)
    have heff : s.awake.forceWrite (Word.ofNat (2 ^ 30 + n)) = (s.awake.setSrc n { s.awake.src n with force := false }).settle := by
      simp only [State.forceWrite, hword, hmode, hn, Bool.false_and, Bool.false_eq_true, if_false, if_true, ne_eq, not_true_eq_false]
    refine completes rfl ((State.barWrite_accepted h (by decide) _ _ _).trans heff) ?_
    rw [(Settled.settle _).force, State.src_setSrc_self]
  case config =>
    exact completes rfl (State.barWrite_accepted h (by decide) _ _ _) ((State.icuCfgWrite_cfg _ v).trans (State.rd_wr_self _ _ _))
  case unmask =>
    refine congrArg Host.Outcome.next ((if_pos hk).trans (if_neg ?_))
    rw [State.msix_setMsix_self]
    simp [hpend]
  case flush =>
    have hflush : (s.setMsix k { s.msix k with mask := false }).flushMsix k = (s.setMsix k { s.msix k with mask := false }).sendMsix k := if_pos (by
      have hdis' : (s.setMsix k { s.msix k with mask := false }).on ICU_CFG_GDIS = false := hdis
      have hf' : (s.setMsix k { s.msix k with mask := false }).icu.fmask = false := hf
      have hlink' : (s.setMsix k { s.msix k with mask := false }).sys.hostLink = true := hlink
      rw [State.msix_setMsix_self, hdis', hf', hlink', hpend]
      rfl)
    have hopen : ((s.setMsix k { s.msix k with mask := false }).msix k).mask = false := congrArg MsixS.mask (State.msix_setMsix_self s k _)
    refine completes (congrArg Host.Outcome.next (if_pos hk)) hflush ?_
    rw [State.sendMsix_msix hopen hf]
    exact ⟨hopen, rfl⟩
  case funmask =>
    exact ⟨_, congrArg Host.Outcome.next (if_neg (by decide)), State.flushAll_fmask _ _⟩

end Sys2Proof.Machine
end

section
/-! What becomes of a sample on the way to a record, and of a message on the way to a port, leaves the registers of the field blocks alone:
course buses and nodes, CAN, timers, guard, memory, monitors and serial ports; and so the states that the scheduler, the endpoint tables, power, reset and
the store show. -/
set_option Elab.async false
namespace Sys2Proof.Machine

/-- o lies in a field block, or is PSC_STS, EPT_SWSTS, RST_STS, NVS_RGN or BOOT_GSTS. -/
abbrev InField (o : Nat) : Prop :=
  o < 0x25000 ∨ (0x28000 ≤ o ∧ o < 0x2E000) ∨ (0x30000 ≤ o ∧ o < 0x31800) ∨
    o = 0x3280C ∨ o = 0x32C5C ∨ o = 0x34818 ∨ o = 0x35434 ∨ (0x35090 ≤ o ∧ o < 0x350B0)

/-- o is one of these or PWR_STS, of which the end of DOZE writes PREV. -/
abbrev Shown (o : Nat) : Prop := InField o ∨ o = 0x34C08

/-- t holds the registers named above and the power states of s, where a wake may be latched or end DOZE. -/
structure FieldKept (s t : State) : Prop where
  rd : ∀ o, InField o → t.rd o = s.rd o
  pwr : ∀ lo hi, 3 ≤ lo → t.g ⟨0x34C08, hi, lo⟩ = s.g ⟨0x34C08, hi, lo⟩
  sys : t.sys = { s.sys with pstate := t.sys.pstate, wakeLatch := t.sys.wakeLatch }

namespace FieldKept

theorem refl (s : State) : FieldKept s s := ⟨fun _ _ => rfl, fun _ _ _ => rfl, rfl⟩

theorem trans {s t u : State} (h : FieldKept s t) (h' : FieldKept t u) : FieldKept s u :=
  ⟨fun o ho => (h'.rd o ho).trans (h.rd o ho), fun lo hi hlo => (h'.pwr lo hi hlo).trans (h.pwr lo hi hlo), by rw [h'.sys, h.sys]⟩

theorem of_regs {s t : State} (h : t.regs = s.regs) (hsys : t.sys = s.sys := by rfl) : FieldKept s t :=
  ⟨fun o _ => by rw [State.rd, State.rd, h], fun _ _ _ => by rw [State.g, State.g, State.rd, State.rd, h], by rw [hsys]⟩

theorem ite {c : Prop} [Decidable c] {s t u : State} (h : FieldKept s t) (h' : FieldKept s u) : FieldKept s (if c then t else u) := by
  split
  · exact h
  · exact h'

/-- What is shown is kept through what keeps it, and then through a change of other parts alone. -/
theorem then_regs {s t u : State} (h : FieldKept s t) (h' : u.regs = t.regs) (hsys : u.sys = t.sys := by rfl) : FieldKept s u := h.trans (of_regs h' hsys)

/-- What is shown is kept by what keeps it after a change of other parts alone. -/
theorem after_regs {s t u : State} (h : FieldKept t u) (h' : t.regs = s.regs) (hsys : t.sys = s.sys := by rfl) : FieldKept s u := (of_regs h' hsys).trans h

theorem foldl {α : Type} {op : State → α → State} (hop : ∀ s x, FieldKept s (op s x)) (l : List α) (s : State) : FieldKept s (l.foldl op s) :=
  List.foldlRecOn (motive := fun t => FieldKept s t) _ _ (refl s) fun t h x _ => h.trans (hop t x)

theorem g {s t : State} (h : FieldKept s t) {f : Fld} (hf : InField f.off) : t.g f = s.g f := by rw [State.g, State.g, h.rd _ hf]

theorem on {s t : State} (h : FieldKept s t) {f : Fld} (hf : InField f.off) : t.on f = s.on f := by rw [State.on, State.on, h.g hf]

theorem stage {s t : State} (h : FieldKept s t) : t.stage = s.stage := h.pwr 13 15 (by decide)

theorem f (s : State) {x : Fld} (h : ¬ Shown x.off) (v : Nat) : FieldKept s (s.f x v) :=
  ⟨fun _ ho => State.rd_f_ne s v fun e => h (.inl (e ▸ ho)),
    fun _ _ _ => by rw [State.g, State.g, State.rd_f_ne s v fun e => h (.inr e.symm)], rfl⟩

theorem inc (s : State) {x : Fld} (h : ¬ Shown x.off) : FieldKept s (s.inc x) := .f s h _

theorem loud {o : Nat} (h : Shown o) : Loud o := by unfold Shown InField at h; unfold Loud; omega

theorem of_loud {s t : State} (h : ∀ o, Loud o → t.rd o = s.rd o) (hsys : t.sys = s.sys) : FieldKept s t :=
  ⟨fun o ho => h o (loud (.inl ho)), fun _ _ _ => by rw [State.g, State.g, h _ (loud (.inr rfl))], by rw [hsys]⟩

theorem raiseHub (s : State) (h : Nat) : FieldKept s (s.raiseHub h) := of_loud (fun _ ho => State.raiseHub_rd s h ho) (State.raiseHub_sys s h)

theorem event (s : State) (p ct : Nat) : FieldKept s (s.event p ct) := of_loud (fun _ ho => State.event_rd s p ct ho) (State.event_sys s p ct)

theorem wakeDoze (s : State) (bits : Nat) : FieldKept s (s.wakeDoze bits) := by
  refine ⟨fun o ho => State.wakeDoze_rd s bits (loud (.inl ho)) (by unfold InField at ho; show o ≠ _; simp; omega) (by unfold InField at ho; simp; omega),
    fun lo hi hlo => State.wakeDoze_g s bits (.inr (.inr (by show 0x33FFF < 0x34C08; decide))) (.inl (by simp)) (.inr (.inr hlo)), ?_⟩
  rw [State.wakeDoze_sys]
  split <;> rfl

/-! Messages. -/

theorem setPort (s : State) (p : Nat) (q : PortS) : FieldKept s (s.setPort p q) :=
  (f _ (x := BND_PSTS_UNACK p) (by simp [Shown, InField]; omega) _).after_regs rfl

theorem countStall (p : Nat) (s : State) (vc : Nat) : FieldKept s (State.countStall p s vc) := by
  unfold State.countStall
  dsimp only
  split
  · exact (setPort s p _).trans (inc _ (by simp [Shown, InField]; omega))
  · exact refl s

theorem emitFlit (s : State) (p sq : Nat) (x : FlitS) : FieldKept s (s.emitFlit p sq x) := by
  unfold State.emitFlit State.putFlit
  dsimp only
  split <;> exact of_regs rfl

theorem sendFirst (s : State) (p vc : Nat) : FieldKept s (s.sendFirst p vc) := by
  unfold State.sendFirst
  dsimp only
  split
  · exact refl s
  · have hsent := fun q x => ((setPort s p q).trans (emitFlit _ p (s.port p).txNext x)).trans (inc _ (x := BND_PFLITTX p) (by simp [Shown, InField]; omega))
    split
    · exact (hsent _ _).trans (setPort _ _ _)
    · exact hsent _ _

theorem pumpN (p n : Nat) : ∀ s, FieldKept s (State.pumpN p n s) := by
  induction n with
  | zero => exact refl
  | succ n ih =>
    intro s
    rw [State.pumpN]
    split
    · split
      · exact (sendFirst s p _).trans (ih _)
      · exact refl s
    · exact refl s

theorem pump (s : State) (p : Nat) : FieldKept s (s.pump p) := (pumpN p _ s).trans (foldl (countStall p) _ _)

theorem queueFlits (s : State) (p : Nat) (l : List FlitS) : FieldKept s (s.queueFlits p l) := by
  unfold State.queueFlits
  split
  · exact refl s
  · exact (setPort s p _).trans (pump _ p)

theorem sendMsg (s : State) (cls ty dst : Nat) (body : List Nat) : FieldKept s (s.sendMsg cls ty dst body) := by
  unfold State.sendMsg
  split
  · exact refl s
  · have hnoted : FieldKept s (s.noteSent { dst := dst, cls := cls, ty := ty, body := body }) := by
      unfold State.noteSent
      split
      · exact of_regs rfl
      · exact of_regs rfl
    exact hnoted.trans (queueFlits _ _ _)

theorem cfgAnswer (s : State) (dst tag ty : Nat) (body : List Nat) : FieldKept s (s.cfgAnswer dst tag ty body) :=
  (sendMsg _ _ _ _ _).after_regs rfl

theorem finish (s : State) (j : JobS) (o : DoneS) : FieldKept s (s.finish j o) := by
  unfold State.finish
  dsimp only
  split
  · exact (sendMsg _ _ _ _ _).after_regs rfl
  · exact of_regs rfl

theorem finishId (s : State) (id : JobId) (o : DoneS) : FieldKept s (s.finishId id o) := by
  unfold State.finishId
  split
  · exact finish s _ o
  · exact refl s

/-! Casks. -/

theorem sendCaskData (s : State) (home : Nat) (c : CaskS) : FieldKept s (s.sendCaskData home c) := by
  unfold State.sendCaskData
  dsimp only
  exact List.foldlRecOn (motive := fun x : State × Nat => FieldKept s x.1) _ _ (refl s) fun x h b _ => h.trans (sendMsg _ _ _ _ _)

theorem sendClosed (s : State) (c : CaskS) : FieldKept s (s.sendClosed c) := by
  unfold State.sendClosed
  split
  · exact refl s
  · exact (sendCaskData s _ c).trans (sendMsg _ _ _ _ _)

theorem sendFwd (s : State) (uid ring pcn : Nat) : FieldKept s (s.sendFwd uid ring pcn) := by
  unfold State.sendFwd
  split
  · exact refl s
  · split
    · exact refl s
    · exact (sendClosed s _).then_regs rfl

theorem applyLoss_regs (s : State) (uid ring : Nat) (recs : List RecS) : (s.applyLoss uid ring recs).1.regs = s.regs := by
  unfold State.applyLoss
  split <;> rfl

theorem applyLoss_sys (s : State) (uid ring : Nat) (recs : List RecS) : (s.applyLoss uid ring recs).1.sys = s.sys := by
  unfold State.applyLoss
  split <;> rfl

theorem renumber_regs (s : State) (uid ring n : Nat) : (s.renumber uid ring n).regs = s.regs := rfl

theorem declareFwd (s : State) (c : CaskS) : FieldKept s (s.declareFwd c) := by
  unfold State.declareFwd
  split
  · exact refl s
  · exact of_regs ((renumber_regs _ _ _ _).trans (applyLoss_regs s c.uid c.ring c.recs)) (applyLoss_sys s c.uid c.ring c.recs)

theorem flushFwd (s : State) : FieldKept s s.flushFwd := by
  refine FieldKept.trans (foldl (fun s c => ?_) _ _) (foldl (fun s c => sendFwd s _ _ _) _ _)
  split
  · exact refl s
  · exact declareFwd s c

theorem countLost (s : State) (c : CaskS) : FieldKept s (s.countLost c) := by
  have hinc : FieldKept s (({ s with rng := { s.rng with loss := addLoss s.rng.loss c s.ct } } : State).inc RNG_CASKLOST) :=
    (inc _ (by decide)).after_regs rfl
  unfold State.countLost
  dsimp only
  split
  · exact hinc.then_regs rfl
  · exact hinc

theorem dropFwd (s : State) (c : CaskS) : FieldKept s (s.dropFwd c) :=
  ((countLost { s with rng := { s.rng with fwd := s.rng.fwd.erase c } } c).after_regs (s := s) rfl).then_regs (renumber_regs _ _ _ _)

theorem dropOldest (s : State) : FieldKept s s.dropOldest := by
  have hheld := fun c => (countLost { s with rng := { s.rng with held := s.rng.held.erase c } } c).after_regs (s := s) rfl
  unfold State.dropOldest
  dsimp only
  split
  · split
    · exact dropFwd s _
    · exact hheld _
  · exact dropFwd s _
  · exact hheld _
  · exact refl s

theorem fitCaskBuf (n : Nat) : ∀ s, FieldKept s (State.fitCaskBuf n s) := by
  induction n with
  | zero => exact refl
  | succ n ih =>
    intro s
    rw [State.fitCaskBuf]
    split
    · exact refl s
    · exact (dropOldest s).trans (ih _)

theorem showCbuf (s : State) : FieldKept s s.showCbuf := by
  have hf := f s (x := RNG_CBUF) (by decide) (min 8192 (s.caskBytes / 1024))
  unfold State.showCbuf
  dsimp only
  split
  · exact hf.trans (wakeDoze _ _)
  · exact hf

theorem trimCasks (s : State) : FieldKept s s.trimCasks := (fitCaskBuf _ s).trans (showCbuf _)

theorem closeCask (s : State) (uid ring code : Nat) : FieldKept s (s.closeCask uid ring code) := by
  unfold State.closeCask
  split
  · exact refl s
  · dsimp only
    split_ifs
    · exact (trimCasks _).after_regs rfl
    · exact ((flushFwd _).trans (trimCasks _)).after_regs rfl

theorem cutThrough (s : State) (c : CaskS) : FieldKept s (s.cutThrough c) := by
  unfold State.cutThrough
  split
  · exact refl s
  · split
    · exact refl s
    · exact (sendCaskData s _ c).then_regs rfl

theorem appendRecs (s : State) (uid ring : Nat) (rs : List RecS) : FieldKept s (s.appendRecs uid ring rs) := by
  unfold State.appendRecs
  split <;> exact of_regs rfl

theorem putTogether (s : State) (uid ring : Nat) (rs : List RecS) : FieldKept s (s.putTogether uid ring rs) := by
  have happend : FieldKept s ((match s.openCask uid ring with
      | some c => if (s.closeRule uid ring).1 < c.len + (recBytes c.recs.getLast? rs).length then s.closeCask uid ring clSIZE else s
      | none => s).appendRecs uid ring rs) := by
    refine FieldKept.trans ?_ (appendRecs _ uid ring rs)
    split
    · split
      · exact closeCask s _ _ _
      · exact refl s
    · exact refl s
  unfold State.putTogether
  dsimp only
  split
  · split
    · exact happend.trans (closeCask _ _ _ _)
    · exact (happend.trans (cutThrough _ _)).trans (showCbuf _)
  · exact happend

/-! Records and samples. -/

theorem watchDrop (s : State) : FieldKept s s.watchDrop := by
  unfold State.watchDrop
  split
  · exact refl s
  · exact (inc _ (by decide)).after_regs rfl

theorem watchRoom (n k : Nat) : ∀ s, FieldKept s (State.watchRoom n k s) := by
  induction k with
  | zero => exact refl
  | succ k ih =>
    intro s
    rw [State.watchRoom]
    split
    · exact refl s
    · exact (watchDrop s).trans (ih _)

theorem watchPush (s : State) (w : WatchS) : FieldKept s (s.watchPush w) := (watchRoom _ _ s).then_regs rfl

theorem modStream (s : State) (slot : Nat) (h : StreamS → StreamS) : FieldKept s (s.modStream slot h) := of_regs rfl

theorem produce (s : State) (slot n ct ep : Nat) (r : RecS) : FieldKept s (s.produce slot n ct ep r) := by
  unfold State.produce
  split
  · exact refl s
  · dsimp only
    exact ite (modStream s _ _) (ite ((f _ (x := TEN_SRDROP) (by decide) _).after_regs rfl) (ite (of_regs rfl) (ite (of_regs rfl)
      (ite ((foldl (fun s r => watchPush s _) _ _).after_regs rfl) ((putTogether _ _ _ _).after_regs rfl)))))

theorem passHead (s : State) (slot : Nat) (h : HoldS) : FieldKept s (s.passHead slot h) := by
  unfold State.passHead
  split
  · exact modStream s _ _
  · exact produce s _ _ _ _ _

theorem drainStream (slot k : Nat) : ∀ s, FieldKept s (State.drainStream slot k s) := by
  induction k with
  | zero => exact refl
  | succ k ih =>
    intro s
    rw [State.drainStream]
    split
    · exact refl s
    · split
      · exact refl s
      · split
        · exact refl s
        · exact ((modStream s slot _).trans (passHead _ slot _)).trans (ih _)

theorem offer (s : State) (slot : Nat) (h : HoldS) : FieldKept s (s.offer slot h) := by
  unfold State.offer
  dsimp only
  split
  · exact (modStream s slot _).trans (drainStream slot _ _)
  · exact modStream s slot _

theorem missSample (s : State) (e ct reason : Nat) : FieldKept s (s.missSample e ct reason) := foldl (fun s _ => offer s _ _) _ _

theorem mashPush (s : State) (m : MInS) : FieldKept s (s.mashPush m) := by
  unfold State.mashPush
  dsimp only
  split
  · exact refl s
  · split
    · exact of_regs rfl
    · exact (inc _ (by decide)).after_regs rfl

theorem mashFeed (s : State) (e ct flags : Nat) (v : Option Int) : FieldKept s (s.mashFeed e ct flags v) := foldl (fun s _ => mashPush s _) _ _

theorem trigPush (s : State) (t : TrigS) : FieldKept s (s.trigPush t) := by
  unfold State.trigPush
  dsimp only
  split
  · exact of_regs rfl
  · split
    · exact (inc _ (by decide)).after_regs rfl
    · exact of_regs rfl

theorem rcgFeed (s : State) (e ct flags : Nat) (v : Option Int) (past : Int) : FieldKept s (s.rcgFeed e ct flags v past) :=
  foldl (fun s _ => trigPush s _) _ _

theorem missEp (s : State) (e ct reason : Nat) : FieldKept s (s.missEp e ct reason) :=
  ((missSample s e ct reason).trans (mashFeed _ e ct 0 none)).trans (rcgFeed _ e ct 0 none 0)

theorem missRaw (s : State) (r : RawS) (reason : Nat) : FieldKept s (s.missRaw r reason) := by
  unfold State.missRaw
  split
  · exact missEp s _ _ _
  · exact refl s

theorem enqueueRaw (s : State) (r : RawS) : FieldKept s (s.enqueueRaw r) := by
  unfold State.enqueueRaw
  split
  · exact missRaw s _ _
  · split
    · exact of_regs rfl
    · exact (inc s (by decide)).trans (missRaw _ _ _)

theorem interruptAll (s : State) (l : List Nat) : FieldKept s (s.interruptAll l) := by
  refine FieldKept.trans (foldl (fun s st => ?_) _ _) (foldl (fun s e => rcgFeed s _ _ _ _ _) _ _)
  split
  · exact offer s _ _
  · exact refl s

end FieldKept

end Sys2Proof.Machine
end

section
/-! The CAN ports (obligation O34). -/
set_option Elab.async false
namespace Sys2Proof.Machine

/-! What stands around a port leaves it alone. -/

@[simp] theorem State.enqueueRaw_cans (s : State) (r : RawS) : (s.enqueueRaw r).cans = s.cans :=
  part_eq (State.enqueueRaw_same s r (.refl 14420514) (.refl 14420514 s)).cans (by decide)

@[simp] theorem State.interruptAll_cans (s : State) (l : List Nat) : (s.interruptAll l).cans = s.cans :=
  part_eq (State.interruptAll_same s l (.refl 13634082) (.refl 13634082 s)).cans (by decide)

@[simp] theorem State.finishId_cans (s : State) (id : JobId) (o : DoneS) : (s.finishId id o).cans = s.cans :=
  part_eq (State.finishId_same s id o (.refl 12582946) (.refl 12582946 s)).cans (by decide)

theorem State.can_of_cans {s t : State} (h : t.cans = s.cans) (x : Nat) : t.can x = s.can x := by rw [State.can, State.can, h]

/-! The error counters (R218). -/

/-- The state in which the counters of port x stand as given and its registers show them, ERRSTATE apart. -/
def State.canCounts (s : State) (x tec rec_ : Nat) : State :=
  ((s.setCan x { s.can x with tec := tec, rec_ := rec_ }).f (CAN_PSTS_TEC x) (min tec 255)).f (CAN_PSTS_REC x) (min rec_ 255)

theorem State.canErr_eq (s : State) (x tec rec_ : Nat) : s.canErr x tec rec_ =
    if (s.canCounts x tec rec_).g (CAN_PSTS_ERRSTATE x) = 2 then s.canCounts x tec rec_
    else (s.canCounts x tec rec_).f (CAN_PSTS_ERRSTATE x) (if 127 < tec ∨ 127 < rec_ then 1 else 0) := rfl

theorem State.canErr_can (s : State) (x tec rec_ : Nat) : (s.canErr x tec rec_).can x = { s.can x with tec := tec, rec_ := rec_ } := by
  have hself : (s.canCounts x tec rec_).can x = { s.can x with tec := tec, rec_ := rec_ } := State.can_setCan_self s x _
  rw [State.canErr_eq]
  split <;> exact hself

theorem State.canCounts_g (s : State) (x tec rec_ : Nat) {f : Fld} (ht : f.apart (CAN_PSTS_TEC x)) (hr : f.apart (CAN_PSTS_REC x)) :
    (s.canCounts x tec rec_).g f = s.g f := by
  rw [State.canCounts, State.g_f_apart _ (by simp [Fld.fits]) _ hr, State.g_f_apart _ (by simp [Fld.fits]) _ ht]
  rfl

theorem State.canErr_g (s : State) (x tec rec_ : Nat) {f : Fld} (ht : f.apart (CAN_PSTS_TEC x)) (hr : f.apart (CAN_PSTS_REC x))
    (he : f.apart (CAN_PSTS_ERRSTATE x)) : (s.canErr x tec rec_).g f = s.g f := by
  rw [State.canErr_eq]
  split
  · exact s.canCounts_g x tec rec_ ht hr
  · rw [State.g_f_apart _ (by simp [Fld.fits]) _ he, s.canCounts_g x tec rec_ ht hr]

theorem State.canErr_tec (s : State) (x tec rec_ : Nat) : (s.canErr x tec rec_).g (CAN_PSTS_TEC x) = min tec 255 := by
  have htec : (s.canCounts x tec rec_).g (CAN_PSTS_TEC x) = min tec 255 := by
    rw [State.canCounts, State.g_f_apart _ (by simp [Fld.fits]) _ (.inr (.inr (by simp))), State.g_f_lt _ (by simp [Fld.fits]) (by simp)]
  rw [State.canErr_eq]
  split
  · exact htec
  · rw [State.g_f_apart _ (by simp [Fld.fits]) _ (.inr (.inr (by simp))), htec]

theorem State.canErr_rec (s : State) (x tec rec_ : Nat) : (s.canErr x tec rec_).g (CAN_PSTS_REC x) = min rec_ 255 := by
  have hrec : (s.canCounts x tec rec_).g (CAN_PSTS_REC x) = min rec_ 255 := by
    rw [State.canCounts, State.g_f_lt _ (by simp [Fld.fits]) (by simp)]
  rw [State.canErr_eq]
  split
  · exact hrec
  · rw [State.g_f_apart _ (by simp [Fld.fits]) _ (.inr (.inr (by simp))), hrec]

theorem State.canErr_errstate {s : State} {x : Nat} (h : s.g (CAN_PSTS_ERRSTATE x) ≠ 2) (tec rec_ : Nat) :
    (s.canErr x tec rec_).g (CAN_PSTS_ERRSTATE x) = if 127 < tec ∨ 127 < rec_ then 1 else 0 := by
  have hne : (s.canCounts x tec rec_).g (CAN_PSTS_ERRSTATE x) ≠ 2 := by
    rwa [s.canCounts_g x tec rec_ (.inr (.inl (by simp))) (.inr (.inl (by simp)))]
  rw [State.canErr_eq, if_neg hne]
  exact State.g_f_lt _ (by simp [Fld.fits]) (by split <;> simp)

/-! Received frames are dispatched (R211-R215). -/

/-- What the dispatch of a frame leaves of port x: its count of frames, its error counters and the frames it is to send. -/
structure Dispatched (x : Nat) (s t : State) : Prop where
  rxok : t.g (CAN_PRXOK x) = s.g (CAN_PRXOK x)
  tec : (t.can x).tec = (s.can x).tec
  rec_ : (t.can x).rec_ = (s.can x).rec_
  pend : (t.can x).pend = (s.can x).pend

namespace Dispatched

variable {x : Nat}

theorem refl (s : State) : Dispatched x s s := ⟨rfl, rfl, rfl, rfl⟩

theorem trans {s t u : State} (h : Dispatched x s t) (h' : Dispatched x t u) : Dispatched x s u :=
  ⟨h'.rxok.trans h.rxok, h'.tec.trans h.tec, h'.rec_.trans h.rec_, h'.pend.trans h.pend⟩

theorem of_field {s t : State} (hx : x < 8) (h : FieldKept s t) (hcans : t.cans = s.cans) : Dispatched x s t :=
  ⟨h.g (by simp [InField]; omega), congrArg CanPS.tec (State.can_of_cans hcans x), congrArg CanPS.rec_ (State.can_of_cans hcans x),
    congrArg CanPS.pend (State.can_of_cans hcans x)⟩

theorem f (s : State) {f : Fld} (hfit : f.fits) (h : CAN_PRXOK x |>.apart f) (v : Nat) : Dispatched x s (s.f f v) :=
  ⟨State.g_f_apart s hfit v h, rfl, rfl, rfl⟩

theorem enqueueRaw (hx : x < 8) (s : State) (r : RawS) : Dispatched x s (s.enqueueRaw r) := of_field hx (.enqueueRaw s r) (State.enqueueRaw_cans s r)

theorem canDeliver (hx : x < 8) (ct : Nat) (data : List Nat) (s : State) (c : List Nat) : Dispatched x s (State.canDeliver x ct data s c) := by
  unfold State.canDeliver
  dsimp only
  split
  · exact f s (by simp [Fld.fits]) (.inl (by simp)) _
  · exact enqueueRaw hx s _

theorem canHead (s : State) : Dispatched x s (s.canHead x) := by
  unfold State.canHead
  refine List.foldlRecOn (motive := fun t : State => Dispatched x s t) _ _ (refl s) fun t h k _ => h.trans ⟨?_, rfl, rfl, rfl⟩
  rw [State.g, State.g, State.rd_wr_ne]
  simp only [Reg.at, rCAN_PFIFOHD]
  omega

theorem setFifo (s : State) (l : List (List Nat × Nat)) : Dispatched x s (s.setCan x { s.can x with fifo := l }) := by
  have hself := State.can_setCan_self s x { s.can x with fifo := l }
  exact ⟨rfl, (congrArg CanPS.tec hself).trans rfl, (congrArg CanPS.rec_ hself).trans rfl, (congrArg CanPS.pend hself).trans rfl⟩

theorem canFifo (s : State) (b : List Nat) (ct : Nat) : Dispatched x s (s.canFifo x b ct) := by
  have hlost : Dispatched x s (s.inc (CAN_PFIFOLOST x)) := f s (by simp [Fld.fits]) (.inl (by simp)) _
  unfold State.canFifo
  dsimp only
  split
  · exact (hlost.trans (setFifo (s.inc (CAN_PFIFOLOST x)) _)).trans (canHead _)
  · exact (setFifo s _).trans (canHead _)

theorem canDispatch (hx : x < 8) (s : State) (w : Nat) (data : List Nat) (ct : Nat) : Dispatched x s (s.canDispatch x w data ct) := by
  have hmap : Dispatched x s ((((s.canMap ct).filter (canEntry x w)).take 16).foldl (State.canDeliver x ct data)
      (s.incBy (CAN_PMAPOVER x) (((s.canMap ct).filter (canEntry x w)).length - 16))) :=
    List.foldlRecOn (motive := fun t : State => Dispatched x s t) _ _ (f s (by simp [Fld.fits]) (.inl (by simp)) _) fun t h c _ => h.trans (canDeliver hx ct data t c)
  unfold State.canDispatch
  dsimp only
  split
  · exact hmap.trans (enqueueRaw hx _ _)
  · split
    · exact hmap.trans (canFifo _ _ _)
    · exact hmap

end Dispatched

/-! A frame leaves its buffer (R216, R217). -/

/-- Port x once the frame of a buffer has left it with a status, before its descriptor is answered. -/
def State.canLeft (s : State) (x y st : Nat) : State :=
  let s := s.setCan x { s.can x with pend := (s.can x).pend.filter fun u => u.mb != y }
  let s := (s.f (CAN_MBSTS_PENDING x y) 0).f (CAN_MBSTS_STATUS x y) st
  if st = OK then s.inc (CAN_PTXOK x) else if st = SHED then s else s.inc (CAN_PTXFAIL x)

theorem State.canEnd_eq (s : State) (x : Nat) (t : CanTxS) (st : Nat) (result : List Nat) :
    s.canEnd x t st result = (s.canLeft x t.mb st).finishId t.job { status := st, retried := t.retry, result := result } := rfl

theorem State.canLeft_can (s : State) (x y st : Nat) :
    (s.canLeft x y st).can x = { s.can x with pend := (s.can x).pend.filter fun u => u.mb != y } := by
  have hself := State.can_setCan_self s x { s.can x with pend := (s.can x).pend.filter fun u => u.mb != y }
  unfold State.canLeft
  dsimp only
  split
  · exact hself
  · split <;> exact hself

theorem State.canEnd_can (s : State) (x : Nat) (t : CanTxS) (st : Nat) (result : List Nat) :
    (s.canEnd x t st result).can x = { s.can x with pend := (s.can x).pend.filter fun u => u.mb != t.mb } := by
  rw [State.canEnd_eq, State.can_of_cans (State.finishId_cans _ _ _), State.canLeft_can]

theorem State.canEnd_g {x : Nat} (s : State) (t : CanTxS) (st : Nat) (result : List Nat) {f : Fld} (hf : InField f.off) :
    (s.canEnd x t st result).g f = (s.canLeft x t.mb st).g f := (FieldKept.finishId _ _ _).g hf

/-- The fields a frame's end writes besides the count of outcomes. -/
def State.canMark (s : State) (x y st : Nat) : State :=
  ((s.setCan x { s.can x with pend := (s.can x).pend.filter fun u => u.mb != y }).f (CAN_MBSTS_PENDING x y) 0).f (CAN_MBSTS_STATUS x y) st

theorem State.canLeft_ok (s : State) (x y : Nat) : s.canLeft x y OK = (s.canMark x y OK).inc (CAN_PTXOK x) := rfl

theorem State.canLeft_fail (s : State) (x y : Nat) {st : Nat} (hok : st ≠ OK) (hshed : st ≠ SHED) :
    s.canLeft x y st = (s.canMark x y st).inc (CAN_PTXFAIL x) := (if_neg hok).trans (if_neg hshed)

theorem State.canMark_status (s : State) (x y : Nat) {st : Nat} (h : st < 256) : (s.canMark x y st).g (CAN_MBSTS_STATUS x y) = st :=
  State.g_f_lt _ (by simp [Fld.fits]) h

theorem State.canMark_pending (s : State) (x y st : Nat) : (s.canMark x y st).on (CAN_MBSTS_PENDING x y) = false := by
  rw [State.canMark, State.on, State.g_f_apart _ (by simp [Fld.fits]) _ (.inr (.inl (by simp))), State.g_f_self _ (by simp [Fld.fits]), Nat.zero_mod]
  rfl

theorem State.canMark_g (s : State) (x y st : Nat) {f : Fld} (h : f.off ≠ 0x1D814 + 0x1000 * x + 0x20 * y) : (s.canMark x y st).g f = s.g f := by
  rw [State.canMark, State.g_f_apart _ (by simp [Fld.fits]) _ (.inl h), State.g_f_apart _ (by simp [Fld.fits]) _ (.inl h)]
  rfl

/-- A frame that leaves its buffer sent. -/
theorem State.canEnd_ok {x : Nat} (hx : x < 8) (s : State) {t : CanTxS} (hy : t.mb < 64) (result : List Nat) :
    (s.canEnd x t OK result).on (CAN_MBSTS_PENDING x t.mb) = false ∧ (s.canEnd x t OK result).g (CAN_MBSTS_STATUS x t.mb) = OK ∧
      (s.canEnd x t OK result).g (CAN_PTXOK x) = min (s.g (CAN_PTXOK x) + 1) (2 ^ 32 - 1) := by
  have hmb : InField (0x1D814 + 0x1000 * x + 0x20 * t.mb) := by unfold InField; omega
  refine ⟨?_, ?_, ?_⟩
  · rw [State.on, s.canEnd_g t OK result hmb, State.canLeft_ok, State.inc, State.incBy, State.g_f_apart _ (by simp [Fld.fits]) _ (.inl (by simp; omega))]
    exact s.canMark_pending x t.mb OK
  · rw [s.canEnd_g t OK result hmb, State.canLeft_ok, State.inc, State.incBy, State.g_f_apart _ (by simp [Fld.fits]) _ (.inl (by simp; omega))]
    exact s.canMark_status x t.mb (by decide)
  · rw [s.canEnd_g t OK result (by simp [InField]; omega), State.canLeft_ok, State.g_inc_self _ (by simp [Fld.fits]), s.canMark_g x t.mb OK (by simp; omega)]
    rfl

/-- A frame that leaves its buffer without having been sent. -/
theorem State.canEnd_fail {x : Nat} (hx : x < 8) (s : State) {t : CanTxS} (hy : t.mb < 64) (result : List Nat) {st : Nat} (hok : st ≠ OK) (hshed : st ≠ SHED)
    (hst : st < 256) : (s.canEnd x t st result).on (CAN_MBSTS_PENDING x t.mb) = false ∧ (s.canEnd x t st result).g (CAN_MBSTS_STATUS x t.mb) = st ∧
      (s.canEnd x t st result).g (CAN_PTXFAIL x) = min (s.g (CAN_PTXFAIL x) + 1) (2 ^ 32 - 1) := by
  have hmb : InField (0x1D814 + 0x1000 * x + 0x20 * t.mb) := by unfold InField; omega
  refine ⟨?_, ?_, ?_⟩
  · rw [State.on, s.canEnd_g t st result hmb, s.canLeft_fail x t.mb hok hshed, State.inc, State.incBy,
      State.g_f_apart _ (by simp [Fld.fits]) _ (.inl (by simp; omega))]
    exact s.canMark_pending x t.mb st
  · rw [s.canEnd_g t st result hmb, s.canLeft_fail x t.mb hok hshed, State.inc, State.incBy,
      State.g_f_apart _ (by simp [Fld.fits]) _ (.inl (by simp; omega))]
    exact s.canMark_status x t.mb hst
  · rw [s.canEnd_g t st result (by simp [InField]; omega), s.canLeft_fail x t.mb hok hshed, State.g_inc_self _ (by simp [Fld.fits]),
      s.canMark_g x t.mb st (by simp; omega)]
    rfl

/-- PSTS is no register that the end of a frame of the port writes. -/
theorem State.canEnd_psts {x : Nat} (hx : x < 8) (s : State) {t : CanTxS} {st : Nat} (hok : st ≠ OK) (hshed : st ≠ SHED) (result : List Nat)
    {f : Fld} (hf : f.off = 0x1D00C + 0x1000 * x) : (s.canEnd x t st result).g f = s.g f := by
  rw [s.canEnd_g t st result (by rw [hf]; unfold InField; omega), s.canLeft_fail x t.mb hok hshed, State.inc, State.incBy,
    State.g_f_apart _ (by simp [Fld.fits]) _ (.inl (by rw [hf]; simp)), s.canMark_g x t.mb st (by omega)]

theorem State.canEndAll_pend (x st : Nat) (l : List CanTxS) (s : State) :
    ((l.foldl (fun s t => s.canEnd x t st []) s).can x).pend = (s.can x).pend.filter fun u => l.all fun t => u.mb != t.mb := by
  induction l generalizing s with
  | nil => simp
  | cons t l ih =>
    rw [List.foldl_cons, ih, State.canEnd_can]
    simp only [List.filter_filter, List.all_cons]
    exact List.filter_congr fun u _ => Bool.and_comm _ _

theorem State.canHead_eq (s : State) (x : Nat) : s.canHead x = { s with regs := (s.canHead x).regs } :=
  State.foldl_eq_regs (fun _ _ => rfl) _ s

/-- Port x, when it takes part, is not bus-off. -/
theorem State.errstate_of_canOn {s : State} {x : Nat} (h : s.canOn x = true) : s.g (CAN_PSTS_ERRSTATE x) ≠ 2 := by
  intro he
  simp [State.canOn, State.canOff, he] at h

/-- A valid frame is counted (R211, R218, R225). -/
def State.canCounted (s : State) (x : Nat) : State := ((s.canDominant x 1).inc (CAN_PRXOK x)).canRecOk x

/-- What a valid frame leaves before it is dispatched. -/
def State.canTaken (s : State) (x lat : Nat) : State := (s.canCounted x).event (253 + x) ((s.canCounted x).ct - lat)

theorem State.canTaken_counts (s : State) {x : Nat} (hx : x < 8) (lat : Nat) (h : (s.can x).rec_ ≤ 127) :
    (s.canTaken x lat).g (CAN_PRXOK x) = min (s.g (CAN_PRXOK x) + 1) (2 ^ 32 - 1) ∧
      (s.canTaken x lat).can x = { s.can x with rec_ := (s.can x).rec_ - 1 } := by
  have hdom : (s.canDominant x 1).regs = s.regs ∧ (s.canDominant x 1).cans = s.cans := by
    unfold State.canDominant
    split <;> exact ⟨rfl, rfl⟩
  have hcan : ((s.canDominant x 1).inc (CAN_PRXOK x)).can x = s.can x := State.can_of_cans hdom.2 x
  have hok : ((s.canDominant x 1).inc (CAN_PRXOK x)).canRecOk x =
      ((s.canDominant x 1).inc (CAN_PRXOK x)).canErr x (s.can x).tec ((s.can x).rec_ - 1) := by
    rw [State.canRecOk, hcan]
    exact if_neg (by omega)
  constructor
  · rw [State.canTaken, State.event_g _ _ _ (by simp [Loud]; omega), State.canCounted, hok, State.canErr_g _ _ _ _ (.inl (by simp)) (.inl (by simp)) (.inl (by simp)),
      State.g_inc_self _ (by simp [Fld.fits]), State.g_of_regs hdom.1]
    rfl
  · rw [State.canTaken, State.can_of_cans (State.event_cans _ _ _), State.canCounted, hok, State.canErr_can, hcan]

theorem State.canHead_cans (s : State) (x : Nat) : (s.canHead x).cans = s.cans := by rw [State.canHead_eq]

theorem State.setCan_canHead_eq (s : State) (x : Nat) (p : CanPS) :
    (s.setCan x p).canHead x = { s with regs := ((s.setCan x p).canHead x).regs, cans := ((s.setCan x p).canHead x).cans } := by
  rw [State.canHead_cans]
  exact State.canHead_eq _ x

/-- Settles O34. -/
theorem canPortsComplete : Obligations.CanPortsComplete := by
  refine ⟨fun s x w data lat hx hon hvio hfd hen hact hmode => ?fdError, fun s x w data lat hx hon hvio hfd hrec => ?received,
    fun s x e lat f hx hsends hfirst hmb => ?sent, fun s x lat f hx hsends hfirst hretry => ?tryAgain, fun s x y f hx hy hfind hdue => ?timeout,
    fun s x hx htec hst hmb => ?busOff, fun s x hx hrecov => ?recovered, fun s x v hx h hbit hst => ?recover, fun s x v hx h hbit => ?pop,
    fun s x hx hwake hstb hvio => ?wake, fun s x eight hx hon => ?busError⟩
  case fdError =>
    have hdom : s.canDominant x 6 = { s with out := .canDom x 6 :: s.out } := if_pos ⟨hmode, hvio⟩
    refine congrArg Host.Outcome.next ((if_neg (by simp [hon, hvio])).trans ((if_pos (by simp [hfd, hen])).trans ?_))
    rw [if_pos hact, hdom]
    rfl
  case received =>
    have hexec : exec (.canFrameReceived x w data lat) s = .next ((s.canTaken x lat).canDispatch x w.toNat
        (if wbit w 30 then data.take 64 else if wbit w 31 then [] else data.take 8) ((s.canCounted x).ct - lat)) := by
      refine congrArg Host.Outcome.next ((if_neg (by simp [hon, hvio])).trans ((if_neg ?_).trans rfl))
      rcases hfd with hfd | hfd <;> simp [hfd]
    obtain ⟨hcount, hcan⟩ := s.canTaken_counts hx lat hrec
    have hdisp := Dispatched.canDispatch hx (s.canTaken x lat) w.toNat (if wbit w 30 then data.take 64 else if wbit w 31 then [] else data.take 8) ((s.canCounted x).ct - lat)
    exact ⟨_, hexec, hdisp.rxok.trans hcount, hdisp.rec_.trans (by rw [hcan]), hdisp.tec.trans (by rw [hcan]),
      hdisp.pend.trans (by rw [hcan])⟩
  case sent =>
    have hnow : s.canTxNow x lat = some f := (if_pos hsends).trans hfirst
    have hexec : exec (.canTxDone x false e lat) s =
        .next (((s.canErr x ((s.can x).tec - 1) (s.can x).rec_).canOut x f).canEnd x f OK (toLe 8 (s.ct - lat))) := by
      show execCanTxDone x false e lat s = _
      rw [execCanTxDone, hnow]
      exact congrArg Host.Outcome.next (if_neg Bool.false_ne_true)
    have hout : ((s.canErr x ((s.can x).tec - 1) (s.can x).rec_).canOut x f).regs = (s.canErr x ((s.can x).tec - 1) (s.can x).rec_).regs ∧
        ((s.canErr x ((s.can x).tec - 1) (s.can x).rec_).canOut x f).can x = { s.can x with tec := (s.can x).tec - 1 } := by
      unfold State.canOut
      split <;> exact ⟨rfl, s.canErr_can x _ _⟩
    obtain ⟨hpend, hstatus, hcount⟩ := State.canEnd_ok hx ((s.canErr x ((s.can x).tec - 1) (s.can x).rec_).canOut x f) hmb (toLe 8 (s.ct - lat))
    refine ⟨_, hexec, ?_, ?_, hpend, hstatus, ?_⟩
    · rw [State.canEnd_can, hout.2]
    · rw [State.canEnd_can, hout.2]
    · rw [hcount, State.g_of_regs hout.1, State.canErr_g _ _ _ _ (.inl (by simp)) (.inl (by simp)) (.inl (by simp))]
  case tryAgain =>
    have hnow : s.canTxNow x lat = some f := (if_pos hsends).trans hfirst
    have hexec : exec (.canTxDone x true false lat) s = .next ((s.canErr x ((s.can x).tec + 8) (s.can x).rec_).setCan x
        { (s.canErr x ((s.can x).tec + 8) (s.can x).rec_).can x with
          pend := ((s.canErr x ((s.can x).tec + 8) (s.can x).rec_).can x).pend.map fun u => if u.mb = f.mb then { u with retry := true } else u }) := by
      show execCanTxDone x true false lat s = _
      rw [execCanTxDone, hnow]
      exact congrArg Host.Outcome.next ((if_pos rfl).trans ((if_neg (by simp [hsends])).trans (if_neg (by simp [hretry]))))
    refine ⟨_, hexec, ?_, ?_⟩
    · rw [State.can_setCan_self, State.canErr_can]
    · rw [State.can_setCan_self, State.canErr_can]
  case timeout =>
    have hy' : f.mb = y := by simpa using List.find?_some hfind
    have hexec : exec (.canTxTimeout x y) s = .next (s.canEnd x f TIMEOUT []) := by
      show execCanTxTimeout x y s = _
      rw [execCanTxTimeout, hfind]
      exact congrArg Host.Outcome.next (if_pos hdue)
    subst hy'
    obtain ⟨hpend, hstatus, hcount⟩ := State.canEnd_fail hx s hy [] (st := TIMEOUT) (by decide) (by decide) (by decide)
    exact ⟨_, hexec, congrArg CanPS.pend (s.canEnd_can x f TIMEOUT []), hstatus, hpend, hcount⟩
  case busOff =>
    have hexec : exec (.canBusOff x) s = .next ((((s.can x).pend.foldl (fun s t => s.canEnd x t LINK_DOWN [])
        ((s.f (CAN_PSTS_ERRSTATE x) 2).f (CAN_PSTS_RECOVERING x) (s.g (CAN_PCFG_AUTOREC x)))).canGap x).raiseHub srcCAN) :=
      congrArg Host.Outcome.next (if_pos ⟨htec, hst⟩)
    have hkept : ∀ (f : Fld), f.off = 0x1D00C + 0x1000 * x → ((((s.can x).pend.foldl (fun s t => s.canEnd x t LINK_DOWN [])
        ((s.f (CAN_PSTS_ERRSTATE x) 2).f (CAN_PSTS_RECOVERING x) (s.g (CAN_PCFG_AUTOREC x)))).canGap x).raiseHub srcCAN).g f =
        ((s.f (CAN_PSTS_ERRSTATE x) 2).f (CAN_PSTS_RECOVERING x) (s.g (CAN_PCFG_AUTOREC x))).g f := by
      intro f hf
      refine (((FieldKept.interruptAll _ _).trans (.raiseHub _ srcCAN)).g (by rw [hf]; unfold InField; omega)).trans ?_
      exact List.foldlRecOn (motive := fun t : State => t.g f = _) _ _ rfl fun t h u _ =>
        (t.canEnd_psts hx (by decide) (by decide) [] hf).trans h
    refine ⟨_, hexec, (hkept _ rfl).trans ?_, (hkept _ rfl).trans ?_, ?_⟩
    · rw [State.g_f_apart _ (by simp [Fld.fits]) _ (.inr (.inl (by simp))), State.g_f_lt _ (by simp [Fld.fits]) (by simp)]
    · exact State.g_f_lt _ (by simp [Fld.fits]) (Nat.mod_lt _ (Nat.two_pow_pos _))
    · refine (congrArg CanPS.pend (State.can_of_cans ((State.raiseHub_cans _ _).trans (State.interruptAll_cans _ _)) x)).trans ?_
      rw [State.canEndAll_pend]
      refine List.filter_eq_nil_iff.2 fun u hu => ?_
      simp only [List.all_eq_true, not_forall]
      exact ⟨u, hu, by simp⟩
  case recovered =>
    have hexec : exec (.canRecovered x) s = .next (((s.f (CAN_PSTS_RECOVERING x) 0).f (CAN_PSTS_ERRSTATE x) 0).canErr x 0 0) :=
      congrArg Host.Outcome.next (if_pos hrecov)
    have hst : ((s.f (CAN_PSTS_RECOVERING x) 0).f (CAN_PSTS_ERRSTATE x) 0).g (CAN_PSTS_ERRSTATE x) = 0 := by
      rw [State.g_f_self _ (by simp [Fld.fits]), Nat.zero_mod]
    have hcan := State.canErr_can ((s.f (CAN_PSTS_RECOVERING x) 0).f (CAN_PSTS_ERRSTATE x) 0) x 0 0
    refine ⟨_, hexec, State.canErr_errstate (by omega) 0 0, State.canErr_tec _ _ _ _, State.canErr_rec _ _ _ _, ?_, congrArg CanPS.tec hcan, congrArg CanPS.rec_ hcan⟩
    rw [State.on, State.canErr_g _ _ _ _ (.inr (.inl (by simp))) (.inr (.inl (by simp))) (.inr (.inr (by simp))),
      State.g_f_apart _ (by simp [Fld.fits]) _ (.inr (.inr (by simp))), State.g_f_self _ (by simp [Fld.fits]), Nat.zero_mod]
    rfl
  case recover =>
    exact congrArg Host.Outcome.next ((State.barWrite_accepted h (by decide) _ _ _).trans (if_pos (by simp [hbit, hst])))
  case pop =>
    refine completes rfl ((State.barWrite_accepted h (by decide) _ _ _).trans (if_pos hbit)) ⟨?_, State.setCan_canHead_eq _ x _⟩
    rw [State.can_of_cans (State.canHead_cans _ x), State.can_setCan_self]
  case wake => exact congrArg Host.Outcome.next (if_pos (by simp [hwake, hstb, hvio]))
  case busError =>
    have hexec : exec (.canBusError x eight) s = .next (s.canErr x (s.can x).tec (min 255 ((s.can x).rec_ + if eight then 8 else 1))) :=
      congrArg Host.Outcome.next (if_pos hon)
    have hcan := s.canErr_can x (s.can x).tec (min 255 ((s.can x).rec_ + if eight then 8 else 1))
    refine ⟨_, hexec, congrArg CanPS.rec_ hcan, by rw [hcan], ?_, fun hpassive => ?_⟩
    · rw [hcan, State.canErr_rec]
      exact Nat.min_eq_left (Nat.min_le_left _ _)
    · rw [hcan] at hpassive
      rw [State.canErr_errstate (State.errstate_of_canOn hon)]
      exact if_pos (.inr hpassive)

end Sys2Proof.Machine
end

section
/-! The mapped flash (obligation O33). -/
set_option Elab.async false
namespace Sys2Proof.Machine

@[simp] theorem State.cfgAnswer_mem (s : State) (dst tag ty : Nat) (body : List Nat) : (s.cfgAnswer dst tag ty body).mem = s.mem :=
  part_eq (State.cfgAnswer_same s dst tag ty body (.refl 25165858) (.refl 25165858 s)).mem (by decide)

/-- What serving a read that no line holds fetches (R205). -/
def State.fetched (s : State) (a : Nat) (b b2 : List Nat) (more : Bool) : State :=
  let line := a / 64 * 64
  let next := s.mem.last == some (line - 64) && decide (64 ≤ line) && !more
  let s := s.putLine line b
  if next && decide (line + 64 < (if s.on MEM_CFG_ADDR4 then 2 ^ 26 else 2 ^ 24)) then s.putLine (line + 64) b2 else s

theorem State.serveRead_fetched {s : State} {a : Nat} (h : s.mem.lines.find? (fun l => l.1 == a / 64 * 64) = none) (b b2 : List Nat) (more : Bool) :
    s.serveRead a b b2 more = { s.fetched a b b2 more with rdata := lineWord ((s.fetched a b b2 more).flashIn b) a } := by
  rw [State.serveRead]
  simp only [h]
  rfl

theorem State.serveRead_held {s : State} {a : Nat} {l : Nat × List Nat} (h : s.mem.lines.find? (fun l => l.1 == a / 64 * 64) = some l)
    (b b2 : List Nat) (more : Bool) : s.serveRead a b b2 more =
      { s with rdata := lineWord l.2 a, mem := { s.mem with lines := l :: s.mem.lines.filter fun k => k.1 != a / 64 * 64 } } := by
  rw [State.serveRead]
  simp only [h]

/-- A raw command's transactions, before what it returns and drops (R208). -/
def State.rawSent (s : State) (v : Word) (addr data : Nat) : State :=
  let s := s.xipExit
  let n := min 4 (wbits v 11 9)
  let s := if wbit v 13 then s.flashOut (s.flashTx (some (s.g MEM_OPS_WRENOP)) none [] 0) else s
  s.flashOut (s.flashTx (some (wbits v 7 0)) (if wbit v 8 then some addr else none) (if wbit v 12 then [] else toLe n data) (if wbit v 12 then n else 0))

theorem State.sendRaw_eq (s : State) (v : Word) (addr data rx : Nat) : s.sendRaw v addr data rx =
    if wbit v 12 then (s.rawSent v addr data).f MEM_RAWDATA (if (s.rawSent v addr data).vioOn 0 then rx % 256 ^ min 4 (wbits v 11 9) else 0)
    else if min 4 (wbits v 11 9) = 0 then (if wbits v 7 0 = (s.rawSent v addr data).g MEM_OPS_WRENOP then s.rawSent v addr data
      else { s.rawSent v addr data with mem := { (s.rawSent v addr data).mem with lines := [] } })
    else if wbit v 8 then (s.rawSent v addr data).dropLines addr (min 4 (wbits v 11 9))
    else s.rawSent v addr data := rfl

/-- What the port's transactions leave of the memory port: the page buffer, FAULT, and that no read waits. -/
structure FlashKept (s t : State) : Prop where
  page : t.mem.page = s.mem.page
  fault : t.on MEM_STS_FAULT = s.on MEM_STS_FAULT
  idle : s.mem.waits = [] → t.mem.waits = []

namespace FlashKept

theorem refl (s : State) : FlashKept s s := ⟨rfl, rfl, id⟩

theorem trans {s t u : State} (h : FlashKept s t) (h' : FlashKept t u) : FlashKept s u :=
  ⟨h'.page.trans h.page, h'.fault.trans h.fault, fun hw => h'.idle (h.idle hw)⟩

theorem of_regs {s t : State} (hregs : t.regs = s.regs) (hpage : t.mem.page = s.mem.page) (hwaits : t.mem.waits = s.mem.waits) : FlashKept s t :=
  ⟨hpage, by rw [State.on, State.on, State.g_of_regs hregs], hwaits.trans⟩

theorem after {s t u : State} (h : FlashKept t u) (hregs : t.regs = s.regs) (hpage : t.mem.page = s.mem.page) (hwaits : t.mem.waits = s.mem.waits) :
    FlashKept s u := (of_regs hregs hpage hwaits).trans h

theorem f (s : State) {x : Fld} (hfit : x.fits) (h : MEM_STS_FAULT.apart x) (v : Nat) : FlashKept s (s.f x v) :=
  ⟨rfl, State.on_f_apart s hfit v h, id⟩

theorem drew (s : State) : FlashKept s s.drew := of_regs rfl rfl rfl

theorem ite {c : Prop} [Decidable c] {s t u : State} (h : FlashKept s t) (h' : FlashKept s u) : FlashKept s (if c then t else u) := by
  split
  · exact h
  · exact h'

theorem setMem (s : State) {m : MemS} (hpage : m.page = s.mem.page) (hwaits : m.waits = s.mem.waits) : FlashKept s (s.setMem m) :=
  ((f _ (x := MEM_STS_BUSY) (by decide) (by decide) _).trans (f _ (x := MEM_STS_PENDW) (by decide) (by decide) _)).after rfl hpage hwaits

theorem flashOut (s : State) (t : FlashTx) : FlashKept s (s.flashOut t) := by
  unfold State.flashOut
  split
  · exact of_regs rfl rfl rfl
  · exact refl s

theorem modeRead (s : State) (a mode n : Nat) : FlashKept s (s.modeRead a mode n) := flashOut s _

theorem xipExit (s : State) : FlashKept s s.xipExit := by
  unfold State.xipExit
  split
  · exact ((modeRead s _ _ _).trans (drew _)).trans (f _ (x := MEM_STS_XIPACT) (by decide) (by decide) _)
  · exact refl s

theorem flashRead (s : State) (a n : Nat) : FlashKept s (s.flashRead a n) := by
  unfold State.flashRead
  split
  · exact (modeRead s _ _ _).trans (f _ (x := MEM_STS_XIPACT) (by decide) (by decide) _)
  · exact (xipExit s).trans (flashOut _ _)

theorem putLine (s : State) (a : Nat) (b : List Nat) : FlashKept s (s.putLine a b) := (flashRead s a 64).trans (of_regs rfl rfl rfl)

theorem dropLines (s : State) (a n : Nat) : FlashKept s (s.dropLines a n) := of_regs rfl rfl rfl

theorem fetched (s : State) (a : Nat) (b b2 : List Nat) (more : Bool) : FlashKept s (s.fetched a b b2 more) := by
  have hline := putLine s (a / 64 * 64) b
  exact ite (hline.trans (putLine _ _ b2)) hline

theorem serveRead (s : State) (a : Nat) (b b2 : List Nat) (more : Bool) : FlashKept s (s.serveRead a b b2 more) := by
  cases h : s.mem.lines.find? (fun l => l.1 == a / 64 * 64) with
  | none =>
    rw [State.serveRead_fetched h]
    exact (fetched s a b b2 more).trans (of_regs rfl rfl rfl)
  | some l =>
    rw [State.serveRead_held h]
    exact of_regs rfl rfl rfl

theorem readEnd (s : State) (who : Option (Nat × Nat)) (st : Nat) : FlashKept s (s.readEnd who st) := by
  have hkept : ∀ src tag ty body, FlashKept s (s.cfgAnswer src tag ty body) := fun src tag ty body =>
    ⟨by rw [State.cfgAnswer_mem], (FieldKept.cfgAnswer s src tag ty body).on (by decide), by rw [State.cfgAnswer_mem]; exact id⟩
  unfold State.readEnd
  split
  · exact hkept _ _ _ _
  · exact refl s

theorem sendProg (s : State) (p : PageS) : FlashKept s (s.sendProg p) :=
  (((xipExit s).trans (flashOut _ _)).trans (flashOut _ _)).trans (dropLines _ _ _)

theorem rawSent (s : State) (v : Word) (addr data : Nat) : FlashKept s (s.rawSent v addr data) := by
  unfold State.rawSent
  dsimp only
  split
  · exact ((xipExit s).trans (flashOut _ _)).trans (flashOut _ _)
  · exact (xipExit s).trans (flashOut _ _)

theorem sendRaw (s : State) (v : Word) (addr data rx : Nat) : FlashKept s (s.sendRaw v addr data rx) := by
  have hsent := rawSent s v addr data
  rw [State.sendRaw_eq]
  split
  · exact hsent.trans (f _ (by decide) (by decide) _)
  · split
    · split
      · exact hsent
      · exact hsent.trans (of_regs rfl rfl rfl)
    · split
      · exact hsent.trans (dropLines _ _ _)
      · exact hsent

theorem pollFrom (s : State) (op : MemOp) (retried : Bool) : FlashKept s (s.pollFrom op retried) := setMem s rfl rfl

theorem memNext (n : Nat) : ∀ s, FlashKept s (State.memNext n s) := by
  induction n with
  | zero => exact refl
  | succ n ih =>
    intro s
    rw [State.memNext]
    split
    · exact refl s
    · split
      · exact setMem s rfl rfl
      · exact (((sendProg _ _).trans (pollFrom _ _ _)).trans (ih _)).after rfl rfl rfl
      · dsimp only
        split
        · exact (((sendRaw _ _ _ _ _).trans (pollFrom _ _ _)).trans (ih _)).after rfl rfl rfl
        · exact ((sendRaw _ _ _ _ _).trans (ih _)).after rfl rfl rfl

theorem serveWaits (s : State) : FlashKept s s.serveWaits := by
  unfold State.serveWaits
  split
  · exact refl s
  · have hfold : ∀ (l : List (WaitS × Nat)) (n : Nat) (t : State), FlashKept t (l.foldl (fun s w =>
        (s.serveRead w.1.addr w.1.line w.1.next (decide (w.2 + 1 < n))).readEnd w.1.who OK) t) := fun l n t =>
      List.foldlRecOn (motive := fun u : State => FlashKept t u) _ _ (refl t) fun u h w _ => h.trans ((serveRead u _ _ _ _).trans (readEnd _ _ _))
    have h := hfold s.mem.waits.zipIdx s.mem.waits.length { s with mem := { s.mem with waits := [] } }
    exact ⟨h.page, h.fault, fun _ => h.idle rfl⟩

theorem memGo (s : State) : FlashKept s s.memGo := (memNext _ s).trans (serveWaits _)

end FlashKept

theorem State.putLine_sys (s : State) (a : Nat) (b : List Nat) : (s.putLine a b).sys = s.sys :=
  part_eq (State.putLine_same s a b (.refl 131110) (.refl 131110 s)).sys (by decide)

/-- What is fetched reads as the flash gave it in a bank with its supply. -/
theorem State.fetched_flashIn {s : State} (h : s.vioOn 0 = true) (a : Nat) (b b2 : List Nat) (more : Bool) :
    (s.fetched a b b2 more).flashIn b = b := by
  have hsys : (s.fetched a b b2 more).sys = s.sys := by
    have hline := s.putLine_sys (a / 64 * 64) b
    unfold State.fetched
    exact (apply_ite State.sys _ _ _).trans ((ite_congr rfl (fun _ => (State.putLine_sys _ _ b2).trans hline) fun _ => hline).trans (ite_self _))
  refine if_pos ?_
  rw [State.vioOn, hsys]
  exact h

/-- The page handed over leaves the page buffer empty. -/
theorem State.flushPage_page (s : State) : s.flushPage.mem.page = none := by
  unfold State.flushPage
  split
  · exact (FlashKept.memGo _).page
  · assumption

/-- An access to the aperture with the port's clock running. -/
theorem State.memApRead_exec {s : State} (h : s.awake.stopped MEM_ERRSTS = false) (k : Nat) (b b2 : List Nat) :
    exec (.memApRead k b b2) s = .next (s.awake.apAccess k b b2 none) :=
  congrArg Host.Outcome.next (if_neg (by rw [← State.awake, h]; exact Bool.false_ne_true))

theorem State.apAccess_free {s : State} {k : Nat} (hwin : s.winRefused (s.apAddr k) = none) (hrun : s.mem.run = none) (b b2 : List Nat) :
    s.apAccess k b b2 none = s.serveRead (s.apAddr k) (padTo 64 b) (padTo 64 b2) false := by
  simp only [State.apAccess, hwin, hrun]
  exact if_neg Bool.false_ne_true

theorem State.waitFails_kept (s : State) (w : WaitS) : (s.waitFails w).mem = s.mem := by
  have herr : ({ s.err MEM_ERRSTS (apOff (w.addr % 4096 / 4)) TIMEOUT with rdata := 0 } : State).mem = s.mem := State.err_mem s _ _ _
  unfold State.waitFails State.readFails State.readEnd
  split
  · exact (State.cfgAnswer_mem _ _ _ _ _).trans herr
  · exact herr

theorem State.waitsFail_mem (l : List WaitS) (s : State) : (l.foldl State.waitFails s).mem = s.mem :=
  List.foldlRecOn (motive := fun t : State => t.mem = s.mem) _ _ rfl fun t h w _ => (t.waitFails_kept w).trans h

theorem FlashKept.memEnd (s : State) : FlashKept s s.memEnd := (FlashKept.setMem s (m := { s.mem with run := none }) rfl rfl).trans (FlashKept.memGo _)

/-- A poll that is due outside continuous-read mode reads the status. -/
theorem State.statusPoll_exec {s : State} {r : MemRunS} (hr : s.mem.run = some r) (hdue : r.next ≤ s.elapsed) (hxip : s.on MEM_STS_XIPACT = false)
    (hvio : s.vioOn 0 = true) (st : Nat) (b : List Nat) : exec (.statusPoll st b) s = .next
      (let t : State := { s with out := .flash (s.flashTx (some (s.g MEM_OPS_RDSROP)) none [] 1) :: s.out }
       if (nbit st (s.g MEM_XIPCFG_BUSYBIT) && s.vioOn 0) = true then
         t.setMem { t.mem with run := some { r with next := r.next + t.g MEM_PROGCFG_POLLINT * 1000 } }
       else t.memVerify r b) := by
  have hx : s.xipExit = s := if_neg (by rw [hxip]; exact Bool.false_ne_true)
  have hout : s.flashOut (s.flashTx (some (s.g MEM_OPS_RDSROP)) none [] 1) =
      { s with out := .flash (s.flashTx (some (s.g MEM_OPS_RDSROP)) none [] 1) :: s.out } := if_pos hvio
  show execStatusPoll st b s = _
  rw [execStatusPoll, hr]
  refine congrArg Host.Outcome.next ((if_neg (by omega)).trans ?_)
  rw [hx, hout]
  rfl

/-- Settles O33. -/
theorem memoryCompletes : Obligations.MemoryCompletes := by
  refine ⟨fun s k b b2 ln hrun hwin hfree hline => ?held, fun s k b b2 hrun hwin hfree hvio hline => ?fetched, fun s k b b2 r hrun hwin hbusy => ?waits,
    fun s k v h hwin hpage => ?gathers, fun s v h hbit => ?flush, fun s st b r hr hdue hxip hvio hbusy => ?busy,
    fun s st b r hr hdue hxip hvio hbusy hverify => ?done, fun s v rx h hen hfree => ?raw, fun s p hp hdue => ?pageTimeout,
    fun s r hr hdue => ?progto, fun s r hr hdue => ?waitTimeout⟩
  case held =>
    have hexec := (State.memApRead_exec hrun k b b2).trans (congrArg Host.Outcome.next ((State.apAccess_free hwin hfree b b2).trans
      (State.serveRead_held hline _ _ _)))
    exact ⟨_, hexec, rfl, rfl, rfl⟩
  case fetched =>
    have hexec := (State.memApRead_exec hrun k b b2).trans (congrArg Host.Outcome.next ((State.apAccess_free hwin hfree b b2).trans
      (State.serveRead_fetched hline _ _ _)))
    exact ⟨_, hexec, congrArg (lineWord · (s.awake.apAddr k)) (State.fetched_flashIn hvio _ _ _ _)⟩
  case waits =>
    have heff : s.awake.apAccess k b b2 none = { s.awake with mem := { s.awake.mem with waits := s.awake.mem.waits ++
        [{ addr := s.awake.apAddr k, line := padTo 64 b, next := padTo 64 b2, at_ := s.awake.elapsed }] } } := by
      simp only [State.apAccess, hwin, hbusy]
      exact if_pos rfl
    exact completes (State.memApRead_exec hrun k b b2) heff ⟨rfl, rfl⟩
  case gathers =>
    have heff : (match s.awake.winRefused (s.awake.apAddr k) with
        | some c => s.awake.err MEM_ERRSTS (apOff k) c
        | none =>
          let s' := s.awake.dropLines (s.awake.apAddr k) 4
          let other := match s'.mem.page with
            | some p => p.addr != s.awake.apAddr k / 256 * 256
            | none => false
          (if other then s'.flushPage else s').gather (s.awake.apAddr k) (apOff k) v) =
        (s.awake.dropLines (s.awake.apAddr k) 4).gather (s.awake.apAddr k) (apOff k) v := by
      simp only [hwin, State.dropLines, hpage]
      exact congrArg (fun s : State => s.gather _ _ _) (if_neg Bool.false_ne_true)
    have hgather : (s.awake.dropLines (s.awake.apAddr k) 4).gather (s.awake.apAddr k) (apOff k) v =
        (s.awake.dropLines (s.awake.apAddr k) 4).setMem { (s.awake.dropLines (s.awake.apAddr k) 4).mem with
          page := some { addr := s.awake.apAddr k / 256 * 256, at_ := s.awake.elapsed, off := apOff k
                         bytes := (List.range 4).map fun i => (s.awake.apAddr k % 256 + i, v.toNat / 256 ^ i % 256) } } := by
      have hp : (s.awake.dropLines (s.awake.apAddr k) 4).mem.page = none := hpage
      simp only [State.gather, hp, List.nil_append, List.length_map, List.length_range]
      rfl
    refine completes rfl ((State.barWrite_accepted h (by decide) _ _ _).trans (heff.trans hgather)) ⟨⟨_, rfl, rfl, rfl, rfl⟩, ?_, rfl⟩
    exact State.on_f_one _ (by decide)
  case flush =>
    exact completes rfl ((State.barWrite_accepted h (by decide) _ _ _).trans (if_pos hbit)) ⟨rfl, State.flushPage_page _⟩
  case busy =>
    refine completes (State.statusPoll_exec hr hdue hxip hvio st b) (if_pos (by rw [hbusy]; exact hvio)) ⟨rfl, rfl, ?_⟩
    exact (State.on_f_apart _ (by decide) _ (by decide)).trans (State.on_f_one _ (by decide))
  case done =>
    refine (State.statusPoll_exec hr hdue hxip hvio st b).trans (congrArg Host.Outcome.next ((if_neg (by rw [hbusy]; exact Bool.false_ne_true)).trans ?_))
    unfold State.memVerify
    split
    · rfl
    · exact if_pos (by rw [Bool.not_eq_true']; exact hverify)
  case raw =>
    exact congrArg Host.Outcome.next ((State.barWrite_accepted h (by decide) _ _ _).trans
      ((if_neg (by simp [hen])).trans (if_neg (by simp [hfree]))))
  case pageTimeout =>
    have hexec : exec .pageBufferTimeout s = .next s.flushPage := by
      show execPageBufferTimeout s = _
      rw [execPageBufferTimeout, hp]
      exact congrArg Host.Outcome.next (if_pos hdue)
    exact ⟨_, hexec, rfl, State.flushPage_page s⟩
  case progto =>
    have hexec : exec .progtoExpiry s = .next (((s.mem.waits.foldl State.waitFails { s with mem := { s.mem with waits := [] } }).memFault r.op TIMEOUT).memEnd) := by
      show execProgtoExpiry s = _
      rw [execProgtoExpiry, hr]
      exact congrArg Host.Outcome.next (if_pos hdue)
    have hmem : ((s.mem.waits.foldl State.waitFails { s with mem := { s.mem with waits := [] } }).memFault r.op TIMEOUT).mem = { s.mem with waits := [] } := by
      rw [State.memFault, State.raiseHub_mem, State.f_mem, State.err_mem, State.waitsFail_mem]
    have hfault : ((s.mem.waits.foldl State.waitFails { s with mem := { s.mem with waits := [] } }).memFault r.op TIMEOUT).on MEM_STS_FAULT = true :=
      ((FieldKept.raiseHub _ _).on (by decide)).trans (State.on_f_one _ (by decide))
    have hend := FlashKept.memEnd ((s.mem.waits.foldl State.waitFails { s with mem := { s.mem with waits := [] } }).memFault r.op TIMEOUT)
    exact ⟨_, hexec, hend.idle (by rw [hmem]), hend.fault.trans hfault⟩
  case waitTimeout =>
    refine ⟨_, ?_, congrArg MemS.waits (State.waitsFail_mem (s.mem.waits.filter fun w => w.at_ + s.g MEM_PROGCFG_PROGTO * 1000 ≤ s.elapsed)
      { s with mem := { s.mem with waits := s.mem.waits.filter fun w => !(decide (w.at_ + s.g MEM_PROGCFG_PROGTO * 1000 ≤ s.elapsed)) } })⟩
    show execProgtoExpiry s = _
    rw [execProgtoExpiry, hr]
    exact congrArg Host.Outcome.next (if_neg (by omega))

end Sys2Proof.Machine
end

section
/-! The serial ports (obligation O32). -/
set_option Elab.async false
namespace Sys2Proof.Machine

@[simp] theorem State.enqueueRaw_ser (s : State) (r : RawS) : (s.enqueueRaw r).ser = s.ser :=
  part_eq (State.enqueueRaw_same s r (.refl 14420514) (.refl 14420514 s)).ser (by decide)

@[simp] theorem State.placeRun_out (s : State) (h : SerHS) : (s.placeRun h).out = s.out :=
  part_eq (State.placeRun_same s (.refl 36866) h (.refl 36866 s)).out (by decide)

theorem State.sp_of_ser {s t : State} (h : t.ser = s.ser) (x : Nat) : t.sp x = s.sp x := by rw [State.sp, State.sp, h]

/-- A counter of 32 bits steps up to its greatest value (R12). -/
theorem State.g_inc_word (s : State) {f : Fld} (hhi : f.hi = 31) (hlo : f.lo = 0) : (s.inc f).g f = min (s.g f + 1) (2 ^ 32 - 1) := by
  rw [State.g_inc_self s ⟨by omega, by omega⟩, hhi, hlo]

/-- SER_PxSTS is the register that follows a port. -/
theorem State.setSp_g (s : State) (x : Nat) (p : SerPS) {f : Fld} (h : f.off ≠ 0x31114 + 0x40 * x) : (s.setSp x p).g f = s.g f := by
  rw [State.setSp, State.g_f_apart _ (by simp [Fld.fits]) _ (.inl h), State.g_f_apart _ (by simp [Fld.fits]) _ (.inl h)]
  rfl

theorem State.setSp_busy (s : State) (x : Nat) (p : SerPS) : (s.setSp x p).on (SER_PSTS_BUSY x) = p.run.isSome :=
  State.on_f_self _ (by simp [Fld.fits]) _

/-! An entry starts (R196-R198). -/

/-- The start of an entry is counted when it is late. -/
def State.serLate (s : State) (x : Nat) (q : SerQS) : State :=
  if (match q.at_ with | some t => decide (t + 5 < s.ct) | none => false) = true then s.inc (SER_PLATE x) else s

theorem State.serLate_eq (s : State) (x : Nat) (q : SerQS) : s.serLate x q = { s with regs := (s.serLate x q).regs } := by
  unfold State.serLate
  split_ifs <;> rfl

theorem State.serLate_g (s : State) (x : Nat) (q : SerQS) {f : Fld} (h : f.off ≠ 0x31118 + 0x40 * x) : (s.serLate x q).g f = s.g f := by
  unfold State.serLate
  split_ifs
  · exact State.g_f_apart s (f := SER_PLATE x) (by simp [Fld.fits]) _ (.inl h)
  · rfl

theorem State.serLate_sckNs (s : State) {x : Nat} (hx : x < 8) (q : SerQS) (b : List Nat) :
    (s.serLate x q).sckNs x ((s.serLate x q).runPeriods b) = s.sckNs x (s.runPeriods b) := by
  have hg : ∀ f : Fld, f.off ≠ 0x31118 + 0x40 * x → (s.serLate x q).g f = s.g f := fun f => s.serLate_g x q
  simp only [State.sckNs, State.runPeriods, State.selPeriods, State.incr, State.g64]
  rw [hg (SER_PCFG_DIV x) (by simp), hg (SER_PTIM_CSSETUP _) (by simp; omega), hg (SER_PTIM_CSHOLD _) (by simp; omega), hg (SER_PTIM_CSIDLE _) (by simp; omega),
    hg TIM_CTINCLO (by simp; omega), hg TIM_CTINCHI (by simp; omega)]

/-- What waits for a port joins its queue beside the entry that runs. -/
structure Running (x : Nat) (r : SerRS) (o : List Out) (s : State) : Prop where
  run : (s.sp x).run = some r
  busy : s.on (SER_PSTS_BUSY x) = true
  out : s.out = o

theorem Running.setSp {x : Nat} {r : SerRS} {o : List Out} {s : State} (h : Running x r o s) {p : SerPS} (hp : p.run = (s.sp x).run) :
    Running x r o (s.setSp x p) := by
  refine ⟨?_, ?_, h.out⟩
  · rw [State.setSp_sp, hp, h.run]
  · rw [State.setSp_busy, hp, h.run]
    rfl

theorem Running.placeRun {x : Nat} {r : SerRS} {o : List Out} {s : State} (h : Running x r o s) {y : SerHS} (hy : y.port = x) :
    Running x r o (s.placeRun y) := by
  subst hy
  unfold State.placeRun
  dsimp only
  split
  · exact h.setSp rfl
  · split
    · exact h.setSp rfl
    · exact ⟨h.run, h.busy, h.out⟩

/-- The first placement held for a port is for that port. -/
theorem State.port_of_serHeldFirst {s : State} {x : Nat} {y : SerHS} (h : s.serHeldFirst x = some y) : y.port = x := by
  have hall : ∀ b, (List.foldl (fun best h => match best with
      | some b => if heldBefore b h then some b else some h
      | none => some h) none (s.psc.held.filter fun h => h.port == x)) = some b → b.port = x := by
    refine List.foldlRecOn (motive := fun r : Option SerHS => ∀ b, r = some b → b.port = x) _ _ (by simp) fun r ih a ha b hb => ?_
    have hport : a.port = x := by simpa using (List.mem_filter.1 ha).2
    split at hb
    · split at hb
      · cases hb; exact ih _ rfl
      · cases hb; exact hport
    · cases hb; exact hport
  exact hall y h

theorem Running.placeHeld {x : Nat} {r : SerRS} {o : List Out} (n : Nat) : ∀ {s : State}, Running x r o s → Running x r o (State.placeHeld x n s) := by
  induction n with
  | zero => exact id
  | succ n ih =>
    intro s h
    rw [State.placeHeld]
    split
    next y hy =>
      split
      · have hheld : Running x r o ({ s with psc := { s.psc with held := s.psc.held.erase y } }) := ⟨h.run, h.busy, h.out⟩
        exact ih (hheld.placeRun (State.port_of_serHeldFirst hy))
      · exact h
    · exact h

/-- A run goes out with its select, asserted where it is enabled. -/
def State.serSelect (s : State) (x : Nat) (q : SerQS) (b : List Nat) : State :=
  let sel := if nbit (s.g (SER_PCS_EN x)) (tpSel b) then some (tpSel b) else none
  if s.vioOn (x / 2) then { s with out := .serial x sel (tpMode b) (runBits b q.data) :: s.out } else s

theorem Running.serSelect {x : Nat} {r : SerRS} {o : List Out} {s : State} (h : Running x r o s) (q : SerQS) (b : List Nat) :
    Running x r (s.serSelect x q b).out (s.serSelect x q b) := by
  unfold State.serSelect
  dsimp only
  split
  · exact ⟨h.run, h.busy, rfl⟩
  · exact ⟨h.run, h.busy, rfl⟩

/-- The port once entry q runs with template b, before what waits for it is placed: its select asserted where it is enabled. -/
def State.serRunning (s : State) (x : Nat) (q : SerQS) (b : List Nat) : State :=
  let p := s.sp x
  let s := s.serLate x q
  (s.setSp x { p with
    q := if p.again.isSome then p.q else p.q.drop 1, again := none
    run := some { q := q, img := b, ct := s.ct, fin := s.elapsed + s.sckNs x (s.runPeriods b) }
    freeAt := s.elapsed + s.sckNs x (s.runPeriods b + s.g (SER_PTIM_CSIDLE x)) }).serSelect x q b

theorem State.serStart_eq {s : State} {x : Nat} {q : SerQS} (h : s.serNext x = some q) : s.serStart x =
    State.placeHeld x (s.serRunning x q (if q.retry then q.img else s.tpl q.tpl)).psc.held.length
      ((s.serRunning x q (if q.retry then q.img else s.tpl q.tpl)).event (359 + x) (s.serRunning x q (if q.retry then q.img else s.tpl q.tpl)).ct) := by
  rw [State.serStart, h]
  rfl

theorem State.serRunning_runs (s : State) {x : Nat} (hx : x < 8) (q : SerQS) (b : List Nat) :
    Running x { q := q, img := b, ct := s.ct, fin := s.elapsed + s.sckNs x (s.runPeriods b) } (s.serRunning x q b).out (s.serRunning x q b) := by
  have hct : (s.serLate x q).ct = s.ct := by rw [State.serLate_eq]; rfl
  have helapsed : (s.serLate x q).elapsed = s.elapsed := by rw [State.serLate_eq]; rfl
  have hrun : ∀ p : SerPS, p.run = some (SerRS.mk q b (s.serLate x q).ct ((s.serLate x q).elapsed +
      (s.serLate x q).sckNs x ((s.serLate x q).runPeriods b))) →
      Running x { q := q, img := b, ct := s.ct, fin := s.elapsed + s.sckNs x (s.runPeriods b) } s.out ((s.serLate x q).setSp x p) := by
    intro p hp
    rw [hct, helapsed, s.serLate_sckNs hx q b] at hp
    refine ⟨?_, ?_, ?_⟩
    · rw [State.setSp_sp, hp]
    · rw [State.setSp_busy, hp]
      rfl
    · rw [State.setSp_out, State.serLate_eq]
  exact (hrun _ rfl).serSelect q b

theorem State.serRunning_out {s : State} {x : Nat} (q : SerQS) {b : List Nat} (hvio : s.vioOn (x / 2) = true)
    (hsel : nbit (s.g (SER_PCS_EN x)) (tpSel b) = true) : Out.serial x (some (tpSel b)) (tpMode b) (runBits b q.data) ∈ (s.serRunning x q b).out := by
  have hv : ∀ p, ((s.serLate x q).setSp x p).vioOn (x / 2) = true := by
    intro p
    rw [State.vioOn, State.setSp_sys, State.serLate_eq]
    exact hvio
  have hs : ∀ p, nbit (((s.serLate x q).setSp x p).g (SER_PCS_EN x)) (tpSel b) = true := by
    intro p
    rw [State.setSp_g _ _ _ (by simp), State.serLate_g _ _ _ (by simp)]
    exact hsel
  unfold State.serRunning State.serSelect
  dsimp only
  rw [if_pos (hv _), if_pos (hs _)]
  exact List.mem_cons_self ..

theorem Running.event {x : Nat} {r : SerRS} {o : List Out} {s : State} (hx : x < 8) (h : Running x r o s) (p ct : Nat) : Running x r o (s.event p ct) :=
  ⟨(congrArg SerPS.run (State.sp_of_ser (State.event_ser s p ct) x)).trans h.run, ((FieldKept.event s p ct).on (by simp [InField]; omega)).trans h.busy,
    (State.event_out s p ct).trans h.out⟩

/-! A run is delivered (R195, R199). -/

/-- A run of no transaction delivers its words and nothing else. -/
theorem State.serDeliver_kept (s : State) {r : SerRS} (h : r.q.tags = []) (ws : List Nat) :
    FieldKept s (s.serDeliver r ws) ∧ (s.serDeliver r ws).ser = s.ser := by
  have hmine : (s.psc.txns.filter fun x => ([] : List Nat).contains x.tag) = [] := by simp
  unfold State.serDeliver
  simp only [h, hmine, List.foldl_nil]
  exact List.foldlRecOn (motive := fun t : State => FieldKept s t ∧ t.ser = s.ser) _ _ ⟨.refl s, rfl⟩ fun t ih _ _ =>
    ⟨ih.1.trans (.enqueueRaw t _), (State.enqueueRaw_ser t _).trans ih.2⟩

/-- Port x once a run of it that passes its check has ended: a retry that passes is counted (R199). -/
def State.serPassed (s : State) (x : Nat) (r : SerRS) : State :=
  if r.q.retry then (s.setSp x { s.sp x with run := none }).inc (SER_PRETRYOK x) else s.setSp x { s.sp x with run := none }

theorem State.serPassed_sp (s : State) (x : Nat) (r : SerRS) : (s.serPassed x r).sp x = { s.sp x with run := none } := by
  unfold State.serPassed
  split
  · exact (State.sp_of_ser (State.inc_ser _ _) x).trans (State.setSp_sp s x _)
  · exact State.setSp_sp s x _

theorem State.serPassed_retryOk (s : State) (x : Nat) (r : SerRS) : (s.serPassed x r).g (SER_PRETRYOK x) =
    if r.q.retry then min (s.g (SER_PRETRYOK x) + 1) (2 ^ 32 - 1) else s.g (SER_PRETRYOK x) := by
  have hport : (s.setSp x { s.sp x with run := none }).g (SER_PRETRYOK x) = s.g (SER_PRETRYOK x) := State.setSp_g s x _ (by simp)
  rw [State.serPassed]
  cases r.q.retry with
  | true => rw [if_pos rfl, if_pos rfl, State.g_inc_word _ rfl rfl, hport]
  | false => rw [if_neg Bool.false_ne_true, if_neg Bool.false_ne_true, hport]

/-- Settles O32. -/
theorem serialPortsComplete : Obligations.SerialPortsComplete := by
  refine ⟨fun s x q rest hx hidle hagain hq hretry hmaster hruns hfree hdue => ?start, fun s x ws r hx hr hfin htags hjob hok => ?passed,
    fun s x ws r hx hr hfin hretry hbad => ?failed, fun s x v hx hon hroom => ?word, fun s x n back v hx hon hn hlt hroom => ?part⟩
  case start =>
    have hnext : s.serNext x = some q := by
      unfold State.serNext
      simp only [hidle, hagain, hq, hmaster]
      exact (if_neg (by simp; omega)).trans (if_pos ⟨hruns, hdue⟩)
    have hb : (if q.retry then q.img else s.tpl q.tpl) = s.tpl q.tpl := if_neg (by rw [hretry]; exact Bool.false_ne_true)
    have hexec : exec (.serialEntryStart x) s = .next (s.serStart x) := rfl
    rw [State.serStart_eq hnext, hb] at hexec
    have hend := ((s.serRunning_runs hx q (s.tpl q.tpl)).event hx (359 + x) (s.serRunning x q (s.tpl q.tpl)).ct).placeHeld
      (s.serRunning x q (s.tpl q.tpl)).psc.held.length
    refine ⟨_, hexec, hend.busy, hend.run, fun hvio hsel => ?_⟩
    rw [hend.out]
    exact State.serRunning_out q hvio hsel
  case passed =>
    have hexec : exec (.serialEntryDone x ws) s = .next ((s.serPassed x r).serDeliver r (s.runWords x r.img ws)) := by
      show execSerialEntryDone x ws s = _
      simp only [execSerialEntryDone, hr, hjob]
      exact congrArg Host.Outcome.next ((if_neg (by omega)).trans (if_pos hok))
    obtain ⟨hkept, hser⟩ := State.serDeliver_kept (s.serPassed x r) htags (s.runWords x r.img ws)
    have hsp := (State.sp_of_ser hser x).trans (s.serPassed_sp x r)
    exact ⟨_, hexec, congrArg SerPS.run hsp, (congrArg SerPS.q hsp).trans rfl, (hkept.g (by simp [InField]; omega)).trans (s.serPassed_retryOk x r)⟩
  case failed =>
    have hexec : exec (.serialEntryDone x ws) s = .next (((s.setSp x { s.sp x with run := none }).inc (SER_PCHKERR x)).setSp x
        { ((s.setSp x { s.sp x with run := none }).inc (SER_PCHKERR x)).sp x with again := some { r.q with at_ := none, retry := true, img := r.img } }) := by
      show execSerialEntryDone x ws s = _
      simp only [execSerialEntryDone, hr]
      exact congrArg Host.Outcome.next ((if_neg (by omega)).trans ((if_neg (by rw [hbad]; exact Bool.false_ne_true)).trans
        (if_neg (by rw [hretry]; exact Bool.false_ne_true))))
    have hsp : ((s.setSp x { s.sp x with run := none }).inc (SER_PCHKERR x)).sp x = { s.sp x with run := none } :=
      (State.sp_of_ser (State.inc_ser _ _) x).trans (State.setSp_sp s x _)
    refine ⟨_, hexec, ?_, ?_, ?_, ?_⟩
    · rw [State.setSp_sp, hsp]
    · rw [State.setSp_sp, hsp]
    · rw [State.setSp_sp]
    · rw [State.setSp_g _ x _ (f := SER_PCHKERR x) (by simp), State.g_inc_word _ rfl rfl, State.setSp_g s x _ (f := SER_PCHKERR x) (by simp)]
  case word =>
    have hexec : exec (.slaveWordReceived x v) s = .next (s.slaveWord x (s.slvBits x) 0 v) := congrArg Host.Outcome.next (if_pos hon)
    refine completes hexec (if_pos hroom) ⟨⟨_, congrArg SerPS.words (State.setSp_sp _ x _), rfl, rfl, rfl⟩, rfl, ?_⟩
    exact (State.setSp_sp _ x _).trans (by rw [State.setSp_sp])
  case part =>
    have hexec : exec (.slaveSelectNegated x n back v) s = .next (s.slaveWord x n back v) := congrArg Host.Outcome.next (if_pos ⟨hon, hn, hlt⟩)
    refine completes hexec (if_pos hroom) ⟨_, congrArg SerPS.words (State.setSp_sp _ x _), rfl, ?_, rfl⟩
    exact congrArg (flagIf _ fPARTIAL) (decide_eq_true hlt)

end Sys2Proof.Machine
end

section
/-! What follows a guard channel's output, a monitor's edge and a node's end leaves of the guard (for obligation O30). -/
set_option Elab.async false
namespace Sys2Proof.Machine

@[simp] theorem State.segmentOn_grd (s : State) (k : Nat) : (s.segmentOn k).grd = s.grd :=
  part_eq (State.segmentOn_same s k (.refl 8194) (.refl 8194 s)).grd (by decide)

@[simp] theorem State.segmentOff_grd (s : State) (k : Nat) : (s.segmentOff k).grd = s.grd :=
  part_eq (State.segmentOff_same s k (.refl 12595234) (.refl 12595234 s)).grd (by decide)

@[simp] theorem State.tickUnits_grd (s : State) (src sel : Nat) (fall : Bool) : (s.tickUnits src sel fall).grd = s.grd :=
  part_eq (State.tickUnits_same s src sel fall (.refl 256) (.refl 256 s)).grd (by decide)

@[simp] theorem State.captureEdge_grd (s : State) (src sel : Nat) (fall : Bool) : (s.captureEdge src sel fall).grd = s.grd :=
  part_eq (State.captureEdge_same s src sel fall (.refl 1826) (.refl 1826 s)).grd (by decide)

@[simp] theorem State.wakeReq_grd (s : State) (bits : Nat) : (s.wakeReq bits).grd = s.grd :=
  part_eq (State.wakeReq_same s bits (.refl 2594) (.refl 2594 s)).grd (by decide)

@[simp] theorem State.recordHosts_grd (s : State) (e : EvRecS) : (s.recordHosts e).grd = s.grd :=
  part_eq (State.recordHosts_same s e (.refl 12582946) (.refl 12582946 s)).grd (by decide)

theorem FieldKept.wakeReq (s : State) (bits : Nat) : FieldKept s (s.wakeReq bits) := by
  unfold State.wakeReq
  dsimp only
  split
  · exact refl s
  · split
    · split
      · exact refl s
      · exact wakeDoze s _
    · split
      · exact refl s
      · exact ⟨fun _ _ => rfl, fun _ _ _ => rfl, rfl⟩

theorem FieldKept.queueEv (s : State) (t : Nat) (e : EvRecS) : FieldKept s (s.queueEv t e) := by
  unfold State.queueEv
  dsimp only
  split
  · exact of_regs rfl
  · exact (inc _ (x := RNG_EVLOST) (by decide)).after_regs rfl

theorem FieldKept.routeEv (s : State) (uid home : Nat) (e : EvRecS) : FieldKept s (s.routeEv uid home e) := by
  unfold State.routeEv
  refine ite (watchPush s _) (ite ?_ (ite (sendMsg s _ _ _ _) (of_regs rfl)))
  split
  · exact queueEv s _ e
  · exact refl s

theorem FieldKept.recordHosts (s : State) (e : EvRecS) : FieldKept s (s.recordHosts e) := foldl (fun s p => routeEv s 0 p e) _ _

/-- A field of a guard channel, of a monitor's status below COMPLIANCE, or of RST_STS. -/
abbrev Fld.isGuard (f : Fld) : Prop :=
  (0x2A010 ≤ f.off ∧ f.off < 0x2C000) ∨ (0x30000 ≤ f.off ∧ f.off < 0x31000 ∧ f.off % 32 = 8 ∧ f.hi < 7) ∨ f.off = 0x34818

/-- The guard's channels, the fields above and the monitors' inputs stand as they were. -/
structure GuardKept (s t : State) : Prop where
  g : ∀ f : Fld, f.isGuard → t.g f = s.g f
  vin : t.grd.vin = s.grd.vin
  chans : t.grd.chans = s.grd.chans

namespace GuardKept

theorem refl (s : State) : GuardKept s s := ⟨fun _ _ => rfl, rfl, rfl⟩

theorem trans {s t u : State} (h : GuardKept s t) (h' : GuardKept t u) : GuardKept s u :=
  ⟨fun f hf => (h'.g f hf).trans (h.g f hf), h'.vin.trans h.vin, h'.chans.trans h.chans⟩

theorem foldl {α : Type} {op : State → α → State} {l : List α} (hop : ∀ s, ∀ x ∈ l, GuardKept s (op s x)) (s : State) : GuardKept s (l.foldl op s) :=
  List.foldlRecOn (motive := fun t => GuardKept s t) _ _ (refl s) fun t h x hx => h.trans (hop t x hx)

theorem of_field {s t : State} (h : FieldKept s t) (hgrd : t.grd = s.grd) : GuardKept s t :=
  ⟨fun f hf => h.g (by unfold Fld.isGuard at hf; unfold InField; omega), by rw [hgrd], by rw [hgrd]⟩

theorem of_regs {s t : State} (h : t.regs = s.regs) (hvin : t.grd.vin = s.grd.vin) (hchans : t.grd.chans = s.grd.chans) : GuardKept s t :=
  ⟨fun f _ => State.g_of_regs h f, hvin, hchans⟩

theorem after {s t u : State} (h : GuardKept t u) (hregs : t.regs = s.regs) (hvin : t.grd.vin = s.grd.vin) (hchans : t.grd.chans = s.grd.chans) :
    GuardKept s u := (of_regs hregs hvin hchans).trans h

theorem on {s t : State} (h : GuardKept s t) {f : Fld} (hf : f.isGuard) : t.on f = s.on f := by rw [State.on, State.on, h.g f hf]

theorem gu {s t : State} (h : GuardKept s t) (c : Nat) : t.gu c = s.gu c := by rw [State.gu, State.gu, h.chans]

theorem ite {c : Prop} [Decidable c] {s t u : State} (h : GuardKept s t) (h' : GuardKept s u) : GuardKept s (if c then t else u) := by
  split
  · exact h
  · exact h'

/-- A write of a field that is none of the guard's. -/
theorem f (s : State) {x : Fld} (hfit : x.fits) (h : ∀ f : Fld, f.isGuard → f.apart x) (v : Nat) : GuardKept s (s.f x v) :=
  ⟨fun f hf => State.g_f_apart s hfit v (h f hf), rfl, rfl⟩

theorem wr (s : State) {o : Nat} (h : o < 0x2A010 ∨ (0x2C000 ≤ o ∧ o < 0x30000)) (v : Word) : GuardKept s (s.wr o v) :=
  ⟨fun f hf => by
    rw [State.g, State.g, State.rd_wr_ne]
    unfold Fld.isGuard at hf
    omega, rfl, rfl⟩

/-- Bit k of a register that holds no field of the guard. -/
theorem bit (s : State) {o lo hi : Nat} (hfit : lo ≤ hi ∧ hi < 32) (h : o < 0x2A010 ∨ (0x2C000 ≤ o ∧ o < 0x30000) ∨ (0x31000 ≤ o ∧ o ≠ 0x34818)) (v : Nat) :
    GuardKept s (s.f ⟨o, hi, lo⟩ v) :=
  f s hfit (fun f hf => .inl (by unfold Fld.isGuard at hf; show f.off ≠ o; omega)) v

/-! The buses of a segment. -/

theorem finishId (s : State) (id : JobId) (o : DoneS) : GuardKept s (s.finishId id o) :=
  of_field (.finishId s id o) (part_eq (State.finishId_same s id o (.refl 12582946) (.refl 12582946 s)).grd (by decide))

theorem setBus (s : State) (b : Nat) (x : BusS) : GuardKept s (s.setBus b x) := of_regs rfl rfl rfl

theorem endAdm {b : Nat} (hb : b < 64) (s : State) : GuardKept s (s.endAdm b) :=
  ((setBus s b _).trans (bit _ (by omega) (by omega) _)).trans (bit _ (by omega) (by omega) _)

theorem flushCmds (s : State) (b a : Nat) : GuardKept s (s.flushCmds b a) := by
  have hjob : ∀ (s : State) (j : Option JobId) (o : DoneS), GuardKept s (match j with | some j => s.finishId j o | none => s) := by
    intro s j o
    split
    · exact finishId s _ o
    · exact refl s
  have hall : ∀ (l : List NcmdS) (s : State), GuardKept s (l.foldl (fun s c => match c.job with
      | some j => s.finishId j { status := if c.resent then TIMEOUT else NOT_IN_STATE }
      | none => s) s) := fun l s => foldl (fun s c _ => hjob s c.job _) s
  unfold State.flushCmds
  dsimp only
  split
  · exact ((hjob s _ _).trans (hall _ _)).trans (setBus _ b _)
  · exact (hall _ s).trans (setBus _ b _)

theorem abandonLayout (s : State) (b : Nat) : GuardKept s (s.abandonLayout b) := by
  unfold State.abandonLayout
  split
  · exact ite (setBus s b _) (refl s)
  · exact refl s

theorem zero {l : List Fld} (h : ∀ x ∈ l, x.fits ∧ (x.off < 0x2A010 ∨ (0x31000 ≤ x.off ∧ x.off ≠ 0x34818))) (s : State) : GuardKept s (s.zero l) :=
  foldl (fun s x hx => f s (h x hx).1 (fun f hf => .inl (by unfold Fld.isGuard at hf; have := (h x hx).2; omega)) 0) s

theorem setNode (s : State) (b a : Nat) (n : NodeS) : GuardKept s (s.setNode b a n) := of_regs rfl rfl rfl

theorem entWait (s : State) (id : Nat) : GuardKept s (s.entWait id) := of_regs rfl rfl rfl

theorem removeNode {b a : Nat} (hb : b < 64) (ha : a < 32) (s : State) : GuardKept s (s.removeNode b a) := by
  have hbus : ∀ x, GuardKept s ((if (s.bus b).laid a then (s.flushCmds b a).abandonLayout b else s.flushCmds b a).setBus b x) := fun x =>
    (ite ((flushCmds s b a).trans (abandonLayout _ b)) (flushCmds s b a)).trans (setBus _ b x)
  have hadm : ∀ (t : State) (m : Option AdmS), GuardKept t (match m with | some m => if m.addr = a then t.endAdm b else t | none => t) := by
    intro t m
    split
    · exact ite (endAdm hb t) (refl t)
    · exact refl t
  have hzero : ∀ t : State, GuardKept t (t.zero [CRS_NDELAY b a, CRS_NSLOTLEN b a, CRS_NSLOTST b a, CRS_NIDLO b a, CRS_NIDHI b a, CRS_NNSTAT b a]) :=
    zero fun y hy => by
      simp only [List.mem_cons, List.not_mem_nil, or_false] at hy
      rcases hy with rfl | rfl | rfl | rfl | rfl | rfl <;> exact ⟨by simp [Fld.fits], .inl (by simp; omega)⟩
  have hnode : ∀ t : State, GuardKept t ((((t.setNode b a {}).zero [CRS_NDELAY b a, CRS_NSLOTLEN b a, CRS_NSLOTST b a, CRS_NIDLO b a, CRS_NIDHI b a,
      CRS_NNSTAT b a]).wr (0x4000 + 0x400 * b + 0x20 * a) 0).wr (0x14008 + 0x200 * b + 0x10 * a) 0) := fun t =>
    (((setNode t b a {}).trans (hzero _)).trans (wr _ (by omega) 0)).trans (wr _ (by omega) 0)
  unfold State.removeNode
  dsimp only
  exact ite (((hbus _).trans (hadm _ _)).trans (hnode _)) ((((hbus _).trans (hadm _ _)).trans (hnode _)).trans (entWait _ _))

theorem haltBus {b : Nat} (hb : b < 64) (s : State) : GuardKept s (s.haltBus b) := by
  have hheld : GuardKept s ((s.heldAddrs b).foldl (fun s a => s.removeNode b a) s) :=
    foldl (fun s a ha => removeNode hb (List.mem_range.1 (List.mem_filter.1 ha).1) s) s
  unfold State.haltBus
  refine ((hheld.trans (setBus _ b _)).trans (endAdm hb _)).trans (zero (fun x hx => ?_) _)
  simp only [List.mem_cons, List.not_mem_nil, or_false] at hx
  rcases hx with rfl | rfl | rfl | rfl <;> exact ⟨by simp [Fld.fits], .inl (by simp; omega)⟩

theorem segmentOff {k : Nat} (hk : k < 16) (s : State) : GuardKept s (s.segmentOff k) := by
  refine foldl (fun s b hb => ?_) s
  have hb' : b < 64 := by simp at hb; omega
  exact ite (((bit s (by omega) (by omega) 1).trans (haltBus hb' _)).trans (setBus _ b _)) (bit s (by omega) (by omega) 1)

theorem segmentOn {k : Nat} (hk : k < 16) (s : State) : GuardKept s (s.segmentOn k) := by
  refine foldl (fun s b hb => ?_) s
  have hb' : b < 64 := by simp at hb; omega
  exact ite ((bit s (by omega) (by omega) 0).trans (setBus _ b _)) (bit s (by omega) (by omega) 0)

/-! Loop drives. -/

theorem setLoopAt (s : State) (x : Nat) (r : Nat × Nat) : GuardKept s (s.setLoopAt x r) := of_regs rfl rfl rfl

theorem setComps (s : State) (x : Nat) (l : List (Nat × Option Nat)) : GuardKept s (s.setComps x l) := of_regs rfl rfl rfl

theorem drew (s : State) : GuardKept s s.drew := of_regs rfl rfl rfl

theorem loopJudge (s : State) (x : Nat) : GuardKept s (s.loopJudge x) := by
  have hset : ∀ r v, GuardKept s ((s.setLoopAt x r).f (AFE_LSTS_SETTLED x) v) := fun r v => (setLoopAt s x r).trans (bit _ (by omega) (by omega) v)
  have hsat : ∀ t v, GuardKept t (t.f (AFE_LSTS_SATURATED x) v) := fun t v => bit t (by omega) (by omega) v
  unfold State.loopJudge
  exact ite (refl s) (ite (((hset _ _).trans (hsat _ _)).trans (drew _)) ((hset _ _).trans (hsat _ _)))

theorem compliance (s : State) (x v : Nat) : GuardKept s (s.f (WIN_MSTS_COMPLIANCE x) v) := by
  refine f s (by simp [Fld.fits]) (fun f hf => ?_) v
  unfold Fld.isGuard at hf
  by_cases ho : f.off = 0x30108 + 0x20 * x
  · exact .inr (.inl (by simp; omega))
  · exact .inl ho

theorem compEnd (s : State) (x : Nat) : GuardKept s (s.compEnd x) := by
  have hf : GuardKept s ((s.f (AFE_LSTS_COMPLIANCE x) 0).f (WIN_MSTS_COMPLIANCE (64 + x)) 0) :=
    (bit s (by omega) (by omega) 0).trans (compliance _ (64 + x) 0)
  exact hf.trans (setComps _ x _)

theorem driveFollow (s : State) (x : Nat) : GuardKept s (s.driveFollow x) := by
  unfold State.driveFollow
  refine ite ((bit s (by omega) (by omega) 1).trans (loopJudge _ x)) ?_
  have hcomp : GuardKept s (if s.on (AFE_LSTS_COMPLIANCE x) then s.compEnd x else s) := ite (compEnd s x) (refl s)
  refine (hcomp.trans (setLoopAt _ x (0, 0))).trans (zero (fun y hy => ?_) _)
  simp only [List.mem_cons, List.not_mem_nil, or_false] at hy
  rcases hy with rfl | rfl | rfl <;> exact ⟨by simp [Fld.fits], .inr (by simp; omega)⟩

theorem showGsts (s : State) : GuardKept s s.showGsts :=
  ((bit s (by omega) (by omega) _).trans (bit _ (by omega) (by omega) _)).trans (bit _ (by omega) (by omega) _)

/-! Edges of a monitor. -/

theorem event (s : State) (p ct : Nat) : GuardKept s (s.event p ct) := of_field (.event s p ct) (State.event_grd s p ct)

theorem raiseHub (s : State) (h : Nat) : GuardKept s (s.raiseHub h) := of_field (.raiseHub s h) (State.raiseHub_grd s h)

theorem toothEdge (s : State) (m : Nat) : GuardKept s (s.toothEdge m) := by
  unfold State.toothEdge
  exact ite (of_regs rfl rfl rfl) (refl s)

theorem f64 (s : State) {lo hi : Fld} (hlo : lo.fits) (hhi : hi.fits) (h : ∀ f : Fld, f.isGuard → f.apart lo ∧ f.apart hi) (v : Nat) :
    GuardKept s (s.f64 lo hi v) := (f s hlo (fun f hf => (h f hf).1) _).trans (f _ hhi (fun f hf => (h f hf).2) _)

/-- A field of a timer unit's registers is none of the guard's. -/
theorem apart_of_unit {x f : Fld} (hx : x.off < 0x2A000) (hf : f.isGuard) : f.apart x := .inl (by unfold Fld.isGuard at hf; omega)

theorem setCap {x y : Nat} (hx : x < 16) (hy : y < 2) (s : State) (q : List (Nat × Nat)) (held : Bool) : GuardKept s (s.setCap x y q held) := by
  have hcnt : ∀ (t : State) v, GuardKept t (t.f64 (TIM_TUCAPCNTLO x y) (TIM_TUCAPCNTHI x y) v) := fun t v =>
    f64 t (by simp [Fld.fits]) (by simp [Fld.fits]) (fun f hf => ⟨apart_of_unit (by simp; omega) hf, apart_of_unit (by simp; omega) hf⟩) v
  have hct : ∀ (t : State) v, GuardKept t (t.f64 (TIM_TUCAPCTLO x y) (TIM_TUCAPCTHI x y) v) := fun t v =>
    f64 t (by simp [Fld.fits]) (by simp [Fld.fits]) (fun f hf => ⟨apart_of_unit (by simp; omega) hf, apart_of_unit (by simp; omega) hf⟩) v
  have hdepth : ∀ u v w, GuardKept s (((s.setTu x u).f (TIM_TUCAPCTL_DEPTH x y) v).f ⟨(TIM_TUSTS_CAPNE x).off, 8 + y, 8 + y⟩ w) := fun u v w =>
    ((bit _ (by omega) (by omega) v).trans (bit _ (by omega) (by simp; omega) w)).after (t := s.setTu x u) rfl rfl rfl
  unfold State.setCap
  exact ((hdepth _ _ _).trans (hcnt _ _)).trans (hct _ _)

theorem capPush {x y : Nat} (hx : x < 16) (hy : y < 2) (s : State) (e : Nat × Nat) : GuardKept s (s.capPush x y e) := by
  have hlost : ∀ t : State, GuardKept t (t.inc (TIM_TUCAPCTL_LOST x y)) := fun t => bit t (by omega) (by omega) _
  unfold State.capPush
  exact ite (setCap hx hy s _ _) (ite (hlost s) ((setCap hx hy s _ _).trans (hlost _)))

theorem captureNow {x y : Nat} (hx : x < 16) (hy : y < 2) (s : State) : GuardKept s (s.captureNow x y) := by
  unfold State.captureNow
  exact ite (((capPush hx hy s _).trans (event _ _ _)).trans (raiseHub _ _)) ((capPush hx hy s _).trans (event _ _ _))

theorem captureEdge (s : State) (src sel : Nat) (fall : Bool) : GuardKept s (s.captureEdge src sel fall) := by
  unfold State.captureEdge
  refine ite (foldl (fun s k hk => ?_) s) (refl s)
  exact ite (captureNow (by have := List.mem_range.1 hk; omega) (by omega) s) (refl s)

theorem tickUnits (s : State) (src sel : Nat) (fall : Bool) : GuardKept s (s.tickUnits src sel fall) :=
  of_field (.of_regs (State.tickUnits_regs s src sel fall) (State.tickUnits_sys s src sel fall)) (State.tickUnits_grd s src sel fall)

theorem wakeReq (s : State) (bits : Nat) : GuardKept s (s.wakeReq bits) := of_field (.wakeReq s bits) (State.wakeReq_grd s bits)

theorem lvlEdge (s : State) (m : Nat) (fall : Bool) : GuardKept s (s.lvlEdge m fall) := by
  have hlast : ∀ (t : State) v, GuardKept t (t.f64 (WIN_MLASTCTLO m) (WIN_MLASTCTHI m) v) := fun t v =>
    f64 t (by simp [Fld.fits]) (by simp [Fld.fits]) (fun f hf => by
      unfold Fld.isGuard at hf
      exact ⟨.inl (by simp; omega), .inl (by simp; omega)⟩) v
  have htooth : GuardKept s (if fall then s else s.toothEdge m) := ite (refl s) (toothEdge s m)
  have hedge : ∀ t : State, GuardKept t ((((t.event m t.ct).f64 (WIN_MLASTCTLO m) (WIN_MLASTCTHI m) t.ct).tickUnits 5 m fall).captureEdge 1 m fall) :=
    fun t => (((event t m _).trans (hlast _ _)).trans (tickUnits _ _ _ _)).trans (captureEdge _ _ _ _)
  unfold State.lvlEdge
  dsimp only
  exact ite (ite ((htooth.trans (hedge _)).trans (wakeReq _ 2)) (htooth.trans (hedge _))) htooth

end GuardKept

end Sys2Proof.Machine
end

section
/-! The guard channels (obligation O30). -/
set_option Elab.async false
namespace Sys2Proof.Machine

theorem State.g_of_rd {s t : State} {f : Fld} (h : t.rd f.off = s.rd f.off) : t.g f = s.g f := by rw [State.g, State.g, h]

/-- A field of a register that a discarded write's error status does not hold. -/
theorem State.err_g (s : State) (e off code : Nat) {f : Fld} (hf : Loud f.off) (he : f.off ≠ e) : (s.err e off code).g f = s.g f := by
  rw [State.err, State.raiseHub_g _ _ hf]
  exact State.g_of_rd (State.rd_wr_ne _ _ he)

/-! Output states (R148, R149). -/

/-- A channel's state and the instant it came ON, before its segment or drive follows. -/
def State.entered (s : State) (c st : Nat) : State :=
  if st = guON ∧ s.guState c ≠ guON then (s.f (GRD_CSTS_STATE c) st).setGu c { s.gu c with onAt := s.elapsed } else s.f (GRD_CSTS_STATE c) st

theorem State.setGuState_kept {c : Nat} (_ : c < 32) (s : State) (st : Nat) : GuardKept (s.entered c st) (s.setGuState c st) := by
  have hfollow : ∀ t : State, GuardKept t (if c < 16 then if st = guON ∧ s.guState c ≠ guON then t.segmentOn c
      else if s.guState c = guON ∧ st ≠ guON then t.segmentOff c else t else t.driveFollow (c - 16)) := by
    intro t
    by_cases hseg : c < 16
    · rw [if_pos hseg]
      exact .ite (.segmentOn hseg t) (.ite (.segmentOff hseg t) (.refl t))
    · rw [if_neg hseg]
      exact .driveFollow t _
  exact (hfollow (s.entered c st)).trans (.showGsts _)

theorem State.entered_g (s : State) (c st : Nat) {f : Fld} (h : f.apart (GRD_CSTS_STATE c)) : (s.entered c st).g f = s.g f := by
  have hf := State.g_f_apart s (f := GRD_CSTS_STATE c) (by simp [Fld.fits]) st h
  unfold State.entered
  split
  · exact hf
  · exact hf

theorem State.entered_state (s : State) (c : Nat) {st : Nat} (h : st < 8) : (s.entered c st).guState c = st := by
  have hf := State.g_f_lt s (f := GRD_CSTS_STATE c) (by simp [Fld.fits]) (v := st) (by simpa using h)
  unfold State.entered State.guState
  split
  · exact hf
  · exact hf

theorem Fld.isGuard_of_channel {o hi lo c : Nat} (hc : c < 32) (h : 0x2A100 + 0x80 * c ≤ o ∧ o < 0x2A180 + 0x80 * c) : (Fld.mk o hi lo).isGuard :=
  .inl (by show 0x2A010 ≤ o ∧ o < 0x2C000; omega)

theorem State.setGuState_state {c : Nat} (hc : c < 32) (s : State) {st : Nat} (h : st < 8) : (s.setGuState c st).guState c = st :=
  ((s.setGuState_kept hc st).g _ (Fld.isGuard_of_channel hc (by omega))).trans (s.entered_state c h)

/-- What a channel's change of state leaves of the guard. -/
theorem State.setGuState_g {c : Nat} (hc : c < 32) (s : State) (st : Nat) {f : Fld} (hf : f.isGuard) (h : f.apart (GRD_CSTS_STATE c)) :
    (s.setGuState c st).g f = s.g f := ((s.setGuState_kept hc st).g f hf).trans (s.entered_g c st h)

theorem State.setGuState_gu {c : Nat} (hc : c < 32) (s : State) {st : Nat} (h : st ≠ guON) (k : Nat) : (s.setGuState c st).gu k = s.gu k := by
  rw [(s.setGuState_kept hc st).gu, State.entered, if_neg fun e => h e.1]
  rfl

theorem State.setGuState_onAt {c : Nat} (hc : c < 32) (s : State) (h : s.guState c ≠ guON) :
    (s.setGuState c guON).gu c = { s.gu c with onAt := s.elapsed } := by
  rw [(s.setGuState_kept hc guON).gu, State.entered, if_pos ⟨rfl, h⟩]
  exact State.gu_setGu_self _ _ _

theorem State.entered_vin (s : State) (c st : Nat) : (s.entered c st).grd.vin = s.grd.vin := by
  unfold State.entered
  split <;> rfl

theorem State.setGuState_vin {c : Nat} (hc : c < 32) (s : State) (st : Nat) : (s.setGuState c st).grd.vin = s.grd.vin :=
  (s.setGuState_kept hc st).vin.trans (s.entered_vin c st)

theorem State.showGsts_anyOn (s : State) {c : Nat} (hc : c < 32) (h : s.guState c = guON) : s.showGsts.on GRD_GSTS_ANYON = true := by
  have hany : ((List.range 32).any fun c => s.guActive c) = true :=
    List.any_eq_true.2 ⟨c, List.mem_range.2 hc, by simp [State.guActive, h]⟩
  unfold State.showGsts
  dsimp only
  rw [State.on_f_apart _ (by decide) _ (by decide), State.on_f_apart _ (by decide) _ (by decide), hany]
  exact State.on_f_one s (by decide)

/-- The state before GRD_GSTS follows a channel's. -/
def State.followed (s : State) (c st : Nat) : State :=
  let t := s.entered c st
  if c < 16 then if st = guON ∧ s.guState c ≠ guON then t.segmentOn c else if s.guState c = guON ∧ st ≠ guON then t.segmentOff c else t
  else t.driveFollow (c - 16)

theorem State.setGuState_eq (s : State) (c st : Nat) : s.setGuState c st = (s.followed c st).showGsts := rfl

theorem State.setGuState_anyOn {c : Nat} (hc : c < 32) (s : State) : (s.setGuState c guON).on GRD_GSTS_ANYON = true := by
  have hstate := s.setGuState_state hc (st := guON) (by decide)
  rw [State.setGuState_eq] at hstate ⊢
  exact State.showGsts_anyOn _ hc
    (((GuardKept.showGsts (s.followed c guON)).g (GRD_CSTS_STATE c) (Fld.isGuard_of_channel hc (by omega))).symm.trans hstate)

/-! Trips (R146, R147, R150). -/

/-- A trip that opens leaves the channel's state, shows its cause and has TOFF to wait for. -/
theorem State.takeTrip_effect (s : State) (c : Nat) {cause : Nat} (hcause : cause < 64) : (s.takeTrip c cause).g (GRD_CSTS_CAUSE c) = cause ∧
    (s.takeTrip c cause).g (GRD_CSTS_TOFFDONE c) = 0 ∧
    (∀ f : Fld, f.off ≠ 0x2A014 → f.off ≠ 0x2A134 + 0x80 * c → f.apart (GRD_CSTS_CAUSE c) → f.apart (GRD_CSTS_TOFFDONE c) →
      (s.takeTrip c cause).g f = s.g f) ∧ (s.takeTrip c cause).grd.vin = s.grd.vin := by
  have hregs : (s.takeTrip c cause).regs = ((((s.f GRD_TRIPSTS_LATCH (Nat.lor (s.g GRD_TRIPSTS_LATCH) (s.g (GRD_CCFG_TRIPMAP c)))).f
      (GRD_CSTS_CAUSE c) cause).inc (GRD_CTRIPCNT c)).f (GRD_CSTS_TOFFDONE c) 0).regs := by
    unfold State.takeTrip
    dsimp only
    split <;> rfl
  refine ⟨?_, ?_, fun f h1 h2 h3 h4 => ?_, ?_⟩
  · rw [State.g_of_regs hregs, State.g_f_apart _ (by simp [Fld.fits]) _ (.inr (.inr (by simp))), State.inc, State.incBy,
      State.g_f_apart _ (by simp [Fld.fits]) _ (.inl (by simp))]
    exact State.g_f_lt _ (by simp [Fld.fits]) hcause
  · rw [State.g_of_regs hregs, State.g_f_self _ (by simp [Fld.fits]), Nat.zero_mod]
  · rw [State.g_of_regs hregs, State.g_f_apart _ (by simp [Fld.fits]) _ h4, State.inc, State.incBy, State.g_f_apart _ (by simp [Fld.fits]) _ (.inl h2),
      State.g_f_apart _ (by simp [Fld.fits]) _ h3, State.g_f_apart _ (by simp [Fld.fits]) _ (.inl h1)]
  · unfold State.takeTrip
    dsimp only
    split <;> rfl

/-- What a trip of channel c shows: TRIPPED, its cause, TOFF to wait for, and the comparators as they were. -/
structure Tripped (c cause : Nat) (s t : State) : Prop where
  state : t.guState c = guTRIPPED
  cause : t.g (GRD_CSTS_CAUSE c) = cause
  toff : t.g (GRD_CSTS_TOFFDONE c) = 0
  hicmp : ∀ m < 100, t.on (WIN_MSTS_HICMP m) = s.on (WIN_MSTS_HICMP m)

theorem isGuard_hicmp {m : Nat} (h : m < 100) : (WIN_MSTS_HICMP m).isGuard := .inr (by simp; omega)

theorem State.tripNow_trips {c : Nat} (hc : c < 32) {s : State} (hretry : s.mayRetry c = false) {cause : Nat} (hcause : cause < 64) :
    Tripped c cause s (s.tripNow c cause) := by
  have htrip : s.tripNow c cause = (s.setGuState c guTRIPPED).takeTrip c cause := by
    simp only [State.tripNow, hretry, Bool.false_and]
    rfl
  obtain ⟨hc1, hc2, hkept, -⟩ := (s.setGuState c guTRIPPED).takeTrip_effect c hcause
  rw [htrip]
  refine ⟨?_, hc1, hc2, fun m hm => ?_⟩
  · exact (hkept _ (by simp; omega) (by simp) (.inr (.inl (by simp))) (.inr (.inl (by simp)))).trans (s.setGuState_state hc (by decide))
  · rw [State.on, hkept _ (by simp; omega) (by simp; omega) (.inl (by simp; omega)) (.inl (by simp; omega)),
      s.setGuState_g hc _ (isGuard_hicmp hm) (.inl (by simp; omega))]
    rfl

/-- A cause trips an ON channel with no re-closure left. -/
theorem State.guardTrip_trips {c : Nat} (hc : c < 32) {s : State} (hon : s.guState c = guON) (hretry : s.mayRetry c = false) {cause : Nat}
    (hcause : cause < 64) : Tripped c cause s (s.guardTrip c cause) := by
  unfold State.guardTrip
  dsimp only
  rw [if_pos hon]
  split
  · have hkept : ∀ f : Fld, f.isGuard → (s.discard rGRD_CCTL c 0 ENERGY_REFUSED).g f = s.g f := fun f hf =>
      State.err_g s _ _ _ (by unfold Fld.isGuard at hf; unfold Loud; omega) (by unfold Fld.isGuard at hf; simp [rGRD_CCTL]; omega)
    have hretry' : (s.discard rGRD_CCTL c 0 ENERGY_REFUSED).mayRetry c = false := by
      rw [State.mayRetry, hkept _ (Fld.isGuard_of_channel hc (by omega)), hkept _ (Fld.isGuard_of_channel hc (by omega))]
      exact hretry
    have htrip := State.tripNow_trips hc hretry' hcause
    exact ⟨htrip.state, htrip.cause, htrip.toff, fun m hm => (htrip.hicmp m hm).trans (by rw [State.on, State.on, hkept _ (isGuard_hicmp hm)])⟩
  · exact State.tripNow_trips hc hretry hcause

/-! The inputs of the monitors are not what a trip changes. -/

theorem State.tripNow_vin {c : Nat} (hc : c < 32) (s : State) (cause : Nat) : (s.tripNow c cause).grd.vin = s.grd.vin := by
  have htake : ∀ (t : State) st, ((t.setGuState c st).takeTrip c cause).grd.vin = t.grd.vin := by
    intro t st
    refine Eq.trans ?_ (t.setGuState_vin hc st)
    unfold State.takeTrip
    dsimp only
    split <;> rfl
  unfold State.tripNow
  dsimp only
  rw [htake]
  split <;> rfl

theorem State.discard_grd (s : State) (r : Reg) (i j code : Nat) : (s.discard r i j code).grd = s.grd := State.err_grd s _ _ _

theorem State.guardTrip_vin {c : Nat} (hc : c < 32) (s : State) (cause : Nat) : (s.guardTrip c cause).grd.vin = s.grd.vin := by
  unfold State.guardTrip
  dsimp only
  split
  · rw [State.tripNow_vin hc]
    split
    · rw [State.discard_grd]
    · rfl
  · split
    · rfl
    · split
      · exact s.tripNow_vin hc cause
      · rfl

theorem monGuard_lt {m c : Nat} {volt : Bool} (h : monGuard m = some (c, volt)) : c < 32 := by
  unfold monGuard at h
  split_ifs at h <;> simp at h <;> omega

theorem State.windowTrips_vin (s : State) (m : Nat) (hiUp loUp : Bool) : (s.windowTrips m hiUp loUp).grd.vin = s.grd.vin := by
  unfold State.windowTrips
  split
  · rfl
  next c volt hm =>
    exact iteInduction (motive := fun t : State => t.grd.vin = s.grd.vin) (fun _ => s.guardTrip_vin (monGuard_lt hm) _) fun _ => rfl

/-! Comparators (R178-R182). -/

/-- A monitor whose comparators have taken new states, before they trip a channel. -/
def State.compSet (s : State) (m : Nat) (hi lo : Bool) : State :=
  let h0 := s.on (WIN_MSTS_HICMP m)
  let l0 := s.on (WIN_MSTS_LOCMP m)
  let s := if hi && !h0 then s.f (WIN_MSTS_HIUP m) 1 else s
  let s := if h0 && !hi then s.f (WIN_MSTS_HIDN m) 1 else s
  let s := if lo && !l0 then s.f (WIN_MSTS_LODN m) 1 else s
  let s := if l0 && !lo then s.f (WIN_MSTS_LOUP m) 1 else s
  let s := (s.f (WIN_MSTS_HICMP m) (b2n hi)).f (WIN_MSTS_LOCMP m) (b2n lo)
  let was := s.on (WIN_MSTS_LVL m)
  let lvl := lvlOf (s.g (WIN_MCFG_OUTSEL m)) hi lo
  let s := s.f (WIN_MSTS_LVL m) (b2n lvl)
  if lvl != was then s.lvlEdge m was else s

theorem State.setComp_eq (s : State) (m : Nat) (hi lo : Bool) : s.setComp m hi lo =
    (s.compSet m hi lo).windowTrips m (hi && !s.on (WIN_MSTS_HICMP m)) (lo && !s.on (WIN_MSTS_LOCMP m)) := rfl

/-- What stands while a monitor's status is written: the guard's channels, the inputs and every other register. -/
structure CompKept (m : Nat) (s t : State) : Prop where
  rd : ∀ o, o ≠ 0x30108 + 0x20 * m → t.rd o = s.rd o
  grd : t.grd = s.grd

theorem CompKept.refl (m : Nat) (s : State) : CompKept m s s := ⟨fun _ _ => rfl, rfl⟩

theorem CompKept.trans {m : Nat} {s t u : State} (h : CompKept m s t) (h' : CompKept m t u) : CompKept m s u :=
  ⟨fun o ho => (h'.rd o ho).trans (h.rd o ho), h'.grd.trans h.grd⟩

theorem CompKept.f {m : Nat} (s : State) {hi lo : Nat} (v : Nat) : CompKept m s (s.f ⟨0x30108 + 0x20 * m, hi, lo⟩ v) :=
  ⟨fun _ ho => State.rd_f_ne s v ho, rfl⟩

theorem CompKept.ite {m : Nat} {p : Prop} [Decidable p] {s t u : State} (h : CompKept m s t) (h' : CompKept m s u) : CompKept m s (if p then t else u) := by
  split
  · exact h
  · exact h'

/-- The comparators shown, before the monitor's level follows. -/
def State.compShown (s : State) (m : Nat) (hi lo : Bool) : State :=
  let h0 := s.on (WIN_MSTS_HICMP m)
  let l0 := s.on (WIN_MSTS_LOCMP m)
  let s := if hi && !h0 then s.f (WIN_MSTS_HIUP m) 1 else s
  let s := if h0 && !hi then s.f (WIN_MSTS_HIDN m) 1 else s
  let s := if lo && !l0 then s.f (WIN_MSTS_LODN m) 1 else s
  let s := if l0 && !lo then s.f (WIN_MSTS_LOUP m) 1 else s
  (s.f (WIN_MSTS_HICMP m) (b2n hi)).f (WIN_MSTS_LOCMP m) (b2n lo)

theorem State.compShown_kept (s : State) (m : Nat) (hi lo : Bool) : CompKept m s (s.compShown m hi lo) := by
  have hup : ∀ (p : Prop) [Decidable p] (t : State) (x : Nat), CompKept m t (if p then t.f ⟨0x30108 + 0x20 * m, x, x⟩ 1 else t) :=
    fun p _ t x => .ite (.f t 1) (.refl m t)
  exact (((((hup _ s 0).trans (hup _ _ 1)).trans (hup _ _ 2)).trans (hup _ _ 3)).trans (.f _ _)).trans (.f _ _)

theorem State.compShown_hicmp (s : State) (m : Nat) (hi lo : Bool) : (s.compShown m hi lo).on (WIN_MSTS_HICMP m) = hi :=
  (State.on_f_apart _ (by simp [Fld.fits]) _ (.inr (.inl (by simp)))).trans (State.on_f_self _ (by simp [Fld.fits]) hi)

theorem State.compSet_eq (s : State) (m : Nat) (hi lo : Bool) : s.compSet m hi lo =
    (let t := s.compShown m hi lo
     let was := t.on (WIN_MSTS_LVL m)
     let lvl := lvlOf (t.g (WIN_MCFG_OUTSEL m)) hi lo
     if lvl != was then (t.f (WIN_MSTS_LVL m) (b2n lvl)).lvlEdge m was else t.f (WIN_MSTS_LVL m) (b2n lvl)) := rfl

/-- New states of a monitor's comparators leave the guard's channels and the inputs, and the upper one reads back. -/
theorem State.compSet_kept {m : Nat} (hm : m < 100) (s : State) (hi lo : Bool) : (s.compSet m hi lo).on (WIN_MSTS_HICMP m) = hi ∧
    (∀ f : Fld, f.isGuard → f.off ≠ 0x30108 + 0x20 * m → (s.compSet m hi lo).g f = s.g f) ∧ (s.compSet m hi lo).grd.vin = s.grd.vin ∧
    (s.compSet m hi lo).grd.chans = s.grd.chans := by
  have hshown := s.compShown_kept m hi lo
  have hlevel : ∀ v, GuardKept ((s.compShown m hi lo).f (WIN_MSTS_LVL m) v) (if (lvlOf ((s.compShown m hi lo).g (WIN_MCFG_OUTSEL m)) hi lo !=
      (s.compShown m hi lo).on (WIN_MSTS_LVL m)) then ((s.compShown m hi lo).f (WIN_MSTS_LVL m) v).lvlEdge m ((s.compShown m hi lo).on (WIN_MSTS_LVL m))
      else (s.compShown m hi lo).f (WIN_MSTS_LVL m) v) := fun v => .ite (.lvlEdge _ m _) (.refl _)
  rw [State.compSet_eq]
  refine ⟨?_, fun f hf ho => ?_, ?_, ?_⟩
  · refine ((hlevel _).on (isGuard_hicmp hm)).trans ?_
    rw [State.on_f_apart _ (by simp [Fld.fits]) _ (.inr (.inl (by simp))), State.compShown_hicmp]
  · refine ((hlevel _).g f hf).trans ?_
    rw [State.g_f_apart _ (by simp [Fld.fits]) _ (.inl ho)]
    exact State.g_of_rd (hshown.rd _ ho)
  · refine (hlevel _).vin.trans ?_
    rw [State.f_grd, hshown.grd]
  · refine (hlevel _).chans.trans ?_
    rw [State.f_grd, hshown.grd]

theorem State.setComp_vin {m : Nat} (hm : m < 100) (s : State) (hi lo : Bool) : (s.setComp m hi lo).grd.vin = s.grd.vin := by
  rw [State.setComp_eq, State.windowTrips_vin]
  exact (s.compSet_kept hm hi lo).2.2.1

theorem State.compare_vin {m : Nat} (hm : m < 100) (s : State) : (s.compare m).grd.vin = s.grd.vin := by
  unfold State.compare
  exact iteInduction (motive := fun t : State => t.grd.vin = s.grd.vin) (fun _ => rfl) fun _ =>
    iteInduction (motive := fun t : State => t.grd.vin = s.grd.vin) (fun _ => rfl) fun _ => s.setComp_vin hm _ _

/-- A monitor whose input goes to v, a driven loop judged anew, before it compares. -/
def State.vinSet (s : State) (m : Nat) (v : Int) : State :=
  let s : State := { s with grd := { s.grd with vin := s.grd.vin.set (fun _ => 0) m v } }
  if 64 ≤ m ∧ m < 80 ∧ s.drives (m - 64) = true then s.loopJudge (m - 64) else s

theorem State.setVin_eq (s : State) (m : Nat) (v : Int) : s.setVin m v = (s.vinSet m v).compare m := rfl

/-- A loop judged anew changes the registers of the loops alone. -/
theorem State.loopJudge_rd (s : State) {x o : Nat} (h : o < 0x32000) : (s.loopJudge x).rd o = s.rd o := by
  have hset : ∀ r v, ((s.setLoopAt x r).f (AFE_LSTS_SETTLED x) v).rd o = s.rd o := fun r v => State.rd_f_ne _ _ (by simp; omega)
  have hsat : ∀ (t : State) v, (t.f (AFE_LSTS_SATURATED x) v).rd o = t.rd o := fun t v => State.rd_f_ne _ _ (by simp; omega)
  have hdrew : ∀ t : State, t.drew.rd o = t.rd o := fun _ => rfl
  unfold State.loopJudge
  dsimp only
  exact iteInduction (motive := fun t : State => t.rd o = s.rd o) (fun _ => rfl) fun _ =>
    iteInduction (motive := fun t : State => t.rd o = s.rd o) (fun _ => (hdrew _).trans ((hsat _ _).trans (hset _ _)))
      fun _ => (hsat _ _).trans (hset _ _)

theorem State.vinSet_rd (s : State) {m : Nat} (v : Int) {o : Nat} (h : o < 0x32000) : (s.vinSet m v).rd o = s.rd o :=
  iteInduction (motive := fun t : State => t.rd o = s.rd o) (fun _ => State.loopJudge_rd _ h) fun _ => rfl

theorem State.vinSet_kept (s : State) (m : Nat) (v : Int) :
    GuardKept { s with grd := { s.grd with vin := s.grd.vin.set (fun _ => 0) m v } } (s.vinSet m v) :=
  .ite (.loopJudge _ _) (.refl _)

theorem State.vinSet_vin (s : State) (m : Nat) (v : Int) : (s.vinSet m v).grd.vin.get (fun _ => 0) m = v := by
  rw [(s.vinSet_kept m v).vin]
  exact Tbl.get_set_self _ _ _ _

theorem State.loopJudge_sys (s : State) (x : Nat) : (s.loopJudge x).sys = s.sys := by
  unfold State.loopJudge
  exact iteInduction (motive := fun t : State => t.sys = s.sys) (fun _ => rfl) fun _ =>
    iteInduction (motive := fun t : State => t.sys = s.sys) (fun _ => rfl) fun _ => rfl

theorem State.vinSet_sys (s : State) (m : Nat) (v : Int) : (s.vinSet m v).sys = s.sys := by
  unfold State.vinSet
  dsimp only
  split
  · rw [State.loopJudge_sys]
  · rfl

theorem State.setVin_vin (s : State) {m : Nat} (hm : m < 100) (v : Int) : (s.setVin m v).grd.vin.get (fun _ => 0) m = v := by
  rw [State.setVin_eq, State.compare_vin hm, State.vinSet_vin]

theorem guardMon_lt {c : Nat} (hc : c < 32) (volt : Bool) : guardMon c volt < 100 := by
  unfold guardMon
  split_ifs <;> omega

/-- The current monitor of a guard channel is its own. -/
theorem monGuard_guardMon {c : Nat} (hc : c < 32) : monGuard (guardMon c false) = some (c, false) := by
  unfold guardMon monGuard
  by_cases h : c < 16
  · simp only [h, if_true, Bool.false_eq_true, if_false, Nat.add_zero]
    rw [if_neg (by omega), if_pos (by omega)]
    simp
  · simp only [h, if_false, Bool.false_eq_true, Nat.add_zero]
    rw [if_neg (by omega), if_neg (by omega), if_neg (by omega), if_pos (by omega)]
    simp

theorem thrOf_nonneg {c : Nat} (hc : c < 32) (k : Nat) : 0 ≤ thrOf (guardMon c false) k := by
  unfold guardMon thrOf
  split_ifs <;> omega

/-! The integrator (R143, R144, R147). -/

/-- A channel's measurements shown, before its integrator steps. -/
def State.measured (s : State) (c : Nat) : State := (s.f (GRD_CMEAS c) (s.convCode c true)).f (GRD_CMEAS_I c) (s.convCode c false)

theorem State.measured_g (s : State) (c : Nat) {f : Fld} (h : f.off ≠ 0x2A12C + 0x80 * c) : (s.measured c).g f = s.g f := by
  rw [State.measured, State.g_f_apart _ (by simp [Fld.fits]) _ (.inl h), State.g_f_apart _ (by simp [Fld.fits]) _ (.inl h)]

theorem State.measured_codes (s : State) (c : Nat) : (s.measured c).g (GRD_CMEAS_I c) = s.convCode c false ∧
    (s.measured c).g (GRD_CMEAS c) = s.convCode c true := by
  have hlt : ∀ volt, s.convCode c volt < 4096 := fun volt => by unfold State.convCode; omega
  constructor
  · exact State.g_f_lt _ (by simp [Fld.fits]) (by simpa using hlt false)
  · rw [State.measured, State.g_f_apart _ (by simp [Fld.fits]) _ (.inr (.inr (by simp)))]
    exact State.g_f_lt _ (by simp [Fld.fits]) (by simpa using hlt true)

/-- The integrator of a channel that is not armed stands empty (R144). -/
theorem State.guardEdge_unarmed {s : State} {c : Nat} (h : s.on (GRD_CCFG_ARM c) = false) : s.guardEdge c = (s.measured c).setGu c
    { s.gu c with code1 := (s.convCode c false, s.convCode c true), code2 := (s.gu c).code1, hist := [], fill := 0, cyc := 0, excess := false } := by
  have harm : (s.measured c).on (GRD_CCFG_ARM c) = false := by rw [State.on, s.measured_g c (by simp)]; exact h
  exact if_pos (by rw [← State.measured, harm]; rfl)

/-- The state of an armed channel whose energy has just passed ELIM, before it trips. -/
def State.overrun (s : State) (c : Nat) : State :=
  let u := s.gu c
  let t := s.measured c
  let fill := u.fill + t.guInc c u.code2
  let full := decide (t.bucketLen c ≤ u.cyc + 1)
  (t.setGu c { u with
    code1 := (s.convCode c false, s.convCode c true), code2 := u.code1
    hist := if full then (fill :: u.hist).take 16 else u.hist
    fill := if full then 0 else fill
    cyc := if full then 0 else u.cyc + 1
    excess := decide (1000 * t.g (GRD_CELIM_ELIM c) < fill + u.hist.sum) && (t.guState c == guON) }).f (GRD_CENERGY_E c)
      (min ((fill + u.hist.sum) / 1000) 0xFFFFFF)

theorem State.overrun_g (s : State) (c : Nat) {f : Fld} (h : f.off ≠ 0x2A12C + 0x80 * c) (he : f.off ≠ 0x2A130 + 0x80 * c) : (s.overrun c).g f = s.g f :=
  (State.g_f_apart _ (by simp [Fld.fits]) _ (.inl he)).trans (s.measured_g c h)

theorem State.measured_guInc (s : State) (c : Nat) (code : Nat × Nat) : (s.measured c).guInc c code = s.guInc c code := by
  rw [State.guInc, State.guInc, s.measured_g c (by simp), s.measured_g c (by simp)]

theorem State.guardEdge_overruns {s : State} {c : Nat} (harm : s.on (GRD_CCFG_ARM c) = true) (hon : s.guState c = guON)
    (hfresh : (s.gu c).excess = false) (hover : 1000 * s.g (GRD_CELIM_ELIM c) < (s.gu c).fill + s.guInc c (s.gu c).code2 + (s.gu c).hist.sum) :
    s.guardEdge c = (s.overrun c).guardTrip c cuENERGY := by
  have harm' : (s.measured c).on (GRD_CCFG_ARM c) = true := by rw [State.on, s.measured_g c (by simp)]; exact harm
  have hon' : (s.measured c).guState c = guON := (s.measured_g c (by simp)).trans hon
  refine (if_neg ?_).trans (if_pos ?_)
  · rw [← State.measured, harm']
    exact Bool.false_ne_true
  · rw [← State.measured, s.measured_guInc, s.measured_g c (by simp), hfresh, hon', decide_eq_true hover]
    rfl

theorem State.closeTrip_csts {c : Nat} (hc : c < 32) (s : State) {f : Fld} (hf : f.off = 0x2A128 + 0x80 * c) : (s.closeTrip c).g f = s.g f := by
  unfold State.closeTrip
  split
  · rfl
  next e _ =>
    have hin : InField f.off := by rw [hf]; unfold InField; omega
    refine ((((FieldKept.event _ _ _).trans (.raiseHub _ _)).trans (.recordHosts _ _)).g hin).trans ?_
    rw [State.f64, State.g_f_apart _ (by simp [Fld.fits]) _ (.inl (by rw [hf]; simp)), State.g_f_apart _ (by simp [Fld.fits]) _ (.inl (by rw [hf]; simp))]
    rfl

theorem State.guardCycle_csts {c : Nat} (hc : c < 32) (s : State) {f : Fld} (hf : f.off = 0x2A128 + 0x80 * c) :
    (s.guardCycle c).g f = (s.guardEdge c).g f := by
  unfold State.guardCycle
  split
  · exact State.closeTrip_csts hc _ hf
  · rfl

/-! Writes of the guard's registers. -/

theorem nbit_land_xor (n m k : Nat) (hk : k < 8) : nbit (Nat.land n (Nat.xor m 0xFF)) k = (nbit n k && !nbit m k) := by
  have hff : Nat.testBit 255 k = true := by interval_cases k <;> rfl
  have hland : Nat.testBit (Nat.land n (Nat.xor m 0xFF)) k = (n.testBit k && (m ^^^ 0xFF).testBit k) := Nat.testBit_and n (m ^^^ 0xFF) k
  rw [nbit_eq_testBit, nbit_eq_testBit, nbit_eq_testBit, hland, Nat.testBit_xor, hff, Bool.xor_true]

theorem State.lockChannels_kept (s : State) : s.lockChannels = { s with regs := s.lockChannels.regs } ∧
    ∀ o, o < 0x25000 ∨ 0x28000 ≤ o → s.lockChannels.rd o = s.rd o := by
  unfold State.lockChannels
  refine List.foldlRecOn (motive := fun t : State => t = { s with regs := t.regs } ∧ ∀ o, o < 0x25000 ∨ 0x28000 ≤ o → t.rd o = s.rd o) _ _
    ⟨rfl, fun _ _ => rfl⟩ fun t ⟨heq, hrd⟩ c hc => ?_
  have hc' := List.mem_range.1 hc
  split
  · exact ⟨regsOnly_f heq _ _, fun o ho => (State.rd_f_ne t 1 (by simp; omega)).trans (hrd o ho)⟩
  · exact ⟨heq, hrd⟩

theorem State.showGsts_eq {a s : State} (h : s = { a with regs := s.regs }) : s.showGsts = { a with regs := s.showGsts.regs } :=
  regsOnly_f (regsOnly_f (regsOnly_f h _ _) _ _) _ _

theorem State.showGsts_rd (s : State) {o : Nat} (h : o ≠ 0x2A008) : s.showGsts.rd o = s.rd o :=
  (State.rd_f_ne _ _ h).trans ((State.rd_f_ne _ _ h).trans (State.rd_f_ne _ _ h))

theorem State.showGsts_locked (s : State) : s.showGsts.on GRD_GSTS_LOCKED = s.on GRD_LOCK_LOCK := by
  have hlock : ∀ t : State, (t.f GRD_GSTS_LOCKED (t.g GRD_LOCK_LOCK)).on GRD_GSTS_LOCKED = t.on GRD_LOCK_LOCK := by
    intro t
    have hbit : t.g GRD_LOCK_LOCK < 2 := Nat.mod_lt _ (by decide)
    rw [State.on, State.on, State.g_f_lt t (by decide) hbit]
  refine (hlock _).trans ?_
  rw [State.on_f_apart _ (by decide) _ (by decide), State.on_f_apart _ (by decide) _ (by decide)]

theorem nbit_wbits (v : Word) {k : Nat} (hk : k < 8) : nbit (wbits v 7 0) k = wbit v k := by
  rw [wbits, wbit, nbits, nbit_eq_testBit, nbit_eq_testBit, Nat.pow_zero, Nat.div_one, Nat.testBit_mod_two_pow]
  simp [hk]

theorem State.guCtlWrite_on {s : State} {c : Nat} (hlock : s.on GRD_LOCK_LOCK = true) (harm : s.on (GRD_CCFG_ARM c) = true) (hoff : s.guState c = guOFF)
    (htrip : (s.gu c).tripAon ≠ some s.time.aon) (hturn : s.noTurnOn = false) (hxin : s.on CLK_STS_XINOK = true)
    (hself : s.on (GRD_CSTS_SELFCHK c) = false) (hreq : (s.gu c).offReq ≠ some s.time.aon) :
    s.guCtlWrite c 1#32 = (s.setGu c { s.gu c with onAon := some s.time.aon }).setGuState c guON := by
  simp only [State.guCtlWrite, show wbit 1#32 0 = true by decide, show wbit 1#32 1 = false by decide, show wbit 1#32 2 = false by decide,
    Bool.false_and, Bool.or_self, Bool.false_eq_true, if_false, if_true]
  exact (if_neg (by simp [hlock, harm, hoff, htrip, hturn, hxin, hself])).trans (if_neg hreq)

theorem State.guCtlWrite_off {s : State} {c : Nat} (hon : s.guState c = guON) (hretry : (s.gu c).retryAon ≠ some s.time.aon) :
    s.guCtlWrite c 2#32 = ((s.setGu c { s.gu c with offReq := some s.time.aon }).setGu c
      { (s.setGu c { s.gu c with offReq := some s.time.aon }).gu c with offAon := some s.time.aon }).setGuState c guOFF := by
  simp only [State.guCtlWrite, show wbit 2#32 0 = false by decide, show wbit 2#32 1 = true by decide, show wbit 2#32 2 = false by decide,
    Bool.false_and, Bool.and_false, Bool.or_self, Bool.false_eq_true, if_false, if_true]
  exact (if_neg (by simp [State.reclosing, hon, hretry])).trans (if_pos hon)

theorem State.guCtlWrite_rearm {s : State} {c : Nat} (hstate : s.guState c = guTRIPPED) (htoff : s.g (GRD_CSTS_TOFFDONE c) ≠ 0)
    (htrip : (s.gu c).tripAon ≠ some s.time.aon) : s.guCtlWrite c 4#32 = (s.f (GRD_CSTS_RETRIES c) 0).setGuState c guOFF := by
  simp only [State.guCtlWrite, show wbit 4#32 0 = false by decide, show wbit 4#32 1 = false by decide, show wbit 4#32 2 = true by decide,
    Bool.and_false, Bool.or_self, Bool.false_eq_true, if_false, if_true]
  exact if_neg (by simp [hstate, htoff, htrip])

/-! A window's trip (R142, R146, R179). -/

theorem State.monIn_current (s : State) {c : Nat} (hc : c < 32) :
    s.monIn (guardMon c false) = max 0 (s.grd.vin.get (fun _ => 0) (guardMon c false)) := by
  simp only [State.monIn, monGuard_guardMon hc]
  exact if_neg Bool.false_ne_true

/-- An input above HI and not below LO asserts the upper comparator alone. -/
theorem State.compare_rises {s : State} {m : Nat} (hcheck : s.checking m = false) (hps : s.sys.pstate ≠ .off) (hhi : s.on (WIN_MSTS_HICMP m) = false)
    (hlo : s.on (WIN_MSTS_LOCMP m) = false) (hth : thrOf m (s.g (WIN_MTHR_HI m)) < s.monIn m) (htl : thrOf m (s.g (WIN_MTHR_LO m)) ≤ s.monIn m) :
    s.compare m = s.setComp m true false := by
  unfold State.compare
  rw [if_neg (by simp [hcheck, hps])]
  simp only [hhi, hlo, Bool.false_eq_true, if_false, decide_eq_true hth, decide_eq_false (not_lt.2 htl)]
  exact if_neg (by simp)

/-- A current over IHI trips the armed channel of its window. -/
theorem State.windowTrips_current {c : Nat} (hc : c < 32) {s : State} (harm : s.on (GRD_CCFG_ARM c) = true) :
    s.windowTrips (guardMon c false) (true && !false) (false && !s.on (WIN_MSTS_LOCMP (guardMon c false))) = s.guardTrip c cuIHI := by
  simp only [State.windowTrips, monGuard_guardMon hc]
  exact if_pos ⟨by simp, harm⟩

/-- Settles O30. -/
theorem guardChannelsComplete : Obligations.GuardChannelsComplete := by
  refine ⟨fun s c volt v hc => ?input, fun s c v hc hps hon harm hretry hcheck hhi hlo hth htl => ?window, fun s c hc harm hnone => ?unarmed,
    fun s c hc harm hon hfresh hretry hover => ?energy, fun s c hc h hlock harm hoff htrip hturn hxin hself hreq => ?on,
    fun s c hc h hon hretry => ?off, fun s c hc h htripped htoff htrip => ?rearm, fun s c hc htoff hdue => ?toff, fun s c hc hon hdue => ?retries,
    fun s v h hpin => ?clear, fun s h => ?lock⟩
  case input => exact ⟨_, rfl, s.setVin_vin (guardMon_lt hc volt) v⟩
  case window =>
    have hrd : ∀ f : Fld, f.off < 0x32000 → (s.vinSet (guardMon c false) v).g f = s.g f := fun f hf => State.g_of_rd (s.vinSet_rd v hf)
    have hin : (s.vinSet (guardMon c false) v).monIn (guardMon c false) = v := by
      rw [State.monIn_current _ hc, s.vinSet_vin]
      have := thrOf_nonneg hc (s.g (WIN_MTHR_HI (guardMon c false)))
      omega
    have hm := guardMon_lt hc false
    have hcompare : s.setVin (guardMon c false) v = (s.vinSet (guardMon c false) v).setComp (guardMon c false) true false := by
      rw [State.setVin_eq]
      refine State.compare_rises ?_ ?_ ?_ ?_ ?_ ?_
      · rw [State.checking, State.on, hrd _ (by decide), hrd _ (by decide)]; exact hcheck
      · rw [s.vinSet_sys]; exact hps
      · rw [State.on, hrd _ (by simp; omega)]; exact hhi
      · rw [State.on, hrd _ (by simp; omega)]; exact hlo
      · rw [hin, hrd _ (by simp; omega)]; exact hth
      · rw [hin, hrd _ (by simp; omega)]; exact htl
    have hhi' : (s.vinSet (guardMon c false) v).on (WIN_MSTS_HICMP (guardMon c false)) = false := by
      rw [State.on, hrd _ (by simp; omega)]; exact hhi
    obtain ⟨hup, hkept, -, -⟩ := (s.vinSet (guardMon c false) v).compSet_kept hm true false
    have hsame : ∀ o hi lo, 0x2A100 + 0x80 * c ≤ o ∧ o < 0x2A180 + 0x80 * c →
        ((s.vinSet (guardMon c false) v).compSet (guardMon c false) true false).g ⟨o, hi, lo⟩ = s.g ⟨o, hi, lo⟩ := fun o hi lo ho =>
      (hkept _ (Fld.isGuard_of_channel hc ho) (by show o ≠ _; omega)).trans (hrd _ (by show o < _; omega))
    have htrips : s.setVin (guardMon c false) v = ((s.vinSet (guardMon c false) v).compSet (guardMon c false) true false).guardTrip c cuIHI := by
      rw [hcompare, State.setComp_eq, hhi']
      refine State.windowTrips_current hc ?_
      rw [State.on, hsame _ _ _ (by omega)]
      exact harm
    have htrip := State.guardTrip_trips hc ((hsame _ _ _ (by omega)).trans hon) (s := (s.vinSet (guardMon c false) v).compSet (guardMon c false) true false)
      (by rw [State.mayRetry, hsame _ _ _ (by omega), hsame _ _ _ (by omega)]; exact hretry) (cause := cuIHI) (by decide)
    rw [← htrips] at htrip
    exact ⟨_, rfl, htrip.state, htrip.cause, htrip.toff, (htrip.hicmp _ hm).trans hup⟩
  case unarmed =>
    have hexec : exec (.integratorTrip c) s = .next (s.guardCycle c) := rfl
    have hcycle : s.guardCycle c = s.guardEdge c := if_neg (by rw [hnone]; exact Bool.false_ne_true)
    obtain ⟨hi, hv⟩ := s.measured_codes c
    have hself := State.gu_setGu_self (s.measured c) c { s.gu c with
      code1 := (s.convCode c false, s.convCode c true), code2 := (s.gu c).code1, hist := [], fill := 0, cyc := 0, excess := false }
    refine completes hexec (hcycle.trans (State.guardEdge_unarmed harm)) ⟨hi, hv, ?_, ?_, ?_, s.measured_g c (by simp)⟩
    · rw [hself]
      exact Prod.ext hi.symm hv.symm
    · rw [hself]
    · rw [hself]
  case energy =>
    have hretry' : (s.overrun c).mayRetry c = false := by
      rw [State.mayRetry, s.overrun_g c (by simp) (by simp), s.overrun_g c (by simp) (by simp)]
      exact hretry
    have htrip := State.guardTrip_trips hc ((s.overrun_g c (by simp) (by simp)).trans hon) hretry' (cause := cuENERGY) (by decide)
    rw [← State.guardEdge_overruns harm hon hfresh hover] at htrip
    exact ⟨_, rfl, (s.guardCycle_csts hc rfl).trans htrip.state, (s.guardCycle_csts hc rfl).trans htrip.cause⟩
  case on =>
    refine completes rfl ((State.barWrite_accepted h (by decide) _ _ _).trans (State.guCtlWrite_on hlock harm hoff htrip hturn hxin hself hreq))
      ⟨State.setGuState_state hc _ (by decide), ?_, State.setGuState_anyOn hc _⟩
    have hstate : (s.awake.setGu c { s.awake.gu c with onAon := some s.awake.time.aon }).guState c ≠ guON := by
      rw [show (s.awake.setGu c { s.awake.gu c with onAon := some s.awake.time.aon }).guState c = guOFF from hoff]
      decide
    rw [State.setGuState_onAt hc _ hstate]
    rfl
  case off =>
    refine completes rfl ((State.barWrite_accepted h (by decide) _ _ _).trans (State.guCtlWrite_off hon hretry))
      ⟨State.setGuState_state hc _ (by decide), ?_⟩
    rw [State.setGuState_gu hc _ (by decide), State.gu_setGu_self]
  case rearm =>
    refine completes rfl ((State.barWrite_accepted h (by decide) _ _ _).trans (State.guCtlWrite_rearm htripped htoff htrip))
      ⟨State.setGuState_state hc _ (by decide), ?_⟩
    rw [State.setGuState_g hc _ _ (Fld.isGuard_of_channel hc (by omega)) (.inr (.inr (by simp))), State.g_f_self _ (by simp [Fld.fits]), Nat.zero_mod]
  case toff =>
    have hkept : (s.f (GRD_CSTS_TOFFDONE c) 1).guState c = s.guState c := State.g_f_apart s (by simp [Fld.fits]) _ (.inr (.inl (by simp)))
    have hturn : (s.f (GRD_CSTS_TOFFDONE c) 1).noTurnOn = s.noTurnOn := by
      rw [State.noTurnOn, State.noTurnOn, State.stage, State.stage, State.g_f_apart s (by simp [Fld.fits]) _ (.inl (by simp; omega))]
      rfl
    have hone := s.on_f_one (f := GRD_CSTS_TOFFDONE c) (by simp [Fld.fits])
    have hexec : exec (.toffExpiry c) s = .next (if (s.f (GRD_CSTS_TOFFDONE c) 1).guState c = guRETRYWAIT ∧ (s.f (GRD_CSTS_TOFFDONE c) 1).noTurnOn = false then
        ((s.f (GRD_CSTS_TOFFDONE c) 1).setGuState c guON).setGu c { ((s.f (GRD_CSTS_TOFFDONE c) 1).setGuState c guON).gu c with
          retryAon := some (s.f (GRD_CSTS_TOFFDONE c) 1).time.aon }
        else s.f (GRD_CSTS_TOFFDONE c) 1) := congrArg Host.Outcome.next (if_pos ⟨htoff, hdue⟩)
    by_cases hwait : s.guState c = guRETRYWAIT ∧ s.noTurnOn = false
    · have hon := (s.f (GRD_CSTS_TOFFDONE c) 1).setGuState_state hc (st := guON) (by decide)
      refine completes hexec (if_pos (by rw [hkept, hturn]; exact hwait)) ⟨?_, fun _ _ => ⟨hon, ?_⟩, fun hne => absurd hwait.1 hne⟩
      · refine Eq.trans ?_ hone
        exact congrArg (· != 0) (State.setGuState_g hc _ guON (f := GRD_CSTS_TOFFDONE c) (Fld.isGuard_of_channel hc (by omega)) (.inr (.inr (by simp))))
      · rw [State.gu_setGu_self]
        rfl
    · exact completes hexec (if_neg (by rw [hkept, hturn]; exact hwait)) ⟨hone, fun h1 h2 => absurd ⟨h1, h2⟩ hwait, fun _ => rfl⟩
  case retries => exact congrArg Host.Outcome.next (if_pos ⟨hon, hdue⟩)
  case clear =>
    refine completes rfl ((State.barWrite_accepted h (by decide) _ _ _).trans (if_neg (by rw [hpin]; exact Bool.false_ne_true))) ⟨fun k hk => ?_, rfl⟩
    have hlt : Nat.land (s.awake.g GRD_TRIPSTS_LATCH) (Nat.xor (wbits v 7 0) 0xFF) < 256 :=
      lt_of_le_of_lt Nat.and_le_left (Nat.mod_lt _ (by decide))
    rw [State.g_f_lt _ (by decide) hlt, nbit_land_xor _ _ _ hk, nbit_wbits v hk]
  case lock =>
    have hlock : (s.awake.store rGRD_LOCK 0 0 1#32).on GRD_LOCK_LOCK = true := by
      rw [State.on, State.store_g (by decide) rfl (by decide)]
      decide
    have heff : s.awake.lockWrite 1#32 = ((s.awake.store rGRD_LOCK 0 0 1#32).lockChannels).showGsts := congrArg State.showGsts (if_pos hlock)
    obtain ⟨heq, hrd⟩ := (s.awake.store rGRD_LOCK 0 0 1#32).lockChannels_kept
    have hstill : (s.awake.store rGRD_LOCK 0 0 1#32).lockChannels.on GRD_LOCK_LOCK = true := by
      rw [State.on, State.g_of_rd (hrd _ (by decide))]
      exact hlock
    refine completes rfl ((State.barWrite_accepted h (by decide) _ _ _).trans heff) ⟨?_, (State.showGsts_locked _).trans hstill, State.showGsts_eq heq⟩
    rw [State.on, State.g_of_rd (State.showGsts_rd _ (by decide))]
    exact hstill

end Sys2Proof.Machine
end

section
/-! Nodes: what a node leaves behind when it goes. -/
set_option Elab.async false
namespace Sys2Proof.Machine

/-- t holds the nodes of s, and its field registers but BADMSTS of bus b. -/
structure NodesKept (b : Nat) (s t : State) : Prop where
  nodes : t.crs.nodes = s.crs.nodes
  rd : ∀ o, InField o → o ≠ 0x0104C + 0x80 * b → t.rd o = s.rd o

namespace NodesKept

theorem refl (b : Nat) (s : State) : NodesKept b s s := ⟨rfl, fun _ _ _ => rfl⟩

theorem trans {b : Nat} {s t u : State} (h : NodesKept b s t) (h' : NodesKept b t u) : NodesKept b s u :=
  ⟨h'.nodes.trans h.nodes, fun o ho hne => (h'.rd o ho hne).trans (h.rd o ho hne)⟩

theorem ite {b : Nat} {c : Prop} [Decidable c] {s t u : State} (h : NodesKept b s t) (h' : NodesKept b s u) : NodesKept b s (if c then t else u) := by
  split
  · exact h
  · exact h'

theorem setBus (b : Nat) (s : State) (x : BusS) : NodesKept b s (s.setBus b x) := ⟨rfl, fun _ _ _ => rfl⟩

theorem finishId (b : Nat) (s : State) (id : JobId) (o : DoneS) : NodesKept b s (s.finishId id o) :=
  ⟨by rw [part_eq (State.finishId_same s id o (.refl 12582946) (.refl 12582946 s)).crs (by decide)], fun p hp _ => (FieldKept.finishId s id o).rd p hp⟩

theorem finishOpt (b : Nat) (s : State) (j : Option JobId) (o : DoneS) : NodesKept b s (match j with | some j => s.finishId j o | none => s) := by
  cases j with
  | some j => exact finishId b s j o
  | none => exact refl b s

theorem flushCmds (b : Nat) (s : State) (a : Nat) : NodesKept b s (s.flushCmds b a) := by
  have hall : ∀ (l : List NcmdS) (s : State), NodesKept b s (l.foldl (fun s c => match c.job with
      | some j => s.finishId j { status := if c.resent then TIMEOUT else NOT_IN_STATE }
      | none => s) s) := fun l s =>
    List.foldlRecOn (motive := fun t => NodesKept b s t) _ _ (refl b s) fun t h c _ => h.trans (finishOpt b t c.job _)
  unfold State.flushCmds
  dsimp only
  split
  · exact ((finishOpt b s _ _).trans (hall _ _)).trans (setBus b _ _)
  · exact (hall _ s).trans (setBus b _ _)

theorem abandonLayout (b : Nat) (s : State) : NodesKept b s (s.abandonLayout b) := by
  unfold State.abandonLayout
  split
  · exact ite (setBus b s _) (refl b s)
  · exact refl b s

theorem endAdm (b : Nat) (s : State) : NodesKept b s (s.endAdm b) :=
  ⟨rfl, fun _ _ ho => (State.rd_f_ne _ 0 (f := CRS_BADMSTS_ADDR b) ho).trans (State.rd_f_ne _ 0 (f := CRS_BADMSTS_STEP b) ho)⟩

end NodesKept

/-- What stands before the node's own record is cleared: its commands, its place in the layout and in the admission. -/
def State.unbind (s : State) (b a : Nat) : State :=
  let laid := (s.bus b).laid a
  let s := s.flushCmds b a
  let s := if laid then s.abandonLayout b else s
  let x := s.bus b
  let s := s.setBus b { x with
    relay := x.relay || laid
    corr := x.corr.filter fun c => c.1 != a
    lost := x.lost.filter fun c => c.2.1 != a }
  match x.adm with
  | some m => if m.addr = a then s.endAdm b else s
  | none => s

theorem State.unbind_kept (s : State) (b a : Nat) : NodesKept b s (s.unbind b a) := by
  have hcut : NodesKept b s (if (s.bus b).laid a then (s.flushCmds b a).abandonLayout b else s.flushCmds b a) :=
    .ite ((NodesKept.flushCmds b s a).trans (.abandonLayout b _)) (.flushCmds b s a)
  unfold State.unbind
  dsimp only
  split
  · exact .ite ((hcut.trans (.setBus b _ _)).trans (.endAdm b _)) (hcut.trans (.setBus b _ _))
  · exact hcut.trans (.setBus b _ _)

/-- The record and the registers of a node, cleared. -/
def State.clearNode (s : State) (b a : Nat) : State :=
  (((s.setNode b a {}).zero [CRS_NDELAY b a, CRS_NSLOTLEN b a, CRS_NSLOTST b a, CRS_NIDLO b a, CRS_NIDHI b a, CRS_NNSTAT b a]).wr
    (0x4000 + 0x400 * b + 0x20 * a) 0).wr (0x14008 + 0x200 * b + 0x10 * a) 0

theorem State.removeNode_eq (s : State) (b a : Nat) :
    s.removeNode b a = if (s.node b a).id = 0 then (s.unbind b a).clearNode b a else ((s.unbind b a).clearNode b a).entWait (s.node b a).id := rfl

theorem State.zero_nodes (s : State) (l : List Fld) : (s.zero l).crs.nodes = s.crs.nodes := by
  rw [State.zero_eq]

theorem State.zero_rd {l : List Fld} {o : Nat} (h : ∀ x ∈ l, o ≠ x.off) (s : State) : (s.zero l).rd o = s.rd o :=
  List.foldlRecOn (motive := fun t => t.rd o = s.rd o) l (fun s f => s.f f 0) (b := s) rfl fun t ht x hx => (State.rd_f_ne t 0 (h x hx)).trans ht

/-- The registers of the nodes lie from 0x4000, so those of the buses themselves stay. -/
theorem State.clearNode_rd (s : State) (b a : Nat) {o : Nat} (h : o < 0x4000) : (s.clearNode b a).rd o = s.rd o := by
  unfold State.clearNode
  rw [State.rd_wr_ne _ _ (by omega), State.rd_wr_ne _ _ (by omega), State.zero_rd ?_ _]
  · rfl
  · simp only [List.mem_cons, List.not_mem_nil, or_false]
    rintro x (rfl | rfl | rfl | rfl | rfl | rfl) <;> simp <;> omega

theorem State.clearNode_crs (s : State) (b a : Nat) : (s.clearNode b a).crs = { s.crs with nodes := s.crs.nodes.set (fun _ => {}) (32 * b + a) {} } := by
  unfold State.clearNode
  rw [State.wr_crs, State.wr_crs, State.zero_eq]
  rfl

theorem State.clearNode_admitted (s : State) (b a : Nat) : (s.clearNode b a).on (CRS_NSTS_ADMITTED b a) = false := by
  have hword : (s.clearNode b a).rd (0x4000 + 0x400 * b + 0x20 * a) = 0 := by
    unfold State.clearNode
    rw [State.rd_wr_ne _ _ (by omega), State.rd_wr_self]
  rw [State.on, State.g, hword]
  exact congrArg (· != 0) (show wbits 0 6 6 = 0 by decide)

theorem State.entWait_kept (s : State) (id : Nat) : (s.entWait id).regs = s.regs ∧ (s.entWait id).crs = s.crs := ⟨rfl, rfl⟩

theorem State.removeNode_rd (s : State) (b a : Nat) {o : Nat} (ho : o < 0x4000) (hne : o ≠ 0x0104C + 0x80 * b) : (s.removeNode b a).rd o = s.rd o := by
  have h : ((s.unbind b a).clearNode b a).rd o = s.rd o :=
    ((s.unbind b a).clearNode_rd b a ho).trans ((s.unbind_kept b a).rd o (.inl (by omega)) hne)
  rw [State.removeNode_eq]
  split
  · exact h
  · rw [State.rd, (State.entWait_kept _ _).1]
    exact h

theorem State.removeNode_nodes (s : State) (b a : Nat) : (s.removeNode b a).crs.nodes = s.crs.nodes.set (fun _ => {}) (32 * b + a) {} := by
  have h : ((s.unbind b a).clearNode b a).crs.nodes = s.crs.nodes.set (fun _ => {}) (32 * b + a) {} := by
    rw [State.clearNode_crs, (s.unbind_kept b a).nodes]
  rw [State.removeNode_eq]
  split
  · exact h
  · rw [(State.entWait_kept _ _).2]
    exact h

theorem State.removeNode_holds (s : State) (b a : Nat) : (s.removeNode b a).holds b a = false := by
  rw [State.holds, State.node, State.removeNode_nodes, Tbl.get_set_self]
  rfl

theorem State.removeNode_admitted (s : State) (b a : Nat) : (s.removeNode b a).on (CRS_NSTS_ADMITTED b a) = false := by
  rw [State.removeNode_eq]
  split
  · exact (s.unbind b a).clearNode_admitted b a
  · rw [State.on, State.g, State.rd, (State.entWait_kept _ _).1]
    exact (s.unbind b a).clearNode_admitted b a

theorem State.recordNode_field (s : State) (e : EvRecS) : FieldKept s (s.recordNode e) :=
  .ite (.routeEv s 0 s.pos e) ((FieldKept.routeEv s 0 s.pos e).trans (.routeEv _ 0 0 e))

/-- 2600 ns after it was sent, an immediate command of a node without a measured delay is due: the model allows 40 bit times for that delay. -/
theorem imm_due {s : State} {b a : Nat} {c : NcmdS} (hdelay : s.g (CRS_NDELAY b a) = 0) (hdue : c.at_ + 2600 ≤ s.elapsed) :
    c.at_ + 10 * (100 + 120 + (if s.ranged b a then 2 * bitsUp (s.g (CRS_NDELAY b a)) else 40)) ≤ s.elapsed := by
  rw [hdelay]
  split
  · have : bitsUp 0 = 0 := by decide
    omega
  · omega

/-- What the timeout of a command does, given the command waited for and the cycle. -/
def State.overdue (s : State) (b a : Nat) (wait : Option NcmdS) (cur : Option CycS) : State :=
  match wait, cur with
  | some c, some cyc =>
    let d := s.g (CRS_NDELAY b a)
    let due :=
      if c.imm then decide (c.at_ + 10 * (100 + 120 + (if s.ranged b a then 2 * bitsUp d else 40)) ≤ s.elapsed)
      else cyc.no != c.cyc && (cyc.no != (c.cyc + 1) % 2 ^ 32 || s.bitPassed b (s.nodePos b a + frameBits (s.nodeLen b a)))
    if !due || (s.bus b).watch then s
    else if c.resent then s.cmdLasts b a c
    else
      let t := s.setNode b a { s.node b a with wait := none }
      t.setBus b { t.bus b with cmds := { c with resent := true } :: (t.bus b).cmds }
  | _, _ => s

theorem State.overdue_of_due (s : State) {b a : Nat} {c : NcmdS} {cyc : CycS}
    (hdue : (if c.imm then decide (c.at_ + 10 * (100 + 120 + (if s.ranged b a then 2 * bitsUp (s.g (CRS_NDELAY b a)) else 40)) ≤ s.elapsed)
      else cyc.no != c.cyc && (cyc.no != (c.cyc + 1) % 2 ^ 32 || s.bitPassed b (s.nodePos b a + frameBits (s.nodeLen b a)))) = true)
    (hwatch : (s.bus b).watch = false) :
    s.overdue b a (some c) (some cyc) = if c.resent then s.cmdLasts b a c else
      (s.setNode b a { s.node b a with wait := none }).setBus b { s.bus b with cmds := { c with resent := true } :: (s.bus b).cmds } :=
  if_neg (by rw [hdue, hwatch]; decide)

theorem State.modAdm_bus {s : State} {b : Nat} {m : AdmS} (h : (s.bus b).adm = some m) (f : AdmS → AdmS) :
    (s.modAdm b f).bus b = { s.bus b with adm := some (f m) } := by
  have hadm : (s.setBus b { s.bus b with adm := (s.bus b).adm.map f }).bus b = { s.bus b with adm := some (f m) } := by
    rw [State.bus_setBus_self, h]
    rfl
  unfold State.modAdm
  dsimp only
  rw [hadm]
  exact hadm

/-- A command of the hub as it goes to the node of address a. -/
def State.addressed (s : State) (b a : Nat) (c : NcmdS) : NcmdS :=
  { c with addr := a, seq := (s.node b a).seq, imm := !s.on (CRS_NSTS_ADMITTED b a) }

theorem State.nodeCmd_bus (s : State) (b a : Nat) (c : NcmdS) :
    (s.nodeCmd b a c).bus b = { s.bus b with cmds := (s.bus b).cmds ++ [s.addressed b a c] } := State.bus_setBus_self _ b _

/-- The DROP command of the node of address a. -/
def State.dropMsg (s : State) (b a : Nat) : NcmdS :=
  { opc := ncDROP, addr := a, seq := (s.node b a).seq, param := toLe 4 (64 * s.g (CRS_BADMCFG_HOLDOFF b)) }

/-- Settles O29. -/
theorem nodesComplete : Obligations.NodesComplete := by
  unfold Obligations.NodesComplete
  refine ⟨fun s b a _ _ hadm hmiss => ?silent, fun s b _ hquiet hfault => ?linefault, fun s b a _ _ hprob hclean => ?probation,
    fun s b a hb _ hrun hwatch hadm hmiss => ?deadmit, fun s b a c cyc _ _ hwait hcur himm hno hnext hwatch hresent => ?resend,
    fun s b a c cyc _ _ hwait hcur himm hdelay hdue hwatch hresent => ?last, fun s b m _ hm hrun hbusy hstep => ?admission,
    fun s b a _ ha h hheld => ?drop⟩
  case silent =>
    exact congrArg Host.Outcome.next (if_pos (by simp [hadm, hmiss]))
  case linefault =>
    exact congrArg Host.Outcome.next (if_pos ⟨hquiet, by simp [hfault]⟩)
  case probation =>
    have heff : s.probEnd b a = (s.setNode b a { s.node b a with prob := none }).zero
        [CRS_NSTS_PROBATION b a, CRS_NSTS_INPLACE b a, CRS_NSTS_PROBPOS b a, CRS_NSTS_CLEAN b a] := by
      refine (if_pos ⟨hprob, hclean⟩).trans ?_
      unfold State.showProb
      rw [State.node_setNode_self]
    refine completes rfl heff ⟨?_, fun c hc => ?_⟩
    · rw [State.node, State.zero_nodes]
      exact congrArg NodeS.prob (State.node_setNode_self s b a _)
    · rw [State.zero_nodes]
      exact Tbl.get_set_ne _ _ hc _
  case deadmit =>
    have hdue : (s.coreRuns && !(s.bus b).watch && s.on (CRS_NSTS_ADMITTED b a) && decide (256 ≤ s.missNow b a)) = true := by
      rw [hrun, hwatch, hadm, decide_eq_true hmiss]
      rfl
    have hexec : execNodeDeadmitSilence b a s = .next ((s.inc (CRS_BDEADMIT b)).deadmit b a) := by
      rw [execNodeDeadmitSilence, if_pos hdue]
    refine completes hexec rfl ⟨State.removeNode_holds _ b a, State.removeNode_admitted _ b a, ?_⟩
    rw [← s.g_inc_word (f := CRS_BDEADMIT b) rfl rfl, State.deadmit]
    refine (State.g_of_rd (State.removeNode_rd _ b a (by simp; omega) (by simp))).trans ?_
    exact FieldKept.g (State.recordNode_field _ _) (.inl (by simp; omega))
  case resend =>
    have hmissed : (cyc.no != c.cyc && (cyc.no != (c.cyc + 1) % 2 ^ 32 || s.bitPassed b (s.nodePos b a + frameBits (s.nodeLen b a)))) = true := by
      rw [bne_iff_ne.2 hno, bne_iff_ne.2 hnext]
      rfl
    have heff := s.overdue_of_due (a := a) (c := c) (cyc := cyc) (by rw [himm, if_neg Bool.false_ne_true, hmissed]) hwatch
    rw [if_neg (by rw [hresent]; exact Bool.false_ne_true), ← hwait, ← hcur] at heff
    exact completes rfl heff ⟨congrArg NodeS.wait (State.node_setNode_self s b a _), congrArg BusS.cmds (State.bus_setBus_self _ b _), rfl⟩
  case last =>
    have heff := s.overdue_of_due (a := a) (c := c) (cyc := cyc) (by rw [himm, if_pos rfl, decide_eq_true (imm_due hdelay hdue)]) hwatch
    rw [if_pos hresent, ← hwait, ← hcur] at heff
    exact congrArg Host.Outcome.next heff
  case admission =>
    have heff : execAdmissionStep b s = .next ((s.modAdm b fun m => { m with busy := true }).nodeCmd b m.addr { opc := ncRANGE, who := 0 }) := by
      unfold execAdmissionStep State.admGo
      simp [hm, hrun, hbusy, hstep]
    have hbus := State.nodeCmd_bus (s.modAdm b fun m => { m with busy := true }) b m.addr { opc := ncRANGE, who := 0 }
    rw [State.modAdm_bus hm] at hbus
    exact completes heff rfl ⟨⟨_, congrArg BusS.adm hbus, rfl⟩, _, congrArg BusS.cmds hbus, rfl, rfl⟩
  case drop =>
    have hword : wbits (Word.ofNat (256 + a)) 4 0 = a ∧ wbit (Word.ofNat (256 + a)) 8 = true := by
      interval_cases a <;> decide
    have heff : s.awake.busDropWrite b (Word.ofNat (256 + a)) = (s.awake.removeNode b a).queueCmd b (s.awake.dropMsg b a) := by
      unfold State.busDropWrite
      rw [hword.1, hword.2]
      dsimp only
      rw [hheld]
      rfl
    refine completes rfl ((State.barWrite_accepted h (by decide) _ _ _).trans heff)
      ⟨State.removeNode_holds s.awake b a, s.awake.dropMsg b a, ?_, rfl, rfl⟩
    rw [State.queueCmd, State.bus_setBus_self]
    exact List.mem_append_right _ (List.mem_singleton_self _)

end Sys2Proof.Machine
end

section
/-! Lanes and training of the ports (spec/15_bond_links.md R473-R479). -/
set_option Elab.async false
namespace Sys2Proof.Machine

/-! A port's record lies apart from the registers, but for UNACK. -/

theorem State.setPort_g (s : State) (p : Nat) (q : PortS) {f : Fld} (h : f.apart (BND_PSTS_UNACK p)) : (s.setPort p q).g f = s.g f := by
  rw [State.setPort, State.g_f_apart _ (by simp [Fld.fits]) _ h]
  rfl

theorem State.setPort_on (s : State) (p : Nat) (q : PortS) {f : Fld} (h : f.apart (BND_PSTS_UNACK p)) : (s.setPort p q).on f = s.on f := by
  rw [State.on, State.on, s.setPort_g p q h]

theorem State.port_of_bnd {s t : State} (h : t.bnd = s.bnd) (p : Nat) : t.port p = s.port p := by rw [State.port, State.port, h]

theorem State.elapsed_of_time {s t : State} (h : t.time = s.time) : t.elapsed = s.elapsed := by
  rw [State.elapsed, State.elapsed, State.ct, State.ct, h]

theorem State.port_f (s : State) (f : Fld) (v p : Nat) : (s.f f v).port p = s.port p := rfl

theorem State.port_zero (s : State) (l : List Fld) (p : Nat) : (s.zero l).port p = s.port p := State.port_of_bnd (by rw [State.zero_eq]) p

theorem State.port_inc (s : State) (f : Fld) (p : Nat) : (s.inc f).port p = s.port p := rfl

/-! Training. -/

theorem State.trainFrom1_port (s : State) (p : Nat) : (s.trainFrom1 p).port p = { s.port p with step := 1, stepAt := s.elapsed, code := [] } := by
  unfold State.trainFrom1
  dsimp only
  rw [State.port_f, State.port_f, State.port_setPort_self]

theorem State.trainFrom1_g (s : State) (p : Nat) {f : Fld} (hun : f.apart (BND_PSTS_UNACK p)) (htr : f.apart (BND_PSTS_TRAINED p))
    (hca : f.apart (BND_PSTS_CARRY p)) : (s.trainFrom1 p).g f = s.g f := by
  unfold State.trainFrom1
  dsimp only
  rw [State.g_f_apart _ (by simp [Fld.fits]) _ hca, State.g_f_apart _ (by simp [Fld.fits]) _ htr, State.setPort_g _ _ _ hun]

theorem State.trainFrom1_trained (s : State) (p : Nat) : (s.trainFrom1 p).g (BND_PSTS_TRAINED p) = 0 := by
  unfold State.trainFrom1
  dsimp only
  rw [State.g_f_apart _ (by simp [Fld.fits]) _ (.inr (.inr (by simp))), State.g_f_self _ (by simp [Fld.fits])]
  rfl

/-! A session closed leaves the configuration of the ports. -/

/-- t holds the configuration registers of the ports of s. -/
def PcfgKept (s t : State) : Prop := ∀ p, t.rd (0x31900 + 0x100 * p) = s.rd (0x31900 + 0x100 * p)

namespace PcfgKept

theorem refl (s : State) : PcfgKept s s := fun _ => rfl

theorem trans {s t u : State} (h : PcfgKept s t) (h' : PcfgKept t u) : PcfgKept s u := fun p => (h' p).trans (h p)

theorem of_regs {s t : State} (h : t.regs = s.regs) : PcfgKept s t := fun _ => by rw [State.rd, State.rd, h]

theorem setPort (s : State) (p : Nat) (q : PortS) : PcfgKept s (s.setPort p q) := fun _ => State.rd_f_ne _ _ (by simp; omega)

theorem freeAt (s : State) (p vc n : Nat) : PcfgKept s (s.freeAt p vc n) := setPort s p _

theorem sendLocal (s : State) (p cls : Nat) (pl : List Nat) : PcfgKept s (s.sendLocal p cls pl) := by
  unfold State.sendLocal State.putFlit
  dsimp only
  split <;> exact of_regs rfl

theorem dropSession (s : State) (p : Nat) : PcfgKept s (s.dropSession p) := by
  unfold State.dropSession
  refine trans ?_ (setPort _ p _)
  refine List.foldlRecOn (motive := fun t => PcfgKept s t) _ _ (of_regs rfl) fun t h f _ => h.trans ?_
  split
  · split
    · exact refl t
    · exact freeAt t _ _ _
  · exact refl t

theorem closeSession (s : State) (p : Nat) : PcfgKept s (s.closeSession p) := by
  unfold State.closeSession
  dsimp only
  split
  · exact (sendLocal s p _ _).trans (dropSession _ p)
  · exact dropSession s p

theorem times {op : State → State} (hop : ∀ s, PcfgKept s (op s)) (n : Nat) : ∀ s, PcfgKept s (times op n s) := by
  induction n with
  | zero => exact refl
  | succ n ih => exact fun s => (hop s).trans (ih _)

theorem fillCode (s : State) (p : Nat) : PcfgKept s (s.fillCode p) := by
  unfold State.fillCode
  dsimp only
  split
  · exact refl s
  · exact times (fun s => sendLocal s p _ _) _ s

end PcfgKept

/-- A port that goes off, after its session. -/
def State.portClear (s : State) (p : Nat) : State :=
  let s := s.setPort p { mySess := (s.port p).mySess }
  let s := s.f CLK_STS_LANELOCK (s.g CLK_STS_LANELOCK - Nat.land (s.g CLK_STS_LANELOCK) (3 * 4 ^ p))
  (((s.f (BND_PSTS_STATE p) bsOFF).f (BND_PSTS_TRAINED p) 0).f (BND_PSTS_CARRY p) 0).zero
    [BND_PSTS_DEGRADED p, BND_PSTS_SHEDONE p]

theorem State.portOff_eq (s : State) (p : Nat) : s.portOff p = ((s.closeSession p).fillCode p).portClear p := rfl

theorem State.portClear_port (s : State) (p : Nat) : (s.portClear p).port p = { mySess := (s.port p).mySess } := by
  unfold State.portClear
  dsimp only
  rw [State.port_zero, State.port_f, State.port_f, State.port_f, State.port_f, State.port_setPort_self]

theorem State.portClear_state (s : State) (p : Nat) : (s.portClear p).g (BND_PSTS_STATE p) = bsOFF := by
  unfold State.portClear
  dsimp only
  rw [State.zero_g_apart _ _ (by simp [Fld.fits]) _ (by simp [Fld.apart]), State.g_f_apart _ (by simp [Fld.fits]) _ (.inr (.inl (by simp))),
    State.g_f_apart _ (by simp [Fld.fits]) _ (.inr (.inl (by simp))), State.g_f_self _ (by simp [Fld.fits])]
  rfl

theorem State.portClear_cfg (s : State) {p : Nat} (hp : p < 4) : (s.portClear p).rd (0x31900 + 0x100 * p) = s.rd (0x31900 + 0x100 * p) := by
  unfold State.portClear
  dsimp only
  rw [State.zero_rd (by simp) _, State.rd_f_ne _ _ (by simp), State.rd_f_ne _ _ (by simp), State.rd_f_ne _ _ (by simp),
    State.rd_f_ne _ _ (by simp; omega)]
  exact PcfgKept.setPort s p _ p

theorem State.portOff_cfg (s : State) {p : Nat} (hp : p < 4) : (s.portOff p).rd (0x31900 + 0x100 * p) = s.rd (0x31900 + 0x100 * p) := by
  rw [State.portOff_eq]
  exact (State.portClear_cfg _ hp).trans (((PcfgKept.closeSession s p).trans (PcfgKept.fillCode _ p)) p)

/-! A link that goes down. -/

theorem State.loseUpstream_g (s : State) {f : Fld} (hf : Loud f.off) (hlo : f.off < 0x28008 ∨ 0x28010 < f.off) : s.loseUpstream.g f = s.g f := by
  have happ : ∀ x : Fld, 0x28008 ≤ x.off → x.off ≤ 0x28010 → f.apart x := fun x h1 h2 => .inl (by omega)
  unfold State.loseUpstream
  dsimp only
  split
  · rw [State.enterHoldover_eq, State.setCtState_g _ _ hf (happ _ (by decide) (by decide)) (happ _ (by decide) (by decide)),
      State.lost_g _ (happ _ (by decide) (by decide)), State.frozen_g _ (happ _ (by decide) (by decide)) (happ _ (by decide) (by decide))]
  · rfl

theorem State.loseUpstream_bnd (s : State) : s.loseUpstream.bnd = s.bnd := part_eq (State.loseUpstream_same s (.refl 674) (.refl 674 s)).bnd (by decide)

/-- The link is in HOLD, its holds running, and its port trains again. -/
def State.held (s : State) (p : Nat) : State :=
  let s := s.inc (BND_PLINKDOWN p)
  let s := (s.f (BND_PSTS_STATE p) bsHOLD).f (BND_PSTS_DEGRADED p) 0
  let s := s.setPort p { s.port p with
    holdAt := some s.elapsed, splitMs := s.g ROL_HOLD_SPLITHOLD, retryMs := s.g ROL_HOLD_RETRYHOLD, splitDone := false,
    holdEpoch := s.g ROL_EPOCH, parts := [], nakFor := none }
  s.trainFrom1 p

/-- The requests and transfers of the hubs beyond the port go with the link. -/
def State.cutBeyond (s : State) (p : Nat) : State :=
  let gone := fun (q : Nat) => s.treePort q == some p
  { s with rol := { s.rol with
    reqs := s.rol.reqs.filter fun r => !((r.ty == 7 || r.ty == 8) && gone r.dst)
    xfers := s.rol.xfers.filter fun x => !gone x.pos } }

theorem State.cutBeyond_kept (s : State) (p : Nat) : (s.cutBeyond p).bnd = s.bnd ∧ (s.cutBeyond p).regs = s.regs := ⟨rfl, rfl⟩

theorem State.linkDown_eq (s : State) (p : Nat) : s.linkDown p =
    State.raiseHub (if ((s.held p).cutBeyond p).isUpstream p then ((s.held p).cutBeyond p).loseUpstream else (s.held p).cutBeyond p) srcBONDDOWN := rfl

theorem State.linkDown_port (s : State) (p : Nat) : (s.linkDown p).port p = (s.held p).port p := by
  rw [State.linkDown_eq, State.port_of_bnd (State.raiseHub_bnd _ _)]
  split
  · rw [State.port_of_bnd (State.loseUpstream_bnd _), State.port_of_bnd (State.cutBeyond_kept _ p).1]
  · rw [State.port_of_bnd (State.cutBeyond_kept _ p).1]

theorem State.linkDown_g (s : State) (p : Nat) {f : Fld} (hf : 0x31900 ≤ f.off ∧ f.off < 0x31E00) : (s.linkDown p).g f = (s.held p).g f := by
  have hloud : Loud f.off := .inr (.inl (by omega))
  rw [State.linkDown_eq, State.raiseHub_g _ _ hloud]
  split
  · rw [State.loseUpstream_g _ hloud (.inr (by omega)), State.g_of_regs (State.cutBeyond_kept _ p).2]
  · rw [State.g_of_regs (State.cutBeyond_kept _ p).2]

theorem State.held_port (s : State) (p : Nat) : ((s.held p).port p).holdAt = some s.elapsed ∧ ((s.held p).port p).step = 1 ∧
    ((s.held p).port p).splitMs = s.g ROL_HOLD_SPLITHOLD ∧ ((s.held p).port p).retryMs = s.g ROL_HOLD_RETRYHOLD := by
  have hkept : ∀ f : Fld, f.off = 0x33808 → (((s.inc (BND_PLINKDOWN p)).f (BND_PSTS_STATE p) bsHOLD).f (BND_PSTS_DEGRADED p) 0).g f = s.g f := fun f hf => by
    rw [State.g_f_apart _ (by simp [Fld.fits]) _ (.inl (by simp; omega)), State.g_f_apart _ (by simp [Fld.fits]) _ (.inl (by simp; omega))]
    exact State.g_of_rd (State.rd_f_ne s _ (by simp; omega))
  unfold State.held
  dsimp only
  rw [State.trainFrom1_port, State.port_setPort_self]
  refine ⟨congrArg some (State.elapsed_of_time ?_), rfl, hkept _ rfl, hkept _ rfl⟩
  rw [State.f_time, State.f_time, State.inc_time]

theorem State.held_state (s : State) (p : Nat) : (s.held p).g (BND_PSTS_STATE p) = bsHOLD := by
  unfold State.held
  dsimp only
  rw [State.trainFrom1_g _ _ (.inr (.inl (by simp))) (.inr (.inl (by simp))) (.inr (.inl (by simp))), State.setPort_g _ _ _ (.inr (.inl (by simp))),
    State.g_f_apart _ (by simp [Fld.fits]) _ (.inr (.inl (by simp))), State.g_f_self _ (by simp [Fld.fits])]
  rfl

theorem State.held_count (s : State) (p : Nat) : (s.held p).g (BND_PLINKDOWN p) = min (s.g (BND_PLINKDOWN p) + 1) (2 ^ 32 - 1) := by
  unfold State.held
  dsimp only
  rw [State.trainFrom1_g _ _ (.inl (by simp)) (.inl (by simp)) (.inl (by simp)), State.setPort_g _ _ _ (.inl (by simp)),
    State.g_f_apart _ (by simp [Fld.fits]) _ (.inl (by simp)), State.g_f_apart _ (by simp [Fld.fits]) _ (.inl (by simp)), State.g_inc_word _ rfl rfl]

/-! Lanes. -/

theorem State.delayReset_g (s : State) (p was : Nat) (f : Fld) : (s.delayReset p was).g f = s.g f := by
  unfold State.delayReset
  split <;> rfl

/-- A port without SINGLE takes the lanes given, if there are any. -/
theorem State.stepDone_eq {s : State} {p mask : Nat} (hm : mask < 4) (hne : mask ≠ 0) (hen : s.on (BND_PCFG_EN p) = true)
    (hsingle : s.on (BND_PCFG_SINGLE p) = false) : exec (.trainingStepDone p mask) s = .next (
      if (s.port p).step = 1 then (if s.g (BND_PCFG_MODE p) = 0 ∧ ¬ s.on (BND_PCFG_SINGLE p) ∧ mask ≠ 3 then s else
        (s.f CLK_STS_LANELOCK (Nat.lor (s.g CLK_STS_LANELOCK) (mask * 4 ^ p))).toStep p 2)
      else if (s.port p).step = 2 then s.toStep p 3
      else if (s.port p).step = 3 then (s.f (BND_PSTS_TRAINED p) mask).toStep p 4
      else if (s.port p).step = 4 then s.lanesUp p
      else s) := by
  have hmask : (if s.on (BND_PCFG_SINGLE p) then mask % 2 else mask % 4) = mask := by
    rw [hsingle, if_neg Bool.false_ne_true, Nat.mod_eq_of_lt hm]
  have hok : s.lanesOk p mask = true := by
    rw [State.lanesOk, hsingle, if_neg Bool.false_ne_true, decide_eq_true hne]
  show execTrainingStepDone p mask s = _
  unfold execTrainingStepDone
  dsimp only
  rw [hmask, if_neg (by rw [hen, hok]; decide)]

theorem lor_lt_of_lt {a b n : Nat} (ha : a < 2 ^ n) (hb : b < 2 ^ n) : Nat.lor a b < 2 ^ n := Nat.or_lt_two_pow ha hb

theorem State.g_lt (s : State) (f : Fld) : s.g f < 2 ^ (f.hi + 1 - f.lo) := Nat.mod_lt _ (Nat.two_pow_pos _)

/-! Resets of the host link. -/

theorem State.noteIso_kept (s : State) : s.noteIso.icu = s.icu ∧ s.noteIso.regs = s.regs ∧ s.noteIso.sys.hostLink = s.sys.hostLink ∧
    s.noteIso.sys.cfg = s.sys.cfg := ⟨rfl, rfl, rfl, rfl⟩

theorem State.showCapable_kept (s : State) : s.showCapable.icu = s.icu ∧ s.showCapable.sys = s.sys := ⟨rfl, rfl⟩

/-- The host link is told to be up or not, and what follows from it. -/
def State.setHostLink (s : State) (up : Bool) : State := ({ s with sys := { s.sys with hostLink := up } } : State).showCapable.noteIso

theorem State.setHostLink_effect (s : State) (up : Bool) : (s.setHostLink up).sys.hostLink = up ∧ (s.setHostLink up).icu = s.icu ∧
    (s.setHostLink up).sys.cfg = s.sys.cfg ∧ (s.setHostLink up).on CLK_STS_REFCLKOK = s.on CLK_STS_REFCLKOK := by
  obtain ⟨hicu, hregs, hlink, hcfg⟩ := State.noteIso_kept (({ s with sys := { s.sys with hostLink := up } } : State).showCapable)
  obtain ⟨hicu', hsys'⟩ := State.showCapable_kept ({ s with sys := { s.sys with hostLink := up } } : State)
  refine ⟨hlink.trans (by rw [hsys']), hicu.trans hicu', hcfg.trans (by rw [hsys']), ?_⟩
  rw [State.setHostLink, State.on, State.g_of_regs hregs]
  exact State.on_f_apart _ (by decide) _ (.inl (by decide))

/-- The message table is cleared, the configuration space with PERST_N and hot reset. -/
def State.clearLink (s : State) (kind : Nat) : State :=
  if kind < 2 then (let t := s.clearMsix; { t with sys := { t.sys with cfg := {} } }) else s.clearMsix

theorem State.clearLink_effect (s : State) (kind : Nat) : (s.clearLink kind).icu.msix = {} ∧ (s.clearLink kind).icu.fmask = false ∧
    (kind < 2 → (s.clearLink kind).sys.cfg = {}) := by
  unfold State.clearLink
  split
  · exact ⟨rfl, rfl, fun _ => rfl⟩
  · exact ⟨rfl, rfl, fun h => absurd h ‹_›⟩

/-- A lost REFCLK shows. -/
def State.loseRefclk (s : State) (kind : Nat) : State := if kind = 3 then s.f CLK_STS_REFCLKOK 0 else s

theorem State.loseRefclk_effect (s : State) (kind : Nat) : (s.loseRefclk kind).icu = s.icu ∧ (s.loseRefclk kind).sys = s.sys ∧
    (kind = 3 → (s.loseRefclk kind).on CLK_STS_REFCLKOK = false) := by
  unfold State.loseRefclk
  split
  · exact ⟨rfl, rfl, fun _ => s.on_f_self (f := CLK_STS_REFCLKOK) (by decide) false⟩
  · exact ⟨rfl, rfl, fun h => absurd h ‹_›⟩

theorem hostLinkReset_eq {s : State} {kind : Nat} (h : s.sys.hostLink = true ∨ kind = 0) :
    exec (.hostLinkReset kind) s = .next (((s.flr.clearLink kind).loseRefclk kind).setHostLink (kind == 1)) := by
  show execHostLinkReset kind s = _
  unfold execHostLinkReset
  rw [if_neg]
  · rfl
  · rintro ⟨hdown, hkind⟩
    rcases h with h | h
    · rw [h] at hdown
      exact absurd hdown (by decide)
    · exact hkind h

/-! Ports on and off. -/

theorem State.pcfg_ready {v : Word} (h : wbit v 4 = false ∨ wbits v 2 1 ≠ 1) : ¬ (wbit v 4 = true ∧ wbits v 2 1 = 1) := by
  rintro ⟨h4, h21⟩
  rcases h with h | h
  · rw [h4] at h
    exact absurd h (by decide)
  · exact h h21

theorem State.pcfg_en (s : State) (p : Nat) (v : Word) : (s.store rBND_PCFG p 0 v).on (BND_PCFG_EN p) = wbit v 0 := by
  have hfield : ∃ f ∈ rBND_PCFG.fds, f.hi = 0 ∧ f.lo = 0 ∧ (f.acc = Acc.rw ∨ f.acc = Acc.rwl) := by decide
  rw [State.on, State.store_g (by decide) rfl hfield]
  show (wbits v 0 0 != 0) = wbit v 0
  rw [wbits_bit]
  cases wbit v 0 <;> rfl

theorem State.pcfgWrite_on {s : State} {p : Nat} {v : Word} (hen : wbit v 0 = true) (hwas : s.on (BND_PCFG_EN p) = false)
    (hmode : wbit v 4 = false ∨ wbits v 2 1 ≠ 1) (hstage : s.g BOOT_STS_STAGE = 9) (hp : p < 4) :
    s.pcfgWrite p v = ((s.store rBND_PCFG p 0 v).f (BND_PSTS_STATE p) bsTRAINING).trainFrom1 p := by
  have hstage' : (s.store rBND_PCFG p 0 v).g BOOT_STS_STAGE = 9 := (State.store_g_ne (by simp [rBND_PCFG, Reg.at]; omega) s v).trans hstage
  unfold State.pcfgWrite
  dsimp only
  rw [hwas, if_neg (fun h => absurd h.1 (by decide)), if_neg (State.pcfg_ready hmode), if_pos ⟨hen, by decide⟩, State.portOn,
    State.pcfg_en, hen, hstage']
  rfl

theorem State.pcfgWrite_off {s : State} {p : Nat} {v : Word} (hen : wbit v 0 = false) (hwas : s.on (BND_PCFG_EN p) = true)
    (hsame : wbits v 4 1 = wbits (s.rd (rBND_PCFG.at p 0)) 4 1) (hmode : wbit v 4 = false ∨ wbits v 2 1 ≠ 1) :
    s.pcfgWrite p v = (s.store rBND_PCFG p 0 v).portOff p := by
  unfold State.pcfgWrite
  dsimp only
  rw [if_neg (fun h => h.2 hsame), if_neg (State.pcfg_ready hmode), hen, if_neg (fun h => absurd h.1 (by decide)), if_pos ⟨by decide, hwas⟩]

/-! A lane that comes back. -/

theorem laneBack_lt (s : State) (p : Nat) {lane : Nat} (hlane : lane < 2) : Nat.lor (s.g (BND_PSTS_TRAINED p)) (2 ^ lane) < 4 :=
  lor_lt_of_lt (n := 2) (lt_of_lt_of_le (s.g_lt _) (by simp)) (by interval_cases lane <;> decide)

/-- What follows a lane that comes back, once TRAINED shows it. -/
def State.laneJoins (s : State) (p lane m : Nat) : State :=
  if s.g (BND_PCFG_MODE p) = 1 then
    if nbit m (s.port p).work then s
    else
      let was := s.timeLane p
      ((s.setPort p { s.port p with work := lane }).f (BND_PSTS_CARRY p) (2 ^ lane)).delayReset p was
  else
    let s := s.f (BND_PSTS_DEGRADED p) (b2n (m != 3))
    if s.on (BND_PSTS_SHEDONE p) && Nat.land m (s.g (BND_PSTS_CARRY p)) != 0 then s
    else
      let was := s.timeLane p
      (s.f (BND_PSTS_CARRY p) (if s.on (BND_PSTS_SHEDONE p) then 2 ^ lane else m)).delayReset p was

theorem State.laneJoins_trained (s : State) (p lane m : Nat) : (s.laneJoins p lane m).g (BND_PSTS_TRAINED p) = s.g (BND_PSTS_TRAINED p) := by
  have hdeg : ∀ v, (s.f (BND_PSTS_DEGRADED p) v).g (BND_PSTS_TRAINED p) = s.g (BND_PSTS_TRAINED p) := fun v =>
    State.g_f_apart s (by simp [Fld.fits]) v (.inr (.inl (by simp)))
  have hcarry : ∀ (t : State) v, (t.f (BND_PSTS_CARRY p) v).g (BND_PSTS_TRAINED p) = t.g (BND_PSTS_TRAINED p) := fun t v =>
    State.g_f_apart t (by simp [Fld.fits]) v (.inr (.inr (by simp)))
  unfold State.laneJoins
  dsimp only
  split_ifs
  · rfl
  · rw [State.delayReset_g, hcarry, State.setPort_g _ _ _ (.inr (.inl (by simp)))]
  · exact hdeg _
  · rw [State.delayReset_g, hcarry, hdeg]
  · rw [State.delayReset_g, hcarry, hdeg]

theorem laneRetrained_eq {s : State} {p lane : Nat} (hup : s.linkUp p = true) (hlane : nbit (s.g (BND_PSTS_TRAINED p)) lane = false)
    (hsingle : s.on (BND_PCFG_SINGLE p) = false) : exec (.laneRetrained p lane) s = .next
      ((s.f (BND_PSTS_TRAINED p) (Nat.lor (s.g (BND_PSTS_TRAINED p)) (2 ^ lane))).laneJoins p lane (Nat.lor (s.g (BND_PSTS_TRAINED p)) (2 ^ lane))) := by
  show execLaneRetrained p lane s = _
  unfold execLaneRetrained
  dsimp only
  rw [if_neg (by rw [hup, hlane, hsingle]; decide)]
  rfl

theorem nbit_two_pow (i : Nat) : nbit (2 ^ i) i = true := by
  rw [nbit_eq_testBit, Nat.testBit_two_pow_self]

/-- A lane that fails while it carries nothing, or as the last, only goes from TRAINED. -/
theorem laneFault_eq {s : State} {p lane rest : Nat} (hup : s.linkUp p = true) (hlane : nbit (s.g (BND_PSTS_TRAINED p)) lane = true)
    (hrest : s.g (BND_PSTS_TRAINED p) - b2n (nbit (s.g (BND_PSTS_TRAINED p)) lane) * 2 ^ lane = rest)
    (h : nbit (s.g (BND_PSTS_CARRY p)) lane = false ∨ rest = 0) :
    exec (.laneFault p lane) s = .next (s.f (BND_PSTS_TRAINED p) rest) := by
  have hcarry : (s.f (BND_PSTS_TRAINED p) rest).g (BND_PSTS_CARRY p) = s.g (BND_PSTS_CARRY p) :=
    State.g_f_apart s (by simp [Fld.fits]) _ (.inr (.inl (by simp)))
  show execLaneFault p lane s = _
  unfold execLaneFault
  dsimp only
  rw [if_neg (by rw [hup, hlane]; decide), hrest, hcarry]
  rcases h with h | h
  · rw [if_pos (by rw [h]; decide)]
  · rw [if_pos h, ite_self]

/-- A port in session control goes back to training. -/
def State.unHello (s : State) (p : Nat) : State := if s.g (BND_PSTS_STATE p) = bsHELLO then s.f (BND_PSTS_STATE p) bsTRAINING else s

theorem State.unHello_kept (s : State) (p : Nat) : (s.unHello p).time = s.time ∧ ∀ o, o ≠ 0x31904 + 0x100 * p → (s.unHello p).rd o = s.rd o := by
  unfold State.unHello
  split
  · exact ⟨rfl, fun _ h => State.rd_f_ne s _ h⟩
  · exact ⟨rfl, fun _ _ => rfl⟩

theorem trainingTimeout_eq {s : State} {p l : Nat} (hl : stepLimit (s.port p).step = some l) (hdue : (s.port p).stepAt + l < s.elapsed)
    (hup : s.linkUp p = false) : exec (.trainingTimeout p) s = .next (((s.unHello p).trainFrom1 p).inc (BND_PTRAINFAIL p)) := by
  show execTrainingTimeout p s = _
  unfold execTrainingTimeout
  rw [hl]
  exact congrArg Host.Outcome.next (if_pos ⟨hdue, by rw [hup]; decide⟩)

/-- Settles O47. -/
theorem lanesComplete : Obligations.LanesComplete := by
  unfold Obligations.LanesComplete
  refine ⟨fun s kind _ h => ?reset, fun s p v hp h hen hwas hmode hstage => ?enable, fun s p v hp h hen hwas hsame hmode => ?disable,
    fun s p mask hp hm hne hen hsingle hstep hmode => ?step1, fun s p mask hp hm hne hen hsingle hstep => ?step3,
    fun s p mask hp hm hne hen hsingle hstep => ?step4, fun s p l hp hl hdue hup => ?timeout, fun s p lane hp hlane hup htr hcarry => ?last,
    fun s p lane hp hlane hup htr hcarry => ?idle, fun s p lane hp hlane hup htr hsingle => ?back, fun s p hp hup => ?down⟩
  case reset =>
    obtain ⟨hlink, hicu, hcfg, hclk⟩ := State.setHostLink_effect ((s.flr.clearLink kind).loseRefclk kind) (kind == 1)
    obtain ⟨hicu', hsys', hclk'⟩ := State.loseRefclk_effect (s.flr.clearLink kind) kind
    obtain ⟨hmsix, hfmask, hspace⟩ := State.clearLink_effect s.flr kind
    refine completes (hostLinkReset_eq h) rfl ⟨hlink, ?_, ?_, fun hk => ?_, fun hk => hclk.trans (hclk' hk)⟩
    · rw [hicu, hicu', hmsix]
    · rw [hicu, hicu', hfmask]
    · rw [hcfg, hsys', hspace hk]
  case enable =>
    have hpass : ∀ f : Fld, f.apart (BND_PSTS_UNACK p) → f.apart (BND_PSTS_TRAINED p) → f.apart (BND_PSTS_CARRY p) →
        (((s.awake.store rBND_PCFG p 0 v).f (BND_PSTS_STATE p) bsTRAINING).trainFrom1 p).g f = ((s.awake.store rBND_PCFG p 0 v).f (BND_PSTS_STATE p) bsTRAINING).g f :=
      fun f h1 h2 h3 => State.trainFrom1_g _ p h1 h2 h3
    have hport := ((s.awake.store rBND_PCFG p 0 v).f (BND_PSTS_STATE p) bsTRAINING).trainFrom1_port p
    refine completes rfl ((State.barWrite_accepted h (by decide) _ _ _).trans (State.pcfgWrite_on hen hwas hmode hstage hp)) ⟨?_, ?_, ?_, ?_, ?_⟩
    · rw [hpass _ (.inr (.inl (by simp))) (.inr (.inl (by simp))) (.inr (.inl (by simp))), State.g_f_self _ (by simp [Fld.fits])]
      rfl
    · rw [hport]
    · rw [hport]
      exact State.elapsed_of_time rfl
    · rw [State.on, hpass _ (.inl (by simp)) (.inl (by simp)) (.inl (by simp)), State.g_f_apart _ (by simp [Fld.fits]) _ (.inl (by simp))]
      exact (State.pcfg_en _ p v).trans hen
    · exact State.trainFrom1_trained _ p
  case disable =>
    refine completes rfl ((State.barWrite_accepted h (by decide) _ _ _).trans (State.pcfgWrite_off hen hwas hsame hmode)) ⟨?_, ?_, ?_⟩
    · rw [State.portOff_eq]
      exact State.portClear_state _ p
    · rw [State.on, State.g_of_rd (f := BND_PCFG_EN p) (State.portOff_cfg _ hp)]
      exact (State.pcfg_en _ p v).trans hen
    · rw [State.portOff_eq, State.portClear_port]
  case step1 =>
    have hlow : Nat.lor (s.g CLK_STS_LANELOCK) (mask * 4 ^ p) < 2 ^ 8 :=
      lor_lt_of_lt (s.g_lt _) (by interval_cases p <;> omega)
    refine completes (State.stepDone_eq hm hne hen hsingle) ((if_pos hstep).trans (if_neg ?_)) ⟨?_, ?_⟩
    · rintro ⟨h0, -, h3⟩
      exact hmode.elim (fun h => h h0) h3
    · exact congrArg PortS.step (State.port_setPort_self _ _ _)
    · exact (State.setPort_g _ p _ (.inl (by simp; omega))).trans (State.g_f_lt s (by decide) hlow)
  case step3 =>
    refine completes (State.stepDone_eq hm hne hen hsingle) ((if_neg (by omega)).trans ((if_neg (by omega)).trans (if_pos hstep))) ⟨?_, ?_⟩
    · exact congrArg PortS.step (State.port_setPort_self _ _ _)
    · exact (State.setPort_g _ p _ (.inr (.inl (by simp)))).trans (State.g_f_lt s (by simp [Fld.fits]) (by simp; omega))
  case step4 =>
    rw [State.stepDone_eq hm hne hen hsingle, if_neg (by omega), if_neg (by omega), if_neg (by omega), if_pos hstep]
  case timeout =>
    refine completes (trainingTimeout_eq hl hdue hup) rfl ⟨?_, ?_, ?_⟩
    · rw [State.port_inc, State.trainFrom1_port]
    · rw [State.port_inc, State.trainFrom1_port]
      exact State.elapsed_of_time (s.unHello_kept p).1
    · rw [State.g_inc_word _ rfl rfl, State.trainFrom1_g _ _ (.inl (by simp)) (.inl (by simp)) (.inl (by simp)),
        State.g_of_rd ((s.unHello_kept p).2 _ (by simp))]
  case last =>
    exact laneFault_eq hup (htr ▸ nbit_two_pow lane) (by rw [htr, nbit_two_pow]; simp [b2n]) (.inr rfl)
  case idle =>
    exact laneFault_eq hup (by rw [htr]; interval_cases lane <;> decide) (by rw [htr]; interval_cases lane <;> decide) (.inl hcarry)
  case back =>
    have hkept := State.laneJoins_trained (s.f (BND_PSTS_TRAINED p) (Nat.lor (s.g (BND_PSTS_TRAINED p)) (2 ^ lane))) p lane
      (Nat.lor (s.g (BND_PSTS_TRAINED p)) (2 ^ lane))
    refine completes (laneRetrained_eq hup htr hsingle) rfl ⟨hkept.trans (State.g_f_lt s (by simp [Fld.fits]) ?_), fun hmode hwork => ?_⟩
    · exact lt_of_lt_of_eq (laneBack_lt s p hlane) (by simp)
    · refine (if_pos ?_).trans (if_pos ?_)
      · exact (State.g_f_apart s (by simp [Fld.fits]) _ (.inl (by simp))).trans hmode
      · rw [nbit_eq_testBit] at hwork ⊢
        show ((s.g (BND_PSTS_TRAINED p)) ||| (2 ^ lane)).testBit _ = true
        rw [Nat.testBit_or]
        exact Bool.or_eq_true_iff.2 (.inl hwork)
  case down =>
    have hheld := s.held_port p
    rw [← State.linkDown_port] at hheld
    obtain ⟨hat, hstep, hsplit, hretry⟩ := hheld
    refine completes rfl (if_pos hup) ⟨?_, hat, hstep, hsplit, hretry, ?_⟩
    · rw [State.linkDown_g _ _ (by simp; omega), State.held_state]
    · rw [State.linkDown_g _ _ (by simp; omega), State.held_count]

end Sys2Proof.Machine
end

section
/-! Flits and sessions (obligation O48). -/
set_option Elab.async false
namespace Sys2Proof.Machine

/-- Port 0 is up, has three flits to acknowledge, and nine flits of its next codeword gathered. -/
def State.nineGathered : State :=
  (({ State.reset with time := { State.reset.time with acc := 5000 * 2 ^ 32 } } : State).setPort 0
    { accSince := 3, code := List.replicate 9 [] }).f (BND_PSTS_STATE 0) bsACTIVE

/-- Refutes O48: the STATUS of the timer is the tenth flit of its codeword, so the codeword goes out after it. -/
theorem not_sessionsComplete : ¬ Obligations.SessionsComplete := by
  rintro ⟨-, -, -, -, -, hstatus, -⟩
  obtain ⟨t, hexec, -, -, x, hout⟩ := hstatus State.nineGathered 0 (by decide) (by decide +kernel) (by decide +kernel) (by decide +kernel)
  have htwo : t.out.length = 2 := by
    rw [← Host.Outcome.next.inj hexec]
    decide +kernel
  have hnone : State.nineGathered.out.length = 0 := by decide +kernel
  have hone : t.out.length = 1 := by rw [hout, List.length_cons, hnone]
  exact absurd (htwo.symm.trans hone) (by decide)

end Sys2Proof.Machine
end

section
/-! Messages between hubs (obligation O49). -/
set_option Elab.async false
namespace Sys2Proof.Machine

/-- The completion OK of the request of tag 1, from position 5. -/
def okAnswer : MsgS := { port := 0, cls := clsCPL, src := 5, bytes := List.replicate 12 0 ++ [1, 0, 16, 0] ++ [1, 0, 0, 0] ++ List.replicate 12 0, flits := 1 }

/-- The request of tag 1, sent twice, for the command in slot 3 of tenant 0. -/
def sentTwice : RemS := { tag := 1, tid := 0, slot := 3, dst := 5, body := [], at_ := 0, resent := true }

/-- The state with that command waiting, and an inbox. -/
def State.waitingFor (inbox : List MsgS) : State :=
  let s := State.reset.setTr 0 { State.reset.tr 0 with cmds := [{ slot := 3, desc := [], stage := 2, tag := some 1 }] }
  { s with rng := { s.rng with rems := [sentTwice] }, bnd := { s.bnd with inbox := inbox } }

/-- The commands of tenant 0 that ended, and whether a retry is noted. -/
def State.retryNotes (s : State) : List Bool := (s.tr 0).cmds.map fun c => (c.done.map DoneS.retried).getD false

/-- Refutes O49: a completion OK of a request that was sent twice is noted as retried (R21), which the statement leaves out. -/
theorem not_messagesComplete : ¬ Obligations.MessagesComplete := by
  rintro ⟨-, -, -, hcpl, -⟩
  have hexec := hcpl (State.waitingFor [okAnswer]) okAnswer ((State.waitingFor []).freeAt 0 (vcOf clsCPL) 1) sentTwice (by decide +kernel) (by decide +kernel)
  have hnotes := congrArg State.retryNotes (Host.Outcome.next.inj hexec)
  revert hnotes
  decide +kernel

end Sys2Proof.Machine
end

section
/-! Rounds of election (spec/16_roles_splits_and_recoupling.md R507-R513, R523, R524). -/
set_option Elab.async false
namespace Sys2Proof.Machine

/-! What goes out on a port changes registers of the ports alone. -/

/-- t holds the registers of s but those of the ports, and those at an offset that the status register of a port beyond the last would have. -/
structure PortsOnly (s t : State) : Prop where
  rd : ∀ o, (o < 0x31900 ∨ 0x31E00 ≤ o) ∧ o % 256 ≠ 4 → t.rd o = s.rd o

namespace PortsOnly

theorem refl (s : State) : PortsOnly s s := ⟨fun _ _ => rfl⟩

theorem trans {s t u : State} (h : PortsOnly s t) (h' : PortsOnly t u) : PortsOnly s u := ⟨fun o ho => (h'.rd o ho).trans (h.rd o ho)⟩

theorem of_regs {s t : State} (h : t.regs = s.regs) : PortsOnly s t := ⟨fun _ _ => by rw [State.rd, State.rd, h]⟩

theorem foldl {α : Type} {op : State → α → State} {l : List α} (hop : ∀ s, ∀ x ∈ l, PortsOnly s (op s x)) (s : State) : PortsOnly s (l.foldl op s) :=
  List.foldlRecOn (motive := fun t => PortsOnly s t) _ _ (refl s) fun t h x hx => h.trans (hop t x hx)

theorem g {s t : State} (h : PortsOnly s t) {f : Fld} (hf : (f.off < 0x31900 ∨ 0x31E00 ≤ f.off) ∧ f.off % 256 ≠ 4) : t.g f = s.g f := State.g_of_rd (h.rd _ hf)

theorem setPort (s : State) (p : Nat) (q : PortS) : PortsOnly s (s.setPort p q) :=
  ⟨fun o ho => (State.rd_f_ne _ _ (by simp; omega)).trans rfl⟩

theorem inc (s : State) {f : Fld} (h : 0x31900 ≤ f.off ∧ f.off < 0x31E00) : PortsOnly s (s.inc f) := ⟨fun _ ho => State.rd_f_ne s _ (by omega)⟩

theorem f (s : State) {f : Fld} (h : 0x31900 ≤ f.off ∧ f.off < 0x31E00) (v : Nat) : PortsOnly s (s.f f v) := ⟨fun _ ho => State.rd_f_ne s _ (by omega)⟩

theorem countStall {p : Nat} (hp : p < 4) (s : State) (vc : Nat) : PortsOnly s (State.countStall p s vc) := by
  unfold State.countStall
  dsimp only
  split
  · exact (setPort s p _).trans (inc _ (by simp; omega))
  · exact refl s

theorem emitFlit (s : State) (p sq : Nat) (x : FlitS) : PortsOnly s (s.emitFlit p sq x) := by
  unfold State.emitFlit State.putFlit
  dsimp only
  split <;> exact of_regs rfl

theorem sendFirst (s : State) {p : Nat} (hp : p < 4) (vc : Nat) : PortsOnly s (s.sendFirst p vc) := by
  unfold State.sendFirst
  dsimp only
  split
  · exact refl s
  · have hsent := fun q x => ((setPort s p q).trans (emitFlit _ p (s.port p).txNext x)).trans (inc _ (f := BND_PFLITTX p) (by simp; omega))
    split
    · exact (hsent _ _).trans (setPort _ _ _)
    · exact hsent _ _

theorem pumpN {p : Nat} (hp : p < 4) (n : Nat) : ∀ s, PortsOnly s (State.pumpN p n s) := by
  induction n with
  | zero => exact refl
  | succ n ih =>
    intro s
    rw [State.pumpN]
    split
    · split
      · exact (sendFirst s hp _).trans (ih _)
      · exact refl s
    · exact refl s

theorem pump (s : State) {p : Nat} (hp : p < 4) : PortsOnly s (s.pump p) :=
  (pumpN hp _ s).trans (foldl (fun s x _ => countStall hp s x) _)

theorem queueFlits (s : State) {p : Nat} (hp : p < 4) (l : List FlitS) : PortsOnly s (s.queueFlits p l) := by
  unfold State.queueFlits
  split
  · exact refl s
  · exact (setPort s p _).trans (pump _ hp)

theorem sendElect (s : State) {p : Nat} (hp : p < 4) (ty n : Nat) (b : List Nat) : PortsOnly s (s.sendElect p ty n b) := by
  unfold State.sendElect
  split
  · exact queueFlits s hp _
  · exact refl s

end PortsOnly

/-! A message of a round changes no round. -/

theorem State.sendElect_same' (s : State) (p ty n : Nat) (b : List Nat) : Same 8388642 s (s.sendElect p ty n b) :=
  State.sendElect_same s p ty n b (.refl 8388642) (.refl 8388642 s)

theorem State.sendElect_rol (s : State) (p ty n : Nat) (b : List Nat) : (s.sendElect p ty n b).rol = s.rol :=
  part_eq (s.sendElect_same' p ty n b).rol (by decide)

theorem State.sendElect_sys (s : State) (p ty n : Nat) (b : List Nat) : (s.sendElect p ty n b).sys = s.sys :=
  part_eq (s.sendElect_same' p ty n b).sys (by decide)

theorem State.mem_activePorts {s : State} {p : Nat} (h : p ∈ s.activePorts) : p < 4 := List.mem_range.1 (List.mem_filter.1 h).1

theorem State.mem_roundPorts {s : State} {p : Nat} (h : p ∈ s.roundPorts) : p < 4 := State.mem_activePorts (List.mem_filter.1 h).1

theorem PortsOnly.sendElects {op : Nat → Nat × Nat × List Nat} {l : List Nat} (hl : ∀ p ∈ l, p < 4) (s : State) :
    PortsOnly s (l.foldl (fun s p => s.sendElect p (op p).1 (op p).2.1 (op p).2.2) s) := .foldl (fun s p hp => .sendElect s (hl p hp) _ _ _) s

theorem State.sendElects_rol (op : Nat → Nat × Nat × List Nat) (l : List Nat) (s : State) :
    (l.foldl (fun s p => s.sendElect p (op p).1 (op p).2.1 (op p).2.2) s).rol = s.rol ∧
    (l.foldl (fun s p => s.sendElect p (op p).1 (op p).2.1 (op p).2.2) s).sys = s.sys :=
  List.foldlRecOn (motive := fun t : State => t.rol = s.rol ∧ t.sys = s.sys) l _ ⟨rfl, rfl⟩
    fun t h p _ => ⟨(State.sendElect_rol t p _ _ _).trans h.1, (State.sendElect_sys t p _ _ _).trans h.2⟩

/-! A round begins. -/

/-- The hub's own part in a round that it enters. -/
def State.ownRound (s : State) : RoundS :=
  { best := s.candidacy, own := s.candidacy, last := s.elapsed, ctState := s.g TIM_CTSTS_STATE, role := s.g ROL_STS_ROLE }

/-- The hub is in round n. -/
def State.inNew (s : State) (n : Nat) : State := ({ s with rol := { s.rol with round := n, cur := some s.ownRound } } : State).f ROL_STS_ELECTING 1

theorem State.inNew_rol (s : State) (n : Nat) : (s.inNew n).rol = { s.rol with round := n, cur := some s.ownRound } := State.f_rol _ _ _

theorem State.inNew_sys (s : State) (n : Nat) : (s.inNew n).sys = s.sys := State.f_sys _ _ _

theorem State.enterRound_eq (s : State) (n : Nat) :
    s.enterRound n = (s.inNew n).roundPorts.foldl (fun t p => t.sendElect p 1 n (s.candidacy.offer 0 p)) (s.inNew n) := rfl

theorem State.enterRound_rol (s : State) (n : Nat) : (s.enterRound n).rol = { s.rol with round := n, cur := some s.ownRound } ∧ (s.enterRound n).sys = s.sys := by
  rw [State.enterRound_eq]
  obtain ⟨hrol, hsys⟩ := State.sendElects_rol (fun p => (1, n, s.candidacy.offer 0 p)) (s.inNew n).roundPorts (s.inNew n)
  exact ⟨hrol.trans (s.inNew_rol n), hsys.trans (s.inNew_sys n)⟩

theorem State.enterRound_g (s : State) (n : Nat) {f : Fld} (hf : (f.off < 0x31900 ∨ 0x31E00 ≤ f.off) ∧ f.off % 256 ≠ 4) : (s.enterRound n).g f = (s.inNew n).g f := by
  rw [State.enterRound_eq]
  exact PortsOnly.g (PortsOnly.sendElects (op := fun p => (1, n, s.candidacy.offer 0 p)) (fun _ => State.mem_roundPorts) _) hf

theorem State.enterRound_electing (s : State) (n : Nat) : (s.enterRound n).on ROL_STS_ELECTING = true := by
  rw [State.on, State.enterRound_g _ _ (by decide), State.inNew, State.g_f_self _ (by decide)]
  rfl

/-! Rounds already entered. -/

/-- What the candidates of the round say of their epochs is kept. -/
def State.noteEpoch (s : State) (c : CandS) : State :=
  s.modRound fun r => { r with epochs := (r.epochs.filter fun x => x.1 != c.hubid) ++ [(c.hubid, c.epoch)] }

/-- The parent and the ports further down hear of the candidate. -/
def State.passOffer (s : State) (p n : Nat) (old : Option Nat) (c : CandS) (hops rootport : Nat) : State :=
  let s := s.sendElect p 2 n []
  let s := match old with
    | some q => if q = p then s else s.sendElect q 3 n []
    | none => s
  (s.roundPorts.filter fun q => q != p).foldl (fun s q => s.sendElect q 1 n (c.offer (hops + 1) rootport)) s

/-- The round with a candidate adopted from port p. -/
def RoundS.follow (r : RoundS) (c : CandS) (p hops rootport last : Nat) : RoundS :=
  { r with best := c, parent := some p, hops := hops + 1, rootport := rootport, last := last, reported := false }

theorem State.adoptCand_eq (s : State) (p n : Nat) (c : CandS) (hops rootport : Nat) : s.adoptCand p n c hops rootport =
    (s.modRound fun r => r.follow c p hops rootport s.elapsed).passOffer p n (s.rol.cur.bind fun r => r.parent) c hops rootport := rfl

theorem State.passOffer_rol (s : State) (p n : Nat) (old : Option Nat) (c : CandS) (hops rootport : Nat) :
    (s.passOffer p n old c hops rootport).rol = s.rol := by
  unfold State.passOffer
  dsimp only
  refine ((State.sendElects_rol (fun q => (1, n, c.offer (hops + 1) rootport)) _ _).1).trans ?_
  split
  · split
    · exact State.sendElect_rol _ _ _ _ _
    · exact (State.sendElect_rol _ _ _ _ _).trans (State.sendElect_rol _ _ _ _ _)
  · exact State.sendElect_rol _ _ _ _ _

theorem State.adoptCand_rol (s : State) (p n : Nat) (c : CandS) (hops rootport : Nat) : (s.adoptCand p n c hops rootport).rol =
    { s.rol with cur := s.rol.cur.map fun r => r.follow c p hops rootport s.elapsed } := by
  rw [State.adoptCand_eq, State.passOffer_rol]
  rfl

/-! What an ELECT message starts. -/

/-- The act of an ELECT message heard, if its round is not over. -/
theorem State.onElect_of_hears {s u : State} {ty p n : Nat} {b : List Nat} (h : s.Hears ty p n b u) (f : State → Nat → Nat → List Nat → State) :
    s.onElect ty f = if n < u.rol.round then u else f u p n b := by
  obtain ⟨hrun, hport, htake⟩ := h
  obtain ⟨⟨m, w⟩, htaken, heq⟩ := Option.map_eq_some_iff.1 htake
  obtain ⟨rfl, rfl, rfl, rfl⟩ : m.port = p ∧ leAt m.bytes 4 4 = n ∧ m.bytes.drop 8 = b ∧ w = u := by simpa using heq
  unfold State.onElect
  rw [hrun, htaken]
  dsimp only
  rw [hport]
  simp

theorem State.onElect_current {s u : State} {ty p n : Nat} {b : List Nat} (h : s.Hears ty p n b u) (hn : u.rol.round ≤ n)
    (f : State → Nat → Nat → List Nat → State) : s.onElect ty f = f u p n b := by
  rw [State.onElect_of_hears h, if_neg (by omega)]

theorem State.elapsed_of_hears {s u : State} {ty p n : Nat} {b : List Nat} (h : s.Hears ty p n b u) : u.elapsed = s.elapsed := by
  obtain ⟨-, -, htake⟩ := h
  obtain ⟨⟨m, w⟩, htaken, heq⟩ := Option.map_eq_some_iff.1 htake
  obtain ⟨-, -, -, rfl⟩ : m.port = p ∧ leAt m.bytes 4 4 = n ∧ m.bytes.drop 8 = b ∧ w = u := by simpa using heq
  exact State.elapsed_of_time (part_eq (State.takeMsg_same (.refl 8388610) (.refl 8388610 s) htaken).time (by decide))

theorem State.inNew_g (s : State) (n : Nat) {f : Fld} (hf : f.apart ROL_STS_ELECTING) : (s.inNew n).g f = s.g f :=
  (State.g_f_apart _ (by decide) _ hf).trans rfl

theorem State.startRound_g (s : State) {f : Fld} (hf : (f.off < 0x31900 ∨ 0x31E00 ≤ f.off) ∧ f.off % 256 ≠ 4) (h : f.apart ROL_STS_ELECTING) :
    s.startRound.g f = s.g f := (s.enterRound_g _ hf).trans (s.inNew_g _ h)

theorem State.startRound_round (s : State) : s.startRound.rol.round = s.rol.round + 1 := congrArg RolS.round (s.enterRound_rol _).1

/-! The host link comes up. -/

theorem State.announceAll_quiet (s : State) : Quiet s s.announceAll := by
  have hflush : ∀ (s : State) (k : Nat), Quiet s (s.flushMsix k) := by
    intro s k
    unfold State.flushMsix
    split
    · exact State.sendMsix_quiet s k (.refl s)
    · exact .refl s
  have hann : Quiet s ((List.range 32).foldl (State.announce true) s) :=
    List.foldlRecOn (motive := fun t => Quiet s t) _ _ (.refl s) fun t h k _ => State.announce_quiet true t k h
  unfold State.announceAll
  split
  · refine List.foldlRecOn (motive := fun t => Quiet s t) _ _ hann fun t h k _ => ⟨fun o ho => ?_⟩
    rw [(hflush t k).rd o ho, h.rd o ho]
  · exact .refl s

theorem State.announceAll_sys (s : State) : s.announceAll.sys = s.sys :=
  part_eq (State.announceAll_same s (.refl 546) (.refl 546 s)).sys (by decide)

/-- The link is up, and each target with a selected source is announced. -/
def State.linkHost (s : State) : State :=
  let s : State := { s with sys := { s.sys with hostLink := true, host := true, l2 := false, hostWake := false, peWake := false, isoAt := none } }
  ((s.f CLK_STS_REFCLKOK 1).showCapable).announceAll

theorem State.linkHost_sys (s : State) : s.linkHost.sys =
    { s.sys with hostLink := true, host := true, l2 := false, hostWake := false, peWake := false, isoAt := none } := State.announceAll_sys _

theorem State.linkHost_g (s : State) {f : Fld} (hf : Loud f.off) (hclk : f.apart CLK_STS_REFCLKOK) (hcap : f.apart ROL_STS_CAPABLE) :
    s.linkHost.g f = s.g f := by
  unfold State.linkHost
  dsimp only
  rw [(State.announceAll_quiet _).g hf, State.showCapable, State.g_f_apart _ (by decide) _ hcap, State.g_f_apart _ (by decide) _ hclk]
  rfl

theorem State.linkHost_refclk (s : State) : s.linkHost.on CLK_STS_REFCLKOK = true := by
  unfold State.linkHost
  dsimp only
  rw [State.on, (State.announceAll_quiet _).g (by decide), State.showCapable, State.g_f_apart _ (by decide) _ (.inl (by decide)), State.g_f_self _ (by decide)]
  rfl

theorem State.linkHost_mayElect (s : State) : s.linkHost.mayElect = s.mayElect := by
  rw [State.mayElect, State.mayElect, State.watchRuns, State.watchRuns, State.linkHost_sys, State.stage, State.stage,
    s.linkHost_g (by decide) (.inl (by decide)) (.inl (by decide))]

/-- The hub starts a round once its host link is up. -/
def State.hostElects (s : State) : Bool :=
  s.on ROL_CFG_RANK && s.mayElect && (s.g ROL_STS_ROLE == roleISOLATED || s.g ROL_STS_ROLE == roleACTING ||
    (s.g ROL_STS_ROLE == roleMEMBER && s.rol.lrole == roleACTING))

theorem hostLinkUp_eq {s : State} (hdown : s.sys.hostLink = false) (hstage : 4 ≤ s.g BOOT_STS_STAGE) (hpmic : s.sys.pmicEn = true) :
    exec .hostLinkUp s = .next (if s.linkHost.hostElects then s.linkHost.startRound else s.linkHost) := by
  show execHostLinkUp s = _
  unfold execHostLinkUp
  rw [if_neg]
  · rfl
  · rw [hdown, hpmic]
    simpa using hstage

/-! The round goes on. -/

theorem RoundS.takes_epochs (r : RoundS) (l : List (Nat × Nat)) (c : CandS) (hops rootport p : Nat) :
    ({ r with epochs := l } : RoundS).takes c hops rootport p = r.takes c hops rootport p := rfl

theorem State.noteEpoch_cur (s : State) (c : CandS) : (s.noteEpoch c).rol.cur = s.rol.cur.map fun r =>
    { r with epochs := (r.epochs.filter fun x => x.1 != c.hubid) ++ [(c.hubid, c.epoch)] } := rfl

/-- An OFFER after its epoch is noted. -/
def State.weighOffer (s : State) (p n : Nat) (b : List Nat) : State :=
  match s.rol.cur with
  | none => s
  | some r => if r.takes (candOf b) (leAt b 24 1) (leAt b 25 1 % 4) p then s.adoptCand p n (candOf b) (leAt b 24 1) (leAt b 25 1 % 4) else s

theorem State.weighOffer_of_takes {s : State} {p n : Nat} {b : List Nat} {r : RoundS} (hcur : s.rol.cur = some r)
    (h : r.takes (candOf b) (leAt b 24 1) (leAt b 25 1 % 4) p = true) :
    s.weighOffer p n b = s.adoptCand p n (candOf b) (leAt b 24 1) (leAt b 25 1 % 4) := by
  unfold State.weighOffer
  rw [hcur]
  exact if_pos h

theorem State.weighOffer_rol (s : State) (p n : Nat) (b : List Nat) (h : s.rol.cur.isSome = true) : (s.weighOffer p n b).rol.round = s.rol.round ∧
    (s.weighOffer p n b).rol.cur.isSome = true := by
  obtain ⟨r, hr⟩ := Option.isSome_iff_exists.1 h
  by_cases htakes : r.takes (candOf b) (leAt b 24 1) (leAt b 25 1 % 4) p = true
  · rw [State.weighOffer_of_takes hr htakes, State.adoptCand_rol, hr]
    exact ⟨rfl, rfl⟩
  · have heff : s.weighOffer p n b = s := by
      unfold State.weighOffer
      rw [hr]
      exact if_neg htakes
    rw [heff]
    exact ⟨rfl, h⟩

theorem PortsOnly.passOffer (s : State) {p : Nat} (hp : p < 4) (n : Nat) (c : CandS) (hops rootport : Nat) :
    PortsOnly s (s.passOffer p n none c hops rootport) :=
  (PortsOnly.sendElect s hp 2 n []).trans (.sendElects (op := fun _ => (1, n, c.offer (hops + 1) rootport))
    (fun _ hq => State.mem_roundPorts (List.mem_filter.1 hq).1) _)

/-- The offer of a higher round leaves the hub electing, whatever it offers. -/
theorem State.weighOffer_electing {s : State} {p n : Nat} {b : List Nat} {r : RoundS} (hcur : s.rol.cur = some r) (hr : r.parent = none) (hp : p < 4) :
    (s.weighOffer p n b).on ROL_STS_ELECTING = s.on ROL_STS_ELECTING := by
  unfold State.weighOffer
  rw [hcur]
  dsimp only
  split
  · rw [State.adoptCand_eq, hcur, Option.bind_some, hr, State.on, (PortsOnly.passOffer _ hp n _ _ _).g (by decide)]
    rfl
  · rfl

theorem State.lt_of_hears {s u : State} {ty p n : Nat} {b : List Nat} (h : s.Hears ty p n b u) : p < 4 :=
  State.mem_roundPorts (List.contains_iff_mem.1 h.2.1)

theorem State.inRound_of {s : State} {n : Nat} {r : RoundS} (hn : s.rol.round = n) (hcur : s.rol.cur = some r) : s.inRound n = true := by
  rw [State.inRound, hn, hcur]
  simp

theorem State.sendElect_keeps (s : State) (p ty n : Nat) (b : List Nat) {r : RolS} (h : s.rol = r) : (s.sendElect p ty n b).rol = r :=
  (s.sendElect_rol p ty n b).trans h

/-- The round with the report of the child at port p. -/
def RoundS.reportOf (p : Nat) (l : List RepS) (r : RoundS) : RoundS :=
  { r with children := r.children.map fun c => if c.port = p then { c with report := some l } else c }

theorem RoundS.reportOf_report {r : RoundS} {p : Nat} {l : List RepS} {c : ChildS} (h : c ∈ (r.reportOf p l).children) (hc : c.port = p) :
    c.report = some l := by
  obtain ⟨d, -, rfl⟩ := List.mem_map.1 h
  split at hc
  case isTrue hd => rw [if_pos hd]
  case isFalse hd => exact absurd hc hd

theorem RoundS.reportOf_ports (r : RoundS) (p : Nat) (l : List RepS) : (r.reportOf p l).children.map ChildS.port = r.children.map ChildS.port := by
  rw [RoundS.reportOf, List.map_map]
  refine List.map_congr_left fun c _ => ?_
  show ChildS.port (if c.port = p then _ else c) = c.port
  split <;> rfl

/-- The round with the DIRACK of the child at port p. -/
def RoundS.acked (r : RoundS) (p : Nat) : RoundS :=
  { r with children := r.children.map fun c => if c.port = p then { c with acked := true } else c }

/-- The REPORT goes up to port p. -/
def State.sendReport (s : State) (r : RoundS) (p : Nat) : State :=
  (s.modRound fun r => { r with reported := true }).sendElect p 4 s.rol.round
    ([((s.ownRep r :: r.reports).take 16).length, 0, 0, 0, 0, 0, 0, 0] ++ (((s.ownRep r :: r.reports).take 16).map RepS.bytes).flatten)

theorem settleExpiry_eq {s : State} {r : RoundS} (hrun : s.hkRuns = true) (hcur : s.rol.cur = some r) (hrep : r.reported = false)
    (had : r.adopted = false) (hlast : r.last + 1000000 ≤ s.elapsed) (hall : (r.children.all fun c => c.report.isSome) = true) :
    exec .settleExpiry s = .next (match r.parent with
      | none => s.lead r
      | some p => s.sendReport r p) := by
  show execSettleExpiry s = _
  unfold execSettleExpiry
  rw [hcur]
  refine congrArg Host.Outcome.next (if_neg ?_)
  rw [hrun, hrep, had, hall]
  simp
  omega

theorem State.ackUp_electing (s : State) (r : RoundS) : (s.ackUp r).g ROL_STS_ELECTING = 0 :=
  (State.g_f_self _ (f := ROL_STS_ELECTING) (by decide) 0).trans rfl

theorem State.endLead_electing (s : State) : s.endLead.g ROL_STS_ELECTING = 0 := by
  have h : s.endLead.g ROL_STS_ELECTING = ((s.f ROL_STS_ELECTING 0).inc ROL_ELECTS).g ROL_STS_ELECTING := rfl
  have hinc : ((s.f ROL_STS_ELECTING 0).inc ROL_ELECTS).g ROL_STS_ELECTING = (s.f ROL_STS_ELECTING 0).g ROL_STS_ELECTING :=
    State.g_of_rd (State.rd_f_ne (f := ROL_ELECTS) _ _ (by decide))
  rw [h, hinc, State.g_f_self s (by decide)]
  rfl

theorem State.endLead_elects (s : State) : s.endLead.g ROL_ELECTS = min (s.g ROL_ELECTS + 1) (2 ^ 32 - 1) := by
  have h : s.endLead.g ROL_ELECTS = ((s.f ROL_STS_ELECTING 0).inc ROL_ELECTS).g ROL_ELECTS := rfl
  rw [h, State.g_inc_word _ rfl rfl, State.g_f_apart _ (by decide) _ (.inl (by decide))]

/-- Where the leader's round stands after a DIRACK. -/
def State.ended (s : State) (cur : Option RoundS) : State :=
  match cur with
  | none => s
  | some r =>
    if !r.adopted ∨ !r.children.all (fun c => c.acked) then s
    else if r.parent.isNone then s.endLead else s.ackUp r

theorem State.linkHost_rol (s : State) : s.linkHost.rol = s.rol :=
  (part_eq (State.announceAll_same _ (.refl 546) (.refl 546 _)).rol (by decide)).trans rfl

/-- Settles O50. -/
theorem electionsComplete : Obligations.ElectionsComplete := by
  unfold Obligations.ElectionsComplete
  refine ⟨fun s u p n b h hn => ?low, fun s u p n b h hn => ?high, fun s u p n b r h hn hcur htakes => ?better,
    fun s u p n b r h hn hcur hrep had => ?attach, fun s u p n b r h hn hcur hrep => ?late, fun s u p n b r h hn hcur => ?detach,
    fun s u p n b r h hn hcur hchild => ?report, fun s r p hrun hcur hrep had hlast hall hpar => ?settle,
    fun s r hrun hcur hrep had hlast hall hpar => ?lead, fun s u p n b r h hn hcur hpar had hch => ?directory,
    fun s u p n b r h hn hcur hep had hall hpar => ?dirack, fun s h hmay hrole => ?reelect, fun s hdown hstage hpmic => ?host,
    fun s p x hp hat hst hdone hdue htree hmay => ?split, fun s p x hp hat hst hdue hstep => ?retry, fun s p x hp hat hdorm hdue hmay => ?dormant⟩
  case low =>
    exact congrArg Host.Outcome.next ((State.onElect_of_hears h _).trans (if_pos hn))
  case high =>
    have hcur : ((u.enterRound n).noteEpoch (candOf b)).rol.cur = some { u.ownRound with epochs := [((candOf b).hubid, (candOf b).epoch)] } := by
      rw [State.noteEpoch_cur, (u.enterRound_rol n).1]
      rfl
    have heff : execOffer s = .next (((u.enterRound n).noteEpoch (candOf b)).weighOffer p n b) := by
      refine congrArg Host.Outcome.next ((State.onElect_current h (by omega) _).trans ?_)
      dsimp only
      rw [if_pos hn]
      rfl
    obtain ⟨hround, hsome⟩ := ((u.enterRound n).noteEpoch (candOf b)).weighOffer_rol p n b (by rw [hcur]; rfl)
    refine completes heff rfl ⟨hround.trans ?_, hsome, ?_⟩
    · exact congrArg RolS.round (u.enterRound_rol n).1
    · exact (State.weighOffer_electing hcur rfl (State.lt_of_hears h)).trans (u.enterRound_electing n)
  case better =>
    have hcur' := u.noteEpoch_cur (candOf b)
    rw [hcur, Option.map_some] at hcur'
    have heff : execOffer s = .next ((u.noteEpoch (candOf b)).weighOffer p n b) := by
      refine congrArg Host.Outcome.next ((State.onElect_current h hn.le _).trans ?_)
      dsimp only
      rw [if_neg (by omega)]
      rfl
    rw [State.weighOffer_of_takes hcur' htakes] at heff
    have hrol := (u.noteEpoch (candOf b)).adoptCand_rol p n (candOf b) (leAt b 24 1) (leAt b 25 1 % 4)
    rw [hcur', Option.map_some] at hrol
    refine ⟨_, _, heff, ?_, congrArg RolS.cur hrol, rfl, rfl, rfl, rfl, ?_, rfl⟩
    · exact (congrArg RolS.round hrol).trans hn
    · exact (State.elapsed_of_time (s := u) (t := u.noteEpoch (candOf b)) rfl).trans (State.elapsed_of_hears h)
  case attach =>
    have heff : execAttach s = .next (u.modRound fun r => { r with
        children := (r.children.filter fun c => c.port != p) ++ [{ port := p }], last := u.elapsed }) := by
      refine congrArg Host.Outcome.next ((State.onElect_current h hn.le _).trans ?_)
      rw [if_neg (by omega), hcur]
      dsimp only
      rw [hrep, had]
      rfl
    refine completes heff rfl ⟨?_, rfl⟩
    rw [State.modRound, hcur, State.elapsed_of_hears h]
    rfl
  case late =>
    have heff : execAttach s = .next u.startRound := by
      refine congrArg Host.Outcome.next ((State.onElect_current h hn.le _).trans ?_)
      rw [if_neg (by omega), hcur]
      exact if_pos (.inl hrep)
    exact completes heff rfl ⟨u.startRound_round.trans (by rw [hn]), u.enterRound_electing _⟩
  case detach =>
    have heff : execDetach s = .next (u.modRound fun r => { r with children := r.children.filter fun c => c.port != p, last := u.elapsed }) := by
      refine congrArg Host.Outcome.next ((State.onElect_current h hn.le _).trans (if_neg ?_))
      rw [State.inRound_of hn hcur]
      decide
    refine completes heff rfl ⟨?_, rfl⟩
    rw [State.modRound, hcur, State.elapsed_of_hears h]
    rfl
  case report =>
    have heff : execReport s = .next (u.modRound (RoundS.reportOf p ((entriesOf 40 (min 16 (leAt b 0 1)) (b.drop 8)).map repOf))) := by
      refine congrArg Host.Outcome.next ((State.onElect_current h hn.le _).trans (if_neg ?_))
      rw [State.inRound_of hn hcur]
      decide
    refine ⟨_, r.reportOf p ((entriesOf 40 (min 16 (leAt b 0 1)) (b.drop 8)).map repOf), heff, ?_, fun c hc hcp => ?_, ?_, rfl⟩
    · rw [State.modRound, hcur]
      rfl
    · exact RoundS.reportOf_report hc hcp
    · exact RoundS.reportOf_ports r p _
  case settle =>
    have heff : exec .settleExpiry s = .next (s.sendReport r p) := by rw [settleExpiry_eq hrun hcur hrep had hlast hall, hpar]
    refine completes heff rfl ⟨?_, ?_⟩
    · rw [State.sendReport, State.sendElect_rol, State.modRound, hcur]
      rfl
    · rw [State.sendReport, State.sendElect_rol]
      rfl
  case lead =>
    have heff := settleExpiry_eq hrun hcur hrep had hlast hall
    rw [hpar] at heff
    exact heff
  case directory =>
    have heff : execDirectory s = .next ((u.adoptDir r (leAt b 0 8) (leAt b 8 4) (leAt b 12 4) (leAt b 17 1)
        ((entriesOf 32 (min 16 (leAt b 18 1)) (b.drop 24)).map dirOf) false).ackUp r) := by
      refine congrArg Host.Outcome.next ((State.onElect_current h hn.le _).trans ?_)
      dsimp only
      rw [hcur]
      refine (if_neg ?_).trans ?_
      · rw [hn, hpar, had]
        simp
      · rw [hch]
        rfl
    exact completes heff rfl ⟨rfl, State.ackUp_electing _ r⟩
  case dirack =>
    have hacked : (r.acked p).children.all (fun c => c.acked) = true := by
      refine List.all_eq_true.2 fun c hc => ?_
      obtain ⟨d, hd, rfl⟩ := List.mem_map.1 hc
      by_cases hp : d.port = p
      · rw [if_pos hp]
      · have := List.all_eq_true.1 hall d hd
        rw [if_neg hp]
        simpa [hp] using this
    have heff : execDirack s = .next (u.modRound fun r => r.acked p).endLead := by
      refine congrArg Host.Outcome.next ((State.onElect_current h hn.le _).trans ((if_neg ?_).trans ?_))
      · rw [State.inRound_of hn hcur, hep]
        simp
      · show State.ended (u.modRound fun r => r.acked p) (u.modRound fun r => r.acked p).rol.cur = _
        have hcur' : (u.modRound fun r => r.acked p).rol.cur = some (r.acked p) := by
          rw [State.modRound, hcur]
          rfl
        rw [hcur']
        refine (if_neg ?_).trans (if_pos ?_)
        · rw [hacked, show (r.acked p).adopted = true from had]
          decide
        · rw [show (r.acked p).parent = none from hpar]
          rfl
    refine completes heff rfl ⟨rfl, State.endLead_electing _, ?_⟩
    exact State.endLead_elects _
  case reelect =>
    have heff : s.awake.rolCtlWrite 1 = s.awake.startRound := by
      unfold State.rolCtlWrite
      dsimp only
      rw [if_neg (show ¬ wbit 1 1 = true by decide), if_pos (show wbit 1 0 = true by decide), if_neg (by tauto), if_pos hmay]
    exact completes rfl ((State.barWrite_accepted h (by decide) _ _ _).trans heff) ⟨rfl, State.startRound_round _⟩
  case host =>
    have hsys : (if s.linkHost.hostElects then s.linkHost.startRound else s.linkHost).sys = s.linkHost.sys := by
      split
      · exact (s.linkHost.enterRound_rol _).2
      · rfl
    refine completes (hostLinkUp_eq hdown hstage hpmic) rfl ⟨?_, ?_, ?_, ?_, fun hrank hmay hrole => ?_⟩
    · rw [hsys, State.linkHost_sys]
    · rw [hsys, State.linkHost_sys]
    · rw [hsys, State.linkHost_sys]
    · refine Eq.trans ?_ s.linkHost_refclk
      split
      · rw [State.on, State.startRound_g _ (by decide) (.inl (by decide)), State.on]
      · rfl
    · have helects : s.linkHost.hostElects = true := by
        rw [State.hostElects, State.linkHost_mayElect, hmay, State.on, s.linkHost_g (by decide) (.inl (by decide)) (.inl (by decide)),
          s.linkHost_g (f := ROL_STS_ROLE) (by decide) (.inl (by decide)) (.inr (.inl (by decide))), hrole, ← State.on, hrank]
        rfl
      rw [if_pos helects, State.startRound_round]
      exact congrArg (fun r : RolS => r.round + 1) s.linkHost_rol
  case split =>
    have hexec : exec (.splitHoldExpiry p) s = .next ((s.setPort p { s.port p with splitDone := true }).inc ROL_SPLITS).startRound := by
      show execSplitHoldExpiry p s = _
      unfold execSplitHoldExpiry
      dsimp only
      rw [hat]
      exact congrArg Host.Outcome.next (if_pos ⟨hst, by rw [hdone]; rfl, hdue, htree, hmay⟩)
    refine completes hexec rfl ⟨?_, ?_⟩
    · rw [State.startRound_round, State.inc_rol, State.setPort_rol]
    · rw [State.startRound_g _ (by decide) (.inl (by decide)), State.g_inc_word _ rfl rfl, State.setPort_g _ _ _ (.inl (by simp; omega))]
  case retry =>
    show execRetryHoldExpiry p s = _
    unfold execRetryHoldExpiry
    dsimp only
    rw [hat]
    refine congrArg Host.Outcome.next ((if_pos ⟨hst, hdue⟩).trans (if_neg hstep))
  case dormant =>
    have hexec : exec (.retryHoldExpiry p) s = .next ((s.setPort p { s.port p with dormantAt := none }).startRound) := by
      show execRetryHoldExpiry p s = _
      unfold execRetryHoldExpiry
      dsimp only
      rw [hat, hdorm]
      exact congrArg Host.Outcome.next (if_pos ⟨hdue, hmay⟩)
    refine completes hexec rfl ?_
    rw [State.startRound_round, State.setPort_rol]

end Sys2Proof.Machine
end

section
/-! Configuration between hubs (obligation O51). -/
set_option Elab.async false
namespace Sys2Proof.Machine

/-- COMMIT of TAG 7 from the keystone at position 5. -/
def commitMsg : MsgS := { port := 0, cls := clsCONFIG, src := 5, bytes := List.replicate 12 0 ++ [cfCOMMIT, 0, 8, 0] ++ [7, 0, 0, 0, 0, 0, 0, 0], flits := 1 }

/-- A member whose state transfer was cut, with a binding prepared, and an inbox. -/
def State.cutMember (inbox : List MsgS) : State :=
  { State.reset with
    rol := { State.reset.rol with dir := [{ pos := 5, flags := 0, parent := 5, cport := 0, pport := 0, rank := 0, hubid := 9, bootcnt := 0, gen := 0 }], lrole := roleKEYSTONE, cutXfer := true, prepared := some (5, 2, 1, []) }
    bnd := { State.reset.bnd with inbox := inbox } }

/-- The commit has been taken off the inbox. -/
def State.afterCommit : State := (State.cutMember []).freeAt 0 (vcOf clsCONFIG) 1

/-- Refutes O51: a commit ends the cut of a transfer that was being received (R531), which the statement leaves standing. -/
theorem not_configExchangesComplete : ¬ Obligations.ConfigExchangesComplete := by
  rintro ⟨-, -, -, -, -, hcommit, -⟩
  have hexec := hcommit (State.cutMember [commitMsg]) commitMsg State.afterCommit 5 2 1 []
    ((({ State.afterCommit with rol := { State.afterCommit.rol with prepared := none } } : State).newGen 1).applyBind (bindOf []))
    (by decide +kernel) (by decide +kernel) rfl
  have hcut := congrArg (fun s : State => s.rol.cutXfer) (Host.Outcome.next.inj hexec)
  revert hcut
  decide +kernel

end Sys2Proof.Machine
end

section
/-! The store (obligation O55). -/
set_option Elab.async false
namespace Sys2Proof.Machine

/-- The first program of a checkpoint's life record, on its retry, in block 3. -/
def retriedLife : NvOpS := { region := 4, lblk := 0, what := .life 1, retried := true, tgt := some 3 }

/-- A hub that programs it. -/
def State.retrying : State :=
  let s := State.reset.f BOOT_STS_STAGE 8
  { s with nvs := { s.nvs with ops := [retriedLife] } }

/-- What the store's operations note of retries. -/
def State.redos (s : State) : List Bool := s.nvs.ops.map NvOpS.redone

/-- Refutes O55: a first phase that passes on its retry notes the retry with the operation (R15, R614), which the statement leaves out. -/
theorem not_storeCompletes : ¬ Obligations.StoreCompletes := by
  rintro ⟨-, -, -, -, -, -, hdone, -⟩
  obtain ⟨t, hexec, hops, -⟩ := hdone State.retrying retriedLife [] 3 rfl rfl rfl (by decide +kernel) (by decide +kernel) (by decide +kernel)
  have hnoted : t.redos = [true] := by
    rw [← Host.Outcome.next.inj hexec]
    decide +kernel
  have hnone : t.redos = [false] := by
    rw [State.redos, hops]
    rfl
  exact absurd (hnoted.symm.trans hnone) (by decide)

end Sys2Proof.Machine
end

section
/-! The end of a wake (obligation O53). -/
set_option Elab.async false
namespace Sys2Proof.Machine

/-- A machine table of one state, whose only transition always fires, stays in the state and takes the table's only action, WAKE. -/
def wakeTable : List Nat := [1, 1, 0, 1] ++ List.replicate 32 0 ++ [0xFE, 0, 0, 1] ++ List.replicate 28 0xFF ++ [7, 0, 0, 0, 0, 0, 0, 0]

/-- A recognizer of it that the stage had suspended. -/
def suspendedWaker : InstS := { mt := 0, cls := 0, watch := false, owner := 0, ins := [], tgts := [], pars := [], mode := 1 }

/-- A hub in the last step of a wake, with an entry to WATCH requested, and with recognizers among its wake sources. -/
def State.wakingAgain : State :=
  let s := (State.reset.f BOOT_STS_STAGE 9).f PWR_WAKECFG_EN 0x10
  { s with sys := { s.sys with wake := 4, entry := some { target := .watch, step := 2, t0 := 0 } }
           rcg := { s.rcg with tables := ⟨[(0, wakeTable)]⟩, insts := [(0, suspendedWaker)] } }

/-- Refutes O53: the recognizer that goes on as the core takes over from the watch engine may take a WAKE action, and a hub that is entering another state
latches it (R595), after the latch of the wake before was cleared. -/
theorem not_powerStatesComplete : ¬ Obligations.PowerStatesComplete := by
  rintro ⟨-, -, -, -, -, -, -, -, -, -, -, -, -, -, -, -, -, hwake, -⟩
  obtain ⟨t, hexec, -, hlatch, -⟩ := hwake State.wakingAgain rfl rfl
  have hlatched : t.sys.wakeLatch = 0x10 := by
    rw [← Host.Outcome.next.inj hexec]
    decide +kernel
  exact absurd (hlatch.symm.trans hlatched) (by decide)

end Sys2Proof.Machine
end

section
/-! The endpoint tables (obligation O41). -/
set_option Elab.async false
namespace Sys2Proof.Machine

/-! What shows the state of a load, of a store and of the switch. -/

theorem State.setStaged_sw (s : State) (img : List Nat) {st : Nat} (h : st < 8) : (s.setStaged img st).sw = st :=
  State.g_f_lt _ (by decide) h

theorem State.raiseHub_sw (s : State) (h : Nat) : (s.raiseHub h).sw = s.sw := State.raiseHub_g s h (by decide)

theorem State.discard_ldctl_g (s : State) (code : Nat) {f : Fld} (hf : Loud f.off) (he : f.off ≠ 0x32C00) :
    (s.discard rEPT_LDCTL 0 0 code).g f = s.g f := State.err_g s _ _ _ hf he

theorem State.discard_ept (s : State) (r : Reg) (i j code : Nat) : (s.discard r i j code).ept = s.ept :=
  part_eq (State.discard_same s r i j code (.refl 546) (.refl 546 s)).ept (by decide)

theorem State.loadErr_ept (s : State) (l : LoadS) (b : List Nat) : (s.loadErr l b).ept = s.ept := by
  unfold State.loadErr
  dsimp only
  split
  · exact part_eq (State.err_same s _ _ _ (.refl 546) (.refl 546 s)).ept (by decide)
  · rfl

theorem State.showNvs_sw (s : State) : s.showNvs.sw = s.sw := State.g_f_apart s (by decide) _ (by decide)

/-! A store ends. -/

theorem FieldKept.hubLasting (s : State) (status : Nat) : FieldKept s (s.hubLasting status) := (f s (by decide) _).trans (routeEv _ _ _ _)

/-- What the store shows of a region's wear, before its interrupt. -/
def State.showWorn (s : State) (l : List Nat) : State := l.foldl (fun s k => (s.f (rgnFld k 31 31) 1).f ⟨NVS_STS_WORN.off, k, k⟩ 1) s

theorem State.setWorn_one (s : State) {r : Nat} (hr : r ≠ 0) (h : s.rgnWorn r = false) :
    s.setWorn r = ((s.showWorn [r]).raiseHub srcNVM).hubLasting NVM_WORN := by
  unfold State.setWorn
  rw [if_neg (by rw [h]; decide), if_neg hr]
  dsimp only
  rw [if_neg hr]
  rfl

/-- A worn region is shown so. -/
theorem State.setWorn_worn (s : State) {r : Nat} (hr : 0 < r ∧ r < 8) : (s.setWorn r).rgnWorn r = true := by
  cases h : s.rgnWorn r with
  | true =>
    unfold State.setWorn
    rw [if_pos h, h]
  | false =>
    rw [State.setWorn_one s (by omega) h]
    refine (((FieldKept.raiseHub _ srcNVM).trans (.hubLasting _ _)).on (f := rgnFld r 31 31) (by simp [rgnFld, InField]; omega)).trans ?_
    exact (State.on_f_apart _ (by simp [Fld.fits]; omega) 1 (.inl (by simp [rgnFld]; omega))).trans (State.on_f_self _ (by simp [rgnFld, Fld.fits]) true)

theorem State.setWorn_sw (s : State) {r : Nat} (hr : 0 < r ∧ r < 8) : (s.setWorn r).sw = s.sw := by
  cases h : s.rgnWorn r with
  | true =>
    unfold State.setWorn
    rw [if_pos h]
  | false =>
    rw [State.setWorn_one s (by omega) h]
    refine (((FieldKept.raiseHub _ srcNVM).trans (.hubLasting _ _)).g (f := EPT_SWSTS_STATE) (by decide)).trans ?_
    exact (State.g_f_apart _ (by simp [Fld.fits]; omega) 1 (.inl (by simp))).trans (State.g_f_apart _ (by simp [rgnFld, Fld.fits]) 1 (.inl (by simp [rgnFld]; omega)))

theorem State.setWorn_ept (s : State) (r : Nat) : (s.setWorn r).ept = s.ept :=
  part_eq (State.setWorn_same s r (.refl 12583458) (.refl 12583458 s)).ept (by decide)

/-! The switch. -/

theorem State.attach_banks (s : State) (img : List Nat) :
    (s.attach img).regs = s.regs ∧ (s.attach img).ept = { s.ept with recs := (s.attach img).ept.recs, oldRecs := (s.attach img).ept.oldRecs } := by
  unfold State.attach
  refine List.foldlRecOn (motive := fun t : State => t.regs = s.regs ∧ t.ept = { s.ept with recs := t.ept.recs, oldRecs := t.ept.oldRecs }) _ _
    ⟨rfl, rfl⟩ fun t h a _ => ?_
  obtain ⟨hregs, hept⟩ := h
  dsimp only
  split
  · exact ⟨hregs, hept⟩
  · refine ⟨hregs, ?_⟩
    dsimp only [State.setEp]
    rw [hept]

/-- The banks as a switch takes effect, before its attachments are applied. -/
def State.banked (s : State) (ago : Nat) : State :=
  { s with ept := { s.ept with
      active := s.ept.staged, staged := [], old := s.ept.active, cans := imgCans s.ept.staged, oldCans := s.ept.cans, oldRecs := []
      retireAt := s.elapsed + 1000000 * s.g EPT_CFG_RETIREHOLD - ago
      oldTags := s.rng.tags
      waitEps := s.srcEps fun r => formless r.src } }

/-- What the registers show of it. -/
def State.retiring (s : State) (ago : Nat) : State :=
  ((((s.banked ago).attach s.ept.staged).f EPT_ACTGEN (imgGen s.ept.staged)).f EPT_STGGEN (imgGen s.ept.active)).f EPT_SWSTS_STATE swRETIRING

/-- LATE among it. -/
def State.switched (s : State) (late : Bool) (ago : Nat) : State := if late then (s.retiring ago).f EPT_SWSTS_LATE 1 else s.retiring ago

theorem State.switchEffect_eq (s : State) (late : Bool) (ago : Nat) :
    s.switchEffect late ago = (s.switched late ago).event 377 (if late then (s.switched late ago).ct else s.ept.swct) := rfl

theorem State.retiring_ept (s : State) (ago : Nat) : (s.retiring ago).ept = ((s.banked ago).attach s.ept.staged).ept := by
  rw [State.retiring, State.f_ept, State.f_ept, State.f_ept]

theorem State.switched_ept (s : State) (late : Bool) (ago : Nat) : (s.switched late ago).ept = (s.retiring ago).ept := by
  unfold State.switched
  split
  · exact State.f_ept _ _ _
  · rfl

theorem State.retiring_sw (s : State) (ago : Nat) : (s.retiring ago).sw = swRETIRING := State.g_f_lt _ (by decide) (by decide)

theorem State.switched_sw (s : State) (late : Bool) (ago : Nat) : (s.switched late ago).sw = swRETIRING := by
  unfold State.switched
  split
  · exact (State.g_f_apart _ (by decide) 1 (by decide)).trans (s.retiring_sw ago)
  · exact s.retiring_sw ago

theorem State.switchEffect_banks (s : State) (late : Bool) (ago : Nat) :
    (s.switchEffect late ago).ept.active = s.ept.staged ∧ (s.switchEffect late ago).ept.old = s.ept.active ∧
    (s.switchEffect late ago).ept.staged = [] ∧ (s.switchEffect late ago).ept.swct = s.ept.swct := by
  rw [State.switchEffect_eq, State.event_ept, State.switched_ept, State.retiring_ept, ((s.banked ago).attach_banks s.ept.staged).2]
  exact ⟨rfl, rfl, rfl, rfl⟩

theorem State.switchEffect_sw (s : State) (late : Bool) (ago : Nat) : (s.switchEffect late ago).sw = swRETIRING := by
  rw [State.switchEffect_eq]
  exact (State.event_g _ _ _ (by decide)).trans (s.switched_sw late ago)

theorem State.switchEffect_late (s : State) (ago : Nat) : (s.switchEffect true ago).on EPT_SWSTS_LATE = true := by
  rw [State.switchEffect_eq, State.on, State.event_g _ _ _ (by decide)]
  exact State.on_f_one _ (by decide)

/-! Writes of EPT_LDCTL and EPT_SWCTL that are taken. -/

theorem State.ldCtlWrite_load {s : State} {src : Nat} (hsrc : src = 1 ∨ src = 2) (h : s.loadRefused = none) :
    s.ldCtlWrite (Word.ofNat (16 + src)) = s.loadBegin { src := src } := by
  unfold State.ldCtlWrite
  obtain rfl | rfl := hsrc
  · rw [if_neg (by decide), if_pos (by decide), h]
    rfl
  · rw [if_neg (by decide), if_pos (by decide), h]
    rfl

theorem State.swRefused_self {s : State} {st : Nat} (h : s.sw = st) : s.swRefused st = none := if_pos h

theorem State.ldCtlWrite_store {s : State} (h : s.sw = swREADY) (hsize : leAt s.ept.staged 8 4 ≤ tablesSize) :
    s.ldCtlWrite 0x20 = (s.f EPT_SWSTS_STATE swSTORING).showNvs := by
  unfold State.ldCtlWrite
  rw [if_neg (by decide), if_neg (by decide), if_pos (by decide), State.swRefused_self h]
  exact if_neg (by omega)

theorem State.ldCtlWrite_discard {s : State} (h : s.sw = swREADY) : s.ldCtlWrite 0x40 = s.setStaged [] swEMPTY := by
  unfold State.ldCtlWrite
  rw [if_neg (by decide), if_neg (by decide), if_neg (by decide), if_pos (by decide), State.swRefused_self h]

theorem State.swCtlWrite_arm {s : State} (h : s.sw = swREADY) (himg : s.imgRefs s.ept.staged = none) (hct : s.ct < s.ept.swReg) :
    s.swCtlWrite 1 = ({ s with ept := { s.ept with swct := s.ept.swReg } } : State).f EPT_SWSTS_STATE swPENDING := by
  unfold State.swCtlWrite
  rw [if_neg (by decide), if_pos (by decide), State.swRefused_self h, himg]
  exact (if_neg (by decide)).trans (if_neg (by intro hnow; exact hnow.elim (by decide) (by omega)))

theorem State.swCtlWrite_now {s : State} (h : s.sw = swREADY) (himg : s.imgRefs s.ept.staged = none) :
    s.swCtlWrite 3 = (s.setSwct s.ct).switchEffect (decide (s.ept.swReg < s.ct)) 0 := by
  unfold State.swCtlWrite
  rw [if_neg (by decide), if_pos (by decide), State.swRefused_self h, himg]
  exact (if_neg (by decide)).trans (if_pos (.inl (by decide)))

theorem State.swCtlWrite_cancel {s : State} (h : s.sw = swPENDING) : s.swCtlWrite 4 = s.f EPT_SWSTS_STATE swREADY := by
  unfold State.swCtlWrite
  rw [if_neg (by decide), if_neg (by decide), if_pos (by decide), if_pos h]

theorem State.setStaged_effect (s : State) (img : List Nat) {st : Nat} (h : st < 8) :
    (s.setStaged img st).sw = st ∧ (s.setStaged img st).ept = { s.ept with staged := img } ∧
    s.setStaged img st = { s with regs := (s.setStaged img st).regs, ept := (s.setStaged img st).ept } := by
  refine ⟨State.setStaged_sw s img h, ?_, rfl⟩
  rw [State.setStaged, State.f_ept, State.f_ept]

theorem State.loadBegin_effect (s : State) (l : LoadS) :
    (s.loadBegin l).sw = swLOADING ∧ (s.loadBegin l).ept = { s.ept with staged := [], load := some l } ∧
    s.loadBegin l = { s with regs := (s.loadBegin l).regs, ept := (s.loadBegin l).ept } := by
  obtain ⟨hsw, hept, -⟩ := s.setStaged_effect [] (st := swLOADING) (by decide)
  refine ⟨hsw, ?_, rfl⟩
  show { (s.setStaged [] swLOADING).ept with load := some l } = _
  rw [hept]

/-- A state whose bank is staged keeps the reason that it shows. -/
theorem State.setStaged_reason (s : State) (img : List Nat) (st : Nat) : (s.setStaged img st).g EPT_SWSTS_LDREASON = s.g EPT_SWSTS_LDREASON :=
  (State.g_f_apart _ (by decide) st (by decide)).trans (State.g_f_apart _ (by decide) _ (by decide))

/-- The state as a load's reads have ended: what they recorded is recorded. -/
def State.loaded (s : State) (l : LoadS) (b : List Nat) : State := ({ s with ept := { s.ept with load := none } } : State).loadErr l b

theorem State.loaded_ept (s : State) (l : LoadS) (b : List Nat) : (s.loaded l b).ept = { s.ept with load := none } := State.loadErr_ept _ l b

/-- The state with the reason that a load ends with. -/
def State.reasoned (s : State) (r ofs : Nat) : State := (s.f EPT_SWSTS_LDREASON r).f EPT_LDOFS ofs

theorem State.reasoned_reason (s : State) {r : Nat} (h : r < 256) (ofs : Nat) : (s.reasoned r ofs).g EPT_SWSTS_LDREASON = r :=
  (State.g_f_apart _ (by decide) ofs (by decide)).trans (State.g_f_lt _ (by decide) h)

theorem State.reasoned_ept (s : State) (r ofs : Nat) : (s.reasoned r ofs).ept = s.ept := by
  rw [State.reasoned, State.f_ept, State.f_ept]

theorem State.loadEnd_failed (s : State) {l : LoadS} (hjob : l.job = none) (b : List Nat) :
    s.loadEnd l false b =
      ((((s.loaded l b).reasoned 0xB 0).setStaged [] swEMPTY).discard rEPT_LDCTL 0 0 LASTING_FAULT).raiseHub srcTABLE := by
  unfold State.loadEnd
  dsimp only
  rw [hjob]
  rfl

/-- A load's descriptor, where it has one, ends with OK. -/
def State.loadDone (s : State) (l : LoadS) : State :=
  match l.job with
  | some id => s.finishId id { status := OK }
  | none => s

theorem State.loadDone_kept (s : State) (l : LoadS) : FieldKept s (s.loadDone l) ∧ (s.loadDone l).ept = s.ept := by
  unfold State.loadDone
  split
  · exact ⟨.finishId s _ _, part_eq (State.finishId_same s _ _ (.refl 12582946) (.refl 12582946 s)).ept (by decide)⟩
  · exact ⟨.refl s, rfl⟩

theorem State.loadEnd_good (s : State) (l : LoadS) (b : List Nat) {u : State} (hu : u = s.loaded l b)
    (himg : u.imgFails (u.loadBytes l b).1 (u.loadBytes l b).2 = none) :
    s.loadEnd l true b =
      (((u.reasoned 0 0).setStaged (padTo (leAt (u.loadBytes l b).1 8 4) (u.loadBytes l b).1) swREADY).loadDone l).raiseHub srcTABLE := by
  subst hu
  unfold State.loadEnd
  unfold State.loaded at himg ⊢
  dsimp only at himg ⊢
  rw [if_pos rfl, himg]
  rfl

theorem State.loadEnd_failed_effect (s : State) {l : LoadS} (hjob : l.job = none) (b : List Nat) :
    (s.loadEnd l false b).sw = swEMPTY ∧ (s.loadEnd l false b).g EPT_SWSTS_LDREASON = 0xB ∧
    (s.loadEnd l false b).ept = { s.ept with load := none, staged := [] } := by
  have hset := ((s.loaded l b).reasoned 0xB 0).setStaged_effect [] (st := swEMPTY) (by decide)
  rw [State.loadEnd_failed s hjob, State.raiseHub_sw, State.raiseHub_g _ _ (by decide), State.raiseHub_ept, State.discard_ept,
    State.sw, State.discard_ldctl_g _ _ (by decide) (by decide), State.discard_ldctl_g _ _ (by decide) (by decide), State.setStaged_reason, hset.2.1,
    State.reasoned_ept, State.loaded_ept]
  exact ⟨hset.1, State.reasoned_reason _ (by decide) 0, rfl⟩

theorem State.loadEnd_good_effect (s : State) (l : LoadS) (b : List Nat) {u : State} (hu : u = s.loaded l b)
    (himg : u.imgFails (u.loadBytes l b).1 (u.loadBytes l b).2 = none) :
    (s.loadEnd l true b).sw = swREADY ∧ (s.loadEnd l true b).g EPT_SWSTS_LDREASON = 0 ∧
    (s.loadEnd l true b).ept = { s.ept with load := none, staged := padTo (leAt (u.loadBytes l b).1 8 4) (u.loadBytes l b).1 } := by
  obtain ⟨hsw, hept, -⟩ := (u.reasoned 0 0).setStaged_effect (padTo (leAt (u.loadBytes l b).1 8 4) (u.loadBytes l b).1) (st := swREADY) (by decide)
  have hdone := fun t : State => (t.loadDone_kept l).1
  rw [State.loadEnd_good s l b hu himg, State.raiseHub_sw, State.raiseHub_g _ _ (by decide), State.raiseHub_ept, (State.loadDone_kept _ l).2,
    State.sw, (hdone _).g (by decide), (hdone _).g (by decide), State.setStaged_reason, hept, State.reasoned_ept]
  refine ⟨hsw, State.reasoned_reason u (by decide) 0, ?_⟩
  rw [hu, State.loaded_ept]

/-! The end of a store, and of RETIRING. -/

/-- A store that has ended. -/
def State.stored (s : State) : State := (s.f EPT_SWSTS_STATE swREADY).showNvs

theorem State.stored_sw (s : State) : s.stored.sw = swREADY := (State.showNvs_sw _).trans (State.g_f_lt s (by decide) (by decide))

theorem State.stored_ept (s : State) : s.stored.ept = s.ept := by
  rw [State.stored, State.showNvs, State.f_ept, State.f_ept]

theorem State.stored_worn (s : State) : s.stored.g NVS_STS_WORN = s.g NVS_STS_WORN :=
  (State.g_f_apart _ (by decide) _ (by decide)).trans (State.g_f_apart s (by decide) _ (by decide))

theorem execTableStoreDone_good {s : State} (hsw : s.sw = swSTORING) (hrun : s.coreRuns = true) (hworn : nbit (s.g NVS_STS_WORN) 2 = false) :
    execTableStoreDone true s =
      .next ((({ s.stored with ept := { s.stored.ept with tablesImg := s.stored.ept.staged } } : State).reasoned 0 0).raiseHub srcTABLE) := by
  unfold execTableStoreDone
  rw [if_neg (by rw [hrun]; simp [hsw])]
  refine congrArg Host.Outcome.next (if_pos ⟨rfl, ?_⟩)
  rw [show ((s.f EPT_SWSTS_STATE swREADY).showNvs).g NVS_STS_WORN = _ from s.stored_worn, hworn]
  rfl

theorem execTableStoreDone_bad {s : State} (hsw : s.sw = swSTORING) (hrun : s.coreRuns = true) :
    execTableStoreDone false s = .next (((s.stored.setWorn 2).discard rEPT_LDCTL 0 0 NVM_WORN).raiseHub srcTABLE) := by
  unfold execTableStoreDone
  rw [if_neg (by rw [hrun]; simp [hsw])]
  exact congrArg Host.Outcome.next (if_neg (by simp))

/-- A bank retired, before its values are gone from the decoder's queue. -/
def State.cleared (s : State) : State :=
  { s with ept := { s.ept with retired := some s.ept.swct, old := [], oldRecs := [], oldTags := [], waitEps := [] } }

theorem State.retireBank_eq (s : State) : s.retireBank =
    ((((times State.decodeHead s.ept.queue.length s).cleared.zero [EPT_SWSTS_STATE, EPT_STGGEN]).f EPT_SWSTS_DONE 1).inc EPT_SWITCHES).raiseHub srcTABLE := rfl

theorem State.zero_two (s : State) (f g : Fld) : s.zero [f, g] = (s.f f 0).f g 0 := rfl

theorem State.retireBank_effect (s : State) : s.retireBank.sw = swEMPTY ∧ s.retireBank.on EPT_SWSTS_DONE = true ∧
    s.retireBank.ept.old = [] ∧ s.retireBank.ept.oldRecs = [] := by
  rw [State.retireBank_eq]
  generalize times State.decodeHead s.ept.queue.length s = u
  refine ⟨?_, ?_, ?_, ?_⟩
  · rw [State.raiseHub_sw, State.sw, State.zero_two]
    exact (State.g_f_apart _ (by decide) _ (by decide)).trans ((State.g_f_apart _ (by decide) _ (by decide)).trans
      ((State.g_f_apart _ (by decide) _ (by decide)).trans (State.g_f_lt _ (by decide) (by decide))))
  · rw [State.on, State.raiseHub_g _ _ (by decide)]
    exact (State.on_f_apart _ (by decide) _ (by decide)).trans (State.on_f_one _ (by decide))
  · rw [State.raiseHub_ept]
    rfl
  · rw [State.raiseHub_ept]
    rfl

theorem State.storeFailed_effect (s : State) :
    (((s.stored.setWorn 2).discard rEPT_LDCTL 0 0 NVM_WORN).raiseHub srcTABLE).sw = swREADY ∧
    (((s.stored.setWorn 2).discard rEPT_LDCTL 0 0 NVM_WORN).raiseHub srcTABLE).ept = s.ept ∧
    (((s.stored.setWorn 2).discard rEPT_LDCTL 0 0 NVM_WORN).raiseHub srcTABLE).rgnWorn 2 = true := by
  refine ⟨?_, ?_, ?_⟩
  · rw [State.raiseHub_sw, State.sw, State.discard_ldctl_g _ _ (by decide) (by decide)]
    exact (State.setWorn_sw _ (by decide)).trans s.stored_sw
  · rw [State.raiseHub_ept, State.discard_ept, State.setWorn_ept, State.stored_ept]
  · rw [State.rgnWorn, State.on, State.raiseHub_g _ _ (by decide), State.discard_ldctl_g _ _ (by decide) (by decide)]
    exact State.setWorn_worn _ (by decide)

theorem State.storeDone_effect (s : State) (img : List Nat) :
    ((({ s.stored with ept := { s.stored.ept with tablesImg := img } } : State).reasoned 0 0).raiseHub srcTABLE).sw = swREADY ∧
    ((({ s.stored with ept := { s.stored.ept with tablesImg := img } } : State).reasoned 0 0).raiseHub srcTABLE).ept.tablesImg = img ∧
    ((({ s.stored with ept := { s.stored.ept with tablesImg := img } } : State).reasoned 0 0).raiseHub srcTABLE).g EPT_SWSTS_LDREASON = 0 := by
  refine ⟨?_, ?_, ?_⟩
  · rw [State.raiseHub_sw, State.sw, State.reasoned, State.g_f_apart _ (by decide) _ (by decide), State.g_f_apart _ (by decide) _ (by decide)]
    exact s.stored_sw
  · rw [State.raiseHub_ept, State.reasoned_ept]
  · rw [State.raiseHub_g _ _ (by decide), State.reasoned_reason _ (by decide)]

/-- Settles O41: each load, store and switch is followed from its register write or its end to the bank it leaves and the state that EPT_SWSTS shows. -/
theorem endpointTablesComplete : Obligations.EndpointTablesComplete := by
  unfold Obligations.EndpointTablesComplete
  refine ⟨fun s src hsrc hacc hfree => ?_, fun s j htake hissuer hfree => ?_, fun s l b hload hrun hsw hjob hsrc => ?_,
    fun s l b u hload hrun hsw hsrc hu himg => ?_, fun s hacc hsw hsize => ?_, fun s hsw hrun hworn => ?_, fun s hsw hrun => ?_, fun s hacc hsw => ?_,
    fun s hacc hsw himg hct => ?_, fun s hacc hsw himg => ?_, fun s hacc hsw => ?_, fun s hsw hrun hct => ?_, fun s hsw hrun hret => ?_,
    fun s x q hdec hcore hq => ?_, fun s x q hdec hcore hq => ?_⟩
  · obtain ⟨hsw, hept, heq⟩ := s.awake.loadBegin_effect { src := src }
    exact completes rfl ((State.barWrite_accepted hacc (by decide) _ _ _).trans (State.ldCtlWrite_load hsrc hfree))
      ⟨hsw, by rw [hept], by rw [hept], heq⟩
  · obtain ⟨hsw, hept, -⟩ := (s.begun j).loadBegin_effect { src := 0, image := j.args, job := some j.id }
    refine completes rfl ((State.Takes.runJob htake hissuer _).trans ?_) ⟨hsw, by rw [hept]⟩
    rw [show (s.begun j).loadRefused = none from hfree]
  · obtain ⟨hst, hreason, hept⟩ := s.loadEnd_failed_effect hjob b
    refine ⟨_, ?_, hst, hreason, by rw [hept], by rw [hept]⟩
    show execTableLoadDone false b s = _
    rw [execTableLoadDone, hload]
    exact congrArg Host.Outcome.next (if_pos ⟨hrun, hsw, fun h => hsrc.elim (fun hne => hne h.1) fun hmem => by rw [hmem] at h; exact absurd h.2 (by decide)⟩)
  · obtain ⟨hst, hreason, hept⟩ := s.loadEnd_good_effect l b hu himg
    refine ⟨_, ?_, hst, hreason, by rw [hept], by rw [hept]⟩
    show execTableLoadDone true b s = _
    rw [execTableLoadDone, hload]
    exact congrArg Host.Outcome.next (if_pos ⟨hrun, hsw, fun h => hsrc.elim (fun hne => hne h.1) fun hmem => by rw [hmem] at h; exact absurd h.2 (by decide)⟩)
  · exact congrArg Host.Outcome.next ((State.barWrite_accepted hacc (by decide) _ _ _).trans (State.ldCtlWrite_store hsw hsize))
  · obtain ⟨hst, himg, hreason⟩ := s.storeDone_effect s.stored.ept.staged
    exact ⟨_, execTableStoreDone_good hsw hrun hworn, hst, by rw [himg, State.stored_ept], hreason⟩
  · obtain ⟨hst, hept, hworn⟩ := s.storeFailed_effect
    exact ⟨_, execTableStoreDone_bad hsw hrun, hst, by rw [hept], by rw [hept], hworn⟩
  · obtain ⟨hst, hept, heq⟩ := s.awake.setStaged_effect [] (st := swEMPTY) (by decide)
    exact completes rfl ((State.barWrite_accepted hacc (by decide) _ _ _).trans (State.ldCtlWrite_discard hsw)) ⟨hst, by rw [hept], heq⟩
  · refine completes rfl ((State.barWrite_accepted hacc (by decide) _ _ _).trans (State.swCtlWrite_arm hsw himg hct)) ⟨?_, ?_, ?_, rfl⟩
    · exact State.g_f_lt _ (by decide) (by decide)
    · rw [State.f_ept]
    · rw [State.f_ept]
  · obtain ⟨hactive, hold, -, hswct⟩ := (s.awake.setSwct s.awake.ct).switchEffect_banks (decide (s.awake.ept.swReg < s.awake.ct)) 0
    exact completes rfl ((State.barWrite_accepted hacc (by decide) _ _ _).trans (State.swCtlWrite_now hsw himg))
      ⟨State.switchEffect_sw _ _ _, hactive, hold, hswct⟩
  · exact congrArg Host.Outcome.next ((State.barWrite_accepted hacc (by decide) _ _ _).trans (State.swCtlWrite_cancel hsw))
  · obtain ⟨hactive, hold, hstaged, -⟩ := s.switchEffect_banks (decide (s.ept.swct + 1 < s.ct)) (s.ct - s.ept.swct)
    refine ⟨_, congrArg Host.Outcome.next (if_pos ⟨hsw, hrun, hct⟩), State.switchEffect_sw _ _ _, hactive, hold, hstaged, fun hlate => ?_⟩
    rw [decide_eq_true hlate]
    exact State.switchEffect_late _ _
  · obtain ⟨hst, hdone, hold, hrecs⟩ := s.retireBank_effect
    exact ⟨_, congrArg Host.Outcome.next (if_pos ⟨hsw, hrun, .inr hret⟩), hst, hdone, hold, hrecs⟩
  · show execDecode s = _
    rw [execDecode, if_pos hdec, if_neg (by rw [hcore]; decide), State.decodeHead, hq]
  · show execDecode s = _
    rw [execDecode, if_pos hdec, if_pos hcore, State.decodeHead, hq]

end Sys2Proof.Machine
end

section
/-! What a stage's change does to schedule entries and to recognizers shows in no register of the field blocks, of power or of reset. -/
set_option Elab.async false
namespace Sys2Proof.Machine

namespace FieldKept

/-- A change of parts other than the registers and the power state. -/
theorem of_same {m : Nat} {s t : State} (h : Same m s t) (hregs : Nat.lor 2 m ≠ m) (hsys : Nat.lor 2048 m ≠ m) : FieldKept s t :=
  of_regs (part_eq h.regs hregs) (part_eq h.sys hsys)

theorem times {op : State → State} (hop : ∀ s, FieldKept s (op s)) (n : Nat) : ∀ s, FieldKept s (times op n s) := by
  induction n with
  | zero => exact refl
  | succ n ih => exact fun s => (hop s).trans (ih _)

/-! Schedule entries whose instants have passed. -/

theorem modEnt (s : State) (n : Nat) (h : EntS → EntS) : FieldKept s (s.modEnt n h) := of_regs rfl

theorem pollPast (s : State) (ep t : Nat) : FieldKept s (s.pollPast ep t) := of_regs rfl

theorem checkEnd (s : State) (idx : Nat) : FieldKept s (s.checkEnd idx) :=
  of_same (State.checkEnd_same s idx (.refl 4096) (.refl 4096 s)) (by decide) (by decide)

theorem suspendAt (s : State) (e : EntS) (c : Nat) : FieldKept s (s.suspendAt e c) :=
  of_same (State.suspendAt_same s e c (.refl 4096) (.refl 4096 s)) (by decide) (by decide)

theorem missBlock (s : State) (slot ct reason : Nat) : FieldKept s (s.missBlock slot ct reason) := by
  unfold State.missBlock
  split
  · exact offer s slot _
  · exact refl s

theorem missPoll (s : State) (ep t reason : Nat) : FieldKept s (s.missPoll ep t reason) :=
  (ite (missEp s ep t reason) (refl s)).trans (foldl (fun s _ => missBlock s _ _ _) _ _)

theorem missOnce (s : State) (ep t : Nat) : FieldKept s (s.missOnce ep t) :=
  ite (refl s) ((missPoll s ep t _).trans (pollPast _ ep t))

theorem missEach (s : State) (idx t : Nat) (eps : List Nat) : FieldKept s (s.missEach idx t eps) :=
  foldl (fun s ep => ite (refl s) (missOnce s ep t)) _ _

theorem missPolls (s : State) (idx t : Nat) (eps : List Nat) : FieldKept s (s.missPolls idx t eps) :=
  (modEnt s idx _).trans (missEach _ idx t eps)

theorem passOne (idx : Nat) (s : State) : FieldKept s (State.passOne idx s) := by
  unfold State.passOne
  split
  · split
    · have hpass := fun n l => ((modEnt s idx EntS.advance).trans (missPolls _ idx n l)).trans (checkEnd _ idx)
      exact ite ((hpass _ _).trans (inc _ (by decide))) (hpass _ _)
    · exact refl s
  · exact refl s

theorem passTo (s : State) (e : EntS) (t : Nat) : FieldKept s (s.passTo e t) := times (passOne e.idx) _ s

theorem passMissed (s : State) : FieldKept s s.passMissed := foldl (fun s e => ite (passTo s e _) (refl s)) _ _

theorem resumeAt (s : State) (idx g : Nat) : FieldKept s (s.resumeAt idx g) := by
  unfold State.resumeAt
  split
  · exact ite (modEnt s idx _) (ite ((passTo s _ g).trans (modEnt _ idx _)) (modEnt s idx _))
  · exact refl s

/-- The entries that the stage stops or lets go on, before the scheduler's status follows it. -/
theorem schedStage (s : State) : ∃ t, FieldKept s t ∧ s.schedStage = (t.f PSC_STS_STAGE (min 5 t.stage)).f PSC_STS_STOPPED (b2n t.watchRuns) :=
  ⟨_, (((passMissed s).trans (foldl (fun s (x : EntS × Nat) => suspendAt s x.1 x.2) _ _)).trans
    (foldl (fun s (x : EntS × Nat) => ite (passTo s x.1 _) (refl s)) _ _)).trans (foldl (fun s (x : EntS × Nat) => resumeAt s x.1.idx x.2) _ _), rfl⟩

theorem takeWatch (s : State) : FieldKept s s.takeWatch :=
  ite (refl s) ((f s (by decide) _).trans (foldl (fun s n => modEnt s n _) _ _))

/-! Triggers. -/

theorem burstStart (s : State) (idx ideal g : Nat) : FieldKept s (s.burstStart idx ideal g) := by
  unfold State.burstStart
  dsimp only
  split
  · exact modEnt s idx _
  · split
    · exact modEnt s idx _
    · exact ((modEnt s idx _).trans (modEnt _ idx _)).trans (foldl (fun s k => missPolls s idx _ _) _ _)

theorem triggerEnt (s : State) (idx t : Nat) : FieldKept s (s.triggerEnt idx t) := by
  unfold State.triggerEnt
  split
  · exact inc s (by decide)
  · exact ite (burstStart s idx _ _) (inc s (by decide))

theorem triggerHere (s : State) (tid group t : Nat) : FieldKept s (s.triggerHere tid group t) :=
  (foldl (fun s _ => inc s (x := PSC_TRIGLOST) (by decide)) _ s).trans (foldl (fun s _ => burstStart s _ _ _) _ _)

theorem triggerGroup (s : State) (tid group t : Nat) : FieldKept s (s.triggerGroup tid group t) :=
  (triggerHere s tid group t).trans (foldl (fun s _ => sendMsg s _ _ _ _) _ _)

theorem trigger (s : State) (idx t : Nat) : FieldKept s (s.trigger idx t) := by
  unfold State.trigger
  split
  · exact inc s (by decide)
  · exact ite (triggerEnt s idx t) (triggerGroup s _ _ t)

/-! Recognizers. -/

theorem modInst (s : State) (n : Nat) (h : InstS → InstS) : FieldKept s (s.modInst n h) := of_regs rfl

theorem skipAct (s : State) (n : Nat) : FieldKept s (s.skipAct n) := (inc s (by decide)).trans (modInst _ n _)

theorem sampleEv (s : State) (w : EvWaitS) : FieldKept s (s.sampleEv w) := by
  have hroute := fun e => routeEv s w.uid w.home e
  unfold State.sampleEv
  exact ite ((hroute _).trans (foldl (fun s r => closeCask s w.uid r _) _ _)) (hroute _)

theorem placeSampleEv (s : State) (w : EvWaitS) : FieldKept s (s.placeSampleEv w) := ite (of_regs rfl) (sampleEv s w)

theorem emitAct (s : State) (n : Nat) (alert : Bool) (code next fl : Nat) : FieldKept s (s.emitAct n alert code next fl) := by
  unfold State.emitAct
  split
  · exact refl s
  · have hplace := fun w h => (placeSampleEv s w).trans (modInst _ n h)
    exact ite ((modInst s n _).trans (inc _ (by decide))) (ite ((hplace _ _).trans (wakeReq _ _)) (hplace _ _))

theorem burstAct (s : State) (n : Nat) (x : InstS) (tgt : Nat) : FieldKept s (s.burstAct n x tgt) := by
  unfold State.burstAct
  refine ite ?_ (ite (triggerGroup s _ _ _) (skipAct s n))
  split
  · exact ite (trigger s _ _) (skipAct s n)
  · exact skipAct s n

theorem mashDo (s : State) (n k at_ : Nat) (cmd : MashCmd) : FieldKept s (s.mashDo n k at_ cmd) :=
  of_same (State.mashDo_same s n k at_ cmd (.refl 524288) (.refl 524288 s)) (by decide) (by decide)

theorem freezeAct (s : State) (n : Nat) (x : InstS) (c : Nat) (cmd : MashCmd) : FieldKept s (s.freezeAct n x c cmd) := by
  unfold State.freezeAct
  split
  · exact skipAct s n
  · exact ite (skipAct s n) (mashDo s c _ _ cmd)

theorem rcgAct (n next fl : Nat) (s : State) (a : List Nat) : FieldKept s (State.rcgAct n next fl s a) := by
  unfold State.rcgAct
  split
  · exact refl s
  · split
    · exact emitAct s n _ _ _ _
    · exact emitAct s n _ _ _ _
    · exact burstAct s n _ _
    · exact freezeAct s n _ _ _
    · exact freezeAct s n _ _ _
    · exact ite (event s _ _) (skipAct s n)
    · exact (inc s (by decide)).trans (wakeReq _ _)
    · exact modInst s n _
    · exact modInst s n _
    · exact refl s

theorem rcgLoop (n start fl : Nat) (now : Int) (k : Nat) : ∀ s marked, FieldKept s (State.rcgLoop n start fl now k s marked).1 := by
  induction k with
  | zero => exact fun s _ => refl s
  | succ k ih =>
    intro s marked
    have hacts := fun next l => (foldl (rcgAct n next fl) l s).trans (modInst _ n fun x => { x with trans := up x.trans })
    rw [State.rcgLoop]
    split
    · exact refl s
    · dsimp only
      split
      · exact refl s
      · have hcascade := fun next l => (hacts next l).trans
          (ite (c := k = 0) ((inc _ (x := RCG_CASCADE) (by decide)).trans (modInst _ n fun x => { x with cascade := true })) (refl _))
        split
        · exact hcascade _ _
        · split
          · exact (hcascade _ _).then_regs rfl
          · refine FieldKept.trans ?_ (ih _ _)
            exact (hcascade _ _).then_regs rfl

theorem rcgOut (s : State) (n fl : Nat) : FieldKept s (s.rcgOut n fl) := by
  unfold State.rcgOut
  split
  · exact refl s
  · exact enqueueRaw s _

theorem rcgStep (s : State) (t : TrigS) (force : Bool) : FieldKept s (s.rcgStep t force) := by
  unfold State.rcgStep
  split
  · exact refl s
  · have hloop := fun h start fl now => ((modInst s t.inst h).trans (inc _ (x := RCG_STEPS) (by decide))).trans (rcgLoop t.inst start fl now 16 _ false)
    exact ite ((hloop _ _ _ _).trans (rcgOut _ _ _)) (hloop _ _ _ _)

theorem rcgResume (s : State) (n m : Nat) : FieldKept s (s.rcgResume n m) := (modInst s n _).trans (rcgStep _ _ true)

theorem rcgPurge (s : State) (n : Nat) : FieldKept s (s.rcgPurge n) := of_regs rfl

theorem rcgStage (s : State) : FieldKept s s.rcgStage := by
  refine foldl (fun s y => ?_) _ _
  exact ite (refl s) (ite (((rcgPurge s y.1).trans (interruptAll _ [y.2.outep])).trans (modInst _ _ _)) (ite (rcgResume s _ _) (modInst s _ _)))

end FieldKept

end Sys2Proof.Machine
end

section
/-! Shedding and the last stops (obligation O54). -/
set_option Elab.async false
namespace Sys2Proof.Machine

/-! A measurement. -/

theorem State.measure_g (s : State) (mv : Nat) (tj : Int) {f : Fld} (hv : f.apart PWR_MEAS_VAON) (ht : f.apart PWR_MEAS_TJ) : (s.measure mv tj).g f = s.g f :=
  (State.g_f_apart _ (by decide) _ ht).trans (State.g_f_apart s (by decide) _ hv)

theorem unsigned_lt (n : Nat) (v : Int) : unsigned n v < 2 ^ n := by
  have hpos : (0 : Int) < (2 ^ n : Nat) := by exact_mod_cast Nat.two_pow_pos n
  have h := Int.emod_lt_of_pos v hpos
  unfold unsigned
  omega

theorem State.measure_tj (s : State) (mv : Nat) (tj : Int) : (s.measure mv tj).g PWR_MEAS_TJ = unsigned 9 tj :=
  State.g_f_lt _ (by decide) (unsigned_lt 9 tj)

theorem State.measure_stage (s : State) (mv : Nat) (tj : Int) : (s.measure mv tj).stage = s.stage := s.measure_g mv tj (by decide) (by decide)

theorem State.measure_sys (s : State) (mv : Nat) (tj : Int) : (s.measure mv tj).sys = s.sys := by
  rw [State.measure, State.f_sys, State.f_sys]

theorem State.measure_elapsed (s : State) (mv : Nat) (tj : Int) : (s.measure mv tj).elapsed = s.elapsed :=
  State.elapsed_of_time (by rw [State.measure, State.f_time, State.f_time])

/-! The fall of a stage. -/

/-- The elapsed count since which the trigger of the stage in force has stayed clear. -/
def State.clearFrom (s : State) (x : Option Nat) : State := { s with sys := { s.sys with clearSince := x } }

theorem State.clearFrom_g (s : State) (x : Option Nat) (f : Fld) : (s.clearFrom x).g f = s.g f := State.g_of_regs rfl f

theorem State.clearFrom_stage (s : State) (x : Option Nat) : (s.clearFrom x).stage = s.stage := s.clearFrom_g x _

theorem State.shedFall_waits {s : State} (h0 : s.stage ≠ 0) (hfinal : s.stage ≠ 5 ∨ s.sys.final ≠ 1) (hoff : s.trigOff s.stage = false) :
    s.shedFall = s.clearFrom none := by
  unfold State.shedFall
  rw [if_neg (fun h => h.elim h0 fun h => hfinal.elim (fun hne => hne h.1) fun hne => hne h.2), hoff]
  rfl

theorem State.shedFall_clears {s : State} (h0 : s.stage ≠ 0) (hfinal : s.stage ≠ 5 ∨ s.sys.final ≠ 1) (hoff : s.trigOff s.stage = true)
    (hsince : s.sys.clearSince = none) : s.shedFall = s.clearFrom (some s.elapsed) := by
  unfold State.shedFall
  rw [if_neg (fun h => h.elim h0 fun h => hfinal.elim (fun hne => hne h.1) fun hne => hne h.2), hoff, hsince]
  rfl

theorem State.shedFall_falls {s : State} (h0 : s.stage ≠ 0) (hfinal : s.stage ≠ 5 ∨ s.sys.final ≠ 1) (hoff : s.trigOff s.stage = true) {x : Nat}
    (hsince : s.sys.clearSince = some x) (hdwell : x + msNs * s.g PWR_SHEDCFG_DWELL ≤ s.elapsed) : s.shedFall = s.fallOne := by
  unfold State.shedFall
  rw [if_neg (fun h => h.elim h0 fun h => hfinal.elim (fun hne => hne h.1) fun hne => hne h.2), hoff, hsince]
  exact if_pos hdwell

/-- The stage in force, its trigger seen clear no longer. -/
def State.inStage (s : State) (n : Nat) : State :=
  let t := (s.f PWR_STS_STAGE n).f PSC_STS_STAGE n
  { t with sys := { t.sys with clearSince := none } }

theorem State.setStage_eq (s : State) (n : Nat) : s.setStage n = ((s.inStage n).raiseHub srcSHED).event 376 (s.inStage n).ct := rfl

theorem State.setStage_kept (s : State) (n : Nat) : FieldKept (s.inStage n) (s.setStage n) := by
  rw [State.setStage_eq]
  exact (FieldKept.raiseHub _ srcSHED).trans (.event _ _ _)

theorem State.setStage_sys (s : State) (n : Nat) : (s.setStage n).sys = { s.sys with clearSince := none } := by
  rw [State.setStage_eq, State.event_sys, State.raiseHub_sys, State.inStage]
  dsimp only
  rw [State.f_sys, State.f_sys]

theorem State.inStage_stage (s : State) {n : Nat} (h : n < 8) : (s.inStage n).stage = n := by
  have hregs : (s.inStage n).regs = ((s.f PWR_STS_STAGE n).f PSC_STS_STAGE n).regs := rfl
  rw [State.stage, State.g_of_regs hregs, State.g_f_apart _ (by decide) n (by decide), State.g_f_lt s (by decide) h]

theorem State.setStage_stage (s : State) {n : Nat} (h : n < 8) : (s.setStage n).stage = n :=
  (State.setStage_kept s n).stage.trans (State.inStage_stage s h)

/-- What the fall from stage 5 leaves, before the scheduler and the recognizers follow. -/
def State.powered (s : State) : State :=
  let t := s.setStage 4
  let up := t.sys.pstate == .run || t.sys.pstate == .doze
  let excess := !t.sys.thermal
  { t with sys := { t.sys with final := if excess then 0 else t.sys.final, pmicEn := t.sys.pmicEn || (up && excess) } }

theorem State.fallOne_five {s : State} (h : s.stage = 5) :
    s.fallOne = (if s.powered.psc.ents.any fun e => e.watch then s.powered else s.powered.takeWatch).schedStage.rcgStage := by
  unfold State.fallOne
  rw [h]
  rfl

theorem State.powered_sys {s : State} (hrun : s.sys.pstate = .run) (hcool : s.sys.thermal = false) :
    s.powered.sys = { s.sys with clearSince := none, final := 0, pmicEn := true } := by
  unfold State.powered
  dsimp only
  rw [State.setStage_sys, hrun, hcool]
  simp

theorem State.powered_stage (s : State) : s.powered.stage = 4 := s.setStage_stage (by decide)

/-- The fall from stage 5 with the hub awake and cool. -/
theorem State.fallOne_five_effect {s : State} (h : s.stage = 5) (hrun : s.sys.pstate = .run) (hcool : s.sys.thermal = false) :
    s.fallOne.stage = 4 ∧ s.fallOne.g PSC_STS_STAGE = 4 ∧ s.fallOne.sys.pfailN = s.sys.pfailN ∧ s.fallOne.sys.final = 0 ∧
    s.fallOne.sys.pmicEn = true ∧ s.fallOne.sys.clearSince = none := by
  have htake : FieldKept s.powered (if s.powered.psc.ents.any fun e => e.watch then s.powered else s.powered.takeWatch) := .ite (.refl _) (.takeWatch _)
  rw [State.fallOne_five h]
  generalize (if s.powered.psc.ents.any fun e => e.watch then s.powered else s.powered.takeWatch) = v at htake
  obtain ⟨u, hsched, heq⟩ := FieldKept.schedStage v
  have hkept := htake.trans hsched
  have hstage : u.stage = 4 := hkept.stage.trans s.powered_stage
  have hrcg := FieldKept.rcgStage v.schedStage
  have hsys : v.schedStage.rcgStage.sys = { s.powered.sys with pstate := v.schedStage.rcgStage.sys.pstate, wakeLatch := v.schedStage.rcgStage.sys.wakeLatch } := by
    rw [hrcg.sys, heq, State.f_sys, State.f_sys, hkept.sys]
  rw [State.powered_sys hrun hcool] at hsys
  refine ⟨?_, ?_, by rw [hsys], by rw [hsys], by rw [hsys], by rw [hsys]⟩
  · rw [hrcg.stage, heq, State.stage, State.g_f_apart _ (by decide) _ (by decide), State.g_f_apart _ (by decide) _ (by decide)]
    exact hstage
  · rw [hrcg.g (by decide), heq, State.g_f_apart _ (by decide) _ (by decide), hstage]
    exact State.g_f_lt u (by decide) (by decide)

theorem State.measure_eq (s : State) (mv : Nat) (tj : Int) : s.measure mv tj = { s with regs := (s.measure mv tj).regs } := rfl

/-- PFAIL_N has risen. -/
def State.restored (s : State) : State := { s with sys := { s.sys with pfailN := true } }

theorem State.restored_stage (s : State) (mv : Nat) (tj : Int) : (s.restored.measure mv tj).stage = s.stage :=
  (s.restored.measure_stage mv tj).trans (State.g_of_regs rfl PWR_STS_STAGE)

theorem execPowerRestore_on {s : State} (hon : s.sys.pstate ≠ .off) (mv : Nat) (tj : Int) :
    execPowerRestore mv tj s = .next (s.restored.measure mv tj).shedFall := by
  unfold execPowerRestore
  exact (if_neg hon).symm ▸ rfl

/-- A measurement of the junction's temperature alone. -/
def State.measureTj (s : State) (tj : Int) : State := s.f PWR_MEAS_TJ (unsigned 9 tj)

/-- Thermal shutdown as it goes on: an elapsed count since which the junction has been cool enough, or none. -/
def State.coolFrom (s : State) (x : Option Nat) : State := { s with sys := { s.sys with coolSince := x } }

/-- Thermal shutdown as it ends. -/
def State.cooled (s : State) : State := { s with sys := { s.sys with thermal := false, coolSince := none } }

theorem State.tj_sys (s : State) (tj : Int) : (s.measureTj tj).sys = s.sys := State.f_sys s _ _

theorem State.tj_elapsed (s : State) (tj : Int) : (s.measureTj tj).elapsed = s.elapsed := State.elapsed_of_time (State.f_time s _ _)

theorem State.tj_g (s : State) (tj : Int) {f : Fld} (hf : f.apart PWR_MEAS_TJ) : (s.measureTj tj).g f = s.g f := State.g_f_apart s (by decide) _ hf

theorem State.cooled_stage (s : State) : s.cooled.stage = s.stage := State.g_of_regs rfl PWR_STS_STAGE

/-- What a measurement does in thermal shutdown after the last stops have ended. -/
theorem execThermalRecover_eq {s : State} (hthermal : s.sys.thermal = true) (hfinal : s.sys.final = 2) (tj : Int) {t : State} (ht : t = s.measureTj tj) :
    execThermalRecover tj s = .next (if 130 < tj then t.coolFrom none else match t.sys.coolSince with
      | none => t.coolFrom (some t.elapsed)
      | some x => if t.elapsed < x + 1000000000 then t else if t.cooled.stage = 5 then t.cooled else
        let u : State := { t.cooled with sys := { t.cooled.sys with final := 0, pmicEn := t.sys.pstate == .run || t.sys.pstate == .doze } }
        if u.asleep then u.wakeLatched else if u.shedSleeps then u.shedWake else u) := by
  subst ht
  unfold execThermalRecover
  rw [if_neg (by simp [hthermal, hfinal])]
  rfl

theorem execThermalRecover_hot {s : State} (hthermal : s.sys.thermal = true) (hfinal : s.sys.final = 2) {tj : Int} (h : 130 < tj) :
    execThermalRecover tj s = .next ((s.measureTj tj).coolFrom none) := by
  rw [execThermalRecover_eq hthermal hfinal tj rfl, if_pos h]

theorem execThermalRecover_cool {s : State} (hthermal : s.sys.thermal = true) (hfinal : s.sys.final = 2) {tj : Int} (h : tj ≤ 130)
    (hsince : s.sys.coolSince = none) : execThermalRecover tj s = .next ((s.measureTj tj).coolFrom (some s.elapsed)) := by
  rw [execThermalRecover_eq hthermal hfinal tj rfl, if_neg (by omega), State.tj_elapsed, State.tj_sys, hsince]

theorem execThermalRecover_ends {s : State} (hthermal : s.sys.thermal = true) (hfinal : s.sys.final = 2) {tj : Int} (h : tj ≤ 130) {x : Nat}
    (hsince : s.sys.coolSince = some x) (hsecond : x + 1000000000 ≤ s.elapsed) {t : State} (ht : t = (s.measureTj tj).cooled) :
    execThermalRecover tj s = .next (if t.stage = 5 then t else
      let u : State := { t with sys := { t.sys with final := 0, pmicEn := s.sys.pstate == .run || s.sys.pstate == .doze } }
      if u.asleep then u.wakeLatched else if u.shedSleeps then u.shedWake else u) := by
  subst ht
  rw [execThermalRecover_eq hthermal hfinal tj rfl, if_neg (by omega), State.tj_elapsed, State.tj_sys, hsince]
  exact congrArg Host.Outcome.next (if_neg (by omega))

/-! The commands that end in a stop. -/

/-- The pins of a loss of power, with VAON measured. -/
def State.failing (s : State) (why mv : Nat) : State :=
  let t := s.f PWR_MEAS_VAON mv
  { t with sys := { t.sys with pfailN := t.sys.pfailN && why != 0, pmicPg := t.sys.pmicPg && !(why == 2 && t.sys.pmicEn) } }

theorem execPowerFail_rises {s : State} (hon : s.sys.pstate ≠ .off) (h5 : s.stage ≠ 5) {why : Nat} (hwhy : why = 0 ∨ why = 2 ∧ s.sys.pmicEn = true) (mv : Nat) :
    execPowerFail why mv s = .next ((s.failing why mv).riseTo 5) := by
  have hstage : (s.failing why mv).stage = s.stage := (State.g_of_regs rfl PWR_STS_STAGE).trans (State.g_f_apart s (by decide) mv (by decide))
  unfold execPowerFail
  rw [if_neg hon]
  refine congrArg Host.Outcome.next ((if_neg ?_).trans (if_pos fun h => h5 (hstage.symm.trans h)))
  obtain rfl | ⟨rfl, hpmic⟩ := hwhy
  · simp
  · simp [hpmic]

theorem powerFail_pfail {s : State} (hon : s.sys.pstate ≠ .off) (h5 : s.stage ≠ 5) (mv : Nat) :
    exec (.powerFail 0 mv) s = .next (({ s.f PWR_MEAS_VAON mv with sys := { s.sys with pfailN := false } } : State).riseTo 5) := by
  have heq : s.failing 0 mv = { s.f PWR_MEAS_VAON mv with sys := { s.sys with pfailN := false } } := by
    unfold State.failing
    dsimp only
    rw [State.f_sys]
    simp
  exact (execPowerFail_rises hon h5 (.inl rfl) mv).trans (by rw [heq])

theorem powerFail_pmic {s : State} (hon : s.sys.pstate ≠ .off) (hpmic : s.sys.pmicEn = true) (h5 : s.stage ≠ 5) (mv : Nat) :
    exec (.powerFail 2 mv) s = .next (({ s.f PWR_MEAS_VAON mv with sys := { s.sys with pmicPg := false } } : State).riseTo 5) := by
  have heq : s.failing 2 mv = { s.f PWR_MEAS_VAON mv with sys := { s.sys with pmicPg := false } } := by
    unfold State.failing
    dsimp only
    rw [State.f_sys, hpmic]
    simp
  exact (execPowerFail_rises hon h5 (.inr ⟨rfl, hpmic⟩) mv).trans (by rw [heq])

/-- A hub that the junction has become too hot for. -/
def State.overheat (t : State) : State := { t with sys := { t.sys with thermal := true, coolSince := none, finalAt := t.elapsed } }

theorem State.overheat_g (t : State) (f : Fld) : t.overheat.g f = t.g f := State.g_of_regs rfl f

theorem execThermalShutdown_hot {s : State} {tj : Int} (hhot : 150 ≤ tj) (hcool : s.sys.thermal = false) (hon : s.sys.pstate ≠ .off) (hfinal : s.sys.final = 0) :
    execThermalShutdown tj s =
      .next (if s.programming then (s.measureTj tj).overheat.inc NVS_TDEFER else (s.measureTj tj).overheat.thermalStop) := by
  unfold execThermalShutdown
  rw [if_neg (by simp [hcool, hon, hfinal]; omega)]
  rfl

theorem thermalShutdown_defers {s : State} {tj : Int} (hhot : 150 ≤ tj) (hcool : s.sys.thermal = false) (hon : s.sys.pstate ≠ .off) (hfinal : s.sys.final = 0)
    (hprog : s.programming = true) : ∃ t, exec (.thermalShutdown tj) s = .next t ∧ t.sys.thermal = true ∧
      t.g NVS_TDEFER = min (s.g NVS_TDEFER + 1) (2 ^ 32 - 1) ∧ t.sys.final = 0 ∧ t = { s with regs := t.regs, sys := t.sys } := by
  have hsys : ((s.measureTj tj).overheat.inc NVS_TDEFER).sys = (s.measureTj tj).overheat.sys := State.inc_sys _ _
  have hfin : (s.measureTj tj).sys.final = 0 := by rw [State.tj_sys, hfinal]
  refine ⟨(s.measureTj tj).overheat.inc NVS_TDEFER,
    (execThermalShutdown_hot hhot hcool hon hfinal).trans (congrArg Host.Outcome.next (if_pos hprog)), ?_, ?_, ?_, rfl⟩
  · rw [hsys]
    rfl
  · rw [State.g_inc_word _ rfl rfl, State.overheat_g, State.tj_g s tj (by decide)]
  · rw [hsys]
    exact hfin

theorem thermalShutdown_stops {s : State} {tj : Int} (hhot : 150 ≤ tj) (hcool : s.sys.thermal = false) (hon : s.sys.pstate ≠ .off) (hfinal : s.sys.final = 0)
    (hprog : s.programming = false) : exec (.thermalShutdown tj) s = .next (({ s.f PWR_MEAS_TJ (unsigned 9 tj) with sys := { s.sys with
      thermal := true, coolSince := none, finalAt := s.elapsed } } : State).thermalStop) := by
  refine (execThermalShutdown_hot hhot hcool hon hfinal).trans (congrArg Host.Outcome.next ((if_neg (by rw [hprog]; decide)).trans ?_))
  rw [State.overheat, State.tj_sys, State.tj_elapsed]
  rfl

/-- A hub in RUN that leaves thermal shutdown. -/
def State.recover (t : State) : State := { t with sys := { t.sys with thermal := false, coolSince := none, final := 0, pmicEn := true } }

theorem State.recover_sleeps {t : State} (h4 : t.stage < 4) (hrun : t.sys.pstate = .run) (hwake : t.sys.wake = 0) :
    t.recover.asleep = false ∧ t.recover.shedSleeps = true := by
  have hst : t.recover.stage = t.stage := State.g_of_regs rfl PWR_STS_STAGE
  have hpst : t.recover.sys.pstate = .run := hrun
  refine ⟨by rw [State.asleep, hpst]; rfl, ?_⟩
  rw [State.shedSleeps, hpst, hst, decide_eq_true h4, show t.recover.sys.wake = 0 from hwake]
  rfl

theorem State.recover_of_run {t : State} (hrun : t.sys.pstate = .run) :
    ({ t.cooled with sys := { t.cooled.sys with final := 0, pmicEn := t.sys.pstate == .run || t.sys.pstate == .doze } } : State) = t.recover := by
  rw [hrun]
  rfl

theorem thermalRecover_wakes {s : State} (hthermal : s.sys.thermal = true) (hfinal : s.sys.final = 2) {tj : Int} (h : tj ≤ 130) {x : Nat}
    (hsince : s.sys.coolSince = some x) (hsecond : x + 1000000000 ≤ s.elapsed) (h4 : s.stage < 4) (hrun : s.sys.pstate = .run) (hwake : s.sys.wake = 0) :
    exec (.thermalRecover tj) s = .next (s.measureTj tj).recover.shedWake := by
  have hst : (s.measureTj tj).stage = s.stage := s.tj_g tj (by decide)
  have hsys := s.tj_sys tj
  obtain ⟨hawake, hsleeps⟩ := State.recover_sleeps (t := s.measureTj tj) (by omega) (by rw [hsys, hrun]) (by rw [hsys, hwake])
  refine (execThermalRecover_ends hthermal hfinal h hsince hsecond rfl).trans (congrArg Host.Outcome.next ((if_neg ?_).trans ?_))
  · rw [State.cooled_stage]
    omega
  · dsimp only
    rw [← hsys, State.recover_of_run (by rw [hsys, hrun]), hawake, hsleeps]
    rfl

/-- Settles O54: a measurement sets the stage it wants or waits for DWELL; what waits in stage 5 is followed through the fall to stage 4; the last stops are
read off their commands. -/
theorem shedAndThermalComplete : Obligations.ShedAndThermalComplete := by
  unfold Obligations.ShedAndThermalComplete
  refine ⟨fun s mv tj hon hwant => ?_, fun s mv tj hon hwant => ?_, fun s mv tj hon h0 h5 hoff hsince => ?_, fun s mv tj x hon h0 h5 hoff hsince hdwell => ?_,
    fun s mv hon h5 => ?_, fun s mv hon hpmic h5 => ?_, fun s mv tj hon h0 => ?_, fun s mv tj hon h5 hfinal hoff => ?_,
    fun s mv tj hon h5 hfinal hsince hoff => ?_, fun s mv tj x hrun h5 hfinal hsince hdwell hcool hoff => ?_, fun s tj hhot hcool hon hfinal hprog => ?_,
    fun s tj hhot hcool hon hfinal hprog => ?_, fun s tj hhot hfinal hwarm => ?_, fun s tj hhot hfinal hcool hsince => ?_,
    fun s tj x hhot hfinal hcool hsince hsecond h5 => ?_, fun s tj x hhot hfinal hcool hsince hsecond h4 hrun hwake => ?_,
    fun s tj o l hhot hthermal hfinal hops => ?_⟩
  · show execShedRise mv tj s = _
    rw [execShedRise, if_neg hon, if_pos hwant]
  · refine ⟨s.measure mv tj, ?_, s.measure_tj mv tj, rfl, fun f hv ht => s.measure_g mv tj hv ht⟩
    show execShedRise mv tj s = _
    rw [execShedRise, if_neg hon, if_neg (by omega)]
  · have hst := s.measure_stage mv tj
    refine ⟨(s.measure mv tj).clearFrom (some (s.measure mv tj).elapsed), ?_, congrArg some (s.measure_elapsed mv tj),
      (State.clearFrom_stage _ _).trans hst⟩
    show execShedFall mv tj s = _
    rw [execShedFall, if_neg hon, State.shedFall_clears (by rw [hst]; exact h0) (.inl (by rw [hst]; exact h5)) (by rw [hst]; exact hoff)
      (by rw [State.measure_sys]; exact hsince)]
  · have hst := s.measure_stage mv tj
    show execShedFall mv tj s = _
    rw [execShedFall, if_neg hon, State.shedFall_falls (by rw [hst]; exact h0) (.inl (by rw [hst]; exact h5)) (by rw [hst]; exact hoff)
      (by rw [State.measure_sys]; exact hsince) (by rw [s.measure_g mv tj (by decide) (by decide), State.measure_elapsed]; exact hdwell)]
  · exact powerFail_pfail hon h5 mv
  · exact powerFail_pmic hon hpmic h5 mv
  · have hst := s.restored_stage mv tj
    refine ⟨s.restored.measure mv tj, (execPowerRestore_on hon mv tj).trans ?_, State.measure_sys _ mv tj, hst.trans h0, State.measure_tj _ mv tj⟩
    exact congrArg Host.Outcome.next (if_pos (.inl (hst.trans h0)))
  · have hst := (s.restored_stage mv tj).trans h5
    refine ⟨(s.restored.measure mv tj).clearFrom none, (execPowerRestore_on hon mv tj).trans ?_, ?_, (State.clearFrom_stage _ _).trans hst⟩
    · rw [State.shedFall_waits (by rw [hst]; decide) (.inr (by rw [State.measure_sys]; exact hfinal)) (by rw [hst]; exact hoff)]
    · show { (s.restored.measure mv tj).sys with clearSince := none } = _
      rw [State.measure_sys]
      rfl
  · have hst := (s.restored_stage mv tj).trans h5
    refine ⟨(s.restored.measure mv tj).clearFrom (some (s.restored.measure mv tj).elapsed), (execPowerRestore_on hon mv tj).trans ?_, ?_,
      (State.clearFrom_stage _ _).trans hst⟩
    · rw [State.shedFall_clears (by rw [hst]; decide) (.inr (by rw [State.measure_sys]; exact hfinal)) (by rw [hst]; exact hoff)
        (by rw [State.measure_sys]; exact hsince)]
    · show { (s.restored.measure mv tj).sys with clearSince := some (s.restored.measure mv tj).elapsed } = _
      rw [State.measure_sys, State.measure_elapsed]
      rfl
  · have hst := (s.restored_stage mv tj).trans h5
    have hsys := s.restored.measure_sys mv tj
    obtain ⟨hstage, hpsc, hpfail, hend, hpmic, hclear⟩ := State.fallOne_five_effect hst (by rw [hsys]; exact hrun) (by rw [hsys]; exact hcool)
    refine ⟨(s.restored.measure mv tj).fallOne, (execPowerRestore_on (by rw [hrun]; decide) mv tj).trans ?_, hstage, hpsc, ?_, hend, hpmic, hclear⟩
    · rw [State.shedFall_falls (by rw [hst]; decide) (.inr (by rw [hsys]; exact hfinal)) (by rw [hst]; exact hoff) (by rw [hsys]; exact hsince)
        (by rw [State.measure_g _ mv tj (by decide) (by decide), State.measure_elapsed]; exact hdwell)]
    · rw [hpfail, hsys]
      rfl
  · exact thermalShutdown_defers hhot hcool hon hfinal hprog
  · exact thermalShutdown_stops hhot hcool hon hfinal hprog
  · refine ⟨(s.measureTj tj).coolFrom none, execThermalRecover_hot hhot hfinal hwarm, ?_, rfl⟩
    show { (s.measureTj tj).sys with coolSince := none } = _
    rw [State.tj_sys]
  · refine ⟨(s.measureTj tj).coolFrom (some s.elapsed), execThermalRecover_cool hhot hfinal hcool hsince, ?_⟩
    show { (s.measureTj tj).sys with coolSince := some s.elapsed } = _
    rw [State.tj_sys]
  · refine ⟨(s.measureTj tj).cooled, (execThermalRecover_ends hhot hfinal hcool hsince hsecond rfl).trans (congrArg Host.Outcome.next (if_pos ?_)), ?_⟩
    · rw [State.cooled_stage]
      exact (s.tj_g tj (by decide)).trans h5
    · show { (s.measureTj tj).sys with thermal := false, coolSince := none } = _
      rw [State.tj_sys]
  · refine (thermalRecover_wakes hhot hfinal hcool hsince hsecond h4 hrun hwake).trans ?_
    rw [State.recover, State.tj_sys]
    rfl
  · show execThermalProgramAbandon tj s = _
    unfold execThermalProgramAbandon
    rw [if_neg (by simp [hthermal, hfinal]; omega)]
    refine congrArg Host.Outcome.next ?_
    dsimp only
    rw [State.f_nvs, hops]

end Sys2Proof.Machine
end

section
/-! What the end of leases, streams, rings and tenants does shows in no register of the field blocks, of power or of reset. -/
set_option Elab.async false
namespace Sys2Proof.Machine
namespace FieldKept

theorem then_rng {s t : State} (h : FieldKept s t) (r : RngS) : FieldKept s { t with rng := r } := h.then_regs rfl

/-! Streams. -/

theorem releaseEvs (s : State) : FieldKept s s.releaseEvs := (foldl sampleEv _ _).after_regs rfl

theorem drainStreams (s : State) : FieldKept s s.drainStreams := (foldl (fun s (st : StreamS) => drainStream st.slot st.hold.length s) _ s).trans (releaseEvs _)

theorem forceStream (slot k : Nat) : ∀ gone s, FieldKept s (State.forceStream slot k gone s) := by
  induction k with
  | zero => exact fun _ => refl
  | succ k ih =>
    intro gone s
    rw [State.forceStream]
    split
    · exact refl s
    · split
      · exact refl s
      · exact (((modStream s slot _).trans (ite (refl _) (modStream _ slot _))).trans (passHead _ slot _)).trans (ih _ _)

theorem placeMark (s : State) (slot cookie : Nat) : FieldKept s (s.placeMark slot cookie) := by
  unfold State.placeMark
  split
  · exact refl s
  · exact (modStream s slot _).trans (putTogether _ _ _ _)

theorem finishWith (s : State) (j : JobS) (st : Nat) : FieldKept s (s.finishWith j st) := finish s j _

theorem finishAfter (s : State) (j : JobS) (uid ring : Nat) : FieldKept s (s.finishAfter j uid ring) := by
  unfold State.finishAfter
  exact ite (ite (of_regs rfl) (finishWith s j _)) ((finishWith _ j _).after_regs rfl)

theorem finishOn (s : State) (id : JobId) (uid ring : Nat) : FieldKept s (s.finishOn id uid ring) := by
  unfold State.finishOn
  split
  · exact finishAfter s _ uid ring
  · exact refl s

theorem settleRun (s : State) (idx : Nat) : FieldKept s (s.settleRun idx) := by
  unfold State.settleRun
  split
  · exact refl s
  · next e _ =>
    have hpass : FieldKept s (if e.state = esSUSPENDED then s else match e.next with
        | some n => s.passTo e (s.stillFrom e n)
        | none => s) := by
      refine ite (refl s) ?_
      split
      · exact passTo s e _
      · exact refl s
    dsimp only
    split
    · exact ite hpass (hpass.trans ((modEnt _ idx _).trans (checkEnd _ idx)))
    · exact hpass

theorem settleNode (s : State) (e : EntS) : FieldKept s (s.settleNode e) := by
  unfold State.settleNode
  split
  · exact refl s
  · dsimp only
    split
    · exact ite ((modEnt s e.idx _).trans (settleRun _ _)) (modEnt s e.idx _)
    · exact modEnt s e.idx _

theorem nofitScan (s : State) : FieldKept s s.nofitScan := (passMissed s).trans (foldl (fun s e => ite (settleNode s e) (refl s)) _ _)

theorem closeStream (s : State) (slot code : Nat) : FieldKept s (s.closeStream slot code) := by
  unfold State.closeStream
  split
  · exact refl s
  · next st _ =>
    have hmarks : FieldKept s (st.marks.foldl (fun s m => s.placeMark slot m.2.1) (State.forceStream slot st.hold.length [] s)) :=
      (forceStream slot _ [] s).trans (foldl (fun s m => placeMark s slot _) _ _)
    refine FieldKept.trans ?_ (nofitScan _)
    refine FieldKept.trans ?_ (foldl (fun s (m : Nat × Nat × JobId) => finishOn s m.2.2 _ st.ring) _ _)
    refine FieldKept.trans ?_ (releaseEvs _)
    refine FieldKept.trans ?_ (closeCask _ _ st.ring code)
    exact hmarks.then_regs rfl

theorem closeStreams (s : State) (code : Nat) (l : List StreamS) : FieldKept s (s.closeStreams code l) := foldl (fun s (st : StreamS) => closeStream s st.slot code) _ _

/-! Leases and tenants. -/

theorem rcgSts (s : State) : FieldKept s s.rcgSts :=
  (((f s (by decide) _).trans (f _ (by decide) _)).trans (f _ (by decide) _)).trans (f _ (by decide) _)

theorem endInst (s : State) (n : Nat) : FieldKept s (s.endInst n) := by
  unfold State.endInst
  split
  · exact refl s
  · exact (rcgSts _).after_regs rfl

theorem discardUpTo (s : State) (uid ring n : Nat) (has : CaskS → Bool) : FieldKept s (s.discardUpTo uid ring n has) := by
  refine FieldKept.trans ?_ (showCbuf _)
  refine FieldKept.trans ?_ (foldl dropFwd _ _)
  exact (foldl countLost _ s).then_regs rfl

theorem tenSts (s : State) : FieldKept s s.tenSts := (f s (by decide) _).trans (f _ (by decide) _)

theorem setLeases (s : State) (l : List LeaseS) : FieldKept s (s.setLeases l) := (tenSts _).after_regs rfl

theorem modLease (s : State) (idx : Nat) (h : LeaseS → LeaseS) : FieldKept s (s.modLease idx h) := setLeases s _

theorem setCtx (s : State) (t : Nat) (c : CtxS) : FieldKept s (s.setCtx t c) := (tenSts _).after_regs rfl

theorem record (s : State) (t : Nat) (e : EvRecS) : FieldKept s (s.record t e) := routeEv s _ _ e

theorem leaseClose (s : State) (l : LeaseS) : FieldKept s (s.leaseClose l) := by
  have hrecord := fun ls e => (((setLeases s ls).trans (inc _ (x := TEN_LEASEEND) (by decide))).trans (record _ l.grantor e)).trans (record _ l.grantee e)
  unfold State.leaseClose
  dsimp only
  split
  · exact (hrecord _ _).trans (finishId _ _ _)
  · exact hrecord _ _

theorem leaseSettle (s : State) (idx : Nat) : FieldKept s (s.leaseSettle idx) := by
  unfold State.leaseSettle
  split
  · exact ite (leaseClose s _) (refl s)
  · exact refl s

theorem leaseGiveUp (s : State) (l : LeaseS) : FieldKept s (s.leaseGiveUp l) := by
  unfold State.leaseGiveUp
  exact ite ((foldl (fun s c => discardUpTo s _ _ _ _) _ _).trans (leaseClose _ l)) (refl s)

theorem endLease (s : State) (idx reason : Nat) (job : Option JobId) : FieldKept s (s.endLease idx reason job) := by
  unfold State.endLease
  split
  · exact refl s
  · next l _ =>
    dsimp only
    split
    · exact refl s
    · have hmod := modLease s idx fun l => { l with ended := some reason, job := job, at_ := s.elapsed }
      have hinsts := fun lost insts => (hmod.trans (closeStreams _ clFLUSH lost)).trans (foldl (fun s (x : Nat × InstS) => endInst s x.1) insts _)
      have hsettle := fun lost insts h => ((hinsts lost insts).trans (modLease _ idx h)).trans (leaseSettle _ idx)
      split
      · exact ite ((hsettle _ _ _).trans (leaseGiveUp _ _)) (hsettle _ _ _)
      · exact hsettle _ _ _

theorem endLeases (s : State) (reason : Nat) (l : List LeaseS) : FieldKept s (s.endLeases reason l) := foldl (fun s (x : LeaseS) => endLease s x.idx reason none) _ _

theorem setOwner (s : State) (e uid : Nat) : FieldKept s (s.setOwner e uid) := of_regs rfl

theorem ownersChange (s : State) (l : List (Nat × Nat)) : FieldKept s (s.ownersChange l) :=
  (((foldl (fun s (x : Nat × Nat) => setOwner s x.1 x.2) _ s).trans (endLeases _ 3 _)).trans (closeStreams _ clFLUSH _)).trans (nofitScan _)

/-! Rings. -/

theorem ringLevel (s : State) (t k : Nat) (arr : Bool) : FieldKept s (s.ringLevel t k arr) :=
  of_loud (fun _ ho => (State.tenantSource_quiet s _ _ _ (Quiet.refl s)).rd _ ho)
    (part_eq (State.ringLevel_same s t k arr (.refl 546) (.refl 546 s)).sys (by decide))

theorem dropCasks (s : State) (uid : Nat) : FieldKept s (s.dropCasks uid) := by
  refine FieldKept.trans ?_ (showCbuf _)
  exact (foldl countLost _ s).then_regs rfl

theorem dropPairs (s : State) (p : PairS → Bool) : FieldKept s (s.dropPairs p) :=
  of_same (State.dropPairs_same s p (.refl 35651584) (.refl 35651584 s)) (by decide) (by decide)

theorem forgetKey (s : State) (uid : Nat) : FieldKept s (s.forgetKey uid) :=
  of_same (State.forgetKey_same s uid (.refl 35651584) (.refl 35651584 s)) (by decide) (by decide)

theorem setTr (s : State) (t : Nat) (r : TRingS) : FieldKept s (s.setTr t r) := of_regs rfl

theorem freeRest (s : State) (t : Nat) (forget keepPairs : Bool) : FieldKept s (s.freeRest t forget keepPairs) := by
  unfold State.freeRest
  refine FieldKept.trans ?_ (setCtx _ t {})
  refine FieldKept.then_rng ?_ _
  refine FieldKept.trans ?_ (foldl (fun s k => ringLevel s t k false) (List.range 4) _)
  refine FieldKept.trans ?_ (setTr _ t {})
  refine FieldKept.trans ?_ (ite (forgetKey _ _) (refl _))
  refine FieldKept.trans ?_ (ownersChange _ _)
  refine FieldKept.trans ?_ (ite (refl _) (dropPairs _ _))
  exact of_regs rfl

theorem freeCtx (s : State) (t : Nat) (forget : Bool) : FieldKept s (s.freeCtx t forget) := (dropCasks s _).trans (freeRest _ t forget false)

theorem distAcked (s : State) (p : Nat) : FieldKept s (s.distAcked p) := by
  unfold State.distAcked
  split
  · exact refl s
  · exact ite (refl s) (ite ((finishId _ _ _).after_regs rfl) (of_regs rfl))

theorem endReport (s : State) (e : EndS) : FieldKept s (s.endReport e) := by
  unfold State.endReport
  split
  · exact cfgAnswer s _ _ _ _
  · exact distAcked s _

theorem fenceRing (s : State) (t r : Nat) : FieldKept s (s.fenceRing t r) :=
  of_same (State.fenceRing_same s t r (.refl 4194336) (.refl 4194336 s)) (by decide) (by decide)

theorem endRing (s : State) (t r : Nat) : FieldKept s (s.endRing t r) :=
  of_same (State.endRing_same s t r (.refl 4194304) (.refl 4194304 s)) (by decide) (by decide)

theorem endCheck (s : State) (t : Nat) : FieldKept s (s.endCheck t) := by
  unfold State.endCheck
  split
  · exact refl s
  · next e _ =>
    have hfence : FieldKept s ((List.range 8).foldl (fun s r => s.fenceRing t r) s) := foldl (fun s r => fenceRing s t r) _ s
    refine ite hfence (FieldKept.trans ?_ (endReport _ e))
    refine FieldKept.trans ?_ (ite (freeCtx _ t e.forget) (setCtx _ t _))
    refine FieldKept.trans ?_ (ringLevel _ t 3 false)
    refine FieldKept.trans ?_ (setTr _ t _)
    exact (hfence.trans (ite (dropCasks _ _) (refl _))).trans (foldl (fun s r => endRing s t r) _ _)

theorem stopRings (s : State) (a : Nat) : FieldKept s (s.stopRings a) := by
  have hstop := fun (s : State) (t : Nat) (r : TRingS) => (setTr s t r).trans (foldl (fun s k => ringLevel s t k false) (List.range 4) _)
  unfold State.stopRings
  refine FieldKept.trans ?_ (foldl endCheck _ _)
  exact then_rng (foldl (fun s t => hstop s t _) _ s) _

theorem loseOpen (s : State) (why : Nat) : FieldKept s (s.loseOpen why) :=
  of_same (State.loseOpen_same s why (.refl 4194304) (.refl 4194304 s)) (by decide) (by decide)

end FieldKept
end Sys2Proof.Machine
end

section
/-! What a core reset does, but for the two writes that are its own, leaves RST_STS READY, the TAP's instruction and its boundary cells alone. -/
set_option Elab.async false
namespace Sys2Proof

theorem Tbl.getL_filter {α : Type} (d : Nat → α) (p : Nat × α → Bool) {k : Nat} (h : ∀ v, p (k, v) = true) (l : List (Nat × α)) :
    Tbl.getL d k (l.filter p) = Tbl.getL d k l := by
  induction l with
  | nil => rfl
  | cons c t ih =>
    by_cases hc : p c = true
    · rw [List.filter_cons_of_pos hc, Tbl.getL, Tbl.getL, ih]
    · rw [List.filter_cons_of_neg hc, ih, Tbl.getL, if_neg fun e : c.1 = k => hc (by
        have hk := h c.2
        rwa [← e] at hk)]

end Sys2Proof

namespace Sys2Proof.Machine

/-- A register outside the range that goes back to its reset values. -/
theorem State.rd_resetRegs (s : State) {lo hi o : Nat} (h : o < lo ∨ hi < o) : (s.resetRegs lo hi).rd o = s.rd o :=
  Tbl.getL_filter _ _ (fun _ => by simp; omega) _

/-- t holds READY of s and what the TAP was given. -/
structure TapKept (s t : State) : Prop where
  ready : t.on RST_STS_READY = s.on RST_STS_READY
  ir : t.sys.ir = s.sys.ir
  cells : t.sys.cells = s.sys.cells

namespace TapKept

theorem refl (s : State) : TapKept s s := ⟨rfl, rfl, rfl⟩

theorem trans {s t u : State} (h : TapKept s t) (h' : TapKept t u) : TapKept s u :=
  ⟨h'.ready.trans h.ready, h'.ir.trans h.ir, h'.cells.trans h.cells⟩

theorem ite {c : Prop} [Decidable c] {s t u : State} (h : TapKept s t) (h' : TapKept s u) : TapKept s (if c then t else u) := by
  split
  · exact h
  · exact h'

theorem foldl {α : Type} {op : State → α → State} {l : List α} (hop : ∀ s, ∀ x ∈ l, TapKept s (op s x)) (s : State) : TapKept s (l.foldl op s) :=
  List.foldlRecOn (motive := fun t => TapKept s t) _ _ (refl s) fun t h x hx => h.trans (hop t x hx)

theorem times {op : State → State} (hop : ∀ s, TapKept s (op s)) (n : Nat) : ∀ s, TapKept s (times op n s) := by
  induction n with
  | zero => exact refl
  | succ n ih => exact fun s => (hop s).trans (ih _)

theorem of_field {s t : State} (h : FieldKept s t) : TapKept s t := ⟨h.on (by decide), by rw [h.sys], by rw [h.sys]⟩

theorem of_sys {s t : State} (h : t.on RST_STS_READY = s.on RST_STS_READY) (hsys : t.sys = s.sys) : TapKept s t := ⟨h, by rw [hsys], by rw [hsys]⟩

theorem of_guard {s t : State} (h : GuardKept s t) (hsys : t.sys = s.sys) : TapKept s t := of_sys (h.on (.inr (.inr rfl))) hsys

theorem of_regs {s t : State} (h : t.regs = s.regs) (hsys : t.sys = s.sys := by rfl) : TapKept s t := of_field (.of_regs h hsys)

theorem of_same {m : Nat} {s t : State} (h : Same m s t) (hregs : Nat.lor 2 m ≠ m) (hsys : Nat.lor 2048 m ≠ m) : TapKept s t :=
  of_field (.of_same h hregs hsys)

theorem then_regs {s t u : State} (h : TapKept s t) (h' : u.regs = t.regs) (hsys : u.sys = t.sys := by rfl) : TapKept s u := h.trans (of_regs h' hsys)

theorem after_regs {s t u : State} (h : TapKept t u) (h' : t.regs = s.regs) (hsys : t.sys = s.sys := by rfl) : TapKept s u := (of_regs h' hsys).trans h

theorem f (s : State) {x : Fld} (h : x.off ≠ 0x34818) (v : Nat) : TapKept s (s.f x v) :=
  of_sys (by rw [State.on, State.on, State.g, State.g, State.rd_f_ne s v h.symm]) rfl

theorem inc (s : State) {x : Fld} (h : x.off ≠ 0x34818) : TapKept s (s.inc x) := f s h _

theorem incBy (s : State) {x : Fld} (h : x.off ≠ 0x34818) (n : Nat) : TapKept s (s.incBy x n) := f s h _

theorem zero {l : List Fld} (h : ∀ x ∈ l, x.off ≠ 0x34818) (s : State) : TapKept s (s.zero l) := foldl (fun s x hx => f s (h x hx) 0) s

theorem f64 (s : State) {lo hi : Fld} (hlo : lo.off ≠ 0x34818) (hhi : hi.off ≠ 0x34818) (v : Nat) : TapKept s (s.f64 lo hi v) :=
  (f s hlo _).trans (f _ hhi _)

/-- A range of registers that holds no RST_STS goes back to its reset values. -/
theorem resetRegs (s : State) (lo hi : Nat) (h : hi < 0x34818 ∨ 0x34818 < lo) : TapKept s (s.resetRegs lo hi) := by
  refine of_sys ?_ rfl
  rw [State.on, State.on, State.g, State.g, State.rd_resetRegs s (o := RST_STS_READY.off)]
  exact h.symm

/-! The end of an entry into a power state. -/

theorem canPins (s : State) : TapKept s s.canPins := foldl (fun s x _ => f s (by simp; omega) _) s

theorem placeWatch (l : List WatchS) : ∀ s gap lost, TapKept s (s.placeWatch l gap lost).1 := by
  induction l with
  | nil => exact fun s _ _ => refl s
  | cons w rest ih =>
    intro s gap lost
    rw [State.placeWatch]
    split
    · exact ih _ _ _
    · split
      · exact ih _ _ _
      · exact (of_field (.putTogether s _ _ _)).trans (ih _ _ _)

theorem routeEv (s : State) (uid home : Nat) (e : EvRecS) : TapKept s (s.routeEv uid home e) := of_field (.routeEv s uid home e)

theorem placeWatchEvs (s : State) (l : List WatchS) (lost : List (Nat × Nat × Nat)) : TapKept s (s.placeWatchEvs l lost) := by
  refine TapKept.trans (foldl (fun s x _ => routeEv s _ _ _) s) (foldl (fun s w _ => ?_) _)
  split
  · exact routeEv s _ _ _
  · exact refl s

theorem handWatch (s : State) : TapKept s s.handWatch := by
  unfold State.handWatch
  refine TapKept.trans ?_ (placeWatchEvs _ _ _)
  refine TapKept.trans ?_ (foldl (fun s (x : Nat × Nat) _ => of_field (.modStream s _ _)) _)
  exact (placeWatch _ _ _ _).after_regs rfl

theorem interrupt (s : State) (e : Nat) : TapKept s (s.interrupt e) := of_field (.interruptAll s [e])

theorem mashGap (s : State) (n : Nat) : TapKept s (s.mashGap n) := by
  unfold State.mashGap
  split
  · exact ite (interrupt s _) (refl s)
  · exact refl s

theorem mashPurge (s : State) (n : Nat) : TapKept s (s.mashPurge n) := of_regs rfl

theorem mashInterrupt (s : State) (n : Nat) : TapKept s (s.mashInterrupt n) := by
  unfold State.mashInterrupt
  exact ite ((mashGap _ n).after_regs rfl) (refl s)

theorem mashStage (s : State) : TapKept s s.mashStage := by
  refine foldl (fun s n _ => ?_) s
  exact ite (refl s) (ite (ite (refl s) ((mashPurge s n).then_regs rfl)) (ite (ite (of_regs rfl) (mashInterrupt s n)) (refl s)))

theorem schedStage (s : State) : TapKept s s.schedStage := by
  obtain ⟨t, ht, h⟩ := FieldKept.schedStage s
  rw [h]
  exact ((of_field ht).trans (f _ (by simp) _)).trans (f _ (by simp) _)

theorem handback (s : State) {set : State → State} (hset : TapKept s (set s)) : TapKept s (s.handback set) := by
  unfold State.handback
  refine TapKept.trans ?_ (canPins _)
  refine TapKept.trans ?_ (of_field (.rcgStage _))
  refine TapKept.trans ?_ (mashStage _)
  refine TapKept.trans ?_ (schedStage _)
  refine TapKept.trans ?_ (foldl (fun s (e : EntS) _ => of_field (.modEnt s e.idx _)) _)
  refine TapKept.trans ?_ (foldl (fun s b _ => by
    split
    · exact of_regs rfl
    · exact refl s) _)
  exact (hset.trans (handWatch _)).trans ⟨rfl, rfl, rfl⟩

theorem abortEntry (s : State) : TapKept s s.abortEntry := by
  unfold State.abortEntry
  split
  · exact refl s
  · have hphase : TapKept s (s.phase 0) := f s (by simp) _
    exact ite (hphase.trans ⟨rfl, rfl, rfl⟩) (hphase.trans (handback _ ⟨rfl, rfl, rfl⟩))

/-! The safe states of the guard, and the store. -/

theorem setGuState {c : Nat} (hc : c < 32) (s : State) (st : Nat) : TapKept s (s.setGuState c st) := by
  refine of_sys ?_ (part_eq (State.setGuState_same s c st (.refl 12611622) (.refl 12611622 s)).sys (by decide))
  rw [State.on, State.on, State.setGuState_g hc s st (.inr (.inr rfl)) (.inl (by simp; omega))]

theorem guSafe {c : Nat} (hc : c < 32) (s : State) : TapKept s (s.guSafe c) :=
  ite ((setGuState hc _ _).after_regs rfl) (ite ((setGuState hc _ _).after_regs rfl) (of_regs rfl))

theorem applySafe (s : State) : TapKept s s.applySafe :=
  (foldl (fun s _ hc => ite (guSafe (List.mem_range.1 hc) s) (refl s)) s).trans (f _ (by simp) _)

theorem showNvs (s : State) : TapKept s s.showNvs := f s (by simp) _

theorem showJournal (s : State) : TapKept s s.showJournal := (f64 s (by simp) (by simp) _).trans (f64 _ (by simp) (by simp) _)

theorem eraseBlk (s : State) (p : Nat) : TapKept s (s.eraseBlk p) := (showNvs _).after_regs rfl

theorem eraseAhead (s : State) : TapKept s s.eraseAhead := by
  unfold State.eraseAhead
  split
  · dsimp only
    split
    · refine TapKept.trans ?_ (showJournal _)
      split
      · exact (eraseBlk _ _).after_regs rfl
      · exact of_regs rfl
    · exact refl s
  · exact refl s

theorem jadvance (s : State) : TapKept s s.jadvance := ite (of_regs rfl) ((eraseAhead _).after_regs rfl)

theorem keyDone (s : State) (uid gen : Nat) (key : List Nat) (job : JobId) (fail : Option Nat) (redone : Bool) :
    TapKept s (s.keyDone uid gen key job fail redone) := by
  unfold State.keyDone
  split
  · exact of_field (.finishId s job _)
  · refine TapKept.trans ?_ (of_field (.finishId _ job _))
    split
    · exact of_field (.setCtx s _ _)
    · exact refl s

theorem nvDrop (s : State) : TapKept s s.nvDrop := (showNvs _).after_regs rfl

theorem nvAbandon (s : State) (o : NvOpS) : TapKept s (s.nvAbandon o) := by
  have hdrop : TapKept s (s.nvDrop.inc NVS_ABANDON) := (nvDrop s).trans (inc _ (by simp))
  unfold State.nvAbandon
  dsimp only
  split
  · exact hdrop.trans (jadvance _)
  · exact hdrop.then_regs rfl
  · exact hdrop.trans (keyDone _ _ _ _ _ _ _)
  · exact hdrop

theorem nvReset (s : State) : TapKept s s.nvReset := by
  unfold State.nvReset
  refine TapKept.trans ?_ (showNvs _)
  refine TapKept.trans ?_ (f _ (by simp) _)
  refine TapKept.trans ?_ (zero (by simp) _)
  have hold : TapKept s (match s.nvs.ops with
    | o :: _ => if o.tgt.isSome then s.nvAbandon o else s
    | [] => s) := by
    split
    · exact ite (nvAbandon s _) (refl s)
    · exact refl s
  exact ite (hold.then_regs rfl) (hold.then_regs rfl)

/-! The ports of bond links. -/

theorem dropSession (s : State) (p : Nat) : TapKept s (s.dropSession p) := by
  unfold State.dropSession
  refine TapKept.trans ?_ (of_field (.setPort _ p _))
  refine TapKept.after_regs (foldl (fun s x _ => ?_) _) rfl
  split
  · exact ite (refl s) (of_field (.setPort s _ _))
  · exact refl s

theorem sendLocal (s : State) (p cls : Nat) (payload : List Nat) : TapKept s (s.sendLocal p cls payload) :=
  of_same (State.sendLocal_same s p cls payload (.refl 8388640) (.refl 8388640 s)) (by decide) (by decide)

theorem fillCode (s : State) (p : Nat) : TapKept s (s.fillCode p) :=
  of_same (State.fillCode_same s p (.refl 8388640) (.refl 8388640 s)) (by decide) (by decide)

theorem closeSession (s : State) (p : Nat) : TapKept s (s.closeSession p) :=
  (ite (sendLocal s p _ _) (refl s) : TapKept s (if s.linkUp p = true then _ else s)).trans (dropSession _ p)

theorem portOff {p : Nat} (hp : p < 4) (s : State) : TapKept s (s.portOff p) := by
  unfold State.portOff
  refine TapKept.trans ?_ (zero (by simp; omega) _)
  refine TapKept.trans ?_ (f _ (by simp; omega) _)
  refine TapKept.trans ?_ (f _ (by simp; omega) _)
  refine TapKept.trans ?_ (f _ (by simp; omega) _)
  refine TapKept.trans ?_ (f _ (by simp) _)
  exact ((closeSession s p).trans (fillCode _ p)).trans (of_field (.setPort _ p _))

/-! A self-check that ends, and the trips it may bring. -/

theorem discard (s : State) (r : Reg) (i j code : Nat) (h : r.err ≠ 0x34818) : TapKept s (s.discard r i j code) := by
  have hmark : TapKept s (s.errMark r.err (r.at i j) code) :=
    of_sys (by rw [State.on, State.on, State.g, State.g, State.errMark, State.rd_wr_ne _ _ (Ne.symm h)]) rfl
  exact hmark.trans (of_field (.raiseHub _ _))

theorem joinTrip (s : State) (c cause : Nat) : TapKept s (s.joinTrip c cause) := f s (by simp; omega) _

theorem lifeInc (s : State) (i n : Nat) : TapKept s (s.lifeInc i n) := of_regs rfl

theorem setGu (s : State) (c : Nat) (u : GuS) : TapKept s (s.setGu c u) := of_regs rfl

theorem takeTrip (s : State) (c cause : Nat) : TapKept s (s.takeTrip c cause) := by
  unfold State.takeTrip
  refine TapKept.trans ?_ (setGu _ c _)
  refine TapKept.trans ?_ (ite (lifeInc _ _ _) (refl _))
  refine TapKept.trans ?_ (f _ (by simp; omega) _)
  refine TapKept.trans ?_ (inc _ (by simp; omega))
  exact (f s (by simp) _).trans (f _ (by simp; omega) _)

theorem tripNow {c : Nat} (hc : c < 32) (s : State) (cause : Nat) : TapKept s (s.tripNow c cause) := by
  unfold State.tripNow
  refine TapKept.trans ?_ (takeTrip _ c cause)
  refine TapKept.trans ?_ (setGuState hc _ _)
  exact ite (incBy s (by simp; omega) 1) (refl s)

theorem guardTrip {c : Nat} (hc : c < 32) (s : State) (cause : Nat) : TapKept s (s.guardTrip c cause) := by
  unfold State.guardTrip
  refine ite (TapKept.trans ?_ (tripNow hc _ cause)) (ite (joinTrip s c cause) (ite (tripNow hc s cause) (refl s)))
  exact ite (discard s _ _ _ _ (by decide)) (refl s)

theorem windowTrips (s : State) (m : Nat) (hiUp loUp : Bool) : TapKept s (s.windowTrips m hiUp loUp) := by
  unfold State.windowTrips
  split
  · exact refl s
  · next c _ hm => exact ite (guardTrip (monGuard_lt hm) s _) (refl s)

theorem captureEdge (s : State) (src sel : Nat) (fall : Bool) : TapKept s (s.captureEdge src sel fall) :=
  of_guard (.captureEdge s src sel fall) (part_eq (State.captureEdge_same s src sel fall (.refl 1826) (.refl 1826 s)).sys (by decide))

theorem lvlEdge (s : State) (m : Nat) (fall : Bool) : TapKept s (s.lvlEdge m fall) := by
  have htooth : TapKept s (if fall then s else s.toothEdge m) := ite (refl s) (ite (of_regs rfl) (refl s))
  have hedge : ∀ t : State, TapKept t ((((t.event m t.ct).f64 (WIN_MLASTCTLO m) (WIN_MLASTCTHI m) t.ct).tickUnits 5 m fall).captureEdge 1 m fall) :=
    fun t => ((((of_field (.event t m _)).trans (f64 _ (by simp; omega) (by simp; omega) _)).trans
      (of_regs (State.tickUnits_regs _ _ _ _) (State.tickUnits_sys _ _ _ _)))).trans (captureEdge _ _ _ _)
  unfold State.lvlEdge
  dsimp only
  exact ite (ite ((htooth.trans (hedge _)).trans (of_field (.wakeReq _ 2))) (htooth.trans (hedge _))) htooth

theorem setComp (s : State) (m : Nat) (hi lo : Bool) : TapKept s (s.setComp m hi lo) := by
  have hon : ∀ (t : State) (c : Bool) {x : Fld} (_ : x.off = 0x30108 + 0x20 * m) (v : Nat), TapKept t (if c then t.f x v else t) := fun t c x hx v =>
    ite (f t (by omega) v) (refl t)
  unfold State.setComp
  refine TapKept.trans ?_ (windowTrips _ m _ _)
  refine TapKept.trans ?_ (ite (lvlEdge _ m _) (refl _))
  refine TapKept.trans ?_ (f _ (by simp; omega) _)
  refine TapKept.trans ?_ (f _ (by simp; omega) _)
  refine TapKept.trans ?_ (f _ (by simp; omega) _)
  exact (((hon s _ rfl 1).trans (hon _ _ rfl 1)).trans (hon _ _ rfl 1)).trans (hon _ _ rfl 1)

theorem compare (s : State) (m : Nat) : TapKept s (s.compare m) := ite (refl s) (ite (refl s) (setComp s m _ _))

theorem dropCheck (s : State) : TapKept s s.dropCheck := by
  have hzero : TapKept s (s.zero [WIN_SCSTS_BUSY]) := zero (by simp) s
  unfold State.dropCheck
  refine ite ?_ (refl s)
  dsimp only
  split
  · exact (hzero.trans (f _ (by simp; omega) _)).trans (compare _ _)
  · exact hzero

/-! What the core reset empties. -/

theorem wipeField (s : State) : TapKept s s.wipeField := by
  unfold State.wipeField
  refine TapKept.trans ?_ (f _ (by simp) _)
  refine TapKept.trans ?_ (foldl (fun s b hb => ite (f s (by simp; omega) _) (refl s)) _)
  refine TapKept.then_regs (TapKept.trans ?_ (resetRegs _ 0 0x1BFFF (by decide))) rfl
  refine TapKept.trans ?_ (of_field (.drainStreams _))
  refine TapKept.trans ?_ (of_field (.foldl (fun s (x : Nat × Nat) => .missPoll s x.1 x.2 gapMISSED) _ _))
  refine TapKept.trans ?_ (f _ (by simp) _)
  exact (of_field (.passMissed s)).then_regs rfl

theorem slaveGap (s : State) (x : Nat) : TapKept s (s.slaveGap x) := of_field (.interruptAll s _)

theorem canReset (s : State) : TapKept s s.canReset := by
  have hgap : TapKept s ((List.range 8).foldl (fun s x => if s.on (CAN_PCFG_EN x) then s.canGap x else s) s) :=
    foldl (fun s x _ => ite (of_field (.interruptAll s _)) (refl s)) s
  exact (hgap.trans (resetRegs _ 0x1C000 0x24FFF (by decide))).then_regs rfl

theorem memReset (s : State) : TapKept s s.memReset := (resetRegs s 0x2C000 0x2DFFF (by decide)).then_regs rfl

theorem resetTimers (s : State) : TapKept s s.resetTimers := (resetRegs s _ _ (by decide)).then_regs rfl

theorem wipePorts (s : State) : TapKept s s.wipePorts := by
  unfold State.wipePorts
  refine TapKept.trans ?_ (resetRegs _ _ _ (by decide))
  refine TapKept.trans ?_ (resetRegs _ _ _ (by decide))
  refine TapKept.trans ?_ (canPins _)
  refine TapKept.trans ?_ (resetTimers _)
  refine TapKept.trans ?_ (canReset _)
  refine TapKept.trans ?_ (memReset _)
  refine TapKept.then_regs (TapKept.trans ?_ (resetRegs _ 0x31000 0x31FFF (by decide))) rfl
  refine TapKept.trans ?_ (dropCheck _)
  exact foldl (fun s x _ => ite (slaveGap s x) (refl s)) s

theorem wipeOuts (s : State) : TapKept s s.wipeOuts := by
  unfold State.wipeOuts
  refine TapKept.then_regs (TapKept.trans ?_ (resetRegs _ 0x32400 0x327FF (by decide))) rfl
  exact TapKept.after_regs (foldl (fun s n _ => mashGap s n) _) rfl

theorem resetInst (s : State) (n : Nat) : TapKept s (s.resetInst n) :=
  of_field (((FieldKept.rcgPurge s n).trans (.modInst _ n _)).trans (.rcgOut _ n _))

theorem rcgResetAll (s : State) : TapKept s s.rcgResetAll := foldl (fun s (x : Nat × InstS) _ => (interrupt s x.2.outep).trans (resetInst _ x.1)) s

theorem countDec (s : State) (d : DecR) : TapKept s (s.countDec d) := by
  have hclip := incBy s (x := EPT_CLIPPED) (by simp) d.clips
  have hextrap : TapKept s (if d.extrap = true then (s.incBy EPT_CLIPPED d.clips).inc EPT_EXTRAP else s.incBy EPT_CLIPPED d.clips) :=
    ite (hclip.trans (inc _ (by simp))) hclip
  exact ite hextrap (hextrap.trans (inc _ (by simp)))

theorem fanOut (s : State) (e ct fl : Nat) (past : Int) (d : DecR) : TapKept s (s.fanOut e ct fl past d) :=
  of_field (((FieldKept.mashFeed s e ct fl _).trans (.rcgFeed _ e ct fl _ past)).trans (.foldl (fun s (st : StreamS) => .offer s st.slot _) _ _))

theorem overSwitch (s : State) (e ct : Nat) : TapKept s (s.overSwitch e ct) := ite (of_regs rfl) (refl s)

theorem decodeRaw (s : State) (x : RawS) : TapKept s (s.decodeRaw x) := by
  unfold State.decodeRaw
  refine ite (inc s (by simp)) (ite (((inc s (by simp)).trans (f _ (by simp) _)).trans (of_field (.missEp _ _ _ _))) ?_)
  dsimp only
  split
  · exact (overSwitch s _ _).trans (inc _ (by simp))
  · exact ((overSwitch s _ _).trans (countDec _ _)).trans (fanOut _ _ _ _ _ _)

theorem decodeHead (s : State) : TapKept s s.decodeHead := by
  unfold State.decodeHead
  split
  · exact refl s
  · refine TapKept.trans ?_ (of_field (.drainStreams _))
    exact (decodeRaw _ _).after_regs rfl

theorem retireBank (s : State) : TapKept s s.retireBank := by
  unfold State.retireBank
  refine TapKept.trans ?_ (of_field (.raiseHub _ _))
  refine TapKept.trans ?_ (inc _ (by simp))
  refine TapKept.trans ?_ (f _ (by simp) _)
  refine TapKept.trans ?_ (zero (by simp) _)
  exact (times decodeHead _ s).then_regs rfl

theorem setStaged (s : State) (img : List Nat) (st : Nat) : TapKept s (s.setStaged img st) := by
  refine TapKept.trans ?_ (f _ (by simp) _)
  exact TapKept.after_regs (f _ (by simp) _) rfl

theorem eptReset (s : State) : TapKept s s.eptReset := by
  unfold State.eptReset
  have hqueue : ∀ t : State, TapKept t ({ t with ept := { t.ept with load := none, queue := [], cans := [] } } : State).drainStreams :=
    fun t => (of_field (.drainStreams _)).after_regs rfl
  have hretire : TapKept s s.retireNow := ite (retireBank s) (refl s)
  exact ite (((hretire.trans (hqueue _)).trans (setStaged _ _ _)).trans (showNvs _)) (hretire.trans (hqueue _))

theorem settle (s : State) : TapKept s s.settle :=
  of_field (.of_loud (fun o ho => (State.settle_quiet s (Quiet.refl s)).rd o ho) (State.settle_sys s))

theorem setStack {k : Nat} (hk : k < 32) (s : State) (st : List (Nat × Nat)) : TapKept s (s.setStack k st) := by
  have htgt : TapKept s (s.setTgt k { s.tgt k with stack := st }) := of_regs rfl
  exact (htgt.trans (f _ (by simp; omega) _)).trans (f _ (by simp; omega) _)

theorem setSrc (s : State) (n : Nat) (r : SrcS) : TapKept s (s.setSrc n r) := of_regs rfl

theorem then_icu {s t : State} (h : TapKept s t) (icu : IcuS) : TapKept s { t with icu := icu } := h.then_regs rfl

theorem resetIcu (s : State) : TapKept s s.resetIcu := by
  unfold State.resetIcu
  refine TapKept.trans ?_ (settle _)
  refine TapKept.trans ?_ (f _ (by simp) _)
  refine then_icu ?_ _
  refine TapKept.trans ?_ (foldl (fun s _ hk => setStack (List.mem_range.1 hk) s []) _)
  exact foldl (fun s n _ => setSrc s n _) s

theorem then_emptied {s t : State} (h : TapKept s t) (rng : RngS) (rol : RolS) (ten : TenS) (bnd : BndS) :
    TapKept s { t with rng := rng, rol := rol, ten := ten, bnd := bnd } := h.then_regs rfl

theorem wipeLogic (s : State) (k : RKind) : TapKept s (s.wipeLogic k) := by
  unfold State.wipeLogic
  refine TapKept.trans ?_ (resetIcu _)
  refine TapKept.trans ?_ (f _ (by simp) _)
  refine then_emptied ?_ _ _ _ _
  refine TapKept.trans ?_ (of_field (.stopRings _ _))
  refine TapKept.trans ?_ (of_field (.loseOpen _ _))
  refine TapKept.trans ?_ (eptReset _)
  exact (rcgResetAll s).then_regs rfl

theorem wipeCore (s : State) (k : RKind) : TapKept s (s.wipeCore k) :=
  (((wipeField s).trans (wipePorts _)).trans (wipeOuts _)).trans (wipeLogic _ k)

end TapKept
end Sys2Proof.Machine
end

section
/-! Boot, images and the TAP (obligation O56). -/
set_option Elab.async false
namespace Sys2Proof.Machine

/-! The stages of boot. -/

theorem State.g_stage_f (s : State) {n : Nat} (h : n < 16) : (s.f BOOT_STS_STAGE n).g BOOT_STS_STAGE = n := State.g_f_lt s (by decide) h

theorem State.portOn_g (s : State) (p : Nat) {f : Fld} (h : f.off = 0x34818 ∨ f.off = 0x3540C) : (s.portOn p).g f = s.g f := by
  unfold State.portOn
  split
  · rw [State.trainFrom1_g _ _ (.inl (by simp; omega)) (.inl (by simp; omega)) (.inl (by simp; omega)), State.g_f_apart _ (by simp [Fld.fits]) _ (.inl (by simp; omega))]
  · rfl

theorem State.bootReady_g (s : State) {f : Fld} (h : f.off = 0x34818 ∨ f.off = 0x3540C) :
    s.bootReady.g f = (((s.f RST_STS_READY 1).f BOOT_TREADY (min s.bootMs 65535)).f BOOT_STS_STAGE 9).g f := by
  have hports : ∀ t : State, ((List.range 4).foldl State.portOn t).g f = t.g f := fun t =>
    List.foldlRecOn (motive := fun u => u.g f = t.g f) (List.range 4) State.portOn rfl fun u hu p _ => (State.portOn_g u p h).trans hu
  exact (State.g_of_regs rfl f).trans (hports _)

theorem State.bootReady_ready (s : State) : s.bootReady.on RST_STS_READY = true := by
  rw [State.on, s.bootReady_g (.inl rfl), State.g_f_apart _ (by decide) _ (by decide), State.g_f_apart _ (by decide) _ (by decide),
    State.g_f_lt s (by decide) (by decide)]
  rfl

/-- A stage that ends leads to the next. -/
theorem bootStageDone_next {s : State} (hon : s.sys.pstate ≠ .off) (htap : s.sys.tap = false) (hfinal : s.sys.final = 0) (ra rb rg : Bool)
    (hstage : s.g BOOT_STS_STAGE ∈ [0, 2, 4, 5, 6, 7, 8]) :
    ∃ t, exec (.bootStageDone ra rb rg) s = .next t ∧ t.g BOOT_STS_STAGE = s.g BOOT_STS_STAGE + 1 ∧
      (s.g BOOT_STS_STAGE = 8 → t.on RST_STS_READY = true) := by
  show ∃ t, execBootStageDone ra rb rg s = .next t ∧ _
  unfold execBootStageDone
  rw [if_neg (by simp [hon, htap, hfinal])]
  simp only [List.mem_cons, List.not_mem_nil, or_false] at hstage
  rcases hstage with h | h | h | h | h | h | h <;> rw [h]
  · exact ⟨_, rfl, State.g_stage_f _ (by decide), nofun⟩
  · exact ⟨_, rfl, State.g_stage_f _ (by decide), nofun⟩
  · exact ⟨_, rfl, State.g_stage_f _ (by decide), nofun⟩
  · exact ⟨_, rfl, State.g_stage_f _ (by decide), nofun⟩
  · exact ⟨_, rfl, State.g_stage_f _ (by decide), nofun⟩
  · exact ⟨_, rfl, (State.wakeIcu_g _ (by decide)).trans (State.g_stage_f _ (by decide)), nofun⟩
  · exact ⟨_, rfl, (s.bootReady_g (.inr rfl)).trans (State.g_stage_f _ (by decide)), fun _ => s.bootReady_ready⟩

/-- Why the image of a slot is not taken, 0 where it is good. -/
def slotWhy (read : Bool) (b key : List Nat) : Nat := if read then imgReason b key else 4

theorem slotWhy_good (read : Bool) (b key : List Nat) : (slotWhy read b key == 0) = (read && imgReason b key == 0) := by
  cases read <;> rfl

/-- Which slots hold a good image, as BOOT_IMG shows it. -/
def State.showValid (s : State) (wa wb : Nat) : State := (s.f BOOT_IMG_AVALID (b2n (wa == 0))).f BOOT_IMG_BVALID (b2n (wb == 0))

theorem State.showValid_a (s : State) (wa wb : Nat) : (s.showValid wa wb).on BOOT_IMG_AVALID = (wa == 0) :=
  (State.on_f_apart _ (by decide) _ (by decide)).trans (State.on_f_self s (by decide) _)

theorem State.showValid_b (s : State) (wa wb : Nat) : (s.showValid wa wb).on BOOT_IMG_BVALID = (wb == 0) := State.on_f_self _ (by decide) _

theorem State.bootImage_none {s : State} {ra rb : Bool} (h : slotWhy ra s.boot.a s.boot.keyDigest ≠ 0 ∧ slotWhy rb s.boot.b s.boot.keyDigest ≠ 0) :
    s.bootImage ra rb = ((s.showValid (slotWhy ra s.boot.a s.boot.keyDigest) (slotWhy rb s.boot.b s.boot.keyDigest)).f BOOT_STS_IMGREASON
      (slotWhy ra s.boot.a s.boot.keyDigest)).f BOOT_STS_STAGE 0xA := if_pos h

theorem State.bootImage_some {s : State} {ra rb : Bool} (h : ¬ (slotWhy ra s.boot.a s.boot.keyDigest ≠ 0 ∧ slotWhy rb s.boot.b s.boot.keyDigest ≠ 0)) :
    ∃ active rel why other, s.bootImage ra rb =
      (((((s.showValid (slotWhy ra s.boot.a s.boot.keyDigest) (slotWhy rb s.boot.b s.boot.keyDigest)).f BOOT_IMG_ACTIVE active).f BOOT_FWREL rel).f
        BOOT_STS_IMGREASON why).f BOOT_IMG_FALLBACK other).f BOOT_STS_STAGE 4 := ⟨_, _, _, _, if_neg h⟩

/-- Stage 3 takes the good image of the higher sequence number, or ends in RECOVERY. -/
theorem State.bootImage_effect (s : State) (ra rb : Bool) :
    (s.bootImage ra rb).on BOOT_IMG_AVALID = (ra && imgReason s.boot.a s.boot.keyDigest == 0) ∧
    (s.bootImage ra rb).on BOOT_IMG_BVALID = (rb && imgReason s.boot.b s.boot.keyDigest == 0) ∧
    (s.bootImage ra rb).g BOOT_STS_STAGE =
      (if ((s.bootImage ra rb).on BOOT_IMG_AVALID || (s.bootImage ra rb).on BOOT_IMG_BVALID) then 4 else 0xA) ∧
    s.bootImage ra rb = { s with regs := (s.bootImage ra rb).regs } := by
  by_cases h : slotWhy ra s.boot.a s.boot.keyDigest ≠ 0 ∧ slotWhy rb s.boot.b s.boot.keyDigest ≠ 0
  · have ha : (s.bootImage ra rb).on BOOT_IMG_AVALID = (slotWhy ra s.boot.a s.boot.keyDigest == 0) := by
      rw [State.bootImage_none h, State.on_f_apart _ (by decide) _ (by decide), State.on_f_apart _ (by decide) _ (by decide), State.showValid_a]
    have hb : (s.bootImage ra rb).on BOOT_IMG_BVALID = (slotWhy rb s.boot.b s.boot.keyDigest == 0) := by
      rw [State.bootImage_none h, State.on_f_apart _ (by decide) _ (by decide), State.on_f_apart _ (by decide) _ (by decide), State.showValid_b]
    refine ⟨ha.trans (slotWhy_good _ _ _), hb.trans (slotWhy_good _ _ _), ?_, ?_⟩
    · rw [ha, hb, beq_false_of_ne h.1, beq_false_of_ne h.2, State.bootImage_none h, State.g_stage_f _ (by decide)]
      rfl
    · rw [State.bootImage_none h]
      rfl
  · obtain ⟨active, rel, why, other, heq⟩ := State.bootImage_some h
    have ha : (s.bootImage ra rb).on BOOT_IMG_AVALID = (slotWhy ra s.boot.a s.boot.keyDigest == 0) := by
      rw [heq, State.on_f_apart _ (by decide) _ (by decide), State.on_f_apart _ (by decide) _ (by decide), State.on_f_apart _ (by decide) _ (by decide),
        State.on_f_apart _ (by decide) _ (by decide), State.on_f_apart _ (by decide) _ (by decide), State.showValid_a]
    have hb : (s.bootImage ra rb).on BOOT_IMG_BVALID = (slotWhy rb s.boot.b s.boot.keyDigest == 0) := by
      rw [heq, State.on_f_apart _ (by decide) _ (by decide), State.on_f_apart _ (by decide) _ (by decide), State.on_f_apart _ (by decide) _ (by decide),
        State.on_f_apart _ (by decide) _ (by decide), State.on_f_apart _ (by decide) _ (by decide), State.showValid_b]
    refine ⟨ha.trans (slotWhy_good _ _ _), hb.trans (slotWhy_good _ _ _), ?_, ?_⟩
    · rw [ha, hb, if_pos (by simp only [Bool.or_eq_true, beq_iff_eq]; tauto), heq, State.g_stage_f _ (by decide)]
    · rw [heq]
      rfl

theorem imgReason_lt (b key : List Nat) : imgReason b key < 4 := by
  unfold imgReason
  dsimp only
  split_ifs <;> decide

/-! Updates and the guard image. -/

theorem State.setSlot_updB (s : State) (b : List Nat) : (if s.updB then (s.setSlot b).boot.b else (s.setSlot b).boot.a) = b := by
  cases h : s.updB <;> simp [State.setSlot, h]

theorem State.setSlot_regs (s : State) (b : List Nat) : (s.setSlot b).regs = s.regs := by
  unfold State.setSlot
  split <;> rfl

/-- The end of an update, with its reason. -/
def State.updateEnd (s : State) (why : Nat) : State :=
  (((s.f BOOT_UPSTS_STATE (if why = 0 then 2 else 3)).f BOOT_UPSTS_REASON why).showNvs).raiseHub srcTABLE

theorem State.updateEnd_state (s : State) (why : Nat) : (s.updateEnd why).g BOOT_UPSTS_STATE = if why = 0 then 2 else 3 := by
  unfold State.updateEnd
  rw [State.raiseHub_g _ _ (by decide), State.showNvs, State.g_f_apart _ (by decide) _ (by decide), State.g_f_apart _ (by decide) _ (by decide)]
  exact State.g_f_lt s (by decide) (by split <;> decide)

theorem State.updateEnd_reason (s : State) {why : Nat} (h : why < 256) : (s.updateEnd why).g BOOT_UPSTS_REASON = why := by
  unfold State.updateEnd
  rw [State.raiseHub_g _ _ (by decide), State.showNvs, State.g_f_apart _ (by decide) _ (by decide)]
  exact State.g_f_lt _ (by decide) h

theorem State.updateEnd_boot (s : State) (why : Nat) : (s.updateEnd why).boot = s.boot := State.raiseHub_boot _ _

/-- The image is no newer than the one that runs. -/
def State.notNewer (s : State) (b : List Nat) : Bool := match s.runSeq with | some q => decide (imgSeq b ≤ q) | none => false

/-- Why an image that was read, stored and is in its region is not taken. -/
def State.updateWhy (s : State) (b : List Nat) : Nat :=
  if imgReason b s.boot.keyDigest = 0 ∧ s.notNewer b = true then 6
  else imgReason b s.boot.keyDigest

theorem State.updateWhy_of_fault {s : State} {b : List Nat} (h : imgReason b s.boot.keyDigest ≠ 0) : s.updateWhy b = imgReason b s.boot.keyDigest :=
  if_neg fun e => h e.1

theorem State.updateWhy_of_newer {s : State} {b : List Nat} (h : imgReason b s.boot.keyDigest = 0) (hnew : ∀ q, s.runSeq = some q → q < imgSeq b) :
    s.updateWhy b = 0 := by
  refine (if_neg ?_).trans h
  rintro ⟨_, hold⟩
  unfold State.notNewer at hold
  split at hold
  · next q hq =>
    have hlt := hnew q hq
    have hle := of_decide_eq_true hold
    omega
  · exact Bool.false_ne_true hold

theorem execUpdateDone_stored {s : State} (h : s.g BOOT_UPSTS_STATE = 1) (hworn : s.rgnWorn 1 = false) (b : List Nat) :
    execUpdateDone true true b s = .next ((s.setSlot b).updateEnd (s.updateWhy b)) := by
  have hlt := imgReason_lt b s.boot.keyDigest
  have hwhy : s.updateWhy b ≠ 4 ∧ s.updateWhy b ≠ 5 := by
    unfold State.updateWhy
    split <;> omega
  have hkept : (if !true then 4 else if !true ∨ s.rgnWorn 1 then 5 else imgReason b s.boot.keyDigest) = imgReason b s.boot.keyDigest := by
    rw [if_neg (by decide), if_neg (by simp [hworn])]
  unfold execUpdateDone
  rw [if_neg (not_not.2 h)]
  dsimp only
  rw [hkept]
  show Host.Outcome.next ((if s.updateWhy b = 5 then (if s.updateWhy b = 4 ∨ s.updateWhy b = 5 then s else s.setSlot b).setWorn 1
    else if s.updateWhy b = 4 ∨ s.updateWhy b = 5 then s else s.setSlot b).updateEnd (s.updateWhy b)) = _
  rw [if_neg hwhy.2, if_neg (by tauto)]

theorem execUpdateDone_unread {s : State} (h : s.g BOOT_UPSTS_STATE = 1) (st : Bool) (b : List Nat) :
    execUpdateDone false st b s = .next (s.updateEnd 4) := by
  unfold execUpdateDone
  rw [if_neg (not_not.2 h)]
  rfl

theorem State.upCtlWrite_go {s : State} (hidle : s.g BOOT_UPSTS_STATE ≠ 1) (hmem : s.on MEM_CFG_EN = true) :
    s.upCtlWrite 1 = (((s.f BOOT_UPSTS_STATE 1).f BOOT_UPSTS_REASON 0).setSlot []).showNvs := by
  unfold State.upCtlWrite
  rw [if_neg (by decide), if_neg hidle, if_neg (by rw [hmem]; decide)]

theorem State.upCtlWrite_busy {s : State} (h : s.g BOOT_UPSTS_STATE = 1) : s.upCtlWrite 1 = s.discard rBOOT_UPCTL 0 0 BUSY := by
  unfold State.upCtlWrite
  rw [if_neg (by decide), if_pos h]

/-- A guard image is to be written. -/
def State.guardBegin (s : State) (b : List Nat) : State :=
  (({ s with boot := { s.boot with gop := some b } } : State).f BOOT_GSTS_BUSY 1).showNvs

theorem State.guardBegin_busy (s : State) (b : List Nat) : (s.guardBegin b).on BOOT_GSTS_BUSY = true := by
  rw [State.guardBegin, State.showNvs, State.on_f_apart _ (by decide) _ (by decide)]
  exact State.on_f_self _ (by decide) true

theorem State.gCtlWrite_begins {s : State} {v : Word} (hone : v = 1 ∨ v = 2) (hworn : s.rgnWorn 2 = false) (hsw : s.sw ≠ swSTORING) (hgop : s.boot.gop = none) :
    s.gCtlWrite v = s.guardBegin (if wbit v 0 then s.guardImage else []) := by
  unfold State.gCtlWrite
  rw [if_neg (by rcases hone with rfl | rfl <;> decide), if_neg (by rcases hone with rfl | rfl <;> decide), if_neg (by rw [hworn]; decide),
    if_neg (by simp [hsw, hgop])]
  rfl

/-- The end of the work on the guard image. -/
def State.guardEnd (s : State) : State := ((s.f BOOT_GSTS_BUSY 0).showNvs).raiseHub srcTABLE

theorem State.guardEnd_busy (s : State) : s.guardEnd.on BOOT_GSTS_BUSY = false := by
  rw [State.guardEnd, State.on, State.raiseHub_g _ _ (by decide), ← State.on, State.showNvs, State.on_f_apart _ (by decide) _ (by decide)]
  exact State.on_f_self _ (by decide) false

theorem State.guardEnd_boot (s : State) : s.guardEnd.boot = s.boot := State.raiseHub_boot _ _

theorem State.guardEnd_worn (s : State) {r : Nat} (h : r < 8) : s.guardEnd.rgnWorn r = s.rgnWorn r := by
  unfold State.guardEnd State.rgnWorn
  rw [State.on, State.raiseHub_g _ _ (by simp [rgnFld, Loud]; omega), ← State.on, State.showNvs, State.on_f_apart _ (by decide) _ (.inl (by simp [rgnFld]; omega)),
    State.on_f_apart _ (by decide) _ (.inl (by simp [rgnFld]; omega))]

theorem State.upBegin_g (s : State) {f : Fld} (h : f.apart NVS_STS_BUSY) :
    (((s.f BOOT_UPSTS_STATE 1).f BOOT_UPSTS_REASON 0).setSlot []).showNvs.g f = ((s.f BOOT_UPSTS_STATE 1).f BOOT_UPSTS_REASON 0).g f := by
  rw [State.showNvs, State.g_f_apart _ (by decide) _ h]
  exact State.g_of_regs (State.setSlot_regs _ _) f

theorem State.upBegin_state (s : State) : (((s.f BOOT_UPSTS_STATE 1).f BOOT_UPSTS_REASON 0).setSlot []).showNvs.g BOOT_UPSTS_STATE = 1 := by
  rw [State.upBegin_g s (by decide), State.g_f_apart _ (by decide) _ (by decide), State.g_f_lt s (by decide) (by decide)]

theorem State.upBegin_reason (s : State) : (((s.f BOOT_UPSTS_STATE 1).f BOOT_UPSTS_REASON 0).setSlot []).showNvs.g BOOT_UPSTS_REASON = 0 := by
  rw [State.upBegin_g s (by decide), State.g_f_lt _ (by decide) (by decide)]

theorem State.upBegin_parts (s : State) : (((s.f BOOT_UPSTS_STATE 1).f BOOT_UPSTS_REASON 0).setSlot []).showNvs =
    { s with regs := (((s.f BOOT_UPSTS_STATE 1).f BOOT_UPSTS_REASON 0).setSlot []).showNvs.regs
             boot := (((s.f BOOT_UPSTS_STATE 1).f BOOT_UPSTS_REASON 0).setSlot []).showNvs.boot } := by
  unfold State.setSlot
  split <;> rfl

/-- The guard image stands so, and no work on it is in progress. -/
def State.guardTo (s : State) (b : List Nat) : State := { s with boot := { s.boot with gop := none, guard := b } }

theorem execGuardImageDone_done {s : State} {b : List Nat} (h : s.boot.gop = some b) : execGuardImageDone true s = .next (s.guardTo b).guardEnd := by
  unfold execGuardImageDone
  rw [h]
  rfl

theorem execGuardImageDone_failed {s : State} {b : List Nat} (h : s.boot.gop = some b) :
    execGuardImageDone false s = .next ((((s.guardTo s.boot.guard).setWorn 2).discard rBOOT_GCTL 0 0 NVM_WORN).guardEnd) := by
  unfold execGuardImageDone
  rw [h]
  rfl

theorem State.guardBegin_gop (s : State) (b : List Nat) : (s.guardBegin b).boot.gop = some b ∧ (s.guardBegin b).boot.guard = s.boot.guard := ⟨rfl, rfl⟩

theorem State.f_eq_regs (s : State) (x : Fld) (v : Nat) : s.f x v = { s with regs := (s.f x v).regs } := rfl

theorem State.shown_eq_regs (s : State) : (s.f BOOT_GSTS_BUSY 1).showNvs = { s with regs := ((s.f BOOT_GSTS_BUSY 1).showNvs).regs } := by
  rw [State.showNvs, State.f_eq_regs, State.f_eq_regs s]

theorem State.guardBegin_parts (s : State) (b : List Nat) :
    s.guardBegin b = { s with regs := (s.guardBegin b).regs, boot := (s.guardBegin b).boot } := State.shown_eq_regs _

theorem State.setWorn_boot (s : State) (r : Nat) : (s.setWorn r).boot = s.boot :=
  part_eq (State.setWorn_same s r (.refl 12583458) (.refl 12583458 s)).boot (by decide)

theorem State.discard_boot (s : State) (r : Reg) (i j code : Nat) : (s.discard r i j code).boot = s.boot :=
  part_eq (State.discard_same s r i j code (.refl 546) (.refl 546 s)).boot (by decide)

theorem State.discard_gctl_worn (s : State) (code : Nat) : (s.discard rBOOT_GCTL 0 0 code).rgnWorn 2 = s.rgnWorn 2 := by
  show (s.discard rBOOT_GCTL 0 0 code).on (rgnFld 2 31 31) = s.on (rgnFld 2 31 31)
  rw [State.on, State.discard, State.err_g s _ _ _ (by decide) (by decide), State.on]

/-! The TAP. -/

/-- The TAP's instruction, and what the boundary cells are given. -/
def State.tapTo (s : State) (ir : Nat) (cells : List Bool) : State := { s with sys := { s.sys with ir := ir, cells := cells } }

/-- The core reset of the TAP's isolation. -/
def State.tapReset (s : State) : State :=
  ((List.range 4).foldl State.portOff (((s.abortEntry.f RST_STS_READY 0).applySafe).nvReset)).wipeCore .core

/-- The course of resets stands so. -/
def State.resetAt (s : State) (r : Option RstS) : State := { s with sys := { s.sys with rst := r } }

theorem SysS.tap_of_holds {y : SysS} (h : y.ir = 0 ∨ y.ir = 3 ∨ y.ir = 4) : y.tap = true := by
  unfold SysS.tap
  rcases h with h | h | h <;> rw [h] <;> rfl

theorem SysS.tap_of_frees {y : SysS} (h0 : y.ir ≠ 0) (h3 : y.ir ≠ 3) (h4 : y.ir ≠ 4) : y.tap = false := by
  have hins : tapIns y.ir = .idcode ∨ tapIns y.ir = .sample ∨ tapIns y.ir = .bypass := by
    unfold tapIns
    split <;> simp_all
  unfold SysS.tap
  rcases hins with h | h | h <;> rw [h]

/-- What follows the TAP's instruction where it newly holds the core. -/
def State.tapHolds (was : Bool) (s : State) : State :=
  if was ∨ !s.sys.tap then s
  else if s.mayReset ∧ !s.booting ∧ !(match s.sys.rst with | some r => r.kind != .hk | none => false) then s.tapReset.resetAt none
  else s

theorem execTapIsolate_eq (s : State) (ir : Nat) (cells : List Bool) :
    execTapIsolate ir cells s = .next ((s.tapTo (ir % 256) cells).tapHolds s.sys.tap) := by
  unfold execTapIsolate State.tapHolds State.resetAt State.tapReset State.tapTo
  rfl

theorem State.tapHolds_resets {s : State} (htap : s.sys.tap = true) (hmay : s.mayReset = true) (hboot : s.booting = false) (hrst : s.sys.rst = none) :
    s.tapHolds false = s.tapReset.resetAt none := by
  unfold State.tapHolds
  rw [if_neg (by simp [htap]), if_pos ⟨hmay, by rw [hboot]; rfl, by rw [hrst]; rfl⟩]

theorem execTapIsolate_resets {s : State} {ir : Nat} (hir : ir = 0 ∨ ir = 3 ∨ ir = 4) (htap : s.sys.tap = false) (hmay : s.mayReset = true)
    (hboot : s.booting = false) (hrst : s.sys.rst = none) (cells : List Bool) :
    execTapIsolate ir cells s = .next ((s.tapTo ir cells).tapReset.resetAt none) := by
  rw [execTapIsolate_eq, htap, Nat.mod_eq_of_lt (by omega), State.tapHolds_resets (s := s.tapTo ir cells) (SysS.tap_of_holds hir) hmay hboot hrst]

theorem State.tapReset_kept (s : State) : TapKept (s.abortEntry.f RST_STS_READY 0) s.tapReset :=
  (((TapKept.applySafe _).trans (.nvReset _)).trans (.foldl (fun s _ hp => .portOff (List.mem_range.1 hp) s) _)).trans (.wipeCore _ _)

theorem State.tapReset_effect (s : State) : s.tapReset.sys.ir = s.sys.ir ∧ s.tapReset.sys.cells = s.sys.cells ∧ s.tapReset.on RST_STS_READY = false := by
  have habort := TapKept.abortEntry s
  have hreset := s.tapReset_kept
  exact ⟨hreset.ir.trans habort.ir, hreset.cells.trans habort.cells, hreset.ready.trans (State.on_f_self _ (by decide) false)⟩

theorem State.resetAt_effect (s : State) (r : Option RstS) : (s.resetAt r).sys.ir = s.sys.ir ∧ (s.resetAt r).sys.cells = s.sys.cells ∧
    (s.resetAt r).sys.tap = s.sys.tap ∧ (s.resetAt r).sys.rst = r ∧ (s.resetAt r).on RST_STS_READY = s.on RST_STS_READY := ⟨rfl, rfl, rfl, rfl, rfl⟩

/-- EXTEST, CLAMP or HIGHZ resets the core, which is then not READY. -/
theorem tapIsolate_resets {s : State} {ir : Nat} (hir : ir = 0 ∨ ir = 3 ∨ ir = 4) (htap : s.sys.tap = false) (hmay : s.mayReset = true)
    (hboot : s.booting = false) (hrst : s.sys.rst = none) (cells : List Bool) :
    ∃ t, exec (.tapIsolate ir cells) s = .next t ∧ t.sys.ir = ir ∧ t.sys.cells = cells ∧ t.sys.tap = true ∧ t.sys.rst = none ∧
      t.on RST_STS_READY = false := by
  obtain ⟨hir', hcells, hready⟩ := (s.tapTo ir cells).tapReset_effect
  have hir'' : (s.tapTo ir cells).tapReset.sys.ir = ir := hir'
  obtain ⟨hatir, hatcells, hattap, hatrst, hatready⟩ := (s.tapTo ir cells).tapReset.resetAt_effect none
  exact ⟨_, execTapIsolate_resets hir htap hmay hboot hrst cells, hatir.trans hir'', hatcells.trans hcells,
    hattap.trans (SysS.tap_of_holds (by rw [hir'']; exact hir)), hatrst, hatready.trans hready⟩

/-- What follows the TAP's instruction where it no longer holds the core. -/
def State.tapFrees (was : Bool) (s : State) : State :=
  if !was ∨ s.sys.tap then s
  else if s.mayReset ∧ !s.booting ∧ s.sys.rst.isNone then
    (s.noteReset .core 3).resetAt (some { kind := .core, src := 3, step := 2, t0 := s.elapsed })
  else s.beginReset .core 3

theorem execTapRelease_eq (s : State) (ir : Nat) : execTapRelease ir s = .next ((s.tapTo (ir % 256) s.sys.cells).tapFrees s.sys.tap) := by
  unfold execTapRelease State.tapFrees State.resetAt State.tapTo
  rfl

theorem State.tapFrees_resets {s : State} (htap : s.sys.tap = false) (hmay : s.mayReset = true) (hboot : s.booting = false) (hrst : s.sys.rst = none) :
    s.tapFrees true = (s.noteReset .core 3).resetAt (some { kind := .core, src := 3, step := 2, t0 := s.elapsed }) := by
  unfold State.tapFrees
  rw [if_neg (by simp [htap]), if_pos ⟨hmay, by rw [hboot]; rfl, by rw [hrst]; rfl⟩]

theorem execTapRelease_resets {s : State} {ir : Nat} (hlt : ir < 256) (h0 : ir ≠ 0) (h3 : ir ≠ 3) (h4 : ir ≠ 4) (htap : s.sys.tap = true)
    (hmay : s.mayReset = true) (hboot : s.booting = false) (hrst : s.sys.rst = none) : execTapRelease ir s =
    .next (((s.tapTo ir s.sys.cells).noteReset .core 3).resetAt (some { kind := .core, src := 3, step := 2, t0 := s.elapsed })) := by
  rw [execTapRelease_eq, htap, Nat.mod_eq_of_lt hlt, State.tapFrees_resets (s := s.tapTo ir s.sys.cells) (SysS.tap_of_frees h0 h3 h4) hmay hboot hrst]
  rfl

theorem State.noteReset_src (s : State) (k : RKind) {src : Nat} (h : src < 16) : (s.noteReset k src).g RST_CAUSE_SRC = src := by
  unfold State.noteReset State.inc State.incBy
  rw [State.g_f_apart _ (by cases k <;> decide) _ (by cases k <;> decide), State.g_f_apart _ (by decide) _ (by decide), State.g_f_lt s (by decide) h]

theorem State.noteReset_eq_regs (s : State) (k : RKind) (src : Nat) : s.noteReset k src = { s with regs := (s.noteReset k src).regs } := by
  unfold State.noteReset State.inc State.incBy
  rw [State.f_eq_regs, State.f_eq_regs (s.f _ _), State.f_eq_regs s]

theorem State.resetAt_g (s : State) (r : Option RstS) (f : Fld) : (s.resetAt r).g f = s.g f := rfl

theorem State.resetAt_parts {s t : State} {regs : Tbl Word} (h : t = { s with regs := regs }) (r : Option RstS) :
    (t.resetAt r).sys = { s.sys with rst := r } ∧ t.resetAt r = { s with regs := (t.resetAt r).regs, sys := (t.resetAt r).sys } := by
  subst h
  exact ⟨rfl, rfl⟩

/-- Settles O56, clause by clause; the TAP's isolation by what a core reset leaves of READY and of the TAP (TapKept). -/
theorem bootCompletes : Obligations.BootCompletes := by
  unfold Obligations.BootCompletes
  refine ⟨fun s ra rb rg hon htap hfinal h => bootStageDone_next hon htap hfinal ra rb rg h, fun s ra rb rg hon htap hfinal h hxin hpg hlock => ?_,
    fun s ra rb rg hon htap hfinal h => ?_, fun s hon h hxin hpast => ?_, fun s hon h hxin hwait hpg hen hpast => ?_, fun s hon h hxin hwait hpast => ?_,
    fun s hon h hpast => ?_, fun s wr ofs v hlink h => ?_, fun s ofs v hlink h => ?_, fun s ofs v n hlink h hword => ?_, fun s h hidle hmem => ?_,
    fun s h hbusy => ?_, fun s st b h => ?_, fun s b h hworn => ?_, fun s h hworn hsw hgop => ?_, fun s h hworn hsw hgop => ?_, fun s b h => ?_, fun s b h => ?_,
    fun s ir cells hir htap hmay hboot hrst => tapIsolate_resets hir htap hmay hboot hrst cells, fun s ir hlt h0 h3 h4 htap hmay hboot hrst => ?_⟩
  · show execBootStageDone ra rb rg s = _
    unfold execBootStageDone
    rw [if_neg (by simp [hon, htap, hfinal]), h]
    exact congrArg Host.Outcome.next (if_pos ⟨hxin, hpg, hlock⟩)
  · show ∃ t, execBootStageDone ra rb rg s = .next t ∧ _
    unfold execBootStageDone
    rw [if_neg (by simp [hon, htap, hfinal]), h]
    exact ⟨_, rfl, s.bootImage_effect ra rb⟩
  · show execBootStageTimeout s = _
    unfold execBootStageTimeout
    rw [if_neg hon, h]
    exact congrArg Host.Outcome.next ((if_pos (by rw [hxin]; rfl)).trans (if_pos hpast))
  · show execBootStageTimeout s = _
    unfold execBootStageTimeout
    rw [if_neg hon, h]
    exact congrArg Host.Outcome.next ((if_neg (by rw [hxin]; decide)).trans ((if_neg (by rw [hwait]; decide)).trans
      ((if_pos (by rw [hpg]; rfl)).trans (if_pos ⟨hen, hpast⟩))))
  · show ∃ t, execBootStageTimeout s = .next t ∧ _
    unfold execBootStageTimeout
    rw [if_neg hon, h]
    exact ⟨_, congrArg Host.Outcome.next ((if_neg (by rw [hxin]; decide)).trans ((if_pos hwait).trans (if_pos hpast))), rfl, rfl, rfl⟩
  · show execBootStageTimeout s = _
    unfold execBootStageTimeout
    rw [if_neg hon, h]
    simp only [hpast, if_true]
  · show execConfigRequest wr ofs v s = _
    unfold execConfigRequest
    rw [if_neg (by rw [hlink]; decide), if_pos h]
  · show ∃ t, execConfigRequest true ofs v s = .next t ∧ _
    unfold execConfigRequest
    rw [if_neg (by rw [hlink]; decide), if_neg (by omega)]
    exact ⟨_, rfl, Tbl.get_set_self _ _ _ _, rfl, rfl⟩
  · show ∃ t, execConfigRequest false ofs v s = .next t ∧ _
    unfold execConfigRequest
    rw [if_neg (by rw [hlink]; decide), if_neg (by omega)]
    dsimp only
    rw [if_neg (by decide), show ({ s with sys := { s.sys with cfgRetry := false } } : State).cfgWord (ofs / 4 * 4) = some n from hword]
    exact ⟨_, rfl, rfl, rfl⟩
  · refine completes rfl ((State.barWrite_accepted h (by decide) _ _ _).trans (State.upCtlWrite_go hidle hmem)) ⟨State.upBegin_state _, State.upBegin_reason _, State.upBegin_parts _⟩
  · exact congrArg Host.Outcome.next ((State.barWrite_accepted h (by decide) _ _ _).trans (State.upCtlWrite_busy hbusy))
  · exact ⟨_, execUpdateDone_unread h st b, s.updateEnd_state 4, s.updateEnd_reason (by decide), s.updateEnd_boot 4⟩
  · refine ⟨_, execUpdateDone_stored h hworn b, fun hbad => ?_, fun hgood hnew => ?_, ?_⟩
    · have hlt := imgReason_lt b s.boot.keyDigest
      rw [State.updateWhy_of_fault hbad, State.updateEnd_state, if_neg hbad, State.updateEnd_reason _ (by omega)]
      exact ⟨rfl, rfl⟩
    · rw [State.updateWhy_of_newer hgood hnew, State.updateEnd_state, State.updateEnd_reason _ (by decide)]
      exact ⟨rfl, rfl⟩
    · rw [State.updateEnd_boot]
      exact s.setSlot_updB b
  · obtain ⟨hop, _⟩ := s.awake.guardBegin_gop s.awake.guardImage
    exact completes rfl ((State.barWrite_accepted h (by decide) _ _ _).trans ((State.gCtlWrite_begins (.inl rfl) hworn hsw hgop).trans
      (congrArg s.awake.guardBegin (if_pos (by decide))))) ⟨hop, State.guardBegin_busy _ _, State.guardBegin_parts _ _⟩
  · obtain ⟨hop, hguard⟩ := s.awake.guardBegin_gop []
    exact completes rfl ((State.barWrite_accepted h (by decide) _ _ _).trans ((State.gCtlWrite_begins (.inr rfl) hworn hsw hgop).trans
      (congrArg s.awake.guardBegin (if_neg (by decide))))) ⟨hop, hguard, State.guardBegin_busy _ _, State.guardBegin_parts _ _⟩
  · have hboot := State.guardEnd_boot (s.guardTo b)
    exact ⟨_, execGuardImageDone_done h, by rw [hboot]; rfl, by rw [hboot]; rfl, State.guardEnd_busy _⟩
  · have hboot := (State.guardEnd_boot _).trans ((State.discard_boot _ rBOOT_GCTL 0 0 NVM_WORN).trans (State.setWorn_boot (s.guardTo s.boot.guard) 2))
    refine ⟨_, execGuardImageDone_failed h, by rw [hboot]; rfl, by rw [hboot]; rfl, State.guardEnd_busy _, ?_⟩
    exact (State.guardEnd_worn _ (by decide)).trans ((State.discard_gctl_worn _ _).trans (State.setWorn_worn _ (by decide)))
  · obtain ⟨hsys, hparts⟩ := State.resetAt_parts (State.noteReset_eq_regs (s.tapTo ir s.sys.cells) .core 3)
      (some { kind := .core, src := 3, step := 2, t0 := s.elapsed })
    exact ⟨_, execTapRelease_resets hlt h0 h3 h4 htap hmay hboot hrst, by rw [hsys]; rfl, by rw [hsys]; exact SysS.tap_of_frees h0 h3 h4,
      by rw [hsys], (State.resetAt_g _ _ _).trans (State.noteReset_src (s.tapTo ir s.sys.cells) .core (by decide)), hparts⟩

end Sys2Proof.Machine
end

section
/-! What the close of a cycle and the plan of the next leave of the scheduler's transactions, and of the course buses' other registers. -/
set_option Elab.async false
namespace Sys2Proof.Machine
namespace FieldKept

/-! Transactions. -/

theorem entRecord (s : State) (e : EntS) (t code status : Nat) : FieldKept s (s.entRecord e t code status) := placeSampleEv s _

theorem dropTag (s : State) (n : Nat) : FieldKept s (s.dropTag n) := (f _ (x := PSC_TAGS) (by decide) _).after_regs rfl

theorem then_psc {s t : State} (h : FieldKept s t) (psc : PscS) : FieldKept s { t with psc := psc } := h.then_regs rfl

theorem finTxn (s : State) (x : TxnS) (status : Nat) : FieldKept s (s.finTxn x status) := by
  unfold State.finTxn
  refine FieldKept.trans ?_ (drainStreams _)
  refine FieldKept.trans ?_ (checkEnd _ _)
  have hdrop : FieldKept s (({ s with psc := { s.psc with txns := s.psc.txns.filter fun y => y.tag != x.tag } } : State).dropTag x.tag) :=
    (dropTag _ x.tag).after_regs rfl
  split
  · exact hdrop
  · next e _ =>
    have hmod := fun h => hdrop.trans (modEnt _ x.ent h)
    have hlost := fun h => (hmod h).trans (inc _ (x := PSC_LASTING) (by decide))
    have hretry : ∀ t : State, FieldKept t (if x.retried then t.inc PSC_RETRYOK else t) := fun t => ite (inc t (by decide)) (refl t)
    exact ite (ite (hlost _) ((hlost _).trans (entRecord _ _ _ _ _))) (ite (hmod _) (ite (((hmod _).trans (hretry _)).trans (entRecord _ _ _ _ _))
      ((hmod _).trans (hretry _))))

theorem loseTxn (s : State) (x : TxnS) (status : Nat) : FieldKept s (s.loseTxn x status) := by
  unfold State.loseTxn
  refine FieldKept.trans ?_ (finTxn _ _ _)
  exact (missEach _ _ _ _).after_regs rfl

theorem loseNode (s : State) (b a : Nat) : FieldKept s (s.loseNode b a) := foldl (fun s x => loseTxn s x LASTING_FAULT) _ _

theorem takeTag (s : State) : FieldKept s s.takeTag.1 := by
  unfold State.takeTag
  exact FieldKept.after_regs ((f _ (x := PSC_TAGS) (by decide) _).trans (f _ (x := PSC_TAGHWM) (by decide) _)) rfl

theorem commitInst (s : State) (e : EntS) (t b cyc : Nat) : FieldKept s (s.commitInst e t b cyc).1 := by
  have hadv := modEnt s e.idx EntS.advance
  unfold State.commitInst
  dsimp only
  split
  · refine FieldKept.trans ?_ (inc _ (x := PSC_ISSUED) (by decide))
    refine FieldKept.trans ?_ (modEnt _ _ _)
    exact (hadv.trans (takeTag _)).then_psc _
  · refine ((hadv.trans (inc _ ?_)).trans (missPolls _ _ _ _)).trans (checkEnd _ _)
    unfold noTag
    split_ifs <;> decide

theorem commitOne (s : State) (b c idx : Nat) : FieldKept s (s.commitOne b c idx).1 := by
  unfold State.commitOne
  split
  · split
    · dsimp only
      split
      · exact ((modEnt s idx _).trans (modEnt _ idx _)).trans (checkEnd _ idx)
      · exact commitInst s _ _ _ _
    · exact refl s
  · exact refl s

theorem commitEnt (b c idx n : Nat) : ∀ r, FieldKept r.1 (State.commitEnt b c idx n r).1 := by
  induction n with
  | zero => exact fun r => refl r.1
  | succ n ih =>
    rintro ⟨s, m, l⟩
    exact (commitOne s b c idx).trans (ih ((s.commitOne b c idx).1, m ++ (s.commitOne b c idx).2.1, l ++ (s.commitOne b c idx).2.2))

theorem lateOne (s : State) (idx : Nat) : FieldKept s (s.lateOne idx) := by
  unfold State.lateOne
  split
  · split
    · exact ((((modEnt s idx _).trans (missPolls _ idx _ _)).trans (modEnt _ idx _)).trans (inc _ (x := PSC_LATE) (by decide))).trans (checkEnd _ idx)
    · exact refl s
  · exact refl s

theorem reachCut (s : State) (idx : Nat) : FieldKept s (s.reachCut idx) := by
  unfold State.reachCut
  split
  · exact refl s
  · split
    · exact refl s
    · refine ite (refl s) ?_
      dsimp only
      split
      · exact modEnt s idx _
      · exact ((modEnt s idx _).trans (passTo _ _ _)).trans (modEnt _ idx _)

theorem incBy (s : State) {x : Fld} (h : ¬ Shown x.off) (n : Nat) : FieldKept s (s.incBy x n) := f s h _

theorem then_crs {s t : State} (h : FieldKept s t) (crs : CrsS) : FieldKept s { t with crs := crs } := h.then_regs rfl

theorem mashSts (s : State) : FieldKept s s.mashSts := by
  have hpool : FieldKept s (((s.f MSH_POOLSTS_FREE (16384 - (s.poolRuns.map Prod.snd).sum)).f MSH_POOLSTS_LONGEST
      ((runStarts s.poolRuns).foldl (fun n a => max n (freeFrom s.poolRuns a)) 0))) := (f s (by decide) _).trans (f _ (by decide) _)
  refine hpool.trans (List.foldlRecOn (motive := fun t => FieldKept _ t) _ _ (refl _) fun t h x hx => h.trans (f t ?_ _))
  have hlt := List.mem_range.1 hx
  unfold Shown InField
  simp only
  omega

theorem setEp (s : State) (e : Nat) (r : EpS) : FieldKept s (s.setEp e r) := of_regs rfl

theorem mashPurge (s : State) (n : Nat) : FieldKept s (s.mashPurge n) := of_regs rfl

theorem setCh (s : State) (n : Nat) (c : ChS) : FieldKept s (s.setCh n c) := of_regs rfl

theorem chOff (s : State) (n : Nat) : FieldKept s (s.chOff n) := by
  unfold State.chOff
  exact ite (refl s) (((mashPurge s n).trans (setCh _ n _)).trans (mashSts _))

theorem releaseOld (s : State) (id : Nat) : FieldKept s (s.releaseOld id) := by
  unfold State.releaseOld
  refine FieldKept.then_crs ?_ _
  refine FieldKept.trans ?_ (foldl (fun s e => (setEp s e _).trans (setOwner _ e 0)) _ _)
  refine FieldKept.trans ?_ (foldl chOff _ _)
  refine FieldKept.trans ?_ (foldl (fun s (x : Nat × InstS) => endInst s x.1) _ _)
  refine FieldKept.trans ?_ (closeStreams _ clFLUSH _)
  exact of_regs rfl

theorem takeRecs (s : State) (id : Nat) (reps : List (List Nat)) : FieldKept s (s.takeRecs id reps).1 := by
  unfold State.takeRecs
  split
  · exact foldl (fun s (x : Nat × List Nat × Nat) => setEp s x.1 _) _ _
  · exact (releaseOld s id).trans (foldl (fun s (x : Nat × List Nat × Nat) => setEp s x.1 _) _ _)

theorem keepPair (s : State) (id uid : Nat) : FieldKept s (s.keepPair id uid) := ite (refl s) (ite (refl s) (of_regs rfl))

theorem bindNode (s : State) (id : Nat) : FieldKept s (s.bindNode id) := by
  unfold State.bindNode
  refine FieldKept.trans ?_ (ownersChange _ _)
  split
  · exact keepPair s _ _
  · split
    · exact keepPair s _ _
    · exact refl s

theorem entsBack (s : State) (id : Nat) : FieldKept s (s.entsBack id) := (passMissed s).trans (foldl (fun s e => ite (settleNode s e) (refl s)) _ _)

end FieldKept
/-! The close of a cycle, and the plan of the next. -/

/-- t holds the field blocks' registers and the course buses of s. -/
structure FarKept (s t : State) : Prop where
  field : FieldKept s t
  crs : t.crs = s.crs

namespace FarKept

theorem refl (s : State) : FarKept s s := ⟨.refl s, rfl⟩

theorem trans {s t u : State} (h : FarKept s t) (h' : FarKept t u) : FarKept s u := ⟨h.field.trans h'.field, h'.crs.trans h.crs⟩

theorem of_same {m : Nat} {s t : State} (h : FieldKept s t) (hsame : Same m s t) (hcrs : Nat.lor 8192 m ≠ m) : FarKept s t :=
  ⟨h, part_eq hsame.crs hcrs⟩

theorem ite {c : Prop} [Decidable c] {s t u : State} (h : FarKept s t) (h' : FarKept s u) : FarKept s (if c then t else u) := by
  split
  · exact h
  · exact h'

theorem foldl {α : Type} {op : State → α → State} (hop : ∀ s x, FarKept s (op s x)) (l : List α) (s : State) : FarKept s (l.foldl op s) :=
  List.foldlRecOn (motive := fun t => FarKept s t) _ _ (refl s) fun t h x _ => h.trans (hop t x)

theorem times {op : State → State} (hop : ∀ s, FarKept s (op s)) (n : Nat) : ∀ s, FarKept s (times op n s) := by
  induction n with
  | zero => exact refl
  | succ n ih => exact fun s => (hop s).trans (ih _)

theorem modEnt (s : State) (n : Nat) (h : EntS → EntS) : FarKept s (s.modEnt n h) := ⟨.modEnt s n h, rfl⟩

theorem inc (s : State) {x : Fld} (h : ¬ Shown x.off) : FarKept s (s.inc x) := ⟨.inc s h, rfl⟩

theorem incBy (s : State) {x : Fld} (h : ¬ Shown x.off) (n : Nat) : FarKept s (s.incBy x n) := ⟨.incBy s h n, rfl⟩

theorem passMissed (s : State) : FarKept s s.passMissed := of_same (.passMissed s) (State.passMissed_same s (.refl 14162466) (.refl 14162466 s)) (by decide)

theorem lateOne (s : State) (idx : Nat) : FarKept s (s.lateOne idx) :=
  of_same (.lateOne s idx) (State.lateOne_same s idx (.refl 14162466) (.refl 14162466 s)) (by decide)

theorem commitEnts (b c : Nat) (n : EntS → Nat) (l : List EntS) (r : State × List (Nat × Nat) × List (Nat × Nat × Nat)) :
    FarKept r.1 (l.foldl (fun r e => State.commitEnt b c e.idx (n e) r) r).1 :=
  List.foldlRecOn (motive := fun x => FarKept r.1 x.1) _ _ (refl r.1) fun x h e _ => h.trans
    (of_same (.commitEnt b c e.idx (n e) x) (State.commitEnt_same b c e.idx (n e) x (.refl 14162466) (.refl 14162466 x.1)) (by decide))

theorem reachCut (s : State) (idx : Nat) : FarKept s (s.reachCut idx) :=
  of_same (.reachCut s idx) (State.reachCut_same s idx (.refl 14162466) (.refl 14162466 s)) (by decide)

theorem missOnce (s : State) (ep t : Nat) : FarKept s (s.missOnce ep t) :=
  of_same (.missOnce s ep t) (State.missOnce_same s ep t (.refl 14162466) (.refl 14162466 s)) (by decide)

theorem missPolls (s : State) (idx t : Nat) (eps : List Nat) : FarKept s (s.missPolls idx t eps) :=
  of_same (.missPolls s idx t eps) (State.missPolls_same s idx t eps (.refl 14162466) (.refl 14162466 s)) (by decide)

theorem checkEnd (s : State) (idx : Nat) : FarKept s (s.checkEnd idx) :=
  of_same (.checkEnd s idx) (State.checkEnd_same s idx (.refl 4096) (.refl 4096 s)) (by decide)

theorem drainStreams (s : State) : FarKept s s.drainStreams := of_same (.drainStreams s) (State.drainStreams_same s (.refl 12585506) (.refl 12585506 s)) (by decide)

theorem dropTag (s : State) (n : Nat) : FarKept s (s.dropTag n) := of_same (.dropTag s n) (State.dropTag_same s n (.refl 4456450) (.refl 4456450 s)) (by decide)

theorem loseNode (s : State) (b a : Nat) : FarKept s (s.loseNode b a) :=
  of_same (.loseNode s b a) (State.loseNode_same s b a (.refl 14424610) (.refl 14424610 s)) (by decide)

theorem dropTxns (s : State) (txns : List TxnS) : FarKept s { s with psc := { s.psc with txns := txns } } := ⟨.of_regs rfl, rfl⟩

end FarKept

/-- t numbers the cycles of bus b as s does, and holds the supplies of the banks. -/
structure NumberKept (b : Nat) (s t : State) : Prop where
  no : t.g (CRS_BCYCNO b) = s.g (CRS_BCYCNO b)
  sent : (t.bus b).sent = (s.bus b).sent
  vio : t.sys.vio = s.sys.vio

namespace NumberKept

variable {b : Nat}

theorem refl (s : State) : NumberKept b s s := ⟨rfl, rfl, rfl⟩

theorem trans {s t u : State} (h : NumberKept b s t) (h' : NumberKept b t u) : NumberKept b s u :=
  ⟨h'.no.trans h.no, h'.sent.trans h.sent, h'.vio.trans h.vio⟩

theorem ite {c : Prop} [Decidable c] {s t u : State} (h : NumberKept b s t) (h' : NumberKept b s u) : NumberKept b s (if c then t else u) := by
  split
  · exact h
  · exact h'

theorem foldl {α : Type} {op : State → α → State} {l : List α} (hop : ∀ s, ∀ x ∈ l, NumberKept b s (op s x)) (s : State) :
    NumberKept b s (l.foldl op s) :=
  List.foldlRecOn (motive := fun t => NumberKept b s t) _ _ (refl s) fun t h x hx => h.trans (hop t x hx)

theorem of_far (hb : b < 64) {s t : State} (h : FarKept s t) : NumberKept b s t :=
  ⟨h.field.g (.inl (by simp; omega)), by rw [State.bus, State.bus, h.crs], by rw [h.field.sys]⟩

theorem setNode (s : State) (c a : Nat) (n : NodeS) : NumberKept b s (s.setNode c a n) := ⟨rfl, rfl, rfl⟩

theorem f (s : State) {x : Fld} (h : x.off ≠ 0x1014 + 0x80 * b) (v : Nat) : NumberKept b s (s.f x v) :=
  ⟨by rw [State.g, State.g, State.rd_f_ne s v h.symm], rfl, rfl⟩

theorem inc (s : State) {x : Fld} (h : x.off ≠ 0x1014 + 0x80 * b) : NumberKept b s (s.inc x) := f s h _

theorem setBus (s : State) {x : BusS} (h : x.sent = (s.bus b).sent) : NumberKept b s (s.setBus b x) :=
  ⟨rfl, by rw [State.bus_setBus_self, h], rfl⟩

theorem slotEnd (hb : b < 64) (s : State) (a : Nat) : NumberKept b s (State.slotEnd b s a) := by
  have hmiss : NumberKept b s ((s.setNode b a { s.node b a with ended := true }).inc (CRS_NMISS b a)) :=
    (setNode s b a _).trans (inc _ (by simp; omega))
  have hclean : ∀ t : State, NumberKept b t (if (s.node b a).prob.isSome then t.f (CRS_NSTS_CLEAN b a) 0 else t) := fun t =>
    ite (f t (by simp; omega) 0) (refl t)
  unfold State.slotEnd
  refine ite (refl s) (ite (setNode s b a _) (ite (hmiss.trans (hclean _)) (ite ?_ ?_)))
  · exact ((hmiss.trans (hclean _)).trans (inc _ (by simp))).trans (of_far hb (.loseNode _ b a))
  · exact (hmiss.trans (hclean _)).trans (setBus _ rfl)

theorem subEnd (hb : b < 64) (s : State) (a : Nat) : NumberKept b s (State.subEnd b s a) := by
  unfold State.subEnd
  dsimp only
  split
  · exact refl s
  · exact ((setNode s b a _).trans (inc _ (by simp))).trans (of_far hb (.loseNode _ b a))

theorem closeCycle (hb : b < 64) (s : State) : NumberKept b s (s.closeCycle b) := by
  unfold State.closeCycle
  refine ite (refl s) (NumberKept.trans ?_ (setBus _ rfl))
  refine NumberKept.trans ?_ (foldl (fun s a _ => ite (refl s) (setNode s b a _)) _)
  refine NumberKept.trans ?_ (foldl (fun s a _ => subEnd hb s a) _)
  refine NumberKept.trans ?_ (ite (refl _) (foldl (fun s y _ => (inc s (by simp)).trans (of_far hb (.loseNode _ b _))) _))
  exact foldl (fun s a _ => slotEnd hb s a) s

theorem stepSkip (s : State) (c : Nat) : NumberKept b s (s.stepSkip b c) := by
  unfold State.stepSkip
  split
  · exact refl s
  · split
    · exact refl s
    · exact ite (f s (by simp) _) (refl s)

theorem dropPlan (hb : b < 64) (s : State) : NumberKept b s (s.dropPlan b) := by
  unfold State.dropPlan
  split
  · exact refl s
  · refine NumberKept.trans (setBus (x := { s.bus b with plan := none }) s rfl) (foldl (fun s x _ => of_far hb ?_) _)
    refine FarKept.trans ?_ (.drainStreams _)
    refine FarKept.trans ?_ (.checkEnd _ _)
    refine FarKept.trans ?_ (.modEnt _ _ _)
    refine FarKept.trans ?_ (.inc _ (x := PSC_LATE) (by decide))
    refine FarKept.trans ?_ (.missPolls _ _ _ _)
    exact (FarKept.dropTxns s _).trans (.dropTag _ _)

theorem busRate (s : State) (c : Nat) : NumberKept b s (s.busRate b c) := by
  unfold State.busRate
  refine ite (ite ?_ (refl s)) (ite (setBus s rfl) (ite (setBus s rfl) (refl s)))
  refine NumberKept.trans ?_ (f _ (by simp) 0)
  exact setBus s rfl

theorem then_plan {s t : State} (h : NumberKept b s t) (plan : Option (Nat × List (Nat × Nat))) :
    NumberKept b s (t.setBus b { t.bus b with plan := plan }) := h.trans (setBus t rfl)

theorem commitCycle (hb : b < 64) (s : State) (c : Nat) : NumberKept b s (s.commitCycle b c) := by
  unfold State.commitCycle
  refine then_plan (of_far hb ?_) _
  refine FarKept.trans ?_ (.ite (.refl _) (.incBy _ (x := PSC_NOFIT) (by decide) _))
  refine FarKept.trans ?_ (.foldl (fun s (x : Nat × Nat) => .missOnce s x.1 x.2) _ _)
  refine FarKept.trans ?_ (.ite (.foldl (fun s (e : EntS) => .modEnt s e.idx _) _ _) (.refl _))
  refine FarKept.trans ?_ (.foldl (fun s (e : EntS) => .reachCut s e.idx) _ _)
  refine FarKept.trans ?_ (.commitEnts b c _ _ _)
  refine FarKept.trans (.passMissed s) (.foldl (fun s e => ?_) _ _)
  exact .ite (.modEnt s e.idx _) (.times (fun s => .lateOne s e.idx) _ s)

theorem planNow (hb : b < 64) (s : State) (c : Nat) : NumberKept b s (s.planNow b c) := by
  unfold State.planNow
  have hdrop : NumberKept b s (if ((s.bus b).plan.map Prod.fst) = some c then s else s.dropPlan b) := ite (refl s) (dropPlan hb s)
  exact ite (hdrop.trans (busRate _ c)) ((hdrop.trans (busRate _ c)).trans (commitCycle hb _ c))

end NumberKept

end Sys2Proof.Machine
end

section
/-! The cycle of a course bus (obligation O27). -/
set_option Elab.async false
namespace Sys2Proof.Machine

/-! A bus enabled and disabled. -/

theorem State.busCfgWrite_on {s : State} {b : Nat} {v : Word} (hen : wbit v 0 = true) (hwatch : wbit v 2 = false) (hwas : s.on (CRS_BCFG_EN b) = false)
    (hfits : (s.store rCRS_BCFG b 0 v).busFits b = true) : s.busCfgWrite b v = (s.store rCRS_BCFG b 0 v).setBus b
      { (s.store rCRS_BCFG b 0 v).bus b with
        from_ := some (s.elapsed + 10000), fresh := true, cur := none, prev := none, lay := (s.store rCRS_BCFG b 0 v).layoutOf b [] } := by
  unfold State.busCfgWrite
  simp [hen, hwatch, hwas, hfits]

theorem State.busCfgWrite_off {s : State} {b : Nat} {v : Word} (hen : wbit v 0 = false) (hwatch : wbit v 2 = false) (hwas : s.on (CRS_BCFG_EN b) = true)
    (hsame : wbits v 23 4 = wbits (s.rd (rCRS_BCFG.at b 0)) 23 4) : s.busCfgWrite b v =
      ((s.store rCRS_BCFG b 0 v).haltBus b).setBus b { ((s.store rCRS_BCFG b 0 v).haltBus b).bus b with from_ := none } := by
  unfold State.busCfgWrite
  simp [hen, hwatch, hwas, hsame]

theorem State.store_busEn (s : State) (b : Nat) (v : Word) : (s.store rCRS_BCFG b 0 v).on (CRS_BCFG_EN b) = wbit v 0 := by
  have hg : (s.store rCRS_BCFG b 0 v).g (CRS_BCFG_EN b) = wbits v 0 0 :=
    State.store_g (r := rCRS_BCFG) (F := CRS_BCFG_EN b) (by decide) (by simp [Reg.at, rCRS_BCFG]) ⟨⟨0, 0, .rw, 0, .any⟩, by decide, rfl, rfl, .inl rfl⟩ s v
  rw [State.on, hg, wbits_bit]
  cases wbit v 0 <;> rfl

theorem State.removeNode_holds_of {s : State} {b a c : Nat} (h : a = c ∨ s.holds b a = false) : (s.removeNode b c).holds b a = false := by
  by_cases he : a = c
  · rw [he]
    exact s.removeNode_holds b c
  · rw [State.holds, State.node, State.removeNode_nodes, Tbl.get_set_ne _ _ (by omega)]
    exact h.resolve_left he

theorem State.removeNodes_holds {b a : Nat} (l : List Nat) : ∀ s : State, a ∈ l ∨ s.holds b a = false →
    (l.foldl (fun s a => s.removeNode b a) s).holds b a = false := by
  induction l with
  | nil => exact fun s h => h.resolve_left List.not_mem_nil
  | cons c l ih =>
    intro s h
    refine ih _ ?_
    rw [List.mem_cons, or_assoc] at h
    rcases h with h | h | h
    · exact .inr (State.removeNode_holds_of (.inl h))
    · exact .inl h
    · exact .inr (State.removeNode_holds_of (.inr h))

theorem State.removeNodes_rd {b o : Nat} (ho : o < 0x4000) (hne : o ≠ 0x104C + 0x80 * b) (l : List Nat) (s : State) :
    (l.foldl (fun s a => s.removeNode b a) s).rd o = s.rd o :=
  List.foldlRecOn (motive := fun t : State => t.rd o = s.rd o) _ _ rfl fun (t : State) ht a _ => (t.removeNode_rd b a ho hne).trans ht

/-- The bus, idle as it is before its first cycle. -/
def State.idleBus (s : State) (b : Nat) : State :=
  s.setBus b { s.bus b with
    cur := none, prev := none, plan := none, adm := none, lchg := none, relay := false, cmds := [], corr := [], drops := [], lost := [],
    bad := [], passed := [], devs := [], joinOpen := false, joinres := 0, quiet := 0, watch := false, back := none
    lay := s.layoutOf b [] }

theorem State.haltBus_eq (s : State) (b : Nat) : s.haltBus b = (((((s.heldAddrs b).foldl (fun s a => s.removeNode b a) s).idleBus b).endAdm b).zero
    [CRS_BSTS_RUNNING b, CRS_BSTS_HOLD b, CRS_BSTS_LAYOUTPEND b, CRS_BSTS_WATCHRATE b]) := rfl

theorem State.haltBus_crs (s : State) (b : Nat) :
    (s.haltBus b).crs = ((((s.heldAddrs b).foldl (fun s a => s.removeNode b a) s).idleBus b).endAdm b).crs := by
  rw [State.haltBus_eq, State.zero_eq]

theorem State.haltBus_holds (s : State) {b a : Nat} (ha : a < 32) : (s.haltBus b).holds b a = false := by
  have hremoved := State.removeNodes_holds (b := b) (a := a) (s.heldAddrs b) s (by
    cases h : s.holds b a with
    | true => exact .inl (List.mem_filter.2 ⟨List.mem_range.2 ha, h⟩)
    | false => exact .inr rfl)
  rw [State.holds, State.node, State.haltBus_crs]
  exact hremoved

theorem State.endAdm_bus (s : State) (b : Nat) : (s.endAdm b).bus b = { s.bus b with adm := none } := by
  rw [State.bus, State.endAdm, State.f_crs, State.f_crs, ← State.bus, State.bus_setBus_self]

theorem State.haltBus_cur (s : State) (b : Nat) : ((s.haltBus b).bus b).cur = none := by
  rw [State.bus, State.haltBus_crs, ← State.bus, State.endAdm_bus, State.idleBus, State.bus_setBus_self]

theorem State.haltBus_running (s : State) (b : Nat) : (s.haltBus b).on (CRS_BSTS_RUNNING b) = false := by
  have hzero := State.zero_g ((((s.heldAddrs b).foldl (fun s a => s.removeNode b a) s).idleBus b).endAdm b)
    [CRS_BSTS_RUNNING b, CRS_BSTS_HOLD b, CRS_BSTS_LAYOUTPEND b, CRS_BSTS_WATCHRATE b] (by simp [Fld.fits]) (by simp [Fld.apart]) (CRS_BSTS_RUNNING b)
    List.mem_cons_self
  rw [State.on, State.haltBus_eq, hzero]
  rfl

theorem State.haltBus_en (s : State) {b : Nat} (hb : b < 64) : (s.haltBus b).on (CRS_BCFG_EN b) = s.on (CRS_BCFG_EN b) := by
  have hrd : (s.haltBus b).rd (0x1000 + 0x80 * b) = s.rd (0x1000 + 0x80 * b) := by
    rw [State.haltBus_eq, State.zero_rd (by simp), State.endAdm, State.rd_f_ne _ _ (by simp), State.rd_f_ne _ _ (by simp)]
    exact State.removeNodes_rd (by omega) (by omega) _ s
  rw [State.on, State.on, State.g, State.g, hrd]

/-! Slots and the GRANT. -/

theorem State.cur_of_passed {s : State} {b bit : Nat} (h : s.bitPassed b bit = true) : (s.bus b).cur.isNone = false := by
  unfold State.bitPassed at h
  split at h
  · next hcur =>
    rw [hcur]
    rfl
  · exact absurd h Bool.false_ne_true

theorem State.slotEnd_ok {s : State} {b a : Nat} (hadm : s.on (CRS_NSTS_ADMITTED b a) = true) (hended : (s.node b a).ended = false)
    (hcur : (s.bus b).cur.isNone = false) (hok : (s.node b a).ok = true) :
    State.slotEnd b s a = s.setNode b a { s.node b a with ended := true } := by
  unfold State.slotEnd
  simp [hadm, hended, hcur, hok]

/-- The transactions of a node rest on the scheduler, the bus, the node's identity and the endpoints. -/
theorem State.nodeTxns_of {s t : State} {b a : Nat} (hpsc : t.psc = s.psc) (hept : t.ept = s.ept) (hbus : t.bus b = s.bus b)
    (hid : (t.node b a).id = (s.node b a).id) : t.nodeTxns b a = s.nodeTxns b a := by
  unfold State.nodeTxns State.ent State.ep
  rw [hpsc, hept, hbus, hid]

theorem State.nodeTxns_ended (s : State) {b a : Nat} {n : NodeS} (h : n.id = (s.node b a).id) (x : Fld) :
    ((s.setNode b a n).inc x).nodeTxns b a = s.nodeTxns b a :=
  State.nodeTxns_of rfl rfl rfl ((congrArg NodeS.id (State.node_setNode_self s b a n)).trans h)

theorem State.slotEnd_missed {s : State} {b a : Nat} (hadm : s.on (CRS_NSTS_ADMITTED b a) = true) (hended : (s.node b a).ended = false)
    (hcur : (s.bus b).cur.isNone = false) (hok : (s.node b a).ok = false) (hprob : (s.node b a).prob = none) (htxns : s.nodeTxns b a = []) :
    State.slotEnd b s a = (s.setNode b a { s.node b a with ended := true }).inc (CRS_NMISS b a) := by
  have hnone := (s.nodeTxns_ended (b := b) (a := a) (n := { s.node b a with ended := true }) rfl (CRS_NMISS b a)).trans htxns
  have hclean : ∀ t : State, (if (s.node b a).prob.isSome = true then t.f (CRS_NSTS_CLEAN b a) 0 else t) = t := fun t =>
    if_neg (by rw [hprob]; decide)
  unfold State.slotEnd
  dsimp only
  rw [if_neg (by simp [hadm, hended, hcur]), if_neg (by simp [hok]), hclean, if_pos (.inr (by rw [hnone]; rfl))]

/-- t holds of bus b that its GRANT is decided, and no frame of it is lost. -/
structure Decided (b : Nat) (t : State) : Prop where
  granted : (t.bus b).granted = true
  lost : (t.bus b).lost = []

theorem Decided.of_bus {b : Nat} {s t : State} (h : Decided b s) (hbus : t.bus b = s.bus b) : Decided b t := ⟨by rw [hbus, h.granted], by rw [hbus, h.lost]⟩

theorem Decided.foldl {α : Type} {b : Nat} {op : State → α → State} (hop : ∀ s x, (op s x).bus b = s.bus b) (l : List α) {s : State} (h : Decided b s) :
    Decided b (l.foldl op s) :=
  List.foldlRecOn (motive := fun t => Decided b t) _ _ h fun _ ht x _ => ht.of_bus (hop _ x)

theorem State.grant_decided (s : State) (b : Nat) : Decided b (s.grant b) := by
  have hset : ∀ t : State, ∀ x : BusS, Decided b (t.setBus b { x with granted := true, lost := [] }) := fun t x =>
    ⟨by rw [State.bus_setBus_self], by rw [State.bus_setBus_self]⟩
  have hlost : ∀ (t : State) (y : Nat × Nat × Int), ((t.inc (CRS_BSPAREFULL b)).loseNode b y.2.1).bus b = t.bus b := fun t y => by
    rw [State.bus, (FarKept.loseNode (t.inc (CRS_BSPAREFULL b)) b y.2.1).crs]
    rfl
  have hframe : ∀ (t : State) (n : Nat) (bytes : List Nat), (t.sendFrame b n bytes).bus b = t.bus b := fun t n bytes => by
    unfold State.sendFrame
    split <;> rfl
  unfold State.grant
  dsimp only
  split
  · refine Decided.foldl hlost _ (Decided.foldl (fun t m => ?_) _ (hset _ _))
    rfl
  · refine Decided.of_bus (Decided.foldl hlost _ (Decided.foldl (fun t m => ?_) _ (hset _ _))) (hframe _ _ _)
    rfl

/-! Layouts. -/

/-- A bus whose layout lay, of number lno, is to be taken up. -/
structure LayoutStands (b lno : Nat) (lay : LayT) (t : State) : Prop where
  lno : (t.bus b).lno = lno
  relay : (t.bus b).relay = false
  lchg : ∃ l, (t.bus b).lchg = some l ∧ l.lay = lay

theorem LayoutStands.nodeCmd {b lno : Nat} {lay : LayT} {t : State} (h : LayoutStands b lno lay t) (a : Nat) (c : NcmdS) :
    LayoutStands b lno lay (t.nodeCmd b a c) := by
  obtain ⟨hlno, hrelay, hlchg⟩ := h
  exact ⟨by rw [State.nodeCmd_bus, hlno], by rw [State.nodeCmd_bus, hrelay], by rw [State.nodeCmd_bus]; exact hlchg⟩

theorem State.startLayout_stands {s : State} {b : Nat} (h : (s.bus b).lchg = none) :
    LayoutStands b (((s.bus b).lno + 1) % 256) (s.layoutOf b (s.wanted b)) (s.startLayout b) := by
  have hkept : s.abandonLayout b = s := by
    unfold State.abandonLayout
    rw [h]
  unfold State.startLayout
  rw [hkept]
  dsimp only
  rw [if_neg (by rw [h]; decide)]
  refine List.foldlRecOn (motive := fun t => LayoutStands b _ _ t) _ _ ?_ fun t ht x _ => ht.nodeCmd _ _
  exact ⟨by rw [State.bus_setBus_self], by rw [State.bus_setBus_self], by rw [State.bus_setBus_self]; exact ⟨_, rfl, rfl⟩⟩

/-! The beacon. -/

namespace FarKept

theorem finishId (s : State) (id : JobId) (o : DoneS) : FarKept s (s.finishId id o) :=
  of_same (.finishId s id o) (State.finishId_same s id o (.refl 12582946) (.refl 12582946 s)) (by decide)

theorem closeStreams (s : State) (code : Nat) (l : List StreamS) : FarKept s (s.closeStreams code l) :=
  of_same (.closeStreams s code l) (State.closeStreams_same s code l (.refl 14162466) (.refl 14162466 s)) (by decide)

theorem endInst (s : State) (n : Nat) : FarKept s (s.endInst n) := of_same (.endInst s n) (State.endInst_same s n (.refl 3407874) (.refl 3407874 s)) (by decide)

theorem chOff (s : State) (n : Nat) : FarKept s (s.chOff n) := of_same (.chOff s n) (State.chOff_same s n (.refl 524290) (.refl 524290 s)) (by decide)

theorem setEp (s : State) (e : Nat) (r : EpS) : FarKept s (s.setEp e r) := ⟨.setEp s e r, rfl⟩

theorem setOwner (s : State) (e uid : Nat) : FarKept s (s.setOwner e uid) := ⟨.setOwner s e uid, rfl⟩

theorem entsEnd (s : State) (id : Nat) : FarKept s (s.entsEnd id) := ⟨.of_regs rfl, rfl⟩

theorem entWait (s : State) (id : Nat) : FarKept s (s.entWait id) := ⟨.of_regs rfl, rfl⟩

theorem bindNode (s : State) (id : Nat) : FarKept s (s.bindNode id) :=
  of_same (.bindNode s id) (State.bindNode_same s id (.refl 50076194) (.refl 50076194 s)) (by decide)

theorem entsBack (s : State) (id : Nat) : FarKept s (s.entsBack id) :=
  of_same (.entsBack s id) (State.entsBack_same s id (.refl 14162466) (.refl 14162466 s)) (by decide)

theorem nodeRecord (s : State) (code b a reason id d : Nat) : FarKept s (s.nodeRecord code b a reason id d) :=
  of_same (State.recordNode_field s _) (State.nodeRecord_same s code b a reason id d (.refl 12582946) (.refl 12582946 s)) (by decide)

end FarKept

namespace NumberKept

variable {b : Nat}

theorem then_resv {s t : State} (h : NumberKept b s t) (resv : List ResvS) : NumberKept b s { t with crs := { t.crs with resv := resv } } :=
  h.trans ⟨rfl, rfl, rfl⟩

theorem zero {l : List Fld} (h : ∀ x ∈ l, x.off ≠ 0x1014 + 0x80 * b) (s : State) : NumberKept b s (s.zero l) :=
  foldl (fun s x hx => f s (h x hx) 0) s

theorem wr (s : State) {o : Nat} (h : o ≠ 0x1014 + 0x80 * b) (v : Word) : NumberKept b s (s.wr o v) :=
  ⟨by rw [State.g, State.g, State.rd_wr_ne _ _ h.symm], rfl, rfl⟩

/-! Admission. -/

theorem releaseOld (hb : b < 64) (s : State) (id : Nat) : NumberKept b s (s.releaseOld id) := by
  unfold State.releaseOld
  refine then_resv (of_far hb ?_) _
  refine FarKept.trans ?_ (.foldl (fun s e => (FarKept.setEp s e _).trans (.setOwner _ e 0)) _ _)
  refine FarKept.trans ?_ (.foldl FarKept.chOff _ _)
  refine FarKept.trans ?_ (.foldl (fun s (x : Nat × InstS) => .endInst s x.1) _ _)
  exact (FarKept.entsEnd s id).trans (.closeStreams _ clFLUSH _)

theorem takeRecs (hb : b < 64) (s : State) (id : Nat) (reps : List (List Nat)) : NumberKept b s (s.takeRecs id reps).1 := by
  unfold State.takeRecs
  split
  · exact of_far hb (.foldl (fun s (x : Nat × List Nat × Nat) => .setEp s x.1 _) _ _)
  · exact (releaseOld hb s id).trans (of_far hb (.foldl (fun s (x : Nat × List Nat × Nat) => .setEp s x.1 _) _ _))

theorem endAdm (s : State) : NumberKept b s (s.endAdm b) := by
  refine NumberKept.trans (NumberKept.trans ?_ (f _ (by simp) 0)) (f _ (by simp) 0)
  exact setBus s rfl

theorem flushCmds (hb : b < 64) (s : State) (a : Nat) : NumberKept b s (s.flushCmds b a) := by
  have hjob : ∀ (s : State) (j : Option JobId) (o : DoneS), NumberKept b s (match j with | some j => s.finishId j o | none => s) := by
    intro s j o
    split
    · exact of_far hb (.finishId s _ o)
    · exact refl s
  have hall : ∀ (l : List NcmdS) (s : State), NumberKept b s (l.foldl (fun s c => match c.job with
      | some j => s.finishId j { status := if c.resent then TIMEOUT else NOT_IN_STATE }
      | none => s) s) := fun l s => foldl (fun s c _ => hjob s c.job _) s
  unfold State.flushCmds
  dsimp only
  split
  · exact ((hjob s _ _).trans (hall _ _)).trans (setBus _ rfl)
  · exact (hall _ s).trans (setBus _ rfl)

theorem abandonLayout (s : State) : NumberKept b s (s.abandonLayout b) := by
  unfold State.abandonLayout
  split
  · exact ite (setBus s rfl) (refl s)
  · exact refl s

theorem unbind (hb : b < 64) (s : State) (a : Nat) : NumberKept b s (s.unbind b a) := by
  have hcut : NumberKept b s (if (s.bus b).laid a then (s.flushCmds b a).abandonLayout b else s.flushCmds b a) :=
    ite ((flushCmds hb s a).trans (abandonLayout _)) (flushCmds hb s a)
  unfold State.unbind
  dsimp only
  split
  · refine ite (NumberKept.trans ?_ (endAdm _)) (hcut.trans (setBus _ rfl))
    exact hcut.trans (setBus _ rfl)
  · exact hcut.trans (setBus _ rfl)

theorem clearNode (hb : b < 64) (s : State) (a : Nat) : NumberKept b s (s.clearNode b a) := by
  unfold State.clearNode
  exact (((setNode s b a {}).trans (zero (by simp; omega) _)).trans (wr _ (by omega) 0)).trans (wr _ (by omega) 0)

theorem removeNode (hb : b < 64) (s : State) (a : Nat) : NumberKept b s (s.removeNode b a) := by
  rw [State.removeNode_eq]
  exact ite ((unbind hb s a).trans (clearNode hb _ a)) (((unbind hb s a).trans (clearNode hb _ a)).trans (of_far hb (.entWait _ _)))

theorem refuse (hb : b < 64) (s : State) (reason id nonce addr : Nat) : NumberKept b s (s.refuse b reason id nonce addr) := by
  unfold State.refuse
  refine NumberKept.trans ?_ (setBus _ rfl)
  refine NumberKept.trans ?_ (ite (refl _) ⟨rfl, rfl, rfl⟩)
  refine NumberKept.trans ?_ (of_far hb (.nodeRecord _ _ _ _ _ _ _))
  refine NumberKept.trans (NumberKept.trans ?_ (f _ (by simp) _)) (f _ (by simp) _)
  exact (inc s (x := CRS_BREFUSED b) (by simp)).trans (f _ (by simp) reason)

theorem refuseAdm (hb : b < 64) (s : State) (reason : Nat) : NumberKept b s (s.refuseAdm b reason) := by
  unfold State.refuseAdm
  split
  · exact refl s
  · exact (refuse hb s _ _ _ _).trans (removeNode hb _ _)

theorem admDone (hb : b < 64) (s : State) : NumberKept b s (s.admDone b) := by
  unfold State.admDone
  split
  · exact refl s
  · refine ite (refuseAdm hb s _) ?_
    refine NumberKept.trans ?_ (of_far hb (.nodeRecord _ _ _ _ _ _ _))
    refine NumberKept.trans ?_ (of_far hb (.entsBack _ _))
    refine NumberKept.trans ?_ (of_far hb (.bindNode _ _))
    refine NumberKept.trans ?_ (inc _ (by simp))
    refine NumberKept.trans ?_ (endAdm _)
    refine NumberKept.trans ?_ (setNode _ _ _ _)
    exact (takeRecs hb s _ _).then_resv _

theorem admStep (s : State) (step : Nat) : NumberKept b s (s.admStep b step) := by
  have hset := setBus (b := b) s (x := { s.bus b with adm := (s.bus b).adm.map fun m => { m with step := step, busy := false, lno := none } }) rfl
  unfold State.admStep State.modAdm
  dsimp only
  split
  · exact (hset.trans (f _ (by simp) _)).trans (f _ (by simp) _)
  · exact hset

theorem layEffective (hb : b < 64) (s : State) : NumberKept b s (s.layEffective b) := by
  have hslots : ∀ (l : List (Nat × Nat × Nat)) (t : State), NumberKept b t (l.foldl (fun s t =>
      if s.holds b t.1 then ((s.f (CRS_NSTS_ADMITTED b t.1) 1).f (CRS_NSLOTST b t.1) t.2.1).f (CRS_NSLOTLEN b t.1) t.2.2 else s) t) := fun l t =>
    foldl (fun s x _ => ite (((f s (by simp; omega) 1).trans (f _ (by simp; omega) _)).trans (f _ (by simp; omega) _)) (refl s)) t
  have hpend : ∀ lay, NumberKept b s ((s.setBus b { s.bus b with lchg := none, lay := lay }).f (CRS_BSTS_LAYOUTPEND b) 0) := fun lay =>
    (setBus (x := { s.bus b with lchg := none, lay := lay }) s rfl).trans (f _ (by simp) 0)
  unfold State.layEffective
  split
  · exact refl s
  · dsimp only
    split
    · exact ((hpend _).trans (hslots _ _)).trans (ite (ite (admStep _ 4) (ite (admDone hb _) (refl _))) (refl _))
    · exact (hpend _).trans (hslots _ _)

/-! Probation. -/

theorem showProb (s : State) (a : Nat) : NumberKept b s (s.showProb b a) := by
  have hzero : NumberKept b s (s.zero [CRS_NSTS_PROBATION b a, CRS_NSTS_INPLACE b a, CRS_NSTS_PROBPOS b a, CRS_NSTS_CLEAN b a]) :=
    zero (by simp; omega) s
  unfold State.showProb
  split
  · exact hzero
  · exact hzero
  · exact ((f s (by simp; omega) _).trans (f _ (by simp; omega) _)).trans (f _ (by simp; omega) _)

theorem probStart (s : State) (a : Nat) : NumberKept b s (State.probStart b s a) := by
  unfold State.probStart
  exact ite ((((setNode s b a _).trans (f _ (by simp; omega) 0)).trans (inc _ (by simp; omega))).trans (showProb _ a)) (setNode s b a _)

theorem probEnd (s : State) (a : Nat) : NumberKept b s (State.probEnd b s a) :=
  ite ((setNode s b a _).trans (showProb _ a)) (refl s)

theorem pickEffective (s : State) (no : Nat) : NumberKept b s (s.pickEffective b no) := by
  unfold State.pickEffective
  split
  · next l _ =>
    refine ite (NumberKept.trans ?_ (f _ (by simp) 1)) (refl s)
    exact setBus s rfl
  · exact refl s

theorem beaconPrep (hb : b < 64) (s : State) (c : Nat) : NumberKept b s (s.beaconPrep b c) := by
  have hplan : NumberKept b s (((s.closeCycle b).stepSkip b c).planNow b c) := ((closeCycle hb s).trans (stepSkip _ c)).trans (planNow hb _ c)
  have hlay : ∀ t : State, ∀ no, NumberKept b t (match (t.bus b).lchg with
      | some l => if l.eff = some no ∧ !(t.bus b).watch then t.layEffective b else t
      | none => t) := fun t no => by
    split
    · exact ite (layEffective hb t) (refl t)
    · exact refl t
  have hprob : ∀ (t : State) (k l : List Nat), NumberKept b t (k.foldl (State.probStart b) (l.foldl (State.probEnd b) t)) := fun t k l =>
    (foldl (fun s a _ => probEnd s a) t).trans (foldl (fun s a _ => probStart s a) _)
  unfold State.beaconPrep
  exact ite ((hplan.trans (hlay _ _)).trans (hprob _ _ _)) (((hplan.trans (hlay _ _)).trans (hprob _ _ _)).trans (pickEffective _ _))

end NumberKept

theorem State.beaconPrep_time (s : State) (b c : Nat) : (s.beaconPrep b c).time = s.time :=
  part_eq (State.beaconPrep_same s b c (.refl 50084390) (.refl 50084390 s)).time (by decide)

/-- t runs on bus b the cycle of s, and has sent what s had. -/
structure CycleKept (b : Nat) (s t : State) : Prop where
  cur : (t.bus b).cur = (s.bus b).cur
  out : ∀ o ∈ s.out, o ∈ t.out

namespace CycleKept

variable {b : Nat}

theorem refl (s : State) : CycleKept b s s := ⟨rfl, fun _ h => h⟩

theorem trans {s t u : State} (h : CycleKept b s t) (h' : CycleKept b t u) : CycleKept b s u :=
  ⟨h'.cur.trans h.cur, fun o ho => h'.out o (h.out o ho)⟩

theorem ite {c : Prop} [Decidable c] {s t u : State} (h : CycleKept b s t) (h' : CycleKept b s u) : CycleKept b s (if c then t else u) := by
  split
  · exact h
  · exact h'

theorem setBus (s : State) {x : BusS} (h : x.cur = (s.bus b).cur) : CycleKept b s (s.setBus b x) :=
  ⟨by rw [State.bus_setBus_self, h], fun _ h => h⟩

theorem setNode (s : State) (c a : Nat) (n : NodeS) : CycleKept b s (s.setNode c a n) := ⟨rfl, fun _ h => h⟩

theorem f (s : State) (x : Fld) (v : Nat) : CycleKept b s (s.f x v) := ⟨rfl, fun _ h => h⟩

theorem drew (s : State) : CycleKept b s s.drew := ⟨rfl, fun _ h => h⟩

theorem sendFrame (s : State) (c at_ : Nat) (bytes : List Nat) : CycleKept b s (s.sendFrame c at_ bytes) := by
  unfold State.sendFrame
  exact ite ⟨rfl, fun _ h => List.mem_cons_of_mem _ h⟩ (refl s)

theorem event (s : State) (p ct : Nat) : CycleKept b s (s.event p ct) := by
  have hsame := State.event_same s p ct (.refl 1026) (.refl 1026 s)
  refine ⟨?_, fun o ho => ?_⟩
  · rw [State.bus, State.bus, part_eq hsame.crs (by decide)]
  · rw [part_eq hsame.out (by decide)]
    exact ho

theorem sendCmd (s : State) (no at_ : Nat) (c : NcmdS) (t : Nat) : CycleKept b s (s.sendCmd b no at_ c t).1 := by
  unfold State.sendCmd
  dsimp only
  have hsent : CycleKept b s (if c.who = 3 then s.sendFrame b t c.bytes else (s.sendFrame b t c.bytes).setNode b c.addr
      { (s.sendFrame b t c.bytes).node b c.addr with wait := some { c with cyc := no, at_ := at_ + 10 * (t + frameBits (20 + c.param.length)) } }) :=
    ite (sendFrame s b t _) ((sendFrame s b t _).trans (setNode _ _ _ _))
  exact ite (hsent.trans (setBus _ rfl)) hsent

theorem sendCmds (no at_ : Nat) (l : List NcmdS) : ∀ s pos keep, CycleKept b s (State.sendCmds b no at_ l s pos keep).1 := by
  induction l with
  | nil => exact fun s _ _ => refl s
  | cons c l ih =>
    intro s pos keep
    rw [State.sendCmds]
    split
    · exact ih _ _ _
    · exact (sendCmd s no at_ c pos).trans (ih _ _ _)

theorem beaconCmds (s : State) (no at_ next : Nat) (l : List NcmdS) : CycleKept b s (s.beaconCmds b no at_ next l) := by
  have hsent : CycleKept b s (if (s.bus b).watch then (s, l) else State.sendCmds b no at_ l s next []).1 := by
    split
    · exact refl s
    · exact sendCmds no at_ l s next []
  exact hsent.trans (setBus _ rfl)

theorem beaconSent (s : State) (c no : Nat) : CycleKept b s (s.beaconSent b c no) := by
  unfold State.beaconSent
  exact ((((f s _ no).trans (f _ _ _)).trans ((f _ _ _).trans (f _ _ _))).trans (f _ _ _)).trans (event _ _ _)

end CycleKept

theorem State.openCycle_cur (s : State) (b : Nat) (cyc : CycS) (offer : Bool) : ((s.openCycle b cyc offer).bus b).cur = some cyc := by
  unfold State.openCycle
  refine List.foldlRecOn (motive := fun t : State => (t.bus b).cur = some cyc) _ _ ?_ fun t ht a _ => ht
  rw [State.bus_setBus_self]

theorem State.openCycle_out (s : State) (b : Nat) (cyc : CycS) (offer : Bool) : (s.openCycle b cyc offer).out = s.out := by
  unfold State.openCycle
  exact List.foldlRecOn (motive := fun t : State => t.out = s.out) _ _ rfl fun t ht a _ => ht

theorem State.beaconSent_shows (s : State) {b no : Nat} (hb : b < 64) (c : Nat) (hno : no < 2 ^ 32) :
    (s.beaconSent b c no).on (CRS_BSTS_RUNNING b) = true ∧ (s.beaconSent b c no).g (CRS_BCYCNO b) = no := by
  unfold State.beaconSent State.inc State.incBy
  dsimp only
  constructor
  · rw [State.on, (FieldKept.event _ _ _).g (.inl (by simp; omega)), State.g_f_apart _ (by simp [Fld.fits]) _ (by simp [Fld.apart]),
      State.g_f_apart _ (by simp [Fld.fits]) _ (by simp [Fld.apart]), State.g_f_lt _ (by simp [Fld.fits]) (by simp)]
    rfl
  · rw [(FieldKept.event _ _ _).g (.inl (by simp; omega)), State.g_f_apart _ (by simp [Fld.fits]) _ (by simp [Fld.apart]),
      State.g_f_apart _ (by simp [Fld.fits]) _ (by simp [Fld.apart]), State.g_f_apart _ (by simp [Fld.fits]) _ (by simp [Fld.apart]),
      State.g_f_apart _ (by simp [Fld.fits]) _ (by simp [Fld.apart]), State.g_f_lt _ (by simp [Fld.fits]) hno]

theorem State.cycleNo_prep {b : Nat} (hb : b < 64) (s : State) (c : Nat) :
    (s.beaconPrep b c).cycleNo b = if (s.bus b).sent then (s.g (CRS_BCYCNO b) + 1) % 2 ^ 32 else 0 := by
  have hkept := NumberKept.beaconPrep hb s c
  rw [State.cycleNo, hkept.sent, hkept.no]

/-- The cycle that the beacon at c opens. -/
def State.cycleAt (s : State) (b c : Nat) : CycS :=
  { no := s.cycleNo b, ref := c, len := s.cycLen b, sa := s.beaconPlan b, at_ := s.elapsed - (s.ct - c), steps := s.time.stepSum }

/-- The beacon has been sent and its cycle is open. -/
def State.beaconOpen (s : State) (b c : Nat) : State :=
  ((if (s.bus b).joinres = 2 then s.inc (CRS_BJOINCOLL b) else s).sendFrame b 0 (s.beaconBytes b c)).openCycle b (s.cycleAt b c) (s.joinOffer b)

theorem State.beacon_eq (s : State) (b c : Nat) : s.beacon b c =
    ((if ((s.beaconPrep b c).firstCmds b).isEmpty then (s.beaconPrep b c).beaconOpen b c else ((s.beaconPrep b c).beaconOpen b c).drew).beaconCmds b
      ((s.beaconPrep b c).cycleNo b) ((s.beaconPrep b c).elapsed - ((s.beaconPrep b c).ct - c)) ((s.beaconPrep b c).afterBeacon b)
      ((s.beaconPrep b c).firstCmds b ++ ((s.beaconPrep b c).bus b).cmds)).beaconSent b c ((s.beaconPrep b c).cycleNo b) := rfl

theorem State.cycleNo_lt (s : State) (b : Nat) : s.cycleNo b < 2 ^ 32 := by
  unfold State.cycleNo
  split <;> omega

theorem State.beaconOpen_effect {s : State} {b : Nat} (hvio : s.vioOn (b / 8) = true) (c : Nat) :
    ((s.beaconOpen b c).bus b).cur = some (s.cycleAt b c) ∧ ∃ bytes, Out.frame b 0 bytes ∈ (s.beaconOpen b c).out := by
  refine ⟨State.openCycle_cur _ b _ _, lineGroups (withCrc (s.beaconBytes b c)), ?_⟩
  have hsupply : (if (s.bus b).joinres = 2 then s.inc (CRS_BJOINCOLL b) else s).vioOn (b / 8) = true := by
    split <;> exact hvio
  rw [State.beaconOpen, State.openCycle_out, State.sendFrame, if_pos hsupply]
  exact List.mem_cons_self

/-- A beacon shows its number, opens its cycle and is on the line. -/
theorem State.beacon_effect {s : State} {b : Nat} (hb : b < 64) (hvio : s.vioOn (b / 8) = true) (c : Nat) :
    (s.beacon b c).on (CRS_BSTS_RUNNING b) = true ∧ (s.beacon b c).g (CRS_BCYCNO b) = (s.beaconPrep b c).cycleNo b ∧
      ((s.beacon b c).bus b).cur = some ((s.beaconPrep b c).cycleAt b c) ∧ ∃ bytes, Out.frame b 0 bytes ∈ (s.beacon b c).out := by
  have hsupply : (s.beaconPrep b c).vioOn (b / 8) = true := by
    rw [State.vioOn, (NumberKept.beaconPrep hb s c).vio]
    exact hvio
  obtain ⟨hcur, bytes, hout⟩ := State.beaconOpen_effect hsupply c
  have hopen : CycleKept b ((s.beaconPrep b c).beaconOpen b c)
      (if ((s.beaconPrep b c).firstCmds b).isEmpty then (s.beaconPrep b c).beaconOpen b c else ((s.beaconPrep b c).beaconOpen b c).drew) :=
    .ite (.refl _) (.drew _)
  have hsent : CycleKept b ((s.beaconPrep b c).beaconOpen b c) (s.beacon b c) := by
    rw [State.beacon_eq]
    exact hopen.trans ((CycleKept.beaconCmds _ _ _ _ _).trans (.beaconSent _ c _))
  have hshows : (s.beacon b c).on (CRS_BSTS_RUNNING b) = true ∧ (s.beacon b c).g (CRS_BCYCNO b) = (s.beaconPrep b c).cycleNo b := by
    rw [State.beacon_eq]
    exact State.beaconSent_shows _ hb c (State.cycleNo_lt _ b)
  obtain ⟨hrunning, hno⟩ := hshows
  exact ⟨hrunning, hno, hsent.cur.trans hcur, bytes, hsent.out _ hout⟩

theorem State.beaconPrep_elapsed (s : State) (b c : Nat) : (s.beaconPrep b c).elapsed = s.elapsed ∧ (s.beaconPrep b c).ct = s.ct := by
  have htime := s.beaconPrep_time b c
  constructor
  · rw [State.elapsed, State.elapsed, State.ct, State.ct, htime]
  · rw [State.ct, State.ct, htime]

theorem State.setBus_on (s : State) (b : Nat) (x : BusS) (f : Fld) : (s.setBus b x).on f = s.on f := rfl

theorem State.setBus_holds (s : State) (b : Nat) (x : BusS) (c a : Nat) : (s.setBus b x).holds c a = s.holds c a := rfl

/-- Settles O27: what a GRANT, a layout and a beacon show is kept by all that follows it, and the number of a cycle by all that precedes it. -/
theorem busCyclesComplete : Obligations.BusCyclesComplete := by
  unfold Obligations.BusCyclesComplete
  refine ⟨fun s b v hb h hen hwatch hwas hfits => ?_, fun s b v hb h hen hwatch hwas hsame => ?_, fun s b c hb hnext hruns hdue hvio => ?_,
    fun s b a _ _ hpassed hadm hended hok => ?_, fun s b a _ _ hpassed hadm hended hok hprob htxns => ?_, fun s b a m _ _ hsub hpassed => ?_,
    fun s b _ hspare hgranted hpassed => ?_, fun s b _ hruns hrelay hlchg => ?_, fun s b l c _ hlchg hwatch hnext heff hdue => ?_⟩
  · refine completes rfl ((State.barWrite_accepted h (by decide) _ _ _).trans (State.busCfgWrite_on hen hwatch hwas hfits)) ⟨?_, ?_, ?_, fun c hc => ?_⟩
    · rw [State.setBus_on, State.store_busEn, hen]
    · rw [State.bus_setBus_self]
    · rw [State.bus_setBus_self]
    · exact State.bus_setBus_ne _ _ hc
  · refine completes rfl ((State.barWrite_accepted h (by decide) _ _ _).trans (State.busCfgWrite_off hen hwatch hwas hsame)) ⟨?_, ?_, ?_, ?_, fun a ha => ?_⟩
    · rw [State.setBus_on, State.haltBus_en _ hb, State.store_busEn, hen]
    · rw [State.bus_setBus_self]
    · rw [State.bus_setBus_self]
      exact State.haltBus_cur _ b
    · rw [State.setBus_on, State.haltBus_running]
    · rw [State.setBus_holds, State.haltBus_holds _ ha]
  · obtain ⟨hrunning, hno, hcur, hout⟩ := State.beacon_effect hb hvio c
    obtain ⟨helapsed, hct⟩ := s.beaconPrep_elapsed b c
    refine ⟨s.beacon b c, ?_, hrunning, hno.trans (State.cycleNo_prep hb s c), ⟨_, hcur, rfl, ?_⟩, hout⟩
    · show execBeaconTransmit b s = _
      unfold execBeaconTransmit
      rw [hnext]
      dsimp only
      rw [if_pos (by simp [hruns, hdue])]
    · rw [State.cycleAt, helapsed, hct]
  · show execSlotEnd b a false s = _
    unfold execSlotEnd
    rw [if_neg Bool.false_ne_true, if_pos hpassed, State.slotEnd_ok hadm hended (State.cur_of_passed hpassed) hok]
  · show execSlotEnd b a false s = _
    unfold execSlotEnd
    rw [if_neg Bool.false_ne_true, if_pos hpassed, State.slotEnd_missed hadm hended (State.cur_of_passed hpassed) hok hprob htxns]
  · show execSlotEnd b a true s = _
    unfold execSlotEnd
    rw [if_pos rfl, hsub]
    dsimp only
    rw [if_pos hpassed, State.subEnd, hsub]
  · obtain ⟨hgrant, hlost⟩ := s.grant_decided b
    refine ⟨s.grant b, ?_, hgrant, hlost⟩
    show execGrant b s = _
    unfold execGrant
    rw [if_neg (by simp [hspare, hgranted, hpassed])]
  · obtain ⟨hlno, hrelayed, hstands⟩ := State.startLayout_stands hlchg
    refine ⟨s.startLayout b, ?_, hlno, hrelayed, hstands⟩
    show execLayoutChange b s = _
    unfold execLayoutChange
    rw [if_pos (by simp [hruns, hrelay, hlchg])]
  · show execLayoutEffective b s = _
    unfold execLayoutEffective
    rw [hlchg, hnext]
    dsimp only
    rw [if_pos ⟨by rw [hwatch]; rfl, heff, hdue⟩]

end Sys2Proof.Machine
end
